-- ==== Sys2Proof/Syntax.lean ====
section
/-! DEFINITION. The commands of the block: one constructor for each row of spec/opcode_table.json, with its operands. -/

namespace Sys2Proof

/-- Where an event arrives (R269): input i of tile t, the notification logic of its source, or the housekeeping start
input. -/
inductive Sink where
  | input (t : Fin 32) (i : Fin 16)
  | note
  | hkStart
  deriving DecidableEq, Repr

/-- A path of R30 over which software reaches the map: register entries, the management target, JTAG. -/
inductive Via where
  | genond | mgt | jtag
  deriving DecidableEq, Repr

/-- What reaches one tile's converters and acquisition in a frame (R106, R124, R241): the ten samples at RD_IN of the frame that
ends, as they were before clamping, whether the frame was dropped for want of room in the input FIFO, and that FIFO's fill. -/
structure TileFrame where
  samples : List Int
  drop : Bool
  fill : Nat
  deriving DecidableEq, Repr

/-- What the housekeeping converter meets in a conversion or a calibration (R421, R423, R430): the mean voltages over the integration in
nV, by channel code and before any divider, the voltage at HK_VREF in nV, the codes that a calibration measures for GND and REF at each gain,
and the junction temperature that the die diode gives in hundredths of a degree. -/
structure HkAnalog where
  volts : List Int
  vref : Int
  cal : List (Int × Int)
  temp : Int
  deriving DecidableEq, Repr

/-- A command of the block (the rows of spec/opcode_table.json, in their order). An operand is what the outside world supplies
to the command: which unit it concerns, a value written, bytes that arrive, a measurement. -/
inductive Instr where
  /-- PORESET_ASSERT (R443). PORESET_N is driven low and the whole device resets, except the fuses, PREV_STORM and a held Storm latch. -/
  | poresetAssert
  /-- PORESET_RELEASE (R449). PORESET_N rises and start-up begins. sel: BOOT_SEL; trip: a condition of Storm holds. -/
  | poresetRelease (sel : Fin 4) (trip : Bool)
  /-- VDDA_18_POWER_UP (R447). VDDA_18 powers up, which clears DEV.RESET_CAUSE.PREV_STORM. -/
  | vdda18PowerUp
  /-- REFCLK_DETECT (R449). REFCLK is detected; REFCLK_OK sets and the always-on domain, lane bring-up and PLL lock begin. -/
  | refclkDetect
  /-- REFCLK_LOSS (R34). REFCLK stops; REFCLK_OK clears, REFCLK_LOST sets and the time source fires. -/
  | refclkLoss
  /-- PLL_LOCK_ACQUIRED (R449). The converter PLL locks; PLL_LOCK sets and foreground calibration starts. -/
  | pllLockAcquired
  /-- PLL_LOCK_LOSS (R34). The converter PLL loses lock; PLL_LOCK clears, LOCK_LOST sets and the time source fires. -/
  | pllLockLoss
  /-- FOREGROUND_CALIBRATION_DONE (R449). Converter foreground calibration completes and CONV_CAL_DONE sets. -/
  | foregroundCalibrationDone
  /-- FABRIC_SETPOINT_REACHED (R449). The fabric regulators reach their setpoint and DEV.FABRIC starts reporting. ps: the handshake cycle measured. -/
  | fabricSetpointReached (ps : Fin 1024)
  /-- DEVICE_RESET_REQUEST (R445). A keyed write to DEV.RESET schedules a device reset 100 us later; any other write that sets DEVICE is ignored and logged. -/
  | deviceResetRequest (via : Via) (v : BitVec 32)
  /-- DEVICE_RESET (R445). The device reset begins: registers outside the always-on domain reset, TL, NT and the session clear, and start-up resumes at PLL lock. sel: BOOT_SEL. -/
  | deviceReset (sel : Fin 4)
  /-- TILE_RESET (R446). A write to DEV.TILE_RESET accepts or ignores the reset of each named tile. -/
  | tileReset (via : Via) (v : BitVec 32)
  /-- TILE_RESET_COMPLETE (R446). Once the acquisition unit leaves RECORDING and REARM, the tile aborts and returns to NOT_RELEASED. -/
  | tileResetComplete (t : Fin 32)
  /-- BOOT_GO (R448). DEV.BOOT.GO starts loading from flash or the host while the device waits. -/
  | bootGo (via : Via) (src : Bool)
  /-- MEMORY_TRAINING_RESUME (R450). Every enabled memory port has finished training, and the loader resumes with the frame it held. -/
  | memoryTrainingResume
  /-- TAP_RESET (R443). TRST_N resets the IEEE 1149.1 TAP only. -/
  | tapReset
  /-- FRAME_TICK (R35). At each frame boundary TL increments, NT adds INCR and the per-frame converter, integration and accounting work proceeds. frames: for each tile in turn, what reached its converters in the frame that ends. taken: the bytes that each DDR5 channel took from its capture writer's buffer in it. -/
  | frameTick (frames : List TileFrame) (taken : List Nat)
  /-- TL_LO_READ (R38). A read of TIME.TL_LO returns TL bits [31:0] and latches the upper half into TL_HI. -/
  | tlLoRead
  /-- CLK_SRC_WRITE (R33). A write that changes CLK_SRC relocks the PLL, recalibrates and ends the epoch, or is ignored while tiles are released. -/
  | clkSrcWrite (via : Via) (src : Bool)
  /-- EPOCH_ARM (R37). A write of ARM enables acceptance of the next EPOCH edge, or is ignored while a tile is released. -/
  | epochArm (via : Via)
  /-- EPOCH_EDGE (R36). An EPOCH rising edge is sampled and is accepted or ignored. -/
  | epochEdge (phase : Fin 500)
  /-- TL_ZERO_BOUNDARY (R36). 256 frames after the sampling edge, moved by DESKEW, TL becomes 0 and starts counting; NT_EPOCH is latched. -/
  | tlZeroBoundary
  /-- CLASP_ADMIT (R45). An entry arrives at a clasp and is checked for format, order and margin before it is admitted. The first entry staged for clasp c of tile t arrives. -/
  | claspAdmit (t : Fin 32) (c : Fin 33)
  /-- PAGE_WAIT_LATE (R73). A paged PLAY still waiting for a buffer within 12 frames of its stamp is taken and discarded as LATE. -/
  | pageWaitLate (t : Fin 32) (e : Fin 16)
  /-- PAGE_FETCH_DONE (R74). A page fetch completes into its buffer, or a parity error makes its PLAY a FORMAT fault. buf: the page buffer; bad: the words of the page whose command fails its address parity (R401). -/
  | pageFetchDone (t : Fin 32) (buf : Fin 16) (bad : List (Fin 512))
  /-- PAGE_FETCH_LATE (R74). A fetch not complete 1 frame before its stamp makes the PLAY a LATE fault. -/
  | pageFetchLate (t : Fin 32) (e : Fin 16)
  /-- LOW_WATER_READ (R52). A read of CLASP.LOW_WATER returns the smallest margin and reloads 0x1_FFFF. -/
  | lowWaterRead (t : Fin 32)
  /-- CURSOR_LO_READ (R58). A read of CLASP.CURSOR_LO returns the low half of the cursor and latches the high half. -/
  | cursorLoRead (t : Fin 32)
  /-- ABORT_GO (R56). A host write of CLASP.ABORT_CTRL.GO starts ABORT_FROM, or is ignored while an abort is BUSY. -/
  | abortGo (via : Via) (t : Fin 32)
  /-- ABORT_COMPLETE (R56). The abort completes, BUSY clears and ABORT_EFF records E. -/
  | abortComplete (t : Fin 32)
  /-- ABORT_BOUNDARY (R54). At the boundary of frame E the tile's engines stop and open windows are abandoned. -/
  | abortBoundary (t : Fin 32)
  /-- PLAY (R67). A PLAY takes effect at its stamp: it latches the template and starts the pulse, ending any earlier pulse. -/
  | play (t : Fin 32) (c : Fin 24)
  /-- STOP (R69). A STOP ends a held pulse, with zero output or the reverse half. -/
  | stop (t : Fin 32) (c : Fin 24)
  /-- PULSE_SPAN_END (R68). A pulse reaches the end of its span and its page buffer is freed. -/
  | pulseSpanEnd (t : Fin 32) (c : Fin 24)
  /-- FREQ (R62). A FREQ group loads a frequency word and its virtual-Z offset at the stamp. -/
  | freq (t : Fin 32) (e : Fin 16)
  /-- VZSET (R62). A VZSET group loads a virtual-Z offset. -/
  | vzset (t : Fin 32) (e : Fin 16)
  /-- VZADD (R62). A VZADD group adds to a virtual-Z offset modulo 2^32. -/
  | vzadd (t : Fin 32) (e : Fin 16)
  /-- TPL_LO (R62). A TPL_LO group loads words 0 and 1 of a template. -/
  | tplLo (t : Fin 32) (c : Fin 24)
  /-- TPL_HI (R62). A TPL_HI group loads words 2 and 3 of a template. -/
  | tplHi (t : Fin 32) (c : Fin 24)
  /-- QUIET (R82). A QUIET group declares a quiet window on the DAC that the engine feeds. -/
  | quiet (t : Fin 32) (e : Fin 16)
  /-- DCSET (R94). A DCSET group loads a flux engine's DC. -/
  | dcset (t : Fin 32) (e : Fin 8)
  /-- DCADD (R94). A DCADD group adds to DC with saturation. -/
  | dcadd (t : Fin 32) (e : Fin 8)
  /-- KDESC (R113). A KDESC group loads a kernel descriptor of an RD channel. -/
  | kdesc (t : Fin 32) (k : Fin 8)
  /-- WINDOW (R114). A WINDOW takes effect: it latches its descriptor, advances ROUND and begins integration. -/
  | window (t : Fin 32) (k : Fin 8)
  /-- RESULT_PRESENTATION (R119). The integrator presents a window's result to the facet unit. -/
  | resultPresentation (t : Fin 32) (k : Fin 8)
  /-- LOOKUP_RETURN (R178). The table word returns and the context publishes its four slots with a new ROUND. waitPs: the wait of the lookup for the port, in ps. -/
  | lookupReturn (u : Fin 2) (c : Fin 2) (parityOk : Bool) (waitPs : Nat)
  /-- TABLE_TIMEOUT (R177). TMO frames pass after a first capture without a launch, and the round is abandoned. -/
  | tableTimeout (u : Fin 2) (c : Fin 2)
  /-- TABLE_RESYNC (R177). CTRL.RESYNC sets each LAST_i to the round its slot now shows. -/
  | tableResync (u : Fin 2) (c : Fin 2)
  /-- ARMING_EFFECT (R164). A watcher arming takes effect at its boundary: captures clear and the slots are evaluated. -/
  | armingEffect (t : Fin 32)
  /-- LATE_POLICY (R169). At the boundary of frame S an unselected group takes its watcher's late policy, and DECISION_LATE fires. -/
  | latePolicy (t : Fin 32) (c : Fin 33)
  /-- FENCE_TIMEOUT (R171). A fence ends after TMO frames without a resolution and sets FENCE_LATE. -/
  | fenceTimeout (t : Fin 32)
  /-- C0_BLOCK (R363). A C0 block is received on a Brisol lane. copies: the payloads of the block as the lanes of link l delivered it, each with the index it came on. -/
  | c0Block (l : Fin 32) (copies : List (Fin 4 × BitVec 64))
  /-- WORD_FETCH (R193). The sequencer fetches a word, checks its parity and stamps it with the cursor advanced by DT. -/
  | wordFetch (t : Fin 32)
  /-- SEQ_NEXT (R195). The NEXT operation selects the successor. t: the tile whose present word has come to this step. -/
  | seqNext (t : Fin 32)
  /-- SEQ_JUMP (R195). The JUMP operation goes to TARGET. t: the tile whose present word has come to this step. -/
  | seqJump (t : Fin 32)
  /-- SEQ_BRANCH (R195). The BRANCH operation chooses its successor on COND. t: the tile whose present word has come to this step. -/
  | seqBranch (t : Fin 32)
  /-- SEQ_RETIF (R195). The RETIF operation returns if COND is true. t: the tile whose present word has come to this step. -/
  | seqRetif (t : Fin 32)
  /-- SEQ_LOOPB (R195). The LOOPB operation loops back to the stack top while COND holds. t: the tile whose present word has come to this step. -/
  | seqLoopb (t : Fin 32)
  /-- SEQ_CALL (R195). The CALL operation pushes a return address and goes to TARGET. t: the tile whose present word has come to this step. -/
  | seqCall (t : Fin 32)
  /-- SEQ_RET (R195). The RET operation pops the stack and goes there. t: the tile whose present word has come to this step. -/
  | seqRet (t : Fin 32)
  /-- SEQ_PUSH (R195). The PUSH operation pushes an address. t: the tile whose present word has come to this step. -/
  | seqPush (t : Fin 32)
  /-- SEQ_HALT (R195). The HALT operation records the restart address and drains the tile. t: the tile whose present word has come to this step. -/
  | seqHalt (t : Fin 32)
  /-- SEQ_ABORT (R195). The ABORT operation performs ABORT_FROM with F = cursor + DT and stamps the word at E. t: the tile whose present word has come to this step. -/
  | seqAbort (t : Fin 32)
  /-- SAFE (R220). A word with SAFE = 1 is a safe point at which attention and stops are handled. -/
  | safe (t : Fin 32)
  /-- FENCE (R171). FENCE = 1 stalls the sequencer until watcher DID resolves. -/
  | fence (t : Fin 32)
  /-- XY_PLAY (R199). An XY slot issues a PLAY entry. b: slot XYA (0) or XYB (1) of the present word of tile t. -/
  | xyPlay (t : Fin 32) (b : Fin 2)
  /-- XY_STOP (R199). An XY slot issues a STOP entry. b: slot XYA (0) or XYB (1) of the present word of tile t. -/
  | xyStop (t : Fin 32) (b : Fin 2)
  /-- XY_ZADD (R199). An XY slot issues a VZADD PARAM entry. b: slot XYA (0) or XYB (1) of the present word of tile t. -/
  | xyZadd (t : Fin 32) (b : Fin 2)
  /-- XY_ZSET (R199). An XY slot issues a VZSET PARAM entry. b: slot XYA (0) or XYB (1) of the present word of tile t. -/
  | xyZset (t : Fin 32) (b : Fin 2)
  /-- XY_QUIET (R199). An XY slot issues a QUIET PARAM entry. b: slot XYA (0) or XYB (1) of the present word of tile t. -/
  | xyQuiet (t : Fin 32) (b : Fin 2)
  /-- XY_PMEM (R200). An XY slot issues a PARAM entry whose body comes from data memory. b: slot XYA (0) or XYB (1) of the present word of tile t. -/
  | xyPmem (t : Fin 32) (b : Fin 2)
  /-- FLX_PLAY (R199). The FLX slot issues a PLAY entry. t: the tile whose present word has come to this step. -/
  | flxPlay (t : Fin 32)
  /-- FLX_STOP (R199). The FLX slot issues a STOP entry. t: the tile whose present word has come to this step. -/
  | flxStop (t : Fin 32)
  /-- FLX_DCADD (R199). The FLX slot issues a DCADD entry. t: the tile whose present word has come to this step. -/
  | flxDcadd (t : Fin 32)
  /-- FLX_DCSET (R199). The FLX slot issues a DCSET entry. t: the tile whose present word has come to this step. -/
  | flxDcset (t : Fin 32)
  /-- FLX_PMEM (R200). The FLX slot issues a PARAM entry from data memory. t: the tile whose present word has come to this step. -/
  | flxPmem (t : Fin 32)
  /-- RDO_PROBE (R202). RDO issues a probe PLAY for each channel in MASK. t: the tile whose present word has come to this step. -/
  | rdoProbe (t : Fin 32)
  /-- RDO_PSTOP (R202). RDO issues a probe STOP for each channel in MASK. t: the tile whose present word has come to this step. -/
  | rdoPstop (t : Fin 32)
  /-- RDO_WINDOW (R202). RDO issues a WINDOW entry for each channel in MASK. t: the tile whose present word has come to this step. -/
  | rdoWindow (t : Fin 32)
  /-- DEC_ARM (R203). DEC passes an ARM with count n to watcher DID. t: the tile whose present word has come to this step. -/
  | decArm (t : Fin 32)
  /-- DEC_ARMN (R203). DEC passes an ARM_NEXT to watcher DID. t: the tile whose present word has come to this step. -/
  | decArmn (t : Fin 32)
  /-- DEC_STAGE2 (R204). DEC marks the source slot's entries as alternatives of a pair. t: the tile whose present word has come to this step. -/
  | decStage2 (t : Fin 32)
  /-- DEC_STAGE4 (R204). DEC marks the source slot's entries as alternatives of a quad. t: the tile whose present word has come to this step. -/
  | decStage4 (t : Fin 32)
  /-- DSP_NOP (R139). The NOP operation does nothing. t: the tile whose present word has come to this step. -/
  | dspNop (t : Fin 32)
  /-- DSP_MOV (R139). The MOV operation copies A to DST. t: the tile whose present word has come to this step. -/
  | dspMov (t : Fin 32)
  /-- DSP_ADD (R139). The ADD operation adds lanes. t: the tile whose present word has come to this step. -/
  | dspAdd (t : Fin 32)
  /-- DSP_SUB (R139). The SUB operation subtracts lanes. t: the tile whose present word has come to this step. -/
  | dspSub (t : Fin 32)
  /-- DSP_MUL (R139). The MUL operation multiplies lanes. t: the tile whose present word has come to this step. -/
  | dspMul (t : Fin 32)
  /-- DSP_CMUL (R139). The CMUL operation multiplies complex lanes. t: the tile whose present word has come to this step. -/
  | dspCmul (t : Fin 32)
  /-- DSP_CMULJ (R139). The CMULJ operation multiplies by the conjugate. t: the tile whose present word has come to this step. -/
  | dspCmulj (t : Fin 32)
  /-- DSP_MAC (R139). The MAC operation accumulates a dot product. t: the tile whose present word has come to this step. -/
  | dspMac (t : Fin 32)
  /-- DSP_MSU (R139). The MSU operation subtracts a dot product. t: the tile whose present word has come to this step. -/
  | dspMsu (t : Fin 32)
  /-- DSP_PMAC (R139). The PMAC operation accumulates pairwise into A0 to A3. t: the tile whose present word has come to this step. -/
  | dspPmac (t : Fin 32)
  /-- DSP_CMAC (R139). The CMAC operation accumulates complex products into a pair. t: the tile whose present word has come to this step. -/
  | dspCmac (t : Fin 32)
  /-- DSP_CMACJ (R139). The CMACJ operation accumulates conjugate complex products. t: the tile whose present word has come to this step. -/
  | dspCmacj (t : Fin 32)
  /-- DSP_ACCUM (R139). The ACCUM operation adds the lanes at weight 1.0. t: the tile whose present word has come to this step. -/
  | dspAccum (t : Fin 32)
  /-- DSP_CACCUM (R139). The CACCUM operation adds one complex lane to a pair. t: the tile whose present word has come to this step. -/
  | dspCaccum (t : Fin 32)
  /-- DSP_PACC (R139). The PACC operation adds even lanes into A0 to A3. t: the tile whose present word has come to this step. -/
  | dspPacc (t : Fin 32)
  /-- DSP_ACCOUT (R142). The ACCOUT operation outputs a scaled accumulator. t: the tile whose present word has come to this step. -/
  | dspAccout (t : Fin 32)
  /-- DSP_CACCOUT (R142). The CACCOUT operation outputs a scaled accumulator pair. t: the tile whose present word has come to this step. -/
  | dspCaccout (t : Fin 32)
  /-- DSP_MAXI (R143). The MAXI operation searches for the maximum. t: the tile whose present word has come to this step. -/
  | dspMaxi (t : Fin 32)
  /-- DSP_MINI (R143). The MINI operation searches for the minimum. t: the tile whose present word has come to this step. -/
  | dspMini (t : Fin 32)
  /-- DSP_HIST (R144). The HIST operation increments a histogram bin. t: the tile whose present word has come to this step. -/
  | dspHist (t : Fin 32)
  /-- DSP_START (R137). FLG START clears the written accumulators before the operation. t: the tile whose present word has come to this step. -/
  | dspStart (t : Fin 32)
  /-- DSP_TEST (R138). FLG TEST updates Z, N and IDX. t: the tile whose present word has come to this step. -/
  | dspTest (t : Fin 32)
  /-- DSP_POP (R137). FLG POP removes the head of the input queue. t: the tile whose present word has come to this step. -/
  | dspPop (t : Fin 32)
  /-- IN_TIMEOUT (R152). A read of IN waiting TIMEOUT frames delivers ZERO tagged and sets IN_TIMEOUT. -/
  | inTimeout (t : Fin 32)
  /-- AGU_MOD (R145). The AGU MOD operation advances P by M. b: the address-generator slot of the present word of tile t. -/
  | aguMod (t : Fin 32) (b : Fin 2)
  /-- AGU_STEP (R145). The AGU STEP operation advances P by 16. b: the address-generator slot of the present word of tile t. -/
  | aguStep (t : Fin 32) (b : Fin 2)
  /-- AGU_RESET (R145). The AGU RESET operation sets P to B. b: the address-generator slot of the present word of tile t. -/
  | aguReset (t : Fin 32) (b : Fin 2)
  /-- AGU_LDP (R145). The AGU LDP operation loads P. b: the address-generator slot of the present word of tile t. -/
  | aguLdp (t : Fin 32) (b : Fin 2)
  /-- AGU_LDM (R145). The AGU LDM operation loads M. b: the address-generator slot of the present word of tile t. -/
  | aguLdm (t : Fin 32) (b : Fin 2)
  /-- AGU_LDB (R145). The AGU LDB operation loads B. b: the address-generator slot of the present word of tile t. -/
  | aguLdb (t : Fin 32) (b : Fin 2)
  /-- AGU_LDL (R145). The AGU LDL operation loads L. b: the address-generator slot of the present word of tile t. -/
  | aguLdl (t : Fin 32) (b : Fin 2)
  /-- EVT_TAKE (R206). EVT TAKE clears an input's pending latch and optionally its overrun flag. t: the tile whose present word has come to this step. -/
  | evtTake (t : Fin 32)
  /-- EVT_FIRE (R206). EVT FIRE fires one of the tile's own sources. t: the tile whose present word has come to this step. -/
  | evtFire (t : Fin 32)
  /-- QUE_PUSH (R207). QUE PUSH pushes data-memory bytes as an entry. t: the tile whose present word has come to this step. -/
  | quePush (t : Fin 32)
  /-- QUE_NOTE (R208). QUE NOTE pushes a margin report entry. t: the tile whose present word has come to this step. -/
  | queNote (t : Fin 32)
  /-- QUE_POP (R207). QUE POP removes the head entry into data memory and returns its credit. t: the tile whose present word has come to this step. -/
  | quePop (t : Fin 32)
  /-- CAP_ARM (R209). The CAP field issues an ARM capture entry. t: the tile whose present word has come to this step. -/
  | capArm (t : Fin 32)
  /-- CAP_FIRE (R209). The CAP field issues a FIRE capture entry. t: the tile whose present word has come to this step. -/
  | capFire (t : Fin 32)
  /-- CAP_DISARM (R209). The CAP field issues a DISARM capture entry. t: the tile whose present word has come to this step. -/
  | capDisarm (t : Fin 32)
  /-- CAP_SNAP (R209). The CAP field issues a SNAP capture entry. t: the tile whose present word has come to this step. -/
  | capSnap (t : Fin 32)
  /-- LOOP_LOAD (R210). LOOP LOAD sets a counter from VALUE. t: the tile whose present word has come to this step. -/
  | loopLoad (t : Fin 32)
  /-- LOOP_LOADI (R210). LOOP LOADI sets a counter from IMM. t: the tile whose present word has come to this step. -/
  | loopLoadi (t : Fin 32)
  /-- LOOP_DEC (R210). LOOP DEC decrements a counter, stopping at 0. t: the tile whose present word has come to this step. -/
  | loopDec (t : Fin 32)
  /-- CODE_SWAP (R320). At the first safe word at or after P, a running tile stalls while staged code is copied in, then continues at START. -/
  | codeSwap (t : Fin 32)
  /-- CODE_SWAP_COPY_DONE (R320). The staged code copy completes and the tile's SWAP_PEND bit clears. -/
  | codeSwapCopyDone (t : Fin 32)
  /-- HOST_STOP (R230). SEQ.CTRL.STOP requests a drain at the next safe word. -/
  | hostStop (via : Via) (t : Fin 32)
  /-- HOST_HALT (R230). SEQ.CTRL.HALT cuts the tile. -/
  | hostHalt (via : Via) (t : Fin 32)
  /-- SEQ_STEP (R230). SEQ.CTRL.STEP issues one word from RESTART. -/
  | seqStep (via : Via) (t : Fin 32) (resync : Bool)
  /-- SEQ_RESUME (R230). SEQ.CTRL.RESUME enters RUN at RESTART. -/
  | seqResume (via : Via) (t : Fin 32) (resync : Bool)
  /-- DRAIN_COMPLETE (R225). A draining tile with empty clasps, no open window and no pulse in its span passes to HALTED. -/
  | drainComplete (t : Fin 32)
  /-- ACQ_ARM (R247). An ARM capture entry takes effect and arms a class or makes it pending. -/
  | acqArm (t : Fin 32)
  /-- ACQ_FIRE (R243). A FIRE capture entry gives a trigger point at its stamp. -/
  | acqFire (t : Fin 32)
  /-- ACQ_DISARM (R247). A DISARM capture entry disarms the class. -/
  | acqDisarm (t : Fin 32)
  /-- ACQ_SNAP (R252). A SNAP records POST frames without a trigger, or is counted as lost. -/
  | acqSnap (t : Fin 32)
  /-- TRIG_IN_EDGE (R245). An edge at TRIG_IN is timestamped, or dropped within 4 ns of the previous edge. fall: a falling edge; step: 8 ps steps from the boundary of the present frame to the edge. -/
  | trigInEdge (i : Fin 8) (fall : Bool) (step : Fin 125)
  /-- RECORD_OPEN (R248). A record opens at its point, enters RECORDING and fires TRIG_FIRED. -/
  | recordOpen (t : Fin 32)
  /-- GROUP_SETTLE_END (R258). The settle time ends, and the record opens at the earliest point collected. -/
  | groupSettleEnd (t : Fin 32)
  /-- RECORDING_END (R250). The last post-trigger frame passes and the unit enters REARM. -/
  | recordingEnd (t : Fin 32)
  /-- REARM_END (R250). The ring drains: the descriptor is pushed, ACQ_DONE fires and the unit re-arms or idles. -/
  | rearmEnd (t : Fin 32)
  /-- TRIGGER_MESSAGE (R257). A fire-group ARM, DISARM or FIRE message arrives on the trigger line. -/
  | triggerMessage
  /-- TRIGGER_TOKEN (R259). A trigger token arrives on a link and is placed on the line and forwarded, or dropped. copies: the TRIG blocks of one token as the lanes of link l delivered them, each with the index it came on. -/
  | triggerToken (l : Fin 32) (copies : List (Fin 4 × BitVec 64))
  /-- DAC_CAL_STEP_DONE (R80). A 256-frame DAC calibration step completes, and a cycle may complete. -/
  | dacCalStepDone (t : Fin 32) (d : Fin 3)
  /-- CAL_STALE (R83). 10 s pass without a completed cycle and CAL_STALE sets. -/
  | calStale (t : Fin 32) (d : Fin 3)
  /-- ADC_CAL_STEP_DONE (R127). An ADC background calibration step completes. -/
  | adcCalStepDone (t : Fin 32)
  /-- ADC_CAL_STALE (R127). 10 s pass without a completed ADC cycle and CAL_STALE sets. -/
  | adcCalStale (t : Fin 32)
  /-- EVENT_EMIT (R265). A source emits one event for the firings held in its interval. -/
  | eventEmit (src : Fin 512)
  /-- EVENT_ARRIVAL (R269). An event passes a consumer input's arbiter: it acts, sets the latch or overruns. parityOk: whether the check of R265 passes at this consumer. others: the events that reach it in the same handshake cycle. -/
  | eventArrival (sink : Sink) (src : Fin 512) (parityOk : Bool) (others : List (Fin 512 × Bool))
  /-- EVENTS_EVT_FIRE (R271). A write to EVENTS.EVT_FIRE fires any source at generation 0 with SOFT. -/
  | eventsEvtFire (src : Fin 512)
  /-- DATAGRAM_RECEIVE (R298). An arriving Genond datagram passes its checks in order or is dropped. -/
  | datagramReceive (p : Fin 32) (pkt : List (BitVec 8))
  /-- CLAIM (R299). A claim raises the epoch, sets the owner and resends retained entries. p: the port it came on; addr, udp: the sender; reached: the address it was sent to. -/
  | claim (p : Fin 32) (v6 : Bool) (addr : BitVec 128) (reached : BitVec 128) (udp : BitVec 16)
  /-- REPLAY (R297). A REPLAY resends an outbound queue from FIRST_SEQ. -/
  | replay (q : Fin 16384) (first : BitVec 32)
  /-- REG_RD (R301). The register executor performs a register read entry and responds. bad: the words of the run whose QDR command fails its address parity. -/
  | regRd (t : Fin 32) (i : Fin 128) (bad : List (Fin 4))
  /-- REG_WR (R301). The register executor performs a register write entry. bad: the words of the run whose QDR command fails its address parity. -/
  | regWr (t : Fin 32) (i : Fin 128) (bad : List (Fin 4))
  /-- REG_RMW (R301). The register executor performs an atomic read-modify-write. readOk, writeOk: whether the read and the write command of a QDR port pass their
  address parity. -/
  | regRmw (t : Fin 32) (i : Fin 128) (readOk writeOk : Bool)
  /-- CLASP_FEED_MOVE (R290). The tile moves a CLASP entry from an inbound queue into its clasp feed. -/
  | claspFeedMove (t : Fin 32) (i : Fin 512)
  /-- COALESCE_TIMEOUT (R297). An entry or credit report waits COALESCE, and a datagram or STATUS is sent. -/
  | coalesceTimeout (q : Fin 16384)
  /-- RETX_TIMEOUT (R297). No credit advance for RETX, and the queue resends from OLDEST. -/
  | retxTimeout (q : Fin 16384)
  /-- SESSION_BUMP (R300). TRANSPORT.SESSION.BUMP raises the epoch and clears the owner. -/
  | sessionBump
  /-- SEQ_A_READ (R304). A read of QT[i].SEQ_A latches SEQ_B and FILL. -/
  | seqARead (t : Fin 32) (i : Fin 512)
  /-- MSG_BLOCK (R364). A MSG block opens a peer message, interrupting or discarding open messages. i: the index of the stripe that carried it. -/
  | msgBlock (l : Fin 32) (i : Fin 4) (payload : BitVec 64)
  /-- DATA_BLOCK (R365). A data block fills the newest open message, and a completed entry enters its ring. i: the index of the stripe that carried it. -/
  | dataBlock (l : Fin 32) (i : Fin 4) (data : BitVec 64)
  /-- CREDIT_BLOCK (R365). A CREDIT block returns peer credit. i: the index of the stripe that carried it. -/
  | creditBlock (l : Fin 32) (i : Fin 4) (payload : BitVec 64)
  /-- START (R311). A START frame begins an image and checks the part. -/
  | start
  /-- BOOTPARAM (R316). A BOOTPARAM frame writes registers on arrival. -/
  | bootparam
  /-- SETTING (R313). A SETTING frame stages Image fields in shadows. -/
  | setting
  /-- CODE (R314). A CODE frame writes or stages control-store words. -/
  | code
  /-- TABLE (R315). A TABLE frame writes QDR table words on arrival. bad: the words of the frame whose QDR command fails its address parity. -/
  | table (bad : List Nat)
  /-- HKPATCH (R315). An HKPATCH frame stages housekeeping patch words. -/
  | hkpatch
  /-- ENVELOPE (R315). An ENVELOPE frame writes envelope memory on arrival. -/
  | envelope
  /-- KERNEL (R308). A KERNEL frame writes kernel memory on arrival. -/
  | kernel
  /-- DSPDATA (R308). A DSPDATA frame writes DSP data memory on arrival. -/
  | dspdata
  /-- QDRPAGE (R308). A QDRPAGE frame writes QDR pages on arrival. bad: the words of the frame whose QDR command fails its address parity. -/
  | qdrpage (bad : List Nat)
  /-- COMMIT (R317). A COMMIT frame checks the whole setting and enters PENDING with clasp point P. -/
  | commit
  /-- SIGNATURE (R330). A SIGNATURE frame arrives and verification of the image begins. -/
  | signature
  /-- SIGNATURE_CHECK_DONE (R330). ECDSA verification completes, and the commit is accepted or fails SIG_BAD. -/
  | signatureCheckDone
  /-- CLASP_POINT (R319). At the boundary of P every staged value takes effect together and IMAGE_COMMIT fires. -/
  | claspPoint
  /-- LOADER_ABORT (R321). LOADER.CTRL.ABORT fails the image with HOST_ABORT or is ignored. -/
  | loaderAbort (via : Via)
  /-- LOADER_CLEAR (R328). LOADER.CTRL.CLEAR discards queued IMAGE entries and returns the loader to IDLE. -/
  | loaderClear
  /-- FLASH_LOAD (R327). The loader chooses a flash slot and loads it, falling back once to the other slot. -/
  | flashLoad
  /-- FLASH_ERASE (R326). A flash ERASE operation erases a 64 KiB sector. -/
  | flashErase (via : Via)
  /-- FLASH_PROGRAM (R326). A flash PROGRAM operation programs a page from FLASH_BUF. -/
  | flashProgram (via : Via)
  /-- FLASH_READ (R326). A flash READ operation reads a page into FLASH_BUF. -/
  | flashRead (via : Via)
  /-- FLASH_OP_DONE (R326). A flash operation completes and BUSY clears. -/
  | flashOpDone
  /-- PROG_HASH (R331). FUSE_PROG.PROG_HASH burns the key hash and sets HASH_SET. -/
  | progHash (via : Via)
  /-- PROG_SIGN (R331). FUSE_PROG.PROG_SIGN sets SIGN_REQUIRED. -/
  | progSign (via : Via)
  /-- LANE_CFG_WRITE (R340). A LANE.CFG write that changes a role or polarity field restarts bring-up. -/
  | laneCfgWrite (n : Fin 32) (v : BitVec 32)
  /-- LANE_RESTART (R340). LANE.CTRL.RESTART restarts bring-up at SIGNAL. -/
  | laneRestart (via : Via) (n : Fin 32)
  /-- READAPT (R347). LANE.CTRL.READAPT starts a 2 ms re-adaptation. -/
  | readapt (via : Via) (n : Fin 32)
  /-- READAPT_END (R347). A re-adaptation ends and the freeze is re-evaluated. ctle, taps: the values reached; idle: no data arrived. -/
  | readaptEnd (n : Fin 32) (ctle : Fin 32) (taps : BitVec 64) (idle : Bool)
  /-- LANE_LOOP_WRITE (R352). A write of CTRL.LOOP selects a test loop, or is rejected outside TEST. -/
  | laneLoopWrite (via : Via) (n : Fin 32) (loop : Fin 4)
  /-- QUAD_PLL_LOCK (R335). A quad's lane PLL powers up and locks. -/
  | quadPllLock (m : Fin 4)
  /-- SIGNAL_DETECT (R340). Signal is detected at SER_RX and the lane moves to CDR. -/
  | signalDetect (n : Fin 32)
  /-- CDR_LOCK (R340). The CDR locks and the lane moves to ALIGN. -/
  | cdrLock (n : Fin 32)
  /-- BLOCK_LOCK (R340). Block lock is held and polarity settled, and the lane moves to ADAPT. -/
  | blockLock (n : Fin 32)
  /-- POLARITY_WINDOW (R341). A 4,096-block window ends and RX_INV may toggle, or POL_FAIL sets. direct, comp: idle blocks that the received and the complemented path decoded. -/
  | polarityWindow (n : Fin 32) (direct : Fin 4097) (comp : Fin 4097)
  /-- ADAPT_CONVERGED (R345). Adaptation converges and the lane enters UP. ctle, taps: the equaliser values reached. -/
  | adaptConverged (n : Fin 32) (ctle : Fin 32) (taps : BitVec 64)
  /-- LANE_DOWN (R343). Loss of signal, loss of block lock or hi-BER takes the lane down. hiBer: the lane goes down for its bit error rate. -/
  | laneDown (n : Fin 32) (hiBer : Bool)
  /-- ADAPT_RESTART_TIMEOUT (R343). A lane not UP 20 ms after going down discards its equaliser values. -/
  | adaptRestartTimeout (n : Fin 32)
  /-- ADAPT_FREEZE (R346). 4,096 consecutive idle blocks freeze CTLE and DFE. -/
  | adaptFreeze (n : Fin 32)
  /-- ADAPT_RESUME (R346). 64 consecutive data blocks resume adaptation. -/
  | adaptResume (n : Fin 32)
  /-- EYE_MONITOR (R347). The 1 ms eye monitor measures the margin and may raise EYE_LOW and re-adapt. -/
  | eyeMonitor (n : Fin 32) (margin : BitVec 8)
  /-- EYE_SCAN_GO (R348). SCAN_CFG.GO starts an eye scan. v: the word written; its GO bit is taken as 1. -/
  | eyeScanGo (via : Via) (n : Fin 32) (v : BitVec 32)
  /-- EYE_SCAN_DONE (R348). An eye scan reaches its bit count, or aborts, and sets DONE. errs: the disagreements. -/
  | eyeScanDone (n : Fin 32) (errs : BitVec 32)
  /-- CHECK_GO (R350). CHECK.GO starts a 1 ms BER check. -/
  | checkGo (via : Via) (n : Fin 32)
  /-- CHECK_DONE (R350). The BER check ends with PASS and DONE. -/
  | checkDone (n : Fin 32)
  /-- LULL_ENTRY (R353). After IDLE us of idle blocks the transmitter sends the lull block and goes to electrical idle. -/
  | lullEntry (l : Fin 32)
  /-- LULL_WAKE (R353). A block to send wakes a lulled transmitter. -/
  | lullWake (l : Fin 32)
  /-- LULL_WAKE_DONE (R353). 512 idle blocks have been sent and the first waiting block leaves. -/
  | lullWakeDone (l : Fin 32)
  /-- LULL_RX (R354). The partner's lull block and electrical idle put the receiver in LULL. -/
  | lullRx (n : Fin 32)
  /-- LULL_SIGNAL_RETURN (R354). The signal returns and the receiver relocks with frozen values. -/
  | lullSignalReturn (n : Fin 32) (locks : Bool)
  /-- LULL_RELOCK_TIMEOUT (R354). No block lock 2 us after the signal returns takes the lane down. -/
  | lullRelockTimeout (n : Fin 32)
  /-- LINK_CFG_WRITE (R357). A write to LINK.CFG retrains the link or is ignored for an overlap. -/
  | linkCfgWrite (via : Via) (l : Fin 32) (v : BitVec 32)
  /-- LINK_RESTART (R370). LINK.CTRL.RESTART takes the link down and retrains it. -/
  | linkRestart (l : Fin 32)
  /-- TRAIN_BLOCK (R359). A TRAIN block arrives and the link may bond or propose a bond point. i: the lane of the link that received it; skew: its arrival skew. -/
  | trainBlock (l : Fin 32) (i : Fin 4) (payload : BitVec 64) (skew : BitVec 8)
  /-- TRAIN_TIMEOUT (R359). A link not bonded 100 ms after its lanes reached UP sets TRAIN_FAIL. -/
  | trainTimeout (l : Fin 32)
  /-- STRIPE_SWITCH (R360). At the COUNT-th interval a direction adopts the new stripe set. tx: the transmit direction. -/
  | stripeSwitch (l : Fin 32) (tx : Bool)
  /-- DEGRADE (R367). A LINKCTL DEGRADE arrives and the end switches its receive stripe and merges the failed mask. -/
  | degrade (l : Fin 32) (payload : BitVec 64)
  /-- LINK_READY (R369). A LINKCTL READY carrying the partner's failed mask arrives. -/
  | linkReady (l : Fin 32) (payload : BitVec 64)
  /-- REBOND (R369). A LINKCTL REBOND grows the stripe set. -/
  | rebond (l : Fin 32) (payload : BitVec 64)
  /-- LANE_RECHECK_TIMER (R369). Every 10 ms a failing returned lane repeats its BER check. -/
  | laneRecheckTimer (n : Fin 32)
  /-- ETH_FRAME_RECEIVE (R371). An Ethernet frame arrives and is filtered or passed up. -/
  | ethFrameReceive (p : Fin 32) (bytes : List (BitVec 8)) (fcsOk : Bool)
  /-- NT_INCR (R373). NT_CMD OP INCR stages a new INCR. epoch: the EPOCH bit of the write. -/
  | ntIncr (via : Via) (epoch : Bool)
  /-- NT_ADD (R373). NT_CMD OP ADD stages an offset of NT. epoch: the EPOCH bit of the write. -/
  | ntAdd (via : Via) (epoch : Bool)
  /-- NT_SET (R373). NT_CMD OP SET stages a new NT value. epoch: the EPOCH bit of the write. -/
  | ntSet (via : Via) (epoch : Bool)
  /-- NT_CMD_CANCEL (R373). NT_CMD.CANCEL withdraws a staged command. -/
  | ntCmdCancel
  /-- NT_CMD_APPLY (R373). A staged NT command applies at its chosen tick and BUSY clears. -/
  | ntCmdApply
  /-- NT_SNAP (R374). NT_SNAP_CTRL.SNAP latches NT and TL of one tick. -/
  | ntSnap
  /-- ALARM_ARM (R375). ALARM.CTRL.ARM arms an NT alarm. -/
  | alarmArm (k : Fin 2)
  /-- ALARM_FIRE (R375). NT reaches an alarm target, and the alarm clears ARMED, sets FIRED and fires its source. -/
  | alarmFire (k : Fin 2)
  /-- SYNC_RECEIVE (R380). A PTP Sync message is received. sub: 1/64 ns of the arrival behind its tick. -/
  | syncReceive (domain : BitVec 8) (src : BitVec 64) (seq : BitVec 16) (twoStep : Bool) (origin : Nat) (corr : Int) (sub : Fin 64)
  /-- FOLLOW_UP_RECEIVE (R379). A PTP Follow_Up message is received. -/
  | followUpReceive (domain : BitVec 8) (src : BitVec 64) (seq : BitVec 16) (origin : Nat) (corr : Int)
  /-- DELAY_REQ_RECEIVE (R380). A master receives a Delay_Req and answers it. src, port: the identity of the port that asks. -/
  | delayReqReceive (domain : BitVec 8) (src : BitVec 64) (port seq : BitVec 16) (corr : Int) (sub : Fin 64)
  /-- DELAY_RESP_RECEIVE (R380). A slave completes an exchange and updates OFFSET and DELAY. -/
  | delayRespReceive (domain : BitVec 8) (src : BitVec 64) (seq : BitVec 16) (forUs : Bool) (receive : Nat) (corr : Int)
  /-- ANNOUNCE_RECEIVE (R377). A PTP Announce message is received. -/
  | announceReceive
  /-- SYNC_SEND (R380). The master sends Sync at each 2^SYNC_LOG s instant. -/
  | syncSend (sub : Fin 64)
  /-- ANNOUNCE_SEND (R380). The master sends Announce each interval. -/
  | announceSend
  /-- DELAY_REQ_SEND (R380). The slave sends Delay_Req each interval. -/
  | delayReqSend (sub : Fin 64)
  /-- SYNC_LOST (R380). Three Sync intervals without a Sync set LOST and fire PTP. -/
  | syncLost
  /-- RECORD_COMPRESS_ASSIGN (R393). A record is handed to the lowest free compressor instance. -/
  | recordCompressAssign (q : Fin 16384)
  /-- COMPRESSED_BLOCK_OUT (R394). A compressor emits a verified block, or a STORED fallback. glitch: the decoded bytes differ from the input; lz: the coded items of an LZ block. -/
  | compressedBlockOut (i : Fin 8) (glitch : Bool) (lz : List (BitVec 8))
  /-- DECOMPRESS_BLOCK (R392). A decompressor decodes one block or fails it with a cause. -/
  | decompressBlock (i : Fin 8)
  /-- QDR_TRAIN (R404). QDR.CTRL.TRAIN starts port training. -/
  | qdrTrain (p : Fin 2)
  /-- QDR_TRAIN_DONE (R404). QDR training ends READY or FAILED. -/
  | qdrTrainDone (p : Fin 2) (ok : Bool)
  /-- DDR_TRAIN (R418). DDR.CTRL.TRAIN starts channel training or leaves FAULT. -/
  | ddrTrain (c : Fin 2)
  /-- DDR_TRAIN_DONE (R418). DDR training ends READY or in FAULT. -/
  | ddrTrainDone (c : Fin 2) (ok : Bool)
  /-- DDR_REQUEST (R408). A DDR5 access is served with ordering and forwarding rules. A write of bytes at a channel offset, or a read of n bytes; cls: its class, C1 to C3 (0 to 2); opens: it activates its row; drained: queued writes that reached the DRAM before it; hot: the MR4 read of a wake. -/
  | ddrRequest (c : Fin 2) (off : Fin (2^37)) (cls : Fin 3) (n : Fin 65) (bytes : List (BitVec 8)) (opens : Bool) (drained : Nat) (hot : Bool)
  /-- DDR_ALERT (R409). ALERT_N asserts and the subchannel replays its last 32 commands. -/
  | ddrAlert (c : Fin 2) (sub : Fin 2)
  /-- REPLAY_DONE (R409). A command replay completes, or fails toward a channel fault. -/
  | replayDone (c : Fin 2) (sub : Fin 2) (ok : Bool)
  /-- REFRESH_DUE (R412). Refresh debt reaches a due refresh, which is issued, postponed or forced. traffic: a C1 request waits or the backlog stands above 4 KiB. -/
  | refreshDue (c : Fin 2) (r : Fin 2) (traffic : Bool)
  /-- MR4_POLL (R411). MR4 is read and tREFI is updated. -/
  | mr4Poll (c : Fin 2) (hot : Bool)
  /-- ACTIVATE_TABLE_CLEAR (R415). Every activate table clears each 32 ms. -/
  | activateTableClear (c : Fin 2)
  /-- FROST_ENTRY (R414). IDLE_US without requests puts the channel into self-refresh. -/
  | frostEntry (c : Fin 2)
  /-- FROST_WAKE (R414). A request wakes the channel from frost. hot: MR4 calls for doubled refresh. -/
  | frostWake (c : Fin 2) (hot : Bool)
  /-- ZQ_DUE (R417). ZQ calibration falls due and is issued or deferred. -/
  | zqDue (c : Fin 2) (r : Fin 2) (traffic : Bool) (ms : BitVec 16)
  /-- HK_ROUND_START (R425). A housekeeping round starts by timer, event or continuous mode. into: ns since the last entry boundary. -/
  | hkRoundStart (into : Nat)
  /-- ENTRY_BOUNDARY (R428). A conversion ends and the controller applies patches, walks limits and starts the next item. x: what the converter met;
  elapsed: ns for which it stood idle before the item that ends. -/
  | entryBoundary (x : HkAnalog) (elapsed : Nat)
  /-- THERMAL_INJECTION (R431). 100 ms without a DIODE conversion make a thermal injection due. -/
  | thermalInjection
  /-- HK_INJ_GO (R429). HK.INJ_CTRL.GO requests an injected conversion. -/
  | hkInjGo (via : Via)
  /-- HK_CAL_GO (R429). HK.CAL.GO requests a calibration. -/
  | hkCalGo
  /-- HK_CAL_AUTO (R429). AUTO_S seconds after the last calibration a new one is requested. -/
  | hkCalAuto
  /-- TEMPEST_FORCED (R436). 5 s after a sensor fault without CLEAR the step goes to Tempest. -/
  | tempestForced
  /-- THERM_CLEAR (R436). THERM.CTRL.CLEAR clears the sensor fault. -/
  | thermClear
  /-- STORM_TRIP (R437). The comparator finds overtemperature or a bad diode and Storm shuts outputs and fabric down. -/
  | stormTrip (cause : Fin 3)
  /-- MGT_SET_ADDRESS (R471). Management command 0x01 sets the access address. bus: the bytes that the controller sends. -/
  | mgtSetAddress (bus : List (BitVec 8))
  /-- MGT_WRITE (R471). Management command 0x02 writes a register and advances the address. -/
  | mgtWrite (bus : List (BitVec 8))
  /-- MGT_READ (R471). Management command 0x03 reads a register and advances the address. -/
  | mgtRead (bus : List (BitVec 8))
  /-- MGT_STATUS (R471). Management command 0x04 returns and clears the access status. -/
  | mgtStatus (bus : List (BitVec 8))
  /-- JTAG_MEM_READ (R472). MEM_ACCESS Update-DR with OP read reads the map. ir, dr: the opcode and then the value that are shifted in;
  parityOk: whether the command of a QDR port passes its address parity. -/
  | jtagMemRead (ir : BitVec 8) (dr : BitVec 74) (parityOk : Bool)
  /-- JTAG_MEM_WRITE (R472). MEM_ACCESS Update-DR with OP write writes the map. -/
  | jtagMemWrite (ir : BitVec 8) (dr : BitVec 74) (parityOk : Bool)
  /-- EXTEST (R472). The EXTEST instruction is selected, or acts as BYPASS. ir: the opcode shifted in; pins: the levels at the balls of the
  boundary scan as Capture-DR finds them; dr: the value then shifted in, or none where no data register is scanned. -/
  | extest (ir : BitVec 8) (pins : List Bool) (dr : Option (List Bool))
  /-- SAMPLE_PRELOAD (R472). The SAMPLE/PRELOAD instruction is selected, or acts as BYPASS. -/
  | samplePreload (ir : BitVec 8) (pins : List Bool) (dr : Option (List Bool))
  /-- REGISTER_WRITE (R9). A write to a register with no row of its own acts under its access code. parityOk: whether the command of a QDR port passes its address parity. -/
  | registerWrite (via : Via) (a : BitVec 40) (v : BitVec 32) (parityOk : Bool)
  /-- FABRIC_READ (R31). A read of DEV.FABRIC returns the cycle fields and clears CYCLE_MAX_PS. ps, maxPs: the cycle measured now and the longest since the last read. -/
  | fabricRead (ps : Fin 1024) (maxPs : Fin 1024)
  /-- ACC_LO_READ (R155). A read of DSP.ACC_LO latches ACC_HI. -/
  | accLoRead (t : Fin 32) (n : Fin 4)
  /-- DEAD_LO_READ (R261). A read of CAP.DEAD_LO latches DEAD_HI. -/
  | deadLoRead (t : Fin 32)
  /-- LAST_W_LO_READ (R261). A read of CAP.LAST_W_LO latches W_HI. -/
  | lastWLoRead (t : Fin 32)
  /-- LAST_TL_LO_READ (R128). A read of RD.LAST_TL_LO latches TL_HI. -/
  | lastTlLoRead (t : Fin 32) (k : Fin 8)
  /-- POINT_LO_READ (R332). A read of LOADER.POINT_LO latches P_HI. -/
  | pointLoRead
  /-- PTP_VALUE_LO_READ (R384). A read of the low word of PTP.OFFSET or PTP.DELAY latches the high word. delay: DELAY rather than OFFSET. -/
  | ptpValueLoRead (delay : Bool)
  /-- SCLK_IN_LOSS (R57). SCLK_IN stops while CLK_SRC = 1, and TIME.CLK_STATUS.SCLK_OK clears. -/
  | sclkInLoss
  /-- SCLK_IN_DETECT (R57). SCLK_IN becomes present while CLK_SRC = 1, and SCLK_OK sets. -/
  | sclkInDetect
  /-- PRBS_CHECKER_LOCK (R351). In ROLE = TEST with PRBS9 or PRBS31, the checker locks to the received pattern and sets PRBS.LOCKED. -/
  | prbsCheckerLock (n : Fin 32)
  /-- PRBS_BIT_ERROR (R351). The locked PRBS checker finds a bit error, counts it in PRBS.ERR and sets EVT.PRBS_ERR on the first error after a clear. -/
  | prbsBitError (n : Fin 32)
  /-- INVALID_SYNC_HEADER (R350). A block arrives with an invalid sync header, is counted in PCS_ERR.SYNC and fails any running BER check. -/
  | invalidSyncHeader (n : Fin 32)
  /-- CONTROL_BLOCK_CRC_ERROR (R361). A Brisol control block whose TYPE is not listed or whose CRC fails is discarded and counted in LINK.COUNT0.CRC_ERR. -/
  | controlBlockCrcError (l : Fin 32)
  /-- REFRESH_COMPLETE (R411). tRFC after a REFab, the rank becomes available again and waiting requests to it proceed. -/
  | refreshComplete (c : Fin 2) (r : Fin 2)
  /-- FUSE_PROGRAMMING_DONE (R331). Fuse programming completes, LOADER.FUSE_PROG.BUSY clears and HASH_SET or SIGN_REQUIRED reads its new value. -/
  | fuseProgrammingDone
  deriving DecidableEq, Repr

end Sys2Proof
end

