-- ==== Sys2Proof/Decode.lean ====
section
/-! DEFINITION. The commands that a word spells. The opcode table of this block gives no row any bits (every row's "fields" is
empty): its commands are events and accesses, not encoded words. So no word spells one. -/

namespace Sys2Proof

/-- The command that an instruction word of nbits bits spells under the opcode table: none, since the table gives no row
any bits. -/
def decodeTableWord (_nbits _w : Nat) : Option Instr := none

end Sys2Proof
end

