-- ==== Sys2Proof/Machine/Bits.lean ====
section
/-! DEFINITION. Bit fields, signed readings, rounding, byte order and the check codes that several rules of the
spec use. -/

namespace Sys2Proof.Machine

/-- Bits [lo+width-1 : lo] of v. -/
def bits (v lo width : Nat) : Nat := v / 2 ^ lo % 2 ^ width

/-- Bit n of v as a truth value. -/
def bit (v n : Nat) : Bool := v / 2 ^ n % 2 == 1

/-- 1 for true and 0 for false. -/
def b2n (b : Bool) : Nat := if b then 1 else 0

/-- v read as a signed two's complement number of the given width. -/
def sext (width v : Nat) : Int :=
  let u := v % 2 ^ width
  if u < 2 ^ (width - 1) then (u : Int) else (u : Int) - (2 : Int) ^ width

/-- A signed number as an unsigned field of the given width, modulo 2^width. -/
def toField (width : Nat) (i : Int) : Nat := (i % (2 : Int) ^ width).toNat

/-- i limited to the range lo to hi. -/
def clampI (lo hi i : Int) : Int := if i < lo then lo else if i > hi then hi else i

/-- i saturated to a signed number of the given width. -/
def satS (width : Nat) (i : Int) : Int := clampI (-((2 : Int) ^ (width - 1))) ((2 : Int) ^ (width - 1) - 1) i

/-- Whether i lies outside the range of a signed number of the given width. -/
def overS (width : Nat) (i : Int) : Bool :=
  decide (i < -((2 : Int) ^ (width - 1))) || decide ((2 : Int) ^ (width - 1) - 1 < i)

/-- num / den rounded to the nearest integer, halves away from zero (R481). -/
def roundQuot (num den : Int) : Int :=
  let q : Int := ((2 * num.natAbs + den.natAbs) / (2 * den.natAbs) : Nat)
  if (num < 0) = (den < 0) then q else -q

/-- num / 2^k rounded to the nearest integer, halves away from zero (R481). -/
def roundAway (num : Int) (k : Nat) : Int :=
  if num < 0 then -(((-num) * 2 + (2 : Int) ^ k) / ((2 : Int) ^ (k + 1)))
  else (num * 2 + (2 : Int) ^ k) / ((2 : Int) ^ (k + 1))

/-- num / 2^k rounded down (an arithmetic shift right). -/
def shiftFloor (num : Int) (k : Nat) : Int := num / (2 : Int) ^ k

/-- num / 2^k rounded down, or up where it is no integer and a choice says so. -/
def roundEither (num : Int) (k : Nat) (up : Bool) : Int :=
  shiftFloor num k + (if up && decide (num % (2 : Int) ^ k ≠ 0) then 1 else 0)

/-- The number of ones among the low n bits of v. -/
def popcount : Nat → Nat → Nat
  | 0, _ => 0
  | n + 1, v => v % 2 + popcount n (v / 2)

/-- The n bytes of v, least significant first (R6). -/
def leBytes : Nat → Nat → List Byte
  | 0, _ => []
  | n + 1, v => BitVec.ofNat 8 v :: leBytes n (v / 256)

/-- The number that a list of bytes spells, least significant first. -/
def ofLe : List Byte → Nat
  | [] => 0
  | b :: bs => b.toNat + 256 * ofLe bs

/-- The number that a list of bytes spells, most significant first (network byte order, R294). -/
def ofBe (bs : List Byte) : Nat := bs.foldl (fun a b => a * 256 + b.toNat) 0

/-- The n bytes of v, most significant first. -/
def beBytes (n v : Nat) : List Byte := (leBytes n v).reverse

/-- Bytes [lo+n-1 : lo] of a list, absent bytes reading 0. -/
def slice (bs : List Byte) (lo n : Nat) : List Byte := (bs.drop lo).take n

/-- One step of a most-significant-bit-first CRC of the given width over one input bit. -/
def crcBit (width poly crc : Nat) (b : Bool) : Nat :=
  let top := bit crc (width - 1) != b
  let sh := crc * 2 % 2 ^ width
  if top then sh ^^^ poly else sh

/-- A most-significant-bit-first CRC of the low n bits of v, the highest of them first. -/
def crcBits (width poly : Nat) : Nat → Nat → Nat → Nat
  | 0, _, crc => crc
  | n + 1, v, crc => crcBits width poly n v (crcBit width poly crc (bit v n))

/-- A most-significant-bit-first CRC over bytes in order. -/
def crcBytes (width poly init : Nat) (bs : List Byte) : Nat :=
  bs.foldl (fun c b => crcBits width poly 8 b.toNat c) init

/-- The CRC-8 of R283: x^8 + x^2 + x + 1, initial value 0. -/
def crc8 (bs : List Byte) : Nat := crcBytes 8 0x07 0 bs

/-- The CRC-16 of R294: polynomial 0x1021, initial value 0xFFFF. -/
def crc16 (bs : List Byte) : Nat := crcBytes 16 0x1021 0xFFFF bs

/-- One byte of a reflected (least-significant-bit-first) CRC of the given polynomial. -/
def crcReflByte (poly : Nat) : Nat → Nat → Nat
  | 0, crc => crc
  | n + 1, crc => crcReflByte poly n (if crc % 2 = 1 then (crc / 2) ^^^ poly else crc / 2)

/-- The IEEE 802.3 CRC-32 over bytes in order. -/
def crc32 (bs : List Byte) : Nat :=
  (bs.foldl (fun c b => crcReflByte 0xEDB88320 8 (c ^^^ b.toNat)) 0xFFFFFFFF) ^^^ 0xFFFFFFFF

/-- Sequence numbers of R286: a precedes b when (b − a) mod 2^32 lies from 1 to 2^31 − 1. -/
def seqBefore (a b : Nat) : Bool :=
  let d := (b + 2 ^ 32 - a % 2 ^ 32) % 2 ^ 32
  decide (1 ≤ d) && decide (d ≤ 2 ^ 31 - 1)

/-- Difference b − a of two 32-bit sequence numbers. -/
def seqDiff (b a : Nat) : Nat := (b + 2 ^ 32 - a % 2 ^ 32) % 2 ^ 32

/-- The sum of two counts, held at a maximum. -/
def satAdd (max a b : Nat) : Nat := if max < a + b then max else a + b

/-! ## Sine and cosine (R61, R110)

The spec states d(F) through the exact exponential and one rounding. Both parts are formed from sine and cosine in units of
2^-80, whose error cannot move the rounding of any sum but one that lies within it of a half. -/

/-- The scale of a sine or cosine. -/
def trigScale : Int := 2 ^ 80

/-- A quarter turn in radians, times trigScale. -/
def halfPi : Int := 1898976236818169290393996

/-- The alternating series of n further terms, each the one before times -x^2 / (m (m + 1)). -/
def trigSeries (x2 : Int) : Nat → Int → Int → Int
  | 0, _, _ => 0
  | n + 1, m, term => term + trigSeries x2 n (m + 2) (-(term * x2 / trigScale / (m * (m + 1))))

/-- Sine of r quarter turns times 2^-30, r below 2^30. -/
def sinQuarter (r : Nat) : Int :=
  let x := halfPi * r / 2 ^ 30
  trigSeries (x * x / trigScale) 16 2 x

/-- Cosine of r quarter turns times 2^-30. -/
def cosQuarter (r : Nat) : Int :=
  let x := halfPi * r / 2 ^ 30
  trigSeries (x * x / trigScale) 16 1 trigScale

/-- Sine of p / 2^32 turns. -/
def sinTurn (p : Nat) : Int :=
  let r := p % 2 ^ 30
  match p / 2 ^ 30 % 4 with
  | 0 => sinQuarter r
  | 1 => cosQuarter r
  | 2 => -sinQuarter r
  | _ => -cosQuarter r

/-- Cosine of p / 2^32 turns. -/
def cosTurn (p : Nat) : Int := sinTurn (p + 2 ^ 30)

end Sys2Proof.Machine
end

