-- ==== Sys2Proof/Config.lean ====
section
/-! DEFINITION. What the spec leaves open: free values. Each is a constant without a body, so that nothing in Lean
can evaluate it or prove a value of it. Every one is named in the assumption log. -/

namespace Sys2Proof

/-- A fresh value that the spec leaves open: the n-th one that the machine takes (State.fresh counts them). -/
opaque Config.freeValue : Nat → Nat

/-- The contents of a byte of flash that an operation left undefined (R326): by the address of the byte and the
number of the operation. [note 85: DESIGN CHOICE] -/
opaque Config.flashByte : Nat → Nat → Nat

/-- The contents of a byte of memory that a reset, Storm or the retraining of a faulted channel has left undefined (R410, R437, R445): by how
often the byte has lost its contents and its address. -/
opaque Config.lostByte : Nat → Nat → Nat

/-- The coefficients of the interpolation filter of R67 in units of 2^-15, from its centre outward: the one for an offset of d DAC
samples to either side stands at place d. The spec gives bounds on its response and no coefficients; it is linear-phase, so that both
sides are alike. -/
opaque Config.interpTaps : List Int

/-- Whether the amplitude of a sine or cosine that is no multiple of 2^-15 is rounded up (R61), by the 20 phase bits and the part: the
spec gives 16-bit amplitude and no rounding. -/
opaque Config.roundSine : (phase : Nat) → (cosine : Bool) → Bool

/-- Whether a sum S that is no multiple of a code is rounded up (R77), by S in units of 2^-105 of full scale: the spec does not say
how S is rounded. -/
opaque Config.roundDac : Int → Bool

/-- The FSEL under which channel k of tile t mixes a frame outside its windows (R108 names the descriptor of the window and
nothing for a frame that lies in none). -/
opaque Config.idleFsel : (t k : Nat) → Nat

end Sys2Proof
end

