-- ==== Sys2Proof/Machine/Regs.lean ====
section
/-! DEFINITION. The software-visible register fields of the block, one constant for each field of each
register table of spec/ (written from those tables). A field names the address of its register, its lowest bit, its width and the
value it holds at reset. Fields marked Image hold what their description gives until an image
loads them, or 0 (the conventions of spec/00_scope.md); R281 and R427 give the housekeeping and
queue values. -/

namespace Sys2Proof.Machine

/-- A field of a register: the byte address of its register, its lowest bit, its width in bits and
the value it holds at reset. -/
structure Fld where
  addr : Nat
  lo : Nat
  width : Nat
  reset : Nat
  deriving DecidableEq, Repr

/-- The key under which the register store lists a field: fields are ordered by address, then bit. -/
def Fld.key (f : Fld) : Nat := f.addr * 32 + f.lo

/-- The access codes of R9. -/
inductive Acc where
  | rw | ro | wo | w1c | w1s | rc
  deriving DecidableEq, Repr

/-- A field of a register with its access code and whether its reset column reads Image, so that a
SETTING word loads it (R313). -/
structure FieldAcc where
  fld : Fld
  acc : Acc
  img : Bool
  deriving DecidableEq, Repr

/-- R28: the first address of the window of tile t. -/
def tileBase (t : Nat) : Nat := 0x10000000 + 0x400000 * t

/-- Codes of QT[i].CFG.CONSUMER (R290) that R281 uses. -/
def CONSUMER_REG : Nat := 2
def CONSUMER_IMAGE : Nat := 3

/-- Code TIMER of HK.CTRL.MODE (R425). -/
def HK_MODE_TIMER : Nat := 1

/-- R427: the positive channel that entry e of the default housekeeping sequence selects. -/
def hkEntryPos (e : Nat) : Nat :=
  if e = 0 ∨ e = 8 then 0x1A
  else if e = 1 then 0x12
  else if e < 8 then 0x11 + e
  else if e = 9 then 0x19
  else if e = 10 then 0x10
  else if e = 11 then 0x11
  else e - 12

/-- DEV.IDENT (R31). -/
def DEV_IDENT_VENDOR : Fld := ⟨0x0, 16, 16, 0x4856⟩
def DEV_IDENT_PART : Fld := ⟨0x0, 0, 16, 0x256⟩
/-- DEV.STEPPING (R31). -/
def DEV_STEPPING_MAJOR : Fld := ⟨0x4, 4, 4, 2⟩
def DEV_STEPPING_MINOR : Fld := ⟨0x4, 0, 4, 1⟩
/-- DEV.STATUS (R31). -/
def DEV_STATUS_LOCKSTEP : Fld := ⟨0x8, 10, 1, 0⟩
def DEV_STATUS_TILES_RELEASED : Fld := ⟨0x8, 9, 1, 0⟩
def DEV_STATUS_IMAGE_COMMITTED : Fld := ⟨0x8, 8, 1, 0⟩
def DEV_STATUS_LANES_UP : Fld := ⟨0x8, 7, 1, 0⟩
def DEV_STATUS_QDR_B_TRAINED : Fld := ⟨0x8, 6, 1, 0⟩
def DEV_STATUS_QDR_A_TRAINED : Fld := ⟨0x8, 5, 1, 0⟩
def DEV_STATUS_DDR_B_TRAINED : Fld := ⟨0x8, 4, 1, 0⟩
def DEV_STATUS_DDR_A_TRAINED : Fld := ⟨0x8, 3, 1, 0⟩
def DEV_STATUS_CONV_CAL_DONE : Fld := ⟨0x8, 2, 1, 0⟩
def DEV_STATUS_PLL_LOCK : Fld := ⟨0x8, 1, 1, 0⟩
def DEV_STATUS_REFCLK_OK : Fld := ⟨0x8, 0, 1, 0⟩
/-- DEV.FABRIC (R31). -/
def DEV_FABRIC_CYCLE_MAX_PS : Fld := ⟨0xC, 16, 10, 0⟩
def DEV_FABRIC_CYCLE_PS : Fld := ⟨0xC, 0, 10, 0⟩
/-- TIME.CLK_CTRL (R57). -/
def TIME_CLK_CTRL : Fld := ⟨0x40000, 0, 1, 0⟩
/-- TIME.CLK_STATUS (R57). -/
def TIME_CLK_STATUS_SCLK_OK : Fld := ⟨0x40004, 3, 1, 0⟩
def TIME_CLK_STATUS_REFCLK_LOST : Fld := ⟨0x40004, 2, 1, 0⟩
def TIME_CLK_STATUS_LOCK_LOST : Fld := ⟨0x40004, 1, 1, 0⟩
def TIME_CLK_STATUS_LOCK : Fld := ⟨0x40004, 0, 1, 0⟩
/-- TIME.EPOCH_CTRL (R57). -/
def TIME_EPOCH_CTRL : Fld := ⟨0x40008, 0, 1, 0⟩
/-- TIME.EPOCH_STATUS (R57). -/
def TIME_EPOCH_STATUS_IGNORED : Fld := ⟨0x4000C, 24, 8, 0⟩
def TIME_EPOCH_STATUS_VALID : Fld := ⟨0x4000C, 9, 1, 0⟩
def TIME_EPOCH_STATUS_PHASE : Fld := ⟨0x4000C, 0, 9, 0⟩
/-- TIME.DESKEW (R57). -/
def TIME_DESKEW : Fld := ⟨0x40010, 0, 12, 0⟩
/-- TIME.TL_LO (R57). -/
def TIME_TL_LO : Fld := ⟨0x40018, 0, 32, 0⟩
/-- TIME.TL_HI (R57). -/
def TIME_TL_HI : Fld := ⟨0x4001C, 0, 32, 0⟩
/-- CLASP.HORIZON (R58). -/
def CLASP_HORIZON (t : Nat) : Fld := ⟨tileBase t + 0x400, 0, 17, 0x10000⟩
/-- CLASP.LOW_WATER (R58). -/
def CLASP_LOW_WATER (t : Nat) : Fld := ⟨tileBase t + 0x404, 0, 17, 0x1FFFF⟩
/-- CLASP.CURSOR_LO (R58). -/
def CLASP_CURSOR_LO (t : Nat) : Fld := ⟨tileBase t + 0x408, 0, 32, 0⟩
/-- CLASP.CURSOR_HI (R58). -/
def CLASP_CURSOR_HI (t : Nat) : Fld := ⟨tileBase t + 0x40C, 0, 32, 0⟩
/-- CLASP.UNDERRUN (R58). -/
def CLASP_UNDERRUN (t : Nat) : Fld := ⟨tileBase t + 0x410, 0, 16, 0⟩
/-- CLASP.FIRST (R58). -/
def CLASP_FIRST_VALID (t : Nat) : Fld := ⟨tileBase t + 0x414, 31, 1, 0⟩
def CLASP_FIRST_CAUSE (t : Nat) : Fld := ⟨tileBase t + 0x414, 28, 2, 0⟩
def CLASP_FIRST_CLASP (t : Nat) : Fld := ⟨tileBase t + 0x414, 22, 6, 0⟩
def CLASP_FIRST_KIND (t : Nat) : Fld := ⟨tileBase t + 0x414, 18, 4, 0⟩
def CLASP_FIRST_MARGIN (t : Nat) : Fld := ⟨tileBase t + 0x414, 0, 16, 0⟩
/-- CLASP.FIRST_STAMP_LO (R58). -/
def CLASP_FIRST_STAMP_LO (t : Nat) : Fld := ⟨tileBase t + 0x418, 0, 32, 0⟩
/-- CLASP.FIRST_STAMP_HI (R58). -/
def CLASP_FIRST_STAMP_HI (t : Nat) : Fld := ⟨tileBase t + 0x41C, 0, 32, 0⟩
/-- CLASP.COLLIDE (R58). -/
def CLASP_COLLIDE (t : Nat) : Fld := ⟨tileBase t + 0x420, 0, 16, 0⟩
/-- CLASP.ABORT_FRAME_LO (R58). -/
def CLASP_ABORT_FRAME_LO (t : Nat) : Fld := ⟨tileBase t + 0x428, 0, 32, 0⟩
/-- CLASP.ABORT_FRAME_HI (R58). -/
def CLASP_ABORT_FRAME_HI (t : Nat) : Fld := ⟨tileBase t + 0x42C, 0, 32, 0⟩
/-- CLASP.ABORT_CTRL (R58). -/
def CLASP_ABORT_CTRL_GEN (t : Nat) : Fld := ⟨tileBase t + 0x430, 2, 2, 0⟩
def CLASP_ABORT_CTRL_BUSY (t : Nat) : Fld := ⟨tileBase t + 0x430, 1, 1, 0⟩
def CLASP_ABORT_CTRL_GO (t : Nat) : Fld := ⟨tileBase t + 0x430, 0, 1, 0⟩
/-- CLASP.ABORT_EFF_LO (R58). -/
def CLASP_ABORT_EFF_LO (t : Nat) : Fld := ⟨tileBase t + 0x438, 0, 32, 0⟩
/-- CLASP.ABORT_EFF_HI (R58). -/
def CLASP_ABORT_EFF_HI (t : Nat) : Fld := ⟨tileBase t + 0x43C, 0, 32, 0⟩
/-- CLASP.QUEUE[n] (R58). -/
def CLASP_QUEUE_FILL (t n : Nat) : Fld := ⟨tileBase t + 0x440 + 0x4 * n, 16, 10, 0⟩
def CLASP_QUEUE_DEPTH (t n : Nat) : Fld := ⟨tileBase t + 0x440 + 0x4 * n, 0, 10, 0⟩
/-- TONE[e].FW_LO[k] (R85). -/
def TONE_FW_LO (t e k : Nat) : Fld := ⟨tileBase t + 0x1000 + 0x100 * e + 0x8 * k, 0, 32, 0⟩
/-- TONE[e].FW_HI[k] (R85). -/
def TONE_FW_HI (t e k : Nat) : Fld := ⟨tileBase t + 0x1004 + 0x100 * e + 0x8 * k, 0, 16, 0⟩
/-- TONE[e].VZ[k] (R85). -/
def TONE_VZ (t e k : Nat) : Fld := ⟨tileBase t + 0x1020 + 0x100 * e + 0x4 * k, 0, 32, 0⟩
/-- TONE[e].STATUS (R85). -/
def TONE_STATUS_FSEL (t e : Nat) : Fld := ⟨tileBase t + 0x1030 + 0x100 * e, 11, 2, 0⟩
def TONE_STATUS_TEMPLATE (t e : Nat) : Fld := ⟨tileBase t + 0x1030 + 0x100 * e, 4, 7, 0⟩
def TONE_STATUS_PAGE_WAIT (t e : Nat) : Fld := ⟨tileBase t + 0x1030 + 0x100 * e, 3, 1, 0⟩
def TONE_STATUS_HOLDING (t e : Nat) : Fld := ⟨tileBase t + 0x1030 + 0x100 * e, 2, 1, 0⟩
def TONE_STATUS_PLAYING (t e : Nat) : Fld := ⟨tileBase t + 0x1030 + 0x100 * e, 1, 1, 0⟩
def TONE_STATUS_IDLE (t e : Nat) : Fld := ⟨tileBase t + 0x1030 + 0x100 * e, 0, 1, 1⟩
/-- TONE[e].STARTS (R85). -/
def TONE_STARTS (t e : Nat) : Fld := ⟨tileBase t + 0x1034 + 0x100 * e, 0, 16, 0⟩
/-- DAC[d].CTRL (R86). -/
def DAC_CTRL_DGAIN (t d : Nat) : Fld := ⟨tileBase t + 0x2000 + 0x100 * d, 16, 16, 0⟩
def DAC_CTRL_MODE (t d : Nat) : Fld := ⟨tileBase t + 0x2000 + 0x100 * d, 1, 1, 0⟩
def DAC_CTRL_EN (t d : Nat) : Fld := ⟨tileBase t + 0x2000 + 0x100 * d, 0, 1, 0⟩
/-- DAC[d].TAP_SRC[k] (R86). -/
def DAC_TAP_SRC_DELAY (t d k : Nat) : Fld := ⟨tileBase t + 0x2010 + 0x100 * d + 0x8 * k, 8, 6, 0⟩
def DAC_TAP_SRC_ENGINE (t d k : Nat) : Fld := ⟨tileBase t + 0x2010 + 0x100 * d + 0x8 * k, 3, 4, 0⟩
def DAC_TAP_SRC_TILE (t d k : Nat) : Fld := ⟨tileBase t + 0x2010 + 0x100 * d + 0x8 * k, 1, 2, 0⟩
def DAC_TAP_SRC_EN (t d k : Nat) : Fld := ⟨tileBase t + 0x2010 + 0x100 * d + 0x8 * k, 0, 1, 0⟩
/-- DAC[d].TAP_GAIN[k] (R86). -/
def DAC_TAP_GAIN_GQ (t d k : Nat) : Fld := ⟨tileBase t + 0x2014 + 0x100 * d + 0x8 * k, 16, 16, 0⟩
def DAC_TAP_GAIN_GI (t d k : Nat) : Fld := ⟨tileBase t + 0x2014 + 0x100 * d + 0x8 * k, 0, 16, 0⟩
/-- DAC[d].CLIP (R86). -/
def DAC_CLIP_STICKY (t d : Nat) : Fld := ⟨tileBase t + 0x2040 + 0x100 * d, 31, 1, 0⟩
def DAC_CLIP_COUNT (t d : Nat) : Fld := ⟨tileBase t + 0x2040 + 0x100 * d, 0, 16, 0⟩
/-- DAC[d].CAL (R86). -/
def DAC_CAL_CYCLES (t d : Nat) : Fld := ⟨tileBase t + 0x2044 + 0x100 * d, 16, 16, 0⟩
def DAC_CAL_STEP (t d : Nat) : Fld := ⟨tileBase t + 0x2044 + 0x100 * d, 8, 6, 0⟩
def DAC_CAL_RUNNING (t d : Nat) : Fld := ⟨tileBase t + 0x2044 + 0x100 * d, 2, 1, 0⟩
def DAC_CAL_CAL_STALE (t d : Nat) : Fld := ⟨tileBase t + 0x2044 + 0x100 * d, 1, 1, 0⟩
def DAC_CAL_BG_EN (t d : Nat) : Fld := ⟨tileBase t + 0x2044 + 0x100 * d, 0, 1, 0⟩
/-- DAC[d].CAL_AGE (R86). -/
def DAC_CAL_AGE (t d : Nat) : Fld := ⟨tileBase t + 0x2048 + 0x100 * d, 0, 32, 0⟩
/-- DRIVE.ROUTE (R87). -/
def DRIVE_ROUTE_XY (t e : Nat) : Fld := ⟨tileBase t + 0x2300, (2 * e), 2, 0⟩
/-- DRIVE.PAGE (R87). -/
def DRIVE_PAGE_FREE (t : Nat) : Fld := ⟨tileBase t + 0x2304, 8, 5, 0⟩
def DRIVE_PAGE_BUFFERS (t : Nat) : Fld := ⟨tileBase t + 0x2304, 0, 5, 0⟩
/-- FLUX[e].DC (R103). -/
def FLUX_DC (t e : Nat) : Fld := ⟨tileBase t + 0x3000 + 0x100 * e, 0, 16, 0⟩
/-- FLUX[e].STATUS (R103). -/
def FLUX_STATUS_TEMPLATE (t e : Nat) : Fld := ⟨tileBase t + 0x3004 + 0x100 * e, 4, 7, 0⟩
def FLUX_STATUS_HOLDING (t e : Nat) : Fld := ⟨tileBase t + 0x3004 + 0x100 * e, 2, 1, 0⟩
def FLUX_STATUS_PLAYING (t e : Nat) : Fld := ⟨tileBase t + 0x3004 + 0x100 * e, 1, 1, 0⟩
def FLUX_STATUS_IDLE (t e : Nat) : Fld := ⟨tileBase t + 0x3004 + 0x100 * e, 0, 1, 1⟩
/-- FLUX[e].STARTS (R103). -/
def FLUX_STARTS (t e : Nat) : Fld := ⟨tileBase t + 0x3008 + 0x100 * e, 0, 16, 0⟩
/-- FLUX[e].CLIP (R103). -/
def FLUX_CLIP_STICKY (t e : Nat) : Fld := ⟨tileBase t + 0x300C + 0x100 * e, 31, 1, 0⟩
def FLUX_CLIP_COUNT (t e : Nat) : Fld := ⟨tileBase t + 0x300C + 0x100 * e, 0, 16, 0⟩
/-- FLUX[e].IIR_ALPHA[i] (R103). -/
def FLUX_IIR_ALPHA (t e i : Nat) : Fld := ⟨tileBase t + 0x3020 + 0x100 * e + 0x8 * i, 0, 32, 0⟩
/-- FLUX[e].IIR_K[i] (R103). -/
def FLUX_IIR_K_EN (t e i : Nat) : Fld := ⟨tileBase t + 0x3024 + 0x100 * e + 0x8 * i, 31, 1, 0⟩
def FLUX_IIR_K_K (t e i : Nat) : Fld := ⟨tileBase t + 0x3024 + 0x100 * e + 0x8 * i, 0, 24, 0⟩
/-- FLUX[e].FIR[j] (R103). -/
def FLUX_FIR_TAP_HI (t e j : Nat) : Fld := ⟨tileBase t + 0x3060 + 0x100 * e + 0x4 * j, 16, 16, 0⟩
def FLUX_FIR_TAP_LO (t e j : Nat) : Fld := ⟨tileBase t + 0x3060 + 0x100 * e + 0x4 * j, 0, 16, (if j = 4 then 0x4000 else 0)⟩
/-- FLUX[e].OUT (R103). -/
def FLUX_OUT (t e : Nat) : Fld := ⟨tileBase t + 0x30A0 + 0x100 * e, 0, 1, 0⟩
/-- FLUX[e].LAST (R103). -/
def FLUX_LAST (t e : Nat) : Fld := ⟨tileBase t + 0x30A4 + 0x100 * e, 0, 16, 0⟩
/-- FLUX.XT[i][c] (R104). -/
def FLUX_XT_M_HI (t i c : Nat) : Fld := ⟨tileBase t + 0x3800 + 0x10 * i + 0x4 * c, 16, 16, (if i = 2 * c + 1 then 0x4000 else 0)⟩
def FLUX_XT_M_LO (t i c : Nat) : Fld := ⟨tileBase t + 0x3800 + 0x10 * i + 0x4 * c, 0, 16, (if i = 2 * c then 0x4000 else 0)⟩
/-- FLUX.ROUTE (R104). -/
def FLUX_ROUTE_BALL (t k : Nat) : Fld := ⟨tileBase t + 0x3880, (3 * k), 3, (k)⟩
/-- RD[k].KDESC_A[j] (R128). -/
def RD_KDESC_A (t k j : Nat) : Fld := ⟨tileBase t + 0x4000 + 0x100 * k + 0x8 * j, 0, 32, 0⟩
/-- RD[k].KDESC_B[j] (R128). -/
def RD_KDESC_B (t k j : Nat) : Fld := ⟨tileBase t + 0x4004 + 0x100 * k + 0x8 * j, 0, 32, 0⟩
/-- RD[k].STATUS (R128). -/
def RD_STATUS_KSEL (t k : Nat) : Fld := ⟨tileBase t + 0x4080 + 0x100 * k, 6, 4, 0⟩
def RD_STATUS_ROUND (t k : Nat) : Fld := ⟨tileBase t + 0x4080 + 0x100 * k, 2, 4, 0⟩
def RD_STATUS_OPEN (t k : Nat) : Fld := ⟨tileBase t + 0x4080 + 0x100 * k, 1, 1, 0⟩
def RD_STATUS_IDLE (t k : Nat) : Fld := ⟨tileBase t + 0x4080 + 0x100 * k, 0, 1, 1⟩
/-- RD[k].WINDOWS (R128). -/
def RD_WINDOWS (t k : Nat) : Fld := ⟨tileBase t + 0x4084 + 0x100 * k, 0, 16, 0⟩
/-- RD[k].LAST_I (R128). -/
def RD_LAST_I (t k : Nat) : Fld := ⟨tileBase t + 0x4088 + 0x100 * k, 0, 32, 0⟩
/-- RD[k].LAST_Q (R128). -/
def RD_LAST_Q (t k : Nat) : Fld := ⟨tileBase t + 0x408C + 0x100 * k, 0, 32, 0⟩
/-- RD[k].LAST_INFO (R128). -/
def RD_LAST_INFO_LEAK (t k : Nat) : Fld := ⟨tileBase t + 0x4090 + 0x100 * k, 19, 1, 0⟩
def RD_LAST_INFO_AMB (t k : Nat) : Fld := ⟨tileBase t + 0x4090 + 0x100 * k, 18, 1, 0⟩
def RD_LAST_INFO_STATE (t k : Nat) : Fld := ⟨tileBase t + 0x4090 + 0x100 * k, 16, 2, 0⟩
def RD_LAST_INFO_KSEL (t k : Nat) : Fld := ⟨tileBase t + 0x4090 + 0x100 * k, 12, 4, 0⟩
def RD_LAST_INFO_SAT (t k : Nat) : Fld := ⟨tileBase t + 0x4090 + 0x100 * k, 11, 1, 0⟩
def RD_LAST_INFO_GOV (t k : Nat) : Fld := ⟨tileBase t + 0x4090 + 0x100 * k, 10, 1, 0⟩
def RD_LAST_INFO_FIFO_LOST (t k : Nat) : Fld := ⟨tileBase t + 0x4090 + 0x100 * k, 9, 1, 0⟩
def RD_LAST_INFO_ADC_OVR (t k : Nat) : Fld := ⟨tileBase t + 0x4090 + 0x100 * k, 8, 1, 0⟩
def RD_LAST_INFO_OVR (t k : Nat) : Fld := ⟨tileBase t + 0x4090 + 0x100 * k, 7, 1, 0⟩
def RD_LAST_INFO_CHANNEL (t k : Nat) : Fld := ⟨tileBase t + 0x4090 + 0x100 * k, 4, 3, 0⟩
def RD_LAST_INFO_ROUND (t k : Nat) : Fld := ⟨tileBase t + 0x4090 + 0x100 * k, 0, 4, 0⟩
/-- RD[k].LAST_TL_LO (R128). -/
def RD_LAST_TL_LO (t k : Nat) : Fld := ⟨tileBase t + 0x4094 + 0x100 * k, 0, 32, 0⟩
/-- RD[k].LAST_TL_HI (R128). -/
def RD_LAST_TL_HI (t k : Nat) : Fld := ⟨tileBase t + 0x4098 + 0x100 * k, 0, 32, 0⟩
/-- RD[k].HOSTLOSS (R128). -/
def RD_HOSTLOSS (t k : Nat) : Fld := ⟨tileBase t + 0x409C + 0x100 * k, 0, 16, 0⟩
/-- RD[k].RESULT_Q (R128). -/
def RD_RESULT_Q (t k : Nat) : Fld := ⟨tileBase t + 0x40A0 + 0x100 * k, 0, 9, 0⟩
/-- ADC.CTRL (R129). -/
def ADC_CTRL_ZONE (t : Nat) : Fld := ⟨tileBase t + 0x4800, 1, 1, 0⟩
def ADC_CTRL_EN (t : Nat) : Fld := ⟨tileBase t + 0x4800, 0, 1, 0⟩
/-- ADC.OVR (R129). -/
def ADC_OVR_STICKY (t : Nat) : Fld := ⟨tileBase t + 0x4804, 31, 1, 0⟩
def ADC_OVR_COUNT (t : Nat) : Fld := ⟨tileBase t + 0x4804, 0, 16, 0⟩
/-- ADC.PEAK (R129). -/
def ADC_PEAK (t : Nat) : Fld := ⟨tileBase t + 0x4808, 0, 12, 0⟩
/-- ADC.FIFO (R129). -/
def ADC_FIFO_OVERRUN (t : Nat) : Fld := ⟨tileBase t + 0x480C, 31, 1, 0⟩
def ADC_FIFO_FILL_MAX (t : Nat) : Fld := ⟨tileBase t + 0x480C, 16, 11, 0⟩
def ADC_FIFO_LOST (t : Nat) : Fld := ⟨tileBase t + 0x480C, 0, 16, 0⟩
/-- ADC.CAL (R129). -/
def ADC_CAL_CYCLES (t : Nat) : Fld := ⟨tileBase t + 0x4810, 16, 16, 0⟩
def ADC_CAL_STEP (t : Nat) : Fld := ⟨tileBase t + 0x4810, 8, 5, 0⟩
def ADC_CAL_RUNNING (t : Nat) : Fld := ⟨tileBase t + 0x4810, 2, 1, 0⟩
def ADC_CAL_CAL_STALE (t : Nat) : Fld := ⟨tileBase t + 0x4810, 1, 1, 0⟩
def ADC_CAL_BG_EN (t : Nat) : Fld := ⟨tileBase t + 0x4810, 0, 1, 0⟩
/-- ADC.CAL_AGE (R129). -/
def ADC_CAL_AGE (t : Nat) : Fld := ⟨tileBase t + 0x4814, 0, 32, 0⟩
/-- DSP.STATUS (R155). -/
def DSP_STATUS_ILLEGAL (t : Nat) : Fld := ⟨tileBase t + 0x5000, 7, 1, 0⟩
def DSP_STATUS_TAINT_STORE (t : Nat) : Fld := ⟨tileBase t + 0x5000, 6, 1, 0⟩
def DSP_STATUS_IN_TIMEOUT (t : Nat) : Fld := ⟨tileBase t + 0x5000, 5, 1, 0⟩
def DSP_STATUS_LANE_OVF (t : Nat) : Fld := ⟨tileBase t + 0x5000, 4, 1, 0⟩
def DSP_STATUS_GOV (t : Nat) : Fld := ⟨tileBase t + 0x5000, 0, 4, 0⟩
/-- DSP.FLAGS (R155). -/
def DSP_FLAGS_IDX (t : Nat) : Fld := ⟨tileBase t + 0x5004, 2, 4, 0⟩
def DSP_FLAGS_N (t : Nat) : Fld := ⟨tileBase t + 0x5004, 1, 1, 0⟩
def DSP_FLAGS_Z (t : Nat) : Fld := ⟨tileBase t + 0x5004, 0, 1, 0⟩
/-- DSP.IN_CTRL (R155). -/
def DSP_IN_CTRL_TIMEOUT (t : Nat) : Fld := ⟨tileBase t + 0x5008, 16, 16, 0⟩
def DSP_IN_CTRL_SHIFT (t : Nat) : Fld := ⟨tileBase t + 0x5008, 0, 5, 0⟩
/-- DSP.IN_STATUS (R155). -/
def DSP_IN_STATUS_LOST (t : Nat) : Fld := ⟨tileBase t + 0x500C, 16, 16, 0⟩
def DSP_IN_STATUS_FILL (t : Nat) : Fld := ⟨tileBase t + 0x500C, 0, 5, 0⟩
/-- DSP.OUT_Q (R155). -/
def DSP_OUT_Q (t : Nat) : Fld := ⟨tileBase t + 0x5010, 0, 9, 0⟩
/-- DSP.HIST (R155). -/
def DSP_HIST_NBINS_M1 (t : Nat) : Fld := ⟨tileBase t + 0x5014, 20, 12, 0⟩
def DSP_HIST_HSHIFT (t : Nat) : Fld := ⟨tileBase t + 0x5014, 16, 4, 0⟩
def DSP_HIST_HBASE (t : Nat) : Fld := ⟨tileBase t + 0x5014, 0, 16, 0⟩
/-- DSP.VTAG (R155). -/
def DSP_VTAG (t : Nat) : Fld := ⟨tileBase t + 0x5018, 0, 8, 0⟩
/-- DSP.ACC_LO[n] (R155). -/
def DSP_ACC_LO (t n : Nat) : Fld := ⟨tileBase t + 0x5020 + 0x8 * n, 0, 32, 0⟩
/-- DSP.ACC_HI[n] (R155). -/
def DSP_ACC_HI_TAINT (t n : Nat) : Fld := ⟨tileBase t + 0x5024 + 0x8 * n, 17, 1, 0⟩
def DSP_ACC_HI_HOLD (t n : Nat) : Fld := ⟨tileBase t + 0x5024 + 0x8 * n, 16, 1, 0⟩
def DSP_ACC_HI_ACC_HI (t n : Nat) : Fld := ⟨tileBase t + 0x5024 + 0x8 * n, 0, 16, 0⟩
/-- DSP.SIDX[n] (R155). -/
def DSP_SIDX (t n : Nat) : Fld := ⟨tileBase t + 0x5040 + 0x4 * n, 0, 20, 0⟩
/-- DSP.AGU[g].P (R155). -/
def DSP_AGU_P (t g : Nat) : Fld := ⟨tileBase t + 0x5060 + 0x10 * g, 0, 17, 0⟩
/-- DSP.AGU[g].M (R155). -/
def DSP_AGU_M (t g : Nat) : Fld := ⟨tileBase t + 0x5064 + 0x10 * g, 0, 18, 0⟩
/-- DSP.AGU[g].B (R155). -/
def DSP_AGU_B (t g : Nat) : Fld := ⟨tileBase t + 0x5068 + 0x10 * g, 0, 17, 0⟩
/-- DSP.AGU[g].L (R155). -/
def DSP_AGU_L (t g : Nat) : Fld := ⟨tileBase t + 0x506C + 0x10 * g, 0, 18, 0⟩
/-- DSP.V[v][w] (R155). -/
def DSP_V (t v w : Nat) : Fld := ⟨tileBase t + 0x5100 + 0x10 * v + 0x4 * w, 0, 32, 0⟩
/-- FACET[k].COEF[j] (R183). -/
def FACET_COEF_B (t k j : Nat) : Fld := ⟨tileBase t + 0x6000 + 0x40 * k + 0x8 * j, 16, 16, 0⟩
def FACET_COEF_A (t k j : Nat) : Fld := ⟨tileBase t + 0x6000 + 0x40 * k + 0x8 * j, 0, 16, 0⟩
/-- FACET[k].OFFSET[j] (R183). -/
def FACET_OFFSET (t k j : Nat) : Fld := ⟨tileBase t + 0x6004 + 0x40 * k + 0x8 * j, 0, 32, 0⟩
/-- FACET[k].CTRL (R183). -/
def FACET_CTRL (t k : Nat) : Fld := ⟨tileBase t + 0x6020 + 0x40 * k, 0, 3, 0⟩
/-- FACET[k].THR (R183). -/
def FACET_THR (t k : Nat) : Fld := ⟨tileBase t + 0x6024 + 0x40 * k, 0, 32, 0⟩
/-- FACET[k].MARGIN (R183). -/
def FACET_MARGIN (t k : Nat) : Fld := ⟨tileBase t + 0x6028 + 0x40 * k, 0, 32, 0⟩
/-- FACET[k].COUNT (R183). -/
def FACET_COUNT_AMB (t k : Nat) : Fld := ⟨tileBase t + 0x602C + 0x40 * k, 16, 16, 0⟩
def FACET_COUNT_LEAK (t k : Nat) : Fld := ⟨tileBase t + 0x602C + 0x40 * k, 0, 16, 0⟩
/-- WATCH[d].KEY[i] (R184). -/
def WATCH_KEY_EN (t d i : Nat) : Fld := ⟨tileBase t + 0x6800 + 0x20 * d + 0x4 * i, 31, 1, 0⟩
def WATCH_KEY_CAPTURED (t d i : Nat) : Fld := ⟨tileBase t + 0x6800 + 0x20 * d + 0x4 * i, 20, 1, 0⟩
def WATCH_KEY_EXPECT (t d i : Nat) : Fld := ⟨tileBase t + 0x6800 + 0x20 * d + 0x4 * i, 16, 4, 0⟩
def WATCH_KEY_SEL (t d i : Nat) : Fld := ⟨tileBase t + 0x6800 + 0x20 * d + 0x4 * i, 9, 2, 0⟩
def WATCH_KEY_SLOT (t d i : Nat) : Fld := ⟨tileBase t + 0x6800 + 0x20 * d + 0x4 * i, 0, 9, 0⟩
/-- WATCH[d].MAP (R184). -/
def WATCH_MAP_OPT (t d m : Nat) : Fld := ⟨tileBase t + 0x6810 + 0x20 * d, (2 * m), 2, 0⟩
/-- WATCH[d].CFG (R184). -/
def WATCH_CFG_FLAG_ON_AMB (t d : Nat) : Fld := ⟨tileBase t + 0x6814 + 0x20 * d, 5, 1, 0⟩
def WATCH_CFG_FLAG_ON_OVR (t d : Nat) : Fld := ⟨tileBase t + 0x6814 + 0x20 * d, 4, 1, 0⟩
def WATCH_CFG_FLAG_OPT (t d : Nat) : Fld := ⟨tileBase t + 0x6814 + 0x20 * d, 2, 2, 0⟩
def WATCH_CFG_LATE_POL (t d : Nat) : Fld := ⟨tileBase t + 0x6814 + 0x20 * d, 0, 1, 0⟩
/-- WATCH[d].STATUS (R184). -/
def WATCH_STATUS_LATE (t d : Nat) : Fld := ⟨tileBase t + 0x6818 + 0x20 * d, 16, 16, 0⟩
def WATCH_STATUS_FENCE_LATE (t d : Nat) : Fld := ⟨tileBase t + 0x6818 + 0x20 * d, 4, 1, 0⟩
def WATCH_STATUS_FLAGGED (t d : Nat) : Fld := ⟨tileBase t + 0x6818 + 0x20 * d, 3, 1, 0⟩
def WATCH_STATUS_OPTION (t d : Nat) : Fld := ⟨tileBase t + 0x6818 + 0x20 * d, 1, 2, 0⟩
def WATCH_STATUS_RESOLVED (t d : Nat) : Fld := ⟨tileBase t + 0x6818 + 0x20 * d, 0, 1, 0⟩
/-- FB.COUNT (R185). -/
def FB_COUNT_LATE (t : Nat) : Fld := ⟨tileBase t + 0x6A00, 16, 16, 0⟩
def FB_COUNT_GROUPS (t : Nat) : Fld := ⟨tileBase t + 0x6A00, 0, 16, 0⟩
/-- FB.FENCE (R185). -/
def FB_FENCE_WAITING (t : Nat) : Fld := ⟨tileBase t + 0x6A04, 31, 1, 0⟩
def FB_FENCE_DID (t : Nat) : Fld := ⟨tileBase t + 0x6A04, 24, 4, 0⟩
def FB_FENCE_TMO (t : Nat) : Fld := ⟨tileBase t + 0x6A04, 0, 20, 0x400⟩
/-- FB.FIRST_LATE (R185). -/
def FB_FIRST_LATE_VALID (t : Nat) : Fld := ⟨tileBase t + 0x6A08, 31, 1, 0⟩
def FB_FIRST_LATE_CAUSE (t : Nat) : Fld := ⟨tileBase t + 0x6A08, 29, 2, 0⟩
def FB_FIRST_LATE_CLASP (t : Nat) : Fld := ⟨tileBase t + 0x6A08, 22, 6, 0⟩
def FB_FIRST_LATE_DID (t : Nat) : Fld := ⟨tileBase t + 0x6A08, 18, 4, 0⟩
/-- FB.FIRST_LATE_STAMP_LO (R185). -/
def FB_FIRST_LATE_STAMP_LO (t : Nat) : Fld := ⟨tileBase t + 0x6A0C, 0, 32, 0⟩
/-- FB.FIRST_LATE_STAMP_HI (R185). -/
def FB_FIRST_LATE_STAMP_HI (t : Nat) : Fld := ⟨tileBase t + 0x6A10, 0, 32, 0⟩
/-- DECB.SLOT[n] (R186). -/
def DECB_SLOT_ROUND (n : Nat) : Fld := ⟨0x600000 + 0x4 * n, 6, 4, 0⟩
def DECB_SLOT_LEAK (n : Nat) : Fld := ⟨0x600000 + 0x4 * n, 5, 1, 0⟩
def DECB_SLOT_OVR (n : Nat) : Fld := ⟨0x600000 + 0x4 * n, 4, 1, 0⟩
def DECB_SLOT_AMB (n : Nat) : Fld := ⟨0x600000 + 0x4 * n, 3, 1, 0⟩
def DECB_SLOT_STATE (n : Nat) : Fld := ⟨0x600000 + 0x4 * n, 1, 2, 0⟩
def DECB_SLOT_VALID (n : Nat) : Fld := ⟨0x600000 + 0x4 * n, 0, 1, 0⟩
/-- DECB.REMOTE[r] (R186). -/
def DECB_REMOTE_EN (r : Nat) : Fld := ⟨0x601000 + 0x4 * r, 31, 1, 0⟩
def DECB_REMOTE_LINK (r : Nat) : Fld := ⟨0x601000 + 0x4 * r, 16, 5, 0⟩
def DECB_REMOTE_SLOT (r : Nat) : Fld := ⟨0x601000 + 0x4 * r, 0, 9, 0⟩
/-- DECB.EXPORT[i] (R186). -/
def DECB_EXPORT_EN (i : Nat) : Fld := ⟨0x601100 + 0x4 * i, 31, 1, 0⟩
def DECB_EXPORT_LINK (i : Nat) : Fld := ⟨0x601100 + 0x4 * i, 16, 5, 0⟩
def DECB_EXPORT_SLOT (i : Nat) : Fld := ⟨0x601100 + 0x4 * i, 0, 9, 0⟩
/-- DECB.LINK[l] (R186). -/
def DECB_LINK_CHECK_ERR (l : Nat) : Fld := ⟨0x601200 + 0x4 * l, 16, 16, 0⟩
def DECB_LINK_NOGOOD (l : Nat) : Fld := ⟨0x601200 + 0x4 * l, 8, 8, 0⟩
def DECB_LINK_UNMAPPED (l : Nat) : Fld := ⟨0x601200 + 0x4 * l, 0, 8, 0⟩
/-- TABLE[u].CTX[c].KEYSEL[i] (R187). -/
def TABLE_CTX_KEYSEL_EN (u c i : Nat) : Fld := ⟨0x602000 + 0x400 * u + 0x200 * c + 0x4 * i, 31, 1, 0⟩
def TABLE_CTX_KEYSEL_SEL (u c i : Nat) : Fld := ⟨0x602000 + 0x400 * u + 0x200 * c + 0x4 * i, 9, 2, 0⟩
def TABLE_CTX_KEYSEL_SLOT (u c i : Nat) : Fld := ⟨0x602000 + 0x400 * u + 0x200 * c + 0x4 * i, 0, 9, 0⟩
/-- TABLE[u].CTX[c].CFG (R187). -/
def TABLE_CTX_CFG_TMO (u c : Nat) : Fld := ⟨0x602060 + 0x400 * u + 0x200 * c, 16, 16, 0⟩
def TABLE_CTX_CFG_REGION (u c : Nat) : Fld := ⟨0x602060 + 0x400 * u + 0x200 * c, 1, 3, 0⟩
def TABLE_CTX_CFG_EN (u c : Nat) : Fld := ⟨0x602060 + 0x400 * u + 0x200 * c, 0, 1, 0⟩
/-- TABLE[u].CTX[c].CTRL (R187). -/
def TABLE_CTX_CTRL (u c : Nat) : Fld := ⟨0x602064 + 0x400 * u + 0x200 * c, 0, 1, 0⟩
/-- TABLE[u].CTX[c].STATUS (R187). -/
def TABLE_CTX_STATUS_ROUND (u c : Nat) : Fld := ⟨0x602068 + 0x400 * u + 0x200 * c, 28, 4, 0⟩
def TABLE_CTX_STATUS_WAITING (u c : Nat) : Fld := ⟨0x602068 + 0x400 * u + 0x200 * c, 27, 1, 0⟩
def TABLE_CTX_STATUS_LAST_KEY (u c : Nat) : Fld := ⟨0x602068 + 0x400 * u + 0x200 * c, 0, 22, 0⟩
/-- TABLE[u].CTX[c].COUNT (R187). -/
def TABLE_CTX_COUNT_LOOKUPS (u c : Nat) : Fld := ⟨0x60206C + 0x400 * u + 0x200 * c, 16, 16, 0⟩
def TABLE_CTX_COUNT_ABANDONED (u c : Nat) : Fld := ⟨0x60206C + 0x400 * u + 0x200 * c, 8, 8, 0⟩
def TABLE_CTX_COUNT_PARITY (u c : Nat) : Fld := ⟨0x60206C + 0x400 * u + 0x200 * c, 0, 8, 0⟩
/-- MW.ILLEGAL (R213). -/
def MW_ILLEGAL_VALID (t : Nat) : Fld := ⟨tileBase t + 0x7000, 31, 1, 0⟩
def MW_ILLEGAL_FIELD (t : Nat) : Fld := ⟨tileBase t + 0x7000, 24, 4, 0⟩
def MW_ILLEGAL_ADDR (t : Nat) : Fld := ⟨tileBase t + 0x7000, 0, 12, 0⟩
/-- MW.ILLEGAL_COUNT (R213). -/
def MW_ILLEGAL_COUNT (t : Nat) : Fld := ⟨tileBase t + 0x7004, 0, 16, 0⟩
/-- SEQ.CTRL (R236). -/
def SEQ_CTRL_RESYNC (t : Nat) : Fld := ⟨tileBase t + 0x0, 4, 1, 0⟩
def SEQ_CTRL_HALT (t : Nat) : Fld := ⟨tileBase t + 0x0, 3, 1, 0⟩
def SEQ_CTRL_STOP (t : Nat) : Fld := ⟨tileBase t + 0x0, 2, 1, 0⟩
def SEQ_CTRL_STEP (t : Nat) : Fld := ⟨tileBase t + 0x0, 1, 1, 0⟩
def SEQ_CTRL_RESUME (t : Nat) : Fld := ⟨tileBase t + 0x0, 0, 1, 0⟩
/-- SEQ.STATE (R236). -/
def SEQ_STATE_ADDR (t : Nat) : Fld := ⟨tileBase t + 0x4, 16, 12, 0⟩
def SEQ_STATE_VEC (t : Nat) : Fld := ⟨tileBase t + 0x4, 5, 4, 0⟩
def SEQ_STATE_ACTIVE (t : Nat) : Fld := ⟨tileBase t + 0x4, 4, 1, 0⟩
def SEQ_STATE_STEPPING (t : Nat) : Fld := ⟨tileBase t + 0x4, 2, 1, 0⟩
def SEQ_STATE_STATE (t : Nat) : Fld := ⟨tileBase t + 0x4, 0, 2, 0⟩
/-- SEQ.HALT_INFO (R236). -/
def SEQ_HALT_INFO_PARGRP (t : Nat) : Fld := ⟨tileBase t + 0x8, 20, 4, 0⟩
def SEQ_HALT_INFO_ADDR (t : Nat) : Fld := ⟨tileBase t + 0x8, 4, 12, 0⟩
def SEQ_HALT_INFO_CAUSE (t : Nat) : Fld := ⟨tileBase t + 0x8, 0, 4, 0⟩
/-- SEQ.RESTART (R236). -/
def SEQ_RESTART (t : Nat) : Fld := ⟨tileBase t + 0xC, 0, 12, 0⟩
/-- SEQ.CFG (R236). -/
def SEQ_CFG_START (t : Nat) : Fld := ⟨tileBase t + 0x10, 16, 12, 0⟩
def SEQ_CFG_BRINGUP (t : Nat) : Fld := ⟨tileBase t + 0x10, 0, 1, 0⟩
/-- SEQ.ATTN (R236). -/
def SEQ_ATTN (t : Nat) : Fld := ⟨tileBase t + 0x14, 0, 16, 0⟩
/-- SEQ.ATTN_EN (R236). -/
def SEQ_ATTN_EN (t : Nat) : Fld := ⟨tileBase t + 0x18, 0, 16, 0⟩
/-- SEQ.ATTN_COUNT (R236). -/
def SEQ_ATTN_COUNT_DEFER (t : Nat) : Fld := ⟨tileBase t + 0x1C, 16, 16, 0⟩
def SEQ_ATTN_COUNT_TAKEN (t : Nat) : Fld := ⟨tileBase t + 0x1C, 0, 16, 0⟩
/-- SEQ.STARVE (R236). -/
def SEQ_STARVE_MAXRUN (t : Nat) : Fld := ⟨tileBase t + 0x20, 16, 16, 0⟩
def SEQ_STARVE_LIMIT (t : Nat) : Fld := ⟨tileBase t + 0x20, 0, 16, 0x400⟩
/-- SEQ.WORDS (R236). -/
def SEQ_WORDS (t : Nat) : Fld := ⟨tileBase t + 0x24, 0, 32, 0⟩
/-- SEQ.SP (R236). -/
def SEQ_SP (t : Nat) : Fld := ⟨tileBase t + 0x28, 0, 5, 0⟩
/-- SEQ.LC[n] (R236). -/
def SEQ_LC (t n : Nat) : Fld := ⟨tileBase t + 0x30 + 0x4 * n, 0, 20, 0⟩
/-- SEQ.STACK[i] (R236). -/
def SEQ_STACK (t i : Nat) : Fld := ⟨tileBase t + 0x40 + 0x4 * i, 0, 12, 0⟩
/-- SEQ.VEC[i] (R236). -/
def SEQ_VEC (t i : Nat) : Fld := ⟨tileBase t + 0x80 + 0x4 * i, 0, 12, 0⟩
/-- CAP.STATE (R261). -/
def CAP_STATE_FILL (t : Nat) : Fld := ⟨tileBase t + 0x7400, 16, 13, 0⟩
def CAP_STATE_PCLASS (t : Nat) : Fld := ⟨tileBase t + 0x7400, 10, 5, 0⟩
def CAP_STATE_PVALID (t : Nat) : Fld := ⟨tileBase t + 0x7400, 9, 1, 0⟩
def CAP_STATE_CLASS (t : Nat) : Fld := ⟨tileBase t + 0x7400, 4, 5, 0⟩
def CAP_STATE_STATE (t : Nat) : Fld := ⟨tileBase t + 0x7400, 0, 3, 0⟩
/-- CAP.RECORDS (R261). -/
def CAP_RECORDS (t : Nat) : Fld := ⟨tileBase t + 0x7404, 0, 32, 0⟩
/-- CAP.LOST (R261). -/
def CAP_LOST (t : Nat) : Fld := ⟨tileBase t + 0x7408, 0, 32, 0⟩
/-- CAP.DEAD_LO (R261). -/
def CAP_DEAD_LO (t : Nat) : Fld := ⟨tileBase t + 0x740C, 0, 32, 0⟩
/-- CAP.DEAD_HI (R261). -/
def CAP_DEAD_HI (t : Nat) : Fld := ⟨tileBase t + 0x7410, 0, 16, 0⟩
/-- CAP.MISC (R261). -/
def CAP_MISC_SNAP_LOST (t : Nat) : Fld := ⟨tileBase t + 0x7414, 16, 16, 0⟩
def CAP_MISC_STRAY (t : Nat) : Fld := ⟨tileBase t + 0x7414, 0, 16, 0⟩
/-- CAP.FLAGCNT (R261). -/
def CAP_FLAGCNT_TRUNC (t : Nat) : Fld := ⟨tileBase t + 0x7418, 16, 16, 0⟩
def CAP_FLAGCNT_SHORT (t : Nat) : Fld := ⟨tileBase t + 0x7418, 0, 16, 0⟩
/-- CAP.GROUP (R261). -/
def CAP_GROUP_SETTLE (t : Nat) : Fld := ⟨tileBase t + 0x7420, 8, 8, 0x18⟩
def CAP_GROUP_MEMBER (t : Nat) : Fld := ⟨tileBase t + 0x7420, 0, 1, 0⟩
/-- CAP.XGROUP (R261). -/
def CAP_XGROUP_EN (t : Nat) : Fld := ⟨tileBase t + 0x7424, 31, 1, 0⟩
def CAP_XGROUP_DEVNUM (t : Nat) : Fld := ⟨tileBase t + 0x7424, 0, 6, 0⟩
/-- CAP.XLINKS (R261). -/
def CAP_XLINKS (t : Nat) : Fld := ⟨tileBase t + 0x7428, 0, 32, 0⟩
/-- CAP.XCOUNT (R261). -/
def CAP_XCOUNT_CHECK_ERR (t : Nat) : Fld := ⟨tileBase t + 0x742C, 16, 16, 0⟩
def CAP_XCOUNT_RECEIVED (t : Nat) : Fld := ⟨tileBase t + 0x742C, 0, 16, 0⟩
/-- CAP.TIN[i] (R261). -/
def CAP_TIN_DROP (t i : Nat) : Fld := ⟨tileBase t + 0x7440 + 0x4 * i, 16, 16, 0⟩
def CAP_TIN_DELAY (t i : Nat) : Fld := ⟨tileBase t + 0x7440 + 0x4 * i, 4, 12, 0⟩
def CAP_TIN_POL (t i : Nat) : Fld := ⟨tileBase t + 0x7440 + 0x4 * i, 0, 1, 0⟩
/-- CAP.LAST_W_LO (R261). -/
def CAP_LAST_W_LO (t : Nat) : Fld := ⟨tileBase t + 0x7460, 0, 32, 0⟩
/-- CAP.LAST_W_HI (R261). -/
def CAP_LAST_W_HI (t : Nat) : Fld := ⟨tileBase t + 0x7464, 0, 32, 0⟩
/-- EVPORT.IN[i] (R277). -/
def EVPORT_IN (t i : Nat) : Fld := ⟨tileBase t + 0x800 + 0x4 * i, 0, 32, 0⟩
/-- EVPORT.OVR (R277). -/
def EVPORT_OVR (t : Nat) : Fld := ⟨tileBase t + 0x840, 0, 16, 0⟩
/-- EVPORT.LOOP (R277). -/
def EVPORT_LOOP_COUNT (t : Nat) : Fld := ⟨tileBase t + 0x844, 16, 16, 0⟩
def EVPORT_LOOP_FLAG (t : Nat) : Fld := ⟨tileBase t + 0x844, 0, 1, 0⟩
/-- EVPORT.OVRCNT[n] (R277). -/
def EVPORT_OVRCNT_HI (t n : Nat) : Fld := ⟨tileBase t + 0x848 + 0x4 * n, 16, 16, 0⟩
def EVPORT_OVRCNT_LO (t n : Nat) : Fld := ⟨tileBase t + 0x848 + 0x4 * n, 0, 16, 0⟩
/-- EVPORT.GEN (R277). The tables give +0x60 to it and to EVPORT.OVRCNT[6]; it is kept at an internal address of the tile, so that
the two share nothing, and a read of +0x60 meets it. [note 140: DESIGN CHOICE] -/
def EVPORT_GEN_CUR_VALID (t : Nat) : Fld := ⟨2 ^ 40 + t * 2 ^ 24 + 0x240, 3, 1, 0⟩
def EVPORT_GEN_CUR (t : Nat) : Fld := ⟨2 ^ 40 + t * 2 ^ 24 + 0x240, 0, 3, 0⟩
/-- EVPORT.PEND_GEN[n] (R277). -/
def EVPORT_PEND_GEN_SET (t n m : Nat) : Fld := ⟨tileBase t + 0x870 + 0x4 * n, (4 * m + 3), 1, 0⟩
def EVPORT_PEND_GEN_GEN (t n m : Nat) : Fld := ⟨tileBase t + 0x870 + 0x4 * n, (4 * m), 3, 0⟩
/-- EVPORT.NOTE_Q (R277). -/
def EVPORT_NOTE_Q (t : Nat) : Fld := ⟨tileBase t + 0x880, 0, 9, 0⟩
/-- EVENTS.EVT_FIRE (R278). -/
def EVENTS_EVT_FIRE : Fld := ⟨0x30000, 0, 9, 0⟩
/-- EVENTS.ERR (R278). -/
def EVENTS_ERR_PARITY : Fld := ⟨0x30004, 16, 16, 0⟩
def EVENTS_ERR_MERGED : Fld := ⟨0x30004, 0, 16, 0⟩
/-- EVENTS.LOOP (R278). -/
def EVENTS_LOOP_COUNT : Fld := ⟨0x30008, 16, 16, 0⟩
def EVENTS_LOOP_FLAG : Fld := ⟨0x30008, 0, 1, 0⟩
/-- EVENTS.NOTE_Q (R278). -/
def EVENTS_NOTE_Q : Fld := ⟨0x3000C, 0, 14, 0⟩
/-- EVENTS.NOTE_LOST (R278). -/
def EVENTS_NOTE_LOST : Fld := ⟨0x30010, 0, 16, 0⟩
/-- EVENTS.ALERT_STATE (R278). -/
def EVENTS_ALERT_STATE : Fld := ⟨0x30014, 0, 4, 0⟩
/-- EVENTS.STATUS[j] (R278). -/
def EVENTS_STATUS (j : Nat) : Fld := ⟨0x30100 + 0x4 * j, 0, 32, 0⟩
/-- EVENTS.NOTE_EN[j] (R278). -/
def EVENTS_NOTE_EN (j : Nat) : Fld := ⟨0x30200 + 0x4 * j, 0, 32, 0⟩
/-- EVENTS.ALERT[a].MASK[j] (R278). -/
def EVENTS_ALERT_MASK (a j : Nat) : Fld := ⟨0x30300 + 0x40 * a + 0x4 * j, 0, 32, 0⟩
/-- QT[i].CFG (R304). -/
def QT_CFG_STREAM (t i : Nat) : Fld := ⟨tileBase t + 0x20000 + 0x20 * i, 22, 1, 0⟩
def QT_CFG_RESP (t i : Nat) : Fld := ⟨tileBase t + 0x20000 + 0x20 * i, 13, 9, (if t = 0 ∧ i = 0 then 128 else 0)⟩
def QT_CFG_DIR (t i : Nat) : Fld := ⟨tileBase t + 0x20000 + 0x20 * i, 12, 1, 0⟩
def QT_CFG_CONSUMER (t i : Nat) : Fld := ⟨tileBase t + 0x20000 + 0x20 * i, 9, 3, (if t = 0 ∧ i = 1 then CONSUMER_IMAGE else if t = 0 ∧ i = 0 then CONSUMER_REG else 0)⟩
def QT_CFG_SIZE_LOG2 (t i : Nat) : Fld := ⟨tileBase t + 0x20000 + 0x20 * i, 4, 5, (if t = 0 ∧ (i = 0 ∨ i = 1 ∨ i = 128) then 6 else 0)⟩
def QT_CFG_CHAN (t i : Nat) : Fld := ⟨tileBase t + 0x20000 + 0x20 * i, 3, 1, 0⟩
def QT_CFG_PLACE (t i : Nat) : Fld := ⟨tileBase t + 0x20000 + 0x20 * i, 2, 1, 0⟩
def QT_CFG_POLICY (t i : Nat) : Fld := ⟨tileBase t + 0x20000 + 0x20 * i, 1, 1, 0⟩
def QT_CFG_EN (t i : Nat) : Fld := ⟨tileBase t + 0x20000 + 0x20 * i, 0, 1, (if t = 0 ∧ (i = 0 ∨ i = 1 ∨ i = 128) then 1 else 0)⟩
/-- QT[i].BASE (R304). -/
def QT_BASE (t i : Nat) : Fld := ⟨tileBase t + 0x20004 + 0x20 * i, 0, 24, (if t = 0 ∧ i = 1 then 64 else if t = 0 ∧ i = 128 then 128 else 0)⟩
/-- QT[i].PEER (R304). -/
def QT_PEER_LINK (t i : Nat) : Fld := ⟨tileBase t + 0x20008 + 0x20 * i, 21, 5, 0⟩
def QT_PEER_REMOTE (t i : Nat) : Fld := ⟨tileBase t + 0x20008 + 0x20 * i, 20, 1, 0⟩
def QT_PEER_DEVICE (t i : Nat) : Fld := ⟨tileBase t + 0x20008 + 0x20 * i, 14, 6, 0⟩
def QT_PEER_TILE (t i : Nat) : Fld := ⟨tileBase t + 0x20008 + 0x20 * i, 9, 5, 0⟩
def QT_PEER_INDEX (t i : Nat) : Fld := ⟨tileBase t + 0x20008 + 0x20 * i, 0, 9, 0⟩
/-- QT[i].SEQ_A (R304). -/
def QT_SEQ_A (t i : Nat) : Fld := ⟨tileBase t + 0x2000C + 0x20 * i, 0, 32, (if 128 ≤ i ∧ i < 256 then 0xFFFFFFFF else 0)⟩
/-- QT[i].SEQ_B (R304). -/
def QT_SEQ_B (t i : Nat) : Fld := ⟨tileBase t + 0x20010 + 0x20 * i, 0, 32, 0⟩
/-- QT[i].FILL (R304). -/
def QT_FILL (t i : Nat) : Fld := ⟨tileBase t + 0x20014 + 0x20 * i, 0, 25, 0⟩
/-- QT[i].CNT0 (R304). -/
def QT_CNT0_GAP (t i : Nat) : Fld := ⟨tileBase t + 0x20018 + 0x20 * i, 16, 16, 0⟩
def QT_CNT0_DUP (t i : Nat) : Fld := ⟨tileBase t + 0x20018 + 0x20 * i, 0, 16, 0⟩
/-- QT[i].CNT1 (R304). -/
def QT_CNT1_BAD (t i : Nat) : Fld := ⟨tileBase t + 0x2001C + 0x20 * i, 16, 16, 0⟩
def QT_CNT1_LOST (t i : Nat) : Fld := ⟨tileBase t + 0x2001C + 0x20 * i, 0, 16, 0⟩
/-- QUEUE.STATUS (R305). -/
def QUEUE_STATUS_LAST_OVF (t : Nat) : Fld := ⟨tileBase t + 0x24000, 21, 9, 0⟩
def QUEUE_STATUS_ALLOC (t : Nat) : Fld := ⟨tileBase t + 0x24000, 0, 14, 0⟩
/-- TRANSPORT.CFG (R306). -/
def TRANSPORT_CFG_ALLOW_EN : Fld := ⟨0x280000, 17, 1, 0⟩
def TRANSPORT_CFG_JUMBO : Fld := ⟨0x280000, 16, 1, 0⟩
def TRANSPORT_CFG_UDP_PORT : Fld := ⟨0x280000, 0, 16, 0xB84E⟩
/-- TRANSPORT.TIMING (R306). -/
def TRANSPORT_TIMING_RETX : Fld := ⟨0x280004, 16, 16, 0x64⟩
def TRANSPORT_TIMING_COALESCE : Fld := ⟨0x280004, 0, 16, 0x64⟩
/-- TRANSPORT.SESSION (R306). -/
def TRANSPORT_SESSION_BUMP : Fld := ⟨0x280008, 31, 1, 0⟩
def TRANSPORT_SESSION_OWNER_PORT : Fld := ⟨0x280008, 18, 5, 0⟩
def TRANSPORT_SESSION_OWNER_V6 : Fld := ⟨0x280008, 17, 1, 0⟩
def TRANSPORT_SESSION_OWNER_VALID : Fld := ⟨0x280008, 16, 1, 0⟩
def TRANSPORT_SESSION_EPOCH : Fld := ⟨0x280008, 0, 16, 0⟩
/-- TRANSPORT.OWNER_IP[n] (R306). -/
def TRANSPORT_OWNER_IP (n : Nat) : Fld := ⟨0x280010 + 0x4 * n, 0, 32, 0⟩
/-- TRANSPORT.OWNER_UDP (R306). -/
def TRANSPORT_OWNER_UDP : Fld := ⟨0x280020, 0, 16, 0⟩
/-- TRANSPORT.IP4 (R306). -/
def TRANSPORT_IP4 : Fld := ⟨0x280030, 0, 32, 0⟩
/-- TRANSPORT.IP6[n] (R306). -/
def TRANSPORT_IP6 (n : Nat) : Fld := ⟨0x280040 + 0x4 * n, 0, 32, 0⟩
/-- TRANSPORT.COUNT0 (R306). -/
def TRANSPORT_COUNT0_ALLOW_DROP : Fld := ⟨0x280060, 16, 16, 0⟩
def TRANSPORT_COUNT0_EPOCH_DROP : Fld := ⟨0x280060, 0, 16, 0⟩
/-- TRANSPORT.COUNT1 (R306). -/
def TRANSPORT_COUNT1_FORMAT_DROP : Fld := ⟨0x280064, 16, 16, 0⟩
def TRANSPORT_COUNT1_CRC_DROP : Fld := ⟨0x280064, 0, 16, 0⟩
/-- TRANSPORT.COUNT2 (R306). -/
def TRANSPORT_COUNT2_CREDIT_ERR : Fld := ⟨0x280068, 16, 16, 0⟩
def TRANSPORT_COUNT2_RETX : Fld := ⟨0x280068, 0, 16, 0⟩
/-- TRANSPORT.ALLOW[n].ADDR[m] (R306). -/
def TRANSPORT_ALLOW_ADDR (n m : Nat) : Fld := ⟨0x280100 + 0x20 * n + 0x4 * m, 0, 32, 0⟩
/-- TRANSPORT.ALLOW[n].CTRL (R306). -/
def TRANSPORT_ALLOW_CTRL_PREFIX (n : Nat) : Fld := ⟨0x280110 + 0x20 * n, 2, 8, 0⟩
def TRANSPORT_ALLOW_CTRL_V6 (n : Nat) : Fld := ⟨0x280110 + 0x20 * n, 1, 1, 0⟩
def TRANSPORT_ALLOW_CTRL_EN (n : Nat) : Fld := ⟨0x280110 + 0x20 * n, 0, 1, 0⟩
/-- TRANSPORT.TXPORT[t] (R306). -/
def TRANSPORT_TXPORT_FALLBACK (t : Nat) : Fld := ⟨0x280200 + 0x4 * t, 6, 1, 0⟩
def TRANSPORT_TXPORT_USE_CLAIM (t : Nat) : Fld := ⟨0x280200 + 0x4 * t, 5, 1, 1⟩
def TRANSPORT_TXPORT_PORT (t : Nat) : Fld := ⟨0x280200 + 0x4 * t, 0, 5, 0⟩
/-- LOADER.CTRL (R332). -/
def LOADER_CTRL_HOST_COMP : Fld := ⟨0x700000, 2, 1, 0⟩
def LOADER_CTRL_CLEAR : Fld := ⟨0x700000, 1, 1, 0⟩
def LOADER_CTRL_ABORT : Fld := ⟨0x700000, 0, 1, 0⟩
/-- LOADER.STATE (R332). -/
def LOADER_STATE_VERIFIED : Fld := ⟨0x700004, 11, 1, 0⟩
def LOADER_STATE_SOURCE : Fld := ⟨0x700004, 8, 3, 0⟩
def LOADER_STATE_STATE : Fld := ⟨0x700004, 0, 3, 0⟩
/-- LOADER.ERROR (R332). -/
def LOADER_ERROR_VALID : Fld := ⟨0x700008, 31, 1, 0⟩
def LOADER_ERROR_CAUSE : Fld := ⟨0x700008, 24, 4, 0⟩
def LOADER_ERROR_SEQ : Fld := ⟨0x700008, 0, 24, 0⟩
/-- LOADER.IMAGE_ID (R332). -/
def LOADER_IMAGE_ID : Fld := ⟨0x70000C, 0, 32, 0⟩
/-- LOADER.POINT_LO (R332). -/
def LOADER_POINT_LO : Fld := ⟨0x700010, 0, 32, 0⟩
/-- LOADER.POINT_HI (R332). -/
def LOADER_POINT_HI : Fld := ⟨0x700014, 0, 32, 0⟩
/-- LOADER.SWAP_PEND (R332). -/
def LOADER_SWAP_PEND : Fld := ⟨0x700018, 0, 32, 0⟩
/-- LOADER.COUNT (R332). -/
def LOADER_COUNT_COMMITS : Fld := ⟨0x70001C, 16, 16, 0⟩
def LOADER_COUNT_ERRORS : Fld := ⟨0x70001C, 0, 16, 0⟩
/-- LOADER.REJECT (R332). -/
def LOADER_REJECT_VALID : Fld := ⟨0x700020, 31, 1, 0⟩
def LOADER_REJECT_PATH : Fld := ⟨0x700020, 16, 2, 0⟩
def LOADER_REJECT_COUNT : Fld := ⟨0x700020, 0, 16, 0⟩
/-- LOADER.REJECT_ADDR_LO (R332). -/
def LOADER_REJECT_ADDR_LO : Fld := ⟨0x700024, 0, 32, 0⟩
/-- LOADER.REJECT_ADDR_HI (R332). -/
def LOADER_REJECT_ADDR_HI : Fld := ⟨0x700028, 0, 8, 0⟩
/-- LOADER.STAGE (R332). -/
def LOADER_STAGE_CHAN : Fld := ⟨0x700030, 24, 1, 0⟩
def LOADER_STAGE_BASE : Fld := ⟨0x700030, 0, 24, 0⟩
/-- LOADER.DEVSET (R332). -/
def LOADER_DEVSET : Fld := ⟨0x700040, 0, 1, 0⟩
/-- LOADER.BOOT_INFO (R332). -/
def LOADER_BOOT_INFO_FALLBACK : Fld := ⟨0x700080, 3, 1, 0⟩
def LOADER_BOOT_INFO_SLOT1_VALID : Fld := ⟨0x700080, 2, 1, 0⟩
def LOADER_BOOT_INFO_SLOT0_VALID : Fld := ⟨0x700080, 1, 1, 0⟩
def LOADER_BOOT_INFO_SLOT : Fld := ⟨0x700080, 0, 1, 0⟩
/-- LOADER.BOOT_GEN (R332). -/
def LOADER_BOOT_GEN : Fld := ⟨0x700084, 0, 32, 0⟩
/-- LOADER.FLASH_CTRL (R332). -/
def LOADER_FLASH_CTRL_BUSY : Fld := ⟨0x700100, 31, 1, 0⟩
def LOADER_FLASH_CTRL_OP : Fld := ⟨0x700100, 2, 2, 0⟩
def LOADER_FLASH_CTRL_GO : Fld := ⟨0x700100, 0, 1, 0⟩
/-- LOADER.FLASH_ADDR (R332). -/
def LOADER_FLASH_ADDR : Fld := ⟨0x700104, 0, 32, 0⟩
/-- LOADER.KEYHASH[n] (R332). -/
def LOADER_KEYHASH (n : Nat) : Fld := ⟨0x700200 + 0x4 * n, 0, 32, 0⟩
/-- LOADER.FUSE (R332). -/
def LOADER_FUSE_SIGN_REQUIRED : Fld := ⟨0x700230, 1, 1, 0⟩
def LOADER_FUSE_HASH_SET : Fld := ⟨0x700230, 0, 1, 0⟩
/-- LOADER.FUSE_PROG (R332). -/
def LOADER_FUSE_PROG_BUSY : Fld := ⟨0x700240, 31, 1, 0⟩
def LOADER_FUSE_PROG_PROG_SIGN : Fld := ⟨0x700240, 1, 1, 0⟩
def LOADER_FUSE_PROG_PROG_HASH : Fld := ⟨0x700240, 0, 1, 0⟩
/-- LOADER.FUSE_DATA[n] (R332). -/
def LOADER_FUSE_DATA (n : Nat) : Fld := ⟨0x700250 + 0x4 * n, 0, 32, 0⟩
/-- LOADER.FLASH_BUF[n] (R332). [note 9: DESIGN CHOICE] -/
def LOADER_FLASH_BUF (n : Nat) : Fld := ⟨0x701000 + 0x4 * n, 0, 32, 0⟩
/-- LANE[n].CFG (R356). -/
def LANE_CFG_POL_AUTO (n : Nat) : Fld := ⟨0x100000 + 0x1000 * n, 4, 1, 1⟩
def LANE_CFG_RX_INV (n : Nat) : Fld := ⟨0x100000 + 0x1000 * n, 3, 1, 0⟩
def LANE_CFG_TX_INV (n : Nat) : Fld := ⟨0x100000 + 0x1000 * n, 2, 1, 0⟩
def LANE_CFG_ROLE (n : Nat) : Fld := ⟨0x100000 + 0x1000 * n, 0, 2, (if n < 2 then 1 else 0)⟩
/-- LANE[n].CTRL (R356). -/
def LANE_CTRL_LOOP (n : Nat) : Fld := ⟨0x100004 + 0x1000 * n, 2, 2, 0⟩
def LANE_CTRL_READAPT (n : Nat) : Fld := ⟨0x100004 + 0x1000 * n, 1, 1, 0⟩
def LANE_CTRL_RESTART (n : Nat) : Fld := ⟨0x100004 + 0x1000 * n, 0, 1, 0⟩
/-- LANE[n].STATUS (R356). -/
def LANE_STATUS_PEER_IDX (n : Nat) : Fld := ⟨0x100008 + 0x1000 * n, 12, 2, 0⟩
def LANE_STATUS_PEER_VALID (n : Nat) : Fld := ⟨0x100008 + 0x1000 * n, 11, 1, 0⟩
def LANE_STATUS_POL_FAIL (n : Nat) : Fld := ⟨0x100008 + 0x1000 * n, 10, 1, 0⟩
def LANE_STATUS_LULL_RX (n : Nat) : Fld := ⟨0x100008 + 0x1000 * n, 9, 1, 0⟩
def LANE_STATUS_LULL_TX (n : Nat) : Fld := ⟨0x100008 + 0x1000 * n, 8, 1, 0⟩
def LANE_STATUS_READAPTING (n : Nat) : Fld := ⟨0x100008 + 0x1000 * n, 7, 1, 0⟩
def LANE_STATUS_FROZEN (n : Nat) : Fld := ⟨0x100008 + 0x1000 * n, 6, 1, 0⟩
def LANE_STATUS_HIBER (n : Nat) : Fld := ⟨0x100008 + 0x1000 * n, 5, 1, 0⟩
def LANE_STATUS_BLOCK_LOCK (n : Nat) : Fld := ⟨0x100008 + 0x1000 * n, 4, 1, 0⟩
def LANE_STATUS_STATE (n : Nat) : Fld := ⟨0x100008 + 0x1000 * n, 0, 3, 0⟩
/-- LANE[n].EVT (R356). -/
def LANE_EVT_SCAN_DONE (n : Nat) : Fld := ⟨0x10000C + 0x1000 * n, 6, 1, 0⟩
def LANE_EVT_CHECK_DONE (n : Nat) : Fld := ⟨0x10000C + 0x1000 * n, 5, 1, 0⟩
def LANE_EVT_PRBS_ERR (n : Nat) : Fld := ⟨0x10000C + 0x1000 * n, 4, 1, 0⟩
def LANE_EVT_EYE_LOW (n : Nat) : Fld := ⟨0x10000C + 0x1000 * n, 3, 1, 0⟩
def LANE_EVT_POL_FLIP (n : Nat) : Fld := ⟨0x10000C + 0x1000 * n, 2, 1, 0⟩
def LANE_EVT_DOWN (n : Nat) : Fld := ⟨0x10000C + 0x1000 * n, 1, 1, 0⟩
def LANE_EVT_UP (n : Nat) : Fld := ⟨0x10000C + 0x1000 * n, 0, 1, 0⟩
/-- LANE[n].EVT_EN (R356). -/
def LANE_EVT_EN_SCAN_DONE (n : Nat) : Fld := ⟨0x100010 + 0x1000 * n, 6, 1, 0⟩
def LANE_EVT_EN_CHECK_DONE (n : Nat) : Fld := ⟨0x100010 + 0x1000 * n, 5, 1, 0⟩
def LANE_EVT_EN_PRBS_ERR (n : Nat) : Fld := ⟨0x100010 + 0x1000 * n, 4, 1, 0⟩
def LANE_EVT_EN_EYE_LOW (n : Nat) : Fld := ⟨0x100010 + 0x1000 * n, 3, 1, 0⟩
def LANE_EVT_EN_POL_FLIP (n : Nat) : Fld := ⟨0x100010 + 0x1000 * n, 2, 1, 0⟩
def LANE_EVT_EN_DOWN (n : Nat) : Fld := ⟨0x100010 + 0x1000 * n, 1, 1, 0⟩
def LANE_EVT_EN_UP (n : Nat) : Fld := ⟨0x100010 + 0x1000 * n, 0, 1, 0⟩
/-- LANE[n].TXEQ (R356). -/
def LANE_TXEQ_SWING (n : Nat) : Fld := ⟨0x100014 + 0x1000 * n, 16, 4, 0xC⟩
def LANE_TXEQ_POST (n : Nat) : Fld := ⟨0x100014 + 0x1000 * n, 8, 4, 2⟩
def LANE_TXEQ_PRE (n : Nat) : Fld := ⟨0x100014 + 0x1000 * n, 0, 4, 0⟩
/-- LANE[n].ADAPT (R356). -/
def LANE_ADAPT_READAPTS (n : Nat) : Fld := ⟨0x100018 + 0x1000 * n, 16, 16, 0⟩
def LANE_ADAPT_CTLE (n : Nat) : Fld := ⟨0x100018 + 0x1000 * n, 0, 5, 0⟩
/-- LANE[n].DFE[k] (R356). -/
def LANE_DFE_TAP (n k m : Nat) : Fld := ⟨0x100020 + 0x1000 * n + 0x4 * k, (8 * m), 8, 0⟩
/-- LANE[n].EYE_CFG (R356). -/
def LANE_EYE_CFG_MON_EN (n : Nat) : Fld := ⟨0x100030 + 0x1000 * n, 8, 1, 1⟩
def LANE_EYE_CFG_THR (n : Nat) : Fld := ⟨0x100030 + 0x1000 * n, 0, 8, 0x14⟩
/-- LANE[n].EYE (R356). -/
def LANE_EYE_BELOW (n : Nat) : Fld := ⟨0x100034 + 0x1000 * n, 16, 16, 0⟩
def LANE_EYE_MIN (n : Nat) : Fld := ⟨0x100034 + 0x1000 * n, 8, 8, 0xFF⟩
def LANE_EYE_LAST (n : Nat) : Fld := ⟨0x100034 + 0x1000 * n, 0, 8, 0⟩
/-- LANE[n].SCAN_CFG (R356). -/
def LANE_SCAN_CFG_BUSY (n : Nat) : Fld := ⟨0x100040 + 0x1000 * n, 31, 1, 0⟩
def LANE_SCAN_CFG_DONE (n : Nat) : Fld := ⟨0x100040 + 0x1000 * n, 30, 1, 0⟩
def LANE_SCAN_CFG_ABORTED (n : Nat) : Fld := ⟨0x100040 + 0x1000 * n, 29, 1, 0⟩
def LANE_SCAN_CFG_GO (n : Nat) : Fld := ⟨0x100040 + 0x1000 * n, 28, 1, 0⟩
def LANE_SCAN_CFG_DWELL_LOG2 (n : Nat) : Fld := ⟨0x100040 + 0x1000 * n, 16, 6, 0x1E⟩
def LANE_SCAN_CFG_VOFS (n : Nat) : Fld := ⟨0x100040 + 0x1000 * n, 8, 8, 0⟩
def LANE_SCAN_CFG_HOFS (n : Nat) : Fld := ⟨0x100040 + 0x1000 * n, 0, 6, 0⟩
/-- LANE[n].SCAN_BITS (R356). -/
def LANE_SCAN_BITS (n : Nat) : Fld := ⟨0x100044 + 0x1000 * n, 0, 32, 0⟩
/-- LANE[n].SCAN_ERR (R356). -/
def LANE_SCAN_ERR (n : Nat) : Fld := ⟨0x100048 + 0x1000 * n, 0, 32, 0⟩
/-- LANE[n].PCS_ERR (R356). -/
def LANE_PCS_ERR_SYNC (n : Nat) : Fld := ⟨0x100050 + 0x1000 * n, 16, 16, 0⟩
def LANE_PCS_ERR_DOWNS (n : Nat) : Fld := ⟨0x100050 + 0x1000 * n, 0, 16, 0⟩
/-- LANE[n].CHECK (R356). -/
def LANE_CHECK_BUSY (n : Nat) : Fld := ⟨0x100054 + 0x1000 * n, 3, 1, 0⟩
def LANE_CHECK_DONE (n : Nat) : Fld := ⟨0x100054 + 0x1000 * n, 2, 1, 0⟩
def LANE_CHECK_PASS (n : Nat) : Fld := ⟨0x100054 + 0x1000 * n, 1, 1, 0⟩
def LANE_CHECK_GO (n : Nat) : Fld := ⟨0x100054 + 0x1000 * n, 0, 1, 0⟩
/-- LANE[n].PRBS (R356). -/
def LANE_PRBS_ERR (n : Nat) : Fld := ⟨0x100058 + 0x1000 * n, 16, 16, 0⟩
def LANE_PRBS_LOCKED (n : Nat) : Fld := ⟨0x100058 + 0x1000 * n, 2, 1, 0⟩
def LANE_PRBS_PAT (n : Nat) : Fld := ⟨0x100058 + 0x1000 * n, 0, 2, 0⟩
/-- LANE[n].LULL_CFG (R356). -/
def LANE_LULL_CFG_EN (n : Nat) : Fld := ⟨0x100060 + 0x1000 * n, 16, 1, 0⟩
def LANE_LULL_CFG_IDLE (n : Nat) : Fld := ⟨0x100060 + 0x1000 * n, 0, 16, 0xA⟩
/-- LANE[n].LULL_COUNT (R356). -/
def LANE_LULL_COUNT_RX (n : Nat) : Fld := ⟨0x100064 + 0x1000 * n, 16, 16, 0⟩
def LANE_LULL_COUNT_TX (n : Nat) : Fld := ⟨0x100064 + 0x1000 * n, 0, 16, 0⟩
/-- LINKS.DEV (R382). -/
def LINKS_DEV : Fld := ⟨0x201000, 0, 6, 0⟩
/-- LINK[l].CFG (R382). -/
def LINK_CFG_BASE (l : Nat) : Fld := ⟨0x200000 + 0x40 * l, 3, 5, 0⟩
def LINK_CFG_WIDTH (l : Nat) : Fld := ⟨0x200000 + 0x40 * l, 1, 2, 0⟩
def LINK_CFG_EN (l : Nat) : Fld := ⟨0x200000 + 0x40 * l, 0, 1, 0⟩
/-- LINK[l].CTRL (R382). -/
def LINK_CTRL (l : Nat) : Fld := ⟨0x200004 + 0x40 * l, 0, 1, 0⟩
/-- LINK[l].STATUS (R382). -/
def LINK_STATUS_PEER_DEV (l : Nat) : Fld := ⟨0x200008 + 0x40 * l, 16, 6, 0⟩
def LINK_STATUS_FAILED (l : Nat) : Fld := ⟨0x200008 + 0x40 * l, 12, 4, 0⟩
def LINK_STATUS_SET (l : Nat) : Fld := ⟨0x200008 + 0x40 * l, 8, 4, 0⟩
def LINK_STATUS_STATE (l : Nat) : Fld := ⟨0x200008 + 0x40 * l, 0, 2, 0⟩
/-- LINK[l].EVT (R382). -/
def LINK_EVT_TRAIN_FAIL (l : Nat) : Fld := ⟨0x20000C + 0x40 * l, 4, 1, 0⟩
def LINK_EVT_REBOND (l : Nat) : Fld := ⟨0x20000C + 0x40 * l, 3, 1, 0⟩
def LINK_EVT_DEGRADE (l : Nat) : Fld := ⟨0x20000C + 0x40 * l, 2, 1, 0⟩
def LINK_EVT_DOWN (l : Nat) : Fld := ⟨0x20000C + 0x40 * l, 1, 1, 0⟩
def LINK_EVT_UP (l : Nat) : Fld := ⟨0x20000C + 0x40 * l, 0, 1, 0⟩
/-- LINK[l].SKEW (R382). -/
def LINK_SKEW_SKEW (l i : Nat) : Fld := ⟨0x200010 + 0x40 * l, (8 * i), 8, 0⟩
/-- LINK[l].COUNT0 (R382). -/
def LINK_COUNT0_CRC_ERR (l : Nat) : Fld := ⟨0x200014 + 0x40 * l, 16, 16, 0⟩
def LINK_COUNT0_MSG_DROP (l : Nat) : Fld := ⟨0x200014 + 0x40 * l, 0, 16, 0⟩
/-- LINK[l].COUNT1 (R382). -/
def LINK_COUNT1_DEGRADES (l : Nat) : Fld := ⟨0x200018 + 0x40 * l, 24, 8, 0⟩
def LINK_COUNT1_REBONDS (l : Nat) : Fld := ⟨0x200018 + 0x40 * l, 16, 8, 0⟩
def LINK_COUNT1_C0_UNSENT (l : Nat) : Fld := ⟨0x200018 + 0x40 * l, 0, 16, 0⟩
/-- ETH[p].CFG (R383). -/
def ETH_CFG_VLAN_EN (p : Nat) : Fld := ⟨0x210000 + 0x40 * p, 16, 1, 0⟩
def ETH_CFG_PCP (p : Nat) : Fld := ⟨0x210000 + 0x40 * p, 13, 3, 0⟩
def ETH_CFG_VID (p : Nat) : Fld := ⟨0x210000 + 0x40 * p, 0, 12, 0⟩
/-- ETH[p].MAC_LO (R383). -/
def ETH_MAC_LO (p : Nat) : Fld := ⟨0x210004 + 0x40 * p, 0, 32, 0⟩
/-- ETH[p].MAC_HI (R383). -/
def ETH_MAC_HI (p : Nat) : Fld := ⟨0x210008 + 0x40 * p, 0, 16, 0⟩
/-- ETH[p].TS_DELAY (R383). -/
def ETH_TS_DELAY_RX (p : Nat) : Fld := ⟨0x21000C + 0x40 * p, 16, 16, 0⟩
def ETH_TS_DELAY_TX (p : Nat) : Fld := ⟨0x21000C + 0x40 * p, 0, 16, 0⟩
/-- ETH[p].RX_FRAMES (R383). -/
def ETH_RX_FRAMES (p : Nat) : Fld := ⟨0x210010 + 0x40 * p, 0, 32, 0⟩
/-- ETH[p].TX_FRAMES (R383). -/
def ETH_TX_FRAMES (p : Nat) : Fld := ⟨0x210014 + 0x40 * p, 0, 32, 0⟩
/-- ETH[p].RX_ERR (R383). -/
def ETH_RX_ERR_FCS (p : Nat) : Fld := ⟨0x210018 + 0x40 * p, 16, 16, 0⟩
def ETH_RX_ERR_DROP (p : Nat) : Fld := ⟨0x210018 + 0x40 * p, 0, 16, 0⟩
/-- PTP.CFG (R384). -/
def PTP_CFG_DOMAIN : Fld := ⟨0x220000, 24, 8, 0⟩
def PTP_CFG_PORT : Fld := ⟨0x220000, 13, 5, 0⟩
def PTP_CFG_CKSUM : Fld := ⟨0x220000, 5, 1, 0⟩
def PTP_CFG_TRANSPORT : Fld := ⟨0x220000, 3, 2, 0⟩
def PTP_CFG_STEP : Fld := ⟨0x220000, 2, 1, 0⟩
def PTP_CFG_ROLE : Fld := ⟨0x220000, 1, 1, 0⟩
def PTP_CFG_EN : Fld := ⟨0x220000, 0, 1, 0⟩
/-- PTP.INTERVAL (R384). -/
def PTP_INTERVAL_ANNOUNCE_LOG : Fld := ⟨0x220004, 16, 8, 1⟩
def PTP_INTERVAL_DELAY_LOG : Fld := ⟨0x220004, 8, 8, 0⟩
def PTP_INTERVAL_SYNC_LOG : Fld := ⟨0x220004, 0, 8, 0⟩
/-- PTP.QUALITY (R384). -/
def PTP_QUALITY_ACCURACY : Fld := ⟨0x220008, 24, 8, 0xFE⟩
def PTP_QUALITY_CLASS : Fld := ⟨0x220008, 16, 8, 0xF8⟩
def PTP_QUALITY_PRIORITY2 : Fld := ⟨0x220008, 8, 8, 0x80⟩
def PTP_QUALITY_PRIORITY1 : Fld := ⟨0x220008, 0, 8, 0x80⟩
/-- PTP.CLOCK_ID_LO (R384). -/
def PTP_CLOCK_ID_LO : Fld := ⟨0x220010, 0, 32, 0xFE000000⟩
/-- PTP.CLOCK_ID_HI (R384). -/
def PTP_CLOCK_ID_HI : Fld := ⟨0x220014, 0, 32, 0xFF⟩
/-- PTP.MASTER_ID_LO (R384). -/
def PTP_MASTER_ID_LO : Fld := ⟨0x220018, 0, 32, 0⟩
/-- PTP.MASTER_ID_HI (R384). -/
def PTP_MASTER_ID_HI : Fld := ⟨0x22001C, 0, 32, 0⟩
/-- PTP.MASTER_SEEN_LO (R384). -/
def PTP_MASTER_SEEN_LO : Fld := ⟨0x220020, 0, 32, 0⟩
/-- PTP.MASTER_SEEN_HI (R384). -/
def PTP_MASTER_SEEN_HI : Fld := ⟨0x220024, 0, 32, 0⟩
/-- PTP.OFFSET_LO (R384). -/
def PTP_OFFSET_LO : Fld := ⟨0x220030, 0, 32, 0⟩
/-- PTP.OFFSET_HI (R384). -/
def PTP_OFFSET_HI : Fld := ⟨0x220034, 0, 32, 0⟩
/-- PTP.DELAY_LO (R384). -/
def PTP_DELAY_LO : Fld := ⟨0x220038, 0, 32, 0⟩
/-- PTP.DELAY_HI (R384). -/
def PTP_DELAY_HI : Fld := ⟨0x22003C, 0, 32, 0⟩
/-- PTP.STATUS (R384). -/
def PTP_STATUS_EXCHANGES : Fld := ⟨0x220040, 16, 16, 0⟩
def PTP_STATUS_LOST : Fld := ⟨0x220040, 1, 1, 0⟩
def PTP_STATUS_NEW : Fld := ⟨0x220040, 0, 1, 0⟩
/-- TIME.NT_LO (R385). -/
def TIME_NT_LO : Fld := ⟨0x48000, 0, 32, 0⟩
/-- TIME.NT_SNAP_CTRL (R385). -/
def TIME_NT_SNAP_CTRL : Fld := ⟨0x48004, 0, 1, 0⟩
/-- TIME.NT_SNAP_FRAC (R385). -/
def TIME_NT_SNAP_FRAC : Fld := ⟨0x48008, 0, 32, 0⟩
/-- TIME.NT_SNAP_LO (R385). -/
def TIME_NT_SNAP_LO : Fld := ⟨0x4800C, 0, 32, 0⟩
/-- TIME.NT_SNAP_HI (R385). -/
def TIME_NT_SNAP_HI : Fld := ⟨0x48010, 0, 32, 0⟩
/-- TIME.TL_SNAP_LO (R385). -/
def TIME_TL_SNAP_LO : Fld := ⟨0x48014, 0, 32, 0⟩
/-- TIME.TL_SNAP_HI (R385). -/
def TIME_TL_SNAP_HI : Fld := ⟨0x48018, 0, 32, 0⟩
/-- TIME.NT_EPOCH_FRAC (R385). -/
def TIME_NT_EPOCH_FRAC : Fld := ⟨0x4801C, 0, 32, 0⟩
/-- TIME.NT_EPOCH_LO (R385). -/
def TIME_NT_EPOCH_LO : Fld := ⟨0x48020, 0, 32, 0⟩
/-- TIME.NT_EPOCH_HI (R385). -/
def TIME_NT_EPOCH_HI : Fld := ⟨0x48024, 0, 32, 0⟩
/-- TIME.NT_CMD_VAL_FRAC (R385). -/
def TIME_NT_CMD_VAL_FRAC : Fld := ⟨0x48030, 0, 32, 0⟩
/-- TIME.NT_CMD_VAL_LO (R385). -/
def TIME_NT_CMD_VAL_LO : Fld := ⟨0x48034, 0, 32, 0⟩
/-- TIME.NT_CMD_VAL_HI (R385). -/
def TIME_NT_CMD_VAL_HI : Fld := ⟨0x48038, 0, 32, 0⟩
/-- TIME.NT_CMD_AT_LO (R385). -/
def TIME_NT_CMD_AT_LO : Fld := ⟨0x4803C, 0, 32, 0⟩
/-- TIME.NT_CMD_AT_HI (R385). -/
def TIME_NT_CMD_AT_HI : Fld := ⟨0x48040, 0, 32, 0⟩
/-- TIME.NT_CMD (R385). -/
def TIME_NT_CMD_CANCEL : Fld := ⟨0x48044, 8, 1, 0⟩
def TIME_NT_CMD_LATE : Fld := ⟨0x48044, 7, 1, 0⟩
def TIME_NT_CMD_BUSY : Fld := ⟨0x48044, 6, 1, 0⟩
def TIME_NT_CMD_EPOCH : Fld := ⟨0x48044, 5, 1, 0⟩
def TIME_NT_CMD_GO : Fld := ⟨0x48044, 4, 1, 0⟩
def TIME_NT_CMD_OP : Fld := ⟨0x48044, 0, 2, 0⟩
/-- TIME.INCR_FRAC (R385). -/
def TIME_INCR_FRAC : Fld := ⟨0x48048, 0, 32, 0⟩
/-- TIME.INCR_NS (R385). -/
def TIME_INCR_NS : Fld := ⟨0x4804C, 0, 32, 1⟩
/-- TIME.ALARM[k].TARGET (R385). -/
def TIME_ALARM_TARGET (k : Nat) : Fld := ⟨0x48060 + 0x8 * k, 0, 32, 0⟩
/-- TIME.ALARM[k].CTRL (R385). -/
def TIME_ALARM_CTRL_FIRED (k : Nat) : Fld := ⟨0x48064 + 0x8 * k, 2, 1, 0⟩
def TIME_ALARM_CTRL_ARMED (k : Nat) : Fld := ⟨0x48064 + 0x8 * k, 1, 1, 0⟩
def TIME_ALARM_CTRL_ARM (k : Nat) : Fld := ⟨0x48064 + 0x8 * k, 0, 1, 0⟩
/-- TIME.MARK[m] (R385). -/
def TIME_MARK_WIDTH_M1 (m : Nat) : Fld := ⟨0x48080 + 0x4 * m, 16, 8, 0⟩
def TIME_MARK_PLOG (m : Nat) : Fld := ⟨0x48080 + 0x4 * m, 8, 5, 0⟩
def TIME_MARK_SRC (m : Nat) : Fld := ⟨0x48080 + 0x4 * m, 0, 2, 0⟩
/-- COMP.CFG (R397). -/
def COMP_CFG_BLOCK_KIB : Fld := ⟨0x300000, 8, 5, 0x10⟩
def COMP_CFG_ORDER : Fld := ⟨0x300000, 0, 2, 1⟩
/-- COMP.STATUS (R397). -/
def COMP_STATUS_DBUSY : Fld := ⟨0x300004, 24, 8, 0⟩
def COMP_STATUS_CBUSY : Fld := ⟨0x300004, 16, 8, 0⟩
def COMP_STATUS_DECOMP_ERR : Fld := ⟨0x300004, 1, 1, 0⟩
def COMP_STATUS_FALLBACK : Fld := ⟨0x300004, 0, 1, 0⟩
/-- COMP.LAST_ERR (R397). -/
def COMP_LAST_ERR_VALID : Fld := ⟨0x300008, 31, 1, 0⟩
def COMP_LAST_ERR_CAUSE : Fld := ⟨0x300008, 4, 2, 0⟩
def COMP_LAST_ERR_INST : Fld := ⟨0x300008, 0, 3, 0⟩
/-- COMP.C[i].BLOCKS (R397). -/
def COMP_C_BLOCKS (i : Nat) : Fld := ⟨0x300100 + 0x10 * i, 0, 32, 0⟩
/-- COMP.C[i].IN_KIB (R397). -/
def COMP_C_IN_KIB (i : Nat) : Fld := ⟨0x300104 + 0x10 * i, 0, 32, 0⟩
/-- COMP.C[i].OUT_KIB (R397). -/
def COMP_C_OUT_KIB (i : Nat) : Fld := ⟨0x300108 + 0x10 * i, 0, 32, 0⟩
/-- COMP.C[i].CNT (R397). -/
def COMP_C_CNT_FALLBACK (i : Nat) : Fld := ⟨0x30010C + 0x10 * i, 16, 16, 0⟩
def COMP_C_CNT_STORED (i : Nat) : Fld := ⟨0x30010C + 0x10 * i, 0, 16, 0⟩
/-- COMP.D[i].BLOCKS (R397). -/
def COMP_D_BLOCKS (i : Nat) : Fld := ⟨0x300200 + 0x10 * i, 0, 32, 0⟩
/-- COMP.D[i].ERR (R397). -/
def COMP_D_ERR_FORMAT (i : Nat) : Fld := ⟨0x300204 + 0x10 * i, 16, 8, 0⟩
def COMP_D_ERR_SHORT (i : Nat) : Fld := ⟨0x300204 + 0x10 * i, 8, 8, 0⟩
def COMP_D_ERR_EXPAND (i : Nat) : Fld := ⟨0x300204 + 0x10 * i, 0, 8, 0⟩
/-- QDR.CFG (R419). -/
def QDR_CFG_CAP_LOG2 (p : Nat) : Fld := ⟨0x500000 + 0x80000 * p, 8, 5, 0⟩
def QDR_CFG_RL (p : Nat) : Fld := ⟨0x500000 + 0x80000 * p, 4, 4, 0⟩
def QDR_CFG_FREQ (p : Nat) : Fld := ⟨0x500000 + 0x80000 * p, 1, 2, 0⟩
def QDR_CFG_EN (p : Nat) : Fld := ⟨0x500000 + 0x80000 * p, 0, 1, 0⟩
/-- QDR.CTRL (R419). -/
def QDR_CTRL (p : Nat) : Fld := ⟨0x500004 + 0x80000 * p, 0, 1, 0⟩
/-- QDR.STATUS (R419). -/
def QDR_STATUS (p : Nat) : Fld := ⟨0x500008 + 0x80000 * p, 0, 2, 0⟩
/-- QDR.ERR (R419). -/
def QDR_ERR_RANGE (p : Nat) : Fld := ⟨0x50000C + 0x80000 * p, 16, 16, 0⟩
def QDR_ERR_PARITY (p : Nat) : Fld := ⟨0x50000C + 0x80000 * p, 0, 16, 0⟩
/-- QDR.LAST_ERR (R419). -/
def QDR_LAST_ERR_VALID (p : Nat) : Fld := ⟨0x500010 + 0x80000 * p, 31, 1, 0⟩
def QDR_LAST_ERR_CLASS (p : Nat) : Fld := ⟨0x500010 + 0x80000 * p, 26, 2, 0⟩
def QDR_LAST_ERR_LOCATION (p : Nat) : Fld := ⟨0x500010 + 0x80000 * p, 0, 25, 0⟩
/-- QDR.C0WAIT (R419). -/
def QDR_C0WAIT (p : Nat) : Fld := ⟨0x500014 + 0x80000 * p, 0, 16, 0⟩
/-- DDR.CFG (R420). -/
def DDR_CFG_SPEED (c : Nat) : Fld := ⟨0x400000 + 0x80000 * c, 3, 2, 0⟩
def DDR_CFG_RANKS (c : Nat) : Fld := ⟨0x400000 + 0x80000 * c, 2, 1, 0⟩
def DDR_CFG_DENSITY (c : Nat) : Fld := ⟨0x400000 + 0x80000 * c, 1, 1, 0⟩
def DDR_CFG_EN (c : Nat) : Fld := ⟨0x400000 + 0x80000 * c, 0, 1, 0⟩
/-- DDR.CTRL (R420). -/
def DDR_CTRL (c : Nat) : Fld := ⟨0x400004 + 0x80000 * c, 0, 1, 0⟩
/-- DDR.STATUS (R420). -/
def DDR_STATUS_MR4_2X (c : Nat) : Fld := ⟨0x400008 + 0x80000 * c, 8, 1, 0⟩
def DDR_STATUS_CAUSE (c : Nat) : Fld := ⟨0x400008 + 0x80000 * c, 4, 3, 0⟩
def DDR_STATUS_STATE (c : Nat) : Fld := ⟨0x400008 + 0x80000 * c, 0, 3, 0⟩
/-- DDR.REF (R420). -/
def DDR_REF_MR4_US (c : Nat) : Fld := ⟨0x400010 + 0x80000 * c, 16, 16, 0x80⟩
def DDR_REF_MAXPOST (c : Nat) : Fld := ⟨0x400010 + 0x80000 * c, 0, 3, 4⟩
/-- DDR.REF_STAT (R420). -/
def DDR_REF_STAT_FORCED (c : Nat) : Fld := ⟨0x400014 + 0x80000 * c, 16, 16, 0⟩
def DDR_REF_STAT_N_MAX (c : Nat) : Fld := ⟨0x400014 + 0x80000 * c, 0, 4, 0⟩
/-- DDR.DEBT (R420). -/
def DDR_DEBT_RANK1 (c : Nat) : Fld := ⟨0x400018 + 0x80000 * c, 16, 16, 0⟩
def DDR_DEBT_RANK0 (c : Nat) : Fld := ⟨0x400018 + 0x80000 * c, 0, 16, 0⟩
/-- DDR.FROST (R420). -/
def DDR_FROST_ENTRIES (c : Nat) : Fld := ⟨0x40001C + 0x80000 * c, 16, 16, 0⟩
def DDR_FROST_IDLE_US (c : Nat) : Fld := ⟨0x40001C + 0x80000 * c, 0, 16, 0xA⟩
/-- DDR.ZQ (R420). -/
def DDR_ZQ_MAXDEFER_MS (c : Nat) : Fld := ⟨0x400020 + 0x80000 * c, 16, 16, 0⟩
def DDR_ZQ_INTERVAL_MS (c : Nat) : Fld := ⟨0x400020 + 0x80000 * c, 0, 16, 0x80⟩
/-- DDR.PARITY (R420). -/
def DDR_PARITY_ALERTS (c : Nat) : Fld := ⟨0x400024 + 0x80000 * c, 16, 16, 0⟩
def DDR_PARITY_REPLAY_FAIL (c : Nat) : Fld := ⟨0x400024 + 0x80000 * c, 0, 16, 0⟩
/-- DDR.RH (R420). -/
def DDR_RH_RFM_EN (c : Nat) : Fld := ⟨0x400028 + 0x80000 * c, 16, 1, 0⟩
def DDR_RH_THR (c : Nat) : Fld := ⟨0x400028 + 0x80000 * c, 0, 16, 0x1000⟩
/-- DDR.RH_STAT (R420). -/
def DDR_RH_STAT_RFM (c : Nat) : Fld := ⟨0x40002C + 0x80000 * c, 16, 16, 0⟩
def DDR_RH_STAT_NREF (c : Nat) : Fld := ⟨0x40002C + 0x80000 * c, 0, 16, 0⟩
/-- DDR.ADJ[k] (R420). -/
def DDR_ADJ_PERM (c k m : Nat) : Fld := ⟨0x400030 + 0x80000 * c + 0x4 * k, (4 * m), 4, (8 * k + m)⟩
/-- DDR.ORDER (R420). -/
def DDR_ORDER_INORDER (c : Nat) : Fld := ⟨0x400038 + 0x80000 * c, 16, 16, 0⟩
def DDR_ORDER_FWD (c : Nat) : Fld := ⟨0x400038 + 0x80000 * c, 0, 16, 0⟩
/-- HK.CTRL (R441). -/
def HK_CTRL_NENT_M1 : Fld := ⟨0x10000, 8, 4, 15⟩
def HK_CTRL_MODE : Fld := ⟨0x10000, 0, 2, (HK_MODE_TIMER)⟩
/-- HK.TIMER (R441). -/
def HK_TIMER : Fld := ⟨0x10004, 0, 16, 50⟩
/-- HK.TRIG (R441). -/
def HK_TRIG_DELAY_US : Fld := ⟨0x10008, 16, 16, 0⟩
def HK_TRIG_SOURCE : Fld := ⟨0x10008, 0, 9, 0⟩
/-- HK.STATUS (R441). -/
def HK_STATUS_ENTRY : Fld := ⟨0x1000C, 4, 4, 0⟩
def HK_STATUS_PATCH_ERR : Fld := ⟨0x1000C, 3, 1, 0⟩
def HK_STATUS_CAL_PENDING : Fld := ⟨0x1000C, 2, 1, 0⟩
def HK_STATUS_INJ_PENDING : Fld := ⟨0x1000C, 1, 1, 0⟩
def HK_STATUS_ROUND : Fld := ⟨0x1000C, 0, 1, 0⟩
/-- HK.ROUNDS (R441). -/
def HK_ROUNDS_SKIP : Fld := ⟨0x10010, 16, 16, 0⟩
def HK_ROUNDS_COUNT : Fld := ⟨0x10010, 0, 16, 0⟩
/-- HK.ENTRY[e] (R441). -/
def HK_ENTRY_T100 (e : Nat) : Fld := ⟨0x10040 + 0x4 * e, 17, 10, 10⟩
def HK_ENTRY_NPLC (e : Nat) : Fld := ⟨0x10040 + 0x4 * e, 15, 2, 0⟩
def HK_ENTRY_HZ (e : Nat) : Fld := ⟨0x10040 + 0x4 * e, 14, 1, 0⟩
def HK_ENTRY_MODE (e : Nat) : Fld := ⟨0x10040 + 0x4 * e, 13, 1, 1⟩
def HK_ENTRY_GAIN (e : Nat) : Fld := ⟨0x10040 + 0x4 * e, 10, 3, 0⟩
def HK_ENTRY_NEG (e : Nat) : Fld := ⟨0x10040 + 0x4 * e, 5, 5, 17⟩
def HK_ENTRY_POS (e : Nat) : Fld := ⟨0x10040 + 0x4 * e, 0, 5, (hkEntryPos e)⟩
/-- HK.INJ_CFG (R441). -/
def HK_INJ_CFG_T100 : Fld := ⟨0x100C0, 17, 10, 0⟩
def HK_INJ_CFG_NPLC : Fld := ⟨0x100C0, 15, 2, 0⟩
def HK_INJ_CFG_HZ : Fld := ⟨0x100C0, 14, 1, 0⟩
def HK_INJ_CFG_MODE : Fld := ⟨0x100C0, 13, 1, 0⟩
def HK_INJ_CFG_GAIN : Fld := ⟨0x100C0, 10, 3, 0⟩
def HK_INJ_CFG_NEG : Fld := ⟨0x100C0, 5, 5, 0⟩
def HK_INJ_CFG_POS : Fld := ⟨0x100C0, 0, 5, 0⟩
/-- HK.RESULT[e] (R441). -/
def HK_RESULT_VALID (e : Nat) : Fld := ⟨0x10080 + 0x4 * e, 25, 1, 0⟩
def HK_RESULT_OVR (e : Nat) : Fld := ⟨0x10080 + 0x4 * e, 24, 1, 0⟩
def HK_RESULT_CODE (e : Nat) : Fld := ⟨0x10080 + 0x4 * e, 0, 24, 0⟩
/-- HK.INJ_RESULT (R441). -/
def HK_INJ_RESULT_VALID : Fld := ⟨0x100C8, 25, 1, 0⟩
def HK_INJ_RESULT_OVR : Fld := ⟨0x100C8, 24, 1, 0⟩
def HK_INJ_RESULT_CODE : Fld := ⟨0x100C8, 0, 24, 0⟩
/-- HK.INJ_CTRL (R441). -/
def HK_INJ_CTRL_DONE : Fld := ⟨0x100C4, 2, 1, 0⟩
def HK_INJ_CTRL_PENDING : Fld := ⟨0x100C4, 1, 1, 0⟩
def HK_INJ_CTRL_GO : Fld := ⟨0x100C4, 0, 1, 0⟩
/-- HK.CAL (R441). -/
def HK_CAL_AUTO_S : Fld := ⟨0x100D0, 16, 16, 0xE10⟩
def HK_CAL_RUNNING : Fld := ⟨0x100D0, 1, 1, 0⟩
def HK_CAL_GO : Fld := ⟨0x100D0, 0, 1, 0⟩
/-- HK.LIMIT (R441). -/
def HK_LIMIT : Fld := ⟨0x100E0, 0, 16, 0⟩
/-- HK.LIMIT_LAST (R441). -/
def HK_LIMIT_LAST_VALID : Fld := ⟨0x100E4, 31, 1, 0⟩
def HK_LIMIT_LAST_WORD : Fld := ⟨0x100E4, 4, 10, 0⟩
def HK_LIMIT_LAST_ENTRY : Fld := ⟨0x100E4, 0, 4, 0⟩
/-- THERM.TEMP (R442). -/
def THERM_TEMP_VALID : Fld := ⟨0x20000, 16, 1, 0⟩
def THERM_TEMP_TEMP : Fld := ⟨0x20000, 0, 16, 0⟩
/-- THERM.RATE (R442). -/
def THERM_RATE_VALID : Fld := ⟨0x20004, 16, 1, 0⟩
def THERM_RATE_RATE : Fld := ⟨0x20004, 0, 16, 0⟩
/-- THERM.THR (R442). -/
def THERM_THR_RELEASE_S : Fld := ⟨0x20008, 24, 8, 0xA⟩
def THERM_THR_RELEASE : Fld := ⟨0x20008, 16, 8, 5⟩
def THERM_THR_THROTTLE : Fld := ⟨0x20008, 8, 8, 0x28⟩
def THERM_THR_WARN : Fld := ⟨0x20008, 0, 8, 0x14⟩
/-- THERM.STEP (R442). -/
def THERM_STEP_MIN_STEP : Fld := ⟨0x2000C, 8, 3, 0⟩
def THERM_STEP_STEP : Fld := ⟨0x2000C, 0, 3, 0⟩
/-- THERM.STATUS (R442). -/
def THERM_STATUS_CAUSE : Fld := ⟨0x20010, 4, 2, 0⟩
def THERM_STATUS_TEMPEST_FORCED : Fld := ⟨0x20010, 3, 1, 0⟩
def THERM_STATUS_SENSOR_FAULT : Fld := ⟨0x20010, 2, 1, 0⟩
def THERM_STATUS_WARN : Fld := ⟨0x20010, 0, 1, 0⟩
/-- THERM.CTRL (R442). -/
def THERM_CTRL : Fld := ⟨0x20014, 0, 1, 0⟩
/-- THERM.STORM (R442). -/
def THERM_STORM_FLASH_BLOCKED : Fld := ⟨0x20018, 4, 1, 0⟩
def THERM_STORM_DIODE_SHORT : Fld := ⟨0x20018, 3, 1, 0⟩
def THERM_STORM_DIODE_OPEN : Fld := ⟨0x20018, 2, 1, 0⟩
def THERM_STORM_OVERTEMP : Fld := ⟨0x20018, 1, 1, 0⟩
def THERM_STORM_TRIPPED : Fld := ⟨0x20018, 0, 1, 0⟩
/-- THERM.COUNT (R442). -/
def THERM_COUNT_RELEASES : Fld := ⟨0x2001C, 16, 16, 0⟩
def THERM_COUNT_THROTTLES : Fld := ⟨0x2001C, 0, 16, 0⟩
/-- THERM.MAX (R442). -/
def THERM_MAX : Fld := ⟨0x20020, 0, 16, 0x8000⟩
/-- THERM.WIN (R442). -/
def THERM_WIN : Fld := ⟨0x20024, 0, 16, 0xFA⟩
/-- DEV.RESET (R458). -/
def DEV_RESET_KEY : Fld := ⟨0x1000, 24, 8, 0⟩
def DEV_RESET_DEVICE : Fld := ⟨0x1000, 0, 1, 0⟩
/-- DEV.TILE_RESET (R458). -/
def DEV_TILE_RESET : Fld := ⟨0x1004, 0, 32, 0⟩
/-- DEV.RESET_CAUSE (R458). -/
def DEV_RESET_CAUSE_DEVICE_COUNT : Fld := ⟨0x1008, 8, 8, 0⟩
def DEV_RESET_CAUSE_PREV_STORM : Fld := ⟨0x1008, 2, 1, 0⟩
def DEV_RESET_CAUSE_DEVICE : Fld := ⟨0x1008, 1, 1, 0⟩
def DEV_RESET_CAUSE_POR : Fld := ⟨0x1008, 0, 1, 1⟩
/-- DEV.BOOT (R458). -/
def DEV_BOOT_WAITING : Fld := ⟨0x100C, 4, 1, 0⟩
def DEV_BOOT_GO : Fld := ⟨0x100C, 3, 1, 0⟩
def DEV_BOOT_SRC : Fld := ⟨0x100C, 2, 1, 0⟩
def DEV_BOOT_SEL : Fld := ⟨0x100C, 0, 2, 0⟩
/-- DEV.ERRLOG_HEAD (R458). -/
def DEV_ERRLOG_HEAD : Fld := ⟨0x1010, 0, 32, 0⟩
/-- DEV.ERRLOG_ACK (R458). -/
def DEV_ERRLOG_ACK : Fld := ⟨0x1014, 0, 32, 0⟩
/-- DEV.ERRLOG_LOST (R458). -/
def DEV_ERRLOG_LOST : Fld := ⟨0x1018, 0, 16, 0⟩
/-- DEV.ERRLOG[i].W0 (R458). -/
def DEV_ERRLOG_W0_KIND (i : Nat) : Fld := ⟨0x1800 + 0x20 * i, 24, 8, 0⟩
def DEV_ERRLOG_W0_PATH (i : Nat) : Fld := ⟨0x1800 + 0x20 * i, 22, 2, 0⟩
def DEV_ERRLOG_W0_TILE (i : Nat) : Fld := ⟨0x1800 + 0x20 * i, 16, 6, 0⟩
def DEV_ERRLOG_W0_DETAIL (i : Nat) : Fld := ⟨0x1800 + 0x20 * i, 0, 16, 0⟩
/-- DEV.ERRLOG[i].W1 (R458). [note 9: DESIGN CHOICE] -/
def DEV_ERRLOG_W1 (i : Nat) : Fld := ⟨0x1804 + 0x20 * i, 0, 32, 0⟩
/-- DEV.ERRLOG[i].W2 (R458). -/
def DEV_ERRLOG_W2 (i : Nat) : Fld := ⟨0x1808 + 0x20 * i, 0, 8, 0⟩
/-- DEV.ERRLOG[i].W4 (R458). -/
def DEV_ERRLOG_W4 (i : Nat) : Fld := ⟨0x1810 + 0x20 * i, 0, 32, 0⟩
/-- DEV.ERRLOG[i].W5 (R458). -/
def DEV_ERRLOG_W5 (i : Nat) : Fld := ⟨0x1814 + 0x20 * i, 0, 32, 0⟩
/-- DEV.ERRLOG[i].W6 (R458). -/
def DEV_ERRLOG_W6 (i : Nat) : Fld := ⟨0x1818 + 0x20 * i, 0, 32, 0⟩
/-- DEV.ERRLOG[i].W7 (R458). -/
def DEV_ERRLOG_W7 (i : Nat) : Fld := ⟨0x181C + 0x20 * i, 0, 32, 0⟩

/-- Word j of template m of tone engine e of tile t (R88). -/
def TONE_TPL (t e m j : Nat) : Fld := ⟨tileBase t + 0x8000 + 0x800 * e + 0x10 * m + 4 * j, 0, 32, 0⟩
/-- Word j of template m of flux engine e of tile t (R105). -/
def FLUX_TPL (t e m j : Nat) : Fld := ⟨tileBase t + 0x10000 + 0x800 * e + 0x10 * m + 4 * j, 0, 32, 0⟩
/-- Words of acquisition class c of tile t (R262). -/
def CAPCLASS_SRC_FORMAT (t c : Nat) : Fld := ⟨tileBase t + 0x7800 + 0x20 * c, 0, 2, 0⟩
def CAPCLASS_SRC_CHMASK (t c : Nat) : Fld := ⟨tileBase t + 0x7800 + 0x20 * c, 4, 8, 0⟩
def CAPCLASS_SRC_AUTO (t c : Nat) : Fld := ⟨tileBase t + 0x7800 + 0x20 * c, 12, 1, 0⟩
def CAPCLASS_SRC_COMPRESS (t c : Nat) : Fld := ⟨tileBase t + 0x7800 + 0x20 * c, 13, 1, 0⟩
def CAPCLASS_SRC_COND_EN (t c : Nat) : Fld := ⟨tileBase t + 0x7800 + 0x20 * c, 16, 16, 0⟩
def CAPCLASS_LEN_PRE (t c : Nat) : Fld := ⟨tileBase t + 0x7804 + 0x20 * c, 0, 13, 0⟩
def CAPCLASS_LEN_REARM_MIN (t c : Nat) : Fld := ⟨tileBase t + 0x7804 + 0x20 * c, 16, 16, 0⟩
def CAPCLASS_POST_M1 (t c : Nat) : Fld := ⟨tileBase t + 0x7808 + 0x20 * c, 0, 24, 0⟩
def CAPCLASS_COND_DCH (t c : Nat) : Fld := ⟨tileBase t + 0x780C + 0x20 * c, 0, 3, 0⟩
def CAPCLASS_COND_POL (t c : Nat) : Fld := ⟨tileBase t + 0x780C + 0x20 * c, 3, 1, 0⟩
def CAPCLASS_COND_OUT (t c : Nat) : Fld := ⟨tileBase t + 0x780C + 0x20 * c, 4, 1, 0⟩
def CAPCLASS_COND_EVIN (t c : Nat) : Fld := ⟨tileBase t + 0x780C + 0x20 * c, 5, 4, 0⟩
def CAPCLASS_HI (t c : Nat) : Fld := ⟨tileBase t + 0x7810 + 0x20 * c, 0, 32, 0⟩
def CAPCLASS_LO (t c : Nat) : Fld := ⟨tileBase t + 0x7814 + 0x20 * c, 0, 32, 0⟩
def CAPCLASS_DEST_CHAN (t c : Nat) : Fld := ⟨tileBase t + 0x7818 + 0x20 * c, 0, 1, 0⟩
def CAPCLASS_DEST_SLOTS_M1 (t c : Nat) : Fld := ⟨tileBase t + 0x7818 + 0x20 * c, 1, 8, 0⟩
def CAPCLASS_DEST_QUEUE (t c : Nat) : Fld := ⟨tileBase t + 0x7818 + 0x20 * c, 9, 9, 0⟩
def CAPCLASS_DEST_SLOT_M1 (t c : Nat) : Fld := ⟨tileBase t + 0x7818 + 0x20 * c, 18, 14, 0⟩
def CAPCLASS_AREA_BASE (t c : Nat) : Fld := ⟨tileBase t + 0x781C + 0x20 * c, 0, 24, 0⟩
/-- Reserved bits of the words of class c, which make it invalid when one is 1 (R239, R262). -/
def CAPCLASS_SRC_RSV (t c : Nat) : Fld := ⟨tileBase t + 0x7800 + 0x20 * c, 2, 2, 0⟩
def CAPCLASS_SRC_RSV2 (t c : Nat) : Fld := ⟨tileBase t + 0x7800 + 0x20 * c, 14, 2, 0⟩
def CAPCLASS_LEN_RSV (t c : Nat) : Fld := ⟨tileBase t + 0x7804 + 0x20 * c, 13, 3, 0⟩
def CAPCLASS_POST_RSV (t c : Nat) : Fld := ⟨tileBase t + 0x7808 + 0x20 * c, 24, 8, 0⟩
def CAPCLASS_COND_RSV (t c : Nat) : Fld := ⟨tileBase t + 0x780C + 0x20 * c, 9, 23, 0⟩
def CAPCLASS_AREA_RSV (t c : Nat) : Fld := ⟨tileBase t + 0x781C + 0x20 * c, 24, 8, 0⟩
/-- Patch word j of the housekeeping block (R439). -/
def HK_PATCH (j : Nat) : Fld := ⟨0x11000 + 4 * j, 0, 32, 0⟩

end Sys2Proof.Machine
end

