-- ==== Sys2Proof/Machine/Hidden.lean ====
section
/-! DEFINITION. State that the spec gives the block and that no register shows in full: latched halves, wide
counters, indices and times. Each is a field of the register store at an internal address above the
40-bit device map (R26), so that no access of software reaches it. -/

namespace Sys2Proof.Machine

/-- An internal field: a block, an index within it, a width and the reset value. Internal blocks lie above the 40-bit device map. -/
def hid (block i width reset : Nat) : Fld := ⟨2 ^ 40 + block * 2 ^ 24 + i, 0, width, reset⟩

/-- The first key of internal block b, for the ranges that a reset clears. -/
def hidKey (b : Nat) : Nat := (2 ^ 40 + b * 2 ^ 24) * 32

/-- Internal blocks 0 to 31 belong to tiles 0 to 31; block 32 to the device; block 33 to the always-on domain. -/
def hidDev : Nat := 32
def hidOn : Nat := 33

/-- The number of an inbound queue's oldest entry not yet removed (CONS, R289), or an outbound queue's oldest entry
retained (OLDEST, R287). -/
def QTAIL (t i : Nat) : Fld := hid t (0x10000 + i) 32 0
/-- The next number of an outbound host queue that the transport sends (R297). -/
def QSENT (t i : Nat) : Fld := hid t (0x10400 + i) 32 0
/-- 1 after a GAP status of this inbound queue until NEXP advances or RETX passes (R297). -/
def QGAPPED (t i : Nat) : Fld := hid t (0x10800 + i) 1 0
/-- CONS of an inbound queue as last reported to the host (R297). -/
def QREPORTED (t i : Nat) : Fld := hid t (0x10C00 + i) 32 0

/-- Frame E of the abort in progress, recorded in CLASP.ABORT_EFF when it completes (R54, R56). -/
def ABORT_E (t : Nat) : Fld := hid t 0 64 0
/-- The tick of the last completed calibration cycle of RF DAC d (0 to 2) or the ADC (3), R80, R83, R127. -/
def CAL_LAST (t d : Nat) : Fld := hid t (0x200 + d) 64 0

/-- The tick from which flux engine e presents what FLUX.DC holds, after direct writes of it (R95). -/
def FLUX_DC_DUE (t e : Nat) : Fld := hid t (0x238 + e) 64 0
/-- 1 once frames have gone into the pre-trigger ring of tile t (R241). [note 58: DEDUCED] -/
def RING_USED (t : Nat) : Fld := hid t 0x229 1 0
/-- The tick at which the running calibration step of the tile's ADC started (R127). -/
def ADC_CAL_START (t : Nat) : Fld := hid t 0x208 64 0
/-- Bits [63:32] of the TL of the latest result of channel k, which a read of LAST_TL_LO latches (R128). -/
def RD_TL_HI (t k : Nat) : Fld := hid t (0x210 + k) 32 0

/-- 1 while the sequencer of tile t fetches words in bring-up mode (R216, R217). -/
def SEQ_MODE (t : Nat) : Fld := hid t 0x219 1 0
/-- 1 while the loader holds the tile (R314). -/
def CODE_HELD (t : Nat) : Fld := hid t 0x218 1 0
/-- CAP.DEAD (R251). -/
def CAP_DEAD (t : Nat) : Fld := hid t 0x226 48 0
/-- Bits [63:32] of TRIG_W of the latest record, which a read of LAST_W_LO latches (R261). -/
def CAP_W_HI (t : Nat) : Fld := hid t 0x227 32 0
/-- Accumulator n of the datapath (R131). -/
def DSP_ACC (t n : Nat) : Fld := hid t (0x220 + n) 48 0
/-- The base of the present search on accumulator n (R143). -/
def SEARCH_BASE (t n : Nat) : Fld := hid t (0x21C + n) 20 0

/-- Network time: 64 integer bits of nanoseconds and 32 fraction bits (R372). -/
def NT_NOW : Fld := hid hidDev 0 96 0

/-- P of LOADER.POINT, pending or last applied (R318, R332), and P as last applied. -/
def LOADER_P : Fld := hid hidDev 1 64 0
def LOADER_P_APPLIED : Fld := hid hidDev 2 64 0
/-- 1 once signal is detected at the receiver of lane n during the present bring-up (R340). -/
def LANE_SIG (n : Nat) : Fld := hid hidDev (0x100 + n) 1 0
/-- Polarity toggles of lane n in the present bring-up (R341). [note 76: DEDUCED] -/
def LANE_FLIPS (n : Nat) : Fld := hid hidDev (0x120 + n) 2 0
/-- 1 while lane n keeps the equaliser values of before it went down (R343). -/
def LANE_KEPT (n : Nat) : Fld := hid hidDev (0x140 + n) 1 0
/-- DWELL_LOG2 of the eye scan of lane n, as GO found it (R348). -/
def LANE_SCAN_LEN (n : Nat) : Fld := hid hidDev (0x160 + n) 6 0
/-- 1 while lane n has met every condition of its BER check (R350). -/
def LANE_CHECK_OK (n : Nat) : Fld := hid hidDev (0x180 + n) 1 0
/-- 1 while lane n relocks after lull (R354). -/
def LANE_RELOCK (n : Nat) : Fld := hid hidDev (0x1A0 + n) 1 0
/-- What the transmitter of lane n carries, as SER_TX last gave it out (R333, R351 to R353). -/
def LANE_TX (n : Nat) : Fld := hid hidDev (0x200 + n) 3 0
/-- 1 while the lane PLL of quad m is locked (R335). -/
def QUAD_LOCKED (m : Nat) : Fld := hid hidDev (0x1C0 + m) 1 0
/-- The tick at which alarm k was armed (R375). -/
def ALARM_AT (k : Nat) : Fld := hid hidDev (0x1D0 + k) 64 0
/-- The high words of PTP.OFFSET and PTP.DELAY that a read of the low word latches (R384). -/
def PTP_OFFSET_LIVE : Fld := hid hidDev 0x1D4 32 0
def PTP_DELAY_LIVE : Fld := hid hidDev 0x1D5 32 0
/-- 1 + the global number of the queue whose credit a datagram last carried (R297). [note 69: DEDUCED] -/
def CR_LAST : Fld := hid hidDev 0x1D6 15 0
/-- The address at which the claim of the owner reached the device, from which it replies while its own is unset (R293).
[note 68: DEDUCED] -/
def OWNER_REACHED : Fld := hid hidDev 0x1DA 128 0
/-- Bytes below a whole KiB that compressor i has taken and given out (R397). -/
def COMP_IN_REM (i : Nat) : Fld := hid hidDev (0x1E0 + i) 10 0
def COMP_OUT_REM (i : Nat) : Fld := hid hidDev (0x1E8 + i) 10 0
/-- 1 after a loss of the converter PLL or of REFCLK until PORESET_N: the converter outputs are unspecified (R34).
[note 21: DESIGN CHOICE] -/
def CONV_LOST : Fld := hid hidDev 0x1D7 1 0
/-- What the fuse programming that runs burns: KEYHASH with HASH_SET, or SIGN_REQUIRED (R331). -/
def FUSE_HASH : Fld := hid hidDev 0x1D8 1 0
def FUSE_SIGN : Fld := hid hidDev 0x1D9 1 0
/-- 1 while mark m drives its ball high (R376). -/
def MARK_HIGH (m : Nat) : Fld := hid hidDev (0x1F0 + m) 1 0
/-- 1 while SCLK_IN is present (R57). -/
def SCLK_PRESENT : Fld := hid hidOn 1 1 0
/-- 1 once the fabric regulators have first reached their setpoint (R31). -/
def FABRIC_UP : Fld := hid hidOn 2 1 0
/-- 1 while PORESET_N is low (R444, R449). -/
def PORESET_LOW : Fld := hid hidOn 3 1 0
/-- 1 + the path of the write that requested the device reset now pending (R445). -/
def RESET_REQ : Fld := hid hidOn 0 3 0
/-- 1 while a reset of tile t has been accepted and has not acted (R446). -/
def TRST (t : Nat) : Fld := hid t 0x228 1 0

end Sys2Proof.Machine
end

