-- ==== Sys2Proof/Machine/Types.lean ====
section
/-! DEFINITION. The plain data from which the state of the block is built: entries, clasps, engines, windows,
firings and queues. Registers that software sees live in the register store (Regs.lean) and nowhere else. -/

namespace Sys2Proof.Machine

/-! ## Time and what leaves the block -/

/-- The timeline counter TL (R35): its count, and whether it runs (from the boundary of R36 on). -/
structure Tl where
  count : Nat
  running : Bool
  deriving DecidableEq, Repr

/-- What a command does to TL: nothing, one frame on (R35), the boundary at which it becomes 0 and counts (R36), or the
end of the epoch, after which it holds 0 (R33, R35). -/
inductive TlChange where
  | keep | advance | start | stop
  deriving DecidableEq, Repr

/-- TL after a change. A counter that does not run stays as it is. -/
def Tl.apply (t : Tl) : TlChange → Tl
  | .keep => t
  | .advance => if t.running then ⟨t.count + 1, true⟩ else t
  | .start => ⟨0, true⟩
  | .stop => ⟨0, false⟩

/-- A 66-bit block on a lane (R338): its sync header, its payload before the scrambler, and behind it. -/
structure LineBlock where
  lane : Nat
  head : Nat
  payload : Nat
  line : Nat
  deriving DecidableEq, Repr

/-- What the block gives out during one command: the answer to a read, samples and codes at its converters,
bytes on a link, an Ethernet port or a trigger line, and levels at its balls. -/
inductive Out where
  /-- The word that a read returned (R6). -/
  | value (v : Nat)
  /-- Output of DAC k of tile t for one frame: sixteen 14-bit codes (R77). -/
  | dac (t k : Nat) (codes : List Int)
  /-- Output of flux ball f of tile t for one frame: two 16-bit codes (R101). -/
  | fluxCodes (t f : Nat) (codes : List Int)
  /-- The blocks of a frame on the lane of an Ethernet port (R338). -/
  | blocks (port : Nat) (blocks : List LineBlock)
  /-- A Genond datagram for an Ethernet port (R294). -/
  | datagram (port : Nat) (bytes : List Byte)
  /-- One block interval of a Brisol link: what each of its lanes carries (R362, R364). -/
  | interval (link : Nat) (blocks : List LineBlock)
  /-- An Ethernet or PTP frame on a port (R371, R379). -/
  | frame (port : Nat) (kind : String) (words : List Nat)
  /-- A message on the trigger line or the any-fire slot (R257, R259). -/
  | trigger (words : List Nat)
  /-- The current limit of the fabric regulators in A (R433). -/
  | currentLimit (amps : Nat)
  /-- A level at a ball or group of balls. -/
  | ball (name : String) (index : Nat) (level : Nat)
  /-- The response of the management target or the JTAG port (R471, R472). -/
  | port (name : String) (words : List Nat)
  deriving DecidableEq, Repr

/-! ## Clasps (R43 to R56) -/

/-- A clasp entry, R43. -/
structure Entry where
  stamp : Nat
  slot : Nat
  kind : Nat
  clasp : Nat
  abgen : Nat
  chain : Bool
  alt : Bool
  quad : Bool
  opt : Nat
  did : Nat
  rsv : Nat
  body : Nat
  deriving DecidableEq, Repr

/-- Who hands an entry to a clasp: the tile's sequencer, or an inbound queue of the tile by its index (R290). -/
inductive Producer where
  | seq
  | queue (index : Nat)
  deriving DecidableEq, Repr

/-- An entry on its way to a clasp, in a stage queue of the tile (R55, R282): its producer, whether that producer has issued its next
entry to another clasp (R49), and for a paged PLAY that has arrived at its clasp and waits for a page buffer the page that its
record named then (R72, R73). -/
structure Staged where
  entry : Entry
  from_ : Producer
  leaves : Bool
  page : Option Nat
  deriving DecidableEq, Repr

/-- An entry a clasp holds, with its margin on arrival (R17, R49) and, for a paged PLAY, the page
buffer it took (R72). -/
structure HeldEntry where
  entry : Entry
  margin : Int
  from_ : Producer
  page : Option Nat
  deriving DecidableEq, Repr

/-- One unit a clasp has admitted: an entry, a PARAM chain (R48) or a staged group whose watcher has not
selected yet (R167, R168). -/
inductive Item where
  | one (e : HeldEntry)
  | chain (es : List HeldEntry)
  | group (es : List HeldEntry)
  deriving DecidableEq, Repr

/-- A chain or staged group that has opened at a clasp and not closed: its members in order of arrival. -/
structure OpenUnit where
  isChain : Bool
  members : List HeldEntry
  from_ : Producer
  deriving DecidableEq, Repr

/-- The stamp of an admitted unit, for the reference of R45: its frame, its slot, and whether a cut discards the unit while
the clasp holds it (a staged group or a WINDOW, R226). -/
structure Admission where
  frame : Nat
  slot : Nat
  cut : Bool
  deriving DecidableEq, Repr

/-- A clasp: the units admitted and not yet taken, the unit still open, and the stamps (newest first) of admitted units
that a later ABORT_FROM or cut might let the reference of R45 fall back to. -/
structure Clasp where
  items : List Item
  open_ : Option OpenUnit
  hist : List Admission
  deriving DecidableEq, Repr

/-- A page buffer of R72: its number, the page it holds (bit 16 the port), the PLAYs and pulses that hold it, and whether its fetch has
completed (none: running; some false: a parity error). -/
structure PageBuf where
  buf : Nat
  page : Nat
  users : Nat
  done : Option Bool
  deriving DecidableEq, Repr

/-! ## Tone engines and RF DACs (R59 to R84) -/

/-- The pulse a tone engine plays: its first sample index, its latched record (R63, R68), its page buffer,
and the sample at which a STOP ended its hold (R69). -/
structure TonePulse where
  n0 : Nat
  rec_ : List Nat
  page : Option Nat
  stop : Option Nat
  deriving DecidableEq, Repr

/-- A tone engine: the pulse in its span, and the complex samples of the frames now inside the tap lead of
R76, newest frame first, sixteen pairs to a frame; an empty frame is silent. The samples of the
present frame up to a mid-frame change stand in part. -/
structure Tone where
  pulse : Option TonePulse
  part : List (Int × Int)
  hist : List (List (Int × Int))
  deriving DecidableEq, Repr

/-- An RF DAC: the codes of the frames between its sum and the pin, newest first (an empty frame is
mid-scale), the consecutive frames for which S has been zero (R80), the tick at which the running
calibration step started, the end of the declared quiet windows (R82). -/
structure Dac where
  line : List (List Int)
  zeroRun : Nat
  calStart : Option Nat
  quiet : List (Nat × Nat)
  deriving DecidableEq, Repr

/-! ## Flux engines (R89 to R102) -/

/-- The pulse a flux engine plays: its first sample index, its latched record, and the sample at which a
STOP ended its hold (R92). -/
structure FluxPulse where
  n0 : Nat
  rec_ : List Nat
  stop : Option Nat
  deriving DecidableEq, Repr

/-- A flux engine: the pulse in its span, the state u of each enabled predistortion section (R96; none for
a section that has not started), the section outputs w newest first (R97), the samples of the
present frame already presented, and the direct writes of DC on their way, oldest first: the tick at which each reaches
the engine's samples and the DC that it replaces there (R95). -/
structure Flux where
  pulse : Option FluxPulse
  part : List Int
  u : List (Option Int)
  w : List Int
  dcs : List (Nat × Nat)
  deriving DecidableEq, Repr

/-! ## Readout (R106 to R127) -/

/-- One frame of ADC samples: ten codes (none listed: all 0), one bit for each clamped sample (R121), whether a sample was
tainted (R122), and whether the frame was dropped (R125). -/
structure AdcFrame where
  codes : List Int
  clamp : Nat
  tainted : Bool
  lost : Bool
  deriving DecidableEq, Repr

/-- The frequency words and offsets a probe engine held before a change at sample index n (R109). -/
structure PbOld where
  n : Nat
  e : Nat
  fw : List Nat
  vz : List Nat
  deriving DecidableEq, Repr

/-- A window (R114, R116): its first frame, its round and KSEL, its latched descriptor words and options, its
accumulators, and the marks gathered so far. -/
structure Window where
  start : Nat
  round : Nat
  ksel : Nat
  kdA : Nat
  kdB : Nat
  toDsp : Bool
  toHost : Bool
  added : Nat
  accI : Int
  accQ : Int
  holdI : Bool
  holdQ : Bool
  ovr : Bool
  lost : Bool
  gov : Bool
  deriving DecidableEq, Repr

/-! ## Events (R263 to R276) -/

/-- A firing held at its source until the source emits (R265). -/
structure Firing where
  src : Nat
  gen : Nat
  soft : Bool
  tl : Nat
  ntLo : Nat
  deriving DecidableEq, Repr

/-- A consumer of events (R266, R269): input i of tile t, the notification logic of the event's source, or the
housekeeping start input. -/
inductive Consumer where
  | input (t i : Nat)
  | note
  | hkStart
  deriving DecidableEq, Repr

/-- An event between its source and the consumers it has not reached yet. -/
structure EventMsg where
  src : Nat
  gen : Nat
  soft : Bool
  tl : Nat
  ntLo : Nat
  to_ : List Consumer
  deriving DecidableEq, Repr

/-- The notification logic of one source (R274): the payload that waits for credit, the latched event
behind it, and the firings missed since its last entry. -/
structure NoteLogic where
  src : Nat
  waiting : Option EventMsg
  latch : Option EventMsg
  missed : Nat
  deriving DecidableEq, Repr

/-! ## Decisions (R159 to R182) -/

/-- The content of a broadcast slot, R159. -/
structure SlotC where
  valid : Bool
  state : Nat
  amb : Bool
  ovr : Bool
  leak : Bool
  round : Nat
  deriving DecidableEq, Repr

/-- A decision watcher (R163, R169): whether an arming has taken effect since the release, the slot content each key bit has
captured, and TL at the resolution, 0 without one. Keys, rounds and the resolution are registers. -/
structure Watch where
  armed : Bool
  capt : List (Option SlotC)
  resAt : Nat
  deriving DecidableEq, Repr

/-- An arming passed to the watcher block and not yet in effect (R164, R165): ARM with a count or ARM_NEXT,
the frame of its word's stamp and the boundary at which it takes effect. -/
structure Arming where
  did : Nat
  next : Bool
  count : Nat
  stamp : Nat
  due : Nat
  late : Bool
  deriving DecidableEq, Repr

/-- A table lookup under way (R176 to R178): the location it reads, the flags of its captured key sources, and the round that it
publishes when a commit has changed its context since (R319). -/
structure Lookup where
  loc : Nat
  amb : Bool
  ovr : Bool
  leak : Bool
  round : Option Nat
  deriving DecidableEq, Repr

/-- A context of a QDR table unit (R176, R177): the round of the last capture and the present capture of each of
the 22 key bits, the tick of the round's first capture, and the lookups under way. -/
structure TableCtx where
  last : List Nat
  capt : List (Option SlotC)
  firstAt : Option Nat
  lookups : List Lookup
  deriving DecidableEq, Repr

/-! ## Sequencer and datapath (R130 to R235) -/

/-- The steps of R193 that a fetched word still has before it. -/
inductive WStep where
  | abort | loop | dec | stage | xya | xyb | flx | rdo (k : Nat) | cap
  | dspStart | dspOp | dspTest | dspPop | que | agu0 | agu1 | evt | fence | seq | safe
  deriving DecidableEq, Repr

/-- A word in its steps (R193): its address and bits, its stamp, the COND value sampled at step 3 (R198), the steps
it has not completed, the successor chosen at step 10, whether a STEP issued it, the TL at which its
read of an empty input queue began to wait, and whether that read has timed out (R152). -/
structure WordSt where
  addr : Nat
  word : Nat
  stamp : Nat
  slot : Nat
  cond : Bool
  todo : List WStep
  succ : Nat
  stepped : Bool
  waitFrom : Option Nat
  timedOut : Bool
  deriving DecidableEq, Repr

/-- The sequencer's state behind its registers: the issue cursor (R50, R192), the address of the next word, the
word in its steps, the count of R229, the stack depth recorded at the last vector (R221), whether a HALT waits for the
word (R230), whether a cut waits for an abort in progress (R226), whether the present credit stall has been signalled
(R18), whether a code swap holds the word at step 10 (R320), whether the next search operation begins a new search
(R143), and the last result and search index for TEST (R138). -/
structure SeqSt where
  cursor : Nat
  next : Nat
  cur : Option WordSt
  run : Nat
  vecDepth : Nat
  haltReq : Bool
  cutPending : Bool
  starved : Bool
  swapping : Bool
  newSearch : Bool
  lastVal : Option Int
  lastIdx : Option Nat
  deriving DecidableEq, Repr

/-- A result in the datapath input queue, R150. -/
structure InResult where
  i : Int
  q : Int
  info : Nat
  deriving DecidableEq, Repr

/-! ## Acquisition (R238 to R260) -/

/-- A trigger point (R244) with the unit it came from (R258, R259). -/
structure TrigPoint where
  w : Nat
  k : Nat
  frac : Nat
  tile : Nat
  device : Nat
  deriving DecidableEq, Repr

/-- An occurrence of a condition (R243) at its point: the condition's number, the generation of an event that caused it
(R272), and whether it came from another unit (R258). -/
structure CapPoint where
  point : TrigPoint
  cond : Nat
  gen : Option Nat
  foreign : Bool
  deriving DecidableEq, Repr

/-- A record in hand (R248 to R255): its point, conditions, class and flags, the counts its header carries, its number and
slot, the frames it is to take from its point on and those it has taken, the capture frame of its first payload frame, the bytes
of its payload that the writer has moved out of the ring, and whether a clamped sample or a result with OVR is among what it holds. -/
structure Record where
  point : TrigPoint
  condMask : Nat
  source : Nat
  gen : Option Nat
  cls : Nat
  short : Bool
  trunc : Nat
  group : Bool
  preAct : Nat
  post : Nat
  postAct : Nat
  dead : Nat
  lost : Nat
  num : Nat
  ntLo : Nat
  slot : Nat
  first : Nat
  moved : Nat
  ovr : Bool
  deriving DecidableEq, Repr

/-- A record slot whose descriptor the host has not returned (R254): its class, its index, and the number of the
descriptor's entry. -/
structure CapSlot where
  cls : Nat
  slot : Nat
  seq : Nat
  deriving DecidableEq, Repr

/-- An ARM or DISARM message that a group member follows, and the frame at which it does (R257). -/
structure GroupArm where
  frame : Nat
  disarm : Bool
  cls : Nat
  deriving DecidableEq, Repr

/-- A result in the ring of a RESULTS class (R241): its frame, its payload and its OVR. -/
structure RingResult where
  tl : Nat
  payload : List Byte
  ovr : Bool
  deriving DecidableEq, Repr

/-- An acquisition unit: the first frame of its ring history, the last frame in the ring, the ring's frames (newest first, each
with its bytes and whether a clamped sample lies in it), the results, the occurrences that wait to open a record (in the
order met) and those whose point is still ahead, the group messages still ahead, the record in hand, the tick from which
REARM may end, whether the unit is to be IDLE after it (R247, R255), whether LEVEL and WINDOW were true in the last frame
(R249), M of the last frame (R243), the dead frames since the last point (R251), the lost triggers by class since the last
record of each (R249), the tick of the frame whose conditions were last tested, the next slot of each class, the slots not returned, the last accepted edge of each TRIG_IN input in 8 ps steps, and the FSEL of the channels that had a window in the
frame that ended last. -/
structure CapUnit where
  ringStart : Nat
  ringEnd : Nat
  ring : List (List Byte × Bool)
  results : List RingResult
  points : List CapPoint
  future : List CapPoint
  garms : List GroupArm
  rec_ : Option Record
  rearmAt : Nat
  disarm : Bool
  runLevel : Bool
  runWindow : Bool
  lastM : Nat
  dead : Nat
  lost : List (Nat × Nat)
  tested : Nat
  next : List (Nat × Nat)
  slots : List CapSlot
  tinLast : List (Nat × Nat)
  fsel : List (Nat × Nat)
  deriving DecidableEq, Repr

/-- A message on the trigger line (R256): its kind (0 ARM, 1 FIRE, 2 DISARM), class and point with its origin. -/
structure TrigMsg where
  kind : Nat
  cls : Nat
  point : TrigPoint
  deriving DecidableEq, Repr

/-- What waits at an end of a remote peer pair, in order of arrival (R19): the queue, and the number of an entry of an outbound one, or
none for the credit of an inbound one. -/
structure PeerWait where
  tile : Nat
  index : Nat
  seq : Option Nat
  deriving DecidableEq, Repr

/-! ## Links (R357 to R370) -/

/-- A message open at the receiver of a link (R364, R365): its class, its destination and its source, the entries still to come, the
bytes of the present entry, and whether the message has been discarded, so that its data blocks go nowhere. -/
structure OpenMsg where
  cls : Nat
  tile : Nat
  index : Nat
  srcTile : Nat
  srcIndex : Nat
  left : Nat
  bytes : List Byte
  dead : Bool
  deriving DecidableEq, Repr

/-- The latest TRAIN block that a lane of a link received (R359, R362): the sender's index, width code, device number, READY
and COUNT. -/
structure TrainRx where
  idx : Nat
  width : Nat
  dev : Nat
  ready : Bool
  count : Nat
  deriving DecidableEq, Repr

/-- What a link switches its stripes for (R360): nothing, its first bond, a degradation or a re-bond. -/
inductive LinkPhase where
  | steady | bond | degrade | rebond
  deriving DecidableEq, Repr

/-- A Brisol link behind its registers: the failed mask of this end and the partner's latest (R366, R369), the next CSEQ and the
last one accepted (R367), the stripe sets of the two directions and those they are to adopt (R360), what they switch for and
which direction has switched, the TRAIN blocks received by lane, the open messages (newest first), whether a lulled
transmitter is waking, and the control blocks that wait for it (R353). -/
structure LinkSt where
  own : Nat
  far : Nat
  csNext : Nat
  csLast : Nat
  txSet : Nat
  rxSet : Nat
  txNext : Option Nat
  rxNext : Option Nat
  phase : LinkPhase
  txDone : Bool
  rxDone : Bool
  train : List (Nat × TrainRx)
  msgs : List OpenMsg
  waking : Bool
  held : List Nat
  deriving DecidableEq, Repr

/-! ## Network time and IEEE 1588 (R372 to R381) -/

/-- A staged NT command (R373): its operation, its 96-bit value, whether it waits for the next accepted EPOCH edge, and
otherwise the frame AT, or none for the next tick, the tick at which it was staged, and whether an edge has been accepted since. -/
structure NtCmd where
  op : Nat
  val : Nat
  epoch : Bool
  edge : Bool
  at_ : Option Nat
  staged : Nat
  deriving DecidableEq, Repr

/-- A Sync that a slave has accepted (R380): its sequence number, the time of its arrival and its correction, and the
master's departure time with the correction of the Follow_Up, when they are known. Times are in units of 2^-16 ns. -/
structure PtpSync where
  seq : Nat
  t2 : Int
  corr : Int
  t1 : Option Int
  deriving DecidableEq, Repr

/-- The PTP engine (R377 to R380): the sequence numbers it sends next for Sync, Announce and Delay_Req, the Sync of the
present exchange, the Delay_Req that waits for its answer (sequence number and departure time), and the master of MASTER_SEEN
latched or not. -/
structure PtpSt where
  syncSeq : Nat
  annSeq : Nat
  reqSeq : Nat
  sync : Option PtpSync
  req : Option (Nat × Int)
  seen : Bool
  deriving DecidableEq, Repr

/-! ## Compression (R393) -/

/-- A record in a compressor (R393): the queue of its descriptor (tile and index), the descriptor's number, the record's
device address and length, and how many of its bytes have left. -/
structure CompJob where
  tile : Nat
  index : Nat
  seq : Nat
  addr : Nat
  len : Nat
  done : Nat
  deriving DecidableEq, Repr

/-! ## DDR5 channels (R405 to R418) -/

/-- An entry of an activate table (R415): the bank (subchannel, rank, bank group and bank as one number), the row and
its count. -/
structure Activate where
  bank : Nat
  row : Nat
  count : Nat
  deriving DecidableEq, Repr

/-- A queued write (R407): its line, the class of its requester, and whether a request to another line of its row keeps its bank in
order until it has drained (R408). -/
structure DdrWrite where
  line : Nat
  cls : Nat
  order : Bool
  deriving DecidableEq, Repr

/-- A request that waits for its turn (R19, R407): channel offset, class, whether it writes and opens its row, the queued writes that
drain before it, the MR4 read of a wake, and the bytes that it is to give out when it is a read from outside. -/
structure DdrReq where
  off : Nat
  cls : Nat
  write : Bool
  opens : Bool
  drained : Nat
  hot : Bool
  data : Option (List Byte)
  deriving DecidableEq, Repr

/-- Commands that the controller sends to the DRAM of a subchannel (R409, R411, R414 to R417). -/
inductive DdrOp where
  | activate | precharge | read | write | refresh | rfm | zq | modeRead | enterFrost | leaveFrost
  deriving DecidableEq, Repr

/-- A command in a retry buffer (R409): what it is, and the channel offset or rank that it names. -/
structure DdrCmd where
  op : DdrOp
  at_ : Nat
  deriving DecidableEq, Repr

/-- A DDR5 channel behind its registers: the refresh debt of its ranks in ns (R411), which ranks are in a REFab, which ranks owe a
ZQ calibration (R417), which subchannels replay and their failed replays (R409), the write queue (R407) and the retry buffer (R409)
of each subchannel, newest first, the activate tables, the requests that wait, in order of arrival, the capture writer's buffer, oldest
first, as lines with the bytes of each (R413), and the tick of the last REFab of each rank. -/
structure DdrSt where
  debt : List Nat
  busy : List Bool
  zqDue : List Bool
  replay : List Bool
  fails : List Nat
  writes : List (List DdrWrite)
  cmds : List (List DdrCmd)
  acts : List Activate
  waiting : List DdrReq
  writer : List (Nat × Nat)
  lastRef : List (Option Nat)
  deriving DecidableEq, Repr

/-! ## Housekeeping (R421 to R442) -/

/-- What the housekeeping converter converts (R428): a sequence entry, the thermal injection, the host's injected conversion or a
calibration. -/
inductive HkItem where
  | entry (e : Nat)
  | thermal
  | inject
  | calibrate
  deriving DecidableEq, Repr

/-- The housekeeping controller behind its registers: the item being converted, the number of entries and the entry words of the
running round (R425, R426) with its mode, its next entry, the generation of the event that started it (R273), what is left in ns of the delay
that precedes its first conversion, from the last entry boundary on (R426), the offset and the REF code that the last calibration measured at each
gain (R421), an event latched at the
busy start input, one that acted and whose round has not started, the input's overrun flag and count (R269; no register shows
them), whether a calibration and a thermal injection are wanted,
the patch words whose clasp point has come, in the order staged (R428), the plausible readings (time and temperature, newest first, R432),
whether the previous DIODE conversion reported OVR, the last plausible temperature, whether a rate restarts, the frames that
the always-on domain has counted, the last step change, the start of the release period, and whether Tempest is pending
(R436). -/
structure HkSt where
  item : Option HkItem
  nent : Nat
  words : List Nat
  mode : Nat
  next : Nat
  gen : Option Nat
  delay : Nat
  cal : List (Int × Int)
  latched : Option Nat
  acted : Option Nat
  busyInput : Bool
  overrun : Bool
  overruns : Nat
  calWanted : Bool
  thermalDue : Bool
  patch : List (Nat × Nat)
  readings : List (Nat × Int)
  prevOvr : Bool
  lastTemp : Option Int
  clock : Nat
  lastStep : Option Nat
  releaseFrom : Option Nat
  tempest : Bool
  deriving DecidableEq, Repr

/-! ## The image loader (R307 to R331) -/

/-- What the start-up order lets the loader take (R448): nothing yet, a load from flash that is to begin, or the entries of
the IMAGE queue. -/
inductive BootMode where
  | closed | flash | open_
  deriving DecidableEq, Repr

/-- The payload of a COMMIT frame (R318). -/
structure Commit where
  mode : Nat
  release : Nat
  value : Nat
  deriving DecidableEq, Repr

/-- A block of a compressed image at a decompressor (R396): the instance, the block's bytes, and its output, once decoded, until the
loader consumes it. -/
structure DecJob where
  inst : Nat
  block : List Byte
  out : Option (List Byte)
  deriving DecidableEq, Repr

/-- The loader behind its registers: what it may take; the image's source (0 none, 1 and 2 a flash slot, 3 the host); whether
the image is compressed; the bytes of the frame stream and of compressed blocks not consumed yet, and the blocks at the
decompressors, in their order; the flash bytes still to read
and the slot that may follow; the SEQ that the next frame must carry (none: no image has begun); whether a frame beyond
BOOTPARAM has passed; the flags of the START frame and its IMAGE_ID; whether memory training holds the image (R450) and whether
that pause has passed since the reset; the staged fields (newest first), code words (tile and word address) and patch
words; the COMMIT frame that waits for acceptance or for P; whether a signature is being verified, the bytes that it covers and its
payload (R330); the tick at which a commit
made before the first epoch applies (R451); whether P waits for the next accepted edge; and the flash operation that runs
(operation and address). -/
structure LoaderSt where
  boot : BootMode
  source : Nat
  comp : Bool
  buf : List Byte
  cbuf : List Byte
  dec : List DecJob
  flashPos : Nat
  flashLeft : Nat
  otherSlot : Option Nat
  nextSeq : Option Nat
  body : Bool
  signed : Bool
  imageId : Nat
  holding : Bool
  paused : Bool
  shadows : List (Fld × Nat)
  code : List (Nat × Nat)
  patch : List (Nat × Nat)
  commit : Option Commit
  ended : Bool
  lastBlock : Bool
  commitHeld : Bool
  verifying : Bool
  stream : List Byte
  sig : List Byte
  dueTick : Option Nat
  awaitEdge : Bool
  flashOp : Option (Nat × Nat)
  flashOps : Nat
  deriving DecidableEq, Repr

/-! ## Management target and JTAG port (R471, R472) -/

/-- The instruction that the TAP holds. -/
inductive TapInstr where
  | bypass | extest | sample | memAccess
  deriving DecidableEq, Repr

/-- The two maintenance ports: the target's access address and status bits, the TAP's instruction, the boundary-scan register, and the
address, read data and result of the last MEM_ACCESS. -/
structure PortSt where
  mgtAddr : Nat
  mgtReject : Bool
  mgtReach : Bool
  tap : TapInstr
  scan : List Bool
  jtagAddr : Nat
  jtagData : Nat
  jtagBad : Bool
  deriving DecidableEq, Repr

/-! ## Tiles -/

/-- Entries of an inbound peer queue that were lost on the way (R291): the queue, the first number missing, how many. -/
structure PeerGap where
  index : Nat
  first : Nat
  count : Nat
  deriving DecidableEq, Repr

/-- Everything of a tile that its registers do not show in full; issued gives the clasp of the last entry of each producer (R49), and late lists, by channel and oldest first, the complete windows whose
result has not been presented although a later window has opened (R125). -/
structure Tile where
  seq : SeqSt
  stage : List Staged
  issued : List (Producer × Nat)
  gaps : List PeerGap
  clasps : Vector Clasp 33
  aborts : List Nat
  pages : List PageBuf
  tone : Vector Tone 16
  dac : Vector Dac 3
  flux : Vector Flux 8
  fluxLine : Vector (List (List Int)) 8
  fluxOld : List (Nat × List (Nat × Nat))
  pbOld : List PbOld
  win : Vector (Option Window) 8
  late : List (Nat × Window)
  adc : List AdcFrame
  taintLeft : Nat
  dspIn : List InResult
  watch : Vector Watch 16
  arms : List Arming
  cap : CapUnit
  deriving DecidableEq, Repr

def Clasp.reset : Clasp := ⟨[], none, []⟩
def Tone.reset : Tone := ⟨none, [], []⟩
def Dac.reset : Dac := ⟨[], 0, none, []⟩
def Flux.reset : Flux := ⟨none, [], List.replicate 8 none, [], []⟩
def Watch.reset : Watch := ⟨false, List.replicate 4 none, 0⟩
def TableCtx.reset : TableCtx := ⟨List.replicate 22 0, List.replicate 22 none, none, []⟩
def SeqSt.reset : SeqSt := ⟨0, 0, none, 0, 0, false, false, false, false, false, none, none⟩
def CapUnit.reset : CapUnit := ⟨0, 0, [], [], [], [], [], none, 0, false, false, false, 0, 0, [], 0, [], [], [], []⟩
def LinkSt.reset : LinkSt := ⟨0, 0, 0, 15, 0, 0, none, none, .steady, false, false, [], [], false, []⟩
def PtpSt.reset : PtpSt := ⟨0, 0, 0, none, none, false⟩
def DdrSt.reset : DdrSt :=
  ⟨[0, 0], [false, false], [false, false], [false, false], [0, 0], [[], []], [[], []], [], [], [], [none, none]⟩
def HkSt.reset : HkSt :=
  ⟨none, 0, [], 0, 0, none, 0, [], none, none, false, false, 0, false, false, [], [], false, none, 0, none, none, false⟩
def LoaderSt.reset : LoaderSt :=
  ⟨.closed, 0, false, [], [], [], 0, 0, none, none, false, false, 0, false, false, [], [], [], none, false, false, false, false, [], [], none,
    false, none, 0⟩
def PortSt.reset : PortSt := ⟨0, false, false, .bypass, [], 0, 0, false⟩
def SlotC.reset : SlotC := ⟨false, 0, false, false, false, 0⟩

/-- A tile after reset: nothing held, nothing playing. -/
def Tile.reset : Tile where
  seq := SeqSt.reset
  stage := []
  issued := []
  gaps := []
  clasps := Vector.replicate 33 Clasp.reset
  aborts := []
  pages := []
  tone := Vector.replicate 16 Tone.reset
  dac := Vector.replicate 3 Dac.reset
  flux := Vector.replicate 8 Flux.reset
  fluxLine := Vector.replicate 8 []
  fluxOld := []
  pbOld := []
  win := Vector.replicate 8 none
  late := []
  adc := []
  taintLeft := 0
  dspIn := []
  watch := Vector.replicate 16 Watch.reset
  arms := []
  cap := CapUnit.reset

end Sys2Proof.Machine
end

