-- ==== Sys2Proof/Machine/State.lean ====
section
/-! DEFINITION. The state of the block: registers, memories, typed state, the queue of waiting commands, and the
state after reset. -/

namespace Sys2Proof.Machine

/-- Why the block stops with a fault. It has no constructor: the spec gives every command of the table an effect, and no
address access ends a run (R8, R29: reserved addresses read zeros and ignore writes). -/
inductive Fault where
  deriving DecidableEq, Repr

/-- Why a command has no meaning in the model. -/
inductive Refusal where
  /-- Raised by an arm of exec for a command that is not modelled yet, by its mnemonic. Safe: the block stops where the hardware goes on. -/
  | notModelled (mnemonic : String)
  deriving DecidableEq, Repr

/-- Fuses (R293, R331): the base MAC address, the image key hash and the two security bits. -/
structure Fuses where
  mac : Nat
  keyHash : List Byte
  hashSet : Bool
  signRequired : Bool
  deriving DecidableEq, Repr

/-- The typed part of the block's state: what its registers and memories do not show in full. epochZero is the tick from which the
TL = 0 boundary of an accepted edge may come, and epochPart the sample slots by which it lies behind that tick (R36). -/
structure Dev where
  ticks : Nat
  tiles : Vector Tile 32
  tables : Vector TableCtx 4
  held : List Firing
  flight : List EventMsg
  notes : List NoteLogic
  line : List TrigMsg
  tokensSeen : List (TrigMsg × Nat)
  links : Vector LinkSt 32
  peerWait : List PeerWait
  marks : List (Nat × Nat)
  heldFrames : Option (List TileFrame)
  ntCmd : Option NtCmd
  epochZero : Option Nat
  epochPart : Nat
  ptp : PtpSt
  compDone : List (Nat × Nat)
  compJobs : Vector (Option CompJob) 8
  ddr : Vector DdrSt 2
  hk : HkSt
  loader : LoaderSt
  port : PortSt
  out : List Out
  deriving DecidableEq, Repr

/-- The state of the block. Registers and memories are sparse lists in canonical form (Store.lean): regs lists, by the key of
a field, what differs from the field's reset value; flash lists the bytes that differ from 0xFF, and mem those that differ from what an
unwritten byte reads as: 0, or what it holds since its contents were lost, with the ranges that lost them in lost. -/
structure State where
  tl : Tl
  regs : List (Nat × Nat)
  mem : List Host.Cell
  lost : List (Nat × Nat)
  flash : List Host.Cell
  fuse : Fuses
  dev : Dev
  fresh : Nat
  pending : List Instr
  deriving DecidableEq, Repr

def Fuses.reset : Fuses := ⟨0, [], false, false⟩

def Dev.reset : Dev where
  ticks := 0
  tiles := Vector.replicate 32 Tile.reset
  tables := Vector.replicate 4 TableCtx.reset
  held := []
  flight := []
  notes := []
  line := []
  tokensSeen := []
  links := Vector.replicate 32 LinkSt.reset
  peerWait := []
  marks := []
  heldFrames := none
  ntCmd := none
  epochZero := none
  epochPart := 0
  ptp := PtpSt.reset
  compDone := []
  compJobs := Vector.replicate 8 none
  ddr := Vector.replicate 2 DdrSt.reset
  hk := HkSt.reset
  loader := LoaderSt.reset
  port := PortSt.reset
  out := []

/-- The block right after reset: every register at its reset value, nothing listed in memory, nothing waiting. -/
def State.reset : State where
  tl := ⟨0, false⟩
  regs := []
  mem := []
  lost := []
  flash := []
  fuse := Fuses.reset
  dev := Dev.reset
  fresh := 0
  pending := []

end Sys2Proof.Machine
end

