-- ==== Sys2Proof/Machine/Store.lean ====
section
/-! DEFINITION. Sparse stores: lists of (key, value) pairs in one canonical form, and logs of writes that have not
been carried into one yet. Memory, flash and the register store are such lists. -/

namespace Sys2Proof.Machine

/-- The value that a list of pairs gives a key: that of its first entry for the key, or d where it has none. -/
def assoc {α : Type} (d : α) : List (Nat × α) → Nat → α
  | [], _ => d
  | (k, v) :: r, a => if a = k then v else assoc d r a

/-- The canonical list with the value v at key a; the default d is not listed. -/
def insertCell {α : Type} [DecidableEq α] (d : α) : List (Nat × α) → Nat → α → List (Nat × α)
  | [], a, v => if v = d then [] else [(a, v)]
  | (k, x) :: r, a, v =>
    if a < k then (if v = d then (k, x) :: r else (a, v) :: (k, x) :: r)
    else if a = k then (if v = d then r else (a, v) :: r)
    else (k, x) :: insertCell d r a v

/-- The list after the writes of a log, newest first. -/
def commit {α : Type} [DecidableEq α] (d : α) (base : List (Nat × α)) (log : List (Nat × α)) : List (Nat × α) :=
  log.foldr (fun c b => insertCell d b c.1 c.2) base

/-- Whether a key lies in one of the ranges [lo, hi). -/
def inRanges (rs : List (Nat × Nat)) (k : Nat) : Bool := rs.any (fun r => decide (r.1 ≤ k) && decide (k < r.2))

/-- The list without the entries whose key lies in one of the ranges. -/
def wipe {α : Type} (rs : List (Nat × Nat)) (l : List (Nat × α)) : List (Nat × α) :=
  l.filter (fun c => !inRanges rs c.1)

/-- The canonical form: keys strictly rising above lo, and no entry equal to the default. -/
def canonicalFrom {α : Type} [DecidableEq α] (d : α) : Option Nat → List (Nat × α) → Bool
  | _, [] => true
  | lo, (k, v) :: r =>
    (match lo with | none => true | some b => decide (b < k)) && (decide (v ≠ d) && canonicalFrom d (some k) r)

/-- Whether a list is in canonical form. -/
def canonical {α : Type} [DecidableEq α] (d : α) (l : List (Nat × α)) : Bool := canonicalFrom d none l

/-- The form of memory: addresses strictly rising, and no byte listed that an unlisted address reads as (0). -/
def Memory.wf (m : List (Nat × Byte)) : Bool := canonical (0 : Byte) m

/-- Entry i of a vector, or d outside it. -/
def vget {α : Type} {n : Nat} (v : Vector α n) (d : α) (i : Nat) : α := if h : i < n then v[i] else d

/-- A vector with entry i replaced; outside it, the same vector. -/
def vset {α : Type} {n : Nat} (v : Vector α n) (i : Nat) (x : α) : Vector α n := if h : i < n then v.set i x else v

end Sys2Proof.Machine
end

