-- ==== Sys2Proof/Machine/Ops.lean ====
section
/-! DEFINITION. The named operations over registers, memories and typed state, and the one runner through which every
meaning changes the state. -/

namespace Sys2Proof.Machine

variable {σ : State}

/-- What a meaning works on, for a command begun at a state σ. Registers, memory and flash are read through logs of writes
(newest first) over what σ holds, and over the ranges the command has cleared; TL changes through tlc alone, and the fuses stay. -/
structure Work (σ : State) where
  dev : Dev
  rwipe : List (Nat × Nat)
  rlog : List (Nat × Nat)
  mwipe : List (Nat × Nat)
  mlog : List Host.Cell
  lost : List (Nat × Nat)
  fwipe : List (Nat × Nat)
  flog : List Host.Cell
  tlc : TlChange
  fresh : Nat

/-- The work of a command before it has done anything. What the previous command gave out is gone. -/
def Work.start (s : State) : Work s where
  dev := { s.dev with out := [] }
  rwipe := []
  rlog := []
  mwipe := []
  mlog := []
  lost := s.lost
  fwipe := []
  flog := []
  tlc := .keep
  fresh := s.fresh

/-- TL as a command sees it: the frame that a tick begins (R35, R36), and otherwise the frame that the command finds. -/
def Work.tl (w : Work σ) : Tl :=
  match w.tlc with
  | .stop => σ.tl
  | c => σ.tl.apply c

/-- The fuses as a command finds them. -/
def Work.fuse (_ : Work σ) : Fuses := σ.fuse

/-- The state once the work of a command is carried into it. The fuses and the queue of waiting commands stay. -/
def Work.finish (w : Work σ) : State :=
  { σ with
    dev := w.dev
    regs := commit 0 (wipe w.rwipe σ.regs) w.rlog
    mem := commit 0 (wipe w.mwipe σ.mem) w.mlog
    lost := w.lost
    flash := commit 0xFF (wipe w.fwipe σ.flash) w.flog
    tl := σ.tl.apply w.tlc
    fresh := w.fresh }

/-- Run a meaning: every command has an effect, so the answer is a next state. -/
def run (f : ∀ {σ : State}, Work σ → Work σ) (s : State) : Host.Outcome State Fault Refusal :=
  .next (f (Work.start s)).finish

/-- Run a meaning that also changes the fuses (R331). -/
def runFuse (g : ∀ {σ : State}, Work σ → Fuses → Fuses) (f : ∀ {σ : State}, Work σ → Work σ) (s : State) :
    Host.Outcome State Fault Refusal :=
  .next { (f (Work.start s)).finish with fuse := g (Work.start s) s.fuse }

/-! ## Registers -/

/-- The value of a register field. -/
def Work.get (w : Work σ) (f : Fld) : Nat :=
  (assoc (if inRanges w.rwipe f.key then 0 else assoc 0 σ.regs f.key) w.rlog f.key) ^^^ f.reset

/-- A register field as a truth value. -/
def Work.on (w : Work σ) (f : Fld) : Bool := w.get f != 0

/-- A register field set to a value, of which it keeps the bits it has. -/
def Work.set (w : Work σ) (f : Fld) (v : Nat) : Work σ :=
  { w with rlog := (f.key, (v % 2 ^ f.width) ^^^ f.reset) :: w.rlog }

/-- A register field set to 1 or 0. -/
def Work.setB (w : Work σ) (f : Fld) (b : Bool) : Work σ := w.set f (b2n b)

/-- A counter advanced by n and held at its maximum. -/
def Work.add (w : Work σ) (f : Fld) (n : Nat) : Work σ := w.set f (satAdd (2 ^ f.width - 1) (w.get f) n)

/-- A counter advanced by 1 and held at its maximum. -/
def Work.inc (w : Work σ) (f : Fld) : Work σ := w.add f 1

/-- Bit b of a field. -/
def Work.getBit (w : Work σ) (f : Fld) (b : Nat) : Bool := bit (w.get f) b

/-- Bit b of a field set or cleared. -/
def Work.setBit (w : Work σ) (f : Fld) (b : Nat) (v : Bool) : Work σ :=
  w.set f (if v then w.get f ||| 2 ^ b else w.get f - (if bit (w.get f) b then 2 ^ b else 0))

/-- Every field whose key lies in one of the ranges returned to its reset value. -/
def Work.wipeRegs (w : Work σ) (rs : List (Nat × Nat)) : Work σ :=
  { w with rwipe := rs ++ w.rwipe, rlog := wipe rs w.rlog }

/-! ## Memory -/

/-- What the byte at an address reads as while nothing has written it: 0, and a free value once its contents have been lost. The
ranges that have lost their contents are given. [note 14: DESIGN CHOICE] -/
def lostAt (rs : List (Nat × Nat)) (a : Nat) : Byte :=
  let n := (rs.filter (fun r => decide (r.1 ≤ a) && decide (a < r.2))).length
  if n = 0 then 0 else BitVec.ofNat 8 (Config.lostByte n a)

/-- The byte at an address of the device map (R26). [note 13: DESIGN CHOICE] -/
def Work.rd8 (w : Work σ) (a : Nat) : Byte :=
  assoc (if inRanges w.mwipe a then 0 else assoc 0 σ.mem a) w.mlog a ^^^ lostAt w.lost a

/-- A byte stored. -/
def Work.wr8 (w : Work σ) (a : Nat) (b : Byte) : Work σ := { w with mlog := (a, b ^^^ lostAt w.lost a) :: w.mlog }

/-- n bytes from an address on. -/
def Work.rdBytes (w : Work σ) (a : Nat) : Nat → List Byte
  | 0 => []
  | n + 1 => w.rd8 a :: w.rdBytes (a + 1) n

/-- Bytes stored from an address on. -/
def Work.wrBytes (w : Work σ) (a : Nat) : List Byte → Work σ
  | [] => w
  | b :: bs => (w.wr8 a b).wrBytes (a + 1) bs

/-- The little-endian number of n bytes at an address (R6). -/
def Work.rdLe (w : Work σ) (a n : Nat) : Nat := ofLe (w.rdBytes a n)

/-- A number stored in n bytes, little-endian (R6). -/
def Work.wrLe (w : Work σ) (a n v : Nat) : Work σ := w.wrBytes a (leBytes n v)

/-- The contents of the ranges of memory lost: a byte there is free until it is written (R410, R437, R445).
[note 14: DESIGN CHOICE] -/
def Work.wipeMem (w : Work σ) (rs : List (Nat × Nat)) : Work σ :=
  { w with mwipe := rs ++ w.mwipe, mlog := wipe rs w.mlog, lost := rs ++ w.lost }

/-- The byte at an address of the boot flash; an erased byte reads 0xFF. [note 13: DESIGN CHOICE] -/
def Work.fl8 (w : Work σ) (a : Nat) : Byte :=
  assoc (if inRanges w.fwipe a then 0xFF else assoc 0xFF σ.flash a) w.flog a

/-- The bytes of the ranges of flash erased. -/
def Work.flErase (w : Work σ) (rs : List (Nat × Nat)) : Work σ :=
  { w with fwipe := rs ++ w.fwipe, flog := wipe rs w.flog }

/-- A byte of flash programmed. -/
def Work.flSet (w : Work σ) (a : Nat) (b : Byte) : Work σ := { w with flog := (a, b) :: w.flog }

/-- n bytes of flash. -/
def Work.flBytes (w : Work σ) (a : Nat) : Nat → List Byte
  | 0 => []
  | n + 1 => w.fl8 a :: w.flBytes (a + 1) n

/-! ## Free values -/

/-- The next free value, of a number of bits. [note 15: DESIGN CHOICE] -/
def Work.free (w : Work σ) (width : Nat) : Nat × Work σ :=
  (Config.freeValue w.fresh % 2 ^ width, { w with fresh := w.fresh + 1 })

/-- n free bytes. [note 15: DESIGN CHOICE] -/
def Work.freeBytes (w : Work σ) : Nat → List Byte × Work σ
  | 0 => ([], w)
  | n + 1 =>
    let (v, w1) := w.free 8
    let (r, w2) := w1.freeBytes n
    (BitVec.ofNat 8 v :: r, w2)

/-! ## Typed state -/

/-- Tile t. -/
def Work.tile (w : Work σ) (t : Nat) : Tile := vget w.dev.tiles Tile.reset t

/-- Tile t replaced. -/
def Work.setTile (w : Work σ) (t : Nat) (x : Tile) : Work σ :=
  { w with dev := { w.dev with tiles := vset w.dev.tiles t x } }

/-- Tile t changed. -/
def Work.updTile (w : Work σ) (t : Nat) (f : Tile → Tile) : Work σ := w.setTile t (f (w.tile t))

/-- Something given out. -/
def Work.emit (w : Work σ) (o : Out) : Work σ := { w with dev := { w.dev with out := w.dev.out ++ [o] } }

/-- TL as the command finds it. -/
def Work.now (w : Work σ) : Nat := w.tl.count

/-- Bits [31:0] of NT_NS (R374). -/
def Work.ntLo (w : Work σ) : Nat := bits (w.get NT_NOW) 32 32

/-- The work done for each element of a list in turn. -/
def Work.each {α : Type} (w : Work σ) (l : List α) (f : Work σ → α → Work σ) : Work σ := l.foldl f w

/-! ## Firings and the error log -/

/-- Event source s of tile t (R263). -/
def tileSrc (t s : Nat) : Nat := 14 * t + s

/-- A source fires at a generation; the firing is held until the source emits (R265). -/
def Work.fireGen (w : Work σ) (src gen : Nat) (soft : Bool) : Work σ :=
  { w with dev := { w.dev with held := w.dev.held ++ [⟨src, gen, soft, w.now, w.ntLo⟩] } }

/-- A firing that no event caused (R272). -/
def Work.fire (w : Work σ) (src : Nat) : Work σ := w.fireGen src 0 false

/-- A firing of source s of tile t that an event of generation g caused, or none: R272 and the cut of R273.
[note 63: DESIGN CHOICE] -/
def Work.fireTileCaused (w : Work σ) (t s : Nat) (g : Option Nat) : Work σ :=
  match g with
  | none => w.fire (tileSrc t s)
  | some g =>
    if g + 1 < 7 then w.fireGen (tileSrc t s) (g + 1) false
    else ((w.setB (EVPORT_LOOP_FLAG t) true).inc (EVPORT_LOOP_COUNT t)).fire (tileSrc t 12)

/-- A housekeeping firing that an event of generation g caused, or none: R272 and the cut of R273.
[note 63: DESIGN CHOICE] -/
def Work.fireHkCaused (w : Work σ) (src : Nat) (g : Option Nat) : Work σ :=
  match g with
  | none => w.fire src
  | some g =>
    if g + 1 < 7 then w.fireGen src (g + 1) false
    else ((w.setB EVENTS_LOOP_FLAG true).inc EVENTS_LOOP_COUNT).fire 511

/-- Paths of R30 and of the error log (R457): Genond, management target, JTAG, hardware. -/
inductive Path where
  | genond | mgt | jtag | hardware
  deriving DecidableEq, Repr

/-- The code of a path in the error log (R457). [note 125: DEDUCED] -/
def Path.code : Path → Nat
  | .genond => 0
  | .mgt => 1
  | .jtag => 2
  | .hardware => 3

/-- One more entry of the error log (R455, R457): it takes number HEAD, counts an unread entry that it overwrites, and
fires ERRLOG. [note 95: DEDUCED] -/
def Work.errlog (w : Work σ) (kind : Nat) (path : Path) (tile detail addr : Nat) : Work σ :=
  let h := w.get DEV_ERRLOG_HEAD
  let i := h % 64
  let old := w.get (DEV_ERRLOG_W7 i)
  let unread := decide (w.get (DEV_ERRLOG_W0_KIND i) ≠ 0) && !seqBefore old (w.get DEV_ERRLOG_ACK)
  let w := if unread then w.inc DEV_ERRLOG_LOST else w
  let w := (w.set (DEV_ERRLOG_W0_KIND i) kind).set (DEV_ERRLOG_W0_PATH i) path.code
  let w := (w.set (DEV_ERRLOG_W0_TILE i) tile).set (DEV_ERRLOG_W0_DETAIL i) detail
  let w := (w.set (DEV_ERRLOG_W1 i) addr).set (DEV_ERRLOG_W2 i) (addr / 2 ^ 32)
  let w := (w.set (DEV_ERRLOG_W4 i) w.now).set (DEV_ERRLOG_W5 i) (w.now / 2 ^ 32)
  let w := (w.set (DEV_ERRLOG_W6 i) w.ntLo).set (DEV_ERRLOG_W7 i) h
  (w.set DEV_ERRLOG_HEAD (h + 1)).fire 487

/-- Tile number of a device entry in the error log (R457). -/
def devTile : Nat := 63

/-- The tile window that an address lies in, or devTile. -/
def tileOfAddr (a : Nat) : Nat := if 0x10000000 ≤ a ∧ a < 0x18000000 then (a - 0x10000000) / 0x400000 else devTile

/-- A write that a rule ignores, as the error log records it (R456). [note 95: DEDUCED] -/
def Work.ignored (w : Work σ) (path : Path) (f : Fld) : Work σ := w.errlog 0x02 path (tileOfAddr f.addr) 0 f.addr

/-- R323: a write rejected as WRITE_REJECT is counted, recorded, logged, and fires source 503. -/
def Work.reject (w : Work σ) (path : Path) (addr : Nat) : Work σ :=
  let w := w.inc LOADER_REJECT_COUNT
  let w := if w.on LOADER_REJECT_VALID then w else
    (((w.set LOADER_REJECT_VALID 1).set LOADER_REJECT_PATH path.code).set LOADER_REJECT_ADDR_LO addr).set
      LOADER_REJECT_ADDR_HI (addr / 2 ^ 32)
  (w.errlog 0x03 path (tileOfAddr addr) 0 addr).fire 503

end Sys2Proof.Machine
end

