-- ==== Sys2Proof/Machine/Ddr.lean ====
section
/-! DEFINITION. The DDR5 channels as their users meet them (R405 to R416): the states, the write queues and their hazards, the retry
buffer of commands, refresh debt, frost, row hammer, and the traffic that every access to a channel makes. -/

namespace Sys2Proof.Machine

variable {σ : State}

/-- R420: states of a DDR5 channel. -/
def DDR_OFF : Nat := 0
def DDR_TRAINING : Nat := 1
def DDR_READY : Nat := 2
def DDR_FROST : Nat := 3
def DDR_FAULT : Nat := 4

/-- The first address of a DDR5 channel window (R26). -/
def ddrBase (chan : Nat) : Nat := if chan = 0 then 0x8000000000 else 0xA000000000

def ddrState (w : Work σ) (c : Nat) : Nat := w.get (DDR_STATUS_STATE c)

def Work.ddr (w : Work σ) (c : Nat) : DdrSt := vget w.dev.ddr DdrSt.reset c

def Work.updDdr (w : Work σ) (c : Nat) (f : DdrSt → DdrSt) : Work σ :=
  { w with dev := { w.dev with ddr := vset w.dev.ddr c (f (w.ddr c)) } }

/-- The ranks of channel c. -/
def ddrRanks (w : Work σ) (c : Nat) : Nat := 1 + w.get (DDR_CFG_RANKS c)

/-- R405, R420: the bytes installed on channel c: 16 GiB for each rank of 16 Gbit devices, 32 GiB of 32 Gbit devices. -/
def ddrCapacity (w : Work σ) (c : Nat) : Nat := 2 ^ 34 * 2 ^ w.get (DDR_CFG_DENSITY c) * ddrRanks w c

/-! ## Commands and the retry buffer (R409) -/

/-- R409: a command sent on a subchannel stands in its retry buffer, which keeps the last 32. [note 102: DEDUCED] -/
def ddrSend (w : Work σ) (c sub : Nat) (x : DdrCmd) : Work σ :=
  w.updDdr c (fun d => { d with cmds := d.cmds.set sub ((x :: d.cmds.getD sub []).take 32) })

/-- A command issued on both subchannels together (R411). -/
def ddrSendBoth (w : Work σ) (c : Nat) (x : DdrCmd) : Work σ := ddrSend (ddrSend w c 0 x) c 1 x

/-- R409: the subchannel replays its commands and issues no other. -/
def ddrReplays (w : Work σ) (c sub : Nat) : Bool := (w.ddr c).replay.getD sub false

/-! ## Refresh debt, MR4 and frost (R411, R414) -/

/-- R411: the tREFI in force, in ns. -/
def tRefi (w : Work σ) (c : Nat) : Nat := if w.on (DDR_STATUS_MR4_2X c) then 1950 else 3900

/-- R411: the refreshes due on a rank. -/
def refDue (w : Work σ) (c r : Nat) : Nat := (w.ddr c).debt.getD r 0 / tRefi w c

/-- DDR.DEBT and DDR.REF_STAT.N_MAX brought up to the debts (R411, R420). -/
def showDebt (w : Work σ) (c : Nat) : Work σ :=
  let w := (w.set (DDR_DEBT_RANK0 c) (min 0xFFFF ((w.ddr c).debt.getD 0 0))).set (DDR_DEBT_RANK1 c)
    (min 0xFFFF ((w.ddr c).debt.getD 1 0))
  w.set (DDR_REF_STAT_N_MAX c) (min 15 (max (w.get (DDR_REF_STAT_N_MAX c)) (max (refDue w c 0) (refDue w c 1))))

/-- R411: an MR4 read of channel c: hot when it calls for doubled refresh. [note 104: DEDUCED] -/
def mr4Read (w : Work σ) (c : Nat) (hot : Bool) : Work σ :=
  showDebt ((ddrSendBoth w c ⟨.modeRead, 0⟩).setB (DDR_STATUS_MR4_2X c) hot) c

/-- The ZQ calibrations of the listed ranks issued (R417). -/
def issueZq (w : Work σ) (c : Nat) (rs : List Nat) : Work σ := w.each rs (fun w r => ddrSendBoth w c ⟨.zq, r⟩)

/-- R414: channel c leaves frost: DEBT is 0, MR4 is read, and a ZQ calibration that fell due is issued.
[note 104: DEDUCED] -/
def frostWake (w : Work σ) (c : Nat) (hot : Bool) : Work σ :=
  if ddrState w c = DDR_FROST then
    let due := (List.range 2).filter (fun r => (w.ddr c).zqDue.getD r false)
    let w := ddrSendBoth (w.set (DDR_STATUS_STATE c) DDR_READY) c ⟨.leaveFrost, 0⟩
    let w := (issueZq w c due).updDdr c (fun d => { d with debt := [0, 0], zqDue := [false, false] })
    mr4Read w c hot
  else w

/-! ## Rows, banks and row hammer (R406, R415, R416) -/

/-- R406: the row bits of channel c. -/
def rowBits (w : Work σ) (c : Nat) : Nat := if w.on (DDR_CFG_DENSITY c) then 17 else 16

def rowOf (w : Work σ) (c off : Nat) : Nat := bits off 18 (rowBits w c)

/-- R406: the rank of an offset. -/
def rankOf (w : Work σ) (c off : Nat) : Nat := if ddrRanks w c = 2 then bits off (18 + rowBits w c) 1 else 0

/-- R406: the bank of an offset, as one number: bank, bank group, subchannel and rank. -/
def bankOf (w : Work σ) (c off : Nat) : Nat :=
  bits off 16 2 + bits off 7 3 * 4 + bits off 6 1 * 32 +
    rankOf w c off * 64

/-- R406: the first offset of a row in the bank of an offset. -/
def rowStart (w : Work σ) (c off row : Nat) : Nat :=
  let keep := off / 64 % 16 * 64 + off / 65536 % 4 * 65536
  keep + row * 2 ^ 18 + rankOf w c off * 2 ^ (18 + rowBits w c)

/-- R415: the entry with the smallest count, the lowest first, replaced by row r. -/
def replaceLeast (bank row : Nat) (tbl : List Activate) : List Activate × Nat :=
  let least := tbl.foldl (fun m a => min m a.count) (tbl.foldl (fun m a => max m a.count) 0)
  match tbl.findIdx? (fun a => a.count = least) with
  | some i => (tbl.set i ⟨bank, row, least + 1⟩, least + 1)
  | none => (tbl, 0)

/-- R415: an activate of a row: the activate table after it, and the row's count in it. -/
def activate (tbl : List Activate) (bank row : Nat) : List Activate × Nat :=
  let mine := tbl.filter (fun a => a.bank = bank)
  let rest := tbl.filter (fun a => a.bank ≠ bank)
  match mine.find? (fun a => a.row = row) with
  | some a => (rest ++ mine.map (fun x => if x.row = row then { x with count := x.count + 1 } else x), a.count + 1)
  | none =>
    if mine.length < 16 then (rest ++ mine ++ [⟨bank, row, 1⟩], 1)
    else
      let (m, n) := replaceLeast bank row mine
      (rest ++ m, n)

/-- PERM of R416. -/
def perm (w : Work σ) (c m : Nat) : Nat := w.get (DDR_ADJ_PERM c (m / 8) (m % 8))

/-- R416: the neighbours that are refreshed for row r: rows whose physical row is at distance 1 or 2, none beyond the bank. -/
def neighbours (w : Work σ) (c r : Nat) : List Nat :=
  let phys := r / 16 * 16 + perm w c (r % 16)
  let inv := fun p => (List.range 16).find? (fun m => perm w c m = p % 16)
  let rows := 2 ^ rowBits w c
  ([(phys : Int) - 2, phys - 1, phys + 1, phys + 2].filter (fun p => decide (0 ≤ p) && decide (p < rows))).filterMap
    (fun p => (inv p.toNat).map (fun m => p.toNat / 16 * 16 + m))

/-- R415: an activate of the row of an offset is sent and counted in its bank's table; with the row's count there. -/
def sendActivate (w : Work σ) (c off : Nat) : Work σ × Nat :=
  let (tbl, n) := activate (w.ddr c).acts (bankOf w c off) (rowOf w c off)
  ((ddrSend w c (bits off 6 1) ⟨.activate, off⟩).updDdr c (fun d => { d with acts := tbl }), n)

/-- R416: the row-hammer work for a row whose count has reached THR: its neighbours are activated and precharged, and with RFM_EN one
RFM goes to the rank. A neighbour whose count reaches THR so has its work at its next activate. [note 102: DEDUCED] -/
def hammer (w : Work σ) (c off bank row : Nat) : Work σ :=
  let sub := bits off 6 1
  let w := w.each (neighbours w c row) (fun w r =>
    let a := rowStart w c off r
    ddrSend (sendActivate w c a).1 c sub ⟨.precharge, a⟩)
  let w := (w.updDdr c (fun d => { d with
    acts := d.acts.map (fun a => if a.bank = bank ∧ a.row = row then { a with count := 0 } else a) })).inc (DDR_RH_STAT_NREF c)
  if w.on (DDR_RH_RFM_EN c) then (ddrSend w c sub ⟨.rfm, off⟩).inc (DDR_RH_STAT_RFM c) else w

/-- R415, R416: an activate of the row of an offset, and the row-hammer work when its count reaches THR. -/
def rowActivate (w : Work σ) (c off : Nat) : Work σ :=
  let (w, n) := sendActivate w c off
  if w.get (DDR_RH_THR c) ≤ n then hammer w c off (bankOf w c off) (rowOf w c off) else w

/-! ## Requests (R407, R408) -/

/-- R409, R411: a request to an offset waits while its subchannel replays, and one that needs the DRAM at once (a read, or a row to open)
while its rank is unavailable for a refresh. -/
def ddrWaits (w : Work σ) (c off : Nat) (read opens : Bool) : Bool :=
  ddrReplays w c (bits off 6 1) || ((w.ddr c).busy.getD (rankOf w c off) false && (read || opens))

/-- R407: the queued writes of a subchannel, newest first. -/
def ddrQueue (w : Work σ) (c sub : Nat) : List DdrWrite := (w.ddr c).writes.getD sub []

/-- R408: whether a queued write lies in the bank of an offset. -/
def sameBank (w : Work σ) (c off : Nat) (x : DdrWrite) : Bool := decide (bankOf w c (x.line * 64) = bankOf w c off)

/-- R408: whether a queued write is to another line of the row of an offset. -/
def otherLine (w : Work σ) (c off : Nat) (x : DdrWrite) : Bool :=
  decide (x.line ≠ off / 64) && sameBank w c off x && decide (rowOf w c (x.line * 64) = rowOf w c off)

/-- R408: a request to the line of an offset names the row of a queued write to a different line of the same bank. -/
def rowQueued (w : Work σ) (c off : Nat) : Bool := (ddrQueue w c (bits off 6 1)).any (otherLine w c off)

/-- R408: the bank of an offset serves its requests in arrival order. -/
def bankInOrder (w : Work σ) (c off : Nat) : Bool :=
  (ddrQueue w c (bits off 6 1)).any (fun x => x.order && sameBank w c off x)

/-- R408: the queued writes to other lines of the row of an offset keep its bank in order until they have drained. -/
def keepOrder (w : Work σ) (c off : Nat) : Work σ :=
  let sub := bits off 6 1
  let q := (ddrQueue w c sub).map (fun x => if otherLine w c off x then { x with order := true } else x)
  w.updDdr c (fun d => { d with writes := d.writes.set sub q })

/-- R408: a request to the line of an offset whose line is queued. -/
def lineQueued (w : Work σ) (c off : Nat) : Bool :=
  (ddrQueue w c (bits off 6 1)).any (fun x => decide (x.line = off / 64))

/-- R407: the queued writes that go, oldest first, are sent to the DRAM, and those that stay remain queued. -/
def ddrDrainTo (w : Work σ) (c sub : Nat) (stay gone : List DdrWrite) : Work σ :=
  (w.each gone.reverse (fun w x => ddrSend w c sub ⟨.write, x.line * 64⟩)).updDdr c (fun d => { d with writes := d.writes.set sub stay })

/-- R407: the oldest n queued writes of a subchannel have drained. [note 102: DEDUCED] -/
def ddrDrain (w : Work σ) (c sub n : Nat) : Work σ :=
  let q := ddrQueue w c sub
  ddrDrainTo w c sub (q.take (q.length - n)) (q.drop (q.length - n))

/-- R408: the writes queued for a bank drain, which serves its requests in arrival order. -/
def ddrDrainBank (w : Work σ) (c off : Nat) : Work σ :=
  let q := ddrQueue w c (bits off 6 1)
  ddrDrainTo w c (bits off 6 1) (q.filter (fun x => !sameBank w c off x)) (q.filter (sameBank w c off))

/-- R407, R408: the hazards of a request with the queued writes of its subchannel: a read of a queued line is served with forwarded
data; a request to another line of a queued write's row puts the bank in order until that write has drained; a read in such a bank
meets the writes queued before it drained. [note 102: DEDUCED] -/
def ddrHazards (w : Work σ) (c off : Nat) (write : Bool) : Work σ :=
  let w := if !write && lineQueued w c off then w.inc (DDR_ORDER_FWD c) else w
  let w := if rowQueued w c off then keepOrder (w.inc (DDR_ORDER_INORDER c)) c off else w
  if !write && bankInOrder w c off then ddrDrainBank w c off else w

/-- R407 to R409, R414 to R416: the traffic of one request of class cls to the line of channel offset off: it wakes the channel from frost
(hot: the MR4 read of that), finds the oldest drained writes of its subchannel gone, meets its hazards, opens its row (opens), and is
sent as a read or queued as a write. Data is not moved here. [note 102: DEDUCED] -/
def ddrServe (w : Work σ) (c off cls : Nat) (write opens : Bool) (drained : Nat) (hot : Bool) : Work σ :=
  let sub := bits off 6 1
  let w := ddrHazards (ddrDrain (frostWake w c hot) c sub drained) c off write
  let w := if opens then rowActivate w c off else w
  if write then
    let w := if 64 ≤ (ddrQueue w c sub).length then ddrDrain w c sub 1 else w
    w.updDdr c (fun d => { d with writes := d.writes.set sub (⟨off / 64, cls, false⟩ :: d.writes.getD sub []) })
  else ddrSend w c sub ⟨.read, off⟩

/-- A request served, with its bytes given out when it is a read from outside. -/
def ddrServed (w : Work σ) (c : Nat) (r : DdrReq) : Work σ :=
  let w := ddrServe w c r.off r.cls r.write r.opens r.drained r.hot
  match r.data with
  | some bs => w.emit (.port "DDR" (bs.map (fun b => b.toNat)))
  | none => w

/-- R409, R411: whether a request has to wait now. -/
def DdrReq.waits (w : Work σ) (c : Nat) (r : DdrReq) : Bool := ddrWaits w c r.off (!r.write) r.opens

/-- R19, R407: a request arrives at channel c: it waits, behind a request to its line that waits too, or is served. -/
def ddrArrive (w : Work σ) (c : Nat) (r : DdrReq) : Work σ :=
  if r.waits w c || (w.ddr c).waiting.any (fun x => decide (x.off / 64 = r.off / 64)) then
    w.updDdr c (fun d => { d with waiting := d.waiting ++ [r] })
  else ddrServed w c r

/-- R19, R407: the requests of channel c that need wait no longer are served, the classes in order and each in order of arrival. -/
def ddrGrant (w : Work σ) (c : Nat) : Work σ :=
  let ready := (w.ddr c).waiting.filter (fun r => !r.waits w c)
  let w := w.updDdr c (fun d => { d with waiting := d.waiting.filter (fun r => r.waits w c) })
  w.each [1, 2, 3] (fun w k => w.each (ready.filter (fun r => decide (r.cls = k))) (fun w r => ddrServed w c r))

/-- The channel and offset of an address in a DDR5 window (R26). -/
def ddrAt (a : Nat) : Option (Nat × Nat) :=
  if 0x8000000000 ≤ a ∧ a < 0xA000000000 then some (0, a - 0x8000000000)
  else if 0xA000000000 ≤ a ∧ a < 0xC000000000 then some (1, a - 0xA000000000)
  else none

/-- A channel serves requests: it is READY, or leaves frost for them (R414). -/
def ddrServes (w : Work σ) (c off : Nat) : Bool :=
  (decide (ddrState w c = DDR_READY) || decide (ddrState w c = DDR_FROST)) && decide (off < ddrCapacity w c)

/-- The traffic of an access that the device makes to the line at an address, where that lies on a channel in service. When its row is opened,
how many writes have drained before it and what MR4 reads after frost are free. [notes 102: DEDUCED, 103: DESIGN CHOICE] -/
def ddrLine (w : Work σ) (cls : Nat) (write : Bool) (a : Nat) : Work σ :=
  match ddrAt a with
  | none => w
  | some (c, off) =>
    if ddrServes w c off then
      let (v, w) := w.free 9
      let r := ddrArrive w c ⟨off, cls, write, bit v 0, v / 4, bit v 1, none⟩
      { w with dev := { w.dev with ddr := r.dev.ddr }, rlog := r.rlog }
    else w

/-- R407: the traffic of an access of class cls to n bytes at an address, line by line. -/
def ddrTraffic (w : Work σ) (cls : Nat) (write : Bool) (a n : Nat) : Work σ :=
  if n = 0 then w
  else w.each (List.range ((a + n - 1) / 64 + 1 - a / 64)) (fun w k => ddrLine w cls write ((a / 64 + k) * 64))

/-- R29: the bytes of a device's own write that lie within the installed capacity of the DDR5 channel that it goes to. -/
def withinCapacity (w : Work σ) (a : Nat) (bs : List Byte) : List Byte :=
  match ddrAt a with
  | none => bs
  | some (c, off) => bs.take (ddrCapacity w c - off)

/-- Bytes written by a device's own access of class cls, with its traffic (R407). What lies beyond the installed capacity is
ignored, and the write recorded in the error log (R29). -/
def Work.ddrWrite (w : Work σ) (cls a : Nat) (bs : List Byte) : Work σ :=
  let inside := withinCapacity w a bs
  let w := (ddrTraffic w cls true a inside.length).wrBytes a inside
  if inside.length < bs.length then w.errlog 0x01 .hardware devTile 0 (a + inside.length) else w

/-! ## The capture writer's buffer (R413) -/

/-- R413: the bytes in the capture writer's buffer of channel c. -/
def writerFill (w : Work σ) (c : Nat) : Nat := (w.ddr c).writer.foldl (fun n x => n + x.2) 0

/-- R413: the size of the buffer. -/
def writerSize : Nat := 65536

/-- n bytes of line l behind the lines of a buffer. -/
def putLine (b : List (Nat × Nat)) (l n : Nat) : List (Nat × Nat) :=
  match b.getLast? with
  | some (k, m) => if k = l then b.dropLast ++ [(l, m + n)] else b ++ [(l, n)]
  | none => [(l, n)]

/-- R413: bytes of a record enter the buffer of channel c, and stand in DDR5 for every reader (R408). -/
def writerPut (w : Work σ) (c off : Nat) (bs : List Byte) : Work σ :=
  let n := bs.length
  let bs := withinCapacity w (ddrBase c + off) bs
  let w := if bs.length < n then w.errlog 0x01 .hardware devTile 0 (ddrBase c + off + bs.length) else w
  if bs = [] then w
  else
    let last := off + bs.length
    let lines := (List.range ((last - 1) / 64 + 1 - off / 64)).map (fun i => off / 64 + i)
    (w.updDdr c (fun d => { d with writer := lines.foldl (fun b l =>
      putLine b l (min last (64 * l + 64) - max off (64 * l))) d.writer })).wrBytes (ddrBase c + off) bs

/-- The lines that leave a buffer whole when n bytes are taken from its front, and what stays. -/
def takeLines : List (Nat × Nat) → Nat → List Nat × List (Nat × Nat)
  | [], _ => ([], [])
  | (l, b) :: r, n =>
    if b ≤ n then
      let x := takeLines r (n - b)
      (l :: x.1, x.2)
    else ([], (l, b - n) :: r)

/-- R407, R413: channel c takes n bytes from its writer's buffer, line by line as writes of class C3. -/
def writerDrain (w : Work σ) (c n : Nat) : Work σ :=
  let x := takeLines (w.ddr c).writer n
  (w.updDdr c (fun d => { d with writer := x.2 })).each x.1 (fun w l => ddrLine w 3 true (ddrBase c + 64 * l))

/-- R412, R417: a C1 request of channel c waits, or its writer's buffer holds more than 4 KiB. -/
def ddrBusyTraffic (w : Work σ) (c : Nat) : Bool :=
  (w.ddr c).waiting.any (fun r => decide (r.cls = 1)) || decide (4096 < writerFill w c)

end Sys2Proof.Machine
end

