-- ==== Sys2Proof/Machine/Blocks.lean ====
section
/-! DEFINITION. The block layer of Brisol links (R338, R357, R361 to R364): the lanes of a link, their intervals, control blocks and
the scrambler. -/

namespace Sys2Proof.Machine

variable {σ : State}

/-! ## Lanes and links (R340, R342, R357) -/

/-- R340: states of a lane. -/
def LANE_SIGNAL : Nat := 1
def LANE_CDR : Nat := 2
def LANE_ALIGN : Nat := 3
def LANE_ADAPT : Nat := 4
def LANE_UP : Nat := 5
def LANE_LULL : Nat := 6
def LANE_LOOP : Nat := 7

def laneState (w : Work σ) (n : Nat) : Nat := w.get (LANE_STATUS_STATE n)

def Work.link (w : Work σ) (l : Nat) : LinkSt := vget w.dev.links LinkSt.reset l

def Work.updLink (w : Work σ) (l : Nat) (f : LinkSt → LinkSt) : Work σ :=
  { w with dev := { w.dev with links := vset w.dev.links l (f (w.link l)) } }

/-- R382: lanes for a WIDTH code; 3 acts as 4 lanes. -/
def lanesOfCode (c : Nat) : Nat := if c = 0 then 1 else if c = 1 then 2 else 4

/-- R357: the number of lanes of link l. -/
def linkWidth (w : Work σ) (l : Nat) : Nat := lanesOfCode (w.get (LINK_CFG_WIDTH l))

/-- The lanes of link l in the order of their own indices. -/
def linkLanes (w : Work σ) (l : Nat) : List Nat := (List.range (linkWidth w l)).map (w.get (LINK_CFG_BASE l) + ·)

/-- The set of every index of link l. -/
def fullSet (w : Work σ) (l : Nat) : Nat := 2 ^ linkWidth w l - 1

/-- R342: the index whose blocks receive lane n of link l carries. -/
def rxIndex (w : Work σ) (l n : Nat) : Nat :=
  if w.on (LANE_STATUS_PEER_VALID n) then w.get (LANE_STATUS_PEER_IDX n) else n - w.get (LINK_CFG_BASE l)

/-- R342: the receive lane of link l that carries index i. -/
def rxLane (w : Work σ) (l i : Nat) : Option Nat := (linkLanes w l).find? (fun n => decide (n < 32) && decide (rxIndex w l n = i))

/-- R343: the receive lane of index i delivers blocks. -/
def rxUp (w : Work σ) (l i : Nat) : Bool := (rxLane w l i).any (fun n => decide (laneState w n = LANE_UP))

/-- R364: link l takes a logical block from index i: the index lies in its receive stripe, and its lane is in UP. -/
def rxTakes (w : Work σ) (l i : Nat) : Bool := bit (w.link l).rxSet i && rxUp w l i

/-- R182, R363: the copies of a block that came on lanes in UP. -/
def upCopies (w : Work σ) (l : Nat) (copies : List (Fin 4 × BitVec 64)) : List Nat :=
  (copies.filter (fun c => rxUp w l c.1)).map (fun c => c.2.toNat)

/-- R363: a link carries traffic while it is UP or DEGRADED. -/
def linkLive (w : Work σ) (l : Nat) : Bool := decide (2 ≤ w.get (LINK_STATUS_STATE l))

/-- R353: the transmit direction of link l is in lull. [note 79: DEDUCED] -/
def lullTx (w : Work σ) (l : Nat) : Bool := (linkLanes w l).any (fun n => decide (n < 32) && w.on (LANE_STATUS_LULL_TX n))

/-- R353: a link takes blocks while it carries traffic and its transmitter is not in lull. -/
def linkSends (w : Work σ) (l : Nat) : Bool := linkLive w l && !lullTx w l

/-! ## Control blocks (R361) -/

/-- One step of the CRC-8 of R283 over bits taken least significant first. -/
def crc8Lsb : Nat → Nat → Nat → Nat
  | 0, _, c => c
  | n + 1, v, c => crc8Lsb n (v / 2) (crcBit 8 0x07 c (v % 2 == 1))

/-- R361: the 64-bit payload of a control block of a TYPE and a BODY in its place. -/
def ctrlBlock (type body : Nat) : Nat :=
  let low := (type % 256) + (body / 256 * 256) % 2 ^ 56
  low + crc8Lsb 56 low 0 * 2 ^ 56

/-- R361: whether the CRC of a control block holds. -/
def ctrlOk (p : Nat) : Bool := decide (crc8Lsb 56 (p % 2 ^ 56) 0 = bits p 56 8)

/-- R362: the values of TYPE. -/
def listedTypes : List Nat := [0x1E, 0x2D, 0x33, 0x4B, 0x55, 0x66, 0x78, 0x87]

/-- R361: whether a payload is a control block of a TYPE; one that fails its CRC or whose TYPE is not listed is counted on its
link. -/
def ctrlBody (w : Work σ) (l type p : Nat) : Bool × Work σ :=
  if ctrlOk p && listedTypes.contains (p % 256) then (decide (p % 256 = type), w)
  else (false, if w.on (LINK_CFG_EN l) then w.inc (LINK_COUNT0_CRC_ERR l) else w)

/-- R363: a C0 block of one token or two. -/
def c0Block (a : Nat) (b : Option Nat) : Nat :=
  let low := 0x4B + 2 ^ 8 + b2n b.isSome * 2 ^ 9
  low + a % 2 ^ 23 * 2 ^ 10 + b.getD 0 % 2 ^ 23 * 2 ^ 33 + crc8Lsb 10 low 0 * 2 ^ 56

/-- R363: the C0 blocks of tokens in the order in which they became ready, up to two tokens in each. -/
def c0Blocks : List Nat → List Nat
  | [] => []
  | [a] => [c0Block a none]
  | a :: b :: r => c0Block a (some b) :: c0Blocks r

/-- R363: the tokens of a C0 block, and none of any other. -/
def c0Tokens (p : Nat) : List Nat :=
  if p % 256 = 0x4B then bits p 10 23 :: (if bit p 9 then [bits p 33 23] else []) else []

/-! ## Intervals (R338, R362, R364) -/

/-- R338: n payload bits behind the self-synchronising scrambler 1 + x^39 + x^58, bit 0 of v first; bit j of s is the scrambled bit
sent j + 1 before. -/
def scramble : Nat → Nat → Nat → Nat
  | 0, _, _ => 0
  | n + 1, v, s =>
    let b := (v + s / 2 ^ 38 + s / 2 ^ 57) % 2
    b + 2 * scramble n (v / 2) ((2 * s + b) % 2 ^ 58)

/-- R333, R344, R353: lane n sends blocks: it is a BRISOL lane whose transmitter is not in electrical idle. -/
def laneSends (w : Work σ) (n : Nat) : Bool :=
  decide (n < 32) && decide (w.get (LANE_CFG_ROLE n) = 2) && !w.on (LANE_STATUS_LULL_TX n) && !w.on THERM_STORM_TRIPPED

/-- R338: a payload of header head on lane n. The idle blocks before it leave the scrambler in any state. [note 156: DESIGN
CHOICE] -/
def lineBlock (w : Work σ) (n head p : Nat) : LineBlock × Work σ :=
  let (s, w) := w.free 58
  (⟨n, head, p, scramble 64 p s⟩, w)

/-- The blocks of one interval put on their lanes. -/
def lineBlocks (w : Work σ) : List (Nat × Nat × Nat) → List LineBlock × Work σ
  | [] => ([], w)
  | b :: bs =>
    let (x, w) := lineBlock w b.1 b.2.1 b.2.2
    let (xs, w) := lineBlocks w bs
    (x :: xs, w)

/-- R362, R364: one block interval of link l: index i carries what f gives it as a header and a payload, or IDLE. -/
def interval (w : Work σ) (l : Nat) (f : Nat → Option (Nat × Nat)) : Work σ :=
  let base := w.get (LINK_CFG_BASE l)
  let row := ((List.range (linkWidth w l)).filter (fun i => laneSends w (base + i))).map
    (fun i => let b := (f i).getD (2, ctrlBlock 0x1E 0); (base + i, b.1, b.2))
  if row = [] then w
  else
    let (bs, w) := lineBlocks w row
    w.emit (.interval l bs)

/-- R362, R367: copies of a control block on every lane outside the known failed mask. -/
def copiesNow (w : Work σ) (l p : Nat) : Work σ :=
  let mask := (w.link l).own ||| (w.link l).far
  interval w l (fun i => if bit mask i then none else some (2, p))

/-- R353, R362: a block that is sent as copies waits while the transmit direction is in lull. -/
def sendCopies (w : Work σ) (l p : Nat) : Work σ :=
  if lullTx w l then w.updLink l (fun k => { k with held := k.held ++ [p] }) else copiesNow w l p

/-- R364, R368: consecutive logical blocks over the lanes of the transmit stripe, in ascending index, one interval after the other. -/
def sendStripe (w : Work σ) (l : Nat) (blocks : List (Nat × Nat)) : Work σ :=
  let lanes := (List.range (linkWidth w l)).filter (fun i => bit (w.link l).txSet i)
  let k := max 1 lanes.length
  w.each (List.range ((blocks.length + k - 1) / k)) (fun w j =>
    interval w l (fun i => (lanes.findIdx? (fun x => decide (x = i))).bind (fun p => blocks[j * k + p]?)))

end Sys2Proof.Machine
end

