-- ==== Sys2Proof/Machine/Ring.lean ====
section
/-! DEFINITION. Queues of entries (spec/12): entries, rings and sequence numbers. Queue index i of tile t. -/

namespace Sys2Proof.Machine

variable {σ : State}

/-- R283: the check code of an entry: bytes 0 to 6 and, for TYPE CLASP, the 12 control bytes of the payload. -/
def entryCheck (e : List Byte) : Nat :=
  crc8 (e.take 7 ++ (if ofLe (slice e 0 1) = 0x01 then slice e 8 12 else []))

/-- R283: the 32 bytes of an entry. -/
def entryBytes (type flags seq : Nat) (payload : List Byte) : List Byte :=
  let head := leBytes 1 type ++ leBytes 1 flags ++ leBytes 4 seq ++ leBytes 1 0
  let body := (payload ++ List.replicate 24 0).take 24
  head ++ leBytes 1 (crc8 (head ++ (if type = 0x01 then body.take 12 else []))) ++ body

/-- R285: an entry passes when its check holds and no reserved header bit is set. -/
def entryOk (e : List Byte) : Bool :=
  decide (ofLe (slice e 7 1) = entryCheck e) && decide (ofLe (slice e 1 1) < 2) && decide (ofLe (slice e 6 1) = 0)

def entryType (e : List Byte) : Nat := ofLe (slice e 0 1)
def entryFlags (e : List Byte) : Nat := ofLe (slice e 1 1)
def entrySeq (e : List Byte) : Nat := ofLe (slice e 2 4)
def entryPayload (e : List Byte) : List Byte := slice e 8 24

/-- R279: an index of an outbound queue: outbound host, or the outbound end of a peer pair. -/
def qIsOut (w : Work σ) (t i : Nat) : Bool :=
  (decide (128 ≤ i) && decide (i < 256)) || (decide (448 ≤ i) && w.on (QT_CFG_DIR t i))

/-- R279: an index of an inbound queue: inbound host, or the inbound end of a peer pair. -/
def qIsIn (w : Work σ) (t i : Nat) : Bool := decide (i < 128) || (decide (448 ≤ i) && !w.on (QT_CFG_DIR t i))

def qEnabled (w : Work σ) (t i : Nat) : Bool := decide (i < 512) && w.on (QT_CFG_EN t i)

/-- An enabled outbound host queue of tile t. -/
def qOutHost (w : Work σ) (t i : Nat) : Bool := decide (128 ≤ i) && decide (i < 256) && qEnabled w t i

/-- R304: the entries of a ring. -/
def qSize (w : Work σ) (t i : Nat) : Nat := 2 ^ w.get (QT_CFG_SIZE_LOG2 t i)

/-- The address of the ring slot of entry seq (R28, R304). -/
def qAddr (w : Work σ) (t i seq : Nat) : Nat :=
  let slot := seq % qSize w t i
  if w.on (QT_CFG_PLACE t i) then ddrBase (w.get (QT_CFG_CHAN t i)) + w.get (QT_BASE t i) * 4096 + slot * 32
  else tileBase t + 0x1C0000 + (w.get (QT_BASE t i) + slot) % 8192 * 32

/-- Entries of an inbound peer queue that were lost and not yet skipped. -/
def qGapCount (w : Work σ) (t i : Nat) : Nat :=
  (w.tile t).gaps.foldl (fun n g => if g.index = i then n + g.count else n) 0

/-- Entries held, retained entries included (R304). -/
def qFill (w : Work σ) (t i : Nat) : Nat :=
  if qIsOut w t i then seqDiff (w.get (QT_SEQ_A t i) + 1) (w.get (QTAIL t i))
  else seqDiff (w.get (QT_SEQ_A t i)) (w.get (QTAIL t i)) - qGapCount w t i

/-- R305: tile source 4 fires for a queue that overflowed. -/
def qOverflow (w : Work σ) (t i : Nat) : Work σ :=
  ((w.inc (QT_CNT1_LOST t i)).set (QUEUE_STATUS_LAST_OVF t) i).fire (tileSrc t 4)

/-- A record that compressor k holds is abandoned when its descriptor is one of queue i of tile t with a number that goes
(R395). -/
def compAbandon (w : Work σ) (t i : Nat) (goes : Nat → Bool) (k : Nat) : Work σ :=
  match vget w.dev.compJobs none k with
  | none => w
  | some j =>
    if j.tile = t ∧ j.index = i ∧ goes j.seq then
      { w with dev := { w.dev with compJobs := vset w.dev.compJobs k none } }.setBit COMP_STATUS_CBUSY k false
    else w

/-- R280, R395: the descriptors of queue i of tile t whose numbers go are no longer at a compressor, and none of them counts as
coded. -/
def compDrop (w : Work σ) (t i : Nat) (goes : Nat → Bool) : Work σ :=
  let w := w.each (List.range 8) (fun w k => compAbandon w t i goes k)
  { w with dev := { w.dev with compDone := w.dev.compDone.filter (fun d => !(decide (d.1 = 512 * t + i) && goes d.2)) } }

/-- R280: a queue restarts empty with its sequence state at its reset values. [note 66: DEDUCED] -/
def qRestart (w : Work σ) (t i : Nat) : Work σ :=
  let w := compDrop w t i (fun _ => true)
  let w := w.set (QT_SEQ_A t i) (if qIsOut w t i then 0xFFFFFFFF else 0)
  let w := ((w.set (QTAIL t i) 0).set (QSENT t i) 0).set (QGAPPED t i) 0
  let w := w.set (QREPORTED t i) 0
  let w := { w with dev := { w.dev with peerWait := w.dev.peerWait.filter (fun x => !(decide (x.tile = t) && decide (x.index = i))) } }
  w.updTile t (fun x => { x with gaps := x.gaps.filter (fun g => g.index ≠ i) })

/-- R410: the queue's ring lies in a DDR5 channel that has faulted. -/
def qFaulted (w : Work σ) (t i : Nat) : Bool :=
  w.on (QT_CFG_PLACE t i) && decide (ddrState w (w.get (QT_CFG_CHAN t i)) = DDR_FAULT)

/-- R407: the class of the traffic of a ring: C1 for an inbound queue that the clasps consume, and C2 for every other. -/
def ringClass (w : Work σ) (t i : Nat) : Nat := if qIsIn w t i && decide (w.get (QT_CFG_CONSUMER t i) = 1) then 1 else 2

/-- An entry stored in the ring slot of number seq, with the traffic of that (R28, R407). -/
def ringWrite (w : Work σ) (t i seq : Nat) (e : List Byte) : Work σ := w.ddrWrite (ringClass w t i) (qAddr w t i seq) e

/-- The traffic of reading the entry of number seq from the ring (R407). -/
def ringRead (w : Work σ) (t i seq : Nat) : Work σ := ddrTraffic w (ringClass w t i) false (qAddr w t i seq) 32

/-- A push into the ring of an outbound queue that has room (R287). -/
def qPut (w : Work σ) (t i type : Nat) (payload : List Byte) : Work σ :=
  let seq := (w.get (QT_SEQ_A t i) + 1) % 2 ^ 32
  (ringWrite w t i seq (entryBytes type 0 seq payload)).set (QT_SEQ_A t i) seq

end Sys2Proof.Machine
end

