-- ==== Sys2Proof/Machine/Datagram.lean ====
section
/-! DEFINITION. Datagrams out (R292 to R297): packets, headers, records, and the entries that an outbound host queue sends. -/

namespace Sys2Proof.Machine

variable {σ : State}

/-! ## Packets (R292, R293) -/

/-- R371: an Ethernet port is up while its lane is in UP. [note 70: DEDUCED] -/
def portUp (w : Work σ) (p : Nat) : Bool := decide (w.get (LANE_CFG_ROLE p) = 1) && decide (laneState w p = LANE_UP)

/-- The frame check sequence of IEEE 802.3 over bytes, each least significant bit first. [note 167: PRESUMED] -/
def fcs32 (bs : List Byte) : Nat :=
  let crc := bs.foldl (fun c b => (List.range 8).foldl (fun c i =>
    if (c % 2 == 1) != bit b.toNat i then c / 2 ^^^ 0xEDB88320 else c / 2) c) 0xFFFFFFFF
  crc ^^^ 0xFFFFFFFF

/-- The 64b/66b block that ends a frame with its last bytes, fewer than eight. [note 167: PRESUMED] -/
def endBlock (bs : List Byte) : Nat × Nat :=
  (2, [0x87, 0x99, 0xAA, 0xB4, 0xCC, 0xD2, 0xE1, 0xFF].getD bs.length 0 + ofLe bs * 2 ^ 8)

/-- R338: the bytes behind the start of a frame as data blocks and the block that ends it. [note 167: PRESUMED] -/
def dataBlocks : Nat → List Byte → List (Nat × Nat)
  | 0, _ => []
  | n + 1, bs => if bs.length < 8 then [endBlock bs] else (1, ofLe (bs.take 8)) :: dataBlocks n (bs.drop 8)

/-- R338: the sync headers and payloads of a frame on the lane of an Ethernet port: start, preamble, the bytes and their FCS.
[note 167: PRESUMED] -/
def frameBlocks (bs : List Byte) : List (Nat × Nat) :=
  let body := bs ++ leBytes 4 (fcs32 bs)
  (2, 0x78 + ofLe (List.replicate 6 0x55#8 ++ [0xD5#8]) * 2 ^ 8) :: dataBlocks (body.length + 1) body

/-- R338: consecutive blocks behind a scrambler in state s on lane n. -/
def scrambleAll (n : Nat) : List (Nat × Nat) → Nat → List LineBlock
  | [], _ => []
  | (h, p) :: bs, s =>
    let x := scramble 64 p s
    ⟨n, h, p, x⟩ :: scrambleAll n bs ((List.range 58).foldl (fun a j => a + bits x (63 - j) 1 * 2 ^ j) 0)

/-- R338, R344, R371: a frame of the given bytes leaves on a port, coded in blocks, and is counted, unless Storm holds the transmitters in
electrical idle. The idle blocks before it leave the scrambler in any state. [notes 156: DESIGN CHOICE, 167: PRESUMED] -/
def portEmit (w : Work σ) (p : Nat) (o : Out) (bytes : List Byte) : Work σ :=
  if w.on THERM_STORM_TRIPPED then w
  else
    let (s, w) := w.free 58
    ((w.emit o).emit (.blocks p (scrambleAll p (frameBlocks bytes) s))).inc (ETH_TX_FRAMES p)

/-- The internet checksum's sum over 16-bit words, with its carries folded in. -/
def onesSum (bs : List Byte) : Nat :=
  let pairs := (List.range ((bs.length + 1) / 2)).map (fun i => ofBe (slice (bs ++ [0]) (2 * i) 2))
  let s := pairs.foldl (· + ·) 0
  let s := s % 65536 + s / 65536
  s % 65536 + s / 65536

def onesChecksum (bs : List Byte) : Nat := 0xFFFF - onesSum bs

/-- TRANSPORT.IP6 and TRANSPORT.OWNER_IP as 128-bit numbers. -/
def ip6Of (w : Work σ) : Nat := (List.range 4).foldr (fun n v => w.get (TRANSPORT_IP6 n) + 2 ^ 32 * v) 0
def ownerIp (w : Work σ) : Nat := (List.range 4).foldr (fun n v => w.get (TRANSPORT_OWNER_IP n) + 2 ^ 32 * v) 0

/-- R293: the MAC address of port p. -/
def portMac (w : Work σ) (p : Nat) : Nat := (w.fuse.mac + p) % 2 ^ 48

/-- R371: the Ethernet header of a frame sent on port p, with its VLAN tag. -/
def ethHeader (w : Work σ) (p dst type : Nat) : List Byte :=
  beBytes 6 dst ++ beBytes 6 (portMac w p) ++
    (if w.on (ETH_CFG_VLAN_EN p) then beBytes 2 0x8100 ++ beBytes 2 (w.get (ETH_CFG_PCP p) * 0x2000 + w.get (ETH_CFG_VID p))
     else []) ++ beBytes 2 type

/-- A UDP datagram without a checksum (R379). -/
def udpPlain (sport dport : Nat) (body : List Byte) : List Byte :=
  beBytes 2 sport ++ beBytes 2 dport ++ beBytes 2 (8 + body.length) ++ beBytes 2 0 ++ body

/-- A UDP datagram with its checksum, over the addresses of its pseudo header. -/
def udpBytes (v6 : Bool) (src dst sport dport : Nat) (body : List Byte) : List Byte :=
  let len := 8 + body.length
  let pseudo := if v6 then beBytes 16 src ++ beBytes 16 dst ++ beBytes 4 len ++ beBytes 4 17
    else beBytes 4 src ++ beBytes 4 dst ++ beBytes 2 17 ++ beBytes 2 len
  let head := beBytes 2 sport ++ beBytes 2 dport ++ beBytes 2 len
  let c := onesChecksum (pseudo ++ head ++ [0, 0] ++ body)
  head ++ beBytes 2 (if c = 0 then 0xFFFF else c) ++ body

/-- An IP packet that carries a UDP datagram. The fields of the IP header that no rule states are free.
[note 67: DESIGN CHOICE] -/
def ipPacket (w : Work σ) (v6 : Bool) (src dst : Nat) (udp : List Byte) : List Byte × Work σ :=
  if v6 then
    let (flow, w) := w.free 28
    let (hop, w) := w.free 8
    (beBytes 4 (6 * 2 ^ 28 + flow) ++ beBytes 2 udp.length ++ beBytes 1 17 ++ beBytes 1 hop ++ beBytes 16 src
      ++ beBytes 16 dst ++ udp, w)
  else
    let (tos, w) := w.free 8
    let (id, w) := w.free 16
    let (df, w) := w.free 1
    let (ttl, w) := w.free 8
    let a := [0x45#8] ++ beBytes 1 tos ++ beBytes 2 (20 + udp.length) ++ beBytes 2 id ++ beBytes 2 (df * 0x4000)
      ++ beBytes 1 ttl ++ [17#8]
    let b := beBytes 4 src ++ beBytes 4 dst
    (a ++ beBytes 2 (onesChecksum (a ++ b)) ++ b ++ udp, w)

/-! ## Datagrams out (R294, R297) -/

/-- R297: the lane that the datagrams of tile t are to leave on. -/
def txChosen (w : Work σ) (t : Nat) : Nat :=
  if w.on (TRANSPORT_TXPORT_USE_CLAIM t) then w.get TRANSPORT_SESSION_OWNER_PORT else w.get (TRANSPORT_TXPORT_PORT t)

/-- R297: the Ethernet port that the datagrams of tile t leave on; none when no port is up. -/
def txPort (w : Work σ) (t : Nat) : Option Nat :=
  if portUp w (txChosen w t) then some (txChosen w t) else (List.range 32).find? (portUp w)

/-- R297: TXPORT[t].FALLBACK. -/
def txFallback (w : Work σ) (t : Nat) : Bool := !portUp w (txChosen w t) && (txPort w t).isSome

def F_CLAIM : Nat := 1
def F_STATUS : Nat := 2
def F_GAP : Nat := 4
def F_REPLAY : Nat := 8
def F_BULK : Nat := 16

/-- R294: the 24 header bytes of a datagram; cr is the queue whose credit it returns, with its CR_SEQ. -/
def genondHeader (flags epoch queue count first : Nat) (cr : Option (Nat × Nat)) : List Byte :=
  let c := cr.getD (0, 0)
  let h := beBytes 1 0x10 ++ beBytes 1 flags ++ beBytes 2 epoch ++ beBytes 2 queue ++ beBytes 1 count ++ beBytes 1 0
    ++ beBytes 4 first ++ beBytes 2 (c.1 + (if cr.isSome then 0x8000 else 0)) ++ beBytes 2 0 ++ beBytes 4 c.2 ++ beBytes 2 0
  h ++ beBytes 2 (crc16 h)

/-- The inbound host queues, in the order of their global numbers. -/
def inboundQueues : List Nat := (List.range 32).flatMap (fun t => (List.range 128).map (fun i => 512 * t + i))

/-- R297: an inbound queue whose CONS has advanced since it was last reported. -/
def creditDue (w : Work σ) (q : Nat) : Bool :=
  qEnabled w (q / 512) (q % 512) &&
    decide (w.get (QTAIL (q / 512) (q % 512)) ≠ w.get (QREPORTED (q / 512) (q % 512)))

/-- R297: the inbound queue whose credit the next datagram carries, round-robin. [note 69: DEDUCED] -/
def creditNext (w : Work σ) : Option Nat :=
  let due := inboundQueues.filter (creditDue w)
  (due.find? (fun q => decide (w.get CR_LAST ≤ q))).or due.head?

/-- CONS of queue q reported to the host. -/
def creditSent (w : Work σ) (q : Nat) : Work σ :=
  w.set (QREPORTED (q / 512) (q % 512)) (w.get (QTAIL (q / 512) (q % 512)))

/-- R371: bytes given to Ethernet port p as a frame that carries an IP packet for the owner, without the FCS. No rule says how the device
knows the destination address, which is free. [note 67: DESIGN CHOICE] -/
def sendOwner (w : Work σ) (p : Nat) (bytes : List Byte) : Work σ :=
  let v6 := w.on TRANSPORT_SESSION_OWNER_V6
  let own := if v6 then ip6Of w else w.get TRANSPORT_IP4
  let src := if own = 0 then w.get OWNER_REACHED else own
  let (pkt, w) := ipPacket w v6 src (ownerIp w)
    (udpBytes v6 src (ownerIp w) (w.get TRANSPORT_CFG_UDP_PORT) (w.get TRANSPORT_OWNER_UDP) bytes)
  let (dst, w) := w.free 48
  let frame := ethHeader w p dst (if v6 then 0x86DD else 0x0800) ++ pkt
  portEmit w p (.datagram p frame) frame

/-- R297: a datagram for the owner about a queue; without an owner or a port nothing is sent. The credit is that of the queue
itself in a STATUS datagram of an inbound queue, and otherwise one that is due. -/
def sendGenond (w : Work σ) (flags q count first : Nat) (own : Bool) (body : List Byte) : Work σ :=
  if !w.on TRANSPORT_SESSION_OWNER_VALID then w
  else
    match txPort w (q / 512) with
    | none => w
    | some p =>
      let cq := if own then some q else creditNext w
      let cr := cq.map (fun x => (x, w.get (QTAIL (x / 512) (x % 512))))
      let w := match cq with
        | some x => if own then creditSent w x else (creditSent w x).set CR_LAST (x + 1)
        | none => w
      sendOwner w p (genondHeader flags (w.get TRANSPORT_SESSION_EPOCH) q count first cr ++ body)

/-- R297: a STATUS datagram of inbound queue q. -/
def sendStatus (w : Work σ) (q : Nat) (gap : Bool) : Work σ :=
  sendGenond w (F_STATUS + (if gap then F_GAP else 0)) q 0 (w.get (QT_SEQ_A (q / 512) (q % 512))) true []

/-- R294: the entries that a datagram may hold. -/
def entriesMax (w : Work σ) : Nat :=
  if w.on TRANSPORT_CFG_JUMBO then 255 else if w.on TRANSPORT_SESSION_OWNER_V6 then 44 else 45

/-- R296: the bytes of data that a BULK datagram may hold. -/
def bulkMax (w : Work σ) : Nat :=
  if w.on TRANSPORT_CFG_JUMBO then 8192 else if w.on TRANSPORT_SESSION_OWNER_V6 then 1420 else 1440

/-- R6, R296: one BULK datagram of queue q for descriptor seq. Its bulk header is a transport header. [note 166: DEDUCED] -/
def sendBulk (w : Work σ) (q seq off mode : Nat) (data : List Byte) : Work σ :=
  sendGenond w F_BULK q 0 seq false (beBytes 4 off ++ beBytes 2 data.length ++ beBytes 1 mode ++ beBytes 1 0 ++ data)

/-- R296: bytes sent as stored data from record offset off on; n bounds the datagrams. -/
def sendStored (q seq : Nat) : Nat → Nat → List Byte → Work σ → Work σ
  | 0, _, _, w => w
  | n + 1, off, bs, w =>
    if bs = [] then w
    else
      let k := bulkMax w
      sendStored q seq n (off + k) (bs.drop k) (sendBulk w q seq off 0 (bs.take k))

/-! ## Records (R254, R296) -/

def isCapdesc (w : Work σ) (q : Nat) (e : List Byte) : Bool :=
  w.on (QT_CFG_STREAM (q / 512) (q % 512)) && decide (entryType e = 0x06)

def descAddr (e : List Byte) : Nat := ofLe (slice e 8 8)
def descLen (e : List Byte) : Nat := ofLe (slice e 16 4)
def descClass (e : List Byte) : Nat := ofLe (slice e 25 1) % 32
def descSlot (e : List Byte) : Nat := ofLe (slice e 26 2)

/-- R296: the slot of a descriptor still holds its record. [note 72: DEDUCED] -/
def recordKept (w : Work σ) (q : Nat) (e : List Byte) : Bool :=
  (w.tile (q / 512)).cap.slots.any (fun s =>
    decide (s.cls = descClass e) && decide (s.slot = descSlot e) && decide (s.seq = entrySeq e))

/-- R255, R296: the record of a descriptor goes through a compressor. [note 114: DEDUCED] -/
def recordComp (w : Work σ) (q : Nat) (e : List Byte) : Bool :=
  isCapdesc w q e && recordKept w q e && w.on (CAPCLASS_SRC_COMPRESS (q / 512) (descClass e))

/-- The entry that an outbound queue holds under a number. -/
def outEntry (w : Work σ) (q seq : Nat) : List Byte := w.rdBytes (qAddr w (q / 512) (q % 512) seq) 32

/-- R410: the channel that holds an address has faulted and answers no read. -/
def addrFaulted (w : Work σ) (a : Nat) : Bool :=
  match ddrAt a with
  | some (c, _) => decide (ddrState w c = DDR_FAULT)
  | none => false

/-- R296: the uncompressed record of a descriptor read as C3 traffic and sent. [note 72: DEDUCED] -/
def sendRecord (w : Work σ) (q : Nat) (e : List Byte) : Work σ :=
  if isCapdesc w q e && recordKept w q e && !recordComp w q e then
    let bs := w.rdBytes (descAddr e) (descLen e)
    sendStored q (entrySeq e) (bs.length + 1) 0 bs (ddrTraffic w 3 false (descAddr e) (descLen e))
  else w

/-- R295, R393: entry seq must wait for its compressor. [note 71: DEDUCED] -/
def waitsComp (w : Work σ) (q seq : Nat) : Bool :=
  recordComp w q (outEntry w q seq) && !w.dev.compDone.contains (q, seq)

/-- R410: entry seq must wait for a record that stands on a channel in FAULT. [note 72: DEDUCED] -/
def waitsRecord (w : Work σ) (q seq : Nat) : Bool :=
  let e := outEntry w q seq
  isCapdesc w q e && recordKept w q e && !recordComp w q e && addrFaulted w (descAddr e)

/-- The number behind LAST of an outbound queue. -/
def outEnd (w : Work σ) (q : Nat) : Nat := (w.get (QT_SEQ_A (q / 512) (q % 512)) + 1) % 2 ^ 32

/-- R410: the transport can read entry seq of an outbound queue: there is one, and its ring answers. -/
def outReadable (w : Work σ) (q seq : Nat) : Bool := decide (seq ≠ outEnd w q) && !qFaulted w (q / 512) (q % 512)

/-- R285: entries at the transmit point that fail their check are discarded and never sent; n bounds them.
[note 71: DEDUCED] -/
def skipBad (q : Nat) : Nat → Work σ → Work σ
  | 0, w => w
  | n + 1, w =>
    let s := w.get (QSENT (q / 512) (q % 512))
    if !outReadable w q s ∨ entryOk (outEntry w q s) then w
    else
      let w := ringRead w (q / 512) (q % 512) s
      skipBad q n ((w.inc (QT_CNT1_BAD (q / 512) (q % 512))).set (QSENT (q / 512) (q % 512)) (s + 1))

/-- R294, R296: the entries of one datagram from number s on, at most n. [note 71: DEDUCED] -/
def batch (w : Work σ) (q : Nat) : Nat → Nat → List (List Byte)
  | 0, _ => []
  | n + 1, s =>
    let e := outEntry w q s
    if !outReadable w q s ∨ !entryOk e ∨ waitsComp w q s ∨ waitsRecord w q s then [] else e :: batch w q n ((s + 1) % 2 ^ 32)

/-- R296, R297: one datagram of outbound host queue q, behind the records of its descriptors. [note 70: DEDUCED] -/
def sendEntries (w : Work σ) (q : Nat) : Work σ :=
  let t := q / 512
  let i := q % 512
  if !w.on TRANSPORT_SESSION_OWNER_VALID then w
  else
    let w := skipBad q (qFill w t i) w
    let s := w.get (QSENT t i)
    let es := batch w q (entriesMax w) s
    if es = [] then w
    else
      let w := w.each es (fun w e => sendRecord (ringRead w t i (entrySeq e)) q e)
      let w := sendGenond w 0 q es.length s false es.flatten
      let w := w.set (QSENT t i) (s + es.length)
      { w with dev := { w.dev with compDone := w.dev.compDone.filter (fun d =>
          !(decide (d.1 = q) && decide (seqDiff d.2 s < es.length))) } }

/-- R297: an entry has been pushed to an outbound host queue: a datagram leaves when it is full, and at once with COALESCE = 0. -/
def sendFull (w : Work σ) (t i : Nat) : Work σ :=
  let q := 512 * t + i
  let n := entriesMax w
  if w.get TRANSPORT_TIMING_COALESCE = 0 ∨
      (n ≤ seqDiff (outEnd w q) (w.get (QSENT t i)) ∧ (batch w q n (w.get (QSENT t i))).length = n) then sendEntries w q
  else w

end Sys2Proof.Machine
end

