-- ==== Sys2Proof/Machine/Queue.lean ====
section
/-! DEFINITION. Queues of entries (spec/12): admission, removal, pushes, credit, and peer pairs. Queue index i of tile t. -/

namespace Sys2Proof.Machine

variable {σ : State}

/-! ## Inbound admission and removal (R289 to R291) -/

/-- What became of an entry that arrived at an inbound queue (R289). -/
inductive Admitted where
  | accepted | bad | overflow | duplicate | gap
  deriving DecidableEq, Repr

/-- R289: the handling of an entry that arrives at an inbound host queue. -/
def qAdmit (w : Work σ) (t i : Nat) (e : List Byte) : Admitted × Work σ :=
  let nexp := w.get (QT_SEQ_A t i)
  if !entryOk e then (.bad, w.inc (QT_CNT1_BAD t i))
  else if entrySeq e = nexp then
    if qFill w t i < qSize w t i ∧ !qFaulted w t i then
      (.accepted, ((ringWrite w t i nexp (e.take 32)).set (QT_SEQ_A t i) (nexp + 1)).set (QGAPPED t i) 0)
    else (.overflow, qOverflow w t i)
  else if seqBefore (entrySeq e) nexp then (.duplicate, w.inc (QT_CNT0_DUP t i))
  else (.gap, w.inc (QT_CNT0_GAP t i))

/-- CONS moved past numbers that were lost on the way to an inbound peer queue. -/
def qSkipGaps (w : Work σ) (t i : Nat) : List PeerGap → Work σ
  | [] => w
  | g :: gs =>
    if g.index = i ∧ g.first = w.get (QTAIL t i) then
      qSkipGaps ((w.set (QTAIL t i) (g.first + g.count)).updTile t
        (fun x => { x with gaps := x.gaps.filter (fun y => y ≠ g) })) t i gs
    else qSkipGaps w t i gs

/-- The n numbers of an inbound peer queue from its next number on, counted as missing. -/
def qGap (w : Work σ) (t i n : Nat) : Work σ :=
  if n = 0 then w
  else
    let nexp := w.get (QT_SEQ_A t i)
    (w.set (QT_SEQ_A t i) (nexp + n)).updTile t (fun x => { x with gaps := x.gaps ++ [⟨i, nexp, n⟩] })

/-- The ring slot of number seq of an inbound queue is free. -/
def qSlotFree (w : Work σ) (t i seq : Nat) : Bool := decide (seqDiff seq (w.get (QTAIL t i)) < qSize w t i)

/-- R291: the handling of a peer entry at its consumer end: a gap is skipped and counted in LOST. An entry behind NEXP is a
duplicate, and one that finds no room, or a ring on a faulted channel (R410), is lost like those of a gap (R289). [note 152: DEDUCED] -/
def qAdmitPeer (w : Work σ) (t i : Nat) (e : List Byte) : Work σ :=
  let nexp := w.get (QT_SEQ_A t i)
  let seq := entrySeq e
  if !entryOk e then w.inc (QT_CNT1_BAD t i)
  else if seqBefore seq nexp then w.inc (QT_CNT0_DUP t i)
  else
    let n := seqDiff seq nexp
    let w := qGap (if n = 0 then w else w.add (QT_CNT1_LOST t i) n) t i n
    let w := qSkipGaps w t i (w.tile t).gaps
    if qSlotFree w t i seq && !qFaulted w t i then (ringWrite w t i seq (e.take 32)).set (QT_SEQ_A t i) (seq + 1)
    else qGap (qOverflow w t i) t i 1

/-- The next entry of an inbound queue that its consumer accepts, removed from the ring: entries that fail their second
verification or whose TYPE it does not accept are discarded and counted in BAD on the way (R284,
R285). A ring on a channel that has faulted gives none (R410). The bound is the number of entries held. -/
def qTakeLoop (t i : Nat) (accept : Nat → Bool) : Nat → Work σ → Option (List Byte) × Work σ
  | 0, w => (none, w)
  | n + 1, w =>
    let w := qSkipGaps w t i (w.tile t).gaps
    let cons := w.get (QTAIL t i)
    if cons = w.get (QT_SEQ_A t i) ∨ qFaulted w t i then (none, w)
    else
      let e := w.rdBytes (qAddr w t i cons) 32
      let w := (ringRead w t i cons).set (QTAIL t i) (cons + 1)
      if entryOk e && accept (entryType e) then (some e, w)
      else qTakeLoop t i accept n (w.inc (QT_CNT1_BAD t i))

/-- Defined entry types (R284), which a SEQ consumer accepts. -/
def typeDefined (y : Nat) : Bool :=
  (decide (1 ≤ y) && decide (y ≤ 7)) || (decide (0x10 ≤ y) && decide (y ≤ 0x13)) || decide (y = 0x20)

/-! ## Messages on links (R364) -/

/-- R364: the class of an entry on a link by its TYPE. -/
def entryClass (type : Nat) : Nat :=
  if type = 0x01 then 1
  else if type = 0x03 ∨ type = 0x04 ∨ type = 0x05 ∨ (0x10 ≤ type ∧ type ≤ 0x13) then 2
  else 3

/-- R364: the message that carries one entry of outbound peer queue i of tile t, as its logical blocks with their sync headers. -/
def peerMessage (w : Work σ) (t i : Nat) (e : List Byte) : List (Nat × Nat) :=
  let body := w.get (QT_PEER_TILE t i) * 2 ^ 8 + w.get (QT_PEER_INDEX t i) * 2 ^ 13
    + entryClass (entryType e) * 2 ^ 25 + t * 2 ^ 27 + i * 2 ^ 32
  (2, ctrlBlock 0x66 body) :: (List.range 4).map (fun j => (1, ofLe (slice e (8 * j) 8)))

/-! ## Peer pairs (R291) -/

/-- Entries of an outbound peer queue that have not left for their partner yet, sent as far as they can be: to a partner on
the device while its ring has room, on the link while it carries traffic and their class is not below class top (R19). -/
def peerSend (t i top : Nat) : Nat → Work σ → Work σ
  | 0, w => w
  | n + 1, w =>
    let s := w.get (QSENT t i)
    if s = (w.get (QT_SEQ_A t i) + 1) % 2 ^ 32 ∨ !qEnabled w t i then w
    else
      let e := w.rdBytes (qAddr w t i s) 32
      let w := ringRead w t i s
      if !entryOk e then peerSend t i top n ((w.inc (QT_CNT1_BAD t i)).set (QSENT t i) (s + 1))
      else if w.on (QT_PEER_REMOTE t i) then
        let l := w.get (QT_PEER_LINK t i)
        if linkSends w l && decide (entryClass (entryType e) ≤ top) then
          peerSend t i top n ((sendStripe w l (peerMessage w t i e)).set (QSENT t i) (s + 1))
        else w
      else
        let t' := w.get (QT_PEER_TILE t i)
        let i' := w.get (QT_PEER_INDEX t i)
        if qEnabled w t' i' && qIsIn w t' i' && qSlotFree w t' i' s then
          peerSend t i top n ((qAdmitPeer w t' i' e).set (QSENT t i) (s + 1))
        else w

/-- Everything an outbound peer queue can send now. -/
def peerFlush (w : Work σ) (t i : Nat) : Work σ :=
  if 448 ≤ i then peerSend t i 3 (qFill w t i) w else w

/-- R19: an entry, or the credit, of a remote peer queue takes its place behind what waits already. -/
def peerQueue (w : Work σ) (t i : Nat) (seq : Option Nat) : Work σ :=
  if w.dev.peerWait.contains ⟨t, i, seq⟩ then w
  else { w with dev := { w.dev with peerWait := w.dev.peerWait ++ [⟨t, i, seq⟩] } }

/-- R19, R297: what a push sets off: an outbound host queue may have a datagram to send, and an outbound peer queue sends what it can;
what a link does not take waits in order of arrival. -/
def pushed (w : Work σ) (t i : Nat) : Work σ :=
  if i < 256 then sendFull w t i
  else
    let w := peerFlush w t i
    let last := w.get (QT_SEQ_A t i)
    if w.on (QT_PEER_REMOTE t i) ∧ w.get (QSENT t i) ≠ (last + 1) % 2 ^ 32 then peerQueue w t i (some last) else w

/-- R287: a credit return for an outbound queue. -/
def qCreditReturn (w : Work σ) (t i cr : Nat) : Work σ :=
  let oldest := w.get (QTAIL t i)
  let d := seqDiff cr oldest
  let held := qFill w t i
  if seqBefore oldest cr then
    if d ≤ held then
      let w := w.set (QTAIL t i) cr
      if seqBefore (w.get (QSENT t i)) cr then w.set (QSENT t i) cr else w
    else w.inc TRANSPORT_COUNT2_CREDIT_ERR
  else if seqBefore cr oldest ∨ cr = oldest then w
  else w.inc TRANSPORT_COUNT2_CREDIT_ERR

/-- The credit that the inbound end of a peer pair returns after a removal (R287, R291, R365). -/
def peerCredit (w : Work σ) (t i : Nat) : Work σ :=
  if i < 448 then w
  else if w.on (QT_PEER_REMOTE t i) then
    let l := w.get (QT_PEER_LINK t i)
    if linkSends w l then
      (sendStripe w l [(2, ctrlBlock 0x78 (w.get (QT_PEER_TILE t i) * 2 ^ 8
        + w.get (QT_PEER_INDEX t i) * 2 ^ 13 + w.get (QTAIL t i) * 2 ^ 22))]).set (QREPORTED t i) (w.get (QTAIL t i))
    else peerQueue w t i none
  else
    let t' := w.get (QT_PEER_TILE t i)
    let i' := w.get (QT_PEER_INDEX t i)
    peerFlush (qCreditReturn w t' i' (w.get (QTAIL t i))) t' i'

/-- R287, R288: a producer's push to an outbound queue; none while a BLOCK queue has no credit. -/
def qPush (w : Work σ) (t i type : Nat) (payload : List Byte) : Option (Work σ) :=
  if qFaulted w t i then some (qOverflow w t i)
  else if qFill w t i < qSize w t i then some (pushed (qPut w t i type payload) t i)
  else if i < 256 ∧ w.on (QT_CFG_POLICY t i) then
    let old := w.get (QTAIL t i)
    let w := (compDrop w t i (fun n => decide (n = old))).set (QTAIL t i) (old + 1)
    let w := if seqBefore (w.get (QSENT t i)) (w.get (QTAIL t i)) then w.set (QSENT t i) (w.get (QTAIL t i)) else w
    some (pushed (qPut (qOverflow w t i) t i type payload) t i)
  else none

/-- Removal by the consumer of an inbound queue (R290), with the credit it returns. -/
def qTake (w : Work σ) (t i : Nat) (accept : Nat → Bool) : Option (List Byte) × Work σ :=
  let r := qTakeLoop t i accept (qFill w t i) w
  (r.1, if w.get (QTAIL t i) = r.2.get (QTAIL t i) then r.2 else peerCredit r.2 t i)

/-- The head entry that the consumer would take, without removing it. -/
def qPeek (w : Work σ) (t i : Nat) (accept : Nat → Bool) : Option (List Byte) :=
  (qTakeLoop t i accept (qFill w t i) w).1

end Sys2Proof.Machine
end

