-- ==== Sys2Proof/Machine/Clasp.lean ====
section
/-! DEFINITION. Clasps (R41 to R56, R72 to R74, R167 to R169): entry layout, checks on arrival, admission, order of
effect, faults, page buffers and ABORT_FROM. -/

namespace Sys2Proof.Machine

variable {σ : State}

/-! ## Entry layout (R43) -/

/-- R43: an entry from its 24 bytes read as one little-endian number. -/
def entryOfNat (v : Nat) : Entry where
  stamp := bits v 0 64
  slot := bits v 64 4
  kind := bits v 68 4
  clasp := bits v 72 6
  abgen := bits v 78 2
  chain := bit v 80
  alt := bit v 81
  quad := bit v 82
  opt := bits v 83 2
  did := bits v 85 4
  rsv := bits v 89 7
  body := bits v 96 96

/-- R43: the 24 bytes of an entry as one little-endian number. -/
def entryToNat (e : Entry) : Nat :=
  e.stamp % 2 ^ 64 + e.slot % 16 * 2 ^ 64 + e.kind % 16 * 2 ^ 68 + e.clasp % 64 * 2 ^ 72 + e.abgen % 4 * 2 ^ 78
    + b2n e.chain * 2 ^ 80 + b2n e.alt * 2 ^ 81 + b2n e.quad * 2 ^ 82 + e.opt % 4 * 2 ^ 83 + e.did % 16 * 2 ^ 85
    + e.rsv % 128 * 2 ^ 89 + e.body % 2 ^ 96 * 2 ^ 96

/-- An entry of a kind for a clasp with everything else zero. -/
def plainEntry (stamp slot kind clasp body : Nat) : Entry :=
  ⟨stamp, slot, kind, clasp, 0, false, false, false, 0, 0, 0, body⟩

/-- Kinds of R44. -/
def KPLAY : Nat := 0
def KPARAM : Nat := 1
def KSTOP : Nat := 2
def KWINDOW : Nat := 3
def KCAPTURE : Nat := 4

/-- Causes of CLASP.FIRST (R58). -/
def LATE : Nat := 0
def ORDER : Nat := 1
def FORMAT : Nat := 2

/-- A stamp as frame and then slot (R45). -/
def Entry.key (e : Entry) : Nat := e.stamp * 16 + e.slot

/-- R41, R46: the instant at which an entry takes effect at clasp c; entries with equal instants have equal stamps. -/
def Entry.instant (c : Nat) (e : Entry) : Nat :=
  if c < 16 then e.key
  else if c < 24 then e.stamp * 2 + e.slot / 8
  else if c < 32 then e.stamp
  else e.stamp * 10 + 10 * e.slot / 16

/-! ## Items -/

def Item.members : Item → List HeldEntry
  | .one e => [e]
  | .chain es => es
  | .group es => es

def Item.head? (i : Item) : Option HeldEntry := i.members.head?

/-- The stamp frame of a unit: its members carry one stamp. -/
def Item.stamp (i : Item) : Nat := (i.head?.map (fun h => h.entry.stamp)).getD 0

def Item.key (i : Item) : Nat := (i.head?.map (fun h => h.entry.key)).getD 0

def Item.instant (c : Nat) (i : Item) : Nat := (i.head?.map (fun h => h.entry.instant c)).getD 0

/-- Whether the unit is a PARAM entry or a chain of them. -/
def Item.isParam : Item → Bool
  | .one e => decide (e.entry.kind = KPARAM)
  | .chain _ => true
  | .group _ => false

/-- Entries held by a clasp (CLASP.QUEUE.FILL, R58). -/
def Clasp.fill (k : Clasp) : Nat :=
  k.items.foldl (fun n i => n + i.members.length) 0 + (match k.open_ with | some u => u.members.length | none => 0)

def Work.clasp (w : Work σ) (t c : Nat) : Clasp := vget (w.tile t).clasps Clasp.reset c

def Work.updClasp (w : Work σ) (t c : Nat) (f : Clasp → Clasp) : Work σ :=
  w.updTile t (fun x => { x with clasps := vset x.clasps c (f (vget x.clasps Clasp.reset c)) })

/-- Entries staged for a clasp and not arrived there yet. -/
def stagedFor (x : Tile) (c : Nat) : List Staged := x.stage.filter (fun s => s.entry.clasp = c)

/-- R279, R282: the internal stage queue through which the entries for clasp c go. [note 146: DESIGN CHOICE] -/
def stageIndex (c : Nat) : Nat := 256 + c

/-- R282: the entries that the stage queue of clasp c can still take; a stage queue that the setting does not enable sets no
bound of its own. [note 146: DESIGN CHOICE] -/
def stageRoom (w : Work σ) (t c : Nat) : Option Nat :=
  if qEnabled w t (stageIndex c) then some (qSize w t (stageIndex c) - (stagedFor (w.tile t) c).length) else none

/-- R16, R42, R282: the credit of the producers of clasp c. -/
def claspCredit (w : Work σ) (t c : Nat) : Nat :=
  let depth := w.get (CLASP_QUEUE_DEPTH t c) - ((w.clasp t c).fill + (stagedFor (w.tile t) c).length)
  match stageRoom w t c with
  | some r => min depth r
  | none => depth

/-- R72: a producer stalls while a paged PLAY that it has issued waits for a page buffer. -/
def pageWaits (w : Work σ) (t : Nat) (p : Producer) : Bool :=
  (w.tile t).stage.any (fun s => decide (s.from_ = p) && s.page.isSome)

/-! ## Faults (R47, R49) -/

/-- The fields of CLASP.FIRST and CLASP.FIRST_STAMP as a fault records them. -/
def recordFirst (w : Work σ) (t c cause kind : Nat) (margin : Int) (stamp : Nat) : Work σ :=
  let w := (w.set (CLASP_FIRST_VALID t) 1).set (CLASP_FIRST_CAUSE t) cause
  let w := (w.set (CLASP_FIRST_CLASP t) c).set (CLASP_FIRST_KIND t) kind
  let w := w.set (CLASP_FIRST_MARGIN t) (toField 16 (satS 16 margin))
  (w.set (CLASP_FIRST_STAMP_LO t) stamp).set (CLASP_FIRST_STAMP_HI t) (stamp / 2 ^ 32)

/-- R47, R49: a LATE, ORDER or FORMAT fault is counted, recorded when CLASP.FIRST is free, and fires tile source 2. -/
def claspFault (w : Work σ) (t c cause : Nat) (e : Entry) (margin : Int) : Work σ :=
  let w := w.inc (CLASP_UNDERRUN t)
  let w := if w.on (CLASP_FIRST_VALID t) then w else recordFirst w t c cause e.kind margin e.stamp
  w.fire (tileSrc t 2)

/-- R17: the margin of an entry now. -/
def marginOf (w : Work σ) (e : Entry) : Int := (e.stamp : Int) - (w.now : Int)

/-- R52: the low-water mark takes a margin; a negative one counts as 0. -/
def lowWater (w : Work σ) (t : Nat) (margin : Int) : Work σ :=
  let m := min margin.toNat 0x1FFFF
  if m < w.get (CLASP_LOW_WATER t) then w.set (CLASP_LOW_WATER t) m else w

/-! ## Fields that must suit the clasp (R44, R62, R71, R82, R94, R111, R113, R238) -/

/-- R62: a tone engine's parameter group and value that are no FORMAT fault. -/
def toneGroupOk (body : Nat) : Bool :=
  let g := body % 256
  let v := body / 256
  if g < 4 then decide (v < 2 ^ 80)
  else if g < 0xC then decide (v < 2 ^ 32)
  else if g = 0x10 ∨ g = 0x11 then decide (v < 2 ^ 71)
  else if g = 0x18 then decide (256 ≤ v) && decide (v < 2 ^ 20)
  else false

/-- R94: a flux engine's parameter group and value that are no FORMAT fault. -/
def fluxGroupOk (body : Nat) : Bool :=
  let g := body % 256
  let v := body / 256
  if g = 0 ∨ g = 1 then decide (v < 2 ^ 16)
  else if g = 0x10 ∨ g = 0x11 then decide (v < 2 ^ 71)
  else false

/-- R113: an RD channel's parameter group and value that are no FORMAT fault. -/
def rdGroupOk (body : Nat) : Bool := decide (body % 256 = 0) && decide (body / 256 < 2 ^ 68)

/-- R43, R44 and the engines' chapters: an entry whose fields suit clasp c. Reserved bits that are not 0, and CHAIN on an entry that
is neither PARAM nor an alternative, do not suit any clasp; the BODY of a STOP is not looked at. [notes 147: DEDUCED, 161: DESIGN CHOICE] -/
def suits (c : Nat) (e : Entry) : Bool :=
  decide (e.rsv = 0) && !(e.alt && !e.quad && decide (1 < e.opt)) && !(e.chain && !e.alt && decide (e.kind ≠ KPARAM)) &&
  (if c < 24 then
    if e.kind = KPLAY then decide (e.body < 128)
    else if e.kind = KPARAM then (if c < 16 then toneGroupOk e.body else fluxGroupOk e.body)
    else decide (e.kind = KSTOP)
  else if c < 32 then
    if e.kind = KWINDOW then decide (e.body < 64)
    else if e.kind = KPARAM then rdGroupOk e.body
    else false
  else decide (e.kind = KCAPTURE) && decide (e.body < 256) && decide (e.body % 8 < 5))

/-! ## Page buffers (R72, R73) -/

/-- R63, R73: a PLAY on tone clasp c of a template whose record in force is paged. -/
def isPaged (w : Work σ) (t c : Nat) (e : Entry) : Bool :=
  decide (c < 16) && decide (e.kind = KPLAY) && w.getBit (TONE_TPL t c (e.body % 128) 0) 20

/-- R72: the page that the record in force names, the port in bit 16. -/
def pageNamed (w : Work σ) (t c : Nat) (e : Entry) : Nat := bits (w.get (TONE_TPL t c (e.body % 128) 0)) 0 17

/-- The lowest page buffer of n that no entry of the list holds. -/
def freeBuf (held : List PageBuf) : Nat → Nat → Option Nat
  | _, 0 => none
  | b, n + 1 => if held.any (fun p => p.buf = b) then freeBuf held (b + 1) n else some b

/-- R72: a page buffer for a page: one that holds it already, or a free one, whose fetch starts. [note 29: DEDUCED] -/
def pageTake (w : Work σ) (t page : Nat) : Option (Work σ) :=
  let held := (w.tile t).pages
  if held.any (fun p => p.page = page) then
    some (w.updTile t (fun x => { x with
      pages := x.pages.map (fun p => if p.page = page then { p with users := p.users + 1 } else p) }))
  else
    match freeBuf held 0 (w.get (DRIVE_PAGE_BUFFERS t)) with
    | some b => some (w.updTile t (fun x => { x with pages := x.pages ++ [⟨b, page, 1, none⟩] }))
    | none => none

/-- R72: one user of a page leaves; the buffer is free when the last one has left. -/
def pageDrop (w : Work σ) (t : Nat) (page : Option Nat) : Work σ :=
  match page with
  | none => w
  | some p => w.updTile t (fun x => { x with
      pages := x.pages.filterMap (fun b =>
        if b.page = p then (if b.users ≤ 1 then none else some { b with users := b.users - 1 }) else some b) })

/-- The pages of discarded entries. [note 29: DEDUCED] -/
def dropPages (w : Work σ) (t : Nat) (es : List HeldEntry) : Work σ := w.each es (fun w h => pageDrop w t h.page)

/-! ## Admission (R45 to R49, R167) -/

/-- R45: the reference stamp of a clasp, when an admitted entry is in force. -/
def orderRef (k : Clasp) : Option Admission := k.hist.head?

/-- The key of an admission, as that of the entry (R45). -/
def Admission.key (a : Admission) : Nat := a.frame * 16 + a.slot

/-- The history of admitted stamps, newest first, without those that no later abort or cut can make the reference: behind a
stamp that lies within 12 frames and has left the clasp, older ones are not needed. -/
def pruneHist (now firstHeld : Nat) : List Admission → List Admission
  | [] => []
  | h :: r => if h.frame ≤ now + 11 ∧ h.key < firstHeld then [h] else h :: pruneHist now firstHeld r

/-- R226: whether a cut discards a unit that a clasp holds: a staged group or a WINDOW. -/
def Item.cut : Item → Bool
  | .one h => decide (h.entry.kind = KWINDOW)
  | .chain _ => false
  | .group _ => true

/-- The admission of a unit, by its last member. -/
def Item.admission (i : Item) : Option Admission :=
  i.members.getLast?.map (fun l => ⟨l.entry.stamp, l.entry.slot, i.cut⟩)

/-- R45, R47, R48: a unit is checked for order and for the margin of its last member, and admitted. -/
def admitUnit (w : Work σ) (t c : Nat) (i : Item) : Work σ :=
  match i.members.getLast? with
  | none => w
  | some l =>
    let k := w.clasp t c
    let late := match orderRef k with
      | some r => decide (l.entry.key < r.key)
      | none => false
    if late then dropPages (claspFault w t c ORDER l.entry l.margin) t i.members
    else if l.margin < 12 then dropPages (claspFault w t c LATE l.entry l.margin) t i.members
    else
      let firstHeld := match k.items.head? with | some x => x.key | none => i.key
      w.updClasp t c (fun k => { k with
        items := k.items ++ [i]
        hist := ⟨l.entry.stamp, l.entry.slot, i.cut⟩ :: pruneHist w.now firstHeld k.hist })

/-- R49, R167: the open chain or group of a clasp breaks: one FORMAT fault, every member discarded. [note 28: DEDUCED] -/
def breakOpen (w : Work σ) (t c : Nat) : Work σ :=
  match (w.clasp t c).open_ with
  | none => w
  | some u =>
    let w := w.updClasp t c (fun k => { k with open_ := none })
    match u.members.getLast? with
    | none => w
    | some l => dropPages (claspFault w t c FORMAT l.entry l.margin) t u.members

/-- R49: the chain that a producer has open at clasp c breaks. -/
def breakChain (w : Work σ) (t c : Nat) (p : Producer) : Work σ :=
  match (w.clasp t c).open_ with
  | some u => if u.isChain ∧ u.from_ = p then breakOpen w t c else w
  | none => w

/-- The stage queues, newest entry first, once a producer has issued an entry to another clasp than clasp c: its last entry for
clasp c leaves an open chain behind (R49). -/
def markLeaves (c : Nat) (p : Producer) : List Staged → List Staged
  | [] => []
  | s :: r => if s.from_ = p ∧ s.entry.clasp = c then { s with leaves := true } :: r else s :: markLeaves c p r

/-- R49: the clasp to which a producer has issued its last entry. -/
def lastClasp (x : Tile) (p : Producer) : Option Nat := (x.issued.find? (fun i => decide (i.1 = p))).map Prod.snd

/-- R49: a producer issues its next entry to clasp c. A chain that its last entry has left open at another clasp breaks: at once when
that entry has reached its clasp, and otherwise when it does. -/
def issueTo (w : Work σ) (t c : Nat) (p : Producer) : Work σ :=
  let w := match lastClasp (w.tile t) p with
    | none => w
    | some d =>
      if d = c then w
      else if (w.tile t).stage.any (fun s => decide (s.from_ = p ∧ s.entry.clasp = d)) then
        w.updTile t (fun x => { x with stage := (markLeaves d p x.stage.reverse).reverse })
      else breakChain w t d p
  w.updTile t (fun x => { x with issued := (p, c) :: x.issued.filter (fun i => decide (i.1 ≠ p)) })

/-- R55: an entry enters the stage queues and takes the tile's abort generation. -/
def stagePut (w : Work σ) (t : Nat) (e : Entry) (p : Producer) : Work σ :=
  (issueTo w t e.clasp p).updTile t (fun x => { x with
    stage := x.stage ++ [⟨{ e with abgen := w.get (CLASP_ABORT_CTRL_GEN t) }, p, false, none⟩] })

/-- R167: the top option of a group. -/
def topOpt (e : Entry) : Nat := if e.quad then 3 else 1

/-- Whether an entry continues the open unit of its clasp: the next member of a chain (R49) or the next alternative of a
group (R167). -/
def continues (u : OpenUnit) (e : Entry) : Bool :=
  match u.members.head?, u.members.getLast? with
  | some f, some l =>
    if u.isChain then
      decide (e.kind = KPARAM) && !e.alt && decide (e.key = f.entry.key) && decide (u.members.length < 4)
    else
      e.alt && decide (e.key = f.entry.key) && decide (e.did = f.entry.did) && (e.quad == f.entry.quad)
        && decide (l.entry.opt < e.opt)
  | _, _ => false

/-- A unit that has its last member is admitted; otherwise it stays open. -/
def placeOpen (w : Work σ) (t c : Nat) (u : OpenUnit) (e : Entry) : Work σ :=
  if u.isChain then
    if e.chain then w.updClasp t c (fun k => { k with open_ := some u })
    else admitUnit (w.updClasp t c (fun k => { k with open_ := none })) t c (.chain u.members)
  else
    if e.opt = topOpt e then admitUnit (w.updClasp t c (fun k => { k with open_ := none })) t c (.group u.members)
    else w.updClasp t c (fun k => { k with open_ := some u })

/-- R49: an entry that reaches clasp c with the page buffer it took: it joins the open unit, breaks it, opens one, or is
admitted alone. A member that does not suit the clasp is one FORMAT fault with its unit, and what follows of the unit arrives as if
nothing had preceded it. [note 28: DEDUCED] -/
def arrive (w : Work σ) (t c : Nat) (ok : Bool) (h : HeldEntry) : Work σ :=
  let e := h.entry
  let w := lowWater w t h.margin
  let joins := match (w.clasp t c).open_ with | some u => continues u e | none => false
  let w := if joins then w else breakOpen w t c
  if !ok then
    match (w.clasp t c).open_ with
    | some u =>
      let w := w.updClasp t c (fun k => { k with open_ := none })
      dropPages (claspFault w t c FORMAT e h.margin) t (h :: u.members)
    | none => pageDrop (claspFault w t c FORMAT e h.margin) t h.page
  else
    match (w.clasp t c).open_ with
    | some u => placeOpen w t c { u with members := u.members ++ [h] } e
    | none =>
      if e.alt then placeOpen w t c ⟨false, [h], h.from_⟩ e
      else if e.chain then placeOpen w t c ⟨true, [h], h.from_⟩ e
      else admitUnit w t c (.one h)

/-- The states of SEQ.STATE (R214). -/
def NOT_RELEASED : Nat := 0
def RUN : Nat := 1
def DRAINING : Nat := 2
def HALTED : Nat := 3

/-- The stage queue of a tile without its first entry for clasp c. -/
def unstage (x : Tile) (c : Nat) : Tile := { x with stage := x.stage.eraseP (fun s => s.entry.clasp = c) }

/-- The stage queue of a tile with a page set for its first entry for clasp c: that entry waits for a page buffer (R73). -/
def stageWait (c page : Nat) : List Staged → List Staged
  | [] => []
  | s :: r => if s.entry.clasp = c then { s with page := some page } :: r else s :: stageWait c page r

/-- R73: the page of a staged PLAY, decided by the record in force when it arrived at its clasp; none when it is not paged. -/
def pageOf (w : Work σ) (t c : Nat) (s : Staged) : Option Nat :=
  match s.page with
  | some p => some p
  | none => if isPaged w t c s.entry && suits c s.entry then some (pageNamed w t c s.entry) else none

/-- R45 to R49, R72, R73, R227: the first staged entry for clasp c reaches it, taken off the stage queues. none: a paged PLAY for
which no page buffer is free, and whose stamp lies at least 12 frames ahead, waits. -/
def admitStaged (w : Work σ) (t c : Nat) (s : Staged) : Option (Work σ) :=
  let e := s.entry
  let m := marginOf w e
  let w1 := w.updTile t (fun x => unstage x c)
  if w.get (SEQ_STATE_STATE t) = HALTED ∧ (e.kind = KWINDOW ∨ e.alt) then some w1
  else
    match pageOf w t c s with
    | none => some (arrive w1 t c (suits c e) ⟨e, m, s.from_, none⟩)
    | some p =>
      if w.get (DRIVE_PAGE_BUFFERS t) = 0 then some (arrive w1 t c false ⟨e, m, s.from_, none⟩)
      else if m < 12 then some (arrive w1 t c true ⟨e, m, s.from_, none⟩)
      else (pageTake w1 t p).map (fun w2 => arrive w2 t c true ⟨e, m, s.from_, some p⟩)

/-- R18, R45, R49, R72, R73: the first staged entry for clasp c reaches it, or waits there for a page buffer, for which its producer is
starved of credit. A chain that its producer has left for another clasp breaks behind it. -/
def claspAdmit (w : Work σ) (t c : Nat) : Work σ :=
  match (stagedFor (w.tile t) c).head? with
  | none => w
  | some s =>
    if w.get (SEQ_STATE_STATE t) = NOT_RELEASED then w
    else
      match admitStaged w t c s with
      | some w1 => if s.leaves then breakChain w1 t c s.from_ else w1
      | none =>
        let w := if s.from_ = .seq ∧ !(w.tile t).seq.starved then
            (w.updTile t (fun x => { x with seq := { x.seq with starved := true } })).fire (tileSrc t 3) else w
        w.updTile t (fun x => { x with stage := stageWait c ((pageOf w t c s).getD 0) x.stage })

/-- R73: a paged PLAY that waits for a page buffer within 12 frames of its stamp is taken and discarded as LATE. -/
def pageWaitLate (w : Work σ) (t c : Nat) : Work σ :=
  match (stagedFor (w.tile t) c).head? with
  | none => w
  | some s => if (pageOf w t c s).isSome ∧ marginOf w s.entry < 12 then claspAdmit w t c else w

/-! ## Entries discarded (R54, R74) -/

/-- The items of a clasp kept and the pages of the others freed. -/
def keepItems (w : Work σ) (t c : Nat) (keep : HeldEntry → Bool) : Work σ :=
  let gone := (w.clasp t c).items.flatMap (fun i => i.members.filter (fun h => !keep h))
  let thin := fun (i : Item) => match i with
    | .one h => if keep h then some i else none
    | .chain es => if (es.filter keep).isEmpty then none else some (.chain (es.filter keep))
    | .group es => if (es.filter keep).isEmpty then none else some (.group (es.filter keep))
  dropPages (w.updClasp t c (fun k => { k with items := k.items.filterMap thin })) t gone

/-- The open unit of a clasp discarded without a fault. -/
def dropOpen (w : Work σ) (t c : Nat) : Work σ :=
  match (w.clasp t c).open_ with
  | none => w
  | some u => dropPages (w.updClasp t c (fun k => { k with open_ := none })) t u.members

/-- R45, R54: the stamps of frame e or later leave the history of a clasp. -/
def histBefore (w : Work σ) (t c e : Nat) : Work σ :=
  w.updClasp t c (fun k => { k with hist := k.hist.filter (fun h => h.frame < e) })

/-- R54: entries of every clasp stamped at frame e or later are discarded, and those of the stage queues that carry the old
abort generation: the one that this abort ends. [note 148: DEDUCED] -/
def discardFrom (w : Work σ) (t e : Nat) : Work σ :=
  let gen := w.get (CLASP_ABORT_CTRL_GEN t)
  let w := w.each (List.range 33) (fun w c =>
    let w := keepItems w t c (fun h => decide (h.entry.stamp < e))
    let w := match (w.clasp t c).open_ with
      | some u => (match u.members.head? with
        | some h => if h.entry.stamp < e then w else dropOpen w t c
        | none => w)
      | none => w
    histBefore w t c e)
  w.updTile t (fun x => { x with
    stage := x.stage.filter (fun s => !(decide (s.entry.abgen = gen) && decide (e ≤ s.entry.stamp))) })

/-- R54: the effective frame of ABORT_FROM f now. -/
def abortFrame (w : Work σ) (f : Nat) : Nat := max f (w.now + 12)

/-- R54: ABORT_FROM frame f. -/
def abortFrom (w : Work σ) (t f : Nat) : Work σ :=
  let e := abortFrame w f
  let w := discardFrom w t e
  let w := w.set (CLASP_ABORT_CTRL_GEN t) (w.get (CLASP_ABORT_CTRL_GEN t) + 1)
  let w := (w.set (CLASP_ABORT_CTRL_BUSY t) 1).set (ABORT_E t) e
  w.updTile t (fun x => { x with aborts := x.aborts ++ [e], seq := { x.seq with cursor := e } })

/-- R56: a host write of GO, over a path: ABORT_FROM the frame in CLASP.ABORT_FRAME, or ignored while BUSY. -/
def abortGo (w : Work σ) (path : Path) (t : Nat) : Work σ :=
  if w.on (CLASP_ABORT_CTRL_BUSY t) then w.ignored path (CLASP_ABORT_CTRL_GO t)
  else abortFrom w t (w.get (CLASP_ABORT_FRAME_LO t) + w.get (CLASP_ABORT_FRAME_HI t) * 2 ^ 32)

/-! ## Entries due (R46) -/

/-- The units at the front of a clasp whose stamps are equal to the first one's (R46), when they are due: their frame has
begun. -/
def dueItems (w : Work σ) (t c : Nat) : List Item :=
  match (w.clasp t c).items with
  | [] => []
  | i :: is =>
    if i.stamp ≤ w.now then i :: is.takeWhile (fun j => decide (j.instant c = i.instant c)) else []

/-- R46: the unit that takes effect next at a clasp: PARAM units in order of admission, then the last admitted of the
others. A group that has not been judged holds the others back. -/
def nextDue (w : Work σ) (t c : Nat) : Option Item :=
  let d := dueItems w t c
  match d.find? Item.isParam with
  | some i => some i
  | none => if d.any (fun i => match i with | .group _ => true | _ => false) then none else d.getLast?

/-- A unit that takes effect leaves the clasp; when it is the last of several of one stamp, the others are discarded and
counted in COLLIDE (R46). [note 19: DEDUCED] -/
def takeDue (w : Work σ) (t c : Nat) (i : Item) : Work σ :=
  if i.isParam then w.updClasp t c (fun k => { k with items := k.items.erase i })
  else
    let d := dueItems w t c
    let others := d.dropLast.flatMap Item.members
    let w := w.updClasp t c (fun k => { k with items := k.items.drop d.length })
    dropPages (w.add (CLASP_COLLIDE t) others.length) t others

/-- R74: the PLAYs that a clasp holds, in its open group too, and that satisfy a condition are discarded as faults. -/
def failPlays (w : Work σ) (t c cause : Nat) (hit : HeldEntry → Bool) : Work σ :=
  let inOpen := match (w.clasp t c).open_ with | some u => u.members.filter hit | none => []
  let gone := (w.clasp t c).items.flatMap (fun i => i.members.filter hit) ++ inOpen
  let w := keepItems w t c (fun h => !hit h)
  let w := w.updClasp t c (fun k => { k with
    open_ := k.open_.bind (fun u =>
      let rest := u.members.filter (fun h => !hit h)
      if rest.isEmpty then none else some { u with members := rest }) })
  w.each gone (fun w h => claspFault w t c cause h.entry h.margin) |> fun w => dropPages w t inOpen

/-- R74: the PLAYs of a clasp whose page fetch is not complete one frame before their stamp are LATE faults. -/
def pageFetchLate (w : Work σ) (t c : Nat) : Work σ :=
  let slow := fun (h : HeldEntry) => match h.page with
    | none => false
    | some p => decide (h.entry.stamp ≤ w.now + 1) &&
        (w.tile t).pages.any (fun b => decide (b.page = p) && decide (b.done ≠ some true))
  failPlays w t c LATE slow

/-- PAGE_FETCH_LATE (R74). -/
def execPageFetchLate (t : Fin 32) (e : Fin 16) (s : State) : Host.Outcome State Fault Refusal :=
  run (fun w => pageFetchLate w t e) s

/-- The first address of QDR port u (R26). -/
def qdrBase (u : Nat) : Nat := if u = 0 then 0x200000000 else 0x210000000

/-- The first envelope sample of page buffer b of a tile (R65). -/
def bufStart (w : Work σ) (t b : Nat) : Nat := 131072 - 1024 * w.get (DRIVE_PAGE_BUFFERS t) + 1024 * b

/-- R72: a page read from QDR into its page buffer in envelope memory. -/
def copyPage (w : Work σ) (t : Nat) (b : PageBuf) : Work σ :=
  w.wrBytes (tileBase t + 0x100000 + 4 * bufStart w t b.buf)
    (w.rdBytes (qdrBase (b.page / 65536) + b.page % 65536 * 0x1000) 4096)

/-- R74: the fetch into a page buffer completes, or an address parity error makes the PLAYs that wait for it FORMAT
faults. -/
def pageFetchDone (w : Work σ) (t buf : Nat) (parityOk : Bool) : Work σ :=
  match (w.tile t).pages.find? (fun b => b.buf = buf) with
  | none => w
  | some b =>
    if b.done.isSome then w
    else if parityOk then
      (copyPage w t b).updTile t (fun x => { x with
        pages := x.pages.map (fun p => if p.buf = buf then { p with done := some true } else p) })
    else
      let w := w.updTile t (fun x => { x with
        pages := x.pages.map (fun p => if p.buf = buf then { p with done := some false } else p) })
      w.each (List.range 16) (fun w c => failPlays w t c FORMAT (fun h => decide (h.page = some b.page)))

/-! ## Settings that output paths remember (R98, R319) -/

/-- A coefficient as it was in force at frame tick f: the value kept at the first clasp point after f, or the present one.
[note 35: DEDUCED] -/
def coefAt (w : Work σ) (t f : Nat) (c : Fld) : Nat :=
  match ((w.tile t).fluxOld.filter (fun s => f < s.1 ∧ s.2.any (fun p => p.1 = c.key))).getLast? with
  | some s => assoc 0 s.2 c.key
  | none => w.get c

end Sys2Proof.Machine
end

