-- ==== Sys2Proof/Machine/Tone.lean ====
section
/-! DEFINITION. Tone engines and RF DACs (R59 to R84): pulses, samples, sums, clipping and background calibration.
Engine e of a tile is XYe for e below 8 and PB(e - 8) above; its clasp has the same index. -/

namespace Sys2Proof.Machine

variable {σ : State}

/-! ## Records (R63) -/

def tplLen (r : List Nat) : Nat := bits (r.getD 1 0) 0 16 + 1
def tplStart (r : List Nat) : Nat := bits (r.getD 0 0) 0 17
def tplMirror (r : List Nat) : Bool := bit (r.getD 0 0) 18
def tplHold (r : List Nat) : Bool := bit (r.getD 0 0) 19
def tplPaged (r : List Nat) : Bool := bit (r.getD 0 0) 20
def tplFsel (r : List Nat) : Nat := bits (r.getD 0 0) 24 2
def tplPhase (r : List Nat) : Nat := r.getD 2 0
def tplAmp (r : List Nat) : Int := sext 16 (bits (r.getD 1 0) 16 16)
def tplDrag (r : List Nat) : Bool := bit (r.getD 0 0) 17
def tplDragK (r : List Nat) : Int := sext 16 (bits (r.getD 3 0) 0 16)

/-- The record of template m of engine e now in force. -/
def toneRecord (w : Work σ) (t e m : Nat) : List Nat := (List.range 4).map (fun j => w.get (TONE_TPL t e m j))

/-- The first envelope sample or word of the page buffers (R65, R91); BUFFERS counts as it stands, above 16 too.
[note 161: DESIGN CHOICE] -/
def firstPageSample (w : Work σ) (t : Nat) : Nat := 131072 - 1024 * w.get (DRIVE_PAGE_BUFFERS t)

/-- R64, R404: a QDR port has trained for a paged template while it is READY. [note 30: DEDUCED] -/
def qdrTrained (w : Work σ) (u : Nat) : Bool := decide (w.get (QDR_STATUS u) = 2)

/-- R64: a record that a PLAY may use. [note 30: DEDUCED] -/
def toneValid (w : Work σ) (t : Nat) (r : List Nat) : Bool :=
  decide (bits (r.getD 0 0) 21 3 = 0) && decide (bits (r.getD 0 0) 26 6 = 0) && decide (bits (r.getD 3 0) 16 16 = 0) &&
  (if tplPaged r then decide (tplLen r ≤ 1024) && qdrTrained w (bits (r.getD 0 0) 16 1)
   else decide (tplStart r + tplLen r ≤ firstPageSample w t))

/-! ## Span and samples (R59, R67 to R69) -/

/-- R68: samples of the forward half. -/
def fwd (r : List Nat) : Nat := 8 * tplLen r

/-- R69: the first sample index after the hold; none while the pulse holds without a STOP. -/
def holdEnd (p : TonePulse) : Option Nat :=
  if tplHold p.rec_ then p.stop.map (fun s => max s (p.n0 + fwd p.rec_)) else some (p.n0 + fwd p.rec_)

/-- R68: the first sample index after the span; none while it has no end. -/
def spanEnd (p : TonePulse) : Option Nat :=
  (holdEnd p).map (fun h => if tplMirror p.rec_ then h + fwd p.rec_ else h)

/-- Whether sample index n lies in the span. -/
def inSpan (p : TonePulse) (n : Nat) : Bool :=
  decide (p.n0 ≤ n) && (match spanEnd p with | some e => decide (n < e) | none => true)

/-- Whether sample index n lies in the hold. -/
def inHold (p : TonePulse) (n : Nat) : Bool :=
  tplHold p.rec_ && decide (p.n0 + fwd p.rec_ ≤ n) && (match holdEnd p with | some e => decide (n < e) | none => true)

/-- The hold samples of the pulse before index n. -/
def holdBefore (p : TonePulse) (n : Nat) : Nat :=
  let h0 := p.n0 + fwd p.rec_
  if tplHold p.rec_ then (match holdEnd p with | some e => min n e | none => n) - h0 else 0

/-- The 48-bit frequency word k of an engine. -/
def freqWord (w : Work σ) (t e k : Nat) : Nat := w.get (TONE_FW_LO t e k) + w.get (TONE_FW_HI t e k) * 2 ^ 32

/-- R59: the phase word P(n). -/
def phaseWord (fw vz phase n : Nat) : Nat := ((fw * n) % 2 ^ 48 / 2 ^ 16 + vz + phase) % 2 ^ 32

/-- R65, R66, R72: the envelope samples that a pulse plays, of envelope memory or of its page buffer, as they stand when the samples of
a frame are fixed. [note 149: DESIGN CHOICE] -/
def playedEnv (w : Work σ) (t : Nat) (p : TonePulse) : List (Int × Int) :=
  let start := match p.page with
    | none => tplStart p.rec_
    | some pg => (match (w.tile t).pages.find? (fun b => b.page = pg) with
      | some b => bufStart w t b.buf
      | none => tplStart p.rec_)
  (List.range (tplLen p.rec_)).map (fun k =>
    let v := w.rdLe (tileBase t + 0x100000 + 4 * (start + k)) 4
    (sext 16 v, sext 16 (v / 2 ^ 16)))

/-- R67, R68: the played sequence p[0], p[1], … of a pulse around sample index n, as the envelope sample that stands there: the forward
half, the held sample, and the reverse half in its order; none between two of them, and none outside the pulse. A hold that no STOP
has ended yet goes on. [note 32: DESIGN CHOICE] -/
def playedAt (p : TonePulse) (env : List (Int × Int)) (n : Int) : Option (Int × Int) :=
  let len := tplLen p.rec_
  let j := n - (p.n0 : Int)
  let at_ := fun (j : Int) (k : Nat) => if j % 8 = 0 then some (env.getD k (0, 0)) else none
  if j < 0 then none
  else if j < (fwd p.rec_ : Int) then at_ j (j / 8).toNat
  else
    match holdEnd p with
    | none => at_ j (len - 1)
    | some h =>
      if n < (h : Int) then at_ j (len - 1)
      else
        let r := n - (h : Int)
        if tplMirror p.rec_ && decide (r < (fwd p.rec_ : Int)) then at_ r (len - 1 - (r / 8).toNat) else none

/-- R67: the played sample one before or one after the one at sample index n, with p continued across the hold and taken as 0
outside the pulse. -/
def playedBeside (p : TonePulse) (env : List (Int × Int)) (n : Int) (after : Bool) : Int × Int :=
  let len := tplLen p.rec_
  let at_ := fun (k : Int) => if k < 0 then ((0, 0) : Int × Int) else env.getD k.toNat (0, 0)
  let j := n - (p.n0 : Int)
  if j < (fwd p.rec_ : Int) then
    let k := j / 8
    if !after then at_ (k - 1)
    else if k + 1 < (len : Int) then at_ (k + 1)
    else if tplMirror p.rec_ || holdEnd p != some (p.n0 + fwd p.rec_) then at_ ((len : Int) - 1)
    else (0, 0)
  else
    match holdEnd p with
    | none => at_ ((len : Int) - 1)
    | some h =>
      let k := (n - (h : Int)) / 8
      if k < 0 then at_ ((len : Int) - 1)
      else if after then at_ ((len : Int) - 2 - k)
      else if k = 0 then at_ ((len : Int) - 1)
      else at_ ((len : Int) - k)

/-- R67: twice the derivative sequence d at sample index n, where p has a sample: zero in a hold. -/
def derivativeAt (p : TonePulse) (env : List (Int × Int)) (n : Int) : Option (Int × Int) :=
  (playedAt p env n).map (fun _ =>
    if inHold p n.toNat then (0, 0)
    else
      let a := playedBeside p env n true
      let b := playedBeside p env n false
      (a.1 - b.1, a.2 - b.2))

/-- R67: a sequence interpolated to the DAC rate at sample index n: the filter's coefficients times the samples within its reach.
[note 32: DESIGN CHOICE] -/
def interpolate (x : Int → Option (Int × Int)) (n : Nat) : Int × Int :=
  Config.interpTaps.zipIdx.foldl (fun acc c =>
    let add := fun (acc : Int × Int) (s : Option (Int × Int)) => match s with
      | some v => (acc.1 + c.1 * v.1, acc.2 + c.1 * v.2)
      | none => acc
    let acc := add acc (x ((n : Int) - (c.2 : Int)))
    if c.2 = 0 then acc else add acc (x ((n : Int) + (c.2 : Int)))) (0, 0)

/-- R67: the envelope of a pulse at sample index n with its derivative term, in units of 2^-46: p̂ + i·K·d̂ with DRAG, and p̂ alone
without it and in a hold. -/
def envelopeAt (p : TonePulse) (env : List (Int × Int)) (n : Nat) : Int × Int :=
  let v := interpolate (playedAt p env) n
  if tplDrag p.rec_ && !inHold p n then
    let d := interpolate (derivativeAt p env) n
    (v.1 * 2 ^ 16 - tplDragK p.rec_ * d.2, v.2 * 2 ^ 16 + tplDragK p.rec_ * d.1)
  else (v.1 * 2 ^ 16, v.2 * 2 ^ 16)

/-- R61: the cosine and the sine of the 20 most significant bits of a phase word, as signed 16-bit amplitudes: 1.0 is 2^15 and saturates
to 32,767. [note 32: DESIGN CHOICE] -/
def carrier (phase : Nat) : Int × Int :=
  let k := bits phase 12 20
  (satS 16 (roundEither (cosTurn (k * 2 ^ 12)) 65 (Config.roundSine k true)),
    satS 16 (roundEither (sinTurn (k * 2 ^ 12)) 65 (Config.roundSine k false)))

/-- R67: the complex output AMP × p̂ × exp(i·phase) of an engine at sample index n, in units of 2^-76 of full scale; zero outside the
span. -/
def toneSample (w : Work σ) (t e : Nat) (p : TonePulse) (n : Nat) : Int × Int :=
  if inSpan p n then
    let k := tplFsel p.rec_
    let c := carrier (phaseWord (freqWord w t e k) (w.get (TONE_VZ t e k)) (tplPhase p.rec_) n)
    let v := envelopeAt p (playedEnv w t p) n
    let a := tplAmp p.rec_
    (a * (v.1 * c.1 - v.2 * c.2), a * (v.1 * c.2 + v.2 * c.1))
  else (0, 0)

def Work.tone (w : Work σ) (t e : Nat) : Tone := vget (w.tile t).tone Tone.reset e

def Work.updTone (w : Work σ) (t e : Nat) (f : Tone → Tone) : Work σ :=
  w.updTile t (fun x => { x with tone := vset x.tone e (f (vget x.tone Tone.reset e)) })

/-- The samples of the present frame fixed up to slot s (R53: a change at slot s applies from there on). -/
def fillTone (w : Work σ) (t e s : Nat) : Work σ :=
  w.updTone t e (fun x =>
    let miss := (List.range (min s 16)).drop x.part.length
    { x with part := x.part ++ miss.map (fun i => match x.pulse with
        | some p => toneSample w t e p (w.now * 16 + i)
        | none => (0, 0)) })

/-- The pulse of an engine ends and its page buffer loses a user. -/
def endPulse (w : Work σ) (t e : Nat) : Work σ :=
  match (w.tone t e).pulse with
  | none => w
  | some p => pageDrop (w.updTone t e (fun x => { x with pulse := none })) t p.page

/-- R68: a pulse whose span is over by sample index n leaves the engine. -/
def endIfOver (w : Work σ) (t e n : Nat) : Work σ :=
  match (w.tone t e).pulse with
  | none => w
  | some p => (match spanEnd p with
    | some x => if x ≤ n then endPulse w t e else w
    | none => w)

/-- Whether the sample positions from a to b (none: without an end) reach into the frame that begins at position f and has n. -/
def reaches (f n a : Nat) (b : Option Nat) : Bool :=
  decide (a < f + n) && (match b with | some b => decide (f < b) && decide (a < b) | none => true)

/-- R68: whether the span of a pulse reaches into the present frame. -/
def tonePlaying (w : Work σ) (p : TonePulse) : Bool := reaches (w.now * 16) 16 p.n0 (spanEnd p)

/-- R68: whether the hold of a pulse reaches into the present frame. -/
def toneHolding (w : Work σ) (p : TonePulse) : Bool :=
  tplHold p.rec_ && reaches (w.now * 16) 16 (p.n0 + fwd p.rec_) (holdEnd p)

/-- R84: a tone engine is idle when it has no pulse whose span reaches into the present frame and its clasp holds no entries. -/
def toneIdle (w : Work σ) (t e : Nat) : Bool :=
  !((w.tone t e).pulse.any (tonePlaying w)) && decide ((w.clasp t e).fill = 0)

/-- R67 to R74: a PLAY takes effect at an engine, or is a FORMAT fault that plays nothing and ends nothing. -/
def tonePlay (w : Work σ) (t e : Nat) (h : HeldEntry) : Work σ :=
  let m := h.entry.body % 128
  let r := toneRecord w t e m
  if !toneValid w t r ∨ (tplPaged r ∧ h.page = none) then
    pageDrop (claspFault w t e FORMAT h.entry h.margin) t h.page
  else if h.page.isSome ∧ tplPaged r ∧
      !((w.tile t).pages.any (fun b => decide (some b.page = h.page) && decide (b.done = some true))) then
    pageDrop (claspFault w t e LATE h.entry h.margin) t h.page
  else
    let w := endPulse (fillTone w t e h.entry.slot) t e
    let page := if tplPaged r then h.page else none
    let w := if tplPaged r then w else pageDrop w t h.page
    let w := w.updTone t e (fun x => { x with pulse := some ⟨h.entry.key, r, page, none⟩ })
    ((w.set (TONE_STATUS_TEMPLATE t e) m).set (TONE_STATUS_FSEL t e) (tplFsel r)).inc (TONE_STARTS t e)

/-- R69: a STOP takes effect at an engine: it ends a hold, present or to come. -/
def toneStop (w : Work σ) (t e : Nat) (h : HeldEntry) : Work σ :=
  match (w.tone t e).pulse with
  | none => w
  | some p =>
    if tplHold p.rec_ ∧ p.stop = none ∧ inSpan p h.entry.key then
      (fillTone w t e h.entry.slot).updTone t e (fun x => { x with pulse := some { p with stop := some h.entry.key } })
    else w

/-- R75, R79, R82: the DAC that an engine feeds: a routed drive DAC, or the probe DAC. -/
def dacOfRoute (e route : Nat) : Option Nat :=
  if 8 ≤ e then some 2
  else if route = 1 then some 0
  else if route = 2 then some 1
  else none

/-- The DAC that an engine feeds now. -/
def dacOf (w : Work σ) (t e : Nat) : Option Nat := dacOfRoute e (w.get (DRIVE_ROUTE_XY t e))

def Work.dac (w : Work σ) (t d : Nat) : Dac := vget (w.tile t).dac Dac.reset d

def Work.updDac (w : Work σ) (t d : Nat) (f : Dac → Dac) : Work σ :=
  w.updTile t (fun x => { x with dac := vset x.dac d (f (vget x.dac Dac.reset d)) })

/-- R82: a QUIET entry declares frames quiet on the DAC that its engine feeds. -/
def toneQuiet (w : Work σ) (t e frame len : Nat) : Work σ :=
  match dacOf w t e with
  | none => w
  | some d => w.updDac t d (fun x => { x with quiet := x.quiet ++ [(frame, frame + len)] })

/-- R109: before a probe engine's reference changes at sample index n, its present words are kept for the demodulators. -/
def keepReference (w : Work σ) (t e n : Nat) : Work σ :=
  if e < 8 then w
  else w.updTile t (fun x => { x with pbOld := ⟨n, e - 8,
    (List.range 4).map (freqWord w t e), (List.range 4).map (fun k => w.get (TONE_VZ t e k))⟩ :: x.pbOld })

/-- R62: one parameter group of a tone engine applied. -/
def toneGroup (w : Work σ) (t e : Nat) (en : Entry) : Work σ :=
  let g := en.body % 256
  let v := en.body / 256
  if g < 4 then
    ((w.set (TONE_FW_LO t e g) v).set (TONE_FW_HI t e g) (bits v 32 16)).set (TONE_VZ t e g) (bits v 48 32)
  else if g < 8 then w.set (TONE_VZ t e (g - 4)) v
  else if g < 0xC then w.set (TONE_VZ t e (g - 8)) (w.get (TONE_VZ t e (g - 8)) + v)
  else if g = 0x10 then
    (w.set (TONE_TPL t e (v % 128) 0) (bits v 7 32)).set (TONE_TPL t e (v % 128) 1) (bits v 39 32)
  else if g = 0x11 then
    (w.set (TONE_TPL t e (v % 128) 2) (bits v 7 32)).set (TONE_TPL t e (v % 128) 3) (bits v 39 32)
  else if g = 0x18 then toneQuiet w t e en.stamp v
  else w

/-- R53: the groups of a PARAM unit applied together at its stamp. -/
def toneParams (w : Work σ) (t e : Nat) (hs : List HeldEntry) : Work σ :=
  match hs.head? with
  | none => w
  | some h =>
    let w := fillTone w t e h.entry.slot
    let w := if hs.any (fun x => decide (x.entry.body % 256 < 0xC)) then keepReference w t e h.entry.key else w
    w.each hs (fun w x => toneGroup w t e x.entry)

/-! ## The frame boundary -/

/-- R319: a field of tile t as it governs the frame that its DACs sum, which lies two behind the one that ends. -/
def sumCoef (w : Work σ) (t : Nat) (f : Fld) : Nat := coefAt w t (w.dev.ticks - 2) f

/-- Signed delay of a tap (R86). -/
def tapDelay (w : Work σ) (t d k : Nat) : Int := sext 6 (sumCoef w t (DAC_TAP_SRC_DELAY t d k))

/-- R76, R86: whether tap k of drive DAC d is enabled. -/
def tapOn (w : Work σ) (t d k : Nat) : Bool := decide (d < 2) && decide (sumCoef w t (DAC_TAP_SRC_EN t d k) ≠ 0)

/-- R76, R86: the tile of a tap's source; the reserved code 3 names the own tile. [note 161: DESIGN CHOICE] -/
def tapTile (w : Work σ) (t d k : Nat) : Nat :=
  let n := sumCoef w t (DAC_TAP_SRC_TILE t d k)
  if n = 1 then (t + 31) % 32 else if n = 2 then (t + 1) % 32 else t

/-- R76: the engine that a tap listens to. -/
def tapTone (w : Work σ) (t d k : Nat) : Tone := w.tone (tapTile w t d k) (sumCoef w t (DAC_TAP_SRC_ENGINE t d k))

/-- Sample i of the frame that lies f frames before the newest one of an engine's history; zero where it is silent. -/
def histSample (x : Tone) (f : Nat) (i : Nat) : Int × Int := (x.hist.getD f []).getD i (0, 0)

/-- The sample of an engine delay samples before sample i of the frame two behind the newest. -/
def tapSample (x : Tone) (i : Nat) (delay : Int) : Int × Int :=
  let pos : Int := (i : Int) - delay + 32
  let f := (pos / 16).toNat
  histSample x (4 - f) (pos % 16).toNat

/-- R77: one contribution to a DAC's sum, limited to full scale, where full scale is 2^u. -/
def contribution (u : Nat) (x : Int) : Int := clampI (-((2 : Int) ^ u)) ((2 : Int) ^ u) x

/-- R76, R77: what the taps of drive DAC d add to sample i, in units of 2^-91. -/
def tapSum (w : Work σ) (t d i : Nat) : Int :=
  (List.range 4).foldl (fun acc k =>
    if tapOn w t d k then
      let a := tapSample (tapTone w t d k) i (tapDelay w t d k)
      acc + contribution 91
        (sext 16 (sumCoef w t (DAC_TAP_GAIN_GI t d k)) * a.1 - sext 16 (sumCoef w t (DAC_TAP_GAIN_GQ t d k)) * a.2)
    else acc) 0

/-- The engines that a DAC sums (R75, R79). -/
def dacEngines (w : Work σ) (t d : Nat) : List Nat :=
  (List.range 16).filter (fun e => dacOfRoute e (sumCoef w t (DRIVE_ROUTE_XY t e)) = some d)

/-- R77: S of sample i of the frame two behind the newest, in units of 2^-105. [note 33: DESIGN CHOICE] -/
def dacSum (w : Work σ) (t d i : Nat) : Int :=
  let eng := (dacEngines w t d).foldl (fun acc e => acc + contribution 76 (histSample (w.tone t e) 2 i).1) 0
  (eng * 2 ^ 15 + tapSum w t d i) * (sumCoef w t (DAC_CTRL_DGAIN t d) : Int)

/-- R77: the code of a sum, not yet saturated: ±1.0 is 2^13. [note 33: DESIGN CHOICE] -/
def dacCode (s : Int) : Int := roundEither s 92 (Config.roundDac s)

/-- Every engine that can reach DAC d of tile t is silent throughout the tap lead. -/
def dacQuiet (w : Work σ) (t d : Nat) : Bool :=
  (dacEngines w t d).all (fun e => (w.tone t e).hist.all List.isEmpty) &&
  (List.range 4).all (fun k => !tapOn w t d k || (tapTone w t d k).hist.all List.isEmpty)

/-- R80: a background step of DAC d may start with a frame, after one in which S was zero. -/
def dacCalMay (w : Work σ) (t d frame : Nat) : Bool :=
  let x := w.dac t d
  w.on (DAC_CAL_BG_EN t d) &&
    (decide (1024 ≤ x.zeroRun) || x.quiet.any (fun q => decide (q.1 ≤ frame) && decide (frame < q.2)))

/-- R80: a background step of DAC d starts at a tick. -/
def dacCalStart (w : Work σ) (t d tick : Nat) : Work σ :=
  (w.updDac t d (fun x => { x with calStart := some tick })).set (DAC_CAL_RUNNING t d) 1

/-- R80, R81: the calibration of a DAC after a frame in which S was zero throughout, or was not. A step starts with the frame that
begins next. [note 38: DESIGN CHOICE] -/
def dacCalFrame (w : Work σ) (t d frame : Nat) (zero : Bool) : Work σ :=
  if zero then
    let w := w.updDac t d (fun x => { x with zeroRun := x.zeroRun + 1, quiet := x.quiet.filter (fun q => frame + 1 < q.2) })
    if (w.dac t d).calStart = none ∧ dacCalMay w t d (frame + 1) then dacCalStart w t d (w.dev.ticks + 1) else w
  else (w.updDac t d (fun x => { x with zeroRun := 0, calStart := none })).set (DAC_CAL_RUNNING t d) 0

/-- R77, R80, R81: one frame of a DAC: its codes join the path to the pin, saturation is counted, calibration goes on. -/
def dacFrame (w : Work σ) (t d frame : Nat) : Work σ :=
  let push := fun (w : Work σ) (codes : List Int) =>
    w.updDac t d (fun x =>
      let l := (codes :: x.line).take 9
      { x with line := if l.all List.isEmpty then [] else l })
  if dacQuiet w t d then dacCalFrame (push w []) t d frame true
  else
    let sums := (List.range 16).map (dacSum w t d)
    let raw := sums.map dacCode
    let codes := raw.map (satS 14)
    let clip := raw.any (overS 14)
    let w := if clip then (w.set (DAC_CLIP_STICKY t d) 1).inc (DAC_CLIP_COUNT t d) else w
    dacCalFrame (push w (if sumCoef w t (DAC_CTRL_EN t d) ≠ 0 then codes else [])) t d frame (sums.all (fun s => decide (s = 0)))

/-- The samples of the frame that ends are fixed and join the engine's history; a pulse whose span is over leaves it. -/
def toneFrame (w : Work σ) (t e : Nat) : Work σ :=
  let x := w.tone t e
  if x.pulse = none ∧ x.part = [] ∧ x.hist = [] then w
  else
    let w := fillTone w t e 16
    let w := w.updTone t e (fun x =>
      let f := if x.part.all (fun a => decide (a = (0, 0))) then [] else x.part
      let h := (f :: x.hist).take 5
      { x with part := [], hist := if h.all List.isEmpty then [] else h })
    endIfOver w t e (w.now * 16 + 16)

/-- The codes at the pins of a tile's RF DACs in the frame that begins (R40: 11 frames after the stamp).
[note 33: DESIGN CHOICE] -/
def dacPins (w : Work σ) (t : Nat) : Work σ :=
  w.each (List.range 3) (fun w d =>
    match (w.dac t d).line.getD 8 [] with
    | [] => w
    | codes => w.emit (.dac t d codes))

/-! ## Calibration steps (R80, R83) -/

/-- R80: the running step of DAC d completes after 256 frames; the last of 48 completes the cycle, and the next step starts at once
where it may. The frame that the DAC sums lies two behind the present one. -/
def dacCalDone (w : Work σ) (t d : Nat) : Work σ :=
  match (w.dac t d).calStart with
  | none => w
  | some s =>
    if w.dev.ticks < s + 256 then w
    else
      let w := (w.updDac t d (fun x => { x with calStart := none })).set (DAC_CAL_RUNNING t d) 0
      let n := w.get (DAC_CAL_STEP t d)
      let w :=
        if n = 47 then
          (((w.set (DAC_CAL_STEP t d) 0).inc (DAC_CAL_CYCLES t d)).set (DAC_CAL_CAL_STALE t d) 0).set
            (CAL_LAST t d) w.dev.ticks
        else w.set (DAC_CAL_STEP t d) (n + 1)
      if dacCalMay w t d (w.now - 2) then dacCalStart w t d w.dev.ticks else w

/-- DAC_CAL_STEP_DONE (R80). -/
def execDacCalStepDone (t : Fin 32) (d : Fin 3) (s : State) : Host.Outcome State Fault Refusal :=
  run (fun w => dacCalDone w t d) s

/-- Frames in 10 s (R83). -/
def tenSeconds : Nat := 10000000000

/-- CAL_STALE (R83): 10 s have passed since the last completed cycle of DAC d. -/
def execCalStale (t : Fin 32) (d : Fin 3) (s : State) : Host.Outcome State Fault Refusal :=
  run (fun w => if w.get (CAL_LAST t d) + tenSeconds ≤ w.dev.ticks then w.set (DAC_CAL_CAL_STALE t d) 1 else w) s

end Sys2Proof.Machine
end

