-- ==== Sys2Proof/Machine/Flux.lean ====
section
/-! DEFINITION. Flux engines (R89 to R102, R481): pulses, predistortion, crosstalk, output codes. A sample position is a
frame times 2, plus 1 for slot 8. -/

namespace Sys2Proof.Machine

variable {σ : State}

def Work.flux (w : Work σ) (t e : Nat) : Flux := vget (w.tile t).flux Flux.reset e

def Work.updFlux (w : Work σ) (t e : Nat) (f : Flux → Flux) : Work σ :=
  w.updTile t (fun x => { x with flux := vset x.flux e (f (vget x.flux Flux.reset e)) })

/-- R90: the flag KEEP of a flux record. -/
def tplKeep (r : List Nat) : Bool := bit (r.getD 0 0) 20

def fluxRecord (w : Work σ) (t e m : Nat) : List Nat := (List.range 4).map (fun j => w.get (FLUX_TPL t e m j))

/-- R91: a record that a PLAY may use. -/
def fluxValid (w : Work σ) (t : Nat) (r : List Nat) : Bool :=
  decide (bits (r.getD 0 0) 17 1 = 0) && decide (bits (r.getD 0 0) 21 11 = 0) && decide (r.getD 2 0 = 0) &&
    decide (r.getD 3 0 = 0) && decide (tplStart r + tplLen r ≤ firstPageSample w t)

/-- R92: samples of the forward half. -/
def ffwd (r : List Nat) : Nat := 2 * tplLen r

def fluxHoldEnd (p : FluxPulse) : Option Nat :=
  if tplHold p.rec_ then p.stop.map (fun s => max s (p.n0 + ffwd p.rec_)) else some (p.n0 + ffwd p.rec_)

/-- R92: the first sample position after the span. -/
def fluxSpanEnd (p : FluxPulse) : Option Nat :=
  (fluxHoldEnd p).map (fun h => if tplMirror p.rec_ then h + ffwd p.rec_ else h)

def fluxInSpan (p : FluxPulse) (n : Nat) : Bool :=
  decide (p.n0 ≤ n) && (match fluxSpanEnd p with | some e => decide (n < e) | none => true)

def fluxInHold (p : FluxPulse) (n : Nat) : Bool :=
  tplHold p.rec_ && decide (p.n0 + ffwd p.rec_ ≤ n) &&
    (match fluxHoldEnd p with | some e => decide (n < e) | none => true)

/-- R90: envelope sample i of a record, Q1.15. -/
def fluxEnv (w : Work σ) (t : Nat) (r : List Nat) (i : Nat) : Int :=
  sext 16 (w.rdLe (tileBase t + 0x100000 + 4 * (tplStart r + i / 2) + 2 * (i % 2)) 2)

/-- R92: the envelope sample that a pulse plays at position n, or 0 outside its span. -/
def fluxE (w : Work σ) (t : Nat) (p : FluxPulse) (n : Nat) : Int :=
  if fluxInSpan p n then
    let j := n - p.n0
    let f := ffwd p.rec_
    if j < f then fluxEnv w t p.rec_ j
    else if fluxInHold p n then fluxEnv w t p.rec_ (f - 1)
    else (match fluxHoldEnd p with
      | some h => fluxEnv w t p.rec_ (f - 1 - (n - h))
      | none => 0)
  else 0

/-- R95: the direct writes of DC that have not reached the samples of engine e yet. -/
def fluxDcPending (w : Work σ) (t e : Nat) : List (Nat × Nat) :=
  if w.dev.ticks < w.get (FLUX_DC_DUE t e) then (w.flux t e).dcs.filter (fun d => decide (w.dev.ticks < d.1)) else []

/-- R95: the DC that engine e presents: a direct write reaches it at a tick that the spec leaves open.
[note 122: DEDUCED] -/
def fluxDcLive (w : Work σ) (t e : Nat) : Nat :=
  match fluxDcPending w t e with
  | d :: _ => d.2
  | [] => w.get (FLUX_DC t e)

/-- R95: an accepted direct write of FLUX.DC: it reaches FX_OUT, 8 frames behind the engine (R101), 8 to 32 frames later, and behind
the writes that were accepted before it. [notes 35: DEDUCED, 122: DEDUCED] -/
def fluxDcWrite (w : Work σ) (t e v : Nat) : Work σ :=
  let (d, w) := w.free 8
  let ahead := fluxDcPending w t e
  let soon := match ahead.getLast? with | some a => max (a.1 + 1) (w.dev.ticks + d % 25) | none => w.dev.ticks + d % 25
  let due := min soon (w.dev.ticks + 24)
  let w := w.updFlux t e (fun x => { x with dcs := ahead ++ [(due, w.get (FLUX_DC t e))] })
  (w.set (FLUX_DC_DUE t e) due).set (FLUX_DC t e) v

/-- R89, R481: x(n) in Q4.20. -/
def fluxX (w : Work σ) (t e : Nat) (p : Option FluxPulse) (n : Nat) : Int :=
  let dc := sext 16 (fluxDcLive w t e)
  match p with
  | none => dc * 2 ^ 5
  | some p => roundAway (dc * 2 ^ 15 + tplAmp p.rec_ * fluxE w t p n) 10

/-- The samples of the present frame fixed up to position s of the frame (0 to 2). -/
def fillFlux (w : Work σ) (t e s : Nat) : Work σ :=
  let x := w.flux t e
  let miss := (List.range (min s 2)).drop x.part.length
  w.updFlux t e (fun x => { x with part := x.part ++ miss.map (fun i => fluxX w t e x.pulse (w.now * 2 + i)) })

/-- R93: the last envelope sample that a pulse which ends its span normally has played. -/
def fluxLastPlayed (w : Work σ) (t : Nat) (r : List Nat) : Int :=
  if tplMirror r then fluxEnv w t r 0 else fluxEnv w t r (ffwd r - 1)

/-- R93, R94: DC advanced by a Q1.15 value and saturated; saturation sets CLIP.STICKY. -/
def fluxDcAdd (w : Work σ) (t e : Nat) (v : Int) : Work σ :=
  let sum := sext 16 (w.get (FLUX_DC t e)) + v
  let w := (w.set (FLUX_DC t e) (toField 16 (satS 16 sum))).set (FLUX_DC_DUE t e) 0
  if overS 16 sum then w.set (FLUX_CLIP_STICKY t e) 1 else w

/-- R93: the normal end of a span, with KEEP folded into DC. The samples before it are fixed first. The product is added as it is,
+1.0 for −1.0 times −1.0. [note 151: DESIGN CHOICE] -/
def fluxEndNormal (w : Work σ) (t e : Nat) (p : FluxPulse) (endPos : Nat) : Work σ :=
  let w := fillFlux w t e (endPos - w.now * 2)
  let w := w.updFlux t e (fun x => { x with pulse := none })
  if tplKeep p.rec_ then fluxDcAdd w t e (roundAway (tplAmp p.rec_ * fluxLastPlayed w t p.rec_) 15) else w

/-- R92: a pulse whose span is over by position n ends normally. -/
def fluxEndIfOver (w : Work σ) (t e n : Nat) : Work σ :=
  match (w.flux t e).pulse with
  | none => w
  | some p => (match fluxSpanEnd p with
    | some x => if x ≤ n then fluxEndNormal w t e p x else w
    | none => w)

/-- A flux pulse ended without KEEP (R93); the engine presents its DC. -/
def fluxCut (w : Work σ) (t e : Nat) : Work σ := w.updFlux t e (fun x => { x with pulse := none })

/-- R92: whether the span of a pulse reaches into the present frame. -/
def fluxPlaying (w : Work σ) (p : FluxPulse) : Bool := reaches (w.now * 2) 2 p.n0 (fluxSpanEnd p)

/-- R92: whether the hold of a pulse reaches into the present frame. -/
def fluxHolding (w : Work σ) (p : FluxPulse) : Bool :=
  tplHold p.rec_ && reaches (w.now * 2) 2 (p.n0 + ffwd p.rec_) (fluxHoldEnd p)

/-- R95: a flux engine is idle when it has no pulse in its span and its clasp holds no entries. -/
def fluxIdle (w : Work σ) (t e : Nat) : Bool :=
  !((w.flux t e).pulse.any (fluxPlaying w)) && decide ((w.clasp t (16 + e)).fill = 0)

/-- R91, R92: a PLAY takes effect at a flux engine, or is a FORMAT fault without effect. -/
def fluxPlay (w : Work σ) (t e : Nat) (h : HeldEntry) : Work σ :=
  let m := h.entry.body % 128
  let r := fluxRecord w t e m
  if !fluxValid w t r then claspFault w t (16 + e) FORMAT h.entry h.margin
  else
    let n0 := h.entry.instant (16 + e)
    let w := fluxEndIfOver w t e n0
    let w := fillFlux w t e (h.entry.slot / 8)
    let w := w.updFlux t e (fun x => { x with pulse := some ⟨n0, r, none⟩ })
    (w.set (FLUX_STATUS_TEMPLATE t e) m).inc (FLUX_STARTS t e)

/-- R92: a STOP takes effect at a flux engine. -/
def fluxStop (w : Work σ) (t e : Nat) (h : HeldEntry) : Work σ :=
  match (w.flux t e).pulse with
  | none => w
  | some p =>
    let n := h.entry.instant (16 + e)
    if tplHold p.rec_ ∧ p.stop = none ∧ fluxInSpan p n then
      (fillFlux w t e (h.entry.slot / 8)).updFlux t e (fun x => { x with pulse := some { p with stop := some n } })
    else w

/-- R94: one parameter group of a flux engine applied. -/
def fluxGroup (w : Work σ) (t e : Nat) (en : Entry) : Work σ :=
  let g := en.body % 256
  let v := en.body / 256
  if g = 0 then (w.set (FLUX_DC t e) v).set (FLUX_DC_DUE t e) 0
  else if g = 1 then fluxDcAdd w t e (sext 16 v)
  else if g = 0x10 then
    (w.set (FLUX_TPL t e (v % 128) 0) (bits v 7 32)).set (FLUX_TPL t e (v % 128) 1) (bits v 39 32)
  else if g = 0x11 then
    (w.set (FLUX_TPL t e (v % 128) 2) (bits v 7 32)).set (FLUX_TPL t e (v % 128) 3) (bits v 39 32)
  else w

/-- R53: the groups of a PARAM unit applied together at its stamp. A span that ends at the stamp ends first. -/
def fluxParams (w : Work σ) (t e : Nat) (hs : List HeldEntry) : Work σ :=
  match hs.head? with
  | none => w
  | some h =>
    let w := fluxEndIfOver w t e (h.entry.instant (16 + e))
    let w := fillFlux w t e (h.entry.slot / 8)
    w.each hs (fun w x => fluxGroup w t e x.entry)

/-! ## Predistortion (R96 to R98) -/

/-- R98: a value saturated to Q4.20, with whether it was. -/
def satQ (v : Int) : Int × Bool := (satS 24 v, overS 24 v)

/-- R96, R481: one section at one input sample: its new state, its output, and whether anything saturated. A section that
starts takes its state from its first input. -/
def iirStep (alpha : Nat) (k : Int) (u : Option Int) (v : Int) : Int × Int × Bool :=
  let vq := v * 2 ^ 24
  let u0 := match u with | some x => x | none => vq
  let u1 := roundAway (u0 * 2 ^ 32 + (alpha : Int) * (vq - u0)) 32
  let us := satS 48 u1
  let (o, s) := satQ (roundAway (vq * 2 ^ 23 + k * (us - vq)) 47)
  (us, o, s || overS 48 u1)

/-- R96: the eight sections in order: their states, the output, and whether anything saturated. A disabled section passes
its input and holds no state. -/
def iirChain (w : Work σ) (t e : Nat) : Nat → List (Option Int) → Int → List (Option Int) × Int × Bool
  | _, [], v => ([], v, false)
  | i, u :: us, v =>
    if w.on (FLUX_IIR_K_EN t e i) then
      let (u1, o, s) := iirStep (w.get (FLUX_IIR_ALPHA t e i)) (sext 24 (w.get (FLUX_IIR_K_K t e i))) u v
      let (r, y, s') := iirChain w t e (i + 1) us o
      (some u1 :: r, y, s || s')
    else
      let (r, y, s') := iirChain w t e (i + 1) us v
      (none :: r, y, s')

/-- R97: tap j of the FIR in force at frame f. -/
def firTap (w : Work σ) (t e f j : Nat) : Int :=
  sext 16 (coefAt w t f (if j % 2 = 0 then FLUX_FIR_TAP_LO t e (j / 2) else FLUX_FIR_TAP_HI t e (j / 2)))

/-- R97, R481: y at the position whose newest needed input is entry back of w. -/
def firOut (w : Work σ) (t e f back : Nat) : Int × Bool :=
  let x := (w.flux t e).w
  satQ (roundAway ((List.range 32).foldl (fun acc j => acc + firTap w t e f j * x.getD (back + j) 0) 0) 14)

/-- Whether a chain's whole history is zero, so that its output is zero and its sections keep the states they have. -/
def fluxSilent (w : Work σ) (t e : Nat) : Bool :=
  let x := w.flux t e
  x.w.isEmpty && x.u.zipIdx.all (fun u => decide (u.1 = if w.on (FLUX_IIR_K_EN t e u.2) then some 0 else none))

/-- R96, R97: one sample goes through an engine's sections and joins the samples of its FIR. -/
def fluxSample (w : Work σ) (t e : Nat) (v : Int) : Work σ :=
  let x := w.flux t e
  let (u, o, s) := iirChain w t e 0 x.u v
  let line := (o :: x.w).take 33
  let w := w.updFlux t e (fun x => { x with u := u, w := if line.all (fun z => decide (z = 0)) then [] else line })
  if s then w.set (FLUX_CLIP_STICKY t e) 1 else w

/-- R89, R96: the samples of the frame that ends go through an engine's sections. -/
def fluxFrame (w : Work σ) (t e : Nat) : Work σ :=
  let w := fluxEndIfOver w t e (w.now * 2 + 2)
  let w := fillFlux w t e 2
  let x := w.flux t e
  if x.part = [0, 0] ∧ fluxSilent w t e then w.updFlux t e (fun x => { x with part := [] })
  else
    x.part.foldl (fun w v => fluxSample w t e v) (w.updFlux t e (fun x => { x with part := [] }))

/-- R99: element M[i][j] in force at frame f. -/
def xtM (w : Work σ) (t f i j : Nat) : Int :=
  sext 16 (coefAt w t f (if j % 2 = 0 then FLUX_XT_M_LO t i (j / 2) else FLUX_XT_M_HI t i (j / 2)))

/-- R99, R101, R481: the 16-bit code of line i from the eight streams, with whether anything saturated. -/
def lineCode (w : Work σ) (t f i : Nat) (ys : List Int) : Int × Bool :=
  let z := satQ (roundAway ((List.range 8).foldl (fun acc j => acc + xtM w t f i j * ys.getD j 0) 0) 14)
  let c := roundAway z.1 5
  (satS 16 c, z.2 || overS 16 c)

/-- R97 to R101: the output frame of a tile's flux lines: the frame that lies four before the one that ends, whose FIR
lead is complete (R40). f is its number in frame ticks. -/
def fluxOut (w : Work σ) (t f : Nat) : Work σ :=
  if (List.range 8).all (fun e => (w.flux t e).w.isEmpty) then
    w.updTile t (fun x => { x with fluxLine := x.fluxLine.map (fun l =>
      let l := ([] :: l).take 4
      if l.all List.isEmpty then [] else l) })
  else
    let ys := (List.range 2).map (fun h => (List.range 8).map (fun e => firOut w t e f (1 - h)))
    let w := w.each (List.range 8) (fun w e =>
      if ys.any (fun y => (y.getD e (0, false)).2) then w.set (FLUX_CLIP_STICKY t e) 1 else w)
    w.each (List.range 8) (fun w b =>
      let i := coefAt w t f (FLUX_ROUTE_BALL t b)
      let cs := ys.map (fun y => lineCode w t f i (y.map Prod.fst))
      let clip := cs.any (fun c => c.2)
      let w := if clip then (w.set (FLUX_CLIP_STICKY t i) 1).inc (FLUX_CLIP_COUNT t i) else w
      let codes := if coefAt w t f (FLUX_OUT t i) = 1 then cs.map Prod.fst else []
      w.updTile t (fun x => { x with fluxLine := vset x.fluxLine b ((codes :: vget x.fluxLine [] b).take 4) }))

/-- R37: one sample more of a tile's flux stream in the interval that an accepted edge's shift of the grid has made longer: each engine
presents its DC, and the chains and the matrix take the sample as any other. -/
def fluxExtra (w : Work σ) (t f : Nat) : Work σ :=
  if (List.range 8).all (fun e => fluxSilent w t e && decide (fluxX w t e none 0 = 0)) then w
  else
    let w := w.each (List.range 8) (fun w e => fluxSample w t e (fluxX w t e none 0))
    let ys := (List.range 8).map (fun e => firOut w t e f 0)
    let w := w.each (List.range 8) (fun w e => if (ys.getD e (0, false)).2 then w.set (FLUX_CLIP_STICKY t e) 1 else w)
    w.each (List.range 8) (fun w b =>
      let i := coefAt w t f (FLUX_ROUTE_BALL t b)
      let c := lineCode w t f i (ys.map Prod.fst)
      let w := if c.2 then (w.set (FLUX_CLIP_STICKY t i) 1).inc (FLUX_CLIP_COUNT t i) else w
      let code := if coefAt w t f (FLUX_OUT t i) = 1 then c.1 else 0
      w.updTile t (fun x => { x with fluxLine := vset x.fluxLine b (match vget x.fluxLine [] b with
        | [] => []
        | l :: ls => (if l = [] ∧ code = 0 then [] else (if l = [] then [0, 0] else l) ++ [code]) :: ls) }))

/-- The codes at the flux balls of a tile in the frame that begins (R40: 8 frames after the stamp), each with the line that the
route of its frame put on the ball (R103). -/
def fluxPins (w : Work σ) (t : Nat) : Work σ :=
  w.each (List.range 8) (fun w b =>
    let i := coefAt w t (w.dev.ticks - 8) (FLUX_ROUTE_BALL t b)
    match (vget (w.tile t).fluxLine [] b).getD 3 [] with
    | [] => if w.on (FLUX_LAST t i) then w.set (FLUX_LAST t i) 0 else w
    | codes =>
      (w.set (FLUX_LAST t i) (toField 16 (codes.getLastD 0))).emit (.fluxCodes t b codes))

end Sys2Proof.Machine
end

