-- ==== Sys2Proof/Machine/Decision.lean ====
section
/-! DEFINITION. The decision broadcast (R159 to R187): slots, watchers, staged groups, table contexts, tokens. -/

namespace Sys2Proof.Machine

variable {σ : State}

/-! ## Slots and tokens -/

/-- The content of slot n (R159). -/
def slotGet (w : Work σ) (n : Nat) : SlotC where
  valid := w.on (DECB_SLOT_VALID n)
  state := w.get (DECB_SLOT_STATE n)
  amb := w.on (DECB_SLOT_AMB n)
  ovr := w.on (DECB_SLOT_OVR n)
  leak := w.on (DECB_SLOT_LEAK n)
  round := w.get (DECB_SLOT_ROUND n)

/-- R160: a slot's whole content replaced. -/
def slotSet (w : Work σ) (n : Nat) (c : SlotC) : Work σ :=
  let w := ((w.setB (DECB_SLOT_VALID n) c.valid).set (DECB_SLOT_STATE n) c.state).setB (DECB_SLOT_AMB n) c.amb
  ((w.setB (DECB_SLOT_OVR n) c.ovr).setB (DECB_SLOT_LEAK n) c.leak).set (DECB_SLOT_ROUND n) c.round

/-- The CRC-4 of R181 over the low n bits of v, bit 0 first. -/
def crc4 : Nat → Nat → Nat → Nat
  | 0, _, c => c
  | n + 1, v, c => crc4 n (v / 2) (crcBit 4 0x3 c (v % 2 == 1))

/-- R181: the 23 bits of a token. -/
def tokenOf (slot : Nat) (c : SlotC) : Nat :=
  let low := slot % 512 + b2n c.valid * 2 ^ 9 + c.state % 4 * 2 ^ 10 + b2n c.amb * 2 ^ 12 + b2n c.ovr * 2 ^ 13
    + b2n c.leak * 2 ^ 14 + c.round % 16 * 2 ^ 15
  low + crc4 19 low 0 * 2 ^ 19

/-- R181: whether a token's check holds. -/
def tokenOk (k : Nat) : Bool := decide (bits k 19 4 = crc4 19 (k % 2 ^ 19) 0)

/-- R181: the slot content that a token carries. -/
def tokenContent (k : Nat) : SlotC := ⟨bit k 9, bits k 10 2, bit k 12, bit k 13, bit k 14, bits k 15 4⟩

/-- R180: the tokens that publications have for link l, in the order of the publications and of the entries of DECB.EXPORT. -/
def exportTokens (w : Work σ) (l : Nat) (ps : List (Nat × SlotC)) : List Nat :=
  ps.flatMap (fun p => ((List.range 64).filter (fun i => w.on (DECB_EXPORT_EN i) && decide (w.get (DECB_EXPORT_SLOT i) = p.1) &&
    decide (w.get (DECB_EXPORT_LINK i) = l))).map (fun _ => tokenOf p.1 p.2))

/-- R180, R363: publications made together on exported slots send their tokens on each link, two to a block as they became ready, or
count them as unsent. [note 157: DESIGN CHOICE] -/
def exportSlot (w : Work σ) (ps : List (Nat × SlotC)) : Work σ :=
  w.each (List.range 32) (fun w l =>
    let tokens := exportTokens w l ps
    if linkLive w l then w.each (c0Blocks tokens) (fun w b => sendCopies w l b)
    else if tokens = [] then w
    else w.add (LINK_COUNT1_C0_UNSENT l) tokens.length)

/-! ## Watchers (R162 to R166) -/

/-- R162: a key bit of a slot's content under a selector. -/
def keyBit (sel : Nat) (c : SlotC) : Bool :=
  if sel = 0 then bit c.state 0
  else if sel = 1 then bit c.state 1
  else if sel = 2 then decide (c.state ≠ 0)
  else c.leak

def Work.watch (w : Work σ) (t d : Nat) : Watch := vget (w.tile t).watch Watch.reset d

def Work.updWatch (w : Work σ) (t d : Nat) (f : Watch → Watch) : Work σ :=
  w.updTile t (fun x => { x with watch := vset x.watch d (f (vget x.watch Watch.reset d)) })

/-- The enabled key bits of a watcher. -/
def watchKeys (w : Work σ) (t d : Nat) : List Nat := (List.range 4).filter (fun i => w.on (WATCH_KEY_EN t d i))

/-- R163: the key bits whose slots show their expected rounds are captured. -/
def watchCapture (w : Work σ) (t d : Nat) : Work σ :=
  w.each (watchKeys w t d) (fun w i =>
    let c := slotGet w (w.get (WATCH_KEY_SLOT t d i))
    if !w.on (WATCH_KEY_CAPTURED t d i) ∧ c.valid ∧ c.round = w.get (WATCH_KEY_EXPECT t d i) then
      (w.set (WATCH_KEY_CAPTURED t d i) 1).updWatch t d (fun x => { x with capt := x.capt.set i (some c) })
    else w)

/-- R163: the option of a watcher whose key bits are all captured, and whether the flag override gave it. -/
def watchOption (w : Work σ) (t d : Nat) : Nat × Bool :=
  let capt := (w.watch t d).capt
  let cs := (watchKeys w t d).map (fun i => ((capt.getD i none).getD SlotC.reset))
  let key := (watchKeys w t d).foldl (fun k i =>
    k + (if keyBit (w.get (WATCH_KEY_SEL t d i)) ((capt.getD i none).getD SlotC.reset) then 2 ^ i else 0)) 0
  if (w.on (WATCH_CFG_FLAG_ON_OVR t d) ∧ cs.any (fun c => c.ovr)) ∨
      (w.on (WATCH_CFG_FLAG_ON_AMB t d) ∧ cs.any (fun c => c.amb)) then
    (w.get (WATCH_CFG_FLAG_OPT t d), true)
  else (w.get (WATCH_MAP_OPT t d key), false)

/-- R168: a group at a clasp keeps the alternative of an option. [note 29: DEDUCED] -/
def selectGroup (w : Work σ) (t c : Nat) (es : List HeldEntry) (opt : Option Nat) : Work σ :=
  let keep := es.filter (fun h => decide (some h.entry.opt = opt))
  let gone := es.filter (fun h => decide (some h.entry.opt ≠ opt))
  let w := w.updClasp t c (fun k => { k with items := k.items.flatMap (fun i =>
    if i = .group es then keep.map Item.one else [i]) })
  dropPages w t gone

/-- Whether an arming of watcher d that has not taken effect yet will have done so by frame f. -/
def armingBy (w : Work σ) (t d f : Nat) : Bool := (w.tile t).arms.any (fun a => decide (a.did = d) && decide (a.due ≤ f))

/-- R320: whether a commit that is pending changes watcher d of tile t by frame f. -/
def commitBy (w : Work σ) (t d f : Nat) : Bool :=
  decide (w.get LOADER_STATE_STATE = 2) && !w.dev.loader.awaitEdge && decide (w.get LOADER_P ≤ f) &&
    w.dev.loader.shadows.any (fun s => decide (tileBase t + 0x6800 + 0x20 * d ≤ s.1.addr) &&
      decide (s.1.addr < tileBase t + 0x6800 + 0x20 * d + 0x20))

/-- R168: whether the arming in force at the frame of a group is known to be the one that has resolved: no arming that has been passed
takes effect by then, no word of the program can pass one any more, and no commit changes the watcher. [note 143: DEDUCED] -/
def selectable (w : Work σ) (t : Nat) (h : HeldEntry) : Bool :=
  let d := h.entry.did
  w.on (WATCH_STATUS_RESOLVED t d) && decide (w.now < h.entry.stamp) && decide (h.entry.stamp < (w.tile t).seq.cursor) &&
    !armingBy w t d h.entry.stamp && !commitBy w t d h.entry.stamp

/-- R168: the groups that tile t holds and that can be selected are, each on time (R169). -/
def selectEarly (w : Work σ) (t : Nat) : Work σ :=
  w.each (List.range 33) (fun w c =>
    w.each ((w.clasp t c).items.filter (fun i => match i with | .group _ => true | _ => false)) (fun w i =>
      match i.members with
      | h :: es =>
        if selectable w t h then
          (selectGroup w t c (h :: es) (some (w.get (WATCH_STATUS_OPTION t h.entry.did)))).inc (FB_COUNT_GROUPS t)
        else w
      | [] => w))

/-- PAGE_WAIT_LATE (R73). -/
def execPageWaitLate (t : Fin 32) (e : Fin 16) (s : State) : Host.Outcome State Fault Refusal :=
  run (fun w => pageWaitLate w t e) s

/-- R163: an armed watcher captures what it can and resolves when every enabled key bit is captured. -/
def watchEval (w : Work σ) (t d : Nat) : Work σ :=
  if !(w.watch t d).armed then w
  else
    let w := watchCapture w t d
    let ks := watchKeys w t d
    if !w.on (WATCH_STATUS_RESOLVED t d) ∧ ks ≠ [] ∧ ks.all (fun i => w.on (WATCH_KEY_CAPTURED t d i)) then
      let (o, f) := watchOption w t d
      selectEarly ((((w.set (WATCH_STATUS_RESOLVED t d) 1).set (WATCH_STATUS_OPTION t d) o).setB (WATCH_STATUS_FLAGGED t d)
        f).updWatch t d (fun x => { x with resAt := w.now })) t
    else w

/-- Every capture and the resolution of a watcher cleared (R164, R166, R320). -/
def watchClear (w : Work σ) (t d : Nat) : Work σ :=
  let w := w.each (List.range 4) (fun w i => w.set (WATCH_KEY_CAPTURED t d i) 0)
  let w := ((w.set (WATCH_STATUS_RESOLVED t d) 0).set (WATCH_STATUS_OPTION t d) 0).set (WATCH_STATUS_FLAGGED t d) 0
  w.updWatch t d (fun x => { x with capt := List.replicate 4 none, resAt := 0 })

/-- Every watcher that has a key bit on slot n evaluated. -/
def watchersSee (w : Work σ) (n : Nat) : Work σ :=
  w.each (List.range 32) (fun w t => w.each (List.range 16) (fun w d =>
    if (w.watch t d).armed ∧ (watchKeys w t d).any (fun i => decide (w.get (WATCH_KEY_SLOT t d i) = n)) then
      watchEval w t d else w))

/-! ## Late decisions (R165, R169, R171) -/

/-- R165, R169, R171: a late decision is counted, recorded when FB.FIRST_LATE is free, and fires tile source 5. Causes:
0 GROUP, 1 FENCE, 2 ARM. [notes 2: DESIGN CHOICE, 19: DEDUCED] -/
def lateDecision (w : Work σ) (t cause clasp did stamp : Nat) : Work σ :=
  let w := w.inc (FB_COUNT_LATE t)
  let w := if w.on (FB_FIRST_LATE_VALID t) then w else
    let w := ((w.set (FB_FIRST_LATE_VALID t) 1).set (FB_FIRST_LATE_CAUSE t) cause).set (FB_FIRST_LATE_CLASP t) clasp
    ((w.set (FB_FIRST_LATE_DID t) did).set (FB_FIRST_LATE_STAMP_LO t) stamp).set (FB_FIRST_LATE_STAMP_HI t)
      (stamp / 2 ^ 32)
  w.fire (tileSrc t 5)

/-- R169: the arming in force of watcher d has resolved while TL was at most S − 1. -/
def onTime (w : Work σ) (t d stamp : Nat) : Bool := w.on (WATCH_STATUS_RESOLVED t d) && decide ((w.watch t d).resAt < stamp)

/-- R168, R169: the judgement of one group at the boundary of its frame: the option of the watcher that has resolved before,
else its late policy. -/
def judgeGroup (w : Work σ) (t c : Nat) (es : List HeldEntry) : Work σ :=
  match es.head? with
  | none => w
  | some h =>
    let d := h.entry.did
    if onTime w t d h.entry.stamp then
      (selectGroup w t c es (some (w.get (WATCH_STATUS_OPTION t d)))).inc (FB_COUNT_GROUPS t)
    else
      let w := selectGroup w t c es (if w.on (WATCH_CFG_LATE_POL t d) then none else some 0)
      lateDecision (w.inc (WATCH_STATUS_LATE t d)) t 0 c d h.entry.stamp

/-- The groups of a clasp whose frame has begun, judged. -/
def judgeClasp (w : Work σ) (t c : Nat) : Work σ :=
  w.each (w.clasp t c).items (fun w i =>
    match i with
    | .group es => if i.stamp ≤ w.now then judgeGroup w t c es else w
    | _ => w)

/-- LATE_POLICY (R169). -/
def execLatePolicy (t : Fin 32) (c : Fin 33) (s : State) : Host.Outcome State Fault Refusal :=
  run (fun w => judgeClasp w t c) s

/-! ## Armings (R164, R165) -/

/-- R164, R165: the sequencer passes an arming to the watcher block. -/
def passArming (w : Work σ) (t did : Nat) (next : Bool) (count stamp : Nat) : Work σ :=
  let late := decide (stamp < w.now + 12)
  let due := if late then max stamp (w.now + 1) else stamp
  w.updTile t (fun x => { x with arms := x.arms ++ [⟨did, next, count, stamp, due, late⟩] })

/-- R164: an arming takes effect. -/
def armWatcher (w : Work σ) (t : Nat) (a : Arming) : Work σ :=
  let d := a.did
  let w := w.each (watchKeys w t d) (fun w i =>
    w.set (WATCH_KEY_EXPECT t d i)
      (if a.next then w.get (DECB_SLOT_ROUND (w.get (WATCH_KEY_SLOT t d i))) + 1
       else w.get (WATCH_KEY_EXPECT t d i) + a.count))
  let w := ((watchClear w t d).set (WATCH_STATUS_FENCE_LATE t d) 0).updWatch t d (fun x => { x with armed := true })
  watchEval w t d

/-- R164, R165: the armings of a tile whose boundary has come take effect in order; one that arrived late counts, is recorded and fires
then. [notes 19: DEDUCED, 163: DESIGN CHOICE] -/
def armingEffect (w : Work σ) (t : Nat) : Work σ :=
  let due := (w.tile t).arms.filter (fun a => a.due ≤ w.now)
  let w := w.updTile t (fun x => { x with arms := x.arms.filter (fun a => !decide (a.due ≤ w.now)) })
  w.each due (fun w a =>
    let w := if a.late then lateDecision w t 2 63 a.did a.stamp else w
    armWatcher w t a)

/-- ARMING_EFFECT (R164). -/
def execArmingEffect (t : Fin 32) (s : State) : Host.Outcome State Fault Refusal :=
  run (fun w => armingEffect w t) s

/-! ## Table contexts (R176 to R178) -/

def ctxIx (u c : Nat) : Nat := u * 2 + c

def Work.ctx (w : Work σ) (u c : Nat) : TableCtx := vget w.dev.tables TableCtx.reset (ctxIx u c)

def Work.updCtx (w : Work σ) (u c : Nat) (f : TableCtx → TableCtx) : Work σ :=
  { w with dev := { w.dev with tables := vset w.dev.tables (ctxIx u c) (f (vget w.dev.tables TableCtx.reset (ctxIx u c))) } }

/-- The enabled key bits of a context. -/
def ctxKeys (w : Work σ) (u c : Nat) : List Nat :=
  if w.on (TABLE_CTX_CFG_EN u c) then (List.range 22).filter (fun i => w.on (TABLE_CTX_KEYSEL_EN u c i)) else []

def ctxSlot (w : Work σ) (u c i : Nat) : SlotC := slotGet w (w.get (TABLE_CTX_KEYSEL_SLOT u c i))

/-- R177, R178: the round that a lookup publishes: the context's next one, or that of before a commit. -/
def lookupRound (w : Work σ) (u c : Nat) (k : Lookup) : Nat := k.round.getD ((w.get (TABLE_CTX_STATUS_ROUND u c) + 1) % 16)

/-- The four publications of a context with its next ROUND (R178), from a table word, or with VALID = 0 and every other field 0.
[note 163: DESIGN CHOICE] -/
def ctxPublications (w : Work σ) (u c : Nat) (word : Option Nat) (k : Lookup) : List (Nat × SlotC) :=
  let r := lookupRound w u c k
  (List.range 4).map (fun j =>
    (320 + 8 * u + 4 * c + j,
      match word with
      | some v =>
        let f := bits v (9 * j) 9
        ⟨bit f 0, bits f 1 2, bit f 3 || k.amb, k.ovr, k.leak, r⟩
      | none => ⟨false, 0, false, false, false, r⟩))

/-- R177: each LAST_i takes the round its slot shows, and every capture made so far is dropped. [note 163: DESIGN CHOICE] -/
def ctxResync (w : Work σ) (u c : Nat) : Work σ :=
  let shown := (List.range 22).map (fun i =>
    if (ctxKeys w u c).contains i then (ctxSlot w u c i).round else (w.ctx u c).last.getD i 0)
  w.updCtx u c (fun x => { x with last := shown, capt := List.replicate 22 none, firstAt := none })

/-- R177: a round abandoned: its publications. -/
def ctxAbandon (w : Work σ) (u c : Nat) : List (Nat × SlotC) × Work σ :=
  let pubs := ctxPublications w u c none ⟨0, false, false, false, none⟩
  let w := (ctxResync w u c).set (TABLE_CTX_STATUS_ROUND u c) (w.get (TABLE_CTX_STATUS_ROUND u c) + 1)
  (pubs, w.inc (TABLE_CTX_COUNT_ABANDONED u c))

/-- R177: a lookup launched once every enabled key bit is captured. -/
def ctxLaunch (w : Work σ) (u c : Nat) : Work σ :=
  let ks := ctxKeys w u c
  let x := w.ctx u c
  let content := fun i => (x.capt.getD i none).getD SlotC.reset
  let key := ks.foldl (fun k i => k + (if keyBit (w.get (TABLE_CTX_KEYSEL_SEL u c i)) (content i) then 2 ^ i else 0)) 0
  let look : Lookup := ⟨w.get (TABLE_CTX_CFG_REGION u c) * 2 ^ 22 + key, ks.any (fun i => (content i).amb),
    ks.any (fun i => (content i).ovr), ks.any (fun i => (content i).leak), none⟩
  let last := (List.range 22).map (fun i => if ks.contains i then (content i).round else x.last.getD i 0)
  let w := w.updCtx u c (fun x => { x with
    last := last, capt := List.replicate 22 none, firstAt := none, lookups := x.lookups ++ [look] })
  (w.set (TABLE_CTX_STATUS_LAST_KEY u c) key).inc (TABLE_CTX_COUNT_LOOKUPS u c)

/-- R177: a context sees the slots: it captures, launches, or abandons the round. -/
def ctxSee (w : Work σ) (u c : Nat) : List (Nat × SlotC) × Work σ :=
  let ks := ctxKeys w u c
  let x := w.ctx u c
  let unexpected := ks.any (fun i =>
    let s := ctxSlot w u c i
    s.valid && decide (s.round ≠ x.last.getD i 0) && decide (s.round ≠ (x.last.getD i 0 + 1) % 16))
  if unexpected then ctxAbandon w u c
  else
    let w := w.each ks (fun w i =>
      let s := ctxSlot w u c i
      if s.valid ∧ s.round = (x.last.getD i 0 + 1) % 16 ∧ (w.ctx u c).capt.getD i none = none then
        w.updCtx u c (fun x => { x with
          capt := x.capt.set i (some s)
          firstAt := match x.firstAt with | some f => some f | none => some w.dev.ticks })
      else w)
    if ks ≠ [] ∧ ks.all (fun i => ((w.ctx u c).capt.getD i none).isSome) then ([], ctxLaunch w u c)
    else ([], w)

/-- R160: one publication as the slots and the watchers see it. -/
def publishOne (w : Work σ) (n : Nat) (c : SlotC) : Work σ := watchersSee (slotSet w n c) n

/-- R160, R180: publications made together as everything but the table contexts sees them. -/
def publishAll (w : Work σ) (ps : List (Nat × SlotC)) : Work σ := (exportSlot w ps).each ps (fun w p => publishOne w p.1 p.2)

/-- The four contexts see the slots in turn; what they publish in doing so is published, and seen in turn. -/
def tablesSee : Nat → Work σ → Work σ
  | 0, w => w
  | n + 1, w =>
    let r := [(0, 0), (0, 1), (1, 0), (1, 1)].foldl (fun (a : List (Nat × SlotC) × Work σ) uc =>
      let (p, w) := ctxSee a.2 uc.1 uc.2
      (a.1 ++ p, w)) ([], w)
    if r.1 = [] then r.2 else tablesSee n (publishAll r.2 r.1)

/-- R160, R163, R177, R180: publications seen by every watcher and every table context, and exported. -/
def publish (w : Work σ) (ps : List (Nat × SlotC)) : Work σ :=
  tablesSee 8 (publishAll w ps)

/-- R160: every slot reset, as at the acceptance of an EPOCH edge; R177: contexts reset with them. -/
def slotsReset (w : Work σ) : Work σ :=
  let w := w.each (List.range 336) (fun w n => slotSet w n SlotC.reset)
  w.each [(0, 0), (0, 1), (1, 0), (1, 1)] (fun w uc =>
    (w.updCtx uc.1 uc.2 (fun _ => TableCtx.reset)).set (TABLE_CTX_STATUS_ROUND uc.1 uc.2) 0)

/-- The register block of QDR port u counts and records a failure, and fires its source; an access beyond the installed locations
counts in RANGE in place of PARITY (R401, R402). -/
def qdrFailure (w : Work σ) (u cls loc : Nat) (range : Bool) : Work σ :=
  let w := w.inc (if range then QDR_ERR_RANGE u else QDR_ERR_PARITY u)
  let w := if w.on (QDR_LAST_ERR_VALID u) then w else
    ((w.set (QDR_LAST_ERR_VALID u) 1).set (QDR_LAST_ERR_CLASS u) cls).set (QDR_LAST_ERR_LOCATION u) loc
  w.fire (482 + u)

/-- R402: locations installed on QDR port u. -/
def qdrCapacity (w : Work σ) (u : Nat) : Nat := 2 ^ w.get (QDR_CFG_CAP_LOG2 u)

/-- R404: QDR port u is READY. -/
def qdrReady (w : Work σ) (u : Nat) : Bool := decide (w.get (QDR_STATUS u) = 2)

/-- R178, R401, R402: the oldest lookup of a context returns its word, or none, and its slots are published.
[notes 101: DEDUCED, 135: DEDUCED] -/
def lookupReturn (w : Work σ) (u c : Nat) (parityOk : Bool) (waitPs : Nat) : Work σ :=
  match (w.ctx u c).lookups with
  | [] => w
  | k :: ks =>
    let loc := k.loc
    let beyond := decide (qdrCapacity w u ≤ loc)
    let ready := qdrReady w u
    let w := w.updCtx u c (fun x => { x with lookups := ks })
    let w := if w.get (QDR_C0WAIT u) < waitPs then w.set (QDR_C0WAIT u) (min waitPs 0xFFFF) else w
    let ok := ready && !beyond && parityOk
    let w := if ready && beyond then qdrFailure w u 0 loc true
      else if ready && !parityOk then qdrFailure w u 0 loc false else w
    let pubs := ctxPublications w u c (if ok then some (w.rdLe (qdrBase u + 8 * loc) 4) else none) k
    let w := if ok then w else w.inc (TABLE_CTX_COUNT_PARITY u c)
    publish (if k.round = none then w.set (TABLE_CTX_STATUS_ROUND u c) (lookupRound w u c k) else w) pubs

/-- LOOKUP_RETURN (R178). -/
def execLookupReturn (u c : Fin 2) (parityOk : Bool) (waitPs : Nat) (s : State) : Host.Outcome State Fault Refusal :=
  run (fun w => lookupReturn w u c parityOk waitPs) s

/-- R177: TMO frames have passed since the first capture of a round without a launch. -/
def tableTimeout (w : Work σ) (u c : Nat) : Work σ :=
  match (w.ctx u c).firstAt with
  | none => w
  | some f =>
    let tmo := w.get (TABLE_CTX_CFG_TMO u c)
    if tmo ≠ 0 ∧ f + tmo ≤ w.dev.ticks then
      let (p, w) := ctxAbandon w u c
      publish w p
    else w

/-- TABLE_TIMEOUT (R177). -/
def execTableTimeout (u c : Fin 2) (s : State) : Host.Outcome State Fault Refusal :=
  run (fun w => tableTimeout w u c) s

/-- A write of 1 to CTRL.RESYNC (R177): the rounds are taken as the slots show them, without publishing. -/
def tableResync (w : Work σ) (u c : Nat) : Work σ := tablesSee 8 (ctxResync w u c)

/-- TABLE_RESYNC (R177). -/
def execTableResync (u c : Fin 2) (s : State) : Host.Outcome State Fault Refusal :=
  run (fun w => tableResync w u c) s

/-! ## Tokens that arrive (R182, R363) -/

/-- R180, R182: a good token lands in every remote slot that names its link and source slot. -/
def tokenLand (w : Work σ) (l token : Nat) : Work σ :=
  let hits := (List.range 64).filter (fun r =>
    w.on (DECB_REMOTE_EN r) && decide (w.get (DECB_REMOTE_LINK r) = l) && decide (w.get (DECB_REMOTE_SLOT r) = token % 512))
  if hits = [] then w.inc (DECB_LINK_UNMAPPED l)
  else publish w (hits.map (fun r => (256 + r, tokenContent token)))

/-- R363: whether the CRC-8 of a C0 block over its bits [9:0] holds and its TYPE is C0. -/
def c0Ok (b : Nat) : Bool := decide (b % 256 = 0x4B) && decide (bits b 56 8 = crc8Lsb 10 (b % 2 ^ 10) 0)

/-- R182: the copies of one token, in the order they came: the first good one lands, bad ones are counted, and a token
without a good copy is counted in NOGOOD. [note 134: DEDUCED] -/
def tokenCopies (w : Work σ) (l : Nat) (copies : List Nat) : Work σ :=
  if copies = [] then w
  else
    let bad := copies.filter (fun k => !tokenOk k)
    let w := w.add (DECB_LINK_CHECK_ERR l) bad.length
    match copies.find? tokenOk with
    | some k => tokenLand w l k
    | none => w.inc (DECB_LINK_NOGOOD l)

/-- R182, R361, R363: the copies of a C0 block received on the lanes of a link. A copy whose block check fails is discarded
and counted in CRC_ERR. [note 134: DEDUCED] -/
def c0Receive (w : Work σ) (l : Nat) (copies : List Nat) : Work σ :=
  let good := copies.filter c0Ok
  let w := w.add (LINK_COUNT0_CRC_ERR l) (copies.length - good.length)
  let w := tokenCopies w l ((good.filter (fun b => bit b 8)).map (fun b => bits b 10 23))
  tokenCopies w l ((good.filter (fun b => bit b 9)).map (fun b => bits b 33 23))

/-- C0_BLOCK (R363). -/
def execC0Block (l : Fin 32) (copies : List (Fin 4 × BitVec 64)) (s : State) : Host.Outcome State Fault Refusal :=
  run (fun w => c0Receive w l (upCopies w l copies)) s

/-- PAGE_FETCH_DONE (R74, R401, R402): each of the 512 locations of a page that the device reports, or that lies beyond the installed
ones, is a failure of its own; with none the page is in its buffer. bad: the locations of the page that the device reports. -/
def pageFetchEnd (w : Work σ) (t buf : Nat) (bad : List Nat) : Work σ :=
  match (w.tile t).pages.find? (fun b => b.buf = buf) with
  | none => w
  | some b =>
    if b.done.isSome then w
    else
      let u := b.page / 65536
      let loc := b.page % 65536 * 512
      let beyond := fun j => decide (qdrCapacity w u ≤ loc + j)
      let failed := (List.range 512).filter (fun j => beyond j || bad.contains j)
      pageFetchDone (w.each failed (fun w j => qdrFailure w u 1 (loc + j) (beyond j))) t buf (decide (failed = []))

/-- PAGE_FETCH_DONE (R74). -/
def execPageFetchDone (t : Fin 32) (buf : Fin 16) (bad : List (Fin 512)) (s : State) : Host.Outcome State Fault Refusal :=
  run (fun w => pageFetchEnd w t buf (bad.map Fin.val)) s

end Sys2Proof.Machine
end

