-- ==== Sys2Proof/Machine/Readout.lean ====
section
/-! DEFINITION. Readout (R106 to R128, R156 to R158): ADC frames, demodulation, windows, integration, results, facets. -/

namespace Sys2Proof.Machine

variable {σ : State}

/-! ## Demodulation (R108 to R110) -/

/-- R108: the reference phase word of ADC sample k of frame f. -/
def refPhase (fw vz : Nat) (f : Int) (k : Nat) : Nat :=
  let n : Int := 160 * f + 16 * k
  ((((fw : Int) * n) % (10 * 2 ^ 48) / (10 * 2 ^ 16) + vz) % 2 ^ 32).toNat

/-- R109: the frequency word and offset of PBk in force for ADC sample k of frame f at RD_IN: those kept at the earliest change by
PARAM entries after it, or the present ones. [note 150: DESIGN CHOICE] -/
def refWords (w : Work σ) (t k fsel : Nat) (f : Int) (i : Nat) : Nat × Nat :=
  match ((w.tile t).pbOld.filter (fun o => o.e = k ∧ (160 * f + 16 * (i : Int)) < (o.n : Int) * 10)).getLast? with
  | some o => (o.fw.getD fsel 0, o.vz.getD fsel 0)
  | none => (freqWord w t (8 + k) fsel, w.get (TONE_VZ t (8 + k) fsel))

/-- R110: d(F) of channel k for a frame of codes, raw Q1.15. [note 34: DESIGN CHOICE] -/
def demod (w : Work σ) (t k fsel : Nat) (f : Int) (codes : List Int) : Int × Int :=
  if codes.all (fun c => decide (c = 0)) then (0, 0)
  else
    let s := (List.range 10).foldl (fun (a : Int × Int) i =>
      let (fw, vz) := refWords w t k fsel f i
      let p := refPhase fw vz f i
      let c := codes.getD i 0
      (a.1 + c * cosTurn p, a.2 - c * sinTurn p)) (0, 0)
    (roundAway s.1 80, roundAway s.2 80)

/-- The ADC frame that lies 24 frames before the present one, which the demodulators give out now (R110). -/
def adcNow (w : Work σ) (t : Nat) : AdcFrame := (w.tile t).adc.getD 23 ⟨[], 0, false, false⟩

/-- R110, R125: d of the present frame for channel k under a reference; a dropped frame gives 0.
[note 34: DESIGN CHOICE] -/
def demodNow (w : Work σ) (t k fsel : Nat) : Int × Int :=
  let a := adcNow w t
  if a.lost then (0, 0) else demod w t k fsel ((w.now : Int) - 24) a.codes

/-! ## Descriptors and windows (R111 to R116) -/

def kdStart (a : Nat) : Nat := bits a 0 13
def kdMode (a : Nat) : Nat := bits a 13 2
def kdFsel (a : Nat) : Nat := bits a 15 2
def kdShift (a : Nat) : Nat := bits a 17 5
def kdLen (b : Nat) : Nat := bits b 0 20 + 1

/-- R112: a descriptor that a WINDOW may use. -/
def kdValid (a b : Nat) : Bool :=
  decide (a < 2 ^ 22) && decide (b < 2 ^ 20) && decide (kdMode a < 2) && decide (kdShift a ≤ 16) &&
    !(decide (kdMode a = 0) && decide (8192 < kdStart a + kdLen b))

def Work.win (w : Work σ) (t k : Nat) : Option Window := vget (w.tile t).win none k

def Work.setWin (w : Work σ) (t k : Nat) (x : Option Window) : Work σ :=
  w.updTile t (fun y => { y with win := vset y.win k x })

/-- The complete windows of channel k that wait for their presentation behind a later window (R125). -/
def lateOf (w : Work σ) (t k : Nat) : List Window := ((w.tile t).late.filter (fun x => x.1 = k)).map Prod.snd

/-- R114: a window of channel k is open: the present frame lies in it. -/
def winOpen (w : Work σ) (t k : Nat) : Bool :=
  match w.win t k with
  | some x => decide (w.now < x.start + kdLen x.kdB)
  | none => false

/-- R118: channel k is idle when no window is open and its clasp holds no entries. -/
def rdIdle (w : Work σ) (t k : Nat) : Bool := !winOpen w t k && decide ((w.clasp t (24 + k)).fill = 0)

/-- R115: kernel weight j of channel k: real and imaginary part, Q1.15. -/
def kernelWeight (w : Work σ) (t k j : Nat) : Int × Int :=
  let v := w.rdLe (tileBase t + 0xC0000 + k * 0x8000 + 4 * j) 4
  (sext 16 v, sext 16 (v / 65536))

/-- R116: a 48-bit accumulator advanced by a term; once it has clamped it holds. -/
def accAdd (acc term : Int) (hold : Bool) : Int × Bool :=
  if hold then (acc, true) else (satS 48 (acc + term), overS 48 (acc + term))

/-- R116: the term of one frame. -/
def winTerm (w : Work σ) (t k : Nat) (x : Window) (d : Int × Int) : Int × Int :=
  if kdMode x.kdA = 0 then
    let (a, b) := kernelWeight w t k (kdStart x.kdA + x.added)
    (a * d.1 - b * d.2, a * d.2 + b * d.1)
  else (d.1 * 2 ^ 15, d.2 * 2 ^ 15)

/-- R116, R122, R125: the open window of channel k integrates the present frame; behind its last frame the window is closed. -/
def integrate (w : Work σ) (t k : Nat) : Work σ :=
  match w.win t k with
  | none => w
  | some x =>
    if kdLen x.kdB ≤ x.added then w.set (RD_STATUS_OPEN t k) 0
    else
      let a := adcNow w t
      let term := winTerm w t k x (demodNow w t k (kdFsel x.kdA))
      let (i, hi) := accAdd x.accI term.1 x.holdI
      let (q, hq) := accAdd x.accQ term.2 x.holdQ
      let gov := hi || hq
      let w := w.setWin t k (some { x with
        added := x.added + 1, accI := i, accQ := q, holdI := hi, holdQ := hq,
        ovr := x.ovr || a.tainted || a.lost, lost := x.lost || a.lost, gov := gov })
      if gov && !x.gov then w.fire (tileSrc t 6) else w

/-- R125: a complete window whose result has not been presented makes way for the next. -/
def windowBehind (w : Work σ) (t k : Nat) : Work σ :=
  match w.win t k with
  | none => w
  | some x => w.updTile t (fun y => { y with late := y.late ++ [(k, x)] })

/-- R114: a WINDOW takes effect at channel k: it overlaps, is a FORMAT fault, or opens. -/
def windowOpen (w : Work σ) (t k : Nat) (h : HeldEntry) : Work σ :=
  let openStill := match w.win t k with
    | some x => decide (h.entry.stamp < x.start + kdLen x.kdB)
    | none => false
  if openStill then w.inc (CLASP_COLLIDE t)
  else
    let j := h.entry.body % 16
    let a := w.get (RD_KDESC_A t k j)
    let b := w.get (RD_KDESC_B t k j)
    if !kdValid a b then claspFault w t (24 + k) FORMAT h.entry h.margin
    else
      let round := (w.get (RD_STATUS_ROUND t k) + 1) % 16
      let w := (windowBehind w t k).set (RD_STATUS_ROUND t k) round
      let w := ((w.set (RD_STATUS_KSEL t k) j).set (RD_STATUS_OPEN t k) 1).inc (RD_WINDOWS t k)
      integrate (w.setWin t k (some ⟨h.entry.stamp, round, j, a, b, bit h.entry.body 4, bit h.entry.body 5,
        0, 0, 0, false, false, false, false, false⟩)) t k

/-- R113: a KDESC unit applied. -/
def rdParams (w : Work σ) (t k : Nat) (hs : List HeldEntry) : Work σ :=
  w.each hs (fun w h =>
    let v := h.entry.body / 256
    (w.set (RD_KDESC_A t k (v % 16)) (bits v 4 32)).set (RD_KDESC_B t k (v % 16)) (bits v 36 32))

/-- R126: the windows of a tile whose result has not been presented are abandoned: they publish nothing. -/
def abandonWindows (w : Work σ) (t : Nat) : Work σ :=
  (w.updTile t (fun x => { x with late := [] })).each (List.range 8) (fun w k => if (w.win t k).isSome then (w.setWin t k none).set (RD_STATUS_OPEN t k) 0 else w)

/-! ## Facets (R156 to R158) -/

/-- R158: facets that take part. -/
def nFacet (w : Work σ) (t k : Nat) : Nat := min 4 (max 2 (w.get (FACET_CTRL t k)))

/-- R156: the score of facet j. -/
def facetScore (w : Work σ) (t k j : Nat) (i q : Int) : Int :=
  sext 16 (w.get (FACET_COEF_A t k j)) * i + sext 16 (w.get (FACET_COEF_B t k j)) * q
    + sext 32 (w.get (FACET_OFFSET t k j)) * 2 ^ 15

/-- R157: the lowest index of the largest score. -/
def argMax (l : List Int) : Nat :=
  ((List.range l.length).foldl (fun b j => if l.getD b 0 < l.getD j 0 then j else b) 0)

/-- R157: state and margin of a result. -/
def facetAssign (w : Work σ) (t k : Nat) (i q : Int) : Nat × Int :=
  let s := (List.range (nFacet w t k)).map (fun j => facetScore w t k j i q)
  let best := argMax s
  let others := (List.range s.length).filter (fun j => j ≠ best)
  let second := match others with
    | [] => s.getD best 0
    | o :: os => os.foldl (fun m j => max m (s.getD j 0)) (s.getD o 0)
  (best, s.getD best 0 - second)

/-! ## Results (R116, R119, R120) -/

/-- R128: the INFO word of a result. -/
def infoWord (round ch ksel state : Nat) (adcOvr lost gov sat amb leak : Bool) : Nat :=
  round + ch * 2 ^ 4 + b2n (adcOvr || lost || gov || sat) * 2 ^ 7 + b2n adcOvr * 2 ^ 8 + b2n lost * 2 ^ 9
    + b2n gov * 2 ^ 10 + b2n sat * 2 ^ 11 + ksel * 2 ^ 12 + state * 2 ^ 16 + b2n amb * 2 ^ 18 + b2n leak * 2 ^ 19

/-- R120: the 24-byte payload of a result. -/
def resultPayload (i q : Int) (tl ntLo info : Nat) : List Byte :=
  leBytes 4 (toField 32 i) ++ leBytes 4 (toField 32 q) ++ leBytes 8 tl ++ leBytes 4 ntLo ++ leBytes 4 info

/-- R116: a part of the result, and whether it saturated. -/
def resultPart (acc : Int) (shift : Nat) : Int × Bool :=
  let r := roundAway acc shift
  (satS 32 r, overS 32 r)

/-- R119, R157: what the result registers hold and what is delivered: I, Q, INFO and the frame of the result. -/
structure Result where
  i : Int
  q : Int
  info : Nat
  tl : Nat
  slot : SlotC
  deriving DecidableEq, Repr

/-- R116 to R119, R157: the result of a complete window. -/
def resultOf (w : Work σ) (t k : Nat) (x : Window) : Result :=
  let (i, si) := resultPart x.accI (kdShift x.kdA)
  let (q, sq) := resultPart x.accQ (kdShift x.kdA)
  let sat := si || sq
  let (st, margin) := facetAssign w t k i q
  let amb := decide (margin < (w.get (FACET_THR t k) : Int) * 2 ^ 15)
  let leak := decide (2 ≤ st)
  let round := x.round
  let ovr := x.ovr || x.lost || x.gov || sat
  ⟨i, q, infoWord round k x.ksel st x.ovr x.lost x.gov sat amb leak,
    x.start + kdLen x.kdB - 1, ⟨true, st, amb, ovr, leak, round⟩⟩

/-- R120, R410: the host copy of a result, or its loss; a lost copy takes no number of its queue. [note 162: DESIGN CHOICE] -/
def hostResult (w : Work σ) (t k : Nat) (payload : List Byte) : Work σ :=
  let i := w.get (RD_RESULT_Q t k)
  if qOutHost w t i ∧ !qFaulted w t i ∧ qFill w t i < qSize w t i then
    (match qPush w t i 0x04 payload with | some w => w | none => w.inc (RD_HOSTLOSS t k))
  else w.inc (RD_HOSTLOSS t k)

/-- R150: the datapath's copy of a result, or its loss. -/
def dspResult (w : Work σ) (t : Nat) (r : Result) : Work σ :=
  if (w.tile t).dspIn.length < 16 then w.updTile t (fun x => { x with dspIn := x.dspIn ++ [⟨r.i, r.q, r.info⟩] })
  else w.inc (DSP_IN_STATUS_LOST t)

/-- R119: the window of channel k whose result comes next: the oldest one that waits behind a later one, or the present one; and
the channel without it. -/
def nextWindow (w : Work σ) (t k : Nat) : Option (Window × Work σ) :=
  match lateOf w t k with
  | x :: _ => some (x, w.updTile t (fun y => { y with late := y.late.erase (k, x) }))
  | [] => (w.win t k).map (fun x => (x, (w.setWin t k none).set (RD_STATUS_OPEN t k) 0))

/-- R119, R157: what a result leaves in the registers of its channel. -/
def resultRegs (w : Work σ) (t k : Nat) (r : Result) : Work σ :=
  let (_, margin) := facetAssign w t k r.i r.q
  let w := (w.set (RD_LAST_I t k) (toField 32 r.i)).set (RD_LAST_Q t k) (toField 32 r.q)
  let w := (w.set (RD_LAST_TL_LO t k) r.tl).set (RD_TL_HI t k) (r.tl / 2 ^ 32)
  let w := (w.set (RD_LAST_INFO_ROUND t k) r.slot.round).set (RD_LAST_INFO_CHANNEL t k) k
  let w := (w.setB (RD_LAST_INFO_OVR t k) r.slot.ovr).setB (RD_LAST_INFO_ADC_OVR t k) (bit r.info 8)
  let w := (w.setB (RD_LAST_INFO_FIFO_LOST t k) (bit r.info 9)).setB (RD_LAST_INFO_GOV t k) (bit r.info 10)
  let w := (w.setB (RD_LAST_INFO_SAT t k) (bit r.info 11)).set (RD_LAST_INFO_KSEL t k) (bits r.info 12 4)
  let w := (w.set (RD_LAST_INFO_STATE t k) r.slot.state).setB (RD_LAST_INFO_AMB t k) r.slot.amb
  let w := w.setB (RD_LAST_INFO_LEAK t k) r.slot.leak
  let w := w.set (FACET_MARGIN t k) (min (margin / 2 ^ 15).toNat 0xFFFFFFFF)
  let w := if r.slot.amb then w.inc (FACET_COUNT_AMB t k) else w
  if r.slot.leak then w.inc (FACET_COUNT_LEAK t k) else w

/-- R120, R150, R160: a result delivered: host entry, datapath, slot. -/
def deliverResult (w : Work σ) (t k : Nat) (x : Window) (r : Result) (payload : List Byte) : Work σ :=
  let w := if x.toHost then hostResult w t k payload else w
  let w := if x.toDsp then dspResult w t r else w
  publish w [(8 * t + k, r.slot)]

/-! ## ADC frames (R106, R121 to R125, R127) -/

/-- R121: a sample beyond the range as the converter gives it. -/
def clampCode (c : Int) : Int := clampI (-2048) 2047 c

def outOfRange (c : Int) : Bool := decide (c < -2048) || decide (2047 < c)

/-- R122: the taint counter over the samples of a frame, with whether any sample is tainted. -/
def taintStep (a : Nat × Bool) (clamped : Bool) : Nat × Bool :=
  if clamped then (30, true) else if 0 < a.1 then (a.1 - 1, true) else a

/-- R106, R121, R122, R124: the samples of a frame as they were at RD_IN enter the tile: ten values before clamping, or a
dropped frame. [note 4: DESIGN CHOICE] -/
def adcFrame (w : Work σ) (t : Nat) (raw : List Int) (drop : Bool) : Work σ :=
  let raw := (List.range 10).map (fun i => if w.on (ADC_CTRL_EN t) then raw.getD i 0 else 0)
  let beyond := raw.map outOfRange
  let (left, taint) := beyond.foldl taintStep ((w.tile t).taintLeft, false)
  let codes := raw.map clampCode
  let frame : AdcFrame := if drop then ⟨[], 0, true, true⟩
    else ⟨if codes.all (fun c => decide (c = 0)) then [] else codes,
      (List.range 10).foldl (fun m i => if beyond.getD i false then m + 2 ^ i else m) 0, taint, false⟩
  let w := w.updTile t (fun x => { x with
    taintLeft := left
    adc :=
      let l := (frame :: x.adc).take 30
      if l.all (fun a => decide (a = ⟨[], 0, false, false⟩)) then [] else l })
  let peak := codes.foldl (fun m c => max m c.natAbs) 0
  let w := if w.get (ADC_PEAK t) < peak then w.set (ADC_PEAK t) (min peak 0xFFF) else w
  let w := if beyond.any id then
      let first := !w.on (ADC_OVR_STICKY t)
      let w := (w.set (ADC_OVR_STICKY t) 1).inc (ADC_OVR_COUNT t)
      if first then w.fire (tileSrc t 7) else w
    else w
  if drop then
    let first := !w.on (ADC_FIFO_OVERRUN t)
    let w := ((w.set (ADC_FIFO_OVERRUN t) 1).inc (ADC_FIFO_LOST t)).set (ADC_FIFO_FILL_MAX t) 2000
    if first then w.fire (tileSrc t 2) else w
  else w

/-- R129: the largest fill of the input FIFO since the last read. -/
def fifoFill (w : Work σ) (t fill : Nat) : Work σ :=
  if w.get (ADC_FIFO_FILL_MAX t) < min fill 2000 then w.set (ADC_FIFO_FILL_MAX t) (min fill 2000) else w

/-- R242: the acquisition unit is taking raw or demodulated samples. -/
def capSampling (w : Work σ) (t : Nat) : Bool :=
  w.on (CAP_STATE_STATE t) && decide (w.get (CAPCLASS_SRC_FORMAT t (w.get (CAP_STATE_CLASS t))) < 3)

/-- R127: a WINDOW held by the tile's RD clasps is stamped within the n frames from the present one. -/
def windowAhead (w : Work σ) (t n : Nat) : Bool :=
  let within_ := fun (h : HeldEntry) => decide (h.entry.kind = KWINDOW) && decide (h.entry.stamp < w.now + n)
  (List.range 8).any (fun k =>
    (w.clasp t (24 + k)).items.any (fun i => i.members.any within_) ||
      (match (w.clasp t (24 + k)).open_ with | some u => u.members.any within_ | none => false))

/-- R81, R127, R453: a running step of the ADC's calibration is abandoned when a WINDOW stamped inside it is admitted, and when the
acquisition unit begins to take samples. [note 38: DESIGN CHOICE] -/
def calMeets (w : Work σ) (t : Nat) : Work σ :=
  if w.on (ADC_CAL_RUNNING t) && (windowAhead w t (w.get (ADC_CAL_START t) + 256 - w.dev.ticks) || capSampling w t) then
    w.set (ADC_CAL_RUNNING t) 0
  else w

/-- R127: whether a step of the ADC's calibration may start. -/
def adcCalFree (w : Work σ) (t : Nat) : Bool :=
  w.on (ADC_CAL_BG_EN t) && (List.range 8).all (fun k => !winOpen w t k) && !windowAhead w t 256 && !capSampling w t

/-- R127: the calibration of the ADC at a frame boundary: a step starts when it may. [note 38: DESIGN CHOICE] -/
def adcCalFrame (w : Work σ) (t : Nat) : Work σ :=
  if w.on (ADC_CAL_RUNNING t) then w
  else if adcCalFree w t then (w.set (ADC_CAL_RUNNING t) 1).set (ADC_CAL_START t) w.dev.ticks
  else w

/-- ADC_CAL_STEP_DONE (R127): the running step completes after 256 frames; the last of 32 completes the cycle. -/
def adcCalDone (w : Work σ) (t : Nat) : Work σ :=
  if w.on (ADC_CAL_RUNNING t) ∧ w.get (ADC_CAL_START t) + 256 ≤ w.dev.ticks then
    let w := w.set (ADC_CAL_RUNNING t) 0
    let n := w.get (ADC_CAL_STEP t)
    if n = 31 then
      (((w.set (ADC_CAL_STEP t) 0).inc (ADC_CAL_CYCLES t)).set (ADC_CAL_CAL_STALE t) 0).set (CAL_LAST t 3) w.dev.ticks
    else w.set (ADC_CAL_STEP t) (n + 1)
  else w

/-- ADC_CAL_STEP_DONE (R127). -/
def execAdcCalStepDone (t : Fin 32) (s : State) : Host.Outcome State Fault Refusal :=
  run (fun w => adcCalDone w t) s

/-- ADC_CAL_STALE (R127): 10 s have passed since the last completed cycle. -/
def execAdcCalStale (t : Fin 32) (s : State) : Host.Outcome State Fault Refusal :=
  run (fun w => if w.get (CAL_LAST t 3) + tenSeconds ≤ w.dev.ticks then w.set (ADC_CAL_CAL_STALE t) 1 else w) s

end Sys2Proof.Machine
end

