-- ==== Sys2Proof/Machine/Effects.lean ====
section
/-! DEFINITION. Entries that take effect at their stamps (R46, R53, R62, R67, R69, R94, R113, R114), the ends of pulses
(R68, R93) and the boundary of an abort (R54). A command acts on the entry that R46 makes the next one at its clasp, when that
entry is of the command's kind. -/

namespace Sys2Proof.Machine

variable {σ : State}

/-- A unit applied at its clasp's engine. Clasp 32 belongs to the acquisition unit and is not handled here. -/
def applyUnit (w : Work σ) (t c : Nat) (i : Item) : Work σ :=
  match i with
  | .one h =>
    if c < 16 then
      (if h.entry.kind = KPLAY then tonePlay w t c h
       else if h.entry.kind = KSTOP then toneStop w t c h
       else toneParams w t c [h])
    else if c < 24 then
      (if h.entry.kind = KPLAY then fluxPlay w t (c - 16) h
       else if h.entry.kind = KSTOP then fluxStop w t (c - 16) h
       else fluxParams w t (c - 16) [h])
    else if c < 32 then
      (if h.entry.kind = KWINDOW then windowOpen w t (c - 24) h else rdParams w t (c - 24) [h])
    else w
  | .chain hs =>
    if c < 16 then toneParams w t c hs
    else if c < 24 then fluxParams w t (c - 16) hs
    else if c < 32 then rdParams w t (c - 24) hs
    else w
  | .group _ => w

/-- Whether a unit is a single entry of a kind. -/
def isKind (k : Nat) (i : Item) : Bool :=
  match i with
  | .one h => decide (h.entry.kind = k)
  | _ => false

/-- Whether a unit is a PARAM entry, or a chain that begins with one, whose group lies from lo to hi. -/
def isGroup (lo hi : Nat) (i : Item) : Bool :=
  i.isParam && (match i.head? with
    | some h => decide (lo ≤ h.entry.body % 256) && decide (h.entry.body % 256 ≤ hi)
    | none => false)

/-- The next unit due at a clasp takes effect, when it is of the kind that a command names. [note 2: DESIGN CHOICE] -/
def takeEffect (w : Work σ) (t c : Nat) (p : Item → Bool) : Work σ :=
  match nextDue w t c with
  | none => w
  | some i => if p i then applyUnit (takeDue w t c i) t c i else w

/-- CLASP_ADMIT (R45, R127, R168). -/
def execClaspAdmit (t : Fin 32) (c : Fin 33) (s : State) : Host.Outcome State Fault Refusal :=
  run (fun w => calMeets (selectEarly (claspAdmit w t c) t) t) s

/-- PLAY (R67, R92). -/
def execPlay (t : Fin 32) (c : Fin 24) (s : State) : Host.Outcome State Fault Refusal :=
  run (fun w => takeEffect w t c (isKind KPLAY)) s

/-- STOP (R69, R92). -/
def execStop (t : Fin 32) (c : Fin 24) (s : State) : Host.Outcome State Fault Refusal :=
  run (fun w => takeEffect w t c (isKind KSTOP)) s

/-- FREQ (R62). -/
def execFreq (t : Fin 32) (e : Fin 16) (s : State) : Host.Outcome State Fault Refusal :=
  run (fun w => takeEffect w t e (isGroup 0x00 0x03)) s

/-- VZSET (R62). -/
def execVzset (t : Fin 32) (e : Fin 16) (s : State) : Host.Outcome State Fault Refusal :=
  run (fun w => takeEffect w t e (isGroup 0x04 0x07)) s

/-- VZADD (R62). -/
def execVzadd (t : Fin 32) (e : Fin 16) (s : State) : Host.Outcome State Fault Refusal :=
  run (fun w => takeEffect w t e (isGroup 0x08 0x0B)) s

/-- TPL_LO (R62, R94). -/
def execTplLo (t : Fin 32) (c : Fin 24) (s : State) : Host.Outcome State Fault Refusal :=
  run (fun w => takeEffect w t c (isGroup 0x10 0x10)) s

/-- TPL_HI (R62, R94). -/
def execTplHi (t : Fin 32) (c : Fin 24) (s : State) : Host.Outcome State Fault Refusal :=
  run (fun w => takeEffect w t c (isGroup 0x11 0x11)) s

/-- QUIET (R82). -/
def execQuiet (t : Fin 32) (e : Fin 16) (s : State) : Host.Outcome State Fault Refusal :=
  run (fun w => takeEffect w t e (isGroup 0x18 0x18)) s

/-- DCSET (R94). -/
def execDcset (t : Fin 32) (e : Fin 8) (s : State) : Host.Outcome State Fault Refusal :=
  run (fun w => takeEffect w t (16 + e) (isGroup 0x00 0x00)) s

/-- DCADD (R94). -/
def execDcadd (t : Fin 32) (e : Fin 8) (s : State) : Host.Outcome State Fault Refusal :=
  run (fun w => takeEffect w t (16 + e) (isGroup 0x01 0x01)) s

/-- KDESC (R113). -/
def execKdesc (t : Fin 32) (k : Fin 8) (s : State) : Host.Outcome State Fault Refusal :=
  run (fun w => takeEffect w t (24 + k) (isGroup 0x00 0x00)) s

/-- WINDOW (R114). -/
def execWindow (t : Fin 32) (k : Fin 8) (s : State) : Host.Outcome State Fault Refusal :=
  run (fun w => takeEffect w t (24 + k) (isKind KWINDOW)) s

/-- R68, R72, R92, R93: the pulse of an engine whose span ends by the end of the present frame leaves it. -/
def pulseSpanEnd (w : Work σ) (t c : Nat) : Work σ :=
  if c < 16 then
    (match (w.tone t c).pulse with
     | some p => (match spanEnd p with
       | some x => if x ≤ w.now * 16 + 16 then endPulse (fillTone w t c (x - w.now * 16)) t c else w
       | none => w)
     | none => w)
  else fluxEndIfOver w t (c - 16) (w.now * 2 + 2)

/-- PULSE_SPAN_END (R68). -/
def execPulseSpanEnd (t : Fin 32) (c : Fin 24) (s : State) : Host.Outcome State Fault Refusal :=
  run (fun w => pulseSpanEnd w t c) s

/-- R54: every pulse of a tile ends at once: tone engines output zero, flux engines their DC, without KEEP. -/
def stopEngines (w : Work σ) (t : Nat) : Work σ :=
  let w := w.each (List.range 16) (fun w e => endPulse w t e)
  w.each (List.range 8) (fun w e => fluxCut w t e)

/-- R54, R126: at the boundary of frame E the engines stop and open windows are abandoned. -/
def abortBoundary (w : Work σ) (t : Nat) : Work σ :=
  if (w.tile t).aborts.any (fun e => decide (e ≤ w.now)) then
    let w := w.updTile t (fun x => { x with aborts := x.aborts.filter (fun e => !decide (e ≤ w.now)) })
    abandonWindows (stopEngines w t) t
  else w

/-- ABORT_BOUNDARY (R54). -/
def execAbortBoundary (t : Fin 32) (s : State) : Host.Outcome State Fault Refusal :=
  run (fun w => abortBoundary w t) s

end Sys2Proof.Machine
end

