-- ==== Sys2Proof/Machine/Events.lean ====
section
/-! DEFINITION. Events (spec/11): emission at a source, the wiring to consumers, notifications, ALERT_N. -/

namespace Sys2Proof.Machine

variable {σ : State}

/-- R266: the own sources of a neighbour that are candidates, in order. -/
def neighbourSources : List Nat := [0, 1, 2, 3, 4, 5, 7, 8, 9, 13]

/-- R266: the position at which source src is a candidate of input i of tile t. [note 59: DEDUCED] -/
def candidatePos (t i src : Nat) : Option Nat :=
  let n := if i < 8 then (t + 31) % 32 else (t + 1) % 32
  if 14 * t ≤ src ∧ src < 14 * t + 14 then (if src - 14 * t = 12 then none else some (src - 14 * t))
  else if 14 * n ≤ src ∧ src < 14 * n + 14 ∧ src < 448 then
    (neighbourSources.findIdx? (fun s => s = src - 14 * n)).map (14 + ·)
  else if 480 + 8 * (i % 4) ≤ src ∧ src < 480 + 8 * (i % 4) + 8 ∧ src < 511 then
    some (24 + (src - 480) % 8)
  else none

/-- R267: whether input i of tile t hears source src, where its enables are en. -/
def inputHears (t i src en : Nat) : Bool :=
  match candidatePos t i src with
  | some p => bit en p
  | none => false

/-- R273, R355: the source is a lane or a LOOP_CUT, whose events reach notifications and ALERT_N alone. [note 59: DEDUCED] -/
def notesOnly (src : Nat) : Bool :=
  (decide (src < 448) && decide (src % 14 = 12)) || (decide (448 ≤ src) && decide (src < 480)) || decide (src = 511)

/-- R267, R274, R426: whether a consumer hears a source, where the enables have the values that val gives them.
[note 59: DEDUCED] -/
def hearsAt (val : Fld → Nat) (src : Nat) : Consumer → Bool
  | .input t i => inputHears t i src (val (EVPORT_IN t i))
  | .note => bit (val (EVENTS_NOTE_EN (src / 32))) (src % 32)
  | .hkStart => decide (val HK_TRIG_SOURCE = src) && !notesOnly src

/-- Whether a consumer hears a source as things stand. -/
def hears (w : Work σ) (src : Nat) (c : Consumer) : Bool := hearsAt w.get src c

/-- R319: the value that a field has once the commit that is pending, if one is, has applied. -/
def soon (w : Work σ) (f : Fld) : Nat :=
  if w.get LOADER_STATE_STATE = 2 then
    match w.dev.loader.shadows.find? (fun s => decide (s.1 = f)) with
    | some s => s.2
    | none => w.get f
  else w.get f

/-- Every consumer at which a source can arrive (R266): each tile input, the notification logic and the housekeeping start input. -/
def allConsumers : List Consumer :=
  (List.range 32).flatMap (fun t => (List.range 16).map (Consumer.input t)) ++ [Consumer.note, Consumer.hkStart]

/-- R266, R267, R319: the consumers on the way to which a source's event is: those that hear it, or will when the pending commit
applies. Its arrival finds out which hears it then. [note 59: DEDUCED] -/
def consumersOf (w : Work σ) (src : Nat) : List Consumer :=
  allConsumers.filter (fun c => hears w src c || hearsAt (soon w) src c)

/-- R276: whether ALERT_N[a] is asserted. -/
def alertOn (w : Work σ) (a : Nat) : Bool :=
  (List.range 16).any (fun j => (w.get (EVENTS_STATUS j) &&& w.get (EVENTS_ALERT_MASK a j)) != 0)

/-- R276: the bits of EVENTS.ALERT_STATE. -/
def alertState (w : Work σ) : Nat :=
  (List.range 4).foldl (fun v a => v + (if alertOn w a then 2 ^ a else 0)) 0

/-- The levels of the ALERT_N balls given out when they change (R276: asserted low). -/
def alertBalls (before : Nat) (w : Work σ) : Work σ :=
  w.each (List.range 4) (fun w a =>
    if bit before a = alertOn w a then w else w.emit (.ball "ALERT_N" a (b2n (!alertOn w a))))

/-- R265: the source emits one event for the firings it holds: the highest generation, SOFT when any is, TL and NT of the
first; each held firing beyond the first counts in MERGED. [note 59: DEDUCED] -/
def emitEvent (w : Work σ) (src : Nat) : Work σ :=
  match w.dev.held.filter (fun f => f.src = src) with
  | [] => w
  | f :: fs =>
    let before := alertState w
    let gen := fs.foldl (fun g x => max g x.gen) f.gen
    let soft := f.soft || fs.any (fun x => x.soft)
    let w := { w with dev := { w.dev with held := w.dev.held.filter (fun x => x.src ≠ src) } }
    let w := w.add EVENTS_ERR_MERGED fs.length
    let w := w.setBit (EVENTS_STATUS (src / 32)) (src % 32) true
    let to_ := consumersOf w src
    let w := if to_ = [] then w else
      { w with dev := { w.dev with flight := w.dev.flight ++ [⟨src, gen, soft, f.tl, f.ntLo, to_⟩] } }
    alertBalls before w

/-- EVENT_EMIT (R265). -/
def execEventEmit (src : Fin 512) (s : State) : Host.Outcome State Fault Refusal :=
  run (fun w => emitEvent w src) s

/-- R271: a firing of any source by a write to EVENTS.EVT_FIRE. [note 61: DESIGN CHOICE] -/
def softFire (w : Work σ) (src : Nat) : Work σ := w.fireGen src 0 true

/-- EVENTS_EVT_FIRE (R271). -/
def execEventsEvtFire (src : Fin 512) (s : State) : Host.Outcome State Fault Refusal :=
  run (fun w => softFire w src) s

/-! ## Tile inputs (R269) -/

/-- An event at a tile input, a sequencer input: its latch is set, or the event overruns. -/
def latchInput (w : Work σ) (t i gen : Nat) : Work σ :=
  if w.on (EVPORT_PEND_GEN_SET t (i / 8) (i % 8)) then
    let cnt := if i % 2 = 0 then EVPORT_OVRCNT_LO t (i / 2) else EVPORT_OVRCNT_HI t (i / 2)
    let w := w.inc cnt
    if w.getBit (EVPORT_OVR t) i then w
    else (w.setBit (EVPORT_OVR t) i true).fire (tileSrc t 11)
  else (w.set (EVPORT_PEND_GEN_SET t (i / 8) (i % 8)) 1).set (EVPORT_PEND_GEN_GEN t (i / 8) (i % 8)) gen

/-! ## Notifications (R274, R275) -/

/-- R275: the payload of a notification entry. -/
def notePayload (m : EventMsg) (missed : Nat) : List Byte :=
  leBytes 2 m.src ++ leBytes 1 m.gen ++ leBytes 1 (b2n m.soft) ++ leBytes 2 missed ++ leBytes 2 0
    ++ leBytes 8 m.tl ++ leBytes 4 m.ntLo ++ leBytes 4 0

/-- R274: the queue of a source's notifications, as tile and index. -/
def noteQueue (w : Work σ) (src : Nat) : Nat × Nat :=
  if src < 448 then (src / 14, w.get (EVPORT_NOTE_Q (src / 14)))
  else (w.get EVENTS_NOTE_Q / 512, w.get EVENTS_NOTE_Q % 512)

/-- The notification logic of a source; before its first firing it holds nothing. -/
def noteOf (w : Work σ) (src : Nat) : NoteLogic :=
  (w.dev.notes.find? (fun n => n.src = src)).getD ⟨src, none, none, 0⟩

/-- The notification logic of a source replaced; one that holds nothing is not listed. -/
def setNote (w : Work σ) (n : NoteLogic) : Work σ :=
  let rest := w.dev.notes.filter (fun x => x.src ≠ n.src)
  let keep := n.waiting.isSome || n.latch.isSome || decide (n.missed ≠ 0)
  { w with dev := { w.dev with notes := if keep then rest ++ [n] else rest } }

/-- R274: the logic acts on one firing: a push, a discard where its queue is no enabled outbound host queue, or a wait for
credit. -/
def noteAct (w : Work σ) (m : EventMsg) : Work σ :=
  let n := noteOf w m.src
  let (t, i) := noteQueue w m.src
  if qOutHost w t i then
    match qPush w t i 0x05 (notePayload m n.missed) with
    | some w => setNote w { n with waiting := none, missed := 0 }
    | none => setNote w { n with waiting := some m }
  else setNote (w.inc EVENTS_NOTE_LOST) { n with waiting := none }

/-- R269, R274: an event at the notification logic of its source. -/
def noteArrive (w : Work σ) (m : EventMsg) : Work σ :=
  let n := noteOf w m.src
  if n.waiting.isSome then
    if n.latch.isSome then setNote (w.inc EVENTS_NOTE_LOST) { n with missed := satAdd 0xFFFF n.missed 1 }
    else setNote w { n with latch := some m }
  else noteAct w m

/-- Notifications that wait for credit tried again, and the latched ones behind them. -/
def noteRetry (w : Work σ) : Work σ :=
  w.each w.dev.notes (fun w n0 =>
    match (noteOf w n0.src).waiting with
    | none => w
    | some m =>
      let w := noteAct (setNote w { noteOf w n0.src with waiting := none }) m
      let n := noteOf w n0.src
      match n.waiting, n.latch with
      | none, some m' => noteAct (setNote w { n with latch := none }) m'
      | _, _ => w)

end Sys2Proof.Machine
end

