-- ==== Sys2Proof/Machine/Capture.lean ====
section
/-! DEFINITION. Acquisition and trigger (spec/10): classes, conditions and points, the unit's states, records and slots,
fire groups and trigger tokens. -/

namespace Sys2Proof.Machine

variable {σ : State}

/-! ## The unit -/

/-- States of R246. -/
def IDLE : Nat := 0
def FILLING : Nat := 1
def ARMED : Nat := 2
def RECORDING : Nat := 3
def REARM : Nat := 4
def NOSLOT : Nat := 5

def Work.cap (w : Work σ) (t : Nat) : CapUnit := (w.tile t).cap

def Work.updCap (w : Work σ) (t : Nat) (f : CapUnit → CapUnit) : Work σ :=
  w.updTile t (fun x => { x with cap := f x.cap })

def capState (w : Work σ) (t : Nat) : Nat := w.get (CAP_STATE_STATE t)
def capClass (w : Work σ) (t : Nat) : Nat := w.get (CAP_STATE_CLASS t)

/-- Whether the unit waits for a trigger. -/
def capReady (w : Work σ) (t : Nat) : Bool := decide (capState w t = FILLING) || decide (capState w t = ARMED)

/-- R246: a frame in RECORDING, REARM or NOSLOT is dead. -/
def capIsDead (w : Work σ) (t : Nat) : Bool := decide (3 ≤ capState w t)

/-- R246, R252: a class is armed; the record of a SNAP arms none. [note 51: DEDUCED] -/
def capArmed (w : Work σ) (t : Nat) : Bool :=
  decide (capState w t ≠ IDLE) && !(w.cap t).rec_.any (fun r => decide (r.source = 15))

/-- R243: whether the armed class enables condition n. -/
def condOn (w : Work σ) (t n : Nat) : Bool := capArmed w t && w.getBit (CAPCLASS_SRC_COND_EN t (capClass w t)) n

/-- R239, R243, R262: whether a reserved bit of class c is 1. -/
def classReserved (w : Work σ) (t c : Nat) : Bool :=
  w.getBit (CAPCLASS_SRC_COND_EN t c) 14 || w.getBit (CAPCLASS_SRC_COND_EN t c) 15 ||
    [CAPCLASS_SRC_RSV t c, CAPCLASS_SRC_RSV2 t c, CAPCLASS_LEN_RSV t c, CAPCLASS_POST_RSV t c, CAPCLASS_COND_RSV t c,
      CAPCLASS_AREA_RSV t c].any w.on

/-- R239: a class whose descriptor is valid. A slot is never smaller than 4 KiB. -/
def classValid (w : Work σ) (t c : Nat) : Bool :=
  !classReserved w t c
    && !(decide (2 ≤ w.get (CAPCLASS_SRC_FORMAT t c)) && decide (w.get (CAPCLASS_SRC_CHMASK t c) = 0))
    && decide (w.get (CAPCLASS_LEN_PRE t c) ≤ 4096)
    && decide (128 ≤ w.get (CAPCLASS_DEST_QUEUE t c)) && decide (w.get (CAPCLASS_DEST_QUEUE t c) < 256)

/-! ## Payloads (R241) -/

/-- R108, R114: the FSEL of the window of channel k in which the present frame lies. -/
def winFsel (w : Work σ) (t k : Nat) : Option Nat :=
  match w.win t k with
  | some x => if w.now < x.start + kdLen x.kdB then some (kdFsel x.kdA) else none
  | none => none

/-- The FSEL under which d of the present frame of channel k is taken. -/
def capFsel (w : Work σ) (t k : Nat) : Nat := (winFsel w t k).getD (Config.idleFsel t k)

/-- d(W − 24) of channel k for the present capture frame (R110). -/
def capD (w : Work σ) (t k : Nat) : Int × Int := demodNow w t k (capFsel w t k)

/-- M(W) of the present frame for channel k (R243). -/
def capM (w : Work σ) (t k : Nat) : Nat := let d := capD w t k; (d.1 * d.1 + d.2 * d.2).toNat

/-- M of the frame before the present one (R243). -/
def capMPrev (w : Work σ) (t k : Nat) : Nat :=
  let a := (w.tile t).adc.getD 24 ⟨[], 0, false, false⟩
  let fsel := (((w.cap t).fsel.find? (fun x => decide (x.1 = k))).map Prod.snd).getD (Config.idleFsel t k)
  let d := if a.lost then (0, 0) else demod w t k fsel ((w.now : Int) - 25) a.codes
  (d.1 * d.1 + d.2 * d.2).toNat

/-- The channels of CHMASK, in ascending order. -/
def capChannels (w : Work σ) (t c : Nat) : List Nat :=
  (List.range 8).filter (fun k => w.getBit (CAPCLASS_SRC_CHMASK t c) k)

/-- R241: the bytes of a class for each frame. -/
def frameSize (w : Work σ) (t c : Nat) : Nat :=
  let f := w.get (CAPCLASS_SRC_FORMAT t c)
  if f = 0 then 20 else if f = 1 then 16 else if f = 2 then 4 * (capChannels w t c).length else 0

/-- R241: what class c records for the present capture frame, and whether a clamped sample lies in it. -/
def framePayload (w : Work σ) (t c : Nat) : List Byte × Bool :=
  let a := adcNow w t
  let code := fun i => toField 12 (a.codes.getD i 0)
  let f := w.get (CAPCLASS_SRC_FORMAT t c)
  if f = 0 then
    ((List.range 10).flatMap (fun i => leBytes 2 (code i * 16 + b2n (bit a.clamp i))), decide (a.clamp ≠ 0))
  else if f = 1 then
    (leBytes 16 ((List.range 10).foldl (fun n i => n + code i * 2 ^ (12 * i)) 0 + b2n (decide (a.clamp ≠ 0)) * 2 ^ 120),
      decide (a.clamp ≠ 0))
  else if f = 2 then
    ((capChannels w t c).flatMap (fun k =>
      let d := capD w t k
      leBytes 2 (toField 16 d.1) ++ leBytes 2 (toField 16 d.2)), decide (a.clamp ≠ 0))
  else ([], false)

/-! ## Points (R244) -/

/-- R244: the order of points. -/
def TrigPoint.key (p : TrigPoint) : Nat := (p.w * 10 + p.k) * 16 + p.frac

/-- R258: points in order, equal ones by origin. -/
def TrigPoint.before (p q : TrigPoint) : Bool :=
  decide (p.key < q.key) ||
    (decide (p.key = q.key) && (decide (p.device < q.device) || (decide (p.device = q.device) && decide (p.tile < q.tile))))

/-- The earliest of a list of occurrences (R248, R258). -/
def earliest : List CapPoint → Option CapPoint
  | [] => none
  | p :: ps =>
    match earliest ps with
    | none => some p
    | some q => if q.point.before p.point then some q else some p

/-- This device's number in the cluster (R261). -/
def devNum (w : Work σ) : Nat := w.get (CAP_XGROUP_DEVNUM 0)

/-! ## Trigger messages (R256, R259, R363) -/

/-- R259: the 53 bits of a trigger token. -/
def trigToken (m : TrigMsg) : Nat :=
  m.kind % 4 + m.cls % 32 * 2 ^ 2 + m.point.w % 2 ^ 24 * 2 ^ 7 + m.point.k % 16 * 2 ^ 31 + m.point.frac % 16 * 2 ^ 35
    + m.point.tile % 32 * 2 ^ 39 + m.point.device % 64 * 2 ^ 44

/-- R363: the TRIG block of a token. -/
def trigBlock (token : Nat) : Nat := 0x55 + token % 2 ^ 50 * 2 ^ 8 + crc4 53 (token % 2 ^ 50) 0 * 2 ^ 58

/-- R259: a message sent as a token on the links of XLINKS that pass the test and carry traffic. -/
def sendTokens (w : Work σ) (m : TrigMsg) (p : Nat → Bool) : Work σ :=
  if w.on (CAP_XGROUP_EN 0) then
    w.each (List.range 32) (fun w l =>
      if w.getBit (CAP_XLINKS 0) l ∧ p l ∧ linkLive w l then sendCopies w l (trigBlock (trigToken m)) else w)
  else w

/-- R256, R259: a message of this device enters the trigger line. -/
def sendMsg (w : Work σ) (m : TrigMsg) : Work σ :=
  sendTokens ({ w with dev := { w.dev with line := w.dev.line ++ [m] } }) m (fun _ => true)

/-! ## Dead time and occurrences (R249, R251) -/

/-- R251: n dead frames counted; either counter fires source 10 when it saturates. -/
def addDead (w : Work σ) (t n : Nat) : Work σ :=
  if n = 0 then w
  else
    let a := w.get (CAP_DEAD t)
    let b := (w.cap t).dead
    let a' := satAdd 0xFFFFFFFFFFFF a n
    let b' := satAdd 0xFFFFFFFF b n
    let w := (w.set (CAP_DEAD t) a').updCap t (fun u => { u with dead := b' })
    let w := if a' = 0xFFFFFFFFFFFF ∧ a ≠ a' then w.fire (tileSrc t 10) else w
    if b' = 0xFFFFFFFF ∧ b ≠ b' then w.fire (tileSrc t 10) else w

/-- R249: a lost trigger, counted for the next record of the class. -/
def lostTrigger (w : Work σ) (t : Nat) : Work σ :=
  let c := capClass w t
  (w.set (CAP_LOST t) (w.get (CAP_LOST t) + 1)).updCap t (fun u => { u with
    lost := insertCell 0 u.lost c (satAdd 0xFFFF (assoc 0 u.lost c) 1) })

/-- R248, R249, R258: an occurrence of an enabled condition whose point has come: it waits to open a record, belongs to the record
that its point opened, or is lost; what another unit fires at any other point is lost. [note 50: DEDUCED] -/
def capOccur (w : Work σ) (t : Nat) (p : CapPoint) : Work σ :=
  if capReady w t then w.updCap t (fun u => { u with points := u.points ++ [p] })
  else if capIsDead w t then
    match (w.cap t).rec_ with
    | some r =>
      if r.source ≠ 15 ∧ p.point.key = r.point.key then
        let mask := r.condMask ||| 2 ^ p.cond
        w.updCap t (fun u => { u with rec_ := some { r with condMask := mask, source := min r.source p.cond } })
      else if p.foreign ∨ r.point.key < p.point.key then lostTrigger w t
      else w
    | none => lostTrigger w t
  else w

/-- R248, R256: an occurrence of a condition of the tile itself whose point has come, or the point of another unit: a member of a
fire group sends its own. [note 54: DEDUCED] -/
def capMeet (w : Work σ) (t : Nat) (p : CapPoint) : Work σ :=
  if !condOn w t p.cond then w
  else capOccur (if condOn w t 13 && !p.foreign then sendMsg w ⟨1, capClass w t, p.point⟩ else w) t p

/-- R244, R248: an occurrence of a condition of the tile itself counts at its point, which may lie ahead. -/
def capLocal (w : Work σ) (t cond wf k frac : Nat) (gen : Option Nat) : Work σ :=
  let p : CapPoint := ⟨⟨wf, k, frac, t, devNum w⟩, cond, gen, false⟩
  if wf ≤ w.now then capMeet w t p else w.updCap t (fun u => { u with future := u.future ++ [p] })

/-! ## Conditions tested in each frame (R243, R249) -/

/-- R243, R249: LEVEL, EDGE and WINDOW in the present frame, once in a frame; a run of LEVEL or WINDOW is one occurrence. -/
def capTests (w : Work σ) (t : Nat) : Work σ :=
  let c := capClass w t
  if (w.cap t).tested = w.dev.ticks + 1 ∨ !(condOn w t 1 || condOn w t 2 || condOn w t 3) then w
  else
    let m := capM w t (w.get (CAPCLASS_COND_DCH t c))
    let prev := (w.cap t).lastM
    let hi := w.get (CAPCLASS_HI t c)
    let lo := w.get (CAPCLASS_LO t c)
    let level := decide (hi ≤ m)
    let edge := if w.on (CAPCLASS_COND_POL t c) then decide (lo ≤ prev) && decide (m < lo)
      else decide (prev < hi) && decide (hi ≤ m)
    let win := (decide (lo ≤ m) && decide (m < hi)) != w.on (CAPCLASS_COND_OUT t c)
    let runL := (w.cap t).runLevel
    let runW := (w.cap t).runWindow
    let w := w.updCap t (fun u => { u with lastM := m, runLevel := level, runWindow := win, tested := w.dev.ticks + 1 })
    let w := if level && !runL then capLocal w t 1 w.now 0 0 none else w
    let w := if edge then capLocal w t 2 w.now 0 0 none else w
    if win && !runW then capLocal w t 3 w.now 0 0 none else w

/-- R243, R244: what occurs in the present frame: LEVEL, EDGE and WINDOW, and the points that have come. -/
def capMeets (w : Work σ) (t : Nat) : Work σ :=
  let w := capTests w t
  let pts := (w.cap t).future.filter (fun p => p.point.w ≤ w.now)
  let w := w.updCap t (fun u => { u with future := u.future.filter (fun p => !decide (p.point.w ≤ w.now)) })
  w.each pts (fun w p => capMeet w t p)

/-! ## Slots (R254) -/

/-- The device address of slot j of class c. -/
def slotAddr (w : Work σ) (t c j : Nat) : Nat :=
  ddrBase (w.get (CAPCLASS_DEST_CHAN t c))
    + (w.get (CAPCLASS_AREA_BASE t c) + j * (w.get (CAPCLASS_DEST_SLOT_M1 t c) + 1)) * 4096

def slotBytes (w : Work σ) (t c : Nat) : Nat := (w.get (CAPCLASS_DEST_SLOT_M1 t c) + 1) * 4096

/-- The next slot of class c in its rotation. -/
def nextSlot (w : Work σ) (t c : Nat) : Nat := assoc 0 (w.cap t).next c % (w.get (CAPCLASS_DEST_SLOTS_M1 t c) + 1)

/-- R254: whether the host has returned the credit of a slot's descriptor. -/
def slotReturned (w : Work σ) (t : Nat) (s : CapSlot) : Bool :=
  seqBefore s.seq (w.get (QTAIL t (w.get (CAPCLASS_DEST_QUEUE t s.cls))))

/-- R410: the channel of class c has faulted. -/
def slotFaulted (w : Work σ) (t c : Nat) : Bool := decide (w.get (DDR_STATUS_STATE (w.get (CAPCLASS_DEST_CHAN t c))) = 4)

/-- R254, R410: class c may open a record: its channel has not faulted, and its next slot is free with an entry of its queue, or its queue drops the oldest. -/
def slotFree (w : Work σ) (t c : Nat) : Bool :=
  let q := w.get (CAPCLASS_DEST_QUEUE t c)
  qOutHost w t q && !slotFaulted w t c &&
    (w.on (QT_CFG_POLICY t q) ||
      (decide (qFill w t q < qSize w t q) &&
        !(w.cap t).slots.any (fun s => decide (s.cls = c) && decide (s.slot = nextSlot w t c) && !slotReturned w t s)))

/-! ## Ready, sampling, closing (R246 to R250, R255) -/

/-- R255: the record in hand carries TRUNC, once. -/
def capShorten (w : Work σ) (t cause : Nat) : Work σ :=
  match (w.cap t).rec_ with
  | none => w
  | some r =>
    if r.trunc ≠ 0 then w
    else (w.inc (CAP_FLAGCNT_TRUNC t)).updCap t (fun u => { u with rec_ := some { r with trunc := cause } })

/-- R255: the record in hand closes early with a cause. -/
def capTruncate (w : Work σ) (t cause : Nat) : Work σ :=
  match (w.cap t).rec_ with
  | none => w
  | some r =>
    let w := (capShorten w t cause).updCap t (fun u => { u with
      rearmAt := w.dev.ticks + max 16 (w.get (CAPCLASS_LEN_REARM_MIN t r.cls)) })
    w.set (CAP_STATE_STATE t) REARM

/-- The frames that a record holds. -/
def Record.frames (r : Record) : Nat := r.preAct + r.postAct

/-- R241: whether a result's frame lies in a record's span. -/
def inRecord (r : Record) (tl : Nat) : Bool := decide (r.first ≤ tl) && decide (tl < r.first + r.frames)

/-- The results of a record's span, in order of presentation (R241). -/
def recordResults (u : CapUnit) (r : Record) : List RingResult := u.results.filter (fun x => inRecord r x.tl)

/-- R253, R255: how many frames, or results, of class c its slot holds behind the header. -/
def slotHolds (w : Work σ) (t c : Nat) : Nat :=
  let n := frameSize w t c
  (slotBytes w t c - 64) / (if n = 0 then 24 else n)

/-- R241: the bytes of the ring. -/
def ringBytes : Nat := 262144

/-- R241, R253, R255: what the writer has not moved out of the ring yet of a record, as far as its slot holds it, and whether OVR is set
in it. A record takes the results of its frames, or its frames from the ring. [note 155: DESIGN CHOICE] -/
def recordRest (w : Work σ) (t : Nat) (r : Record) : List Byte × Bool :=
  let u := w.cap t
  let n := frameSize w t r.cls
  if n = 0 then
    let rs := ((recordResults u r).take (slotHolds w t r.cls)).drop (r.moved / 24)
    ((rs.flatMap (fun x => x.payload)).drop (r.moved % 24), rs.any (fun x => x.ovr))
  else
    let frames := min r.frames (slotHolds w t r.cls)
    let end_ := r.first + frames
    let fs := ((u.ring.drop (u.ringEnd + 1 - end_)).take (frames - r.moved / n)).reverse
    ((fs.flatMap (fun f => f.1)).drop (r.moved % n), fs.any (fun f => f.2))

/-- R413: the writer moves what it has room for from the ring of tile t to its slot in DDR5; on a channel that has faulted it is never
accepted (R410). [note 53: DESIGN CHOICE] -/
def capMove (w : Work σ) (t : Nat) : Work σ :=
  match (w.cap t).rec_ with
  | none => w
  | some r =>
    let c := w.get (CAPCLASS_DEST_CHAN t r.cls)
    if slotFaulted w t r.cls then w
    else
      let (rest, ovr) := recordRest w t r
      let bs := rest.take (writerSize - writerFill w c)
      if bs = [] then w
      else (writerPut w c (slotAddr w t r.cls r.slot - ddrBase c + 64 + r.moved) bs).updCap t (fun u => { u with
        rec_ := some { r with moved := r.moved + bs.length, ovr := r.ovr || ovr } })

/-- R241, R255: the present frame taken into the record in hand, unless the ring or the slot has no room for it. -/
def capRecordFrame (w : Work σ) (t : Nat) : Work σ :=
  match (w.cap t).rec_ with
  | none => w
  | some r =>
    if r.point.w + r.post ≤ w.now then w
    else
      let n := frameSize w t r.cls
      let taken := r.frames * n
      if slotFaulted w t r.cls ∨ ringBytes < taken + n - r.moved then capTruncate w t 1
      else if slotBytes w t r.cls < 64 + taken + n then capTruncate w t 2
      else
        let f := framePayload w t r.cls
        w.updCap t (fun u => { u with
          ring := if n = 0 then [] else f :: u.ring
          ringEnd := w.now
          rec_ := some { r with postAct := r.postAct + 1 } })

/-- R241: the present frame taken into the ring history of a unit that waits for a trigger. -/
def capRingFrame (w : Work σ) (t : Nat) : Work σ :=
  let c := capClass w t
  let n := frameSize w t c
  w.updCap t (fun u => { u with
    ring := if n = 0 then [] else (framePayload w t c :: u.ring).take (ringBytes / n)
    ringEnd := w.now })

/-- R246: a unit that waits for a trigger is ARMED once its ring history holds PRE frames. -/
def capFilled (w : Work σ) (t : Nat) : Work σ :=
  if (w.cap t).ringStart + w.get (CAPCLASS_LEN_PRE t (capClass w t)) ≤ w.now then w.set (CAP_STATE_STATE t) ARMED else w

/-- R246, R247, R250: class c is armed from the present frame on, which begins the ring history; a step of the ADC's calibration yields
(R453). -/
def capStart (w : Work σ) (t c : Nat) : Work σ :=
  let w := ((w.set (CAP_STATE_CLASS t) c).set (CAP_STATE_STATE t) FILLING).set (RING_USED t) 1
  let w := w.updCap t (fun u => { u with
    ringStart := w.now, ring := [], results := [], points := [], rec_ := none, disarm := false
    runLevel := false, runWindow := false, tested := 0
    lastM := capMPrev w t (w.get (CAPCLASS_COND_DCH t c)) })
  calMeets (capFilled w t) t

/-- R247: a class armed anew counts its dead frames from the arming. -/
def capArmNow (w : Work σ) (t c : Nat) : Work σ :=
  capStart (w.updCap t (fun u => { u with dead := 0 })) t c

/-- The unit disarmed. -/
def capIdle (w : Work σ) (t : Nat) : Work σ :=
  ((w.set (CAP_STATE_STATE t) IDLE).set (CAP_STATE_PVALID t) 0).updCap t (fun u => { u with
    ring := [], results := [], points := [], rec_ := none, disarm := false })

/-- R247: an ARM of class c; one that is pending overrides a DISARM before it. -/
def capArm (w : Work σ) (t c : Nat) : Work σ :=
  if capState w t = RECORDING ∨ capState w t = REARM then
    ((w.set (CAP_STATE_PVALID t) 1).set (CAP_STATE_PCLASS t) c).updCap t (fun u => { u with disarm := false })
  else capArmNow w t c

/-- R247: class c is the armed one. -/
def armedClass (w : Work σ) (t c : Nat) : Bool := capArmed w t && decide (capClass w t = c)

/-- R247: a DISARM of class c. -/
def capDisarm (w : Work σ) (t c : Nat) : Work σ :=
  if !armedClass w t c then w.inc (CAP_MISC_STRAY t)
  else if capState w t = RECORDING ∨ capState w t = REARM then
    (w.set (CAP_STATE_PVALID t) 0).updCap t (fun u => { u with disarm := true })
  else capIdle w t

/-- R239, R257: an ARM message that takes effect; the ARM of an invalid class is a FORMAT fault, recorded as a CAPTURE entry of that
action at the frame. [note 154: DEDUCED] -/
def groupArm (w : Work σ) (t : Nat) (g : GroupArm) : Work σ :=
  if g.disarm then capDisarm w t g.cls
  else if classValid w t g.cls then capArm w t g.cls
  else claspFault w t 32 FORMAT (plainEntry g.frame 0 KCAPTURE 32 (1 + g.cls * 8)) ((g.frame : Int) - (w.now : Int))

/-- Group messages that have come by the present frame (R257). -/
def capDue (w : Work σ) (t : Nat) : Work σ :=
  let u := w.cap t
  let arms := u.garms.filter (fun g => g.frame ≤ w.now)
  let w := w.updCap t (fun u => { u with garms := u.garms.filter (fun g => !decide (g.frame ≤ w.now)) })
  w.each arms (fun w g => groupArm w t g)

/-- R246, R254, R257: a capture frame begins at the acquisition unit. [note 52: DESIGN CHOICE] -/
def capBegin (w : Work σ) (t : Nat) : Work σ :=
  let w :=
    if capReady w t then capFilled w t
    else if capState w t = NOSLOT ∧ slotFree w t (capClass w t) then capStart w t (capClass w t)
    else w
  capDue w t

/-- R241, R243, R249, R251, R413: a capture frame ends at the acquisition unit: it counts as dead when the unit is dead in it, what occurs
in it is met by the class armed then, it joins the ring history or the record, and the writer moves on. [note 52: DESIGN CHOICE] -/
def capEnd (w : Work σ) (t : Nat) : Work σ :=
  let w := capMeets (if capIsDead w t then addDead w t 1 else w) t
  let w :=
    if capReady w t then capRingFrame w t
    else if capState w t = RECORDING then capRecordFrame w t
    else w
  let w := capMove w t
  let in_ := (List.range 8).filterMap (fun k => (winFsel w t k).map (fun f => (k, f)))
  if in_ = (w.cap t).fsel then w else w.updCap t (fun u => { u with fsel := in_ })

/-! ## Opening a record (R248, R258) -/

/-- R255: a record that has opened with more behind it than its slot holds closes at once. [note 155: DESIGN CHOICE] -/
def capOverSlot (w : Work σ) (t : Nat) : Work σ :=
  match (w.cap t).rec_ with
  | none => w
  | some r =>
    let room := slotHolds w t r.cls
    if frameSize w t r.cls = 0 then (if room < (recordResults (w.cap t) r).length then capTruncate w t 2 else w)
    else if room < r.frames then
      capTruncate (w.updCap t (fun u => { u with rec_ := some { r with postAct := room - r.preAct } })) t 2
    else w

/-- R248, R249, R254: a record opens at an occurrence's point, or is lost for want of a slot. Of a point that lies before the ring
history the record holds what the ring has from there on. [note 165: DESIGN CHOICE] -/
def openRecord (w : Work σ) (t : Nat) (p : CapPoint) : Work σ :=
  let u := w.cap t
  let c := capClass w t
  let settled := condOn w t 13
  let same := u.points.filter (fun x => decide (x.point.key = p.point.key))
  let later := if settled then [] else u.points.filter (fun x => decide (p.point.key < x.point.key))
  let lateBy := w.now - max p.point.w u.ringStart
  if !slotFree w t c then
    let w := (w.set (CAP_STATE_STATE t) NOSLOT).updCap t (fun u => { u with points := [], ring := [], rec_ := none })
    (addDead (lostTrigger w t) t lateBy).each later (fun w _ => lostTrigger w t)
  else
    let mask := same.foldl (fun m x => m ||| 2 ^ x.cond) 0
    let source := (same.map (fun x => x.cond)).foldl min 15
    let gen := same.foldl (fun g x => match g with | some y => some y | none => x.gen) none
    let pre := w.get (CAPCLASS_LEN_PRE t c)
    let behind := p.point.w - u.ringStart
    let short := decide (behind < pre)
    let num := (w.get (CAP_RECORDS t) + 1) % 2 ^ 32
    let post := w.get (CAPCLASS_POST_M1 t c) + 1
    let preAct := min pre behind
    let held := min (p.point.w + post) w.now - max p.point.w u.ringStart
    let r : Record := ⟨p.point, mask, source, gen, c, short, 0, p.foreign, preAct, post, held,
      u.dead, assoc 0 u.lost c, num, w.ntLo, nextSlot w t c, max p.point.w u.ringStart - preAct, 0, false⟩
    let w := w.updCap t (fun u => { u with rec_ := some r, points := [], dead := 0, lost := insertCell 0 u.lost c 0 })
    let w := (w.set (CAP_STATE_STATE t) RECORDING).set (CAP_RECORDS t) num
    let w := (w.set (CAP_LAST_W_LO t) p.point.w).set (CAP_W_HI t) (p.point.w / 2 ^ 32)
    let w := if short then w.inc (CAP_FLAGCNT_SHORT t) else w
    let w := (addDead w t lateBy).each later (fun w _ => lostTrigger w t)
    capOverSlot (w.fireTileCaused t 8 gen) t

/-- R248: the earliest occurrence whose frame has come opens a record of a class outside any fire group; what the present frame holds
is met first. -/
def recordOpen (w : Work σ) (t : Nat) : Work σ :=
  if capReady w t && !condOn w t 13 then
    let w := capMeets w t
    match earliest (w.cap t).points with
    | some p => openRecord w t p
    | none => w
  else w

/-- RECORD_OPEN (R248). -/
def execRecordOpen (t : Fin 32) (s : State) : Host.Outcome State Fault Refusal := run (fun w => recordOpen w t) s

/-- R258: the settle time of the first point met ends, and the record opens at the earliest point collected.
[note 50: DEDUCED] -/
def groupSettleEnd (w : Work σ) (t : Nat) : Work σ :=
  if capReady w t && condOn w t 13 then
    match (w.cap t).points with
    | [] => w
    | first :: _ =>
      if first.point.w + w.get (CAP_GROUP_SETTLE t) ≤ w.now then
        (match earliest (w.cap t).points with | some p => openRecord w t p | none => w)
      else w
  else w

/-- GROUP_SETTLE_END (R258). -/
def execGroupSettleEnd (t : Fin 32) (s : State) : Host.Outcome State Fault Refusal := run (fun w => groupSettleEnd w t) s

/-- R250: the last post-trigger frame has passed. -/
def recordingEnd (w : Work σ) (t : Nat) : Work σ :=
  match (w.cap t).rec_ with
  | none => w
  | some r =>
    if capState w t = RECORDING ∧ r.point.w + r.post ≤ w.now then
      let late := w.now - (r.point.w + r.post)
      (w.set (CAP_STATE_STATE t) REARM).updCap t (fun u => { u with
        rearmAt := w.dev.ticks + max 16 (w.get (CAPCLASS_LEN_REARM_MIN t r.cls)) - late })
    else w

/-- RECORDING_END (R250). -/
def execRecordingEnd (t : Fin 32) (s : State) : Host.Outcome State Fault Refusal := run (fun w => recordingEnd w t) s

/-! ## The record in DDR5 (R253, R254) -/

/-- FLAGS of a record's header. -/
def recordFlags (r : Record) : Nat :=
  b2n r.short + b2n (decide (r.trunc ≠ 0)) * 2 + b2n r.ovr * 4 + b2n r.group * 8

/-- R253: the 64-byte header of a record. -/
def recordHeader (w : Work σ) (t : Nat) (r : Record) : List Byte :=
  leBytes 8 r.point.w ++ leBytes 1 r.point.k ++ leBytes 1 r.point.frac ++ leBytes 2 r.condMask ++ leBytes 1 r.source
    ++ leBytes 1 r.cls ++ leBytes 1 (recordFlags r) ++ leBytes 1 r.trunc ++ leBytes 4 r.preAct ++ leBytes 4 r.postAct
    ++ leBytes 4 r.dead ++ leBytes 2 r.lost ++ leBytes 2 (r.point.tile % 32 + r.point.device % 64 * 32)
    ++ leBytes 4 r.num ++ leBytes 4 r.ntLo ++ leBytes 8 r.first ++ leBytes 4 r.moved
    ++ leBytes 1 (w.get (CAPCLASS_SRC_CHMASK t r.cls)) ++ leBytes 1 (w.get (CAPCLASS_SRC_FORMAT t r.cls)) ++ leBytes 10 0

/-- R250: what follows REARM: the pending class, the same class again, or IDLE. -/
def capNext (w : Work σ) (t : Nat) (r : Record) (disarm : Bool) : Work σ :=
  if w.on (CAP_STATE_PVALID t) ∧ !disarm then
    capArmNow (w.set (CAP_STATE_PVALID t) 0) t (w.get (CAP_STATE_PCLASS t))
  else if disarm ∨ r.source = 15 ∨ !w.on (CAPCLASS_SRC_AUTO t r.cls) then capIdle w t
  else capStart w t r.cls

/-- R410: REARM ends on a channel that has faulted: the writer is never accepted, no descriptor follows, and the class stays in
NOSLOT. -/
def rearmFaulted (w : Work σ) (t : Nat) : Work σ :=
  (w.set (CAP_STATE_STATE t) NOSLOT).updCap t (fun u => { u with points := [], ring := [], rec_ := none })

/-- R250, R413: every byte of a record has left the ring, and the writer has room for its header. -/
def recordOut (w : Work σ) (t : Nat) (r : Record) : Bool :=
  (recordRest w t r).1.isEmpty && decide (writerFill w (w.get (CAPCLASS_DEST_CHAN t r.cls)) + 64 ≤ writerSize)

/-- R250, R254: REARM ends: the record stands in its slot, its descriptor is pushed, and the unit goes on. It waits while its
BLOCK queue has no credit. [note 53: DESIGN CHOICE] -/
def rearmEnd (w : Work σ) (t : Nat) : Work σ :=
  match (w.cap t).rec_ with
  | none => w
  | some r =>
    if capState w t ≠ REARM ∨ w.dev.ticks < (w.cap t).rearmAt then w
    else if slotFaulted w t r.cls then (if (w.cap t).disarm then capIdle w t else rearmFaulted w t)
    else if !recordOut w t r then w
    else
      let q := w.get (CAPCLASS_DEST_QUEUE t r.cls)
      let addr := slotAddr w t r.cls r.slot
      let desc := leBytes 8 addr ++ leBytes 4 (64 + r.moved) ++ leBytes 4 r.num ++ leBytes 1 (recordFlags r) ++ leBytes 1 r.cls
        ++ leBytes 2 r.slot ++ leBytes 4 r.ntLo
      let chan := w.get (CAPCLASS_DEST_CHAN t r.cls)
      let w1 := writerPut w chan (addr - ddrBase chan) (recordHeader w t r)
      match qPush w1 t q 0x06 desc with
      | none => w
      | some w =>
        let mine : CapSlot := ⟨r.cls, r.slot, w.get (QT_SEQ_A t q)⟩
        let disarm := (w.cap t).disarm
        let w := w.updCap t (fun u => { u with
          next := insertCell 0 u.next r.cls ((r.slot + 1) % (w.get (CAPCLASS_DEST_SLOTS_M1 t r.cls) + 1))
          slots := (u.slots.filter (fun s => !decide (s.cls = r.cls ∧ s.slot = r.slot) && !slotReturned w t s)) ++ [mine] })
        capNext (w.fireTileCaused t 9 r.gen) t r disarm

/-- REARM_END (R250). -/
def execRearmEnd (t : Fin 32) (s : State) : Host.Outcome State Fault Refusal := run (fun w => rearmEnd w t) s

/-- R255: an accepted EPOCH edge at the acquisition unit: an open record closes, the pending class is dropped, and the unit is
IDLE once REARM has ended. [note 56: DEDUCED] -/
def capEpoch (w : Work σ) (t : Nat) : Work σ :=
  if capState w t = IDLE then w
  else
    let w := w.set (CAP_STATE_PVALID t) 0
    let w := if capState w t = RECORDING then capTruncate w t 3 else w
    if capState w t = REARM then w.updCap t (fun u => { u with disarm := true, garms := [], future := [] })
    else (capIdle w t).updCap t (fun u => { u with garms := [], future := [] })

/-! ## CAPTURE entries (R238, R247, R252) -/

/-- The CAPTURE entry that is next at clasp 32 takes effect, when its action is the one that a command names. -/
def captureEffect (w : Work σ) (t action : Nat) (f : Work σ → HeldEntry → Nat → Work σ) : Work σ :=
  match nextDue w t 32 with
  | some (.one h) => if h.entry.body % 8 = action then f (takeDue w t 32 (.one h)) h (bits h.entry.body 3 5) else w
  | _ => w

/-- ACQ_ARM (R247). -/
def execAcqArm (t : Fin 32) (s : State) : Host.Outcome State Fault Refusal :=
  run (fun w => captureEffect w t 1 (fun w h c =>
    if !classValid w t c then claspFault w t 32 FORMAT h.entry h.margin
    else
      let w := if w.getBit (CAPCLASS_SRC_COND_EN t c) 13 then sendMsg w ⟨0, c, ⟨h.entry.stamp, 0, 0, t, devNum w⟩⟩ else w
      capArm w t c)) s

/-- ACQ_FIRE (R243). -/
def execAcqFire (t : Fin 32) (s : State) : Host.Outcome State Fault Refusal :=
  run (fun w => captureEffect w t 2 (fun w h c =>
    if !armedClass w t c then w.inc (CAP_MISC_STRAY t)
    else
      let k := 10 * h.entry.slot / 16
      capLocal w t 0 h.entry.stamp k ((125 * h.entry.slot - 200 * k) / 16) none)) s

/-- ACQ_DISARM (R247); only a DISARM that takes effect goes to the group (R256). -/
def execAcqDisarm (t : Fin 32) (s : State) : Host.Outcome State Fault Refusal :=
  run (fun w => captureEffect w t 3 (fun w h c =>
    let w := if armedClass w t c && condOn w t 13 then sendMsg w ⟨2, c, ⟨h.entry.stamp, 0, 0, t, devNum w⟩⟩ else w
    capDisarm w t c)) s

/-- R252: a SNAP of class c. [note 51: DEDUCED] -/
def capSnap (w : Work σ) (t c : Nat) (h : HeldEntry) : Work σ :=
  if capState w t ≠ IDLE then w.inc (CAP_MISC_SNAP_LOST t)
  else if !classValid w t c then claspFault w t 32 FORMAT h.entry h.margin
  else if !slotFree w t c then w.inc (CAP_MISC_SNAP_LOST t)
  else
    let num := (w.get (CAP_RECORDS t) + 1) % 2 ^ 32
    let p : TrigPoint := ⟨h.entry.stamp, 0, 0, t, devNum w⟩
    let r : Record := ⟨p, 0, 15, none, c, false, 0, false, 0, w.get (CAPCLASS_POST_M1 t c) + 1, 0, (w.cap t).dead,
      assoc 0 (w.cap t).lost c, num, w.ntLo, nextSlot w t c, h.entry.stamp, 0, false⟩
    let w := (w.set (CAP_STATE_CLASS t) c).set (CAP_STATE_STATE t) RECORDING
    let w := w.updCap t (fun u => { u with
      ringStart := w.now, ring := [], results := [], points := [], rec_ := some r, disarm := false, dead := 0
      lost := insertCell 0 u.lost c 0 })
    let w := (w.set (CAP_RECORDS t) num).set (CAP_LAST_W_LO t) p.w
    calMeets (w.set (CAP_W_HI t) (p.w / 2 ^ 32)) t

/-- ACQ_SNAP (R252). -/
def execAcqSnap (t : Fin 32) (s : State) : Host.Outcome State Fault Refusal :=
  run (fun w => captureEffect w t 4 (fun w h c => capSnap w t c h)) s

/-! ## TRIG_IN (R245) -/

/-- R244, R245: an edge at TRIG_IN[i], fall telling its direction, step 8 ps steps after the present frame's boundary, as
tile t sees it. [note 55: DEDUCED] -/
def tinEdge (w : Work σ) (t i : Nat) (fall : Bool) (step : Nat) : Work σ :=
  if w.on (CAP_TIN_POL t i) != fall then w
  else
    let at_ := w.dev.ticks * 125 + step
    let recent := (w.cap t).tinLast.any (fun p => decide (p.1 = i) && decide (at_ < p.2 + 500))
    if recent then w.inc (CAP_TIN_DROP t i)
    else
      let w := w.updCap t (fun u => { u with tinLast := (i, at_) :: u.tinLast.filter (fun p => p.1 ≠ i) })
      let when_ := ((w.now * 125 + step : Nat) : Int) - sext 12 (w.get (CAP_TIN_DELAY t i))
      let n := when_.toNat
      let tau := n % 125 * 8
      capLocal w t (4 + i) (n / 125 + 24) (tau / 100) (tau % 100 / 8) none

/-- TRIG_IN_EDGE (R245). -/
def execTrigInEdge (i : Fin 8) (fall : Bool) (step : Fin 125) (s : State) : Host.Outcome State Fault Refusal :=
  run (fun w => w.each (List.range 32) (fun w t => tinEdge w t i fall step)) s

/-! ## Fire groups (R257 to R259) -/

/-- R257, R258: a message on the line at tile t; a unit ignores its own. A FIRE that comes while the unit is dead is lost, whenever its
point lies. [note 50: DEDUCED] -/
def msgAt (w : Work σ) (t : Nat) (m : TrigMsg) : Work σ :=
  if m.point.tile = t ∧ m.point.device = devNum w then w
  else if m.kind = 1 then
    (if condOn w t 13 then
      let p : CapPoint := ⟨m.point, 13, none, true⟩
      if capIsDead w t ∨ m.point.w ≤ w.now then capOccur w t p else w.updCap t (fun u => { u with future := u.future ++ [p] })
     else w)
  else if w.on (CAP_GROUP_MEMBER t) then
    w.updCap t (fun u => { u with garms := u.garms ++ [⟨max m.point.w (w.now + 1), decide (m.kind = 2), m.cls⟩] })
  else w

/-- TRIGGER_MESSAGE (R257): the oldest message on the line reaches every tile. -/
def triggerMessage (w : Work σ) : Work σ :=
  match w.dev.line with
  | [] => w
  | m :: ms => ({ w with dev := { w.dev with line := ms } }).each (List.range 32) (fun w t => msgAt w t m)

/-- TRIGGER_MESSAGE (R257). -/
def execTriggerMessage (s : State) : Host.Outcome State Fault Refusal := run triggerMessage s

/-- R259: the frame nearest to now whose low 24 bits are given. [note 57: DEDUCED] -/
def nearFrame (now low : Nat) : Nat :=
  let c := now / 2 ^ 24 * 2 ^ 24 + low
  if now + 2 ^ 23 < c then (if 2 ^ 24 ≤ c then c - 2 ^ 24 else c)
  else if c + 2 ^ 23 < now then c + 2 ^ 24
  else c

/-- R259: the message that a token carries. -/
def tokenMsg (w : Work σ) (k : Nat) : TrigMsg :=
  ⟨bits k 0 2, bits k 2 5, ⟨nearFrame w.now (bits k 7 24), bits k 31 4, bits k 35 4, bits k 39 5, bits k 44 6⟩⟩

/-- R363: whether a TRIG block's token passes its check. -/
def trigOk (b : Nat) : Bool :=
  decide (b % 256 = 0x55) && decide (b / 2 ^ 62 = 0) && decide (bits b 58 4 = crc4 53 (bits b 8 50) 0)

/-- Same origin, kind and frame (R259). -/
def sameToken (a b : TrigMsg) : Bool :=
  decide (a.kind = b.kind) && decide (a.point.w % 2 ^ 24 = b.point.w % 2 ^ 24) && decide (a.point.tile = b.point.tile)
    && decide (a.point.device = b.point.device)

/-- R259, R361, R363: the copies of a trigger token received on the lanes of a link: those that fail the check count, the first good
one goes on the line unless it copies an earlier one, and it is forwarded unless the same origin, kind and frame has come
before. [note 57: DEDUCED] -/
def triggerToken (w : Work σ) (l : Nat) (copies : List Nat) : Work σ :=
  let good := copies.filter trigOk
  let w := w.add (LINK_COUNT0_CRC_ERR l) (copies.length - good.length)
  if !w.on (CAP_XGROUP_EN 0) || !w.getBit (CAP_XLINKS 0) l then w
  else
    let w := w.add (CAP_XCOUNT_CHECK_ERR 0) (copies.length - good.length)
    match good with
    | [] => w
    | b :: _ =>
      let m := tokenMsg w (bits b 8 50)
      let w := w.inc (CAP_XCOUNT_RECEIVED 0)
      let seen := w.dev.tokensSeen.filter (fun x => w.dev.ticks ≤ x.2 + 1024)
      let copy := seen.any (fun x => sameToken x.1 m && decide (x.1.cls = m.cls))
      let w := { w with dev := { w.dev with tokensSeen := seen ++ [(m, w.dev.ticks)] } }
      if copy ∨ m.kind = 3 then w
      else
        let w : Work σ := { w with dev := { w.dev with line := w.dev.line ++ [m] } }
        if seen.any (fun x => sameToken x.1 m) then w else sendTokens w m (fun x => decide (x ≠ l))

/-- TRIGGER_TOKEN (R259). -/
def execTriggerToken (l : Fin 32) (copies : List (Fin 4 × BitVec 64)) (s : State) : Host.Outcome State Fault Refusal :=
  run (fun w => triggerToken w l (upCopies w l copies)) s

/-! ## Results and events at the unit (R241, R269) -/

/-- R241, R255: a presented result at the acquisition unit; one that does not fit in the slot of the record in hand, open or
closed, is left out of it. -/
def capResult (w : Work σ) (t k : Nat) (payload : List Byte) (tl : Nat) (ovr : Bool) : Work σ :=
  let c := capClass w t
  if capState w t ≠ IDLE ∧ w.get (CAPCLASS_SRC_FORMAT t c) = 3 ∧ w.getBit (CAPCLASS_SRC_CHMASK t c) k then
    let w' := w.updCap t (fun u => { u with results := u.results ++ [⟨tl, payload, ovr⟩] })
    match (w.cap t).rec_ with
    | some r =>
      if inRecord r tl ∧ slotHolds w t c ≤ (recordResults (w.cap t) r).length then
        (if capState w t = RECORDING then capTruncate w t 2 else capShorten w t 2)
      else if inRecord r tl ∧ ringBytes < (recordResults (w.cap t) r).length * 24 + 24 - r.moved then
        (if capState w t = RECORDING then capTruncate w t 1 else capShorten w t 1)
      else w'
    | none => w'
  else w

/-- R116, R119: the result of channel k's complete window is delivered, met by the acquisition unit, and kept in the channel's
registers. -/
def presentResult (w : Work σ) (t k : Nat) : Work σ :=
  match nextWindow w t k with
  | none => w
  | some (x, w1) =>
    if x.added < kdLen x.kdB then w
    else
      let r := resultOf w t k x
      let payload := resultPayload r.i r.q r.tl w.ntLo r.info
      resultRegs (capResult (deliverResult w1 t k x r payload) t k payload r.tl r.slot.ovr) t k r

/-- RESULT_PRESENTATION (R119). -/
def execResultPresentation (t : Fin 32) (k : Fin 8) (s : State) : Host.Outcome State Fault Refusal :=
  run (fun w => presentResult w t k) s

/-- R245, R269: the acquisition unit observes an event at input i of tile t. [note 54: DEDUCED] -/
def capObserve (w : Work σ) (t i gen : Nat) : Work σ :=
  if condOn w t 12 ∧ w.get (CAPCLASS_COND_EVIN t (capClass w t)) = i then capLocal w t 12 w.now 0 0 (some gen) else w

end Sys2Proof.Machine
end

