-- ==== Sys2Proof/Machine/Codec.lean ====
section
/-! DEFINITION. The block format of the compression engines (spec/16): RICE and LZ, coding and decoding, on bytes and bits. -/

namespace Sys2Proof.Machine

/-! ## Bits of a payload (R389) -/

/-- The low n bits of v, from bit 0 upward. [note 115: DEDUCED] -/
def bitsOf : Nat → Nat → List Bool
  | 0, _ => []
  | n + 1, v => (v % 2 == 1) :: bitsOf n (v / 2)

/-- The number that a list of bits spells, from bit 0 upward. -/
def ofBits : List Bool → Nat
  | [] => 0
  | b :: bs => b2n b + 2 * ofBits bs

/-- R389: bits filling each byte from bit 0 upward, and zeros to its end; n bounds the bytes. -/
def packBits : Nat → List Bool → List Byte
  | 0, _ => []
  | n + 1, bs => if bs = [] then [] else BitVec.ofNat 8 (ofBits (bs.take 8)) :: packBits n (bs.drop 8)

def unpackBits (bs : List Byte) : List Bool := bs.flatMap (fun b => bitsOf 8 b.toNat)

/-! ## Elements (R387) and residuals (R388) -/

/-- R387: how a payload of a number of bytes divides: the width of an element, the number of elements, and the bytes after the
last whole element or unit. -/
def elemWidth (elem : Nat) : Nat := if elem = 0 then 16 else 12
def elemCount (elem len : Nat) : Nat := if elem = 0 then len / 2 else len / 16 * 10
def tailCount (elem len : Nat) : Nat := if elem = 0 then len % 2 else len % 16

/-- The ten codes of a 16-byte unit in the RAW12 layout (R241). -/
def unitCodes (u : List Byte) : List Nat := (List.range 10).map (fun k => bits (ofLe (u.take 15)) (12 * k) 12)

/-- R387: the elements of bytes, each with the raw byte that follows it when it ends a unit; n bounds the elements. -/
def elements (elem : Nat) : Nat → List Byte → List (Nat × Option Byte)
  | 0, _ => []
  | n + 1, bs =>
    if elem = 0 then (ofLe (bs.take 2), none) :: elements elem n (bs.drop 2)
    else
      let cs := unitCodes bs
      ((cs.take 9).map (fun c => (c, none))) ++ ((cs.drop 9).map (fun c => (c, some (bs.getD 15 0))))
        ++ elements elem n (bs.drop 16)

/-- R388: the predicted value of an element from those before it, newest first. -/
def predict (order s : Nat) (prev : List Nat) : Int :=
  let a : Int := prev.getD (s - 1) 0
  let b : Int := prev.getD (2 * s - 1) 0
  if order = 0 then 0 else if order = 1 then a else 2 * a - b

/-- R388: the number u of a residual. -/
def foldSign (w : Nat) (r : Int) : Nat :=
  let r := sext w (toField w r)
  if 0 ≤ r then (2 * r).toNat else (-2 * r - 1).toNat

/-- R388: the residual of a number u. -/
def unfoldSign (u : Nat) : Int := if u % 2 = 0 then (u / 2 : Nat) else -((u / 2 + 1 : Nat) : Int)

/-- The numbers u of the elements in order; prev holds the elements before, newest first. -/
def residuals (w order s : Nat) : List Nat → List Nat → List Nat
  | _, [] => []
  | prev, x :: xs => foldSign w ((x : Int) - predict order s prev) :: residuals w order s ((x :: prev).take (2 * s)) xs

/-! ## RICE (R389) -/

/-- R389: the bits of one number u under k. -/
def riceElem (w k u : Nat) : List Bool :=
  if k = 15 then bitsOf w u
  else if 24 ≤ u / 2 ^ k then List.replicate 24 true ++ bitsOf w u
  else List.replicate (u / 2 ^ k) true ++ false :: bitsOf k u

/-- The number of bits that a partition takes under k. -/
def riceCost (w k : Nat) (us : List Nat) : Nat :=
  us.foldl (fun n u => n + (if k = 15 then w else if 24 ≤ u / 2 ^ k then 24 + w else u / 2 ^ k + 1 + k)) 0

/-- R389: the k that codes a partition in the fewest bits, the lowest on a tie. -/
def riceK (w : Nat) (us : List Nat) : Nat :=
  (List.range 16).foldl (fun best k => if riceCost w k us < riceCost w best us then k else best) 0

/-- R389: the partitions of 32 elements; n bounds them. -/
def riceParts (w : Nat) : Nat → List (Nat × Option Byte) → List Bool
  | 0, _ => []
  | n + 1, es =>
    if es = [] then []
    else
      let p := es.take 32
      let k := riceK w (p.map (·.1))
      bitsOf 4 k
        ++ p.flatMap (fun e => riceElem w k e.1 ++ (match e.2 with | some b => bitsOf 8 b.toNat | none => []))
        ++ riceParts w n (es.drop 32)

/-- The RICE payload of bytes (R387 to R389). [note 115: DEDUCED] -/
def riceEncode (order elem s : Nat) (bs : List Byte) : List Byte :=
  let w := elemWidth elem
  let es := elements elem (if elem = 0 then bs.length / 2 else bs.length / 16) bs
  let us := residuals w order s [] (es.map (·.1))
  let out := riceParts w (es.length + 1) (us.zip (es.map (·.2)))
    ++ (bs.drop (bs.length - tailCount elem bs.length)).flatMap (fun b => bitsOf 8 b.toNat)
  packBits out.length out

/-- What a decoder finds in a block (R392). -/
inductive Decoded where
  | good (out : List Byte)
  | expand | short | format
  deriving DecidableEq, Repr

/-- n bits taken, or none when the payload has fewer. -/
def takeBits (n : Nat) (bs : List Bool) : Option (Nat × List Bool) :=
  if bs.length < n then none else some (ofBits (bs.take n), bs.drop n)

/-- The one-bits of a prefix up to n, and what follows them; none when the payload ends among them. -/
def takeOnes : Nat → List Bool → Option (Nat × List Bool)
  | 0, bs => some (0, bs)
  | _ + 1, [] => none
  | _ + 1, false :: bs => some (0, false :: bs)
  | n + 1, true :: bs => (takeOnes n bs).map (fun r => (r.1 + 1, r.2))

/-- R389: one number u read under k. -/
def riceTake (w k : Nat) (bs : List Bool) : Option (Nat × List Bool) :=
  if k = 15 then takeBits w bs
  else
    match takeOnes 24 bs with
    | none => none
    | some (q, r) =>
      if q = 24 then takeBits w r
      else (takeBits k (r.drop 1)).map (fun p => (q * 2 ^ k + p.1, p.2))

/-- Elements read from the bits: n are left, i is the index of the next, prev those before (newest first). The result is every
element with the raw byte behind it, newest first. -/
def riceRead (w order s elem : Nat) : Nat → Nat → Nat → List (Nat × Nat) → List Bool → Option (List (Nat × Nat) × List Bool)
  | 0, _, _, acc, bs => some (acc, bs)
  | n + 1, i, k, acc, bs =>
    match (if i % 32 = 0 then takeBits 4 bs else some (k, bs)) with
    | none => none
    | some (k, bs) =>
      match riceTake w k bs with
      | none => none
      | some (u, bs) =>
        let x := toField w (unfoldSign u + predict order s ((acc.take (2 * s)).map (·.1)))
        if elem = 1 ∧ i % 10 = 9 then
          match takeBits 8 bs with
          | none => none
          | some (b, bs) => riceRead w order s elem n (i + 1) k ((x, b) :: acc) bs
        else riceRead w order s elem n (i + 1) k ((x, 0) :: acc) bs

/-- The bytes of elements in order; n bounds the units. -/
def unelements (elem : Nat) : Nat → List (Nat × Nat) → List Byte
  | 0, _ => []
  | n + 1, es =>
    if es = [] then []
    else if elem = 0 then leBytes 2 ((es.map (·.1)).headD 0) ++ unelements elem n (es.drop 1)
    else
      let u := es.take 10
      leBytes 15 (u.foldr (fun e v => e.1 + 2 ^ 12 * v) 0) ++ leBytes 1 ((u.map (·.2)).getLastD 0)
        ++ unelements elem n (es.drop 10)

/-- R392: a RICE payload decoded to outLen bytes. -/
def riceDecode (order elem s outLen : Nat) (payload : List Byte) : Decoded :=
  let w := elemWidth elem
  let n := elemCount elem outLen
  match riceRead w order s elem n 0 0 [] (unpackBits payload) with
  | none => .short
  | some (acc, bs) =>
    let t := tailCount elem outLen
    match takeBits (8 * t) bs with
    | none => .short
    | some (v, rest) =>
      if 8 ≤ rest.length ∨ rest.any id then .format
      else .good (unelements elem n acc.reverse ++ leBytes t v)

/-! ## LZ (R391) -/

/-- n bytes copied from D bytes back in the output, newest first, so that a match may overlap itself. -/
def lzCopy (d : Nat) : Nat → List Byte → List Byte
  | 0, out => out
  | n + 1, out => lzCopy d n (out.getD (d - 1) 0 :: out)

/-- R391, R392: items read; out is the output so far, newest first, of a number of bytes; fuel bounds the items. -/
def lzRead (outLen : Nat) : Nat → Nat → List Byte → List Byte → Decoded
  | 0, _, _, _ => .short
  | fuel + 1, have_, out, bs =>
    if have_ = outLen then (if bs = [] then .good out.reverse else .format)
    else
      match bs with
      | [] => .short
      | c :: r =>
        if c.toNat < 0x80 then
          let n := c.toNat + 1
          if outLen < have_ + n then .expand
          else if r.length < n then .short
          else lzRead outLen fuel (have_ + n) ((r.take n).reverse ++ out) (r.drop n)
        else
          let n := c.toNat % 128 + 3
          let d := ofLe (r.take 2)
          if outLen < have_ + n then .expand
          else if r.length < 2 then .short
          else if d = 0 ∨ have_ < d then .format
          else lzRead outLen fuel (have_ + n) (lzCopy d n out) (r.drop 2)

def lzDecode (outLen : Nat) (payload : List Byte) : Decoded := lzRead outLen (payload.length + 1) 0 [] payload

/-! ## Blocks (R386, R392) -/

def BLK_STORED : Nat := 0
def BLK_RICE : Nat := 1
def BLK_LZ : Nat := 2

/-- R386: the eight header bytes of a block. -/
def blockHeader (mode param outLen inLen : Nat) (last fallback : Bool) : List Byte :=
  let h := leBytes 1 mode ++ leBytes 1 param ++ leBytes 2 (outLen - 1) ++ leBytes 2 (inLen - 1)
    ++ leBytes 1 (b2n last + 2 * b2n fallback)
  h ++ leBytes 1 (crc8 h)

/-- R386, R392: whether a header is one that a decompressor decodes. [note 116: DEDUCED] -/
def blockHeaderOk (h : List Byte) : Bool :=
  let mode := ofLe (slice h 0 1)
  let param := ofLe (slice h 1 1)
  decide (ofLe (slice h 7 1) = crc8 (h.take 7)) && decide (mode ≤ 2) && decide (ofLe (slice h 6 1) < 4)
    && (if mode = BLK_RICE then decide (param % 4 ≠ 3) else decide (param = 0))
    && (decide (mode ≠ BLK_STORED) || decide (ofLe (slice h 2 2) = ofLe (slice h 4 2)))

/-- The payload length of a header. -/
def blockInLen (h : List Byte) : Nat := ofLe (slice h 4 2) + 1
def blockOutLen (h : List Byte) : Nat := ofLe (slice h 2 2) + 1

/-- R392: a payload decoded under its header. -/
def payloadDecode (mode param outLen : Nat) (payload : List Byte) : Decoded :=
  if mode = BLK_STORED then .good payload
  else if mode = BLK_RICE then riceDecode (param % 4) (bits param 2 1) (bits param 3 5 + 1) outLen payload
  else lzDecode outLen payload

/-- R392: a block decoded. -/
def blockDecode (h payload : List Byte) : Decoded :=
  if !blockHeaderOk h then .format
  else if payload.length < blockInLen h then .short
  else payloadDecode (ofLe (slice h 0 1)) (ofLe (slice h 1 1)) (blockOutLen h) payload

/-- R386: whether compressed bytes hold a whole block, or a header that fails at once. -/
def blockReady (c : List Byte) : Bool :=
  decide (8 ≤ c.length) && (!blockHeaderOk (c.take 8) || decide (8 + blockInLen c ≤ c.length))

end Sys2Proof.Machine
end

