-- ==== Sys2Proof/Machine/Loader.lean ====
section
/-! DEFINITION. The image loader's core (spec/13): its byte stream from the host or from flash, the failure of an image, flash
operations and fuses. -/

namespace Sys2Proof.Machine

variable {σ : State}

def Work.ld (w : Work σ) : LoaderSt := w.dev.loader

def Work.updLd (w : Work σ) (f : LoaderSt → LoaderSt) : Work σ := { w with dev := { w.dev with loader := f w.dev.loader } }

/-- R332: states of the loader. -/
def LD_IDLE : Nat := 0
def LD_LOADING : Nat := 1
def LD_PENDING : Nat := 2
def LD_SWAPPING : Nat := 3
def LD_ERROR : Nat := 4

def ldState (w : Work σ) : Nat := w.get LOADER_STATE_STATE

/-- R312: causes of a failure. -/
def F_HEADER : Nat := 1
def F_BODY : Nat := 2
def F_ORDER : Nat := 3
def F_PART : Nat := 4
def F_CHECK : Nat := 5
def F_STATE : Nat := 6
def F_LATE : Nat := 7
def F_SIG_BAD : Nat := 8
def F_SIG_MISSING : Nat := 9
def F_DECOMP : Nat := 10
def F_EPOCH : Nat := 11
def F_HOST_ABORT : Nat := 12
def F_FLASH : Nat := 13

/-- R37, R215: whether a tile is released. -/
def tileReleased (w : Work σ) (t : Nat) : Bool :=
  decide (w.get (SEQ_STATE_STATE t) = RUN) || decide (w.get (SEQ_STATE_STATE t) = DRAINING)

def anyReleased (w : Work σ) : Bool := (List.range 32).any (tileReleased w)

/-! ## Frames in the stream (R307) -/

/-- The payload length that a header names, 0 where it breaks R307 so that no payload is waited for. -/
def frameLength (h : List Byte) : Nat :=
  let n := ofLe (slice h 16 4)
  if n ≤ 65536 ∧ n % 4 = 0 then n else 0

/-- Whether the stream holds a whole frame. -/
def frameReady (buf : List Byte) : Bool :=
  decide (24 ≤ buf.length) && decide (24 + frameLength buf ≤ buf.length)

/-! ## The host's stream (R328, R329) -/

/-- The queue whose consumer is IMAGE (R280, R281), as tile and index. -/
def imageQueue (w : Work σ) : Option (Nat × Nat) :=
  ((List.range 32).flatMap (fun t => (List.range 128).map (fun i => (t, i)))).find? (fun q =>
    qEnabled w q.1 q.2 && decide (w.get (QT_CFG_CONSUMER q.1 q.2) = CONSUMER_IMAGE))

/-- R396: the lowest-numbered free decompressor. -/
def decFree (js : List DecJob) : Option Nat := (List.range 8).find? (fun i => js.all (fun j => decide (j.inst ≠ i)))

/-- R386: whether the block at the front of the compressed bytes is the last of its image. -/
def isLastBlock (c : List Byte) : Bool := blockHeaderOk (c.take 8) && bit (ofLe (slice c 6 1)) 0

/-- R386, R396: the next block of the image, once whole (or, where cut, all that the image has left of it), goes to the
lowest-numbered free decompressor. What lies behind the last block is discarded. [note 116: DEDUCED] -/
def decHand (cut : Bool) (l : LoaderSt) : LoaderSt :=
  if l.comp ∧ !l.ended ∧ !l.lastBlock ∧ (blockReady l.cbuf || (cut && decide (l.cbuf ≠ []))) then
    match decFree l.dec with
    | some i => { l with
        dec := l.dec ++ [⟨i, l.cbuf.take (8 + blockInLen l.cbuf), none⟩]
        cbuf := if isLastBlock l.cbuf then [] else l.cbuf.drop (8 + blockInLen l.cbuf)
        lastBlock := isLastBlock l.cbuf }
    | none => l
  else l

/-- One IMAGE entry removed from the loader's queue: its 24 payload bytes. -/
def imageEntry (w : Work σ) : Option (List Byte) × Work σ :=
  match imageQueue w with
  | none => (none, w)
  | some (t, i) =>
    let (e, w) := qTake w t i (fun y => decide (y = 0x20))
    (e.map entryPayload, w)

/-- R328: what the loader does next with the host's stream, and whether it goes on: in ERROR it discards entries, in IDLE it begins an
image with the next one, in LOADING it takes entries until the next frame or compressed block is whole, and none behind the last block. Entries that it does not
accept leave the queue on the way (R284, R285). -/
def loaderStep (w : Work σ) : Bool × Work σ :=
  let take := fun (f : Work σ → List Byte → Work σ) =>
    match imageEntry w with
    | (some b, w) => (true, f w b)
    | (none, w) => (false, w)
  if w.ld.boot ≠ .open_ then (false, w)
  else if ldState w = LD_ERROR then take (fun w _ => w)
  else if ldState w = LD_IDLE then
    take (fun w b =>
      let comp := w.on LOADER_CTRL_HOST_COMP
      ((w.set LOADER_STATE_STATE LD_LOADING).set LOADER_STATE_SOURCE 3).updLd (fun l => { l with
        source := 3, comp := comp, buf := if comp then [] else b, cbuf := if comp then b else [], ended := false })
        |>.updLd (decHand false))
  else if ldState w = LD_LOADING ∧ w.ld.source = 3 ∧ !w.ld.ended then
    (if frameReady w.ld.buf || (w.ld.comp && (w.ld.lastBlock || blockReady w.ld.cbuf)) then (false, w)
     else take (fun w b => w.updLd (fun l =>
       if l.comp then decHand false { l with cbuf := l.cbuf ++ b } else { l with buf := l.buf ++ b })))
  else (false, w)

/-- The loader takes what it can from its queue; n bounds the entries. [note 83: DEDUCED] -/
def loaderTake : Nat → Work σ → Work σ
  | 0, w => w
  | n + 1, w =>
    let (more, w) := loaderStep w
    if more then loaderTake n w else w

/-- R328: the loader takes IMAGE entries as soon as they arrive. -/
def loaderPull (w : Work σ) : Work σ :=
  match imageQueue w with
  | none => w
  | some (t, i) => loaderTake (qFill w t i) w

/-! ## Failure and end of an image (R312, R327, R328) -/

/-- Everything that belongs to one image, gone. R450: the image after one that has begun meets no pause. -/
def ldClear (l : LoaderSt) : LoaderSt :=
  { l with
    comp := false, buf := [], cbuf := [], dec := [], flashLeft := 0, nextSeq := none, body := false, signed := false, imageId := 0
    holding := false, paused := l.paused || l.nextSeq.isSome, shadows := [], code := [], patch := [], commit := none, ended := false, lastBlock := false
    commitHeld := false, verifying := false
    stream := [], sig := [], dueTick := none, awaitEdge := false }

/-- R314: no tile is held any longer, by the loader or at a swap word. [note 127: DEDUCED] -/
def releaseHolds (w : Work σ) : Work σ :=
  w.each (List.range 32) (fun w t => (w.set (CODE_HELD t) 0).updTile t (fun x => { x with
    seq := { x.seq with swapping := false } }))

/-- The loader returns to IDLE and takes entries from the host (R327, R328). [note 83: DEDUCED] -/
def loaderIdle (w : Work σ) : Work σ :=
  loaderPull (((w.set LOADER_STATE_STATE LD_IDLE).set LOADER_STATE_SOURCE 0).updLd (fun l => { ldClear l with
    source := 0, boot := .open_, otherSlot := none }))

/-- The first flash byte of slot s (R324). -/
def slotBase (s : Nat) : Nat := s * 0x04000000

/-- R324: whether slot s holds a valid descriptor. -/
def slotValid (w : Work σ) (s : Nat) : Bool :=
  let d := w.flBytes (slotBase s) 64
  decide (ofLe (slice d 0 4) = 0x2F5A1B3C) && decide (ofLe (slice d 60 4) = crc32 (d.take 60)) &&
    decide (ofLe (slice d 8 4) ≤ 0x03FFF000) && decide (ofLe (slice d 12 1) < 2) && decide (ofLe (slice d 13 47) = 0)

def slotGen (w : Work σ) (s : Nat) : Nat := ofLe (w.flBytes (slotBase s + 4) 4)

/-- R324, R327: the loader begins to read the image of slot s. -/
def loadSlot (w : Work σ) (s : Nat) (other : Option Nat) : Work σ :=
  let len := ofLe (w.flBytes (slotBase s + 8) 4)
  let w := (w.set LOADER_BOOT_INFO_SLOT s).set LOADER_BOOT_GEN (slotGen w s)
  let comp := decide (ofLe (w.flBytes (slotBase s + 12) 1) % 2 = 1)
  ((w.set LOADER_STATE_STATE LD_LOADING).set LOADER_STATE_SOURCE (1 + s)).updLd (fun l => { ldClear l with
    source := 1 + s, comp := comp, flashPos := slotBase s + 0x1000, flashLeft := len, otherSlot := other })

/-- R312, R327, R332: the image fails with a cause and the SEQ of its frame, and P is again that of the last commit applied.
[note 127: DEDUCED] -/
def imageFail (w : Work σ) (cause seq : Nat) : Work σ :=
  let w := ((w.set LOADER_ERROR_VALID 1).set LOADER_ERROR_CAUSE cause).set LOADER_ERROR_SEQ seq
  let w := ((w.errlog 0x05 .hardware devTile cause seq).fire 502).inc LOADER_COUNT_ERRORS
  let w := ((releaseHolds w).set LOADER_SWAP_PEND 0).set LOADER_P (w.get LOADER_P_APPLIED)
  let src := w.ld.source
  if src = 1 ∨ src = 2 then
    match w.ld.otherSlot with
    | some s => loadSlot (w.set LOADER_BOOT_INFO_FALLBACK 1) s none
    | none => loaderIdle w
  else loaderPull ((w.set LOADER_STATE_STATE LD_ERROR).updLd (fun l => ldClear l))

/-- The SEQ of the frame that the loader took last. -/
def lastSeq (w : Work σ) : Nat := (w.ld.nextSeq.getD 1) - 1

/-- R327: the start-up load from flash: the loader chooses a slot, or fails with cause FLASH. -/
def flashLoad (w : Work σ) : Work σ :=
  if w.ld.boot = .flash ∧ w.on DEV_STATUS_PLL_LOCK ∧ ldState w = LD_IDLE ∧ !w.on LOADER_FLASH_CTRL_BUSY ∧
      !w.on THERM_STORM_TRIPPED then
    let v0 := slotValid w 0
    let v1 := slotValid w 1
    let w := (w.setB LOADER_BOOT_INFO_SLOT0_VALID v0).setB LOADER_BOOT_INFO_SLOT1_VALID v1
    if v0 ∧ v1 then
      (if seqBefore (slotGen w 0) (slotGen w 1) then loadSlot w 1 (some 0) else loadSlot w 0 (some 1))
    else if v0 then loadSlot w 0 none
    else if v1 then loadSlot w 1 none
    else imageFail (w.updLd (fun l => { l with source := 1, otherSlot := none })) F_FLASH 0
  else w

/-- FLASH_LOAD (R327). -/
def execFlashLoad (s : State) : Host.Outcome State Fault Refusal := run flashLoad s

/-- n bytes moved from the flash image to the stream, as far as it has them. -/
def flashMove (w : Work σ) (n : Nat) : Work σ :=
  let k := min n w.ld.flashLeft
  let bs := w.flBytes w.ld.flashPos k
  w.updLd (fun l => { l with
    buf := if l.comp then l.buf else l.buf ++ bs
    cbuf := if l.comp then l.cbuf ++ bs else l.cbuf
    flashPos := l.flashPos + k, flashLeft := l.flashLeft - k })

/-- R438: whether the loader is reading the flash for a load. -/
def flashLoading (w : Work σ) : Bool :=
  (decide (w.ld.source = 1) || decide (w.ld.source = 2)) && decide (ldState w = LD_LOADING) && !w.ld.ended &&
    !w.on THERM_STORM_TRIPPED

/-- The next frame (or compressed block) of a flash load read into the stream. -/
def flashFill (w : Work σ) : Work σ :=
  if flashLoading w then
    if w.ld.comp then
      (if frameReady w.ld.buf || w.ld.lastBlock then w
       else
         let w := flashMove w (8 - w.ld.cbuf.length)
         if blockHeaderOk (w.ld.cbuf.take 8) then flashMove w (8 + blockInLen w.ld.cbuf - w.ld.cbuf.length) else w)
    else
      let w := flashMove w (24 - w.ld.buf.length)
      flashMove w (24 + frameLength w.ld.buf - w.ld.buf.length)
  else w

/-- R396: blocks of the image read and handed to free decompressors; n bounds them. -/
def decPrime : Nat → Work σ → Work σ
  | 0, w => w
  | n + 1, w =>
    let w := flashFill w
    decPrime n (w.updLd (decHand (flashLoading w && decide (w.ld.flashLeft = 0))))

/-- R318, R319, R451: the boundary at which the pending commit applies has come. [note 84: DEDUCED] -/
def pointDue (w : Work σ) : Bool :=
  decide (ldState w = LD_PENDING) && (match w.ld.dueTick with
    | some d => decide (d ≤ w.dev.ticks)
    | none => !w.ld.awaitEdge && w.dev.epochZero.isNone && w.tl.running && decide (w.get LOADER_P ≤ w.now))

/-! ## Control writes (R321, R328) -/

/-- R321: whether a pending commit is far enough from its point to be stopped. [note 84: DEDUCED] -/
def abortInTime (w : Work σ) : Bool :=
  w.ld.awaitEdge || (match w.ld.dueTick with
    | some d => decide (w.dev.ticks + 256 < d)
    | none => decide (w.now + 256 < w.get LOADER_P))

/-- R321: a write of LOADER.CTRL.ABORT. -/
def loaderAbort (w : Work σ) (path : Path) : Work σ :=
  if ldState w = LD_LOADING ∨ (ldState w = LD_PENDING ∧ abortInTime w) then imageFail w F_HOST_ABORT (lastSeq w)
  else w.ignored path LOADER_CTRL_ABORT

/-- R328: a write of LOADER.CTRL.CLEAR: queued IMAGE entries are discarded, and the loader leaves ERROR. -/
def loaderClear (w : Work σ) : Work σ :=
  if ldState w = LD_ERROR then
    loaderPull (((loaderPull w).set LOADER_STATE_STATE LD_IDLE).set LOADER_STATE_SOURCE 0)
  else w

/-- R332: a write to LOADER.CTRL. -/
def loaderCtrlWrite (w : Work σ) (path : Path) (v : Nat) : Work σ :=
  let w := w.set LOADER_CTRL_HOST_COMP (bits v 2 1)
  let w := if bit v 1 then loaderClear w else w
  if bit v 0 then loaderAbort w path else w

/-! ## Flash operations (R326, R438) -/

/-- R326, R438: a write to LOADER.FLASH_CTRL. -/
def flashCtrlWrite (w : Work σ) (path : Path) (v : Nat) : Work σ :=
  if bit v 0 ∧ !w.on THERM_STORM_TRIPPED ∧ (w.on LOADER_FLASH_CTRL_BUSY ∨ flashLoading w) then
    w.reject path LOADER_FLASH_CTRL_GO.addr
  else
    let w := w.set LOADER_FLASH_CTRL_OP (bits v 2 2)
    if bit v 0 then
      if w.on THERM_STORM_TRIPPED then (w.set THERM_STORM_FLASH_BLOCKED 1).ignored path LOADER_FLASH_CTRL_GO
      else if bits v 2 2 = 0 then w
      else (w.set LOADER_FLASH_CTRL_BUSY 1).updLd (fun l => { l with
        flashOp := some (bits v 2 2, w.get LOADER_FLASH_ADDR), flashOps := l.flashOps + 1 })
    else w

/-- The 256 bytes of the page buffer. -/
def flashBuf (w : Work σ) : List Byte := (List.range 64).flatMap (fun n => leBytes 4 (w.get (LOADER_FLASH_BUF n)))

/-- R326: a byte programmed. What a byte that was not erased holds afterwards is open. [note 85: DESIGN CHOICE] -/
def programByte (w : Work σ) (a : Nat) (b : Byte) : Work σ :=
  if w.fl8 a = 0xFF then w.flSet a b else w.flSet a (BitVec.ofNat 8 (Config.flashByte a w.ld.flashOps))

/-- R326: the flash operation that runs completes. -/
def flashDone (w : Work σ) : Work σ :=
  match w.ld.flashOp with
  | none => w
  | some (op, a) =>
    let page := a / 256 * 256
    let w := (w.set LOADER_FLASH_CTRL_BUSY 0).updLd (fun l => { l with flashOp := none })
    if op = 1 then w.flErase [(a / 65536 * 65536, a / 65536 * 65536 + 65536)]
    else if op = 2 then w.each (List.range 256) (fun w i => programByte w (page + i) ((flashBuf w).getD i 0))
    else w.each (List.range 64) (fun w n => w.set (LOADER_FLASH_BUF n) (ofLe (w.flBytes (page + 4 * n) 4)))

/-- FLASH_OP_DONE (R326). -/
def execFlashOpDone (s : State) : Host.Outcome State Fault Refusal := run flashDone s

/-- R438: Storm meets a flash operation: a page program runs on, an erase leaves its sector undefined, a read stops. -/
def stormFlash (w : Work σ) : Work σ :=
  match w.ld.flashOp with
  | none => w
  | some (op, a) =>
    if op = 2 then w
    else
      let w := (w.set LOADER_FLASH_CTRL_BUSY 0).updLd (fun l => { l with flashOp := none })
      if op = 1 then
        w.each (List.range 65536) (fun w i =>
          w.flSet (a / 65536 * 65536 + i) (BitVec.ofNat 8 (Config.flashByte (a / 65536 * 65536 + i) w.ld.flashOps)))
      else w

/-! ## Fuses (R331) -/

/-- R331: a write to LOADER.FUSE_PROG. [notes 86: DEDUCED, 130: DEDUCED] -/
def fuseProgWrite (w : Work σ) (path : Path) (v : Nat) : Work σ :=
  if path ≠ .jtag ∨ anyReleased w then w.reject path LOADER_FUSE_PROG_PROG_HASH.addr
  else if w.on LOADER_FUSE_PROG_BUSY then w.ignored path LOADER_FUSE_PROG_PROG_HASH
  else
    let hash := bit v 0 && !w.fuse.hashSet
    let sign := bit v 1 && w.fuse.hashSet
    if hash || sign then
      ((w.set LOADER_FUSE_PROG_BUSY 1).setB FUSE_HASH hash).setB FUSE_SIGN sign
    else w

/-- R331: a write to LOADER.FUSE_DATA, which the JTAG port alone may make. [note 86: DEDUCED] -/
def fuseDataWrite (w : Work σ) (path : Path) (n v : Nat) : Work σ :=
  if path = .jtag then w.set (LOADER_FUSE_DATA n) v else w.reject path (LOADER_FUSE_DATA n).addr

/-- The 48 bytes of FUSE_DATA, least significant first. -/
def fuseData (w : Work σ) : List Byte := (List.range 12).flatMap (fun n => leBytes 4 (w.get (LOADER_FUSE_DATA n)))

/-- R331: the fuses once the programming that runs has completed: no bit returns to 0. [note 130: DEDUCED] -/
def fuseBurn (w : Work σ) (f : Fuses) : Fuses :=
  if w.on LOADER_FUSE_PROG_BUSY then
    { f with
      keyHash := if w.on FUSE_HASH && !f.hashSet then fuseData w else f.keyHash
      hashSet := f.hashSet || w.on FUSE_HASH
      signRequired := f.signRequired || (w.on FUSE_SIGN && f.hashSet) }
  else f

/-- FUSE_PROGRAMMING_DONE (R331). -/
def execFuseProgrammingDone (s : State) : Host.Outcome State Fault Refusal :=
  runFuse fuseBurn (fun w =>
    if w.on LOADER_FUSE_PROG_BUSY then ((w.set LOADER_FUSE_PROG_BUSY 0).set FUSE_HASH 0).set FUSE_SIGN 0 else w) s

end Sys2Proof.Machine
end

