-- ==== Sys2Proof/Machine/Compress.lean ====
section
/-! DEFINITION. The decompressors at the image loader (R329, R392, R396). The compressors stand with the transport that they
serve. -/

namespace Sys2Proof.Machine

variable {σ : State}

/-- R392: a block that decompressor i has failed with a cause (1 EXPAND_LIMIT, 2 SHORT, 3 FORMAT). [note 116: DEDUCED] -/
def decompFail (w : Work σ) (i cause : Nat) : Work σ :=
  let w := w.inc (if cause = 1 then COMP_D_ERR_EXPAND i else if cause = 2 then COMP_D_ERR_SHORT i else COMP_D_ERR_FORMAT i)
  let w := if w.on COMP_LAST_ERR_VALID then w
    else ((w.set COMP_LAST_ERR_VALID 1).set COMP_LAST_ERR_CAUSE cause).set COMP_LAST_ERR_INST i
  if w.on COMP_STATUS_DECOMP_ERR then w else (w.set COMP_STATUS_DECOMP_ERR 1).fire 485

/-- R396: the output of the blocks that are decoded joins the frame stream, strictly in block order. -/
def decDeliver (l : LoaderSt) : LoaderSt :=
  { l with
    buf := l.buf ++ (l.dec.takeWhile (fun j => j.out.isSome)).flatMap (fun j => j.out.getD [])
    dec := l.dec.dropWhile (fun j => j.out.isSome) }

/-- R329, R392, R396: decompressor i decodes its block of a compressed image: the loader takes its output once every block before it
is in, or the image fails with cause DECOMP. [note 116: DEDUCED] -/
def decompressBlock (w : Work σ) (i : Nat) : Work σ :=
  let w := decPrime 8 w
  match w.ld.dec.find? (fun j => decide (j.inst = i) && j.out.isNone) with
  | none => w
  | some j =>
    match blockDecode (j.block.take 8) (slice j.block 8 (blockInLen j.block)) with
    | .good out =>
      let w := (w.inc (COMP_D_BLOCKS i)).updLd (fun l => decDeliver { l with
        dec := l.dec.map (fun x => if x.inst = i then { x with out := some out } else x) })
      loaderPull (decPrime 8 w)
    | .expand => imageFail (decompFail w i 1) F_DECOMP (lastSeq w)
    | .short => imageFail (decompFail w i 2) F_DECOMP (lastSeq w)
    | .format => imageFail (decompFail w i 3) F_DECOMP (lastSeq w)

/-- DECOMPRESS_BLOCK (R392). -/
def execDecompressBlock (i : Fin 8) (s : State) : Host.Outcome State Fault Refusal :=
  run (fun w => decompressBlock w i) s

end Sys2Proof.Machine
end

