-- ==== Sys2Proof/Machine/Operands.lean ====
section
/-! DEFINITION. The microword (spec/08): its bits in the control store, its parity, its fields, the illegal encodings, and
the entries that its slots issue. A word is the number of its 224 bits. -/

namespace Sys2Proof.Machine

variable {σ : State}

/-! ## Control store and parity -/

/-- R188: word a of tile t's control store. -/
def csWord (w : Work σ) (t a : Nat) : Nat := w.rdLe (tileBase t + 0x40000 + 32 * (a % 4096)) 28

/-- R189: one bit for each parity group that a word fails. -/
def parityFail (x : Nat) : Nat :=
  (List.range 4).foldl (fun m g =>
    if (popcount 55 (bits x (55 * g + 4) 55) + b2n (bit x g)) % 2 = 1 then m + 2 ^ g else m) 0

/-! ## Fields (R191) -/

def mwSeq (x : Nat) : Nat := bits x 220 4
def mwTarget (x : Nat) : Nat := bits x 208 12
def mwCond (x : Nat) : Nat := bits x 202 6
def mwSafe (x : Nat) : Bool := bit x 201
def mwFence (x : Nat) : Bool := bit x 200
def mwDt (x : Nat) : Nat := bits x 180 20
def mwSub (x : Nat) : Nat := bits x 176 4
def mwXya (x : Nat) : Nat := bits x 162 14
def mwXyb (x : Nat) : Nat := bits x 148 14
def mwFlx (x : Nat) : Nat := bits x 134 14
def mwMask (x : Nat) : Nat := bits x 126 8
def mwKsel (x : Nat) : Nat := bits x 122 4
def mwRdoOp (x : Nat) : Nat := bits x 120 2
def mwDid (x : Nat) : Nat := bits x 116 4
def mwDecOp (x : Nat) : Nat := bits x 112 4
def mwDecArg (x : Nat) : Nat := bits x 108 4
def mwDsp (x : Nat) : Nat := bits x 84 24
def mwAgu (x slot : Nat) : Nat := bits x (68 + 8 * slot) 8
def mwEvtOp (x : Nat) : Nat := bits x 66 2
def mwLine (x : Nat) : Nat := bits x 60 6
def mwEvtArg (x : Nat) : Nat := bits x 58 2
def mwQueOp (x : Nat) : Nat := bits x 55 3
def mwQueue (x : Nat) : Nat := bits x 46 9
def mwQueArg (x : Nat) : Nat := bits x 42 4
def mwCapOp (x : Nat) : Nat := bits x 39 3
def mwClass (x : Nat) : Nat := bits x 34 5
def mwLoopSel (x : Nat) : Nat := bits x 32 2
def mwLoopOp (x : Nat) : Nat := bits x 30 2
def mwLoopVal (x : Nat) : Nat := bits x 24 6
def mwImm (x : Nat) : Nat := bits x 4 20

/-- Sub-fields of an engine slot (R191): ENG, TPL and OP of its 14 bits. -/
def slotEng (v : Nat) : Nat := bits v 11 3
def slotTpl (v : Nat) : Nat := bits v 4 7
def slotOp (v : Nat) : Nat := bits v 0 4

/-- The DSP field, R134. -/
def dspOp (x : Nat) : Nat := bits x 102 6
def dspSat (x : Nat) : Bool := bit x 101
def dspSrcA (x : Nat) : Nat := bits x 97 4
def dspSrcB (x : Nat) : Nat := bits x 93 4
def dspDst (x : Nat) : Nat := bits x 89 4
def dspAcc (x : Nat) : Nat := bits x 87 2
def dspStart (x : Nat) : Bool := bit x 84
def dspTest (x : Nat) : Bool := bit x 85
def dspPop (x : Nat) : Bool := bit x 86

/-- Sub-fields of an address-generator slot, R145. -/
def aguOp (v : Nat) : Nat := bits v 5 3
def aguGen (v : Nat) : Nat := bits v 3 2

/-! ## Lockstep (R25, R232) -/

def lockstep (w : Work σ) : Bool := w.on DEV_STATUS_LOCKSTEP

/-- The tile whose sequencing fields and sequencer registers govern tile t. -/
def leader (w : Work σ) (t : Nat) : Nat := if lockstep w then 0 else t

/-- The tiles that act with tile t. -/
def members (w : Work σ) (t : Nat) : List Nat := if lockstep w then List.range 32 else [t]

/-! ## Illegal encodings (R212) -/

/-- R199, R200: an XY slot that is no illegal encoding. -/
def xyLegal (v : Nat) : Bool :=
  let op := slotOp v
  let tpl := slotTpl v
  if op = 0 ∨ op = 1 then true
  else if op = 2 ∨ op = 7 then decide (tpl = 0)
  else if op = 3 ∨ op = 4 then decide (tpl < 4)
  else if op = 8 then decide (tpl < 12)
  else false

/-- R199, R200: an FLX slot that is no illegal encoding. -/
def flxLegal (v : Nat) : Bool :=
  let op := slotOp v
  let tpl := slotTpl v
  if op = 0 ∨ op = 1 then true
  else if op = 2 ∨ op = 5 ∨ op = 6 then decide (tpl = 0)
  else if op = 8 then decide (tpl < 4)
  else false

/-- R199, R200: the clasp that an XY slot targets. -/
def xyClasp (v : Nat) : Nat :=
  if slotOp v = 8 then (let sel := slotTpl v / 4; if sel = 0 then slotEng v else if sel = 1 then 8 + slotEng v else 24 + slotEng v)
  else slotEng v

/-- An engine slot that issues an entry. -/
def xyIssues (v : Nat) : Bool := xyLegal v && decide (slotOp v ≠ 0)
def flxIssues (v : Nat) : Bool := flxLegal v && decide (slotOp v ≠ 0)

def rdoLegal (x : Nat) : Bool := !(decide (mwRdoOp x = 2) && decide (mwKsel x ≠ 0))

/-- R203: a DEC field that is no illegal encoding. -/
def decLegal (x : Nat) : Bool :=
  let op := mwDecOp x
  if op = 1 then decide (mwDecArg x ≠ 0) else if op = 2 then decide (mwDecArg x = 0) else decide (op < 5)

def isStage (x : Nat) : Bool := decide (mwDecOp x = 3) || decide (mwDecOp x = 4)

/-- R204: the source slot and the BASE of a staging operation. -/
def stageSource (x : Nat) : Nat := mwDecArg x / 4
def stageBase (x : Nat) : Nat := mwDecArg x % 4

/-- R204: a staging operation with a legal source, BASE and targets. -/
def stageLegal (x : Nat) : Bool :=
  let quad := decide (mwDecOp x = 4)
  let b := stageBase x
  if stageSource x = 0 then
    (if quad then decide (b = 0 ∨ b = 2) else decide (b = 0)) &&
      !(xyIssues (mwXya x) && xyIssues (mwXyb x) && decide (xyClasp (mwXya x) ≠ xyClasp (mwXyb x)))
  else if stageSource x = 3 then false
  else quad || decide (b < 2)

/-- R206: an EVT field that is no illegal encoding. -/
def evtLegal (x : Nat) : Bool :=
  let op := mwEvtOp x
  if op = 1 then decide (mwLine x < 16) && decide (mwEvtArg x < 2)
  else if op = 2 then decide (mwLine x < 14) && decide (mwEvtArg x = 0)
  else decide (op = 0)

/-- R207: a QUE field that is no illegal encoding, in the setting in force. -/
def queLegal (w : Work σ) (t x : Nat) : Bool :=
  let op := mwQueOp x
  let q := mwQueue x
  if 4 ≤ op ∨ 4 ≤ mwQueArg x then false
  else if op = 0 then true
  else if op = 3 then qIsIn w t q && decide (w.get (QT_CFG_CONSUMER t q) = 0)
  else qIsOut w t q && !(decide (op = 2) && decide (mwQueArg x ≠ 0))

/-- R210: a LOOP field that is no illegal encoding. -/
def loopLegal (x : Nat) : Bool := !(decide (2 ≤ mwLoopOp x) && decide (mwLoopVal x ≠ 0))

/-- R195: whether SEQ evaluates COND. -/
def seqTests (seq : Nat) : Bool := decide (2 ≤ seq) && decide (seq ≤ 4)

/-- R195, R212: an ABORT word whose engine, CAP and DEC fields are not all NONE. -/
def abortMixed (x : Nat) : Bool :=
  decide (slotOp (mwXya x) ≠ 0) || decide (slotOp (mwXyb x) ≠ 0) || decide (slotOp (mwFlx x) ≠ 0)
    || decide (mwRdoOp x ≠ 0) || decide (mwCapOp x ≠ 0) || decide (mwDecOp x ≠ 0)

/-- The lists whose conditions hold, joined. -/
def pick {α : Type} (l : List (Bool × List α)) : List α := l.flatMap (fun p => if p.1 then p.2 else [])

/-- R212, R213: the codes of the fields of tile t's word x that hold an illegal encoding, lowest first. seq is the SEQ of
the word that decides the address (R25); tiles that it leads ignore their own sequencing fields. -/
def illegalFields (w : Work σ) (t seq x : Nat) : List Nat :=
  let leads := decide (leader w t = t)
  pick [
    (leads && decide (10 ≤ mwSeq x), [0]), (leads && seqTests (mwSeq x) && decide (0x2C ≤ mwCond x), [1]),
    (!xyLegal (mwXya x), [2]), (!xyLegal (mwXyb x), [3]), (!flxLegal (mwFlx x), [4]), (!rdoLegal x, [5]),
    (!decLegal x, [6]), (isStage x && !stageLegal x, [7]), (!evtLegal x, [8]), (!queLegal w t x, [9]),
    (decide (5 ≤ mwCapOp x), [10]), (leads && !loopLegal x, [11]), (decide (seq = 9) && abortMixed x, [12])]

/-- R213: a word with illegal encodings is counted, and recorded when MW.ILLEGAL is free. -/
def recordIllegal (w : Work σ) (t a : Nat) (fields : List Nat) : Work σ :=
  match fields with
  | [] => w
  | f :: _ =>
    let w := w.inc (MW_ILLEGAL_COUNT t)
    if w.on (MW_ILLEGAL_VALID t) then w
    else ((w.set (MW_ILLEGAL_VALID t) 1).set (MW_ILLEGAL_FIELD t) f).set (MW_ILLEGAL_ADDR t) a

/-! ## What the fields of a word do -/

/-- R212: a staging error silences its source slots. The reserved source 3 names none. [note 142: DEDUCED] -/
def silenced (x source : Nat) : Bool := isStage x && !stageLegal x && decide (stageSource x = source)

/-- Which engine slots of a word issue an entry. -/
def issuesXya (x : Nat) : Bool := xyIssues (mwXya x) && !silenced x 0
def issuesXyb (x : Nat) : Bool := xyIssues (mwXyb x) && !silenced x 0
def issuesFlx (x : Nat) : Bool := flxIssues (mwFlx x) && !silenced x 1
/-- The channels for which RDO issues an entry, in ascending order (R202). -/
def rdoChannels (x : Nat) : List Nat :=
  if mwRdoOp x = 0 ∨ !rdoLegal x ∨ silenced x 2 then [] else (List.range 8).filter (fun k => bit (mwMask x) k)

/-- R204: whether the entries of a source slot are alternatives. -/
def stages (x source : Nat) : Bool := isStage x && stageLegal x && decide (stageSource x = source)

/-- R204: an entry of a source slot, marked as the alternative of an option when its slot stages. -/
def asAlternative (x source opt : Nat) (e : Entry) : Entry :=
  if stages x source then { e with alt := true, did := mwDid x, quad := decide (mwDecOp x = 4), opt := opt } else e

/-- The first byte in data memory of tile t (R148). -/
def dmBase (t : Nat) : Nat := tileBase t + 0x80000

/-- R200: the 12-byte body at generator g's pointer. -/
def pmemBody (w : Work σ) (t g : Nat) : Nat := w.rdLe (dmBase t + w.get (DSP_AGU_P t g) / 16 * 16) 12

/-- R199, R200: kind and body of the entry of an engine slot. -/
def slotBody (w : Work σ) (t x v : Nat) : Nat × Nat :=
  let op := slotOp v
  let tpl := slotTpl v
  let imm := mwImm x
  if op = 1 then (KPLAY, tpl)
  else if op = 2 then (KSTOP, 0)
  else if op = 3 then (KPARAM, 0x08 + tpl % 4 + imm * 2 ^ 12 * 256)
  else if op = 4 then (KPARAM, 0x04 + tpl % 4 + imm * 2 ^ 12 * 256)
  else if op = 5 then (KPARAM, 0x01 + imm % 2 ^ 16 * 256)
  else if op = 6 then (KPARAM, 0x00 + imm % 2 ^ 16 * 256)
  else if op = 7 then (KPARAM, 0x18 + imm * 256)
  else (KPARAM, pmemBody w t (tpl % 4))

/-- An entry of XYA (b = 0) or XYB (b = 1), R199, R201, R204. -/
def xyEntry (w : Work σ) (t x b stamp slot : Nat) : Entry :=
  let v := if b = 0 then mwXya x else mwXyb x
  let kb := slotBody w t x v
  let pair := decide (b = 0) && issuesXya x && issuesXyb x && !stages x 0 && decide (xyClasp (mwXya x) = xyClasp (mwXyb x))
    && decide (kb.1 = KPARAM) && decide ((slotBody w t x (mwXyb x)).1 = KPARAM)
  asAlternative x 0 (stageBase x + b) { plainEntry stamp slot kb.1 (xyClasp v) kb.2 with chain := pair }

/-- The entry of FLX, R199, R204. -/
def flxEntry (w : Work σ) (t x stamp slot : Nat) : Entry :=
  let kb := slotBody w t x (mwFlx x)
  asAlternative x 1 (stageBase x) (plainEntry stamp slot kb.1 (16 + slotEng (mwFlx x)) kb.2)

/-- The entry of RDO for channel k, R202, R204. -/
def rdoEntry (x k stamp slot : Nat) : Entry :=
  asAlternative x 2 (stageBase x)
    (if mwRdoOp x = 1 then plainEntry stamp slot KPLAY (8 + k) (mwKsel x)
     else if mwRdoOp x = 2 then plainEntry stamp slot KSTOP (8 + k) 0
     else plainEntry stamp slot KWINDOW (24 + k) (mwKsel x + bits (mwImm x) 18 2 * 16))

/-- The entry of CAP, R209. -/
def capEntry (x stamp slot : Nat) : Entry := plainEntry stamp slot KCAPTURE 32 (mwCapOp x + mwClass x * 8)

/-- R139: whether an operation reads its first or its second source. -/
def dspReadsA (op : Nat) : Bool := !(decide (op = 0) || decide (op = 0x11) || decide (op = 0x12))
def dspReadsB (op : Nat) : Bool := decide (2 ≤ op) && decide (op ≤ 0x0C)

/-- Operations that write a vector (R139). -/
def dspWritesVector (op : Nat) : Bool := decide (1 ≤ op ∧ op ≤ 6) || decide (op = 0x11) || decide (op = 0x12)

/-- Operations that R139 defines. -/
def dspDefined (op : Nat) : Bool :=
  decide (op ≤ 6) || decide (8 ≤ op ∧ op ≤ 0x0F) || decide (op = 0x11) || decide (op = 0x12) || decide (op = 0x18)
    || decide (op = 0x19) || decide (op = 0x1C)

/-- R140: a DSP field that the datapath executes as it stands. -/
def dspLegal (x : Nat) : Bool :=
  let op := dspOp x
  let search := decide (op = 0x18) || decide (op = 0x19)
  (decide (op = 0) && decide (dspDst x < 0xE)) ||
  (dspDefined op && !(dspReadsA op && decide (dspSrcA x = 0xE) && !search) && !(dspReadsB op && decide (dspSrcB x = 0xE))
    && (if dspWritesVector op then decide (dspDst x < 0xE) else decide (dspDst x = 0xD)))

/-- The operation that the datapath executes for a word: NOP for an illegal field (R140). -/
def dspEff (x : Nat) : Nat := if dspLegal x then dspOp x else 0

/-- R150 to R152: whether the word's operation reads the input queue. -/
def dspReadsIn (x : Nat) : Bool :=
  (dspReadsA (dspEff x) && decide (dspSrcA x = 0xC)) || (dspReadsB (dspEff x) && decide (dspSrcB x = 0xC))

/-- R153: whether the word's operation pushes to the output queue. -/
def dspWritesOut (x : Nat) : Bool := dspWritesVector (dspEff x) && decide (dspDst x = 0xC)

/-- R137: whether POP has anything to act on: NOP ignores FLG, but an illegal field still pops (R140). A field of OP 0 with a reserved DST is
illegal, and a NOP whose FLG is ignored: it does not pop. [note 164: DESIGN CHOICE] -/
def dspPops (x : Nat) : Bool := dspPop x && decide (dspOp x ≠ 0)

/-- R145: the operation of an address-generator slot; a reserved bit makes it NONE. -/
def aguEff (v : Nat) : Nat := if v % 8 = 0 then aguOp v else 0

/-- R193: the steps that tile t's word x has before it. leads says that its own sequencing fields count; seq is the
leader's SEQ. Steps whose fields are NONE or act as NONE are left out, but for the datapath operation and the choice of
the successor. -/
def wordSteps (w : Work σ) (t : Nat) (leads : Bool) (seq x : Nat) : List WStep :=
  let plain := decide (seq ≠ 9)
  pick [
    (leads && !plain, [.abort]),
    (leads && decide (mwLoopOp x ≠ 0) && loopLegal x, [.loop]),
    (plain && decLegal x && (decide (mwDecOp x = 1) || decide (mwDecOp x = 2)), [.dec]),
    (plain && (stages x 0 || stages x 1 || stages x 2), [.stage]),
    (plain && issuesXya x, [.xya]), (plain && issuesXyb x, [.xyb]), (plain && issuesFlx x, [.flx]),
    (plain, (rdoChannels x).map WStep.rdo),
    (plain && decide (1 ≤ mwCapOp x) && decide (mwCapOp x < 5), [.cap]),
    (decide (dspEff x ≠ 0) && dspStart x, [.dspStart]), (true, [.dspOp]),
    (decide (dspEff x ≠ 0) && dspTest x, [.dspTest]), (dspPops x, [.dspPop]),
    (decide (mwQueOp x ≠ 0) && queLegal w t x, [.que]),
    (decide (aguEff (mwAgu x 0) ≠ 0), [.agu0]), (decide (aguEff (mwAgu x 1) ≠ 0), [.agu1]),
    (decide (mwEvtOp x ≠ 0) && evtLegal x, [.evt]),
    (leads && mwFence x, [.fence]), (leads, [.seq]), (leads && mwSafe x, [.safe])]

end Sys2Proof.Machine
end

