-- ==== Sys2Proof/Machine/Flags.lean ====
section
/-! DEFINITION. Flags and conditions (R138, R197, R198): the datapath's Z, N and IDX, and the COND codes of the
microword. -/

namespace Sys2Proof.Machine

variable {σ : State}

/-! ## Datapath flags -/

/-- R138: Z and N of a value, and IDX of a search index; without a value they stay. -/
def setFlags (w : Work σ) (t : Nat) (val : Option Int) (idx : Option Nat) : Work σ :=
  let w := match val with
    | some v => (w.setB (DSP_FLAGS_Z t) (decide (v = 0))).setB (DSP_FLAGS_N t) (decide (v < 0))
    | none => w
  match idx with
  | some i => w.set (DSP_FLAGS_IDX t) i
  | none => w

/-! ## Pending latches and queues as COND sees them -/

/-- The pending latch of consumer input i of tile t (R269). -/
def pendingInput (w : Work σ) (t i : Nat) : Bool := w.on (EVPORT_PEND_GEN_SET t (i / 8) (i % 8))

/-- R16: whether the producer of queue q of tile t holds a credit. A queue that is not enabled has no ring.
[note 41: DEDUCED] -/
def queueCredit (w : Work σ) (t q : Nat) : Bool := qEnabled w t q && !qFaulted w t q && decide (qFill w t q < qSize w t q)

/-- Queue q of tile t holds an entry. [note 41: DEDUCED] -/
def queueHolds (w : Work σ) (t q : Nat) : Bool := qEnabled w t q && decide (0 < qFill w t q)

/-- R197: watcher d has resolved for the arming in force. -/
def resolvedNow (w : Work σ) (t d : Nat) : Bool := w.on (WATCH_STATUS_RESOLVED t d)

/-- R171, R205: the latest arming of watcher d that the sequencer has issued has taken effect and resolved. -/
def fenceMet (w : Work σ) (t d : Nat) : Bool := resolvedNow w t d && !(w.tile t).arms.any (fun a => a.did = d)

/-! ## COND (R197) -/

/-- R197: COND of word x in tile t. -/
def condTrue (w : Work σ) (t x : Nat) : Bool :=
  let c := mwCond x
  let d := mwDid x
  let z := w.on (DSP_FLAGS_Z t)
  let n := w.on (DSP_FLAGS_N t)
  if c = 0x00 then true
  else if c = 0x01 then false
  else if c = 0x02 then z
  else if c = 0x03 then !z
  else if c = 0x04 then n
  else if c = 0x05 then !n
  else if c = 0x06 then !z && !n
  else if c = 0x07 then z || n
  else if c < 0x0C then w.on (SEQ_LC t (c % 4))
  else if c < 0x10 then !w.on (SEQ_LC t (c % 4))
  else if c < 0x20 then decide (w.get (DSP_FLAGS_IDX t) = c % 16)
  else if c < 0x24 then
    (resolvedNow w t d && decide (w.get (WATCH_STATUS_OPTION t d) = c % 4)) ||
      (decide (c = 0x20) && w.on (WATCH_STATUS_FENCE_LATE t d) && !resolvedNow w t d)
  else if c = 0x24 then w.on (WATCH_STATUS_FENCE_LATE t d)
  else if c = 0x25 then w.on (WATCH_STATUS_FLAGGED t d)
  else if c = 0x26 then resolvedNow w t d
  else if c = 0x27 then !resolvedNow w t d
  else if c = 0x28 then queueHolds w t (mwQueue x)
  else if c = 0x29 then queueCredit w t (mwQueue x)
  else if c = 0x2A then decide (mwLine x < 16) && pendingInput w t (mwLine x)
  else if c = 0x2B then decide ((w.tile t).dspIn ≠ [])
  else false

/-- R198: whether COND of word x is evaluated at the choice of the successor: loop counters, and watcher state behind a
fence. The others are sampled at step 3. -/
def condLate (x : Nat) : Bool :=
  decide (0x08 ≤ mwCond x ∧ mwCond x < 0x10) || (mwFence x && decide (0x20 ≤ mwCond x ∧ mwCond x < 0x28))

end Sys2Proof.Machine
end

