-- ==== Sys2Proof/Machine/Sequencer.lean ====
section
/-! DEFINITION. The sequencer (spec/08, spec/09): fetching a word, its steps, the stack, safe points, halts and cuts, host
control, and the steps that issue entries, armings, events, queue actions and loop counts. -/

namespace Sys2Proof.Machine

variable {σ : State}

def Work.seq (w : Work σ) (t : Nat) : SeqSt := (w.tile t).seq

def Work.updSeq (w : Work σ) (t : Nat) (f : SeqSt → SeqSt) : Work σ :=
  w.updTile t (fun x => { x with seq := f x.seq })

/-! ## Cuts (R226) -/

/-- R45, R226: staged groups and WINDOW entries leave the clasps and the stage queues, whatever their stamps, and the references of
the clasps with them. -/
def discardGroupsWindows (w : Work σ) (t : Nat) : Work σ :=
  let w := w.each (List.range 33) (fun w c =>
    let gone := (w.clasp t c).items.filter Item.cut
    let w := w.updClasp t c (fun k => { k with
      items := k.items.filter (fun i => !i.cut)
      hist := (gone.filterMap Item.admission).foldl List.erase k.hist })
    let w := dropPages w t (gone.flatMap Item.members)
    match (w.clasp t c).open_ with
    | some u => if u.isChain then w else dropOpen w t c
    | none => w)
  w.updTile t (fun x => { x with stage := x.stage.filter (fun s => !(s.entry.alt || decide (s.entry.kind = KWINDOW))) })

/-- R226: a cut reaches the tile's clasps: groups and windows go, everything else is aborted from the first frame that
can be, and the tile is HALTED. -/
def cutNow (w : Work σ) (t : Nat) : Work σ :=
  let w := abandonWindows (discardGroupsWindows w t) t
  let w := (abortFrom w t 0).updSeq t (fun s => { s with cutPending := false })
  ((w.set (SEQ_STATE_STATE t) HALTED).set (SEQ_CTRL_STOP t) 0).fire (tileSrc t 0)

/-- Causes of R224. -/
def CAUSE_HALT_OP : Nat := 1
def CAUSE_HOST_STOP : Nat := 2
def CAUSE_STEP : Nat := 3
def CAUSE_HOST_HALT : Nat := 4
def CAUSE_STACK : Nat := 5
def CAUSE_ILLEGAL : Nat := 6
def CAUSE_STARVE : Nat := 7
def CAUSE_PARITY : Nat := 8
def CAUSE_LOCKSTEP : Nat := 9

/-- R224, R226, R228, R229: the record of a cut in one tile, the source that its cause fires, and the error log. -/
def recordCut (w : Work σ) (t cause addr restart pargrp : Nat) : Work σ :=
  let w := ((w.set (SEQ_HALT_INFO_CAUSE t) cause).set (SEQ_HALT_INFO_ADDR t) addr).set (SEQ_RESTART t) restart
  let w := if cause = CAUSE_PARITY then (w.set (SEQ_HALT_INFO_PARGRP t) pargrp).fire (tileSrc t 13) else w
  let w := if cause = CAUSE_STARVE then w.fire (tileSrc t 1) else w
  if 5 ≤ cause ∧ cause ≤ 8 then w.errlog 0x07 .hardware t cause addr else w

/-- R224, R226, R230, R233: every tile of the set is cut. causeOf gives the cause and the failing groups of a tile. A cut
that meets an abort in progress waits for it. -/
def cutSet (w : Work σ) (t : Nat) (causeOf : Nat → Nat × Nat) (addr restart : Nat) : Work σ :=
  w.each (members w t) (fun w m =>
    let w := recordCut w m (causeOf m).1 addr restart (causeOf m).2
    let w := ((w.set (SEQ_CTRL_STOP m) 0).set (SEQ_STATE_STEPPING m) 0).set (FB_FENCE_WAITING m) 0
    let w := w.updSeq m (fun s => { s with cur := none, haltReq := false, swapping := false, cutPending := true, next := restart })
    if w.on (CLASP_ABORT_CTRL_BUSY m) then w else cutNow w m)

/-- The causes of a cut that arose in tile t alone (R233). [note 46: DEDUCED] -/
def causeIn (t cause : Nat) (m : Nat) : Nat × Nat := (if m = t then cause else CAUSE_LOCKSTEP, 0)

/-- R224, R225, R230: every tile of the set drains, or returns to its previous state after a stepped word. -/
def drainSet (w : Work σ) (t cause addr restart : Nat) (stepped : Bool) : Work σ :=
  w.each (members w t) (fun w m =>
    let w := ((w.set (SEQ_HALT_INFO_CAUSE m) (causeIn t cause m).1).set (SEQ_HALT_INFO_ADDR m) addr).set
      (SEQ_RESTART m) restart
    let w := (w.set (SEQ_CTRL_STOP m) 0).updSeq m (fun s => { s with cur := none, next := restart })
    if stepped then
      let w := w.set (SEQ_STATE_STEPPING m) 0
      if cause = CAUSE_STEP then w else w.fire (tileSrc m 0)
    else w.set (SEQ_STATE_STATE m) DRAINING)

/-- ABORT_COMPLETE (R56): the abort completes, and a cut that waited for it acts (R226). [note 31: DEDUCED] -/
def abortComplete (w : Work σ) (t : Nat) : Work σ :=
  if w.on (CLASP_ABORT_CTRL_BUSY t) then
    let e := w.get (ABORT_E t)
    let w := ((w.set (CLASP_ABORT_CTRL_BUSY t) 0).set (CLASP_ABORT_EFF_LO t) e).set (CLASP_ABORT_EFF_HI t) (e / 2 ^ 32)
    if (w.seq t).cutPending then cutNow w t else w
  else w

/-- ABORT_COMPLETE (R56). -/
def execAbortComplete (t : Fin 32) (s : State) : Host.Outcome State Fault Refusal := run (fun w => abortComplete w t) s

/-! ## The stack (R196, R218, R221) -/

/-- R221, R272: the attention routine ends. -/
def endRoutine (w : Work σ) (t : Nat) : Work σ :=
  w.each (members w t) (fun w m => (w.set (SEQ_STATE_ACTIVE m) 0).set (EVPORT_GEN_CUR_VALID m) 0)

/-- R196, R218: a push, unless the stack is full. -/
def stackPush (w : Work σ) (t a : Nat) : Option (Work σ) :=
  let d := w.get (SEQ_SP t)
  if d < 16 then some ((w.set (SEQ_STACK t d) a).set (SEQ_SP t) (d + 1)) else none

/-- R196, R218: the top of the stack, when there is one. -/
def stackTop (w : Work σ) (t : Nat) : Option Nat :=
  let d := w.get (SEQ_SP t)
  if d = 0 then none else some (w.get (SEQ_STACK t (d - 1)))

/-- R218, R221: the top entry removed; the routine of a vector ends when the address that the vector pushed leaves. -/
def stackDrop (w : Work σ) (t : Nat) : Work σ :=
  let d := w.get (SEQ_SP t)
  let w := w.set (SEQ_SP t) (d - 1)
  if w.on (SEQ_STATE_ACTIVE t) ∧ d - 1 < (w.seq t).vecDepth then endRoutine w t else w

/-- A pop: its address and the work after it. -/
def stackPop (w : Work σ) (t : Nat) : Option (Nat × Work σ) := (stackTop w t).map (fun a => (a, stackDrop w t))

/-! ## Stalls (R193) -/

/-- R16, R207, R288: whether a push to queue q waits for credit. A queue that is not enabled has no credit. -/
def qBlocked (w : Work σ) (t q : Nat) : Bool :=
  !qEnabled w t q || (!qFaulted w t q && !decide (qFill w t q < qSize w t q) && !(decide (q < 256) && w.on (QT_CFG_POLICY t q)))

/-- R152: the word's operation waits for a result. -/
def inWaits (w : Work σ) (t : Nat) (c : WordSt) : Bool :=
  dspReadsIn c.word && decide ((w.tile t).dspIn = []) && !c.timedOut

/-- R133, R153: the word's operation waits for credit at the output queue. -/
def outWaits (w : Work σ) (t : Nat) (c : WordSt) : Bool := dspWritesOut c.word && qBlocked w t (w.get (DSP_OUT_Q t))

/-- R16, R18, R132, R152: whether a step waits for credit. An operation that still waits for its source does not. -/
def creditStall (w : Work σ) (t : Nat) (c : WordSt) : WStep → Bool
  | .xya => decide (claspCredit w t (xyClasp (mwXya c.word)) = 0)
  | .xyb => decide (claspCredit w t (xyClasp (mwXyb c.word)) = 0)
  | .flx => decide (claspCredit w t (16 + slotEng (mwFlx c.word)) = 0)
  | .rdo k => decide (claspCredit w t (if mwRdoOp c.word = 3 then 24 + k else 8 + k) = 0)
  | .cap => decide (claspCredit w t 32 = 0)
  | .que => decide (mwQueOp c.word ≠ 3) && qBlocked w t (mwQueue c.word)
  | .dspStart => outWaits w t c && !inWaits w t c
  | .dspOp => outWaits w t c && !inWaits w t c
  | _ => false

/-- R193: whether the set of tile t has a word at step 2 whose abort has not been performed. -/
def abortDue (w : Work σ) (t : Nat) : Bool :=
  match (w.seq (leader w t)).cur with
  | some c => decide (c.todo.head? = some .abort)
  | none => false

/-- R193: in lockstep the steps of every tile but the leader's come behind the abort of step 2. -/
def heldBack (w : Work σ) (t : Nat) : Bool := abortDue w t && decide (leader w t ≠ t)

/-- R193: whether a step cannot act: it stalls on credit, on a page buffer (R72), on an abort in progress, on the input queue or on a
fence, or it is not its turn. [note 44: DEDUCED] -/
def stepStalled (w : Work σ) (t : Nat) (c : WordSt) (s : WStep) : Bool :=
  creditStall w t c s || pageWaits w t .seq || heldBack w t ||
  (match s with
   | .abort => (members w t).any (fun m => w.on (CLASP_ABORT_CTRL_BUSY m))
   | .dspStart => inWaits w t c
   | .dspOp => inWaits w t c
   | .fence => !fenceMet w t (mwDid c.word)
   | _ => false)

/-- R193, R230: whether a word of the set of tile t is stalled in a step that it has reached. -/
def wordStalled (w : Work σ) (t : Nat) : Bool :=
  (members w t).any (fun m => match (w.seq m).cur with
    | some c => (w.seq m).swapping || (match c.todo with | s :: _ => !heldBack w m && stepStalled w m c s | [] => false)
    | none => false)

/-! ## Completing a word -/

/-- R171: the wait of a fence or of an empty input queue begins when its step is reached. [note 44: DEDUCED] -/
def noteWait (w : Work σ) (t : Nat) : Work σ :=
  match (w.seq t).cur with
  | none => w
  | some c =>
    if heldBack w t then w
    else match c.todo with
    | .fence :: _ => (w.setB (FB_FENCE_WAITING t) (!fenceMet w t (mwDid c.word))).set (FB_FENCE_DID t) (mwDid c.word)
    | .dspStart :: _ | .dspOp :: _ =>
      if inWaits w t c ∧ c.waitFrom = none then
        w.updSeq t (fun s => { s with cur := some { c with waitFrom := some w.now } })
      else w
    | _ => w

/-- R193, R224, R229, R230: a word that has completed step 10 (and step 11): starvation, STOP, HALT, a host HALT that
waited, a single step, or the next word. [note 46: DEDUCED] -/
def finishWord (w : Work σ) (t : Nat) (c : WordSt) : Work σ :=
  let safe := mwSafe c.word
  let w := w.each (members w t) (fun w m => w.updSeq m (fun s => { s with cur := none, next := c.succ }))
  let run := (w.seq t).run + 1
  let w := if c.stepped then w
    else if safe then w.updSeq t (fun s => { s with run := 0 })
    else
      let w := w.updSeq t (fun s => { s with run := run })
      if w.get (SEQ_STARVE_MAXRUN t) < run then w.set (SEQ_STARVE_MAXRUN t) (min run 0xFFFF) else w
  if !c.stepped ∧ !safe ∧ w.get (SEQ_STARVE_LIMIT t) < run then cutSet w t (causeIn t CAUSE_STARVE) c.addr c.succ
  else if (w.seq t).haltReq then cutSet w t (causeIn t CAUSE_HOST_HALT) c.addr c.succ
  else if safe ∧ !c.stepped ∧ w.on (SEQ_CTRL_STOP t) then drainSet w t CAUSE_HOST_STOP c.addr c.succ false
  else if mwSeq c.word = 8 then drainSet w t CAUSE_HALT_OP c.addr c.succ c.stepped
  else if c.stepped then drainSet w t CAUSE_STEP c.addr c.succ true
  else w

/-- A word whose steps are all complete in every tile of the set is finished. -/
def settle (w : Work σ) (t : Nat) : Work σ :=
  let l := leader w t
  match (w.seq l).cur with
  | none => w
  | some c =>
    if (members w t).all (fun m => match (w.seq m).cur with | some x => decide (x.todo = []) | none => true) then
      finishWord w l c
    else w.each (members w t) noteWait

/-- The first step of the word of tile t off its list. -/
def popStep (w : Work σ) (t : Nat) : Work σ :=
  w.updSeq t (fun s => { s with
    cur := s.cur.map (fun c => { c with todo := c.todo.tail, waitFrom := none }), starved := false })

/-- R18, R230: a step that stalls: credit starvation fires tile source 3 once, and a host HALT that waits for the word cuts
it here. A step whose turn has not come does nothing. -/
def stallStep (w : Work σ) (t : Nat) (c : WordSt) (s : WStep) : Work σ :=
  if heldBack w t then w
  else
  let w := if creditStall w t c s ∧ !(w.seq t).starved then
      (w.updSeq t (fun s => { s with starved := true })).fire (tileSrc t 3) else w
  let l := leader w t
  if (w.seq l).haltReq then cutSet w l (causeIn l CAUSE_HOST_HALT) c.addr c.addr else noteWait w t

/-- R193: the next step of tile t's word, when it is one that a command names: it stalls, or acts and is complete. f works
on the tile with the step taken off the word's list. [note 44: DEDUCED] -/
def doStep (w : Work σ) (t : Nat) (p : WordSt → WStep → Bool) (f : Work σ → WordSt → Work σ) : Work σ :=
  match (w.seq t).cur with
  | none => w
  | some c =>
    match c.todo with
    | [] => w
    | s :: _ =>
      if !p c s then w
      else if stepStalled w t c s then stallStep w t c s
      else settle (f (popStep w t) c) t

/-! ## Fetch (R192, R193, R228) -/

/-- R51, R72, R193, R214: whether the sequencer of tile t may begin its next word. [note 45: DEDUCED] -/
def mayFetch (w : Work σ) (t : Nat) : Bool :=
  decide (leader w t = t) && (w.seq t).cur.isNone && !(w.seq t).cutPending
    && (decide (w.get (SEQ_STATE_STATE t) = RUN) ||
      (w.on (SEQ_STATE_STEPPING t) && decide (w.get (SEQ_STATE_STATE t) ≠ NOT_RELEASED)))
    && decide ((w.seq t).cursor ≤ w.now + w.get (CLASP_HORIZON t)) && !(members w t).any (fun m => pageWaits w m .seq)

/-- R192, R193, R213: every tile of the set takes its own word at address a under tile t's sequencing fields: illegal
encodings are recorded, the cursor advances, COND is sampled, and the steps begin. [note 47: DESIGN CHOICE] -/
def issueWord (w : Work σ) (t a : Nat) : Work σ :=
  let x := csWord w t a
  let stepped := w.on (SEQ_STATE_STEPPING t)
  let cursor := if mwSeq x = 9 then (w.seq t).cursor else (w.seq t).cursor + mwDt x
  let cond := condTrue w t x
  let w := w.each (members w t) (fun w m =>
    let y := csWord w m a
    let w := recordIllegal w m a (illegalFields w m (mwSeq x) y)
    let w := (w.set (SEQ_STATE_ADDR m) a).inc (SEQ_WORDS m)
    w.updSeq m (fun s => { s with
      cursor := cursor, starved := false
      cur := some ⟨a, y, cursor, mwSub y, cond, wordSteps w m (decide (m = t)) (mwSeq x) y, 0, stepped, none, false⟩ }))
  settle (w.each (members w t) selectEarly) t

/-- WORD_FETCH (R193): parity in every tile of the set (R228, R233), a reserved SEQ (R212), or the word's steps. -/
def wordFetch (w : Work σ) (t : Nat) : Work σ :=
  if !mayFetch w t then w
  else
    let a := (w.seq t).next
    let bad := fun m => parityFail (csWord w m a)
    if (members w t).any (fun m => bad m ≠ 0) then
      cutSet w t (fun m => if bad m ≠ 0 then (CAUSE_PARITY, bad m) else (CAUSE_LOCKSTEP, 0)) a a
    else if 10 ≤ mwSeq (csWord w t a) then
      cutSet (recordIllegal w t a [0]) t (causeIn t CAUSE_ILLEGAL) a a
    else issueWord w t a

/-- WORD_FETCH (R193). -/
def execWordFetch (t : Fin 32) (s : State) : Host.Outcome State Fault Refusal := run (fun w => wordFetch w t) s

/-! ## Successors (R195, R196) -/

/-- The value of COND for the choice of the successor (R198). -/
def condNow (w : Work σ) (t : Nat) (c : WordSt) : Bool := if condLate c.word then condTrue w t c.word else c.cond

/-- The address that SEQ names without a stack: TARGET in service mode, A + 1 in bring-up mode (R217). -/
def fallThrough (w : Work σ) (t : Nat) (c : WordSt) : Nat :=
  if w.on (SEQ_MODE t) then (c.addr + 1) % 4096 else mwTarget c.word

/-- R195: the successor of a word and the work after its stack operation; none is a stack fault (R196). -/
def successor (w : Work σ) (t : Nat) (c : WordSt) : Option (Nat × Work σ) :=
  let x := c.word
  let seq := mwSeq x
  let bring := w.on (SEQ_MODE t)
  let after := fallThrough w t c
  let imm := bits (mwImm x) 0 12
  if seq = 0x1 then some (mwTarget x, w)
  else if seq = 0x2 then
    if bring then some (if condNow w t c then mwTarget x else (c.addr + 1) % 4096, w)
    else (stackPop w t).map (fun p => (if condNow w t c then mwTarget x else p.1, p.2))
  else if seq = 0x3 then
    (if condNow w t c then stackPop w t else some (after, w))
  else if seq = 0x4 then
    (if condNow w t c then (stackTop w t).map (fun a => (a, w))
     else (stackPop w t).map (fun p => (after, p.2)))
  else if seq = 0x5 then (stackPush w t (if bring then (c.addr + 1) % 4096 else imm)).map (fun w => (mwTarget x, w))
  else if seq = 0x6 then stackPop w t
  else if seq = 0x7 then (stackPush w t imm).map (fun w => (after, w))
  else some (after, w)

/-- Whether the point of a pending code swap has come for a word of tile t (R320): the word is safe, stamped at or after the
accepted commit's point, and the tile's swap is pending. -/
def swapDue (w : Work σ) (t : Nat) (c : WordSt) : Bool :=
  mwSafe c.word && (members w t).any (fun m => w.getBit LOADER_SWAP_PEND m) && !c.stepped && decide (2 ≤ w.get LOADER_STATE_STATE ∧ w.get LOADER_STATE_STATE ≤ 3)
    && !w.dev.loader.awaitEdge && decide (w.get LOADER_P ≤ c.stamp)

/-- Step 10 of the leader's word waits for the steps of the other tiles of the set (R25) and gives way to a code swap. -/
def atSeq (w : Work σ) (t : Nat) (c : WordSt) : Bool :=
  !(w.seq t).swapping && !swapDue w t c
    && (members w t).all (fun m => decide (m = t) || (match (w.seq m).cur with | some x => decide (x.todo = []) | none => true))

/-- R195, R196: step 10 of a word whose SEQ is seq. -/
def seqStep (w : Work σ) (t seq : Nat) : Work σ :=
  doStep w t (fun c s => decide (s = .seq) && decide (mwSeq c.word = seq) && atSeq w t c) (fun w c =>
    match successor w t c with
    | none => cutSet w t (causeIn t CAUSE_STACK) c.addr c.addr
    | some (a, w) => w.updSeq t (fun s => { s with cur := s.cur.map (fun c => { c with succ := a % 4096 }) }))

/-- R54, R195, R235: step 2 of an ABORT word in every tile of the set: ABORT_FROM cursor + DT, and the stamp E. -/
def abortStep (w : Work σ) (t : Nat) : Work σ :=
  doStep w t (fun _ s => decide (s = .abort)) (fun w c =>
    let f := (w.seq t).cursor + mwDt c.word
    w.each (members w t) (fun w m =>
      let e := abortFrame w f
      (abortFrom w m f).updSeq m (fun s => { s with cur := s.cur.map (fun c => { c with stamp := e }) })))

/-- SEQ_NEXT (R195). -/
def execSeqNext (t : Fin 32) (s : State) : Host.Outcome State Fault Refusal := run (fun w => seqStep w t 0x0) s
/-- SEQ_JUMP (R195). -/
def execSeqJump (t : Fin 32) (s : State) : Host.Outcome State Fault Refusal := run (fun w => seqStep w t 0x1) s
/-- SEQ_BRANCH (R195). -/
def execSeqBranch (t : Fin 32) (s : State) : Host.Outcome State Fault Refusal := run (fun w => seqStep w t 0x2) s
/-- SEQ_RETIF (R195). -/
def execSeqRetif (t : Fin 32) (s : State) : Host.Outcome State Fault Refusal := run (fun w => seqStep w t 0x3) s
/-- SEQ_LOOPB (R195). -/
def execSeqLoopb (t : Fin 32) (s : State) : Host.Outcome State Fault Refusal := run (fun w => seqStep w t 0x4) s
/-- SEQ_CALL (R195). -/
def execSeqCall (t : Fin 32) (s : State) : Host.Outcome State Fault Refusal := run (fun w => seqStep w t 0x5) s
/-- SEQ_RET (R195). -/
def execSeqRet (t : Fin 32) (s : State) : Host.Outcome State Fault Refusal := run (fun w => seqStep w t 0x6) s
/-- SEQ_PUSH (R195). -/
def execSeqPush (t : Fin 32) (s : State) : Host.Outcome State Fault Refusal := run (fun w => seqStep w t 0x7) s
/-- SEQ_HALT (R195): the restart address is the successor that SEQ names; the drain follows when the word completes. -/
def execSeqHalt (t : Fin 32) (s : State) : Host.Outcome State Fault Refusal := run (fun w => seqStep w t 0x8) s
/-- SEQ_ABORT (R195): the abort at step 2, and the successor at step 10. -/
def execSeqAbort (t : Fin 32) (s : State) : Host.Outcome State Fault Refusal :=
  run (fun w =>
    match (w.seq t).cur with
    | some c => if c.todo.head? = some .abort then abortStep w t else seqStep w t 0x9
    | none => w) s

/-! ## Safe points and fences (R171, R219 to R221, R234) -/

/-- R219, R234: the lowest input that is pending in the set and enabled. -/
def attention (w : Work σ) (t : Nat) : Option Nat :=
  (List.range 16).find? (fun i => w.getBit (SEQ_ATTN_EN t) i && (members w t).any (fun m => pendingInput w m i))

/-- R234, R272: the highest generation among the latches of input i that are set in the set of tile t. -/
def vectorGen (w : Work σ) (t i : Nat) : Nat :=
  ((members w t).filter (fun m => pendingInput w m i)).foldl (fun g m => max g (w.get (EVPORT_PEND_GEN_GEN m (i / 8) (i % 8)))) 0

/-- R220, R234, R272: vector i is taken: the successor is pushed, the latches of input i clear, their highest generation goes to
CUR of the leader, and the routine begins. -/
def takeVector (w : Work σ) (t i succ : Nat) : Work σ :=
  let d := w.get (SEQ_SP t)
  let w := (w.set (SEQ_STACK t d) succ).set (SEQ_SP t) (d + 1)
  let w := (w.set (EVPORT_GEN_CUR t) (vectorGen w t i)).set (EVPORT_GEN_CUR_VALID t) 1
  let w := w.each (members w t) (fun w m =>
    ((w.set (SEQ_STATE_ACTIVE m) 1).set (SEQ_STATE_VEC m) i).set (EVPORT_PEND_GEN_SET m (i / 8) (i % 8)) 0)
  (w.inc (SEQ_ATTN_COUNT_TAKEN t)).updSeq t (fun s => { s with
    vecDepth := d + 1
    cur := s.cur.map (fun c => { c with succ := w.get (SEQ_VEC t i) }) })

/-- R220: attention at a safe word. -/
def safePoint (w : Work σ) (t : Nat) (c : WordSt) : Work σ :=
  if w.get (SEQ_STATE_STATE t) ≠ RUN ∨ c.stepped ∨ mwSeq c.word = 8 ∨ w.on (SEQ_STATE_ACTIVE t) then w
  else
    match attention w t with
    | none => w
    | some i => if w.get (SEQ_SP t) ≤ 15 then takeVector w t i c.succ else w.inc (SEQ_ATTN_COUNT_DEFER t)

/-- SAFE (R220). -/
def execSafe (t : Fin 32) (s : State) : Host.Outcome State Fault Refusal :=
  run (fun w => doStep w t (fun _ s => decide (s = .safe)) (fun w c => safePoint w t c)) s

/-- FENCE (R171): the wait of a fence is over once its arming has resolved. -/
def execFence (t : Fin 32) (s : State) : Host.Outcome State Fault Refusal :=
  run (fun w => doStep w t (fun _ s => decide (s = .fence)) (fun w _ => w.set (FB_FENCE_WAITING t) 0)) s

/-- R171, R184: a fence ends TMO frames after its stamp without a resolution, which its watcher counts in LATE. -/
def fenceTimeout (w : Work σ) (t : Nat) : Work σ :=
  match (w.seq t).cur with
  | none => w
  | some c =>
    let tmo := w.get (FB_FENCE_TMO t)
    if c.todo.head? = some .fence ∧ !fenceMet w t (mwDid c.word) ∧ tmo ≠ 0 ∧ c.stamp + tmo ≤ w.now then
      let w := lateDecision (w.inc (WATCH_STATUS_LATE t (mwDid c.word))) t 1 63 (mwDid c.word) c.stamp
      let w := (w.set (WATCH_STATUS_FENCE_LATE t (mwDid c.word)) 1).set (FB_FENCE_WAITING t) 0
      settle (popStep w t) t
    else w

/-- FENCE_TIMEOUT (R171). -/
def execFenceTimeout (t : Fin 32) (s : State) : Host.Outcome State Fault Refusal := run (fun w => fenceTimeout w t) s

/-! ## Entries (R199 to R204, R209) -/

/-- An entry that a word issues enters the tile's stage queues. -/
def issue (w : Work σ) (t : Nat) (e : Entry) : Work σ := stagePut w t e .seq

/-- Step 6 for XYA (b = 0) or XYB (b = 1), when its OP is op (R199). -/
def xyStep (w : Work σ) (t b op : Nat) : Work σ :=
  doStep w t (fun c s => decide (s = if b = 0 then .xya else .xyb)
      && decide (slotOp (if b = 0 then mwXya c.word else mwXyb c.word) = op))
    (fun w c => issue w t (xyEntry w t c.word b c.stamp c.slot))

/-- Step 6 for FLX, when its OP is op (R199). -/
def flxStep (w : Work σ) (t op : Nat) : Work σ :=
  doStep w t (fun c s => decide (s = .flx) && decide (slotOp (mwFlx c.word) = op))
    (fun w c => issue w t (flxEntry w t c.word c.stamp c.slot))

/-- Step 6 for RDO, when its OP is op: every channel of MASK in ascending order, as far as credit allows (R202). -/
def rdoStep (w : Work σ) (t op : Nat) : Work σ :=
  w.each (List.range 8) (fun w k =>
    doStep w t (fun c s => decide (s = .rdo k) && decide (mwRdoOp c.word = op))
      (fun w c => issue w t (rdoEntry c.word k c.stamp c.slot)))

/-- Step 6 for CAP, when its OP is op (R209). -/
def capStep (w : Work σ) (t op : Nat) : Work σ :=
  doStep w t (fun c s => decide (s = .cap) && decide (mwCapOp c.word = op))
    (fun w c => issue w t (capEntry c.word c.stamp c.slot))

/-- XY_PLAY (R199). -/
def execXyPlay (t : Fin 32) (b : Fin 2) (s : State) : Host.Outcome State Fault Refusal := run (fun w => xyStep w t b 1) s
/-- XY_STOP (R199). -/
def execXyStop (t : Fin 32) (b : Fin 2) (s : State) : Host.Outcome State Fault Refusal := run (fun w => xyStep w t b 2) s
/-- XY_ZADD (R199). -/
def execXyZadd (t : Fin 32) (b : Fin 2) (s : State) : Host.Outcome State Fault Refusal := run (fun w => xyStep w t b 3) s
/-- XY_ZSET (R199). -/
def execXyZset (t : Fin 32) (b : Fin 2) (s : State) : Host.Outcome State Fault Refusal := run (fun w => xyStep w t b 4) s
/-- XY_QUIET (R199). -/
def execXyQuiet (t : Fin 32) (b : Fin 2) (s : State) : Host.Outcome State Fault Refusal := run (fun w => xyStep w t b 7) s
/-- XY_PMEM (R200). -/
def execXyPmem (t : Fin 32) (b : Fin 2) (s : State) : Host.Outcome State Fault Refusal := run (fun w => xyStep w t b 8) s
/-- FLX_PLAY (R199). -/
def execFlxPlay (t : Fin 32) (s : State) : Host.Outcome State Fault Refusal := run (fun w => flxStep w t 1) s
/-- FLX_STOP (R199). -/
def execFlxStop (t : Fin 32) (s : State) : Host.Outcome State Fault Refusal := run (fun w => flxStep w t 2) s
/-- FLX_DCADD (R199). -/
def execFlxDcadd (t : Fin 32) (s : State) : Host.Outcome State Fault Refusal := run (fun w => flxStep w t 5) s
/-- FLX_DCSET (R199). -/
def execFlxDcset (t : Fin 32) (s : State) : Host.Outcome State Fault Refusal := run (fun w => flxStep w t 6) s
/-- FLX_PMEM (R200). -/
def execFlxPmem (t : Fin 32) (s : State) : Host.Outcome State Fault Refusal := run (fun w => flxStep w t 8) s
/-- RDO_PROBE (R202). -/
def execRdoProbe (t : Fin 32) (s : State) : Host.Outcome State Fault Refusal := run (fun w => rdoStep w t 1) s
/-- RDO_PSTOP (R202). -/
def execRdoPstop (t : Fin 32) (s : State) : Host.Outcome State Fault Refusal := run (fun w => rdoStep w t 2) s
/-- RDO_WINDOW (R202). -/
def execRdoWindow (t : Fin 32) (s : State) : Host.Outcome State Fault Refusal := run (fun w => rdoStep w t 3) s
/-- CAP_ARM (R209). -/
def execCapArm (t : Fin 32) (s : State) : Host.Outcome State Fault Refusal := run (fun w => capStep w t 1) s
/-- CAP_FIRE (R209). -/
def execCapFire (t : Fin 32) (s : State) : Host.Outcome State Fault Refusal := run (fun w => capStep w t 2) s
/-- CAP_DISARM (R209). -/
def execCapDisarm (t : Fin 32) (s : State) : Host.Outcome State Fault Refusal := run (fun w => capStep w t 3) s
/-- CAP_SNAP (R209). -/
def execCapSnap (t : Fin 32) (s : State) : Host.Outcome State Fault Refusal := run (fun w => capStep w t 4) s

/-! ## DEC, LOOP, EVT, QUE (R203 to R210) -/

/-- Step 5: an arming passes to the watcher block (R164, R203). -/
def decArmStep (w : Work σ) (t op : Nat) : Work σ :=
  doStep w t (fun c s => decide (s = .dec) && decide (mwDecOp c.word = op))
    (fun w c => passArming w t (mwDid c.word) (decide (op = 2)) (mwDecArg c.word) c.stamp)

/-- Step 5: the staging operation of a word is in force for the entries of its source slots (R204: asAlternative). -/
def decStageStep (w : Work σ) (t op : Nat) : Work σ :=
  doStep w t (fun c s => decide (s = .stage) && decide (mwDecOp c.word = op)) (fun w _ => w)

/-- DEC_ARM (R203). -/
def execDecArm (t : Fin 32) (s : State) : Host.Outcome State Fault Refusal := run (fun w => decArmStep w t 1) s
/-- DEC_ARMN (R203). -/
def execDecArmn (t : Fin 32) (s : State) : Host.Outcome State Fault Refusal := run (fun w => decArmStep w t 2) s
/-- DEC_STAGE2 (R204). -/
def execDecStage2 (t : Fin 32) (s : State) : Host.Outcome State Fault Refusal := run (fun w => decStageStep w t 3) s
/-- DEC_STAGE4 (R204). -/
def execDecStage4 (t : Fin 32) (s : State) : Host.Outcome State Fault Refusal := run (fun w => decStageStep w t 4) s

/-- Step 4: a LOOP operation (R210). -/
def loopStep (w : Work σ) (t op : Nat) : Work σ :=
  doStep w t (fun c s => decide (s = .loop) && decide (mwLoopOp c.word = op)) (fun w c =>
    let lc := SEQ_LC t (mwLoopSel c.word)
    if op = 1 then w.set lc (mwLoopVal c.word)
    else if op = 2 then w.set lc (mwImm c.word)
    else w.set lc (w.get lc - 1))

/-- LOOP_LOAD (R210). -/
def execLoopLoad (t : Fin 32) (s : State) : Host.Outcome State Fault Refusal := run (fun w => loopStep w t 1) s
/-- LOOP_LOADI (R210). -/
def execLoopLoadi (t : Fin 32) (s : State) : Host.Outcome State Fault Refusal := run (fun w => loopStep w t 2) s
/-- LOOP_DEC (R210). -/
def execLoopDec (t : Fin 32) (s : State) : Host.Outcome State Fault Refusal := run (fun w => loopStep w t 3) s

/-- R206, R269, R272: a TAKE of input i: the latch clears, a set latch gives its generation to CUR, and ARG[0] clears the
overrun flag. -/
def takeInput (w : Work σ) (t i : Nat) (clearOvr : Bool) : Work σ :=
  let w := if pendingInput w t i then
      ((w.set (EVPORT_GEN_CUR t) (w.get (EVPORT_PEND_GEN_GEN t (i / 8) (i % 8)))).set (EVPORT_GEN_CUR_VALID t) 1).set
        (EVPORT_PEND_GEN_SET t (i / 8) (i % 8)) 0
    else w
  if clearOvr then w.setBit (EVPORT_OVR t) i false else w

/-- The generation of the event that the tile's program handles (R272): that of the leader of the set. -/
def curGen (w : Work σ) (t : Nat) : Option Nat :=
  let l := leader w t
  if w.on (EVPORT_GEN_CUR_VALID l) then some (w.get (EVPORT_GEN_CUR l)) else none

/-- Step 8: EVT, when its OP is op (R206). -/
def evtStep (w : Work σ) (t op : Nat) : Work σ :=
  doStep w t (fun c s => decide (s = .evt) && decide (mwEvtOp c.word = op)) (fun w c =>
    if op = 1 then takeInput w t (mwLine c.word) (bit (mwEvtArg c.word) 0)
    else w.fireTileCaused t (mwLine c.word) (curGen w t))

/-- EVT_TAKE (R206). -/
def execEvtTake (t : Fin 32) (s : State) : Host.Outcome State Fault Refusal := run (fun w => evtStep w t 1) s
/-- EVT_FIRE (R206). -/
def execEvtFire (t : Fin 32) (s : State) : Host.Outcome State Fault Refusal := run (fun w => evtStep w t 2) s

/-- R207: the first of the 32 bytes at generator g's pointer, aligned down. -/
def quePtr (w : Work σ) (t g : Nat) : Nat := dmBase t + w.get (DSP_AGU_P t g) / 32 * 32

/-- R208: the payload of a NOTE. -/
def noteBytes (w : Work σ) (c : WordSt) : List Byte :=
  leBytes 8 c.stamp ++ leBytes 1 c.slot ++ leBytes 1 0 ++ leBytes 2 c.addr ++ leBytes 4 (mwImm c.word) ++ leBytes 8 w.now

/-- Step 7: QUE, when its OP is op (R207, R208). -/
def queStep (w : Work σ) (t op : Nat) : Work σ :=
  doStep w t (fun c s => decide (s = .que) && decide (mwQueOp c.word = op)) (fun w c =>
    let q := mwQueue c.word
    let p := quePtr w t (mwQueArg c.word % 4)
    if op = 1 then (qPush w t q 0x02 (w.rdBytes p 24)).getD w
    else if op = 2 then (qPush w t q 0x03 (noteBytes w c)).getD w
    else
      match qTake w t q typeDefined with
      | (some e, w) => w.wrBytes p (entryPayload e)
      | (none, w) => w)

/-- QUE_PUSH (R207). -/
def execQuePush (t : Fin 32) (s : State) : Host.Outcome State Fault Refusal := run (fun w => queStep w t 1) s
/-- QUE_NOTE (R208). -/
def execQueNote (t : Fin 32) (s : State) : Host.Outcome State Fault Refusal := run (fun w => queStep w t 2) s
/-- QUE_POP (R207). -/
def execQuePop (t : Fin 32) (s : State) : Host.Outcome State Fault Refusal := run (fun w => queStep w t 3) s

/-! ## Host control (R230) -/

/-- R230: HALT. A tile whose cut waits for an abort is already being cut, unless a step has been asked for since. [note 46: DEDUCED] -/
def hostHalt (w : Work σ) (path : Path) (t : Nat) : Work σ :=
  let s := w.seq t
  let state := w.get (SEQ_STATE_STATE t)
  if state = RUN ∨ state = DRAINING ∨ (state = HALTED ∧ w.on (SEQ_STATE_STEPPING t)) then
    if s.cutPending ∧ !w.on (SEQ_STATE_STEPPING t) then w
    else match s.cur with
    | some c =>
      if wordStalled w t then cutSet w t (causeIn t CAUSE_HOST_HALT) c.addr c.addr
      else w.updSeq t (fun s => { s with haltReq := true })
    | none =>
      if state = RUN ∨ w.on (SEQ_STATE_STEPPING t) then cutSet w t (causeIn t CAUSE_HOST_HALT) s.next s.next
      else cutSet w t (causeIn t CAUSE_HOST_HALT) (w.get (SEQ_STATE_ADDR t)) (w.get (SEQ_RESTART t))
  else w.ignored path (SEQ_CTRL_HALT t)

/-- R230: RESYNC: the cursor of every tile of the set at TL + 64. -/
def resync (w : Work σ) (t : Nat) : Work σ :=
  w.each (members w t) (fun w m => selectEarly (w.updSeq m (fun s => { s with cursor := w.now + 64 })) m)

/-- R217, R230: STEP or RESUME from RESTART, in the mode that BRINGUP then selects. -/
def startFrom (w : Work σ) (t : Nat) (step sync : Bool) : Work σ :=
  let w := if sync then resync w t else w
  w.each (members w t) (fun w m =>
    let w := (w.updSeq m (fun s => { s with next := w.get (SEQ_RESTART t), haltReq := false })).set (SEQ_MODE m) (w.get (SEQ_CFG_BRINGUP m))
    if step then w.set (SEQ_STATE_STEPPING m) 1 else w.set (SEQ_STATE_STATE m) RUN)

/-- R230, R232, R314: a write to SEQ.CTRL. -/
def seqCtrlWrite (w : Work σ) (path : Path) (t v : Nat) : Work σ :=
  let acts := v % 16
  let state := w.get (SEQ_STATE_STATE t)
  if leader w t ≠ t then w.ignored path (SEQ_CTRL_HALT t)
  else if acts = 0 then w
  else if ¬(acts = 1 ∨ acts = 2 ∨ acts = 4 ∨ acts = 8) then w.ignored path (SEQ_CTRL_HALT t)
  else if acts = 8 then hostHalt w path t
  else if acts ≤ 2 ∧ (members w t).any (fun m => w.on (CODE_HELD m)) then w.reject path (SEQ_CTRL_HALT t).addr
  else if w.on (SEQ_STATE_STEPPING t) then w.ignored path (SEQ_CTRL_HALT t)
  else if acts = 4 then (if state = RUN then w.set (SEQ_CTRL_STOP t) 1 else w.ignored path (SEQ_CTRL_HALT t))
  else if state = DRAINING ∨ state = HALTED then startFrom w t (decide (acts = 2)) (bit v 4)
  else w.ignored path (SEQ_CTRL_HALT t)

/-! ## Draining (R225) -/

/-- R225: whether nothing of tile t's program is left to play: clasps and stage queues empty, no window open or without its result,
no pulse in its span outside its hold. [note 48: DEDUCED] -/
def drained (w : Work σ) (t : Nat) : Bool :=
  decide ((w.tile t).stage = []) && (List.range 33).all (fun c => decide ((w.clasp t c).fill = 0))
    && (List.range 8).all (fun k => (w.win t k).isNone) && decide ((w.tile t).late = [])
    && (List.range 16).all (fun e => match (w.tone t e).pulse with
      | some p => !inSpan p (w.now * 16) || inHold p (w.now * 16)
      | none => true)
    && (List.range 8).all (fun e => match (w.flux t e).pulse with
      | some p => !fluxInSpan p (w.now * 2) || fluxInHold p (w.now * 2)
      | none => true)

/-- R225: a draining tile with nothing left passes to HALTED, and every held pulse ends. -/
def drainComplete (w : Work σ) (t : Nat) : Work σ :=
  if w.get (SEQ_STATE_STATE t) = DRAINING ∧ leader w t = t ∧ (w.seq t).cur = none ∧ !(w.seq t).cutPending
      ∧ !w.on (SEQ_STATE_STEPPING t) ∧ (members w t).all (fun m => drained w m) then
    w.each (members w t) (fun w m => ((stopEngines w m).set (SEQ_STATE_STATE m) HALTED).fire (tileSrc m 0))
  else w

/-- DRAIN_COMPLETE (R225). -/
def execDrainComplete (t : Fin 32) (s : State) : Host.Outcome State Fault Refusal := run (fun w => drainComplete w t) s

end Sys2Proof.Machine
end

