-- ==== Sys2Proof/Machine/Dsp.lean ====
section
/-! DEFINITION. The tile signal datapath (spec/06): vectors, accumulators, searches, histograms and address generators. The
operations act at step 7 of the word that carries them (R193). -/

namespace Sys2Proof.Machine

variable {σ : State}

/-- A vector: eight lanes and the OVR tag (R130). -/
structure Vec where
  lanes : List Int
  tag : Bool

def Vec.lane (v : Vec) (l : Nat) : Int := v.lanes.getD l 0

/-- The lanes of 16 bytes read as one little-endian number (R148). -/
def lanesOf (n : Nat) : List Int := (List.range 8).map (fun l => sext 16 (bits n (16 * l) 16))

/-- The 128-bit number of eight lanes. -/
def ofLanes (ls : List Int) : Nat := (List.range 8).foldl (fun n l => n + toField 16 (ls.getD l 0) * 2 ^ (16 * l)) 0

/-- A vector register (R130). -/
def vregGet (w : Work σ) (t v : Nat) : Vec :=
  ⟨lanesOf ((List.range 4).foldl (fun n j => n + w.get (DSP_V t v j) * 2 ^ (32 * j)) 0), w.getBit (DSP_VTAG t) v⟩

def vregSet (w : Work σ) (t v : Nat) (x : Vec) : Work σ :=
  let n := ofLanes x.lanes
  ((List.range 4).foldl (fun w j => w.set (DSP_V t v j) (bits n (32 * j) 32)) w).setBit (DSP_VTAG t) v x.tag

/-- The address of the 16 bytes at generator g's pointer (R135). -/
def memAddr (w : Work σ) (t g : Nat) : Nat := dmBase t + w.get (DSP_AGU_P t g) / 16 * 16

/-- R151: a part of a result scaled into a lane, and whether it saturated. -/
def inPart (s : Nat) (v : Int) : Int × Bool :=
  let r := roundAway v s
  (satS 16 r, overS 16 r)

/-- R151, R152: the vector of a read of IN. -/
def inVec (w : Work σ) (t : Nat) (c : WordSt) : Vec :=
  match (w.tile t).dspIn, c.timedOut with
  | r :: _, false =>
    let s := w.get (DSP_IN_CTRL_SHIFT t)
    let i := inPart s r.i
    let q := inPart s r.q
    ⟨[i.1, q.1, i.1, q.1, i.1, q.1, i.1, q.1], bit r.info 7 || i.2 || q.2⟩
  | _, _ => ⟨List.replicate 8 0, true⟩

/-- R135: the vector of a source selector. -/
def srcVec (w : Work σ) (t : Nat) (c : WordSt) (sel : Nat) : Vec :=
  if sel < 8 then vregGet w t sel
  else if sel < 0xC then ⟨lanesOf (w.rdLe (memAddr w t (sel - 8)) 16), false⟩
  else if sel = 0xC then inVec w t c
  else if sel = 0xD then ⟨List.replicate 8 (sext 16 (mwImm c.word)), false⟩
  else ⟨List.replicate 8 0, false⟩

def srcA (w : Work σ) (t : Nat) (c : WordSt) : Vec := srcVec w t c (dspSrcA c.word)
def srcB (w : Work σ) (t : Nat) (c : WordSt) : Vec := srcVec w t c (dspSrcB c.word)

/-- R136, R149, R153: a vector written to the destination. OUT_Q may name any queue of the tile. [note 159: DESIGN CHOICE] -/
def dstVec (w : Work σ) (t : Nat) (c : WordSt) (v : Vec) : Work σ :=
  let d := dspDst c.word
  let w := w.updSeq t (fun s => { s with lastVal := some (v.lane 0), lastIdx := none })
  if d < 8 then vregSet w t d v
  else if d < 0xC then
    let w := w.wrLe (memAddr w t (d - 8)) 16 (ofLanes v.lanes)
    if v.tag then w.set (DSP_STATUS_TAINT_STORE t) 1 else w
  else if d = 0xC then
    (qPush w t (w.get (DSP_OUT_Q t)) 0x07 (leBytes 16 (ofLanes v.lanes) ++ leBytes 4 c.stamp ++ leBytes 4 (b2n v.tag))).getD w
  else w

/-- R141: exact lane results saturated or wrapped to 16 bits and written, with LANE_OVF and the tag. -/
def laneResult (w : Work σ) (t : Nat) (c : WordSt) (exact : List Int) (tag : Bool) : Work σ :=
  let out := exact.any (overS 16)
  let fit := fun (v : Int) => if dspSat c.word then satS 16 v else sext 16 (toField 16 v)
  let w := if out then w.set (DSP_STATUS_LANE_OVF t) 1 else w
  dstVec w t c ⟨exact.map fit, tag || out⟩

/-- A lane-by-lane operation. -/
def laneOp (f : Int → Int → Int) (w : Work σ) (t : Nat) (c : WordSt) : Work σ :=
  let a := srcA w t c
  let b := srcB w t c
  laneResult w t c ((List.range 8).map (fun l => f (a.lane l) (b.lane l))) (a.tag || b.tag)

/-- The product of complex lane p of two vectors, the second conjugated or not: real and imaginary part, exact. -/
def cprod (conj : Bool) (a b : Vec) (p : Nat) : Int × Int :=
  let ar := a.lane (2 * p)
  let ai := a.lane (2 * p + 1)
  let br := b.lane (2 * p)
  let bi := if conj then -(b.lane (2 * p + 1)) else b.lane (2 * p + 1)
  (ar * br - ai * bi, ar * bi + ai * br)

/-- CMUL and CMULJ (R139). -/
def cmulOp (conj : Bool) (w : Work σ) (t : Nat) (c : WordSt) : Work σ :=
  let a := srcA w t c
  let b := srcB w t c
  laneResult w t c ((List.range 4).flatMap (fun p =>
    let z := cprod conj a b p
    [roundAway z.1 15, roundAway z.2 15])) (a.tag || b.tag)

/-! ## Accumulators (R131, R142) -/

/-- Accumulator n as a signed number. -/
def accGet (w : Work σ) (t n : Nat) : Int := sext 48 (w.get (DSP_ACC t n))

/-- R142: an exact sum of terms added to accumulator n. -/
def accAddTo (w : Work σ) (t : Nat) (c : WordSt) (n : Nat) (sum : Int) : Work σ :=
  if w.on (DSP_ACC_HI_HOLD t n) then w
  else
    let v := accGet w t n + sum
    if overS 48 v then
      let w := if w.getBit (DSP_STATUS_GOV t) n then w
        else (w.setBit (DSP_STATUS_GOV t) n true).fire (tileSrc t 6)
      let w := w.set (DSP_ACC_HI_TAINT t n) 1
      if dspSat c.word then (w.set (DSP_ACC t n) (toField 48 (satS 48 v))).set (DSP_ACC_HI_HOLD t n) 1
      else w.set (DSP_ACC t n) (toField 48 v)
    else w.set (DSP_ACC t n) (toField 48 v)

/-- The accumulators that an operation writes (R139). -/
def accsWritten (op acc : Nat) : List Nat :=
  if op = 0x08 ∨ op = 0x09 ∨ op = 0x0D ∨ op = 0x18 ∨ op = 0x19 then [acc]
  else if op = 0x0A ∨ op = 0x0F then [0, 1, 2, 3]
  else if op = 0x0B ∨ op = 0x0C ∨ op = 0x0E then [acc / 2 * 2, acc / 2 * 2 + 1]
  else []

/-- Sums added to accumulators, with the result for TEST: the lowest-numbered accumulator written (R138). -/
def accSums (w : Work σ) (t : Nat) (c : WordSt) (sums : List (Nat × Int)) : Work σ :=
  let w := w.each sums (fun w p => accAddTo w t c p.1 p.2)
  match sums with
  | [] => w
  | p :: _ => w.updSeq t (fun s => { s with lastVal := some (accGet w t p.1), lastIdx := none })

/-- Σ A_l × B_l over the lanes. -/
def dot (a b : Vec) : Int := (List.range 8).foldl (fun n l => n + a.lane l * b.lane l) 0

/-- The two sums of complex products. -/
def cdot (conj : Bool) (a b : Vec) : Int × Int :=
  (List.range 4).foldl (fun n p => (n.1 + (cprod conj a b p).1, n.2 + (cprod conj a b p).2)) (0, 0)

/-- R142: accumulator n scaled by 2^k into 32 bits, and its tag. A k above 47 has no stated result.
[note 40: DESIGN CHOICE] -/
def accOut (w : Work σ) (t : Nat) (c : WordSt) (n : Nat) : (Nat × Bool) × Work σ :=
  let k := bits (mwImm c.word) 0 6
  let taint := w.on (DSP_ACC_HI_TAINT t n)
  if k ≤ 47 then
    let r := roundAway (accGet w t n) k
    ((toField 32 (if dspSat c.word then satS 32 r else r), taint || overS 32 r), w)
  else
    let (v, w) := w.free 33
    ((v % 2 ^ 32, taint || bit v 32), w)

/-- The two lanes of a 32-bit value. -/
def twoLanes (v : Nat) : List Int := [sext 16 v, sext 16 (v / 2 ^ 16)]

/-! ## Searches (R143) -/

/-- R143: the elements of a search, each with its tag. -/
def searchElems (w : Work σ) (t : Nat) (c : WordSt) : List (Int × Bool) :=
  if dspSrcA c.word = 0xE then (List.range 4).map (fun n => (accGet w t n, w.on (DSP_ACC_HI_TAINT t n)))
  else
    let a := srcA w t c
    (List.range 8).map (fun l => (a.lane l, a.tag))

/-- R143: the best element so far, as value and search index. -/
def searchBest (better : Int → Int → Bool) (base : Nat) : List Int → Option (Int × Nat) → Option (Int × Nat)
  | [], b => b
  | e :: es, b =>
    let b' := match b with
      | none => some (e, base)
      | some x => if better e x.1 then some (e, base) else some x
    searchBest better ((base + 1) % 2 ^ 20) es b'

/-- MAXI and MINI (R143). [note 43: DEDUCED] -/
def searchOp (better : Int → Int → Bool) (w : Work σ) (t : Nat) (c : WordSt) : Work σ :=
  let n := dspAcc c.word
  let es := searchElems w t c
  let fresh := (w.seq t).newSearch
  let base := w.get (SEARCH_BASE t n)
  let start := if fresh then none else some (accGet w t n, w.get (DSP_SIDX t n))
  let taint := es.any (fun e => e.2) || (!fresh && w.on (DSP_ACC_HI_TAINT t n))
  match searchBest better base (es.map (fun e => e.1)) start with
  | none => w
  | some (v, i) =>
    let w := (w.set (DSP_ACC t n) (toField 48 v)).set (DSP_SIDX t n) i
    let w := (w.set (SEARCH_BASE t n) (base + es.length)).setB (DSP_ACC_HI_TAINT t n) taint
    let w := if fresh then w.set (DSP_ACC_HI_HOLD t n) 0 else w
    w.updSeq t (fun s => { s with newSearch := false, lastVal := some v, lastIdx := some i })

/-! ## Histograms (R144) -/

/-- R144: the bin of x. -/
def histBin (w : Work σ) (t : Nat) (x : Int) : Nat :=
  let b := shiftFloor (x - sext 16 (w.get (DSP_HIST_HBASE t))) (w.get (DSP_HIST_HSHIFT t))
  min b.toNat (w.get (DSP_HIST_NBINS_M1 t))

/-- HIST (R144): the counter word at B_g + 4 × bin, whose first byte lies at that address modulo the size of data memory; a B_g that is no
multiple of 4 is used as it stands, and the bytes of a word that begins below the top of data memory go on behind it. The flags keep what they hold (R138). [note 160: DESIGN CHOICE] -/
def histOp (w : Work σ) (t : Nat) (c : WordSt) : Work σ :=
  let a := srcA w t c
  let addr := dmBase t + (w.get (DSP_AGU_B t (dspAcc c.word)) + 4 * histBin w t (a.lane 0)) % 131072
  let v := w.rdLe addr 4
  let w := w.wrLe addr 4 (if dspSat c.word then satAdd 0xFFFFFFFF v 1 else v + 1)
  let w := w.updSeq t (fun s => { s with lastVal := none, lastIdx := none })
  if a.tag then w.set (DSP_STATUS_TAINT_STORE t) 1 else w

/-! ## Steps -/

/-- R145: an address-generator slot of the word with a reserved bit set, which acts as NONE. -/
def aguIllegal (x : Nat) : Bool := decide (mwAgu x 0 % 8 ≠ 0) || decide (mwAgu x 1 % 8 ≠ 0)

/-- Step 7: the datapath operation, when it is op; DSP.STATUS.ILLEGAL records a field that acts as NOP (R140), and an
address-generator slot that acts as NONE (R145). -/
def dspStep (w : Work σ) (t op : Nat) (f : Work σ → Nat → WordSt → Work σ) : Work σ :=
  doStep w t (fun c s => decide (s = .dspOp) && decide (dspEff c.word = op)) (fun w c =>
    f (if dspLegal c.word && !aguIllegal c.word then w else w.set (DSP_STATUS_ILLEGAL t) 1) t c)

/-- FLG START (R137, R143). -/
def dspStartStep (w : Work σ) (t : Nat) : Work σ :=
  doStep w t (fun _ s => decide (s = .dspStart)) (fun w c =>
    let op := dspEff c.word
    let n := dspAcc c.word
    if op = 0x18 ∨ op = 0x19 then (w.set (SEARCH_BASE t n) 0).updSeq t (fun s => { s with newSearch := true })
    else w.each (accsWritten op n) (fun w n =>
      ((w.set (DSP_ACC t n) 0).set (DSP_ACC_HI_HOLD t n) 0).set (DSP_ACC_HI_TAINT t n) 0))

/-- DSP_START (R137). -/
def execDspStart (t : Fin 32) (s : State) : Host.Outcome State Fault Refusal := run (fun w => dspStartStep w t) s
/-- DSP_TEST (R138). [note 39: DESIGN CHOICE] -/
def execDspTest (t : Fin 32) (s : State) : Host.Outcome State Fault Refusal :=
  run (fun w => doStep w t (fun _ s => decide (s = .dspTest))
    (fun w _ => setFlags w t (w.seq t).lastVal (w.seq t).lastIdx)) s
/-- DSP_POP (R137, R152). [note 42: DEDUCED] -/
def execDspPop (t : Fin 32) (s : State) : Host.Outcome State Fault Refusal :=
  run (fun w => doStep w t (fun _ s => decide (s = .dspPop))
    (fun w c => if c.timedOut then w else w.updTile t (fun x => { x with dspIn := x.dspIn.tail }))) s

/-- DSP_NOP (R139). -/
def execDspNop (t : Fin 32) (s : State) : Host.Outcome State Fault Refusal :=
  run (fun w => dspStep w t 0x00 (fun w _ _ => w)) s
/-- DSP_MOV (R139). -/
def execDspMov (t : Fin 32) (s : State) : Host.Outcome State Fault Refusal :=
  run (fun w => dspStep w t 0x01 (fun w t c => dstVec w t c (srcA w t c))) s
/-- DSP_ADD (R139). -/
def execDspAdd (t : Fin 32) (s : State) : Host.Outcome State Fault Refusal :=
  run (fun w => dspStep w t 0x02 (laneOp (· + ·))) s
/-- DSP_SUB (R139). -/
def execDspSub (t : Fin 32) (s : State) : Host.Outcome State Fault Refusal :=
  run (fun w => dspStep w t 0x03 (laneOp (· - ·))) s
/-- DSP_MUL (R139, R141). -/
def execDspMul (t : Fin 32) (s : State) : Host.Outcome State Fault Refusal :=
  run (fun w => dspStep w t 0x04 (laneOp (fun a b => roundAway (a * b) 15))) s
/-- DSP_CMUL (R139). -/
def execDspCmul (t : Fin 32) (s : State) : Host.Outcome State Fault Refusal :=
  run (fun w => dspStep w t 0x05 (cmulOp false)) s
/-- DSP_CMULJ (R139). -/
def execDspCmulj (t : Fin 32) (s : State) : Host.Outcome State Fault Refusal :=
  run (fun w => dspStep w t 0x06 (cmulOp true)) s
/-- DSP_MAC (R139). -/
def execDspMac (t : Fin 32) (s : State) : Host.Outcome State Fault Refusal :=
  run (fun w => dspStep w t 0x08 (fun w t c => accSums w t c [(dspAcc c.word, dot (srcA w t c) (srcB w t c))])) s
/-- DSP_MSU (R139). -/
def execDspMsu (t : Fin 32) (s : State) : Host.Outcome State Fault Refusal :=
  run (fun w => dspStep w t 0x09 (fun w t c => accSums w t c [(dspAcc c.word, -(dot (srcA w t c) (srcB w t c)))])) s
/-- DSP_PMAC (R139). -/
def execDspPmac (t : Fin 32) (s : State) : Host.Outcome State Fault Refusal :=
  run (fun w => dspStep w t 0x0A (fun w t c =>
    let a := srcA w t c
    let b := srcB w t c
    accSums w t c ((List.range 4).map (fun p =>
      (p, a.lane (2 * p) * b.lane (2 * p) + a.lane (2 * p + 1) * b.lane (2 * p + 1)))))) s
/-- The two sums of CMAC and CMACJ at their pair (R139). -/
def cmacOp (conj : Bool) (w : Work σ) (t : Nat) (c : WordSt) : Work σ :=
  let z := cdot conj (srcA w t c) (srcB w t c)
  let p := dspAcc c.word / 2 * 2
  accSums w t c [(p, z.1), (p + 1, z.2)]
/-- DSP_CMAC (R139). -/
def execDspCmac (t : Fin 32) (s : State) : Host.Outcome State Fault Refusal :=
  run (fun w => dspStep w t 0x0B (cmacOp false)) s
/-- DSP_CMACJ (R139). -/
def execDspCmacj (t : Fin 32) (s : State) : Host.Outcome State Fault Refusal :=
  run (fun w => dspStep w t 0x0C (cmacOp true)) s
/-- DSP_ACCUM (R139). -/
def execDspAccum (t : Fin 32) (s : State) : Host.Outcome State Fault Refusal :=
  run (fun w => dspStep w t 0x0D (fun w t c =>
    let a := srcA w t c
    accSums w t c [(dspAcc c.word, (List.range 8).foldl (fun n l => n + a.lane l * 2 ^ 15) 0)])) s
/-- DSP_CACCUM (R139). -/
def execDspCaccum (t : Fin 32) (s : State) : Host.Outcome State Fault Refusal :=
  run (fun w => dspStep w t 0x0E (fun w t c =>
    let a := srcA w t c
    let l := dspSrcB c.word % 4
    let p := dspAcc c.word / 2 * 2
    accSums w t c [(p, a.lane (2 * l) * 2 ^ 15), (p + 1, a.lane (2 * l + 1) * 2 ^ 15)])) s
/-- DSP_PACC (R139). -/
def execDspPacc (t : Fin 32) (s : State) : Host.Outcome State Fault Refusal :=
  run (fun w => dspStep w t 0x0F (fun w t c =>
    let a := srcA w t c
    accSums w t c ((List.range 4).map (fun p => (p, a.lane (2 * p) * 2 ^ 15))))) s
/-- DSP_ACCOUT (R142). -/
def execDspAccout (t : Fin 32) (s : State) : Host.Outcome State Fault Refusal :=
  run (fun w => dspStep w t 0x11 (fun w t c =>
    let r := accOut w t c (dspAcc c.word)
    dstVec r.2 t c ⟨twoLanes r.1.1 ++ List.replicate 6 0, r.1.2⟩)) s
/-- DSP_CACCOUT (R142). -/
def execDspCaccout (t : Fin 32) (s : State) : Host.Outcome State Fault Refusal :=
  run (fun w => dspStep w t 0x12 (fun w t c =>
    let p := dspAcc c.word / 2 * 2
    let r := accOut w t c p
    let i := accOut r.2 t c (p + 1)
    dstVec i.2 t c ⟨twoLanes r.1.1 ++ twoLanes i.1.1 ++ List.replicate 4 0, r.1.2 || i.1.2⟩)) s
/-- DSP_MAXI (R143). -/
def execDspMaxi (t : Fin 32) (s : State) : Host.Outcome State Fault Refusal :=
  run (fun w => dspStep w t 0x18 (searchOp (fun e b => decide (b < e)))) s
/-- DSP_MINI (R143). -/
def execDspMini (t : Fin 32) (s : State) : Host.Outcome State Fault Refusal :=
  run (fun w => dspStep w t 0x19 (searchOp (fun e b => decide (e < b)))) s
/-- DSP_HIST (R144). -/
def execDspHist (t : Fin 32) (s : State) : Host.Outcome State Fault Refusal :=
  run (fun w => dspStep w t 0x1C histOp) s

/-- R152: the read of an empty input queue has waited TIMEOUT frames. [note 42: DEDUCED] -/
def inTimeout (w : Work σ) (t : Nat) : Work σ :=
  match (w.seq t).cur with
  | none => w
  | some c =>
    let tmo := w.get (DSP_IN_CTRL_TIMEOUT t)
    let reached := c.todo.head? = some .dspStart ∨ c.todo.head? = some .dspOp
    match c.waitFrom with
    | some f =>
      if reached ∧ inWaits w t c ∧ tmo ≠ 0 ∧ f + tmo ≤ w.now then
        (w.set (DSP_STATUS_IN_TIMEOUT t) 1).updSeq t (fun s => { s with cur := some { c with timedOut := true } })
      else w
    | none => w

/-- IN_TIMEOUT (R152). -/
def execInTimeout (t : Fin 32) (s : State) : Host.Outcome State Fault Refusal := run (fun w => inTimeout w t) s

/-! ## Address generators (R145 to R147) -/

/-- R146: the pointer of generator g moved by m. -/
def aguNext (w : Work σ) (t g : Nat) (m : Int) : Nat :=
  let p : Int := w.get (DSP_AGU_P t g)
  let b : Int := w.get (DSP_AGU_B t g)
  let l : Int := w.get (DSP_AGU_L t g)
  if l = 0 then ((p + m) % 131072).toNat else ((b + (p + m - b) % l) % 131072).toNat

/-- Step 7: address-generator slot b, when its AOP is op (R145). -/
def aguStep (w : Work σ) (t b op : Nat) (f : Work σ → Nat → Nat → Work σ) : Work σ :=
  doStep w t (fun c s => decide (s = if b = 0 then .agu0 else .agu1) && decide (aguEff (mwAgu c.word b) = op))
    (fun w c => f w (aguGen (mwAgu c.word b)) (mwImm c.word))

/-- AGU_MOD (R145). -/
def execAguMod (t : Fin 32) (b : Fin 2) (s : State) : Host.Outcome State Fault Refusal :=
  run (fun w => aguStep w t b 1 (fun w g _ => w.set (DSP_AGU_P t g) (aguNext w t g (sext 18 (w.get (DSP_AGU_M t g)))))) s
/-- AGU_STEP (R145). -/
def execAguStep (t : Fin 32) (b : Fin 2) (s : State) : Host.Outcome State Fault Refusal :=
  run (fun w => aguStep w t b 2 (fun w g _ => w.set (DSP_AGU_P t g) (aguNext w t g 16))) s
/-- AGU_RESET (R145). -/
def execAguReset (t : Fin 32) (b : Fin 2) (s : State) : Host.Outcome State Fault Refusal :=
  run (fun w => aguStep w t b 3 (fun w g _ => w.set (DSP_AGU_P t g) (w.get (DSP_AGU_B t g)))) s
/-- AGU_LDP (R145). -/
def execAguLdp (t : Fin 32) (b : Fin 2) (s : State) : Host.Outcome State Fault Refusal :=
  run (fun w => aguStep w t b 4 (fun w g imm => w.set (DSP_AGU_P t g) (bits imm 0 17))) s
/-- AGU_LDM (R145). -/
def execAguLdm (t : Fin 32) (b : Fin 2) (s : State) : Host.Outcome State Fault Refusal :=
  run (fun w => aguStep w t b 5 (fun w g imm => w.set (DSP_AGU_M t g) (bits imm 0 18))) s
/-- AGU_LDB (R145). -/
def execAguLdb (t : Fin 32) (b : Fin 2) (s : State) : Host.Outcome State Fault Refusal :=
  run (fun w => aguStep w t b 6 (fun w g imm => w.set (DSP_AGU_B t g) (bits imm 0 17))) s
/-- AGU_LDL (R145). -/
def execAguLdl (t : Fin 32) (b : Fin 2) (s : State) : Host.Outcome State Fault Refusal :=
  run (fun w => aguStep w t b 7 (fun w g imm => w.set (DSP_AGU_L t g) (min 131072 (bits imm 0 18)))) s

end Sys2Proof.Machine
end

