-- ==== Sys2Proof/Machine/NetTime.lean ====
section
/-! DEFINITION. Network time (R372 to R376): staged commands, the snapshot, alarms and marks. -/

namespace Sys2Proof.Machine

variable {σ : State}

/-- INCR in force, as 32.32 (R372, R385). -/
def ntIncr (w : Work σ) : Nat := w.get TIME_INCR_NS * 2 ^ 32 + w.get TIME_INCR_FRAC

/-- VAL of a staged command, as 64.32 (R373). -/
def ntVal (w : Work σ) : Nat :=
  w.get TIME_NT_CMD_VAL_HI * 2 ^ 64 + w.get TIME_NT_CMD_VAL_LO * 2 ^ 32 + w.get TIME_NT_CMD_VAL_FRAC

def ntAt (w : Work σ) : Nat := w.get TIME_NT_CMD_AT_HI * 2 ^ 32 + w.get TIME_NT_CMD_AT_LO

/-- R373: GO stages a command of OP, unless one is staged or OP is reserved. [note 131: DEDUCED] -/
def ntStage (w : Work σ) (path : Path) (op : Nat) (epoch : Bool) : Work σ :=
  if w.on TIME_NT_CMD_BUSY ∨ op = 3 then w.ignored path TIME_NT_CMD_GO
  else
    let a := ntAt w
    let late := !epoch && decide (a ≠ 0) && decide (a ≤ w.now)
    let w := (w.set TIME_NT_CMD_BUSY 1).setB TIME_NT_CMD_LATE (w.on TIME_NT_CMD_LATE || late)
    { w with dev := { w.dev with ntCmd := some ⟨op, ntVal w, epoch, false, if epoch || a = 0 || late then none else some a, w.dev.ticks⟩ } }

/-- R373: CANCEL withdraws a staged command. -/
def ntCancel (w : Work σ) : Work σ :=
  if w.on TIME_NT_CMD_BUSY then { (w.set TIME_NT_CMD_BUSY 0) with dev := { w.dev with ntCmd := none } } else w

/-- R373, R385: a write to TIME.NT_CMD. -/
def ntCmdWrite (w : Work σ) (path : Path) (v : Nat) : Work σ :=
  let w := if bit v 7 then w.set TIME_NT_CMD_LATE 0 else w
  let w := if bit v 8 then ntCancel w else w
  let w := (w.set TIME_NT_CMD_EPOCH (bits v 5 1)).set TIME_NT_CMD_OP (bits v 0 2)
  if bit v 4 then ntStage w path (bits v 0 2) (bit v 5) else w

/-- NT latched into TIME.NT_EPOCH (R374). -/
def ntEpochLatch (w : Work σ) : Work σ :=
  let n := w.get NT_NOW
  ((w.set TIME_NT_EPOCH_FRAC n).set TIME_NT_EPOCH_LO (n / 2 ^ 32)).set TIME_NT_EPOCH_HI (n / 2 ^ 64)

/-- R373: whether the tick that a staged command has chosen is the present one: it applies with the boundary that follows the
staging, with the frame AT, or with the TL = 0 boundary of the next accepted edge. -/
def ntReached (w : Work σ) (c : NtCmd) : Bool :=
  if c.epoch then c.edge && w.dev.epochZero.isNone && w.tl.running && decide (w.now = 0) && decide (c.staged < w.dev.ticks)
  else decide (c.staged < w.dev.ticks) && (match c.at_ with | none => true | some a => decide (a ≤ w.now))

/-- R373: a staged command applies at its tick, to which FRAME_TICK has already added the INCR that was in force.
[note 22: DESIGN CHOICE] -/
def ntApply (w : Work σ) : Work σ :=
  match w.dev.ntCmd with
  | none => w
  | some c =>
    if !ntReached w c then w
    else
      let n := w.get NT_NOW
      let w := if c.op = 0 then
          let new := c.val % 2 ^ 64
          let old := ntIncr w
          ((w.set TIME_INCR_NS (new / 2 ^ 32)).set TIME_INCR_FRAC new).set NT_NOW (n + new + 2 ^ 96 - old)
        else if c.op = 1 then w.set NT_NOW (n + c.val)
        else w.set NT_NOW c.val
      let w : Work σ := { (w.set TIME_NT_CMD_BUSY 0) with dev := { w.dev with ntCmd := none } }
      if w.tl.running ∧ w.now = 0 then ntEpochLatch w else w

/-- NT_CMD_APPLY (R373). -/
def execNtCmdApply (s : State) : Host.Outcome State Fault Refusal := run ntApply s

/-- R374: a write of SNAP. -/
def ntSnap (w : Work σ) : Work σ :=
  let n := w.get NT_NOW
  let w := ((w.set TIME_NT_SNAP_FRAC n).set TIME_NT_SNAP_LO (n / 2 ^ 32)).set TIME_NT_SNAP_HI (n / 2 ^ 64)
  (w.set TIME_TL_SNAP_LO w.now).set TIME_TL_SNAP_HI (w.now / 2 ^ 32)

/-! ## Alarms and marks (R375, R376) -/

/-- R375: a write of ARM to an alarm. -/
def alarmArm (w : Work σ) (k : Nat) : Work σ := (w.set (TIME_ALARM_CTRL_ARMED k) 1).set (ALARM_AT k) w.dev.ticks

/-- R385: a write to TIME.ALARM[k].CTRL. -/
def alarmCtrlWrite (w : Work σ) (k v : Nat) : Work σ :=
  let w := if bit v 2 then w.set (TIME_ALARM_CTRL_FIRED k) 0 else w
  if bit v 0 then alarmArm w k else w

/-- R376: a frame F for the marks of a source; mark m goes high 11 frames behind it. [note 27: DESIGN CHOICE] -/
def markFrame (w : Work σ) (src : Nat) : Work σ :=
  let ms := (List.range 8).filter (fun m => decide (w.get (TIME_MARK_SRC m) = src))
  { w with dev := { w.dev with marks := w.dev.marks ++ ms.map (fun m => (m, w.dev.ticks)) } }

/-- R375: an armed alarm whose target NT has reached fires. [note 2: DESIGN CHOICE] -/
def alarmFire (w : Work σ) (k : Nat) : Work σ :=
  if w.on (TIME_ALARM_CTRL_ARMED k) ∧ w.get (ALARM_AT k) < w.dev.ticks ∧
      0 ≤ sext 32 (seqDiff w.ntLo (w.get (TIME_ALARM_TARGET k))) then
    markFrame ((((w.set (TIME_ALARM_CTRL_ARMED k) 0).set (TIME_ALARM_CTRL_FIRED k) 1).fire (498 + k))) (1 + k)
  else w

/-- ALARM_FIRE (R375). -/
def execAlarmFire (k : Fin 2) (s : State) : Host.Outcome State Fault Refusal := run (fun w => alarmFire w k) s

end Sys2Proof.Machine
end

