-- ==== Sys2Proof/Machine/Links.lean ====
section
/-! DEFINITION. Brisol links (spec/15): training and bonding, stripes, degradation and re-bonding, messages and credit. -/

namespace Sys2Proof.Machine

variable {σ : State}

/-! ## Lane flags and the BER check that links use (R350, R355) -/

/-- R355: an EVT flag of lane n rises, and the lane fires its source when the flag is enabled. -/
def laneEvt (w : Work σ) (n : Nat) (flag enable : Fld) : Work σ :=
  if w.on flag then w
  else
    let w := w.set flag 1
    if w.on enable then w.fire (448 + n) else w

/-- R350: a BER check starts; its conditions hold so far when the lane is in UP or ADAPT with block lock and no hi-BER. -/
def startCheck (w : Work σ) (n : Nat) : Work σ :=
  if w.on (LANE_CHECK_BUSY n) then w
  else
    let ok := (decide (laneState w n = LANE_UP) || decide (laneState w n = LANE_ADAPT)) &&
      w.on (LANE_STATUS_BLOCK_LOCK n) && !w.on (LANE_STATUS_HIBER n)
    (w.set (LANE_CHECK_BUSY n) 1).setB (LANE_CHECK_OK n) ok

/-! ## The lanes of a link (R357) -/

/-- R342: the enabled link that uses lane n, and the index that its receiver carries. -/
def linkOf (w : Work σ) (n : Nat) : Option (Nat × Nat) :=
  ((List.range 32).find? (fun l => w.on (LINK_CFG_EN l) && (linkLanes w l).contains n)).map
    (fun l => (l, rxIndex w l n))

/-- R359: every lane of link l is a BRISOL lane in UP that has received a PEER_IDX. -/
def lanesReady (w : Work σ) (l : Nat) : Bool :=
  (linkLanes w l).all (fun n => decide (n < 32) && decide (w.get (LANE_CFG_ROLE n) = 2) &&
    decide (laneState w n = LANE_UP) && w.on (LANE_STATUS_PEER_VALID n))

/-- R366: the stripe sets in their order of preference. -/
def stripeOrder : List Nat := [0b1111, 0b0011, 0b1100, 0b0001, 0b0010, 0b0100, 0b1000]

/-- R366: the first set within the width without a failed index. -/
def stripeSet (w : Work σ) (l failed : Nat) : Option Nat :=
  stripeOrder.find? (fun m => decide (m ≤ fullSet w l) && decide (m &&& failed = 0))

/-! ## Blocks (R361, R362) -/

/-- R359: the TRAIN blocks that the lanes of link l send, with or without a proposal. -/
def sendTrain (w : Work σ) (l : Nat) (propose : Bool) : Work σ :=
  let body := fun i => i * 2 ^ 8 + min 2 (w.get (LINK_CFG_WIDTH l)) * 2 ^ 10 + w.get LINKS_DEV * 2 ^ 12
    + b2n propose * 2 ^ 18 + (if propose then 64 else 0) * 2 ^ 19
  interval w l (fun i => some (2, ctrlBlock 0x2D (body i)))

/-- Operations of a LINKCTL block (R362). -/
def OP_DEGRADE : Nat := 0
def OP_READY : Nat := 1
def OP_REBOND : Nat := 2

/-- R367: a new LINKCTL block leaves with the end's failed mask and the next CSEQ. -/
def sendLinkctl (w : Work σ) (l op set : Nat) : Work σ :=
  let k := w.link l
  let body := op * 2 ^ 8 + k.own * 2 ^ 10 + set * 2 ^ 14 + 64 * 2 ^ 18 + k.csNext * 2 ^ 34
  (sendCopies w l (ctrlBlock 0x87 body)).updLink l (fun k => { k with csNext := (k.csNext + 1) % 16 })

/-! ## Messages and what waits for a link -/

/-- R365: open messages of a link discarded. -/
def dropMsgs (w : Work σ) (l : Nat) : Work σ :=
  let n := ((w.link l).msgs.filter (fun m => !m.dead)).length
  (w.add (LINK_COUNT0_MSG_DROP l) n).updLink l (fun k => { k with msgs := [] })

/-- The peer queues of the device that name link l. -/
def linkQueues (w : Work σ) (l : Nat) (f : Work σ → Nat → Nat → Work σ) : Work σ :=
  w.each (List.range 32) (fun w t =>
    w.each (List.range 64) (fun w j =>
      if qEnabled w t (448 + j) && w.on (QT_PEER_REMOTE t (448 + j)) && decide (w.get (QT_PEER_LINK t (448 + j)) = l) then
        f w t (448 + j)
      else w))

/-- R363: the control blocks that wait for link l leave: tokens, up to two to a block in the order they became ready, trigger tokens,
then the rest. -/
def heldFlush (w : Work σ) (l : Nat) : Work σ :=
  let ps := (w.link l).held
  let w := w.updLink l (fun k => { k with held := [] })
  let c0 := fun (p : Nat) => decide (p % 256 = 0x4B)
  let trig := fun (p : Nat) => decide (p % 256 = 0x55)
  w.each (c0Blocks (ps.flatMap c0Tokens) ++ ps.filter trig ++ ps.filter (fun p => !c0 p && !trig p)) (fun w p => copiesNow w l p)

/-- R19: what waits at queues that name link l, in order of arrival. -/
def waitsOn (w : Work σ) (l : Nat) (x : PeerWait) : Bool :=
  w.on (QT_PEER_REMOTE x.tile x.index) && decide (w.get (QT_PEER_LINK x.tile x.index) = l)

/-- R19, R365: one that waits leaves: the credit of its queue when C1 may leave, and its entry when that is the next of its queue and its
class is not below class top. -/
def waitSend (w : Work σ) (top : Nat) (x : PeerWait) : Work σ :=
  match x.seq with
  | none => if w.get (QREPORTED x.tile x.index) = w.get (QTAIL x.tile x.index) then w else peerCredit w x.tile x.index
  | some n => if w.get (QSENT x.tile x.index) = n then peerSend x.tile x.index top 1 w else w

/-- R19, R365: what waits for link l leaves by class, the credit with C1, and within a class in order of arrival; then what has no place
in that order, by tile. -/
def linkFlush (w : Work σ) (l : Nat) : Work σ :=
  let w := heldFlush w l
  let mine := w.dev.peerWait.filter (waitsOn w l)
  let w := { w with dev := { w.dev with peerWait := w.dev.peerWait.filter (fun x => !waitsOn w l x) } }
  let w := w.each [1, 2, 3] (fun w top => w.each mine (fun w x => waitSend w top x))
  let w := linkQueues w l (fun w t i =>
    if w.on (QT_CFG_DIR t i) || decide (w.get (QREPORTED t i) = w.get (QTAIL t i)) then w else peerCredit w t i)
  w.each [1, 2, 3] (fun w top => linkQueues w l (fun w t i =>
    if w.on (QT_CFG_DIR t i) then peerSend t i top (qFill w t i) w else w))

/-- R353: whether the device has a block to send on link l. -/
def linkWaits (w : Work σ) (l : Nat) : Bool :=
  !(w.link l).held.isEmpty || (List.range 32).any (fun t => (List.range 64).any (fun j =>
    let i := 448 + j
    qEnabled w t i && w.on (QT_PEER_REMOTE t i) && decide (w.get (QT_PEER_LINK t i) = l) &&
      (if w.on (QT_CFG_DIR t i) then decide (w.get (QSENT t i) ≠ (w.get (QT_SEQ_A t i) + 1) % 2 ^ 32)
       else decide (w.get (QREPORTED t i) ≠ w.get (QTAIL t i)))))

/-! ## Up and down (R359, R370) -/

/-- R359, R363: link l trains afresh: TRAINING once its lanes are ready, DOWN until then. A lulled transmitter wakes first (R353), and
tokens that waited for it are not sent. [notes 79: DEDUCED, 80: DEDUCED] -/
def linkTrain (w : Work σ) (l : Nat) : Work σ :=
  let w := w.add (LINK_COUNT1_C0_UNSENT l) ((w.link l).held.flatMap c0Tokens).length
  let w := w.updLink l (fun k => { LinkSt.reset with waking := k.waking })
  let w := (w.set (LINK_STATUS_FAILED l) 0).set (LINK_STATUS_SET l) 0
  let w := w.set (LINK_STATUS_STATE l) (if w.on (LINK_CFG_EN l) && lanesReady w l then 1 else 0)
  if w.on (LINK_CFG_EN l) then sendTrain w l false else w

/-- R370: link l goes down and trains again. -/
def linkDown (w : Work σ) (l : Nat) : Work σ :=
  if linkLive w l then linkTrain ((dropMsgs (w.set (LINK_EVT_DOWN l) 1) l).fire 506) l else linkTrain w l

/-- R359: training fails and begins again. -/
def trainFail (w : Work σ) (l : Nat) : Work σ := linkTrain (w.set (LINK_EVT_TRAIN_FAIL l) 1) l

/-- STATUS.FAILED: the union of both ends' masks (R382). -/
def showFailed (w : Work σ) (l : Nat) : Work σ := w.set (LINK_STATUS_FAILED l) ((w.link l).own ||| (w.link l).far)

/-- R369: the end with the lower DEVNUM proposes a larger set when the masks of both ends admit one. -/
def maybeRebond (w : Work σ) (l : Nat) : Work σ :=
  let k := w.link l
  if linkLive w l && decide (k.phase = .steady) && decide (w.get LINKS_DEV < w.get (LINK_STATUS_PEER_DEV l)) then
    match stripeSet w l (k.own ||| k.far) with
    | some s =>
      if popcount 4 k.txSet < popcount 4 s then
        (sendLinkctl w l OP_REBOND s).updLink l (fun k => { k with
          phase := .rebond, txNext := some s, rxNext := none, txDone := false, rxDone := false })
      else w
    | none => w
  else w

/-- R359, R367, R369: both directions of link l have switched. -/
def switchDone (w : Work σ) (l : Nat) : Work σ :=
  let k := w.link l
  if k.txDone ∧ k.rxDone then
    let w := w.updLink l (fun k => { k with phase := .steady, txDone := false, rxDone := false })
    match k.phase with
    | .steady => w
    | .bond =>
      let w := (w.set (LINK_STATUS_STATE l) 2).updLink l (fun k => { k with own := 0, far := 0, csNext := 0, csLast := 15 })
      linkFlush (((showFailed w l).set (LINK_EVT_UP l) 1).fire 507) l
    | .degrade =>
      let w := (w.set (LINK_STATUS_STATE l) 3).set (LINK_EVT_DEGRADE l) 1
      maybeRebond (dropMsgs ((w.inc (LINK_COUNT1_DEGRADES l)).fire 504) l) l
    | .rebond =>
      let w := w.set (LINK_STATUS_STATE l) (if k.txSet = fullSet w l then 2 else 3)
      maybeRebond (((w.set (LINK_EVT_REBOND l) 1).inc (LINK_COUNT1_REBONDS l)).fire 505) l
  else w

/-- R360: one direction of link l adopts its new stripe set. -/
def stripeSwitch (w : Work σ) (l : Nat) (tx : Bool) : Work σ :=
  let k := w.link l
  match if tx then k.txNext else k.rxNext with
  | none => w
  | some s =>
    let w := w.updLink l (fun k => if tx then { k with txSet := s, txNext := none, txDone := true }
      else { k with rxSet := s, rxNext := none, rxDone := true })
    switchDone (if tx then w.set (LINK_STATUS_SET l) s else w) l

/-- STRIPE_SWITCH (R360). -/
def execStripeSwitch (l : Fin 32) (tx : Bool) (s : State) : Host.Outcome State Fault Refusal :=
  run (fun w => stripeSwitch w l tx) s

/-! ## Training (R359) -/

/-- Whether the members of a list differ from one another. -/
def allDistinct : List Nat → Bool
  | [] => true
  | x :: xs => !xs.contains x && allDistinct xs

/-- R359: the conditions on the TRAIN blocks that the lanes of link l have received. -/
def trainGood (w : Work σ) (l : Nat) : Bool :=
  let rs := (w.link l).train.map (fun x => x.2)
  allDistinct (rs.map (fun r => r.idx)) &&
    rs.all (fun r => decide (lanesOfCode r.width = linkWidth w l) && decide (r.dev ≠ w.get LINKS_DEV) &&
      decide (some r.dev = (rs.map (fun r => r.dev)).head?))

/-- R359: this end proposes a bond point for its transmit direction. -/
def proposeBond (w : Work σ) (l : Nat) : Work σ :=
  (sendTrain w l true).updLink l (fun k => { k with phase := .bond, txNext := some (fullSet w l), txDone := false })

/-- R359: link l goes on with its training once every lane has received a TRAIN block. [note 80: DEDUCED] -/
def trainEval (w : Work σ) (l dev count : Nat) : Work σ :=
  if (w.link l).train.length < linkWidth w l then w
  else if !trainGood w l then trainFail w l
  else
    let w := w.set (LINK_STATUS_PEER_DEV l) dev
    let w := if (w.link l).phase = .steady ∧ (w.get LINKS_DEV < dev ∨ count ≠ 0) then proposeBond w l else w
    if count ≠ 0 ∧ (w.link l).rxNext = none ∧ !(w.link l).rxDone then
      w.updLink l (fun k => { k with rxNext := some (fullSet w l) })
    else w

/-- R342, R359, R370: a TRAIN block arrives on the i-th lane of link l, skew units of 20 ps behind the earliest lane. -/
def trainBlock (w : Work σ) (l i p skew : Nat) : Work σ :=
  let n := w.get (LINK_CFG_BASE l) + i
  if !w.on (LINK_CFG_EN l) || !decide (i < linkWidth w l) || !decide (n < 32) || !decide (w.get (LANE_CFG_ROLE n) = 2) ||
      !decide (laneState w n = LANE_UP) then w
  else
    let (ok, w) := ctrlBody w l 0x2D p
    if !ok then w
    else
      let dev := bits p 12 6
      let w := (w.set (LANE_STATUS_PEER_IDX n) (bits p 8 2)).set (LANE_STATUS_PEER_VALID n) 1
      if linkLive w l then (if dev ≠ w.get (LINK_STATUS_PEER_DEV l) then linkDown w l else w)
      else
        let w := if lanesReady w l then w.set (LINK_STATUS_STATE l) 1 else w
        let rx : TrainRx := ⟨bits p 8 2, bits p 10 2, dev, bit p 18, bits p 19 16⟩
        let w := (w.set (LINK_SKEW_SKEW l rx.idx) skew).updLink l (fun k => { k with
          train := k.train.filter (fun x => x.1 ≠ i) ++ [(i, rx)] })
        if lanesReady w l then trainEval w l dev rx.count else w

/-- TRAIN_BLOCK (R359). -/
def execTrainBlock (l : Fin 32) (i : Fin 4) (payload : BitVec 64) (skew : BitVec 8) (s : State) :
    Host.Outcome State Fault Refusal :=
  run (fun w => trainBlock w l i payload.toNat skew.toNat) s

/-- TRAIN_TIMEOUT (R359): 100 ms have passed since the lanes of link l reached UP. [note 3: DESIGN CHOICE] -/
def execTrainTimeout (l : Fin 32) (s : State) : Host.Outcome State Fault Refusal :=
  run (fun w =>
    if w.on (LINK_CFG_EN l) && !linkLive w l && (linkLanes w l).all (fun n => decide (laneState w n = LANE_UP)) then
      trainFail w l
    else w) s

/-! ## Degradation and re-bonding (R366 to R369) -/

/-- The indices of a mask whose lanes are in UP at this end start their BER checks (R369). -/
def checkMask (w : Work σ) (l mask : Nat) : Work σ :=
  w.each (List.range 4) (fun w i =>
    match rxLane w l i with
    | some n => if bit mask i ∧ laneState w n = LANE_UP then startCheck w n else w
    | none => w)

/-- R369: READY leaves with this end's failed mask, which has changed. -/
def sendReady (w : Work σ) (l : Nat) : Work σ := sendLinkctl w l OP_READY (w.link l).txSet

/-- R367, R369: a lane of a bonded link fails at this end. [note 81: DEDUCED] -/
def markFailed (w : Work σ) (l i : Nat) : Work σ :=
  let k := w.link l
  if bit k.own i then w
  else
    let w := showFailed (w.updLink l (fun k => { k with own := k.own ||| 2 ^ i })) l
    match stripeSet w l (w.link l).own with
    | none => linkDown w l
    | some s =>
      let w := sendReady (sendLinkctl w l OP_DEGRADE s) l
      if some s = k.txNext ∨ (k.txNext = none ∧ s = k.txSet) then w
      else w.updLink l (fun k => { k with phase := .degrade, txNext := some s, txDone := false, rxDone := false })

/-- R343, R359, R366: lane n of a link has gone down. -/
def linkLaneDown (w : Work σ) (n : Nat) : Work σ :=
  match linkOf w n with
  | none => w
  | some (l, i) => if linkLive w l then markFailed w l i else linkTrain w l

/-- R359, R369: lane n of a link has reached UP. -/
def linkLaneUp (w : Work σ) (n : Nat) : Work σ :=
  match linkOf w n with
  | none => w
  | some (l, i) =>
    if linkLive w l then (if bit (w.link l).own i then startCheck w n else w)
    else sendTrain (if lanesReady w l then w.set (LINK_STATUS_STATE l) 1 else w) l false

/-- R369: the check of lane n has passed: its index leaves this end's failed mask. -/
def linkLanePassed (w : Work σ) (n : Nat) : Work σ :=
  match linkOf w n with
  | none => w
  | some (l, i) =>
    if linkLive w l ∧ bit (w.link l).own i ∧ laneState w n = LANE_UP then
      let w := w.updLink l (fun k => { k with own := k.own - 2 ^ i })
      maybeRebond (sendReady (showFailed w l) l) l
    else w

/-- A LINKCTL block of an operation accepted from the partner: not a copy of the last one (R367). -/
def acceptCtl (w : Work σ) (l op p : Nat) : Bool × Work σ :=
  let (ok, w) := ctrlBody w l 0x87 p
  if !linkLive w l then (false, w)
  else
    if !ok || !decide (bits p 8 2 = op) || decide (bits p 34 4 = (w.link l).csLast) then (false, w)
    else (true, showFailed (w.updLink l (fun k => { k with csLast := bits p 34 4, far := bits p 10 4 })) l)

/-- R367, R369: a DEGRADE arrives. [note 81: DEDUCED] -/
def degrade (w : Work σ) (l p : Nat) : Work σ :=
  let (ok, w) := acceptCtl w l OP_DEGRADE p
  if !ok then w
  else
    let k := w.link l
    let fresh := bits p 10 4 &&& (15 - k.own)
    let set := bits p 14 4
    let rxMoves := decide (set ≠ k.rxSet) || k.rxNext.isSome
    let w := w.updLink l (fun k => { k with own := k.own ||| bits p 10 4
                                            rxNext := if rxMoves then some set else none, rxDone := !rxMoves })
    let w := checkMask (showFailed w l) l fresh
    match stripeSet w l (w.link l).own with
    | none => linkDown w l
    | some s =>
      let w :=
        if some s = k.txNext ∨ (k.txNext = none ∧ s = k.txSet) then
          w.updLink l (fun x => { x with txDone := x.txDone || decide (k.txNext = none) })
        else (sendLinkctl w l OP_DEGRADE s).updLink l (fun x => { x with txNext := some s, txDone := false })
      let w := if fresh = 0 then w else sendReady w l
      if rxMoves ∨ (w.link l).txNext ≠ none ∨ k.phase = .degrade then w.updLink l (fun x => { x with phase := .degrade })
      else w.updLink l (fun x => { x with txDone := false, rxDone := false })

/-- DEGRADE (R367). -/
def execDegrade (l : Fin 32) (payload : BitVec 64) (s : State) : Host.Outcome State Fault Refusal :=
  run (fun w => switchDone (degrade w l payload.toNat) l) s

/-- LINK_READY (R369). -/
def execLinkReady (l : Fin 32) (payload : BitVec 64) (s : State) : Host.Outcome State Fault Refusal :=
  run (fun w =>
    let (ok, w) := acceptCtl w l OP_READY payload.toNat
    if ok then maybeRebond w l else w) s

/-- R369: a REBOND arrives: the receive stripe is to switch, and the end that did not propose answers.
[note 81: DEDUCED] -/
def rebond (w : Work σ) (l p : Nat) : Work σ :=
  let (ok, w) := acceptCtl w l OP_REBOND p
  if !ok then w
  else
    let set := bits p 14 4
    if (w.link l).phase = .rebond then w.updLink l (fun k => { k with rxNext := some set })
    else (sendLinkctl w l OP_REBOND set).updLink l (fun k => { k with
      phase := .rebond, txNext := some set, rxNext := some set, txDone := false, rxDone := false })

/-- REBOND (R369). -/
def execRebond (l : Fin 32) (payload : BitVec 64) (s : State) : Host.Outcome State Fault Refusal :=
  run (fun w => rebond w l payload.toNat) s

/-- LANE_RECHECK_TIMER (R369): 10 ms have passed since the failed check of lane n. [note 3: DESIGN CHOICE] -/
def execLaneRecheckTimer (n : Fin 32) (s : State) : Host.Outcome State Fault Refusal :=
  run (fun w =>
    match linkOf w n with
    | none => w
    | some (l, i) =>
      if linkLive w l ∧ bit (w.link l).own i ∧ laneState w n = LANE_UP then startCheck w n else w) s

/-! ## Messages (R364, R365) -/

/-- R364: the message that a MSG block opens. -/
def msgOf (p : Nat) : OpenMsg :=
  ⟨bits p 25 2, bits p 8 5, bits p 13 9, bits p 27 5, bits p 32 9, bits p 22 3 + 1, [], false⟩

/-- R365: whether a message's destination is an enabled inbound peer queue whose PEER names its source. -/
def msgDest (w : Work σ) (l : Nat) (m : OpenMsg) : Bool :=
  let t := m.tile
  let i := m.index
  decide (448 ≤ i) && qEnabled w t i && !w.on (QT_CFG_DIR t i) && w.on (QT_PEER_REMOTE t i) &&
    decide (w.get (QT_PEER_LINK t i) = l) && decide (w.get (QT_PEER_DEVICE t i) = w.get (LINK_STATUS_PEER_DEV l)) &&
    decide (w.get (QT_PEER_TILE t i) = m.srcTile) && decide (w.get (QT_PEER_INDEX t i) = m.srcIndex)

/-- R365: a MSG block opens a message; open messages of equal or higher class are discarded when it does not interrupt
them. [note 82: DEDUCED] -/
def msgBlock (w : Work σ) (l i p : Nat) : Work σ :=
  if !rxUp w l i then w
  else
    let (ok, w) := ctrlBody w l 0x66 p
    if !ok || !linkLive w l || !rxTakes w l i then w
    else
      let m := msgOf p
      let cls := m.cls
      let gone := (w.link l).msgs.filter (fun m => decide (m.cls ≤ cls))
      let w := (w.add (LINK_COUNT0_MSG_DROP l) (gone.filter (fun m => !m.dead)).length).updLink l (fun k => { k with
        msgs := k.msgs.filter (fun m => !decide (m.cls ≤ cls)) })
      if cls = 0 then w.inc (LINK_COUNT0_MSG_DROP l)
      else
        let good := msgDest w l m
        let w := if good then w else w.inc (LINK_COUNT0_MSG_DROP l)
        w.updLink l (fun k => { k with msgs := { m with dead := !good } :: k.msgs })

/-- MSG_BLOCK (R364). -/
def execMsgBlock (l : Fin 32) (ix : Fin 4) (payload : BitVec 64) (s : State) : Host.Outcome State Fault Refusal :=
  run (fun w => msgBlock w l ix payload.toNat) s

/-- R365: a data block fills the newest open message, and a completed entry enters its ring. A message whose destination has ceased
to be one is discarded then. [note 82: DEDUCED] -/
def dataBlock (w : Work σ) (l i d : Nat) : Work σ :=
  if !linkLive w l || !rxTakes w l i then w
  else match (w.link l).msgs with
    | [] => w
    | m :: ms =>
      let gone := !m.dead && !msgDest w l m
      let w := if gone then w.inc (LINK_COUNT0_MSG_DROP l) else w
      let m := { m with dead := m.dead || gone }
      let bytes := m.bytes ++ leBytes 8 d
      if bytes.length < 32 then w.updLink l (fun k => { k with msgs := { m with bytes := bytes } :: ms })
      else
        let w := w.updLink l (fun k => { k with
          msgs := if m.left ≤ 1 then ms else { m with left := m.left - 1, bytes := [] } :: ms })
        if m.dead then w else qAdmitPeer w m.tile m.index bytes

/-- DATA_BLOCK (R365). -/
def execDataBlock (l : Fin 32) (ix : Fin 4) (data : BitVec 64) (s : State) : Host.Outcome State Fault Refusal :=
  run (fun w => dataBlock w l ix data.toNat) s

/-- R365: a CREDIT block returns credit to the producer queue that it names. [note 82: DEDUCED] -/
def creditBlock (w : Work σ) (l ix p : Nat) : Work σ :=
  if !rxUp w l ix then w
  else
    let (ok, w) := ctrlBody w l 0x78 p
    let t := bits p 8 5
    let i := bits p 13 9
    if ok && linkLive w l && rxTakes w l ix && decide (448 ≤ i) && qEnabled w t i && w.on (QT_CFG_DIR t i) && w.on (QT_PEER_REMOTE t i) &&
        decide (w.get (QT_PEER_LINK t i) = l) then
      peerFlush (qCreditReturn w t i (bits p 22 32)) t i
    else w

/-- CREDIT_BLOCK (R365). -/
def execCreditBlock (l : Fin 32) (ix : Fin 4) (payload : BitVec 64) (s : State) : Host.Outcome State Fault Refusal :=
  run (fun w => creditBlock w l ix payload.toNat) s

/-- CONTROL_BLOCK_CRC_ERROR (R361). -/
def execControlBlockCrcError (l : Fin 32) (s : State) : Host.Outcome State Fault Refusal :=
  run (fun w => w.inc (LINK_COUNT0_CRC_ERR l)) s

/-! ## Control by software (R357, R370) -/

/-- R357: whether a configuration would use a lane of another enabled link. -/
def linkOverlaps (w : Work σ) (l base code : Nat) : Bool :=
  let mine := (List.range (lanesOfCode code)).map (base + ·)
  (List.range 32).any (fun k => decide (k ≠ l) && w.on (LINK_CFG_EN k) && (linkLanes w k).any (fun n => mine.contains n))

/-- R370: a write to LINK[l].CTRL. -/
def linkCtrlWrite (w : Work σ) (l v : Nat) : Work σ := if bit v 0 then linkDown w l else w

end Sys2Proof.Machine
end

