-- ==== Sys2Proof/Machine/Lanes.lean ====
section
/-! DEFINITION. Serial lanes (spec/14): bring-up, polarity, adaptation, margin measurement, the BER check, test patterns and
loops, and lull. -/

namespace Sys2Proof.Machine

variable {σ : State}

/-! ## Bring-up (R340) -/

/-- R333: a lane is enabled when its role is ETHERNET or BRISOL. -/
def laneEnabled (w : Work σ) (n : Nat) : Bool := decide (w.get (LANE_CFG_ROLE n) = 1) || decide (w.get (LANE_CFG_ROLE n) = 2)

def laneTest (w : Work σ) (n : Nat) : Bool := decide (w.get (LANE_CFG_ROLE n) = 3)

/-- R351: lane n sends and expects PRBS9 or PRBS31. -/
def lanePrbs (w : Work σ) (n : Nat) : Bool :=
  laneTest w n && (decide (w.get (LANE_PRBS_PAT n) = 1) || decide (w.get (LANE_PRBS_PAT n) = 2))

/-- R333: whether every enabled lane is in UP or LULL, as DEV.STATUS.LANES_UP shows; 0 with no lane enabled (R31).
[note 158: DEDUCED] -/
def lanesUp (w : Work σ) : Bool :=
  (List.range 32).any (laneEnabled w) && (List.range 32).all (fun n => !laneEnabled w n || decide (laneState w n = LANE_UP) || decide (laneState w n = LANE_LULL))

/-- R333, R344, R351 to R353: what SER_TX[n] carries: 0 electrical idle, 1 scrambled blocks, 2 PRBS9, 3 PRBS31, 4 the partner's stream
returned. [note 78: DEDUCED] -/
def serTx (w : Work σ) (n : Nat) : Nat :=
  let role := w.get (LANE_CFG_ROLE n)
  let loop := w.get (LANE_CTRL_LOOP n)
  if w.on THERM_STORM_TRIPPED ∨ laneState w n = 0 then 0
  else if role = 2 then
    let waking := match linkOf w n with | some (l, _) => (w.link l).waking | none => false
    (if w.on (LANE_STATUS_LULL_TX n) && !waking then 0 else 1)
  else if role ≠ 3 then 1
  else if loop = 1 ∨ loop = 2 then 0
  else if loop = 3 then 4
  else if w.get (LANE_PRBS_PAT n) = 1 then 2
  else if w.get (LANE_PRBS_PAT n) = 2 then 3
  else 1

/-- SER_TX[n] as given out when it changes. -/
def showTx (w : Work σ) (n : Nat) : Work σ :=
  if serTx w n = w.get (LANE_TX n) then w else (w.set (LANE_TX n) (serTx w n)).emit (.ball "SER_TX" n (serTx w n))

/-- The equaliser values that adaptation has reached, as LANE[n].ADAPT and LANE[n].DFE show them. -/
def setEqualiser (w : Work σ) (n : Nat) (ctle taps : Nat) : Work σ :=
  (w.set (LANE_ADAPT_CTLE n) ctle).each (List.range 8) (fun w i =>
    w.set (LANE_DFE_TAP n (i / 4) (i % 4)) (bits taps (8 * i) 8))

/-- R345: in UP the values drift with the background loop unless they are frozen: what they have reached is open. -/
def laneDrift (w : Work σ) (n : Nat) : Work σ :=
  if laneState w n = LANE_UP ∧ !w.on (LANE_STATUS_FROZEN n) then
    let (c, w) := w.free 5
    let (taps, w) := w.free 64
    setEqualiser w n c taps
  else w

/-- R348: the bits that the scan of lane n compares, in units of 1,024. -/
def scanUnits (w : Work σ) (n : Nat) : Nat := 2 ^ (w.get (LANE_SCAN_LEN n) - 10)

/-- R348: while a scan runs its counts grow: how far they have come is open. [note 77: DEDUCED] -/
def scanRuns (w : Work σ) (n : Nat) : Work σ :=
  if w.on (LANE_SCAN_CFG_BUSY n) then
    let (a, w) := w.free 32
    let (b, w) := w.free 32
    let units := max (w.get (LANE_SCAN_BITS n)) (min a (scanUnits w n - 1))
    (w.set (LANE_SCAN_BITS n) units).set (LANE_SCAN_ERR n) (max (w.get (LANE_SCAN_ERR n)) (min b (units * 1024)))
  else w

/-- R348: an eye scan ends. -/
def scanEnd (w : Work σ) (n : Nat) : Work σ :=
  let w := (w.set (LANE_SCAN_CFG_BUSY n) 0).set (LANE_SCAN_CFG_DONE n) 1
  laneEvt w n (LANE_EVT_SCAN_DONE n) (LANE_EVT_EN_SCAN_DONE n)

/-- R348, R350: what a lane loses when it leaves UP or its bring-up restarts: a scan ends as aborted with what it has counted, a check
fails, a re-adaptation ends, block lock and the freeze are gone. The transmit direction keeps its lull (R353). -/
def laneLeave (w : Work σ) (n : Nat) : Work σ :=
  let w := laneDrift w n
  let w := if w.on (LANE_SCAN_CFG_BUSY n) then scanEnd ((scanRuns w n).set (LANE_SCAN_CFG_ABORTED n) 1) n else w
  let w := ((w.set (LANE_CHECK_OK n) 0).set (LANE_STATUS_READAPTING n) 0).set (LANE_STATUS_BLOCK_LOCK n) 0
  let w := (w.set (LANE_STATUS_FROZEN n) 0).set (LANE_STATUS_LULL_RX n) 0
  (w.set (LANE_RELOCK n) 0).set (LANE_PRBS_LOCKED n) 0

/-- R340: bring-up starts at SIGNAL, or the lane is OFF: that of a lane without a role, and of any before REFCLK (R449).
[note 75: DEDUCED] -/
def laneStart (w : Work σ) (n : Nat) : Work σ :=
  let was := laneState w n
  let w := laneLeave w n
  let w := ((w.set (LANE_SIG n) 0).set (LANE_FLIPS n) 0).set (LANE_STATUS_POL_FAIL n) 0
  let w := w.set (LANE_STATUS_HIBER n) 0
  let w := showTx (w.set (LANE_STATUS_STATE n) (if w.get (LANE_CFG_ROLE n) = 0 ∨ !w.on DEV_STATUS_REFCLK_OK then 0 else LANE_SIGNAL)) n
  if was = LANE_UP ∨ was = LANE_LULL then linkLaneDown w n else w

/-- R340: a restart leaves a test loop in place. -/
def laneRestart (w : Work σ) (n : Nat) : Work σ :=
  if laneState w n = LANE_LOOP then w else laneStart w n

/-- R335: the lane PLL of a quad is powered down while every lane of the quad is OFF. -/
def quadPower (w : Work σ) (m : Nat) : Work σ :=
  if (List.range 8).all (fun i => decide (w.get (LANE_CFG_ROLE (8 * m + i)) = 0)) then w.set (QUAD_LOCKED m) 0 else w

/-- R340: SIGNAL is left once signal is detected and the quad PLL is locked. -/
def laneSignal (w : Work σ) (n : Nat) : Work σ :=
  if laneState w n = LANE_SIGNAL ∧ w.on (LANE_SIG n) ∧ w.on (QUAD_LOCKED (n / 8)) then
    w.set (LANE_STATUS_STATE n) LANE_CDR
  else w

/-- QUAD_PLL_LOCK (R335). -/
def execQuadPllLock (m : Fin 4) (s : State) : Host.Outcome State Fault Refusal :=
  run (fun w =>
    if (List.range 8).all (fun i => decide (w.get (LANE_CFG_ROLE (8 * m.val + i)) = 0)) then w
    else (w.set (QUAD_LOCKED m) 1).each (List.range 8) (fun w i => laneSignal w (8 * m.val + i))) s

/-- SIGNAL_DETECT (R340). -/
def execSignalDetect (n : Fin 32) (s : State) : Host.Outcome State Fault Refusal :=
  run (fun w => if laneState w n = LANE_SIGNAL then laneSignal (w.set (LANE_SIG n) 1) n else w) s

/-- CDR_LOCK (R340). -/
def execCdrLock (n : Fin 32) (s : State) : Host.Outcome State Fault Refusal :=
  run (fun w => if laneState w n = LANE_CDR then w.set (LANE_STATUS_STATE n) LANE_ALIGN else w) s

/-- R354: a lane in lull has regained block lock and returns to UP; a re-adaptation that its rest interrupted goes on, unfrozen
(R347). [note 79: DEDUCED] -/
def lullReturn (w : Work σ) (n : Nat) : Work σ :=
  let w := (if w.on (LANE_STATUS_READAPTING n) then w.set (LANE_STATUS_FROZEN n) 0 else w).set (LANE_STATUS_HIBER n) 0
  (((w.set (LANE_STATUS_STATE n) LANE_UP).set (LANE_STATUS_LULL_RX n) 0).set (LANE_RELOCK n) 0).set
    (LANE_STATUS_BLOCK_LOCK n) 1

/-- R338, R351: the receiver of lane n holds block lock without hi-BER; on a PRBS pattern it checks no blocks. -/
def lockHeld (w : Work σ) (n : Nat) : Work σ := (w.setB (LANE_STATUS_BLOCK_LOCK n) (!lanePrbs w n)).set (LANE_STATUS_HIBER n) 0

/-- R338, R340, R341: block lock is held, which ends hi-BER. In ALIGN the lane goes on unless polarity detection has failed; in ADAPT, and
in a test loop, its receiver holds block lock again. A lane on a PRBS pattern checks no blocks (R351). [note 75: DEDUCED] -/
def blockLock (w : Work σ) (n : Nat) : Work σ :=
  if laneState w n = LANE_ALIGN then
    let w := lockHeld w n
    if w.on (LANE_STATUS_POL_FAIL n) then w else w.set (LANE_STATUS_STATE n) LANE_ADAPT
  else if laneState w n = LANE_LULL ∧ w.on (LANE_RELOCK n) then lullReturn w n
  else if laneState w n = LANE_ADAPT ∨ laneState w n = LANE_LOOP then lockHeld w n
  else w

/-- BLOCK_LOCK (R340). -/
def execBlockLock (n : Fin 32) (s : State) : Host.Outcome State Fault Refusal := run (fun w => blockLock w n) s

/-- R341: a window of 4,096 blocks ends in ALIGN, with the idle blocks that each path has decoded. [note 76: DEDUCED] -/
def polarityWindow (w : Work σ) (n direct comp : Nat) : Work σ :=
  if laneState w n = LANE_ALIGN ∧ w.on (LANE_CFG_POL_AUTO n) ∧ !lanePrbs w n ∧ !w.on (LANE_STATUS_POL_FAIL n) ∧
      16 ≤ comp ∧ direct = 0 then
    let w := (w.setB (LANE_CFG_RX_INV n) (!w.on (LANE_CFG_RX_INV n))).set (LANE_STATUS_BLOCK_LOCK n) 0
    let w := laneEvt w n (LANE_EVT_POL_FLIP n) (LANE_EVT_EN_POL_FLIP n)
    let w := w.set (LANE_FLIPS n) (w.get (LANE_FLIPS n) + 1)
    if 2 ≤ w.get (LANE_FLIPS n) then w.set (LANE_STATUS_POL_FAIL n) 1 else w
  else w

/-- POLARITY_WINDOW (R341). -/
def execPolarityWindow (n : Fin 32) (direct comp : Fin 4097) (s : State) : Host.Outcome State Fault Refusal :=
  run (fun w => polarityWindow w n direct comp) s

/-! ## Adaptation (R343, R345 to R347) -/

/-- R340, R343, R345: adaptation has converged on the arriving blocks, which holds block lock, and the lane enters UP.
[note 75: DEDUCED] -/
def adaptConverged (w : Work σ) (n ctle taps : Nat) : Work σ :=
  if laneState w n = LANE_ADAPT then
    let w := (setEqualiser (lockHeld w n) n ctle taps).set (LANE_STATUS_STATE n) LANE_UP
    let w := (w.set (LANE_STATUS_FROZEN n) 0).set (LANE_KEPT n) 0
    linkLaneUp (laneEvt w n (LANE_EVT_UP n) (LANE_EVT_EN_UP n)) n
  else w

/-- ADAPT_CONVERGED (R345). -/
def execAdaptConverged (n : Fin 32) (ctle : Fin 32) (taps : BitVec 64) (s : State) : Host.Outcome State Fault Refusal :=
  run (fun w => adaptConverged w n ctle taps.toNat) s

/-- R343: lane n goes down; its equaliser keeps its values. [note 75: DEDUCED] -/
def goDown (w : Work σ) (n : Nat) (hiBer : Bool) : Work σ :=
  let w := laneLeave w n
  let w := ((w.set (LANE_SIG n) 0).set (LANE_FLIPS n) 0).set (LANE_KEPT n) 1
  let w := (w.setB (LANE_STATUS_HIBER n) hiBer).set (LANE_STATUS_STATE n) LANE_SIGNAL
  let w := laneEvt (w.inc (LANE_PCS_ERR_DOWNS n)) n (LANE_EVT_DOWN n) (LANE_EVT_EN_DOWN n)
  linkLaneDown w n

/-- R343, R350: signal or block lock is lost, or hi-BER rises. A lane in UP goes down; one in ADAPT fails its check, and shows the loss
until its receiver recovers, as does one in a test loop. [note 75: DEDUCED] -/
def laneTrouble (w : Work σ) (n : Nat) (hiBer : Bool) : Work σ :=
  if laneState w n = LANE_UP then goDown w n hiBer
  else if laneState w n = LANE_ADAPT ∨ laneState w n = LANE_LOOP then
    (if hiBer then w.set (LANE_STATUS_HIBER n) 1 else w.set (LANE_STATUS_BLOCK_LOCK n) 0).set (LANE_CHECK_OK n) 0
  else w

/-- LANE_DOWN (R343). -/
def execLaneDown (n : Fin 32) (hiBer : Bool) (s : State) : Host.Outcome State Fault Refusal :=
  run (fun w => laneTrouble w n hiBer) s

/-- ADAPT_RESTART_TIMEOUT (R343): 20 ms have passed since lane n went down, and it is not up: its values return to the defaults.
[note 3: DESIGN CHOICE] -/
def execAdaptRestartTimeout (n : Fin 32) (s : State) : Host.Outcome State Fault Refusal :=
  run (fun w => if w.on (LANE_KEPT n) then (setEqualiser w n 0 0).set (LANE_KEPT n) 0 else w) s

/-- ADAPT_FREEZE (R346). -/
def execAdaptFreeze (n : Fin 32) (s : State) : Host.Outcome State Fault Refusal :=
  run (fun w => if laneState w n = LANE_UP ∧ !w.on (LANE_STATUS_READAPTING n) then
    (laneDrift w n).set (LANE_STATUS_FROZEN n) 1 else w) s

/-- ADAPT_RESUME (R346). -/
def execAdaptResume (n : Fin 32) (s : State) : Host.Outcome State Fault Refusal :=
  run (fun w => if laneState w n = LANE_UP then w.set (LANE_STATUS_FROZEN n) 0 else w) s

/-- R347: a re-adaptation starts, or merges into the one that runs. [note 77: DEDUCED] -/
def readapt (w : Work σ) (n : Nat) : Work σ :=
  if laneState w n = LANE_UP then (w.set (LANE_STATUS_READAPTING n) 1).set (LANE_STATUS_FROZEN n) 0 else w

/-- READAPT_END (R347): 2 ms of live blocks, of which a lane in lull has none. -/
def execReadaptEnd (n : Fin 32) (ctle : Fin 32) (taps : BitVec 64) (idle : Bool) (s : State) :
    Host.Outcome State Fault Refusal :=
  run (fun w =>
    if w.on (LANE_STATUS_READAPTING n) ∧ laneState w n = LANE_UP then
      let w := (setEqualiser w n ctle taps.toNat).inc (LANE_ADAPT_READAPTS n)
      (w.set (LANE_STATUS_READAPTING n) 0).setB (LANE_STATUS_FROZEN n) idle
    else w) s

/-- R347: the eye monitor measures a margin, in steps of 2 mV. -/
def eyeMonitor (w : Work σ) (n margin : Nat) : Work σ :=
  if w.on (LANE_EYE_CFG_MON_EN n) ∧ laneState w n = LANE_UP then
    let w := (w.set (LANE_EYE_LAST n) margin).set (LANE_EYE_MIN n) (min margin (w.get (LANE_EYE_MIN n)))
    if margin < w.get (LANE_EYE_CFG_THR n) then
      let w := (laneEvt w n (LANE_EVT_EYE_LOW n) (LANE_EVT_EN_EYE_LOW n)).fire 508
      readapt (w.inc (LANE_EYE_BELOW n)) n
    else w
  else w

/-- EYE_MONITOR (R347). -/
def execEyeMonitor (n : Fin 32) (margin : BitVec 8) (s : State) : Host.Outcome State Fault Refusal :=
  run (fun w => eyeMonitor w n margin.toNat) s

/-! ## Eye scan, BER check and test patterns (R348 to R351) -/

/-- R348: the bits that a new scan compares: DWELL_LOG2 within 20 to 40. -/
def scanLength (w : Work σ) (n : Nat) : Nat :=
  let d := w.get (LANE_SCAN_CFG_DWELL_LOG2 n)
  if d < 20 then 20 else if 40 < d then 40 else d

/-- R348: a running eye scan reaches its bit count with a number of disagreements. -/
def scanDone (w : Work σ) (n errs : Nat) : Work σ :=
  if w.on (LANE_SCAN_CFG_BUSY n) then
    scanEnd ((w.set (LANE_SCAN_BITS n) (min (scanUnits w n) 0xFFFFFFFF)).set (LANE_SCAN_ERR n)
      (max (w.get (LANE_SCAN_ERR n)) errs)) n
  else w

/-- EYE_SCAN_DONE (R348). -/
def execEyeScanDone (n : Fin 32) (errs : BitVec 32) (s : State) : Host.Outcome State Fault Refusal :=
  run (fun w => scanDone w n errs.toNat) s

/-- R348: a write to LANE[n].SCAN_CFG: the fields are written, and GO starts a scan unless one runs. -/
def scanCfgWrite (w : Work σ) (path : Path) (n v : Nat) : Work σ :=
  let w := ((w.set (LANE_SCAN_CFG_DWELL_LOG2 n) (bits v 16 6)).set (LANE_SCAN_CFG_VOFS n) (bits v 8 8)).set
    (LANE_SCAN_CFG_HOFS n) (bits v 0 6)
  let w := if bit v 30 then w.set (LANE_SCAN_CFG_DONE n) 0 else w
  let w := if bit v 29 then w.set (LANE_SCAN_CFG_ABORTED n) 0 else w
  if bit v 28 then
    if w.on (LANE_SCAN_CFG_BUSY n) then w.ignored path (LANE_SCAN_CFG_GO n)
    else (((w.set (LANE_SCAN_CFG_BUSY n) 1).set (LANE_SCAN_BITS n) 0).set (LANE_SCAN_ERR n) 0).set (LANE_SCAN_LEN n) (scanLength w n)
  else w

/-- R350, R369: a BER check ends; the link of a lane that passed may take it back. -/
def checkDone (w : Work σ) (n : Nat) : Work σ :=
  if w.on (LANE_CHECK_BUSY n) then
    let pass := w.on (LANE_CHECK_OK n)
    let w := ((w.set (LANE_CHECK_BUSY n) 0).set (LANE_CHECK_DONE n) 1).setB (LANE_CHECK_PASS n) pass
    let w := laneEvt w n (LANE_EVT_CHECK_DONE n) (LANE_EVT_EN_CHECK_DONE n)
    if pass then linkLanePassed w n else w
  else w

/-- CHECK_DONE (R350). -/
def execCheckDone (n : Fin 32) (s : State) : Host.Outcome State Fault Refusal := run (fun w => checkDone w n) s

/-- R350: a write to LANE[n].CHECK. -/
def checkWrite (w : Work σ) (path : Path) (n v : Nat) : Work σ :=
  let w := if bit v 2 then w.set (LANE_CHECK_DONE n) 0 else w
  if bit v 0 then (if w.on (LANE_CHECK_BUSY n) then w.ignored path (LANE_CHECK_GO n) else startCheck w n) else w

/-- INVALID_SYNC_HEADER (R350). -/
def execInvalidSyncHeader (n : Fin 32) (s : State) : Host.Outcome State Fault Refusal :=
  run (fun w => (w.inc (LANE_PCS_ERR_SYNC n)).set (LANE_CHECK_OK n) 0) s

/-- PRBS_CHECKER_LOCK (R351): the receiver has a stream to lock to once its CDR has locked. [note 78: DEDUCED] -/
def execPrbsCheckerLock (n : Fin 32) (s : State) : Host.Outcome State Fault Refusal :=
  run (fun w => if lanePrbs w n ∧ LANE_ALIGN ≤ laneState w n then w.set (LANE_PRBS_LOCKED n) 1 else w) s

/-- R351, R352: the locked checker finds a bit error; or, in a FAR loop with PAT = IDLE, the lane inserts or deletes a
block. [note 78: DEDUCED] -/
def prbsError (w : Work σ) (n : Nat) : Work σ :=
  if w.on (LANE_PRBS_LOCKED n) then
    laneEvt (w.inc (LANE_PRBS_ERR n)) n (LANE_EVT_PRBS_ERR n) (LANE_EVT_EN_PRBS_ERR n)
  else if laneTest w n ∧ w.get (LANE_CTRL_LOOP n) = 3 ∧ w.get (LANE_PRBS_PAT n) = 0 then w.inc (LANE_PRBS_ERR n)
  else w

/-- PRBS_BIT_ERROR (R351). -/
def execPrbsBitError (n : Fin 32) (s : State) : Host.Outcome State Fault Refusal := run (fun w => prbsError w n) s

/-- R351: a write to LANE[n].PRBS selects the pattern; a checker on another pattern locks anew. -/
def prbsWrite (w : Work σ) (n v : Nat) : Work σ :=
  if w.get (LANE_PRBS_PAT n) = bits v 0 2 then w
  else showTx ((w.set (LANE_PRBS_PAT n) (bits v 0 2)).set (LANE_PRBS_LOCKED n) 0) n

/-! ## Control writes (R335, R340, R352) -/

/-- R333, R340, R352: a write to LANE[n].CFG. [note 77: DEDUCED] -/
def laneCfgWrite (w : Work σ) (n v : Nat) : Work σ :=
  let same := decide (w.get (LANE_CFG_ROLE n) = bits v 0 2) && decide (w.get (LANE_CFG_TX_INV n) = bits v 2 1) &&
    decide (w.get (LANE_CFG_RX_INV n) = bits v 3 1) && decide (w.get (LANE_CFG_POL_AUTO n) = bits v 4 1)
  if same then w
  else
    let w := ((w.set (LANE_CFG_ROLE n) (bits v 0 2)).set (LANE_CFG_TX_INV n) (bits v 2 1)).set (LANE_CFG_RX_INV n) (bits v 3 1)
    let w := w.set (LANE_CFG_POL_AUTO n) (bits v 4 1)
    let w := if bits v 0 2 = 2 then w else w.set (LANE_STATUS_LULL_TX n) 0
    if bits v 0 2 = 3 then quadPower (laneRestart w n) (n / 8)
    else quadPower (laneStart (w.set (LANE_CTRL_LOOP n) 0) n) (n / 8)

/-- R340, R347, R352: a write to LANE[n].CTRL. [note 77: DEDUCED] -/
def laneCtrlWrite (w : Work σ) (path : Path) (n v : Nat) : Work σ :=
  if bits v 2 2 ≠ 0 ∧ !laneTest w n then w.reject path (LANE_CTRL_LOOP n).addr
  else
    let was := w.get (LANE_CTRL_LOOP n)
    let w := w.set (LANE_CTRL_LOOP n) (bits v 2 2)
    let w := if bits v 2 2 ≠ 0 then showTx (if was = 0 then (laneLeave w n).set (LANE_STATUS_STATE n) LANE_LOOP else w) n
      else if was ≠ 0 then laneStart w n else w
    let w := if bit v 1 then readapt w n else w
    if bit v 0 then laneRestart w n else w

/-! ## Lull (R353, R354) -/

/-- R353: the BRISOL lanes of link l, which rest together. -/
def lullLanes (w : Work σ) (l : Nat) : List Nat :=
  (linkLanes w l).filter (fun n => decide (n < 32) && decide (w.get (LANE_CFG_ROLE n) = 2))

/-- R353: link l may rest: it carries no exported slot and no trigger token, and its lanes permit lull.
[note 79: DEDUCED] -/
def lullAllowed (w : Work σ) (l : Nat) : Bool :=
  (lullLanes w l).all (fun n => w.on (LANE_LULL_CFG_EN n)) &&
    (List.range 64).all (fun e => !(w.on (DECB_EXPORT_EN e) && decide (w.get (DECB_EXPORT_LINK e) = l))) &&
    !(w.on (CAP_XGROUP_EN 0) && w.getBit (CAP_XLINKS 0) l)

/-- R353: the transmit direction of link l enters lull. [note 79: DEDUCED] -/
def lullEntry (w : Work σ) (l : Nat) : Work σ :=
  if linkSends w l && lullAllowed w l && !linkWaits w l then
    (interval w l (fun _ => some (2, ctrlBlock 0x33 0))).each (lullLanes w l) (fun w n =>
      showTx ((w.set (LANE_STATUS_LULL_TX n) 1).inc (LANE_LULL_COUNT_TX n)) n)
  else w

/-- R353, R357: a lane that is on link l no longer leaves its lull. -/
def lullDrop (w : Work σ) (l n : Nat) : Work σ :=
  if n < 32 ∧ !(w.on (LINK_CFG_EN l) && (linkLanes w l).contains n) then w.set (LANE_STATUS_LULL_TX n) 0 else w

/-- R353, R357: a write to LINK[l].CFG. A lane that stays on the link wakes from its lull for the TRAIN blocks, one that leaves it carries
blocks again. [note 79: DEDUCED] -/
def linkCfgWrite (w : Work σ) (path : Path) (l v : Nat) : Work σ :=
  if bit v 0 && linkOverlaps w l (bits v 3 5) (bits v 1 2) then w.ignored path (LINK_CFG_EN l)
  else
    let same := decide (w.get (LINK_CFG_EN l) = bits v 0 1) && decide (w.get (LINK_CFG_WIDTH l) = bits v 1 2) &&
      decide (w.get (LINK_CFG_BASE l) = bits v 3 5)
    if same then w
    else
      let w := if linkLive w l then dropMsgs ((w.set (LINK_EVT_DOWN l) 1).fire 506) l else w
      let lanes := linkLanes w l
      let w := ((w.set (LINK_CFG_EN l) (bits v 0 1)).set (LINK_CFG_WIDTH l) (bits v 1 2)).set (LINK_CFG_BASE l) (bits v 3 5)
      let w := w.each lanes (fun w n => lullDrop w l n)
      let w := w.updLink l (fun k => { k with waking := w.on (LINK_CFG_EN l) && lullTx w l })
      linkTrain (w.each ((lanes ++ linkLanes w l).filter (fun n => decide (n < 32))) (fun w n => showTx w n)) l

/-- LULL_ENTRY (R353). -/
def execLullEntry (l : Fin 32) (s : State) : Host.Outcome State Fault Refusal := run (fun w => lullEntry w l) s

/-- R353: the transmitter leaves electrical idle for a block: one that waits, or the TRAIN blocks of a link that has gone down. -/
def lullWake (w : Work σ) (l : Nat) : Work σ :=
  if w.on (LINK_CFG_EN l) && lullTx w l && (linkWaits w l || !linkLive w l) then
    (w.updLink l (fun k => { k with waking := true })).each (linkLanes w l) (fun w n => showTx w n)
  else w

/-- LULL_WAKE (R353). -/
def execLullWake (l : Fin 32) (s : State) : Host.Outcome State Fault Refusal := run (fun w => lullWake w l) s

/-- LULL_WAKE_DONE (R353): the idle blocks have been sent, and the blocks that wait leave in order. -/
def execLullWakeDone (l : Fin 32) (s : State) : Host.Outcome State Fault Refusal :=
  run (fun w =>
    if (w.link l).waking then
      let w := w.updLink l (fun k => { k with waking := false })
      let w := w.each (linkLanes w l) (fun w n => w.set (LANE_STATUS_LULL_TX n) 0)
      if linkLive w l then linkFlush w l else sendTrain w l false
    else w) s

/-- LULL_RX (R354). -/
def execLullRx (n : Fin 32) (s : State) : Host.Outcome State Fault Refusal :=
  run (fun w =>
    if laneState w n = LANE_UP ∧ w.get (LANE_CFG_ROLE n) = 2 then
      let w := (laneDrift w n).set (LANE_CHECK_OK n) 0
      let w := ((w.set (LANE_STATUS_LULL_RX n) 1).set (LANE_STATUS_STATE n) LANE_LULL).set (LANE_STATUS_FROZEN n) 1
      w.inc (LANE_LULL_COUNT_RX n)
    else w) s

/-- LULL_SIGNAL_RETURN (R354): locks says whether block lock is regained during the idle blocks. -/
def execLullSignalReturn (n : Fin 32) (locks : Bool) (s : State) : Host.Outcome State Fault Refusal :=
  run (fun w =>
    if laneState w n = LANE_LULL then
      (if locks then lullReturn w n else (w.set (LANE_RELOCK n) 1).set (LANE_STATUS_BLOCK_LOCK n) 0)
    else w) s

/-- LULL_RELOCK_TIMEOUT (R354). [note 3: DESIGN CHOICE] -/
def execLullRelockTimeout (n : Fin 32) (s : State) : Host.Outcome State Fault Refusal :=
  run (fun w => if laneState w n = LANE_LULL ∧ w.on (LANE_RELOCK n) then goDown w n false else w) s

end Sys2Proof.Machine
end

