-- ==== Sys2Proof/Machine/Transport.lean ====
section
/-! DEFINITION. The Genond transport (R292 to R300): its timers, sessions and datagrams in, and the compressors that serve capture
records (R390, R393 to R395). -/

namespace Sys2Proof.Machine

variable {σ : State}

/-! ## What makes datagrams leave (R297) -/

/-- R297: COALESCE has passed for a queue: an outbound queue sends a datagram with its oldest entries, an inbound queue whose CONS has
advanced is reported. -/
def coalesce (w : Work σ) (q : Nat) : Work σ :=
  if qOutHost w (q / 512) (q % 512) then sendEntries w q
  else if q % 512 < 128 ∧ creditDue w q then sendStatus w q false
  else w

/-- COALESCE_TIMEOUT (R297). [note 3: DESIGN CHOICE] -/
def execCoalesceTimeout (q : Fin 16384) (s : State) : Host.Outcome State Fault Refusal := run (fun w => coalesce w q) s

/-- R296, R393: the transmit point of an outbound queue moved back: records behind it are sent again, and handed to a compressor
anew. -/
def sendFrom (w : Work σ) (q s : Nat) : Work σ :=
  compDrop (w.set (QSENT (q / 512) (q % 512)) s) (q / 512) (q % 512) (fun _ => true)

/-- R297: datagrams of a queue sent until its transmit point is again where it was, at `until_`, or until one cannot be sent; n bounds
them. -/
def resend (q until_ : Nat) : Nat → Work σ → Work σ
  | 0, w => w
  | n + 1, w =>
    let s := w.get (QSENT (q / 512) (q % 512))
    if seqBefore s until_ then
      let w := sendEntries w q
      if w.get (QSENT (q / 512) (q % 512)) = s then w else resend q until_ n w
    else w

/-- R297: an outbound queue re-sends what it has sent, from number s on. -/
def sendAgain (w : Work σ) (q s : Nat) : Work σ :=
  if seqBefore s (w.get (QSENT (q / 512) (q % 512))) then
    resend q (w.get (QSENT (q / 512) (q % 512))) (qFill w (q / 512) (q % 512)) (sendFrom w q s)
  else w

/-- R297: RETX has passed for a queue. -/
def retx (w : Work σ) (q : Nat) : Work σ :=
  let t := q / 512
  let i := q % 512
  if qOutHost w t i then
    if w.on TRANSPORT_SESSION_OWNER_VALID ∧ (txPort w t).isSome ∧ w.get (QSENT t i) ≠ w.get (QTAIL t i) then
      sendAgain (w.inc TRANSPORT_COUNT2_RETX) q (w.get (QTAIL t i))
    else w
  else if i < 128 then w.set (QGAPPED t i) 0
  else w

/-- RETX_TIMEOUT (R297). [note 3: DESIGN CHOICE] -/
def execRetxTimeout (q : Fin 16384) (s : State) : Host.Outcome State Fault Refusal := run (fun w => retx w q) s

/-- R297: a REPLAY of outbound host queue q from FIRST_SEQ. -/
def replay (w : Work σ) (q first : Nat) : Work σ :=
  let t := q / 512
  let i := q % 512
  let oldest := w.get (QTAIL t i)
  if !qOutHost w t i ∨ seqBefore (outEnd w q) first then w
  else sendAgain w q (if seqBefore oldest first then first else oldest)

/-- REPLAY (R297). -/
def execReplay (q : Fin 16384) (first : BitVec 32) (s : State) : Host.Outcome State Fault Refusal :=
  run (fun w => replay w q first.toNat) s

/-! ## Sessions (R299, R300) -/

/-- R299: EPOCH + 1, skipping 0. -/
def epochNext (w : Work σ) : Work σ :=
  let e := (w.get TRANSPORT_SESSION_EPOCH + 1) % 2 ^ 16
  w.set TRANSPORT_SESSION_EPOCH (if e = 0 then 1 else e)

/-- The outbound host queues, in the order of their global numbers. -/
def outboundQueues : List Nat := (List.range 32).flatMap (fun t => (List.range 128).map (fun i => 512 * t + 128 + i))

/-- R299: a claim from an address and port that reached the device on port p at the address reached. -/
def claim (w : Work σ) (p : Nat) (v6 : Bool) (addr udp reached : Nat) : Work σ :=
  let w := ((epochNext w).set TRANSPORT_SESSION_OWNER_VALID 1).setB TRANSPORT_SESSION_OWNER_V6 v6
  let w := (w.set TRANSPORT_SESSION_OWNER_PORT p).set TRANSPORT_OWNER_UDP udp
  let w := w.each (List.range 4) (fun w n => w.set (TRANSPORT_OWNER_IP n) (bits (if v6 then addr else addr % 2 ^ 32) (32 * n) 32))
  let w := w.set OWNER_REACHED reached
  let w := sendGenond w (F_CLAIM + F_STATUS) 0 0 0 false []
  let w := w.each (inboundQueues.filter (fun q => qEnabled w (q / 512) (q % 512) &&
    decide (w.get (QT_CFG_CONSUMER (q / 512) (q % 512)) = CONSUMER_REG))) (fun w q => sendStatus w q false)
  let w := w.each (outboundQueues.filter (fun q => qEnabled w (q / 512) (q % 512)))
    (fun w q => sendFrom w q (w.get (QTAIL (q / 512) (q % 512))))
  w.fire 486

/-- CLAIM (R299). -/
def execClaim (p : Fin 32) (v6 : Bool) (addr reached : BitVec 128) (udp : BitVec 16) (s : State) :
    Host.Outcome State Fault Refusal :=
  run (fun w => claim w p v6 addr.toNat udp.toNat reached.toNat) s

/-- R300: a write of 1 to TRANSPORT.SESSION.BUMP. -/
def sessionBump (w : Work σ) : Work σ :=
  let w := ((epochNext w).set TRANSPORT_SESSION_OWNER_VALID 0).set TRANSPORT_SESSION_OWNER_V6 0
  let w := (w.set TRANSPORT_SESSION_OWNER_PORT 0).set TRANSPORT_OWNER_UDP 0
  w.each (List.range 4) (fun w n => w.set (TRANSPORT_OWNER_IP n) 0)

/-! ## Datagrams in (R298) -/

/-- An arriving UDP datagram: its source and destination addresses, ports and body. -/
structure Udp where
  v6 : Bool
  src : Nat
  dst : Nat
  sport : Nat
  dport : Nat
  body : List Byte
  deriving DecidableEq, Repr

/-- The UDP part of an IP packet, when its length holds. -/
def udpOf (v6 : Bool) (src dst : Nat) (u : List Byte) : Option Udp :=
  let len := ofBe (slice u 4 2)
  if u.length < 8 ∨ len < 8 ∨ u.length < len then none
  else some ⟨v6, src, dst, ofBe (slice u 0 2), ofBe (slice u 2 2), slice u 8 (len - 8)⟩

/-- R292: an IP packet that the device supports. -/
def ipParse (mtu : Nat) (pkt : List Byte) : Option Udp :=
  let v := ofBe (slice pkt 0 1)
  if v = 0x45 then
    let len := ofBe (slice pkt 2 2)
    if len < 20 ∨ pkt.length < len ∨ mtu < len ∨ onesSum (pkt.take 20) ≠ 0xFFFF ∨ ofBe (slice pkt 6 2) % 0x4000 ≠ 0 ∨
        ofBe (slice pkt 9 1) ≠ 17 then none
    else udpOf false (ofBe (slice pkt 12 4)) (ofBe (slice pkt 16 4)) (slice pkt 20 (len - 20))
  else if v / 16 = 6 then
    let len := ofBe (slice pkt 4 2)
    if pkt.length < 40 + len ∨ mtu < 40 + len ∨ ofBe (slice pkt 6 1) ≠ 17 then none
    else udpOf true (ofBe (slice pkt 8 16)) (ofBe (slice pkt 24 16)) (slice pkt 40 len)
  else none

/-- R293: whether an address is one of the device's: its own, or any unicast address while it has none.
[note 68: DEDUCED] -/
def ownAddress (w : Work σ) (v6 : Bool) (dst : Nat) : Bool :=
  if v6 then decide (dst = ip6Of w) || (decide (ip6Of w = 0) && decide (dst / 2 ^ 120 ≠ 0xFF))
  else decide (dst = w.get TRANSPORT_IP4) ||
    (decide (w.get TRANSPORT_IP4 = 0) && decide (dst / 2 ^ 28 ≠ 0xE) && decide (dst ≠ 0xFFFFFFFF))

/-- R298, R306: the allow-list passes an address. -/
def allowed (w : Work σ) (v6 : Bool) (src : Nat) : Bool :=
  !w.on TRANSPORT_CFG_ALLOW_EN || (List.range 8).any (fun n =>
    let a := (List.range 4).foldr (fun m v => w.get (TRANSPORT_ALLOW_ADDR n m) + 2 ^ 32 * v) 0
    let width := if v6 then 128 else 32
    let len := min (w.get (TRANSPORT_ALLOW_CTRL_PREFIX n)) width
    w.on (TRANSPORT_ALLOW_CTRL_EN n) && decide (w.on (TRANSPORT_ALLOW_CTRL_V6 n) = v6) &&
      decide ((a % 2 ^ width) / 2 ^ (width - len) = src / 2 ^ (width - len)))

/-- R298 step 3: the header of a datagram holds. -/
def genondOk (b : List Byte) : Bool :=
  decide (24 ≤ b.length) && decide (ofBe (slice b 22 2) = crc16 (b.take 22)) && decide (ofBe (slice b 0 1) = 0x10)
    && decide (ofBe (slice b 1 1) < 0x20) && decide (ofBe (slice b 4 2) < 0x4000) && decide (ofBe (slice b 7 1) = 0)
    && decide (bits (ofBe (slice b 12 2)) 14 1 = 0) && decide (ofBe (slice b 14 2) = 0) && decide (ofBe (slice b 20 2) = 0)

/-- R289, R298 step 8: the entries of a datagram in order. -/
def admitAll (t i : Nat) : Nat → List Byte → Work σ → Work σ
  | 0, _, w => w
  | n + 1, bs, w =>
    let r := qAdmit w t i (bs.take 32)
    let w := if r.1 = .gap ∧ !r.2.on (QGAPPED t i) then (sendStatus r.2 (512 * t + i) true).set (QGAPPED t i) 1 else r.2
    admitAll t i n (bs.drop 32) w

/-- R298 step 7: the credit return of a datagram. [note 73: DEDUCED] -/
def creditIn (w : Work σ) (b : List Byte) : Work σ :=
  let c := ofBe (slice b 12 2)
  if bit c 15 then
    let q := c % 2 ^ 14
    if qOutHost w (q / 512) (q % 512) then noteRetry (qCreditReturn w (q / 512) (q % 512) (ofBe (slice b 16 4)))
    else w.inc TRANSPORT_COUNT2_CREDIT_ERR
  else w

/-- R298 steps 2 to 8, for a datagram that IP and UDP have accepted on port p. [note 73: DEDUCED] -/
def genondIn (w : Work σ) (p : Nat) (u : Udp) : Work σ :=
  let b := u.body
  let flags := ofBe (slice b 1 1)
  let count := ofBe (slice b 6 1)
  let q := ofBe (slice b 4 2)
  let t := q / 512
  let i := q % 512
  let e := w.get TRANSPORT_SESSION_EPOCH
  if !allowed w u.v6 u.src then w.inc TRANSPORT_COUNT0_ALLOW_DROP
  else if !genondOk b then w.inc TRANSPORT_COUNT1_CRC_DROP
  else if bit flags 0 then
    (if count = 0 then claim w p u.v6 u.src u.sport u.dst else w.inc TRANSPORT_COUNT1_FORMAT_DROP)
  else if !(decide (ofBe (slice b 2 2) = e) && decide (e ≠ 0) && w.on TRANSPORT_SESSION_OWNER_VALID &&
      decide (w.on TRANSPORT_SESSION_OWNER_V6 = u.v6) && decide (ownerIp w = u.src) &&
      decide (w.get TRANSPORT_OWNER_UDP = u.sport)) then
    w.inc TRANSPORT_COUNT0_EPOCH_DROP
  else
    let isReplay := bit flags 3
    let kind := if isReplay then qOutHost w t i && decide (count = 0) else decide (i < 128) && qEnabled w t i
    if !kind || decide (b.length ≠ 24 + 32 * count) then w.inc TRANSPORT_COUNT1_FORMAT_DROP
    else
      let w := creditIn w b
      if isReplay then replay w q (ofBe (slice b 8 4)) else loaderPull (admitAll t i count (b.drop 24) w)

/-- R298: an IP packet that Ethernet port p has received. -/
def datagramReceive (w : Work σ) (p : Nat) (pkt : List Byte) : Work σ :=
  if !portUp w p then w
  else
    match ipParse (if w.on TRANSPORT_CFG_JUMBO then 9000 else 1500) pkt with
    | none => w
    | some u =>
      if ownAddress w u.v6 u.dst && decide (u.dport = w.get TRANSPORT_CFG_UDP_PORT) then genondIn w p u else w

/-- DATAGRAM_RECEIVE (R298). [note 4: DESIGN CHOICE] -/
def execDatagramReceive (p : Fin 32) (pkt : List (BitVec 8)) (s : State) : Host.Outcome State Fault Refusal :=
  run (fun w => datagramReceive w p pkt) s

/-! ## Compressors (R390, R393 to R395) -/

/-- R393: the descriptor that an outbound queue is to send next takes its record to the lowest free compressor. -/
def compAssign (w : Work σ) (q : Nat) : Work σ :=
  let t := q / 512
  let i := q % 512
  let s := w.get (QSENT t i)
  let e := outEntry w q s
  let held := (List.range 8).any (fun k => match vget w.dev.compJobs none k with
    | some j => decide (j.tile = t) && decide (j.index = i) && decide (j.seq = s)
    | none => false)
  if qOutHost w t i ∧ w.on TRANSPORT_SESSION_OWNER_VALID ∧ outReadable w q s ∧ entryOk e ∧ waitsComp w q s ∧ !held then
    match (List.range 8).find? (fun k => decide (vget w.dev.compJobs none k = none)) with
    | none => w
    | some k =>
      ({ w with dev := { w.dev with compJobs := vset w.dev.compJobs k (some ⟨t, i, s, descAddr e, descLen e, 0⟩) } }).setBit
        COMP_STATUS_CBUSY k true
  else w

/-- RECORD_COMPRESS_ASSIGN (R393). -/
def execRecordCompressAssign (q : Fin 16384) (s : State) : Host.Outcome State Fault Refusal := run (fun w => compAssign w q) s

/-- R390: the bytes of the next block of a record, and its coder: mode and PARAM. [note 115: DEDUCED] -/
def blockPlan (w : Work σ) (j : CompJob) : Nat × Nat × Nat :=
  if j.done < 64 then (min 64 j.len, BLK_STORED, 0)
  else
    let kib := w.get COMP_CFG_BLOCK_KIB
    let n := min ((if kib = 0 then 32 else kib) * 1024) (j.len - j.done)
    let order := min 2 (w.get COMP_CFG_ORDER)
    let fmt := (w.rd8 (j.addr + 53)).toNat
    let ch := popcount 8 (w.rd8 (j.addr + 52)).toNat
    if fmt = 0 then (n, BLK_RICE, order)
    else if fmt = 1 then (n, BLK_RICE, order + 4)
    else if fmt = 2 then (n, BLK_RICE, order + 8 * ((2 * ch + 31) % 32))
    else (n, BLK_LZ, 0)

/-- KiB counted for compressor i, with the bytes below a whole KiB kept. [note 114: DEDUCED] -/
def countKib (w : Work σ) (f rem : Fld) (n : Nat) : Work σ :=
  let b := w.get rem + n
  (w.add f (b / 1024)).set rem (b % 1024)

/-- Compressor k is free of its record. -/
def compFree (w : Work σ) (k : Nat) : Work σ :=
  ({ w with dev := { w.dev with compJobs := vset w.dev.compJobs k none } }).setBit COMP_STATUS_CBUSY k false

/-- R394: the block that leaves for an input: the coded one, or a STORED one; the flags say whether the coder's output decoded to
other bytes and whether it was not smaller. -/
def compBlock (mode param : Nat) (last glitch : Bool) (input coded : List Byte) : List Byte × Bool × Bool :=
  let stored := fun (fb : Bool) => blockHeader BLK_STORED 0 input.length input.length last fb ++ input
  if mode = BLK_STORED then (stored false, false, false)
  else if glitch || decide (payloadDecode mode param input.length coded ≠ .good input) then (stored true, true, false)
  else if input.length ≤ coded.length then (stored false, false, true)
  else (blockHeader mode param input.length coded.length last false ++ coded, false, false)

/-- The data of one block sent in BULK datagrams of MODE 1 at the offset of its first byte; n bounds them. -/
def sendComp (q seq off : Nat) : Nat → List Byte → Work σ → Work σ
  | 0, _, w => w
  | n + 1, bs, w =>
    if bs = [] then w else sendComp q seq off n (bs.drop (bulkMax w)) (sendBulk w q seq off 1 (bs.take (bulkMax w)))

/-- R393 to R395: compressor k reads the next block of its record as C3 traffic and gives it out. glitch: its verifying decoder finds a difference; lz: the
items its LZ coder has chosen. -/
def compOut (w : Work σ) (k : Nat) (glitch : Bool) (lz : List Byte) : Work σ :=
  match vget w.dev.compJobs none k with
  | none => w
  | some j =>
    let q := 512 * j.tile + j.index
    if seqBefore j.seq (w.get (QTAIL j.tile j.index)) ∨ !qEnabled w j.tile j.index then compFree w k
    else if !w.on TRANSPORT_SESSION_OWNER_VALID ∨ addrFaulted w j.addr then w
    else
      let (n, mode, param) := blockPlan w j
      let input := w.rdBytes (j.addr + j.done) n
      let w := ddrTraffic w 3 false (j.addr + j.done) n
      let last := decide (j.len ≤ j.done + n)
      let coded := if mode = BLK_RICE then riceEncode (param % 4) (bits param 2 1) (bits param 3 5 + 1) input else lz
      let (blk, fb, st) := compBlock mode param last glitch input coded
      let w := countKib ((w.inc (COMP_C_BLOCKS k))) (COMP_C_IN_KIB k) (COMP_IN_REM k) n
      let w := countKib w (COMP_C_OUT_KIB k) (COMP_OUT_REM k) blk.length
      let w := if st then w.inc (COMP_C_CNT_STORED k) else w
      let w := if fb then
          let w := w.inc (COMP_C_CNT_FALLBACK k)
          if w.on COMP_STATUS_FALLBACK then w else (w.set COMP_STATUS_FALLBACK 1).fire 485
        else w
      let w := sendComp q j.seq j.done (blk.length + 1) blk w
      if last then
        let w := compFree w k
        { w with dev := { w.dev with compDone := w.dev.compDone ++ [(q, j.seq)] } }
      else { w with dev := { w.dev with compJobs := vset w.dev.compJobs k (some { j with done := j.done + n }) } }

/-- COMPRESSED_BLOCK_OUT (R394). -/
def execCompressedBlockOut (i : Fin 8) (glitch : Bool) (lz : List (BitVec 8)) (s : State) :
    Host.Outcome State Fault Refusal :=
  run (fun w => compOut w i glitch lz) s

end Sys2Proof.Machine
end

