-- ==== Sys2Proof/Machine/EthPtp.lean ====
section
/-! DEFINITION. Ethernet ports (R371) and the IEEE 1588 clock (R377 to R380). -/

namespace Sys2Proof.Machine

variable {σ : State}

/-! ## Ethernet MAC (R293, R371) -/

def MAC_BROADCAST : Nat := 0xFFFFFFFFFFFF

/-- R371: IPv6 solicited-node multicast for the device's address. -/
def solicitedMac (w : Work σ) : Nat := 0x3333FF000000 + ip6Of w % 2 ^ 24

/-- R377: the multicast addresses of PTP over UDP and over Layer 2, as MAC addresses. -/
def ptpMacs : List Nat := [0x01005E000181, 0x333300000181, 0x011B19000000]

/-- R377: the PTP engine is on and port p is its port. -/
def ptpPort (w : Work σ) (p : Nat) : Bool := w.on PTP_CFG_EN && decide (w.get PTP_CFG_PORT = p)

/-- R371: whether the MAC takes a destination address for an EtherType. [note 74: DEDUCED] -/
def macTakes (w : Work σ) (p dst type : Nat) : Bool :=
  decide (dst = portMac w p) || (decide (dst = MAC_BROADCAST) && decide (type = 0x0806))
    || (decide (type = 0x86DD) && decide (ip6Of w ≠ 0) && decide (dst = solicitedMac w))
    || (ptpPort w p && ptpMacs.contains dst)

/-- A frame sent on port p: its bytes, in order, without the FCS; what fills it up to the least frame size of R371 is free.
[note 67: DESIGN CHOICE] -/
def sendFrame (w : Work σ) (p : Nat) (kind : String) (bytes : List Byte) : Work σ :=
  let (pad, w) := w.freeBytes (60 - bytes.length)
  portEmit w p (.frame p kind ((bytes ++ pad).map (·.toNat))) (bytes ++ pad)

/-- R292: an ARP request for the device's IPv4 address is answered. [note 74: DEDUCED] -/
def arpReply (w : Work σ) (p : Nat) (b : List Byte) : Work σ :=
  let ip := w.get TRANSPORT_IP4
  if ofBe (slice b 0 8) = 0x0001080006040001 ∧ 28 ≤ b.length ∧ ip ≠ 0 ∧ ofBe (slice b 24 4) = ip then
    sendFrame w p "ARP" (ethHeader w p (ofBe (slice b 8 6)) 0x0806 ++ beBytes 8 0x0001080006040002 ++ beBytes 6 (portMac w p)
      ++ beBytes 4 ip ++ slice b 8 10)
  else w

/-- R292: an IPv6 neighbour solicitation for the device's address is answered. [note 74: DEDUCED] -/
def ndReply (w : Work σ) (p src : Nat) (b : List Byte) : Work σ :=
  let ip := ip6Of w
  if ofBe (slice b 0 1) / 16 = 6 ∧ ofBe (slice b 6 1) = 58 ∧ ofBe (slice b 40 2) = 0x8700 ∧ 64 ≤ b.length ∧ ip ≠ 0 ∧
      ofBe (slice b 48 16) = ip then
    let from_ := ofBe (slice b 8 16)
    let to_ := if from_ = 0 then 0xFF02 * 2 ^ 112 + 1 else from_
    let body := fun (c : Nat) => beBytes 2 0x8800 ++ beBytes 2 c ++ beBytes 4 (if from_ = 0 then 0x20000000 else 0x60000000)
      ++ beBytes 16 ip ++ beBytes 2 0x0201 ++ beBytes 6 (portMac w p)
    let pseudo := beBytes 16 ip ++ beBytes 16 to_ ++ beBytes 4 32 ++ beBytes 4 58
    let (flow, w) := w.free 28
    sendFrame w p "ND" (ethHeader w p (if from_ = 0 then 0x333300000001 else src) 0x86DD ++ beBytes 4 (6 * 2 ^ 28 + flow)
      ++ beBytes 2 32 ++ [58#8, 255#8] ++ beBytes 16 ip ++ beBytes 16 to_ ++ body (onesChecksum (pseudo ++ body 0)))
  else w

/-- R371: a frame at port p, without its FCS. A datagram or PTP message that it carries is the command that follows.
[note 74: DEDUCED] -/
def ethReceive (w : Work σ) (p : Nat) (f : List Byte) (fcsOk : Bool) : Work σ :=
  if !portUp w p then w
  else if !fcsOk then w.inc (ETH_RX_ERR_FCS p)
  else
    let tagged := decide (ofBe (slice f 12 2) = 0x8100)
    let h := if tagged then 16 else 12
    let type := ofBe (slice f h 2)
    let size := f.length + 4
    let max := (if w.on TRANSPORT_CFG_JUMBO then 9018 else 1518) + (if tagged then 4 else 0)
    let tagOk := !tagged || (w.on (ETH_CFG_VLAN_EN p) && decide (ofBe (slice f 14 2) % 4096 = w.get (ETH_CFG_VID p)))
    if decide (64 ≤ size) && decide (size ≤ max) && tagOk && [0x0800, 0x86DD, 0x0806, 0x88F7].contains type
        && macTakes w p (ofBe (slice f 0 6)) type then
      let w := w.inc (ETH_RX_FRAMES p)
      let b := f.drop (h + 2)
      if type = 0x0806 then arpReply w p b
      else if type = 0x86DD then ndReply w p (ofBe (slice f 6 6)) b
      else w
    else w.inc (ETH_RX_ERR_DROP p)

/-- ETH_FRAME_RECEIVE (R371). -/
def execEthFrameReceive (p : Fin 32) (bytes : List (BitVec 8)) (fcsOk : Bool) (s : State) :
    Host.Outcome State Fault Refusal :=
  run (fun w => ethReceive w p bytes fcsOk) s

/-! ## Timestamps (R378) -/

/-- A number of ps in units of 2^-16 ns, to the nearest unit. -/
def psToUnits (ps : Int) : Int :=
  if ps < 0 then -((-ps * 65536 + 500) / 1000) else (ps * 65536 + 500) / 1000

/-- R378: the timestamp of a message in units of 2^-16 ns: NT interpolated to 1/64 ns (sub: the part behind the last tick), with
the board correction of its direction. -/
def ptpStamp (w : Work σ) (sub : Nat) (corr : Fld) : Int :=
  ((w.get NT_NOW / 2 ^ 26 + sub) * 1024 : Nat) + psToUnits (sext 16 (w.get corr))

def ptpP (w : Work σ) : Nat := w.get PTP_CFG_PORT

/-- R371, R377: the PTP engine acts in a role: it is on, its port is up, and ROLE says so. -/
def ptpActs (w : Work σ) (role : Nat) : Bool :=
  w.on PTP_CFG_EN && portUp w (ptpP w) && decide (w.get PTP_CFG_ROLE = role)

def ptpDomain (w : Work σ) (d : Nat) : Bool := decide (d = w.get PTP_CFG_DOMAIN)

def ptpMaster (w : Work σ) : Nat := w.get PTP_MASTER_ID_HI * 2 ^ 32 + w.get PTP_MASTER_ID_LO
def ptpSeen (w : Work σ) : Nat := w.get PTP_MASTER_SEEN_HI * 2 ^ 32 + w.get PTP_MASTER_SEEN_LO
def ptpClock (w : Work σ) : Nat := w.get PTP_CLOCK_ID_HI * 2 ^ 32 + w.get PTP_CLOCK_ID_LO

/-- R380: whether a slave accepts a master. -/
def masterOk (w : Work σ) (src : Nat) : Bool :=
  if ptpMaster w ≠ 0 then decide (src = ptpMaster w) else !w.dev.ptp.seen || decide (src = ptpSeen w)

def updPtp (w : Work σ) (f : PtpSt → PtpSt) : Work σ := { w with dev := { w.dev with ptp := f w.dev.ptp } }

/-- R380: a slave receives a Sync. origin in ns, corr in 2^-16 ns. [note 117: DESIGN CHOICE] -/
def syncReceive (w : Work σ) (dom src seq : Nat) (twoStep : Bool) (origin : Nat) (corr : Int) (sub : Nat) : Work σ :=
  if ptpActs w 0 && ptpDomain w dom && masterOk w src then
    let w := (w.set PTP_MASTER_SEEN_LO src).set PTP_MASTER_SEEN_HI (src / 2 ^ 32)
    let t2 := ptpStamp w sub (ETH_TS_DELAY_RX (ptpP w))
    updPtp w (fun x => { x with
      seen := true, sync := some ⟨seq, t2, corr, if twoStep then none else some ((origin * 65536 : Nat) : Int)⟩ })
  else w

/-- SYNC_RECEIVE (R380). -/
def execSyncReceive (domain : BitVec 8) (src : BitVec 64) (seq : BitVec 16) (twoStep : Bool) (origin : Nat) (corr : Int)
    (sub : Fin 64) (s : State) : Host.Outcome State Fault Refusal :=
  run (fun w => syncReceive w domain.toNat src.toNat seq.toNat twoStep origin corr sub) s

/-- R379: the Follow_Up of a two-step Sync carries its timestamp. -/
def followUp (w : Work σ) (dom src seq origin : Nat) (corr : Int) : Work σ :=
  match w.dev.ptp.sync with
  | none => w
  | some y =>
    if ptpActs w 0 && ptpDomain w dom && decide (src = ptpSeen w) && decide (y.seq = seq) && decide (y.t1 = none) then
      updPtp w (fun x => { x with sync := some { y with t1 := some ((origin * 65536 : Nat) : Int), corr := y.corr + corr } })
    else w

/-- FOLLOW_UP_RECEIVE (R379). -/
def execFollowUpReceive (domain : BitVec 8) (src : BitVec 64) (seq : BitVec 16) (origin : Nat) (corr : Int) (s : State) :
    Host.Outcome State Fault Refusal :=
  run (fun w => followUp w domain.toNat src.toNat seq.toNat origin corr) s

/-! ## Messages sent (R377 to R379) -/

/-- R378: the seconds and nanoseconds of a timestamp, as a message carries them. -/
def ptpStampBytes (t : Int) : List Byte :=
  beBytes 6 (t.toNat / 65536 / 10 ^ 9) ++ beBytes 4 (t.toNat / 65536 % 10 ^ 9)

/-- R378: the fraction of a timestamp, in units of correctionField. -/
def ptpFraction (t : Int) : Int := ((t.toNat % 65536 : Nat) : Int)

/-- The header of a message of a type: its length, flags, correctionField, sequence number, control field and logMessageInterval.
[note 153: PRESUMED] -/
def ptpHeader (w : Work σ) (type len flags : Nat) (corr : Int) (seq control log : Nat) : List Byte :=
  beBytes 1 type ++ beBytes 1 0x12 ++ beBytes 2 len ++ beBytes 1 (w.get PTP_CFG_DOMAIN) ++ beBytes 1 0 ++ beBytes 2 flags
    ++ beBytes 8 (toField 64 corr) ++ beBytes 4 0 ++ beBytes 8 (ptpClock w) ++ beBytes 2 1 ++ beBytes 2 seq ++ beBytes 1 control
    ++ beBytes 1 log

/-- R377, R379: a message sent on the PTP port over the transport of PTP.CFG: event messages on UDP port 319 and general ones on 320. A
message into which the timestamp is inserted (stamped) leaves with the checksum that R379 gives it, and over IPv6 with two bytes more,
which are free. TRANSPORT 3 is reserved: nothing is sent. [note 153: PRESUMED] -/
def ptpSend (w : Work σ) (kind : String) (event stamped : Bool) (msg : List Byte) : Work σ :=
  let p := ptpP w
  let port := if event then 319 else 320
  if w.get PTP_CFG_TRANSPORT = 0 then
    let src := w.get TRANSPORT_IP4
    let dst := 0xE0000181
    let (pkt, w) := ipPacket w false src dst (if stamped && !w.on PTP_CFG_CKSUM then udpPlain port port msg
      else udpBytes false src dst port port msg)
    sendFrame w p kind (ethHeader w p 0x01005E000181 0x0800 ++ pkt)
  else if w.get PTP_CFG_TRANSPORT = 1 then
    let src := ip6Of w
    let dst := 0xFF0E * 2 ^ 112 + 0x181
    let (tail, w) := w.freeBytes (if stamped then 2 else 0)
    let (pkt, w) := ipPacket w true src dst (udpBytes true src dst port port (msg ++ tail))
    sendFrame w p kind (ethHeader w p 0x333300000181 0x86DD ++ pkt)
  else if w.get PTP_CFG_TRANSPORT = 2 then sendFrame w p kind (ethHeader w p 0x011B19000000 0x88F7 ++ msg)
  else w

/-- R378, R380: the answer to a Delay_Req: the time of its arrival, with the fraction added to correctionField, and the port that
asked. [note 153: PRESUMED] -/
def delayRespBytes (w : Work σ) (src port seq : Nat) (corr : Int) (t : Int) : List Byte :=
  ptpHeader w 9 54 0 (corr + ptpFraction t) seq 3 (w.get PTP_INTERVAL_DELAY_LOG) ++ ptpStampBytes t ++ beBytes 8 src ++ beBytes 2 port

/-- R380: a master answers a Delay_Req with the time of its arrival. -/
def delayReqReceive (w : Work σ) (dom src port seq : Nat) (corr : Int) (sub : Nat) : Work σ :=
  if ptpActs w 1 && ptpDomain w dom then
    ptpSend w "DELAY_RESP" false false (delayRespBytes w src port seq corr (ptpStamp w sub (ETH_TS_DELAY_RX (ptpP w))))
  else w

/-- DELAY_REQ_RECEIVE (R380). -/
def execDelayReqReceive (domain : BitVec 8) (src : BitVec 64) (port seq : BitVec 16) (corr : Int) (sub : Fin 64) (s : State) :
    Host.Outcome State Fault Refusal :=
  run (fun w => delayReqReceive w domain.toNat src.toNat port.toNat seq.toNat corr sub) s

/-- R380: offsetFromMaster and meanPathDelay written, NEW set, and source 500 fired. [note 117: DESIGN CHOICE] -/
def ptpResult (w : Work σ) (offset delay : Int) : Work σ :=
  let o := toField 64 offset
  let d := toField 64 delay
  let w := (w.set PTP_OFFSET_LO o).set PTP_OFFSET_LIVE (o / 2 ^ 32)
  let w := (w.set PTP_DELAY_LO d).set PTP_DELAY_LIVE (d / 2 ^ 32)
  ((w.inc PTP_STATUS_EXCHANGES).set PTP_STATUS_NEW 1).fire 500

/-- R380: the Delay_Resp to the slave's request completes an exchange. -/
def delayResp (w : Work σ) (dom src seq : Nat) (forUs : Bool) (receive : Nat) (corr : Int) : Work σ :=
  match w.dev.ptp.sync, w.dev.ptp.req with
  | some y, some (n, t3) =>
    match y.t1 with
    | none => w
    | some t1 =>
      if ptpActs w 0 && ptpDomain w dom && decide (src = ptpSeen w) && forUs && decide (n = seq) then
        let t4 : Int := ((receive * 65536 : Nat) : Int)
        let delay := roundAway ((y.t2 - t3) + (t4 - t1) - y.corr - corr) 1
        ptpResult (updPtp w (fun x => { x with req := none })) (y.t2 - t1 - delay - y.corr) delay
      else w
  | _, _ => w

/-- DELAY_RESP_RECEIVE (R380). -/
def execDelayRespReceive (domain : BitVec 8) (src : BitVec 64) (seq : BitVec 16) (forUs : Bool) (receive : Nat) (corr : Int)
    (s : State) : Host.Outcome State Fault Refusal :=
  run (fun w => delayResp w domain.toNat src.toNat seq.toNat forUs receive corr) s

/-- R377: an Announce is a supported message; no rule gives it an effect at the port, whose role ROLE sets.
[note 117: DESIGN CHOICE] -/
def announceReceive (w : Work σ) : Work σ := w

/-- ANNOUNCE_RECEIVE (R377). -/
def execAnnounceReceive (s : State) : Host.Outcome State Fault Refusal := run announceReceive s

/-! ## Sending (R379, R380) -/

/-- 2^log s in units of 2^-32 ns, at least 1. -/
def logSeconds (log : Int) : Nat :=
  let u := 10 ^ 9 * 2 ^ 32
  if 0 ≤ log then u * 2 ^ log.toNat else max 1 (u / 2 ^ (-log).toNat)

/-- R380: the present tick is the first at or after a whole multiple of 2^SYNC_LOG s in NT. [note 118: DESIGN CHOICE] -/
def syncInstant (w : Work σ) : Bool :=
  decide (w.get NT_NOW % logSeconds (sext 8 (w.get PTP_INTERVAL_SYNC_LOG)) < ntIncr w)

/-- R378, R379: a one-step Sync: its timestamp stands in it. [note 153: PRESUMED] -/
def syncBytes (w : Work σ) (n : Nat) (t : Int) : List Byte :=
  ptpHeader w 0 44 0 (ptpFraction t) n 0 (w.get PTP_INTERVAL_SYNC_LOG) ++ ptpStampBytes t

/-- A two-step Sync, with what stands in its originTimestamp. [note 153: PRESUMED] -/
def twoStepBytes (w : Work σ) (n : Nat) (origin : List Byte) : List Byte :=
  ptpHeader w 0 44 0x0200 0 n 0 (w.get PTP_INTERVAL_SYNC_LOG) ++ origin

/-- R378, R379: the Follow_Up that carries the timestamp of a two-step Sync. [note 153: PRESUMED] -/
def followUpBytes (w : Work σ) (n : Nat) (t : Int) : List Byte :=
  ptpHeader w 8 44 0 (ptpFraction t) n 2 (w.get PTP_INTERVAL_SYNC_LOG) ++ ptpStampBytes t

/-- R380: an Announce with the fields of PTP.QUALITY; rest: its time, UTC offset, variance and time source, which no rule states.
[note 153: PRESUMED] -/
def announceBytes (w : Work σ) (n : Nat) (rest : List Byte) : List Byte :=
  ptpHeader w 11 64 0 0 n 5 (w.get PTP_INTERVAL_ANNOUNCE_LOG) ++ slice rest 0 12 ++ beBytes 1 0
    ++ beBytes 1 (w.get PTP_QUALITY_PRIORITY1) ++ beBytes 1 (w.get PTP_QUALITY_CLASS) ++ beBytes 1 (w.get PTP_QUALITY_ACCURACY)
    ++ slice rest 12 2 ++ beBytes 1 (w.get PTP_QUALITY_PRIORITY2) ++ beBytes 8 (ptpClock w) ++ beBytes 2 0 ++ slice rest 14 1

/-- A Delay_Req, with what stands in its originTimestamp. [note 153: PRESUMED] -/
def delayReqBytes (w : Work σ) (n : Nat) (origin : List Byte) : List Byte := ptpHeader w 1 44 0 0 n 1 0x7F ++ origin

/-- R379, R380: the master sends Sync, with its timestamp in it or in a Follow_Up. [note 118: DESIGN CHOICE] -/
def syncSend (w : Work σ) (sub : Nat) : Work σ :=
  if ptpActs w 1 && syncInstant w then
    let n := w.dev.ptp.syncSeq
    let t := ptpStamp w sub (ETH_TS_DELAY_TX (ptpP w))
    let w := if w.on PTP_CFG_STEP then ptpSend w "SYNC" true true (syncBytes w n t)
      else
        let (origin, w) := w.freeBytes 10
        let w := ptpSend w "SYNC" true false (twoStepBytes w n origin)
        ptpSend w "FOLLOW_UP" false false (followUpBytes w n t)
    updPtp w (fun x => { x with syncSeq := (n + 1) % 2 ^ 16 })
  else w

/-- SYNC_SEND (R380). -/
def execSyncSend (sub : Fin 64) (s : State) : Host.Outcome State Fault Refusal := run (fun w => syncSend w sub) s

/-- R380: the master sends Announce with the fields of PTP.QUALITY. -/
def announceSend (w : Work σ) : Work σ :=
  if ptpActs w 1 then
    let n := w.dev.ptp.annSeq
    let (rest, w) := w.freeBytes 15
    updPtp (ptpSend w "ANNOUNCE" false false (announceBytes w n rest)) (fun x => { x with annSeq := (n + 1) % 2 ^ 16 })
  else w

/-- ANNOUNCE_SEND (R380). -/
def execAnnounceSend (s : State) : Host.Outcome State Fault Refusal := run announceSend s

/-- R380: after a Sync the slave sends a Delay_Req. -/
def delayReqSend (w : Work σ) (sub : Nat) : Work σ :=
  if ptpActs w 0 && w.dev.ptp.sync.isSome then
    let n := w.dev.ptp.reqSeq
    let t := ptpStamp w sub (ETH_TS_DELAY_TX (ptpP w))
    let (origin, w) := w.freeBytes 10
    updPtp (ptpSend w "DELAY_REQ" true false (delayReqBytes w n origin)) (fun x => { x with
      reqSeq := (n + 1) % 2 ^ 16, req := some (n, t) })
  else w

/-- DELAY_REQ_SEND (R380). -/
def execDelayReqSend (sub : Fin 64) (s : State) : Host.Outcome State Fault Refusal := run (fun w => delayReqSend w sub) s

/-- R380: three Sync intervals have passed at a slave without a Sync. [note 118: DESIGN CHOICE] -/
def syncLost (w : Work σ) : Work σ := if ptpActs w 0 then (w.set PTP_STATUS_LOST 1).fire 500 else w

/-- SYNC_LOST (R380). -/
def execSyncLost (s : State) : Host.Outcome State Fault Refusal := run syncLost s

end Sys2Proof.Machine
end

