-- ==== Sys2Proof/Machine/Ports.lean ====
section
/-! DEFINITION. The memory ports (spec/17): QDR training, and the DDR5 channels with their requests, command parity, refresh, frost,
row-hammer work and ZQ calibration. -/

namespace Sys2Proof.Machine

variable {σ : State}

/-! ## QDR ports (R404) -/

/-- R404: states of a QDR port. -/
def QDR_OFF : Nat := 0
def QDR_TRAINING : Nat := 1
def QDR_READY : Nat := 2
def QDR_FAILED : Nat := 3

/-- R404: training of port p starts. -/
def qdrTrain (w : Work σ) (p : Nat) : Work σ := w.set (QDR_STATUS p) QDR_TRAINING

/-- DEV.STATUS.QDR_x_TRAINED. -/
def qdrTrainedBit (p : Nat) : Fld := if p = 0 then DEV_STATUS_QDR_A_TRAINED else DEV_STATUS_QDR_B_TRAINED

/-- R404: training of port p ends READY or FAILED. -/
def qdrTrainDone (w : Work σ) (p : Nat) (ok : Bool) : Work σ :=
  if w.get (QDR_STATUS p) = QDR_TRAINING then
    if ok then (w.set (QDR_STATUS p) QDR_READY).set (qdrTrainedBit p) 1
    else ((w.set (QDR_STATUS p) QDR_FAILED).errlog 0x08 .hardware devTile p 0).fire (482 + p)
  else w

/-- QDR_TRAIN_DONE (R404). -/
def execQdrTrainDone (p : Fin 2) (ok : Bool) (s : State) : Host.Outcome State Fault Refusal :=
  run (fun w => qdrTrainDone w p ok) s

/-- R404: a write to QDR.CFG is accepted only in OFF or FAILED. -/
def qdrCfgWrite (w : Work σ) (path : Path) (p v : Nat) : Work σ :=
  if w.get (QDR_STATUS p) = QDR_OFF ∨ w.get (QDR_STATUS p) = QDR_FAILED then
    (((w.set (QDR_CFG_CAP_LOG2 p) (bits v 8 5)).set (QDR_CFG_RL p) (bits v 4 4)).set (QDR_CFG_FREQ p) (bits v 1 2)).set
      (QDR_CFG_EN p) (bits v 0 1)
  else w.reject path (QDR_CFG_EN p).addr

/-! ## DDR5 channels -/

/-- R411, R414: the debt of each rank of a channel in service grows by 1 ns in a frame, but not in frost. -/
def ddrFrame (w : Work σ) (c : Nat) : Work σ :=
  if ddrState w c = DDR_READY then
    showDebt (w.updDdr c (fun d => { d with
      debt := [d.debt.getD 0 0 + 1, if ddrRanks w c = 2 then d.debt.getD 1 0 + 1 else 0] })) c
  else w

/-- DEV.STATUS.DDR_x_TRAINED. -/
def ddrTrained (c : Nat) : Fld := if c = 0 then DEV_STATUS_DDR_A_TRAINED else DEV_STATUS_DDR_B_TRAINED

/-- R274, R410: channel c faults with a cause; a notification that waited for credit of a ring there is discarded. -/
def ddrFault (w : Work σ) (c cause : Nat) : Work σ :=
  let w := ((w.set (DDR_STATUS_STATE c) DDR_FAULT).set (DDR_STATUS_CAUSE c) cause).updDdr c (fun d => { d with
    replay := [false, false], fails := [0, 0], writes := [[], []], waiting := [], writer := [] })
  noteRetry ((w.errlog 0x08 .hardware devTile (2 + c) 0).fire (480 + c))

/-- R410, R418: training of channel c starts. A channel that leaves FAULT loses its contents.
[notes 14: DESIGN CHOICE, 102: DEDUCED] -/
def ddrTrain (w : Work σ) (c : Nat) : Work σ :=
  let w := if ddrState w c = DDR_FAULT then w.wipeMem [(ddrBase c, ddrBase c + 2 ^ 37)] else w
  (w.set (DDR_STATUS_STATE c) DDR_TRAINING).updDdr c (fun _ => DdrSt.reset)

/-- R418: training of channel c ends READY or in FAULT. -/
def ddrTrainDone (w : Work σ) (c : Nat) (ok : Bool) : Work σ :=
  if ddrState w c = DDR_TRAINING then
    if ok then
      showDebt (((w.set (DDR_STATUS_STATE c) DDR_READY).set (DDR_STATUS_CAUSE c) 0).set (ddrTrained c) 1) c
    else ddrFault w c 1
  else w

/-- DDR_TRAIN_DONE (R418). -/
def execDdrTrainDone (c : Fin 2) (ok : Bool) (s : State) : Host.Outcome State Fault Refusal :=
  run (fun w => ddrTrainDone w c ok) s

/-- R418: a write to DDR.CFG is accepted only in OFF or FAULT. -/
def ddrCfgWrite (w : Work σ) (path : Path) (c v : Nat) : Work σ :=
  if ddrState w c = DDR_OFF ∨ ddrState w c = DDR_FAULT then
    (((w.set (DDR_CFG_SPEED c) (bits v 3 2)).set (DDR_CFG_RANKS c) (bits v 2 1)).set (DDR_CFG_DENSITY c) (bits v 1 1)).set
      (DDR_CFG_EN c) (bits v 0 1)
  else w.reject path (DDR_CFG_EN c).addr

/-! ## Frost (R414) and MR4 (R411) -/

/-- MR4_POLL (R411). -/
def execMr4Poll (c : Fin 2) (hot : Bool) (s : State) : Host.Outcome State Fault Refusal :=
  run (fun w => if ddrState w c = DDR_READY ∧ !(w.ddr c).replay.any id then mr4Read w c hot else w) s

/-- R414: channel c, its queued writes drained, enters frost after its idle time, unless a refresh or a ZQ calibration is due. -/
def frostEntry (w : Work σ) (c : Nat) : Work σ :=
  if ddrState w c = DDR_READY ∧ w.get (DDR_FROST_IDLE_US c) ≠ 0 ∧ refDue w c 0 = 0 ∧ refDue w c 1 = 0 ∧
      !(w.ddr c).zqDue.any id ∧ !(w.ddr c).busy.any id ∧ !(w.ddr c).replay.any id ∧
      (w.ddr c).waiting = [] ∧ (w.ddr c).writer = [] then
    let w := ddrDrain (ddrDrain w c 0 64) c 1 64
    (ddrSendBoth (w.set (DDR_STATUS_STATE c) DDR_FROST) c ⟨.enterFrost, 0⟩).inc (DDR_FROST_ENTRIES c)
  else w

/-- FROST_ENTRY (R414). -/
def execFrostEntry (c : Fin 2) (s : State) : Host.Outcome State Fault Refusal := run (fun w => frostEntry w c) s

/-- FROST_WAKE (R414). -/
def execFrostWake (c : Fin 2) (hot : Bool) (s : State) : Host.Outcome State Fault Refusal :=
  run (fun w => frostWake w c hot) s

/-! ## Refresh (R411 to R413) -/

/-- R411: a REFab to rank r is issued and the rank is unavailable. [note 102: DEDUCED] -/
def issueRefresh (w : Work σ) (c r : Nat) : Work σ :=
  showDebt ((ddrSendBoth w c ⟨.refresh, r⟩).updDdr c (fun d => { d with
    debt := d.debt.set r (d.debt.getD r 0 - tRefi w c), busy := d.busy.set r true
    lastRef := d.lastRef.set r (some w.dev.ticks) })) c

/-- R411: the ranks of a channel are refreshed half a tREFI apart: a refresh of rank r comes too soon behind one of the other rank.
[note 102: DEDUCED] -/
def refreshSoon (w : Work σ) (c r : Nat) : Bool :=
  match (w.ddr c).lastRef.getD (1 - r) none with
  | some x => decide (w.dev.ticks < x + tRefi w c / 2)
  | none => false

/-- R412: MAXPOST as it acts. -/
def maxPost (w : Work σ) (c : Nat) : Nat := min 4 (w.get (DDR_REF_MAXPOST c))

/-- R412: a refresh of rank r is due, on a channel none of whose subchannels replays (R409): issued, postponed while a C1 request waits
(c1, or one that the channel holds) or the writer's buffer holds more than 4 KiB, or forced. [note 4: DESIGN CHOICE] -/
def refreshDue (w : Work σ) (c r : Nat) (c1 : Bool) : Work σ :=
  let n := refDue w c r
  if ddrState w c = DDR_READY ∧ r < ddrRanks w c ∧ 1 ≤ n ∧ !(w.ddr c).busy.getD r false ∧
      !(w.ddr c).replay.any id then
    if maxPost w c < n then issueRefresh (w.inc (DDR_REF_STAT_FORCED c)) c r
    else if c1 || ddrBusyTraffic w c || refreshSoon w c r then w
    else issueRefresh w c r
  else w

/-- REFRESH_DUE (R412). -/
def execRefreshDue (c r : Fin 2) (c1 : Bool) (s : State) : Host.Outcome State Fault Refusal :=
  run (fun w => refreshDue w c r c1) s

/-- R411: a REFab of rank r ends, and the requests that waited for it are served (R19). -/
def refreshDone (w : Work σ) (c r : Nat) : Work σ := ddrGrant (w.updDdr c (fun d => { d with busy := d.busy.set r false })) c

/-- REFRESH_COMPLETE (R411). -/
def execRefreshComplete (c r : Fin 2) (s : State) : Host.Outcome State Fault Refusal :=
  run (fun w => refreshDone w c r) s

/-! ## ZQ calibration (R417) -/

/-- R417: a ZQ calibration of rank r is due, ms milliseconds after it fell due: issued, or deferred in frost, while a C1 request waits (c1,
or one that the channel holds) or the writer's buffer holds more than 4 KiB, and while a subchannel replays (R409). -/
def zqCalDue (w : Work σ) (c r : Nat) (c1 : Bool) (ms : Nat) : Work σ :=
  if r < ddrRanks w c ∧ (ddrState w c = DDR_READY ∨ ddrState w c = DDR_FROST) then
    let w := w.set (DDR_ZQ_MAXDEFER_MS c) (max (w.get (DDR_ZQ_MAXDEFER_MS c)) ms)
    let wait := decide (ddrState w c = DDR_FROST) || (w.ddr c).replay.any id || ((c1 || ddrBusyTraffic w c) && decide (ms < 128))
    (if wait then w else issueZq w c [r]).updDdr c (fun d => { d with zqDue := d.zqDue.set r wait })
  else w

/-- ZQ_DUE (R417). -/
def execZqDue (c r : Fin 2) (c1 : Bool) (ms : BitVec 16) (s : State) : Host.Outcome State Fault Refusal :=
  run (fun w => zqCalDue w c r c1 ms.toNat) s

/-! ## Command parity (R409) -/

/-- The code by which a command is given out in a replay. -/
def DdrOp.code : DdrOp → Nat
  | .activate => 0
  | .read => 1
  | .write => 2
  | .refresh => 3
  | .rfm => 4
  | .zq => 5
  | .modeRead => 6
  | .enterFrost => 7
  | .leaveFrost => 8
  | .precharge => 9

/-- R409: the subchannel sends the commands of its retry buffer again, in their original order. [note 102: DEDUCED] -/
def ddrReplay (w : Work σ) (c sub : Nat) : Work σ :=
  (w.updDdr c (fun d => { d with replay := d.replay.set sub true })).emit
    (.port "DDR_REPLAY" (c :: sub :: (((w.ddr c).cmds.getD sub []).reverse.flatMap (fun x => [x.op.code, x.at_]))))

/-- R409: ALERT_N asserts: a replay starts; an assertion during a replay fails it, and the third failure in a row faults the
channel. -/
def ddrAlert (w : Work σ) (c sub : Nat) : Work σ :=
  let d := w.ddr c
  if ddrState w c = DDR_READY ∨ ddrState w c = DDR_TRAINING then
    let w := w.inc (DDR_PARITY_ALERTS c)
    if d.replay.getD sub false then
      let fails := d.fails.getD sub 0 + 1
      let w := w.inc (DDR_PARITY_REPLAY_FAIL c)
      if 3 ≤ fails then ddrFault w c 2
      else (ddrReplay (w.updDdr c (fun d => { d with fails := d.fails.set sub fails })) c sub).fire (480 + c)
    else (ddrReplay w c sub).fire (480 + c)
  else w

/-- DDR_ALERT (R409). -/
def execDdrAlert (c sub : Fin 2) (s : State) : Host.Outcome State Fault Refusal := run (fun w => ddrAlert w c sub) s

/-- R409: the replay of a subchannel completes, and the requests that waited for it are served (R19); or ALERT_N asserts before it does. -/
def replayDone (w : Work σ) (c sub : Nat) (ok : Bool) : Work σ :=
  if (w.ddr c).replay.getD sub false then
    if ok then ddrGrant (w.updDdr c (fun d => { d with replay := d.replay.set sub false, fails := d.fails.set sub 0 })) c
    else ddrAlert w c sub
  else w

/-- REPLAY_DONE (R409). -/
def execReplayDone (c sub : Fin 2) (ok : Bool) (s : State) : Host.Outcome State Fault Refusal :=
  run (fun w => replayDone w c sub ok) s

/-! ## Requests (R406 to R408) and row hammer (R415, R416) -/

/-- ACTIVATE_TABLE_CLEAR (R415). -/
def execActivateTableClear (c : Fin 2) (s : State) : Host.Outcome State Fault Refusal :=
  run (fun w => w.updDdr c (fun d => { d with acts := [] })) s

/-- R29, R408: a request of class cls for channel offset off: a write of bytes, or a read of n bytes when there are none. Within one
64-byte line; opens says that it activates its row, drained how many queued writes of its subchannel have reached the DRAM before it, and
hot the MR4 read of a wake from frost. It waits while its subchannel replays or its rank refreshes (R409, R411); its data are those of
every earlier write. [note 102: DEDUCED] -/
def ddrRequest (w : Work σ) (c off cls n : Nat) (bytes : List Byte) (opens : Bool) (drained : Nat) (hot : Bool) : Work σ :=
  let room := 64 - off % 64
  if ddrState w c ≠ DDR_READY ∧ ddrState w c ≠ DDR_FROST then w
  else if ddrCapacity w c ≤ off then
    (if bytes = [] then w.emit (.port "DDR" (List.replicate (min n room) 0))
     else w.errlog 0x01 .hardware devTile 0 (ddrBase c + off))
  else if bytes = [] then
    ddrArrive w c ⟨off, cls, false, opens, drained, hot, some (w.rdBytes (ddrBase c + off) (min n room))⟩
  else (ddrArrive w c ⟨off, cls, true, opens, drained, hot, none⟩).wrBytes (ddrBase c + off) (bytes.take room)

/-- DDR_REQUEST (R408). -/
def execDdrRequest (c : Fin 2) (off : Fin (2 ^ 37)) (cls : Fin 3) (n : Fin 65) (bytes : List (BitVec 8)) (opens : Bool) (drained : Nat)
    (hot : Bool) (s : State) : Host.Outcome State Fault Refusal :=
  run (fun w => ddrRequest w c off (cls + 1) n bytes opens drained hot) s

end Sys2Proof.Machine
end

