-- ==== Sys2Proof/Machine/RegMap.lean ====
section
/-! DEFINITION. The register map: which fields lie at an address, from the same register tables of spec/ as
Sys2Proof/Machine/Regs.lean. An address that no row matches is reserved (R8, R29). -/

namespace Sys2Proof.Machine

/-- A row of the register map: the offset of its first register in the tile window or the device block, the strides and
counts of its indices (largest stride first), and its fields as a function of the tile and the indices. -/
structure RegRow where
  base : Nat
  dims : List (Nat × Nat)
  flds : Nat → (Nat → Nat) → List FieldAcc

/-- The indices at which a row with these strides and counts meets an offset, when it does. -/
def matchDims : List (Nat × Nat) → Nat → Option (List Nat)
  | [], off => if off = 0 then some [] else none
  | (stride, count) :: ds, off =>
    if off / stride < count then (matchDims ds (off % stride)).map (off / stride :: ·) else none

/-- The fields at an offset, under the first row of the map that matches it; none where the offset is reserved. -/
def lookupRow (t off : Nat) : List RegRow → Option (List FieldAcc)
  | [] => none
  | r :: rs =>
    if r.base ≤ off then
      match matchDims r.dims (off - r.base) with
      | some ix => some (r.flds t (fun k => ix.getD k 0))
      | none => lookupRow t off rs
    else lookupRow t off rs

/-- Tile registers of the sequencer, clasps, events, tone, DAC, flux, readout and ADC chapters. -/
def tileRowsEngines : List RegRow := [
  ⟨0x400, [], fun t _ => [⟨CLASP_HORIZON t, .rw, false⟩]⟩,
  ⟨0x404, [], fun t _ => [⟨CLASP_LOW_WATER t, .rc, false⟩]⟩,
  ⟨0x408, [], fun t _ => [⟨CLASP_CURSOR_LO t, .ro, false⟩]⟩,
  ⟨0x40C, [], fun t _ => [⟨CLASP_CURSOR_HI t, .ro, false⟩]⟩,
  ⟨0x410, [], fun t _ => [⟨CLASP_UNDERRUN t, .rc, false⟩]⟩,
  ⟨0x414, [], fun t _ => [⟨CLASP_FIRST_VALID t, .w1c, false⟩, ⟨CLASP_FIRST_CAUSE t, .ro, false⟩, ⟨CLASP_FIRST_CLASP t, .ro, false⟩, ⟨CLASP_FIRST_KIND t, .ro, false⟩, ⟨CLASP_FIRST_MARGIN t, .ro, false⟩]⟩,
  ⟨0x418, [], fun t _ => [⟨CLASP_FIRST_STAMP_LO t, .ro, false⟩]⟩,
  ⟨0x41C, [], fun t _ => [⟨CLASP_FIRST_STAMP_HI t, .ro, false⟩]⟩,
  ⟨0x420, [], fun t _ => [⟨CLASP_COLLIDE t, .rc, false⟩]⟩,
  ⟨0x428, [], fun t _ => [⟨CLASP_ABORT_FRAME_LO t, .rw, false⟩]⟩,
  ⟨0x42C, [], fun t _ => [⟨CLASP_ABORT_FRAME_HI t, .rw, false⟩]⟩,
  ⟨0x430, [], fun t _ => [⟨CLASP_ABORT_CTRL_GEN t, .ro, false⟩, ⟨CLASP_ABORT_CTRL_BUSY t, .ro, false⟩, ⟨CLASP_ABORT_CTRL_GO t, .w1s, false⟩]⟩,
  ⟨0x438, [], fun t _ => [⟨CLASP_ABORT_EFF_LO t, .ro, false⟩]⟩,
  ⟨0x43C, [], fun t _ => [⟨CLASP_ABORT_EFF_HI t, .ro, false⟩]⟩,
  ⟨0x440, [(0x4, 33)], fun t x => [⟨CLASP_QUEUE_FILL t (x 0), .ro, false⟩, ⟨CLASP_QUEUE_DEPTH t (x 0), .ro, true⟩]⟩,
  ⟨0x1000, [(0x100, 16), (0x8, 4)], fun t x => [⟨TONE_FW_LO t (x 0) (x 1), .rw, true⟩]⟩,
  ⟨0x1004, [(0x100, 16), (0x8, 4)], fun t x => [⟨TONE_FW_HI t (x 0) (x 1), .rw, true⟩]⟩,
  ⟨0x1020, [(0x100, 16), (0x4, 4)], fun t x => [⟨TONE_VZ t (x 0) (x 1), .rw, true⟩]⟩,
  ⟨0x1030, [(0x100, 16)], fun t x => [⟨TONE_STATUS_FSEL t (x 0), .ro, false⟩, ⟨TONE_STATUS_TEMPLATE t (x 0), .ro, false⟩, ⟨TONE_STATUS_PAGE_WAIT t (x 0), .ro, false⟩, ⟨TONE_STATUS_HOLDING t (x 0), .ro, false⟩, ⟨TONE_STATUS_PLAYING t (x 0), .ro, false⟩, ⟨TONE_STATUS_IDLE t (x 0), .ro, false⟩]⟩,
  ⟨0x1034, [(0x100, 16)], fun t x => [⟨TONE_STARTS t (x 0), .rc, false⟩]⟩,
  ⟨0x2000, [(0x100, 3)], fun t x => [⟨DAC_CTRL_DGAIN t (x 0), .ro, true⟩, ⟨DAC_CTRL_MODE t (x 0), .ro, true⟩, ⟨DAC_CTRL_EN t (x 0), .ro, true⟩]⟩,
  ⟨0x2010, [(0x100, 3), (0x8, 4)], fun t x => if (x 0) < 2 then [⟨DAC_TAP_SRC_DELAY t (x 0) (x 1), .ro, true⟩, ⟨DAC_TAP_SRC_ENGINE t (x 0) (x 1), .ro, true⟩, ⟨DAC_TAP_SRC_TILE t (x 0) (x 1), .ro, true⟩, ⟨DAC_TAP_SRC_EN t (x 0) (x 1), .ro, true⟩] else []⟩,
  ⟨0x2014, [(0x100, 3), (0x8, 4)], fun t x => if (x 0) < 2 then [⟨DAC_TAP_GAIN_GQ t (x 0) (x 1), .ro, true⟩, ⟨DAC_TAP_GAIN_GI t (x 0) (x 1), .ro, true⟩] else []⟩,
  ⟨0x2040, [(0x100, 3)], fun t x => [⟨DAC_CLIP_STICKY t (x 0), .w1c, false⟩, ⟨DAC_CLIP_COUNT t (x 0), .rc, false⟩]⟩,
  ⟨0x2044, [(0x100, 3)], fun t x => [⟨DAC_CAL_CYCLES t (x 0), .rc, false⟩, ⟨DAC_CAL_STEP t (x 0), .ro, false⟩, ⟨DAC_CAL_RUNNING t (x 0), .ro, false⟩, ⟨DAC_CAL_CAL_STALE t (x 0), .ro, false⟩, ⟨DAC_CAL_BG_EN t (x 0), .ro, true⟩]⟩,
  ⟨0x2048, [(0x100, 3)], fun t x => [⟨DAC_CAL_AGE t (x 0), .ro, false⟩]⟩,
  ⟨0x2300, [], fun t _ => (List.range 8).map (fun m => ⟨DRIVE_ROUTE_XY t m, .ro, true⟩)⟩,
  ⟨0x2304, [], fun t _ => [⟨DRIVE_PAGE_FREE t, .ro, false⟩, ⟨DRIVE_PAGE_BUFFERS t, .ro, true⟩]⟩,
  ⟨0x3000, [(0x100, 8)], fun t x => [⟨FLUX_DC t (x 0), .rw, true⟩]⟩,
  ⟨0x3004, [(0x100, 8)], fun t x => [⟨FLUX_STATUS_TEMPLATE t (x 0), .ro, false⟩, ⟨FLUX_STATUS_HOLDING t (x 0), .ro, false⟩, ⟨FLUX_STATUS_PLAYING t (x 0), .ro, false⟩, ⟨FLUX_STATUS_IDLE t (x 0), .ro, false⟩]⟩,
  ⟨0x3008, [(0x100, 8)], fun t x => [⟨FLUX_STARTS t (x 0), .rc, false⟩]⟩,
  ⟨0x300C, [(0x100, 8)], fun t x => [⟨FLUX_CLIP_STICKY t (x 0), .w1c, false⟩, ⟨FLUX_CLIP_COUNT t (x 0), .rc, false⟩]⟩,
  ⟨0x3020, [(0x100, 8), (0x8, 8)], fun t x => [⟨FLUX_IIR_ALPHA t (x 0) (x 1), .ro, true⟩]⟩,
  ⟨0x3024, [(0x100, 8), (0x8, 8)], fun t x => [⟨FLUX_IIR_K_EN t (x 0) (x 1), .ro, true⟩, ⟨FLUX_IIR_K_K t (x 0) (x 1), .ro, true⟩]⟩,
  ⟨0x3060, [(0x100, 8), (0x4, 16)], fun t x => [⟨FLUX_FIR_TAP_HI t (x 0) (x 1), .ro, true⟩, ⟨FLUX_FIR_TAP_LO t (x 0) (x 1), .ro, true⟩]⟩,
  ⟨0x30A0, [(0x100, 8)], fun t x => [⟨FLUX_OUT t (x 0), .ro, true⟩]⟩,
  ⟨0x30A4, [(0x100, 8)], fun t x => [⟨FLUX_LAST t (x 0), .ro, false⟩]⟩,
  ⟨0x3800, [(0x10, 8), (0x4, 4)], fun t x => [⟨FLUX_XT_M_HI t (x 0) (x 1), .ro, true⟩, ⟨FLUX_XT_M_LO t (x 0) (x 1), .ro, true⟩]⟩,
  ⟨0x3880, [], fun t _ => (List.range 8).map (fun m => ⟨FLUX_ROUTE_BALL t m, .ro, true⟩)⟩,
  ⟨0x4000, [(0x100, 8), (0x8, 16)], fun t x => [⟨RD_KDESC_A t (x 0) (x 1), .rw, true⟩]⟩,
  ⟨0x4004, [(0x100, 8), (0x8, 16)], fun t x => [⟨RD_KDESC_B t (x 0) (x 1), .rw, true⟩]⟩,
  ⟨0x4080, [(0x100, 8)], fun t x => [⟨RD_STATUS_KSEL t (x 0), .ro, false⟩, ⟨RD_STATUS_ROUND t (x 0), .ro, false⟩, ⟨RD_STATUS_OPEN t (x 0), .ro, false⟩, ⟨RD_STATUS_IDLE t (x 0), .ro, false⟩]⟩,
  ⟨0x4084, [(0x100, 8)], fun t x => [⟨RD_WINDOWS t (x 0), .rc, false⟩]⟩,
  ⟨0x4088, [(0x100, 8)], fun t x => [⟨RD_LAST_I t (x 0), .ro, false⟩]⟩,
  ⟨0x408C, [(0x100, 8)], fun t x => [⟨RD_LAST_Q t (x 0), .ro, false⟩]⟩,
  ⟨0x4090, [(0x100, 8)], fun t x => [⟨RD_LAST_INFO_LEAK t (x 0), .ro, false⟩, ⟨RD_LAST_INFO_AMB t (x 0), .ro, false⟩, ⟨RD_LAST_INFO_STATE t (x 0), .ro, false⟩, ⟨RD_LAST_INFO_KSEL t (x 0), .ro, false⟩, ⟨RD_LAST_INFO_SAT t (x 0), .ro, false⟩, ⟨RD_LAST_INFO_GOV t (x 0), .ro, false⟩, ⟨RD_LAST_INFO_FIFO_LOST t (x 0), .ro, false⟩, ⟨RD_LAST_INFO_ADC_OVR t (x 0), .ro, false⟩, ⟨RD_LAST_INFO_OVR t (x 0), .ro, false⟩, ⟨RD_LAST_INFO_CHANNEL t (x 0), .ro, false⟩, ⟨RD_LAST_INFO_ROUND t (x 0), .ro, false⟩]⟩,
  ⟨0x4094, [(0x100, 8)], fun t x => [⟨RD_LAST_TL_LO t (x 0), .ro, false⟩]⟩,
  ⟨0x4098, [(0x100, 8)], fun t x => [⟨RD_LAST_TL_HI t (x 0), .ro, false⟩]⟩,
  ⟨0x409C, [(0x100, 8)], fun t x => [⟨RD_HOSTLOSS t (x 0), .rc, false⟩]⟩,
  ⟨0x40A0, [(0x100, 8)], fun t x => [⟨RD_RESULT_Q t (x 0), .ro, true⟩]⟩,
  ⟨0x4800, [], fun t _ => [⟨ADC_CTRL_ZONE t, .ro, true⟩, ⟨ADC_CTRL_EN t, .ro, true⟩]⟩,
  ⟨0x4804, [], fun t _ => [⟨ADC_OVR_STICKY t, .w1c, false⟩, ⟨ADC_OVR_COUNT t, .rc, false⟩]⟩,
  ⟨0x4808, [], fun t _ => [⟨ADC_PEAK t, .rc, false⟩]⟩,
  ⟨0x480C, [], fun t _ => [⟨ADC_FIFO_OVERRUN t, .w1c, false⟩, ⟨ADC_FIFO_FILL_MAX t, .rc, false⟩, ⟨ADC_FIFO_LOST t, .rc, false⟩]⟩,
  ⟨0x4810, [], fun t _ => [⟨ADC_CAL_CYCLES t, .rc, false⟩, ⟨ADC_CAL_STEP t, .ro, false⟩, ⟨ADC_CAL_RUNNING t, .ro, false⟩, ⟨ADC_CAL_CAL_STALE t, .ro, false⟩, ⟨ADC_CAL_BG_EN t, .ro, true⟩]⟩,
  ⟨0x4814, [], fun t _ => [⟨ADC_CAL_AGE t, .ro, false⟩]⟩,
  ⟨0x0, [], fun t _ => [⟨SEQ_CTRL_RESYNC t, .wo, false⟩, ⟨SEQ_CTRL_HALT t, .w1s, false⟩, ⟨SEQ_CTRL_STOP t, .w1s, false⟩, ⟨SEQ_CTRL_STEP t, .w1s, false⟩, ⟨SEQ_CTRL_RESUME t, .w1s, false⟩]⟩,
  ⟨0x4, [], fun t _ => [⟨SEQ_STATE_ADDR t, .ro, false⟩, ⟨SEQ_STATE_VEC t, .ro, false⟩, ⟨SEQ_STATE_ACTIVE t, .ro, false⟩, ⟨SEQ_STATE_STEPPING t, .ro, false⟩, ⟨SEQ_STATE_STATE t, .ro, false⟩]⟩,
  ⟨0x8, [], fun t _ => [⟨SEQ_HALT_INFO_PARGRP t, .ro, false⟩, ⟨SEQ_HALT_INFO_ADDR t, .ro, false⟩, ⟨SEQ_HALT_INFO_CAUSE t, .ro, false⟩]⟩,
  ⟨0xC, [], fun t _ => [⟨SEQ_RESTART t, .rw, false⟩]⟩,
  ⟨0x10, [], fun t _ => [⟨SEQ_CFG_START t, .ro, true⟩, ⟨SEQ_CFG_BRINGUP t, .rw, true⟩]⟩,
  ⟨0x14, [], fun t _ => [⟨SEQ_ATTN t, .ro, false⟩]⟩,
  ⟨0x18, [], fun t _ => [⟨SEQ_ATTN_EN t, .rw, true⟩]⟩,
  ⟨0x1C, [], fun t _ => [⟨SEQ_ATTN_COUNT_DEFER t, .rc, false⟩, ⟨SEQ_ATTN_COUNT_TAKEN t, .rc, false⟩]⟩,
  ⟨0x20, [], fun t _ => [⟨SEQ_STARVE_MAXRUN t, .rc, false⟩, ⟨SEQ_STARVE_LIMIT t, .rw, true⟩]⟩,
  ⟨0x24, [], fun t _ => [⟨SEQ_WORDS t, .rc, false⟩]⟩,
  ⟨0x28, [], fun t _ => [⟨SEQ_SP t, .rw, false⟩]⟩,
  ⟨0x30, [(0x4, 4)], fun t x => [⟨SEQ_LC t (x 0), .rw, false⟩]⟩,
  ⟨0x40, [(0x4, 16)], fun t x => [⟨SEQ_STACK t (x 0), .rw, false⟩]⟩,
  ⟨0x80, [(0x4, 16)], fun t x => [⟨SEQ_VEC t (x 0), .ro, true⟩]⟩,
  ⟨0x800, [(0x4, 16)], fun t x => [⟨EVPORT_IN t (x 0), .ro, true⟩]⟩,
  ⟨0x840, [], fun t _ => [⟨EVPORT_OVR t, .w1c, false⟩]⟩,
  ⟨0x844, [], fun t _ => [⟨EVPORT_LOOP_COUNT t, .rc, false⟩, ⟨EVPORT_LOOP_FLAG t, .w1c, false⟩]⟩,
  ⟨0x860, [], fun t _ => [⟨EVPORT_GEN_CUR_VALID t, .ro, false⟩, ⟨EVPORT_GEN_CUR t, .ro, false⟩]⟩,
  ⟨0x848, [(0x4, 8)], fun t x => [⟨EVPORT_OVRCNT_HI t (x 0), .rc, false⟩, ⟨EVPORT_OVRCNT_LO t (x 0), .rc, false⟩]⟩,
  ⟨0x870, [(0x4, 2)], fun t x => (List.range 8).map (fun m => ⟨EVPORT_PEND_GEN_SET t (x 0) m, .ro, false⟩) ++ (List.range 8).map (fun m => ⟨EVPORT_PEND_GEN_GEN t (x 0) m, .ro, false⟩)⟩,
  ⟨0x880, [], fun t _ => [⟨EVPORT_NOTE_Q t, .rw, true⟩]⟩]

/-- Tile registers of the datapath, facets, watchers, feedback, microword and queue chapters. -/
def tileRowsData : List RegRow := [
  ⟨0x5000, [], fun t _ => [⟨DSP_STATUS_ILLEGAL t, .w1c, false⟩, ⟨DSP_STATUS_TAINT_STORE t, .w1c, false⟩, ⟨DSP_STATUS_IN_TIMEOUT t, .w1c, false⟩, ⟨DSP_STATUS_LANE_OVF t, .w1c, false⟩, ⟨DSP_STATUS_GOV t, .w1c, false⟩]⟩,
  ⟨0x5004, [], fun t _ => [⟨DSP_FLAGS_IDX t, .ro, false⟩, ⟨DSP_FLAGS_N t, .ro, false⟩, ⟨DSP_FLAGS_Z t, .ro, false⟩]⟩,
  ⟨0x5008, [], fun t _ => [⟨DSP_IN_CTRL_TIMEOUT t, .rw, true⟩, ⟨DSP_IN_CTRL_SHIFT t, .rw, true⟩]⟩,
  ⟨0x500C, [], fun t _ => [⟨DSP_IN_STATUS_LOST t, .rc, false⟩, ⟨DSP_IN_STATUS_FILL t, .ro, false⟩]⟩,
  ⟨0x5010, [], fun t _ => [⟨DSP_OUT_Q t, .ro, true⟩]⟩,
  ⟨0x5014, [], fun t _ => [⟨DSP_HIST_NBINS_M1 t, .rw, true⟩, ⟨DSP_HIST_HSHIFT t, .rw, true⟩, ⟨DSP_HIST_HBASE t, .rw, true⟩]⟩,
  ⟨0x5018, [], fun t _ => [⟨DSP_VTAG t, .ro, false⟩]⟩,
  ⟨0x5020, [(0x8, 4)], fun t x => [⟨DSP_ACC_LO t (x 0), .rw, false⟩]⟩,
  ⟨0x5024, [(0x8, 4)], fun t x => [⟨DSP_ACC_HI_TAINT t (x 0), .ro, false⟩, ⟨DSP_ACC_HI_HOLD t (x 0), .ro, false⟩, ⟨DSP_ACC_HI_ACC_HI t (x 0), .rw, false⟩]⟩,
  ⟨0x5040, [(0x4, 4)], fun t x => [⟨DSP_SIDX t (x 0), .ro, false⟩]⟩,
  ⟨0x5060, [(0x10, 4)], fun t x => [⟨DSP_AGU_P t (x 0), .rw, false⟩]⟩,
  ⟨0x5064, [(0x10, 4)], fun t x => [⟨DSP_AGU_M t (x 0), .rw, false⟩]⟩,
  ⟨0x5068, [(0x10, 4)], fun t x => [⟨DSP_AGU_B t (x 0), .rw, false⟩]⟩,
  ⟨0x506C, [(0x10, 4)], fun t x => [⟨DSP_AGU_L t (x 0), .rw, false⟩]⟩,
  ⟨0x5100, [(0x10, 8), (0x4, 4)], fun t x => [⟨DSP_V t (x 0) (x 1), .ro, false⟩]⟩,
  ⟨0x6000, [(0x40, 8), (0x8, 4)], fun t x => [⟨FACET_COEF_B t (x 0) (x 1), .rw, true⟩, ⟨FACET_COEF_A t (x 0) (x 1), .rw, true⟩]⟩,
  ⟨0x6004, [(0x40, 8), (0x8, 4)], fun t x => [⟨FACET_OFFSET t (x 0) (x 1), .rw, true⟩]⟩,
  ⟨0x6020, [(0x40, 8)], fun t x => [⟨FACET_CTRL t (x 0), .rw, true⟩]⟩,
  ⟨0x6024, [(0x40, 8)], fun t x => [⟨FACET_THR t (x 0), .rw, true⟩]⟩,
  ⟨0x6028, [(0x40, 8)], fun t x => [⟨FACET_MARGIN t (x 0), .ro, false⟩]⟩,
  ⟨0x602C, [(0x40, 8)], fun t x => [⟨FACET_COUNT_AMB t (x 0), .rc, false⟩, ⟨FACET_COUNT_LEAK t (x 0), .rc, false⟩]⟩,
  ⟨0x6800, [(0x20, 16), (0x4, 4)], fun t x => [⟨WATCH_KEY_EN t (x 0) (x 1), .ro, true⟩, ⟨WATCH_KEY_CAPTURED t (x 0) (x 1), .ro, false⟩, ⟨WATCH_KEY_EXPECT t (x 0) (x 1), .rw, false⟩, ⟨WATCH_KEY_SEL t (x 0) (x 1), .ro, true⟩, ⟨WATCH_KEY_SLOT t (x 0) (x 1), .ro, true⟩]⟩,
  ⟨0x6810, [(0x20, 16)], fun t x => (List.range 16).map (fun m => ⟨WATCH_MAP_OPT t (x 0) m, .ro, true⟩)⟩,
  ⟨0x6814, [(0x20, 16)], fun t x => [⟨WATCH_CFG_FLAG_ON_AMB t (x 0), .ro, true⟩, ⟨WATCH_CFG_FLAG_ON_OVR t (x 0), .ro, true⟩, ⟨WATCH_CFG_FLAG_OPT t (x 0), .ro, true⟩, ⟨WATCH_CFG_LATE_POL t (x 0), .ro, true⟩]⟩,
  ⟨0x6818, [(0x20, 16)], fun t x => [⟨WATCH_STATUS_LATE t (x 0), .rc, false⟩, ⟨WATCH_STATUS_FENCE_LATE t (x 0), .ro, false⟩, ⟨WATCH_STATUS_FLAGGED t (x 0), .ro, false⟩, ⟨WATCH_STATUS_OPTION t (x 0), .ro, false⟩, ⟨WATCH_STATUS_RESOLVED t (x 0), .ro, false⟩]⟩,
  ⟨0x6A00, [], fun t _ => [⟨FB_COUNT_LATE t, .rc, false⟩, ⟨FB_COUNT_GROUPS t, .rc, false⟩]⟩,
  ⟨0x6A04, [], fun t _ => [⟨FB_FENCE_WAITING t, .ro, false⟩, ⟨FB_FENCE_DID t, .ro, false⟩, ⟨FB_FENCE_TMO t, .rw, false⟩]⟩,
  ⟨0x6A08, [], fun t _ => [⟨FB_FIRST_LATE_VALID t, .w1c, false⟩, ⟨FB_FIRST_LATE_CAUSE t, .ro, false⟩, ⟨FB_FIRST_LATE_CLASP t, .ro, false⟩, ⟨FB_FIRST_LATE_DID t, .ro, false⟩]⟩,
  ⟨0x6A0C, [], fun t _ => [⟨FB_FIRST_LATE_STAMP_LO t, .ro, false⟩]⟩,
  ⟨0x6A10, [], fun t _ => [⟨FB_FIRST_LATE_STAMP_HI t, .ro, false⟩]⟩,
  ⟨0x7000, [], fun t _ => [⟨MW_ILLEGAL_VALID t, .w1c, false⟩, ⟨MW_ILLEGAL_FIELD t, .ro, false⟩, ⟨MW_ILLEGAL_ADDR t, .ro, false⟩]⟩,
  ⟨0x7004, [], fun t _ => [⟨MW_ILLEGAL_COUNT t, .rc, false⟩]⟩,
  ⟨0x20000, [(0x20, 512)], fun t x => [⟨QT_CFG_STREAM t (x 0), .ro, true⟩, ⟨QT_CFG_RESP t (x 0), .ro, true⟩, ⟨QT_CFG_DIR t (x 0), .ro, true⟩, ⟨QT_CFG_CONSUMER t (x 0), .ro, true⟩, ⟨QT_CFG_SIZE_LOG2 t (x 0), .ro, true⟩, ⟨QT_CFG_CHAN t (x 0), .ro, true⟩, ⟨QT_CFG_PLACE t (x 0), .ro, true⟩, ⟨QT_CFG_POLICY t (x 0), .ro, true⟩, ⟨QT_CFG_EN t (x 0), .ro, true⟩]⟩,
  ⟨0x20004, [(0x20, 512)], fun t x => [⟨QT_BASE t (x 0), .ro, true⟩]⟩,
  ⟨0x20008, [(0x20, 512)], fun t x => [⟨QT_PEER_LINK t (x 0), .ro, true⟩, ⟨QT_PEER_REMOTE t (x 0), .ro, true⟩, ⟨QT_PEER_DEVICE t (x 0), .ro, true⟩, ⟨QT_PEER_TILE t (x 0), .ro, true⟩, ⟨QT_PEER_INDEX t (x 0), .ro, true⟩]⟩,
  ⟨0x2000C, [(0x20, 512)], fun t x => [⟨QT_SEQ_A t (x 0), .ro, false⟩]⟩,
  ⟨0x20010, [(0x20, 512)], fun t x => [⟨QT_SEQ_B t (x 0), .ro, false⟩]⟩,
  ⟨0x20014, [(0x20, 512)], fun t x => [⟨QT_FILL t (x 0), .ro, false⟩]⟩,
  ⟨0x20018, [(0x20, 512)], fun t x => [⟨QT_CNT0_GAP t (x 0), .rc, false⟩, ⟨QT_CNT0_DUP t (x 0), .rc, false⟩]⟩,
  ⟨0x2001C, [(0x20, 512)], fun t x => [⟨QT_CNT1_BAD t (x 0), .rc, false⟩, ⟨QT_CNT1_LOST t (x 0), .rc, false⟩]⟩,
  ⟨0x24000, [], fun t _ => [⟨QUEUE_STATUS_LAST_OVF t, .ro, false⟩, ⟨QUEUE_STATUS_ALLOC t, .ro, false⟩]⟩]

-- CAP.XGROUP, CAP.XLINKS and CAP.XCOUNT exist in tile 0 only (R261).
/-- Tile registers of the acquisition unit. -/
def tileRowsCap : List RegRow := [
  ⟨0x7400, [], fun t _ => [⟨CAP_STATE_FILL t, .ro, false⟩, ⟨CAP_STATE_PCLASS t, .ro, false⟩, ⟨CAP_STATE_PVALID t, .ro, false⟩, ⟨CAP_STATE_CLASS t, .ro, false⟩, ⟨CAP_STATE_STATE t, .ro, false⟩]⟩,
  ⟨0x7404, [], fun t _ => [⟨CAP_RECORDS t, .ro, false⟩]⟩,
  ⟨0x7408, [], fun t _ => [⟨CAP_LOST t, .ro, false⟩]⟩,
  ⟨0x740C, [], fun t _ => [⟨CAP_DEAD_LO t, .ro, false⟩]⟩,
  ⟨0x7410, [], fun t _ => [⟨CAP_DEAD_HI t, .ro, false⟩]⟩,
  ⟨0x7414, [], fun t _ => [⟨CAP_MISC_SNAP_LOST t, .rc, false⟩, ⟨CAP_MISC_STRAY t, .rc, false⟩]⟩,
  ⟨0x7418, [], fun t _ => [⟨CAP_FLAGCNT_TRUNC t, .rc, false⟩, ⟨CAP_FLAGCNT_SHORT t, .rc, false⟩]⟩,
  ⟨0x7420, [], fun t _ => [⟨CAP_GROUP_SETTLE t, .rw, false⟩, ⟨CAP_GROUP_MEMBER t, .rw, true⟩]⟩,
  ⟨0x7440, [(0x4, 8)], fun t x => [⟨CAP_TIN_DROP t (x 0), .rc, false⟩, ⟨CAP_TIN_DELAY t (x 0), .rw, true⟩, ⟨CAP_TIN_POL t (x 0), .rw, true⟩]⟩,
  ⟨0x7460, [], fun t _ => [⟨CAP_LAST_W_LO t, .ro, false⟩]⟩,
  ⟨0x7464, [], fun t _ => [⟨CAP_LAST_W_HI t, .ro, false⟩]⟩]

/-- Acquisition registers of tile 0 alone (R261). -/
def tileRowsCapX : List RegRow := [
  ⟨0x7424, [], fun t _ => [⟨CAP_XGROUP_EN t, .rw, true⟩, ⟨CAP_XGROUP_DEVNUM t, .rw, true⟩]⟩,
  ⟨0x7428, [], fun t _ => [⟨CAP_XLINKS t, .rw, true⟩]⟩,
  ⟨0x742C, [], fun t _ => [⟨CAP_XCOUNT_CHECK_ERR t, .rc, false⟩, ⟨CAP_XCOUNT_RECEIVED t, .rc, false⟩]⟩]

/-- Device registers of the DEV, time, events, decision and table blocks. -/
def devRowsCore : List RegRow := [
  ⟨0x0, [], fun _ _ => [⟨DEV_IDENT_VENDOR, .ro, false⟩, ⟨DEV_IDENT_PART, .ro, false⟩]⟩,
  ⟨0x4, [], fun _ _ => [⟨DEV_STEPPING_MAJOR, .ro, false⟩, ⟨DEV_STEPPING_MINOR, .ro, false⟩]⟩,
  ⟨0x8, [], fun _ _ => [⟨DEV_STATUS_LOCKSTEP, .ro, false⟩, ⟨DEV_STATUS_TILES_RELEASED, .ro, false⟩, ⟨DEV_STATUS_IMAGE_COMMITTED, .ro, false⟩, ⟨DEV_STATUS_LANES_UP, .ro, false⟩, ⟨DEV_STATUS_QDR_B_TRAINED, .ro, false⟩, ⟨DEV_STATUS_QDR_A_TRAINED, .ro, false⟩, ⟨DEV_STATUS_DDR_B_TRAINED, .ro, false⟩, ⟨DEV_STATUS_DDR_A_TRAINED, .ro, false⟩, ⟨DEV_STATUS_CONV_CAL_DONE, .ro, false⟩, ⟨DEV_STATUS_PLL_LOCK, .ro, false⟩, ⟨DEV_STATUS_REFCLK_OK, .ro, false⟩]⟩,
  ⟨0xC, [], fun _ _ => [⟨DEV_FABRIC_CYCLE_MAX_PS, .rc, false⟩, ⟨DEV_FABRIC_CYCLE_PS, .ro, false⟩]⟩,
  ⟨0x40000, [], fun _ _ => [⟨TIME_CLK_CTRL, .rw, false⟩]⟩,
  ⟨0x40004, [], fun _ _ => [⟨TIME_CLK_STATUS_SCLK_OK, .ro, false⟩, ⟨TIME_CLK_STATUS_REFCLK_LOST, .w1c, false⟩, ⟨TIME_CLK_STATUS_LOCK_LOST, .w1c, false⟩, ⟨TIME_CLK_STATUS_LOCK, .ro, false⟩]⟩,
  ⟨0x40008, [], fun _ _ => [⟨TIME_EPOCH_CTRL, .w1s, false⟩]⟩,
  ⟨0x4000C, [], fun _ _ => [⟨TIME_EPOCH_STATUS_IGNORED, .rc, false⟩, ⟨TIME_EPOCH_STATUS_VALID, .ro, false⟩, ⟨TIME_EPOCH_STATUS_PHASE, .ro, false⟩]⟩,
  ⟨0x40010, [], fun _ _ => [⟨TIME_DESKEW, .rw, false⟩]⟩,
  ⟨0x40018, [], fun _ _ => [⟨TIME_TL_LO, .ro, false⟩]⟩,
  ⟨0x4001C, [], fun _ _ => [⟨TIME_TL_HI, .ro, false⟩]⟩,
  ⟨0x600000, [(0x4, 336)], fun _ x => [⟨DECB_SLOT_ROUND (x 0), .ro, false⟩, ⟨DECB_SLOT_LEAK (x 0), .ro, false⟩, ⟨DECB_SLOT_OVR (x 0), .ro, false⟩, ⟨DECB_SLOT_AMB (x 0), .ro, false⟩, ⟨DECB_SLOT_STATE (x 0), .ro, false⟩, ⟨DECB_SLOT_VALID (x 0), .ro, false⟩]⟩,
  ⟨0x601000, [(0x4, 64)], fun _ x => [⟨DECB_REMOTE_EN (x 0), .ro, true⟩, ⟨DECB_REMOTE_LINK (x 0), .ro, true⟩, ⟨DECB_REMOTE_SLOT (x 0), .ro, true⟩]⟩,
  ⟨0x601100, [(0x4, 64)], fun _ x => [⟨DECB_EXPORT_EN (x 0), .ro, true⟩, ⟨DECB_EXPORT_LINK (x 0), .ro, true⟩, ⟨DECB_EXPORT_SLOT (x 0), .ro, true⟩]⟩,
  ⟨0x601200, [(0x4, 32)], fun _ x => [⟨DECB_LINK_CHECK_ERR (x 0), .rc, false⟩, ⟨DECB_LINK_NOGOOD (x 0), .rc, false⟩, ⟨DECB_LINK_UNMAPPED (x 0), .rc, false⟩]⟩,
  ⟨0x602000, [(0x400, 2), (0x200, 2), (0x4, 22)], fun _ x => [⟨TABLE_CTX_KEYSEL_EN (x 0) (x 1) (x 2), .ro, true⟩, ⟨TABLE_CTX_KEYSEL_SEL (x 0) (x 1) (x 2), .ro, true⟩, ⟨TABLE_CTX_KEYSEL_SLOT (x 0) (x 1) (x 2), .ro, true⟩]⟩,
  ⟨0x602060, [(0x400, 2), (0x200, 2)], fun _ x => [⟨TABLE_CTX_CFG_TMO (x 0) (x 1), .ro, true⟩, ⟨TABLE_CTX_CFG_REGION (x 0) (x 1), .ro, true⟩, ⟨TABLE_CTX_CFG_EN (x 0) (x 1), .ro, true⟩]⟩,
  ⟨0x602064, [(0x400, 2), (0x200, 2)], fun _ x => [⟨TABLE_CTX_CTRL (x 0) (x 1), .w1s, false⟩]⟩,
  ⟨0x602068, [(0x400, 2), (0x200, 2)], fun _ x => [⟨TABLE_CTX_STATUS_ROUND (x 0) (x 1), .ro, false⟩, ⟨TABLE_CTX_STATUS_WAITING (x 0) (x 1), .ro, false⟩, ⟨TABLE_CTX_STATUS_LAST_KEY (x 0) (x 1), .ro, false⟩]⟩,
  ⟨0x60206C, [(0x400, 2), (0x200, 2)], fun _ x => [⟨TABLE_CTX_COUNT_LOOKUPS (x 0) (x 1), .rc, false⟩, ⟨TABLE_CTX_COUNT_ABANDONED (x 0) (x 1), .rc, false⟩, ⟨TABLE_CTX_COUNT_PARITY (x 0) (x 1), .rc, false⟩]⟩,
  ⟨0x30000, [], fun _ _ => [⟨EVENTS_EVT_FIRE, .wo, false⟩]⟩,
  ⟨0x30004, [], fun _ _ => [⟨EVENTS_ERR_PARITY, .rc, false⟩, ⟨EVENTS_ERR_MERGED, .rc, false⟩]⟩,
  ⟨0x30008, [], fun _ _ => [⟨EVENTS_LOOP_COUNT, .rc, false⟩, ⟨EVENTS_LOOP_FLAG, .w1c, false⟩]⟩,
  ⟨0x3000C, [], fun _ _ => [⟨EVENTS_NOTE_Q, .rw, true⟩]⟩,
  ⟨0x30010, [], fun _ _ => [⟨EVENTS_NOTE_LOST, .rc, false⟩]⟩,
  ⟨0x30014, [], fun _ _ => [⟨EVENTS_ALERT_STATE, .ro, false⟩]⟩,
  ⟨0x30100, [(0x4, 16)], fun _ x => [⟨EVENTS_STATUS (x 0), .w1c, false⟩]⟩,
  ⟨0x30200, [(0x4, 16)], fun _ x => [⟨EVENTS_NOTE_EN (x 0), .rw, true⟩]⟩,
  ⟨0x30300, [(0x40, 4), (0x4, 16)], fun _ x => [⟨EVENTS_ALERT_MASK (x 0) (x 1), .rw, true⟩]⟩,
  ⟨0x48000, [], fun _ _ => [⟨TIME_NT_LO, .ro, false⟩]⟩,
  ⟨0x48004, [], fun _ _ => [⟨TIME_NT_SNAP_CTRL, .w1s, false⟩]⟩,
  ⟨0x48008, [], fun _ _ => [⟨TIME_NT_SNAP_FRAC, .ro, false⟩]⟩,
  ⟨0x4800C, [], fun _ _ => [⟨TIME_NT_SNAP_LO, .ro, false⟩]⟩,
  ⟨0x48010, [], fun _ _ => [⟨TIME_NT_SNAP_HI, .ro, false⟩]⟩,
  ⟨0x48014, [], fun _ _ => [⟨TIME_TL_SNAP_LO, .ro, false⟩]⟩,
  ⟨0x48018, [], fun _ _ => [⟨TIME_TL_SNAP_HI, .ro, false⟩]⟩,
  ⟨0x4801C, [], fun _ _ => [⟨TIME_NT_EPOCH_FRAC, .ro, false⟩]⟩,
  ⟨0x48020, [], fun _ _ => [⟨TIME_NT_EPOCH_LO, .ro, false⟩]⟩,
  ⟨0x48024, [], fun _ _ => [⟨TIME_NT_EPOCH_HI, .ro, false⟩]⟩,
  ⟨0x48030, [], fun _ _ => [⟨TIME_NT_CMD_VAL_FRAC, .rw, false⟩]⟩,
  ⟨0x48034, [], fun _ _ => [⟨TIME_NT_CMD_VAL_LO, .rw, false⟩]⟩,
  ⟨0x48038, [], fun _ _ => [⟨TIME_NT_CMD_VAL_HI, .rw, false⟩]⟩,
  ⟨0x4803C, [], fun _ _ => [⟨TIME_NT_CMD_AT_LO, .rw, false⟩]⟩,
  ⟨0x48040, [], fun _ _ => [⟨TIME_NT_CMD_AT_HI, .rw, false⟩]⟩,
  ⟨0x48044, [], fun _ _ => [⟨TIME_NT_CMD_CANCEL, .w1s, false⟩, ⟨TIME_NT_CMD_LATE, .w1c, false⟩, ⟨TIME_NT_CMD_BUSY, .ro, false⟩, ⟨TIME_NT_CMD_EPOCH, .rw, false⟩, ⟨TIME_NT_CMD_GO, .w1s, false⟩, ⟨TIME_NT_CMD_OP, .rw, false⟩]⟩,
  ⟨0x48048, [], fun _ _ => [⟨TIME_INCR_FRAC, .ro, false⟩]⟩,
  ⟨0x4804C, [], fun _ _ => [⟨TIME_INCR_NS, .ro, false⟩]⟩,
  ⟨0x48060, [(0x8, 2)], fun _ x => [⟨TIME_ALARM_TARGET (x 0), .rw, false⟩]⟩,
  ⟨0x48064, [(0x8, 2)], fun _ x => [⟨TIME_ALARM_CTRL_FIRED (x 0), .w1c, false⟩, ⟨TIME_ALARM_CTRL_ARMED (x 0), .ro, false⟩, ⟨TIME_ALARM_CTRL_ARM (x 0), .w1s, false⟩]⟩,
  ⟨0x48080, [(0x4, 8)], fun _ x => [⟨TIME_MARK_WIDTH_M1 (x 0), .rw, false⟩, ⟨TIME_MARK_PLOG (x 0), .rw, false⟩, ⟨TIME_MARK_SRC (x 0), .rw, false⟩]⟩,
  ⟨0x1000, [], fun _ _ => [⟨DEV_RESET_KEY, .wo, false⟩, ⟨DEV_RESET_DEVICE, .w1s, false⟩]⟩,
  ⟨0x1004, [], fun _ _ => [⟨DEV_TILE_RESET, .w1s, false⟩]⟩,
  ⟨0x1008, [], fun _ _ => [⟨DEV_RESET_CAUSE_DEVICE_COUNT, .rc, false⟩, ⟨DEV_RESET_CAUSE_PREV_STORM, .w1c, false⟩, ⟨DEV_RESET_CAUSE_DEVICE, .ro, false⟩, ⟨DEV_RESET_CAUSE_POR, .ro, false⟩]⟩,
  ⟨0x100C, [], fun _ _ => [⟨DEV_BOOT_WAITING, .ro, false⟩, ⟨DEV_BOOT_GO, .w1s, false⟩, ⟨DEV_BOOT_SRC, .rw, false⟩, ⟨DEV_BOOT_SEL, .ro, false⟩]⟩,
  ⟨0x1010, [], fun _ _ => [⟨DEV_ERRLOG_HEAD, .ro, false⟩]⟩,
  ⟨0x1014, [], fun _ _ => [⟨DEV_ERRLOG_ACK, .rw, false⟩]⟩,
  ⟨0x1018, [], fun _ _ => [⟨DEV_ERRLOG_LOST, .rc, false⟩]⟩,
  ⟨0x1800, [(0x20, 64)], fun _ x => [⟨DEV_ERRLOG_W0_KIND (x 0), .ro, false⟩, ⟨DEV_ERRLOG_W0_PATH (x 0), .ro, false⟩, ⟨DEV_ERRLOG_W0_TILE (x 0), .ro, false⟩, ⟨DEV_ERRLOG_W0_DETAIL (x 0), .ro, false⟩]⟩,
  ⟨0x1804, [(0x20, 64)], fun _ x => [⟨DEV_ERRLOG_W1 (x 0), .ro, false⟩]⟩,
  ⟨0x1808, [(0x20, 64)], fun _ x => [⟨DEV_ERRLOG_W2 (x 0), .ro, false⟩]⟩,
  ⟨0x180C, [(0x20, 64)], fun _ _ => []⟩,
  ⟨0x1810, [(0x20, 64)], fun _ x => [⟨DEV_ERRLOG_W4 (x 0), .ro, false⟩]⟩,
  ⟨0x1814, [(0x20, 64)], fun _ x => [⟨DEV_ERRLOG_W5 (x 0), .ro, false⟩]⟩,
  ⟨0x1818, [(0x20, 64)], fun _ x => [⟨DEV_ERRLOG_W6 (x 0), .ro, false⟩]⟩,
  ⟨0x181C, [(0x20, 64)], fun _ x => [⟨DEV_ERRLOG_W7 (x 0), .ro, false⟩]⟩]

/-- Device registers of the transport, loader, lane, link, Ethernet and PTP blocks. -/
def devRowsHost : List RegRow := [
  ⟨0x280000, [], fun _ _ => [⟨TRANSPORT_CFG_ALLOW_EN, .rw, false⟩, ⟨TRANSPORT_CFG_JUMBO, .rw, false⟩, ⟨TRANSPORT_CFG_UDP_PORT, .rw, false⟩]⟩,
  ⟨0x280004, [], fun _ _ => [⟨TRANSPORT_TIMING_RETX, .rw, false⟩, ⟨TRANSPORT_TIMING_COALESCE, .rw, false⟩]⟩,
  ⟨0x280008, [], fun _ _ => [⟨TRANSPORT_SESSION_BUMP, .w1s, false⟩, ⟨TRANSPORT_SESSION_OWNER_PORT, .ro, false⟩, ⟨TRANSPORT_SESSION_OWNER_V6, .ro, false⟩, ⟨TRANSPORT_SESSION_OWNER_VALID, .ro, false⟩, ⟨TRANSPORT_SESSION_EPOCH, .ro, false⟩]⟩,
  ⟨0x280010, [(0x4, 4)], fun _ x => [⟨TRANSPORT_OWNER_IP (x 0), .ro, false⟩]⟩,
  ⟨0x280020, [], fun _ _ => [⟨TRANSPORT_OWNER_UDP, .ro, false⟩]⟩,
  ⟨0x280030, [], fun _ _ => [⟨TRANSPORT_IP4, .rw, false⟩]⟩,
  ⟨0x280040, [(0x4, 4)], fun _ x => [⟨TRANSPORT_IP6 (x 0), .rw, false⟩]⟩,
  ⟨0x280060, [], fun _ _ => [⟨TRANSPORT_COUNT0_ALLOW_DROP, .rc, false⟩, ⟨TRANSPORT_COUNT0_EPOCH_DROP, .rc, false⟩]⟩,
  ⟨0x280064, [], fun _ _ => [⟨TRANSPORT_COUNT1_FORMAT_DROP, .rc, false⟩, ⟨TRANSPORT_COUNT1_CRC_DROP, .rc, false⟩]⟩,
  ⟨0x280068, [], fun _ _ => [⟨TRANSPORT_COUNT2_CREDIT_ERR, .rc, false⟩, ⟨TRANSPORT_COUNT2_RETX, .rc, false⟩]⟩,
  ⟨0x280100, [(0x20, 8), (0x4, 4)], fun _ x => [⟨TRANSPORT_ALLOW_ADDR (x 0) (x 1), .rw, false⟩]⟩,
  ⟨0x280110, [(0x20, 8)], fun _ x => [⟨TRANSPORT_ALLOW_CTRL_PREFIX (x 0), .rw, false⟩, ⟨TRANSPORT_ALLOW_CTRL_V6 (x 0), .rw, false⟩, ⟨TRANSPORT_ALLOW_CTRL_EN (x 0), .rw, false⟩]⟩,
  ⟨0x280200, [(0x4, 32)], fun _ x => [⟨TRANSPORT_TXPORT_FALLBACK (x 0), .ro, false⟩, ⟨TRANSPORT_TXPORT_USE_CLAIM (x 0), .rw, false⟩, ⟨TRANSPORT_TXPORT_PORT (x 0), .rw, false⟩]⟩,
  ⟨0x700000, [], fun _ _ => [⟨LOADER_CTRL_HOST_COMP, .rw, false⟩, ⟨LOADER_CTRL_CLEAR, .w1s, false⟩, ⟨LOADER_CTRL_ABORT, .w1s, false⟩]⟩,
  ⟨0x700004, [], fun _ _ => [⟨LOADER_STATE_VERIFIED, .ro, false⟩, ⟨LOADER_STATE_SOURCE, .ro, false⟩, ⟨LOADER_STATE_STATE, .ro, false⟩]⟩,
  ⟨0x700008, [], fun _ _ => [⟨LOADER_ERROR_VALID, .w1c, false⟩, ⟨LOADER_ERROR_CAUSE, .ro, false⟩, ⟨LOADER_ERROR_SEQ, .ro, false⟩]⟩,
  ⟨0x70000C, [], fun _ _ => [⟨LOADER_IMAGE_ID, .ro, false⟩]⟩,
  ⟨0x700010, [], fun _ _ => [⟨LOADER_POINT_LO, .ro, false⟩]⟩,
  ⟨0x700014, [], fun _ _ => [⟨LOADER_POINT_HI, .ro, false⟩]⟩,
  ⟨0x700018, [], fun _ _ => [⟨LOADER_SWAP_PEND, .ro, false⟩]⟩,
  ⟨0x70001C, [], fun _ _ => [⟨LOADER_COUNT_COMMITS, .rc, false⟩, ⟨LOADER_COUNT_ERRORS, .rc, false⟩]⟩,
  ⟨0x700020, [], fun _ _ => [⟨LOADER_REJECT_VALID, .w1c, false⟩, ⟨LOADER_REJECT_PATH, .ro, false⟩, ⟨LOADER_REJECT_COUNT, .rc, false⟩]⟩,
  ⟨0x700024, [], fun _ _ => [⟨LOADER_REJECT_ADDR_LO, .ro, false⟩]⟩,
  ⟨0x700028, [], fun _ _ => [⟨LOADER_REJECT_ADDR_HI, .ro, false⟩]⟩,
  ⟨0x700030, [], fun _ _ => [⟨LOADER_STAGE_CHAN, .rw, false⟩, ⟨LOADER_STAGE_BASE, .rw, false⟩]⟩,
  ⟨0x700040, [], fun _ _ => [⟨LOADER_DEVSET, .ro, true⟩]⟩,
  ⟨0x700080, [], fun _ _ => [⟨LOADER_BOOT_INFO_FALLBACK, .ro, false⟩, ⟨LOADER_BOOT_INFO_SLOT1_VALID, .ro, false⟩, ⟨LOADER_BOOT_INFO_SLOT0_VALID, .ro, false⟩, ⟨LOADER_BOOT_INFO_SLOT, .ro, false⟩]⟩,
  ⟨0x700084, [], fun _ _ => [⟨LOADER_BOOT_GEN, .ro, false⟩]⟩,
  ⟨0x700100, [], fun _ _ => [⟨LOADER_FLASH_CTRL_BUSY, .ro, false⟩, ⟨LOADER_FLASH_CTRL_OP, .rw, false⟩, ⟨LOADER_FLASH_CTRL_GO, .w1s, false⟩]⟩,
  ⟨0x700104, [], fun _ _ => [⟨LOADER_FLASH_ADDR, .rw, false⟩]⟩,
  ⟨0x700200, [(0x4, 12)], fun _ x => [⟨LOADER_KEYHASH (x 0), .ro, false⟩]⟩,
  ⟨0x700230, [], fun _ _ => [⟨LOADER_FUSE_SIGN_REQUIRED, .ro, false⟩, ⟨LOADER_FUSE_HASH_SET, .ro, false⟩]⟩,
  ⟨0x700240, [], fun _ _ => [⟨LOADER_FUSE_PROG_BUSY, .ro, false⟩, ⟨LOADER_FUSE_PROG_PROG_SIGN, .w1s, false⟩, ⟨LOADER_FUSE_PROG_PROG_HASH, .w1s, false⟩]⟩,
  ⟨0x700250, [(0x4, 12)], fun _ x => [⟨LOADER_FUSE_DATA (x 0), .wo, false⟩]⟩,
  ⟨0x701000, [(0x4, 64)], fun _ x => [⟨LOADER_FLASH_BUF (x 0), .rw, false⟩]⟩,
  ⟨0x100000, [(0x1000, 32)], fun _ x => [⟨LANE_CFG_POL_AUTO (x 0), .rw, false⟩, ⟨LANE_CFG_RX_INV (x 0), .rw, false⟩, ⟨LANE_CFG_TX_INV (x 0), .rw, false⟩, ⟨LANE_CFG_ROLE (x 0), .rw, false⟩]⟩,
  ⟨0x100004, [(0x1000, 32)], fun _ x => [⟨LANE_CTRL_LOOP (x 0), .rw, false⟩, ⟨LANE_CTRL_READAPT (x 0), .w1s, false⟩, ⟨LANE_CTRL_RESTART (x 0), .w1s, false⟩]⟩,
  ⟨0x100008, [(0x1000, 32)], fun _ x => [⟨LANE_STATUS_PEER_IDX (x 0), .ro, false⟩, ⟨LANE_STATUS_PEER_VALID (x 0), .ro, false⟩, ⟨LANE_STATUS_POL_FAIL (x 0), .ro, false⟩, ⟨LANE_STATUS_LULL_RX (x 0), .ro, false⟩, ⟨LANE_STATUS_LULL_TX (x 0), .ro, false⟩, ⟨LANE_STATUS_READAPTING (x 0), .ro, false⟩, ⟨LANE_STATUS_FROZEN (x 0), .ro, false⟩, ⟨LANE_STATUS_HIBER (x 0), .ro, false⟩, ⟨LANE_STATUS_BLOCK_LOCK (x 0), .ro, false⟩, ⟨LANE_STATUS_STATE (x 0), .ro, false⟩]⟩,
  ⟨0x10000C, [(0x1000, 32)], fun _ x => [⟨LANE_EVT_SCAN_DONE (x 0), .w1c, false⟩, ⟨LANE_EVT_CHECK_DONE (x 0), .w1c, false⟩, ⟨LANE_EVT_PRBS_ERR (x 0), .w1c, false⟩, ⟨LANE_EVT_EYE_LOW (x 0), .w1c, false⟩, ⟨LANE_EVT_POL_FLIP (x 0), .w1c, false⟩, ⟨LANE_EVT_DOWN (x 0), .w1c, false⟩, ⟨LANE_EVT_UP (x 0), .w1c, false⟩]⟩,
  ⟨0x100010, [(0x1000, 32)], fun _ x => [⟨LANE_EVT_EN_SCAN_DONE (x 0), .rw, false⟩, ⟨LANE_EVT_EN_CHECK_DONE (x 0), .rw, false⟩, ⟨LANE_EVT_EN_PRBS_ERR (x 0), .rw, false⟩, ⟨LANE_EVT_EN_EYE_LOW (x 0), .rw, false⟩, ⟨LANE_EVT_EN_POL_FLIP (x 0), .rw, false⟩, ⟨LANE_EVT_EN_DOWN (x 0), .rw, false⟩, ⟨LANE_EVT_EN_UP (x 0), .rw, false⟩]⟩,
  ⟨0x100014, [(0x1000, 32)], fun _ x => [⟨LANE_TXEQ_SWING (x 0), .rw, false⟩, ⟨LANE_TXEQ_POST (x 0), .rw, false⟩, ⟨LANE_TXEQ_PRE (x 0), .rw, false⟩]⟩,
  ⟨0x100018, [(0x1000, 32)], fun _ x => [⟨LANE_ADAPT_READAPTS (x 0), .rc, false⟩, ⟨LANE_ADAPT_CTLE (x 0), .ro, false⟩]⟩,
  ⟨0x100020, [(0x1000, 32), (0x4, 2)], fun _ x => (List.range 4).map (fun m => ⟨LANE_DFE_TAP (x 0) (x 1) m, .ro, false⟩)⟩,
  ⟨0x100030, [(0x1000, 32)], fun _ x => [⟨LANE_EYE_CFG_MON_EN (x 0), .rw, false⟩, ⟨LANE_EYE_CFG_THR (x 0), .rw, false⟩]⟩,
  ⟨0x100034, [(0x1000, 32)], fun _ x => [⟨LANE_EYE_BELOW (x 0), .rc, false⟩, ⟨LANE_EYE_MIN (x 0), .rc, false⟩, ⟨LANE_EYE_LAST (x 0), .ro, false⟩]⟩,
  ⟨0x100040, [(0x1000, 32)], fun _ x => [⟨LANE_SCAN_CFG_BUSY (x 0), .ro, false⟩, ⟨LANE_SCAN_CFG_DONE (x 0), .w1c, false⟩, ⟨LANE_SCAN_CFG_ABORTED (x 0), .w1c, false⟩, ⟨LANE_SCAN_CFG_GO (x 0), .w1s, false⟩, ⟨LANE_SCAN_CFG_DWELL_LOG2 (x 0), .rw, false⟩, ⟨LANE_SCAN_CFG_VOFS (x 0), .rw, false⟩, ⟨LANE_SCAN_CFG_HOFS (x 0), .rw, false⟩]⟩,
  ⟨0x100044, [(0x1000, 32)], fun _ x => [⟨LANE_SCAN_BITS (x 0), .ro, false⟩]⟩,
  ⟨0x100048, [(0x1000, 32)], fun _ x => [⟨LANE_SCAN_ERR (x 0), .ro, false⟩]⟩,
  ⟨0x100050, [(0x1000, 32)], fun _ x => [⟨LANE_PCS_ERR_SYNC (x 0), .rc, false⟩, ⟨LANE_PCS_ERR_DOWNS (x 0), .rc, false⟩]⟩,
  ⟨0x100054, [(0x1000, 32)], fun _ x => [⟨LANE_CHECK_BUSY (x 0), .ro, false⟩, ⟨LANE_CHECK_DONE (x 0), .w1c, false⟩, ⟨LANE_CHECK_PASS (x 0), .ro, false⟩, ⟨LANE_CHECK_GO (x 0), .w1s, false⟩]⟩,
  ⟨0x100058, [(0x1000, 32)], fun _ x => [⟨LANE_PRBS_ERR (x 0), .rc, false⟩, ⟨LANE_PRBS_LOCKED (x 0), .ro, false⟩, ⟨LANE_PRBS_PAT (x 0), .rw, false⟩]⟩,
  ⟨0x100060, [(0x1000, 32)], fun _ x => [⟨LANE_LULL_CFG_EN (x 0), .rw, false⟩, ⟨LANE_LULL_CFG_IDLE (x 0), .rw, false⟩]⟩,
  ⟨0x100064, [(0x1000, 32)], fun _ x => [⟨LANE_LULL_COUNT_RX (x 0), .rc, false⟩, ⟨LANE_LULL_COUNT_TX (x 0), .rc, false⟩]⟩,
  ⟨0x201000, [], fun _ _ => [⟨LINKS_DEV, .rw, false⟩]⟩,
  ⟨0x200000, [(0x40, 32)], fun _ x => [⟨LINK_CFG_BASE (x 0), .rw, false⟩, ⟨LINK_CFG_WIDTH (x 0), .rw, false⟩, ⟨LINK_CFG_EN (x 0), .rw, false⟩]⟩,
  ⟨0x200004, [(0x40, 32)], fun _ x => [⟨LINK_CTRL (x 0), .w1s, false⟩]⟩,
  ⟨0x200008, [(0x40, 32)], fun _ x => [⟨LINK_STATUS_PEER_DEV (x 0), .ro, false⟩, ⟨LINK_STATUS_FAILED (x 0), .ro, false⟩, ⟨LINK_STATUS_SET (x 0), .ro, false⟩, ⟨LINK_STATUS_STATE (x 0), .ro, false⟩]⟩,
  ⟨0x20000C, [(0x40, 32)], fun _ x => [⟨LINK_EVT_TRAIN_FAIL (x 0), .w1c, false⟩, ⟨LINK_EVT_REBOND (x 0), .w1c, false⟩, ⟨LINK_EVT_DEGRADE (x 0), .w1c, false⟩, ⟨LINK_EVT_DOWN (x 0), .w1c, false⟩, ⟨LINK_EVT_UP (x 0), .w1c, false⟩]⟩,
  ⟨0x200010, [(0x40, 32)], fun _ x => (List.range 4).map (fun m => ⟨LINK_SKEW_SKEW (x 0) m, .ro, false⟩)⟩,
  ⟨0x200014, [(0x40, 32)], fun _ x => [⟨LINK_COUNT0_CRC_ERR (x 0), .rc, false⟩, ⟨LINK_COUNT0_MSG_DROP (x 0), .rc, false⟩]⟩,
  ⟨0x200018, [(0x40, 32)], fun _ x => [⟨LINK_COUNT1_DEGRADES (x 0), .rc, false⟩, ⟨LINK_COUNT1_REBONDS (x 0), .rc, false⟩, ⟨LINK_COUNT1_C0_UNSENT (x 0), .rc, false⟩]⟩,
  ⟨0x210000, [(0x40, 32)], fun _ x => [⟨ETH_CFG_VLAN_EN (x 0), .rw, false⟩, ⟨ETH_CFG_PCP (x 0), .rw, false⟩, ⟨ETH_CFG_VID (x 0), .rw, false⟩]⟩,
  ⟨0x210004, [(0x40, 32)], fun _ x => [⟨ETH_MAC_LO (x 0), .ro, false⟩]⟩,
  ⟨0x210008, [(0x40, 32)], fun _ x => [⟨ETH_MAC_HI (x 0), .ro, false⟩]⟩,
  ⟨0x21000C, [(0x40, 32)], fun _ x => [⟨ETH_TS_DELAY_RX (x 0), .rw, false⟩, ⟨ETH_TS_DELAY_TX (x 0), .rw, false⟩]⟩,
  ⟨0x210010, [(0x40, 32)], fun _ x => [⟨ETH_RX_FRAMES (x 0), .rc, false⟩]⟩,
  ⟨0x210014, [(0x40, 32)], fun _ x => [⟨ETH_TX_FRAMES (x 0), .rc, false⟩]⟩,
  ⟨0x210018, [(0x40, 32)], fun _ x => [⟨ETH_RX_ERR_FCS (x 0), .rc, false⟩, ⟨ETH_RX_ERR_DROP (x 0), .rc, false⟩]⟩,
  ⟨0x220000, [], fun _ _ => [⟨PTP_CFG_DOMAIN, .rw, false⟩, ⟨PTP_CFG_PORT, .rw, false⟩, ⟨PTP_CFG_CKSUM, .rw, false⟩, ⟨PTP_CFG_TRANSPORT, .rw, false⟩, ⟨PTP_CFG_STEP, .rw, false⟩, ⟨PTP_CFG_ROLE, .rw, false⟩, ⟨PTP_CFG_EN, .rw, false⟩]⟩,
  ⟨0x220004, [], fun _ _ => [⟨PTP_INTERVAL_ANNOUNCE_LOG, .rw, false⟩, ⟨PTP_INTERVAL_DELAY_LOG, .rw, false⟩, ⟨PTP_INTERVAL_SYNC_LOG, .rw, false⟩]⟩,
  ⟨0x220008, [], fun _ _ => [⟨PTP_QUALITY_ACCURACY, .rw, false⟩, ⟨PTP_QUALITY_CLASS, .rw, false⟩, ⟨PTP_QUALITY_PRIORITY2, .rw, false⟩, ⟨PTP_QUALITY_PRIORITY1, .rw, false⟩]⟩,
  ⟨0x220010, [], fun _ _ => [⟨PTP_CLOCK_ID_LO, .rw, false⟩]⟩,
  ⟨0x220014, [], fun _ _ => [⟨PTP_CLOCK_ID_HI, .rw, false⟩]⟩,
  ⟨0x220018, [], fun _ _ => [⟨PTP_MASTER_ID_LO, .rw, false⟩]⟩,
  ⟨0x22001C, [], fun _ _ => [⟨PTP_MASTER_ID_HI, .rw, false⟩]⟩,
  ⟨0x220020, [], fun _ _ => [⟨PTP_MASTER_SEEN_LO, .ro, false⟩]⟩,
  ⟨0x220024, [], fun _ _ => [⟨PTP_MASTER_SEEN_HI, .ro, false⟩]⟩,
  ⟨0x220030, [], fun _ _ => [⟨PTP_OFFSET_LO, .ro, false⟩]⟩,
  ⟨0x220034, [], fun _ _ => [⟨PTP_OFFSET_HI, .ro, false⟩]⟩,
  ⟨0x220038, [], fun _ _ => [⟨PTP_DELAY_LO, .ro, false⟩]⟩,
  ⟨0x22003C, [], fun _ _ => [⟨PTP_DELAY_HI, .ro, false⟩]⟩,
  ⟨0x220040, [], fun _ _ => [⟨PTP_STATUS_EXCHANGES, .rc, false⟩, ⟨PTP_STATUS_LOST, .w1c, false⟩, ⟨PTP_STATUS_NEW, .w1c, false⟩]⟩]

/-- Device registers of the compression, memory, housekeeping and thermal blocks. -/
def devRowsPorts : List RegRow := [
  ⟨0x300000, [], fun _ _ => [⟨COMP_CFG_BLOCK_KIB, .rw, false⟩, ⟨COMP_CFG_ORDER, .rw, false⟩]⟩,
  ⟨0x300004, [], fun _ _ => [⟨COMP_STATUS_DBUSY, .ro, false⟩, ⟨COMP_STATUS_CBUSY, .ro, false⟩, ⟨COMP_STATUS_DECOMP_ERR, .w1c, false⟩, ⟨COMP_STATUS_FALLBACK, .w1c, false⟩]⟩,
  ⟨0x300008, [], fun _ _ => [⟨COMP_LAST_ERR_VALID, .w1c, false⟩, ⟨COMP_LAST_ERR_CAUSE, .ro, false⟩, ⟨COMP_LAST_ERR_INST, .ro, false⟩]⟩,
  ⟨0x300100, [(0x10, 8)], fun _ x => [⟨COMP_C_BLOCKS (x 0), .rc, false⟩]⟩,
  ⟨0x300104, [(0x10, 8)], fun _ x => [⟨COMP_C_IN_KIB (x 0), .rc, false⟩]⟩,
  ⟨0x300108, [(0x10, 8)], fun _ x => [⟨COMP_C_OUT_KIB (x 0), .rc, false⟩]⟩,
  ⟨0x30010C, [(0x10, 8)], fun _ x => [⟨COMP_C_CNT_FALLBACK (x 0), .rc, false⟩, ⟨COMP_C_CNT_STORED (x 0), .rc, false⟩]⟩,
  ⟨0x300200, [(0x10, 8)], fun _ x => [⟨COMP_D_BLOCKS (x 0), .rc, false⟩]⟩,
  ⟨0x300204, [(0x10, 8)], fun _ x => [⟨COMP_D_ERR_FORMAT (x 0), .rc, false⟩, ⟨COMP_D_ERR_SHORT (x 0), .rc, false⟩, ⟨COMP_D_ERR_EXPAND (x 0), .rc, false⟩]⟩,
  ⟨0x500000, [(0x80000, 2)], fun _ x => [⟨QDR_CFG_CAP_LOG2 (x 0), .rw, false⟩, ⟨QDR_CFG_RL (x 0), .rw, false⟩, ⟨QDR_CFG_FREQ (x 0), .rw, false⟩, ⟨QDR_CFG_EN (x 0), .rw, false⟩]⟩,
  ⟨0x500004, [(0x80000, 2)], fun _ x => [⟨QDR_CTRL (x 0), .w1s, false⟩]⟩,
  ⟨0x500008, [(0x80000, 2)], fun _ x => [⟨QDR_STATUS (x 0), .ro, false⟩]⟩,
  ⟨0x50000C, [(0x80000, 2)], fun _ x => [⟨QDR_ERR_RANGE (x 0), .rc, false⟩, ⟨QDR_ERR_PARITY (x 0), .rc, false⟩]⟩,
  ⟨0x500010, [(0x80000, 2)], fun _ x => [⟨QDR_LAST_ERR_VALID (x 0), .w1c, false⟩, ⟨QDR_LAST_ERR_CLASS (x 0), .ro, false⟩, ⟨QDR_LAST_ERR_LOCATION (x 0), .ro, false⟩]⟩,
  ⟨0x500014, [(0x80000, 2)], fun _ x => [⟨QDR_C0WAIT (x 0), .rc, false⟩]⟩,
  ⟨0x400000, [(0x80000, 2)], fun _ x => [⟨DDR_CFG_SPEED (x 0), .rw, false⟩, ⟨DDR_CFG_RANKS (x 0), .rw, false⟩, ⟨DDR_CFG_DENSITY (x 0), .rw, false⟩, ⟨DDR_CFG_EN (x 0), .rw, false⟩]⟩,
  ⟨0x400004, [(0x80000, 2)], fun _ x => [⟨DDR_CTRL (x 0), .w1s, false⟩]⟩,
  ⟨0x400008, [(0x80000, 2)], fun _ x => [⟨DDR_STATUS_MR4_2X (x 0), .ro, false⟩, ⟨DDR_STATUS_CAUSE (x 0), .ro, false⟩, ⟨DDR_STATUS_STATE (x 0), .ro, false⟩]⟩,
  ⟨0x400010, [(0x80000, 2)], fun _ x => [⟨DDR_REF_MR4_US (x 0), .rw, false⟩, ⟨DDR_REF_MAXPOST (x 0), .rw, false⟩]⟩,
  ⟨0x400014, [(0x80000, 2)], fun _ x => [⟨DDR_REF_STAT_FORCED (x 0), .rc, false⟩, ⟨DDR_REF_STAT_N_MAX (x 0), .rc, false⟩]⟩,
  ⟨0x400018, [(0x80000, 2)], fun _ x => [⟨DDR_DEBT_RANK1 (x 0), .ro, false⟩, ⟨DDR_DEBT_RANK0 (x 0), .ro, false⟩]⟩,
  ⟨0x40001C, [(0x80000, 2)], fun _ x => [⟨DDR_FROST_ENTRIES (x 0), .rc, false⟩, ⟨DDR_FROST_IDLE_US (x 0), .rw, false⟩]⟩,
  ⟨0x400020, [(0x80000, 2)], fun _ x => [⟨DDR_ZQ_MAXDEFER_MS (x 0), .rc, false⟩, ⟨DDR_ZQ_INTERVAL_MS (x 0), .rw, false⟩]⟩,
  ⟨0x400024, [(0x80000, 2)], fun _ x => [⟨DDR_PARITY_ALERTS (x 0), .rc, false⟩, ⟨DDR_PARITY_REPLAY_FAIL (x 0), .rc, false⟩]⟩,
  ⟨0x400028, [(0x80000, 2)], fun _ x => [⟨DDR_RH_RFM_EN (x 0), .rw, false⟩, ⟨DDR_RH_THR (x 0), .rw, false⟩]⟩,
  ⟨0x40002C, [(0x80000, 2)], fun _ x => [⟨DDR_RH_STAT_RFM (x 0), .rc, false⟩, ⟨DDR_RH_STAT_NREF (x 0), .rc, false⟩]⟩,
  ⟨0x400030, [(0x80000, 2), (0x4, 2)], fun _ x => (List.range 8).map (fun m => ⟨DDR_ADJ_PERM (x 0) (x 1) m, .rw, false⟩)⟩,
  ⟨0x400038, [(0x80000, 2)], fun _ x => [⟨DDR_ORDER_INORDER (x 0), .rc, false⟩, ⟨DDR_ORDER_FWD (x 0), .rc, false⟩]⟩,
  ⟨0x10000, [], fun _ _ => [⟨HK_CTRL_NENT_M1, .rw, true⟩, ⟨HK_CTRL_MODE, .rw, true⟩]⟩,
  ⟨0x10004, [], fun _ _ => [⟨HK_TIMER, .rw, true⟩]⟩,
  ⟨0x10008, [], fun _ _ => [⟨HK_TRIG_DELAY_US, .rw, true⟩, ⟨HK_TRIG_SOURCE, .rw, true⟩]⟩,
  ⟨0x1000C, [], fun _ _ => [⟨HK_STATUS_ENTRY, .ro, false⟩, ⟨HK_STATUS_PATCH_ERR, .w1c, false⟩, ⟨HK_STATUS_CAL_PENDING, .ro, false⟩, ⟨HK_STATUS_INJ_PENDING, .ro, false⟩, ⟨HK_STATUS_ROUND, .ro, false⟩]⟩,
  ⟨0x10010, [], fun _ _ => [⟨HK_ROUNDS_SKIP, .rc, false⟩, ⟨HK_ROUNDS_COUNT, .rc, false⟩]⟩,
  ⟨0x10040, [(0x4, 16)], fun _ x => [⟨HK_ENTRY_T100 (x 0), .rw, true⟩, ⟨HK_ENTRY_NPLC (x 0), .rw, true⟩, ⟨HK_ENTRY_HZ (x 0), .rw, true⟩, ⟨HK_ENTRY_MODE (x 0), .rw, true⟩, ⟨HK_ENTRY_GAIN (x 0), .rw, true⟩, ⟨HK_ENTRY_NEG (x 0), .rw, true⟩, ⟨HK_ENTRY_POS (x 0), .rw, true⟩]⟩,
  ⟨0x100C0, [], fun _ _ => [⟨HK_INJ_CFG_T100, .rw, false⟩, ⟨HK_INJ_CFG_NPLC, .rw, false⟩, ⟨HK_INJ_CFG_HZ, .rw, false⟩, ⟨HK_INJ_CFG_MODE, .rw, false⟩, ⟨HK_INJ_CFG_GAIN, .rw, false⟩, ⟨HK_INJ_CFG_NEG, .rw, false⟩, ⟨HK_INJ_CFG_POS, .rw, false⟩]⟩,
  ⟨0x10080, [(0x4, 16)], fun _ x => [⟨HK_RESULT_VALID (x 0), .ro, false⟩, ⟨HK_RESULT_OVR (x 0), .ro, false⟩, ⟨HK_RESULT_CODE (x 0), .ro, false⟩]⟩,
  ⟨0x100C8, [], fun _ _ => [⟨HK_INJ_RESULT_VALID, .ro, false⟩, ⟨HK_INJ_RESULT_OVR, .ro, false⟩, ⟨HK_INJ_RESULT_CODE, .ro, false⟩]⟩,
  ⟨0x100C4, [], fun _ _ => [⟨HK_INJ_CTRL_DONE, .w1c, false⟩, ⟨HK_INJ_CTRL_PENDING, .ro, false⟩, ⟨HK_INJ_CTRL_GO, .w1s, false⟩]⟩,
  ⟨0x100D0, [], fun _ _ => [⟨HK_CAL_AUTO_S, .rw, false⟩, ⟨HK_CAL_RUNNING, .ro, false⟩, ⟨HK_CAL_GO, .w1s, false⟩]⟩,
  ⟨0x100E0, [], fun _ _ => [⟨HK_LIMIT, .w1c, false⟩]⟩,
  ⟨0x100E4, [], fun _ _ => [⟨HK_LIMIT_LAST_VALID, .w1c, false⟩, ⟨HK_LIMIT_LAST_WORD, .ro, false⟩, ⟨HK_LIMIT_LAST_ENTRY, .ro, false⟩]⟩,
  ⟨0x20000, [], fun _ _ => [⟨THERM_TEMP_VALID, .ro, false⟩, ⟨THERM_TEMP_TEMP, .ro, false⟩]⟩,
  ⟨0x20004, [], fun _ _ => [⟨THERM_RATE_VALID, .ro, false⟩, ⟨THERM_RATE_RATE, .ro, false⟩]⟩,
  ⟨0x20008, [], fun _ _ => [⟨THERM_THR_RELEASE_S, .rw, false⟩, ⟨THERM_THR_RELEASE, .rw, false⟩, ⟨THERM_THR_THROTTLE, .rw, false⟩, ⟨THERM_THR_WARN, .rw, false⟩]⟩,
  ⟨0x2000C, [], fun _ _ => [⟨THERM_STEP_MIN_STEP, .rw, false⟩, ⟨THERM_STEP_STEP, .ro, false⟩]⟩,
  ⟨0x20010, [], fun _ _ => [⟨THERM_STATUS_CAUSE, .ro, false⟩, ⟨THERM_STATUS_TEMPEST_FORCED, .ro, false⟩, ⟨THERM_STATUS_SENSOR_FAULT, .ro, false⟩, ⟨THERM_STATUS_WARN, .w1c, false⟩]⟩,
  ⟨0x20014, [], fun _ _ => [⟨THERM_CTRL, .w1s, false⟩]⟩,
  ⟨0x20018, [], fun _ _ => [⟨THERM_STORM_FLASH_BLOCKED, .ro, false⟩, ⟨THERM_STORM_DIODE_SHORT, .ro, false⟩, ⟨THERM_STORM_DIODE_OPEN, .ro, false⟩, ⟨THERM_STORM_OVERTEMP, .ro, false⟩, ⟨THERM_STORM_TRIPPED, .ro, false⟩]⟩,
  ⟨0x2001C, [], fun _ _ => [⟨THERM_COUNT_RELEASES, .rc, false⟩, ⟨THERM_COUNT_THROTTLES, .rc, false⟩]⟩,
  ⟨0x20020, [], fun _ _ => [⟨THERM_MAX, .rc, false⟩]⟩,
  ⟨0x20024, [], fun _ _ => [⟨THERM_WIN, .rw, false⟩]⟩]

/-- R88, R105 and R262: the template tables and the acquisition classes. -/
def tileRowsTables : List RegRow := [
  ⟨0x8000, [(0x800, 16), (0x10, 128), (0x4, 4)], fun t x => [⟨TONE_TPL t (x 0) (x 1) (x 2), .rw, true⟩]⟩,
  ⟨0x10000, [(0x800, 8), (0x10, 128), (0x4, 4)], fun t x => [⟨FLUX_TPL t (x 0) (x 1) (x 2), .rw, true⟩]⟩,
  ⟨0x7800, [(0x20, 32)], fun t x => [⟨CAPCLASS_SRC_FORMAT t (x 0), .rw, true⟩, ⟨CAPCLASS_SRC_CHMASK t (x 0), .rw, true⟩, ⟨CAPCLASS_SRC_AUTO t (x 0), .rw, true⟩, ⟨CAPCLASS_SRC_COMPRESS t (x 0), .rw, true⟩, ⟨CAPCLASS_SRC_COND_EN t (x 0), .rw, true⟩, ⟨CAPCLASS_SRC_RSV t (x 0), .rw, true⟩, ⟨CAPCLASS_SRC_RSV2 t (x 0), .rw, true⟩]⟩,
  ⟨0x7804, [(0x20, 32)], fun t x => [⟨CAPCLASS_LEN_PRE t (x 0), .rw, true⟩, ⟨CAPCLASS_LEN_REARM_MIN t (x 0), .rw, true⟩, ⟨CAPCLASS_LEN_RSV t (x 0), .rw, true⟩]⟩,
  ⟨0x7808, [(0x20, 32)], fun t x => [⟨CAPCLASS_POST_M1 t (x 0), .rw, true⟩, ⟨CAPCLASS_POST_RSV t (x 0), .rw, true⟩]⟩,
  ⟨0x780C, [(0x20, 32)], fun t x => [⟨CAPCLASS_COND_DCH t (x 0), .rw, true⟩, ⟨CAPCLASS_COND_POL t (x 0), .rw, true⟩, ⟨CAPCLASS_COND_OUT t (x 0), .rw, true⟩, ⟨CAPCLASS_COND_EVIN t (x 0), .rw, true⟩, ⟨CAPCLASS_COND_RSV t (x 0), .rw, true⟩]⟩,
  ⟨0x7810, [(0x20, 32)], fun t x => [⟨CAPCLASS_HI t (x 0), .rw, true⟩]⟩,
  ⟨0x7814, [(0x20, 32)], fun t x => [⟨CAPCLASS_LO t (x 0), .rw, true⟩]⟩,
  ⟨0x7818, [(0x20, 32)], fun t x => [⟨CAPCLASS_DEST_CHAN t (x 0), .rw, true⟩, ⟨CAPCLASS_DEST_SLOTS_M1 t (x 0), .rw, true⟩, ⟨CAPCLASS_DEST_QUEUE t (x 0), .rw, true⟩, ⟨CAPCLASS_DEST_SLOT_M1 t (x 0), .rw, true⟩]⟩,
  ⟨0x781C, [(0x20, 32)], fun t x => [⟨CAPCLASS_AREA_BASE t (x 0), .rw, true⟩, ⟨CAPCLASS_AREA_RSV t (x 0), .rw, true⟩]⟩]

/-- R439: the patch words of the housekeeping block. -/
def devRowsPatch : List RegRow := [⟨0x11000, [(0x4, 1024)], fun _ x => [⟨HK_PATCH (x 0), .rw, false⟩]⟩]

/-- Every row of the tile registers of tile t, R28. -/
def tileRows (t : Nat) : List RegRow :=
  tileRowsEngines ++ tileRowsData ++ tileRowsCap ++ (if t = 0 then tileRowsCapX else []) ++ tileRowsTables

/-- Every row of the device register blocks, R27. -/
def devRows : List RegRow := devRowsCore ++ devRowsHost ++ devRowsPorts ++ devRowsPatch

/-- The fields of the register at a device address; none where no register lies there. -/
def regAt (a : Nat) : Option (List FieldAcc) :=
  if a < 0x1000000 then lookupRow 0 a devRows
  else if tileBase 0 ≤ a ∧ a < tileBase 32 then
    let t := (a - tileBase 0) / 0x400000
    let off := (a - tileBase 0) % 0x400000
    if off < 0x40000 then lookupRow t off (tileRows t) else none
  else none

end Sys2Proof.Machine
end

