-- ==== Sys2Proof/Machine/House.lean ====
section
/-! DEFINITION. The housekeeping converter and its controller, the thermal rules, and Storm (spec/18). -/

namespace Sys2Proof.Machine

variable {σ : State}

def Work.hk (w : Work σ) : HkSt := w.dev.hk

def Work.updHk (w : Work σ) (f : HkSt → HkSt) : Work σ := { w with dev := { w.dev with hk := f w.dev.hk } }

/-- The word of HK.ENTRY[e] (R441). -/
def hkEntryWord (w : Work σ) (e : Nat) : Nat :=
  w.get (HK_ENTRY_POS e) + w.get (HK_ENTRY_NEG e) * 2 ^ 5 + w.get (HK_ENTRY_GAIN e) * 2 ^ 10 + w.get (HK_ENTRY_MODE e) * 2 ^ 13
    + w.get (HK_ENTRY_HZ e) * 2 ^ 14 + w.get (HK_ENTRY_NPLC e) * 2 ^ 15 + w.get (HK_ENTRY_T100 e) * 2 ^ 17

/-- The word of HK.INJ_CFG. -/
def hkInjWord (w : Work σ) : Nat :=
  w.get HK_INJ_CFG_POS + w.get HK_INJ_CFG_NEG * 2 ^ 5 + w.get HK_INJ_CFG_GAIN * 2 ^ 10 + w.get HK_INJ_CFG_MODE * 2 ^ 13
    + w.get HK_INJ_CFG_HZ * 2 ^ 14 + w.get HK_INJ_CFG_NPLC * 2 ^ 15 + w.get HK_INJ_CFG_T100 * 2 ^ 17

/-- R423: the entry measures the die diode. -/
def isDiode (word : Nat) : Bool := decide (word % 32 = 26)

/-- R423: the entry names a reserved channel; a DIODE entry ignores NEG (R430). [note 105: DESIGN CHOICE] -/
def isReserved (word : Nat) : Bool := decide (27 ≤ word % 32) || (!isDiode word && decide (27 ≤ bits word 5 5))

/-- R424, R430: the integration time of an entry word in ns. [note 105: DESIGN CHOICE] -/
def hkIntegration (word : Nat) : Nat :=
  let t := if bit word 13 then max 1 (bits word 17 10) * 100000
    else [1, 2, 5, 10].getD (bits word 15 2) 0 * (if bit word 14 then 16666667 else 20000000)
  if isDiode word then max 1000000 t else t

/-- R422: how long a conversion occupies the converter, in ns, its start-up and the auto-zero after an over-range included. -/
def hkOccupancy (word : Nat) (ovr : Bool) : Nat := 50000 + hkIntegration word + (if ovr then 100000 else 0)

/-- R431: the entry word of a thermal injection: the diode for 1 ms. -/
def thermalWord : Nat := 26 + 2 ^ 13 + 10 * 2 ^ 17

/-- R421: the gain G of an entry word; a DIODE entry ignores its own (R430). -/
def hkGain (word : Nat) : Nat := if isDiode word then 1 else 2 ^ min 5 (bits word 10 3)

/-- R423: twice the voltage in nV that a channel code presents: a ball, the internal reference, ground, or a rail through its divider;
the diode's own for its code. -/
def channelVolts (x : HkAnalog) (c : Nat) : Int :=
  if c = 16 then 2500000000
  else if c = 17 then 0
  else if 18 ≤ c ∧ c ≤ 25 then x.volts.getD c 0
  else 2 * x.volts.getD c 0

/-- R421: twice V(POS) − V(NEG) in nV; a DIODE entry ignores NEG (R430). [note 169: DESIGN CHOICE] -/
def hkVolts (x : HkAnalog) (word : Nat) : Int :=
  channelVolts x (word % 32) - (if isDiode word then 0 else channelVolts x (bits word 5 5))

/-- R421: CODE before its correction; open where V_REF is 0. [note 169: DESIGN CHOICE] -/
def rawCode (w : Work σ) (x : HkAnalog) (word : Nat) : Int × Work σ :=
  if x.vref = 0 then ((w.free 24).1, (w.free 24).2)
  else (roundQuot (2 ^ 23 * hkGain word * hkVolts x word) (2 * x.vref), w)

/-- R421: a code corrected with the offset and the gain of the last calibration: GND then gives 0 and REF its nominal code. Open
where that calibration found no difference between them. [note 169: DESIGN CHOICE] -/
def correctCode (w : Work σ) (word : Nat) (raw : Int) : Int × Work σ :=
  match w.hk.cal[Nat.log2 (hkGain word)]? with
  | none => (raw, w)
  | some (off, ref) =>
    if ref = off then ((w.free 24).1, (w.free 24).2)
    else (roundQuot ((raw - off) * (2 ^ 22 * hkGain word)) (ref - off), w)

/-- R421: the corrected code of a conversion. -/
def entryCode (w : Work σ) (x : HkAnalog) (word : Nat) : Int × Work σ :=
  correctCode (rawCode w x word).2 word (rawCode w x word).1

/-- R421: the clamped code of a conversion and whether it reports OVR. -/
def hkCode (code : Int) : Nat × Bool :=
  let c := clampI (-0x800000) 0x7FFFFF code
  (toField 24 c, decide (c = 0x7FFFFF) || decide (c = -0x800000))

/-- Whether the converter is calibrating or waits to, as HK.STATUS.CAL_PENDING shows (R429). [note 132: DEDUCED] -/
def showCal (w : Work σ) : Work σ := w.setB HK_STATUS_CAL_PENDING (w.hk.calWanted && w.on HK_INJ_CTRL_PENDING)

/-! ## Patch words (R439) -/

/-- R428: the patch words whose clasp point has come are applied, in the order staged. [note 108: DEDUCED] -/
def applyPatch (w : Work σ) : Work σ :=
  (w.each w.hk.patch (fun w x => w.set (HK_PATCH x.1) x.2)).updHk (fun h => { h with patch := [] })

/-- R439: whether a limit step is breached by the entry's code, the previous code given. -/
def breached (op : Nat) (limit code prev : Int) : Bool :=
  if op = 1 then decide (limit < code)
  else if op = 2 then decide (code < limit)
  else if op = 3 then decide (limit < ((code - prev).natAbs : Int))
  else false

/-- R439: a breach by patch word j for entry e. -/
def limitBreach (w : Work σ) (j e : Nat) (gen : Option Nat) : Work σ :=
  let w := w.setBit HK_LIMIT e true
  let w := if w.on HK_LIMIT_LAST_VALID then w
    else ((w.set HK_LIMIT_LAST_VALID 1).set HK_LIMIT_LAST_WORD j).set HK_LIMIT_LAST_ENTRY e
  w.fireHkCaused 494 gen

/-- R439: the walk of the limit steps for entry e, from word j on; n bounds the words. -/
def limitWalk (e : Nat) (code prev : Int) (gen : Option Nat) : Nat → Nat → Work σ → Work σ
  | 0, _, w => w
  | n + 1, j, w =>
    let x := w.get (HK_PATCH j)
    if popcount 32 x % 2 = 1 then (w.set HK_STATUS_PATCH_ERR 1).errlog 0x06 .hardware devTile j 0
    else if bits x 28 3 = 0 then w
    else
      let w := if bits x 24 4 = e ∧ breached (bits x 28 3) (sext 24 x) code prev then limitBreach w j e gen else w
      limitWalk e code prev gen n (j + 1) w

/-! ## Temperature and throttling (R430 to R436) -/

/-- R433: the current limit of the fabric regulators at a throttle step, in A. -/
def currentLimit (step : Nat) : Nat := 80 - 8 * min 4 step

/-- R433, R434: the step changes at the present time, and the current limit follows it. [note 62: DESIGN CHOICE] -/
def stepChanged (w : Work σ) (step : Nat) : Work σ :=
  ((w.set THERM_STEP_STEP step).emit (.currentLimit (currentLimit step))).updHk (fun h => { h with
    lastStep := some h.clock, releaseFrom := some h.clock })

/-- R436: an implausible reading; gen is the generation of the event that started its round (R272). [notes 62: DESIGN CHOICE, 107: DESIGN CHOICE] -/
def sensorFault (w : Work σ) (cause : Nat) (gen : Option Nat) : Work σ :=
  let was := w.on THERM_STATUS_SENSOR_FAULT
  let w := ((w.set THERM_STATUS_SENSOR_FAULT 1).set THERM_STATUS_CAUSE cause).fireHkCaused 490 gen
  if was then w else (w.errlog 0x09 .hardware devTile cause 0).updHk (fun h => { h with tempest := true })

/-- R434: a rate of num hundredths of a degree in den ns reaches t tenths of a degree in a second. -/
def rateReaches (num den : Int) (t : Nat) : Bool := decide ((t : Int) * 10 * den ≤ num * 1000000000)

/-- R434: the rules for a computed rate, num hundredths of a degree in den ns; gen as in R272. [note 107: DESIGN CHOICE] -/
def thermalRules (w : Work σ) (num den : Int) (gen : Option Nat) : Work σ :=
  let reaches := rateReaches num den
  let w := if reaches (w.get THERM_THR_WARN) && !w.on THERM_STATUS_WARN then (w.set THERM_STATUS_WARN 1).fireHkCaused 488 gen else w
  let h := w.hk
  let step := w.get THERM_STEP_STEP
  let low := !reaches (w.get THERM_THR_RELEASE)
  let sec := match h.lastStep with | some x => decide (x + 1000000000 ≤ h.clock) | none => true
  if reaches (w.get THERM_THR_THROTTLE) && decide (step < 4) && sec then
    (stepChanged (w.inc THERM_COUNT_THROTTLES) (step + 1)).fireHkCaused 489 gen
  else if !low then w.updHk (fun h => { h with releaseFrom := some h.clock })
  else
    match h.releaseFrom with
    | none => w.updHk (fun h => { h with releaseFrom := some h.clock })
    | some x =>
      if x + max 1 (w.get THERM_THR_RELEASE_S) * 1000000000 ≤ h.clock ∧ min 4 (w.get THERM_STEP_MIN_STEP) < step then
        (stepChanged (w.inc THERM_COUNT_RELEASES) (step - 1)).fireHkCaused 491 gen
      else w

/-- R432: WIN_MS as it acts, in ns. [note 106: DESIGN CHOICE] -/
def thermWindow (w : Work σ) : Nat :=
  let m := w.get THERM_WIN
  (if m < 50 then 50 else if 1000 < m then 1000 else m) * 1000000

/-- R432, R442: the rate of a plausible reading against the newest one at least a window older. The last digit of RATE is
open where the quotient is not whole. During a sensor fault no rule acts, and a rate that is not below RELEASE ends the release
period (R434). [note 106: DESIGN CHOICE] -/
def thermalRate (w : Work σ) (temp : Int) (gen : Option Nat) : Work σ :=
  match w.hk.readings.find? (fun r => decide (r.1 + thermWindow w ≤ w.now)) with
  | none => w
  | some (t0, temp0) =>
    let num := temp - temp0
    let den := (w.now : Int) - t0
    let (b, w) := if num * 1000000000 % den = 0 then (0, w) else w.free 1
    let w := (w.set THERM_RATE_VALID 1).set THERM_RATE_RATE (toField 16 (satS 16 (num * 1000000000 / den + b)))
    if !w.on THERM_STATUS_SENSOR_FAULT then thermalRules w num den gen
    else if rateReaches num den (w.get THERM_THR_RELEASE) then w.updHk (fun h => { h with releaseFrom := some h.clock })
    else w

/-- R430, R432, R436: a DIODE conversion has completed with a temperature in hundredths of a degree; gen is the generation of
the event that started it, if one did (R272). [note 107: DESIGN CHOICE] -/
def diodeReading (w : Work σ) (temp : Int) (ovr : Bool) (gen : Option Nat) : Work σ :=
  let twice := ovr && w.hk.prevOvr
  let w := w.updHk (fun h => { h with prevOvr := ovr, thermalDue := false })
  let jump := match w.hk.lastTemp with | some x => decide (2000 < (temp - x).natAbs) | none => false
  if temp < -4000 ∨ 15000 < temp then sensorFault w 1 gen
  else if twice then sensorFault w 2 gen
  else if jump then sensorFault w 3 gen
  else
    let w := (w.set THERM_TEMP_VALID 1).set THERM_TEMP_TEMP (toField 16 temp)
    let w := w.set THERM_MAX (toField 16 (max temp (sext 16 (w.get THERM_MAX))))
    let w := w.updHk (fun h => { h with lastTemp := some temp })
    let w := thermalRate w temp gen
    w.updHk (fun h => { h with readings := ((w.now, temp) :: h.readings).take 64 })

/-! ## The sequence (R425 to R429) -/

/-- R421: an over-range fires HK_OVR. [note 105: DESIGN CHOICE] -/
def hkOver (w : Work σ) (ovr : Bool) (gen : Option Nat) : Work σ := if ovr then w.fireHkCaused 494 gen else w

/-- What an entry reports (R421, R423); VALID tells of a conversion that has completed (R441). -/
def setResult (w : Work σ) (e code : Nat) (ovr : Bool) : Work σ :=
  (w.set (HK_RESULT_CODE e) code).setB (HK_RESULT_OVR e) ovr

/-- R425, R426: a round ends; an event latched at the start input is to start the next one. -/
def roundEnd (w : Work σ) : Work σ :=
  let gen := w.hk.gen
  let w := ((w.set HK_STATUS_ROUND 0).inc HK_ROUNDS_COUNT).fireHkCaused 492 gen
  if gen.isSome then
    w.updHk (fun h => { h with gen := none, busyInput := h.latched.isSome, acted := h.latched, latched := none })
  else w

/-- R425, R428: the next entry of the round, reserved ones skipped; n bounds the entries. [note 105: DESIGN CHOICE] -/
def nextEntry : Nat → Work σ → Work σ
  | 0, w => w
  | n + 1, w =>
    let h := w.hk
    if h.nent ≤ h.next then roundEnd w
    else
      let e := h.next
      let w := w.updHk (fun h => { h with next := e + 1 })
      if isReserved (h.words.getD e 0) then nextEntry n (hkOver (setResult w e 0 true) true h.gen)
      else (w.set HK_STATUS_ENTRY e).updHk (fun h => { h with item := some (.entry e) })

/-- R429: the host's injected conversion completes with a result. -/
def injDone (w : Work σ) (code : Nat) (ovr : Bool) : Work σ :=
  let w := (w.set HK_INJ_RESULT_CODE code).setB HK_INJ_RESULT_OVR ovr
  let w := ((w.set HK_INJ_CTRL_PENDING 0).set HK_STATUS_INJ_PENDING 0).set HK_INJ_CTRL_DONE 1
  showCal (hkOver (w.fire 493) ovr none)

/-- R426, R428: steps 1 and 3 to 6 of an entry boundary; the first entry of a round waits for its delay. -/
def hkNext (w : Work σ) : Work σ :=
  let w := applyPatch w
  let w := if !w.hk.thermalDue && w.on HK_INJ_CTRL_PENDING && isReserved (hkInjWord w) then injDone w 0 true else w
  if w.hk.thermalDue then w.updHk (fun h => { h with thermalDue := false, item := some .thermal })
  else if w.on HK_INJ_CTRL_PENDING then w.updHk (fun h => { h with item := some .inject })
  else if w.hk.calWanted then
    (w.set HK_CAL_RUNNING 1).updHk (fun h => { h with calWanted := false, item := some .calibrate })
  else if w.on HK_STATUS_ROUND ∧ w.hk.delay = 0 then nextEntry 17 w
  else w

/-- R428: while the converter is idle every instant is an entry boundary. -/
def hkKick (w : Work σ) : Work σ := if w.hk.item = none then hkNext w else w

/-- R422, R429: how long what the converter runs has occupied it when it ends, in ns. -/
def hkTime (w : Work σ) (ovr : Bool) : Nat :=
  match w.hk.item with
  | none => 0
  | some .thermal => hkOccupancy thermalWord ovr
  | some .inject => hkOccupancy (hkInjWord w) ovr
  | some .calibrate => 12600000
  | some (.entry e) => hkOccupancy (w.hk.words.getD e 0) ovr

/-- The entry word of the conversion that runs, if one does: a calibration is none. -/
def itemWord (w : Work σ) : Option Nat :=
  match w.hk.item with
  | none => none
  | some .calibrate => none
  | some .thermal => some thermalWord
  | some .inject => some (hkInjWord w)
  | some (.entry e) => some (w.hk.words.getD e 0)

/-- R421: the code of the conversion that runs; none where the converter runs none. -/
def itemCode (w : Work σ) (x : HkAnalog) : Int × Work σ :=
  match itemWord w with
  | none => (0, w)
  | some word => entryCode w x word

/-- R429: the converter has calibrated. -/
def calDone (w : Work σ) (x : HkAnalog) : Work σ :=
  ((w.set HK_CAL_RUNNING 0).fire 495).updHk (fun h => { h with
    cal := (List.range 6).map (fun i => x.cal.getD i (0, 2 ^ (22 + i))) })

/-- R421, R428, R430, R439: sequence entry e has been converted: its result, its temperature, and the walk of the limit steps. -/
def entryDone (w : Work σ) (e c : Nat) (ovr : Bool) (temp : Int) : Work σ :=
  let prev := sext 24 (w.get (HK_RESULT_CODE e))
  let gen := w.hk.gen
  let word := w.hk.words.getD e 0
  let w := hkOver ((setResult w e c ovr).set (HK_RESULT_VALID e) 1) ovr gen
  let w := if isDiode word then diodeReading w temp ovr gen else w
  let w := limitWalk e (sext 24 c) prev gen 1024 0 w
  if w.hk.nent ≤ w.hk.next then roundEnd w else w

/-- R428: what the converter ran ends, with a clamped code. -/
def itemDone (w : Work σ) (x : HkAnalog) (c : Nat) (ovr : Bool) : Option HkItem → Work σ
  | none => w
  | some .thermal => diodeReading (hkOver w ovr none) x.temp ovr none
  | some .inject =>
    let w := (injDone w c ovr).set HK_INJ_RESULT_VALID 1
    if isDiode (hkInjWord w) then diodeReading w x.temp ovr none else w
  | some .calibrate => calDone w x
  | some (.entry e) => entryDone w e c ovr x.temp

/-- R428: the conversion that runs ends under what the converter met; elapsed is the time for which it stood idle before it, in ns. -/
def entryBoundary (w : Work σ) (x : HkAnalog) (elapsed : Nat) : Work σ :=
  let (code, w) := itemCode w x
  let (c, ovr) := hkCode code
  let item := w.hk.item
  let time := elapsed + hkTime w ovr
  hkNext (itemDone (w.updHk (fun h => { h with clock := h.clock + time, delay := h.delay - time, item := none })) x c ovr item)

/-- ENTRY_BOUNDARY (R428). [note 4: DESIGN CHOICE] -/
def execEntryBoundary (x : HkAnalog) (elapsed : Nat) (s : State) : Host.Outcome State Fault Refusal :=
  run (fun w => entryBoundary w x elapsed) s

/-- R425: the mode in force: a write to HK.CTRL takes effect when the next round starts. [note 170: DEDUCED] -/
def hkMode (w : Work σ) : Nat := if w.on HK_STATUS_ROUND then w.hk.mode else w.get HK_CTRL_MODE

/-- R425, R426: a round starts under the configuration now in force, a time in ns behind the last entry boundary; one for an event begins
with its delay. -/
def roundStart (w : Work σ) (gen : Option Nat) (into : Nat) : Work σ :=
  let delay := w.get HK_TRIG_DELAY_US * 1000
  let w := (w.set HK_STATUS_ROUND 1).updHk (fun h => { h with
    nent := w.get HK_CTRL_NENT_M1 + 1, words := (List.range 16).map (hkEntryWord w), mode := w.get HK_CTRL_MODE, next := 0, gen := gen,
    delay := if gen.isNone ∨ delay = 0 then 0 else into + delay })
  hkKick w

/-- R425: a round starts: one that an event calls for, or by the mode in force. -/
def hkRoundStart (w : Work σ) (into : Nat) : Work σ :=
  if !w.on DEV_STATUS_REFCLK_OK then w
  else if w.on HK_STATUS_ROUND then (if hkMode w = 1 then w.inc HK_ROUNDS_SKIP else w)
  else
    match w.hk.acted with
    | some g => roundStart (w.updHk (fun h => { h with acted := none })) (some g) into
    | none => if hkMode w = 1 ∨ hkMode w = 3 then roundStart w none into else w

/-- HK_ROUND_START (R425). -/
def execHkRoundStart (into : Nat) (s : State) : Host.Outcome State Fault Refusal := run (fun w => hkRoundStart w into) s

/-- R426, R269: an event of a generation at the housekeeping start input. [note 60: DEDUCED] -/
def hkEvent (w : Work σ) (gen : Nat) : Work σ :=
  w.updHk (fun h =>
    if h.busyInput then
      if h.latched.isSome then { h with overrun := true, overruns := h.overruns + 1 } else { h with latched := some gen }
    else if hkMode w = 2 then { h with acted := some gen, busyInput := true }
    else h)

/-- THERMAL_INJECTION (R431): 100 ms have passed without a DIODE conversion. -/
def execThermalInjection (s : State) : Host.Outcome State Fault Refusal :=
  run (fun w => hkKick (w.updHk (fun h => { h with thermalDue := true }))) s

/-- R429: a calibration is requested. [note 132: DEDUCED] -/
def calRequest (w : Work σ) : Work σ := hkKick (showCal (w.updHk (fun h => { h with calWanted := true })))

/-- HK_CAL_AUTO (R429): AUTO_S seconds have passed since the last calibration. -/
def execHkCalAuto (s : State) : Host.Outcome State Fault Refusal :=
  run (fun w => if w.get HK_CAL_AUTO_S ≠ 0 then calRequest w else w) s

/-- R429: a write to HK.CAL. -/
def calWrite (w : Work σ) (v : Nat) : Work σ :=
  let w := w.set HK_CAL_AUTO_S (bits v 16 16)
  if bit v 0 then calRequest w else w

/-- R429: a write to HK.INJ_CTRL. -/
def injCtrlWrite (w : Work σ) (path : Path) (v : Nat) : Work σ :=
  if bit v 0 ∧ w.on HK_INJ_CTRL_PENDING then w.reject path HK_INJ_CTRL_GO.addr
  else
    let w := if bit v 2 then w.set HK_INJ_CTRL_DONE 0 else w
    if bit v 0 then hkKick (showCal ((w.set HK_INJ_CTRL_PENDING 1).set HK_STATUS_INJ_PENDING 1)) else w

/-- R429: a write to HK.INJ_CFG. -/
def injCfgWrite (w : Work σ) (path : Path) (v : Nat) : Work σ :=
  if w.on HK_INJ_CTRL_PENDING then w.reject path HK_INJ_CFG_POS.addr
  else
    let w := ((w.set HK_INJ_CFG_POS (bits v 0 5)).set HK_INJ_CFG_NEG (bits v 5 5)).set HK_INJ_CFG_GAIN (bits v 10 3)
    let w := ((w.set HK_INJ_CFG_MODE (bits v 13 1)).set HK_INJ_CFG_HZ (bits v 14 1)).set HK_INJ_CFG_NPLC (bits v 15 2)
    w.set HK_INJ_CFG_T100 (bits v 17 10)

/-- R425: a write to HK.ENTRY[e] is rejected while a round runs. -/
def hkEntryWrite (w : Work σ) (path : Path) (e v : Nat) : Work σ :=
  if w.on HK_STATUS_ROUND then w.reject path (HK_ENTRY_POS e).addr
  else
    let w := ((w.set (HK_ENTRY_POS e) (bits v 0 5)).set (HK_ENTRY_NEG e) (bits v 5 5)).set (HK_ENTRY_GAIN e) (bits v 10 3)
    let w := ((w.set (HK_ENTRY_MODE e) (bits v 13 1)).set (HK_ENTRY_HZ e) (bits v 14 1)).set (HK_ENTRY_NPLC e) (bits v 15 2)
    w.set (HK_ENTRY_T100 e) (bits v 17 10)

/-- R331, R440: a direct write to the patch area. -/
def patchWrite (w : Work σ) (path : Path) (j v : Nat) : Work σ :=
  if w.fuse.signRequired ∨ w.get HK_CTRL_MODE ≠ 0 ∨ w.hk.item ≠ none then w.reject path (HK_PATCH j).addr
  else w.set (HK_PATCH j) v

/-! ## The sensor fault (R436) and Storm (R437) -/

/-- TEMPEST_FORCED (R436): 5 s have passed since the fault without a CLEAR. -/
def execTempestForced (s : State) : Host.Outcome State Fault Refusal :=
  run (fun w =>
    if w.on THERM_STATUS_SENSOR_FAULT ∧ w.hk.tempest then
      ((stepChanged w 4).set THERM_STATUS_TEMPEST_FORCED 1).updHk (fun h => { h with tempest := false })
    else w) s

/-- R436: a write of THERM.CTRL.CLEAR. [note 119: DESIGN CHOICE] -/
def thermClear (w : Work σ) : Work σ :=
  ((w.set THERM_STATUS_SENSOR_FAULT 0).set THERM_STATUS_TEMPEST_FORCED 0).updHk (fun h => { h with
    tempest := false, readings := [] })

/-- The tile windows: registers, memories, and the internal state of the tiles. [note 109: DESIGN CHOICE] -/
def tileKeys : List (Nat × Nat) := [(tileBase 0 * 32, tileBase 32 * 32), (hidKey 0, hidKey 32)]

/-- R437: the tiles lose their state. [note 109: DESIGN CHOICE] -/
def loseTiles (w : Work σ) : Work σ :=
  let w := (w.wipeRegs tileKeys).wipeMem [(tileBase 0, tileBase 32)]
  { w with dev := { w.dev with tiles := Vector.replicate 32 Tile.reset } }

/-- The n balls of a group at level 0. -/
def zeroBalls (w : Work σ) (name : String) (n : Nat) : Work σ := w.each (List.range n) (fun w i => w.emit (.ball name i 0))

/-- R437: Storm trips: 0 overtemperature, 1 the diode open, 2 the diode shorted.
[notes 14: DESIGN CHOICE, 109: DESIGN CHOICE] -/
def stormTrip (w : Work σ) (cause : Nat) : Work σ :=
  let w := if cause = 0 then w.set THERM_STORM_OVERTEMP 1
    else if cause = 1 then w.set THERM_STORM_DIODE_OPEN 1 else w.set THERM_STORM_DIODE_SHORT 1
  if w.on THERM_STORM_TRIPPED then w
  else
    let w := stormFlash (loseTiles (w.set THERM_STORM_TRIPPED 1))
    let w := ((w.set DEV_STATUS_TILES_RELEASED 0).set DEV_FABRIC_CYCLE_PS 0).emit (.ball "THERM_TRIP_N" 0 0)
    let w := zeroBalls (zeroBalls (zeroBalls w "XY_OUT" 64) "PROBE_OUT" 32) "FX_OUT" 256
    zeroBalls (w.each (List.range 32) (fun w n => w.set (LANE_TX n) 0)) "SER_TX" 32

/-- STORM_TRIP (R437). -/
def execStormTrip (cause : Fin 3) (s : State) : Host.Outcome State Fault Refusal := run (fun w => stormTrip w cause) s

end Sys2Proof.Machine
end

