-- ==== Sys2Proof/Machine/Run.lean ====
section
/-! DEFINITION. The life of a tile around its program: release (R50, R216), code swaps (R320), tile reset (R446), and events
at their consumers (R269). -/

namespace Sys2Proof.Machine

variable {σ : State}

/-! ## Release (R50, R114, R154, R166, R216) -/

/-- R154: datapath state at a release. -/
def dspClear (w : Work σ) (t : Nat) : Work σ :=
  let w := w.each (List.range 8) (fun w v => w.each (List.range 4) (fun w j => w.set (DSP_V t v j) 0))
  let w := w.each (List.range 4) (fun w n =>
    let w := ((w.set (DSP_ACC t n) 0).set (DSP_ACC_HI_TAINT t n) 0).set (DSP_ACC_HI_HOLD t n) 0
    let w := ((w.set (DSP_SIDX t n) 0).set (SEARCH_BASE t n) 0).set (DSP_AGU_P t n) 0
    ((w.set (DSP_AGU_M t n) 0).set (DSP_AGU_B t n) 0).set (DSP_AGU_L t n) 0)
  let w := ((w.set (DSP_VTAG t) 0).set (DSP_FLAGS_IDX t) 0).set (DSP_FLAGS_N t) 0
  (w.set (DSP_FLAGS_Z t) 0).updTile t (fun x => { x with dspIn := [] })

/-- R166: watchers at a release. -/
def watchersClear (w : Work σ) (t : Nat) : Work σ :=
  let w := w.each (List.range 16) (fun w d =>
    (watchClear (w.each (List.range 4) (fun w i => w.set (WATCH_KEY_EXPECT t d i) 0)) t d).updWatch t d
      (fun _ => Watch.reset))
  (w.set (FB_FENCE_WAITING t) 0).updTile t (fun x => { x with arms := [] })

/-- R216, R272: the sequencer's registers and the pending latches of the tile's inputs at a release. -/
def seqClear (w : Work σ) (t : Nat) : Work σ :=
  let w := w.each (List.range 16) (fun w i =>
    (w.set (EVPORT_PEND_GEN_SET t (i / 8) (i % 8)) 0).set (EVPORT_PEND_GEN_GEN t (i / 8) (i % 8)) 0)
  let w := (w.set (EVPORT_GEN_CUR_VALID t) 0).set (EVPORT_GEN_CUR t) 0
  let w := w.each (List.range 4) (fun w n => w.set (SEQ_LC t n) 0)
  let w := ((w.set (SEQ_SP t) 0).set (SEQ_STATE_ACTIVE t) 0).set (SEQ_STATE_STEPPING t) 0
  (w.set (SEQ_CTRL_STOP t) 0).updSeq t (fun s => { SeqSt.reset with cursor := s.cursor, next := s.next })

/-- R45: since a release no clasp has admitted anything. -/
def histClear (w : Work σ) (t : Nat) : Work σ :=
  w.updTile t (fun x => { x with clasps := x.clasps.map (fun k => { k with hist := [] }) })

/-- The run state that a release gives (R45, R114, R154, R166, R216). -/
def runClear (w : Work σ) (t : Nat) : Work σ :=
  let w := histClear (watchersClear (dspClear (seqClear w t) t) t) t
  w.each (List.range 8) (fun w k => w.set (RD_STATUS_ROUND t k) 0)

/-- R50, R216, R217: tile t is released at clasp point p. [notes 8: DEDUCED, 92: DEDUCED] -/
def releaseTile (w : Work σ) (t p : Nat) : Work σ :=
  let start := w.get (SEQ_CFG_START t)
  let w := ((runClear w t).updSeq t (fun s => { s with cursor := p + 64, next := start })).set (SEQ_MODE t) (w.get (SEQ_CFG_BRINGUP t))
  let w := ((w.set (SEQ_HALT_INFO_CAUSE t) 0).set (SEQ_HALT_INFO_ADDR t) 0).set (SEQ_HALT_INFO_PARGRP t) 0
  ((w.set (SEQ_RESTART t) start).set (SEQ_STATE_STATE t) RUN).set DEV_STATUS_TILES_RELEASED 1

/-! ## Code swaps (R314, R320, R410) -/

/-- The control store of tile t (R28). -/
def csBase (t : Nat) : Nat := tileBase t + 0x40000

/-- R314: where the words staged for tile t lie in DDR5. [note 113: DEDUCED] -/
def stageAddr (w : Work σ) (t a : Nat) : Nat :=
  ddrBase (w.get LOADER_STAGE_CHAN) + w.get LOADER_STAGE_BASE * 4096 + t * 0x20000 + a * 32

/-- R410: a word whose four parity bits are inverted. [note 91: DEDUCED] -/
def badParity (v : Nat) : Nat :=
  v * 16 + (List.range 4).foldl (fun m g => if popcount 55 (bits v (55 * g) 55) % 2 = 0 then m + 2 ^ g else m) 0

/-- R320: the staged words of tile t copied into its control store, and no longer staged. A word that a faulted channel does not
return is written with bad parity (R410). [note 91: DEDUCED] -/
def swapCopy (w : Work σ) (t : Nat) : Work σ :=
  let faulted := decide (w.get (DDR_STATUS_STATE (w.get LOADER_STAGE_CHAN)) = 4)
  let w := w.each (w.ld.code.filter (fun c => decide (c.1 = t))) (fun w c =>
    if faulted then
      let (v, w) := w.free 220
      w.wrLe (csBase t + 32 * c.2) 28 (badParity v)
    else (ddrTraffic w 1 false (stageAddr w t c.2) 32).wrBytes (csBase t + 32 * c.2) (w.rdBytes (stageAddr w t c.2) 28))
  (w.updLd (fun l => { l with code := l.code.filter (fun c => !decide (c.1 = t)) })).setBit LOADER_SWAP_PEND t false

/-- R320: the loader leaves SWAPPING once no swap is pending. -/
def swapsOver (w : Work σ) : Work σ :=
  if ldState w = LD_SWAPPING ∧ w.get LOADER_SWAP_PEND = 0 then loaderIdle w else w

/-- R320: START of the new setting, which is staged until the clasp point. [note 128: DEDUCED] -/
def newStart (w : Work σ) (t : Nat) : Nat :=
  match w.ld.shadows.find? (fun s => decide (s.1 = SEQ_CFG_START t)) with
  | some s => s.2
  | none => w.get (SEQ_CFG_START t)

/-- R320: at step 10 of the swap word the sequencer stalls for the copy. -/
def codeSwap (w : Work σ) (t : Nat) : Work σ :=
  match (w.seq t).cur with
  | none => w
  | some c =>
    if leader w t = t ∧ c.todo.head? = some .seq ∧ swapDue w t c ∧ !(w.seq t).swapping ∧
        (members w t).all (fun m => decide (m = t) ||
          (match (w.seq m).cur with | some x => decide (x.todo = []) | none => true)) then
      w.updSeq t (fun s => { s with swapping := true })
    else w

/-- CODE_SWAP (R320). -/
def execCodeSwap (t : Fin 32) (s : State) : Host.Outcome State Fault Refusal := run (fun w => codeSwap w t) s

/-- R320: the copy at a swap word completes: the stack is empty, the routine has ended, and the program goes on at START. -/
def swapDone (w : Work σ) (t : Nat) : Work σ :=
  let w := w.each (members w t) swapCopy
  let w := (endRoutine w t).set (SEQ_SP t) 0
  let start := newStart w t
  let w := w.updSeq t (fun s => { s with
    swapping := false, cur := s.cur.map (fun c => { c with succ := start, todo := [] }) })
  settle (swapsOver w) t

/-- R320: a tile that is not in RUN takes its words when it is first HALTED at or after P. [note 49: DEDUCED] -/
def swapHalted (w : Work σ) (t : Nat) : Work σ :=
  let state := w.get (SEQ_STATE_STATE t)
  if w.getBit LOADER_SWAP_PEND t ∧ ldState w = LD_SWAPPING ∧ (state = HALTED ∨ state = NOT_RELEASED) ∧
      !w.on (SEQ_STATE_STEPPING t) ∧ !(w.seq t).cutPending then
    let w := swapCopy w t
    swapsOver (w.set (SEQ_RESTART t) (w.get (SEQ_CFG_START t)))
  else w

/-- CODE_SWAP_COPY_DONE (R320). -/
def execCodeSwapCopyDone (t : Fin 32) (s : State) : Host.Outcome State Fault Refusal :=
  run (fun w => if (w.seq t).swapping then swapDone w t else swapHalted w t) s

/-! ## Tile reset (R446) -/

/-- R446: a write to DEV.TILE_RESET. [note 111: DEDUCED] -/
def tileResetWrite (w : Work σ) (path : Path) (v : Nat) : Work σ :=
  if lockstep w ∧ v ≠ 0xFFFFFFFF then w.ignored path DEV_TILE_RESET
  else
    let named := (List.range 32).filter (fun t => bit v t)
    let ok := fun t => decide (w.get (SEQ_STATE_STATE t) = HALTED) || decide (w.get (SEQ_STATE_STATE t) = NOT_RELEASED)
    let w' := w.each (named.filter ok) (fun w t => (w.set (TRST t) 1).errlog 0x0A path t 2 DEV_TILE_RESET.addr)
    if named.all ok then w' else w'.ignored path DEV_TILE_RESET

/-- R446: an accepted reset acts once the acquisition unit is out of RECORDING and REARM and no earlier abort is busy: the tile
aborts from frame 0, and when the abort has completed it is NOT_RELEASED with the run state of a release. TILES_RELEASED (R31)
falls with the last tile. [note 111: DEDUCED] -/
def tileResetComplete (w : Work σ) (t : Nat) : Work σ :=
  if w.on (TRST t) ∧ capState w t ≠ RECORDING ∧ capState w t ≠ REARM ∧ !w.on (CLASP_ABORT_CTRL_BUSY t) then
    let w := abandonWindows (abortComplete ((abortFrom w t 0).updSeq t (fun s => { s with cutPending := false })) t) t
    let w := (capIdle w t).updCap t (fun u => { u with garms := [], future := [] })
    let w := if w.getBit LOADER_SWAP_PEND t then swapsOver (swapCopy w t) else w
    let w := ((runClear w t).set (SEQ_STATE_STATE t) NOT_RELEASED).set (TRST t) 0
    if (List.range 32).all (fun t => decide (w.get (SEQ_STATE_STATE t) = NOT_RELEASED)) then
      w.set DEV_STATUS_TILES_RELEASED 0
    else w
  else w

/-- TILE_RESET_COMPLETE (R446). -/
def execTileResetComplete (t : Fin 32) (s : State) : Host.Outcome State Fault Refusal :=
  run (fun w => tileResetComplete w t) s

/-! ## Events at their consumers (R265, R269) -/

def sinkConsumer : Sink → Consumer
  | .input t i => .input t i
  | .note => .note
  | .hkStart => .hkStart

/-- R269: an event acts at a consumer. -/
def consume (w : Work σ) (c : Consumer) (m : EventMsg) : Work σ :=
  match c with
  | .input t i => latchInput (capObserve w t i m.gen) t i m.gen
  | .note => noteArrive w m
  | .hkStart => hkEvent w m.gen

/-- R265, R267, R269, R319: the first event of a source that is on its way to a consumer passes its arbiter, or fails its parity check,
where the consumer hears the source at that moment. [note 60: DEDUCED] -/
def arriveOne (w : Work σ) (c : Consumer) (src : Nat) (parityOk : Bool) : Work σ :=
  match w.dev.flight.find? (fun m => decide (m.src = src) && m.to_.contains c) with
  | none => w
  | some m =>
    let rest := w.dev.flight.eraseP (fun m => decide (m.src = src) && m.to_.contains c)
    let left := m.to_.erase c
    let w : Work σ := { w with dev := { w.dev with flight := if left = [] then rest else { m with to_ := left } :: rest } }
    if !hears w src c then w
    else if parityOk then consume w c m
    else
      (w.inc EVENTS_ERR_PARITY).errlog 0x04 .hardware (match c with | .input t _ => t | _ => devTile) src 0

/-- R270: an arrival put among others in ascending source number. -/
def putArrival (x : Nat × Bool) : List (Nat × Bool) → List (Nat × Bool)
  | [] => [x]
  | y :: ys => if x.1 < y.1 then x :: y :: ys else y :: putArrival x ys

/-- R270: the events that reach a consumer in one handshake cycle, each with the result of its parity check, pass its arbiter in ascending
source number. -/
def eventArrival (w : Work σ) (c : Consumer) (xs : List (Nat × Bool)) : Work σ :=
  w.each (xs.foldl (fun l x => putArrival x l) []) (fun w x => arriveOne w c x.1 x.2)

/-- EVENT_ARRIVAL (R269). -/
def execEventArrival (sink : Sink) (src : Fin 512) (parityOk : Bool) (others : List (Fin 512 × Bool)) (s : State) :
    Host.Outcome State Fault Refusal :=
  run (fun w => eventArrival w (sinkConsumer sink) ((src.val, parityOk) :: others.map (fun x => (x.1.val, x.2)))) s

end Sys2Proof.Machine
end

