-- ==== Sys2Proof/Machine/Start.lean ====
section
/-! DEFINITION. Resets and the start-up order (spec/19), and the clocks (R33, R34, R57). -/

namespace Sys2Proof.Machine

variable {σ : State}

/-! ## What a reset leaves -/

/-- R444: the levels at the balls while PORESET_N is low and at the start of a device reset. [note 110: DEDUCED] -/
def resetBalls (w : Work σ) : Work σ :=
  let w := zeroBalls (zeroBalls (zeroBalls w "XY_OUT" 64) "PROBE_OUT" 32) "FX_OUT" 256
  let w := zeroBalls (zeroBalls w "SER_TX" 32) "MARK_OUT" 8
  (w.each (List.range 4) (fun w a => w.emit (.ball "ALERT_N" a 1))).emit (.ball "BOOT_CS_N" 0 1)

/-- R326: a reset takes the flash interface from an operation: what the bytes that it was changing hold is open.
[notes 85: DESIGN CHOICE, 112: DEDUCED] -/
def flashCut (w : Work σ) : Work σ :=
  match w.ld.flashOp with
  | none => w
  | some (op, a) =>
    let (lo, n) := if op = 1 then (a / 65536 * 65536, 65536) else if op = 2 then (a / 256 * 256, 256) else (0, 0)
    w.each (List.range n) (fun w i => w.flSet (lo + i) (BitVec.ofNat 8 (Config.flashByte (lo + i) w.ld.flashOps)))

/-- R384: PTP.CLOCK_ID as derived from the fuse-held MAC base, in the EUI-64 form. [note 11: PRESUMED] -/
def clockIdFromFuse (w : Work σ) : Work σ :=
  let m := w.fuse.mac
  (w.set PTP_CLOCK_ID_HI (m / 2 ^ 24 * 2 ^ 8 + 0xFF)).set PTP_CLOCK_ID_LO (0xFE * 2 ^ 24 + m % 2 ^ 24)

/-- R448: BOOT_SEL sampled. [note 12: DESIGN CHOICE] -/
def sampleBoot (w : Work σ) (sel : Nat) : Work σ :=
  let w := (w.set DEV_BOOT_SEL sel).setB DEV_BOOT_WAITING (decide (2 ≤ sel))
  let w := w.updLd (fun l => { l with boot := if sel = 0 then .flash else if sel = 1 then .open_ else .closed })
  if sel = 3 then w.ignored .hardware DEV_BOOT_SEL else w

/-! ## Power-on (R443, R447, R449) -/

/-- R443, R447: PORESET_N low: the whole device resets but for the fuses, PREV_STORM and the Storm latch; SCLK_IN stays as it is.
[notes 14: DESIGN CHOICE, 110: DEDUCED, 112: DEDUCED] -/
def poresetAssert (w : Work σ) : Work σ :=
  let storm := [THERM_STORM_TRIPPED, THERM_STORM_OVERTEMP, THERM_STORM_DIODE_OPEN, THERM_STORM_DIODE_SHORT, SCLK_PRESENT].map
    (fun f => (f, w.get f))
  let prev := w.on DEV_RESET_CAUSE_PREV_STORM || w.on THERM_STORM_TRIPPED
  let w := ((flashCut w).wipeRegs [(0, 2 ^ 60)]).wipeMem [(0, 2 ^ 40)]
  let w : Work σ := { w with dev := Dev.reset, tlc := .stop }
  let w := w.each storm (fun w f => w.set f.1 f.2)
  (resetBalls ((w.setB DEV_RESET_CAUSE_PREV_STORM prev).set PORESET_LOW 1)).emit (.currentLimit (currentLimit 0))

/-- PORESET_ASSERT (R443). -/
def execPoresetAssert (s : State) : Host.Outcome State Fault Refusal := run poresetAssert s

/-- R437, R448, R449: PORESET_N rises: BOOT_SEL is sampled, and Storm is released unless a trip condition holds.
[note 120: DESIGN CHOICE] -/
def poresetRelease (w : Work σ) (sel : Nat) (trip : Bool) : Work σ :=
  let w := if trip then w else
    let was := w.on THERM_STORM_TRIPPED
    let w := w.each [THERM_STORM_TRIPPED, THERM_STORM_OVERTEMP, THERM_STORM_DIODE_OPEN, THERM_STORM_DIODE_SHORT,
      THERM_STORM_FLASH_BLOCKED] (fun w f => w.set f 0)
    if was then w.emit (.ball "THERM_TRIP_N" 0 1) else w
  sampleBoot (clockIdFromFuse (w.set PORESET_LOW 0)) sel

/-- PORESET_RELEASE (R449). -/
def execPoresetRelease (sel : Fin 4) (trip : Bool) (s : State) : Host.Outcome State Fault Refusal :=
  run (fun w => poresetRelease w sel trip) s

/-- VDDA_18_POWER_UP (R447). [note 120: DESIGN CHOICE] -/
def execVdda18PowerUp (s : State) : Host.Outcome State Fault Refusal :=
  run (fun w => w.set DEV_RESET_CAUSE_PREV_STORM 0) s

/-- R449: lanes with a role begin bring-up. -/
def lanesBegin (w : Work σ) : Work σ :=
  w.each (List.range 32) (fun w n =>
    if w.get (LANE_CFG_ROLE n) ≠ 0 ∧ laneState w n = 0 then laneStart w n else w)

/-- REFCLK_DETECT (R449): the step begins at reset release. -/
def execRefclkDetect (s : State) : Host.Outcome State Fault Refusal :=
  run (fun w => if w.on DEV_STATUS_REFCLK_OK ∨ w.on PORESET_LOW then w else lanesBegin (w.set DEV_STATUS_REFCLK_OK 1)) s

/-! ## Clocks (R33, R34, R57) -/

/-- R34: the converter PLL is no longer locked: the outputs are unspecified until PORESET_N. -/
def lockLost (w : Work σ) : Work σ :=
  if w.on DEV_STATUS_PLL_LOCK then
    ((w.set DEV_STATUS_PLL_LOCK 0).set TIME_CLK_STATUS_LOCK_LOST 1).set CONV_LOST 1
  else w

/-- REFCLK_LOSS (R34). -/
def execRefclkLoss (s : State) : Host.Outcome State Fault Refusal :=
  run (fun w => if w.on DEV_STATUS_REFCLK_OK then
    ((((lockLost w).set DEV_STATUS_REFCLK_OK 0).set TIME_CLK_STATUS_REFCLK_LOST 1).set CONV_LOST 1).fire 496 else w) s

/-- PLL_LOCK_LOSS (R34). -/
def execPllLockLoss (s : State) : Host.Outcome State Fault Refusal :=
  run (fun w => if w.on DEV_STATUS_PLL_LOCK then (lockLost w).fire 496 else w) s

/-- R449: the converter PLL is locked. -/
def pllLocked (w : Work σ) : Work σ := if w.on DEV_STATUS_REFCLK_OK then w.set DEV_STATUS_PLL_LOCK 1 else w

/-- R83, R127, R449: foreground calibration counts as a completed cycle of every converter. -/
def foregroundDone (w : Work σ) : Work σ :=
  if w.on DEV_STATUS_PLL_LOCK ∧ !w.on DEV_STATUS_CONV_CAL_DONE then
    (w.set DEV_STATUS_CONV_CAL_DONE 1).each (List.range 32) (fun w t =>
      let w := w.each (List.range 4) (fun w d => w.set (CAL_LAST t d) w.dev.ticks)
      (w.each (List.range 3) (fun w d => w.set (DAC_CAL_CAL_STALE t d) 0)).set (ADC_CAL_CAL_STALE t) 0)
  else w

/-- R33, R57: a write to TIME.CLK_CTRL. [note 26: DEDUCED] -/
def clkCtrlWrite (w : Work σ) (path : Path) (v : Nat) : Work σ :=
  if v % 2 = w.get TIME_CLK_CTRL then w
  else if w.on DEV_STATUS_TILES_RELEASED then w.ignored path TIME_CLK_CTRL
  else
    let w := ((w.set TIME_CLK_CTRL v).set DEV_STATUS_PLL_LOCK 0).set DEV_STATUS_CONV_CAL_DONE 0
    let w := (w.setB TIME_CLK_STATUS_SCLK_OK (decide (v % 2 = 1) && w.on SCLK_PRESENT)).set TIME_EPOCH_STATUS_VALID 0
    { w with tlc := .stop, dev := { w.dev with epochZero := none } }

/-- SCLK_IN_LOSS (R57). -/
def execSclkInLoss (s : State) : Host.Outcome State Fault Refusal :=
  run (fun w => (w.set SCLK_PRESENT 0).set TIME_CLK_STATUS_SCLK_OK 0) s

/-- SCLK_IN_DETECT (R57). -/
def execSclkInDetect (s : State) : Host.Outcome State Fault Refusal :=
  run (fun w => (w.set SCLK_PRESENT 1).setB TIME_CLK_STATUS_SCLK_OK (w.on TIME_CLK_CTRL)) s

/-- R31, R449: the handshake cycle measured, in ps, once the regulators have reached their setpoint.
[note 129: DESIGN CHOICE] -/
def fabricMeasure (w : Work σ) (ps max_ : Nat) : Work σ :=
  let m := max (max ps max_) (w.get DEV_FABRIC_CYCLE_MAX_PS)
  (w.set DEV_FABRIC_CYCLE_PS ps).set DEV_FABRIC_CYCLE_MAX_PS m

/-- FABRIC_SETPOINT_REACHED (R449). [note 4: DESIGN CHOICE] -/
def execFabricSetpointReached (ps : Fin 1024) (s : State) : Host.Outcome State Fault Refusal :=
  run (fun w => if w.on THERM_STORM_TRIPPED ∨ w.on PORESET_LOW then w else fabricMeasure (w.set FABRIC_UP 1) ps 0) s

/-! ## Device reset (R445) -/

/-- R445: a write to DEV.RESET. -/
def devResetWrite (w : Work σ) (path : Path) (v : Nat) : Work σ :=
  if v = 0xA5000001 then w.set RESET_REQ (1 + path.code)
  else if bit v 0 then w.ignored path DEV_RESET_DEVICE
  else w

/-- R445: the registers outside the always-on domain: all but housekeeping and thermal, RESET_CAUSE, the error log, the flash
interface, and what shows REFCLK, the fabric's cycle and the outputs' loss. -/
def deviceRanges : List (Nat × Nat) :=
  [(0, 0x1008), (0x100C, 0x1010), (0x101C, 0x1800), (0x2000, 0x10000), (0x30000, 0x700100), (0x700108, 0x701000),
    (0x701100, 2 ^ 40)].map (fun r => (r.1 * 32, r.2 * 32)) ++ [(hidKey 0, hidKey hidOn)]

def pathOf (code : Nat) : Path := if code = 0 then .genond else if code = 1 then .mgt else if code = 2 then .jtag else .hardware

/-- R445: the device reset that a write has requested begins; the ages of the converters' calibration are 0 (R86, R129). [notes 14: DESIGN CHOICE, 110: DEDUCED] -/
def deviceReset (w : Work σ) (sel : Nat) : Work σ :=
  if !w.on RESET_REQ then w
  else
    let w := w.errlog 0x0A (pathOf (w.get RESET_REQ - 1)) devTile 1 DEV_RESET_DEVICE.addr
    let w := ((w.inc DEV_RESET_CAUSE_DEVICE_COUNT).set DEV_RESET_CAUSE_DEVICE 1).set DEV_RESET_CAUSE_POR 0
    let kept := [DEV_STATUS_REFCLK_OK, DEV_FABRIC_CYCLE_PS, CONV_LOST].map (fun f => (f, w.get f))
    let old := w.dev
    let w := (w.wipeRegs deviceRanges).wipeMem [(0, 2 ^ 40)]
    let w : Work σ := { w with
      tlc := .stop
      dev := { Dev.reset with
        ticks := old.ticks, hk := { old.hk with patch := [] }, port := old.port, out := old.out
        loader := { LoaderSt.reset with flashOp := old.loader.flashOp, flashOps := old.loader.flashOps } } }
    let w := (w.each kept (fun w f => w.set f.1 f.2)).set RESET_REQ 0
    let w := w.each (List.range 32) (fun w t => w.each (List.range 4) (fun w d => w.set (CAL_LAST t d) w.dev.ticks))
    let w := sampleBoot (clockIdFromFuse (resetBalls w)) sel
    if w.on DEV_STATUS_REFCLK_OK then lanesBegin w else w

/-- DEVICE_RESET (R445). -/
def execDeviceReset (sel : Fin 4) (s : State) : Host.Outcome State Fault Refusal := run (fun w => deviceReset w sel) s

/-- R448: a write to DEV.BOOT. -/
def bootWrite (w : Work σ) (path : Path) (v : Nat) : Work σ :=
  let w := w.set DEV_BOOT_SRC (bits v 2 1)
  if bit v 3 then
    if w.on DEV_BOOT_WAITING then
      loaderPull ((w.set DEV_BOOT_WAITING 0).updLd (fun l => { l with boot := if w.on DEV_BOOT_SRC then .open_ else .flash }))
    else w.ignored path DEV_BOOT_GO
  else w


end Sys2Proof.Machine
end

