-- ==== Sys2Proof/Machine/RegAccess.lean ====
section
/-! DEFINITION. Access to the address map (spec/00 R6 to R9, spec/01 R26 to R30): which place an address is, reads with their
latches, writes with their guards, and the result of an access as R301 names it. -/

namespace Sys2Proof.Machine

variable {σ : State}

/-! ## Places and results -/

/-- How one word of an access ended (R301). -/
inductive Access where
  | ok | rejected | memFault | qdrParity | unmapped
  deriving DecidableEq, Repr

/-- R301: STATUS of REG_RESP. -/
def Access.code : Access → Nat
  | .ok => 0
  | .rejected => 1
  | .memFault => 5
  | .qdrParity => 4
  | .unmapped => 3

/-- What lies at an address (R26 to R28): a register, a control store, plain memory of a tile window, a pre-trigger ring, a QDR
port or DDR5 channel with an offset, or nothing. -/
inductive Place where
  | reg
  | code (t : Nat)
  | mem
  | ring (t : Nat)
  | qdr (u off : Nat)
  | ddr (c off : Nat)
  | nothing
  deriving DecidableEq, Repr

/-- The place of an offset in the window of tile t (R28). -/
def tilePlace (t off : Nat) : Place :=
  if off < 0x40000 then .reg
  else if off < 0x60000 then .code t
  else if off < 0x80000 then .nothing
  else if off < 0xA0000 then .mem
  else if off < 0xC0000 then .nothing
  else if off < 0x180000 then .mem
  else if off < 0x1C0000 then .ring t
  else if off < 0x200000 then .mem
  else .nothing

/-- The place of an address (R26). An address that is not a multiple of 4 is none that an access can have (R6). -/
def placeOf (a : Nat) : Place :=
  if a % 4 ≠ 0 then .nothing
  else if a < 0x1000000 then .reg
  else if a < 0x10000000 then .nothing
  else if a < 0x18000000 then tilePlace ((a - 0x10000000) / 0x400000) ((a - 0x10000000) % 0x400000)
  else if a < 0x200000000 then .nothing
  else if a < 0x210000000 then .qdr 0 (a - 0x200000000)
  else if a < 0x220000000 then .qdr 1 (a - 0x210000000)
  else if a < 0x8000000000 then .nothing
  else if a < 0xA000000000 then .ddr 0 (a - 0x8000000000)
  else if a < 0xC000000000 then .ddr 1 (a - 0xA000000000)
  else .nothing

/-- The first true case of a list, or the default. -/
def firstCase {α : Type} (d : Unit → α) : List (Bool × (Unit → α)) → α
  | [] => d ()
  | (c, f) :: r => if c then f () else firstCase d r

/-- Whether off lies in [lo, hi). -/
def within (off lo hi : Nat) : Bool := decide (lo ≤ off) && decide (off < hi)

/-! ## Plain register writes (R9) -/

/-- R9: one field under its access code. What a W1S or WO field starts is no part of it. -/
def writeField (w : Work σ) (v : Nat) (f : FieldAcc) : Work σ :=
  let x := bits v f.fld.lo f.fld.width
  match f.acc with
  | .rw => w.set f.fld x
  | .w1c => w.set f.fld (w.get f.fld - (w.get f.fld &&& x))
  | _ => w

def writeFields (w : Work σ) (v : Nat) (fs : List FieldAcc) : Work σ := w.each fs (fun w f => writeField w v f)

/-- A field of which a write of a value below lo or above hi loads that limit. -/
def clampField (w : Work σ) (f : Fld) (lo hi : Nat) : Work σ :=
  if w.get f < lo then w.set f lo else if hi < w.get f then w.set f hi else w

/-! ## Guards of tile registers -/

/-- R154, R190, R231: the sequencer is halted or not released, and no stepped word is in its steps. -/
def seqQuiet (w : Work σ) (t : Nat) : Bool :=
  decide (w.get (SEQ_STATE_STATE t) ≠ RUN) && !w.on (SEQ_STATE_STEPPING (leader w t))

/-- R240: the descriptors of tile t's acquisition unit may be written. -/
def capQuiet (w : Work σ) (t : Nat) : Bool := decide (capState w t = IDLE) && decide ((w.clasp t 32).fill = 0)

/-- R231: the registers that only a quiet sequencer takes. -/
def isSeqReg (off : Nat) : Bool :=
  decide (off = 0x0C) || decide (off = 0x10) || decide (off = 0x20) || within off 0x28 0x2C || within off 0x30 0x80

/-- R84, R95, R118, R154, R158, R166, R231, R240: whether a direct write to a tile register is rejected. -/
def tileGuard (w : Work σ) (t off : Nat) : Bool :=
  firstCase (fun _ => false) [
    (isSeqReg off || within off 0x5020 0x5040 || within off 0x5060 0x50A0, fun _ => !seqQuiet w t),
    (within off 0x6800 0x6A00 && decide (off % 0x20 < 0x10), fun _ => !seqQuiet w t),
    (within off 0x1000 0x2000 && decide (off % 0x100 < 0x30), fun _ => !toneIdle w t ((off - 0x1000) / 0x100)),
    (within off 0x8000 0x10000, fun _ => !toneIdle w t ((off - 0x8000) / 0x800)),
    (within off 0x3000 0x3800 && decide (off % 0x100 = 0), fun _ => !fluxIdle w t ((off - 0x3000) / 0x100)),
    (within off 0x10000 0x14000, fun _ => !fluxIdle w t ((off - 0x10000) / 0x800)),
    (within off 0x4000 0x4800 && decide (off % 0x100 < 0x80), fun _ => !rdIdle w t ((off - 0x4000) / 0x100)),
    (within off 0x6000 0x6200 && decide (off % 0x40 < 0x28), fun _ => !rdIdle w t ((off - 0x6000) / 0x40)),
    (within off 0x7800 0x7C00, fun _ => !capQuiet w t)]

/-- R158, R232, R259: whether a direct write to a tile register is ignored. -/
def tileIgnores (w : Work σ) (t off v : Nat) : Bool :=
  (isSeqReg off && decide (leader w t ≠ t)) ||
  (within off 0x7424 0x7430 && decide (t ≠ 0)) ||
  (within off 0x6000 0x6200 && decide (off % 0x40 = 0x20) &&
    (let n := bits v (FACET_CTRL 0 0).lo (FACET_CTRL 0 0).width; decide (n < 2) || decide (4 < n)))

/-- A direct write to a tile register that its guards let through. -/
def tilePut (w : Work σ) (path : Path) (t off v : Nat) (fs : List FieldAcc) : Work σ :=
  let plain := fun (_ : Unit) => writeFields w v fs
  firstCase plain [
    (decide (off = 0), fun _ => seqCtrlWrite w path t v),
    (decide (off = 0x20), fun _ => clampField (plain ()) (SEQ_STARVE_LIMIT t) 16 0xFFFF),
    (decide (off = 0x28), fun _ =>
      let w := clampField (plain ()) (SEQ_SP t) 0 16
      if w.on (SEQ_STATE_ACTIVE t) ∧ w.get (SEQ_SP t) < (w.seq t).vecDepth then endRoutine w t else w),
    (decide (off = 0x400), fun _ => clampField (plain ()) (CLASP_HORIZON t) 32 65536),
    (decide (off = 0x430), fun _ => if bit v 0 then abortGo w path t else w),
    (within off 0x3000 0x3800 && decide (off % 0x100 = 0), fun _ => fluxDcWrite w t ((off - 0x3000) / 0x100) v),
    (decide (off = 0x5008), fun _ => clampField (plain ()) (DSP_IN_CTRL_SHIFT t) 0 16),
    (within off 0x5020 0x5040, fun _ =>
      let n := (off - 0x5020) / 8
      let a := w.get (DSP_ACC t n)
      if off % 8 = 0 then w.set (DSP_ACC t n) (a / 2 ^ 32 * 2 ^ 32 + v)
      else (plain ()).set (DSP_ACC t n) (a % 2 ^ 32 + v % 2 ^ 16 * 2 ^ 32)),
    (within off 0x5060 0x50A0 && decide (off % 16 = 12), fun _ =>
      clampField (plain ()) (DSP_AGU_L t ((off - 0x5060) / 16)) 0 131072),
    (within off 0x6800 0x6A00 && decide (off % 0x20 < 0x10), fun _ =>
      let d := (off - 0x6800) / 0x20
      watchEval (watchClear (plain ()) t d) t d),
    (decide (off = 0x880), fun _ => noteRetry (plain ())),
    (decide (off = 0x7420), fun _ => clampField (plain ()) (CAP_GROUP_SETTLE t) 1 255)]

/-- A direct write to a tile register. -/
def tileWrite (w : Work σ) (path : Path) (a t off v : Nat) (fs : List FieldAcc) : Work σ :=
  if tileIgnores w t off v then w.errlog 0x02 path t 0 a
  else if tileGuard w t off then w.reject path a
  else tilePut w path t off v fs

/-! ## Device registers -/

/-- R37: a write of ARM. -/
def epochArm (w : Work σ) (path : Path) : Work σ :=
  if anyReleased w then w.ignored path TIME_EPOCH_CTRL else w.set TIME_EPOCH_CTRL 1

/-- R33, R37, R271, R276, R373 to R375: device, event and time registers. -/
def coreWrite (w : Work σ) (path : Path) (a v : Nat) (plain : Unit → Work σ) : Option (Work σ) :=
  firstCase (fun _ => none) [
    (decide (a = 0x1000), fun _ => some (devResetWrite w path v)),
    (decide (a = 0x1004), fun _ => some (tileResetWrite w path v)),
    (decide (a = 0x100C), fun _ => some (bootWrite w path v)),
    (decide (a = 0x3000C), fun _ => some (noteRetry (plain ()))),
    (decide (a = 0x30000), fun _ => some (softFire w (v % 512))),
    (within a 0x30100 0x30140 || within a 0x30300 0x30400, fun _ => some (alertBalls (alertState w) (plain ()))),
    (decide (a = 0x40000), fun _ => some (clkCtrlWrite w path v)),
    (decide (a = 0x40008), fun _ => some (if bit v 0 then epochArm w path else w)),
    (decide (a = 0x48004), fun _ => some (if bit v 0 then ntSnap w else w)),
    (decide (a = 0x48044), fun _ => some (ntCmdWrite w path v)),
    (decide (a = 0x48064) || decide (a = 0x4806C), fun _ => some (alarmCtrlWrite w ((a - 0x48064) / 8) v)),
    (within a 0x602000 0x602800 && decide (a % 0x200 = 0x64), fun _ =>
      some (if bit v 0 then tableResync w ((a - 0x602000) / 0x400) ((a - 0x602000) % 0x400 / 0x200) else w))]

/-- R425, R429, R436, R440: housekeeping and thermal registers. -/
def houseWrite (w : Work σ) (path : Path) (a v : Nat) (plain : Unit → Work σ) : Option (Work σ) :=
  firstCase (fun _ => none) [
    (decide (a = 0x10004), fun _ => some (clampField (plain ()) HK_TIMER 1 0xFFFF)),
    (within a 0x10040 0x10080, fun _ => some (hkEntryWrite w path ((a - 0x10040) / 4) v)),
    (decide (a = 0x100C0), fun _ => some (injCfgWrite w path v)),
    (decide (a = 0x100C4), fun _ => some (injCtrlWrite w path v)),
    (decide (a = 0x100D0), fun _ => some (calWrite w v)),
    (within a 0x11000 0x12000, fun _ => some (patchWrite w path ((a - 0x11000) / 4) v)),
    (decide (a = 0x20014), fun _ => some (if bit v 0 then thermClear w else w))]

/-- R299, R300, R340 to R357, R370: lane, link and transport registers. -/
def laneLinkWrite (w : Work σ) (path : Path) (a v : Nat) (plain : Unit → Work σ) : Option (Work σ) :=
  let n := (a - 0x100000) / 0x1000
  let r := a % 0x1000
  let lane := within a 0x100000 0x120000
  let l := (a - 0x200000) / 0x40
  let link := within a 0x200000 0x200800
  firstCase (fun _ => none) [
    (lane && decide (r = 0x00), fun _ => some (laneCfgWrite w n v)),
    (lane && decide (r = 0x04), fun _ => some (laneCtrlWrite w path n v)),
    (lane && decide (r = 0x40), fun _ => some (scanCfgWrite w path n v)),
    (lane && decide (r = 0x54), fun _ => some (checkWrite w path n v)),
    (lane && decide (r = 0x58), fun _ => some (prbsWrite w n v)),
    (lane && decide (r = 0x60), fun _ => some (clampField (plain ()) (LANE_LULL_CFG_IDLE n) 1 0xFFFF)),
    (link && decide (a % 0x40 = 0), fun _ => some (linkCfgWrite w path l v)),
    (link && decide (a % 0x40 = 4), fun _ => some (linkCtrlWrite w l v)),
    (decide (a = 0x280004), fun _ => some (clampField (plain ()) TRANSPORT_TIMING_RETX 1 0xFFFF)),
    (decide (a = 0x280008), fun _ => some (if bit v 31 then sessionBump w else w))]

/-- R326, R328, R331, R404, R412, R415, R417, R418: loader, QDR and DDR5 registers. -/
def portWrite (w : Work σ) (path : Path) (a v : Nat) (plain : Unit → Work σ) : Option (Work σ) :=
  let c := (a - 0x400000) / 0x80000
  let u := (a - 0x500000) / 0x80000
  let r := a % 0x80000
  let ddr := within a 0x400000 0x500000
  let qdr := within a 0x500000 0x600000
  firstCase (fun _ => none) [
    (ddr && decide (r = 0x00), fun _ => some (ddrCfgWrite w path c v)),
    (ddr && decide (r = 0x04), fun _ => some (if bit v 0 then ddrTrain w c else w)),
    (ddr && decide (r = 0x10), fun _ => some (clampField (plain ()) (DDR_REF_MAXPOST c) 0 4)),
    (ddr && decide (r = 0x20), fun _ => some (clampField (plain ()) (DDR_ZQ_INTERVAL_MS c) 1 0xFFFF)),
    (ddr && decide (r = 0x28), fun _ => some (clampField (plain ()) (DDR_RH_THR c) 1 0xFFFF)),
    (qdr && decide (r = 0x00), fun _ => some (qdrCfgWrite w path u v)),
    (qdr && decide (r = 0x04), fun _ => some (if bit v 0 then qdrTrain w u else w)),
    (decide (a = 0x700000), fun _ => some (loaderCtrlWrite w path v)),
    (decide (a = 0x700100), fun _ => some (flashCtrlWrite w path v)),
    (decide (a = 0x700240), fun _ => some (fuseProgWrite w path v)),
    (within a 0x700250 0x700280, fun _ => some (fuseDataWrite w path ((a - 0x700250) / 4) v))]

/-- A write to a device register. -/
def devWrite (w : Work σ) (path : Path) (a v : Nat) (fs : List FieldAcc) : Work σ :=
  let plain := fun (_ : Unit) => writeFields w v fs
  match coreWrite w path a v plain with
  | some w => w
  | none =>
    match houseWrite w path a v plain with
    | some w => w
    | none =>
      match laneLinkWrite w path a v plain with
      | some w => w
      | none => (portWrite w path a v plain).getD (plain ())

/-! ## Register writes -/

/-- R321: whether a field at an address holds a staged value. [note 108: DEDUCED] -/
def isStaged (w : Work σ) (a : Nat) : Bool :=
  w.ld.shadows.any (fun s => decide (s.1.addr = a)) ||
    (within a 0x11000 0x12000 && w.ld.patch.any (fun p => decide (p.1 = (a - 0x11000) / 4)))

/-- Rejections that wait to be emitted as firings of source 503 (R323); a write to EVT_FIRE that fires it is none (R271). -/
def rejections (w : Work σ) : Nat := (w.dev.held.filter (fun f => decide (f.src = 503) && !f.soft)).length

/-- R8, R29: a write where nothing lies is ignored and logged. [note 95: DEDUCED] -/
def unmapped (w : Work σ) (path : Path) (a : Nat) : Access × Work σ :=
  (.unmapped, w.errlog 0x01 path (tileOfAddr a) 0 a)

/-- R259: acquisition registers that only tile 0 has and that read 0 elsewhere. -/
def elsewhere (a : Nat) : Bool :=
  within a 0x10000000 0x18000000 && within ((a - 0x10000000) % 0x400000) 0x7424 0x7430

/-- A write to a register address. [note 100: DESIGN CHOICE] -/
def regPut (w : Work σ) (path : Path) (a v : Nat) : Access × Work σ :=
  match regAt a with
  | none => if elsewhere a then (.ok, w.errlog 0x02 path (tileOfAddr a) 0 a) else unmapped w path a
  | some fs =>
    if isStaged w a then (.rejected, w.reject path a)
    else
      let w' :=
        if a < 0x1000000 then devWrite w path a v fs
        else tileWrite w path a ((a - 0x10000000) / 0x400000) ((a - 0x10000000) % 0x400000) v fs
      (if rejections w < rejections w' then .rejected else .ok, w')

/-! ## Register reads -/

/-- R345, R348: a read meets values that drift, and the counts of a scan that runs. -/
def readMeets (w : Work σ) (a : Nat) : Work σ :=
  if within a 0x100000 0x120000 && (decide (a % 0x1000 = 0x44) || decide (a % 0x1000 = 0x48))
  then scanRuns w ((a - 0x100000) / 0x1000) else
  if within a 0x100000 0x120000 && (decide (a % 0x1000 = 0x18) || decide (a % 0x1000 = 0x20) || decide (a % 0x1000 = 0x24))
  then laneDrift w ((a - 0x100000) / 0x1000) else w

/-- R85: a paged PLAY of tone engine e waits, for a page buffer or for its fetch. -/
def pageWait (w : Work σ) (t e : Nat) : Bool :=
  (stagedFor (w.tile t) e).any (fun s => s.page.isSome) ||
    ((w.clasp t e).items.flatMap Item.members ++ ((w.clasp t e).open_.map OpenUnit.members).getD []).any (fun h => match h.page with
      | none => false
      | some p => (w.tile t).pages.any (fun b => decide (b.page = p) && decide (b.done = none)))

/-- R83, R127: milliseconds since the last completed calibration cycle of converter d. [note 37: DEDUCED] -/
def calAge (w : Work σ) (t d : Nat) : Nat := min 0xFFFFFFFF ((w.dev.ticks - w.get (CAL_LAST t d)) / 1000000)

/-- R219, R234: SEQ.ATTN: the pending latches of inputs 0 to 15. That of tile 0 in lockstep is the OR over the set, masked by its ATTN_EN. -/
def attnShown (w : Work σ) (t : Nat) : Nat :=
  let set_ := lockstep w && decide (t = 0)
  (List.range 16).foldl (fun v i =>
    if (if set_ then members w 0 else [t]).any (fun m => pendingInput w m i) && (!set_ || w.getBit (SEQ_ATTN_EN 0) i)
    then v + 2 ^ i else v) 0

/-- R305: tile ring entries allocated. -/
def ringAlloc (w : Work σ) (t : Nat) : Nat :=
  (List.range 512).foldl (fun n i =>
    if qEnabled w t i && !w.on (QT_CFG_PLACE t i) then n + qSize w t i else n) 0

/-- R261: frames in the ring history, as CAP.STATE.FILL shows them. -/
def ringFill (w : Work σ) (t : Nat) : Nat :=
  if capState w t = IDLE then 0
  else min (w.get (CAPCLASS_LEN_PRE t (capClass w t))) (w.now - (w.cap t).ringStart)

/-- Tile fields whose value is derived from the state when they are read. -/
def tileLive (w : Work σ) (t off : Nat) : List (Fld × Nat) :=
  let e := off / 0x100 % 16
  firstCase (fun _ => []) [
    (decide (off = 4) && decide (leader w t ≠ t), fun _ => [(SEQ_STATE_STATE t, w.get (SEQ_STATE_STATE 0))]),
    (decide (off = 0x14), fun _ => [(SEQ_ATTN t, attnShown w t)]),
    (decide (off = 0x408), fun _ => [(CLASP_CURSOR_LO t, (w.seq (leader w t)).cursor)]),
    (within off 0x440 0x4C4, fun _ =>
      [(CLASP_QUEUE_FILL t ((off - 0x440) / 4), (w.clasp t ((off - 0x440) / 4)).fill)]),
    (within off 0x1000 0x2000 && decide (off % 0x100 = 0x30), fun _ =>
      let p := (w.tone t e).pulse
      [(TONE_STATUS_PAGE_WAIT t e, b2n (pageWait w t e)),
        (TONE_STATUS_HOLDING t e, b2n (p.any (toneHolding w))),
        (TONE_STATUS_PLAYING t e, b2n (p.any (tonePlaying w))),
        (TONE_STATUS_IDLE t e, b2n (toneIdle w t e))]),
    (within off 0x2000 0x2300 && decide (off % 0x100 = 0x48), fun _ => [(DAC_CAL_AGE t e, calAge w t e)]),
    (decide (off = 0x2304), fun _ => [(DRIVE_PAGE_FREE t, w.get (DRIVE_PAGE_BUFFERS t) - (w.tile t).pages.length)]),
    (within off 0x3000 0x3800 && decide (off % 0x100 = 4), fun _ =>
      let p := (w.flux t e).pulse
      [(FLUX_STATUS_HOLDING t e, b2n (p.any (fluxHolding w))),
        (FLUX_STATUS_PLAYING t e, b2n (p.any (fluxPlaying w))),
        (FLUX_STATUS_IDLE t e, b2n (fluxIdle w t e))]),
    (within off 0x4000 0x4800 && decide (off % 0x100 = 0x80), fun _ => [(RD_STATUS_IDLE t e, b2n (rdIdle w t e))]),
    (decide (off = 0x4814), fun _ => [(ADC_CAL_AGE t, calAge w t 3)]),
    (decide (off = 0x500C), fun _ => [(DSP_IN_STATUS_FILL t, (w.tile t).dspIn.length)]),
    (within off 0x5020 0x5040 && decide (off % 8 = 0), fun _ =>
      [(DSP_ACC_LO t ((off - 0x5020) / 8), w.get (DSP_ACC t ((off - 0x5020) / 8)))]),
    (decide (off = 0x24000), fun _ => [(QUEUE_STATUS_ALLOC t, ringAlloc w t)]),
    (decide (off = 0x7400), fun _ => [(CAP_STATE_FILL t, ringFill w t)]),
    (decide (off = 0x740C), fun _ => [(CAP_DEAD_LO t, w.get (CAP_DEAD t))])]

/-- Word n of the key hash in the fuses (R331). -/
def keyHashWord (w : Work σ) (n : Nat) : Nat := ofLe (slice w.fuse.keyHash (4 * n) 4)

/-- Device fields whose value is derived from the state when they are read. -/
def devLive (w : Work σ) (a : Nat) : List (Fld × Nat) :=
  let u := (a - 0x602000) / 0x400
  let c := (a - 0x602000) % 0x400 / 0x200
  firstCase (fun _ => []) [
    (decide (a = 0x8), fun _ => [(DEV_STATUS_LANES_UP, b2n (lanesUp w))]),
    (decide (a = 0x300004), fun _ =>
      [(COMP_STATUS_DBUSY, w.ld.dec.foldl (fun v j => v + 2 ^ j.inst) 0)]),
    (decide (a = 0x30014), fun _ => [(EVENTS_ALERT_STATE, alertState w)]),
    (decide (a = 0x40004), fun _ => [(TIME_CLK_STATUS_LOCK, w.get DEV_STATUS_PLL_LOCK)]),
    (decide (a = 0x40018), fun _ => [(TIME_TL_LO, w.now)]),
    (decide (a = 0x48000), fun _ => [(TIME_NT_LO, w.ntLo)]),
    (within a 0x602000 0x602800 && decide (a % 0x200 = 0x68), fun _ =>
      [(TABLE_CTX_STATUS_WAITING u c, b2n ((w.ctx u c).capt.any (fun x => x.isSome)))]),
    (within a 0x280200 0x280280, fun _ =>
      [(TRANSPORT_TXPORT_FALLBACK ((a - 0x280200) / 4), b2n (txFallback w ((a - 0x280200) / 4)))]),
    (within a 0x210000 0x210800 && decide (a % 0x40 = 4), fun _ =>
      [(ETH_MAC_LO ((a - 0x210000) / 0x40), portMac w ((a - 0x210000) / 0x40))]),
    (within a 0x210000 0x210800 && decide (a % 0x40 = 8), fun _ =>
      [(ETH_MAC_HI ((a - 0x210000) / 0x40), portMac w ((a - 0x210000) / 0x40) / 2 ^ 32)]),
    (decide (a = 0x700010), fun _ => [(LOADER_POINT_LO, w.get LOADER_P)]),
    (within a 0x700200 0x700230, fun _ => [(LOADER_KEYHASH ((a - 0x700200) / 4), keyHashWord w ((a - 0x700200) / 4))]),
    (decide (a = 0x700230), fun _ =>
      [(LOADER_FUSE_SIGN_REQUIRED, b2n w.fuse.signRequired), (LOADER_FUSE_HASH_SET, b2n w.fuse.hashSet)])]

/-- The fields at an address whose value is derived from the state. -/
def liveFields (w : Work σ) (a : Nat) : List (Fld × Nat) :=
  if a < 0x1000000 then devLive w a
  else if within a 0x10000000 0x18000000 then tileLive w ((a - 0x10000000) / 0x400000) ((a - 0x10000000) % 0x400000)
  else []

/-- R9: the value of a field as a read returns it. -/
def fieldValue (w : Work σ) (live : List (Fld × Nat)) (f : FieldAcc) : Nat :=
  if f.acc = .wo then 0
  else match live.find? (fun x => decide (x.1 = f.fld)) with
    | some x => x.2 % 2 ^ f.fld.width
    | none => w.get f.fld

/-- R7: the reserved bits that a register of a tile holds, for the check of the record that they are part of (R64, R91, R112, R239,
R243), and that a read returns as 0. [note 173: DEDUCED] -/
def heldReserved (off : Nat) : Nat :=
  firstCase (fun _ => 0) [
    (within off 0x8000 0x10000, fun _ => if off % 16 = 0 then 0xFCE00000 else if off % 16 = 12 then 0xFFFF0000 else 0),
    (within off 0x10000 0x14000, fun _ => if off % 16 = 0 then 0xFFE20000 else if off % 16 < 8 then 0 else 0xFFFFFFFF),
    (within off 0x4000 0x4800 && decide (off % 0x100 < 0x80), fun _ => if off % 8 = 0 then 0xFFC00000 else 0xFFF00000),
    (within off 0x7800 0x7C00, fun _ => [0xC000C00C, 0xE000, 0xFF000000, 0xFFFFFE00, 0, 0, 0, 0xFF000000].getD (off % 32 / 4) 0)]

/-- R6, R7: the word that a read of a register returns. Reserved bits read 0. -/
def regWord (w : Work σ) (a : Nat) (fs : List FieldAcc) : Nat :=
  let live := liveFields w a
  let v := fs.foldl (fun v f => v + fieldValue w live f * 2 ^ f.fld.lo) 0
  if a < 0x1000000 then v else v - (v &&& heldReserved ((a - 0x10000000) % 0x400000))

/-- R58: a read of CLASP.CURSOR_LO latches the high half. -/
def latchCursor (w : Work σ) (t : Nat) : Work σ := w.set (CLASP_CURSOR_HI t) ((w.seq (leader w t)).cursor / 2 ^ 32)

/-- R128: a read of RD.LAST_TL_LO latches the high half. -/
def latchLastTl (w : Work σ) (t k : Nat) : Work σ := w.set (RD_LAST_TL_HI t k) (w.get (RD_TL_HI t k))

/-- R155: a read of DSP.ACC_LO latches the high half. [note 100: DESIGN CHOICE] -/
def latchAcc (w : Work σ) (t n : Nat) : Work σ := w.set (DSP_ACC_HI_ACC_HI t n) (w.get (DSP_ACC t n) / 2 ^ 32)

/-- R261: a read of CAP.DEAD_LO latches the high half. -/
def latchDead (w : Work σ) (t : Nat) : Work σ := w.set (CAP_DEAD_HI t) (w.get (CAP_DEAD t) / 2 ^ 32)

/-- R261: a read of CAP.LAST_W_LO latches the high half. -/
def latchLastW (w : Work σ) (t : Nat) : Work σ := w.set (CAP_LAST_W_HI t) (w.get (CAP_W_HI t))

/-- R282, R304: a read of QT[i].SEQ_A latches SEQ_B and FILL; a stage queue holds the staged entries of its clasp.
[note 146: DESIGN CHOICE] -/
def latchSeqA (w : Work σ) (t i : Nat) : Work σ :=
  let n := if 256 ≤ i ∧ i < 289 then (stagedFor (w.tile t) (i - 256)).length else qFill w t i
  (w.set (QT_SEQ_B t i) (w.get (QTAIL t i))).set (QT_FILL t i) n

/-- R38: a read of TIME.TL_LO latches the high half. -/
def latchTl (w : Work σ) : Work σ := w.set TIME_TL_HI (w.now / 2 ^ 32)

/-- R384: a read of PTP.OFFSET_LO latches the high half. -/
def latchOffset (w : Work σ) : Work σ := w.set PTP_OFFSET_HI (w.get PTP_OFFSET_LIVE)

/-- R384: a read of PTP.DELAY_LO latches the high half. -/
def latchDelay (w : Work σ) : Work σ := w.set PTP_DELAY_HI (w.get PTP_DELAY_LIVE)

/-- R332: a read of LOADER.POINT_LO latches the high half. [note 126: DEDUCED] -/
def latchPoint (w : Work σ) : Work σ := w.set LOADER_POINT_HI (w.get LOADER_P / 2 ^ 32)

/-- The halves that a read of a tile register latches (R58, R128, R155, R261, R304). -/
def tileLatch (w : Work σ) (t off : Nat) : Work σ :=
  firstCase (fun _ => w) [
    (decide (off = 0x408), fun _ => latchCursor w t),
    (within off 0x4000 0x4800 && decide (off % 0x100 = 0x94), fun _ => latchLastTl w t ((off - 0x4000) / 0x100)),
    (within off 0x5020 0x5040 && decide (off % 8 = 0), fun _ => latchAcc w t ((off - 0x5020) / 8)),
    (decide (off = 0x740C), fun _ => latchDead w t),
    (decide (off = 0x7460), fun _ => latchLastW w t),
    (within off 0x20000 0x24000 && decide (off % 0x20 = 0x0C), fun _ => latchSeqA w t ((off - 0x20000) / 0x20))]

/-- The halves that a read of a device register latches (R38, R332, R384). -/
def devLatch (w : Work σ) (a : Nat) : Work σ :=
  firstCase (fun _ => w) [
    (decide (a = 0x40018), fun _ => latchTl w),
    (decide (a = 0x220030), fun _ => latchOffset w),
    (decide (a = 0x220038), fun _ => latchDelay w),
    (decide (a = 0x700010), fun _ => latchPoint w)]

/-- R9: what a read of a register does: RC fields take their reset value, and halves are latched. -/
def regAfterRead (w : Work σ) (a : Nat) (fs : List FieldAcc) : Work σ :=
  let w := w.each fs (fun w f => if f.acc = .rc then w.set f.fld f.fld.reset else w)
  if a < 0x1000000 then devLatch w a
  else tileLatch w ((a - 0x10000000) / 0x400000) ((a - 0x10000000) % 0x400000)

/-- A read of a register address. -/
def regGet (w : Work σ) (a : Nat) : Access × Nat × Work σ :=
  match regAt a with
  | none => (if elsewhere a then .ok else .unmapped, 0, w)
  | some fs =>
    let w := readMeets w a
    (.ok, regWord w a fs, regAfterRead w a fs)

/-! ## Memories and the whole map (R29, R190, R331, R401, R402, R410) -/

/-- R29, R402, R404: whether a QDR offset can be reached. -/
def qdrReach (w : Work σ) (u off : Nat) : Bool := qdrReady w u && decide (off / 8 < qdrCapacity w u)

/-- The result of an access to a DDR5 offset (R29, R410). -/
def ddrResult (w : Work σ) (c off : Nat) : Access :=
  if ddrState w c = DDR_FAULT ∧ off < ddrCapacity w c then .memFault
  else if ddrServes w c off then .ok
  else .unmapped

/-- A write of one word over a path. Bytes 28 to 31 of a control-store word are reserved bits (R7, R188). parityOk: whether a QDR
command would pass its address parity. [note 58: DEDUCED] -/
def mapWrite (w : Work σ) (path : Path) (a v : Nat) (parityOk : Bool) : Access × Work σ :=
  match placeOf a with
  | .reg => regPut w path a v
  | .code t =>
    if w.fuse.signRequired || !seqQuiet w t then (.rejected, w.reject path a)
    else if a % 32 < 28 then (.ok, w.wrLe a 4 v)
    else (.ok, w)
  | .mem => (.ok, w.wrLe a 4 v)
  | .ring _ => (.ok, w.wrLe a 4 v)
  | .qdr u off =>
    if !qdrReach w u off then unmapped w path a
    else if parityOk then (.ok, w.wrLe a 4 v)
    else (.qdrParity, qdrFailure w u 2 (off / 8) false)
  | .ddr c off =>
    match ddrResult w c off with
    | .ok => (.ok, w.ddrWrite 2 a (leBytes 4 v))
    | .memFault => (.memFault, w)
    | _ => unmapped w path a
  | .nothing => unmapped w path a

/-- A read of one word. [notes 58: DEDUCED, 101: DEDUCED, 103: DESIGN CHOICE] -/
def mapRead (w : Work σ) (a : Nat) (parityOk : Bool) : Access × Nat × Work σ :=
  match placeOf a with
  | .reg => regGet w a
  | .code _ => (.ok, if a % 32 < 28 then w.rdLe a 4 else 0, w)
  | .mem => (.ok, w.rdLe a 4, w)
  | .ring t =>
    if w.on (RING_USED t) then
      let (v, w) := w.free 32
      (.ok, v, w)
    else (.ok, w.rdLe a 4, w)
  | .qdr u off =>
    if !qdrReach w u off then (.unmapped, 0, w)
    else if parityOk then (.ok, w.rdLe a 4, w)
    else (.qdrParity, 0, qdrFailure w u 2 (off / 8) false)
  | .ddr c off =>
    match ddrResult w c off with
    | .ok => (.ok, w.rdLe a 4, ddrTraffic w 2 false a 4)
    | r => (r, 0, w)
  | .nothing => (.unmapped, 0, w)

/-- R30: the management target reaches the device register blocks only. [note 103: DESIGN CHOICE] -/
def pathReach (path : Path) (a : Nat) : Bool := decide (path ≠ .mgt) || decide (a < 0x1000000)

end Sys2Proof.Machine
end

