-- ==== Sys2Proof/Machine/HostAccess.lean ====
section
/-! DEFINITION. The commands by which the outside reads and writes registers: the rows that name one register's action, register
entries (R301, R302), clasp entries in an inbound queue (R290), and the two maintenance ports (R471, R472). -/

namespace Sys2Proof.Machine

variable {σ : State}

/-- R30: the path of a command that names one. -/
def viaPath : Via → Path
  | .genond => .genond
  | .mgt => .mgt
  | .jtag => .jtag

/-! ## Writes that start an action -/

/-- DEVICE_RESET_REQUEST (R445). -/
def execDeviceResetRequest (via : Via) (v : BitVec 32) (s : State) : Host.Outcome State Fault Refusal :=
  run (fun w => devResetWrite w (viaPath via) v.toNat) s

/-- TILE_RESET (R446). -/
def execTileReset (via : Via) (v : BitVec 32) (s : State) : Host.Outcome State Fault Refusal :=
  run (fun w => tileResetWrite w (viaPath via) v.toNat) s

/-- BOOT_GO (R448). -/
def execBootGo (via : Via) (src : Bool) (s : State) : Host.Outcome State Fault Refusal :=
  run (fun w => bootWrite w (viaPath via) (8 + 4 * b2n src)) s

/-- CLK_SRC_WRITE (R33). -/
def execClkSrcWrite (via : Via) (src : Bool) (s : State) : Host.Outcome State Fault Refusal :=
  run (fun w => clkCtrlWrite w (viaPath via) (b2n src)) s

/-- EPOCH_ARM (R37). -/
def execEpochArm (via : Via) (s : State) : Host.Outcome State Fault Refusal := run (fun w => epochArm w (viaPath via)) s

/-- ABORT_GO (R56). -/
def execAbortGo (via : Via) (t : Fin 32) (s : State) : Host.Outcome State Fault Refusal :=
  run (fun w => abortGo w (viaPath via) t) s

/-- HOST_STOP (R230). -/
def execHostStop (via : Via) (t : Fin 32) (s : State) : Host.Outcome State Fault Refusal :=
  run (fun w => seqCtrlWrite w (viaPath via) t 4) s

/-- HOST_HALT (R230). -/
def execHostHalt (via : Via) (t : Fin 32) (s : State) : Host.Outcome State Fault Refusal :=
  run (fun w => seqCtrlWrite w (viaPath via) t 8) s

/-- SEQ_STEP (R230). -/
def execSeqStep (via : Via) (t : Fin 32) (resync : Bool) (s : State) : Host.Outcome State Fault Refusal :=
  run (fun w => seqCtrlWrite w (viaPath via) t (2 + 16 * b2n resync)) s

/-- SEQ_RESUME (R230). -/
def execSeqResume (via : Via) (t : Fin 32) (resync : Bool) (s : State) : Host.Outcome State Fault Refusal :=
  run (fun w => seqCtrlWrite w (viaPath via) t (1 + 16 * b2n resync)) s

/-- SESSION_BUMP (R300). -/
def execSessionBump (s : State) : Host.Outcome State Fault Refusal := run sessionBump s

/-- LOADER_ABORT (R321). -/
def execLoaderAbort (via : Via) (s : State) : Host.Outcome State Fault Refusal := run (fun w => loaderAbort w (viaPath via)) s

/-- LOADER_CLEAR (R328). -/
def execLoaderClear (s : State) : Host.Outcome State Fault Refusal := run loaderClear s

/-- FLASH_ERASE (R326). -/
def execFlashErase (via : Via) (s : State) : Host.Outcome State Fault Refusal :=
  run (fun w => flashCtrlWrite w (viaPath via) (1 + 4 * 1)) s

/-- FLASH_PROGRAM (R326). -/
def execFlashProgram (via : Via) (s : State) : Host.Outcome State Fault Refusal :=
  run (fun w => flashCtrlWrite w (viaPath via) (1 + 4 * 2)) s

/-- FLASH_READ (R326). -/
def execFlashRead (via : Via) (s : State) : Host.Outcome State Fault Refusal :=
  run (fun w => flashCtrlWrite w (viaPath via) (1 + 4 * 3)) s

/-- PROG_HASH (R331). -/
def execProgHash (via : Via) (s : State) : Host.Outcome State Fault Refusal :=
  run (fun w => fuseProgWrite w (viaPath via) 1) s

/-- PROG_SIGN (R331). -/
def execProgSign (via : Via) (s : State) : Host.Outcome State Fault Refusal :=
  run (fun w => fuseProgWrite w (viaPath via) 2) s

/-- LANE_CFG_WRITE (R340). -/
def execLaneCfgWrite (n : Fin 32) (v : BitVec 32) (s : State) : Host.Outcome State Fault Refusal :=
  run (fun w => laneCfgWrite w n v.toNat) s

/-- LANE_RESTART (R340): LOOP is written as it stands. -/
def execLaneRestart (via : Via) (n : Fin 32) (s : State) : Host.Outcome State Fault Refusal :=
  run (fun w => laneCtrlWrite w (viaPath via) n (1 + 4 * w.get (LANE_CTRL_LOOP n))) s

/-- READAPT (R347): LOOP is written as it stands. -/
def execReadapt (via : Via) (n : Fin 32) (s : State) : Host.Outcome State Fault Refusal :=
  run (fun w => laneCtrlWrite w (viaPath via) n (2 + 4 * w.get (LANE_CTRL_LOOP n))) s

/-- LANE_LOOP_WRITE (R352). -/
def execLaneLoopWrite (via : Via) (n : Fin 32) (loop : Fin 4) (s : State) : Host.Outcome State Fault Refusal :=
  run (fun w => laneCtrlWrite w (viaPath via) n (4 * loop.val)) s

/-- EYE_SCAN_GO (R348): a write of v with GO set. -/
def execEyeScanGo (via : Via) (n : Fin 32) (v : BitVec 32) (s : State) : Host.Outcome State Fault Refusal :=
  run (fun w => scanCfgWrite w (viaPath via) n (v.toNat ||| 2 ^ 28)) s

/-- CHECK_GO (R350). -/
def execCheckGo (via : Via) (n : Fin 32) (s : State) : Host.Outcome State Fault Refusal :=
  run (fun w => checkWrite w (viaPath via) n 1) s

/-- LINK_CFG_WRITE (R357). -/
def execLinkCfgWrite (via : Via) (l : Fin 32) (v : BitVec 32) (s : State) : Host.Outcome State Fault Refusal :=
  run (fun w => linkCfgWrite w (viaPath via) l v.toNat) s

/-- LINK_RESTART (R370). -/
def execLinkRestart (l : Fin 32) (s : State) : Host.Outcome State Fault Refusal := run (fun w => linkCtrlWrite w l 1) s

/-- NT_INCR (R373): GO with OP 0 and the EPOCH bit. -/
def execNtIncr (via : Via) (epoch : Bool) (s : State) : Host.Outcome State Fault Refusal :=
  run (fun w => ntCmdWrite w (viaPath via) (0 + 16 + 32 * b2n epoch)) s

/-- NT_ADD (R373): GO with OP 1. -/
def execNtAdd (via : Via) (epoch : Bool) (s : State) : Host.Outcome State Fault Refusal :=
  run (fun w => ntCmdWrite w (viaPath via) (1 + 16 + 32 * b2n epoch)) s

/-- NT_SET (R373): GO with OP 2. -/
def execNtSet (via : Via) (epoch : Bool) (s : State) : Host.Outcome State Fault Refusal :=
  run (fun w => ntCmdWrite w (viaPath via) (2 + 16 + 32 * b2n epoch)) s

/-- NT_CMD_CANCEL (R373). -/
def execNtCmdCancel (s : State) : Host.Outcome State Fault Refusal := run ntCancel s

/-- NT_SNAP (R374). -/
def execNtSnap (s : State) : Host.Outcome State Fault Refusal := run ntSnap s

/-- ALARM_ARM (R375). -/
def execAlarmArm (k : Fin 2) (s : State) : Host.Outcome State Fault Refusal := run (fun w => alarmArm w k) s

/-- QDR_TRAIN (R404). -/
def execQdrTrain (p : Fin 2) (s : State) : Host.Outcome State Fault Refusal := run (fun w => qdrTrain w p) s

/-- DDR_TRAIN (R418). -/
def execDdrTrain (c : Fin 2) (s : State) : Host.Outcome State Fault Refusal := run (fun w => ddrTrain w c) s

/-- HK_INJ_GO (R429). -/
def execHkInjGo (via : Via) (s : State) : Host.Outcome State Fault Refusal :=
  run (fun w => injCtrlWrite w (viaPath via) 1) s

/-- HK_CAL_GO (R429). -/
def execHkCalGo (s : State) : Host.Outcome State Fault Refusal := run calRequest s

/-- THERM_CLEAR (R436). -/
def execThermClear (s : State) : Host.Outcome State Fault Refusal := run thermClear s

/-! ## Reads that latch or clear -/

/-- TL_LO_READ (R38). -/
def execTlLoRead (s : State) : Host.Outcome State Fault Refusal :=
  run (fun w => (latchTl w).emit (.value (w.now % 2 ^ 32))) s

/-- LOW_WATER_READ (R52). -/
def execLowWaterRead (t : Fin 32) (s : State) : Host.Outcome State Fault Refusal :=
  run (fun w => (w.set (CLASP_LOW_WATER t) (CLASP_LOW_WATER t).reset).emit (.value (w.get (CLASP_LOW_WATER t)))) s

/-- CURSOR_LO_READ (R58). -/
def execCursorLoRead (t : Fin 32) (s : State) : Host.Outcome State Fault Refusal :=
  run (fun w => (latchCursor w t).emit (.value ((w.seq (leader w t)).cursor % 2 ^ 32))) s

/-- SEQ_A_READ (R304). -/
def execSeqARead (t : Fin 32) (i : Fin 512) (s : State) : Host.Outcome State Fault Refusal :=
  run (fun w => (latchSeqA w t i).emit (.value (w.get (QT_SEQ_A t i)))) s

/-- R31: a read of DEV.FABRIC, with the cycle as measured now and the longest since the last read; both are 0 until the regulators
first reach their setpoint, and stay as they were with the fabric off. -/
def fabricRead (w : Work σ) (ps max_ : Nat) : Work σ :=
  let w := if w.on THERM_STORM_TRIPPED ∨ !w.on FABRIC_UP then w else fabricMeasure w ps max_
  let v := w.get DEV_FABRIC_CYCLE_MAX_PS * 2 ^ DEV_FABRIC_CYCLE_MAX_PS.lo + w.get DEV_FABRIC_CYCLE_PS * 2 ^ DEV_FABRIC_CYCLE_PS.lo
  (w.set DEV_FABRIC_CYCLE_MAX_PS DEV_FABRIC_CYCLE_MAX_PS.reset).emit (.value v)

/-- FABRIC_READ (R31). [note 129: DESIGN CHOICE] -/
def execFabricRead (ps maxPs : Fin 1024) (s : State) : Host.Outcome State Fault Refusal :=
  run (fun w => fabricRead w ps maxPs) s

/-- ACC_LO_READ (R155). -/
def execAccLoRead (t : Fin 32) (n : Fin 4) (s : State) : Host.Outcome State Fault Refusal :=
  run (fun w => (latchAcc w t n).emit (.value (w.get (DSP_ACC t n) % 2 ^ 32))) s

/-- DEAD_LO_READ (R261). -/
def execDeadLoRead (t : Fin 32) (s : State) : Host.Outcome State Fault Refusal :=
  run (fun w => (latchDead w t).emit (.value (w.get (CAP_DEAD t) % 2 ^ 32))) s

/-- LAST_W_LO_READ (R261). -/
def execLastWLoRead (t : Fin 32) (s : State) : Host.Outcome State Fault Refusal :=
  run (fun w => (latchLastW w t).emit (.value (w.get (CAP_LAST_W_LO t)))) s

/-- LAST_TL_LO_READ (R128). -/
def execLastTlLoRead (t : Fin 32) (k : Fin 8) (s : State) : Host.Outcome State Fault Refusal :=
  run (fun w => (latchLastTl w t k).emit (.value (w.get (RD_LAST_TL_LO t k)))) s

/-- POINT_LO_READ (R332). -/
def execPointLoRead (s : State) : Host.Outcome State Fault Refusal :=
  run (fun w => (latchPoint w).emit (.value (w.get LOADER_P % 2 ^ 32))) s

/-- PTP_VALUE_LO_READ (R384): of OFFSET, or of DELAY. -/
def execPtpValueLoRead (delay : Bool) (s : State) : Host.Outcome State Fault Refusal :=
  run (fun w => if delay then (latchDelay w).emit (.value (w.get PTP_DELAY_LO))
    else (latchOffset w).emit (.value (w.get PTP_OFFSET_LO))) s

/-- R9, R30: a write over a path that may not reach the address. While PORESET_N is low nothing is written. [note 168: DESIGN CHOICE] -/
def pathWrite (w : Work σ) (path : Path) (a v : Nat) (parityOk : Bool) : Work σ :=
  if w.on PORESET_LOW then w
  else if pathReach path a then (mapWrite w path a v parityOk).2
  else w.errlog 0x01 path (tileOfAddr a) 0 a

/-- REGISTER_WRITE (R9). -/
def execRegisterWrite (via : Via) (a : BitVec 40) (v : BitVec 32) (parityOk : Bool) (s : State) :
    Host.Outcome State Fault Refusal :=
  run (fun w => pathWrite w (viaPath via) a.toNat v.toNat parityOk) s

/-! ## Register entries (R301, R302) -/

/-- The bounds of the device part of the map (R26, R27): each block and each gap between blocks begins at one. -/
def devBounds : List Nat :=
  [0x10000, 0x20000, 0x30000, 0x40000, 0x50000, 0x100000, 0x120000, 0x200000, 0x300000, 0x400000, 0x480000, 0x500000, 0x580000,
    0x600000, 0x700000, 0x800000, 0x1000000, 0x10000000]

/-- The bounds inside one tile window (R28). -/
def windowBounds : List Nat := [0x40000, 0x60000, 0x80000, 0xA0000, 0xC0000, 0x100000, 0x180000, 0x1C0000, 0x200000]

/-- The bounds above the tile windows (R26). -/
def highBounds : List Nat :=
  [0x18000000, 0x200000000, 0x210000000, 0x220000000, 0x8000000000, 0xA000000000, 0xC000000000, 0x10000000000]

def boundsBelow (bs : List Nat) (a : Nat) : Nat := (bs.filter (fun b => decide (b ≤ a))).length

/-- R301: the block of an address for the FORMAT check. -/
def blockOf (a : Nat) : Nat × Nat × Nat :=
  if within a 0x10000000 0x18000000 then
    (1, (a - 0x10000000) / 0x400000, boundsBelow windowBounds ((a - 0x10000000) % 0x400000))
  else (0, boundsBelow devBounds a, boundsBelow highBounds a)

/-- R27, R301: the gaps between the register blocks, which are no blocks. [note 124: DEDUCED] -/
def inGap (a : Nat) : Bool := within a 0x50000 0x100000 || within a 0x120000 0x200000 || within a 0x800000 0x1000000

/-- R301: whether a run from one address to another stays out of a second block. -/
def sameBlock (a b : Nat) : Bool := inGap a || inGap b || decide (blockOf a = blockOf b)

/-- The payload of a register entry: ADDR, N, its reserved bytes and its words (R301). [note 96: DEDUCED] -/
def reqAddr (p : List Byte) : Nat := ofLe (slice p 0 5)
def reqN (p : List Byte) : Nat := ofLe (slice p 5 1)
def reqWord (p : List Byte) (k : Nat) : Nat := ofLe (slice p (8 + 4 * k) 4)

/-- R301: whether a run of N words keeps the FORMAT rule; the bytes from lo on are reserved. -/
def reqOk (p : List Byte) (lo : Nat) : Bool :=
  decide (reqAddr p % 4 = 0) && decide (1 ≤ reqN p) && decide (reqN p ≤ 4) &&
    decide (ofLe (slice p 6 2) = 0) && decide (ofLe (slice p lo (24 - lo)) = 0) &&
    sameBlock (reqAddr p) (reqAddr p + 4 * (reqN p - 1))

/-- R301: the order in which the results of the words of a run decide STATUS. -/
def Access.rank : Access → Nat
  | .rejected => 4
  | .memFault => 3
  | .qdrParity => 2
  | .unmapped => 1
  | .ok => 0

def worse (a b : Access) : Access := if a.rank < b.rank then b else a

/-- The words of a read run, from word k on; bad lists the words whose QDR command fails its address parity. -/
def runReads (a : Nat) (bad : List (Fin 4)) : Nat → Nat → Work σ → Access × List Nat × Work σ
  | 0, _, w => (.ok, [], w)
  | n + 1, k, w =>
    let (r, v, w) := mapRead w (a + 4 * k) (!bad.any (fun b => decide (b.val = k)))
    let (rs, vs, w) := runReads a bad n (k + 1) w
    (worse r rs, v :: vs, w)

/-- The words of a write run, from word k on: a rejected word stops it. -/
def runWrites (a : Nat) (p : List Byte) (bad : List (Fin 4)) : Nat → Nat → Work σ → Access × Work σ
  | 0, _, w => (.ok, w)
  | n + 1, k, w =>
    let (r, w) := mapWrite w .genond (a + 4 * k) (reqWord p k) (!bad.any (fun b => decide (b.val = k)))
    if r = .rejected then (.rejected, w)
    else
      let (rs, w) := runWrites a p bad n (k + 1) w
      (worse r rs, w)

/-- R301: a read-modify-write as one access; a rejected one changes nothing else. readOk, writeOk: whether the commands of a QDR port
would pass their address parity (R401). [note 99: DEDUCED] -/
def runRmw (w : Work σ) (a mask value : Nat) (readOk writeOk : Bool) : Access × Nat × Work σ :=
  let (r, old, w') := mapRead w a readOk
  if r = .memFault ∨ r = .qdrParity then (r, old, w')
  else
    let new := (old - (old &&& mask)) + (value &&& mask)
    match mapWrite w' .genond a new writeOk with
    | (.rejected, _) => (.rejected, old, (mapWrite w .genond a new writeOk).2)
    | (r', w'') => (r', old, w'')

/-- R301: the payload of REG_RESP. -/
def respPayload (addr n status : Nat) (words : List Nat) : List Byte :=
  leBytes 5 addr ++ leBytes 1 n ++ leBytes 1 status ++ leBytes 1 0 ++
    ((words.flatMap (leBytes 4)) ++ List.replicate 16 0).take 16

/-- A queue whose consumer is the register executor (R290). -/
def isRegQueue (w : Work σ) (t i : Nat) : Bool :=
  decide (i < 128) && qEnabled w t i && decide (w.get (QT_CFG_CONSUMER t i) = CONSUMER_REG)

/-- Entry types that a REG consumer accepts (R284). -/
def isRegType (y : Nat) : Bool := decide (0x10 ≤ y) && decide (y ≤ 0x12)

/-- R302: whether the response queue has credit. -/
def respCredit (w : Work σ) (t i : Nat) : Bool :=
  let r := w.get (QT_CFG_RESP t i)
  qFaulted w t r || decide (qFill w t r < qSize w t r) || w.on (QT_CFG_POLICY t r)

/-- R302: the executor takes the entry at the head of queue i of tile t when it is of a type, executes it once its response has
credit, and pushes the response: STATUS and words as act gives them. -/
def regEntry (w : Work σ) (t i type : Nat) (act : List Byte → Work σ → Access × List Nat × Work σ) (lo : List Byte → Nat) : Work σ :=
  match qPeek w t i isRegType with
  | none => if isRegQueue w t i then (qTake w t i isRegType).2 else w
  | some e =>
    let p := entryPayload e
    let posted := decide (type ≠ 0x10) && bit (entryFlags e) 0
    if !isRegQueue w t i || decide (entryType e ≠ type) || !respCredit w t i then w
    else
      let w := (qTake w t i isRegType).2
      let (status, words, w) := if reqOk p (lo p) then
          let (r, vs, w) := act p w
          (r.code, vs, w)
        else (2, [], w)
      if posted then w
      else (qPush w t (w.get (QT_CFG_RESP t i)) 0x13 (respPayload (reqAddr p) (reqN p) status words)).getD w

/-- REG_RD (R301). -/
def execRegRd (t : Fin 32) (i : Fin 128) (bad : List (Fin 4)) (s : State) : Host.Outcome State Fault Refusal :=
  run (fun w => regEntry w t i 0x10 (fun p w => runReads (reqAddr p) bad (reqN p) 0 w) (fun _ => 8)) s

/-- REG_WR (R301). -/
def execRegWr (t : Fin 32) (i : Fin 128) (bad : List (Fin 4)) (s : State) : Host.Outcome State Fault Refusal :=
  run (fun w => regEntry w t i 0x11 (fun p w =>
    let (r, w) := runWrites (reqAddr p) p bad (reqN p) 0 w
    (r, [], w)) (fun _ => 24)) s

/-- REG_RMW (R301): its N is 1, and it has one MASK and one VALUE. -/
def execRegRmw (t : Fin 32) (i : Fin 128) (readOk writeOk : Bool) (s : State) : Host.Outcome State Fault Refusal :=
  run (fun w => regEntry w t i 0x12 (fun p w =>
    let (r, old, w) := runRmw w (reqAddr p) (reqWord p 0) (reqWord p 1) readOk writeOk
    (r, [old], w)) (fun p => if reqN p = 1 then 16 else 5)) s

/-! ## Clasp entries in an inbound queue (R290) -/

/-- R72, R290: the entry at the head of inbound queue i of tile t moves into the feed of the clasp it names, when that has room and no
paged PLAY of the queue waits for a page buffer. A CLASP
field that names no clasp is a FORMAT fault. [note 123: DEDUCED] -/
def claspFeedMove (w : Work σ) (t i : Nat) : Work σ :=
  if !(qEnabled w t i && qIsIn w t i && decide (w.get (QT_CFG_CONSUMER t i) = 1)) ∨ w.get (SEQ_STATE_STATE t) = NOT_RELEASED ∨
      pageWaits w t (.queue i) then w
  else
    match qPeek w t i (fun y => decide (y = 1)) with
    | none => (qTake w t i (fun y => decide (y = 1))).2
    | some b =>
      let e := entryOfNat (ofLe (entryPayload b))
      if 32 < e.clasp then
        claspFault (issueTo (qTake w t i (fun y => decide (y = 1))).2 t e.clasp (.queue i)) t e.clasp FORMAT e (marginOf w e)
      else if claspCredit w t e.clasp = 0 then w
      else stagePut (qTake w t i (fun y => decide (y = 1))).2 t e (.queue i)

/-- CLASP_FEED_MOVE (R290). -/
def execClaspFeedMove (t : Fin 32) (i : Fin 512) (s : State) : Host.Outcome State Fault Refusal :=
  run (fun w => claspFeedMove w t i) s

/-! ## Management target (R471) -/

def Work.updPort (w : Work σ) (f : PortSt → PortSt) : Work σ := { w with dev := { w.dev with port := f w.dev.port } }

/-- R449, R471: the target answers once REFCLK is present. [note 96: DEDUCED] -/
def mgtLive (w : Work σ) (f : Work σ → Work σ) : Work σ := if w.on DEV_STATUS_REFCLK_OK then f w else w

/-- R471: the target's address on the bus, with the direction bit behind it: 0 a write, 1 a read. -/
def mgtBusAddr (read : Bool) : Byte := BitVec.ofNat 8 (2 * 0x5A + b2n read)

/-- R471: the data bytes of a block write of n bytes to a command code: its PEC, where it carries one, must hold. None for any other
transaction. [note 171: PRESUMED] -/
def mgtBlock (code n : Nat) (bus : List Byte) : Option (List Byte) :=
  let head := [mgtBusAddr false, BitVec.ofNat 8 code, BitVec.ofNat 8 n]
  if bus.take 3 = head ∧ (bus.length = 3 + n ∨ (bus.length = 4 + n ∧ ofLe (slice bus (3 + n) 1) = crc8 (bus.take (3 + n)))) then
    some (slice bus 3 n)
  else none

/-- R471: whether a transaction is a read of a command code. [note 171: PRESUMED] -/
def mgtReads (code : Nat) (bus : List Byte) : Bool :=
  decide (bus = [mgtBusAddr false, BitVec.ofNat 8 code, mgtBusAddr true])

/-- R471: the bytes that the target answers a read with, and the PEC behind them, which the controller may leave unread.
[note 171: PRESUMED] -/
def mgtReply (w : Work σ) (bus bytes : List Byte) : Work σ :=
  w.emit (.port "MGT" ((bytes ++ [BitVec.ofNat 8 (crc8 (bus ++ bytes))]).map BitVec.toNat))

/-- MGT_SET_ADDRESS (R471). -/
def execMgtSetAddress (bus : List (BitVec 8)) (s : State) : Host.Outcome State Fault Refusal :=
  run (fun w => mgtLive w (fun w =>
    match mgtBlock 0x01 5 bus with
    | some bs => w.updPort (fun p => { p with mgtAddr := ofLe bs })
    | none => w)) s

/-- R471: the status bits and the address after an access. [note 97: DEDUCED] -/
def mgtAfter (w : Work σ) (reject reach : Bool) : Work σ :=
  w.updPort (fun p => { p with mgtAddr := (p.mgtAddr + 4) % 2 ^ 40, mgtReject := reject, mgtReach := reach })

/-- R471: a write at the access address. -/
def mgtWrite (w : Work σ) (v : Nat) : Work σ :=
  let a := w.dev.port.mgtAddr
  if pathReach .mgt a then
    let (r, w) := mapWrite w .mgt a v true
    mgtAfter w (decide (r = .rejected)) false
  else mgtAfter (w.errlog 0x01 .mgt (tileOfAddr a) 0 a) false true

/-- MGT_WRITE (R471). -/
def execMgtWrite (bus : List (BitVec 8)) (s : State) : Host.Outcome State Fault Refusal :=
  run (fun w => mgtLive w (fun w =>
    match mgtBlock 0x02 4 bus with
    | some bs => mgtWrite w (ofLe bs)
    | none => w)) s

/-- R471: a read at the access address, with the word that it returns. [note 97: DEDUCED] -/
def mgtRead (w : Work σ) : Nat × Work σ :=
  let a := w.dev.port.mgtAddr
  if pathReach .mgt a then
    let (_, v, w) := mapRead w a true
    (v, mgtAfter w false false)
  else (0, mgtAfter (w.errlog 0x01 .mgt (tileOfAddr a) 0 a) false true)

/-- MGT_READ (R471). -/
def execMgtRead (bus : List (BitVec 8)) (s : State) : Host.Outcome State Fault Refusal :=
  run (fun w => mgtLive w (fun w =>
    if mgtReads 0x03 bus then
      let (v, w) := mgtRead w
      mgtReply w bus (leBytes 1 4 ++ leBytes 4 v)
    else w)) s

/-- R471: the status of the last access. No access is ever in progress between commands, so bit 2 reads 0. [note 97: DEDUCED] -/
def mgtStatus (w : Work σ) : Nat := b2n w.dev.port.mgtReject + 2 * b2n w.dev.port.mgtReach

/-- MGT_STATUS (R471): the read clears bits 0 and 1. -/
def execMgtStatus (bus : List (BitVec 8)) (s : State) : Host.Outcome State Fault Refusal :=
  run (fun w => mgtLive w (fun w =>
    if mgtReads 0x04 bus then
      (mgtReply w bus (leBytes 1 (mgtStatus w))).updPort (fun p => { p with mgtReject := false, mgtReach := false })
    else w)) s

/-! ## JTAG (R443, R472) -/

/-- R472: the balls of the boundary scan by group, with their number and whether EXTEST drives them: the LVDS balls apart from REFCLK,
the 1.8 V CMOS balls and the balls of the memory ports, one cell to a ball or to a pair. [note 172: DESIGN CHOICE] -/
def scanGroups : List (String × Nat × Bool) :=
  [("EPOCH", 1, false), ("TRIG_IN", 8, false), ("MARK_OUT", 8, true), ("BOOT_SCK", 1, true), ("BOOT_CS_N", 1, true),
    ("BOOT_IO", 4, true), ("MGT_SCL", 1, true), ("MGT_SDA", 1, true), ("PORESET_N", 1, false), ("BOOT_SEL", 2, false),
    ("ALERT_N", 4, true), ("DDRA", 127, true), ("DDRB", 127, true), ("QDRA", 130, true), ("QDRB", 130, true)]

/-- The cells of the boundary-scan register, in order: the ball, its index, and whether EXTEST drives it. -/
def scanCells : List (String × Nat × Bool) :=
  scanGroups.flatMap (fun g => (List.range g.2.1).map (fun i => (g.1, i, g.2.2)))

/-- R472: in EXTEST the boundary-scan register drives its balls. -/
def scanDrive (w : Work σ) : Work σ :=
  if w.dev.port.tap = .extest then
    w.each scanCells.zipIdx (fun w c =>
      if c.1.2.2 then w.emit (.ball c.1.1 c.1.2.1 (b2n (w.dev.port.scan.getD c.2 false))) else w)
  else w

/-- R472: the balls whose levels the block gives out show them again when EXTEST is left. [note 172: DESIGN CHOICE] -/
def scanRelease (w : Work σ) : Work σ :=
  let w := w.each (List.range 8) (fun w m => w.emit (.ball "MARK_OUT" m (w.get (MARK_HIGH m))))
  (w.each (List.range 4) (fun w a => w.emit (.ball "ALERT_N" a (b2n (!alertOn w a))))).emit (.ball "BOOT_CS_N" 0 1)

/-- The TAP holds an instruction. -/
def tapHold (w : Work σ) (i : TapInstr) : Work σ :=
  let was := w.dev.port.tap
  let w := w.updPort (fun p => { p with tap := i })
  if was = .extest ∧ i ≠ .extest then scanRelease w else w

/-- R472: a boundary-scan instruction is accepted, or acts as BYPASS. [note 98: DEDUCED] -/
def scanSelect (w : Work σ) (i : TapInstr) : Work σ :=
  if !anyReleased w ∧ (ldState w = LD_IDLE ∨ ldState w = LD_ERROR) then scanDrive (tapHold w i)
  else (tapHold w .bypass).errlog 0x02 .jtag devTile 0 0

/-- R472: an opcode is shifted into the instruction register. -/
def tapSelect (w : Work σ) (ir : Nat) : Work σ :=
  if ir = 0x00 then scanSelect w .extest
  else if ir = 0x01 then scanSelect w .sample
  else tapHold w (if ir = 0x20 then .memAccess else .bypass)

/-- R472: what Capture-DR loads in MEM_ACCESS: the result, the address and the data of the last access. [note 98: DEDUCED] -/
def memCapture (p : PortSt) : Nat := 2 * b2n p.jtagBad + p.jtagAddr * 2 ^ 2 + p.jtagData * 2 ^ 42

/-- R472: the access that a shifted value names: OP 1 reads, 2 writes, another is none. While PORESET_N is low none is performed.
[notes 98: DEDUCED, 168: DESIGN CHOICE] -/
def memAccess (w : Work σ) (dr : Nat) (parityOk : Bool) : Work σ :=
  let op := dr % 4
  let a := bits dr 2 40
  if op ≠ 1 ∧ op ≠ 2 then w
  else
    let (r, v, w) :=
      if w.on PORESET_LOW then (Access.unmapped, w.dev.port.jtagData, w)
      else if op = 1 then mapRead w a parityOk
      else
        let (r, w) := mapWrite w .jtag a (bits dr 42 32) parityOk
        (r, w.dev.port.jtagData, w)
    w.updPort (fun p => { p with jtagAddr := a, jtagData := v, jtagBad := decide (r ≠ .ok) })

/-- R472: a scan of the data register of MEM_ACCESS: the captured value comes out at TDO, and Update-DR starts the access. -/
def memScan (w : Work σ) (dr : Nat) (parityOk : Bool) : Work σ :=
  if w.dev.port.tap = .memAccess then memAccess (w.emit (.port "TDO" [memCapture w.dev.port])) dr parityOk else w

/-- JTAG_MEM_READ (R472). -/
def execJtagMemRead (ir : BitVec 8) (dr : BitVec 74) (parityOk : Bool) (s : State) : Host.Outcome State Fault Refusal :=
  run (fun w => memScan (tapSelect w ir.toNat) dr.toNat parityOk) s

/-- JTAG_MEM_WRITE (R472). -/
def execJtagMemWrite (ir : BitVec 8) (dr : BitVec 74) (parityOk : Bool) (s : State) : Host.Outcome State Fault Refusal :=
  run (fun w => memScan (tapSelect w ir.toNat) dr.toNat parityOk) s

/-- R472: a scan of the boundary-scan register: the levels captured at the balls come out at TDO, and Update-DR loads the register, which
EXTEST drives. [note 172: DESIGN CHOICE] -/
def boundaryScan (w : Work σ) (pins : List Bool) : Option (List Bool) → Work σ
  | none => w
  | some dr =>
    if w.dev.port.tap = .extest ∨ w.dev.port.tap = .sample then
      let level := fun (l : List Bool) => (List.range scanCells.length).map (fun k => l.getD k false)
      scanDrive ((w.emit (.port "TDO" ((level pins).map b2n))).updPort (fun p => { p with scan := level dr }))
    else w

/-- EXTEST (R472). -/
def execExtest (ir : BitVec 8) (pins : List Bool) (dr : Option (List Bool)) (s : State) : Host.Outcome State Fault Refusal :=
  run (fun w => boundaryScan (tapSelect w ir.toNat) pins dr) s

/-- SAMPLE_PRELOAD (R472). -/
def execSamplePreload (ir : BitVec 8) (pins : List Bool) (dr : Option (List Bool)) (s : State) :
    Host.Outcome State Fault Refusal :=
  run (fun w => boundaryScan (tapSelect w ir.toNat) pins dr) s

/-- TAP_RESET (R443): after test-logic reset the TAP selects BYPASS (R472). -/
def execTapReset (s : State) : Host.Outcome State Fault Refusal := run (fun w => tapHold w .bypass) s

end Sys2Proof.Machine
end

