-- ==== Sys2Proof/Machine/Crypto.lean ====
section
/-! DEFINITION. The digest and the signature of a signed image (R330): SHA-384, and ECDSA over curve P-384, which R330 takes from
FIPS 186-5. [note 94: PRESUMED] -/

namespace Sys2Proof.Machine

/-! ## SHA-384 -/

/-- The integer k-th root of n, below 2^b, added bit by bit to r. -/
def rootFrom (k n : Nat) : Nat → Nat → Nat
  | 0, r => r
  | b + 1, r => rootFrom k n b (if (r + 2 ^ b) ^ k ≤ n then r + 2 ^ b else r)

/-- The primes below 410, of which there are 80. -/
def primes80 : List Nat :=
  (List.range 410).filter (fun p => decide (2 ≤ p) && (List.range p).all (fun d => decide (d < 2) || decide (p % d ≠ 0)))

/-- The round constants: the first 64 bits of the fractional parts of the cube roots of the first 80 primes. -/
def shaK : List Nat := primes80.map (fun p => rootFrom 3 (p * 2 ^ 192) 67 0 % 2 ^ 64)

/-- The eight working words. -/
structure ShaWords where
  a : Nat
  b : Nat
  c : Nat
  d : Nat
  e : Nat
  f : Nat
  g : Nat
  h : Nat
  deriving DecidableEq, Repr

/-- The first 64 bits of the fractional part of the square root of p. -/
def rootFraction (p : Nat) : Nat := rootFrom 2 (p * 2 ^ 128) 67 0 % 2 ^ 64

/-- The initial hash: the square roots of the ninth to the sixteenth prime. -/
def shaInit : ShaWords :=
  ⟨rootFraction 23, rootFraction 29, rootFraction 31, rootFraction 37, rootFraction 41, rootFraction 43, rootFraction 47,
    rootFraction 53⟩

def rotr64 (n x : Nat) : Nat := x / 2 ^ n + x % 2 ^ n * 2 ^ (64 - n)

/-- The next n words of the message schedule; ws holds those before, newest first. -/
def shaSchedule : Nat → List Nat → List Nat
  | 0, ws => ws
  | n + 1, ws =>
    let s0 := fun x => rotr64 1 x ^^^ rotr64 8 x ^^^ x / 2 ^ 7
    let s1 := fun x => rotr64 19 x ^^^ rotr64 61 x ^^^ x / 2 ^ 6
    shaSchedule n ((s1 (ws.getD 1 0) + ws.getD 6 0 + s0 (ws.getD 14 0) + ws.getD 15 0) % 2 ^ 64 :: ws)

/-- One round with its constant and its schedule word. -/
def shaRound (s : ShaWords) (kw : Nat × Nat) : ShaWords :=
  let ch := (s.e &&& s.f) ^^^ ((2 ^ 64 - 1 - s.e) &&& s.g)
  let maj := (s.a &&& s.b) ^^^ (s.a &&& s.c) ^^^ (s.b &&& s.c)
  let t1 := s.h + (rotr64 14 s.e ^^^ rotr64 18 s.e ^^^ rotr64 41 s.e) + ch + kw.1 + kw.2
  let t2 := (rotr64 28 s.a ^^^ rotr64 34 s.a ^^^ rotr64 39 s.a) + maj
  ⟨(t1 + t2) % 2 ^ 64, s.a, s.b, s.c, (s.d + t1) % 2 ^ 64, s.e, s.f, s.g⟩

/-- One block of 128 bytes. -/
def shaBlock (s : ShaWords) (block : List Byte) : ShaWords :=
  let first := (List.range 16).map (fun i => ofBe (slice block (8 * i) 8))
  let r := (shaK.zip (shaSchedule 64 first.reverse).reverse).foldl shaRound s
  let add := fun x y => (x + y) % 2 ^ 64
  ⟨add s.a r.a, add s.b r.b, add s.c r.c, add s.d r.d, add s.e r.e, add s.f r.f, add s.g r.g, add s.h r.h⟩

/-- A message with its padding: a one bit, zeros and its length in bits, to whole blocks. -/
def shaPad (m : List Byte) : List Byte :=
  m ++ (0x80 : Byte) :: List.replicate ((239 - m.length % 128) % 128) 0 ++ beBytes 16 (8 * m.length)

/-- The digest as a number of 384 bits, the first word most significant. -/
def sha384 (m : List Byte) : Nat :=
  let p := shaPad m
  let s := (List.range (p.length / 128)).foldl (fun s i => shaBlock s (slice p (128 * i) 128)) shaInit
  [s.a, s.b, s.c, s.d, s.e, s.f].foldl (fun v x => v * 2 ^ 64 + x) 0

/-! ## The curve P-384 -/

def curveP : Nat := 2 ^ 384 - 2 ^ 128 - 2 ^ 96 + 2 ^ 32 - 1
/-- The order of the base point. -/
def curveN : Nat := 0xffffffffffffffffffffffffffffffffffffffffffffffffc7634d81f4372ddf581a0db248b0a77aecec196accc52973
def curveB : Nat := 0xb3312fa7e23ee7e4988e056be3f82d19181d9c6efe8141120314088f5013875ac656398d8a2ed19d2a85c8edd3ec2aef
def baseX : Nat := 0xaa87ca22be8b05378eb1c71ef320ad746e1d3b628ba79b9859f741e082542a385502f25dbf55296c3a545e3872760ab7
def baseY : Nat := 0x3617de4a96262c6f5d9e98bf9292dc29f8f41dbd289a147ce9da3113b5f0b8c00a60b1ce1d7e819d7a431d7c90ea0e5f

/-- b to the power e modulo m; n bounds the bits of e. -/
def powMod (m : Nat) : Nat → Nat → Nat → Nat
  | 0, _, _ => 1
  | n + 1, b, e => (if e % 2 = 1 then b else 1) * powMod m n (b * b % m) (e / 2) % m

/-- The inverse of x modulo a prime m of 384 bits. -/
def invMod (m x : Nat) : Nat := powMod m 384 (x % m) (m - 2)

/-- A point as (X / Z^2, Y / Z^3); Z = 0 is the point at infinity. -/
structure CurvePoint where
  x : Nat
  y : Nat
  z : Nat
  deriving DecidableEq, Repr

/-- A difference modulo the field's prime. -/
def subP (a b : Nat) : Nat := (a + curveP - b) % curveP

/-- Twice a point. -/
def curveDouble (q : CurvePoint) : CurvePoint :=
  let s := 4 * q.x * (q.y * q.y % curveP) % curveP
  let z2 := q.z * q.z % curveP
  let m := 3 * (subP q.x z2 * ((q.x + z2) % curveP)) % curveP
  let x := subP (m * m % curveP) (2 * s % curveP)
  let y2 := q.y * q.y % curveP
  ⟨x, subP (m * subP s x % curveP) (8 * (y2 * y2) % curveP), 2 * q.y * q.z % curveP⟩

/-- The sum of two points. -/
def curveAdd (p q : CurvePoint) : CurvePoint :=
  if p.z = 0 then q
  else if q.z = 0 then p
  else
    let pz := p.z * p.z % curveP
    let qz := q.z * q.z % curveP
    let u1 := p.x * qz % curveP
    let u2 := q.x * pz % curveP
    let s1 := p.y * (qz * q.z % curveP) % curveP
    let s2 := q.y * (pz * p.z % curveP) % curveP
    if u1 = u2 then (if s1 = s2 then curveDouble p else ⟨1, 1, 0⟩)
    else
      let h := subP u2 u1
      let r := subP s2 s1
      let h2 := h * h % curveP
      let h3 := h2 * h % curveP
      let x := subP (r * r % curveP) ((h3 + 2 * (u1 * h2 % curveP)) % curveP)
      ⟨x, subP (r * subP (u1 * h2 % curveP) x % curveP) (s1 * h3 % curveP), h * (p.z * q.z % curveP) % curveP⟩

/-- k times a point; n bounds the bits of k. -/
def curveMul : Nat → Nat → CurvePoint → CurvePoint
  | 0, _, _ => ⟨1, 1, 0⟩
  | n + 1, k, q =>
    let rest := curveMul n (k / 2) (curveDouble q)
    if k % 2 = 1 then curveAdd q rest else rest

/-- Whether the coordinates name a point of the curve. -/
def onCurve (x y : Nat) : Bool :=
  decide (x < curveP) && decide (y < curveP) && decide ((y * y + 3 * x) % curveP = (x * x * x + curveB) % curveP)

/-- R330: whether (r, s) is the signature of a digest under the public key (qx, qy). -/
def ecdsaOk (digest qx qy r s : Nat) : Bool :=
  let w := invMod curveN s
  let sum := curveAdd (curveMul 384 (digest * w % curveN) ⟨baseX, baseY, 1⟩) (curveMul 384 (r * w % curveN) ⟨qx, qy, 1⟩)
  let x := sum.x * invMod curveP (sum.z * sum.z) % curveP
  decide (0 < r ∧ r < curveN) && decide (0 < s ∧ s < curveN) && onCurve qx qy && decide (sum.z ≠ 0) &&
    decide (x % curveN = r)

/-- R330: steps 2 and 3 of the check of a SIGNATURE payload over the bytes of a frame stream, under the key hash of the fuses. -/
def signatureOk (keyHash stream payload : List Byte) : Bool :=
  decide (sha384 (slice payload 0 96) = ofLe keyHash) &&
    ecdsaOk (sha384 stream) (ofBe (slice payload 0 48)) (ofBe (slice payload 48 48)) (ofBe (slice payload 96 48))
      (ofBe (slice payload 144 48))

end Sys2Proof.Machine
end

