-- ==== Sys2Proof/Machine/Time.lean ====
section
/-! DEFINITION. The passing of time (R35 to R37, R321, R372, R376): the frame boundary, with everything that each frame does, and
the epoch. -/

namespace Sys2Proof.Machine

variable {σ : State}

/-! ## The frame that ends -/

/-- R40, R241: every tile's engines fix their samples of the frame that ends, and the acquisition units take it. -/
def tilesFix (w : Work σ) : Work σ :=
  w.each (List.range 32) (fun w t =>
    let w := w.each (List.range 16) (fun w e => toneFrame w t e) |> fun w => capEnd w t
    fluxOut (w.each (List.range 8) (fun w e => fluxFrame w t e)) t (w.dev.ticks - 4))

/-- R77: every RF DAC sums its frame, which lies two behind the one that ends. -/
def tilesSum (w : Work σ) : Work σ :=
  w.each (List.range 32) (fun w t => w.each (List.range 3) (fun w d => dacFrame w t d (w.now - 2)))

/-! ## The boundary -/

/-- R35, R372: TL advances when it runs, and NT advances by INCR. -/
def clocksAdvance (w : Work σ) : Work σ :=
  let w := w.set NT_NOW (w.get NT_NOW + ntIncr w)
  { w with tlc := .advance, dev := { w.dev with ticks := w.dev.ticks + 1 } }

/-! ## The frame that begins -/

/-- R247: CAPTURE entries of action NONE that are due act and do nothing. -/
def dropNone (t : Nat) : Nat → Work σ → Work σ
  | 0, w => w
  | n + 1, w =>
    match nextDue w t 32 with
    | some (.one h) => if h.entry.body % 8 = 0 then dropNone t n (takeDue w t 32 (.one h)) else w
    | _ => w

/-- R54, R109: what a tile keeps of the past and no longer needs. -/
def forget (w : Work σ) (t : Nat) : Work σ :=
  w.updTile t (fun x => { x with
    pbOld := x.pbOld.filter (fun p => decide (w.now * 16 < p.n + 1024))
    fluxOld := x.fluxOld.filter (fun p => decide (w.dev.ticks < p.1 + 64)) })

/-- R34: once the converter clock has been lost the outputs are unspecified, and none is given out.
[note 21: DESIGN CHOICE] -/
def tilePins (w : Work σ) (t : Nat) : Work σ := if w.on CONV_LOST then w else fluxPins (dacPins w t) t

/-- R106, R110, R116, R127, R241: one tile's frame begins. -/
def tileBegin (w : Work σ) (t : Nat) (x : TileFrame) : Work σ :=
  let w := fifoFill (adcFrame w t x.samples x.drop) t x.fill
  let w := tilePins w t
  let w := w.each (List.range 8) (fun w k => integrate w t k)
  let w := capBegin (adcCalFrame w t) t
  forget (dropNone t (w.clasp t 32).fill w) t

/-- What reaches tile t in a frame whose command does not name it. -/
def noInput : TileFrame := ⟨[], false, 0⟩

/-- R319: the frame that begins in every tile. Storm has taken the tiles' state (R437). [note 17: DEDUCED] -/
def framesBegin (w : Work σ) (x : List TileFrame) : Work σ :=
  if w.on THERM_STORM_TRIPPED then w
  else w.each (List.range 32) (fun w t => tileBegin w t (x.getD t noInput))

/-- R319: the frame whose beginning waits for the commit that is due at it begins. -/
def beginHeld (w : Work σ) : Work σ :=
  match w.dev.heldFrames with
  | none => w
  | some x => framesBegin { w with dev := { w.dev with heldFrames := none } } x

/-- R319: a frame begins, or waits for the commit that is due at its boundary. [note 17: DEDUCED] -/
def beginOrHold (w : Work σ) (x : List TileFrame) : Work σ :=
  if pointDue w then { w with dev := { w.dev with heldFrames := some x } } else framesBegin w x

/-- R36, R39: the tick of the boundary that an edge accepted now leads to: 256 frames behind it, moved by DESKEW as it stands at the
edge. [note 23: DEDUCED] -/
def zeroTick (w : Work σ) : Nat := ((w.dev.ticks : Int) + 256 + sext 12 (w.get TIME_DESKEW) / 16).toNat

/-- R36, R37: the sample slots by which the boundary of an edge accepted now lies behind its tick. [note 23: DEDUCED] -/
def zeroPart (w : Work σ) : Nat := (sext 12 (w.get TIME_DESKEW) % 16).toNat

/-- R37: the flux samples of every tile in the part of a frame by which the interval before the boundary is longer: one in eight slots.
[note 23: DEDUCED] -/
def gridShift (w : Work σ) : Work σ :=
  if w.dev.epochPart < 8 ∨ w.on THERM_STORM_TRIPPED then w
  else w.each (List.range 32) (fun w t => fluxExtra w t (w.dev.ticks - 5))

/-- R36: the boundary that an accepted edge leads to has come. [note 23: DEDUCED] -/
def zeroReached (w : Work σ) : Bool :=
  match w.dev.epochZero with
  | none => false
  | some z => decide (z ≤ w.dev.ticks)

/-- R376: whether mark m is high at a tick, for the frames F that are listed. -/
def markLevel (w : Work σ) (m tick : Nat) : Bool :=
  w.on (TIME_MARK_SRC m) && w.dev.marks.any (fun f => decide (f.1 = m) && decide (f.2 + 11 ≤ tick) &&
    decide (tick < f.2 + 12 + w.get (TIME_MARK_WIDTH_M1 m)))

/-- R376: the marks in the frame that begins; a ball changes when its level differs from that of before. [note 27: DESIGN CHOICE] -/
def marksFrame (w : Work σ) : Work σ :=
  let k := w.dev.ticks
  let due := (List.range 8).filter (fun m =>
    decide (w.get (TIME_MARK_SRC m) = 3) && w.tl.running && !zeroReached w && decide (w.now % 2 ^ w.get (TIME_MARK_PLOG m) = 0))
  let w : Work σ := { w with dev := { w.dev with marks := w.dev.marks ++ due.map (fun m => (m, k)) } }
  let w := w.each (List.range 8) (fun w m =>
    if markLevel w m k = w.on (MARK_HIGH m) then w
    else (w.setB (MARK_HIGH m) (markLevel w m k)).emit (.ball "MARK_OUT" m (b2n (markLevel w m k))))
  { w with dev := { w.dev with
      marks := w.dev.marks.filter (fun f => decide (k < f.2 + 13 + w.get (TIME_MARK_WIDTH_M1 f.1))) } }

/-- R413: the bytes that each DDR5 channel takes from its capture writer's buffer in the frame that ends. -/
def writersDrain (w : Work σ) (taken : List Nat) : Work σ := writerDrain (writerDrain w 0 (taken.getD 0 0)) 1 (taken.getD 1 0)

/-- R35: one frame of a clock that runs: taken says what each DDR5 channel has taken from its capture writer. [notes 16: DESIGN CHOICE, 17: DEDUCED, 18: DEDUCED, 20: DESIGN CHOICE] -/
def frameTick (w : Work σ) (x : List TileFrame) (taken : List Nat) : Work σ :=
  if !w.on DEV_STATUS_PLL_LOCK then w
  else
    let w := writersDrain (beginHeld w) taken
    let w := if w.on THERM_STORM_TRIPPED then w else tilesSum (tilesFix w)
    let w := beginOrHold (clocksAdvance w) x
    ddrFrame (ddrFrame (marksFrame w) 0) 1

/-- FRAME_TICK (R35). [note 4: DESIGN CHOICE] -/
def execFrameTick (frames : List TileFrame) (taken : List Nat) (s : State) : Host.Outcome State Fault Refusal :=
  run (fun w => frameTick w frames taken) s

/-! ## The epoch (R36, R37, R321) -/

/-- R37: what an accepted edge ends in tile t. [note 24: DEDUCED] -/
def tileEpoch (w : Work σ) (t : Nat) : Work σ :=
  let w := abandonWindows (stopEngines w t) t
  capEpoch w t

/-- R37: what an accepted edge empties in a tile. -/
def tileEmptied (x : Tile) : Tile :=
  { x with
    clasps := Vector.replicate 33 Clasp.reset, stage := [], pages := [], aborts := [], pbOld := []
    dac := x.dac.map (fun d => { d with quiet := [] }) }

/-- R37, R214: every tile is emptied, and one that was HALTED is NOT_RELEASED: a word that was stepped there is gone.
[note 24: DEDUCED] -/
def tilesEmptied (w : Work σ) : Work σ :=
  let w : Work σ := { w with dev := { w.dev with tiles := w.dev.tiles.map tileEmptied } }
  let w := w.each (List.range 32) (fun w t =>
    if w.get (SEQ_STATE_STATE t) = HALTED then
      (((w.set (SEQ_STATE_STATE t) NOT_RELEASED).set (SEQ_STATE_STEPPING t) 0).set (FB_FENCE_WAITING t) 0).updSeq t
        (fun s => { s with cur := none, haltReq := false, swapping := false, cutPending := false })
    else w)
  if (List.range 32).all (fun t => decide (w.get (SEQ_STATE_STATE t) = NOT_RELEASED)) then w.set DEV_STATUS_TILES_RELEASED 0
  else w

/-- R321: a pending commit meets an accepted edge. -/
def loaderEpoch (w : Work σ) : Work σ :=
  if ldState w = LD_PENDING then
    match w.ld.commit with
    | some c =>
      if c.mode = 2 then (w.set LOADER_P (max c.value 1024)).updLd (fun l => { l with awaitEdge := false })
      else imageFail w F_EPOCH (lastSeq w)
    | none => w
  else w

/-- R36, R39, R373: an accepted edge. [note 24: DEDUCED] -/
def epochAccept (w : Work σ) (phase : Nat) : Work σ :=
  let z := zeroTick w
  let part := zeroPart w
  let w := tilesEmptied (loaderEpoch ((slotsReset (w.each (List.range 32) tileEpoch)).fire 497))
  let w := ((w.set TIME_EPOCH_CTRL 0).set TIME_EPOCH_STATUS_VALID 1).set TIME_EPOCH_STATUS_PHASE phase
  { w with dev := { w.dev with epochZero := some z, epochPart := part, ntCmd := w.dev.ntCmd.map (fun c => { c with edge := true }) } }

/-- EPOCH_EDGE (R36): an edge that REFCLK has sampled, PHASE steps ahead of its nominal REFCLK edge. -/
def execEpochEdge (phase : Fin 500) (s : State) : Host.Outcome State Fault Refusal :=
  run (fun w =>
    if !w.on DEV_STATUS_REFCLK_OK then w
    else if w.on TIME_EPOCH_CTRL then epochAccept w phase
    else w.inc TIME_EPOCH_STATUS_IGNORED) s

/-- R376: TL = 0 is a multiple of every period, so that every mark of the TL source has a frame F there.
[note 23: DEDUCED] -/
def zeroMarks (w : Work σ) : Work σ :=
  { w with dev := { w.dev with marks := w.dev.marks ++
      ((List.range 8).filter (fun m => decide (w.get (TIME_MARK_SRC m) = 3))).map (fun m => (m, w.dev.ticks)) } }

/-- TL_ZERO_BOUNDARY (R36, R374): TL becomes 0 and counts, and NT_EPOCH takes NT of its tick. [note 23: DEDUCED] -/
def execTlZeroBoundary (s : State) : Host.Outcome State Fault Refusal :=
  run (fun w =>
    if zeroReached w then
      let w := gridShift w
      zeroMarks (ntEpochLatch { w with tlc := .start, dev := { w.dev with epochZero := none, epochPart := 0 } })
    else w) s

end Sys2Proof.Machine
end

