-- ==== Sys2Proof/Machine/Image.lean ====
section
/-! DEFINITION. The frames of a Zeuno image (spec/13 R307 to R320, R330): their checks, what each type does on arrival, the
acceptance of a commit (R317, R318, R450, R451), and the clasp point (R319, R320). -/

namespace Sys2Proof.Machine

variable {σ : State}

/-! ## Frames (R307, R308) -/

/-- TYPE codes of R308. -/
def TY_START : Nat := 0x01
def TY_BOOTPARAM : Nat := 0x02
def TY_SETTING : Nat := 0x03
def TY_CODE : Nat := 0x04
def TY_TABLE : Nat := 0x05
def TY_HKPATCH : Nat := 0x06
def TY_COMMIT : Nat := 0x0E
def TY_SIGNATURE : Nat := 0x0F
def TY_ENVELOPE : Nat := 0x81
def TY_KERNEL : Nat := 0x82
def TY_DSPDATA : Nat := 0x83
def TY_QDRPAGE : Nat := 0x84

def frameTypes : List Nat :=
  [TY_START, TY_BOOTPARAM, TY_SETTING, TY_CODE, TY_TABLE, TY_HKPATCH, TY_COMMIT, TY_SIGNATURE, TY_ENVELOPE, TY_KERNEL,
    TY_DSPDATA, TY_QDRPAGE]

/-- A frame taken from the stream: the fields of its header, the 24 header bytes and the payload (R307). -/
structure ImageFrame where
  type : Nat
  target : Nat
  seq : Nat
  addr : Nat
  len : Nat
  head : List Byte
  payload : List Byte
  deriving DecidableEq, Repr

/-- R307: the frame at the front of the stream. -/
def readFrame (buf : List Byte) : ImageFrame where
  type := ofLe (slice buf 2 1)
  target := ofLe (slice buf 4 1)
  seq := ofLe (slice buf 8 4)
  addr := ofLe (slice buf 12 4)
  len := ofLe (slice buf 16 4)
  head := buf.take 24
  payload := slice buf 24 (frameLength buf)

/-- Word i of a payload. -/
def ImageFrame.word (f : ImageFrame) (i : Nat) : Nat := ofLe (slice f.payload (4 * i) 4)

/-- The words of a payload, each with its index. -/
def ImageFrame.words (f : ImageFrame) : List (Nat × Nat) := (List.range (f.payload.length / 4)).map (fun i => (i, f.word i))

/-- TARGET codes of R307. -/
def TGT_ALL : Nat := 0x40
def TGT_DEVICE : Nat := 0x80

/-- R308: a frame for every tile acts as 32 frames would. -/
def ImageFrame.tiles (f : ImageFrame) : List Nat := if f.target = TGT_ALL then List.range 32 else [f.target]

/-- R308: the targets that a type accepts. -/
def targetOk (f : ImageFrame) : Bool :=
  let tile := decide (f.target < 32) || decide (f.target = TGT_ALL)
  if f.type = TY_SETTING then tile || decide (f.target = TGT_DEVICE)
  else if f.type = TY_CODE ∨ f.type = TY_ENVELOPE ∨ f.type = TY_KERNEL ∨ f.type = TY_DSPDATA then tile
  else decide (f.target = TGT_DEVICE)

/-- R27, R308: the six blocks in which a BOOTPARAM frame must lie. -/
def bootBlocks : List (Nat × Nat) :=
  [(0x100000, 0x120000), (0x200000, 0x300000), (0x400000, 0x480000), (0x480000, 0x500000), (0x500000, 0x580000),
    (0x580000, 0x600000)]

/-- R308: the size of the space that ADDR addresses. -/
def spaceSize (f : ImageFrame) : Nat :=
  if f.type = TY_SETTING then (if f.target = TGT_DEVICE then 0x1000000 else 0x40000)
  else if f.type = TY_CODE ∨ f.type = TY_DSPDATA then 0x20000
  else if f.type = TY_TABLE ∨ f.type = TY_QDRPAGE then 0x20000000
  else if f.type = TY_HKPATCH then 0x1000
  else if f.type = TY_ENVELOPE then 0x80000
  else 0x40000

/-- R308: the space check, with the fixed lengths and the addresses that must be 0. -/
def spaceOk (f : ImageFrame) : Bool :=
  if f.type = TY_START then decide (f.addr = 0) && decide (f.len = 32)
  else if f.type = TY_COMMIT then decide (f.addr = 0) && decide (f.len = 16)
  else if f.type = TY_SIGNATURE then decide (f.addr = 0) && decide (f.len = 192)
  else if f.type = TY_BOOTPARAM then bootBlocks.any (fun b => decide (b.1 ≤ f.addr) && decide (f.addr + f.len ≤ b.2))
  else decide (f.addr + f.len ≤ spaceSize f) &&
    (decide (f.type ≠ TY_CODE) || (decide (f.addr % 32 = 0) && decide (f.len % 32 = 0)))

/-- R307 to R309: the checks of the header's fields. -/
def headerOk (f : ImageFrame) : Bool :=
  decide (ofLe (slice f.head 0 2) = 0x5A45) && decide (ofLe (slice f.head 3 1) = 0) &&
    decide (ofLe (slice f.head 5 3) = 0) && frameTypes.contains f.type && targetOk f && decide (f.addr % 4 = 0) &&
    decide (f.len % 4 = 0) && decide (f.len ≤ 65536) && spaceOk f

/-- R308: a data frame has TYPE bit 7 set. -/
def ImageFrame.isData (f : ImageFrame) : Bool := decide (0x80 ≤ f.type)

/-- R309: the frame's CRC holds. -/
def frameCrcOk (f : ImageFrame) : Bool :=
  decide (ofLe (slice f.head 20 4) = crc32 (f.head.take 20 ++ (if f.isData then [] else f.payload)))

/-- R310: the frame may stand where it does. -/
def orderOk (l : LoaderSt) (f : ImageFrame) : Bool :=
  decide (f.seq = l.nextSeq.getD 0) &&
    (match l.nextSeq with
     | none => decide (f.type = TY_START)
     | some _ =>
       if l.commit.isSome then decide (f.type = TY_SIGNATURE)
       else decide (f.type ≠ TY_START) && decide (f.type ≠ TY_SIGNATURE) &&
         !(decide (f.type = TY_BOOTPARAM) && l.body))

/-- R309, R310, R312: the cause with which a frame fails before anything in it acts. [note 87: DEDUCED] -/
def frameFault (l : LoaderSt) (f : ImageFrame) : Option Nat :=
  if !headerOk f then some F_HEADER
  else if !frameCrcOk f then some (if f.isData then F_HEADER else F_BODY)
  else if !orderOk l f then some F_ORDER
  else none

/-- R311, R330: the frame leaves the stream, and the next must carry the next SEQ. With a key hash in the fuses, every frame up to
COMMIT goes into the digest of the signature. -/
def consumeFrame (w : Work σ) (f : ImageFrame) : Work σ :=
  let signs := w.fuse.hashSet && decide (f.type ≠ TY_SIGNATURE)
  w.updLd (fun l => { l with
    buf := l.buf.drop (24 + f.payload.length), nextSeq := some ((f.seq + 1) % 2 ^ 32)
    stream := if signs then l.stream ++ f.head ++ f.payload else l.stream
    body := l.body || !(decide (f.type = TY_START) || decide (f.type = TY_BOOTPARAM)) })

/-- R312, R386: a source, or the last compressed block, that has ended before the image's last frame. [note 87: DEDUCED] -/
def streamCut (w : Work σ) : Bool :=
  decide (ldState w = LD_LOADING) && !w.ld.ended && !frameReady w.ld.buf && decide (w.ld.dec = []) &&
    (w.ld.lastBlock || (flashLoading w && decide (w.ld.flashLeft = 0) && decide (w.ld.cbuf = [])))

/-- R309, R312: the cause with which a stream that has been cut short fails, and the SEQ recorded: a header that is whole has its own
checks first. [note 87: DEDUCED] -/
def cutFault (w : Work σ) : Nat × Nat :=
  let f := readFrame w.ld.buf
  if 24 ≤ w.ld.buf.length ∧ (!headerOk f ∨ (f.isData ∧ !frameCrcOk f)) then (F_HEADER, f.seq) else (F_ORDER, lastSeq w)

/-- What the source has for the loader joins the stream. -/
def imageFetch (w : Work σ) : Work σ :=
  let w := loaderPull (flashFill w)
  if streamCut w then imageFail w (cutFault w).1 (cutFault w).2 else w

/-! ## The pause for memory training (R450) -/

/-- Whether an enabled memory port is in training. [note 93: DEDUCED] -/
def portsTrain (w : Work σ) : Bool :=
  (List.range 2).any (fun p =>
    (w.on (QDR_CFG_EN p) && decide (w.get (QDR_STATUS p) = QDR_TRAINING)) ||
      (w.on (DDR_CFG_EN p) && decide (ddrState w p = DDR_TRAINING)))

/-- R450: every enabled port that is OFF begins training, and the loader holds its frame meanwhile. [note 93: DEDUCED] -/
def trainPorts (w : Work σ) : Work σ :=
  let w := w.each (List.range 2) (fun w p =>
    let w := if w.on (QDR_CFG_EN p) ∧ w.get (QDR_STATUS p) = QDR_OFF then qdrTrain w p else w
    if w.on (DDR_CFG_EN p) ∧ ddrState w p = DDR_OFF then ddrTrain w p else w)
  w.updLd (fun l => { l with paused := true, holding := portsTrain w })

/-- R450: the first frame of a first image that is neither START nor BOOTPARAM meets the pause. [note 87: DEDUCED] -/
def meetPause (w : Work σ) (f : ImageFrame) : Work σ :=
  if w.ld.paused ∨ f.type = TY_START ∨ f.type = TY_BOOTPARAM then w else trainPorts w

/-- MEMORY_TRAINING_RESUME (R450): every enabled port has finished, and the loader resumes with the frame it held. -/
def execMemoryTrainingResume (s : State) : Host.Outcome State Fault Refusal :=
  run (fun w => if w.ld.holding ∧ !portsTrain w then w.updLd (fun l => { l with holding := false }) else w) s

/-! ## One frame -/

/-- The loader takes the next frame when its TYPE is one that mine names: it fails under R312, is held (R450), or acts. -/
def takeFrame (mine : Nat → Bool) (act : Work σ → ImageFrame → Work σ) (w0 : Work σ) : Work σ :=
  let w := imageFetch w0
  if ldState w ≠ LD_LOADING ∨ w.ld.ended ∨ w.ld.verifying ∨ !frameReady w.ld.buf then w
  else
    let f := readFrame w.ld.buf
    if !mine f.type then w0
    else
      match frameFault w.ld f with
      | some cause => imageFail w cause f.seq
      | none =>
        let w := meetPause w f
        if w.ld.holding then w else imageFetch (act w f)

/-- A frame that acts on arrival and leaves the stream, or fails the image with cause CHECK. -/
def onArrival (act : Work σ → ImageFrame → Option (Work σ)) (w : Work σ) (f : ImageFrame) : Work σ :=
  match act w f with
  | some w => consumeFrame w f
  | none => imageFail w F_CHECK f.seq

/-! ## START (R311) -/

/-- R311: the checks of a START payload. -/
def startOk (w : Work σ) (f : ImageFrame) : Bool :=
  let p := f.payload
  decide (ofLe (slice p 0 2) = 1) && decide (ofLe (slice p 2 2) = w.get DEV_IDENT_PART) &&
    decide (ofLe (slice p 4 1) = w.get DEV_STEPPING_MAJOR) && decide (ofLe (slice p 5 1) ≤ w.get DEV_STEPPING_MINOR) &&
    decide (ofLe (slice p 6 1) < 2) && decide (ofLe (slice p 7 1) = 0) && decide (ofLe (slice p 12 20) = 0)

/-- R311, R331: a START frame begins an image. -/
def startFrame (w : Work σ) (f : ImageFrame) : Work σ :=
  let signed := bit (ofLe (slice f.payload 6 1)) 0
  if !startOk w f then imageFail w F_PART f.seq
  else if !signed ∧ w.fuse.signRequired then imageFail w F_SIG_MISSING f.seq
  else (consumeFrame w f).updLd (fun l => { l with signed := signed, imageId := ofLe (slice f.payload 8 4) })

/-- START (R311). A frame whose TYPE is reserved is met here too (R308). -/
def execStart (s : State) : Host.Outcome State Fault Refusal :=
  run (takeFrame (fun y => decide (y = TY_START) || !frameTypes.contains y) startFrame) s

/-! ## BOOTPARAM (R316) -/

/-- R316: the words written in order; none when a write is rejected. The writes before it stay. -/
def bootWords (w : Work σ) (a : Nat) : List (Nat × Nat) → Bool × Work σ
  | [] => (true, w)
  | (i, v) :: r =>
    let (res, w) := regPut w .hardware (a + 4 * i) v
    if res = .rejected then (false, w) else bootWords w a r

/-- R316: a BOOTPARAM frame. -/
def bootFrame (w : Work σ) (f : ImageFrame) : Work σ :=
  let (ok, w) := bootWords w f.addr f.words
  if ok then consumeFrame w f else imageFail w F_CHECK f.seq

/-- BOOTPARAM (R316). -/
def execBootparam (s : State) : Host.Outcome State Fault Refusal :=
  run (takeFrame (fun y => decide (y = TY_BOOTPARAM)) bootFrame) s

/-! ## SETTING (R158, R267, R313) -/

/-- R313: the Image fields of the register at an address. -/
def imageFields (a : Nat) : List Fld := (((regAt a).getD []).filter (fun f => f.img)).map (fun f => f.fld)

/-- Whether an address lies in the window of a tile at an offset in [lo, hi). -/
def inTile (a lo hi : Nat) : Bool := within a 0x10000000 0x18000000 && within ((a - 0x10000000) % 0x400000) lo hi

/-- R313: whether a word may be staged: its bits outside Image fields are 0. -/
def settingWordOk (a v : Nat) : Bool :=
  decide ((imageFields a).foldl (fun r f => r - bits v f.lo f.width * 2 ^ f.lo) v = 0)

/-- R266, R267: the bits of EVPORT.IN[i] that carry no source. [note 89: DESIGN CHOICE] -/
def noneBits (i : Nat) : Nat := 2 ^ 12 + (if i % 4 = 3 then 2 ^ 31 else 0)

/-- R151, R155, R229, R267, R441: a word as it is staged: the "none" positions of an event input clear and are logged, and a value
outside its limits loads the limit. [note 89: DESIGN CHOICE] -/
def settingLoad (w : Work σ) (a v : Nat) : Nat × Work σ :=
  if inTile a 0x800 0x840 then
    let none_ := v &&& noneBits (a % 0x40 / 4)
    if none_ = 0 then (v, w) else (v - none_, w.errlog 0x02 .hardware (tileOfAddr a) 0 a)
  else if inTile a 0x20 0x24 then (max v 16, w)
  else if inTile a 0x5008 0x500C then
    let s := bits v (DSP_IN_CTRL_SHIFT 0).lo (DSP_IN_CTRL_SHIFT 0).width
    (v - s * 2 ^ (DSP_IN_CTRL_SHIFT 0).lo + min s 16 * 2 ^ (DSP_IN_CTRL_SHIFT 0).lo, w)
  else if a = HK_TIMER.addr then (max v 1, w)
  else (v, w)

/-- R313: a word waits in the shadows of its Image fields. [note 113: DEDUCED] -/
def stageWord (w : Work σ) (a v : Nat) : Work σ :=
  let (v, w) := settingLoad w a v
  w.updLd (fun l => { l with
    shadows := ((imageFields a).map (fun f => (f, bits v f.lo f.width))).reverse ++ l.shadows })

/-- The first address that a SETTING frame names in each of its targets. -/
def settingBases (f : ImageFrame) : List Nat :=
  if f.target = TGT_DEVICE then [f.addr] else f.tiles.map (fun t => tileBase t + f.addr)

/-- R313: a SETTING frame. -/
def settingFrame (w : Work σ) (f : ImageFrame) : Option (Work σ) :=
  let words := (settingBases f).flatMap (fun b => f.words.map (fun x => (b + 4 * x.1, x.2)))
  if words.all (fun x => settingWordOk x.1 x.2) then some (w.each words (fun w x => stageWord w x.1 x.2)) else none

/-- SETTING (R313). -/
def execSetting (s : State) : Host.Outcome State Fault Refusal :=
  run (takeFrame (fun y => decide (y = TY_SETTING)) (onArrival settingFrame)) s

/-! ## CODE (R314) -/

/-- The 32-byte words of a CODE payload, each with its word address. -/
def codeWords (f : ImageFrame) : List (Nat × List Byte) :=
  (List.range (f.payload.length / 32)).map (fun i => (f.addr / 32 + i, slice f.payload (32 * i) 32))

/-- R189, R314: a word of a CODE frame passes its parity, and its bytes 28 to 31 are 0. -/
def codeWordOk (b : List Byte) : Bool := decide (parityFail (ofLe (b.take 28)) = 0) && decide (ofLe (b.drop 28) = 0)

/-- R314, R410: one word for tile t: written at once, or staged in DDR5. -/
def codeWord (w : Work σ) (t a : Nat) (b : List Byte) : Option (Work σ) :=
  if tileReleased w t then
    let c := w.get LOADER_STAGE_CHAN
    if ddrResult w c (stageAddr w t a - ddrBase c) = .ok then
      some ((w.ddrWrite 3 (stageAddr w t a) b).updLd (fun l => { l with
        code := if l.code.contains (t, a) then l.code else l.code ++ [(t, a)] }))
    else none
  else some ((w.wrBytes (csBase t + 32 * a) (b.take 28)).set (CODE_HELD t) 1)

/-- R314: a CODE frame. Words already written stay when a later one cannot be staged.
[notes 91: DEDUCED, 113: DEDUCED] -/
def codeFrame (w : Work σ) (f : ImageFrame) : Work σ :=
  if !(codeWords f).all (fun x => codeWordOk x.2) then imageFail w F_CHECK f.seq
  else
    let words := f.tiles.flatMap (fun t => (codeWords f).map (fun x => (t, x.1, x.2)))
    let r := words.foldl (fun (r : Bool × Work σ) x =>
      if r.1 then (match codeWord r.2 x.1 x.2.1 x.2.2 with | some w => (true, w) | none => (false, r.2)) else r) (true, w)
    if r.1 then consumeFrame r.2 f else imageFail r.2 F_CHECK f.seq

/-- CODE (R314). -/
def execCode (s : State) : Host.Outcome State Fault Refusal :=
  run (takeFrame (fun y => decide (y = TY_CODE)) codeFrame) s

/-! ## Frames that write on arrival (R308, R315) -/

/-- R315: the words of a TABLE or QDRPAGE frame, written as a host writes them. bad: those whose command fails its parity. -/
def qdrFrame (bad : List Nat) (w : Work σ) (f : ImageFrame) : Option (Work σ) :=
  some (w.each f.words (fun w x => (mapWrite w .hardware (0x200000000 + f.addr + 4 * x.1) x.2 (!bad.contains x.1)).2))

/-- TABLE (R315). -/
def execTable (bad : List Nat) (s : State) : Host.Outcome State Fault Refusal :=
  run (takeFrame (fun y => decide (y = TY_TABLE)) (onArrival (qdrFrame bad))) s

/-- QDRPAGE (R308). -/
def execQdrpage (bad : List Nat) (s : State) : Host.Outcome State Fault Refusal :=
  run (takeFrame (fun y => decide (y = TY_QDRPAGE)) (onArrival (qdrFrame bad))) s

/-- R308, R315: the payload written to a memory of each target tile, at an offset of its window. -/
def memoryFrame (off : Nat) (w : Work σ) (f : ImageFrame) : Option (Work σ) :=
  some (w.each f.tiles (fun w t => w.wrBytes (tileBase t + off + f.addr) f.payload))

/-- ENVELOPE (R315). -/
def execEnvelope (s : State) : Host.Outcome State Fault Refusal :=
  run (takeFrame (fun y => decide (y = TY_ENVELOPE)) (onArrival (memoryFrame 0x100000))) s

/-- KERNEL (R308). -/
def execKernel (s : State) : Host.Outcome State Fault Refusal :=
  run (takeFrame (fun y => decide (y = TY_KERNEL)) (onArrival (memoryFrame 0xC0000))) s

/-- DSPDATA (R308). -/
def execDspdata (s : State) : Host.Outcome State Fault Refusal :=
  run (takeFrame (fun y => decide (y = TY_DSPDATA)) (onArrival (memoryFrame 0x80000))) s

/-- R315: patch words wait for the clasp point. -/
def patchFrame (w : Work σ) (f : ImageFrame) : Option (Work σ) :=
  some (w.updLd (fun l => { l with patch := l.patch ++ f.words.map (fun x => (f.addr / 4 + x.1, x.2)) }))

/-- HKPATCH (R315). -/
def execHkpatch (s : State) : Host.Outcome State Fault Refusal :=
  run (takeFrame (fun y => decide (y = TY_HKPATCH)) (onArrival patchFrame)) s

/-! ## The setting as a whole (R42, R75, R100, R162, R280, R290, R317, R402) -/

/-- R317: the setting in force with every staged value applied. -/
def newSetting (w : Work σ) : Work σ := w.each w.ld.shadows.reverse (fun w s => w.set s.1 s.2)

/-- R42: the clasp depths of tile t. -/
def depthsOk (w : Work σ) (t : Nat) : Bool :=
  let ds := (List.range 33).map (fun c => w.get (CLASP_QUEUE_DEPTH t c))
  ds.all (fun d => decide (8 ≤ d) && decide (d ≤ 512) && decide (d % 8 = 0)) && decide (ds.foldl (· + ·) 0 ≤ 2048)

/-- R42: the limits bind the tiles that the commit releases and those that have been released. -/
def depthsBind (w : Work σ) (release t : Nat) : Bool := bit release t || decide (w.get (SEQ_STATE_STATE t) ≠ NOT_RELEASED)

/-- R75: at most four engines to a DAC, and no reserved route. -/
def driveRouteOk (w : Work σ) (t : Nat) : Bool :=
  let rs := (List.range 8).map (fun e => w.get (DRIVE_ROUTE_XY t e))
  !rs.contains 3 && decide (rs.count 1 ≤ 4) && decide (rs.count 2 ≤ 4)

/-- R100: the flux routes form a permutation. -/
def fluxRouteOk (w : Work σ) (t : Nat) : Bool :=
  (List.range 8).all (fun v => (List.range 8).any (fun k => decide (w.get (FLUX_ROUTE_BALL t k) = v)))

/-- R162: a named slot exists. -/
def slotOk (on : Bool) (n : Nat) : Bool := !on || decide (n < 336)

/-- R162: the slots of a tile's watchers. -/
def watchSlotsOk (w : Work σ) (t : Nat) : Bool :=
  (List.range 16).all (fun d => (List.range 4).all (fun i => slotOk (w.on (WATCH_KEY_EN t d i)) (w.get (WATCH_KEY_SLOT t d i))))

/-- R162: the slots of the broadcast's exports and remote entries. -/
def decbSlotsOk (w : Work σ) : Bool :=
  (List.range 64).all (fun i => slotOk (w.on (DECB_EXPORT_EN i)) (w.get (DECB_EXPORT_SLOT i))) &&
    (List.range 64).all (fun i => slotOk (w.on (DECB_REMOTE_EN i)) (w.get (DECB_REMOTE_SLOT i)))

/-- R162, R402: the slots and the region of a table context. [note 90: DEDUCED] -/
def ctxOk (w : Work σ) (u c : Nat) : Bool :=
  (List.range 22).all (fun i => slotOk (w.on (TABLE_CTX_KEYSEL_EN u c i)) (w.get (TABLE_CTX_KEYSEL_SLOT u c i))) &&
    (!w.on (TABLE_CTX_CFG_EN u c) || decide ((w.get (TABLE_CTX_CFG_REGION u c) + 1) * 2 ^ 22 ≤ qdrCapacity w u))

/-- The enabled queues of tile t. -/
def enabledQueues (w : Work σ) (t : Nat) : List Nat := (List.range 512).filter (fun i => qEnabled w t i)

/-- R280: sizes, bases and placement of one queue's ring. -/
def ringOk (w : Work σ) (t i : Nat) : Bool :=
  let k := w.get (QT_CFG_SIZE_LOG2 t i)
  if w.on (QT_CFG_PLACE t i) then decide (i < 256) && decide (1 ≤ k) && decide (k ≤ 24)
  else decide (1 ≤ k) && decide (k ≤ 13) && decide (w.get (QT_BASE t i) % 2 ^ k = 0) &&
    decide (w.get (QT_BASE t i) + 2 ^ k ≤ 8192)

/-- R280: no two tile rings of the tile share an entry. [note 90: DEDUCED] -/
def ringsApart (w : Work σ) (t : Nat) : List Nat → Bool
  | [] => true
  | i :: is =>
    is.all (fun j => decide (w.get (QT_BASE t i) + qSize w t i ≤ w.get (QT_BASE t j)) ||
      decide (w.get (QT_BASE t j) + qSize w t j ≤ w.get (QT_BASE t i))) && ringsApart w t is

/-- R280: an enabled peer end whose partner lies on this device, with that partner. -/
def peerOk (w : Work σ) (t i : Nat) : Bool :=
  let u := w.get (QT_PEER_TILE t i)
  let j := w.get (QT_PEER_INDEX t i)
  w.on (QT_PEER_REMOTE t i) ||
    (decide (448 ≤ j) && qEnabled w u j && decide (w.get (QT_CFG_DIR u j) ≠ w.get (QT_CFG_DIR t i)) &&
      !w.on (QT_PEER_REMOTE u j) && decide (w.get (QT_PEER_TILE u j) = t) && decide (w.get (QT_PEER_INDEX u j) = i))

/-- R280, R290: one enabled queue. [note 90: DEDUCED] -/
def queueOk (w : Work σ) (t i : Nat) : Bool :=
  let c := w.get (QT_CFG_CONSUMER t i)
  ringOk w t i &&
    (decide (128 ≤ i) || (decide (c < 4) && (decide (c ≠ CONSUMER_REG) || qOutHost w t (w.get (QT_CFG_RESP t i))))) &&
    (decide (i < 448) || ((w.on (QT_CFG_DIR t i) || decide (c < 2)) && peerOk w t i))

/-- R280: the queues of tile t. -/
def queuesOk (w : Work σ) (t : Nat) : Bool :=
  let qs := enabledQueues w t
  qs.all (fun i => queueOk w t i) && ringsApart w t (qs.filter (fun i => !w.on (QT_CFG_PLACE t i)))

/-- R280: at most one enabled queue has the image loader as its consumer. -/
def imageQueuesOk (w : Work σ) : Bool :=
  decide (((List.range 32).flatMap (fun t => (enabledQueues w t).filter (fun i =>
    decide (i < 128) && decide (w.get (QT_CFG_CONSUMER t i) = CONSUMER_IMAGE)))).length ≤ 1)

/-- R158: whether a staged value, where it is an NFACET, lies from 2 to 4. [note 144: DEDUCED] -/
def nfacetOk (x : Fld × Nat) : Bool :=
  !(inTile x.1.addr 0x6000 0x6200 && decide (x.1.addr % 0x40 = 0x20) && decide (x.1.lo = 0)) ||
    (decide (2 ≤ x.2) && decide (x.2 ≤ 4))

/-- R317: a setting that the loader accepts. -/
def settingOk (w : Work σ) (release : Nat) : Bool :=
  (List.range 32).all (fun t => (!depthsBind w release t || depthsOk w t) && driveRouteOk w t && fluxRouteOk w t &&
      watchSlotsOk w t && queuesOk w t) &&
    decbSlotsOk w && [(0, 0), (0, 1), (1, 0), (1, 1)].all (fun x => ctxOk w x.1 x.2) && imageQueuesOk w && w.ld.shadows.all nfacetOk

/-! ## The commit (R317, R318, R451) -/

/-- R451: converters are locked and calibrated, so that a commit can be checked. -/
def commitReady (w : Work σ) : Bool := w.on DEV_STATUS_PLL_LOCK && w.on DEV_STATUS_CONV_CAL_DONE

/-- R317: whether the commit changes the lockstep mode. [note 133: DEDUCED] -/
def lockstepChanges (w : Work σ) : Bool := decide ((newSetting w).get LOADER_DEVSET ≠ w.get LOADER_DEVSET)

/-- R314, R317, R318, R320, R332: an accepted commit waits for its point; while that waits for an edge, P stays the last applied.
[notes 25: DEDUCED, 126: DEDUCED] -/
def pend (w : Work σ) (c : Commit) (p : Nat) (due : Option Nat) (await : Bool) : Work σ :=
  let w := if lockstepChanges w then w.each (List.range 32) (fun w t => w.set (CODE_HELD t) 1) else w
  let w := ((w.set LOADER_STATE_STATE LD_PENDING).set LOADER_P (if await then w.get LOADER_P else p)).updLd (fun l => { l with
    commit := some c, ended := true, dueTick := due, awaitEdge := await })
  w.each w.ld.code (fun w x => w.setBit LOADER_SWAP_PEND x.1 true)

/-- R318, R451: the clasp point of an accepted commit. [note 25: DEDUCED] -/
def choosePoint (w : Work σ) (seq : Nat) (c : Commit) : Work σ :=
  if c.mode = 2 then
    let w := pend w c 0 none true
    if anyReleased w then w else w.set TIME_EPOCH_CTRL 1
  else if !w.on TIME_EPOCH_STATUS_VALID then
    (if c.release ≠ 0 then imageFail w F_CHECK seq else pend w c 0 (some (w.dev.ticks + 1024)) false)
  else if c.mode = 0 then
    (if c.value < w.now + 1024 then imageFail w F_LATE seq else pend w c c.value none false)
  else pend w c (w.now + max c.value 1024) none false

/-- R317: the check of the whole setting, and acceptance. seq: the SEQ of the COMMIT frame.
[notes 88: DEDUCED, 133: DEDUCED] -/
def accept (w : Work σ) (seq : Nat) (c : Commit) : Work σ :=
  if !settingOk (newSetting w) c.release then imageFail w F_CHECK seq
  else if lockstepChanges w ∧ anyReleased w then imageFail w F_STATE seq
  else choosePoint w seq c

/-- R318: the payload of a COMMIT frame; none where a reserved value stands in it. [note 88: DEDUCED] -/
def readCommit (f : ImageFrame) : Option Commit :=
  let p := f.payload
  if ofLe (slice p 0 1) < 3 ∧ ofLe (slice p 1 3) = 0 then
    some ⟨ofLe (slice p 0 1), ofLe (slice p 4 4), ofLe (slice p 8 8)⟩
  else none

/-- R451: the loader holds the COMMIT until it can be checked. -/
def holdCommit (w : Work σ) : Work σ := w.updLd (fun l => { l with commitHeld := true })

/-- R310, R317, R451: a COMMIT frame: a signed image goes on to its SIGNATURE, another is accepted once it can be checked. -/
def commitFrame (w : Work σ) (f : ImageFrame) : Work σ :=
  match readCommit f with
  | none => imageFail w F_CHECK f.seq
  | some c =>
    if w.ld.signed then (consumeFrame w f).updLd (fun l => { l with commit := some c })
    else if commitReady w then accept (consumeFrame w f) f.seq c
    else holdCommit w

/-- COMMIT (R317). [note 8: DEDUCED] -/
def execCommit (s : State) : Host.Outcome State Fault Refusal :=
  run (takeFrame (fun y => decide (y = TY_COMMIT)) commitFrame) s

/-- The SEQ of the COMMIT frame, one before that of a SIGNATURE frame. -/
def commitSeq (sigSeq : Nat) : Nat := (sigSeq + 2 ^ 32 - 1) % 2 ^ 32

/-- R310, R330: a SIGNATURE frame ends the image: its verification begins, or, with no key hash in the fuses, the commit is
accepted. -/
def signatureFrame (w : Work σ) (f : ImageFrame) : Work σ :=
  if w.fuse.hashSet then (consumeFrame w f).updLd (fun l => { l with verifying := true, ended := true, sig := f.payload })
  else
    match w.ld.commit with
    | some c => if commitReady w then accept (consumeFrame w f) (commitSeq f.seq) c else holdCommit w
    | none => w

/-- SIGNATURE (R330). -/
def execSignature (s : State) : Host.Outcome State Fault Refusal :=
  run (takeFrame (fun y => decide (y = TY_SIGNATURE)) signatureFrame) s

/-- R330: the verification completes. [note 94: PRESUMED] -/
def signatureDone (w : Work σ) : Work σ :=
  if ldState w = LD_LOADING ∧ w.ld.verifying then
    if !signatureOk w.fuse.keyHash w.ld.stream w.ld.sig then imageFail w F_SIG_BAD (lastSeq w)
    else
      match w.ld.commit with
      | some c => if commitReady w then accept w (commitSeq (lastSeq w)) c else holdCommit w
      | none => w
  else w

/-- SIGNATURE_CHECK_DONE (R330). -/
def execSignatureCheckDone (s : State) : Host.Outcome State Fault Refusal := run signatureDone s

/-! ## A commit that was held (R451) -/

/-- R451: a COMMIT that the loader holds, with its signature verified where it needs one, is checked once it can be. -/
def heldCommit (w : Work σ) : Work σ :=
  if !w.ld.commitHeld ∨ !commitReady w ∨ ldState w ≠ LD_LOADING then w
  else
    let w := w.updLd (fun l => { l with commitHeld := false })
    match w.ld.verifying, w.ld.commit with
    | true, some c => accept w (commitSeq (lastSeq w)) c
    | _, some _ => takeFrame (fun y => decide (y = TY_SIGNATURE)) signatureFrame w
    | _, none => takeFrame (fun y => decide (y = TY_COMMIT)) commitFrame w

/-- PLL_LOCK_ACQUIRED (R449). -/
def execPllLockAcquired (s : State) : Host.Outcome State Fault Refusal := run (fun w => heldCommit (pllLocked w)) s

/-- FOREGROUND_CALIBRATION_DONE (R449). -/
def execForegroundCalibrationDone (s : State) : Host.Outcome State Fault Refusal :=
  run (fun w => heldCommit (foregroundDone w)) s

/-! ## The clasp point (R319, R320) -/

/-- The staged fields whose values the clasp point changes. [note 65: DEDUCED] -/
def changes (w : Work σ) : List Fld :=
  let n := newSetting w
  (w.ld.shadows.map (fun s => s.1)).filter (fun f => decide (n.get f ≠ w.get f))

/-- Whether one of the fields lies at an address in [lo, lo + n). [note 65: DEDUCED] -/
def touches (fs : List Fld) (lo n : Nat) : Bool := fs.any (fun f => decide (lo ≤ f.addr) && decide (f.addr < lo + n))

/-- R98, R319: the coefficients and routes that change are kept for the frames that the output paths still hold.
[note 35: DEDUCED] -/
def keepCoefficients (w : Work σ) (fs : List Fld) : Work σ :=
  w.each (List.range 32) (fun w t =>
    let old := fs.filter (fun f => decide (tileBase t + 0x2000 ≤ f.addr) && decide (f.addr < tileBase t + 0x4000))
    if old = [] then w
    else w.updTile t (fun x => { x with fluxOld := (w.dev.ticks, old.map (fun f => (f.key, w.get f))) :: x.fluxOld }))

/-- R109, R319: the references of probe engines whose frequency or offset words change are kept for the demodulators. -/
def keepReferences (w : Work σ) (fs : List Fld) : Work σ :=
  w.each (List.range 32) (fun w t => w.each (List.range 8) (fun w e =>
    if touches fs (tileBase t + 0x1000 + 0x100 * (8 + e)) 0x30 then keepReference w t (8 + e) (w.now * 16) else w))

/-- R98: a flux section that the commit has disabled discards its state. [note 36: DESIGN CHOICE] -/
def dropSections (w : Work σ) (fs : List Fld) : Work σ :=
  w.each (List.range 32) (fun w t => w.each (List.range 8) (fun w e =>
    if touches fs (tileBase t + 0x3000 + 0x100 * e) 0x100 then
      w.updFlux t e (fun x => { x with u := x.u.zipIdx.map (fun y => if w.on (FLUX_IIR_K_EN t e y.2) then y.1 else none) })
    else w))

/-- R320: a watcher whose definition has changed loses its captures and evaluates its slots as they stand.
[note 65: DEDUCED] -/
def renewWatchers (w : Work σ) (fs : List Fld) : Work σ :=
  w.each (List.range 32) (fun w t => w.each (List.range 16) (fun w d =>
    if touches fs (tileBase t + 0x6800 + 0x20 * d) 0x20 then watchEval (watchClear w t d) t d else w))

/-- R280, R282: a queue whose configuration has changed restarts empty; of a stage queue the entries go that it holds.
[note 65: DEDUCED] -/
def queueRestart (w : Work σ) (t i : Nat) : Work σ :=
  (qRestart w t i).updTile t (fun x => { x with stage := x.stage.filter (fun s => decide (stageIndex s.entry.clasp ≠ i)) })

/-- R280: the queues whose configuration has changed restart. [note 65: DEDUCED] -/
def renewQueues (w : Work σ) (fs : List Fld) : Work σ :=
  w.each (List.range 32) (fun w t =>
    if touches fs (tileBase t + 0x20000) 0x4000 then
      w.each (List.range 512) (fun w i => if touches fs (tileBase t + 0x20000 + 32 * i) 12 then queueRestart w t i else w)
    else w)

/-- R319: the lookups under way publish the rounds that they would have published without the commit. [note 64: DEDUCED] -/
def keepRounds (r : Nat) : List Lookup → List Lookup
  | [] => []
  | k :: ks =>
    match k.round with
    | some _ => k :: keepRounds r ks
    | none => { k with round := some ((r + 1) % 16) } :: keepRounds (r + 1) ks

/-- R177: a table context whose KEYSEL or CFG has changed starts from round 0, and sees its slots. [note 64: DEDUCED] -/
def renewContexts (w : Work σ) (fs : List Fld) : Work σ :=
  let hit := [(0, 0), (0, 1), (1, 0), (1, 1)].filter (fun x => touches fs (0x602000 + 0x400 * x.1 + 0x200 * x.2) 0x64)
  if hit = [] then w
  else tablesSee 8 (w.each hit (fun w x =>
    (w.updCtx x.1 x.2 (fun y => { TableCtx.reset with
      lookups := keepRounds (w.get (TABLE_CTX_STATUS_ROUND x.1 x.2)) y.lookups })).set (TABLE_CTX_STATUS_ROUND x.1 x.2) 0))

/-- R95: a staged DC governs from slot 0 of P. -/
def renewDc (w : Work σ) (fs : List Fld) : Work σ :=
  w.each (List.range 32) (fun w t => w.each (List.range 8) (fun w e =>
    if touches fs (tileBase t + 0x3000 + 0x100 * e) 4 then w.set (FLUX_DC_DUE t e) 0 else w))

/-- R274, R319: every staged value of every target takes effect together, and notification logics that waited for credit go on. -/
def applySetting (w : Work σ) : Work σ :=
  let fs := changes w
  let alerts := alertState w
  let w := newSetting (keepReferences (keepCoefficients w fs) fs)
  let w := renewDc (dropSections (renewQueues w fs) fs) fs
  let w := renewContexts (renewWatchers w fs) fs
  alertBalls alerts (noteRetry (w.set DEV_STATUS_LOCKSTEP (w.get LOADER_DEVSET)))

/-- R319: the tiles that RELEASE names are released, and any other tile named is recorded. Storm lets none run (R437).
[note 92: DEDUCED] -/
def applyReleases (w : Work σ) (release : Nat) : Work σ :=
  w.each ((List.range 32).filter (fun t => bit release t)) (fun w t =>
    if w.get (SEQ_STATE_STATE t) = NOT_RELEASED ∧ !w.on THERM_STORM_TRIPPED then releaseTile w t w.now
    else w.errlog 0x02 .hardware t 0 0)

/-- R315, R428: staged patch words go to the housekeeping controller, behind those of an earlier commit. -/
def applyPatchWords (w : Work σ) : Work σ :=
  if w.ld.patch = [] then w
  else hkKick (w.updHk (fun h => { h with patch := h.patch ++ w.ld.patch }))

/-- R320: the loader waits for the swaps that are pending, or is done. -/
def afterPoint (w : Work σ) : Work σ :=
  if w.get LOADER_SWAP_PEND = 0 then loaderIdle w
  else (w.set LOADER_STATE_STATE LD_SWAPPING).updLd (fun l => { ldClear l with code := l.code, otherSlot := none })

/-- R319, R320: the boundary of P. -/
def claspPoint (w : Work σ) (c : Commit) : Work σ :=
  let verified := w.ld.verifying
  let w := applySetting w
  let w := w.each (List.range 32) (fun w t => w.set (CODE_HELD t) 0)
  let w := ((w.set DEV_STATUS_IMAGE_COMMITTED 1).set LOADER_IMAGE_ID w.ld.imageId).setB LOADER_STATE_VERIFIED verified
  let w := ((w.fire 501).inc LOADER_COUNT_COMMITS).set LOADER_P_APPLIED (w.get LOADER_P)
  afterPoint (applyPatchWords (applyReleases w c.release))

/-- CLASP_POINT (R319): the commit that is due applies, and the frame that begins there begins after it.
[note 8: DEDUCED] -/
def execClaspPoint (s : State) : Host.Outcome State Fault Refusal :=
  run (fun w =>
    match w.ld.commit with
    | some c => if pointDue w then beginHeld (claspPoint w c) else w
    | none => w) s

end Sys2Proof.Machine
end

