-- ==== Sys2Proof/Machine/Dispatch.lean ====
section
/-! DEFINITION. The meaning of each command: one arm per constructor. -/

namespace Sys2Proof.Machine

def exec (i : Instr) (s : State) : Host.Outcome State Fault Refusal :=
  match i with
  | .poresetAssert => Sys2Proof.Machine.execPoresetAssert s
  | .poresetRelease sel trip => Sys2Proof.Machine.execPoresetRelease sel trip s
  | .vdda18PowerUp => Sys2Proof.Machine.execVdda18PowerUp s
  | .refclkDetect => Sys2Proof.Machine.execRefclkDetect s
  | .refclkLoss => Sys2Proof.Machine.execRefclkLoss s
  | .pllLockAcquired => Sys2Proof.Machine.execPllLockAcquired s
  | .pllLockLoss => Sys2Proof.Machine.execPllLockLoss s
  | .foregroundCalibrationDone => Sys2Proof.Machine.execForegroundCalibrationDone s
  | .fabricSetpointReached ps => Sys2Proof.Machine.execFabricSetpointReached ps s
  | .deviceResetRequest via v => Sys2Proof.Machine.execDeviceResetRequest via v s
  | .deviceReset sel => Sys2Proof.Machine.execDeviceReset sel s
  | .tileReset via v => Sys2Proof.Machine.execTileReset via v s
  | .tileResetComplete t => Sys2Proof.Machine.execTileResetComplete t s
  | .bootGo via src => Sys2Proof.Machine.execBootGo via src s
  | .memoryTrainingResume => Sys2Proof.Machine.execMemoryTrainingResume s
  | .tapReset => Sys2Proof.Machine.execTapReset s
  | .frameTick frames taken => Sys2Proof.Machine.execFrameTick frames taken s
  | .tlLoRead => Sys2Proof.Machine.execTlLoRead s
  | .clkSrcWrite via src => Sys2Proof.Machine.execClkSrcWrite via src s
  | .epochArm via => Sys2Proof.Machine.execEpochArm via s
  | .epochEdge phase => Sys2Proof.Machine.execEpochEdge phase s
  | .tlZeroBoundary => Sys2Proof.Machine.execTlZeroBoundary s
  | .claspAdmit t c => Sys2Proof.Machine.execClaspAdmit t c s
  | .pageWaitLate t e => Sys2Proof.Machine.execPageWaitLate t e s
  | .pageFetchDone t buf bad => Sys2Proof.Machine.execPageFetchDone t buf bad s
  | .pageFetchLate t e => Sys2Proof.Machine.execPageFetchLate t e s
  | .lowWaterRead t => Sys2Proof.Machine.execLowWaterRead t s
  | .cursorLoRead t => Sys2Proof.Machine.execCursorLoRead t s
  | .abortGo via t => Sys2Proof.Machine.execAbortGo via t s
  | .abortComplete t => Sys2Proof.Machine.execAbortComplete t s
  | .abortBoundary t => Sys2Proof.Machine.execAbortBoundary t s
  | .play t c => Sys2Proof.Machine.execPlay t c s
  | .stop t c => Sys2Proof.Machine.execStop t c s
  | .pulseSpanEnd t c => Sys2Proof.Machine.execPulseSpanEnd t c s
  | .freq t e => Sys2Proof.Machine.execFreq t e s
  | .vzset t e => Sys2Proof.Machine.execVzset t e s
  | .vzadd t e => Sys2Proof.Machine.execVzadd t e s
  | .tplLo t c => Sys2Proof.Machine.execTplLo t c s
  | .tplHi t c => Sys2Proof.Machine.execTplHi t c s
  | .quiet t e => Sys2Proof.Machine.execQuiet t e s
  | .dcset t e => Sys2Proof.Machine.execDcset t e s
  | .dcadd t e => Sys2Proof.Machine.execDcadd t e s
  | .kdesc t k => Sys2Proof.Machine.execKdesc t k s
  | .window t k => Sys2Proof.Machine.execWindow t k s
  | .resultPresentation t k => Sys2Proof.Machine.execResultPresentation t k s
  | .lookupReturn u c parityOk waitPs => Sys2Proof.Machine.execLookupReturn u c parityOk waitPs s
  | .tableTimeout u c => Sys2Proof.Machine.execTableTimeout u c s
  | .tableResync u c => Sys2Proof.Machine.execTableResync u c s
  | .armingEffect t => Sys2Proof.Machine.execArmingEffect t s
  | .latePolicy t c => Sys2Proof.Machine.execLatePolicy t c s
  | .fenceTimeout t => Sys2Proof.Machine.execFenceTimeout t s
  | .c0Block l copies => Sys2Proof.Machine.execC0Block l copies s
  | .wordFetch t => Sys2Proof.Machine.execWordFetch t s
  | .seqNext t => Sys2Proof.Machine.execSeqNext t s
  | .seqJump t => Sys2Proof.Machine.execSeqJump t s
  | .seqBranch t => Sys2Proof.Machine.execSeqBranch t s
  | .seqRetif t => Sys2Proof.Machine.execSeqRetif t s
  | .seqLoopb t => Sys2Proof.Machine.execSeqLoopb t s
  | .seqCall t => Sys2Proof.Machine.execSeqCall t s
  | .seqRet t => Sys2Proof.Machine.execSeqRet t s
  | .seqPush t => Sys2Proof.Machine.execSeqPush t s
  | .seqHalt t => Sys2Proof.Machine.execSeqHalt t s
  | .seqAbort t => Sys2Proof.Machine.execSeqAbort t s
  | .safe t => Sys2Proof.Machine.execSafe t s
  | .fence t => Sys2Proof.Machine.execFence t s
  | .xyPlay t b => Sys2Proof.Machine.execXyPlay t b s
  | .xyStop t b => Sys2Proof.Machine.execXyStop t b s
  | .xyZadd t b => Sys2Proof.Machine.execXyZadd t b s
  | .xyZset t b => Sys2Proof.Machine.execXyZset t b s
  | .xyQuiet t b => Sys2Proof.Machine.execXyQuiet t b s
  | .xyPmem t b => Sys2Proof.Machine.execXyPmem t b s
  | .flxPlay t => Sys2Proof.Machine.execFlxPlay t s
  | .flxStop t => Sys2Proof.Machine.execFlxStop t s
  | .flxDcadd t => Sys2Proof.Machine.execFlxDcadd t s
  | .flxDcset t => Sys2Proof.Machine.execFlxDcset t s
  | .flxPmem t => Sys2Proof.Machine.execFlxPmem t s
  | .rdoProbe t => Sys2Proof.Machine.execRdoProbe t s
  | .rdoPstop t => Sys2Proof.Machine.execRdoPstop t s
  | .rdoWindow t => Sys2Proof.Machine.execRdoWindow t s
  | .decArm t => Sys2Proof.Machine.execDecArm t s
  | .decArmn t => Sys2Proof.Machine.execDecArmn t s
  | .decStage2 t => Sys2Proof.Machine.execDecStage2 t s
  | .decStage4 t => Sys2Proof.Machine.execDecStage4 t s
  | .dspNop t => Sys2Proof.Machine.execDspNop t s
  | .dspMov t => Sys2Proof.Machine.execDspMov t s
  | .dspAdd t => Sys2Proof.Machine.execDspAdd t s
  | .dspSub t => Sys2Proof.Machine.execDspSub t s
  | .dspMul t => Sys2Proof.Machine.execDspMul t s
  | .dspCmul t => Sys2Proof.Machine.execDspCmul t s
  | .dspCmulj t => Sys2Proof.Machine.execDspCmulj t s
  | .dspMac t => Sys2Proof.Machine.execDspMac t s
  | .dspMsu t => Sys2Proof.Machine.execDspMsu t s
  | .dspPmac t => Sys2Proof.Machine.execDspPmac t s
  | .dspCmac t => Sys2Proof.Machine.execDspCmac t s
  | .dspCmacj t => Sys2Proof.Machine.execDspCmacj t s
  | .dspAccum t => Sys2Proof.Machine.execDspAccum t s
  | .dspCaccum t => Sys2Proof.Machine.execDspCaccum t s
  | .dspPacc t => Sys2Proof.Machine.execDspPacc t s
  | .dspAccout t => Sys2Proof.Machine.execDspAccout t s
  | .dspCaccout t => Sys2Proof.Machine.execDspCaccout t s
  | .dspMaxi t => Sys2Proof.Machine.execDspMaxi t s
  | .dspMini t => Sys2Proof.Machine.execDspMini t s
  | .dspHist t => Sys2Proof.Machine.execDspHist t s
  | .dspStart t => Sys2Proof.Machine.execDspStart t s
  | .dspTest t => Sys2Proof.Machine.execDspTest t s
  | .dspPop t => Sys2Proof.Machine.execDspPop t s
  | .inTimeout t => Sys2Proof.Machine.execInTimeout t s
  | .aguMod t b => Sys2Proof.Machine.execAguMod t b s
  | .aguStep t b => Sys2Proof.Machine.execAguStep t b s
  | .aguReset t b => Sys2Proof.Machine.execAguReset t b s
  | .aguLdp t b => Sys2Proof.Machine.execAguLdp t b s
  | .aguLdm t b => Sys2Proof.Machine.execAguLdm t b s
  | .aguLdb t b => Sys2Proof.Machine.execAguLdb t b s
  | .aguLdl t b => Sys2Proof.Machine.execAguLdl t b s
  | .evtTake t => Sys2Proof.Machine.execEvtTake t s
  | .evtFire t => Sys2Proof.Machine.execEvtFire t s
  | .quePush t => Sys2Proof.Machine.execQuePush t s
  | .queNote t => Sys2Proof.Machine.execQueNote t s
  | .quePop t => Sys2Proof.Machine.execQuePop t s
  | .capArm t => Sys2Proof.Machine.execCapArm t s
  | .capFire t => Sys2Proof.Machine.execCapFire t s
  | .capDisarm t => Sys2Proof.Machine.execCapDisarm t s
  | .capSnap t => Sys2Proof.Machine.execCapSnap t s
  | .loopLoad t => Sys2Proof.Machine.execLoopLoad t s
  | .loopLoadi t => Sys2Proof.Machine.execLoopLoadi t s
  | .loopDec t => Sys2Proof.Machine.execLoopDec t s
  | .codeSwap t => Sys2Proof.Machine.execCodeSwap t s
  | .codeSwapCopyDone t => Sys2Proof.Machine.execCodeSwapCopyDone t s
  | .hostStop via t => Sys2Proof.Machine.execHostStop via t s
  | .hostHalt via t => Sys2Proof.Machine.execHostHalt via t s
  | .seqStep via t resync => Sys2Proof.Machine.execSeqStep via t resync s
  | .seqResume via t resync => Sys2Proof.Machine.execSeqResume via t resync s
  | .drainComplete t => Sys2Proof.Machine.execDrainComplete t s
  | .acqArm t => Sys2Proof.Machine.execAcqArm t s
  | .acqFire t => Sys2Proof.Machine.execAcqFire t s
  | .acqDisarm t => Sys2Proof.Machine.execAcqDisarm t s
  | .acqSnap t => Sys2Proof.Machine.execAcqSnap t s
  | .trigInEdge k fall at8ps => Sys2Proof.Machine.execTrigInEdge k fall at8ps s
  | .recordOpen t => Sys2Proof.Machine.execRecordOpen t s
  | .groupSettleEnd t => Sys2Proof.Machine.execGroupSettleEnd t s
  | .recordingEnd t => Sys2Proof.Machine.execRecordingEnd t s
  | .rearmEnd t => Sys2Proof.Machine.execRearmEnd t s
  | .triggerMessage => Sys2Proof.Machine.execTriggerMessage s
  | .triggerToken l copies => Sys2Proof.Machine.execTriggerToken l copies s
  | .dacCalStepDone t d => Sys2Proof.Machine.execDacCalStepDone t d s
  | .calStale t d => Sys2Proof.Machine.execCalStale t d s
  | .adcCalStepDone t => Sys2Proof.Machine.execAdcCalStepDone t s
  | .adcCalStale t => Sys2Proof.Machine.execAdcCalStale t s
  | .eventEmit src => Sys2Proof.Machine.execEventEmit src s
  | .eventArrival sink src parityOk others => Sys2Proof.Machine.execEventArrival sink src parityOk others s
  | .eventsEvtFire src => Sys2Proof.Machine.execEventsEvtFire src s
  | .datagramReceive p pkt => Sys2Proof.Machine.execDatagramReceive p pkt s
  | .claim p v6 addr reached udp => Sys2Proof.Machine.execClaim p v6 addr reached udp s
  | .replay q first => Sys2Proof.Machine.execReplay q first s
  | .regRd t k bad => Sys2Proof.Machine.execRegRd t k bad s
  | .regWr t k bad => Sys2Proof.Machine.execRegWr t k bad s
  | .regRmw t k readOk writeOk => Sys2Proof.Machine.execRegRmw t k readOk writeOk s
  | .claspFeedMove t k => Sys2Proof.Machine.execClaspFeedMove t k s
  | .coalesceTimeout q => Sys2Proof.Machine.execCoalesceTimeout q s
  | .retxTimeout q => Sys2Proof.Machine.execRetxTimeout q s
  | .sessionBump => Sys2Proof.Machine.execSessionBump s
  | .seqARead t k => Sys2Proof.Machine.execSeqARead t k s
  | .msgBlock l ix payload => Sys2Proof.Machine.execMsgBlock l ix payload s
  | .dataBlock l ix data => Sys2Proof.Machine.execDataBlock l ix data s
  | .creditBlock l ix payload => Sys2Proof.Machine.execCreditBlock l ix payload s
  | .start => Sys2Proof.Machine.execStart s
  | .bootparam => Sys2Proof.Machine.execBootparam s
  | .setting => Sys2Proof.Machine.execSetting s
  | .code => Sys2Proof.Machine.execCode s
  | .table bad => Sys2Proof.Machine.execTable bad s
  | .hkpatch => Sys2Proof.Machine.execHkpatch s
  | .envelope => Sys2Proof.Machine.execEnvelope s
  | .kernel => Sys2Proof.Machine.execKernel s
  | .dspdata => Sys2Proof.Machine.execDspdata s
  | .qdrpage bad => Sys2Proof.Machine.execQdrpage bad s
  | .commit => Sys2Proof.Machine.execCommit s
  | .signature => Sys2Proof.Machine.execSignature s
  | .signatureCheckDone => Sys2Proof.Machine.execSignatureCheckDone s
  | .claspPoint => Sys2Proof.Machine.execClaspPoint s
  | .loaderAbort via => Sys2Proof.Machine.execLoaderAbort via s
  | .loaderClear => Sys2Proof.Machine.execLoaderClear s
  | .flashLoad => Sys2Proof.Machine.execFlashLoad s
  | .flashErase via => Sys2Proof.Machine.execFlashErase via s
  | .flashProgram via => Sys2Proof.Machine.execFlashProgram via s
  | .flashRead via => Sys2Proof.Machine.execFlashRead via s
  | .flashOpDone => Sys2Proof.Machine.execFlashOpDone s
  | .progHash via => Sys2Proof.Machine.execProgHash via s
  | .progSign via => Sys2Proof.Machine.execProgSign via s
  | .laneCfgWrite n v => Sys2Proof.Machine.execLaneCfgWrite n v s
  | .laneRestart via n => Sys2Proof.Machine.execLaneRestart via n s
  | .readapt via n => Sys2Proof.Machine.execReadapt via n s
  | .readaptEnd n ctle taps idle => Sys2Proof.Machine.execReadaptEnd n ctle taps idle s
  | .laneLoopWrite via n loop => Sys2Proof.Machine.execLaneLoopWrite via n loop s
  | .quadPllLock m => Sys2Proof.Machine.execQuadPllLock m s
  | .signalDetect n => Sys2Proof.Machine.execSignalDetect n s
  | .cdrLock n => Sys2Proof.Machine.execCdrLock n s
  | .blockLock n => Sys2Proof.Machine.execBlockLock n s
  | .polarityWindow n direct comp => Sys2Proof.Machine.execPolarityWindow n direct comp s
  | .adaptConverged n ctle taps => Sys2Proof.Machine.execAdaptConverged n ctle taps s
  | .laneDown n hiBer => Sys2Proof.Machine.execLaneDown n hiBer s
  | .adaptRestartTimeout n => Sys2Proof.Machine.execAdaptRestartTimeout n s
  | .adaptFreeze n => Sys2Proof.Machine.execAdaptFreeze n s
  | .adaptResume n => Sys2Proof.Machine.execAdaptResume n s
  | .eyeMonitor n margin => Sys2Proof.Machine.execEyeMonitor n margin s
  | .eyeScanGo via n v => Sys2Proof.Machine.execEyeScanGo via n v s
  | .eyeScanDone n errs => Sys2Proof.Machine.execEyeScanDone n errs s
  | .checkGo via n => Sys2Proof.Machine.execCheckGo via n s
  | .checkDone n => Sys2Proof.Machine.execCheckDone n s
  | .lullEntry l => Sys2Proof.Machine.execLullEntry l s
  | .lullWake l => Sys2Proof.Machine.execLullWake l s
  | .lullWakeDone l => Sys2Proof.Machine.execLullWakeDone l s
  | .lullRx n => Sys2Proof.Machine.execLullRx n s
  | .lullSignalReturn n locks => Sys2Proof.Machine.execLullSignalReturn n locks s
  | .lullRelockTimeout n => Sys2Proof.Machine.execLullRelockTimeout n s
  | .linkCfgWrite via l v => Sys2Proof.Machine.execLinkCfgWrite via l v s
  | .linkRestart l => Sys2Proof.Machine.execLinkRestart l s
  | .trainBlock l k payload skew => Sys2Proof.Machine.execTrainBlock l k payload skew s
  | .trainTimeout l => Sys2Proof.Machine.execTrainTimeout l s
  | .stripeSwitch l tx => Sys2Proof.Machine.execStripeSwitch l tx s
  | .degrade l payload => Sys2Proof.Machine.execDegrade l payload s
  | .linkReady l payload => Sys2Proof.Machine.execLinkReady l payload s
  | .rebond l payload => Sys2Proof.Machine.execRebond l payload s
  | .laneRecheckTimer n => Sys2Proof.Machine.execLaneRecheckTimer n s
  | .ethFrameReceive p bytes fcsOk => Sys2Proof.Machine.execEthFrameReceive p bytes fcsOk s
  | .ntIncr via epoch => Sys2Proof.Machine.execNtIncr via epoch s
  | .ntAdd via epoch => Sys2Proof.Machine.execNtAdd via epoch s
  | .ntSet via epoch => Sys2Proof.Machine.execNtSet via epoch s
  | .ntCmdCancel => Sys2Proof.Machine.execNtCmdCancel s
  | .ntCmdApply => Sys2Proof.Machine.execNtCmdApply s
  | .ntSnap => Sys2Proof.Machine.execNtSnap s
  | .alarmArm k => Sys2Proof.Machine.execAlarmArm k s
  | .alarmFire k => Sys2Proof.Machine.execAlarmFire k s
  | .syncReceive domain src seq twoStep origin corr sub => Sys2Proof.Machine.execSyncReceive domain src seq twoStep origin corr sub s
  | .followUpReceive domain src seq origin corr => Sys2Proof.Machine.execFollowUpReceive domain src seq origin corr s
  | .delayReqReceive domain src port seq corr sub => Sys2Proof.Machine.execDelayReqReceive domain src port seq corr sub s
  | .delayRespReceive domain src seq forUs receive corr => Sys2Proof.Machine.execDelayRespReceive domain src seq forUs receive corr s
  | .announceReceive => Sys2Proof.Machine.execAnnounceReceive s
  | .syncSend sub => Sys2Proof.Machine.execSyncSend sub s
  | .announceSend => Sys2Proof.Machine.execAnnounceSend s
  | .delayReqSend sub => Sys2Proof.Machine.execDelayReqSend sub s
  | .syncLost => Sys2Proof.Machine.execSyncLost s
  | .recordCompressAssign q => Sys2Proof.Machine.execRecordCompressAssign q s
  | .compressedBlockOut k glitch lz => Sys2Proof.Machine.execCompressedBlockOut k glitch lz s
  | .decompressBlock k => Sys2Proof.Machine.execDecompressBlock k s
  | .qdrTrain p => Sys2Proof.Machine.execQdrTrain p s
  | .qdrTrainDone p ok => Sys2Proof.Machine.execQdrTrainDone p ok s
  | .ddrTrain c => Sys2Proof.Machine.execDdrTrain c s
  | .ddrTrainDone c ok => Sys2Proof.Machine.execDdrTrainDone c ok s
  | .ddrRequest c off cls n bytes opens drained hot => Sys2Proof.Machine.execDdrRequest c off cls n bytes opens drained hot s
  | .ddrAlert c sub => Sys2Proof.Machine.execDdrAlert c sub s
  | .replayDone c sub ok => Sys2Proof.Machine.execReplayDone c sub ok s
  | .refreshDue c r traffic => Sys2Proof.Machine.execRefreshDue c r traffic s
  | .mr4Poll c hot => Sys2Proof.Machine.execMr4Poll c hot s
  | .activateTableClear c => Sys2Proof.Machine.execActivateTableClear c s
  | .frostEntry c => Sys2Proof.Machine.execFrostEntry c s
  | .frostWake c hot => Sys2Proof.Machine.execFrostWake c hot s
  | .zqDue c r traffic ms => Sys2Proof.Machine.execZqDue c r traffic ms s
  | .hkRoundStart into => Sys2Proof.Machine.execHkRoundStart into s
  | .entryBoundary x elapsed => Sys2Proof.Machine.execEntryBoundary x elapsed s
  | .thermalInjection => Sys2Proof.Machine.execThermalInjection s
  | .hkInjGo via => Sys2Proof.Machine.execHkInjGo via s
  | .hkCalGo => Sys2Proof.Machine.execHkCalGo s
  | .hkCalAuto => Sys2Proof.Machine.execHkCalAuto s
  | .tempestForced => Sys2Proof.Machine.execTempestForced s
  | .thermClear => Sys2Proof.Machine.execThermClear s
  | .stormTrip cause => Sys2Proof.Machine.execStormTrip cause s
  | .mgtSetAddress bus => Sys2Proof.Machine.execMgtSetAddress bus s
  | .mgtWrite bus => Sys2Proof.Machine.execMgtWrite bus s
  | .mgtRead bus => Sys2Proof.Machine.execMgtRead bus s
  | .mgtStatus bus => Sys2Proof.Machine.execMgtStatus bus s
  | .jtagMemRead ir dr parityOk => Sys2Proof.Machine.execJtagMemRead ir dr parityOk s
  | .jtagMemWrite ir dr parityOk => Sys2Proof.Machine.execJtagMemWrite ir dr parityOk s
  | .extest ir pins dr => Sys2Proof.Machine.execExtest ir pins dr s
  | .samplePreload ir pins dr => Sys2Proof.Machine.execSamplePreload ir pins dr s
  | .registerWrite via a v parityOk => Sys2Proof.Machine.execRegisterWrite via a v parityOk s
  | .fabricRead ps maxPs => Sys2Proof.Machine.execFabricRead ps maxPs s
  | .accLoRead t n => Sys2Proof.Machine.execAccLoRead t n s
  | .deadLoRead t => Sys2Proof.Machine.execDeadLoRead t s
  | .lastWLoRead t => Sys2Proof.Machine.execLastWLoRead t s
  | .lastTlLoRead t k => Sys2Proof.Machine.execLastTlLoRead t k s
  | .pointLoRead => Sys2Proof.Machine.execPointLoRead s
  | .ptpValueLoRead delay => Sys2Proof.Machine.execPtpValueLoRead delay s
  | .sclkInLoss => Sys2Proof.Machine.execSclkInLoss s
  | .sclkInDetect => Sys2Proof.Machine.execSclkInDetect s
  | .prbsCheckerLock n => Sys2Proof.Machine.execPrbsCheckerLock n s
  | .prbsBitError n => Sys2Proof.Machine.execPrbsBitError n s
  | .invalidSyncHeader n => Sys2Proof.Machine.execInvalidSyncHeader n s
  | .controlBlockCrcError l => Sys2Proof.Machine.execControlBlockCrcError l s
  | .refreshComplete c r => Sys2Proof.Machine.execRefreshComplete c r s
  | .fuseProgrammingDone => Sys2Proof.Machine.execFuseProgrammingDone s

end Sys2Proof.Machine
end

