-- ==== Sys2Proof/Safety.lean ====
section
/-! DEFINITION. What a proper state of the block is, and what a safe step is, in the terms that statements use. -/

namespace Sys2Proof.Machine

/-- The three sparse stores of a state are in their canonical form: equal contents are equal data. -/
def State.wf (s : State) : Bool := canonical 0 s.regs && Memory.wf s.mem && canonical (0xFF : Byte) s.flash

/-- A register field as a state holds it. -/
def State.get (s : State) (f : Fld) : Nat := assoc 0 s.regs f.key ^^^ f.reset

/-- The byte of memory that a state holds at an address. -/
def State.byteAt (s : State) (a : Nat) : Byte := assoc 0 s.mem a ^^^ lostAt s.lost a

/-- The byte of the boot flash that a state holds at an address; an erased byte reads 0xFF. -/
def State.flashAt (s : State) (a : Nat) : Byte := assoc 0xFF s.flash a

/-- R331: no fuse bit has returned to 0, and a key hash that was set has kept its value. -/
def FusesGrow (f g : Fuses) : Prop :=
  (f.hashSet = true → g.hashSet = true ∧ g.keyHash = f.keyHash) ∧ (f.signRequired = true → g.signRequired = true)

/-- R331: SIGN_REQUIRED is set only where HASH_SET is. -/
def Fuses.proper (f : Fuses) : Bool := !f.signRequired || f.hashSet

/-- The state as a command's meaning reads it, for the named operations that statements apply. -/
abbrev State.view (s : State) : Work s := Work.start s

/-- Tile t of a state. -/
abbrev State.tile (s : State) (t : Nat) : Tile := s.view.tile t

/-- Command c has its effect at s: it answers a next state, of which P holds. -/
def Answers (c : Instr) (s : State) (P : State → Prop) : Prop := ∃ t, exec c s = .next t ∧ P t

/-- Every register but the listed ones reads as before. -/
def RegsBut (s t : State) (fs : List Fld) : Prop := ∀ f : Fld, (∀ g ∈ fs, f.key ≠ g.key) → t.get f = s.get f

/-- Every byte of memory and of flash reads as before. -/
def StoresKept (s t : State) : Prop := (∀ a, t.byteAt a = s.byteAt a) ∧ (∀ a, t.flashAt a = s.flashAt a)

/-- The frame of a command that writes the listed registers: every other register, all of memory and flash, TL, the fuses and the
queue of waiting commands are as before. -/
def Frame (s t : State) (fs : List Fld) : Prop :=
  RegsBut s t fs ∧ StoresKept s t ∧ t.tl = s.tl ∧ t.fuse = s.fuse ∧ t.pending = s.pending

/-- The frame of a command that also leaves the whole typed state, but for what it gives out. -/
def Plain (s t : State) (fs : List Fld) : Prop :=
  Frame s t fs ∧ t.dev = { s.dev with out := t.dev.out } ∧ t.fresh = s.fresh

/-- The frame of a command that writes the listed registers and leaves the typed state d. -/
def Leaves (s t : State) (fs : List Fld) (d : Dev) : Prop := Frame s t fs ∧ t.dev = d ∧ t.fresh = s.fresh

/-- The fields that a command which adds an entry to the error log writes for it (R457), where h is the number of the entry. -/
def logFlds (h : Nat) : List Fld :=
  let i := h % 64
  [DEV_ERRLOG_HEAD, DEV_ERRLOG_LOST, DEV_ERRLOG_W0_KIND i, DEV_ERRLOG_W0_PATH i, DEV_ERRLOG_W0_TILE i, DEV_ERRLOG_W0_DETAIL i,
    DEV_ERRLOG_W1 i, DEV_ERRLOG_W2 i, DEV_ERRLOG_W4 i, DEV_ERRLOG_W5 i, DEV_ERRLOG_W6 i, DEV_ERRLOG_W7 i]

/-- The error log has one entry more, of a kind, path, tile and address (R457). -/
def Logged (s t : State) (kind path tile addr : Nat) : Prop :=
  let h := s.get DEV_ERRLOG_HEAD
  t.get DEV_ERRLOG_HEAD = (h + 1) % 2 ^ 32 ∧ t.get (DEV_ERRLOG_W0_KIND (h % 64)) = kind ∧
    t.get (DEV_ERRLOG_W0_PATH (h % 64)) = path ∧ t.get (DEV_ERRLOG_W0_TILE (h % 64)) = tile ∧
    t.get (DEV_ERRLOG_W1 (h % 64)) = addr % 2 ^ 32 ∧ t.get (DEV_ERRLOG_W7 (h % 64)) = h % 2 ^ 32

/-- A firing of a source that no event caused, at the present frame (R265, R272). -/
def State.firing (s : State) (src : Nat) : Firing := ⟨src, 0, false, s.tl.count, bits (s.get NT_NOW) 32 32⟩

/-- The firings held after a command are those held before and the given one. -/
def Fires (s t : State) (src : Nat) : Prop := t.dev.held = s.dev.held ++ [s.firing src]

/-- All of memory but n bytes from address a on reads as before. -/
def MemBut (s t : State) (a n : Nat) : Prop := ∀ b, ¬(a ≤ b ∧ b < a + n) → t.byteAt b = s.byteAt b

end Sys2Proof.Machine
end

