-- ==== Sys2Proof/Certificates/Slice0/Obligations.lean ====
section
/-! DEFINITION. The statements for the provers. Each is about the block as Sys2Proof/Machine/ defines it: what a command of the table
does at a state on which its occasion is present, what it leaves alone, and what every step keeps. -/

open Sys2Proof Sys2Proof.Machine

namespace Sys2Proof

/-- A counter has advanced by 1, and stays at its largest value. -/
def Counted (s t : State) (f : Fld) : Prop := t.get f = min (2 ^ f.width - 1) (s.get f + 1)

/-! ## Reads (R31, R38, R52, R58, R128, R155, R261, R304, R332, R384) -/

/-- A read of the low half of a wide device counter returns it and latches the high half, and changes nothing else (R38, R332,
R384). -/
def Clause.DeviceReadsLatch : Prop :=
  ∀ s : State, s.wf = true →
    Answers .tlLoRead s (fun t => t.dev.out = [.value (s.tl.count % 2 ^ 32)] ∧
      t.get TIME_TL_HI = s.tl.count / 2 ^ 32 % 2 ^ 32 ∧ Plain s t [TIME_TL_HI]) ∧
    Answers .pointLoRead s (fun t => t.dev.out = [.value (s.get LOADER_P % 2 ^ 32)] ∧
      t.get LOADER_POINT_HI = s.get LOADER_P / 2 ^ 32 % 2 ^ 32 ∧ Plain s t [LOADER_POINT_HI]) ∧
    Answers (.ptpValueLoRead true) s (fun t => t.dev.out = [.value (s.get PTP_DELAY_LO)] ∧
      t.get PTP_DELAY_HI = s.get PTP_DELAY_LIVE % 2 ^ 32 ∧ Plain s t [PTP_DELAY_HI]) ∧
    Answers (.ptpValueLoRead false) s (fun t => t.dev.out = [.value (s.get PTP_OFFSET_LO)] ∧
      t.get PTP_OFFSET_HI = s.get PTP_OFFSET_LIVE % 2 ^ 32 ∧ Plain s t [PTP_OFFSET_HI])

/-- A read of the low half of a wide tile register returns it and latches the high half; a read of SEQ_A latches SEQ_B and FILL,
which for the stage queue of a clasp is the number of its staged entries (R58, R128, R155, R261, R304; the number of a stage queue is
the model's choice, log 146). -/
def Clause.TileReadsLatch : Prop :=
  ∀ s : State, s.wf = true → ∀ u : Fin 32,
    Answers (.cursorLoRead u) s (fun t =>
      t.dev.out = [.value ((s.view.seq (leader s.view u)).cursor % 2 ^ 32)] ∧
      t.get (CLASP_CURSOR_HI u) = (s.view.seq (leader s.view u)).cursor / 2 ^ 32 % 2 ^ 32 ∧ Plain s t [CLASP_CURSOR_HI u]) ∧
    (∀ n : Fin 4, Answers (.accLoRead u n) s (fun t => t.dev.out = [.value (s.get (DSP_ACC u n) % 2 ^ 32)] ∧
      t.get (DSP_ACC_HI_ACC_HI u n) = s.get (DSP_ACC u n) / 2 ^ 32 % 2 ^ 16 ∧ Plain s t [DSP_ACC_HI_ACC_HI u n])) ∧
    (∀ k : Fin 8, Answers (.lastTlLoRead u k) s (fun t => t.dev.out = [.value (s.get (RD_LAST_TL_LO u k))] ∧
      t.get (RD_LAST_TL_HI u k) = s.get (RD_TL_HI u k) % 2 ^ 32 ∧ Plain s t [RD_LAST_TL_HI u k])) ∧
    Answers (.deadLoRead u) s (fun t => t.dev.out = [.value (s.get (CAP_DEAD u) % 2 ^ 32)] ∧
      t.get (CAP_DEAD_HI u) = s.get (CAP_DEAD u) / 2 ^ 32 % 2 ^ 16 ∧ Plain s t [CAP_DEAD_HI u]) ∧
    Answers (.lastWLoRead u) s (fun t => t.dev.out = [.value (s.get (CAP_LAST_W_LO u))] ∧
      t.get (CAP_LAST_W_HI u) = s.get (CAP_W_HI u) % 2 ^ 32 ∧ Plain s t [CAP_LAST_W_HI u]) ∧
    (∀ i : Fin 512, Answers (.seqARead u i) s (fun t => t.dev.out = [.value (s.get (QT_SEQ_A u i))] ∧
      t.get (QT_SEQ_B u i) = s.get (QTAIL u i) % 2 ^ 32 ∧
      t.get (QT_FILL u i) = (if 256 ≤ i.val ∧ i.val < 289 then (stagedFor (s.tile u) (i - 256)).length else qFill s.view u i) % 2 ^ 25 ∧
      Plain s t [QT_SEQ_B u i, QT_FILL u i]))

/-- A read that takes the register back to its reset value returns what it held (R31, R52): LOW_WATER returns to its largest value,
and CYCLE_MAX_PS to 0, with the cycle as measured once the regulators have first reached their setpoint, and unmeasured before. -/
def Clause.ReadsClear : Prop :=
  ∀ s : State, s.wf = true →
    (∀ u : Fin 32, Answers (.lowWaterRead u) s (fun t => t.dev.out = [.value (s.get (CLASP_LOW_WATER u))] ∧
      t.get (CLASP_LOW_WATER u) = 0x1FFFF ∧ Plain s t [CLASP_LOW_WATER u])) ∧
    (∀ ps longest : Fin 1024, s.get FABRIC_UP = 0 → Answers (.fabricRead ps longest) s (fun t =>
      t.get DEV_FABRIC_CYCLE_MAX_PS = 0 ∧
      t.dev.out = [.value (s.get DEV_FABRIC_CYCLE_MAX_PS * 2 ^ DEV_FABRIC_CYCLE_MAX_PS.lo +
        s.get DEV_FABRIC_CYCLE_PS * 2 ^ DEV_FABRIC_CYCLE_PS.lo)] ∧ Plain s t [DEV_FABRIC_CYCLE_MAX_PS])) ∧
    (∀ ps longest : Fin 1024, s.get THERM_STORM_TRIPPED = 0 → s.get FABRIC_UP ≠ 0 →
      Answers (.fabricRead ps longest) s (fun t =>
        t.get DEV_FABRIC_CYCLE_PS = ps.val ∧ t.get DEV_FABRIC_CYCLE_MAX_PS = 0 ∧
        t.dev.out = [.value (max (max ps.val longest.val) (s.get DEV_FABRIC_CYCLE_MAX_PS) % 2 ^ 10 * 2 ^ DEV_FABRIC_CYCLE_MAX_PS.lo +
          ps.val * 2 ^ DEV_FABRIC_CYCLE_PS.lo)] ∧
        Plain s t [DEV_FABRIC_CYCLE_PS, DEV_FABRIC_CYCLE_MAX_PS]))

end Sys2Proof

/-- Reads that latch or clear: of the device, of a tile, and of a counter that a read clears. -/
def Obligations.RegisterReads : Prop :=
  Clause.DeviceReadsLatch ∧ Clause.TileReadsLatch ∧ Clause.ReadsClear

namespace Sys2Proof

/-! ## Maintenance ports and register writes (R9, R30, R471, R472) -/

/-- Bytes on the management bus, with the PEC behind them or without. -/
def busBytes (pec : Bool) (bs : List Byte) : List Byte := if pec then bs ++ [BitVec.ofNat 8 (crc8 bs)] else bs

/-- What the management target answers the read of a command code with: bytes, and the PEC over the whole transaction. -/
def busReply (code : Byte) (bytes : List Byte) : Out :=
  .port "MGT" ((bytes ++ [BitVec.ofNat 8 (crc8 ([0xB4, code, 0xB5] ++ bytes))]).map BitVec.toNat)

/-- While REFCLK is present, the management target at address 0x5A takes its access address from the five bytes of a block write of
command 0x01, answers command 0x03 for a device register outside the lane blocks with the register's four bytes and adds 4 to the address,
and answers command 0x04 with its status, which it clears; another transaction does none of these, and without REFCLK none is
acknowledged (R9, R449, R471; the transactions' bytes are those of SMBus, log 171). -/
def Clause.ManagementTarget : Prop :=
  ∀ s : State, s.wf = true →
    (s.get DEV_STATUS_REFCLK_OK = 0 → ∀ c bus, c ∈ [Instr.mgtSetAddress, Instr.mgtWrite, Instr.mgtRead, Instr.mgtStatus] →
      Answers (c bus) s (fun t => Leaves s t [] s.view.dev)) ∧
    (s.get DEV_STATUS_REFCLK_OK ≠ 0 → ∀ bus : List Byte,
      (bus.take 3 ≠ [0xB4, 0x01, 0x05] → Answers (.mgtSetAddress bus) s (fun t => Leaves s t [] s.view.dev)) ∧
      (bus.take 3 ≠ [0xB4, 0x02, 0x04] → Answers (.mgtWrite bus) s (fun t => Leaves s t [] s.view.dev)) ∧
      (bus ≠ [0xB4, 0x03, 0xB5] → Answers (.mgtRead bus) s (fun t => Leaves s t [] s.view.dev)) ∧
      (bus ≠ [0xB4, 0x04, 0xB5] → Answers (.mgtStatus bus) s (fun t => Leaves s t [] s.view.dev))) ∧
    (s.get DEV_STATUS_REFCLK_OK ≠ 0 →
    (∀ (a : BitVec 40) (pec : Bool), Answers (.mgtSetAddress (busBytes pec ([0xB4, 0x01, 0x05] ++ leBytes 5 a.toNat))) s (fun t =>
      Leaves s t [] { s.view.dev with port := { s.dev.port with mgtAddr := a.toNat } })) ∧
    Answers (.mgtStatus [0xB4, 0x04, 0xB5]) s (fun t => Leaves s t [] { s.view.dev with
      out := [busReply 0x04 [BitVec.ofNat 8 (b2n s.dev.port.mgtReject + 2 * b2n s.dev.port.mgtReach)]]
      port := { s.dev.port with mgtReject := false, mgtReach := false } }) ∧
    (∀ f fs, s.dev.port.mgtAddr % 4 = 0 → s.dev.port.mgtAddr < 0x1000000 → regAt s.dev.port.mgtAddr = some (f :: fs) →
      within s.dev.port.mgtAddr 0x100000 0x120000 = false →
      Answers (.mgtRead [0xB4, 0x03, 0xB5]) s (fun t => Leaves s t
        ((f :: fs).map (fun x => x.fld) ++ [TIME_TL_HI, PTP_OFFSET_HI, PTP_DELAY_HI, LOADER_POINT_HI])
        { s.view.dev with
          out := [busReply 0x03 ([0x04] ++ leBytes 4 (regWord s.view s.dev.port.mgtAddr (f :: fs)))]
          port := { s.dev.port with
            mgtAddr := (s.dev.port.mgtAddr + 4) % 2 ^ 40, mgtReject := false, mgtReach := false } })))

/-- A write to a register to which no rule attaches an action, and which no staged value holds, writes its RW fields and clears the
bits of its W1C fields that it names, over the management target and as a register write (R9, R471). -/
def Clause.PlainWrites : Prop :=
  ∀ s : State, s.wf = true → ∀ (a : BitVec 40) (v : BitVec 32) (f : FieldAcc) (fs : List FieldAcc),
    a.toNat % 4 = 0 → a.toNat < 0x1000000 → regAt a.toNat = some (f :: fs) → isStaged s.view a.toNat = false →
    (∀ path, coreWrite s.view path a.toNat v.toNat (fun _ => s.view) = none ∧
      houseWrite s.view path a.toNat v.toNat (fun _ => s.view) = none ∧
      laneLinkWrite s.view path a.toNat v.toNat (fun _ => s.view) = none ∧
      portWrite s.view path a.toNat v.toNat (fun _ => s.view) = none) →
    (s.get PORESET_LOW = 0 → ∀ via ok, Answers (.registerWrite via a v ok) s (fun t =>
      (∀ g, t.get g = (writeFields s.view v.toNat (f :: fs)).get g) ∧ Plain s t ((f :: fs).map (fun x => x.fld)))) ∧
    (s.get DEV_STATUS_REFCLK_OK ≠ 0 → s.dev.port.mgtAddr = a.toNat → ∀ pec,
      Answers (.mgtWrite (busBytes pec ([0xB4, 0x02, 0x04] ++ leBytes 4 v.toNat))) s (fun t =>
      (∀ g, t.get g = (writeFields s.view v.toNat (f :: fs)).get g) ∧
      Leaves s t ((f :: fs).map (fun x => x.fld)) { s.view.dev with
        port := { s.dev.port with mgtAddr := (a.toNat + 4) % 2 ^ 40, mgtReject := false, mgtReach := false } }))

/-- The value of the 74-bit data register of MEM_ACCESS: OP, address and write data (R472). -/
def drValue (op : Nat) (a : BitVec 40) (v : BitVec 32) : BitVec 74 := BitVec.ofNat 74 (op + a.toNat * 2 ^ 2 + v.toNat * 2 ^ 42)

/-- What a scan of MEM_ACCESS gives out: the result of the last access, 0 for one that was done and 2 for one rejected or unmapped, its
address and its data (R472). -/
def captured (p : PortSt) : Out := .port "TDO" [2 * b2n p.jtagBad + p.jtagAddr * 2 ^ 2 + p.jtagData * 2 ^ 42]

/-- Under the opcode of MEM_ACCESS a scan gives out the result of the last access, and the JTAG port then reads or writes a word of a tile's
memories, little-endian, as OP says, and changes no other byte; OP 0 names no access. Under an opcode of no instruction the TAP holds BYPASS.
A register write does the same over its path (R6, R30, R472; that OP 3 names none either is the model's choice, log 98). -/
def Clause.MemoryAccess : Prop :=
  ∀ s : State, s.wf = true → s.get PORESET_LOW = 0 → ∀ a : BitVec 40, placeOf a.toNat = .mem →
    (s.dev.port.tap ≠ .extest → ∀ (v : BitVec 32) (ok : Bool),
      Answers (.jtagMemRead 0x20 (drValue 1 a v) ok) s (fun t => Leaves s t [] { s.view.dev with
        out := [captured s.dev.port]
        port := { s.dev.port with tap := .memAccess, jtagAddr := a.toNat, jtagData := s.view.rdLe a.toNat 4, jtagBad := false } }) ∧
      Answers (.jtagMemWrite 0x20 (drValue 2 a v) ok) s (fun t =>
        (∀ i : Fin 4, t.byteAt (a.toNat + i) = BitVec.ofNat 8 (v.toNat / 256 ^ i.val)) ∧ MemBut s t a.toNat 4 ∧
        RegsBut s t [] ∧ (∀ b, t.flashAt b = s.flashAt b) ∧ t.tl = s.tl ∧ t.fuse = s.fuse ∧ t.pending = s.pending ∧
        t.dev = { s.view.dev with
          out := [captured s.dev.port]
          port := { s.dev.port with tap := .memAccess, jtagAddr := a.toNat, jtagBad := false } }) ∧
      (∀ op, (op = 0 ∨ op = 3) → Answers (.jtagMemRead 0x20 (drValue op a v) ok) s (fun t => Leaves s t [] { s.view.dev with
        out := [captured s.dev.port], port := { s.dev.port with tap := .memAccess } })) ∧
      (∀ ir dr, ir ≠ 0x00 → ir ≠ 0x01 → ir ≠ 0x20 → Answers (.jtagMemRead ir dr ok) s (fun t => Leaves s t [] { s.view.dev with
        port := { s.dev.port with tap := .bypass } }))) ∧
    (∀ (v : BitVec 32) (via : Via) (ok : Bool), via ≠ .mgt → Answers (.registerWrite via a v ok) s (fun t =>
      (∀ i : Fin 4, t.byteAt (a.toNat + i) = BitVec.ofNat 8 (v.toNat / 256 ^ i.val)) ∧ MemBut s t a.toNat 4 ∧
      RegsBut s t [] ∧ (∀ b, t.flashAt b = s.flashAt b) ∧ t.tl = s.tl ∧ t.fuse = s.fuse ∧ t.pending = s.pending ∧
      t.dev = s.view.dev))

end Sys2Proof

/-- Single-register writes that only keep their value, and accesses to memory. -/
def Obligations.RegisterWrites : Prop :=
  Clause.PlainWrites ∧ Clause.MemoryAccess

namespace Sys2Proof

/-- The levels that EXTEST drives at the balls when the boundary-scan register holds l (R472). -/
def drivenBy (l : List Bool) : List Out :=
  (scanCells.zipIdx.filter (fun c => c.1.2.2)).map (fun c => .ball c.1.1 c.1.2.1 (b2n (l.getD c.2 false)))

/-- A value of the length of the boundary-scan register. -/
def scanValue (l : List Bool) : List Bool := (List.range scanCells.length).map (fun k => l.getD k false)

/-- EXTEST and SAMPLE/PRELOAD are accepted while no tile is released and the loader is IDLE or in ERROR: a scan then gives out the levels
captured at the balls and loads the boundary-scan register, which EXTEST drives, from the moment it is selected on. Otherwise they act as
BYPASS, with an entry of the error log. Test-logic reset selects BYPASS (R443, R472; the cells and their order are the model's choice,
log 172). -/
def Clause.BoundaryScan : Prop :=
  ∀ s : State, s.wf = true →
    (s.dev.port.tap ≠ .extest → Answers .tapReset s (fun t =>
      Leaves s t [] { s.view.dev with port := { s.dev.port with tap := .bypass } })) ∧
    (anyReleased s.view = false → (s.get LOADER_STATE_STATE = LD_IDLE ∨ s.get LOADER_STATE_STATE = LD_ERROR) → ∀ pins dr,
      Answers (.extest 0x00 pins none) s (fun t => Leaves s t [] { s.view.dev with
        out := drivenBy s.dev.port.scan, port := { s.dev.port with tap := .extest } }) ∧
      Answers (.extest 0x00 pins (some dr)) s (fun t => Leaves s t [] { s.view.dev with
        out := drivenBy s.dev.port.scan ++ [.port "TDO" ((scanValue pins).map b2n)] ++ drivenBy (scanValue dr)
        port := { s.dev.port with tap := .extest, scan := scanValue dr } }) ∧
      (s.dev.port.tap ≠ .extest →
        Answers (.samplePreload 0x01 pins none) s (fun t => Leaves s t [] { s.view.dev with
          port := { s.dev.port with tap := .sample } }) ∧
        Answers (.samplePreload 0x01 pins (some dr)) s (fun t => Leaves s t [] { s.view.dev with
          out := [.port "TDO" ((scanValue pins).map b2n)]
          port := { s.dev.port with tap := .sample, scan := scanValue dr } }))) ∧
    (¬(anyReleased s.view = false ∧ (s.get LOADER_STATE_STATE = LD_IDLE ∨ s.get LOADER_STATE_STATE = LD_ERROR)) →
      s.dev.port.tap ≠ .extest → ∀ c pins dr, (c = Instr.extest 0x00 pins dr ∨ c = Instr.samplePreload 0x01 pins dr) →
        Answers c s (fun t => Logged s t 2 2 63 0 ∧ Leaves s t (logFlds (s.get DEV_ERRLOG_HEAD)) { s.view.dev with
          held := s.dev.held ++ [s.firing 487], port := { s.dev.port with tap := .bypass } }))

/-- R30: the management target does not perform an access outside the device blocks: it sets status bit 1, a read returns 0, and the
error log has the attempt. -/
def Clause.OutsideReach : Prop :=
  ∀ s : State, s.wf = true → s.get DEV_STATUS_REFCLK_OK ≠ 0 → 0x1000000 ≤ s.dev.port.mgtAddr →
    ∀ c, (c = (Instr.mgtRead [0xB4, 0x03, 0xB5], [busReply 0x03 [0x04, 0, 0, 0, 0]]) ∨
        ∃ v : BitVec 32, c = (Instr.mgtWrite ([0xB4, 0x02, 0x04] ++ leBytes 4 v.toNat), [])) →
      Answers c.1 s (fun t => Logged s t 1 1 (tileOfAddr s.dev.port.mgtAddr) s.dev.port.mgtAddr ∧
        Leaves s t (logFlds (s.get DEV_ERRLOG_HEAD)) { s.view.dev with
          out := c.2, held := s.dev.held ++ [s.firing 487]
          port := { s.dev.port with mgtAddr := (s.dev.port.mgtAddr + 4) % 2 ^ 40, mgtReject := false, mgtReach := true } })

end Sys2Proof

/-- The management target and the JTAG port within their reach, outside it, and in boundary scan. -/
def Obligations.ConfigurationPorts : Prop :=
  Clause.ManagementTarget ∧ Clause.OutsideReach ∧ Clause.BoundaryScan

namespace Sys2Proof

/-! ## Power, clocks, resets and start-up (spec/19) -/

/-- The fields that Storm holds and that outlive PORESET_N (R443, R447). -/
def stormKept : List Fld :=
  [THERM_STORM_TRIPPED, THERM_STORM_OVERTEMP, THERM_STORM_DIODE_OPEN, THERM_STORM_DIODE_SHORT]

/-- PORESET_N low takes every register to its reset value but for the Storm latch and PREV_STORM, which it sets when Storm is
latched (the presence of SCLK_IN is a level, not a register); TL holds 0, the typed state is that of reset, the fuses stay, and the flash
that no operation is changing; the throttle step is Calm, and with it the regulators' current limit (R433, R443, R444, R447). -/
def Clause.ResetAssertion : Prop :=
  ∀ s : State, s.wf = true → Answers .poresetAssert s (fun t =>
    (∀ f : Fld, f.key < 2 ^ 60 → (∀ g ∈ [DEV_RESET_CAUSE_PREV_STORM, SCLK_PRESENT, PORESET_LOW] ++ stormKept, f.key ≠ g.key) →
      t.get f = f.reset) ∧
    (∀ f ∈ SCLK_PRESENT :: stormKept, t.get f = s.get f % 2) ∧ t.get PORESET_LOW = 1 ∧ Out.currentLimit 80 ∈ t.dev.out ∧
    t.get DEV_RESET_CAUSE_PREV_STORM =
      (if s.get DEV_RESET_CAUSE_PREV_STORM ≠ 0 ∨ s.get THERM_STORM_TRIPPED ≠ 0 then 1 else 0) ∧
    t.tl = ⟨0, false⟩ ∧ t.fuse = s.fuse ∧ t.pending = s.pending ∧ t.dev = { Dev.reset with out := t.dev.out } ∧
    (∀ i < 64, Out.ball "XY_OUT" i 0 ∈ t.dev.out) ∧ Out.ball "BOOT_CS_N" 0 1 ∈ t.dev.out ∧
    (s.dev.loader.flashOp = none → ∀ a, t.flashAt a = s.flashAt a))

/-- The rise of PORESET_N samples BOOT_SEL, of which the values 2 and 3 wait for DEV.BOOT, derives PTP.CLOCK_ID from the fuse-held MAC
address, and releases Storm, with its cause, unless a trip condition holds; the reserved value 3 is logged (R384, R437, R448, R449). -/
def Clause.ResetRelease : Prop :=
  ∀ s : State, s.wf = true → ∀ (sel : Fin 4) (trip : Bool), Answers (.poresetRelease sel trip) s (fun t =>
    t.get DEV_BOOT_SEL = sel ∧ t.get DEV_BOOT_WAITING = (if 2 ≤ sel.val then 1 else 0) ∧ t.get PORESET_LOW = 0 ∧
    (∀ f ∈ THERM_STORM_FLASH_BLOCKED :: stormKept, t.get f = (if trip then s.get f else 0)) ∧
    t.get PTP_CLOCK_ID_HI = (s.fuse.mac / 2 ^ 24 * 2 ^ 8 + 0xFF) % 2 ^ 32 ∧
    t.get PTP_CLOCK_ID_LO = (0xFE * 2 ^ 24 + s.fuse.mac % 2 ^ 24) % 2 ^ 32 ∧
    t.dev.loader = { s.dev.loader with
      boot := if sel.val = 0 then BootMode.flash else if sel.val = 1 then BootMode.open_ else BootMode.closed } ∧
    Frame s t ([DEV_BOOT_SEL, DEV_BOOT_WAITING, PORESET_LOW, PTP_CLOCK_ID_HI, PTP_CLOCK_ID_LO] ++
      (if trip then [] else THERM_STORM_FLASH_BLOCKED :: stormKept) ++
      (if sel.val = 3 then logFlds (s.get DEV_ERRLOG_HEAD) else [])) ∧
    (sel.val = 3 → Logged s t 2 3 63 DEV_BOOT_SEL.addr))

end Sys2Proof

/-- PORESET_N low and its rise. -/
def Obligations.PowerOnReset : Prop :=
  Clause.ResetAssertion ∧ Clause.ResetRelease

namespace Sys2Proof

/-- The steps of the start-up order show in DEV.STATUS, CLK_STATUS and DEV.FABRIC: VDDA_18 up clears PREV_STORM; from the rise of PORESET_N
on REFCLK sets REFCLK_OK and starts the lanes that have a role; the lock of the converter PLL and the foreground calibration, which dates every converter, set
their bits; the fabric's setpoint gives its cycle; SCLK_OK follows SCLK_IN while CLK_SRC selects it; and a change of CLK_SRC with no tile
released ends the lock, the calibration and the epoch (R31, R33, R57, R83, R127, R447, R449). -/
def Clause.StartUpSteps : Prop :=
  ∀ s : State, s.wf = true →
    Answers .vdda18PowerUp s (fun t => t.get DEV_RESET_CAUSE_PREV_STORM = 0 ∧ Plain s t [DEV_RESET_CAUSE_PREV_STORM]) ∧
    (s.get PORESET_LOW ≠ 0 → Answers .refclkDetect s (fun t => Plain s t []) ∧
      ∀ ps, Answers (.fabricSetpointReached ps) s (fun t => Plain s t [])) ∧
    (s.get PORESET_LOW = 0 → s.get DEV_STATUS_REFCLK_OK = 0 → Answers .refclkDetect s (fun t => t.get DEV_STATUS_REFCLK_OK = 1 ∧
      ∀ n < 32, s.get (LANE_CFG_ROLE n) ≠ 0 → s.get (LANE_STATUS_STATE n) = 0 → t.get (LANE_STATUS_STATE n) = LANE_SIGNAL)) ∧
    (s.get PORESET_LOW = 0 → s.get DEV_STATUS_REFCLK_OK = 0 →
      (∀ n < 32, s.get (LANE_CFG_ROLE n) = 0 ∨ s.get (LANE_STATUS_STATE n) ≠ 0) →
      Answers .refclkDetect s (fun t => t.get DEV_STATUS_REFCLK_OK = 1 ∧ Plain s t [DEV_STATUS_REFCLK_OK])) ∧
    (s.get DEV_STATUS_REFCLK_OK ≠ 0 → s.dev.loader.commitHeld = false →
      Answers .pllLockAcquired s (fun t => t.get DEV_STATUS_PLL_LOCK = 1 ∧ Plain s t [DEV_STATUS_PLL_LOCK])) ∧
    (s.get DEV_STATUS_PLL_LOCK ≠ 0 → s.get DEV_STATUS_CONV_CAL_DONE = 0 → s.dev.loader.commitHeld = false →
      Answers .foregroundCalibrationDone s (fun t => t.get DEV_STATUS_CONV_CAL_DONE = 1 ∧
        (∀ u < 32, (∀ d < 4, t.get (CAL_LAST u d) = s.dev.ticks % 2 ^ 64) ∧ (∀ d < 3, t.get (DAC_CAL_CAL_STALE u d) = 0) ∧
          t.get (ADC_CAL_CAL_STALE u) = 0) ∧
        Plain s t (DEV_STATUS_CONV_CAL_DONE :: (List.range 32).flatMap (fun u =>
          (List.range 4).map (CAL_LAST u) ++ (List.range 3).map (DAC_CAL_CAL_STALE u) ++ [ADC_CAL_CAL_STALE u])))) ∧
    (∀ ps : Fin 1024, s.get THERM_STORM_TRIPPED = 0 → s.get PORESET_LOW = 0 → Answers (.fabricSetpointReached ps) s (fun t =>
      t.get FABRIC_UP = 1 ∧ t.get DEV_FABRIC_CYCLE_PS = ps ∧
      t.get DEV_FABRIC_CYCLE_MAX_PS = max ps.val (s.get DEV_FABRIC_CYCLE_MAX_PS) % 2 ^ 10 ∧
      Plain s t [FABRIC_UP, DEV_FABRIC_CYCLE_PS, DEV_FABRIC_CYCLE_MAX_PS])) ∧
    Answers .sclkInLoss s (fun t => t.get SCLK_PRESENT = 0 ∧ t.get TIME_CLK_STATUS_SCLK_OK = 0 ∧
      Plain s t [SCLK_PRESENT, TIME_CLK_STATUS_SCLK_OK]) ∧
    Answers .sclkInDetect s (fun t => t.get SCLK_PRESENT = 1 ∧
      t.get TIME_CLK_STATUS_SCLK_OK = (if s.get TIME_CLK_CTRL = 0 then 0 else 1) ∧
      Plain s t [SCLK_PRESENT, TIME_CLK_STATUS_SCLK_OK]) ∧
    (∀ via src, s.get TIME_CLK_CTRL = b2n src → Answers (.clkSrcWrite via src) s (fun t => Plain s t [])) ∧
    (∀ via src, s.get TIME_CLK_CTRL ≠ b2n src → s.get DEV_STATUS_TILES_RELEASED ≠ 0 →
      Answers (.clkSrcWrite via src) s (fun t => Logged s t 2 (viaPath via).code 63 TIME_CLK_CTRL.addr ∧
        Leaves s t (logFlds (s.get DEV_ERRLOG_HEAD)) { s.view.dev with held := s.dev.held ++ [s.firing 487] })) ∧
    (∀ via src, s.get TIME_CLK_CTRL ≠ b2n src → s.get DEV_STATUS_TILES_RELEASED = 0 →
      Answers (.clkSrcWrite via src) s (fun t => t.get TIME_CLK_CTRL = b2n src ∧ t.get DEV_STATUS_PLL_LOCK = 0 ∧
        t.get DEV_STATUS_CONV_CAL_DONE = 0 ∧ t.get TIME_EPOCH_STATUS_VALID = 0 ∧
        t.get TIME_CLK_STATUS_SCLK_OK = (if src = true ∧ s.get SCLK_PRESENT ≠ 0 then 1 else 0) ∧
        t.tl = ⟨0, false⟩ ∧ t.dev = { s.view.dev with epochZero := none } ∧ t.fuse = s.fuse ∧ t.pending = s.pending ∧
        StoresKept s t ∧ RegsBut s t [TIME_CLK_CTRL, DEV_STATUS_PLL_LOCK, DEV_STATUS_CONV_CAL_DONE, TIME_CLK_STATUS_SCLK_OK,
          TIME_EPOCH_STATUS_VALID]))

/-- A loss of the converter PLL or of REFCLK clears its status, sets the sticky bit of its kind, fires TIME and leaves the converter
outputs unspecified (R34). -/
def Clause.ClockLoss : Prop :=
  ∀ s : State, s.wf = true →
    (s.get DEV_STATUS_PLL_LOCK ≠ 0 → Answers .pllLockLoss s (fun t =>
      t.get DEV_STATUS_PLL_LOCK = 0 ∧ t.get TIME_CLK_STATUS_LOCK_LOST = 1 ∧ t.get CONV_LOST = 1 ∧
      Leaves s t [DEV_STATUS_PLL_LOCK, TIME_CLK_STATUS_LOCK_LOST, CONV_LOST] { s.view.dev with
        held := s.dev.held ++ [s.firing 496] })) ∧
    (s.get DEV_STATUS_REFCLK_OK ≠ 0 → Answers .refclkLoss s (fun t =>
      t.get DEV_STATUS_REFCLK_OK = 0 ∧ t.get TIME_CLK_STATUS_REFCLK_LOST = 1 ∧ t.get CONV_LOST = 1 ∧
      t.get DEV_STATUS_PLL_LOCK = 0 ∧ (s.get DEV_STATUS_PLL_LOCK ≠ 0 → t.get TIME_CLK_STATUS_LOCK_LOST = 1) ∧
      Leaves s t [DEV_STATUS_REFCLK_OK, TIME_CLK_STATUS_REFCLK_LOST, DEV_STATUS_PLL_LOCK, TIME_CLK_STATUS_LOCK_LOST, CONV_LOST]
        { s.view.dev with held := s.dev.held ++ [s.firing 496] }))

/-- Only a write of 0xA5000001 to DEV.RESET requests a device reset; any other that sets DEVICE is ignored and logged, and one that does
not does nothing. The reset, which shows in the error log, counts itself in RESET_CAUSE, samples BOOT_SEL again, derives PTP.CLOCK_ID and
starts the two lanes that have a role from reset; every other register outside the always-on domain returns to its reset value, with
REFCLK_OK, the fabric's cycle and the loss of the outputs as they were and the converters' calibration dated at the reset; every
other register of the always-on domain keeps its value. TL and NT are 0, the session has no owner, memory holds undefined values, and the fuses,
the flash, the count of ticks, the maintenance ports and the housekeeping controller, but for patch words on their way to it, stay
(R86, R384, R445, R448, R449, R457). -/
def Clause.DeviceReset : Prop :=
  ∀ s : State, s.wf = true →
    (∀ via, Answers (.deviceResetRequest via 0xA5000001) s (fun t =>
      t.get RESET_REQ = 1 + (viaPath via).code ∧ Plain s t [RESET_REQ])) ∧
    (∀ via (v : BitVec 32), v ≠ 0xA5000001 → bit v.toNat 0 = true → Answers (.deviceResetRequest via v) s (fun t =>
      Logged s t 2 (viaPath via).code 63 DEV_RESET_DEVICE.addr ∧
      Leaves s t (logFlds (s.get DEV_ERRLOG_HEAD)) { s.view.dev with held := s.dev.held ++ [s.firing 487] })) ∧
    (∀ via (v : BitVec 32), bit v.toNat 0 = false → Answers (.deviceResetRequest via v) s (fun t => Plain s t [])) ∧
    (∀ sel : Fin 4, s.get RESET_REQ ≠ 0 →
      let kept := [DEV_STATUS_REFCLK_OK, DEV_FABRIC_CYCLE_PS, CONV_LOST]
      let dates := (List.range 32).flatMap (fun u => (List.range 4).map (CAL_LAST u))
      let boot := [DEV_BOOT_SEL, DEV_BOOT_WAITING, PTP_CLOCK_ID_HI, PTP_CLOCK_ID_LO]
      let lanes := if s.get DEV_STATUS_REFCLK_OK = 0 then [] else
        (List.range 2).flatMap (fun n => [LANE_STATUS_STATE n, LANE_TX n])
      let log := logFlds (s.get DEV_ERRLOG_HEAD) ++
        (if sel.val = 3 then logFlds ((s.get DEV_ERRLOG_HEAD + 1) % 2 ^ 32) else [])
      Answers (.deviceReset sel) s (fun t =>
        t.get RESET_REQ = 0 ∧ t.get DEV_RESET_CAUSE_DEVICE = 1 ∧ t.get DEV_RESET_CAUSE_POR = 0 ∧
        t.get DEV_RESET_CAUSE_DEVICE_COUNT = min 255 (s.get DEV_RESET_CAUSE_DEVICE_COUNT + 1) ∧
        t.get (DEV_ERRLOG_W0_KIND (s.get DEV_ERRLOG_HEAD % 64)) = 0x0A ∧
        t.get DEV_BOOT_SEL = sel ∧ t.get NT_NOW = 0 ∧ t.get TRANSPORT_SESSION_OWNER_VALID = 0 ∧
        (∀ f ∈ kept, t.get f = s.get f % 2 ^ f.width) ∧ (∀ f ∈ dates, t.get f = s.dev.ticks % 2 ^ 64) ∧
        (s.get DEV_STATUS_REFCLK_OK % 2 = 1 → ∀ n < 2, t.get (LANE_STATUS_STATE n) = LANE_SIGNAL) ∧
        (∀ f : Fld, inRanges deviceRanges f.key = true → (∀ g ∈ kept ++ dates ++ boot ++ lanes ++ log, f.key ≠ g.key) →
          t.get f = f.reset) ∧
        (∀ f : Fld, inRanges deviceRanges f.key = false → (∀ g ∈ [RESET_REQ, DEV_RESET_CAUSE_DEVICE, DEV_RESET_CAUSE_POR,
          DEV_RESET_CAUSE_DEVICE_COUNT] ++ kept ++ dates ++ boot ++ lanes ++ log, f.key ≠ g.key) → t.get f = s.get f) ∧
        t.tl = ⟨0, false⟩ ∧ t.fuse = s.fuse ∧ t.pending = s.pending ∧ (∀ a, t.flashAt a = s.flashAt a) ∧
        (∀ a < 2 ^ 40, t.byteAt a = lostAt t.lost a) ∧ t.lost = (0, 2 ^ 40) :: s.lost ∧
        t.dev = { Dev.reset with
          ticks := s.dev.ticks, hk := { s.dev.hk with patch := [] }, port := s.dev.port, out := t.dev.out, held := t.dev.held
          loader := { LoaderSt.reset with
            boot := if sel.val = 0 then BootMode.flash else if sel.val = 1 then BootMode.open_ else BootMode.closed
            flashOp := s.dev.loader.flashOp, flashOps := s.dev.loader.flashOps } }))

/-- A write to DEV.TILE_RESET that names one tile outside lockstep is accepted and logged if the tile is HALTED or NOT_RELEASED, and
logged as ignored if it is not; in lockstep any write but one that names every tile is logged as ignored. The accepted reset acts once
the acquisition unit is at rest and no abort is busy: it leaves the tile NOT_RELEASED, its stack, loop counters, rounds, input queue,
armings and pending latches as a release leaves them, its clasps without an entry stamped 12 frames ahead or later, its unit IDLE
without a pending class, HALT_INFO and RESTART as they were, and no code swap pending; where none was pending it changes no other tile
and no byte of memory (R54, R446). -/
def Clause.TileReset : Prop :=
  ∀ s : State, s.wf = true →
    (∀ via (u : Fin 32), s.get DEV_STATUS_LOCKSTEP = 0 →
      (s.get (SEQ_STATE_STATE u) = HALTED ∨ s.get (SEQ_STATE_STATE u) = NOT_RELEASED) →
      Answers (.tileReset via (BitVec.ofNat 32 (2 ^ u.val))) s (fun t =>
        t.get (TRST u) = 1 ∧ Logged s t 0xA (viaPath via).code u DEV_TILE_RESET.addr ∧
        Leaves s t (TRST u :: logFlds (s.get DEV_ERRLOG_HEAD)) { s.view.dev with held := s.dev.held ++ [s.firing 487] })) ∧
    (∀ via (u : Fin 32), s.get DEV_STATUS_LOCKSTEP = 0 →
      s.get (SEQ_STATE_STATE u) ≠ HALTED → s.get (SEQ_STATE_STATE u) ≠ NOT_RELEASED →
      Answers (.tileReset via (BitVec.ofNat 32 (2 ^ u.val))) s (fun t =>
        Logged s t 2 (viaPath via).code 63 DEV_TILE_RESET.addr ∧
        Leaves s t (logFlds (s.get DEV_ERRLOG_HEAD)) { s.view.dev with held := s.dev.held ++ [s.firing 487] })) ∧
    (∀ via (v : BitVec 32), s.get DEV_STATUS_LOCKSTEP ≠ 0 → v ≠ 0xFFFFFFFF → Answers (.tileReset via v) s (fun t =>
      Logged s t 2 (viaPath via).code 63 DEV_TILE_RESET.addr ∧
      Leaves s t (logFlds (s.get DEV_ERRLOG_HEAD)) { s.view.dev with held := s.dev.held ++ [s.firing 487] })) ∧
    (∀ u : Fin 32, s.get (TRST u) ≠ 0 → s.get (CAP_STATE_STATE u) ≠ RECORDING → s.get (CAP_STATE_STATE u) ≠ REARM →
      s.get (CLASP_ABORT_CTRL_BUSY u) = 0 → Answers (.tileResetComplete u) s (fun t =>
        t.get (TRST u) = 0 ∧ t.get (SEQ_STATE_STATE u) = NOT_RELEASED ∧ t.get (SEQ_SP u) = 0 ∧
        (∀ n < 4, t.get (SEQ_LC u n) = 0) ∧ (∀ k < 8, t.get (RD_STATUS_ROUND u k) = 0 ∧ t.view.win u k = none) ∧
        (∀ i < 16, t.get (EVPORT_PEND_GEN_SET u (i / 8) (i % 8)) = 0) ∧
        t.get (CAP_STATE_STATE u) = IDLE ∧ t.get (CAP_STATE_PVALID u) = 0 ∧
        t.get (CLASP_ABORT_CTRL_BUSY u) = 0 ∧ t.get (CLASP_ABORT_EFF_LO u) = (s.tl.count + 12) % 2 ^ 32 ∧
        (t.tile u).dspIn = [] ∧ (t.tile u).arms = [] ∧
        (∀ c < 33, ∀ i ∈ (t.view.clasp u c).items, ∀ h ∈ i.members, h.entry.stamp < s.tl.count + 12) ∧
        t.get LOADER_SWAP_PEND / 2 ^ u.val % 2 = 0 ∧
        (∀ f ∈ [SEQ_HALT_INFO_CAUSE u, SEQ_HALT_INFO_ADDR u, SEQ_HALT_INFO_PARGRP u, SEQ_RESTART u], t.get f = s.get f) ∧
        (s.get LOADER_SWAP_PEND / 2 ^ u.val % 2 = 0 → StoresKept s t ∧ ∀ v < 32, v ≠ u.val → t.tile v = s.tile v) ∧
        t.tl = s.tl ∧ t.fuse = s.fuse ∧ t.pending = s.pending))

end Sys2Proof

/-- Device reset and tile reset. -/
def Obligations.Resets : Prop :=
  Clause.DeviceReset ∧ Clause.TileReset

namespace Sys2Proof

/-- DEV.BOOT.GO ends the wait of BOOT_SEL and lets the loader take its source, here one with no entry waiting; the end of PORESET's
memory training lets a held image go on (R448, R450). -/
def Clause.BootAndTraining : Prop :=
  ∀ s : State, s.wf = true →
    (∀ via (src : Bool), s.get DEV_BOOT_WAITING ≠ 0 → (src = true → imageQueue s.view = none) →
      Answers (.bootGo via src) s (fun t => t.get DEV_BOOT_WAITING = 0 ∧ t.get DEV_BOOT_SRC = b2n src ∧
        Leaves s t [DEV_BOOT_WAITING, DEV_BOOT_SRC] { s.view.dev with
          loader := { s.dev.loader with boot := if src then BootMode.open_ else BootMode.flash } })) ∧
    (s.get DEV_BOOT_WAITING = 0 → ∀ via src, Answers (.bootGo via src) s (fun t => t.get DEV_BOOT_SRC = b2n src ∧
      Logged s t 2 (viaPath via).code 63 DEV_BOOT_GO.addr)) ∧
    (s.dev.loader.holding = true → portsTrain s.view = false → Answers .memoryTrainingResume s (fun t =>
      Leaves s t [] { s.view.dev with loader := { s.dev.loader with holding := false } }))

end Sys2Proof

/-- The start-up order, the loss of a clock, and the boot choice. -/
def Obligations.StartUpOrder : Prop :=
  Clause.StartUpSteps ∧ Clause.ClockLoss ∧ Clause.BootAndTraining

namespace Sys2Proof

/-! ## Time (R35 to R39, R372 to R376) -/

/-- ARM is taken while no tile is released and is ignored and logged otherwise; an edge that finds the device not armed is counted
(R37, R39). -/
def Clause.EpochArming : Prop :=
  ∀ s : State, s.wf = true →
    (∀ via, anyReleased s.view = false → Answers (.epochArm via) s (fun t =>
      t.get TIME_EPOCH_CTRL = 1 ∧ Plain s t [TIME_EPOCH_CTRL])) ∧
    (∀ via, anyReleased s.view = true → Answers (.epochArm via) s (fun t =>
      Logged s t 2 (viaPath via).code 63 TIME_EPOCH_CTRL.addr ∧
      Leaves s t (logFlds (s.get DEV_ERRLOG_HEAD)) { s.view.dev with held := s.dev.held ++ [s.firing 487] })) ∧
    (∀ phase, s.get DEV_STATUS_REFCLK_OK ≠ 0 → s.get TIME_EPOCH_CTRL = 0 → Answers (.epochEdge phase) s (fun t =>
      t.get TIME_EPOCH_STATUS_IGNORED = min (2 ^ TIME_EPOCH_STATUS_IGNORED.width - 1) (s.get TIME_EPOCH_STATUS_IGNORED + 1) ∧
      Plain s t [TIME_EPOCH_STATUS_IGNORED]))

/-- An edge that finds the device armed is accepted: ARM clears, VALID and PHASE are set, EPOCH fires, every clasp and feed
is empty, no tile is HALTED any longer, and the boundary 256 frames behind the edge is fixed, moved by the sample slots of DESKEW as it
stands at the edge; at that boundary TL becomes 0 and counts, with NT latched into NT_EPOCH and a pulse begun of every mark of the TL
source, and where it lies less than half a frame behind its tick nothing else changes (R36, R37, R39, R374, R376). -/
def Clause.EpochEdge : Prop :=
  ∀ s : State, s.wf = true →
    (∀ phase, s.get DEV_STATUS_REFCLK_OK ≠ 0 → s.get TIME_EPOCH_CTRL ≠ 0 →
      Answers (.epochEdge phase) s (fun t =>
        t.get TIME_EPOCH_CTRL = 0 ∧ t.get TIME_EPOCH_STATUS_VALID = 1 ∧ t.get TIME_EPOCH_STATUS_PHASE = phase ∧
        t.dev.epochZero = some ((s.dev.ticks : Int) + 256 + sext 12 (s.get TIME_DESKEW) / 16).toNat ∧
        t.dev.epochPart = (sext 12 (s.get TIME_DESKEW) % 16).toNat ∧
        (∃ f ∈ t.dev.held, f.src = 497) ∧
        (∀ u < 32, (t.tile u).clasps = Vector.replicate 33 Clasp.reset ∧ (t.tile u).stage = []) ∧
        (∀ u < 32, t.get (SEQ_STATE_STATE u) ≠ HALTED) ∧ t.fuse = s.fuse ∧ t.pending = s.pending)) ∧
    (zeroReached s.view = true → Answers .tlZeroBoundary s (fun t =>
      t.tl = ⟨0, true⟩ ∧ t.get TIME_NT_EPOCH_FRAC = s.get NT_NOW % 2 ^ 32 ∧
      t.get TIME_NT_EPOCH_LO = s.get NT_NOW / 2 ^ 32 % 2 ^ 32 ∧ t.get TIME_NT_EPOCH_HI = s.get NT_NOW / 2 ^ 64 % 2 ^ 32 ∧
      StoresKept s t ∧ t.fuse = s.fuse ∧ t.pending = s.pending ∧ t.dev.epochZero = none ∧ t.dev.epochPart = 0 ∧
      (s.dev.epochPart < 8 → RegsBut s t [TIME_NT_EPOCH_FRAC, TIME_NT_EPOCH_LO, TIME_NT_EPOCH_HI] ∧
        t.dev = { s.view.dev with epochZero := none, epochPart := 0, marks := t.dev.marks }) ∧
      ∀ m < 8, s.get (TIME_MARK_SRC m) = 3 → (m, s.dev.ticks) ∈ t.dev.marks))

end Sys2Proof

/-- EPOCH, from its arming to its edge. -/
def Obligations.Epoch : Prop :=
  Clause.EpochArming ∧ Clause.EpochEdge

namespace Sys2Proof

/-- A frame of a clock that runs advances TL by 1 where TL counts, NT by INCR, and the count of frame ticks; while the clock does not
run, nothing happens (R35, R372). -/
def Clause.FrameAdvances : Prop :=
  ∀ s : State, ∀ frames taken,
    (s.get DEV_STATUS_PLL_LOCK ≠ 0 → Answers (.frameTick frames taken) s (fun t =>
      t.tl = (if s.tl.running then ⟨s.tl.count + 1, true⟩ else s.tl) ∧ t.dev.ticks = s.dev.ticks + 1 ∧
      (s.wf = true → t.get NT_NOW = (s.get NT_NOW + s.get TIME_INCR_NS * 2 ^ 32 + s.get TIME_INCR_FRAC) % 2 ^ 96) ∧
      t.fuse = s.fuse ∧ t.pending = s.pending)) ∧
    (s.get DEV_STATUS_PLL_LOCK = 0 → s.wf = true → Answers (.frameTick frames taken) s (fun t => Leaves s t [] s.view.dev))

/-- In a frame of a device that Storm holds, with no commit pending and nothing in the capture writers' buffers, the tiles stand still: beside NT and the ticks only the marks go on,
of which one without a source is low, and the refresh debt of the DDR5 channels that are READY, by 1 ns for each of their ranks (R372,
R376, R411, R437). -/
def Clause.StormFrame : Prop :=
  ∀ s : State, s.wf = true → ∀ frames taken, s.get DEV_STATUS_PLL_LOCK ≠ 0 → s.get THERM_STORM_TRIPPED ≠ 0 →
    s.dev.heldFrames = none → s.get LOADER_STATE_STATE ≠ LD_PENDING → (∀ c < 2, (s.view.ddr c).writer = []) →
    Answers (.frameTick frames taken) s (fun t =>
      (∀ m < 8, s.get (TIME_MARK_SRC m) = 0 → t.get (MARK_HIGH m) = 0) ∧
      (∀ c < 2, (s.get (DDR_STATUS_STATE c) = DDR_READY → (t.view.ddr c).debt = [(s.view.ddr c).debt.getD 0 0 + 1,
          if s.get (DDR_CFG_RANKS c) = 1 then (s.view.ddr c).debt.getD 1 0 + 1 else 0]) ∧
        (s.get (DDR_STATUS_STATE c) ≠ DDR_READY → t.view.ddr c = s.view.ddr c)) ∧
      RegsBut s t (NT_NOW :: (List.range 8).map MARK_HIGH ++
        (List.range 2).flatMap (fun c => [DDR_DEBT_RANK0 c, DDR_DEBT_RANK1 c, DDR_REF_STAT_N_MAX c])) ∧ StoresKept s t ∧
      t.dev = { s.view.dev with ticks := s.dev.ticks + 1, marks := t.dev.marks, ddr := t.dev.ddr, out := t.dev.out })

/-- A device whose clock runs, that Storm does not hold and that no commit is due in, so that its next frame begins at once. -/
def Running (s : State) : Prop :=
  s.wf = true ∧ s.get DEV_STATUS_PLL_LOCK ≠ 0 ∧ s.get THERM_STORM_TRIPPED = 0 ∧ s.dev.heldFrames = none ∧
    s.get LOADER_STATE_STATE ≠ LD_PENDING

/-- A source has fired, among what a command has put behind the firings that were held (R265). -/
def NewFiring (s t : State) (src : Nat) : Prop := ∃ gs, t.dev.held = s.dev.held ++ gs ∧ ∃ g ∈ gs, g.src = src

/-- The frame i frames before the newest that the ADC of tile u has given. -/
def adcAt (s : State) (u i : Nat) : AdcFrame := (s.tile u).adc.getD i ⟨[], 0, false, false⟩

/-- What the open window x of a channel holds once it has integrated d of a frame a (R116, R122, R125). -/
def integrated (s : State) (u k : Nat) (x : Window) (a : AdcFrame) (d : Int × Int) : Window :=
  let term := winTerm s.view u k x d
  let i := accAdd x.accI term.1 x.holdI
  let q := accAdd x.accQ term.2 x.holdQ
  { x with
    added := x.added + 1, accI := i.1, accQ := q.1, holdI := i.2, holdQ := q.2
    ovr := x.ovr || a.tainted || a.lost, lost := x.lost || a.lost, gov := i.2 || q.2 }

/-- In a frame of a running device a tile takes ten samples, each limited to 12 bits and marked where it was limited, 0 where the ADC is
disabled, or a dropped frame; the peak, the overrange and the losses are kept, and their first rise fires source 7 or 2; and the open
window of each channel adds d of the frame 24 frames back, 0 for a dropped one, to its accumulators, of which a rise of GOV fires
source 6; behind its last frame a window is closed (R106, R110, R116, R121, R124, R125, R129). -/
def Clause.ConverterFrames : Prop :=
  ∀ s : State, Running s → ∀ frames taken, ∀ u < 32, let x := frames.getD u noInput
    let raw := (List.range 10).map (fun i => if s.get (ADC_CTRL_EN u) ≠ 0 then x.samples.getD i 0 else 0)
    let peak := raw.foldl (fun m c => max m (clampI (-2048) 2047 c).natAbs) 0
    Answers (.frameTick frames taken) s (fun t =>
      (∀ i < 29, adcAt t u (i + 1) = adcAt s u i) ∧ (adcAt t u 0).lost = x.drop ∧
      (x.drop = false → ∀ i < 10, (adcAt t u 0).codes.getD i 0 = clampI (-2048) 2047 (raw.getD i 0) ∧
        (bit (adcAt t u 0).clamp i = true ↔ raw.getD i 0 < -2048 ∨ 2047 < raw.getD i 0)) ∧
      t.get (ADC_PEAK u) = max (s.get (ADC_PEAK u)) peak ∧
      ((∃ v ∈ raw, v < -2048 ∨ 2047 < v) → t.get (ADC_OVR_STICKY u) = 1 ∧ Counted s t (ADC_OVR_COUNT u) ∧
        (s.get (ADC_OVR_STICKY u) = 0 → NewFiring s t (tileSrc u 7))) ∧
      (x.drop = true → t.get (ADC_FIFO_OVERRUN u) = 1 ∧ Counted s t (ADC_FIFO_LOST u) ∧ t.get (ADC_FIFO_FILL_MAX u) = 2000 ∧
        (s.get (ADC_FIFO_OVERRUN u) = 0 → NewFiring s t (tileSrc u 2))) ∧
      (x.drop = false → t.get (ADC_FIFO_FILL_MAX u) = max (s.get (ADC_FIFO_FILL_MAX u)) (min x.fill 2000)) ∧
      (∀ k < 8, ∀ v, s.view.win u k = some v → let a := adcAt s u 22
        let d := if a.lost then (0, 0) else demod s.view u k (kdFsel v.kdA) ((t.tl.count : Int) - 24) a.codes
        let v' := integrated s u k v a d
        (v.added < kdLen v.kdB → t.view.win u k = some v' ∧
          (v'.gov = true → v.gov = false → NewFiring s t (tileSrc u 6))) ∧
        (kdLen v.kdB ≤ v.added → t.view.win u k = some v ∧ t.get (RD_STATUS_OPEN u k) = 0)))

/-- In a frame of a running device each tone engine fixes the samples of its frame and keeps those of the frames before it; its pulse
leaves it at the end of its span. Each DAC sums the frame two back into 14-bit codes, 0 where it is disabled, counts one that
saturates, abandons its calibration where a sum is not 0, and the codes that it summed eight frames ago reach its balls (R40, R67, R68,
R76, R77, R81; the coefficients are those in force now where no commit has kept older ones). -/
def Clause.ToneFrames : Prop :=
  ∀ s : State, Running s → ∀ frames taken, ∀ u < 32, Answers (.frameTick frames taken) s (fun t =>
    (∀ e < 16, let x := s.view.tone u e
      (∀ f < 4, ∀ i, histSample (t.view.tone u e) (f + 1) i = histSample x f i) ∧ (t.view.tone u e).part = [] ∧
      (x.pulse = none → (t.view.tone u e).pulse = none ∧ ∀ i < 16, histSample (t.view.tone u e) 0 i = x.part.getD i (0, 0)) ∧
      (∀ p, x.pulse = some p →
        (p.page = none ∨ ∀ e' < 16, e' ≠ e → ∀ q, (s.view.tone u e').pulse = some q → q.page ≠ p.page) →
        (t.view.tone u e).pulse =
          (match spanEnd p with | some n => if n ≤ s.tl.count * 16 + 16 then none else some p | none => some p) ∧
        ∀ i < 16, histSample (t.view.tone u e) 0 i =
          x.part.getD i (toneSample s.view u e p (s.tl.count * 16 + i)))) ∧
    ((s.tile u).fluxOld = [] → ∀ d < 3,
      (∀ i < 16, ((t.view.dac u d).line.getD 0 []).getD i 0 =
        if s.get (DAC_CTRL_EN u d) ≠ 0 then satS 14 (dacCode (dacSum t.view u d i)) else 0) ∧
      ((∃ i < 16, overS 14 (dacCode (dacSum t.view u d i)) = true) →
        t.get (DAC_CLIP_STICKY u d) = 1 ∧ Counted s t (DAC_CLIP_COUNT u d)) ∧
      ((∃ i < 16, dacSum t.view u d i ≠ 0) → t.get (DAC_CAL_RUNNING u d) = 0)) ∧
    (∀ d < 3, ∀ codes, (s.view.dac u d).line.getD 7 [] = codes → codes ≠ [] → s.get CONV_LOST = 0 → .dac u d codes ∈ t.dev.out))

/-- In a frame of a running device the two samples of a flux engine go through its sections into its FIR; each line sums the FIRs of the
engines four frames back into 16-bit codes, 0 where it is disabled, and the codes summed three frames ago reach their balls (R40, R89,
R96 to R101; the engine's pulse does not end in the frame, and the coefficients are those in force now where no commit has kept older
ones). -/
def Clause.FluxFrames : Prop :=
  ∀ s : State, Running s → ∀ frames taken, ∀ u < 32, Answers (.frameTick frames taken) s (fun t =>
    (∀ e < 8, let x := s.view.flux u e
      x.part.length ≤ 2 → (∀ p n, x.pulse = some p → fluxSpanEnd p = some n → 2 * s.tl.count + 2 < n) →
      let v := fun i => x.part.getD i (fluxX s.view u e x.pulse (2 * s.tl.count + i))
      let r0 := iirChain s.view u e 0 x.u (v 0)
      let r1 := iirChain s.view u e 0 r0.1 (v 1)
      (t.view.flux u e).u = r1.1 ∧ (t.view.flux u e).pulse = x.pulse ∧ (t.view.flux u e).part = [] ∧
      (t.view.flux u e).w.getD 0 0 = r1.2.1 ∧ (t.view.flux u e).w.getD 1 0 = r0.2.1 ∧
      (∀ i < 31, (t.view.flux u e).w.getD (i + 2) 0 = x.w.getD i 0) ∧
      ((r0.2.2 || r1.2.2) = true → t.get (FLUX_CLIP_STICKY u e) = 1)) ∧
    ((s.tile u).fluxOld = [] → ∀ b < 8, let i := s.get (FLUX_ROUTE_BALL u b)
      ∀ h < 2, let y := lineCode t.view u 0 i ((List.range 8).map (fun e => (firOut t.view u e 0 (1 - h)).1))
        ((vget (t.tile u).fluxLine [] b).getD 0 []).getD h 0 = (if s.get (FLUX_OUT u i) = 1 then y.1 else 0) ∧
        (y.2 = true → t.get (FLUX_CLIP_STICKY u i) = 1)) ∧
    (∀ b < 8, ∀ codes, (vget (s.tile u).fluxLine [] b).getD 2 [] = codes → codes ≠ [] → s.get CONV_LOST = 0 →
      .fluxCodes u b codes ∈ t.dev.out))

/-- In a frame of a running device an acquisition unit that waits for a trigger takes the frame into its ring history, and is ARMED once
that holds PRE frames; one that records takes it into its record while the ring and the slot have room; and one that is dead in it
counts it (R241, R246, R250, R251). -/
def Clause.CaptureFrames : Prop :=
  ∀ s : State, Running s → ∀ frames taken, ∀ u < 32, let c := capClass s.view u
    let n := frameSize s.view u c
    Answers (.frameTick frames taken) s (fun t =>
      ((capReady s.view u = true) → (∀ g ∈ (s.tile u).cap.garms, t.tl.count < g.frame) →
        (t.tile u).cap.ring = (if n = 0 then [] else (framePayload s.view u c :: (s.tile u).cap.ring).take (ringBytes / n)) ∧
        (t.tile u).cap.ringEnd = s.tl.count ∧
        (capState t.view u = if (s.tile u).cap.ringStart + s.get (CAPCLASS_LEN_PRE u c) ≤ t.tl.count then ARMED
          else capState s.view u)) ∧
      (∀ r, (s.tile u).cap.rec_ = some r → r.cls = c → capState s.view u = RECORDING → s.tl.count < r.point.w + r.post →
        (∀ g ∈ (s.tile u).cap.garms, t.tl.count < g.frame) →
        slotFaulted s.view u c = false → r.frames * n + n - r.moved ≤ ringBytes → 64 + r.frames * n + n ≤ slotBytes s.view u c →
        (t.tile u).cap.ring = (if n = 0 then [] else framePayload s.view u c :: (s.tile u).cap.ring) ∧
        (∃ r', (t.tile u).cap.rec_ = some r' ∧ r'.postAct = r.postAct + 1 ∧ r'.point = r.point ∧ r'.first = r.first ∧
          r.moved ≤ r'.moved) ∧ capState t.view u = RECORDING) ∧
      t.get (CAP_DEAD u) = (if capIsDead s.view u then satAdd 0xFFFFFFFFFFFF (s.get (CAP_DEAD u)) 1 else s.get (CAP_DEAD u)))

end Sys2Proof

/-- A frame tick: the times in every device, what goes on in one that Storm holds, and in a running one its converters, its DACs and
flux lines and its acquisition units. -/
def Obligations.FrameTick : Prop :=
  Clause.FrameAdvances ∧ Clause.StormFrame ∧ Clause.ConverterFrames ∧ Clause.ToneFrames ∧ Clause.FluxFrames ∧ Clause.CaptureFrames

namespace Sys2Proof

/-- GO stages an NT command of OP 0, 1 or 2 with its value, its frame and whether it waits for an epoch; while one is staged the write
is ignored and logged; a frame AT that has passed sets LATE; CANCEL withdraws a staged command (R373). -/
def Clause.NetworkTimeStaging : Prop :=
  ∀ s : State, s.wf = true → ∀ (via : Via) (epoch : Bool),
    let late := !epoch && decide (ntAt s.view ≠ 0) && decide (ntAt s.view ≤ s.tl.count)
    let at_ := if epoch || decide (ntAt s.view = 0) || late then none else some (ntAt s.view)
    (∀ c, c ∈ [(Instr.ntIncr via epoch, 0), (Instr.ntAdd via epoch, 1), (Instr.ntSet via epoch, 2)] →
      (s.get TIME_NT_CMD_BUSY = 0 → Answers c.1 s (fun t =>
        t.get TIME_NT_CMD_BUSY = 1 ∧ t.get TIME_NT_CMD_OP = c.2 ∧ t.get TIME_NT_CMD_EPOCH = b2n epoch ∧
        t.get TIME_NT_CMD_LATE = (if s.get TIME_NT_CMD_LATE ≠ 0 ∨ late = true then 1 else 0) ∧
        Leaves s t [TIME_NT_CMD_BUSY, TIME_NT_CMD_OP, TIME_NT_CMD_EPOCH, TIME_NT_CMD_LATE]
          { s.view.dev with ntCmd := some ⟨c.2, ntVal s.view, epoch, false, at_, s.dev.ticks⟩ })) ∧
      (s.get TIME_NT_CMD_BUSY ≠ 0 → Answers c.1 s (fun t =>
        Logged s t 2 (viaPath via).code 63 TIME_NT_CMD_GO.addr ∧
        Leaves s t ([TIME_NT_CMD_OP, TIME_NT_CMD_EPOCH] ++ logFlds (s.get DEV_ERRLOG_HEAD)) { s.view.dev with
          held := s.dev.held ++ [s.firing 487] }))) ∧
    (s.get TIME_NT_CMD_BUSY ≠ 0 → Answers .ntCmdCancel s (fun t => t.get TIME_NT_CMD_BUSY = 0 ∧
      Leaves s t [TIME_NT_CMD_BUSY] { s.view.dev with ntCmd := none })) ∧
    (s.get TIME_NT_CMD_BUSY = 0 → Answers .ntCmdCancel s (fun t => Leaves s t [] s.view.dev))

/-- A staged NT command that has come to its tick, its frame, the next tick or the TL = 0 boundary of the next epoch, acts: INCR
replaces the rate, and the tick adds the new one; ADD adds, SET sets NT; BUSY clears; and at TL = 0 NT_EPOCH shows the new NT (R373,
R374). -/
def Clause.NetworkTimeApply : Prop :=
  ∀ s : State, s.wf = true → ∀ c : NtCmd, s.dev.ntCmd = some c → c.op < 3 → ntReached s.view c = true →
    let zero := s.tl.running && decide (s.tl.count = 0)
    Answers .ntCmdApply s (fun t => t.get TIME_NT_CMD_BUSY = 0 ∧
      (c.op = 0 → t.get TIME_INCR_NS = c.val / 2 ^ 32 % 2 ^ TIME_INCR_NS.width ∧ t.get TIME_INCR_FRAC = c.val % 2 ^ 32 ∧
        t.get NT_NOW = (s.get NT_NOW + c.val % 2 ^ 64 + 2 ^ 96 - ntIncr s.view) % 2 ^ 96) ∧
      (c.op = 1 → t.get NT_NOW = (s.get NT_NOW + c.val) % 2 ^ 96) ∧
      (c.op = 2 → t.get NT_NOW = c.val % 2 ^ 96) ∧
      (zero = true → t.get TIME_NT_EPOCH_FRAC = t.get NT_NOW % 2 ^ 32 ∧ t.get TIME_NT_EPOCH_LO = t.get NT_NOW / 2 ^ 32 % 2 ^ 32 ∧
        t.get TIME_NT_EPOCH_HI = t.get NT_NOW / 2 ^ 64 % 2 ^ 32) ∧
      Leaves s t ([TIME_NT_CMD_BUSY, NT_NOW] ++ (if c.op = 0 then [TIME_INCR_NS, TIME_INCR_FRAC] else []) ++
          if zero then [TIME_NT_EPOCH_FRAC, TIME_NT_EPOCH_LO, TIME_NT_EPOCH_HI] else [])
        { s.view.dev with ntCmd := none })

end Sys2Proof

/-- Network-time commands, staged and applied. -/
def Obligations.NetworkTime : Prop :=
  Clause.NetworkTimeStaging ∧ Clause.NetworkTimeApply

/-- SNAP latches NT and TL of one tick; an armed alarm fires once NT reaches its target, marks its frame and is no longer armed,
and one that is not armed, or whose target lies ahead, does not fire (R374, R375, R376). -/
def Obligations.SnapshotsAndAlarms : Prop :=
  ∀ s : State, s.wf = true →
    Answers .ntSnap s (fun t => t.get TIME_NT_SNAP_FRAC = s.get NT_NOW % 2 ^ 32 ∧
      t.get TIME_NT_SNAP_LO = s.get NT_NOW / 2 ^ 32 % 2 ^ 32 ∧ t.get TIME_NT_SNAP_HI = s.get NT_NOW / 2 ^ 64 % 2 ^ 32 ∧
      t.get TIME_TL_SNAP_LO = s.tl.count % 2 ^ 32 ∧ t.get TIME_TL_SNAP_HI = s.tl.count / 2 ^ 32 % 2 ^ 32 ∧
      Plain s t [TIME_NT_SNAP_FRAC, TIME_NT_SNAP_LO, TIME_NT_SNAP_HI, TIME_TL_SNAP_LO, TIME_TL_SNAP_HI]) ∧
    (∀ k : Fin 2, Answers (.alarmArm k) s (fun t => t.get (TIME_ALARM_CTRL_ARMED k) = 1 ∧
      t.get (ALARM_AT k) = s.dev.ticks % 2 ^ 64 ∧ Plain s t [TIME_ALARM_CTRL_ARMED k, ALARM_AT k])) ∧
    (∀ k : Fin 2, s.get (TIME_ALARM_CTRL_ARMED k) ≠ 0 → s.get (ALARM_AT k) < s.dev.ticks →
      0 ≤ sext 32 (seqDiff (bits (s.get NT_NOW) 32 32) (s.get (TIME_ALARM_TARGET k))) →
      Answers (.alarmFire k) s (fun t => t.get (TIME_ALARM_CTRL_ARMED k) = 0 ∧ t.get (TIME_ALARM_CTRL_FIRED k) = 1 ∧
        Leaves s t [TIME_ALARM_CTRL_ARMED k, TIME_ALARM_CTRL_FIRED k] { s.view.dev with
          held := s.dev.held ++ [s.firing (498 + k)]
          marks := s.dev.marks ++ ((List.range 8).filter (fun m => decide (s.get (TIME_MARK_SRC m) = 1 + k.val))).map
            (fun m => (m, s.dev.ticks)) })) ∧
    (∀ k : Fin 2, (s.get (TIME_ALARM_CTRL_ARMED k) = 0 ∨
        sext 32 (seqDiff (bits (s.get NT_NOW) 32 32) (s.get (TIME_ALARM_TARGET k))) < 0) →
      Answers (.alarmFire k) s (fun t => Plain s t []))

namespace Sys2Proof

/-! ## Clasps (R43 to R56, R72 to R74) -/

/-- The clasps of a tile without open units. -/
abbrev noneOpen (x : Tile) : Prop := ∀ d < 33, (vget x.clasps Clasp.reset d).open_ = none

/-- No staged group that tile u holds can be selected before its frame (R168). -/
def noneSelectable (s : State) (u : Nat) : Prop :=
  ∀ d < 33, ∀ i ∈ (s.view.clasp u d).items, ∀ h es, i = .group (h :: es) → selectable s.view u h = false

/-- Entry g stands first among those staged for clasp c of a tile that runs, and is not paged. -/
def Ready (s : State) (u c : Nat) (g : Staged) : Prop :=
  (stagedFor (s.tile u) c).head? = some g ∧ s.get (SEQ_STATE_STATE u) = RUN ∧ g.page = none ∧ isPaged s.view u c g.entry = false

/-- Entry g as its clasp holds it when it arrives now. -/
def arriving (s : State) (g : Staged) : HeldEntry := ⟨g.entry, (g.entry.stamp : Int) - s.tl.count, g.from_, none⟩

/-- Entry g has left the stage queue of clasp c of tile u, the low-water mark has taken its margin, a step of the ADC's calibration that a
WINDOW now meets has been abandoned, and the other clasps and tiles and every register but those and the listed ones are as
before (R52, R81, R127). -/
def Arrived (s t : State) (u c : Nat) (g : Staged) (fs : List Fld) : Prop :=
  (t.tile u).stage = (s.tile u).stage.eraseP (fun x => x.entry.clasp = c) ∧
  t.get (CLASP_LOW_WATER u) = min (s.get (CLASP_LOW_WATER u)) (min (g.entry.stamp - s.tl.count) 0x1FFFF) ∧
  t.get (ADC_CAL_RUNNING u) =
    (if windowAhead t.view u (s.get (ADC_CAL_START u) + 256 - s.dev.ticks) then 0 else s.get (ADC_CAL_RUNNING u)) ∧
  (∀ d < 33, d ≠ c → t.view.clasp u d = s.view.clasp u d) ∧ (∀ v < 32, v ≠ u → t.tile v = s.tile v) ∧
  Frame s t ([CLASP_LOW_WATER u, ADC_CAL_RUNNING u] ++ fs)

/-- An entry that stands first in its stage queue, suits its clasp, is no member of a chain or group, needs no page, and
reaches the clasp in order and at least 12 frames ahead of its stamp, is admitted behind what the clasp holds, and the low-water mark
takes its margin (R45, R46, R52). -/
def Clause.ClaspAdmits : Prop :=
  ∀ s : State, s.wf = true → ∀ (u : Fin 32) (c : Fin 33) (g : Staged), Ready s u c g → suits c g.entry = true →
    g.entry.alt = false → g.entry.chain = false → (s.view.clasp u c).open_ = none → noneSelectable s u →
    s.tl.count + 12 ≤ g.entry.stamp →
    (∀ r, orderRef (s.view.clasp u c) = some r → r.key ≤ g.entry.key) →
    Answers (.claspAdmit u c) s (fun t =>
      (t.view.clasp u c).items = (s.view.clasp u c).items ++ [.one (arriving s g)] ∧
      (t.view.clasp u c).open_ = none ∧
      orderRef (t.view.clasp u c) = some ⟨g.entry.stamp, g.entry.slot, decide (g.entry.kind = KWINDOW)⟩ ∧
      t.dev.held = s.dev.held ∧ Arrived s t u c g [])

/-- The first member of a PARAM chain, or of a staged group whose last option it is not, opens its unit at a clasp that has none open;
a member that continues a chain and ends it admits the chain as one unit, in order and at least 12 frames ahead (R48, R49, R167). -/
def Clause.ClaspUnits : Prop :=
  ∀ s : State, s.wf = true → ∀ (u : Fin 32) (c : Fin 33) (g : Staged), Ready s u c g → suits c g.entry = true →
    g.leaves = false → noneSelectable s u →
    ((s.view.clasp u c).open_ = none →
      ((g.entry.alt = true ∧ g.entry.opt ≠ topOpt g.entry) ∨ (g.entry.alt = false ∧ g.entry.chain = true)) →
      Answers (.claspAdmit u c) s (fun t =>
        (t.view.clasp u c).open_ = some ⟨!g.entry.alt, [arriving s g], g.from_⟩ ∧
        (t.view.clasp u c).items = (s.view.clasp u c).items ∧ t.dev.held = s.dev.held ∧ Arrived s t u c g [])) ∧
    (∀ x : OpenUnit, (s.view.clasp u c).open_ = some x → x.isChain = true → continues x g.entry = true → g.entry.chain = false →
      s.tl.count + 12 ≤ g.entry.stamp → (∀ r, orderRef (s.view.clasp u c) = some r → r.key ≤ g.entry.key) →
      Answers (.claspAdmit u c) s (fun t =>
        (t.view.clasp u c).open_ = none ∧
        (t.view.clasp u c).items = (s.view.clasp u c).items ++ [.chain (x.members ++ [arriving s g])] ∧
        t.dev.held = s.dev.held ∧ Arrived s t u c g []))

/-- The registers that a LATE, ORDER or FORMAT fault of a tile writes (R58). -/
def faultFlds (u : Nat) : List Fld :=
  [CLASP_UNDERRUN u, CLASP_FIRST_VALID u, CLASP_FIRST_CAUSE u, CLASP_FIRST_CLASP u, CLASP_FIRST_KIND u, CLASP_FIRST_MARGIN u,
    CLASP_FIRST_STAMP_LO u, CLASP_FIRST_STAMP_HI u]

/-- A fault of tile u with a cause has been counted, has fired source 2, and stands in CLASP.FIRST if that was free (R47, R58). -/
def Faulted (s t : State) (u cause : Nat) : Prop :=
  t.get (CLASP_UNDERRUN u) = min (2 ^ (CLASP_UNDERRUN u).width - 1) (s.get (CLASP_UNDERRUN u) + 1) ∧
  t.dev.held = s.dev.held ++ [s.firing (tileSrc u 2)] ∧ t.get (CLASP_FIRST_VALID u) ≠ 0 ∧
  (s.get (CLASP_FIRST_VALID u) = 0 → t.get (CLASP_FIRST_CAUSE u) = cause) ∧
  (s.get (CLASP_FIRST_VALID u) ≠ 0 → t.get (CLASP_FIRST_CAUSE u) = s.get (CLASP_FIRST_CAUSE u))

/-- A single entry that does not suit its clasp is a FORMAT fault; one whose stamp lies before the clasp's reference is an ORDER
fault; one that arrives fewer than 12 frames ahead is a LATE fault; each is discarded (R45, R47, R49). -/
def Clause.ClaspFaults : Prop :=
  ∀ s : State, s.wf = true → ∀ (u : Fin 32) (c : Fin 33) (g : Staged) (cause : Nat), Ready s u c g →
    g.entry.alt = false → g.entry.chain = false → (s.view.clasp u c).open_ = none → noneSelectable s u →
    let late := ∃ r, orderRef (s.view.clasp u c) = some r ∧ g.entry.key < r.key
    ((suits c g.entry = false ∧ cause = FORMAT) ∨ (suits c g.entry = true ∧ late ∧ cause = ORDER) ∨
      (suits c g.entry = true ∧ ¬late ∧ g.entry.stamp < s.tl.count + 12 ∧ cause = LATE)) →
    Answers (.claspAdmit u c) s (fun t => Faulted s t u cause ∧ t.view.clasp u c = s.view.clasp u c ∧
      Arrived s t u c g (faultFlds u))

end Sys2Proof

/-- An entry at its clasp: admitted, or a fault. -/
def Obligations.ClaspAdmission : Prop :=
  Clause.ClaspAdmits ∧ Clause.ClaspUnits ∧ Clause.ClaspFaults

/-- A paged PLAY that waits for a buffer within 12 frames of its stamp is a LATE fault; a completed fetch copies the page into its
buffer and changes no other byte; a fetch of which one location fails its address parity counts and records that location and makes
the PLAY that waits for it a FORMAT fault; a PLAY whose fetch is not complete one frame ahead of its stamp is a LATE fault and frees its
buffer's place (R72 to R74, R401). -/
def Obligations.PageBuffers : Prop :=
  ∀ s : State, s.wf = true → ∀ u : Fin 32,
    (∀ (e : Fin 16) (g : Staged), (stagedFor (s.tile u) e).head? = some g → s.get (SEQ_STATE_STATE u) = RUN →
      (g.page.isSome = true ∨ isPaged s.view u e g.entry = true) → suits e g.entry = true → g.entry.alt = false →
      g.entry.chain = false → (s.view.clasp u e).open_ = none → s.get (DRIVE_PAGE_BUFFERS u) ≠ 0 →
      (∀ r, orderRef (s.view.clasp u e) = some r → r.key ≤ g.entry.key) → g.entry.stamp < s.tl.count + 12 →
      Answers (.pageWaitLate u e) s (fun t => Faulted s t u LATE ∧ t.view.clasp u e = s.view.clasp u e ∧
        (t.tile u).stage = (s.tile u).stage.eraseP (fun x => x.entry.clasp = e.val) ∧
        Frame s t (CLASP_LOW_WATER u :: faultFlds u))) ∧
    (∀ (buf : Fin 16) (b : PageBuf), (s.tile u).pages.find? (fun x => x.buf = buf.val) = some b → b.done = none →
      b.page % 65536 * 512 + 512 ≤ qdrCapacity s.view (b.page / 65536) →
      let dst := tileBase u + 0x100000 + 4 * bufStart s.view u b.buf
      let loc := b.page % 65536 * 512
      let q := b.page / 65536
      Answers (.pageFetchDone u buf []) s (fun t =>
        (∀ i < 4096, t.byteAt (dst + i) = s.byteAt (qdrBase q + b.page % 65536 * 0x1000 + i)) ∧
        MemBut s t dst 4096 ∧ RegsBut s t [] ∧ (∀ a, t.flashAt a = s.flashAt a) ∧
        (t.tile u).pages = (s.tile u).pages.map (fun p => if p.buf = buf.val then { p with done := some true } else p) ∧
        (∀ v < 32, v ≠ u.val → t.tile v = s.tile v)) ∧
      (∀ (j : Fin 512) (e : Fin 16) (h : HeldEntry), (s.view.clasp u e).items = [.one h] → h.page = some b.page → noneOpen (s.tile u) →
        (∀ d < 16, d ≠ e.val → (s.view.clasp u d).items = []) →
        Answers (.pageFetchDone u buf [j]) s (fun t =>
          t.get (QDR_ERR_PARITY q) = min (2 ^ (QDR_ERR_PARITY q).width - 1) (s.get (QDR_ERR_PARITY q) + 1) ∧
          (s.get (QDR_LAST_ERR_VALID q) = 0 → t.get (QDR_LAST_ERR_CLASS q) = 1 ∧
            t.get (QDR_LAST_ERR_LOCATION q) = (loc + j) % 2 ^ (QDR_LAST_ERR_LOCATION q).width) ∧
          t.dev.held = s.dev.held ++ [s.firing (482 + q), s.firing (tileSrc u 2)] ∧ (t.view.clasp u e).items = [] ∧
          (s.get (CLASP_FIRST_VALID u) = 0 → t.get (CLASP_FIRST_CAUSE u) = FORMAT) ∧
          Frame s t ([QDR_ERR_PARITY q, QDR_LAST_ERR_VALID q, QDR_LAST_ERR_CLASS q, QDR_LAST_ERR_LOCATION q] ++ faultFlds u)))) ∧
    (∀ (e : Fin 16) (h : HeldEntry) (p : Nat), (s.view.clasp u e).items = [.one h] → (s.view.clasp u e).open_ = none →
      h.page = some p → h.entry.stamp ≤ s.tl.count + 1 → (∃ b ∈ (s.tile u).pages, b.page = p ∧ b.done ≠ some true) →
      Answers (.pageFetchLate u e) s (fun t => Faulted s t u LATE ∧ (t.view.clasp u e).items = [] ∧
        (t.tile u).pages = (s.tile u).pages.filterMap (fun b =>
          if b.page = p then (if b.users ≤ 1 then none else some { b with users := b.users - 1 }) else some b) ∧
        Frame s t (faultFlds u)))

namespace Sys2Proof

/-- ABORT_FROM a frame discards, from frame E = max(F, now + 12) on, what the clasps hold, their open chains and groups too, and what the
stage queue holds of the abort generation that ends, and keeps what lies before it; the abort generation advances, BUSY is set and the cursor stands at E; while BUSY the write is ignored and logged (R54,
R56). -/
def Clause.AbortFrom : Prop :=
  ∀ s : State, s.wf = true → ∀ (via : Via) (u : Fin 32),
    let f := s.get (CLASP_ABORT_FRAME_LO u) + s.get (CLASP_ABORT_FRAME_HI u) * 2 ^ 32
    let e := max f (s.tl.count + 12)
    (s.get (CLASP_ABORT_CTRL_BUSY u) = 0 → Answers (.abortGo via u) s (fun t =>
      t.get (CLASP_ABORT_CTRL_BUSY u) = 1 ∧ t.get (CLASP_ABORT_CTRL_GEN u) = (s.get (CLASP_ABORT_CTRL_GEN u) + 1) % 4 ∧
      t.get (ABORT_E u) = e % 2 ^ 64 ∧ (t.tile u).seq = { (s.tile u).seq with cursor := e } ∧
      (t.tile u).aborts = (s.tile u).aborts ++ [e] ∧
      (∀ c < 33, (t.view.clasp u c).items.flatMap Item.members =
        ((s.view.clasp u c).items.flatMap Item.members).filter (fun h => decide (h.entry.stamp < e))) ∧
      (∀ c < 33, (t.view.clasp u c).open_ = (s.view.clasp u c).open_.filter (fun x =>
        x.members.head?.all (fun h => decide (h.entry.stamp < e)))) ∧
      (t.tile u).stage = (s.tile u).stage.filter (fun x =>
        !(decide (x.entry.abgen = s.get (CLASP_ABORT_CTRL_GEN u)) && decide (e ≤ x.entry.stamp))) ∧
      (∀ v < 32, v ≠ u.val → t.tile v = s.tile v) ∧
      Frame s t [CLASP_ABORT_CTRL_BUSY u, CLASP_ABORT_CTRL_GEN u, ABORT_E u])) ∧
    (s.get (CLASP_ABORT_CTRL_BUSY u) ≠ 0 → Answers (.abortGo via u) s (fun t =>
      Logged s t 2 (viaPath via).code u (CLASP_ABORT_CTRL_GO u).addr ∧
      Leaves s t (logFlds (s.get DEV_ERRLOG_HEAD)) { s.view.dev with held := s.dev.held ++ [s.firing 487] }))

/-! ## Entries that take effect (R46, R62, R67, R69, R92, R94, R113, R114) -/

/-- A unit that takes effect leaves its clasp: a PARAM unit alone, any other with the units due at the same instant, whose entries
COLLIDE counts (R46). -/
def Taken (s t : State) (u c : Nat) (i : Item) : Prop :=
  (t.view.clasp u c).items = (if i.isParam then (s.view.clasp u c).items.erase i
    else (s.view.clasp u c).items.drop (dueItems s.view u c).length) ∧
  (i.isParam = false → t.get (CLASP_COLLIDE u) = satAdd (2 ^ (CLASP_COLLIDE u).width - 1) (s.get (CLASP_COLLIDE u))
    ((dueItems s.view u c).dropLast.flatMap Item.members).length % 2 ^ (CLASP_COLLIDE u).width)

/-- The pulse of a flux engine, if it has one, goes on past the stamp of an entry: no span ends there first (R53, R92). -/
def fluxGoesOn (s : State) (u e : Nat) (h : HeldEntry) : Prop :=
  ∀ p n, (s.view.flux u e).pulse = some p → fluxSpanEnd p = some n → h.entry.instant (16 + e) < n

/-- A PLAY that takes effect at a tone engine starts the pulse of its template at its stamp, whether the record is paged, with its
fetched page, or not; at a flux engine whose present pulse, if any, goes on past that stamp likewise; and STARTS counts it (R67, R72,
R92). -/
def Clause.PlayStarts : Prop :=
  ∀ s : State, s.wf = true → ∀ (u : Fin 32) (c : Fin 24) (h : HeldEntry),
    nextDue s.view u c = some (.one h) → h.entry.kind = KPLAY →
    let m := h.entry.body % 128
    (∀ e : Nat, c.val = e → e < 16 → toneValid s.view u (toneRecord s.view u e m) = true →
      (tplPaged (toneRecord s.view u e m) = true → h.page.isSome = true ∧
        ∃ b ∈ ((takeDue s.view u c (.one h)).tile u).pages, some b.page = h.page ∧ b.done = some true) →
      Answers (.play u c) s (fun t =>
        (t.view.tone u e).pulse = some ⟨h.entry.key, toneRecord s.view u e m,
          if tplPaged (toneRecord s.view u e m) then h.page else none, none⟩ ∧
        t.get (TONE_STATUS_TEMPLATE u e) = m ∧ t.get (TONE_STATUS_FSEL u e) = tplFsel (toneRecord s.view u e m) ∧
        t.get (TONE_STARTS u e) = satAdd (2 ^ (TONE_STARTS u e).width - 1) (s.get (TONE_STARTS u e)) 1 %
          2 ^ (TONE_STARTS u e).width ∧ Taken s t u c (.one h) ∧ t.dev.held = s.dev.held ∧
        Frame s t [CLASP_COLLIDE u, TONE_STATUS_TEMPLATE u e, TONE_STATUS_FSEL u e, TONE_STARTS u e])) ∧
    (∀ e : Nat, c.val = 16 + e → fluxGoesOn s u e h → fluxValid s.view u (fluxRecord s.view u e m) = true →
      Answers (.play u c) s (fun t =>
        (t.view.flux u e).pulse = some ⟨h.entry.stamp * 2 + h.entry.slot / 8, fluxRecord s.view u e m, none⟩ ∧
        t.get (FLUX_STATUS_TEMPLATE u e) = m ∧
        t.get (FLUX_STARTS u e) = satAdd (2 ^ (FLUX_STARTS u e).width - 1) (s.get (FLUX_STARTS u e)) 1 %
          2 ^ (FLUX_STARTS u e).width ∧ Taken s t u c (.one h) ∧ t.dev.held = s.dev.held ∧
        Frame s t [CLASP_COLLIDE u, FLUX_STATUS_TEMPLATE u e, FLUX_STARTS u e]))

/-- A STOP ends the hold of the pulse in whose span it lies, present or to come, at its stamp, and changes no register but COLLIDE (R69,
R92). -/
def Clause.StopEndsHold : Prop :=
  ∀ s : State, s.wf = true → ∀ (u : Fin 32) (c : Fin 24) (h : HeldEntry),
    nextDue s.view u c = some (.one h) → h.entry.kind = KSTOP →
    (∀ (e : Nat) (p : TonePulse), c.val = e → e < 16 → (s.view.tone u e).pulse = some p → tplHold p.rec_ = true →
      p.stop = none → inSpan p h.entry.key = true →
      Answers (.stop u c) s (fun t => (t.view.tone u e).pulse = some { p with stop := some h.entry.key } ∧
        Taken s t u c (.one h) ∧ Frame s t [CLASP_COLLIDE u])) ∧
    (∀ (e : Nat) (p : FluxPulse), c.val = 16 + e → (s.view.flux u e).pulse = some p → tplHold p.rec_ = true →
      p.stop = none → fluxInSpan p (h.entry.stamp * 2 + h.entry.slot / 8) = true →
      Answers (.stop u c) s (fun t =>
        (t.view.flux u e).pulse = some { p with stop := some (h.entry.stamp * 2 + h.entry.slot / 8) } ∧
        Taken s t u c (.one h) ∧ Frame s t [CLASP_COLLIDE u]))

/-- A pulse whose span is over by the end of the present frame leaves its engine, and with KEEP a flux pulse adds its last played sample,
scaled by AMP, to DC with saturation (R68, R92, R93; the product of −1.0 and −1.0 is added unsaturated by the model's choice, log 151). -/
def Clause.PulseEnds : Prop :=
  ∀ s : State, s.wf = true → ∀ (u : Fin 32) (c : Fin 24),
    (∀ (e : Nat) (p : TonePulse) (n : Nat), c.val = e → e < 16 → (s.view.tone u e).pulse = some p → spanEnd p = some n →
      n ≤ s.tl.count * 16 + 16 →
      Answers (.pulseSpanEnd u c) s (fun t => (t.view.tone u e).pulse = none ∧ Frame s t [])) ∧
    (∀ (e : Nat) (p : FluxPulse) (n : Nat), c.val = 16 + e → (s.view.flux u e).pulse = some p → fluxSpanEnd p = some n →
      n ≤ s.tl.count * 2 + 2 →
      Answers (.pulseSpanEnd u c) s (fun t => (t.view.flux u e).pulse = none ∧
        t.get (FLUX_DC u e) = (if tplKeep p.rec_ then toField 16 (satS 16 (sext 16 (s.get (FLUX_DC u e)) +
          roundAway (tplAmp p.rec_ * fluxLastPlayed s.view u p.rec_) 15)) else s.get (FLUX_DC u e)) ∧
        Frame s t (if tplKeep p.rec_ then [FLUX_DC u e, FLUX_DC_DUE u e, FLUX_CLIP_STICKY u e] else [])))

end Sys2Proof

/-- The pulses of the tone and flux engines: start, hold, stop and end. -/
def Obligations.Pulses : Prop :=
  Clause.PlayStarts ∧ Clause.StopEndsHold ∧ Clause.PulseEnds

namespace Sys2Proof

/-- A PARAM entry of a tone engine writes what its group names: the frequency word with its offset, the offset set or advanced,
half of a template record, or a quiet window of the engine's DAC (R62, R82). -/
def Clause.ToneParameters : Prop :=
  ∀ s : State, s.wf = true → ∀ (u : Fin 32) (e : Fin 16) (h : HeldEntry),
    nextDue s.view u e = some (.one h) → h.entry.kind = KPARAM →
    let g := h.entry.body % 256
    let v := h.entry.body / 256
    (g < 4 → Answers (.freq u e) s (fun t => t.get (TONE_FW_LO u e g) = v % 2 ^ 32 ∧
      t.get (TONE_FW_HI u e g) = bits v 32 16 ∧ t.get (TONE_VZ u e g) = bits v 48 32 ∧ Taken s t u e (.one h) ∧
      Frame s t [TONE_FW_LO u e g, TONE_FW_HI u e g, TONE_VZ u e g])) ∧
    (∀ k < 4, g = 4 + k → Answers (.vzset u e) s (fun t => t.get (TONE_VZ u e k) = v % 2 ^ 32 ∧ Taken s t u e (.one h) ∧
      Frame s t [TONE_VZ u e k])) ∧
    (∀ k < 4, g = 8 + k → Answers (.vzadd u e) s (fun t => t.get (TONE_VZ u e k) = (s.get (TONE_VZ u e k) + v) % 2 ^ 32 ∧
      Taken s t u e (.one h) ∧ Frame s t [TONE_VZ u e k])) ∧
    (g = 0x10 → Answers (.tplLo u ⟨e, by omega⟩) s (fun t => t.get (TONE_TPL u e (v % 128) 0) = bits v 7 32 ∧
      t.get (TONE_TPL u e (v % 128) 1) = bits v 39 32 ∧ Taken s t u e (.one h) ∧
      Frame s t [TONE_TPL u e (v % 128) 0, TONE_TPL u e (v % 128) 1])) ∧
    (g = 0x11 → Answers (.tplHi u ⟨e, by omega⟩) s (fun t => t.get (TONE_TPL u e (v % 128) 2) = bits v 7 32 ∧
      t.get (TONE_TPL u e (v % 128) 3) = bits v 39 32 ∧ Taken s t u e (.one h) ∧
      Frame s t [TONE_TPL u e (v % 128) 2, TONE_TPL u e (v % 128) 3])) ∧
    (∀ d < 3, g = 0x18 → dacOf s.view u e = some d → Answers (.quiet u e) s (fun t =>
      (t.view.dac u d).quiet = (s.view.dac u d).quiet ++ [(h.entry.stamp, h.entry.stamp + v)] ∧ Taken s t u e (.one h) ∧
      Frame s t []))

/-- A PARAM entry of a flux engine sets DC, advances it with saturation, or writes half of a template record (R94). -/
def Clause.FluxParameters : Prop :=
  ∀ s : State, s.wf = true → ∀ (u : Fin 32) (e : Fin 8) (h : HeldEntry),
    nextDue s.view u (16 + e) = some (.one h) → h.entry.kind = KPARAM → fluxGoesOn s u e h →
    let g := h.entry.body % 256
    let v := h.entry.body / 256
    (g = 0 → Answers (.dcset u e) s (fun t => t.get (FLUX_DC u e) = v % 2 ^ 16 ∧ Taken s t u (16 + e) (.one h) ∧
      Frame s t [FLUX_DC u e, FLUX_DC_DUE u e])) ∧
    (g = 1 → Answers (.dcadd u e) s (fun t =>
      t.get (FLUX_DC u e) = toField 16 (satS 16 (sext 16 (s.get (FLUX_DC u e)) + sext 16 v)) ∧
      (overS 16 (sext 16 (s.get (FLUX_DC u e)) + sext 16 v) = true → t.get (FLUX_CLIP_STICKY u e) = 1) ∧
      Taken s t u (16 + e) (.one h) ∧ Frame s t [FLUX_DC u e, FLUX_DC_DUE u e, FLUX_CLIP_STICKY u e])) ∧
    (g = 0x10 → Answers (.tplLo u ⟨16 + e, by omega⟩) s (fun t => t.get (FLUX_TPL u e (v % 128) 0) = bits v 7 32 ∧
      t.get (FLUX_TPL u e (v % 128) 1) = bits v 39 32 ∧ Taken s t u (16 + e) (.one h) ∧
      Frame s t [FLUX_TPL u e (v % 128) 0, FLUX_TPL u e (v % 128) 1])) ∧
    (g = 0x11 → Answers (.tplHi u ⟨16 + e, by omega⟩) s (fun t => t.get (FLUX_TPL u e (v % 128) 2) = bits v 7 32 ∧
      t.get (FLUX_TPL u e (v % 128) 3) = bits v 39 32 ∧ Taken s t u (16 + e) (.one h) ∧
      Frame s t [FLUX_TPL u e (v % 128) 2, FLUX_TPL u e (v % 128) 3]))

/-- A KDESC entry of a readout channel writes its descriptor; a WINDOW on a channel whose last window, if any, is complete opens one that
keeps its descriptor, counts a round and a window and integrates its first frame (R113, R114, R116, R125). -/
def Clause.ReadoutEntries : Prop :=
  ∀ s : State, s.wf = true → ∀ (u : Fin 32) (k : Fin 8) (h : HeldEntry),
    nextDue s.view u (24 + k) = some (.one h) →
    (h.entry.kind = KPARAM → h.entry.body % 256 = 0 →
      let v := h.entry.body / 256
      Answers (.kdesc u k) s (fun t => t.get (RD_KDESC_A u k (v % 16)) = bits v 4 32 % 2 ^ (RD_KDESC_A u k (v % 16)).width ∧
        t.get (RD_KDESC_B u k (v % 16)) = bits v 36 32 % 2 ^ (RD_KDESC_B u k (v % 16)).width ∧
        Taken s t u (24 + k) (.one h) ∧
        Frame s t [RD_KDESC_A u k (v % 16), RD_KDESC_B u k (v % 16)])) ∧
    (h.entry.kind = KWINDOW → (∀ x, s.view.win u k = some x → x.start + kdLen x.kdB ≤ h.entry.stamp) →
      let j := h.entry.body % 16
      kdValid (s.get (RD_KDESC_A u k j)) (s.get (RD_KDESC_B u k j)) = true →
      Answers (.window u k) s (fun t => t.get (RD_STATUS_ROUND u k) = (s.get (RD_STATUS_ROUND u k) + 1) % 16 ∧
        t.get (RD_STATUS_KSEL u k) = j ∧ t.get (RD_STATUS_OPEN u k) = 1 ∧
        t.get (RD_WINDOWS u k) = min (2 ^ (RD_WINDOWS u k).width - 1) (s.get (RD_WINDOWS u k) + 1) ∧
        (∃ x, t.view.win u k = some x ∧ x.start = h.entry.stamp ∧ x.kdA = s.get (RD_KDESC_A u k j) ∧
          x.kdB = s.get (RD_KDESC_B u k j) ∧ x.toDsp = bit h.entry.body 4 ∧ x.toHost = bit h.entry.body 5 ∧ x.added = 1) ∧
        Taken s t u (24 + k) (.one h) ∧
        Frame s t [CLASP_COLLIDE u, RD_STATUS_ROUND u k, RD_STATUS_KSEL u k, RD_STATUS_OPEN u k, RD_WINDOWS u k]))

/-- The entries of a chain apply together and in order, at a tone engine (R48, R53). -/
def Clause.ChainsApplyInOrder : Prop :=
  ∀ s : State, s.wf = true → ∀ (u : Fin 32) (e : Fin 16) (h : HeldEntry) (hs : List HeldEntry),
    nextDue s.view u e = some (.chain (h :: hs)) → 
    ∀ c, ((c = Instr.freq u e ∧ h.entry.body % 256 < 4) ∨ (c = Instr.vzset u e ∧ 4 ≤ h.entry.body % 256 ∧ h.entry.body % 256 < 8) ∨
      (c = Instr.vzadd u e ∧ 8 ≤ h.entry.body % 256 ∧ h.entry.body % 256 < 12)) →
    Answers c s (fun t => Taken s t u e (.chain (h :: hs)) ∧
      ∀ f, t.get f = ((h :: hs).foldl (fun w x => toneGroup w u e x.entry) s.view).get f)

end Sys2Proof

/-- Parameter entries of the tone and flux engines, singly and in chains. -/
def Obligations.Parameters : Prop :=
  Clause.ToneParameters ∧ Clause.FluxParameters ∧ Clause.ChainsApplyInOrder

namespace Sys2Proof

/-- At the boundary of an abort's frame every pulse of the tile ends without KEEP, every open window is abandoned and publishes
nothing (R54, R126). -/
def Clause.AbortBoundary : Prop :=
  ∀ s : State, s.wf = true → ∀ u : Fin 32, (∃ e ∈ (s.tile u).aborts, e ≤ s.tl.count) →
    Answers (.abortBoundary u) s (fun t =>
      (∀ e < 16, (t.view.tone u e).pulse = none) ∧ (∀ e < 8, (t.view.flux u e).pulse = none) ∧
      (∀ k < 8, t.view.win u k = none ∧ (s.view.win u k ≠ none → t.get (RD_STATUS_OPEN u k) = 0)) ∧
      (t.tile u).aborts = (s.tile u).aborts.filter (fun e => !decide (e ≤ s.tl.count)) ∧
      (∀ v < 32, v ≠ u.val → t.tile v = s.tile v) ∧ t.dev.held = s.dev.held ∧
      Frame s t ((List.range 8).map (RD_STATUS_OPEN u)))

/-! ## Calibration, results and decisions (R80, R83, R116 to R128, R159 to R182) -/

end Sys2Proof

/-- A calibration step that has run 256 frames completes: the next step stands in STEP, and the last step of the cycle counts it,
clears CAL_STALE and dates it; where background calibration of a DAC is enabled and its quiet time goes on, the next step runs at once; ten seconds without a cycle set CAL_STALE (R80, R83, R127). -/
def Obligations.CalibrationSteps : Prop :=
  ∀ s : State, s.wf = true → ∀ u : Fin 32,
    (∀ (d : Fin 3) (k : Nat), (s.view.dac u d).calStart = some k → k + 256 ≤ s.dev.ticks →
      let on := s.get (DAC_CAL_BG_EN u d) ≠ 0 ∧ (1024 ≤ (s.view.dac u d).zeroRun ∨
        ∃ q ∈ (s.view.dac u d).quiet, q.1 ≤ s.tl.count - 2 ∧ s.tl.count - 2 < q.2)
      Answers (.dacCalStepDone u d) s (fun t =>
        (on → t.get (DAC_CAL_RUNNING u d) = 1 ∧ (t.view.dac u d).calStart = some s.dev.ticks) ∧
        (¬on → t.get (DAC_CAL_RUNNING u d) = 0 ∧ (t.view.dac u d).calStart = none) ∧
        (s.get (DAC_CAL_STEP u d) ≠ 47 →
          t.get (DAC_CAL_STEP u d) = (s.get (DAC_CAL_STEP u d) + 1) % 2 ^ (DAC_CAL_STEP u d).width ∧
          Frame s t [DAC_CAL_RUNNING u d, DAC_CAL_STEP u d]) ∧
        (s.get (DAC_CAL_STEP u d) = 47 → t.get (DAC_CAL_STEP u d) = 0 ∧ t.get (DAC_CAL_CAL_STALE u d) = 0 ∧
          t.get (CAL_LAST u d) = s.dev.ticks % 2 ^ 64 ∧ Counted s t (DAC_CAL_CYCLES u d) ∧
          Frame s t [DAC_CAL_RUNNING u d, DAC_CAL_STEP u d, DAC_CAL_CYCLES u d, DAC_CAL_CAL_STALE u d, CAL_LAST u d]))) ∧
    (s.get (ADC_CAL_RUNNING u) ≠ 0 → s.get (ADC_CAL_START u) + 256 ≤ s.dev.ticks →
      Answers (.adcCalStepDone u) s (fun t => t.get (ADC_CAL_RUNNING u) = 0 ∧
        (s.get (ADC_CAL_STEP u) ≠ 31 →
          t.get (ADC_CAL_STEP u) = (s.get (ADC_CAL_STEP u) + 1) % 2 ^ (ADC_CAL_STEP u).width ∧
          Plain s t [ADC_CAL_RUNNING u, ADC_CAL_STEP u]) ∧
        (s.get (ADC_CAL_STEP u) = 31 → t.get (ADC_CAL_STEP u) = 0 ∧ t.get (ADC_CAL_CAL_STALE u) = 0 ∧
          t.get (CAL_LAST u 3) = s.dev.ticks % 2 ^ 64 ∧ Counted s t (ADC_CAL_CYCLES u) ∧
          Plain s t [ADC_CAL_RUNNING u, ADC_CAL_STEP u, ADC_CAL_CYCLES u, ADC_CAL_CAL_STALE u, CAL_LAST u 3]))) ∧
    (∀ d : Fin 3, s.get (CAL_LAST u d) + 10000000000 ≤ s.dev.ticks → Answers (.calStale u d) s (fun t =>
      t.get (DAC_CAL_CAL_STALE u d) = 1 ∧ Plain s t [DAC_CAL_CAL_STALE u d])) ∧
    (s.get (CAL_LAST u 3) + 10000000000 ≤ s.dev.ticks → Answers (.adcCalStale u) s (fun t =>
      t.get (ADC_CAL_CAL_STALE u) = 1 ∧ Plain s t [ADC_CAL_CAL_STALE u]))

namespace Sys2Proof

/-- No watcher is armed, no slot is exported and no table context has a key bit: a publication is seen by the slot alone. -/
abbrev Unwatched (s : State) : Prop :=
  (∀ u < 32, ∀ d < 16, (s.view.watch u d).armed = false) ∧ (∀ n < 64, s.get (DECB_EXPORT_EN n) = 0) ∧
  (∀ a < 2, ∀ b < 2, ctxKeys s.view a b = [])

/-- The fields of one slot (R159). -/
def slotFlds (n : Nat) : List Fld :=
  [DECB_SLOT_VALID n, DECB_SLOT_STATE n, DECB_SLOT_AMB n, DECB_SLOT_OVR n, DECB_SLOT_LEAK n, DECB_SLOT_ROUND n]

/-- The registers in which a result of channel k of tile u stands (R128, R158). -/
def resultFlds (u k : Nat) : List Fld :=
  [RD_LAST_I u k, RD_LAST_Q u k, RD_LAST_TL_LO u k, RD_TL_HI u k, RD_LAST_INFO_ROUND u k, RD_LAST_INFO_CHANNEL u k,
    RD_LAST_INFO_OVR u k, RD_LAST_INFO_ADC_OVR u k, RD_LAST_INFO_FIFO_LOST u k, RD_LAST_INFO_GOV u k, RD_LAST_INFO_SAT u k,
    RD_LAST_INFO_KSEL u k, RD_LAST_INFO_STATE u k, RD_LAST_INFO_AMB u k, RD_LAST_INFO_LEAK u k, FACET_MARGIN u k,
    FACET_COUNT_AMB u k, FACET_COUNT_LEAK u k]

/-- The result of the oldest complete window of a channel whose result has not come, be it the present one, which it closes, or one
behind which a later window has opened, stands in the channel's registers: I and Q rounded and saturated from the
accumulators, the frame of the window's last sample, and INFO with the state of the largest facet score and its flags. Where nothing
watches its slot, and neither the host, the datapath nor the acquisition unit takes it, no other register but its slot changes (R116,
R119, R125, R128, R157, R160). -/
def Clause.ResultRegisters : Prop :=
  ∀ s : State, s.wf = true → ∀ (u : Fin 32) (k : Fin 8) (x : Window),
    (lateOf s.view u k ++ (s.view.win u k).toList).head? = some x → kdLen x.kdB ≤ x.added →
    let r := resultOf s.view u k x
    Answers (.resultPresentation u k) s (fun t =>
      (lateOf s.view u k = [] → t.view.win u k = none ∧ t.get (RD_STATUS_OPEN u k) = 0) ∧
      (lateOf s.view u k ≠ [] → t.view.win u k = s.view.win u k ∧ lateOf t.view u k = (lateOf s.view u k).tail) ∧
      t.get (RD_LAST_I u k) = toField 32 (satS 32 (roundAway x.accI (kdShift x.kdA))) ∧
      t.get (RD_LAST_Q u k) = toField 32 (satS 32 (roundAway x.accQ (kdShift x.kdA))) ∧
      t.get (RD_LAST_TL_LO u k) = (x.start + kdLen x.kdB - 1) % 2 ^ 32 ∧
      t.get (RD_TL_HI u k) = (x.start + kdLen x.kdB - 1) / 2 ^ 32 % 2 ^ 32 ∧
      t.get (RD_LAST_INFO_STATE u k) = r.slot.state % 4 ∧ t.get (RD_LAST_INFO_CHANNEL u k) = k ∧
      t.get (RD_LAST_INFO_OVR u k) = b2n r.slot.ovr ∧ t.get (RD_LAST_INFO_AMB u k) = b2n r.slot.amb ∧
      t.get (RD_LAST_INFO_LEAK u k) = b2n r.slot.leak ∧ t.get (RD_LAST_INFO_ROUND u k) = x.round % 16 ∧
      t.get (RD_LAST_INFO_KSEL u k) = x.ksel % 16 ∧ t.get (RD_LAST_INFO_ADC_OVR u k) = b2n x.ovr ∧
      t.get (RD_LAST_INFO_FIFO_LOST u k) = b2n x.lost ∧ t.get (RD_LAST_INFO_GOV u k) = b2n x.gov ∧
      (Unwatched s → x.toHost = false → x.toDsp = false → s.get (CAP_STATE_STATE u) = IDLE →
        slotGet t.view (8 * u + k) = { r.slot with round := x.round % 16 } ∧
        Frame s t ([RD_STATUS_OPEN u k] ++ resultFlds u k ++ slotFlds (8 * u + k))) ∧
      t.fuse = s.fuse ∧ t.pending = s.pending ∧ t.tl = s.tl)

end Sys2Proof

/-- Readout windows and their results. -/
def Obligations.Readout : Prop :=
  Clause.ReadoutEntries ∧ Clause.ResultRegisters

namespace Sys2Proof

/-- A block with a sync header and a payload has left on the lane of index i of link l, if that lane sends blocks in state x (R338,
R362). -/
def OnLane (x t : State) (l i head payload : Nat) : Prop :=
  laneSends x.view (x.get (LINK_CFG_BASE l) + i) = true → ∃ bs, Out.interval l bs ∈ t.dev.out ∧
    ∃ b ∈ bs, b.lane = x.get (LINK_CFG_BASE l) + i ∧ b.head = head ∧ b.payload = payload

/-- Copies of control block p have left on every lane of link l outside the known failed mask that sends blocks, or wait for the lulled
transmitter of the link (R353, R362). -/
def Copied (s t : State) (l p : Nat) : Prop :=
  (lullTx s.view l = true → (t.view.link l).held = (s.view.link l).held ++ [p]) ∧
  (lullTx s.view l = false → ∀ i < linkWidth s.view l, bit ((s.view.link l).own ||| (s.view.link l).far) i = false →
    OnLane s t l i 2 p)

/-- A C0 block of which every copy on a lane in UP passes its check and carries one token lands that token, by the first copy whose own
check holds, in every remote slot that names its link and source slot, whole; a token without a good copy is counted and lands
nowhere (R160, R180, R182, R363). -/
def Clause.TokensLand : Prop :=
  ∀ s : State, s.wf = true → Unwatched s → ∀ (l : Fin 32) (copies : List (Fin 4 × BitVec 64)),
    upCopies s.view l copies ≠ [] → (∀ b ∈ upCopies s.view l copies, c0Ok b = true ∧ bit b 8 = true ∧ bit b 9 = false) →
    let tokens := (upCopies s.view l copies).map (fun b => bits b 10 23)
    let hit := fun r => s.get (DECB_REMOTE_EN r) ≠ 0 ∧ s.get (DECB_REMOTE_LINK r) = l
    (∀ k, tokens.find? tokenOk = some k → (∃ r < 64, hit r ∧ s.get (DECB_REMOTE_SLOT r) = k % 512) →
      Answers (.c0Block l copies) s (fun t =>
        (∀ r < 64, hit r → s.get (DECB_REMOTE_SLOT r) = k % 512 → slotGet t.view (256 + r) = tokenContent k) ∧
        (∀ r < 64, ¬(hit r ∧ s.get (DECB_REMOTE_SLOT r) = k % 512) → slotGet t.view (256 + r) = slotGet s.view (256 + r)) ∧
        Frame s t ((List.range 64).flatMap (fun r => slotFlds (256 + r)) ++ [DECB_LINK_CHECK_ERR l, LINK_COUNT0_CRC_ERR l]))) ∧
    (tokens.find? tokenOk = none → Answers (.c0Block l copies) s (fun t =>
      Counted s t (DECB_LINK_NOGOOD l) ∧
      Frame s t [DECB_LINK_NOGOOD l, DECB_LINK_CHECK_ERR l, LINK_COUNT0_CRC_ERR l]))

/-- A lookup that returns publishes the four outputs of its context with the next round, or with that of before a commit that came since,
from the table word, with the flags of its keys; one that fails publishes them with VALID = 0 and is counted (R178, R319, R401). -/
def Clause.LookupsPublish : Prop :=
  ∀ s : State, s.wf = true → Unwatched s → ∀ (a c : Fin 2) (ok : Bool) (waitPs : Nat) (k : Lookup) (ks : List Lookup),
    (s.view.ctx a c).lookups = k :: ks →
    let good := qdrReady s.view a && decide (k.loc < qdrCapacity s.view a) && ok
    let word := if good then some (s.view.rdLe (qdrBase a + 8 * k.loc) 4) else none
    Answers (.lookupReturn a c ok waitPs) s (fun t =>
      (∀ p ∈ ctxPublications s.view a c word k, slotGet t.view p.1 = p.2) ∧
      t.get (TABLE_CTX_STATUS_ROUND a c) = (if k.round = none then (s.get (TABLE_CTX_STATUS_ROUND a c) + 1) % 16
        else s.get (TABLE_CTX_STATUS_ROUND a c)) ∧
      (t.view.ctx a c).lookups = ks ∧ (good = false → Counted s t (TABLE_CTX_COUNT_PARITY a c)) ∧
      Frame s t ([TABLE_CTX_STATUS_ROUND a c, TABLE_CTX_COUNT_PARITY a c, QDR_C0WAIT a, QDR_ERR_PARITY a, QDR_ERR_RANGE a,
        QDR_LAST_ERR_VALID a, QDR_LAST_ERR_CLASS a, QDR_LAST_ERR_LOCATION a] ++
        (List.range 4).flatMap (fun j => slotFlds (320 + 8 * a + 4 * c + j))))

/-- A round of a table context that has waited TMO frames since its first capture is abandoned: it publishes VALID = 0 with the next
round, counts and drops its captures. RESYNC takes the rounds that the slots show and publishes nothing (R177). -/
def Clause.TableRounds : Prop :=
  ∀ s : State, s.wf = true → ∀ a c : Fin 2, (∀ x < 2, ∀ y < 2, (x, y) ≠ (a.val, c.val) → ctxKeys s.view x y = []) →
    ((∀ u < 32, ∀ d < 16, (s.view.watch u d).armed = false) → (∀ n < 64, s.get (DECB_EXPORT_EN n) = 0) →
      (∀ i ∈ ctxKeys s.view a c, s.get (TABLE_CTX_KEYSEL_SLOT a c i) < 320 ∧
        s.get (DECB_SLOT_VALID (s.get (TABLE_CTX_KEYSEL_SLOT a c i))) = 0) → ∀ f,
      (s.view.ctx a c).firstAt = some f → s.get (TABLE_CTX_CFG_TMO a c) ≠ 0 →
      f + s.get (TABLE_CTX_CFG_TMO a c) ≤ s.dev.ticks →
      Answers (.tableTimeout a c) s (fun t =>
        (∀ p ∈ ctxPublications s.view a c none ⟨0, false, false, false, none⟩, slotGet t.view p.1 = p.2) ∧
        t.get (TABLE_CTX_STATUS_ROUND a c) = (s.get (TABLE_CTX_STATUS_ROUND a c) + 1) % 16 ∧
        (t.view.ctx a c).firstAt = none ∧ (t.view.ctx a c).capt = List.replicate 22 none ∧
        Counted s t (TABLE_CTX_COUNT_ABANDONED a c) ∧ t.dev.tiles = s.dev.tiles ∧
        Frame s t ([TABLE_CTX_STATUS_ROUND a c, TABLE_CTX_COUNT_ABANDONED a c] ++
          (List.range 4).flatMap (fun j => slotFlds (320 + 8 * a + 4 * c + j))))) ∧
    Answers (.tableResync a c) s (fun t =>
      (t.view.ctx a c).firstAt = none ∧ (t.view.ctx a c).capt = List.replicate 22 none ∧
      (∀ i ∈ ctxKeys s.view a c, (t.view.ctx a c).last.getD i 0 = (ctxSlot s.view a c i).round) ∧
      t.dev.tiles = s.dev.tiles ∧ Frame s t [])

/-- Copies of the control blocks of a list have left in order on the lanes of link l, or wait for its lulled transmitter (R353, R362). -/
def AllCopied (s t : State) (l : Nat) (ps : List Nat) : Prop :=
  (lullTx s.view l = true → (t.view.link l).held = (s.view.link l).held ++ ps) ∧
  (lullTx s.view l = false → ∀ p ∈ ps, ∀ i < linkWidth s.view l,
    bit ((s.view.link l).own ||| (s.view.link l).far) i = false → OnLane s t l i 2 p)

/-- A publication of content c on slot n has sent one token for each enabled entry of DECB.EXPORT that names the slot and link l, two to
a block, or counted it as unsent where the link carries no traffic (R180, R363). -/
def Exported (s t : State) (n : Nat) (c : SlotC) : Prop :=
  ∀ l < 32, let es := (List.range 64).filter (fun i => decide (s.get (DECB_EXPORT_EN i) ≠ 0 ∧ s.get (DECB_EXPORT_SLOT i) = n ∧
      s.get (DECB_EXPORT_LINK i) = l))
    (2 ≤ s.get (LINK_STATUS_STATE l) → AllCopied s t l (c0Blocks (es.map (fun _ => tokenOf n c)))) ∧
    (s.get (LINK_STATUS_STATE l) < 2 → es ≠ [] → t.get (LINK_COUNT1_C0_UNSENT l) =
      min (2 ^ (LINK_COUNT1_C0_UNSENT l).width - 1) (s.get (LINK_COUNT1_C0_UNSENT l) + es.length))

/-- No table context has a key bit. -/
abbrev NoContexts (s : State) : Prop := ∀ a < 2, ∀ c < 2, ctxKeys s.view a c = []

/-- Watcher d of tile u has been evaluated on slots of the given contents, with the given expected rounds and the key bits that it had
captured: an enabled key bit whose slot shows VALID = 1 and its round is captured with that content, one captured before keeps its
capture, and once all of them are captured the watcher resolves, by MAP at their key, or by FLAG_OPT with FLAGGED where a captured slot
carries OVR or AMB and CFG asks for that (R162, R163). -/
def Evaluated (s t : State) (u d : Nat) (cont : Nat → SlotC) (expect : Nat → Nat) (had : Nat → Prop) : Prop :=
  let ks := watchKeys s.view u d
  let slot := fun i => cont (s.get (WATCH_KEY_SLOT u d i))
  let shows := fun i => (slot i).valid = true ∧ (slot i).round = expect i
  let held := fun i => ((t.view.watch u d).capt.getD i none).getD SlotC.reset
  let flagged := (s.get (WATCH_CFG_FLAG_ON_OVR u d) ≠ 0 ∧ ∃ i ∈ ks, (held i).ovr = true) ∨
    (s.get (WATCH_CFG_FLAG_ON_AMB u d) ≠ 0 ∧ ∃ i ∈ ks, (held i).amb = true)
  let key := ks.foldl (fun k i => k + (if keyBit (s.get (WATCH_KEY_SEL u d i)) (held i) then 2 ^ i else 0)) 0
  (∀ i ∈ ks, (had i → t.get (WATCH_KEY_CAPTURED u d i) ≠ 0 ∧
      (t.view.watch u d).capt.getD i none = (s.view.watch u d).capt.getD i none) ∧
    (¬had i → shows i → t.get (WATCH_KEY_CAPTURED u d i) = 1 ∧ (t.view.watch u d).capt.getD i none = some (slot i)) ∧
    (¬had i → ¬shows i → t.get (WATCH_KEY_CAPTURED u d i) = 0)) ∧
  (ks ≠ [] → (∀ i ∈ ks, had i ∨ shows i) →
    t.get (WATCH_STATUS_RESOLVED u d) = 1 ∧ (t.view.watch u d).resAt = s.tl.count ∧
    (flagged → t.get (WATCH_STATUS_OPTION u d) = s.get (WATCH_CFG_FLAG_OPT u d) % 2 ^ (WATCH_STATUS_OPTION u d).width ∧
      t.get (WATCH_STATUS_FLAGGED u d) = 1) ∧
    (¬flagged → t.get (WATCH_STATUS_OPTION u d) = s.get (WATCH_MAP_OPT u d key) % 2 ^ (WATCH_STATUS_OPTION u d).width ∧
      t.get (WATCH_STATUS_FLAGGED u d) = 0)) ∧
  ((∃ i ∈ ks, ¬had i ∧ ¬shows i) → t.get (WATCH_STATUS_RESOLVED u d) = 0)

/-- Watcher d has resolved, and the one staged group of tile u, which names it, stands alone for its frame: the clasp that holds it has
kept the members whose OPT is the option in its place, discarded the others, and counted it, ahead of its frame (R168). -/
def SelectedEarly (s t : State) (u d : Nat) : Prop :=
  ∀ c < 33, ∀ pre post h es, (s.view.clasp u c).items = pre ++ Item.group (h :: es) :: post →
    (∀ i ∈ pre ++ post, ∀ x, i ≠ .group x) → (∀ c' < 33, c' ≠ c → ∀ i ∈ (s.view.clasp u c').items, ∀ x, i ≠ .group x) →
    h.entry.did = d → s.tl.count < h.entry.stamp → h.entry.stamp < (s.tile u).seq.cursor →
    armingBy t.view u d h.entry.stamp = false → commitBy s.view u d h.entry.stamp = false →
    t.get (WATCH_STATUS_RESOLVED u d) = 1 →
    (t.view.clasp u c).items = pre ++ ((h :: es).filter (fun x => decide (x.entry.opt = t.get (WATCH_STATUS_OPTION u d)))).map
      Item.one ++ post ∧ Counted s t (FB_COUNT_GROUPS u)

/-- Token k, which every copy of a C0 block carries alone, lands in remote slot r and in no other. -/
abbrev LandsAt (s : State) (l : Nat) (copies : List (Fin 4 × BitVec 64)) (r k : Nat) : Prop :=
  upCopies s.view l copies ≠ [] ∧ (∀ b ∈ upCopies s.view l copies, c0Ok b = true ∧ bit b 8 = true ∧ bit b 9 = false) ∧
  ((upCopies s.view l copies).map (fun b => bits b 10 23)).find? tokenOk = some k ∧
  (List.range 64).filter (fun i => decide (s.get (DECB_REMOTE_EN i) ≠ 0 ∧ s.get (DECB_REMOTE_LINK i) = l ∧
    s.get (DECB_REMOTE_SLOT i) = k % 512)) = [r]

/-- The slots once slot n has taken content c. -/
def slotsWith (s : State) (n : Nat) (c : SlotC) (m : Nat) : SlotC := if m = n then c else slotGet s.view m

/-- The watchers of tile u that watch slot n and have not resolved yet, once it has taken content c (R163, R168). -/
def WatchersSaw (s t : State) (n : Nat) (c : SlotC) : Prop :=
  ∀ u < 32, ∀ d < 16, (s.view.watch u d).armed = true → (s.view.watch u d).capt.length = 4 →
    s.get (WATCH_STATUS_RESOLVED u d) = 0 → (∃ i ∈ watchKeys s.view u d, s.get (WATCH_KEY_SLOT u d i) = n) →
    Evaluated s t u d (slotsWith s n c) (fun i => s.get (WATCH_KEY_EXPECT u d i)) (fun i => s.get (WATCH_KEY_CAPTURED u d i) ≠ 0) ∧
    SelectedEarly s t u d

/-- A publication on a slot that is watched and exported, by a token or by a result: every armed watcher of it captures what it expects
and resolves, a staged group that waits for the watcher takes its option, and a token leaves for each entry of DECB.EXPORT (R160,
R163, R168, R180). -/
def Clause.PublicationsSeen : Prop :=
  ∀ s : State, s.wf = true → NoContexts s →
    (∀ (l : Fin 32) (copies : List (Fin 4 × BitVec 64)) (r k : Nat), LandsAt s l copies r k →
      Answers (.c0Block l copies) s (fun t => slotGet t.view (256 + r) = tokenContent k ∧
        WatchersSaw s t (256 + r) (tokenContent k) ∧ Exported s t (256 + r) (tokenContent k))) ∧
    (∀ (u : Fin 32) (k : Fin 8) (x : Window), (lateOf s.view u k ++ (s.view.win u k).toList).head? = some x →
      kdLen x.kdB ≤ x.added → let c := { (resultOf s.view u k x).slot with round := x.round % 16 }
      Answers (.resultPresentation u k) s (fun t => slotGet t.view (8 * u + k) = c ∧
        WatchersSaw s t (8 * u + k) c ∧ Exported s t (8 * u + k) c))

/-- A table context that alone has key bits sees the slot on which a token lands. A round that is neither that of its last capture nor
the one behind it abandons the round, which publishes VALID = 0; otherwise each key bit whose slot shows its next round is captured,
and once all of them are, a lookup of its region and key is launched (R177, R178). -/
def Clause.ContextsSee : Prop :=
  ∀ s : State, s.wf = true → ∀ (l : Fin 32) (copies : List (Fin 4 × BitVec 64)) (r k : Nat), LandsAt s l copies r k →
    ∀ a c : Fin 2, (∀ x < 2, ∀ y < 2, (x, y) ≠ (a.val, c.val) → ctxKeys s.view x y = []) →
    let ks := ctxKeys s.view a c
    let x := s.view.ctx a c
    let slot := fun i => slotsWith s (256 + r) (tokenContent k) (s.get (TABLE_CTX_KEYSEL_SLOT a c i))
    let last := fun i => x.last.getD i 0
    let unexpected := ∃ i ∈ ks, (slot i).valid = true ∧ (slot i).round ≠ last i ∧ (slot i).round ≠ (last i + 1) % 16
    let next := fun i => (slot i).valid = true ∧ (slot i).round = (last i + 1) % 16
    x.capt.length = 22 →
    Answers (.c0Block l copies) s (fun t =>
      (unexpected → Counted s t (TABLE_CTX_COUNT_ABANDONED a c) ∧
        t.get (TABLE_CTX_STATUS_ROUND a c) = (s.get (TABLE_CTX_STATUS_ROUND a c) + 1) % 16 ∧
        (∀ j < 4, slotGet t.view (320 + 8 * a + 4 * c + j) =
          ⟨false, 0, false, false, false, (s.get (TABLE_CTX_STATUS_ROUND a c) + 1) % 16⟩) ∧
        (t.view.ctx a c).capt = List.replicate 22 none ∧ (t.view.ctx a c).firstAt = none ∧ (t.view.ctx a c).lookups = x.lookups ∧
        ∀ i ∈ ks, (t.view.ctx a c).last.getD i 0 = (slot i).round) ∧
      (¬unexpected → (∃ i ∈ ks, x.capt.getD i none = none ∧ ¬next i) →
        (∀ i ∈ ks, (t.view.ctx a c).capt.getD i none =
          if x.capt.getD i none = none ∧ (slot i).valid ∧ (slot i).round = (last i + 1) % 16 then some (slot i)
          else x.capt.getD i none) ∧
        ((∃ i ∈ ks, x.capt.getD i none = none ∧ next i) →
          (t.view.ctx a c).firstAt = some (x.firstAt.getD s.dev.ticks)) ∧ (t.view.ctx a c).lookups = x.lookups) ∧
      (¬unexpected → ks ≠ [] → (∀ i ∈ ks, x.capt.getD i none = none → next i) →
        let held := fun i => (x.capt.getD i none).getD (slot i)
        let key := ks.foldl (fun n i => n + (if keyBit (s.get (TABLE_CTX_KEYSEL_SEL a c i)) (held i) then 2 ^ i else 0)) 0
        (t.view.ctx a c).lookups = x.lookups ++ [⟨s.get (TABLE_CTX_CFG_REGION a c) * 2 ^ 22 + key, ks.any (fun i => (held i).amb),
          ks.any (fun i => (held i).ovr), ks.any (fun i => (held i).leak), none⟩] ∧
        t.get (TABLE_CTX_STATUS_LAST_KEY a c) = key % 2 ^ (TABLE_CTX_STATUS_LAST_KEY a c).width ∧
        Counted s t (TABLE_CTX_COUNT_LOOKUPS a c) ∧ (t.view.ctx a c).capt = List.replicate 22 none ∧
        (t.view.ctx a c).firstAt = none ∧ ∀ i ∈ ks, (t.view.ctx a c).last.getD i 0 = (held i).round))

end Sys2Proof

/-- Tokens, results and tables: what lands in the slots of the decision broadcast, and who sees it. -/
def Obligations.Discrimination : Prop :=
  Clause.TokensLand ∧ Clause.LookupsPublish ∧ Clause.TableRounds ∧ Clause.PublicationsSeen ∧ Clause.ContextsSee

namespace Sys2Proof

/-- The registers that a late decision of a tile writes beside its watcher's count (R184). -/
def lateFlds (u : Nat) : List Fld :=
  [FB_COUNT_LATE u, FB_FIRST_LATE_VALID u, FB_FIRST_LATE_CAUSE u, FB_FIRST_LATE_CLASP u, FB_FIRST_LATE_DID u,
    FB_FIRST_LATE_STAMP_LO u, FB_FIRST_LATE_STAMP_HI u]

/-- A late decision of tile u with a cause has been counted, has fired source 5, and stands in FIRST_LATE if that was free (R165,
R169, R171). -/
def DecidedLate (s t : State) (u cause : Nat) : Prop :=
  Counted s t (FB_COUNT_LATE u) ∧ t.dev.held = s.dev.held ++ [s.firing (tileSrc u 5)] ∧
  (s.get (FB_FIRST_LATE_VALID u) = 0 → t.get (FB_FIRST_LATE_VALID u) = 1 ∧ t.get (FB_FIRST_LATE_CAUSE u) = cause)

/-- An arming whose boundary has come takes effect: each enabled key of the watcher expects the round that the arming names, what was
captured and resolved is cleared with FENCE_LATE, and the watcher waits where no key's slot is valid; one that came late is a late
decision too (R163, R164, R165, R171). -/
def Clause.ArmingsTakeEffect : Prop :=
  ∀ s : State, s.wf = true → ∀ (u : Fin 32) (x : Arming), (s.tile u).arms = [x] → x.due ≤ s.tl.count →
    x.did < 16 → (∀ i ∈ watchKeys s.view u x.did, s.get (DECB_SLOT_VALID (s.get (WATCH_KEY_SLOT u x.did i))) = 0) →
    Answers (.armingEffect u) s (fun t =>
      (∀ i ∈ watchKeys s.view u x.did, t.get (WATCH_KEY_EXPECT u x.did i) =
        (if x.next then s.get (DECB_SLOT_ROUND (s.get (WATCH_KEY_SLOT u x.did i))) + 1
         else s.get (WATCH_KEY_EXPECT u x.did i) + x.count) % 16) ∧
      (∀ i < 4, t.get (WATCH_KEY_CAPTURED u x.did i) = 0) ∧ t.get (WATCH_STATUS_RESOLVED u x.did) = 0 ∧
      t.get (WATCH_STATUS_FENCE_LATE u x.did) = 0 ∧
      t.view.watch u x.did = ⟨true, List.replicate 4 none, 0⟩ ∧ (t.tile u).arms = [] ∧
      (x.late = false → t.dev.held = s.dev.held) ∧ (x.late = true → DecidedLate s t u 2) ∧
      Frame s t ((if x.late then lateFlds u else []) ++ [WATCH_STATUS_RESOLVED u x.did, WATCH_STATUS_OPTION u x.did, WATCH_STATUS_FLAGGED u x.did,
        WATCH_STATUS_FENCE_LATE u x.did] ++
        (List.range 4).flatMap (fun i => [WATCH_KEY_EXPECT u x.did i, WATCH_KEY_CAPTURED u x.did i])))

/-- An arming that takes effect while slots of its key bits are valid captures at once those that show the rounds it expects, and the
watcher resolves, and selects early, when that is all of them (R163, R164, R168). -/
def Clause.ArmingsCapture : Prop :=
  ∀ s : State, s.wf = true → ∀ (u : Fin 32) (x : Arming), (s.tile u).arms = [x] → x.due ≤ s.tl.count → x.did < 16 →
    Answers (.armingEffect u) s (fun t =>
      Evaluated s t u x.did (slotGet s.view) (fun i =>
        (if x.next then s.get (DECB_SLOT_ROUND (s.get (WATCH_KEY_SLOT u x.did i))) + 1
         else s.get (WATCH_KEY_EXPECT u x.did i) + x.count) % 16) (fun _ => False) ∧
      SelectedEarly s t u x.did ∧ (t.view.watch u x.did).armed = true ∧ (t.tile u).arms = [] ∧
      t.get (WATCH_STATUS_FENCE_LATE u x.did) = 0)

/-- At the boundary of a staged group's frame the option of a watcher that has resolved before it selects its alternative, and COUNT.GROUPS
counts the group; any other leaves alternative 0, or none under LATE_POL, is counted by its watcher and is a late decision. A fence that
has waited TMO frames ends likewise, with FENCE_LATE set, and its watcher counts it (R168, R169, R171, R184; when a group is selected
before its frame is the model's reading, log 143). -/
def Clause.LateDecisions : Prop :=
  ∀ s : State, s.wf = true → ∀ u : Fin 32,
    (∀ (c : Fin 33) (h : HeldEntry) (es : List HeldEntry), (s.view.clasp u c).items = [.group (h :: es)] →
      h.entry.stamp ≤ s.tl.count → h.entry.did < 16 →
      let d := h.entry.did
      let met : Prop := s.get (WATCH_STATUS_RESOLVED u d) ≠ 0 ∧ (s.view.watch u d).resAt < h.entry.stamp
      let opt := if s.get (WATCH_STATUS_RESOLVED u d) ≠ 0 ∧ (s.view.watch u d).resAt < h.entry.stamp then some (s.get (WATCH_STATUS_OPTION u d))
        else if s.get (WATCH_CFG_LATE_POL u d) ≠ 0 then none else some 0
      Answers (.latePolicy u c) s (fun t =>
        (t.view.clasp u c).items = ((h :: es).filter (fun x => decide (some x.entry.opt = opt))).map Item.one ∧
        (met → t.dev.held = s.dev.held ∧ Counted s t (FB_COUNT_GROUPS u) ∧ Frame s t [FB_COUNT_GROUPS u]) ∧
        (¬ met → DecidedLate s t u 0 ∧ Counted s t (WATCH_STATUS_LATE u d) ∧
          Frame s t (WATCH_STATUS_LATE u d :: lateFlds u)))) ∧
    (∀ (c : WordSt) (x : WStep) (rest : List WStep), s.get DEV_STATUS_LOCKSTEP = 0 → (s.tile u).seq.cur = some c →
      c.todo = .fence :: x :: rest → x = .seq → fenceMet s.view u (mwDid c.word) = false → s.get (FB_FENCE_TMO u) ≠ 0 →
      c.stamp + s.get (FB_FENCE_TMO u) ≤ s.tl.count →
      Answers (.fenceTimeout u) s (fun t => t.get (WATCH_STATUS_FENCE_LATE u (mwDid c.word)) = 1 ∧
        Counted s t (WATCH_STATUS_LATE u (mwDid c.word)) ∧ t.get (FB_FENCE_WAITING u) = 0 ∧ DecidedLate s t u 1 ∧
        (t.tile u).seq.cur = some { c with todo := x :: rest, waitFrom := none } ∧
        Frame s t ([WATCH_STATUS_FENCE_LATE u (mwDid c.word), WATCH_STATUS_LATE u (mwDid c.word), FB_FENCE_WAITING u] ++
          lateFlds u)))

end Sys2Proof

/-- Armings, what they capture at once, and late decisions. -/
def Obligations.Feedback : Prop :=
  Clause.ArmingsTakeEffect ∧ Clause.ArmingsCapture ∧ Clause.LateDecisions

namespace Sys2Proof

/-! ## The sequencer (R192 to R234) -/

/-- Outside lockstep, the word of tile u has step x before it, which is not stalled, and then rest. -/
abbrev Stepping (s : State) (u : Nat) (c : WordSt) (x : WStep) (rest : List WStep) : Prop :=
  s.get DEV_STATUS_LOCKSTEP = 0 ∧ (s.tile u).seq.cur = some c ∧ c.todo = x :: rest ∧ stepStalled s.view u c x = false

/-- The word of tile u has completed its step and has rest before it, where the wait for a result may begin (R193). -/
def Stepped (t : State) (u : Nat) (c : WordSt) (rest : List WStep) : Prop :=
  ∃ n, (t.tile u).seq.cur = some { c with todo := rest, waitFrom := n }

/-- The fields that show the wait of a fence, which the step before it begins (R171). -/
def waitFlds (u : Nat) : List Fld := [FB_FENCE_WAITING u, FB_FENCE_DID u]

/-- WORD_FETCH of a tile outside lockstep takes the word at the next address, when its parity holds and its fields are defined, samples
COND, advances the cursor by DT (not for an ABORT word), has the steps of R193 before it, and counts the word (R188 to R193, R198). -/
def Clause.WordsIssue : Prop :=
  ∀ s : State, s.wf = true → ∀ u : Fin 32, mayFetch s.view u = true → s.get DEV_STATUS_LOCKSTEP = 0 →
    let q := (s.tile u).seq
    let x := csWord s.view u q.next
    parityFail x = 0 → mwSeq x < 10 → illegalFields s.view u (mwSeq x) x = [] →
    Answers (.wordFetch u) s (fun t =>
      (∃ n, (t.tile u).seq.cur = some ⟨q.next, x, (t.tile u).seq.cursor, mwSub x, condTrue s.view u x,
        wordSteps s.view u true (mwSeq x) x, 0, s.view.on (SEQ_STATE_STEPPING u), n, false⟩) ∧
      (t.tile u).seq.cursor = (if mwSeq x = 9 then q.cursor else q.cursor + mwDt x) ∧
      t.get (SEQ_STATE_ADDR u) = q.next % 2 ^ (SEQ_STATE_ADDR u).width ∧
      Counted s t (SEQ_WORDS u) ∧ (∀ v < 32, v ≠ u.val → t.tile v = s.tile v) ∧ t.dev.held = s.dev.held ∧
      Frame s t ([SEQ_STATE_ADDR u, SEQ_WORDS u, FB_COUNT_GROUPS u] ++ waitFlds u))

/-- A word that fails its parity, and one whose SEQ is reserved, cut the tile at its address: the cause and the address stand in
HALT_INFO, RESTART is the address, and the tile is HALTED, or waits for an abort in progress to be so; no other tile and no byte of
memory changes (R189, R212, R224, R226, R228). -/
def Clause.BadWordsCut : Prop :=
  ∀ s : State, s.wf = true → ∀ u : Fin 32, mayFetch s.view u = true → s.get DEV_STATUS_LOCKSTEP = 0 →
    let a := (s.tile u).seq.next
    ∀ cause, ((parityFail (csWord s.view u a) ≠ 0 ∧ cause = CAUSE_PARITY) ∨
      (parityFail (csWord s.view u a) = 0 ∧ 10 ≤ mwSeq (csWord s.view u a) ∧ cause = CAUSE_ILLEGAL)) →
    Answers (.wordFetch u) s (fun t => t.get (SEQ_HALT_INFO_CAUSE u) = cause ∧
      t.get (SEQ_HALT_INFO_ADDR u) = a % 2 ^ (SEQ_HALT_INFO_ADDR u).width ∧
      t.get (SEQ_RESTART u) = a % 2 ^ (SEQ_RESTART u).width ∧ (t.tile u).seq.cur = none ∧
      (s.get (CLASP_ABORT_CTRL_BUSY u) = 0 → t.get (SEQ_STATE_STATE u) = HALTED ∧ (t.tile u).seq.cutPending = false ∧
        (∃ f ∈ t.dev.held, f.src = tileSrc u 0) ∧ t.get (CLASP_ABORT_CTRL_BUSY u) = 1) ∧
      (s.get (CLASP_ABORT_CTRL_BUSY u) ≠ 0 → t.get (SEQ_STATE_STATE u) = s.get (SEQ_STATE_STATE u) ∧
        (t.tile u).seq.cutPending = true) ∧
      (∀ v < 32, v ≠ u.val → t.tile v = s.tile v) ∧ StoresKept s t ∧ t.tl = s.tl ∧ t.fuse = s.fuse ∧ t.pending = s.pending)

/-- The choice of a successor at step 10, for a word that keeps a step behind it (R195, R196): NEXT and PUSH fall through, JUMP and CALL
go to TARGET, BRANCH and RETIF and LOOPB test COND, RET pops; CALL and PUSH push. -/
def Clause.SequencingSteps : Prop :=
  ∀ s : State, s.wf = true → ∀ (u : Fin 32) (c : WordSt) (x : WStep) (rest : List WStep),
    Stepping s u c .seq (x :: rest) → x = .safe → atSeq s.view u c = true →
    let sp := s.get (SEQ_SP u)
    let top := s.get (SEQ_STACK u (sp - 1))
    let after := fallThrough s.view u c
    let cond := condNow s.view u c
    let bring := s.view.on (SEQ_MODE u)
    let plain := fun (i : Instr) (seq a : Nat) => mwSeq c.word = seq → Answers i s (fun t =>
      (t.tile u).seq.cur = some { c with todo := x :: rest, waitFrom := none, succ := a % 4096 } ∧ t.dev.held = s.dev.held ∧
      Frame s t [])
    let push := fun (i : Instr) (seq a v : Nat) => mwSeq c.word = seq → sp < 16 → Answers i s (fun t =>
      (t.tile u).seq.cur = some { c with todo := x :: rest, waitFrom := none, succ := a % 4096 } ∧
      t.get (SEQ_SP u) = sp + 1 ∧ t.get (SEQ_STACK u sp) = v % 2 ^ (SEQ_STACK u sp).width ∧ t.dev.held = s.dev.held ∧
      Frame s t [SEQ_SP u, SEQ_STACK u sp])
    let pop := fun (i : Instr) (seq a : Nat) => mwSeq c.word = seq → 0 < sp → sp ≤ 16 → Answers i s (fun t =>
      (t.tile u).seq.cur = some { c with todo := x :: rest, waitFrom := none, succ := a % 4096 } ∧
      t.get (SEQ_SP u) = sp - 1 ∧ t.dev.held = s.dev.held ∧
      Frame s t [SEQ_SP u, SEQ_STATE_ACTIVE u, EVPORT_GEN_CUR_VALID u])
    plain (.seqNext u) 0 after ∧ plain (.seqJump u) 1 (mwTarget c.word) ∧
    (bring = true → plain (.seqBranch u) 2 (if cond then mwTarget c.word else (c.addr + 1) % 4096)) ∧
    (bring = false → pop (.seqBranch u) 2 (if cond then mwTarget c.word else top)) ∧
    (cond = false → plain (.seqRetif u) 3 after) ∧ (cond = true → pop (.seqRetif u) 3 top) ∧
    (cond = true → 0 < sp → plain (.seqLoopb u) 4 top) ∧ (cond = false → pop (.seqLoopb u) 4 after) ∧
    push (.seqCall u) 5 (mwTarget c.word) (if bring then (c.addr + 1) % 4096 else bits (mwImm c.word) 0 12) ∧
    pop (.seqRet u) 6 top ∧ push (.seqPush u) 7 after (bits (mwImm c.word) 0 12) ∧
    plain (.seqHalt u) 8 after ∧ plain (.seqAbort u) 9 after

/-- A push onto a full stack, a pop of an empty one by BRANCH, RETIF, LOOPB or RET, and a LOOPB that would go on with an empty stack are
stack faults: a tile with no abort in progress is cut at the word's own address with cause STACK (R195, R196, R224). -/
def Clause.StackFaults : Prop :=
  ∀ s : State, s.wf = true → ∀ (u : Fin 32) (c : WordSt) (rest : List WStep), Stepping s u c .seq rest →
    atSeq s.view u c = true → s.get (CLASP_ABORT_CTRL_BUSY u) = 0 →
    ∀ i, ((i = Instr.seqRet u ∧ mwSeq c.word = 6 ∧ s.get (SEQ_SP u) = 0) ∨
      (i = Instr.seqCall u ∧ mwSeq c.word = 5 ∧ 16 ≤ s.get (SEQ_SP u)) ∨
      (i = Instr.seqPush u ∧ mwSeq c.word = 7 ∧ 16 ≤ s.get (SEQ_SP u)) ∨
      (i = Instr.seqBranch u ∧ mwSeq c.word = 2 ∧ s.get (SEQ_MODE u) = 0 ∧ s.get (SEQ_SP u) = 0) ∨
      (i = Instr.seqRetif u ∧ mwSeq c.word = 3 ∧ condNow s.view u c = true ∧ s.get (SEQ_SP u) = 0) ∨
      (i = Instr.seqLoopb u ∧ mwSeq c.word = 4 ∧ s.get (SEQ_SP u) = 0)) →
    Answers i s (fun t => t.get (SEQ_STATE_STATE u) = HALTED ∧ t.get (SEQ_HALT_INFO_CAUSE u) = CAUSE_STACK ∧
      t.get (SEQ_RESTART u) = c.addr % 2 ^ (SEQ_RESTART u).width ∧ (t.tile u).seq.cur = none ∧
      (∃ f ∈ t.dev.held, f.src = tileSrc u 0))

end Sys2Proof

/-- Step 10 of a word, and the faults of the stack. -/
def Obligations.Successors : Prop :=
  Clause.SequencingSteps ∧ Clause.StackFaults

namespace Sys2Proof

/-- The ends of words outside lockstep: an unmarked HALT word drains the tile with cause HALT; an unmarked NEXT word makes its successor
the next address;
at a safe word whose enabled input is pending the vector is taken; step 2 of an ABORT word aborts from the cursor advanced by DT, and
its stamp is the frame of the abort; a fence that has resolved ends (R54, R171, R195, R220, R224, R225). -/
def Clause.WordEnds : Prop :=
  ∀ s : State, s.wf = true → ∀ (u : Fin 32) (c : WordSt),
    (∀ after, after = fallThrough s.view u c → Stepping s u c .seq [] → atSeq s.view u c = true → c.stepped = false →
      mwSafe c.word = false → (s.tile u).seq.haltReq = false → (s.tile u).seq.run + 1 ≤ s.get (SEQ_STARVE_LIMIT u) →
      (mwSeq c.word = 8 → Answers (.seqHalt u) s (fun t => t.get (SEQ_STATE_STATE u) = DRAINING ∧
        t.get (SEQ_HALT_INFO_CAUSE u) = CAUSE_HALT_OP ∧ t.get (SEQ_RESTART u) = after % 4096 ∧
        (t.tile u).seq.cur = none ∧ (t.tile u).seq.next = after % 4096 ∧ t.dev.held = s.dev.held ∧
        (∀ v < 32, v ≠ u.val → t.tile v = s.tile v) ∧
        Frame s t [SEQ_STATE_STATE u, SEQ_HALT_INFO_CAUSE u, SEQ_HALT_INFO_ADDR u, SEQ_RESTART u, SEQ_CTRL_STOP u,
          SEQ_STARVE_MAXRUN u])) ∧
      (mwSeq c.word = 0 → Answers (.seqNext u) s (fun t => (t.tile u).seq.cur = none ∧
        (t.tile u).seq.next = after % 4096 ∧ (t.tile u).seq.run = (s.tile u).seq.run + 1 ∧
        Frame s t [SEQ_STARVE_MAXRUN u]))) ∧
    (∀ i, Stepping s u c .safe [] → attention s.view u = some i → s.get (SEQ_STATE_STATE u) = RUN → c.stepped = false →
      mwSeq c.word ≠ 8 → s.get (SEQ_STATE_ACTIVE u) = 0 → s.get (SEQ_SP u) ≤ 15 → mwSafe c.word = true →
      (s.tile u).seq.haltReq = false → s.get (SEQ_CTRL_STOP u) = 0 →
      Answers (.safe u) s (fun t => t.get (SEQ_SP u) = s.get (SEQ_SP u) + 1 ∧
        t.get (SEQ_STACK u (s.get (SEQ_SP u))) = c.succ % 2 ^ (SEQ_STACK u 0).width ∧ t.get (SEQ_STATE_ACTIVE u) = 1 ∧
        t.get (SEQ_STATE_VEC u) = i % 16 ∧ (t.tile u).seq.next = s.get (SEQ_VEC u i) ∧
        t.get (EVPORT_PEND_GEN_SET u (i / 8) (i % 8)) = 0 ∧ Counted s t (SEQ_ATTN_COUNT_TAKEN u) ∧ t.dev.held = s.dev.held ∧
        Frame s t [SEQ_STACK u (s.get (SEQ_SP u)), SEQ_SP u, EVPORT_GEN_CUR u, EVPORT_GEN_CUR_VALID u, SEQ_STATE_ACTIVE u,
          SEQ_STATE_VEC u, EVPORT_PEND_GEN_SET u (i / 8) (i % 8), SEQ_ATTN_COUNT_TAKEN u])) ∧
    (∀ rest, Stepping s u c .abort rest → rest ≠ [] → mwSeq c.word = 9 →
      let e := abortFrame s.view ((s.tile u).seq.cursor + mwDt c.word)
      Answers (.seqAbort u) s (fun t => Stepped t u { c with stamp := e } rest ∧ (t.tile u).seq.cursor = e ∧
        t.get (CLASP_ABORT_CTRL_BUSY u) = 1 ∧ t.get (ABORT_E u) = e % 2 ^ 64 ∧
        Frame s t ([CLASP_ABORT_CTRL_BUSY u, CLASP_ABORT_CTRL_GEN u, ABORT_E u] ++ waitFlds u))) ∧
    (∀ rest, Stepping s u c .fence rest → rest ≠ [] → Answers (.fence u) s (fun t => Stepped t u c rest ∧
      t.get (FB_FENCE_WAITING u) = 0 ∧ Frame s t (waitFlds u)))

end Sys2Proof

/-- A word from its fetch to its end. -/
def Obligations.Words : Prop :=
  Clause.WordsIssue ∧ Clause.BadWordsCut ∧ Clause.WordEnds

namespace Sys2Proof

/-- An abort that completes clears BUSY and records its frame; a cut that waited for it then acts (R56, R226). -/
def Clause.AbortCompletes : Prop :=
  ∀ s : State, s.wf = true → ∀ u : Fin 32, s.get (CLASP_ABORT_CTRL_BUSY u) ≠ 0 →
    ((s.tile u).seq.cutPending = false → Answers (.abortComplete u) s (fun t => t.get (CLASP_ABORT_CTRL_BUSY u) = 0 ∧
      t.get (CLASP_ABORT_EFF_LO u) = s.get (ABORT_E u) % 2 ^ 32 ∧
      t.get (CLASP_ABORT_EFF_HI u) = s.get (ABORT_E u) / 2 ^ 32 % 2 ^ 32 ∧
      Plain s t [CLASP_ABORT_CTRL_BUSY u, CLASP_ABORT_EFF_LO u, CLASP_ABORT_EFF_HI u])) ∧
    ((s.tile u).seq.cutPending = true → Answers (.abortComplete u) s (fun t => t.get (SEQ_STATE_STATE u) = HALTED ∧
      t.get (CLASP_ABORT_CTRL_BUSY u) = 1 ∧ (t.tile u).seq.cutPending = false ∧
      t.get (CLASP_ABORT_EFF_LO u) = s.get (ABORT_E u) % 2 ^ 32 ∧ (∃ f ∈ t.dev.held, f.src = tileSrc u 0)))

end Sys2Proof

/-- ABORT_FROM: the queue, the boundary, and its completion. -/
def Obligations.Aborts : Prop :=
  Clause.AbortFrom ∧ Clause.AbortBoundary ∧ Clause.AbortCompletes

namespace Sys2Proof

/-- Host control outside lockstep (R217, R230, R314), which each action accepts by the state of the tile: STOP is set in RUN; HALT of a tile
that runs cuts it at its next address between words, waits for the end of a word that is not stalled, and leaves a cut that waits for an
abort to act; STEP and RESUME go on from RESTART of a tile that drains or is HALTED, in the mode that BRINGUP then selects, and RESYNC
moves the cursor to now + 64. In any other state of a tile that steps no word each of the four is ignored and logged, and STEP and
RESUME of a tile that the loader holds are rejected. -/
def Clause.HostControl : Prop :=
  ∀ s : State, s.wf = true → ∀ (via : Via) (u : Fin 32), s.get DEV_STATUS_LOCKSTEP = 0 →
    s.get (SEQ_STATE_STEPPING u) = 0 →
    (s.get (SEQ_STATE_STATE u) = RUN → Answers (.hostStop via u) s (fun t => t.get (SEQ_CTRL_STOP u) = 1 ∧
      Plain s t [SEQ_CTRL_STOP u])) ∧
    (s.get (SEQ_STATE_STATE u) ≠ RUN → Answers (.hostStop via u) s (fun t =>
      Logged s t 2 (viaPath via).code u (SEQ_CTRL_HALT u).addr ∧
      Leaves s t (logFlds (s.get DEV_ERRLOG_HEAD)) { s.view.dev with held := s.dev.held ++ [s.firing 487] })) ∧
    (s.get (SEQ_STATE_STATE u) = RUN ∨ s.get (SEQ_STATE_STATE u) = DRAINING → (s.tile u).seq.cutPending = true →
      Answers (.hostHalt via u) s (fun t => Plain s t [])) ∧
    (s.get (SEQ_STATE_STATE u) = RUN → (s.tile u).seq.cutPending = false → (s.tile u).seq.cur = none →
      s.get (CLASP_ABORT_CTRL_BUSY u) = 0 →
      Answers (.hostHalt via u) s (fun t => t.get (SEQ_STATE_STATE u) = HALTED ∧
        t.get (SEQ_HALT_INFO_CAUSE u) = CAUSE_HOST_HALT ∧
        t.get (SEQ_RESTART u) = (s.tile u).seq.next % 2 ^ (SEQ_RESTART u).width ∧
        (∀ v < 32, v ≠ u.val → t.tile v = s.tile v) ∧ StoresKept s t ∧ t.tl = s.tl)) ∧
    (∀ c, s.get (SEQ_STATE_STATE u) = RUN → (s.tile u).seq.cutPending = false → (s.tile u).seq.cur = some c → wordStalled s.view u = false →
      Answers (.hostHalt via u) s (fun t => (t.tile u).seq = { (s.tile u).seq with haltReq := true } ∧ Frame s t [])) ∧
    (∀ c sync, c ∈ [(Instr.hostHalt via u, [HALTED, NOT_RELEASED]), (Instr.seqStep via u sync, [RUN, NOT_RELEASED]),
        (Instr.seqResume via u sync, [RUN, NOT_RELEASED])] → s.get (SEQ_STATE_STATE u) ∈ c.2 → s.get (CODE_HELD u) = 0 →
      Answers c.1 s (fun t => Logged s t 2 (viaPath via).code u (SEQ_CTRL_HALT u).addr ∧
        Leaves s t (logFlds (s.get DEV_ERRLOG_HEAD)) { s.view.dev with held := s.dev.held ++ [s.firing 487] })) ∧
    (∀ c sync, c ∈ [Instr.seqStep via u sync, Instr.seqResume via u sync] → s.get (CODE_HELD u) ≠ 0 →
      Answers c s (fun t => Logged s t 3 (viaPath via).code u (SEQ_CTRL_HALT u).addr ∧ Counted s t LOADER_REJECT_COUNT ∧
        Leaves s t ([LOADER_REJECT_COUNT, LOADER_REJECT_VALID, LOADER_REJECT_PATH, LOADER_REJECT_ADDR_LO, LOADER_REJECT_ADDR_HI] ++
          logFlds (s.get DEV_ERRLOG_HEAD)) { s.view.dev with held := s.dev.held ++ [s.firing 487, s.firing 503] })) ∧
    (s.get (SEQ_STATE_STATE u) = HALTED ∨ s.get (SEQ_STATE_STATE u) = DRAINING → s.get (CODE_HELD u) = 0 → ∀ sync : Bool,
      let q := { (s.tile u).seq with
        cursor := if sync then s.tl.count + 64 else (s.tile u).seq.cursor, next := s.get (SEQ_RESTART u), haltReq := false }
      Answers (.seqStep via u sync) s (fun t => t.get (SEQ_STATE_STEPPING u) = 1 ∧ (t.tile u).seq = q ∧
        t.get (SEQ_MODE u) = s.get (SEQ_CFG_BRINGUP u) % 2 ∧
        Frame s t (SEQ_STATE_STEPPING u :: SEQ_MODE u :: if sync then [FB_COUNT_GROUPS u] else [])) ∧
      Answers (.seqResume via u sync) s (fun t => t.get (SEQ_STATE_STATE u) = RUN ∧ (t.tile u).seq = q ∧
        t.get (SEQ_MODE u) = s.get (SEQ_CFG_BRINGUP u) % 2 ∧
        Frame s t (SEQ_STATE_STATE u :: SEQ_MODE u :: if sync then [FB_COUNT_GROUPS u] else [])))

/-- A draining tile with nothing left of its program is HALTED, its pulses have ended, and source 0 fires (R225). -/
def Clause.DrainCompletes : Prop :=
  ∀ s : State, s.wf = true → ∀ u : Fin 32, s.get DEV_STATUS_LOCKSTEP = 0 → s.get (SEQ_STATE_STATE u) = DRAINING →
    (s.tile u).seq.cur = none → (s.tile u).seq.cutPending = false → s.get (SEQ_STATE_STEPPING u) = 0 →
    drained s.view u = true →
    Answers (.drainComplete u) s (fun t => t.get (SEQ_STATE_STATE u) = HALTED ∧
      (∀ e < 16, (t.view.tone u e).pulse = none) ∧ (∀ e < 8, (t.view.flux u e).pulse = none) ∧
      (∀ v < 32, v ≠ u.val → t.tile v = s.tile v) ∧ t.dev.held = s.dev.held ++ [s.firing (tileSrc u 0)] ∧
      Frame s t [SEQ_STATE_STATE u])

end Sys2Proof

/-- Host control, and the halt that follows a drain. -/
def Obligations.Halts : Prop :=
  Clause.HostControl ∧ Clause.DrainCompletes

namespace Sys2Proof

/-! ## What a word issues (R199 to R210) -/

/-- A tile's stage queues once a producer, whose last entry went to the clasp given with them, issues its next entry to clasp c: where that is
another one and the last entry is staged still, that is marked as left (R49). -/
def leftStage (p : Producer) (c : Nat) (x : List Staged × Option Nat) : List Staged :=
  match x.2 with
  | none => x.1
  | some d => if d = c then x.1 else (markLeaves d p x.1.reverse).reverse

/-- A tile's stage queues, and the clasp of the last entry, once a producer has issued an entry behind them, which carries the abort
generation (R49, R55). -/
def issuedStage (p : Producer) (gen : Nat) (x : List Staged × Option Nat) (e : Entry) : List Staged × Option Nat :=
  (leftStage p e.clasp x ++ [⟨{ e with abgen := gen }, p, false, none⟩], some e.clasp)

/-- No clasp of tile u holds a chain that the producer has opened and not closed. -/
def Unchained (s : State) (u : Nat) (p : Producer) : Prop :=
  ∀ d < 33, ∀ x, (s.view.clasp u d).open_ = some x → x.isChain = true → x.from_ ≠ p

/-- The entries that a step of a word puts behind the stage queues of its tile take the tile's abort generation; the clasps and the other
tiles are as before, the step is complete, and no register but those that show a wait changes (R49, R55, R199). -/
def Issued (s t : State) (u : Nat) (c : WordSt) (rest : List WStep) (es : List Entry) : Prop :=
  ((t.tile u).stage, lastClasp (t.tile u) .seq) =
    es.foldl (issuedStage .seq (s.get (CLASP_ABORT_CTRL_GEN u))) ((s.tile u).stage, lastClasp (s.tile u) .seq) ∧
  (t.tile u).clasps = (s.tile u).clasps ∧ (∀ v < 32, v ≠ u → t.tile v = s.tile v) ∧
  Stepped t u c rest ∧ t.dev.held = s.dev.held ∧ Frame s t (waitFlds u)

/-- Slots XYA and XYB issue the entry of their OP at the stamp of the word, when the sequencer has no chain open (R199, R204). -/
def Clause.EngineSlots : Prop :=
  ∀ s : State, s.wf = true → ∀ (u : Fin 32) (b : Fin 2) (c : WordSt) (rest : List WStep), rest ≠ [] →
    Stepping s u c (if b.val = 0 then .xya else .xyb) rest → Unchained s u .seq →
    let op := slotOp (if b.val = 0 then mwXya c.word else mwXyb c.word)
    ∀ i, (i, op) ∈ [(Instr.xyPlay u b, 1), (Instr.xyStop u b, 2), (Instr.xyZadd u b, 3), (Instr.xyZset u b, 4),
      (Instr.xyQuiet u b, 7), (Instr.xyPmem u b, 8)] →
    Answers i s (fun t => Issued s t u c rest [xyEntry s.view u c.word b c.stamp c.slot])

/-- An entry of a slot that a word has marked, or not, as the alternative of an option of its group: it carries no chain where it is one
(R201, R204). -/
def Marked (x : Nat) (staged : Bool) (opt : Nat) (e : Entry) : Prop :=
  if staged then e.alt = true ∧ e.did = mwDid x ∧ e.quad = decide (mwDecOp x = 4) ∧ e.opt = opt ∧ e.chain = false
  else e.alt = false ∧ e.did = 0 ∧ e.quad = false ∧ e.opt = 0

/-- An entry's body is the 12 bytes of data memory at the pointer of generator g, aligned down to 16 bytes, the first lowest (R200). -/
def FromMemory (s : State) (u g : Nat) (e : Entry) : Prop :=
  e.kind = KPARAM ∧ e.body < 2 ^ 96 ∧
    ∀ i < 12, e.body / 256 ^ i % 256 = (s.byteAt (tileBase u + 0x80000 + s.get (DSP_AGU_P u g) / 16 * 16 + i)).toNat

/-- An OP of an engine slot whose entry is a PARAM (R199). -/
abbrev parameter (op : Nat) : Prop := op = 3 ∨ op = 4 ∨ op = 7 ∨ op = 8

/-- What the entries of the engine slots carry: the stamp of the word; kind, clasp and body by OP; the marks of an alternative where the
word stages their slot, the second slot's with the next option; and CHAIN in XYA's where both slots issue a PARAM to one clasp and are no
alternatives. RDO carries its template, or its kernel and routes, for each channel, and CAP its action and class (R43, R62, R94, R199, R200,
R201, R202, R204, R209). -/
def Clause.EntryBodies : Prop :=
  ∀ (s : State) (u : Nat) (x stamp slot : Nat),
    (∀ b : Fin 2,
      let v := if b.val = 0 then mwXya x else mwXyb x
      let e := xyEntry s.view u x b stamp slot
      e.stamp = stamp ∧ e.slot = slot ∧ e.abgen = 0 ∧ e.rsv = 0 ∧ Marked x (stages x 0) (stageBase x + b) e ∧
      (b.val = 1 → e.chain = false) ∧
      (b.val = 0 → stages x 0 = false → issuesXya x = true → issuesXyb x = true →
        (e.chain = true ↔ parameter (slotOp (mwXya x)) ∧ parameter (slotOp (mwXyb x)) ∧
          xyClasp (mwXya x) = xyClasp (mwXyb x))) ∧
      (b.val = 0 → issuesXyb x = false → e.chain = false) ∧
      (slotOp v ≠ 8 → e.clasp = slotEng v) ∧
      (slotOp v = 1 → e.kind = KPLAY ∧ e.body = slotTpl v) ∧ (slotOp v = 2 → e.kind = KSTOP ∧ e.body = 0) ∧
      (slotOp v = 3 → e.kind = KPARAM ∧ e.body % 256 = 0x08 + slotTpl v % 4 ∧ e.body / 256 = mwImm x * 2 ^ 12) ∧
      (slotOp v = 4 → e.kind = KPARAM ∧ e.body % 256 = 0x04 + slotTpl v % 4 ∧ e.body / 256 = mwImm x * 2 ^ 12) ∧
      (slotOp v = 7 → e.kind = KPARAM ∧ e.body % 256 = 0x18 ∧ e.body / 256 = mwImm x) ∧
      (slotOp v = 8 → FromMemory s u (slotTpl v % 4) e ∧
        (slotTpl v / 4 = 0 → e.clasp = slotEng v) ∧ (slotTpl v / 4 = 1 → e.clasp = 8 + slotEng v) ∧
        (slotTpl v / 4 = 2 → e.clasp = 24 + slotEng v))) ∧
    (let v := mwFlx x
     let e := flxEntry s.view u x stamp slot
     e.stamp = stamp ∧ e.slot = slot ∧ e.abgen = 0 ∧ e.rsv = 0 ∧ e.chain = false ∧ Marked x (stages x 1) (stageBase x) e ∧
     e.clasp = 16 + slotEng v ∧
     (slotOp v = 1 → e.kind = KPLAY ∧ e.body = slotTpl v) ∧ (slotOp v = 2 → e.kind = KSTOP ∧ e.body = 0) ∧
     (slotOp v = 5 → e.kind = KPARAM ∧ e.body % 256 = 1 ∧ e.body / 256 = mwImm x % 2 ^ 16) ∧
     (slotOp v = 6 → e.kind = KPARAM ∧ e.body % 256 = 0 ∧ e.body / 256 = mwImm x % 2 ^ 16) ∧
     (slotOp v = 8 → FromMemory s u (slotTpl v % 4) e)) ∧
    (∀ k, let e := rdoEntry x k stamp slot
      e.stamp = stamp ∧ e.slot = slot ∧ e.abgen = 0 ∧ e.rsv = 0 ∧ e.chain = false ∧ Marked x (stages x 2) (stageBase x) e ∧
      (mwRdoOp x = 1 → e.kind = KPLAY ∧ e.clasp = 8 + k ∧ e.body = mwKsel x) ∧
      (mwRdoOp x = 2 → e.kind = KSTOP ∧ e.clasp = 8 + k ∧ e.body = 0) ∧
      (mwRdoOp x = 3 → e.kind = KWINDOW ∧ e.clasp = 24 + k ∧ e.body % 16 = mwKsel x ∧
        bit e.body 4 = bit (mwImm x) 18 ∧ bit e.body 5 = bit (mwImm x) 19)) ∧
    (let e := capEntry x stamp slot
     e.stamp = stamp ∧ e.slot = slot ∧ e.abgen = 0 ∧ e.rsv = 0 ∧ e.chain = false ∧ Marked x false 0 e ∧
     e.kind = KCAPTURE ∧ e.clasp = 32 ∧ e.body % 8 = mwCapOp x ∧ e.body / 8 = mwClass x)

/-- When the sequencer issues an entry to another clasp than the one to which its last entry went, and that one has left a chain open there
and nothing of the sequencer is staged, the chain breaks: one FORMAT fault, and its members are discarded (R49). -/
def Clause.ChainsBreak : Prop :=
  ∀ s : State, s.wf = true → ∀ (u : Fin 32) (c : WordSt) (rest : List WStep) (d : Fin 33) (x : OpenUnit), rest ≠ [] →
    Stepping s u c .flx rest → slotOp (mwFlx c.word) = 1 → d.val ≠ (flxEntry s.view u c.word c.stamp c.slot).clasp →
    (s.view.clasp u d).open_ = some x → x.isChain = true → x.from_ = .seq → x.members ≠ [] →
    lastClasp (s.tile u) .seq = some d.val → (∀ y ∈ (s.tile u).stage, y.from_ ≠ .seq) →
    Answers (.flxPlay u) s (fun t => (t.view.clasp u d).open_ = none ∧ (t.view.clasp u d).items = (s.view.clasp u d).items ∧
      Faulted s t u FORMAT ∧
      ((t.tile u).stage, lastClasp (t.tile u) .seq) = issuedStage .seq (s.get (CLASP_ABORT_CTRL_GEN u))
        ((s.tile u).stage, some d.val) (flxEntry s.view u c.word c.stamp c.slot) ∧
      Stepped t u c rest ∧ Frame s t (faultFlds u ++ waitFlds u))

/-- FLX, RDO and CAP issue theirs, when the sequencer has no chain open: a flux entry, an entry for each channel of MASK in ascending
order, when their clasps have credit, and a CAPTURE entry (R199, R202, R209). -/
def Clause.OtherSlots : Prop :=
  ∀ s : State, s.wf = true → ∀ (u : Fin 32) (c : WordSt) (rest : List WStep), rest ≠ [] → Unchained s u .seq →
    (Stepping s u c .flx rest →
      ∀ i, (i, slotOp (mwFlx c.word)) ∈ [(Instr.flxPlay u, 1), (Instr.flxStop u, 2), (Instr.flxDcadd u, 5),
        (Instr.flxDcset u, 6), (Instr.flxPmem u, 8)] →
      Answers i s (fun t => Issued s t u c rest [flxEntry s.view u c.word c.stamp c.slot])) ∧
    (∀ (k : Nat) (ks : List Nat), Stepping s u c (.rdo k) (ks.map WStep.rdo ++ rest) → (∀ j < 8, rest.head? ≠ some (.rdo j)) →
      (k :: ks).Pairwise (· < ·) → (∀ j ∈ k :: ks, j < 8) →
      (∀ j ∈ ks, claspCredit s.view u (if mwRdoOp c.word = 3 then 24 + j else 8 + j) ≠ 0) →
      ∀ i, (i, mwRdoOp c.word) ∈ [(Instr.rdoProbe u, 1), (Instr.rdoPstop u, 2), (Instr.rdoWindow u, 3)] →
      Answers i s (fun t => Issued s t u c rest ((k :: ks).map (fun j => rdoEntry c.word j c.stamp c.slot)))) ∧
    (Stepping s u c .cap rest →
      ∀ i, (i, mwCapOp c.word) ∈ [(Instr.capArm u, 1), (Instr.capFire u, 2), (Instr.capDisarm u, 3), (Instr.capSnap u, 4)] →
      Answers i s (fun t => Issued s t u c rest [capEntry c.word c.stamp c.slot]))

end Sys2Proof

/-- The engine slots of a word and the entries that they issue. -/
def Obligations.EntrySlots : Prop :=
  Clause.EngineSlots ∧ Clause.EntryBodies ∧ Clause.ChainsBreak ∧ Clause.OtherSlots

namespace Sys2Proof

/-- A DEC step passes its arming to the watcher block, due at the word's stamp, or at the next boundary, and late, when that lies fewer
than 12 frames ahead. A staging step issues nothing, and marks the entries that the steps behind it issue from its source: with its
watcher, as a pair or a quad, and with the option that BASE gives, the entry of XYB that behind it (R164, R165, R203, R204). -/
def Clause.DecisionSteps : Prop :=
  ∀ s : State, s.wf = true → ∀ (u : Fin 32) (c : WordSt) (rest : List WStep), rest ≠ [] →
    (Stepping s u c .dec rest →
      ∀ i, (i, mwDecOp c.word) ∈ [(Instr.decArm u, 1), (Instr.decArmn u, 2)] →
      Answers i s (fun t => (t.tile u).arms = (s.tile u).arms ++ [⟨mwDid c.word, decide (mwDecOp c.word = 2), mwDecArg c.word,
          c.stamp, if c.stamp < s.tl.count + 12 then max c.stamp (s.tl.count + 1) else c.stamp,
          decide (c.stamp < s.tl.count + 12)⟩] ∧ Issued s t u c rest [])) ∧
    (Stepping s u c .stage rest →
      ∀ i op, (i, op) ∈ [(Instr.decStage2 u, 3), (Instr.decStage4 u, 4)] → mwDecOp c.word = op →
      Answers i s (fun t => Issued s t u c rest [] ∧ (stageLegal c.word = true →
        let mark := fun (opt : Nat) (e : Entry) =>
          e.alt = true ∧ e.did = mwDid c.word ∧ e.quad = decide (op = 4) ∧ e.opt = opt ∧ e.chain = false
        (mwDecArg c.word / 4 = 0 → ∀ b : Fin 2, mark (mwDecArg c.word % 4 + b) (xyEntry t.view u c.word b c.stamp c.slot)) ∧
        (mwDecArg c.word / 4 = 1 → mark (mwDecArg c.word % 4) (flxEntry t.view u c.word c.stamp c.slot)) ∧
        (mwDecArg c.word / 4 = 2 → ∀ k, mark (mwDecArg c.word % 4) (rdoEntry c.word k c.stamp c.slot)))))

/-- LOOP loads or counts down the selected loop counter, which stays at 0, and a word whose LOOP is NONE or has
a VALUE that must be 0 has no loop step; EVT TAKE clears a pending latch and hands its generation to
the program; EVT FIRE fires a source of the tile (R206, R210, R269, R272). -/
def Clause.LoopAndEventSteps : Prop :=
  ∀ s : State, s.wf = true → ∀ (u : Fin 32) (c : WordSt) (rest : List WStep), rest ≠ [] →
    (Stepping s u c .loop rest →
      let lc := SEQ_LC u (mwLoopSel c.word)
      ∀ i v, (i, mwLoopOp c.word, v) ∈ [(Instr.loopLoad u, 1, mwLoopVal c.word), (Instr.loopLoadi u, 2, mwImm c.word),
        (Instr.loopDec u, 3, s.get lc - 1)] →
      Answers i s (fun t => t.get lc = v % 2 ^ 20 ∧ Stepped t u c rest ∧ t.dev.held = s.dev.held ∧
        Frame s t (lc :: waitFlds u))) ∧
    (mwLoopOp c.word = 0 ∨ (2 ≤ mwLoopOp c.word ∧ mwLoopVal c.word ≠ 0) →
      ∀ leads seq, WStep.loop ∉ wordSteps s.view u leads seq c.word) ∧
    (Stepping s u c .evt rest → mwEvtOp c.word = 1 → mwLine c.word < 16 →
      let set := EVPORT_PEND_GEN_SET u (mwLine c.word / 8) (mwLine c.word % 8)
      let gen := EVPORT_PEND_GEN_GEN u (mwLine c.word / 8) (mwLine c.word % 8)
      Answers (.evtTake u) s (fun t => Stepped t u c rest ∧ t.dev.held = s.dev.held ∧
        (s.get set ≠ 0 → t.get set = 0 ∧ t.get (EVPORT_GEN_CUR_VALID u) = 1 ∧
          t.get (EVPORT_GEN_CUR u) = s.get gen % 2 ^ (EVPORT_GEN_CUR u).width) ∧
        (s.get set = 0 → t.get set = 0 ∧ t.get (EVPORT_GEN_CUR_VALID u) = s.get (EVPORT_GEN_CUR_VALID u)) ∧
        (bit (mwEvtArg c.word) 0 = true → bit (t.get (EVPORT_OVR u)) (mwLine c.word) = false) ∧
        Frame s t ([set, EVPORT_GEN_CUR_VALID u, EVPORT_GEN_CUR u, EVPORT_OVR u] ++ waitFlds u))) ∧
    (Stepping s u c .evt rest → mwEvtOp c.word = 2 →
      (s.get (EVPORT_GEN_CUR_VALID u) = 0 → Answers (.evtFire u) s (fun t => Stepped t u c rest ∧
        Fires s t (tileSrc u (mwLine c.word)) ∧ Frame s t (waitFlds u))) ∧
      (s.get (EVPORT_GEN_CUR_VALID u) ≠ 0 → s.get (EVPORT_GEN_CUR u) < 6 → Answers (.evtFire u) s (fun t =>
        t.dev.held = s.dev.held ++ [{ s.firing (tileSrc u (mwLine c.word)) with gen := s.get (EVPORT_GEN_CUR u) + 1 }] ∧
        Stepped t u c rest ∧ Frame s t (waitFlds u))) ∧
      (s.get (EVPORT_GEN_CUR_VALID u) ≠ 0 → 6 ≤ s.get (EVPORT_GEN_CUR u) → Answers (.evtFire u) s (fun t =>
        t.get (EVPORT_LOOP_FLAG u) = 1 ∧ Fires s t (tileSrc u 12) ∧ Stepped t u c rest ∧
        Frame s t ([EVPORT_LOOP_FLAG u, EVPORT_LOOP_COUNT u] ++ waitFlds u))))

/-! ## Queue steps, the datapath and its address generators (R130 to R153, R207, R208) -/

/-- The registers of the DDR5 channels that their traffic writes (R408, R411, R414, R416, R420). -/
def ddrFlds : List Fld :=
  (List.range 2).flatMap (fun c => [DDR_STATUS_STATE c, DDR_STATUS_MR4_2X c, DDR_DEBT_RANK0 c, DDR_DEBT_RANK1 c,
    DDR_REF_STAT_N_MAX c, DDR_ORDER_FWD c, DDR_ORDER_INORDER c, DDR_RH_STAT_NREF c, DDR_RH_STAT_RFM c])

/-- The registers that an access to the ring of queue q of tile u writes: none for a ring in the tile's own memory. -/
def ringFlds (s : State) (u q : Nat) : List Fld := if s.get (QT_CFG_PLACE u q) = 0 then [] else ddrFlds

/-- An entry of a type has been pushed into the ring of outbound queue q, with the next sequence number, and no other byte of memory has
changed (R283, R287). -/
def Pushed (s t : State) (u q type : Nat) (payload : List Byte) : Prop :=
  let n := (s.get (QT_SEQ_A u q) + 1) % 2 ^ 32
  t.get (QT_SEQ_A u q) = n ∧
  (∀ i < 32, t.byteAt (qAddr s.view u q n + i) = (entryBytes type 0 n payload).getD i 0) ∧
  MemBut s t (qAddr s.view u q n) 32

/-- An entry more in outbound host queue q of tile u makes no datagram leave: nobody owns the session, or entries coalesce and one more
does not make a datagram full (R297). -/
abbrev Coalesces (s : State) (u q : Nat) : Prop :=
  s.get TRANSPORT_SESSION_OWNER_VALID = 0 ∨ (s.get TRANSPORT_TIMING_COALESCE ≠ 0 ∧
    seqDiff (outEnd s.view (512 * u + q)) (s.get (QSENT u q)) + 1 < entriesMax s.view)

/-- The ring of queue q of tile u lies in the tile's own memory, or within what is installed on its DDR5 channel (R28, R29). -/
abbrev RingInside (s : State) (u q : Nat) : Prop :=
  s.get (QT_CFG_PLACE u q) = 0 ∨
    s.get (QT_BASE u q) * 4096 + 32 * qSize s.view u q ≤ ddrCapacity s.view (s.get (QT_CFG_CHAN u q))

/-- Queue q of tile u is an outbound host queue with room in its ring, which waits for more entries. -/
abbrev HasRoom (s : State) (u q : Nat) : Prop :=
  128 ≤ q ∧ q < 256 ∧ qEnabled s.view u q = true ∧ qFaulted s.view u q = false ∧ qFill s.view u q < qSize s.view u q ∧
    RingInside s u q ∧ Coalesces s u q

/-- PUSH sends the 24 bytes at a generator's pointer, and NOTE the stamp, the address, the immediate and the time, to an outbound host
queue with room; POP removes the next entry of an inbound host queue, when it is good, and stores its payload at a generator's
pointer (R207, R208, R283, R287). -/
def Clause.QueueSteps : Prop :=
  ∀ s : State, s.wf = true → ∀ (u : Fin 32) (c : WordSt) (rest : List WStep), rest ≠ [] → Stepping s u c .que rest →
    let q := mwQueue c.word
    let p := quePtr s.view u (mwQueArg c.word % 4)
    (HasRoom s u q → ∀ i k ty bs, (i, k, ty, bs) ∈ [(Instr.quePush u, 1, 2, s.view.rdBytes p 24),
        (Instr.queNote u, 2, 3, leBytes 8 c.stamp ++ leBytes 1 c.slot ++ leBytes 1 0 ++ leBytes 2 c.addr ++
          leBytes 4 (mwImm c.word) ++ leBytes 8 s.tl.count)] → mwQueOp c.word = k →
      Answers i s (fun t => Pushed s t u q ty bs ∧ Stepped t u c rest ∧ t.dev.held = s.dev.held ∧
        RegsBut s t (QT_SEQ_A u q :: ringFlds s u q ++ waitFlds u))) ∧
    (mwQueOp c.word = 3 → q < 128 → (s.tile u).gaps = [] → qFill s.view u q ≠ 0 → qFaulted s.view u q = false →
      let e := s.view.rdBytes (qAddr s.view u q (s.get (QTAIL u q))) 32
      s.get (QTAIL u q) ≠ s.get (QT_SEQ_A u q) → entryOk e = true → typeDefined (entryType e) = true →
      Answers (.quePop u) s (fun t => t.get (QTAIL u q) = (s.get (QTAIL u q) + 1) % 2 ^ 32 ∧
        (∀ i < 24, t.byteAt (p + i) = e.getD (8 + i) 0) ∧ MemBut s t p 24 ∧ Stepped t u c rest ∧
        RegsBut s t (QTAIL u q :: ringFlds s u q ++ waitFlds u)))

end Sys2Proof

/-- The decision, loop, event and queue steps of a word. -/
def Obligations.ControlSteps : Prop :=
  Clause.DecisionSteps ∧ Clause.LoopAndEventSteps ∧ Clause.QueueSteps

namespace Sys2Proof

/-- A vector stands where the DST of a word puts it: a vector register with its tag, 16 bytes of data memory, or an entry of the output
queue (R136, R148, R149, R153). -/
def VecWritten (s t : State) (u : Nat) (c : WordSt) (v : List Int) (tag : Bool) : Prop :=
  let d := dspDst c.word
  let a := memAddr s.view u (d - 8)
  let q := s.get (DSP_OUT_Q u)
  (d < 8 → (∀ l < 8, (vregGet t.view u d).lane l = v.getD l 0) ∧ (vregGet t.view u d).tag = tag ∧ StoresKept s t ∧
    (∀ k < 8, k ≠ d → (vregGet t.view u k).lanes = (vregGet s.view u k).lanes ∧
      (vregGet t.view u k).tag = (vregGet s.view u k).tag)) ∧
  (8 ≤ d → d < 12 → (∀ i < 16, t.byteAt (a + i) = BitVec.ofNat 8 (ofLanes v / 256 ^ i)) ∧ MemBut s t a 16 ∧
    (tag = true → t.get (DSP_STATUS_TAINT_STORE u) = 1)) ∧
  (d = 12 → HasRoom s u q → Pushed s t u q 7 (leBytes 16 (ofLanes v) ++ leBytes 4 c.stamp ++ leBytes 4 (b2n tag))) ∧
  (d = 13 → StoresKept s t)

/-- The fields that a word's vector result may write. -/
def vecFlds (s : State) (u : Nat) : List Fld :=
  (List.range 8).flatMap (fun v => (List.range 4).map (DSP_V u v)) ++
    [DSP_VTAG u, DSP_STATUS_LANE_OVF u, DSP_STATUS_TAINT_STORE u, QT_SEQ_A u (s.get (DSP_OUT_Q u))] ++
    ringFlds s u (s.get (DSP_OUT_Q u)) ++ waitFlds u

/-- A word of tile u at its datapath operation op, with legal DSP and AGU fields. -/
abbrev AtOp (s : State) (u : Nat) (c : WordSt) (rest : List WStep) (op : Nat) : Prop :=
  rest ≠ [] ∧ Stepping s u c .dspOp rest ∧ dspOp c.word = op ∧ dspLegal c.word = true ∧ aguIllegal c.word = false ∧
    (dspDst c.word = 12 → dspWritesVector op = true → HasRoom s u (s.get (DSP_OUT_Q u)))

/-- MOV copies its source; ADD, SUB and MUL act lane by lane and CMUL and CMULJ on complex lanes, exactly, with products rounded to
Q1.15; a result beyond 16 bits saturates under SAT and wraps otherwise, sets LANE_OVF and marks the vector; the tag of a source marks
it too (R135, R136, R139, R141, R149). -/
def Clause.LaneArithmetic : Prop :=
  ∀ s : State, s.wf = true → ∀ (u : Fin 32) (c : WordSt) (rest : List WStep),
    let a := srcA s.view u c
    let b := srcB s.view u c
    let fit := fun v : Int => if dspSat c.word then satS 16 v else sext 16 (toField 16 v)
    let lanes := fun f : Int → Int → Int => (List.range 8).map (fun l => f (a.lane l) (b.lane l))
    let complex := fun conj => (List.range 4).flatMap (fun p =>
      [roundAway (cprod conj a b p).1 15, roundAway (cprod conj a b p).2 15])
    (AtOp s u c rest 1 → Answers (.dspMov u) s (fun t =>
      VecWritten s t u c ((List.range 8).map a.lane) a.tag ∧ Stepped t u c rest ∧ RegsBut s t (vecFlds s u))) ∧
    ∀ i op exact, (i, op, exact) ∈ [(Instr.dspAdd u, 2, lanes (fun x y => x + y)), (Instr.dspSub u, 3, lanes (fun x y => x - y)),
        (Instr.dspMul u, 4, lanes (fun x y => roundAway (x * y) 15)), (Instr.dspCmul u, 5, complex false),
        (Instr.dspCmulj u, 6, complex true)] → AtOp s u c rest op →
      Answers i s (fun t => VecWritten s t u c (exact.map fit) (a.tag || b.tag || exact.any (overS 16)) ∧
        (exact.any (overS 16) = true → t.get (DSP_STATUS_LANE_OVF u) = 1) ∧ Stepped t u c rest ∧
        RegsBut s t (vecFlds s u))

/-- Accumulator n of tile u after a word has added a sum to it: one that holds keeps its value; a result beyond 48 bits saturates under
SAT and wraps otherwise (R142). -/
def accAfter (s : State) (u : Nat) (c : WordSt) (n : Nat) (sum : Int) : Nat :=
  let v := sext 48 (s.get (DSP_ACC u n)) + sum
  if s.get (DSP_ACC_HI_HOLD u n) ≠ 0 then s.get (DSP_ACC u n)
  else toField 48 (if overS 48 v && dspSat c.word then satS 48 v else v)

/-- The multiply-accumulate and accumulate operations add their exact sums, each to the accumulators it names and to no other, and an
overflow taints the accumulator, sets GOV, and holds it under SAT; each rise of a GOV bit fires source 6 (R131, R139, R142). -/
def Clause.Accumulation : Prop :=
  ∀ s : State, s.wf = true → ∀ (u : Fin 32) (c : WordSt) (rest : List WStep),
    let a := srcA s.view u c
    let b := srcB s.view u c
    let n := dspAcc c.word
    let p := dspAcc c.word / 2 * 2
    let l := dspSrcB c.word % 4
    ∀ i op sums, (i, op, sums) ∈ [(Instr.dspMac u, 0x08, [(n, dot a b)]), (Instr.dspMsu u, 0x09, [(n, -(dot a b))]),
        (Instr.dspPmac u, 0x0A, (List.range 4).map (fun k =>
          (k, a.lane (2 * k) * b.lane (2 * k) + a.lane (2 * k + 1) * b.lane (2 * k + 1)))),
        (Instr.dspCmac u, 0x0B, [(p, (cdot false a b).1), (p + 1, (cdot false a b).2)]),
        (Instr.dspCmacj u, 0x0C, [(p, (cdot true a b).1), (p + 1, (cdot true a b).2)]),
        (Instr.dspAccum u, 0x0D, [(n, (List.range 8).foldl (fun x l => x + a.lane l * 2 ^ 15) 0)]),
        (Instr.dspCaccum u, 0x0E, [(p, a.lane (2 * l) * 2 ^ 15), (p + 1, a.lane (2 * l + 1) * 2 ^ 15)]),
        (Instr.dspPacc u, 0x0F, (List.range 4).map (fun k => (k, a.lane (2 * k) * 2 ^ 15)))] →
      AtOp s u c rest op →
      Answers i s (fun t => (∀ x ∈ sums, t.get (DSP_ACC u x.1) = accAfter s u c x.1 x.2 ∧
          (s.get (DSP_ACC_HI_HOLD u x.1) = 0 → overS 48 (sext 48 (s.get (DSP_ACC u x.1)) + x.2) = true →
            t.get (DSP_ACC_HI_TAINT u x.1) = 1 ∧ t.get (DSP_ACC_HI_HOLD u x.1) = b2n (dspSat c.word) ∧
            bit (t.get (DSP_STATUS_GOV u)) x.1 = true)) ∧
        t.dev.held = s.dev.held ++ (sums.filter (fun x => decide (s.get (DSP_ACC_HI_HOLD u x.1) = 0 ∧
          overS 48 (sext 48 (s.get (DSP_ACC u x.1)) + x.2) = true ∧ bit (s.get (DSP_STATUS_GOV u)) x.1 = false))).map
            (fun _ => s.firing (tileSrc u 6)) ∧
        Stepped t u c rest ∧
        Frame s t (sums.flatMap (fun x => [DSP_ACC u x.1, DSP_ACC_HI_TAINT u x.1, DSP_ACC_HI_HOLD u x.1]) ++
          DSP_STATUS_GOV u :: waitFlds u))

/-- ACCOUT and CACCOUT write an accumulator, or the two of a pair, scaled by a power of two up to 47 and saturated to 32 bits under
SAT, in pairs of lanes, with the taint (R142). -/
def Clause.AccumulatorOutputs : Prop :=
  ∀ s : State, s.wf = true → ∀ (u : Fin 32) (c : WordSt) (rest : List WStep),
    let k := bits (mwImm c.word) 0 6
    let r := fun n => roundAway (sext 48 (s.get (DSP_ACC u n))) k
    let v := fun n => toField 32 (if dspSat c.word then satS 32 (r n) else r n)
    let tag := fun n => decide (s.get (DSP_ACC_HI_TAINT u n) ≠ 0) || overS 32 (r n)
    let n := dspAcc c.word
    let p := dspAcc c.word / 2 * 2
    k ≤ 47 →
    (AtOp s u c rest 0x11 → Answers (.dspAccout u) s (fun t =>
      VecWritten s t u c (twoLanes (v n) ++ List.replicate 6 0) (tag n) ∧ Stepped t u c rest ∧ RegsBut s t (vecFlds s u))) ∧
    (AtOp s u c rest 0x12 → Answers (.dspCaccout u) s (fun t =>
      VecWritten s t u c (twoLanes (v p) ++ twoLanes (v (p + 1)) ++ List.replicate 4 0) (tag p || tag (p + 1)) ∧
      Stepped t u c rest ∧ RegsBut s t (vecFlds s u)))

end Sys2Proof

/-- Vector results of the datapath. -/
def Obligations.LaneOperations : Prop :=
  Clause.LaneArithmetic ∧ Clause.AccumulatorOutputs

namespace Sys2Proof

/-- MAXI and MINI keep in their accumulator the best element met and its search index, the earlier one where values are equal, and
HIST counts the bin of lane 0, the lowest and the highest bin taking what lies beyond them (R143, R144). -/
def Clause.SearchAndHistogram : Prop :=
  ∀ s : State, s.wf = true → ∀ (u : Fin 32) (c : WordSt) (rest : List WStep),
    let n := dspAcc c.word
    let es := searchElems s.view u c
    let start := if (s.tile u).seq.newSearch then none
      else some (sext 48 (s.get (DSP_ACC u n)), s.get (DSP_SIDX u n))
    (∀ i op better, (i, op, better) ∈ [(Instr.dspMaxi u, 0x18, fun e b : Int => decide (b < e)),
        (Instr.dspMini u, 0x19, fun e b : Int => decide (e < b))] → AtOp s u c rest op → ∀ v k,
      searchBest better (s.get (SEARCH_BASE u n)) (es.map (fun e => e.1)) start = some (v, k) →
      Answers i s (fun t => t.get (DSP_ACC u n) = toField 48 v ∧ t.get (DSP_SIDX u n) = k % 2 ^ 20 ∧
        t.get (DSP_ACC_HI_TAINT u n) = b2n (es.any (fun e => e.2) ||
          (!(s.tile u).seq.newSearch && decide (s.get (DSP_ACC_HI_TAINT u n) ≠ 0))) ∧
        t.get (SEARCH_BASE u n) = (s.get (SEARCH_BASE u n) + es.length) % 2 ^ 20 ∧ (t.tile u).seq.newSearch = false ∧
        Stepped t u c rest ∧ t.dev.held = s.dev.held ∧
        Frame s t ([DSP_ACC u n, DSP_SIDX u n, SEARCH_BASE u n, DSP_ACC_HI_TAINT u n, DSP_ACC_HI_HOLD u n] ++ waitFlds u))) ∧
    (AtOp s u c rest 0x1C →
      let x := (srcA s.view u c).lane 0
      let bin := min (max ((x - sext 16 (s.get (DSP_HIST_HBASE u))) / 2 ^ s.get (DSP_HIST_HSHIFT u)) 0)
        (s.get (DSP_HIST_NBINS_M1 u) : Int)
      let addr := dmBase u + (s.get (DSP_AGU_B u n) + 4 * bin.toNat) % 131072
      Answers (.dspHist u) s (fun t =>
        (∀ i < 4, t.byteAt (addr + i) = BitVec.ofNat 8 ((if dspSat c.word then min 0xFFFFFFFF (s.view.rdLe addr 4 + 1)
          else s.view.rdLe addr 4 + 1) / 256 ^ i)) ∧ MemBut s t addr 4 ∧ Stepped t u c rest ∧
        t.get (DSP_STATUS_TAINT_STORE u) = (if (srcA s.view u c).tag then 1 else s.get (DSP_STATUS_TAINT_STORE u)) ∧
        RegsBut s t (DSP_STATUS_TAINT_STORE u :: waitFlds u)))

end Sys2Proof

/-- Accumulators, searches and histograms of the datapath. -/
def Obligations.Accumulators : Prop :=
  Clause.Accumulation ∧ Clause.SearchAndHistogram

namespace Sys2Proof

/-- START clears the accumulators that the word's operation writes, or begins a search; TEST writes the flags of the last result, or
leaves Z and N where there is none, which after a HIST is the model's choice (log 160); POP
removes the result that the word read; NOP does nothing, and an illegal field acts as NOP and sets ILLEGAL; a read that has waited
TIMEOUT frames goes on without a result (R137, R138, R140, R152). -/
def Clause.DatapathControl : Prop :=
  ∀ s : State, s.wf = true → ∀ (u : Fin 32) (c : WordSt) (rest : List WStep), rest ≠ [] →
    (Stepping s u c .dspStart rest →
      (dspEff c.word ≠ 0x18 → dspEff c.word ≠ 0x19 → Answers (.dspStart u) s (fun t =>
        (∀ n ∈ accsWritten (dspEff c.word) (dspAcc c.word), t.get (DSP_ACC u n) = 0 ∧ t.get (DSP_ACC_HI_HOLD u n) = 0 ∧
          t.get (DSP_ACC_HI_TAINT u n) = 0) ∧ Stepped t u c rest ∧
        Frame s t ((accsWritten (dspEff c.word) (dspAcc c.word)).flatMap (fun n =>
          [DSP_ACC u n, DSP_ACC_HI_HOLD u n, DSP_ACC_HI_TAINT u n]) ++ waitFlds u))) ∧
      (dspEff c.word = 0x18 ∨ dspEff c.word = 0x19 → Answers (.dspStart u) s (fun t =>
        t.get (SEARCH_BASE u (dspAcc c.word)) = 0 ∧ (t.tile u).seq.newSearch = true ∧ Stepped t u c rest ∧
        Frame s t (SEARCH_BASE u (dspAcc c.word) :: waitFlds u)))) ∧
    (Stepping s u c .dspTest rest → Answers (.dspTest u) s (fun t =>
      (∀ v, (s.tile u).seq.lastVal = some v → t.get (DSP_FLAGS_Z u) = b2n (decide (v = 0)) ∧
        t.get (DSP_FLAGS_N u) = b2n (decide (v < 0))) ∧
      ((s.tile u).seq.lastVal = none → t.get (DSP_FLAGS_Z u) = s.get (DSP_FLAGS_Z u) ∧ t.get (DSP_FLAGS_N u) = s.get (DSP_FLAGS_N u)) ∧
      (∀ i, (s.tile u).seq.lastIdx = some i → t.get (DSP_FLAGS_IDX u) = i % 2 ^ (DSP_FLAGS_IDX u).width) ∧
      Stepped t u c rest ∧ Frame s t ([DSP_FLAGS_Z u, DSP_FLAGS_N u, DSP_FLAGS_IDX u] ++ waitFlds u))) ∧
    (Stepping s u c .dspPop rest → Answers (.dspPop u) s (fun t =>
      (t.tile u).dspIn = (if c.timedOut then (s.tile u).dspIn else (s.tile u).dspIn.tail) ∧ Stepped t u c rest ∧
      Frame s t (waitFlds u))) ∧
    (Stepping s u c .dspOp rest → dspEff c.word = 0 → Answers (.dspNop u) s (fun t => Stepped t u c rest ∧
      (dspLegal c.word = false → t.get (DSP_STATUS_ILLEGAL u) = 1) ∧
      Frame s t ((if dspLegal c.word && !aguIllegal c.word then [] else [DSP_STATUS_ILLEGAL u]) ++ waitFlds u))) ∧
    (∀ f, (s.tile u).seq.cur = some c → c.todo = .dspOp :: rest → c.waitFrom = some f → inWaits s.view u c = true →
      s.get (DSP_IN_CTRL_TIMEOUT u) ≠ 0 → f + s.get (DSP_IN_CTRL_TIMEOUT u) ≤ s.tl.count →
      Answers (.inTimeout u) s (fun t => t.get (DSP_STATUS_IN_TIMEOUT u) = 1 ∧
        (t.tile u).seq.cur = some { c with timedOut := true } ∧ Frame s t [DSP_STATUS_IN_TIMEOUT u]))

/-- The address generators: MOD and STEP move the pointer by M or 16, within the circular buffer B, L where L is not 0; RESET returns it
to B; LDP, LDM, LDB and LDL load from the immediate (R145 to R147). -/
def Clause.AddressGenerators : Prop :=
  ∀ s : State, s.wf = true → ∀ (u : Fin 32) (b : Fin 2) (c : WordSt) (rest : List WStep), rest ≠ [] →
    Stepping s u c (if b.val = 0 then .agu0 else .agu1) rest →
    let g := aguGen (mwAgu c.word b)
    ∀ i op f v, (i, op, f, v) ∈ [
        (Instr.aguMod u b, 1, DSP_AGU_P u g, aguNext s.view u g (sext 18 (s.get (DSP_AGU_M u g)))),
        (Instr.aguStep u b, 2, DSP_AGU_P u g, aguNext s.view u g 16), (Instr.aguReset u b, 3, DSP_AGU_P u g, s.get (DSP_AGU_B u g)),
        (Instr.aguLdp u b, 4, DSP_AGU_P u g, bits (mwImm c.word) 0 17),
        (Instr.aguLdm u b, 5, DSP_AGU_M u g, bits (mwImm c.word) 0 18),
        (Instr.aguLdb u b, 6, DSP_AGU_B u g, bits (mwImm c.word) 0 17),
        (Instr.aguLdl u b, 7, DSP_AGU_L u g, min 131072 (bits (mwImm c.word) 0 18))] →
      aguEff (mwAgu c.word b) = op →
      Answers i s (fun t => t.get f = v % 2 ^ f.width ∧ Stepped t u c rest ∧ t.dev.held = s.dev.held ∧
        Frame s t (f :: waitFlds u))

end Sys2Proof

/-- Control operations and address generators of the datapath. -/
def Obligations.DatapathAddressing : Prop :=
  Clause.DatapathControl ∧ Clause.AddressGenerators

namespace Sys2Proof

/-! ## Acquisition (R238 to R260) -/

/-- A CAPTURE entry of action a for class c is the next to take effect at tile u (R238, R46). -/
abbrev CaptureNext (s : State) (u : Fin 32) (h : HeldEntry) (a c : Nat) : Prop :=
  nextDue s.view u 32 = some (.one h) ∧ h.entry.body % 8 = a ∧ bits h.entry.body 3 5 = c

/-- The record of a tile's acquisition unit is in hand (R246). -/
abbrev capBusy (s : State) (u : Nat) : Prop := s.get (CAP_STATE_STATE u) = RECORDING ∨ s.get (CAP_STATE_STATE u) = REARM

/-- ARM of a valid class outside a fire group arms it at once, with a ring from this frame on, and a running step of the ADC's calibration gives
way where the class takes samples; or it makes the class pending while a record is in hand; of an invalid class it is a FORMAT fault. DISARM of the armed class makes the unit IDLE, or drops the pending class and lets the
record in hand be the last; any other DISARM is counted as STRAY (R239, R247, R453). -/
def Clause.CaptureArming : Prop :=
  ∀ s : State, s.wf = true → ∀ (u : Fin 32) (h : HeldEntry) (c : Nat),
    (CaptureNext s u h 1 c → classValid s.view u c = true → bit (s.get (CAPCLASS_SRC_COND_EN u c)) 13 = false →
      (capBusy s u → Answers (.acqArm u) s (fun t =>
        t.get (CAP_STATE_PVALID u) = 1 ∧ t.get (CAP_STATE_PCLASS u) = c ∧ Taken s t u 32 (.one h) ∧
        (t.tile u).cap = { (s.tile u).cap with disarm := false } ∧
        Frame s t [CLASP_COLLIDE u, CAP_STATE_PVALID u, CAP_STATE_PCLASS u])) ∧
      (¬capBusy s u → Answers (.acqArm u) s (fun t =>
        t.get (CAP_STATE_CLASS u) = c ∧
        t.get (CAP_STATE_STATE u) = (if s.get (CAPCLASS_LEN_PRE u c) = 0 then ARMED else FILLING) ∧
        (t.tile u).cap.ringStart = s.tl.count ∧ (t.tile u).cap.rec_ = none ∧ (t.tile u).cap.dead = 0 ∧
        (t.tile u).cap.disarm = false ∧ Taken s t u 32 (.one h) ∧
        (s.get (CAPCLASS_SRC_FORMAT u c) < 3 → t.get (ADC_CAL_RUNNING u) = 0) ∧
        Frame s t [CLASP_COLLIDE u, CAP_STATE_CLASS u, CAP_STATE_STATE u, RING_USED u, ADC_CAL_RUNNING u]))) ∧
    (CaptureNext s u h 1 c → classValid s.view u c = false → Answers (.acqArm u) s (fun t =>
      Faulted s t u FORMAT ∧ Taken s t u 32 (.one h) ∧ Frame s t (CLASP_COLLIDE u :: faultFlds u))) ∧
    (CaptureNext s u h 3 c →
      (armedClass s.view u c = false → Answers (.acqDisarm u) s (fun t =>
        t.get (CAP_MISC_STRAY u) = min (2 ^ (CAP_MISC_STRAY u).width - 1) (s.get (CAP_MISC_STRAY u) + 1) ∧
        Taken s t u 32 (.one h) ∧ Frame s t [CLASP_COLLIDE u, CAP_MISC_STRAY u])) ∧
      (capBusy s u → armedClass s.view u c = true → Answers (.acqDisarm u) s (fun t =>
        t.get (CAP_STATE_PVALID u) = 0 ∧ (t.tile u).cap = { (s.tile u).cap with disarm := true } ∧
        Taken s t u 32 (.one h) ∧ Frame s t [CLASP_COLLIDE u, CAP_STATE_PVALID u])) ∧
      (¬capBusy s u → armedClass s.view u c = true →
        Answers (.acqDisarm u) s (fun t =>
          t.get (CAP_STATE_STATE u) = IDLE ∧ t.get (CAP_STATE_PVALID u) = 0 ∧ (t.tile u).cap.rec_ = none ∧
          (t.tile u).cap.points = [] ∧ Taken s t u 32 (.one h) ∧
          Frame s t [CLASP_COLLIDE u, CAP_STATE_STATE u, CAP_STATE_PVALID u])))

/-- The point that FIRE names (R243, R244). -/
def firePoint (s : State) (u : Nat) (e : Entry) : TrigPoint :=
  let k := 10 * e.slot / 16
  ⟨e.stamp, k, (125 * e.slot - 200 * k) / 16, u, s.get (CAP_XGROUP_DEVNUM 0)⟩

/-- FIRE of the armed class that enables it is an occurrence at its stamp: a unit that waits keeps it to open a record, one in the
dead time behind an earlier point counts it as lost; any other FIRE is STRAY (R243, R248, R249). -/
def Clause.CaptureFire : Prop :=
  ∀ s : State, s.wf = true → ∀ (u : Fin 32) (h : HeldEntry) (c : Nat), CaptureNext s u h 2 c → h.entry.stamp ≤ s.tl.count →
    (armedClass s.view u c = false → Answers (.acqFire u) s (fun t =>
      t.get (CAP_MISC_STRAY u) = min (2 ^ (CAP_MISC_STRAY u).width - 1) (s.get (CAP_MISC_STRAY u) + 1) ∧
      Taken s t u 32 (.one h) ∧ Frame s t [CLASP_COLLIDE u, CAP_MISC_STRAY u])) ∧
    (armedClass s.view u c = true → bit (s.get (CAPCLASS_SRC_COND_EN u c)) 0 = true →
      bit (s.get (CAPCLASS_SRC_COND_EN u c)) 13 = false →
      (s.get (CAP_STATE_STATE u) = FILLING ∨ s.get (CAP_STATE_STATE u) = ARMED → Answers (.acqFire u) s (fun t =>
        (t.tile u).cap = { (s.tile u).cap with
          points := (s.tile u).cap.points ++ [⟨firePoint s u h.entry, 0, none, false⟩] } ∧
        Taken s t u 32 (.one h) ∧ Frame s t [CLASP_COLLIDE u])) ∧
      (∀ r, 3 ≤ s.get (CAP_STATE_STATE u) → (s.tile u).cap.rec_ = some r → r.point.key < (firePoint s u h.entry).key →
        Answers (.acqFire u) s (fun t => t.get (CAP_LOST u) = (s.get (CAP_LOST u) + 1) % 2 ^ (CAP_LOST u).width ∧
          (t.tile u).cap = { (s.tile u).cap with
            lost := insertCell 0 (s.tile u).cap.lost c (min 0xFFFF (assoc 0 (s.tile u).cap.lost c + 1)) } ∧
          Taken s t u 32 (.one h) ∧ Frame s t [CLASP_COLLIDE u, CAP_LOST u])))

/-- SNAP of a valid class at an IDLE unit with a free slot opens a record of POST frames at its stamp, with source 15 and a new
record number; at a unit that is not IDLE, or without a slot, SNAP_LOST counts it (R252, R254). -/
def Clause.CaptureSnap : Prop :=
  ∀ s : State, s.wf = true → ∀ (u : Fin 32) (h : HeldEntry) (c : Nat), CaptureNext s u h 4 c → h.entry.stamp ≤ s.tl.count →
    (s.get (CAP_STATE_STATE u) = IDLE → classValid s.view u c = true → slotFree s.view u c = true →
      Answers (.acqSnap u) s (fun t =>
        t.get (CAP_STATE_STATE u) = RECORDING ∧ t.get (CAP_STATE_CLASS u) = c ∧
        t.get (CAP_RECORDS u) = (s.get (CAP_RECORDS u) + 1) % 2 ^ 32 ∧
        t.get (CAP_LAST_W_LO u) = h.entry.stamp % 2 ^ 32 ∧ t.get (CAP_W_HI u) = h.entry.stamp / 2 ^ 32 % 2 ^ 32 ∧
        (∃ r, (t.tile u).cap.rec_ = some r ∧ r.source = 15 ∧ r.cls = c ∧ r.preAct = 0 ∧ r.point.w = h.entry.stamp ∧
          r.post = s.get (CAPCLASS_POST_M1 u c) + 1 ∧ r.slot = nextSlot s.view u c) ∧
        Taken s t u 32 (.one h) ∧ Frame s t [CLASP_COLLIDE u, CAP_STATE_STATE u, CAP_STATE_CLASS u, CAP_RECORDS u,
          CAP_LAST_W_LO u, CAP_W_HI u, ADC_CAL_RUNNING u])) ∧
    (s.get (CAP_STATE_STATE u) ≠ IDLE ∨ (classValid s.view u c = true ∧ slotFree s.view u c = false) →
      Answers (.acqSnap u) s (fun t =>
        t.get (CAP_MISC_SNAP_LOST u) = min (2 ^ (CAP_MISC_SNAP_LOST u).width - 1) (s.get (CAP_MISC_SNAP_LOST u) + 1) ∧
        Taken s t u 32 (.one h) ∧ Frame s t [CLASP_COLLIDE u, CAP_MISC_SNAP_LOST u]))

end Sys2Proof

/-- The entries of the capture clasp. -/
def Obligations.CaptureEntries : Prop :=
  Clause.CaptureArming ∧ Clause.CaptureFire ∧ Clause.CaptureSnap

namespace Sys2Proof

/-- At every tile whose POL asks for the direction of an edge at TRIG_IN, the edge is dropped and counted within 4 ns of the last,
and otherwise waits for its point, at its delayed time plus 24 frames; the other tiles do nothing (R244, R245). -/
def Clause.TriggerInputs : Prop :=
  ∀ s : State, s.wf = true → ∀ (i : Fin 8) (fall : Bool) (step : Fin 125), Answers (.trigInEdge i fall step) s (fun t =>
    (∀ u < 32,
      let now := s.dev.ticks * 125 + step
      let recent := (s.tile u).cap.tinLast.any (fun p => decide (p.1 = i.val) && decide (now < p.2 + 500))
      let n := (((s.tl.count * 125 + step : Nat) : Int) - sext 12 (s.get (CAP_TIN_DELAY u i))).toNat
      let hit := decide (s.get (CAP_TIN_POL u i) ≠ 0) = fall
      (hit → recent = true → t.tile u = s.tile u ∧ t.get (CAP_TIN_DROP u i) =
        min (2 ^ (CAP_TIN_DROP u i).width - 1) (s.get (CAP_TIN_DROP u i) + 1)) ∧
      (¬hit → t.tile u = s.tile u) ∧
      (hit → recent = false → (t.tile u).cap = { (s.tile u).cap with
        tinLast := (i.val, now) :: (s.tile u).cap.tinLast.filter (fun p => p.1 ≠ i.val)
        future := (s.tile u).cap.future ++
          [⟨⟨n / 125 + 24, n % 125 * 8 / 100, n % 125 * 8 % 100 / 8, u, s.get (CAP_XGROUP_DEVNUM 0)⟩, 4 + i, none, false⟩] })) ∧
    (∀ u < 32, (decide (s.get (CAP_TIN_POL u i) ≠ 0) ≠ fall ∨ (s.tile u).cap.tinLast.any (fun p => decide (p.1 = i.val) &&
      decide (s.dev.ticks * 125 + step < p.2 + 500)) = false) → t.get (CAP_TIN_DROP u i) = s.get (CAP_TIN_DROP u i)) ∧
    Frame s t ((List.range 32).map (fun u => CAP_TIN_DROP u i)))

/-- Nothing of the present frame is still to be met at tile u's unit: no point has come, and its conditions have been tested. -/
abbrev Met (s : State) (u : Nat) : Prop :=
  (∀ x ∈ (s.tile u).cap.future, s.tl.count < x.point.w) ∧
    ((s.tile u).cap.tested = s.dev.ticks + 1 ∨ ∀ n ∈ [1, 2, 3], condOn s.view u n = false)

/-- A lone occurrence that waits opens a record when its class has a slot that holds what the ring has of it: RECORDING, a new record number,
the point latched, tile source 8 fired, the frames since the point dead, and those of them that the ring has in the record; a fire group's
record opens once the settle time has passed. A record that has more behind it than its slot holds closes at once, with the cause FULL,
and of a point that lies before the ring history the record holds what the ring has, which is the model's choice (log 155, 165). Without
a slot the trigger is lost and the unit waits in NOSLOT (R248, R254, R258). -/
def Clause.RecordsOpen : Prop :=
  ∀ s : State, s.wf = true → ∀ (u : Fin 32) (p : CapPoint),
    (s.get (CAP_STATE_STATE u) = FILLING ∨ s.get (CAP_STATE_STATE u) = ARMED) → (s.tile u).cap.points = [p] →
    (s.tile u).cap.rec_ = none →
    let from_ := max p.point.w (s.tile u).cap.ringStart
    let late := s.tl.count - from_
    let held := min (p.point.w + (s.get (CAPCLASS_POST_M1 u (s.get (CAP_STATE_CLASS u))) + 1)) s.tl.count - from_
    s.get (CAP_DEAD u) + late < 0xFFFFFFFFFFFF → (s.tile u).cap.dead + late < 0xFFFFFFFF → p.gen = none →
    let c := s.get (CAP_STATE_CLASS u)
    ∀ cmd, (bit (s.get (CAPCLASS_SRC_COND_EN u c)) 13 = false ∧ cmd = Instr.recordOpen u ∧ Met s u) ∨
      (bit (s.get (CAPCLASS_SRC_COND_EN u c)) 13 = true ∧ cmd = Instr.groupSettleEnd u ∧
        p.point.w + s.get (CAP_GROUP_SETTLE u) ≤ s.tl.count) →
    (slotFree s.view u c = true → s.get (CAPCLASS_LEN_PRE u c) ≤ p.point.w - (s.tile u).cap.ringStart →
      (if frameSize s.view u c = 0 then (s.tile u).cap.results.length ≤ slotHolds s.view u c
       else s.get (CAPCLASS_LEN_PRE u c) + held ≤ slotHolds s.view u c) →
      Answers cmd s (fun t =>
        t.get (CAP_STATE_STATE u) = RECORDING ∧ t.get (CAP_RECORDS u) = (s.get (CAP_RECORDS u) + 1) % 2 ^ 32 ∧
        t.get (CAP_LAST_W_LO u) = p.point.w % 2 ^ 32 ∧ t.get (CAP_W_HI u) = p.point.w / 2 ^ 32 % 2 ^ 32 ∧
        (∃ r, (t.tile u).cap = { (s.tile u).cap with
            rec_ := some r, points := [], dead := late, lost := insertCell 0 (s.tile u).cap.lost c 0 } ∧
          r.point = p.point ∧ r.cls = c ∧ r.preAct = s.get (CAPCLASS_LEN_PRE u c) ∧ r.short = false ∧
          r.post = s.get (CAPCLASS_POST_M1 u c) + 1 ∧ r.postAct = held ∧ r.first = from_ - r.preAct ∧ r.moved = 0 ∧ r.trunc = 0 ∧ r.dead = (s.tile u).cap.dead ∧
          r.lost = assoc 0 (s.tile u).cap.lost c) ∧
        Fires s t (tileSrc u 8) ∧ t.get (CAP_DEAD u) = s.get (CAP_DEAD u) + late ∧
        Frame s t [CAP_STATE_STATE u, CAP_RECORDS u, CAP_LAST_W_LO u, CAP_W_HI u, CAP_DEAD u])) ∧
    (slotFree s.view u c = true → s.get (CAPCLASS_LEN_PRE u c) ≤ p.point.w - (s.tile u).cap.ringStart →
      frameSize s.view u c ≠ 0 → slotHolds s.view u c < s.get (CAPCLASS_LEN_PRE u c) + held →
      Answers cmd s (fun t =>
        t.get (CAP_STATE_STATE u) = REARM ∧ t.get (CAP_RECORDS u) = (s.get (CAP_RECORDS u) + 1) % 2 ^ 32 ∧
        (∃ r, (t.tile u).cap.rec_ = some r ∧ r.trunc = 2 ∧ r.preAct = s.get (CAPCLASS_LEN_PRE u c) ∧
          r.postAct = slotHolds s.view u c - r.preAct) ∧
        Counted s t (CAP_FLAGCNT_TRUNC u) ∧ Fires s t (tileSrc u 8) ∧
        Frame s t [CAP_STATE_STATE u, CAP_RECORDS u, CAP_LAST_W_LO u, CAP_W_HI u, CAP_DEAD u, CAP_FLAGCNT_TRUNC u])) ∧
    (slotFree s.view u c = false → Answers cmd s (fun t =>
      t.get (CAP_STATE_STATE u) = NOSLOT ∧ t.get (CAP_LOST u) = (s.get (CAP_LOST u) + 1) % 2 ^ (CAP_LOST u).width ∧
      (t.tile u).cap.points = [] ∧ (t.tile u).cap.rec_ = none ∧ t.dev.held = s.dev.held ∧
      t.get (CAP_DEAD u) = s.get (CAP_DEAD u) + late ∧ Frame s t [CAP_STATE_STATE u, CAP_LOST u, CAP_DEAD u]))

/-- A record whose last frame has passed goes to REARM for at least 16 frames. REARM goes on while bytes of the record stand in the ring, or the
writer's buffer of 64 KiB has no room for its header. At its end the header stands in front of what the writer has taken, its descriptor
has been pushed, ACQ_DONE fires, and a class that does not re-arm leaves the unit IDLE (R250, R253, R254, R413). -/
def Clause.RecordsEnd : Prop :=
  ∀ s : State, s.wf = true → ∀ (u : Fin 32) (r : Record), (s.tile u).cap.rec_ = some r →
    (s.get (CAP_STATE_STATE u) = RECORDING → r.point.w + r.post ≤ s.tl.count → Answers (.recordingEnd u) s (fun t =>
      t.get (CAP_STATE_STATE u) = REARM ∧ (t.tile u).cap = { (s.tile u).cap with
        rearmAt := s.dev.ticks + max 16 (s.get (CAPCLASS_LEN_REARM_MIN u r.cls)) - (s.tl.count - (r.point.w + r.post)) } ∧
      Frame s t [CAP_STATE_STATE u])) ∧
    (let q := s.get (CAPCLASS_DEST_QUEUE u r.cls)
      let chan := s.get (CAPCLASS_DEST_CHAN u r.cls)
      let addr := slotAddr s.view u r.cls r.slot
      s.get (CAP_STATE_STATE u) = REARM → (s.tile u).cap.rearmAt ≤ s.dev.ticks → slotFaulted s.view u r.cls = false →
      ((recordRest s.view u r).1 ≠ [] ∨ 65536 < writerFill s.view chan + 64 → Answers (.rearmEnd u) s (fun t => Plain s t [])) ∧
      ((recordRest s.view u r).1 = [] → writerFill s.view chan + 64 ≤ 65536 → addr + 64 ≤ ddrBase chan + ddrCapacity s.view chan →
      RingInside s u q → Coalesces s u q → 128 ≤ q → q < 256 → qFaulted s.view u q = false → qFill s.view u q < qSize s.view u q → r.gen = none →
      s.get (CAP_STATE_PVALID u) = 0 → (s.get (CAPCLASS_SRC_AUTO u r.cls) = 0 ∨ r.source = 15) →
      Answers (.rearmEnd u) s (fun t =>
        t.get (CAP_STATE_STATE u) = IDLE ∧ t.get (QT_SEQ_A u q) = (s.get (QT_SEQ_A u q) + 1) % 2 ^ 32 ∧
        (t.tile u).cap.rec_ = none ∧ Fires s t (tileSrc u 9) ∧
        writerFill t.view chan = writerFill s.view chan + 64 ∧
        (∀ a, t.byteAt a = ((s.view.wrBytes addr (recordHeader s.view u r)).wrBytes
            (qAddr s.view u q ((s.get (QT_SEQ_A u q) + 1) % 2 ^ 32))
            (entryBytes 0x06 0 ((s.get (QT_SEQ_A u q) + 1) % 2 ^ 32)
              (leBytes 8 addr ++ leBytes 4 (64 + r.moved) ++ leBytes 4 r.num ++
                leBytes 1 (recordFlags r) ++ leBytes 1 r.cls ++ leBytes 2 r.slot ++ leBytes 4 r.ntLo))).rd8 a) ∧
        RegsBut s t ([CAP_STATE_STATE u, CAP_STATE_PVALID u, QT_SEQ_A u q] ++ ringFlds s u q) ∧
        (∀ a, t.flashAt a = s.flashAt a) ∧ t.tl = s.tl ∧ t.fuse = s.fuse ∧ t.pending = s.pending)))

end Sys2Proof

/-- A record from its opening to the state behind it. -/
def Obligations.Records : Prop :=
  Clause.RecordsOpen ∧ Clause.RecordsEnd

namespace Sys2Proof

/-- The unit of tile u does not send message m itself (R257). -/
abbrev Hears (s : State) (u : Nat) (m : TrigMsg) : Prop := ¬(m.point.tile = u ∧ m.point.device = s.get (CAP_XGROUP_DEVNUM 0))

/-- The oldest message on the trigger line reaches every unit but the one that sent it: ARM and DISARM of a member wait for their frame; a
FIRE waits for its frame at a unit that waits for a trigger with a class of the group, and is lost at one that is dead without the
record of that point. A token that passes its check, is new and comes over a link of XLINKS is put on the line and passed on over the
others (R256 to R259, R363). -/
def Clause.TriggerGroups : Prop :=
  ∀ s : State, s.wf = true →
    (∀ (m : TrigMsg) (ms : List TrigMsg), s.dev.line = m :: ms → m.kind = 1 →
      (∀ u < 32, Hears s u m → condOn s.view u 13 = true → capIsDead s.view u = true ∧
        (∀ r, (s.tile u).cap.rec_ = some r → m.point.key ≠ r.point.key)) →
      Answers .triggerMessage s (fun t => t.dev.line = ms ∧
        (∀ u < 32, Hears s u m → condOn s.view u 13 = true →
          t.get (CAP_LOST u) = (s.get (CAP_LOST u) + 1) % 2 ^ (CAP_LOST u).width) ∧
        (∀ u < 32, ¬(Hears s u m ∧ condOn s.view u 13 = true) →
          t.tile u = s.tile u ∧ t.get (CAP_LOST u) = s.get (CAP_LOST u)) ∧
        t.dev.held = s.dev.held ∧ Frame s t ((List.range 32).map CAP_LOST))) ∧
    (∀ (m : TrigMsg) (ms : List TrigMsg), s.dev.line = m :: ms →
      (m.kind ≠ 1 ∨ (s.tl.count < m.point.w ∧ ∀ u < 32, condOn s.view u 13 = true → capIsDead s.view u = false)) →
      Answers .triggerMessage s (fun t => t.dev.line = ms ∧
        (∀ u < 32, ¬Hears s u m → t.tile u = s.tile u) ∧
        (∀ u < 32, Hears s u m → (t.tile u).cap =
          if m.kind = 1 then (if condOn s.view u 13 then { (s.tile u).cap with
            future := (s.tile u).cap.future ++ [⟨m.point, 13, none, true⟩] } else (s.tile u).cap)
          else if s.get (CAP_GROUP_MEMBER u) ≠ 0 then { (s.tile u).cap with
            garms := (s.tile u).cap.garms ++ [⟨max m.point.w (s.tl.count + 1), decide (m.kind = 2), m.cls⟩] }
          else (s.tile u).cap) ∧ t.dev.held = s.dev.held ∧ Frame s t [])) ∧
    (∀ (l : Fin 32) (ix : Fin 4) (b : BitVec 64), s.get (CAP_XGROUP_EN 0) ≠ 0 → bit (s.get (CAP_XLINKS 0)) l = true →
      rxUp s.view l ix = true → trigOk b.toNat = true → bits b.toNat 8 2 ≠ 3 →
      let m := tokenMsg s.view (bits b.toNat 8 50)
      (s.dev.tokensSeen.any (fun x => decide (s.dev.ticks ≤ x.2 + 1024) && sameToken x.1 m) = false →
        Answers (.triggerToken l [(ix, b)]) s (fun t => t.dev.line = s.dev.line ++ [m] ∧
          t.get (CAP_XCOUNT_RECEIVED 0) = min (2 ^ (CAP_XCOUNT_RECEIVED 0).width - 1) (s.get (CAP_XCOUNT_RECEIVED 0) + 1) ∧
          (∀ k : Fin 32, k ≠ l → bit (s.get (CAP_XLINKS 0)) k = true → linkLive s.view k = true →
            Copied s t k (trigBlock (trigToken m))) ∧ t.dev.tiles = s.dev.tiles ∧
          Frame s t [CAP_XCOUNT_RECEIVED 0, CAP_XCOUNT_CHECK_ERR 0, LINK_COUNT0_CRC_ERR l])))

end Sys2Proof

/-- Trigger inputs, messages and groups. -/
def Obligations.Triggers : Prop :=
  Clause.TriggerInputs ∧ Clause.TriggerGroups

namespace Sys2Proof

/-! ## Events (R263 to R276) -/

/-- Everything that a register write can name fires as SOFT at generation 0; a source with firings held emits one event for them
all: its STATUS bit is set, MERGED counts those beyond the first, and the event, at the highest generation and with TL and NT of the
first firing, is on its way to every consumer that hears the source. A source that holds none does nothing (R265, R266, R271). -/
def Clause.EventsLeave : Prop :=
  ∀ s : State, s.wf = true → ∀ src : Fin 512,
    Answers (.eventsEvtFire src) s (fun t => Leaves s t [] { s.view.dev with
      held := s.dev.held ++ [⟨src, 0, true, s.tl.count, bits (s.get NT_NOW) 32 32⟩] }) ∧
    (s.dev.held.filter (fun f => f.src = src.val) = [] → Answers (.eventEmit src) s (fun t => Leaves s t [] s.view.dev)) ∧
    (∀ f fs, s.dev.held.filter (fun f => f.src = src.val) = f :: fs → Answers (.eventEmit src) s (fun t =>
      t.get (EVENTS_STATUS (src / 32)) = (s.get (EVENTS_STATUS (src / 32)) ||| 2 ^ (src.val % 32)) % 2 ^ 32 ∧
      t.get EVENTS_ERR_MERGED = satAdd (2 ^ EVENTS_ERR_MERGED.width - 1) (s.get EVENTS_ERR_MERGED) fs.length %
        2 ^ EVENTS_ERR_MERGED.width ∧
      Leaves s t [EVENTS_STATUS (src / 32), EVENTS_ERR_MERGED] { s.view.dev with
        held := s.dev.held.filter (fun x => x.src ≠ src.val)
        flight := s.dev.flight ++ (if consumersOf s.view src = [] then [] else
          [⟨src, fs.foldl (fun g x => max g x.gen) f.gen, f.soft || fs.any (fun x => x.soft), f.tl, f.ntLo,
            consumersOf s.view src⟩])
        out := t.dev.out }))

/-- The first event of a source that is on its way to a consumer, and the events under way once it has passed that one's arbiter. -/
abbrev Arriving (s : State) (c : Consumer) (src : Nat) (m : EventMsg) (rest : List EventMsg) : Prop :=
  let here := fun (m : EventMsg) => decide (m.src = src) && m.to_.contains c
  s.dev.flight.find? here = some m ∧
    rest = (if m.to_.erase c = [] then [] else [{ m with to_ := m.to_.erase c }]) ++ s.dev.flight.eraseP here

/-- At a consumer that hears its source, an event sets the latch of a tile input with its generation, or overruns a latch that is set; it is an
occurrence of a unit that waits for events at that input; the housekeeping start input acts on it in its event mode, and latches one event
more while it is busy; the notification logic of its source pushes an entry for it; one that fails its parity check does nothing but
count and log. Where the consumer does not hear the source, the event passes it by. Of two that reach an input in one cycle, the one of the
lower source passes first, whichever the command names (R265, R267, R269, R270, R274, R275, R426). -/
def Clause.EventsArrive : Prop :=
  ∀ s : State, s.wf = true → ∀ (src : Fin 512) (m : EventMsg) (rest : List EventMsg),
    (∀ (x : Sink) (ok : Bool), Arriving s (sinkConsumer x) src m rest → hears s.view src (sinkConsumer x) = false →
      Answers (.eventArrival x src ok []) s (fun t => Leaves s t [] { s.view.dev with flight := rest })) ∧
    (∀ (u : Fin 32) (i : Fin 16), Arriving s (.input u i) src m rest → hears s.view src (.input u i) = true →
      condOn s.view u 12 = true → s.get (CAPCLASS_COND_EVIN u (s.get (CAP_STATE_CLASS u))) = i → capReady s.view u = true →
      condOn s.view u 13 = false →
      Answers (.eventArrival (.input u i) src true []) s (fun t =>
        (t.tile u).cap = { (s.tile u).cap with
          points := (s.tile u).cap.points ++ [⟨⟨s.tl.count, 0, 0, u, s.get (CAP_XGROUP_DEVNUM 0)⟩, 12, some m.gen, false⟩] } ∧
        t.get (EVPORT_PEND_GEN_SET u (i / 8) (i % 8)) = 1 ∧ t.dev.flight = rest)) ∧
    (∀ (u : Fin 32) (i : Fin 16), Arriving s (.input u i) src m rest → hears s.view src (.input u i) = true →
      condOn s.view u 12 = false →
      (s.get (EVPORT_PEND_GEN_SET u (i / 8) (i % 8)) = 0 → Answers (.eventArrival (.input u i) src true []) s (fun t =>
        t.get (EVPORT_PEND_GEN_SET u (i / 8) (i % 8)) = 1 ∧
        t.get (EVPORT_PEND_GEN_GEN u (i / 8) (i % 8)) = m.gen % 2 ^ (EVPORT_PEND_GEN_GEN u (i / 8) (i % 8)).width ∧
        Leaves s t [EVPORT_PEND_GEN_SET u (i / 8) (i % 8), EVPORT_PEND_GEN_GEN u (i / 8) (i % 8)]
          { s.view.dev with flight := rest })) ∧
      (s.get (EVPORT_PEND_GEN_SET u (i / 8) (i % 8)) ≠ 0 → Answers (.eventArrival (.input u i) src true []) s (fun t =>
        let cnt := if i.val % 2 = 0 then EVPORT_OVRCNT_LO u (i / 2) else EVPORT_OVRCNT_HI u (i / 2)
        t.get cnt = satAdd (2 ^ cnt.width - 1) (s.get cnt) 1 % 2 ^ cnt.width ∧ bit (t.get (EVPORT_OVR u)) i = true ∧
        Leaves s t [cnt, EVPORT_OVR u] { s.view.dev with
          flight := rest
          held := s.dev.held ++ (if bit (s.get (EVPORT_OVR u)) i then [] else [s.firing (tileSrc u 11)]) }))) ∧
    (Arriving s .hkStart src m rest → hears s.view src .hkStart = true →
      (s.dev.hk.busyInput = false → hkMode s.view = 2 →
        Answers (.eventArrival .hkStart src true []) s (fun t => Leaves s t [] { s.view.dev with
          flight := rest, hk := { s.dev.hk with acted := some m.gen, busyInput := true } })) ∧
      (s.dev.hk.busyInput = true → s.dev.hk.latched = none →
        Answers (.eventArrival .hkStart src true []) s (fun t => Leaves s t [] { s.view.dev with
          flight := rest, hk := { s.dev.hk with latched := some m.gen } })) ∧
      (s.dev.hk.busyInput = true → s.dev.hk.latched ≠ none →
        Answers (.eventArrival .hkStart src true []) s (fun t => Leaves s t [] { s.view.dev with
          flight := rest, hk := { s.dev.hk with overrun := true, overruns := s.dev.hk.overruns + 1 } }))) ∧
    (Arriving s .note src m rest → hears s.view src .note = true → (noteOf s.view src).waiting = none → m.src = src →
      let q := noteQueue s.view src
      (qOutHost s.view q.1 q.2 = true → qFaulted s.view q.1 q.2 = false → qFill s.view q.1 q.2 < qSize s.view q.1 q.2 →
        RingInside s q.1 q.2 → Coalesces s q.1 q.2 → Answers (.eventArrival .note src true []) s (fun t =>
          let seq := (s.get (QT_SEQ_A q.1 q.2) + 1) % 2 ^ 32
          t.get (QT_SEQ_A q.1 q.2) = seq ∧
          (∀ a, t.byteAt a = (s.view.wrBytes (qAddr s.view q.1 q.2 seq)
            (entryBytes 0x05 0 seq (notePayload m (noteOf s.view src).missed))).rd8 a) ∧
          RegsBut s t (QT_SEQ_A q.1 q.2 :: ringFlds s q.1 q.2) ∧
          t.dev = { s.view.dev with flight := rest, notes := t.dev.notes, ddr := t.dev.ddr })) ∧
      (qOutHost s.view q.1 q.2 = false → Answers (.eventArrival .note src true []) s (fun t =>
        t.get EVENTS_NOTE_LOST = satAdd (2 ^ EVENTS_NOTE_LOST.width - 1) (s.get EVENTS_NOTE_LOST) 1 %
          2 ^ EVENTS_NOTE_LOST.width ∧
        Leaves s t [EVENTS_NOTE_LOST] { s.view.dev with flight := rest, notes := t.dev.notes }))) ∧
    (Arriving s .note src m rest → hears s.view src .note = true → Answers (.eventArrival .note src false []) s (fun t =>
      t.get EVENTS_ERR_PARITY = satAdd (2 ^ EVENTS_ERR_PARITY.width - 1) (s.get EVENTS_ERR_PARITY) 1 %
        2 ^ EVENTS_ERR_PARITY.width ∧ Logged s t 4 3 63 0 ∧
      Leaves s t (EVENTS_ERR_PARITY :: logFlds (s.get DEV_ERRLOG_HEAD)) { s.view.dev with
        flight := rest, held := s.dev.held ++ [s.firing 487] })) ∧
    (∀ (u : Fin 32) (i : Fin 16) (src2 : Fin 512) (m2 : EventMsg) (rest2 : List EventMsg), Arriving s (.input u i) src m rest →
      Arriving s (.input u i) src2 m2 rest2 → src < src2 → hears s.view src (.input u i) = true →
      hears s.view src2 (.input u i) = true → condOn s.view u 12 = false → s.get (EVPORT_PEND_GEN_SET u (i / 8) (i % 8)) = 0 →
      ∀ cmd ∈ [Instr.eventArrival (.input u i) src true [(src2, true)], Instr.eventArrival (.input u i) src2 true [(src, true)]],
        Answers cmd s (fun t =>
          let cnt := if i.val % 2 = 0 then EVPORT_OVRCNT_LO u (i / 2) else EVPORT_OVRCNT_HI u (i / 2)
          t.get (EVPORT_PEND_GEN_SET u (i / 8) (i % 8)) = 1 ∧
          t.get (EVPORT_PEND_GEN_GEN u (i / 8) (i % 8)) = m.gen % 2 ^ (EVPORT_PEND_GEN_GEN u (i / 8) (i % 8)).width ∧
          t.get cnt = satAdd (2 ^ cnt.width - 1) (s.get cnt) 1 % 2 ^ cnt.width ∧ bit (t.get (EVPORT_OVR u)) i = true ∧
          Frame s t [EVPORT_PEND_GEN_SET u (i / 8) (i % 8), EVPORT_PEND_GEN_GEN u (i / 8) (i % 8), cnt, EVPORT_OVR u]))

end Sys2Proof

/-- Events from their sources to their consumers. -/
def Obligations.Events : Prop :=
  Clause.EventsLeave ∧ Clause.EventsArrive

namespace Sys2Proof

/-! ## Queues and the Genond transport (R277 to R306) -/

/-- A write of 1 to BUMP raises EPOCH, skipping 0, and clears the owner; a claim raises it too and makes its sender the owner, takes the
transmit point of every enabled outbound host queue back to its oldest entry, and fires source 486 (R299, R300). -/
def Clause.Sessions : Prop :=
  ∀ s : State, s.wf = true →
    let next := if (s.get TRANSPORT_SESSION_EPOCH + 1) % 2 ^ 16 = 0 then 1 else (s.get TRANSPORT_SESSION_EPOCH + 1) % 2 ^ 16
    let owner := [TRANSPORT_SESSION_EPOCH, TRANSPORT_SESSION_OWNER_VALID, TRANSPORT_SESSION_OWNER_V6,
      TRANSPORT_SESSION_OWNER_PORT, TRANSPORT_OWNER_UDP] ++ (List.range 4).map TRANSPORT_OWNER_IP
    Answers .sessionBump s (fun t => t.get TRANSPORT_SESSION_EPOCH = next ∧ (∀ f ∈ owner.tail, t.get f = 0) ∧
      Plain s t owner) ∧
    (∀ (p : Fin 32) (v6 : Bool) (addr reached : BitVec 128) (udp : BitVec 16),
      Answers (.claim p v6 addr reached udp) s (fun t =>
        t.get TRANSPORT_SESSION_EPOCH = next ∧ t.get TRANSPORT_SESSION_OWNER_VALID = 1 ∧
        t.get TRANSPORT_SESSION_OWNER_V6 = b2n v6 ∧ t.get TRANSPORT_SESSION_OWNER_PORT = p ∧
        t.get TRANSPORT_OWNER_UDP = udp.toNat ∧ t.get OWNER_REACHED = reached.toNat ∧
        (∀ n < 4, t.get (TRANSPORT_OWNER_IP n) = bits (if v6 then addr.toNat else addr.toNat % 2 ^ 32) (32 * n) 32) ∧
        (∀ u < 32, ∀ i, 128 ≤ i → i < 256 → qEnabled s.view u i = true →
          t.get (QSENT u i) = s.get (QTAIL u i) % 2 ^ 32) ∧
        Fires s t 486 ∧
        Frame s t (owner ++ [OWNER_REACHED, CR_LAST, COMP_STATUS_CBUSY] ++ (List.range 32).map ETH_TX_FRAMES ++
          (List.range 32).flatMap (fun u => (List.range 512).flatMap (fun i => [QSENT u i, QREPORTED u i])))))

/-- A datagram that reaches the device's address and port over an Ethernet port that is up. -/
abbrev Reaches (s : State) (p : Fin 32) (pkt : List Byte) (v : Udp) : Prop :=
  portUp s.view p = true ∧ ipParse (if s.get TRANSPORT_CFG_JUMBO ≠ 0 then 9000 else 1500) pkt = some v ∧
    ownAddress s.view v.v6 v.dst = true ∧ v.dport = s.get TRANSPORT_CFG_UDP_PORT

/-- A datagram of the session's owner with the session's EPOCH whose header holds and whose source is allowed. -/
abbrev OfOwner (s : State) (v : Udp) : Prop :=
  allowed s.view v.v6 v.src = true ∧ genondOk v.body = true ∧ bit (ofBe (slice v.body 1 1)) 0 = false ∧
    ofBe (slice v.body 2 2) = s.get TRANSPORT_SESSION_EPOCH ∧ s.get TRANSPORT_SESSION_EPOCH ≠ 0 ∧
    s.get TRANSPORT_SESSION_OWNER_VALID ≠ 0 ∧ decide (s.get TRANSPORT_SESSION_OWNER_V6 ≠ 0) = v.v6 ∧ ownerIp s.view = v.src ∧
    s.get TRANSPORT_OWNER_UDP = v.sport

/-- The checks of an arriving datagram in their order: a source off the allow-list, a header that fails, an EPOCH or an owner that
does not match, and a queue or a length that does not fit are each counted and change nothing else (R298). -/
def Clause.DatagramChecks : Prop :=
  ∀ s : State, s.wf = true → ∀ (p : Fin 32) (pkt : List Byte) (v : Udp), Reaches s p pkt v →
    let dropped := fun (f : Fld) => Answers (.datagramReceive p pkt) s (fun t =>
      t.get f = satAdd (2 ^ f.width - 1) (s.get f) 1 % 2 ^ f.width ∧ Plain s t [f])
    let q := ofBe (slice v.body 4 2)
    let count := ofBe (slice v.body 6 1)
    (allowed s.view v.v6 v.src = false → dropped TRANSPORT_COUNT0_ALLOW_DROP) ∧
    (allowed s.view v.v6 v.src = true → genondOk v.body = false → dropped TRANSPORT_COUNT1_CRC_DROP) ∧
    (allowed s.view v.v6 v.src = true → genondOk v.body = true → bit (ofBe (slice v.body 1 1)) 0 = false → ¬OfOwner s v →
      dropped TRANSPORT_COUNT0_EPOCH_DROP) ∧
    (OfOwner s v → bit (ofBe (slice v.body 1 1)) 3 = false →
      (128 ≤ q % 512 ∨ qEnabled s.view (q / 512) (q % 512) = false ∨ v.body.length ≠ 24 + 32 * count) →
      dropped TRANSPORT_COUNT1_FORMAT_DROP)

end Sys2Proof

/-- Sessions, claims, and the checks of a datagram. -/
def Obligations.SessionsAndChecks : Prop :=
  Clause.Sessions ∧ Clause.DatagramChecks

namespace Sys2Proof

/-- A data datagram of the owner puts the entry that its queue expects next into the ring; a credit return moves OLDEST on and
nothing else (R287, R289, R298). -/
def Clause.DatagramEntries : Prop :=
  ∀ s : State, s.wf = true → ∀ (p : Fin 32) (pkt : List Byte) (v : Udp), Reaches s p pkt v → OfOwner s v →
    let q := ofBe (slice v.body 4 2)
    let u := q / 512
    let i := q % 512
    let cr := ofBe (slice v.body 12 2)
    bit (ofBe (slice v.body 1 1)) 3 = false → i < 128 → qEnabled s.view u i = true →
    (s.dev.loader.boot ≠ .open_ ∨ imageQueue s.view = none) →
    (∀ e, v.body.drop 24 = e → e.length = 32 → ofBe (slice v.body 6 1) = 1 → bit cr 15 = false →
      entryOk e = true → entrySeq e = s.get (QT_SEQ_A u i) → qFill s.view u i < qSize s.view u i → qFaulted s.view u i = false →
      RingInside s u i →
      Answers (.datagramReceive p pkt) s (fun t =>
        t.get (QT_SEQ_A u i) = (s.get (QT_SEQ_A u i) + 1) % 2 ^ 32 ∧ t.get (QGAPPED u i) = 0 ∧
        (∀ a, t.byteAt a = (s.view.wrBytes (qAddr s.view u i (s.get (QT_SEQ_A u i))) e).rd8 a) ∧
        RegsBut s t ([QT_SEQ_A u i, QGAPPED u i] ++ ringFlds s u i) ∧ (∀ a, t.flashAt a = s.flashAt a) ∧ t.tl = s.tl ∧
        t.dev = { s.view.dev with ddr := t.dev.ddr })) ∧
    (let c := cr % 2 ^ 14
      let oldest := s.get (QTAIL (c / 512) (c % 512))
      let back := ofBe (slice v.body 16 4)
      v.body.length = 24 → ofBe (slice v.body 6 1) = 0 → bit cr 15 = true → qOutHost s.view (c / 512) (c % 512) = true →
      s.dev.notes = [] → seqBefore oldest back = true → seqDiff back oldest ≤ qFill s.view (c / 512) (c % 512) →
      Answers (.datagramReceive p pkt) s (fun t => t.get (QTAIL (c / 512) (c % 512)) = back ∧
        t.get (QSENT (c / 512) (c % 512)) = (if seqBefore (s.get (QSENT (c / 512) (c % 512))) back then back
          else s.get (QSENT (c / 512) (c % 512))) ∧
        Plain s t [QTAIL (c / 512) (c % 512), QSENT (c / 512) (c % 512)]))

/-- A frame of the given bytes has left on port p, with its blocks behind a scrambler in some state, and nothing else has been given out (R338;
the blocks of a frame are those of IEEE 802.3, log 167). -/
def Framed (t : State) (p : Nat) (o : Out) (bytes : List Byte) : Prop :=
  ∃ x < 2 ^ 58, t.dev.out = [o, .blocks p (scrambleAll p (frameBlocks bytes) x)]

/-- One datagram with a body has left on a port for the session's owner, as an Ethernet frame with the port's header and an IP packet from
the device's address to the owner's; the destination's MAC address and the fields of the IP header that no rule states are free
(R292 to R294, R371, log 67). -/
def Sent (s t : State) (p : Nat) (body : List Byte) : Prop :=
  let v6 := decide (s.get TRANSPORT_SESSION_OWNER_V6 ≠ 0)
  let own := if v6 then ip6Of s.view else s.get TRANSPORT_IP4
  let src := if own = 0 then s.get OWNER_REACHED else own
  ∃ (w : Work s) (mac : Nat) (bytes : List Byte), Framed t p (.datagram p bytes) bytes ∧
    bytes = ethHeader s.view p mac (if v6 then 0x86DD else 0x0800) ++
      (ipPacket w v6 src (ownerIp s.view) (udpBytes v6 src (ownerIp s.view) (s.get TRANSPORT_CFG_UDP_PORT)
        (s.get TRANSPORT_OWNER_UDP) body)).1

/-- The queue whose credit a datagram returns and its CONS (R297). -/
def creditOf (s : State) : Option (Nat × Nat) :=
  (creditNext s.view).map (fun x => (x, s.get (QTAIL (x / 512) (x % 512))))

/-- The two halves of a global queue number. -/
def qOf (f : Nat → Nat → Fld) (q : Fin 16384) : Fld := f (q.val / 512) (q.val % 512)

end Sys2Proof

/-- While Storm is not latched: COALESCE sends the next entries of an outbound queue that does not stream in one datagram, or reports the
CONS of an inbound queue in a STATUS datagram; RETX and REPLAY send what the queue has sent once more, where one datagram holds it, and
only take the transmit point back where the ring's channel has faulted; where nothing that was sent lies behind that number, nothing is sent
again; RETX lets an inbound queue report its next gap. With COALESCE at 0 an entry that is pushed to a queue with nothing unsent leaves at
once (R294 to R297, R410). -/
def Obligations.QueueTimers : Prop :=
  ∀ s : State, s.wf = true → s.get THERM_STORM_TRIPPED = 0 → ∀ q : Fin 16384,
    let out := qOutHost s.view (q / 512) (q % 512) = true
    let es := batch s.view q (entriesMax s.view) (s.get (qOf QSENT q))
    let credited := ((creditNext s.view).map (fun x => QREPORTED (x / 512) (x % 512))).toList
    let traffic := ringFlds s (q / 512) (q % 512)
    (∀ p, out → s.get TRANSPORT_SESSION_OWNER_VALID ≠ 0 → txPort s.view (q / 512) = some p → es ≠ [] →
      s.get (qOf QT_CFG_STREAM q) = 0 → Answers (.coalesceTimeout q) s (fun t =>
        t.get (qOf QSENT q) = (s.get (qOf QSENT q) + es.length) % 2 ^ 32 ∧
        Sent s t p (genondHeader 0 (s.get TRANSPORT_SESSION_EPOCH) q es.length (s.get (qOf QSENT q)) (creditOf s) ++
          es.flatten) ∧
        (∀ x, creditNext s.view = some x →
          t.get (QREPORTED (x / 512) (x % 512)) = s.get (QTAIL (x / 512) (x % 512)) % 2 ^ 32) ∧
        Counted s t (ETH_TX_FRAMES p) ∧ Frame s t ([qOf QSENT q, CR_LAST, ETH_TX_FRAMES p] ++ credited ++ traffic))) ∧
    (∀ p, q.val % 512 < 128 → creditDue s.view q = true → s.get TRANSPORT_SESSION_OWNER_VALID ≠ 0 →
      txPort s.view (q / 512) = some p → Answers (.coalesceTimeout q) s (fun t =>
        t.get (qOf QREPORTED q) = s.get (qOf QTAIL q) % 2 ^ 32 ∧
        Sent s t p (genondHeader 2 (s.get TRANSPORT_SESSION_EPOCH) q 0 (s.get (qOf QT_SEQ_A q))
          (some (q.val, s.get (qOf QTAIL q)))) ∧
        Counted s t (ETH_TX_FRAMES p) ∧ Frame s t [qOf QREPORTED q, ETH_TX_FRAMES p])) ∧
    (q.val % 512 < 128 → Answers (.retxTimeout q) s (fun t => t.get (qOf QGAPPED q) = 0 ∧ Plain s t [qOf QGAPPED q])) ∧
    (∀ (first : BitVec 32) (cmd : Instr) (from_ : Nat) (counter : List Fld) (p : Nat), out →
      s.get TRANSPORT_SESSION_OWNER_VALID ≠ 0 → txPort s.view (q / 512) = some p →
      ((cmd = .retxTimeout q ∧ from_ = s.get (qOf QTAIL q) ∧ from_ ≠ s.get (qOf QSENT q) ∧ counter = [TRANSPORT_COUNT2_RETX]) ∨
        (cmd = .replay q first ∧ seqBefore (outEnd s.view q) first.toNat = false ∧ counter = [] ∧
          from_ = (if seqBefore (s.get (qOf QTAIL q)) first.toNat then first.toNat else s.get (qOf QTAIL q)))) →
      let again := batch s.view q (entriesMax s.view) from_
      (again ≠ [] → (from_ + again.length) % 2 ^ 32 = s.get (qOf QSENT q) → s.get (qOf QT_CFG_STREAM q) = 0 →
        qFill s.view (q / 512) (q % 512) ≠ 0 → Answers cmd s (fun t => t.get (qOf QSENT q) = s.get (qOf QSENT q) ∧
          (∀ f ∈ counter, Counted s t f) ∧
          Sent s t p (genondHeader 0 (s.get TRANSPORT_SESSION_EPOCH) q again.length from_ (creditOf s) ++ again.flatten) ∧
          Frame s t ([qOf QSENT q, CR_LAST, ETH_TX_FRAMES p, COMP_STATUS_CBUSY] ++ counter ++ credited ++ traffic))) ∧
      (seqBefore from_ (s.get (qOf QSENT q)) = false → Answers cmd s (fun t => (∀ f ∈ counter, Counted s t f) ∧ Plain s t counter ∧
        t.dev.out = [])) ∧
      (qFaulted s.view (q / 512) (q % 512) = true → seqBefore from_ (s.get (qOf QSENT q)) = true → Answers cmd s (fun t =>
        t.get (qOf QSENT q) = from_ % 2 ^ 32 ∧ (∀ f ∈ counter, Counted s t f) ∧ t.dev.out = [] ∧ Frame s t ([qOf QSENT q, COMP_STATUS_CBUSY] ++ counter)))) ∧
    (∀ (p : Nat) (c : WordSt) (rest : List WStep), rest ≠ [] → Stepping s (q / 512) c .que rest → mwQueOp c.word = 1 →
      mwQueue c.word = q.val % 512 → out → s.get (qOf QT_CFG_PLACE q) = 0 → s.get (qOf QT_CFG_STREAM q) = 0 →
      qFill s.view (q / 512) (q % 512) < qSize s.view (q / 512) (q % 512) → s.get TRANSPORT_SESSION_OWNER_VALID ≠ 0 →
      txPort s.view (q / 512) = some p → s.get TRANSPORT_TIMING_COALESCE = 0 → s.get (qOf QSENT q) = outEnd s.view q →
      let n := outEnd s.view q
      Answers (.quePush ⟨q.val / 512, by omega⟩) s (fun t => t.get (qOf QT_SEQ_A q) = n ∧ t.get (qOf QSENT q) = (n + 1) % 2 ^ 32 ∧
        Sent s t p (genondHeader 0 (s.get TRANSPORT_SESSION_EPOCH) q 1 n (creditOf s) ++
          entryBytes 2 0 n (s.view.rdBytes (quePtr s.view (q / 512) (mwQueArg c.word % 4)) 24))))

namespace Sys2Proof

/-- Inbound host queue i of a tile holds entry e at its head, whose check holds, in a ring that answers (R284, R289, R410). -/
abbrev HeadEntry (s : State) (u i : Nat) (e : List Byte) : Prop :=
  i < 128 ∧ qEnabled s.view u i = true ∧ s.get (QTAIL u i) ≠ s.get (QT_SEQ_A u i) ∧ (s.tile u).gaps = [] ∧
    0 < qFill s.view u i ∧ qFaulted s.view u i = false ∧ s.view.rdBytes (qAddr s.view u i (s.get (QTAIL u i))) 32 = e ∧ entryOk e = true

/-- The state that the work of a command comes to. -/
def CarriedOut (s : State) (w : Work s) (t : State) : Prop :=
  (∀ f, t.get f = w.get f) ∧ (∀ a, t.byteAt a = w.rd8 a) ∧ (∀ a, t.flashAt a = w.fl8 a) ∧ t.dev = w.dev ∧
    t.tl = s.tl.apply w.tlc ∧ t.fuse = s.fuse ∧ t.pending = s.pending

end Sys2Proof

/-- While its response queue has credit, the register executor takes the entry at the head of its queue, performs its accesses in order when
it is well formed, and pushes one REG_RESP with STATUS and the words read, or none for a posted write. A read of one word of tile memory
answers that word; a write of one stores it, little-endian, and answers OK; a read-modify-write stores (old AND NOT MASK) OR (VALUE AND
MASK) and answers the old word (R6, R284, R301, R302). -/
def Obligations.RegisterEntries : Prop :=
  ∀ s : State, s.wf = true → ∀ (u : Fin 32) (i : Fin 128) (e : List Byte), HeadEntry s u i e →
    s.get (QT_CFG_CONSUMER u i) = CONSUMER_REG → respCredit s.view u i = true →
    let w := (ringRead s.view u i (s.get (QTAIL u i))).set (QTAIL u i) (s.get (QTAIL u i) + 1)
    let p := entryPayload e
    let q := s.get (QT_CFG_RESP u i)
    let answer := fun (r : Nat × List Nat × Work s) => qPush r.2.2 u q 0x13 (respPayload (reqAddr p) (reqN p) r.1 r.2.1)
    (∀ bad, entryType e = 0x10 →
      let r := runReads (reqAddr p) bad (reqN p) 0 w
      ∀ w', answer (if reqOk p 8 then (r.1.code, r.2.1, r.2.2) else (2, [], w)) = some w' →
        Answers (.regRd u i bad) s (CarriedOut s w')) ∧
    (∀ bad, entryType e = 0x11 →
      let r := runWrites (reqAddr p) p bad (reqN p) 0 w
      (bit (entryFlags e) 0 = true → Answers (.regWr u i bad) s (CarriedOut s (if reqOk p 24 then r.2 else w))) ∧
      (bit (entryFlags e) 0 = false →
        ∀ w', answer (if reqOk p 24 then (r.1.code, [], r.2) else (2, [], w)) = some w' →
          Answers (.regWr u i bad) s (CarriedOut s w'))) ∧
    (∀ readOk writeOk, entryType e = 0x12 →
      let r := runRmw w (reqAddr p) (reqWord p 0) (reqWord p 1) readOk writeOk
      let fits := reqOk p (if reqN p = 1 then 16 else 5)
      (bit (entryFlags e) 0 = true → Answers (.regRmw u i readOk writeOk) s (CarriedOut s (if fits then r.2.2 else w))) ∧
      (bit (entryFlags e) 0 = false →
        ∀ w', answer (if fits then (r.1.code, [r.2.1], r.2.2) else (2, [], w)) = some w' →
          Answers (.regRmw u i readOk writeOk) s (CarriedOut s w'))) ∧
    (reqN p = 1 → placeOf (reqAddr p) = .mem → 128 ≤ q → q < 256 → qFaulted s.view u q = false →
      qFill s.view u q < qSize s.view u q → RingInside s u q → Coalesces s u q →
      let seq := (s.get (QT_SEQ_A u q) + 1) % 2 ^ 32
      let old := s.view.rdLe (reqAddr p) 4
      let mask := reqWord p 0
      let store := fun (v : Nat) => s.view.wrBytes (reqAddr p) (leBytes 4 v)
      let holds := fun (t : State) (m : Work s) (fs : List Fld) => (∀ a, t.byteAt a = m.rd8 a) ∧
        t.get (QTAIL u i) = (s.get (QTAIL u i) + 1) % 2 ^ 32 ∧
        RegsBut s t ([QTAIL u i] ++ fs ++ ringFlds s u i) ∧ t.dev = { s.view.dev with ddr := t.dev.ddr }
      let answers := fun (cmd : Instr) (m : Work s) (words : List Nat) => Answers cmd s (fun t => t.get (QT_SEQ_A u q) = seq ∧
        holds t (m.wrBytes (qAddr s.view u q seq) (entryBytes 0x13 0 seq (respPayload (reqAddr p) 1 0 words)))
          (QT_SEQ_A u q :: ringFlds s u q))
      (entryType e = 0x10 → reqOk p 8 = true → answers (.regRd u i []) s.view [old]) ∧
      (entryType e = 0x11 → reqOk p 24 = true → bit (entryFlags e) 0 = false →
        answers (.regWr u i []) (store (reqWord p 0)) []) ∧
      (entryType e = 0x11 → reqOk p 24 = true → bit (entryFlags e) 0 = true →
        Answers (.regWr u i []) s (fun t => holds t (store (reqWord p 0)) [])) ∧
      (entryType e = 0x12 → reqOk p 16 = true → bit (entryFlags e) 0 = false → ∀ readOk writeOk,
        answers (.regRmw u i readOk writeOk) (store ((old &&& (0xFFFFFFFF ^^^ mask)) ||| (reqWord p 1 &&& mask))) [old]))

namespace Sys2Proof

/-- A clasp entry at the head of an inbound host queue whose consumer is the clasps moves into the stage queues of its tile when its clasp
has room; one that names no clasp is a FORMAT fault and is gone. The queue has no chain open and no PLAY that waits for a page buffer
(R49, R55, R72, R290). -/
def Clause.ClaspFeeds : Prop :=
  ∀ s : State, s.wf = true → ∀ (u : Fin 32) (i : Fin 128) (b : List Byte), HeadEntry s u i b → entryType b = 1 →
    s.get (QT_CFG_CONSUMER u i) = 1 → s.get (SEQ_STATE_STATE u) ≠ NOT_RELEASED →
    Unchained s u (.queue i) → pageWaits s.view u (.queue i) = false →
    let e := entryOfNat (ofLe (entryPayload b))
    (e.clasp ≤ 32 → claspCredit s.view u e.clasp ≠ 0 →
      Answers (.claspFeedMove u ⟨i.val, by omega⟩) s (fun t =>
        t.get (QTAIL u i) = (s.get (QTAIL u i) + 1) % 2 ^ 32 ∧
        t.tile u = { s.tile u with
          stage := (issuedStage (.queue i) (s.get (CLASP_ABORT_CTRL_GEN u)) ((s.tile u).stage, lastClasp (s.tile u) (.queue i)) e).1
          issued := (.queue i, e.clasp) :: (s.tile u).issued.filter (fun x => decide (x.1 ≠ .queue i)) } ∧
        (∀ v < 32, v ≠ u.val → t.tile v = s.tile v) ∧ t.dev.held = s.dev.held ∧ Frame s t (QTAIL u i :: ringFlds s u i))) ∧
    (32 < e.clasp → Answers (.claspFeedMove u ⟨i.val, by omega⟩) s (fun t =>
      t.get (QTAIL u i) = (s.get (QTAIL u i) + 1) % 2 ^ 32 ∧ Faulted s t u FORMAT ∧
      (t.tile u).stage = leftStage (.queue i) e.clasp ((s.tile u).stage, lastClasp (s.tile u) (.queue i)) ∧
      Frame s t (QTAIL u i :: faultFlds u ++ ringFlds s u i)))

end Sys2Proof

/-- Entries from the host, into a queue and on to a clasp. -/
def Obligations.Inbound : Prop :=
  Clause.DatagramEntries ∧ Clause.ClaspFeeds

namespace Sys2Proof

/-! ## Serial lanes (R333 to R356) -/

/-- The firing of an EVT flag of lane n that rises, when it is enabled (R355). -/
def evtFires (s : State) (n : Nat) (flag enable : Fld) : List Firing :=
  if s.get flag = 0 ∧ s.get enable ≠ 0 then [s.firing (448 + n)] else []

/-- A flag of lane n is set, and the lane's source has fired for it if it rose (R355). -/
def Flagged (s t : State) (n : Nat) (flag enable : Fld) : Prop :=
  t.get flag ≠ 0 ∧ t.dev.held = s.dev.held ++ evtFires s n flag enable

/-- The registers of the equaliser of lane n. -/
def equaliserFlds (n : Nat) : List Fld := LANE_ADAPT_CTLE n :: (List.range 8).map (fun i => LANE_DFE_TAP n (i / 4) (i % 4))

/-- The equaliser of lane n holds values (R345). -/
def EqualiserAt (t : State) (n ctle taps : Nat) : Prop :=
  t.get (LANE_ADAPT_CTLE n) = ctle ∧ ∀ i < 8, t.get (LANE_DFE_TAP n (i / 4) (i % 4)) = bits taps (8 * i) 8

/-- The registers that a lane loses or sets when its bring-up starts again (R340). -/
def bringUpFlds (n : Nat) : List Fld :=
  equaliserFlds n ++ [LANE_SCAN_CFG_BUSY n, LANE_SCAN_CFG_DONE n, LANE_SCAN_CFG_ABORTED n, LANE_SCAN_BITS n, LANE_SCAN_ERR n,
    LANE_EVT_SCAN_DONE n, LANE_CHECK_OK n, LANE_STATUS_READAPTING n, LANE_STATUS_BLOCK_LOCK n, LANE_STATUS_FROZEN n,
    LANE_STATUS_LULL_RX n, LANE_RELOCK n, LANE_PRBS_LOCKED n, LANE_SIG n, LANE_FLIPS n, LANE_STATUS_POL_FAIL n,
    LANE_STATUS_HIBER n, LANE_TX n, LANE_STATUS_STATE n]

/-- A scan of lane n that ran has ended as aborted; the firing of that (R348, R355). -/
def scanFires (s : State) (n : Nat) : List Firing :=
  if s.get (LANE_SCAN_CFG_BUSY n) = 0 then [] else evtFires s n (LANE_EVT_SCAN_DONE n) (LANE_EVT_EN_SCAN_DONE n)

/-- Lane n has left UP, or its bring-up has begun again: block lock is gone, a check that runs has failed, and a scan that ran has ended
as aborted (R340, R348, R350). -/
def Left (s t : State) (n : Nat) : Prop :=
  t.get (LANE_STATUS_BLOCK_LOCK n) = 0 ∧ t.get (LANE_CHECK_OK n) = 0 ∧ t.get (LANE_SCAN_CFG_BUSY n) = 0 ∧
    (s.get (LANE_SCAN_CFG_BUSY n) ≠ 0 → t.get (LANE_SCAN_CFG_ABORTED n) = 1 ∧ t.get (LANE_SCAN_CFG_DONE n) = 1)

/-- SER_TX of lane n carries what its state calls for, and has been given out if that has changed (R333, R344, R351, R352). -/
def Shown (s t : State) (n : Nat) : Prop :=
  t.get (LANE_TX n) = serTx t.view n ∧
    t.dev.out = (if serTx t.view n = s.get (LANE_TX n) then [] else [.ball "SER_TX" n (serTx t.view n)])

/-- The steps of bring-up: the quad's PLL and the signal lead from SIGNAL to CDR, the CDR's lock to ALIGN, block lock to ADAPT
unless polarity detection has failed, and adaptation, with the values it has reached, to UP; a polarity window with 16 complemented idle
blocks and no direct one toggles RX_INV, and the second time sets POL_FAIL. In ADAPT and in a test loop block lock ends what was lost of
it, as adaptation on blocks does (R335, R338, R340, R341, R345, R350). -/
def Clause.LaneBringUp : Prop :=
  ∀ s : State, s.wf = true →
    (∀ m : Fin 4, (∃ i < 8, s.get (LANE_CFG_ROLE (8 * m + i)) ≠ 0) → Answers (.quadPllLock m) s (fun t =>
      t.get (QUAD_LOCKED m) = 1 ∧
      (∀ i < 8, t.get (LANE_STATUS_STATE (8 * m + i)) =
        if s.get (LANE_STATUS_STATE (8 * m + i)) = LANE_SIGNAL ∧ s.get (LANE_SIG (8 * m + i)) ≠ 0 then LANE_CDR
        else s.get (LANE_STATUS_STATE (8 * m + i))) ∧
      Plain s t (QUAD_LOCKED m :: (List.range 8).map (fun i => LANE_STATUS_STATE (8 * m + i))))) ∧
    (∀ n : Fin 32, s.get (LANE_STATUS_STATE n) = LANE_SIGNAL → Answers (.signalDetect n) s (fun t =>
      t.get (LANE_SIG n) = 1 ∧
      t.get (LANE_STATUS_STATE n) = (if s.get (QUAD_LOCKED (n / 8)) ≠ 0 then LANE_CDR else LANE_SIGNAL) ∧
      Plain s t [LANE_SIG n, LANE_STATUS_STATE n])) ∧
    (∀ n : Fin 32, s.get (LANE_STATUS_STATE n) = LANE_CDR → Answers (.cdrLock n) s (fun t =>
      t.get (LANE_STATUS_STATE n) = LANE_ALIGN ∧ Plain s t [LANE_STATUS_STATE n])) ∧
    (∀ n : Fin 32, s.get (LANE_STATUS_STATE n) = LANE_ALIGN →
      Answers (.blockLock n) s (fun t =>
        t.get (LANE_STATUS_STATE n) = (if s.get (LANE_STATUS_POL_FAIL n) = 0 then LANE_ADAPT else LANE_ALIGN) ∧
        t.get (LANE_STATUS_BLOCK_LOCK n) = b2n (!lanePrbs s.view n) ∧ t.get (LANE_STATUS_HIBER n) = 0 ∧
        Plain s t [LANE_STATUS_STATE n, LANE_STATUS_BLOCK_LOCK n, LANE_STATUS_HIBER n])) ∧
    (∀ n : Fin 32, (s.get (LANE_STATUS_STATE n) = LANE_ADAPT ∨ s.get (LANE_STATUS_STATE n) = LANE_LOOP) →
      Answers (.blockLock n) s (fun t => t.get (LANE_STATUS_BLOCK_LOCK n) = b2n (!lanePrbs s.view n) ∧
        t.get (LANE_STATUS_HIBER n) = 0 ∧ Plain s t [LANE_STATUS_BLOCK_LOCK n, LANE_STATUS_HIBER n])) ∧
    (∀ (n : Fin 32) (comp : Fin 4097), s.get (LANE_STATUS_STATE n) = LANE_ALIGN → s.get (LANE_CFG_POL_AUTO n) ≠ 0 →
      lanePrbs s.view n = false → s.get (LANE_STATUS_POL_FAIL n) = 0 → s.get (LANE_FLIPS n) < 2 → 16 ≤ comp.val →
      Answers (.polarityWindow n 0 comp) s (fun t =>
        t.get (LANE_CFG_RX_INV n) = (if s.get (LANE_CFG_RX_INV n) = 0 then 1 else 0) ∧
        t.get (LANE_STATUS_POL_FAIL n) = (if s.get (LANE_FLIPS n) = 0 then 0 else 1) ∧
        Flagged s t n (LANE_EVT_POL_FLIP n) (LANE_EVT_EN_POL_FLIP n) ∧
        Frame s t [LANE_CFG_RX_INV n, LANE_STATUS_BLOCK_LOCK n, LANE_EVT_POL_FLIP n, LANE_FLIPS n, LANE_STATUS_POL_FAIL n])) ∧
    (∀ (n : Fin 32) (ctle : Fin 32) (taps : BitVec 64), s.get (LANE_STATUS_STATE n) = LANE_ADAPT → linkOf s.view n = none →
      Answers (.adaptConverged n ctle taps) s (fun t =>
        t.get (LANE_STATUS_STATE n) = LANE_UP ∧ EqualiserAt t n ctle taps.toNat ∧ t.get (LANE_STATUS_FROZEN n) = 0 ∧
        t.get (LANE_STATUS_BLOCK_LOCK n) = b2n (!lanePrbs s.view n) ∧ t.get (LANE_STATUS_HIBER n) = 0 ∧
        Flagged s t n (LANE_EVT_UP n) (LANE_EVT_EN_UP n) ∧
        Frame s t (equaliserFlds n ++ [LANE_STATUS_STATE n, LANE_STATUS_FROZEN n, LANE_KEPT n, LANE_EVT_UP n, LANE_STATUS_BLOCK_LOCK n,
          LANE_STATUS_HIBER n])))

/-- A write of CFG that changes a field of a lane in no link, and RESTART, start bring-up again at SIGNAL, or leave the lane OFF, as one
without a role and any before the reference clock is good is; a test loop is taken by a TEST lane and rejected for any other; SER_TX
follows (R333, R340, R352, R449). -/
def Clause.LaneControl : Prop :=
  ∀ s : State, s.wf = true → ∀ n : Fin 32,
    (∀ v : BitVec 32,
      let role := bits v.toNat 0 2
      let inv := bits v.toNat 3 1
      (s.get (LANE_CFG_ROLE n) ≠ role ∨ s.get (LANE_CFG_TX_INV n) ≠ bits v.toNat 2 1 ∨ s.get (LANE_CFG_RX_INV n) ≠ inv ∨
        s.get (LANE_CFG_POL_AUTO n) ≠ bits v.toNat 4 1) →
      (role = 3 → s.get (LANE_STATUS_STATE n) ≠ LANE_LOOP) → linkOf s.view n = none →
      Answers (.laneCfgWrite n v) s (fun t =>
        t.get (LANE_CFG_ROLE n) = role ∧ t.get (LANE_CFG_TX_INV n) = bits v.toNat 2 1 ∧ t.get (LANE_CFG_RX_INV n) = inv ∧
        t.get (LANE_CFG_POL_AUTO n) = bits v.toNat 4 1 ∧
        t.get (LANE_STATUS_STATE n) = (if role = 0 ∨ s.get DEV_STATUS_REFCLK_OK = 0 then 0 else LANE_SIGNAL) ∧ Left s t n ∧ Shown s t n ∧
        (role ≠ 3 → t.get (LANE_CTRL_LOOP n) = 0) ∧
        t.dev = { s.view.dev with held := s.dev.held ++ scanFires s n, out := t.dev.out } ∧
        Frame s t (bringUpFlds n ++ [LANE_CFG_ROLE n, LANE_CFG_TX_INV n, LANE_CFG_RX_INV n, LANE_CFG_POL_AUTO n,
          LANE_STATUS_LULL_TX n, QUAD_LOCKED (n / 8)] ++ if role = 3 then [] else [LANE_CTRL_LOOP n]))) ∧
    (∀ via, s.get (LANE_CTRL_LOOP n) = 0 → s.get (LANE_STATUS_STATE n) ≠ LANE_LOOP → Answers (.laneRestart via n) s (fun t =>
      t.get (LANE_STATUS_STATE n) = (if s.get (LANE_CFG_ROLE n) = 0 ∨ s.get DEV_STATUS_REFCLK_OK = 0 then 0 else LANE_SIGNAL) ∧ Left s t n ∧
      (linkOf s.view n = none → Shown s t n ∧ Frame s t (LANE_CTRL_LOOP n :: bringUpFlds n)))) ∧
    (∀ via (loop : Fin 4), loop ≠ 0 → laneTest s.view n = true → s.get (LANE_CTRL_LOOP n) = 0 →
      Answers (.laneLoopWrite via n loop) s (fun t => t.get (LANE_CTRL_LOOP n) = loop ∧
        t.get (LANE_STATUS_STATE n) = LANE_LOOP ∧ Left s t n ∧ Shown s t n ∧
        t.dev = { s.view.dev with held := s.dev.held ++ scanFires s n, out := t.dev.out } ∧
        Frame s t (LANE_CTRL_LOOP n :: bringUpFlds n))) ∧
    (∀ via (loop : Fin 4), loop ≠ 0 → laneTest s.view n = false → Answers (.laneLoopWrite via n loop) s (fun t =>
      Counted s t LOADER_REJECT_COUNT ∧ t.get (LANE_CTRL_LOOP n) = s.get (LANE_CTRL_LOOP n) ∧
      Logged s t 3 (viaPath via).code 63 (LANE_CTRL_LOOP n).addr ∧
      t.dev = { s.view.dev with held := s.dev.held ++ [s.firing 487, s.firing 503] } ∧
      Frame s t ([LOADER_REJECT_COUNT, LOADER_REJECT_VALID, LOADER_REJECT_PATH, LOADER_REJECT_ADDR_LO, LOADER_REJECT_ADDR_HI] ++
        logFlds (s.get DEV_ERRLOG_HEAD))))

end Sys2Proof

/-- The states of a serial lane. -/
def Obligations.LaneStates : Prop :=
  Clause.LaneBringUp ∧ Clause.LaneControl

namespace Sys2Proof

/-- A lane in UP that loses its signal or its lock, or for hi-BER, goes back to SIGNAL and is counted, and one in ADAPT or in a test loop
shows what it lost and fails its check; when
it has not come back the equaliser returns to its defaults; idle blocks freeze adaptation and data resumes it; READAPT runs until its end,
with the values it has reached (R343, R346, R347, R350). -/
def Clause.LaneAdaptation : Prop :=
  ∀ s : State, s.wf = true → ∀ n : Fin 32,
    (s.get (LANE_STATUS_STATE n) = LANE_UP →
      (∀ hiBer, Answers (.laneDown n hiBer) s (fun t => t.get (LANE_STATUS_STATE n) = LANE_SIGNAL ∧
        t.get (LANE_STATUS_HIBER n) = b2n hiBer ∧ Left s t n ∧ t.get (LANE_EVT_DOWN n) ≠ 0 ∧
        Counted s t (LANE_PCS_ERR_DOWNS n) ∧ t.get (LANE_KEPT n) = 1 ∧
        (linkOf s.view n = none → t.dev.held = s.dev.held ++ scanFires s n ++ evtFires s n (LANE_EVT_DOWN n) (LANE_EVT_EN_DOWN n) ∧
          Frame s t (bringUpFlds n ++ [LANE_KEPT n, LANE_PCS_ERR_DOWNS n, LANE_EVT_DOWN n])))) ∧
      (s.get (LANE_STATUS_READAPTING n) = 0 → Answers (.adaptFreeze n) s (fun t => t.get (LANE_STATUS_FROZEN n) = 1 ∧
        t.dev = s.view.dev ∧ Frame s t (LANE_STATUS_FROZEN n :: equaliserFlds n))) ∧
      Answers (.adaptResume n) s (fun t => t.get (LANE_STATUS_FROZEN n) = 0 ∧ Plain s t [LANE_STATUS_FROZEN n]) ∧
      (∀ via, s.get (LANE_CTRL_LOOP n) = 0 → Answers (.readapt via n) s (fun t =>
        t.get (LANE_STATUS_READAPTING n) = 1 ∧ t.get (LANE_STATUS_FROZEN n) = 0 ∧
        Plain s t [LANE_CTRL_LOOP n, LANE_STATUS_READAPTING n, LANE_STATUS_FROZEN n]))) ∧
    (∀ hiBer, (s.get (LANE_STATUS_STATE n) = LANE_ADAPT ∨ s.get (LANE_STATUS_STATE n) = LANE_LOOP) → Answers (.laneDown n hiBer) s (fun t => t.get (LANE_CHECK_OK n) = 0 ∧
      (if hiBer then t.get (LANE_STATUS_HIBER n) = 1 else t.get (LANE_STATUS_BLOCK_LOCK n) = 0) ∧
      Plain s t [LANE_CHECK_OK n, if hiBer then LANE_STATUS_HIBER n else LANE_STATUS_BLOCK_LOCK n])) ∧
    (s.get (LANE_KEPT n) ≠ 0 → Answers (.adaptRestartTimeout n) s (fun t => EqualiserAt t n 0 0 ∧ t.get (LANE_KEPT n) = 0 ∧
      Plain s t (LANE_KEPT n :: equaliserFlds n))) ∧
    (∀ (ctle : Fin 32) (taps : BitVec 64) (idle : Bool), s.get (LANE_STATUS_READAPTING n) ≠ 0 →
      s.get (LANE_STATUS_STATE n) = LANE_UP →
      Answers (.readaptEnd n ctle taps idle) s (fun t => EqualiserAt t n ctle taps.toNat ∧
        Counted s t (LANE_ADAPT_READAPTS n) ∧ t.get (LANE_STATUS_READAPTING n) = 0 ∧
        t.get (LANE_STATUS_FROZEN n) = b2n idle ∧
        Plain s t (equaliserFlds n ++ [LANE_ADAPT_READAPTS n, LANE_STATUS_READAPTING n, LANE_STATUS_FROZEN n])))

/-- The eye monitor keeps the last and the least margin and re-adapts below its threshold; a scan and a BER check run from GO to
DONE; a header error is counted and fails a check; the PRBS checker locks and counts errors (R347 to R351). -/
def Clause.LaneMeasurement : Prop :=
  ∀ s : State, s.wf = true → ∀ n : Fin 32,
    (∀ margin : BitVec 8, s.get (LANE_EYE_CFG_MON_EN n) ≠ 0 → s.get (LANE_STATUS_STATE n) = LANE_UP →
      let least := min margin.toNat (s.get (LANE_EYE_MIN n)) % 2 ^ (LANE_EYE_MIN n).width
      (s.get (LANE_EYE_CFG_THR n) ≤ margin.toNat → Answers (.eyeMonitor n margin) s (fun t =>
        t.get (LANE_EYE_LAST n) = margin.toNat ∧ t.get (LANE_EYE_MIN n) = least ∧
        Plain s t [LANE_EYE_LAST n, LANE_EYE_MIN n])) ∧
      (margin.toNat < s.get (LANE_EYE_CFG_THR n) → Answers (.eyeMonitor n margin) s (fun t =>
        t.get (LANE_EYE_LAST n) = margin.toNat ∧ t.get (LANE_EYE_MIN n) = least ∧ t.get (LANE_EVT_EYE_LOW n) ≠ 0 ∧
        Counted s t (LANE_EYE_BELOW n) ∧ t.get (LANE_STATUS_READAPTING n) = 1 ∧ t.get (LANE_STATUS_FROZEN n) = 0 ∧
        t.dev.held = s.dev.held ++ evtFires s n (LANE_EVT_EYE_LOW n) (LANE_EVT_EN_EYE_LOW n) ++ [s.firing 508] ∧
        Frame s t [LANE_EYE_LAST n, LANE_EYE_MIN n, LANE_EVT_EYE_LOW n, LANE_EYE_BELOW n, LANE_STATUS_READAPTING n,
          LANE_STATUS_FROZEN n]))) ∧
    (∀ via (v : BitVec 32), s.get (LANE_SCAN_CFG_BUSY n) = 0 → Answers (.eyeScanGo via n v) s (fun t =>
      t.get (LANE_SCAN_CFG_BUSY n) = 1 ∧ t.get (LANE_SCAN_BITS n) = 0 ∧ t.get (LANE_SCAN_ERR n) = 0 ∧
      t.get (LANE_SCAN_CFG_DWELL_LOG2 n) = bits v.toNat 16 6 ∧ t.get (LANE_SCAN_CFG_VOFS n) = bits v.toNat 8 8 ∧
      t.get (LANE_SCAN_CFG_HOFS n) = bits v.toNat 0 6 ∧
      t.get (LANE_SCAN_LEN n) = max 20 (min 40 (bits v.toNat 16 6)) ∧
      Plain s t [LANE_SCAN_CFG_BUSY n, LANE_SCAN_BITS n, LANE_SCAN_ERR n, LANE_SCAN_CFG_DWELL_LOG2 n, LANE_SCAN_CFG_VOFS n,
        LANE_SCAN_CFG_HOFS n, LANE_SCAN_CFG_DONE n, LANE_SCAN_CFG_ABORTED n, LANE_SCAN_LEN n])) ∧
    (∀ errs : BitVec 32, s.get (LANE_SCAN_CFG_BUSY n) ≠ 0 → Answers (.eyeScanDone n errs) s (fun t =>
      t.get (LANE_SCAN_CFG_BUSY n) = 0 ∧ t.get (LANE_SCAN_CFG_DONE n) = 1 ∧
      t.get (LANE_SCAN_ERR n) = max (s.get (LANE_SCAN_ERR n)) errs.toNat % 2 ^ 32 ∧
      t.get (LANE_SCAN_BITS n) = min (2 ^ (s.get (LANE_SCAN_LEN n) - 10)) 0xFFFFFFFF ∧
      Flagged s t n (LANE_EVT_SCAN_DONE n) (LANE_EVT_EN_SCAN_DONE n) ∧
      Frame s t [LANE_SCAN_CFG_BUSY n, LANE_SCAN_CFG_DONE n, LANE_SCAN_ERR n, LANE_SCAN_BITS n, LANE_EVT_SCAN_DONE n])) ∧
    (∀ via, s.get (LANE_CHECK_BUSY n) = 0 → Answers (.checkGo via n) s (fun t => t.get (LANE_CHECK_BUSY n) = 1 ∧
      (t.get (LANE_CHECK_OK n) = 1 ↔ (s.get (LANE_STATUS_STATE n) = LANE_UP ∨ s.get (LANE_STATUS_STATE n) = LANE_ADAPT) ∧
        s.get (LANE_STATUS_BLOCK_LOCK n) ≠ 0 ∧ s.get (LANE_STATUS_HIBER n) = 0) ∧
      Plain s t [LANE_CHECK_BUSY n, LANE_CHECK_OK n])) ∧
    (s.get (LANE_CHECK_BUSY n) ≠ 0 → (linkOf s.view n = none ∨ s.get (LANE_CHECK_OK n) = 0) →
      Answers (.checkDone n) s (fun t => t.get (LANE_CHECK_BUSY n) = 0 ∧ t.get (LANE_CHECK_DONE n) = 1 ∧
        t.get (LANE_CHECK_PASS n) = (if s.get (LANE_CHECK_OK n) = 0 then 0 else 1) ∧
        Flagged s t n (LANE_EVT_CHECK_DONE n) (LANE_EVT_EN_CHECK_DONE n) ∧
        Frame s t [LANE_CHECK_BUSY n, LANE_CHECK_DONE n, LANE_CHECK_PASS n, LANE_EVT_CHECK_DONE n])) ∧
    Answers (.invalidSyncHeader n) s (fun t => Counted s t (LANE_PCS_ERR_SYNC n) ∧ t.get (LANE_CHECK_OK n) = 0 ∧
      Plain s t [LANE_PCS_ERR_SYNC n, LANE_CHECK_OK n]) ∧
    (lanePrbs s.view n = true → LANE_ALIGN ≤ s.get (LANE_STATUS_STATE n) → Answers (.prbsCheckerLock n) s (fun t => t.get (LANE_PRBS_LOCKED n) = 1 ∧
      Plain s t [LANE_PRBS_LOCKED n])) ∧
    (s.get (LANE_PRBS_LOCKED n) ≠ 0 → Answers (.prbsBitError n) s (fun t => Counted s t (LANE_PRBS_ERR n) ∧
      Flagged s t n (LANE_EVT_PRBS_ERR n) (LANE_EVT_EN_PRBS_ERR n) ∧ Frame s t [LANE_PRBS_ERR n, LANE_EVT_PRBS_ERR n]))

end Sys2Proof

/-- Adaptation, eye scans and checks of a serial lane. -/
def Obligations.LaneQuality : Prop :=
  Clause.LaneAdaptation ∧ Clause.LaneMeasurement

namespace Sys2Proof

/-- A link that carries traffic, may rest and has nothing to send sends a LULL block on every lane and takes the transmit direction of its
BRISOL lanes into lull; a block that waits, or training, wakes it, and what waits leaves behind the wake, tokens up to two to a block; the receiver of a lane follows the partner into lull,
returns to UP when it relocks, and goes down when it does not (R353, R354). -/
def Clause.Lull : Prop :=
  ∀ s : State, s.wf = true →
    (∀ l : Fin 32, linkSends s.view l = true → lullAllowed s.view l = true → linkWaits s.view l = false →
      Answers (.lullEntry l) s (fun t =>
        (∀ n ∈ lullLanes s.view l, t.get (LANE_STATUS_LULL_TX n) = 1 ∧ Counted s t (LANE_LULL_COUNT_TX n)) ∧
        (∀ i < linkWidth s.view l, OnLane s t l i 2 (ctrlBlock 0x33 0)) ∧
        Frame s t ((lullLanes s.view l).flatMap (fun n => [LANE_STATUS_LULL_TX n, LANE_LULL_COUNT_TX n, LANE_TX n])) ∧
        t.dev = { s.dev with out := t.dev.out })) ∧
    (∀ l : Fin 32, s.get (LINK_CFG_EN l) ≠ 0 → lullTx s.view l = true → (linkWaits s.view l = true ∨ linkLive s.view l = false) →
      Answers (.lullWake l) s (fun t => (t.view.link l).waking = true ∧ Frame s t ((linkLanes s.view l).map LANE_TX) ∧
        t.dev = { s.view.dev with links := t.dev.links, out := t.dev.out })) ∧
    (∀ l : Fin 32, (s.view.link l).waking = true → Answers (.lullWakeDone l) s (fun t =>
      (t.view.link l).waking = false ∧ (∀ n ∈ linkLanes s.view l, t.get (LANE_STATUS_LULL_TX n) = 0) ∧
      (linkLive s.view l = true → (t.view.link l).held = []) ∧
      (∀ p, linkLive s.view l = true → ((p ∈ (s.view.link l).held ∧ p % 256 ≠ 0x4B) ∨ p ∈ c0Blocks ((s.view.link l).held.flatMap c0Tokens)) →
        ∀ i < linkWidth s.view l, bit ((s.view.link l).own ||| (s.view.link l).far) i = false → OnLane t t l i 2 p) ∧
      (linkWaits s.view l = false → Frame s t ((linkLanes s.view l).map LANE_STATUS_LULL_TX)))) ∧
    (∀ n : Fin 32, s.get (LANE_STATUS_STATE n) = LANE_UP → s.get (LANE_CFG_ROLE n) = 2 → Answers (.lullRx n) s (fun t =>
      t.get (LANE_STATUS_STATE n) = LANE_LULL ∧ t.get (LANE_STATUS_LULL_RX n) = 1 ∧ t.get (LANE_STATUS_FROZEN n) = 1 ∧
      t.get (LANE_CHECK_OK n) = 0 ∧ Counted s t (LANE_LULL_COUNT_RX n) ∧ t.dev = s.view.dev ∧
      Frame s t ([LANE_STATUS_STATE n, LANE_STATUS_LULL_RX n, LANE_STATUS_FROZEN n, LANE_CHECK_OK n, LANE_LULL_COUNT_RX n] ++
        equaliserFlds n))) ∧
    (∀ n : Fin 32, s.get (LANE_STATUS_STATE n) = LANE_LULL →
      Answers (.lullSignalReturn n true) s (fun t => t.get (LANE_STATUS_STATE n) = LANE_UP ∧
        t.get (LANE_STATUS_LULL_RX n) = 0 ∧ t.get (LANE_STATUS_BLOCK_LOCK n) = 1 ∧
        t.get (LANE_STATUS_FROZEN n) = (if s.get (LANE_STATUS_READAPTING n) = 0 then s.get (LANE_STATUS_FROZEN n) else 0) ∧
        Plain s t [LANE_STATUS_STATE n, LANE_STATUS_LULL_RX n, LANE_STATUS_BLOCK_LOCK n, LANE_RELOCK n, LANE_STATUS_FROZEN n,
          LANE_STATUS_HIBER n]) ∧
      Answers (.lullSignalReturn n false) s (fun t => t.get (LANE_RELOCK n) = 1 ∧ t.get (LANE_STATUS_BLOCK_LOCK n) = 0 ∧
        Plain s t [LANE_RELOCK n, LANE_STATUS_BLOCK_LOCK n]) ∧
      (s.get (LANE_RELOCK n) ≠ 0 →
        Answers (.blockLock n) s (fun t => t.get (LANE_STATUS_STATE n) = LANE_UP ∧ t.get (LANE_RELOCK n) = 0 ∧
          Plain s t [LANE_STATUS_STATE n, LANE_STATUS_LULL_RX n, LANE_STATUS_BLOCK_LOCK n, LANE_RELOCK n, LANE_STATUS_FROZEN n,
            LANE_STATUS_HIBER n]) ∧
        Answers (.lullRelockTimeout n) s (fun t => t.get (LANE_STATUS_STATE n) = LANE_SIGNAL ∧
          Counted s t (LANE_PCS_ERR_DOWNS n) ∧ t.get (LANE_STATUS_LULL_RX n) = 0 ∧ t.get (LANE_RELOCK n) = 0)))

/-! ## Brisol links (R357 to R370) -/

/-- Link l trains afresh: its stripes, masks, sequence numbers, messages and what waited are gone, tokens that waited are counted as
unsent, and it is TRAINING if it is enabled with its lanes ready, and DOWN otherwise (R359, R363). -/
def Retrained (s t : State) (l : Nat) (waking : Bool) : Prop :=
  t.view.link l = { LinkSt.reset with waking := waking } ∧
    t.get (LINK_COUNT1_C0_UNSENT l) = min (2 ^ (LINK_COUNT1_C0_UNSENT l).width - 1)
      (s.get (LINK_COUNT1_C0_UNSENT l) + ((s.view.link l).held.flatMap c0Tokens).length) ∧
    t.get (LINK_STATUS_FAILED l) = 0 ∧ t.get (LINK_STATUS_SET l) = 0 ∧
    t.get (LINK_STATUS_STATE l) = (if t.get (LINK_CFG_EN l) ≠ 0 ∧ lanesReady t.view l = true then 1 else 0)

/-- A change of CFG, RESTART and a training that has not bonded in time make a link train afresh; one that carried traffic
sets EVT.DOWN and fires 506. A lane that a change of CFG leaves on the link wakes from its lull, one that it takes off leaves it, and SER_TX
follows. A configuration that would use a lane of another enabled link is ignored and logged (R353, R357, R359, R370). -/
def Clause.LinkControl : Prop :=
  ∀ s : State, s.wf = true → ∀ l : Fin 32,
    let down := [LINK_EVT_DOWN l, LINK_COUNT0_MSG_DROP l]
    let state := [LINK_STATUS_FAILED l, LINK_STATUS_SET l, LINK_STATUS_STATE l, LINK_COUNT1_C0_UNSENT l]
    let waking := (s.view.link l).waking
    let fires := if linkLive s.view l then [s.firing 506] else []
    (∀ via (v : BitVec 32), (bit v.toNat 0 && linkOverlaps s.view l (bits v.toNat 3 5) (bits v.toNat 1 2)) = false →
      (s.get (LINK_CFG_EN l) ≠ bits v.toNat 0 1 ∨ s.get (LINK_CFG_WIDTH l) ≠ bits v.toNat 1 2 ∨
        s.get (LINK_CFG_BASE l) ≠ bits v.toNat 3 5) → Answers (.linkCfgWrite via l v) s (fun t =>
      t.get (LINK_CFG_EN l) = bits v.toNat 0 1 ∧ t.get (LINK_CFG_WIDTH l) = bits v.toNat 1 2 ∧
      t.get (LINK_CFG_BASE l) = bits v.toNat 3 5 ∧
      Retrained s t l (decide (t.get (LINK_CFG_EN l) ≠ 0) && lullTx t.view l) ∧
      (∀ n ∈ linkLanes s.view l, n < 32 → t.get (LANE_STATUS_LULL_TX n) =
        if t.get (LINK_CFG_EN l) ≠ 0 ∧ n ∈ linkLanes t.view l then s.get (LANE_STATUS_LULL_TX n) else 0) ∧
      (∀ n ∈ linkLanes s.view l ++ linkLanes t.view l, n < 32 → t.get (LANE_TX n) = serTx t.view n) ∧ (linkLive s.view l = true → t.get (LINK_EVT_DOWN l) = 1) ∧
      t.dev.held = s.dev.held ++ fires ∧
      Frame s t ([LINK_CFG_EN l, LINK_CFG_WIDTH l, LINK_CFG_BASE l] ++ state ++ down ++
        (linkLanes s.view l).map LANE_STATUS_LULL_TX ++ (linkLanes s.view l ++ linkLanes t.view l).map LANE_TX))) ∧
    (∀ via (v : BitVec 32), (bit v.toNat 0 && linkOverlaps s.view l (bits v.toNat 3 5) (bits v.toNat 1 2)) = true →
      Answers (.linkCfgWrite via l v) s (fun t => Logged s t 2 (viaPath via).code 63 (LINK_CFG_EN l).addr ∧
        Leaves s t (logFlds (s.get DEV_ERRLOG_HEAD)) { s.view.dev with held := s.dev.held ++ [s.firing 487] })) ∧
    Answers (.linkRestart l) s (fun t => Retrained s t l waking ∧ (linkLive s.view l = true → t.get (LINK_EVT_DOWN l) = 1) ∧
      t.dev.held = s.dev.held ++ fires ∧ Frame s t (state ++ down)) ∧
    (s.get (LINK_CFG_EN l) ≠ 0 → linkLive s.view l = false →
      (∀ n ∈ linkLanes s.view l, s.get (LANE_STATUS_STATE n) = LANE_UP) → Answers (.trainTimeout l) s (fun t =>
        Retrained s t l waking ∧ t.get (LINK_EVT_TRAIN_FAIL l) = 1 ∧ t.dev.held = s.dev.held ∧
        Frame s t (LINK_EVT_TRAIN_FAIL l :: state)))

end Sys2Proof

/-- Lull, and the control of links. -/
def Obligations.LullAndLinks : Prop :=
  Clause.Lull ∧ Clause.LinkControl

namespace Sys2Proof

/-- A TRAIN block that arrives over a lane of a link that carries traffic shows the partner's index; over the one lane of a link
that does not, it shows the partner and, when its terms fit, this end proposes a bond point or follows one (R342, R359). -/
def Clause.Training : Prop :=
  ∀ s : State, s.wf = true → ∀ (l : Fin 32) (i : Fin 4) (p : BitVec 64) (skew : BitVec 8),
    let n := s.get (LINK_CFG_BASE l) + i
    let dev := bits p.toNat 12 6
    s.get (LINK_CFG_EN l) ≠ 0 → i.val < linkWidth s.view l → n < 32 → s.get (LANE_CFG_ROLE n) = 2 →
    s.get (LANE_STATUS_STATE n) = LANE_UP → ctrlOk p.toNat = true → p.toNat % 256 = 0x2D →
    (linkLive s.view l = true → s.get (LINK_STATUS_PEER_DEV l) = dev → Answers (.trainBlock l i p skew) s (fun t =>
      t.get (LANE_STATUS_PEER_IDX n) = bits p.toNat 8 2 ∧ t.get (LANE_STATUS_PEER_VALID n) = 1 ∧
      Plain s t [LANE_STATUS_PEER_IDX n, LANE_STATUS_PEER_VALID n])) ∧
    (linkLive s.view l = false → s.get (LINK_CFG_WIDTH l) = 0 → bits p.toNat 10 2 = 0 → dev ≠ s.get LINKS_DEV →
      (s.view.link l).train = [] → (s.view.link l).phase = .steady → (s.view.link l).rxNext = none →
      (s.view.link l).rxDone = false → (s.get LINKS_DEV < dev ∨ bits p.toNat 19 16 ≠ 0) →
      Answers (.trainBlock l i p skew) s (fun t =>
        t.get (LANE_STATUS_PEER_IDX n) = bits p.toNat 8 2 ∧ t.get (LANE_STATUS_PEER_VALID n) = 1 ∧
        t.get (LINK_SKEW_SKEW l (bits p.toNat 8 2)) = skew.toNat ∧ t.get (LINK_STATUS_PEER_DEV l) = dev ∧ t.get (LINK_STATUS_STATE l) = 1 ∧
        (t.view.link l).phase = .bond ∧ (t.view.link l).txNext = some 1 ∧
        (t.view.link l).rxNext = (if bits p.toNat 19 16 ≠ 0 then some 1 else none) ∧ t.dev.held = s.dev.held ∧
        Frame s t [LANE_STATUS_PEER_IDX n, LANE_STATUS_PEER_VALID n, LINK_SKEW_SKEW l (bits p.toNat 8 2), LINK_STATUS_PEER_DEV l,
          LINK_STATUS_STATE l]))

/-- A direction of a link adopts its new stripe set; when both have, a link that bonds is UP, one that degrades is DEGRADED and one
that re-bonds is UP again if its set is full, and each is shown and counted (R360, R366, R367, R369). -/
def Clause.StripeSwitches : Prop :=
  ∀ s : State, s.wf = true → ∀ (l : Fin 32) (set : Nat),
    let k := s.view.link l
    ∀ tx : Bool, (if tx then k.txNext else k.rxNext) = some set →
    ((if tx then k.rxDone else k.txDone) = false → Answers (.stripeSwitch l tx) s (fun t =>
      t.view.link l = (if tx then { k with txSet := set, txNext := none, txDone := true }
        else { k with rxSet := set, rxNext := none, rxDone := true }) ∧
      (tx = true → t.get (LINK_STATUS_SET l) = set % 2 ^ (LINK_STATUS_SET l).width) ∧ t.dev.held = s.dev.held ∧
      Frame s t (if tx then [LINK_STATUS_SET l] else []))) ∧
    ((if tx then k.rxDone else k.txDone) = true →
      (k.phase = .bond → Answers (.stripeSwitch l tx) s (fun t => t.get (LINK_STATUS_STATE l) = 2 ∧ t.get (LINK_EVT_UP l) = 1 ∧
        t.get (LINK_STATUS_FAILED l) = 0 ∧ (t.view.link l).phase = .steady ∧ s.firing 507 ∈ t.dev.held)) ∧
      (k.phase = .degrade → Answers (.stripeSwitch l tx) s (fun t => t.get (LINK_STATUS_STATE l) = 3 ∧
        t.get (LINK_EVT_DEGRADE l) = 1 ∧ Counted s t (LINK_COUNT1_DEGRADES l) ∧ (t.view.link l).msgs = [] ∧
        Fires s t 504 ∧ Frame s t [LINK_STATUS_SET l, LINK_STATUS_STATE l, LINK_EVT_DEGRADE l, LINK_COUNT1_DEGRADES l,
          LINK_COUNT0_MSG_DROP l])) ∧
      (k.phase = .rebond → Answers (.stripeSwitch l tx) s (fun t =>
        t.get (LINK_STATUS_STATE l) = (if (if tx then set else k.txSet) = fullSet s.view l then 2 else 3) ∧
        t.get (LINK_EVT_REBOND l) = 1 ∧ Counted s t (LINK_COUNT1_REBONDS l) ∧ Fires s t 505 ∧
        Frame s t [LINK_STATUS_SET l, LINK_STATUS_STATE l, LINK_EVT_REBOND l, LINK_COUNT1_REBONDS l])))

end Sys2Proof

/-- Training of a link and its stripe. -/
def Obligations.Bonding : Prop :=
  Clause.Training ∧ Clause.StripeSwitches

namespace Sys2Proof

/-- The LINKCTL block with which this end answers a REBOND for a set (R362, R369). -/
def rebondBlock (s : State) (l : Fin 32) (set : Nat) : Nat :=
  ctrlBlock 0x87 (OP_REBOND * 2 ^ 8 + (s.view.link l).own * 2 ^ 10 + set * 2 ^ 14 + 64 * 2 ^ 18 + (s.view.link l).csNext * 2 ^ 34)

/-- A LINKCTL block of the partner that is no copy shows its failed mask: DEGRADE merges it into this end's, and takes the link down
where no stripe is left; READY takes it over; REBOND sets out for the set it names and is answered on every good lane. A
copy does nothing. A failing lane that has come back repeats its check, and a control block that fails its CRC or has no
listed TYPE is counted (R361, R366, R367, R369). -/
def Clause.LinkMessages : Prop :=
  ∀ s : State, s.wf = true → ∀ l : Fin 32,
    let k := s.view.link l
    Answers (.controlBlockCrcError l) s (fun t => Counted s t (LINK_COUNT0_CRC_ERR l) ∧ Plain s t [LINK_COUNT0_CRC_ERR l]) ∧
    (∀ (n : Fin 32) (i : Nat), linkOf s.view n = some (l.val, i) → linkLive s.view l = true → bit k.own i = true →
      s.get (LANE_STATUS_STATE n) = LANE_UP → s.get (LANE_CHECK_BUSY n) = 0 → Answers (.laneRecheckTimer n) s (fun t =>
        t.get (LANE_CHECK_BUSY n) = 1 ∧ Plain s t [LANE_CHECK_BUSY n, LANE_CHECK_OK n])) ∧
    (∀ p : BitVec 64, ∀ c ∈ [Instr.degrade l p, Instr.linkReady l p, Instr.rebond l p], (k.txDone && k.rxDone) = false →
      s.get (LINK_CFG_EN l) ≠ 0 → (ctrlOk p.toNat && listedTypes.contains (p.toNat % 256)) = false →
      Answers c s (fun t => Counted s t (LINK_COUNT0_CRC_ERR l) ∧ Plain s t [LINK_COUNT0_CRC_ERR l])) ∧
    (∀ p : BitVec 64, linkLive s.view l = true → ctrlOk p.toNat = true → p.toNat % 256 = 0x87 →
      let far := bits p.toNat 10 4
      let set := bits p.toNat 14 4
      let seq := bits p.toNat 34 4
      (∀ c ∈ [Instr.degrade l p, Instr.linkReady l p, Instr.rebond l p], seq = k.csLast → (k.txDone && k.rxDone) = false →
        Answers c s (fun t => Leaves s t [] s.view.dev)) ∧
      (seq ≠ k.csLast →
        (bits p.toNat 8 2 = OP_DEGRADE → k.own < 16 → (stripeSet s.view l (k.own ||| far)).isSome = true →
          Answers (.degrade l p) s (fun t => (t.view.link l).own = k.own ||| far ∧ (t.view.link l).far = far ∧
            (t.view.link l).csLast = seq ∧ t.get (LINK_STATUS_FAILED l) = k.own ||| far)) ∧
        (bits p.toNat 8 2 = OP_DEGRADE → stripeSet s.view l (k.own ||| far) = none → Answers (.degrade l p) s (fun t =>
          t.view.link l = { LinkSt.reset with waking := k.waking } ∧ t.get (LINK_STATUS_STATE l) < 2 ∧
          t.get (LINK_EVT_DOWN l) = 1 ∧ t.get (LINK_STATUS_SET l) = 0 ∧ Fires s t 506)) ∧
        (bits p.toNat 8 2 = OP_READY → k.own < 16 → Answers (.linkReady l p) s (fun t => (t.view.link l).far = far ∧
          (t.view.link l).csLast = seq ∧ (t.view.link l).own = k.own ∧ t.get (LINK_STATUS_FAILED l) = k.own ||| far ∧
          t.dev.held = s.dev.held ∧ Frame s t [LINK_STATUS_FAILED l])) ∧
        (bits p.toNat 8 2 = OP_REBOND → k.phase ≠ .rebond → Answers (.rebond l p) s (fun t =>
          (t.view.link l).phase = .rebond ∧ (t.view.link l).txNext = some set ∧ (t.view.link l).rxNext = some set ∧
          (t.view.link l).far = far ∧ (t.view.link l).csNext = (k.csNext + 1) % 16 ∧
          (lullTx s.view l = true → (t.view.link l).held = k.held ++ [rebondBlock s l set]) ∧
          (lullTx s.view l = false → ∀ i < linkWidth s.view l, bit (k.own ||| far) i = false →
            OnLane s t l i 2 (rebondBlock s l set)) ∧
          t.dev.held = s.dev.held ∧ Frame s t [LINK_STATUS_FAILED l]))))

/-- A MSG block opens a message for the queue that it names, behind those of a lower class, and the others are discarded and counted,
as is a message whose destination is not a queue that names its source; data blocks fill the newest message, and an entry that is
whole and next in order enters the ring of its queue; a CREDIT block moves OLDEST of the producer's queue on (R364, R365). Only
the lanes of the receive stripe carry such blocks. -/
def Clause.PeerTraffic : Prop :=
  ∀ s : State, s.wf = true → ∀ (l : Fin 32) (ix : Fin 4), linkLive s.view l = true → rxTakes s.view l ix = true →
    let k := s.view.link l
    let drop := LINK_COUNT0_MSG_DROP l
    let others := fun (t : State) (d : Dev) => t.dev = { d with links := t.dev.links } ∧
      ∀ j : Fin 32, j ≠ l → t.view.link j = s.view.link j
    (∀ p : BitVec 64, ctrlOk p.toNat = true → p.toNat % 256 = 0x66 →
      let m := msgOf p.toNat
      let gone := k.msgs.filter (fun x => decide (x.cls ≤ m.cls) && !x.dead)
      let good := msgDest s.view l m
      m.cls ≠ 0 → Answers (.msgBlock l ix p) s (fun t =>
        t.view.link l = { k with msgs := { m with dead := !good } :: k.msgs.filter (fun x => decide (m.cls < x.cls)) } ∧
        t.get drop = min (2 ^ drop.width - 1) (s.get drop + gone.length + b2n (!good)) ∧
        others t s.view.dev ∧ Frame s t [drop])) ∧
    (∀ (d : BitVec 64) (m : OpenMsg) (ms : List OpenMsg), k.msgs = m :: ms →
      let rest := if m.left ≤ 1 then ms else { m with left := m.left - 1, bytes := [] } :: ms
      (m.bytes.length < 24 → (m.dead = true ∨ msgDest s.view l m = true) → Answers (.dataBlock l ix d) s (fun t =>
        t.view.link l = { k with msgs := { m with bytes := m.bytes ++ leBytes 8 d.toNat } :: ms } ∧ others t s.view.dev ∧
        Frame s t [])) ∧
      (m.bytes.length < 24 → m.dead = false → msgDest s.view l m = false → Answers (.dataBlock l ix d) s (fun t =>
        t.view.link l = { k with msgs := { m with dead := true, bytes := m.bytes ++ leBytes 8 d.toNat } :: ms } ∧
        Counted s t drop ∧ others t s.view.dev ∧ Frame s t [drop])) ∧
      (m.bytes.length = 24 → m.dead = true → Answers (.dataBlock l ix d) s (fun t =>
        t.view.link l = { k with msgs := rest } ∧ others t s.view.dev ∧ Frame s t [])) ∧
      (m.bytes.length = 24 → m.dead = false → msgDest s.view l m = true →
        let u := m.tile
        let q := m.index
        let e := m.bytes ++ leBytes 8 d.toNat
        let seq := s.get (QT_SEQ_A u q)
        entryOk e = true → entrySeq e = seq → (s.tile u).gaps = [] → qSlotFree s.view u q seq = true →
        qFaulted s.view u q = false → RingInside s u q → Answers (.dataBlock l ix d) s (fun t =>
          t.view.link l = { k with msgs := rest } ∧ t.get (QT_SEQ_A u q) = (seq + 1) % 2 ^ 32 ∧
          (∀ a, t.byteAt a = (s.view.wrBytes (qAddr s.view u q seq) e).rd8 a) ∧
          others t { s.view.dev with ddr := t.dev.ddr } ∧ RegsBut s t (QT_SEQ_A u q :: ringFlds s u q)))) ∧
    (∀ p : BitVec 64, ctrlOk p.toNat = true → p.toNat % 256 = 0x78 →
      let u := bits p.toNat 8 5
      let i := bits p.toNat 13 9
      let cr := bits p.toNat 22 32
      448 ≤ i → qEnabled s.view u i = true → s.get (QT_CFG_DIR u i) ≠ 0 → s.get (QT_PEER_REMOTE u i) ≠ 0 →
      s.get (QT_PEER_LINK u i) = l → seqBefore (s.get (QTAIL u i)) cr = true →
      seqDiff cr (s.get (QTAIL u i)) ≤ qFill s.view u i → seqBefore (s.get (QSENT u i)) cr = false →
      Answers (.creditBlock l ix p) s (fun t => t.get (QTAIL u i) = cr ∧ StoresKept s t ∧
        (s.get (QSENT u i) = (s.get (QT_SEQ_A u i) + 1) % 2 ^ 32 → Plain s t [QTAIL u i])))

end Sys2Proof

/-- Messages and blocks between devices. -/
def Obligations.LinkTraffic : Prop :=
  Clause.LinkMessages ∧ Clause.PeerTraffic

namespace Sys2Proof

/-! ## The image loader, flash and fuses (R307 to R332) -/

/-- The registers that a failure of an image writes (R312). -/
def failFlds (s : State) : List Fld :=
  [LOADER_ERROR_VALID, LOADER_ERROR_CAUSE, LOADER_ERROR_SEQ, LOADER_COUNT_ERRORS, LOADER_SWAP_PEND, LOADER_P, LOADER_STATE_STATE] ++
    (List.range 32).map CODE_HELD ++ logFlds (s.get DEV_ERRLOG_HEAD)

/-- An image from the host has failed with a cause and the SEQ of its frame (R312, R328). LOADER.POINT shows the point of the last
commit again. -/
def ImageFails (s t : State) (cause seq : Nat) : Prop :=
  t.get LOADER_STATE_STATE = LD_ERROR ∧ t.get LOADER_P = s.get LOADER_P_APPLIED % 2 ^ LOADER_P.width ∧ t.get LOADER_ERROR_VALID = 1 ∧ t.get LOADER_ERROR_CAUSE = cause ∧
    t.get LOADER_ERROR_SEQ = seq % 2 ^ 24 ∧ Counted s t LOADER_COUNT_ERRORS ∧ t.get LOADER_SWAP_PEND = 0 ∧
    Logged s t 5 3 63 seq ∧ t.dev.held = s.dev.held ++ [s.firing 487, s.firing 502] ∧ t.dev.loader = ldClear s.dev.loader ∧
    Frame s t (failFlds s)

/-- The host's image queue, if there is one, holds nothing (R328). -/
abbrev HostQuiet {σ : State} (w : Work σ) : Prop := (imageQueue w).all (fun q => decide (qFill w q.1 q.2 = 0)) = true

/-- The loader has come to frame f of an image from the host: f stands whole at the front of the stream (R307, R328). -/
abbrev FrameAt (s : State) (f : ImageFrame) : Prop :=
  s.get LOADER_STATE_STATE = LD_LOADING ∧ s.dev.loader.source = 3 ∧ s.dev.loader.ended = false ∧
    s.dev.loader.verifying = false ∧ HostQuiet s.view ∧ frameReady s.dev.loader.buf = true ∧ f = readFrame s.dev.loader.buf

/-- Behind frame f the stream has not ended: the last compressed block has not been handed on, or what it gives is still to come, or another
frame stands whole behind f (R312, R386). -/
abbrev StreamGoesOn (s : State) (f : ImageFrame) : Prop :=
  s.dev.loader.lastBlock = false ∨ s.dev.loader.dec ≠ [] ∨ frameReady (s.dev.loader.buf.drop (24 + f.payload.length)) = true

/-- Frame f of a TYPE passes its checks and is not held for memory training, and the stream goes on behind it unless it may be the last of
its image (R309, R310, R450). -/
abbrev FrameTaken (s : State) (f : ImageFrame) (type : Nat) : Prop :=
  FrameAt s f ∧ f.type = type ∧ frameFault s.dev.loader f = none ∧ s.dev.loader.holding = false ∧
    (s.dev.loader.paused = true ∨ type = TY_START ∨ type = TY_BOOTPARAM) ∧
    (type = TY_COMMIT ∨ type = TY_SIGNATURE ∨ StreamGoesOn s f)

/-- The loader behind a frame that it has consumed (R311). -/
def consumed (s : State) (f : ImageFrame) : LoaderSt := (consumeFrame s.view f).dev.loader

/-- A frame whose header, CRC or place in the order fails ends the image with cause HEADER, BODY or ORDER and its SEQ, whichever its
TYPE; a START for another part, or without the signature that the fuses ask for, ends it too (R309 to R312, R331). -/
def Clause.FrameFaults : Prop :=
  ∀ s : State, s.wf = true → ∀ f : ImageFrame, FrameAt s f →
    (∀ bad c y, (c, y) ∈ [(Instr.bootparam, TY_BOOTPARAM), (Instr.setting, TY_SETTING), (Instr.code, TY_CODE),
        (Instr.table bad, TY_TABLE), (Instr.hkpatch, TY_HKPATCH), (Instr.commit, TY_COMMIT),
        (Instr.signature, TY_SIGNATURE), (Instr.envelope, TY_ENVELOPE), (Instr.kernel, TY_KERNEL),
        (Instr.dspdata, TY_DSPDATA), (Instr.qdrpage bad, TY_QDRPAGE), (Instr.start, TY_START)] →
      ∀ cause, f.type = y → frameFault s.dev.loader f = some cause → Answers c s (fun t => ImageFails s t cause f.seq)) ∧
    (frameTypes.contains f.type = false → Answers .start s (fun t => ImageFails s t F_HEADER f.seq)) ∧
    (FrameTaken s f TY_START →
      (startOk s.view f = false → Answers .start s (fun t => ImageFails s t F_PART f.seq)) ∧
      (startOk s.view f = true → bit (ofLe (slice f.payload 6 1)) 0 = false → s.fuse.signRequired = true →
        Answers .start s (fun t => ImageFails s t F_SIG_MISSING f.seq)) ∧
      (startOk s.view f = true → (bit (ofLe (slice f.payload 6 1)) 0 = true ∨ s.fuse.signRequired = false) →
        Answers .start s (fun t => Leaves s t [] { s.view.dev with loader := { consumed s f with
          signed := bit (ofLe (slice f.payload 6 1)) 0, imageId := ofLe (slice f.payload 8 4) } })))

/-- BOOTPARAM writes the registers that it names at once, and a rejected write ends the image with cause CHECK; SETTING waits in the
shadows of its Image fields, and one that sets a bit outside them ends the image with that cause too; HKPATCH words wait for the
clasp point (R313, R315, R316). -/
def Clause.FramesStage : Prop :=
  ∀ s : State, s.wf = true → ∀ f : ImageFrame,
    (FrameTaken s f TY_BOOTPARAM →
      let r := bootWords s.view f.addr f.words
      r.2.dev.loader = s.dev.loader → HostQuiet r.2 →
      (r.1 = true → Answers .bootparam s (CarriedOut s (consumeFrame r.2 f))) ∧
      (r.1 = false → Answers .bootparam s (fun t => CarriedOut s (imageFail r.2 F_CHECK f.seq) t ∧
        t.get LOADER_STATE_STATE = LD_ERROR ∧ t.get LOADER_ERROR_CAUSE = F_CHECK))) ∧
    (FrameTaken s f TY_SETTING →
      let words := (settingBases f).flatMap (fun b => f.words.map (fun x => (b + 4 * x.1, x.2)))
      (words.all (fun x => settingWordOk x.1 x.2) = false → Answers .setting s (fun t => ImageFails s t F_CHECK f.seq)) ∧
      (words.all (fun x => settingWordOk x.1 x.2) = true → Answers .setting s (fun t =>
        let l := { consumed s f with
          shadows := words.foldl (fun l x => ((imageFields x.1).map (fun g =>
            (g, bits (settingLoad s.view x.1 x.2).1 g.lo g.width))).reverse ++ l) s.dev.loader.shadows }
        t.dev.loader = l ∧ StoresKept s t ∧
        ((∀ x ∈ words, inTile x.1 0x800 0x840 = false) → Leaves s t [] { s.view.dev with loader := l })))) ∧
    (FrameTaken s f TY_HKPATCH → Answers .hkpatch s (fun t => Leaves s t [] { s.view.dev with loader := { consumed s f with
      patch := s.dev.loader.patch ++ f.words.map (fun x => (f.addr / 4 + x.1, x.2)) } }))

/-- ENVELOPE, KERNEL and DSPDATA write their payload to a memory of each target tile, TABLE and QDRPAGE write words of a QDR port that
is ready; the words of a CODE frame whose parity holds are written to the control stores of tiles that are not released, which
are held from then on, or, for a released tile, staged in DDR5; and no other byte of memory changes (R308, R314, R315). -/
def Clause.FramesWrite : Prop :=
  ∀ s : State, s.wf = true → ∀ f : ImageFrame,
    (∀ c y off, (c, y, off) ∈ [(Instr.envelope, TY_ENVELOPE, 0x100000), (Instr.kernel, TY_KERNEL, 0xC0000),
        (Instr.dspdata, TY_DSPDATA, 0x80000)] → FrameTaken s f y → Answers c s (fun t =>
      (∀ a, t.byteAt a = (s.view.each f.tiles (fun w u => w.wrBytes (tileBase u + off + f.addr) f.payload)).rd8 a) ∧
      RegsBut s t [] ∧ (∀ a, t.flashAt a = s.flashAt a) ∧ t.tl = s.tl ∧ t.fuse = s.fuse ∧ t.pending = s.pending ∧
      t.dev = { s.view.dev with loader := consumed s f })) ∧
    (∀ bad c y, (c, y) ∈ [(Instr.table bad, TY_TABLE), (Instr.qdrpage bad, TY_QDRPAGE)] → FrameTaken s f y →
      (∀ x ∈ f.words, bad.contains x.1 = false ∧ ∃ u off, placeOf (0x200000000 + f.addr + 4 * x.1) = .qdr u off ∧ qdrReach s.view u off = true) →
      Answers c s (fun t =>
        (∀ a, t.byteAt a =
          (s.view.each f.words (fun w x => w.wrLe (0x200000000 + f.addr + 4 * x.1) 4 x.2)).rd8 a) ∧
        RegsBut s t [] ∧ (∀ a, t.flashAt a = s.flashAt a) ∧ t.dev = { s.view.dev with loader := consumed s f })) ∧
    (FrameTaken s f TY_CODE →
      ((codeWords f).any (fun x => !codeWordOk x.2) = true → Answers .code s (fun t => ImageFails s t F_CHECK f.seq)) ∧
      ((∀ x ∈ codeWords f, codeWordOk x.2 = true) → codeWords f ≠ [] → (∀ u ∈ f.tiles, tileReleased s.view u = false) →
        Answers .code s (fun t =>
          let words := f.tiles.flatMap (fun u => (codeWords f).map (fun x => (u, x.1, x.2)))
          (∀ a, t.byteAt a = (s.view.each words (fun w x => w.wrBytes (csBase x.1 + 32 * x.2.1) (x.2.2.take 28))).rd8 a) ∧
          (∀ u ∈ f.tiles, t.get (CODE_HELD u) = 1) ∧ RegsBut s t (f.tiles.map CODE_HELD) ∧
          t.dev = { s.view.dev with loader := consumed s f })) ∧
      (∀ (u : Fin 32) (a : Nat) (b : List Byte), codeWords f = [(a, b)] → codeWordOk b = true → f.target = u →
        tileReleased s.view u = true →
        let at_ := stageAddr s.view u a
        let c := s.get LOADER_STAGE_CHAN
        (ddrResult s.view c (at_ - ddrBase c) = .ok → Answers .code s (fun t =>
          (∀ x, t.byteAt x = (s.view.wrBytes at_ b).rd8 x) ∧ t.dev.loader.code.contains (u.val, a) = true ∧ RegsBut s t ddrFlds)) ∧
        (ddrResult s.view c (at_ - ddrBase c) ≠ .ok → Answers .code s (fun t => ImageFails s t F_CHECK f.seq))))

end Sys2Proof

/-- The frames of an image, up to COMMIT. -/
def Obligations.ImageFrames : Prop :=
  Clause.FrameFaults ∧ Clause.FramesStage ∧ Clause.FramesWrite

namespace Sys2Proof

/-- A commit is accepted and waits for its point P, for a tick where there is no epoch, or for the next epoch edge (R317, R318). -/
def Waits (s t : State) (c : Commit) (l : LoaderSt) (p : Nat) (due : Option Nat) (edge : Bool) (fs : List Fld) : Prop :=
  t.get LOADER_STATE_STATE = LD_PENDING ∧ t.get LOADER_P = p % 2 ^ LOADER_P.width ∧
    Leaves s t ([LOADER_STATE_STATE, LOADER_P] ++ fs) { s.view.dev with loader := { l with
      commit := some c, ended := true, dueTick := due, awaitEdge := edge } }

/-- A commit is accepted and waits for its point (R317, R318). -/
abbrev Pends (s t : State) (c : Commit) (l : LoaderSt) (p : Nat) : Prop := Waits s t c l p none false []

/-- A commit of a valid setting without staged code or a change of lockstep (R317). -/
abbrev Sound (s : State) (c : Commit) : Prop :=
  commitReady s.view = true ∧ settingOk (newSetting s.view) c.release = true ∧ lockstepChanges s.view = false ∧
    s.dev.loader.code = []

/-- A sound commit by frame, in an epoch (R318). -/
abbrev Acceptable (s : State) (c : Commit) : Prop := Sound s c ∧ s.get TIME_EPOCH_STATUS_VALID ≠ 0 ∧ c.mode < 2

/-- The clasp point that a commit asks for: its own frame, or one that many frames ahead of now, at least 1,024 (R318). -/
def askedPoint (s : State) (c : Commit) : Nat := if c.mode = 0 then c.value else s.tl.count + max c.value 1024

/-- COMMIT of an unsigned image is accepted once the whole setting passes, with its point 1,024 frames ahead at least, or at the next
epoch edge, for which the epoch is armed when no tile is released; that of a signed image waits for SIGNATURE, whose check must
hold where the fuses hold a key hash; a late point, a bad setting, a release before the first epoch and a bad signature end the
image. Until the converters are locked and calibrated the loader holds the COMMIT, and checks it as soon as they are (R310, R317, R318, R330,
R451). -/
def Clause.Commits : Prop :=
  ∀ s : State, s.wf = true → ∀ f : ImageFrame,
    (FrameTaken s f TY_COMMIT → ∀ c, readCommit f = some c →
      (s.dev.loader.signed = true → StreamGoesOn s f → Answers .commit s (fun t => Leaves s t [] { s.view.dev with
        loader := { consumed s f with commit := some c } })) ∧
      (s.dev.loader.signed = false → commitReady s.view = false → Answers .commit s (fun t => Leaves s t [] { s.view.dev with
        loader := { s.dev.loader with commitHeld := true } })) ∧
      (s.dev.loader.signed = false → s.dev.loader.commitHeld = true → s.get DEV_STATUS_PLL_LOCK ≠ 0 →
        s.get DEV_STATUS_CONV_CAL_DONE = 0 → settingOk (newSetting s.view) c.release = true → lockstepChanges s.view = false →
        s.dev.loader.code = [] → s.get TIME_EPOCH_STATUS_VALID ≠ 0 → c.mode < 2 → (c.mode = 0 → s.tl.count + 1024 ≤ c.value) →
        Answers .foregroundCalibrationDone s (fun t => t.get LOADER_STATE_STATE = LD_PENDING ∧
          t.get LOADER_P = askedPoint s c % 2 ^ LOADER_P.width ∧ t.dev.loader = { consumed s f with
            commitHeld := false, commit := some c, ended := true, dueTick := none, awaitEdge := false })) ∧
      (s.dev.loader.signed = false → Acceptable s c → (c.mode = 0 → s.tl.count + 1024 ≤ c.value) →
        Answers .commit s (fun t => Pends s t c (consumed s f) (askedPoint s c))) ∧
      (s.dev.loader.signed = false → Acceptable s c → c.mode = 0 → c.value < s.tl.count + 1024 →
        Answers .commit s (fun t => ImageFails s t F_LATE f.seq)) ∧
      (s.dev.loader.signed = false → commitReady s.view = true → settingOk (newSetting s.view) c.release = false →
        Answers .commit s (fun t => ImageFails s t F_CHECK f.seq)) ∧
      (s.dev.loader.signed = false → Sound s c → c.mode < 2 → s.get TIME_EPOCH_STATUS_VALID = 0 →
        (c.release ≠ 0 → Answers .commit s (fun t => ImageFails s t F_CHECK f.seq)) ∧
        (c.release = 0 → Answers .commit s (fun t => Waits s t c (consumed s f) 0 (some (s.dev.ticks + 1024)) false []))) ∧
      (s.dev.loader.signed = false → Sound s c → c.mode = 2 → Answers .commit s (fun t =>
        Waits s t c (consumed s f) (s.get LOADER_P) none true (if anyReleased s.view then [] else [TIME_EPOCH_CTRL]) ∧
        (anyReleased s.view = false → t.get TIME_EPOCH_CTRL = 1)))) ∧
    (FrameTaken s f TY_SIGNATURE → (s.fuse.hashSet = true → Answers .signature s (fun t => Leaves s t [] { s.view.dev with
        loader := { consumed s f with verifying := true, ended := true, sig := f.payload } })) ∧
      (s.fuse.hashSet = false → ∀ c, s.dev.loader.commit = some c → Acceptable s c → (c.mode = 0 → s.tl.count + 1024 ≤ c.value) →
        Answers .signature s (fun t => Pends s t c (consumed s f) (askedPoint s c)))) ∧
    (s.get LOADER_STATE_STATE = LD_LOADING → s.dev.loader.verifying = true → s.dev.loader.source = 3 → HostQuiet s.view →
      let good := signatureOk s.fuse.keyHash s.dev.loader.stream s.dev.loader.sig
      (good = false → Answers .signatureCheckDone s (fun t => ImageFails s t F_SIG_BAD (lastSeq s.view))) ∧
      (∀ c, s.dev.loader.commit = some c → commitReady s.view = false → good = true → Answers .signatureCheckDone s (fun t =>
        Leaves s t [] { s.view.dev with loader := { s.dev.loader with commitHeld := true } })) ∧
      (∀ c, s.dev.loader.commit = some c → Acceptable s c → (c.mode = 0 → s.tl.count + 1024 ≤ c.value) → good = true →
        Answers .signatureCheckDone s (fun t => Pends s t c s.dev.loader (askedPoint s c))))

/-- At the clasp point every staged value takes effect, the tiles that RELEASE names run from START with their cursor 64 frames ahead,
the image is the committed one, and the loader is IDLE again; the staged values here are those of the device blocks (R50, R216,
R319, R320). -/
def Clause.ClaspPoint : Prop :=
  ∀ s : State, s.wf = true → ∀ c : Commit, s.dev.loader.commit = some c → pointDue s.view = true → s.dev.heldFrames = none →
    s.dev.loader.code = [] → s.get LOADER_SWAP_PEND = 0 → s.dev.loader.patch = [] → HostQuiet s.view →
    (∀ x ∈ s.dev.loader.shadows, 0x10000 ≤ x.1.addr ∧ x.1.addr < 0x602000) → (∀ n ∈ s.dev.notes, n.waiting = none) →
    Answers .claspPoint s (fun t =>
      (∀ x ∈ s.dev.loader.shadows, t.get x.1 = (newSetting s.view).get x.1) ∧ t.get DEV_STATUS_IMAGE_COMMITTED = 1 ∧
      t.get LOADER_IMAGE_ID = s.dev.loader.imageId % 2 ^ 32 ∧ Counted s t LOADER_COUNT_COMMITS ∧
      t.get LOADER_STATE_STATE = LD_IDLE ∧ t.get LOADER_STATE_SOURCE = 0 ∧
      t.get LOADER_STATE_VERIFIED = b2n s.dev.loader.verifying ∧ (∃ g ∈ t.dev.held, g.src = 501) ∧
      (∀ u : Fin 32, bit c.release u = true → s.get (SEQ_STATE_STATE u) = NOT_RELEASED → s.get THERM_STORM_TRIPPED = 0 →
        t.get (SEQ_STATE_STATE u) = RUN ∧ t.get (SEQ_RESTART u) = s.get (SEQ_CFG_START u) % 2 ^ (SEQ_RESTART u).width ∧
        (t.view.seq u).cursor = s.tl.count + 64 ∧ (t.view.seq u).next = s.get (SEQ_CFG_START u) ∧ t.get (SEQ_SP u) = 0) ∧
      (∀ u : Fin 32, bit c.release u = false → t.get (SEQ_STATE_STATE u) = s.get (SEQ_STATE_STATE u)) ∧
      t.tl = s.tl ∧ t.fuse = s.fuse ∧ t.pending = s.pending ∧ StoresKept s t)

end Sys2Proof

/-- A commit and its clasp point. -/
def Obligations.Commitment : Prop :=
  Clause.Commits ∧ Clause.ClaspPoint

namespace Sys2Proof

/-- ABORT ends an image that is loading, and one that is pending far enough from its point, and is ignored otherwise; CLEAR takes the
loader out of ERROR; the start-up load takes the slot that is valid, and of two valid slots the newer one, with the other behind it,
and with none it fails with cause FLASH and leaves the loader to the host (R321, R324, R327, R328). -/
def Clause.LoaderControl : Prop :=
  ∀ s : State, s.wf = true →
    let stops := s.get LOADER_STATE_STATE = LD_LOADING ∨ (s.get LOADER_STATE_STATE = LD_PENDING ∧ abortInTime s.view = true)
    (∀ via, stops → s.dev.loader.source = 3 → HostQuiet s.view →
      Answers (.loaderAbort via) s (fun t => ImageFails s t F_HOST_ABORT (lastSeq s.view))) ∧
    (∀ via, ¬stops → Answers (.loaderAbort via) s (fun t =>
      Logged s t 2 (viaPath via).code 63 LOADER_CTRL_ABORT.addr ∧
      Leaves s t (logFlds (s.get DEV_ERRLOG_HEAD)) { s.view.dev with held := s.dev.held ++ [s.firing 487] })) ∧
    (s.get LOADER_STATE_STATE = LD_ERROR → HostQuiet s.view → Answers .loaderClear s (fun t =>
      t.get LOADER_STATE_STATE = LD_IDLE ∧ t.get LOADER_STATE_SOURCE = 0 ∧
      Plain s t [LOADER_STATE_STATE, LOADER_STATE_SOURCE])) ∧
    (s.dev.loader.boot = .flash → s.get DEV_STATUS_PLL_LOCK ≠ 0 → s.get LOADER_STATE_STATE = LD_IDLE →
      s.get LOADER_FLASH_CTRL_BUSY = 0 → s.get THERM_STORM_TRIPPED = 0 →
      (slotValid s.view 0 = false → slotValid s.view 1 = false → HostQuiet s.view → Answers .flashLoad s (fun t =>
        t.get LOADER_ERROR_VALID = 1 ∧ t.get LOADER_ERROR_CAUSE = F_FLASH ∧ t.get LOADER_STATE_STATE = LD_IDLE ∧
        t.get LOADER_STATE_SOURCE = 0 ∧ t.dev.loader.boot = .open_ ∧ (∃ g ∈ t.dev.held, g.src = 502))) ∧
      ∀ slot other, (slot, other) ∈ [(0, none), (1, none), (0, some 1), (1, some 0)] →
        slotValid s.view slot = true → slotValid s.view (1 - slot) = other.isSome →
        (other.isSome = true → seqBefore (slotGen s.view 0) (slotGen s.view 1) = decide (slot = 1)) →
        Answers .flashLoad s (fun t =>
          t.get LOADER_STATE_STATE = LD_LOADING ∧ t.get LOADER_STATE_SOURCE = 1 + slot ∧ t.get LOADER_BOOT_INFO_SLOT = slot ∧
          t.get LOADER_BOOT_GEN = slotGen s.view slot % 2 ^ 32 ∧
          t.get LOADER_BOOT_INFO_SLOT0_VALID = b2n (slotValid s.view 0) ∧
          t.get LOADER_BOOT_INFO_SLOT1_VALID = b2n (slotValid s.view 1) ∧
          t.dev.loader.source = 1 + slot ∧ t.dev.loader.flashPos = slotBase slot + 0x1000 ∧
          t.dev.loader.flashLeft = ofLe (s.view.flBytes (slotBase slot + 8) 4) ∧ t.dev.loader.otherSlot = other ∧
          Frame s t [LOADER_STATE_STATE, LOADER_STATE_SOURCE, LOADER_BOOT_INFO_SLOT, LOADER_BOOT_GEN,
            LOADER_BOOT_INFO_SLOT0_VALID, LOADER_BOOT_INFO_SLOT1_VALID]))

/-- A flash operation starts while none runs and the loader does not read the flash, and is rejected otherwise; an ERASE leaves its
sector erased, a PROGRAM of an erased page writes FLASH_BUF, and a READ fills it, and no other byte of flash changes (R326). -/
def Clause.FlashOperations : Prop :=
  ∀ s : State, s.wf = true →
    (∀ via c op, (c, op) ∈ [(Instr.flashErase via, 1), (Instr.flashProgram via, 2), (Instr.flashRead via, 3)] →
      s.get THERM_STORM_TRIPPED = 0 →
      (s.get LOADER_FLASH_CTRL_BUSY = 0 → flashLoading s.view = false → Answers c s (fun t =>
        t.get LOADER_FLASH_CTRL_BUSY = 1 ∧ t.get LOADER_FLASH_CTRL_OP = op ∧
        Leaves s t [LOADER_FLASH_CTRL_BUSY, LOADER_FLASH_CTRL_OP] { s.view.dev with loader := { s.dev.loader with
          flashOp := some (op, s.get LOADER_FLASH_ADDR), flashOps := s.dev.loader.flashOps + 1 } })) ∧
      ((s.get LOADER_FLASH_CTRL_BUSY ≠ 0 ∨ flashLoading s.view = true) → Answers c s (fun t => Counted s t LOADER_REJECT_COUNT ∧
        Logged s t 3 (viaPath via).code 63 LOADER_FLASH_CTRL_GO.addr ∧ t.dev.loader = s.dev.loader ∧
        t.get LOADER_FLASH_CTRL_OP = s.get LOADER_FLASH_CTRL_OP))) ∧
    (∀ op a, s.dev.loader.flashOp = some (op, a) → Answers .flashOpDone s (fun t =>
      let page := a / 256 * 256
      let sector := a / 65536 * 65536
      t.get LOADER_FLASH_CTRL_BUSY = 0 ∧
      t.dev = { s.view.dev with loader := { s.dev.loader with flashOp := none } } ∧
      (op = 1 → (∀ b, t.flashAt b = if sector ≤ b ∧ b < sector + 65536 then 0xFF else s.flashAt b) ∧
        RegsBut s t [LOADER_FLASH_CTRL_BUSY]) ∧
      (op = 2 → (∀ b, ¬(page ≤ b ∧ b < page + 256) → t.flashAt b = s.flashAt b) ∧
        (∀ i < 256, s.flashAt (page + i) = 0xFF → t.flashAt (page + i) = (flashBuf s.view).getD i 0) ∧
        RegsBut s t [LOADER_FLASH_CTRL_BUSY]) ∧
      (op = 3 → (∀ n < 64, t.get (LOADER_FLASH_BUF n) = ofLe (s.view.flBytes (page + 4 * n) 4)) ∧
        (∀ b, t.flashAt b = s.flashAt b) ∧
        RegsBut s t (LOADER_FLASH_CTRL_BUSY :: (List.range 64).map LOADER_FLASH_BUF)) ∧
      (∀ b, t.byteAt b = s.byteAt b) ∧ t.fuse = s.fuse))

/-- The JTAG port alone programs the fuses, while no tile is released: PROG_HASH burns FUSE_DATA as the key hash once, PROG_SIGN
sets SIGN_REQUIRED where a key hash is set; an attempt over another path or with a tile released is rejected, and one that the
fuses do not admit starts nothing. The fuses change when programming completes, and no bit returns to 0 (R331). -/
def Clause.FuseProgramming : Prop :=
  ∀ s : State, s.wf = true →
    (∀ c, (c = Instr.progHash .jtag ∧ s.fuse.hashSet = false) ∨ (c = Instr.progSign .jtag ∧ s.fuse.hashSet = true) →
      anyReleased s.view = false → s.get LOADER_FUSE_PROG_BUSY = 0 → Answers c s (fun t =>
        t.get LOADER_FUSE_PROG_BUSY = 1 ∧ t.get FUSE_HASH = b2n (decide (c = Instr.progHash .jtag)) ∧
        t.get FUSE_SIGN = b2n (decide (c = Instr.progSign .jtag)) ∧
        Plain s t [LOADER_FUSE_PROG_BUSY, FUSE_HASH, FUSE_SIGN])) ∧
    (∀ c, (c = Instr.progHash .jtag ∧ s.fuse.hashSet = true) ∨ (c = Instr.progSign .jtag ∧ s.fuse.hashSet = false) →
      anyReleased s.view = false → s.get LOADER_FUSE_PROG_BUSY = 0 → Answers c s (fun t => Leaves s t [] s.view.dev)) ∧
    (∀ via c, (c = Instr.progHash via ∨ c = Instr.progSign via) → (via ≠ .jtag ∨ anyReleased s.view = true) →
      Answers c s (fun t => Counted s t LOADER_REJECT_COUNT ∧
        Logged s t 3 (viaPath via).code 63 LOADER_FUSE_PROG_PROG_HASH.addr ∧ t.fuse = s.fuse ∧
        t.get LOADER_FUSE_PROG_BUSY = s.get LOADER_FUSE_PROG_BUSY)) ∧
    (s.get LOADER_FUSE_PROG_BUSY ≠ 0 → Answers .fuseProgrammingDone s (fun t =>
      t.get LOADER_FUSE_PROG_BUSY = 0 ∧ t.fuse.hashSet = (s.fuse.hashSet || decide (s.get FUSE_HASH ≠ 0)) ∧
      t.fuse.signRequired = (s.fuse.signRequired || (decide (s.get FUSE_SIGN ≠ 0) && s.fuse.hashSet)) ∧
      (s.get FUSE_HASH ≠ 0 → s.fuse.hashSet = false → t.fuse.keyHash = fuseData s.view) ∧ t.fuse.mac = s.fuse.mac ∧
      FusesGrow s.fuse t.fuse ∧ RegsBut s t [LOADER_FUSE_PROG_BUSY, FUSE_HASH, FUSE_SIGN] ∧ StoresKept s t ∧ t.tl = s.tl ∧
      t.pending = s.pending ∧ t.dev = s.view.dev))

end Sys2Proof

/-- Flash operations and fuse programming. -/
def Obligations.FlashAndFuses : Prop :=
  Clause.FlashOperations ∧ Clause.FuseProgramming

namespace Sys2Proof

/-- A decompressor has the block of a job, and its 8-byte header and payload are decoded so (R392). -/
def decoded (j : DecJob) : Decoded := blockDecode (j.block.take 8) (slice j.block 8 (blockInLen j.block))

/-- A decompressor decodes the block of a compressed image that it holds; the output joins the frame stream once every block before it
has joined, strictly in block order; a block that fails ends the image with cause DECOMP, shows its cause and fires 485 (R329,
R392, R396). A block that is whole goes to the lowest-numbered free decompressor, up to the last of the image, behind which what there is of
it is discarded (R386). -/
def Clause.Decompression : Prop :=
  ∀ s : State, s.wf = true → s.get LOADER_STATE_STATE = LD_LOADING → s.dev.loader.source = 3 →
    s.dev.loader.comp = true → s.dev.loader.ended = false → HostQuiet s.view →
    (∀ (i : Fin 8) out, s.dev.loader.lastBlock = false → blockReady s.dev.loader.cbuf = true → decFree s.dev.loader.dec = some i.val →
      (∀ k ∈ s.dev.loader.dec, k.out = none) →
      let n := 8 + blockInLen s.dev.loader.cbuf
      let j : DecJob := ⟨i, s.dev.loader.cbuf.take n, none⟩
      let last := isLastBlock s.dev.loader.cbuf
      (last = true ∨ blockReady (s.dev.loader.cbuf.drop n) = false) → decoded j = .good out → Answers (.decompressBlock i) s (fun t =>
        Counted s t (COMP_D_BLOCKS i) ∧ Leaves s t [COMP_D_BLOCKS i] { s.view.dev with loader := { s.dev.loader with
          cbuf := if last then [] else s.dev.loader.cbuf.drop n
          lastBlock := last
          buf := if s.dev.loader.dec = [] then s.dev.loader.buf ++ out else s.dev.loader.buf
          dec := if s.dev.loader.dec = [] then [] else s.dev.loader.dec ++ [{ j with out := some out }] } })) ∧
    (s.dev.loader.lastBlock = true ∨ blockReady s.dev.loader.cbuf = false → ∀ (i : Fin 8) (j : DecJob) (before after : List DecJob),
      s.dev.loader.dec = before ++ j :: after → j.inst = i → j.out = none → (∀ k ∈ before ++ after, k.inst ≠ i) →
      (∀ out, decoded j = .good out → Answers (.decompressBlock i) s (fun t =>
        let done := before ++ { j with out := some out } :: after
        Counted s t (COMP_D_BLOCKS i) ∧ Leaves s t [COMP_D_BLOCKS i] { s.view.dev with loader := { s.dev.loader with
          buf := s.dev.loader.buf ++ (done.takeWhile (fun k => k.out.isSome)).flatMap (fun k => k.out.getD [])
          dec := done.dropWhile (fun k => k.out.isSome) } })) ∧
      (∀ cause f, (decoded j, cause, f) ∈ [(.expand, 1, COMP_D_ERR_EXPAND i), (.short, 2, COMP_D_ERR_SHORT i),
          (.format, 3, COMP_D_ERR_FORMAT i)] → Answers (.decompressBlock i) s (fun t =>
        Counted s t f ∧ t.get COMP_STATUS_DECOMP_ERR ≠ 0 ∧ t.get COMP_LAST_ERR_VALID ≠ 0 ∧
        (s.get COMP_LAST_ERR_VALID = 0 → t.get COMP_LAST_ERR_CAUSE = cause ∧ t.get COMP_LAST_ERR_INST = i) ∧
        t.get LOADER_STATE_STATE = LD_ERROR ∧ t.get LOADER_ERROR_CAUSE = F_DECOMP ∧
        t.dev.loader = ldClear s.dev.loader ∧
        t.dev.held = s.dev.held ++ (if s.get COMP_STATUS_DECOMP_ERR = 0 then [s.firing 485] else []) ++
          [s.firing 487, s.firing 502] ∧
        Frame s t ([f, COMP_STATUS_DECOMP_ERR, COMP_LAST_ERR_VALID, COMP_LAST_ERR_CAUSE, COMP_LAST_ERR_INST] ++ failFlds s))))

end Sys2Proof

/-- The loader's sources and control, and its decompressors. -/
def Obligations.LoaderAndDecompression : Prop :=
  Clause.LoaderControl ∧ Clause.Decompression

namespace Sys2Proof

/-! ## Memory ports (R398 to R420) -/

/-- DDR5 channel c has faulted with a cause: its queued writes, what waits for it and its replays are gone, the fault is logged, and 480 + c fires (R410). What a
notification does that waited for a ring there is left open. -/
def ChannelFaulted (s t : State) (c cause : Nat) (fs : List Fld) : Prop :=
  t.get (DDR_STATUS_STATE c) = DDR_FAULT ∧ t.get (DDR_STATUS_CAUSE c) = cause ∧
    ((∀ n ∈ s.dev.notes, n.waiting = none) → Logged s t 8 3 63 0 ∧
      Leaves s t ([DDR_STATUS_STATE c, DDR_STATUS_CAUSE c] ++ fs ++ logFlds (s.get DEV_ERRLOG_HEAD)) { s.view.dev with
        ddr := vset s.dev.ddr c { s.view.ddr c with
          replay := [false, false], fails := [0, 0], writes := [[], []], waiting := [], writer := [] }
        held := s.dev.held ++ [s.firing 487, s.firing (480 + c)] })

/-- The fields that show the refresh debt of channel c (R411, R420). -/
def debtFlds (c : Nat) : List Fld := [DDR_DEBT_RANK0 c, DDR_DEBT_RANK1 c, DDR_REF_STAT_N_MAX c]

/-- Training takes a port to READY with its trained bit, or to FAILED or FAULT with its source fired; a channel that leaves FAULT may lose
the contents of its own window and of nothing else (R404, R410, R418). -/
def Clause.PortTraining : Prop :=
  ∀ s : State, s.wf = true → ∀ p : Fin 2,
    Answers (.qdrTrain p) s (fun t => t.get (QDR_STATUS p) = QDR_TRAINING ∧ Plain s t [QDR_STATUS p]) ∧
    (s.get (QDR_STATUS p) = QDR_TRAINING →
      Answers (.qdrTrainDone p true) s (fun t => t.get (QDR_STATUS p) = QDR_READY ∧ t.get (qdrTrainedBit p) = 1 ∧
        Plain s t [QDR_STATUS p, qdrTrainedBit p]) ∧
      Answers (.qdrTrainDone p false) s (fun t => t.get (QDR_STATUS p) = QDR_FAILED ∧ Logged s t 8 3 63 0 ∧
        Leaves s t (QDR_STATUS p :: logFlds (s.get DEV_ERRLOG_HEAD)) { s.view.dev with
          held := s.dev.held ++ [s.firing 487, s.firing (482 + p)] })) ∧
    Answers (.ddrTrain p) s (fun t => t.get (DDR_STATUS_STATE p) = DDR_TRAINING ∧ RegsBut s t [DDR_STATUS_STATE p] ∧
      t.dev = { s.view.dev with ddr := vset s.dev.ddr p DdrSt.reset } ∧
      (s.get (DDR_STATUS_STATE p) ≠ DDR_FAULT → StoresKept s t) ∧
      (∀ a, ¬(ddrBase p ≤ a ∧ a < ddrBase p + 2 ^ 37) → t.byteAt a = s.byteAt a) ∧ (∀ a, t.flashAt a = s.flashAt a) ∧
      t.tl = s.tl ∧ t.fuse = s.fuse ∧ t.pending = s.pending) ∧
    (s.get (DDR_STATUS_STATE p) = DDR_TRAINING →
      Answers (.ddrTrainDone p true) s (fun t => t.get (DDR_STATUS_STATE p) = DDR_READY ∧ t.get (DDR_STATUS_CAUSE p) = 0 ∧
        t.get (ddrTrained p) = 1 ∧ Plain s t ([DDR_STATUS_STATE p, DDR_STATUS_CAUSE p, ddrTrained p] ++ debtFlds p)) ∧
      Answers (.ddrTrainDone p false) s (fun t => ChannelFaulted s t p 1 []))

/-- The fields that count the order of requests on channel c (R408), and its row-hammer work where a row opens (R416). -/
def requestFlds (c : Nat) (opens : Bool) : List Fld :=
  [DDR_ORDER_FWD c, DDR_ORDER_INORDER c] ++ (if opens then [DDR_RH_STAT_NREF c, DDR_RH_STAT_RFM c] else [])

/-- A request of a ready channel within its capacity reads the newest bytes, and counts a read of a queued line as forwarded and a request
for another line of a queued write's row as in order, which keeps the bank in order until that write has drained; a read of a bank in order
finds the writes of the bank drained; a write stores its bytes within its line and nothing else, and joins the queue of its subchannel, which
holds 64. Past the installed capacity a read gives zeros and a write is logged. A request takes its place among those that wait while its
subchannel replays, while its rank refreshes where it reads or opens a row, and behind one to its line that waits; one that is
served wakes a channel from frost (R19, R29, R406 to R409, R411, R414). -/
def Clause.ChannelRequests : Prop :=
  ∀ s : State, s.wf = true → ∀ (c : Fin 2) (off : Fin (2 ^ 37)) (cls : Fin 3) (n : Fin 65) (bytes : List Byte) (opens : Bool)
      (drained : Nat) (hot : Bool),
    let request := Instr.ddrRequest c off cls n bytes opens drained hot
    let a := ddrBase c + off
    let room := 64 - off.val % 64
    let sub := bits off 6 1
    let d := s.view.ddr c
    let line := off.val / 64
    let q := (d.writes.getD sub []).take ((d.writes.getD sub []).length - drained)
    let bank := fun x : DdrWrite => decide (bankOf s.view c (x.line * 64) = bankOf s.view c off)
    let queued := q.any (fun x => decide (x.line = line))
    let waits := d.replay.getD sub false || (d.busy.getD (rankOf s.view c off) false && (decide (bytes = []) || opens)) ||
      d.waiting.any (fun x => decide (x.off / 64 = line))
    let other := fun x : DdrWrite => decide (x.line ≠ line) && bank x && decide (rowOf s.view c (x.line * 64) = rowOf s.view c off)
    let kept := q.map (fun x => if other x then { x with order := true } else x)
    let inOrder := kept.any (fun x => x.order && bank x)
    (s.get (DDR_STATUS_STATE c) = DDR_READY → off.val < ddrCapacity s.view c → waits = false →
      (bytes = [] → Answers request s (fun t =>
        t.dev.out = [.port "DDR" ((s.view.rdBytes a (min n.val room)).map (·.toNat))] ∧
        (queued = true → Counted s t (DDR_ORDER_FWD c)) ∧ (q.any other = true → Counted s t (DDR_ORDER_INORDER c)) ∧
        (t.view.ddr c).writes = d.writes.set sub (if inOrder then kept.filter (fun x => !bank x) else kept) ∧
        t.dev = { s.dev with out := t.dev.out, ddr := t.dev.ddr } ∧ (∀ k, k ≠ c.val → t.view.ddr k = s.view.ddr k) ∧
        Frame s t (requestFlds c opens))) ∧
      (bytes ≠ [] → Answers request s (fun t =>
        (∀ i < min bytes.length room, t.byteAt (a + i) = bytes.getD i 0) ∧ MemBut s t a (min bytes.length room) ∧
        (q.any other = true → Counted s t (DDR_ORDER_INORDER c)) ∧
        (t.view.ddr c).writes = d.writes.set sub (⟨line, cls + 1, false⟩ ::
          (if 64 ≤ q.length then kept.take (q.length - 1) else kept)) ∧
        RegsBut s t (requestFlds c opens) ∧ (∀ b, t.flashAt b = s.flashAt b) ∧
        t.dev = { s.view.dev with ddr := t.dev.ddr } ∧ (∀ k, k ≠ c.val → t.view.ddr k = s.view.ddr k)))) ∧
    (s.get (DDR_STATUS_STATE c) = DDR_READY ∨ s.get (DDR_STATUS_STATE c) = DDR_FROST → off.val < ddrCapacity s.view c → waits = true →
      Answers request s (fun t => (∀ b, t.byteAt b = (s.view.wrBytes a (bytes.take room)).rd8 b) ∧ RegsBut s t [] ∧
        (∀ b, t.flashAt b = s.flashAt b) ∧ t.dev = { s.view.dev with ddr := vset s.dev.ddr c { d with
          waiting := d.waiting ++ [⟨off, cls + 1, decide (bytes ≠ []), opens, drained, hot,
            if bytes = [] then some (s.view.rdBytes a (min n.val room)) else none⟩] } })) ∧
    (s.get (DDR_STATUS_STATE c) = DDR_FROST → off.val < ddrCapacity s.view c → waits = false →
      Answers request s (fun t => t.get (DDR_STATUS_STATE c) = DDR_READY ∧
        (bytes = [] → t.dev.out = [.port "DDR" ((s.view.rdBytes a (min n.val room)).map (·.toNat))]) ∧
        (bytes ≠ [] → ∀ i < min bytes.length room, t.byteAt (a + i) = bytes.getD i 0))) ∧
    (s.get (DDR_STATUS_STATE c) = DDR_READY ∨ s.get (DDR_STATUS_STATE c) = DDR_FROST → ddrCapacity s.view c ≤ off.val →
      (bytes = [] → Answers request s (fun t =>
        t.dev.out = [.port "DDR" (List.replicate (min n.val room) 0)] ∧ Plain s t [])) ∧
      (bytes ≠ [] → Answers request s (fun t => Logged s t 1 3 63 a ∧
        Leaves s t (logFlds (s.get DEV_ERRLOG_HEAD)) { s.view.dev with held := s.dev.held ++ [s.firing 487] })))

/-- An activate takes its place in the table of its bank; one whose count reaches THR activates and precharges each neighbour of its row,
activates that count in their turn, sends an RFM with RFM_EN, all before the request is served, and leaves the row's count at 0; a table
clears in whole (R415, R416). -/
def Clause.RowHammer : Prop :=
  ∀ s : State, s.wf = true → ∀ (c : Fin 2) (off : Fin (2 ^ 37)) (cls : Fin 3) (n : Fin 65) (drained : Nat) (hot : Bool),
    let d := s.view.ddr c
    let sub := bits off 6 1
    let bank := bankOf s.view c off
    let row := rowOf s.view c off
    let r := activate d.acts bank row
    let cmds := d.cmds.getD sub []
    (s.get (DDR_STATUS_STATE c) = DDR_READY → off.val < ddrCapacity s.view c →
      (d.replay.getD sub false || d.busy.getD (rankOf s.view c off) false) = false →
      d.waiting.any (fun x => decide (x.off / 64 = off.val / 64)) = false → d.writes.getD sub [] = [] →
      (r.2 < s.get (DDR_RH_THR c) → Answers (.ddrRequest c off cls n [] true drained hot) s (fun t =>
        (t.view.ddr c).acts = r.1 ∧
        (t.view.ddr c).cmds = d.cmds.set sub ((⟨.read, off⟩ :: ⟨.activate, off⟩ :: cmds).take 32) ∧ Frame s t [])) ∧
      (s.get (DDR_RH_THR c) ≤ r.2 → Answers (.ddrRequest c off cls n [] true drained hot) s (fun t =>
        let rfm := s.get (DDR_RH_RFM_EN c) ≠ 0
        let near := (neighbours s.view c row).map (rowStart s.view c off)
        (t.view.ddr c).acts = (near.foldl (fun acts a => (activate acts (bankOf s.view c a) (rowOf s.view c a)).1) r.1).map
          (fun x => if x.bank = bank ∧ x.row = row then { x with count := 0 } else x) ∧
        (t.view.ddr c).cmds = d.cmds.set sub ((⟨.read, off⟩ :: ((if rfm then [⟨.rfm, off⟩] else []) ++
          (near.flatMap (fun a => [⟨.activate, a⟩, ⟨.precharge, a⟩])).reverse ++
          ⟨.activate, off⟩ :: cmds)).take 32) ∧
        Counted s t (DDR_RH_STAT_NREF c) ∧ (rfm → Counted s t (DDR_RH_STAT_RFM c)) ∧
        Frame s t (DDR_RH_STAT_NREF c :: (if rfm then [DDR_RH_STAT_RFM c] else []))))) ∧
    Answers (.activateTableClear c) s (fun t => Leaves s t [] { s.view.dev with
      ddr := vset s.dev.ddr c { d with acts := [] } })

end Sys2Proof

/-- Requests of a DDR5 channel and its row-hammer work. -/
def Obligations.Channels : Prop :=
  Clause.ChannelRequests ∧ Clause.RowHammer

namespace Sys2Proof

/-- A request that waits is a read from outside, of one of the three classes, and is to give out the bytes bs. -/
abbrev Granted (x : DdrReq) (bs : List Byte) : Prop := x.data = some bs ∧ x.write = false ∧ 1 ≤ x.cls ∧ x.cls ≤ 3

/-- ALERT_N in service starts a replay, in which the subchannel sends the commands of its retry buffer again, oldest first, and fires the
channel's source; one during a replay fails it and starts it again, and the third failure in a row faults the channel with cause 2;
a replay that completes ends the run of failures and lets a request that waited be served (R19, R409, R410). -/
def Clause.CommandParity : Prop :=
  ∀ s : State, s.wf = true → ∀ c sub : Fin 2,
    let d := s.view.ddr c
    let fires := s.dev.held ++ [s.firing (480 + c)]
    let again := Out.port "DDR_REPLAY" (c.val :: sub.val :: ((d.cmds.getD sub []).reverse.flatMap (fun x => [x.op.code, x.at_])))
    (s.get (DDR_STATUS_STATE c) = DDR_READY ∨ s.get (DDR_STATUS_STATE c) = DDR_TRAINING →
      (d.replay.getD sub false = false → Answers (.ddrAlert c sub) s (fun t => Counted s t (DDR_PARITY_ALERTS c) ∧
        Leaves s t [DDR_PARITY_ALERTS c] { s.view.dev with
          ddr := vset s.dev.ddr c { d with replay := d.replay.set sub true }, held := fires, out := [again] })) ∧
      (d.replay.getD sub false = true → d.fails.getD sub 0 + 1 < 3 → Answers (.ddrAlert c sub) s (fun t =>
        Counted s t (DDR_PARITY_ALERTS c) ∧ Counted s t (DDR_PARITY_REPLAY_FAIL c) ∧
        Leaves s t [DDR_PARITY_ALERTS c, DDR_PARITY_REPLAY_FAIL c] { s.view.dev with
          ddr := vset s.dev.ddr c { d with replay := d.replay.set sub true, fails := d.fails.set sub (d.fails.getD sub 0 + 1) }
          held := fires, out := [again] })) ∧
      (d.replay.getD sub false = true → 3 ≤ d.fails.getD sub 0 + 1 → Answers (.ddrAlert c sub) s (fun t =>
        Counted s t (DDR_PARITY_ALERTS c) ∧ Counted s t (DDR_PARITY_REPLAY_FAIL c) ∧
        ChannelFaulted s t c 2 [DDR_PARITY_ALERTS c, DDR_PARITY_REPLAY_FAIL c]))) ∧
    (d.replay.getD sub false = true →
      (d.waiting = [] → Answers (.replayDone c sub true) s (fun t => Leaves s t [] { s.view.dev with
        ddr := vset s.dev.ddr c { d with replay := d.replay.set sub false, fails := d.fails.set sub 0 } })) ∧
      (∀ x bs, d.waiting = [x] → Granted x bs → bits x.off 6 1 = sub.val → d.busy.getD (rankOf s.view c x.off) false = false →
        Answers (.replayDone c sub true) s (fun t => (t.view.ddr c).waiting = [] ∧
          t.dev.out = [.port "DDR" (bs.map (·.toNat))])) ∧
      exec (.replayDone c sub false) s = exec (.ddrAlert c sub) s)

end Sys2Proof

/-- Training and command parity of the memory ports. -/
def Obligations.MemoryPorts : Prop :=
  Clause.PortTraining ∧ Clause.CommandParity

/-- The retry buffers of a channel behind a command that both subchannels have sent (R409, R411). -/
def bothSent (cmds : List (List DdrCmd)) (x : DdrCmd) : List (List DdrCmd) :=
  let put := fun (l : List (List DdrCmd)) (i : Nat) => l.set i ((x :: l.getD i []).take 32)
  put (put cmds 0) 1

/-- A refresh that is due is issued and pays one tREFI of the debt; up to MAXPOST it is postponed while a C1 request waits or the writer's
buffer holds more than 4 KiB, and for half a tREFI behind a refresh of the other rank, and above that it is forced and counted; its
completion lets a request that waited for the rank be served; frost keeps no debt and finds the queued writes drained, and its end reads MR4; a ZQ calibration is deferred in frost, and under
traffic for less than 128 ms. Refresh, MR4 polls and ZQ calibrations wait while a subchannel replays (R19, R409, R411 to R414, R417). -/
def Obligations.RefreshAndFrost : Prop :=
  ∀ s : State, s.wf = true → ∀ c r : Fin 2,
    let d := s.view.ddr c
    let n := refDue s.view c r
    let kept := fun (t : State) (fs : List Fld) (d : DdrSt) =>
      Leaves s t fs { s.view.dev with ddr := vset s.dev.ddr c d }
    (s.get (DDR_STATUS_STATE c) = DDR_READY → r.val < ddrRanks s.view c → 1 ≤ n → d.busy.getD r false = false →
      d.replay.any id = false →
      let soon := match d.lastRef.getD (1 - r.val) none with
        | some x => decide (s.dev.ticks < x + tRefi s.view c / 2)
        | none => false
      (∀ traffic, n ≤ maxPost s.view c → (traffic || ddrBusyTraffic s.view c || soon) = true →
        Answers (.refreshDue c r traffic) s (fun t => Leaves s t [] s.view.dev)) ∧
      (∀ traffic, (traffic || ddrBusyTraffic s.view c || soon) = false ∨ maxPost s.view c < n → Answers (.refreshDue c r traffic) s (fun t =>
        let debt := d.debt.set r (d.debt.getD r 0 - tRefi s.view c)
        (maxPost s.view c < n → Counted s t (DDR_REF_STAT_FORCED c)) ∧
        t.get (DDR_DEBT_RANK0 c) = min 0xFFFF (debt.getD 0 0) ∧ t.get (DDR_DEBT_RANK1 c) = min 0xFFFF (debt.getD 1 0) ∧
        kept t (debtFlds c ++ (if maxPost s.view c < n then [DDR_REF_STAT_FORCED c] else []))
          { d with debt := debt, busy := d.busy.set r true, lastRef := d.lastRef.set r (some s.dev.ticks),
                   cmds := bothSent d.cmds ⟨.refresh, r⟩ }))) ∧
    (d.replay.any id = true → s.get (DDR_STATUS_STATE c) = DDR_READY → r.val < ddrRanks s.view c → ∀ (hot traffic : Bool) (ms : BitVec 16),
      Answers (.refreshDue c r traffic) s (fun t => Leaves s t [] s.view.dev) ∧
      Answers (.mr4Poll c hot) s (fun t => Leaves s t [] s.view.dev) ∧
      Answers (.zqDue c r traffic ms) s (fun t => kept t [DDR_ZQ_MAXDEFER_MS c] { d with zqDue := d.zqDue.set r true })) ∧
    (d.waiting = [] → Answers (.refreshComplete c r) s (fun t => kept t [] { d with busy := d.busy.set r false })) ∧
    (∀ x bs, d.waiting = [x] → Granted x bs → rankOf s.view c x.off = r.val → d.replay.getD (bits x.off 6 1) false = false →
      Answers (.refreshComplete c r) s (fun t => (t.view.ddr c).waiting = [] ∧ t.dev.out = [.port "DDR" (bs.map (·.toNat))])) ∧
    (∀ hot, s.get (DDR_STATUS_STATE c) = DDR_READY → d.replay.any id = false → Answers (.mr4Poll c hot) s (fun t =>
      t.get (DDR_STATUS_MR4_2X c) = b2n hot ∧
      kept t (DDR_STATUS_MR4_2X c :: debtFlds c) { d with cmds := bothSent d.cmds ⟨.modeRead, 0⟩ })) ∧
    (s.get (DDR_STATUS_STATE c) = DDR_READY → s.get (DDR_FROST_IDLE_US c) ≠ 0 → refDue s.view c 0 = 0 → refDue s.view c 1 = 0 →
      d.zqDue.any id = false → d.busy.any id = false → d.replay.any id = false → d.waiting = [] → d.writer = [] → Answers (.frostEntry c) s (fun t =>
        t.get (DDR_STATUS_STATE c) = DDR_FROST ∧ Counted s t (DDR_FROST_ENTRIES c) ∧
        (∀ i < 2, (d.writes.getD i []).length ≤ 64 → (t.view.ddr c).writes.getD i [] = []) ∧
        kept t [DDR_STATUS_STATE c, DDR_FROST_ENTRIES c]
          { d with writes := (t.view.ddr c).writes, cmds := (t.view.ddr c).cmds })) ∧
    (∀ hot, s.get (DDR_STATUS_STATE c) = DDR_FROST → Answers (.frostWake c hot) s (fun t =>
      t.get (DDR_STATUS_STATE c) = DDR_READY ∧ t.get (DDR_STATUS_MR4_2X c) = b2n hot ∧ t.get (DDR_DEBT_RANK0 c) = 0 ∧
      t.get (DDR_DEBT_RANK1 c) = 0 ∧ kept t (DDR_STATUS_STATE c :: DDR_STATUS_MR4_2X c :: debtFlds c)
        { d with debt := [0, 0], zqDue := [false, false], cmds := (t.view.ddr c).cmds })) ∧
    (∀ (traffic : Bool) (ms : BitVec 16), r.val < ddrRanks s.view c →
      let longest := fun t : State => t.get (DDR_ZQ_MAXDEFER_MS c) = max (s.get (DDR_ZQ_MAXDEFER_MS c)) ms.toNat % 2 ^ 16
      (s.get (DDR_STATUS_STATE c) = DDR_READY → d.replay.any id = false → Answers (.zqDue c r traffic ms) s (fun t =>
        let wait := (traffic || ddrBusyTraffic s.view c) && decide (ms.toNat < 128)
        longest t ∧ kept t [DDR_ZQ_MAXDEFER_MS c]
          { d with zqDue := d.zqDue.set r wait, cmds := if wait then d.cmds else bothSent d.cmds ⟨.zq, r⟩ })) ∧
      (s.get (DDR_STATUS_STATE c) = DDR_FROST → Answers (.zqDue c r traffic ms) s (fun t =>
        longest t ∧ kept t [DDR_ZQ_MAXDEFER_MS c] { d with zqDue := d.zqDue.set r true })))

namespace Sys2Proof

/-! ## Housekeeping and temperature (R421 to R442) -/

/-- The converter has nothing to do but the round: no patch is staged, and no injection, conversion or calibration waits (R428). -/
abbrev ConverterFree (s : State) : Prop :=
  s.dev.hk.patch = [] ∧ s.dev.hk.thermalDue = false ∧ s.get HK_INJ_CTRL_PENDING = 0 ∧ s.dev.hk.calWanted = false

/-- The code of a conversion of an entry word under what the converter meets: 2^23 G (V(POS) − V(NEG)) / V_REF to the nearest, corrected with
the offset and the REF code of the last calibration at that gain, if there was one, so that GND gives 0 and REF its nominal code (R421; the
voltages of the channels and the correction are those of log entry 169). -/
def Converts (s : State) (x : HkAnalog) (word : Nat) (code : Int) : Prop :=
  let g := hkGain word
  let raw := roundQuot (2 ^ 23 * g * hkVolts x word) (2 * x.vref)
  x.vref ≠ 0 ∧ (s.dev.hk.cal[Nat.log2 g]? = none → code = raw) ∧
    ∀ off ref, s.dev.hk.cal[Nat.log2 g]? = some (off, ref) →
      ref ≠ off ∧ code = roundQuot ((raw - off) * (2 ^ 22 * g)) (ref - off)

/-- A firing of a source for what a round does: one that an event started carries the generation behind that event's (R272). -/
def roundFiring (s : State) (src : Nat) : Firing :=
  { s.firing src with gen := match s.dev.hk.gen with | none => 0 | some g => g + 1 }

/-- The generations of what the running round fires stay below the cut of R273. -/
abbrev BelowCut (s : State) : Prop := ∀ g, s.dev.hk.gen = some g → g + 1 < 7

/-- How long a conversion of an entry word that is no diode entry occupies the converter, in ns: its start-up, its integration, and the
auto-zero behind an over-range (R422, R424). -/
def occupancy (word : Nat) (ovr : Bool) : Nat :=
  50000 + (if bit word 13 then max 1 (bits word 17 10) * 100000
    else [1, 2, 5, 10].getD (bits word 15 2) 0 * (if bit word 14 then 16666667 else 20000000)) + (if ovr then 100000 else 0)

/-- A round starts by the mode in force or for an event, under the configuration now in force, and converts its first entry, for an event
once its delay, which runs from the round's start, is over; one that falls due during a round is skipped and counted in TIMER mode. Each
entry's result lands at its boundary, and the next entry or the end of the round follows; what a round for an event fires carries the
generation behind that event's, and its end lets a latched event act (R269, R272, R421, R422, R424 to R426, R428; the mode in force is
log entry 170). -/
def Clause.Rounds : Prop :=
  ∀ s : State, s.wf = true →
    let h := s.dev.hk
    (∀ into : Nat, s.get DEV_STATUS_REFCLK_OK ≠ 0 →
      (s.get HK_STATUS_ROUND ≠ 0 → Answers (.hkRoundStart into) s (fun t =>
        (h.mode = 1 → Counted s t HK_ROUNDS_SKIP) ∧ Plain s t (if h.mode = 1 then [HK_ROUNDS_SKIP] else []))) ∧
      (s.get HK_STATUS_ROUND = 0 → h.acted.isSome = true ∨ s.get HK_CTRL_MODE = 1 ∨ s.get HK_CTRL_MODE = 3 → ConverterFree s →
        let delay := if h.acted.isNone = true ∨ s.get HK_TRIG_DELAY_US = 0 then 0 else into + s.get HK_TRIG_DELAY_US * 1000
        let begun := { h with acted := none, nent := s.get HK_CTRL_NENT_M1 + 1, words := (List.range 16).map (hkEntryWord s.view),
                              mode := s.get HK_CTRL_MODE, next := 0, gen := h.acted, delay := delay }
        (h.item = none → delay = 0 → isReserved (hkEntryWord s.view 0) = false → Answers (.hkRoundStart into) s (fun t =>
          t.get HK_STATUS_ROUND = 1 ∧ t.get HK_STATUS_ENTRY = 0 ∧ Leaves s t [HK_STATUS_ROUND, HK_STATUS_ENTRY]
            { s.view.dev with hk := { begun with next := 1, item := some (.entry 0) } })) ∧
        (h.item ≠ none ∨ delay ≠ 0 → Answers (.hkRoundStart into) s (fun t =>
          t.get HK_STATUS_ROUND = 1 ∧ Leaves s t [HK_STATUS_ROUND] { s.view.dev with hk := begun })))) ∧
    (∀ (e : Fin 16) (x : HkAnalog) (elapsed : Nat) (code : Int), h.item = some (.entry e) → isDiode (h.words.getD e 0) = false →
      Converts s x (h.words.getD e 0) code → s.get (HK_PATCH 0) = 0 → ConverterFree s → BelowCut s → s.get HK_STATUS_ROUND ≠ 0 →
      let c := hkCode code
      let excess := if c.2 then [roundFiring s 494] else []
      let time := elapsed + occupancy (h.words.getD e 0) c.2
      let past := { h with clock := h.clock + time, item := none, delay := h.delay - time }
      let shown := fun t : State => t.get (HK_RESULT_CODE e) = c.1 ∧ t.get (HK_RESULT_OVR e) = b2n c.2 ∧
        t.get (HK_RESULT_VALID e) = 1
      let flds := [HK_RESULT_CODE e, HK_RESULT_OVR e, HK_RESULT_VALID e]
      (h.nent ≤ h.next → Answers (.entryBoundary x elapsed) s (fun t => shown t ∧ t.get HK_STATUS_ROUND = 0 ∧
        Counted s t HK_ROUNDS_COUNT ∧ Leaves s t (flds ++ [HK_STATUS_ROUND, HK_ROUNDS_COUNT]) { s.view.dev with
          held := s.dev.held ++ excess ++ [roundFiring s 492]
          hk := if h.gen.isSome then { past with gen := none, busyInput := h.latched.isSome, acted := h.latched, latched := none }
            else past })) ∧
      (h.next < h.nent → h.delay ≤ time → isReserved (h.words.getD h.next 0) = false → Answers (.entryBoundary x elapsed) s (fun t =>
        shown t ∧ t.get HK_STATUS_ENTRY = h.next % 16 ∧ Leaves s t (flds ++ [HK_STATUS_ENTRY]) { s.view.dev with
          held := s.dev.held ++ excess
          hk := { past with item := some (.entry h.next), next := h.next + 1 } })))

/-- Limit word j names entry e, and its code breaches the word's limit, or its change from the previous code does (R439). -/
def breaches (s : State) (e : Fin 16) (code : Int) (j : Nat) : Bool :=
  let x := s.get (HK_PATCH j)
  decide (bits x 24 4 = e) && breached (bits x 28 3) (sext 24 x) code (sext 24 (s.get (HK_RESULT_CODE e)))

/-- The limit steps run from word 0 up to the first whose operation is 0 or whose parity is odd: a breach by a word of the entry just converted
sets that entry's bit of HK.LIMIT and fires 494, and the first breach is kept while none is; a word with odd parity ends the walk and is
logged. Patch words whose clasp point has come are in force from the next entry boundary on, the later of two for one word (R315, R428,
R439). -/
def Clause.LimitSteps : Prop :=
  ∀ s : State, s.wf = true →
    let h := s.dev.hk
    (∀ (e : Fin 16) (x : HkAnalog) (elapsed n : Nat) (code : Int), h.item = some (.entry e) → isDiode (h.words.getD e 0) = false →
      Converts s x (h.words.getD e 0) code → ConverterFree s → BelowCut s → h.next < h.nent → h.nent ≤ 16 →
      s.get HK_STATUS_ROUND ≠ 0 → n ≤ 1024 → (∀ j < n, popcount 32 (s.get (HK_PATCH j)) % 2 = 0 ∧ bits (s.get (HK_PATCH j)) 28 3 ≠ 0) →
      let stop := s.get (HK_PATCH n)
      let odd := decide (n < 1024) && decide (popcount 32 stop % 2 = 1)
      (n = 1024 ∨ odd = true ∨ bits stop 28 3 = 0) →
      let c := hkCode code
      let hits := (List.range n).filter (breaches s e (sext 24 c.1))
      Answers (.entryBoundary x elapsed) s (fun t =>
        t.get HK_LIMIT = (if hits = [] then s.get HK_LIMIT else s.get HK_LIMIT ||| 2 ^ e.val) ∧
        (s.get HK_LIMIT_LAST_VALID ≠ 0 ∨ hits = [] → t.get HK_LIMIT_LAST_VALID = s.get HK_LIMIT_LAST_VALID ∧
          t.get HK_LIMIT_LAST_WORD = s.get HK_LIMIT_LAST_WORD ∧ t.get HK_LIMIT_LAST_ENTRY = s.get HK_LIMIT_LAST_ENTRY) ∧
        (∀ j, s.get HK_LIMIT_LAST_VALID = 0 → hits.head? = some j → t.get HK_LIMIT_LAST_VALID = 1 ∧
          t.get HK_LIMIT_LAST_WORD = j ∧ t.get HK_LIMIT_LAST_ENTRY = e) ∧
        (odd = true → t.get HK_STATUS_PATCH_ERR = 1 ∧ Logged s t 6 3 63 n) ∧
        (odd = false → t.get HK_STATUS_PATCH_ERR = s.get HK_STATUS_PATCH_ERR) ∧
        (isReserved (h.words.getD h.next 0) = false → t.dev.held = s.dev.held ++
          List.replicate (hits.length + b2n c.2) (roundFiring s 494) ++ (if odd then [s.firing 487] else [])))) ∧
    (∀ (x : HkAnalog) (elapsed : Nat), (∀ e, h.item = some (.entry e) → e < 16) → h.nent ≤ 16 →
      Answers (.entryBoundary x elapsed) s (fun t => t.dev.hk.patch = [] ∧
      ∀ j < 1024, t.get (HK_PATCH j) =
        ((h.patch.reverse.find? (fun y => decide (y.1 = j))).map (fun y => y.2 % 2 ^ 32)).getD (s.get (HK_PATCH j)))) ∧
    (∀ c, s.dev.loader.commit = some c → pointDue s.view = true → s.dev.heldFrames = none → s.dev.loader.patch ≠ [] → h.nent ≤ 16 →
      (∀ y ∈ s.dev.loader.shadows, ∀ j < 1024, y.1.key ≠ (HK_PATCH j).key) →
      let words := h.patch ++ s.dev.loader.patch
      Answers .claspPoint s (fun t =>
        (h.item ≠ none → t.dev.hk.patch = words ∧ ∀ j < 1024, t.get (HK_PATCH j) = s.get (HK_PATCH j)) ∧
        (h.item = none → t.dev.hk.patch = [] ∧ ∀ j < 1024, t.get (HK_PATCH j) =
          ((words.reverse.find? (fun y => decide (y.1 = j))).map (fun y => y.2 % 2 ^ 32)).getD (s.get (HK_PATCH j)))))

/-- A thermal injection, the host's conversion and a calibration each start at once at an idle converter and wait for the boundary at a
busy one; a second GO while one is pending is rejected. The host's conversion ends with its result and 493, and a calibration, which takes
12.6 ms, with 495 and the offset and REF code of each gain (R421, R428, R429, R431). -/
def Clause.Injections : Prop :=
  ∀ s : State, s.wf = true →
    let h := s.dev.hk
    (h.item ≠ none →
      Answers .thermalInjection s (fun t => Leaves s t [] { s.view.dev with hk := { h with thermalDue := true } }) ∧
      Answers .hkCalGo s (fun t => t.get HK_STATUS_CAL_PENDING = b2n (decide (s.get HK_INJ_CTRL_PENDING ≠ 0)) ∧
        Leaves s t [HK_STATUS_CAL_PENDING] { s.view.dev with hk := { h with calWanted := true } }) ∧
      (∀ via, s.get HK_INJ_CTRL_PENDING = 0 → Answers (.hkInjGo via) s (fun t => t.get HK_INJ_CTRL_PENDING = 1 ∧
        t.get HK_STATUS_INJ_PENDING = 1 ∧ t.get HK_STATUS_CAL_PENDING = b2n h.calWanted ∧
        Plain s t [HK_INJ_CTRL_PENDING, HK_STATUS_INJ_PENDING, HK_STATUS_CAL_PENDING]))) ∧
    (h.item = none → ConverterFree s →
      Answers .thermalInjection s (fun t => Leaves s t [] { s.view.dev with hk := { h with item := some .thermal } }) ∧
      Answers .hkCalGo s (fun t => t.get HK_CAL_RUNNING = 1 ∧ t.get HK_STATUS_CAL_PENDING = 0 ∧
        Leaves s t [HK_CAL_RUNNING, HK_STATUS_CAL_PENDING] { s.view.dev with hk := { h with item := some .calibrate } }) ∧
      (∀ via, isReserved (hkInjWord s.view) = false → Answers (.hkInjGo via) s (fun t => t.get HK_INJ_CTRL_PENDING = 1 ∧
        t.get HK_STATUS_INJ_PENDING = 1 ∧ Leaves s t [HK_INJ_CTRL_PENDING, HK_STATUS_INJ_PENDING, HK_STATUS_CAL_PENDING]
          { s.view.dev with hk := { h with item := some .inject } }))) ∧
    (∀ via, s.get HK_INJ_CTRL_PENDING ≠ 0 → Answers (.hkInjGo via) s (fun t => Counted s t LOADER_REJECT_COUNT ∧
      Logged s t 3 (viaPath via).code 63 HK_INJ_CTRL_GO.addr ∧ t.dev.hk = h ∧ StoresKept s t)) ∧
    (s.get HK_CAL_AUTO_S ≠ 0 → exec .hkCalAuto s = exec .hkCalGo s) ∧
    (∀ (x : HkAnalog) (elapsed : Nat), h.patch = [] → h.thermalDue = false → h.calWanted = false → s.get HK_STATUS_ROUND = 0 →
      (h.item = some .calibrate → s.get HK_INJ_CTRL_PENDING = 0 → Answers (.entryBoundary x elapsed) s (fun t =>
        t.get HK_CAL_RUNNING = 0 ∧ Leaves s t [HK_CAL_RUNNING] { s.view.dev with
          held := s.dev.held ++ [s.firing 495]
          hk := { h with clock := h.clock + (elapsed + 12600000), delay := h.delay - (elapsed + 12600000), item := none,
                         cal := (List.range 6).map (fun i => x.cal.getD i (0, 2 ^ (22 + i))) } })) ∧
      (∀ code, h.item = some .inject → s.get HK_INJ_CTRL_PENDING ≠ 0 → isDiode (hkInjWord s.view) = false →
        Converts s x (hkInjWord s.view) code → Answers (.entryBoundary x elapsed) s (fun t =>
          let c := hkCode code
          let time := elapsed + occupancy (hkInjWord s.view) c.2
          t.get HK_INJ_RESULT_CODE = c.1 ∧ t.get HK_INJ_RESULT_OVR = b2n c.2 ∧ t.get HK_INJ_RESULT_VALID = 1 ∧
          t.get HK_INJ_CTRL_PENDING = 0 ∧ t.get HK_STATUS_INJ_PENDING = 0 ∧ t.get HK_INJ_CTRL_DONE = 1 ∧
          Leaves s t [HK_INJ_RESULT_CODE, HK_INJ_RESULT_OVR, HK_INJ_RESULT_VALID, HK_INJ_CTRL_PENDING, HK_STATUS_INJ_PENDING,
            HK_INJ_CTRL_DONE, HK_STATUS_CAL_PENDING] { s.view.dev with
              held := s.dev.held ++ [s.firing 493] ++ (if c.2 then [s.firing 494] else [])
              hk := { h with clock := h.clock + time, delay := h.delay - time, item := none } })))

end Sys2Proof

/-- The housekeeping converter. -/
def Obligations.Housekeeping : Prop :=
  Clause.Rounds ∧ Clause.LimitSteps ∧ Clause.Injections

namespace Sys2Proof

/-- A plausible diode reading shows as TEMP and MAX and gives RATE against the newest reading at least a window older; an implausible one
reports a sensor fault; a rate at THROTTLE takes the step up and one that stays below RELEASE brings it down, and the current limit of the
fabric regulators follows the step (R430, R432 to R434, R436). -/
def Clause.Temperature : Prop :=
  ∀ s : State, s.wf = true → ∀ (x : HkAnalog) (code : Int) (elapsed : Nat),
    let h := s.dev.hk
    let temp := x.temp
    let time := elapsed + 1050000
    let now := h.clock + time
    let old := h.readings.find? (fun r => decide (r.1 + thermWindow s.view ≤ s.tl.count))
    let num : Int := match old with | some r => temp - r.2 | none => 0
    let den : Int := match old with | some r => (s.tl.count : Int) - r.1 | none => 1
    let reaches := fun t : Nat => (t : Int) * 10 * den ≤ num * 1000000000
    h.item = some .thermal → ConverterFree s → s.get HK_STATUS_ROUND = 0 → Converts s x thermalWord code → (hkCode code).2 = false →
    (-4000 ≤ temp → temp ≤ 15000 → (∀ x, h.lastTemp = some x → (temp - x).natAbs ≤ 2000) →
      (old = none → Answers (.entryBoundary x elapsed) s (fun t =>
        t.get THERM_TEMP_VALID = 1 ∧ t.get THERM_TEMP_TEMP = toField 16 temp ∧
        t.get THERM_MAX = toField 16 (max temp (sext 16 (s.get THERM_MAX))) ∧
        Leaves s t [THERM_TEMP_VALID, THERM_TEMP_TEMP, THERM_MAX] { s.view.dev with hk := { h with
          clock := now, delay := h.delay - time, item := none, prevOvr := false, lastTemp := some temp,
          readings := ((s.tl.count, temp) :: h.readings).take 64 } })) ∧
      (old.isSome = true → 0 < den → Answers (.entryBoundary x elapsed) s (fun t => t.get THERM_RATE_VALID = 1 ∧
        (num * 1000000000 % den = 0 → t.get THERM_RATE_RATE = toField 16 (satS 16 (num * 1000000000 / den))) ∧
        (s.get THERM_STATUS_SENSOR_FAULT = 0 → reaches (s.get THERM_THR_WARN) → t.get THERM_STATUS_WARN ≠ 0) ∧
        (s.get THERM_STATUS_SENSOR_FAULT = 0 → reaches (s.get THERM_THR_THROTTLE) → s.get THERM_STEP_STEP < 4 →
          (∀ x, h.lastStep = some x → x + 1000000000 ≤ now) → t.get THERM_STEP_STEP = s.get THERM_STEP_STEP + 1 ∧
          Counted s t THERM_COUNT_THROTTLES ∧ s.firing 489 ∈ t.dev.held ∧
          t.dev.out = [.currentLimit ([80, 72, 64, 56, 48].getD (s.get THERM_STEP_STEP + 1) 0)]) ∧
        (s.get THERM_STATUS_SENSOR_FAULT = 0 → ¬reaches (s.get THERM_THR_THROTTLE) → ¬reaches (s.get THERM_THR_RELEASE) →
          min 4 (s.get THERM_STEP_MIN_STEP) < s.get THERM_STEP_STEP → s.get THERM_STEP_STEP < 8 →
          (∃ x, h.releaseFrom = some x ∧ x + max 1 (s.get THERM_THR_RELEASE_S) * 1000000000 ≤ now) →
          t.get THERM_STEP_STEP = s.get THERM_STEP_STEP - 1 ∧ Counted s t THERM_COUNT_RELEASES ∧ s.firing 491 ∈ t.dev.held ∧
          (s.get THERM_STEP_STEP ≤ 4 →
            t.dev.out = [.currentLimit ([80, 72, 64, 56, 48].getD (s.get THERM_STEP_STEP - 1) 0)]))))) ∧
    (temp < -4000 ∨ 15000 < temp → Answers (.entryBoundary x elapsed) s (fun t =>
      t.get THERM_STATUS_SENSOR_FAULT = 1 ∧ t.get THERM_STATUS_CAUSE = 1 ∧ t.get THERM_STEP_STEP = s.get THERM_STEP_STEP ∧
      t.get THERM_TEMP_TEMP = s.get THERM_TEMP_TEMP ∧
      (s.get THERM_STATUS_SENSOR_FAULT = 0 → Logged s t 9 3 63 0 ∧ t.dev.hk.tempest = true ∧
        t.dev.held = s.dev.held ++ [s.firing 490, s.firing 487]) ∧
      (s.get THERM_STATUS_SENSOR_FAULT ≠ 0 → t.dev.held = s.dev.held ++ [s.firing 490])))

/-- A sensor fault that is not cleared forces step 4; CLEAR ends it; Storm switches the tiles off and keeps its cause, and the transmitters
fall idle (R436, R437). -/
def Clause.Storm : Prop :=
  ∀ s : State, s.wf = true →
    let h := s.dev.hk
    let cause := fun k : Fin 3 => if k.val = 0 then THERM_STORM_OVERTEMP
      else if k.val = 1 then THERM_STORM_DIODE_OPEN else THERM_STORM_DIODE_SHORT
    (s.get THERM_STATUS_SENSOR_FAULT ≠ 0 → h.tempest = true → Answers .tempestForced s (fun t =>
      t.get THERM_STEP_STEP = 4 ∧ t.get THERM_STATUS_TEMPEST_FORCED = 1 ∧
      Leaves s t [THERM_STEP_STEP, THERM_STATUS_TEMPEST_FORCED] { s.view.dev with out := [.currentLimit 48], hk := { h with
        tempest := false, lastStep := some h.clock, releaseFrom := some h.clock } })) ∧
    Answers .thermClear s (fun t => t.get THERM_STATUS_SENSOR_FAULT = 0 ∧ t.get THERM_STATUS_TEMPEST_FORCED = 0 ∧
      Leaves s t [THERM_STATUS_SENSOR_FAULT, THERM_STATUS_TEMPEST_FORCED] { s.view.dev with hk := { h with
        tempest := false, readings := [] } }) ∧
    (∀ k : Fin 3, s.get THERM_STORM_TRIPPED ≠ 0 → Answers (.stormTrip k) s (fun t => t.get (cause k) = 1 ∧ Plain s t [cause k])) ∧
    (∀ k : Fin 3, s.get THERM_STORM_TRIPPED = 0 → s.dev.loader.flashOp = none → Answers (.stormTrip k) s (fun t =>
      t.get THERM_STORM_TRIPPED = 1 ∧ t.get (cause k) = 1 ∧ t.get DEV_STATUS_TILES_RELEASED = 0 ∧
      (∀ u < 32, t.get (SEQ_STATE_STATE u) = NOT_RELEASED ∧ t.tile u = Tile.reset) ∧
      (∀ f : Fld, inRanges tileKeys f.key = false → (∀ g ∈ [THERM_STORM_TRIPPED, cause k, DEV_STATUS_TILES_RELEASED,
        DEV_FABRIC_CYCLE_PS] ++ (List.range 32).map LANE_TX, f.key ≠ g.key) → t.get f = s.get f) ∧
      (∀ a, ¬(tileBase 0 ≤ a ∧ a < tileBase 32) → t.byteAt a = s.byteAt a) ∧ (∀ a, t.flashAt a = s.flashAt a) ∧
      Out.ball "THERM_TRIP_N" 0 0 ∈ t.dev.out ∧ (∀ n < 32, Out.ball "SER_TX" n 0 ∈ t.dev.out) ∧
      t.dev.held = s.dev.held ∧ t.tl = s.tl ∧ t.fuse = s.fuse ∧ t.pending = s.pending))

end Sys2Proof

/-- Temperature, throttling and Storm. -/
def Obligations.Thermal : Prop :=
  Clause.Temperature ∧ Clause.Storm

namespace Sys2Proof

/-! ## Ethernet, PTP and compression (R371, R377 to R395) -/

end Sys2Proof

/-- A port that is up takes a frame for the device that carries IP or PTP, tagged or not, counts one with a bad FCS and one for another
address, size, tag or type, and answers an ARP request for the device's address (R292, R371). -/
def Obligations.EthernetFrames : Prop :=
  ∀ s : State, s.wf = true → ∀ (p : Fin 32) (f : List Byte), portUp s.view p = true →
    let tagged := decide (ofBe (slice f 12 2) = 0x8100)
    let h := if tagged then 16 else 12
    let type := ofBe (slice f h 2)
    let tagOk := tagged = true → s.get (ETH_CFG_VLAN_EN p) ≠ 0 ∧ ofBe (slice f 14 2) % 4096 = s.get (ETH_CFG_VID p)
    let fits := 60 ≤ f.length ∧
      f.length + 4 ≤ (if s.get TRANSPORT_CFG_JUMBO ≠ 0 then 9018 else 1518) + (if tagged then 4 else 0)
    let good := tagOk ∧ fits ∧ macTakes s.view p (ofBe (slice f 0 6)) type = true
    let b := f.drop (h + 2)
    Answers (.ethFrameReceive p f false) s (fun t => Counted s t (ETH_RX_ERR_FCS p) ∧ Plain s t [ETH_RX_ERR_FCS p]) ∧
    (type = 0x0800 ∨ type = 0x88F7 → good → Answers (.ethFrameReceive p f true) s (fun t =>
      Counted s t (ETH_RX_FRAMES p) ∧ Plain s t [ETH_RX_FRAMES p])) ∧
    (type = 0x86DD → good → Answers (.ethFrameReceive p f true) s (fun t =>
      Counted s t (ETH_RX_FRAMES p) ∧ Frame s t [ETH_RX_FRAMES p, ETH_TX_FRAMES p])) ∧
    (¬good ∨ [0x0800, 0x86DD, 0x0806, 0x88F7].contains type = false →
      Answers (.ethFrameReceive p f true) s (fun t => Counted s t (ETH_RX_ERR_DROP p) ∧ Plain s t [ETH_RX_ERR_DROP p])) ∧
    (type = 0x0806 → good → ofBe (slice b 0 8) = 0x0001080006040001 → s.get TRANSPORT_IP4 ≠ 0 →
      ofBe (slice b 24 4) = s.get TRANSPORT_IP4 → s.get THERM_STORM_TRIPPED = 0 → Answers (.ethFrameReceive p f true) s (fun t =>
        (∃ bytes pad : List Byte, pad.length = 60 - bytes.length ∧
          Framed t p (.frame p "ARP" ((bytes ++ pad).map (·.toNat))) (bytes ++ pad) ∧ bytes = ethHeader s.view p (ofBe (slice b 8 6)) 0x0806 ++
          beBytes 8 0x0001080006040002 ++ beBytes 6 (portMac s.view p) ++ beBytes 4 (s.get TRANSPORT_IP4) ++ slice b 8 10) ∧ t.dev = { s.dev with out := t.dev.out } ∧
        Counted s t (ETH_RX_FRAMES p) ∧ Counted s t (ETH_TX_FRAMES p) ∧ Frame s t [ETH_RX_FRAMES p, ETH_TX_FRAMES p]))

namespace Sys2Proof

/-- The PTP registers of a result (R380, R384). -/
def ptpFlds : List Fld :=
  [PTP_OFFSET_LO, PTP_OFFSET_LIVE, PTP_DELAY_LO, PTP_DELAY_LIVE, PTP_STATUS_EXCHANGES, PTP_STATUS_NEW]

/-- A PTP message has left on the PTP port over its transport: UDP over IPv4 or IPv6 at port 319 or 320, or Layer 2, to the group addresses
of PTP. A message with its timestamp inserted has no UDP checksum over IPv4 without CKSUM, and two bytes more over IPv6 (R371, R377,
R379). Its blocks have left with it (R338, log 167). -/
def PtpSent (s : State) (o blocks : Out) (kind : String) (event stamped : Bool) (msg : List Byte) : Prop :=
  let p := s.get PTP_CFG_PORT
  let udp := if event then 319 else 320
  let frame := fun (bytes pad : List Byte) => pad.length = 60 - bytes.length ∧
    o = Out.frame p kind ((bytes ++ pad).map (·.toNat)) ∧
    ∃ x < 2 ^ 58, blocks = .blocks p (scrambleAll p (frameBlocks (bytes ++ pad)) x)
  ∃ (w : Work s) (tail pad : List Byte),
    (s.get PTP_CFG_TRANSPORT = 0 →
      let dst := 0xE0000181
      let d := if stamped = true ∧ s.get PTP_CFG_CKSUM = 0 then udpPlain udp udp msg
        else udpBytes false (s.get TRANSPORT_IP4) dst udp udp msg
      frame (ethHeader s.view p 0x01005E000181 0x0800 ++ (ipPacket w false (s.get TRANSPORT_IP4) dst d).1) pad) ∧
    (s.get PTP_CFG_TRANSPORT = 1 → tail.length = (if stamped then 2 else 0) ∧
      let dst := 0xFF0E * 2 ^ 112 + 0x181
      frame (ethHeader s.view p 0x333300000181 0x86DD ++
        (ipPacket w true (ip6Of s.view) dst (udpBytes true (ip6Of s.view) dst udp udp (msg ++ tail))).1) pad) ∧
    (s.get PTP_CFG_TRANSPORT = 2 → frame (ethHeader s.view p 0x011B19000000 0x88F7 ++ msg) pad)

/-- A slave takes the Sync of its master with the time of its arrival, the Follow_Up of a two-step Sync, and completes the exchange with the
Delay_Resp to its request: offset and delay as IEEE 1588 gives them, with NEW and source 500. A message of another domain is
ignored, an Announce has no effect, and a Delay_Req leaves with the layout that log entry 153 gives it (R377 to R380). -/
def Clause.PtpSlave : Prop :=
  ∀ s : State, s.wf = true →
    let x := s.dev.ptp
    Answers .announceReceive s (fun t => Plain s t []) ∧
    (ptpActs s.view 0 = true → ∀ (dom : BitVec 8) (src : BitVec 64) (seq : BitVec 16) (two : Bool) (origin : Nat) (corr : Int)
      (sub : Fin 64),
      (dom.toNat ≠ s.get PTP_CFG_DOMAIN → Answers (.syncReceive dom src seq two origin corr sub) s (fun t => Plain s t [])) ∧
      (dom.toNat = s.get PTP_CFG_DOMAIN → masterOk s.view src.toNat = true →
        Answers (.syncReceive dom src seq two origin corr sub) s (fun t =>
          t.get PTP_MASTER_SEEN_LO = src.toNat % 2 ^ 32 ∧ t.get PTP_MASTER_SEEN_HI = src.toNat / 2 ^ 32 ∧
          Leaves s t [PTP_MASTER_SEEN_LO, PTP_MASTER_SEEN_HI] { s.view.dev with ptp := { x with
            seen := true, sync := some ⟨seq.toNat, ptpStamp s.view sub (ETH_TS_DELAY_RX (s.get PTP_CFG_PORT)), corr,
              if two then none else some ((origin * 65536 : Nat) : Int)⟩ } })) ∧
      (∀ y, x.sync = some y → y.seq = seq.toNat → y.t1 = none → src.toNat = ptpSeen s.view → dom.toNat = s.get PTP_CFG_DOMAIN →
        Answers (.followUpReceive dom src seq origin corr) s (fun t => Leaves s t [] { s.view.dev with ptp := { x with
          sync := some { y with t1 := some ((origin * 65536 : Nat) : Int), corr := y.corr + corr } } })) ∧
      (∀ y t1 t3, x.sync = some y → y.t1 = some t1 → x.req = some (seq.toNat, t3) → src.toNat = ptpSeen s.view →
        dom.toNat = s.get PTP_CFG_DOMAIN → Answers (.delayRespReceive dom src seq true origin corr) s (fun t =>
          let t4 : Int := ((origin * 65536 : Nat) : Int)
          let delay := roundAway ((y.t2 - t3) + (t4 - t1) - y.corr - corr) 1
          let offset := toField 64 (y.t2 - t1 - delay - y.corr)
          t.get PTP_OFFSET_LO = offset % 2 ^ 32 ∧ t.get PTP_OFFSET_LIVE = offset / 2 ^ 32 ∧
          t.get PTP_DELAY_LO = toField 64 delay % 2 ^ 32 ∧ t.get PTP_DELAY_LIVE = toField 64 delay / 2 ^ 32 ∧
          t.get PTP_STATUS_NEW = 1 ∧ Counted s t PTP_STATUS_EXCHANGES ∧
          Leaves s t ptpFlds { s.view.dev with ptp := { x with req := none }, held := s.dev.held ++ [s.firing 500] }))) ∧
    (∀ sub : Fin 64, ptpActs s.view 0 = true → x.sync.isSome = true → s.get PTP_CFG_TRANSPORT < 3 →
      s.get THERM_STORM_TRIPPED = 0 → Answers (.delayReqSend sub) s (fun t =>
      let p := s.get PTP_CFG_PORT
      (∃ o b origin, t.dev.out = [o, b] ∧ origin.length = 10 ∧
        PtpSent s o b "DELAY_REQ" true false (delayReqBytes s.view x.reqSeq origin)) ∧ Counted s t (ETH_TX_FRAMES p) ∧
      t.dev = { s.dev with out := t.dev.out, ptp := { x with
        reqSeq := (x.reqSeq + 1) % 2 ^ 16, req := some (x.reqSeq, ptpStamp s.view sub (ETH_TS_DELAY_TX p)) } } ∧
      Frame s t [ETH_TX_FRAMES p])) ∧
    (ptpActs s.view 0 = true → Answers .syncLost s (fun t => t.get PTP_STATUS_LOST = 1 ∧
      Leaves s t [PTP_STATUS_LOST] { s.view.dev with held := s.dev.held ++ [s.firing 500] }))

/-- A master sends Sync at whole multiples of its interval, with the timestamp in it or in a Follow_Up, sends Announce with its quality,
and answers a Delay_Req with the time of its arrival, whose fraction is added to correctionField (R377 to R380). The layout of the
messages is that of log entry 153. -/
def Clause.PtpMaster : Prop :=
  ∀ s : State, s.wf = true → ptpActs s.view 1 = true → s.get PTP_CFG_TRANSPORT < 3 → s.get THERM_STORM_TRIPPED = 0 →
    let x := s.dev.ptp
    let p := s.get PTP_CFG_PORT
    let sent := fun (t : State) (y : PtpSt) => t.dev = { s.dev with out := t.dev.out, ptp := y } ∧ Frame s t [ETH_TX_FRAMES p]
    (∀ sub : Fin 64, syncInstant s.view = true →
      let n := x.syncSeq
      let time := ptpStamp s.view sub (ETH_TS_DELAY_TX p)
      let after := { x with syncSeq := (n + 1) % 2 ^ 16 }
      (s.get PTP_CFG_STEP ≠ 0 → Answers (.syncSend sub) s (fun t =>
        (∃ o b, t.dev.out = [o, b] ∧ PtpSent s o b "SYNC" true true (syncBytes s.view n time)) ∧ Counted s t (ETH_TX_FRAMES p) ∧
        sent t after)) ∧
      (s.get PTP_CFG_STEP = 0 → Answers (.syncSend sub) s (fun t =>
        (∃ o b o' b' origin, t.dev.out = [o, b, o', b'] ∧ origin.length = 10 ∧
          PtpSent s o b "SYNC" true false (twoStepBytes s.view n origin) ∧ PtpSent s o' b' "FOLLOW_UP" false false (followUpBytes s.view n time)) ∧ sent t after))) ∧
    Answers .announceSend s (fun t =>
      (∃ o b rest, t.dev.out = [o, b] ∧ rest.length = 15 ∧ PtpSent s o b "ANNOUNCE" false false (announceBytes s.view x.annSeq rest)) ∧
      Counted s t (ETH_TX_FRAMES p) ∧ sent t { x with annSeq := (x.annSeq + 1) % 2 ^ 16 }) ∧
    (∀ (d : BitVec 8) (src : BitVec 64) (port seq : BitVec 16) (corr : Int) (sub : Fin 64), d.toNat = s.get PTP_CFG_DOMAIN →
      Answers (.delayReqReceive d src port seq corr sub) s (fun t =>
        (∃ o b, t.dev.out = [o, b] ∧ PtpSent s o b "DELAY_RESP" false false (delayRespBytes s.view src.toNat port.toNat seq.toNat corr
          (ptpStamp s.view sub (ETH_TS_DELAY_RX p)))) ∧ Counted s t (ETH_TX_FRAMES p) ∧ sent t x))

end Sys2Proof

/-- The PTP port as slave and as master. -/
def Obligations.PtpClocks : Prop :=
  Clause.PtpSlave ∧ Clause.PtpMaster

namespace Sys2Proof

/-! ## Compression (R386 to R395) -/

/-- Compressor i may give out the next block of its record, on port p: the descriptor's queue is enabled and has not been acknowledged
past it, and the session, the channel and the port serve it (R296, R393). -/
abbrev MayCompress (s : State) (i p : Nat) (j : CompJob) : Prop :=
  vget s.dev.compJobs none i = some j ∧ qEnabled s.view j.tile j.index = true ∧
    seqBefore j.seq (s.get (QTAIL j.tile j.index)) = false ∧ j.index < 512 ∧ s.get TRANSPORT_SESSION_OWNER_VALID ≠ 0 ∧
    txPort s.view j.tile = some p ∧ addrFaulted s.view j.addr = false ∧ s.get THERM_STORM_TRIPPED = 0

/-- A block of a record has left alone in a BULK datagram of MODE 1 at its offset in the record (R296, R393). -/
def BlockSent (s t : State) (p : Nat) (j : CompJob) (blk : List Byte) : Prop :=
  Sent s t p (genondHeader 16 (s.get TRANSPORT_SESSION_EPOCH) (512 * j.tile + j.index) 0 j.seq (creditOf s) ++
    (beBytes 4 j.done ++ beBytes 2 blk.length ++ beBytes 1 1 ++ beBytes 1 0 ++ blk))

/-- The descriptor at the transmit point takes its record to the lowest free compressor, and the 64 header bytes of a record leave as one
STORED block in a BULK datagram at offset 0 (R390, R393 to R395). -/
def Clause.RecordHeaders : Prop :=
  ∀ s : State, s.wf = true →
    (∀ q : Fin 16384,
      let n := s.get (qOf QSENT q)
      let e := outEntry s.view q n
      qOutHost s.view (q / 512) (q % 512) = true → s.get TRANSPORT_SESSION_OWNER_VALID ≠ 0 → outReadable s.view q n = true →
      entryOk e = true → waitsComp s.view q n = true →
      (∀ k < 8, ∀ j, vget s.dev.compJobs none k = some j → ¬(j.tile = q / 512 ∧ j.index = q % 512 ∧ j.seq = n)) →
      ∀ k, (List.range 8).find? (fun k => decide (vget s.dev.compJobs none k = none)) = some k →
      Answers (.recordCompressAssign q) s (fun t => bit (t.get COMP_STATUS_CBUSY) k = true ∧
        Leaves s t [COMP_STATUS_CBUSY] { s.view.dev with
          compJobs := vset s.dev.compJobs k (some ⟨q / 512, q % 512, n, descAddr e, descLen e, 0⟩) })) ∧
    (∀ (i : Fin 8) (glitch : Bool) (lz : List Byte) (j : CompJob) (p : Nat), MayCompress s i p j → j.done = 0 → 64 < j.len →
      Answers (.compressedBlockOut i glitch lz) s (fun t => Counted s t (COMP_C_BLOCKS i) ∧
        BlockSent s t p j (blockHeader BLK_STORED 0 64 64 false false ++ s.view.rdBytes j.addr 64) ∧
        t.dev = { s.dev with out := t.dev.out, ddr := t.dev.ddr, compJobs := vset s.dev.compJobs i (some { j with done := 64 }) } ∧
        Frame s t (ddrFlds ++ [COMP_C_BLOCKS i, COMP_C_IN_KIB i, COMP_C_OUT_KIB i, COMP_IN_REM i, COMP_OUT_REM i, CR_LAST, ETH_TX_FRAMES p] ++
          ((creditNext s.view).map (fun x => QREPORTED (x / 512) (x % 512))).toList)))

/-- The part of a record's payload from done on leaves as one block of COMP.CFG.BLOCK_KIB KiB, or of what remains, with LAST at the
record's end: RICE for RAW16, RAW12 and DEMOD frames, with the ELEM and the stride of the format and the ORDER of COMP.CFG, and LZ for
RESULTS, from the items that the coder has chosen. Where its verifying decoder does not find the input again the block is STORED with
FALLBACK, which the first time fires 485, and where the code is not smaller it is STORED without. A block that fits in one datagram
leaves in one; behind the last one the compressor is free and the record is done (R386, R390, R393, R394). -/
def Clause.PayloadBlocks : Prop :=
  ∀ s : State, s.wf = true → ∀ (i : Fin 8) (glitch : Bool) (lz : List Byte) (j : CompJob) (p : Nat), MayCompress s i p j →
    64 ≤ j.done → j.done < j.len →
    let n := min ((if s.get COMP_CFG_BLOCK_KIB = 0 then 32 else s.get COMP_CFG_BLOCK_KIB) * 1024) (j.len - j.done)
    let input := s.view.rdBytes (j.addr + j.done) n
    let last := decide (j.len ≤ j.done + n)
    let fmt := (s.byteAt (j.addr + 53)).toNat
    let order := min 2 (s.get COMP_CFG_ORDER)
    let channels := popcount 8 (s.byteAt (j.addr + 52)).toNat
    ∀ elem stride, (fmt = 0 → elem = 0 ∧ stride = 1) → (fmt = 1 → elem = 1 ∧ stride = 1) →
      (fmt = 2 → 0 < channels ∧ elem = 0 ∧ stride = 2 * channels) →
    let param := if fmt ≤ 2 then order + 4 * elem + 8 * (stride - 1) else 0
    let mode := if fmt ≤ 2 then BLK_RICE else BLK_LZ
    let coded := if fmt ≤ 2 then riceEncode order elem stride input else lz
    let good := glitch = false ∧ payloadDecode mode param n coded = .good input
    let stored := fun fb => blockHeader BLK_STORED 0 n n last fb ++ input
    Answers (.compressedBlockOut i glitch lz) s (fun t =>
      ∀ blk, ((¬good ∧ blk = stored true) ∨ (good ∧ n ≤ coded.length ∧ blk = stored false) ∨
          (good ∧ coded.length < n ∧ blk = blockHeader mode param n coded.length last false ++ coded)) →
        (blk.length ≤ bulkMax s.view → BlockSent s t p j blk ∧
          Frame s t (ddrFlds ++ [COMP_C_BLOCKS i, COMP_C_IN_KIB i, COMP_C_OUT_KIB i, COMP_IN_REM i, COMP_OUT_REM i, COMP_C_CNT_FALLBACK i,
            COMP_C_CNT_STORED i, COMP_STATUS_FALLBACK, COMP_STATUS_CBUSY, CR_LAST, ETH_TX_FRAMES p] ++
            ((creditNext s.view).map (fun x => QREPORTED (x / 512) (x % 512))).toList)) ∧
        t.get (COMP_OUT_REM i) = (s.get (COMP_OUT_REM i) + blk.length) % 1024 ∧
        Counted s t (COMP_C_BLOCKS i) ∧ t.get (COMP_IN_REM i) = (s.get (COMP_IN_REM i) + n) % 1024 ∧
        (¬good → Counted s t (COMP_C_CNT_FALLBACK i) ∧ t.get COMP_STATUS_FALLBACK ≠ 0 ∧
          t.dev.held = s.dev.held ++ (if s.get COMP_STATUS_FALLBACK = 0 then [s.firing 485] else [])) ∧
        (good → t.dev.held = s.dev.held ∧ t.get (COMP_C_CNT_FALLBACK i) = s.get (COMP_C_CNT_FALLBACK i)) ∧
        (good → n ≤ coded.length → Counted s t (COMP_C_CNT_STORED i)) ∧
        (last = false → t.dev.compJobs = vset s.dev.compJobs i (some { j with done := j.done + n }) ∧
          t.dev.compDone = s.dev.compDone) ∧
        (last = true → t.dev.compJobs = vset s.dev.compJobs i none ∧ bit (t.get COMP_STATUS_CBUSY) i = false ∧
          t.dev.compDone = s.dev.compDone ++ [(512 * j.tile + j.index, j.seq)]))

/-- Under RICE the number of an element under k reads back as itself, a partition's k codes it in the fewest bits, and of two that do the lower one is taken (R389). -/
def Clause.RiceCoding : Prop :=
  (∀ w, w = 12 ∨ w = 16 → ∀ k ≤ 15, ∀ u < 2 ^ w, ∀ rest, riceTake w k (riceElem w k u ++ rest) = some (u, rest)) ∧
  (∀ w, w = 12 ∨ w = 16 → ∀ us : List Nat, ∀ k ≤ 15,
    (us.flatMap (riceElem w (riceK w us))).length ≤ (us.flatMap (riceElem w k)).length ∧
    (k < riceK w us → (us.flatMap (riceElem w (riceK w us))).length < (us.flatMap (riceElem w k)).length))

/-- An LZ payload of a literal run and a match gives the run and then, byte by byte, what lies D bytes back, which may overlap itself; one
that would pass the declared length, that reaches before the output or has D = 0, that ends early, or that goes on fails with its
cause (R391, R392). -/
def Clause.LzItems : Prop :=
  ∀ (lit : List Byte) (d n : Nat), 1 ≤ lit.length → lit.length ≤ 128 → 3 ≤ n → n ≤ 130 → d < 65536 →
    let run := leBytes 1 (lit.length - 1) ++ lit
    let copy := leBytes 1 (0x80 + (n - 3)) ++ leBytes 2 d
    lzDecode lit.length run = .good lit ∧
    (1 ≤ d → d ≤ lit.length → lzDecode (lit.length + n) (run ++ copy) =
      .good (lit ++ (List.range n).map (fun k => lit.getD (lit.length - d + k % d) 0))) ∧
    (d = 0 ∨ lit.length < d → lzDecode (lit.length + n) (run ++ copy) = .format) ∧
    (∀ out, lit.length < out → out < lit.length + n → lzDecode out (run ++ copy) = .expand) ∧
    (∀ out, lit.length < out → lzDecode out run = .short) ∧ lzDecode lit.length (run ++ copy) = .format

end Sys2Proof

/-- Compressed records: their header blocks, the blocks behind them, and the two codes. -/
def Obligations.Compressors : Prop :=
  Clause.RecordHeaders ∧ Clause.PayloadBlocks ∧ Clause.RiceCoding ∧ Clause.LzItems

/-- At step 10 of a SAFE word at or behind the clasp point the sequencer stalls for the copy; when it is done, the program goes on at the new
START with an empty stack. A halted tile takes its word and its restart address at once (R314, R320). -/
def Obligations.CodeSwaps : Prop :=
  ∀ s : State, s.wf = true → ∀ (u : Fin 32) (c : WordSt),
    let q := (s.tile u).seq
    s.get DEV_STATUS_LOCKSTEP = 0 →
    (q.cur = some c → c.todo.head? = some .seq → swapDue s.view u c = true → q.swapping = false →
      Answers (.codeSwap u) s (fun t => (t.tile u).seq = { q with swapping := true } ∧
        (∀ v < 32, v ≠ u.val → t.tile v = s.tile v) ∧ Frame s t [])) ∧
    (∀ a, s.dev.loader.code.filter (fun x => decide (x.1 = u.val)) = [(u.val, a)] → s.get (DDR_STATUS_STATE (s.get LOADER_STAGE_CHAN)) ≠ 4 →
      s.get LOADER_STAGE_CHAN < 2 → a < 4096 → s.get LOADER_SWAP_PEND < 2 ^ 32 →
      bit (s.get LOADER_SWAP_PEND) u = true → s.get LOADER_SWAP_PEND ≠ 2 ^ u.val → s.get LOADER_STATE_STATE = LD_SWAPPING →
      let word := s.view.rdBytes (stageAddr s.view u a) 28
      let copied := fun t : State => (∀ i < 28, t.byteAt (csBase u + 32 * a + i) = word.getD i 0) ∧ MemBut s t (csBase u + 32 * a) 28 ∧
        t.get LOADER_SWAP_PEND = s.get LOADER_SWAP_PEND - 2 ^ u.val ∧ t.get LOADER_STATE_STATE = LD_SWAPPING ∧
        t.dev.loader = { s.dev.loader with code := s.dev.loader.code.filter (fun x => !decide (x.1 = u.val)) }
      (q.swapping = true → q.cur = some c → mwSafe c.word = true → c.stepped = false → mwSeq c.word ≠ 8 → q.haltReq = false →
        s.get (SEQ_CTRL_STOP u) = 0 → Answers (.codeSwapCopyDone u) s (fun t => copied t ∧ (t.tile u).seq.cur = none ∧
          (t.tile u).seq.next = newStart s.view u ∧ (t.tile u).seq.swapping = false ∧ t.get (SEQ_SP u) = 0 ∧
          t.get (SEQ_STATE_ACTIVE u) = 0 ∧ (∀ v < 32, v ≠ u.val → t.tile v = s.tile v) ∧
          RegsBut s t ([LOADER_SWAP_PEND, SEQ_SP u, SEQ_STATE_ACTIVE u, EVPORT_GEN_CUR_VALID u] ++ ddrFlds))) ∧
      (q.swapping = false → s.get (SEQ_STATE_STATE u) = HALTED → s.get (SEQ_STATE_STEPPING u) = 0 → q.cutPending = false →
        Answers (.codeSwapCopyDone u) s (fun t => copied t ∧
          t.get (SEQ_RESTART u) = s.get (SEQ_CFG_START u) % 2 ^ (SEQ_RESTART u).width ∧
          RegsBut s t ([LOADER_SWAP_PEND, SEQ_RESTART u] ++ ddrFlds) ∧ (∀ v < 32, t.tile v = s.tile v))))

namespace Sys2Proof

/-! ## Steps and what they keep -/

/-- A step takes the command that has waited longest and does what the command does to the state with the rest of the queue. -/
def Clause.FrontOfTheQueue : Prop :=
  ∀ (c : Instr) (rest : List Instr) (s : State), step { s with pending := c :: rest } = exec c { s with pending := rest }

/-- With no command waiting the block idles: the model's choice (log entry 1). -/
def Clause.IdleStep : Prop := ∀ s : State, s.pending = [] → step s = .next s

end Sys2Proof

/-- One step: the front of the queue, or idling. -/
def Obligations.StepRunsTheFront : Prop :=
  Clause.FrontOfTheQueue ∧ Clause.IdleStep

/-- Every command has an effect: it answers a next state, with the same commands waiting and the stores in their canonical form, the
fuse bits it found, and SIGN_REQUIRED only where a key hash is set (R331). -/
def Obligations.CommandsKeepTheForm : Prop :=
  ∀ (c : Instr) (s : State), s.wf = true → s.fuse.proper = true →
    Answers c s (fun t => t.wf = true ∧ t.pending = s.pending ∧ FusesGrow s.fuse t.fuse ∧ t.fuse.proper = true)

/-- The stores keep their canonical form over every step, and no step clears a fuse (R331). -/
def Obligations.StepInvariant : Prop :=
  ∀ s t : State, s.wf = true → s.fuse.proper = true → step s = .next t →
    t.wf = true ∧ t.fuse.proper = true ∧ FusesGrow s.fuse t.fuse ∧ t.pending = s.pending.tail

/-- The state after reset is proper: nothing is listed in a store, no command waits, and no fuse is blown. What no rule gives a reset
value is the model's choice: fields that the spec leaves undefined (log entry 9), the fuses (10, 11), BOOT_SEL and PREV_STORM (12), memory
that reads 0 and flash that reads 0xFF (13), and the model's own state (121). -/
def Obligations.ResetState : Prop :=
  State.reset.wf = true ∧ State.reset.fuse.proper = true ∧ State.reset.pending = [] ∧ (∀ f, State.reset.get f = f.reset) ∧
    (∀ a, State.reset.byteAt a = 0) ∧ (∀ a, State.reset.flashAt a = 0xFF) ∧ State.reset.tl = ⟨0, false⟩

namespace Sys2Proof

/-! ## Encodings: tokens, RICE and LZ (R181, R387 to R391) -/

/-- The remainder of x^n modulo x^4 + x + 1, its coefficient of x^i in bit i. -/
def crc4Power : Nat → Nat
  | 0 => 1
  | n + 1 => if crc4Power n < 8 then 2 * crc4Power n else (2 * crc4Power n) ^^^ 0x13

/-- The CRC-4 of R181 over 19 bits of which bit 0 comes first: the remainder of the bits' polynomial times x^4. -/
def crc4Of (v : Nat) : Nat := (List.range 19).foldl (fun c i => if bit v i then c ^^^ crc4Power (22 - i) else c) 0

/-- An item of an LZ payload: a literal run, or a match of a length and an offset. -/
inductive LzItem where
  | run (bytes : List Byte)
  | copy (length back : Nat)
  deriving DecidableEq, Repr

/-- The bytes of an item: its control byte, and the run's bytes or the offset (R391). -/
def LzItem.code : LzItem → List Byte
  | .run bs => BitVec.ofNat 8 (bs.length - 1) :: bs
  | .copy n d => BitVec.ofNat 8 (0x80 + (n - 3)) :: leBytes 2 d

/-- What an item gives behind the block's output so far, byte by byte (R391). -/
def LzItem.after (out : List Byte) : LzItem → List Byte
  | .run bs => out ++ bs
  | .copy n d => (List.range n).foldl (fun o _ => o ++ [o.getD (o.length - d) 0]) out

/-- An item that the format has, behind an output of n bytes: a run of 1 to 128 bytes, or a match of 3 to 130 bytes from within that
output (R391). -/
def LzItem.fits (n : Nat) : LzItem → Prop
  | .run bs => 1 ≤ bs.length ∧ bs.length ≤ 128
  | .copy k d => 3 ≤ k ∧ k ≤ 130 ∧ 1 ≤ d ∧ d < 65536 ∧ d ≤ n

/-- Every item of a list fits behind what the items before it give. -/
def LzItem.all : List Byte → List LzItem → Prop
  | _, [] => True
  | out, i :: is => i.fits out.length ∧ LzItem.all (i.after out) is

end Sys2Proof

/-- A token of 23 bits holds SLOT, VALID, STATE, AMB, OVR, LEAK, ROUND and CHECK, the CRC-4 of the others with polynomial x^4 + x + 1,
initial value 0 and bit 0 first, at their places; one whose CHECK holds is the token of the slot and the content that it carries, and one
whose CHECK differs is refused (R181). -/
def Obligations.TokenFormat : Prop :=
  (∀ slot < 512, ∀ c : SlotC, c.state < 4 → c.round < 16 →
    let k := tokenOf slot c
    k < 2 ^ 23 ∧ bits k 0 9 = slot ∧ bit k 9 = c.valid ∧ bits k 10 2 = c.state ∧ bit k 12 = c.amb ∧ bit k 13 = c.ovr ∧
      bit k 14 = c.leak ∧ bits k 15 4 = c.round ∧ bits k 19 4 = crc4Of (bits k 0 19)) ∧
  (∀ k < 2 ^ 23, (tokenOk k = true ↔ bits k 19 4 = crc4Of (bits k 0 19)) ∧
    (tokenOk k = true → tokenOf (bits k 0 9) (tokenContent k) = k))

/-- An LZ payload is its items in order: a control byte below 0x80 and the C + 1 bytes that are copied, or one from 0x80 on and a 2-byte
offset D, which copies (C & 0x7F) + 3 bytes one by one from D bytes back in this block's output, over itself where they overlap; it
decodes to what the items give. A match that reaches before the block's output does not decode (R391). -/
def Obligations.LzStreams : Prop :=
  (∀ items : List LzItem, LzItem.all [] items →
    lzDecode (items.foldl LzItem.after []).length (items.flatMap LzItem.code) = .good (items.foldl LzItem.after [])) ∧
  (∀ items : List LzItem, LzItem.all [] items → ∀ n d, 3 ≤ n → n ≤ 130 → (items.foldl LzItem.after []).length < d → d < 65536 →
    ∀ more out bs, lzDecode out (items.flatMap LzItem.code ++ (LzItem.copy n d).code ++ more) ≠ .good bs)

/-- RICE loses nothing: what the coder writes for a payload decodes to that payload, under every ORDER, ELEM and stride (R387 to R389). -/
def Obligations.RiceRoundTrip : Prop :=
  ∀ order < 3, ∀ elem < 2, ∀ stride, 1 ≤ stride → ∀ bs : List Byte,
    riceDecode order elem stride bs.length (riceEncode order elem stride bs) = .good bs
end

