-- ==== Sys2Proof/Laws/Store.lean ====
section
/-! SUPPORT. Laws of the sparse stores: reads after writes, and that every operation keeps the canonical form. -/

namespace Sys2Proof.Machine

theorem assoc_below {α : Type} [DecidableEq α] (d : α) (l : List (Nat × α)) (lo a : Nat)
    (h : canonicalFrom d (some lo) l = true) (ha : a ≤ lo) : assoc d l a = d := by
  induction l generalizing lo with
  | nil => rfl
  | cons c r ih =>
    obtain ⟨k, v⟩ := c
    simp only [canonicalFrom, Bool.and_eq_true, decide_eq_true_eq] at h
    have hne : a ≠ k := by omega
    simp only [assoc, if_neg hne]
    exact ih k h.2.2 (by omega)

theorem canonicalFrom_mono {α : Type} [DecidableEq α] (d : α) (l : List (Nat × α)) (lo lo' : Nat)
    (h : canonicalFrom d (some lo) l = true) (hl : lo' ≤ lo) : canonicalFrom d (some lo') l = true := by
  cases l with
  | nil => rfl
  | cons c r =>
    obtain ⟨k, v⟩ := c
    simp only [canonicalFrom, Bool.and_eq_true, decide_eq_true_eq] at h ⊢
    exact ⟨by omega, h.2⟩

theorem canonicalFrom_none {α : Type} [DecidableEq α] (d : α) (l : List (Nat × α)) (lo : Nat)
    (h : canonicalFrom d (some lo) l = true) : canonicalFrom d none l = true := by
  cases l with
  | nil => rfl
  | cons c r =>
    obtain ⟨k, v⟩ := c
    simp only [canonicalFrom, Bool.and_eq_true, decide_eq_true_eq] at h ⊢
    exact ⟨trivial, h.2⟩

theorem insertCell_from {α : Type} [DecidableEq α] (d : α) (l : List (Nat × α)) (a lo : Nat) (v : α)
    (h : canonicalFrom d (some lo) l = true) (ha : lo < a) : canonicalFrom d (some lo) (insertCell d l a v) = true := by
  induction l generalizing lo with
  | nil =>
    by_cases hv : v = d
    · simp [insertCell, hv, canonicalFrom]
    · simp [insertCell, hv, canonicalFrom, ha]
  | cons c r ih =>
    obtain ⟨k, x⟩ := c
    have h' := h
    simp only [canonicalFrom, Bool.and_eq_true, decide_eq_true_eq] at h'
    by_cases h1 : a < k
    · by_cases hv : v = d
      · simpa [insertCell, h1, hv] using h
      · simp only [insertCell, h1, hv, if_true, if_false, canonicalFrom, Bool.and_eq_true, decide_eq_true_eq]
        exact ⟨ha, hv, trivial, h'.2⟩
    · by_cases h2 : a = k
      · subst h2
        by_cases hv : v = d
        · simp only [insertCell, lt_irrefl, hv, if_true, if_false]
          exact canonicalFrom_mono d r a lo h'.2.2 (by omega)
        · simp only [insertCell, lt_irrefl, hv, if_true, if_false, canonicalFrom, Bool.and_eq_true, decide_eq_true_eq]
          exact ⟨ha, hv, h'.2.2⟩
      · simp only [insertCell, h1, h2, if_false, canonicalFrom, Bool.and_eq_true, decide_eq_true_eq]
        exact ⟨h'.1, h'.2.1, ih k h'.2.2 (by omega)⟩

/-- A write keeps the canonical form. -/
theorem canonical_insertCell {α : Type} [DecidableEq α] (d : α) (l : List (Nat × α)) (a : Nat) (v : α)
    (h : canonical d l = true) : canonical d (insertCell d l a v) = true := by
  cases l with
  | nil =>
    by_cases hv : v = d
    · simp [insertCell, hv, canonical, canonicalFrom]
    · simp [insertCell, hv, canonical, canonicalFrom]
  | cons c r =>
    obtain ⟨k, x⟩ := c
    unfold canonical at h ⊢
    have h' := h
    simp only [canonicalFrom, Bool.and_eq_true, decide_eq_true_eq] at h'
    by_cases h1 : a < k
    · by_cases hv : v = d
      · simpa [insertCell, h1, hv] using h
      · simp only [insertCell, h1, hv, if_true, if_false, canonicalFrom, Bool.and_eq_true, decide_eq_true_eq]
        exact ⟨trivial, hv, trivial, h'.2⟩
    · by_cases h2 : a = k
      · subst h2
        by_cases hv : v = d
        · simp only [insertCell, lt_irrefl, hv, if_true, if_false]
          exact canonicalFrom_none d r a h'.2.2
        · simp only [insertCell, lt_irrefl, hv, if_true, if_false, canonicalFrom, Bool.and_eq_true, decide_eq_true_eq]
          exact ⟨trivial, hv, h'.2.2⟩
      · simp only [insertCell, h1, h2, if_false, canonicalFrom, Bool.and_eq_true, decide_eq_true_eq]
        exact ⟨trivial, h'.2.1, insertCell_from d r a k v h'.2.2 (by omega)⟩

theorem assoc_insertCell_from {α : Type} [DecidableEq α] (d : α) (l : List (Nat × α)) (lo : Option Nat) (a b : Nat) (v : α)
    (h : canonicalFrom d lo l = true) : assoc d (insertCell d l a v) b = if b = a then v else assoc d l b := by
  induction l generalizing lo with
  | nil =>
    by_cases hv : v = d <;> by_cases hb : b = a <;> simp [insertCell, hv, hb, assoc]
  | cons c r ih =>
    obtain ⟨k, x⟩ := c
    simp only [canonicalFrom, Bool.and_eq_true, decide_eq_true_eq] at h
    have hr := h.2.2
    by_cases h1 : a < k
    · by_cases hv : v = d
      · simp only [insertCell, h1, hv, if_true]
        by_cases hb : b = a
        · subst hb
          simp only [assoc, if_neg (Nat.ne_of_lt h1), if_true]
          exact assoc_below d r k b hr (by omega)
        · simp [hb]
      · by_cases hb : b = a <;> simp [insertCell, h1, hv, assoc, hb]
    · by_cases h2 : a = k
      · subst h2
        by_cases hv : v = d
        · simp only [insertCell, lt_irrefl, hv, if_true, if_false]
          by_cases hb : b = a
          · subst hb
            simp only [if_true]
            exact assoc_below d r b b hr le_rfl
          · simp [assoc, hb]
        · by_cases hb : b = a <;> simp [insertCell, hv, assoc, hb]
      · simp only [insertCell, h1, h2, if_false, assoc]
        by_cases hb : b = k
        · subst hb
          have : b ≠ a := fun h => h2 h.symm
          simp [this]
        · simp only [if_neg hb]
          exact ih (some k) hr

/-- A read after a write gives the value written there, and the old value everywhere else. -/
theorem assoc_insertCell {α : Type} [DecidableEq α] (d : α) (l : List (Nat × α)) (a b : Nat) (v : α)
    (h : canonical d l = true) : assoc d (insertCell d l a v) b = if b = a then v else assoc d l b :=
  assoc_insertCell_from d l none a b v h

/-- The writes of a log keep the canonical form. -/
theorem canonical_commit {α : Type} [DecidableEq α] (d : α) (base log : List (Nat × α)) (h : canonical d base = true) :
    canonical d (commit d base log) = true := by
  induction log with
  | nil => exact h
  | cons c r ih => exact canonical_insertCell d _ c.1 c.2 ih

/-- What a list holds after the writes of a log: the newest write of the key, or what it held before. -/
theorem assoc_commit {α : Type} [DecidableEq α] (d : α) (base log : List (Nat × α)) (a : Nat) (h : canonical d base = true) :
    assoc d (commit d base log) a = assoc (assoc d base a) log a := by
  induction log with
  | nil => rfl
  | cons c r ih =>
    show assoc d (insertCell d (commit d base r) c.1 c.2) a = _
    rw [assoc_insertCell d _ c.1 a c.2 (canonical_commit d base r h), ih]
    rfl

theorem canonicalFrom_filter {α : Type} [DecidableEq α] (d : α) (p : Nat × α → Bool) (l : List (Nat × α)) (lo : Option Nat)
    (h : canonicalFrom d lo l = true) : canonicalFrom d lo (l.filter p) = true := by
  induction l generalizing lo with
  | nil => rfl
  | cons c r ih =>
    obtain ⟨k, v⟩ := c
    have h' := h
    simp only [canonicalFrom, Bool.and_eq_true, decide_eq_true_eq] at h'
    by_cases hp : p (k, v) = true
    · rw [List.filter_cons_of_pos hp]
      simp only [canonicalFrom, Bool.and_eq_true, decide_eq_true_eq]
      exact ⟨h'.1, h'.2.1, ih (some k) h'.2.2⟩
    · rw [List.filter_cons_of_neg hp]
      apply ih lo
      cases lo with
      | none => exact canonicalFrom_none d r k h'.2.2
      | some b => exact canonicalFrom_mono d r k b h'.2.2 (by have := of_decide_eq_true h'.1; omega)

/-- Clearing ranges keeps the canonical form. -/
theorem canonical_wipe {α : Type} [DecidableEq α] (d : α) (rs : List (Nat × Nat)) (l : List (Nat × α))
    (h : canonical d l = true) : canonical d (wipe rs l) = true := canonicalFrom_filter d _ l none h

/-- After ranges have been cleared, a key in one of them reads the default, and every other key what it read before. -/
theorem assoc_wipe {α : Type} (d : α) (rs : List (Nat × Nat)) (l : List (Nat × α)) (a : Nat) :
    assoc d (wipe rs l) a = if inRanges rs a then d else assoc d l a := by
  induction l with
  | nil => simp [wipe, assoc]
  | cons c r ih =>
    obtain ⟨k, v⟩ := c
    by_cases hk : inRanges rs k = true
    · have : wipe rs ((k, v) :: r) = wipe rs r := by simp [wipe, hk]
      rw [this, ih]
      by_cases ha : a = k
      · subst ha; simp [hk]
      · simp [assoc, ha]
    · have hk' : inRanges rs k = false := by simpa using hk
      have : wipe rs ((k, v) :: r) = (k, v) :: wipe rs r := by simp [wipe, hk']
      rw [this]
      by_cases ha : a = k
      · subst ha; simp [assoc, hk']
      · simp only [assoc, if_neg ha]; exact ih

@[simp] theorem wipe_nil {α : Type} (l : List (Nat × α)) : wipe [] l = l := by simp [wipe, inRanges]

@[simp] theorem inRanges_nil (k : Nat) : inRanges [] k = false := rfl

/-- What a vector holds after an entry was replaced. -/
theorem vget_vset {α : Type} {n : Nat} (v : Vector α n) (d x : α) (i j : Nat) (hi : i < n) :
    vget (vset v i x) d j = if j = i then x else vget v d j := by
  unfold vget vset
  simp only [hi, dif_pos]
  by_cases hj : j < n
  · simp only [hj, dif_pos]
    by_cases h : j = i
    · subst h; simp
    · have : i ≠ j := fun e => h e.symm
      simp [h, Vector.getElem_set_ne _ _ this]
  · have : j ≠ i := by omega
    simp [hj, this]

end Sys2Proof.Machine
end

