-- ==== Sys2Proof/Laws/State.lean ====
section
/-! SUPPORT. What each update of the state leaves alone: one lemma per field per update, true by rfl. -/

namespace Sys2Proof.Machine

variable {σ : State}

/-! ## Updates of the work of a command -/

@[simp] theorem Work.set_dev (w : Work σ) (f : Fld) (v : Nat) : (w.set f v).dev = w.dev := rfl
@[simp] theorem Work.set_rwipe (w : Work σ) (f : Fld) (v : Nat) : (w.set f v).rwipe = w.rwipe := rfl
@[simp] theorem Work.set_mwipe (w : Work σ) (f : Fld) (v : Nat) : (w.set f v).mwipe = w.mwipe := rfl
@[simp] theorem Work.set_mlog (w : Work σ) (f : Fld) (v : Nat) : (w.set f v).mlog = w.mlog := rfl
@[simp] theorem Work.set_lost (w : Work σ) (f : Fld) (v : Nat) : (w.set f v).lost = w.lost := rfl
@[simp] theorem Work.set_fwipe (w : Work σ) (f : Fld) (v : Nat) : (w.set f v).fwipe = w.fwipe := rfl
@[simp] theorem Work.set_flog (w : Work σ) (f : Fld) (v : Nat) : (w.set f v).flog = w.flog := rfl
@[simp] theorem Work.set_tl (w : Work σ) (f : Fld) (v : Nat) : (w.set f v).tl = w.tl := rfl
@[simp] theorem Work.set_tlc (w : Work σ) (f : Fld) (v : Nat) : (w.set f v).tlc = w.tlc := rfl
@[simp] theorem Work.set_fuse (w : Work σ) (f : Fld) (v : Nat) : (w.set f v).fuse = w.fuse := rfl
@[simp] theorem Work.set_fresh (w : Work σ) (f : Fld) (v : Nat) : (w.set f v).fresh = w.fresh := rfl

@[simp] theorem Work.setB_dev (w : Work σ) (f : Fld) (b : Bool) : (w.setB f b).dev = w.dev := rfl
@[simp] theorem Work.setB_rwipe (w : Work σ) (f : Fld) (b : Bool) : (w.setB f b).rwipe = w.rwipe := rfl
@[simp] theorem Work.setB_mwipe (w : Work σ) (f : Fld) (b : Bool) : (w.setB f b).mwipe = w.mwipe := rfl
@[simp] theorem Work.setB_mlog (w : Work σ) (f : Fld) (b : Bool) : (w.setB f b).mlog = w.mlog := rfl
@[simp] theorem Work.setB_lost (w : Work σ) (f : Fld) (b : Bool) : (w.setB f b).lost = w.lost := rfl
@[simp] theorem Work.setB_fwipe (w : Work σ) (f : Fld) (b : Bool) : (w.setB f b).fwipe = w.fwipe := rfl
@[simp] theorem Work.setB_flog (w : Work σ) (f : Fld) (b : Bool) : (w.setB f b).flog = w.flog := rfl
@[simp] theorem Work.setB_tl (w : Work σ) (f : Fld) (b : Bool) : (w.setB f b).tl = w.tl := rfl
@[simp] theorem Work.setB_tlc (w : Work σ) (f : Fld) (b : Bool) : (w.setB f b).tlc = w.tlc := rfl
@[simp] theorem Work.setB_fuse (w : Work σ) (f : Fld) (b : Bool) : (w.setB f b).fuse = w.fuse := rfl
@[simp] theorem Work.setB_fresh (w : Work σ) (f : Fld) (b : Bool) : (w.setB f b).fresh = w.fresh := rfl

@[simp] theorem Work.setBit_dev (w : Work σ) (f : Fld) (i : Nat) (b : Bool) : (w.setBit f i b).dev = w.dev := rfl
@[simp] theorem Work.setBit_rwipe (w : Work σ) (f : Fld) (i : Nat) (b : Bool) : (w.setBit f i b).rwipe = w.rwipe := rfl
@[simp] theorem Work.setBit_mwipe (w : Work σ) (f : Fld) (i : Nat) (b : Bool) : (w.setBit f i b).mwipe = w.mwipe := rfl
@[simp] theorem Work.setBit_mlog (w : Work σ) (f : Fld) (i : Nat) (b : Bool) : (w.setBit f i b).mlog = w.mlog := rfl
@[simp] theorem Work.setBit_lost (w : Work σ) (f : Fld) (i : Nat) (b : Bool) : (w.setBit f i b).lost = w.lost := rfl
@[simp] theorem Work.setBit_fwipe (w : Work σ) (f : Fld) (i : Nat) (b : Bool) : (w.setBit f i b).fwipe = w.fwipe := rfl
@[simp] theorem Work.setBit_flog (w : Work σ) (f : Fld) (i : Nat) (b : Bool) : (w.setBit f i b).flog = w.flog := rfl
@[simp] theorem Work.setBit_tl (w : Work σ) (f : Fld) (i : Nat) (b : Bool) : (w.setBit f i b).tl = w.tl := rfl
@[simp] theorem Work.setBit_tlc (w : Work σ) (f : Fld) (i : Nat) (b : Bool) : (w.setBit f i b).tlc = w.tlc := rfl
@[simp] theorem Work.setBit_fuse (w : Work σ) (f : Fld) (i : Nat) (b : Bool) : (w.setBit f i b).fuse = w.fuse := rfl
@[simp] theorem Work.setBit_fresh (w : Work σ) (f : Fld) (i : Nat) (b : Bool) : (w.setBit f i b).fresh = w.fresh := rfl

@[simp] theorem Work.add_dev (w : Work σ) (f : Fld) (n : Nat) : (w.add f n).dev = w.dev := rfl
@[simp] theorem Work.add_rwipe (w : Work σ) (f : Fld) (n : Nat) : (w.add f n).rwipe = w.rwipe := rfl
@[simp] theorem Work.add_mwipe (w : Work σ) (f : Fld) (n : Nat) : (w.add f n).mwipe = w.mwipe := rfl
@[simp] theorem Work.add_mlog (w : Work σ) (f : Fld) (n : Nat) : (w.add f n).mlog = w.mlog := rfl
@[simp] theorem Work.add_lost (w : Work σ) (f : Fld) (n : Nat) : (w.add f n).lost = w.lost := rfl
@[simp] theorem Work.add_fwipe (w : Work σ) (f : Fld) (n : Nat) : (w.add f n).fwipe = w.fwipe := rfl
@[simp] theorem Work.add_flog (w : Work σ) (f : Fld) (n : Nat) : (w.add f n).flog = w.flog := rfl
@[simp] theorem Work.add_tl (w : Work σ) (f : Fld) (n : Nat) : (w.add f n).tl = w.tl := rfl
@[simp] theorem Work.add_tlc (w : Work σ) (f : Fld) (n : Nat) : (w.add f n).tlc = w.tlc := rfl
@[simp] theorem Work.add_fuse (w : Work σ) (f : Fld) (n : Nat) : (w.add f n).fuse = w.fuse := rfl
@[simp] theorem Work.add_fresh (w : Work σ) (f : Fld) (n : Nat) : (w.add f n).fresh = w.fresh := rfl

@[simp] theorem Work.inc_dev (w : Work σ) (f : Fld) : (w.inc f).dev = w.dev := rfl
@[simp] theorem Work.inc_rwipe (w : Work σ) (f : Fld) : (w.inc f).rwipe = w.rwipe := rfl
@[simp] theorem Work.inc_mwipe (w : Work σ) (f : Fld) : (w.inc f).mwipe = w.mwipe := rfl
@[simp] theorem Work.inc_mlog (w : Work σ) (f : Fld) : (w.inc f).mlog = w.mlog := rfl
@[simp] theorem Work.inc_lost (w : Work σ) (f : Fld) : (w.inc f).lost = w.lost := rfl
@[simp] theorem Work.inc_fwipe (w : Work σ) (f : Fld) : (w.inc f).fwipe = w.fwipe := rfl
@[simp] theorem Work.inc_flog (w : Work σ) (f : Fld) : (w.inc f).flog = w.flog := rfl
@[simp] theorem Work.inc_tl (w : Work σ) (f : Fld) : (w.inc f).tl = w.tl := rfl
@[simp] theorem Work.inc_tlc (w : Work σ) (f : Fld) : (w.inc f).tlc = w.tlc := rfl
@[simp] theorem Work.inc_fuse (w : Work σ) (f : Fld) : (w.inc f).fuse = w.fuse := rfl
@[simp] theorem Work.inc_fresh (w : Work σ) (f : Fld) : (w.inc f).fresh = w.fresh := rfl

@[simp] theorem Work.wipeRegs_dev (w : Work σ) (rs : List (Nat × Nat)) : (w.wipeRegs rs).dev = w.dev := rfl
@[simp] theorem Work.wipeRegs_mwipe (w : Work σ) (rs : List (Nat × Nat)) : (w.wipeRegs rs).mwipe = w.mwipe := rfl
@[simp] theorem Work.wipeRegs_mlog (w : Work σ) (rs : List (Nat × Nat)) : (w.wipeRegs rs).mlog = w.mlog := rfl
@[simp] theorem Work.wipeRegs_lost (w : Work σ) (rs : List (Nat × Nat)) : (w.wipeRegs rs).lost = w.lost := rfl
@[simp] theorem Work.wipeRegs_fwipe (w : Work σ) (rs : List (Nat × Nat)) : (w.wipeRegs rs).fwipe = w.fwipe := rfl
@[simp] theorem Work.wipeRegs_flog (w : Work σ) (rs : List (Nat × Nat)) : (w.wipeRegs rs).flog = w.flog := rfl
@[simp] theorem Work.wipeRegs_tl (w : Work σ) (rs : List (Nat × Nat)) : (w.wipeRegs rs).tl = w.tl := rfl
@[simp] theorem Work.wipeRegs_tlc (w : Work σ) (rs : List (Nat × Nat)) : (w.wipeRegs rs).tlc = w.tlc := rfl
@[simp] theorem Work.wipeRegs_fuse (w : Work σ) (rs : List (Nat × Nat)) : (w.wipeRegs rs).fuse = w.fuse := rfl
@[simp] theorem Work.wipeRegs_fresh (w : Work σ) (rs : List (Nat × Nat)) : (w.wipeRegs rs).fresh = w.fresh := rfl

@[simp] theorem Work.wr8_dev (w : Work σ) (a : Nat) (b : Byte) : (w.wr8 a b).dev = w.dev := rfl
@[simp] theorem Work.wr8_rwipe (w : Work σ) (a : Nat) (b : Byte) : (w.wr8 a b).rwipe = w.rwipe := rfl
@[simp] theorem Work.wr8_rlog (w : Work σ) (a : Nat) (b : Byte) : (w.wr8 a b).rlog = w.rlog := rfl
@[simp] theorem Work.wr8_mwipe (w : Work σ) (a : Nat) (b : Byte) : (w.wr8 a b).mwipe = w.mwipe := rfl
@[simp] theorem Work.wr8_lost (w : Work σ) (a : Nat) (b : Byte) : (w.wr8 a b).lost = w.lost := rfl
@[simp] theorem Work.wr8_fwipe (w : Work σ) (a : Nat) (b : Byte) : (w.wr8 a b).fwipe = w.fwipe := rfl
@[simp] theorem Work.wr8_flog (w : Work σ) (a : Nat) (b : Byte) : (w.wr8 a b).flog = w.flog := rfl
@[simp] theorem Work.wr8_tl (w : Work σ) (a : Nat) (b : Byte) : (w.wr8 a b).tl = w.tl := rfl
@[simp] theorem Work.wr8_tlc (w : Work σ) (a : Nat) (b : Byte) : (w.wr8 a b).tlc = w.tlc := rfl
@[simp] theorem Work.wr8_fuse (w : Work σ) (a : Nat) (b : Byte) : (w.wr8 a b).fuse = w.fuse := rfl
@[simp] theorem Work.wr8_fresh (w : Work σ) (a : Nat) (b : Byte) : (w.wr8 a b).fresh = w.fresh := rfl

@[simp] theorem Work.wipeMem_dev (w : Work σ) (rs : List (Nat × Nat)) : (w.wipeMem rs).dev = w.dev := rfl
@[simp] theorem Work.wipeMem_rwipe (w : Work σ) (rs : List (Nat × Nat)) : (w.wipeMem rs).rwipe = w.rwipe := rfl
@[simp] theorem Work.wipeMem_rlog (w : Work σ) (rs : List (Nat × Nat)) : (w.wipeMem rs).rlog = w.rlog := rfl
@[simp] theorem Work.wipeMem_fwipe (w : Work σ) (rs : List (Nat × Nat)) : (w.wipeMem rs).fwipe = w.fwipe := rfl
@[simp] theorem Work.wipeMem_flog (w : Work σ) (rs : List (Nat × Nat)) : (w.wipeMem rs).flog = w.flog := rfl
@[simp] theorem Work.wipeMem_tl (w : Work σ) (rs : List (Nat × Nat)) : (w.wipeMem rs).tl = w.tl := rfl
@[simp] theorem Work.wipeMem_tlc (w : Work σ) (rs : List (Nat × Nat)) : (w.wipeMem rs).tlc = w.tlc := rfl
@[simp] theorem Work.wipeMem_fuse (w : Work σ) (rs : List (Nat × Nat)) : (w.wipeMem rs).fuse = w.fuse := rfl
@[simp] theorem Work.wipeMem_fresh (w : Work σ) (rs : List (Nat × Nat)) : (w.wipeMem rs).fresh = w.fresh := rfl

@[simp] theorem Work.flSet_dev (w : Work σ) (a : Nat) (b : Byte) : (w.flSet a b).dev = w.dev := rfl
@[simp] theorem Work.flSet_rwipe (w : Work σ) (a : Nat) (b : Byte) : (w.flSet a b).rwipe = w.rwipe := rfl
@[simp] theorem Work.flSet_rlog (w : Work σ) (a : Nat) (b : Byte) : (w.flSet a b).rlog = w.rlog := rfl
@[simp] theorem Work.flSet_mwipe (w : Work σ) (a : Nat) (b : Byte) : (w.flSet a b).mwipe = w.mwipe := rfl
@[simp] theorem Work.flSet_mlog (w : Work σ) (a : Nat) (b : Byte) : (w.flSet a b).mlog = w.mlog := rfl
@[simp] theorem Work.flSet_lost (w : Work σ) (a : Nat) (b : Byte) : (w.flSet a b).lost = w.lost := rfl
@[simp] theorem Work.flSet_fwipe (w : Work σ) (a : Nat) (b : Byte) : (w.flSet a b).fwipe = w.fwipe := rfl
@[simp] theorem Work.flSet_tl (w : Work σ) (a : Nat) (b : Byte) : (w.flSet a b).tl = w.tl := rfl
@[simp] theorem Work.flSet_tlc (w : Work σ) (a : Nat) (b : Byte) : (w.flSet a b).tlc = w.tlc := rfl
@[simp] theorem Work.flSet_fuse (w : Work σ) (a : Nat) (b : Byte) : (w.flSet a b).fuse = w.fuse := rfl
@[simp] theorem Work.flSet_fresh (w : Work σ) (a : Nat) (b : Byte) : (w.flSet a b).fresh = w.fresh := rfl

@[simp] theorem Work.flErase_dev (w : Work σ) (rs : List (Nat × Nat)) : (w.flErase rs).dev = w.dev := rfl
@[simp] theorem Work.flErase_rwipe (w : Work σ) (rs : List (Nat × Nat)) : (w.flErase rs).rwipe = w.rwipe := rfl
@[simp] theorem Work.flErase_rlog (w : Work σ) (rs : List (Nat × Nat)) : (w.flErase rs).rlog = w.rlog := rfl
@[simp] theorem Work.flErase_mwipe (w : Work σ) (rs : List (Nat × Nat)) : (w.flErase rs).mwipe = w.mwipe := rfl
@[simp] theorem Work.flErase_mlog (w : Work σ) (rs : List (Nat × Nat)) : (w.flErase rs).mlog = w.mlog := rfl
@[simp] theorem Work.flErase_lost (w : Work σ) (rs : List (Nat × Nat)) : (w.flErase rs).lost = w.lost := rfl
@[simp] theorem Work.flErase_tl (w : Work σ) (rs : List (Nat × Nat)) : (w.flErase rs).tl = w.tl := rfl
@[simp] theorem Work.flErase_tlc (w : Work σ) (rs : List (Nat × Nat)) : (w.flErase rs).tlc = w.tlc := rfl
@[simp] theorem Work.flErase_fuse (w : Work σ) (rs : List (Nat × Nat)) : (w.flErase rs).fuse = w.fuse := rfl
@[simp] theorem Work.flErase_fresh (w : Work σ) (rs : List (Nat × Nat)) : (w.flErase rs).fresh = w.fresh := rfl

@[simp] theorem Work.setTile_rwipe (w : Work σ) (t : Nat) (x : Tile) : (w.setTile t x).rwipe = w.rwipe := rfl
@[simp] theorem Work.setTile_rlog (w : Work σ) (t : Nat) (x : Tile) : (w.setTile t x).rlog = w.rlog := rfl
@[simp] theorem Work.setTile_mwipe (w : Work σ) (t : Nat) (x : Tile) : (w.setTile t x).mwipe = w.mwipe := rfl
@[simp] theorem Work.setTile_mlog (w : Work σ) (t : Nat) (x : Tile) : (w.setTile t x).mlog = w.mlog := rfl
@[simp] theorem Work.setTile_lost (w : Work σ) (t : Nat) (x : Tile) : (w.setTile t x).lost = w.lost := rfl
@[simp] theorem Work.setTile_fwipe (w : Work σ) (t : Nat) (x : Tile) : (w.setTile t x).fwipe = w.fwipe := rfl
@[simp] theorem Work.setTile_flog (w : Work σ) (t : Nat) (x : Tile) : (w.setTile t x).flog = w.flog := rfl
@[simp] theorem Work.setTile_tl (w : Work σ) (t : Nat) (x : Tile) : (w.setTile t x).tl = w.tl := rfl
@[simp] theorem Work.setTile_tlc (w : Work σ) (t : Nat) (x : Tile) : (w.setTile t x).tlc = w.tlc := rfl
@[simp] theorem Work.setTile_fuse (w : Work σ) (t : Nat) (x : Tile) : (w.setTile t x).fuse = w.fuse := rfl
@[simp] theorem Work.setTile_fresh (w : Work σ) (t : Nat) (x : Tile) : (w.setTile t x).fresh = w.fresh := rfl

@[simp] theorem Work.updTile_rwipe (w : Work σ) (t : Nat) (f : Tile → Tile) : (w.updTile t f).rwipe = w.rwipe := rfl
@[simp] theorem Work.updTile_rlog (w : Work σ) (t : Nat) (f : Tile → Tile) : (w.updTile t f).rlog = w.rlog := rfl
@[simp] theorem Work.updTile_mwipe (w : Work σ) (t : Nat) (f : Tile → Tile) : (w.updTile t f).mwipe = w.mwipe := rfl
@[simp] theorem Work.updTile_mlog (w : Work σ) (t : Nat) (f : Tile → Tile) : (w.updTile t f).mlog = w.mlog := rfl
@[simp] theorem Work.updTile_lost (w : Work σ) (t : Nat) (f : Tile → Tile) : (w.updTile t f).lost = w.lost := rfl
@[simp] theorem Work.updTile_fwipe (w : Work σ) (t : Nat) (f : Tile → Tile) : (w.updTile t f).fwipe = w.fwipe := rfl
@[simp] theorem Work.updTile_flog (w : Work σ) (t : Nat) (f : Tile → Tile) : (w.updTile t f).flog = w.flog := rfl
@[simp] theorem Work.updTile_tl (w : Work σ) (t : Nat) (f : Tile → Tile) : (w.updTile t f).tl = w.tl := rfl
@[simp] theorem Work.updTile_tlc (w : Work σ) (t : Nat) (f : Tile → Tile) : (w.updTile t f).tlc = w.tlc := rfl
@[simp] theorem Work.updTile_fuse (w : Work σ) (t : Nat) (f : Tile → Tile) : (w.updTile t f).fuse = w.fuse := rfl
@[simp] theorem Work.updTile_fresh (w : Work σ) (t : Nat) (f : Tile → Tile) : (w.updTile t f).fresh = w.fresh := rfl

@[simp] theorem Work.emit_rwipe (w : Work σ) (o : Out) : (w.emit o).rwipe = w.rwipe := rfl
@[simp] theorem Work.emit_rlog (w : Work σ) (o : Out) : (w.emit o).rlog = w.rlog := rfl
@[simp] theorem Work.emit_mwipe (w : Work σ) (o : Out) : (w.emit o).mwipe = w.mwipe := rfl
@[simp] theorem Work.emit_mlog (w : Work σ) (o : Out) : (w.emit o).mlog = w.mlog := rfl
@[simp] theorem Work.emit_lost (w : Work σ) (o : Out) : (w.emit o).lost = w.lost := rfl
@[simp] theorem Work.emit_fwipe (w : Work σ) (o : Out) : (w.emit o).fwipe = w.fwipe := rfl
@[simp] theorem Work.emit_flog (w : Work σ) (o : Out) : (w.emit o).flog = w.flog := rfl
@[simp] theorem Work.emit_tl (w : Work σ) (o : Out) : (w.emit o).tl = w.tl := rfl
@[simp] theorem Work.emit_tlc (w : Work σ) (o : Out) : (w.emit o).tlc = w.tlc := rfl
@[simp] theorem Work.emit_fuse (w : Work σ) (o : Out) : (w.emit o).fuse = w.fuse := rfl
@[simp] theorem Work.emit_fresh (w : Work σ) (o : Out) : (w.emit o).fresh = w.fresh := rfl

@[simp] theorem Work.fireGen_rwipe (w : Work σ) (n g : Nat) (b : Bool) : (w.fireGen n g b).rwipe = w.rwipe := rfl
@[simp] theorem Work.fireGen_rlog (w : Work σ) (n g : Nat) (b : Bool) : (w.fireGen n g b).rlog = w.rlog := rfl
@[simp] theorem Work.fireGen_mwipe (w : Work σ) (n g : Nat) (b : Bool) : (w.fireGen n g b).mwipe = w.mwipe := rfl
@[simp] theorem Work.fireGen_mlog (w : Work σ) (n g : Nat) (b : Bool) : (w.fireGen n g b).mlog = w.mlog := rfl
@[simp] theorem Work.fireGen_lost (w : Work σ) (n g : Nat) (b : Bool) : (w.fireGen n g b).lost = w.lost := rfl
@[simp] theorem Work.fireGen_fwipe (w : Work σ) (n g : Nat) (b : Bool) : (w.fireGen n g b).fwipe = w.fwipe := rfl
@[simp] theorem Work.fireGen_flog (w : Work σ) (n g : Nat) (b : Bool) : (w.fireGen n g b).flog = w.flog := rfl
@[simp] theorem Work.fireGen_tl (w : Work σ) (n g : Nat) (b : Bool) : (w.fireGen n g b).tl = w.tl := rfl
@[simp] theorem Work.fireGen_tlc (w : Work σ) (n g : Nat) (b : Bool) : (w.fireGen n g b).tlc = w.tlc := rfl
@[simp] theorem Work.fireGen_fuse (w : Work σ) (n g : Nat) (b : Bool) : (w.fireGen n g b).fuse = w.fuse := rfl
@[simp] theorem Work.fireGen_fresh (w : Work σ) (n g : Nat) (b : Bool) : (w.fireGen n g b).fresh = w.fresh := rfl

@[simp] theorem Work.fire_rwipe (w : Work σ) (n : Nat) : (w.fire n).rwipe = w.rwipe := rfl
@[simp] theorem Work.fire_rlog (w : Work σ) (n : Nat) : (w.fire n).rlog = w.rlog := rfl
@[simp] theorem Work.fire_mwipe (w : Work σ) (n : Nat) : (w.fire n).mwipe = w.mwipe := rfl
@[simp] theorem Work.fire_mlog (w : Work σ) (n : Nat) : (w.fire n).mlog = w.mlog := rfl
@[simp] theorem Work.fire_lost (w : Work σ) (n : Nat) : (w.fire n).lost = w.lost := rfl
@[simp] theorem Work.fire_fwipe (w : Work σ) (n : Nat) : (w.fire n).fwipe = w.fwipe := rfl
@[simp] theorem Work.fire_flog (w : Work σ) (n : Nat) : (w.fire n).flog = w.flog := rfl
@[simp] theorem Work.fire_tl (w : Work σ) (n : Nat) : (w.fire n).tl = w.tl := rfl
@[simp] theorem Work.fire_tlc (w : Work σ) (n : Nat) : (w.fire n).tlc = w.tlc := rfl
@[simp] theorem Work.fire_fuse (w : Work σ) (n : Nat) : (w.fire n).fuse = w.fuse := rfl
@[simp] theorem Work.fire_fresh (w : Work σ) (n : Nat) : (w.fire n).fresh = w.fresh := rfl

/-! ## The start and the end of a command -/

@[simp] theorem Work.start_rwipe (s : State) : (Work.start s).rwipe = [] := rfl
@[simp] theorem Work.start_rlog (s : State) : (Work.start s).rlog = [] := rfl
@[simp] theorem Work.start_mwipe (s : State) : (Work.start s).mwipe = [] := rfl
@[simp] theorem Work.start_mlog (s : State) : (Work.start s).mlog = [] := rfl
@[simp] theorem Work.start_lost (s : State) : (Work.start s).lost = s.lost := rfl
@[simp] theorem Work.start_fwipe (s : State) : (Work.start s).fwipe = [] := rfl
@[simp] theorem Work.start_flog (s : State) : (Work.start s).flog = [] := rfl
@[simp] theorem Work.start_tl (s : State) : (Work.start s).tl = s.tl := rfl
@[simp] theorem Work.start_tlc (s : State) : (Work.start s).tlc = .keep := rfl
@[simp] theorem Work.start_fuse (s : State) : (Work.start s).fuse = s.fuse := rfl
@[simp] theorem Work.start_fresh (s : State) : (Work.start s).fresh = s.fresh := rfl
@[simp] theorem Work.start_dev (s : State) : (Work.start s).dev = { s.dev with out := [] } := rfl

@[simp] theorem Work.finish_dev (w : Work σ) : w.finish.dev = w.dev := rfl
@[simp] theorem Work.finish_regs (w : Work σ) : w.finish.regs = commit 0 (wipe w.rwipe σ.regs) w.rlog := rfl
@[simp] theorem Work.finish_mem (w : Work σ) : w.finish.mem = commit 0 (wipe w.mwipe σ.mem) w.mlog := rfl
@[simp] theorem Work.finish_lost (w : Work σ) : w.finish.lost = w.lost := rfl
@[simp] theorem Work.finish_flash (w : Work σ) : w.finish.flash = commit 0xFF (wipe w.fwipe σ.flash) w.flog := rfl
@[simp] theorem Work.finish_tl (w : Work σ) : w.finish.tl = σ.tl.apply w.tlc := rfl
@[simp] theorem Work.finish_fuse (w : Work σ) : w.finish.fuse = σ.fuse := rfl
@[simp] theorem Work.finish_fresh (w : Work σ) : w.finish.fresh = w.fresh := rfl
@[simp] theorem Work.finish_pending (w : Work σ) : w.finish.pending = σ.pending := rfl

/-! ## Updates of the state itself -/

@[simp] theorem State.with_tl_tl (s : State) (x : Tl) : ({ s with tl := x } : State).tl = x := rfl
@[simp] theorem State.with_tl_regs (s : State) (x : Tl) : ({ s with tl := x } : State).regs = s.regs := rfl
@[simp] theorem State.with_tl_mem (s : State) (x : Tl) : ({ s with tl := x } : State).mem = s.mem := rfl
@[simp] theorem State.with_tl_lost (s : State) (x : Tl) : ({ s with tl := x } : State).lost = s.lost := rfl
@[simp] theorem State.with_tl_flash (s : State) (x : Tl) : ({ s with tl := x } : State).flash = s.flash := rfl
@[simp] theorem State.with_tl_fuse (s : State) (x : Tl) : ({ s with tl := x } : State).fuse = s.fuse := rfl
@[simp] theorem State.with_tl_dev (s : State) (x : Tl) : ({ s with tl := x } : State).dev = s.dev := rfl
@[simp] theorem State.with_tl_fresh (s : State) (x : Tl) : ({ s with tl := x } : State).fresh = s.fresh := rfl
@[simp] theorem State.with_tl_pending (s : State) (x : Tl) : ({ s with tl := x } : State).pending = s.pending := rfl
@[simp] theorem State.with_regs_tl (s : State) (x : List (Nat × Nat)) : ({ s with regs := x } : State).tl = s.tl := rfl
@[simp] theorem State.with_regs_regs (s : State) (x : List (Nat × Nat)) : ({ s with regs := x } : State).regs = x := rfl
@[simp] theorem State.with_regs_mem (s : State) (x : List (Nat × Nat)) : ({ s with regs := x } : State).mem = s.mem := rfl
@[simp] theorem State.with_regs_lost (s : State) (x : List (Nat × Nat)) : ({ s with regs := x } : State).lost = s.lost := rfl
@[simp] theorem State.with_regs_flash (s : State) (x : List (Nat × Nat)) : ({ s with regs := x } : State).flash = s.flash := rfl
@[simp] theorem State.with_regs_fuse (s : State) (x : List (Nat × Nat)) : ({ s with regs := x } : State).fuse = s.fuse := rfl
@[simp] theorem State.with_regs_dev (s : State) (x : List (Nat × Nat)) : ({ s with regs := x } : State).dev = s.dev := rfl
@[simp] theorem State.with_regs_fresh (s : State) (x : List (Nat × Nat)) : ({ s with regs := x } : State).fresh = s.fresh := rfl
@[simp] theorem State.with_regs_pending (s : State) (x : List (Nat × Nat)) : ({ s with regs := x } : State).pending = s.pending := rfl
@[simp] theorem State.with_mem_tl (s : State) (x : List Host.Cell) : ({ s with mem := x } : State).tl = s.tl := rfl
@[simp] theorem State.with_mem_regs (s : State) (x : List Host.Cell) : ({ s with mem := x } : State).regs = s.regs := rfl
@[simp] theorem State.with_mem_mem (s : State) (x : List Host.Cell) : ({ s with mem := x } : State).mem = x := rfl
@[simp] theorem State.with_mem_lost (s : State) (x : List Host.Cell) : ({ s with mem := x } : State).lost = s.lost := rfl
@[simp] theorem State.with_mem_flash (s : State) (x : List Host.Cell) : ({ s with mem := x } : State).flash = s.flash := rfl
@[simp] theorem State.with_mem_fuse (s : State) (x : List Host.Cell) : ({ s with mem := x } : State).fuse = s.fuse := rfl
@[simp] theorem State.with_mem_dev (s : State) (x : List Host.Cell) : ({ s with mem := x } : State).dev = s.dev := rfl
@[simp] theorem State.with_mem_fresh (s : State) (x : List Host.Cell) : ({ s with mem := x } : State).fresh = s.fresh := rfl
@[simp] theorem State.with_mem_pending (s : State) (x : List Host.Cell) : ({ s with mem := x } : State).pending = s.pending := rfl
@[simp] theorem State.with_lost_tl (s : State) (x : List (Nat × Nat)) : ({ s with lost := x } : State).tl = s.tl := rfl
@[simp] theorem State.with_lost_regs (s : State) (x : List (Nat × Nat)) : ({ s with lost := x } : State).regs = s.regs := rfl
@[simp] theorem State.with_lost_mem (s : State) (x : List (Nat × Nat)) : ({ s with lost := x } : State).mem = s.mem := rfl
@[simp] theorem State.with_lost_lost (s : State) (x : List (Nat × Nat)) : ({ s with lost := x } : State).lost = x := rfl
@[simp] theorem State.with_lost_flash (s : State) (x : List (Nat × Nat)) : ({ s with lost := x } : State).flash = s.flash := rfl
@[simp] theorem State.with_lost_fuse (s : State) (x : List (Nat × Nat)) : ({ s with lost := x } : State).fuse = s.fuse := rfl
@[simp] theorem State.with_lost_dev (s : State) (x : List (Nat × Nat)) : ({ s with lost := x } : State).dev = s.dev := rfl
@[simp] theorem State.with_lost_fresh (s : State) (x : List (Nat × Nat)) : ({ s with lost := x } : State).fresh = s.fresh := rfl
@[simp] theorem State.with_lost_pending (s : State) (x : List (Nat × Nat)) : ({ s with lost := x } : State).pending = s.pending := rfl
@[simp] theorem State.with_flash_tl (s : State) (x : List Host.Cell) : ({ s with flash := x } : State).tl = s.tl := rfl
@[simp] theorem State.with_flash_regs (s : State) (x : List Host.Cell) : ({ s with flash := x } : State).regs = s.regs := rfl
@[simp] theorem State.with_flash_mem (s : State) (x : List Host.Cell) : ({ s with flash := x } : State).mem = s.mem := rfl
@[simp] theorem State.with_flash_lost (s : State) (x : List Host.Cell) : ({ s with flash := x } : State).lost = s.lost := rfl
@[simp] theorem State.with_flash_flash (s : State) (x : List Host.Cell) : ({ s with flash := x } : State).flash = x := rfl
@[simp] theorem State.with_flash_fuse (s : State) (x : List Host.Cell) : ({ s with flash := x } : State).fuse = s.fuse := rfl
@[simp] theorem State.with_flash_dev (s : State) (x : List Host.Cell) : ({ s with flash := x } : State).dev = s.dev := rfl
@[simp] theorem State.with_flash_fresh (s : State) (x : List Host.Cell) : ({ s with flash := x } : State).fresh = s.fresh := rfl
@[simp] theorem State.with_flash_pending (s : State) (x : List Host.Cell) : ({ s with flash := x } : State).pending = s.pending := rfl
@[simp] theorem State.with_fuse_tl (s : State) (x : Fuses) : ({ s with fuse := x } : State).tl = s.tl := rfl
@[simp] theorem State.with_fuse_regs (s : State) (x : Fuses) : ({ s with fuse := x } : State).regs = s.regs := rfl
@[simp] theorem State.with_fuse_mem (s : State) (x : Fuses) : ({ s with fuse := x } : State).mem = s.mem := rfl
@[simp] theorem State.with_fuse_lost (s : State) (x : Fuses) : ({ s with fuse := x } : State).lost = s.lost := rfl
@[simp] theorem State.with_fuse_flash (s : State) (x : Fuses) : ({ s with fuse := x } : State).flash = s.flash := rfl
@[simp] theorem State.with_fuse_fuse (s : State) (x : Fuses) : ({ s with fuse := x } : State).fuse = x := rfl
@[simp] theorem State.with_fuse_dev (s : State) (x : Fuses) : ({ s with fuse := x } : State).dev = s.dev := rfl
@[simp] theorem State.with_fuse_fresh (s : State) (x : Fuses) : ({ s with fuse := x } : State).fresh = s.fresh := rfl
@[simp] theorem State.with_fuse_pending (s : State) (x : Fuses) : ({ s with fuse := x } : State).pending = s.pending := rfl
@[simp] theorem State.with_dev_tl (s : State) (x : Dev) : ({ s with dev := x } : State).tl = s.tl := rfl
@[simp] theorem State.with_dev_regs (s : State) (x : Dev) : ({ s with dev := x } : State).regs = s.regs := rfl
@[simp] theorem State.with_dev_mem (s : State) (x : Dev) : ({ s with dev := x } : State).mem = s.mem := rfl
@[simp] theorem State.with_dev_lost (s : State) (x : Dev) : ({ s with dev := x } : State).lost = s.lost := rfl
@[simp] theorem State.with_dev_flash (s : State) (x : Dev) : ({ s with dev := x } : State).flash = s.flash := rfl
@[simp] theorem State.with_dev_fuse (s : State) (x : Dev) : ({ s with dev := x } : State).fuse = s.fuse := rfl
@[simp] theorem State.with_dev_dev (s : State) (x : Dev) : ({ s with dev := x } : State).dev = x := rfl
@[simp] theorem State.with_dev_fresh (s : State) (x : Dev) : ({ s with dev := x } : State).fresh = s.fresh := rfl
@[simp] theorem State.with_dev_pending (s : State) (x : Dev) : ({ s with dev := x } : State).pending = s.pending := rfl
@[simp] theorem State.with_fresh_tl (s : State) (x : Nat) : ({ s with fresh := x } : State).tl = s.tl := rfl
@[simp] theorem State.with_fresh_regs (s : State) (x : Nat) : ({ s with fresh := x } : State).regs = s.regs := rfl
@[simp] theorem State.with_fresh_mem (s : State) (x : Nat) : ({ s with fresh := x } : State).mem = s.mem := rfl
@[simp] theorem State.with_fresh_lost (s : State) (x : Nat) : ({ s with fresh := x } : State).lost = s.lost := rfl
@[simp] theorem State.with_fresh_flash (s : State) (x : Nat) : ({ s with fresh := x } : State).flash = s.flash := rfl
@[simp] theorem State.with_fresh_fuse (s : State) (x : Nat) : ({ s with fresh := x } : State).fuse = s.fuse := rfl
@[simp] theorem State.with_fresh_dev (s : State) (x : Nat) : ({ s with fresh := x } : State).dev = s.dev := rfl
@[simp] theorem State.with_fresh_fresh (s : State) (x : Nat) : ({ s with fresh := x } : State).fresh = x := rfl
@[simp] theorem State.with_fresh_pending (s : State) (x : Nat) : ({ s with fresh := x } : State).pending = s.pending := rfl
@[simp] theorem State.with_pending_tl (s : State) (x : List Instr) : ({ s with pending := x } : State).tl = s.tl := rfl
@[simp] theorem State.with_pending_regs (s : State) (x : List Instr) : ({ s with pending := x } : State).regs = s.regs := rfl
@[simp] theorem State.with_pending_mem (s : State) (x : List Instr) : ({ s with pending := x } : State).mem = s.mem := rfl
@[simp] theorem State.with_pending_lost (s : State) (x : List Instr) : ({ s with pending := x } : State).lost = s.lost := rfl
@[simp] theorem State.with_pending_flash (s : State) (x : List Instr) : ({ s with pending := x } : State).flash = s.flash := rfl
@[simp] theorem State.with_pending_fuse (s : State) (x : List Instr) : ({ s with pending := x } : State).fuse = s.fuse := rfl
@[simp] theorem State.with_pending_dev (s : State) (x : List Instr) : ({ s with pending := x } : State).dev = s.dev := rfl
@[simp] theorem State.with_pending_fresh (s : State) (x : List Instr) : ({ s with pending := x } : State).fresh = s.fresh := rfl
@[simp] theorem State.with_pending_pending (s : State) (x : List Instr) : ({ s with pending := x } : State).pending = x := rfl

@[simp] theorem Tl.apply_keep (t : Tl) : t.apply .keep = t := rfl

end Sys2Proof.Machine
end

