-- ==== Sys2Proof/Laws/Ops.lean ====
section
/-! SUPPORT. What the shared operations do: registers, memory, flash and typed state read after each update, and what a finished
command leaves in the state. -/

namespace Sys2Proof.Machine

variable {σ : State}

/-! ## Registers -/

/-- Every update but those of the register log leaves every register. -/
theorem Work.get_congr (w w' : Work σ) (h1 : w'.rlog = w.rlog) (h2 : w'.rwipe = w.rwipe) (f : Fld) :
    w'.get f = w.get f := by
  simp only [Work.get, h1, h2]

@[simp] theorem Work.get_start (s : State) (f : Fld) : (Work.start s).get f = s.get f := by
  simp [Work.get, State.get, assoc]

theorem Work.get_set (w : Work σ) (f g : Fld) (v : Nat) :
    (w.set f v).get g = if g.key = f.key then (v % 2 ^ f.width) ^^^ f.reset ^^^ g.reset else w.get g := by
  simp only [Work.get, Work.set, assoc]
  split <;> rfl

/-- A field that was set holds what it can of the value. -/
@[simp] theorem Work.get_set_self (w : Work σ) (f : Fld) (v : Nat) : (w.set f v).get f = v % 2 ^ f.width := by
  simp [Work.get_set]

/-- A field that was not set holds what it held. -/
theorem Work.get_set_ne (w : Work σ) (f g : Fld) (v : Nat) (h : g.key ≠ f.key) : (w.set f v).get g = w.get g := by
  simp [Work.get_set, h]

@[simp] theorem Work.get_setB_self (w : Work σ) (f : Fld) (b : Bool) : (w.setB f b).get f = b2n b % 2 ^ f.width := by
  simp [Work.setB]

theorem Work.get_setB_ne (w : Work σ) (f g : Fld) (b : Bool) (h : g.key ≠ f.key) : (w.setB f b).get g = w.get g := by
  simp [Work.setB, Work.get_set_ne _ _ _ _ h]

theorem Work.get_inc_self (w : Work σ) (f : Fld) :
    (w.inc f).get f = satAdd (2 ^ f.width - 1) (w.get f) 1 % 2 ^ f.width := by
  simp [Work.inc, Work.add]

theorem Work.get_inc_ne (w : Work σ) (f g : Fld) (h : g.key ≠ f.key) : (w.inc f).get g = w.get g := by
  simp [Work.inc, Work.add, Work.get_set_ne _ _ _ _ h]

@[simp] theorem Work.get_setTile (w : Work σ) (t : Nat) (x : Tile) (f : Fld) : (w.setTile t x).get f = w.get f := rfl
@[simp] theorem Work.get_updTile (w : Work σ) (t : Nat) (g : Tile → Tile) (f : Fld) : (w.updTile t g).get f = w.get f := rfl
@[simp] theorem Work.get_emit (w : Work σ) (o : Out) (f : Fld) : (w.emit o).get f = w.get f := rfl
@[simp] theorem Work.get_fireGen (w : Work σ) (n g : Nat) (b : Bool) (f : Fld) : (w.fireGen n g b).get f = w.get f := rfl
@[simp] theorem Work.get_fire (w : Work σ) (n : Nat) (f : Fld) : (w.fire n).get f = w.get f := rfl
@[simp] theorem Work.get_wr8 (w : Work σ) (a : Nat) (b : Byte) (f : Fld) : (w.wr8 a b).get f = w.get f := rfl
@[simp] theorem Work.get_flSet (w : Work σ) (a : Nat) (b : Byte) (f : Fld) : (w.flSet a b).get f = w.get f := rfl
@[simp] theorem Work.get_wipeMem (w : Work σ) (rs : List (Nat × Nat)) (f : Fld) : (w.wipeMem rs).get f = w.get f := rfl

/-- Registers cleared: those whose key lies in a range read their reset values, and the others what they read. -/
theorem Work.get_wipeRegs (w : Work σ) (rs : List (Nat × Nat)) (f : Fld) :
    (w.wipeRegs rs).get f = if inRanges rs f.key then f.reset else w.get f := by
  have hr : inRanges (rs ++ w.rwipe) f.key = (inRanges rs f.key || inRanges w.rwipe f.key) := by
    simp [inRanges, List.any_append]
  have hw : ∀ (d : Nat) (l : List (Nat × Nat)), assoc d (wipe rs l) f.key = if inRanges rs f.key then d else assoc d l f.key := by
    intro d l
    exact assoc_wipe d rs l f.key
  simp only [Work.get, Work.wipeRegs, hw, hr]
  by_cases h : inRanges rs f.key = true
  · simp [h]
  · simp [h]

/-- What a register holds once a command has finished, from a proper state. -/
theorem Work.finish_get (w : Work σ) (f : Fld) (hs : σ.wf = true) : w.finish.get f = w.get f := by
  have hc : canonical 0 σ.regs = true := by
    simp only [State.wf, Bool.and_eq_true] at hs
    exact hs.1.1
  simp only [State.get, Work.get, Work.finish_regs]
  rw [assoc_commit 0 _ _ _ (canonical_wipe 0 _ _ hc), assoc_wipe]

/-! ## Memory and flash -/

@[simp] theorem Work.rd8_start (s : State) (a : Nat) : (Work.start s).rd8 a = s.byteAt a := by
  simp [Work.rd8, State.byteAt, assoc]

theorem Work.rd8_wr8 (w : Work σ) (a b : Nat) (x : Byte) : (w.wr8 a x).rd8 b = if b = a then x else w.rd8 b := by
  simp only [Work.rd8, Work.wr8, assoc]
  split
  · subst_vars
    simp
  · rfl

/-- Bytes stored from a: each byte of the range reads what was stored, every other byte what it read. -/
theorem Work.rd8_wrBytes (w : Work σ) (a b : Nat) (bs : List Byte) :
    (w.wrBytes a bs).rd8 b = if a ≤ b ∧ b < a + bs.length then bs.getD (b - a) 0 else w.rd8 b := by
  induction bs generalizing w a with
  | nil =>
    have h : ¬(a ≤ b ∧ b < a + ([] : List Byte).length) := by simp
    simp only [Work.wrBytes, if_neg h]
  | cons x r ih =>
    simp only [Work.wrBytes, ih, Work.rd8_wr8, List.length_cons]
    by_cases h1 : a + 1 ≤ b ∧ b < a + 1 + r.length
    · have h2 : a ≤ b ∧ b < a + (r.length + 1) := by omega
      simp only [if_pos h1, if_pos h2]
      obtain ⟨k, rfl⟩ : ∃ k, b = a + 1 + k := ⟨b - (a + 1), by omega⟩
      have e1 : a + 1 + k - (a + 1) = k := by omega
      have e2 : a + 1 + k - a = k + 1 := by omega
      simp [e1, e2]
    · by_cases h3 : b = a
      · subst h3
        have h2 : b ≤ b ∧ b < b + (r.length + 1) := by omega
        simp only [if_neg h1, if_pos h2]
        simp
      · have h2 : ¬(a ≤ b ∧ b < a + (r.length + 1)) := by omega
        simp only [if_neg h1, if_neg h2, if_neg h3]

@[simp] theorem Work.wrBytes_dev (w : Work σ) (a : Nat) (bs : List Byte) : (w.wrBytes a bs).dev = w.dev := by
  induction bs generalizing w a with
  | nil => rfl
  | cons x r ih => simp [Work.wrBytes, ih]

@[simp] theorem Work.get_wrBytes (w : Work σ) (a : Nat) (bs : List Byte) (f : Fld) : (w.wrBytes a bs).get f = w.get f := by
  induction bs generalizing w a with
  | nil => rfl
  | cons x r ih => simp [Work.wrBytes, ih]

/-- What a byte of memory holds once a command has finished, from a proper state. -/
theorem Work.finish_byteAt (w : Work σ) (a : Nat) (hs : σ.wf = true) : w.finish.byteAt a = w.rd8 a := by
  have hc : canonical (0 : Byte) σ.mem = true := by
    simp only [State.wf, Memory.wf, Bool.and_eq_true] at hs
    exact hs.1.2
  simp only [State.byteAt, Work.rd8, Work.finish_mem, Work.finish_lost]
  rw [assoc_commit (0 : Byte) _ _ _ (canonical_wipe (0 : Byte) _ _ hc), assoc_wipe]

/-- What a byte of flash holds once a command has finished, from a proper state. -/
theorem Work.finish_flashAt (w : Work σ) (a : Nat) (hs : σ.wf = true) : w.finish.flashAt a = w.fl8 a := by
  have hc : canonical (0xFF : Byte) σ.flash = true := by
    simp only [State.wf, Bool.and_eq_true] at hs
    exact hs.2
  simp only [State.flashAt, Work.fl8, Work.finish_flash]
  rw [assoc_commit (0xFF : Byte) _ _ _ (canonical_wipe (0xFF : Byte) _ _ hc), assoc_wipe]

/-- Every finished command leaves the three stores in their canonical form: every write keeps it. -/
theorem Work.finish_wf (w : Work σ) (hs : σ.wf = true) : w.finish.wf = true := by
  simp only [State.wf, Memory.wf, Bool.and_eq_true, Work.finish_regs, Work.finish_mem, Work.finish_flash] at hs ⊢
  exact ⟨⟨canonical_commit _ _ _ (canonical_wipe _ _ _ hs.1.1), canonical_commit _ _ _ (canonical_wipe _ _ _ hs.1.2)⟩,
    canonical_commit _ _ _ (canonical_wipe _ _ _ hs.2)⟩

/-! ## Typed state -/

/-- A tile that was changed is what the change made of it, and every other tile is as it was. -/
theorem Work.tile_updTile (w : Work σ) (t u : Nat) (f : Tile → Tile) (ht : t < 32) :
    (w.updTile t f).tile u = if u = t then f (w.tile t) else w.tile u := by
  simp only [Work.updTile, Work.setTile, Work.tile]
  rw [vget_vset _ _ _ _ _ ht]

/-! ## The runner -/

/-- A meaning that runs answers the state it finishes. -/
theorem run_eq (f : ∀ {σ : State}, Work σ → Work σ) (s : State) : run f s = .next (f (Work.start s)).finish := rfl

/-- A meaning that also changes the fuses answers the state it finishes with them. -/
theorem runFuse_eq (g : ∀ {σ : State}, Work σ → Fuses → Fuses) (f : ∀ {σ : State}, Work σ → Work σ) (s : State) :
    runFuse g f s = .next { (f (Work.start s)).finish with fuse := g (Work.start s) s.fuse } := rfl

end Sys2Proof.Machine
end

