-- ==== Sys2Proof/Laws/Typed.lean ====
section
/-! SUPPORT. What an update of typed state leaves alone, and what the shared operations over links, DDR5 channels and lists can do. -/

namespace Sys2Proof.Machine

variable {σ : State}

/-! ## Updates of typed state: registers, memory and flash read as before, and one part of Dev changes -/

@[simp] theorem Work.get_updLink (w : Work σ) (l : Nat) (u : LinkSt → LinkSt) (f : Fld) : (w.updLink l u).get f = w.get f := rfl
@[simp] theorem Work.rd8_updLink (w : Work σ) (l : Nat) (u : LinkSt → LinkSt) (b : Nat) : (w.updLink l u).rd8 b = w.rd8 b := rfl
@[simp] theorem Work.fl8_updLink (w : Work σ) (l : Nat) (u : LinkSt → LinkSt) (b : Nat) : (w.updLink l u).fl8 b = w.fl8 b := rfl
@[simp] theorem Work.updLink_tl (w : Work σ) (l : Nat) (u : LinkSt → LinkSt) : (w.updLink l u).tl = w.tl := rfl
@[simp] theorem Work.updLink_tlc (w : Work σ) (l : Nat) (u : LinkSt → LinkSt) : (w.updLink l u).tlc = w.tlc := rfl
@[simp] theorem Work.updLink_fuse (w : Work σ) (l : Nat) (u : LinkSt → LinkSt) : (w.updLink l u).fuse = w.fuse := rfl
@[simp] theorem Work.updLink_fresh (w : Work σ) (l : Nat) (u : LinkSt → LinkSt) : (w.updLink l u).fresh = w.fresh := rfl
theorem Work.updLink_dev (w : Work σ) (l : Nat) (u : LinkSt → LinkSt) : (w.updLink l u).dev = { w.dev with links := (w.updLink l u).dev.links } := rfl

@[simp] theorem Work.get_updDdr (w : Work σ) (c : Nat) (u : DdrSt → DdrSt) (f : Fld) : (w.updDdr c u).get f = w.get f := rfl
@[simp] theorem Work.rd8_updDdr (w : Work σ) (c : Nat) (u : DdrSt → DdrSt) (b : Nat) : (w.updDdr c u).rd8 b = w.rd8 b := rfl
@[simp] theorem Work.fl8_updDdr (w : Work σ) (c : Nat) (u : DdrSt → DdrSt) (b : Nat) : (w.updDdr c u).fl8 b = w.fl8 b := rfl
@[simp] theorem Work.updDdr_tl (w : Work σ) (c : Nat) (u : DdrSt → DdrSt) : (w.updDdr c u).tl = w.tl := rfl
@[simp] theorem Work.updDdr_tlc (w : Work σ) (c : Nat) (u : DdrSt → DdrSt) : (w.updDdr c u).tlc = w.tlc := rfl
@[simp] theorem Work.updDdr_fuse (w : Work σ) (c : Nat) (u : DdrSt → DdrSt) : (w.updDdr c u).fuse = w.fuse := rfl
@[simp] theorem Work.updDdr_fresh (w : Work σ) (c : Nat) (u : DdrSt → DdrSt) : (w.updDdr c u).fresh = w.fresh := rfl
theorem Work.updDdr_dev (w : Work σ) (c : Nat) (u : DdrSt → DdrSt) : (w.updDdr c u).dev = { w.dev with ddr := (w.updDdr c u).dev.ddr } := rfl

@[simp] theorem Work.get_updHk (w : Work σ) (u : HkSt → HkSt) (f : Fld) : (w.updHk u).get f = w.get f := rfl
@[simp] theorem Work.rd8_updHk (w : Work σ) (u : HkSt → HkSt) (b : Nat) : (w.updHk u).rd8 b = w.rd8 b := rfl
@[simp] theorem Work.fl8_updHk (w : Work σ) (u : HkSt → HkSt) (b : Nat) : (w.updHk u).fl8 b = w.fl8 b := rfl
@[simp] theorem Work.updHk_tl (w : Work σ) (u : HkSt → HkSt) : (w.updHk u).tl = w.tl := rfl
@[simp] theorem Work.updHk_tlc (w : Work σ) (u : HkSt → HkSt) : (w.updHk u).tlc = w.tlc := rfl
@[simp] theorem Work.updHk_fuse (w : Work σ) (u : HkSt → HkSt) : (w.updHk u).fuse = w.fuse := rfl
@[simp] theorem Work.updHk_fresh (w : Work σ) (u : HkSt → HkSt) : (w.updHk u).fresh = w.fresh := rfl
theorem Work.updHk_dev (w : Work σ) (u : HkSt → HkSt) : (w.updHk u).dev = { w.dev with hk := (w.updHk u).dev.hk } := rfl

@[simp] theorem Work.get_updLd (w : Work σ) (u : LoaderSt → LoaderSt) (f : Fld) : (w.updLd u).get f = w.get f := rfl
@[simp] theorem Work.rd8_updLd (w : Work σ) (u : LoaderSt → LoaderSt) (b : Nat) : (w.updLd u).rd8 b = w.rd8 b := rfl
@[simp] theorem Work.fl8_updLd (w : Work σ) (u : LoaderSt → LoaderSt) (b : Nat) : (w.updLd u).fl8 b = w.fl8 b := rfl
@[simp] theorem Work.updLd_tl (w : Work σ) (u : LoaderSt → LoaderSt) : (w.updLd u).tl = w.tl := rfl
@[simp] theorem Work.updLd_tlc (w : Work σ) (u : LoaderSt → LoaderSt) : (w.updLd u).tlc = w.tlc := rfl
@[simp] theorem Work.updLd_fuse (w : Work σ) (u : LoaderSt → LoaderSt) : (w.updLd u).fuse = w.fuse := rfl
@[simp] theorem Work.updLd_fresh (w : Work σ) (u : LoaderSt → LoaderSt) : (w.updLd u).fresh = w.fresh := rfl
theorem Work.updLd_dev (w : Work σ) (u : LoaderSt → LoaderSt) : (w.updLd u).dev = { w.dev with loader := (w.updLd u).dev.loader } := rfl

@[simp] theorem Work.get_updPort (w : Work σ) (u : PortSt → PortSt) (f : Fld) : (w.updPort u).get f = w.get f := rfl
@[simp] theorem Work.rd8_updPort (w : Work σ) (u : PortSt → PortSt) (b : Nat) : (w.updPort u).rd8 b = w.rd8 b := rfl
@[simp] theorem Work.fl8_updPort (w : Work σ) (u : PortSt → PortSt) (b : Nat) : (w.updPort u).fl8 b = w.fl8 b := rfl
@[simp] theorem Work.updPort_tl (w : Work σ) (u : PortSt → PortSt) : (w.updPort u).tl = w.tl := rfl
@[simp] theorem Work.updPort_tlc (w : Work σ) (u : PortSt → PortSt) : (w.updPort u).tlc = w.tlc := rfl
@[simp] theorem Work.updPort_fuse (w : Work σ) (u : PortSt → PortSt) : (w.updPort u).fuse = w.fuse := rfl
@[simp] theorem Work.updPort_fresh (w : Work σ) (u : PortSt → PortSt) : (w.updPort u).fresh = w.fresh := rfl
theorem Work.updPort_dev (w : Work σ) (u : PortSt → PortSt) : (w.updPort u).dev = { w.dev with port := (w.updPort u).dev.port } := rfl

@[simp] theorem Work.get_updCtx (w : Work σ) (k c : Nat) (u : TableCtx → TableCtx) (f : Fld) : (w.updCtx k c u).get f = w.get f := rfl
@[simp] theorem Work.rd8_updCtx (w : Work σ) (k c : Nat) (u : TableCtx → TableCtx) (b : Nat) : (w.updCtx k c u).rd8 b = w.rd8 b := rfl
@[simp] theorem Work.fl8_updCtx (w : Work σ) (k c : Nat) (u : TableCtx → TableCtx) (b : Nat) : (w.updCtx k c u).fl8 b = w.fl8 b := rfl
@[simp] theorem Work.updCtx_tl (w : Work σ) (k c : Nat) (u : TableCtx → TableCtx) : (w.updCtx k c u).tl = w.tl := rfl
@[simp] theorem Work.updCtx_tlc (w : Work σ) (k c : Nat) (u : TableCtx → TableCtx) : (w.updCtx k c u).tlc = w.tlc := rfl
@[simp] theorem Work.updCtx_fuse (w : Work σ) (k c : Nat) (u : TableCtx → TableCtx) : (w.updCtx k c u).fuse = w.fuse := rfl
@[simp] theorem Work.updCtx_fresh (w : Work σ) (k c : Nat) (u : TableCtx → TableCtx) : (w.updCtx k c u).fresh = w.fresh := rfl
theorem Work.updCtx_dev (w : Work σ) (k c : Nat) (u : TableCtx → TableCtx) : (w.updCtx k c u).dev = { w.dev with tables := (w.updCtx k c u).dev.tables } := rfl

@[simp] theorem Work.get_updSeq (w : Work σ) (t : Nat) (u : SeqSt → SeqSt) (f : Fld) : (w.updSeq t u).get f = w.get f := rfl
@[simp] theorem Work.rd8_updSeq (w : Work σ) (t : Nat) (u : SeqSt → SeqSt) (b : Nat) : (w.updSeq t u).rd8 b = w.rd8 b := rfl
@[simp] theorem Work.fl8_updSeq (w : Work σ) (t : Nat) (u : SeqSt → SeqSt) (b : Nat) : (w.updSeq t u).fl8 b = w.fl8 b := rfl
@[simp] theorem Work.updSeq_tl (w : Work σ) (t : Nat) (u : SeqSt → SeqSt) : (w.updSeq t u).tl = w.tl := rfl
@[simp] theorem Work.updSeq_tlc (w : Work σ) (t : Nat) (u : SeqSt → SeqSt) : (w.updSeq t u).tlc = w.tlc := rfl
@[simp] theorem Work.updSeq_fuse (w : Work σ) (t : Nat) (u : SeqSt → SeqSt) : (w.updSeq t u).fuse = w.fuse := rfl
@[simp] theorem Work.updSeq_fresh (w : Work σ) (t : Nat) (u : SeqSt → SeqSt) : (w.updSeq t u).fresh = w.fresh := rfl
theorem Work.updSeq_dev (w : Work σ) (t : Nat) (u : SeqSt → SeqSt) : (w.updSeq t u).dev = { w.dev with tiles := (w.updSeq t u).dev.tiles } := rfl

@[simp] theorem Work.get_updCap (w : Work σ) (t : Nat) (u : CapUnit → CapUnit) (f : Fld) : (w.updCap t u).get f = w.get f := rfl
@[simp] theorem Work.rd8_updCap (w : Work σ) (t : Nat) (u : CapUnit → CapUnit) (b : Nat) : (w.updCap t u).rd8 b = w.rd8 b := rfl
@[simp] theorem Work.fl8_updCap (w : Work σ) (t : Nat) (u : CapUnit → CapUnit) (b : Nat) : (w.updCap t u).fl8 b = w.fl8 b := rfl
@[simp] theorem Work.updCap_tl (w : Work σ) (t : Nat) (u : CapUnit → CapUnit) : (w.updCap t u).tl = w.tl := rfl
@[simp] theorem Work.updCap_tlc (w : Work σ) (t : Nat) (u : CapUnit → CapUnit) : (w.updCap t u).tlc = w.tlc := rfl
@[simp] theorem Work.updCap_fuse (w : Work σ) (t : Nat) (u : CapUnit → CapUnit) : (w.updCap t u).fuse = w.fuse := rfl
@[simp] theorem Work.updCap_fresh (w : Work σ) (t : Nat) (u : CapUnit → CapUnit) : (w.updCap t u).fresh = w.fresh := rfl
theorem Work.updCap_dev (w : Work σ) (t : Nat) (u : CapUnit → CapUnit) : (w.updCap t u).dev = { w.dev with tiles := (w.updCap t u).dev.tiles } := rfl

@[simp] theorem Work.get_updClasp (w : Work σ) (t c : Nat) (u : Clasp → Clasp) (f : Fld) : (w.updClasp t c u).get f = w.get f := rfl
@[simp] theorem Work.rd8_updClasp (w : Work σ) (t c : Nat) (u : Clasp → Clasp) (b : Nat) : (w.updClasp t c u).rd8 b = w.rd8 b := rfl
@[simp] theorem Work.fl8_updClasp (w : Work σ) (t c : Nat) (u : Clasp → Clasp) (b : Nat) : (w.updClasp t c u).fl8 b = w.fl8 b := rfl
@[simp] theorem Work.updClasp_tl (w : Work σ) (t c : Nat) (u : Clasp → Clasp) : (w.updClasp t c u).tl = w.tl := rfl
@[simp] theorem Work.updClasp_tlc (w : Work σ) (t c : Nat) (u : Clasp → Clasp) : (w.updClasp t c u).tlc = w.tlc := rfl
@[simp] theorem Work.updClasp_fuse (w : Work σ) (t c : Nat) (u : Clasp → Clasp) : (w.updClasp t c u).fuse = w.fuse := rfl
@[simp] theorem Work.updClasp_fresh (w : Work σ) (t c : Nat) (u : Clasp → Clasp) : (w.updClasp t c u).fresh = w.fresh := rfl
theorem Work.updClasp_dev (w : Work σ) (t c : Nat) (u : Clasp → Clasp) : (w.updClasp t c u).dev = { w.dev with tiles := (w.updClasp t c u).dev.tiles } := rfl

@[simp] theorem Work.get_updWatch (w : Work σ) (t d : Nat) (u : Watch → Watch) (f : Fld) : (w.updWatch t d u).get f = w.get f := rfl
@[simp] theorem Work.rd8_updWatch (w : Work σ) (t d : Nat) (u : Watch → Watch) (b : Nat) : (w.updWatch t d u).rd8 b = w.rd8 b := rfl
@[simp] theorem Work.fl8_updWatch (w : Work σ) (t d : Nat) (u : Watch → Watch) (b : Nat) : (w.updWatch t d u).fl8 b = w.fl8 b := rfl
@[simp] theorem Work.updWatch_tl (w : Work σ) (t d : Nat) (u : Watch → Watch) : (w.updWatch t d u).tl = w.tl := rfl
@[simp] theorem Work.updWatch_tlc (w : Work σ) (t d : Nat) (u : Watch → Watch) : (w.updWatch t d u).tlc = w.tlc := rfl
@[simp] theorem Work.updWatch_fuse (w : Work σ) (t d : Nat) (u : Watch → Watch) : (w.updWatch t d u).fuse = w.fuse := rfl
@[simp] theorem Work.updWatch_fresh (w : Work σ) (t d : Nat) (u : Watch → Watch) : (w.updWatch t d u).fresh = w.fresh := rfl
theorem Work.updWatch_dev (w : Work σ) (t d : Nat) (u : Watch → Watch) : (w.updWatch t d u).dev = { w.dev with tiles := (w.updWatch t d u).dev.tiles } := rfl

@[simp] theorem Work.get_updFlux (w : Work σ) (t e : Nat) (u : Flux → Flux) (f : Fld) : (w.updFlux t e u).get f = w.get f := rfl
@[simp] theorem Work.rd8_updFlux (w : Work σ) (t e : Nat) (u : Flux → Flux) (b : Nat) : (w.updFlux t e u).rd8 b = w.rd8 b := rfl
@[simp] theorem Work.fl8_updFlux (w : Work σ) (t e : Nat) (u : Flux → Flux) (b : Nat) : (w.updFlux t e u).fl8 b = w.fl8 b := rfl
@[simp] theorem Work.updFlux_tl (w : Work σ) (t e : Nat) (u : Flux → Flux) : (w.updFlux t e u).tl = w.tl := rfl
@[simp] theorem Work.updFlux_tlc (w : Work σ) (t e : Nat) (u : Flux → Flux) : (w.updFlux t e u).tlc = w.tlc := rfl
@[simp] theorem Work.updFlux_fuse (w : Work σ) (t e : Nat) (u : Flux → Flux) : (w.updFlux t e u).fuse = w.fuse := rfl
@[simp] theorem Work.updFlux_fresh (w : Work σ) (t e : Nat) (u : Flux → Flux) : (w.updFlux t e u).fresh = w.fresh := rfl
theorem Work.updFlux_dev (w : Work σ) (t e : Nat) (u : Flux → Flux) : (w.updFlux t e u).dev = { w.dev with tiles := (w.updFlux t e u).dev.tiles } := rfl

@[simp] theorem Work.get_updTone (w : Work σ) (t e : Nat) (u : Tone → Tone) (f : Fld) : (w.updTone t e u).get f = w.get f := rfl
@[simp] theorem Work.rd8_updTone (w : Work σ) (t e : Nat) (u : Tone → Tone) (b : Nat) : (w.updTone t e u).rd8 b = w.rd8 b := rfl
@[simp] theorem Work.fl8_updTone (w : Work σ) (t e : Nat) (u : Tone → Tone) (b : Nat) : (w.updTone t e u).fl8 b = w.fl8 b := rfl
@[simp] theorem Work.updTone_tl (w : Work σ) (t e : Nat) (u : Tone → Tone) : (w.updTone t e u).tl = w.tl := rfl
@[simp] theorem Work.updTone_tlc (w : Work σ) (t e : Nat) (u : Tone → Tone) : (w.updTone t e u).tlc = w.tlc := rfl
@[simp] theorem Work.updTone_fuse (w : Work σ) (t e : Nat) (u : Tone → Tone) : (w.updTone t e u).fuse = w.fuse := rfl
@[simp] theorem Work.updTone_fresh (w : Work σ) (t e : Nat) (u : Tone → Tone) : (w.updTone t e u).fresh = w.fresh := rfl
theorem Work.updTone_dev (w : Work σ) (t e : Nat) (u : Tone → Tone) : (w.updTone t e u).dev = { w.dev with tiles := (w.updTone t e u).dev.tiles } := rfl

@[simp] theorem Work.get_updDac (w : Work σ) (t d : Nat) (u : Dac → Dac) (f : Fld) : (w.updDac t d u).get f = w.get f := rfl
@[simp] theorem Work.rd8_updDac (w : Work σ) (t d : Nat) (u : Dac → Dac) (b : Nat) : (w.updDac t d u).rd8 b = w.rd8 b := rfl
@[simp] theorem Work.fl8_updDac (w : Work σ) (t d : Nat) (u : Dac → Dac) (b : Nat) : (w.updDac t d u).fl8 b = w.fl8 b := rfl
@[simp] theorem Work.updDac_tl (w : Work σ) (t d : Nat) (u : Dac → Dac) : (w.updDac t d u).tl = w.tl := rfl
@[simp] theorem Work.updDac_tlc (w : Work σ) (t d : Nat) (u : Dac → Dac) : (w.updDac t d u).tlc = w.tlc := rfl
@[simp] theorem Work.updDac_fuse (w : Work σ) (t d : Nat) (u : Dac → Dac) : (w.updDac t d u).fuse = w.fuse := rfl
@[simp] theorem Work.updDac_fresh (w : Work σ) (t d : Nat) (u : Dac → Dac) : (w.updDac t d u).fresh = w.fresh := rfl
theorem Work.updDac_dev (w : Work σ) (t d : Nat) (u : Dac → Dac) : (w.updDac t d u).dev = { w.dev with tiles := (w.updDac t d u).dev.tiles } := rfl

/-! ## Lists -/

/-- What holds before a loop and through each of its turns holds behind it. -/
theorem Work.each_keeps {α : Type} (P : Work σ → Prop) (f : Work σ → α → Work σ) (h : ∀ w x, P w → P (f w x)) (l : List α)
    (w : Work σ) (h0 : P w) : P (w.each l f) := by
  induction l generalizing w with
  | nil => exact h0
  | cons x r ih => exact ih _ (h _ _ h0)

/-! ## Block intervals of links (R338, R362, R364) -/

/-- What giving blocks out over a link leaves: everything but what was given out and the counter of free values. -/
def OnlyOut (w w' : Work σ) : Prop :=
  (∀ f, w'.get f = w.get f) ∧ (∀ b, w'.rd8 b = w.rd8 b) ∧ (∀ b, w'.fl8 b = w.fl8 b) ∧ w'.tl = w.tl ∧ w'.tlc = w.tlc ∧
    w'.fuse = w.fuse ∧ w'.dev = { w.dev with out := w'.dev.out }

theorem OnlyOut.refl (w : Work σ) : OnlyOut w w := ⟨fun _ => rfl, fun _ => rfl, fun _ => rfl, rfl, rfl, rfl, rfl⟩

theorem OnlyOut.trans {w w' w'' : Work σ} (h : OnlyOut w w') (h' : OnlyOut w' w'') : OnlyOut w w'' := by
  obtain ⟨a, b, c, d, e, f, g⟩ := h
  obtain ⟨a', b', c', d', e', f', g'⟩ := h'
  exact ⟨fun x => (a' x).trans (a x), fun x => (b' x).trans (b x), fun x => (c' x).trans (c x), d'.trans d, e'.trans e,
    f'.trans f, by rw [g', g]⟩

theorem lineBlocks_onlyOut (w : Work σ) (l : List (Nat × Nat × Nat)) : OnlyOut w (lineBlocks w l).2 := by
  induction l generalizing w with
  | nil => exact OnlyOut.refl w
  | cons b bs ih => exact OnlyOut.trans (OnlyOut.refl _) (ih _)

/-- One block interval changes nothing but what the block has given out. -/
theorem interval_onlyOut (w : Work σ) (l : Nat) (f : Nat → Option (Nat × Nat)) : OnlyOut w (interval w l f) := by
  simp only [interval]
  split
  · exact OnlyOut.refl w
  · exact (lineBlocks_onlyOut w _).trans ⟨fun _ => rfl, fun _ => rfl, fun _ => rfl, rfl, rfl, rfl, rfl⟩

theorem copiesNow_onlyOut (w : Work σ) (l p : Nat) : OnlyOut w (copiesNow w l p) := interval_onlyOut _ _ _

/-- A message striped over the lanes of a link changes nothing but what the block has given out. -/
theorem sendStripe_onlyOut (w : Work σ) (l : Nat) (bs : List (Nat × Nat)) : OnlyOut w (sendStripe w l bs) :=
  Work.each_keeps (OnlyOut w) _ (fun _ _ h => h.trans (interval_onlyOut _ _ _)) _ _ (OnlyOut.refl w)

/-- Copies of a block on a link: given out at once, or kept while its transmitter is in lull (R353). -/
theorem sendCopies_cases (w : Work σ) (l p : Nat) :
    (lullTx w l = true ∧ sendCopies w l p = w.updLink l (fun k => { k with held := k.held ++ [p] })) ∨
      (lullTx w l = false ∧ OnlyOut w (sendCopies w l p)) := by
  simp only [sendCopies]
  split
  · exact .inl ⟨‹_›, rfl⟩
  · exact .inr ⟨Bool.eq_false_iff.mpr ‹_›, copiesNow_onlyOut _ _ _⟩

/-! ## The traffic of DDR5 accesses (R407) -/

/-- What the traffic of an access leaves: memory, flash, the fuses, the clock and every part of Dev but the DDR5 channels. -/
def OnlyDdr (w w' : Work σ) : Prop :=
  (∀ b, w'.rd8 b = w.rd8 b) ∧ (∀ b, w'.fl8 b = w.fl8 b) ∧ w'.tl = w.tl ∧ w'.tlc = w.tlc ∧ w'.fuse = w.fuse ∧
    w'.dev = { w.dev with ddr := w'.dev.ddr }

theorem OnlyDdr.trans {w w' w'' : Work σ} (h : OnlyDdr w w') (h' : OnlyDdr w' w'') : OnlyDdr w w'' := by
  obtain ⟨a, b, c, d, e, f⟩ := h
  obtain ⟨a', b', c', d', e', f'⟩ := h'
  exact ⟨fun x => (a' x).trans (a x), fun x => (b' x).trans (b x), c'.trans c, d'.trans d, e'.trans e, by rw [f', f]⟩

theorem OnlyDdr.refl (w : Work σ) : OnlyDdr w w := ⟨fun _ => rfl, fun _ => rfl, rfl, rfl, rfl, rfl⟩

theorem ddrLine_onlyDdr (w : Work σ) (cls : Nat) (write : Bool) (a : Nat) : OnlyDdr w (ddrLine w cls write a) := by
  simp only [ddrLine]
  split
  · exact OnlyDdr.refl w
  · split
    · exact ⟨fun _ => rfl, fun _ => rfl, rfl, rfl, rfl, rfl⟩
    · exact OnlyDdr.refl w

/-- The traffic of an access moves no data and touches nothing but the state of the channels and their registers. -/
theorem ddrTraffic_onlyDdr (w : Work σ) (cls : Nat) (write : Bool) (a n : Nat) : OnlyDdr w (ddrTraffic w cls write a n) := by
  simp only [ddrTraffic]
  split
  · exact OnlyDdr.refl w
  · exact Work.each_keeps (OnlyDdr w) _ (fun _ _ h => h.trans (ddrLine_onlyDdr _ _ _ _)) _ _ (OnlyDdr.refl w)

/-- An entry of the error log touches no byte of memory (R457). -/
@[simp] theorem Work.rd8_errlog (w : Work σ) (kind tile detail addr b : Nat) (path : Path) :
    (w.errlog kind path tile detail addr).rd8 b = w.rd8 b := by
  have h : ∀ w' : Work σ, w'.mlog = w.mlog → w'.mwipe = w.mwipe → w'.lost = w.lost → w'.rd8 b = w.rd8 b := by
    intro w' h1 h2 h3
    simp only [Work.rd8, h1, h2, h3]
  apply h <;> (unfold Work.errlog; dsimp only; split <;> simp)

/-- R29, R407, R408: after a device's own write each byte of its range, as far as it lies within the installed capacity, reads what was
stored, and every other byte what it read. -/
theorem rd8_ddrWrite (w : Work σ) (cls a b : Nat) (bs : List Byte) :
    (w.ddrWrite cls a bs).rd8 b =
      if a ≤ b ∧ b < a + (withinCapacity w a bs).length then (withinCapacity w a bs).getD (b - a) 0 else w.rd8 b := by
  simp only [Work.ddrWrite]
  split
  · rw [Work.rd8_errlog, Work.rd8_wrBytes, (ddrTraffic_onlyDdr _ _ _ _ _).1]
  · rw [Work.rd8_wrBytes, (ddrTraffic_onlyDdr _ _ _ _ _).1]

end Sys2Proof.Machine
end

