-- ==== Sys2Proof/WellFormed.lean ====
section
/-! DEFINITION. Commands that the outside world can send: bounds on operands whose types are wider than what the spec lets
arrive. A meaning is defined on every term; statements that need a bound name it. -/

namespace Sys2Proof

/-- R106: a frame of a tile brings ten samples, and the input FIFO of R124 holds 2,000 frames. -/
def TileFrame.wf (f : TileFrame) : Bool := decide (f.samples.length = 10) && decide (f.fill ≤ 2000)

/-- R182, R363: a control block is received in one to four copies, at most one for each lane of its link. -/
def copiesWf (copies : List (Fin 4 × BitVec 64)) : Bool :=
  decide (1 ≤ copies.length) && (List.range 4).all (fun i => decide ((copies.filter (fun c => decide (c.1.val = i))).length ≤ 1))

/-- R405, R413: in a frame of 1 ns each subchannel of a DDR5 channel takes at most one 64-byte line. -/
def takenWf (taken : List Nat) : Bool := decide (taken.length = 2) && taken.all (fun n => decide (n ≤ 128))

/-- R308: a frame has at most 16,384 words. -/
def wordsWf (bad : List Nat) : Bool := bad.all (fun i => decide (i < 16384))

/-- R407: a DDR5 request lies in one 64-byte line. -/
def lineWf (off n : Nat) : Bool := decide (off % 64 + n ≤ 64)

/-- Whether a command is one that can arrive. -/
def Instr.wf : Instr → Bool
  | .frameTick frames taken => decide (frames.length = 32) && frames.all TileFrame.wf && takenWf taken
  | .c0Block _ copies => copiesWf copies
  | .triggerToken _ copies => copiesWf copies
  | .datagramReceive _ pkt => decide (pkt.length ≤ 65575)
  | .ethFrameReceive _ bytes _ => decide (bytes.length ≤ 65593)
  | .table bad => wordsWf bad
  | .qdrpage bad => wordsWf bad
  | .ddrRequest _ off _ n bytes _ _ _ => lineWf off (max n bytes.length)
  | _ => true

end Sys2Proof
end

