-- ==== Sys2Proof/Tests/Slice0.lean ====
section
/-! SUPPORT. Tests: terms that WellFormed refuses, words and numbers written out from the spec, single steps on small
states, and for every statement with hypotheses a state and operands that meet them. -/

namespace Sys2Proof.Tests

open Sys2Proof Sys2Proof.Machine

set_option linter.unusedVariables false
set_option Elab.async false

/-- What a witness shows: the command answers a next state. -/
def Runs (_ : Sys2Proof.Machine.State) : Prop := True

/-- A statement about a next state shows that the command answers one. -/
theorem runs {c : Instr} {s : Sys2Proof.Machine.State} {P : Sys2Proof.Machine.State → Prop} (h : Answers c s P) :
    Answers c s Runs := by
  obtain ⟨t, e, _⟩ := h
  exact ⟨t, e, True.intro⟩

/-- A state like that of reset, but for some registers, the frame, the typed state and bytes of memory. -/
def st (l : List (Fld × Nat)) (tl : Nat := 0) (d : Dev → Dev := id) (m : List (Nat × List Byte) := []) :
    Sys2Proof.Machine.State :=
  let s := (m.foldl (fun w x => w.wrBytes x.1 x.2) (l.foldl (fun w x => w.set x.1 x.2) (Work.start
      State.reset))).finish
  { s with tl := ⟨tl, true⟩, dev := d s.dev }

/-- Tile u of a typed state changed. -/
def onTile (u : Nat) (f : Tile → Tile) (d : Dev) : Dev :=
    { d with tiles := vset d.tiles u (f (vget d.tiles Tile.reset u)) }

/-- A tile whose clasp c holds units. -/
def holds (c : Nat) (l : List Item) (x : Tile) : Tile := { x with clasps := vset x.clasps c ⟨l, none, []⟩ }

/-- An entry that the sequencer has staged. -/
def staged (e : Entry) : Staged := ⟨e, .seq, false, none⟩

/-- What holds of the value of an option, if it has one. -/
theorem opt {α : Type} {o : Option α} {P : α → Prop} [DecidablePred P] (h : o.all (fun r => decide (P r)) = true) :
    ∀ r, o = some r → P r := by
  rintro r rfl; simpa using h

/-- What no value of an option meets. -/
theorem noOpt {α : Type} {o : Option α} {P : α → Prop} [DecidablePred P] (h : o.all (fun r => !decide (P r)) = true) :
    ¬∃ r, o = some r ∧ P r := by
  rintro ⟨r, rfl, p⟩; simp [p] at h

/-- A tile whose clasps hold no staged group. -/
theorem noGroup {s : Sys2Proof.Machine.State} {u : Nat}
    (h : (List.range 33).all (fun d => (s.view.clasp u d).items.all (fun i => i matches .one _ || i matches .chain _)) = true) :
    noneSelectable s u := by
  intro d hd i hi m es e
  have a := List.all_eq_true.mp (List.all_eq_true.mp h d (List.mem_range.mpr hd)) i hi
  subst e; simp at a

/-- The flux pulse of an engine, if it has one, goes on past the stamp of an entry. -/
theorem goesOn {s : Sys2Proof.Machine.State} {u e : Nat} {h : HeldEntry} (k : (s.view.flux u e).pulse.all (fun p =>
    (fluxSpanEnd p).all (fun n => decide (h.entry.instant (16 + e) < n))) = true) : fluxGoesOn s u e h := by
  intro p n hp hn
  rw [hp] at k
  simpa [hn] using k

/-- No clasp of a tile holds a chain of a producer. -/
theorem unchained {s : Sys2Proof.Machine.State} {u : Nat} {p : Producer}
    (h : ∀ d < 33, (s.view.clasp u d).open_.all (fun x => !(x.isChain && decide (x.from_ = p))) = true) :
    Unchained s u p := by
  intro d hd x hx hc e
  have k := h d hd
  rw [hx] at k
  simp [hc, e] at k

/-- Link l with lanes from lane b on, all of them UP, that carries traffic. -/
def linkUp (l b width : Nat) : List (Fld × Nat) :=
  [(LINK_CFG_EN l, 1), (LINK_CFG_BASE l, b), (LINK_CFG_WIDTH l, width), (LINK_STATUS_STATE l, 2)] ++
    (List.range (lanesOfCode width)).flatMap (fun i => [(LANE_CFG_ROLE (b + i), 2), (LANE_STATUS_STATE (b + i), LANE_UP)])

/-- An entry of a clasp. -/
def ent (c stamp slot kind body : Nat) : Entry := ⟨stamp, slot, kind, c, 0, false, false, false, 0, 0, 0, body⟩

/-- An entry that a clasp holds. -/
def hent (c stamp slot kind body : Nat) : HeldEntry := ⟨ent c stamp slot kind body, 12, .seq, none⟩

/-- A tile whose sequencer holds a word. -/
def inWord (c : WordSt) (x : Tile) : Tile := { x with seq := { x.seq with cur := some c } }

/-- A word in its steps. -/
def word (w : Nat) (todo : List WStep) : WordSt := ⟨7, w, 100, 3, true, todo, 9, false, none, false⟩

/-- A word of the control store with its parity bits (R189). -/
def coded (v : Nat) : Nat :=
  (List.range 4).foldl (fun m g => if popcount 55 (bits v (55 * g + 4) 55) % 2 = 1 then m + 2 ^ g else m) v

/-- A token of 19 bits with its check (R181). -/
def token (k : Nat) : Nat := k + 2 ^ 19 * crc4 19 k 0

/-- A packet of IP version 4 that carries a UDP datagram. -/
def packet (src dst sport dport : Nat) (body : List Byte) : List Byte :=
  let udp := udpBytes false src dst sport dport body
  let head := fun c => beBytes 2 0x4500 ++ beBytes 2 (20 + udp.length) ++ beBytes 2 7 ++ beBytes 2 0x4000 ++ beBytes 1
      64 ++
    beBytes 1 17 ++ beBytes 2 c ++ beBytes 4 src ++ beBytes 4 dst
  head (onesChecksum (head 0)) ++ udp

/-- The fields of a device whose Ethernet port 0 is up at address 10.0.0.2, whose owner is 10.0.0.1, port 7777, at EPOCH 9. -/
def session : List (Fld × Nat) :=
  [(LANE_CFG_ROLE 0, 1), (LANE_STATUS_STATE 0, LANE_UP), (TRANSPORT_IP4, 0x0A000002), (TRANSPORT_CFG_UDP_PORT,
      0x4000),
    (TRANSPORT_SESSION_EPOCH, 9), (TRANSPORT_SESSION_OWNER_VALID, 1), (TRANSPORT_OWNER_UDP, 7777),
    (TRANSPORT_OWNER_IP 0, 0x0A000001)]

/-- A datagram body from the owner, and as the device parses it. -/
def ownerPkt (body : List Byte) : List Byte := packet 0x0A000001 0x0A000002 7777 0x4000 body
def ownerUdp (body : List Byte) : Udp := ⟨false, 0x0A000001, 0x0A000002, 7777, 0x4000, body⟩

/-- A link's typed state changed. -/
def onLink (l : Nat) (f : LinkSt → LinkSt) (d : Dev) : Dev :=
    { d with links := vset d.links l (f (vget d.links LinkSt.reset l)) }

/-- An image frame with its CRC (R307, R309). -/
def frameOf (type target seq addr : Nat) (payload : List Byte) : List Byte :=
  let h := leBytes 2 0x5A45 ++ leBytes 1 type ++ leBytes 1 0 ++ leBytes 1 target ++ leBytes 3 0 ++ leBytes 4 seq ++
    leBytes 4 addr ++ leBytes 4 payload.length
  h ++ leBytes 4 (crc32 (h ++ (if 0x80 ≤ type then [] else payload))) ++ payload

/-- The loader's typed state changed. -/
def onLoader (f : LoaderSt → LoaderSt) (d : Dev) : Dev := { d with loader := f d.loader }

/-- A loader that takes an image from the host and has come to a frame. -/
def atFrame (next : Option Nat) (b : List Byte) (l : LoaderSt) : LoaderSt :=
  { l with source := 3, nextSeq := next, buf := b, paused := true }

/-- A state like s with bytes in its flash. -/
def withFlash (s : Sys2Proof.Machine.State) (l : List (Nat × List Byte)) : Sys2Proof.Machine.State :=
  let t := (l.foldl (fun w x => x.2.zipIdx.foldl (fun w b => w.flSet (x.1 + b.2) b.1) w) (Work.start s)).finish
  { s with flash := t.flash }

/-- The descriptor of a flash slot (R324). -/
def slotDesc (gen len : Nat) : List Byte :=
  let d := leBytes 4 0x2F5A1B3C ++ leBytes 4 gen ++ leBytes 4 len ++ leBytes 48 0
  d ++ leBytes 4 (crc32 d)

/-- A state whose vector registers and accumulators hold edge values, tile 3 at the operation of a word. -/
def dspState (w : Nat) : Sys2Proof.Machine.State :=
  st [(DSP_V 3 0 0, 0x80007FFF), (DSP_V 3 0 1, 0x12348765), (DSP_V 3 1 0, 0x80004000), (DSP_V 3 1 1, 0x0FED2000), 
      (DSP_ACC 3 0, 0x7FFFFFFFFFFF), (DSP_ACC 3 1, 0x800000000000), (DSP_ACC 3 2, 5), (DSP_ACC 3 3, 0x7FFFFFFFFFFF),
          (DSP_ACC_HI_HOLD 3 3, 1)] 0
    (onTile 3 (inWord (word w [.dspOp, .seq])))


/-! ## Terms that WellFormed refuses, one for each of its checks, and terms at the edge that it takes -/

theorem test_wf_frames : (Instr.frameTick (List.replicate 31 ⟨List.replicate 10 0, false, 0⟩) [0, 0]).wf = false := by
    decide

theorem test_wf_samples : (Instr.frameTick (List.replicate 32 ⟨List.replicate 9 0, false, 0⟩) [0, 0]).wf = false := by
    decide

theorem test_wf_fill : (Instr.frameTick (List.replicate 32 ⟨List.replicate 10 0, false, 2001⟩) [0, 0]).wf = false :=
    by decide

theorem test_wf_taken : (Instr.frameTick (List.replicate 32 ⟨List.replicate 10 0, false, 0⟩) [0, 129]).wf = false :=
    by decide

theorem test_wf_frame_taken : (Instr.frameTick (List.replicate 32 ⟨List.replicate 10 0, false, 2000⟩) [128, 0]).wf =
    true := by
  decide

theorem test_wf_copies : (Instr.c0Block 0 []).wf = false ∧ (Instr.c0Block 0 [(2, 0), (2, 7)]).wf = false ∧
    (Instr.c0Block 0 [(0, 0), (3, 0), (1, 0), (2, 0)]).wf = true := by decide

theorem test_wf_tokens : (Instr.triggerToken 0 []).wf = false ∧ (Instr.triggerToken 0 [(1, 0), (1, 0)]).wf = false :=
    by decide

theorem test_wf_packet : (Instr.datagramReceive 0 (List.replicate 65576 0)).wf = false := by
  simp only [Instr.wf, List.length_replicate]
  decide

theorem test_wf_ethernet : (Instr.ethFrameReceive 0 (List.replicate 65594 0) true).wf = false := by
  simp only [Instr.wf, List.length_replicate]
  decide

theorem test_wf_words : (Instr.table [16384]).wf = false ∧ (Instr.qdrpage [3, 16384]).wf = false ∧
    (Instr.qdrpage [0, 16383]).wf = true := by decide

theorem test_wf_line : (Instr.ddrRequest 0 60 2 5 [] true 0 false).wf = false ∧
    (Instr.ddrRequest 0 63 1 0 [1, 2] true 0 false).wf = false ∧ (Instr.ddrRequest 0 60 0 4 [] true 0 false).wf = true :=
        by
  decide

/-! ## Words, checks and numbers written out from the spec -/

/-- The published check values of the three CRCs that R283, the datagram header and R309 use, over the digits 1 to 9. -/
theorem test_crc : crc8 [0x31, 0x32, 0x33, 0x34, 0x35, 0x36, 0x37, 0x38, 0x39] = 0xF4 ∧
    crc16 [0x31, 0x32, 0x33, 0x34, 0x35, 0x36, 0x37, 0x38, 0x39] = 0x29B1 ∧
    crc32 [0x31, 0x32, 0x33, 0x34, 0x35, 0x36, 0x37, 0x38, 0x39] = 0xCBF43926 := by decide +kernel

/-- The worked readout of qubit 137: KD_A = 0x00102000 is SHIFT 8 and MODE 1 (BOXCAR). -/
theorem test_descriptor : kdShift 0x00102000 = 8 ∧ kdMode 0x00102000 = 1 := by decide

/-- The worked readout of qubit 137: the reference is at 0.75 turn at frame 50,194 (R108). -/
theorem test_reference_phase : refPhase (59 * 2 ^ 41) 0 50194 0 = 0xC0000000 ∧ refPhase (59 * 2 ^ 41) 0 50000 0 = 0 :=
    by
  decide +kernel

/-- R188: fields of a microword, each alone set to ones. -/
theorem test_microword : mwSeq (0xF * 2 ^ 220) = 15 ∧ mwTarget (0xFFF * 2 ^ 208) = 4095 ∧ mwDt (0xFFFFF * 2 ^ 180) =
    0xFFFFF ∧
    mwXya (0x3FFF * 2 ^ 162) = 0x3FFF ∧ mwDsp (0xFFFFFF * 2 ^ 84) = 0xFFFFFF ∧ mwQueue (0x1FF * 2 ^ 46) = 0x1FF ∧
    mwImm (0xFFFFF * 2 ^ 4) = 0xFFFFF := by decide

/-- R28: the first byte of tile 31, its control store, and what lies beside the 28 bytes of a word of it. -/
theorem test_places : placeOf 0x17C00000 = .reg ∧ placeOf 0x17C40000 = .code 31 ∧ placeOf 0x17C4001C = .code 31 ∧
    placeOf 0x210000000 = .qdr 1 0 ∧ placeOf 0x9FFFFFFFFC = .ddr 0 0x1FFFFFFFFC ∧ placeOf 0xC000000000 = .nothing :=
        by decide

/-- R286: 0xFFFFFFFF precedes 5, and 5 does not precede it. -/
theorem test_sequence : seqBefore 0xFFFFFFFF 5 = true ∧ seqBefore 5 0xFFFFFFFF = false ∧ seqBefore 7 7 = false := by
    decide

/-- R411: N = ⌊DEBT / tREFI⌋ at normal and at doubled refresh. -/
theorem test_refreshes_due :
    let s := fun l => st l 0 (fun d =>
        { d with ddr := vset d.ddr 1 { vget d.ddr DdrSt.reset 1 with debt := [11699, 0] } })
    refDue (s []).view 1 0 = 2 ∧ refDue (s [(DDR_STATUS_MR4_2X 1, 1)]).view 1 0 = 5 := by decide +kernel

/-! ## One step on a small state -/

/-- The state after a command, or the state before it where the command stops. -/
def after (c : Instr) (s : Sys2Proof.Machine.State) : Sys2Proof.Machine.State :=
  match exec c s with
  | .next t => t
  | _ => s

/-- R38: a read of TL_LO latches the upper half. -/
theorem test_tl_read : (after .tlLoRead (st [] (3 * 2 ^ 32 + 5))).get TIME_TL_HI = 3 := by decide +kernel

/-- R139, R141: ADD saturates 0x7FFF + 0x4000 at 0x7FFF and −32768 − 32768 at −32768. -/
theorem test_dsp_add :
    let t := after (.dspAdd 3) (dspState (2 * 2 ^ 102 + 1 * 2 ^ 101 + 2 ^ 93 + 2 * 2 ^ 89))
    t.get (DSP_V 3 2 0) % 2 ^ 16 = 0x7FFF ∧ t.get (DSP_V 3 2 0) / 2 ^ 16 = 0x8000 := by decide +kernel

/-- R141: without SAT, 0x7FFF + 0x4000 wraps to 0xBFFF. -/
theorem test_dsp_add_wraps :
    (after (.dspAdd 3) (dspState (2 * 2 ^ 102 + 2 ^ 93 + 2 * 2 ^ 89))).get (DSP_V 3 2 0) % 2 ^ 16 = 0xBFFF :=
        by decide +kernel

/-- R411: a refresh subtracts the tREFI in force. -/
theorem test_refresh :
    let s := st [(DDR_STATUS_STATE 1, DDR_READY)] 0
      (fun d => { d with ddr := vset d.ddr 1 { vget d.ddr DdrSt.reset 1 with debt := [11699, 0] } })
    ((after (.refreshDue 1 0 false) s).view.ddr 1).debt = [7799, 0] := by decide +kernel

/-- A block write of the access address on the management bus, without a PEC (R471). -/
def addrBytes (a : Nat) : List Byte := [0xB4, 0x01, 0x05] ++ leBytes 5 a

/-- A block read of an access on the management bus (R471). -/
def readBytes : List Byte := [0xB4, 0x03, 0xB5]

/-- A command reaches the machine from the front of its queue, and the next one waits. -/
theorem test_queue :
    (match step { st [(DEV_STATUS_REFCLK_OK, 1)] with pending := [.mgtSetAddress (addrBytes 0x1000), .mgtRead readBytes] } with
      | .next t => (t.dev.port.mgtAddr, t.pending)
      | _ => (0, [])) = (0x1000, [.mgtRead readBytes]) := by decide +kernel

/-- No word spells a command, since the table gives no row any bits. -/
theorem test_no_words : (∀ n w, decodeTableWord n w = none) ∧ (∀ s n w, State.withFetchWord s n w = s) :=
  ⟨fun _ _ => rfl, fun _ _ _ => rfl⟩

/-! ## States that meet the hypotheses of the statements over every command -/

/-- The machine after reset meets the hypotheses of CommandsKeepTheForm. -/
theorem witness_CommandsKeepTheForm : State.reset.wf = true ∧ State.reset.fuse.proper = true := by decide +kernel

/-- A machine after reset with a command waiting meets the hypotheses of StepInvariant. -/
theorem witness_StepInvariant :
    let s := { State.reset with pending := [.mgtSetAddress (addrBytes 0x1000), .mgtRead readBytes] }
    s.wf = true ∧ s.fuse.proper = true ∧ ∃ t, step s = .next t := ⟨by decide +kernel, by decide +kernel, _, rfl⟩

/-- A machine with an empty queue, and one with a command at the front of its queue, as StepRunsTheFront takes them. -/
theorem witness_StepRunsTheFront (h : Obligations.StepRunsTheFront) (s : Sys2Proof.Machine.State) :
    step { State.reset with pending := [] } = .next { State.reset with pending := [] } := h.2 _ rfl

/-! ## States and operands that meet the hypotheses of each statement

Each theorem takes a statement and gives it a concrete state and operands that meet its hypotheses, clause by clause:
    so each
shows that nothing it asks is impossible, and that its command answers a next state there. -/

/-- The image queues of a tile. -/
def imageQueues (w : Work σ) (t : Nat) : List Nat :=
  (enabledQueues w t).filter (fun i => decide (i < 128) && decide (w.get (QT_CFG_CONSUMER t i) = CONSUMER_IMAGE))

/-- The checks of a setting but for those of queues of tiles 1 to 31. -/
def restOk (w : Work σ) (release : Nat) : Bool :=
  (List.range 32).all (fun t => (!depthsBind w release t || depthsOk w t) && driveRouteOk w t && fluxRouteOk w t &&
    watchSlotsOk w t) && decbSlotsOk w && [(0, 0), (0, 1), (1, 0), (1, 1)].all (fun x => ctxOk w x.1 x.2) &&
    queuesOk w 0 && decide ((imageQueues w 0).length ≤ 1)

/-- A key that a list does not hold. -/
theorem assoc_none (l : List (Nat × Nat)) (k : Nat) (h : ∀ c ∈ l, c.1 ≠ k) : assoc 0 l k = 0 := by
  induction l with
  | nil => rfl
  | cons c r ih =>
    unfold assoc
    rw [if_neg (fun e => h c (by simp) e.symm)]
    exact ih (fun d hd => h d (by simp [hd]))

/-- A setting none of whose registers lies among those of the queue tables passes with its other checks. -/
theorem setting_rest (s : Sys2Proof.Machine.State) (r : Nat) (hr : restOk s.view r = true)
    (hq : s.regs.all (fun c => decide (c.1 < 32 * 0x1000000) || decide (c.1 / 32 % 0x200000 < 0x8000)) = true)
    (hs : s.view.ld.shadows.all nfacetOk = true) : settingOk s.view r = true := by
  have e : ∀ t i, 1 ≤ t → t < 32 → i < 512 → s.view.get (QT_CFG_EN t i) = 0 := by
    intro t i h1 ht hi
    have a : assoc 0 s.regs (QT_CFG_EN t i).key = 0 := by
      apply assoc_none
      intro c hc
      have b := List.all_eq_true.mp hq c hc
      simp only [Bool.or_eq_true, decide_eq_true_eq] at b
      simp only [QT_CFG_EN, Fld.key, tileBase]
      omega
    have z : (QT_CFG_EN t i).reset = 0 := if_neg (fun h => by omega)
    unfold Work.get
    rw [z, show s.view.rlog = [] from rfl, show s.view.rwipe = [] from rfl]
    simpa [inRanges, assoc] using a
  have q : ∀ t, 1 ≤ t → t < 32 → enabledQueues s.view t = [] := by
    intro t h1 ht
    unfold enabledQueues
    apply List.filter_eq_nil_iff.mpr
    intro i hi
    simp [qEnabled, Work.on, e t i h1 ht (List.mem_range.mp hi)]
  have z : (List.range 32).flatMap (imageQueues s.view) = imageQueues s.view 0 := by
    rw [show List.range 32 = 0 :: (List.range 31).map (· + 1) from by decide, List.flatMap_cons]
    rw [List.flatMap_eq_nil_iff.mpr, List.append_nil]
    intro t ht
    obtain ⟨k, hk, rfl⟩ := List.mem_map.mp ht
    unfold imageQueues
    rw [q (k + 1) (by omega) (by have := List.mem_range.mp hk; omega)]; rfl
  unfold restOk at hr
  simp only [Bool.and_eq_true, List.all_eq_true, List.mem_range, decide_eq_true_eq] at hr
  obtain ⟨⟨⟨⟨a, b⟩, c⟩, q0⟩, n⟩ := hr
  have p : imageQueuesOk s.view = true := by
    unfold imageQueuesOk
    rw [show (fun t => (enabledQueues s.view t).filter (fun i => decide (i < 128) &&
      decide (s.view.get (QT_CFG_CONSUMER t i) = CONSUMER_IMAGE))) = imageQueues s.view from rfl, z]
    exact decide_eq_true n
  unfold settingOk
  simp only [Bool.and_eq_true, List.all_eq_true, List.mem_range]
  refine ⟨⟨⟨⟨fun t ht => ⟨a t ht, ?_⟩, b⟩, c⟩, p⟩, List.all_eq_true.mp hs⟩
  by_cases h1 : t = 0
  · rw [h1]; exact q0
  · unfold queuesOk; rw [q t (by omega) ht]; rfl

/-- A device that runs, its loader taking an image. -/
def plain : Sys2Proof.Machine.State :=
  st [(DEV_STATUS_PLL_LOCK, 1), (DEV_STATUS_CONV_CAL_DONE, 1), (TIME_EPOCH_STATUS_VALID, 1), (LOADER_STATE_STATE,
      LD_LOADING)]

/-- A setting's check reads registers alone. -/
theorem settingOk_congr {σ σ' : Sys2Proof.Machine.State} (w : Work σ) (w' : Work σ') (h : ∀ f, w.get f = w'.get f)
    (hs : w.ld.shadows = w'.ld.shadows) (r : Nat) : settingOk w r = settingOk w' r := by
  have hg : w.get = w'.get := funext h
  have apart : ∀ t l, ringsApart w t l = ringsApart w' t l := by
    intro t l
    induction l with
    | nil => rfl
    | cons i is ih => unfold ringsApart qSize; rw [ih, hg]
  have ha : ringsApart w = ringsApart w' := funext fun t => funext (apart t)
  unfold settingOk depthsBind depthsOk driveRouteOk fluxRouteOk watchSlotsOk decbSlotsOk ctxOk imageQueuesOk queuesOk
  unfold enabledQueues queueOk ringOk peerOk qOutHost qEnabled qdrCapacity Work.on
  rw [hg, ha, hs]

/-- Its setting passes the checks of a commit. -/
theorem plain_setting : settingOk plain.view 0 = true := setting_rest _ _ (by decide +kernel) (by decide +kernel) rfl

/-- A state with the registers of another and no shadow words has an acceptable setting where the other has one. -/
theorem setting_of (b s : Sys2Proof.Machine.State) (r : Nat) (hb : settingOk b.view r = true) (hr : s.regs = b.regs)
    (hs : s.dev.loader.shadows = []) (hz : b.dev.loader.shadows = [] := by rfl) : settingOk (newSetting s.view) r = true := by
  have e : newSetting s.view = s.view := by
    unfold newSetting
    rw [show s.view.ld.shadows = [] from hs]; rfl
  rw [e, ← hb]
  exact settingOk_congr _ _ (fun f => by unfold Work.get; rw [hr]; rfl)
    ((show s.view.ld.shadows = [] from hs).trans (show b.view.ld.shadows = [] from hz).symm) r

/-- A state with the registers of plain and no shadow words has an acceptable setting. -/
theorem setting_ok (s : Sys2Proof.Machine.State) (hr : s.regs = plain.regs) (hs : s.dev.loader.shadows = []) :
    settingOk (newSetting s.view) 0 = true := setting_of plain s 0 plain_setting hr hs

/-- What a commit may release it may leave as it is. -/
theorem setting_none {σ : Sys2Proof.Machine.State} (w : Work σ) (r : Nat) (h : settingOk w r = true) : settingOk w 0 = true := by
  have z : ∀ t, bit 0 t = false := fun t => by simp [bit]
  simp only [settingOk, depthsBind, z, Bool.false_or, Bool.and_eq_true, List.all_eq_true, Bool.or_eq_true, Bool.not_eq_true',
    Bool.or_eq_false_iff] at h ⊢
  refine ⟨⟨⟨⟨fun t ht => ?_, h.1.1.1.2⟩, h.1.1.2⟩, h.1.2⟩, h.2⟩
  have a := h.1.1.1.1 t ht
  exact ⟨⟨⟨⟨a.1.1.1.1.imp (·.2) id, a.1.1.1.2⟩, a.1.1.2⟩, a.1.2⟩, a.2⟩

def deviceReadsLatch1 : Sys2Proof.Machine.State :=
  st [] (2 ^ 32 + 5)

def deviceReadsLatch2 : Sys2Proof.Machine.State :=
  st [(LOADER_P, 2 ^ 40 + 3)]

def deviceReadsLatch3 : Sys2Proof.Machine.State :=
  st [(PTP_DELAY_LO, 4), (PTP_DELAY_LIVE, 7)]

def deviceReadsLatch4 : Sys2Proof.Machine.State :=
  st [(PTP_OFFSET_LO, 4), (PTP_OFFSET_LIVE, 7)]

/-- States and operands that meet the hypotheses of DeviceReadsLatch. -/
theorem witness_DeviceReadsLatch (h : Clause.DeviceReadsLatch) :
    Answers (Instr.tlLoRead) deviceReadsLatch1 Runs ∧
    Answers (Instr.pointLoRead) deviceReadsLatch2 Runs ∧
    Answers (Instr.ptpValueLoRead true) deviceReadsLatch3 Runs ∧
    Answers (Instr.ptpValueLoRead false) deviceReadsLatch4 Runs := by
  refine ⟨runs ((h deviceReadsLatch1 ?_).1),
   runs ((h deviceReadsLatch2 ?_).2.1),
   runs ((h deviceReadsLatch3 ?_).2.2.1),
   runs ((h deviceReadsLatch4 ?_).2.2.2)⟩ <;> decide +kernel

def tileReadsLatch1 : Sys2Proof.Machine.State :=
  st [] 0 (fun d =>
      { d with tiles := vset d.tiles 31 { Tile.reset with seq := { Tile.reset.seq with cursor := 2 ^ 33 + 7 } } })

def tileReadsLatch2 : Sys2Proof.Machine.State :=
  st [(DSP_ACC 31 3, 2 ^ 47 + 5)]

def tileReadsLatch3 : Sys2Proof.Machine.State :=
  st [(RD_LAST_TL_LO 3 7, 8), (RD_TL_HI 3 7, 9)]

def tileReadsLatch4 : Sys2Proof.Machine.State :=
  st [(CAP_DEAD 3, 2 ^ 47 + 5)]

def tileReadsLatch5 : Sys2Proof.Machine.State :=
  st [(CAP_LAST_W_LO 3, 5), (CAP_W_HI 3, 6)]

def tileReadsLatch6 : Sys2Proof.Machine.State :=
  st [(QT_SEQ_A 3 511, 5), (QTAIL 3 511, 2)]

/-- States and operands that meet the hypotheses of TileReadsLatch. -/
theorem witness_TileReadsLatch (h : Clause.TileReadsLatch) :
    Answers (Instr.cursorLoRead 31) tileReadsLatch1 Runs ∧
    Answers (Instr.accLoRead 31 3) tileReadsLatch2 Runs ∧
    Answers (Instr.lastTlLoRead 3 7) tileReadsLatch3 Runs ∧
    Answers (Instr.deadLoRead 3) tileReadsLatch4 Runs ∧
    Answers (Instr.lastWLoRead 3) tileReadsLatch5 Runs ∧
    Answers (Instr.seqARead 3 511) tileReadsLatch6 Runs := by
  refine ⟨runs ((h tileReadsLatch1 ?_ 31).1),
   runs ((h tileReadsLatch2 ?_ 31).2.1 3),
   runs ((h tileReadsLatch3 ?_ 3).2.2.1 7),
   runs ((h tileReadsLatch4 ?_ 3).2.2.2.1),
   runs ((h tileReadsLatch5 ?_ 3).2.2.2.2.1),
   runs ((h tileReadsLatch6 ?_ 3).2.2.2.2.2 511)⟩ <;> decide +kernel

def readsClear1 : Sys2Proof.Machine.State :=
  st [(CLASP_LOW_WATER 3, 5)]

def readsClear2 : Sys2Proof.Machine.State :=
  st [(FABRIC_UP, 1), (DEV_FABRIC_CYCLE_MAX_PS, 200)]

/-- States and operands that meet the hypotheses of ReadsClear. -/
theorem witness_ReadsClear (h : Clause.ReadsClear) :
    Answers (Instr.lowWaterRead 3) readsClear1 Runs ∧
    Answers (Instr.fabricRead 100 1023) readsClear2 Runs ∧
    Answers (Instr.fabricRead 100 1023) readsClear1 Runs := by
  refine ⟨runs ((h readsClear1 ?_).1 3), runs ((h readsClear2 ?_).2.2 100 1023 ?_ ?_),
   runs ((h readsClear1 ?_).2.1 100 1023 ?_)⟩ <;> decide +kernel

def managementTarget1 : Sys2Proof.Machine.State :=
  st [(DEV_STATUS_REFCLK_OK, 1)]

def managementTarget2 : Sys2Proof.Machine.State :=
  st [(DEV_STATUS_REFCLK_OK, 1)] 0 (fun d => { d with port := { d.port with mgtReject := true } })

def managementTarget3 : Sys2Proof.Machine.State :=
  st [(DEV_STATUS_REFCLK_OK, 1), (THERM_THR_WARN, 9)] 0 (fun d =>
      { d with port := { d.port with mgtAddr := 0x20008 } })

/-- States and operands that meet the hypotheses of ManagementTarget. -/
theorem witness_ManagementTarget (h : Clause.ManagementTarget) :
    Answers (Instr.mgtSetAddress (addrBytes 5)) (st []) Runs ∧
    Answers (Instr.mgtSetAddress (addrBytes 65536)) managementTarget1 Runs ∧
    Answers (Instr.mgtStatus [0xB4, 0x04, 0xB5]) managementTarget2 Runs ∧
    Answers (Instr.mgtRead readBytes) managementTarget3 Runs ∧
    Answers (Instr.mgtSetAddress [0xB4, 0x01, 0x04]) managementTarget1 Runs ∧ Answers (Instr.mgtWrite []) managementTarget1 Runs ∧
    Answers (Instr.mgtRead [0xB4, 0x03]) managementTarget1 Runs ∧ Answers (Instr.mgtStatus [0xB4]) managementTarget1 Runs := by
  have a := (h managementTarget1 (by decide +kernel)).2.1 (by decide +kernel)
  refine ⟨runs ((h (st []) ?_).1 ?_ Instr.mgtSetAddress _ ?_),
   runs (((h managementTarget1 ?_).2.2 ?_).1 0x10000 false),
   runs (((h managementTarget2 ?_).2.2 ?_).2.1),
   runs (((h managementTarget3 ?_).2.2 ?_).2.2 ⟨THERM_THR_RELEASE_S, .rw, false⟩
       [⟨THERM_THR_RELEASE, .rw, false⟩, ⟨THERM_THR_THROTTLE, .rw, false⟩, ⟨THERM_THR_WARN, .rw, false⟩]
       ?_ ?_ ?_ ?_),
   runs ((a _).1 ?_), runs ((a _).2.1 ?_), runs ((a _).2.2.1 ?_), runs ((a _).2.2.2 ?_)⟩ <;>
    first | decide +kernel | simp

def plainWrites1 : Sys2Proof.Machine.State :=
  st [(DEV_STATUS_REFCLK_OK, 1)]

def plainWrites2 : Sys2Proof.Machine.State :=
  st [(DEV_STATUS_REFCLK_OK, 1)] 0 (fun d => { d with port := { d.port with mgtAddr := 0x20008 } })

/-- No rule attaches an action to a write of THERM.RELEASE. -/
theorem plain_release (s : Sys2Proof.Machine.State) (v : Nat)
    (h : [Path.genond, .mgt, .jtag, .hardware].all (fun p =>
      (coreWrite s.view p 0x20008 v (fun _ => s.view)).isNone && (houseWrite s.view p 0x20008 v (fun _ => s.view)).isNone &&
        (laneLinkWrite s.view p 0x20008 v (fun _ => s.view)).isNone &&
        (portWrite s.view p 0x20008 v (fun _ => s.view)).isNone) = true) (p : Path) :
    coreWrite s.view p 0x20008 v (fun _ => s.view) = none ∧ houseWrite s.view p 0x20008 v (fun _ => s.view) = none ∧
      laneLinkWrite s.view p 0x20008 v (fun _ => s.view) = none ∧ portWrite s.view p 0x20008 v (fun _ => s.view) = none := by
  have a := List.all_eq_true.mp h p (by cases p <;> simp)
  simpa [Option.isNone_iff_eq_none, and_assoc] using a

/-- The fields of THERM.RELEASE. -/
def releaseFields : List FieldAcc :=
  [⟨THERM_THR_RELEASE, .rw, false⟩, ⟨THERM_THR_THROTTLE, .rw, false⟩, ⟨THERM_THR_WARN, .rw, false⟩]

/-- States and operands that meet the hypotheses of PlainWrites. -/
theorem witness_PlainWrites (h : Clause.PlainWrites) :
    Answers (Instr.registerWrite Via.genond 131080 16909060 true) plainWrites1 Runs ∧
    Answers (Instr.mgtWrite (busBytes true ([0xB4, 0x02, 0x04] ++ leBytes 4 (16909060 : BitVec 32).toNat))) plainWrites2 Runs := by
  refine ⟨runs ((h plainWrites1 ?_ 0x20008 0x01020304 ⟨THERM_THR_RELEASE_S, .rw, false⟩ releaseFields ?_ ?_ ?_ ?_
      (plain_release plainWrites1 0x01020304 ?_)).1 ?_ .genond true),
    runs ((h plainWrites2 ?_ 0x20008 0x01020304 ⟨THERM_THR_RELEASE_S, .rw, false⟩ releaseFields ?_ ?_ ?_ ?_
      (plain_release plainWrites2 0x01020304 ?_)).2 ?_ ?_ true)⟩ <;> decide +kernel

def memoryAccess1 : Sys2Proof.Machine.State :=
  st [] 0 id [(0x10080000, [1#8, 2#8, 3#8, 4#8])]

def memoryAccess2 : Sys2Proof.Machine.State :=
  st []

/-- States and operands that meet the hypotheses of MemoryAccess. -/
theorem witness_MemoryAccess (h : Clause.MemoryAccess) :
    Answers (Instr.jtagMemRead 0x20 (drValue 1 268959744 0) true) memoryAccess1 Runs ∧
    Answers (Instr.jtagMemWrite 0x20 (drValue 2 268959748 16909060) true) memoryAccess2 Runs ∧
    Answers (Instr.jtagMemRead 0x20 (drValue 3 268959748 0) true) memoryAccess2 Runs ∧
    Answers (Instr.jtagMemRead 0x55 0 true) memoryAccess2 Runs ∧
    Answers (Instr.registerWrite Via.genond 268959748 16909060 true) memoryAccess2 Runs := by
  refine ⟨runs (((h memoryAccess1 ?_ ?_ 0x10080000 ?_).1 ?_ 0 true).1),
   runs (((h memoryAccess2 ?_ ?_ 0x10080004 ?_).1 ?_ 0x01020304 true).2.1),
   runs (((h memoryAccess2 ?_ ?_ 0x10080004 ?_).1 ?_ 0 true).2.2.1 3 ?_),
   runs (((h memoryAccess2 ?_ ?_ 0x10080004 ?_).1 ?_ 0 true).2.2.2 0x55 0 ?_ ?_ ?_),
   runs ((h memoryAccess2 ?_ ?_ 0x10080004 ?_).2 0x01020304 .genond true
       ?_)⟩ <;> decide +kernel

def boundaryScan1 : Sys2Proof.Machine.State :=
  st []

def boundaryScan2 : Sys2Proof.Machine.State :=
  st [(LOADER_STATE_STATE, LD_ERROR)]

def boundaryScan3 : Sys2Proof.Machine.State :=
  st [(LOADER_STATE_STATE, LD_LOADING)]

/-- States and operands that meet the hypotheses of BoundaryScan. -/
theorem witness_BoundaryScan (h : Clause.BoundaryScan) :
    Answers (Instr.tapReset) boundaryScan1 Runs ∧
    Answers (Instr.extest 0 [true] none) boundaryScan1 Runs ∧
    Answers (Instr.extest 0 [true] (some [true])) boundaryScan1 Runs ∧
    Answers (Instr.samplePreload 1 [true] none) boundaryScan2 Runs ∧
    Answers (Instr.samplePreload 1 [true] (some [false, true])) boundaryScan2 Runs ∧
    Answers (Instr.extest 0 [] (some [true])) boundaryScan3 Runs := by
  refine ⟨runs ((h boundaryScan1 ?_).1 ?_),
   runs (((h boundaryScan1 ?_).2.1 ?_ ?_ [true] []).1),
   runs (((h boundaryScan1 ?_).2.1 ?_ ?_ [true] [true]).2.1),
   runs ((((h boundaryScan2 ?_).2.1 ?_ ?_ [true] []).2.2 ?_).1),
   runs ((((h boundaryScan2 ?_).2.1 ?_ ?_ [true] [false, true]).2.2 ?_).2),
   runs ((h boundaryScan3 ?_).2.2 ?_ ?_ _ [] (some [true]) (Or.inl rfl))⟩ <;> decide +kernel

def outsideReach1 : Sys2Proof.Machine.State :=
  st [(DEV_STATUS_REFCLK_OK, 1)] 0 (fun d => { d with port := { d.port with mgtAddr := 0x1000000 } })

/-- States and operands that meet the hypotheses of OutsideReach. -/
theorem witness_OutsideReach (h : Clause.OutsideReach) :
    Answers (Instr.mgtRead readBytes) outsideReach1 Runs ∧
    Answers (Instr.mgtWrite ([0xB4, 0x02, 0x04] ++ leBytes 4 (5 : BitVec 32).toNat)) outsideReach1 Runs := by
  refine ⟨runs (h outsideReach1 ?_ ?_ ?_ (.mgtRead readBytes, [busReply 0x03 [0x04, 0, 0, 0, 0]]) (Or.inl rfl)),
   runs (h outsideReach1 ?_ ?_ ?_ (.mgtWrite ([0xB4, 0x02, 0x04] ++ leBytes 4 (5 : BitVec 32).toNat), []) (Or.inr ⟨5,
       rfl⟩))⟩ <;> decide +kernel

def resetAssertion1 : Sys2Proof.Machine.State :=
  st [(THERM_STORM_TRIPPED, 1), (HK_CTRL_MODE, 3)] 7

/-- States and operands that meet the hypotheses of ResetAssertion. -/
theorem witness_ResetAssertion (h : Clause.ResetAssertion) :
    Answers (Instr.poresetAssert) resetAssertion1 Runs := by
  exact runs (h resetAssertion1 (by decide +kernel))

def resetRelease1 : Sys2Proof.Machine.State :=
  st [(THERM_STORM_TRIPPED, 1)]

/-- States and operands that meet the hypotheses of ResetRelease. -/
theorem witness_ResetRelease (h : Clause.ResetRelease) :
    Answers (Instr.poresetRelease 3 false) resetRelease1 Runs ∧
    Answers (Instr.poresetRelease 0 true) resetRelease1 Runs := by
  refine ⟨runs (h resetRelease1 ?_ 3 false),
   runs (h resetRelease1 ?_ 0 true)⟩ <;> decide +kernel

def startUpSteps1 : Sys2Proof.Machine.State :=
  st [(DEV_RESET_CAUSE_PREV_STORM, 1)]

def startUpSteps2 : Sys2Proof.Machine.State :=
  st [(LANE_CFG_ROLE 31, 1)]

def startUpSteps3 : Sys2Proof.Machine.State :=
  st ((List.range 32).map (fun n => (LANE_CFG_ROLE n, 0)))

def startUpSteps4 : Sys2Proof.Machine.State :=
  st [(DEV_STATUS_REFCLK_OK, 1)]

def startUpSteps5 : Sys2Proof.Machine.State :=
  st [(DEV_STATUS_PLL_LOCK, 1)]

def startUpSteps6 : Sys2Proof.Machine.State :=
  st []

def startUpSteps10 : Sys2Proof.Machine.State :=
  st [(PORESET_LOW, 1)]

def startUpSteps7 : Sys2Proof.Machine.State :=
  st [(TIME_CLK_STATUS_SCLK_OK, 1)]

def startUpSteps8 : Sys2Proof.Machine.State :=
  st [(TIME_CLK_CTRL, 1)]

def startUpSteps9 : Sys2Proof.Machine.State :=
  st [(DEV_STATUS_TILES_RELEASED, 1)]

/-- States and operands that meet the hypotheses of StartUpSteps. -/
theorem witness_StartUpSteps_1 (h : Clause.StartUpSteps) :
    Answers (Instr.vdda18PowerUp) startUpSteps1 Runs ∧
    Answers (Instr.refclkDetect) startUpSteps10 Runs ∧
    Answers (Instr.fabricSetpointReached 7) startUpSteps10 Runs ∧
    Answers (Instr.refclkDetect) startUpSteps2 Runs ∧
    Answers (Instr.refclkDetect) startUpSteps3 Runs ∧
    Answers (Instr.pllLockAcquired) startUpSteps4 Runs ∧
    Answers (Instr.foregroundCalibrationDone) startUpSteps5 Runs := by
  refine ⟨runs ((h startUpSteps1 ?_).1),
    runs ((h startUpSteps10 ?_).2.1 ?_).1,
    runs (((h startUpSteps10 ?_).2.1 ?_).2 7),
    runs ((h startUpSteps2 ?_).2.2.1 ?_ ?_),
    runs ((h startUpSteps3 ?_).2.2.2.1 ?_ ?_ ?_),
    runs ((h startUpSteps4 ?_).2.2.2.2.1 ?_ ?_),
    runs ((h startUpSteps5 ?_).2.2.2.2.2.1 ?_ ?_ ?_)⟩ <;> decide +kernel

/-- States and operands that meet the hypotheses of StartUpSteps. -/
theorem witness_StartUpSteps_2 (h : Clause.StartUpSteps) :
    Answers (Instr.fabricSetpointReached 1023) startUpSteps6 Runs ∧
    Answers (Instr.sclkInLoss) startUpSteps7 Runs ∧
    Answers (Instr.sclkInDetect) startUpSteps8 Runs ∧
    Answers (Instr.clkSrcWrite Via.genond true) startUpSteps8 Runs ∧
    Answers (Instr.clkSrcWrite Via.genond true) startUpSteps9 Runs ∧
    Answers (Instr.clkSrcWrite Via.genond true) startUpSteps5 Runs := by
  have w := fun s hs => (h s hs).2.2.2.2.2.2
  refine ⟨runs ((w startUpSteps6 ?_).1 1023 ?_ ?_),
    runs ((w startUpSteps7 ?_).2.1),
    runs ((w startUpSteps8 ?_).2.2.1),
    runs ((w startUpSteps8 ?_).2.2.2.1 .genond true ?_),
    runs ((w startUpSteps9 ?_).2.2.2.2.1 .genond true ?_ ?_),
    runs ((w startUpSteps5 ?_).2.2.2.2.2 .genond true ?_ ?_)⟩ <;> decide +kernel

def clockLoss1 : Sys2Proof.Machine.State :=
  st [(DEV_STATUS_PLL_LOCK, 1)]

def clockLoss2 : Sys2Proof.Machine.State :=
  st [(DEV_STATUS_PLL_LOCK, 1), (DEV_STATUS_REFCLK_OK, 1)]

def clockLoss3 : Sys2Proof.Machine.State :=
  st [(DEV_STATUS_REFCLK_OK, 1)]

/-- States and operands that meet the hypotheses of ClockLoss. -/
theorem witness_ClockLoss (h : Clause.ClockLoss) :
    Answers (Instr.pllLockLoss) clockLoss1 Runs ∧
    Answers (Instr.refclkLoss) clockLoss2 Runs ∧
    Answers (Instr.refclkLoss) clockLoss3 Runs := by
  refine ⟨runs ((h clockLoss1 ?_).1 ?_),
   runs ((h clockLoss2 ?_).2 ?_),
   runs ((h clockLoss3 ?_).2 ?_)⟩ <;> decide +kernel

def deviceReset1 : Sys2Proof.Machine.State :=
  st []

def deviceReset2 : Sys2Proof.Machine.State :=
  st [(RESET_REQ, 1), (NT_NOW, 7), (DEV_STATUS_REFCLK_OK, 1)] 5

def deviceReset3 : Sys2Proof.Machine.State :=
  st [(RESET_REQ, 1), (NT_NOW, 7), (LANE_CFG_ROLE 2, 1)] 5

/-- States and operands that meet the hypotheses of DeviceReset. -/
theorem witness_DeviceReset (h : Clause.DeviceReset) :
    Answers (Instr.deviceResetRequest Via.mgt 2768240641) deviceReset1 Runs ∧
    Answers (Instr.deviceResetRequest Via.mgt 2768240643) deviceReset1 Runs ∧
    Answers (Instr.deviceResetRequest Via.jtag 2768240640) deviceReset1 Runs ∧
    Answers (Instr.deviceReset 1) deviceReset2 Runs ∧
    Answers (Instr.deviceReset 3) deviceReset3 Runs := by
  refine ⟨runs ((h deviceReset1 ?_).1 .mgt),
    runs ((h deviceReset1 ?_).2.1 .mgt 0xA5000003 ?_ ?_),
    runs ((h deviceReset1 ?_).2.2.1 .jtag 0xA5000000 ?_),
    runs ((h deviceReset2 ?_).2.2.2 1 ?_),
    runs ((h deviceReset3 ?_).2.2.2 3 ?_)⟩ <;> decide +kernel

def tileReset1 : Sys2Proof.Machine.State :=
  st [(SEQ_STATE_STATE 3, HALTED)]

def tileReset2 : Sys2Proof.Machine.State :=
  st []

def tileReset3 : Sys2Proof.Machine.State :=
  st [(SEQ_STATE_STATE 3, RUN)]

def tileReset4 : Sys2Proof.Machine.State :=
  st [(TRST 3, 1), (SEQ_STATE_STATE 3, HALTED), (SEQ_SP 3, 2)]

def tileReset5 : Sys2Proof.Machine.State :=
  st [(DEV_STATUS_LOCKSTEP, 1)]

/-- States and operands that meet the hypotheses of TileReset. -/
theorem witness_TileReset (h : Clause.TileReset) :
    Answers (Instr.tileReset Via.jtag (BitVec.ofNat 32 (2 ^ (3 : Fin 32).val))) tileReset1 Runs ∧
    Answers (Instr.tileReset Via.jtag (BitVec.ofNat 32 (2 ^ (31 : Fin 32).val))) tileReset2 Runs ∧
    Answers (Instr.tileReset Via.jtag (BitVec.ofNat 32 (2 ^ (3 : Fin 32).val))) tileReset3 Runs ∧
    Answers (Instr.tileReset Via.jtag 0x7FFFFFFF) tileReset5 Runs ∧
    Answers (Instr.tileResetComplete 3) tileReset4 Runs := by
  refine ⟨runs ((h tileReset1 ?_).1 .jtag 3 ?_ ?_),
    runs ((h tileReset2 ?_).1 .jtag 31 ?_ ?_),
    runs ((h tileReset3 ?_).2.1 .jtag 3 ?_ ?_ ?_),
    runs ((h tileReset5 ?_).2.2.1 .jtag 0x7FFFFFFF ?_ ?_),
    runs ((h tileReset4 ?_).2.2.2 3 ?_ ?_ ?_ ?_)⟩ <;> decide +kernel

def bootAndTraining1 : Sys2Proof.Machine.State :=
  st [(DEV_BOOT_WAITING, 1), (QT_CFG_EN 0 1, 0)]

def bootAndTraining2 : Sys2Proof.Machine.State :=
  st [(DEV_BOOT_WAITING, 1)]

def bootAndTraining3 : Sys2Proof.Machine.State :=
  st []

def bootAndTraining4 : Sys2Proof.Machine.State :=
  st [] 0 (fun d => { d with loader := { d.loader with holding := true } })

/-- States and operands that meet the hypotheses of BootAndTraining. -/
theorem witness_BootAndTraining (h : Clause.BootAndTraining) :
    Answers (Instr.bootGo Via.genond true) bootAndTraining1 Runs ∧
    Answers (Instr.bootGo Via.genond false) bootAndTraining2 Runs ∧
    Answers (Instr.bootGo Via.genond true) bootAndTraining3 Runs ∧
    Answers (Instr.memoryTrainingResume) bootAndTraining4 Runs := by
  refine ⟨runs ((h bootAndTraining1 ?_).1 .genond true ?_ ?_),
   runs ((h bootAndTraining2 ?_).1 .genond false ?_ ?_),
   runs ((h bootAndTraining3 ?_).2.1 ?_ .genond true),
   runs ((h bootAndTraining4 ?_).2.2 ?_ ?_)⟩ <;> decide +kernel

def epochArming1 : Sys2Proof.Machine.State :=
  st []

def epochArming2 : Sys2Proof.Machine.State :=
  st [(SEQ_STATE_STATE 3, RUN)]

def epochArming3 : Sys2Proof.Machine.State :=
  st [(DEV_STATUS_REFCLK_OK, 1)]

/-- States and operands that meet the hypotheses of EpochArming. -/
theorem witness_EpochArming (h : Clause.EpochArming) :
    Answers (Instr.epochArm Via.jtag) epochArming1 Runs ∧
    Answers (Instr.epochArm Via.jtag) epochArming2 Runs ∧
    Answers (Instr.epochEdge 5) epochArming3 Runs := by
  refine ⟨runs ((h epochArming1 ?_).1 .jtag ?_),
   runs ((h epochArming2 ?_).2.1 .jtag ?_),
   runs ((h epochArming3 ?_).2.2 5 ?_ ?_)⟩ <;> decide +kernel

def epochEdge1 : Sys2Proof.Machine.State :=
  st [(DEV_STATUS_REFCLK_OK, 1), (TIME_EPOCH_CTRL, 1), (SEQ_STATE_STATE 3, HALTED)] 9 (onTile 3 (holds 2 [.one (hent 2
      50 0 KPLAY 5)]))

def epochEdge2 : Sys2Proof.Machine.State :=
  st [(NT_NOW, 2 ^ 70), (TIME_MARK_SRC 2, 3)] 0 (fun d => { d with epochZero := some 256, ticks := 256 })

/-- States and operands that meet the hypotheses of EpochEdge. -/
theorem witness_EpochEdge (h : Clause.EpochEdge) :
    Answers (Instr.epochEdge 15) epochEdge1 Runs ∧
    Answers (Instr.tlZeroBoundary) epochEdge2 Runs := by
  refine ⟨runs ((h epochEdge1 ?_).1 15 ?_ ?_),
   runs ((h epochEdge2 ?_).2 ?_)⟩ <;> decide +kernel

def frameAdvances1 : Sys2Proof.Machine.State :=
  st [(DEV_STATUS_PLL_LOCK, 1), (NT_NOW, 2 ^ 96 - 1)] 8

def frameAdvances2 : Sys2Proof.Machine.State :=
  st [] 8

/-- States and operands that meet the hypotheses of FrameAdvances. -/
theorem witness_FrameAdvances (h : Clause.FrameAdvances) :
    Answers (Instr.frameTick [] [64]) frameAdvances1 Runs ∧
    Answers (Instr.frameTick [] []) frameAdvances2 Runs := by
  refine ⟨runs ((h frameAdvances1 [] [64]).1 ?_), runs ((h frameAdvances2 [] []).2 ?_ ?_)⟩ <;> decide +kernel

def stormFrame1 : Sys2Proof.Machine.State :=
  st [(DEV_STATUS_PLL_LOCK, 1), (THERM_STORM_TRIPPED, 1), (DDR_STATUS_STATE 1, DDR_READY), (MARK_HIGH 7, 1)] 8

/-- A state that meets the hypotheses of StormFrame. -/
theorem witness_StormFrame (h : Clause.StormFrame) : Answers (Instr.frameTick [] []) stormFrame1 Runs := by
  refine runs (h stormFrame1 ?_ [] [] ?_ ?_ ?_ ?_ ?_) <;> decide +kernel

/-- A frame of tile 3 with one sample beyond the range and a fill of the input FIFO, or a dropped one. -/
def tile3 (drop : Bool) : List TileFrame :=
  List.replicate 3 ⟨List.replicate 10 0, false, 0⟩ ++ [⟨[5, 3000, -7, 0, 0, 0, 0, 0, 0, 1], drop, 12⟩]

def converterFrames1 : Sys2Proof.Machine.State :=
  st [(DEV_STATUS_PLL_LOCK, 1), (ADC_CTRL_EN 3, 1), (RD_STATUS_OPEN 3 7, 1)] 50 (onTile 3 (fun x => { x with
    adc := List.replicate 30 ⟨List.replicate 10 100, 0, false, false⟩
    win := vset (vset x.win 0 (some ⟨45, 1, 2, 0x2000, 9, true, true, 5, 2 ^ 47 - 1, 0, false, false, false, false, false⟩)) 7
      (some ⟨10, 1, 2, 0x2000, 3, true, true, 4, 7, 8, false, false, false, false, false⟩) }))

/-- A state and operands that meet the hypotheses of ConverterFrames, with an open window whose accumulator overflows, and a window
behind its last frame. -/
theorem witness_ConverterFrames (h : Clause.ConverterFrames) : Answers (Instr.frameTick (tile3 false) []) converterFrames1 (fun t =>
    t.get (ADC_PEAK 3) = 2047 ∧ t.get (ADC_OVR_STICKY 3) = 1 ∧ (∃ v, t.view.win 3 0 = some v ∧ v.added = 6) ∧
    t.get (RD_STATUS_OPEN 3 7) = 0) ∧ Answers (Instr.frameTick (tile3 true) []) converterFrames1 (fun t =>
    t.get (ADC_FIFO_OVERRUN 3) = 1 ∧ NewFiring converterFrames1 t (tileSrc 3 2)) := by
  have r : Running converterFrames1 := ⟨by decide +kernel, by decide +kernel, by decide +kernel, rfl, by decide +kernel⟩
  obtain ⟨t, e, p⟩ := h converterFrames1 r (tile3 false) [] 3 (by decide)
  obtain ⟨t', e', p'⟩ := h converterFrames1 r (tile3 true) [] 3 (by decide)
  refine ⟨⟨t, e, ?_, ?_, ?_, ?_⟩, ⟨t', e', ?_, ?_⟩⟩
  · rw [p.2.2.2.1]; decide +kernel
  · exact (p.2.2.2.2.1 ⟨3000, by decide +kernel, by decide⟩).1
  · have a := p.2.2.2.2.2.2.2 0 (by decide) _ (show converterFrames1.view.win 3 0 = some _ from rfl)
    exact ⟨_, (a.1 (by decide +kernel)).1, rfl⟩
  · have a := p.2.2.2.2.2.2.2 7 (by decide) _ (show converterFrames1.view.win 3 7 = some _ from rfl)
    exact (a.2 (by decide +kernel)).2
  · exact (p'.2.2.2.2.2.1 rfl).1
  · exact (p'.2.2.2.2.2.1 rfl).2.2.2 (by decide +kernel)

def toneFrames1 : Sys2Proof.Machine.State :=
  st [(DEV_STATUS_PLL_LOCK, 1), (DAC_CTRL_EN 3 1, 1), (DRIVE_ROUTE_XY 3 4, 2)] 50 (onTile 3 (fun x => { x with
    tone := vset (vset x.tone 4 ⟨some ⟨800, [0, 0, 0, 0], none, none⟩, [(1, 2)], []⟩) 5 ⟨none, [(5, 6)], [[(7, 8)]]⟩
    dac := vset x.dac 1 { Dac.reset with line := List.replicate 8 [3] } }))

/-- A state that meets the hypotheses of ToneFrames: a pulse that ends with the frame, an engine without one, and codes on their way. -/
theorem witness_ToneFrames (h : Clause.ToneFrames) : Answers (Instr.frameTick [] []) toneFrames1 (fun t =>
    (t.view.tone 3 4).pulse = none ∧ histSample (t.view.tone 3 4) 0 0 = (1, 2) ∧ histSample (t.view.tone 3 5) 1 0 = (7, 8) ∧
    Out.dac 3 1 [3] ∈ t.dev.out) := by
  obtain ⟨t, e, p⟩ := h toneFrames1 ⟨by decide +kernel, by decide +kernel, by decide +kernel, rfl, by decide +kernel⟩ [] [] 3 (by decide)
  have a := (p.1 4 (by decide)).2.2.2 ⟨800, [0, 0, 0, 0], none, none⟩ rfl (Or.inl rfl)
  refine ⟨t, e, ?_, ?_, ?_, ?_⟩
  · rw [a.1]; decide +kernel
  · rw [a.2 0 (by decide)]; rfl
  · rw [(p.1 5 (by decide)).1 0 (by decide) 0]; rfl
  · exact p.2.2 1 (by decide) [3] rfl (by decide) (by decide +kernel)

def fluxFrames1 : Sys2Proof.Machine.State :=
  st [(DEV_STATUS_PLL_LOCK, 1), (FLUX_OUT 3 0, 1)] 50 (onTile 3 (fun x => { x with
    flux := vset x.flux 0 ⟨some ⟨90, [2 ^ 19, 0, 0, 0], none⟩, [], List.replicate 8 none, [], []⟩
    fluxLine := vset x.fluxLine 2 [[], [], [9, 8]] }))

/-- A state that meets the hypotheses of FluxFrames: an engine whose pulse goes on, and codes on their way. -/
theorem witness_FluxFrames (h : Clause.FluxFrames) : Answers (Instr.frameTick [] []) fluxFrames1 (fun t =>
    (t.view.flux 3 0).pulse = some ⟨90, [2 ^ 19, 0, 0, 0], none⟩ ∧ Out.fluxCodes 3 2 [9, 8] ∈ t.dev.out) := by
  obtain ⟨t, e, p⟩ := h fluxFrames1 ⟨by decide +kernel, by decide +kernel, by decide +kernel, rfl, by decide +kernel⟩ [] [] 3 (by decide)
  refine ⟨t, e, ?_, ?_⟩
  · refine ((p.1 0 (by decide)) (by decide) ?_).2.1
    intro q n hq hn
    obtain rfl : _ = q := Option.some.inj hq
    have z : fluxSpanEnd ⟨90, [2 ^ 19, 0, 0, 0], none⟩ = none := by decide
    rw [z] at hn; cases hn
  · exact p.2.2 2 (by decide) [9, 8] rfl (by decide) (by decide +kernel)

/-- A record that has taken three frames of class 0, of which none has left the ring. -/
def recording3 : Record := ⟨⟨45, 0, 0, 3, 0⟩, 1, 0, none, 0, false, 0, false, 1, 8, 2, 0, 0, 1, 0, 0, 44, 60, false⟩

def captureFrames (state : Nat) (f : CapUnit → CapUnit) : Sys2Proof.Machine.State :=
  st [(DEV_STATUS_PLL_LOCK, 1), (CAP_STATE_STATE 3, state), (CAPCLASS_LEN_PRE 3 0, 6)] 50 (onTile 3 (fun x => { x with
    cap := f { x.cap with ringStart := 45, ring := [([1], false)] } }))

/-- States that meet the hypotheses of CaptureFrames: a unit that becomes ARMED, and one that records. -/
theorem witness_CaptureFrames (h : Clause.CaptureFrames) (h' : Clause.FrameAdvances) :
    Answers (Instr.frameTick [] []) (captureFrames FILLING id) (fun t => capState t.view 3 = ARMED) ∧
    Answers (Instr.frameTick [] []) (captureFrames RECORDING (fun u => { u with rec_ := some recording3 })) (fun t =>
      capState t.view 3 = RECORDING ∧ t.get (CAP_DEAD 3) = 1) := by
  obtain ⟨t, e, p⟩ := h (captureFrames FILLING id)
    ⟨by decide +kernel, by decide +kernel, by decide +kernel, rfl, by decide +kernel⟩ [] [] 3 (by decide)
  obtain ⟨t', e', p'⟩ := h (captureFrames RECORDING (fun u => { u with rec_ := some recording3 }))
    ⟨by decide +kernel, by decide +kernel, by decide +kernel, rfl, by decide +kernel⟩ [] [] 3 (by decide)
  have hx : t.tl.count = 51 := by
    obtain ⟨x, ex, hx, _⟩ := (h' (captureFrames FILLING id) [] []).1 (by decide +kernel)
    obtain rfl : t = x := by rw [e] at ex; exact Host.Outcome.next.inj ex
    rw [hx]; rfl
  have none_ : ∀ (l : List GroupArm) (n : Nat), l = [] → ∀ g ∈ l, n < g.frame := by rintro _ _ rfl g hg; cases hg
  refine ⟨⟨t, e, ?_⟩, ⟨t', e', ?_, ?_⟩⟩
  · show capState t.view 3 = ARMED
    rw [(p.1 (by decide +kernel) (none_ _ _ rfl)).2.2, hx]; decide +kernel
  · exact (p'.2.1 recording3 rfl (by decide +kernel) (by decide +kernel) (by decide +kernel)
      (none_ _ _ rfl) (by decide +kernel) (by decide +kernel) (by decide +kernel)).2.2
  · rw [p'.2.2]; decide +kernel

def networkTimeStaging1 : Sys2Proof.Machine.State :=
  st [(TIME_NT_CMD_AT_LO, 50)] 20

def networkTimeStaging2 : Sys2Proof.Machine.State :=
  st [(TIME_NT_CMD_AT_LO, 20)] 20

def networkTimeStaging3 : Sys2Proof.Machine.State :=
  st [(TIME_NT_CMD_BUSY, 1)] 20

def networkTimeStaging4 : Sys2Proof.Machine.State :=
  st [(TIME_NT_CMD_BUSY, 1)] 20 (fun d => { d with ntCmd := some ⟨0, 3, false, false, none, 0⟩ })

def networkTimeStaging5 : Sys2Proof.Machine.State :=
  st []

/-- States and operands that meet the hypotheses of NetworkTimeStaging. -/
theorem witness_NetworkTimeStaging (h : Clause.NetworkTimeStaging) :
    Answers ((Instr.ntIncr Via.mgt false, 0).1) networkTimeStaging1 Runs ∧
    Answers ((Instr.ntAdd Via.mgt false, 1).1) networkTimeStaging2 Runs ∧
    Answers ((Instr.ntSet Via.mgt true, 2).1) networkTimeStaging2 Runs ∧
    Answers ((Instr.ntSet Via.mgt true, 2).1) networkTimeStaging3 Runs ∧
    Answers (Instr.ntCmdCancel) networkTimeStaging4 Runs ∧
    Answers (Instr.ntCmdCancel) networkTimeStaging5 Runs := by
  refine ⟨runs (((h networkTimeStaging1 ?_ .mgt false).1 (.ntIncr .mgt false, 0) ?_).1
      ?_),
   runs (((h networkTimeStaging2 ?_ .mgt false).1 (.ntAdd .mgt false, 1) ?_).1
       ?_),
   runs (((h networkTimeStaging2 ?_ .mgt true).1 (.ntSet .mgt true, 2) ?_).1
       ?_),
   runs (((h networkTimeStaging3 ?_ .mgt true).1 (.ntSet .mgt true, 2) ?_).2
       ?_),
   runs ((h networkTimeStaging4 ?_ .mgt true).2.1 ?_),
   runs ((h networkTimeStaging5 ?_ .mgt true).2.2 ?_)⟩ <;> decide +kernel

def networkTimeApply1 : Sys2Proof.Machine.State :=
  st [(TIME_NT_CMD_BUSY, 1), (NT_NOW, 10 ^ 12)] 5 (fun d =>
      { d with ticks := 1, ntCmd := some ⟨0, 2 ^ 32 + 7, false, false, none, 0⟩ })

def networkTimeApply2 : Sys2Proof.Machine.State :=
  st [(TIME_NT_CMD_BUSY, 1), (NT_NOW, 10 ^ 12)] 5 (fun d =>
      { d with ticks := 1, ntCmd := some ⟨1, 2 ^ 96 - 7, false, false, some 5, 0⟩ })

def networkTimeApply3 : Sys2Proof.Machine.State :=
  st [(TIME_NT_CMD_BUSY, 1), (NT_NOW, 10 ^ 12)] 5 (fun d =>
      { d with ticks := 1, ntCmd := some ⟨2, 77, false, false, some 4, 0⟩ })

def networkTimeApply4 : Sys2Proof.Machine.State :=
  st [(TIME_NT_CMD_BUSY, 1), (NT_NOW, 10 ^ 12)] 0 (fun d =>
      { d with ticks := 300, ntCmd := some ⟨2, 77, true, true, none, 0⟩ })

/-- States and operands that meet the hypotheses of NetworkTimeApply. -/
theorem witness_NetworkTimeApply (h : Clause.NetworkTimeApply) :
    Answers (Instr.ntCmdApply) networkTimeApply1 Runs ∧
    Answers (Instr.ntCmdApply) networkTimeApply2 Runs ∧
    Answers (Instr.ntCmdApply) networkTimeApply3 Runs ∧
    Answers (Instr.ntCmdApply) networkTimeApply4 Runs := by
  refine ⟨runs (h networkTimeApply1 ?_ ⟨0, 2 ^ 32 + 7, false, false, none, 0⟩ ?_ ?_ ?_),
    runs (h networkTimeApply2 ?_ ⟨1, 2 ^ 96 - 7, false, false, some 5, 0⟩ ?_ ?_ ?_),
    runs (h networkTimeApply3 ?_ ⟨2, 77, false, false, some 4, 0⟩ ?_ ?_ ?_),
    runs (h networkTimeApply4 ?_ ⟨2, 77, true, true, none, 0⟩ ?_ ?_ ?_)⟩ <;> decide +kernel

def snapshotsAndAlarms1 : Sys2Proof.Machine.State :=
  st [(NT_NOW, 2 ^ 95 + 2 ^ 40 + 3)] (2 ^ 33 + 1)

def snapshotsAndAlarms2 : Sys2Proof.Machine.State :=
  st [] 0 (fun d => { d with ticks := 9 })

def snapshotsAndAlarms3 : Sys2Proof.Machine.State :=
  st [(TIME_ALARM_CTRL_ARMED 1, 1), (TIME_MARK_SRC 7, 2), (NT_NOW, 2 ^ 32 * 8), (TIME_ALARM_TARGET 1, 8)] 0 (fun d =>
      { d with ticks := 9 })

def snapshotsAndAlarms4 : Sys2Proof.Machine.State :=
  st [(NT_NOW, 2 ^ 32 * 8), (TIME_ALARM_TARGET 1, 8)] 0 (fun d => { d with ticks := 9 })

def snapshotsAndAlarms5 : Sys2Proof.Machine.State :=
  st [(TIME_ALARM_CTRL_ARMED 0, 1), (NT_NOW, 2 ^ 32 * 8), (TIME_ALARM_TARGET 0, 9)] 0 (fun d => { d with ticks := 9 })

/-- States and operands that meet the hypotheses of SnapshotsAndAlarms. -/
theorem witness_SnapshotsAndAlarms (h : Obligations.SnapshotsAndAlarms) :
    Answers (Instr.ntSnap) snapshotsAndAlarms1 Runs ∧
    Answers (Instr.alarmArm 1) snapshotsAndAlarms2 Runs ∧
    Answers (Instr.alarmFire 1) snapshotsAndAlarms3 Runs ∧
    Answers (Instr.alarmFire 1) snapshotsAndAlarms4 Runs ∧
    Answers (Instr.alarmFire 0) snapshotsAndAlarms5 Runs := by
  refine ⟨runs ((h snapshotsAndAlarms1 ?_).1),
   runs ((h snapshotsAndAlarms2 ?_).2.1 1),
   runs ((h snapshotsAndAlarms3 ?_).2.2.1 1 ?_ ?_
       ?_),
   runs ((h snapshotsAndAlarms4 ?_).2.2.2 1 (Or.inl ?_)),
   runs ((h snapshotsAndAlarms5 ?_).2.2.2 0 (Or.inr ?_))⟩ <;> decide +kernel

/-- A tile with entries staged and a clasp that has admitted stamps. -/
def stages (l : List Staged) (c : Nat := 0) (k : Clasp := Clasp.reset) (x : Tile) : Tile :=
  { x with stage := l, clasps := vset x.clasps c k }

def claspAdmits1 : Sys2Proof.Machine.State :=
  st [(SEQ_STATE_STATE 3, RUN)] 100 (onTile 3 (stages [staged (ent 2 112 3 KPLAY 5)]))

def claspAdmits2 : Sys2Proof.Machine.State :=
  st [(SEQ_STATE_STATE 3, RUN)] 100
    (onTile 3 (stages [staged (ent 32 200 3 KCAPTURE 1)] 32 ⟨[], none, [⟨200, 3, false⟩]⟩))

/-- States and operands that meet the hypotheses of ClaspAdmits. -/
theorem witness_ClaspAdmits (h : Clause.ClaspAdmits) :
    Answers (Instr.claspAdmit 3 2) claspAdmits1 Runs ∧
    Answers (Instr.claspAdmit 3 32) claspAdmits2 Runs := by
  refine ⟨runs (h claspAdmits1 ?_ 3 2 (staged (ent 2 112 3 KPLAY 5)) ⟨?_, ?_, ?_, ?_⟩ ?_ ?_ ?_ ?_ (noGroup ?_) ?_ (opt ?_)),
    runs (h claspAdmits2 ?_ 3 32 (staged (ent 32 200 3 KCAPTURE 1)) ⟨?_, ?_, ?_, ?_⟩ ?_ ?_ ?_ ?_ (noGroup ?_) ?_
      (opt ?_))⟩ <;> decide +kernel

/-- A member of a PARAM chain, and one that ends it. -/
def link_ (chain : Bool) : Entry := { ent 2 112 3 KPARAM 5 with chain := chain }

def claspUnits1 : Sys2Proof.Machine.State :=
  st [(SEQ_STATE_STATE 3, RUN)] 100 (onTile 3 (stages [staged (link_ true)]))

def claspUnits2 : Sys2Proof.Machine.State :=
  st [(SEQ_STATE_STATE 3, RUN)] 100 (onTile 3 (stages [staged { ent 2 112 3 KPLAY 5 with alt := true, opt := 0 }]))

def claspUnits3 : Sys2Proof.Machine.State :=
  st [(SEQ_STATE_STATE 3, RUN)] 100
    (onTile 3 (stages [staged (link_ false)] 2 ⟨[], some ⟨true, [⟨link_ true, 12, .seq, none⟩], .seq⟩, []⟩))

/-- States and operands that meet the hypotheses of ClaspUnits. -/
theorem witness_ClaspUnits (h : Clause.ClaspUnits) :
    Answers (Instr.claspAdmit 3 2) claspUnits1 Runs ∧
    Answers (Instr.claspAdmit 3 2) claspUnits2 Runs ∧
    Answers (Instr.claspAdmit 3 2) claspUnits3 Runs := by
  refine ⟨runs ((h claspUnits1 ?_ 3 2 (staged (link_ true)) ⟨?_, ?_, ?_, ?_⟩ ?_ ?_ (noGroup ?_)).1 ?_ (Or.inr ?_)),
    runs ((h claspUnits2 ?_ 3 2 (staged { ent 2 112 3 KPLAY 5 with alt := true, opt := 0 }) ⟨?_, ?_, ?_, ?_⟩ ?_ ?_
      (noGroup ?_)).1 ?_ (Or.inl ?_)),
    runs ((h claspUnits3 ?_ 3 2 (staged (link_ false)) ⟨?_, ?_, ?_, ?_⟩ ?_ ?_ (noGroup ?_)).2
      ⟨true, [⟨link_ true, 12, .seq, none⟩], .seq⟩ ?_ ?_ ?_ ?_ ?_ (opt ?_))⟩ <;> decide +kernel

def claspFaults1 : Sys2Proof.Machine.State :=
  st [(SEQ_STATE_STATE 3, RUN)] 100 (onTile 3 (stages [staged (ent 2 112 3 KWINDOW 5)]))

def claspFaults2 : Sys2Proof.Machine.State :=
  st [(SEQ_STATE_STATE 3, RUN), (CLASP_FIRST_VALID 3, 1)] 100
    (onTile 3 (stages [staged (ent 2 150 2 KPLAY 5)] 2 ⟨[], none, [⟨150, 3, false⟩]⟩))

def claspFaults3 : Sys2Proof.Machine.State :=
  st [(SEQ_STATE_STATE 3, RUN)] 100 (onTile 3 (stages [staged (ent 2 111 2 KPLAY 5)] 2 ⟨[], none, [⟨111, 2, false⟩]⟩))

/-- States and operands that meet the hypotheses of ClaspFaults. -/
theorem witness_ClaspFaults (h : Clause.ClaspFaults) :
    Answers (Instr.claspAdmit 3 2) claspFaults1 Runs ∧
    Answers (Instr.claspAdmit 3 2) claspFaults2 Runs ∧
    Answers (Instr.claspAdmit 3 2) claspFaults3 Runs := by
  refine ⟨runs (h claspFaults1 ?_ 3 2 (staged (ent 2 112 3 KWINDOW 5)) FORMAT ⟨?_, ?_, ?_, ?_⟩ ?_ ?_ ?_ (noGroup ?_)
      (Or.inl ⟨?_, rfl⟩)),
    runs (h claspFaults2 ?_ 3 2 (staged (ent 2 150 2 KPLAY 5)) ORDER ⟨?_, ?_, ?_, ?_⟩ ?_ ?_ ?_ (noGroup ?_)
      (Or.inr (Or.inl ⟨?_, ⟨⟨150, 3, false⟩, ?_, ?_⟩, rfl⟩))),
    runs (h claspFaults3 ?_ 3 2 (staged (ent 2 111 2 KPLAY 5)) LATE ⟨?_, ?_, ?_, ?_⟩ ?_ ?_ ?_ (noGroup ?_)
      (Or.inr (Or.inr ⟨?_, noOpt ?_, ?_, rfl⟩)))⟩ <;> decide +kernel

def pageBuffers1 : Sys2Proof.Machine.State :=
  st [(SEQ_STATE_STATE 3, RUN), (TONE_TPL 3 2 5 0, 2 ^ 20), (DRIVE_PAGE_BUFFERS 3, 1)] 100
    (onTile 3 (stages [staged (ent 2 111 2 KPLAY 5)]))

def pageBuffers2 : Sys2Proof.Machine.State :=
  st [(DRIVE_PAGE_BUFFERS 3, 2), (QDR_CFG_CAP_LOG2 1, 21)] 100 (onTile 3 (fun x =>
      { x with pages := [⟨1, 65536 + 4095, 1, none⟩] })) [(qdrBase 1 + 4095 * 4096, [7#8])]

/-- A PLAY that waits for page 9. -/
def paged : HeldEntry := { hent 2 101 0 KPLAY 5 with page := some 9 }

def pageBuffers3 : Sys2Proof.Machine.State :=
  st [] 100 (onTile 3 (fun x => { (holds 2 [.one paged] x) with pages := [⟨1, 9, 1, none⟩] }))

def pageBuffers4 : Sys2Proof.Machine.State :=
  st [(QDR_CFG_CAP_LOG2 0, 21)] 50 (onTile 3 (fun x => { (holds 2 [.one paged] x) with pages := [⟨1, 9, 1, none⟩] }))

/-- States and operands that meet the hypotheses of PageBuffers. -/
theorem witness_PageBuffers (h : Obligations.PageBuffers) :
    Answers (Instr.pageWaitLate 3 2) pageBuffers1 Runs ∧
    Answers (Instr.pageFetchDone 3 1 []) pageBuffers2 Runs ∧
    Answers (Instr.pageFetchDone 3 1 [511]) pageBuffers4 Runs ∧
    Answers (Instr.pageFetchLate 3 2) pageBuffers3 Runs := by
  refine ⟨runs ((h pageBuffers1 ?_ 3).1 2 (staged (ent 2 111 2 KPLAY 5)) ?_ ?_ (Or.inr ?_) ?_ ?_ ?_ ?_ ?_ (opt ?_) ?_),
    runs ((h pageBuffers2 ?_ 3).2.1 1 ⟨1, 65536 + 4095, 1, none⟩ ?_ ?_ ?_).1,
    runs (((h pageBuffers4 ?_ 3).2.1 1 ⟨1, 9, 1, none⟩ ?_ ?_ ?_).2 511 2 paged ?_ ?_ ?_ ?_),
    runs ((h pageBuffers3 ?_ 3).2.2 2 paged 9 ?_ ?_ ?_ ?_ ?_)⟩ <;> decide +kernel

def abortFrom1 : Sys2Proof.Machine.State :=
  st [(CLASP_ABORT_FRAME_LO 3, 150)] 100 (onTile 3 (fun x =>
      { (holds 2 [.one (hent 2 149 0 KPLAY 5), .one (hent 2 150 0 KPLAY 5)] x) with stage := [staged (ent 4 150 0 KPLAY 1), staged (ent 4 149 0 KPLAY 1)] }))

def abortFrom2 : Sys2Proof.Machine.State :=
  st [(CLASP_ABORT_FRAME_HI 3, 1), (CLASP_ABORT_CTRL_GEN 3, 3)] 100 (onTile 3 (holds 32 [.chain [hent 2 149 0 KPARAM
      5, hent 2 2000000000000 0 KPARAM 5]]))

def abortFrom3 : Sys2Proof.Machine.State :=
  st [(CLASP_ABORT_CTRL_BUSY 3, 1)]

/-- States and operands that meet the hypotheses of AbortFrom. -/
theorem witness_AbortFrom (h : Clause.AbortFrom) :
    Answers (Instr.abortGo Via.genond 3) abortFrom1 Runs ∧
    Answers (Instr.abortGo Via.genond 3) abortFrom2 Runs ∧
    Answers (Instr.abortGo Via.genond 3) abortFrom3 Runs := by
  refine ⟨runs ((h abortFrom1 ?_ .genond 3).1 ?_),
   runs ((h abortFrom2 ?_ .genond 3).1 ?_),
   runs ((h abortFrom3 ?_ .genond 3).2 ?_)⟩ <;> decide +kernel

def playStarts1 : Sys2Proof.Machine.State :=
  st [] 100 (onTile 3 (holds 2 [.one (hent 2 100 5 KPLAY 7)]))

def playStarts2 : Sys2Proof.Machine.State :=
  st [(TONE_TPL 3 15 7 0, 2 ^ 20), (TONE_TPL 3 15 7 1, 1023), (QDR_STATUS 0, 2)] 100 (onTile 3 (fun x =>
      { (holds 15 [.one { hent 15 100 5 KPLAY 7 with page := some 0 }] x) with pages := [⟨0, 0, 1, some true⟩] }))

def playStarts3 : Sys2Proof.Machine.State :=
  st [] 100 (onTile 3 (fun x =>
    { holds 23 [.one (hent 23 100 1 KPLAY 3), .one (hent 23 100 7 KPLAY 127)] x with
      flux := vset x.flux 7 { Flux.reset with pulse := some ⟨199, [1, 1023, 0, 0], none⟩ } }))

/-- States and operands that meet the hypotheses of PlayStarts. -/
theorem witness_PlayStarts (h : Clause.PlayStarts) :
    Answers (Instr.play 3 2) playStarts1 Runs ∧
    Answers (Instr.play 3 15) playStarts2 Runs ∧
    Answers (Instr.play 3 23) playStarts3 Runs := by
  refine ⟨runs ((h playStarts1 ?_ 3 2 (hent 2 100 5 KPLAY 7) ?_ ?_).1 2
      ?_ ?_ ?_ ?_),
   runs ((h playStarts2 ?_ 3 15 { hent 15 100 5 KPLAY 7 with page := some 0 } ?_
       ?_).1 15 ?_ ?_ ?_ ?_),
   runs ((h playStarts3 ?_ 3 23 (hent 23 100 7 KPLAY 127) ?_ ?_).2
       7 ?_ (goesOn ?_) ?_)⟩ <;> decide +kernel

def stopEndsHold1 : Sys2Proof.Machine.State :=
  st [] 100 (onTile 3 (fun x =>
      { (holds 2 [.one (hent 2 100 5 KSTOP 0)] x) with tone := vset x.tone 2 { Tone.reset with pulse := some ⟨90, [2 ^ 19, 0, 0, 0], none, none⟩ } }))

def stopEndsHold2 : Sys2Proof.Machine.State :=
  st [] 100 (onTile 3 (fun x =>
      { (holds 17 [.one (hent 17 100 8 KSTOP 0)] x) with flux := vset x.flux 1 { Flux.reset with pulse := some ⟨90, [2 ^ 19, 0, 0, 0], none⟩ } }))

/-- States and operands that meet the hypotheses of StopEndsHold. -/
theorem witness_StopEndsHold (h : Clause.StopEndsHold) :
    Answers (Instr.stop 3 2) stopEndsHold1 Runs ∧
    Answers (Instr.stop 3 17) stopEndsHold2 Runs := by
  refine ⟨runs ((h stopEndsHold1 ?_ 3 2 (hent 2 100 5 KSTOP 0) ?_ ?_).1 2
      ⟨90, [2 ^ 19, 0, 0, 0], none, none⟩ ?_ ?_ ?_
      ?_ ?_ ?_),
   runs ((h stopEndsHold2 ?_ 3 17 (hent 17 100 8 KSTOP 0) ?_ ?_).2
       1 ⟨90, [2 ^ 19, 0, 0, 0], none⟩ ?_ ?_ ?_ ?_
       ?_)⟩ <;> decide +kernel

def pulseEnds1 : Sys2Proof.Machine.State :=
  st [] 100 (onTile 3 (fun x =>
      { x with tone := vset x.tone 2 { Tone.reset with pulse := some ⟨1608, [0, 0, 0, 0], none, none⟩ } }))

def pulseEnds2 : Sys2Proof.Machine.State :=
  st [] 100 (onTile 3 (fun x =>
      { x with flux := vset x.flux 2 { Flux.reset with pulse := some ⟨200, [0, 0, 0, 0], none⟩ } }))

/-- States and operands that meet the hypotheses of PulseEnds. -/
theorem witness_PulseEnds (h : Clause.PulseEnds) :
    Answers (Instr.pulseSpanEnd 3 2) pulseEnds1 Runs ∧
    Answers (Instr.pulseSpanEnd 3 18) pulseEnds2 Runs := by
  refine ⟨runs ((h pulseEnds1 ?_ 3 2).1 2 ⟨1608, [0, 0, 0, 0], none, none⟩ 1616 ?_
      ?_ ?_ ?_ ?_),
   runs ((h pulseEnds2 ?_ 3 18).2 2 ⟨200, [0, 0, 0, 0], none⟩ 202 ?_
       ?_ ?_ ?_)⟩ <;> decide +kernel

def toneParameters1 : Sys2Proof.Machine.State :=
  st [] 100 (onTile 3 (holds 2 [.one (hent 2 100 5 KPARAM (3 + 256 * (2 ^ 80 - 3)))]))

def toneParameters2 : Sys2Proof.Machine.State :=
  st [] 100 (onTile 3 (holds 2 [.one (hent 2 100 5 KPARAM (7 + 256 * 9))]))

def toneParameters3 : Sys2Proof.Machine.State :=
  st [(TONE_VZ 3 2 3, 2 ^ 32 - 1)] 100 (onTile 3 (holds 2 [.one (hent 2 100 5 KPARAM (11 + 256 * 9))]))

def toneParameters4 : Sys2Proof.Machine.State :=
  st [] 100 (onTile 3 (holds 2 [.one (hent 2 100 5 KPARAM (0x10 + 256 * (2 ^ 71 - 1)))]))

def toneParameters5 : Sys2Proof.Machine.State :=
  st [] 100 (onTile 3 (holds 2 [.one (hent 2 100 5 KPARAM (0x11 + 256 * (2 ^ 71 - 1)))]))

def toneParameters6 : Sys2Proof.Machine.State :=
  st [] 100 (onTile 3 (holds 9 [.one (hent 9 100 5 KPARAM (0x18 + 256 * 256))]))

/-- States and operands that meet the hypotheses of ToneParameters. -/
theorem witness_ToneParameters (h : Clause.ToneParameters) :
    Answers (Instr.freq 3 2) toneParameters1 Runs ∧
    Answers (Instr.vzset 3 2) toneParameters2 Runs ∧
    Answers (Instr.vzadd 3 2) toneParameters3 Runs ∧
    Answers (Instr.tplLo 3 2) toneParameters4 Runs ∧
    Answers (Instr.tplHi 3 2) toneParameters5 Runs ∧
    Answers (Instr.quiet 3 9) toneParameters6 Runs := by
  refine ⟨runs ((h toneParameters1 ?_ 3 2 (hent 2 100 5 KPARAM (3 + 256 * (2 ^ 80 - 3))) ?_
      ?_).1 ?_),
   runs ((h toneParameters2 ?_ 3 2 (hent 2 100 5 KPARAM (7 + 256 * 9)) ?_
       ?_).2.1 3 ?_ ?_),
   runs ((h toneParameters3 ?_ 3 2 (hent 2 100 5 KPARAM (11 + 256 * 9)) ?_
       ?_).2.2.1 3 ?_ ?_),
   runs ((h toneParameters4 ?_ 3 2 (hent 2 100 5 KPARAM (0x10 + 256 * (2 ^ 71 - 1)))
       ?_ ?_).2.2.2.1 ?_),
   runs ((h toneParameters5 ?_ 3 2 (hent 2 100 5 KPARAM (0x11 + 256 * (2 ^ 71 - 1)))
       ?_ ?_).2.2.2.2.1 ?_),
   runs ((h toneParameters6 ?_ 3 9 (hent 9 100 5 KPARAM (0x18 + 256 * 256)) ?_
       ?_).2.2.2.2.2 2 ?_ ?_ ?_)⟩ <;> decide +kernel

def fluxParameters1 : Sys2Proof.Machine.State :=
  st [] 100 (onTile 3 (holds 18 [.one (hent 18 100 8 KPARAM (256 * 0x8000))]))

def fluxParameters2 : Sys2Proof.Machine.State :=
  st [(FLUX_DC 3 2, 0x7FFF)] 100 (onTile 3 (holds 18 [.one (hent 18 100 8 KPARAM (1 + 256 * 1))]))

def fluxParameters3 : Sys2Proof.Machine.State :=
  st [] 100 (onTile 3 (holds 18 [.one (hent 18 100 8 KPARAM (0x10 + 256 * (2 ^ 71 - 1)))]))

def fluxParameters4 : Sys2Proof.Machine.State :=
  st [] 100 (onTile 3 (holds 18 [.one (hent 18 100 8 KPARAM (0x11 + 256 * (2 ^ 71 - 1)))]))

/-- States and operands that meet the hypotheses of FluxParameters. -/
theorem witness_FluxParameters (h : Clause.FluxParameters) :
    Answers (Instr.dcset 3 2) fluxParameters1 Runs ∧
    Answers (Instr.dcadd 3 2) fluxParameters2 Runs ∧
    Answers (Instr.tplLo 3 18) fluxParameters3 Runs ∧
    Answers (Instr.tplHi 3 18) fluxParameters4 Runs := by
  refine ⟨runs ((h fluxParameters1 ?_ 3 2 (hent 18 100 8 KPARAM (256 * 0x8000)) ?_
      ?_ (goesOn ?_)).1 ?_),
   runs ((h fluxParameters2 ?_ 3 2 (hent 18 100 8 KPARAM (1 + 256 * 1)) ?_
       ?_ (goesOn ?_)).2.1 ?_),
   runs ((h fluxParameters3 ?_ 3 2 (hent 18 100 8 KPARAM (0x10 + 256 * (2 ^ 71 - 1)))
       ?_ ?_ (goesOn ?_)).2.2.1 ?_),
   runs ((h fluxParameters4 ?_ 3 2 (hent 18 100 8 KPARAM (0x11 + 256 * (2 ^ 71 - 1)))
       ?_ ?_ (goesOn ?_)).2.2.2 ?_)⟩ <;> decide +kernel

def readoutEntries1 : Sys2Proof.Machine.State :=
  st [] 100 (onTile 3 (holds 31 [.one (hent 31 100 0 KPARAM (256 * (15 + 16 * (2 ^ 42 - 1))))]))

def readoutEntries2 : Sys2Proof.Machine.State :=
  st [(RD_STATUS_ROUND 3 7, 15)] 100 (onTile 3 (holds 31 [.one (hent 31 100 0 KWINDOW 63)]))

/-- States and operands that meet the hypotheses of ReadoutEntries. -/
theorem witness_ReadoutEntries (h : Clause.ReadoutEntries) :
    Answers (Instr.kdesc 3 7) readoutEntries1 Runs ∧
    Answers (Instr.window 3 7) readoutEntries2 Runs := by
  refine ⟨runs ((h readoutEntries1 ?_ 3 7 (hent 31 100 0 KPARAM (256 * (15 + 16 * (2 ^ 42 - 1))))
      ?_).1 ?_ ?_),
   runs ((h readoutEntries2 ?_ 3 7 (hent 31 100 0 KWINDOW 63) ?_).2
       ?_ ?_ ?_)⟩ <;> decide +kernel

def chainsApplyInOrder1 : Sys2Proof.Machine.State :=
  st [] 100 (onTile 3 (holds 2 [.chain [hent 2 100 5 KPARAM (3 + 256 * 2 ^ 79), hent 2 100 5 KPARAM (10 + 256 * 7)]]))

def chainsApplyInOrder2 : Sys2Proof.Machine.State :=
  st [] 100 (onTile 3 (holds 2 [.chain [hent 2 100 5 KPARAM (7 + 256 * 5)]]))

def chainsApplyInOrder3 : Sys2Proof.Machine.State :=
  st [] 100 (onTile 3 (holds 2 [.chain [hent 2 100 5 KPARAM (11 + 256 * 5)]]))

/-- States and operands that meet the hypotheses of ChainsApplyInOrder. -/
theorem witness_ChainsApplyInOrder (h : Clause.ChainsApplyInOrder) :
    Answers (Instr.freq 3 2) chainsApplyInOrder1 Runs ∧
    Answers (Instr.vzset 3 2) chainsApplyInOrder2 Runs ∧
    Answers (Instr.vzadd 3 2) chainsApplyInOrder3 Runs := by
  refine ⟨runs (h chainsApplyInOrder1 ?_ 3 2 (hent 2 100 5 KPARAM (3 + 256 * 2 ^ 79)) [hent 2 100 5 KPARAM
      (10 + 256 * 7)] ?_ (.freq 3 2) (Or.inl ⟨rfl, by decide⟩)),
   runs (h chainsApplyInOrder2 ?_ 3 2 (hent 2 100 5 KPARAM (7 + 256 * 5)) [] ?_
       (.vzset 3 2) (Or.inr (Or.inl ⟨rfl, by decide⟩))),
   runs (h chainsApplyInOrder3 ?_ 3 2 (hent 2 100 5 KPARAM (11 + 256 * 5)) [] ?_
       (.vzadd 3 2) (Or.inr (Or.inr ⟨rfl, by decide⟩)))⟩ <;> decide +kernel

def abortBoundary1 : Sys2Proof.Machine.State :=
  st [(RD_STATUS_OPEN 3 7, 1)] 100 (onTile 3 (fun x =>
      { x with aborts := [100, 130], tone := vset x.tone 2 { Tone.reset with pulse := some ⟨90, [2 ^ 19, 0, 0, 0], none, none⟩ }, flux := vset x.flux 1 { Flux.reset with pulse := some ⟨90, [2 ^ 19, 0, 0, 0], none⟩ }, win := vset x.win 7 (some ⟨9, 0, 0, 0, 0, false, false, 1, 0, 0, false, false, false, false, false⟩) }))

/-- States and operands that meet the hypotheses of AbortBoundary. -/
theorem witness_AbortBoundary (h : Clause.AbortBoundary) :
    Answers (Instr.abortBoundary 3) abortBoundary1 Runs := by
  refine runs (h abortBoundary1 ?_ 3 ?_) <;> decide +kernel

def calibrationSteps1 : Sys2Proof.Machine.State :=
  st [(DAC_CAL_STEP 3 2, 46), (DAC_CAL_RUNNING 3 2, 1)] 0 (fun d =>
      { onTile 3 (fun x => { x with dac := vset x.dac 2 { Dac.reset with calStart := some 0 } }) d with ticks := 256 })

def calibrationSteps2 : Sys2Proof.Machine.State :=
  st [(DAC_CAL_STEP 3 2, 47), (DAC_CAL_RUNNING 3 2, 1)] 0 (fun d =>
      { onTile 3 (fun x => { x with dac := vset x.dac 2 { Dac.reset with calStart := some 0 } }) d with ticks := 256 })

def calibrationSteps3 : Sys2Proof.Machine.State :=
  st [(ADC_CAL_STEP 3, 30), (ADC_CAL_RUNNING 3, 1)] 0 (fun d => { d with ticks := 256 })

def calibrationSteps4 : Sys2Proof.Machine.State :=
  st [(ADC_CAL_STEP 3, 31), (ADC_CAL_RUNNING 3, 1)] 0 (fun d => { d with ticks := 256 })

def calibrationSteps5 : Sys2Proof.Machine.State :=
  st [] 0 (fun d => { d with ticks := 10000000000 })

/-- States and operands that meet the hypotheses of CalibrationSteps. -/
theorem witness_CalibrationSteps (h : Obligations.CalibrationSteps) :
    Answers (Instr.dacCalStepDone 3 2) calibrationSteps1 Runs ∧
    Answers (Instr.dacCalStepDone 3 2) calibrationSteps2 Runs ∧
    Answers (Instr.adcCalStepDone 3) calibrationSteps3 Runs ∧
    Answers (Instr.adcCalStepDone 3) calibrationSteps4 Runs ∧
    Answers (Instr.calStale 3 2) calibrationSteps5 Runs ∧
    Answers (Instr.adcCalStale 3) calibrationSteps5 Runs := by
  refine ⟨runs ((h calibrationSteps1 ?_ 3).1 2 0 ?_ ?_),
   runs ((h calibrationSteps2 ?_ 3).1 2 0 ?_ ?_),
   runs ((h calibrationSteps3 ?_ 3).2.1 ?_ ?_),
   runs ((h calibrationSteps4 ?_ 3).2.1 ?_ ?_),
   runs ((h calibrationSteps5 ?_ 3).2.2.1 2 ?_),
   runs ((h calibrationSteps5 ?_ 3).2.2.2 ?_)⟩ <;> decide +kernel

def resultRegisters1 : Sys2Proof.Machine.State :=
  st [] 100 (onTile 3 (fun x =>
      { x with win := vset x.win 7 (some ⟨90, 0, 0, 0, 0, false, false, 1, 2 ^ 40, -(2 ^ 40), false, false, true, false, false⟩) }))

def resultRegisters2 : Sys2Proof.Machine.State :=
  st [] 100 (onTile 3 (fun x =>
      { x with win := vset x.win 7 (some ⟨90, 0, 0, 0, 3, true, false, 4, 1000, -5, false, false, false, false, false⟩) }))

def resultRegisters3 : Sys2Proof.Machine.State :=
  st [] 100 (onTile 3 (fun x =>
    { x with
      late := [(7, ⟨80, 15, 0, 0, 0, false, true, 1, 77, -5, false, false, false, false, false⟩)]
      win := vset x.win 7 (some ⟨90, 0, 0, 0, 3, true, false, 2, 1000, -5, false, false, false, false, false⟩) }))

/-- States and operands that meet the hypotheses of ResultRegisters. -/
theorem witness_ResultRegisters (h : Clause.ResultRegisters) :
    Answers (Instr.resultPresentation 3 7) resultRegisters1 Runs ∧
    Answers (Instr.resultPresentation 3 7) resultRegisters2 Runs ∧
    Answers (Instr.resultPresentation 3 7) resultRegisters3 Runs := by
  refine ⟨runs (h resultRegisters1 ?_ 3 7 ⟨90, 0, 0, 0, 0, false, false, 1, 2 ^ 40, -(2 ^ 40), false, false, true,
      false, false⟩ ?_ ?_),
   runs (h resultRegisters2 ?_ 3 7 ⟨90, 0, 0, 0, 3, true, false, 4, 1000, -5, false, false, false, false,
       false⟩ ?_ ?_),
   runs (h resultRegisters3 ?_ 3 7 ⟨80, 15, 0, 0, 0, false, true, 1, 77, -5, false, false, false, false, false⟩ ?_ ?_)⟩ <;> decide +kernel

def tokensLand1 : Sys2Proof.Machine.State :=
  st ([(DECB_REMOTE_EN 63, 1), (DECB_REMOTE_LINK 63, 31), (DECB_REMOTE_SLOT 63, 5)] ++ linkUp 31 31 0)

def tokensLand2 : Sys2Proof.Machine.State :=
  st (linkUp 31 29 1)

/-- A C0 block of one token on the lane of an index. -/
def c0On (i : Fin 4) (k : Nat) : Fin 4 × BitVec 64 := (i, BitVec.ofNat 64 (Machine.c0Block k none))

/-- States and operands that meet the hypotheses of TokensLand. -/
theorem witness_TokensLand (h : Clause.TokensLand) :
    Answers (Instr.c0Block 31 [c0On 3 0, c0On 0 (token (5 + 2 ^ 9 + 2 ^ 11 + 2 ^ 18))]) tokensLand1 Runs ∧
    Answers (Instr.c0Block 31 [c0On 0 (token 5 ^^^ 1), c0On 1 (token 5 ^^^ 2)]) tokensLand2 Runs := by
  refine ⟨runs ((h tokensLand1 ?_ ?_ 31 [c0On 3 0, c0On 0 (token (5 + 2 ^ 9 + 2 ^ 11 + 2 ^ 18))] ?_ ?_).1
      (token (5 + 2 ^ 9 + 2 ^ 11 + 2 ^ 18)) ?_ ?_),
    runs ((h tokensLand2 ?_ ?_ 31 [c0On 0 (token 5 ^^^ 1), c0On 1 (token 5 ^^^ 2)] ?_ ?_).2 ?_)⟩ <;> decide +kernel

def lookupsPublish1 : Sys2Proof.Machine.State :=
  st [(QDR_STATUS 1, QDR_READY), (QDR_CFG_CAP_LOG2 1, 21), (TABLE_CTX_STATUS_ROUND 1 1, 15)] 0 (fun d =>
      { d with tables := vset d.tables 3 { TableCtx.reset with lookups := [⟨2 ^ 21 - 1, false, true, false, none⟩, ⟨3, true, true, true, none⟩] } })
      [(qdrBase 1 + 8 * (2 ^ 21 - 1), [0x5A#8, 0xA5#8, 0x31#8])]

def lookupsPublish2 : Sys2Proof.Machine.State :=
  st [(QDR_STATUS 1, QDR_READY), (QDR_CFG_CAP_LOG2 1, 21)] 0 (fun d =>
      { d with tables := vset d.tables 3 { TableCtx.reset with lookups := [⟨5, false, true, false, some 9⟩] } })

/-- States and operands that meet the hypotheses of LookupsPublish. -/
theorem witness_LookupsPublish (h : Clause.LookupsPublish) :
    Answers (Instr.lookupReturn 1 1 true 0) lookupsPublish1 Runs ∧
    Answers (Instr.lookupReturn 1 1 false 0) lookupsPublish2 Runs := by
  refine ⟨runs (h lookupsPublish1 ?_ ?_ 1 1 true 0 ⟨2 ^ 21 - 1, false, true, false, none⟩ [⟨3, true, true, true, none⟩]
      ?_),
   runs (h lookupsPublish2 ?_ ?_ 1 1 false 0 ⟨5, false, true, false, some 9⟩ []
       ?_)⟩ <;> decide +kernel

def tableRounds1 : Sys2Proof.Machine.State :=
  st [(TABLE_CTX_CFG_TMO 1 1, 5), (TABLE_CTX_CFG_EN 1 1, 1), (TABLE_CTX_KEYSEL_EN 1 1 21, 1), (TABLE_CTX_KEYSEL_SLOT 1
      1 21, 319)] 0 (fun d =>
      { d with ticks := 8, tables := vset d.tables 3 { TableCtx.reset with firstAt := some 3 } })

def tableRounds2 : Sys2Proof.Machine.State :=
  st [(TABLE_CTX_CFG_EN 1 1, 1), (TABLE_CTX_KEYSEL_EN 1 1 21, 1), (DECB_SLOT_ROUND 0, 7)] 0 (fun d =>
      { d with tables := vset d.tables 3 { TableCtx.reset with firstAt := some 3 } })

/-- States and operands that meet the hypotheses of TableRounds. -/
theorem witness_TableRounds (h : Clause.TableRounds) :
    Answers (Instr.tableTimeout 1 1) tableRounds1 Runs ∧
    Answers (Instr.tableResync 1 1) tableRounds2 Runs := by
  refine ⟨runs ((h tableRounds1 ?_ 1 1 ?_).1 ?_ ?_
      ?_ 3 ?_ ?_ ?_),
   runs ((h tableRounds2 ?_ 1 1 ?_).2)⟩ <;> decide +kernel

/-- A link's token for slot 5 lands in the last remote slot, which a watcher of tile 31 watches, a staged group of that tile waits for,
and export entries of two links name. -/
def publicationsSeen1 : Sys2Proof.Machine.State :=
  st ([(DECB_REMOTE_EN 63, 1), (DECB_REMOTE_LINK 63, 31), (DECB_REMOTE_SLOT 63, 5), (WATCH_KEY_EN 31 15 3, 1),
      (WATCH_KEY_SLOT 31 15 3, 319), (WATCH_KEY_EXPECT 31 15 3, 8), (DECB_EXPORT_EN 63, 1), (DECB_EXPORT_SLOT 63, 319),
      (DECB_EXPORT_LINK 63, 31), (DECB_EXPORT_EN 0, 1), (DECB_EXPORT_SLOT 0, 319)] ++ linkUp 31 31 0) 90
    (onTile 31 (fun x => { holds 2 [.group [⟨{ ent 2 100 0 KPLAY 5 with did := 15, alt := true }, 3, .seq, none⟩,
        ⟨{ ent 2 100 0 KPLAY 6 with did := 15, alt := true, opt := 1 }, 3, .seq, none⟩]] x with
      seq := { x.seq with cursor := 120 }, watch := vset x.watch 15 ⟨true, List.replicate 4 none, 0⟩ }))

/-- States and operands that meet the hypotheses of PublicationsSeen. -/
theorem witness_PublicationsSeen (h : Clause.PublicationsSeen) :
    Answers (Instr.c0Block 31 [c0On 0 (token (5 + 2 ^ 9 + 2 ^ 11 + 2 ^ 18))]) publicationsSeen1 Runs ∧
    Answers (Instr.resultPresentation 3 7) resultRegisters1 Runs ∧
    Answers (Instr.resultPresentation 3 7) resultRegisters3 Runs := by
  refine ⟨runs ((h publicationsSeen1 ?_ ?_).1 31 [c0On 0 (token (5 + 2 ^ 9 + 2 ^ 11 + 2 ^ 18))] 63
      (token (5 + 2 ^ 9 + 2 ^ 11 + 2 ^ 18)) ?_),
    runs ((h resultRegisters1 ?_ ?_).2 3 7 ⟨90, 0, 0, 0, 0, false, false, 1, 2 ^ 40, -(2 ^ 40), false, false, true, false, false⟩
      ?_ ?_),
    runs ((h resultRegisters3 ?_ ?_).2 3 7 ⟨80, 15, 0, 0, 0, false, true, 1, 77, -5, false, false, false, false, false⟩ ?_ ?_)⟩ <;>
    decide +kernel

/-- The token of publicationsSeen1 is seen by table context 1 of QDR 1, whose key bit 21 has last seen a round, and whose key bit 0 is
captured, if it has one. -/
def contextsSee (last : Nat) (more : Bool) : Sys2Proof.Machine.State :=
  st ([(DECB_REMOTE_EN 63, 1), (DECB_REMOTE_LINK 63, 31), (DECB_REMOTE_SLOT 63, 5), (TABLE_CTX_CFG_EN 1 1, 1),
      (TABLE_CTX_KEYSEL_EN 1 1 21, 1), (TABLE_CTX_KEYSEL_SLOT 1 1 21, 319), (TABLE_CTX_KEYSEL_EN 1 1 0, b2n more),
      (TABLE_CTX_KEYSEL_SLOT 1 1 0, 7)] ++ linkUp 31 31 0) 90
    (fun d => { d with tables := vset d.tables 3 { TableCtx.reset with last := List.replicate 22 last } })

/-- States and operands that meet the hypotheses of ContextsSee: an unexpected round, a lookup, and a capture. -/
theorem witness_ContextsSee (h : Clause.ContextsSee) :
    Answers (Instr.c0Block 31 [c0On 0 (token (5 + 2 ^ 9 + 2 ^ 11 + 2 ^ 18))]) (contextsSee 3 false) Runs ∧
    Answers (Instr.c0Block 31 [c0On 0 (token (5 + 2 ^ 9 + 2 ^ 11 + 2 ^ 18))]) (contextsSee 7 false) Runs ∧
    Answers (Instr.c0Block 31 [c0On 0 (token (5 + 2 ^ 9 + 2 ^ 11 + 2 ^ 18))]) (contextsSee 7 true) Runs := by
  refine ⟨runs (h (contextsSee 3 false) ?_ 31 [c0On 0 (token (5 + 2 ^ 9 + 2 ^ 11 + 2 ^ 18))] 63
      (token (5 + 2 ^ 9 + 2 ^ 11 + 2 ^ 18)) ?_ 1 1 ?_ ?_),
    runs (h (contextsSee 7 false) ?_ 31 [c0On 0 (token (5 + 2 ^ 9 + 2 ^ 11 + 2 ^ 18))] 63
      (token (5 + 2 ^ 9 + 2 ^ 11 + 2 ^ 18)) ?_ 1 1 ?_ ?_),
    runs (h (contextsSee 7 true) ?_ 31 [c0On 0 (token (5 + 2 ^ 9 + 2 ^ 11 + 2 ^ 18))] 63
      (token (5 + 2 ^ 9 + 2 ^ 11 + 2 ^ 18)) ?_ 1 1 ?_ ?_)⟩ <;> decide +kernel

def armingsTakeEffect1 : Sys2Proof.Machine.State :=
  st [(WATCH_KEY_EN 3 15 3, 1), (WATCH_KEY_EXPECT 3 15 3, 14)] 100 (onTile 3 (fun x =>
      { x with arms := [⟨15, false, 3, 90, 100, true⟩] }))

def armingsTakeEffect2 : Sys2Proof.Machine.State :=
  st [(WATCH_KEY_EN 3 15 3, 1), (DECB_SLOT_ROUND 0, 15)] 100 (onTile 3 (fun x =>
      { x with arms := [⟨15, true, 3, 90, 100, false⟩] }))

/-- States and operands that meet the hypotheses of ArmingsTakeEffect. -/
theorem witness_ArmingsTakeEffect (h : Clause.ArmingsTakeEffect) :
    Answers (Instr.armingEffect 3) armingsTakeEffect1 Runs ∧
    Answers (Instr.armingEffect 3) armingsTakeEffect2 Runs := by
  refine ⟨runs (h armingsTakeEffect1 ?_ 3 ⟨15, false, 3, 90, 100, true⟩ ?_ ?_ ?_ ?_),
   runs (h armingsTakeEffect2 ?_ 3 ⟨15, true, 3, 90, 100, false⟩ ?_ ?_ ?_ ?_)⟩ <;> decide +kernel

/-- Watcher 15 of tile 3 is armed for the round that its slot shows. -/
def armingsCapture1 : Sys2Proof.Machine.State :=
  st [(WATCH_KEY_EN 3 15 3, 1), (WATCH_KEY_SLOT 3 15 3, 64), (WATCH_KEY_EXPECT 3 15 3, 14), (DECB_SLOT_VALID 64, 1),
      (DECB_SLOT_ROUND 64, 1)] 100 (onTile 3 (fun x => { x with arms := [⟨15, false, 3, 90, 100, false⟩] }))

/-- States and operands that meet the hypotheses of ArmingsCapture. -/
theorem witness_ArmingsCapture (h : Clause.ArmingsCapture) :
    Answers (Instr.armingEffect 3) armingsCapture1 Runs ∧ Answers (Instr.armingEffect 3) armingsTakeEffect1 Runs := by
  refine ⟨runs (h armingsCapture1 ?_ 3 ⟨15, false, 3, 90, 100, false⟩ ?_ ?_ ?_),
    runs (h armingsTakeEffect1 ?_ 3 ⟨15, false, 3, 90, 100, true⟩ ?_ ?_ ?_)⟩ <;> decide +kernel

def lateDecisions1 : Sys2Proof.Machine.State :=
  st [(WATCH_STATUS_RESOLVED 3 15, 1), (WATCH_STATUS_OPTION 3 15, 1)] 100 (onTile 3 (holds 2 [.group
      [⟨{ ent 2 100 0 KPLAY 5 with did := 15, alt := true }, 3, .seq, none⟩,
      ⟨{ ent 2 100 0 KPLAY 6 with did := 15, alt := true, opt := 1 }, 3, .seq, none⟩]]))

def lateDecisions2 : Sys2Proof.Machine.State :=
  st [(WATCH_CFG_LATE_POL 3 15, 1)] 100 (onTile 3 (holds 2 [.group
      [⟨{ ent 2 100 0 KPLAY 5 with did := 15, alt := true }, 3, .seq, none⟩,
      ⟨{ ent 2 100 0 KPLAY 6 with did := 15, alt := true, opt := 1 }, 3, .seq, none⟩]]))

def lateDecisions4 : Sys2Proof.Machine.State :=
  st [(WATCH_STATUS_RESOLVED 3 15, 1), (WATCH_STATUS_OPTION 3 15, 1)] 100 (onTile 3 (fun x =>
      { holds 2 [.group [⟨{ ent 2 100 0 KPLAY 5 with did := 15, alt := true }, 3, .seq, none⟩,
      ⟨{ ent 2 100 0 KPLAY 6 with did := 15, alt := true, opt := 1 }, 3, .seq, none⟩]] x with
        watch := vset x.watch 15 ⟨true, List.replicate 4 none, 100⟩ }))

def lateDecisions3 : Sys2Proof.Machine.State :=
  st [(FB_FENCE_TMO 3, 50)] 150 (onTile 3 (inWord (word (15 * 2 ^ 116) [.fence, .seq, .safe])))

/-- The group of lateDecisions4 is late although its watcher has resolved: not before the boundary (R169). -/
theorem test_late_at_boundary :
    (match step { lateDecisions4 with pending := [Instr.latePolicy 3 2] } with
    | .next t => (t.get (FB_COUNT_GROUPS 3), t.get (FB_COUNT_LATE 3)) | _ => (9, 9)) = (0, 1) := by decide +kernel

/-- States and operands that meet the hypotheses of LateDecisions. -/
theorem witness_LateDecisions (h : Clause.LateDecisions) :
    Answers (Instr.latePolicy 3 2) lateDecisions1 Runs ∧
    Answers (Instr.latePolicy 3 2) lateDecisions2 Runs ∧
    Answers (Instr.latePolicy 3 2) lateDecisions4 Runs ∧
    Answers (Instr.fenceTimeout 3) lateDecisions3 Runs := by
  refine ⟨runs ((h lateDecisions1 ?_ 3).1 2 ⟨{ ent 2 100 0 KPLAY 5 with did := 15, alt := true }, 3, .seq,
      none⟩ [⟨{ ent 2 100 0 KPLAY 6 with did := 15, alt := true, opt := 1 }, 3, .seq, none⟩] ?_
      ?_ ?_),
   runs ((h lateDecisions2 ?_ 3).1 2 ⟨{ ent 2 100 0 KPLAY 5 with did := 15, alt := true }, 3, .seq,
       none⟩ [⟨{ ent 2 100 0 KPLAY 6 with did := 15, alt := true, opt := 1 }, 3, .seq, none⟩] ?_
       ?_ ?_),
   runs ((h lateDecisions4 ?_ 3).1 2 ⟨{ ent 2 100 0 KPLAY 5 with did := 15, alt := true }, 3, .seq,
       none⟩ [⟨{ ent 2 100 0 KPLAY 6 with did := 15, alt := true, opt := 1 }, 3, .seq, none⟩] ?_
       ?_ ?_),
   runs ((h lateDecisions3 ?_ 3).2 (word (15 * 2 ^ 116) [.fence, .seq, .safe]) .seq [.safe]
       ?_ ?_ ?_ ?_ ?_
       ?_ ?_)⟩ <;> decide +kernel

def wordsIssue1 : Sys2Proof.Machine.State :=
  st [(SEQ_STATE_STATE 3, RUN)] 100 (onTile 3 (fun x => { x with seq := { x.seq with cursor := 100, next := 4095 } }))
      [(tileBase 3 + 0x40000 + 32 * 4095, leBytes 28 (coded (2 ^ 201 + 1000000 * 2 ^ 180 + 9 * 2 ^ 176)))]

def wordsIssue2 : Sys2Proof.Machine.State :=
  st [(SEQ_STATE_STATE 3, RUN)] 100 (onTile 3 (fun x => { x with seq := { x.seq with cursor := 100, next := 0 } }))
      [(tileBase 3 + 0x40000, leBytes 28 (coded (9 * 2 ^ 220)))]

/-- States and operands that meet the hypotheses of WordsIssue. -/
theorem witness_WordsIssue (h : Clause.WordsIssue) :
    Answers (Instr.wordFetch 3) wordsIssue1 Runs ∧
    Answers (Instr.wordFetch 3) wordsIssue2 Runs := by
  refine ⟨runs (h wordsIssue1 ?_ 3 ?_ ?_ ?_
      ?_ ?_),
   runs (h wordsIssue2 ?_ 3 ?_ ?_ ?_
       ?_ ?_)⟩ <;> decide +kernel

def badWordsCut1 : Sys2Proof.Machine.State :=
  st [(SEQ_STATE_STATE 3, RUN)] 100 (onTile 3 (fun x => { x with seq := { x.seq with cursor := 100, next := 5 } }))
      [(tileBase 3 + 0x40000 + 32 * 5, [1#8])]

def badWordsCut2 : Sys2Proof.Machine.State :=
  st [(SEQ_STATE_STATE 3, RUN)] 100 (onTile 3 (fun x => { x with seq := { x.seq with cursor := 100, next := 5 } }))
      [(tileBase 3 + 0x40000 + 32 * 5, leBytes 28 (coded (10 * 2 ^ 220)))]

def badWordsCut3 : Sys2Proof.Machine.State :=
  st [(SEQ_STATE_STATE 3, RUN), (CLASP_ABORT_CTRL_BUSY 3, 1)] 100 (onTile 3 (fun x => { x with seq := { x.seq with
      cursor := 100, next := 5 } })) [(tileBase 3 + 0x40000 + 32 * 5, leBytes 28 (coded (15 * 2 ^ 220)))]

/-- States and operands that meet the hypotheses of BadWordsCut. -/
theorem witness_BadWordsCut (h : Clause.BadWordsCut) :
    Answers (Instr.wordFetch 3) badWordsCut1 Runs ∧
    Answers (Instr.wordFetch 3) badWordsCut2 Runs ∧
    Answers (Instr.wordFetch 3) badWordsCut3 Runs := by
  refine ⟨runs (h badWordsCut1 ?_ 3 ?_ ?_ CAUSE_PARITY ?_), runs (h badWordsCut2 ?_ 3 ?_ ?_ CAUSE_ILLEGAL ?_),
   runs (h badWordsCut3 ?_ 3 ?_ ?_ CAUSE_ILLEGAL ?_)⟩ <;> decide +kernel

def sequencingSteps1 : Sys2Proof.Machine.State :=
  st [] 100 (onTile 3 (inWord
      ({ word (0 * 2 ^ 220 + 4001 * 2 ^ 208 + 1234 * 2 ^ 4) [.seq, .safe] with cond := true })))

def sequencingSteps2 : Sys2Proof.Machine.State :=
  st [] 100 (onTile 3 (inWord
      ({ word (1 * 2 ^ 220 + 4001 * 2 ^ 208 + 1234 * 2 ^ 4) [.seq, .safe] with cond := true })))

def sequencingSteps3 : Sys2Proof.Machine.State :=
  st [(SEQ_MODE 3, 1)] 100 (onTile 3 (inWord
      ({ word (2 * 2 ^ 220 + 4001 * 2 ^ 208 + 1234 * 2 ^ 4) [.seq, .safe] with cond := true })))

def sequencingSteps4 : Sys2Proof.Machine.State :=
  st [(SEQ_CFG_BRINGUP 3, 0), (SEQ_SP 3, 16), (SEQ_STACK 3 15, 9)] 100 (onTile 3 (inWord
      ({ word (2 * 2 ^ 220 + 4001 * 2 ^ 208 + 1234 * 2 ^ 4) [.seq, .safe] with cond := true })))

def sequencingSteps5 : Sys2Proof.Machine.State :=
  st [] 100 (onTile 3 (inWord
      ({ word (3 * 2 ^ 220 + 4001 * 2 ^ 208 + 1234 * 2 ^ 4) [.seq, .safe] with cond := false })))

def sequencingSteps6 : Sys2Proof.Machine.State :=
  st [(SEQ_SP 3, 1)] 100 (onTile 3 (inWord
      ({ word (3 * 2 ^ 220 + 4001 * 2 ^ 208 + 1234 * 2 ^ 4) [.seq, .safe] with cond := true })))

def sequencingSteps7 : Sys2Proof.Machine.State :=
  st [(SEQ_SP 3, 1), (SEQ_STACK 3 0, 12)] 100 (onTile 3 (inWord
      ({ word (4 * 2 ^ 220 + 4001 * 2 ^ 208 + 1234 * 2 ^ 4) [.seq, .safe] with cond := true })))

def sequencingSteps8 : Sys2Proof.Machine.State :=
  st [(SEQ_SP 3, 1)] 100 (onTile 3 (inWord
      ({ word (4 * 2 ^ 220 + 4001 * 2 ^ 208 + 1234 * 2 ^ 4) [.seq, .safe] with cond := false })))

def sequencingSteps9 : Sys2Proof.Machine.State :=
  st [(SEQ_SP 3, 15)] 100 (onTile 3 (inWord
      ({ word (5 * 2 ^ 220 + 4001 * 2 ^ 208 + 1234 * 2 ^ 4) [.seq, .safe] with cond := true })))

def sequencingSteps10 : Sys2Proof.Machine.State :=
  st [(SEQ_SP 3, 16), (SEQ_STACK 3 15, 4095)] 100 (onTile 3 (inWord
      ({ word (6 * 2 ^ 220 + 4001 * 2 ^ 208 + 1234 * 2 ^ 4) [.seq, .safe] with cond := true })))

def sequencingSteps11 : Sys2Proof.Machine.State :=
  st [(SEQ_SP 3, 15)] 100 (onTile 3 (inWord
      ({ word (7 * 2 ^ 220 + 4001 * 2 ^ 208 + 1234 * 2 ^ 4) [.seq, .safe] with cond := true })))

def sequencingSteps12 : Sys2Proof.Machine.State :=
  st [] 100 (onTile 3 (inWord
      ({ word (8 * 2 ^ 220 + 4001 * 2 ^ 208 + 1234 * 2 ^ 4) [.seq, .safe] with cond := true })))

def sequencingSteps13 : Sys2Proof.Machine.State :=
  st [] 100 (onTile 3 (inWord
      ({ word (9 * 2 ^ 220 + 4001 * 2 ^ 208 + 1234 * 2 ^ 4) [.seq, .safe] with cond := true })))

/-- States and operands that meet the hypotheses of SequencingSteps. -/
theorem witness_SequencingSteps_1 (h : Clause.SequencingSteps) :
    Answers (Instr.seqNext 3) sequencingSteps1 Runs ∧
    Answers (Instr.seqJump 3) sequencingSteps2 Runs ∧
    Answers (Instr.seqBranch 3) sequencingSteps3 Runs ∧
    Answers (Instr.seqBranch 3) sequencingSteps4 Runs ∧
    Answers (Instr.seqRetif 3) sequencingSteps5 Runs ∧
    Answers (Instr.seqRetif 3) sequencingSteps6 Runs ∧
    Answers (Instr.seqLoopb 3) sequencingSteps7 Runs ∧
    Answers (Instr.seqLoopb 3) sequencingSteps8 Runs := by
  refine ⟨runs ((h sequencingSteps1 ?_ 3
      ({ word (0 * 2 ^ 220 + 4001 * 2 ^ 208 + 1234 * 2 ^ 4) [.seq, .safe] with cond := true }) .safe []
      ?_ rfl ?_).1 ?_),
   runs ((h sequencingSteps2 ?_ 3
       ({ word (1 * 2 ^ 220 + 4001 * 2 ^ 208 + 1234 * 2 ^ 4) [.seq, .safe] with cond := true }) .safe []
       ?_ rfl ?_).2.1 ?_),
   runs ((h sequencingSteps3 ?_ 3
       ({ word (2 * 2 ^ 220 + 4001 * 2 ^ 208 + 1234 * 2 ^ 4) [.seq, .safe] with cond := true }) .safe []
       ?_ rfl ?_).2.2.1 ?_ ?_),
   runs ((h sequencingSteps4 ?_ 3
       ({ word (2 * 2 ^ 220 + 4001 * 2 ^ 208 + 1234 * 2 ^ 4) [.seq, .safe] with cond := true }) .safe []
       ?_ rfl ?_).2.2.2.1 ?_ ?_
       ?_ ?_),
   runs ((h sequencingSteps5 ?_ 3
       ({ word (3 * 2 ^ 220 + 4001 * 2 ^ 208 + 1234 * 2 ^ 4) [.seq, .safe] with cond := false }) .safe []
       ?_ rfl ?_).2.2.2.2.1 ?_ ?_),
   runs ((h sequencingSteps6 ?_ 3
       ({ word (3 * 2 ^ 220 + 4001 * 2 ^ 208 + 1234 * 2 ^ 4) [.seq, .safe] with cond := true }) .safe []
       ?_ rfl ?_).2.2.2.2.2.1 ?_ ?_
       ?_ ?_),
   runs ((h sequencingSteps7 ?_ 3
       ({ word (4 * 2 ^ 220 + 4001 * 2 ^ 208 + 1234 * 2 ^ 4) [.seq, .safe] with cond := true }) .safe []
       ?_ rfl ?_).2.2.2.2.2.2.1 ?_ ?_
       ?_),
   runs ((h sequencingSteps8 ?_ 3
       ({ word (4 * 2 ^ 220 + 4001 * 2 ^ 208 + 1234 * 2 ^ 4) [.seq, .safe] with cond := false }) .safe []
       ?_ rfl ?_).2.2.2.2.2.2.2.1 ?_ ?_
       ?_ ?_)⟩ <;> decide +kernel

/-- States and operands that meet the hypotheses of SequencingSteps. -/
theorem witness_SequencingSteps_2 (h : Clause.SequencingSteps) :
    Answers (Instr.seqCall 3) sequencingSteps9 Runs ∧
    Answers (Instr.seqRet 3) sequencingSteps10 Runs ∧
    Answers (Instr.seqPush 3) sequencingSteps11 Runs ∧
    Answers (Instr.seqHalt 3) sequencingSteps12 Runs ∧
    Answers (Instr.seqAbort 3) sequencingSteps13 Runs := by
  refine ⟨runs ((h sequencingSteps9 ?_ 3
      ({ word (5 * 2 ^ 220 + 4001 * 2 ^ 208 + 1234 * 2 ^ 4) [.seq, .safe] with cond := true }) .safe []
      ?_ rfl ?_).2.2.2.2.2.2.2.2.1 ?_ ?_),
   runs ((h sequencingSteps10 ?_ 3
       ({ word (6 * 2 ^ 220 + 4001 * 2 ^ 208 + 1234 * 2 ^ 4) [.seq, .safe] with cond := true }) .safe []
       ?_ rfl ?_).2.2.2.2.2.2.2.2.2.1 ?_ ?_
       ?_),
   runs ((h sequencingSteps11 ?_ 3
       ({ word (7 * 2 ^ 220 + 4001 * 2 ^ 208 + 1234 * 2 ^ 4) [.seq, .safe] with cond := true }) .safe []
       ?_ rfl ?_).2.2.2.2.2.2.2.2.2.2.1 ?_ ?_),
   runs ((h sequencingSteps12 ?_ 3
       ({ word (8 * 2 ^ 220 + 4001 * 2 ^ 208 + 1234 * 2 ^ 4) [.seq, .safe] with cond := true }) .safe []
       ?_ rfl ?_).2.2.2.2.2.2.2.2.2.2.2.1 ?_),
   runs ((h sequencingSteps13 ?_ 3
       ({ word (9 * 2 ^ 220 + 4001 * 2 ^ 208 + 1234 * 2 ^ 4) [.seq, .safe] with cond := true }) .safe []
       ?_ rfl ?_).2.2.2.2.2.2.2.2.2.2.2.2 ?_)⟩ <;> decide +kernel

def stackFaults1 : Sys2Proof.Machine.State :=
  st [] 0 (onTile 3 (inWord (word (6 * 2 ^ 220) [.seq])))

def stackFaults2 : Sys2Proof.Machine.State :=
  st [(SEQ_SP 3, 16)] 0 (onTile 3 (inWord (word (5 * 2 ^ 220) [.seq])))

def stackFaults3 : Sys2Proof.Machine.State :=
  st [(SEQ_SP 3, 16)] 0 (onTile 3 (inWord (word (7 * 2 ^ 220) [.seq])))

def stackFaults4 : Sys2Proof.Machine.State :=
  st [] 0 (onTile 3 (inWord (word (2 * 2 ^ 220) [.seq])))

def stackFaults5 : Sys2Proof.Machine.State :=
  st [] 0 (onTile 3 (inWord (word (3 * 2 ^ 220) [.seq])))

def stackFaults6 : Sys2Proof.Machine.State :=
  st [] 0 (onTile 3 (inWord (word (4 * 2 ^ 220) [.seq])))

def stackFaults7 : Sys2Proof.Machine.State :=
  st [] 0 (onTile 3 (inWord (word (4 * 2 ^ 220 + 1 * 2 ^ 202) [.seq])))

/-- States and operands that meet the hypotheses of StackFaults. -/
theorem witness_StackFaults (h : Clause.StackFaults) :
    Answers (Instr.seqRet 3) stackFaults1 Runs ∧
    Answers (Instr.seqCall 3) stackFaults2 Runs ∧
    Answers (Instr.seqPush 3) stackFaults3 Runs ∧
    Answers (Instr.seqBranch 3) stackFaults4 Runs ∧
    Answers (Instr.seqRetif 3) stackFaults5 Runs ∧
    Answers (Instr.seqLoopb 3) stackFaults6 Runs ∧
    Answers (Instr.seqLoopb 3) stackFaults7 Runs := by
  refine ⟨runs (h stackFaults1 ?_ 3 (word (6 * 2 ^ 220) [.seq]) [] ?_ ?_
      ?_ (.seqRet 3) (Or.inl ⟨rfl, by decide +kernel, by decide +kernel⟩)),
   runs (h stackFaults2 ?_ 3 (word (5 * 2 ^ 220) [.seq]) [] ?_ ?_
       ?_ (.seqCall 3) (Or.inr (Or.inl ⟨rfl, by decide +kernel, by decide +kernel⟩))),
   runs (h stackFaults3 ?_ 3 (word (7 * 2 ^ 220) [.seq]) [] ?_ ?_
       ?_ (.seqPush 3) (Or.inr (Or.inr (Or.inl ⟨rfl, by decide +kernel, by decide +kernel⟩)))),
   runs (h stackFaults4 ?_ 3 (word (2 * 2 ^ 220) [.seq]) [] ?_ ?_
       ?_ (.seqBranch 3) (Or.inr (Or.inr (Or.inr (Or.inl ⟨rfl, by decide +kernel, by decide +kernel,
       by decide +kernel⟩))))),
   runs (h stackFaults5 ?_ 3 (word (3 * 2 ^ 220) [.seq]) [] ?_ ?_
       ?_ (.seqRetif 3) (Or.inr (Or.inr (Or.inr (Or.inr (Or.inl ⟨rfl, by decide +kernel,
       by decide +kernel, by decide +kernel⟩)))))),
   runs (h stackFaults6 ?_ 3 (word (4 * 2 ^ 220) [.seq]) [] ?_ ?_
       ?_ (.seqLoopb 3) (Or.inr (Or.inr (Or.inr (Or.inr (Or.inr ⟨rfl, by decide +kernel,
       by decide +kernel⟩)))))),
   runs (h stackFaults7 ?_ 3 (word (4 * 2 ^ 220 + 1 * 2 ^ 202) [.seq]) [] ?_
       ?_ ?_ (.seqLoopb 3) (Or.inr (Or.inr (Or.inr (Or.inr (Or.inr ⟨rfl,
       by decide +kernel, by decide +kernel⟩))))))⟩ <;> decide +kernel

def wordEnds1 : Sys2Proof.Machine.State :=
  st [(SEQ_STARVE_LIMIT 3, 100), (SEQ_STATE_STATE 3, RUN)] 0 (onTile 3 (inWord (word (8 * 2 ^ 220) [.seq])))

def wordEnds2 : Sys2Proof.Machine.State :=
  st [(SEQ_STARVE_LIMIT 3, 100), (SEQ_STATE_STATE 3, RUN)] 0 (onTile 3 (inWord (word 0 [.seq])))

def wordEnds3 : Sys2Proof.Machine.State :=
  st [(SEQ_STATE_STATE 3, RUN), (SEQ_ATTN_EN 3, 2 ^ 12), (EVPORT_PEND_GEN_SET 3 1 4, 1), (SEQ_SP 3, 15), (SEQ_VEC 3
      12, 77)] 0 (onTile 3 (inWord (word (2 ^ 201) [.safe])))

def wordEnds4 : Sys2Proof.Machine.State :=
  st [(SEQ_STATE_STATE 3, RUN)] 100 (onTile 3 (inWord (word (9 * 2 ^ 220 + 50 * 2 ^ 180) [.abort, .seq])))

def wordEnds5 : Sys2Proof.Machine.State :=
  st [(WATCH_STATUS_RESOLVED 3 15, 1), (FB_FENCE_WAITING 3, 1)] 100 (onTile 3 (inWord (word (15 * 2 ^ 116) [.fence,
      .seq])))

/-- States and operands that meet the hypotheses of WordEnds. -/
theorem witness_WordEnds (h : Clause.WordEnds) :
    Answers (Instr.seqHalt 3) wordEnds1 Runs ∧
    Answers (Instr.seqNext 3) wordEnds2 Runs ∧
    Answers (Instr.safe 3) wordEnds3 Runs ∧
    Answers (Instr.seqAbort 3) wordEnds4 Runs ∧
    Answers (Instr.fence 3) wordEnds5 Runs := by
  refine ⟨runs (((h wordEnds1 ?_ 3 (word (8 * 2 ^ 220) [.seq])).1 (fallThrough (State.view wordEnds1) 3
      (word (8 * 2 ^ 220) [.seq])) rfl ?_ ?_ ?_ ?_
      ?_ ?_).1 ?_),
   runs (((h wordEnds2 ?_ 3 (word 0 [.seq])).1 (fallThrough (State.view wordEnds2) 3 (word 0 [.seq]))
       rfl ?_ ?_ ?_ ?_ ?_
       ?_).2 ?_),
   runs ((h wordEnds3 ?_ 3 (word (2 ^ 201) [.safe])).2.1 12 ?_ ?_
       ?_ ?_ ?_ ?_ ?_
       ?_ ?_ ?_),
   runs ((h wordEnds4 ?_ 3 (word (9 * 2 ^ 220 + 50 * 2 ^ 180) [.abort, .seq])).2.2.1 [.seq]
       ?_ ?_ ?_),
   runs ((h wordEnds5 ?_ 3 (word (15 * 2 ^ 116) [.fence, .seq])).2.2.2 [.seq] ?_
       ?_)⟩ <;> decide +kernel

def abortCompletes1 : Sys2Proof.Machine.State :=
  st [(CLASP_ABORT_CTRL_BUSY 3, 1), (ABORT_E 3, 2 ^ 40 + 1)]

def abortCompletes2 : Sys2Proof.Machine.State :=
  st [(CLASP_ABORT_CTRL_BUSY 3, 1), (ABORT_E 3, 2 ^ 40 + 1), (SEQ_STATE_STATE 3, RUN)] 100 (onTile 3 (fun x =>
      { x with seq := { x.seq with cutPending := true } }))

/-- States and operands that meet the hypotheses of AbortCompletes. -/
theorem witness_AbortCompletes (h : Clause.AbortCompletes) :
    Answers (Instr.abortComplete 3) abortCompletes1 Runs ∧
    Answers (Instr.abortComplete 3) abortCompletes2 Runs := by
  refine ⟨runs ((h abortCompletes1 ?_ 3 ?_).1 ?_),
   runs ((h abortCompletes2 ?_ 3 ?_).2 ?_)⟩ <;> decide +kernel

def hostControl1 : Sys2Proof.Machine.State :=
  st [(SEQ_STATE_STATE 3, RUN)]

def hostControl2 : Sys2Proof.Machine.State :=
  st [(SEQ_STATE_STATE 3, HALTED)]

def hostControl3 : Sys2Proof.Machine.State :=
  st [(SEQ_STATE_STATE 3, RUN)] 0 (onTile 3 (fun x => { x with seq := { x.seq with next := 88 } }))

def hostControl4 : Sys2Proof.Machine.State :=
  st [(SEQ_STATE_STATE 3, HALTED), (SEQ_RESTART 3, 55)] 20

def hostControl5 : Sys2Proof.Machine.State :=
  st [(SEQ_STATE_STATE 3, DRAINING), (SEQ_RESTART 3, 55)] 20

/-- States and operands that meet the hypotheses of HostControl. -/
theorem witness_HostControl (h : Clause.HostControl) :
    Answers (Instr.hostStop Via.mgt 3) hostControl1 Runs ∧
    Answers (Instr.hostStop Via.mgt 3) hostControl2 Runs ∧
    Answers (Instr.hostHalt Via.mgt 3) hostControl3 Runs ∧
    Answers (Instr.seqStep Via.mgt 3 true) hostControl4 Runs ∧
    Answers (Instr.seqResume Via.mgt 3 false) hostControl5 Runs := by
  refine ⟨runs ((h hostControl1 ?_ .mgt 3 ?_ ?_).1
      ?_),
   runs ((h hostControl2 ?_ .mgt 3 ?_ ?_).2.1
       ?_),
   runs ((h hostControl3 ?_ .mgt 3 ?_ ?_).2.2.2.1
       ?_ ?_ ?_ ?_),
   runs (((h hostControl4 ?_ .mgt 3 ?_ ?_).2.2.2.2.2.2.2 ?_ ?_ true).1),
   runs (((h hostControl5 ?_ .mgt 3 ?_ ?_).2.2.2.2.2.2.2 ?_ ?_ false).2)⟩ <;> decide +kernel

def hostControl6 : Sys2Proof.Machine.State :=
  st [(SEQ_STATE_STATE 3, RUN)] 0 (onTile 3 (inWord (word 0 [.seq])))

def hostControl7 : Sys2Proof.Machine.State :=
  st [(SEQ_STATE_STATE 3, HALTED), (CODE_HELD 3, 1)]

def hostControl8 : Sys2Proof.Machine.State :=
  st [(SEQ_STATE_STATE 3, NOT_RELEASED)]

/-- States and operands that meet the further hypotheses of HostControl. -/
theorem witness_HostControl_2 (h : Clause.HostControl) :
    Answers (Instr.hostHalt Via.mgt 3) hostControl6 Runs ∧
    Answers (Instr.hostHalt Via.mgt 3) hostControl2 Runs ∧
    Answers (Instr.seqStep Via.mgt 3 false) hostControl1 Runs ∧
    Answers (Instr.seqResume Via.mgt 3 true) hostControl8 Runs ∧
    Answers (Instr.seqStep Via.mgt 3 true) hostControl7 Runs := by
  refine ⟨runs ((h hostControl6 ?_ .mgt 3 ?_ ?_).2.2.2.2.1 (word 0 [.seq]) ?_ ?_ ?_ ?_),
    runs ((h hostControl2 ?_ .mgt 3 ?_ ?_).2.2.2.2.2.1 (Instr.hostHalt Via.mgt 3, [HALTED, NOT_RELEASED]) false ?_ ?_ ?_),
    runs ((h hostControl1 ?_ .mgt 3 ?_ ?_).2.2.2.2.2.1 (Instr.seqStep Via.mgt 3 false, [RUN, NOT_RELEASED]) false ?_ ?_ ?_),
    runs ((h hostControl8 ?_ .mgt 3 ?_ ?_).2.2.2.2.2.1 (Instr.seqResume Via.mgt 3 true, [RUN, NOT_RELEASED]) true ?_ ?_ ?_),
    runs ((h hostControl7 ?_ .mgt 3 ?_ ?_).2.2.2.2.2.2.1 (Instr.seqStep Via.mgt 3 true) true ?_ ?_)⟩ <;> decide +kernel

def hostControl9 : Sys2Proof.Machine.State :=
  st [(SEQ_STATE_STATE 3, DRAINING), (CLASP_ABORT_CTRL_BUSY 3, 1)] 100 (onTile 3 (fun x =>
      { x with seq := { x.seq with cutPending := true } }))

/-- A cut that waits for an abort takes a further HALT. -/
theorem witness_HostControl_3 (h : Clause.HostControl) : Answers (Instr.hostHalt Via.mgt 3) hostControl9 Runs := by
  refine runs ((h hostControl9 ?_ .mgt 3 ?_ ?_).2.2.1 (Or.inr ?_) ?_) <;> decide +kernel

def drainCompletes1 : Sys2Proof.Machine.State :=
  st [(SEQ_STATE_STATE 3, DRAINING)] 20 (onTile 3 (fun x =>
      { x with tone := vset x.tone 2 { Tone.reset with pulse := some ⟨90, [2 ^ 19, 0, 0, 0], none, none⟩ } }))

/-- States and operands that meet the hypotheses of DrainCompletes. -/
theorem witness_DrainCompletes (h : Clause.DrainCompletes) :
    Answers (Instr.drainComplete 3) drainCompletes1 Runs := by
  refine runs (h drainCompletes1 ?_ 3 ?_ ?_ ?_
      ?_ ?_ ?_) <;> decide +kernel

def engineSlots1 : Sys2Proof.Machine.State :=
  st [(CLASP_QUEUE_DEPTH 3 7, 16)] 50 (onTile 3 (inWord (word (1 * 2 ^ 162 + 127 * 2 ^ 166 + 7 * 2 ^ 173 + 777 * 2 ^
      4) [.xya, .seq, .safe])))

def engineSlots2 : Sys2Proof.Machine.State :=
  st [(CLASP_QUEUE_DEPTH 3 0, 16)] 50 (onTile 3 (inWord (word (2 * 2 ^ 162 + 0 * 2 ^ 166 + 0 * 2 ^ 173 + 777 * 2 ^ 4)
      [.xya, .seq, .safe])))

def engineSlots3 : Sys2Proof.Machine.State :=
  st [(CLASP_QUEUE_DEPTH 3 7, 16)] 50 (onTile 3 (inWord (word (3 * 2 ^ 162 + 3 * 2 ^ 166 + 7 * 2 ^ 173 + 777 * 2 ^ 4)
      [.xya, .seq, .safe])))

def engineSlots4 : Sys2Proof.Machine.State :=
  st [(CLASP_QUEUE_DEPTH 3 0, 16)] 50 (onTile 3 (inWord (word (4 * 2 ^ 162 + 0 * 2 ^ 166 + 0 * 2 ^ 173 + 777 * 2 ^ 4)
      [.xya, .seq, .safe])))

def engineSlots5 : Sys2Proof.Machine.State :=
  st [(CLASP_QUEUE_DEPTH 3 1, 16)] 50 (onTile 3 (inWord (word (7 * 2 ^ 162 + 0 * 2 ^ 166 + 1 * 2 ^ 173 + 777 * 2 ^ 4)
      [.xya, .seq, .safe])))

def engineSlots6 : Sys2Proof.Machine.State :=
  st [(CLASP_QUEUE_DEPTH 3 13, 16)] 50 (onTile 3 (inWord (word (8 * 2 ^ 162 + 7 * 2 ^ 166 + 5 * 2 ^ 173 + 777 * 2 ^ 4)
      [.xya, .seq, .safe])))

def engineSlots7 : Sys2Proof.Machine.State :=
  st [(CLASP_QUEUE_DEPTH 3 7, 16)] 50 (onTile 3 (inWord (word (1 * 2 ^ 148 + 127 * 2 ^ 152 + 7 * 2 ^ 159 + 777 * 2 ^
      4) [.xyb, .seq, .safe])))

def engineSlots8 : Sys2Proof.Machine.State :=
  st [(CLASP_QUEUE_DEPTH 3 13, 16)] 50 (onTile 3 (inWord (word (8 * 2 ^ 148 + 7 * 2 ^ 152 + 5 * 2 ^ 159 + 777 * 2 ^ 4)
      [.xyb, .seq, .safe])))

/-- States and operands that meet the hypotheses of EngineSlots. -/
theorem witness_EngineSlots (h : Clause.EngineSlots) :
    Answers (Instr.xyPlay 3 0) engineSlots1 Runs ∧
    Answers (Instr.xyStop 3 0) engineSlots2 Runs ∧
    Answers (Instr.xyZadd 3 0) engineSlots3 Runs ∧
    Answers (Instr.xyZset 3 0) engineSlots4 Runs ∧
    Answers (Instr.xyQuiet 3 0) engineSlots5 Runs ∧
    Answers (Instr.xyPmem 3 0) engineSlots6 Runs ∧
    Answers (Instr.xyPlay 3 1) engineSlots7 Runs ∧
    Answers (Instr.xyPmem 3 1) engineSlots8 Runs := by
  refine ⟨runs (h engineSlots1 ?_ 3 0 (word (1 * 2 ^ 162 + 127 * 2 ^ 166 + 7 * 2 ^ 173 + 777 * 2 ^ 4) [.xya,
      .seq, .safe]) [.seq, .safe] ?_ ?_ (unchained ?_) (.xyPlay 3 0) ?_),
   runs (h engineSlots2 ?_ 3 0 (word (2 * 2 ^ 162 + 0 * 2 ^ 166 + 0 * 2 ^ 173 + 777 * 2 ^ 4) [.xya,
       .seq, .safe]) [.seq, .safe] ?_ ?_ (unchained ?_) (.xyStop 3 0) ?_),
   runs (h engineSlots3 ?_ 3 0 (word (3 * 2 ^ 162 + 3 * 2 ^ 166 + 7 * 2 ^ 173 + 777 * 2 ^ 4) [.xya,
       .seq, .safe]) [.seq, .safe] ?_ ?_ (unchained ?_) (.xyZadd 3 0) ?_),
   runs (h engineSlots4 ?_ 3 0 (word (4 * 2 ^ 162 + 0 * 2 ^ 166 + 0 * 2 ^ 173 + 777 * 2 ^ 4) [.xya,
       .seq, .safe]) [.seq, .safe] ?_ ?_ (unchained ?_) (.xyZset 3 0) ?_),
   runs (h engineSlots5 ?_ 3 0 (word (7 * 2 ^ 162 + 0 * 2 ^ 166 + 1 * 2 ^ 173 + 777 * 2 ^ 4) [.xya,
       .seq, .safe]) [.seq, .safe] ?_ ?_ (unchained ?_) (.xyQuiet 3 0) ?_),
   runs (h engineSlots6 ?_ 3 0 (word (8 * 2 ^ 162 + 7 * 2 ^ 166 + 5 * 2 ^ 173 + 777 * 2 ^ 4) [.xya,
       .seq, .safe]) [.seq, .safe] ?_ ?_ (unchained ?_) (.xyPmem 3 0) ?_),
   runs (h engineSlots7 ?_ 3 1 (word (1 * 2 ^ 148 + 127 * 2 ^ 152 + 7 * 2 ^ 159 + 777 * 2 ^ 4) [.xyb,
       .seq, .safe]) [.seq, .safe] ?_ ?_ (unchained ?_) (.xyPlay 3 1) ?_),
   runs (h engineSlots8 ?_ 3 1 (word (8 * 2 ^ 148 + 7 * 2 ^ 152 + 5 * 2 ^ 159 + 777 * 2 ^ 4) [.xyb,
       .seq, .safe]) [.seq, .safe] ?_ ?_ (unchained ?_) (.xyPmem 3 1) ?_)⟩ <;> decide +kernel

/-- A state in which pointer 2 of tile 3 names the bytes of an entry's body in data memory. -/
def entryBodies1 : Sys2Proof.Machine.State :=
  st [(DSP_AGU_P 3 2, 0x1FFF8)] 100 id [(tileBase 3 + 0x80000 + 0x1FFF0, [0x0C#8, 2#8, 3#8])]

/-- Words of a PARAM pair to one clasp, of two PMEM slots, and of a staged quad. -/
def pairWord : Nat := 3 * 2 ^ 162 + 3 * 2 ^ 166 + 2 * 2 ^ 173 + 4 * 2 ^ 148 + 1 * 2 ^ 152 + 2 * 2 ^ 159 + 1048575 * 2 ^ 4
def pmemWord : Nat := 8 * 2 ^ 162 + (4 + 2) * 2 ^ 166 + 5 * 2 ^ 173 + 8 * 2 ^ 148 + (8 + 2) * 2 ^ 152 + 5 * 2 ^ 159 +
  8 * 2 ^ 134 + 2 * 2 ^ 138 + 6 * 2 ^ 145 + 4 * 2 ^ 39 + 31 * 2 ^ 34
def quadWord : Nat := 1 * 2 ^ 162 + 127 * 2 ^ 166 + 7 * 2 ^ 173 + 2 * 2 ^ 148 + 7 * 2 ^ 159 + 3 * 2 ^ 120 + 15 * 2 ^ 122 +
  (15 * 2 ^ 116 + 4 * 2 ^ 112 + 2 * 2 ^ 108) + 786432 * 2 ^ 4

/-- Words that meet the hypotheses of EntryBodies. -/
theorem witness_EntryBodies (h : Clause.EntryBodies) :
    (xyEntry entryBodies1.view 3 pairWord 0 100 7).chain = true ∧
    (xyEntry entryBodies1.view 3 pairWord 0 100 7).body / 256 = 1048575 * 2 ^ 12 ∧
    (xyEntry entryBodies1.view 3 pairWord 1 100 7).body / 256 = 1048575 * 2 ^ 12 ∧
    FromMemory entryBodies1 3 2 (xyEntry entryBodies1.view 3 pmemWord 0 100 7) ∧
    (xyEntry entryBodies1.view 3 pmemWord 0 100 7).clasp = 13 ∧
    (xyEntry entryBodies1.view 3 pmemWord 1 100 7).clasp = 29 ∧
    FromMemory entryBodies1 3 2 (flxEntry entryBodies1.view 3 pmemWord 100 7) ∧
    Marked quadWord true 2 (xyEntry entryBodies1.view 3 quadWord 0 100 7) ∧
    Marked quadWord true 3 (xyEntry entryBodies1.view 3 quadWord 1 100 7) ∧
    (xyEntry entryBodies1.view 3 quadWord 0 100 7).body = 127 ∧
    (rdoEntry quadWord 7 100 7).clasp = 31 ∧ (capEntry pmemWord 100 7).clasp = 32 := by
  refine ⟨(((h entryBodies1 3 pairWord 100 7).1 0).2.2.2.2.2.2.1 ?_ ?_ ?_ ?_).mpr ?_,
    (((h entryBodies1 3 pairWord 100 7).1 0).2.2.2.2.2.2.2.2.2.2.2.1 ?_).2.2,
    (((h entryBodies1 3 pairWord 100 7).1 1).2.2.2.2.2.2.2.2.2.2.2.2.1 ?_).2.2,
    (((h entryBodies1 3 pmemWord 100 7).1 0).2.2.2.2.2.2.2.2.2.2.2.2.2.2 ?_).1,
    (((h entryBodies1 3 pmemWord 100 7).1 0).2.2.2.2.2.2.2.2.2.2.2.2.2.2 ?_).2.2.1 ?_,
    (((h entryBodies1 3 pmemWord 100 7).1 1).2.2.2.2.2.2.2.2.2.2.2.2.2.2 ?_).2.2.2 ?_,
    ((h entryBodies1 3 pmemWord 100 7).2.1).2.2.2.2.2.2.2.2.2.2.2 ?_,
    ((h entryBodies1 3 quadWord 100 7).1 0).2.2.2.2.1,
    ((h entryBodies1 3 quadWord 100 7).1 1).2.2.2.2.1,
    (((h entryBodies1 3 quadWord 100 7).1 0).2.2.2.2.2.2.2.2.2.1 ?_).2,
    (((h entryBodies1 3 quadWord 100 7).2.2.1 7).2.2.2.2.2.2.2.2 ?_).2.1,
    ((h entryBodies1 3 pmemWord 100 7).2.2.2).2.2.2.2.2.2.2.1⟩ <;> decide +kernel

def otherSlots1 : Sys2Proof.Machine.State :=
  st [(CLASP_QUEUE_DEPTH 3 23, 16)] 50 (onTile 3 (inWord (word (1 * 2 ^ 134 + 127 * 2 ^ 138 + 7 * 2 ^ 145 + 65535 * 2
      ^ 4) [.flx, .seq])))

def otherSlots2 : Sys2Proof.Machine.State :=
  st [(CLASP_QUEUE_DEPTH 3 16, 16)] 50 (onTile 3 (inWord (word (2 * 2 ^ 134 + 0 * 2 ^ 138 + 0 * 2 ^ 145 + 65535 * 2 ^
      4) [.flx, .seq])))

def otherSlots3 : Sys2Proof.Machine.State :=
  st [(CLASP_QUEUE_DEPTH 3 17, 16)] 50 (onTile 3 (inWord (word (5 * 2 ^ 134 + 0 * 2 ^ 138 + 1 * 2 ^ 145 + 65535 * 2 ^
      4) [.flx, .seq])))

def otherSlots4 : Sys2Proof.Machine.State :=
  st [(CLASP_QUEUE_DEPTH 3 23, 16)] 50 (onTile 3 (inWord (word (6 * 2 ^ 134 + 0 * 2 ^ 138 + 7 * 2 ^ 145 + 65535 * 2 ^
      4) [.flx, .seq])))

def otherSlots5 : Sys2Proof.Machine.State :=
  st [(CLASP_QUEUE_DEPTH 3 22, 16)] 50 (onTile 3 (inWord (word (8 * 2 ^ 134 + 3 * 2 ^ 138 + 6 * 2 ^ 145 + 65535 * 2 ^
      4) [.flx, .seq])))

def otherSlots6 : Sys2Proof.Machine.State :=
  st [(CLASP_QUEUE_DEPTH 3 15, 16)] 50 (onTile 3 (inWord (word (1 * 2 ^ 120 + 15 * 2 ^ 122 + 128 * 2 ^ 126 + 786432 *
      2 ^ 4) [(.rdo 7), .seq])))

def otherSlots7 : Sys2Proof.Machine.State :=
  st [(CLASP_QUEUE_DEPTH 3 15, 16)] 50 (onTile 3 (inWord (word (2 * 2 ^ 120 + 128 * 2 ^ 126) [(.rdo 7), .seq])))

def otherSlots8 : Sys2Proof.Machine.State :=
  st [(CLASP_QUEUE_DEPTH 3 31, 16)] 50 (onTile 3 (inWord (word (3 * 2 ^ 120 + 15 * 2 ^ 122 + 128 * 2 ^ 126 + 786432 *
      2 ^ 4) [(.rdo 7), .seq])))

def otherSlots9 : Sys2Proof.Machine.State :=
  st [(CLASP_QUEUE_DEPTH 3 8, 16), (CLASP_QUEUE_DEPTH 3 15, 1)] 50 (onTile 3 (inWord (word (2 ^ 120 + 15 * 2 ^ 122 +
      129 * 2 ^ 126) [(.rdo 0), (.rdo 7), .seq])))

def otherSlots10 : Sys2Proof.Machine.State :=
  st [(CLASP_QUEUE_DEPTH 3 32, 16)] 50 (onTile 3 (inWord (word (1 * 2 ^ 39 + 31 * 2 ^ 34) [.cap, .seq])))

def otherSlots11 : Sys2Proof.Machine.State :=
  st [(CLASP_QUEUE_DEPTH 3 32, 16)] 50 (onTile 3 (inWord (word (2 * 2 ^ 39 + 31 * 2 ^ 34) [.cap, .seq])))

def otherSlots12 : Sys2Proof.Machine.State :=
  st [(CLASP_QUEUE_DEPTH 3 32, 16)] 50 (onTile 3 (inWord (word (3 * 2 ^ 39 + 31 * 2 ^ 34) [.cap, .seq])))

def otherSlots13 : Sys2Proof.Machine.State :=
  st [(CLASP_QUEUE_DEPTH 3 32, 16)] 50 (onTile 3 (inWord (word (4 * 2 ^ 39 + 31 * 2 ^ 34) [.cap, .seq])))

/-- The sequencer's chain stands open at clasp 2 when it issues a PLAY to clasp 17. -/
def chainsBreak1 : Sys2Proof.Machine.State :=
  st [(CLASP_QUEUE_DEPTH 3 17, 16)] 50 (onTile 3 (fun x => { inWord (word (1 * 2 ^ 134 + 5 * 2 ^ 138 + 1 * 2 ^ 145) [.flx, .seq]) x
    with
      clasps := vset x.clasps 2 ⟨[], some ⟨true, [hent 2 99 0 KPARAM 5], .seq⟩, []⟩, issued := [(.seq, 2)] }))

/-- States and operands that meet the hypotheses of ChainsBreak. -/
theorem witness_ChainsBreak (h : Clause.ChainsBreak) : Answers (Instr.flxPlay 3) chainsBreak1 Runs := by
  refine runs (h chainsBreak1 ?_ 3 (word (1 * 2 ^ 134 + 5 * 2 ^ 138 + 1 * 2 ^ 145) [.flx, .seq]) [.seq] 2
    ⟨true, [hent 2 99 0 KPARAM 5], .seq⟩ ?_ ?_ ?_ ?_ ?_ ?_ ?_ ?_ ?_ ?_) <;> decide +kernel

/-- States and operands that meet the hypotheses of OtherSlots. -/
theorem witness_OtherSlots_1 (h : Clause.OtherSlots) :
    Answers (Instr.flxPlay 3) otherSlots1 Runs ∧
    Answers (Instr.flxStop 3) otherSlots2 Runs ∧
    Answers (Instr.flxDcadd 3) otherSlots3 Runs ∧
    Answers (Instr.flxDcset 3) otherSlots4 Runs ∧
    Answers (Instr.flxPmem 3) otherSlots5 Runs ∧
    Answers (Instr.rdoProbe 3) otherSlots6 Runs ∧
    Answers (Instr.rdoPstop 3) otherSlots7 Runs ∧
    Answers (Instr.rdoWindow 3) otherSlots8 Runs := by
  refine ⟨runs ((h otherSlots1 ?_ 3 (word (1 * 2 ^ 134 + 127 * 2 ^ 138 + 7 * 2 ^ 145 + 65535 * 2 ^ 4) [.flx,
      .seq]) [.seq] ?_ (unchained ?_)).1 ?_ (.flxPlay 3) ?_),
   runs ((h otherSlots2 ?_ 3 (word (2 * 2 ^ 134 + 0 * 2 ^ 138 + 0 * 2 ^ 145 + 65535 * 2 ^ 4) [.flx,
       .seq]) [.seq] ?_ (unchained ?_)).1 ?_ (.flxStop 3) ?_),
   runs ((h otherSlots3 ?_ 3 (word (5 * 2 ^ 134 + 0 * 2 ^ 138 + 1 * 2 ^ 145 + 65535 * 2 ^ 4) [.flx,
       .seq]) [.seq] ?_ (unchained ?_)).1 ?_ (.flxDcadd 3) ?_),
   runs ((h otherSlots4 ?_ 3 (word (6 * 2 ^ 134 + 0 * 2 ^ 138 + 7 * 2 ^ 145 + 65535 * 2 ^ 4) [.flx,
       .seq]) [.seq] ?_ (unchained ?_)).1 ?_ (.flxDcset 3) ?_),
   runs ((h otherSlots5 ?_ 3 (word (8 * 2 ^ 134 + 3 * 2 ^ 138 + 6 * 2 ^ 145 + 65535 * 2 ^ 4) [.flx,
       .seq]) [.seq] ?_ (unchained ?_)).1 ?_ (.flxPmem 3) ?_),
   runs ((h otherSlots6 ?_ 3 (word (1 * 2 ^ 120 + 15 * 2 ^ 122 + 128 * 2 ^ 126 + 786432 * 2 ^ 4)
       [(.rdo 7), .seq]) [.seq] ?_ (unchained ?_)).2.1 7 [] ?_ ?_ ?_ ?_ ?_
       (.rdoProbe 3) ?_),
   runs ((h otherSlots7 ?_ 3 (word (2 * 2 ^ 120 + 128 * 2 ^ 126) [(.rdo 7), .seq]) [.seq]
       ?_ (unchained ?_)).2.1 7 [] ?_ ?_ ?_ ?_ ?_
       (.rdoPstop 3) ?_),
   runs ((h otherSlots8 ?_ 3 (word (3 * 2 ^ 120 + 15 * 2 ^ 122 + 128 * 2 ^ 126 + 786432 * 2 ^ 4)
       [(.rdo 7), .seq]) [.seq] ?_ (unchained ?_)).2.1 7 [] ?_ ?_ ?_ ?_ ?_
       (.rdoWindow 3) ?_)⟩ <;> decide +kernel

/-- States and operands that meet the hypotheses of OtherSlots. -/
theorem witness_OtherSlots_2 (h : Clause.OtherSlots) :
    Answers (Instr.rdoProbe 3) otherSlots9 Runs ∧
    Answers (Instr.capArm 3) otherSlots10 Runs ∧
    Answers (Instr.capFire 3) otherSlots11 Runs ∧
    Answers (Instr.capDisarm 3) otherSlots12 Runs ∧
    Answers (Instr.capSnap 3) otherSlots13 Runs := by
  refine ⟨runs ((h otherSlots9 ?_ 3 (word (2 ^ 120 + 15 * 2 ^ 122 + 129 * 2 ^ 126) [(.rdo 0), (.rdo 7),
      .seq]) [.seq] ?_ (unchained ?_)).2.1 0 [7] ?_ ?_ ?_ ?_ ?_ (.rdoProbe 3) ?_),
   runs ((h otherSlots10 ?_ 3 (word (1 * 2 ^ 39 + 31 * 2 ^ 34) [.cap, .seq]) [.seq]
       ?_ (unchained ?_)).2.2 ?_ (.capArm 3) ?_),
   runs ((h otherSlots11 ?_ 3 (word (2 * 2 ^ 39 + 31 * 2 ^ 34) [.cap, .seq]) [.seq]
       ?_ (unchained ?_)).2.2 ?_ (.capFire 3) ?_),
   runs ((h otherSlots12 ?_ 3 (word (3 * 2 ^ 39 + 31 * 2 ^ 34) [.cap, .seq]) [.seq]
       ?_ (unchained ?_)).2.2 ?_ (.capDisarm 3) ?_),
   runs ((h otherSlots13 ?_ 3 (word (4 * 2 ^ 39 + 31 * 2 ^ 34) [.cap, .seq]) [.seq]
       ?_ (unchained ?_)).2.2 ?_ (.capSnap 3) ?_)⟩ <;> decide +kernel

def decisionSteps1 : Sys2Proof.Machine.State :=
  st [] 88 (onTile 3 (inWord (word (15 * 2 ^ 116 + 1 * 2 ^ 112 + 15 * 2 ^ 108) [.dec, .seq])))

def decisionSteps2 : Sys2Proof.Machine.State :=
  st [] 89 (onTile 3 (inWord (word (15 * 2 ^ 116 + 1 * 2 ^ 112 + 1 * 2 ^ 108) [.dec, .seq])))

def decisionSteps3 : Sys2Proof.Machine.State :=
  st [] 100 (onTile 3 (inWord (word (15 * 2 ^ 116 + 2 * 2 ^ 112 + 0 * 2 ^ 108) [.dec, .seq])))

def decisionSteps4 : Sys2Proof.Machine.State :=
  st [] 50 (onTile 3 (inWord (word (15 * 2 ^ 116 + 3 * 2 ^ 112) [.stage, .seq])))

def decisionSteps5 : Sys2Proof.Machine.State :=
  st [] 50 (onTile 3 (inWord (word (15 * 2 ^ 116 + 4 * 2 ^ 112) [.stage, .seq])))

/-- States and operands that meet the hypotheses of DecisionSteps. -/
theorem witness_DecisionSteps (h : Clause.DecisionSteps) :
    Answers (Instr.decArm 3) decisionSteps1 Runs ∧
    Answers (Instr.decArm 3) decisionSteps2 Runs ∧
    Answers (Instr.decArmn 3) decisionSteps3 Runs ∧
    Answers (Instr.decStage2 3) decisionSteps4 Runs ∧
    Answers (Instr.decStage4 3) decisionSteps5 Runs := by
  refine ⟨runs ((h decisionSteps1 ?_ 3 (word (15 * 2 ^ 116 + 1 * 2 ^ 112 + 15 * 2 ^ 108) [.dec, .seq])
      [.seq] ?_).1 ?_ (.decArm 3) ?_),
   runs ((h decisionSteps2 ?_ 3 (word (15 * 2 ^ 116 + 1 * 2 ^ 112 + 1 * 2 ^ 108) [.dec, .seq]) [.seq]
       ?_).1 ?_ (.decArm 3) ?_),
   runs ((h decisionSteps3 ?_ 3 (word (15 * 2 ^ 116 + 2 * 2 ^ 112 + 0 * 2 ^ 108) [.dec, .seq]) [.seq]
       ?_).1 ?_ (.decArmn 3) ?_),
   runs ((h decisionSteps4 ?_ 3 (word (15 * 2 ^ 116 + 3 * 2 ^ 112) [.stage, .seq]) [.seq]
       ?_).2 ?_ (.decStage2 3) 3 ?_ ?_),
   runs ((h decisionSteps5 ?_ 3 (word (15 * 2 ^ 116 + 4 * 2 ^ 112) [.stage, .seq]) [.seq]
       ?_).2 ?_ (.decStage4 3) 4 ?_ ?_)⟩ <;> decide +kernel

def loopAndEventSteps1 : Sys2Proof.Machine.State :=
  st [(SEQ_LC 3 3, 0)] 50 (onTile 3 (inWord (word (1 * 2 ^ 30 + 3 * 2 ^ 32 + 63 * 2 ^ 24 + 1048575 * 2 ^ 4) [.loop,
      .seq])))

def loopAndEventSteps2 : Sys2Proof.Machine.State :=
  st [(SEQ_LC 3 0, 5)] 50 (onTile 3 (inWord (word (2 * 2 ^ 30 + 0 * 2 ^ 32 + 0 * 2 ^ 24 + 1048575 * 2 ^ 4) [.loop,
      .seq])))

def loopAndEventSteps3 : Sys2Proof.Machine.State :=
  st [(SEQ_LC 3 1, 0)] 50 (onTile 3 (inWord (word (3 * 2 ^ 30 + 1 * 2 ^ 32 + 0 * 2 ^ 24 + 1048575 * 2 ^ 4) [.loop,
      .seq])))

def loopAndEventSteps4 : Sys2Proof.Machine.State :=
  st [(SEQ_LC 3 2, 1048575)] 50 (onTile 3 (inWord (word (3 * 2 ^ 30 + 2 * 2 ^ 32 + 0 * 2 ^ 24 + 1048575 * 2 ^ 4)
      [.loop, .seq])))

def loopAndEventSteps5 : Sys2Proof.Machine.State :=
  st [(EVPORT_PEND_GEN_SET 3 1 7, 1), (EVPORT_PEND_GEN_GEN 3 1 7, 6), (EVPORT_OVR 3, 0xFFFF)] 50 (onTile 3 (inWord
      (word (1 * 2 ^ 66 + 15 * 2 ^ 60 + 1 * 2 ^ 58) [.evt, .seq])))

def loopAndEventSteps6 : Sys2Proof.Machine.State :=
  st [(EVPORT_GEN_CUR_VALID 3, 1)] 50 (onTile 3 (inWord (word (1 * 2 ^ 66 + 0 * 2 ^ 60 + 0 * 2 ^ 58) [.evt, .seq])))

def loopAndEventSteps7 : Sys2Proof.Machine.State :=
  st [] 50 (onTile 3 (inWord (word (2 * 2 ^ 66 + 13 * 2 ^ 60) [.evt, .seq])))

def loopAndEventSteps8 : Sys2Proof.Machine.State :=
  st [(EVPORT_GEN_CUR_VALID 3, 1), (EVPORT_GEN_CUR 3, 5)] 50 (onTile 3 (inWord (word (2 * 2 ^ 66 + 13 * 2 ^ 60) [.evt,
      .seq])))

def loopAndEventSteps9 : Sys2Proof.Machine.State :=
  st [(EVPORT_GEN_CUR_VALID 3, 1), (EVPORT_GEN_CUR 3, 6), (EVPORT_LOOP_COUNT 3, 0xFFFFFFFF)] 50 (onTile 3 (inWord
      (word (2 * 2 ^ 66 + 13 * 2 ^ 60) [.evt, .seq])))

/-- States and operands that meet the hypotheses of LoopAndEventSteps. -/
theorem witness_LoopAndEventSteps_1 (h : Clause.LoopAndEventSteps) :
    Answers (Instr.loopLoad 3) loopAndEventSteps1 Runs ∧
    Answers (Instr.loopLoadi 3) loopAndEventSteps2 Runs ∧
    Answers (Instr.loopDec 3) loopAndEventSteps3 Runs ∧
    Answers (Instr.loopDec 3) loopAndEventSteps4 Runs ∧
    Answers (Instr.evtTake 3) loopAndEventSteps5 Runs ∧
    Answers (Instr.evtTake 3) loopAndEventSteps6 Runs ∧
    Answers (Instr.evtFire 3) loopAndEventSteps7 Runs ∧
    Answers (Instr.evtFire 3) loopAndEventSteps8 Runs := by
  refine ⟨runs ((h loopAndEventSteps1 ?_ 3 (word (1 * 2 ^ 30 + 3 * 2 ^ 32 + 63 * 2 ^ 24 + 1048575 * 2 ^ 4)
      [.loop, .seq]) [.seq] ?_).1 ?_ (.loopLoad 3) 63 ?_),
   runs ((h loopAndEventSteps2 ?_ 3 (word (2 * 2 ^ 30 + 0 * 2 ^ 32 + 0 * 2 ^ 24 + 1048575 * 2 ^ 4)
       [.loop, .seq]) [.seq] ?_).1 ?_ (.loopLoadi 3) 1048575 ?_),
   runs ((h loopAndEventSteps3 ?_ 3 (word (3 * 2 ^ 30 + 1 * 2 ^ 32 + 0 * 2 ^ 24 + 1048575 * 2 ^ 4)
       [.loop, .seq]) [.seq] ?_).1 ?_ (.loopDec 3) 0 ?_),
   runs ((h loopAndEventSteps4 ?_ 3 (word (3 * 2 ^ 30 + 2 * 2 ^ 32 + 0 * 2 ^ 24 + 1048575 * 2 ^ 4)
       [.loop, .seq]) [.seq] ?_).1 ?_ (.loopDec 3) 1048574 ?_),
   runs ((h loopAndEventSteps5 ?_ 3 (word (1 * 2 ^ 66 + 15 * 2 ^ 60 + 1 * 2 ^ 58) [.evt, .seq])
       [.seq] ?_).2.2.1 ?_ ?_ ?_),
   runs ((h loopAndEventSteps6 ?_ 3 (word (1 * 2 ^ 66 + 0 * 2 ^ 60 + 0 * 2 ^ 58) [.evt, .seq]) [.seq]
       ?_).2.2.1 ?_ ?_ ?_),
   runs (((h loopAndEventSteps7 ?_ 3 (word (2 * 2 ^ 66 + 13 * 2 ^ 60) [.evt, .seq]) [.seq]
       ?_).2.2.2 ?_ ?_).1 ?_),
   runs (((h loopAndEventSteps8 ?_ 3 (word (2 * 2 ^ 66 + 13 * 2 ^ 60) [.evt, .seq]) [.seq]
       ?_).2.2.2 ?_ ?_).2.1 ?_
       ?_)⟩ <;> decide +kernel

/-- States and operands that meet the hypotheses of LoopAndEventSteps. -/
theorem witness_LoopAndEventSteps_2 (h : Clause.LoopAndEventSteps) :
    Answers (Instr.evtFire 3) loopAndEventSteps9 Runs := by
  refine runs (((h loopAndEventSteps9 ?_ 3 (word (2 * 2 ^ 66 + 13 * 2 ^ 60) [.evt, .seq]) [.seq]
      ?_).2.2.2 ?_ ?_).2.2 ?_ ?_) <;> decide +kernel

def queueSteps1 : Sys2Proof.Machine.State :=
  st [(QT_CFG_EN 3 200, 1), (QT_CFG_SIZE_LOG2 3 200, 6), (QT_SEQ_A 3 200, 0xFFFFFFFF), (DSP_AGU_P 3 3, 0x1FFFF)] 500
      (onTile 3 (inWord (word (1 * 2 ^ 55 + 200 * 2 ^ 46 + 3 * 2 ^ 42 + 1048575 * 2 ^ 4) [.que, .seq]))) [(tileBase 3
      + 0x80000 + 0x1FFE0, [1#8, 2#8, 3#8])]

def queueSteps2 : Sys2Proof.Machine.State :=
  st [(QT_CFG_EN 3 200, 1), (QT_CFG_SIZE_LOG2 3 200, 6), (QT_SEQ_A 3 200, 0xFFFFFFFF)] 500 (onTile 3 (inWord (word (2
      * 2 ^ 55 + 200 * 2 ^ 46 + 0 * 2 ^ 42 + 1048575 * 2 ^ 4) [.que, .seq]))) [(tileBase 3 + 0x80000 + 0x1FFE0, [1#8,
      2#8, 3#8])]

def queueSteps3 : Sys2Proof.Machine.State :=
  st [(QT_CFG_EN 3 127, 1), (QT_CFG_SIZE_LOG2 3 127, 6), (QTAIL 3 127, 0xFFFFFFFF), (QT_SEQ_A 3 127, 0), (DSP_AGU_P 3
      2, 0x40)] 500 (onTile 3 (inWord (word (3 * 2 ^ 55 + 127 * 2 ^ 46 + 2 * 2 ^ 42) [.que, .seq]))) [(tileBase 3 +
      0x1C0000 + 32 * 63, entryBytes 2 0 0xFFFFFFFF [9#8, 8#8, 7#8])]

/-- States and operands that meet the hypotheses of QueueSteps. -/
theorem witness_QueueSteps (h : Clause.QueueSteps) :
    Answers (Instr.quePush 3) queueSteps1 Runs ∧
    Answers (Instr.queNote 3) queueSteps2 Runs ∧
    Answers (Instr.quePop 3) queueSteps3 Runs := by
  refine ⟨runs ((h queueSteps1 ?_ 3 (word (1 * 2 ^ 55 + 200 * 2 ^ 46 + 3 * 2 ^ 42 + 1048575 * 2 ^ 4) [.que,
      .seq]) [.seq] ?_ ?_).1 ?_ (.quePush 3) 1 2 (if 1 = 1 then
      queueSteps1.view.rdBytes (quePtr queueSteps1.view 3 3) 24 else leBytes 8 100 ++ leBytes 1 3 ++ leBytes 1 0 ++
      leBytes 2 7 ++ leBytes 4 1048575 ++ leBytes 8 500) ?_ ?_),
   runs ((h queueSteps2 ?_ 3 (word (2 * 2 ^ 55 + 200 * 2 ^ 46 + 0 * 2 ^ 42 + 1048575 * 2 ^ 4) [.que,
       .seq]) [.seq] ?_ ?_).1 ?_ (.queNote 3) 2 3 (if 2 = 1 then
       queueSteps2.view.rdBytes (quePtr queueSteps2.view 3 0) 24 else leBytes 8 100 ++ leBytes 1 3 ++ leBytes 1 0 ++
       leBytes 2 7 ++ leBytes 4 1048575 ++ leBytes 8 500) ?_ ?_),
   runs ((h queueSteps3 ?_ 3 (word (3 * 2 ^ 55 + 127 * 2 ^ 46 + 2 * 2 ^ 42) [.que, .seq]) [.seq]
       ?_ ?_).2 ?_ ?_ ?_ ?_ ?_ ?_ ?_ ?_)⟩ <;> decide +kernel

/-- States and operands that meet the hypotheses of Accumulation. -/
theorem witness_Accumulation (h : Clause.Accumulation) :
    Answers (.dspMac 3) (dspState (8 * 2 ^ 102 + 0 * 2 ^ 101 + 2 ^ 93 + 13 * 2 ^ 89 + 0 * 2 ^ 87)) Runs ∧
    Answers (.dspMsu 3) (dspState (9 * 2 ^ 102 + 1 * 2 ^ 101 + 2 ^ 93 + 13 * 2 ^ 89 + 3 * 2 ^ 87)) Runs ∧
    Answers (.dspPmac 3) (dspState (10 * 2 ^ 102 + 0 * 2 ^ 101 + 2 ^ 93 + 13 * 2 ^ 89 + 0 * 2 ^ 87)) Runs ∧
    Answers (.dspCmac 3) (dspState (11 * 2 ^ 102 + 1 * 2 ^ 101 + 2 ^ 93 + 13 * 2 ^ 89 + 3 * 2 ^ 87)) Runs ∧
    Answers (.dspCmacj 3) (dspState (12 * 2 ^ 102 + 0 * 2 ^ 101 + 2 ^ 93 + 13 * 2 ^ 89 + 0 * 2 ^ 87)) Runs ∧
    Answers (.dspAccum 3) (dspState (13 * 2 ^ 102 + 1 * 2 ^ 101 + 2 ^ 93 + 13 * 2 ^ 89 + 3 * 2 ^ 87)) Runs ∧
    Answers (.dspCaccum 3) (dspState (14 * 2 ^ 102 + 0 * 2 ^ 101 + 2 ^ 93 + 13 * 2 ^ 89 + 0 * 2 ^ 87)) Runs ∧
    Answers (.dspPacc 3) (dspState (15 * 2 ^ 102 + 1 * 2 ^ 101 + 2 ^ 93 + 13 * 2 ^ 89 + 3 * 2 ^ 87)) Runs := by
  refine ⟨runs (h (dspState (8 * 2 ^ 102 + 0 * 2 ^ 101 + 2 ^ 93 + 13 * 2 ^ 89 + 0 * 2 ^ 87)) ?_ 3 (word (8 *
      2 ^ 102 + 0 * 2 ^ 101 + 2 ^ 93 + 13 * 2 ^ 89 + 0 * 2 ^ 87) [.dspOp, .seq]) [.seq] _ _ _
    (List.Mem.head _) ?_),
   runs (h (dspState (9 * 2 ^ 102 + 1 * 2 ^ 101 + 2 ^ 93 + 13 * 2 ^ 89 + 3 * 2 ^ 87)) ?_ 3 (word (9 *
       2 ^ 102 + 1 * 2 ^ 101 + 2 ^ 93 + 13 * 2 ^ 89 + 3 * 2 ^ 87) [.dspOp, .seq]) [.seq] _ _ _
    (List.Mem.tail _ (List.Mem.head _)) ?_),
   runs (h (dspState (10 * 2 ^ 102 + 0 * 2 ^ 101 + 2 ^ 93 + 13 * 2 ^ 89 + 0 * 2 ^ 87)) ?_ 3 (word (10
       * 2 ^ 102 + 0 * 2 ^ 101 + 2 ^ 93 + 13 * 2 ^ 89 + 0 * 2 ^ 87) [.dspOp, .seq]) [.seq] _ _ _
    (List.Mem.tail _ (List.Mem.tail _ (List.Mem.head _))) ?_),
   runs (h (dspState (11 * 2 ^ 102 + 1 * 2 ^ 101 + 2 ^ 93 + 13 * 2 ^ 89 + 3 * 2 ^ 87)) ?_ 3 (word (11
       * 2 ^ 102 + 1 * 2 ^ 101 + 2 ^ 93 + 13 * 2 ^ 89 + 3 * 2 ^ 87) [.dspOp, .seq]) [.seq] _ _ _
    (List.Mem.tail _ (List.Mem.tail _ (List.Mem.tail _ (List.Mem.head _)))) ?_),
   runs (h (dspState (12 * 2 ^ 102 + 0 * 2 ^ 101 + 2 ^ 93 + 13 * 2 ^ 89 + 0 * 2 ^ 87)) ?_ 3 (word (12
       * 2 ^ 102 + 0 * 2 ^ 101 + 2 ^ 93 + 13 * 2 ^ 89 + 0 * 2 ^ 87) [.dspOp, .seq]) [.seq] _ _ _
    (List.Mem.tail _ (List.Mem.tail _ (List.Mem.tail _ (List.Mem.tail _ (List.Mem.head _))))) ?_),
   runs (h (dspState (13 * 2 ^ 102 + 1 * 2 ^ 101 + 2 ^ 93 + 13 * 2 ^ 89 + 3 * 2 ^ 87)) ?_ 3 (word (13
       * 2 ^ 102 + 1 * 2 ^ 101 + 2 ^ 93 + 13 * 2 ^ 89 + 3 * 2 ^ 87) [.dspOp, .seq]) [.seq] _ _ _
    (List.Mem.tail _ (List.Mem.tail _ (List.Mem.tail _ (List.Mem.tail _ (List.Mem.tail _ (List.Mem.head _))))))
        ?_),
   runs (h (dspState (14 * 2 ^ 102 + 0 * 2 ^ 101 + 2 ^ 93 + 13 * 2 ^ 89 + 0 * 2 ^ 87)) ?_ 3 (word (14
       * 2 ^ 102 + 0 * 2 ^ 101 + 2 ^ 93 + 13 * 2 ^ 89 + 0 * 2 ^ 87) [.dspOp, .seq]) [.seq] _ _ _
    (List.Mem.tail _ (List.Mem.tail _ (List.Mem.tail _ (List.Mem.tail _ (List.Mem.tail _ (List.Mem.tail _
        (List.Mem.head _))))))) ?_),
   runs (h (dspState (15 * 2 ^ 102 + 1 * 2 ^ 101 + 2 ^ 93 + 13 * 2 ^ 89 + 3 * 2 ^ 87)) ?_ 3 (word (15
       * 2 ^ 102 + 1 * 2 ^ 101 + 2 ^ 93 + 13 * 2 ^ 89 + 3 * 2 ^ 87) [.dspOp, .seq]) [.seq] _ _ _
    (List.Mem.tail _ (List.Mem.tail _ (List.Mem.tail _ (List.Mem.tail _ (List.Mem.tail _ (List.Mem.tail _
        (List.Mem.tail _ (List.Mem.head _)))))))) ?_)⟩ <;> decide +kernel

/-- States and operands that meet the hypotheses of LaneArithmetic. -/
theorem witness_LaneArithmetic (h : Clause.LaneArithmetic) :
    Answers (.dspAdd 3) (dspState (2 * 2 ^ 102 + 0 * 2 ^ 101 + 2 ^ 93 + 2 * 2 ^ 89)) Runs ∧
    Answers (.dspSub 3) (dspState (3 * 2 ^ 102 + 1 * 2 ^ 101 + 2 ^ 93 + 13 * 2 ^ 89)) Runs ∧
    Answers (.dspMul 3) (dspState (4 * 2 ^ 102 + 0 * 2 ^ 101 + 2 ^ 93 + 2 * 2 ^ 89)) Runs ∧
    Answers (.dspCmul 3) (dspState (5 * 2 ^ 102 + 1 * 2 ^ 101 + 2 ^ 93 + 13 * 2 ^ 89)) Runs ∧
    Answers (.dspCmulj 3) (dspState (6 * 2 ^ 102 + 0 * 2 ^ 101 + 2 ^ 93 + 2 * 2 ^ 89)) Runs ∧
    Answers (.dspMov 3) (dspState (2 ^ 102 + 2 ^ 93 + 7 * 2 ^ 89)) Runs := by
  refine ⟨runs ((h (dspState (2 * 2 ^ 102 + 0 * 2 ^ 101 + 2 ^ 93 + 2 * 2 ^ 89)) ?_ 3 (word (2 * 2 ^ 102 + 0
      * 2 ^ 101 + 2 ^ 93 + 2 * 2 ^ 89) [.dspOp, .seq]) [.seq]).2 _ _ _
    (List.Mem.head _) ?_),
   runs ((h (dspState (3 * 2 ^ 102 + 1 * 2 ^ 101 + 2 ^ 93 + 13 * 2 ^ 89)) ?_ 3 (word (3 * 2 ^ 102 + 1
       * 2 ^ 101 + 2 ^ 93 + 13 * 2 ^ 89) [.dspOp, .seq]) [.seq]).2 _ _ _
    (List.Mem.tail _ (List.Mem.head _)) ?_),
   runs ((h (dspState (4 * 2 ^ 102 + 0 * 2 ^ 101 + 2 ^ 93 + 2 * 2 ^ 89)) ?_ 3 (word (4 * 2 ^ 102 + 0
       * 2 ^ 101 + 2 ^ 93 + 2 * 2 ^ 89) [.dspOp, .seq]) [.seq]).2 _ _ _
    (List.Mem.tail _ (List.Mem.tail _ (List.Mem.head _))) ?_),
   runs ((h (dspState (5 * 2 ^ 102 + 1 * 2 ^ 101 + 2 ^ 93 + 13 * 2 ^ 89)) ?_ 3 (word (5 * 2 ^ 102 + 1
       * 2 ^ 101 + 2 ^ 93 + 13 * 2 ^ 89) [.dspOp, .seq]) [.seq]).2 _ _ _
    (List.Mem.tail _ (List.Mem.tail _ (List.Mem.tail _ (List.Mem.head _)))) ?_),
   runs ((h (dspState (6 * 2 ^ 102 + 0 * 2 ^ 101 + 2 ^ 93 + 2 * 2 ^ 89)) ?_ 3 (word (6 * 2 ^ 102 + 0
       * 2 ^ 101 + 2 ^ 93 + 2 * 2 ^ 89) [.dspOp, .seq]) [.seq]).2 _ _ _
    (List.Mem.tail _ (List.Mem.tail _ (List.Mem.tail _ (List.Mem.tail _ (List.Mem.head _))))) ?_),
   runs ((h (dspState (2 ^ 102 + 2 ^ 93 + 7 * 2 ^ 89)) ?_ 3 (word (2 ^ 102 + 2 ^ 93 + 7 * 2 ^ 89)
       [.dspOp, .seq]) [.seq]).1 ?_)⟩ <;> decide +kernel

def accumulatorOutputs1 : Sys2Proof.Machine.State :=
  st [(DSP_ACC 3 0, 0x7FFFFFFFFFFF), (DSP_ACC 3 1, 0x800000000000), (DSP_ACC 3 2, 5), (DSP_ACC 3 3, 0x7FFFFFFFFFFF),
      (DSP_ACC_HI_HOLD 3 3, 1)] 0 (onTile 3 (inWord (word (17 * 2 ^ 102 + 1 * 2 ^ 101 + 0 * 2 ^ 97 + 0 * 2 ^ 93 + 5 *
      2 ^ 89 + 1 * 2 ^ 87 + 0 * 2 ^ 84 + 0 * 2 ^ 4) [.dspOp, .seq])))

def accumulatorOutputs2 : Sys2Proof.Machine.State :=
  st [(DSP_ACC 3 0, 0x7FFFFFFFFFFF), (DSP_ACC 3 1, 0x800000000000), (DSP_ACC 3 2, 5), (DSP_ACC 3 3, 0x7FFFFFFFFFFF),
      (DSP_ACC_HI_HOLD 3 3, 1)] 0 (onTile 3 (inWord (word (18 * 2 ^ 102 + 1 * 2 ^ 101 + 0 * 2 ^ 97 + 0 * 2 ^ 93 + 5 *
      2 ^ 89 + 1 * 2 ^ 87 + 0 * 2 ^ 84 + 0 * 2 ^ 4) [.dspOp, .seq])))

def accumulatorOutputs3 : Sys2Proof.Machine.State :=
  st [(DSP_ACC 3 0, 0x7FFFFFFFFFFF), (DSP_ACC 3 1, 0x800000000000), (DSP_ACC 3 2, 5), (DSP_ACC 3 3, 0x7FFFFFFFFFFF),
      (DSP_ACC_HI_HOLD 3 3, 1)] 0 (onTile 3 (inWord (word (17 * 2 ^ 102 + 0 * 2 ^ 101 + 0 * 2 ^ 97 + 0 * 2 ^ 93 + 5 *
      2 ^ 89 + 0 * 2 ^ 87 + 0 * 2 ^ 84 + 47 * 2 ^ 4) [.dspOp, .seq])))

def accumulatorOutputs4 : Sys2Proof.Machine.State :=
  st [(DSP_ACC 3 0, 0x7FFFFFFFFFFF), (DSP_ACC 3 1, 0x800000000000), (DSP_ACC 3 2, 5), (DSP_ACC 3 3, 0x7FFFFFFFFFFF),
      (DSP_ACC_HI_HOLD 3 3, 1)] 0 (onTile 3 (inWord (word (18 * 2 ^ 102 + 0 * 2 ^ 101 + 0 * 2 ^ 97 + 0 * 2 ^ 93 + 5 *
      2 ^ 89 + 0 * 2 ^ 87 + 0 * 2 ^ 84 + 47 * 2 ^ 4) [.dspOp, .seq])))

def accumulatorOutputs5 : Sys2Proof.Machine.State :=
  st [(DSP_ACC 3 0, 0x7FFFFFFFFFFF), (DSP_ACC 3 1, 0x800000000000), (DSP_ACC 3 2, 5), (DSP_ACC 3 3, 0x7FFFFFFFFFFF),
      (DSP_ACC_HI_HOLD 3 3, 1)] 0 (onTile 3 (inWord (word (17 * 2 ^ 102 + 0 * 2 ^ 101 + 0 * 2 ^ 97 + 0 * 2 ^ 93 + 5 *
      2 ^ 89 + 3 * 2 ^ 87 + 0 * 2 ^ 84 + 15 * 2 ^ 4) [.dspOp, .seq])))

def accumulatorOutputs6 : Sys2Proof.Machine.State :=
  st [(DSP_ACC 3 0, 0x7FFFFFFFFFFF), (DSP_ACC 3 1, 0x800000000000), (DSP_ACC 3 2, 5), (DSP_ACC 3 3, 0x7FFFFFFFFFFF),
      (DSP_ACC_HI_HOLD 3 3, 1)] 0 (onTile 3 (inWord (word (18 * 2 ^ 102 + 0 * 2 ^ 101 + 0 * 2 ^ 97 + 0 * 2 ^ 93 + 5 *
      2 ^ 89 + 3 * 2 ^ 87 + 0 * 2 ^ 84 + 15 * 2 ^ 4) [.dspOp, .seq])))

/-- States and operands that meet the hypotheses of AccumulatorOutputs. -/
theorem witness_AccumulatorOutputs (h : Clause.AccumulatorOutputs) :
    Answers (Instr.dspAccout 3) accumulatorOutputs1 Runs ∧
    Answers (Instr.dspCaccout 3) accumulatorOutputs2 Runs ∧
    Answers (Instr.dspAccout 3) accumulatorOutputs3 Runs ∧
    Answers (Instr.dspCaccout 3) accumulatorOutputs4 Runs ∧
    Answers (Instr.dspAccout 3) accumulatorOutputs5 Runs ∧
    Answers (Instr.dspCaccout 3) accumulatorOutputs6 Runs := by
  refine ⟨runs ((h accumulatorOutputs1 ?_ 3 (word (17 * 2 ^ 102 + 1 * 2 ^ 101 + 0 * 2 ^ 97 + 0 * 2 ^ 93 + 5
      * 2 ^ 89 + 1 * 2 ^ 87 + 0 * 2 ^ 84 + 0 * 2 ^ 4) [.dspOp, .seq]) [.seq] ?_).1
      ?_),
   runs ((h accumulatorOutputs2 ?_ 3 (word (18 * 2 ^ 102 + 1 * 2 ^ 101 + 0 * 2 ^ 97 + 0 * 2 ^ 93 + 5
       * 2 ^ 89 + 1 * 2 ^ 87 + 0 * 2 ^ 84 + 0 * 2 ^ 4) [.dspOp, .seq]) [.seq] ?_).2
       ?_),
   runs ((h accumulatorOutputs3 ?_ 3 (word (17 * 2 ^ 102 + 0 * 2 ^ 101 + 0 * 2 ^ 97 + 0 * 2 ^ 93 + 5
       * 2 ^ 89 + 0 * 2 ^ 87 + 0 * 2 ^ 84 + 47 * 2 ^ 4) [.dspOp, .seq]) [.seq] ?_).1
       ?_),
   runs ((h accumulatorOutputs4 ?_ 3 (word (18 * 2 ^ 102 + 0 * 2 ^ 101 + 0 * 2 ^ 97 + 0 * 2 ^ 93 + 5
       * 2 ^ 89 + 0 * 2 ^ 87 + 0 * 2 ^ 84 + 47 * 2 ^ 4) [.dspOp, .seq]) [.seq] ?_).2
       ?_),
   runs ((h accumulatorOutputs5 ?_ 3 (word (17 * 2 ^ 102 + 0 * 2 ^ 101 + 0 * 2 ^ 97 + 0 * 2 ^ 93 + 5
       * 2 ^ 89 + 3 * 2 ^ 87 + 0 * 2 ^ 84 + 15 * 2 ^ 4) [.dspOp, .seq]) [.seq] ?_).1
       ?_),
   runs ((h accumulatorOutputs6 ?_ 3 (word (18 * 2 ^ 102 + 0 * 2 ^ 101 + 0 * 2 ^ 97 + 0 * 2 ^ 93 + 5
       * 2 ^ 89 + 3 * 2 ^ 87 + 0 * 2 ^ 84 + 15 * 2 ^ 4) [.dspOp, .seq]) [.seq] ?_).2
       ?_)⟩ <;> decide +kernel

def searchAndHistogram1 : Sys2Proof.Machine.State :=
  st [(DSP_V 3 0 0, 0x80007FFF), (DSP_V 3 0 1, 0x12348765), (DSP_V 3 1 0, 0x80004000), (DSP_V 3 1 1, 0x0FED2000),
      (DSP_ACC 3 0, 0x7FFFFFFFFFFF), (DSP_ACC 3 1, 0x800000000000), (DSP_ACC 3 2, 5), (DSP_ACC 3 3, 0x7FFFFFFFFFFF),
      (DSP_ACC_HI_HOLD 3 3, 1), (SEARCH_BASE 3 2, 7)] 0 (fun d => onTile 3 (fun x =>
      { x with seq := { x.seq with newSearch := true } }) (onTile 3 (inWord (word (24 * 2 ^ 102 + 0 * 2 ^ 101 + 0 * 2
      ^ 97 + 0 * 2 ^ 93 + 13 * 2 ^ 89 + 2 * 2 ^ 87 + 0 * 2 ^ 84) [.dspOp, .seq])) d))

def searchAndHistogram2 : Sys2Proof.Machine.State :=
  st [(DSP_V 3 0 0, 0x80007FFF), (DSP_V 3 0 1, 0x12348765), (DSP_V 3 1 0, 0x80004000), (DSP_V 3 1 1, 0x0FED2000),
      (DSP_ACC 3 0, 0x7FFFFFFFFFFF), (DSP_ACC 3 1, 0x800000000000), (DSP_ACC 3 2, 5), (DSP_ACC 3 3, 0x7FFFFFFFFFFF),
      (DSP_ACC_HI_HOLD 3 3, 1), (SEARCH_BASE 3 2, 7)] 0 (fun d => onTile 3 (fun x =>
      { x with seq := { x.seq with newSearch := true } }) (onTile 3 (inWord (word (25 * 2 ^ 102 + 0 * 2 ^ 101 + 0 * 2
      ^ 97 + 0 * 2 ^ 93 + 13 * 2 ^ 89 + 2 * 2 ^ 87 + 0 * 2 ^ 84) [.dspOp, .seq])) d))

def searchAndHistogram3 : Sys2Proof.Machine.State :=
  st [(DSP_V 3 0 0, 0x80007FFF), (DSP_V 3 0 1, 0x12348765), (DSP_V 3 1 0, 0x80004000), (DSP_V 3 1 1, 0x0FED2000),
      (DSP_ACC 3 0, 0x7FFFFFFFFFFF), (DSP_ACC 3 1, 0x800000000000), (DSP_ACC 3 2, 5), (DSP_ACC 3 3, 0x7FFFFFFFFFFF),
      (DSP_ACC_HI_HOLD 3 3, 1), (SEARCH_BASE 3 3, 7)] 0 (fun d => onTile 3 (fun x =>
      { x with seq := { x.seq with newSearch := true } }) (onTile 3 (inWord (word (24 * 2 ^ 102 + 0 * 2 ^ 101 + 14 * 2
      ^ 97 + 0 * 2 ^ 93 + 13 * 2 ^ 89 + 3 * 2 ^ 87 + 0 * 2 ^ 84) [.dspOp, .seq])) d))

def searchAndHistogram4 : Sys2Proof.Machine.State :=
  st [(DSP_V 3 0 0, 0x80007FFF), (DSP_V 3 0 1, 0x12348765), (DSP_V 3 1 0, 0x80004000), (DSP_V 3 1 1, 0x0FED2000),
      (DSP_ACC 3 0, 0x7FFFFFFFFFFF), (DSP_ACC 3 1, 0x800000000000), (DSP_ACC 3 2, 5), (DSP_ACC 3 3, 0x7FFFFFFFFFFF),
      (DSP_ACC_HI_HOLD 3 3, 1), (SEARCH_BASE 3 1, 7)] 0 (fun d => onTile 3 (fun x =>
      { x with seq := { x.seq with newSearch := true } }) (onTile 3 (inWord (word (25 * 2 ^ 102 + 0 * 2 ^ 101 + 14 * 2
      ^ 97 + 0 * 2 ^ 93 + 13 * 2 ^ 89 + 1 * 2 ^ 87 + 0 * 2 ^ 84) [.dspOp, .seq])) d))

def searchAndHistogram5 : Sys2Proof.Machine.State :=
  st [(DSP_V 3 0 0, 0x80007FFF), (DSP_V 3 0 1, 0x12348765), (DSP_V 3 1 0, 0x80004000), (DSP_V 3 1 1, 0x0FED2000),
      (DSP_ACC 3 0, 0x7FFFFFFFFFFF), (DSP_ACC 3 1, 0x800000000000), (DSP_ACC 3 2, 5), (DSP_ACC 3 3, 0x7FFFFFFFFFFF),
      (DSP_ACC_HI_HOLD 3 3, 1), (SEARCH_BASE 3 2, 0xFFFFF), (DSP_SIDX 3 2, 77)] 0 (onTile 3 (inWord (word (24 * 2 ^
      102 + 0 * 2 ^ 101 + 0 * 2 ^ 97 + 0 * 2 ^ 93 + 13 * 2 ^ 89 + 2 * 2 ^ 87 + 0 * 2 ^ 84) [.dspOp, .seq])))

def searchAndHistogram6 : Sys2Proof.Machine.State :=
  st [(DSP_V 3 0 0, 0x80007FFF), (DSP_V 3 0 1, 0x12348765), (DSP_V 3 1 0, 0x80004000), (DSP_V 3 1 1, 0x0FED2000),
      (DSP_AGU_B 3 3, 131068), (DSP_HIST_NBINS_M1 3, 1023), (DSP_HIST_HBASE 3, 0x8000), (DSP_HIST_HSHIFT 3, 8)] 0
      (onTile 3 (inWord (word (28 * 2 ^ 102 + 0 * 2 ^ 101 + 0 * 2 ^ 97 + 0 * 2 ^ 93 + 13 * 2 ^ 89 + 3 * 2 ^ 87 + 0 * 2
      ^ 84) [.dspOp, .seq]))) [(tileBase 3 + 0x80000 + 1016, [0xFF#8, 0xFF#8, 0xFF#8, 0xFF#8])]

def searchAndHistogram7 : Sys2Proof.Machine.State :=
  st [(DSP_V 3 0 0, 0x80007FFF), (DSP_V 3 0 1, 0x12348765), (DSP_V 3 1 0, 0x80004000), (DSP_V 3 1 1, 0x0FED2000),
      (DSP_AGU_B 3 3, 0), (DSP_HIST_NBINS_M1 3, 1023), (DSP_HIST_HBASE 3, 0x8000), (DSP_HIST_HSHIFT 3, 8)] 0 (onTile 3
      (inWord (word (28 * 2 ^ 102 + 1 * 2 ^ 101 + 0 * 2 ^ 97 + 0 * 2 ^ 93 + 13 * 2 ^ 89 + 3 * 2 ^ 87 + 0 * 2 ^ 84)
      [.dspOp, .seq]))) [(tileBase 3 + 0x80000 + 1020, [0xFF#8, 0xFF#8, 0xFF#8, 0xFF#8])]

/-- States and operands that meet the hypotheses of SearchAndHistogram. -/
theorem witness_SearchAndHistogram (h : Clause.SearchAndHistogram) :
    Answers (Instr.dspMaxi 3) searchAndHistogram1 Runs ∧
    Answers (Instr.dspMini 3) searchAndHistogram2 Runs ∧
    Answers (Instr.dspMaxi 3) searchAndHistogram3 Runs ∧
    Answers (Instr.dspMini 3) searchAndHistogram4 Runs ∧
    Answers (Instr.dspMaxi 3) searchAndHistogram5 Runs ∧
    Answers (Instr.dspHist 3) searchAndHistogram6 Runs ∧
    Answers (Instr.dspHist 3) searchAndHistogram7 Runs := by
  refine ⟨runs ((h searchAndHistogram1 ?_ 3 (word (24 * 2 ^ 102 + 0 * 2 ^ 101 + 0 * 2 ^ 97 + 0 * 2 ^ 93 + 13
      * 2 ^ 89 + 2 * 2 ^ 87 + 0 * 2 ^ 84) [.dspOp, .seq]) [.seq]).1 (.dspMaxi 3) 24 (fun e b : Int => decide (b < e))
      (by simp) ?_ 32767 7 ?_),
   runs ((h searchAndHistogram2 ?_ 3 (word (25 * 2 ^ 102 + 0 * 2 ^ 101 + 0 * 2 ^ 97 + 0 * 2 ^ 93 + 13
       * 2 ^ 89 + 2 * 2 ^ 87 + 0 * 2 ^ 84) [.dspOp, .seq]) [.seq]).1 (.dspMini 3) 25 (fun e b : Int => decide (e < b))
       (by simp) ?_ (-32768) 8 ?_),
   runs ((h searchAndHistogram3 ?_ 3 (word (24 * 2 ^ 102 + 0 * 2 ^ 101 + 14 * 2 ^ 97 + 0 * 2 ^ 93 +
       13 * 2 ^ 89 + 3 * 2 ^ 87 + 0 * 2 ^ 84) [.dspOp, .seq]) [.seq]).1 (.dspMaxi 3) 24 (fun e b : Int => decide (b <
       e)) (by simp) ?_ 140737488355327 7 ?_),
   runs ((h searchAndHistogram4 ?_ 3 (word (25 * 2 ^ 102 + 0 * 2 ^ 101 + 14 * 2 ^ 97 + 0 * 2 ^ 93 +
       13 * 2 ^ 89 + 1 * 2 ^ 87 + 0 * 2 ^ 84) [.dspOp, .seq]) [.seq]).1 (.dspMini 3) 25 (fun e b : Int => decide (e <
       b)) (by simp) ?_ (-140737488355328) 8 ?_),
   runs ((h searchAndHistogram5 ?_ 3 (word (24 * 2 ^ 102 + 0 * 2 ^ 101 + 0 * 2 ^ 97 + 0 * 2 ^ 93 + 13
       * 2 ^ 89 + 2 * 2 ^ 87 + 0 * 2 ^ 84) [.dspOp, .seq]) [.seq]).1 (.dspMaxi 3) 24 (fun e b : Int => decide (b < e))
       (by simp) ?_ 32767 1048575 ?_),
   runs ((h searchAndHistogram6 ?_ 3 (word (28 * 2 ^ 102 + 0 * 2 ^ 101 + 0 * 2 ^ 97 + 0 * 2 ^ 93 + 13
       * 2 ^ 89 + 3 * 2 ^ 87 + 0 * 2 ^ 84) [.dspOp, .seq]) [.seq]).2 ?_),
   runs ((h searchAndHistogram7 ?_ 3 (word (28 * 2 ^ 102 + 1 * 2 ^ 101 + 0 * 2 ^ 97 + 0 * 2 ^ 93 + 13
       * 2 ^ 89 + 3 * 2 ^ 87 + 0 * 2 ^ 84) [.dspOp, .seq]) [.seq]).2 ?_)⟩ <;> decide +kernel

def datapathControl1 : Sys2Proof.Machine.State :=
  st [(DSP_ACC 3 0, 0x7FFFFFFFFFFF), (DSP_ACC 3 1, 0x800000000000), (DSP_ACC 3 2, 5), (DSP_ACC 3 3, 0x7FFFFFFFFFFF),
      (DSP_ACC_HI_HOLD 3 3, 1)] 0 (onTile 3 (inWord (word (8 * 2 ^ 102 + 0 * 2 ^ 101 + 0 * 2 ^ 97 + 1 * 2 ^ 93 + 13 *
      2 ^ 89 + 3 * 2 ^ 87 + 1 * 2 ^ 84) [.dspStart, .dspOp, .seq])))

def datapathControl2 : Sys2Proof.Machine.State :=
  st [(DSP_ACC 3 0, 0x7FFFFFFFFFFF), (DSP_ACC 3 1, 0x800000000000), (DSP_ACC 3 2, 5), (DSP_ACC 3 3, 0x7FFFFFFFFFFF),
      (DSP_ACC_HI_HOLD 3 3, 1)] 0 (onTile 3 (inWord (word (15 * 2 ^ 102 + 0 * 2 ^ 101 + 0 * 2 ^ 97 + 1 * 2 ^ 93 + 13 *
      2 ^ 89 + 0 * 2 ^ 87 + 1 * 2 ^ 84) [.dspStart, .dspOp, .seq])))

def datapathControl3 : Sys2Proof.Machine.State :=
  st [(DSP_ACC 3 0, 0x7FFFFFFFFFFF), (DSP_ACC 3 1, 0x800000000000), (DSP_ACC 3 2, 5), (DSP_ACC 3 3, 0x7FFFFFFFFFFF),
      (DSP_ACC_HI_HOLD 3 3, 1)] 0 (onTile 3 (inWord (word (12 * 2 ^ 102 + 0 * 2 ^ 101 + 0 * 2 ^ 97 + 1 * 2 ^ 93 + 13 *
      2 ^ 89 + 1 * 2 ^ 87 + 1 * 2 ^ 84) [.dspStart, .dspOp, .seq])))

def datapathControl4 : Sys2Proof.Machine.State :=
  st [(DSP_ACC 3 0, 0x7FFFFFFFFFFF), (DSP_ACC 3 1, 0x800000000000), (DSP_ACC 3 2, 5), (DSP_ACC 3 3, 0x7FFFFFFFFFFF),
      (DSP_ACC_HI_HOLD 3 3, 1)] 0 (onTile 3 (inWord (word (2 * 2 ^ 102 + 0 * 2 ^ 101 + 0 * 2 ^ 97 + 1 * 2 ^ 93 + 3 * 2
      ^ 89 + 0 * 2 ^ 87 + 1 * 2 ^ 84) [.dspStart, .dspOp, .seq])))

def datapathControl5 : Sys2Proof.Machine.State :=
  st [(DSP_ACC 3 0, 0x7FFFFFFFFFFF), (DSP_ACC 3 1, 0x800000000000), (DSP_ACC 3 2, 5), (DSP_ACC 3 3, 0x7FFFFFFFFFFF),
      (DSP_ACC_HI_HOLD 3 3, 1)] 0 (onTile 3 (inWord (word (24 * 2 ^ 102 + 0 * 2 ^ 101 + 0 * 2 ^ 97 + 1 * 2 ^ 93 + 13 *
      2 ^ 89 + 3 * 2 ^ 87 + 1 * 2 ^ 84) [.dspStart, .dspOp, .seq])))

def datapathControl6 : Sys2Proof.Machine.State :=
  st [(DSP_ACC 3 0, 0x7FFFFFFFFFFF), (DSP_ACC 3 1, 0x800000000000), (DSP_ACC 3 2, 5), (DSP_ACC 3 3, 0x7FFFFFFFFFFF),
      (DSP_ACC_HI_HOLD 3 3, 1)] 0 (onTile 3 (inWord (word (25 * 2 ^ 102 + 0 * 2 ^ 101 + 0 * 2 ^ 97 + 1 * 2 ^ 93 + 13 *
      2 ^ 89 + 0 * 2 ^ 87 + 1 * 2 ^ 84) [.dspStart, .dspOp, .seq])))

def datapathControl7 : Sys2Proof.Machine.State :=
  st [] 0 (fun d => onTile 3 (fun x => { x with seq := { x.seq with lastVal := (some (-5)), lastIdx := none } })
      (onTile 3 (inWord (word (2 * 2 ^ 102 + 0 * 2 ^ 101 + 0 * 2 ^ 97 + 1 * 2 ^ 93 + 3 * 2 ^ 89 + 0 * 2 ^ 87 + 2 * 2 ^
      84) [.dspTest, .seq])) d))

def datapathControl8 : Sys2Proof.Machine.State :=
  st [] 0 (fun d => onTile 3 (fun x =>
      { x with seq := { x.seq with lastVal := (some 0), lastIdx := (some 1048575) } }) (onTile 3 (inWord (word (2 * 2
      ^ 102 + 0 * 2 ^ 101 + 0 * 2 ^ 97 + 1 * 2 ^ 93 + 3 * 2 ^ 89 + 0 * 2 ^ 87 + 2 * 2 ^ 84) [.dspTest, .seq])) d))

def datapathControl9 : Sys2Proof.Machine.State :=
  st [] 0 (fun d => onTile 3 (fun x => { x with seq := { x.seq with lastVal := none, lastIdx := none } }) (onTile 3
      (inWord (word (2 * 2 ^ 102 + 0 * 2 ^ 101 + 0 * 2 ^ 97 + 1 * 2 ^ 93 + 3 * 2 ^ 89 + 0 * 2 ^ 87 + 2 * 2 ^ 84)
      [.dspTest, .seq])) d))

def datapathControl10 : Sys2Proof.Machine.State :=
  st [] 0 (fun d => onTile 3 (fun x => { x with dspIn := [] }) (onTile 3 (inWord (word (2 * 2 ^ 102 + 0 * 2 ^ 101 + 12
      * 2 ^ 97 + 1 * 2 ^ 93 + 3 * 2 ^ 89 + 0 * 2 ^ 87 + 4 * 2 ^ 84) [.dspPop, .seq])) d))

def datapathControl11 : Sys2Proof.Machine.State :=
  st [] 0 (onTile 3 (inWord (word (0 * 2 ^ 102 + 0 * 2 ^ 101 + 0 * 2 ^ 97 + 1 * 2 ^ 93 + 13 * 2 ^ 89 + 0 * 2 ^ 87 + 0
      * 2 ^ 84) [.dspOp, .seq])))

def datapathControl12 : Sys2Proof.Machine.State :=
  st [] 0 (onTile 3 (inWord (word (7 * 2 ^ 102 + 0 * 2 ^ 101 + 0 * 2 ^ 97 + 1 * 2 ^ 93 + 13 * 2 ^ 89 + 0 * 2 ^ 87 + 0
      * 2 ^ 84) [.dspOp, .seq])))

def datapathControl13 : Sys2Proof.Machine.State :=
  st [] 0 (onTile 3 (inWord (word (2 * 2 ^ 102 + 0 * 2 ^ 101 + 14 * 2 ^ 97 + 1 * 2 ^ 93 + 3 * 2 ^ 89 + 0 * 2 ^ 87 + 0
      * 2 ^ 84) [.dspOp, .seq])))

def datapathControl14 : Sys2Proof.Machine.State :=
  st [] 0 (onTile 3 (inWord (word (0 * 2 ^ 102 + 0 * 2 ^ 101 + 0 * 2 ^ 97 + 1 * 2 ^ 93 + 13 * 2 ^ 89 + 0 * 2 ^ 87 + 0
      * 2 ^ 84 + 1 * 2 ^ 68) [.dspOp, .seq])))

def datapathControl15 : Sys2Proof.Machine.State :=
  st [(DSP_IN_CTRL_TIMEOUT 3, 40)] 100 (onTile 3 (inWord
      ({ (word (2 * 2 ^ 102 + 0 * 2 ^ 101 + 12 * 2 ^ 97 + 1 * 2 ^ 93 + 3 * 2 ^ 89 + 0 * 2 ^ 87 + 0 * 2 ^ 84) [.dspOp, .seq]) with waitFrom := some 60 })))

/-- States and operands that meet the hypotheses of DatapathControl. -/
theorem witness_DatapathControl_1 (h : Clause.DatapathControl) :
    Answers (Instr.dspStart 3) datapathControl1 Runs ∧
    Answers (Instr.dspStart 3) datapathControl2 Runs ∧
    Answers (Instr.dspStart 3) datapathControl3 Runs ∧
    Answers (Instr.dspStart 3) datapathControl4 Runs ∧
    Answers (Instr.dspStart 3) datapathControl5 Runs ∧
    Answers (Instr.dspStart 3) datapathControl6 Runs ∧
    Answers (Instr.dspTest 3) datapathControl7 Runs ∧
    Answers (Instr.dspTest 3) datapathControl8 Runs := by
  refine ⟨runs (((h datapathControl1 ?_ 3 (word (8 * 2 ^ 102 + 0 * 2 ^ 101 + 0 * 2 ^ 97 + 1 * 2 ^ 93 + 13 *
      2 ^ 89 + 3 * 2 ^ 87 + 1 * 2 ^ 84) [.dspStart, .dspOp, .seq]) [.dspOp, .seq] ?_).1
      ?_).1 ?_ ?_),
   runs (((h datapathControl2 ?_ 3 (word (15 * 2 ^ 102 + 0 * 2 ^ 101 + 0 * 2 ^ 97 + 1 * 2 ^ 93 + 13 *
       2 ^ 89 + 0 * 2 ^ 87 + 1 * 2 ^ 84) [.dspStart, .dspOp, .seq]) [.dspOp, .seq] ?_).1
       ?_).1 ?_ ?_),
   runs (((h datapathControl3 ?_ 3 (word (12 * 2 ^ 102 + 0 * 2 ^ 101 + 0 * 2 ^ 97 + 1 * 2 ^ 93 + 13 *
       2 ^ 89 + 1 * 2 ^ 87 + 1 * 2 ^ 84) [.dspStart, .dspOp, .seq]) [.dspOp, .seq] ?_).1
       ?_).1 ?_ ?_),
   runs (((h datapathControl4 ?_ 3 (word (2 * 2 ^ 102 + 0 * 2 ^ 101 + 0 * 2 ^ 97 + 1 * 2 ^ 93 + 3 * 2
       ^ 89 + 0 * 2 ^ 87 + 1 * 2 ^ 84) [.dspStart, .dspOp, .seq]) [.dspOp, .seq] ?_).1
       ?_).1 ?_ ?_),
   runs (((h datapathControl5 ?_ 3 (word (24 * 2 ^ 102 + 0 * 2 ^ 101 + 0 * 2 ^ 97 + 1 * 2 ^ 93 + 13 *
       2 ^ 89 + 3 * 2 ^ 87 + 1 * 2 ^ 84) [.dspStart, .dspOp, .seq]) [.dspOp, .seq] ?_).1
       ?_).2 (by decide)),
   runs (((h datapathControl6 ?_ 3 (word (25 * 2 ^ 102 + 0 * 2 ^ 101 + 0 * 2 ^ 97 + 1 * 2 ^ 93 + 13 *
       2 ^ 89 + 0 * 2 ^ 87 + 1 * 2 ^ 84) [.dspStart, .dspOp, .seq]) [.dspOp, .seq] ?_).1
       ?_).2 (by decide)),
   runs ((h datapathControl7 ?_ 3 (word (2 * 2 ^ 102 + 0 * 2 ^ 101 + 0 * 2 ^ 97 + 1 * 2 ^ 93 + 3 * 2
       ^ 89 + 0 * 2 ^ 87 + 2 * 2 ^ 84) [.dspTest, .seq]) [.seq] ?_).2.1 ?_),
   runs ((h datapathControl8 ?_ 3 (word (2 * 2 ^ 102 + 0 * 2 ^ 101 + 0 * 2 ^ 97 + 1 * 2 ^ 93 + 3 * 2
       ^ 89 + 0 * 2 ^ 87 + 2 * 2 ^ 84) [.dspTest, .seq]) [.seq] ?_).2.1 ?_)⟩ <;> decide +kernel

/-- States and operands that meet the hypotheses of DatapathControl. -/
theorem witness_DatapathControl_2 (h : Clause.DatapathControl) :
    Answers (Instr.dspTest 3) datapathControl9 Runs ∧
    Answers (Instr.dspPop 3) datapathControl10 Runs ∧
    Answers (Instr.dspNop 3) datapathControl11 Runs ∧
    Answers (Instr.dspNop 3) datapathControl12 Runs ∧
    Answers (Instr.dspNop 3) datapathControl13 Runs ∧
    Answers (Instr.dspNop 3) datapathControl14 Runs ∧
    Answers (Instr.inTimeout 3) datapathControl15 Runs := by
  refine ⟨runs ((h datapathControl9 ?_ 3 (word (2 * 2 ^ 102 + 0 * 2 ^ 101 + 0 * 2 ^ 97 + 1 * 2 ^ 93 + 3 * 2
      ^ 89 + 0 * 2 ^ 87 + 2 * 2 ^ 84) [.dspTest, .seq]) [.seq] ?_).2.1 ?_),
   runs ((h datapathControl10 ?_ 3 (word (2 * 2 ^ 102 + 0 * 2 ^ 101 + 12 * 2 ^ 97 + 1 * 2 ^ 93 + 3 *
       2 ^ 89 + 0 * 2 ^ 87 + 4 * 2 ^ 84) [.dspPop, .seq]) [.seq] ?_).2.2.1 ?_),
   runs ((h datapathControl11 ?_ 3 (word (0 * 2 ^ 102 + 0 * 2 ^ 101 + 0 * 2 ^ 97 + 1 * 2 ^ 93 + 13 *
       2 ^ 89 + 0 * 2 ^ 87 + 0 * 2 ^ 84) [.dspOp, .seq]) [.seq] ?_).2.2.2.1 ?_
       ?_),
   runs ((h datapathControl12 ?_ 3 (word (7 * 2 ^ 102 + 0 * 2 ^ 101 + 0 * 2 ^ 97 + 1 * 2 ^ 93 + 13 *
       2 ^ 89 + 0 * 2 ^ 87 + 0 * 2 ^ 84) [.dspOp, .seq]) [.seq] ?_).2.2.2.1 ?_
       ?_),
   runs ((h datapathControl13 ?_ 3 (word (2 * 2 ^ 102 + 0 * 2 ^ 101 + 14 * 2 ^ 97 + 1 * 2 ^ 93 + 3 *
       2 ^ 89 + 0 * 2 ^ 87 + 0 * 2 ^ 84) [.dspOp, .seq]) [.seq] ?_).2.2.2.1 ?_
       ?_),
   runs ((h datapathControl14 ?_ 3 (word (0 * 2 ^ 102 + 0 * 2 ^ 101 + 0 * 2 ^ 97 + 1 * 2 ^ 93 + 13 *
       2 ^ 89 + 0 * 2 ^ 87 + 0 * 2 ^ 84 + 1 * 2 ^ 68) [.dspOp, .seq]) [.seq] ?_).2.2.2.1
       ?_ ?_),
   runs ((h datapathControl15 ?_ 3
       { (word (2 * 2 ^ 102 + 0 * 2 ^ 101 + 12 * 2 ^ 97 + 1 * 2 ^ 93 + 3 * 2 ^ 89 + 0 * 2 ^ 87 + 0 * 2 ^ 84) [.dspOp, .seq]) with waitFrom := some 60 }
       [.seq] ?_).2.2.2.2 60 ?_ ?_ ?_
       ?_ ?_ ?_)⟩ <;> decide +kernel

def addressGenerators1 : Sys2Proof.Machine.State :=
  st [(DSP_AGU_P 3 3, 0), (DSP_AGU_M 3 3, 0x3FFFE)] 0 (onTile 3 (inWord (word ((1 * 2 ^ 5 + 3 * 2 ^ 3) * 2 ^ 68 +
      1048575 * 2 ^ 4) [.agu0, .seq])))

def addressGenerators2 : Sys2Proof.Machine.State :=
  st [(DSP_AGU_P 3 3, 0), (DSP_AGU_M 3 3, 0x3FFFE)] 0 (onTile 3 (inWord (word ((1 * 2 ^ 5 + 3 * 2 ^ 3) * 2 ^ 76 +
      1048575 * 2 ^ 4) [.agu1, .seq])))

def addressGenerators3 : Sys2Proof.Machine.State :=
  st [(DSP_AGU_P 3 3, 0x3F0), (DSP_AGU_M 3 3, 0x20), (DSP_AGU_B 3 3, 0x300), (DSP_AGU_L 3 3, 0x100)] 0 (onTile 3
      (inWord (word ((1 * 2 ^ 5 + 3 * 2 ^ 3) * 2 ^ 68 + 1048575 * 2 ^ 4) [.agu0, .seq])))

def addressGenerators4 : Sys2Proof.Machine.State :=
  st [(DSP_AGU_P 3 3, 0x3F0), (DSP_AGU_M 3 3, 0x20), (DSP_AGU_B 3 3, 0x300), (DSP_AGU_L 3 3, 0x100)] 0 (onTile 3
      (inWord (word ((1 * 2 ^ 5 + 3 * 2 ^ 3) * 2 ^ 76 + 1048575 * 2 ^ 4) [.agu1, .seq])))

def addressGenerators5 : Sys2Proof.Machine.State :=
  st [(DSP_AGU_P 3 3, 0)] 0 (onTile 3 (inWord (word ((2 * 2 ^ 5 + 3 * 2 ^ 3) * 2 ^ 68 + 1048575 * 2 ^ 4) [.agu0,
      .seq])))

def addressGenerators6 : Sys2Proof.Machine.State :=
  st [(DSP_AGU_P 3 3, 0)] 0 (onTile 3 (inWord (word ((2 * 2 ^ 5 + 3 * 2 ^ 3) * 2 ^ 76 + 1048575 * 2 ^ 4) [.agu1,
      .seq])))

def addressGenerators7 : Sys2Proof.Machine.State :=
  st [(DSP_AGU_P 3 3, 0x3F0), (DSP_AGU_B 3 3, 0x300), (DSP_AGU_L 3 3, 0x100)] 0 (onTile 3 (inWord (word ((2 * 2 ^ 5 +
      3 * 2 ^ 3) * 2 ^ 68 + 1048575 * 2 ^ 4) [.agu0, .seq])))

def addressGenerators8 : Sys2Proof.Machine.State :=
  st [(DSP_AGU_P 3 3, 0x3F0), (DSP_AGU_B 3 3, 0x300), (DSP_AGU_L 3 3, 0x100)] 0 (onTile 3 (inWord (word ((2 * 2 ^ 5 +
      3 * 2 ^ 3) * 2 ^ 76 + 1048575 * 2 ^ 4) [.agu1, .seq])))

def addressGenerators9 : Sys2Proof.Machine.State :=
  st [(DSP_AGU_B 3 3, 0x300)] 0 (onTile 3 (inWord (word ((3 * 2 ^ 5 + 3 * 2 ^ 3) * 2 ^ 68 + 1048575 * 2 ^ 4) [.agu0,
      .seq])))

def addressGenerators10 : Sys2Proof.Machine.State :=
  st [(DSP_AGU_B 3 3, 0x300)] 0 (onTile 3 (inWord (word ((3 * 2 ^ 5 + 3 * 2 ^ 3) * 2 ^ 76 + 1048575 * 2 ^ 4) [.agu1,
      .seq])))

def addressGenerators11 : Sys2Proof.Machine.State :=
  st [] 0 (onTile 3 (inWord (word ((4 * 2 ^ 5 + 3 * 2 ^ 3) * 2 ^ 68 + 1048575 * 2 ^ 4) [.agu0, .seq])))

def addressGenerators12 : Sys2Proof.Machine.State :=
  st [] 0 (onTile 3 (inWord (word ((4 * 2 ^ 5 + 3 * 2 ^ 3) * 2 ^ 76 + 1048575 * 2 ^ 4) [.agu1, .seq])))

def addressGenerators13 : Sys2Proof.Machine.State :=
  st [] 0 (onTile 3 (inWord (word ((5 * 2 ^ 5 + 3 * 2 ^ 3) * 2 ^ 68 + 1048575 * 2 ^ 4) [.agu0, .seq])))

def addressGenerators14 : Sys2Proof.Machine.State :=
  st [] 0 (onTile 3 (inWord (word ((5 * 2 ^ 5 + 3 * 2 ^ 3) * 2 ^ 76 + 1048575 * 2 ^ 4) [.agu1, .seq])))

def addressGenerators15 : Sys2Proof.Machine.State :=
  st [] 0 (onTile 3 (inWord (word ((6 * 2 ^ 5 + 3 * 2 ^ 3) * 2 ^ 68 + 1048575 * 2 ^ 4) [.agu0, .seq])))

def addressGenerators16 : Sys2Proof.Machine.State :=
  st [] 0 (onTile 3 (inWord (word ((6 * 2 ^ 5 + 3 * 2 ^ 3) * 2 ^ 76 + 1048575 * 2 ^ 4) [.agu1, .seq])))

def addressGenerators17 : Sys2Proof.Machine.State :=
  st [] 0 (onTile 3 (inWord (word ((7 * 2 ^ 5 + 3 * 2 ^ 3) * 2 ^ 68 + 1048575 * 2 ^ 4) [.agu0, .seq])))

def addressGenerators18 : Sys2Proof.Machine.State :=
  st [] 0 (onTile 3 (inWord (word ((7 * 2 ^ 5 + 3 * 2 ^ 3) * 2 ^ 76 + 1048575 * 2 ^ 4) [.agu1, .seq])))

/-- States and operands that meet the hypotheses of AddressGenerators. -/
theorem witness_AddressGenerators_1 (h : Clause.AddressGenerators) :
    Answers (Instr.aguMod 3 0) addressGenerators1 Runs ∧
    Answers (Instr.aguMod 3 1) addressGenerators2 Runs ∧
    Answers (Instr.aguMod 3 0) addressGenerators3 Runs ∧
    Answers (Instr.aguMod 3 1) addressGenerators4 Runs ∧
    Answers (Instr.aguStep 3 0) addressGenerators5 Runs ∧
    Answers (Instr.aguStep 3 1) addressGenerators6 Runs ∧
    Answers (Instr.aguStep 3 0) addressGenerators7 Runs ∧
    Answers (Instr.aguStep 3 1) addressGenerators8 Runs := by
  refine ⟨runs (h addressGenerators1 ?_ 3 0 (word ((1 * 2 ^ 5 + 3 * 2 ^ 3) * 2 ^ 68 + 1048575 * 2 ^ 4)
      [.agu0, .seq]) [.seq] ?_ ?_ (.aguMod 3 0) 1 (DSP_AGU_P 3 3) (3 * 0 + 0x1FFFE)
      ?_ ?_),
   runs (h addressGenerators2 ?_ 3 1 (word ((1 * 2 ^ 5 + 3 * 2 ^ 3) * 2 ^ 76 + 1048575 * 2 ^ 4)
       [.agu1, .seq]) [.seq] ?_ ?_ (.aguMod 3 1) 1 (DSP_AGU_P 3 3) (3 * 0 + 0x1FFFE)
       ?_ ?_),
   runs (h addressGenerators3 ?_ 3 0 (word ((1 * 2 ^ 5 + 3 * 2 ^ 3) * 2 ^ 68 + 1048575 * 2 ^ 4)
       [.agu0, .seq]) [.seq] ?_ ?_ (.aguMod 3 0) 1 (DSP_AGU_P 3 3) (0x310)
       ?_ ?_),
   runs (h addressGenerators4 ?_ 3 1 (word ((1 * 2 ^ 5 + 3 * 2 ^ 3) * 2 ^ 76 + 1048575 * 2 ^ 4)
       [.agu1, .seq]) [.seq] ?_ ?_ (.aguMod 3 1) 1 (DSP_AGU_P 3 3) (0x310)
       ?_ ?_),
   runs (h addressGenerators5 ?_ 3 0 (word ((2 * 2 ^ 5 + 3 * 2 ^ 3) * 2 ^ 68 + 1048575 * 2 ^ 4)
       [.agu0, .seq]) [.seq] ?_ ?_ (.aguStep 3 0) 2 (DSP_AGU_P 3 3) (16)
       ?_ ?_),
   runs (h addressGenerators6 ?_ 3 1 (word ((2 * 2 ^ 5 + 3 * 2 ^ 3) * 2 ^ 76 + 1048575 * 2 ^ 4)
       [.agu1, .seq]) [.seq] ?_ ?_ (.aguStep 3 1) 2 (DSP_AGU_P 3 3) (16)
       ?_ ?_),
   runs (h addressGenerators7 ?_ 3 0 (word ((2 * 2 ^ 5 + 3 * 2 ^ 3) * 2 ^ 68 + 1048575 * 2 ^ 4)
       [.agu0, .seq]) [.seq] ?_ ?_ (.aguStep 3 0) 2 (DSP_AGU_P 3 3) (0x300)
       ?_ ?_),
   runs (h addressGenerators8 ?_ 3 1 (word ((2 * 2 ^ 5 + 3 * 2 ^ 3) * 2 ^ 76 + 1048575 * 2 ^ 4)
       [.agu1, .seq]) [.seq] ?_ ?_ (.aguStep 3 1) 2 (DSP_AGU_P 3 3) (0x300)
       ?_ ?_)⟩ <;> decide +kernel

/-- States and operands that meet the hypotheses of AddressGenerators. -/
theorem witness_AddressGenerators_2 (h : Clause.AddressGenerators) :
    Answers (Instr.aguReset 3 0) addressGenerators9 Runs ∧
    Answers (Instr.aguReset 3 1) addressGenerators10 Runs ∧
    Answers (Instr.aguLdp 3 0) addressGenerators11 Runs ∧
    Answers (Instr.aguLdp 3 1) addressGenerators12 Runs ∧
    Answers (Instr.aguLdm 3 0) addressGenerators13 Runs ∧
    Answers (Instr.aguLdm 3 1) addressGenerators14 Runs ∧
    Answers (Instr.aguLdb 3 0) addressGenerators15 Runs ∧
    Answers (Instr.aguLdb 3 1) addressGenerators16 Runs := by
  refine ⟨runs (h addressGenerators9 ?_ 3 0 (word ((3 * 2 ^ 5 + 3 * 2 ^ 3) * 2 ^ 68 + 1048575 * 2 ^ 4)
      [.agu0, .seq]) [.seq] ?_ ?_ (.aguReset 3 0) 3 (DSP_AGU_P 3 3) (0x300)
      ?_ ?_),
   runs (h addressGenerators10 ?_ 3 1 (word ((3 * 2 ^ 5 + 3 * 2 ^ 3) * 2 ^ 76 + 1048575 * 2 ^ 4)
       [.agu1, .seq]) [.seq] ?_ ?_ (.aguReset 3 1) 3 (DSP_AGU_P 3 3) (0x300)
       ?_ ?_),
   runs (h addressGenerators11 ?_ 3 0 (word ((4 * 2 ^ 5 + 3 * 2 ^ 3) * 2 ^ 68 + 1048575 * 2 ^ 4)
       [.agu0, .seq]) [.seq] ?_ ?_ (.aguLdp 3 0) 4 (DSP_AGU_P 3 3) (131071)
       ?_ ?_),
   runs (h addressGenerators12 ?_ 3 1 (word ((4 * 2 ^ 5 + 3 * 2 ^ 3) * 2 ^ 76 + 1048575 * 2 ^ 4)
       [.agu1, .seq]) [.seq] ?_ ?_ (.aguLdp 3 1) 4 (DSP_AGU_P 3 3) (131071)
       ?_ ?_),
   runs (h addressGenerators13 ?_ 3 0 (word ((5 * 2 ^ 5 + 3 * 2 ^ 3) * 2 ^ 68 + 1048575 * 2 ^ 4)
       [.agu0, .seq]) [.seq] ?_ ?_ (.aguLdm 3 0) 5 (DSP_AGU_M 3 3) (262143)
       ?_ ?_),
   runs (h addressGenerators14 ?_ 3 1 (word ((5 * 2 ^ 5 + 3 * 2 ^ 3) * 2 ^ 76 + 1048575 * 2 ^ 4)
       [.agu1, .seq]) [.seq] ?_ ?_ (.aguLdm 3 1) 5 (DSP_AGU_M 3 3) (262143)
       ?_ ?_),
   runs (h addressGenerators15 ?_ 3 0 (word ((6 * 2 ^ 5 + 3 * 2 ^ 3) * 2 ^ 68 + 1048575 * 2 ^ 4)
       [.agu0, .seq]) [.seq] ?_ ?_ (.aguLdb 3 0) 6 (DSP_AGU_B 3 3) (131071)
       ?_ ?_),
   runs (h addressGenerators16 ?_ 3 1 (word ((6 * 2 ^ 5 + 3 * 2 ^ 3) * 2 ^ 76 + 1048575 * 2 ^ 4)
       [.agu1, .seq]) [.seq] ?_ ?_ (.aguLdb 3 1) 6 (DSP_AGU_B 3 3) (131071)
       ?_ ?_)⟩ <;> decide +kernel

/-- States and operands that meet the hypotheses of AddressGenerators. -/
theorem witness_AddressGenerators_3 (h : Clause.AddressGenerators) :
    Answers (Instr.aguLdl 3 0) addressGenerators17 Runs ∧
    Answers (Instr.aguLdl 3 1) addressGenerators18 Runs := by
  refine ⟨runs (h addressGenerators17 ?_ 3 0 (word ((7 * 2 ^ 5 + 3 * 2 ^ 3) * 2 ^ 68 + 1048575 * 2 ^ 4)
      [.agu0, .seq]) [.seq] ?_ ?_ (.aguLdl 3 0) 7 (DSP_AGU_L 3 3) (131072)
      ?_ ?_),
   runs (h addressGenerators18 ?_ 3 1 (word ((7 * 2 ^ 5 + 3 * 2 ^ 3) * 2 ^ 76 + 1048575 * 2 ^ 4)
       [.agu1, .seq]) [.seq] ?_ ?_ (.aguLdl 3 1) 7 (DSP_AGU_L 3 3) (131072)
       ?_ ?_)⟩ <;> decide +kernel

def captureArming1 : Sys2Proof.Machine.State :=
  st [(CAPCLASS_DEST_QUEUE 3 31, 200), (QT_CFG_EN 3 200, 1), (QT_CFG_SIZE_LOG2 3 200, 6), (QT_SEQ_A 3 200,
      0xFFFFFFFF), (CAP_STATE_STATE 3, RECORDING)] 100 (onTile 3 (holds 32 [.one (hent 32 90 15 KCAPTURE (1 + 8 *
      31))] ∘ (fun x =>
      { x with cap := { x.cap with
        disarm := true
        rec_ := some ⟨⟨80, 3, 7, 3, 0⟩, 1, 0, none, 31, false, 0, false, 0, 10, 0, 5, 2, 9, 1234, 0, 80, 0, false⟩ } })))

def captureArming2 : Sys2Proof.Machine.State :=
  st [(CAPCLASS_DEST_QUEUE 3 31, 200), (QT_CFG_EN 3 200, 1), (QT_CFG_SIZE_LOG2 3 200, 6), (QT_SEQ_A 3 200,
      0xFFFFFFFF), (CAPCLASS_LEN_PRE 3 31, 4096), (RING_USED 3, 1)] 100 (onTile 3 (holds 32 [.one (hent 32 90 15
      KCAPTURE (1 + 8 * 31))]))

def captureArming3 : Sys2Proof.Machine.State :=
  st [(CAPCLASS_DEST_QUEUE 3 31, 200), (QT_CFG_EN 3 200, 1), (QT_CFG_SIZE_LOG2 3 200, 6), (QT_SEQ_A 3 200,
      0xFFFFFFFF), (CAP_STATE_STATE 3, NOSLOT)] 100 (onTile 3 (holds 32 [.one (hent 32 90 15 KCAPTURE (1 + 8 * 31))]))

def captureArming4 : Sys2Proof.Machine.State :=
  st [(CAPCLASS_DEST_QUEUE 3 31, 200), (QT_CFG_EN 3 200, 1), (QT_CFG_SIZE_LOG2 3 200, 6), (QT_SEQ_A 3 200,
      0xFFFFFFFF), (CAPCLASS_LEN_PRE 3 31, 4097)] 100 (onTile 3 (holds 32 [.one (hent 32 90 15 KCAPTURE (1 + 8 *
      31))]))

def captureArming5 : Sys2Proof.Machine.State :=
  st [] 100 (onTile 3 (holds 32 [.one (hent 32 90 15 KCAPTURE (1 + 8 * 0))]))

def captureArming6 : Sys2Proof.Machine.State :=
  st [(CAP_MISC_STRAY 3, 0xFFFF)] 100 (onTile 3 (holds 32 [.one (hent 32 90 15 KCAPTURE (3 + 8 * 31))]))

def captureArming7 : Sys2Proof.Machine.State :=
  st [(CAP_STATE_STATE 3, REARM), (CAP_STATE_CLASS 3, 31), (CAP_STATE_PVALID 3, 1)] 100 (onTile 3 (holds 32 [.one
      (hent 32 90 15 KCAPTURE (3 + 8 * 31))] ∘ (fun x =>
      { x with cap := { x.cap with rec_ := some ⟨⟨80, 3, 7, 3, 0⟩, 1, 0, none, 31, false, 0, false, 0, 10, 0, 5, 2, 9, 1234, 0, 80, 0, false⟩ } })))

def captureArming8 : Sys2Proof.Machine.State :=
  st [(CAP_STATE_STATE 3, ARMED), (CAP_STATE_CLASS 3, 31), (CAP_STATE_PVALID 3, 1)] 100 (onTile 3 (holds 32 [.one
      (hent 32 90 15 KCAPTURE (3 + 8 * 31))] ∘ (fun x =>
      { x with cap := { x.cap with points := [⟨⟨80, 3, 7, 3, 0⟩, 5, none, false⟩] } })))

/-- States and operands that meet the hypotheses of CaptureArming. -/
theorem witness_CaptureArming (h : Clause.CaptureArming) :
    Answers (Instr.acqArm 3) captureArming1 Runs ∧
    Answers (Instr.acqArm 3) captureArming2 Runs ∧
    Answers (Instr.acqArm 3) captureArming3 Runs ∧
    Answers (Instr.acqArm 3) captureArming4 Runs ∧
    Answers (Instr.acqArm 3) captureArming5 Runs ∧
    Answers (Instr.acqDisarm 3) captureArming6 Runs ∧
    Answers (Instr.acqDisarm 3) captureArming7 Runs ∧
    Answers (Instr.acqDisarm 3) captureArming8 Runs := by
  refine ⟨runs (((h captureArming1 ?_ 3 (hent 32 90 15 KCAPTURE (1 + 8 * 31)) 31).1 ?_
      ?_ ?_).1 (Or.inl ?_)),
   runs (((h captureArming2 ?_ 3 (hent 32 90 15 KCAPTURE (1 + 8 * 31)) 31).1 ?_
       ?_ ?_).2 ?_),
   runs (((h captureArming3 ?_ 3 (hent 32 90 15 KCAPTURE (1 + 8 * 31)) 31).1 ?_
       ?_ ?_).2 ?_),
   runs ((h captureArming4 ?_ 3 (hent 32 90 15 KCAPTURE (1 + 8 * 31)) 31).2.1 ?_
       ?_),
   runs ((h captureArming5 ?_ 3 (hent 32 90 15 KCAPTURE (1 + 8 * 0)) 0).2.1 ?_
       ?_),
   runs (((h captureArming6 ?_ 3 (hent 32 90 15 KCAPTURE (3 + 8 * 31)) 31).2.2 ?_).1 ?_),
   runs (((h captureArming7 ?_ 3 (hent 32 90 15 KCAPTURE (3 + 8 * 31)) 31).2.2
       ?_).2.1 (Or.inr ?_) ?_),
   runs (((h captureArming8 ?_ 3 (hent 32 90 15 KCAPTURE (3 + 8 * 31)) 31).2.2
       ?_).2.2 ?_ ?_)⟩ <;> decide +kernel

def captureFire1 : Sys2Proof.Machine.State :=
  st [(CAP_STATE_STATE 3, ARMED), (CAP_STATE_CLASS 3, 30)] 100 (onTile 3 (holds 32 [.one (hent 32 90 15 KCAPTURE (2 +
      8 * 31))]))

def captureFire2 : Sys2Proof.Machine.State :=
  st [(CAP_STATE_STATE 3, FILLING), (CAP_STATE_CLASS 3, 31), (CAPCLASS_SRC_COND_EN 3 31, 1)] 100 (onTile 3 (holds 32
      [.one (hent 32 100 15 KCAPTURE (2 + 8 * 31))]))

def captureFire3 : Sys2Proof.Machine.State :=
  st [(CAP_STATE_STATE 3, ARMED), (CAP_STATE_CLASS 3, 31), (CAPCLASS_SRC_COND_EN 3 31, 1)] 100 (onTile 3 (holds 32
      [.one (hent 32 100 15 KCAPTURE (2 + 8 * 31))]))

def captureFire4 : Sys2Proof.Machine.State :=
  st [(CAP_STATE_STATE 3, RECORDING), (CAP_STATE_CLASS 3, 31), (CAPCLASS_SRC_COND_EN 3 31, 1)] 100 (onTile 3 (holds 32
      [.one (hent 32 80 8 KCAPTURE (2 + 8 * 31))] ∘ (fun x =>
      { x with cap := { x.cap with rec_ := some ⟨⟨80, 3, 7, 3, 0⟩, 1, 0, none, 31, false, 0, false, 0, 10, 0, 5, 2, 9, 1234, 0, 80, 0, false⟩ } })))

def captureFire5 : Sys2Proof.Machine.State :=
  st [(CAP_STATE_STATE 3, REARM), (CAP_STATE_CLASS 3, 31), (CAPCLASS_SRC_COND_EN 3 31, 1)] 100 (onTile 3 (holds 32
      [.one (hent 32 80 8 KCAPTURE (2 + 8 * 31))] ∘ (fun x =>
      { x with cap := { x.cap with rec_ := some ⟨⟨80, 3, 7, 3, 0⟩, 1, 0, none, 31, false, 0, false, 0, 10, 0, 5, 2, 9, 1234, 0, 80, 0, false⟩ } })))

/-- States and operands that meet the hypotheses of CaptureFire. -/
theorem witness_CaptureFire (h : Clause.CaptureFire) :
    Answers (Instr.acqFire 3) captureFire1 Runs ∧
    Answers (Instr.acqFire 3) captureFire2 Runs ∧
    Answers (Instr.acqFire 3) captureFire3 Runs ∧
    Answers (Instr.acqFire 3) captureFire4 Runs ∧
    Answers (Instr.acqFire 3) captureFire5 Runs := by
  refine ⟨runs ((h captureFire1 ?_ 3 (hent 32 90 15 KCAPTURE (2 + 8 * 31)) 31 ?_
      ?_).1 ?_),
   runs (((h captureFire2 ?_ 3 (hent 32 100 15 KCAPTURE (2 + 8 * 31)) 31 ?_
       ?_).2 ?_ ?_ ?_).1 (Or.inl
       ?_)),
   runs (((h captureFire3 ?_ 3 (hent 32 100 15 KCAPTURE (2 + 8 * 31)) 31 ?_
       ?_).2 ?_ ?_ ?_).1 (Or.inr
       ?_)),
   runs (((h captureFire4 ?_ 3 (hent 32 80 8 KCAPTURE (2 + 8 * 31)) 31 ?_
       ?_).2 ?_ ?_ ?_).2 ⟨⟨80, 3, 7, 3, 0⟩, 1, 0,
       none, 31, false, 0, false, 0, 10, 0, 5, 2, 9, 1234, 0, 80, 0, false⟩ ?_ ?_
       ?_),
   runs (((h captureFire5 ?_ 3 (hent 32 80 8 KCAPTURE (2 + 8 * 31)) 31 ?_
       ?_).2 ?_ ?_ ?_).2 ⟨⟨80, 3, 7, 3, 0⟩, 1, 0,
       none, 31, false, 0, false, 0, 10, 0, 5, 2, 9, 1234, 0, 80, 0, false⟩ ?_ ?_
       ?_)⟩ <;> decide +kernel

def captureSnap1 : Sys2Proof.Machine.State :=
  st [(CAPCLASS_DEST_QUEUE 3 31, 200), (QT_CFG_EN 3 200, 1), (QT_CFG_SIZE_LOG2 3 200, 6), (QT_SEQ_A 3 200,
      0xFFFFFFFF), (CAPCLASS_POST_M1 3 31, 0xFFFFFF), (CAP_RECORDS 3, 0xFFFFFFFF)] 100 (onTile 3 (holds 32 [.one (hent
      32 100 15 KCAPTURE (4 + 8 * 31))]))

def captureSnap2 : Sys2Proof.Machine.State :=
  st [(CAP_STATE_STATE 3, NOSLOT), (CAP_MISC_SNAP_LOST 3, 0xFFFF)] 100 (onTile 3 (holds 32 [.one (hent 32 100 15
      KCAPTURE (4 + 8 * 31))]))

def captureSnap3 : Sys2Proof.Machine.State :=
  st [(CAPCLASS_DEST_QUEUE 3 31, 200), (QT_CFG_EN 3 200, 1), (QT_CFG_SIZE_LOG2 3 200, 6), (QT_SEQ_A 3 200,
      0xFFFFFFFF), (QTAIL 3 200, 0xFFFFFFC0)] 100 (onTile 3 (holds 32 [.one (hent 32 100 15 KCAPTURE (4 + 8 * 31))]))

/-- States and operands that meet the hypotheses of CaptureSnap. -/
theorem witness_CaptureSnap (h : Clause.CaptureSnap) :
    Answers (Instr.acqSnap 3) captureSnap1 Runs ∧
    Answers (Instr.acqSnap 3) captureSnap2 Runs ∧
    Answers (Instr.acqSnap 3) captureSnap3 Runs := by
  refine ⟨runs ((h captureSnap1 ?_ 3 (hent 32 100 15 KCAPTURE (4 + 8 * 31)) 31 ?_
      ?_).1 ?_ ?_ ?_),
   runs ((h captureSnap2 ?_ 3 (hent 32 100 15 KCAPTURE (4 + 8 * 31)) 31 ?_
       ?_).2 (Or.inl ?_)),
   runs ((h captureSnap3 ?_ 3 (hent 32 100 15 KCAPTURE (4 + 8 * 31)) 31 ?_
       ?_).2 (Or.inr ?_))⟩ <;> decide +kernel

def triggerInputs1 : Sys2Proof.Machine.State :=
  st [(CAP_STATE_STATE 3, ARMED), (CAPCLASS_SRC_COND_EN 3 0, 0x0800), (CAP_TIN_DELAY 3 7, 0x800), (CAP_TIN_POL 5 7,
      1)] 100 (fun d =>
      { ((onTile 3 ((fun x => { x with cap := { x.cap with tinLast := [(7, 9625)] } }))) d) with ticks := 81 })

def triggerInputs2 : Sys2Proof.Machine.State :=
  st [(CAP_STATE_STATE 3, ARMED), (CAPCLASS_SRC_COND_EN 3 0, 0x0800), (CAP_TIN_DROP 3 7, 0xFFFF)] 100 (fun d =>
      { ((onTile 3 ((fun x => { x with cap := { x.cap with tinLast := [(7, 9625)] } }))) d) with ticks := 80 })

def triggerInputs3 : Sys2Proof.Machine.State :=
  st [(CAP_STATE_STATE 3, ARMED), (CAPCLASS_SRC_COND_EN 3 0, 0x0010), (CAP_TIN_POL 3 0, 1), (CAP_TIN_DELAY 3 0,
      0x800)] 1 (fun d => { (id d) with ticks := 1 })

/-- States and operands that meet the hypotheses of TriggerInputs. -/
theorem witness_TriggerInputs (h : Clause.TriggerInputs) :
    Answers (Instr.trigInEdge 7 false 0) triggerInputs1 Runs ∧
    Answers (Instr.trigInEdge 7 false 124) triggerInputs2 Runs ∧
    Answers (Instr.trigInEdge 0 true 5) triggerInputs3 Runs := by
  refine ⟨runs (h triggerInputs1 ?_ 7 false 0),
   runs (h triggerInputs2 ?_ 7 false 124),
   runs (h triggerInputs3 ?_ 0 true 5)⟩ <;> decide +kernel

def recordsOpen1 : Sys2Proof.Machine.State :=
  st [(CAPCLASS_DEST_QUEUE 3 31, 200), (QT_CFG_EN 3 200, 1), (QT_CFG_SIZE_LOG2 3 200, 6), (QT_SEQ_A 3 200,
      0xFFFFFFFF), (CAP_STATE_STATE 3, ARMED), (CAP_STATE_CLASS 3, 31), (CAPCLASS_LEN_PRE 3 31, 4), (CAPCLASS_POST_M1
      3 31, 15)] 100 (onTile 3 ((fun x =>
      { x with cap := { x.cap with points := [⟨⟨90, 9, 7, 3, 0⟩, 5, none, false⟩], ringStart := 86 } })))

def recordsOpen2 : Sys2Proof.Machine.State :=
  st [(CAPCLASS_DEST_QUEUE 3 31, 200), (QT_CFG_EN 3 200, 1), (QT_CFG_SIZE_LOG2 3 200, 6), (QT_SEQ_A 3 200,
      0xFFFFFFFF), (CAP_STATE_STATE 3, ARMED), (CAP_STATE_CLASS 3, 31), (CAPCLASS_LEN_PRE 3 31, 4),
      (CAPCLASS_SRC_COND_EN 3 31, 0x2000), (CAP_GROUP_SETTLE 3, 10)] 100 (onTile 3 ((fun x =>
      { x with cap := { x.cap with points := [⟨⟨90, 9, 7, 3, 0⟩, 5, none, false⟩], ringStart := 86 } })))

def recordsOpen3 : Sys2Proof.Machine.State :=
  st [(CAPCLASS_DEST_QUEUE 3 31, 200), (QT_CFG_EN 3 200, 1), (QT_CFG_SIZE_LOG2 3 200, 6), (QT_SEQ_A 3 200,
      0xFFFFFFFF), (CAP_STATE_STATE 3, FILLING), (CAP_STATE_CLASS 3, 31), (QTAIL 3 200, 0xFFFFFFC0), (CAP_LOST 3,
      0xFFFFFFFF)] 100 (onTile 3 ((fun x =>
      { x with cap := { x.cap with points := [⟨⟨90, 9, 7, 3, 0⟩, 5, none, false⟩], ringStart := 86 } })))

/-- A class whose slot of 4096 bytes holds 201 frames of 20 bytes, in a unit that has 180 frames before and 71 behind the point. -/
def recordsOpen4 : Sys2Proof.Machine.State :=
  st [(CAPCLASS_DEST_QUEUE 3 31, 200), (QT_CFG_EN 3 200, 1), (QT_CFG_SIZE_LOG2 3 200, 6), (QT_SEQ_A 3 200, 0xFFFFFFFF),
      (CAP_STATE_STATE 3, ARMED), (CAP_STATE_CLASS 3, 31), (CAPCLASS_LEN_PRE 3 31, 180), (CAPCLASS_POST_M1 3 31, 99)] 260
    (onTile 3 (fun x => { x with cap := { x.cap with points := [⟨⟨190, 9, 7, 3, 0⟩, 5, none, false⟩] } }))

/-- States and operands that meet the hypotheses of RecordsOpen. -/
theorem witness_RecordsOpen (h : Clause.RecordsOpen) :
    Answers (Instr.recordOpen 3) recordsOpen1 Runs ∧
    Answers (Instr.groupSettleEnd 3) recordsOpen2 Runs ∧
    Answers (Instr.recordOpen 3) recordsOpen3 Runs ∧
    Answers (Instr.recordOpen 3) recordsOpen4 Runs := by
  refine ⟨runs ((h recordsOpen1 ?_ 3 ⟨⟨90, 9, 7, 3, 0⟩, 5, none, false⟩ (Or.inr ?_) ?_ ?_ ?_ ?_ ?_ (.recordOpen 3)
      (Or.inl ?_)).1 ?_ ?_ ?_),
    runs ((h recordsOpen2 ?_ 3 ⟨⟨90, 9, 7, 3, 0⟩, 5, none, false⟩ (Or.inr ?_) ?_ ?_ ?_ ?_ ?_ (.groupSettleEnd 3)
      (Or.inr ?_)).1 ?_ ?_ ?_),
    runs ((h recordsOpen3 ?_ 3 ⟨⟨90, 9, 7, 3, 0⟩, 5, none, false⟩ (Or.inl ?_) ?_ ?_ ?_ ?_ ?_ (.recordOpen 3)
      (Or.inl ?_)).2.2 ?_),
    runs ((h recordsOpen4 ?_ 3 ⟨⟨190, 9, 7, 3, 0⟩, 5, none, false⟩ (Or.inr ?_) ?_ ?_ ?_ ?_ ?_ (.recordOpen 3)
      (Or.inl ?_)).2.1 ?_ ?_ ?_ ?_)⟩ <;> decide +kernel

def recordsEnd1 : Sys2Proof.Machine.State :=
  st [(CAP_STATE_STATE 3, RECORDING), (CAPCLASS_LEN_REARM_MIN 3 31, 15)] 100 (fun d =>
      { ((onTile 3 ((fun x => { x with cap := { x.cap with rec_ := some ⟨⟨90, 3, 7, 3, 0⟩, 1, 0, none, 31, false, 0, false, 0, 10, 10, 5, 2, 9, 1234, 0, 90, 200, false⟩ } }))) d) with ticks := 500 })

def recordsEnd2 : Sys2Proof.Machine.State :=
  st [(CAPCLASS_DEST_QUEUE 3 31, 200), (QT_CFG_EN 3 200, 1), (QT_CFG_SIZE_LOG2 3 200, 6), (QT_SEQ_A 3 200,
      0xFFFFFFFF), (CAP_STATE_STATE 3, REARM), (CAPCLASS_SRC_CHMASK 3 31, 1)] 200 (fun d =>
      { ((onTile 3 ((fun x => { x with cap := { x.cap with rec_ := some ⟨⟨98, 3, 7, 3, 0⟩, 1, 0, none, 31, false, 0, false, 0, 2, 2, 5, 2, 9, 1234, 0, 98, 40, false⟩, ring := [([1#8, 2#8], false), ([3#8, 4#8], true), ([5#8], false)], ringEnd := 100, rearmAt := 500 } }))) d) with ticks := 500 })

/-- A frame of the record stands in the ring still. -/
def recordsEnd3 : Sys2Proof.Machine.State :=
  st [(CAPCLASS_DEST_QUEUE 3 31, 200), (QT_CFG_EN 3 200, 1), (QT_CFG_SIZE_LOG2 3 200, 6), (QT_SEQ_A 3 200,
      0xFFFFFFFF), (CAP_STATE_STATE 3, REARM), (CAPCLASS_SRC_CHMASK 3 31, 1)] 200 (fun d =>
      { ((onTile 3 ((fun x => { x with cap := { x.cap with rec_ := some ⟨⟨98, 3, 7, 3, 0⟩, 1, 0, none, 31, false, 0, false, 0, 2, 2, 5, 2, 9, 1234, 0, 98, 20, false⟩, ring := [([1#8, 2#8], false), ([3#8, 4#8], true), ([5#8], false)], ringEnd := 100, rearmAt := 500 } }))) d) with ticks := 500 })

/-- States and operands that meet the hypotheses of RecordsEnd. -/
theorem witness_RecordsEnd (h : Clause.RecordsEnd) :
    Answers (Instr.rearmEnd 3) recordsEnd3 Runs ∧
    Answers (Instr.recordingEnd 3) recordsEnd1 Runs ∧
    Answers (Instr.rearmEnd 3) recordsEnd2 Runs := by
  refine ⟨runs (((h recordsEnd3 ?_ 3 ⟨⟨98, 3, 7, 3, 0⟩, 1, 0, none, 31, false, 0, false, 0, 2, 2, 5, 2, 9, 1234, 0, 98, 20, false⟩
      ?_).2 ?_ ?_ ?_).1 (Or.inl ?_)),
    runs ((h recordsEnd1 ?_ 3 ⟨⟨90, 3, 7, 3, 0⟩, 1, 0, none, 31, false, 0, false, 0, 10, 10, 5, 2, 9, 1234, 0, 90, 200, false⟩
      ?_).1 ?_ ?_),
    runs (((h recordsEnd2 ?_ 3 ⟨⟨98, 3, 7, 3, 0⟩, 1, 0, none, 31, false, 0, false, 0, 2, 2, 5, 2, 9, 1234, 0, 98, 40, false⟩
      ?_).2 ?_ ?_ ?_).2 ?_ ?_ ?_ ?_ ?_ ?_ ?_ ?_ ?_ ?_ ?_ (Or.inl ?_))⟩ <;> decide +kernel

def triggerGroups1 : Sys2Proof.Machine.State :=
  st [(CAP_STATE_STATE 4, ARMED), (CAPCLASS_SRC_COND_EN 4 0, 0x2000), (CAP_GROUP_MEMBER 5, 1)] 100 (fun d =>
      { (id d) with line := [⟨1, 31, ⟨101, 9, 7, 3, 0⟩⟩] })

def triggerGroups2 : Sys2Proof.Machine.State :=
  st [(CAP_STATE_STATE 4, ARMED), (CAPCLASS_SRC_COND_EN 4 0, 0x2000), (CAP_GROUP_MEMBER 5, 1)] 100 (fun d =>
      { (id d) with line := [⟨0, 31, ⟨90, 9, 7, 3, 0⟩⟩, ⟨0, 31, ⟨90, 9, 7, 3, 0⟩⟩] })

def triggerGroups3 : Sys2Proof.Machine.State :=
  st [(CAP_STATE_STATE 4, ARMED), (CAPCLASS_SRC_COND_EN 4 0, 0x2000), (CAP_GROUP_MEMBER 5, 1)] 100 (fun d =>
      { (id d) with line := [⟨2, 31, ⟨120, 9, 7, 3, 0⟩⟩, ⟨2, 31, ⟨120, 9, 7, 3, 0⟩⟩] })

def triggerGroups4 : Sys2Proof.Machine.State :=
  st ([(CAP_XGROUP_EN 0, 1), (CAP_XLINKS 0, 0x80000003), (CAP_XCOUNT_RECEIVED 0, 0xFFFF)] ++ linkUp 31 31 0 ++ linkUp 1 8 2) 100

def triggerGroups5 : Sys2Proof.Machine.State :=
  st [(CAP_STATE_STATE 4, REARM), (CAPCLASS_SRC_COND_EN 4 0, 0x2000)] 100 (fun d => { d with line := [⟨1, 31, ⟨70, 9, 7, 3, 0⟩⟩] })

/-- A trigger token of class 31 with the highest origin. -/
def farToken : BitVec 64 :=
  BitVec.ofNat 64 (trigBlock (2 + 31 * 4 + 101 * 2 ^ 7 + 9 * 2 ^ 31 + 7 * 2 ^ 35 + 31 * 2 ^ 39 + 63 * 2 ^ 44))

/-- States and operands that meet the hypotheses of TriggerGroups. -/
theorem witness_TriggerGroups (h : Clause.TriggerGroups) :
    Answers Instr.triggerMessage triggerGroups5 Runs ∧
    Answers Instr.triggerMessage triggerGroups1 Runs ∧
    Answers Instr.triggerMessage triggerGroups2 Runs ∧
    Answers Instr.triggerMessage triggerGroups3 Runs ∧
    Answers (Instr.triggerToken 31 [(0, farToken)]) triggerGroups4 Runs := by
  refine ⟨runs ((h triggerGroups5 ?_).1 ⟨1, 31, ⟨70, 9, 7, 3, 0⟩⟩ [] ?_ ?_ ?_),
    runs ((h triggerGroups1 ?_).2.1 ⟨1, 31, ⟨101, 9, 7, 3, 0⟩⟩ [] ?_ (Or.inr ?_)),
    runs ((h triggerGroups2 ?_).2.1 ⟨0, 31, ⟨90, 9, 7, 3, 0⟩⟩ [⟨0, 31, ⟨90, 9, 7, 3, 0⟩⟩] ?_ (Or.inl ?_)),
    runs ((h triggerGroups3 ?_).2.1 ⟨2, 31, ⟨120, 9, 7, 3, 0⟩⟩ [⟨2, 31, ⟨120, 9, 7, 3, 0⟩⟩] ?_ (Or.inl ?_)),
    runs ((h triggerGroups4 ?_).2.2 31 0 farToken ?_ ?_ ?_ ?_ ?_ ?_)⟩ <;> decide +kernel

def eventsLeave1 : Sys2Proof.Machine.State :=
  st [(NT_NOW, 0x123456789ABCDEF0)] 100 id

def eventsLeave2 : Sys2Proof.Machine.State :=
  st [] 100 id

def eventsLeave3 : Sys2Proof.Machine.State :=
  st [(EVENTS_ERR_MERGED, 0xFFFFFFFF), (EVPORT_IN 31 15, 511), (EVENTS_NOTE_EN 15, 0x80000000), (EVENTS_ALERT_MASK 3
      15, 0x80000000)] 100 (fun d =>
      { d with held := [⟨3, 1, false, 90, 5⟩, ⟨511, 6, false, 90, 5⟩, ⟨511, 7, true, 91, 5⟩, ⟨511, 2, false, 92, 5⟩] })

def eventsLeave4 : Sys2Proof.Machine.State :=
  st [] 100 (fun d => { d with held := [⟨0, 0, false, 90, 5⟩] })

/-- States and operands that meet the hypotheses of EventsLeave. -/
theorem witness_EventsLeave (h : Clause.EventsLeave) :
    Answers (Instr.eventsEvtFire 511) eventsLeave1 Runs ∧
    Answers (Instr.eventEmit 0) eventsLeave2 Runs ∧
    Answers (Instr.eventEmit 511) eventsLeave3 Runs ∧
    Answers (Instr.eventEmit 0) eventsLeave4 Runs := by
  refine ⟨runs ((h eventsLeave1 ?_ 511).1),
   runs ((h eventsLeave2 ?_ 0).2.1 ?_),
   runs ((h eventsLeave3 ?_ 511).2.2 ⟨511, 6, false, 90, 5⟩ [⟨511, 7, true, 91, 5⟩, ⟨511, 2, false,
       92, 5⟩] ?_),
   runs ((h eventsLeave4 ?_ 0).2.2 ⟨0, 0, false, 90, 5⟩ [] ?_)⟩ <;> decide +kernel

/-- The event of a source on its way to consumers. -/
def under (src : Nat) (c : Consumer) : EventMsg := ⟨src, 7, true, 90, 5, [c]⟩

def eventsArrive1 : Sys2Proof.Machine.State :=
  st [(EVPORT_IN 31 15, 2 ^ (EVPORT_IN 31 15).width - 1)] 100 (fun d => { d with flight := [under 3 .note, ⟨510, 7, true, 90, 5, [.note, .input 31 15]⟩] })

def eventsArrive2 : Sys2Proof.Machine.State :=
  st [(EVPORT_IN 31 15, 2 ^ (EVPORT_IN 31 15).width - 1), (EVPORT_PEND_GEN_SET 31 1 7, 1), (EVPORT_OVRCNT_HI 31 7, 0xFFFF)] 100
    (fun d => { d with flight := [under 510 (.input 31 15)] })

def eventsArrive3 : Sys2Proof.Machine.State :=
  st [(EVPORT_IN 31 15, 2 ^ (EVPORT_IN 31 15).width - 1), (EVPORT_PEND_GEN_SET 31 1 7, 1), (EVPORT_OVR 31, 0x8000)] 100
    (fun d => { d with flight := [under 510 (.input 31 15)] })

/-- The housekeeping start input hears a source at its number and holds what it is given. -/
def hkHears (src : Nat) (busy : Bool) (latched : Option Nat) : Sys2Proof.Machine.State :=
  st [(HK_CTRL_MODE, 2), (HK_TRIG_SOURCE, src)] 100
    (fun d => { d with flight := [under src .hkStart], hk := { d.hk with busyInput := busy, latched := latched } })

def eventsArrive5 : Sys2Proof.Machine.State :=
  st [(QT_CFG_EN 31 255, 1), (QT_CFG_SIZE_LOG2 31 255, 6), (QT_SEQ_A 31 255, 0xFFFFFFFF), (EVENTS_NOTE_Q, 16127),
    (EVENTS_NOTE_EN 14, 1)] 100 (fun d => { d with flight := [under 448 .note], notes := [⟨448, none, none, 12⟩] })

def eventsArrive6 : Sys2Proof.Machine.State :=
  st [(EVPORT_NOTE_Q 31, 255), (EVENTS_NOTE_LOST, 0xFFFF), (EVENTS_NOTE_EN 13, 0x80000000), (DEV_ERRLOG_HEAD, 0xFFFFFFFF)] 100
    (fun d => { d with flight := [under 447 .note] })

/-- No input listens: the event of source 510 passes by its latch and its notification logic. -/
def eventsArrive7 : Sys2Proof.Machine.State :=
  st [] 100 (fun d => { d with flight := [⟨510, 7, true, 90, 5, [.note, .input 31 15]⟩] })

/-- A unit of tile 31 waits for events at its input 15. -/
def eventsArrive8 : Sys2Proof.Machine.State :=
  st [(EVPORT_IN 31 15, 2 ^ (EVPORT_IN 31 15).width - 1), (CAP_STATE_STATE 31, ARMED), (CAPCLASS_SRC_COND_EN 31 0, 0x1000), (CAPCLASS_COND_EVIN 31 0, 15)] 100
    (fun d => { d with flight := [under 510 (.input 31 15)] })

/-- States and operands that meet the hypotheses of EventsArrive. -/
theorem witness_EventsArrive (h : Clause.EventsArrive) :
    Answers (Instr.eventArrival (Sink.input 31 15) 510 true []) eventsArrive7 Runs ∧
    Answers (Instr.eventArrival Sink.note 510 false []) eventsArrive7 Runs ∧
    Answers (Instr.eventArrival (Sink.input 31 15) 510 true []) eventsArrive8 Runs ∧
    Answers (Instr.eventArrival (Sink.input 31 15) 510 true []) eventsArrive1 Runs ∧
    Answers (Instr.eventArrival (Sink.input 31 15) 510 true []) eventsArrive2 Runs ∧
    Answers (Instr.eventArrival (Sink.input 31 15) 510 true []) eventsArrive3 Runs := by
  refine ⟨runs ((h eventsArrive7 ?_ 510 ⟨510, 7, true, 90, 5, [.note, .input 31 15]⟩ [under 510 .note]).1 (.input 31 15) true
      ?_ ?_),
    runs ((h eventsArrive7 ?_ 510 ⟨510, 7, true, 90, 5, [.note, .input 31 15]⟩ [under 510 (.input 31 15)]).1 .note false ?_ ?_),
    runs ((h eventsArrive8 ?_ 510 (under 510 (.input 31 15)) []).2.1 31 15 ?_ ?_ ?_ ?_ ?_ ?_),
    runs (((h eventsArrive1 ?_ 510 ⟨510, 7, true, 90, 5, [.note, .input 31 15]⟩ [under 510 .note, under 3 .note]).2.2.1 31 15
      ?_ ?_ ?_).1 ?_),
    runs (((h eventsArrive2 ?_ 510 (under 510 (.input 31 15)) []).2.2.1 31 15 ?_ ?_ ?_).2 ?_),
    runs (((h eventsArrive3 ?_ 510 (under 510 (.input 31 15)) []).2.2.1 31 15 ?_ ?_ ?_).2 ?_)⟩ <;> decide +kernel

/-- States and operands that meet the further hypotheses of EventsArrive. -/
theorem witness_EventsArrive_2 (h : Clause.EventsArrive) :
    Answers (Instr.eventArrival Sink.hkStart 0 true []) (hkHears 0 false none) Runs ∧
    Answers (Instr.eventArrival Sink.hkStart 447 true []) (hkHears 447 true none) Runs ∧
    Answers (Instr.eventArrival Sink.hkStart 0 true []) (hkHears 0 true (some 3)) Runs ∧
    Answers (Instr.eventArrival Sink.note 448 true []) eventsArrive5 Runs ∧
    Answers (Instr.eventArrival Sink.note 447 true []) eventsArrive6 Runs ∧
    Answers (Instr.eventArrival Sink.note 447 false []) eventsArrive6 Runs := by
  refine ⟨runs (((h (hkHears 0 false none) ?_ 0 (under 0 .hkStart) []).2.2.2.1 ?_ ?_).1 ?_ ?_),
    runs (((h (hkHears 447 true none) ?_ 447 (under 447 .hkStart) []).2.2.2.1 ?_ ?_).2.1 ?_ ?_),
    runs (((h (hkHears 0 true (some 3)) ?_ 0 (under 0 .hkStart) []).2.2.2.1 ?_ ?_).2.2 ?_ ?_),
    runs (((h eventsArrive5 ?_ 448 (under 448 .note) []).2.2.2.2.1 ?_ ?_ ?_ ?_).1 ?_ ?_ ?_ ?_ ?_),
    runs (((h eventsArrive6 ?_ 447 (under 447 .note) []).2.2.2.2.1 ?_ ?_ ?_ ?_).2 ?_),
    runs ((h eventsArrive6 ?_ 447 (under 447 .note) []).2.2.2.2.2.1 ?_ ?_)⟩ <;> decide +kernel

/-- Two events reach input 15 of tile 31 in one cycle. -/
def eventsArrive9 : Sys2Proof.Machine.State :=
  st [(EVPORT_IN 31 15, 2 ^ (EVPORT_IN 31 15).width - 1)] 100
    (fun d => { d with flight := [under 510 (.input 31 15), under 3 (.input 31 15)] })

/-- States and operands that meet the hypotheses of EventsArrive for two events of one cycle. -/
theorem witness_EventsArrive_3 (h : Clause.EventsArrive) :
    Answers (Instr.eventArrival (Sink.input 31 15) 3 true [(510, true)]) eventsArrive9 Runs ∧
    Answers (Instr.eventArrival (Sink.input 31 15) 510 true [(3, true)]) eventsArrive9 Runs := by
  have k := (h eventsArrive9 (by decide +kernel) 3 (under 3 (.input 31 15)) [under 510 (.input 31 15)]).2.2.2.2.2.2 31 15 510
    (under 510 (.input 31 15)) [under 3 (.input 31 15)] (by decide +kernel) (by decide +kernel) (by decide) (by decide +kernel)
    (by decide +kernel) (by decide +kernel) (by decide +kernel)
  exact ⟨runs (k _ (List.Mem.head _)), runs (k _ (List.Mem.tail _ (List.Mem.head _)))⟩

def sessions1 : Sys2Proof.Machine.State :=
  st (session ++ [(TRANSPORT_SESSION_EPOCH, 0xFFFF)]) 100 id

def sessions2 : Sys2Proof.Machine.State :=
  st (session ++ [(QT_CFG_EN 31 255, 1), (QT_CFG_SIZE_LOG2 31 255, 6), (QT_SEQ_A 31 255, 0xFFFFFFFF), (QTAIL 31 255,
      7), (QSENT 31 255, 9)]) 100 id

/-- States and operands that meet the hypotheses of Sessions. -/
theorem witness_Sessions (h : Clause.Sessions) :
    Answers (Instr.sessionBump) sessions1 Runs ∧
    Answers (Instr.claim 31 true 338288524927261089654018896841347694593 338288524927261089654018896841347694594
        65535) sessions1 Runs ∧
    Answers (Instr.claim 0 false 167772169 167772162 5) sessions2 Runs := by
  refine ⟨runs ((h sessions1 ?_).1),
   runs ((h sessions1 ?_).2 31 true 0xFE800000000000000000000000000001
       0xFE800000000000000000000000000002 0xFFFF),
   runs ((h sessions2 ?_).2 0 false 0x0A000009 0x0A000002 5)⟩ <;> decide +kernel

def datagramChecks1 : Sys2Proof.Machine.State :=
  st (session ++ [(TRANSPORT_CFG_ALLOW_EN, 1), (TRANSPORT_COUNT0_ALLOW_DROP, 0xFFFF)]) 100 id

def datagramChecks2 : Sys2Proof.Machine.State :=
  st (session ++ []) 100 id

def datagramChecks3 : Sys2Proof.Machine.State :=
  st (session ++ [(QT_CFG_EN 0 127, 1)]) 100 id

/-- States and operands that meet the hypotheses of DatagramChecks. -/
theorem witness_DatagramChecks (h : Clause.DatagramChecks) :
    Answers (Instr.datagramReceive 0 (ownerPkt (genondHeader 0 9 5 0 0 none))) datagramChecks1 Runs ∧
    Answers (Instr.datagramReceive 0 (ownerPkt [1#8])) datagramChecks2 Runs ∧
    Answers (Instr.datagramReceive 0 (ownerPkt (genondHeader 0 8 5 0 0 none))) datagramChecks2 Runs ∧
    Answers (Instr.datagramReceive 0 (ownerPkt (genondHeader 0 9 128 0 0 none))) datagramChecks2 Runs ∧
    Answers (Instr.datagramReceive 0 (ownerPkt (genondHeader 0 9 127 1 0 none))) datagramChecks3 Runs ∧
    Answers (Instr.datagramReceive 0 (ownerPkt (genondHeader 0 9 127 0 0 none))) datagramChecks2 Runs := by
  refine ⟨runs ((h datagramChecks1 ?_ 0 (ownerPkt (genondHeader 0 9 5 0 0 none)) (ownerUdp (genondHeader 0 9
      5 0 0 none)) ?_).1 ?_),
   runs ((h datagramChecks2 ?_ 0 (ownerPkt ([1#8])) (ownerUdp ([1#8])) ?_).2.1
       ?_ ?_),
   runs ((h datagramChecks2 ?_ 0 (ownerPkt (genondHeader 0 8 5 0 0 none)) (ownerUdp (genondHeader 0 8
       5 0 0 none)) ?_).2.2.1 ?_ ?_ ?_
       ?_),
   runs ((h datagramChecks2 ?_ 0 (ownerPkt (genondHeader 0 9 128 0 0 none)) (ownerUdp (genondHeader 0
       9 128 0 0 none)) ?_).2.2.2 ?_ ?_ (Or.inl
       ?_)),
   runs ((h datagramChecks3 ?_ 0 (ownerPkt (genondHeader 0 9 127 1 0 none)) (ownerUdp (genondHeader 0
       9 127 1 0 none)) ?_).2.2.2 ?_ ?_ (Or.inr (Or.inr
       ?_))),
   runs ((h datagramChecks2 ?_ 0 (ownerPkt (genondHeader 0 9 127 0 0 none)) (ownerUdp (genondHeader 0
       9 127 0 0 none)) ?_).2.2.2 ?_ ?_ (Or.inr (Or.inl
       ?_)))⟩ <;> decide +kernel

def datagramEntries1 : Sys2Proof.Machine.State :=
  st (session ++ [(QT_CFG_EN 31 127, 1), (QT_CFG_SIZE_LOG2 31 127, 6), (QT_SEQ_A 31 127, 0xFFFFFFFF), (QTAIL 31 127,
      0xFFFFFFC1)]) 100 id

def datagramEntries2 : Sys2Proof.Machine.State :=
  st (session ++ [(QT_CFG_EN 31 127, 1), (QT_CFG_EN 31 255, 1), (QT_CFG_SIZE_LOG2 31 255, 6), (QT_SEQ_A 31 255, 0),
      (QTAIL 31 255, 0xFFFFFFFF), (QSENT 31 255, 0)]) 100 id

/-- States and operands that meet the hypotheses of DatagramEntries. -/
theorem witness_DatagramEntries (h : Clause.DatagramEntries) :
    Answers (Instr.datagramReceive 0 (ownerPkt (genondHeader 0 9 15999 1 4294967295 none ++ entryBytes 3 0 4294967295
        [1#8, 2#8]))) datagramEntries1 Runs ∧
    Answers (Instr.datagramReceive 0 (ownerPkt (genondHeader 0 9 15999 0 0 (some (16127, 0))))) datagramEntries2 Runs
        := by
  refine ⟨runs ((h datagramEntries1 ?_ 0 (ownerPkt (genondHeader 0 9 15999 1 0xFFFFFFFF none ++ (entryBytes
      3 0 0xFFFFFFFF [1#8, 2#8]))) (ownerUdp (genondHeader 0 9 15999 1 0xFFFFFFFF none ++ (entryBytes 3 0 0xFFFFFFFF
      [1#8, 2#8]))) ?_ ?_ ?_ ?_
      ?_ (Or.inl ?_)).1 (entryBytes 3 0 0xFFFFFFFF [1#8, 2#8]) ?_
      ?_ ?_ ?_ ?_ ?_
      ?_ ?_ ?_),
   runs ((h datagramEntries2 ?_ 0 (ownerPkt (genondHeader 0 9 15999 0 0 (some (16127, 0)))) (ownerUdp
       (genondHeader 0 9 15999 0 0 (some (16127, 0)))) ?_ ?_ ?_
       ?_ ?_ (Or.inl ?_)).2 ?_ ?_
       ?_ ?_ ?_ ?_ ?_)⟩ <;> decide +kernel

def queueTimers1 : Sys2Proof.Machine.State :=
  st (session ++ [(QT_CFG_EN 31 255, 1), (QT_CFG_SIZE_LOG2 31 255, 6), (QT_SEQ_A 31 255, 0), (QTAIL 31 255,
      0xFFFFFFFE), (QSENT 31 255, 0xFFFFFFFF)]) 100 id [(tileBase 31 + 0x1C0000 + 32 * 63, entryBytes 3 0 0xFFFFFFFF
      [1#8] ++ []), (tileBase 31 + 0x1C0000, entryBytes 3 0 0 [2#8])]

def queueTimers2 : Sys2Proof.Machine.State :=
  st (session ++ [(QT_CFG_EN 31 127, 1), (QT_CFG_SIZE_LOG2 31 127, 6), (QT_SEQ_A 31 127, 0), (QTAIL 31 127,
      0xFFFFFFFF), (QREPORTED 31 127, 7)]) 100 id

/-- Queue 255 of tile 31 has sent its three entries, none of which has come back. -/
def allSent : List (Fld × Nat) :=
  session ++ [(QT_CFG_EN 31 255, 1), (QT_CFG_SIZE_LOG2 31 255, 6), (QT_SEQ_A 31 255, 0), (QTAIL 31 255, 0xFFFFFFFE),
    (QSENT 31 255, 1), (TRANSPORT_COUNT2_RETX, 0xFFFFFFFF)]

def queueTimers3 : Sys2Proof.Machine.State :=
  st allSent 100 id [(tileBase 31 + 0x1C0000 + 32 * 62, entryBytes 3 0 0xFFFFFFFE [3#8] ++ entryBytes 3 0 0xFFFFFFFF [1#8]),
    (tileBase 31 + 0x1C0000, entryBytes 3 0 0 [2#8])]

def queueTimers4 : Sys2Proof.Machine.State :=
  st [(QGAPPED 31 127, 1)] 100 id

/-- The ring lies in a channel that has faulted. -/
def queueTimers5 : Sys2Proof.Machine.State :=
  st (allSent ++ [(QT_CFG_PLACE 31 255, 1), (QT_CFG_CHAN 31 255, 1), (DDR_STATUS_STATE 1, DDR_FAULT)]) 100

/-- States and operands that meet the hypotheses of QueueTimers. -/
theorem witness_QueueTimers (h : Obligations.QueueTimers) :
    Answers (Instr.coalesceTimeout 16127) queueTimers1 Runs ∧
    Answers (Instr.coalesceTimeout 15999) queueTimers2 Runs ∧
    Answers (Instr.retxTimeout 15999) queueTimers4 Runs ∧
    Answers (Instr.retxTimeout 16127) queueTimers5 Runs ∧
    Answers (Instr.replay 16127 0xFFFFFFFF) queueTimers5 Runs := by
  refine ⟨runs ((h queueTimers1 ?_ ?_ 16127).1 0 ?_ ?_ ?_ ?_ ?_), runs ((h queueTimers2 ?_ ?_ 15999).2.1 0 ?_ ?_ ?_ ?_),
    runs ((h queueTimers4 ?_ ?_ 15999).2.2.1 ?_),
    runs (((h queueTimers5 ?_ ?_ 16127).2.2.2.1 0 (.retxTimeout 16127) 0xFFFFFFFE [TRANSPORT_COUNT2_RETX] 0 ?_ ?_ ?_
      (Or.inl ?_)).2.2 ?_ ?_),
    runs (((h queueTimers5 ?_ ?_ 16127).2.2.2.1 0xFFFFFFFF (.replay 16127 0xFFFFFFFF) 0xFFFFFFFF [] 0 ?_ ?_ ?_ (Or.inr ?_)).2.2
      ?_ ?_)⟩ <;> decide +kernel

/-- States and operands that meet the hypotheses of QueueTimers for entries sent once more. -/
theorem witness_QueueTimers_2 (h : Obligations.QueueTimers) :
    Answers (Instr.replay 16127 1) queueTimers3 Runs ∧
    Answers (Instr.retxTimeout 16127) queueTimers3 Runs ∧
    Answers (Instr.replay 16127 4294967280) queueTimers3 Runs ∧
    Answers (Instr.replay 16127 4294967295) queueTimers3 Runs := by
  refine ⟨runs (((h queueTimers3 ?_ ?_ 16127).2.2.2.1 1 (.replay 16127 1) 1 [] 0 ?_ ?_ ?_ (Or.inr ?_)).2.1 ?_),
    runs (((h queueTimers3 ?_ ?_ 16127).2.2.2.1 0 (.retxTimeout 16127) 0xFFFFFFFE [TRANSPORT_COUNT2_RETX] 0 ?_ ?_ ?_
      (Or.inl ?_)).1 ?_ ?_ ?_ ?_),
    runs (((h queueTimers3 ?_ ?_ 16127).2.2.2.1 4294967280 (.replay 16127 4294967280) 0xFFFFFFFE [] 0 ?_ ?_ ?_ (Or.inr ?_)).1
      ?_ ?_ ?_ ?_),
    runs (((h queueTimers3 ?_ ?_ 16127).2.2.2.1 4294967295 (.replay 16127 4294967295) 0xFFFFFFFF [] 0 ?_ ?_ ?_ (Or.inr ?_)).1
      ?_ ?_ ?_ ?_)⟩ <;> decide +kernel

/-- Queue 255 of tile 31 is empty, entries do not coalesce, and a word pushes to it. -/
def queueTimers6 : Sys2Proof.Machine.State :=
  st (session ++ [(QT_CFG_EN 31 255, 1), (QT_CFG_SIZE_LOG2 31 255, 6), (QT_SEQ_A 31 255, 5), (QTAIL 31 255, 6),
      (QSENT 31 255, 6), (TRANSPORT_TIMING_COALESCE, 0), (DSP_AGU_P 31 3, 64)]) 100
    (onTile 31 (inWord (word (1 * 2 ^ 55 + 255 * 2 ^ 46 + 3 * 2 ^ 42) [.que, .seq]))) [(tileBase 31 + 0x80040, [1#8, 2#8])]

/-- States and operands that meet the hypotheses of QueueTimers for an entry that leaves at once. -/
theorem witness_QueueTimers_3 (h : Obligations.QueueTimers) : Answers (Instr.quePush 31) queueTimers6 Runs := by
  refine runs ((h queueTimers6 ?_ ?_ 16127).2.2.2.2 0 (word (1 * 2 ^ 55 + 255 * 2 ^ 46 + 3 * 2 ^ 42) [.que, .seq]) [.seq]
    ?_ ?_ ?_ ?_ ?_ ?_ ?_ ?_ ?_ ?_ ?_ ?_) <;> decide +kernel

def registerEntries1 : Sys2Proof.Machine.State :=
  st [(QT_CFG_EN 31 127, 1), (QT_CFG_SIZE_LOG2 31 127, 6), (QT_SEQ_A 31 127, 0), (QTAIL 31 127, 0xFFFFFFFF),
      (QT_CFG_CONSUMER 31 127, CONSUMER_REG), (QT_CFG_RESP 31 127, 255), (QT_CFG_EN 31 255, 1), (QT_CFG_SIZE_LOG2 31
      255, 6), (QT_BASE 31 255, 64)] 100 id [(tileBase 31 + 0x1C0000 + 32 * 63, (entryBytes 16 0 0xFFFFFFFF (leBytes 5
      0 ++ leBytes 1 4)))]

def registerEntries2 : Sys2Proof.Machine.State :=
  st [(QT_CFG_EN 31 127, 1), (QT_CFG_SIZE_LOG2 31 127, 6), (QT_SEQ_A 31 127, 0), (QTAIL 31 127, 0xFFFFFFFF),
      (QT_CFG_CONSUMER 31 127, CONSUMER_REG), (QT_CFG_RESP 31 127, 255), (QT_CFG_EN 31 255, 1), (QT_CFG_SIZE_LOG2 31
      255, 6), (QT_BASE 31 255, 64)] 100 id [(tileBase 31 + 0x1C0000 + 32 * 63, (entryBytes 16 0 0xFFFFFFFF (leBytes 5
      2 ++ leBytes 1 4)))]

def registerEntries3 : Sys2Proof.Machine.State :=
  st [(QT_CFG_EN 31 127, 1), (QT_CFG_SIZE_LOG2 31 127, 6), (QT_SEQ_A 31 127, 0), (QTAIL 31 127, 0xFFFFFFFF),
      (QT_CFG_CONSUMER 31 127, CONSUMER_REG), (QT_CFG_RESP 31 127, 255), (QT_CFG_EN 31 255, 1), (QT_CFG_SIZE_LOG2 31
      255, 6), (QT_BASE 31 255, 64)] 100 id [(tileBase 31 + 0x1C0000 + 32 * 63, (entryBytes 17 1 0xFFFFFFFF (leBytes 5
      0x10000800 ++ leBytes 1 2 ++ leBytes 2 0 ++ leBytes 4 5 ++ leBytes 4 6)))]

def registerEntries4 : Sys2Proof.Machine.State :=
  st [(QT_CFG_EN 31 127, 1), (QT_CFG_SIZE_LOG2 31 127, 6), (QT_SEQ_A 31 127, 0), (QTAIL 31 127, 0xFFFFFFFF),
      (QT_CFG_CONSUMER 31 127, CONSUMER_REG), (QT_CFG_RESP 31 127, 255), (QT_CFG_EN 31 255, 1), (QT_CFG_SIZE_LOG2 31
      255, 6), (QT_BASE 31 255, 64)] 100 id [(tileBase 31 + 0x1C0000 + 32 * 63, (entryBytes 17 0 0xFFFFFFFF (leBytes 5
      0x10000800 ++ leBytes 1 2 ++ leBytes 2 0 ++ leBytes 4 5 ++ leBytes 4 6)))]

def registerEntries5 : Sys2Proof.Machine.State :=
  st [(QT_CFG_EN 31 127, 1), (QT_CFG_SIZE_LOG2 31 127, 6), (QT_SEQ_A 31 127, 0), (QTAIL 31 127, 0xFFFFFFFF),
      (QT_CFG_CONSUMER 31 127, CONSUMER_REG), (QT_CFG_RESP 31 127, 255), (QT_CFG_EN 31 255, 1), (QT_CFG_SIZE_LOG2 31
      255, 6), (QT_BASE 31 255, 64)] 100 id [(tileBase 31 + 0x1C0000 + 32 * 63, (entryBytes 18 1 0xFFFFFFFF (leBytes 5
      0x10000800 ++ leBytes 1 1 ++ leBytes 2 0 ++ leBytes 4 5 ++ leBytes 4 6)))]

def registerEntries6 : Sys2Proof.Machine.State :=
  st [(QT_CFG_EN 31 127, 1), (QT_CFG_SIZE_LOG2 31 127, 6), (QT_SEQ_A 31 127, 0), (QTAIL 31 127, 0xFFFFFFFF),
      (QT_CFG_CONSUMER 31 127, CONSUMER_REG), (QT_CFG_RESP 31 127, 255), (QT_CFG_EN 31 255, 1), (QT_CFG_SIZE_LOG2 31
      255, 6), (QT_BASE 31 255, 64)] 100 id [(tileBase 31 + 0x1C0000 + 32 * 63, (entryBytes 18 0 0xFFFFFFFF (leBytes 5
      0x10000800 ++ leBytes 1 1 ++ leBytes 2 0 ++ leBytes 4 5 ++ leBytes 4 6)))]

def registerEntries7 : Sys2Proof.Machine.State :=
  st [(QT_CFG_EN 31 127, 1), (QT_CFG_SIZE_LOG2 31 127, 6), (QT_SEQ_A 31 127, 0), (QTAIL 31 127, 0xFFFFFFFF),
      (QT_CFG_CONSUMER 31 127, CONSUMER_REG), (QT_CFG_RESP 31 127, 255), (QT_CFG_EN 31 255, 1), (QT_CFG_SIZE_LOG2 31
      255, 6), (QT_BASE 31 255, 64)] 100 id [(tileBase 31 + 0x1C0000 + 32 * 63, (entryBytes 16 0 0xFFFFFFFF (leBytes 5
      0x10080000 ++ leBytes 1 1))), (0x10080000, [1#8, 2#8, 3#8])]

/-- States and operands that meet the hypotheses of RegisterEntries. -/
theorem witness_RegisterEntries (h : Obligations.RegisterEntries) :
    Answers (Instr.regRd 31 127 []) registerEntries1 Runs ∧
    Answers (Instr.regRd 31 127 [3]) registerEntries2 Runs ∧
    Answers (Instr.regWr 31 127 []) registerEntries3 Runs ∧
    Answers (Instr.regWr 31 127 []) registerEntries4 Runs ∧
    Answers (Instr.regRmw 31 127 true true) registerEntries5 Runs ∧
    Answers (Instr.regRmw 31 127 true true) registerEntries6 Runs ∧
    Answers (Instr.regRd 31 127 []) registerEntries7 Runs := by
  refine ⟨runs ((h registerEntries1 ?_ 31 127 (entryBytes 16 0 0xFFFFFFFF (leBytes 5 0 ++ leBytes 1 4))
      ?_ ?_ ?_).1 [] ?_ _ (Option.some_get
      ?_).symm),
   runs ((h registerEntries2 ?_ 31 127 (entryBytes 16 0 0xFFFFFFFF (leBytes 5 2 ++ leBytes 1 4))
       ?_ ?_ ?_).1 [3] ?_ _ (Option.some_get
       ?_).symm),
   runs (((h registerEntries3 ?_ 31 127 (entryBytes 17 1 0xFFFFFFFF (leBytes 5 0x10000800 ++ leBytes
       1 2 ++ leBytes 2 0 ++ leBytes 4 5 ++ leBytes 4 6)) ?_ ?_ ?_).2.1 []
       ?_).1 ?_),
   runs (((h registerEntries4 ?_ 31 127 (entryBytes 17 0 0xFFFFFFFF (leBytes 5 0x10000800 ++ leBytes
       1 2 ++ leBytes 2 0 ++ leBytes 4 5 ++ leBytes 4 6)) ?_ ?_ ?_).2.1 []
       ?_).2 ?_ _ (Option.some_get ?_).symm),
   runs (((h registerEntries5 ?_ 31 127 (entryBytes 18 1 0xFFFFFFFF (leBytes 5 0x10000800 ++ leBytes
       1 1 ++ leBytes 2 0 ++ leBytes 4 5 ++ leBytes 4 6)) ?_ ?_ ?_).2.2.1 true true
       ?_).1 ?_),
   runs (((h registerEntries6 ?_ 31 127 (entryBytes 18 0 0xFFFFFFFF (leBytes 5 0x10000800 ++ leBytes
       1 1 ++ leBytes 2 0 ++ leBytes 4 5 ++ leBytes 4 6)) ?_ ?_ ?_).2.2.1 true true
       ?_).2 ?_ _ (Option.some_get ?_).symm),
   runs (((h registerEntries7 ?_ 31 127 (entryBytes 16 0 0xFFFFFFFF (leBytes 5 0x10080000 ++ leBytes 1 1)) ?_ ?_ ?_).2.2.2
       ?_ ?_ ?_ ?_ ?_ ?_ ?_ ?_).1 ?_ ?_)⟩ <;> decide +kernel

/-- Queue 127 of tile 31 holds an entry of a type, with its flags, for one word of tile memory. -/
def oneWord (type flags : Nat) : List Byte :=
  entryBytes type flags 0xFFFFFFFF (leBytes 5 0x10080000 ++ leBytes 1 1 ++ leBytes 2 0 ++ leBytes 4 0x00FF00F0 ++ leBytes 4 0x12345678)

def oneWordState (type flags : Nat) : Sys2Proof.Machine.State :=
  st [(QT_CFG_EN 31 127, 1), (QT_CFG_SIZE_LOG2 31 127, 6), (QT_SEQ_A 31 127, 0), (QTAIL 31 127, 0xFFFFFFFF),
      (QT_CFG_CONSUMER 31 127, CONSUMER_REG), (QT_CFG_RESP 31 127, 255), (QT_CFG_EN 31 255, 1), (QT_CFG_SIZE_LOG2 31
      255, 6), (QT_BASE 31 255, 64)] 100 id [(tileBase 31 + 0x1C0000 + 32 * 63, oneWord type flags), (0x10080000, [1#8, 2#8, 3#8])]

/-- States and operands that meet the hypotheses of RegisterEntries for a write, a posted write and a read-modify-write of one word. -/
theorem witness_RegisterEntries_2 (h : Obligations.RegisterEntries) :
    Answers (Instr.regWr 31 127 []) (oneWordState 17 0) Runs ∧
    Answers (Instr.regWr 31 127 []) (oneWordState 17 1) Runs ∧
    Answers (Instr.regRmw 31 127 true false) (oneWordState 18 0) Runs := by
  refine ⟨runs (((h (oneWordState 17 0) ?_ 31 127 (oneWord 17 0) ?_ ?_ ?_).2.2.2 ?_ ?_ ?_ ?_ ?_ ?_ ?_ ?_).2.1 ?_ ?_ ?_),
    runs (((h (oneWordState 17 1) ?_ 31 127 (oneWord 17 1) ?_ ?_ ?_).2.2.2 ?_ ?_ ?_ ?_ ?_ ?_ ?_ ?_).2.2.1 ?_ ?_ ?_),
    runs (((h (oneWordState 18 0) ?_ 31 127 (oneWord 18 0) ?_ ?_ ?_).2.2.2 ?_ ?_ ?_ ?_ ?_ ?_ ?_ ?_).2.2.2 ?_ ?_ ?_ true false)⟩ <;>
    decide +kernel

def claspFeeds1 : Sys2Proof.Machine.State :=
  st [(QT_CFG_EN 31 127, 1), (QT_CFG_SIZE_LOG2 31 127, 6), (QT_SEQ_A 31 127, 0), (QTAIL 31 127, 0xFFFFFFFF),
      (QT_CFG_CONSUMER 31 127, 1), (SEQ_STATE_STATE 31, RUN), (CLASP_QUEUE_DEPTH 31 32, 1), (CLASP_ABORT_CTRL_GEN 31,
      3)] 100 id [(tileBase 31 + 0x1C0000 + 32 * 63, (entryBytes 1 0 0xFFFFFFFF (leBytes 12 (500 + 15 * 2 ^ 64 + 1 * 2
      ^ 68 + 32 * 2 ^ 72) ++ leBytes 12 7)))]

def claspFeeds2 : Sys2Proof.Machine.State :=
  st [(QT_CFG_EN 31 127, 1), (QT_CFG_SIZE_LOG2 31 127, 6), (QT_SEQ_A 31 127, 0), (QTAIL 31 127, 0xFFFFFFFF),
      (QT_CFG_CONSUMER 31 127, 1), (SEQ_STATE_STATE 31, RUN), (CLASP_QUEUE_DEPTH 31 32, 1), (CLASP_ABORT_CTRL_GEN 31,
      3)] 100 id [(tileBase 31 + 0x1C0000 + 32 * 63, (entryBytes 1 0 0xFFFFFFFF (leBytes 12 (500 + 15 * 2 ^ 64 + 1 * 2
      ^ 68 + 33 * 2 ^ 72) ++ leBytes 12 7)))]

/-- States and operands that meet the hypotheses of ClaspFeeds. -/
theorem witness_ClaspFeeds (h : Clause.ClaspFeeds) :
    Answers (Instr.claspFeedMove 31 127) claspFeeds1 Runs ∧
    Answers (Instr.claspFeedMove 31 127) claspFeeds2 Runs := by
  refine ⟨runs ((h claspFeeds1 ?_ 31 127 (entryBytes 1 0 0xFFFFFFFF (leBytes 12 (500 + 15 * 2 ^ 64 + 1 * 2 ^
      68 + 32 * 2 ^ 72) ++ leBytes 12 7)) ?_ ?_ ?_
      ?_ (unchained ?_) ?_).1 ?_ ?_),
   runs ((h claspFeeds2 ?_ 31 127 (entryBytes 1 0 0xFFFFFFFF (leBytes 12 (500 + 15 * 2 ^ 64 + 1 * 2 ^
       68 + 33 * 2 ^ 72) ++ leBytes 12 7)) ?_ ?_ ?_
       ?_ (unchained ?_) ?_).2 ?_)⟩ <;> decide +kernel

def laneBringUp1 : Sys2Proof.Machine.State :=
  st [(LANE_CFG_ROLE 31, 2), (LANE_STATUS_STATE 31, LANE_SIGNAL), (LANE_SIG 31, 1), (LANE_STATUS_STATE 24,
      LANE_SIGNAL)] 100 id

def laneBringUp2 : Sys2Proof.Machine.State :=
  st [(LANE_STATUS_STATE 31, LANE_SIGNAL), (QUAD_LOCKED 3, 1)] 100 id

def laneBringUp3 : Sys2Proof.Machine.State :=
  st [(LANE_STATUS_STATE 0, LANE_SIGNAL)] 100 id

def laneBringUp4 : Sys2Proof.Machine.State :=
  st [(LANE_STATUS_STATE 31, LANE_CDR)] 100 id

def laneBringUp5 : Sys2Proof.Machine.State :=
  st [(LANE_STATUS_STATE 31, LANE_ALIGN)] 100 id

def laneBringUp6 : Sys2Proof.Machine.State :=
  st [(LANE_STATUS_STATE 31, LANE_ALIGN), (LANE_CFG_ROLE 31, 3), (LANE_PRBS_PAT 31, 2)] 100 id

def laneBringUp7 : Sys2Proof.Machine.State :=
  st [(LANE_STATUS_STATE 31, LANE_ALIGN), (LANE_CFG_POL_AUTO 31, 1), (LANE_FLIPS 31, 0), (LANE_CFG_RX_INV 31, 1),
      (LANE_EVT_EN_POL_FLIP 31, 1), (LANE_EVT_POL_FLIP 31, 0)] 100 id

def laneBringUp8 : Sys2Proof.Machine.State :=
  st [(LANE_STATUS_STATE 31, LANE_ALIGN), (LANE_CFG_POL_AUTO 31, 1), (LANE_FLIPS 31, 1), (LANE_CFG_RX_INV 31, 0),
      (LANE_EVT_EN_POL_FLIP 31, 1), (LANE_EVT_POL_FLIP 31, 1)] 100 id

def laneBringUp9 : Sys2Proof.Machine.State :=
  st [(LANE_STATUS_STATE 31, LANE_ADAPT), (LANE_STATUS_FROZEN 31, 1), (LANE_EVT_EN_UP 31, 1)] 100 id

/-- States and operands that meet the hypotheses of LaneBringUp. -/
theorem witness_LaneBringUp_1 (h : Clause.LaneBringUp) :
    Answers (Instr.quadPllLock 3) laneBringUp1 Runs ∧
    Answers (Instr.signalDetect 31) laneBringUp2 Runs ∧
    Answers (Instr.signalDetect 0) laneBringUp3 Runs ∧
    Answers (Instr.cdrLock 31) laneBringUp4 Runs ∧
    Answers (Instr.blockLock 31) laneBringUp5 Runs ∧
    Answers (Instr.blockLock 31) laneBringUp6 Runs ∧
    Answers (Instr.polarityWindow 31 0 16) laneBringUp7 Runs ∧
    Answers (Instr.polarityWindow 31 0 4096) laneBringUp8 Runs := by
  refine ⟨runs ((h laneBringUp1 ?_).1 3 (⟨7, by decide +kernel⟩)),
   runs ((h laneBringUp2 ?_).2.1 31 ?_),
   runs ((h laneBringUp3 ?_).2.1 0 ?_),
   runs ((h laneBringUp4 ?_).2.2.1 31 ?_),
   runs ((h laneBringUp5 ?_).2.2.2.1 31 ?_),
   runs ((h laneBringUp6 ?_).2.2.2.1 31 ?_),
   runs ((h laneBringUp7 ?_).2.2.2.2.2.1 31 16 ?_ ?_
       ?_ ?_ ?_ ?_),
   runs ((h laneBringUp8 ?_).2.2.2.2.2.1 31 4096 ?_ ?_
       ?_ ?_ ?_ ?_)⟩ <;> decide +kernel

/-- States and operands that meet the hypotheses of LaneBringUp. -/
theorem witness_LaneBringUp_2 (h : Clause.LaneBringUp) :
    Answers (Instr.blockLock 31) laneBringUp9 Runs ∧
    Answers (Instr.adaptConverged 31 31 18441921395520346504) laneBringUp9 Runs := by
  refine ⟨runs ((h laneBringUp9 ?_).2.2.2.2.1 31 (Or.inl ?_)),
    runs ((h laneBringUp9 ?_).2.2.2.2.2.2 31 31 0xFFEEDDCCBBAA9988 ?_ ?_)⟩ <;> decide +kernel

def laneControl1 : Sys2Proof.Machine.State :=
  st [(LANE_CFG_ROLE 31, 2), (LANE_STATUS_STATE 31, LANE_UP), (LANE_STATUS_BLOCK_LOCK 31, 1), (LANE_CTRL_LOOP 31, 2)]
      100 id

def laneControl2 : Sys2Proof.Machine.State :=
  st [(LANE_CFG_ROLE 31, 2), (LANE_STATUS_STATE 31, LANE_UP), (LANE_CTRL_LOOP 31, 2)] 100 id

def laneControl3 : Sys2Proof.Machine.State :=
  st [(LANE_CFG_ROLE 31, 2), (LANE_STATUS_STATE 31, LANE_UP), (LANE_STATUS_BLOCK_LOCK 31, 1)] 100 id

def laneControl4 : Sys2Proof.Machine.State :=
  st [] 100 id

def laneControl5 : Sys2Proof.Machine.State :=
  st [(LANE_CFG_ROLE 31, 3), (LANE_STATUS_STATE 31, LANE_UP)] 100 id

def laneControl6 : Sys2Proof.Machine.State :=
  st [(LANE_CFG_ROLE 31, 2), (LANE_CTRL_LOOP 31, 1), (LOADER_REJECT_COUNT, 0xFFFFFFFF)] 100 id

/-- States and operands that meet the hypotheses of LaneControl. -/
theorem witness_LaneControl (h : Clause.LaneControl) :
    Answers (Instr.laneCfgWrite 31 4294967292) laneControl1 Runs ∧
    Answers (Instr.laneCfgWrite 31 3) laneControl2 Runs ∧
    Answers (Instr.laneRestart Via.jtag 31) laneControl3 Runs ∧
    Answers (Instr.laneRestart Via.genond 31) laneControl4 Runs ∧
    Answers (Instr.laneLoopWrite Via.mgt 31 3) laneControl5 Runs ∧
    Answers (Instr.laneLoopWrite Via.mgt 31 1) laneControl6 Runs := by
  refine ⟨runs ((h laneControl1 ?_ 31).1 0xFFFFFFFC (Or.inl ?_) ?_
      ?_),
   runs ((h laneControl2 ?_ 31).1 0x3 (Or.inl ?_) ?_
       ?_),
   runs ((h laneControl3 ?_ 31).2.1 .jtag ?_ ?_),
   runs ((h laneControl4 ?_ 31).2.1 .genond ?_ ?_),
   runs ((h laneControl5 ?_ 31).2.2.1 .mgt 3 ?_ ?_
       ?_),
   runs ((h laneControl6 ?_ 31).2.2.2 .mgt 1 ?_ ?_)⟩ <;> decide +kernel

def laneAdaptation1 : Sys2Proof.Machine.State :=
  st [(LANE_STATUS_STATE 31, LANE_UP), (LANE_EVT_EN_DOWN 31, 1), (LANE_PCS_ERR_DOWNS 31, 0xFFFF),
      (LANE_STATUS_BLOCK_LOCK 31, 1)] 100 id

def laneAdaptation2 : Sys2Proof.Machine.State :=
  st [(LANE_STATUS_STATE 31, LANE_UP), (LANE_EVT_EN_DOWN 31, 1), (LANE_EVT_DOWN 31, 1)] 100 id

def laneAdaptation3 : Sys2Proof.Machine.State :=
  st [(LANE_STATUS_STATE 31, LANE_UP)] 100 id

def laneAdaptation4 : Sys2Proof.Machine.State :=
  st [(LANE_STATUS_STATE 31, LANE_UP), (LANE_STATUS_FROZEN 31, 1)] 100 id

def laneAdaptation5 : Sys2Proof.Machine.State :=
  st [(LANE_KEPT 31, 1), (LANE_DFE_TAP 31 1 3, 0xFF), (LANE_ADAPT_CTLE 31, 5)] 100 id

def laneAdaptation6 : Sys2Proof.Machine.State :=
  st [(LANE_STATUS_READAPTING 31, 1), (LANE_STATUS_STATE 31, LANE_UP), (LANE_ADAPT_READAPTS 31, 0xFFFF)] 100 id

def laneAdaptation7 : Sys2Proof.Machine.State :=
  st [(LANE_STATUS_STATE 31, LANE_ADAPT), (LANE_CHECK_BUSY 31, 1), (LANE_CHECK_OK 31, 1), (LANE_STATUS_BLOCK_LOCK 31, 1)] 100

/-- States and operands that meet the hypotheses of LaneAdaptation. -/
theorem witness_LaneAdaptation (h : Clause.LaneAdaptation) :
    Answers (Instr.laneDown 31 true) laneAdaptation1 Runs ∧
    Answers (Instr.laneDown 31 false) laneAdaptation2 Runs ∧
    Answers (Instr.adaptFreeze 31) laneAdaptation3 Runs ∧
    Answers (Instr.adaptResume 31) laneAdaptation4 Runs ∧
    Answers (Instr.readapt Via.jtag 31) laneAdaptation4 Runs ∧
    Answers (Instr.laneDown 31 true) laneAdaptation7 Runs ∧
    Answers (Instr.laneDown 31 false) laneAdaptation7 Runs ∧
    Answers (Instr.adaptRestartTimeout 31) laneAdaptation5 Runs ∧
    Answers (Instr.readaptEnd 31 31 9223372036854775809 true) laneAdaptation6 Runs ∧
    Answers (Instr.readaptEnd 31 31 9223372036854775809 false) laneAdaptation6 Runs := by
  refine ⟨runs (((h laneAdaptation1 ?_ 31).1 ?_).1 true),
   runs (((h laneAdaptation2 ?_ 31).1 ?_).1 false),
   runs (((h laneAdaptation3 ?_ 31).1 ?_).2.1 ?_),
   runs (((h laneAdaptation4 ?_ 31).1 ?_).2.2.1),
   runs (((h laneAdaptation4 ?_ 31).1 ?_).2.2.2 .jtag ?_),
   runs ((h laneAdaptation7 ?_ 31).2.1 true ?_),
   runs ((h laneAdaptation7 ?_ 31).2.1 false ?_),
   runs ((h laneAdaptation5 ?_ 31).2.2.1 ?_),
   runs ((h laneAdaptation6 ?_ 31).2.2.2 31 0x8000000000000001 true ?_ ?_),
   runs ((h laneAdaptation6 ?_ 31).2.2.2 31 0x8000000000000001 false ?_ ?_)⟩ <;> decide +kernel

def laneMeasurement1 : Sys2Proof.Machine.State :=
  st [(LANE_STATUS_STATE 31, LANE_UP), (LANE_EYE_CFG_MON_EN 31, 1), (LANE_EYE_CFG_THR 31, 255), (LANE_EYE_MIN 31, 3)]
      100 id

def laneMeasurement2 : Sys2Proof.Machine.State :=
  st [(LANE_STATUS_STATE 31, LANE_UP), (LANE_EYE_CFG_MON_EN 31, 1), (LANE_EYE_CFG_THR 31, 1), (LANE_EYE_MIN 31, 3),
      (LANE_EVT_EN_EYE_LOW 31, 1), (LANE_EYE_BELOW 31, 0xFFFFFFFF)] 100 id

def laneMeasurement3 : Sys2Proof.Machine.State :=
  st [(LANE_SCAN_CFG_DONE 31, 1)] 100 id

def laneMeasurement4 : Sys2Proof.Machine.State :=
  st [(LANE_SCAN_CFG_BUSY 31, 1), (LANE_SCAN_LEN 31, 40), (LANE_SCAN_CFG_DWELL_LOG2 31, 5), (LANE_EVT_EN_SCAN_DONE 31, 1)] 100 id

def laneMeasurement5 : Sys2Proof.Machine.State :=
  st [(LANE_SCAN_CFG_BUSY 31, 1), (LANE_SCAN_LEN 31, 20), (LANE_SCAN_ERR 31, 9)] 100 id

def laneMeasurement6 : Sys2Proof.Machine.State :=
  st [(LANE_STATUS_STATE 31, LANE_UP), (LANE_STATUS_BLOCK_LOCK 31, 1)] 100 id

def laneMeasurement7 : Sys2Proof.Machine.State :=
  st [(LANE_STATUS_STATE 31, LANE_UP), (LANE_STATUS_BLOCK_LOCK 31, 1), (LANE_STATUS_HIBER 31, 1)] 100 id

def laneMeasurement8 : Sys2Proof.Machine.State :=
  st [(LANE_STATUS_STATE 31, LANE_UP), (LANE_CHECK_BUSY 31, 1), (LANE_CHECK_OK 31, 1), (LANE_EVT_EN_CHECK_DONE 31, 1)]
      100 id

def laneMeasurement9 : Sys2Proof.Machine.State :=
  st [(LANE_STATUS_STATE 31, LANE_UP), (LANE_CHECK_BUSY 31, 1), (LANE_CHECK_PASS 31, 1)] 100 id

def laneMeasurement10 : Sys2Proof.Machine.State :=
  st [(LANE_CHECK_OK 31, 1), (LANE_PCS_ERR_SYNC 31, 0xFFFF)] 100 id

def laneMeasurement11 : Sys2Proof.Machine.State :=
  st [(LANE_CFG_ROLE 31, 3), (LANE_PRBS_PAT 31, 2), (LANE_STATUS_STATE 31, LANE_ALIGN)] 100 id

def laneMeasurement12 : Sys2Proof.Machine.State :=
  st [(LANE_PRBS_LOCKED 31, 1), (LANE_PRBS_ERR 31, 0xFFFFFFFF), (LANE_EVT_EN_PRBS_ERR 31, 1)] 100 id

/-- States and operands that meet the hypotheses of LaneMeasurement. -/
theorem witness_LaneMeasurement_1 (h : Clause.LaneMeasurement) :
    Answers (Instr.eyeMonitor 31 255) laneMeasurement1 Runs ∧
    Answers (Instr.eyeMonitor 31 0) laneMeasurement2 Runs ∧
    Answers (Instr.eyeScanGo Via.mgt 31 4294967295) laneMeasurement3 Runs ∧
    Answers (Instr.eyeScanDone 31 4294967295) laneMeasurement4 Runs ∧
    Answers (Instr.eyeScanDone 31 5) laneMeasurement5 Runs ∧
    Answers (Instr.checkGo Via.jtag 31) laneMeasurement6 Runs ∧
    Answers (Instr.checkGo Via.mgt 31) laneMeasurement7 Runs ∧
    Answers (Instr.checkDone 31) laneMeasurement8 Runs := by
  refine ⟨runs (((h laneMeasurement1 ?_ 31).1 255 ?_ ?_).1
      ?_),
   runs (((h laneMeasurement2 ?_ 31).1 0 ?_ ?_).2
       ?_),
   runs ((h laneMeasurement3 ?_ 31).2.1 .mgt 0xFFFFFFFF ?_),
   runs ((h laneMeasurement4 ?_ 31).2.2.1 0xFFFFFFFF ?_),
   runs ((h laneMeasurement5 ?_ 31).2.2.1 5 ?_),
   runs ((h laneMeasurement6 ?_ 31).2.2.2.1 .jtag ?_),
   runs ((h laneMeasurement7 ?_ 31).2.2.2.1 .mgt ?_),
   runs ((h laneMeasurement8 ?_ 31).2.2.2.2.1 ?_ (Or.inl ?_))⟩ <;> decide +kernel

/-- States and operands that meet the hypotheses of LaneMeasurement. -/
theorem witness_LaneMeasurement_2 (h : Clause.LaneMeasurement) :
    Answers (Instr.checkDone 31) laneMeasurement9 Runs ∧
    Answers (Instr.invalidSyncHeader 31) laneMeasurement10 Runs ∧
    Answers (Instr.prbsCheckerLock 31) laneMeasurement11 Runs ∧
    Answers (Instr.prbsBitError 31) laneMeasurement12 Runs := by
  refine ⟨runs ((h laneMeasurement9 ?_ 31).2.2.2.2.1 ?_ (Or.inr ?_)),
   runs ((h laneMeasurement10 ?_ 31).2.2.2.2.2.1),
   runs ((h laneMeasurement11 ?_ 31).2.2.2.2.2.2.1 ?_ ?_),
   runs ((h laneMeasurement12 ?_ 31).2.2.2.2.2.2.2 ?_)⟩ <;> decide +kernel

def lull1 : Sys2Proof.Machine.State :=
  st [(LINK_CFG_EN 31, 1), (LINK_CFG_BASE 31, 28), (LINK_CFG_WIDTH 31, 2), (LINK_STATUS_STATE 31, 2),
      (LANE_LULL_CFG_EN 28, 1), (LANE_LULL_CFG_EN 29, 1), (LANE_LULL_CFG_EN 30, 1), (LANE_LULL_CFG_EN 31, 1),
      (LANE_LULL_COUNT_TX 31, 0xFFFFFFFF)] 100 id

def lull2 : Sys2Proof.Machine.State :=
  st [(LINK_CFG_EN 31, 1), (LINK_CFG_BASE 31, 28), (LINK_CFG_WIDTH 31, 2), (LINK_STATUS_STATE 31, 2),
      (LANE_STATUS_LULL_TX 28, 1), (QT_CFG_EN 31 511, 1), (QT_PEER_REMOTE 31 511, 1), (QT_PEER_LINK 31 511, 31),
      (QT_CFG_SIZE_LOG2 31 511, 6), (QTAIL 31 511, 1)] 100 id

def lull3 : Sys2Proof.Machine.State :=
  st [(LINK_CFG_EN 31, 1), (LINK_CFG_BASE 31, 28), (LINK_CFG_WIDTH 31, 2), (LINK_STATUS_STATE 31, 2),
      (LANE_STATUS_LULL_TX 28, 1), (LANE_STATUS_LULL_TX 29, 1), (LANE_STATUS_LULL_TX 30, 1), (LANE_STATUS_LULL_TX 31,
      1)] 100 (onLink 31 (fun k => { k with waking := true }))

def lull4 : Sys2Proof.Machine.State :=
  st [(LANE_STATUS_STATE 31, LANE_UP), (LANE_CFG_ROLE 31, 2), (LANE_LULL_COUNT_RX 31, 0xFFFFFFFF)] 100 id

def lull5 : Sys2Proof.Machine.State :=
  st [(LANE_STATUS_STATE 31, LANE_LULL), (LANE_STATUS_LULL_RX 31, 1)] 100 id

def lull6 : Sys2Proof.Machine.State :=
  st [(LANE_STATUS_STATE 31, LANE_LULL), (LANE_STATUS_LULL_RX 31, 1), (LANE_STATUS_BLOCK_LOCK 31, 1)] 100 id

def lull7 : Sys2Proof.Machine.State :=
  st [(LANE_STATUS_STATE 31, LANE_LULL), (LANE_STATUS_LULL_RX 31, 1), (LANE_RELOCK 31, 1)] 100 id

/-- A link in lull that has gone down. -/
def lull8 : Sys2Proof.Machine.State :=
  st [(LINK_CFG_EN 31, 1), (LINK_CFG_BASE 31, 28), (LINK_CFG_WIDTH 31, 1), (LANE_STATUS_LULL_TX 28, 1)] 100

/-- States and operands that meet the hypotheses of Lull. -/
theorem witness_Lull (h : Clause.Lull) :
    Answers (Instr.lullEntry 31) lull1 Runs ∧
    Answers (Instr.lullWake 31) lull2 Runs ∧
    Answers (Instr.lullWake 31) lull8 Runs ∧
    Answers (Instr.lullWakeDone 31) lull3 Runs ∧
    Answers (Instr.lullRx 31) lull4 Runs ∧
    Answers (Instr.lullSignalReturn 31 true) lull5 Runs ∧
    Answers (Instr.lullSignalReturn 31 false) lull6 Runs ∧
    Answers (Instr.blockLock 31) lull7 Runs ∧
    Answers (Instr.lullRelockTimeout 31) lull7 Runs := by
  refine ⟨runs ((h lull1 ?_).1 31 ?_ ?_ ?_),
   runs ((h lull2 ?_).2.1 31 ?_ ?_ (Or.inl ?_)),
   runs ((h lull8 ?_).2.1 31 ?_ ?_ (Or.inr ?_)),
   runs ((h lull3 ?_).2.2.1 31 ?_),
   runs ((h lull4 ?_).2.2.2.1 31 ?_ ?_),
   runs (((h lull5 ?_).2.2.2.2 31 ?_).1),
   runs (((h lull6 ?_).2.2.2.2 31 ?_).2.1),
   runs ((((h lull7 ?_).2.2.2.2 31 ?_).2.2 ?_).1),
   runs ((((h lull7 ?_).2.2.2.2 31 ?_).2.2 ?_).2)⟩ <;> decide +kernel

def linkControl1 : Sys2Proof.Machine.State :=
  st [(LINK_CFG_EN 31, 1), (LINK_CFG_BASE 31, 28), (LINK_CFG_WIDTH 31, 2), (LINK_STATUS_STATE 31, 2), (LANE_CFG_ROLE
      28, 2), (LANE_STATUS_STATE 28, LANE_UP), (LANE_STATUS_PEER_VALID 28, 1), (LANE_CFG_ROLE 29, 2),
      (LANE_STATUS_STATE 29, LANE_UP), (LANE_STATUS_PEER_VALID 29, 1), (LANE_CFG_ROLE 30, 2), (LANE_STATUS_STATE 30,
      LANE_UP), (LANE_STATUS_PEER_VALID 30, 1), (LANE_CFG_ROLE 31, 2), (LANE_STATUS_STATE 31, LANE_UP),
      (LANE_STATUS_PEER_VALID 31, 1)] 100 id

def linkControl2 : Sys2Proof.Machine.State :=
  st [(LANE_CFG_ROLE 28, 2), (LANE_STATUS_STATE 28, LANE_UP), (LANE_STATUS_PEER_VALID 28, 1), (LANE_CFG_ROLE 29, 2),
      (LANE_STATUS_STATE 29, LANE_UP), (LANE_STATUS_PEER_VALID 29, 1), (LANE_CFG_ROLE 30, 2), (LANE_STATUS_STATE 30,
      LANE_UP), (LANE_STATUS_PEER_VALID 30, 1), (LANE_CFG_ROLE 31, 2), (LANE_STATUS_STATE 31, LANE_UP),
      (LANE_STATUS_PEER_VALID 31, 1)] 100 id

def linkControl3 : Sys2Proof.Machine.State :=
  st [(LINK_CFG_EN 31, 1), (LINK_CFG_BASE 31, 28), (LINK_CFG_WIDTH 31, 2), (LINK_STATUS_STATE 31, 0)] 100 id

def linkControl4 : Sys2Proof.Machine.State :=
  st [(LINK_CFG_EN 31, 1), (LINK_CFG_BASE 31, 28), (LINK_CFG_WIDTH 31, 2), (LINK_STATUS_STATE 31, 1), (LANE_CFG_ROLE
      28, 2), (LANE_STATUS_STATE 28, LANE_UP), (LANE_STATUS_PEER_VALID 28, 1), (LANE_CFG_ROLE 29, 2),
      (LANE_STATUS_STATE 29, LANE_UP), (LANE_STATUS_PEER_VALID 29, 1), (LANE_CFG_ROLE 30, 2), (LANE_STATUS_STATE 30,
      LANE_UP), (LANE_STATUS_PEER_VALID 30, 1), (LANE_CFG_ROLE 31, 2), (LANE_STATUS_STATE 31, LANE_UP),
      (LANE_STATUS_PEER_VALID 31, 1)] 100 id

/-- States and operands that meet the hypotheses of LinkControl. -/
theorem witness_LinkControl (h : Clause.LinkControl) :
    Answers (Instr.linkCfgWrite Via.jtag 31 4294967289) linkControl1 Runs ∧
    Answers (Instr.linkCfgWrite Via.mgt 31 229) linkControl2 Runs ∧
    Answers (Instr.linkCfgWrite Via.mgt 0 249) linkControl1 Runs ∧
    Answers (Instr.linkRestart 31) linkControl1 Runs ∧
    Answers (Instr.linkRestart 31) linkControl3 Runs ∧
    Answers (Instr.trainTimeout 31) linkControl4 Runs := by
  refine ⟨runs ((h linkControl1 ?_ 31).1 .jtag 0xFFFFFFF9 ?_ (Or.inr (Or.inl
      ?_))),
   runs ((h linkControl2 ?_ 31).1 .mgt 0xE5 ?_ (Or.inl ?_)),
   runs ((h linkControl1 ?_ 0).2.1 .mgt 0xF9 ?_),
   runs ((h linkControl1 ?_ 31).2.2.1),
   runs ((h linkControl3 ?_ 31).2.2.1),
   runs ((h linkControl4 ?_ 31).2.2.2 ?_ ?_ ?_)⟩ <;> decide +kernel

def training1 : Sys2Proof.Machine.State :=
  st [(LINK_CFG_EN 31, 1), (LINK_CFG_BASE 31, 28), (LINK_CFG_WIDTH 31, 2), (LINK_STATUS_STATE 31, 2), (LANE_CFG_ROLE
      28, 2), (LANE_STATUS_STATE 28, LANE_UP), (LANE_STATUS_PEER_VALID 28, 1), (LANE_CFG_ROLE 29, 2),
      (LANE_STATUS_STATE 29, LANE_UP), (LANE_STATUS_PEER_VALID 29, 1), (LANE_CFG_ROLE 30, 2), (LANE_STATUS_STATE 30,
      LANE_UP), (LANE_STATUS_PEER_VALID 30, 1), (LANE_CFG_ROLE 31, 2), (LANE_STATUS_STATE 31, LANE_UP),
      (LANE_STATUS_PEER_VALID 31, 1), (LINK_STATUS_PEER_DEV 31, 63)] 100 id

def training2 : Sys2Proof.Machine.State :=
  st [(LINK_CFG_EN 31, 1), (LINK_CFG_BASE 31, 31), (LINK_CFG_WIDTH 31, 0), (LINK_STATUS_STATE 31, 1), (LANE_CFG_ROLE
      28, 2), (LANE_STATUS_STATE 28, LANE_UP), (LANE_STATUS_PEER_VALID 28, 1), (LANE_CFG_ROLE 29, 2),
      (LANE_STATUS_STATE 29, LANE_UP), (LANE_STATUS_PEER_VALID 29, 1), (LANE_CFG_ROLE 30, 2), (LANE_STATUS_STATE 30,
      LANE_UP), (LANE_STATUS_PEER_VALID 30, 1), (LANE_CFG_ROLE 31, 2), (LANE_STATUS_STATE 31, LANE_UP),
      (LANE_STATUS_PEER_VALID 31, 1), (LINKS_DEV, 1)] 100 id

def training3 : Sys2Proof.Machine.State :=
  st [(LINK_CFG_EN 31, 1), (LINK_CFG_BASE 31, 31), (LINK_CFG_WIDTH 31, 0), (LINK_STATUS_STATE 31, 1), (LANE_CFG_ROLE
      28, 2), (LANE_STATUS_STATE 28, LANE_UP), (LANE_STATUS_PEER_VALID 28, 1), (LANE_CFG_ROLE 29, 2),
      (LANE_STATUS_STATE 29, LANE_UP), (LANE_STATUS_PEER_VALID 29, 1), (LANE_CFG_ROLE 30, 2), (LANE_STATUS_STATE 30,
      LANE_UP), (LANE_STATUS_PEER_VALID 30, 1), (LANE_CFG_ROLE 31, 2), (LANE_STATUS_STATE 31, LANE_UP),
      (LANE_STATUS_PEER_VALID 31, 1), (LINKS_DEV, 63)] 100 id

def training4 : Sys2Proof.Machine.State :=
  st [(LINK_CFG_EN 31, 1), (LINK_CFG_BASE 31, 31), (LINK_CFG_WIDTH 31, 0), (LINK_STATUS_STATE 31, 1), (LANE_CFG_ROLE
      28, 2), (LANE_STATUS_STATE 28, LANE_UP), (LANE_STATUS_PEER_VALID 28, 1), (LANE_CFG_ROLE 29, 2),
      (LANE_STATUS_STATE 29, LANE_UP), (LANE_STATUS_PEER_VALID 29, 1), (LANE_CFG_ROLE 30, 2), (LANE_STATUS_STATE 30,
      LANE_UP), (LANE_STATUS_PEER_VALID 30, 1), (LANE_CFG_ROLE 31, 2), (LANE_STATUS_STATE 31, LANE_UP),
      (LANE_STATUS_PEER_VALID 31, 1), (LINKS_DEV, 3)] 100 id

/-- States and operands that meet the hypotheses of Training. -/
theorem witness_Training (h : Clause.Training) :
    Answers (Instr.trainBlock 31 3 (BitVec.ofNat 64 (ctrlBlock 45 (3 * 2 ^ 8 + 2 * 2 ^ 10 + 63 * 2 ^ 12 + 0 * 2 ^ 18 +
        0 * 2 ^ 19)))   7) training1 Runs ∧
    Answers (Instr.trainBlock 31 0 (BitVec.ofNat 64 (ctrlBlock 45 (0 * 2 ^ 8 + 0 * 2 ^ 10 + 63 * 2 ^ 12 + 0 * 2 ^ 18 +
        0 * 2 ^ 19)))   255) training2 Runs ∧
    Answers (Instr.trainBlock 31 0 (BitVec.ofNat 64 (ctrlBlock 45 (0 * 2 ^ 8 + 0 * 2 ^ 10 + 0 * 2 ^ 12 + 1 * 2 ^ 18 +
        64 * 2 ^ 19)))   255) training3 Runs ∧
    Answers (Instr.trainBlock 31 0   (BitVec.ofNat 64 (ctrlBlock 45 (2 * 2 ^ 8 + 0 * 2 ^ 10 + 0 * 2 ^ 12 + 0 * 2 ^ 18
        + 65535 * 2 ^ 19))) 255) training4 Runs := by
  refine ⟨runs ((h training1 ?_ 31 3 (BitVec.ofNat 64 (ctrlBlock 0x2D (3 * 2 ^ 8 + 2 * 2 ^ 10 + 63 * 2 ^ 12
      + 0 * 2 ^ 18 + 0 * 2 ^ 19))) 7 ?_ ?_ ?_ ?_
      ?_ ?_ ?_).1 ?_ ?_),
   runs ((h training2 ?_ 31 0 (BitVec.ofNat 64 (ctrlBlock 0x2D (0 * 2 ^ 8 + 0 * 2 ^ 10 + 63 * 2 ^ 12
       + 0 * 2 ^ 18 + 0 * 2 ^ 19))) 255 ?_ ?_ ?_
       ?_ ?_ ?_ ?_).2 ?_
       ?_ ?_ ?_ ?_ ?_
       ?_ ?_ (Or.inl ?_)),
   runs ((h training3 ?_ 31 0 (BitVec.ofNat 64 (ctrlBlock 0x2D (0 * 2 ^ 8 + 0 * 2 ^ 10 + 0 * 2 ^ 12 +
       1 * 2 ^ 18 + 64 * 2 ^ 19))) 255 ?_ ?_ ?_ ?_
       ?_ ?_ ?_).2 ?_ ?_
       ?_ ?_ ?_ ?_ ?_
       ?_ (Or.inr ?_)),
   runs ((h training4 ?_ 31 0 (BitVec.ofNat 64 (ctrlBlock 0x2D (2 * 2 ^ 8 + 0 * 2 ^ 10 + 0 * 2 ^ 12 +
       0 * 2 ^ 18 + 65535 * 2 ^ 19))) 255 ?_ ?_ ?_
       ?_ ?_ ?_ ?_).2 ?_
       ?_ ?_ ?_ ?_ ?_
       ?_ ?_ (Or.inr ?_))⟩ <;> decide +kernel

def stripeSwitches1 : Sys2Proof.Machine.State :=
  st [(LINK_CFG_EN 31, 1), (LINK_CFG_BASE 31, 28), (LINK_CFG_WIDTH 31, 2), (LINK_STATUS_STATE 31, 2)] 100 (onLink 31
      (fun k => { k with txNext := some 15, phase := .bond }))

def stripeSwitches2 : Sys2Proof.Machine.State :=
  st [(LINK_CFG_EN 31, 1), (LINK_CFG_BASE 31, 28), (LINK_CFG_WIDTH 31, 2), (LINK_STATUS_STATE 31, 2)] 100 (onLink 31
      (fun k => { k with rxNext := some 3, phase := .rebond }))

def stripeSwitches3 : Sys2Proof.Machine.State :=
  st [(LINK_CFG_EN 31, 1), (LINK_CFG_BASE 31, 28), (LINK_CFG_WIDTH 31, 2), (LINK_STATUS_STATE 31, 1)] 100 (onLink 31
      (fun k => { k with rxNext := some 15, txDone := true, phase := .bond, txSet := 15 }))

def stripeSwitches4 : Sys2Proof.Machine.State :=
  st [(LINK_CFG_EN 31, 1), (LINK_CFG_BASE 31, 28), (LINK_CFG_WIDTH 31, 2), (LINK_STATUS_STATE 31, 2)] 100 (onLink 31
      (fun k => { k with txNext := some 3, rxDone := true, phase := .degrade, msgs := [⟨1, 0, 448, 3, 449, 2, [], false⟩] }))

def stripeSwitches5 : Sys2Proof.Machine.State :=
  st [(LINK_CFG_EN 31, 1), (LINK_CFG_BASE 31, 28), (LINK_CFG_WIDTH 31, 2), (LINK_STATUS_STATE 31, 2),
      (LINK_COUNT1_REBONDS 31, 0xFFFF)] 100 (onLink 31 (fun k =>
      { k with txNext := some 15, rxDone := true, phase := .rebond }))

def stripeSwitches6 : Sys2Proof.Machine.State :=
  st [(LINK_CFG_EN 31, 1), (LINK_CFG_BASE 31, 28), (LINK_CFG_WIDTH 31, 2), (LINK_STATUS_STATE 31, 2)] 100 (onLink 31
      (fun k => { k with rxNext := some 3, txSet := 3, txDone := true, phase := .rebond }))

/-- States and operands that meet the hypotheses of StripeSwitches. -/
theorem witness_StripeSwitches (h : Clause.StripeSwitches) :
    Answers (Instr.stripeSwitch 31 true) stripeSwitches1 Runs ∧
    Answers (Instr.stripeSwitch 31 false) stripeSwitches2 Runs ∧
    Answers (Instr.stripeSwitch 31 false) stripeSwitches3 Runs ∧
    Answers (Instr.stripeSwitch 31 true) stripeSwitches4 Runs ∧
    Answers (Instr.stripeSwitch 31 true) stripeSwitches5 Runs ∧
    Answers (Instr.stripeSwitch 31 false) stripeSwitches6 Runs := by
  refine ⟨runs ((h stripeSwitches1 ?_ 31 15 true ?_).1 ?_),
   runs ((h stripeSwitches2 ?_ 31 3 false ?_).1 ?_),
   runs (((h stripeSwitches3 ?_ 31 15 false ?_).2 ?_).1
       ?_),
   runs (((h stripeSwitches4 ?_ 31 3 true ?_).2 ?_).2.1
       ?_),
   runs (((h stripeSwitches5 ?_ 31 15 true ?_).2 ?_).2.2
       ?_),
   runs (((h stripeSwitches6 ?_ 31 3 false ?_).2 ?_).2.2
       ?_)⟩ <;> decide +kernel

def linkMessages1 : Sys2Proof.Machine.State :=
  st [(LINK_COUNT0_CRC_ERR 31, 0xFFFF)] 100 id

def linkMessages2 : Sys2Proof.Machine.State :=
  st [(LINK_CFG_EN 31, 1), (LINK_CFG_BASE 31, 28), (LINK_CFG_WIDTH 31, 2), (LINK_STATUS_STATE 31, 2), (LANE_CFG_ROLE
      28, 2), (LANE_STATUS_STATE 28, LANE_UP), (LANE_STATUS_PEER_VALID 28, 1), (LANE_CFG_ROLE 29, 2),
      (LANE_STATUS_STATE 29, LANE_UP), (LANE_STATUS_PEER_VALID 29, 1), (LANE_CFG_ROLE 30, 2), (LANE_STATUS_STATE 30,
      LANE_UP), (LANE_STATUS_PEER_VALID 30, 1), (LANE_CFG_ROLE 31, 2), (LANE_STATUS_STATE 31, LANE_UP),
      (LANE_STATUS_PEER_VALID 31, 1), (LANE_STATUS_PEER_IDX 31, 3)] 100 (onLink 31 (fun k => { k with own := 8 }))

/-- Link 31 of four lanes is UP, with a failed mask and a phase. -/
def maskedLink (own : Nat) (phase : LinkPhase := .steady) : Sys2Proof.Machine.State :=
  st (linkUp 31 28 2) 100 (onLink 31 (fun k => { k with csLast := 7, own := own, phase := phase }))

/-- A LINKCTL block. -/
def linkctl (op failed set seq : Nat) : BitVec 64 :=
  BitVec.ofNat 64 (ctrlBlock 0x87 (op * 2 ^ 8 + failed * 2 ^ 10 + set * 2 ^ 14 + seq * 2 ^ 34))

/-- States and operands that meet the hypotheses of LinkMessages. -/
theorem witness_LinkMessages (h : Clause.LinkMessages) :
    Answers (Instr.controlBlockCrcError 31) linkMessages1 Runs ∧
    Answers (Instr.laneRecheckTimer 31) linkMessages2 Runs ∧
    Answers (Instr.linkReady 31 (linkctl 1 2 3 4 ^^^ 1#64)) (maskedLink 1) Runs ∧
    Answers (Instr.degrade 31 (linkctl 0 2 3 7)) (maskedLink 1) Runs ∧
    Answers (Instr.linkReady 31 (linkctl 1 2 3 7)) (maskedLink 1) Runs ∧
    Answers (Instr.rebond 31 (linkctl 2 2 3 7)) (maskedLink 1) Runs := by
  refine ⟨runs ((h linkMessages1 ?_ 31).1), runs ((h linkMessages2 ?_ 31).2.1 31 3 ?_ ?_ ?_ ?_ ?_),
    runs ((h (maskedLink 1) ?_ 31).2.2.1 (linkctl 1 2 3 4 ^^^ 1#64) (.linkReady 31 (linkctl 1 2 3 4 ^^^ 1#64)) ?_ ?_ ?_ ?_),
    runs (((h (maskedLink 1) ?_ 31).2.2.2 (linkctl 0 2 3 7) ?_ ?_ ?_).1 (.degrade 31 (linkctl 0 2 3 7)) ?_ ?_ ?_),
    runs (((h (maskedLink 1) ?_ 31).2.2.2 (linkctl 1 2 3 7) ?_ ?_ ?_).1 (.linkReady 31 (linkctl 1 2 3 7)) ?_ ?_ ?_),
    runs (((h (maskedLink 1) ?_ 31).2.2.2 (linkctl 2 2 3 7) ?_ ?_ ?_).1 (.rebond 31 (linkctl 2 2 3 7)) ?_ ?_ ?_)⟩ <;>
    decide +kernel

/-- States and operands that meet the further hypotheses of LinkMessages. -/
theorem witness_LinkMessages_2 (h : Clause.LinkMessages) :
    Answers (Instr.degrade 31 (linkctl 0 2 12 8)) (maskedLink 1) Runs ∧
    Answers (Instr.degrade 31 (linkctl 0 15 0 8)) (maskedLink 0) Runs ∧
    Answers (Instr.linkReady 31 (linkctl 1 15 12 0)) (maskedLink 15) Runs ∧
    Answers (Instr.rebond 31 (linkctl 2 2 15 8)) (maskedLink 1) Runs := by
  refine ⟨runs ((((h (maskedLink 1) ?_ 31).2.2.2 (linkctl 0 2 12 8) ?_ ?_ ?_).2 ?_).1 ?_ ?_ ?_),
    runs ((((h (maskedLink 0) ?_ 31).2.2.2 (linkctl 0 15 0 8) ?_ ?_ ?_).2 ?_).2.1 ?_ ?_),
    runs ((((h (maskedLink 15) ?_ 31).2.2.2 (linkctl 1 15 12 0) ?_ ?_ ?_).2 ?_).2.2.1 ?_ ?_),
    runs ((((h (maskedLink 1) ?_ 31).2.2.2 (linkctl 2 2 15 8) ?_ ?_ ?_).2 ?_).2.2.2 ?_ ?_)⟩ <;> decide +kernel

/-- Link 31 of four lanes is UP, device 9 at its far end, and queue 448 of tile 31 takes what queue 511 of tile 30 there sends. -/
def peered (seq tail : Nat) : List (Fld × Nat) :=
  linkUp 31 28 2 ++ [(LINK_STATUS_PEER_DEV 31, 9), (QT_CFG_EN 31 448, 1), (QT_PEER_REMOTE 31 448, 1), (QT_PEER_LINK 31 448, 31),
    (QT_CFG_SIZE_LOG2 31 448, 6), (QT_PEER_DEVICE 31 448, 9), (QT_PEER_TILE 31 448, 30), (QT_PEER_INDEX 31 448, 511),
    (QT_SEQ_A 31 448, seq), (QTAIL 31 448, tail)]

/-- A link with messages open that takes blocks on indices 0 and 1. -/
def open_ (l : List OpenMsg) (seq : Nat := 0) (tail : Nat := 0) : Sys2Proof.Machine.State :=
  st (peered seq tail) 100 (onLink 31 (fun k => { k with rxSet := 3, msgs := l }))

/-- A message for queue 448 of tile 31, from queue 511 of tile 30 or another. -/
def message (left : Nat) (bytes : List Byte) (dead : Bool) (from_ : Nat := 511) : OpenMsg := ⟨3, 31, 448, 30, from_, left, bytes, dead⟩

/-- The MSG block of such a message, of three entries. -/
def msgWord (from_ : Nat) : BitVec 64 :=
  BitVec.ofNat 64 (ctrlBlock 0x66 (31 * 2 ^ 8 + 448 * 2 ^ 13 + 2 * 2 ^ 22 + 2 * 2 ^ 25 + 30 * 2 ^ 27 + from_ * 2 ^ 32))

/-- The first three blocks of an entry. -/
def front : List Byte := (entryBytes 3 0 0xFFFFFFFF [9#8]).take 24

def peerTraffic5 : Sys2Proof.Machine.State :=
  st (linkUp 31 28 2 ++ [(QT_CFG_EN 31 511, 1), (QT_PEER_REMOTE 31 511, 1), (QT_PEER_LINK 31 511, 31),
    (QT_CFG_SIZE_LOG2 31 511, 6), (QT_CFG_DIR 31 511, 1), (QT_SEQ_A 31 511, 2), (QTAIL 31 511, 0xFFFFFFFF), (QSENT 31 511, 3)]) 100
    (onLink 31 (fun k => { k with rxSet := 15 }))

/-- The messages that the witnesses of PeerTraffic have open. -/
def early : OpenMsg := message 2 [1#8, 2#8, 3#8, 4#8, 5#8, 6#8, 7#8, 8#8] false

def stray : OpenMsg := message 2 [] false 510

def lost_ : OpenMsg := message 1 front true

def last_ : OpenMsg := message 1 front false

/-- States and operands that meet the hypotheses of PeerTraffic. -/
theorem witness_PeerTraffic (h : Clause.PeerTraffic) :
    Answers (Instr.msgBlock 31 1 (msgWord 511)) (open_ [⟨3, 1, 449, 2, 3, 2, [], false⟩]) Runs ∧
    Answers (Instr.msgBlock 31 1 (msgWord 510)) (open_ []) Runs ∧
    Answers (Instr.dataBlock 31 0 1234605616436508552) (open_ [early]) Runs ∧
    Answers (Instr.dataBlock 31 0 0) (open_ [stray]) Runs ∧
    Answers (Instr.dataBlock 31 0 0) (open_ [lost_]) Runs := by
  refine ⟨runs ((h (open_ [⟨3, 1, 449, 2, 3, 2, [], false⟩]) ?_ 31 1 ?_ ?_).1 (msgWord 511) ?_ ?_ ?_),
    runs ((h (open_ []) ?_ 31 1 ?_ ?_).1 (msgWord 510) ?_ ?_ ?_),
    runs (((h (open_ [early]) ?_ 31 0 ?_ ?_).2.1 1234605616436508552 early [] ?_).1 ?_ (Or.inr ?_)),
    runs (((h (open_ [stray]) ?_ 31 0 ?_ ?_).2.1 0 stray [] ?_).2.1 ?_ ?_ ?_),
    runs (((h (open_ [lost_]) ?_ 31 0 ?_ ?_).2.1 0 lost_ [] ?_).2.2.1 ?_ ?_)⟩ <;> decide +kernel

/-- States and operands that meet the hypotheses of PeerTraffic for an entry that is whole, and for a credit. -/
theorem witness_PeerTraffic_2 (h : Clause.PeerTraffic) :
    Answers (Instr.dataBlock 31 0 0) (open_ [last_] 0xFFFFFFFF 0xFFFFFFC1) Runs ∧
    Answers (Instr.creditBlock 31 3 (BitVec.ofNat 64 (ctrlBlock 120 (31 * 2 ^ 8 + 511 * 2 ^ 13 + 0 * 2 ^ 22)))) peerTraffic5
      Runs := by
  refine ⟨runs (((h (open_ [last_] 0xFFFFFFFF 0xFFFFFFC1) ?_ 31 0 ?_ ?_).2.1 0 last_ [] ?_).2.2.2 ?_ ?_ ?_ ?_ ?_ ?_ ?_ ?_ ?_),
    runs ((h peerTraffic5 ?_ 31 3 ?_ ?_).2.2 (BitVec.ofNat 64 (ctrlBlock 120 (31 * 2 ^ 8 + 511 * 2 ^ 13 + 0 * 2 ^ 22)))
      ?_ ?_ ?_ ?_ ?_ ?_ ?_ ?_ ?_ ?_)⟩ <;> decide +kernel

def frameFaults1 : Sys2Proof.Machine.State :=
  st [(LOADER_STATE_STATE, LD_LOADING)] 100 (onLoader (atFrame (some 7) (frameOf TY_BOOTPARAM 0xFF 7 0 (leBytes 4
      1))))

def frameFaults2 : Sys2Proof.Machine.State :=
  st [(LOADER_STATE_STATE, LD_LOADING)] 100 (onLoader (atFrame (some 7) (frameOf TY_SETTING 0xFF 7 0 (leBytes 4 1))))

def frameFaults3 : Sys2Proof.Machine.State :=
  st [(LOADER_STATE_STATE, LD_LOADING)] 100 (onLoader (atFrame (some 7) (frameOf TY_CODE 0xFF 7 0 (leBytes 4 1))))

def frameFaults4 : Sys2Proof.Machine.State :=
  st [(LOADER_STATE_STATE, LD_LOADING)] 100 (onLoader (atFrame (some 7) (frameOf TY_TABLE 0xFF 7 0 (leBytes 4 1))))

def frameFaults5 : Sys2Proof.Machine.State :=
  st [(LOADER_STATE_STATE, LD_LOADING)] 100 (onLoader (atFrame (some 7) (frameOf TY_HKPATCH 0xFF 7 0 (leBytes 4 1))))

def frameFaults6 : Sys2Proof.Machine.State :=
  st [(LOADER_STATE_STATE, LD_LOADING)] 100 (onLoader (atFrame (some 7) (frameOf TY_COMMIT 0xFF 7 0 (leBytes 4 1))))

def frameFaults7 : Sys2Proof.Machine.State :=
  st [(LOADER_STATE_STATE, LD_LOADING)] 100 (onLoader (atFrame (some 7) (frameOf TY_SIGNATURE 0xFF 7 0 (leBytes 4
      1))))

def frameFaults8 : Sys2Proof.Machine.State :=
  st [(LOADER_STATE_STATE, LD_LOADING)] 100 (onLoader (atFrame (some 7) (frameOf TY_ENVELOPE 0xFF 7 0 (leBytes 4 1))))

def frameFaults9 : Sys2Proof.Machine.State :=
  st [(LOADER_STATE_STATE, LD_LOADING)] 100 (onLoader (atFrame (some 7) (frameOf TY_KERNEL 0xFF 7 0 (leBytes 4 1))))

def frameFaults10 : Sys2Proof.Machine.State :=
  st [(LOADER_STATE_STATE, LD_LOADING)] 100 (onLoader (atFrame (some 7) (frameOf TY_DSPDATA 0xFF 7 0 (leBytes 4 1))))

def frameFaults11 : Sys2Proof.Machine.State :=
  st [(LOADER_STATE_STATE, LD_LOADING)] 100 (onLoader (atFrame (some 7) (frameOf TY_QDRPAGE 0xFF 7 0 (leBytes 4 1))))

def frameFaults12 : Sys2Proof.Machine.State :=
  st [(LOADER_STATE_STATE, LD_LOADING)] 100 (onLoader (atFrame (some 7) (frameOf TY_START 0xFF 7 0 (leBytes 4 1))))

def frameFaults13 : Sys2Proof.Machine.State :=
  st [(LOADER_STATE_STATE, LD_LOADING)] 100 (onLoader (atFrame (some 7) (frameOf TY_KERNEL 31 8 0 (leBytes 4 1))))

def frameFaults14 : Sys2Proof.Machine.State :=
  st [(LOADER_STATE_STATE, LD_LOADING)] 100 (onLoader (atFrame (some 7) ((frameOf TY_HKPATCH TGT_DEVICE 7 0 (leBytes 4
      1)).set 24 9)))

def frameFaults15 : Sys2Proof.Machine.State :=
  st [(LOADER_STATE_STATE, LD_LOADING)] 100 (onLoader (atFrame (some 7) (frameOf 127 TGT_DEVICE 7 0 (leBytes 4 1))))

def frameFaults16 : Sys2Proof.Machine.State :=
  st [(LOADER_STATE_STATE, LD_LOADING)] 100 (onLoader (atFrame none (frameOf TY_START TGT_DEVICE 0 0 (leBytes 2 1 ++
      leBytes 2 0 ++ leBytes 1 (State.reset.get DEV_STEPPING_MAJOR) ++ leBytes 1 (State.reset.get DEV_STEPPING_MINOR)
      ++ leBytes 1 0 ++ leBytes 1 0 ++ leBytes 4 0xFFFFFFFF ++ List.replicate 20 0))))

def frameFaults17 : Sys2Proof.Machine.State :=
  { st [(LOADER_STATE_STATE, LD_LOADING)] 100 (onLoader (atFrame none (frameOf TY_START TGT_DEVICE 0 0 (leBytes 2 1 ++ leBytes 2 (State.reset.get DEV_IDENT_PART) ++ leBytes 1 (State.reset.get DEV_STEPPING_MAJOR) ++ leBytes 1 (State.reset.get DEV_STEPPING_MINOR) ++ leBytes 1 0 ++ leBytes 1 0 ++ leBytes 4 0xFFFFFFFF ++ List.replicate 20 0)))) with fuse := { Fuses.reset with hashSet := true, signRequired := true } }

def frameFaults18 : Sys2Proof.Machine.State :=
  st [(LOADER_STATE_STATE, LD_LOADING)] 100 (onLoader (atFrame none (frameOf TY_START TGT_DEVICE 0 0 (leBytes 2 1 ++
      leBytes 2 (State.reset.get DEV_IDENT_PART) ++ leBytes 1 (State.reset.get DEV_STEPPING_MAJOR) ++ leBytes 1
      (State.reset.get DEV_STEPPING_MINOR) ++ leBytes 1 0 ++ leBytes 1 0 ++ leBytes 4 0xFFFFFFFF ++ List.replicate 20
      0))))

def frameFaults19 : Sys2Proof.Machine.State :=
  { st [(LOADER_STATE_STATE, LD_LOADING)] 100 (onLoader (atFrame none (frameOf TY_START TGT_DEVICE 0 0 (leBytes 2 1 ++ leBytes 2 (State.reset.get DEV_IDENT_PART) ++ leBytes 1 (State.reset.get DEV_STEPPING_MAJOR) ++ leBytes 1 (State.reset.get DEV_STEPPING_MINOR) ++ leBytes 1 1 ++ leBytes 1 0 ++ leBytes 4 0xFFFFFFFF ++ List.replicate 20 0)))) with fuse := { Fuses.reset with hashSet := true, signRequired := true } }

/-- States and operands that meet the hypotheses of FrameFaults. -/
theorem witness_FrameFaults_1 (h : Clause.FrameFaults) :
    Answers (Instr.bootparam) frameFaults1 Runs ∧
    Answers (Instr.setting) frameFaults2 Runs ∧
    Answers (Instr.code) frameFaults3 Runs ∧
    Answers (Instr.table []) frameFaults4 Runs ∧
    Answers (Instr.hkpatch) frameFaults5 Runs ∧
    Answers (Instr.commit) frameFaults6 Runs ∧
    Answers (Instr.signature) frameFaults7 Runs ∧
    Answers (Instr.envelope) frameFaults8 Runs := by
  refine ⟨runs ((h frameFaults1 ?_ (readFrame (frameOf TY_BOOTPARAM 0xFF 7 0 (leBytes 4 1)))
      ?_).1 [] (.bootparam) TY_BOOTPARAM ?_ F_HEADER ?_
      ?_),
   runs ((h frameFaults2 ?_ (readFrame (frameOf TY_SETTING 0xFF 7 0 (leBytes 4 1)))
       ?_).1 [] (.setting) TY_SETTING ?_ F_HEADER ?_
       ?_),
   runs ((h frameFaults3 ?_ (readFrame (frameOf TY_CODE 0xFF 7 0 (leBytes 4 1)))
       ?_).1 [] (.code) TY_CODE ?_ F_HEADER ?_
       ?_),
   runs ((h frameFaults4 ?_ (readFrame (frameOf TY_TABLE 0xFF 7 0 (leBytes 4 1)))
       ?_).1 [] (.table []) TY_TABLE ?_ F_HEADER ?_
       ?_),
   runs ((h frameFaults5 ?_ (readFrame (frameOf TY_HKPATCH 0xFF 7 0 (leBytes 4 1)))
       ?_).1 [] (.hkpatch) TY_HKPATCH ?_ F_HEADER ?_
       ?_),
   runs ((h frameFaults6 ?_ (readFrame (frameOf TY_COMMIT 0xFF 7 0 (leBytes 4 1)))
       ?_).1 [] (.commit) TY_COMMIT ?_ F_HEADER ?_
       ?_),
   runs ((h frameFaults7 ?_ (readFrame (frameOf TY_SIGNATURE 0xFF 7 0 (leBytes 4 1)))
       ?_).1 [] (.signature) TY_SIGNATURE ?_ F_HEADER ?_
       ?_),
   runs ((h frameFaults8 ?_ (readFrame (frameOf TY_ENVELOPE 0xFF 7 0 (leBytes 4 1)))
       ?_).1 [] (.envelope) TY_ENVELOPE ?_ F_HEADER ?_
       ?_)⟩ <;> decide +kernel

/-- States and operands that meet the hypotheses of FrameFaults. -/
theorem witness_FrameFaults_2 (h : Clause.FrameFaults) :
    Answers (Instr.kernel) frameFaults9 Runs ∧
    Answers (Instr.dspdata) frameFaults10 Runs ∧
    Answers (Instr.qdrpage []) frameFaults11 Runs ∧
    Answers (Instr.start) frameFaults12 Runs ∧
    Answers (Instr.kernel) frameFaults13 Runs ∧
    Answers (Instr.hkpatch) frameFaults14 Runs ∧
    Answers (Instr.start) frameFaults15 Runs ∧
    Answers (Instr.start) frameFaults16 Runs := by
  refine ⟨runs ((h frameFaults9 ?_ (readFrame (frameOf TY_KERNEL 0xFF 7 0 (leBytes 4 1)))
      ?_).1 [] (.kernel) TY_KERNEL ?_ F_HEADER ?_
      ?_),
   runs ((h frameFaults10 ?_ (readFrame (frameOf TY_DSPDATA 0xFF 7 0 (leBytes 4 1)))
       ?_).1 [] (.dspdata) TY_DSPDATA ?_ F_HEADER ?_
       ?_),
   runs ((h frameFaults11 ?_ (readFrame (frameOf TY_QDRPAGE 0xFF 7 0 (leBytes 4 1)))
       ?_).1 [] (.qdrpage []) TY_QDRPAGE ?_ F_HEADER ?_
       ?_),
   runs ((h frameFaults12 ?_ (readFrame (frameOf TY_START 0xFF 7 0 (leBytes 4 1)))
       ?_).1 [] (.start) TY_START ?_ F_HEADER ?_
       ?_),
   runs ((h frameFaults13 ?_ (readFrame (frameOf TY_KERNEL 31 8 0 (leBytes 4 1)))
       ?_).1 [] .kernel TY_KERNEL ?_ F_ORDER ?_
       ?_),
   runs ((h frameFaults14 ?_ (readFrame ((frameOf TY_HKPATCH TGT_DEVICE 7 0 (leBytes 4 1)).set 24 9))
       ?_).1 [] .hkpatch TY_HKPATCH ?_ F_BODY ?_
       ?_),
   runs ((h frameFaults15 ?_ (readFrame (frameOf 127 TGT_DEVICE 7 0 (leBytes 4 1)))
       ?_).2.1 ?_),
   runs (((h frameFaults16 ?_ (readFrame (frameOf TY_START TGT_DEVICE 0 0 (leBytes 2 1 ++ leBytes 2 0
       ++ leBytes 1 (State.reset.get DEV_STEPPING_MAJOR) ++ leBytes 1 (State.reset.get DEV_STEPPING_MINOR) ++ leBytes
       1 0 ++ leBytes 1 0 ++ leBytes 4 0xFFFFFFFF ++ List.replicate 20 0))) ?_).2.2
       ?_).1 ?_)⟩ <;> decide +kernel

/-- States and operands that meet the hypotheses of FrameFaults. -/
theorem witness_FrameFaults_3 (h : Clause.FrameFaults) :
    Answers (Instr.start) frameFaults17 Runs ∧
    Answers (Instr.start) frameFaults18 Runs ∧
    Answers (Instr.start) frameFaults19 Runs := by
  refine ⟨runs (((h frameFaults17 ?_ (readFrame (frameOf TY_START TGT_DEVICE 0 0 (leBytes 2 1 ++ leBytes 2
      (State.reset.get DEV_IDENT_PART) ++ leBytes 1 (State.reset.get DEV_STEPPING_MAJOR) ++ leBytes 1 (State.reset.get
      DEV_STEPPING_MINOR) ++ leBytes 1 0 ++ leBytes 1 0 ++ leBytes 4 0xFFFFFFFF ++ List.replicate 20 0)))
      ?_).2.2 ?_).2.1 ?_ ?_ ?_),
   runs (((h frameFaults18 ?_ (readFrame (frameOf TY_START TGT_DEVICE 0 0 (leBytes 2 1 ++ leBytes 2
       (State.reset.get DEV_IDENT_PART) ++ leBytes 1 (State.reset.get DEV_STEPPING_MAJOR) ++ leBytes 1
       (State.reset.get DEV_STEPPING_MINOR) ++ leBytes 1 0 ++ leBytes 1 0 ++ leBytes 4 0xFFFFFFFF ++ List.replicate 20
       0))) ?_).2.2 ?_).2.2 ?_ (Or.inr ?_)),
   runs (((h frameFaults19 ?_ (readFrame (frameOf TY_START TGT_DEVICE 0 0 (leBytes 2 1 ++ leBytes 2
       (State.reset.get DEV_IDENT_PART) ++ leBytes 1 (State.reset.get DEV_STEPPING_MAJOR) ++ leBytes 1
       (State.reset.get DEV_STEPPING_MINOR) ++ leBytes 1 1 ++ leBytes 1 0 ++ leBytes 4 0xFFFFFFFF ++ List.replicate 20
       0))) ?_).2.2 ?_).2.2 ?_ (Or.inl ?_))⟩ <;> decide +kernel

def framesStage1 : Sys2Proof.Machine.State :=
  st [(LOADER_STATE_STATE, LD_LOADING)] 100 (onLoader (atFrame (some 7) (frameOf TY_BOOTPARAM TGT_DEVICE 7 0x200000
      (leBytes 4 5))))

def framesStage5 : Sys2Proof.Machine.State :=
  st [(QDR_STATUS 0, QDR_READY), (LOADER_STATE_STATE, LD_LOADING)] 100 (onLoader (atFrame (some 7) (frameOf TY_BOOTPARAM TGT_DEVICE 7 (QDR_CFG_EN 0).addr
      (leBytes 4 5))))

def framesStage2 : Sys2Proof.Machine.State :=
  st [(LOADER_STATE_STATE, LD_LOADING)] 100 (onLoader (atFrame (some 7) (frameOf TY_SETTING TGT_ALL 7 0x3FFFC (leBytes
      4 0xFFFFFFFF))))

def framesStage3 : Sys2Proof.Machine.State :=
  st [(LOADER_STATE_STATE, LD_LOADING)] 100 (onLoader (atFrame (some 7) (frameOf TY_SETTING TGT_ALL 7 0x20 (leBytes 4
      3))))

def framesStage4 : Sys2Proof.Machine.State :=
  st [(LOADER_STATE_STATE, LD_LOADING)] 100 (onLoader (fun l =>
      { atFrame (some 7) (frameOf TY_HKPATCH TGT_DEVICE 7 0xFFC (leBytes 4 0x12345678)) l with patch := [(3, 4)] }))

/-- States and operands that meet the hypotheses of FramesStage. -/
theorem witness_FramesStage (h : Clause.FramesStage) :
    Answers (Instr.bootparam) framesStage1 Runs ∧
    Answers (Instr.bootparam) framesStage5 Runs ∧
    Answers (Instr.setting) framesStage2 Runs ∧
    Answers (Instr.setting) framesStage3 Runs ∧
    Answers (Instr.hkpatch) framesStage4 Runs := by
  refine ⟨runs (((h framesStage1 ?_ (readFrame (frameOf TY_BOOTPARAM TGT_DEVICE 7 0x200000 (leBytes 4 5)))).1
      ?_ ?_ ?_).1 ?_),
   runs (((h framesStage5 ?_ (readFrame (frameOf TY_BOOTPARAM TGT_DEVICE 7 (QDR_CFG_EN 0).addr (leBytes 4 5)))).1
      ?_ ?_ ?_).2 ?_),
   runs (((h framesStage2 ?_ (readFrame (frameOf TY_SETTING TGT_ALL 7 0x3FFFC (leBytes 4
       0xFFFFFFFF)))).2.1 ?_).1 ?_),
   runs (((h framesStage3 ?_ (readFrame (frameOf TY_SETTING TGT_ALL 7 0x20 (leBytes 4 3)))).2.1
       ?_).2 ?_),
   runs ((h framesStage4 ?_ (readFrame (frameOf TY_HKPATCH TGT_DEVICE 7 0xFFC (leBytes 4
       0x12345678)))).2.2 ?_)⟩ <;> decide +kernel

def framesWrite1 : Sys2Proof.Machine.State :=
  st [(LOADER_STATE_STATE, LD_LOADING)] 100 (onLoader (atFrame (some 7) (frameOf TY_ENVELOPE 31 7 0x7FFFC (leBytes 4
      0x12345678))))

def framesWrite2 : Sys2Proof.Machine.State :=
  st [(LOADER_STATE_STATE, LD_LOADING)] 100 (onLoader (atFrame (some 7) (frameOf TY_KERNEL 0 7 0 (leBytes 4
      0x12345678))))

def framesWrite3 : Sys2Proof.Machine.State :=
  st [(LOADER_STATE_STATE, LD_LOADING)] 100 (onLoader (atFrame (some 7) (frameOf TY_DSPDATA 31 7 0x1FFFC (leBytes 4
      0x12345678))))

def framesWrite4 : Sys2Proof.Machine.State :=
  st [(LOADER_STATE_STATE, LD_LOADING)] 100 (onLoader (atFrame (some 7) (frameOf TY_KERNEL TGT_ALL 7 8 (leBytes 4
      0x12345678))))

def framesWrite5 : Sys2Proof.Machine.State :=
  st [(QDR_STATUS 1, QDR_READY), (QDR_CFG_CAP_LOG2 1, 25), (LOADER_STATE_STATE, LD_LOADING)] 100 (onLoader (atFrame
      (some 7) (frameOf TY_TABLE TGT_DEVICE 7 0x10000000 (leBytes 4 0x12345678))))

def framesWrite6 : Sys2Proof.Machine.State :=
  st [(LOADER_STATE_STATE, LD_LOADING)] 100 (onLoader (atFrame (some 7) (frameOf TY_CODE 31 7 131040 (leBytes 28
      (coded (2 ^ 223 + 5 * 2 ^ 20)) ++ leBytes 4 0))))

def framesWrite7 : Sys2Proof.Machine.State :=
  st [(LOADER_STATE_STATE, LD_LOADING)] 100 (onLoader (atFrame (some 7) (frameOf TY_CODE 31 7 0 (leBytes 28 1 ++
      leBytes 4 0))))

/-- CODE for tile 31, which is released, with DDR5 channel 0 in a state. -/
def framesWrite8 (state : Nat) : Sys2Proof.Machine.State :=
  st [(SEQ_STATE_STATE 31, RUN), (DDR_STATUS_STATE 0, state), (LOADER_STATE_STATE, LD_LOADING)] 100 (onLoader (atFrame (some 7)
    (frameOf TY_CODE 31 7 131040 (leBytes 28 (coded (2 ^ 223 + 5 * 2 ^ 20)) ++ leBytes 4 0))))

/-- States and operands that meet the hypotheses of FramesWrite. -/
theorem witness_FramesWrite (h : Clause.FramesWrite) :
    Answers (Instr.envelope) framesWrite1 Runs ∧
    Answers (Instr.kernel) framesWrite2 Runs ∧
    Answers (Instr.dspdata) framesWrite3 Runs ∧
    Answers (Instr.kernel) framesWrite4 Runs ∧
    Answers (Instr.table [3]) framesWrite5 Runs ∧
    Answers (Instr.code) framesWrite6 Runs ∧
    Answers (Instr.code) framesWrite7 Runs ∧
    Answers (Instr.code) (framesWrite8 DDR_READY) Runs ∧
    Answers (Instr.code) (framesWrite8 DDR_FAULT) Runs := by
  refine ⟨runs ((h framesWrite1 ?_ (readFrame (frameOf TY_ENVELOPE 31 7 0x7FFFC (leBytes 4 0x12345678)))).1
      .envelope TY_ENVELOPE 0x100000 ?_ ?_),
   runs ((h framesWrite2 ?_ (readFrame (frameOf TY_KERNEL 0 7 0 (leBytes 4 0x12345678)))).1 .kernel
       TY_KERNEL 0xC0000 ?_ ?_),
   runs ((h framesWrite3 ?_ (readFrame (frameOf TY_DSPDATA 31 7 0x1FFFC (leBytes 4 0x12345678)))).1
       .dspdata TY_DSPDATA 0x80000 ?_ ?_),
   runs ((h framesWrite4 ?_ (readFrame (frameOf TY_KERNEL TGT_ALL 7 8 (leBytes 4 0x12345678)))).1
       .kernel TY_KERNEL 0xC0000 ?_ ?_),
   runs ((h framesWrite5 ?_ (readFrame (frameOf TY_TABLE TGT_DEVICE 7 0x10000000 (leBytes 4 0x12345678)))).2.1 [3] (.table [3]) TY_TABLE ?_ ?_ (fun x hx => by rw [show (readFrame (frameOf TY_TABLE TGT_DEVICE 7 0x10000000 (leBytes 4 0x12345678))).words = [(0, 0x12345678)] from by decide +kernel] at hx ; obtain rfl := List.mem_singleton.mp hx ; exact ⟨by decide +kernel, 1, 0, by decide +kernel, by decide +kernel⟩)),
   runs (((h framesWrite6 ?_ (readFrame (frameOf TY_CODE 31 7 131040 (leBytes 28 (coded (2 ^ 223 + 5
       * 2 ^ 20)) ++ leBytes 4 0)))).2.2 ?_).2.1 ?_ ?_ ?_),
   runs (((h framesWrite7 ?_ (readFrame (frameOf TY_CODE 31 7 0 (leBytes 28 1 ++ leBytes 4 0)))).2.2
       ?_).1 ?_),
   runs ((((h (framesWrite8 DDR_READY) ?_ (readFrame (frameOf TY_CODE 31 7 131040 (leBytes 28 (coded (2 ^ 223 + 5
       * 2 ^ 20)) ++ leBytes 4 0)))).2.2 ?_).2.2 31 4095 (leBytes 28 (coded (2 ^ 223 + 5 * 2 ^ 20)) ++
       leBytes 4 0) ?_ ?_ ?_ ?_).1 ?_),
   runs ((((h (framesWrite8 DDR_FAULT) ?_ (readFrame (frameOf TY_CODE 31 7 131040 (leBytes 28 (coded (2 ^ 223 + 5
       * 2 ^ 20)) ++ leBytes 4 0)))).2.2 ?_).2.2 31 4095 (leBytes 28 (coded (2 ^ 223 + 5 * 2 ^ 20)) ++
       leBytes 4 0) ?_ ?_ ?_ ?_).2 ?_)⟩ <;> decide +kernel

def commits1 : Sys2Proof.Machine.State :=
  st [(LOADER_STATE_STATE, LD_LOADING)] 100 (onLoader (fun l =>
      { atFrame (some 7) (frameOf TY_COMMIT TGT_DEVICE 7 0 (leBytes 1 2 ++ leBytes 3 0 ++ leBytes 4 0xFFFFFFFF ++ leBytes 8 5)) l with signed := true }))

def commits2 : Sys2Proof.Machine.State :=
  st [(DEV_STATUS_PLL_LOCK, 1), (DEV_STATUS_CONV_CAL_DONE, 1), (TIME_EPOCH_STATUS_VALID, 1), (LOADER_STATE_STATE,
      LD_LOADING)] 100 (onLoader (atFrame (some 7) (frameOf TY_COMMIT TGT_DEVICE 7 0 (leBytes 1 0 ++ leBytes 3 0 ++
      leBytes 4 0 ++ leBytes 8 1124))))

def commits3 : Sys2Proof.Machine.State :=
  st [(DEV_STATUS_PLL_LOCK, 1), (DEV_STATUS_CONV_CAL_DONE, 1), (TIME_EPOCH_STATUS_VALID, 1), (LOADER_STATE_STATE,
      LD_LOADING)] 100 (onLoader (atFrame (some 7) (frameOf TY_COMMIT TGT_DEVICE 7 0 (leBytes 1 1 ++ leBytes 3 0 ++
      leBytes 4 0 ++ leBytes 8 5))))

def commits4 : Sys2Proof.Machine.State :=
  st [(DEV_STATUS_PLL_LOCK, 1), (DEV_STATUS_CONV_CAL_DONE, 1), (TIME_EPOCH_STATUS_VALID, 1), (LOADER_STATE_STATE,
      LD_LOADING)] 100 (onLoader (atFrame (some 7) (frameOf TY_COMMIT TGT_DEVICE 7 0 (leBytes 1 0 ++ leBytes 3 0 ++
      leBytes 4 0 ++ leBytes 8 1123))))

def commits5 : Sys2Proof.Machine.State :=
  st [(DEV_STATUS_PLL_LOCK, 1), (DEV_STATUS_CONV_CAL_DONE, 1), (TIME_EPOCH_STATUS_VALID, 1), (LOADER_STATE_STATE,
      LD_LOADING)] 100 (onLoader (fun l =>
      { atFrame (some 7) (frameOf TY_COMMIT TGT_DEVICE 7 0 (leBytes 1 0 ++ leBytes 3 0 ++ leBytes 4 0 ++ leBytes 8 1123)) l with shadows := [(CLASP_QUEUE_DEPTH 3 0, 63), (CLASP_QUEUE_DEPTH 3 1, 63), (CLASP_QUEUE_DEPTH 3 2, 63), (QT_CFG_EN 3 200, 1)] }))

def commits6 : Sys2Proof.Machine.State :=
  { st [(LOADER_STATE_STATE, LD_LOADING)] 100 (onLoader (fun l => { atFrame (some 7) (frameOf TY_SIGNATURE TGT_DEVICE 7 0 (List.replicate 192 5)) l with commit := some ⟨0, 0, 1124⟩ })) with fuse := { Fuses.reset with hashSet := true } }

def commits7 : Sys2Proof.Machine.State :=
  st [(DEV_STATUS_PLL_LOCK, 1), (DEV_STATUS_CONV_CAL_DONE, 1), (TIME_EPOCH_STATUS_VALID, 1), (LOADER_STATE_STATE,
      LD_LOADING)] 100 (onLoader (fun l =>
      { atFrame (some 7) ([]) l with verifying := true, commit := some ⟨0, 0, 1124⟩ }))

/-- A device before its first epoch whose tile 31 has the least clasp depths. -/
def unepoched : Sys2Proof.Machine.State :=
  st ([(DEV_STATUS_PLL_LOCK, 1), (DEV_STATUS_CONV_CAL_DONE, 1), (LOADER_STATE_STATE, LD_LOADING)] ++
    (List.range 33).map (fun c => (CLASP_QUEUE_DEPTH 31 c, 8)))

/-- Its setting passes the checks of a commit that releases tile 31. -/
theorem unepoched_setting : settingOk unepoched.view 0x80000000 = true :=
  setting_rest _ _ (by decide +kernel) (by decide +kernel) rfl

/-- A device before its first epoch, at COMMIT of a mode and a release mask. -/
def commits8 (mode release : Nat) : Sys2Proof.Machine.State :=
  { unepoched with
    tl := ⟨100, true⟩
    dev := onLoader (atFrame (some 7) (frameOf TY_COMMIT TGT_DEVICE 7 0 (leBytes 1 mode ++ leBytes 3 0 ++ leBytes 4 release ++
      leBytes 8 1124))) unepoched.dev }

/-- A sound commit before the first epoch. -/
theorem commits8_sound (mode release : Nat) (hm : mode = 0 ∨ mode = 2) (hr : release = 0 ∨ release = 0x80000000) :
    Sound (commits8 mode release) ⟨mode, release, 1124⟩ := by
  have a : settingOk (newSetting (commits8 mode release).view) release = true := by
    refine setting_of unepoched _ release ?_ (by simp only [commits8]) (by simp [commits8, onLoader, atFrame, unepoched, st]; rfl)
    rcases hr with rfl | rfl
    · exact setting_none _ _ unepoched_setting
    · exact unepoched_setting
  refine ⟨?_, a, ?_, rfl⟩ <;> rcases hm with rfl | rfl <;> rcases hr with rfl | rfl <;> decide +kernel

/-- SIGNATURE of an unsigned image on a device without a key hash. -/
def commits9 : Sys2Proof.Machine.State :=
  st [(DEV_STATUS_PLL_LOCK, 1), (DEV_STATUS_CONV_CAL_DONE, 1), (TIME_EPOCH_STATUS_VALID, 1), (LOADER_STATE_STATE,
      LD_LOADING)] 100 (onLoader (fun l =>
      { atFrame (some 7) (frameOf TY_SIGNATURE TGT_DEVICE 7 0 (List.replicate 192 5)) l with commit := some ⟨0, 0, 1124⟩ }))

/-- A public key, and its signature of the empty stream. -/
def signed_ : List Byte :=
  beBytes 48 baseX ++ beBytes 48 baseY ++
  beBytes 48 0x8d999057ba3d2d969260045c55b97f089025959a6f434d651d207d19fb96e9e4fe0e86ebe0e64f85b96a9c75295df61 ++
  beBytes 48 0x20c4fcd666a83488daff99623b86bdad558008355dd91e0cceef67c881d8283c3b97e39752bee57a1858be5c4d974c5e

/-- Its key hash. -/
def keyHash : List Byte :=
  leBytes 48 0xa19d4db171b582eb8052b0cfe555e17894aa22d1c8a9770950697dd8f796d2fa4bf0a56ad80006b7ea08e1191f814b65

/-- SHA-384 of the empty message, as FIPS 180-4's examples give it. -/
theorem test_sha384_empty :
    sha384 [] = 0x38b060a751ac96384cd9327eb1b1e36a21fdb71114be07434c0cc7bf63f6e1da274edebfe76f65fbd51ad2f14898b95b := by
  decide +kernel

theorem key_hash : sha384 (slice signed_ 0 96) = ofLe keyHash := by decide +kernel

theorem signature_holds :
    ecdsaOk 0x38b060a751ac96384cd9327eb1b1e36a21fdb71114be07434c0cc7bf63f6e1da274edebfe76f65fbd51ad2f14898b95b
      (ofBe (slice signed_ 0 48)) (ofBe (slice signed_ 48 48)) (ofBe (slice signed_ 96 48)) (ofBe (slice signed_ 144 48)) = true := by
  decide +kernel

/-- A signature that is good, and one that is not. -/
theorem good_signature : signatureOk keyHash [] signed_ = true := by
  simp only [signatureOk, key_hash, test_sha384_empty, signature_holds]; simp

def commits10 : Sys2Proof.Machine.State :=
  { commits7 with
    fuse := { Fuses.reset with hashSet := true, keyHash := keyHash }
    dev := onLoader (fun l => { l with sig := signed_ }) commits7.dev }

/-- States and operands that meet the hypotheses of Commits. -/
theorem witness_Commits_1 (h : Clause.Commits) :
    Answers (Instr.commit) commits1 Runs ∧
    Answers (Instr.commit) commits2 Runs ∧
    Answers (Instr.commit) commits3 Runs ∧
    Answers (Instr.commit) commits4 Runs ∧
    Answers (Instr.commit) commits5 Runs := by
  refine ⟨runs (((h commits1 ?_ (readFrame (frameOf TY_COMMIT TGT_DEVICE 7 0 (leBytes 1 2 ++ leBytes 3 0 ++
      leBytes 4 0xFFFFFFFF ++ leBytes 8 5)))).1 ?_ ⟨2, 0xFFFFFFFF, 5⟩ ?_).1
      ?_ ?_),
   runs (((h commits2 ?_ (readFrame (frameOf TY_COMMIT TGT_DEVICE 7 0 (leBytes 1 0 ++ leBytes 3 0 ++
       leBytes 4 0 ++ leBytes 8 1124)))).1 ?_ ⟨0, 0, 1124⟩ ?_).2.2.2.1
       ?_ ⟨⟨?_, setting_ok _ rfl rfl, ?_, ?_⟩, ?_, ?_⟩ ?_),
   runs (((h commits3 ?_ (readFrame (frameOf TY_COMMIT TGT_DEVICE 7 0 (leBytes 1 1 ++ leBytes 3 0 ++
       leBytes 4 0 ++ leBytes 8 5)))).1 ?_ ⟨1, 0, 5⟩ ?_).2.2.2.1 ?_
       ⟨⟨?_, setting_ok _ rfl rfl, ?_, ?_⟩, ?_, ?_⟩ ?_),
   runs (((h commits4 ?_ (readFrame (frameOf TY_COMMIT TGT_DEVICE 7 0 (leBytes 1 0 ++ leBytes 3 0 ++
       leBytes 4 0 ++ leBytes 8 1123)))).1 ?_ ⟨0, 0, 1123⟩ ?_).2.2.2.2.1
       ?_ ⟨⟨?_, setting_ok _ rfl rfl, ?_, ?_⟩, ?_, ?_⟩ ?_ ?_),
   runs (((h commits5 ?_ (readFrame (frameOf TY_COMMIT TGT_DEVICE 7 0 (leBytes 1 0 ++ leBytes 3 0 ++
       leBytes 4 0 ++ leBytes 8 1123)))).1 ?_ ⟨0, 0, 1123⟩ ?_).2.2.2.2.2.1
       ?_ ?_ ?_)⟩ <;> decide +kernel

/-- States and operands that meet the hypotheses of Commits. -/
theorem witness_Commits_2 (h : Clause.Commits) :
    Answers (Instr.commit) (commits8 0 0x80000000) Runs ∧
    Answers (Instr.commit) (commits8 0 0) Runs ∧
    Answers (Instr.commit) (commits8 2 0x80000000) Runs ∧
    Answers (Instr.signature) commits6 Runs ∧
    Answers (Instr.signature) commits9 Runs ∧
    Answers (Instr.signatureCheckDone) commits7 Runs ∧
    Answers (Instr.signatureCheckDone) commits10 Runs := by
  refine ⟨runs ((((h (commits8 0 0x80000000) ?_ (readFrame (frameOf TY_COMMIT TGT_DEVICE 7 0 (leBytes 1 0 ++ leBytes 3 0 ++
      leBytes 4 0x80000000 ++ leBytes 8 1124)))).1 ?_ ⟨0, 0x80000000, 1124⟩ ?_).2.2.2.2.2.2.1 ?_
      (commits8_sound 0 0x80000000 (.inl rfl) (.inr rfl)) ?_ ?_).1 ?_),
   runs ((((h (commits8 0 0) ?_ (readFrame (frameOf TY_COMMIT TGT_DEVICE 7 0 (leBytes 1 0 ++ leBytes 3 0 ++
      leBytes 4 0 ++ leBytes 8 1124)))).1 ?_ ⟨0, 0, 1124⟩ ?_).2.2.2.2.2.2.1 ?_
      (commits8_sound 0 0 (.inl rfl) (.inl rfl)) ?_ ?_).2 ?_),
   runs (((h (commits8 2 0x80000000) ?_ (readFrame (frameOf TY_COMMIT TGT_DEVICE 7 0 (leBytes 1 2 ++ leBytes 3 0 ++
      leBytes 4 0x80000000 ++ leBytes 8 1124)))).1 ?_ ⟨2, 0x80000000, 1124⟩ ?_).2.2.2.2.2.2.2 ?_
      (commits8_sound 2 0x80000000 (.inr rfl) (.inr rfl)) ?_),
   runs (((h commits6 ?_ (readFrame (frameOf TY_SIGNATURE TGT_DEVICE 7 0 (List.replicate 192 5)))).2.1
       ?_).1 ?_),
   runs (((h commits9 ?_ (readFrame (frameOf TY_SIGNATURE TGT_DEVICE 7 0 (List.replicate 192 5)))).2.1
       ?_).2 ?_ ⟨0, 0, 1124⟩ ?_ ⟨⟨?_, setting_ok _ rfl rfl, ?_, ?_⟩, ?_, ?_⟩ ?_),
   runs (((h commits7 ?_ (readFrame ([]))).2.2 ?_ ?_ ?_ ?_).1 ?_),
   runs (((h commits10 ?_ (readFrame ([]))).2.2 ?_ ?_ ?_ ?_).2.2 ⟨0, 0, 1124⟩ ?_
       ⟨⟨?_, setting_ok _ rfl rfl, ?_, ?_⟩, ?_, ?_⟩ ?_ good_signature)⟩ <;> decide +kernel

/-- The converters are not calibrated: an unsigned image comes to its COMMIT, which then waits, and a signature is found good. -/
def commits11 : Sys2Proof.Machine.State :=
  { st [(LOADER_STATE_STATE, LD_LOADING)] 100 (onLoader (fun l => { atFrame (some 7) [] l with
      verifying := true, commit := some ⟨0, 0, 1124⟩, sig := signed_ })) with
    fuse := { Fuses.reset with hashSet := true, keyHash := keyHash } }

def uncalibrated : Sys2Proof.Machine.State :=
  st [(DEV_STATUS_PLL_LOCK, 1), (TIME_EPOCH_STATUS_VALID, 1), (LOADER_STATE_STATE, LD_LOADING)]

theorem uncalibrated_setting : settingOk uncalibrated.view 0 = true :=
  setting_rest _ _ (by decide +kernel) (by decide +kernel) rfl

def commits12 (held : Bool) : Sys2Proof.Machine.State :=
  st [(DEV_STATUS_PLL_LOCK, 1), (TIME_EPOCH_STATUS_VALID, 1), (LOADER_STATE_STATE, LD_LOADING)] 100 (onLoader (fun l =>
    { atFrame (some 7) (frameOf TY_COMMIT TGT_DEVICE 7 0 (leBytes 1 0 ++ leBytes 3 0 ++ leBytes 4 0 ++ leBytes 8 1124)) l with
      commitHeld := held }))

/-- States and operands that meet the hypotheses of Commits where the converters are not calibrated. -/
theorem witness_Commits_3 (h : Clause.Commits) :
    Answers Instr.commit (commits12 false) Runs ∧
    Answers Instr.foregroundCalibrationDone (commits12 true) Runs ∧
    Answers Instr.signatureCheckDone commits11 Runs := by
  refine ⟨runs (((h (commits12 false) ?_ (readFrame (frameOf TY_COMMIT TGT_DEVICE 7 0 (leBytes 1 0 ++ leBytes 3 0 ++
      leBytes 4 0 ++ leBytes 8 1124)))).1 ?_ ⟨0, 0, 1124⟩ ?_).2.1 ?_ ?_),
    runs (((h (commits12 true) ?_ (readFrame (frameOf TY_COMMIT TGT_DEVICE 7 0 (leBytes 1 0 ++ leBytes 3 0 ++
      leBytes 4 0 ++ leBytes 8 1124)))).1 ?_ ⟨0, 0, 1124⟩ ?_).2.2.1 ?_ ?_ ?_ ?_
      (setting_of uncalibrated _ 0 uncalibrated_setting rfl rfl) ?_ ?_ ?_ ?_ ?_),
    runs (((h commits11 ?_ (readFrame ([]))).2.2 ?_ ?_ ?_ ?_).2.1 ⟨0, 0, 1124⟩ ?_ ?_ good_signature)⟩ <;> decide +kernel

def claspPoint1 : Sys2Proof.Machine.State :=
  st [(LOADER_STATE_STATE, LD_PENDING), (LOADER_P, 100), (HK_CTRL_MODE, 0), (SEQ_CFG_START 31, 4095),
      (LOADER_COUNT_COMMITS, 0xFFFFFFFF)] 100 (onLoader (fun l =>
      { l with source := 3, commit := some ⟨0, 0x80000000, 100⟩, imageId := 0xFFFFFFFF, verifying := true, ended := true, shadows := [(EVENTS_NOTE_Q, 0x3FFF)] }))

/-- States and operands that meet the hypotheses of ClaspPoint. -/
theorem witness_ClaspPoint (h : Clause.ClaspPoint) :
    Answers (Instr.claspPoint) claspPoint1 Runs := by
  exact runs (h claspPoint1 (by decide +kernel) ⟨0, 0x80000000, 100⟩ (by decide +kernel) (by decide +kernel) rfl rfl
    (by decide +kernel) rfl (by decide +kernel) (by decide +kernel) (by decide +kernel))

def loaderControl1 : Sys2Proof.Machine.State :=
  st [(LOADER_STATE_STATE, LD_LOADING)] 100 (onLoader (atFrame (some 7) ([])))

def loaderControl2 : Sys2Proof.Machine.State :=
  st [(LOADER_STATE_STATE, LD_ERROR)] 100 id

def loaderControl3 : Sys2Proof.Machine.State :=
  st [(LOADER_STATE_STATE, LD_ERROR), (LOADER_STATE_SOURCE, 3)] 100 id

def loaderControl4 : Sys2Proof.Machine.State :=
  withFlash (st [(DEV_STATUS_PLL_LOCK, 1), (LOADER_STATE_STATE, LD_IDLE)] 100 (onLoader (fun l =>
      { l with boot := .flash }))) [(0x04000000, slotDesc 8 0x03FFF000)]

def loaderControl5 : Sys2Proof.Machine.State :=
  withFlash (st [(DEV_STATUS_PLL_LOCK, 1), (LOADER_STATE_STATE, LD_IDLE)] 100 (onLoader (fun l =>
      { l with boot := .flash }))) [(0, slotDesc 7 4096), (0x04000000, slotDesc 8 0x03FFF000)]

/-- A pending commit 301 frames before its point, or as many as given. -/
def loaderControl6 (p : Nat) : Sys2Proof.Machine.State :=
  st [(LOADER_STATE_STATE, LD_PENDING), (LOADER_P, p)] 100 (onLoader (fun l => { l with
    source := 3
    ended := true
    commit := some ⟨0, 0, p⟩ }))

def loaderControl7 : Sys2Proof.Machine.State :=
  st [(DEV_STATUS_PLL_LOCK, 1), (LOADER_STATE_STATE, LD_IDLE)] 100 (onLoader (fun l => { l with boot := .flash }))

def loaderControl8 : Sys2Proof.Machine.State :=
  withFlash loaderControl7 [(0, slotDesc 7 4096)]

/-- States and operands that meet the hypotheses of LoaderControl. -/
theorem witness_LoaderControl (h : Clause.LoaderControl) :
    Answers (Instr.loaderAbort Via.jtag) loaderControl1 Runs ∧
    Answers (Instr.loaderAbort Via.genond) (loaderControl6 357) Runs ∧
    Answers (Instr.loaderAbort Via.mgt) loaderControl2 Runs ∧
    Answers (Instr.loaderAbort Via.mgt) (loaderControl6 356) Runs ∧
    Answers (Instr.loaderClear) loaderControl3 Runs ∧
    Answers (Instr.flashLoad) loaderControl7 Runs ∧
    Answers (Instr.flashLoad) loaderControl8 Runs ∧
    Answers (Instr.flashLoad) loaderControl4 Runs ∧
    Answers (Instr.flashLoad) loaderControl5 Runs := by
  refine ⟨runs ((h loaderControl1 ?_).1 .jtag ?_ ?_ ?_),
   runs ((h (loaderControl6 357) ?_).1 .genond ?_ ?_ ?_),
   runs ((h loaderControl2 ?_).2.1 .mgt ?_),
   runs ((h (loaderControl6 356) ?_).2.1 .mgt ?_),
   runs ((h loaderControl3 ?_).2.2.1 ?_ ?_),
   runs (((h loaderControl7 ?_).2.2.2 ?_ ?_ ?_ ?_ ?_).1 ?_ ?_ ?_),
   runs (((h loaderControl8 ?_).2.2.2 ?_ ?_ ?_ ?_ ?_).2 0 none ?_ ?_ ?_ ?_),
   runs (((h loaderControl4 ?_).2.2.2 ?_ ?_ ?_ ?_ ?_).2 1 none ?_ ?_ ?_ ?_),
   runs (((h loaderControl5 ?_).2.2.2 ?_ ?_ ?_ ?_ ?_).2 1 (some 0) ?_ ?_ ?_ ?_)⟩ <;> decide +kernel

def flashOperations1 : Sys2Proof.Machine.State :=
  st [(LOADER_FLASH_ADDR, 0x07FFFFFF)] 100 id

def flashOperations2 : Sys2Proof.Machine.State :=
  st [(LOADER_FLASH_CTRL_BUSY, 1), (LOADER_FLASH_CTRL_OP, 1)] 100 id

def flashOperations3 : Sys2Proof.Machine.State :=
  withFlash (st [(LOADER_FLASH_CTRL_BUSY, 1), (LOADER_FLASH_BUF 0, 0x11223344)] 100 (onLoader (fun l =>
      { l with flashOp := some (1, 0x07FFFFFF) }))) [(0x07FF0000, [1#8, 2#8]), (0x07FFFFFE, [3#8, 4#8]), (0x07FEFFFF,
      [5#8]), (256, [6#8])]

def flashOperations4 : Sys2Proof.Machine.State :=
  withFlash (st [(LOADER_FLASH_CTRL_BUSY, 1), (LOADER_FLASH_BUF 0, 0x11223344)] 100 (onLoader (fun l =>
      { l with flashOp := some (2, 0x07FFFFFF) }))) [(0x07FF0000, [1#8, 2#8]), (0x07FFFFFE, [3#8, 4#8]), (0x07FEFFFF,
      [5#8]), (256, [6#8])]

def flashOperations5 : Sys2Proof.Machine.State :=
  withFlash (st [(LOADER_FLASH_CTRL_BUSY, 1), (LOADER_FLASH_BUF 0, 0x11223344)] 100 (onLoader (fun l =>
      { l with flashOp := some (3, 0x07FFFFFF) }))) [(0x07FF0000, [1#8, 2#8]), (0x07FFFFFE, [3#8, 4#8]), (0x07FEFFFF,
      [5#8]), (256, [6#8])]

def flashOperations6 : Sys2Proof.Machine.State :=
  withFlash (st [(LOADER_FLASH_CTRL_BUSY, 1), (LOADER_FLASH_BUF 0, 0x11223344)] 100 (onLoader (fun l =>
      { l with flashOp := some (2, 0) }))) [(0x07FF0000, [1#8, 2#8]), (0x07FFFFFE, [3#8, 4#8]), (0x07FEFFFF, [5#8]),
      (256, [6#8])]

/-- The loader reads an image from the flash. -/
def flashOperations7 : Sys2Proof.Machine.State :=
  st [(LOADER_STATE_STATE, LD_LOADING)] 100 (onLoader (fun l => { l with source := 1 }))

/-- States and operands that meet the hypotheses of FlashOperations. -/
theorem witness_FlashOperations_1 (h : Clause.FlashOperations) :
    Answers (Instr.flashErase Via.jtag) flashOperations1 Runs ∧
    Answers (Instr.flashErase Via.jtag) flashOperations2 Runs ∧
    Answers (Instr.flashProgram Via.mgt) flashOperations1 Runs ∧
    Answers (Instr.flashProgram Via.mgt) flashOperations7 Runs ∧
    Answers (Instr.flashRead Via.genond) flashOperations1 Runs ∧
    Answers (Instr.flashRead Via.genond) flashOperations2 Runs ∧
    Answers (Instr.flashOpDone) flashOperations3 Runs ∧
    Answers (Instr.flashOpDone) flashOperations4 Runs := by
  refine ⟨runs (((h flashOperations1 ?_).1 .jtag (.flashErase .jtag) 1 ?_ ?_).1 ?_ ?_),
   runs (((h flashOperations2 ?_).1 .jtag (.flashErase .jtag) 1 ?_ ?_).2 ?_),
   runs (((h flashOperations1 ?_).1 .mgt (.flashProgram .mgt) 2 ?_ ?_).1 ?_ ?_),
   runs (((h flashOperations7 ?_).1 .mgt (.flashProgram .mgt) 2 ?_ ?_).2 ?_),
   runs (((h flashOperations1 ?_).1 .genond (.flashRead .genond) 3 ?_ ?_).1 ?_ ?_),
   runs (((h flashOperations2 ?_).1 .genond (.flashRead .genond) 3 ?_ ?_).2 ?_),
   runs ((h flashOperations3 ?_).2 1 0x07FFFFFF ?_),
   runs ((h flashOperations4 ?_).2 2 0x07FFFFFF ?_)⟩ <;> decide +kernel

/-- States and operands that meet the hypotheses of FlashOperations. -/
theorem witness_FlashOperations_2 (h : Clause.FlashOperations) :
    Answers (Instr.flashOpDone) flashOperations5 Runs ∧
    Answers (Instr.flashOpDone) flashOperations6 Runs := by
  refine ⟨runs ((h flashOperations5 ?_).2 3 0x07FFFFFF ?_),
   runs ((h flashOperations6 ?_).2 2 0 ?_)⟩ <;> decide +kernel

def fuseProgramming1 : Sys2Proof.Machine.State :=
  { st [] 100 id with fuse := { Fuses.reset with hashSet := false } }

def fuseProgramming2 : Sys2Proof.Machine.State :=
  { st [] 100 id with fuse := { Fuses.reset with hashSet := true } }

def fuseProgramming3 : Sys2Proof.Machine.State :=
  { st [(SEQ_STATE_STATE 31, RUN), (LOADER_FUSE_PROG_BUSY, 1)] 100 id with fuse := { Fuses.reset with hashSet := true } }

def fuseProgramming4 : Sys2Proof.Machine.State :=
  { st [(LOADER_FUSE_PROG_BUSY, 1), (FUSE_HASH, 1), (LOADER_FUSE_DATA 11, 0xFFFFFFFF)] 100 id with fuse := { Fuses.reset with hashSet := false } }

def fuseProgramming5 : Sys2Proof.Machine.State :=
  { st [(LOADER_FUSE_PROG_BUSY, 1), (FUSE_SIGN, 1)] 100 id with fuse := { Fuses.reset with hashSet := true, keyHash := leBytes 48 5 } }

/-- States and operands that meet the hypotheses of FuseProgramming. -/
theorem witness_FuseProgramming (h : Clause.FuseProgramming) :
    Answers (Instr.progHash Via.jtag) fuseProgramming1 Runs ∧
    Answers (Instr.progSign Via.jtag) fuseProgramming2 Runs ∧
    Answers (Instr.progHash Via.jtag) fuseProgramming2 Runs ∧
    Answers (Instr.progSign Via.jtag) fuseProgramming1 Runs ∧
    Answers (Instr.progHash Via.mgt) fuseProgramming2 Runs ∧
    Answers (Instr.progSign Via.jtag) fuseProgramming3 Runs ∧
    Answers (Instr.fuseProgrammingDone) fuseProgramming4 Runs ∧
    Answers (Instr.fuseProgrammingDone) fuseProgramming5 Runs := by
  refine ⟨runs ((h fuseProgramming1 ?_).1 (.progHash .jtag) (Or.inl ⟨rfl, by decide +kernel⟩)
      ?_ ?_),
   runs ((h fuseProgramming2 ?_).1 (.progSign .jtag) (Or.inr ⟨rfl, by decide +kernel⟩)
       ?_ ?_),
   runs ((h fuseProgramming2 ?_).2.1 (.progHash .jtag) (Or.inl ⟨rfl, by decide +kernel⟩) ?_ ?_),
   runs ((h fuseProgramming1 ?_).2.1 (.progSign .jtag) (Or.inr ⟨rfl, by decide +kernel⟩) ?_ ?_),
   runs ((h fuseProgramming2 ?_).2.2.1 .mgt (.progHash .mgt) (Or.inl rfl) (Or.inl (by decide))),
   runs ((h fuseProgramming3 ?_).2.2.1 .jtag (.progSign .jtag) (Or.inr rfl) (Or.inr
       ?_)),
   runs ((h fuseProgramming4 ?_).2.2.2 ?_),
   runs ((h fuseProgramming5 ?_).2.2.2 ?_)⟩ <;> decide +kernel

/-- A loader that takes a compressed image, with blocks in its stream and decompressors at work. -/
def inflating (cbuf : List Byte) (dec : List DecJob) (fs : List (Fld × Nat) := []) : Sys2Proof.Machine.State :=
  st ((LOADER_STATE_STATE, LD_LOADING) :: fs) 100 (onLoader (fun l => { atFrame (some 7) [] l with
    comp := true
    cbuf := cbuf
    dec := dec }))

/-- A stored block, and blocks whose header, whose length and whose stream are bad (R389 to R392). -/
def storedBlock : List Byte := blockHeader BLK_STORED 0 3 3 true false ++ [1#8, 2#8, 3#8]
def formatBlock : List Byte := [1#8, 2#8, 3#8, 4#8, 5#8, 6#8, 7#8, 8#8]
def expandBlock : List Byte := blockHeader BLK_LZ 0 1 2 true false ++ [0x1F#8, 0#8]
def shortBlock : List Byte := blockHeader BLK_LZ 0 40 1 true false ++ [0#8]

/-- Decompressors 0 to 6 at work. -/
def seven : List DecJob := (List.range 7).map (fun i => ⟨i, storedBlock, none⟩)

/-- Decompressor 7 at work on a block between two others. -/
def between (b : List Byte) : List DecJob := [⟨3, storedBlock, some [9#8]⟩, ⟨7, b, none⟩, ⟨2, storedBlock, some [8#8]⟩]

/-- An error of a decompressor is on record. -/
def failedOnce : List (Fld × Nat) := [(COMP_STATUS_DECOMP_ERR, 1), (COMP_LAST_ERR_VALID, 1)]

/-- States and operands that meet the hypotheses of Decompression. -/
theorem witness_Decompression (h : Clause.Decompression) :
    Answers (Instr.decompressBlock 0) (inflating (storedBlock ++ [4#8]) [] [(COMP_D_BLOCKS 0, 0xFFFFFFFF)]) Runs ∧
    Answers (Instr.decompressBlock 7) (inflating storedBlock seven) Runs ∧
    Answers (Instr.decompressBlock 7) (inflating [] (between storedBlock)) Runs ∧
    Answers (Instr.decompressBlock 7) (inflating [] (between formatBlock)) Runs ∧
    Answers (Instr.decompressBlock 7) (inflating [] (between formatBlock) failedOnce) Runs ∧
    Answers (Instr.decompressBlock 7) (inflating [] (between expandBlock)) Runs ∧
    Answers (Instr.decompressBlock 7) (inflating [] (between shortBlock) failedOnce) Runs := by
  refine ⟨runs ((h (inflating (storedBlock ++ [4#8]) [] [(COMP_D_BLOCKS 0, 0xFFFFFFFF)]) ?_ ?_ ?_ ?_ ?_ ?_).1 0
      [1#8, 2#8, 3#8] ?_ ?_ ?_ ?_ ?_ ?_),
   runs ((h (inflating storedBlock seven) ?_ ?_ ?_ ?_ ?_ ?_).1 7 [1#8, 2#8, 3#8] ?_ ?_ ?_ ?_ ?_ ?_),
   runs (((h (inflating [] (between storedBlock)) ?_ ?_ ?_ ?_ ?_ ?_).2 ?_ 7 ⟨7, storedBlock, none⟩ [⟨3, storedBlock, some [9#8]⟩]
      [⟨2, storedBlock, some [8#8]⟩] ?_ ?_ ?_ ?_).1 [1#8, 2#8, 3#8] ?_),
   runs (((h (inflating [] (between formatBlock)) ?_ ?_ ?_ ?_ ?_ ?_).2 ?_ 7 ⟨7, formatBlock, none⟩ [⟨3, storedBlock, some [9#8]⟩]
      [⟨2, storedBlock, some [8#8]⟩] ?_ ?_ ?_ ?_).2 3 (COMP_D_ERR_FORMAT 7) ?_),
   runs (((h (inflating [] (between formatBlock) failedOnce) ?_ ?_ ?_ ?_ ?_ ?_).2 ?_ 7 ⟨7, formatBlock, none⟩
      [⟨3, storedBlock, some [9#8]⟩] [⟨2, storedBlock, some [8#8]⟩] ?_ ?_ ?_ ?_).2 3 (COMP_D_ERR_FORMAT 7) ?_),
   runs (((h (inflating [] (between expandBlock)) ?_ ?_ ?_ ?_ ?_ ?_).2 ?_ 7 ⟨7, expandBlock, none⟩ [⟨3, storedBlock, some [9#8]⟩]
      [⟨2, storedBlock, some [8#8]⟩] ?_ ?_ ?_ ?_).2 1 (COMP_D_ERR_EXPAND 7) ?_),
   runs (((h (inflating [] (between shortBlock) failedOnce) ?_ ?_ ?_ ?_ ?_ ?_).2 ?_ 7 ⟨7, shortBlock, none⟩
      [⟨3, storedBlock, some [9#8]⟩] [⟨2, storedBlock, some [8#8]⟩] ?_ ?_ ?_ ?_).2 2 (COMP_D_ERR_SHORT 7) ?_)⟩ <;> decide +kernel

def portTraining1 : Sys2Proof.Machine.State :=
  st [(QDR_STATUS 1, QDR_FAILED)] 100 id

def portTraining2 : Sys2Proof.Machine.State :=
  st [(QDR_STATUS 1, QDR_TRAINING)] 100 id

def portTraining3 : Sys2Proof.Machine.State :=
  st [(QDR_STATUS 1, QDR_TRAINING), (DEV_ERRLOG_HEAD, 63)] 100 id

def portTraining4 : Sys2Proof.Machine.State :=
  st [(DDR_STATUS_STATE 1, DDR_READY)] 100 id [(0xA000000000, [1#8])]

def portTraining5 : Sys2Proof.Machine.State :=
  st [(DDR_STATUS_STATE 1, DDR_FAULT)] 100 id [(0xA000000000, [1#8]), (0x9FFFFFFFFF, [2#8])]

def portTraining6 : Sys2Proof.Machine.State :=
  st [(DDR_STATUS_STATE 1, DDR_TRAINING)] 100 id

/-- States and operands that meet the hypotheses of PortTraining. -/
theorem witness_PortTraining (h : Clause.PortTraining) :
    Answers (Instr.qdrTrain 1) portTraining1 Runs ∧
    Answers (Instr.qdrTrainDone 1 true) portTraining2 Runs ∧
    Answers (Instr.qdrTrainDone 1 false) portTraining3 Runs ∧
    Answers (Instr.ddrTrain 1) portTraining4 Runs ∧
    Answers (Instr.ddrTrain 1) portTraining5 Runs ∧
    Answers (Instr.ddrTrainDone 1 true) portTraining6 Runs ∧
    Answers (Instr.ddrTrainDone 1 false) portTraining6 Runs := by
  refine ⟨runs ((h portTraining1 ?_ 1).1),
   runs (((h portTraining2 ?_ 1).2.1 ?_).1),
   runs (((h portTraining3 ?_ 1).2.1 ?_).2),
   runs ((h portTraining4 ?_ 1).2.2.1),
   runs ((h portTraining5 ?_ 1).2.2.1),
   runs (((h portTraining6 ?_ 1).2.2.2 ?_).1),
   runs (((h portTraining6 ?_ 1).2.2.2 ?_).2)⟩ <;> decide +kernel

/-- Channel 1 in a state, with the queued writes and the replays of its subchannels, and bytes of its memory. -/
def channel (state : Nat) (writes : List (List DdrWrite)) (replay : List Bool := [false, false]) : Sys2Proof.Machine.State :=
  st [(DDR_ORDER_FWD 1, 0xFFFFFFFF), (DDR_STATUS_STATE 1, state)] 100 (fun d =>
      { d with ddr := vset d.ddr 1 { DdrSt.reset with
        writes := writes
        replay := replay } }) [(0xA000000000, [1#8, 2#8]), (0xA00000003F, [3#8])]

/-- As many queued writes of line 0 as the queue holds. -/
def fullQueue : List DdrWrite := List.replicate 64 ⟨0, 1, false⟩

/-- States and operands that meet the hypotheses of ChannelRequests. -/
theorem witness_ChannelRequests (h : Clause.ChannelRequests) :
    Answers (Instr.ddrRequest 1 0 2 64 [] false 0 false) (channel DDR_READY [[⟨5, 1, false⟩, ⟨0, 1, false⟩], []]) Runs ∧
    Answers (Instr.ddrRequest 1 63 0 64 [] false 0 true) (channel DDR_READY [[⟨16, 1, false⟩], []]) Runs ∧
    Answers (Instr.ddrRequest 1 17179869183 0 0 [] true 0 true) (channel DDR_READY [[], []]) Runs ∧
    Answers (Instr.ddrRequest 1 62 1 64 [7#8, 8#8, 9#8] false 1 false) (channel DDR_READY [[⟨16, 1, false⟩], []]) Runs ∧
    Answers (Instr.ddrRequest 1 0 1 64 (List.replicate 70 4#8) false 0 false) (channel DDR_READY [fullQueue, []]) Runs ∧
    Answers (Instr.ddrRequest 1 64 1 64 [] false 0 false) (channel DDR_READY [[], []] [false, true]) Runs ∧
    Answers (Instr.ddrRequest 1 64 1 64 [4#8] false 0 false) (channel DDR_FROST [[], []]) Runs ∧
    Answers (Instr.ddrRequest 1 17179869184 1 64 [] false 0 false) (channel DDR_READY [[], []]) Runs ∧
    Answers (Instr.ddrRequest 1 17179869184 1 64 [4#8] false 0 false) (channel DDR_FROST [[], []]) Runs := by
  refine ⟨runs (((h (channel DDR_READY [[⟨5, 1, false⟩, ⟨0, 1, false⟩], []]) ?_ 1 0 2 64 [] false 0 false).1 ?_ ?_ ?_).1 ?_),
   runs (((h (channel DDR_READY [[⟨16, 1, false⟩], []]) ?_ 1 63 0 64 [] false 0 true).1 ?_ ?_ ?_).1 ?_),
   runs (((h (channel DDR_READY [[], []]) ?_ 1 17179869183 0 0 [] true 0 true).1 ?_ ?_ ?_).1 ?_),
   runs (((h (channel DDR_READY [[⟨16, 1, false⟩], []]) ?_ 1 62 1 64 [7#8, 8#8, 9#8] false 1 false).1 ?_ ?_ ?_).2 ?_),
   runs (((h (channel DDR_READY [fullQueue, []]) ?_ 1 0 1 64 (List.replicate 70 4#8) false 0 false).1 ?_ ?_ ?_).2 ?_),
   runs ((h (channel DDR_READY [[], []] [false, true]) ?_ 1 64 1 64 [] false 0 false).2.1 ?_ ?_ ?_),
   runs ((h (channel DDR_FROST [[], []]) ?_ 1 64 1 64 [4#8] false 0 false).2.2.1 ?_ ?_ ?_),
   runs (((h (channel DDR_READY [[], []]) ?_ 1 17179869184 1 64 [] false 0 false).2.2.2 ?_ ?_).1 ?_),
   runs (((h (channel DDR_FROST [[], []]) ?_ 1 17179869184 1 64 [4#8] false 0 false).2.2.2 ?_ ?_).2 ?_)⟩ <;> decide +kernel

def rowHammer1 : Sys2Proof.Machine.State :=
  st [(DDR_RH_THR 1, 9), (DDR_STATUS_STATE 1, DDR_READY)] 100 (fun d =>
      { d with ddr := vset d.ddr 1 { DdrSt.reset with acts := [⟨0, 5, 7⟩, ⟨1, 0, 9⟩] } })

def rowHammer2 : Sys2Proof.Machine.State :=
  st [(DDR_RH_THR 1, 8), (DDR_RH_RFM_EN 1, 1), (DDR_STATUS_STATE 1, DDR_READY)] 100 (fun d =>
      { d with ddr := vset d.ddr 1 { DdrSt.reset with acts := [⟨0, 5, 7⟩, ⟨1, 0, 9⟩] } })

def rowHammer3 : Sys2Proof.Machine.State :=
  st [(DDR_RH_THR 1, 8), (DDR_STATUS_STATE 1, DDR_READY)] 100 (fun d =>
      { d with ddr := vset d.ddr 1 { DdrSt.reset with acts := [⟨0, 5, 7⟩, ⟨1, 0, 9⟩] } })

def rowHammer4 : Sys2Proof.Machine.State :=
  st [(DDR_STATUS_STATE 1, DDR_READY)] 100 (fun d =>
      { d with ddr := vset d.ddr 1 { DdrSt.reset with acts := [⟨0, 5, 7⟩, ⟨1, 0, 9⟩] } })

/-- States and operands that meet the hypotheses of RowHammer. -/
theorem witness_RowHammer (h : Clause.RowHammer) :
    Answers (Instr.ddrRequest 1 (Fin.ofNat (2 ^ 37) (5 * 2 ^ 18)) 1 64 [] true 0 false) rowHammer1 Runs ∧
    Answers (Instr.ddrRequest 1 (Fin.ofNat (2 ^ 37) (5 * 2 ^ 18)) 1 64 [] true 0 false) rowHammer2 Runs ∧
    Answers (Instr.ddrRequest 1 (Fin.ofNat (2 ^ 37) (5 * 2 ^ 18)) 1 64 [] true 0 false) rowHammer3 Runs ∧
    Answers (Instr.activateTableClear 1) rowHammer4 Runs := by
  refine ⟨runs (((h rowHammer1 ?_ 1 (Fin.ofNat (2 ^ 37) (5 * 2 ^ 18)) 1 64 0 false).1 ?_ ?_ ?_ ?_ ?_).1 ?_),
   runs (((h rowHammer2 ?_ 1 (Fin.ofNat (2 ^ 37) (5 * 2 ^ 18)) 1 64 0 false).1 ?_ ?_ ?_ ?_ ?_).2 ?_),
   runs (((h rowHammer3 ?_ 1 (Fin.ofNat (2 ^ 37) (5 * 2 ^ 18)) 1 64 0 false).1 ?_ ?_ ?_ ?_ ?_).2 ?_),
   runs ((h rowHammer4 ?_ 1 0 0 0 0 false).2)⟩ <;> decide +kernel

def commandParity1 : Sys2Proof.Machine.State :=
  st [(DDR_PARITY_ALERTS 1, 0xFFFF), (DDR_STATUS_STATE 1, DDR_READY)] 100 (fun d =>
      { d with ddr := vset d.ddr 1 DdrSt.reset })

def commandParity2 : Sys2Proof.Machine.State :=
  st [(DDR_STATUS_STATE 1, DDR_TRAINING)] 100 (fun d => { d with ddr := vset d.ddr 1 DdrSt.reset })

def commandParity3 : Sys2Proof.Machine.State :=
  st [(DDR_STATUS_STATE 1, DDR_READY)] 100 (fun d =>
      { d with ddr := vset d.ddr 1 { DdrSt.reset with replay := [false, true], fails := [0, 1] } })

def commandParity4 : Sys2Proof.Machine.State :=
  st [(DDR_STATUS_STATE 1, DDR_READY)] 100 (fun d =>
      { d with ddr := vset d.ddr 1 { DdrSt.reset with replay := [false, true], fails := [0, 2], writes := [[⟨5, 1, false⟩], []], cmds := [[], [⟨.read, 5⟩, ⟨.activate, 5⟩]] } })

def commandParity5 : Sys2Proof.Machine.State :=
  st [(DDR_STATUS_STATE 1, DDR_READY)] 100 (fun d =>
      { d with ddr := vset d.ddr 1 { DdrSt.reset with replay := [false, true], fails := [0, 2] } })

/-- States and operands that meet the hypotheses of CommandParity. -/
theorem witness_CommandParity (h : Clause.CommandParity) :
    Answers (Instr.ddrAlert 1 1) commandParity1 Runs ∧
    Answers (Instr.ddrAlert 1 0) commandParity2 Runs ∧
    Answers (Instr.ddrAlert 1 1) commandParity3 Runs ∧
    Answers (Instr.ddrAlert 1 1) commandParity4 Runs ∧
    Answers (Instr.replayDone 1 1 true) commandParity5 Runs ∧
    exec (.replayDone 1 1 false) commandParity5 = exec (.ddrAlert 1 1) commandParity5 := by
  refine ⟨runs (((h commandParity1 ?_ 1 1).1 (Or.inl ?_)).1 ?_),
   runs (((h commandParity2 ?_ 1 0).1 (Or.inr ?_)).1 ?_),
   runs (((h commandParity3 ?_ 1 1).1 (Or.inl ?_)).2.1 ?_
       ?_),
   runs (((h commandParity4 ?_ 1 1).1 (Or.inl ?_)).2.2 ?_
       ?_),
   runs (((h commandParity5 ?_ 1 1).2 ?_).1 ?_),
   ((h commandParity5 ?_ 1 1).2 ?_).2.2⟩ <;> decide +kernel

/-- A read of line 1 of channel 1 waits, for a replay of its subchannel or for a refresh of its rank, and is to give out two bytes. -/
def waitsFor (replay busy : Bool) : Sys2Proof.Machine.State :=
  st [(DDR_STATUS_STATE 1, DDR_READY)] 100 (fun d => { d with ddr := vset d.ddr 1 { DdrSt.reset with
    replay := [false, replay], busy := [busy, false], waiting := [⟨64, 2, false, true, 0, false, some [7#8, 8#8]⟩] } })

/-- States and operands that meet the hypotheses of CommandParity for a request that waits. -/
theorem witness_CommandParity_2 (h : Clause.CommandParity) : Answers (Instr.replayDone 1 1 true) (waitsFor true false) Runs := by
  refine runs (((h (waitsFor true false) ?_ 1 1).2 ?_).2.1 ⟨64, 2, false, true, 0, false, some [7#8, 8#8]⟩ [7#8, 8#8] ?_ ?_ ?_ ?_) <;>
    decide +kernel

def refreshAndFrost1 : Sys2Proof.Machine.State :=
  st [(DDR_REF_MAXPOST 1, 7), (DDR_STATUS_STATE 1, DDR_READY)] 100 (fun d =>
      { d with ddr := vset d.ddr 1 { DdrSt.reset with debt := [15600, 0] } })

def refreshAndFrost2 : Sys2Proof.Machine.State :=
  st [(DDR_REF_MAXPOST 1, 7), (DDR_REF_STAT_FORCED 1, 0xFFFF), (DDR_STATUS_STATE 1, DDR_READY)] 100 (fun d =>
      { d with ddr := vset d.ddr 1 { DdrSt.reset with debt := [19500, 0] } })

def refreshAndFrost3 : Sys2Proof.Machine.State :=
  st [(DDR_REF_MAXPOST 1, 0), (DDR_CFG_RANKS 1, 1), (DDR_STATUS_STATE 1, DDR_READY)] 100 (fun d =>
      { d with ddr := vset d.ddr 1 { DdrSt.reset with debt := [0, 3900] } })

def refreshAndFrost4 : Sys2Proof.Machine.State :=
  st [(DDR_STATUS_STATE 1, DDR_READY)] 100 (fun d =>
      { d with ddr := vset d.ddr 1 { DdrSt.reset with busy := [true, true] } })

def refreshAndFrost5 : Sys2Proof.Machine.State :=
  st [(DDR_STATUS_STATE 1, DDR_READY)] 100 (fun d =>
      { d with ddr := vset d.ddr 1 { DdrSt.reset with debt := [2000, 0] } })

def refreshAndFrost6 : Sys2Proof.Machine.State :=
  st [(DDR_FROST_IDLE_US 1, 1), (DDR_FROST_ENTRIES 1, 0xFFFFFFFF), (DDR_STATUS_STATE 1, DDR_READY)] 100 (fun d =>
      { d with ddr := vset d.ddr 1 DdrSt.reset })

def refreshAndFrost7 : Sys2Proof.Machine.State :=
  st [(DDR_STATUS_STATE 1, DDR_FROST)] 100 (fun d =>
      { d with ddr := vset d.ddr 1 { DdrSt.reset with debt := [5, 5], zqDue := [true, false] } })

def refreshAndFrost8 : Sys2Proof.Machine.State :=
  st [(DDR_CFG_RANKS 1, 1), (DDR_STATUS_STATE 1, DDR_READY)] 100 (fun d =>
      { d with ddr := vset d.ddr 1 { DdrSt.reset with zqDue := [false, true] } })

def refreshAndFrost9 : Sys2Proof.Machine.State :=
  st [(DDR_STATUS_STATE 1, DDR_READY)] 100 (fun d => { d with ddr := vset d.ddr 1 DdrSt.reset })

/-- A subchannel of channel 1 replays. -/
def refreshAndFrost10 : Sys2Proof.Machine.State :=
  st [(DDR_CFG_RANKS 1, 1), (DDR_STATUS_STATE 1, DDR_READY)] 100 (fun d => { d with ddr := vset d.ddr 1 { DdrSt.reset with
    replay := [false, true] } })

/-- States and operands that meet the hypotheses of RefreshAndFrost. -/
theorem witness_RefreshAndFrost_1 (h : Obligations.RefreshAndFrost) :
    Answers (Instr.refreshDue 1 0 true) refreshAndFrost1 Runs ∧
    Answers (Instr.refreshDue 1 0 true) refreshAndFrost2 Runs ∧
    Answers (Instr.refreshDue 1 1 false) refreshAndFrost3 Runs ∧
    Answers (Instr.refreshDue 1 1 true) refreshAndFrost10 Runs ∧
    Answers (Instr.mr4Poll 1 false) refreshAndFrost10 Runs ∧
    Answers (Instr.zqDue 1 1 false 9) refreshAndFrost10 Runs ∧
    Answers (Instr.refreshComplete 1 1) refreshAndFrost4 Runs := by
  refine ⟨runs (((h refreshAndFrost1 ?_ 1 0).1 ?_ ?_ ?_ ?_ ?_).1 true ?_ ?_),
   runs (((h refreshAndFrost2 ?_ 1 0).1 ?_ ?_ ?_ ?_ ?_).2 true (Or.inr ?_)),
   runs (((h refreshAndFrost3 ?_ 1 1).1 ?_ ?_ ?_ ?_ ?_).2 false (Or.inl ?_)),
   runs (((h refreshAndFrost10 ?_ 1 1).2.1 ?_ ?_ ?_ false true 9).1),
   runs (((h refreshAndFrost10 ?_ 1 1).2.1 ?_ ?_ ?_ false true 9).2.1),
   runs (((h refreshAndFrost10 ?_ 1 1).2.1 ?_ ?_ ?_ false false 9).2.2),
   runs ((h refreshAndFrost4 ?_ 1 1).2.2.1 ?_)⟩ <;> decide +kernel

/-- States and operands that meet the hypotheses of RefreshAndFrost. -/
theorem witness_RefreshAndFrost_2 (h : Obligations.RefreshAndFrost) :
    Answers (Instr.mr4Poll 1 true) refreshAndFrost5 Runs ∧
    Answers (Instr.frostEntry 1) refreshAndFrost6 Runs ∧
    Answers (Instr.frostWake 1 true) refreshAndFrost7 Runs ∧
    Answers (Instr.zqDue 1 1 true 128) refreshAndFrost8 Runs ∧
    Answers (Instr.zqDue 1 0 true 127) refreshAndFrost9 Runs ∧
    Answers (Instr.zqDue 1 0 true 128) refreshAndFrost7 Runs := by
  refine ⟨runs ((h refreshAndFrost5 ?_ 1 1).2.2.2.2.1 true ?_ ?_),
   runs ((h refreshAndFrost6 ?_ 1 1).2.2.2.2.2.1 ?_ ?_ ?_ ?_ ?_ ?_ ?_ ?_ ?_),
   runs ((h refreshAndFrost7 ?_ 1 1).2.2.2.2.2.2.1 true ?_),
   runs (((h refreshAndFrost8 ?_ 1 1).2.2.2.2.2.2.2 true 128 ?_).1 ?_ ?_),
   runs (((h refreshAndFrost9 ?_ 1 0).2.2.2.2.2.2.2 true 127 ?_).1 ?_ ?_),
   runs (((h refreshAndFrost7 ?_ 1 0).2.2.2.2.2.2.2 true 128 ?_).2 ?_)⟩ <;> decide +kernel

/-- Rank 0 has refreshed less than half a tREFI ago. -/
def refreshAndFrost11 : Sys2Proof.Machine.State :=
  st [(DDR_REF_MAXPOST 1, 7), (DDR_CFG_RANKS 1, 1), (DDR_STATUS_STATE 1, DDR_READY)] 100 (fun d =>
    { d with ddr := vset d.ddr 1 { DdrSt.reset with debt := [0, 3900], lastRef := [some d.ticks, none] } })

/-- States and operands that meet the hypotheses of RefreshAndFrost for ranks that follow each other and a request that waits. -/
theorem witness_RefreshAndFrost_3 (h : Obligations.RefreshAndFrost) :
    Answers (Instr.refreshDue 1 1 false) refreshAndFrost11 Runs ∧
    Answers (Instr.refreshComplete 1 0) (waitsFor false true) Runs := by
  refine ⟨runs (((h refreshAndFrost11 ?_ 1 1).1 ?_ ?_ ?_ ?_ ?_).1 false ?_ ?_),
    runs ((h (waitsFor false true) ?_ 1 0).2.2.2.1 ⟨64, 2, false, true, 0, false, some [7#8, 8#8]⟩ [7#8, 8#8] ?_ ?_ ?_ ?_)⟩ <;>
    decide +kernel

def rounds1 : Sys2Proof.Machine.State :=
  st [(DEV_STATUS_REFCLK_OK, 1), (HK_STATUS_ROUND, 1), (HK_CTRL_MODE, 1), (HK_ROUNDS_SKIP, 0xFFFF)] 100 id

def rounds2 : Sys2Proof.Machine.State :=
  st [(DEV_STATUS_REFCLK_OK, 1), (HK_CTRL_MODE, 0), (HK_CTRL_NENT_M1, 15)] 100 (fun d =>
      { d with hk := { HkSt.reset with acted := some 7 } })

def rounds3 : Sys2Proof.Machine.State :=
  st [(DEV_STATUS_REFCLK_OK, 1), (HK_CTRL_MODE, 1), (HK_CTRL_NENT_M1, 15)] 100 (fun d =>
      { d with hk := { HkSt.reset with clock := 3 } })

def rounds4 : Sys2Proof.Machine.State :=
  st [(DEV_STATUS_REFCLK_OK, 1), (HK_CTRL_MODE, 3), (HK_CTRL_NENT_M1, 15)] 100 (fun d =>
      { d with hk := { HkSt.reset with clock := 3 } })

def rounds5 : Sys2Proof.Machine.State :=
  st [(HK_STATUS_ROUND, 1)] 100 (fun d =>
      { d with hk := { HkSt.reset with item := some (.entry 15), nent := 16, next := 16, words := List.replicate 16 544 } })

def rounds6 : Sys2Proof.Machine.State :=
  st [(HK_STATUS_ROUND, 1)] 100 (fun d =>
      { d with hk := { HkSt.reset with item := some (.entry 0), nent := 2, next := 1, words := List.replicate 16 544 } })

/-- A round for an event of generation 3 at its last entry, with another event latched. -/
def rounds7 : Sys2Proof.Machine.State :=
  st [(HK_STATUS_ROUND, 1)] 100 (fun d => { d with hk := { HkSt.reset with
    item := some (.entry 15)
    nent := 16
    next := 16
    words := List.replicate 16 544
    gen := some 3
    latched := some 1 } })

/-- An event round with a delay. -/
def rounds8 : Sys2Proof.Machine.State :=
  st [(DEV_STATUS_REFCLK_OK, 1), (HK_CTRL_MODE, 2), (HK_TRIG_DELAY_US, 9)] 100 (fun d =>
      { d with hk := { HkSt.reset with acted := some 7 } })

/-- What the converter meets when ball 0 is at v of 8388608 nV of its reference, and no calibration. -/
def meets (v : Int) : HkAnalog := ⟨[v], 8388608, [], 0⟩

/-- Without a calibration a conversion gives its raw code. -/
theorem converts {s : Sys2Proof.Machine.State} {x : HkAnalog} {w : Nat} {code : Int} (hc : s.dev.hk.cal = [])
    (hv : x.vref ≠ 0) (e : code = roundQuot (2 ^ 23 * hkGain w * hkVolts x w) (2 * x.vref)) : Converts s x w code :=
  ⟨hv, fun _ => e, fun off ref h => by rw [hc] at h; simp at h⟩

/-- States and operands that meet the hypotheses of Rounds. -/
theorem witness_Rounds (h : Clause.Rounds) :
    Answers (Instr.hkRoundStart 5) rounds1 Runs ∧
    Answers (Instr.hkRoundStart 5) rounds2 Runs ∧
    Answers (Instr.hkRoundStart 5) rounds3 Runs ∧
    Answers (Instr.hkRoundStart 5) rounds4 Runs ∧
    Answers (Instr.hkRoundStart 5) rounds8 Runs ∧
    Answers (Instr.entryBoundary (meets 8388608) 9) rounds5 Runs ∧
    Answers (Instr.entryBoundary (meets 8388608) 9) rounds7 Runs ∧
    Answers (Instr.entryBoundary (meets (-8388607)) 9) rounds6 Runs := by
  refine ⟨runs (((h rounds1 ?_).1 5 ?_).1 ?_),
   runs ((((h rounds2 ?_).1 5 ?_).2 ?_ (Or.inl ?_) ?_).1 ?_ ?_ ?_),
   runs ((((h rounds3 ?_).1 5 ?_).2 ?_ (Or.inr (Or.inl ?_)) ?_).1 ?_ ?_ ?_),
   runs ((((h rounds4 ?_).1 5 ?_).2 ?_ (Or.inr (Or.inr ?_)) ?_).1 ?_ ?_ ?_),
   runs ((((h rounds8 ?_).1 5 ?_).2 ?_ (Or.inl ?_) ?_).2 (Or.inr ?_)),
   runs (((h rounds5 ?_).2 15 (meets 8388608) 9 8388608 ?_ ?_ (converts ?_ ?_ ?_) ?_ ?_ ?_ ?_).1 ?_),
   runs (((h rounds7 ?_).2 15 (meets 8388608) 9 8388608 ?_ ?_ (converts ?_ ?_ ?_) ?_ ?_ ?_ ?_).1 ?_),
   runs (((h rounds6 ?_).2 0 (meets (-8388607)) 9 (-8388607) ?_ ?_ (converts ?_ ?_ ?_) ?_ ?_ ?_ ?_).2 ?_ ?_ ?_)⟩ <;> decide +kernel

/-- A round at entry 0 of 2 with a limit word, and one of odd parity behind it. -/
def limitSteps1 : Sys2Proof.Machine.State :=
  st [(HK_STATUS_ROUND, 1), (HK_PATCH 0, 0x10000001), (HK_PATCH 1, 0x10000000)] 100 (fun d =>
      { d with hk := { HkSt.reset with item := some (.entry 0), nent := 2, next := 1, words := List.replicate 16 544 } })

def limitSteps2 : Sys2Proof.Machine.State :=
  st [(HK_STATUS_ROUND, 1), (HK_PATCH 3, 7)] 100 (fun d => { d with hk := { HkSt.reset with
    item := some (.entry 15), nent := 16, next := 16, words := List.replicate 16 544, patch := [(3, 5), (1023, 2), (3, 6)] } })

/-- The clasp point has come, with two patch words staged, while the converter converts, or at rest. -/
def limitSteps3 (item : Option HkItem) : Sys2Proof.Machine.State :=
  st [(LOADER_STATE_STATE, LD_PENDING), (LOADER_P, 100)] 100 (fun d => { onLoader (fun l => { l with
      source := 3, commit := some ⟨0, 0, 100⟩, ended := true, patch := [(3, 5), (3, 6)] }) d with
    hk := { HkSt.reset with item := item } })

/-- States and operands that meet the hypotheses of LimitSteps. -/
theorem witness_LimitSteps (h : Clause.LimitSteps) :
    Answers (Instr.entryBoundary (meets 8388608) 9) limitSteps1 Runs ∧
    Answers (Instr.entryBoundary (meets 5) 9) limitSteps2 Runs ∧
    Answers Instr.claspPoint (limitSteps3 none) Runs ∧
    Answers Instr.claspPoint (limitSteps3 (some .calibrate)) Runs := by
  refine ⟨runs ((h limitSteps1 ?_).1 0 (meets 8388608) 9 1 8388608 ?_ ?_ (converts ?_ ?_ ?_) ?_ ?_ ?_ ?_ ?_ ?_ ?_ (Or.inr (Or.inl ?_))),
    runs ((h limitSteps2 ?_).2.1 (meets 5) 9 ?_ ?_),
    runs ((h (limitSteps3 none) ?_).2.2 ⟨0, 0, 100⟩ ?_ ?_ ?_ ?_ ?_ ?_),
    runs ((h (limitSteps3 (some .calibrate)) ?_).2.2 ⟨0, 0, 100⟩ ?_ ?_ ?_ ?_ ?_ ?_)⟩ <;>
    first
    | decide +kernel
    | (intro e he; obtain rfl : 15 = e := by simpa [limitSteps2, st] using he
       decide)

def injections1 : Sys2Proof.Machine.State :=
  st [] 100 (fun d => { d with hk := { HkSt.reset with item := some (.entry 3) } })

def injections2 : Sys2Proof.Machine.State :=
  st [(HK_INJ_CTRL_PENDING, 1)] 100 (fun d => { d with hk := { HkSt.reset with item := some .thermal } })

def injections3 : Sys2Proof.Machine.State :=
  st [] 100 (fun d => { d with hk := { HkSt.reset with item := some .calibrate, calWanted := true } })

def injections4 : Sys2Proof.Machine.State :=
  st [] 100 id

def injections5 : Sys2Proof.Machine.State :=
  st [(HK_INJ_CFG_POS, 26), (HK_INJ_CFG_NEG, 31)] 100 id

def injections6 : Sys2Proof.Machine.State :=
  st [(HK_INJ_CTRL_PENDING, 1)] 100 id

def injections7 : Sys2Proof.Machine.State :=
  st [(HK_CAL_AUTO_S, 1)] 100 id

/-- States and operands that meet the hypotheses of Injections. -/
theorem witness_Injections (h : Clause.Injections) :
    Answers (Instr.thermalInjection) injections1 Runs ∧
    Answers (Instr.hkCalGo) injections2 Runs ∧
    Answers (Instr.hkInjGo Via.mgt) injections3 Runs ∧
    Answers (Instr.thermalInjection) injections4 Runs ∧
    Answers (Instr.hkCalGo) injections4 Runs ∧
    Answers (Instr.hkInjGo Via.jtag) injections5 Runs ∧
    Answers (Instr.hkInjGo Via.jtag) injections6 Runs ∧
    exec .hkCalAuto injections7 = exec .hkCalGo injections7 := by
  refine ⟨runs (((h injections1 ?_).1 ?_).1),
   runs (((h injections2 ?_).1 ?_).2.1),
   runs (((h injections3 ?_).1 ?_).2.2 .mgt ?_),
   runs (((h injections4 ?_).2.1 ?_ ?_).1),
   runs (((h injections4 ?_).2.1 ?_ ?_).2.1),
   runs (((h injections5 ?_).2.1 ?_ ?_).2.2 .jtag
       ?_),
   runs ((h injections6 ?_).2.2.1 .jtag ?_),
   (h injections7 ?_).2.2.2.1 ?_⟩ <;> decide +kernel

def injections8 : Sys2Proof.Machine.State :=
  st [(HK_CAL_RUNNING, 1)] 100 (fun d => { d with hk := { HkSt.reset with item := some .calibrate } })

def injections9 : Sys2Proof.Machine.State :=
  st [(HK_INJ_CTRL_PENDING, 1), (HK_INJ_CFG_NEG, 17)] 100 (fun d => { d with hk := { HkSt.reset with item := some .inject } })

/-- States and operands that meet the hypotheses of Injections for a calibration and a conversion that end. -/
theorem witness_Injections_2 (h : Clause.Injections) :
    Answers (Instr.entryBoundary (meets 5) 9) injections8 Runs ∧
    Answers (Instr.entryBoundary (meets 8388608) 9) injections9 Runs := by
  refine ⟨runs (((h injections8 ?_).2.2.2.2 (meets 5) 9 ?_ ?_ ?_ ?_).1 ?_ ?_),
    runs (((h injections9 ?_).2.2.2.2 (meets 8388608) 9 ?_ ?_ ?_ ?_).2 8388608 ?_ ?_ ?_ (converts ?_ ?_ ?_))⟩ <;> decide +kernel

def temperature1 : Sys2Proof.Machine.State :=
  st [(THERM_MAX, 0x8000)] 3000000000 (fun d => { d with hk := { HkSt.reset with item := some .thermal } })

def temperature2 : Sys2Proof.Machine.State :=
  st [] 3000000000 (fun d => { d with hk := { HkSt.reset with item := some .thermal, lastTemp := some 13000 } })

def temperature3 : Sys2Proof.Machine.State :=
  st [(THERM_THR_WARN, 100), (THERM_THR_THROTTLE, 100), (THERM_STEP_STEP, 3)] 3000000000 (fun d =>
      { d with hk := { HkSt.reset with item := some .thermal, readings := [(2990000000, 90), (2000000000, 1000)], lastTemp := some 1000, lastStep := some 7, clock := 1000000000 } })

def temperature4 : Sys2Proof.Machine.State :=
  st [(THERM_THR_WARN, 101), (THERM_THR_THROTTLE, 101), (THERM_THR_RELEASE, 101), (THERM_STEP_STEP, 7),
      (THERM_STEP_MIN_STEP, 2)] 3000000000 (fun d =>
      { d with hk := { HkSt.reset with item := some .thermal, readings := [(2990000000, 90), (2000000000, 1000)], lastTemp := some 1000, lastStep := some 7, clock := 1000000000, releaseFrom := some 9 } })

def temperature5 : Sys2Proof.Machine.State :=
  st [(THERM_STEP_STEP, 3)] 3000000000 (fun d =>
      { d with hk := { HkSt.reset with item := some .thermal, prevOvr := false } })

def temperature6 : Sys2Proof.Machine.State :=
  st [(THERM_STATUS_SENSOR_FAULT, 1)] 3000000000 (fun d => { d with hk := { HkSt.reset with item := some .thermal } })

/-- What the converter meets when the die has a temperature. -/
def dieAt (temp : Int) : HkAnalog := ⟨[], 1, [], temp⟩

/-- States and operands that meet the hypotheses of Temperature. -/
theorem witness_Temperature (h : Clause.Temperature) :
    Answers (Instr.entryBoundary (dieAt (-4000)) 9) temperature1 Runs ∧
    Answers (Instr.entryBoundary (dieAt 15000) 9) temperature2 Runs ∧
    Answers (Instr.entryBoundary (dieAt 2000) 9) temperature3 Runs ∧
    Answers (Instr.entryBoundary (dieAt 2000) 9) temperature4 Runs ∧
    Answers (Instr.entryBoundary (dieAt (-4001)) 9) temperature5 Runs ∧
    Answers (Instr.entryBoundary (dieAt 15001) 9) temperature6 Runs := by
  refine ⟨runs (((h temperature1 ?_ (dieAt (-4000)) 0 9 ?_ ?_ ?_ (converts ?_ ?_ ?_) ?_).1 ?_ ?_ ?_).1 ?_),
    runs (((h temperature2 ?_ (dieAt 15000) 0 9 ?_ ?_ ?_ (converts ?_ ?_ ?_) ?_).1 ?_ ?_ ?_).1 ?_),
    runs (((h temperature3 ?_ (dieAt 2000) 0 9 ?_ ?_ ?_ (converts ?_ ?_ ?_) ?_).1 ?_ ?_ ?_).2 ?_ ?_),
    runs (((h temperature4 ?_ (dieAt 2000) 0 9 ?_ ?_ ?_ (converts ?_ ?_ ?_) ?_).1 ?_ ?_ ?_).2 ?_ ?_),
    runs ((h temperature5 ?_ (dieAt (-4001)) 0 9 ?_ ?_ ?_ (converts ?_ ?_ ?_) ?_).2 (Or.inl ?_)),
    runs ((h temperature6 ?_ (dieAt 15001) 0 9 ?_ ?_ ?_ (converts ?_ ?_ ?_) ?_).2 (Or.inr ?_))⟩ <;> decide +kernel

def storm1 : Sys2Proof.Machine.State :=
  st [(THERM_STATUS_SENSOR_FAULT, 1)] 100 (fun d => { d with hk := { HkSt.reset with tempest := true, clock := 77 } })

def storm2 : Sys2Proof.Machine.State :=
  st [(THERM_STATUS_SENSOR_FAULT, 1)] 100 (fun d =>
      { d with hk := { HkSt.reset with tempest := true, readings := [(2990000000, 90), (2000000000, 1000)] } })

def storm3 : Sys2Proof.Machine.State :=
  st [(THERM_STORM_TRIPPED, 1)] 100 id

def storm4 : Sys2Proof.Machine.State :=
  st [(SEQ_STATE_STATE 31, RUN), (SEQ_SP 31, 5), (DEV_STATUS_TILES_RELEASED, 1)] 100 id [(tileBase 31 + 0x80000,
      [1#8]), (0x8000000000, [2#8])]

/-- States and operands that meet the hypotheses of Storm. -/
theorem witness_Storm (h : Clause.Storm) :
    Answers (Instr.tempestForced) storm1 Runs ∧
    Answers (Instr.thermClear) storm2 Runs ∧
    Answers (Instr.stormTrip 2) storm3 Runs ∧
    Answers (Instr.stormTrip 0) storm4 Runs ∧
    Answers (Instr.stormTrip 1) storm4 Runs ∧
    Answers (Instr.stormTrip 2) storm4 Runs := by
  refine ⟨runs ((h storm1 ?_).1 ?_ ?_),
   runs ((h storm2 ?_).2.1),
   runs ((h storm3 ?_).2.2.1 2 ?_),
   runs ((h storm4 ?_).2.2.2 0 ?_ ?_),
   runs ((h storm4 ?_).2.2.2 1 ?_ ?_),
   runs ((h storm4 ?_).2.2.2 2 ?_ ?_)⟩ <;> decide +kernel

def ethernetFrames1 : Sys2Proof.Machine.State :=
  st [(LANE_CFG_ROLE 31, 1), (LANE_STATUS_STATE 31, LANE_UP), (ETH_RX_ERR_FCS 31, 0xFFFF)] 100 id

def ethernetFrames2 : Sys2Proof.Machine.State :=
  st [(LANE_CFG_ROLE 31, 1), (LANE_STATUS_STATE 31, LANE_UP)] 100 id

def ethernetFrames3 : Sys2Proof.Machine.State :=
  st [(LANE_CFG_ROLE 31, 1), (LANE_STATUS_STATE 31, LANE_UP), (PTP_CFG_EN, 1), (PTP_CFG_PORT, 31)] 100 id

def ethernetFrames4 : Sys2Proof.Machine.State :=
  st [(LANE_CFG_ROLE 31, 1), (LANE_STATUS_STATE 31, LANE_UP), (TRANSPORT_IP4, 0x0A000002), (ETH_TX_FRAMES 31,
      0xFFFFFFFF)] 100 id

/-- Port 31 carries VLAN 5. -/
def ethernetFrames5 : Sys2Proof.Machine.State :=
  st [(LANE_CFG_ROLE 31, 1), (LANE_STATUS_STATE 31, LANE_UP), (ETH_CFG_VLAN_EN 31, 1), (ETH_CFG_VID 31, 5)] 100 id

/-- A frame to an address, of a type, with as many bytes of zeros behind its header; and one with a VLAN tag. -/
def frameTo (dst type n : Nat) : List Byte := beBytes 6 dst ++ beBytes 6 5 ++ beBytes 2 type ++ List.replicate n 0#8
def taggedTo (dst tci type n : Nat) : List Byte :=
  beBytes 6 dst ++ beBytes 6 5 ++ beBytes 2 0x8100 ++ beBytes 2 tci ++ beBytes 2 type ++ List.replicate n 0#8

/-- An ARP request for 10.0.0.2 from 10.0.0.1. -/
def arpRequest : List Byte :=
  beBytes 6 0xFFFFFFFFFFFF ++ beBytes 6 5 ++ beBytes 2 0x0806 ++ (beBytes 8 0x0001080006040001 ++ beBytes 6 5 ++
    beBytes 4 0x0A000001 ++ beBytes 6 0 ++ beBytes 4 0x0A000002 ++ List.replicate 18 0#8)

/-- States and operands that meet the hypotheses of EthernetFrames. -/
theorem witness_EthernetFrames (h : Obligations.EthernetFrames) :
    Answers (Instr.ethFrameReceive 31 [] false) ethernetFrames1 Runs ∧
    Answers (Instr.ethFrameReceive 31 (frameTo 31 0x0800 46) true) ethernetFrames2 Runs ∧
    Answers (Instr.ethFrameReceive 31 (taggedTo 31 0xF005 0x0800 42) true) ethernetFrames5 Runs ∧
    Answers (Instr.ethFrameReceive 31 (frameTo 0x011B19000000 0x88F7 1500) true) ethernetFrames3 Runs ∧
    Answers (Instr.ethFrameReceive 31 (frameTo 31 0x86DD 46) true) ethernetFrames2 Runs ∧
    Answers (Instr.ethFrameReceive 31 (frameTo 31 0x0800 45) true) ethernetFrames2 Runs ∧
    Answers (Instr.ethFrameReceive 31 (frameTo 30 0x0800 46) true) ethernetFrames2 Runs ∧
    Answers (Instr.ethFrameReceive 31 (taggedTo 31 6 0x0800 46) true) ethernetFrames5 Runs ∧
    Answers (Instr.ethFrameReceive 31 (frameTo 31 0x0801 46) true) ethernetFrames2 Runs ∧
    Answers (Instr.ethFrameReceive 31 arpRequest true) ethernetFrames4 Runs := by
  refine ⟨runs ((h ethernetFrames1 ?_ 31 [] ?_).1),
   runs ((h ethernetFrames2 ?_ 31 (frameTo 31 0x0800 46) ?_).2.1 (Or.inl ?_) ?_),
   runs ((h ethernetFrames5 ?_ 31 (taggedTo 31 0xF005 0x0800 42) ?_).2.1 (Or.inl ?_) ?_),
   runs ((h ethernetFrames3 ?_ 31 (frameTo 0x011B19000000 0x88F7 1500) ?_).2.1 (Or.inr ?_) ?_),
   runs ((h ethernetFrames2 ?_ 31 (frameTo 31 0x86DD 46) ?_).2.2.1 ?_ ?_),
   runs ((h ethernetFrames2 ?_ 31 (frameTo 31 0x0800 45) ?_).2.2.2.1 (Or.inl ?_)),
   runs ((h ethernetFrames2 ?_ 31 (frameTo 30 0x0800 46) ?_).2.2.2.1 (Or.inl ?_)),
   runs ((h ethernetFrames5 ?_ 31 (taggedTo 31 6 0x0800 46) ?_).2.2.2.1 (Or.inl ?_)),
   runs ((h ethernetFrames2 ?_ 31 (frameTo 31 0x0801 46) ?_).2.2.2.1 (Or.inr ?_)),
   runs ((h ethernetFrames4 ?_ 31 arpRequest ?_).2.2.2.2 ?_ ?_ ?_ ?_ ?_ ?_)⟩ <;> decide +kernel

def ptpSlave1 : Sys2Proof.Machine.State :=
  st [(LANE_CFG_ROLE 31, 1), (LANE_STATUS_STATE 31, LANE_UP), (PTP_CFG_EN, 1), (PTP_CFG_PORT, 31), (PTP_CFG_DOMAIN,
      255), (NT_NOW, 0x123456789ABCDEF0), (ETH_TS_DELAY_RX 31, 0x8000), (ETH_TS_DELAY_TX 31, 0x7FFF)] 100 id

def ptpSlave2 : Sys2Proof.Machine.State :=
  st [(LANE_CFG_ROLE 31, 1), (LANE_STATUS_STATE 31, LANE_UP), (PTP_CFG_EN, 1), (PTP_CFG_PORT, 31), (PTP_CFG_DOMAIN,
      255), (NT_NOW, 0x123456789ABCDEF0), (ETH_TS_DELAY_RX 31, 0x8000), (ETH_TS_DELAY_TX 31, 0x7FFF),
      (PTP_MASTER_SEEN_LO, 5)] 100 (fun d =>
      { d with ptp := { PtpSt.reset with sync := some ⟨65535, 1000, 3, none⟩, seen := true } })

def ptpSlave3 : Sys2Proof.Machine.State :=
  st [(LANE_CFG_ROLE 31, 1), (LANE_STATUS_STATE 31, LANE_UP), (PTP_CFG_EN, 1), (PTP_CFG_PORT, 31), (PTP_CFG_DOMAIN,
      255), (NT_NOW, 0x123456789ABCDEF0), (ETH_TS_DELAY_RX 31, 0x8000), (ETH_TS_DELAY_TX 31, 0x7FFF),
      (PTP_MASTER_SEEN_LO, 5), (PTP_STATUS_EXCHANGES, 0xFFFF)] 100 (fun d =>
      { d with ptp := { PtpSt.reset with sync := some ⟨65535, 1000, 3, some 700⟩, seen := true, req := some (65535, 5000) } })

def ptpSlave4 : Sys2Proof.Machine.State :=
  st [(LANE_CFG_ROLE 31, 1), (LANE_STATUS_STATE 31, LANE_UP), (PTP_CFG_EN, 1), (PTP_CFG_PORT, 31), (PTP_CFG_DOMAIN,
      255), (NT_NOW, 0x123456789ABCDEF0), (ETH_TS_DELAY_RX 31, 0x8000), (ETH_TS_DELAY_TX 31, 0x7FFF)] 100 (fun d =>
      { d with ptp := { PtpSt.reset with sync := some ⟨65535, 1000, 3, none⟩, reqSeq := 65535 } })

/-- States and operands that meet the hypotheses of PtpSlave. -/
theorem witness_PtpSlave (h : Clause.PtpSlave) :
    Answers (Instr.announceReceive) ptpSlave1 Runs ∧
    Answers (Instr.syncReceive 254 5 6 true 7 8 63) ptpSlave1 Runs ∧
    Answers (Instr.syncReceive 255 18446744073709551615 65535 true 7 (-8) 63) ptpSlave1 Runs ∧
    Answers (Instr.syncReceive 255 18446744073709551615 65535 false 7 (-8) 63) ptpSlave1 Runs ∧
    Answers (Instr.followUpReceive 255 5 65535 7 (-8)) ptpSlave2 Runs ∧
    Answers (Instr.delayRespReceive 255 5 65535 true 7 (-8)) ptpSlave3 Runs ∧
    Answers (Instr.delayReqSend 63) ptpSlave4 Runs ∧
    Answers (Instr.syncLost) ptpSlave1 Runs := by
  refine ⟨runs ((h ptpSlave1 ?_).1),
   runs (((h ptpSlave1 ?_).2.1 ?_ 254 5 6 true 7 8 63).1 ?_),
   runs (((h ptpSlave1 ?_).2.1 ?_ 255 0xFFFFFFFFFFFFFFFF 0xFFFF true 7 (-8) 63).2.1
       ?_ ?_),
   runs (((h ptpSlave1 ?_).2.1 ?_ 255 0xFFFFFFFFFFFFFFFF 0xFFFF false 7 (-8) 63).2.1
       ?_ ?_),
   runs (((h ptpSlave2 ?_).2.1 ?_ 255 5 0xFFFF true 7 (-8) 0).2.2.1 ⟨65535, 1000, 3,
       none⟩ ?_ ?_ ?_ ?_ ?_),
   runs (((h ptpSlave3 ?_).2.1 ?_ 255 5 0xFFFF true 7 (-8) 0).2.2.2 ⟨65535, 1000, 3,
       some 700⟩ 700 5000 ?_ ?_ ?_ ?_
       ?_),
   runs ((h ptpSlave4 ?_).2.2.1 63 ?_ ?_ ?_ ?_),
   runs ((h ptpSlave1 ?_).2.2.2 ?_)⟩ <;> decide +kernel

def ptpMaster1 : Sys2Proof.Machine.State :=
  st [(LANE_CFG_ROLE 31, 1), (LANE_STATUS_STATE 31, LANE_UP), (PTP_CFG_EN, 1), (PTP_CFG_PORT, 31), (PTP_CFG_DOMAIN,
      255), (NT_NOW, 9 * 125000000 * 2 ^ 32 + 5), (ETH_TS_DELAY_RX 31, 0x8000), (ETH_TS_DELAY_TX 31, 0x7FFF),
      (PTP_CFG_ROLE, 1), (PTP_INTERVAL_SYNC_LOG, 0xFD), (PTP_CFG_STEP, 1)] 100 (fun d =>
      { d with ptp := { PtpSt.reset with syncSeq := 65535 } })

def ptpMaster2 : Sys2Proof.Machine.State :=
  st [(LANE_CFG_ROLE 31, 1), (LANE_STATUS_STATE 31, LANE_UP), (PTP_CFG_EN, 1), (PTP_CFG_PORT, 31), (PTP_CFG_DOMAIN,
      255), (NT_NOW, 7 * 1000000000 * 2 ^ 32), (ETH_TS_DELAY_RX 31, 0x8000), (ETH_TS_DELAY_TX 31, 0x7FFF),
      (PTP_CFG_ROLE, 1), (PTP_INTERVAL_SYNC_LOG, 0)] 100 (fun d =>
      { d with ptp := { PtpSt.reset with syncSeq := 65535 } })

def ptpMaster3 : Sys2Proof.Machine.State :=
  st [(LANE_CFG_ROLE 31, 1), (LANE_STATUS_STATE 31, LANE_UP), (PTP_CFG_EN, 1), (PTP_CFG_PORT, 31), (PTP_CFG_DOMAIN,
      255), (NT_NOW, 0x123456789ABCDEF0), (ETH_TS_DELAY_RX 31, 0x8000), (ETH_TS_DELAY_TX 31, 0x7FFF), (PTP_CFG_ROLE,
      1)] 100 (fun d => { d with ptp := { PtpSt.reset with annSeq := 65535 } })

def ptpMaster4 : Sys2Proof.Machine.State :=
  st [(LANE_CFG_ROLE 31, 1), (LANE_STATUS_STATE 31, LANE_UP), (PTP_CFG_EN, 1), (PTP_CFG_PORT, 31), (PTP_CFG_DOMAIN,
      255), (NT_NOW, 0x123456789ABCDEF0), (ETH_TS_DELAY_RX 31, 0x8000), (ETH_TS_DELAY_TX 31, 0x7FFF), (PTP_CFG_ROLE,
      1)] 100 id

/-- States and operands that meet the hypotheses of PtpMaster. -/
theorem witness_PtpMaster (h : Clause.PtpMaster) :
    Answers (Instr.syncSend 63) ptpMaster1 Runs ∧
    Answers (Instr.syncSend 63) ptpMaster2 Runs ∧
    Answers (Instr.announceSend) ptpMaster3 Runs ∧
    Answers (Instr.delayReqReceive 255 0xFFFFFFFFFFFFFFFF 7 0xFFFF (-5) 63) ptpMaster4 Runs := by
  refine ⟨runs (((h ptpMaster1 ?_ ?_ ?_ ?_).1 63 ?_).1 ?_),
   runs (((h ptpMaster2 ?_ ?_ ?_ ?_).1 63 ?_).2 ?_),
   runs ((h ptpMaster3 ?_ ?_ ?_ ?_).2.1),
   runs ((h ptpMaster4 ?_ ?_ ?_ ?_).2.2 255 0xFFFFFFFFFFFFFFFF 7 0xFFFF (-5) 63 ?_)⟩ <;> decide +kernel

def compressors1 : Sys2Proof.Machine.State :=
  st [(QT_CFG_EN 31 255, 1), (QT_CFG_SIZE_LOG2 31 255, 6), (QT_SEQ_A 31 255, 0), (QTAIL 31 255, 0xFFFFFFFF), (QSENT 31
      255, 0xFFFFFFFF), (QT_CFG_STREAM 31 255, 1), (CAPCLASS_SRC_COMPRESS 31 31, 1), (TRANSPORT_SESSION_OWNER_VALID,
      1)] 100 (fun d => onTile 31 (fun x => { x with cap := { x.cap with slots := [⟨31, 9, 0xFFFFFFFF⟩] } })
      { d with compJobs := vset d.compJobs 0 (some ⟨0, 128, 0, 0, 100, 0⟩) }) [(tileBase 31 + 0x1C0000 + 32 * 63,
      entryBytes 6 0 0xFFFFFFFF (leBytes 8 0x8000000000 ++ leBytes 4 4096 ++ leBytes 4 5 ++ leBytes 1 0 ++ leBytes 1
      31 ++ leBytes 2 9 ++ leBytes 4 0))]

def compressors2 : Sys2Proof.Machine.State :=
  st (session ++ [(QT_CFG_EN 31 255, 1), (QT_CFG_SIZE_LOG2 31 255, 6), (QT_SEQ_A 31 255, 0), (QTAIL 31 255,
      0xFFFFFFFF), (QSENT 31 255, 0xFFFFFFFF), (QT_CFG_STREAM 31 255, 1), (CAPCLASS_SRC_COMPRESS 31 31, 1)]) 100 (fun
      d => { d with compJobs := vset d.compJobs 7 (some ⟨31, 255, 0xFFFFFFFF, 0x8000000000, 4096, 0⟩) })
      [(0x8000000000, [1#8, 2#8])]

/-- A job of compressor 7 behind its header block, of a record with 32 bytes of payload in a format. -/
def compressors3 (fmt : Nat) : Sys2Proof.Machine.State :=
  st (session ++ [(QT_CFG_EN 31 255, 1), (QT_CFG_SIZE_LOG2 31 255, 6), (QT_SEQ_A 31 255, 0), (QTAIL 31 255,
      0xFFFFFFFF), (QSENT 31 255, 0xFFFFFFFF), (QT_CFG_STREAM 31 255, 1), (CAPCLASS_SRC_COMPRESS 31 31, 1)]) 100 (fun
      d => { d with compJobs := vset d.compJobs 7 (some ⟨31, 255, 0xFFFFFFFF, 0x8000000000, 96, 64⟩) })
      [(0x8000000000 + 52, [3#8] ++ leBytes 1 fmt), (0x8000000000 + 64, [1#8, 2#8])]

/-- States and operands that meet the hypotheses of RecordHeaders. -/
theorem witness_RecordHeaders (h : Clause.RecordHeaders) :
    Answers (Instr.recordCompressAssign 16127) compressors1 Runs ∧
    Answers (Instr.compressedBlockOut 7 true [1#8]) compressors2 Runs := by
  refine ⟨runs ((h compressors1 ?_).1 16127 ?_ ?_ ?_ ?_ ?_ ?_ 1 ?_),
    runs ((h compressors2 ?_).2 7 true [1#8] ⟨31, 255, 0xFFFFFFFF, 0x8000000000, 4096, 0⟩ 0 ?_ ?_ ?_)⟩ <;> decide +kernel

/-- States and operands that meet the hypotheses of PayloadBlocks, for each format. -/
theorem witness_PayloadBlocks (h : Clause.PayloadBlocks) :
    Answers (Instr.compressedBlockOut 7 false [1#8]) (compressors3 0) Runs ∧
    Answers (Instr.compressedBlockOut 7 false [1#8]) (compressors3 1) Runs ∧
    Answers (Instr.compressedBlockOut 7 false [1#8]) (compressors3 2) Runs ∧
    Answers (Instr.compressedBlockOut 7 false [1#8]) (compressors3 3) Runs ∧
    Answers (Instr.compressedBlockOut 7 true [1#8]) (compressors3 0) Runs := by
  refine ⟨runs (h (compressors3 0) ?_ 7 false [1#8] ⟨31, 255, 0xFFFFFFFF, 0x8000000000, 96, 64⟩ 0 ?_ ?_ ?_ 0 1 ?_ ?_ ?_),
    runs (h (compressors3 1) ?_ 7 false [1#8] ⟨31, 255, 0xFFFFFFFF, 0x8000000000, 96, 64⟩ 0 ?_ ?_ ?_ 1 1 ?_ ?_ ?_),
    runs (h (compressors3 2) ?_ 7 false [1#8] ⟨31, 255, 0xFFFFFFFF, 0x8000000000, 96, 64⟩ 0 ?_ ?_ ?_ 0 4 ?_ ?_ ?_),
    runs (h (compressors3 3) ?_ 7 false [1#8] ⟨31, 255, 0xFFFFFFFF, 0x8000000000, 96, 64⟩ 0 ?_ ?_ ?_ 0 1 ?_ ?_ ?_),
    runs (h (compressors3 0) ?_ 7 true [1#8] ⟨31, 255, 0xFFFFFFFF, 0x8000000000, 96, 64⟩ 0 ?_ ?_ ?_ 0 1 ?_ ?_ ?_)⟩ <;> decide +kernel

/-- Operands that meet the hypotheses of RiceCoding. -/
theorem witness_RiceCoding (h : Clause.RiceCoding) :
    riceTake 12 15 (riceElem 12 15 4095 ++ [true]) = some (4095, [true]) ∧
    ([7, 40].flatMap (riceElem 16 (riceK 16 [7, 40]))).length ≤ ([7, 40].flatMap (riceElem 16 0)).length :=
  ⟨h.1 12 (.inl rfl) 15 (by decide) 4095 (by decide) [true], (h.2 16 (.inr rfl) [7, 40] 0 (by decide)).1⟩

/-- Operands that meet the hypotheses of LzItems. -/
theorem witness_LzItems (h : Clause.LzItems) :
    lzDecode 7 ([1#8, 5#8, 6#8] ++ [0x82#8, 2#8, 0#8]) = .good [5#8, 6#8, 5#8, 6#8, 5#8, 6#8, 5#8] ∧
    lzDecode 7 ([1#8, 5#8, 6#8] ++ [0x82#8, 3#8, 0#8]) = .format := by
  exact ⟨(h [5#8, 6#8] 2 5 (by decide) (by decide) (by decide) (by decide) (by decide)).2.1 (by decide) (by decide),
    (h [5#8, 6#8] 3 5 (by decide) (by decide) (by decide) (by decide) (by decide)).2.2.1 (.inr (by decide))⟩

/-- Tokens that meet the hypotheses of TokenFormat. -/
theorem witness_TokenFormat (h : Obligations.TokenFormat) :
    bits (tokenOf 511 ⟨true, 3, true, true, true, 15⟩) 15 4 = 15 ∧
    tokenOf (bits (token 5) 0 9) (tokenContent (token 5)) = token 5 :=
  ⟨(h.1 511 (by decide) ⟨true, 3, true, true, true, 15⟩ (by decide) (by decide)).2.2.2.2.2.2.2.1,
    (h.2 (token 5) (by decide +kernel)).2 (by decide +kernel)⟩

/-- Items that meet the hypotheses of LzStreams. -/
theorem witness_LzStreams (h : Obligations.LzStreams) :
    lzDecode 7 [1#8, 5#8, 6#8, 0x82#8, 2#8, 0#8] = .good [5#8, 6#8, 5#8, 6#8, 5#8, 6#8, 5#8] ∧
    lzDecode 9 ([1#8, 5#8, 6#8] ++ [0x82#8, 3#8, 0#8] ++ []) ≠ .good [] := by
  have a := h.1 [.run [5#8, 6#8], .copy 5 2] (by simp [LzItem.all, LzItem.fits, LzItem.after])
  have b := h.2 [.run [5#8, 6#8]] (by simp [LzItem.all, LzItem.fits]) 5 3 (by decide) (by decide) (by decide) (by decide) [] 9 []
  exact ⟨a, b⟩

/-- A payload that meets the hypotheses of RiceRoundTrip. -/
theorem witness_RiceRoundTrip (h : Obligations.RiceRoundTrip) :
    riceDecode 2 1 4 3 (riceEncode 2 1 4 [1#8, 2#8, 3#8]) = .good [1#8, 2#8, 3#8] :=
  h 2 (by decide) 1 (by decide) 4 (by decide) [1#8, 2#8, 3#8]

def codeSwaps1 : Sys2Proof.Machine.State :=
  st [(LOADER_STATE_STATE, LD_PENDING), (LOADER_SWAP_PEND, 0x80000000), (LOADER_P, 100)] 100 (onTile 31 (inWord (word
      (2 ^ 201) [.seq, .safe])))

def codeSwaps2 : Sys2Proof.Machine.State :=
  st [(LOADER_STATE_STATE, LD_SWAPPING), (LOADER_SWAP_PEND, 0x80000001), (LOADER_P, 100), (LOADER_STAGE_CHAN, 1),
      (LOADER_STAGE_BASE, 5), (DDR_STATUS_STATE 1, DDR_READY), (SEQ_SP 31, 5)] 100 (fun d =>
      { (onTile 31 (fun x => { inWord (word (2 ^ 201) [.seq, .safe]) x with seq := { (inWord (word (2 ^ 201) [.seq, .safe]) x).seq with swapping := true } }) d) with loader := { d.loader with code := [(31, 4095), (0, 1)], shadows := [(SEQ_CFG_START 31, 77)] } })
      [(ddrBase 1 + 5 * 4096 + 31 * 0x20000 + 32 * 4095, leBytes 28 (coded (7 * 2 ^ 50)))]

def codeSwaps3 : Sys2Proof.Machine.State :=
  st [(LOADER_STATE_STATE, LD_SWAPPING), (LOADER_SWAP_PEND, 0x80000001), (LOADER_P, 100), (LOADER_STAGE_CHAN, 1),
      (LOADER_STAGE_BASE, 5), (DDR_STATUS_STATE 1, DDR_READY), (SEQ_SP 31, 5), (SEQ_STATE_STATE 31, HALTED),
      (SEQ_CFG_START 31, 4095)] 100 (fun d =>
      { d with loader := { d.loader with code := [(31, 4095), (0, 1)], shadows := [(SEQ_CFG_START 31, 77)] } })
      [(ddrBase 1 + 5 * 4096 + 31 * 0x20000 + 32 * 4095, leBytes 28 (coded (7 * 2 ^ 50)))]

/-- States and operands that meet the hypotheses of CodeSwaps. -/
theorem witness_CodeSwaps (h : Obligations.CodeSwaps) :
    Answers (Instr.codeSwap 31) codeSwaps1 Runs ∧
    Answers (Instr.codeSwapCopyDone 31) codeSwaps2 Runs ∧
    Answers (Instr.codeSwapCopyDone 31) codeSwaps3 Runs := by
  refine ⟨runs ((h codeSwaps1 ?_ 31 (word (2 ^ 201) [.seq, .safe]) ?_).1
      ?_ ?_ ?_ ?_),
   runs (((h codeSwaps2 ?_ 31 (word (2 ^ 201) [.seq, .safe]) ?_).2 4095
       ?_ ?_ ?_ ?_ ?_
       ?_ ?_ ?_).1 ?_ ?_
       ?_ ?_ ?_ ?_ ?_),
   runs (((h codeSwaps3 ?_ 31 (word (2 ^ 201) [.seq, .safe]) ?_).2 4095
       ?_ ?_ ?_ ?_ ?_
       ?_ ?_ ?_).2 ?_ ?_
       ?_ ?_)⟩ <;> decide +kernel

end Sys2Proof.Tests
end

section
/-! PROOFS. Tokens of the decision broadcast (R181): the CRC-4 that the model computes bit by bit is the remainder of the bits'
polynomial times x^4, and a token is 19 bits of fields under its check. -/

namespace Sys2Proof.TokenProofs

open Sys2Proof.Machine

/-! ## Bit fields -/

theorem bit_eq_testBit (v n : Nat) : bit v n = v.testBit n := by
  rw [Nat.testBit_eq_decide_div_mod_eq]
  rfl

theorem bit_half (v n : Nat) : bit (v / 2) n = bit v (n + 1) := by
  rw [bit_eq_testBit, bit_eq_testBit, Nat.testBit_succ]

theorem b2n_le_one (b : Bool) : b2n b ≤ 1 := by cases b <;> decide

theorem b2n_bit (v n : Nat) : b2n (bit v n) = v / 2 ^ n % 2 := by
  unfold b2n bit
  rcases Nat.mod_two_eq_zero_or_one (v / 2 ^ n) with h | h <;> simp [h]

theorem bit_eq_iff (v n : Nat) (b : Bool) : bit v n = b ↔ v / 2 ^ n % 2 = b2n b := by
  rw [← b2n_bit]
  cases bit v n <;> cases b <;> decide

/-! ## The CRC-4 as a sum of powers of x

A step of the CRC multiplies the remainder by x, which is linear over exclusive or, and adds x^4 where the bit that comes in is 1. So the
bit that has k bits behind it contributes x^(k + 4). -/

/-- A remainder modulo x^4 + x + 1 times x: the step of the CRC-4 over a bit 0. -/
def timesX (c : Nat) : Nat := crcBit 4 0x3 c false

theorem timesX_eq (c : Nat) : timesX c = if bit c 3 then (c * 2 % 2 ^ 4) ^^^ 3 else c * 2 % 2 ^ 4 := by
  simp [timesX, crcBit]

theorem timesX_zero : timesX 0 = 0 := by decide

theorem timesX_xor (a b : Nat) : timesX (a ^^^ b) = timesX a ^^^ timesX b := by
  have double : (a ^^^ b) * 2 % 2 ^ 4 = (a * 2 % 2 ^ 4) ^^^ (b * 2 % 2 ^ 4) := by
    have shifted : (a ^^^ b) * 2 = a * 2 ^^^ b * 2 := by
      simpa [Nat.shiftLeft_eq] using Nat.shiftLeft_xor_distrib (a := a) (b := b) (i := 1)
    rw [shifted, Nat.xor_mod_two_pow]
  have top : bit (a ^^^ b) 3 = (bit a 3 ^^ bit b 3) := by
    simp only [bit_eq_testBit, Nat.testBit_xor]
  rw [timesX_eq, timesX_eq a, timesX_eq b, double, top]
  cases bit a 3 <;> cases bit b 3 <;>
    simp [Nat.xor_left_comm, Nat.xor_comm]

theorem timesX_iterate_xor (n a b : Nat) : timesX^[n] (a ^^^ b) = timesX^[n] a ^^^ timesX^[n] b := by
  induction n generalizing a b with
  | zero => rfl
  | succ n ih => rw [Function.iterate_succ_apply, timesX_xor, ih]; rfl

theorem crcBit_eq (c : Nat) (b : Bool) : crcBit 4 0x3 c b = if b then timesX c ^^^ crc4Power 4 else timesX c := by
  cases b with
  | false => rfl
  | true =>
    rw [timesX_eq]
    cases h : bit c 3 <;> simp [crcBit, crc4Power, h]

theorem crcBit_lt (c : Nat) (b : Bool) : crcBit 4 0x3 c b < 2 ^ 4 := by
  have low : c * 2 % 2 ^ 4 < 2 ^ 4 := Nat.mod_lt _ (by decide)
  simp only [crcBit]
  split
  · exact Nat.xor_lt_two_pow low (by decide)
  · exact low

theorem crc4_lt (n v c : Nat) (hc : c < 2 ^ 4) : crc4 n v c < 2 ^ 4 := by
  induction n generalizing v c with
  | zero => exact hc
  | succ n ih => exact ih _ _ (crcBit_lt _ _)

theorem timesX_of_lt : ∀ p < 2 ^ 4, timesX p = if p < 8 then 2 * p else (2 * p) ^^^ 0x13 := by decide

theorem crc4Power_lt (n : Nat) : crc4Power n < 2 ^ 4 := by
  induction n with
  | zero => decide
  | succ n ih =>
    rw [crc4Power, ← timesX_of_lt _ ih]
    exact crcBit_lt _ _

theorem timesX_crc4Power (n : Nat) : timesX (crc4Power n) = crc4Power (n + 1) := timesX_of_lt _ (crc4Power_lt n)

theorem timesX_iterate_crc4Power (n k : Nat) : timesX^[n] (crc4Power k) = crc4Power (n + k) := by
  induction n generalizing k with
  | zero => rw [Nat.zero_add]; rfl
  | succ n ih => rw [Function.iterate_succ_apply, timesX_crc4Power, ih, Nat.add_right_comm, Nat.add_assoc]

/-- c with x^(n + 3 - i) added for each of the low n bits of v that is 1, where i is the bit's number. -/
def powerSum (n v c : Nat) : Nat :=
  (List.range n).foldl (fun c i => if bit v i then c ^^^ crc4Power (n + 3 - i) else c) c

theorem crc4Of_eq_powerSum (v : Nat) : crc4Of v = powerSum 19 v 0 := rfl

theorem powerSum_succ (n v c : Nat) :
    powerSum (n + 1) v c = powerSum n (v / 2) (if bit v 0 then c ^^^ crc4Power (n + 4) else c) := by
  have place (i : Nat) : n + 1 + 3 - (i + 1) = n + 3 - i := by omega
  simp only [powerSum, List.range_succ_eq_map, List.foldl_cons, List.foldl_map, bit_half, Nat.succ_eq_add_one, place]
  rfl

theorem crc4_eq_powerSum (n v c : Nat) : crc4 n v c = powerSum n v (timesX^[n] c) := by
  induction n generalizing v c with
  | zero => rfl
  | succ n ih =>
    have first : (v % 2 == 1) = bit v 0 := by simp [bit]
    have start : timesX^[n] (crcBit 4 0x3 c (bit v 0)) =
        if bit v 0 then timesX^[n + 1] c ^^^ crc4Power (n + 4) else timesX^[n + 1] c := by
      rw [crcBit_eq]
      cases bit v 0 with
      | false => rfl
      | true => simp only [if_true, timesX_iterate_xor, timesX_iterate_crc4Power, Function.iterate_succ_apply]
    rw [crc4, ih, powerSum_succ, first, start]

theorem crc4_eq_crc4Of (v : Nat) : crc4 19 v 0 = crc4Of v := by
  rw [crc4_eq_powerSum, crc4Of_eq_powerSum, Function.iterate_fixed timesX_zero]

/-! ## The fields of a token -/

/-- Bits [18:0] of a token: all fields but the check (R181). -/
def tokenBody (slot : Nat) (c : SlotC) : Nat :=
  slot % 512 + b2n c.valid * 2 ^ 9 + c.state % 4 * 2 ^ 10 + b2n c.amb * 2 ^ 12 + b2n c.ovr * 2 ^ 13
    + b2n c.leak * 2 ^ 14 + c.round % 16 * 2 ^ 15

theorem tokenOf_eq (slot : Nat) (c : SlotC) :
    tokenOf slot c = tokenBody slot c + crc4Of (tokenBody slot c) * 2 ^ 19 := by
  rw [← crc4_eq_crc4Of]
  rfl

theorem crc4Of_lt (v : Nat) : crc4Of v < 2 ^ 4 := crc4_eq_crc4Of v ▸ crc4_lt 19 v 0 (by decide)

/-- What a number holds that is made of the fields of a token and a check below 2^4 at their places. -/
theorem fields_of_body (slot : Nat) (hslot : slot < 512) (c : SlotC) (hstate : c.state < 4) (hround : c.round < 16)
    (check : Nat) (hcheck : check < 2 ^ 4) :
    let k := tokenBody slot c + check * 2 ^ 19
    k < 2 ^ 23 ∧ bits k 0 9 = slot ∧ bit k 9 = c.valid ∧ bits k 10 2 = c.state ∧ bit k 12 = c.amb ∧ bit k 13 = c.ovr ∧
      bit k 14 = c.leak ∧ bits k 15 4 = c.round ∧ bits k 19 4 = check ∧ bits k 0 19 = tokenBody slot c := by
  have hvalid := b2n_le_one c.valid
  have hamb := b2n_le_one c.amb
  have hovr := b2n_le_one c.ovr
  have hleak := b2n_le_one c.leak
  simp only [bits, bit_eq_iff, tokenBody]
  omega

/-- The fields that are read from a number and put back at their places are its low 19 bits. -/
theorem tokenBody_of_fields (k : Nat) : tokenBody (bits k 0 9) (tokenContent k) = bits k 0 19 := by
  simp only [tokenBody, tokenContent, b2n_bit, bits]
  omega

theorem bits_low_add_check (k : Nat) (hk : k < 2 ^ 23) : bits k 0 19 + bits k 19 4 * 2 ^ 19 = k := by
  simp only [bits]
  omega

theorem tokenOk_iff (k : Nat) : tokenOk k = true ↔ bits k 19 4 = crc4Of (bits k 0 19) := by
  have low : k % 2 ^ 19 = bits k 0 19 := by simp [bits]
  rw [tokenOk, decide_eq_true_iff, low, crc4_eq_crc4Of]

theorem tokenOf_of_tokenOk (k : Nat) (hk : k < 2 ^ 23) (hok : tokenOk k = true) :
    tokenOf (bits k 0 9) (tokenContent k) = k := by
  rw [tokenOf_eq, tokenBody_of_fields, ← (tokenOk_iff k).1 hok, bits_low_add_check k hk]

/-- Settles O58: the fields stand at their places whatever the check is, and the model's CRC-4 is the remainder that R181 names. -/
theorem tokenFormat : Obligations.TokenFormat := by
  refine ⟨fun slot hslot c hstate hround => ?_, fun k hk => ⟨tokenOk_iff k, tokenOf_of_tokenOk k hk⟩⟩
  obtain ⟨hlt, hs, hv, hst, ha, ho, hl, hr, hcheck, hbody⟩ :=
    fields_of_body slot hslot c hstate hround (crc4Of (tokenBody slot c)) (crc4Of_lt _)
  rw [← tokenOf_eq] at hlt hs hv hst ha ho hl hr hcheck hbody
  exact ⟨hlt, hs, hv, hst, ha, ho, hl, hr, hbody.symm ▸ hcheck⟩

end Sys2Proof.TokenProofs
end

section
/-! PROOFS. LZ payloads (R391): what the decoder does with one item, whatever stands behind it, and from this what it does with a
list of items. The decoder holds the output newest byte first, so the output of the items so far stands in it reversed. -/

namespace Sys2Proof.LzProofs

open Sys2Proof.Machine

/-! ## What an item gives -/

/-- The number of bytes that an item gives. -/
def itemSize : LzItem → Nat
  | .run bs => bs.length
  | .copy n _ => n

/-- One step of a match: the byte that lies d back, once more. -/
def copyByte (d : Nat) (out : List Byte) : List Byte := out ++ [out.getD (out.length - d) 0]

theorem length_copyByte (d : Nat) (out : List Byte) : (copyByte d out).length = out.length + 1 := by simp [copyByte]

theorem length_copyByte_iterate (d n : Nat) (out : List Byte) : ((copyByte d)^[n] out).length = out.length + n := by
  induction n generalizing out with
  | zero => rfl
  | succ n ih => rw [Function.iterate_succ_apply, ih, length_copyByte, Nat.add_right_comm, Nat.add_assoc]

theorem after_copy (n d : Nat) (out : List Byte) : (LzItem.copy n d).after out = (copyByte d)^[n] out :=
  (List.foldl_const (copyByte d) out (List.range n)).trans (by rw [List.length_range])

theorem length_after (i : LzItem) (out : List Byte) : (i.after out).length = out.length + itemSize i := by
  cases i with
  | run bs => exact List.length_append
  | copy n d => rw [after_copy, length_copyByte_iterate, itemSize]

theorem itemSize_pos {i : LzItem} {n : Nat} (h : i.fits n) : 0 < itemSize i := by
  cases i with
  | run bs => exact h.1
  | copy k d => exact Nat.lt_of_lt_of_le (by decide) h.1

theorem length_le_length_foldl_after (items : List LzItem) (out : List Byte) :
    out.length ≤ (items.foldl LzItem.after out).length := by
  induction items generalizing out with
  | nil => exact le_rfl
  | cons i is ih =>
    calc out.length ≤ (i.after out).length := by rw [length_after]; exact Nat.le_add_right _ _
      _ ≤ _ := ih (i.after out)

theorem length_code_pos (i : LzItem) : 0 < i.code.length := by cases i <;> exact Nat.succ_pos _

theorem length_le_length_flatMap_code (items : List LzItem) : items.length ≤ (items.flatMap LzItem.code).length := by
  induction items with
  | nil => exact le_rfl
  | cons i is ih =>
    have := length_code_pos i
    rw [List.flatMap_cons, List.length_append, List.length_cons]
    omega

/-! ## The decoder over one item -/

theorem ofLe_leBytes_two {d : Nat} (hd : d < 65536) : ofLe (leBytes 2 d) = d := by
  simp only [leBytes, ofLe, BitVec.toNat_ofNat]
  omega

/-- The decoder's match copies what the item's match copies. -/
theorem lzCopy_reverse {d n : Nat} {out : List Byte} (hd : 1 ≤ d) (hle : d ≤ out.length) :
    lzCopy d n out.reverse = ((LzItem.copy n d).after out).reverse := by
  rw [after_copy]
  induction n generalizing out with
  | zero => rfl
  | succ n ih =>
    have back : out.reverse.getD (d - 1) 0 = out.getD (out.length - d) 0 := by
      rw [List.getD_reverse _ (by omega), Nat.sub_sub, Nat.add_sub_cancel' hd]
    have step : out.reverse.getD (d - 1) 0 :: out.reverse = (copyByte d out).reverse := by
      rw [back, copyByte, List.reverse_concat]
    rw [lzCopy, step, ih (by rw [length_copyByte]; omega), Function.iterate_succ_apply]

theorem lzRead_end (total fuel : Nat) (out : List Byte) : lzRead total (fuel + 1) total out [] = .good out.reverse := by
  simp [lzRead]

theorem lzRead_run (total fuel len : Nat) (out rest : List Byte) {bs : List Byte} (hpos : 1 ≤ bs.length)
    (hmax : bs.length ≤ 128) :
    lzRead total (fuel + 1) len out ((LzItem.run bs).code ++ rest) =
      if len = total then .format
      else if total < len + bs.length then .expand
      else lzRead total fuel (len + bs.length) (bs.reverse ++ out) rest := by
  have control : (BitVec.ofNat 8 (bs.length - 1)).toNat = bs.length - 1 := by
    rw [BitVec.toNat_ofNat]; omega
  have low : bs.length - 1 < 0x80 := by omega
  simp [LzItem.code, lzRead, control, low, Nat.sub_add_cancel hpos]

theorem lzRead_copy (total fuel len : Nat) (out rest : List Byte) {n d : Nat} (hmin : 3 ≤ n) (hmax : n ≤ 130)
    (hd : d < 65536) :
    lzRead total (fuel + 1) len out ((LzItem.copy n d).code ++ rest) =
      if len = total then .format
      else if total < len + n then .expand
      else if d = 0 ∨ len < d then .format
      else lzRead total fuel (len + n) (lzCopy d n out) rest := by
  have control : (BitVec.ofNat 8 (0x80 + (n - 3))).toNat = 0x80 + (n - 3) := by
    rw [BitVec.toNat_ofNat]; omega
  have high : ¬ 0x80 + (n - 3) < 0x80 := by omega
  have size : (0x80 + (n - 3)) % 128 + 3 = n := by omega
  have two : (leBytes 2 d).length = 2 := rfl
  have enough : ¬ (leBytes 2 d ++ rest).length < 2 := by rw [List.length_append, two]; omega
  simp only [LzItem.code, List.cons_append, lzRead, control, high, size, enough, if_false,
    List.take_left' two, List.drop_left' two, ofLe_leBytes_two hd, reduceCtorEq]

/-- An item that fits is read whatever stands behind it, unless the declared length is reached before or within it. -/
theorem lzRead_item (total fuel : Nat) {i : LzItem} {out : List Byte} (rest : List Byte) (hfit : i.fits out.length) :
    lzRead total (fuel + 1) out.length out.reverse (i.code ++ rest) =
      if out.length = total then .format
      else if total < (i.after out).length then .expand
      else lzRead total fuel (i.after out).length (i.after out).reverse rest := by
  cases i with
  | run bs =>
    obtain ⟨hpos, hmax⟩ := hfit
    rw [lzRead_run _ _ _ _ _ hpos hmax, length_after, LzItem.after, List.reverse_append, itemSize]
  | copy n d =>
    obtain ⟨hmin, hmax, hpos, hd, hle⟩ := hfit
    have within : ¬ (d = 0 ∨ out.length < d) := by omega
    rw [lzRead_copy _ _ _ _ _ hmin hmax hd, if_neg within, lzCopy_reverse hpos hle, length_after, itemSize]

/-- A match that reaches before the output ends the decoding without an output. -/
theorem lzRead_copy_before_output (total fuel : Nat) {len n d : Nat} (out rest bs : List Byte) (hmin : 3 ≤ n)
    (hmax : n ≤ 130) (hreach : len < d) (hd : d < 65536) :
    lzRead total fuel len out ((LzItem.copy n d).code ++ rest) ≠ .good bs := by
  cases fuel with
  | zero => simp [lzRead]
  | succ fuel =>
    rw [lzRead_copy _ _ _ _ _ hmin hmax hd, if_pos (Or.inr hreach)]
    split_ifs <;> simp

/-! ## The decoder over a list of items -/

theorem lzRead_items {items : List LzItem} {out : List Byte} (hall : LzItem.all out items) {fuel : Nat}
    (hfuel : items.length < fuel) :
    lzRead (items.foldl LzItem.after out).length fuel out.length out.reverse (items.flatMap LzItem.code) =
      .good (items.foldl LzItem.after out) := by
  induction items generalizing out fuel with
  | nil =>
    obtain ⟨fuel, rfl⟩ := Nat.exists_eq_add_one_of_ne_zero (Nat.ne_zero_of_lt hfuel)
    exact (lzRead_end _ _ _).trans (by rw [List.reverse_reverse, List.foldl_nil])
  | cons i is ih =>
    obtain ⟨fuel, rfl⟩ := Nat.exists_eq_add_one_of_ne_zero (Nat.ne_zero_of_lt hfuel)
    obtain ⟨hfit, htail⟩ := hall
    have room := length_le_length_foldl_after is (i.after out)
    have more : out.length < (i.after out).length := by
      rw [length_after]; exact Nat.lt_add_of_pos_right (itemSize_pos hfit)
    rw [List.flatMap_cons, List.foldl_cons, lzRead_item _ _ _ hfit, if_neg (by omega), if_neg (by omega)]
    exact ih htail (Nat.lt_of_succ_lt_succ hfuel)

/-- Items that fit do not hide what ends the decoding behind them. -/
theorem lzRead_items_append_ne_good {items : List LzItem} {out rest bs : List Byte} {total : Nat}
    (hall : LzItem.all out items)
    (hrest : ∀ fuel, lzRead total fuel (items.foldl LzItem.after out).length (items.foldl LzItem.after out).reverse rest ≠
      .good bs)
    (fuel : Nat) :
    lzRead total fuel out.length out.reverse (items.flatMap LzItem.code ++ rest) ≠ .good bs := by
  induction items generalizing out fuel with
  | nil => exact hrest fuel
  | cons i is ih =>
    obtain ⟨hfit, htail⟩ := hall
    cases fuel with
    | zero => simp [lzRead]
    | succ fuel =>
      rw [List.flatMap_cons, List.append_assoc, lzRead_item _ _ _ hfit]
      split_ifs
      · simp
      · simp
      · exact ih htail hrest fuel

/-- Settles O59: the decoder reads an item as the item's meaning says, so by induction on the items it gives what they give; and where
it comes to a match that reaches before the output, if it comes so far, it stops. -/
theorem lzStreams : Obligations.LzStreams := by
  refine ⟨fun items hall => ?_, fun items hall n d hmin hmax hreach hd more total bs => ?_⟩
  · exact lzRead_items hall (Nat.lt_succ_of_le (length_le_length_flatMap_code items))
  · rw [List.append_assoc]
    exact lzRead_items_append_ne_good hall
      (fun fuel => lzRead_copy_before_output total fuel _ more bs hmin hmax hreach hd) _

end Sys2Proof.LzProofs
end

section
/-! PROOFS. What every command and every step keep: each meaning is a work that is carried into the state, which keeps the stores' form. -/

namespace Sys2Proof.StepProofs

open Sys2Proof.Machine

/-- Every command but the end of fuse programming answers the work that it finishes. -/
theorem exec_finishes (c : Instr) (s : State) :
    (∃ w : Work s, exec c s = .next w.finish) ∨ c = .fuseProgrammingDone := by
  cases c with
  | fuseProgrammingDone => exact .inr rfl
  | _ => exact .inl ⟨_, rfl⟩

theorem FusesGrow.refl (f : Fuses) : FusesGrow f f := ⟨fun h => ⟨h, rfl⟩, id⟩

/-- R331: programming sets fuse bits and clears none, and keeps a key hash that is set. -/
theorem fuseBurn_grows {s : State} (w : Work s) (f : Fuses) : FusesGrow f (fuseBurn w f) := by
  unfold fuseBurn
  split
  · exact ⟨fun h => by simp [h], fun h => by simp [h]⟩
  · exact FusesGrow.refl f

/-- R331: programming sets SIGN_REQUIRED only where HASH_SET is. -/
theorem fuseBurn_proper {s : State} (w : Work s) (f : Fuses) (hf : f.proper = true) : (fuseBurn w f).proper = true := by
  unfold fuseBurn
  split
  · simp only [Fuses.proper] at hf ⊢
    cases h : f.hashSet
    · have hsign : f.signRequired = false := by simpa [h] using hf
      simp [hsign]
    · simp
  · exact hf

/-- Settles O55: every command finishes a work, which keeps the stores' form and the queue, and the fuses change by programming alone. -/
theorem commandsKeepTheForm : Obligations.CommandsKeepTheForm := by
  unfold Obligations.CommandsKeepTheForm
  intro c s hs hf
  rcases exec_finishes c s with ⟨w, hw⟩ | rfl
  · exact ⟨_, hw, w.finish_wf hs, rfl, FusesGrow.refl _, hf⟩
  · exact ⟨_, rfl, Work.finish_wf _ hs, rfl, fuseBurn_grows _ _, fuseBurn_proper _ _ hf⟩

/-- Settles O54: the step is defined by the front of the queue, and idles where there is none. -/
theorem stepRunsTheFront : Obligations.StepRunsTheFront := by
  refine ⟨fun c rest s => rfl, fun s h => ?_⟩
  simp only [step, h]

/-- Settles O56: an idle step keeps everything, and a command keeps the form, by what holds of every command. -/
theorem stepInvariant : Obligations.StepInvariant := by
  unfold Obligations.StepInvariant
  intro s t hs hf hstep
  unfold step at hstep
  split at hstep
  case h_1 h =>
    injection hstep with hst
    subst hst
    exact ⟨hs, hf, FusesGrow.refl _, by rw [h]; rfl⟩
  case h_2 c rest h =>
    obtain ⟨u, hu, hwf, hp, hg, hpr⟩ := commandsKeepTheForm c { s with pending := rest } hs hf
    obtain rfl : u = t := by
      rw [hu] at hstep
      injection hstep
    exact ⟨hwf, hpr, hg, by rw [hp, h]; rfl⟩

/-- Settles O57: nothing is listed in any store after reset, so that every field, byte and fuse has its reset value. -/
theorem resetState : Obligations.ResetState := by
  refine ⟨rfl, rfl, rfl, fun f => ?_, fun a => ?_, fun a => rfl, rfl⟩
  · simp [State.get, State.reset, assoc]
  · simp [State.byteAt, State.reset, assoc, lostAt]

end Sys2Proof.StepProofs
end

section
/-! PROOFS. RICE (R387 to R389): what the coder writes for a payload decodes to that payload. -/

namespace Sys2Proof.RiceProofs

open Sys2Proof.Machine

/-! ## Bits and numbers -/

@[simp] theorem bitsOf_length (n v : Nat) : (bitsOf n v).length = n := by
  induction n generalizing v with
  | zero => rfl
  | succ n ih => simp [bitsOf, ih]

theorem ofBits_bitsOf (n v : Nat) : ofBits (bitsOf n v) = v % 2 ^ n := by
  induction n generalizing v with
  | zero => simp [bitsOf, ofBits, Nat.mod_one]
  | succ n ih =>
    rw [bitsOf, ofBits, ih, Nat.pow_succ', Nat.mod_mul]
    rcases Nat.mod_two_eq_zero_or_one v with h | h <;> simp [h, b2n]

/-- The bits of the number that a list spells are the list, with zeros behind it. -/
theorem bitsOf_ofBits (l : List Bool) (m : Nat) :
    bitsOf (l.length + m) (ofBits l) = l ++ List.replicate m false := by
  have zeros : ∀ m, bitsOf m 0 = List.replicate m false := by
    intro m
    induction m with
    | zero => rfl
    | succ m ih => simpa [bitsOf, List.replicate_succ] using ih
  induction l with
  | nil => simpa [ofBits] using zeros m
  | cons b l ih =>
    have half : (b2n b + 2 * ofBits l) / 2 = ofBits l := by
      cases b <;> simp [b2n]
      omega
    have low : ((b2n b + 2 * ofBits l) % 2 == 1) = b := by cases b <;> simp [b2n]
    rw [List.length_cons, Nat.add_right_comm, bitsOf, ofBits, low, half, ih]
    rfl

theorem ofBits_lt (l : List Bool) : ofBits l < 2 ^ l.length := by
  induction l with
  | nil => simp [ofBits]
  | cons b l ih => cases b <;> simp [ofBits, b2n, Nat.pow_succ'] <;> omega

theorem takeBits_bitsOf (n v : Nat) (rest : List Bool) : takeBits n (bitsOf n v ++ rest) = some (v % 2 ^ n, rest) := by
  have enough : ¬(bitsOf n v ++ rest).length < n := by simp
  rw [takeBits, if_neg enough, List.take_left' (bitsOf_length n v), List.drop_left' (bitsOf_length n v), ofBits_bitsOf]

/-! ## Bytes and bits -/

theorem bitsOf_byte (l : List Bool) (hl : l.length ≤ 8) :
    bitsOf 8 (BitVec.ofNat 8 (ofBits l)).toNat = l ++ List.replicate (8 - l.length) false := by
  have small : ofBits l < 2 ^ 8 := Nat.lt_of_lt_of_le (ofBits_lt l) (Nat.pow_le_pow_right (by decide) hl)
  have width : 8 = l.length + (8 - l.length) := by omega
  rw [BitVec.toNat_ofNat, Nat.mod_eq_of_lt small]
  conv_lhs => rw [width]
  exact bitsOf_ofBits l _

/-- R389: packed bits unpack to themselves, with fewer than 8 zeros behind them. -/
theorem unpackBits_packBits (n : Nat) (l : List Bool) (hl : l.length ≤ n) :
    ∃ m < 8, unpackBits (packBits n l) = l ++ List.replicate m false := by
  induction n generalizing l with
  | zero =>
    obtain rfl : l = [] := List.eq_nil_of_length_eq_zero (by omega)
    exact ⟨0, by decide, rfl⟩
  | succ n ih =>
    by_cases hnil : l = []
    · exact ⟨0, by decide, by simp [packBits, hnil, unpackBits]⟩
    · have step : unpackBits (packBits (n + 1) l) =
          bitsOf 8 (BitVec.ofNat 8 (ofBits (l.take 8))).toNat ++ unpackBits (packBits n (l.drop 8)) := by
        simp [packBits, hnil, unpackBits]
      have pos : 0 < l.length := List.length_pos_iff.mpr hnil
      rw [step, bitsOf_byte _ (by simp)]
      by_cases hlong : 8 ≤ l.length
      · obtain ⟨m, hm, heq⟩ := ih (l.drop 8) (by simp; omega)
        refine ⟨m, hm, ?_⟩
        have full : 8 - (l.take 8).length = 0 := by simp; omega
        rw [heq, full, List.replicate_zero, List.append_nil, ← List.append_assoc, List.take_append_drop]
      · have behind : l.drop 8 = [] := List.drop_eq_nil_of_le (by omega)
        refine ⟨8 - l.length, by omega, ?_⟩
        rw [behind, List.take_of_length_le (by omega)]
        cases n <;> simp [packBits, unpackBits]

/-- Bytes in order as bits, read back as one number, spell the bytes. -/
theorem ofBits_flatMap_bytes (bs : List Byte) : ofBits (bs.flatMap (fun b => bitsOf 8 b.toNat)) = ofLe bs := by
  have append : ∀ l m : List Bool, ofBits (l ++ m) = ofBits l + 2 ^ l.length * ofBits m := by
    intro l m
    induction l with
    | nil => simp [ofBits]
    | cons b l ih => simp [ofBits, ih, Nat.pow_succ']; ring
  induction bs with
  | nil => rfl
  | cons b bs ih =>
    rw [List.flatMap_cons, append, ih, ofBits_bitsOf, bitsOf_length, Nat.mod_eq_of_lt b.isLt]
    rfl

theorem flatMap_bytes_length (bs : List Byte) : (bs.flatMap (fun b => bitsOf 8 b.toNat)).length = 8 * bs.length := by
  induction bs with
  | nil => rfl
  | cons b bs ih => simp only [List.flatMap_cons, List.length_append, ih, bitsOf_length, List.length_cons]; omega

theorem leBytes_ofLe (bs : List Byte) : leBytes bs.length (ofLe bs) = bs := by
  induction bs with
  | nil => rfl
  | cons b bs ih =>
    have low : BitVec.ofNat 8 (b.toNat + 256 * ofLe bs) = b := by
      apply BitVec.eq_of_toNat_eq
      rw [BitVec.toNat_ofNat]
      have := b.isLt
      omega
    have high : (b.toNat + 256 * ofLe bs) / 256 = ofLe bs := by
      have := b.isLt
      omega
    rw [List.length_cons, ofLe, leBytes, low, high, ih]

theorem leBytes_ofLe_of_length (n : Nat) (bs : List Byte) (h : bs.length = n) : leBytes n (ofLe bs) = bs := by
  rw [← h, leBytes_ofLe]

theorem ofLe_lt (bs : List Byte) : ofLe bs < 256 ^ bs.length := by
  induction bs with
  | nil => simp [ofLe]
  | cons b bs ih =>
    have := b.isLt
    rw [ofLe, List.length_cons, Nat.pow_succ']
    omega

/-! ## Numbers under k (R389) -/

theorem takeOnes_stop (n q : Nat) (rest : List Bool) (hq : q < n) :
    takeOnes n (List.replicate q true ++ false :: rest) = some (q, false :: rest) := by
  induction q generalizing n with
  | zero =>
    obtain ⟨n, rfl⟩ : ∃ m, n = m + 1 := ⟨n - 1, by omega⟩
    rfl
  | succ q ih =>
    obtain ⟨n, rfl⟩ : ∃ m, n = m + 1 := ⟨n - 1, by omega⟩
    rw [List.replicate_succ, List.cons_append, takeOnes, ih n (by omega)]
    rfl

theorem takeOnes_full (n : Nat) (rest : List Bool) :
    takeOnes n (List.replicate n true ++ rest) = some (n, rest) := by
  induction n with
  | zero => cases rest <;> rfl
  | succ n ih =>
    rw [List.replicate_succ, List.cons_append, takeOnes, ih]
    rfl

/-- R389: a number reads back under every k. -/
theorem riceTake_riceElem (w k u : Nat) (rest : List Bool) (hu : u < 2 ^ w) :
    riceTake w k (riceElem w k u ++ rest) = some (u, rest) := by
  unfold riceTake riceElem
  by_cases hk : k = 15
  · rw [if_pos hk, if_pos hk, takeBits_bitsOf, Nat.mod_eq_of_lt hu]
  · rw [if_neg hk, if_neg hk]
    by_cases hq : 24 ≤ u / 2 ^ k
    · rw [if_pos hq, List.append_assoc, takeOnes_full]
      simp only [if_true]
      rw [takeBits_bitsOf, Nat.mod_eq_of_lt hu]
    · rw [if_neg hq, List.append_assoc, List.cons_append, takeOnes_stop 24 _ _ (by omega)]
      have few : u / 2 ^ k ≠ 24 := by omega
      simp only [if_neg few, List.drop_one, List.tail_cons, takeBits_bitsOf, Option.map_some, Option.some.injEq,
        Prod.mk.injEq, and_true]
      exact Nat.div_add_mod' u (2 ^ k)

theorem riceK_lt (w : Nat) (us : List Nat) : riceK w us < 16 := by
  have step : ∀ (ks : List Nat) (best : Nat), best < 16 → (∀ k ∈ ks, k < 16) →
      ks.foldl (fun best k => if riceCost w k us < riceCost w best us then k else best) best < 16 := by
    intro ks
    induction ks with
    | nil => exact fun best h _ => h
    | cons k ks ih =>
      intro best h hks
      refine ih _ ?_ (fun j hj => hks j (List.mem_cons_of_mem _ hj))
      dsimp only
      split
      · exact hks k List.mem_cons_self
      · exact h
  exact step _ 0 (by decide) (by simp)

/-! ## Residuals (R388) -/

theorem toField_eq (w : Nat) (r : Int) : ((toField w r : Nat) : Int) = r % 2 ^ w :=
  Int.toNat_of_nonneg (Int.emod_nonneg _ (by positivity))

theorem toField_lt (w : Nat) (r : Int) : toField w r < 2 ^ w := by
  have h := Int.emod_lt_of_pos r (by positivity : (0 : Int) < 2 ^ w)
  rw [← toField_eq] at h
  exact_mod_cast h

/-- A signed reading stays the number modulo 2^w, in the signed range. -/
theorem sext_toField (w : Nat) (hw : 1 ≤ w) (r : Int) :
    sext w (toField w r) % 2 ^ w = r % 2 ^ w ∧ -(2 ^ (w - 1)) ≤ sext w (toField w r) ∧ sext w (toField w r) < 2 ^ (w - 1) := by
  obtain ⟨v, rfl⟩ : ∃ v, w = v + 1 := ⟨w - 1, by omega⟩
  have hlt := toField_lt (v + 1) r
  have heq := toField_eq (v + 1) r
  have hpow : (2 : Int) ^ (v + 1) = 2 * 2 ^ v := by ring
  have hpowN : 2 ^ (v + 1) = 2 * 2 ^ v := by ring
  have hcast : ((2 ^ v : Nat) : Int) = 2 ^ v := by push_cast; rfl
  unfold sext
  simp only [Nat.mod_eq_of_lt hlt, Nat.add_sub_cancel]
  split
  · rw [heq, Int.emod_emod_of_dvd _ (dvd_refl _)]
    refine ⟨rfl, ?_, ?_⟩ <;> omega
  · rw [heq, Int.sub_emod_right, Int.emod_emod_of_dvd _ (dvd_refl _)]
    refine ⟨rfl, ?_, ?_⟩ <;> omega

theorem unfoldSign_foldSign (w : Nat) (r : Int) : unfoldSign (foldSign w r) = sext w (toField w r) := by
  unfold foldSign unfoldSign
  dsimp only
  generalize sext w (toField w r) = z
  split
  · have e : (2 * z).toNat = 2 * z.toNat := by omega
    rw [e, if_pos (by omega)]
    omega
  · have e : (-2 * z - 1).toNat = 2 * (-z - 1).toNat + 1 := by omega
    rw [e, if_neg (by omega)]
    omega

theorem foldSign_lt (w : Nat) (hw : 1 ≤ w) (r : Int) : foldSign w r < 2 ^ w := by
  obtain ⟨_, low, high⟩ := sext_toField w hw r
  obtain ⟨v, rfl⟩ : ∃ v, w = v + 1 := ⟨w - 1, by omega⟩
  have hpow : 2 ^ (v + 1) = 2 * 2 ^ v := by ring
  have hcast : ((2 ^ v : Nat) : Int) = 2 ^ v := by push_cast; rfl
  unfold foldSign
  dsimp only
  generalize sext (v + 1) (toField (v + 1) r) = z at *
  simp only [Nat.add_sub_cancel] at low high
  split <;> omega

/-- R388: an element comes back from its residual and its prediction. -/
theorem element_of_residual (w : Nat) (hw : 1 ≤ w) (x : Nat) (hx : x < 2 ^ w) (p : Int) :
    toField w (unfoldSign (foldSign w ((x : Int) - p)) + p) = x := by
  obtain ⟨same, _, _⟩ := sext_toField w hw ((x : Int) - p)
  have h : ((toField w (sext w (toField w ((x : Int) - p)) + p) : Nat) : Int) = (x : Int) := by
    rw [toField_eq, Int.add_emod, same, ← Int.add_emod, Int.sub_add_cancel]
    exact Int.emod_eq_of_lt (by omega) (by exact_mod_cast hx)
  rw [unfoldSign_foldSign]
  exact_mod_cast h

/-! ## The elements of a payload, coded and read -/

/-- The elements before, newest first, after some more. -/
def prevAfter (s : Nat) : List Nat → List Nat → List Nat
  | prev, [] => prev
  | prev, x :: xs => prevAfter s ((x :: prev).take (2 * s)) xs

@[simp] theorem residuals_length (w order s : Nat) (prev xs : List Nat) : (residuals w order s prev xs).length = xs.length := by
  induction xs generalizing prev with
  | nil => rfl
  | cons x xs ih => simp [residuals, ih]

/-- What the coder makes of elements behind others: the number of each, with the raw byte behind it. -/
def coded (w order s : Nat) (prev : List Nat) (es : List (Nat × Option Byte)) : List (Nat × Option Byte) :=
  (residuals w order s prev (es.map (·.1))).zip (es.map (·.2))

@[simp] theorem coded_length (w order s : Nat) (prev : List Nat) (es : List (Nat × Option Byte)) :
    (coded w order s prev es).length = es.length := by simp [coded]

theorem coded_cons (w order s : Nat) (prev : List Nat) (e : Nat × Option Byte) (es : List (Nat × Option Byte)) :
    coded w order s prev (e :: es) = (foldSign w ((e.1 : Int) - predict order s prev), e.2) ::
      coded w order s ((e.1 :: prev).take (2 * s)) es := rfl

theorem coded_take (w order s n : Nat) (prev : List Nat) (es : List (Nat × Option Byte)) :
    (coded w order s prev es).take n = coded w order s prev (es.take n) := by
  induction n generalizing prev es with
  | zero => rfl
  | succ n ih => cases es with
    | nil => rfl
    | cons e es => simp [coded_cons, ih]

theorem coded_drop (w order s n : Nat) (prev : List Nat) (es : List (Nat × Option Byte)) :
    (coded w order s prev es).drop n = coded w order s (prevAfter s prev ((es.take n).map (·.1))) (es.drop n) := by
  induction n generalizing prev es with
  | zero => rfl
  | succ n ih => cases es with
    | nil => rfl
    | cons e es => simp [coded_cons, prevAfter, ih]

/-- The raw byte behind an element as bits. -/
def rawBits : Option Byte → List Bool
  | some b => bitsOf 8 b.toNat
  | none => []

/-- The bits of the numbers of one partition under its k. -/
def partBits (w k : Nat) (us : List (Nat × Option Byte)) : List Bool := us.flatMap (fun e => riceElem w k e.1 ++ rawBits e.2)

/-- An element with its raw byte as the reader keeps it. -/
def kept (e : Nat × Option Byte) : Nat × Nat :=
  (e.1, match e.2 with | some b => b.toNat | none => 0)

/-- The elements from index i on are of w bits, and in RAW12 each tenth has a raw byte behind it and no other has. -/
def Shaped (w elem : Nat) : Nat → List (Nat × Option Byte) → Prop
  | _, [] => True
  | i, e :: es => e.1 < 2 ^ w ∧ (e.2.isSome = true ↔ elem = 1 ∧ i % 10 = 9) ∧ Shaped w elem (i + 1) es

theorem shaped_append (w elem i : Nat) (es fs : List (Nat × Option Byte)) :
    Shaped w elem i (es ++ fs) ↔ Shaped w elem i es ∧ Shaped w elem (i + es.length) fs := by
  induction es generalizing i with
  | nil => simp [Shaped]
  | cons e es ih =>
    have next : i + (es.length + 1) = i + 1 + es.length := by omega
    simp only [List.cons_append, Shaped, ih, List.length_cons, next, and_assoc]

/-- The elements before the next one, as the reader finds them. -/
def seen (s : Nat) (acc : List (Nat × Nat)) : List Nat := (acc.take (2 * s)).map (·.1)

theorem seen_cons (s : Nat) (e : Nat × Nat) (acc : List (Nat × Nat)) :
    seen s (e :: acc) = (e.1 :: seen s acc).take (2 * s) := by
  cases h : 2 * s with
  | zero => simp [seen, h]
  | succ m => simp [seen, h, List.map_take, List.take_take]

theorem prevAfter_seen (s : Nat) (es : List (Nat × Option Byte)) (acc : List (Nat × Nat)) :
    prevAfter s (seen s acc) (es.map (·.1)) = seen s ((es.map kept).reverse ++ acc) := by
  induction es generalizing acc with
  | nil => rfl
  | cons e es ih =>
    have := ih (kept e :: acc)
    rw [seen_cons] at this
    simpa [prevAfter, kept] using this

section Reading

variable {w order s elem : Nat} (hw : 1 ≤ w)
include hw

/-- One element read: the k of its partition where it begins one, its number, and its raw byte. -/
theorem riceRead_element (n i k k' : Nat) (acc : List (Nat × Nat)) (e : Nat × Option Byte) (rest : List Bool)
    (hk : i % 32 ≠ 0 → k' = k) (hk' : k' < 16) (hx : e.1 < 2 ^ w) (hb : e.2.isSome = true ↔ elem = 1 ∧ i % 10 = 9) :
    riceRead w order s elem (n + 1) i k acc ((if i % 32 = 0 then bitsOf 4 k' else []) ++
        (riceElem w k' (foldSign w ((e.1 : Int) - predict order s (seen s acc))) ++ rawBits e.2) ++ rest) =
      riceRead w order s elem n (i + 1) k' (kept e :: acc) rest := by
  have head : ∀ tail, (if i % 32 = 0 then takeBits 4 ((if i % 32 = 0 then bitsOf 4 k' else []) ++ tail)
      else some (k, (if i % 32 = 0 then bitsOf 4 k' else []) ++ tail)) = some (k', tail) := by
    intro tail
    by_cases h : i % 32 = 0
    · simp only [if_pos h]
      rw [takeBits_bitsOf, Nat.mod_eq_of_lt (show k' < 2 ^ 4 from hk')]
    · simp only [if_neg h, hk h, List.nil_append]
  have value : toField w (unfoldSign (foldSign w ((e.1 : Int) - predict order s (seen s acc))) +
      predict order s ((acc.take (2 * s)).map (·.1))) = e.1 := element_of_residual w hw e.1 hx _
  rw [riceRead]
  simp only [List.append_assoc, head, riceTake_riceElem _ _ _ _ (foldSign_lt w hw _), value]
  obtain ⟨x, raw⟩ := e
  cases raw with
  | none =>
    have hno : ¬(elem = 1 ∧ i % 10 = 9) := by simpa using hb
    rw [if_neg hno]
    rfl
  | some b =>
    have hyes : elem = 1 ∧ i % 10 = 9 := by simpa using hb
    have byte : takeBits 8 (rawBits (some b) ++ rest) = some (b.toNat, rest) := by
      rw [rawBits, takeBits_bitsOf, Nat.mod_eq_of_lt b.isLt]
    rw [if_pos hyes, byte]
    rfl

/-- The rest of a partition read, its k known. -/
theorem riceRead_partition_rest (es : List (Nat × Option Byte)) (m i k : Nat) (acc : List (Nat × Nat)) (rest : List Bool)
    (hk : k < 16) (hi : i % 32 ≠ 0) (hend : i % 32 + es.length ≤ 32) (hes : Shaped w elem i es) :
    riceRead w order s elem (es.length + m) i k acc (partBits w k (coded w order s (seen s acc) es) ++ rest) =
      riceRead w order s elem m (i + es.length) k ((es.map kept).reverse ++ acc) rest := by
  induction es generalizing i acc with
  | nil => simp [coded, partBits]
  | cons e es ih =>
    obtain ⟨hx, hb, hrest⟩ := hes
    have one := riceRead_element (order := order) (s := s) hw (es.length + m) i k k acc e
      (partBits w k (coded w order s (seen s (kept e :: acc)) es) ++ rest) (fun _ => rfl) hk hx hb
    rw [if_neg hi, List.nil_append] at one
    have split : partBits w k (coded w order s (seen s acc) (e :: es)) ++ rest =
        riceElem w k (foldSign w ((e.1 : Int) - predict order s (seen s acc))) ++ rawBits e.2 ++
          (partBits w k (coded w order s (seen s (kept e :: acc)) es) ++ rest) := by
      simp [coded_cons, partBits, seen_cons, kept]
    have count : (e :: es).length + m = es.length + m + 1 := by simp; omega
    rw [split, count, one]
    cases es with
    | nil => simp [coded, partBits]
    | cons e' es' =>
      simp only [List.length_cons] at hend
      rw [ih (i + 1) (kept e :: acc) (by omega) (by simp only [List.length_cons]; omega) hrest]
      have idx : i + 1 + (e' :: es').length = i + (e :: e' :: es').length := by simp; omega
      rw [idx]
      simp

/-- A partition read from its k on. -/
theorem riceRead_partition (e : Nat × Option Byte) (es : List (Nat × Option Byte)) (m i k k' : Nat) (acc : List (Nat × Nat))
    (rest : List Bool) (hk : k' < 16) (hi : i % 32 = 0) (hlen : es.length < 32) (hes : Shaped w elem i (e :: es)) :
    riceRead w order s elem ((e :: es).length + m) i k acc
        (bitsOf 4 k' ++ (partBits w k' (coded w order s (seen s acc) (e :: es)) ++ rest)) =
      riceRead w order s elem m (i + (e :: es).length) k' (((e :: es).map kept).reverse ++ acc) rest := by
  obtain ⟨hx, hb, hrest⟩ := hes
  have one := riceRead_element (order := order) (s := s) hw (es.length + m) i k k' acc e
    (partBits w k' (coded w order s (seen s (kept e :: acc)) es) ++ rest) (fun h => absurd hi h) hk hx hb
  rw [if_pos hi] at one
  have split : bitsOf 4 k' ++ (partBits w k' (coded w order s (seen s acc) (e :: es)) ++ rest) =
      bitsOf 4 k' ++ (riceElem w k' (foldSign w ((e.1 : Int) - predict order s (seen s acc))) ++ rawBits e.2) ++
        (partBits w k' (coded w order s (seen s (kept e :: acc)) es) ++ rest) := by
    simp [coded_cons, partBits, seen_cons, kept]
  have count : (e :: es).length + m = es.length + m + 1 := by simp; omega
  have idx : i + 1 + es.length = i + (e :: es).length := by simp; omega
  rw [split, count, one, riceRead_partition_rest hw es m (i + 1) k' _ rest hk (by omega) (by omega) hrest, idx]
  simp

omit hw in
theorem riceParts_cons (n : Nat) (us : List (Nat × Option Byte)) (h : us ≠ []) :
    riceParts w (n + 1) us = bitsOf 4 (riceK w ((us.take 32).map (·.1))) ++
      (partBits w (riceK w ((us.take 32).map (·.1))) (us.take 32) ++ riceParts w n (us.drop 32)) := by
  rw [riceParts, if_neg h, List.append_assoc]
  rfl

/-- R389: every partition of a coded payload reads back. -/
theorem riceRead_parts (n : Nat) (es : List (Nat × Option Byte)) (i k : Nat) (acc : List (Nat × Nat)) (rest : List Bool)
    (hn : es.length < n) (hi : es ≠ [] → i % 32 = 0) (hes : Shaped w elem i es) :
    riceRead w order s elem es.length i k acc (riceParts w n (coded w order s (seen s acc) es) ++ rest) =
      some ((es.map kept).reverse ++ acc, rest) := by
  induction n generalizing es i k acc with
  | zero => omega
  | succ n ih =>
    cases es with
    | nil => simp [coded, riceParts, riceRead]
    | cons e es =>
      have hstart := hi (List.cons_ne_nil e es)
      have parted : e :: es.take 31 ++ es.drop 31 = e :: es := by simp
      rw [← parted, shaped_append] at hes
      obtain ⟨hfirst, hnext⟩ := hes
      have nonempty : coded w order s (seen s acc) (e :: es) ≠ [] := by
        intro h
        simpa using congrArg List.length h
      have total : (e :: es).length = (e :: es.take 31).length + (es.drop 31).length := by simp; omega
      have restart : es.drop 31 ≠ [] → (i + (e :: es.take 31).length) % 32 = 0 := by
        intro h
        have long : 0 < (es.drop 31).length := List.length_pos_iff.mpr h
        simp only [List.length_drop] at long
        simp only [List.length_cons, List.length_take]
        omega
      rw [riceParts_cons n _ nonempty, coded_take, coded_drop, prevAfter_seen, total]
      simp only [List.take_succ_cons, List.drop_succ_cons, List.append_assoc]
      rw [riceRead_partition hw e (es.take 31) (es.drop 31).length i k _ acc _ (riceK_lt w _) hstart
          (by simp only [List.length_take]; omega) hfirst,
        ih (es.drop 31) _ _ _ (by simp at hn ⊢; omega) restart hnext, ← List.append_assoc, ← List.reverse_append,
        ← List.map_append, parted]

end Reading

/-! ## Payloads and their elements (R387) -/

/-- A number from its digits of 12 bits, lowest first. -/
theorem digits_join (n v : Nat) :
    ((List.range n).map (fun k => bits v (12 * k) 12)).foldr (fun c r => c + 2 ^ 12 * r) 0 = v % 2 ^ (12 * n) := by
  induction n generalizing v with
  | zero => simp [Nat.mod_one]
  | succ n ih =>
    have shift : ∀ k, bits v (12 * (k + 1)) 12 = bits (v / 2 ^ 12) (12 * k) 12 := by
      intro k
      rw [bits, bits, Nat.div_div_eq_div_mul, ← Nat.pow_add, Nat.mul_succ, Nat.add_comm]
    have first : bits v (12 * 0) 12 = v % 2 ^ 12 := by simp [bits]
    rw [List.range_succ_eq_map, List.map_cons, List.map_map, List.foldr_cons, first]
    simp only [Function.comp_def, Nat.succ_eq_add_one, shift, ih]
    rw [Nat.mul_succ, Nat.add_comm (12 * n) 12, Nat.pow_add, Nat.mod_mul]

theorem elements_length (elem n : Nat) (bs : List Byte) :
    (elements elem n bs).length = if elem = 0 then n else n * 10 := by
  induction n generalizing bs with
  | zero => split <;> rfl
  | succ n ih =>
    rw [elements]
    by_cases h : elem = 0
    · simp only [if_pos h] at ih ⊢
      simp [ih]
    · simp only [if_neg h] at ih ⊢
      simp [ih, unitCodes]
      omega

/-- The ten elements of a unit. -/
def unitElements (u : List Byte) : List (Nat × Option Byte) :=
  ((unitCodes u).take 9).map (fun c => (c, none)) ++ ((unitCodes u).drop 9).map (fun c => (c, some (u.getD 15 0)))

theorem unitElements_length (u : List Byte) : (unitElements u).length = 10 := by simp [unitElements, unitCodes]

theorem elements_halfwords (n : Nat) (bs : List Byte) :
    elements 0 (n + 1) bs = (ofLe (bs.take 2), none) :: elements 0 n (bs.drop 2) := rfl

theorem elements_units (n : Nat) (bs : List Byte) : elements 1 (n + 1) bs = unitElements bs ++ elements 1 n (bs.drop 16) := rfl

theorem elements_halfwords_shaped (n i : Nat) (bs : List Byte) : Shaped 16 0 i (elements 0 n bs) := by
  induction n generalizing i bs with
  | zero => trivial
  | succ n ih =>
    refine ⟨Nat.lt_of_lt_of_le (ofLe_lt _) ?_, by simp, ih _ _⟩
    calc 256 ^ (bs.take 2).length ≤ 256 ^ 2 := Nat.pow_le_pow_right (by decide) (by simp)
      _ = 2 ^ 16 := by decide

theorem unitElements_shaped (i : Nat) (u : List Byte) (hi : i % 10 = 0) : Shaped 12 1 i (unitElements u) := by
  have small : ∀ k, bits (ofLe (u.take 15)) k 12 < 4096 := fun k => Nat.mod_lt _ (by decide)
  simp [unitElements, unitCodes, List.range_succ, Shaped, small]
  omega

theorem elements_units_shaped (n i : Nat) (bs : List Byte) (hi : i % 10 = 0) : Shaped 12 1 i (elements 1 n bs) := by
  induction n generalizing i bs with
  | zero => trivial
  | succ n ih =>
    rw [elements_units, shaped_append, unitElements_length]
    exact ⟨unitElements_shaped i bs hi, ih _ _ (by omega)⟩

theorem unelements_halfwords (n m : Nat) (bs : List Byte) (hm : n ≤ m) (hbs : 2 * n ≤ bs.length) :
    unelements 0 m ((elements 0 n bs).map kept) = bs.take (2 * n) := by
  induction n generalizing m bs with
  | zero => cases m <;> simp [elements, unelements]
  | succ n ih =>
    obtain ⟨m, rfl⟩ : ∃ l, m = l + 1 := ⟨m - 1, by omega⟩
    have first : leBytes 2 (ofLe (bs.take 2)) = bs.take 2 := leBytes_ofLe_of_length 2 _ (by simp; omega)
    have next := ih m (bs.drop 2) (by omega) (by simp; omega)
    rw [elements_halfwords, Nat.mul_succ, Nat.add_comm (2 * n), List.take_add, ← next]
    simp [unelements, kept, first]

/-- R241, R387: a unit comes back from its elements. -/
theorem unit_bytes (u : List Byte) (hu : 16 ≤ u.length) :
    leBytes 15 (((unitElements u).map kept).foldr (fun e v => e.1 + 2 ^ 12 * v) 0) ++
      leBytes 1 ((((unitElements u).map kept).map (·.2)).getLastD 0) = u.take 16 := by
  have codes : ((unitElements u).map kept).map (·.1) = unitCodes u := by
    simp [unitElements, unitCodes, kept, List.range_succ]
  have value : ((unitElements u).map kept).foldr (fun e v => e.1 + 2 ^ 12 * v) 0 = ofLe (u.take 15) := by
    have lt : ofLe (u.take 15) < 2 ^ (12 * 10) := by
      have := ofLe_lt (u.take 15)
      rw [show (u.take 15).length = 15 by simp; omega] at this
      exact this
    rw [← Nat.mod_eq_of_lt lt, ← digits_join, ← unitCodes.eq_1, ← codes, List.foldr_map (f := fun e : Nat × Nat => e.1)]
  have raw : (((unitElements u).map kept).map (·.2)).getLastD 0 = (u.getD 15 0).toNat := by
    simp [unitElements, unitCodes, kept, List.range_succ]
  have fifteen : leBytes 15 (ofLe (u.take 15)) = u.take 15 := leBytes_ofLe_of_length 15 _ (by simp; omega)
  have last : leBytes 1 (u.getD 15 0).toNat = [u.getD 15 0] := by simp [leBytes]
  rw [value, raw, fifteen, last, List.getD_eq_getElem _ _ (by omega), ← List.take_concat_get' u 15 (by omega)]

theorem unelements_units (n m : Nat) (bs : List Byte) (hm : n ≤ m) (hbs : 16 * n ≤ bs.length) :
    unelements 1 m ((elements 1 n bs).map kept) = bs.take (16 * n) := by
  induction n generalizing m bs with
  | zero => cases m <;> simp [elements, unelements]
  | succ n ih =>
    obtain ⟨m, rfl⟩ : ∃ l, m = l + 1 := ⟨m - 1, by omega⟩
    have len : ((unitElements bs).map kept).length = 10 := by simp [unitElements_length]
    have nonempty : (unitElements bs).map kept ++ (elements 1 n (bs.drop 16)).map kept ≠ [] := by
      intro h
      simpa [unitElements_length] using congrArg List.length h
    have next := ih m (bs.drop 16) (by omega) (by simp; omega)
    rw [elements_units, List.map_append, unelements, if_neg nonempty, if_neg (by decide)]
    simp only [List.take_left' len, List.drop_left' len]
    rw [unit_bytes bs (by omega), next, Nat.mul_succ, Nat.add_comm (16 * n), List.take_add]

/-! ## The round trip -/

/-- How the elements of a payload divide it: they are well shaped, they number as the decoder counts them, and they and the tail give
the payload again. -/
theorem elements_divide (elem : Nat) (helem : elem < 2) (bs : List Byte) :
    let es := elements elem (if elem = 0 then bs.length / 2 else bs.length / 16) bs
    Shaped (elemWidth elem) elem 0 es ∧ es.length = elemCount elem bs.length ∧
      unelements elem es.length (es.map kept) ++ bs.drop (bs.length - tailCount elem bs.length) = bs := by
  obtain rfl | rfl : elem = 0 ∨ elem = 1 := by omega
  · have len : (elements 0 (bs.length / 2) bs).length = bs.length / 2 := by simp [elements_length]
    have cut : bs.length - bs.length % 2 = 2 * (bs.length / 2) := by omega
    refine ⟨elements_halfwords_shaped _ _ _, len, ?_⟩
    simp only [if_true]
    rw [unelements_halfwords _ _ _ (by omega) (by omega), tailCount, if_pos rfl, cut, List.take_append_drop]
  · have len : (elements 1 (bs.length / 16) bs).length = bs.length / 16 * 10 := by simp [elements_length]
    have cut : bs.length - bs.length % 16 = 16 * (bs.length / 16) := by omega
    refine ⟨elements_units_shaped _ _ _ rfl, len, ?_⟩
    simp only [one_ne_zero, if_false]
    rw [unelements_units _ _ _ (by omega) (by omega), tailCount, if_neg (by decide), cut, List.take_append_drop]

theorem tailCount_le (elem len : Nat) : tailCount elem len ≤ len := by
  unfold tailCount
  split <;> exact Nat.mod_le _ _

/-- Settles O60: the coder's bits unpack to themselves with fewer than 8 zeros behind; every partition reads back, by induction on the
partitions and within one on its elements; and the elements with the tail give the payload again. -/
theorem riceRoundTrip : Obligations.RiceRoundTrip := by
  unfold Obligations.RiceRoundTrip
  intro order _ elem helem stride _ bs
  obtain ⟨shaped, count, whole⟩ := elements_divide elem helem bs
  set es := elements elem (if elem = 0 then bs.length / 2 else bs.length / 16) bs with hes
  set tail := bs.drop (bs.length - tailCount elem bs.length) with htail
  have tailLen : tail.length = tailCount elem bs.length := by
    have := tailCount_le elem bs.length
    simp [htail]
    omega
  have hw : 1 ≤ elemWidth elem := by
    unfold elemWidth
    split <;> decide
  set out := riceParts (elemWidth elem) (es.length + 1) (coded (elemWidth elem) order stride [] es) ++
    tail.flatMap (fun b => bitsOf 8 b.toNat) with hout
  have coder : riceEncode order elem stride bs = packBits out.length out := rfl
  obtain ⟨m, hm, unpacked⟩ := unpackBits_packBits out.length out le_rfl
  have read := riceRead_parts (order := order) (s := stride) hw (es.length + 1) es 0 0 []
    (tail.flatMap (fun b => bitsOf 8 b.toNat) ++ List.replicate m false) (by omega) (fun _ => rfl) shaped
  rw [show seen stride [] = [] by simp [seen], ← List.append_assoc, ← hout, ← unpacked, ← coder, List.append_nil] at read
  have tailRead : takeBits (8 * tail.length) (tail.flatMap (fun b => bitsOf 8 b.toNat) ++ List.replicate m false) =
      some (ofLe tail, List.replicate m false) := by
    have len := flatMap_bytes_length tail
    rw [takeBits, if_neg (by simp [len]), List.take_left' len, List.drop_left' len, ofBits_flatMap_bytes]
  have clean : ¬(8 ≤ (List.replicate m false).length ∨ (List.replicate m false).any id = true) := by
    simp
    omega
  rw [riceDecode]
  simp only [← count, ← tailLen, read, tailRead, if_neg clean, List.reverse_reverse, leBytes_ofLe, whole]

end Sys2Proof.RiceProofs
end

section
/-! PROOFS. What a command leaves as it was: the registers that a work keeps, the stores that it does not touch, and what an entry of
the error log writes. Each update has one rule. -/

namespace Sys2Proof.Effects

open Sys2Proof.Machine

variable {σ : State}

/-! ## The typed state replaced -/

/-- Another typed state, and nothing else. -/
def withDev (w : Work σ) (d : Dev) : Work σ := { w with dev := d }

@[simp] theorem get_withDev (w : Work σ) (d : Dev) (f : Fld) : (withDev w d).get f = w.get f := rfl
@[simp] theorem withDev_dev (w : Work σ) (d : Dev) : (withDev w d).dev = d := rfl
@[simp] theorem withDev_fresh (w : Work σ) (d : Dev) : (withDev w d).fresh = w.fresh := rfl
@[simp] theorem withDev_tl (w : Work σ) (d : Dev) : (withDev w d).tl = w.tl := rfl

/-! ## Registers that a work keeps -/

/-- Every register but the listed ones reads as the command found it. -/
def Keeps (w : Work σ) (fs : List Fld) : Prop := ∀ f : Fld, (∀ g ∈ fs, f.key ≠ g.key) → w.get f = σ.get f

@[simp] theorem keeps_start (s : State) (fs : List Fld) : Keeps (Work.start s) fs := fun f _ => Work.get_start s f

theorem keeps_of_get {w w' : Work σ} {fs : List Fld} (h : ∀ f, (∀ g ∈ fs, f.key ≠ g.key) → w'.get f = w.get f) :
    Keeps w' fs ↔ Keeps w fs :=
  ⟨fun k f hf => (h f hf).symm.trans (k f hf), fun k f hf => (h f hf).trans (k f hf)⟩

@[simp] theorem keeps_set (w : Work σ) (f : Fld) (v : Nat) (fs : List Fld) (hf : f ∈ fs) : Keeps (w.set f v) fs ↔ Keeps w fs :=
  keeps_of_get (fun g hg => Work.get_set_ne w f g v (hg f hf))

@[simp] theorem keeps_setB (w : Work σ) (f : Fld) (b : Bool) (fs : List Fld) (hf : f ∈ fs) : Keeps (w.setB f b) fs ↔ Keeps w fs :=
  keeps_set w f _ fs hf

@[simp] theorem keeps_add (w : Work σ) (f : Fld) (n : Nat) (fs : List Fld) (hf : f ∈ fs) : Keeps (w.add f n) fs ↔ Keeps w fs :=
  keeps_set w f _ fs hf

@[simp] theorem keeps_inc (w : Work σ) (f : Fld) (fs : List Fld) (hf : f ∈ fs) : Keeps (w.inc f) fs ↔ Keeps w fs :=
  keeps_set w f _ fs hf

@[simp] theorem keeps_setBit (w : Work σ) (f : Fld) (i : Nat) (b : Bool) (fs : List Fld) (hf : f ∈ fs) :
    Keeps (w.setBit f i b) fs ↔ Keeps w fs := keeps_set w f _ fs hf

@[simp] theorem keeps_emit (w : Work σ) (o : Out) (fs : List Fld) : Keeps (w.emit o) fs ↔ Keeps w fs := Iff.rfl
@[simp] theorem keeps_fireGen (w : Work σ) (n g : Nat) (b : Bool) (fs : List Fld) : Keeps (w.fireGen n g b) fs ↔ Keeps w fs := Iff.rfl
@[simp] theorem keeps_fire (w : Work σ) (n : Nat) (fs : List Fld) : Keeps (w.fire n) fs ↔ Keeps w fs := Iff.rfl
@[simp] theorem keeps_setTile (w : Work σ) (t : Nat) (x : Tile) (fs : List Fld) : Keeps (w.setTile t x) fs ↔ Keeps w fs := Iff.rfl
@[simp] theorem keeps_updTile (w : Work σ) (t : Nat) (u : Tile → Tile) (fs : List Fld) : Keeps (w.updTile t u) fs ↔ Keeps w fs :=
  Iff.rfl
@[simp] theorem keeps_updLd (w : Work σ) (u : LoaderSt → LoaderSt) (fs : List Fld) : Keeps (w.updLd u) fs ↔ Keeps w fs :=
  Iff.rfl
@[simp] theorem keeps_updDdr (w : Work σ) (c : Nat) (u : DdrSt → DdrSt) (fs : List Fld) : Keeps (w.updDdr c u) fs ↔ Keeps w fs :=
  Iff.rfl
@[simp] theorem keeps_updLink (w : Work σ) (l : Nat) (u : LinkSt → LinkSt) (fs : List Fld) : Keeps (w.updLink l u) fs ↔ Keeps w fs :=
  Iff.rfl
@[simp] theorem keeps_updHk (w : Work σ) (u : HkSt → HkSt) (fs : List Fld) : Keeps (w.updHk u) fs ↔ Keeps w fs :=
  Iff.rfl
@[simp] theorem keeps_updClasp (w : Work σ) (t c : Nat) (u : Clasp → Clasp) (fs : List Fld) : Keeps (w.updClasp t c u) fs ↔ Keeps w fs :=
  Iff.rfl
@[simp] theorem keeps_updTone (w : Work σ) (t e : Nat) (u : Tone → Tone) (fs : List Fld) : Keeps (w.updTone t e u) fs ↔ Keeps w fs :=
  Iff.rfl
@[simp] theorem keeps_updDac (w : Work σ) (t d : Nat) (u : Dac → Dac) (fs : List Fld) : Keeps (w.updDac t d u) fs ↔ Keeps w fs :=
  Iff.rfl
@[simp] theorem keeps_updFlux (w : Work σ) (t e : Nat) (u : Flux → Flux) (fs : List Fld) : Keeps (w.updFlux t e u) fs ↔ Keeps w fs :=
  Iff.rfl
@[simp] theorem keeps_updWatch (w : Work σ) (t d : Nat) (u : Watch → Watch) (fs : List Fld) : Keeps (w.updWatch t d u) fs ↔ Keeps w fs :=
  Iff.rfl
@[simp] theorem keeps_updCtx (w : Work σ) (t c : Nat) (u : TableCtx → TableCtx) (fs : List Fld) : Keeps (w.updCtx t c u) fs ↔ Keeps w fs :=
  Iff.rfl
@[simp] theorem keeps_updCap (w : Work σ) (t : Nat) (u : CapUnit → CapUnit) (fs : List Fld) : Keeps (w.updCap t u) fs ↔ Keeps w fs :=
  Iff.rfl
@[simp] theorem keeps_updSeq (w : Work σ) (t : Nat) (u : SeqSt → SeqSt) (fs : List Fld) : Keeps (w.updSeq t u) fs ↔ Keeps w fs :=
  Iff.rfl
@[simp] theorem keeps_withDev (w : Work σ) (d : Dev) (fs : List Fld) : Keeps (withDev w d) fs ↔ Keeps w fs := Iff.rfl

@[simp] theorem keeps_ite (p : Prop) [Decidable p] (w w' : Work σ) (fs : List Fld) :
    Keeps (if p then w else w') fs ↔ if p then Keeps w fs else Keeps w' fs := by
  split <;> rfl

/-- A work that keeps all but some registers keeps all but more. -/
theorem Keeps.mono {w : Work σ} {fs gs : List Fld} (h : Keeps w fs) (hsub : fs ⊆ gs) : Keeps w gs :=
  fun f hf => h f (fun g hg => hf g (hsub hg))

/-! ## Stores that a work does not touch -/

/-- Neither memory nor flash nor TL has been touched. -/
def Quiet (w : Work σ) : Prop :=
  w.mwipe = [] ∧ w.mlog = [] ∧ w.lost = σ.lost ∧ w.fwipe = [] ∧ w.flog = [] ∧ w.tlc = .keep

@[simp] theorem quiet_start (s : State) : Quiet (Work.start s) := ⟨rfl, rfl, rfl, rfl, rfl, rfl⟩
@[simp] theorem quiet_set (w : Work σ) (f : Fld) (v : Nat) : Quiet (w.set f v) ↔ Quiet w := Iff.rfl
@[simp] theorem quiet_setB (w : Work σ) (f : Fld) (b : Bool) : Quiet (w.setB f b) ↔ Quiet w := Iff.rfl
@[simp] theorem quiet_add (w : Work σ) (f : Fld) (n : Nat) : Quiet (w.add f n) ↔ Quiet w := Iff.rfl
@[simp] theorem quiet_inc (w : Work σ) (f : Fld) : Quiet (w.inc f) ↔ Quiet w := Iff.rfl
@[simp] theorem quiet_setBit (w : Work σ) (f : Fld) (i : Nat) (b : Bool) : Quiet (w.setBit f i b) ↔ Quiet w := Iff.rfl
@[simp] theorem quiet_emit (w : Work σ) (o : Out) : Quiet (w.emit o) ↔ Quiet w := Iff.rfl
@[simp] theorem quiet_fireGen (w : Work σ) (n g : Nat) (b : Bool) : Quiet (w.fireGen n g b) ↔ Quiet w := Iff.rfl
@[simp] theorem quiet_fire (w : Work σ) (n : Nat) : Quiet (w.fire n) ↔ Quiet w := Iff.rfl
@[simp] theorem quiet_setTile (w : Work σ) (t : Nat) (x : Tile) : Quiet (w.setTile t x) ↔ Quiet w := Iff.rfl
@[simp] theorem quiet_updTile (w : Work σ) (t : Nat) (u : Tile → Tile) : Quiet (w.updTile t u) ↔ Quiet w := Iff.rfl
@[simp] theorem quiet_updLd (w : Work σ) (u : LoaderSt → LoaderSt) : Quiet (w.updLd u) ↔ Quiet w := Iff.rfl
@[simp] theorem quiet_updDdr (w : Work σ) (c : Nat) (u : DdrSt → DdrSt) : Quiet (w.updDdr c u) ↔ Quiet w := Iff.rfl
@[simp] theorem quiet_updLink (w : Work σ) (l : Nat) (u : LinkSt → LinkSt) : Quiet (w.updLink l u) ↔ Quiet w := Iff.rfl
@[simp] theorem quiet_updHk (w : Work σ) (u : HkSt → HkSt) : Quiet (w.updHk u) ↔ Quiet w := Iff.rfl
@[simp] theorem quiet_updClasp (w : Work σ) (t c : Nat) (u : Clasp → Clasp) : Quiet (w.updClasp t c u) ↔ Quiet w := Iff.rfl
@[simp] theorem quiet_updTone (w : Work σ) (t e : Nat) (u : Tone → Tone) : Quiet (w.updTone t e u) ↔ Quiet w := Iff.rfl
@[simp] theorem quiet_updDac (w : Work σ) (t d : Nat) (u : Dac → Dac) : Quiet (w.updDac t d u) ↔ Quiet w := Iff.rfl
@[simp] theorem quiet_updFlux (w : Work σ) (t e : Nat) (u : Flux → Flux) : Quiet (w.updFlux t e u) ↔ Quiet w := Iff.rfl
@[simp] theorem quiet_updWatch (w : Work σ) (t d : Nat) (u : Watch → Watch) : Quiet (w.updWatch t d u) ↔ Quiet w := Iff.rfl
@[simp] theorem quiet_updCtx (w : Work σ) (t c : Nat) (u : TableCtx → TableCtx) : Quiet (w.updCtx t c u) ↔ Quiet w := Iff.rfl
@[simp] theorem quiet_updCap (w : Work σ) (t : Nat) (u : CapUnit → CapUnit) : Quiet (w.updCap t u) ↔ Quiet w := Iff.rfl
@[simp] theorem quiet_updSeq (w : Work σ) (t : Nat) (u : SeqSt → SeqSt) : Quiet (w.updSeq t u) ↔ Quiet w := Iff.rfl
@[simp] theorem quiet_withDev (w : Work σ) (d : Dev) : Quiet (withDev w d) ↔ Quiet w := Iff.rfl
@[simp] theorem quiet_ite (p : Prop) [Decidable p] (w w' : Work σ) :
    Quiet (if p then w else w') ↔ if p then Quiet w else Quiet w' := by
  split <;> rfl

theorem Quiet.rd8 {w : Work σ} (h : Quiet w) (a : Nat) : w.rd8 a = σ.byteAt a := by
  obtain ⟨hm, hl, ho, -⟩ := h
  rw [Work.rd8, hm, hl, ho]
  simp [State.byteAt, assoc]

theorem Quiet.fl8 {w : Work σ} (h : Quiet w) (a : Nat) : w.fl8 a = σ.flashAt a := by
  obtain ⟨-, -, -, hf, hg, -⟩ := h
  simp only [Work.fl8, State.flashAt, hf, hg, inRanges_nil, assoc]
  rfl

/-! ## What a work gives out -/

/-- A list given out besides. -/
def emits (w : Work σ) (os : List Out) : Work σ := withDev w { w.dev with out := w.dev.out ++ os }

@[simp] theorem keeps_emits (w : Work σ) (os : List Out) (fs : List Fld) : Keeps (emits w os) fs ↔ Keeps w fs := Iff.rfl
@[simp] theorem quiet_emits (w : Work σ) (os : List Out) : Quiet (emits w os) ↔ Quiet w := Iff.rfl
@[simp] theorem get_emits (w : Work σ) (os : List Out) (f : Fld) : (emits w os).get f = w.get f := rfl
theorem emits_dev (w : Work σ) (os : List Out) : (emits w os).dev = { w.dev with out := w.dev.out ++ os } := rfl

@[simp] theorem fl8_emits (w : Work σ) (os : List Out) (a : Nat) : (emits w os).fl8 a = w.fl8 a := rfl
@[simp] theorem emits_tlc (w : Work σ) (os : List Out) : (emits w os).tlc = w.tlc := rfl
@[simp] theorem emits_fresh (w : Work σ) (os : List Out) : (emits w os).fresh = w.fresh := rfl

theorem emit_eq_emits (w : Work σ) (o : Out) : w.emit o = emits w [o] := rfl

theorem emits_emits (w : Work σ) (a b : List Out) : emits (emits w a) b = emits w (a ++ b) := by
  simp only [emits, withDev, List.append_assoc]

theorem emits_nil (w : Work σ) : emits w [] = w := by simp only [emits, withDev, List.append_nil]

theorem each_emit {α : Type} (w : Work σ) (l : List α) (g : α → Out) : w.each l (fun w x => w.emit (g x)) = emits w (l.map g) := by
  induction l generalizing w with
  | nil => exact (emits_nil w).symm
  | cons x l ih =>
    exact (ih (w.emit (g x))).trans (emits_emits w [g x] (l.map g))

/-! ## Works that write the registers of a set -/

/-- Every register outside the set K reads as it did. -/
def Writes (K : Fld → Prop) (w w' : Work σ) : Prop := ∀ f : Fld, (∀ g, K g → f.key ≠ g.key) → w'.get f = w.get f

section

variable {K : Fld → Prop} {w w' : Work σ}

theorem Writes.refl (w : Work σ) : Writes K w w := fun _ _ => rfl

theorem Writes.set (h : Writes K w w') (f : Fld) (v : Nat) (hf : K f) : Writes K w (w'.set f v) :=
  fun g hg => (Work.get_set_ne _ _ _ _ (hg f hf)).trans (h g hg)

theorem Writes.inc (h : Writes K w w') (f : Fld) (hf : K f) : Writes K w (w'.inc f) := h.set f _ hf

theorem Writes.of_get {w'' : Work σ} (h : Writes K w w') (hg : ∀ f, w''.get f = w'.get f) : Writes K w w'' :=
  fun f hf => (hg f).trans (h f hf)

theorem Writes.fire (h : Writes K w w') (n : Nat) : Writes K w (w'.fire n) := h.of_get (fun f => Work.get_fire w' n f)
theorem Writes.emit (h : Writes K w w') (o : Out) : Writes K w (w'.emit o) := h.of_get (fun f => Work.get_emit w' o f)

theorem Writes.trans {w'' : Work σ} (h : Writes K w w') (h' : Writes K w' w'') : Writes K w w'' :=
  fun f hf => (h' f hf).trans (h f hf)

theorem Writes.mono {K' : Fld → Prop} (h : Writes K w w') (hK : ∀ g, K g → K' g) : Writes K' w w' :=
  fun f hf => h f (fun g hg => hf g (hK g hg))

theorem Writes.ite {p : Prop} [Decidable p] {a b : Work σ} (ha : Writes K w a) (hb : Writes K w b) : Writes K w (if p then a else b) := by
  split
  · exact ha
  · exact hb

theorem Writes.each {α : Type} (h : Writes K w w') (f : Work σ → α → Work σ) (l : List α)
    (hf : ∀ w'' x, x ∈ l → Writes K w w'' → Writes K w (f w'' x)) : Writes K w (w'.each l f) := by
  induction l generalizing w' with
  | nil => exact h
  | cons x l ih => exact ih (hf _ _ List.mem_cons_self h) (fun w'' y hy => hf w'' y (List.mem_cons_of_mem _ hy))

end

/-! ## Works that change tiles and some registers -/

/-- What changing tiles and the registers of a set leaves: every other register, the stores and the rest of the typed state. -/
def TileWork (K : Fld → Prop) (w w' : Work σ) : Prop :=
  (∀ f : Fld, (∀ g, K g → f.key ≠ g.key) → w'.get f = w.get f) ∧ (Quiet w → Quiet w') ∧ w'.fresh = w.fresh ∧
    w'.dev = { w.dev with tiles := w'.dev.tiles }

section

variable {K : Fld → Prop} {w w' : Work σ}

theorem TileWork.refl (w : Work σ) : TileWork K w w := ⟨fun _ _ => rfl, id, rfl, rfl⟩

theorem TileWork.set (h : TileWork K w w') (f : Fld) (v : Nat) (hf : K f) : TileWork K w (w'.set f v) := by
  obtain ⟨hr, hq, hfr, hd⟩ := h
  exact ⟨fun g hg => (Work.get_set_ne _ _ _ _ (hg f hf)).trans (hr g hg), hq, hfr, hd⟩

theorem TileWork.inc (h : TileWork K w w') (f : Fld) (hf : K f) : TileWork K w (w'.inc f) := h.set f _ hf

theorem TileWork.updTile (h : TileWork K w w') (t : Nat) (u : Tile → Tile) : TileWork K w (w'.updTile t u) := by
  obtain ⟨hr, hq, hfr, hd⟩ := h
  exact ⟨hr, hq, hfr, by
    rw [show (w'.updTile t u).dev = { w'.dev with tiles := (w'.updTile t u).dev.tiles } from rfl, hd]⟩

theorem TileWork.ite {p : Prop} [Decidable p] {a b : Work σ} (ha : TileWork K w a) (hb : TileWork K w b) :
    TileWork K w (if p then a else b) := by
  split
  · exact ha
  · exact hb

theorem TileWork.each {α : Type} (h : TileWork K w w') (f : Work σ → α → Work σ) (l : List α)
    (hf : ∀ w'' x, TileWork K w w'' → TileWork K w (f w'' x)) : TileWork K w (w'.each l f) := Work.each_keeps (TileWork K w) f hf l w' h

end

/-! ## Frames of finished works -/

theorem regsBut_finish {w : Work σ} {fs : List Fld} (hs : σ.wf = true) (hk : Keeps w fs) : RegsBut σ w.finish fs :=
  fun f hf => (Work.finish_get w f hs).trans (hk f hf)

theorem storesKept_finish {w : Work σ} (hs : σ.wf = true) (hq : Quiet w) : StoresKept σ w.finish :=
  ⟨fun a => (Work.finish_byteAt w a hs).trans (hq.rd8 a), fun a => (Work.finish_flashAt w a hs).trans (hq.fl8 a)⟩

theorem frame_finish {w : Work σ} {fs : List Fld} (hs : σ.wf = true) (hk : Keeps w fs) (hq : Quiet w) :
    Frame σ w.finish fs := by
  refine ⟨regsBut_finish hs hk, storesKept_finish hs hq, ?_, rfl, rfl⟩
  obtain ⟨-, -, -, -, -, ht⟩ := hq
  rw [Work.finish_tl, ht, Tl.apply_keep]

theorem plain_finish {w : Work σ} {fs : List Fld} (hs : σ.wf = true) (hk : Keeps w fs) (hq : Quiet w)
    (hd : w.dev = { σ.dev with out := w.dev.out }) (hf : w.fresh = σ.fresh) : Plain σ w.finish fs :=
  ⟨frame_finish hs hk hq, hd, hf⟩

theorem leaves_finish {w : Work σ} {fs : List Fld} {d : Dev} (hs : σ.wf = true) (hk : Keeps w fs) (hq : Quiet w)
    (hd : w.dev = d) (hf : w.fresh = σ.fresh) : Leaves σ w.finish fs d :=
  ⟨frame_finish hs hk hq, hd, hf⟩

/-- A command without an occasion leaves all but what the one before it gave out. -/
theorem leaves_start (s : State) (hs : s.wf = true) : Leaves s (Work.start s).finish [] s.view.dev :=
  leaves_finish hs (keeps_start s []) (quiet_start s) rfl rfl

theorem plain_start (s : State) (fs : List Fld) (hs : s.wf = true) : Plain s (Work.start s).finish fs :=
  plain_finish hs (keeps_start s fs) (quiet_start s) rfl rfl

/-! ## Counters -/

theorem get_inc (w : Work σ) (f : Fld) : (w.inc f).get f = min (2 ^ f.width - 1) (w.get f + 1) := by
  have pos : 0 < 2 ^ f.width := by positivity
  rw [Work.get_inc_self, satAdd]
  split <;> rw [Nat.mod_eq_of_lt (by omega)] <;> omega

/-! ## The error log (R455, R457) -/

theorem mem_logFlds_addr (h : Nat) (g : Fld) (hg : g ∈ logFlds h) :
    (g.addr = 0x1010 ∨ g.addr = 0x1018 ∨ (0x1800 ≤ g.addr ∧ g.addr < 0x2000)) ∧ g.lo < 32 := by
  have small : h % 64 < 64 := Nat.mod_lt _ (by decide)
  simp only [logFlds, List.mem_cons, List.not_mem_nil, or_false] at hg
  rcases hg with rfl | rfl | rfl | rfl | rfl | rfl | rfl | rfl | rfl | rfl | rfl | rfl <;>
    simp [DEV_ERRLOG_HEAD, DEV_ERRLOG_LOST, DEV_ERRLOG_W0_KIND, DEV_ERRLOG_W0_PATH, DEV_ERRLOG_W0_TILE, DEV_ERRLOG_W0_DETAIL,
      DEV_ERRLOG_W1, DEV_ERRLOG_W2, DEV_ERRLOG_W4, DEV_ERRLOG_W5, DEV_ERRLOG_W6, DEV_ERRLOG_W7] <;> omega

/-- A field of a register outside the error log is none of those that an entry writes. -/
theorem key_ne_logFlds (f : Fld) (h : Nat) (hlo : f.lo < 32)
    (hf : f.addr < 0x1010 ∨ 0x2000 ≤ f.addr ∨ f.addr = 0x1014) : ∀ g ∈ logFlds h, f.key ≠ g.key := by
  intro g hg heq
  obtain ⟨haddr, hglo⟩ := mem_logFlds_addr h g hg
  simp only [Fld.key] at heq
  omega

/-- An entry of the error log keeps every register but those of its number. -/
theorem get_errlog (w : Work σ) (kind tile detail addr : Nat) (path : Path) (f : Fld)
    (hf : ∀ g ∈ logFlds (w.get DEV_ERRLOG_HEAD), f.key ≠ g.key) : (w.errlog kind path tile detail addr).get f = w.get f := by
  simp only [logFlds, List.mem_cons, List.not_mem_nil, or_false, forall_eq_or_imp, forall_eq] at hf
  obtain ⟨hhead, hlost, hkind, hpath, htile, hdetail, h1, h2, h4, h5, h6, h7⟩ := hf
  unfold Work.errlog
  dsimp only
  split <;>
    simp only [Work.get_fire, Work.get_set_ne _ _ _ _ hhead, Work.get_set_ne _ _ _ _ hkind, Work.get_set_ne _ _ _ _ hpath,
      Work.get_set_ne _ _ _ _ htile, Work.get_set_ne _ _ _ _ hdetail, Work.get_set_ne _ _ _ _ h1, Work.get_set_ne _ _ _ _ h2,
      Work.get_set_ne _ _ _ _ h4, Work.get_set_ne _ _ _ _ h5, Work.get_set_ne _ _ _ _ h6, Work.get_set_ne _ _ _ _ h7,
      Work.get_inc_ne _ _ _ hlost]

theorem get_errlog_of_addr (w : Work σ) (kind tile detail addr : Nat) (path : Path) (f : Fld) (hlo : f.lo < 32)
    (hf : f.addr < 0x1010 ∨ 0x2000 ≤ f.addr ∨ f.addr = 0x1014) : (w.errlog kind path tile detail addr).get f = w.get f :=
  get_errlog w kind tile detail addr path f (key_ne_logFlds f _ hlo hf)

@[simp] theorem get_errlog_head (w : Work σ) (kind tile detail addr : Nat) (path : Path) :
    (w.errlog kind path tile detail addr).get DEV_ERRLOG_HEAD = (w.get DEV_ERRLOG_HEAD + 1) % 2 ^ 32 := by
  simp [Work.errlog, DEV_ERRLOG_HEAD]

/-- What an entry of the error log writes into its words (R457). -/
theorem get_errlog_words (w : Work σ) (kind tile detail addr : Nat) (path : Path) :
    let i := w.get DEV_ERRLOG_HEAD % 64
    let w' := w.errlog kind path tile detail addr
    w'.get (DEV_ERRLOG_W0_KIND i) = kind % 2 ^ 8 ∧ w'.get (DEV_ERRLOG_W0_PATH i) = path.code % 2 ^ 2 ∧
      w'.get (DEV_ERRLOG_W0_TILE i) = tile % 2 ^ 6 ∧ w'.get (DEV_ERRLOG_W1 i) = addr % 2 ^ 32 ∧
      w'.get (DEV_ERRLOG_W7 i) = w.get DEV_ERRLOG_HEAD % 2 ^ 32 := by
  have small : w.get DEV_ERRLOG_HEAD % 64 < 64 := Nat.mod_lt _ (by decide)
  unfold Work.errlog
  dsimp only
  generalize w.get DEV_ERRLOG_HEAD = h at *
  generalize h % 64 = i at *
  refine ⟨?_, ?_, ?_, ?_, ?_⟩ <;>
    simp (disch := (simp only [Fld.key, DEV_ERRLOG_HEAD, DEV_ERRLOG_W0_KIND, DEV_ERRLOG_W0_PATH, DEV_ERRLOG_W0_TILE,
      DEV_ERRLOG_W0_DETAIL, DEV_ERRLOG_W1, DEV_ERRLOG_W2, DEV_ERRLOG_W4, DEV_ERRLOG_W5, DEV_ERRLOG_W6, DEV_ERRLOG_W7]; omega)) only
      [Work.get_fire, Work.get_set_self, Work.get_set_ne] <;> rfl

/-- The entry that a work has made in the error log shows once the work has finished. -/
theorem logged_errlog (w : Work σ) (kind tile detail addr : Nat) (path : Path) (hs : σ.wf = true)
    (hh : w.get DEV_ERRLOG_HEAD = σ.get DEV_ERRLOG_HEAD) (hkind : kind < 2 ^ 8) (htile : tile < 2 ^ 6) :
    Logged σ (w.errlog kind path tile detail addr).finish kind path.code tile addr := by
  obtain ⟨h0, h1, h2, h3, h4⟩ := get_errlog_words w kind tile detail addr path
  have hpath : path.code < 2 ^ 2 := by cases path <;> decide
  rw [hh] at h0 h1 h2 h3 h4
  simp only [Logged, Work.finish_get _ _ hs]
  refine ⟨?_, h0.trans (Nat.mod_eq_of_lt hkind), h1.trans (Nat.mod_eq_of_lt hpath), h2.trans (Nat.mod_eq_of_lt htile), h3, h4⟩
  rw [get_errlog_head, hh]

/-- That entry still shows in a work that reads the same registers. -/
theorem logged_of_get {w w' : Work σ} {kind path tile addr : Nat} (hs : σ.wf = true) (h : Logged σ w.finish kind path tile addr)
    (hg : ∀ f, w'.get f = w.get f) : Logged σ w'.finish kind path tile addr := by
  simp only [Logged, Work.finish_get _ _ hs, hg] at h ⊢
  exact h

theorem fire_dev (w : Work σ) (n : Nat) :
    (w.fire n).dev = { w.dev with held := w.dev.held ++ [⟨n, 0, false, w.now, w.ntLo⟩] } := rfl

/-- An entry of the error log changes nothing of the typed state but that ERRLOG fires. -/
theorem errlog_dev (w : Work σ) (kind tile detail addr : Nat) (path : Path) :
    (w.errlog kind path tile detail addr).dev =
      { w.dev with held := w.dev.held ++ [⟨487, 0, false, w.now, w.ntLo⟩] } := by
  have small : w.get DEV_ERRLOG_HEAD % 64 < 64 := Nat.mod_lt _ (by decide)
  unfold Work.errlog
  dsimp only
  generalize w.get DEV_ERRLOG_HEAD = h at *
  generalize h % 64 = i at *
  split <;>
    simp (disch := (simp only [Fld.key, NT_NOW, hid, hidDev, DEV_ERRLOG_HEAD, DEV_ERRLOG_LOST, DEV_ERRLOG_W0_KIND,
      DEV_ERRLOG_W0_PATH, DEV_ERRLOG_W0_TILE, DEV_ERRLOG_W0_DETAIL, DEV_ERRLOG_W1, DEV_ERRLOG_W2, DEV_ERRLOG_W4, DEV_ERRLOG_W5,
      DEV_ERRLOG_W6, DEV_ERRLOG_W7]; omega)) only
      [fire_dev, Work.set_dev, Work.inc_dev, Work.now, Work.ntLo, Work.set_tl, Work.inc_tl, Work.get_set_ne, Work.get_inc_ne]

theorem keeps_errlog (w : Work σ) (kind tile detail addr : Nat) (path : Path) (fs : List Fld)
    (hf : logFlds (w.get DEV_ERRLOG_HEAD) ⊆ fs) : Keeps (w.errlog kind path tile detail addr) fs ↔ Keeps w fs :=
  keeps_of_get (fun _ hg => get_errlog w kind tile detail addr path _ (fun g h => hg g (hf h)))

@[simp] theorem quiet_errlog (w : Work σ) (kind tile detail addr : Nat) (path : Path) :
    Quiet (w.errlog kind path tile detail addr) ↔ Quiet w := by
  unfold Work.errlog
  dsimp only
  split <;> simp

@[simp] theorem fresh_errlog (w : Work σ) (kind tile detail addr : Nat) (path : Path) :
    (w.errlog kind path tile detail addr).fresh = w.fresh := by
  unfold Work.errlog
  dsimp only
  split <;> simp

/-- A firing at the frame and the network time that the command found. -/
theorem firing_eq (w : Work σ) (src : Nat) (htl : w.tl = σ.tl) (hnt : w.get NT_NOW = σ.get NT_NOW) :
    (⟨src, 0, false, w.now, w.ntLo⟩ : Firing) = σ.firing src := by
  rw [Work.now, Work.ntLo, htl, hnt, State.firing]

/-- An entry of the error log as a command makes it: the entry, the firing of ERRLOG, and nothing else. -/
theorem errlog_effect (w : Work σ) (kind tile detail addr : Nat) (path : Path) (hs : σ.wf = true)
    (hh : w.get DEV_ERRLOG_HEAD = σ.get DEV_ERRLOG_HEAD) (hkind : kind < 2 ^ 8) (htile : tile < 2 ^ 6) :
    ∃ w' : Work σ, w.errlog kind path tile detail addr = w' ∧ Logged σ w'.finish kind path.code tile addr ∧
      (∀ fs, logFlds (σ.get DEV_ERRLOG_HEAD) ⊆ fs → (Keeps w' fs ↔ Keeps w fs)) ∧ (Quiet w' ↔ Quiet w) ∧
      w'.dev = { w.dev with held := w.dev.held ++ [⟨487, 0, false, w.now, w.ntLo⟩] } ∧ w'.fresh = w.fresh :=
  ⟨_, rfl, logged_errlog w kind tile detail addr path hs hh hkind htile,
    fun fs hfs => keeps_errlog w kind tile detail addr path fs (hh ▸ hfs), quiet_errlog w kind tile detail addr path,
    errlog_dev w kind tile detail addr path, fresh_errlog w kind tile detail addr path⟩

end Sys2Proof.Effects
end

section
/-! PROOFS. Reads that latch or clear (R31, R38, R52, R58, R128, R155, R261, R304, R332, R384). -/

namespace Sys2Proof.ReadProofs

open Sys2Proof.Machine Sys2Proof.Effects

/-- A read that sets one register and gives out a value: it gives out the value, the register holds what it can of what was set, and
nothing else changes. -/
theorem answers_latch (c : Instr) (s : State) (hs : s.wf = true) (f : Fld) (v n out : Nat)
    (hc : exec c s = .next (((Work.start s).set f v).emit (.value out)).finish) (hn : v % 2 ^ f.width = n) :
    Answers c s (fun t => t.dev.out = [.value out] ∧ t.get f = n ∧ Plain s t [f]) := by
  refine ⟨_, hc, rfl, ?_, plain_finish hs (by simp) (by simp) rfl rfl⟩
  rw [Work.finish_get _ _ hs, ← hn]
  simp

theorem deviceReadsLatch : Clause.DeviceReadsLatch := by
  intro s hs
  refine ⟨answers_latch _ s hs TIME_TL_HI _ _ _ rfl rfl, answers_latch _ s hs LOADER_POINT_HI _ _ _ ?_ rfl,
    answers_latch _ s hs PTP_DELAY_HI _ _ _ ?_ rfl, answers_latch _ s hs PTP_OFFSET_HI _ _ _ ?_ rfl⟩
  · simp [exec, execPointLoRead, latchPoint, run_eq]
  · simp [exec, execPtpValueLoRead, latchDelay, run_eq]
  · simp [exec, execPtpValueLoRead, latchOffset, run_eq]

theorem get_seqA_latch (s : State) (hs : s.wf = true) (u i b n : Nat) (o : Out) :
    let t := ((((Work.start s).set (QT_SEQ_B u i) b).set (QT_FILL u i) n).emit o).finish
    t.get (QT_SEQ_B u i) = b % 2 ^ 32 ∧ t.get (QT_FILL u i) = n % 2 ^ 25 ∧ Plain s t [QT_SEQ_B u i, QT_FILL u i] := by
  have hne : (QT_SEQ_B u i).key ≠ (QT_FILL u i).key := by
    simp only [Fld.key, QT_SEQ_B, QT_FILL]
    omega
  refine ⟨?_, ?_, plain_finish hs (by simp) (by simp) rfl rfl⟩
  · rw [Work.finish_get _ _ hs, Work.get_emit, Work.get_set_ne _ _ _ _ hne, Work.get_set_self]
    rfl
  · rw [Work.finish_get _ _ hs, Work.get_emit, Work.get_set_self]
    rfl

theorem tileReadsLatch : Clause.TileReadsLatch := by
  intro s hs u
  refine ⟨answers_latch _ s hs (CLASP_CURSOR_HI u) _ _ _ rfl rfl,
    fun n => answers_latch _ s hs (DSP_ACC_HI_ACC_HI u n) _ _ _ ?_ rfl,
    fun k => answers_latch _ s hs (RD_LAST_TL_HI u k) _ _ _ ?_ rfl, answers_latch _ s hs (CAP_DEAD_HI u) _ _ _ ?_ rfl,
    answers_latch _ s hs (CAP_LAST_W_HI u) _ _ _ ?_ rfl, fun i => ?_⟩
  · simp [exec, execAccLoRead, latchAcc, run_eq]
  · simp [exec, execLastTlLoRead, latchLastTl, run_eq]
  · simp [exec, execDeadLoRead, latchDead, run_eq]
  · simp [exec, execLastWLoRead, latchLastW, run_eq]
  · obtain ⟨hb, hfill, hplain⟩ := get_seqA_latch s hs u i (s.get (QTAIL u i))
      (if 256 ≤ i.val ∧ i.val < 289 then (stagedFor (s.tile u) (i - 256)).length else qFill s.view u i) (.value (s.get (QT_SEQ_A u i)))
    exact ⟨_, by simp only [exec, execSeqARead, latchSeqA, run_eq, Work.get_start], rfl, hb, hfill, hplain⟩

/-- A read of DEV.FABRIC once it reports: the cycle as measured shows, and the longest is given out and cleared. -/
theorem fabricRead_measured (s : State) (ps longest : Nat) (hstorm : s.get THERM_STORM_TRIPPED = 0) (hup : s.get FABRIC_UP ≠ 0)
    (hps : ps < 1024) :
    fabricRead (Work.start s) ps longest =
      ((fabricMeasure (Work.start s) ps longest).set DEV_FABRIC_CYCLE_MAX_PS 0).emit
        (.value (max (max ps longest) (s.get DEV_FABRIC_CYCLE_MAX_PS) % 2 ^ 10 * 2 ^ DEV_FABRIC_CYCLE_MAX_PS.lo +
          ps * 2 ^ DEV_FABRIC_CYCLE_PS.lo)) := by
  have hne : DEV_FABRIC_CYCLE_PS.key ≠ DEV_FABRIC_CYCLE_MAX_PS.key := by decide
  have measured : ¬((Work.start s).on THERM_STORM_TRIPPED = true ∨ (!(Work.start s).on FABRIC_UP) = true) := by
    simp [Work.on, hstorm, hup]
  have cycle : ps % 2 ^ DEV_FABRIC_CYCLE_PS.width = ps := Nat.mod_eq_of_lt hps
  rw [fabricRead, if_neg measured]
  simp only [fabricMeasure, Work.get_set_self, Work.get_set_ne _ _ _ _ hne, Work.get_start, cycle]
  rfl

theorem readsClear : Clause.ReadsClear := by
  intro s hs
  refine ⟨fun u => answers_latch _ s hs (CLASP_LOW_WATER u) (CLASP_LOW_WATER u).reset _ _ ?_ rfl, fun ps longest hup => ?_, fun ps longest hstorm hup => ?_⟩
  · simp [exec, execLowWaterRead, run_eq]
  · obtain ⟨t, ht, hout, hget, hplain⟩ := answers_latch (.fabricRead ps longest) s hs DEV_FABRIC_CYCLE_MAX_PS 0 0
      (s.get DEV_FABRIC_CYCLE_MAX_PS * 2 ^ DEV_FABRIC_CYCLE_MAX_PS.lo + s.get DEV_FABRIC_CYCLE_PS * 2 ^ DEV_FABRIC_CYCLE_PS.lo)
      (by simp [exec, execFabricRead, fabricRead, run_eq, Work.on, hup]; rfl) rfl
    exact ⟨t, ht, hget, hout, hplain⟩
  · have hne : DEV_FABRIC_CYCLE_PS.key ≠ DEV_FABRIC_CYCLE_MAX_PS.key := by decide
    refine ⟨_, by rw [exec, execFabricRead, run_eq, fabricRead_measured s ps longest hstorm hup ps.isLt], ?_, ?_, rfl,
      plain_finish hs (by simp [fabricMeasure]) (by simp [fabricMeasure]) rfl rfl⟩
    · rw [Work.finish_get _ _ hs, Work.get_emit, Work.get_set_ne _ _ _ _ hne, fabricMeasure, Work.get_set_ne _ _ _ _ hne,
        Work.get_set_self]
      exact Nat.mod_eq_of_lt ps.isLt
    · rw [Work.finish_get _ _ hs, Work.get_emit, Work.get_set_self]
      rfl

/-- Settles O1: each read sets the register that it latches or clears and gives out what it found. -/
theorem registerReads : Obligations.RegisterReads := ⟨deviceReadsLatch, tileReadsLatch, readsClear⟩

end Sys2Proof.ReadProofs
end

section
/-! PROOFS. The maintenance ports and single-register writes (R6, R9, R30, R443, R471, R472). -/

namespace Sys2Proof.PortProofs

open Sys2Proof.Machine Sys2Proof.Effects

variable {σ : State}

/-! ## Bytes and their numbers -/

theorem ofLe_leBytes (n v : Nat) : ofLe (leBytes n v) = v % 256 ^ n := by
  induction n generalizing v with
  | zero => simp [leBytes, ofLe, Nat.mod_one]
  | succ n ih => rw [leBytes, ofLe, ih, BitVec.toNat_ofNat, show 256 ^ (n + 1) = 256 * 256 ^ n from Nat.pow_succ', Nat.mod_mul]

@[simp] theorem leBytes_length (n v : Nat) : (leBytes n v).length = n := by
  induction n generalizing v with
  | zero => rfl
  | succ n ih => simp [leBytes, ih]

theorem leBytes_getD (n v i : Nat) (hi : i < n) : (leBytes n v).getD i 0 = BitVec.ofNat 8 (v / 256 ^ i) := by
  induction n generalizing v i with
  | zero => omega
  | succ n ih =>
    cases i with
    | zero => simp [leBytes]
    | succ i =>
      rw [leBytes, List.getD_cons_succ, ih _ _ (by omega), Nat.div_div_eq_div_mul, ← Nat.pow_succ']

theorem crcBits_lt (width poly n v c : Nat) (hp : poly < 2 ^ width) (hc : c < 2 ^ width) : crcBits width poly n v c < 2 ^ width := by
  induction n generalizing c with
  | zero => exact hc
  | succ n ih =>
    refine ih _ ?_
    have low : c * 2 % 2 ^ width < 2 ^ width := Nat.mod_lt _ (by positivity)
    simp only [crcBit]
    split
    · exact Nat.xor_lt_two_pow low hp
    · exact low

/-- R283: the CRC-8 of bytes fits one byte. -/
theorem crc8_lt (bs : List Byte) : crc8 bs < 2 ^ 8 := by
  have bytes : ∀ c < 2 ^ 8, bs.foldl (fun c b => crcBits 8 0x07 8 b.toNat c) c < 2 ^ 8 := by
    induction bs with
    | nil => exact fun c hc => hc
    | cons b bs ih => exact fun c hc => ih _ (crcBits_lt 8 0x07 8 _ c (by decide) hc)
  exact bytes 0 (by decide)

/-! ## Plain writes (R9) -/

/-- A field that a write does not take changes nothing. -/
theorem writeField_cases (w : Work σ) (v : Nat) (f : FieldAcc) : writeField w v f = w ∨ ∃ x, writeField w v f = w.set f.fld x := by
  unfold writeField
  cases f.acc
  case rw => exact .inr ⟨_, rfl⟩
  case w1c => exact .inr ⟨_, rfl⟩
  all_goals exact .inl rfl

/-- What sets of a register's fields leave: the stores, the typed state and every other register. -/
def OnlyFields (fs : List Fld) (w w' : Work σ) : Prop :=
  (∀ gs, fs ⊆ gs → (Keeps w' gs ↔ Keeps w gs)) ∧ (Quiet w' ↔ Quiet w) ∧ w'.dev = w.dev ∧ w'.fresh = w.fresh

theorem writeFields_only (w : Work σ) (v : Nat) (fs : List FieldAcc) :
    OnlyFields (fs.map (fun x => x.fld)) w (writeFields w v fs) := by
  induction fs generalizing w with
  | nil => exact ⟨fun _ _ => Iff.rfl, Iff.rfl, rfl, rfl⟩
  | cons f fs ih =>
    obtain ⟨hk, hq, hd, hf⟩ := ih (writeField w v f)
    rcases writeField_cases w v f with h | ⟨x, h⟩ <;> rw [h] at hk hq hd hf
    · exact ⟨fun gs hgs => by rw [← hk gs (fun g hg => hgs (List.mem_cons_of_mem _ hg))]; simp [writeFields, Work.each, h],
        by rw [← hq]; simp [writeFields, Work.each, h], by rw [← hd]; simp [writeFields, Work.each, h],
        by rw [← hf]; simp [writeFields, Work.each, h]⟩
    · refine ⟨fun gs hgs => ?_, ?_, ?_, ?_⟩
      · rw [← keeps_set w f.fld x gs (hgs List.mem_cons_self), ← hk gs (fun g hg => hgs (List.mem_cons_of_mem _ hg))]
        simp [writeFields, Work.each, h]
      · rw [← quiet_set w f.fld x, ← hq]
        simp [writeFields, Work.each, h]
      · rw [show w.dev = (w.set f.fld x).dev from rfl, ← hd]
        simp [writeFields, Work.each, h]
      · rw [show w.fresh = (w.set f.fld x).fresh from rfl, ← hf]
        simp [writeFields, Work.each, h]

/-- Whether a list of cases has none that applies says nothing of what they would do. -/
theorem firstCase_none_iff {α : Type} (l : List (Bool × (Unit → Option α))) (h : ∀ c ∈ l, c.2 () ≠ none) :
    firstCase (fun _ => none) l = none ↔ ∀ c ∈ l, c.1 = false := by
  induction l with
  | nil => simp [firstCase]
  | cons c l ih =>
    obtain ⟨b, f⟩ := c
    have hrest : ∀ c ∈ l, c.2 () ≠ none := fun c hc => h c (List.mem_cons_of_mem _ hc)
    cases b with
    | false => simpa [firstCase] using ih hrest
    | true => simpa [firstCase] using h (true, f) List.mem_cons_self

section NoAction

variable (w : Work σ) (path : Path) (a v : Nat) (p q : Unit → Work σ)

theorem coreWrite_none (h : coreWrite w path a v p = none) : coreWrite w path a v q = none := by
  unfold coreWrite at h ⊢
  rw [firstCase_none_iff _ (by simp)] at h ⊢
  simpa using h

theorem houseWrite_none (h : houseWrite w path a v p = none) : houseWrite w path a v q = none := by
  unfold houseWrite at h ⊢
  rw [firstCase_none_iff _ (by simp)] at h ⊢
  simpa using h

theorem laneLinkWrite_none (h : laneLinkWrite w path a v p = none) : laneLinkWrite w path a v q = none := by
  unfold laneLinkWrite at h ⊢
  rw [firstCase_none_iff _ (by simp)] at h ⊢
  simpa using h

theorem portWrite_none (h : portWrite w path a v p = none) : portWrite w path a v q = none := by
  unfold portWrite at h ⊢
  rw [firstCase_none_iff _ (by simp)] at h ⊢
  simpa using h

end NoAction

/-- R9: a write to a device register to which no rule attaches an action writes its fields. -/
theorem mapWrite_plain (w : Work σ) (path : Path) (a v : Nat) (ok : Bool) (fs : List FieldAcc) (halign : a % 4 = 0) (ha : a < 0x1000000)
    (hreg : regAt a = some fs) (hstaged : isStaged w a = false) (p : Unit → Work σ) (hcore : coreWrite w path a v p = none)
    (hhouse : houseWrite w path a v p = none) (hlane : laneLinkWrite w path a v p = none) (hport : portWrite w path a v p = none) :
    mapWrite w path a v ok = (.ok, writeFields w v fs) := by
  have place : placeOf a = .reg := by rw [placeOf, if_neg (by omega), if_pos ha]
  have plain : devWrite w path a v fs = writeFields w v fs := by
    simp only [devWrite, coreWrite_none w path a v p _ hcore, houseWrite_none w path a v p _ hhouse,
      laneLinkWrite_none w path a v p _ hlane, portWrite_none w path a v p _ hport, Option.getD_none]
  have same : ¬rejections w < rejections (writeFields w v fs) := by
    rw [rejections, rejections, (writeFields_only w v fs).2.2.1]
    omega
  simp only [mapWrite, place, regPut, hreg, hstaged, Bool.false_eq_true, if_false, if_pos ha, plain, if_neg same]

@[simp] theorem keeps_updPort (w : Work σ) (u : PortSt → PortSt) (fs : List Fld) : Keeps (w.updPort u) fs ↔ Keeps w fs := Iff.rfl
@[simp] theorem get_updPort (w : Work σ) (u : PortSt → PortSt) (f : Fld) : (w.updPort u).get f = w.get f := rfl
@[simp] theorem quiet_updPort (w : Work σ) (u : PortSt → PortSt) : Quiet (w.updPort u) ↔ Quiet w := Iff.rfl

theorem viaPath_reach (path : Path) (a : Nat) (ha : a < 0x1000000) : pathReach path a = true := by simp [pathReach, ha]

/-! ## The management target (R471) -/

/-- R471: the target takes the data of a block write, with a PEC that holds or without. -/
theorem mgtBlock_busBytes (code n : Nat) (pec : Bool) (data : List Byte) (hdata : data.length = n) :
    mgtBlock code n (busBytes pec ([0xB4, BitVec.ofNat 8 code, BitVec.ofNat 8 n] ++ data)) = some data := by
  have addr : mgtBusAddr false = 0xB4 := by decide
  have check := Nat.mod_eq_of_lt (crc8_lt ([0xB4, BitVec.ofNat 8 code, BitVec.ofNat 8 n] ++ data))
  have whole : ([0xB4, BitVec.ofNat 8 code, BitVec.ofNat 8 n] ++ data : List Byte).length = 3 + n := by simp [hdata]; omega
  cases pec with
  | false =>
    rw [mgtBlock, if_pos]
    · simp [busBytes, slice, ← hdata]
    · simp [busBytes, addr, hdata]
      omega
  | true =>
    rw [mgtBlock, if_pos]
    · simp [busBytes, slice, ← hdata]
    · refine ⟨by simp [busBytes, addr], .inr ⟨by simp [busBytes, hdata]; omega, ?_⟩⟩
      simp only [busBytes, if_true, slice]
      rw [List.drop_left' whole, List.take_left' whole]
      simp [ofLe] at check ⊢
      omega

theorem mgtBlock_none (code n : Nat) (bus : List Byte) (h : bus.take 3 ≠ [mgtBusAddr false, BitVec.ofNat 8 code, BitVec.ofNat 8 n]) :
    mgtBlock code n bus = none := by
  rw [mgtBlock, if_neg]
  exact fun hh => h hh.1

theorem mgtLive_on (s : State) (h : s.get DEV_STATUS_REFCLK_OK ≠ 0) (f : Work s → Work s) :
    mgtLive (Work.start s) f = f (Work.start s) := by simp [mgtLive, Work.on, h]

theorem mgtLive_off (s : State) (h : s.get DEV_STATUS_REFCLK_OK = 0) (f : Work s → Work s) :
    mgtLive (Work.start s) f = Work.start s := by simp [mgtLive, Work.on, h]

theorem plainWrites : Clause.PlainWrites := by
  intro s hs a v f fs halign ha hreg hstaged hnone
  have write : ∀ path ok, mapWrite s.view path a.toNat v.toNat ok = (.ok, writeFields s.view v.toNat (f :: fs)) := fun path ok => by
    obtain ⟨hcore, hhouse, hlane, hport⟩ := hnone path
    exact mapWrite_plain _ path _ _ ok _ halign ha hreg hstaged _ hcore hhouse hlane hport
  obtain ⟨hk, hq, hd, hf⟩ := writeFields_only s.view v.toNat (f :: fs)
  have keeps := (hk _ (List.Subset.refl _)).2 (keeps_start s _)
  refine ⟨fun hlow via ok => ?_, fun hclk haddr pec => ?_⟩
  · refine ⟨(writeFields s.view v.toNat (f :: fs)).finish, ?_, fun g => Work.finish_get _ _ hs,
      plain_finish hs keeps (hq.2 (quiet_start s)) ?_ hf⟩
    · have low : ¬(Work.start s).on PORESET_LOW = true := by simp [Work.on, hlow]
      rw [exec, execRegisterWrite, run_eq, pathWrite, if_neg low, if_pos (viaPath_reach _ _ ha), write]
    · rw [hd]
      rfl
  · have data : ofLe (leBytes 4 v.toNat) = v.toNat := by rw [ofLe_leBytes]; exact Nat.mod_eq_of_lt v.isLt
    refine ⟨(mgtAfter (writeFields s.view v.toNat (f :: fs)) false false).finish, ?_, fun g => Work.finish_get _ _ hs,
      leaves_finish hs ((keeps_updPort _ _ _).2 keeps) ((quiet_updPort _ _).2 (hq.2 (quiet_start s))) ?_ hf⟩
    · have block := mgtBlock_busBytes 0x02 4 pec (leBytes 4 v.toNat) (leBytes_length 4 _)
      have reach : pathReach .mgt a.toNat = true := viaPath_reach _ _ ha
      rw [exec, execMgtWrite, run_eq, mgtLive_on s hclk]
      simp only [show busBytes pec ([0xB4, 0x02, 0x04] ++ leBytes 4 v.toNat) =
        busBytes pec ([0xB4, BitVec.ofNat 8 0x02, BitVec.ofNat 8 4] ++ leBytes 4 v.toNat) from rfl, block, data, mgtWrite, reach,
        if_true, Work.start_dev, haddr, write]
      rfl
    · rw [mgtAfter, Work.updPort, hd, show s.view.dev.port = s.dev.port from rfl, haddr]

/-! ## MEM_ACCESS (R472) -/

theorem drValue_toNat (op : Nat) (hop : op < 4) (a : BitVec 40) (v : BitVec 32) :
    (drValue op a v).toNat = op + a.toNat * 2 ^ 2 + v.toNat * 2 ^ 42 := by
  have ha := a.isLt
  have hv := v.isLt
  rw [drValue, BitVec.toNat_ofNat, Nat.mod_eq_of_lt]
  omega

theorem drValue_fields (op : Nat) (hop : op < 4) (a : BitVec 40) (v : BitVec 32) :
    (drValue op a v).toNat % 4 = op ∧ bits (drValue op a v).toNat 2 40 = a.toNat ∧ bits (drValue op a v).toNat 42 32 = v.toNat := by
  have ha := a.isLt
  have hv := v.isLt
  rw [drValue_toNat op hop, bits, bits]
  omega

/-- A word that a memory takes: its four bytes, little-endian, and no other. -/
theorem wrLe_bytes (s : State) (w : Work s) (a v : Nat) (hw : ∀ b, w.rd8 b = s.byteAt b) :
    (∀ i : Fin 4, (w.wrLe a 4 v).rd8 (a + i) = BitVec.ofNat 8 (v / 256 ^ i.val)) ∧
      ∀ b, ¬(a ≤ b ∧ b < a + 4) → (w.wrLe a 4 v).rd8 b = s.byteAt b := by
  refine ⟨fun i => ?_, fun b hb => ?_⟩
  · have hi := i.isLt
    rw [Work.wrLe, Work.rd8_wrBytes, leBytes_length, if_pos (by omega), Nat.add_sub_cancel_left, leBytes_getD _ _ _ hi]
  · rw [Work.wrLe, Work.rd8_wrBytes, leBytes_length, if_neg hb, hw]

/-- What a write to memory leaves beside the bytes: the rest of the stores, the registers and the typed state. -/
theorem wrLe_keeps (w : Work σ) (a n v : Nat) (fs : List Fld) (h : Keeps w fs) : Keeps (w.wrLe a n v) fs :=
  fun f hf => (Work.get_wrBytes w a _ f).trans (h f hf)

theorem wrBytes_flash (w : Work σ) (a : Nat) (bs : List Byte) :
    (w.wrBytes a bs).fwipe = w.fwipe ∧ (w.wrBytes a bs).flog = w.flog ∧ (w.wrBytes a bs).tlc = w.tlc ∧
      (w.wrBytes a bs).fresh = w.fresh := by
  induction bs generalizing w a with
  | nil => exact ⟨rfl, rfl, rfl, rfl⟩
  | cons b bs ih => exact ih (w.wr8 a b) (a + 1)

/-- The rest of a state after a word was stored by a work that had done nothing else than change the typed state. -/
theorem finish_wrLe (s : State) (hs : s.wf = true) (d : Dev) (a v : Nat) :
    let t := ((withDev (Work.start s) d).wrLe a 4 v).finish
    (∀ i : Fin 4, t.byteAt (a + i) = BitVec.ofNat 8 (v / 256 ^ i.val)) ∧ MemBut s t a 4 ∧ RegsBut s t [] ∧
      (∀ b, t.flashAt b = s.flashAt b) ∧ t.tl = s.tl ∧ t.fuse = s.fuse ∧ t.pending = s.pending ∧ t.dev = d := by
  obtain ⟨bytes, others⟩ := wrLe_bytes s (withDev (Work.start s) d) a v (Work.rd8_start s)
  obtain ⟨hfw, hfl, htl, -⟩ := wrBytes_flash (withDev (Work.start s) d) a (leBytes 4 v)
  refine ⟨fun i => ?_, fun b hb => ?_, regsBut_finish hs (wrLe_keeps _ _ _ _ _ (keeps_start s [])), fun b => ?_, ?_, rfl, rfl, ?_⟩
  · rw [Work.finish_byteAt _ _ hs, bytes]
  · rw [Work.finish_byteAt _ _ hs, others b hb]
  · rw [Work.finish_flashAt _ _ hs, Work.fl8, Work.wrLe, hfw, hfl]
    rfl
  · rw [Work.finish_tl, Work.wrLe, htl]
    rfl
  · rw [Work.finish_dev, Work.wrLe, Work.wrBytes_dev]
    rfl

/-- R472: outside EXTEST the TAP takes an instruction and drives no ball. -/
theorem tapHold_start (s : State) (htap : s.dev.port.tap ≠ .extest) (i : TapInstr) :
    tapHold (Work.start s) i = (Work.start s).updPort (fun p => { p with tap := i }) := by
  have was : ¬((Work.start s).dev.port.tap = .extest ∧ i ≠ .extest) := fun h => htap h.1
  rw [tapHold]
  simp only [if_neg was]

theorem low_withDev (s : State) (h : s.get PORESET_LOW = 0) (d : Dev) : ¬(withDev (Work.start s) d).on PORESET_LOW = true := by
  have same : (withDev (Work.start s) d).on PORESET_LOW = (Work.start s).on PORESET_LOW := rfl
  rw [same]
  simp [Work.on, h]

/-- The typed state when the TAP holds MEM_ACCESS and a scan has given out what the port had captured. -/
def scanned (s : State) : Dev :=
  { s.view.dev with out := [captured s.dev.port], port := { s.dev.port with tap := .memAccess } }

theorem memScan_access (s : State) (htap : s.dev.port.tap ≠ .extest) (dr : Nat) (ok : Bool) :
    memScan (tapSelect (Work.start s) 0x20) dr ok = memAccess (withDev (Work.start s) (scanned s)) dr ok := by
  rw [tapSelect, if_neg (by decide), if_neg (by decide), if_pos rfl, tapHold_start s htap]
  rfl

theorem memAccess_read (w : Work σ) (dr : Nat) (ok : Bool) (a : Nat) (hop : dr % 4 = 1) (ha : bits dr 2 40 = a)
    (hlow : ¬w.on PORESET_LOW = true) (hmem : placeOf a = .mem) :
    memAccess w dr ok = w.updPort (fun p => { p with jtagAddr := a, jtagData := w.rdLe a 4, jtagBad := false }) := by
  unfold memAccess
  simp only [hop, ha, if_neg hlow, mapRead, hmem]
  rfl

theorem memAccess_write (w : Work σ) (dr : Nat) (ok : Bool) (a v : Nat) (hop : dr % 4 = 2) (ha : bits dr 2 40 = a)
    (hv : bits dr 42 32 = v) (hlow : ¬w.on PORESET_LOW = true) (hmem : placeOf a = .mem) :
    memAccess w dr ok = (w.wrLe a 4 v).updPort (fun p => { p with
      jtagAddr := a, jtagData := (w.wrLe a 4 v).dev.port.jtagData, jtagBad := false }) := by
  unfold memAccess
  simp only [hop, ha, hv, if_neg hlow, mapWrite, hmem]
  rfl

theorem memAccess_none (w : Work σ) (dr : Nat) (ok : Bool) (hop : dr % 4 ≠ 1 ∧ dr % 4 ≠ 2) : memAccess w dr ok = w := by
  simp only [memAccess, if_pos hop]

/-- A scan under an opcode of no instruction selects BYPASS. -/
theorem tapSelect_other (s : State) (htap : s.dev.port.tap ≠ .extest) (ir : BitVec 8) (h0 : ir ≠ 0x00) (h1 : ir ≠ 0x01) (h20 : ir ≠ 0x20) :
    tapSelect (Work.start s) ir.toNat = (Work.start s).updPort (fun p => { p with tap := .bypass }) := by
  have other : ∀ k : BitVec 8, ir ≠ k → ir.toNat ≠ k.toNat := fun k h e => h (BitVec.eq_of_toNat_eq e)
  have h0' : ir.toNat ≠ 0x00 := other 0x00 h0
  have h1' : ir.toNat ≠ 0x01 := other 0x01 h1
  have h20' : ir.toNat ≠ 0x20 := other 0x20 h20
  rw [tapSelect, if_neg h0', if_neg h1', if_neg h20', tapHold_start s htap]

theorem exec_memRead (s : State) (htap : s.dev.port.tap ≠ .extest) (dr : BitVec 74) (ok : Bool) :
    exec (.jtagMemRead 0x20 dr ok) s = .next (memAccess (withDev (Work.start s) (scanned s)) dr.toNat ok).finish := by
  rw [exec, execJtagMemRead, run_eq, show (0x20 : BitVec 8).toNat = 0x20 from rfl, memScan_access s htap]

theorem exec_memWrite (s : State) (htap : s.dev.port.tap ≠ .extest) (dr : BitVec 74) (ok : Bool) :
    exec (.jtagMemWrite 0x20 dr ok) s = .next (memAccess (withDev (Work.start s) (scanned s)) dr.toNat ok).finish := by
  rw [exec, execJtagMemWrite, run_eq, show (0x20 : BitVec 8).toNat = 0x20 from rfl, memScan_access s htap]

theorem memoryAccess : Clause.MemoryAccess := by
  intro s hs hlow a hmem
  have low := low_withDev s hlow
  refine ⟨fun htap v ok => ⟨⟨_, exec_memRead s htap _ ok, ?_⟩, ⟨_, exec_memWrite s htap _ ok, ?_⟩, fun op hop =>
    ⟨_, exec_memRead s htap _ ok, ?_⟩, fun ir dr h0 h1 h20 => ?_⟩, fun v via ok hvia => ?_⟩
  · obtain ⟨hop, ha, -⟩ := drValue_fields 1 (by decide) a v
    rw [memAccess_read _ _ ok a.toNat hop ha (low (scanned s)) hmem]
    exact leaves_finish hs (keeps_start s []) (quiet_start s) rfl rfl
  · obtain ⟨hop, ha, hv⟩ := drValue_fields 2 (by decide) a v
    obtain ⟨hbytes, hbut, hregs, hflash, htl, hfuse, hpend, hdev⟩ := finish_wrLe s hs (scanned s) a.toNat v.toNat
    have dev : ((withDev (Work.start s) (scanned s)).wrLe a.toNat 4 v.toNat).dev = scanned s := hdev
    rw [memAccess_write _ _ ok a.toNat v.toNat hop ha hv (low (scanned s)) hmem]
    refine ⟨hbytes, hbut, hregs, hflash, htl, hfuse, hpend, ?_⟩
    rw [Work.finish_dev, Work.updPort, dev]
    rfl
  · obtain ⟨hmod, -, -⟩ := drValue_fields op (by omega) a v
    rw [memAccess_none (withDev (Work.start s) (scanned s)) (drValue op a v).toNat ok (by omega)]
    exact leaves_finish hs (keeps_start s []) (quiet_start s) rfl rfl
  · refine ⟨_, by rw [exec, execJtagMemRead, run_eq], ?_⟩
    rw [tapSelect_other s htap ir h0 h1 h20]
    exact leaves_finish hs (keeps_start s []) (quiet_start s) rfl rfl
  · have reach : pathReach (viaPath via) a.toNat = true := by
      cases via with
      | genond => rfl
      | mgt => exact absurd rfl hvia
      | jtag => rfl
    have write : pathWrite (Work.start s) (viaPath via) a.toNat v.toNat ok = (Work.start s).wrLe a.toNat 4 v.toNat := by
      have keep : ¬(Work.start s).on PORESET_LOW = true := low s.view.dev
      simp only [pathWrite, if_neg keep, if_pos reach, mapWrite, hmem]
    exact ⟨_, by rw [exec, execRegisterWrite, run_eq, write]; rfl, finish_wrLe s hs s.view.dev a.toNat v.toNat⟩

/-- Settles O2: a plain write sets the fields of its register, and an access to memory reads or stores one word. -/
theorem registerWrites : Obligations.RegisterWrites := ⟨plainWrites, memoryAccess⟩


/-! ## The transactions of the management target (R471) -/

theorem mgtAddr_false : mgtBusAddr false = 0xB4 := by decide

theorem mgtReads_iff (code : Nat) (bus : List Byte) : mgtReads code bus = true ↔ bus = [0xB4, BitVec.ofNat 8 code, 0xB5] := by
  have read : mgtBusAddr true = 0xB5 := by decide
  rw [mgtReads, decide_eq_true_iff, mgtAddr_false, read]

/-- A command that leaves its work as it started. -/
theorem answers_idle (c : Instr) (s : State) (hs : s.wf = true) (hc : exec c s = .next (Work.start s).finish) :
    Answers c s (fun t => Leaves s t [] s.view.dev) := ⟨_, hc, leaves_start s hs⟩

theorem mgt_without_refclk (s : State) (hs : s.wf = true) (h : s.get DEV_STATUS_REFCLK_OK = 0) (c : List Byte → Instr) (bus : List Byte)
    (hc : c ∈ [Instr.mgtSetAddress, Instr.mgtWrite, Instr.mgtRead, Instr.mgtStatus]) :
    Answers (c bus) s (fun t => Leaves s t [] s.view.dev) := by
  simp only [List.mem_cons, List.not_mem_nil, or_false] at hc
  rcases hc with rfl | rfl | rfl | rfl <;> refine answers_idle _ s hs ?_
  · rw [exec, execMgtSetAddress, run_eq, mgtLive_off s h]
  · rw [exec, execMgtWrite, run_eq, mgtLive_off s h]
  · rw [exec, execMgtRead, run_eq, mgtLive_off s h]
  · rw [exec, execMgtStatus, run_eq, mgtLive_off s h]

theorem mgt_other (s : State) (hs : s.wf = true) (h : s.get DEV_STATUS_REFCLK_OK ≠ 0) (bus : List Byte) :
    (bus.take 3 ≠ [0xB4, 0x01, 0x05] → Answers (.mgtSetAddress bus) s (fun t => Leaves s t [] s.view.dev)) ∧
    (bus.take 3 ≠ [0xB4, 0x02, 0x04] → Answers (.mgtWrite bus) s (fun t => Leaves s t [] s.view.dev)) ∧
    (bus ≠ [0xB4, 0x03, 0xB5] → Answers (.mgtRead bus) s (fun t => Leaves s t [] s.view.dev)) ∧
    (bus ≠ [0xB4, 0x04, 0xB5] → Answers (.mgtStatus bus) s (fun t => Leaves s t [] s.view.dev)) := by
  refine ⟨fun hb => answers_idle _ s hs ?_, fun hb => answers_idle _ s hs ?_, fun hb => answers_idle _ s hs ?_,
    fun hb => answers_idle _ s hs ?_⟩
  · rw [exec, execMgtSetAddress, run_eq, mgtLive_on s h, mgtBlock_none _ _ _ (by rw [mgtAddr_false]; exact hb)]
  · rw [exec, execMgtWrite, run_eq, mgtLive_on s h, mgtBlock_none _ _ _ (by rw [mgtAddr_false]; exact hb)]
  · rw [exec, execMgtRead, run_eq, mgtLive_on s h, if_neg (fun e => hb ((mgtReads_iff _ _).1 e))]
  · rw [exec, execMgtStatus, run_eq, mgtLive_on s h, if_neg (fun e => hb ((mgtReads_iff _ _).1 e))]

theorem mgt_setAddress (s : State) (hs : s.wf = true) (h : s.get DEV_STATUS_REFCLK_OK ≠ 0) (a : BitVec 40) (pec : Bool) :
    Answers (.mgtSetAddress (busBytes pec ([0xB4, 0x01, 0x05] ++ leBytes 5 a.toNat))) s (fun t =>
      Leaves s t [] { s.view.dev with port := { s.dev.port with mgtAddr := a.toNat } }) := by
  have block := mgtBlock_busBytes 0x01 5 pec (leBytes 5 a.toNat) (leBytes_length 5 _)
  have bus : busBytes pec ([0xB4, 0x01, 0x05] ++ leBytes 5 a.toNat) =
    busBytes pec ([0xB4, BitVec.ofNat 8 0x01, BitVec.ofNat 8 5] ++ leBytes 5 a.toNat) := rfl
  have value : ofLe (leBytes 5 a.toNat) = a.toNat := by rw [ofLe_leBytes]; exact Nat.mod_eq_of_lt a.isLt
  refine ⟨_, by rw [exec, execMgtSetAddress, run_eq, mgtLive_on s h, bus, block], ?_⟩
  simp only [value]
  exact leaves_finish hs (keeps_start s []) (quiet_start s) rfl rfl

theorem mgt_status (s : State) (hs : s.wf = true) (h : s.get DEV_STATUS_REFCLK_OK ≠ 0) :
    Answers (.mgtStatus [0xB4, 0x04, 0xB5]) s (fun t => Leaves s t [] { s.view.dev with
      out := [busReply 0x04 [BitVec.ofNat 8 (b2n s.dev.port.mgtReject + 2 * b2n s.dev.port.mgtReach)]]
      port := { s.dev.port with mgtReject := false, mgtReach := false } }) := by
  refine ⟨_, by rw [exec, execMgtStatus, run_eq, mgtLive_on s h, if_pos ((mgtReads_iff 0x04 [0xB4, 0x04, 0xB5]).2 rfl)], ?_⟩
  exact leaves_finish hs (keeps_start s []) (quiet_start s) rfl rfl

/-! ## What a read latches -/

/-- The fields that a read of a device register latches. -/
def latched : List Fld := [TIME_TL_HI, PTP_OFFSET_HI, PTP_DELAY_HI, LOADER_POINT_HI]

theorem devLatch_only (w : Work σ) (a : Nat) : OnlyFields latched w (devLatch w a) := by
  have keep : OnlyFields latched w w := ⟨fun _ _ => Iff.rfl, Iff.rfl, rfl, rfl⟩
  have one : ∀ f ∈ latched, ∀ v, OnlyFields latched w (w.set f v) := fun f hf v =>
    ⟨fun gs hgs => keeps_set w f v gs (hgs hf), quiet_set w f v, rfl, rfl⟩
  simp only [devLatch, firstCase]
  split
  · exact one _ (by decide) _
  split
  · exact one _ (by decide) _
  split
  · exact one _ (by decide) _
  split
  · exact one _ (by decide) _
  · exact keep

theorem OnlyFields.trans {fs gs : List Fld} {w w' w'' : Work σ} (h : OnlyFields fs w w') (h' : OnlyFields gs w' w'') :
    OnlyFields (fs ++ gs) w w'' := by
  obtain ⟨hk, hq, hd, hf⟩ := h
  obtain ⟨hk', hq', hd', hf'⟩ := h'
  exact ⟨fun es he => (hk' es (fun g hg => he (List.mem_append_right _ hg))).trans (hk es (fun g hg => he (List.mem_append_left _ hg))),
    hq'.trans hq, hd'.trans hd, hf'.trans hf⟩

/-- R9: fields that a read takes back to their reset value. -/
theorem readClears_only (w : Work σ) (fs : List FieldAcc) :
    OnlyFields (fs.map (fun x => x.fld)) w (w.each fs (fun w f => if f.acc = .rc then w.set f.fld f.fld.reset else w)) := by
  induction fs generalizing w with
  | nil => exact ⟨fun _ _ => Iff.rfl, Iff.rfl, rfl, rfl⟩
  | cons f fs ih =>
    have head : OnlyFields [f.fld] w (if f.acc = .rc then w.set f.fld f.fld.reset else w) := by
      split
      · exact ⟨fun gs hgs => keeps_set w f.fld _ gs (hgs List.mem_cons_self), quiet_set w f.fld _, rfl, rfl⟩
      · exact ⟨fun _ _ => Iff.rfl, Iff.rfl, rfl, rfl⟩
    exact head.trans (ih _)

/-- R9: a read of a device register outside the lane blocks answers its word, clears and latches. -/
theorem mapRead_dev (w : Work σ) (a : Nat) (ok : Bool) (fs : List FieldAcc) (halign : a % 4 = 0) (ha : a < 0x1000000)
    (hreg : regAt a = some fs) (hlane : within a 0x100000 0x120000 = false) :
    ∃ w' : Work σ, mapRead w a ok = (.ok, regWord w a fs, w') ∧ OnlyFields (fs.map (fun x => x.fld) ++ latched) w w' := by
  have place : placeOf a = .reg := by rw [placeOf, if_neg (by omega), if_pos ha]
  have meets : readMeets w a = w := by simp [readMeets, hlane]
  refine ⟨devLatch (w.each fs (fun w f => if f.acc = .rc then w.set f.fld f.fld.reset else w)) a, ?_,
    (readClears_only w fs).trans (devLatch_only _ a)⟩
  simp only [mapRead, place, regGet, hreg, meets, regAfterRead, if_pos ha]

/-- R471: what a read transaction does. -/
theorem exec_mgtRead (s : State) (h : s.get DEV_STATUS_REFCLK_OK ≠ 0) (v : Nat) (w : Work s) (access : mgtRead (Work.start s) = (v, w)) :
    exec (.mgtRead [0xB4, 0x03, 0xB5]) s = .next (w.emit (busReply 0x03 ([0x04] ++ leBytes 4 v))).finish := by
  rw [exec, execMgtRead, run_eq, mgtLive_on s h, if_pos ((mgtReads_iff 0x03 [0xB4, 0x03, 0xB5]).2 rfl), access]
  rfl

theorem mgt_read (s : State) (hs : s.wf = true) (h : s.get DEV_STATUS_REFCLK_OK ≠ 0) (f : FieldAcc) (fs : List FieldAcc)
    (halign : s.dev.port.mgtAddr % 4 = 0) (ha : s.dev.port.mgtAddr < 0x1000000) (hreg : regAt s.dev.port.mgtAddr = some (f :: fs))
    (hlane : within s.dev.port.mgtAddr 0x100000 0x120000 = false) :
    Answers (.mgtRead [0xB4, 0x03, 0xB5]) s (fun t => Leaves s t ((f :: fs).map (fun x => x.fld) ++ latched)
        { s.view.dev with
          out := [busReply 0x03 ([0x04] ++ leBytes 4 (regWord s.view s.dev.port.mgtAddr (f :: fs)))]
          port := { s.dev.port with
            mgtAddr := (s.dev.port.mgtAddr + 4) % 2 ^ 40, mgtReject := false, mgtReach := false } }) := by
  obtain ⟨w, hread, hk, hq, hd, hf⟩ := mapRead_dev s.view s.dev.port.mgtAddr true (f :: fs) halign ha hreg hlane
  have reach : pathReach .mgt s.dev.port.mgtAddr = true := viaPath_reach _ _ ha
  have access : mgtRead (Work.start s) = (regWord s.view s.dev.port.mgtAddr (f :: fs), mgtAfter w false false) := by
    simp only [mgtRead, Work.start_dev, reach, if_true, hread]
  refine ⟨_, exec_mgtRead s h _ _ access,
    leaves_finish hs ((keeps_emit _ _ _).2 ((keeps_updPort _ _ _).2 ((hk _ (List.Subset.refl _)).2 (keeps_start s _))))
      ((quiet_emit _ _).2 ((quiet_updPort _ _).2 (hq.2 (quiet_start s)))) ?_ hf⟩
  rw [Work.emit, mgtAfter, Work.updPort, hd]
  rfl

theorem managementTarget : Clause.ManagementTarget := fun s hs =>
  ⟨mgt_without_refclk s hs, mgt_other s hs, fun h => ⟨mgt_setAddress s hs h, mgt_status s hs h, mgt_read s hs h⟩⟩

/-! ## Accesses outside the device blocks (R30) -/

theorem tileOfAddr_lt (a : Nat) : tileOfAddr a < 2 ^ 6 := by
  rw [tileOfAddr]
  split
  · omega
  · decide

/-- What the attempt leaves: an entry of the error log, and status bit 1. -/
@[irreducible] def outOfReach (s : State) : Work s :=
  mgtAfter ((Work.start s).errlog 0x01 .mgt (tileOfAddr s.dev.port.mgtAddr) 0 s.dev.port.mgtAddr) false true

theorem outOfReach_dev (s : State) : (outOfReach s).dev = { s.view.dev with
    held := s.dev.held ++ [s.firing 487]
    port := { s.dev.port with mgtAddr := (s.dev.port.mgtAddr + 4) % 2 ^ 40, mgtReject := false, mgtReach := true } } := by
  rw [outOfReach, mgtAfter, Work.updPort, errlog_dev]
  simp [State.firing, Work.now, Work.ntLo]

theorem outOfReach_get (s : State) (f : Fld) : (outOfReach s).get f =
    ((Work.start s).errlog 0x01 .mgt (tileOfAddr s.dev.port.mgtAddr) 0 s.dev.port.mgtAddr).get f := by
  rw [outOfReach, mgtAfter, get_updPort]

theorem outsideReach : Clause.OutsideReach := by
  intro s hs h hreach c hc
  have low : pathReach .mgt s.dev.port.mgtAddr = false := by simp [pathReach]; omega
  have keeps : Keeps (outOfReach s) (logFlds (s.get DEV_ERRLOG_HEAD)) := by
    rw [outOfReach, mgtAfter, keeps_updPort, keeps_errlog _ _ _ _ _ _ _ (by simp)]
    exact keeps_start s _
  have quiet : Quiet (outOfReach s) := by simp [outOfReach, mgtAfter]
  have fresh : (outOfReach s).fresh = s.fresh := by simp [outOfReach, mgtAfter, Work.updPort]
  have logged : Logged s (outOfReach s).finish 1 1 (tileOfAddr s.dev.port.mgtAddr) s.dev.port.mgtAddr :=
    logged_of_get hs (logged_errlog (Work.start s) 0x01 _ 0 _ .mgt hs (by simp) (by decide) (tileOfAddr_lt _)) (outOfReach_get s)
  rcases hc with rfl | ⟨v, rfl⟩
  · have access : mgtRead (Work.start s) = (0, outOfReach s) := by
      simp only [mgtRead, Work.start_dev, low, Bool.false_eq_true, if_false]
      rw [outOfReach]
    refine ⟨_, exec_mgtRead s h _ _ access, logged_of_get hs logged (Work.get_emit (outOfReach s) _),
      leaves_finish hs ((keeps_emit _ _ _).2 keeps) ((quiet_emit _ _).2 quiet) ?_ fresh⟩
    have zero : ([0x04] ++ leBytes 4 0 : List Byte) = [0x04, 0, 0, 0, 0] := by decide
    rw [Work.emit, outOfReach_dev, zero]
    rfl
  · have block := mgtBlock_busBytes 0x02 4 false (leBytes 4 v.toNat) (leBytes_length 4 _)
    have bus : [0xB4, 0x02, 0x04] ++ leBytes 4 v.toNat =
      busBytes false ([0xB4, BitVec.ofNat 8 0x02, BitVec.ofNat 8 4] ++ leBytes 4 v.toNat) := rfl
    have access : mgtWrite (Work.start s) (ofLe (leBytes 4 v.toNat)) = outOfReach s := by
      simp only [mgtWrite, Work.start_dev, low, Bool.false_eq_true, if_false]
      rw [outOfReach]
    refine ⟨_, by rw [exec, execMgtWrite, run_eq, mgtLive_on s h, bus, block], ?_⟩
    simp only [access]
    exact ⟨logged, leaves_finish hs keeps quiet (outOfReach_dev s) fresh⟩

/-! ## Boundary scan (R443, R472) -/

theorem emit_dev (w : Work σ) (o : Out) : (w.emit o).dev = { w.dev with out := w.dev.out ++ [o] } := rfl
theorem updPort_dev (w : Work σ) (u : PortSt → PortSt) : (w.updPort u).dev = { w.dev with port := u w.dev.port } := rfl

theorem each_drive (w : Work σ) (l : List ((String × Nat × Bool) × Nat)) :
    (w.each l (fun w c => if c.1.2.2 then w.emit (.ball c.1.1 c.1.2.1 (b2n (w.dev.port.scan.getD c.2 false))) else w)) =
      emits w ((l.filter (fun c => c.1.2.2)).map (fun c => .ball c.1.1 c.1.2.1 (b2n (w.dev.port.scan.getD c.2 false)))) := by
  induction l generalizing w with
  | nil => simp [Work.each, emits, withDev]
  | cons c l ih =>
    simp only [Work.each, List.foldl_cons] at ih ⊢
    rw [ih]
    by_cases hc : c.1.2.2 = true
    · rw [if_pos hc, List.filter_cons, if_pos hc, List.map_cons]
      simp [emits, withDev, Work.emit]
    · rw [if_neg hc, List.filter_cons, if_neg hc]

/-- R472: in EXTEST the boundary-scan register drives its balls. -/
theorem scanDrive_extest (w : Work σ) (l : List Bool) (h : w.dev.port.tap = .extest) (hl : w.dev.port.scan = l) :
    scanDrive w = emits w (drivenBy l) := by
  rw [scanDrive, if_pos h, each_drive, hl]
  rfl

theorem scanDrive_other (w : Work σ) (h : w.dev.port.tap ≠ .extest) : scanDrive w = w := by rw [scanDrive, if_neg h]

theorem tapHold_extest (w : Work σ) : tapHold w .extest = w.updPort (fun p => { p with tap := .extest }) := by
  rw [tapHold]
  simp only [ne_eq, not_true_eq_false, and_false, if_false]

theorem scanSelect_accepted (s : State) (i : TapInstr) (hrel : anyReleased s.view = false)
    (hld : s.get LOADER_STATE_STATE = LD_IDLE ∨ s.get LOADER_STATE_STATE = LD_ERROR) :
    scanSelect (Work.start s) i = scanDrive (tapHold (Work.start s) i) := by
  rw [scanSelect, if_pos]
  exact ⟨by simp [hrel], by simpa [ldState] using hld⟩

theorem scanSelect_refused (s : State) (i : TapInstr)
    (h : ¬(anyReleased s.view = false ∧ (s.get LOADER_STATE_STATE = LD_IDLE ∨ s.get LOADER_STATE_STATE = LD_ERROR))) :
    scanSelect (Work.start s) i = (tapHold (Work.start s) .bypass).errlog 0x02 .jtag devTile 0 0 := by
  rw [scanSelect, if_neg]
  simpa [ldState] using h

theorem boundaryScan_active (w : Work σ) (pins dr : List Bool) (h : w.dev.port.tap = .extest ∨ w.dev.port.tap = .sample) :
    boundaryScan w pins (some dr) =
      scanDrive ((w.emit (.port "TDO" ((scanValue pins).map b2n))).updPort (fun p => { p with scan := scanValue dr })) := by
  rw [boundaryScan, if_pos h]
  rfl

theorem scanDrive_loaded (w : Work σ) (o : Out) (l : List Bool) (h : w.dev.port.tap = .extest) :
    scanDrive ((w.emit o).updPort (fun p => { p with scan := l })) =
      emits ((w.emit o).updPort (fun p => { p with scan := l })) (drivenBy l) := scanDrive_extest _ l h rfl

theorem boundaryScan_extest (w : Work σ) (pins dr : List Bool) (h : w.dev.port.tap = .extest) :
    boundaryScan w pins (some dr) = emits ((w.emit (.port "TDO" ((scanValue pins).map b2n))).updPort
      (fun p => { p with scan := scanValue dr })) (drivenBy (scanValue dr)) := by
  rw [boundaryScan_active _ _ _ (.inl h), scanDrive_loaded _ _ _ h]

theorem boundaryScan_bypass (w : Work σ) (pins : List Bool) (dr : Option (List Bool)) (h : w.dev.port.tap = .bypass) :
    boundaryScan w pins dr = w := by
  cases dr with
  | none => rfl
  | some dr => rw [boundaryScan, if_neg (by simp [h])]

theorem exec_extest (s : State) (pins : List Bool) (dr : Option (List Bool)) :
    exec (.extest 0x00 pins dr) s = .next (boundaryScan (scanSelect (Work.start s) .extest) pins dr).finish := rfl

theorem exec_samplePreload (s : State) (pins : List Bool) (dr : Option (List Bool)) :
    exec (.samplePreload 0x01 pins dr) s = .next (boundaryScan (scanSelect (Work.start s) .sample) pins dr).finish := rfl

/-- EXTEST selected, with what its register drives. -/
theorem leaves_driven (s : State) (hs : s.wf = true) (os : List Out) :
    Leaves s (emits ((Work.start s).updPort (fun p => { p with tap := .extest })) os).finish [] { s.view.dev with
      out := os, port := { s.dev.port with tap := .extest } } :=
  leaves_finish hs (keeps_start s []) (quiet_start s) rfl rfl

/-- SAMPLE/PRELOAD selected and scanned. -/
theorem leaves_sampled (s : State) (hs : s.wf = true) (o : Out) (l : List Bool) :
    Leaves s ((((Work.start s).updPort (fun p => { p with tap := .sample })).emit o).updPort (fun p => { p with scan := l })).finish []
      { s.view.dev with out := [o], port := { s.dev.port with tap := .sample, scan := l } } := by
  refine leaves_finish hs (by simp) (by simp) ?_ rfl
  rw [updPort_dev, emit_dev, updPort_dev, Work.start_dev]
  rfl

/-- EXTEST selected and scanned. -/
theorem leaves_scanned (s : State) (hs : s.wf = true) (os os' : List Out) (o : Out) (l : List Bool) :
    Leaves s (emits (((emits ((Work.start s).updPort (fun p => { p with tap := .extest })) os).emit o).updPort
      (fun p => { p with scan := l })) os').finish [] { s.view.dev with
        out := os ++ [o] ++ os', port := { s.dev.port with tap := .extest, scan := l } } := by
  refine leaves_finish hs (by simp) (by simp) ?_ rfl
  rw [emits_dev, updPort_dev, emit_dev, emits_dev, updPort_dev, Work.start_dev]
  rfl

theorem boundaryScan_clause : Clause.BoundaryScan := by
  intro s hs
  refine ⟨fun htap => ?_, fun hrel hld pins dr => ⟨?_, ?_, fun htap => ⟨?_, ?_⟩⟩, fun hno htap c pins dr hc => ?_⟩
  · refine ⟨_, by rw [exec, execTapReset, run_eq, tapHold_start s htap], ?_⟩
    exact leaves_finish hs (keeps_start s []) (quiet_start s) rfl rfl
  · refine ⟨_, exec_extest s pins none, ?_⟩
    rw [scanSelect_accepted s _ hrel hld, tapHold_extest, scanDrive_extest _ s.dev.port.scan rfl rfl, boundaryScan]
    exact leaves_driven s hs _
  · refine ⟨_, exec_extest s pins (some dr), ?_⟩
    rw [scanSelect_accepted s _ hrel hld, tapHold_extest, scanDrive_extest _ s.dev.port.scan rfl rfl,
      boundaryScan_extest _ _ _ rfl]
    exact leaves_scanned s hs _ _ _ _
  · refine ⟨_, exec_samplePreload s pins none, ?_⟩
    rw [scanSelect_accepted s _ hrel hld, tapHold_start s htap, scanDrive_other _ (by simp [Work.updPort]), boundaryScan]
    exact leaves_finish hs (keeps_start s []) (quiet_start s) rfl rfl
  · refine ⟨_, exec_samplePreload s pins (some dr), ?_⟩
    rw [scanSelect_accepted s _ hrel hld, tapHold_start s htap, scanDrive_other _ (by simp [Work.updPort]),
      boundaryScan_active _ _ _ (.inr rfl), scanDrive_other _ (by simp [Work.updPort, Work.emit])]
    exact leaves_sampled s hs _ _
  · obtain ⟨w, hw, hlogged, hk, hq, hd, hf⟩ := errlog_effect (tapHold (Work.start s) .bypass) 0x02 devTile 0 0 .jtag hs
      (by rw [tapHold_start s htap, get_updPort, Work.get_start]) (by decide) (by decide)
    rw [tapHold_start s htap] at hd hk hq hf
    have bypass : boundaryScan w pins dr = w := boundaryScan_bypass _ pins dr (by rw [hd]; rfl)
    have hexec : exec c s = .next w.finish := by
      rcases hc with rfl | rfl
      · rw [exec_extest, scanSelect_refused s _ hno, hw, bypass]
      · rw [exec_samplePreload, scanSelect_refused s _ hno, hw, bypass]
    refine ⟨_, hexec, hlogged, leaves_finish hs ((hk _ (List.Subset.refl _)).2 (keeps_start s _)) (hq.2 (quiet_start s)) ?_ hf⟩
    rw [firing_eq _ 487 rfl (by rw [get_updPort, Work.get_start])] at hd
    exact hd

/-- Settles O3: within its reach, outside it, and in boundary scan, each transaction of a maintenance port is one equation. -/
theorem configurationPorts : Obligations.ConfigurationPorts := ⟨managementTarget, outsideReach, boundaryScan_clause⟩

end Sys2Proof.PortProofs
end

section
/-! PROOFS. Network time (R372 to R376): commands staged and applied, snapshots and alarms. -/

namespace Sys2Proof.NetTimeProofs

open Sys2Proof.Machine Sys2Proof.Effects

variable {σ : State}

/-! ## Snapshots and alarms -/

theorem answers_ntSnap (s : State) (hs : s.wf = true) :
    Answers .ntSnap s (fun t => t.get TIME_NT_SNAP_FRAC = s.get NT_NOW % 2 ^ 32 ∧
      t.get TIME_NT_SNAP_LO = s.get NT_NOW / 2 ^ 32 % 2 ^ 32 ∧ t.get TIME_NT_SNAP_HI = s.get NT_NOW / 2 ^ 64 % 2 ^ 32 ∧
      t.get TIME_TL_SNAP_LO = s.tl.count % 2 ^ 32 ∧ t.get TIME_TL_SNAP_HI = s.tl.count / 2 ^ 32 % 2 ^ 32 ∧
      Plain s t [TIME_NT_SNAP_FRAC, TIME_NT_SNAP_LO, TIME_NT_SNAP_HI, TIME_TL_SNAP_LO, TIME_TL_SNAP_HI]) := by
  refine ⟨(ntSnap (Work.start s)).finish, rfl, ?_, ?_, ?_, ?_, ?_,
    plain_finish hs (by simp [ntSnap]) (by simp [ntSnap]) rfl rfl⟩ <;>
  · rw [Work.finish_get _ _ hs, ntSnap]
    simp (disch := decide) only [Work.get_set_self, Work.get_set_ne, Work.get_start]
    rfl

theorem answers_alarmArm (s : State) (hs : s.wf = true) (k : Fin 2) : Answers (.alarmArm k) s (fun t =>
    t.get (TIME_ALARM_CTRL_ARMED k) = 1 ∧ t.get (ALARM_AT k) = s.dev.ticks % 2 ^ 64 ∧
      Plain s t [TIME_ALARM_CTRL_ARMED k, ALARM_AT k]) := by
  have apart : (TIME_ALARM_CTRL_ARMED k).key ≠ (ALARM_AT k).key := by
    simp only [Fld.key, TIME_ALARM_CTRL_ARMED, ALARM_AT, hid, hidDev]
    omega
  refine ⟨(alarmArm (Work.start s) k).finish, rfl, ?_, ?_, plain_finish hs (by simp [alarmArm]) (by simp [alarmArm]) rfl rfl⟩ <;>
    rw [Work.finish_get _ _ hs, alarmArm]
  · rw [Work.get_set_ne _ _ _ _ apart, Work.get_set_self]
    rfl
  · rw [Work.get_set_self]
    rfl

/-- Whether alarm k is armed and NT has reached its target. -/
def alarmDue (s : State) (k : Nat) : Prop :=
  s.get (TIME_ALARM_CTRL_ARMED k) ≠ 0 ∧ s.get (ALARM_AT k) < s.dev.ticks ∧
    0 ≤ sext 32 (seqDiff (bits (s.get NT_NOW) 32 32) (s.get (TIME_ALARM_TARGET k)))

theorem alarmFire_due (s : State) (k : Nat) (h : alarmDue s k) : alarmFire (Work.start s) k =
    markFrame ((((Work.start s).set (TIME_ALARM_CTRL_ARMED k) 0).set (TIME_ALARM_CTRL_FIRED k) 1).fire (498 + k)) (1 + k) := by
  rw [alarmFire, if_pos]
  simpa [Work.on, Work.ntLo, alarmDue] using h

theorem alarmFire_early (s : State) (k : Nat) (h : ¬alarmDue s k) : alarmFire (Work.start s) k = Work.start s := by
  rw [alarmFire, if_neg]
  simpa [Work.on, Work.ntLo, alarmDue] using h

@[simp] theorem keeps_markFrame (w : Work σ) (src : Nat) (fs : List Fld) : Keeps (markFrame w src) fs ↔ Keeps w fs := Iff.rfl
@[simp] theorem quiet_markFrame (w : Work σ) (src : Nat) : Quiet (markFrame w src) ↔ Quiet w := Iff.rfl
theorem get_markFrame (w : Work σ) (src : Nat) (f : Fld) : (markFrame w src).get f = w.get f := rfl

/-- The alarm's registers are none that a mark or a firing reads. -/
theorem alarm_dev (s : State) (k : Fin 2) :
    (markFrame ((((Work.start s).set (TIME_ALARM_CTRL_ARMED k) 0).set (TIME_ALARM_CTRL_FIRED k) 1).fire (498 + k)) (1 + k)).dev =
      { s.view.dev with
        held := s.dev.held ++ [s.firing (498 + k)]
        marks := s.dev.marks ++ ((List.range 8).filter (fun m => decide (s.get (TIME_MARK_SRC m) = 1 + k.val))).map
          (fun m => (m, s.dev.ticks)) } := by
  have src : ∀ m, (((Work.start s).set (TIME_ALARM_CTRL_ARMED k) 0).set (TIME_ALARM_CTRL_FIRED k) 1).get (TIME_MARK_SRC m) =
      s.get (TIME_MARK_SRC m) := fun m => by
    simp (disch := (simp only [Fld.key, TIME_ALARM_CTRL_ARMED, TIME_ALARM_CTRL_FIRED, TIME_MARK_SRC]; omega)) only
      [Work.get_set_ne, Work.get_start]
  have nt : (((Work.start s).set (TIME_ALARM_CTRL_ARMED k) 0).set (TIME_ALARM_CTRL_FIRED k) 1).get NT_NOW = s.get NT_NOW := by
    simp (disch := (simp only [Fld.key, TIME_ALARM_CTRL_ARMED, TIME_ALARM_CTRL_FIRED, NT_NOW, hid, hidDev]; omega)) only
      [Work.get_set_ne, Work.get_start]
  simp only [markFrame, Work.get_fire, src, fire_dev, firing_eq _ _ (Work.set_tl _ _ _) nt]
  rfl

theorem answers_alarmFire (s : State) (hs : s.wf = true) (k : Fin 2) (h : alarmDue s k) : Answers (.alarmFire k) s (fun t =>
    t.get (TIME_ALARM_CTRL_ARMED k) = 0 ∧ t.get (TIME_ALARM_CTRL_FIRED k) = 1 ∧
      Leaves s t [TIME_ALARM_CTRL_ARMED k, TIME_ALARM_CTRL_FIRED k] { s.view.dev with
        held := s.dev.held ++ [s.firing (498 + k)]
        marks := s.dev.marks ++ ((List.range 8).filter (fun m => decide (s.get (TIME_MARK_SRC m) = 1 + k.val))).map
          (fun m => (m, s.dev.ticks)) }) := by
  refine ⟨_, by rw [exec, execAlarmFire, run_eq, alarmFire_due s k h], ?_, ?_,
    leaves_finish hs (by simp) (by simp) (alarm_dev s k) rfl⟩ <;>
    rw [Work.finish_get _ _ hs, get_markFrame, Work.get_fire]
  · rw [Work.get_set_ne _ _ _ _ (by simp [Fld.key, TIME_ALARM_CTRL_ARMED, TIME_ALARM_CTRL_FIRED]), Work.get_set_self]
    rfl
  · rw [Work.get_set_self]
    rfl

/-- Settles O10: a snapshot takes one tick's times, and an alarm fires once it is due. -/
theorem snapshotsAndAlarms : Obligations.SnapshotsAndAlarms := by
  intro s hs
  refine ⟨answers_ntSnap s hs, answers_alarmArm s hs, fun k h1 h2 h3 => answers_alarmFire s hs k ⟨h1, h2, h3⟩, fun k h => ?_⟩
  have early : ¬alarmDue s k := fun ⟨h1, _, h3⟩ => h.elim h1 (fun h => absurd h3 (by omega))
  exact ⟨_, by rw [exec, execAlarmFire, run_eq, alarmFire_early s k early], plain_start s [] hs⟩

/-! ## Commands of network time -/

/-- A write of GO with OP and the EPOCH bit. -/
theorem ntCmdWrite_go (w : Work σ) (path : Path) (op : Nat) (epoch : Bool) (hop : op < 3) :
    ntCmdWrite w path (op + 16 + 32 * b2n epoch) =
      ntStage ((w.set TIME_NT_CMD_EPOCH (b2n epoch)).set TIME_NT_CMD_OP op) path op epoch := by
  have fields : let v := op + 16 + 32 * b2n epoch
      bit v 7 = false ∧ bit v 8 = false ∧ bits v 5 1 = b2n epoch ∧ bits v 0 2 = op ∧ bit v 4 = true ∧ bit v 5 = epoch := by
    cases epoch <;> interval_cases op <;> decide
  obtain ⟨h7, h8, he, ho, h4, h5⟩ := fields
  simp only [ntCmdWrite, h7, h8, he, ho, h4, h5, Bool.false_eq_true, if_false, if_true]

/-- What the write of a command leaves before it is staged. -/
def ntWritten (s : State) (op : Nat) (epoch : Bool) : Work s :=
  ((Work.start s).set TIME_NT_CMD_EPOCH (b2n epoch)).set TIME_NT_CMD_OP op

/-- A frame AT that has passed, without EPOCH. -/
def ntLate (s : State) (epoch : Bool) : Bool := !epoch && decide (ntAt s.view ≠ 0) && decide (ntAt s.view ≤ s.tl.count)

theorem ntStage_busy (s : State) (path : Path) (op : Nat) (epoch : Bool) (h : s.get TIME_NT_CMD_BUSY ≠ 0) :
    ntStage (ntWritten s op epoch) path op epoch = (ntWritten s op epoch).errlog 0x02 path 63 0 TIME_NT_CMD_GO.addr := by
  have busy : (ntWritten s op epoch).on TIME_NT_CMD_BUSY = true := by
    simp (disch := decide) [Work.on, ntWritten, Work.get_set_ne, h]
  rw [ntStage, if_pos (.inl busy)]
  rfl

theorem ntStage_free (s : State) (path : Path) (op : Nat) (epoch : Bool) (hop : op < 3) (h : s.get TIME_NT_CMD_BUSY = 0) :
    ntStage (ntWritten s op epoch) path op epoch =
      withDev (((ntWritten s op epoch).set TIME_NT_CMD_BUSY 1).setB TIME_NT_CMD_LATE (s.view.on TIME_NT_CMD_LATE || ntLate s epoch))
        { s.view.dev with ntCmd := some ⟨op, ntVal s.view, epoch, false,
          if epoch || decide (ntAt s.view = 0) || ntLate s epoch then none else some (ntAt s.view), s.dev.ticks⟩ } := by
  have free : ¬((ntWritten s op epoch).on TIME_NT_CMD_BUSY = true ∨ op = 3) := by
    simp (disch := decide) [Work.on, ntWritten, Work.get_set_ne, h]
    omega
  have at_ : ntAt (ntWritten s op epoch) = ntAt s.view := by
    simp (disch := decide) only [ntAt, ntWritten, Work.get_set_ne]
  have late : (ntWritten s op epoch).on TIME_NT_CMD_LATE = s.view.on TIME_NT_CMD_LATE := by
    simp (disch := decide) only [Work.on, ntWritten, Work.get_set_ne]
  have now : (ntWritten s op epoch).now = s.tl.count := rfl
  have val : ntVal (((ntWritten s op epoch).set TIME_NT_CMD_BUSY 1).setB TIME_NT_CMD_LATE (s.view.on TIME_NT_CMD_LATE || ntLate s epoch)) =
      ntVal s.view := by
    simp (disch := decide) only [ntVal, ntWritten, Work.setB, Work.get_set_ne]
  rw [ntStage, if_neg free]
  simp only [at_, late, now]
  rw [← ntLate, val]
  rfl

theorem exec_ntGo (s : State) (via : Via) (epoch : Bool) (c : Instr × Nat)
    (hc : c ∈ [(Instr.ntIncr via epoch, 0), (Instr.ntAdd via epoch, 1), (Instr.ntSet via epoch, 2)]) :
    c.2 < 3 ∧ exec c.1 s = .next (ntStage (ntWritten s c.2 epoch) (viaPath via) c.2 epoch).finish := by
  simp only [List.mem_cons, List.not_mem_nil, or_false] at hc
  rcases hc with rfl | rfl | rfl
  · exact ⟨by simp, by rw [exec, execNtIncr, run_eq, ntCmdWrite_go _ _ 0 _ (by decide)]; rfl⟩
  · exact ⟨by simp, by rw [exec, execNtAdd, run_eq, ntCmdWrite_go _ _ 1 _ (by decide)]; rfl⟩
  · exact ⟨by simp, by rw [exec, execNtSet, run_eq, ntCmdWrite_go _ _ 2 _ (by decide)]; rfl⟩

theorem networkTimeStaging : Clause.NetworkTimeStaging := by
  intro s hs via epoch
  refine ⟨fun c hc => ⟨fun hfree => ?_, fun hbusy => ?_⟩, fun hbusy => ?_, fun hfree => ?_⟩
  · obtain ⟨hop, hexec⟩ := exec_ntGo s via epoch c hc
    rw [ntStage_free s _ _ epoch hop hfree] at hexec
    refine ⟨_, hexec, ?_, ?_, ?_, ?_, leaves_finish hs (by simp [ntWritten]) (by simp [ntWritten]) rfl rfl⟩
    all_goals
      rw [Work.finish_get _ _ hs, get_withDev, ntWritten]
      simp (disch := decide) only [Work.setB, Work.get_set_self, Work.get_set_ne]
    · rfl
    · exact Nat.mod_eq_of_lt (by show c.2 < 4; omega)
    · cases epoch <;> rfl
    · change b2n (s.view.on TIME_NT_CMD_LATE || ntLate s epoch) % 2 = if s.get TIME_NT_CMD_LATE ≠ 0 ∨ ntLate s epoch = true then 1 else 0
      by_cases h : s.get TIME_NT_CMD_LATE = 0 <;> cases ntLate s epoch <;> simp [Work.on, b2n, h]
  · obtain ⟨hop, hexec⟩ := exec_ntGo s via epoch c hc
    rw [ntStage_busy s _ _ epoch hbusy] at hexec
    obtain ⟨w, hw, hlogged, hk, hq, hd, hf⟩ := errlog_effect (ntWritten s c.2 epoch) 0x02 63 0 TIME_NT_CMD_GO.addr (viaPath via) hs
      (by simp (disch := decide) only [ntWritten, Work.get_set_ne, Work.get_start]) (by decide) (by decide)
    rw [hw] at hexec
    rw [firing_eq _ 487 rfl (by simp (disch := decide) only [ntWritten, Work.get_set_ne, Work.get_start])] at hd
    exact ⟨_, hexec, hlogged, leaves_finish hs ((hk _ (by simp)).2 (by simp [ntWritten])) (hq.2 (by simp [ntWritten])) hd hf⟩
  · have busy : (Work.start s).on TIME_NT_CMD_BUSY = true := by simp [Work.on, hbusy]
    have cancel : ntCancel (Work.start s) = withDev ((Work.start s).set TIME_NT_CMD_BUSY 0) { s.view.dev with ntCmd := none } := by
      rw [ntCancel, if_pos busy]
      rfl
    refine ⟨_, by rw [exec, execNtCmdCancel, run_eq, cancel], ?_, leaves_finish hs (by simp) (by simp) rfl rfl⟩
    rw [Work.finish_get _ _ hs, get_withDev, Work.get_set_self]
    rfl
  · have free : ¬(Work.start s).on TIME_NT_CMD_BUSY = true := by simp [Work.on, hfree]
    exact ⟨_, by rw [exec, execNtCmdCancel, run_eq, ntCancel, if_neg free], leaves_start s hs⟩

/-! ## Commands that act -/

/-- The new rate or time that a command brings. -/
def ntActed (s : State) (c : NtCmd) : Work s :=
  if c.op = 0 then
    (((Work.start s).set TIME_INCR_NS (c.val % 2 ^ 64 / 2 ^ 32)).set TIME_INCR_FRAC (c.val % 2 ^ 64)).set NT_NOW
      (s.get NT_NOW + c.val % 2 ^ 64 + 2 ^ 96 - ntIncr s.view)
  else if c.op = 1 then (Work.start s).set NT_NOW (s.get NT_NOW + c.val)
  else (Work.start s).set NT_NOW c.val

/-- The command is no longer staged. -/
def ntDone (s : State) (c : NtCmd) : Work s := withDev ((ntActed s c).set TIME_NT_CMD_BUSY 0) { s.view.dev with ntCmd := none }

theorem ntActed_dev (s : State) (c : NtCmd) : (ntActed s c).dev = s.view.dev := by
  unfold ntActed
  split
  · rfl
  · split <;> rfl

theorem ntActed_rest (s : State) (c : NtCmd) : (ntActed s c).fresh = s.fresh ∧ (ntActed s c).tl = s.tl := by
  unfold ntActed
  split
  · exact ⟨rfl, rfl⟩
  · split <;> exact ⟨rfl, rfl⟩

theorem ntApply_due (s : State) (c : NtCmd) (hc : s.dev.ntCmd = some c) (h : ntReached s.view c = true) :
    ntApply (Work.start s) =
      if s.tl.running ∧ s.tl.count = 0 then ntEpochLatch (ntDone s c) else ntDone s c := by
  have tl : (ntDone s c).tl = s.tl := (ntActed_rest s c).2
  rw [ntApply, Work.start_dev]
  simp only [hc, h, Bool.not_true, Bool.false_eq_true, if_false]
  rw [← tl, ntDone, ← ntActed_dev s c]
  rfl

theorem ntDone_keeps (s : State) (c : NtCmd) :
    Keeps (ntDone s c) ([TIME_NT_CMD_BUSY, NT_NOW] ++ if c.op = 0 then [TIME_INCR_NS, TIME_INCR_FRAC] else []) := by
  rw [ntDone, ntActed]
  split
  · simp
  · split <;> simp

theorem ntDone_quiet (s : State) (c : NtCmd) : Quiet (ntDone s c) := by
  rw [ntDone, ntActed]
  split
  · simp
  · split <;> simp

theorem ntDone_get (s : State) (c : NtCmd) (f : Fld) (hf : TIME_NT_CMD_BUSY.key ≠ f.key) : (ntDone s c).get f = (ntActed s c).get f := by
  rw [ntDone, get_withDev, Work.get_set_ne _ _ _ _ hf.symm]

/-- R374: at TL = 0 the epoch's registers show the new NT. -/
theorem get_ntEpochLatch (w : Work σ) : (ntEpochLatch w).get TIME_NT_EPOCH_FRAC = w.get NT_NOW % 2 ^ 32 ∧
    (ntEpochLatch w).get TIME_NT_EPOCH_LO = w.get NT_NOW / 2 ^ 32 % 2 ^ 32 ∧
    (ntEpochLatch w).get TIME_NT_EPOCH_HI = w.get NT_NOW / 2 ^ 64 % 2 ^ 32 := by
  refine ⟨?_, ?_, ?_⟩ <;>
  · simp (disch := decide) only [ntEpochLatch, Work.get_set_self, Work.get_set_ne]
    rfl

/-- The registers that the epoch's latch writes. -/
def epochFlds : List Fld := [TIME_NT_EPOCH_FRAC, TIME_NT_EPOCH_LO, TIME_NT_EPOCH_HI]

theorem get_ntEpochLatch_ne (w : Work σ) (f : Fld) (hf : ∀ g ∈ epochFlds, f.key ≠ g.key) : (ntEpochLatch w).get f = w.get f := by
  simp only [epochFlds, List.mem_cons, List.not_mem_nil, or_false, forall_eq_or_imp, forall_eq] at hf
  obtain ⟨h0, h1, h2⟩ := hf
  rw [ntEpochLatch, Work.get_set_ne _ _ _ _ h2, Work.get_set_ne _ _ _ _ h1, Work.get_set_ne _ _ _ _ h0]

theorem networkTimeApply : Clause.NetworkTimeApply := by
  intro s hs c hc hop hdue
  obtain ⟨w, hw, hsame, hlatch, hk, hq, hd, hf⟩ : ∃ w : Work s, ntApply (Work.start s) = w ∧
      (∀ f, (∀ g ∈ epochFlds, f.key ≠ g.key) → w.get f = (ntDone s c).get f) ∧
      ((s.tl.running && decide (s.tl.count = 0)) = true → w = ntEpochLatch (ntDone s c)) ∧
      Keeps w ([TIME_NT_CMD_BUSY, NT_NOW] ++ (if c.op = 0 then [TIME_INCR_NS, TIME_INCR_FRAC] else []) ++
        if s.tl.running && decide (s.tl.count = 0) then epochFlds else []) ∧ Quiet w ∧
      w.dev = { s.view.dev with ntCmd := none } ∧ w.fresh = s.fresh := by
    rw [ntApply_due s c hc hdue]
    have fresh := (ntActed_rest s c).1
    by_cases hz : s.tl.running = true ∧ s.tl.count = 0
    · rw [if_pos hz]
      have zero : (s.tl.running && decide (s.tl.count = 0)) = true := by simp [hz]
      rw [if_pos zero]
      refine ⟨_, rfl, get_ntEpochLatch_ne _, fun _ => rfl, fun f hf => ?_, by simpa [ntEpochLatch] using ntDone_quiet s c, rfl, fresh⟩
      rw [get_ntEpochLatch_ne _ f (fun g hg => hf g (List.mem_append_right _ hg))]
      exact ntDone_keeps s c f (fun g hg => hf g (List.mem_append_left _ hg))
    · rw [if_neg hz]
      exact ⟨_, rfl, fun _ _ => rfl, fun h => absurd (by simpa using h) hz,
        (ntDone_keeps s c).mono (List.subset_append_left _ _), ntDone_quiet s c, rfl, fresh⟩
  have nt : w.get NT_NOW = (ntActed s c).get NT_NOW := (hsame _ (by decide)).trans (ntDone_get s c _ (by decide))
  refine ⟨w.finish, by rw [exec, execNtCmdApply, run_eq, hw], ?_, fun h => ⟨?_, ?_, ?_⟩, fun h => ?_, fun h => ?_, fun h => ?_,
    leaves_finish hs hk hq hd hf⟩ <;> simp only [Work.finish_get _ _ hs]
  · rw [hsame _ (by decide), ntDone, get_withDev, Work.get_set_self]
    rfl
  · rw [hsame _ (by decide), ntDone_get s c _ (by decide), ntActed, if_pos h]
    simp (disch := decide) only [Work.get_set_self, Work.get_set_ne]
    simp only [TIME_INCR_NS]
    omega
  · rw [hsame _ (by decide), ntDone_get s c _ (by decide), ntActed, if_pos h]
    simp (disch := decide) only [Work.get_set_self, Work.get_set_ne]
    simp only [TIME_INCR_FRAC]
    omega
  · rw [nt, ntActed, if_pos h, Work.get_set_self]
    rfl
  · rw [nt, ntActed, if_neg (by omega), if_pos h, Work.get_set_self]
    rfl
  · rw [nt, ntActed, if_neg (by omega), if_neg (by omega), Work.get_set_self]
    rfl
  · obtain ⟨hfrac, hlo, hhi⟩ := get_ntEpochLatch (ntDone s c)
    have now : w.get NT_NOW = (ntDone s c).get NT_NOW := hsame _ (by decide)
    rw [now, hlatch h]
    exact ⟨hfrac, hlo, hhi⟩

/-- Settles O9: staging, cancelling and acting of a command. -/
theorem networkTime : Obligations.NetworkTime := ⟨networkTimeStaging, networkTimeApply⟩

end Sys2Proof.NetTimeProofs
end

section
/-! PROOFS. EPOCH (R36, R37, R39): its arming, its edge and its boundary. -/

namespace Sys2Proof.EpochProofs

open Sys2Proof.Machine Sys2Proof.Effects

variable {σ : State}

/-! ## Firings that are held stay held -/

/-- What a work holds back for the end of the cycle, a later one holds too. -/
def Holds (w w' : Work σ) : Prop := w.dev.held ⊆ w'.dev.held

theorem Holds.refl (w : Work σ) : Holds w w := List.Subset.refl _

section

variable {w w' : Work σ}

theorem Holds.ite {p : Prop} [Decidable p] {a b : Work σ} (ha : Holds w a) (hb : Holds w b) : Holds w (if p then a else b) := by
  split
  · exact ha
  · exact hb

theorem Holds.set (h : Holds w w') (f : Fld) (v : Nat) : Holds w (w'.set f v) := h
theorem Holds.inc (h : Holds w w') (f : Fld) : Holds w (w'.inc f) := h
theorem Holds.updLd (h : Holds w w') (u : LoaderSt → LoaderSt) : Holds w (w'.updLd u) := h
theorem Holds.updTile (h : Holds w w') (t : Nat) (u : Tile → Tile) : Holds w (w'.updTile t u) := h

theorem Holds.fire (h : Holds w w') (n : Nat) : Holds w (w'.fire n) := List.Subset.trans h (List.subset_append_left _ _)

theorem Holds.of_held {w'' : Work σ} (h : Holds w w') (hd : w''.dev.held = w'.dev.held) : Holds w w'' := by rwa [Holds, hd]

theorem Holds.errlog (h : Holds w w') (kind tile detail addr : Nat) (path : Path) : Holds w (w'.errlog kind path tile detail addr) := by
  rw [Holds, errlog_dev]
  exact List.Subset.trans h (List.subset_append_left _ _)

theorem Holds.each {α : Type} (h : Holds w w') (f : Work σ → α → Work σ) (hf : ∀ w'' x, Holds w w'' → Holds w (f w'' x)) (l : List α) :
    Holds w (w'.each l f) := Work.each_keeps (Holds w) f hf l w' h

theorem Holds.ddrTraffic (h : Holds w w') (cls a n : Nat) (write : Bool) : Holds w (ddrTraffic w' cls write a n) := by
  obtain ⟨-, -, -, -, -, hd⟩ := ddrTraffic_onlyDdr w' cls write a n
  exact h.of_held (by rw [hd])

theorem Holds.sendStripe (h : Holds w w') (l : Nat) (bs : List (Nat × Nat)) : Holds w (sendStripe w' l bs) := by
  obtain ⟨-, -, -, -, -, -, hd⟩ := sendStripe_onlyOut w' l bs
  exact h.of_held (by rw [hd])

theorem Holds.ddrWrite (h : Holds w w') (cls a : Nat) (bs : List Byte) : Holds w (w'.ddrWrite cls a bs) := by
  have inside : Holds w ((Machine.ddrTraffic w' cls true a (withinCapacity w' a bs).length).wrBytes a (withinCapacity w' a bs)) :=
    (h.ddrTraffic cls a _ true).of_held (by rw [Work.wrBytes_dev])
  simp only [Work.ddrWrite]
  exact Holds.ite (inside.errlog _ _ _ _ _) inside

/-! ## The queue of the loader -/

theorem Holds.qSkipGaps (h : Holds w w') (t i : Nat) (gs : List PeerGap) : Holds w (qSkipGaps w' t i gs) := by
  induction gs generalizing w' with
  | nil => exact h
  | cons g gs ih =>
    rw [Machine.qSkipGaps]
    split
    · exact ih h
    · exact ih h

theorem Holds.qTakeLoop (h : Holds w w') (t i : Nat) (accept : Nat → Bool) (n : Nat) : Holds w (qTakeLoop t i accept n w').2 := by
  induction n generalizing w' with
  | zero => exact h
  | succ n ih =>
    have skipped := h.qSkipGaps t i (w'.tile t).gaps
    simp only [Machine.qTakeLoop]
    split
    · exact skipped
    · split
      · exact skipped.ddrTraffic _ _ _ _
      · exact ih (w' := ((ringRead _ t i _).set (QTAIL t i) _).inc (QT_CNT1_BAD t i)) (skipped.ddrTraffic _ _ _ _)

theorem Holds.qGap (h : Holds w w') (t i n : Nat) : Holds w (qGap w' t i n) := Holds.ite h h

theorem Holds.qOverflow (h : Holds w w') (t i : Nat) : Holds w (qOverflow w' t i) :=
  Holds.fire (w' := (w'.inc (QT_CNT1_LOST t i)).set (QUEUE_STATUS_LAST_OVF t) i) h (tileSrc t 4)

theorem Holds.qAdmitPeer (h : Holds w w') (t i : Nat) (e : List Byte) : Holds w (qAdmitPeer w' t i e) := by
  simp only [Machine.qAdmitPeer]
  refine Holds.ite h (Holds.ite h ?_)
  have skipped : ∀ n k gs, Holds w (Machine.qSkipGaps (Machine.qGap (if n = 0 then w' else w'.add (QT_CNT1_LOST t i) n) t i k) t i gs) :=
    fun n k gs => ((Holds.ite (p := n = 0) (b := w'.add (QT_CNT1_LOST t i) n) h h).qGap t i k).qSkipGaps t i gs
  exact Holds.ite ((skipped _ _ _).ddrWrite _ _ _) (((skipped _ _ _).qOverflow t i).qGap t i 1)

theorem Holds.peerSend (h : Holds w w') (t i top n : Nat) : Holds w (peerSend t i top n w') := by
  induction n generalizing w' with
  | zero => exact h
  | succ n ih =>
    have read := h.ddrTraffic (ringClass w' t i) (qAddr w' t i (w'.get (QSENT t i))) 32 false
    simp only [Machine.peerSend]
    refine Holds.ite h (Holds.ite (ih ?_) (Holds.ite (Holds.ite (ih ?_) read) (Holds.ite (ih ?_) read)))
    · exact read
    · exact read.sendStripe _ _
    · exact read.qAdmitPeer _ _ _

theorem Holds.qCreditReturn (h : Holds w w') (t i cr : Nat) : Holds w (qCreditReturn w' t i cr) :=
  Holds.ite (Holds.ite (Holds.ite h h) h) (Holds.ite h h)

theorem Holds.peerCredit (h : Holds w w') (t i : Nat) : Holds w (peerCredit w' t i) := by
  refine Holds.ite h (Holds.ite (Holds.ite ?_ (Holds.ite h h)) (Holds.ite ?_ (h.qCreditReturn _ _ _)))
  · exact h.sendStripe _ _
  · exact (h.qCreditReturn _ _ _).peerSend _ _ _ _

theorem Holds.qTake (h : Holds w w') (t i : Nat) (accept : Nat → Bool) : Holds w (qTake w' t i accept).2 :=
  Holds.ite (h.qTakeLoop t i accept _) ((h.qTakeLoop t i accept _).peerCredit _ _)

theorem Holds.imageEntry (h : Holds w w') : Holds w (imageEntry w').2 := by
  rw [Machine.imageEntry]
  split
  · exact h
  · exact h.qTake _ _ _

theorem Holds.loaderStep (h : Holds w w') : Holds w (loaderStep w').2 := by
  have entry := h.imageEntry
  simp only [Machine.loaderStep]
  cases he : Machine.imageEntry w' with
  | mk b w'' =>
    rw [he] at entry
    have both : ∀ (f : Work σ → List Byte → Work σ), (∀ b, Holds w (f w'' b)) → Holds w (match (b, w'') with
        | (some b, w) => (true, f w b)
        | (none, w) => (false, w)).2 := fun f hf => by
      cases b with
      | none => exact entry
      | some b => exact hf b
    split
    · exact h
    · split
      · exact both _ (fun _ => entry)
      · split
        · exact both _ (fun _ => entry)
        · split
          · split
            · exact h
            · exact both _ (fun _ => entry)
          · exact h

theorem Holds.loaderPull (h : Holds w w') : Holds w (loaderPull w') := by
  have take : ∀ n (w'' : Work σ), Holds w w'' → Holds w (loaderTake n w'') := by
    intro n
    induction n with
    | zero => exact fun _ h => h
    | succ n ih => exact fun w'' h => Holds.ite (ih _ h.loaderStep) h.loaderStep
  rw [Machine.loaderPull]
  split
  · exact h
  · exact take _ _ h

theorem Holds.releaseHolds (h : Holds w w') : Holds w (releaseHolds w') := by
  rw [Machine.releaseHolds]
  exact h.each _ (fun _ _ h => (h.set _ _).updTile _ _) _

theorem Holds.loaderIdle (h : Holds w w') : Holds w (loaderIdle w') := (((h.set _ _).set _ _).updLd _).loaderPull

theorem Holds.loadSlot (h : Holds w w') (s : Nat) (other : Option Nat) : Holds w (loadSlot w' s other) :=
  ((((h.set _ _).set _ _).set _ _).set _ _).updLd _

theorem Holds.imageFail (h : Holds w w') (cause seq : Nat) : Holds w (imageFail w' cause seq) := by
  have freed := ((((((((h.set LOADER_ERROR_VALID 1).set LOADER_ERROR_CAUSE cause).set LOADER_ERROR_SEQ seq).errlog 0x05 devTile cause seq
    .hardware).fire 502).inc LOADER_COUNT_ERRORS).releaseHolds).set LOADER_SWAP_PEND 0).set LOADER_P
  simp only [Machine.imageFail]
  split
  · split
    · exact ((freed _).set _ _).loadSlot _ _
    · exact (freed _).loaderIdle
  · exact (((freed _).set _ _).updLd _).loaderPull

theorem Holds.loaderEpoch (h : Holds w w') : Holds w (loaderEpoch w') := by
  rw [Machine.loaderEpoch]
  split
  · split
    · exact Holds.ite h (h.imageFail _ _)
    · exact h
  · exact h

end

/-! ## An accepted edge empties the tiles (R37) -/

/-- R214: one tile that was HALTED is NOT_RELEASED. -/
def unhalt (w : Work σ) (t : Nat) : Work σ :=
  if w.get (SEQ_STATE_STATE t) = HALTED then
    (((w.set (SEQ_STATE_STATE t) NOT_RELEASED).set (SEQ_STATE_STEPPING t) 0).set (FB_FENCE_WAITING t) 0).updSeq t
      (fun s => { s with cur := none, haltReq := false, swapping := false, cutPending := false })
  else w

/-- Every tile emptied. -/
def emptied (w : Work σ) : Work σ := withDev w { w.dev with tiles := w.dev.tiles.map tileEmptied }

theorem tilesEmptied_eq (w : Work σ) : tilesEmptied w =
    if (List.range 32).all (fun t => decide (((emptied w).each (List.range 32) unhalt).get (SEQ_STATE_STATE t) = NOT_RELEASED)) then
      ((emptied w).each (List.range 32) unhalt).set DEV_STATUS_TILES_RELEASED 0
    else (emptied w).each (List.range 32) unhalt := rfl

theorem unhalt_state (w : Work σ) (t u : Nat) (h : u = t ∨ w.get (SEQ_STATE_STATE u) ≠ HALTED) :
    (unhalt w t).get (SEQ_STATE_STATE u) ≠ HALTED := by
  have key : u ≠ t → (unhalt w t).get (SEQ_STATE_STATE u) = w.get (SEQ_STATE_STATE u) := fun hne => by
    rw [unhalt]
    split
    · simp (disch := (simp only [Fld.key, SEQ_STATE_STATE, SEQ_STATE_STEPPING, FB_FENCE_WAITING, tileBase]; omega)) only
        [Work.get_updSeq, Work.get_set_ne]
    · rfl
  by_cases hut : u = t
  · subst hut
    rw [unhalt]
    split
    · simp (disch := (simp only [Fld.key, SEQ_STATE_STATE, SEQ_STATE_STEPPING, FB_FENCE_WAITING, tileBase]; omega)) only
        [Work.get_updSeq, Work.get_set_ne, Work.get_set_self]
      exact (by decide : NOT_RELEASED % 4 ≠ HALTED)
    · assumption
  · rw [key hut]
    exact h.resolve_left hut

theorem each_unhalt_state (l : List Nat) (w : Work σ) (u : Nat) (h : u ∈ l ∨ w.get (SEQ_STATE_STATE u) ≠ HALTED) :
    (w.each l unhalt).get (SEQ_STATE_STATE u) ≠ HALTED := by
  induction l generalizing w with
  | nil => simpa [Work.each] using h
  | cons t l ih =>
    refine ih (unhalt w t) ?_
    by_cases hl : u ∈ l
    · exact .inl hl
    · refine .inr (unhalt_state w t u ?_)
      rcases h with h | h
      · exact .inl ((List.mem_cons.1 h).resolve_right hl)
      · exact .inr h

/-- What is left of the tiles when all are emptied. -/
def Emptied (w : Work σ) : Prop := ∀ u < 32, (w.tile u).clasps = Vector.replicate 33 Clasp.reset ∧ (w.tile u).stage = []

theorem emptied_tiles (w : Work σ) : Emptied (emptied w) := by
  intro u hu
  have tile : (emptied w).tile u = tileEmptied (w.tile u) := by simp [Work.tile, emptied, vget, hu]
  rw [tile]
  exact ⟨rfl, rfl⟩

theorem Emptied.unhalt {w : Work σ} (h : Emptied w) (t : Nat) (ht : t < 32) : Emptied (unhalt w t) := by
  rw [EpochProofs.unhalt]
  split
  · intro u hu
    rw [Work.updSeq, Work.tile_updTile _ _ _ _ ht]
    split
    · subst u
      exact h t ht
    · exact h u hu
  · exact h

theorem each_unhalt (l : List Nat) (hl : ∀ t ∈ l, t < 32) (w : Work σ) (h : Emptied w) :
    Emptied (w.each l unhalt) ∧ (w.each l unhalt).dev.held = w.dev.held := by
  induction l generalizing w with
  | nil => exact ⟨h, rfl⟩
  | cons t l ih =>
    obtain ⟨he, hh⟩ := ih (fun u hu => hl u (List.mem_cons_of_mem _ hu)) (unhalt w t) (h.unhalt t (hl t List.mem_cons_self))
    refine ⟨he, hh.trans ?_⟩
    rw [unhalt]
    split <;> rfl

theorem tilesEmptied_spec (w : Work σ) : Emptied (tilesEmptied w) ∧ (tilesEmptied w).dev.held = w.dev.held ∧
    ∀ u < 32, (tilesEmptied w).get (SEQ_STATE_STATE u) ≠ HALTED := by
  obtain ⟨he, hh⟩ := each_unhalt (List.range 32) (fun t => List.mem_range.1) (emptied w) (emptied_tiles w)
  have halted : ∀ u < 32, ((emptied w).each (List.range 32) unhalt).get (SEQ_STATE_STATE u) ≠ HALTED := fun u hu =>
    each_unhalt_state _ _ u (.inl (List.mem_range.2 hu))
  have apart : ∀ u, (SEQ_STATE_STATE u).key ≠ DEV_STATUS_TILES_RELEASED.key := fun u => by
    simp only [Fld.key, SEQ_STATE_STATE, DEV_STATUS_TILES_RELEASED, tileBase]
    omega
  rw [tilesEmptied_eq]
  generalize (emptied w).each (List.range 32) unhalt = w' at *
  split
  · exact ⟨he, hh, fun u hu => by rw [Work.get_set_ne _ _ _ _ (apart u)]; exact halted u hu⟩
  · exact ⟨he, hh, halted⟩

/-! ## The edge -/

/-- The device as an accepted edge has emptied it. -/
def edgeEmptied (s : State) : Work s :=
  tilesEmptied (loaderEpoch ((slotsReset ((Work.start s).each (List.range 32) tileEpoch)).fire 497))

theorem edgeEmptied_fires (s : State) : ∃ f ∈ (edgeEmptied s).dev.held, f.src = 497 := by
  rw [edgeEmptied, (tilesEmptied_spec _).2.1]
  refine ⟨_, (Holds.refl _).loaderEpoch (List.mem_append_right _ List.mem_cons_self), rfl⟩

/-- The registers and the typed state of an accepted edge (R36, R39, R373). -/
def accepted (w : Work σ) (phase z part : Nat) : Work σ :=
  withDev (((w.set TIME_EPOCH_CTRL 0).set TIME_EPOCH_STATUS_VALID 1).set TIME_EPOCH_STATUS_PHASE phase)
    { w.dev with epochZero := some z, epochPart := part, ntCmd := w.dev.ntCmd.map (fun c => { c with edge := true }) }

theorem epochAccept_eq (s : State) (phase : Nat) :
    epochAccept (Work.start s) phase = accepted (edgeEmptied s) phase (zeroTick s.view) (zeroPart s.view) := by
  have post : ∀ w : Work s, (let w' := ((w.set TIME_EPOCH_CTRL 0).set TIME_EPOCH_STATUS_VALID 1).set TIME_EPOCH_STATUS_PHASE phase
      ({ w' with dev := { w'.dev with
        epochZero := some (zeroTick s.view), epochPart := zeroPart s.view
        ntCmd := w'.dev.ntCmd.map (fun c => { c with edge := true }) } } : Work s)) =
      accepted w phase (zeroTick s.view) (zeroPart s.view) := fun _ => rfl
  rw [edgeEmptied]
  exact post _

theorem accepted_get (w : Work σ) (phase : Fin 500) (z part : Nat) : (accepted w phase z part).get TIME_EPOCH_CTRL = 0 ∧
    (accepted w phase z part).get TIME_EPOCH_STATUS_VALID = 1 ∧ (accepted w phase z part).get TIME_EPOCH_STATUS_PHASE = phase ∧
    ∀ u, (accepted w phase z part).get (SEQ_STATE_STATE u) = w.get (SEQ_STATE_STATE u) := by
  refine ⟨?_, ?_, ?_, fun u => ?_⟩ <;> rw [accepted, get_withDev]
  · simp (disch := decide) only [Work.get_set_ne, Work.get_set_self]
    rfl
  · simp (disch := decide) only [Work.get_set_ne, Work.get_set_self]
    rfl
  · rw [Work.get_set_self]
    exact Nat.mod_eq_of_lt (Nat.lt_trans phase.isLt (by decide))
  · obtain ⟨h1, h2, h3⟩ : (SEQ_STATE_STATE u).key ≠ TIME_EPOCH_CTRL.key ∧ (SEQ_STATE_STATE u).key ≠ TIME_EPOCH_STATUS_VALID.key ∧
        (SEQ_STATE_STATE u).key ≠ TIME_EPOCH_STATUS_PHASE.key := by
      simp only [Fld.key, SEQ_STATE_STATE, TIME_EPOCH_CTRL, TIME_EPOCH_STATUS_VALID, TIME_EPOCH_STATUS_PHASE, tileBase]
      omega
    rw [Work.get_set_ne _ _ _ _ h3, Work.get_set_ne _ _ _ _ h2, Work.get_set_ne _ _ _ _ h1]

/-- R37: an accepted edge fires EPOCH, empties the tiles and leaves none HALTED. -/
theorem epochAccept_spec (s : State) (phase : Nat) : ∃ w : Work s,
    epochAccept (Work.start s) phase = accepted w phase (zeroTick s.view) (zeroPart s.view) ∧ (∃ f ∈ w.dev.held, f.src = 497) ∧
      Emptied w ∧ ∀ u < 32, w.get (SEQ_STATE_STATE u) ≠ HALTED := by
  obtain ⟨hempty, -, hhalted⟩ := tilesEmptied_spec (loaderEpoch ((slotsReset ((Work.start s).each (List.range 32) tileEpoch)).fire 497))
  exact ⟨edgeEmptied s, epochAccept_eq s phase, edgeEmptied_fires s, hempty, hhalted⟩

/-! ## The boundary -/

/-- The registers that a sample of the flux stream may write. -/
def ClipFld (g : Fld) : Prop := ∃ t e, g = FLUX_CLIP_STICKY t e ∨ g = FLUX_CLIP_COUNT t e

theorem sticky_clip (t e : Nat) : ClipFld (FLUX_CLIP_STICKY t e) := ⟨t, e, .inl rfl⟩
theorem count_clip (t e : Nat) : ClipFld (FLUX_CLIP_COUNT t e) := ⟨t, e, .inr rfl⟩

theorem tileWork_fluxSample {w w' : Work σ} (h : TileWork ClipFld w w') (t e : Nat) (v : Int) :
    TileWork ClipFld w (fluxSample w' t e v) :=
  TileWork.ite ((h.updTile _ _).set _ _ (sticky_clip _ _)) (h.updTile _ _)

theorem tileWork_fluxExtra {w w' : Work σ} (h : TileWork ClipFld w w') (t f : Nat) : TileWork ClipFld w (fluxExtra w' t f) := by
  rw [fluxExtra]
  refine TileWork.ite h (TileWork.each (TileWork.each (TileWork.each h _ _ ?_) _ _ ?_) _ _ ?_)
  · exact fun w'' e h => tileWork_fluxSample h t e _
  · exact fun w'' e h => TileWork.ite (h.set _ _ (sticky_clip _ _)) h
  · exact fun w'' b h => (TileWork.ite ((h.set _ _ (sticky_clip _ _)).inc _ (count_clip _ _)) h).updTile _ _

theorem tileWork_gridShift (w : Work σ) : TileWork ClipFld w (gridShift w) := by
  rw [gridShift]
  exact TileWork.ite (TileWork.refl w) ((TileWork.refl w).each _ _ (fun w'' t h => tileWork_fluxExtra h t _))

theorem nt_not_clip : ∀ g, ClipFld g → NT_NOW.key ≠ g.key := by
  rintro g ⟨t, e, rfl | rfl⟩ <;> simp only [Fld.key, NT_NOW, hid, hidDev, FLUX_CLIP_STICKY, FLUX_CLIP_COUNT, tileBase] <;> omega

theorem markSrc_not_clip (m : Nat) (hm : m < 8) : ∀ g, ClipFld g → (TIME_MARK_SRC m).key ≠ g.key := by
  rintro g ⟨t, e, rfl | rfl⟩ <;> simp only [Fld.key, TIME_MARK_SRC, FLUX_CLIP_STICKY, FLUX_CLIP_COUNT, tileBase] <;> omega

/-! ## The clauses -/

theorem epochArming : Clause.EpochArming := by
  intro s hs
  refine ⟨fun via h => ?_, fun via h => ?_, fun phase href harm => ?_⟩
  · refine ⟨_, by rw [exec, execEpochArm, run_eq, epochArm, if_neg (by simpa using h)], ?_, plain_finish hs (by simp) (by simp) rfl rfl⟩
    rw [Work.finish_get _ _ hs, Work.get_set_self]
    rfl
  · obtain ⟨w, hw, hlogged, hk, hq, hd, hf⟩ := errlog_effect (Work.start s) 0x02 63 0 TIME_EPOCH_CTRL.addr (viaPath via) hs
      (Work.get_start _ _) (by decide) (by decide)
    have arm : epochArm (Work.start s) (viaPath via) = w := by
      rw [epochArm, if_pos h, ← hw]
      rfl
    rw [firing_eq _ 487 rfl (Work.get_start _ _)] at hd
    exact ⟨w.finish, by rw [exec, execEpochArm, run_eq, arm], hlogged,
      leaves_finish hs ((hk _ (List.Subset.refl _)).2 (keeps_start s _)) (hq.2 (quiet_start s)) hd hf⟩
  · have live : ¬(!(Work.start s).on DEV_STATUS_REFCLK_OK) = true := by simp [Work.on, href]
    have free : ¬(Work.start s).on TIME_EPOCH_CTRL = true := by simp [Work.on, harm]
    refine ⟨_, by rw [exec, execEpochEdge, run_eq, if_neg live, if_neg free], ?_, plain_finish hs (by simp) (by simp) rfl rfl⟩
    rw [Work.finish_get _ _ hs, get_inc, Work.get_start]

theorem answers_accepted (s : State) (hs : s.wf = true) (phase : Fin 500) (href : s.get DEV_STATUS_REFCLK_OK ≠ 0)
    (harm : s.get TIME_EPOCH_CTRL ≠ 0) : Answers (.epochEdge phase) s (fun t =>
      t.get TIME_EPOCH_CTRL = 0 ∧ t.get TIME_EPOCH_STATUS_VALID = 1 ∧ t.get TIME_EPOCH_STATUS_PHASE = phase ∧
      t.dev.epochZero = some ((s.dev.ticks : Int) + 256 + sext 12 (s.get TIME_DESKEW) / 16).toNat ∧
      t.dev.epochPart = (sext 12 (s.get TIME_DESKEW) % 16).toNat ∧
      (∃ f ∈ t.dev.held, f.src = 497) ∧
      (∀ u < 32, (t.tile u).clasps = Vector.replicate 33 Clasp.reset ∧ (t.tile u).stage = []) ∧
      (∀ u < 32, t.get (SEQ_STATE_STATE u) ≠ HALTED) ∧ t.fuse = s.fuse ∧ t.pending = s.pending) := by
  have live : ¬(!(Work.start s).on DEV_STATUS_REFCLK_OK) = true := by simp [Work.on, href]
  have armed : (Work.start s).on TIME_EPOCH_CTRL = true := by simp [Work.on, harm]
  obtain ⟨w, accept, fires, hempty, hhalted⟩ := epochAccept_spec s phase
  obtain ⟨harmed, hvalid, hphase, hstate⟩ := accepted_get w phase (zeroTick s.view) (zeroPart s.view)
  refine ⟨(accepted w phase (zeroTick s.view) (zeroPart s.view)).finish,
    by rw [exec, execEpochEdge, run_eq, if_neg live, if_pos armed, accept], ?_, ?_, ?_, ?_, ?_, fires, hempty, fun u hu => ?_,
    rfl, rfl⟩
  · rw [Work.finish_get _ _ hs, harmed]
  · rw [Work.finish_get _ _ hs, hvalid]
  · rw [Work.finish_get _ _ hs, hphase]
  · rw [Work.finish_dev, accepted, withDev_dev, zeroTick, Work.start_dev, Work.get_start]
  · rw [Work.finish_dev, accepted, withDev_dev, zeroPart, Work.get_start]
  · rw [Work.finish_get _ _ hs, hstate]
    exact hhalted u hu

/-- R36: TL becomes 0 and counts, and the edge waits no longer. -/
def zeroed (w : Work σ) : Work σ := { w with tlc := .start, dev := { w.dev with epochZero := none, epochPart := 0 } }

theorem get_zeroed (w : Work σ) (f : Fld) : (zeroed w).get f = w.get f := rfl

/-- What the boundary leaves (R36, R374, R376). -/
def boundary (w : Work σ) : Work σ := zeroMarks (ntEpochLatch (zeroed w))

theorem get_boundary (w : Work σ) (f : Fld) : (boundary w).get f = (ntEpochLatch (zeroed w)).get f := rfl

theorem boundary_get (w : Work σ) : (boundary w).get TIME_NT_EPOCH_FRAC = w.get NT_NOW % 2 ^ 32 ∧
    (boundary w).get TIME_NT_EPOCH_LO = w.get NT_NOW / 2 ^ 32 % 2 ^ 32 ∧
    (boundary w).get TIME_NT_EPOCH_HI = w.get NT_NOW / 2 ^ 64 % 2 ^ 32 := by
  refine ⟨?_, ?_, ?_⟩ <;>
  · rw [get_boundary, ntEpochLatch]
    simp (disch := decide) only [Work.get_set_self, Work.get_set_ne, get_zeroed]
    rfl

theorem boundary_keeps (w : Work σ) (fs : List Fld) (hfs : [TIME_NT_EPOCH_FRAC, TIME_NT_EPOCH_LO, TIME_NT_EPOCH_HI] ⊆ fs) :
    Keeps (boundary w) fs ↔ Keeps w fs := by
  refine keeps_of_get (fun f hf => ?_)
  rw [get_boundary, ntEpochLatch, Work.get_set_ne _ _ _ _ (hf _ (hfs (by simp))), Work.get_set_ne _ _ _ _ (hf _ (hfs (by simp))),
    Work.get_set_ne _ _ _ _ (hf _ (hfs (by simp))), get_zeroed]

theorem boundary_dev (w : Work σ) : (boundary w).dev = { w.dev with
    epochZero := none, epochPart := 0
    marks := w.dev.marks ++ ((List.range 8).filter (fun m => decide (w.get (TIME_MARK_SRC m) = 3))).map (fun m => (m, w.dev.ticks)) } := by
  have src : ∀ m, (ntEpochLatch (zeroed w)).get (TIME_MARK_SRC m) = w.get (TIME_MARK_SRC m) := fun m => by
    rw [ntEpochLatch]
    simp (disch := (simp only [Fld.key, TIME_MARK_SRC, TIME_NT_EPOCH_FRAC, TIME_NT_EPOCH_LO, TIME_NT_EPOCH_HI]; omega)) only
      [Work.get_set_ne, get_zeroed]
  rw [boundary, zeroMarks]
  simp only [src]
  rfl

theorem boundary_stores (w : Work σ) (hs : σ.wf = true) (hq : Quiet w) : StoresKept σ (boundary w).finish :=
  ⟨fun a => (Work.finish_byteAt _ a hs).trans (hq.rd8 a), fun a => (Work.finish_flashAt _ a hs).trans (hq.fl8 a)⟩

theorem execTlZero_eq (s : State) (h : zeroReached s.view = true) :
    exec .tlZeroBoundary s = .next (boundary (gridShift (Work.start s))).finish := by
  rw [exec, execTlZeroBoundary, run_eq, if_pos h]
  rfl

theorem answers_boundary (s : State) (hs : s.wf = true) (h : zeroReached s.view = true) : Answers .tlZeroBoundary s (fun t =>
      t.tl = ⟨0, true⟩ ∧ t.get TIME_NT_EPOCH_FRAC = s.get NT_NOW % 2 ^ 32 ∧
      t.get TIME_NT_EPOCH_LO = s.get NT_NOW / 2 ^ 32 % 2 ^ 32 ∧ t.get TIME_NT_EPOCH_HI = s.get NT_NOW / 2 ^ 64 % 2 ^ 32 ∧
      StoresKept s t ∧ t.fuse = s.fuse ∧ t.pending = s.pending ∧ t.dev.epochZero = none ∧ t.dev.epochPart = 0 ∧
      (s.dev.epochPart < 8 → RegsBut s t [TIME_NT_EPOCH_FRAC, TIME_NT_EPOCH_LO, TIME_NT_EPOCH_HI] ∧
        t.dev = { s.view.dev with epochZero := none, epochPart := 0, marks := t.dev.marks }) ∧
      ∀ m < 8, s.get (TIME_MARK_SRC m) = 3 → (m, s.dev.ticks) ∈ t.dev.marks) := by
  obtain ⟨hregs, hquiet, -, hdev⟩ := tileWork_gridShift (Work.start s)
  have still : s.dev.epochPart < 8 → gridShift (Work.start s) = Work.start s := fun hp => by
    rw [gridShift, if_pos (.inl hp)]
  refine ⟨_, execTlZero_eq s h, ?_⟩
  generalize gridShift (Work.start s) = w at *
  have nt : w.get NT_NOW = s.get NT_NOW := (hregs _ nt_not_clip).trans (Work.get_start s _)
  obtain ⟨hfrac, hlo, hhi⟩ := boundary_get w
  rw [nt] at hfrac hlo hhi
  have dev := boundary_dev w
  refine ⟨?_, ?_, ?_, ?_, boundary_stores w hs (hquiet (quiet_start s)), rfl, rfl, ?_, ?_, fun hp => ⟨?_, ?_⟩, fun m hm hsrc => ?_⟩
  · rw [Work.finish_tl]
    rfl
  · rw [Work.finish_get _ _ hs, hfrac]
  · rw [Work.finish_get _ _ hs, hlo]
  · rw [Work.finish_get _ _ hs, hhi]
  · rw [Work.finish_dev, dev]
  · rw [Work.finish_dev, dev]
  · exact regsBut_finish hs ((boundary_keeps w _ (List.Subset.refl _)).2 (still hp ▸ keeps_start s _))
  · rw [Work.finish_dev, dev, still hp]
  · have src : w.get (TIME_MARK_SRC m) = 3 := (hregs _ (markSrc_not_clip m hm)).trans ((Work.get_start s _).trans hsrc)
    have ticks : w.dev.ticks = s.dev.ticks := by rw [hdev]; rfl
    rw [Work.finish_dev, dev, ticks]
    exact List.mem_append_right _ (List.mem_map.2 ⟨m, List.mem_filter.2 ⟨List.mem_range.2 hm, by simp [src]⟩, rfl⟩)

/-- Settles O7: arming, the edge that empties the device, and the boundary at which TL is 0. -/
theorem epoch : Obligations.Epoch := ⟨epochArming, fun s hs => ⟨answers_accepted s hs, answers_boundary s hs⟩⟩

end Sys2Proof.EpochProofs
end

section
/-! PROOFS. PORESET_N low and its rise (R433, R443, R444, R447, R448, R449). -/

namespace Sys2Proof.PowerProofs

open Sys2Proof.Machine Sys2Proof.Effects

variable {σ : State}

/-! ## The levels at the balls (R444) -/

/-- The levels that a reset gives the balls. -/
def resetLevels : List Out :=
  (List.range 64).map (fun i => .ball "XY_OUT" i 0) ++ (List.range 32).map (fun i => .ball "PROBE_OUT" i 0) ++
    (List.range 256).map (fun i => .ball "FX_OUT" i 0) ++ (List.range 32).map (fun i => .ball "SER_TX" i 0) ++
    (List.range 8).map (fun i => .ball "MARK_OUT" i 0) ++ (List.range 4).map (fun i => .ball "ALERT_N" i 1) ++ [.ball "BOOT_CS_N" 0 1]

theorem zeroBalls_eq (w : Work σ) (name : String) (n : Nat) : zeroBalls w name n = emits w ((List.range n).map (fun i => .ball name i 0)) :=
  each_emit w _ _

theorem resetBalls_eq (w : Work σ) : resetBalls w = emits w resetLevels := by
  simp only [resetBalls, zeroBalls_eq, each_emit, emits_emits]
  rw [emit_eq_emits, emits_emits]
  rfl

theorem xy_mem_resetLevels (i : Nat) (hi : i < 64) : Out.ball "XY_OUT" i 0 ∈ resetLevels := by
  simp only [resetLevels, List.append_assoc]
  exact List.mem_append_left _ (List.mem_map.2 ⟨i, List.mem_range.2 hi, rfl⟩)

theorem bootCs_mem_resetLevels : Out.ball "BOOT_CS_N" 0 1 ∈ resetLevels := List.mem_append_right _ List.mem_cons_self

/-! ## PORESET_N low -/

/-- The fields whose value a reset by PORESET_N takes over. -/
def taken : List Fld := [THERM_STORM_TRIPPED, THERM_STORM_OVERTEMP, THERM_STORM_DIODE_OPEN, THERM_STORM_DIODE_SHORT, SCLK_PRESENT]

/-- Registers and memory taken to their reset values, with the typed state of reset and TL stopped. -/
def wiped (w : Work σ) : Work σ := { (w.wipeRegs [(0, 2 ^ 60)]).wipeMem [(0, 2 ^ 40)] with dev := Dev.reset, tlc := .stop }

theorem wiped_get (w : Work σ) (f : Fld) (hf : f.key < 2 ^ 60) : (wiped w).get f = f.reset := by
  have inside : inRanges [(0, 2 ^ 60)] f.key = true := by
    simp only [inRanges, List.any_cons, List.any_nil, Bool.or_false, Bool.and_eq_true, decide_eq_true_eq]
    exact ⟨Nat.zero_le _, hf⟩
  rw [show (wiped w).get f = (w.wipeRegs [(0, 2 ^ 60)]).get f from rfl, Work.get_wipeRegs, if_pos inside]

/-- Fields set to the values that they had. -/
def restore (w : Work σ) (v : Fld → Nat) (fs : List Fld) : Work σ := w.each (fs.map (fun f => (f, v f))) (fun w f => w.set f.1 f.2)

theorem restore_get_ne (w : Work σ) (v : Fld → Nat) (fs : List Fld) (f : Fld) (hf : ∀ g ∈ fs, f.key ≠ g.key) :
    (restore w v fs).get f = w.get f := by
  induction fs generalizing w with
  | nil => rfl
  | cons g fs ih =>
    exact (ih (w.set g (v g)) (fun h hh => hf h (List.mem_cons_of_mem _ hh))).trans (Work.get_set_ne _ _ _ _ (hf g List.mem_cons_self))

theorem restore_taken_get (w : Work σ) (v : Fld → Nat) : ∀ f ∈ taken, (restore w v taken).get f = v f % 2 ^ f.width := by
  intro f hf
  simp only [taken, List.mem_cons, List.not_mem_nil, or_false] at hf
  rcases hf with rfl | rfl | rfl | rfl | rfl <;>
    simp (disch := decide) only [restore, taken, List.map_cons, List.map_nil, Work.each, List.foldl_cons, List.foldl_nil,
      Work.get_set_ne, Work.get_set_self]

theorem restore_dev (w : Work σ) (v : Fld → Nat) (fs : List Fld) : (restore w v fs).dev = w.dev ∧ (restore w v fs).tlc = w.tlc ∧
    (restore w v fs).flog = w.flog ∧ (restore w v fs).fwipe = w.fwipe := by
  induction fs generalizing w with
  | nil => exact ⟨rfl, rfl, rfl, rfl⟩
  | cons g fs ih => exact ih (w.set g (v g))

/-- What PORESET_N low leaves behind. -/
def asserted (w w0 : Work σ) (prev : Bool) : Work σ :=
  emits (((restore (wiped w) w0.get taken).setB DEV_RESET_CAUSE_PREV_STORM prev).set PORESET_LOW 1) (resetLevels ++ [.currentLimit 80])

theorem poresetAssert_eq (w : Work σ) : poresetAssert w =
    asserted (flashCut w) w (w.on DEV_RESET_CAUSE_PREV_STORM || w.on THERM_STORM_TRIPPED) := by
  have limit : currentLimit 0 = 80 := rfl
  rw [asserted, ← emits_emits, ← resetBalls_eq, ← emit_eq_emits, ← limit]
  rfl

theorem asserted_get (w w0 : Work σ) (prev : Bool) (f : Fld) (hf : f.key ≠ DEV_RESET_CAUSE_PREV_STORM.key ∧ f.key ≠ PORESET_LOW.key) :
    (asserted w w0 prev).get f = (restore (wiped w) w0.get taken).get f := by
  rw [asserted, get_emits, Work.get_set_ne _ _ _ _ hf.2, Work.setB, Work.get_set_ne _ _ _ _ hf.1]

theorem asserted_dev (w w0 : Work σ) (prev : Bool) : (asserted w w0 prev).dev = { Dev.reset with out := resetLevels ++ [.currentLimit 80] } := by
  rw [asserted, emits_dev, Work.set_dev, Work.setB_dev, (restore_dev _ _ _).1,
    show (wiped w).dev = Dev.reset from rfl, show Dev.reset.out = [] from rfl, List.nil_append]

theorem fl8_of_log {w w' : Work σ} (hlog : w'.flog = w.flog) (hwipe : w'.fwipe = w.fwipe) (a : Nat) : w'.fl8 a = w.fl8 a := by
  rw [Work.fl8, Work.fl8, hlog, hwipe]

theorem asserted_fl8 (w w0 : Work σ) (prev : Bool) (a : Nat) : (asserted w w0 prev).fl8 a = w.fl8 a := by
  obtain ⟨-, -, hlog, hwipe⟩ := restore_dev (wiped w) w0.get taken
  have wlog : (wiped w).flog = w.flog := rfl
  have wwipe : (wiped w).fwipe = w.fwipe := rfl
  rw [asserted, fl8_emits]
  refine fl8_of_log ?_ ?_ a
  · rw [Work.set_flog, Work.setB_flog, hlog, wlog]
  · rw [Work.set_fwipe, Work.setB_fwipe, hwipe, wwipe]

theorem asserted_tlc (w w0 : Work σ) (prev : Bool) : (asserted w w0 prev).tlc = .stop := by
  rw [asserted, emits_tlc, Work.set_tlc, Work.setB_tlc, (restore_dev _ _ _).2.1]
  rfl

theorem taken_get (s : State) (w : Work s) (prev : Bool) : ∀ f ∈ taken, (asserted w (Work.start s) prev).get f = s.get f % 2 := by
  intro f hf
  have apart : ∀ f ∈ taken, (f.key ≠ DEV_RESET_CAUSE_PREV_STORM.key ∧ f.key ≠ PORESET_LOW.key) ∧ f.width = 1 := by decide
  obtain ⟨hkey, hwidth⟩ := apart f hf
  rw [asserted_get _ _ _ _ hkey, restore_taken_get _ _ f hf, hwidth, Work.get_start, pow_one]

theorem resetAssertion : Clause.ResetAssertion := by
  intro s hs
  have exec_eq : exec .poresetAssert s = .next (asserted (flashCut (Work.start s)) (Work.start s)
      ((Work.start s).on DEV_RESET_CAUSE_PREV_STORM || (Work.start s).on THERM_STORM_TRIPPED)).finish := by
    rw [exec, execPoresetAssert, run_eq, poresetAssert_eq]
  have takenSub : ∀ f ∈ SCLK_PRESENT :: stormKept, f ∈ taken := by decide
  have keptSub : ∀ f ∈ taken, f ∈ [DEV_RESET_CAUSE_PREV_STORM, SCLK_PRESENT, PORESET_LOW] ++ stormKept := by decide
  refine ⟨_, exec_eq, fun f hf hne => ?_, fun f hf => ?_, ?_, ?_, ?_, ?_, rfl, rfl, ?_, fun i hi => ?_, ?_, fun hop a => ?_⟩
  · rw [Work.finish_get _ _ hs, asserted_get _ _ _ _ ⟨hne _ (by decide), hne _ (by decide)⟩,
      restore_get_ne _ _ _ _ (fun g hg => hne g (keptSub g hg)), wiped_get _ f hf]
  · rw [Work.finish_get _ _ hs, taken_get s _ _ f (takenSub f hf)]
  · rw [Work.finish_get _ _ hs, asserted, get_emits, Work.get_set_self]
    rfl
  · rw [Work.finish_dev, asserted_dev]
    exact List.mem_append_right _ List.mem_cons_self
  · rw [Work.finish_get _ _ hs, asserted, get_emits, Work.get_set_ne _ _ _ _ (by decide), Work.setB, Work.get_set_self]
    change b2n (_ || _) % 2 = _
    simp only [Work.on, Work.get_start]
    by_cases h1 : s.get DEV_RESET_CAUSE_PREV_STORM = 0 <;> by_cases h2 : s.get THERM_STORM_TRIPPED = 0 <;> simp [h1, h2, b2n]
  · rw [Work.finish_tl, asserted_tlc]
    rfl
  · rw [Work.finish_dev, asserted_dev]
  · rw [Work.finish_dev, asserted_dev]
    exact List.mem_append_left _ (xy_mem_resetLevels i hi)
  · rw [Work.finish_dev, asserted_dev]
    exact List.mem_append_left _ bootCs_mem_resetLevels
  · have still : flashCut (Work.start s) = Work.start s := by simp only [flashCut, Work.ld, Work.start_dev, hop]
    rw [Work.finish_flashAt _ _ hs, asserted_fl8, still, (quiet_start s).fl8]

/-! ## PORESET_N rises -/

/-- The fields that a rise of PORESET_N without a trip condition releases. -/
def stormFlds : List Fld := [THERM_STORM_TRIPPED, THERM_STORM_OVERTEMP, THERM_STORM_DIODE_OPEN, THERM_STORM_DIODE_SHORT, THERM_STORM_FLASH_BLOCKED]

/-- Storm released. -/
def stormReleased (w : Work σ) : Work σ := w.each stormFlds (fun w f => w.set f 0)

theorem stormReleased_get (w : Work σ) : ∀ f ∈ stormFlds, (stormReleased w).get f = 0 := by
  intro f hf
  simp only [stormFlds, List.mem_cons, List.not_mem_nil, or_false] at hf
  rcases hf with rfl | rfl | rfl | rfl | rfl <;>
    simp (disch := decide) only [stormReleased, stormFlds, Work.each, List.foldl_cons, List.foldl_nil, Work.get_set_ne,
      Work.get_set_self, Nat.zero_mod]

theorem stormReleased_keeps (w : Work σ) (fs : List Fld) (hfs : stormFlds ⊆ fs) : Keeps (stormReleased w) fs ↔ Keeps w fs := by
  have mem : ∀ f ∈ stormFlds, f ∈ fs := hfs
  simp only [stormFlds, List.mem_cons, List.not_mem_nil, or_false, forall_eq_or_imp, forall_eq] at mem
  obtain ⟨h1, h2, h3, h4, h5⟩ := mem
  simp [stormReleased, stormFlds, Work.each, h1, h2, h3, h4, h5]

/-- What the rise does to Storm. -/
def stormAtRise (w : Work σ) (trip : Bool) : Work σ :=
  if trip then w else if w.on THERM_STORM_TRIPPED then (stormReleased w).emit (.ball "THERM_TRIP_N" 0 1) else stormReleased w

/-- BOOT_SEL sampled at the rise, before the reserved value is logged. -/
def sampled (w : Work σ) (sel : Nat) : Work σ :=
  ((((((w.set PORESET_LOW 0).set PTP_CLOCK_ID_HI (σ.fuse.mac / 2 ^ 24 * 2 ^ 8 + 0xFF)).set PTP_CLOCK_ID_LO
    (0xFE * 2 ^ 24 + σ.fuse.mac % 2 ^ 24)).set DEV_BOOT_SEL sel).setB DEV_BOOT_WAITING (decide (2 ≤ sel))).updLd (fun l => { l with
      boot := if sel = 0 then .flash else if sel = 1 then .open_ else .closed }))

theorem poresetRelease_eq (w : Work σ) (sel : Nat) (trip : Bool) : poresetRelease w sel trip =
    if sel = 3 then (sampled (stormAtRise w trip) sel).errlog 0x02 .hardware 63 0 DEV_BOOT_SEL.addr
    else sampled (stormAtRise w trip) sel := by
  have released : stormAtRise w trip = if trip then w else
      let was := w.on THERM_STORM_TRIPPED
      let w := w.each [THERM_STORM_TRIPPED, THERM_STORM_OVERTEMP, THERM_STORM_DIODE_OPEN, THERM_STORM_DIODE_SHORT,
        THERM_STORM_FLASH_BLOCKED] (fun w f => w.set f 0)
      if was then w.emit (.ball "THERM_TRIP_N" 0 1) else w := rfl
  rw [poresetRelease, ← released]
  rfl

theorem stormAtRise_spec (s : State) (trip : Bool) : ∃ w : Work s, stormAtRise (Work.start s) trip = w ∧
    (∀ f ∈ stormFlds, w.get f = if trip then s.get f else 0) ∧ Keeps w (if trip then [] else stormFlds) ∧ Quiet w ∧
    w.dev.loader = s.dev.loader ∧ w.fresh = s.fresh := by
  refine ⟨_, rfl, ?_⟩
  cases trip with
  | true => exact ⟨fun f _ => Work.get_start s f, keeps_start s _, quiet_start s, rfl, rfl⟩
  | false =>
    have keeps := (stormReleased_keeps (Work.start s) stormFlds (List.Subset.refl _)).2 (keeps_start s _)
    rw [stormAtRise, if_neg (by simp)]
    have get : ∀ f ∈ stormFlds, (stormReleased (Work.start s)).get f = if false = true then s.get f else 0 := stormReleased_get _
    split
    · exact ⟨get, keeps, quiet_start s, rfl, rfl⟩
    · exact ⟨get, keeps, quiet_start s, rfl, rfl⟩

theorem sampled_get (w : Work σ) (sel : Fin 4) : (sampled w sel).get DEV_BOOT_SEL = sel ∧
    (sampled w sel).get DEV_BOOT_WAITING = (if 2 ≤ sel.val then 1 else 0) ∧ (sampled w sel).get PORESET_LOW = 0 ∧
    (sampled w sel).get PTP_CLOCK_ID_HI = (σ.fuse.mac / 2 ^ 24 * 2 ^ 8 + 0xFF) % 2 ^ 32 ∧
    (sampled w sel).get PTP_CLOCK_ID_LO = (0xFE * 2 ^ 24 + σ.fuse.mac % 2 ^ 24) % 2 ^ 32 ∧
    ∀ f ∈ stormFlds, (sampled w sel).get f = w.get f := by
  have boot : sel.val % 4 = sel.val := Nat.mod_eq_of_lt sel.isLt
  refine ⟨?_, ?_, ?_, ?_, ?_, fun f hf => ?_⟩
  · simp (disch := decide) only [sampled, Work.get_updLd, Work.setB, Work.get_set_ne, Work.get_set_self]
    exact boot
  · simp (disch := decide) only [sampled, Work.get_updLd, Work.setB, Work.get_set_self]
    by_cases h : 2 ≤ sel.val <;> simp [h, b2n, DEV_BOOT_WAITING]
  · simp (disch := decide) only [sampled, Work.get_updLd, Work.setB, Work.get_set_ne, Work.get_set_self, Nat.zero_mod]
  · simp (disch := decide) only [sampled, Work.get_updLd, Work.setB, Work.get_set_ne, Work.get_set_self]
    rfl
  · simp (disch := decide) only [sampled, Work.get_updLd, Work.setB, Work.get_set_ne, Work.get_set_self]
    rfl
  · simp only [stormFlds, List.mem_cons, List.not_mem_nil, or_false] at hf
    rcases hf with rfl | rfl | rfl | rfl | rfl <;>
      simp (disch := decide) only [sampled, Work.get_updLd, Work.setB, Work.get_set_ne]

/-- The fields that the rise writes whatever the trip condition and BOOT_SEL. -/
def riseFlds : List Fld := [DEV_BOOT_SEL, DEV_BOOT_WAITING, PORESET_LOW, PTP_CLOCK_ID_HI, PTP_CLOCK_ID_LO]

theorem sampled_keeps (w : Work σ) (sel : Nat) (fs : List Fld) (hfs : riseFlds ⊆ fs) : Keeps (sampled w sel) fs ↔ Keeps w fs := by
  have mem : ∀ f ∈ riseFlds, f ∈ fs := hfs
  simp only [riseFlds, List.mem_cons, List.not_mem_nil, or_false, forall_eq_or_imp, forall_eq] at mem
  obtain ⟨h1, h2, h3, h4, h5⟩ := mem
  exact keeps_of_get (fun f hf => by
    simp only [sampled, Work.get_updLd, Work.setB, Work.get_set_ne _ _ _ _ (hf _ h1), Work.get_set_ne _ _ _ _ (hf _ h2),
      Work.get_set_ne _ _ _ _ (hf _ h3), Work.get_set_ne _ _ _ _ (hf _ h4), Work.get_set_ne _ _ _ _ (hf _ h5)])

theorem sampled_rest (w : Work σ) (sel : Nat) : (Quiet (sampled w sel) ↔ Quiet w) ∧ (sampled w sel).dev.loader = { w.dev.loader with
    boot := if sel = 0 then .flash else if sel = 1 then .open_ else .closed } := ⟨Iff.rfl, rfl⟩

/-- The fields that Storm's release writes. -/
def tripFlds (trip : Bool) : List Fld := if trip then [] else stormFlds

/-- The rise, with the reserved value of BOOT_SEL logged. -/
theorem rise_spec (s : State) (hs : s.wf = true) (w : Work s) (sel : Fin 4) (trip : Bool) (hw : stormAtRise (Work.start s) trip = w)
    (hk : Keeps w (tripFlds trip)) (hq : Quiet w) : ∃ w' : Work s, poresetRelease (Work.start s) sel trip = w' ∧
      (∀ f ∈ riseFlds ++ stormFlds, w'.get f = (sampled w sel).get f) ∧
      Keeps w' (riseFlds ++ tripFlds trip ++ (if sel.val = 3 then logFlds (s.get DEV_ERRLOG_HEAD) else [])) ∧ Quiet w' ∧
      w'.dev.loader = (sampled w sel).dev.loader ∧ (sel.val = 3 → Logged s w'.finish 2 3 63 DEV_BOOT_SEL.addr) := by
  have keeps : Keeps (sampled w sel) (riseFlds ++ tripFlds trip) := by
    rw [sampled_keeps _ _ _ (List.subset_append_left _ _)]
    exact hk.mono (List.subset_append_right _ _)
  rw [poresetRelease_eq, hw]
  split
  next h =>
    have head : (sampled w sel).get DEV_ERRLOG_HEAD = s.get DEV_ERRLOG_HEAD := keeps _ (by cases trip <;> decide)
    have outside : ∀ f ∈ riseFlds ++ stormFlds, f.lo < 32 ∧ (f.addr < 0x1010 ∨ 0x2000 ≤ f.addr ∨ f.addr = 0x1014) := by decide
    obtain ⟨w', hw', hlogged, hk', hq', hd', -⟩ := errlog_effect (sampled w sel) 0x02 63 0 DEV_BOOT_SEL.addr .hardware hs head
      (by decide) (by decide)
    refine ⟨w', hw', fun f hf => ?_, ?_, hq'.2 ((sampled_rest w sel).1.2 hq), by rw [hd'], fun _ => hlogged⟩
    · obtain ⟨hlo, haddr⟩ := outside f hf
      rw [← hw', get_errlog_of_addr _ _ _ _ _ _ f hlo haddr]
    · rw [hk' _ (List.subset_append_right _ _)]
      exact keeps.mono (List.subset_append_left _ _)
  next h =>
    refine ⟨_, rfl, fun _ _ => rfl, ?_, (sampled_rest w sel).1.2 hq, rfl, fun h3 => absurd h3 h⟩
    rw [List.append_nil]
    exact keeps

theorem resetRelease : Clause.ResetRelease := by
  intro s hs sel trip
  obtain ⟨w, hw, hstorm, hkeeps, hquiet, hload, -⟩ := stormAtRise_spec s trip
  obtain ⟨hsel, hwait, hlow, hhi, hlo, hkept⟩ := sampled_get w sel
  obtain ⟨w', hw', hget, hk, hq, hld, hlog⟩ := rise_spec s hs w sel trip hw hkeeps hquiet
  have get : ∀ f ∈ riseFlds ++ stormFlds, w'.finish.get f = (sampled w sel).get f := fun f hf => (Work.finish_get _ _ hs).trans (hget f hf)
  have storm : ∀ f ∈ THERM_STORM_FLASH_BLOCKED :: stormKept, f ∈ stormFlds := by decide
  have flds : (if trip then [] else THERM_STORM_FLASH_BLOCKED :: stormKept) ⊆ tripFlds trip ∧
      tripFlds trip ⊆ if trip then [] else THERM_STORM_FLASH_BLOCKED :: stormKept := by cases trip <;> decide
  refine ⟨w'.finish, by rw [exec, execPoresetRelease, run_eq, hw'], (get _ (by decide)).trans hsel, (get _ (by decide)).trans hwait,
    (get _ (by decide)).trans hlow, fun f hf => ?_, (get _ (by decide)).trans hhi, (get _ (by decide)).trans hlo, ?_,
    frame_finish hs (hk.mono ?_) hq, hlog⟩
  · have mem := storm f hf
    rw [get f (List.mem_append_right _ mem), hkept f mem, hstorm f mem]
  · rw [Work.finish_dev, hld, (sampled_rest w sel).2, hload]
  · intro f hf
    rcases List.mem_append.1 hf with hf | hf
    · refine List.mem_append_left _ ?_
      rcases List.mem_append.1 hf with hf | hf
      · exact List.mem_append_left _ hf
      · exact List.mem_append_right _ (flds.2 hf)
    · exact List.mem_append_right _ hf

/-- Settles O4: what PORESET_N low leaves, and what its rise samples, derives and releases. -/
theorem powerOnReset : Obligations.PowerOnReset := ⟨resetAssertion, resetRelease⟩

end Sys2Proof.PowerProofs
end

section
/-! PROOFS. Serial lanes: which registers leaving UP, the start of bring-up and the transmit ball write (R340, R345, R348). -/

namespace Sys2Proof.LaneFacts

open Sys2Proof.Machine Sys2Proof.Effects

variable {σ : State}

/-- The registers of lane n but for CFG, and the hidden ones of the device. -/
def LaneFld (n : Nat) (g : Fld) : Prop := g.lo < 32 ∧ ((g.addr / 0x1000 = 0x100 + n ∧ g.addr % 0x1000 ≠ 0) ∨ 2 ^ 40 ≤ g.addr)

/-- A field with a low bit in the word and no address of the lane is none of the lane's. -/
theorem key_ne_laneFld (n : Nat) (f : Fld) (hlo : f.lo < 32) (haddr : f.addr < 2 ^ 40)
    (hlane : f.addr / 0x1000 = 0x100 + n → f.addr % 0x1000 = 0) : ∀ g, LaneFld n g → f.key ≠ g.key := by
  intro g ⟨hg, hga⟩ heq
  simp only [Fld.key] at heq
  have same : f.addr = g.addr := by omega
  rw [same] at hlane haddr
  rcases hga with ⟨h1, h2⟩ | h
  · exact h2 (hlane h1)
  · omega

section

variable {w w' : Work σ} {n : Nat}

theorem laneDrift_writes (h : Writes (LaneFld n) w w') : Writes (LaneFld n) w (laneDrift w' n) := by
  have equal : ∀ (w'' : Work σ) c taps, Writes (LaneFld n) w w'' → Writes (LaneFld n) w (setEqualiser w'' n c taps) := fun w'' c taps h => by
    refine Writes.each (h.set _ _ ?_) _ _ (fun w'' i hi h => h.set _ _ ?_)
    · simp only [LaneFld, LANE_ADAPT_CTLE]
      omega
    · have hi := List.mem_range.1 hi
      simp only [LaneFld, LANE_DFE_TAP]
      omega
  exact Writes.ite (equal _ _ _ (h.of_get (fun _ => rfl))) h

theorem laneEvt_writes (h : Writes (LaneFld n) w w') (flag enable : Fld) (hf : LaneFld n flag) :
    Writes (LaneFld n) w (laneEvt w' n flag enable) :=
  Writes.ite h (Writes.ite ((h.set _ _ hf).fire _) (h.set _ _ hf))

theorem scanRuns_writes (h : Writes (LaneFld n) w w') : Writes (LaneFld n) w (scanRuns w' n) := by
  have bits_ : LaneFld n (LANE_SCAN_BITS n) ∧ LaneFld n (LANE_SCAN_ERR n) := by
    simp only [LaneFld, LANE_SCAN_BITS, LANE_SCAN_ERR]
    omega
  refine Writes.ite (Writes.set (Writes.set (h.of_get (fun _ => rfl)) _ _ bits_.1) _ _ bits_.2) h

theorem scanEnd_writes (h : Writes (LaneFld n) w w') : Writes (LaneFld n) w (scanEnd w' n) := by
  have flds : LaneFld n (LANE_SCAN_CFG_BUSY n) ∧ LaneFld n (LANE_SCAN_CFG_DONE n) ∧ LaneFld n (LANE_EVT_SCAN_DONE n) := by
    simp only [LaneFld, LANE_SCAN_CFG_BUSY, LANE_SCAN_CFG_DONE, LANE_EVT_SCAN_DONE]
    omega
  exact laneEvt_writes ((h.set _ _ flds.1).set _ _ flds.2.1) _ _ flds.2.2

theorem laneLeave_writes (h : Writes (LaneFld n) w w') : Writes (LaneFld n) w (laneLeave w' n) := by
  obtain ⟨h1, h2, h3, h4, h5, h6, h7, h8⟩ : LaneFld n (LANE_SCAN_CFG_ABORTED n) ∧ LaneFld n (LANE_CHECK_OK n) ∧
      LaneFld n (LANE_STATUS_READAPTING n) ∧ LaneFld n (LANE_STATUS_BLOCK_LOCK n) ∧ LaneFld n (LANE_STATUS_FROZEN n) ∧
      LaneFld n (LANE_STATUS_LULL_RX n) ∧ LaneFld n (LANE_RELOCK n) ∧ LaneFld n (LANE_PRBS_LOCKED n) := by
    simp only [LaneFld, LANE_SCAN_CFG_ABORTED, LANE_CHECK_OK, LANE_STATUS_READAPTING, LANE_STATUS_BLOCK_LOCK, LANE_STATUS_FROZEN,
      LANE_STATUS_LULL_RX, LANE_RELOCK, LANE_PRBS_LOCKED, hid, hidDev]
    omega
  have drift := laneDrift_writes h
  have scan := Writes.ite (p := (laneDrift w' n).on (LANE_SCAN_CFG_BUSY n) = true) (scanEnd_writes ((scanRuns_writes drift).set _ 1 h1)) drift
  exact ((((((scan.set _ _ h2).set _ _ h3).set _ _ h4).set _ _ h5).set _ _ h6).set _ _ h7).set _ _ h8

theorem showTx_writes (h : Writes (LaneFld n) w w') : Writes (LaneFld n) w (showTx w' n) := by
  have tx : LaneFld n (LANE_TX n) := by
    simp only [LaneFld, LANE_TX, hid, hidDev]
    omega
  exact Writes.ite h ((h.set _ _ tx).emit _)

end

/-! ## The start of bring-up (R340, R449) -/

/-- A lane at the start of bring-up, before the link of one that was in service hears of it. -/
def laneStarted (w : Work σ) (n : Nat) : Work σ :=
  let w := laneLeave w n
  let w := ((w.set (LANE_SIG n) 0).set (LANE_FLIPS n) 0).set (LANE_STATUS_POL_FAIL n) 0
  let w := w.set (LANE_STATUS_HIBER n) 0
  showTx (w.set (LANE_STATUS_STATE n) (if w.get (LANE_CFG_ROLE n) = 0 ∨ !w.on DEV_STATUS_REFCLK_OK then 0 else LANE_SIGNAL)) n

theorem laneStart_eq (w : Work σ) (n : Nat) (h : laneState w n ≠ LANE_UP ∧ laneState w n ≠ LANE_LULL) : laneStart w n = laneStarted w n := by
  rw [laneStart]
  exact if_neg (fun hh => hh.elim h.1 h.2)

/-- The work of a bring-up start up to the lane's STATE. -/
def laneCleared (w : Work σ) (n : Nat) : Work σ :=
  ((((laneLeave w n).set (LANE_SIG n) 0).set (LANE_FLIPS n) 0).set (LANE_STATUS_POL_FAIL n) 0).set (LANE_STATUS_HIBER n) 0

theorem laneStarted_eq (w : Work σ) (n : Nat) : laneStarted w n = showTx ((laneCleared w n).set (LANE_STATUS_STATE n)
    (if (laneCleared w n).get (LANE_CFG_ROLE n) = 0 ∨ !(laneCleared w n).on DEV_STATUS_REFCLK_OK then 0 else LANE_SIGNAL)) n := rfl

theorem laneCleared_writes (w : Work σ) (n : Nat) : Writes (LaneFld n) w (laneCleared w n) := by
  obtain ⟨h1, h2, h3, h4⟩ : LaneFld n (LANE_SIG n) ∧ LaneFld n (LANE_FLIPS n) ∧ LaneFld n (LANE_STATUS_POL_FAIL n) ∧
      LaneFld n (LANE_STATUS_HIBER n) := by
    simp only [LaneFld, LANE_SIG, LANE_FLIPS, LANE_STATUS_POL_FAIL, LANE_STATUS_HIBER, hid, hidDev]
    omega
  exact ((((laneLeave_writes (Writes.refl w)).set _ _ h1).set _ _ h2).set _ _ h3).set _ _ h4

theorem stateFld (n : Nat) : LaneFld n (LANE_STATUS_STATE n) := by
  simp only [LaneFld, LANE_STATUS_STATE]
  omega

theorem laneStarted_writes (w : Work σ) (n : Nat) : Writes (LaneFld n) w (laneStarted w n) :=
  showTx_writes ((laneCleared_writes w n).set _ _ (stateFld n))

theorem role_ne (n m : Nat) (hm : m < 32) : ∀ g, LaneFld n g → (LANE_CFG_ROLE m).key ≠ g.key :=
  key_ne_laneFld n _ (by simp [LANE_CFG_ROLE]) (by simp only [LANE_CFG_ROLE]; omega) (by simp only [LANE_CFG_ROLE]; omega)

theorem refclk_ne (n : Nat) : ∀ g, LaneFld n g → DEV_STATUS_REFCLK_OK.key ≠ g.key :=
  key_ne_laneFld n _ (by decide) (by decide) (by simp only [DEV_STATUS_REFCLK_OK]; omega)

theorem state_ne (n m : Nat) (hm : m < 32) (hne : m ≠ n) : ∀ g, LaneFld n g → (LANE_STATUS_STATE m).key ≠ g.key :=
  key_ne_laneFld n _ (by simp [LANE_STATUS_STATE]) (by simp only [LANE_STATUS_STATE]; omega) (by simp only [LANE_STATUS_STATE]; omega)

theorem showTx_get (w : Work σ) (n : Nat) (f : Fld) (hf : f.key ≠ (LANE_TX n).key) : (showTx w n).get f = w.get f := by
  rw [showTx]
  split
  · rfl
  · rw [Work.get_emit, Work.get_set_ne _ _ _ _ hf]

/-- R340: bring-up starts at SIGNAL, or the lane is OFF. -/
theorem laneStarted_state (w : Work σ) (n : Nat) (hn : n < 32) : (laneStarted w n).get (LANE_STATUS_STATE n) =
    if w.get (LANE_CFG_ROLE n) = 0 ∨ !w.on DEV_STATUS_REFCLK_OK then 0 else LANE_SIGNAL := by
  have role : (laneCleared w n).get (LANE_CFG_ROLE n) = w.get (LANE_CFG_ROLE n) := laneCleared_writes w n _ (role_ne n n hn)
  have clk : (laneCleared w n).on DEV_STATUS_REFCLK_OK = w.on DEV_STATUS_REFCLK_OK := by
    rw [Work.on, Work.on, laneCleared_writes w n _ (refclk_ne n)]
  rw [laneStarted_eq, role, clk, showTx_get, Work.get_set_self]
  · split <;> rfl
  · simp only [Fld.key, LANE_STATUS_STATE, LANE_TX, hid, hidDev]
    omega

/-- R449: lane n as the step of the reference clock finds it. -/
def laneBegin (w : Work σ) (n : Nat) : Work σ := if w.get (LANE_CFG_ROLE n) ≠ 0 ∧ laneState w n = 0 then laneStart w n else w

theorem laneBegin_writes (w : Work σ) (n : Nat) : Writes (LaneFld n) w (laneBegin w n) := by
  rw [laneBegin]
  split
  next h =>
    rw [laneStart_eq w n (by rw [h.2]; decide)]
    exact laneStarted_writes w n
  next h => exact Writes.refl w

theorem laneBegin_state (w : Work σ) (n : Nat) (hn : n < 32) (hrole : w.get (LANE_CFG_ROLE n) ≠ 0)
    (hclk : w.on DEV_STATUS_REFCLK_OK = true) (hst : w.get (LANE_STATUS_STATE n) = LANE_SIGNAL ∨ w.get (LANE_STATUS_STATE n) = 0) :
    (laneBegin w n).get (LANE_STATUS_STATE n) = LANE_SIGNAL := by
  rw [laneBegin]
  split
  next h =>
    rw [laneStart_eq w n (by rw [h.2]; decide), laneStarted_state w n hn, if_neg (by simp [hrole, hclk])]
  next h => exact hst.resolve_right (fun h0 => h ⟨hrole, h0⟩)

/-- Every lane with a role that was OFF starts, and no other lane and no clock changes that. -/
theorem each_laneBegin (l : List Nat) (w : Work σ) (n : Nat) (hn : n < 32) (hrole : w.get (LANE_CFG_ROLE n) ≠ 0)
    (hclk : w.on DEV_STATUS_REFCLK_OK = true)
    (hst : w.get (LANE_STATUS_STATE n) = LANE_SIGNAL ∨ (n ∈ l ∧ w.get (LANE_STATUS_STATE n) = 0)) :
    (w.each l laneBegin).get (LANE_STATUS_STATE n) = LANE_SIGNAL := by
  induction l generalizing w with
  | nil => exact hst.resolve_right (fun h => absurd h.1 List.not_mem_nil)
  | cons m l ih =>
    have wr := laneBegin_writes w m
    refine ih (laneBegin w m) (by rw [wr _ (role_ne m n hn)]; exact hrole) (by rw [Work.on, wr _ (refclk_ne m)]; exact hclk) ?_
    by_cases hm : n = m
    · subst hm
      exact .inl (laneBegin_state w n hn hrole hclk (hst.imp id And.right))
    · rw [wr _ (state_ne m n hn hm)]
      exact hst.imp id (fun h => ⟨(List.mem_cons.1 h.1).resolve_left hm, h.2⟩)

theorem lanesBegin_state (w : Work σ) (n : Nat) (hn : n < 32) (hrole : w.get (LANE_CFG_ROLE n) ≠ 0)
    (hclk : w.on DEV_STATUS_REFCLK_OK = true) (hst : w.get (LANE_STATUS_STATE n) = 0) :
    (lanesBegin w).get (LANE_STATUS_STATE n) = LANE_SIGNAL :=
  each_laneBegin (List.range 32) w n hn hrole hclk (.inr ⟨List.mem_range.2 hn, hst⟩)

theorem lanesBegin_refclk (w : Work σ) : (lanesBegin w).get DEV_STATUS_REFCLK_OK = w.get DEV_STATUS_REFCLK_OK :=
  Work.each_keeps (fun w' => w'.get DEV_STATUS_REFCLK_OK = w.get DEV_STATUS_REFCLK_OK) laneBegin
    (fun w' n h => ((laneBegin_writes w' n) _ (refclk_ne n)).trans h) _ w rfl

/-- Where no lane is to start, none does. -/
theorem lanesBegin_none (w : Work σ) (h : ∀ n < 32, w.get (LANE_CFG_ROLE n) = 0 ∨ laneState w n ≠ 0) : lanesBegin w = w := by
  have all : ∀ l : List Nat, (∀ n ∈ l, n < 32) → w.each l laneBegin = w := fun l => by
    induction l with
    | nil => exact fun _ => rfl
    | cons n l ih =>
      intro hl
      have none_ : laneBegin w n = w := if_neg (fun hh => (h n (hl n List.mem_cons_self)).elim hh.1 (fun h' => h' hh.2))
      rw [show w.each (n :: l) laneBegin = (laneBegin w n).each l laneBegin from rfl, none_]
      exact ih (fun m hm => hl m (List.mem_cons_of_mem _ hm))
  exact all (List.range 32) (fun n => List.mem_range.1)

end Sys2Proof.LaneFacts
end

section
/-! PROOFS. The start-up order, the clocks and the boot choice (R31 to R34, R57, R83, R127, R447 to R450). -/

namespace Sys2Proof.StartUpProofs

open Sys2Proof.Machine Sys2Proof.Effects Sys2Proof.LaneFacts

variable {σ : State}

theorem on_start (s : State) (f : Fld) : (Work.start s).on f = decide (s.get f ≠ 0) := by
  rw [Work.on, Work.get_start]
  by_cases h : s.get f = 0 <;> simp [h]

/-! ## Power, the reference clock and the converter PLL -/

theorem vdda18Up (s : State) (hs : s.wf = true) : Answers .vdda18PowerUp s (fun t =>
    t.get DEV_RESET_CAUSE_PREV_STORM = 0 ∧ Plain s t [DEV_RESET_CAUSE_PREV_STORM]) := by
  refine ⟨_, by rw [exec, execVdda18PowerUp, run_eq], ?_, plain_finish hs (by simp) (by simp) rfl rfl⟩
  rw [Work.finish_get _ _ hs, Work.get_set_self, Nat.zero_mod]

/-- While PORESET_N is low neither REFCLK nor the fabric's setpoint takes the device a step on. -/
theorem lowWaits (s : State) (hs : s.wf = true) (h : s.get PORESET_LOW ≠ 0) : Answers .refclkDetect s (fun t => Plain s t []) ∧
    ∀ ps, Answers (.fabricSetpointReached ps) s (fun t => Plain s t []) := by
  have low : (Work.start s).on PORESET_LOW = true := by simp [on_start, h]
  exact ⟨⟨_, by rw [exec, execRefclkDetect, run_eq, if_pos (.inr low)], plain_start s [] hs⟩,
    fun ps => ⟨_, by rw [exec, execFabricSetpointReached, run_eq, if_pos (.inr low)], plain_start s [] hs⟩⟩

theorem exec_refclkDetect (s : State) (hlow : s.get PORESET_LOW = 0) (hclk : s.get DEV_STATUS_REFCLK_OK = 0) :
    exec .refclkDetect s = .next (lanesBegin ((Work.start s).set DEV_STATUS_REFCLK_OK 1)).finish := by
  rw [exec, execRefclkDetect, run_eq, if_neg (by simp [on_start, hlow, hclk])]

theorem refclkSet_get (s : State) : ((Work.start s).set DEV_STATUS_REFCLK_OK 1).get DEV_STATUS_REFCLK_OK = 1 := by
  rw [Work.get_set_self]
  rfl

theorem refclkSet_lane (s : State) (n : Nat) : ((Work.start s).set DEV_STATUS_REFCLK_OK 1).get (LANE_CFG_ROLE n) = s.get (LANE_CFG_ROLE n) ∧
    ((Work.start s).set DEV_STATUS_REFCLK_OK 1).get (LANE_STATUS_STATE n) = s.get (LANE_STATUS_STATE n) := by
  constructor <;>
  · rw [Work.get_set_ne, Work.get_start]
    simp only [Fld.key, LANE_CFG_ROLE, LANE_STATUS_STATE, DEV_STATUS_REFCLK_OK]
    omega

theorem refclkDetect_starts (s : State) (hs : s.wf = true) (hlow : s.get PORESET_LOW = 0) (hclk : s.get DEV_STATUS_REFCLK_OK = 0) :
    Answers .refclkDetect s (fun t => t.get DEV_STATUS_REFCLK_OK = 1 ∧
      ∀ n < 32, s.get (LANE_CFG_ROLE n) ≠ 0 → s.get (LANE_STATUS_STATE n) = 0 → t.get (LANE_STATUS_STATE n) = LANE_SIGNAL) := by
  refine ⟨_, exec_refclkDetect s hlow hclk, ?_, fun n hn hrole hst => ?_⟩
  · rw [Work.finish_get _ _ hs, lanesBegin_refclk, refclkSet_get]
  · obtain ⟨hr, hst'⟩ := refclkSet_lane s n
    rw [Work.finish_get _ _ hs]
    exact lanesBegin_state _ n hn (hr ▸ hrole) (by rw [Work.on, refclkSet_get]; rfl) (hst'.trans hst)

theorem refclkDetect_alone (s : State) (hs : s.wf = true) (hlow : s.get PORESET_LOW = 0) (hclk : s.get DEV_STATUS_REFCLK_OK = 0)
    (hlanes : ∀ n < 32, s.get (LANE_CFG_ROLE n) = 0 ∨ s.get (LANE_STATUS_STATE n) ≠ 0) :
    Answers .refclkDetect s (fun t => t.get DEV_STATUS_REFCLK_OK = 1 ∧ Plain s t [DEV_STATUS_REFCLK_OK]) := by
  have none_ : lanesBegin ((Work.start s).set DEV_STATUS_REFCLK_OK 1) = (Work.start s).set DEV_STATUS_REFCLK_OK 1 :=
    lanesBegin_none _ (fun n hn => by
      obtain ⟨hr, hst⟩ := refclkSet_lane s n
      rw [hr, laneState, hst]
      exact hlanes n hn)
  refine ⟨_, by rw [exec_refclkDetect s hlow hclk, none_], ?_, plain_finish hs (by simp) (by simp) rfl rfl⟩
  rw [Work.finish_get _ _ hs, refclkSet_get]

/-- Where no COMMIT is held, a step of the start-up order finds none to go on with. -/
theorem heldCommit_none (w : Work σ) (h : w.dev.loader.commitHeld = false) : heldCommit w = w := by
  rw [heldCommit, if_pos (.inl (by rw [Work.ld, h]; rfl))]

theorem pllLocks (s : State) (hs : s.wf = true) (hclk : s.get DEV_STATUS_REFCLK_OK ≠ 0) (hc : s.dev.loader.commitHeld = false) :
    Answers .pllLockAcquired s (fun t => t.get DEV_STATUS_PLL_LOCK = 1 ∧ Plain s t [DEV_STATUS_PLL_LOCK]) := by
  have locked : pllLocked (Work.start s) = (Work.start s).set DEV_STATUS_PLL_LOCK 1 := if_pos (by simp [on_start, hclk])
  refine ⟨_, by rw [exec, execPllLockAcquired, run_eq, locked, heldCommit_none _ hc], ?_, plain_finish hs (by simp) (by simp) rfl rfl⟩
  rw [Work.finish_get _ _ hs, Work.get_set_self]
  rfl

/-! ## The foreground calibration (R83, R127) -/

/-- The fields that date the converters of tile u. -/
def calFlds (u : Nat) : List Fld := (List.range 4).map (CAL_LAST u) ++ (List.range 3).map (DAC_CAL_CAL_STALE u) ++ [ADC_CAL_CAL_STALE u]

/-- The converters of tile t calibrated. -/
def tileCalibrated (w : Work σ) (t : Nat) : Work σ :=
  ((w.each (List.range 4) (fun w d => w.set (CAL_LAST t d) w.dev.ticks)).each (List.range 3)
    (fun w d => w.set (DAC_CAL_CAL_STALE t d) 0)).set (ADC_CAL_CAL_STALE t) 0

theorem tileCalibrated_eq (w : Work σ) (t : Nat) : tileCalibrated w t =
    (((((((w.set (CAL_LAST t 0) w.dev.ticks).set (CAL_LAST t 1) w.dev.ticks).set (CAL_LAST t 2) w.dev.ticks).set (CAL_LAST t 3)
      w.dev.ticks).set (DAC_CAL_CAL_STALE t 0) 0).set (DAC_CAL_CAL_STALE t 1) 0).set (DAC_CAL_CAL_STALE t 2) 0).set (ADC_CAL_CAL_STALE t) 0 :=
  rfl

/-- A field of another tile, or of none, is not among those of a calibration. -/
theorem tileCalibrated_get_ne (w : Work σ) (t : Nat) (f : Fld) (hf : ∀ g ∈ calFlds t, f.key ≠ g.key) :
    (tileCalibrated w t).get f = w.get f := by
  have h : ∀ g ∈ calFlds t, f.key ≠ g.key := hf
  simp only [calFlds, show List.range 4 = [0, 1, 2, 3] from rfl, show List.range 3 = [0, 1, 2] from rfl, List.map_cons, List.map_nil,
    List.cons_append, List.nil_append, List.mem_cons, List.not_mem_nil, or_false, forall_eq_or_imp, forall_eq] at h
  obtain ⟨h0, h1, h2, h3, h4, h5, h6, h7⟩ := h
  rw [tileCalibrated_eq, Work.get_set_ne _ _ _ _ h7, Work.get_set_ne _ _ _ _ h6, Work.get_set_ne _ _ _ _ h5, Work.get_set_ne _ _ _ _ h4,
    Work.get_set_ne _ _ _ _ h3, Work.get_set_ne _ _ _ _ h2, Work.get_set_ne _ _ _ _ h1, Work.get_set_ne _ _ _ _ h0]

/-- Tile t was calibrated at tick n. -/
def Dated (w : Work σ) (n t : Nat) : Prop := (∀ d < 4, w.get (CAL_LAST t d) = n % 2 ^ 64) ∧
  (∀ d < 3, w.get (DAC_CAL_CAL_STALE t d) = 0) ∧ w.get (ADC_CAL_CAL_STALE t) = 0

theorem tileCalibrated_dated (w : Work σ) (t : Nat) (ht : t < 32) : Dated (tileCalibrated w t) w.dev.ticks t := by
  refine ⟨fun d hd => ?_, fun d hd => ?_, ?_⟩
  · rw [tileCalibrated_eq]
    interval_cases d <;>
    · simp (disch := (simp only [Fld.key, CAL_LAST, DAC_CAL_CAL_STALE, ADC_CAL_CAL_STALE, hid, tileBase]; omega)) only
        [Work.get_set_self, Work.get_set_ne]
      rfl
  · rw [tileCalibrated_eq]
    interval_cases d <;>
      simp (disch := (simp only [Fld.key, CAL_LAST, DAC_CAL_CAL_STALE, ADC_CAL_CAL_STALE, hid, tileBase]; omega)) only
        [Work.get_set_self, Work.get_set_ne, Nat.zero_mod]
  · rw [tileCalibrated_eq, Work.get_set_self, Nat.zero_mod]

theorem mem_calFlds (t : Nat) (g : Fld) : g ∈ calFlds t ↔ (∃ d < 4, g = CAL_LAST t d) ∨ (∃ d < 3, g = DAC_CAL_CAL_STALE t d) ∨
    g = ADC_CAL_CAL_STALE t := by
  simp only [calFlds, List.mem_append, List.mem_map, List.mem_range, List.mem_singleton, or_assoc]
  constructor <;> rintro (⟨d, hd, h⟩ | ⟨d, hd, h⟩ | h)
  · exact .inl ⟨d, hd, h.symm⟩
  · exact .inr (.inl ⟨d, hd, h.symm⟩)
  · exact .inr (.inr h)
  · exact .inl ⟨d, hd, h.symm⟩
  · exact .inr (.inl ⟨d, hd, h.symm⟩)
  · exact .inr (.inr h)

theorem calFlds_apart (t u : Nat) (_ht : t < 32) (_hu : u < 32) (hne : u ≠ t) (f g : Fld) (hf : f ∈ calFlds u) (hg : g ∈ calFlds t) :
    f.key ≠ g.key := by
  rw [mem_calFlds] at hf hg
  rcases hf with ⟨d, hd, rfl⟩ | ⟨d, hd, rfl⟩ | rfl <;> rcases hg with ⟨e, he, rfl⟩ | ⟨e, he, rfl⟩ | rfl <;>
    simp only [Fld.key, CAL_LAST, DAC_CAL_CAL_STALE, ADC_CAL_CAL_STALE, hid, tileBase] <;> omega

theorem Dated.keep {w : Work σ} {n u : Nat} (h : Dated w n u) (t : Nat) (ht : t < 32) (hu : u < 32) (hne : u ≠ t) :
    Dated (tileCalibrated w t) n u := by
  have same : ∀ f ∈ calFlds u, (tileCalibrated w t).get f = w.get f := fun f hf =>
    tileCalibrated_get_ne w t f (fun g hg => calFlds_apart t u ht hu hne f g hf hg)
  obtain ⟨h1, h2, h3⟩ := h
  refine ⟨fun d hd => ?_, fun d hd => ?_, ?_⟩
  · rw [same _ ((mem_calFlds _ _).2 (.inl ⟨d, hd, rfl⟩)), h1 d hd]
  · rw [same _ ((mem_calFlds _ _).2 (.inr (.inl ⟨d, hd, rfl⟩))), h2 d hd]
  · rw [same _ ((mem_calFlds _ _).2 (.inr (.inr rfl))), h3]

/-- Every tile of the list is dated, the typed state stands, and no other register has changed. -/
theorem each_tileCalibrated (l : List Nat) (hl : ∀ t ∈ l, t < 32) (w : Work σ) :
    (w.each l tileCalibrated).dev = w.dev ∧ (Quiet w → Quiet (w.each l tileCalibrated)) ∧
      (w.each l tileCalibrated).fresh = w.fresh ∧
      (∀ f : Fld, (∀ t ∈ l, ∀ g ∈ calFlds t, f.key ≠ g.key) → (w.each l tileCalibrated).get f = w.get f) ∧
      ∀ u < 32, (u ∈ l ∨ Dated w w.dev.ticks u) → Dated (w.each l tileCalibrated) w.dev.ticks u := by
  induction l generalizing w with
  | nil => exact ⟨rfl, id, rfl, fun _ _ => rfl, fun u _ h => h.resolve_left List.not_mem_nil⟩
  | cons t l ih =>
    have ht : t < 32 := hl t List.mem_cons_self
    obtain ⟨hd, hq, hf, hg, hdat⟩ := ih (fun u hu => hl u (List.mem_cons_of_mem _ hu)) (tileCalibrated w t)
    refine ⟨hd, hq, hf, fun f hne => ?_, fun u hu h => hdat u hu ?_⟩
    · exact (hg f (fun u hu => hne u (List.mem_cons_of_mem _ hu))).trans (tileCalibrated_get_ne w t f (hne t List.mem_cons_self))
    · by_cases hut : u = t
      · subst hut
        exact .inr (tileCalibrated_dated w u ht)
      · exact h.imp (fun h => (List.mem_cons.1 h).resolve_left hut) (fun h => h.keep t ht hu hut)

theorem foreground (s : State) (hs : s.wf = true) (hlock : s.get DEV_STATUS_PLL_LOCK ≠ 0) (hcal : s.get DEV_STATUS_CONV_CAL_DONE = 0)
    (hc : s.dev.loader.commitHeld = false) : Answers .foregroundCalibrationDone s (fun t => t.get DEV_STATUS_CONV_CAL_DONE = 1 ∧
        (∀ u < 32, (∀ d < 4, t.get (CAL_LAST u d) = s.dev.ticks % 2 ^ 64) ∧ (∀ d < 3, t.get (DAC_CAL_CAL_STALE u d) = 0) ∧
          t.get (ADC_CAL_CAL_STALE u) = 0) ∧
        Plain s t (DEV_STATUS_CONV_CAL_DONE :: (List.range 32).flatMap calFlds)) := by
  have done : foregroundDone (Work.start s) = ((Work.start s).set DEV_STATUS_CONV_CAL_DONE 1).each (List.range 32) tileCalibrated := by
    rw [foregroundDone, if_pos (by simp [on_start, hlock, hcal])]
    rfl
  obtain ⟨hd, hq, hf, hg, hdat⟩ := each_tileCalibrated (List.range 32) (fun t => List.mem_range.1) ((Work.start s).set DEV_STATUS_CONV_CAL_DONE 1)
  generalize ((Work.start s).set DEV_STATUS_CONV_CAL_DONE 1).each (List.range 32) tileCalibrated = w at *
  have held : w.dev.loader.commitHeld = false := by rw [hd]; exact hc
  refine ⟨w.finish, by rw [exec, execForegroundCalibrationDone, run_eq, done, heldCommit_none _ held], ?_, fun u hu => ?_,
    plain_finish hs (fun f hne => ?_) (hq (by simp)) (by rw [hd]; rfl) hf⟩
  · rw [Work.finish_get _ _ hs, hg, Work.get_set_self]
    · rfl
    · intro t ht g hgm
      have ht := List.mem_range.1 ht
      rw [mem_calFlds] at hgm
      rcases hgm with ⟨d, hd, rfl⟩ | ⟨d, hd, rfl⟩ | rfl <;>
        simp only [Fld.key, DEV_STATUS_CONV_CAL_DONE, CAL_LAST, DAC_CAL_CAL_STALE, ADC_CAL_CAL_STALE, hid, tileBase] <;> omega
  · simp only [Work.finish_get _ _ hs]
    exact hdat u hu (.inl (List.mem_range.2 hu))
  · rw [hg f (fun t ht g hgm => hne g (List.mem_cons_of_mem _ (List.mem_flatMap.2 ⟨t, ht, hgm⟩))),
      Work.get_set_ne _ _ _ _ (hne _ List.mem_cons_self), Work.get_start]

/-! ## The fabric and SCLK_IN (R31, R57) -/

theorem fabricReached (s : State) (hs : s.wf = true) (ps : Fin 1024) (hst : s.get THERM_STORM_TRIPPED = 0) (hlow : s.get PORESET_LOW = 0) :
    Answers (.fabricSetpointReached ps) s (fun t => t.get FABRIC_UP = 1 ∧ t.get DEV_FABRIC_CYCLE_PS = ps ∧
      t.get DEV_FABRIC_CYCLE_MAX_PS = max ps.val (s.get DEV_FABRIC_CYCLE_MAX_PS) % 2 ^ 10 ∧
      Plain s t [FABRIC_UP, DEV_FABRIC_CYCLE_PS, DEV_FABRIC_CYCLE_MAX_PS]) := by
  refine ⟨_, by rw [exec, execFabricSetpointReached, run_eq, if_neg (by simp [on_start, hst, hlow])], ?_, ?_, ?_,
    plain_finish hs (by simp [fabricMeasure]) (by simp [fabricMeasure]) rfl rfl⟩ <;> rw [Work.finish_get _ _ hs, fabricMeasure]
  · simp (disch := decide) only [Work.get_set_self, Work.get_set_ne]
    rfl
  · simp (disch := decide) only [Work.get_set_self, Work.get_set_ne]
    exact Nat.mod_eq_of_lt ps.isLt
  · simp (disch := decide) only [Work.get_set_self, Work.get_set_ne, Work.get_start, Nat.max_zero]
    rfl

theorem sclkLost (s : State) (hs : s.wf = true) : Answers .sclkInLoss s (fun t => t.get SCLK_PRESENT = 0 ∧ t.get TIME_CLK_STATUS_SCLK_OK = 0 ∧
      Plain s t [SCLK_PRESENT, TIME_CLK_STATUS_SCLK_OK]) := by
  refine ⟨_, by rw [exec, execSclkInLoss, run_eq], ?_, ?_, plain_finish hs (by simp) (by simp) rfl rfl⟩ <;>
    rw [Work.finish_get _ _ hs] <;> simp (disch := decide) only [Work.get_set_self, Work.get_set_ne, Nat.zero_mod]

theorem sclkSeen (s : State) (hs : s.wf = true) : Answers .sclkInDetect s (fun t => t.get SCLK_PRESENT = 1 ∧
      t.get TIME_CLK_STATUS_SCLK_OK = (if s.get TIME_CLK_CTRL = 0 then 0 else 1) ∧
      Plain s t [SCLK_PRESENT, TIME_CLK_STATUS_SCLK_OK]) := by
  refine ⟨_, by rw [exec, execSclkInDetect, run_eq], ?_, ?_, plain_finish hs (by simp) (by simp) rfl rfl⟩ <;>
    rw [Work.finish_get _ _ hs, Work.setB]
  · simp (disch := decide) only [Work.get_set_self, Work.get_set_ne]
    rfl
  · rw [Work.get_set_self, on_start]
    by_cases h : s.get TIME_CLK_CTRL = 0 <;> simp [h, b2n, TIME_CLK_STATUS_SCLK_OK]

/-! ## A change of CLK_SRC (R33) -/

theorem clkSrc_same (s : State) (hs : s.wf = true) (via : Via) (src : Bool) (h : s.get TIME_CLK_CTRL = b2n src) :
    Answers (.clkSrcWrite via src) s (fun t => Plain s t []) := by
  have same : b2n src % 2 = (Work.start s).get TIME_CLK_CTRL := by
    rw [Work.get_start, h]
    cases src <;> rfl
  exact ⟨_, by rw [exec, execClkSrcWrite, run_eq, clkCtrlWrite, if_pos same], plain_start s [] hs⟩

theorem src_changes (s : State) (src : Bool) (h : s.get TIME_CLK_CTRL ≠ b2n src) : ¬b2n src % 2 = (Work.start s).get TIME_CLK_CTRL := by
  rw [Work.get_start]
  cases src <;> exact fun e => h e.symm

theorem clkSrc_refused (s : State) (hs : s.wf = true) (via : Via) (src : Bool) (h : s.get TIME_CLK_CTRL ≠ b2n src)
    (hrel : s.get DEV_STATUS_TILES_RELEASED ≠ 0) :
    Answers (.clkSrcWrite via src) s (fun t => Logged s t 2 (viaPath via).code 63 TIME_CLK_CTRL.addr ∧
      Leaves s t (logFlds (s.get DEV_ERRLOG_HEAD)) { s.view.dev with held := s.dev.held ++ [s.firing 487] }) := by
  obtain ⟨w, hw, hlogged, hk, hq, hd, hf⟩ := errlog_effect (Work.start s) 0x02 63 0 TIME_CLK_CTRL.addr (viaPath via) hs
    (Work.get_start _ _) (by decide) (by decide)
  have ignored : clkCtrlWrite (Work.start s) (viaPath via) (b2n src) = w := by
    rw [clkCtrlWrite, if_neg (src_changes s src h), if_pos (by simp [on_start, hrel]), ← hw]
    rfl
  rw [firing_eq _ 487 rfl (Work.get_start _ _)] at hd
  exact ⟨w.finish, by rw [exec, execClkSrcWrite, run_eq, ignored], hlogged,
    leaves_finish hs ((hk _ (List.Subset.refl _)).2 (keeps_start s _)) (hq.2 (quiet_start s)) hd hf⟩

/-- The registers of a change of CLK_SRC. -/
def clkSwitched (w : Work σ) (src : Bool) : Work σ :=
  ((((w.set TIME_CLK_CTRL (b2n src)).set DEV_STATUS_PLL_LOCK 0).set DEV_STATUS_CONV_CAL_DONE 0).setB TIME_CLK_STATUS_SCLK_OK
    (decide (b2n src % 2 = 1) && w.on SCLK_PRESENT)).set TIME_EPOCH_STATUS_VALID 0

/-- R33: TL stops, and an accepted edge is forgotten. -/
def clkStopped (w : Work σ) : Work σ := { w with tlc := .stop, dev := { w.dev with epochZero := none } }

theorem clkCtrlWrite_change (s : State) (path : Path) (src : Bool) (h : s.get TIME_CLK_CTRL ≠ b2n src)
    (hrel : s.get DEV_STATUS_TILES_RELEASED = 0) :
    clkCtrlWrite (Work.start s) path (b2n src) = clkStopped (clkSwitched (Work.start s) src) := by
  have present : (((Work.start s).set TIME_CLK_CTRL (b2n src)).set DEV_STATUS_PLL_LOCK 0 |>.set DEV_STATUS_CONV_CAL_DONE 0).on SCLK_PRESENT =
      (Work.start s).on SCLK_PRESENT := by
    simp (disch := decide) only [Work.on, Work.get_set_ne]
  rw [clkCtrlWrite, if_neg (src_changes s src h), if_neg (by simp [on_start, hrel])]
  simp only [present]
  rfl

theorem clkSrc_taken (s : State) (hs : s.wf = true) (via : Via) (src : Bool) (h : s.get TIME_CLK_CTRL ≠ b2n src)
    (hrel : s.get DEV_STATUS_TILES_RELEASED = 0) : Answers (.clkSrcWrite via src) s (fun t => t.get TIME_CLK_CTRL = b2n src ∧
        t.get DEV_STATUS_PLL_LOCK = 0 ∧ t.get DEV_STATUS_CONV_CAL_DONE = 0 ∧ t.get TIME_EPOCH_STATUS_VALID = 0 ∧
        t.get TIME_CLK_STATUS_SCLK_OK = (if src = true ∧ s.get SCLK_PRESENT ≠ 0 then 1 else 0) ∧
        t.tl = ⟨0, false⟩ ∧ t.dev = { s.view.dev with epochZero := none } ∧ t.fuse = s.fuse ∧ t.pending = s.pending ∧
        StoresKept s t ∧ RegsBut s t [TIME_CLK_CTRL, DEV_STATUS_PLL_LOCK, DEV_STATUS_CONV_CAL_DONE, TIME_CLK_STATUS_SCLK_OK,
          TIME_EPOCH_STATUS_VALID]) := by
  have get : ∀ f, (clkStopped (clkSwitched (Work.start s) src)).finish.get f = (clkSwitched (Work.start s) src).get f := fun f =>
    Work.finish_get _ f hs
  refine ⟨(clkStopped (clkSwitched (Work.start s) src)).finish,
    by rw [exec, execClkSrcWrite, run_eq, clkCtrlWrite_change s _ src h hrel], ?_, ?_, ?_, ?_, ?_, rfl, rfl, rfl, rfl,
    ⟨fun a => ?_, fun a => ?_⟩, fun f hf => ?_⟩
  · rw [get, clkSwitched, Work.setB]
    simp (disch := decide) only [Work.get_set_self, Work.get_set_ne]
    cases src <;> rfl
  · rw [get, clkSwitched, Work.setB]
    simp (disch := decide) only [Work.get_set_self, Work.get_set_ne, Nat.zero_mod]
  · rw [get, clkSwitched, Work.setB]
    simp (disch := decide) only [Work.get_set_self, Work.get_set_ne, Nat.zero_mod]
  · rw [get, clkSwitched, Work.get_set_self, Nat.zero_mod]
  · rw [get, clkSwitched, Work.setB]
    simp (disch := decide) only [Work.get_set_self, Work.get_set_ne, on_start]
    by_cases hp : s.get SCLK_PRESENT = 0 <;> cases src <;> simp [hp, b2n, TIME_CLK_STATUS_SCLK_OK]
  · exact (Work.finish_byteAt _ a hs).trans ((quiet_start s).rd8 a)
  · exact (Work.finish_flashAt _ a hs).trans ((quiet_start s).fl8 a)
  · have keeps : Keeps (clkSwitched (Work.start s) src) [TIME_CLK_CTRL, DEV_STATUS_PLL_LOCK, DEV_STATUS_CONV_CAL_DONE,
        TIME_CLK_STATUS_SCLK_OK, TIME_EPOCH_STATUS_VALID] := by simp [clkSwitched]
    exact (get f).trans (keeps f hf)

theorem startUpSteps : Clause.StartUpSteps := fun s hs =>
  ⟨vdda18Up s hs, lowWaits s hs, refclkDetect_starts s hs, refclkDetect_alone s hs, pllLocks s hs, foreground s hs,
    fun ps hst hlow => fabricReached s hs ps hst hlow, sclkLost s hs, sclkSeen s hs, clkSrc_same s hs, clkSrc_refused s hs, clkSrc_taken s hs⟩

/-! ## The loss of a clock (R34) -/

/-- A converter PLL that was locked is not, and the outputs are unspecified. -/
def unlocked (w : Work σ) : Work σ := ((w.set DEV_STATUS_PLL_LOCK 0).set TIME_CLK_STATUS_LOCK_LOST 1).set CONV_LOST 1

theorem unlocked_get (w : Work σ) : (unlocked w).get DEV_STATUS_PLL_LOCK = 0 ∧ (unlocked w).get TIME_CLK_STATUS_LOCK_LOST = 1 ∧
    (unlocked w).get CONV_LOST = 1 := by
  refine ⟨?_, ?_, ?_⟩ <;>
  · simp (disch := decide) only [unlocked, Work.get_set_self, Work.get_set_ne]
    rfl

theorem pllLoss (s : State) (hs : s.wf = true) (h : s.get DEV_STATUS_PLL_LOCK ≠ 0) : Answers .pllLockLoss s (fun t =>
      t.get DEV_STATUS_PLL_LOCK = 0 ∧ t.get TIME_CLK_STATUS_LOCK_LOST = 1 ∧ t.get CONV_LOST = 1 ∧
      Leaves s t [DEV_STATUS_PLL_LOCK, TIME_CLK_STATUS_LOCK_LOST, CONV_LOST] { s.view.dev with
        held := s.dev.held ++ [s.firing 496] }) := by
  have on : (Work.start s).on DEV_STATUS_PLL_LOCK = true := by simp [on_start, h]
  have lost : lockLost (Work.start s) = unlocked (Work.start s) := if_pos on
  obtain ⟨h1, h2, h3⟩ := unlocked_get (Work.start s)
  refine ⟨((unlocked (Work.start s)).fire 496).finish, by rw [exec, execPllLockLoss, run_eq, if_pos on, lost], ?_, ?_, ?_,
    leaves_finish hs (by simp [unlocked]) (by simp [unlocked]) ?_ rfl⟩
  · rw [Work.finish_get _ _ hs, Work.get_fire, h1]
  · rw [Work.finish_get _ _ hs, Work.get_fire, h2]
  · rw [Work.finish_get _ _ hs, Work.get_fire, h3]
  · rw [fire_dev, firing_eq _ 496 rfl (by simp (disch := decide) only [unlocked, Work.get_set_ne, Work.get_start])]
    rfl

/-- The loss of REFCLK behind that of the PLL's lock. -/
def refLost (w : Work σ) : Work σ := ((w.set DEV_STATUS_REFCLK_OK 0).set TIME_CLK_STATUS_REFCLK_LOST 1).set CONV_LOST 1

theorem refLost_get (w : Work σ) : (refLost w).get DEV_STATUS_REFCLK_OK = 0 ∧ (refLost w).get TIME_CLK_STATUS_REFCLK_LOST = 1 ∧
    (refLost w).get CONV_LOST = 1 ∧ (refLost w).get DEV_STATUS_PLL_LOCK = w.get DEV_STATUS_PLL_LOCK ∧
    (refLost w).get TIME_CLK_STATUS_LOCK_LOST = w.get TIME_CLK_STATUS_LOCK_LOST := by
  refine ⟨?_, ?_, ?_, ?_, ?_⟩ <;> simp (disch := decide) only [refLost, Work.get_set_self, Work.get_set_ne] <;> rfl

/-- The PLL's lock lost where it had one. -/
theorem lockLost_spec (s : State) : ∃ w : Work s, lockLost (Work.start s) = w ∧ w.get DEV_STATUS_PLL_LOCK = 0 ∧
    (s.get DEV_STATUS_PLL_LOCK ≠ 0 → w.get TIME_CLK_STATUS_LOCK_LOST = 1) ∧
    Keeps w [DEV_STATUS_PLL_LOCK, TIME_CLK_STATUS_LOCK_LOST, CONV_LOST] ∧ Quiet w ∧ w.dev = s.view.dev ∧ w.fresh = s.fresh ∧ w.tl = s.tl := by
  by_cases h : s.get DEV_STATUS_PLL_LOCK = 0
  · refine ⟨_, if_neg (by simp [on_start, h]), ?_, fun hn => absurd h hn, keeps_start s _, quiet_start s, rfl, rfl, rfl⟩
    rw [Work.get_start, h]
  · obtain ⟨h1, h2, -⟩ := unlocked_get (Work.start s)
    exact ⟨unlocked (Work.start s), if_pos (by simp [on_start, h]), h1, fun _ => h2, by simp [unlocked], by simp [unlocked], rfl, rfl, rfl⟩

theorem refclkLoss (s : State) (hs : s.wf = true) (h : s.get DEV_STATUS_REFCLK_OK ≠ 0) : Answers .refclkLoss s (fun t =>
      t.get DEV_STATUS_REFCLK_OK = 0 ∧ t.get TIME_CLK_STATUS_REFCLK_LOST = 1 ∧ t.get CONV_LOST = 1 ∧
      t.get DEV_STATUS_PLL_LOCK = 0 ∧ (s.get DEV_STATUS_PLL_LOCK ≠ 0 → t.get TIME_CLK_STATUS_LOCK_LOST = 1) ∧
      Leaves s t [DEV_STATUS_REFCLK_OK, TIME_CLK_STATUS_REFCLK_LOST, DEV_STATUS_PLL_LOCK, TIME_CLK_STATUS_LOCK_LOST, CONV_LOST]
        { s.view.dev with held := s.dev.held ++ [s.firing 496] }) := by
  obtain ⟨w, hw, hlock, hlost, hk, hq, hd, hf, htl⟩ := lockLost_spec s
  obtain ⟨h1, h2, h3, h4, h5⟩ := refLost_get w
  have exec_eq : exec .refclkLoss s = .next ((refLost w).fire 496).finish := by
    rw [exec, execRefclkLoss, run_eq, if_pos (by simp [on_start, h]), hw]
    rfl
  have keeps : Keeps (refLost w) [DEV_STATUS_REFCLK_OK, TIME_CLK_STATUS_REFCLK_LOST, DEV_STATUS_PLL_LOCK, TIME_CLK_STATUS_LOCK_LOST,
      CONV_LOST] := by
    simp only [refLost, keeps_set _ _ _ [DEV_STATUS_REFCLK_OK, TIME_CLK_STATUS_REFCLK_LOST, DEV_STATUS_PLL_LOCK,
      TIME_CLK_STATUS_LOCK_LOST, CONV_LOST], List.mem_cons, true_or, or_true]
    exact hk.mono (by simp)
  refine ⟨_, exec_eq, ?_, ?_, ?_, ?_, fun hn => ?_, leaves_finish hs ((keeps_fire _ _ _).2 keeps) (by simpa [refLost] using hq) ?_ hf⟩
  · rw [Work.finish_get _ _ hs, Work.get_fire, h1]
  · rw [Work.finish_get _ _ hs, Work.get_fire, h2]
  · rw [Work.finish_get _ _ hs, Work.get_fire, h3]
  · rw [Work.finish_get _ _ hs, Work.get_fire, h4, hlock]
  · rw [Work.finish_get _ _ hs, Work.get_fire, h5, hlost hn]
  · have nt : (refLost w).get NT_NOW = s.get NT_NOW := keeps NT_NOW (by decide)
    rw [fire_dev, firing_eq (refLost w) 496 htl nt, show (refLost w).dev = w.dev from rfl, hd]
    rfl

theorem clockLoss : Clause.ClockLoss := fun s hs => ⟨pllLoss s hs, refclkLoss s hs⟩

/-! ## The boot choice and the memory training (R448, R450) -/

/-- Whether there is a queue for the loader depends on the queues' registers alone. -/
theorem imageQueue_congr {w w' : Work σ} (h : ∀ f : Fld, tileBase 0 ≤ f.addr → w'.get f = w.get f) : imageQueue w' = imageQueue w := by
  have place : ∀ t i, tileBase 0 ≤ (QT_CFG_EN t i).addr ∧ tileBase 0 ≤ (QT_CFG_CONSUMER t i).addr := fun t i => by
    simp only [QT_CFG_EN, QT_CFG_CONSUMER, tileBase]
    omega
  simp only [imageQueue, qEnabled, Work.on, h _ (place _ _).1, h _ (place _ _).2]

/-- A loader that waits for its source, or finds no queue, takes nothing. -/
theorem loaderPull_idle (w : Work σ) (h : w.dev.loader.boot = .open_ → imageQueue w = none) : loaderPull w = w := by
  rw [loaderPull]
  cases hq : imageQueue w with
  | none => rfl
  | some q =>
    have shut : w.ld.boot ≠ .open_ := fun hb => by rw [h hb] at hq; exact absurd hq (by simp)
    have step : loaderStep w = (false, w) := by rw [loaderStep, if_pos shut]
    show loaderTake (qFill w q.1 q.2) w = w
    cases qFill w q.1 q.2 with
    | zero => rfl
    | succ n => rw [loaderTake, step]; rfl

theorem bootBits (src : Bool) : bits (8 + 4 * b2n src) 2 1 = b2n src ∧ bit (8 + 4 * b2n src) 3 = true := by
  cases src <;> decide

/-- DEV.BOOT with its SRC and without the wait. -/
def bootTaken (w : Work σ) (src : Bool) : Work σ :=
  ((w.set DEV_BOOT_SRC (b2n src)).set DEV_BOOT_WAITING 0).updLd (fun l => { l with boot := if src then .open_ else .flash })

theorem bootWrite_waiting (w : Work σ) (path : Path) (src : Bool) (h : w.get DEV_BOOT_WAITING ≠ 0) :
    bootWrite w path (8 + 4 * b2n src) = loaderPull (bootTaken w src) := by
  obtain ⟨h2, h3⟩ := bootBits src
  have wait : (w.set DEV_BOOT_SRC (b2n src)).on DEV_BOOT_WAITING = true := by
    rw [Work.on, Work.get_set_ne _ _ _ _ (by decide)]
    simpa using h
  have choice : (w.set DEV_BOOT_SRC (b2n src)).on DEV_BOOT_SRC = src := by
    rw [Work.on, Work.get_set_self]
    cases src <;> rfl
  simp only [bootWrite, h2, h3, wait, choice, if_true]
  rfl

theorem bootWrite_over (w : Work σ) (path : Path) (src : Bool) (h : w.get DEV_BOOT_WAITING = 0) :
    bootWrite w path (8 + 4 * b2n src) = (w.set DEV_BOOT_SRC (b2n src)).errlog 0x02 path 63 0 DEV_BOOT_GO.addr := by
  obtain ⟨h2, h3⟩ := bootBits src
  have idle_ : (w.set DEV_BOOT_SRC (b2n src)).on DEV_BOOT_WAITING = false := by
    rw [Work.on, Work.get_set_ne _ _ _ _ (by decide)]
    simpa using h
  simp only [bootWrite, h2, h3, idle_, if_true, Bool.false_eq_true, if_false]
  rfl

theorem bootSrc_get (w : Work σ) (src : Bool) : (w.set DEV_BOOT_SRC (b2n src)).get DEV_BOOT_SRC = b2n src := by
  rw [Work.get_set_self]
  cases src <;> rfl

theorem bootAndTraining : Clause.BootAndTraining := by
  intro s hs
  refine ⟨fun via src hw hq => ?_, fun hw via src => ?_, fun hh hp => ?_⟩
  · have pull : loaderPull (bootTaken (Work.start s) src) = bootTaken (Work.start s) src := by
      refine loaderPull_idle _ (fun hb => ?_)
      have host : src = true := by
        cases src with
        | true => rfl
        | false => exact absurd hb (by simp [bootTaken, Work.updLd])
      rw [imageQueue_congr (w := Work.start s)]
      · exact hq host
      · intro f hf
        simp only [tileBase] at hf
        rw [bootTaken, Work.get_updLd, Work.get_set_ne, Work.get_set_ne] <;> simp only [Fld.key, DEV_BOOT_SRC, DEV_BOOT_WAITING] <;> omega
    refine ⟨_, by rw [exec, execBootGo, run_eq, bootWrite_waiting _ _ _ (by rw [Work.get_start]; exact hw), pull], ?_, ?_,
      leaves_finish hs (by simp [bootTaken]) (by simp [bootTaken]) rfl rfl⟩ <;> rw [Work.finish_get _ _ hs, bootTaken, Work.get_updLd]
    · rw [Work.get_set_self, Nat.zero_mod]
    · rw [Work.get_set_ne _ _ _ _ (by decide), bootSrc_get]
  · obtain ⟨w, hw', hlogged, -⟩ := errlog_effect ((Work.start s).set DEV_BOOT_SRC (b2n src)) 0x02 63 0 DEV_BOOT_GO.addr (viaPath via) hs
      (by rw [Work.get_set_ne _ _ _ _ (by decide), Work.get_start]) (by decide) (by decide)
    refine ⟨w.finish, by rw [exec, execBootGo, run_eq, bootWrite_over _ _ _ (by rw [Work.get_start]; exact hw), hw'], ?_, hlogged⟩
    rw [Work.finish_get _ _ hs, ← hw', get_errlog_of_addr _ _ _ _ _ _ _ (by decide) (by decide), bootSrc_get]
  · have held : (Work.start s).ld.holding = true ∧ (!portsTrain (Work.start s)) = true := ⟨hh, by rw [hp]; rfl⟩
    refine ⟨_, by rw [exec, execMemoryTrainingResume, run_eq, if_pos held], ?_⟩
    exact leaves_finish hs (keeps_start s []) (quiet_start s) rfl rfl

/-- Settles O6: each step of the start-up order, the loss of a clock and the boot choice by its own equation. -/
theorem startUpOrder : Obligations.StartUpOrder := ⟨startUpSteps, clockLoss, bootAndTraining⟩

end Sys2Proof.StartUpProofs
end

section
/-! PROOFS. The sequencer outside lockstep: the tile's own set, a step off the word's list, the wait that the next step begins, and what
a cut leaves as it was (R54, R171, R193, R226). -/

namespace Sys2Proof.SeqFacts

open Sys2Proof.Machine Sys2Proof.Effects

variable {σ : State}

/-! ## Tiles -/

theorem tile_updTile_ne (w : Work σ) (t v : Nat) (f : Tile → Tile) (h : v ≠ t) : (w.updTile t f).tile v = w.tile v := by
  by_cases ht : t < 32
  · rw [Work.tile_updTile _ _ _ _ ht, if_neg h]
  · rw [Work.updTile, Work.setTile, Work.tile, vset, dif_neg ht]
    rfl

theorem tile_updTile_self (w : Work σ) (t : Nat) (f : Tile → Tile) (ht : t < 32) : (w.updTile t f).tile t = f (w.tile t) := by
  rw [Work.tile_updTile _ _ _ _ ht, if_pos rfl]

theorem seq_updSeq (w : Work σ) (t : Nat) (f : SeqSt → SeqSt) (ht : t < 32) : (w.updSeq t f).seq t = f (w.seq t) := by
  rw [Work.seq, Work.updSeq, tile_updTile_self _ _ _ ht]
  rfl

theorem tile_updSeq (w : Work σ) (t : Nat) (f : SeqSt → SeqSt) (ht : t < 32) :
    (w.updSeq t f).tile t = { w.tile t with seq := f (w.seq t) } := tile_updTile_self _ _ _ ht

/-! ## Works within one tile -/

/-- Registers of K and tile t have changed, of the tile nothing that φ shows; the stores, the other tiles and the rest of the typed
state stand. -/
def TileLocal {α : Type} (K : Fld → Prop) (t : Nat) (φ : Tile → α) (w w' : Work σ) : Prop :=
  TileWork K w w' ∧ (∀ v, v ≠ t → w'.tile v = w.tile v) ∧ φ (w'.tile t) = φ (w.tile t)

section

variable {α : Type} {K : Fld → Prop} {t : Nat} {φ : Tile → α} {w w' : Work σ}

theorem TileLocal.refl (w : Work σ) : TileLocal K t φ w w := ⟨TileWork.refl w, fun _ _ => rfl, rfl⟩

theorem TileLocal.set (h : TileLocal K t φ w w') (f : Fld) (v : Nat) (hf : K f) : TileLocal K t φ w (w'.set f v) :=
  ⟨h.1.set f v hf, h.2⟩

theorem TileLocal.inc (h : TileLocal K t φ w w') (f : Fld) (hf : K f) : TileLocal K t φ w (w'.inc f) := h.set f _ hf

theorem TileLocal.updTile (h : TileLocal K t φ w w') (u : Tile → Tile) (hu : ∀ x, φ (u x) = φ x) :
    TileLocal K t φ w (w'.updTile t u) := by
  obtain ⟨hw, hne, hφ⟩ := h
  refine ⟨hw.updTile t u, fun v hv => (tile_updTile_ne _ _ _ _ hv).trans (hne v hv), ?_⟩
  by_cases ht : t < 32
  · rw [tile_updTile_self _ _ _ ht, hu, hφ]
  · rw [Work.updTile, Work.setTile, Work.tile, vset, dif_neg ht]
    exact hφ

theorem TileLocal.ite {p : Prop} [Decidable p] {a b : Work σ} (ha : TileLocal K t φ w a) (hb : TileLocal K t φ w b) :
    TileLocal K t φ w (if p then a else b) := by
  split
  · exact ha
  · exact hb

theorem TileLocal.each {β : Type} (h : TileLocal K t φ w w') (f : Work σ → β → Work σ) (l : List β)
    (hf : ∀ w'' x, x ∈ l → TileLocal K t φ w w'' → TileLocal K t φ w (f w'' x)) : TileLocal K t φ w (w'.each l f) := by
  induction l generalizing w' with
  | nil => exact h
  | cons x l ih => exact ih (hf _ _ List.mem_cons_self h) (fun w'' y hy => hf w'' y (List.mem_cons_of_mem _ hy))

end

/-! ## What a tile holds back, discarded (R45, R54, R126, R226) -/

/-- What φ shows of a tile is no part of what its clasps, stage queues, page buffers and windows hold, nor of its aborts. -/
def Unseen {α : Type} (φ : Tile → α) : Prop :=
  ∀ (x : Tile) (clasps : Vector Clasp 33) (stage : List Staged) (pages : List PageBuf) (win : Vector (Option Window) 8)
    (late : List (Nat × Window)) (aborts : List Nat) (cursor : Nat) (cut : Bool),
    φ { x with clasps, stage, pages, win, late, aborts, seq := { x.seq with cursor, cutPending := cut } } = φ x

/-- The registers that a cut writes in tile t beside those of the sequencer. -/
def CutFld (t : Nat) (g : Fld) : Prop :=
  g = CLASP_ABORT_CTRL_GEN t ∨ g = CLASP_ABORT_CTRL_BUSY t ∨ g = ABORT_E t ∨ ∃ k < 8, g = RD_STATUS_OPEN t k

section

variable {α : Type} {K : Fld → Prop} {t : Nat} {φ : Tile → α} {w w' : Work σ} (hφ : Unseen φ)

include hφ

theorem TileLocal.updClasp (h : TileLocal K t φ w w') (c : Nat) (u : Clasp → Clasp) : TileLocal K t φ w (w'.updClasp t c u) :=
  h.updTile _ (fun x => hφ x _ x.stage x.pages x.win x.late x.aborts x.seq.cursor x.seq.cutPending)

theorem TileLocal.pageDrop (h : TileLocal K t φ w w') (page : Option Nat) : TileLocal K t φ w (pageDrop w' t page) := by
  cases page with
  | none => exact h
  | some p => exact h.updTile _ (fun x => hφ x x.clasps x.stage _ x.win x.late x.aborts x.seq.cursor x.seq.cutPending)

theorem TileLocal.dropPages (h : TileLocal K t φ w w') (es : List HeldEntry) : TileLocal K t φ w (dropPages w' t es) :=
  h.each _ _ (fun _ _ _ h => TileLocal.pageDrop hφ h _)

theorem TileLocal.dropOpen (h : TileLocal K t φ w w') (c : Nat) : TileLocal K t φ w (dropOpen w' t c) := by
  rw [Machine.dropOpen]
  split
  · exact h
  · exact TileLocal.dropPages hφ (TileLocal.updClasp hφ h c _) _

theorem TileLocal.keepItems (h : TileLocal K t φ w w') (c : Nat) (keep : HeldEntry → Bool) :
    TileLocal K t φ w (keepItems w' t c keep) := TileLocal.dropPages hφ (TileLocal.updClasp hφ h c _) _

theorem TileLocal.stage (h : TileLocal K t φ w w') (u : List Staged → List Staged) :
    TileLocal K t φ w (w'.updTile t (fun x => { x with stage := u x.stage })) :=
  h.updTile _ (fun x => hφ x x.clasps _ x.pages x.win x.late x.aborts x.seq.cursor x.seq.cutPending)

theorem TileLocal.discardFrom (h : TileLocal K t φ w w') (e : Nat) : TileLocal K t φ w (discardFrom w' t e) := by
  refine TileLocal.stage hφ (h.each _ _ (fun w'' c _ h => ?_)) _
  have kept := TileLocal.keepItems hφ h c (fun h => decide (h.entry.stamp < e))
  refine TileLocal.updClasp hφ ?_ c _
  split
  · split
    · exact TileLocal.ite kept (TileLocal.dropOpen hφ kept c)
    · exact kept
  · exact kept

theorem TileLocal.discardGroupsWindows (h : TileLocal K t φ w w') : TileLocal K t φ w (discardGroupsWindows w' t) := by
  refine TileLocal.stage hφ (h.each _ _ (fun w'' c _ h => ?_)) _
  have gone := TileLocal.dropPages hφ (TileLocal.updClasp hφ h c (fun k => { k with
      items := k.items.filter (fun i => !i.cut)
      hist := (((w''.clasp t c).items.filter Item.cut).filterMap Item.admission).foldl List.erase k.hist }))
    (((w''.clasp t c).items.filter Item.cut).flatMap Item.members)
  dsimp only
  split
  · exact TileLocal.ite gone (TileLocal.dropOpen hφ gone c)
  · exact gone

theorem TileLocal.abandonWindows (h : TileLocal K t φ w w') (hK : ∀ k < 8, K (RD_STATUS_OPEN t k)) :
    TileLocal K t φ w (abandonWindows w' t) := by
  have late : TileLocal K t φ w (w'.updTile t (fun x => { x with late := [] })) :=
    h.updTile _ (fun x => hφ x x.clasps x.stage x.pages x.win _ x.aborts x.seq.cursor x.seq.cutPending)
  refine late.each _ _ (fun w'' k hk h => TileLocal.ite (TileLocal.set ?_ _ _ (hK k (List.mem_range.1 hk))) h)
  exact h.updTile _ (fun x => hφ x x.clasps x.stage x.pages _ x.late x.aborts x.seq.cursor x.seq.cutPending)

theorem TileLocal.abortFrom (h : TileLocal K t φ w w') (f : Nat)
    (hK : K (CLASP_ABORT_CTRL_GEN t) ∧ K (CLASP_ABORT_CTRL_BUSY t) ∧ K (ABORT_E t)) : TileLocal K t φ w (abortFrom w' t f) := by
  obtain ⟨hgen, hbusy, he⟩ := hK
  exact ((((TileLocal.discardFrom hφ h _).set _ _ hgen).set _ _ hbusy).set _ _ he).updTile _
    (fun x => hφ x x.clasps x.stage x.pages x.win x.late _ _ x.seq.cutPending)

end

/-- A cut up to the state of its tile. -/
def cutWork (w : Work σ) (t : Nat) : Work σ :=
  (abortFrom (abandonWindows (discardGroupsWindows w t) t) t 0).updSeq t (fun s => { s with cutPending := false })

theorem cutNow_eq (w : Work σ) (t : Nat) : cutNow w t =
    (((cutWork w t).set (SEQ_STATE_STATE t) HALTED).set (SEQ_CTRL_STOP t) 0).fire (tileSrc t 0) := rfl

theorem cutNow_cutPending (w : Work σ) (t : Nat) (ht : t < 32) : ((cutNow w t).seq t).cutPending = false := by
  have work : (cutWork w t).seq t = { (cutWork w t).seq t with cutPending := false } := by
    rw [cutWork, seq_updSeq _ _ _ ht]
  rw [cutNow_eq, Work.seq, Work.tile, fire_dev, Work.set_dev, Work.set_dev, ← Work.tile, ← Work.seq, work]

theorem cutWork_local {α : Type} {φ : Tile → α} (hφ : Unseen φ) (w : Work σ) (t : Nat) : TileLocal (CutFld t) t φ w (cutWork w t) := by
  refine TileLocal.updTile ?_ _ (fun x => hφ x x.clasps x.stage x.pages x.win x.late x.aborts x.seq.cursor _)
  refine TileLocal.abortFrom hφ ?_ 0 ⟨.inl rfl, .inr (.inl rfl), .inr (.inr (.inl rfl))⟩
  exact TileLocal.abandonWindows hφ (TileLocal.discardGroupsWindows hφ (TileLocal.refl w)) (fun k hk => .inr (.inr (.inr ⟨k, hk, rfl⟩)))

/-! ## Outside lockstep -/

section

variable {w : Work σ} (hl : w.get DEV_STATUS_LOCKSTEP = 0)

include hl

theorem lockstep_eq : lockstep w = false := by rw [lockstep, Work.on, hl]; rfl

theorem leader_eq (t : Nat) : leader w t = t := by rw [leader, lockstep_eq hl]; rfl

theorem members_eq (t : Nat) : members w t = [t] := by rw [members, lockstep_eq hl]; rfl

theorem heldBack_eq (t : Nat) : heldBack w t = false := by simp [heldBack, leader_eq hl]

/-- A word with a step left is not at its end: the step that it has reached may begin to wait. -/
theorem settle_eq_noteWait (t : Nat) (c : WordSt) (hcur : (w.seq t).cur = some c) (htodo : c.todo ≠ []) : settle w t = noteWait w t := by
  simp only [settle, leader_eq hl, members_eq hl, hcur, List.all_cons, List.all_nil, Bool.and_true, decide_eq_true_eq]
  rw [if_neg htodo]
  rfl

/-- Where no word is in its steps, none settles. -/
theorem settle_idle (t : Nat) (hcur : (w.seq t).cur = none) : settle w t = w := by
  simp only [settle, leader_eq hl, hcur]

/-- A word without a step left is finished. -/
theorem settle_eq_finishWord (t : Nat) (c : WordSt) (hcur : (w.seq t).cur = some c) (htodo : c.todo = []) :
    settle w t = finishWord w t c := by
  simp only [settle, leader_eq hl, members_eq hl, hcur, List.all_cons, List.all_nil, Bool.and_true, decide_eq_true_eq]
  rw [if_pos htodo]

end

/-! ## The wait that a step begins (R171, R193) -/

/-- The sequencer of a tile but for its word, and all else of the tile. -/
def butWord (x : Tile) : Tile := { x with seq := { x.seq with cur := none } }

/-- The step that the word c of tile t has reached has begun its wait, if it waits at all. -/
def Waited (t : Nat) (c : WordSt) (w w' : Work σ) : Prop :=
  TileLocal (fun g => g ∈ waitFlds t) t butWord w w' ∧ (∃ n, (w'.seq t).cur = some { c with waitFrom := n }) ∧ ∀ a, w'.rd8 a = w.rd8 a

theorem noteWait_waited (w : Work σ) (t : Nat) (c : WordSt) (ht : t < 32) (hl : w.get DEV_STATUS_LOCKSTEP = 0)
    (hcur : (w.seq t).cur = some c) : Waited t c w (noteWait w t) := by
  have stays : Waited t c w w := ⟨TileLocal.refl w, ⟨c.waitFrom, hcur⟩, fun _ => rfl⟩
  have flds : FB_FENCE_WAITING t ∈ waitFlds t ∧ FB_FENCE_DID t ∈ waitFlds t := by simp [waitFlds]
  have waits : Waited t c w (if inWaits w t c ∧ c.waitFrom = none then
      w.updSeq t (fun s => { s with cur := some { c with waitFrom := some w.now } }) else w) := by
    split
    · exact ⟨(TileLocal.refl w).updTile _ (fun _ => rfl), ⟨some w.now, by rw [seq_updSeq _ _ _ ht]⟩, fun _ => rfl⟩
    · exact stays
  simp only [noteWait, hcur, heldBack_eq hl, Bool.false_eq_true, if_false]
  split
  · exact ⟨((TileLocal.refl w).set _ _ flds.1).set _ _ flds.2, ⟨c.waitFrom, hcur⟩, fun _ => rfl⟩
  · exact waits
  · exact waits
  · exact stays

/-- Only a fence and a datapath operation wait. -/
theorem noteWait_safe (w : Work σ) (t : Nat) (c : WordSt) (rest : List WStep) (hl : w.get DEV_STATUS_LOCKSTEP = 0)
    (hcur : (w.seq t).cur = some c) (htodo : c.todo = .safe :: rest) : noteWait w t = w := by
  simp only [noteWait, hcur, heldBack_eq hl, Bool.false_eq_true, if_false, htodo]

section

variable {t : Nat} {c : WordSt} {w w' : Work σ} (h : Waited t c w w')

include h

theorem Waited.get (f : Fld) (hf : ∀ g ∈ waitFlds t, f.key ≠ g.key) : w'.get f = w.get f := h.1.1.1 f hf

theorem Waited.keeps {fs : List Fld} (hk : Keeps w fs) (hfs : waitFlds t ⊆ fs) : Keeps w' fs :=
  fun f hf => (h.get f (fun g hg => hf g (hfs hg))).trans (hk f hf)

theorem Waited.quiet (hq : Quiet w) : Quiet w' := h.1.1.2.1 hq

theorem Waited.dev : w'.dev = { w.dev with tiles := w'.dev.tiles } := h.1.1.2.2.2

theorem Waited.held : w'.dev.held = w.dev.held := by rw [h.dev]

theorem Waited.tile_ne (v : Nat) (hv : v ≠ t) : w'.tile v = w.tile v := h.1.2.1 v hv

/-- What the tile holds beside its word stands. -/
theorem Waited.tile {β : Type} (φ : Tile → β) (hφ : ∀ x, φ (butWord x) = φ x) : φ (w'.tile t) = φ (w.tile t) := by
  rw [← hφ (w'.tile t), h.1.2.2, hφ]

theorem Waited.frame {fs : List Fld} (hs : σ.wf = true) (hk : Keeps w fs) (hfs : waitFlds t ⊆ fs) (hq : Quiet w) : Frame σ w'.finish fs :=
  frame_finish hs (h.keeps hk hfs) (h.quiet hq)

end

/-! ## A step of a word (R193) -/

/-- A step that is not stalled acts on the tile with the step off the word's list, and the word settles. -/
theorem doStep_acts (s : State) (u : Nat) (c : WordSt) (x : WStep) (rest : List WStep) (hst : Stepping s u c x rest)
    (p : WordSt → WStep → Bool) (f : Work s → WordSt → Work s) (hp : p c x = true) :
    doStep (Work.start s) u p f = settle (f (popStep (Work.start s) u) c) u := by
  obtain ⟨-, hcur, htodo, hstall⟩ := hst
  have cur : ((Work.start s).seq u).cur = some c := hcur
  simp only [doStep, cur, htodo, hp, Bool.not_true, Bool.false_eq_true, if_false]
  rw [if_neg (by rw [hstall]; decide)]

theorem popStep_seq (s : State) (u : Nat) (hu : u < 32) (c : WordSt) (x : WStep) (rest : List WStep) (hst : Stepping s u c x rest) :
    (popStep (Work.start s) u).seq u =
      { (s.tile u).seq with cur := some { c with todo := rest, waitFrom := none }, starved := false } := by
  obtain ⟨-, hcur, htodo, -⟩ := hst
  have cur : ((Work.start s).seq u).cur = some c := hcur
  rw [popStep, seq_updSeq _ _ _ hu, cur, Option.map_some, htodo]
  rfl

/-- A step that keeps another behind it. -/
theorem doStep_next (s : State) (u : Nat) (hu : u < 32) (c : WordSt) (x : WStep) (rest : List WStep) (hst : Stepping s u c x rest)
    (p : WordSt → WStep → Bool) (f : Work s → WordSt → Work s) (hp : p c x = true) (w : Work s)
    (hw : f (popStep (Work.start s) u) c = w) (hl : w.get DEV_STATUS_LOCKSTEP = 0) (c' : WordSt) (hcur : (w.seq u).cur = some c')
    (hrest : c'.todo ≠ []) : ∃ w', doStep (Work.start s) u p f = w' ∧ Waited u c' w w' :=
  ⟨_, by rw [doStep_acts s u c x rest hst p f hp, hw, settle_eq_noteWait hl u c' hcur hrest], noteWait_waited w u c' hu hl hcur⟩

/-- The word of a tile has completed its step. -/
theorem Waited.stepped {s : State} {u : Nat} {c : WordSt} {rest : List WStep} {w w' : Work s}
    (h : Waited u { c with todo := rest, waitFrom := none } w w') : Stepped w'.finish u c rest := h.2.1

theorem get_popStep (s : State) (u : Nat) (f : Fld) : (popStep (Work.start s) u).get f = s.get f := by
  rw [popStep, Work.get_updSeq, Work.get_start]

theorem popStep_keeps (s : State) (u : Nat) (fs : List Fld) : Keeps (popStep (Work.start s) u) fs := fun f _ => get_popStep s u f

theorem popStep_quiet (s : State) (u : Nat) : Quiet (popStep (Work.start s) u) := (quiet_updSeq _ _ _).2 (quiet_start s)

theorem popStep_held (s : State) (u : Nat) : (popStep (Work.start s) u).dev.held = s.dev.held := rfl

/-- What the tile holds beside the sequencer stands when a step comes off its list. -/
theorem popStep_tile {β : Type} (s : State) (u : Nat) (hu : u < 32) (φ : Tile → β) (hφ : ∀ (x : Tile) q, φ { x with seq := q } = φ x) :
    φ ((popStep (Work.start s) u).tile u) = φ (s.tile u) := by
  rw [popStep, tile_updSeq _ _ _ hu, hφ]

theorem popStep_cur (s : State) (u : Nat) (hu : u < 32) (c : WordSt) (x : WStep) (rest : List WStep) (hst : Stepping s u c x rest) :
    ((popStep (Work.start s) u).seq u).cur = some { c with todo := rest, waitFrom := none } := by
  rw [popStep_seq s u hu c x rest hst]

/-- The registers of a fence are those of one word of the tile's window. -/
theorem apart_waitFlds (u : Nat) (f : Fld) (hlo : f.lo < 32) (haddr : f.addr ≠ tileBase u + 0x6A04) : ∀ g ∈ waitFlds u, f.key ≠ g.key := by
  simp only [waitFlds, List.mem_cons, List.not_mem_nil, or_false, forall_eq_or_imp, forall_eq, Fld.key, FB_FENCE_WAITING, FB_FENCE_DID]
  omega

/-- LOCKSTEP is no register of a tile. -/
theorem lockstep_apart (g : Fld) (hg : 0x2000 ≤ g.addr) : DEV_STATUS_LOCKSTEP.key ≠ g.key := by
  simp only [Fld.key, DEV_STATUS_LOCKSTEP]
  omega

section

variable (s : State) (hs : s.wf = true) (u : Nat) (hu : u < 32) (c : WordSt) (x : WStep) (rest : List WStep)
  (hst : Stepping s u c x rest) (hrest : rest ≠ []) (p : WordSt → WStep → Bool) (f : Work s → WordSt → Work s) (hp : p c x = true)
  (fs : List Fld) (hfs : ∀ g ∈ fs, 0x2000 ≤ g.addr) (w : Work s) (hw : f (popStep (Work.start s) u) c = w) (hk : Keeps w fs)

include hs hu hst hrest hp hfs hw hk

/-- A step that keeps another behind it. -/
theorem step_keeps (hcur : (w.seq u).cur = some { c with todo := rest, waitFrom := none }) : ∃ w', doStep (Work.start s) u p f = w' ∧ Waited u { c with todo := rest, waitFrom := none } w w' ∧
    Stepped w'.finish u c rest ∧ w'.finish.dev.held = w.dev.held ∧ RegsBut s w'.finish (fs ++ waitFlds u) ∧
    (∀ a, w'.finish.byteAt a = w.rd8 a) ∧ ∀ g, g.lo < 32 → g.addr ≠ tileBase u + 0x6A04 → w'.finish.get g = w.get g := by
  have lock : w.get DEV_STATUS_LOCKSTEP = 0 := (hk _ (fun g hg => lockstep_apart g (hfs g hg))).trans hst.1
  obtain ⟨w', hw', h⟩ := doStep_next s u hu c x rest hst p f hp w hw lock _ hcur hrest
  exact ⟨w', hw', h, h.stepped, h.held,
    regsBut_finish hs (h.keeps (hk.mono (List.subset_append_left _ _)) (List.subset_append_right _ _)),
    fun a => (Work.finish_byteAt _ _ hs).trans (h.2.2 a),
    fun g hlo haddr => (Work.finish_get _ _ hs).trans (h.get g (apart_waitFlds u g hlo haddr))⟩

/-- A step that keeps another behind it, and writes registers and its tile. -/
theorem step_next (hq : Quiet w) (hcur : (w.seq u).cur = some { c with todo := rest, waitFrom := none }) : ∃ w', doStep (Work.start s) u p f = w' ∧ Waited u { c with todo := rest, waitFrom := none } w w' ∧
    Stepped w'.finish u c rest ∧ w'.finish.dev.held = w.dev.held ∧ Frame s w'.finish (fs ++ waitFlds u) ∧
    ∀ g, g.lo < 32 → g.addr ≠ tileBase u + 0x6A04 → w'.finish.get g = w.get g := by
  obtain ⟨w', hw', h, hstep, hheld, -, -, hget⟩ := step_keeps s hs u hu c x rest hst hrest p f hp fs hfs w hw hk hcur
  exact ⟨w', hw', h, hstep, hheld, h.frame hs (hk.mono (List.subset_append_left _ _)) (List.subset_append_right _ _) hq, hget⟩

end

/-! ## Cuts (R224, R226, R228) -/

/-- The cause, the address and the restart address of a cut. -/
def recorded (w : Work σ) (t cause addr restart : Nat) : Work σ :=
  ((w.set (SEQ_HALT_INFO_CAUSE t) cause).set (SEQ_HALT_INFO_ADDR t) addr).set (SEQ_RESTART t) restart

/-- Beside those, the record of a cut writes the failing groups and the error log. -/
theorem recordCut_get (w : Work σ) (t cause addr restart pargrp : Nat) (f : Fld) (hlo : f.lo < 32)
    (haddr : f.addr < 0x1010 ∨ 0x2000 ≤ f.addr ∨ f.addr = 0x1014) (hf : f.key ≠ (SEQ_HALT_INFO_PARGRP t).key) :
    (recordCut w t cause addr restart pargrp).get f = (recorded w t cause addr restart).get f := by
  simp only [recordCut, apply_ite (fun w : Work σ => w.get f), get_errlog_of_addr _ _ _ _ _ _ f hlo haddr, Work.get_fire,
    Work.get_set_ne _ _ _ _ hf, ite_self, recorded]

theorem recorded_get (w : Work σ) (t cause addr restart : Nat) :
    (recorded w t cause addr restart).get (SEQ_HALT_INFO_CAUSE t) = cause % 16 ∧
      (recorded w t cause addr restart).get (SEQ_HALT_INFO_ADDR t) = addr % 2 ^ (SEQ_HALT_INFO_ADDR t).width ∧
      (recorded w t cause addr restart).get (SEQ_RESTART t) = restart % 2 ^ (SEQ_RESTART t).width := by
  have apart : (SEQ_HALT_INFO_CAUSE t).key ≠ (SEQ_HALT_INFO_ADDR t).key ∧ (SEQ_HALT_INFO_CAUSE t).key ≠ (SEQ_RESTART t).key ∧
      (SEQ_HALT_INFO_ADDR t).key ≠ (SEQ_RESTART t).key := by
    simp only [Fld.key, SEQ_HALT_INFO_CAUSE, SEQ_HALT_INFO_ADDR, SEQ_RESTART]
    omega
  obtain ⟨h1, h2, h3⟩ := apart
  simp only [recorded, Work.get_set_self, Work.get_set_ne _ _ _ _ h1, Work.get_set_ne _ _ _ _ h2, Work.get_set_ne _ _ _ _ h3]
  exact ⟨rfl, trivial, trivial⟩

theorem recorded_get_ne (w : Work σ) (t cause addr restart : Nat) (f : Fld)
    (hf : ∀ g ∈ [SEQ_HALT_INFO_CAUSE t, SEQ_HALT_INFO_ADDR t, SEQ_RESTART t], f.key ≠ g.key) :
    (recorded w t cause addr restart).get f = w.get f := by
  simp only [List.mem_cons, List.not_mem_nil, or_false, forall_eq_or_imp, forall_eq] at hf
  obtain ⟨h1, h2, h3⟩ := hf
  rw [recorded, Work.get_set_ne _ _ _ _ h3, Work.get_set_ne _ _ _ _ h2, Work.get_set_ne _ _ _ _ h1]

/-- The record of a cut fires sources and leaves the rest of the typed state and the stores. -/
theorem recordCut_rest (w : Work σ) (t cause addr restart pargrp : Nat) : (Quiet (recordCut w t cause addr restart pargrp) ↔ Quiet w) ∧
    (recordCut w t cause addr restart pargrp).dev.tiles = w.dev.tiles := by
  constructor
  · simp [recordCut]
  · simp only [recordCut, apply_ite (fun w : Work σ => w.dev.tiles), errlog_dev, fire_dev, Work.set_dev, ite_self]

/-- A cut as its tile shows it before the clasps hear of it. -/
def cutMarked (w : Work σ) (t : Nat) (c : Nat × Nat) (addr restart : Nat) : Work σ :=
  ((((recordCut w t c.1 addr restart c.2).set (SEQ_CTRL_STOP t) 0).set (SEQ_STATE_STEPPING t) 0).set (FB_FENCE_WAITING t) 0).updSeq t
    (fun s => { s with cur := none, haltReq := false, swapping := false, cutPending := true, next := restart })

theorem each_one {α : Type} (w : Work σ) (f : Work σ → α → Work σ) (x : α) : w.each [x] f = f w x := rfl

/-- One tile's share of a cut. -/
def cutOne (causeOf : Nat → Nat × Nat) (addr restart : Nat) (w : Work σ) (t : Nat) : Work σ :=
  if (cutMarked w t (causeOf t) addr restart).on (CLASP_ABORT_CTRL_BUSY t) then cutMarked w t (causeOf t) addr restart
  else cutNow (cutMarked w t (causeOf t) addr restart) t

theorem cutSet_eq_each (w : Work σ) (t : Nat) (causeOf : Nat → Nat × Nat) (addr restart : Nat) :
    cutSet w t causeOf addr restart = w.each (members w t) (cutOne causeOf addr restart) := rfl

theorem cutSet_eq (w : Work σ) (t : Nat) (causeOf : Nat → Nat × Nat) (addr restart : Nat) (hl : w.get DEV_STATUS_LOCKSTEP = 0) :
    cutSet w t causeOf addr restart = cutOne causeOf addr restart w t := by
  rw [cutSet_eq_each, members_eq hl, each_one]

/-- The registers that the marking of a cut writes in tile t. -/
def markFlds (t : Nat) : List Fld := [SEQ_HALT_INFO_CAUSE t, SEQ_HALT_INFO_ADDR t, SEQ_RESTART t, SEQ_HALT_INFO_PARGRP t, SEQ_CTRL_STOP t,
  SEQ_STATE_STEPPING t, FB_FENCE_WAITING t]

theorem cutMarked_get_ne (w : Work σ) (t : Nat) (c : Nat × Nat) (addr restart : Nat) (f : Fld) (hlo : f.lo < 32)
    (haddr : f.addr < 0x1010 ∨ 0x2000 ≤ f.addr ∨ f.addr = 0x1014) (hf : ∀ g ∈ markFlds t, f.key ≠ g.key) : (cutMarked w t c addr restart).get f = w.get f := by
  simp only [markFlds, List.mem_cons, List.not_mem_nil, or_false, forall_eq_or_imp, forall_eq] at hf
  obtain ⟨hcause, hinfo, hrestart, hpargrp, hstop, hstepping, hwaiting⟩ := hf
  rw [cutMarked, Work.get_updSeq, Work.get_set_ne _ _ _ _ hwaiting, Work.get_set_ne _ _ _ _ hstepping, Work.get_set_ne _ _ _ _ hstop,
    recordCut_get _ _ _ _ _ _ f hlo haddr hpargrp, recorded_get_ne _ _ _ _ _ f (by simp [hcause, hinfo, hrestart])]

theorem cutMarked_get (w : Work σ) (t : Nat) (c : Nat × Nat) (addr restart : Nat) :
    (cutMarked w t c addr restart).get (SEQ_HALT_INFO_CAUSE t) = c.1 % 16 ∧
      (cutMarked w t c addr restart).get (SEQ_HALT_INFO_ADDR t) = addr % 2 ^ (SEQ_HALT_INFO_ADDR t).width ∧
      (cutMarked w t c addr restart).get (SEQ_RESTART t) = restart % 2 ^ (SEQ_RESTART t).width := by
  have get : ∀ f ∈ [SEQ_HALT_INFO_CAUSE t, SEQ_HALT_INFO_ADDR t, SEQ_RESTART t],
      (cutMarked w t c addr restart).get f = (recorded w t c.1 addr restart).get f := by
    intro f hf
    have apart : f.lo < 32 ∧ 0x2000 ≤ f.addr ∧ f.key ≠ (SEQ_HALT_INFO_PARGRP t).key ∧ f.key ≠ (SEQ_CTRL_STOP t).key ∧
        f.key ≠ (SEQ_STATE_STEPPING t).key ∧ f.key ≠ (FB_FENCE_WAITING t).key := by
      simp only [List.mem_cons, List.not_mem_nil, or_false] at hf
      rcases hf with rfl | rfl | rfl <;> simp only [Fld.key, SEQ_HALT_INFO_CAUSE, SEQ_HALT_INFO_ADDR, SEQ_RESTART, SEQ_HALT_INFO_PARGRP,
        SEQ_CTRL_STOP, SEQ_STATE_STEPPING, FB_FENCE_WAITING, tileBase] <;> omega
    obtain ⟨hlo, haddr, hpargrp, hstop, hstepping, hwaiting⟩ := apart
    rw [cutMarked, Work.get_updSeq, Work.get_set_ne _ _ _ _ hwaiting, Work.get_set_ne _ _ _ _ hstepping, Work.get_set_ne _ _ _ _ hstop,
      recordCut_get _ _ _ _ _ _ f hlo (.inr (.inl haddr)) hpargrp]
  rw [get _ (by simp), get _ (by simp), get _ (by simp)]
  exact recorded_get w t c.1 addr restart

theorem cutMarked_rest (w : Work σ) (t : Nat) (ht : t < 32) (c : Nat × Nat) (addr restart : Nat) :
    (Quiet (cutMarked w t c addr restart) ↔ Quiet w) ∧ (∀ v, v ≠ t → (cutMarked w t c addr restart).tile v = w.tile v) ∧
      (cutMarked w t c addr restart).seq t = { w.seq t with
        cur := none, haltReq := false, swapping := false, cutPending := true, next := restart } := by
  obtain ⟨hq, htiles⟩ := recordCut_rest w t c.1 addr restart c.2
  refine ⟨hq, fun v hv => ?_, ?_⟩
  · rw [cutMarked, Work.updSeq, tile_updTile_ne _ _ _ _ hv, Work.tile, Work.tile, ← htiles]
    rfl
  · rw [cutMarked, seq_updSeq _ _ _ ht]
    simp only [Work.seq, Work.tile, Work.set_dev, htiles]

/-- What a cut leaves outside lockstep. -/
theorem cutOne_spec (w : Work σ) (t : Nat) (ht : t < 32) (causeOf : Nat → Nat × Nat) (addr restart : Nat) :
    ∃ w' : Work σ, cutOne causeOf addr restart w t = w' ∧ w'.get (SEQ_HALT_INFO_CAUSE t) = (causeOf t).1 % 16 ∧
      w'.get (SEQ_HALT_INFO_ADDR t) = addr % 2 ^ (SEQ_HALT_INFO_ADDR t).width ∧
      w'.get (SEQ_RESTART t) = restart % 2 ^ (SEQ_RESTART t).width ∧ (w'.seq t).cur = none ∧
      (w.get (CLASP_ABORT_CTRL_BUSY t) = 0 → w'.get (SEQ_STATE_STATE t) = HALTED ∧ (w'.seq t).cutPending = false ∧
        (∃ f ∈ w'.dev.held, f.src = tileSrc t 0) ∧ w'.get (CLASP_ABORT_CTRL_BUSY t) = 1) ∧
      (w.get (CLASP_ABORT_CTRL_BUSY t) ≠ 0 → w'.get (SEQ_STATE_STATE t) = w.get (SEQ_STATE_STATE t) ∧ (w'.seq t).cutPending = true) ∧
      (∀ v, v ≠ t → w'.tile v = w.tile v) ∧ (Quiet w → Quiet w') ∧ w'.get DEV_STATUS_LOCKSTEP = w.get DEV_STATUS_LOCKSTEP := by
  obtain ⟨hcause, haddr, hrestart⟩ := cutMarked_get w t (causeOf t) addr restart
  obtain ⟨hq, htile, hseq⟩ := cutMarked_rest w t ht (causeOf t) addr restart
  have busy : (cutMarked w t (causeOf t) addr restart).get (CLASP_ABORT_CTRL_BUSY t) = w.get (CLASP_ABORT_CTRL_BUSY t) := by
    refine cutMarked_get_ne _ _ _ _ _ _ (by simp [CLASP_ABORT_CTRL_BUSY]) (by simp only [CLASP_ABORT_CTRL_BUSY, tileBase]; omega) ?_
    simp only [markFlds, List.mem_cons, List.not_mem_nil, or_false, forall_eq_or_imp, forall_eq, Fld.key, CLASP_ABORT_CTRL_BUSY,
      SEQ_HALT_INFO_CAUSE, SEQ_HALT_INFO_ADDR, SEQ_RESTART, SEQ_HALT_INFO_PARGRP, SEQ_CTRL_STOP, SEQ_STATE_STEPPING, FB_FENCE_WAITING]
    omega
  have state : (cutMarked w t (causeOf t) addr restart).get (SEQ_STATE_STATE t) = w.get (SEQ_STATE_STATE t) := by
    refine cutMarked_get_ne _ _ _ _ _ _ (by simp [SEQ_STATE_STATE]) (by simp only [SEQ_STATE_STATE, tileBase]; omega) ?_
    simp only [markFlds, List.mem_cons, List.not_mem_nil, or_false, forall_eq_or_imp, forall_eq, Fld.key, SEQ_STATE_STATE,
      SEQ_HALT_INFO_CAUSE, SEQ_HALT_INFO_ADDR, SEQ_RESTART, SEQ_HALT_INFO_PARGRP, SEQ_CTRL_STOP, SEQ_STATE_STEPPING, FB_FENCE_WAITING]
    omega
  have lock : (cutMarked w t (causeOf t) addr restart).get DEV_STATUS_LOCKSTEP = w.get DEV_STATUS_LOCKSTEP := by
    refine cutMarked_get_ne _ _ _ _ _ _ (by decide) (by decide) ?_
    simp only [markFlds, List.mem_cons, List.not_mem_nil, or_false, forall_eq_or_imp, forall_eq, Fld.key, DEV_STATUS_LOCKSTEP,
      SEQ_HALT_INFO_CAUSE, SEQ_HALT_INFO_ADDR, SEQ_RESTART, SEQ_HALT_INFO_PARGRP, SEQ_CTRL_STOP, SEQ_STATE_STEPPING, FB_FENCE_WAITING,
      tileBase]
    omega
  refine ⟨_, rfl, ?_⟩
  by_cases hb : w.get (CLASP_ABORT_CTRL_BUSY t) = 0
  · rw [cutOne, if_neg (by rw [Work.on, busy, hb]; decide)]
    generalize cutMarked w t (causeOf t) addr restart = m at *
    obtain ⟨⟨hget, hquiet, -, -⟩, hother, hcur⟩ := cutWork_local (φ := fun x => x.seq.cur) (fun _ _ _ _ _ _ _ _ _ => rfl) m t
    have get : ∀ f ∈ [DEV_STATUS_LOCKSTEP, SEQ_HALT_INFO_CAUSE t, SEQ_HALT_INFO_ADDR t, SEQ_RESTART t], (cutNow m t).get f = m.get f := by
      intro f hf
      have apart : f.key ≠ (SEQ_STATE_STATE t).key ∧ f.key ≠ (SEQ_CTRL_STOP t).key ∧ ∀ g, CutFld t g → f.key ≠ g.key := by
        simp only [List.mem_cons, List.not_mem_nil, or_false] at hf
        rcases hf with rfl | rfl | rfl | rfl <;> refine ⟨?_, ?_, ?_⟩
        all_goals try rintro g (rfl | rfl | rfl | ⟨k, hk, rfl⟩)
        all_goals simp only [Fld.key, DEV_STATUS_LOCKSTEP, SEQ_HALT_INFO_CAUSE, SEQ_HALT_INFO_ADDR, SEQ_RESTART, SEQ_CTRL_STOP, SEQ_STATE_STATE,
          CLASP_ABORT_CTRL_GEN, CLASP_ABORT_CTRL_BUSY, ABORT_E, RD_STATUS_OPEN, hid, tileBase]
        all_goals omega
      obtain ⟨hstate, hstop, hcut⟩ := apart
      rw [cutNow_eq, Work.get_fire, Work.get_set_ne _ _ _ _ hstop, Work.get_set_ne _ _ _ _ hstate, hget f hcut]
    refine ⟨(get _ (by simp)).trans hcause, (get _ (by simp)).trans haddr, (get _ (by simp)).trans hrestart, ?_, fun _ => ⟨?_, ?_, ?_, ?_⟩,
      fun h => absurd hb h, fun v hv => (hother v hv).trans (htile v hv), fun h => ?_,
      (get _ (by simp)).trans lock⟩
    · exact hcur.trans (congrArg SeqSt.cur hseq)
    · have apart : (SEQ_STATE_STATE t).key ≠ (SEQ_CTRL_STOP t).key := by
        simp only [Fld.key, SEQ_STATE_STATE, SEQ_CTRL_STOP]
        omega
      rw [cutNow_eq, Work.get_fire, Work.get_set_ne _ _ _ _ apart, Work.get_set_self]
      rfl
    · exact cutNow_cutPending m t ht
    · exact ⟨_, List.mem_append_right _ List.mem_cons_self, rfl⟩
    · have apart : (CLASP_ABORT_CTRL_BUSY t).key ≠ (SEQ_STATE_STATE t).key ∧ (CLASP_ABORT_CTRL_BUSY t).key ≠ (SEQ_CTRL_STOP t).key ∧
          (CLASP_ABORT_CTRL_BUSY t).key ≠ (ABORT_E t).key := by
        simp only [Fld.key, SEQ_STATE_STATE, SEQ_CTRL_STOP, CLASP_ABORT_CTRL_BUSY, ABORT_E, hid, tileBase]
        omega
      obtain ⟨h1, h2, h3⟩ := apart
      rw [cutNow_eq, Work.get_fire, Work.get_set_ne _ _ _ _ h2, Work.get_set_ne _ _ _ _ h1, cutWork, Work.get_updSeq, abortFrom,
        Work.get_updTile, Work.get_set_ne _ _ _ _ h3, Work.get_set_self]
      rfl
    · rw [cutNow_eq]
      exact (quiet_fire _ _).2 ((quiet_set _ _ _).2 ((quiet_set _ _ _).2 (hquiet (hq.2 h))))
  · rw [cutOne, if_pos (by rw [Work.on, busy]; simpa using hb)]
    exact ⟨hcause, haddr, hrestart, by rw [hseq], fun h => absurd h hb, fun _ => ⟨state, by rw [hseq]⟩, htile, hq.2, lock⟩

end Sys2Proof.SeqFacts
end

section
/-! PROOFS. The successor of a word and the faults of the stack (R195, R196, R224). -/

namespace Sys2Proof.SuccessorProofs

open Sys2Proof.Machine Sys2Proof.Effects Sys2Proof.SeqFacts

variable {σ : State}

/-! ## What the choice of a successor reads -/

theorem condTrue_popStep (s : State) (u x : Nat) (hu : u < 32) : condTrue (popStep (Work.start s) u) u x = condTrue s.view u x := by
  have input : ((popStep (Work.start s) u).tile u).dspIn = (s.view.tile u).dspIn := by rw [popStep, tile_updSeq _ _ _ hu]
  have fill : qFill (popStep (Work.start s) u) u (mwQueue x) = qFill s.view u (mwQueue x) := by
    have gaps : ((popStep (Work.start s) u).tile u).gaps = (s.view.tile u).gaps := by rw [popStep, tile_updSeq _ _ _ hu]
    rw [qFill, qGapCount, gaps]
    rfl
  rw [condTrue, input, queueHolds, queueCredit, fill]
  rfl

theorem condNow_popStep (s : State) (u : Nat) (c : WordSt) (hu : u < 32) :
    condNow (popStep (Work.start s) u) u c = condNow s.view u c := by
  rw [condNow, condTrue_popStep s u _ hu]
  rfl

theorem stackTop_popStep (s : State) (u : Nat) (h : 0 < s.get (SEQ_SP u)) :
    stackTop (popStep (Work.start s) u) u = some (s.get (SEQ_STACK u (s.get (SEQ_SP u) - 1))) := by
  simp only [stackTop, get_popStep]
  rw [if_neg (by omega)]

theorem stackPop_popStep (s : State) (u : Nat) (h : 0 < s.get (SEQ_SP u)) : stackPop (popStep (Work.start s) u) u =
    some (s.get (SEQ_STACK u (s.get (SEQ_SP u) - 1)), stackDrop (popStep (Work.start s) u) u) := by
  rw [stackPop, stackTop_popStep s u h]
  rfl

/-- The stack with one address more. -/
def pushed (w : Work σ) (t a : Nat) : Work σ := (w.set (SEQ_STACK t (w.get (SEQ_SP t))) a).set (SEQ_SP t) (w.get (SEQ_SP t) + 1)

theorem stackPush_popStep (s : State) (u a : Nat) (h : s.get (SEQ_SP u) < 16) :
    stackPush (popStep (Work.start s) u) u a = some (pushed (popStep (Work.start s) u) u a) := by
  simp only [stackPush, get_popStep, pushed]
  rw [if_pos h]

/-! ## Step 10 -/

/-- A word whose successor is chosen: the step behind it is a safe point, which does not wait. -/
def SuccChosen (s : State) (u : Nat) (c : WordSt) (rest : List WStep) (a : Nat) (fs : List Fld) (t : State) : Prop :=
  (t.tile u).seq.cur = some { c with todo := .safe :: rest, waitFrom := none, succ := a % 4096 } ∧ t.dev.held = s.dev.held ∧ Frame s t fs

/-- The successor of the word of tile t chosen. -/
def chosen (w : Work σ) (t a : Nat) : Work σ :=
  w.updSeq t (fun s => { s with cur := s.cur.map (fun c => { c with succ := a % 4096 }) })

section

variable (s : State) (hs : s.wf = true) (u : Fin 32) (c : WordSt) (rest : List WStep) (hst : Stepping s u c .seq (.safe :: rest))
  (hat : atSeq s.view u c = true)

include hs hst hat

theorem seqStep_chooses (a : Nat) (fs : List Fld) (w : Work s)
    (hsucc : successor (popStep (Work.start s) u) u c = some (a, w)) (hdev : w.dev = (popStep (Work.start s) u).dev)
    (hk : Keeps w fs) (hq : Quiet w) (hl : w.get DEV_STATUS_LOCKSTEP = 0) :
    ∃ w' : Work s, seqStep (Work.start s) u (mwSeq c.word) = w' ∧ (∀ f, w'.get f = w.get f) ∧ SuccChosen s u c rest a fs w'.finish := by
  have word : w.seq u = { (s.tile u).seq with cur := some { c with todo := .safe :: rest, waitFrom := none }, starved := false } := by
    rw [← popStep_seq s u u.isLt c .seq (.safe :: rest) hst, Work.seq, Work.seq, Work.tile, Work.tile, hdev]
  have cur : ((chosen w u a).seq u).cur = some { c with todo := .safe :: rest, waitFrom := none, succ := a % 4096 } := by
    rw [chosen, seq_updSeq _ _ _ u.isLt, word]
    rfl
  have lock : (chosen w u a).get DEV_STATUS_LOCKSTEP = 0 := hl
  have step : seqStep (Work.start s) u (mwSeq c.word) = chosen w u a := by
    rw [seqStep, doStep_acts s u c .seq (.safe :: rest) hst _ _ (by simpa using hat)]
    simp only [hsucc]
    rw [← chosen, settle_eq_noteWait lock u _ cur (by simp), noteWait_safe _ _ _ rest lock cur rfl]
  exact ⟨_, step, fun _ => rfl, cur, by rw [Work.finish_dev, chosen, Work.updSeq_dev, hdev]; rfl, frame_finish hs hk hq⟩

/-- A successor without a stack operation. -/
theorem seqStep_plain (a : Nat) (hsucc : successor (popStep (Work.start s) u) u c = some (a, popStep (Work.start s) u)) :
    ∃ w' : Work s, seqStep (Work.start s) u (mwSeq c.word) = w' ∧ SuccChosen s u c rest a [] w'.finish := by
  obtain ⟨w', hw, -, h⟩ := seqStep_chooses s hs u c rest hst hat a [] _ hsucc rfl (fun f _ => get_popStep s u f)
    ((quiet_updSeq _ _ _).2 (quiet_start s)) ((get_popStep s u _).trans hst.1)
  exact ⟨w', hw, h⟩

/-- A successor with a push (R196). -/
theorem seqStep_push (a v : Nat) (hsp : s.get (SEQ_SP u) < 16)
    (hsucc : successor (popStep (Work.start s) u) u c = some (a, pushed (popStep (Work.start s) u) u v)) :
    ∃ w' : Work s, seqStep (Work.start s) u (mwSeq c.word) = w' ∧ w'.get (SEQ_SP u) = s.get (SEQ_SP u) + 1 ∧
      w'.get (SEQ_STACK u (s.get (SEQ_SP u))) = v % 2 ^ (SEQ_STACK u (s.get (SEQ_SP u))).width ∧
      SuccChosen s u c rest a [SEQ_SP u, SEQ_STACK u (s.get (SEQ_SP u))] w'.finish := by
  have keeps : Keeps (pushed (popStep (Work.start s) u) u v) [SEQ_SP u, SEQ_STACK u (s.get (SEQ_SP u))] := by
    simp [pushed, popStep]
  have apart : (SEQ_STACK u (s.get (SEQ_SP u))).key ≠ (SEQ_SP u).key := by
    simp only [Fld.key, SEQ_STACK, SEQ_SP]
    omega
  obtain ⟨w', hw, hget, h⟩ := seqStep_chooses s hs u c rest hst hat a _ _ hsucc rfl keeps
    (by simp [pushed, popStep]) ((keeps _ (by simp [Fld.key, DEV_STATUS_LOCKSTEP, SEQ_SP, SEQ_STACK, tileBase]; omega)).trans hst.1)
  refine ⟨w', hw, ?_, ?_, h⟩
  · rw [hget, pushed, Work.get_set_self, get_popStep]
    exact Nat.mod_eq_of_lt (lt_of_le_of_lt (Nat.succ_le_of_lt hsp) (by simp [SEQ_SP]))
  · rw [hget, pushed, get_popStep, Work.get_set_ne _ _ _ _ apart, Work.get_set_self]

/-- A successor with a pop, which ends the routine of a vector whose address it takes (R196, R221). -/
theorem seqStep_pop (a : Nat) (hsp : 0 < s.get (SEQ_SP u)) (hle : s.get (SEQ_SP u) ≤ 16)
    (hsucc : successor (popStep (Work.start s) u) u c = some (a, stackDrop (popStep (Work.start s) u) u)) :
    ∃ w' : Work s, seqStep (Work.start s) u (mwSeq c.word) = w' ∧ w'.get (SEQ_SP u) = s.get (SEQ_SP u) - 1 ∧
      SuccChosen s u c rest a [SEQ_SP u, SEQ_STATE_ACTIVE u, EVPORT_GEN_CUR_VALID u] w'.finish := by
  have lockApart : ∀ g ∈ [SEQ_SP u, SEQ_STATE_ACTIVE u, EVPORT_GEN_CUR_VALID u], DEV_STATUS_LOCKSTEP.key ≠ g.key := by
    simp [Fld.key, DEV_STATUS_LOCKSTEP, SEQ_SP, SEQ_STATE_ACTIVE, EVPORT_GEN_CUR_VALID, tileBase]
    omega
  have lock : ((popStep (Work.start s) u).set (SEQ_SP u) (s.get (SEQ_SP u) - 1)).get DEV_STATUS_LOCKSTEP = 0 := by
    rw [Work.get_set_ne _ _ _ _ (lockApart _ (by simp)), get_popStep, hst.1]
  have drop : ∃ w : Work s, stackDrop (popStep (Work.start s) u) u = w ∧ w.dev = (popStep (Work.start s) u).dev ∧
      Keeps w [SEQ_SP u, SEQ_STATE_ACTIVE u, EVPORT_GEN_CUR_VALID u] ∧ Quiet w ∧ w.get (SEQ_SP u) = s.get (SEQ_SP u) - 1 := by
    have width : s.get (SEQ_SP u) - 1 < 2 ^ (SEQ_SP u).width := lt_of_lt_of_le (show _ < 32 by omega) (by simp [SEQ_SP])
    have apart : (SEQ_SP u).key ≠ (EVPORT_GEN_CUR_VALID u).key ∧ (SEQ_SP u).key ≠ (SEQ_STATE_ACTIVE u).key := by
      simp only [Fld.key, SEQ_SP, SEQ_STATE_ACTIVE, EVPORT_GEN_CUR_VALID]
      omega
    refine ⟨_, rfl, ?_⟩
    simp only [stackDrop, endRoutine, get_popStep, members_eq lock, Work.each, List.foldl_cons, List.foldl_nil]
    split
    · refine ⟨rfl, by simp [popStep], by simp [popStep], ?_⟩
      rw [Work.get_set_ne _ _ _ _ apart.1, Work.get_set_ne _ _ _ _ apart.2, Work.get_set_self, Nat.mod_eq_of_lt width]
    · exact ⟨rfl, by simp [popStep], by simp [popStep], by rw [Work.get_set_self, Nat.mod_eq_of_lt width]⟩
  obtain ⟨w, hw, hdev, hk, hq, hget⟩ := drop
  obtain ⟨w', hw', hg, h⟩ := seqStep_chooses s hs u c rest hst hat a _ w (hw ▸ hsucc) hdev hk hq
    ((hk _ lockApart).trans hst.1)
  exact ⟨w', hw', (hg _).trans hget, h⟩

end

theorem sequencingSteps : Clause.SequencingSteps := by
  intro s hs u c x rest hst hx hat
  subst hx
  have cond := condNow_popStep s u c u.isLt
  have plain : ∀ (i : Instr) (seq a : Nat), exec i s = run (fun w => seqStep w u seq) s → mwSeq c.word = seq →
      successor (popStep (Work.start s) u) u c = some (a, popStep (Work.start s) u) →
      Answers i s (fun t => SuccChosen s u c rest a [] t) := by
    intro i seq a hexec hseq hsucc
    subst hseq
    obtain ⟨w', hw, h⟩ := seqStep_plain s hs u c rest hst hat a hsucc
    exact ⟨_, by rw [hexec, run_eq, hw], h⟩
  have push : ∀ (i : Instr) (seq a v : Nat), exec i s = run (fun w => seqStep w u seq) s → mwSeq c.word = seq →
      s.get (SEQ_SP u) < 16 → successor (popStep (Work.start s) u) u c = some (a, pushed (popStep (Work.start s) u) u v) →
      Answers i s (fun t => (t.tile u).seq.cur = some { c with todo := .safe :: rest, waitFrom := none, succ := a % 4096 } ∧
        t.get (SEQ_SP u) = s.get (SEQ_SP u) + 1 ∧
        t.get (SEQ_STACK u (s.get (SEQ_SP u))) = v % 2 ^ (SEQ_STACK u (s.get (SEQ_SP u))).width ∧ t.dev.held = s.dev.held ∧
        Frame s t [SEQ_SP u, SEQ_STACK u (s.get (SEQ_SP u))]) := by
    intro i seq a v hexec hseq hsp hsucc
    subst hseq
    obtain ⟨w', hw, h1, h2, hcur, hheld, hframe⟩ := seqStep_push s hs u c rest hst hat a v hsp hsucc
    exact ⟨_, by rw [hexec, run_eq, hw], hcur, by rw [Work.finish_get _ _ hs, h1], by rw [Work.finish_get _ _ hs, h2], hheld, hframe⟩
  have pop : ∀ (i : Instr) (seq a : Nat), exec i s = run (fun w => seqStep w u seq) s → mwSeq c.word = seq →
      0 < s.get (SEQ_SP u) → s.get (SEQ_SP u) ≤ 16 →
      successor (popStep (Work.start s) u) u c = some (a, stackDrop (popStep (Work.start s) u) u) →
      Answers i s (fun t => (t.tile u).seq.cur = some { c with todo := .safe :: rest, waitFrom := none, succ := a % 4096 } ∧
        t.get (SEQ_SP u) = s.get (SEQ_SP u) - 1 ∧ t.dev.held = s.dev.held ∧
        Frame s t [SEQ_SP u, SEQ_STATE_ACTIVE u, EVPORT_GEN_CUR_VALID u]) := by
    intro i seq a hexec hseq hsp hle hsucc
    subst hseq
    obtain ⟨w', hw, h1, hcur, hheld, hframe⟩ := seqStep_pop s hs u c rest hst hat a hsp hle hsucc
    exact ⟨_, by rw [hexec, run_eq, hw], hcur, by rw [Work.finish_get _ _ hs, h1], hheld, hframe⟩
  have top := fun h => stackTop_popStep s u h
  have popTop := fun h => stackPop_popStep s u h
  have pushOk := fun a h => stackPush_popStep s u a h
  have mode : (popStep (Work.start s) u).on (SEQ_MODE u) = s.view.on (SEQ_MODE u) := rfl
  have after : fallThrough (popStep (Work.start s) u) u c = fallThrough s.view u c := rfl
  refine ⟨fun h => plain _ 0 _ rfl h ?_, fun h => plain _ 1 _ rfl h ?_, fun hb h => plain _ 2 _ rfl h ?_,
    fun hb h hp hle => pop _ 2 _ rfl h hp hle ?_, fun hc h => plain _ 3 _ rfl h ?_, fun hc h hp hle => pop _ 3 _ rfl h hp hle ?_,
    fun hc hp h => plain _ 4 _ rfl h ?_, fun hc h hp hle => pop _ 4 _ rfl h hp hle ?_, fun h hp => push _ 5 _ _ rfl h hp ?_,
    fun h hp hle => pop _ 6 _ rfl h hp hle ?_, fun h hp => push _ 7 _ _ rfl h hp ?_, fun h => plain _ 8 _ rfl h ?_, fun h => plain _ 9 _ ?_ h ?_⟩
  · simp [successor, h, after]
  · simp [successor, h]
  · simp [successor, h, mode, hb, cond]
  · simp [successor, h, mode, hb, cond, popTop hp]
  · simp [successor, h, after, cond, hc]
  · simp [successor, h, cond, hc, popTop hp]
  · simp [successor, h, cond, hc, top hp]
  · simp [successor, h, after, cond, hc, popTop hp]
  · simp [successor, h, mode, pushOk _ hp]
  · simp [successor, h, popTop hp]
  · simp [successor, h, after, pushOk _ hp]
  · simp [successor, h, after]
  · have cur : ((Work.start s).seq u).cur = some c := hst.2.1
    rw [exec, execSeqAbort, run_eq, run_eq]
    simp only [cur, hst.2.2.1, List.head?_cons, Option.some.injEq, reduceCtorEq, if_false]
  · simp [successor, h, after]

/-! ## Faults of the stack -/

/-- A word without a successor is cut at its own address. -/
theorem seqStep_faults (s : State) (u : Fin 32) (c : WordSt) (rest : List WStep) (hst : Stepping s u c .seq rest)
    (hat : atSeq s.view u c = true) (hsucc : successor (popStep (Work.start s) u) u c = none) :
    seqStep (Work.start s) u (mwSeq c.word) = cutOne (causeIn u CAUSE_STACK) c.addr c.addr (popStep (Work.start s) u) u := by
  have lock : (popStep (Work.start s) u).get DEV_STATUS_LOCKSTEP = 0 := (get_popStep s u _).trans hst.1
  rw [seqStep, doStep_acts s u c .seq rest hst _ _ (by simpa using hat)]
  simp only [hsucc]
  obtain ⟨w', hw, -, -, -, hcur, -, -, -, -, hlock⟩ := cutOne_spec (popStep (Work.start s) u) u u.isLt (causeIn u CAUSE_STACK) c.addr c.addr
  rw [cutSet_eq _ _ _ _ _ lock, hw, settle_idle (hlock.trans lock) u hcur]

theorem stackFaults : Clause.StackFaults := by
  intro s hs u c rest hst hat hbusy i hi
  have exec_eq : ∃ n, exec i s = run (fun w => seqStep w u n) s ∧ n = mwSeq c.word ∧ successor (popStep (Work.start s) u) u c = none := by
    have cond := condNow_popStep s u c u.isLt
    have mode : (popStep (Work.start s) u).on (SEQ_MODE u) = s.view.on (SEQ_MODE u) := rfl
    have top : s.get (SEQ_SP u) = 0 → stackTop (popStep (Work.start s) u) u = none := fun h => by simp [stackTop, get_popStep, h]
    have push : ∀ a, 16 ≤ s.get (SEQ_SP u) → stackPush (popStep (Work.start s) u) u a = none := fun a h => by
      simp only [stackPush, get_popStep]
      rw [if_neg (by omega)]
    rcases hi with ⟨rfl, hseq, hsp⟩ | ⟨rfl, hseq, hsp⟩ | ⟨rfl, hseq, hsp⟩ | ⟨rfl, hseq, hmode, hsp⟩ | ⟨rfl, hseq, hcond, hsp⟩ | ⟨rfl, hseq, hsp⟩
    · exact ⟨6, rfl, hseq.symm, by simp [successor, hseq, stackPop, top hsp]⟩
    · exact ⟨5, rfl, hseq.symm, by simp [successor, hseq, push _ hsp]⟩
    · exact ⟨7, rfl, hseq.symm, by simp [successor, hseq, push _ hsp]⟩
    · have off : (popStep (Work.start s) u).on (SEQ_MODE u) = false := by rw [Work.on, get_popStep, hmode]; rfl
      exact ⟨2, rfl, hseq.symm, by simp [successor, hseq, stackPop, top hsp, off]⟩
    · exact ⟨3, rfl, hseq.symm, by simp [successor, hseq, stackPop, top hsp, cond, hcond]⟩
    · refine ⟨4, rfl, hseq.symm, ?_⟩
      by_cases hc : condNow s.view u c = true <;> simp [successor, hseq, stackPop, top hsp, cond, hc]
  obtain ⟨n, hexec, rfl, hsucc⟩ := exec_eq
  obtain ⟨w', hw, hcause, -, hrestart, hcur, hidle, -⟩ :=
    cutOne_spec (popStep (Work.start s) u) u u.isLt (causeIn u CAUSE_STACK) c.addr c.addr
  obtain ⟨hstate, -, hfired, -⟩ := hidle ((get_popStep s u _).trans hbusy)
  refine ⟨_, by rw [hexec, run_eq, seqStep_faults s u c rest hst hat hsucc, hw], ?_, ?_, ?_, (show (w'.finish.tile u).seq.cur = none from hcur), hfired⟩
  · rw [Work.finish_get _ _ hs, hstate]
  · rw [Work.finish_get _ _ hs, hcause, causeIn, if_pos rfl]
    rfl
  · rw [Work.finish_get _ _ hs, hrestart]

/-- Settles O19: step 10 chooses the successor and moves the stack as SEQ says, and a fault of the stack cuts the tile. -/
theorem successors : Obligations.Successors := ⟨sequencingSteps, stackFaults⟩

end Sys2Proof.SuccessorProofs
end

section
/-! PROOFS. Control operations and address generators of the datapath (R137 to R147, R152). -/

namespace Sys2Proof.DatapathProofs

open Sys2Proof.Machine Sys2Proof.Effects Sys2Proof.SeqFacts

variable {σ : State}

/-! ## Address generators (R145 to R147) -/

/-- A slot whose operation writes one register. -/
theorem aguStep_writes (s : State) (hs : s.wf = true) (u : Fin 32) (b : Fin 2) (c : WordSt) (rest : List WStep) (hrest : rest ≠ [])
    (hst : Stepping s u c (if b.val = 0 then .agu0 else .agu1) rest) (op : Nat) (hop : aguEff (mwAgu c.word b) = op)
    (k : Work s → Nat → Nat → Work s) (f : Fld) (v : Nat) (hlo : f.lo < 32) (haddr : 0x2000 ≤ f.addr ∧ f.addr ≠ tileBase u + 0x6A04)
    (hk : k (popStep (Work.start s) u) (aguGen (mwAgu c.word b)) (mwImm c.word) = (popStep (Work.start s) u).set f v) :
    ∃ w' : Work s, aguStep (Work.start s) u b op k = w' ∧ w'.finish.get f = v % 2 ^ f.width ∧ Stepped w'.finish u c rest ∧
      w'.finish.dev.held = s.dev.held ∧ Frame s w'.finish (f :: waitFlds u) := by
  obtain ⟨w', hw', -, hstep, hheld, hframe, hget⟩ := step_next s hs u u.isLt c _ rest hst hrest
    (fun c s => decide (s = if b.val = 0 then .agu0 else .agu1) && decide (aguEff (mwAgu c.word b) = op))
    (fun w c => k w (aguGen (mwAgu c.word b)) (mwImm c.word)) (by simp [hop]) [f] (by simpa using haddr.1) _ hk
    ((keeps_set _ _ _ _ List.mem_cons_self).2 (popStep_keeps s u _)) ((quiet_set _ _ _).2 (popStep_quiet s u))
    (popStep_cur s u u.isLt c _ rest hst)
  exact ⟨w', hw', by rw [hget f hlo haddr.2, Work.get_set_self], hstep, hheld.trans (popStep_held s u), hframe⟩

theorem addressGenerators : Clause.AddressGenerators := by
  intro s hs u b c rest hrest hst g i op f v hi hop
  have gen : g < 4 := Nat.mod_lt _ (by decide)
  have place : ∀ f : Fld, f.lo = 0 → tileBase u ≤ f.addr → f.addr < tileBase u + 0x6000 → f.lo < 32 ∧ 0x2000 ≤ f.addr ∧ f.addr ≠ tileBase u + 0x6A04 := by
    intro f hlo h1 h2
    have base : 0x2000 ≤ tileBase u := by simp only [tileBase]; omega
    omega
  have pointer := place (DSP_AGU_P u g) rfl (by simp only [DSP_AGU_P]; omega) (by simp only [DSP_AGU_P]; omega)
  have step := place (DSP_AGU_M u g) rfl (by simp only [DSP_AGU_M]; omega) (by simp only [DSP_AGU_M]; omega)
  have first := place (DSP_AGU_B u g) rfl (by simp only [DSP_AGU_B]; omega) (by simp only [DSP_AGU_B]; omega)
  have length := place (DSP_AGU_L u g) rfl (by simp only [DSP_AGU_L]; omega) (by simp only [DSP_AGU_L]; omega)
  have writes := fun op hop k f v hlo haddr => aguStep_writes s hs u b c rest hrest hst op hop k f v hlo haddr
  simp only [List.mem_cons, List.not_mem_nil, or_false, Prod.mk.injEq] at hi
  rcases hi with ⟨rfl, rfl, rfl, rfl⟩ | ⟨rfl, rfl, rfl, rfl⟩ | ⟨rfl, rfl, rfl, rfl⟩ | ⟨rfl, rfl, rfl, rfl⟩ | ⟨rfl, rfl, rfl, rfl⟩ |
    ⟨rfl, rfl, rfl, rfl⟩ | ⟨rfl, rfl, rfl, rfl⟩
  · obtain ⟨w', hw', h⟩ := writes 1 hop (fun w g _ => w.set (DSP_AGU_P u g) (aguNext w u g (sext 18 (w.get (DSP_AGU_M u g))))) _ _ pointer.1 pointer.2 rfl
    exact ⟨_, by rw [exec, execAguMod, run_eq, hw'], h⟩
  · obtain ⟨w', hw', h⟩ := writes 2 hop (fun w g _ => w.set (DSP_AGU_P u g) (aguNext w u g 16)) _ _ pointer.1 pointer.2 rfl
    exact ⟨_, by rw [exec, execAguStep, run_eq, hw'], h⟩
  · obtain ⟨w', hw', h⟩ := writes 3 hop (fun w g _ => w.set (DSP_AGU_P u g) (w.get (DSP_AGU_B u g))) _ _ pointer.1 pointer.2 rfl
    exact ⟨_, by rw [exec, execAguReset, run_eq, hw'], h⟩
  · obtain ⟨w', hw', h⟩ := writes 4 hop (fun w g imm => w.set (DSP_AGU_P u g) (bits imm 0 17)) _ _ pointer.1 pointer.2 rfl
    exact ⟨_, by rw [exec, execAguLdp, run_eq, hw'], h⟩
  · obtain ⟨w', hw', h⟩ := writes 5 hop (fun w g imm => w.set (DSP_AGU_M u g) (bits imm 0 18)) _ _ step.1 step.2 rfl
    exact ⟨_, by rw [exec, execAguLdm, run_eq, hw'], h⟩
  · obtain ⟨w', hw', h⟩ := writes 6 hop (fun w g imm => w.set (DSP_AGU_B u g) (bits imm 0 17)) _ _ first.1 first.2 rfl
    exact ⟨_, by rw [exec, execAguLdb, run_eq, hw'], h⟩
  · obtain ⟨w', hw', h⟩ := writes 7 hop (fun w g imm => w.set (DSP_AGU_L u g) (min 131072 (bits imm 0 18))) _ _ length.1 length.2 rfl
    exact ⟨_, by rw [exec, execAguLdl, run_eq, hw'], h⟩

/-! ## START (R137) -/

/-- An accumulator cleared. -/
def accClear (u : Nat) (w : Work σ) (n : Nat) : Work σ :=
  ((w.set (DSP_ACC u n) 0).set (DSP_ACC_HI_HOLD u n) 0).set (DSP_ACC_HI_TAINT u n) 0

/-- The fields of accumulator n. -/
def accFlds (u n : Nat) : List Fld := [DSP_ACC u n, DSP_ACC_HI_HOLD u n, DSP_ACC_HI_TAINT u n]

theorem accFlds_key (u n m : Nat) (f g : Fld) (hf : f ∈ accFlds u n) (hg : g ∈ accFlds u m) (h : f.key = g.key) : f = g := by
  simp only [accFlds, List.mem_cons, List.not_mem_nil, or_false] at hf hg
  rcases hf with rfl | rfl | rfl <;> rcases hg with rfl | rfl | rfl <;>
    simp only [Fld.key, DSP_ACC, DSP_ACC_HI_HOLD, DSP_ACC_HI_TAINT, hid, tileBase, Fld.mk.injEq, and_true] at h ⊢
  all_goals omega

theorem set_zero_get (w : Work σ) (f g : Fld) (h : f.key = g.key → f = g) (hz : f = g ∨ w.get f = 0) : (w.set g 0).get f = 0 := by
  by_cases hk : f.key = g.key
  · rw [h hk, Work.get_set_self, Nat.zero_mod]
  · rw [Work.get_set_ne _ _ _ _ hk]
    exact hz.resolve_left (fun hfg => hk (congrArg Fld.key hfg))

/-- A cleared accumulator stays so while another is cleared. -/
theorem accClear_get (u : Nat) (w : Work σ) (m n : Nat) (h : n = m ∨ ∀ f ∈ accFlds u n, w.get f = 0) :
    ∀ f ∈ accFlds u n, (accClear u w m).get f = 0 := by
  intro f hf
  have same := fun g hg => accFlds_key u n m f g hf hg
  have mem : DSP_ACC u m ∈ accFlds u m ∧ DSP_ACC_HI_HOLD u m ∈ accFlds u m ∧ DSP_ACC_HI_TAINT u m ∈ accFlds u m := by simp [accFlds]
  obtain ⟨h1, h2, h3⟩ := mem
  rcases h with rfl | h
  · simp only [accFlds, List.mem_cons, List.not_mem_nil, or_false] at hf
    rw [accClear]
    refine set_zero_get _ _ _ (same _ h3) ?_
    rcases hf with rfl | rfl | rfl
    · exact .inr (set_zero_get _ _ _ (same _ h2) (.inr (set_zero_get _ _ _ (same _ h1) (.inl rfl))))
    · exact .inr (set_zero_get _ _ _ (same _ h2) (.inl rfl))
    · exact .inl rfl
  · exact set_zero_get _ _ _ (same _ h3) (.inr (set_zero_get _ _ _ (same _ h2) (.inr (set_zero_get _ _ _ (same _ h1) (.inr (h f hf))))))

theorem each_accClear (u : Nat) (l : List Nat) (w : Work σ) (fs : List Fld) (hfs : ∀ n ∈ l, accFlds u n ⊆ fs) :
    (w.each l (accClear u)).dev = w.dev ∧ (Keeps (w.each l (accClear u)) fs ↔ Keeps w fs) ∧ (Quiet (w.each l (accClear u)) ↔ Quiet w) ∧
      ∀ n, (n ∈ l ∨ ∀ f ∈ accFlds u n, w.get f = 0) → ∀ f ∈ accFlds u n, (w.each l (accClear u)).get f = 0 := by
  induction l generalizing w with
  | nil => exact ⟨rfl, Iff.rfl, Iff.rfl, fun n h => h.resolve_left List.not_mem_nil⟩
  | cons m l ih =>
    obtain ⟨hd, hk, hq, hz⟩ := ih (accClear u w m) (fun n hn => hfs n (List.mem_cons_of_mem _ hn))
    have mem : ∀ f ∈ accFlds u m, f ∈ fs := hfs m List.mem_cons_self
    simp only [accFlds, List.mem_cons, List.not_mem_nil, or_false, forall_eq_or_imp, forall_eq] at mem
    obtain ⟨h1, h2, h3⟩ := mem
    refine ⟨hd, hk.trans (by simp [accClear, h1, h2, h3]), hq, fun n h => hz n ?_⟩
    rcases h with h | h
    · rcases List.mem_cons.1 h with rfl | h
      · exact .inr (accClear_get u w n n (.inl rfl))
      · exact .inl h
    · exact .inr (accClear_get u w m n (.inr h))

theorem startClears (s : State) (hs : s.wf = true) (u : Fin 32) (c : WordSt) (rest : List WStep) (hrest : rest ≠ [])
    (hst : Stepping s u c .dspStart rest) (h18 : dspEff c.word ≠ 0x18) (h19 : dspEff c.word ≠ 0x19) : Answers (.dspStart u) s (fun t =>
      (∀ n ∈ accsWritten (dspEff c.word) (dspAcc c.word), t.get (DSP_ACC u n) = 0 ∧ t.get (DSP_ACC_HI_HOLD u n) = 0 ∧
        t.get (DSP_ACC_HI_TAINT u n) = 0) ∧ Stepped t u c rest ∧
      Frame s t ((accsWritten (dspEff c.word) (dspAcc c.word)).flatMap (fun n =>
        [DSP_ACC u n, DSP_ACC_HI_HOLD u n, DSP_ACC_HI_TAINT u n]) ++ waitFlds u)) := by
  generalize hl : accsWritten (dspEff c.word) (dspAcc c.word) = l
  obtain ⟨hd, hk, hq, hz⟩ := each_accClear u l (popStep (Work.start s) u) (l.flatMap (accFlds u))
    (fun n hn f hf => List.mem_flatMap.2 ⟨n, hn, hf⟩)
  have low : ∀ n ∈ l, n < 4 := by
    have acc : dspAcc c.word < 4 := Nat.mod_lt _ (by decide)
    rw [← hl]
    intro n hn
    simp only [accsWritten] at hn
    split at hn
    · simp only [List.mem_singleton] at hn; omega
    · split at hn
      · simp only [List.mem_cons, List.not_mem_nil, or_false] at hn; omega
      · split at hn
        · simp only [List.mem_cons, List.not_mem_nil, or_false] at hn; omega
        · cases hn
  have window : ∀ n ∈ l, ∀ f ∈ accFlds u n, f.lo < 32 ∧ 0x2000 ≤ f.addr ∧ f.addr ≠ tileBase u + 0x6A04 := by
    intro n hn f hf
    have := low n hn
    simp only [accFlds, List.mem_cons, List.not_mem_nil, or_false] at hf
    rcases hf with rfl | rfl | rfl <;> simp only [DSP_ACC, DSP_ACC_HI_HOLD, DSP_ACC_HI_TAINT, hid, tileBase] <;> omega
  obtain ⟨w', hw', -, hstep, -, hframe, hget⟩ := step_next s hs u u.isLt c _ rest hst hrest (fun _ s => decide (s = .dspStart))
    (fun w c =>
      let op := dspEff c.word
      let n := dspAcc c.word
      if op = 0x18 ∨ op = 0x19 then (w.set (SEARCH_BASE u n) 0).updSeq u (fun s => { s with newSearch := true })
      else w.each (accsWritten op n) (fun w n =>
        ((w.set (DSP_ACC u n) 0).set (DSP_ACC_HI_HOLD u n) 0).set (DSP_ACC_HI_TAINT u n) 0))
    (by simp) (l.flatMap (accFlds u))
    (fun f hf => by
      obtain ⟨n, hn, hf⟩ := List.mem_flatMap.1 hf
      exact (window n hn f hf).2.1)
    _ ((if_neg (by simp [h18, h19])).trans (by rw [hl]; rfl)) (hk.2 (popStep_keeps s u _)) (hq.2 (popStep_quiet s u))
    (by rw [Work.seq, Work.tile, hd]; exact popStep_cur s u u.isLt c _ rest hst)
  refine ⟨_, by rw [exec, execDspStart, run_eq, dspStartStep, hw'], fun n hn => ?_, hstep, hframe⟩
  have zero : ∀ f ∈ accFlds u n, w'.finish.get f = 0 := fun f hf => by
    obtain ⟨hlo, -, haddr⟩ := window n hn f hf
    rw [hget f hlo haddr]
    exact hz n (.inl hn) f hf
  exact ⟨zero _ (by simp [accFlds]), zero _ (by simp [accFlds]), zero _ (by simp [accFlds])⟩

theorem startSearches (s : State) (hs : s.wf = true) (u : Fin 32) (c : WordSt) (rest : List WStep) (hrest : rest ≠ [])
    (hst : Stepping s u c .dspStart rest) (h : dspEff c.word = 0x18 ∨ dspEff c.word = 0x19) : Answers (.dspStart u) s (fun t =>
      t.get (SEARCH_BASE u (dspAcc c.word)) = 0 ∧ (t.tile u).seq.newSearch = true ∧ Stepped t u c rest ∧
      Frame s t (SEARCH_BASE u (dspAcc c.word) :: waitFlds u)) := by
  have acc : dspAcc c.word < 4 := Nat.mod_lt _ (by decide)
  have place : (SEARCH_BASE u (dspAcc c.word)).lo < 32 ∧ 0x2000 ≤ (SEARCH_BASE u (dspAcc c.word)).addr ∧
      (SEARCH_BASE u (dspAcc c.word)).addr ≠ tileBase u + 0x6A04 := by
    simp only [SEARCH_BASE, hid, tileBase]
    omega
  obtain ⟨hlo, hfar, haddr⟩ := place
  have seq := popStep_seq s u u.isLt c _ rest hst
  obtain ⟨w', hw', hwaited, hstep, -, hframe, hget⟩ := step_next s hs u u.isLt c _ rest hst hrest (fun _ s => decide (s = .dspStart))
    (fun w c =>
      let op := dspEff c.word
      let n := dspAcc c.word
      if op = 0x18 ∨ op = 0x19 then (w.set (SEARCH_BASE u n) 0).updSeq u (fun s => { s with newSearch := true })
      else w.each (accsWritten op n) (fun w n =>
        ((w.set (DSP_ACC u n) 0).set (DSP_ACC_HI_HOLD u n) 0).set (DSP_ACC_HI_TAINT u n) 0))
    (by simp) [SEARCH_BASE u (dspAcc c.word)] (by simpa using hfar) _ (if_pos h)
    ((keeps_updSeq _ _ _ _).2 ((keeps_set _ _ _ _ List.mem_cons_self).2 (popStep_keeps s u _)))
    ((quiet_updSeq _ _ _).2 ((quiet_set _ _ _).2 (popStep_quiet s u)))
    (by rw [seq_updSeq _ _ _ u.isLt]; exact congrArg SeqSt.cur seq)
  refine ⟨_, by rw [exec, execDspStart, run_eq, dspStartStep, hw'], ?_, ?_, hstep, hframe⟩
  · rw [hget _ hlo haddr, Work.get_updSeq, Work.get_set_self, Nat.zero_mod]
  · refine (hwaited.tile (fun x => x.seq.newSearch) (fun _ => rfl)).trans ?_
    exact congrArg SeqSt.newSearch (seq_updSeq _ _ _ u.isLt)

/-! ## TEST, POP and NOP (R137, R138, R140) -/

theorem setFlags_get (w : Work σ) (u : Nat) (val : Option Int) (idx : Option Nat) :
    (∀ v, val = some v → (setFlags w u val idx).get (DSP_FLAGS_Z u) = b2n (decide (v = 0)) ∧
      (setFlags w u val idx).get (DSP_FLAGS_N u) = b2n (decide (v < 0))) ∧
    (val = none → (setFlags w u val idx).get (DSP_FLAGS_Z u) = w.get (DSP_FLAGS_Z u) ∧
      (setFlags w u val idx).get (DSP_FLAGS_N u) = w.get (DSP_FLAGS_N u)) ∧
    (∀ i, idx = some i → (setFlags w u val idx).get (DSP_FLAGS_IDX u) = i % 2 ^ (DSP_FLAGS_IDX u).width) := by
  have apart : (DSP_FLAGS_Z u).key ≠ (DSP_FLAGS_N u).key ∧ (DSP_FLAGS_Z u).key ≠ (DSP_FLAGS_IDX u).key ∧
      (DSP_FLAGS_N u).key ≠ (DSP_FLAGS_IDX u).key := by
    simp only [Fld.key, DSP_FLAGS_Z, DSP_FLAGS_N, DSP_FLAGS_IDX]
    omega
  obtain ⟨hzn, hzi, hni⟩ := apart
  have small : ∀ b : Bool, b2n b % 2 = b2n b := by decide
  have outer : ∀ f, f.key ≠ (DSP_FLAGS_IDX u).key → (setFlags w u val idx).get f = (setFlags w u val none).get f := fun f hf => by
    cases idx with
    | none => rfl
    | some i => exact Work.get_set_ne _ _ _ _ hf
  have valued : ∀ v, setFlags w u (some v) none = (w.setB (DSP_FLAGS_Z u) (decide (v = 0))).setB (DSP_FLAGS_N u) (decide (v < 0)) :=
    fun _ => rfl
  refine ⟨fun v hv => ?_, fun hv => ?_, fun i hi => ?_⟩
  · subst hv
    constructor
    · rw [outer _ hzi, valued, Work.setB, Work.get_set_ne _ _ _ _ hzn, Work.setB, Work.get_set_self]
      exact small _
    · rw [outer _ hni, valued, Work.setB, Work.get_set_self]
      exact small _
  · subst hv
    exact ⟨outer _ hzi, outer _ hni⟩
  · subst hi
    exact Work.get_set_self _ _ _

theorem setFlags_rest (w : Work σ) (u : Nat) (val : Option Int) (idx : Option Nat) (fs : List Fld)
    (hz : DSP_FLAGS_Z u ∈ fs) (hn : DSP_FLAGS_N u ∈ fs) (hi : DSP_FLAGS_IDX u ∈ fs) :
    (setFlags w u val idx).dev = w.dev ∧ (Keeps (setFlags w u val idx) fs ↔ Keeps w fs) ∧ (Quiet (setFlags w u val idx) ↔ Quiet w) := by
  cases val <;> cases idx <;> simp [setFlags, hz, hn, hi]

theorem testWrites (s : State) (hs : s.wf = true) (u : Fin 32) (c : WordSt) (rest : List WStep) (hrest : rest ≠ [])
    (hst : Stepping s u c .dspTest rest) : Answers (.dspTest u) s (fun t =>
      (∀ v, (s.tile u).seq.lastVal = some v → t.get (DSP_FLAGS_Z u) = b2n (decide (v = 0)) ∧
        t.get (DSP_FLAGS_N u) = b2n (decide (v < 0))) ∧
      ((s.tile u).seq.lastVal = none → t.get (DSP_FLAGS_Z u) = s.get (DSP_FLAGS_Z u) ∧ t.get (DSP_FLAGS_N u) = s.get (DSP_FLAGS_N u)) ∧
      (∀ i, (s.tile u).seq.lastIdx = some i → t.get (DSP_FLAGS_IDX u) = i % 2 ^ (DSP_FLAGS_IDX u).width) ∧
      Stepped t u c rest ∧ Frame s t ([DSP_FLAGS_Z u, DSP_FLAGS_N u, DSP_FLAGS_IDX u] ++ waitFlds u)) := by
  have seq := popStep_seq s u u.isLt c _ rest hst
  have place : ∀ f ∈ [DSP_FLAGS_Z u, DSP_FLAGS_N u, DSP_FLAGS_IDX u], 0x2000 ≤ f.addr ∧ f.lo < 32 ∧ f.addr ≠ tileBase u + 0x6A04 := by
    intro f hf
    simp only [List.mem_cons, List.not_mem_nil, or_false] at hf
    rcases hf with rfl | rfl | rfl <;> simp only [DSP_FLAGS_Z, DSP_FLAGS_N, DSP_FLAGS_IDX, tileBase] <;> omega
  have last : ((popStep (Work.start s) u).seq u).lastVal = (s.tile u).seq.lastVal ∧
      ((popStep (Work.start s) u).seq u).lastIdx = (s.tile u).seq.lastIdx := by rw [seq]; exact ⟨rfl, rfl⟩
  obtain ⟨hd, hk, hq⟩ := setFlags_rest (popStep (Work.start s) u) u ((popStep (Work.start s) u).seq u).lastVal
    ((popStep (Work.start s) u).seq u).lastIdx [DSP_FLAGS_Z u, DSP_FLAGS_N u, DSP_FLAGS_IDX u] (by simp) (by simp) (by simp)
  obtain ⟨w', hw', -, hstep, -, hframe, hget⟩ := step_next s hs u u.isLt c _ rest hst hrest (fun _ s => decide (s = .dspTest))
    (fun w _ => setFlags w u (w.seq u).lastVal (w.seq u).lastIdx) (by simp) [DSP_FLAGS_Z u, DSP_FLAGS_N u, DSP_FLAGS_IDX u]
    (fun g hg => (place g hg).1) _ rfl (hk.2 (popStep_keeps s u _)) (hq.2 (popStep_quiet s u))
    (by rw [Work.seq, Work.tile, hd]; exact popStep_cur s u u.isLt c _ rest hst)
  have get : ∀ f ∈ [DSP_FLAGS_Z u, DSP_FLAGS_N u, DSP_FLAGS_IDX u], w'.finish.get f =
      (setFlags (popStep (Work.start s) u) u (s.tile u).seq.lastVal (s.tile u).seq.lastIdx).get f := by
    intro f hf
    obtain ⟨-, hlo, haddr⟩ := place f hf
    rw [hget f hlo haddr, last.1, last.2]
  obtain ⟨hsome, hnone, hidx⟩ := setFlags_get (popStep (Work.start s) u) u (s.tile u).seq.lastVal (s.tile u).seq.lastIdx
  refine ⟨_, by rw [exec, execDspTest, run_eq, hw'], fun v hv => ?_, fun hv => ?_, fun i hi => ?_, hstep, hframe⟩
  · rw [get _ (by simp), get _ (by simp)]
    exact hsome v hv
  · rw [get _ (by simp), get _ (by simp), (hnone hv).1, (hnone hv).2, get_popStep, get_popStep]
    exact ⟨rfl, rfl⟩
  · rw [get _ (by simp)]
    exact hidx i hi

theorem popRemoves (s : State) (hs : s.wf = true) (u : Fin 32) (c : WordSt) (rest : List WStep) (hrest : rest ≠ [])
    (hst : Stepping s u c .dspPop rest) : Answers (.dspPop u) s (fun t =>
      (t.tile u).dspIn = (if c.timedOut then (s.tile u).dspIn else (s.tile u).dspIn.tail) ∧ Stepped t u c rest ∧
      Frame s t (waitFlds u)) := by
  have cur := popStep_cur s u u.isLt c _ rest hst
  have input := popStep_tile s u u.isLt Tile.dspIn (fun _ _ => rfl)
  have taken : ∃ w : Work s, (if c.timedOut then popStep (Work.start s) u else
      (popStep (Work.start s) u).updTile u (fun x => { x with dspIn := x.dspIn.tail })) = w ∧ Keeps w [] ∧ Quiet w ∧
      (w.seq u).cur = some { c with todo := rest, waitFrom := none } ∧
      (w.tile u).dspIn = (if c.timedOut then (s.tile u).dspIn else (s.tile u).dspIn.tail) := by
    refine ⟨_, rfl, ?_⟩
    split
    · exact ⟨popStep_keeps s u _, popStep_quiet s u, cur, input⟩
    · refine ⟨popStep_keeps s u _, popStep_quiet s u, ?_, ?_⟩
      · rw [Work.seq, tile_updTile_self _ _ _ u.isLt]
        exact cur
      · rw [tile_updTile_self _ _ _ u.isLt]
        exact congrArg List.tail input
  obtain ⟨w, hw, hk, hq, hcur, hin⟩ := taken
  obtain ⟨w', hw', hwaited, hstep, -, hframe, -⟩ := step_next s hs u u.isLt c _ rest hst hrest (fun _ s => decide (s = .dspPop))
    (fun w c => if c.timedOut then w else w.updTile u (fun x => { x with dspIn := x.dspIn.tail })) (by simp) [] (by simp) w hw hk hq hcur
  refine ⟨_, by rw [exec, execDspPop, run_eq, hw'], ?_, hstep, hframe⟩
  exact (hwaited.tile Tile.dspIn (fun _ => rfl)).trans hin

theorem nopDoes (s : State) (hs : s.wf = true) (u : Fin 32) (c : WordSt) (rest : List WStep) (hrest : rest ≠ [])
    (hst : Stepping s u c .dspOp rest) (heff : dspEff c.word = 0) : Answers (.dspNop u) s (fun t => Stepped t u c rest ∧
      (dspLegal c.word = false → t.get (DSP_STATUS_ILLEGAL u) = 1) ∧
      Frame s t ((if dspLegal c.word && !aguIllegal c.word then [] else [DSP_STATUS_ILLEGAL u]) ++ waitFlds u)) := by
  have cur := popStep_cur s u u.isLt c _ rest hst
  have place : (DSP_STATUS_ILLEGAL u).lo < 32 ∧ 0x2000 ≤ (DSP_STATUS_ILLEGAL u).addr ∧ (DSP_STATUS_ILLEGAL u).addr ≠ tileBase u + 0x6A04 := by
    simp only [DSP_STATUS_ILLEGAL, tileBase]
    omega
  obtain ⟨hlo, hfar, haddr⟩ := place
  have shown : ∃ w : Work s, (if dspLegal c.word && !aguIllegal c.word then popStep (Work.start s) u else
      (popStep (Work.start s) u).set (DSP_STATUS_ILLEGAL u) 1) = w ∧
      Keeps w (if dspLegal c.word && !aguIllegal c.word then [] else [DSP_STATUS_ILLEGAL u]) ∧ Quiet w ∧
      (w.seq u).cur = some { c with todo := rest, waitFrom := none } ∧ (dspLegal c.word = false → w.get (DSP_STATUS_ILLEGAL u) = 1) := by
    refine ⟨_, rfl, ?_⟩
    split
    next h => exact ⟨popStep_keeps s u _, popStep_quiet s u, cur, fun hl => by simp [hl] at h⟩
    next h =>
      exact ⟨(keeps_set _ _ _ _ List.mem_cons_self).2 (popStep_keeps s u _), popStep_quiet s u, cur, fun _ => Work.get_set_self _ _ _⟩
  obtain ⟨w, hw, hk, hq, hcur, hill⟩ := shown
  obtain ⟨w', hw', -, hstep, -, hframe, hget⟩ := step_next s hs u u.isLt c _ rest hst hrest
    (fun c s => decide (s = .dspOp) && decide (dspEff c.word = 0))
    (fun w c => if dspLegal c.word && !aguIllegal c.word then w else w.set (DSP_STATUS_ILLEGAL u) 1) (by simp [heff]) _
    (fun g hg => by
      split at hg
      · cases hg
      · rw [List.mem_singleton.1 hg]
        exact hfar) w hw hk hq hcur
  exact ⟨_, by rw [exec, execDspNop, run_eq, dspStep, hw'], hstep, fun hl => (hget _ hlo haddr).trans (hill hl), hframe⟩

theorem inTimeout_answers (s : State) (hs : s.wf = true) (u : Fin 32) (c : WordSt) (rest : List WStep) (f : Nat)
    (hcur : (s.tile u).seq.cur = some c) (htodo : c.todo = .dspOp :: rest) (hfrom : c.waitFrom = some f) (hin : inWaits s.view u c = true)
    (htmo : s.get (DSP_IN_CTRL_TIMEOUT u) ≠ 0) (hdue : f + s.get (DSP_IN_CTRL_TIMEOUT u) ≤ s.tl.count) :
    Answers (.inTimeout u) s (fun t => t.get (DSP_STATUS_IN_TIMEOUT u) = 1 ∧
      (t.tile u).seq.cur = some { c with timedOut := true } ∧ Frame s t [DSP_STATUS_IN_TIMEOUT u]) := by
  have cur : ((Work.start s).seq u).cur = some c := hcur
  have step : inTimeout (Work.start s) u = ((Work.start s).set (DSP_STATUS_IN_TIMEOUT u) 1).updSeq u
      (fun s => { s with cur := some { c with timedOut := true } }) := by
    simp only [inTimeout, cur, hfrom, Work.get_start]
    exact if_pos ⟨.inr (by rw [htodo]; rfl), hin, htmo, hdue⟩
  refine ⟨_, by rw [exec, execInTimeout, run_eq, step], ?_, ?_, frame_finish hs (by simp) (by simp)⟩
  · rw [Work.finish_get _ _ hs, Work.get_updSeq, Work.get_set_self]
    rfl
  · have seq := seq_updSeq ((Work.start s).set (DSP_STATUS_IN_TIMEOUT u) 1) u (fun s => { s with cur := some { c with timedOut := true } })
      u.isLt
    exact congrArg SeqSt.cur seq

theorem datapathControl : Clause.DatapathControl := fun s hs u c rest hrest =>
  ⟨fun hst => ⟨startClears s hs u c rest hrest hst, startSearches s hs u c rest hrest hst⟩, testWrites s hs u c rest hrest,
    popRemoves s hs u c rest hrest, nopDoes s hs u c rest hrest, inTimeout_answers s hs u c rest⟩

/-- Settles O27: the control operations and the address generators, each by its step. -/
theorem datapathAddressing : Obligations.DatapathAddressing := ⟨datapathControl, addressGenerators⟩

end Sys2Proof.DatapathProofs
end

section
/-! PROOFS. Accumulators, searches and histograms of the datapath (R131, R135 to R144). -/

namespace Sys2Proof.AccumulatorProofs

open Sys2Proof.Machine Sys2Proof.Effects Sys2Proof.SeqFacts

variable {σ : State}

/-! ## Operands and the operation's step -/

/-- A step off the word's list leaves every operand. -/
theorem srcVec_popStep (s : State) (u : Nat) (hu : u < 32) (c : WordSt) (sel : Nat) :
    srcVec (popStep (Work.start s) u) u c sel = srcVec s.view u c sel := by
  have input : ((popStep (Work.start s) u).tile u).dspIn = (s.view.tile u).dspIn := popStep_tile s u hu Tile.dspIn (fun _ _ => rfl)
  have read : inVec (popStep (Work.start s) u) u c = inVec s.view u c := by
    simp only [inVec, input]
    rfl
  simp only [srcVec, read]
  rfl

theorem dspEff_legal (x : Nat) (h : dspLegal x = true) : dspEff x = dspOp x := if_pos h

theorem dspStep_doStep (w : Work σ) (u op : Nat) (f : Work σ → Nat → WordSt → Work σ) : dspStep w u op f =
    doStep w u (fun c s => decide (s = .dspOp) && decide (dspEff c.word = op)) (fun w c =>
      f (if dspLegal c.word && !aguIllegal c.word then w else w.set (DSP_STATUS_ILLEGAL u) 1) u c) := rfl

/-- The datapath operation of a word with legal fields, at a work that f makes of the tile. -/
theorem dspStep_next (s : State) (hs : s.wf = true) (u : Nat) (hu : u < 32) (c : WordSt) (rest : List WStep) (op : Nat)
    (hat : AtOp s u c rest op) (f : Work s → Nat → WordSt → Work s) (fs : List Fld) (hfs : ∀ g ∈ fs, 0x2000 ≤ g.addr) (w : Work s)
    (hw : f (popStep (Work.start s) u) u c = w) (hk : Keeps w fs) (hq : Quiet w)
    (hcur : (w.seq u).cur = some { c with todo := rest, waitFrom := none }) :
    ∃ w', dspStep (Work.start s) u op f = w' ∧ Waited u { c with todo := rest, waitFrom := none } w w' ∧ Stepped w'.finish u c rest ∧
      w'.finish.dev.held = w.dev.held ∧ Frame s w'.finish (fs ++ waitFlds u) ∧
      ∀ g, g.lo < 32 → g.addr ≠ tileBase u + 0x6A04 → w'.finish.get g = w.get g := by
  obtain ⟨hrest, hst, hop, hlegal, hagu, -⟩ := hat
  rw [dspStep_doStep]
  refine step_next s hs u hu c _ rest hst hrest _ _ (by simp [dspEff_legal _ hlegal, hop]) fs hfs w ?_ hk hq hcur
  simp only [hlegal, hagu, Bool.not_false, Bool.and_self, if_true]
  exact hw

/-! ## A sum added to an accumulator (R142) -/

theorem bit_setOr (v n m k : Nat) (hm : m < k) : bit ((v ||| 2 ^ n) % 2 ^ k) m = (bit v m || decide (n = m)) := by
  simp only [TokenProofs.bit_eq_testBit, Nat.testBit_mod_two_pow, Nat.testBit_or, Nat.testBit_two_pow, hm, decide_true, Bool.true_and]

/-- Whether a sum overflows accumulator n, and whether its GOV bit then rises. -/
def overflows (w : Work σ) (u n : Nat) (sum : Int) : Prop := w.get (DSP_ACC_HI_HOLD u n) = 0 ∧ overS 48 (sext 48 (w.get (DSP_ACC u n)) + sum) = true

/-- The fields of accumulator n that a sum writes. -/
def sumFlds (u n : Nat) : List Fld := [DSP_ACC u n, DSP_ACC_HI_TAINT u n, DSP_ACC_HI_HOLD u n]

theorem sumFlds_apart (u n : Nat) (_hu : u < 32) (_hn : n < 4) : (DSP_ACC u n).key ≠ (DSP_ACC_HI_TAINT u n).key ∧ (DSP_ACC u n).key ≠ (DSP_ACC_HI_HOLD u n).key ∧
    (DSP_ACC_HI_TAINT u n).key ≠ (DSP_ACC_HI_HOLD u n).key ∧ ∀ f ∈ sumFlds u n, f.key ≠ (DSP_STATUS_GOV u).key := by
  simp only [sumFlds, List.mem_cons, List.not_mem_nil, or_false, forall_eq_or_imp, forall_eq, Fld.key, DSP_ACC, DSP_ACC_HI_TAINT,
    DSP_ACC_HI_HOLD, DSP_STATUS_GOV, hid, tileBase]
  omega

/-- GOV of accumulator n set, with source 6 at its rise. -/
def govRise (w : Work σ) (u n : Nat) : Work σ :=
  if w.getBit (DSP_STATUS_GOV u) n then w else (w.setBit (DSP_STATUS_GOV u) n true).fire (tileSrc u 6)

theorem govRise_spec (w : Work σ) (u n : Nat) (hn : n < 4) : bit ((govRise w u n).get (DSP_STATUS_GOV u)) n = true ∧
    (∀ m < 4, m ≠ n → bit ((govRise w u n).get (DSP_STATUS_GOV u)) m = bit (w.get (DSP_STATUS_GOV u)) m) ∧
    (∀ f : Fld, f.key ≠ (DSP_STATUS_GOV u).key → (govRise w u n).get f = w.get f) ∧
    (govRise w u n).dev = { w.dev with held := w.dev.held ++
      (if bit (w.get (DSP_STATUS_GOV u)) n = false then [⟨tileSrc u 6, 0, false, w.now, w.ntLo⟩] else []) } ∧
    (Quiet (govRise w u n) ↔ Quiet w) := by
  rw [govRise]
  split
  next h =>
    have set_ : bit (w.get (DSP_STATUS_GOV u)) n = true := h
    exact ⟨set_, fun _ _ _ => rfl, fun _ _ => rfl, by simp [set_], Iff.rfl⟩
  next h =>
    have clear : bit (w.get (DSP_STATUS_GOV u)) n = false := by simpa [Work.getBit] using h
    have gov : ((w.setBit (DSP_STATUS_GOV u) n true).fire (tileSrc u 6)).get (DSP_STATUS_GOV u) =
        (w.get (DSP_STATUS_GOV u) ||| 2 ^ n) % 2 ^ 4 := by
      rw [Work.get_fire, Work.setBit, Work.get_set_self]
      rfl
    have nt : (w.setBit (DSP_STATUS_GOV u) n true).ntLo = w.ntLo := by
      rw [Work.ntLo, Work.ntLo, Work.setBit, Work.get_set_ne]
      simp only [Fld.key, NT_NOW, DSP_STATUS_GOV, hid, hidDev, tileBase]
      omega
    refine ⟨?_, fun m hm hne => ?_, fun f hf => by rw [Work.get_fire, Work.setBit, Work.get_set_ne _ _ _ _ hf], ?_, Iff.rfl⟩
    · rw [gov, bit_setOr _ _ _ _ hn, decide_eq_true rfl, Bool.or_true]
    · rw [gov, bit_setOr _ _ _ _ hm, decide_eq_false (Ne.symm hne), Bool.or_false]
    · rw [fire_dev, nt, if_pos clear]
      rfl

/-- Accumulator n behind the addition of a sum. -/
def accNext (w : Work σ) (u : Nat) (c : WordSt) (n : Nat) (sum : Int) : Nat :=
  let v := sext 48 (w.get (DSP_ACC u n)) + sum
  if w.get (DSP_ACC_HI_HOLD u n) ≠ 0 then w.get (DSP_ACC u n)
  else toField 48 (if overS 48 v && dspSat c.word then satS 48 v else v)

/-- The firings of source 6 that a sum brings. -/
def govFirings (w : Work σ) (u n : Nat) (sum : Int) : List Firing :=
  if w.get (DSP_ACC_HI_HOLD u n) = 0 ∧ overS 48 (sext 48 (w.get (DSP_ACC u n)) + sum) = true ∧ bit (w.get (DSP_STATUS_GOV u)) n = false then
    [⟨tileSrc u 6, 0, false, w.now, w.ntLo⟩] else []

/-- A sum has been added to accumulator n. -/
structure SumAdded (w : Work σ) (u : Nat) (c : WordSt) (n : Nat) (sum : Int) (w' : Work σ) : Prop where
  acc : w'.get (DSP_ACC u n) = accNext w u c n sum
  overflow : overflows w u n sum → w'.get (DSP_ACC_HI_TAINT u n) = 1 ∧ w'.get (DSP_ACC_HI_HOLD u n) = b2n (dspSat c.word) ∧
    bit (w'.get (DSP_STATUS_GOV u)) n = true
  gov : ∀ m < 4, m ≠ n → bit (w'.get (DSP_STATUS_GOV u)) m = bit (w.get (DSP_STATUS_GOV u)) m
  rest : ∀ f : Fld, (∀ g ∈ DSP_STATUS_GOV u :: sumFlds u n, f.key ≠ g.key) → w'.get f = w.get f
  dev : w'.dev = { w.dev with held := w.dev.held ++ govFirings w u n sum }
  quiet : Quiet w' ↔ Quiet w
  tl : w'.tl = w.tl

theorem accAddTo_tl (w : Work σ) (u : Nat) (c : WordSt) (n : Nat) (sum : Int) : (accAddTo w u c n sum).tl = w.tl := by
  simp only [accAddTo, apply_ite Work.tl, Work.set_tl, Work.setBit_tl, Work.fire_tl, ite_self]

theorem toField_lt (k : Nat) (i : Int) : toField k i < 2 ^ k := by
  have pos : (0 : Int) < 2 ^ k := by positivity
  rw [toField, Int.toNat_lt (Int.emod_nonneg _ (ne_of_gt pos))]
  exact_mod_cast Int.emod_lt_of_pos i pos

theorem acc_set (w : Work σ) (u n : Nat) (i : Int) : (w.set (DSP_ACC u n) (toField 48 i)).get (DSP_ACC u n) = toField 48 i := by
  rw [Work.get_set_self]
  exact Nat.mod_eq_of_lt (toField_lt 48 i)

theorem accAddTo_added (w : Work σ) (u : Nat) (c : WordSt) (n : Nat) (sum : Int) (hu : u < 32) (hn : n < 4) :
    SumAdded w u c n sum (accAddTo w u c n sum) := by
  obtain ⟨hat, hah, hth, hgov⟩ := sumFlds_apart u n hu hn
  have gAcc := hgov (DSP_ACC u n) (by simp [sumFlds])
  have gTaint := hgov (DSP_ACC_HI_TAINT u n) (by simp [sumFlds])
  have gHold := hgov (DSP_ACC_HI_HOLD u n) (by simp [sumFlds])
  by_cases hhold : w.get (DSP_ACC_HI_HOLD u n) = 0
  · by_cases hover : overS 48 (sext 48 (w.get (DSP_ACC u n)) + sum) = true
    · obtain ⟨hbit, hbits, hrest, hdev, hquiet⟩ := govRise_spec w u n hn
      have firings : govFirings w u n sum = if bit (w.get (DSP_STATUS_GOV u)) n = false then
          [⟨tileSrc u 6, 0, false, w.now, w.ntLo⟩] else [] := by
        simp only [govFirings, hhold, hover, true_and]
      have eq : accAddTo w u c n sum = if dspSat c.word then
          ((((govRise w u n).set (DSP_ACC_HI_TAINT u n) 1).set (DSP_ACC u n) (toField 48 (satS 48 (sext 48 (w.get (DSP_ACC u n)) + sum)))).set
            (DSP_ACC_HI_HOLD u n) 1)
          else ((govRise w u n).set (DSP_ACC_HI_TAINT u n) 1).set (DSP_ACC u n) (toField 48 (sext 48 (w.get (DSP_ACC u n)) + sum)) := by
        rw [accAddTo, if_neg (by rw [Work.on, hhold]; decide)]
        exact if_pos hover
      have tl := accAddTo_tl w u c n sum
      rw [eq] at tl ⊢
      have taint : ((govRise w u n).set (DSP_ACC_HI_TAINT u n) 1).get (DSP_ACC_HI_TAINT u n) = 1 := Work.get_set_self _ _ _
      cases hsat : dspSat c.word with
      | true =>
        simp only [hsat, if_true] at tl ⊢
        refine ⟨?_, fun _ => ⟨?_, ?_, ?_⟩, fun m hm hne => ?_, fun f hf => ?_, ?_, hquiet, tl⟩
        · rw [Work.get_set_ne _ _ _ _ hah, acc_set, accNext, if_neg (by simpa using hhold), hover, hsat]
          rfl
        · rw [Work.get_set_ne _ _ _ _ hth, Work.get_set_ne _ _ _ _ (Ne.symm hat), taint]
        · rw [hsat, Work.get_set_self]
          rfl
        · rw [Work.get_set_ne _ _ _ _ (Ne.symm gHold), Work.get_set_ne _ _ _ _ (Ne.symm gAcc), Work.get_set_ne _ _ _ _ (Ne.symm gTaint), hbit]
        · rw [Work.get_set_ne _ _ _ _ (Ne.symm gHold), Work.get_set_ne _ _ _ _ (Ne.symm gAcc), Work.get_set_ne _ _ _ _ (Ne.symm gTaint),
            hbits m hm hne]
        · simp only [sumFlds, List.mem_cons, List.not_mem_nil, or_false, forall_eq_or_imp, forall_eq] at hf
          obtain ⟨h1, h2, h3, h4⟩ := hf
          rw [Work.get_set_ne _ _ _ _ h4, Work.get_set_ne _ _ _ _ h2, Work.get_set_ne _ _ _ _ h3, hrest f h1]
        · rw [firings, Work.set_dev, Work.set_dev, Work.set_dev, hdev]
      | false =>
        simp only [hsat, Bool.false_eq_true, if_false] at tl ⊢
        refine ⟨?_, fun _ => ⟨?_, ?_, ?_⟩, fun m hm hne => ?_, fun f hf => ?_, ?_, hquiet, tl⟩
        · rw [acc_set, accNext, if_neg (by simpa using hhold), hsat, Bool.and_false]
          rfl
        · rw [Work.get_set_ne _ _ _ _ (Ne.symm hat), taint]
        · rw [hsat, Work.get_set_ne _ _ _ _ (Ne.symm hah), Work.get_set_ne _ _ _ _ (Ne.symm hth), hrest _ gHold, hhold]
          rfl
        · rw [Work.get_set_ne _ _ _ _ (Ne.symm gAcc), Work.get_set_ne _ _ _ _ (Ne.symm gTaint), hbit]
        · rw [Work.get_set_ne _ _ _ _ (Ne.symm gAcc), Work.get_set_ne _ _ _ _ (Ne.symm gTaint), hbits m hm hne]
        · simp only [sumFlds, List.mem_cons, List.not_mem_nil, or_false, forall_eq_or_imp, forall_eq] at hf
          obtain ⟨h1, h2, h3, -⟩ := hf
          rw [Work.get_set_ne _ _ _ _ h2, Work.get_set_ne _ _ _ _ h3, hrest f h1]
        · rw [firings, Work.set_dev, Work.set_dev, hdev]
    · have within_ : overS 48 (sext 48 (w.get (DSP_ACC u n)) + sum) = false := by simpa using hover
      have eq : accAddTo w u c n sum = w.set (DSP_ACC u n) (toField 48 (sext 48 (w.get (DSP_ACC u n)) + sum)) := by
        rw [accAddTo, if_neg (by rw [Work.on, hhold]; decide)]
        exact if_neg hover
      rw [eq]
      refine ⟨?_, fun h => absurd h.2 hover, fun m _ _ => ?_, fun f hf => ?_, ?_, Iff.rfl, rfl⟩
      · rw [acc_set, accNext, if_neg (by simpa using hhold), within_, Bool.false_and]
        rfl
      · rw [Work.get_set_ne _ _ _ _ (Ne.symm gAcc)]
      · exact Work.get_set_ne _ _ _ _ (hf _ (by simp [sumFlds]))
      · rw [govFirings, if_neg (fun h => hover h.2.1), List.append_nil]
        rfl
  · have eq : accAddTo w u c n sum = w := if_pos (by simpa [Work.on] using hhold)
    rw [eq]
    exact ⟨by rw [accNext, if_pos hhold], fun h => absurd h.1 hhold, fun _ _ _ => rfl, fun _ _ => rfl,
      by rw [govFirings, if_neg (fun h => hhold h.1), List.append_nil], Iff.rfl, rfl⟩

/-! ## Sums added to several accumulators -/

/-- What a sum reads of accumulator n is the same in two works. -/
def SameAcc (w w' : Work σ) (u n : Nat) : Prop := (∀ f ∈ sumFlds u n, w'.get f = w.get f) ∧
  bit (w'.get (DSP_STATUS_GOV u)) n = bit (w.get (DSP_STATUS_GOV u)) n ∧ w'.ntLo = w.ntLo ∧ w'.tl = w.tl

section

variable {w w' : Work σ} {u n : Nat} {c : WordSt}

theorem SameAcc.trans {w'' : Work σ} (h : SameAcc w w' u n) (h' : SameAcc w' w'' u n) : SameAcc w w'' u n :=
  ⟨fun f hf => (h'.1 f hf).trans (h.1 f hf), h'.2.1.trans h.2.1, h'.2.2.1.trans h.2.2.1, h'.2.2.2.trans h.2.2.2⟩

theorem SameAcc.reads (h : SameAcc w w' u n) (sum : Int) : accNext w' u c n sum = accNext w u c n sum ∧
    (overflows w' u n sum ↔ overflows w u n sum) ∧ govFirings w' u n sum = govFirings w u n sum := by
  obtain ⟨hf, hgov, hnt, htl⟩ := h
  have hacc := hf (DSP_ACC u n) (by simp [sumFlds])
  have hhold := hf (DSP_ACC_HI_HOLD u n) (by simp [sumFlds])
  have hnow : w'.now = w.now := congrArg Tl.count htl
  simp only [accNext, overflows, govFirings, hacc, hhold, hgov, hnt, hnow, and_self]

theorem SumAdded.same {sum : Int} (h : SumAdded w u c n sum w') (hu : u < 32) (hn : n < 4) (m : Nat) (hm : m < 4) (hne : m ≠ n) :
    SameAcc w w' u m := by
  obtain ⟨-, -, -, hgov⟩ := sumFlds_apart u m hu hm
  refine ⟨fun f hf => h.rest f (fun g hg => ?_), h.gov m hm hne, ?_, h.tl⟩
  · rcases List.mem_cons.1 hg with rfl | hg
    · exact hgov f hf
    · simp only [sumFlds, List.mem_cons, List.not_mem_nil, or_false] at hf hg
      rcases hf with rfl | rfl | rfl <;> rcases hg with rfl | rfl | rfl <;>
        simp only [Fld.key, DSP_ACC, DSP_ACC_HI_TAINT, DSP_ACC_HI_HOLD, hid, tileBase] <;> omega
  · rw [Work.ntLo, Work.ntLo, h.rest]
    simp only [sumFlds, List.mem_cons, List.not_mem_nil, or_false, forall_eq_or_imp, forall_eq, Fld.key, NT_NOW, DSP_STATUS_GOV, DSP_ACC,
      DSP_ACC_HI_TAINT, DSP_ACC_HI_HOLD, hid, hidDev, tileBase]
    omega

end

/-- What a list of sums to different accumulators leaves. -/
structure SumsAdded (w : Work σ) (u : Nat) (c : WordSt) (sums : List (Nat × Int)) (w' : Work σ) : Prop where
  each_ : ∀ x ∈ sums, w'.get (DSP_ACC u x.1) = accNext w u c x.1 x.2 ∧ (overflows w u x.1 x.2 →
    w'.get (DSP_ACC_HI_TAINT u x.1) = 1 ∧ w'.get (DSP_ACC_HI_HOLD u x.1) = b2n (dspSat c.word) ∧
    bit (w'.get (DSP_STATUS_GOV u)) x.1 = true)
  same : ∀ m < 4, (∀ x ∈ sums, x.1 ≠ m) → SameAcc w w' u m
  rest : ∀ f : Fld, f.key ≠ (DSP_STATUS_GOV u).key → (∀ x ∈ sums, ∀ g ∈ sumFlds u x.1, f.key ≠ g.key) → w'.get f = w.get f
  dev : w'.dev = { w.dev with held := w.dev.held ++ sums.flatMap (fun x => govFirings w u x.1 x.2) }
  quiet : Quiet w' ↔ Quiet w

theorem each_accAddTo (u : Nat) (c : WordSt) (hu : u < 32) (sums : List (Nat × Int)) (hlt : ∀ x ∈ sums, x.1 < 4)
    (hnd : (sums.map Prod.fst).Nodup) (w : Work σ) : SumsAdded w u c sums (w.each sums (fun w p => accAddTo w u c p.1 p.2)) := by
  induction sums generalizing w with
  | nil => exact ⟨fun x hx => absurd hx List.not_mem_nil, fun _ _ _ => ⟨fun _ _ => rfl, rfl, rfl, rfl⟩, fun _ _ _ => rfl,
      by rw [List.flatMap_nil, List.append_nil]; rfl, Iff.rfl⟩
  | cons x l ih =>
    have hx : x.1 < 4 := hlt x List.mem_cons_self
    obtain ⟨hnot, hnd'⟩ := List.nodup_cons.1 hnd
    have differ : ∀ y ∈ l, y.1 ≠ x.1 := fun y hy h => hnot (h ▸ List.mem_map_of_mem hy)
    have low : ∀ y ∈ l, y.1 < 4 := fun y hy => hlt y (List.mem_cons_of_mem _ hy)
    have one := accAddTo_added w u c x.1 x.2 hu hx
    obtain ⟨heach, hsame, hrest, hdev, hquiet⟩ := ih low hnd' (accAddTo w u c x.1 x.2)
    have kept : ∀ y ∈ l, SameAcc w (accAddTo w u c x.1 x.2) u y.1 := fun y hy => one.same hu hx y.1 (low y hy) (differ y hy)
    refine ⟨fun y hy => ?_, fun m hm hne => ?_, fun f hgov hf => ?_, ?_, hquiet.trans one.quiet⟩
    · rcases List.mem_cons.1 hy with rfl | hy
      · obtain ⟨hflds, hgov, -⟩ := hsame y.1 hx differ
        obtain ⟨hacc, htaint, hhold⟩ : _ ∧ _ ∧ _ := by simpa [sumFlds] using hflds
        exact ⟨hacc.trans one.acc, fun h => ⟨htaint.trans (one.overflow h).1, hhold.trans (one.overflow h).2.1, hgov.trans (one.overflow h).2.2⟩⟩
      · obtain ⟨hnext, hover, -⟩ := (kept y hy).reads (c := c) y.2
        obtain ⟨h1, h2⟩ := heach y hy
        exact ⟨h1.trans hnext, fun h => h2 (hover.2 h)⟩
    · exact (one.same hu hx m hm (hne x List.mem_cons_self).symm).trans (hsame m hm (fun y hy => hne y (List.mem_cons_of_mem _ hy)))
    · refine (hrest f hgov (fun y hy => hf y (List.mem_cons_of_mem _ hy))).trans (one.rest f (fun g hg => ?_))
      rcases List.mem_cons.1 hg with rfl | hg
      · exact hgov
      · exact hf x List.mem_cons_self g hg
    · have firings : l.flatMap (fun y => govFirings (accAddTo w u c x.1 x.2) u y.1 y.2) = l.flatMap (fun y => govFirings w u y.1 y.2) :=
        List.flatMap_congr (fun y hy => ((kept y hy).reads (c := c) y.2).2.2)
      rw [show w.each (x :: l) (fun w p => accAddTo w u c p.1 p.2) = (accAddTo w u c x.1 x.2).each l (fun w p => accAddTo w u c p.1 p.2) from rfl,
        hdev, firings, one.dev, List.flatMap_cons, List.append_assoc]

/-! ## The accumulating operations (R139, R142) -/

theorem flatMap_ite_singleton {α β : Type} (l : List α) (p : α → Bool) (b : β) :
    l.flatMap (fun x => if p x = true then [b] else []) = (l.filter p).map (fun _ => b) := by
  induction l with
  | nil => rfl
  | cons x l ih => cases hp : p x <;> simp [List.flatMap_cons, hp, ih]

/-- The sums of a word, with the result for TEST. -/
def accSumsOf (w : Work σ) (u : Nat) (c : WordSt) (sums : List (Nat × Int)) (n : Nat) : Work σ :=
  (w.each sums (fun w p => accAddTo w u c p.1 p.2)).updSeq u (fun s => { s with
    lastVal := some (accGet (w.each sums (fun w p => accAddTo w u c p.1 p.2)) u n), lastIdx := none })

theorem accSums_eq (w : Work σ) (u : Nat) (c : WordSt) (sums : List (Nat × Int)) (hne : sums ≠ []) :
    ∃ n, accSums w u c sums = accSumsOf w u c sums n := by
  cases sums with
  | nil => exact absurd rfl hne
  | cons p l => exact ⟨p.1, rfl⟩

/-- Whether a sum makes source 6 fire at s. -/
def firesGov (s : State) (u : Nat) (x : Nat × Int) : Bool := decide (s.get (DSP_ACC_HI_HOLD u x.1) = 0 ∧
  overS 48 (sext 48 (s.get (DSP_ACC u x.1)) + x.2) = true ∧ bit (s.get (DSP_STATUS_GOV u)) x.1 = false)

theorem sums_firings (s : State) (u : Nat) (sums : List (Nat × Int)) :
    sums.flatMap (fun x => govFirings (popStep (Work.start s) u) u x.1 x.2) =
      (sums.filter (firesGov s u)).map (fun _ => s.firing (tileSrc u 6)) := by
  have firing : (⟨tileSrc u 6, 0, false, (popStep (Work.start s) u).now, (popStep (Work.start s) u).ntLo⟩ : Firing) = s.firing (tileSrc u 6) :=
    firing_eq _ _ rfl (get_popStep s u _)
  rw [← flatMap_ite_singleton]
  refine List.flatMap_congr (fun x _ => ?_)
  simp only [govFirings, get_popStep, firing, firesGov, decide_eq_true_eq]

/-- What an accumulating operation leaves. -/
def SumsShown (s : State) (u : Nat) (c : WordSt) (rest : List WStep) (sums : List (Nat × Int)) (t : State) : Prop :=
  (∀ x ∈ sums, t.get (DSP_ACC u x.1) = accAfter s u c x.1 x.2 ∧
    (s.get (DSP_ACC_HI_HOLD u x.1) = 0 → overS 48 (sext 48 (s.get (DSP_ACC u x.1)) + x.2) = true →
      t.get (DSP_ACC_HI_TAINT u x.1) = 1 ∧ t.get (DSP_ACC_HI_HOLD u x.1) = b2n (dspSat c.word) ∧
      bit (t.get (DSP_STATUS_GOV u)) x.1 = true)) ∧
  t.dev.held = s.dev.held ++ (sums.filter (firesGov s u)).map (fun _ => s.firing (tileSrc u 6)) ∧
  Stepped t u c rest ∧
  Frame s t (sums.flatMap (fun x => [DSP_ACC u x.1, DSP_ACC_HI_TAINT u x.1, DSP_ACC_HI_HOLD u x.1]) ++ DSP_STATUS_GOV u :: waitFlds u)

theorem sums_shown (s : State) (hs : s.wf = true) (u : Fin 32) (c : WordSt) (rest : List WStep) (op : Nat) (hat : AtOp s u c rest op)
    (sums : List (Nat × Int)) (hne : sums ≠ []) (hlt : ∀ x ∈ sums, x.1 < 4) (hnd : (sums.map Prod.fst).Nodup)
    (f : Work s → Nat → WordSt → Work s) (hf : f (popStep (Work.start s) u) u c = accSums (popStep (Work.start s) u) u c sums) :
    ∃ w', dspStep (Work.start s) u op f = w' ∧ SumsShown s u c rest sums w'.finish := by
  obtain ⟨n, heq⟩ := accSums_eq (popStep (Work.start s) u) u c sums hne
  have added := each_accAddTo u c u.isLt sums hlt hnd (popStep (Work.start s) u)
  have place : ∀ f ∈ sums.flatMap (fun x => sumFlds u x.1) ++ [DSP_STATUS_GOV u], f.lo < 32 ∧ 0x2000 ≤ f.addr ∧
      f.addr ≠ tileBase u + 0x6A04 := by
    intro f hf
    rcases List.mem_append.1 hf with hf | hf
    · obtain ⟨x, hx, hf⟩ := List.mem_flatMap.1 hf
      have := hlt x hx
      simp only [sumFlds, List.mem_cons, List.not_mem_nil, or_false] at hf
      rcases hf with rfl | rfl | rfl <;> simp only [DSP_ACC, DSP_ACC_HI_TAINT, DSP_ACC_HI_HOLD, hid, tileBase] <;> omega
    · rw [List.mem_singleton.1 hf]
      simp only [DSP_STATUS_GOV, tileBase]
      omega
  have keeps : Keeps (accSumsOf (popStep (Work.start s) u) u c sums n) (sums.flatMap (fun x => sumFlds u x.1) ++ [DSP_STATUS_GOV u]) := by
    intro f hf
    rw [accSumsOf, Work.get_updSeq, added.rest f (hf _ (List.mem_append_right _ List.mem_cons_self))
      (fun x hx g hg => hf g (List.mem_append_left _ (List.mem_flatMap.2 ⟨x, hx, hg⟩))), get_popStep]
  have cur : ((accSumsOf (popStep (Work.start s) u) u c sums n).seq u).cur = some { c with todo := rest, waitFrom := none } := by
    rw [accSumsOf, seq_updSeq _ _ _ u.isLt, Work.seq, Work.tile, added.dev]
    exact popStep_cur s u u.isLt c _ rest hat.2.1
  obtain ⟨w', hw', -, hstep, hheld, hframe, hget⟩ := dspStep_next s hs u u.isLt c rest op hat f _ (fun g hg => (place g hg).2.1) _
    (hf.trans heq) keeps ((quiet_updSeq _ _ _).2 (added.quiet.2 (popStep_quiet s u))) cur
  have get : ∀ f ∈ sums.flatMap (fun x => sumFlds u x.1) ++ [DSP_STATUS_GOV u], w'.finish.get f =
      ((popStep (Work.start s) u).each sums (fun w p => accAddTo w u c p.1 p.2)).get f := fun f hf => by
    obtain ⟨hlo, -, haddr⟩ := place f hf
    rw [hget f hlo haddr, accSumsOf, Work.get_updSeq]
  refine ⟨w', hw', fun x hx => ?_, ?_, hstep, ?_⟩
  · have mem : ∀ f ∈ sumFlds u x.1, f ∈ sums.flatMap (fun x => sumFlds u x.1) ++ [DSP_STATUS_GOV u] :=
      fun f hf => List.mem_append_left _ (List.mem_flatMap.2 ⟨x, hx, hf⟩)
    obtain ⟨hacc, hover⟩ := added.each_ x hx
    rw [get _ (mem _ (by simp [sumFlds])), get _ (mem _ (by simp [sumFlds])), get _ (mem _ (by simp [sumFlds])), get _ (by simp)]
    refine ⟨hacc.trans ?_, fun h1 h2 => hover ⟨?_, ?_⟩⟩
    · simp only [accNext, accAfter, get_popStep]
    · rw [get_popStep, h1]
    · rw [get_popStep, h2]
  · rw [hheld, accSumsOf, Work.updSeq_dev, added.dev, sums_firings, popStep_held]
  · rw [List.append_cons]
    exact hframe

theorem accumulation : Clause.Accumulation := by
  intro s hs u c rest a b n p l i op sums hi hat
  have acc : n < 4 := Nat.mod_lt _ (by decide)
  have pair : p < 4 ∧ p + 1 < 4 := by
    have : p = n / 2 * 2 := rfl
    omega
  have srcs : srcA (popStep (Work.start s) u) u c = a ∧ srcB (popStep (Work.start s) u) u c = b :=
    ⟨srcVec_popStep s u u.isLt c _, srcVec_popStep s u u.isLt c _⟩
  have shown := fun op (hat : AtOp s u c rest op) sums hne hlt hnd f hf => sums_shown s hs u c rest op hat sums hne hlt hnd f hf
  have four : ∀ g : Nat → Int, (List.range 4).map (fun k => (k, g k)) ≠ [] ∧ (∀ x ∈ (List.range 4).map (fun k => (k, g k)), x.1 < 4) ∧
      (((List.range 4).map (fun k => (k, g k))).map Prod.fst).Nodup := fun g => by
    refine ⟨by simp [List.range_succ], fun x hx => ?_, ?_⟩
    · obtain ⟨k, hk, rfl⟩ := List.mem_map.1 hx
      exact List.mem_range.1 hk
    · rw [List.map_map]
      exact (List.map_id _).symm ▸ List.nodup_range
  have two : ∀ x y : Int, (∀ z ∈ [(p, x), (p + 1, y)], z.1 < 4) ∧ ([(p, x), (p + 1, y)].map Prod.fst).Nodup := fun x y => by
    simp [pair]
  have one : ∀ x : Int, (∀ z ∈ [(n, x)], z.1 < 4) ∧ ([(n, x)].map Prod.fst).Nodup := fun x => by simp [acc]
  simp only [List.mem_cons, List.not_mem_nil, or_false, Prod.mk.injEq] at hi
  rcases hi with ⟨rfl, rfl, rfl⟩ | ⟨rfl, rfl, rfl⟩ | ⟨rfl, rfl, rfl⟩ | ⟨rfl, rfl, rfl⟩ | ⟨rfl, rfl, rfl⟩ | ⟨rfl, rfl, rfl⟩ |
    ⟨rfl, rfl, rfl⟩ | ⟨rfl, rfl, rfl⟩
  · obtain ⟨w', hw', h⟩ := shown _ hat _ (by simp) (one _).1 (one _).2
      (fun w t c => accSums w t c [(dspAcc c.word, dot (srcA w t c) (srcB w t c))]) (by rw [srcs.1, srcs.2])
    exact ⟨_, by rw [exec, execDspMac, run_eq, hw'], h⟩
  · obtain ⟨w', hw', h⟩ := shown _ hat _ (by simp) (one _).1 (one _).2
      (fun w t c => accSums w t c [(dspAcc c.word, -(dot (srcA w t c) (srcB w t c)))]) (by simp only [srcs]; rfl)
    exact ⟨_, by rw [exec, execDspMsu, run_eq, hw'], h⟩
  · obtain ⟨w', hw', h⟩ := shown _ hat _ (four _).1 (four _).2.1 (four _).2.2
      (fun w t c => accSums w t c ((List.range 4).map (fun p =>
        (p, (srcA w t c).lane (2 * p) * (srcB w t c).lane (2 * p) + (srcA w t c).lane (2 * p + 1) * (srcB w t c).lane (2 * p + 1))))) (by simp only [srcs]; rfl)
    exact ⟨_, by rw [exec, execDspPmac, run_eq, hw'], h⟩
  · obtain ⟨w', hw', h⟩ := shown _ hat _ (by simp) (two _ _).1 (two _ _).2
      (cmacOp false) (by simp only [cmacOp, srcs]; rfl)
    exact ⟨_, by rw [exec, execDspCmac, run_eq, hw'], h⟩
  · obtain ⟨w', hw', h⟩ := shown _ hat _ (by simp) (two _ _).1 (two _ _).2
      (cmacOp true) (by simp only [cmacOp, srcs]; rfl)
    exact ⟨_, by rw [exec, execDspCmacj, run_eq, hw'], h⟩
  · obtain ⟨w', hw', h⟩ := shown _ hat _ (by simp) (one _).1 (one _).2
      (fun w t c => accSums w t c [(dspAcc c.word, (List.range 8).foldl (fun n l => n + (srcA w t c).lane l * 2 ^ 15) 0)]) (by simp only [srcs]; rfl)
    exact ⟨_, by rw [exec, execDspAccum, run_eq, hw'], h⟩
  · obtain ⟨w', hw', h⟩ := shown _ hat _ (by simp) (two _ _).1 (two _ _).2
      (fun w t c => accSums w t c [(dspAcc c.word / 2 * 2, (srcA w t c).lane (2 * (dspSrcB c.word % 4)) * 2 ^ 15),
        (dspAcc c.word / 2 * 2 + 1, (srcA w t c).lane (2 * (dspSrcB c.word % 4) + 1) * 2 ^ 15)]) (by simp only [srcs]; rfl)
    exact ⟨_, by rw [exec, execDspCaccum, run_eq, hw'], h⟩
  · obtain ⟨w', hw', h⟩ := shown _ hat _ (four _).1 (four _).2.1 (four _).2.2
      (fun w t c => accSums w t c ((List.range 4).map (fun p => (p, (srcA w t c).lane (2 * p) * 2 ^ 15)))) (by simp only [srcs]; rfl)
    exact ⟨_, by rw [exec, execDspPacc, run_eq, hw'], h⟩

/-! ## Searches (R143) -/

theorem searchElems_popStep (s : State) (u : Nat) (hu : u < 32) (c : WordSt) :
    searchElems (popStep (Work.start s) u) u c = searchElems s.view u c := by
  simp only [searchElems, srcA, srcVec_popStep s u hu]
  rfl

/-- What a search keeps of accumulator n. -/
def searchFlds (u n : Nat) : List Fld := [DSP_ACC u n, DSP_SIDX u n, SEARCH_BASE u n, DSP_ACC_HI_TAINT u n, DSP_ACC_HI_HOLD u n]

/-- A search that has found the element v with index k among len elements. -/
def searched (w : Work σ) (u n : Nat) (v : Int) (k base : Nat) (taint fresh : Bool) : Work σ :=
  let w := (((w.set (DSP_ACC u n) (toField 48 v)).set (DSP_SIDX u n) k).set (SEARCH_BASE u n) base).setB (DSP_ACC_HI_TAINT u n) taint
  (if fresh then w.set (DSP_ACC_HI_HOLD u n) 0 else w).updSeq u (fun s => { s with newSearch := false, lastVal := some v, lastIdx := some k })

theorem searchOp_eq (w : Work σ) (u : Nat) (c : WordSt) (better : Int → Int → Bool) (v : Int) (k : Nat)
    (h : searchBest better (w.get (SEARCH_BASE u (dspAcc c.word))) ((searchElems w u c).map (fun e => e.1))
      (if (w.seq u).newSearch then none else some (accGet w u (dspAcc c.word), w.get (DSP_SIDX u (dspAcc c.word)))) = some (v, k)) :
    searchOp better w u c = searched w u (dspAcc c.word) v k (w.get (SEARCH_BASE u (dspAcc c.word)) + (searchElems w u c).length)
      ((searchElems w u c).any (fun e => e.2) || (!(w.seq u).newSearch && w.on (DSP_ACC_HI_TAINT u (dspAcc c.word))))
      (w.seq u).newSearch := by
  simp only [searchOp, h]
  rfl

theorem searched_get (w : Work σ) (u n : Nat) (hn : n < 4) (v : Int) (k base : Nat) (taint fresh : Bool) :
    (searched w u n v k base taint fresh).get (DSP_ACC u n) = toField 48 v ∧
      (searched w u n v k base taint fresh).get (DSP_SIDX u n) = k % 2 ^ 20 ∧
      (searched w u n v k base taint fresh).get (DSP_ACC_HI_TAINT u n) = b2n taint ∧
      (searched w u n v k base taint fresh).get (SEARCH_BASE u n) = base % 2 ^ 20 := by
  have hold : ∀ f ∈ [DSP_ACC u n, DSP_SIDX u n, DSP_ACC_HI_TAINT u n, SEARCH_BASE u n], f.key ≠ (DSP_ACC_HI_HOLD u n).key := by
    simp only [List.mem_cons, List.not_mem_nil, or_false, forall_eq_or_imp, forall_eq, Fld.key, DSP_ACC, DSP_SIDX, SEARCH_BASE,
      DSP_ACC_HI_TAINT, DSP_ACC_HI_HOLD, hid, tileBase]
    omega
  have get : ∀ f ∈ [DSP_ACC u n, DSP_SIDX u n, DSP_ACC_HI_TAINT u n, SEARCH_BASE u n], (searched w u n v k base taint fresh).get f =
      ((((w.set (DSP_ACC u n) (toField 48 v)).set (DSP_SIDX u n) k).set (SEARCH_BASE u n) base).setB (DSP_ACC_HI_TAINT u n) taint).get f := by
    intro f hf
    cases fresh with
    | true => exact (Work.get_updSeq _ _ _ _).trans (Work.get_set_ne _ _ _ _ (hold f hf))
    | false => exact Work.get_updSeq _ _ _ _
  have apart : (DSP_ACC u n).key ≠ (DSP_SIDX u n).key ∧ (DSP_ACC u n).key ≠ (SEARCH_BASE u n).key ∧
      (DSP_ACC u n).key ≠ (DSP_ACC_HI_TAINT u n).key ∧ (DSP_SIDX u n).key ≠ (SEARCH_BASE u n).key ∧
      (DSP_SIDX u n).key ≠ (DSP_ACC_HI_TAINT u n).key ∧ (SEARCH_BASE u n).key ≠ (DSP_ACC_HI_TAINT u n).key := by
    simp only [Fld.key, DSP_ACC, DSP_SIDX, SEARCH_BASE, DSP_ACC_HI_TAINT, hid, tileBase]
    omega
  obtain ⟨h1, h2, h3, h4, h5, h6⟩ := apart
  refine ⟨?_, ?_, ?_, ?_⟩
  · rw [get _ (by simp), Work.setB, Work.get_set_ne _ _ _ _ h3, Work.get_set_ne _ _ _ _ h2, Work.get_set_ne _ _ _ _ h1, acc_set]
  · rw [get _ (by simp), Work.setB, Work.get_set_ne _ _ _ _ h5, Work.get_set_ne _ _ _ _ h4, Work.get_set_self]
    rfl
  · rw [get _ (by simp), Work.setB, Work.get_set_self]
    cases taint <;> rfl
  · rw [get _ (by simp), Work.setB, Work.get_set_ne _ _ _ _ h6, Work.get_set_self]
    rfl

theorem searched_rest (w : Work σ) (u n : Nat) (hu : u < 32) (v : Int) (k base : Nat) (taint fresh : Bool) (fs : List Fld)
    (hfs : searchFlds u n ⊆ fs) : (Keeps (searched w u n v k base taint fresh) fs ↔ Keeps w fs) ∧
      (Quiet (searched w u n v k base taint fresh) ↔ Quiet w) ∧ (searched w u n v k base taint fresh).dev.held = w.dev.held ∧
      (searched w u n v k base taint fresh).seq u = { w.seq u with newSearch := false, lastVal := some v, lastIdx := some k } := by
  have mem : ∀ f ∈ searchFlds u n, f ∈ fs := hfs
  simp only [searchFlds, List.mem_cons, List.not_mem_nil, or_false, forall_eq_or_imp, forall_eq] at mem
  obtain ⟨h1, h2, h3, h4, h5⟩ := mem
  cases fresh
  · exact ⟨by simp [searched, h1, h2, h3, h4], by simp [searched], rfl, seq_updSeq _ _ _ hu⟩
  · exact ⟨by simp [searched, h1, h2, h3, h4, h5], by simp [searched], rfl, seq_updSeq _ _ _ hu⟩

theorem search_shown (s : State) (hs : s.wf = true) (u : Fin 32) (c : WordSt) (rest : List WStep) (op : Nat) (hat : AtOp s u c rest op)
    (better : Int → Int → Bool) (v : Int) (k : Nat)
    (h : searchBest better (s.get (SEARCH_BASE u (dspAcc c.word))) ((searchElems s.view u c).map (fun e => e.1))
      (if (s.tile u).seq.newSearch then none else some (sext 48 (s.get (DSP_ACC u (dspAcc c.word))), s.get (DSP_SIDX u (dspAcc c.word)))) =
        some (v, k)) :
    ∃ w', dspStep (Work.start s) u op (searchOp better) = w' ∧ w'.finish.get (DSP_ACC u (dspAcc c.word)) = toField 48 v ∧
      w'.finish.get (DSP_SIDX u (dspAcc c.word)) = k % 2 ^ 20 ∧
      w'.finish.get (DSP_ACC_HI_TAINT u (dspAcc c.word)) = b2n ((searchElems s.view u c).any (fun e => e.2) ||
        (!(s.tile u).seq.newSearch && decide (s.get (DSP_ACC_HI_TAINT u (dspAcc c.word)) ≠ 0))) ∧
      w'.finish.get (SEARCH_BASE u (dspAcc c.word)) =
        (s.get (SEARCH_BASE u (dspAcc c.word)) + (searchElems s.view u c).length) % 2 ^ 20 ∧
      (w'.finish.tile u).seq.newSearch = false ∧ Stepped w'.finish u c rest ∧ w'.finish.dev.held = s.dev.held ∧
      Frame s w'.finish ([DSP_ACC u (dspAcc c.word), DSP_SIDX u (dspAcc c.word), SEARCH_BASE u (dspAcc c.word),
        DSP_ACC_HI_TAINT u (dspAcc c.word), DSP_ACC_HI_HOLD u (dspAcc c.word)] ++ waitFlds u) := by
  have hn : dspAcc c.word < 4 := Nat.mod_lt _ (by decide)
  have seq := popStep_seq s u u.isLt c _ rest hat.2.1
  have fresh : ((popStep (Work.start s) u).seq u).newSearch = (s.tile u).seq.newSearch := by rw [seq]
  have on_ : (popStep (Work.start s) u).on (DSP_ACC_HI_TAINT u (dspAcc c.word)) =
      decide (s.get (DSP_ACC_HI_TAINT u (dspAcc c.word)) ≠ 0) := by
    rw [Work.on, get_popStep]
    by_cases h : s.get (DSP_ACC_HI_TAINT u (dspAcc c.word)) = 0 <;> simp [h]
  have eq := searchOp_eq (popStep (Work.start s) u) u c better v k
    (by simpa only [get_popStep, searchElems_popStep s u u.isLt, fresh, accGet] using h)
  rw [get_popStep, searchElems_popStep s u u.isLt, fresh, on_] at eq
  generalize ((searchElems s.view u c).any (fun e => e.2) || (!(s.tile u).seq.newSearch &&
    decide (s.get (DSP_ACC_HI_TAINT u (dspAcc c.word)) ≠ 0))) = taint at *
  generalize s.get (SEARCH_BASE u (dspAcc c.word)) + (searchElems s.view u c).length = base at *
  generalize (s.tile u).seq.newSearch = isNew at *
  obtain ⟨hacc, hidx, htaint, hbase⟩ := searched_get (popStep (Work.start s) u) u (dspAcc c.word) hn v k base taint isNew
  obtain ⟨hk, hq, hheld, hseq⟩ := searched_rest (popStep (Work.start s) u) u (dspAcc c.word) u.isLt v k base taint isNew
    (searchFlds u (dspAcc c.word)) (List.Subset.refl _)
  have place : ∀ f ∈ searchFlds u (dspAcc c.word), f.lo < 32 ∧ 0x2000 ≤ f.addr ∧ f.addr ≠ tileBase u + 0x6A04 := by
    intro f hf
    simp only [searchFlds, List.mem_cons, List.not_mem_nil, or_false] at hf
    rcases hf with rfl | rfl | rfl | rfl | rfl <;>
      simp only [DSP_ACC, DSP_SIDX, SEARCH_BASE, DSP_ACC_HI_TAINT, DSP_ACC_HI_HOLD, hid, tileBase] <;> omega
  obtain ⟨w', hw', hwaited, hstep, hheld', hframe, hget⟩ := dspStep_next s hs u u.isLt c rest op hat (searchOp better) _
    (fun g hg => (place g hg).2.1) _ eq (hk.2 (popStep_keeps s u _)) (hq.2 (popStep_quiet s u))
    (by rw [hseq]; exact congrArg SeqSt.cur seq)
  have get : ∀ f ∈ searchFlds u (dspAcc c.word), w'.finish.get f =
      (searched (popStep (Work.start s) u) u (dspAcc c.word) v k base taint isNew).get f := fun f hf => hget f (place f hf).1 (place f hf).2.2
  refine ⟨w', hw', (get _ (by simp [searchFlds])).trans hacc, (get _ (by simp [searchFlds])).trans hidx,
    (get _ (by simp [searchFlds])).trans htaint, (get _ (by simp [searchFlds])).trans hbase, ?_, hstep,
    (hheld'.trans hheld).trans (popStep_held s u), hframe⟩
  exact (hwaited.tile (fun x => x.seq.newSearch) (fun _ => rfl)).trans (congrArg SeqSt.newSearch hseq)

/-! ## Histograms (R144) -/

/-- The histogram's counter word stored, with the store's taint. -/
def counted (w : Work σ) (u addr v : Nat) (tag : Bool) : Work σ :=
  let w := (w.wrLe addr 4 v).updSeq u (fun s => { s with lastVal := none, lastIdx := none })
  if tag then w.set (DSP_STATUS_TAINT_STORE u) 1 else w

theorem histOp_eq (w : Work σ) (u : Nat) (c : WordSt) (addr : Nat)
    (h : dmBase u + (w.get (DSP_AGU_B u (dspAcc c.word)) + 4 * histBin w u ((srcA w u c).lane 0)) % 131072 = addr) :
    histOp w u c = counted w u addr (if dspSat c.word then satAdd 0xFFFFFFFF (w.rdLe addr 4) 1 else w.rdLe addr 4 + 1) (srcA w u c).tag := by
  subst h
  rfl

theorem counted_rest (w : Work σ) (u : Nat) (hu : u < 32) (addr v : Nat) (tag : Bool) :
    (Keeps (counted w u addr v tag) [DSP_STATUS_TAINT_STORE u] ↔ Keeps w [DSP_STATUS_TAINT_STORE u]) ∧
      (counted w u addr v tag).seq u = { w.seq u with lastVal := none, lastIdx := none } ∧
      (∀ a, (counted w u addr v tag).rd8 a = (w.wrLe addr 4 v).rd8 a) ∧
      (counted w u addr v tag).get (DSP_STATUS_TAINT_STORE u) = if tag then 1 else w.get (DSP_STATUS_TAINT_STORE u) := by
  have wrote : Keeps (w.wrLe addr 4 v) [DSP_STATUS_TAINT_STORE u] ↔ Keeps w [DSP_STATUS_TAINT_STORE u] :=
    keeps_of_get (fun f _ => Work.get_wrBytes w addr _ f)
  have seq : ((w.wrLe addr 4 v).updSeq u (fun s => { s with lastVal := none, lastIdx := none })).seq u =
      { w.seq u with lastVal := none, lastIdx := none } := by
    rw [seq_updSeq _ _ _ hu, Work.seq, Work.tile, Work.wrLe, Work.wrBytes_dev]
    rfl
  cases tag with
  | true => exact ⟨(keeps_set _ _ _ _ List.mem_cons_self).trans wrote, seq, fun _ => rfl, Work.get_set_self _ _ _⟩
  | false => exact ⟨wrote, seq, fun _ => rfl, Work.get_wrBytes w addr _ _⟩

theorem histogram (s : State) (hs : s.wf = true) (u : Fin 32) (c : WordSt) (rest : List WStep) (hat : AtOp s u c rest 0x1C) :
    let x := (srcA s.view u c).lane 0
    let bin := min (max ((x - sext 16 (s.get (DSP_HIST_HBASE u))) / 2 ^ s.get (DSP_HIST_HSHIFT u)) 0)
      (s.get (DSP_HIST_NBINS_M1 u) : Int)
    let addr := dmBase u + (s.get (DSP_AGU_B u (dspAcc c.word)) + 4 * bin.toNat) % 131072
    Answers (.dspHist u) s (fun t =>
      (∀ i < 4, t.byteAt (addr + i) = BitVec.ofNat 8 ((if dspSat c.word then min 0xFFFFFFFF (s.view.rdLe addr 4 + 1)
        else s.view.rdLe addr 4 + 1) / 256 ^ i)) ∧ MemBut s t addr 4 ∧ Stepped t u c rest ∧
      t.get (DSP_STATUS_TAINT_STORE u) = (if (srcA s.view u c).tag then 1 else s.get (DSP_STATUS_TAINT_STORE u)) ∧
      RegsBut s t (DSP_STATUS_TAINT_STORE u :: waitFlds u)) := by
  intro x bin addr
  obtain ⟨hrest, hst, hop, hlegal, hagu, -⟩ := hat
  have src : srcA (popStep (Work.start s) u) u c = srcA s.view u c := srcVec_popStep s u u.isLt c _
  have place : histBin (popStep (Work.start s) u) u x = bin.toNat := by
    simp only [histBin, shiftFloor, get_popStep, bin]
    omega
  have eq := histOp_eq (popStep (Work.start s) u) u c addr (by rw [src, place, get_popStep])
  have value : (if dspSat c.word then satAdd 0xFFFFFFFF ((popStep (Work.start s) u).rdLe addr 4) 1 else (popStep (Work.start s) u).rdLe addr 4 + 1) =
      if dspSat c.word then min 0xFFFFFFFF (s.view.rdLe addr 4 + 1) else s.view.rdLe addr 4 + 1 := by
    rw [show (popStep (Work.start s) u).rdLe addr 4 = s.view.rdLe addr 4 from rfl, satAdd]
    congr 1
    split <;> omega
  rw [value, src] at eq
  generalize (if dspSat c.word then min 0xFFFFFFFF (s.view.rdLe addr 4 + 1) else s.view.rdLe addr 4 + 1) = v at *
  obtain ⟨hk, hseq, hrd, htaint⟩ := counted_rest (popStep (Work.start s) u) u u.isLt addr v (srcA s.view u c).tag
  obtain ⟨hstored, hothers⟩ := PortProofs.wrLe_bytes s (popStep (Work.start s) u) addr v (fun b => Work.rd8_start s b)
  obtain ⟨w', hw', -, hstep, -, hregs, hbytes, hget⟩ := step_keeps s hs u u.isLt c .dspOp rest hst hrest
    (fun c s => decide (s = .dspOp) && decide (dspEff c.word = 0x1C))
    (fun w c => histOp (if dspLegal c.word && !aguIllegal c.word then w else w.set (DSP_STATUS_ILLEGAL u) 1) u c)
    (by simp [dspEff_legal _ hlegal, hop]) [DSP_STATUS_TAINT_STORE u]
    (by simp only [List.mem_singleton, forall_eq, DSP_STATUS_TAINT_STORE, tileBase]; omega) _
    (by simp only [hlegal, hagu, Bool.not_false, Bool.and_self, if_true]; exact eq) (hk.2 (popStep_keeps s u _))
    (by rw [hseq]; exact popStep_cur s u u.isLt c _ rest hst)
  refine ⟨_, by rw [exec, execDspHist, run_eq, dspStep_doStep, hw'], fun i hi => ?_, fun b hb => ?_, hstep, ?_, hregs⟩
  · rw [hbytes, hrd]
    exact hstored ⟨i, hi⟩
  · rw [hbytes, hrd, hothers b hb]
  · rw [hget _ (by simp [DSP_STATUS_TAINT_STORE]) (by simp only [DSP_STATUS_TAINT_STORE]; omega), htaint, get_popStep]

theorem searchAndHistogram : Clause.SearchAndHistogram := by
  intro s hs u c rest n es start
  refine ⟨fun i op better hi hat v k h => ?_, histogram s hs u c rest⟩
  simp only [List.mem_cons, List.not_mem_nil, or_false, Prod.mk.injEq] at hi
  rcases hi with ⟨rfl, rfl, rfl⟩ | ⟨rfl, rfl, rfl⟩
  · obtain ⟨w', hw', h⟩ := search_shown s hs u c rest _ hat _ v k h
    exact ⟨_, by rw [exec, execDspMaxi, run_eq, hw'], h⟩
  · obtain ⟨w', hw', h⟩ := search_shown s hs u c rest _ hat _ v k h
    exact ⟨_, by rw [exec, execDspMini, run_eq, hw'], h⟩

/-- Settles O26: the sums added to accumulators one by one, the best element of a search, and the counter word of a histogram. -/
theorem accumulators : Obligations.Accumulators := ⟨accumulation, searchAndHistogram⟩

end Sys2Proof.AccumulatorProofs
end

section
/-! PROOFS. What a rejected write leaves (R323): the counter, the record of the first one, the entry of the error log and the two
firings. -/

namespace Sys2Proof.RejectFacts

open Sys2Proof.Machine Sys2Proof.Effects

variable {σ : State}

/-- A register field as a truth value says whether it differs from 0. -/
theorem on_eq (w : Work σ) (f : Fld) : w.on f = decide (w.get f ≠ 0) := by
  rw [Bool.eq_iff_iff, decide_eq_true_eq, Work.on, bne_iff_ne]

/-- The registers of the loader that a rejected write changes. -/
def rejectRegs : List Fld :=
  [LOADER_REJECT_COUNT, LOADER_REJECT_VALID, LOADER_REJECT_PATH, LOADER_REJECT_ADDR_LO, LOADER_REJECT_ADDR_HI]

/-- A rejected write before its entry of the error log: counted, and recorded when no earlier one is. -/
def counted (w : Work σ) (path : Path) (addr : Nat) : Work σ :=
  if (w.inc LOADER_REJECT_COUNT).on LOADER_REJECT_VALID then w.inc LOADER_REJECT_COUNT else
    ((((w.inc LOADER_REJECT_COUNT).set LOADER_REJECT_VALID 1).set LOADER_REJECT_PATH path.code).set LOADER_REJECT_ADDR_LO addr).set
      LOADER_REJECT_ADDR_HI (addr / 2 ^ 32)

theorem reject_eq (w : Work σ) (path : Path) (addr : Nat) :
    w.reject path addr = ((counted w path addr).errlog 0x03 path (tileOfAddr addr) 0 addr).fire 503 := rfl

theorem counted_get (w : Work σ) (path : Path) (addr : Nat) (f : Fld) (hf : ∀ g ∈ rejectRegs, f.key ≠ g.key) :
    (counted w path addr).get f = w.get f := by
  simp only [rejectRegs, List.mem_cons, List.not_mem_nil, or_false, forall_eq_or_imp, forall_eq] at hf
  obtain ⟨h0, h1, h2, h3, h4⟩ := hf
  unfold counted
  split
  · rw [Work.get_inc_ne _ _ _ h0]
  · rw [Work.get_set_ne _ _ _ _ h4, Work.get_set_ne _ _ _ _ h3, Work.get_set_ne _ _ _ _ h2, Work.get_set_ne _ _ _ _ h1,
      Work.get_inc_ne _ _ _ h0]

theorem counted_count (w : Work σ) (path : Path) (addr : Nat) : (counted w path addr).get LOADER_REJECT_COUNT =
    min (2 ^ LOADER_REJECT_COUNT.width - 1) (w.get LOADER_REJECT_COUNT + 1) := by
  unfold counted
  split
  · exact get_inc w _
  · simp (disch := decide) only [Work.get_set_ne]
    exact get_inc w _

theorem counted_rest (w : Work σ) (path : Path) (addr : Nat) : (counted w path addr).dev = w.dev ∧
    (counted w path addr).tl = w.tl ∧ (counted w path addr).fresh = w.fresh ∧ (Quiet (counted w path addr) ↔ Quiet w) := by
  unfold counted
  split <;> exact ⟨rfl, rfl, rfl, Iff.rfl⟩

theorem errlog_tl (w : Work σ) (kind tile detail addr : Nat) (path : Path) : (w.errlog kind path tile detail addr).tl = w.tl := by
  unfold Work.errlog
  dsimp only
  split <;> simp only [Work.fire_tl, Work.set_tl, Work.inc_tl]

/-- A rejected write as a command makes it. -/
theorem reject_effect (w : Work σ) (path : Path) (addr : Nat) (hs : σ.wf = true) (hh : w.get DEV_ERRLOG_HEAD = σ.get DEV_ERRLOG_HEAD)
    (htile : tileOfAddr addr < 2 ^ 6) : ∃ w' : Work σ, w.reject path addr = w' ∧
      Logged σ w'.finish 3 path.code (tileOfAddr addr) addr ∧
      w'.get LOADER_REJECT_COUNT = min (2 ^ LOADER_REJECT_COUNT.width - 1) (w.get LOADER_REJECT_COUNT + 1) ∧
      (∀ f : Fld, (∀ g ∈ rejectRegs, f.key ≠ g.key) → (∀ g ∈ logFlds (σ.get DEV_ERRLOG_HEAD), f.key ≠ g.key) → w'.get f = w.get f) ∧
      (Quiet w' ↔ Quiet w) ∧
      w'.dev = { w.dev with held := w.dev.held ++ [⟨487, 0, false, w.now, w.ntLo⟩, ⟨503, 0, false, w.now, w.ntLo⟩] } ∧
      w'.fresh = w.fresh := by
  obtain ⟨hdev, htl, hfresh, hquiet⟩ := counted_rest w path addr
  have head : (counted w path addr).get DEV_ERRLOG_HEAD = w.get DEV_ERRLOG_HEAD := counted_get w path addr _ (by decide)
  have now : (counted w path addr).now = w.now := congrArg Tl.count htl
  have nt : (counted w path addr).ntLo = w.ntLo :=
    congrArg (fun n => bits n 32 32) (counted_get w path addr NT_NOW (by decide))
  rw [reject_eq]
  obtain ⟨v, hv, hlog, -, hq, hd, hf⟩ := errlog_effect (counted w path addr) 0x03 (tileOfAddr addr) 0 addr path hs (head.trans hh)
    (by decide) htile
  have get : ∀ f : Fld, (∀ g ∈ logFlds (σ.get DEV_ERRLOG_HEAD), f.key ≠ g.key) → v.get f = (counted w path addr).get f := fun f hf => by
    rw [← hv]
    exact get_errlog _ _ _ _ _ _ f (by rw [head, hh]; exact hf)
  have vtl : v.tl = w.tl := by rw [← hv, errlog_tl, htl]
  have vnt : v.ntLo = w.ntLo :=
    (congrArg (fun n => bits n 32 32) (get NT_NOW (key_ne_logFlds _ _ (by decide) (by decide)))).trans nt
  rw [hv]
  refine ⟨_, rfl, logged_of_get hs hlog (fun f => Work.get_fire _ _ f), ?_, fun f h h' => ?_, hq.trans hquiet, ?_, hf.trans hfresh⟩
  · rw [Work.get_fire, get _ (key_ne_logFlds _ _ (by decide) (by decide)), counted_count]
  · rw [Work.get_fire, get f h', counted_get w path addr f h]
  · rw [fire_dev, hd, hdev, now, nt, vnt, show v.now = w.now from congrArg Tl.count vtl]
    simp only [List.append_assoc, List.cons_append, List.nil_append]

end Sys2Proof.RejectFacts
end

section
/-! PROOFS. Flash operations and fuse programming (R326, R331, R438). -/

namespace Sys2Proof.FlashProofs

open Sys2Proof.Machine Sys2Proof.Effects Sys2Proof.RejectFacts

variable {σ : State}

/-! ## Bytes of flash -/

theorem fl8_flSet (w : Work σ) (a : Nat) (b : Byte) (x : Nat) : (w.flSet a b).fl8 x = if x = a then b else w.fl8 x := by
  simp only [Work.fl8, Work.flSet, assoc]
  by_cases h : x = a
  · rw [if_pos h, if_pos h]
  · rw [if_neg h, if_neg h]
    rfl

theorem fl8_start (s : State) (x : Nat) : (Work.start s).fl8 x = s.flashAt x := (quiet_start s).fl8 x

/-- The work of a command that has written flash alone finishes with every register, byte and the rest as it left them. -/
theorem fl8_set (w : Work σ) (f : Fld) (v x : Nat) : (w.set f v).fl8 x = w.fl8 x := rfl

theorem flBytes_congr {w : Work σ} {w' : Work σ} (h : ∀ a, w.fl8 a = w'.fl8 a) (a n : Nat) : w.flBytes a n = w'.flBytes a n := by
  induction n generalizing a with
  | zero => rfl
  | succ n ih => rw [Work.flBytes, Work.flBytes, h, ih]

/-! ## The start of an operation -/

/-- An operation of the flash as GO starts it. -/
def flashStarted (s : State) (op : Nat) : Work s :=
  (((Work.start s).set LOADER_FLASH_CTRL_OP op).set LOADER_FLASH_CTRL_BUSY 1).updLd (fun l => { l with
    flashOp := some (op, s.get LOADER_FLASH_ADDR), flashOps := l.flashOps + 1 })

theorem goBits (op : Nat) (h : op ∈ [1, 2, 3]) : bit (1 + 4 * op) 0 = true ∧ bits (1 + 4 * op) 2 2 = op ∧ op ≠ 0 ∧ op < 4 := by
  simp only [List.mem_cons, List.not_mem_nil, or_false] at h
  rcases h with rfl | rfl | rfl <;> decide

theorem flashCtrlWrite_free (s : State) (path : Path) (op : Nat) (hop : op ∈ [1, 2, 3]) (hst : s.get THERM_STORM_TRIPPED = 0)
    (hb : s.get LOADER_FLASH_CTRL_BUSY = 0) (hl : flashLoading s.view = false) :
    flashCtrlWrite (Work.start s) path (1 + 4 * op) = flashStarted s op := by
  obtain ⟨h0, h2, hne, -⟩ := goBits op hop
  have storm : ((Work.start s).set LOADER_FLASH_CTRL_OP op).on THERM_STORM_TRIPPED = false := by
    simp (disch := decide) [Work.on, Work.get_set_ne, hst]
  have addr : ((Work.start s).set LOADER_FLASH_CTRL_OP op).get LOADER_FLASH_ADDR = s.get LOADER_FLASH_ADDR :=
    Work.get_set_ne _ _ _ _ (by decide)
  have busy : (Work.start s).on LOADER_FLASH_CTRL_BUSY = false := by simp [Work.on, hb]
  have reads : flashLoading (Work.start s) = false := hl
  rw [flashCtrlWrite, if_neg (by rw [busy, reads]; simp)]
  simp only [h0, h2, hne, storm, addr, Bool.false_eq_true, if_true, if_false]
  rfl

theorem flashCtrlWrite_busy (s : State) (path : Path) (op : Nat) (hop : op ∈ [1, 2, 3]) (hst : s.get THERM_STORM_TRIPPED = 0)
    (hb : s.get LOADER_FLASH_CTRL_BUSY ≠ 0 ∨ flashLoading s.view = true) :
    flashCtrlWrite (Work.start s) path (1 + 4 * op) = (Work.start s).reject path LOADER_FLASH_CTRL_GO.addr := by
  obtain ⟨h0, -⟩ := goBits op hop
  have storm : (Work.start s).on THERM_STORM_TRIPPED = false := by simp [Work.on, hst]
  have busy : (Work.start s).on LOADER_FLASH_CTRL_BUSY = true ∨ flashLoading (Work.start s) = true :=
    hb.imp (fun h => by simp [Work.on, h]) id
  rw [flashCtrlWrite, if_pos ⟨h0, by simp [storm], busy⟩]

theorem exec_flashGo (s : State) (via : Via) (c : Instr × Nat)
    (hc : c ∈ [(Instr.flashErase via, 1), (Instr.flashProgram via, 2), (Instr.flashRead via, 3)]) :
    c.2 ∈ [1, 2, 3] ∧ exec c.1 s = .next (flashCtrlWrite (Work.start s) (viaPath via) (1 + 4 * c.2)).finish := by
  simp only [List.mem_cons, List.not_mem_nil, or_false] at hc
  rcases hc with rfl | rfl | rfl
  · exact ⟨by simp, rfl⟩
  · exact ⟨by simp, rfl⟩
  · exact ⟨by simp, rfl⟩

/-- A rejected write at a state, of a register of the device. -/
theorem answers_reject (s : State) (hs : s.wf = true) (c : Instr) (path : Path) (addr : Nat) (htile : tileOfAddr addr = 63)
    (hc : exec c s = .next ((Work.start s).reject path addr).finish) : Answers c s (fun t =>
      Counted s t LOADER_REJECT_COUNT ∧ Logged s t 3 path.code 63 addr ∧ t.dev.loader = s.dev.loader ∧ t.fuse = s.fuse ∧
      ∀ f : Fld, (∀ g ∈ rejectRegs, f.key ≠ g.key) → (∀ g ∈ logFlds (s.get DEV_ERRLOG_HEAD), f.key ≠ g.key) → t.get f = s.get f) := by
  obtain ⟨w, hw, hlog, hcount, hget, -, hdev, -⟩ := reject_effect (Work.start s) path addr hs (Work.get_start s _) (by omega)
  rw [hw] at hc
  rw [htile] at hlog
  refine ⟨_, hc, ?_, hlog, ?_, rfl, fun f h h' => ?_⟩
  · rw [Counted, Work.finish_get _ _ hs, hcount, Work.get_start]
  · rw [Work.finish_dev, hdev]
    rfl
  · rw [Work.finish_get _ _ hs, hget f h h', Work.get_start]

theorem flashGo_starts (s : State) (hs : s.wf = true) (via : Via) (c : Instr) (op : Nat)
    (hc : (c, op) ∈ [(Instr.flashErase via, 1), (Instr.flashProgram via, 2), (Instr.flashRead via, 3)])
    (hst : s.get THERM_STORM_TRIPPED = 0) (hb : s.get LOADER_FLASH_CTRL_BUSY = 0) (hl : flashLoading s.view = false) :
    Answers c s (fun t => t.get LOADER_FLASH_CTRL_BUSY = 1 ∧ t.get LOADER_FLASH_CTRL_OP = op ∧
      Leaves s t [LOADER_FLASH_CTRL_BUSY, LOADER_FLASH_CTRL_OP] { s.view.dev with loader := { s.dev.loader with
        flashOp := some (op, s.get LOADER_FLASH_ADDR), flashOps := s.dev.loader.flashOps + 1 } }) := by
  obtain ⟨hop, hexec⟩ := exec_flashGo s via (c, op) hc
  obtain ⟨-, -, -, small⟩ := goBits op hop
  rw [flashCtrlWrite_free s _ op hop hst hb hl] at hexec
  refine ⟨_, hexec, ?_, ?_, leaves_finish hs (by simp [flashStarted]) (by simp [flashStarted]) rfl rfl⟩ <;>
    rw [Work.finish_get _ _ hs, flashStarted, Work.get_updLd]
  · rw [Work.get_set_self]
    rfl
  · rw [Work.get_set_ne _ _ _ _ (by decide), Work.get_set_self]
    exact Nat.mod_eq_of_lt small

theorem flashGo_rejected (s : State) (hs : s.wf = true) (via : Via) (c : Instr) (op : Nat)
    (hc : (c, op) ∈ [(Instr.flashErase via, 1), (Instr.flashProgram via, 2), (Instr.flashRead via, 3)])
    (hst : s.get THERM_STORM_TRIPPED = 0) (hb : s.get LOADER_FLASH_CTRL_BUSY ≠ 0 ∨ flashLoading s.view = true) :
    Answers c s (fun t => Counted s t LOADER_REJECT_COUNT ∧ Logged s t 3 (viaPath via).code 63 LOADER_FLASH_CTRL_GO.addr ∧
      t.dev.loader = s.dev.loader ∧ t.get LOADER_FLASH_CTRL_OP = s.get LOADER_FLASH_CTRL_OP) := by
  obtain ⟨hop, hexec⟩ := exec_flashGo s via (c, op) hc
  rw [flashCtrlWrite_busy s _ op hop hst hb] at hexec
  obtain ⟨t, ht, hcount, hlog, hld, -, hget⟩ := answers_reject s hs c (viaPath via) LOADER_FLASH_CTRL_GO.addr (by decide) hexec
  exact ⟨t, ht, hcount, hlog, hld, hget _ (by decide) (key_ne_logFlds _ _ (by decide) (by decide))⟩

/-! ## The end of an operation -/

/-- The operation is over, before its bytes are written. -/
def flashFreed (s : State) : Work s :=
  ((Work.start s).set LOADER_FLASH_CTRL_BUSY 0).updLd (fun l => { l with flashOp := none })

theorem flashFreed_busy (s : State) : (flashFreed s).get LOADER_FLASH_CTRL_BUSY = 0 := by
  rw [flashFreed, Work.get_updLd, Work.get_set_self]
  rfl

theorem flashFreed_keeps (s : State) : Keeps (flashFreed s) [LOADER_FLASH_CTRL_BUSY] := by simp [flashFreed]

theorem flashFreed_fl8 (s : State) (a : Nat) : (flashFreed s).fl8 a = s.flashAt a := fl8_start s a

theorem flashDone_op (s : State) (op a : Nat) (h : s.dev.loader.flashOp = some (op, a)) : flashDone (Work.start s) =
    if op = 1 then (flashFreed s).flErase [(a / 65536 * 65536, a / 65536 * 65536 + 65536)]
    else if op = 2 then
      (flashFreed s).each (List.range 256) (fun w i => programByte w (a / 256 * 256 + i) ((flashBuf w).getD i 0))
    else (flashFreed s).each (List.range 64) (fun w n => w.set (LOADER_FLASH_BUF n) (ofLe (w.flBytes (a / 256 * 256 + 4 * n) 4))) := by
  have op_ : (Work.start s).ld.flashOp = some (op, a) := h
  rw [flashDone, op_]
  rfl

/-- A work that has changed nothing but flash since another. -/
def FlashOnly (w w' : Work σ) : Prop :=
  (∀ f, w'.get f = w.get f) ∧ w'.dev = w.dev ∧ (∀ b, w'.rd8 b = w.rd8 b) ∧ w'.tlc = w.tlc ∧ w'.fresh = w.fresh

theorem FlashOnly.refl (w : Work σ) : FlashOnly w w := ⟨fun _ => rfl, rfl, fun _ => rfl, rfl, rfl⟩

theorem FlashOnly.trans {w w' w'' : Work σ} (h : FlashOnly w w') (h' : FlashOnly w' w'') : FlashOnly w w'' := by
  obtain ⟨hg, hd, hr, ht, hf⟩ := h
  obtain ⟨hg', hd', hr', ht', hf'⟩ := h'
  exact ⟨fun f => (hg' f).trans (hg f), hd'.trans hd, fun b => (hr' b).trans (hr b), ht'.trans ht, hf'.trans hf⟩

theorem flSet_only (w : Work σ) (a : Nat) (b : Byte) : FlashOnly w (w.flSet a b) :=
  ⟨Work.get_flSet w a b, rfl, fun _ => rfl, rfl, rfl⟩

theorem programByte_only (w : Work σ) (a : Nat) (b : Byte) : FlashOnly w (programByte w a b) := by
  unfold programByte
  split <;> exact flSet_only w a _

theorem programByte_ne (w : Work σ) (a : Nat) (b : Byte) (x : Nat) (hx : x ≠ a) : (programByte w a b).fl8 x = w.fl8 x := by
  unfold programByte
  split <;> rw [fl8_flSet, if_neg hx]

theorem programByte_erased (w : Work σ) (a : Nat) (b : Byte) (h : w.fl8 a = 0xFF) : (programByte w a b).fl8 a = b := by
  rw [programByte, if_pos h, fl8_flSet, if_pos rfl]

theorem flashBuf_congr {w : Work σ} {w' : Work σ} (h : ∀ f, w'.get f = w.get f) : flashBuf w' = flashBuf w := by
  simp only [flashBuf, h]

/-- The bytes of a page programmed one by one. -/
theorem program_page (w : Work σ) (page n : Nat) :
    ∃ w', w.each (List.range n) (fun w i => programByte w (page + i) ((flashBuf w).getD i 0)) = w' ∧ FlashOnly w w' ∧ (∀ b, ¬(page ≤ b ∧ b < page + n) → w'.fl8 b = w.fl8 b) ∧
      ∀ i < n, w.fl8 (page + i) = 0xFF → w'.fl8 (page + i) = (flashBuf w).getD i 0 := by
  induction n with
  | zero => exact ⟨w, rfl, .refl w, fun _ _ => rfl, fun i hi => absurd hi (by omega)⟩
  | succ n ih =>
    obtain ⟨v, hv, honly, hout, hin⟩ := ih
    have last : ∀ f : Work σ → Nat → Work σ, w.each (List.range (n + 1)) f = f (w.each (List.range n) f) n := fun f => by
      rw [Work.each, List.range_succ, List.foldl_append]
      rfl
    rw [last, hv]
    have buf : flashBuf v = flashBuf w := flashBuf_congr honly.1
    refine ⟨_, rfl, honly.trans (programByte_only v _ _), fun b hb => ?_, fun i hi her => ?_⟩
    · rw [programByte_ne _ _ _ _ (by omega), hout b (by omega)]
    · by_cases h : i = n
      · subst h
        rw [programByte_erased _ _ _ ((hout _ (by omega)).trans her), buf]
      · rw [programByte_ne _ _ _ _ (by omega), hin i (by omega) her]

/-- The page buffer filled word by word. -/
theorem fill_buffer (w : Work σ) (page n : Nat) (hn : n ≤ 64) :
    ∃ w', w.each (List.range n) (fun w i => w.set (LOADER_FLASH_BUF i) (ofLe (w.flBytes (page + 4 * i) 4))) = w' ∧ (∀ f : Fld, (∀ i < n, f.key ≠ (LOADER_FLASH_BUF i).key) → w'.get f = w.get f) ∧
      (∀ i < n, w'.get (LOADER_FLASH_BUF i) = ofLe (w.flBytes (page + 4 * i) 4)) ∧ w'.dev = w.dev ∧ (∀ b, w'.fl8 b = w.fl8 b) ∧
      (Quiet w → Quiet w') := by
  induction n with
  | zero => exact ⟨w, rfl, fun _ _ => rfl, fun i hi => absurd hi (by omega), rfl, fun _ => rfl, id⟩
  | succ n ih =>
    obtain ⟨v, hv, hget, hbuf, hdev, hfl, hq⟩ := ih (by omega)
    have last : ∀ f : Work σ → Nat → Work σ, w.each (List.range (n + 1)) f = f (w.each (List.range n) f) n := fun f => by
      rw [Work.each, List.range_succ, List.foldl_append]
      rfl
    rw [last, hv]
    have word : ofLe (w.flBytes (page + 4 * n) 4) < 2 ^ 32 := by
      simp only [Work.flBytes, ofLe]
      omega
    refine ⟨_, rfl, fun f hf => ?_, fun i hi => ?_, hdev, hfl, hq⟩
    · rw [Work.get_set_ne _ _ _ _ (hf n (by omega)), hget f (fun i hi => hf i (by omega))]
    · by_cases h : i = n
      · subst h
        rw [Work.get_set_self, flBytes_congr hfl]
        exact Nat.mod_eq_of_lt word
      · rw [Work.get_set_ne _ _ _ _ (by simp only [Fld.key, LOADER_FLASH_BUF]; omega), hbuf i (by omega)]

/-- The end of an operation leaves the fuses. -/
theorem exec_fuse {s t : State} (h : exec .flashOpDone s = .next t) : t.fuse = s.fuse := by
  rw [exec, execFlashOpDone, run_eq] at h
  injection h with h
  rw [← h]
  rfl

theorem fl8_erased (s : State) (lo hi a : Nat) :
    ((flashFreed s).flErase [(lo, hi)]).fl8 a = if lo ≤ a ∧ a < hi then 0xFF else s.flashAt a := by
  have bare : ((flashFreed s).flErase [(lo, hi)]).fl8 a = if inRanges [(lo, hi)] a then 0xFF else s.flashAt a := rfl
  rw [bare]
  simp [inRanges]

/-- A work that changes flash alone finishes with the rest as it was. -/
theorem FlashOnly.finish {w w' : Work σ} (h : FlashOnly w w') (hs : σ.wf = true) (hq : Quiet w) {fs : List Fld} (hk : Keeps w fs) :
    RegsBut σ w'.finish fs ∧ (∀ b, w'.finish.byteAt b = σ.byteAt b) ∧ w'.finish.dev = w.dev := by
  obtain ⟨hg, hd, hr, -, -⟩ := h
  exact ⟨fun f hf => (Work.finish_get w' f hs).trans ((hg f).trans (hk f hf)),
    fun b => (Work.finish_byteAt w' b hs).trans ((hr b).trans (hq.rd8 b)), (Work.finish_dev w').trans hd⟩

theorem flashErased (s : State) (hs : s.wf = true) (a : Nat) (h : s.dev.loader.flashOp = some (1, a)) :
    ∃ t, exec .flashOpDone s = .next t ∧ (t.get LOADER_FLASH_CTRL_BUSY = 0 ∧ RegsBut s t [LOADER_FLASH_CTRL_BUSY] ∧
      (∀ b, t.byteAt b = s.byteAt b) ∧ t.dev = (flashFreed s).dev) ∧
      (∀ b, t.flashAt b = if a / 65536 * 65536 ≤ b ∧ b < a / 65536 * 65536 + 65536 then 0xFF else s.flashAt b) := by
  have only : FlashOnly (flashFreed s) ((flashFreed s).flErase [(a / 65536 * 65536, a / 65536 * 65536 + 65536)]) :=
    ⟨fun _ => rfl, rfl, fun _ => rfl, rfl, rfl⟩
  obtain ⟨hregs, hbytes, hdev⟩ := only.finish hs (by simp [flashFreed]) (flashFreed_keeps s)
  refine ⟨_, by rw [exec, execFlashOpDone, run_eq, flashDone_op s 1 a h, if_pos rfl], ⟨?_, hregs, hbytes, hdev⟩, fun b => ?_⟩
  · rw [Work.finish_get _ _ hs]
    exact flashFreed_busy s
  · rw [Work.finish_flashAt _ _ hs, fl8_erased]

theorem flashProgrammed (s : State) (hs : s.wf = true) (a : Nat) (h : s.dev.loader.flashOp = some (2, a)) :
    ∃ t, exec .flashOpDone s = .next t ∧ (t.get LOADER_FLASH_CTRL_BUSY = 0 ∧ RegsBut s t [LOADER_FLASH_CTRL_BUSY] ∧
      (∀ b, t.byteAt b = s.byteAt b) ∧ t.dev = (flashFreed s).dev) ∧
      (∀ b, ¬(a / 256 * 256 ≤ b ∧ b < a / 256 * 256 + 256) → t.flashAt b = s.flashAt b) ∧
      ∀ i < 256, s.flashAt (a / 256 * 256 + i) = 0xFF → t.flashAt (a / 256 * 256 + i) = (flashBuf s.view).getD i 0 := by
  obtain ⟨w, hw, only, hout, hin⟩ := program_page (flashFreed s) (a / 256 * 256) 256
  obtain ⟨hregs, hbytes, hdev⟩ := only.finish hs (by simp [flashFreed]) (flashFreed_keeps s)
  have buf : flashBuf (flashFreed s) = flashBuf s.view := by
    simp only [flashBuf, flashFreed, Work.get_updLd]
    refine congrArg (List.flatMap · _) (funext fun n => congrArg (leBytes 4) (Work.get_set_ne _ _ _ _ ?_))
    simp only [Fld.key, LOADER_FLASH_BUF, LOADER_FLASH_CTRL_BUSY]
    omega
  refine ⟨_, by rw [exec, execFlashOpDone, run_eq, flashDone_op s 2 a h, if_neg (by decide), if_pos rfl, hw],
    ⟨?_, hregs, hbytes, hdev⟩, fun b hb => ?_, fun i hi her => ?_⟩
  · rw [Work.finish_get _ _ hs, only.1]
    exact flashFreed_busy s
  · rw [Work.finish_flashAt _ _ hs, hout b hb, flashFreed_fl8]
  · rw [Work.finish_flashAt _ _ hs, hin i hi ((flashFreed_fl8 s _).trans her), buf]

theorem flashReadOut (s : State) (hs : s.wf = true) (op a : Nat) (h : s.dev.loader.flashOp = some (op, a)) (h1 : op ≠ 1) (h2 : op ≠ 2) :
    ∃ t, exec .flashOpDone s = .next t ∧ t.get LOADER_FLASH_CTRL_BUSY = 0 ∧ t.dev = (flashFreed s).dev ∧
      (∀ n < 64, t.get (LOADER_FLASH_BUF n) = ofLe (s.view.flBytes (a / 256 * 256 + 4 * n) 4)) ∧
      (∀ b, t.flashAt b = s.flashAt b) ∧ RegsBut s t (LOADER_FLASH_CTRL_BUSY :: (List.range 64).map LOADER_FLASH_BUF) ∧
      ∀ b, t.byteAt b = s.byteAt b := by
  obtain ⟨w, hw, hget, hbuf, hdev, hfl, hq⟩ := fill_buffer (flashFreed s) (a / 256 * 256) 64 le_rfl
  have quiet : Quiet w := hq (by simp [flashFreed])
  refine ⟨_, by rw [exec, execFlashOpDone, run_eq, flashDone_op s op a h, if_neg h1, if_neg h2, hw], ?_,
    (Work.finish_dev w).trans hdev, fun n hn => ?_, fun b => ?_, fun f hf => ?_, fun b => ?_⟩
  · rw [Work.finish_get _ _ hs, hget _ (fun i hi => by simp only [Fld.key, LOADER_FLASH_BUF, LOADER_FLASH_CTRL_BUSY]; omega)]
    exact flashFreed_busy s
  · rw [Work.finish_get _ _ hs, hbuf n hn, flBytes_congr (fun b => (flashFreed_fl8 s b).trans (fl8_start s b).symm)]
  · rw [Work.finish_flashAt _ _ hs, hfl, flashFreed_fl8]
  · rw [Work.finish_get _ _ hs, hget f (fun i hi => hf _ (List.mem_cons_of_mem _ (List.mem_map_of_mem (List.mem_range.2 hi))))]
    exact flashFreed_keeps s f (fun g hg => hf g (List.mem_cons.2 (.inl (List.mem_singleton.1 hg))))
  · rw [Work.finish_byteAt _ _ hs, quiet.rd8]

theorem flashOperations : Clause.FlashOperations := by
  intro s hs
  refine ⟨fun via c op hc hst => ⟨fun hb hl => flashGo_starts s hs via c op hc hst hb hl, flashGo_rejected s hs via c op hc hst⟩,
    fun op a h => ?_⟩
  by_cases h1 : op = 1
  · subst h1
    obtain ⟨t, ht, ⟨hbusy, hregs, hbytes, hdev⟩, hfl⟩ := flashErased s hs a h
    exact ⟨t, ht, hbusy, hdev, fun _ => ⟨hfl, hregs⟩, fun h => absurd h (by decide), fun h => absurd h (by decide), hbytes,
      exec_fuse ht⟩
  by_cases h2 : op = 2
  · subst h2
    obtain ⟨t, ht, ⟨hbusy, hregs, hbytes, hdev⟩, hout, hin⟩ := flashProgrammed s hs a h
    exact ⟨t, ht, hbusy, hdev, fun h => absurd h (by decide), fun _ => ⟨hout, hin, hregs⟩, fun h => absurd h (by decide), hbytes,
      exec_fuse ht⟩
  · obtain ⟨t, ht, hbusy, hdev, hbuf, hfl, hregs, hbytes⟩ := flashReadOut s hs op a h h1 h2
    exact ⟨t, ht, hbusy, hdev, fun h => absurd h h1, fun h => absurd h h2, fun _ => ⟨hbuf, hfl, hregs⟩, hbytes, exec_fuse ht⟩

/-! ## Fuses -/

/-- Programming of the hash or of SIGN_REQUIRED, as it starts. -/
def fuseStarted (s : State) (hash sign : Bool) : Work s :=
  (((Work.start s).set LOADER_FUSE_PROG_BUSY 1).setB FUSE_HASH hash).setB FUSE_SIGN sign

/-- What a write of PROG_HASH (1) or PROG_SIGN (2) over the JTAG port leaves while no tile is released and nothing is being
programmed. -/
theorem fuseProgWrite_jtag (s : State) (v : Nat) (hrel : anyReleased s.view = false) (hb : s.get LOADER_FUSE_PROG_BUSY = 0) :
    fuseProgWrite (Work.start s) .jtag v =
      if (bit v 0 && !s.fuse.hashSet) || (bit v 1 && s.fuse.hashSet) then
        fuseStarted s (bit v 0 && !s.fuse.hashSet) (bit v 1 && s.fuse.hashSet)
      else Work.start s := by
  have rel : anyReleased (Work.start s) = false := hrel
  have busy : (Work.start s).on LOADER_FUSE_PROG_BUSY = false := by simp [Work.on, hb]
  rw [fuseProgWrite, if_neg (by simp [rel]), if_neg (by simp [busy])]
  rfl

theorem b2n_mod_two (b : Bool) : b2n b % 2 ^ 1 = b2n b := by cases b <;> rfl

theorem fuseStarted_answers (s : State) (hs : s.wf = true) (c : Instr) (hash sign : Bool)
    (hc : exec c s = .next (fuseStarted s hash sign).finish) : Answers c s (fun t =>
      t.get LOADER_FUSE_PROG_BUSY = 1 ∧ t.get FUSE_HASH = b2n hash ∧ t.get FUSE_SIGN = b2n sign ∧
      Plain s t [LOADER_FUSE_PROG_BUSY, FUSE_HASH, FUSE_SIGN]) := by
  refine ⟨_, hc, ?_, ?_, ?_, plain_finish hs (by simp [fuseStarted]) (by simp [fuseStarted]) rfl rfl⟩
  all_goals
    rw [Work.finish_get _ _ hs, fuseStarted]
    simp (disch := decide) only [Work.setB, Work.get_set_self, Work.get_set_ne]
  · rfl
  · exact b2n_mod_two hash
  · exact b2n_mod_two sign

/-- What a command of the JTAG port starts, when no tile is released and nothing is being programmed. -/
theorem exec_progHash (s : State) (hrel : anyReleased s.view = false) (hb : s.get LOADER_FUSE_PROG_BUSY = 0) :
    exec (.progHash .jtag) s = .next (if s.fuse.hashSet then Work.start s else fuseStarted s true false).finish := by
  rw [exec, execProgHash, run_eq, viaPath, fuseProgWrite_jtag s 1 hrel hb]
  cases s.fuse.hashSet <;> rfl

theorem exec_progSign (s : State) (hrel : anyReleased s.view = false) (hb : s.get LOADER_FUSE_PROG_BUSY = 0) :
    exec (.progSign .jtag) s = .next (if s.fuse.hashSet then fuseStarted s false true else Work.start s).finish := by
  rw [exec, execProgSign, run_eq, viaPath, fuseProgWrite_jtag s 2 hrel hb]
  cases s.fuse.hashSet <;> rfl

theorem fuse_starts (s : State) (hs : s.wf = true) (c : Instr)
    (hc : (c = Instr.progHash .jtag ∧ s.fuse.hashSet = false) ∨ (c = Instr.progSign .jtag ∧ s.fuse.hashSet = true))
    (hrel : anyReleased s.view = false) (hb : s.get LOADER_FUSE_PROG_BUSY = 0) : Answers c s (fun t =>
      t.get LOADER_FUSE_PROG_BUSY = 1 ∧ t.get FUSE_HASH = b2n (decide (c = Instr.progHash .jtag)) ∧
      t.get FUSE_SIGN = b2n (decide (c = Instr.progSign .jtag)) ∧ Plain s t [LOADER_FUSE_PROG_BUSY, FUSE_HASH, FUSE_SIGN]) := by
  rcases hc with ⟨rfl, hset⟩ | ⟨rfl, hset⟩
  · exact fuseStarted_answers s hs _ true false (by rw [exec_progHash s hrel hb, hset]; rfl)
  · exact fuseStarted_answers s hs _ false true (by rw [exec_progSign s hrel hb, hset]; rfl)

theorem fuse_not_admitted (s : State) (hs : s.wf = true) (c : Instr)
    (hc : (c = Instr.progHash .jtag ∧ s.fuse.hashSet = true) ∨ (c = Instr.progSign .jtag ∧ s.fuse.hashSet = false))
    (hrel : anyReleased s.view = false) (hb : s.get LOADER_FUSE_PROG_BUSY = 0) :
    Answers c s (fun t => Leaves s t [] s.view.dev) := by
  rcases hc with ⟨rfl, hset⟩ | ⟨rfl, hset⟩
  · exact ⟨_, by rw [exec_progHash s hrel hb, if_pos hset], leaves_start s hs⟩
  · exact ⟨_, by rw [exec_progSign s hrel hb, hset]; rfl, leaves_start s hs⟩

theorem fuse_rejected (s : State) (hs : s.wf = true) (via : Via) (c : Instr) (hc : c = Instr.progHash via ∨ c = Instr.progSign via)
    (h : via ≠ .jtag ∨ anyReleased s.view = true) : Answers c s (fun t => Counted s t LOADER_REJECT_COUNT ∧
      Logged s t 3 (viaPath via).code 63 LOADER_FUSE_PROG_PROG_HASH.addr ∧ t.fuse = s.fuse ∧
      t.get LOADER_FUSE_PROG_BUSY = s.get LOADER_FUSE_PROG_BUSY) := by
  have barred : viaPath via ≠ .jtag ∨ anyReleased (Work.start s) = true := h.imp (fun hv => by cases via <;> simp_all [viaPath]) id
  have reject : ∀ v, fuseProgWrite (Work.start s) (viaPath via) v =
      (Work.start s).reject (viaPath via) LOADER_FUSE_PROG_PROG_HASH.addr := fun v => by rw [fuseProgWrite, if_pos barred]
  have hexec : exec c s = .next ((Work.start s).reject (viaPath via) LOADER_FUSE_PROG_PROG_HASH.addr).finish := by
    rcases hc with rfl | rfl
    · rw [exec, execProgHash, run_eq, reject]
    · rw [exec, execProgSign, run_eq, reject]
  obtain ⟨t, ht, hcount, hlog, -, hfuse, hget⟩ := answers_reject s hs c _ _ (by decide) hexec
  exact ⟨t, ht, hcount, hlog, hfuse, hget _ (by decide) (key_ne_logFlds _ _ (by decide) (by decide))⟩

theorem fuse_completes (s : State) (hs : s.wf = true) (hb : s.get LOADER_FUSE_PROG_BUSY ≠ 0) : Answers .fuseProgrammingDone s (fun t =>
      t.get LOADER_FUSE_PROG_BUSY = 0 ∧ t.fuse.hashSet = (s.fuse.hashSet || decide (s.get FUSE_HASH ≠ 0)) ∧
      t.fuse.signRequired = (s.fuse.signRequired || (decide (s.get FUSE_SIGN ≠ 0) && s.fuse.hashSet)) ∧
      (s.get FUSE_HASH ≠ 0 → s.fuse.hashSet = false → t.fuse.keyHash = fuseData s.view) ∧ t.fuse.mac = s.fuse.mac ∧
      FusesGrow s.fuse t.fuse ∧ RegsBut s t [LOADER_FUSE_PROG_BUSY, FUSE_HASH, FUSE_SIGN] ∧ StoresKept s t ∧ t.tl = s.tl ∧
      t.pending = s.pending ∧ t.dev = s.view.dev) := by
  have busy : (Work.start s).on LOADER_FUSE_PROG_BUSY = true := by simp [Work.on, hb]
  let w := (((Work.start s).set LOADER_FUSE_PROG_BUSY 0).set FUSE_HASH 0).set FUSE_SIGN 0
  have burnt : exec .fuseProgrammingDone s = .next { w.finish with fuse := { s.fuse with
      keyHash := if (Work.start s).on FUSE_HASH && !s.fuse.hashSet then fuseData (Work.start s) else s.fuse.keyHash
      hashSet := s.fuse.hashSet || (Work.start s).on FUSE_HASH
      signRequired := s.fuse.signRequired || ((Work.start s).on FUSE_SIGN && s.fuse.hashSet) } } := by
    rw [exec, execFuseProgrammingDone, runFuse, fuseBurn, if_pos busy, if_pos busy]
  have hashSet : (s.fuse.hashSet || (Work.start s).on FUSE_HASH) = (s.fuse.hashSet || decide (s.get FUSE_HASH ≠ 0)) := by
    rw [on_eq, Work.get_start]
  have signRequired : (s.fuse.signRequired || ((Work.start s).on FUSE_SIGN && s.fuse.hashSet)) =
      (s.fuse.signRequired || (decide (s.get FUSE_SIGN ≠ 0) && s.fuse.hashSet)) := by
    rw [on_eq, Work.get_start]
  obtain ⟨hregs, hstores, htl, -, hpend⟩ := frame_finish (w := w) (fs := [LOADER_FUSE_PROG_BUSY, FUSE_HASH, FUSE_SIGN]) hs
    (by simp [w]) (by simp [w])
  refine ⟨_, burnt, ?_, hashSet, signRequired, fun h h' => ?_, rfl, ⟨fun h => ⟨?_, ?_⟩, fun h => ?_⟩, hregs, hstores, htl, hpend, rfl⟩
  · refine (Work.finish_get w _ hs).trans ?_
    simp (disch := decide) only [w, Work.get_set_self, Work.get_set_ne]
    rfl
  · show (if (Work.start s).on FUSE_HASH && !s.fuse.hashSet then _ else _) = _
    rw [if_pos (by simp [Work.on, h, h'])]
  · show (s.fuse.hashSet || _) = true
    rw [h, Bool.true_or]
  · show (if (Work.start s).on FUSE_HASH && !s.fuse.hashSet then _ else _) = _
    rw [if_neg (by simp [h])]
  · show (s.fuse.signRequired || _) = true
    rw [h, Bool.true_or]

theorem fuseProgramming : Clause.FuseProgramming := fun s hs =>
  ⟨fun c hc hrel hb => fuse_starts s hs c hc hrel hb, fun c hc hrel hb => fuse_not_admitted s hs c hc hrel hb,
    fun via c hc h => fuse_rejected s hs via c hc h, fuse_completes s hs⟩

/-- Settles O43: the flash's operations, and the fuses' programming. -/
theorem flashAndFuses : Obligations.FlashAndFuses := ⟨flashOperations, fuseProgramming⟩

end Sys2Proof.FlashProofs
end

section
/-! PROOFS. Rings that reach past their channel's window. A register of a state may hold more than its field can, and the premise
RingInside bounds a ring by the capacity that such a value of DDR.CFG.DENSITY gives. With DENSITY = 4 the capacity of channel 0 exceeds its window,
the ring lies in the window of channel 1, past what is installed there, and R29 drops its entries: the statements that an entry is stored
in the ring fail at the states below. -/

namespace Sys2Proof.Outsized

open Sys2Proof.Machine

-- A kernel evaluation waits for every declaration before it: one at a time keeps the threads that wait, and their stacks, few.
set_option Elab.async false

/-- The state of reset but for some registers, which need not fit their fields, the typed state and bytes of memory. -/
def holding (l : List (Fld × Nat)) (d : Dev → Dev := id) (m : List (Nat × Byte) := []) : State :=
  { State.reset with
    regs := commit 0 [] (l.map (fun x => (x.1.key, x.2 ^^^ x.1.reset)))
    mem := commit 0 [] m
    dev := d State.reset.dev }

/-- Bytes from an address on. -/
def bytesAt (a : Nat) (bs : List Byte) : List (Nat × Byte) := bs.zipIdx.map (fun b => (a + b.2, b.1))

/-- The registers of queue q of tile u: enabled, one entry long, in channel 0, from 2^37 + 2^34 on. -/
def farRing (u q : Nat) : List (Fld × Nat) :=
  [(QT_CFG_EN u q, 1), (QT_CFG_SIZE_LOG2 u q, 0), (QT_CFG_PLACE u q, 1), (QT_BASE u q, 2 ^ 25 + 2 ^ 22), (DDR_CFG_DENSITY 0, 4)]

/-- The address of the ring: in channel 1, behind the 16 GiB installed there. -/
def farSlot : Nat := 0xA000000000 + 2 ^ 34

/-- Tile u of a typed state changed. -/
def withTile (u : Nat) (f : Tile → Tile) (d : Dev) : Dev := { d with tiles := vset d.tiles u (f (vget d.tiles Tile.reset u)) }

/-- The state that a command answers. -/
def after (c : Instr) (s : State) : State :=
  match exec c s with
  | .next t => t
  | _ => s

theorem after_of_answers {c : Instr} {s : State} {P : State → Prop} (h : Answers c s P) : P (after c s) := by
  obtain ⟨t, ht, hP⟩ := h
  rw [after, ht]
  exact hP

/-! ## A queue step and a vector result -/

/-- A word of tile 3 with a step before it and its choice of a successor. -/
def stepWord (w : Nat) (x : WStep) : WordSt := ⟨7, w, 100, 3, true, [x, .seq], 9, false, none, false⟩

/-- Tile 3 at that step, with queue 200 in the far ring and the datapath's output queue. -/
def stepState (w : Nat) (x : WStep) : State :=
  holding (farRing 3 200 ++ [(DSP_OUT_Q 3, 200)]) (withTile 3 (fun y => { y with seq := { y.seq with cur := some (stepWord w x) } }))

/-- NOTE to queue 200. -/
def noteWord : Nat := 2 * 2 ^ 55 + 200 * 2 ^ 46

theorem noteState_room : HasRoom (stepState noteWord .que) 3 200 := by decide +kernel

theorem not_queueSteps : ¬ Clause.QueueSteps := by
  intro h
  have stepping : Stepping (stepState noteWord .que) (3 : Fin 32) (stepWord noteWord .que) .que [.seq] := by decide +kernel
  have pushed := (h (stepState noteWord .que) (by decide +kernel) 3 (stepWord noteWord .que) [.seq] (by decide) stepping).1 noteState_room
    (.queNote 3) 2 3 _ (List.mem_cons_of_mem _ List.mem_cons_self) (by decide)
  exact absurd ((after_of_answers pushed).1.2.1 0 (by decide)) (by decide +kernel)

/-- Refutes O24: NOTE to a queue whose ring reaches past its channel's window stores no entry. -/
theorem not_controlSteps : ¬ Obligations.ControlSteps := fun ⟨_, _, h⟩ => not_queueSteps h

/-- MOV of SRC A to the output queue. -/
def movWord : Nat := 2 ^ 102 + 2 ^ 93 + 12 * 2 ^ 89

theorem movState_atOp : AtOp (stepState movWord .dspOp) 3 (stepWord movWord .dspOp) [.seq] 1 := by decide +kernel

theorem not_laneArithmetic : ¬ Clause.LaneArithmetic := by
  intro h
  have written := (h (stepState movWord .dspOp) (by decide +kernel) 3 (stepWord movWord .dspOp) [.seq]).1 movState_atOp
  exact absurd (((after_of_answers written).1.2.2.1 (by decide) (by decide +kernel)).2.1 0 (by decide)) (by decide +kernel)

/-- Refutes O25: MOV to an output queue of such a ring stores no entry. -/
theorem not_laneOperations : ¬ Obligations.LaneOperations := fun ⟨h, _⟩ => not_laneArithmetic h

/-! ## The descriptor of a record -/

/-- A record of class 0 whose last frame has passed and that the ring does not hold any longer. -/
def endedRecord : Record :=
  { point := ⟨50, 0, 0, 3, 0⟩, condMask := 1, source := 15, gen := none, cls := 0, short := false, trunc := 0, group := false,
    preAct := 0, post := 1, postAct := 0, dead := 0, lost := 0, num := 1, ntLo := 0, slot := 0, first := 50, moved := 0, ovr := false }

/-- Tile 3 in REARM with that record, whose descriptor goes to queue 200. -/
def rearmState : State :=
  holding (farRing 3 200 ++ [(CAPCLASS_DEST_QUEUE 3 0, 200), (CAP_STATE_STATE 3, REARM)])
    (withTile 3 (fun y => { y with cap := { y.cap with rec_ := some endedRecord } }))

theorem not_recordsEnd : ¬ Clause.RecordsEnd := by
  intro h
  have ended := ((h rearmState (by decide +kernel) 3 endedRecord (by decide +kernel)).2 (by decide +kernel) (by decide +kernel)
    (by decide +kernel)).2 (by decide +kernel) (by decide +kernel) (by decide +kernel) (by decide +kernel) (by decide +kernel)
    (by decide +kernel) (by decide +kernel) (by decide +kernel) (by decide +kernel) (by decide +kernel) (by decide +kernel)
    (Or.inr (by decide +kernel))
  obtain ⟨-, -, -, -, -, stored, -⟩ := after_of_answers ended
  exact absurd (stored farSlot) (by decide +kernel)

/-- Refutes O29: the descriptor of a record goes to a queue of such a ring and is not stored. -/
theorem not_records : ¬ Obligations.Records := fun ⟨_, h⟩ => not_recordsEnd h

/-! ## A notification -/

/-- The event of source 448 on its way to its notification logic. -/
def noteEvent : EventMsg := ⟨448, 0, false, 0, 0, [.note]⟩

/-- Source 448 notifies the host through queue 200 of tile 3. -/
def noteState : State :=
  holding (farRing 3 200 ++ [(EVENTS_NOTE_Q, 512 * 3 + 200), (EVENTS_NOTE_EN 14, 1)]) (fun d => { d with flight := [noteEvent] })

theorem not_eventsArrive : ¬ Clause.EventsArrive := by
  intro h
  have noted := ((h noteState (by decide +kernel) 448 noteEvent []).2.2.2.2.1 (by decide +kernel) (by decide +kernel)
    (by decide +kernel) (by decide +kernel)).1 (by decide +kernel) (by decide +kernel) (by decide +kernel) (by decide +kernel)
    (by decide +kernel)
  exact absurd ((after_of_answers noted).2.1 farSlot) (by decide +kernel)

/-- Refutes O31: a notification goes to a queue of such a ring and is not stored. -/
theorem not_events : ¬ Obligations.Events := fun ⟨_, h⟩ => not_eventsArrive h

/-! ## A register entry -/

/-- An entry that reads one word of tile memory. -/
def readEntry : List Byte := entryBytes 0x10 0 0 (leBytes 5 0x10080000 ++ leBytes 1 1)

/-- Queue 5 of tile 3 hands that entry to the register executor, which answers through queue 200. -/
def readState : State :=
  holding (farRing 3 200 ++ [(QT_CFG_EN 3 5, 1), (QT_SEQ_A 3 5, 1), (QT_CFG_CONSUMER 3 5, CONSUMER_REG), (QT_CFG_RESP 3 5, 200)]) id
    (bytesAt (tileBase 3 + 0x1C0000) readEntry)

/-- Refutes O34: the response to a read goes to a queue of such a ring and is not stored. -/
theorem not_registerEntries : ¬ Obligations.RegisterEntries := by
  intro h
  have answered := ((h readState (by decide +kernel) 3 5 readEntry (by decide +kernel) (by decide +kernel) (by decide +kernel)).2.2.2
    (by decide +kernel) (by decide +kernel) (by decide +kernel) (by decide +kernel) (by decide +kernel) (by decide +kernel)
    (by decide +kernel) (by decide +kernel)).1 (by decide +kernel) (by decide +kernel)
  exact absurd ((after_of_answers answered).2.1 farSlot) (by decide +kernel)

/-! ## An entry of the host -/

/-- The datagram of the owner, 10.0.0.1 port 7777, with one entry for queue 5 of tile 3. -/
def hostEntry : List Byte := entryBytes 3 0 0 [1]

def hostUdp : Udp := ⟨false, 0x0A000001, 0x0A000002, 7777, 0x4000, genondHeader 0 9 (512 * 3 + 5) 1 0 none ++ hostEntry⟩

/-- The header of its IP packet, with a checksum. -/
def hostHeader (sum len : Nat) : List Byte :=
  [0x45#8, 0] ++ beBytes 2 len ++ [0, 0, 0, 0, 64#8, 17#8] ++ beBytes 2 sum ++ beBytes 4 hostUdp.src ++ beBytes 4 hostUdp.dst

def hostPacket : List Byte :=
  let udp := udpBytes false hostUdp.src hostUdp.dst hostUdp.sport hostUdp.dport hostUdp.body
  hostHeader (onesChecksum (hostHeader 0 (20 + udp.length))) (20 + udp.length) ++ udp

/-- The session of that owner with the device at 10.0.0.2, whose port 0 is up, at EPOCH 9. -/
def hostState : State :=
  holding (farRing 3 5 ++ [(LANE_CFG_ROLE 0, 1), (LANE_STATUS_STATE 0, LANE_UP), (TRANSPORT_IP4, 0x0A000002),
    (TRANSPORT_CFG_UDP_PORT, 0x4000), (TRANSPORT_SESSION_EPOCH, 9), (TRANSPORT_SESSION_OWNER_VALID, 1), (TRANSPORT_OWNER_UDP, 7777),
    (TRANSPORT_OWNER_IP 0, 0x0A000001)])

theorem not_datagramEntries : ¬ Clause.DatagramEntries := by
  intro h
  have taken := (h hostState (by decide +kernel) 0 hostPacket hostUdp (by decide +kernel) (by decide +kernel) (by decide +kernel)
    (by decide +kernel) (by decide +kernel) (Or.inl (by decide +kernel))).1 hostEntry (by decide +kernel) (by decide +kernel)
    (by decide +kernel) (by decide +kernel) (by decide +kernel) (by decide +kernel) (by decide +kernel) (by decide +kernel)
    (by decide +kernel)
  exact absurd ((after_of_answers taken).2.2.1 farSlot) (by decide +kernel)

/-- Refutes O35: an entry of the host goes to a queue of such a ring and is not stored. -/
theorem not_inbound : ¬ Obligations.Inbound := fun ⟨h, _⟩ => not_datagramEntries h

/-! ## An entry of a peer -/

/-- The message of queue 500 of tile 2 for queue 450 of tile 3, of one entry, before its last block. -/
def peerEntry : List Byte := entryBytes 3 0 0 [1]

def peerMessage : OpenMsg := ⟨1, 3, 450, 2, 500, 1, peerEntry.take 24, false⟩

/-- Link 5, of lane 5 alone, is UP with that message open. -/
def peerState : State :=
  holding (farRing 3 450 ++ [(LINK_CFG_EN 5, 1), (LINK_CFG_BASE 5, 5), (LINK_STATUS_STATE 5, 2), (LANE_CFG_ROLE 5, 2),
      (LANE_STATUS_STATE 5, LANE_UP), (LINK_STATUS_PEER_DEV 5, 9), (QT_PEER_REMOTE 3 450, 1), (QT_PEER_LINK 3 450, 5),
      (QT_PEER_DEVICE 3 450, 9), (QT_PEER_TILE 3 450, 2), (QT_PEER_INDEX 3 450, 500)])
    (fun d => { d with links := vset d.links 5 { vget d.links LinkSt.reset 5 with rxSet := 1, msgs := [peerMessage] } })

/-- The last eight bytes of the entry. -/
def peerBlock : BitVec 64 := BitVec.ofNat 64 (ofLe (peerEntry.drop 24))

theorem not_peerTraffic : ¬ Clause.PeerTraffic := by
  intro h
  have taken := ((h peerState (by decide +kernel) 5 0 (by decide +kernel) (by decide +kernel)).2.1 peerBlock peerMessage []
    (by decide +kernel)).2.2.2 (by decide +kernel) (by decide +kernel) (by decide +kernel) (by decide +kernel) (by decide +kernel)
    (by decide +kernel) (by decide +kernel) (by decide +kernel) (by decide +kernel)
  exact absurd ((after_of_answers taken).2.2.1 farSlot) (by decide +kernel)

/-- Refutes O40: an entry of a peer goes to a queue of such a ring and is not stored. -/
theorem not_linkTraffic : ¬ Obligations.LinkTraffic := fun ⟨_, h⟩ => not_peerTraffic h

end Sys2Proof.Outsized
end

section
/-! PROOFS. The DDR5 channels (R404 to R418): works that change one channel, its commands and requests, training, parity, refresh and frost. -/

namespace Sys2Proof.DdrProofs

open Sys2Proof.Machine Sys2Proof.Effects Sys2Proof.RejectFacts

variable {σ : State}

/-! ## The typed state of a channel -/

theorem vset_vget {α : Type} {n : Nat} (v : Vector α n) (d : α) (i : Nat) : vset v i (vget v d i) = v := by
  unfold vset vget
  split
  · exact Vector.set_getElem_self _
  · rfl

theorem vset_vset {α : Type} {n : Nat} (v : Vector α n) (i : Nat) (x y : α) : vset (vset v i x) i y = vset v i y := by
  unfold vset
  split
  · rw [Vector.set_set]
  · rfl

section

variable {c : Nat}

@[simp] theorem ddr_updDdr_self (w : Work σ) (hc : c < 2) (u : DdrSt → DdrSt) : (w.updDdr c u).ddr c = u (w.ddr c) := by
  simp only [Work.ddr, Work.updDdr, vget_vset _ _ _ _ _ hc, if_true]

@[simp] theorem ddr_set (w : Work σ) (f : Fld) (v k : Nat) : (w.set f v).ddr k = w.ddr k := rfl
@[simp] theorem ddr_inc (w : Work σ) (f : Fld) (k : Nat) : (w.inc f).ddr k = w.ddr k := rfl

theorem updDdr_updDdr (w : Work σ) (hc : c < 2) (u v : DdrSt → DdrSt) : (w.updDdr c u).updDdr c v = w.updDdr c (fun d => v (u d)) := by
  rw [Work.updDdr, ddr_updDdr_self w hc]
  simp only [Work.updDdr, vset_vset]

/-- A work that has brought channel c to d and written registers of a set, and nothing else. -/
def DdrTo (K : Fld → Prop) (c : Nat) (w w' : Work σ) (d : DdrSt) : Prop :=
  (∀ f : Fld, (∀ g, K g → f.key ≠ g.key) → w'.get f = w.get f) ∧ (Quiet w → Quiet w') ∧ w'.fresh = w.fresh ∧ w'.rwipe = w.rwipe ∧
    w'.dev = { w.dev with ddr := vset w.dev.ddr c d }

variable {K : Fld → Prop} {w w' : Work σ} {d : DdrSt}

theorem DdrTo.refl (w : Work σ) : DdrTo K c w w (w.ddr c) :=
  ⟨fun _ _ => rfl, id, rfl, rfl, by rw [Work.ddr, vset_vget]⟩

theorem DdrTo.ddr (h : DdrTo K c w w' d) (hc : c < 2) : w'.ddr c = d := by
  obtain ⟨-, -, -, -, hd⟩ := h
  simp only [Work.ddr, hd, vget_vset _ _ _ _ _ hc, if_true]

theorem DdrTo.ddr_ne (h : DdrTo K c w w' d) (hc : c < 2) (k : Nat) (hk : k ≠ c) : w'.ddr k = w.ddr k := by
  obtain ⟨-, -, -, -, hd⟩ := h
  simp only [Work.ddr, hd, vget_vset _ _ _ _ _ hc, if_neg hk]

theorem DdrTo.get (h : DdrTo K c w w' d) (f : Fld) (hf : ∀ g, K g → f.key ≠ g.key) : w'.get f = w.get f := h.1 f hf

theorem DdrTo.set (h : DdrTo K c w w' d) (f : Fld) (v : Nat) (hf : K f) : DdrTo K c w (w'.set f v) d := by
  obtain ⟨hr, hq, hfr, ht, hd⟩ := h
  exact ⟨fun g hg => (Work.get_set_ne _ _ _ _ (hg f hf)).trans (hr g hg), hq, hfr, ht, hd⟩

theorem DdrTo.inc (h : DdrTo K c w w' d) (f : Fld) (hf : K f) : DdrTo K c w (w'.inc f) d := h.set f _ hf

theorem DdrTo.upd (h : DdrTo K c w w' d) (hc : c < 2) (u : DdrSt → DdrSt) : DdrTo K c w (w'.updDdr c u) (u d) := by
  have hw' := h.ddr hc
  obtain ⟨hr, hq, hfr, ht, hd⟩ := h
  refine ⟨hr, hq, hfr, ht, ?_⟩
  rw [Work.updDdr, hw', hd]
  simp only [vset_vset]

theorem DdrTo.mono {K' : Fld → Prop} (h : DdrTo K c w w' d) (hK : ∀ g, K g → K' g) : DdrTo K' c w w' d :=
  ⟨fun f hf => h.1 f (fun g hg => hf g (hK g hg)), h.2⟩

theorem DdrTo.trans {w'' : Work σ} {e : DdrSt} (h : DdrTo K c w w' d) (h' : DdrTo K c w' w'' e) : DdrTo K c w w'' e := by
  obtain ⟨hr, hq, hfr, ht, hd⟩ := h
  obtain ⟨hr', hq', hfr', ht', hd'⟩ := h'
  refine ⟨fun f hf => (hr' f hf).trans (hr f hf), fun q => hq' (hq q), hfr'.trans hfr, ht'.trans ht, ?_⟩
  rw [hd', hd]
  simp only [vset_vset]

end

/-- What such a work leaves once its command has finished. -/
theorem DdrTo.leaves {s : State} {fs : List Fld} {c : Nat} {w : Work s} {d : DdrSt} (h : DdrTo (· ∈ fs) c (Work.start s) w d)
    (hs : s.wf = true) : Leaves s w.finish fs { s.view.dev with ddr := vset s.dev.ddr c d } := by
  obtain ⟨hr, hq, hfr, -, hd⟩ := h
  exact leaves_finish hs (fun f hf => (hr f hf).trans (Work.get_start s f)) (hq (quiet_start s)) hd hfr

/-! ## Commands sent -/

section

variable {c : Nat} {K : Fld → Prop} {w w' : Work σ} {d : DdrSt}

/-- A command in the retry buffer of a subchannel. -/
def sentOn (sub : Nat) (x : DdrCmd) (d : DdrSt) : DdrSt := { d with cmds := d.cmds.set sub ((x :: d.cmds.getD sub []).take 32) }

theorem DdrTo.send (h : DdrTo K c w w' d) (hc : c < 2) (sub : Nat) (x : DdrCmd) : DdrTo K c w (ddrSend w' c sub x) (sentOn sub x d) :=
  h.upd hc _

theorem DdrTo.sendBoth (h : DdrTo K c w w' d) (hc : c < 2) (x : DdrCmd) :
    DdrTo K c w (ddrSendBoth w' c x) { d with cmds := bothSent d.cmds x } := (h.send hc 0 x).send hc 1 x

/-- The refresh debts shown. -/
theorem DdrTo.showDebt (h : DdrTo K c w w' d) (hK : ∀ f ∈ debtFlds c, K f) : DdrTo K c w (showDebt w' c) d := by
  simp only [debtFlds, List.mem_cons, List.not_mem_nil, or_false, forall_eq_or_imp, forall_eq] at hK
  obtain ⟨h0, h1, h2⟩ := hK
  exact ((h.set _ _ h0).set _ _ h1).set _ _ h2

theorem get_showDebt (w : Work σ) (f : Fld) (hf : ∀ g ∈ debtFlds c, f.key ≠ g.key) : (showDebt w c).get f = w.get f := by
  simp only [debtFlds, List.mem_cons, List.not_mem_nil, or_false, forall_eq_or_imp, forall_eq] at hf
  obtain ⟨h0, h1, h2⟩ := hf
  rw [Machine.showDebt]
  simp only [Work.get_set_ne _ _ _ _ h0, Work.get_set_ne _ _ _ _ h1, Work.get_set_ne _ _ _ _ h2]

/-- What DEBT shows. -/
theorem get_showDebt_ranks (w : Work σ) : (showDebt w c).get (DDR_DEBT_RANK0 c) = min 0xFFFF ((w.ddr c).debt.getD 0 0) ∧
    (showDebt w c).get (DDR_DEBT_RANK1 c) = min 0xFFFF ((w.ddr c).debt.getD 1 0) := by
  have small : ∀ n : Nat, min 0xFFFF n % 2 ^ 16 = min 0xFFFF n := fun n => Nat.mod_eq_of_lt (by omega)
  have ranks : (DDR_DEBT_RANK0 c).key ≠ (DDR_DEBT_RANK1 c).key ∧ (DDR_DEBT_RANK0 c).key ≠ (DDR_REF_STAT_N_MAX c).key ∧
      (DDR_DEBT_RANK1 c).key ≠ (DDR_REF_STAT_N_MAX c).key := by
    simp only [Fld.key, DDR_DEBT_RANK0, DDR_DEBT_RANK1, DDR_REF_STAT_N_MAX]
    omega
  obtain ⟨h01, h02, h12⟩ := ranks
  rw [Machine.showDebt]
  constructor
  · rw [Work.get_set_ne _ _ _ _ h02, Work.get_set_ne _ _ _ _ h01, Work.get_set_self]
    exact small _
  · rw [Work.get_set_ne _ _ _ _ h12, Work.get_set_self]
    exact small _

end

/-! ## Refresh (R411, R412) -/

/-- What a refresh of rank r makes of a channel. -/
def refreshed (s : State) (c r : Nat) : DdrSt :=
  let d := s.view.ddr c
  { d with debt := d.debt.set r (d.debt.getD r 0 - tRefi s.view c), busy := d.busy.set r true,
           lastRef := d.lastRef.set r (some s.dev.ticks), cmds := bothSent d.cmds ⟨.refresh, r⟩ }

/-- A refresh issued from a work that has the channel as the command found it. -/
theorem issueRefresh_to {s : State} {K : Fld → Prop} {c : Nat} (hc : c < 2) (r : Nat) {w : Work s} (h : DdrTo K c (Work.start s) w (s.view.ddr c))
    (hmr : w.get (DDR_STATUS_MR4_2X c) = s.get (DDR_STATUS_MR4_2X c)) (hK : ∀ f ∈ debtFlds c, K f) :
    DdrTo K c (Work.start s) (issueRefresh w c r) (refreshed s c r) := by
  have refi : tRefi w c = tRefi s.view c := by simp only [tRefi, Work.on, hmr]; rfl
  have ticks : w.dev.ticks = s.dev.ticks := by
    obtain ⟨-, -, -, -, hd⟩ := h
    rw [hd]
    rfl
  have issued := ((h.sendBoth hc ⟨.refresh, r⟩).upd hc (fun d => { d with
      debt := d.debt.set r (d.debt.getD r 0 - tRefi w c), busy := d.busy.set r true
      lastRef := d.lastRef.set r (some w.dev.ticks) })).showDebt hK
  rw [refi, ticks] at issued
  rw [issueRefresh, refi, ticks]
  exact issued

/-- A refresh of rank r is due at a channel that can issue one. -/
def RefreshIsDue (s : State) (c r : Nat) : Prop :=
  s.get (DDR_STATUS_STATE c) = DDR_READY ∧ r < ddrRanks s.view c ∧ 1 ≤ refDue s.view c r ∧ (s.view.ddr c).busy.getD r false = false ∧
    (s.view.ddr c).replay.any id = false

/-- Whether the other rank was refreshed less than half a tREFI ago. -/
theorem refreshDue_eq (s : State) (c r : Nat) (c1 : Bool) (h : RefreshIsDue s c r) : refreshDue (Work.start s) c r c1 =
    if maxPost s.view c < refDue s.view c r then issueRefresh ((Work.start s).inc (DDR_REF_STAT_FORCED c)) c r
    else if c1 || ddrBusyTraffic s.view c || refreshSoon s.view c r then Work.start s else issueRefresh (Work.start s) c r := by
  obtain ⟨hst, hr, hn, hb, hrep⟩ := h
  have due : ddrState (Work.start s) c = DDR_READY ∧ r < ddrRanks (Work.start s) c ∧ 1 ≤ refDue (Work.start s) c r ∧
      (!((Work.start s).ddr c).busy.getD r false) = true ∧ (!((Work.start s).ddr c).replay.any id) = true :=
    ⟨hst, hr, hn, by rw [show (Work.start s).ddr c = s.view.ddr c from rfl, hb]; rfl,
      by rw [show (Work.start s).ddr c = s.view.ddr c from rfl, hrep]; rfl⟩
  rw [refreshDue, if_pos due]

/-- The effect of a refresh that is issued, on a work that has the channel as it was. -/
theorem refresh_issued {s : State} (hs : s.wf = true) {c : Nat} (hc : c < 2) (r : Nat) {w : Work s} {fs : List Fld}
    (h : DdrTo (· ∈ debtFlds c ++ fs) c (Work.start s) w (s.view.ddr c))
    (hmr : w.get (DDR_STATUS_MR4_2X c) = s.get (DDR_STATUS_MR4_2X c)) :
    (issueRefresh w c r).finish.get (DDR_DEBT_RANK0 c) = min 0xFFFF ((refreshed s c r).debt.getD 0 0) ∧
      (issueRefresh w c r).finish.get (DDR_DEBT_RANK1 c) = min 0xFFFF ((refreshed s c r).debt.getD 1 0) ∧
      Leaves s (issueRefresh w c r).finish (debtFlds c ++ fs) { s.view.dev with ddr := vset s.dev.ddr c (refreshed s c r) } := by
  have to_ := issueRefresh_to hc r h hmr (fun f hf => List.mem_append_left _ hf)
  have debt : (issueRefresh w c r).ddr c = refreshed s c r := to_.ddr hc
  obtain ⟨h0, h1⟩ := get_showDebt_ranks (c := c) ((ddrSendBoth w c ⟨.refresh, r⟩).updDdr c (fun d => { d with
      debt := d.debt.set r (d.debt.getD r 0 - tRefi w c), busy := d.busy.set r true
      lastRef := d.lastRef.set r (some w.dev.ticks) }))
  refine ⟨?_, ?_, to_.leaves hs⟩ <;> rw [Work.finish_get _ _ hs, ← debt]
  · exact h0
  · exact h1

theorem refreshDue_postponed (s : State) (hs : s.wf = true) (c r : Fin 2) (h : RefreshIsDue s c r) (traffic : Bool)
    (hn : refDue s.view c r ≤ maxPost s.view c) (hwait : (traffic || ddrBusyTraffic s.view c || refreshSoon s.view c r) = true) :
    Answers (.refreshDue c r traffic) s (fun t => Leaves s t [] s.view.dev) := by
  refine ⟨_, ?_, leaves_start s hs⟩
  rw [exec, execRefreshDue, run_eq, refreshDue_eq s c r traffic h, if_neg (by omega), if_pos hwait]

theorem refreshDue_issued (s : State) (hs : s.wf = true) (c r : Fin 2) (h : RefreshIsDue s c r) (traffic : Bool)
    (hwait : (traffic || ddrBusyTraffic s.view c || refreshSoon s.view c r) = false ∨ maxPost s.view c < refDue s.view c r) :
    Answers (.refreshDue c r traffic) s (fun t =>
      (maxPost s.view c < refDue s.view c r → Counted s t (DDR_REF_STAT_FORCED c)) ∧
      t.get (DDR_DEBT_RANK0 c) = min 0xFFFF ((refreshed s c r).debt.getD 0 0) ∧
      t.get (DDR_DEBT_RANK1 c) = min 0xFFFF ((refreshed s c r).debt.getD 1 0) ∧
      Leaves s t (debtFlds c ++ (if maxPost s.view c < refDue s.view c r then [DDR_REF_STAT_FORCED c] else []))
        { s.view.dev with ddr := vset s.dev.ddr c (refreshed s c r) }) := by
  by_cases hf : maxPost s.view c < refDue s.view c r
  · have forced : DdrTo (· ∈ debtFlds c ++ [DDR_REF_STAT_FORCED c]) c (Work.start s) ((Work.start s).inc (DDR_REF_STAT_FORCED c))
        (s.view.ddr c) := (DdrTo.refl _).inc _ (by simp)
    have apart : ∀ g ∈ [DDR_STATUS_MR4_2X c], (DDR_REF_STAT_FORCED c).key ≠ g.key := by
      simp only [List.mem_singleton, forall_eq, Fld.key, DDR_REF_STAT_FORCED, DDR_STATUS_MR4_2X]
      omega
    obtain ⟨h0, h1, hleaves⟩ := refresh_issued hs c.isLt r forced
      ((Work.get_inc_ne _ _ _ (apart _ (List.mem_singleton_self _)).symm).trans (Work.get_start s _))
    rw [if_pos hf]
    refine ⟨_, by rw [exec, execRefreshDue, run_eq, refreshDue_eq s c r traffic h, if_pos hf], fun _ => ?_, h0, h1, hleaves⟩
    rw [Counted, Work.finish_get _ _ hs, issueRefresh, get_showDebt (c := c.val) _ _ ?_]
    · exact get_inc (Work.start s) _
    · simp only [debtFlds, List.mem_cons, List.not_mem_nil, or_false, forall_eq_or_imp, forall_eq, Fld.key, DDR_REF_STAT_FORCED,
        DDR_DEBT_RANK0, DDR_DEBT_RANK1, DDR_REF_STAT_N_MAX]
      omega
  · have free := hwait.resolve_right hf
    obtain ⟨h0, h1, hleaves⟩ := refresh_issued hs c.isLt r (fs := []) (w := Work.start s) (DdrTo.refl _) (Work.get_start s _)
    rw [if_neg hf]
    exact ⟨_, by rw [exec, execRefreshDue, run_eq, refreshDue_eq s c r traffic h, if_neg hf, free]; rfl, fun hn => absurd hn hf, h0, h1,
      hleaves⟩

/-! ## Waiting requests served (R19, R407) -/

/-- The registers of a channel that its traffic writes. -/
def trafficFlds (c : Nat) : List Fld :=
  [DDR_STATUS_STATE c, DDR_STATUS_MR4_2X c, DDR_DEBT_RANK0 c, DDR_DEBT_RANK1 c, DDR_REF_STAT_N_MAX c, DDR_ORDER_FWD c,
    DDR_ORDER_INORDER c, DDR_RH_STAT_NREF c, DDR_RH_STAT_RFM c]

/-- What serving requests leaves of a channel: the requests that wait, the debts, the refreshes and the replays; and every register that
the traffic of a channel does not write. -/
def Serves (c : Nat) (w w' : Work σ) : Prop :=
  ∃ d, DdrTo (· ∈ trafficFlds c) c w w' d ∧ d.waiting = (w.ddr c).waiting

section

variable {c : Nat} {w w' : Work σ}

theorem Serves.refl (w : Work σ) : Serves c w w := ⟨_, .refl w, rfl⟩

theorem Serves.upd (h : Serves c w w') (hc : c < 2) (u : DdrSt → DdrSt) (hu : ∀ d, (u d).waiting = d.waiting) :
    Serves c w (w'.updDdr c u) := by
  obtain ⟨d, hd, hw⟩ := h
  exact ⟨_, hd.upd hc u, (hu d).trans hw⟩

theorem Serves.set (h : Serves c w w') (f : Fld) (v : Nat) (hf : f ∈ trafficFlds c) : Serves c w (w'.set f v) := by
  obtain ⟨d, hd, hw⟩ := h
  exact ⟨d, hd.set f v hf, hw⟩

theorem Serves.send (h : Serves c w w') (hc : c < 2) (sub : Nat) (x : DdrCmd) : Serves c w (ddrSend w' c sub x) :=
  h.upd hc _ (fun _ => rfl)

theorem Serves.each {α : Type} (h : Serves c w w') (f : Work σ → α → Work σ) (l : List α)
    (hf : ∀ w'' x, Serves c w w'' → Serves c w (f w'' x)) : Serves c w (w'.each l f) := Work.each_keeps (Serves c w) f hf l w' h

theorem Serves.inc (h : Serves c w w') (f : Fld) (hf : f ∈ trafficFlds c) : Serves c w (w'.inc f) := h.set f _ hf

theorem Serves.sendBoth (h : Serves c w w') (hc : c < 2) (x : DdrCmd) : Serves c w (ddrSendBoth w' c x) :=
  (h.send hc 0 x).send hc 1 x

theorem Serves.showDebt (h : Serves c w w') : Serves c w (showDebt w' c) := by
  obtain ⟨d, hd, hw⟩ := h
  refine ⟨d, hd.showDebt (fun f hf => ?_), hw⟩
  simp only [debtFlds, List.mem_cons, List.not_mem_nil, or_false] at hf
  rcases hf with rfl | rfl | rfl <;> simp [trafficFlds]

theorem Serves.mr4Read (h : Serves c w w') (hc : c < 2) (hot : Bool) : Serves c w (mr4Read w' c hot) :=
  ((h.sendBoth hc _).set (DDR_STATUS_MR4_2X c) (b2n hot) (by simp [trafficFlds])).showDebt

theorem Serves.frostWake (h : Serves c w w') (hc : c < 2) (hot : Bool) : Serves c w (frostWake w' c hot) := by
  rw [Machine.frostWake]
  split
  · have left := (h.set (DDR_STATUS_STATE c) DDR_READY (by simp [trafficFlds])).sendBoth hc ⟨.leaveFrost, 0⟩
    have calibrated := left.each (fun w r => ddrSendBoth w c ⟨.zq, r⟩) ((List.range 2).filter (fun r => (w'.ddr c).zqDue.getD r false))
      (fun w'' r h => h.sendBoth hc _)
    exact (calibrated.upd hc (fun d => { d with debt := [0, 0], zqDue := [false, false] }) (fun _ => rfl)).mr4Read hc hot
  · exact h

theorem Serves.drainTo (h : Serves c w w') (hc : c < 2) (sub : Nat) (stay gone : List DdrWrite) :
    Serves c w (ddrDrainTo w' c sub stay gone) := (h.each _ _ (fun _ _ h => h.send hc sub _)).upd hc _ (fun _ => rfl)

theorem Serves.hazards (h : Serves c w w') (hc : c < 2) (off : Nat) (write : Bool) : Serves c w (ddrHazards w' c off write) := by
  have forwarded : Serves c w (if !write && lineQueued w' c off then w'.inc (DDR_ORDER_FWD c) else w') := by
    split
    · exact h.inc _ (by simp [trafficFlds])
    · exact h
  rw [ddrHazards]
  generalize (if !write && lineQueued w' c off then w'.inc (DDR_ORDER_FWD c) else w') = v at *
  have ordered : Serves c w (if rowQueued v c off then keepOrder (v.inc (DDR_ORDER_INORDER c)) c off else v) := by
    split
    · exact (forwarded.inc _ (by simp [trafficFlds])).upd hc _ (fun _ => rfl)
    · exact forwarded
  generalize (if rowQueued v c off then keepOrder (v.inc (DDR_ORDER_INORDER c)) c off else v) = x at *
  split
  · exact ordered.drainTo hc _ _ _
  · exact ordered

theorem Serves.rowActivate (h : Serves c w w') (hc : c < 2) (off : Nat) : Serves c w (rowActivate w' c off) := by
  have sent : ∀ w'' off, Serves c w w'' → Serves c w (sendActivate w'' c off).1 := fun w'' off h => (h.send hc _ _).upd hc _ (fun _ => rfl)
  have hammered : ∀ w'' bank row, Serves c w w'' → Serves c w (hammer w'' c off bank row) := fun w'' bank row h => by
    have near := ((h.each (fun w r => ddrSend (sendActivate w c (rowStart w c off r)).1 c (bits off 6 1) ⟨.precharge, rowStart w c off r⟩)
      (neighbours w'' c row) (fun w r h => (sent w _ h).send hc _ _)).upd hc (fun d => { d with
        acts := d.acts.map (fun a => if a.bank = bank ∧ a.row = row then { a with count := 0 } else a) }) (fun _ => rfl)).inc
      (DDR_RH_STAT_NREF c) (by simp [trafficFlds])
    rw [hammer]
    dsimp only
    split
    · exact (near.send hc _ _).inc _ (by simp [trafficFlds])
    · exact near
  rw [Machine.rowActivate]
  dsimp only
  split
  · exact hammered _ _ _ (sent _ _ h)
  · exact sent _ _ h

theorem Serves.drain (h : Serves c w w') (hc : c < 2) (sub n : Nat) : Serves c w (ddrDrain w' c sub n) := h.drainTo hc _ _ _

theorem Serves.serve (h : Serves c w w') (hc : c < 2) (off cls : Nat) (write opens : Bool) (drained : Nat) (hot : Bool) :
    Serves c w (ddrServe w' c off cls write opens drained hot) := by
  have met := ((h.frostWake hc hot).drain hc (bits off 6 1) drained).hazards hc off write
  rw [ddrServe]
  generalize ddrHazards (ddrDrain (Machine.frostWake w' c hot) c (bits off 6 1) drained) c off write = v at *
  have opened : Serves c w (if opens then Machine.rowActivate v c off else v) := by
    split
    · exact met.rowActivate hc off
    · exact met
  generalize (if opens then Machine.rowActivate v c off else v) = x at *
  split
  · refine Serves.upd ?_ hc _ (fun _ => rfl)
    split
    · exact opened.drain hc _ _
    · exact opened
  · exact opened.send hc _ _

end

/-! ## Requests granted -/

theorem emit_dev (w : Work σ) (o : Out) : (w.emit o).dev = { w.dev with out := w.dev.out ++ [o] } := rfl

theorem ddrGrant_none (w : Work σ) (c : Nat) (h : (w.ddr c).waiting = []) : ddrGrant w c = w := by
  have same : w.updDdr c (fun d => { d with waiting := d.waiting.filter (fun r => r.waits w c) }) = w := by
    simp only [Work.updDdr, h, List.filter_nil]
    rw [← h]
    exact congrArg (fun v => ({ w with dev := { w.dev with ddr := v } } : Work σ)) (vset_vget _ _ _)
  rw [ddrGrant, h]
  simp only [Work.each, List.filter_nil, List.foldl_cons, List.foldl_nil]
  exact same

/-- A single request that waits for nothing any longer is served. -/
theorem ddrGrant_one (w : Work σ) (c : Nat) (x : DdrReq) (h : (w.ddr c).waiting = [x]) (hx : x.waits w c = false)
    (hcls : 1 ≤ x.cls ∧ x.cls ≤ 3) :
    ddrGrant w c = ddrServed (w.updDdr c (fun d => { d with waiting := [] })) c x := by
  have none_ : w.updDdr c (fun d => { d with waiting := d.waiting.filter (fun r => r.waits w c) }) =
      w.updDdr c (fun d => { d with waiting := [] }) := by
    simp only [Work.updDdr, h, List.filter_cons, hx, Bool.false_eq_true, if_false, List.filter_nil]
  have ready : [x].filter (fun r => !r.waits w c) = [x] := by simp [hx]
  rw [ddrGrant, h, none_, ready]
  obtain ⟨lo, hi⟩ := hcls
  have one : ∀ k, [x].filter (fun r => decide (r.cls = k)) = if x.cls = k then [x] else [] := fun k => by
    by_cases hk : x.cls = k <;> simp [hk]
  simp only [Work.each, List.foldl_cons, List.foldl_nil, one]
  rcases (by omega : x.cls = 1 ∨ x.cls = 2 ∨ x.cls = 3) with hk | hk | hk <;> simp [hk]

/-- The one request that waits is served behind a change of its channel that lets it: the bytes that it is to give out go out. -/
theorem granted_finish {s : State} {c : Nat} (hc : c < 2) (x : DdrReq) (bs : List Byte) (hx : Granted x bs) (u : DdrSt → DdrSt)
    (hwait : (u (s.view.ddr c)).waiting = [x])
    (hready : x.waits ((Work.start s).updDdr c u) c = false) :
    ((ddrGrant ((Work.start s).updDdr c u) c).finish.view.ddr c).waiting = [] ∧
      (ddrGrant ((Work.start s).updDdr c u) c).finish.dev.out = [.port "DDR" (bs.map (·.toNat))] := by
  obtain ⟨hdata, -, hlo, hhi⟩ := hx
  have waiting : (((Work.start s).updDdr c u).ddr c).waiting = [x] := by
    rw [ddr_updDdr_self _ hc]
    exact hwait
  rw [ddrGrant_one _ c x waiting hready ⟨hlo, hhi⟩, ddrServed, hdata]
  obtain ⟨d, hd, hw⟩ := (Serves.refl (((Work.start s).updDdr c u).updDdr c (fun d => { d with waiting := [] }))).serve hc x.off x.cls
    x.write x.opens x.drained x.hot
  constructor
  · have ddr := hd.ddr hc
    rw [ddr_updDdr_self _ hc] at hw
    exact (congrArg DdrSt.waiting ddr).trans hw
  · obtain ⟨-, -, -, -, hdev⟩ := hd
    dsimp only
    rw [Work.finish_dev, emit_dev, hdev]
    rfl


/-! ## Completions, MR4, frost and ZQ calibrations -/

theorem refreshComplete_idle (s : State) (hs : s.wf = true) (c r : Fin 2) (hw : (s.view.ddr c).waiting = []) :
    Answers (.refreshComplete c r) s (fun t => Leaves s t [] { s.view.dev with
      ddr := vset s.dev.ddr c { s.view.ddr c with busy := (s.view.ddr c).busy.set r false } }) := by
  have freed : DdrTo (· ∈ ([] : List Fld)) c (Work.start s) _ _ := (DdrTo.refl (c := c) (Work.start s)).upd c.isLt
    (fun d => { d with busy := d.busy.set r false })
  have none_ := (congrArg DdrSt.waiting (freed.ddr c.isLt)).trans hw
  exact ⟨_, by rw [exec, execRefreshComplete, run_eq, refreshDone, ddrGrant_none _ c none_], freed.leaves hs⟩

/-- A cleared entry of a list of flags reads false. -/
theorem getD_set_false (l : List Bool) (i : Nat) : (l.set i false).getD i false = false := by
  rw [List.getD_eq_getElem?_getD, List.getElem?_set_self']
  cases l[i]? <;> rfl

/-- A read waits no longer once neither its subchannel replays nor its rank refreshes. -/
theorem waits_updDdr (s : State) {c : Nat} (hc : c < 2) (x : DdrReq) (u : DdrSt → DdrSt)
    (hrep : (u (s.view.ddr c)).replay.getD (bits x.off 6 1) false = false)
    (hbusy : (u (s.view.ddr c)).busy.getD (rankOf s.view c x.off) false = false) :
    x.waits ((Work.start s).updDdr c u) c = false := by
  have ddr : ((Work.start s).updDdr c u).ddr c = u (s.view.ddr c) := ddr_updDdr_self _ hc u
  have rank : rankOf ((Work.start s).updDdr c u) c x.off = rankOf s.view c x.off := rfl
  rw [DdrReq.waits, ddrWaits, ddrReplays, ddr, hrep, rank, hbusy]
  rfl

theorem refreshComplete_grants (s : State) (c r : Fin 2) (x : DdrReq) (bs : List Byte) (hw : (s.view.ddr c).waiting = [x])
    (hx : Granted x bs) (hr : rankOf s.view c x.off = r.val) (hrep : (s.view.ddr c).replay.getD (bits x.off 6 1) false = false) :
    Answers (.refreshComplete c r) s (fun t => (t.view.ddr c).waiting = [] ∧ t.dev.out = [.port "DDR" (bs.map (·.toNat))]) := by
  refine ⟨_, by rw [exec, execRefreshComplete, run_eq, refreshDone],
    granted_finish c.isLt x bs hx _ hw (waits_updDdr s c.isLt x _ hrep ?_)⟩
  rw [hr]
  exact getD_set_false _ _

theorem mr4Read_to {K : Fld → Prop} {c : Nat} {w w' : Work σ} {d : DdrSt} (h : DdrTo K c w w' d) (hc : c < 2) (hot : Bool)
    (hK : ∀ f ∈ DDR_STATUS_MR4_2X c :: debtFlds c, K f) :
    DdrTo K c w (mr4Read w' c hot) { d with cmds := bothSent d.cmds ⟨.modeRead, 0⟩ } :=
  ((h.sendBoth hc _).set _ _ (hK _ List.mem_cons_self)).showDebt (fun f hf => hK f (List.mem_cons_of_mem _ hf))

theorem get_mr4Read (w : Work σ) (c : Nat) (hot : Bool) : (mr4Read w c hot).get (DDR_STATUS_MR4_2X c) = b2n hot := by
  rw [mr4Read, get_showDebt, Work.setB, Work.get_set_self]
  · cases hot <;> rfl
  · simp only [debtFlds, List.mem_cons, List.not_mem_nil, or_false, forall_eq_or_imp, forall_eq, Fld.key, DDR_STATUS_MR4_2X,
      DDR_DEBT_RANK0, DDR_DEBT_RANK1, DDR_REF_STAT_N_MAX]
    omega

theorem mr4Poll_reads (s : State) (hs : s.wf = true) (c : Fin 2) (hot : Bool) (hst : s.get (DDR_STATUS_STATE c) = DDR_READY)
    (hrep : (s.view.ddr c).replay.any id = false) : Answers (.mr4Poll c hot) s (fun t => t.get (DDR_STATUS_MR4_2X c) = b2n hot ∧
      Leaves s t (DDR_STATUS_MR4_2X c :: debtFlds c) { s.view.dev with
        ddr := vset s.dev.ddr c { s.view.ddr c with cmds := bothSent (s.view.ddr c).cmds ⟨.modeRead, 0⟩ } }) := by
  have free : ddrState (Work.start s) c = DDR_READY ∧ (!((Work.start s).ddr c).replay.any id) = true :=
    ⟨hst, by rw [show (Work.start s).ddr c = s.view.ddr c from rfl, hrep]; rfl⟩
  refine ⟨_, by rw [exec, execMr4Poll, run_eq, if_pos free], ?_, (mr4Read_to (.refl _) c.isLt hot (fun _ => id)).leaves hs⟩
  rw [Work.finish_get _ _ hs, get_mr4Read]

/-- Whether a ZQ calibration has to wait (R417). -/
def zqWaits (s : State) (c : Nat) (traffic : Bool) (ms : Nat) : Bool :=
  decide (s.get (DDR_STATUS_STATE c) = DDR_FROST) || (s.view.ddr c).replay.any id ||
    ((traffic || ddrBusyTraffic s.view c) && decide (ms < 128))

/-- A ZQ calibration that is due, on a work v that shows how long it has waited. -/
theorem zqCalDue_eq (w : Work σ) (c r : Nat) (traffic : Bool) (ms : Nat) (v : Work σ)
    (hv : w.set (DDR_ZQ_MAXDEFER_MS c) (max (w.get (DDR_ZQ_MAXDEFER_MS c)) ms) = v) (wait : Bool)
    (hwait : (decide (ddrState v c = DDR_FROST) || (v.ddr c).replay.any id || ((traffic || ddrBusyTraffic v c) && decide (ms < 128))) = wait)
    (hdue : r < ddrRanks w c ∧ (ddrState w c = DDR_READY ∨ ddrState w c = DDR_FROST)) :
    zqCalDue w c r traffic ms =
      (if wait then v else issueZq v c [r]).updDdr c (fun d => { d with zqDue := d.zqDue.set r wait }) := by
  subst hv hwait
  rw [zqCalDue, if_pos hdue]

theorem zqDue_leaves (s : State) (hs : s.wf = true) (c r : Fin 2) (traffic : Bool) (ms : BitVec 16)
    (hr : r.val < ddrRanks s.view c) (hst : s.get (DDR_STATUS_STATE c) = DDR_READY ∨ s.get (DDR_STATUS_STATE c) = DDR_FROST)
    (wait : Bool) (hwait : zqWaits s c traffic ms.toNat = wait) :
    Answers (.zqDue c r traffic ms) s (fun t =>
      t.get (DDR_ZQ_MAXDEFER_MS c) = max (s.get (DDR_ZQ_MAXDEFER_MS c)) ms.toNat % 2 ^ 16 ∧
      Leaves s t [DDR_ZQ_MAXDEFER_MS c] { s.view.dev with ddr := vset s.dev.ddr c { s.view.ddr c with
        zqDue := (s.view.ddr c).zqDue.set r wait,
        cmds := if wait then (s.view.ddr c).cmds else bothSent (s.view.ddr c).cmds ⟨.zq, r⟩ } }) := by
  have due : (r : Nat) < ddrRanks (Work.start s) c ∧ (ddrState (Work.start s) c = DDR_READY ∨ ddrState (Work.start s) c = DDR_FROST) :=
    ⟨hr, hst⟩
  have apart : ∀ f ∈ [DDR_STATUS_STATE c, DDR_CFG_DENSITY c], f.key ≠ (DDR_ZQ_MAXDEFER_MS c).key := by
    simp only [List.mem_cons, List.not_mem_nil, or_false, forall_eq_or_imp, forall_eq, Fld.key, DDR_ZQ_MAXDEFER_MS, DDR_STATUS_STATE,
      DDR_CFG_DENSITY]
    omega
  have shown : ddrState ((Work.start s).set (DDR_ZQ_MAXDEFER_MS c)
      (max ((Work.start s).get (DDR_ZQ_MAXDEFER_MS c)) ms.toNat)) c = s.get (DDR_STATUS_STATE c) :=
    Work.get_set_ne _ _ _ _ (apart _ List.mem_cons_self)
  have to_ := (DdrTo.refl (K := (· ∈ [DDR_ZQ_MAXDEFER_MS c])) (c := c) (Work.start s)).set (DDR_ZQ_MAXDEFER_MS c)
      (max ((Work.start s).get (DDR_ZQ_MAXDEFER_MS c)) ms.toNat) List.mem_cons_self
  have waits : (decide (ddrState ((Work.start s).set (DDR_ZQ_MAXDEFER_MS c)
      (max ((Work.start s).get (DDR_ZQ_MAXDEFER_MS c)) ms.toNat)) c = DDR_FROST) ||
      (((Work.start s).set (DDR_ZQ_MAXDEFER_MS c)
        (max ((Work.start s).get (DDR_ZQ_MAXDEFER_MS c)) ms.toNat)).ddr c).replay.any id ||
      ((traffic || ddrBusyTraffic ((Work.start s).set (DDR_ZQ_MAXDEFER_MS c)
        (max ((Work.start s).get (DDR_ZQ_MAXDEFER_MS c)) ms.toNat)) c) && decide (ms.toNat < 128))) = wait := by
    rw [shown]
    exact hwait
  generalize hv : (Work.start s).set (DDR_ZQ_MAXDEFER_MS c) (max ((Work.start s).get (DDR_ZQ_MAXDEFER_MS c)) ms.toNat) = v at *
  refine ⟨_, by rw [exec, execZqDue, run_eq, zqCalDue_eq _ _ _ _ _ v hv wait waits due], ?_, ?_⟩
  · have kept : (if wait then v else issueZq v c [r.val]).get (DDR_ZQ_MAXDEFER_MS c) = v.get (DDR_ZQ_MAXDEFER_MS c) := by
      cases wait <;> rfl
    refine (Work.finish_get _ _ hs).trans (kept.trans ?_)
    rw [← hv, Work.get_set_self]
    rfl
  · cases wait
    · exact ((to_.sendBoth c.isLt ⟨.zq, r⟩).upd c.isLt _).leaves hs
    · exact (to_.upd c.isLt _).leaves hs

@[simp] theorem get_updDdr (w : Work σ) (c : Nat) (u : DdrSt → DdrSt) (f : Fld) : (w.updDdr c u).get f = w.get f := rfl

@[simp] theorem get_ddrSendBoth (w : Work σ) (c : Nat) (x : DdrCmd) (f : Fld) : (ddrSendBoth w c x).get f = w.get f := rfl

/-- Writes that drain from a subchannel change its queue and what it has sent, and nothing else. -/
theorem DdrTo.drainTo {K : Fld → Prop} {c : Nat} {w w' : Work σ} {d : DdrSt} (h : DdrTo K c w w' d) (hc : c < 2) (sub : Nat)
    (stay gone : List DdrWrite) :
    ∃ cmds, DdrTo K c w (ddrDrainTo w' c sub stay gone) { d with cmds := cmds, writes := d.writes.set sub stay } := by
  have sent : ∃ cmds, DdrTo K c w (w'.each gone.reverse (fun w x => ddrSend w c sub ⟨.write, x.line * 64⟩)) { d with cmds := cmds } :=
    Work.each_keeps (fun v => ∃ cmds, DdrTo K c w v { d with cmds := cmds }) _ (fun v x hv => by
      obtain ⟨cmds, hcmds⟩ := hv
      exact ⟨_, hcmds.send hc _ _⟩) _ _ ⟨d.cmds, h⟩
  obtain ⟨cmds, hcmds⟩ := sent
  exact ⟨cmds, hcmds.upd hc _⟩

/-- The 64 oldest writes of a queue are all of one that holds no more. -/
theorem take_beyond_64 (q : List DdrWrite) (h : q.length ≤ 64) : q.take (q.length - 64) = [] := by
  rw [Nat.sub_eq_zero_of_le h, List.take_zero]

/-- The queues of a channel once 64 writes have drained from each. -/
def drained64 (q : List (List DdrWrite)) : List (List DdrWrite) :=
  let q0 := q.set 0 ((q.getD 0 []).take ((q.getD 0 []).length - 64))
  q0.set 1 ((q0.getD 1 []).take ((q0.getD 1 []).length - 64))

theorem drained64_empty (q : List (List DdrWrite)) (i : Nat) (hi : i < 2) (hq : (q.getD i []).length ≤ 64) :
    (drained64 q).getD i [] = [] := by
  have cell : ∀ (l : List (List DdrWrite)) (j : Nat), (l.getD j []).length ≤ 64 →
      (l.set j ((l.getD j []).take ((l.getD j []).length - 64))).getD j [] = [] := fun l j hj => by
    rw [take_beyond_64 _ hj, List.getD_eq_getElem?_getD, List.getElem?_set_self']
    cases l[j]? <;> rfl
  have other : ∀ (l : List (List DdrWrite)) (j k : Nat) (x : List DdrWrite), j ≠ k → (l.set j x).getD k [] = l.getD k [] :=
    fun l j k x hjk => by rw [List.getD_eq_getElem?_getD, List.getElem?_set_ne hjk, List.getD_eq_getElem?_getD]
  rcases (by omega : i = 0 ∨ i = 1) with rfl | rfl
  · exact (other _ 1 0 _ (by decide)).trans (cell q 0 hq)
  · exact cell _ 1 (by rw [other _ 0 1 _ (by decide)]; exact hq)

theorem frostEntry_to (w : Work σ) (c : Nat) (hc : c < 2) :
    ∃ cmds, DdrTo (· ∈ ([] : List Fld)) c w (ddrDrain (ddrDrain w c 0 64) c 1 64)
      { w.ddr c with cmds := cmds, writes := drained64 (w.ddr c).writes } := by
  obtain ⟨cmds0, h0⟩ := (DdrTo.refl (K := (· ∈ ([] : List Fld))) (c := c) w).drainTo hc 0
    ((ddrQueue w c 0).take ((ddrQueue w c 0).length - 64)) ((ddrQueue w c 0).drop ((ddrQueue w c 0).length - 64))
  have second : ddrQueue (ddrDrain w c 0 64) c 1 =
      ((w.ddr c).writes.set 0 ((ddrQueue w c 0).take ((ddrQueue w c 0).length - 64))).getD 1 [] :=
    congrArg (fun d : DdrSt => d.writes.getD 1 []) (h0.ddr hc)
  obtain ⟨cmds1, h1⟩ := h0.drainTo hc 1
    ((ddrQueue (ddrDrain w c 0 64) c 1).take ((ddrQueue (ddrDrain w c 0 64) c 1).length - 64))
    ((ddrQueue (ddrDrain w c 0 64) c 1).drop ((ddrQueue (ddrDrain w c 0 64) c 1).length - 64))
  refine ⟨cmds1, ?_⟩
  simp only [second] at h1
  rw [ddrDrain]
  dsimp only
  rw [second]
  exact h1

/-- The typed state that a finished work shows of the channel. -/
theorem DdrTo.view {s : State} {K : Fld → Prop} {c : Nat} {w : Work s} {d : DdrSt} (h : DdrTo K c (Work.start s) w d) (hc : c < 2) :
    w.finish.view.ddr c = d := h.ddr hc

theorem frostEntry_leaves (s : State) (hs : s.wf = true) (c : Fin 2)
    (hfree : s.get (DDR_STATUS_STATE c) = DDR_READY ∧ s.get (DDR_FROST_IDLE_US c) ≠ 0 ∧ refDue s.view c 0 = 0 ∧ refDue s.view c 1 = 0 ∧
      (s.view.ddr c).zqDue.any id = false ∧ (s.view.ddr c).busy.any id = false ∧ (s.view.ddr c).replay.any id = false ∧
      (s.view.ddr c).waiting = [] ∧ (s.view.ddr c).writer = []) :
    Answers (.frostEntry c) s (fun t => t.get (DDR_STATUS_STATE c) = DDR_FROST ∧ Counted s t (DDR_FROST_ENTRIES c) ∧
      (∀ i < 2, ((s.view.ddr c).writes.getD i []).length ≤ 64 → (t.view.ddr c).writes.getD i [] = []) ∧
      Leaves s t [DDR_STATUS_STATE c, DDR_FROST_ENTRIES c] { s.view.dev with ddr := vset s.dev.ddr c { s.view.ddr c with
        writes := (t.view.ddr c).writes, cmds := (t.view.ddr c).cmds } }) := by
  obtain ⟨hst, hidle, h0, h1, hzq, hbusy, hrep, hwait, hwr⟩ := hfree
  have free : ddrState (Work.start s) c = DDR_READY ∧ (Work.start s).get (DDR_FROST_IDLE_US c) ≠ 0 ∧ refDue (Work.start s) c 0 = 0 ∧
      refDue (Work.start s) c 1 = 0 ∧ (!((Work.start s).ddr c).zqDue.any id) = true ∧ (!((Work.start s).ddr c).busy.any id) = true ∧
      (!((Work.start s).ddr c).replay.any id) = true ∧ ((Work.start s).ddr c).waiting = [] ∧ ((Work.start s).ddr c).writer = [] :=
    ⟨hst, hidle, h0, h1, (congrArg not hzq).trans rfl, (congrArg not hbusy).trans rfl, (congrArg not hrep).trans rfl, hwait, hwr⟩
  obtain ⟨cmds, hdr⟩ := frostEntry_to (Work.start s) c c.isLt
  have apart : (DDR_STATUS_STATE c).key ≠ (DDR_FROST_ENTRIES c).key := by
    simp only [Fld.key, DDR_STATUS_STATE, DDR_FROST_ENTRIES]
    omega
  have entries : (ddrDrain (ddrDrain (Work.start s) c 0 64) c 1 64).get (DDR_FROST_ENTRIES c) = s.get (DDR_FROST_ENTRIES c) :=
    (hdr.get _ (fun _ hg => absurd hg List.not_mem_nil)).trans (Work.get_start s _)
  have enters : frostEntry (Work.start s) c = (ddrSendBoth ((ddrDrain (ddrDrain (Work.start s) c 0 64) c 1 64).set
      (DDR_STATUS_STATE c) DDR_FROST) c ⟨.enterFrost, 0⟩).inc (DDR_FROST_ENTRIES c) := by
    rw [frostEntry, if_pos free]
  generalize ddrDrain (ddrDrain (Work.start s) c 0 64) c 1 64 = v at *
  have to_ := (((hdr.mono (K' := (· ∈ [DDR_STATUS_STATE c, DDR_FROST_ENTRIES c])) (fun g hg => absurd hg List.not_mem_nil)).set
    (DDR_STATUS_STATE c) DDR_FROST (by simp)).sendBoth c.isLt ⟨.enterFrost, 0⟩).inc (DDR_FROST_ENTRIES c) (by simp)
  refine ⟨_, by rw [exec, execFrostEntry, run_eq, enters], ?_, ?_, ?_, ?_⟩
  · rw [Work.finish_get _ _ hs, Work.get_inc_ne _ _ _ apart, get_ddrSendBoth, Work.get_set_self]
    rfl
  · rw [Counted, Work.finish_get _ _ hs, get_inc, get_ddrSendBoth, Work.get_set_ne _ _ _ _ apart.symm, entries]
  · intro i hi hq
    rw [to_.view c.isLt]
    exact drained64_empty _ i hi hq
  · rw [to_.view c.isLt]
    exact to_.leaves hs

/-- The ZQ calibrations issued change what the channel has sent. -/
theorem DdrTo.issueZq {K : Fld → Prop} {c : Nat} {w w' : Work σ} {d : DdrSt} (h : DdrTo K c w w' d) (hc : c < 2) (rs : List Nat) :
    ∃ cmds, DdrTo K c w (issueZq w' c rs) { d with cmds := cmds } :=
  Work.each_keeps (fun v => ∃ cmds, DdrTo K c w v { d with cmds := cmds }) _ (fun v r hv => by
    obtain ⟨cmds, hcmds⟩ := hv
    exact ⟨_, hcmds.sendBoth hc _⟩) _ _ ⟨d.cmds, h⟩

/-- A channel that leaves frost: its MR4 is read behind a work that has brought it to no debt and no calibration due. -/
theorem frostWake_eq (s : State) (c : Fin 2) (hot : Bool) (hst : s.get (DDR_STATUS_STATE c) = DDR_FROST) :
    ∃ (v : Work s) (cmds : List (List DdrCmd)), frostWake (Work.start s) c hot = mr4Read v c hot ∧
      DdrTo (· ∈ [DDR_STATUS_STATE c]) c (Work.start s) v
        { s.view.ddr c with debt := [0, 0], zqDue := [false, false], cmds := cmds } ∧ v.get (DDR_STATUS_STATE c) = DDR_READY := by
  have left := ((DdrTo.refl (K := (· ∈ [DDR_STATUS_STATE c])) (c := c) (Work.start s)).set
    (DDR_STATUS_STATE c) DDR_READY List.mem_cons_self).sendBoth c.isLt ⟨.leaveFrost, 0⟩
  have ready : (ddrSendBoth ((Work.start s).set (DDR_STATUS_STATE c) DDR_READY) c ⟨.leaveFrost, 0⟩).get (DDR_STATUS_STATE c) =
      DDR_READY := by
    rw [get_ddrSendBoth, Work.get_set_self]
    rfl
  have wakes : frostWake (Work.start s) c hot = mr4Read ((issueZq (ddrSendBoth ((Work.start s).set (DDR_STATUS_STATE c) DDR_READY) c
      ⟨.leaveFrost, 0⟩) c ((List.range 2).filter (fun r => ((Work.start s).ddr c).zqDue.getD r false))).updDdr c
      (fun d => { d with debt := [0, 0], zqDue := [false, false] })) c hot := by
    rw [frostWake, if_pos (show ddrState (Work.start s) c = DDR_FROST from hst)]
  generalize ddrSendBoth ((Work.start s).set (DDR_STATUS_STATE c) DDR_READY) c ⟨.leaveFrost, 0⟩ = u at *
  generalize (List.range 2).filter (fun r => ((Work.start s).ddr c).zqDue.getD r false) = rs at *
  obtain ⟨cmds, hzq⟩ := left.issueZq c.isLt rs
  refine ⟨_, cmds, wakes, hzq.upd c.isLt (fun d => { d with debt := [0, 0], zqDue := [false, false] }), ?_⟩
  rw [get_updDdr]
  exact Work.each_keeps (fun v : Work s => v.get (DDR_STATUS_STATE c) = DDR_READY) (fun v r => ddrSendBoth v c ⟨.zq, r⟩)
    (fun v r hv => hv) rs u ready

theorem frostWake_leaves (s : State) (hs : s.wf = true) (c : Fin 2) (hot : Bool) (hst : s.get (DDR_STATUS_STATE c) = DDR_FROST) :
    Answers (.frostWake c hot) s (fun t =>
      t.get (DDR_STATUS_STATE c) = DDR_READY ∧ t.get (DDR_STATUS_MR4_2X c) = b2n hot ∧ t.get (DDR_DEBT_RANK0 c) = 0 ∧
      t.get (DDR_DEBT_RANK1 c) = 0 ∧ Leaves s t (DDR_STATUS_STATE c :: DDR_STATUS_MR4_2X c :: debtFlds c) { s.view.dev with
        ddr := vset s.dev.ddr c { s.view.ddr c with debt := [0, 0], zqDue := [false, false], cmds := (t.view.ddr c).cmds } }) := by
  obtain ⟨v, cmds, wakes, hv, ready⟩ := frostWake_eq s c hot hst
  have apart : (DDR_STATUS_STATE c).key ≠ (DDR_STATUS_MR4_2X c).key ∧ ∀ f ∈ debtFlds c, (DDR_STATUS_STATE c).key ≠ f.key := by
    simp only [debtFlds, List.mem_cons, List.not_mem_nil, or_false, forall_eq_or_imp, forall_eq, Fld.key, DDR_STATUS_STATE,
      DDR_STATUS_MR4_2X, DDR_DEBT_RANK0, DDR_DEBT_RANK1, DDR_REF_STAT_N_MAX]
    omega
  obtain ⟨hmr, hdebt⟩ := apart
  have woken := hv.mono (K' := (· ∈ DDR_STATUS_STATE c :: DDR_STATUS_MR4_2X c :: debtFlds c)) (fun g hg => by
    rw [List.mem_singleton.1 hg]
    exact List.mem_cons_self)
  have to_ := mr4Read_to woken c.isLt hot (fun f hf => List.mem_cons_of_mem _ hf)
  have debt : ((ddrSendBoth v c ⟨.modeRead, 0⟩).setB (DDR_STATUS_MR4_2X c) hot).ddr c = _ :=
    ((hv.sendBoth c.isLt ⟨.modeRead, 0⟩).mono (K' := fun _ => True) (fun _ _ => trivial)).set (DDR_STATUS_MR4_2X c) (b2n hot) trivial |>.ddr c.isLt
  obtain ⟨h0, h1⟩ := get_showDebt_ranks (c := c) ((ddrSendBoth v c ⟨.modeRead, 0⟩).setB (DDR_STATUS_MR4_2X c) hot)
  rw [debt] at h0 h1
  refine ⟨_, by rw [exec, execFrostWake, run_eq, wakes], ?_, ?_, ?_, ?_, ?_⟩
  · rw [Work.finish_get _ _ hs, mr4Read, get_showDebt _ _ hdebt, Work.setB, Work.get_set_ne _ _ _ _ hmr, get_ddrSendBoth, ready]
  · rw [Work.finish_get _ _ hs, get_mr4Read]
  · rw [Work.finish_get _ _ hs]
    exact h0
  · rw [Work.finish_get _ _ hs]
    exact h1
  · rw [to_.view c.isLt]
    exact to_.leaves hs

/-- While a subchannel replays, no refresh, no MR4 poll and no ZQ calibration is issued. -/
theorem replay_blocks (s : State) (hs : s.wf = true) (c r : Fin 2) (hrep : (s.view.ddr c).replay.any id = true)
    (hst : s.get (DDR_STATUS_STATE c) = DDR_READY) (hr : r.val < ddrRanks s.view c) (hot traffic : Bool) (ms : BitVec 16) :
    Answers (.refreshDue c r traffic) s (fun t => Leaves s t [] s.view.dev) ∧
    Answers (.mr4Poll c hot) s (fun t => Leaves s t [] s.view.dev) ∧
    Answers (.zqDue c r traffic ms) s (fun t => Leaves s t [DDR_ZQ_MAXDEFER_MS c] { s.view.dev with
      ddr := vset s.dev.ddr c { s.view.ddr c with zqDue := (s.view.ddr c).zqDue.set r true } }) := by
  have replays : ¬(!((Work.start s).ddr c).replay.any id) = true := by
    rw [show (Work.start s).ddr c = s.view.ddr c from rfl, hrep]
    exact Bool.false_ne_true
  refine ⟨⟨_, ?_, leaves_start s hs⟩, ⟨_, ?_, leaves_start s hs⟩, ?_⟩
  · rw [exec, execRefreshDue, run_eq, refreshDue, if_neg (fun ⟨_, _, _, _, h⟩ => replays h)]
  · rw [exec, execMr4Poll, run_eq, if_neg (fun ⟨_, h⟩ => replays h)]
  · obtain ⟨t, ht, -, hl⟩ := zqDue_leaves s hs c r traffic ms hr (.inl hst) true (by simp only [zqWaits, hrep, Bool.or_true, Bool.true_or])
    exact ⟨t, ht, hl⟩

/-- Settles O47: each command of refresh, frost and calibration by the lemma that says what it leaves of its channel. -/
theorem refreshAndFrost : Obligations.RefreshAndFrost := by
  intro s hs c r d n kept
  refine ⟨fun hst hr hn hb hrep => ?_, fun hrep hst hr hot traffic ms => replay_blocks s hs c r hrep hst hr hot traffic ms,
    refreshComplete_idle s hs c r, fun x bs => refreshComplete_grants s c r x bs, fun hot hst hrep => mr4Poll_reads s hs c hot hst hrep,
    fun hst hidle h0 h1 hzq hbusy hrep hwait hwr =>
      frostEntry_leaves s hs c ⟨hst, hidle, h0, h1, hzq, hbusy, hrep, hwait, hwr⟩,
    fun hot hst => frostWake_leaves s hs c hot hst, fun traffic ms hr => ⟨fun hst hrep => ?_, fun hst => ?_⟩⟩
  · have due : RefreshIsDue s c r := ⟨hst, hr, hn, hb, hrep⟩
    exact ⟨fun traffic => refreshDue_postponed s hs c r due traffic, fun traffic => refreshDue_issued s hs c r due traffic⟩
  · refine zqDue_leaves s hs c r traffic ms hr (.inl hst) _ ?_
    rw [zqWaits, hst, hrep]
    rfl
  · obtain ⟨t, ht, hm, hl⟩ := zqDue_leaves s hs c r traffic ms hr (.inr hst) true (by rw [zqWaits, hst]; rfl)
    exact ⟨t, ht, hm, hl⟩

/-! ## A channel in FAULT while notifications are tried again (R274, R410) -/

section

variable {c : Nat} {u w : Work σ}

/-- STATUS of a channel and its counters of command parity. -/
def parityFlds (c : Nat) : List Fld := [DDR_STATUS_STATE c, DDR_STATUS_CAUSE c, DDR_PARITY_ALERTS c, DDR_PARITY_REPLAY_FAIL c]

/-- Channel c is in FAULT, with the cause and the counters that u shows. -/
def Faulted (c : Nat) (u w : Work σ) : Prop := w.get (DDR_STATUS_STATE c) = DDR_FAULT ∧ ∀ g ∈ parityFlds c, w.get g = u.get g

/-- A field apart from those. -/
def OffStatus (c : Nat) (f : Fld) : Prop := ∀ g ∈ parityFlds c, g.key ≠ f.key

theorem state_mem (c : Nat) : DDR_STATUS_STATE c ∈ parityFlds c := List.mem_cons_self

/-- A work that shows those fields as another does leaves the channel in FAULT. -/
theorem Faulted.of_flds {w' : Work σ} (h : Faulted c u w) (hg : ∀ f ∈ parityFlds c, w'.get f = w.get f) : Faulted c u w' :=
  ⟨(hg _ (state_mem c)).trans h.1, fun g hmem => (hg g hmem).trans (h.2 g hmem)⟩

theorem Faulted.set (h : Faulted c u w) (f : Fld) (v : Nat) (hf : OffStatus c f) : Faulted c u (w.set f v) :=
  h.of_flds (fun g hg => Work.get_set_ne _ _ _ _ (hf g hg))

theorem Faulted.of_get {w' : Work σ} (h : Faulted c u w) (hg : ∀ f, w'.get f = w.get f) : Faulted c u w' := h.of_flds (fun f _ => hg f)

/-- A register of a tile is not in STATUS of a channel. -/
theorem offStatus_of_le (hc : c < 2) (f : Fld) (hf : 0x10000000 ≤ f.addr) : OffStatus c f := by
  simp only [OffStatus, parityFlds, List.mem_cons, List.not_mem_nil, or_false, forall_eq_or_imp, forall_eq, Fld.key, DDR_STATUS_STATE,
    DDR_STATUS_CAUSE, DDR_PARITY_ALERTS, DDR_PARITY_REPLAY_FAIL]
  omega

theorem Faulted.each {α : Type} (h : Faulted c u w) (f : Work σ → α → Work σ) (l : List α)
    (hf : ∀ v x, Faulted c u v → Faulted c u (f v x)) : Faulted c u (w.each l f) := Work.each_keeps (Faulted c u) f hf l w h

/-- Traffic on the other channel writes no register of this one. -/
theorem offStatus_of_traffic (hc : c < 2) (k : Nat) (hk : k < 2) (hne : k ≠ c) : ∀ f ∈ trafficFlds k, OffStatus c f := by
  have two : (c = 0 ∧ k = 1) ∨ (c = 1 ∧ k = 0) := by omega
  rcases two with ⟨rfl, rfl⟩ | ⟨rfl, rfl⟩ <;> (unfold OffStatus parityFlds; decide)

theorem Faulted.ddrArrive_kept (h : Faulted c u w) (hc : c < 2) (k : Nat) (hk : k < 2) (hne : k ≠ c) (r : DdrReq)
    (hr : r.data = none) : Faulted c u (ddrArrive w k r) ∧ (ddrArrive w k r).rwipe = w.rwipe := by
  have served : Serves k w (ddrServed w k r) := by
    rw [ddrServed, hr]
    exact (Serves.refl w).serve hk _ _ _ _ _ _
  rw [ddrArrive]
  split
  · exact ⟨h.of_get (fun _ => rfl), rfl⟩
  · obtain ⟨d, hd, -⟩ := served
    have off := offStatus_of_traffic hc k hk hne
    obtain ⟨-, -, -, hwipe, -⟩ := id hd
    exact ⟨h.of_flds (fun f hf => hd.get f (fun g hg => off g hg f hf)), hwipe⟩

/-- Registers are read from what a work has wiped and written. -/
theorem get_congr {w w' : Work σ} (hr : w'.rwipe = w.rwipe) (hl : w'.rlog = w.rlog) (f : Fld) : w'.get f = w.get f := by
  simp only [Work.get, hr, hl]

theorem ddrAt_lt (a k off : Nat) (hk : ddrAt a = some (k, off)) : k < 2 := by
  rw [ddrAt] at hk
  split at hk
  · simp only [Option.some.injEq, Prod.mk.injEq] at hk
    omega
  · split at hk
    · simp only [Option.some.injEq, Prod.mk.injEq] at hk
      omega
    · cases hk

/-- An access of the device moves nothing on a channel in FAULT, which serves no request. -/
theorem Faulted.ddrLine_kept (h : Faulted c u w) (hc : c < 2) (cls : Nat) (write : Bool) (a : Nat) :
    Faulted c u (ddrLine w cls write a) := by
  rw [ddrLine]
  split
  · exact h
  next k off hk =>
    split
    next hserves =>
      have ne : k ≠ c := fun hkc => by
        rw [hkc, ddrServes, ddrState, h.1] at hserves
        exact absurd hserves (by simp [DDR_FAULT, DDR_READY, DDR_FROST])
      dsimp only
      obtain ⟨arrived, hwipe⟩ := Faulted.ddrArrive_kept (w := (w.free 9).2) (h.of_get (fun _ => rfl)) hc k (ddrAt_lt a k off hk) ne
        ⟨off, cls, write, bit (w.free 9).1 0, (w.free 9).1 / 4, bit (w.free 9).1 1, none⟩ rfl
      exact arrived.of_get (get_congr hwipe.symm rfl)
    · exact h

theorem Faulted.ddrTraffic_kept (h : Faulted c u w) (hc : c < 2) (cls : Nat) (write : Bool) (a n : Nat) :
    Faulted c u (ddrTraffic w cls write a n) := by
  rw [ddrTraffic]
  split
  · exact h
  · exact h.each _ _ (fun _ _ h => h.ddrLine_kept hc _ _ _)

theorem Faulted.fire (h : Faulted c u w) (n : Nat) : Faulted c u (w.fire n) := h.of_get (fun f => Work.get_fire w n f)

theorem Faulted.errlog_kept (h : Faulted c u w) (kind tile detail addr : Nat) (path : Path) :
    Faulted c u (w.errlog kind path tile detail addr) := by
  refine h.of_flds (fun f hf => get_errlog_of_addr w kind tile detail addr path f ?_ (.inr (.inl ?_))) <;>
    simp only [parityFlds, List.mem_cons, List.not_mem_nil, or_false] at hf <;>
    rcases hf with rfl | rfl | rfl | rfl <;>
    simp only [DDR_STATUS_STATE, DDR_STATUS_CAUSE, DDR_PARITY_ALERTS, DDR_PARITY_REPLAY_FAIL] <;> omega

theorem Faulted.ringWrite_kept (h : Faulted c u w) (hc : c < 2) (t i seq : Nat) (e : List Byte) :
    Faulted c u (ringWrite w t i seq e) := by
  have stored : ∀ (v : Work σ) (a : Nat) (bs : List Byte), Faulted c u v → Faulted c u (v.wrBytes a bs) :=
    fun v a bs hv => hv.of_get (fun f => Work.get_wrBytes v a bs f)
  have sent := stored _ (qAddr w t i seq) (withinCapacity w (qAddr w t i seq) e)
    (h.ddrTraffic_kept hc (ringClass w t i) true (qAddr w t i seq) (withinCapacity w (qAddr w t i seq) e).length)
  rw [ringWrite, Work.ddrWrite]
  split
  · exact sent.errlog_kept _ _ _ _ _
  · exact sent

theorem Faulted.qPut_kept (h : Faulted c u w) (hc : c < 2) (t i type : Nat) (payload : List Byte) :
    Faulted c u (qPut w t i type payload) :=
  (h.ringWrite_kept hc _ _ _ _).set _ _ (offStatus_of_le hc _ (by simp only [QT_SEQ_A, tileBase]; omega))

theorem Faulted.qOverflow_kept (h : Faulted c u w) (hc : c < 2) (t i : Nat) : Faulted c u (qOverflow w t i) :=
  ((h.set _ _ (offStatus_of_le hc (QT_CNT1_LOST t i) (by simp only [QT_CNT1_LOST, tileBase]; omega))).set _ _
    (offStatus_of_le hc (QUEUE_STATUS_LAST_OVF t) (by simp only [QUEUE_STATUS_LAST_OVF, tileBase]; omega))).fire _

theorem Faulted.compDrop_kept (h : Faulted c u w) (t i : Nat) (goes : Nat → Bool) : Faulted c u (compDrop w t i goes) := by
  have busy : OffStatus c COMP_STATUS_CBUSY := by
    simp only [OffStatus, parityFlds, List.mem_cons, List.not_mem_nil, or_false, forall_eq_or_imp, forall_eq, Fld.key, DDR_STATUS_STATE,
    DDR_STATUS_CAUSE, DDR_PARITY_ALERTS, DDR_PARITY_REPLAY_FAIL, COMP_STATUS_CBUSY]
    omega
  have abandoned : ∀ (v : Work σ) k, Faulted c u v → Faulted c u (compAbandon v t i goes k) := fun v k hv => by
    rw [compAbandon]
    split
    · exact hv
    · split
      · exact Faulted.set (hv.of_get (fun f => rfl)) _ _ busy
      · exact hv
  have all := h.each (fun w k => compAbandon w t i goes k) (List.range 8) abandoned
  rw [compDrop]
  generalize w.each (List.range 8) (fun w k => compAbandon w t i goes k) = v at all
  exact all.of_get (fun _ => rfl)

/-! ### What the transport sends -/

theorem Faulted.ipPacket_kept (h : Faulted c u w) (v6 : Bool) (src dst : Nat) (udp : List Byte) :
    Faulted c u (ipPacket w v6 src dst udp).2 := by
  rw [ipPacket]
  split <;> exact h.of_get (fun _ => rfl)

theorem Faulted.portEmit_kept (h : Faulted c u w) (p : Nat) (o : Out) (bytes : List Byte) :
    Faulted c u (portEmit w p o bytes) := by
  have frames : OffStatus c (ETH_TX_FRAMES p) := by
    simp only [OffStatus, parityFlds, List.mem_cons, List.not_mem_nil, or_false, forall_eq_or_imp, forall_eq, Fld.key, DDR_STATUS_STATE,
    DDR_STATUS_CAUSE, DDR_PARITY_ALERTS, DDR_PARITY_REPLAY_FAIL, ETH_TX_FRAMES]
    omega
  rw [portEmit]
  split
  · exact h
  · exact Faulted.set (h.of_get (fun _ => rfl)) _ _ frames

theorem Faulted.sendOwner_kept (h : Faulted c u w) (p : Nat) (bytes : List Byte) : Faulted c u (sendOwner w p bytes) := by
  rw [sendOwner]
  dsimp only
  generalize hpk : ipPacket w _ _ _ _ = pk
  have packed : Faulted c u pk.2 := hpk ▸ h.ipPacket_kept _ _ _ _
  exact Faulted.portEmit_kept (w := (pk.2.free 48).2) (packed.of_get (fun f => rfl)) _ _ _

theorem offStatus_hid (hc : c < 2) (block i width reset : Nat) : OffStatus c (hid block i width reset) := by
  simp only [OffStatus, parityFlds, List.mem_cons, List.not_mem_nil, or_false, forall_eq_or_imp, forall_eq, Fld.key, DDR_STATUS_STATE,
    DDR_STATUS_CAUSE, DDR_PARITY_ALERTS, DDR_PARITY_REPLAY_FAIL, hid]
  omega

theorem Faulted.sendGenond_kept (h : Faulted c u w) (hc : c < 2) (flags q count first : Nat) (own : Bool) (body : List Byte) :
    Faulted c u (sendGenond w flags q count first own body) := by
  have credited : ∀ x, Faulted c u (creditSent w x) := fun x => h.set _ _ (offStatus_hid hc _ _ _ _)
  rw [sendGenond]
  split
  · exact h
  · split
    · exact h
    · refine Faulted.sendOwner_kept ?_ _ _
      split
      · split
        · exact credited _
        · exact (credited _).set _ _ (offStatus_hid hc _ _ _ _)
      · exact h

theorem Faulted.sendStored_kept (hc : c < 2) (q seq : Nat) : ∀ (n off : Nat) (bs : List Byte) (w : Work σ), Faulted c u w →
    Faulted c u (sendStored q seq n off bs w)
  | 0, _, _, _, h => h
  | n + 1, off, bs, w, h => by
    rw [sendStored]
    split
    · exact h
    · exact Faulted.sendStored_kept hc q seq n _ _ _ (h.sendGenond_kept hc _ _ _ _ _ _)

theorem Faulted.sendRecord_kept (h : Faulted c u w) (hc : c < 2) (q : Nat) (e : List Byte) : Faulted c u (sendRecord w q e) := by
  rw [sendRecord]
  split
  · exact Faulted.sendStored_kept hc _ _ _ _ _ _ (h.ddrTraffic_kept hc _ _ _ _)
  · exact h

theorem Faulted.skipBad_kept (hc : c < 2) (q : Nat) : ∀ (n : Nat) (w : Work σ), Faulted c u w → Faulted c u (skipBad q n w)
  | 0, _, h => h
  | n + 1, w, h => by
    rw [skipBad]
    split
    · exact h
    · refine Faulted.skipBad_kept hc q n _ (Faulted.set (Faulted.set (h.ddrTraffic_kept hc _ _ _ _) _ _ (offStatus_of_le hc _ ?_)) _ _ (offStatus_hid hc _ _ _ _))
      simp only [QT_CNT1_BAD, tileBase]
      omega

theorem Faulted.sendEntries_kept (h : Faulted c u w) (hc : c < 2) (q : Nat) : Faulted c u (sendEntries w q) := by
  rw [sendEntries]
  split
  · exact h
  · have skipped := Faulted.skipBad_kept hc q (qFill w (q / 512) (q % 512)) w h
    dsimp only
    split
    · exact skipped
    · have read : ∀ (v : Work σ) (es : List (List Byte)), Faulted c u v → Faulted c u
          (v.each es (fun w e => sendRecord (ringRead w (q / 512) (q % 512) (entrySeq e)) q e)) := fun v es hv =>
        hv.each _ _ (fun v e hv => Faulted.sendRecord_kept (hv.ddrTraffic_kept hc _ _ _ _) hc _ _)
      exact ((read _ _ skipped).sendGenond_kept hc _ _ _ _ _ _).set _ _ (offStatus_hid hc _ _ _ _) |>.of_get (fun f => rfl)

theorem Faulted.sendFull_kept (h : Faulted c u w) (hc : c < 2) (t i : Nat) : Faulted c u (sendFull w t i) := by
  rw [sendFull]
  split
  · exact h.sendEntries_kept hc _
  · exact h

/-! ### Notifications -/

theorem Faulted.setNote_kept (h : Faulted c u w) (n : NoteLogic) : Faulted c u (setNote w n) := h.of_get (fun _ => rfl)

theorem Faulted.pushed_kept (h : Faulted c u w) (hc : c < 2) (t i : Nat) (hi : i < 256) : Faulted c u (pushed w t i) := by
  rw [Machine.pushed, if_pos hi]
  exact h.sendFull_kept hc _ _

/-- A push to an outbound host queue. -/
theorem Faulted.qPush_kept (h : Faulted c u w) (hc : c < 2) (t i type : Nat) (payload : List Byte) (hi : i < 256) :
    ∀ v, qPush w t i type payload = some v → Faulted c u v := by
  intro v hv
  rw [qPush] at hv
  split at hv
  · cases hv
    exact h.qOverflow_kept hc _ _
  · split at hv
    · cases hv
      exact (h.qPut_kept hc _ _ _ _).pushed_kept hc _ _ hi
    · split at hv
      · cases hv
        refine Faulted.pushed_kept (Faulted.qPut_kept (Faulted.qOverflow_kept ?_ hc _ _) hc _ _ _ _) hc _ _ hi
        have dropped : Faulted c u ((compDrop w t i (fun n => decide (n = w.get (QTAIL t i)))).set (QTAIL t i) (w.get (QTAIL t i) + 1)) :=
          (h.compDrop_kept _ _ _).set _ _ (offStatus_hid hc _ _ _ _)
        split
        · exact dropped.set _ _ (offStatus_hid hc _ _ _ _)
        · exact dropped
      · cases hv

theorem Faulted.noteAct_kept (h : Faulted c u w) (hc : c < 2) (m : EventMsg) : Faulted c u (noteAct w m) := by
  have lost : OffStatus c EVENTS_NOTE_LOST := by
    simp only [OffStatus, parityFlds, List.mem_cons, List.not_mem_nil, or_false, forall_eq_or_imp, forall_eq, Fld.key, DDR_STATUS_STATE,
    DDR_STATUS_CAUSE, DDR_PARITY_ALERTS, DDR_PARITY_REPLAY_FAIL, EVENTS_NOTE_LOST]
    omega
  rw [noteAct]
  dsimp only
  split
  next hq =>
    rw [qOutHost, Bool.and_eq_true, Bool.and_eq_true, decide_eq_true_eq, decide_eq_true_eq] at hq
    split
    next v hv => exact (h.qPush_kept hc _ _ _ _ hq.1.2 v hv).setNote_kept _
    · exact h.setNote_kept _
  · exact (h.set _ _ lost).setNote_kept _

theorem Faulted.noteRetry_kept (h : Faulted c u w) (hc : c < 2) : Faulted c u (noteRetry w) := by
  rw [noteRetry]
  refine h.each _ _ (fun v n hv => ?_)
  split
  · exact hv
  · have acted : ∀ (v : Work σ) n m, Faulted c u v → Faulted c u (noteAct (setNote v n) m) := fun v n m hv =>
      (hv.setNote_kept n).noteAct_kept hc m
    dsimp only
    split
    · exact acted _ _ _ (acted _ _ _ hv)
    · exact acted _ _ _ hv

end

/-! ## An entry of the error log behind which a source fires -/

theorem tl_of_quiet {w : Work σ} (h : Quiet w) : w.tl = σ.tl := by
  obtain ⟨-, -, -, -, -, htl⟩ := h
  rw [Work.tl, htl]
  rfl

/-- An entry of the error log and a firing, on a work that has neither the clock nor the log's head moved. -/
theorem errlog_fire_effect (w : Work σ) (kind tile detail addr src : Nat) (path : Path) (hs : σ.wf = true)
    (hh : w.get DEV_ERRLOG_HEAD = σ.get DEV_ERRLOG_HEAD) (hnt : w.get NT_NOW = σ.get NT_NOW) (hq : Quiet w) (hkind : kind < 2 ^ 8)
    (htile : tile < 2 ^ 6) :
    ∃ w' : Work σ, (w.errlog kind path tile detail addr).fire src = w' ∧ Logged σ w'.finish kind path.code tile addr ∧
      (∀ fs, logFlds (σ.get DEV_ERRLOG_HEAD) ⊆ fs → Keeps w fs → Keeps w' fs) ∧ Quiet w' ∧
      w'.dev = { w.dev with held := w.dev.held ++ [σ.firing 487, σ.firing src] } ∧ w'.fresh = w.fresh := by
  obtain ⟨v, hv, hlog, hkeeps, hquiet, hdev, hfresh⟩ := errlog_effect w kind tile detail addr path hs hh hkind htile
  have nt : v.get NT_NOW = σ.get NT_NOW := by
    rw [← hv, get_errlog_of_addr w kind tile detail addr path NT_NOW (by decide) (by decide), hnt]
  have quiet := hquiet.2 hq
  refine ⟨_, rfl, logged_of_get hs (hv ▸ hlog) (fun f => Work.get_fire _ _ f), fun fs hfs hk => ?_, ?_, ?_, ?_⟩
  · rw [keeps_fire, hv]
    exact (hkeeps fs hfs).2 hk
  · rw [hv]
    exact quiet
  · rw [fire_dev, hv, firing_eq v src (tl_of_quiet quiet) nt, hdev, firing_eq w 487 (tl_of_quiet hq) hnt, List.append_assoc]
    rfl
  · rw [hv]
    exact hfresh

/-! ## A channel that faults (R410) -/

/-- Notifications of which none waits are not tried again. -/
theorem noteRetry_idle (w : Work σ) (h : ∀ n ∈ w.dev.notes, n.waiting = none) : noteRetry w = w := by
  have idle : ∀ src, (noteOf w src).waiting = none := fun src => by
    rw [noteOf]
    cases hf : w.dev.notes.find? (fun n => n.src = src) with
    | none => rfl
    | some n => exact h n (List.mem_of_find?_eq_some hf)
  rw [noteRetry]
  exact Work.each_keeps (fun v => v = w) _ (fun v n hv => by rw [hv, idle]) _ _ rfl

/-- The state of a channel that has faulted. -/
def faultedDdr (d : DdrSt) : DdrSt :=
  { d with replay := [false, false], fails := [0, 0], writes := [[], []], waiting := [], writer := [] }

/-- STATUS and the counters of command parity lie outside the error log and apart from NT. -/
theorem chan_apart (c : Nat) (f : Fld) (hf : f ∈ parityFlds c) : NT_NOW.key ≠ f.key ∧ DEV_ERRLOG_HEAD.key ≠ f.key := by
  simp only [parityFlds, List.mem_cons, List.not_mem_nil, or_false] at hf
  rcases hf with rfl | rfl | rfl | rfl <;>
    simp only [Fld.key, NT_NOW, DEV_ERRLOG_HEAD, DDR_STATUS_STATE, DDR_STATUS_CAUSE, DDR_PARITY_ALERTS, DDR_PARITY_REPLAY_FAIL, hid,
      hidDev] <;> omega

/-- The two counters of command parity lie apart from each other and from STATUS. -/
theorem parity_apart (c : Nat) : (DDR_PARITY_ALERTS c).key ≠ (DDR_PARITY_REPLAY_FAIL c).key ∧
    ∀ f ∈ [DDR_PARITY_ALERTS c, DDR_PARITY_REPLAY_FAIL c], f.key ≠ (DDR_STATUS_STATE c).key ∧ f.key ≠ (DDR_STATUS_CAUSE c).key := by
  simp only [List.mem_cons, List.not_mem_nil, or_false, forall_eq_or_imp, forall_eq, Fld.key, DDR_PARITY_ALERTS, DDR_PARITY_REPLAY_FAIL,
    DDR_STATUS_STATE, DDR_STATUS_CAUSE]
  omega

/-- What a fault of channel c does, from a work that has counted what led to it. -/
theorem channelFaulted {s : State} (hs : s.wf = true) {c : Nat} (hc : c < 2) (cause : Nat) (hcause : cause < 8) (fs : List Fld) {w : Work s}
    (h : DdrTo (· ∈ fs) c (Work.start s) w (s.view.ddr c)) (hfs : ∀ f ∈ fs, f ∈ [DDR_PARITY_ALERTS c, DDR_PARITY_REPLAY_FAIL c]) :
    (∀ f ∈ [DDR_PARITY_ALERTS c, DDR_PARITY_REPLAY_FAIL c], (ddrFault w c cause).finish.get f = w.get f) ∧
      ChannelFaulted s (ddrFault w c cause).finish c cause fs := by
  have wider : ∀ f ∈ [DDR_STATUS_STATE c, DDR_STATUS_CAUSE c] ++ fs, f ∈ parityFlds c := fun f hf => by
    rcases List.mem_append.1 hf with hf | hf
    · exact List.mem_append_left [DDR_PARITY_ALERTS c, DDR_PARITY_REPLAY_FAIL c] hf
    · exact List.mem_append_right [DDR_STATUS_STATE c, DDR_STATUS_CAUSE c] (hfs f hf)
  have to_ := (((h.mono (K' := (· ∈ [DDR_STATUS_STATE c, DDR_STATUS_CAUSE c] ++ fs)) (fun g hg => List.mem_append_right _ hg)).set
    (DDR_STATUS_STATE c) DDR_FAULT (by simp)).set (DDR_STATUS_CAUSE c) cause (by simp)).upd hc faultedDdr
  have two : (DDR_STATUS_STATE c).key ≠ (DDR_STATUS_CAUSE c).key := by
    simp only [Fld.key, DDR_STATUS_STATE, DDR_STATUS_CAUSE]
    omega
  have state_ : (((w.set (DDR_STATUS_STATE c) DDR_FAULT).set (DDR_STATUS_CAUSE c) cause).updDdr c faultedDdr).get (DDR_STATUS_STATE c) =
      DDR_FAULT := by
    rw [get_updDdr, Work.get_set_ne _ _ _ _ two, Work.get_set_self]
    rfl
  have cause_ : (((w.set (DDR_STATUS_STATE c) DDR_FAULT).set (DDR_STATUS_CAUSE c) cause).updDdr c faultedDdr).get (DDR_STATUS_CAUSE c) =
      cause := by
    rw [get_updDdr, Work.get_set_self]
    exact Nat.mod_eq_of_lt hcause
  have counters : ∀ f ∈ [DDR_PARITY_ALERTS c, DDR_PARITY_REPLAY_FAIL c],
      (((w.set (DDR_STATUS_STATE c) DDR_FAULT).set (DDR_STATUS_CAUSE c) cause).updDdr c faultedDdr).get f = w.get f := fun f hf => by
    obtain ⟨hst, hca⟩ := (parity_apart c).2 f hf
    rw [get_updDdr, Work.get_set_ne _ _ _ _ hca, Work.get_set_ne _ _ _ _ hst]
  have fault : ddrFault w c cause = noteRetry (((((w.set (DDR_STATUS_STATE c) DDR_FAULT).set (DDR_STATUS_CAUSE c) cause).updDdr c
    faultedDdr).errlog 0x08 .hardware devTile (2 + c) 0).fire (480 + c)) := rfl
  rw [fault]
  generalize ((w.set (DDR_STATUS_STATE c) DDR_FAULT).set (DDR_STATUS_CAUSE c) cause).updDdr c faultedDdr = v at *
  have kept := to_.get
  obtain ⟨hget, hq, hfresh, -, hdev⟩ := to_
  have at_ : ∀ f, (∀ g ∈ [DDR_STATUS_STATE c, DDR_STATUS_CAUSE c] ++ fs, f.key ≠ g.key) → v.get f = s.get f := fun f hf =>
    (hget f hf).trans (Work.get_start s f)
  obtain ⟨u, hu, hlog, hkeeps, hquiet, hudev, hufresh⟩ := errlog_fire_effect v 0x08 devTile (2 + c) 0 (480 + c) .hardware hs
    (at_ _ (fun g hg => (chan_apart c g (wider g hg)).2)) (at_ _ (fun g hg => (chan_apart c g (wider g hg)).1)) (hq (quiet_start s))
    (by decide) (by decide)
  have shows : Faulted c v v := ⟨state_, fun _ _ => rfl⟩
  have fired : Faulted c v u := hu ▸ (shows.errlog_kept _ _ _ _ _).fire _
  rw [hu]
  obtain ⟨hst, hflds⟩ := fired.noteRetry_kept hc
  refine ⟨fun f hf => (Work.finish_get _ _ hs).trans ((hflds f ?_).trans (counters f hf)), (Work.finish_get _ _ hs).trans hst,
    (Work.finish_get _ _ hs).trans ((hflds _ (by simp [parityFlds])).trans cause_), fun hnotes => ?_⟩
  · exact List.mem_append_right [DDR_STATUS_STATE c, DDR_STATUS_CAUSE c] hf
  rw [noteRetry_idle u (by rw [hudev, hdev]; exact hnotes)]
  refine ⟨hlog, leaves_finish hs (hkeeps _ (List.subset_append_right _ _) ?_) hquiet ?_ (hufresh.trans hfresh)⟩
  · exact fun f hf => (hget f (fun g hg => hf g (List.mem_append_left _ hg))).trans (Work.get_start s f)
  · rw [hudev, hdev]
    rfl

/-! ## Training (R404, R418) -/

/-- A byte outside what a command wipes reads as before. -/
theorem rd8_wipeMem_start (s : State) (r : Nat × Nat) (a : Nat) (ha : ¬(r.1 ≤ a ∧ a < r.2)) :
    ((Work.start s).wipeMem [r]).rd8 a = s.byteAt a := by
  have out : inRanges ([r] ++ (Work.start s).mwipe) a = false := by
    rw [show [r] ++ (Work.start s).mwipe = [r] from rfl, inRanges, List.any_cons, List.any_nil, Bool.or_false, Bool.and_eq_false_iff,
      decide_eq_false_iff_not, decide_eq_false_iff_not]
    exact not_and_or.1 ha
  have lost : lostAt ([r] ++ (Work.start s).lost) a = lostAt s.lost a := by
    have outside : (decide (r.1 ≤ a) && decide (a < r.2)) = false := by
      rw [Bool.and_eq_false_iff, decide_eq_false_iff_not, decide_eq_false_iff_not]
      exact not_and_or.1 ha
    rw [lostAt, List.singleton_append, List.filter_cons, outside]
    rfl
  rw [Work.rd8, Work.wipeMem]
  dsimp only
  rw [out, lost]
  rfl

theorem qdrTrain_starts (s : State) (hs : s.wf = true) (p : Fin 2) :
    Answers (.qdrTrain p) s (fun t => t.get (QDR_STATUS p) = QDR_TRAINING ∧ Plain s t [QDR_STATUS p]) := by
  have kept : Keeps ((Work.start s).set (QDR_STATUS p) QDR_TRAINING) [QDR_STATUS p] := by simp
  refine ⟨_, by rw [exec, execQdrTrain, run_eq, qdrTrain], ?_, plain_finish hs kept (quiet_start s) rfl rfl⟩
  rw [Work.finish_get _ _ hs, Work.get_set_self]
  rfl

/-- STATUS of a QDR port and the bit that shows it trained are apart, and outside the error log and NT. -/
theorem qdr_apart (p : Fin 2) : (QDR_STATUS p).key ≠ (qdrTrainedBit p).key ∧ (qdrTrainedBit p).width = 1 ∧
    NT_NOW.key ≠ (QDR_STATUS p).key ∧ DEV_ERRLOG_HEAD.key ≠ (QDR_STATUS p).key ∧ (QDR_STATUS p).lo < 32 ∧
    0x2000 ≤ (QDR_STATUS p).addr := by
  revert p
  decide

theorem qdrTrainDone_ready (s : State) (hs : s.wf = true) (p : Fin 2) (hst : s.get (QDR_STATUS p) = QDR_TRAINING) :
    Answers (.qdrTrainDone p true) s (fun t => t.get (QDR_STATUS p) = QDR_READY ∧ t.get (qdrTrainedBit p) = 1 ∧
      Plain s t [QDR_STATUS p, qdrTrainedBit p]) := by
  obtain ⟨apart, width, -⟩ := qdr_apart p
  have kept : Keeps (((Work.start s).set (QDR_STATUS p) QDR_READY).set (qdrTrainedBit p) 1) [QDR_STATUS p, qdrTrainedBit p] := by
    simp
  refine ⟨_, by rw [exec, execQdrTrainDone, run_eq, qdrTrainDone, if_pos (by rw [Work.get_start]; exact hst), if_pos rfl], ?_, ?_,
    plain_finish hs kept (quiet_start s) rfl rfl⟩
  · rw [Work.finish_get _ _ hs, Work.get_set_ne _ _ _ _ apart, Work.get_set_self]
    rfl
  · rw [Work.finish_get _ _ hs, Work.get_set_self, width]
    rfl

theorem qdrTrainDone_failed (s : State) (hs : s.wf = true) (p : Fin 2) (hst : s.get (QDR_STATUS p) = QDR_TRAINING) :
    Answers (.qdrTrainDone p false) s (fun t => t.get (QDR_STATUS p) = QDR_FAILED ∧ Logged s t 8 3 63 0 ∧
      Leaves s t (QDR_STATUS p :: logFlds (s.get DEV_ERRLOG_HEAD)) { s.view.dev with
        held := s.dev.held ++ [s.firing 487, s.firing (482 + p)] }) := by
  obtain ⟨-, -, hnt, hhead, hlo, haddr⟩ := qdr_apart p
  have kept : Keeps ((Work.start s).set (QDR_STATUS p) QDR_FAILED) [QDR_STATUS p] := by simp
  have wider : Keeps ((Work.start s).set (QDR_STATUS p) QDR_FAILED) (QDR_STATUS p :: logFlds (s.get DEV_ERRLOG_HEAD)) := by simp
  obtain ⟨u, hu, hlog, hkeeps, hquiet, hudev, hufresh⟩ := errlog_fire_effect ((Work.start s).set (QDR_STATUS p) QDR_FAILED) 0x08 devTile p 0
    (482 + p) .hardware hs (kept _ (by simpa using hhead)) (kept _ (by simpa using hnt)) (quiet_start s) (by decide) (by decide)
  have failed : u.get (QDR_STATUS p) = QDR_FAILED := by
    rw [← hu, Work.get_fire, get_errlog_of_addr _ _ _ _ _ _ _ hlo (.inr (.inl haddr)), Work.get_set_self]
    rfl
  exact ⟨_, by rw [exec, execQdrTrainDone, run_eq, qdrTrainDone, if_pos (by rw [Work.get_start]; exact hst), if_neg Bool.false_ne_true, hu],
    (Work.finish_get _ _ hs).trans failed, hlog,
    leaves_finish hs (hkeeps _ (List.subset_cons_self _ _) wider) hquiet hudev hufresh⟩

/-- Training that starts, on a work that has the registers as the command found them. -/
def trainStarted (w : Work σ) (c : Nat) : Work σ := (w.set (DDR_STATUS_STATE c) DDR_TRAINING).updDdr c (fun _ => DdrSt.reset)

theorem ddrTrain_eq (w : Work σ) (c : Nat) : ddrTrain w c =
    trainStarted (if ddrState w c = DDR_FAULT then w.wipeMem [(ddrBase c, ddrBase c + 2 ^ 37)] else w) c := rfl

theorem ddrTrain_starts (s : State) (hs : s.wf = true) (p : Fin 2) :
    Answers (.ddrTrain p) s (fun t => t.get (DDR_STATUS_STATE p) = DDR_TRAINING ∧ RegsBut s t [DDR_STATUS_STATE p] ∧
      t.dev = { s.view.dev with ddr := vset s.dev.ddr p DdrSt.reset } ∧
      (s.get (DDR_STATUS_STATE p) ≠ DDR_FAULT → StoresKept s t) ∧
      (∀ a, ¬(ddrBase p ≤ a ∧ a < ddrBase p + 2 ^ 37) → t.byteAt a = s.byteAt a) ∧ (∀ a, t.flashAt a = s.flashAt a) ∧
      t.tl = s.tl ∧ t.fuse = s.fuse ∧ t.pending = s.pending) := by
  have training : ∀ w : Work s, (trainStarted w p).finish.get (DDR_STATUS_STATE p) = DDR_TRAINING := fun w => by
    rw [Work.finish_get _ _ hs, trainStarted, get_updDdr, Work.get_set_self]
    rfl
  have regs : ∀ w : Work s, (∀ f, w.get f = s.get f) → RegsBut s (trainStarted w p).finish [DDR_STATUS_STATE p] := fun w hw =>
    regsBut_finish hs (fun f hf => (Work.get_set_ne _ _ _ _ (hf _ List.mem_cons_self)).trans (hw f))
  have answers : exec (.ddrTrain p) s = .next (trainStarted (if ddrState (Work.start s) p = DDR_FAULT then
      (Work.start s).wipeMem [(ddrBase p, ddrBase p + 2 ^ 37)] else Work.start s) p).finish := by
    rw [exec, execDdrTrain, run_eq, ddrTrain_eq]
  rw [show ddrState (Work.start s) p = s.get (DDR_STATUS_STATE p) from Work.get_start s _] at answers
  refine ⟨_, answers, training _, ?_⟩
  split
  next hf =>
    refine ⟨regs _ (fun f => Work.get_start s f), rfl, fun h => absurd hf h, fun a ha => ?_, fun a => ?_, Tl.apply_keep _, rfl, rfl⟩
    · exact (Work.finish_byteAt _ _ hs).trans (rd8_wipeMem_start s _ a ha)
    · exact (Work.finish_flashAt _ _ hs).trans rfl
  next hf =>
    have stores : StoresKept s (trainStarted (Work.start s) p).finish := storesKept_finish hs (quiet_start s)
    exact ⟨regs _ (fun f => Work.get_start s f), rfl, fun _ => stores, fun a _ => stores.1 a, stores.2, Tl.apply_keep _, rfl, rfl⟩

/-- STATUS of a channel, the bit that shows it trained, and DEBT are apart. -/
theorem trained_apart (p : Fin 2) : (DDR_STATUS_STATE p).key ≠ (DDR_STATUS_CAUSE p).key ∧ (DDR_STATUS_STATE p).key ≠ (ddrTrained p).key ∧
    (DDR_STATUS_CAUSE p).key ≠ (ddrTrained p).key ∧ (ddrTrained p).width = 1 ∧
    ∀ f ∈ [DDR_STATUS_STATE p, DDR_STATUS_CAUSE p, ddrTrained p], ∀ g ∈ debtFlds p, f.key ≠ g.key := by
  revert p
  decide

theorem ddrTrainDone_ready (s : State) (hs : s.wf = true) (p : Fin 2) (hst : s.get (DDR_STATUS_STATE p) = DDR_TRAINING) :
    Answers (.ddrTrainDone p true) s (fun t => t.get (DDR_STATUS_STATE p) = DDR_READY ∧ t.get (DDR_STATUS_CAUSE p) = 0 ∧
      t.get (ddrTrained p) = 1 ∧ Plain s t ([DDR_STATUS_STATE p, DDR_STATUS_CAUSE p, ddrTrained p] ++ debtFlds p)) := by
  obtain ⟨h01, h02, h12, hw, hdebt⟩ := trained_apart p
  simp only [List.forall_mem_cons, List.not_mem_nil, false_imp_iff, implies_true, and_true] at hdebt
  obtain ⟨d0, d1, d2⟩ := hdebt
  have to_ := ((((DdrTo.refl (K := (· ∈ [DDR_STATUS_STATE p, DDR_STATUS_CAUSE p, ddrTrained p] ++ debtFlds p)) (c := p) (Work.start s)).set
    (DDR_STATUS_STATE p) DDR_READY (by simp)).set (DDR_STATUS_CAUSE p) 0 (by simp)).set (ddrTrained p) 1 (by simp)).showDebt
    (fun f hf => List.mem_append_right _ hf)
  refine ⟨_, by rw [exec, execDdrTrainDone, run_eq, ddrTrainDone, if_pos (show ddrState (Work.start s) p = _ from hst), if_pos rfl],
    ?_, ?_, ?_, ?_⟩
  · rw [Work.finish_get _ _ hs, get_showDebt (c := p) _ _ d0, Work.get_set_ne _ _ _ _ h02, Work.get_set_ne _ _ _ _ h01, Work.get_set_self]
    rfl
  · rw [Work.finish_get _ _ hs, get_showDebt (c := p) _ _ d1, Work.get_set_ne _ _ _ _ h12, Work.get_set_self]
    rfl
  · rw [Work.finish_get _ _ hs, get_showDebt (c := p) _ _ d2, Work.get_set_self, hw]
    rfl
  · obtain ⟨hframe, -, hfresh⟩ := to_.leaves hs
    exact ⟨hframe, rfl, hfresh⟩

theorem ddrTrainDone_failed (s : State) (hs : s.wf = true) (p : Fin 2) (hst : s.get (DDR_STATUS_STATE p) = DDR_TRAINING) :
    Answers (.ddrTrainDone p false) s (fun t => ChannelFaulted s t p 1 []) := by
  refine ⟨_, by rw [exec, execDdrTrainDone, run_eq, ddrTrainDone, if_pos (show ddrState (Work.start s) p = _ from hst),
    if_neg Bool.false_ne_true],
    (channelFaulted hs p.isLt 1 (by decide) [] (.refl _) (fun f hf => absurd hf List.not_mem_nil)).2⟩

theorem portTraining : Clause.PortTraining := fun s hs p =>
  ⟨qdrTrain_starts s hs p, fun hst => ⟨qdrTrainDone_ready s hs p hst, qdrTrainDone_failed s hs p hst⟩, ddrTrain_starts s hs p,
    fun hst => ⟨ddrTrainDone_ready s hs p hst, ddrTrainDone_failed s hs p hst⟩⟩

/-! ## Command parity (R409) -/

/-- A replay that starts: the retry buffer is sent again, and the channel's source fires. -/
def replayStarted (w : Work σ) (c sub : Nat) : Work σ := (ddrReplay w c sub).fire (480 + c)

theorem get_replayStarted (w : Work σ) (c sub : Nat) (f : Fld) : (replayStarted w c sub).get f = w.get f := rfl

/-- What a replay that starts leaves, on a work that has counted ALERT_N and brought the channel to d. -/
theorem replay_leaves {s : State} (hs : s.wf = true) {c : Nat} (hc : c < 2) (sub : Nat) (fs : List Fld) {w : Work s} {d : DdrSt}
    (h : DdrTo (· ∈ fs) c (Work.start s) w d) (hfs : ∀ f ∈ fs, f ∈ [DDR_PARITY_ALERTS c, DDR_PARITY_REPLAY_FAIL c]) :
    Leaves s (replayStarted w c sub).finish fs { s.view.dev with
      ddr := vset s.dev.ddr c { d with replay := d.replay.set sub true }
      held := s.dev.held ++ [s.firing (480 + c)]
      out := [Out.port "DDR_REPLAY" (c :: sub :: ((d.cmds.getD sub []).reverse.flatMap (fun x => [x.op.code, x.at_])))] } := by
  have started := h.upd hc (fun d => { d with replay := d.replay.set sub true })
  have buffer : w.ddr c = d := h.ddr hc
  obtain ⟨hget, hq, hfresh, -, hdev⟩ := started
  have keeps : Keeps (w.updDdr c (fun d => { d with replay := d.replay.set sub true })) fs := fun f hf =>
    (hget f hf).trans (Work.get_start s f)
  have nt := keeps NT_NOW (fun g hg => (chan_apart c g (List.mem_append_right [DDR_STATUS_STATE c, DDR_STATUS_CAUSE c] (hfs g hg))).1)
  have fires := firing_eq (w.updDdr c (fun d => { d with replay := d.replay.set sub true })) (480 + c) (tl_of_quiet (hq (quiet_start s))) nt
  refine leaves_finish hs keeps (hq (quiet_start s)) ?_ hfresh
  rw [replayStarted, fire_dev, ddrReplay, emit_dev, buffer, ← fires, hdev]
  rfl

/-- ALERT_N counted at a channel. -/
theorem alert_counted (w : Work σ) (c : Nat) : DdrTo (· ∈ [DDR_PARITY_ALERTS c]) c w (w.inc (DDR_PARITY_ALERTS c)) (w.ddr c) :=
  (DdrTo.refl w).inc _ List.mem_cons_self

/-- ALERT_N during a replay, counted. -/
def failureCounted (w : Work σ) (c : Nat) : Work σ := (w.inc (DDR_PARITY_ALERTS c)).inc (DDR_PARITY_REPLAY_FAIL c)

theorem failure_counted (w : Work σ) (c : Nat) : DdrTo (· ∈ [DDR_PARITY_ALERTS c, DDR_PARITY_REPLAY_FAIL c]) c w
    (failureCounted w c) (w.ddr c) := ((DdrTo.refl w).inc _ (by simp)).inc _ (by simp)

theorem failureCounted_counts (s : State) (c : Nat) :
    (failureCounted (Work.start s) c).get (DDR_PARITY_ALERTS c) =
        min (2 ^ (DDR_PARITY_ALERTS c).width - 1) (s.get (DDR_PARITY_ALERTS c) + 1) ∧
      (failureCounted (Work.start s) c).get (DDR_PARITY_REPLAY_FAIL c) =
        min (2 ^ (DDR_PARITY_REPLAY_FAIL c).width - 1) (s.get (DDR_PARITY_REPLAY_FAIL c) + 1) := by
  obtain ⟨two, -⟩ := parity_apart c
  constructor
  · exact (Work.get_inc_ne _ _ _ two).trans (get_inc (Work.start s) _)
  · refine (get_inc ((Work.start s).inc (DDR_PARITY_ALERTS c)) _).trans ?_
    rw [Work.get_inc_ne _ _ _ two.symm, Work.get_start]

theorem alert_outside (s : State) (c : Fin 2) (hst : s.get (DDR_STATUS_STATE c) = DDR_READY ∨ s.get (DDR_STATUS_STATE c) = DDR_TRAINING) :
    ddrState (Work.start s) c = DDR_READY ∨ ddrState (Work.start s) c = DDR_TRAINING := hst

theorem alert_starts (s : State) (hs : s.wf = true) (c sub : Fin 2)
    (hst : s.get (DDR_STATUS_STATE c) = DDR_READY ∨ s.get (DDR_STATUS_STATE c) = DDR_TRAINING)
    (hrep : (s.view.ddr c).replay.getD sub false = false) :
    Answers (.ddrAlert c sub) s (fun t => Counted s t (DDR_PARITY_ALERTS c) ∧ Leaves s t [DDR_PARITY_ALERTS c] { s.view.dev with
      ddr := vset s.dev.ddr c { s.view.ddr c with replay := (s.view.ddr c).replay.set sub true }
      held := s.dev.held ++ [s.firing (480 + c)]
      out := [Out.port "DDR_REPLAY" (c.val :: sub.val ::
        (((s.view.ddr c).cmds.getD sub []).reverse.flatMap (fun x => [x.op.code, x.at_])))] }) := by
  have alerts : ddrAlert (Work.start s) c sub = replayStarted ((Work.start s).inc (DDR_PARITY_ALERTS c)) c sub := by
    rw [ddrAlert, if_pos (alert_outside s c hst), if_neg (show ¬((Work.start s).ddr c).replay.getD sub false = true from
      (Bool.eq_false_iff.1 hrep))]
    rfl
  refine ⟨_, by rw [exec, execDdrAlert, run_eq, alerts], ?_,
    replay_leaves hs c.isLt sub _ (alert_counted _ _) (fun f hf => List.mem_cons.2 (.inl (List.mem_singleton.1 hf)))⟩
  exact (Work.finish_get _ _ hs).trans (get_inc (Work.start s) _)

theorem alert_fails (s : State) (hs : s.wf = true) (c sub : Fin 2)
    (hst : s.get (DDR_STATUS_STATE c) = DDR_READY ∨ s.get (DDR_STATUS_STATE c) = DDR_TRAINING)
    (hrep : (s.view.ddr c).replay.getD sub false = true) (hfails : (s.view.ddr c).fails.getD sub 0 + 1 < 3) :
    Answers (.ddrAlert c sub) s (fun t => Counted s t (DDR_PARITY_ALERTS c) ∧ Counted s t (DDR_PARITY_REPLAY_FAIL c) ∧
      Leaves s t [DDR_PARITY_ALERTS c, DDR_PARITY_REPLAY_FAIL c] { s.view.dev with
        ddr := vset s.dev.ddr c { s.view.ddr c with
          replay := (s.view.ddr c).replay.set sub true
          fails := (s.view.ddr c).fails.set sub ((s.view.ddr c).fails.getD sub 0 + 1) }
        held := s.dev.held ++ [s.firing (480 + c)]
        out := [Out.port "DDR_REPLAY" (c.val :: sub.val ::
          (((s.view.ddr c).cmds.getD sub []).reverse.flatMap (fun x => [x.op.code, x.at_])))] }) := by
  have alerts : ddrAlert (Work.start s) c sub = replayStarted ((failureCounted (Work.start s) c).updDdr c
      (fun d => { d with fails := d.fails.set sub ((s.view.ddr c).fails.getD sub 0 + 1) })) c sub := by
    rw [ddrAlert, if_pos (alert_outside s c hst), if_pos (show ((Work.start s).ddr c).replay.getD sub false = true from hrep)]
    exact if_neg (Nat.not_le.2 hfails)
  obtain ⟨halerts, hfail⟩ := failureCounted_counts s c
  have counted := failure_counted (Work.start s) c
  generalize failureCounted (Work.start s) c = v at *
  refine ⟨_, by rw [exec, execDdrAlert, run_eq, alerts], ?_, ?_, replay_leaves hs c.isLt sub _ (counted.upd c.isLt _) (fun f hf => hf)⟩
  · rw [Counted, Work.finish_get _ _ hs, get_replayStarted, get_updDdr, halerts]
  · rw [Counted, Work.finish_get _ _ hs, get_replayStarted, get_updDdr, hfail]

theorem alert_faults (s : State) (hs : s.wf = true) (c sub : Fin 2)
    (hst : s.get (DDR_STATUS_STATE c) = DDR_READY ∨ s.get (DDR_STATUS_STATE c) = DDR_TRAINING)
    (hrep : (s.view.ddr c).replay.getD sub false = true) (hfails : 3 ≤ (s.view.ddr c).fails.getD sub 0 + 1) :
    Answers (.ddrAlert c sub) s (fun t => Counted s t (DDR_PARITY_ALERTS c) ∧ Counted s t (DDR_PARITY_REPLAY_FAIL c) ∧
      ChannelFaulted s t c 2 [DDR_PARITY_ALERTS c, DDR_PARITY_REPLAY_FAIL c]) := by
  have alerts : ddrAlert (Work.start s) c sub = ddrFault (failureCounted (Work.start s) c) c 2 := by
    rw [ddrAlert, if_pos (alert_outside s c hst), if_pos (show ((Work.start s).ddr c).replay.getD sub false = true from hrep)]
    exact if_pos hfails
  obtain ⟨halerts, hfail⟩ := failureCounted_counts s c
  obtain ⟨hcounters, hfault⟩ := channelFaulted hs c.isLt 2 (by decide) _ (failure_counted (Work.start s) c) (fun f hf => hf)
  exact ⟨_, by rw [exec, execDdrAlert, run_eq, alerts], (hcounters _ (by simp)).trans halerts, (hcounters _ (by simp)).trans hfail, hfault⟩

theorem replayDone_idle (s : State) (hs : s.wf = true) (c sub : Fin 2) (hrep : (s.view.ddr c).replay.getD sub false = true)
    (hw : (s.view.ddr c).waiting = []) :
    Answers (.replayDone c sub true) s (fun t => Leaves s t [] { s.view.dev with
      ddr := vset s.dev.ddr c { s.view.ddr c with
        replay := (s.view.ddr c).replay.set sub false, fails := (s.view.ddr c).fails.set sub 0 } }) := by
  have ended : DdrTo (· ∈ ([] : List Fld)) c (Work.start s) _ _ := (DdrTo.refl (c := c) (Work.start s)).upd c.isLt
    (fun d => { d with replay := d.replay.set sub false, fails := d.fails.set sub 0 })
  have none_ := (congrArg DdrSt.waiting (ended.ddr c.isLt)).trans hw
  exact ⟨_, by rw [exec, execReplayDone, run_eq, replayDone, if_pos (show ((Work.start s).ddr c).replay.getD sub false = true from hrep),
    if_pos rfl, ddrGrant_none _ c none_], ended.leaves hs⟩

theorem replayDone_grants (s : State) (c sub : Fin 2) (hrep : (s.view.ddr c).replay.getD sub false = true) (x : DdrReq) (bs : List Byte)
    (hw : (s.view.ddr c).waiting = [x]) (hx : Granted x bs) (hsub : bits x.off 6 1 = sub.val)
    (hbusy : (s.view.ddr c).busy.getD (rankOf s.view c x.off) false = false) :
    Answers (.replayDone c sub true) s (fun t => (t.view.ddr c).waiting = [] ∧ t.dev.out = [.port "DDR" (bs.map (·.toNat))]) := by
  refine ⟨_, by rw [exec, execReplayDone, run_eq, replayDone, if_pos (show ((Work.start s).ddr c).replay.getD sub false = true from hrep),
    if_pos rfl], granted_finish c.isLt x bs hx _ hw (waits_updDdr s c.isLt x _ ?_ hbusy)⟩
  rw [hsub]
  exact getD_set_false _ _

theorem commandParity : Clause.CommandParity := by
  intro s hs c sub d fires again
  refine ⟨fun hst => ⟨fun hrep => alert_starts s hs c sub hst hrep, fun hrep => alert_fails s hs c sub hst hrep,
    fun hrep => alert_faults s hs c sub hst hrep⟩, fun hrep => ⟨fun hw => replayDone_idle s hs c sub hrep hw,
    fun x bs hw hx hsub hbusy => replayDone_grants s c sub hrep x bs hw hx hsub hbusy, ?_⟩⟩
  rw [exec, exec, execReplayDone, execDdrAlert, run_eq, run_eq, replayDone,
    if_pos (show ((Work.start s).ddr c).replay.getD sub false = true from hrep), if_neg Bool.false_ne_true]

/-- Settles O46: training by the works that each outcome writes, and the faults with the notifications that are tried again. -/
theorem memoryPorts : Obligations.MemoryPorts := ⟨portTraining, commandParity⟩

end Sys2Proof.DdrProofs
end

section
/-! PROOFS. Requests of a DDR5 channel (R406 to R409) and row hammer (R415, R416). -/

namespace Sys2Proof.ChannelProofs

open Sys2Proof.Machine Sys2Proof.Effects Sys2Proof.RejectFacts Sys2Proof.DdrProofs

variable {σ : State}

/-! ## Queues of a list, one for each subchannel -/

theorem getD_set_self {α : Type} (l : List (List α)) (i : Nat) (x : List α) (hx : l.getD i [] = [] → x = []) :
    (l.set i x).getD i [] = x := by
  rw [List.getD_eq_getElem?_getD] at hx
  rw [List.getD_eq_getElem?_getD, List.getElem?_set_self']
  cases h : l[i]? with
  | none => exact (hx (by rw [h]; rfl)).symm
  | some y => rfl

theorem set_getD_self {α : Type} (l : List (List α)) (i : Nat) : l.set i (l.getD i []) = l := by
  refine List.ext_getElem? (fun j => ?_)
  by_cases hj : i = j
  · subst hj
    rw [List.getElem?_set_self', List.getD_eq_getElem?_getD]
    cases l[i]? <;> rfl
  · rw [List.getElem?_set_ne hj]

/-! ## Where a channel's requests lie while the registers of its map stay -/

section

variable {s : State} {c : Nat} {K : Fld → Prop} {w : Work s} {d : DdrSt}

/-- The registers of a channel that its map and its row-hammer work read. -/
def mapFlds (c : Nat) : List Fld :=
  [DDR_CFG_DENSITY c, DDR_CFG_RANKS c, DDR_RH_THR c, DDR_RH_RFM_EN c] ++ (List.range 16).map (fun m => DDR_ADJ_PERM c (m / 8) (m % 8))

/-- A work that shows those registers as the command found them. -/
def SameMap (c : Nat) (w : Work s) : Prop := ∀ f ∈ mapFlds c, w.get f = s.view.get f

theorem SameMap.density (h : SameMap c w) : w.get (DDR_CFG_DENSITY c) = s.view.get (DDR_CFG_DENSITY c) := h _ (by simp [mapFlds])

theorem SameMap.rowBits_eq (h : SameMap c w) : rowBits w c = rowBits s.view c := by
  rw [rowBits, rowBits, Work.on, Work.on, h.density]

theorem SameMap.rowOf_eq (h : SameMap c w) (off : Nat) : rowOf w c off = rowOf s.view c off := by
  rw [rowOf, rowOf, h.rowBits_eq]

theorem SameMap.rankOf_eq (h : SameMap c w) (off : Nat) : rankOf w c off = rankOf s.view c off := by
  rw [rankOf, rankOf, ddrRanks, ddrRanks, h.rowBits_eq, h (DDR_CFG_RANKS c) (by simp [mapFlds])]

theorem SameMap.bankOf_eq (h : SameMap c w) (off : Nat) : bankOf w c off = bankOf s.view c off := by
  rw [bankOf, bankOf, h.rankOf_eq]

theorem SameMap.rowStart_eq (h : SameMap c w) (off row : Nat) : rowStart w c off row = rowStart s.view c off row := by
  rw [rowStart, rowStart, h.rankOf_eq, h.rowBits_eq]

theorem SameMap.perm_eq (h : SameMap c w) (m : Nat) (hm : m < 16) : perm w c m = perm s.view c m :=
  h _ (List.mem_append_right _ (List.mem_map.2 ⟨m, List.mem_range.2 hm, rfl⟩))

theorem SameMap.neighbours_eq (h : SameMap c w) (r : Nat) : neighbours w c r = neighbours s.view c r := by
  have inv : ∀ p, (List.range 16).find? (fun m => decide (perm w c m = p % 16)) =
      (List.range 16).find? (fun m => decide (perm s.view c m = p % 16)) := fun p =>
    List.find?_congr (fun m hm => by rw [h.perm_eq m (List.mem_range.1 hm)])
  simp only [neighbours, h.perm_eq (r % 16) (Nat.mod_lt _ (by decide)), h.rowBits_eq, inv]

theorem SameMap.sameBank_eq (h : SameMap c w) (off : Nat) : sameBank w c off = sameBank s.view c off := by
  funext x
  rw [sameBank, sameBank, h.bankOf_eq, h.bankOf_eq]

theorem SameMap.otherLine_eq (h : SameMap c w) (off : Nat) : otherLine w c off = otherLine s.view c off := by
  funext x
  rw [otherLine, otherLine, h.sameBank_eq, h.rowOf_eq, h.rowOf_eq]

/-- The registers that requests write lie apart from those. -/
theorem sameMap_of (h : DdrTo K c (Work.start s) w d) (hK : ∀ g, K g → g ∈ requestFlds c true) : SameMap c w := by
  intro f hf
  refine h.get f (fun g hg => ?_)
  have hg := hK g hg
  simp only [requestFlds, List.mem_append, List.mem_cons, List.not_mem_nil, or_false, if_true] at hg
  simp only [mapFlds, List.mem_append, List.mem_cons, List.not_mem_nil, or_false, List.mem_map, List.mem_range] at hf
  have off : g.addr = 0x400038 + 0x80000 * c ∨ g.addr = 0x40002C + 0x80000 * c := by
    rcases hg with (rfl | rfl) | rfl | rfl
    · exact .inl rfl
    · exact .inl rfl
    · exact .inr rfl
    · exact .inr rfl
  have low : g.lo < 32 := by
    rcases hg with (rfl | rfl) | rfl | rfl <;> simp [DDR_ORDER_FWD, DDR_ORDER_INORDER, DDR_RH_STAT_NREF, DDR_RH_STAT_RFM]
  have at_ : f.lo < 32 ∧ f.addr ≠ 0x400038 + 0x80000 * c ∧ f.addr ≠ 0x40002C + 0x80000 * c := by
    rcases hf with (rfl | rfl | rfl | rfl) | ⟨m, hm, rfl⟩ <;>
      simp only [DDR_CFG_DENSITY, DDR_CFG_RANKS, DDR_RH_THR, DDR_RH_RFM_EN, DDR_ADJ_PERM] <;> omega
  simp only [Fld.key]
  omega

/-! ## Writes that drain and hazards (R407, R408) -/

theorem foldl_sentOn (sub : Nat) (l : List DdrWrite) (d : DdrSt) : ∃ cmds, (l = [] → cmds = d.cmds) ∧
    l.foldl (fun d x => sentOn sub ⟨.write, x.line * 64⟩ d) d = { d with cmds := cmds } := by
  induction l generalizing d with
  | nil => exact ⟨d.cmds, fun _ => rfl, rfl⟩
  | cons x l ih =>
    obtain ⟨cmds, -, h⟩ := ih (sentOn sub ⟨.write, x.line * 64⟩ d)
    exact ⟨cmds, fun h => absurd h (List.cons_ne_nil _ _), h⟩

/-- Draining to nothing what is nothing sends no command. -/
theorem drainTo_nil (h : DdrTo K c (Work.start s) w d) (hc : c < 2) (sub : Nat) (stay : List DdrWrite) :
    DdrTo K c (Work.start s) (ddrDrainTo w c sub stay []) { d with writes := d.writes.set sub stay } := h.upd hc _

/-- The queue of a subchannel once its oldest writes have drained. -/
def drainedQueue (d : DdrSt) (sub n : Nat) : List DdrWrite :=
  (d.writes.getD sub []).take ((d.writes.getD sub []).length - n)

theorem drain_to (h : DdrTo K c (Work.start s) w d) (hc : c < 2) (sub n : Nat) :
    ∃ cmds, DdrTo K c (Work.start s) (ddrDrain w c sub n) { d with cmds := cmds, writes := d.writes.set sub (drainedQueue d sub n) } := by
  have q : ddrQueue w c sub = d.writes.getD sub [] := congrArg (fun d : DdrSt => d.writes.getD sub []) (h.ddr hc)
  rw [ddrDrain, q]
  exact h.drainTo hc _ _ _

/-- The queued writes with those of the row of an offset kept in order. -/
def keptQueue (s : State) (c off : Nat) (q : List DdrWrite) : List DdrWrite :=
  q.map (fun x => if otherLine s.view c off x then { x with order := true } else x)

theorem keptQueue_none (off : Nat) (q : List DdrWrite) (h : q.any (otherLine s.view c off) = false) : keptQueue s c off q = q := by
  rw [List.any_eq_false] at h
  exact (List.map_congr_left (fun x hx => if_neg (h x hx))).trans (List.map_id' q)

/-- The queue behind a read of a bank in order, or a write. -/
def orderedQueue (s : State) (c off : Nat) (write : Bool) (q : List DdrWrite) : List DdrWrite :=
  if !write && (keptQueue s c off q).any (fun x => x.order && sameBank s.view c off x) then
    (keptQueue s c off q).filter (fun x => !sameBank s.view c off x)
  else keptQueue s c off q

theorem get_ddrDrainTo (v : Work σ) (k sub : Nat) (stay gone : List DdrWrite) (f : Fld) :
    (ddrDrainTo v k sub stay gone).get f = v.get f := by
  rw [ddrDrainTo, get_updDdr]
  exact Work.each_keeps (fun u : Work σ => u.get f = v.get f) _ (fun u x hu => (get_updDdr u k _ f).trans hu) gone.reverse v rfl

theorem requestFlds_true (f : Fld) (hf : f ∈ requestFlds c false) : f ∈ requestFlds c true := List.mem_append_left _ (by simpa [requestFlds] using hf)

/-- A work that has brought the channel to d before its row opens. -/
abbrev Hazarded (c : Nat) (w : Work s) (d : DdrSt) : Prop := DdrTo (· ∈ requestFlds c false) c (Work.start s) w d

theorem hazarded_queue (h : Hazarded c w d) (hc : c < 2) (sub : Nat) : ddrQueue w c sub = d.writes.getD sub [] :=
  congrArg (fun d : DdrSt => d.writes.getD sub []) (h.ddr hc)

/-- A request that meets the row of queued writes puts them in order, and counts. -/
theorem rowHazard_effect (h : Hazarded c w d) (hc : c < 2) (off : Nat) (q : List DdrWrite) (hq : d.writes.getD (bits off 6 1) [] = q) :
    ∃ v : Work s, (if rowQueued w c off then keepOrder (w.inc (DDR_ORDER_INORDER c)) c off else w) = v ∧
      Hazarded c v { d with writes := d.writes.set (bits off 6 1) (keptQueue s c off q) } ∧ v.get (DDR_ORDER_FWD c) = w.get (DDR_ORDER_FWD c) ∧
      (q.any (otherLine s.view c off) = true →
        v.get (DDR_ORDER_INORDER c) = min (2 ^ (DDR_ORDER_INORDER c).width - 1) (w.get (DDR_ORDER_INORDER c) + 1)) := by
  have met : rowQueued w c off = q.any (otherLine s.view c off) := by
    rw [rowQueued, hazarded_queue h hc, hq, (sameMap_of h (fun g hg => requestFlds_true g hg)).otherLine_eq]
  have two : (DDR_ORDER_FWD c).key ≠ (DDR_ORDER_INORDER c).key := by
    simp only [Fld.key, DDR_ORDER_FWD, DDR_ORDER_INORDER]
    omega
  refine ⟨_, rfl, ?_⟩
  rw [met]
  cases hany : q.any (otherLine s.view c off)
  · rw [keptQueue_none _ _ hany, ← hq, set_getD_self]
    exact ⟨h, rfl, fun h => absurd h Bool.false_ne_true⟩
  · have counted : Hazarded c (w.inc (DDR_ORDER_INORDER c)) d := h.inc _ (by simp [requestFlds])
    have kept : keepOrder (w.inc (DDR_ORDER_INORDER c)) c off = (w.inc (DDR_ORDER_INORDER c)).updDdr c
        (fun d => { d with writes := d.writes.set (bits off 6 1) (keptQueue s c off q) }) := by
      rw [keepOrder, hazarded_queue counted hc, hq, (sameMap_of counted (fun g hg => requestFlds_true g hg)).otherLine_eq]
      rfl
    rw [if_pos rfl, kept]
    refine ⟨counted.upd hc _, ?_, fun _ => ?_⟩
    · rw [get_updDdr, Work.get_inc_ne _ _ _ two]
    · rw [get_updDdr, get_inc]

/-- What the hazards of a request do: the counters of R408, and the queue of its subchannel. -/
theorem hazards_effect (h : DdrTo (· ∈ ([] : List Fld)) c (Work.start s) w d) (hc : c < 2) (off : Nat) (write : Bool)
    (q : List DdrWrite) (hq : d.writes.getD (bits off 6 1) [] = q) :
    ∃ cmds, DdrTo (· ∈ requestFlds c false) c (Work.start s) (ddrHazards w c off write)
        { d with cmds := cmds, writes := d.writes.set (bits off 6 1) (orderedQueue s c off write q) } ∧
      ((!write && q.any (fun x => decide (x.line = off / 64))) = true →
        (ddrHazards w c off write).get (DDR_ORDER_FWD c) = min (2 ^ (DDR_ORDER_FWD c).width - 1) (s.get (DDR_ORDER_FWD c) + 1)) ∧
      (q.any (otherLine s.view c off) = true →
        (ddrHazards w c off write).get (DDR_ORDER_INORDER c) =
          min (2 ^ (DDR_ORDER_INORDER c).width - 1) (s.get (DDR_ORDER_INORDER c) + 1)) := by
  have sub_nil : ∀ g : Fld, g ∈ ([] : List Fld) → g ∈ requestFlds c false := fun g hg => absurd hg List.not_mem_nil
  have forwards : ∃ v : Work s, (if !write && lineQueued w c off then w.inc (DDR_ORDER_FWD c) else w) = v ∧ Hazarded c v d ∧
      v.get (DDR_ORDER_INORDER c) = s.get (DDR_ORDER_INORDER c) ∧ ((!write && q.any (fun x => decide (x.line = off / 64))) = true →
        v.get (DDR_ORDER_FWD c) = min (2 ^ (DDR_ORDER_FWD c).width - 1) (s.get (DDR_ORDER_FWD c) + 1)) := by
    have two : (DDR_ORDER_INORDER c).key ≠ (DDR_ORDER_FWD c).key := by
      simp only [Fld.key, DDR_ORDER_FWD, DDR_ORDER_INORDER]
      omega
    have at_ : ∀ f, w.get f = s.get f := fun f => (h.get f (fun g hg => absurd hg List.not_mem_nil)).trans (Work.get_start s f)
    refine ⟨_, rfl, ?_⟩
    rw [lineQueued, hazarded_queue (h.mono sub_nil) hc, hq]
    split
    · exact ⟨(h.mono sub_nil).inc _ (by simp [requestFlds]), (Work.get_inc_ne _ _ _ two).trans (at_ _), fun _ => (get_inc w _).trans (by rw [at_])⟩
    next hno => exact ⟨h.mono sub_nil, at_ _, fun h => absurd h hno⟩
  obtain ⟨v, hv, hto, hin, hfwd⟩ := forwards
  obtain ⟨u, hu, huto, hufwd, huin⟩ := rowHazard_effect hto hc off q hq
  have queue : ddrQueue u c (bits off 6 1) = keptQueue s c off q := by
    rw [hazarded_queue huto hc]
    exact getD_set_self _ _ _ (fun h => by rw [← hq, h]; rfl)
  have bank := (sameMap_of huto (fun g hg => requestFlds_true g hg)).sameBank_eq off
  have order : bankInOrder u c off = (keptQueue s c off q).any (fun x => x.order && sameBank s.view c off x) := by
    rw [bankInOrder, queue, bank]
  rw [ddrHazards, hv, hu, order, orderedQueue]
  cases hdrain : !write && (keptQueue s c off q).any (fun x => x.order && sameBank s.view c off x)
  · exact ⟨d.cmds, huto, fun h => hufwd.trans (hfwd h), fun h => (huin h).trans (by rw [hin])⟩
  · rw [if_pos rfl, if_pos rfl, ddrDrainBank, queue, bank]
    obtain ⟨cmds, hd⟩ := huto.drainTo hc (bits off 6 1) ((keptQueue s c off q).filter (fun x => !sameBank s.view c off x))
      ((keptQueue s c off q).filter (sameBank s.view c off))
    dsimp only at hd
    rw [List.set_set] at hd
    exact ⟨cmds, hd, fun h => (get_ddrDrainTo _ _ _ _ _ _).trans (hufwd.trans (hfwd h)),
      fun h => (get_ddrDrainTo _ _ _ _ _ _).trans ((huin h).trans (by rw [hin]))⟩

/-! ## Row hammer (R415, R416) -/

/-- A channel that has sent commands on a subchannel, the newest first, and whose activate tables hold acts. -/
def sentAll (sub : Nat) (xs : List DdrCmd) (acts : List Activate) (d : DdrSt) : DdrSt :=
  { d with cmds := d.cmds.set sub ((xs ++ d.cmds.getD sub []).take 32), acts := acts }

theorem sentOn_sentAll (sub : Nat) (x : DdrCmd) (xs : List DdrCmd) (acts : List Activate) (d : DdrSt) :
    sentOn sub x (sentAll sub xs acts d) = sentAll sub (x :: xs) acts d := by
  have cmds : ((d.cmds.set sub ((xs ++ d.cmds.getD sub []).take 32)).set sub
      ((x :: (d.cmds.set sub ((xs ++ d.cmds.getD sub []).take 32)).getD sub []).take 32)) =
      d.cmds.set sub ((x :: xs ++ d.cmds.getD sub []).take 32) := by
    rw [List.set_set]
    by_cases hs : sub < d.cmds.length
    · have own : (d.cmds.set sub ((xs ++ d.cmds.getD sub []).take 32)).getD sub [] = (xs ++ d.cmds.getD sub []).take 32 := by
        rw [List.getD_eq_getElem?_getD, List.getElem?_set_self hs]
        rfl
      rw [own, List.take_succ_cons, List.cons_append, List.take_succ_cons, List.take_take]
      rfl
    · rw [List.set_eq_of_length_le (Nat.not_lt.1 hs), List.set_eq_of_length_le (Nat.not_lt.1 hs)]
  rw [sentOn, sentAll, sentAll]
  dsimp only
  rw [cmds]

/-- The row of an offset opened, on a channel that has brought its commands and tables so far. -/
theorem sendActivate_to (h : DdrTo K c (Work.start s) w d) (hc : c < 2) (hmap : SameMap c w) (a : Nat) :
    DdrTo K c (Work.start s) (sendActivate w c a).1
        { sentOn (bits a 6 1) ⟨.activate, a⟩ d with acts := (activate d.acts (bankOf s.view c a) (rowOf s.view c a)).1 } ∧
      (sendActivate w c a).2 = (activate d.acts (bankOf s.view c a) (rowOf s.view c a)).2 := by
  have acts : (w.ddr c).acts = d.acts := congrArg DdrSt.acts (h.ddr hc)
  rw [sendActivate, acts, hmap.bankOf_eq, hmap.rowOf_eq]
  exact ⟨(h.send hc _ _).upd hc _, rfl⟩

/-- The rows of one bank's offsets lie on one subchannel. -/
theorem bits_rowStart (off row : Nat) : bits (rowStart s.view c off row) 6 1 = bits off 6 1 := by
  simp only [rowStart, bits, rowBits]
  split <;> omega

/-- One neighbour of a row activated and precharged. -/
def nearSent (s : State) (c : Nat) (acts : List Activate) (a : Nat) : List Activate :=
  (activate acts (bankOf s.view c a) (rowOf s.view c a)).1

theorem neighbours_to (hc : c < 2) (hK : ∀ g, K g → g ∈ requestFlds c true) (off : Nat) (l : List Nat) :
    ∀ (w : Work s) (xs : List DdrCmd) (acts : List Activate), DdrTo K c (Work.start s) w (sentAll (bits off 6 1) xs acts d) →
      DdrTo K c (Work.start s)
        (w.each l (fun w r => ddrSend (sendActivate w c (rowStart w c off r)).1 c (bits off 6 1) ⟨.precharge, rowStart w c off r⟩))
        (sentAll (bits off 6 1) (((l.map (rowStart s.view c off)).flatMap (fun a => [⟨.activate, a⟩, ⟨.precharge, a⟩])).reverse ++ xs)
          ((l.map (rowStart s.view c off)).foldl (nearSent s c) acts) d) := by
  induction l with
  | nil => exact fun w xs acts h => h
  | cons r l ih =>
    intro w xs acts h
    have hmap := sameMap_of h hK
    obtain ⟨sent, -⟩ := sendActivate_to h hc hmap (rowStart s.view c off r)
    simp only [bits_rowStart, sentOn_sentAll] at sent
    have near := sent.send hc (bits off 6 1) ⟨.precharge, rowStart s.view c off r⟩
    have precharged := (sentOn_sentAll (bits off 6 1) ⟨.precharge, rowStart s.view c off r⟩ (⟨.activate, rowStart s.view c off r⟩ :: xs)
      (nearSent s c acts (rowStart s.view c off r)) d)
    have next := ih _ _ _ (precharged ▸ near)
    rw [Work.each, List.foldl_cons, hmap.rowStart_eq]
    simp only [List.map_cons, List.flatMap_cons, List.reverse_append, List.append_assoc, List.foldl_cons] at next ⊢
    exact next

/-- What an RFM adds to the commands sent. -/
def rfmSent (s : State) (c off : Nat) : List DdrCmd := if s.get (DDR_RH_RFM_EN c) ≠ 0 then [⟨.rfm, off⟩] else []

/-- The channel behind the row-hammer work for a row (R416). -/
def hammered (s : State) (c off : Nat) (xs : List DdrCmd) (acts : List Activate) (d : DdrSt) : DdrSt :=
  let near := (neighbours s.view c (rowOf s.view c off)).map (rowStart s.view c off)
  sentAll (bits off 6 1) (rfmSent s c off ++ (near.flatMap (fun a => [⟨.activate, a⟩, ⟨.precharge, a⟩])).reverse ++ xs)
    ((near.foldl (nearSent s c) acts).map
      (fun x => if x.bank = bankOf s.view c off ∧ x.row = rowOf s.view c off then { x with count := 0 } else x)) d

/-- The registers that row-hammer work writes. -/
def hammerFlds (s : State) (c : Nat) : List Fld := DDR_RH_STAT_NREF c :: (if s.get (DDR_RH_RFM_EN c) ≠ 0 then [DDR_RH_STAT_RFM c] else [])

/-- The count of a row back at 0. -/
def zeroed (bank row : Nat) (d : DdrSt) : DdrSt :=
  { d with acts := d.acts.map (fun a => if a.bank = bank ∧ a.row = row then { a with count := 0 } else a) }

theorem zeroed_sentAll (bank row sub : Nat) (xs : List DdrCmd) (acts : List Activate) (d : DdrSt) :
    zeroed bank row (sentAll sub xs acts d) =
      sentAll sub xs (acts.map (fun a => if a.bank = bank ∧ a.row = row then { a with count := 0 } else a)) d := rfl

/-- The row-hammer work behind the activates of the neighbours. -/
def hammerEnd (v : Work σ) (c off bank row : Nat) : Work σ :=
  let w := (v.updDdr c (zeroed bank row)).inc (DDR_RH_STAT_NREF c)
  if w.on (DDR_RH_RFM_EN c) then (ddrSend w c (bits off 6 1) ⟨.rfm, off⟩).inc (DDR_RH_STAT_RFM c) else w

theorem get_sendActivate (w : Work σ) (c a : Nat) (f : Fld) : (sendActivate w c a).1.get f = w.get f := by
  rw [sendActivate]
  rfl

theorem hammer_to (hc : c < 2) (hK : ∀ g, K g → g ∈ requestFlds c true) (hfl : ∀ f ∈ hammerFlds s c, K f) (off : Nat)
    (xs : List DdrCmd) (acts : List Activate) (h : DdrTo K c (Work.start s) w (sentAll (bits off 6 1) xs acts d)) :
    DdrTo K c (Work.start s) (hammer w c off (bankOf s.view c off) (rowOf s.view c off)) (hammered s c off xs acts d) ∧
      (hammer w c off (bankOf s.view c off) (rowOf s.view c off)).get (DDR_RH_STAT_NREF c) =
        min (2 ^ (DDR_RH_STAT_NREF c).width - 1) (w.get (DDR_RH_STAT_NREF c) + 1) ∧
      (s.get (DDR_RH_RFM_EN c) ≠ 0 → (hammer w c off (bankOf s.view c off) (rowOf s.view c off)).get (DDR_RH_STAT_RFM c) =
        min (2 ^ (DDR_RH_STAT_RFM c).width - 1) (w.get (DDR_RH_STAT_RFM c) + 1)) := by
  have hmap := sameMap_of h hK
  have near := neighbours_to hc hK off (neighbours s.view c (rowOf s.view c off)) w xs acts h
  have regs : ∀ f, (w.each (neighbours s.view c (rowOf s.view c off)) (fun w r =>
      ddrSend (sendActivate w c (rowStart w c off r)).1 c (bits off 6 1) ⟨.precharge, rowStart w c off r⟩)).get f = w.get f := fun f =>
    Work.each_keeps (fun u : Work s => u.get f = w.get f) _ (fun u r hu => by
      rw [ddrSend, get_updDdr, get_sendActivate]
      exact hu) _ w rfl
  have unfolded : hammer w c off (bankOf s.view c off) (rowOf s.view c off) = hammerEnd (w.each (neighbours s.view c (rowOf s.view c off))
      (fun w r => ddrSend (sendActivate w c (rowStart w c off r)).1 c (bits off 6 1) ⟨.precharge, rowStart w c off r⟩)) c off
      (bankOf s.view c off) (rowOf s.view c off) := by
    rw [← hmap.neighbours_eq]
    rfl
  rw [unfolded]
  generalize w.each (neighbours s.view c (rowOf s.view c off)) _ = v at *
  have two : (DDR_RH_STAT_NREF c).key ≠ (DDR_RH_STAT_RFM c).key := by
    simp only [Fld.key, DDR_RH_STAT_NREF, DDR_RH_STAT_RFM]
    omega
  have enabled : ((v.updDdr c (zeroed (bankOf s.view c off) (rowOf s.view c off))).inc (DDR_RH_STAT_NREF c)).on (DDR_RH_RFM_EN c) =
      decide (s.get (DDR_RH_RFM_EN c) ≠ 0) := by
    have apart : (DDR_RH_RFM_EN c).key ≠ (DDR_RH_STAT_NREF c).key := by
      simp only [Fld.key, DDR_RH_RFM_EN, DDR_RH_STAT_NREF]
      omega
    rw [on_eq, Work.get_inc_ne _ _ _ apart, get_updDdr, regs, hmap _ (by simp [mapFlds])]
    rfl
  have counted := (near.upd hc (zeroed (bankOf s.view c off) (rowOf s.view c off))).inc (DDR_RH_STAT_NREF c) (hfl _ List.mem_cons_self)
  rw [hammerEnd, enabled, hammered, rfmSent]
  by_cases hrfm : s.get (DDR_RH_RFM_EN c) ≠ 0
  · rw [if_pos (decide_eq_true hrfm), if_pos hrfm]
    refine ⟨?_, ?_, fun _ => ?_⟩
    · have sent := (counted.send hc (bits off 6 1) ⟨.rfm, off⟩).inc (DDR_RH_STAT_RFM c) (hfl _ (by simp [hammerFlds, hrfm]))
      have all := sentOn_sentAll (bits off 6 1) ⟨.rfm, off⟩
      simp only [zeroed_sentAll, all] at sent
      exact sent
    · rw [Work.get_inc_ne _ _ _ two, ddrSend, get_updDdr, get_inc, get_updDdr, regs]
    · rw [get_inc, ddrSend, get_updDdr, Work.get_inc_ne _ _ _ two.symm, get_updDdr, regs]
  · rw [if_neg (fun h => hrfm (of_decide_eq_true h)), if_neg hrfm]
    refine ⟨counted, ?_, fun h => absurd h hrfm⟩
    rw [get_inc, get_updDdr, regs]

/-- A row opened whose count stays below THR. -/
theorem rowActivate_below (h : DdrTo K c (Work.start s) w d) (hc : c < 2) (hK : ∀ g, K g → g ∈ requestFlds c true) (off : Nat)
    (hn : (activate d.acts (bankOf s.view c off) (rowOf s.view c off)).2 < s.get (DDR_RH_THR c)) :
    DdrTo K c (Work.start s) (rowActivate w c off) (sentAll (bits off 6 1) [⟨.activate, off⟩] (nearSent s c d.acts off) d) := by
  have hmap := sameMap_of h hK
  obtain ⟨sent, count⟩ := sendActivate_to h hc hmap off
  have thr : (sendActivate w c off).1.get (DDR_RH_THR c) = s.get (DDR_RH_THR c) :=
    (get_sendActivate w c off _).trans ((hmap _ (by simp [mapFlds])).trans (Work.get_start s _))
  rw [rowActivate]
  dsimp only
  rw [thr, count, if_neg (Nat.not_le.2 hn)]
  exact sent

/-- A row opened whose count reaches THR. -/
theorem rowActivate_hammers (h : DdrTo K c (Work.start s) w d) (hc : c < 2) (hK : ∀ g, K g → g ∈ requestFlds c true)
    (hfl : ∀ f ∈ hammerFlds s c, K f) (off : Nat)
    (hn : s.get (DDR_RH_THR c) ≤ (activate d.acts (bankOf s.view c off) (rowOf s.view c off)).2) :
    DdrTo K c (Work.start s) (rowActivate w c off) (hammered s c off [⟨.activate, off⟩] (nearSent s c d.acts off) d) ∧
      (rowActivate w c off).get (DDR_RH_STAT_NREF c) = min (2 ^ (DDR_RH_STAT_NREF c).width - 1) (w.get (DDR_RH_STAT_NREF c) + 1) ∧
      (s.get (DDR_RH_RFM_EN c) ≠ 0 → (rowActivate w c off).get (DDR_RH_STAT_RFM c) =
        min (2 ^ (DDR_RH_STAT_RFM c).width - 1) (w.get (DDR_RH_STAT_RFM c) + 1)) := by
  have hmap := sameMap_of h hK
  obtain ⟨sent, count⟩ := sendActivate_to h hc hmap off
  have thr : (sendActivate w c off).1.get (DDR_RH_THR c) = s.get (DDR_RH_THR c) :=
    (get_sendActivate w c off _).trans ((hmap _ (by simp [mapFlds])).trans (Work.get_start s _))
  have map' := sameMap_of sent hK
  have regs := get_sendActivate w c off
  rw [rowActivate]
  dsimp only
  rw [thr, count, if_pos hn, map'.bankOf_eq, map'.rowOf_eq]
  obtain ⟨hto, hnref, hrfm⟩ := hammer_to hc hK hfl off [⟨.activate, off⟩] (nearSent s c d.acts off) (d := d) (w := (sendActivate w c off).1) sent
  rw [regs] at hnref hrfm
  exact ⟨hto, hnref, hrfm⟩

/-! ## A request that is served (R407, R408) -/

/-- A request of a channel in service, within its capacity, that need not wait. -/
def Served (s : State) (c off : Nat) (read opens : Bool) : Prop :=
  (s.get (DDR_STATUS_STATE c) = DDR_READY ∨ s.get (DDR_STATUS_STATE c) = DDR_FROST) ∧ off < ddrCapacity s.view c ∧
    (ddrWaits s.view c off read opens || (s.view.ddr c).waiting.any (fun x => decide (x.off / 64 = off / 64))) = false

theorem read_served (h : Served s c off true opens) (cls n drained : Nat) (hot : Bool) :
    ddrRequest (Work.start s) c off cls n [] opens drained hot =
      (ddrServe (Work.start s) c off cls false opens drained hot).emit
        (.port "DDR" ((s.view.rdBytes (ddrBase c + off) (min n (64 - off % 64))).map (·.toNat))) := by
  obtain ⟨hst, hcap, hw⟩ := h
  have serves : ¬(ddrState (Work.start s) c ≠ DDR_READY ∧ ddrState (Work.start s) c ≠ DDR_FROST) := fun ⟨h1, h2⟩ => hst.elim h1 h2
  rw [ddrRequest, if_neg serves, if_neg (Nat.not_le.2 hcap), if_pos rfl, ddrArrive]
  exact if_neg (Bool.eq_false_iff.1 hw)

theorem write_served {bytes : List Byte} (hb : bytes ≠ []) (h : Served s c off false opens) (cls n drained : Nat) (hot : Bool) :
    ddrRequest (Work.start s) c off cls n bytes opens drained hot =
      (ddrServe (Work.start s) c off cls true opens drained hot).wrBytes (ddrBase c + off) (bytes.take (64 - off % 64)) := by
  obtain ⟨hst, hcap, hw⟩ := h
  have serves : ¬(ddrState (Work.start s) c ≠ DDR_READY ∧ ddrState (Work.start s) c ≠ DDR_FROST) := fun ⟨h1, h2⟩ => hst.elim h1 h2
  rw [ddrRequest, if_neg serves, if_neg (Nat.not_le.2 hcap), if_neg hb, ddrArrive]
  exact congrArg (fun v : Work s => v.wrBytes (ddrBase c + off) (bytes.take (64 - off % 64))) (if_neg (Bool.eq_false_iff.1 hw))

/-- A channel in READY does not wake. -/
theorem frostWake_ready (hst : s.get (DDR_STATUS_STATE c) = DDR_READY) (hot : Bool) : frostWake (Work.start s) c hot = Work.start s := by
  rw [frostWake, if_neg]
  rw [show ddrState (Work.start s) c = _ from hst]
  decide

/-- The traffic of a request behind its drained writes and its hazards. -/
def afterHazards (s : State) (c off drained : Nat) (write : Bool) : Work s :=
  ddrHazards (ddrDrain (Work.start s) c (bits off 6 1) drained) c off write

/-- Its row opened, where it has to. -/
def afterOpening (v : Work σ) (c off : Nat) (opens : Bool) : Work σ := if opens then rowActivate v c off else v

theorem serve_read (hst : s.get (DDR_STATUS_STATE c) = DDR_READY) (off cls drained : Nat) (opens hot : Bool) :
    ddrServe (Work.start s) c off cls false opens drained hot =
      ddrSend (afterOpening (afterHazards s c off drained false) c off opens) c (bits off 6 1) ⟨.read, off⟩ := by
  rw [ddrServe, frostWake_ready hst]
  rfl

/-- A write behind its hazards joins the queue of its subchannel, which holds 64. -/
def queueWrite (v : Work σ) (c off cls : Nat) : Work σ :=
  (if 64 ≤ (ddrQueue v c (bits off 6 1)).length then ddrDrain v c (bits off 6 1) 1 else v).updDdr c
    (fun d => { d with writes := d.writes.set (bits off 6 1) (⟨off / 64, cls, false⟩ :: d.writes.getD (bits off 6 1) []) })

theorem serve_write (hst : s.get (DDR_STATUS_STATE c) = DDR_READY) (off cls drained : Nat) (opens hot : Bool) :
    ddrServe (Work.start s) c off cls true opens drained hot =
      queueWrite (afterOpening (afterHazards s c off drained true) c off opens) c off cls := by
  rw [ddrServe, frostWake_ready hst]
  rfl

/-! ### Row hammer -/

/-- A read of an empty queue that opens its row. -/
theorem read_opened (hc : c < 2) (off drained : Nat) (hq : (s.view.ddr c).writes.getD (bits off 6 1) [] = []) :
    DdrTo (· ∈ ([] : List Fld)) c (Work.start s) (afterHazards s c off drained false)
      { s.view.ddr c with writes := (s.view.ddr c).writes.set (bits off 6 1) [] } := by
  have queue : ddrQueue (Work.start s) c (bits off 6 1) = [] := hq
  have drainedTo : DdrTo (· ∈ ([] : List Fld)) c (Work.start s) (ddrDrain (Work.start s) c (bits off 6 1) drained)
      { s.view.ddr c with writes := (s.view.ddr c).writes.set (bits off 6 1) [] } := by
    rw [ddrDrain, queue, List.take_nil, List.drop_nil]
    exact drainTo_nil (.refl _) hc _ _
  have none_ : ddrQueue (ddrDrain (Work.start s) c (bits off 6 1) drained) c (bits off 6 1) = [] := by
    rw [ddrQueue, drainedTo.ddr hc]
    exact getD_set_self _ _ _ (fun _ => rfl)
  rw [afterHazards]
  generalize ddrDrain (Work.start s) c (bits off 6 1) drained = v at *
  have hazards : ddrHazards v c off false = v := by
    simp only [ddrHazards, lineQueued, rowQueued, bankInOrder, none_, List.any_nil, Bool.and_false, Bool.false_eq_true, if_false]
  rw [hazards]
  exact drainedTo

theorem answers_read {off : Fin (2 ^ 37)} {c : Fin 2} {cls : Fin 3} {n : Fin 65} {opens : Bool} (hr : Served s c off true opens)
    (hst : s.get (DDR_STATUS_STATE c) = DDR_READY) (drained : Nat) (hot : Bool) {P : State → Prop}
    (hP : P ((ddrSend (afterOpening (afterHazards s c off drained false) c off opens) c (bits off 6 1) ⟨.read, off⟩).emit
      (.port "DDR" ((s.view.rdBytes (ddrBase c + off) (min n (64 - off % 64))).map (·.toNat)))).finish) :
    Answers (.ddrRequest c off cls n [] opens drained hot) s P :=
  ⟨_, by rw [exec, execDdrRequest, run_eq, read_served hr, serve_read hst], hP⟩

/-- What is given out behind a work that has brought the channel to d. -/
theorem emitted_finish {fs : List Fld} (hs : s.wf = true) (h : DdrTo (· ∈ fs) c (Work.start s) w d) (hc : c < 2) (o : Out) :
    Frame s (w.emit o).finish fs ∧ (w.emit o).finish.view.ddr c = d ∧ (w.emit o).finish.dev.out = [o] ∧
      (w.emit o).finish.dev = { s.dev with out := [o], ddr := (w.emit o).finish.dev.ddr } ∧
      ∀ k, k ≠ c → (w.emit o).finish.view.ddr k = s.view.ddr k := by
  have view := h.ddr hc
  have other := h.ddr_ne hc
  obtain ⟨hget, hq, -, -, hdev⟩ := h
  have frame : Frame s (w.emit o).finish fs :=
    frame_finish (w := w.emit o) hs (fun f hf => (hget f hf).trans (Work.get_start s f)) (hq (quiet_start s))
  have out : (w.emit o).finish.dev = { s.dev with out := [o], ddr := (w.emit o).finish.dev.ddr } := by
    rw [Work.finish_dev, emit_dev, hdev]
    rfl
  exact ⟨frame, view, by rw [out], out, other⟩

theorem hammerFlds_sub (g : Fld) (hg : g ∈ hammerFlds s c) : g ∈ requestFlds c true := by
  simp only [hammerFlds, List.mem_cons] at hg
  simp only [requestFlds, if_true, List.mem_append, List.mem_cons, List.not_mem_nil, or_false]
  rcases hg with hg | hg
  · exact .inr (.inl hg)
  · split at hg
    · exact .inr (.inr (List.mem_singleton.1 hg))
    · exact absurd hg List.not_mem_nil

end

theorem rowHammer : Clause.RowHammer := by
  intro s hs c off cls n drained hot d sub bank row r cmds
  refine ⟨fun hst hcap hfree hwait hq => ?_, ?_⟩
  · have served : Served s c off true true := by
      refine ⟨.inl hst, hcap, ?_⟩
      rw [hwait, Bool.or_false]
      exact (congrArg₂ or rfl (Bool.and_true _)).trans hfree
    have opened := read_opened (s := s) c.isLt off drained hq
    have sent : ∀ xs acts, sentOn sub ⟨.read, off⟩ (sentAll sub xs acts { d with writes := d.writes.set sub [] }) =
        sentAll sub (⟨.read, off⟩ :: xs) acts { d with writes := d.writes.set sub [] } := fun xs acts => sentOn_sentAll _ _ _ _ _
    have counters : ∀ f, f ∈ [DDR_RH_STAT_NREF c.val, DDR_RH_STAT_RFM c] → (afterHazards s c off drained false).get f = s.get f := fun f _ =>
      (opened.get f (fun g hg => absurd hg List.not_mem_nil)).trans (Work.get_start s f)
    refine ⟨fun hbelow => answers_read served hst drained hot ?_, fun hthr => answers_read served hst drained hot ?_⟩
    · have below := (rowActivate_below opened c.isLt (fun g hg => absurd hg List.not_mem_nil) off hbelow).send c.isLt sub ⟨.read, off⟩
      rw [sent] at below
      obtain ⟨hframe, hview, -⟩ := emitted_finish hs below c.isLt (.port "DDR" ((s.view.rdBytes (ddrBase c + off)
        (min n (64 - off % 64))).map (·.toNat)))
      rw [afterOpening, if_pos rfl, hview]
      exact ⟨rfl, rfl, hframe⟩
    · have wider := opened.mono (K' := (· ∈ hammerFlds s c)) (fun g hg => absurd hg List.not_mem_nil)
      obtain ⟨hto, hnref, hrfm⟩ := rowActivate_hammers wider c.isLt (fun g hg => hammerFlds_sub g hg) (fun _ => id) off hthr
      have hammered_ := hto.send c.isLt sub ⟨.read, off⟩
      rw [hammered, sent] at hammered_
      obtain ⟨hframe, hview, -⟩ := emitted_finish hs hammered_ c.isLt (.port "DDR" ((s.view.rdBytes (ddrBase c + off)
        (min n (64 - off % 64))).map (·.toNat)))
      rw [afterOpening, if_pos rfl]
      refine ⟨by rw [hview]; rfl, ?_, ?_, ?_, hframe⟩
      · rw [hview]
        refine congrArg (fun l : List DdrCmd => d.cmds.set sub (l.take 32)) ?_
        rw [List.cons_append, List.append_assoc _ [_] _]
        rfl
      · refine (Work.finish_get _ _ hs).trans (hnref.trans ?_)
        rw [counters _ (by simp)]
      · intro hen
        refine (Work.finish_get _ _ hs).trans ((hrfm hen).trans ?_)
        rw [counters _ (by simp)]
  · exact ⟨_, by rw [exec, execActivateTableClear, run_eq],
      ((DdrTo.refl (K := (· ∈ ([] : List Fld))) (c := c) (Work.start s)).upd c.isLt (fun d => { d with acts := [] })).leaves hs⟩

/-! ### Requests -/

section

variable {s : State} {c : Nat} {w : Work s} {d : DdrSt}

/-- Opening a row leaves the queued writes. -/
theorem opening_to (h : Hazarded c w d) (hc : c < 2) (off : Nat) (opens : Bool) :
    ∃ cmds acts, DdrTo (· ∈ requestFlds c opens) c (Work.start s) (afterOpening w c off opens) { d with cmds := cmds, acts := acts } := by
  cases opens with
  | false => exact ⟨d.cmds, d.acts, h⟩
  | true =>
    have wider : DdrTo (· ∈ requestFlds c true) c (Work.start s) w d := h.mono (fun g hg => requestFlds_true g hg)
    rw [afterOpening, if_pos rfl]
    by_cases hn : (activate d.acts (bankOf s.view c off) (rowOf s.view c off)).2 < s.get (DDR_RH_THR c)
    · exact ⟨_, _, rowActivate_below wider hc (fun _ => id) off hn⟩
    · exact ⟨_, _, (rowActivate_hammers wider hc (fun _ => id) (fun f hf => hammerFlds_sub f hf) off (Nat.not_lt.1 hn)).1⟩

/-- Opening a row counts row-hammer work only. -/
theorem get_afterOpening (v : Work σ) (c off : Nat) (opens : Bool) (f : Fld) (hf : ∀ g ∈ [DDR_RH_STAT_NREF c, DDR_RH_STAT_RFM c], f.key ≠ g.key) :
    (afterOpening v c off opens).get f = v.get f := by
  simp only [List.mem_cons, List.not_mem_nil, or_false, forall_eq_or_imp, forall_eq] at hf
  obtain ⟨hnref, hrfm⟩ := hf
  have near : ∀ (u : Work σ) (l : List Nat), (u.each l (fun w r => ddrSend (sendActivate w c (rowStart w c off r)).1 c (bits off 6 1)
      ⟨.precharge, rowStart w c off r⟩)).get f = u.get f := fun u l =>
    Work.each_keeps (fun v : Work σ => v.get f = u.get f) _ (fun v r hv => by
      rw [ddrSend, get_updDdr, get_sendActivate]
      exact hv) _ u rfl
  have hammers : ∀ (u : Work σ) bank row, (hammer u c off bank row).get f = u.get f := fun u bank row => by
    rw [hammer]
    dsimp only
    split
    · rw [Work.get_inc_ne _ _ _ hrfm, ddrSend, get_updDdr, Work.get_inc_ne _ _ _ hnref, get_updDdr, near]
    · rw [Work.get_inc_ne _ _ _ hnref, get_updDdr, near]
  rw [afterOpening]
  split
  · rw [rowActivate]
    dsimp only
    split
    · rw [hammers, get_sendActivate]
    · rw [get_sendActivate]
  · rfl

/-- The counters of R408 lie apart from those of row hammer. -/
theorem order_apart (c : Nat) : ∀ f ∈ [DDR_ORDER_FWD c, DDR_ORDER_INORDER c], ∀ g ∈ [DDR_RH_STAT_NREF c, DDR_RH_STAT_RFM c], f.key ≠ g.key := by
  simp only [List.mem_cons, List.not_mem_nil, or_false, forall_eq_or_imp, forall_eq, Fld.key, DDR_ORDER_FWD, DDR_ORDER_INORDER,
    DDR_RH_STAT_NREF, DDR_RH_STAT_RFM]
  omega

/-- What a request leaves behind its drained writes, its hazards and its row. -/
theorem met_effect (s : State) {c : Nat} (hc : c < 2) (off drained : Nat) (write opens : Bool) :
    ∃ (v : Work s) (cmds : List (List DdrCmd)) (acts : List Activate),
      afterOpening (afterHazards s c off drained write) c off opens = v ∧
      DdrTo (· ∈ requestFlds c opens) c (Work.start s) v { s.view.ddr c with
        cmds := cmds, acts := acts,
        writes := (s.view.ddr c).writes.set (bits off 6 1) (orderedQueue s c off write (drainedQueue (s.view.ddr c) (bits off 6 1) drained)) } ∧
      ((!write && (drainedQueue (s.view.ddr c) (bits off 6 1) drained).any (fun x => decide (x.line = off / 64))) = true →
        v.get (DDR_ORDER_FWD c) = min (2 ^ (DDR_ORDER_FWD c).width - 1) (s.get (DDR_ORDER_FWD c) + 1)) ∧
      ((drainedQueue (s.view.ddr c) (bits off 6 1) drained).any (otherLine s.view c off) = true →
        v.get (DDR_ORDER_INORDER c) = min (2 ^ (DDR_ORDER_INORDER c).width - 1) (s.get (DDR_ORDER_INORDER c) + 1)) := by
  obtain ⟨cmds0, h0⟩ := drain_to (K := (· ∈ ([] : List Fld))) (.refl (c := c) (Work.start s)) hc (bits off 6 1) drained
  have q : ((s.view.ddr c).writes.set (bits off 6 1) (drainedQueue (s.view.ddr c) (bits off 6 1) drained)).getD (bits off 6 1) [] =
      drainedQueue (s.view.ddr c) (bits off 6 1) drained := getD_set_self _ _ _ (fun h => by
    rw [drainedQueue, h, List.take_nil])
  obtain ⟨cmds1, h1, hfwd, hin⟩ := hazards_effect h0 hc off write _ q
  dsimp only at h1
  rw [List.set_set] at h1
  obtain ⟨cmds, acts, h2⟩ := opening_to h1 hc off opens
  have kept := get_afterOpening (afterHazards s c off drained write) c off opens
  exact ⟨_, cmds, acts, rfl, h2, fun h => (kept _ (order_apart c _ (by simp))).trans (hfwd h),
    fun h => (kept _ (order_apart c _ (by simp))).trans (hin h)⟩

theorem orderedQueue_write (off : Nat) (q : List DdrWrite) : orderedQueue s c off true q = keptQueue s c off q := rfl

/-- A write in the queue of its subchannel. -/
theorem queueWrite_to {K : Fld → Prop} (h : DdrTo K c (Work.start s) w d) (hc : c < 2) (off cls : Nat) (q : List DdrWrite)
    (hq : d.writes.getD (bits off 6 1) [] = q) :
    ∃ cmds, DdrTo K c (Work.start s) (queueWrite w c off cls) { d with
      cmds := cmds, writes := d.writes.set (bits off 6 1) (⟨off / 64, cls, false⟩ :: (if 64 ≤ q.length then q.take (q.length - 1) else q)) } := by
  have queue : ddrQueue w c (bits off 6 1) = q := (congrArg (fun d : DdrSt => d.writes.getD (bits off 6 1) []) (h.ddr hc)).trans hq
  rw [queueWrite, queue]
  split
  · obtain ⟨cmds, hd⟩ := drain_to h hc (bits off 6 1) 1
    have joined := hd.upd hc (fun d => { d with
      writes := d.writes.set (bits off 6 1) (⟨off / 64, cls, false⟩ :: d.writes.getD (bits off 6 1) []) })
    have own : (d.writes.set (bits off 6 1) (drainedQueue d (bits off 6 1) 1)).getD (bits off 6 1) [] = q.take (q.length - 1) := by
      rw [getD_set_self _ _ _ (fun h => by rw [drainedQueue, h, List.take_nil]), drainedQueue, hq]
    dsimp only at joined
    rw [own, List.set_set] at joined
    exact ⟨cmds, joined⟩
  · have joined := h.upd hc (fun d => { d with
      writes := d.writes.set (bits off 6 1) (⟨off / 64, cls, false⟩ :: d.writes.getD (bits off 6 1) []) })
    rw [hq] at joined
    exact ⟨d.cmds, joined⟩

theorem fl8_wrBytes (w : Work σ) (a : Nat) (bs : List Byte) (b : Nat) : (w.wrBytes a bs).fl8 b = w.fl8 b := by
  induction bs generalizing w a with
  | nil => rfl
  | cons x bs ih => exact (ih _ _).trans rfl

theorem get_queueWrite (v : Work σ) (k off cls : Nat) (f : Fld) : (queueWrite v k off cls).get f = v.get f := by
  rw [queueWrite, get_updDdr]
  split
  · rw [ddrDrain, get_ddrDrainTo]
  · rfl

/-- Bytes stored behind a work that has brought the channel to d. -/
theorem stored_finish {fs : List Fld} (hs : s.wf = true) (h : DdrTo (· ∈ fs) c (Work.start s) w d) (a : Nat)
    (bs : List Byte) :
    (∀ b, (w.wrBytes a bs).finish.byteAt b = (s.view.wrBytes a bs).rd8 b) ∧ RegsBut s (w.wrBytes a bs).finish fs ∧
      (∀ b, (w.wrBytes a bs).finish.flashAt b = s.flashAt b) ∧
      (w.wrBytes a bs).finish.dev = { s.view.dev with ddr := vset s.dev.ddr c d } := by
  obtain ⟨hget, hq, -, -, hdev⟩ := h
  have quiet := hq (quiet_start s)
  refine ⟨fun b => ?_, regsBut_finish hs (fun f hf => ?_), fun b => ?_, ?_⟩
  · rw [Work.finish_byteAt _ _ hs, Work.rd8_wrBytes, Work.rd8_wrBytes, quiet.rd8, Work.rd8_start]
  · rw [Work.get_wrBytes]
    exact (hget f hf).trans (Work.get_start s f)
  · rw [Work.finish_flashAt _ _ hs, fl8_wrBytes]
    exact quiet.fl8 b
  · rw [Work.finish_dev, Work.wrBytes_dev, hdev]
    rfl

theorem answers_write {off : Fin (2 ^ 37)} {c : Fin 2} {cls : Fin 3} {n : Fin 65} {opens : Bool} {bytes : List Byte} (hb : bytes ≠ [])
    (hr : Served s c off false opens) (hst : s.get (DDR_STATUS_STATE c) = DDR_READY) (drained : Nat) (hot : Bool) {P : State → Prop}
    (hP : P ((queueWrite (afterOpening (afterHazards s c off drained true) c off opens) c off (cls + 1)).wrBytes (ddrBase c + off)
      (bytes.take (64 - off % 64))).finish) :
    Answers (.ddrRequest c off cls n bytes opens drained hot) s P :=
  ⟨_, by rw [exec, execDdrRequest, run_eq, write_served hb hr, serve_write hst], hP⟩

theorem get_ddrHazards (v : Work σ) (k off : Nat) (write : Bool) (f : Fld) (hf : ∀ g ∈ [DDR_ORDER_FWD k, DDR_ORDER_INORDER k], f.key ≠ g.key) :
    (ddrHazards v k off write).get f = v.get f := by
  simp only [List.mem_cons, List.not_mem_nil, or_false, forall_eq_or_imp, forall_eq] at hf
  obtain ⟨hfwd, hin⟩ := hf
  have forwards : (if !write && lineQueued v k off then v.inc (DDR_ORDER_FWD k) else v).get f = v.get f := by
    split
    · exact Work.get_inc_ne _ _ _ hfwd
    · rfl
  rw [ddrHazards]
  generalize (if !write && lineQueued v k off then v.inc (DDR_ORDER_FWD k) else v) = u at *
  have ordered : (if rowQueued u k off then keepOrder (u.inc (DDR_ORDER_INORDER k)) k off else u).get f = u.get f := by
    split
    · rw [keepOrder, get_updDdr, Work.get_inc_ne _ _ _ hin]
    · rfl
  generalize (if rowQueued u k off then keepOrder (u.inc (DDR_ORDER_INORDER k)) k off else u) = x at *
  split
  · rw [ddrDrainBank, get_ddrDrainTo, ordered, forwards]
  · rw [ordered, forwards]

/-- STATE of a channel lies apart from what its traffic writes but for the wake. -/
theorem state_apart (c : Fin 2) : (∀ g ∈ [DDR_ORDER_FWD c.val, DDR_ORDER_INORDER c], (DDR_STATUS_STATE c).key ≠ g.key) ∧
    (∀ g ∈ [DDR_RH_STAT_NREF c.val, DDR_RH_STAT_RFM c], (DDR_STATUS_STATE c).key ≠ g.key) ∧
    (DDR_STATUS_STATE c).key ≠ (DDR_STATUS_MR4_2X c).key ∧ ∀ g ∈ debtFlds c, (DDR_STATUS_STATE c).key ≠ g.key := by
  revert c
  decide

/-- A request that finds its channel in frost wakes it. -/
theorem serve_wakes {c : Fin 2} (hst : s.get (DDR_STATUS_STATE c) = DDR_FROST) (off cls drained : Nat) (write opens hot : Bool) :
    (ddrServe (Work.start s) c off cls write opens drained hot).get (DDR_STATUS_STATE c) = DDR_READY := by
  obtain ⟨horder, hhammer, hmr, hdebt⟩ := state_apart c
  have woken : (frostWake (Work.start s) c hot).get (DDR_STATUS_STATE c) = DDR_READY := by
    obtain ⟨v, -, hv, -, hready⟩ := frostWake_eq s c hot hst
    rw [hv, mr4Read, get_showDebt _ _ hdebt, Work.setB, Work.get_set_ne _ _ _ _ hmr, get_ddrSendBoth, hready]
  have met : (ddrHazards (ddrDrain (frostWake (Work.start s) c hot) c (bits off 6 1) drained) c off write).get (DDR_STATUS_STATE c) =
      DDR_READY := by
    rw [get_ddrHazards _ _ _ _ _ horder, ddrDrain, get_ddrDrainTo, woken]
  have opened := (get_afterOpening (ddrHazards (ddrDrain (frostWake (Work.start s) c hot) c (bits off 6 1) drained) c off write) c off opens _
    hhammer).trans met
  have served : ddrServe (Work.start s) c off cls write opens drained hot =
      if write then queueWrite (afterOpening (ddrHazards (ddrDrain (frostWake (Work.start s) c hot) c (bits off 6 1) drained) c off write) c off
        opens) c off cls
      else ddrSend (afterOpening (ddrHazards (ddrDrain (frostWake (Work.start s) c hot) c (bits off 6 1) drained) c off write) c off opens) c
        (bits off 6 1) ⟨.read, off⟩ := rfl
  rw [served]
  generalize afterOpening _ c off opens = v at *
  split
  · rw [get_queueWrite, opened]
  · rw [ddrSend, get_updDdr, opened]

/-- The bytes of a request within its line. -/
theorem getD_take {bytes : List Byte} (room i : Nat) (hi : i < min bytes.length room) : (bytes.take room).getD i 0 = bytes.getD i 0 := by
  rw [List.getD_eq_getElem?_getD, List.getD_eq_getElem?_getD, List.getElem?_take, if_pos (lt_of_lt_of_le hi (Nat.min_le_right _ _))]

/-- What a write shows of the line. -/
theorem wrBytes_line (s : State) (a room : Nat) (bytes : List Byte) :
    (∀ i < min bytes.length room, (s.view.wrBytes a (bytes.take room)).rd8 (a + i) = bytes.getD i 0) ∧
      ∀ b, ¬(a ≤ b ∧ b < a + min bytes.length room) → (s.view.wrBytes a (bytes.take room)).rd8 b = s.byteAt b := by
  have len : (bytes.take room).length = min bytes.length room := by rw [List.length_take, Nat.min_comm]
  refine ⟨fun i hi => ?_, fun b hb => ?_⟩
  · rw [Work.rd8_wrBytes, len, if_pos ⟨Nat.le_add_right _ _, Nat.add_lt_add_left hi _⟩, Nat.add_sub_cancel_left, getD_take room i hi]
  · rw [Work.rd8_wrBytes, len, if_neg hb, Work.rd8_start]

end

section

variable {s : State} (hs : s.wf = true) (c : Fin 2) (off : Fin (2 ^ 37)) (cls : Fin 3) (n : Fin 65) (opens : Bool) (drained : Nat) (hot : Bool)

include hs

theorem read_ready (hst : s.get (DDR_STATUS_STATE c) = DDR_READY) (hr : Served s c off true opens) :
    Answers (.ddrRequest c off cls n [] opens drained hot) s (fun t =>
      let q := drainedQueue (s.view.ddr c) (bits off 6 1) drained
      t.dev.out = [.port "DDR" ((s.view.rdBytes (ddrBase c + off) (min n.val (64 - off.val % 64))).map (·.toNat))] ∧
      (q.any (fun x => decide (x.line = off.val / 64)) = true → Counted s t (DDR_ORDER_FWD c)) ∧
      (q.any (otherLine s.view c off) = true → Counted s t (DDR_ORDER_INORDER c)) ∧
      (t.view.ddr c).writes = (s.view.ddr c).writes.set (bits off 6 1) (orderedQueue s c off false q) ∧
      t.dev = { s.dev with out := t.dev.out, ddr := t.dev.ddr } ∧ (∀ k, k ≠ c.val → t.view.ddr k = s.view.ddr k) ∧
      Frame s t (requestFlds c opens)) := by
  refine answers_read hr hst drained hot ?_
  obtain ⟨v, cmds, acts, hv, hto, hfwd, hin⟩ := met_effect s c.isLt off drained false opens
  rw [hv]
  obtain ⟨hframe, hview, hout, hdev, hother⟩ := emitted_finish hs (hto.send c.isLt (bits off 6 1) ⟨.read, off⟩) c.isLt
    (.port "DDR" ((s.view.rdBytes (ddrBase c + off) (min n (64 - off % 64))).map (·.toNat)))
  have regs : ∀ f, ((ddrSend v c (bits off 6 1) ⟨.read, off⟩).emit (.port "DDR" ((s.view.rdBytes (ddrBase c + off)
      (min n (64 - off % 64))).map (·.toNat)))).finish.get f = v.get f := fun f => Work.finish_get _ _ hs
  refine ⟨hout, fun h => (regs _).trans (hfwd h), fun h => (regs _).trans (hin h), by rw [hview]; rfl, ?_, hother, hframe⟩
  rw [hout]
  exact hdev

theorem write_ready {bytes : List Byte} (hb : bytes ≠ []) (hst : s.get (DDR_STATUS_STATE c) = DDR_READY)
    (hr : Served s c off false opens) :
    Answers (.ddrRequest c off cls n bytes opens drained hot) s (fun t =>
      let q := drainedQueue (s.view.ddr c) (bits off 6 1) drained
      let a := ddrBase c + off
      let room := 64 - off.val % 64
      (∀ i < min bytes.length room, t.byteAt (a + i) = bytes.getD i 0) ∧ MemBut s t a (min bytes.length room) ∧
      (q.any (otherLine s.view c off) = true → Counted s t (DDR_ORDER_INORDER c)) ∧
      (t.view.ddr c).writes = (s.view.ddr c).writes.set (bits off 6 1) (⟨off / 64, cls + 1, false⟩ ::
        (if 64 ≤ (keptQueue s c off q).length then (keptQueue s c off q).take ((keptQueue s c off q).length - 1) else keptQueue s c off q)) ∧
      RegsBut s t (requestFlds c opens) ∧ (∀ b, t.flashAt b = s.flashAt b) ∧
      t.dev = { s.view.dev with ddr := t.dev.ddr } ∧ (∀ k, k ≠ c.val → t.view.ddr k = s.view.ddr k)) := by
  refine answers_write hb hr hst drained hot ?_
  obtain ⟨v, cmds, acts, hv, hto, -, hin⟩ := met_effect s c.isLt off drained true opens
  rw [hv]
  rw [orderedQueue_write] at hto
  have kept : ((s.view.ddr c).writes.set (bits off 6 1) (keptQueue s c off (drainedQueue (s.view.ddr c) (bits off 6 1) drained))).getD
      (bits off 6 1) [] = keptQueue s c off (drainedQueue (s.view.ddr c) (bits off 6 1) drained) :=
    getD_set_self _ _ _ (fun h => by rw [drainedQueue, h, List.take_nil]; rfl)
  obtain ⟨cmds', hqueued⟩ := queueWrite_to hto c.isLt off (cls + 1) _ kept
  dsimp only at hqueued
  rw [List.set_set] at hqueued
  have inorder : (queueWrite v c off (cls + 1)).get (DDR_ORDER_INORDER c) = v.get (DDR_ORDER_INORDER c) := get_queueWrite _ _ _ _ _
  have other := hqueued.ddr_ne c.isLt
  have own := hqueued.ddr c.isLt
  obtain ⟨hbytes, hregs, hflash, hdev⟩ := stored_finish hs hqueued (ddrBase c + off) (bytes.take (64 - off % 64))
  obtain ⟨hline, hbut⟩ := wrBytes_line s (ddrBase c + off) (64 - off % 64) bytes
  have view : ((queueWrite v c off (cls + 1)).wrBytes (ddrBase c + off) (bytes.take (64 - off % 64))).finish.dev =
      (queueWrite v c off (cls + 1)).dev := Work.wrBytes_dev _ _ _
  refine ⟨fun i hi => (hbytes _).trans (hline i hi), fun b hb => (hbytes _).trans (hbut b hb), fun h => ?_, ?_, hregs, hflash, ?_, fun k hk => ?_⟩
  · refine (Work.finish_get _ _ hs).trans ((Work.get_wrBytes _ _ _ _).trans (inorder.trans (hin h)))
  · rw [State.view, Work.ddr, Work.start, view]
    exact congrArg DdrSt.writes own
  · rw [hdev]
  · rw [State.view, Work.ddr, Work.start, view]
    exact other k hk

/-- A request that waits. -/
theorem request_waits (bytes : List Byte) (hst : s.get (DDR_STATUS_STATE c) = DDR_READY ∨ s.get (DDR_STATUS_STATE c) = DDR_FROST)
    (hcap : off.val < ddrCapacity s.view c)
    (hw : (ddrWaits s.view c off (decide (bytes = [])) opens || (s.view.ddr c).waiting.any (fun x => decide (x.off / 64 = off.val / 64))) =
      true) :
    Answers (.ddrRequest c off cls n bytes opens drained hot) s (fun t =>
      (∀ b, t.byteAt b = (s.view.wrBytes (ddrBase c + off) (bytes.take (64 - off.val % 64))).rd8 b) ∧ RegsBut s t [] ∧
        (∀ b, t.flashAt b = s.flashAt b) ∧ t.dev = { s.view.dev with ddr := vset s.dev.ddr c { s.view.ddr c with
          waiting := (s.view.ddr c).waiting ++ [⟨off, cls + 1, decide (bytes ≠ []), opens, drained, hot,
            if bytes = [] then some (s.view.rdBytes (ddrBase c + off) (min n.val (64 - off.val % 64))) else none⟩] } }) := by
  have serves : ¬(ddrState (Work.start s) c ≠ DDR_READY ∧ ddrState (Work.start s) c ≠ DDR_FROST) := fun ⟨h1, h2⟩ => hst.elim h1 h2
  have queued : ∀ x : DdrReq, DdrTo (· ∈ ([] : List Fld)) c (Work.start s)
      ((Work.start s).updDdr c (fun d => { d with waiting := d.waiting ++ [x] }))
      { s.view.ddr c with waiting := (s.view.ddr c).waiting ++ [x] } := fun x => (DdrTo.refl _).upd c.isLt _
  by_cases hb : bytes = []
  · subst hb
    have arrives : ddrRequest (Work.start s) c off (cls + 1) n [] opens drained hot = (Work.start s).updDdr c (fun d => { d with
        waiting := d.waiting ++ [⟨off, cls + 1, false, opens, drained, hot,
          some (s.view.rdBytes (ddrBase c + off) (min n.val (64 - off.val % 64)))⟩] }) := by
      rw [ddrRequest, if_neg serves, if_neg (Nat.not_le.2 hcap), if_pos rfl, ddrArrive]
      exact if_pos hw
    rw [List.take_nil, if_pos rfl, decide_eq_false (not_not.2 rfl)]
    exact ⟨_, (by rw [exec, execDdrRequest, run_eq, arrives]; rfl), stored_finish hs (queued _) (ddrBase c + off) []⟩
  · have arrives : ddrRequest (Work.start s) c off (cls + 1) n bytes opens drained hot = ((Work.start s).updDdr c (fun d => { d with
        waiting := d.waiting ++ [⟨off, cls + 1, true, opens, drained, hot, none⟩] })).wrBytes (ddrBase c + off)
          (bytes.take (64 - off % 64)) := by
      rw [ddrRequest, if_neg serves, if_neg (Nat.not_le.2 hcap), if_neg hb, ddrArrive]
      rw [decide_eq_false hb] at hw
      exact congrArg (fun v : Work s => v.wrBytes (ddrBase c + off) (bytes.take (64 - off % 64))) (if_pos hw)
    rw [if_neg hb, decide_eq_true hb]
    exact ⟨_, by rw [exec, execDdrRequest, run_eq, arrives], stored_finish hs (queued _) (ddrBase c + off) (bytes.take (64 - off % 64))⟩

/-- A request that wakes its channel from frost. -/
theorem frost_read (hst : s.get (DDR_STATUS_STATE c) = DDR_FROST) (hr : Served s c off true opens) :
    Answers (.ddrRequest c off cls n [] opens drained hot) s (fun t => t.get (DDR_STATUS_STATE c) = DDR_READY ∧
      t.dev.out = [.port "DDR" ((s.view.rdBytes (ddrBase c + off) (min n.val (64 - off.val % 64))).map (·.toNat))]) := by
  obtain ⟨d, hto, -⟩ := (Serves.refl (Work.start s)).serve c.isLt off (cls + 1) false opens drained hot
  obtain ⟨-, -, hout, -⟩ := emitted_finish hs hto c.isLt
    (.port "DDR" ((s.view.rdBytes (ddrBase c + off) (min n (64 - off % 64))).map (·.toNat)))
  refine ⟨_, by rw [exec, execDdrRequest, run_eq, read_served hr], ?_, hout⟩
  rw [Work.finish_get _ _ hs, Work.get_emit]
  exact serve_wakes hst off (cls + 1) drained false opens hot

theorem frost_write {bytes : List Byte} (hb : bytes ≠ []) (hst : s.get (DDR_STATUS_STATE c) = DDR_FROST)
    (hr : Served s c off false opens) :
    Answers (.ddrRequest c off cls n bytes opens drained hot) s (fun t => t.get (DDR_STATUS_STATE c) = DDR_READY ∧
      ∀ i < min bytes.length (64 - off.val % 64), t.byteAt (ddrBase c + off + i) = bytes.getD i 0) := by
  obtain ⟨d, hto, -⟩ := (Serves.refl (Work.start s)).serve c.isLt off (cls + 1) true opens drained hot
  obtain ⟨hbytes, -⟩ := stored_finish hs hto (ddrBase c + off) (bytes.take (64 - off % 64))
  obtain ⟨hline, -⟩ := wrBytes_line s (ddrBase c + off) (64 - off % 64) bytes
  refine ⟨_, by rw [exec, execDdrRequest, run_eq, write_served hb hr], ?_, fun i hi => (hbytes _).trans (hline i hi)⟩
  rw [Work.finish_get _ _ hs, Work.get_wrBytes]
  exact serve_wakes hst off (cls + 1) drained true opens hot

/-- Past the installed capacity a read gives zeros. -/
theorem read_beyond (hst : s.get (DDR_STATUS_STATE c) = DDR_READY ∨ s.get (DDR_STATUS_STATE c) = DDR_FROST)
    (hcap : ddrCapacity s.view c ≤ off.val) :
    Answers (.ddrRequest c off cls n [] opens drained hot) s (fun t =>
      t.dev.out = [.port "DDR" (List.replicate (min n.val (64 - off.val % 64)) 0)] ∧ Plain s t []) := by
  have serves : ¬(ddrState (Work.start s) c ≠ DDR_READY ∧ ddrState (Work.start s) c ≠ DDR_FROST) := fun ⟨h1, h2⟩ => hst.elim h1 h2
  refine ⟨_, by rw [exec, execDdrRequest, run_eq, ddrRequest, if_neg serves, if_pos hcap, if_pos rfl], ?_, ?_⟩
  · rfl
  · exact plain_finish hs (keeps_start s []) (quiet_start s) rfl rfl

/-- Past the installed capacity a write is logged. -/
theorem write_beyond {bytes : List Byte} (hb : bytes ≠ [])
    (hst : s.get (DDR_STATUS_STATE c) = DDR_READY ∨ s.get (DDR_STATUS_STATE c) = DDR_FROST) (hcap : ddrCapacity s.view c ≤ off.val) :
    Answers (.ddrRequest c off cls n bytes opens drained hot) s (fun t => Logged s t 1 3 63 (ddrBase c + off) ∧
      Leaves s t (logFlds (s.get DEV_ERRLOG_HEAD)) { s.view.dev with held := s.dev.held ++ [s.firing 487] }) := by
  have serves : ¬(ddrState (Work.start s) c ≠ DDR_READY ∧ ddrState (Work.start s) c ≠ DDR_FROST) := fun ⟨h1, h2⟩ => hst.elim h1 h2
  obtain ⟨u, hu, hlog, hkeeps, hquiet, hdev, hfresh⟩ := errlog_effect (Work.start s) 0x01 devTile 0 (ddrBase c + off) .hardware hs
    (Work.get_start s _) (by decide) (by decide)
  refine ⟨_, by rw [exec, execDdrRequest, run_eq, ddrRequest, if_neg serves, if_pos hcap, if_neg hb, hu], hlog,
    leaves_finish hs ((hkeeps _ (List.Subset.refl _)).2 (keeps_start s _)) (hquiet.2 (quiet_start s)) ?_ hfresh⟩
  rw [hdev, firing_eq (Work.start s) 487 rfl (Work.get_start s _)]
  rfl

end

theorem channelRequests : Clause.ChannelRequests := by
  intro s hs c off cls n bytes opens drained hot request a room sub d line q bank queued waits other kept inOrder
  have served : (s.get (DDR_STATUS_STATE c) = DDR_READY ∨ s.get (DDR_STATUS_STATE c) = DDR_FROST) → off.val < ddrCapacity s.view c →
      waits = false → Served s c off (decide (bytes = [])) opens := fun hst hcap hw => ⟨hst, hcap, hw⟩
  have length : kept.length = q.length := List.length_map _
  refine ⟨fun hst hcap hw => ⟨fun hb => ?_, fun hb => ?_⟩, fun hst hcap hw => request_waits hs c off cls n opens drained hot bytes hst hcap hw,
    fun hst hcap hw => ?_, fun hst hcap => ⟨fun hb => ?_, fun hb => write_beyond hs c off cls n opens drained hot hb hst hcap⟩⟩
  · have hr := served (.inl hst) hcap hw
    subst hb
    exact read_ready hs c off cls n opens drained hot hst hr
  · have hr := served (.inl hst) hcap hw
    rw [decide_eq_false hb] at hr
    rw [← length]
    exact write_ready hs c off cls n opens drained hot hb hst hr
  · have hr := served (.inr hst) hcap hw
    by_cases hb : bytes = []
    · subst hb
      obtain ⟨t, ht, hready, hout⟩ := frost_read hs c off cls n opens drained hot hst hr
      exact ⟨t, ht, hready, fun _ => hout, fun h => absurd rfl h⟩
    · rw [decide_eq_false hb] at hr
      obtain ⟨t, ht, hready, hline⟩ := frost_write hs c off cls n opens drained hot hb hst hr
      exact ⟨t, ht, hready, fun h => absurd h hb, fun _ => hline⟩
  · subst hb
    exact read_beyond hs c off cls n opens drained hot hst hcap

/-- Settles O45: a request by its drained writes, its hazards and its row in turn, and the row-hammer work of the row it opens. -/
theorem channels : Obligations.Channels := ⟨channelRequests, rowHammer⟩

end Sys2Proof.ChannelProofs
end

section
/-! PROOFS. Calibration steps of the converters (R80, R83, R127). -/

namespace Sys2Proof.CalProofs

open Sys2Proof.Machine Sys2Proof.Effects Sys2Proof.SeqFacts Sys2Proof.RejectFacts

variable {s : State}

theorem dac_updDac_self (w : Work s) {t d : Nat} (ht : t < 32) (hd : d < 3) (f : Dac → Dac) : (w.updDac t d f).dac t d = f (w.dac t d) := by
  rw [Work.dac, Work.updDac, tile_updTile_self _ _ _ ht]
  rw [vget_vset _ _ _ _ _ hd, if_pos rfl]
  rfl

/-! ## A step counted, of a cycle that ends with the step numbered last -/

section

variable (w : Work s) (step cycles stale date : Fld) (last : Nat)

/-- The next step, or the cycle that ends: its counter, its mark and its date. -/
def countStep : Work s :=
  if w.get step = last then (((w.set step 0).inc cycles).set stale 0).set date w.dev.ticks else w.set step (w.get step + 1)

theorem countStep_typed : (countStep w step cycles stale date last).dev = w.dev ∧ (countStep w step cycles stale date last).tl = w.tl ∧
    (countStep w step cycles stale date last).fresh = w.fresh ∧ (Quiet w → Quiet (countStep w step cycles stale date last)) := by
  rw [countStep]
  split <;> exact ⟨rfl, rfl, rfl, id⟩

/-- Four registers that lie apart. -/
def Apart : Prop := [step, cycles, stale, date].Pairwise (fun f g => f.key ≠ g.key)

theorem get_countStep_other (f : Fld) (hf : ∀ g ∈ [step, cycles, stale, date], f.key ≠ g.key) :
    (countStep w step cycles stale date last).get f = w.get f := by
  simp only [List.mem_cons, List.not_mem_nil, or_false, forall_eq_or_imp, forall_eq] at hf
  obtain ⟨h0, h1, h2, h3⟩ := hf
  rw [countStep]
  split
  · rw [Work.get_set_ne _ _ _ _ h3, Work.get_set_ne _ _ _ _ h2, Work.get_inc_ne _ _ _ h1, Work.get_set_ne _ _ _ _ h0]
  · exact Work.get_set_ne _ _ _ _ h0

/-- A step within its cycle. -/
theorem countStep_next (h : w.get step ≠ last) : countStep w step cycles stale date last = w.set step (w.get step + 1) := if_neg h

/-- The last step of a cycle. -/
theorem get_countStep_last (ha : Apart step cycles stale date) (h : w.get step = last) :
    (countStep w step cycles stale date last).get step = 0 ∧ (countStep w step cycles stale date last).get stale = 0 ∧
      (countStep w step cycles stale date last).get date = w.dev.ticks % 2 ^ date.width ∧
      (countStep w step cycles stale date last).get cycles = min (2 ^ cycles.width - 1) (w.get cycles + 1) := by
  simp only [Apart, List.pairwise_cons, List.mem_cons, List.not_mem_nil, or_false, forall_eq_or_imp, forall_eq] at ha
  obtain ⟨⟨s1, s2, s3⟩, ⟨c1, c2⟩, l1, -⟩ := ha
  rw [countStep, if_pos h]
  refine ⟨?_, ?_, ?_, ?_⟩
  · rw [Work.get_set_ne _ _ _ _ s3, Work.get_set_ne _ _ _ _ s2, Work.get_inc_ne _ _ _ s1, Work.get_set_self]
    exact Nat.zero_mod _
  · rw [Work.get_set_ne _ _ _ _ l1, Work.get_set_self]
    exact Nat.zero_mod _
  · rw [Work.get_set_self]
  · rw [Work.get_set_ne _ _ _ _ c2, Work.get_set_ne _ _ _ _ c1, get_inc, Work.get_set_ne _ _ _ _ s1.symm]

end

/-! ## The DACs -/

/-- The registers of a DAC's calibration lie apart. -/
theorem dacCal_apart (u d : Nat) : Apart (DAC_CAL_STEP u d) (DAC_CAL_CYCLES u d) (DAC_CAL_CAL_STALE u d) (CAL_LAST u d) ∧
    (DAC_CAL_BG_EN u d).key ≠ (DAC_CAL_RUNNING u d).key ∧
    (∀ f ∈ [DAC_CAL_BG_EN u d, DAC_CAL_RUNNING u d], ∀ g ∈ [DAC_CAL_STEP u d, DAC_CAL_CYCLES u d, DAC_CAL_CAL_STALE u d, CAL_LAST u d],
      f.key ≠ g.key) := by
  simp only [Apart, List.pairwise_cons, List.mem_cons, List.not_mem_nil, or_false, forall_eq_or_imp, forall_eq, List.Pairwise.nil, and_true,
    false_imp_iff, implies_true, Fld.key, DAC_CAL_BG_EN, DAC_CAL_RUNNING, DAC_CAL_STEP, DAC_CAL_CYCLES, DAC_CAL_CAL_STALE, CAL_LAST,
    hid, tileBase]
  omega

/-- A step of DAC d that has run its time, off the converter. -/
def stepEnded (w : Work s) (t d : Nat) : Work s := (w.updDac t d (fun x => { x with calStart := none })).set (DAC_CAL_RUNNING t d) 0

/-- That step counted. -/
def stepCounted (w : Work s) (t d : Nat) : Work s :=
  countStep (stepEnded w t d) (DAC_CAL_STEP t d) (DAC_CAL_CYCLES t d) (DAC_CAL_CAL_STALE t d) (CAL_LAST t d) 47

theorem dacCalDone_eq (w : Work s) (t d k : Nat) (hk : (w.dac t d).calStart = some k) (hdue : k + 256 ≤ w.dev.ticks) :
    dacCalDone w t d =
      if dacCalMay (stepCounted w t d) t d ((stepCounted w t d).now - 2) then
        dacCalStart (stepCounted w t d) t d (stepCounted w t d).dev.ticks
      else stepCounted w t d := by
  rw [dacCalDone, hk]
  exact if_neg (Nat.not_lt.2 hdue)

/-- A DAC's step that ends leaves everything else where it was. -/
theorem stepEnded_regs (s : State) (u d : Nat) :
    Keeps (stepEnded (Work.start s) u d) [DAC_CAL_RUNNING u d] ∧ (stepEnded (Work.start s) u d).get (DAC_CAL_RUNNING u d) = 0 := by
  constructor
  · rw [stepEnded, keeps_set _ _ _ _ List.mem_cons_self, keeps_updDac]
    exact keeps_start s _
  · rw [stepEnded, Work.get_set_self]
    rfl

theorem stepEnded_typed (s : State) {u d : Nat} (hu : u < 32) (hd : d < 3) :
    (stepEnded (Work.start s) u d).dac u d = { s.view.dac u d with calStart := none } ∧
      (stepEnded (Work.start s) u d).dev.ticks = s.dev.ticks ∧ (stepEnded (Work.start s) u d).tl = s.tl ∧
      Quiet (stepEnded (Work.start s) u d) := by
  have dac := dac_updDac_self (Work.start s) hu hd (fun x => { x with calStart := none })
  exact ⟨dac, rfl, rfl, quiet_start s⟩

/-- Background calibration goes on: it is enabled, and the quiet time of the DAC goes on. -/
def CalGoesOn (s : State) (u d : Nat) : Prop :=
  s.get (DAC_CAL_BG_EN u d) ≠ 0 ∧ (1024 ≤ (s.view.dac u d).zeroRun ∨
    ∃ q ∈ (s.view.dac u d).quiet, q.1 ≤ s.tl.count - 2 ∧ s.tl.count - 2 < q.2)

theorem dacCalMay_iff (s : State) (u d : Nat) (v : Work s) (hbg : v.get (DAC_CAL_BG_EN u d) = s.get (DAC_CAL_BG_EN u d))
    (hdac : v.dac u d = { s.view.dac u d with calStart := none }) (hnow : v.now = s.tl.count) :
    dacCalMay v u d (v.now - 2) = true ↔ CalGoesOn s u d := by
  simp only [dacCalMay, on_eq, hbg, hdac, hnow, CalGoesOn, Bool.and_eq_true, Bool.or_eq_true, decide_eq_true_eq, List.any_eq_true]

/-- The converter's calibration off, or at work again. -/
theorem dacCal_completes (s : State) (u : Fin 32) (d : Fin 3) (k : Nat) (hk : (s.view.dac u d).calStart = some k)
    (hdue : k + 256 ≤ s.dev.ticks) : ∃ x : Work s, exec (.dacCalStepDone u d) s = .next x.finish ∧
      (∀ f, f.key ≠ (DAC_CAL_RUNNING u d).key → x.get f = (stepCounted (Work.start s) u d).get f) ∧ Quiet x ∧
      (CalGoesOn s u d → x.get (DAC_CAL_RUNNING u d) = 1 ∧ (x.dac u d).calStart = some s.dev.ticks) ∧
      (¬CalGoesOn s u d → x.get (DAC_CAL_RUNNING u d) = 0 ∧ (x.dac u d).calStart = none) := by
  obtain ⟨hkeeps, hrun⟩ := stepEnded_regs s u d
  obtain ⟨hdac, hticks, htl, hquiet⟩ := stepEnded_typed s u.isLt d.isLt
  obtain ⟨hdev, htl', -, hquiet'⟩ := countStep_typed (stepEnded (Work.start s) u d) (DAC_CAL_STEP u d) (DAC_CAL_CYCLES u d)
    (DAC_CAL_CAL_STALE u d) (CAL_LAST u d) 47
  obtain ⟨-, hbgrun, hrest⟩ := dacCal_apart u d
  have grun := (get_countStep_other (stepEnded (Work.start s) u d) _ _ _ _ 47 _ (hrest (DAC_CAL_RUNNING u d) (by simp))).trans hrun
  have bg : (stepCounted (Work.start s) u d).get (DAC_CAL_BG_EN u d) = s.get (DAC_CAL_BG_EN u d) :=
    (get_countStep_other (stepEnded (Work.start s) u d) _ _ _ _ 47 _ (hrest (DAC_CAL_BG_EN u d) (by simp))).trans
    (hkeeps _ (by simpa using hbgrun))
  have dac : (stepCounted (Work.start s) u d).dac u d = { s.view.dac u d with calStart := none } := by
    rw [← hdac, Work.dac, Work.dac, Work.tile, stepCounted, hdev]
    rfl
  have now : (stepCounted (Work.start s) u d).now = s.tl.count := by rw [Work.now, stepCounted, htl', htl]
  have done := dacCalDone_eq (Work.start s) u d k hk hdue
  have ticks : (stepCounted (Work.start s) u d).dev.ticks = s.dev.ticks := by rw [stepCounted, hdev, hticks]
  have may := dacCalMay_iff s u d _ bg dac now
  have quiet : Quiet (stepCounted (Work.start s) u d) := hquiet' hquiet
  rw [← stepCounted] at grun
  generalize stepCounted (Work.start s) u d = v at *
  rw [ticks] at done
  have answer : exec (.dacCalStepDone u d) s = .next (dacCalDone (Work.start s) u d).finish := by
    rw [exec, execDacCalStepDone, run_eq]
  by_cases hon : CalGoesOn s u d
  · rw [if_pos (may.2 hon)] at done
    refine ⟨dacCalStart v u d s.dev.ticks, answer.trans (by rw [done]), fun f hf => Work.get_set_ne _ _ _ _ hf, quiet,
      fun _ => ⟨?_, ?_⟩, fun h => absurd hon h⟩
    · rw [dacCalStart, Work.get_set_self]
      rfl
    · exact congrArg Dac.calStart (dac_updDac_self v u.isLt d.isLt (fun x => { x with calStart := some s.dev.ticks }))
  · rw [if_neg (fun h => hon (may.1 h))] at done
    exact ⟨v, answer.trans (by rw [done]), fun _ _ => rfl, quiet, fun h => absurd h hon, fun _ => ⟨grun, by rw [dac]⟩⟩

theorem dacCalStep_done (s : State) (hs : s.wf = true) (u : Fin 32) (d : Fin 3) (k : Nat) (hk : (s.view.dac u d).calStart = some k)
    (hdue : k + 256 ≤ s.dev.ticks) : Answers (.dacCalStepDone u d) s (fun t =>
      (CalGoesOn s u d → t.get (DAC_CAL_RUNNING u d) = 1 ∧ (t.view.dac u d).calStart = some s.dev.ticks) ∧
      (¬CalGoesOn s u d → t.get (DAC_CAL_RUNNING u d) = 0 ∧ (t.view.dac u d).calStart = none) ∧
      (s.get (DAC_CAL_STEP u d) ≠ 47 →
        t.get (DAC_CAL_STEP u d) = (s.get (DAC_CAL_STEP u d) + 1) % 2 ^ (DAC_CAL_STEP u d).width ∧
        Frame s t [DAC_CAL_RUNNING u d, DAC_CAL_STEP u d]) ∧
      (s.get (DAC_CAL_STEP u d) = 47 → t.get (DAC_CAL_STEP u d) = 0 ∧ t.get (DAC_CAL_CAL_STALE u d) = 0 ∧
        t.get (CAL_LAST u d) = s.dev.ticks % 2 ^ 64 ∧ Counted s t (DAC_CAL_CYCLES u d) ∧
        Frame s t [DAC_CAL_RUNNING u d, DAC_CAL_STEP u d, DAC_CAL_CYCLES u d, DAC_CAL_CAL_STALE u d, CAL_LAST u d])) := by
  obtain ⟨x, hx, hget, hquiet, hon, hoff⟩ := dacCal_completes s u d k hk hdue
  obtain ⟨hkeeps, -⟩ := stepEnded_regs s u d
  obtain ⟨-, hticks, -, -⟩ := stepEnded_typed s u.isLt d.isLt
  obtain ⟨hapart, -, hrest⟩ := dacCal_apart u d
  have run := hrest (DAC_CAL_RUNNING u d) (by simp)
  have at_ : ∀ f ∈ [DAC_CAL_STEP u d, DAC_CAL_CYCLES u d, DAC_CAL_CAL_STALE u d, CAL_LAST u d],
      (stepEnded (Work.start s) u d).get f = s.get f := fun f hf => hkeeps f (by simpa using (run f hf).symm)
  have shown : ∀ f ∈ [DAC_CAL_STEP u d, DAC_CAL_CYCLES u d, DAC_CAL_CAL_STALE u d, CAL_LAST u d],
      x.finish.get f = (stepCounted (Work.start s) u d).get f := fun f hf => (Work.finish_get _ _ hs).trans (hget f (run f hf).symm)
  refine ⟨_, hx, fun h => ?_, fun h => ?_, fun hn => ?_, fun hn => ?_⟩
  · obtain ⟨h1, h2⟩ := hon h
    exact ⟨(Work.finish_get _ _ hs).trans h1, h2⟩
  · obtain ⟨h1, h2⟩ := hoff h
    exact ⟨(Work.finish_get _ _ hs).trans h1, h2⟩
  · have next : stepCounted (Work.start s) u d = (stepEnded (Work.start s) u d).set (DAC_CAL_STEP u d) (s.get (DAC_CAL_STEP u d) + 1) := by
      rw [stepCounted, countStep_next _ _ _ _ _ _ (by rw [at_ _ (by simp)]; exact hn), at_ _ (by simp)]
    refine ⟨?_, frame_finish hs (fun f hf => ?_) hquiet⟩
    · rw [shown _ (by simp), next, Work.get_set_self]
    · rw [hget f (hf _ (by simp)), next, Work.get_set_ne _ _ _ _ (hf _ (by simp))]
      exact hkeeps f (by simpa using hf _ List.mem_cons_self)
  · obtain ⟨l1, l2, l3, l4⟩ := get_countStep_last (stepEnded (Work.start s) u d) _ _ _ _ 47 hapart ((at_ _ (by simp)).trans hn)
    refine ⟨(shown _ (by simp)).trans l1, (shown _ (by simp)).trans l2, (shown _ (by simp)).trans (l3.trans (by rw [hticks]; rfl)),
      (shown _ (by simp)).trans (l4.trans (by rw [at_ _ (by simp)])), frame_finish hs (fun f hf => ?_) hquiet⟩
    rw [hget f (hf _ (by simp)), stepCounted, get_countStep_other _ _ _ _ _ _ f (fun g hg => hf g (List.mem_cons_of_mem _ hg))]
    exact hkeeps f (by simpa using hf _ List.mem_cons_self)

/-! ## The ADC -/

theorem adcCal_apart (u : Nat) : Apart (ADC_CAL_STEP u) (ADC_CAL_CYCLES u) (ADC_CAL_CAL_STALE u) (CAL_LAST u 3) ∧
    ∀ g ∈ [ADC_CAL_STEP u, ADC_CAL_CYCLES u, ADC_CAL_CAL_STALE u, CAL_LAST u 3], (ADC_CAL_RUNNING u).key ≠ g.key := by
  simp only [Apart, List.pairwise_cons, List.mem_cons, List.not_mem_nil, or_false, forall_eq_or_imp, forall_eq, List.Pairwise.nil, and_true,
    false_imp_iff, implies_true, Fld.key, ADC_CAL_RUNNING, ADC_CAL_STEP, ADC_CAL_CYCLES, ADC_CAL_CAL_STALE, CAL_LAST, hid, tileBase]
  omega

theorem adcCalStep_done (s : State) (hs : s.wf = true) (u : Fin 32) (hrun : s.get (ADC_CAL_RUNNING u) ≠ 0)
    (hdue : s.get (ADC_CAL_START u) + 256 ≤ s.dev.ticks) : Answers (.adcCalStepDone u) s (fun t => t.get (ADC_CAL_RUNNING u) = 0 ∧
      (s.get (ADC_CAL_STEP u) ≠ 31 →
        t.get (ADC_CAL_STEP u) = (s.get (ADC_CAL_STEP u) + 1) % 2 ^ (ADC_CAL_STEP u).width ∧
        Plain s t [ADC_CAL_RUNNING u, ADC_CAL_STEP u]) ∧
      (s.get (ADC_CAL_STEP u) = 31 → t.get (ADC_CAL_STEP u) = 0 ∧ t.get (ADC_CAL_CAL_STALE u) = 0 ∧
        t.get (CAL_LAST u 3) = s.dev.ticks % 2 ^ 64 ∧ Counted s t (ADC_CAL_CYCLES u) ∧
        Plain s t [ADC_CAL_RUNNING u, ADC_CAL_STEP u, ADC_CAL_CYCLES u, ADC_CAL_CAL_STALE u, CAL_LAST u 3])) := by
  obtain ⟨hapart, run⟩ := adcCal_apart u
  have due : (Work.start s).on (ADC_CAL_RUNNING u) = true ∧ (Work.start s).get (ADC_CAL_START u) + 256 ≤ (Work.start s).dev.ticks :=
    ⟨(on_eq _ _).trans (decide_eq_true ((Work.get_start s _).symm ▸ hrun)), hdue⟩
  have done : adcCalDone (Work.start s) u = countStep ((Work.start s).set (ADC_CAL_RUNNING u) 0) (ADC_CAL_STEP u) (ADC_CAL_CYCLES u)
      (ADC_CAL_CAL_STALE u) (CAL_LAST u 3) 31 := by
    rw [adcCalDone, if_pos due]
    rfl
  have hkeeps : Keeps ((Work.start s).set (ADC_CAL_RUNNING u) 0) [ADC_CAL_RUNNING u] :=
    (keeps_set _ _ _ _ List.mem_cons_self).2 (keeps_start s _)
  have off : ((Work.start s).set (ADC_CAL_RUNNING u) 0).get (ADC_CAL_RUNNING u) = 0 := Work.get_set_self _ _ _
  have at_ : ∀ f ∈ [ADC_CAL_STEP u, ADC_CAL_CYCLES u, ADC_CAL_CAL_STALE u, CAL_LAST u 3],
      ((Work.start s).set (ADC_CAL_RUNNING u) 0).get f = s.get f := fun f hf => hkeeps f (by simpa using (run f hf).symm)
  have typed : ((Work.start s).set (ADC_CAL_RUNNING u) 0).dev = { s.dev with out := [] } ∧
      ((Work.start s).set (ADC_CAL_RUNNING u) 0).fresh = s.fresh ∧ Quiet ((Work.start s).set (ADC_CAL_RUNNING u) 0) :=
    ⟨rfl, rfl, quiet_start s⟩
  have answer : exec (.adcCalStepDone u) s = .next (adcCalDone (Work.start s) u).finish := by rw [exec, execAdcCalStepDone, run_eq]
  rw [done] at answer
  generalize (Work.start s).set (ADC_CAL_RUNNING u) 0 = v at *
  obtain ⟨vdev, vfresh, vquiet⟩ := typed
  obtain ⟨hdev, -, hfresh, hquiet⟩ := countStep_typed v (ADC_CAL_STEP u) (ADC_CAL_CYCLES u) (ADC_CAL_CAL_STALE u) (CAL_LAST u 3) 31
  have plain : ∀ fs, Keeps (countStep v (ADC_CAL_STEP u) (ADC_CAL_CYCLES u) (ADC_CAL_CAL_STALE u) (CAL_LAST u 3) 31) fs →
      Plain s (countStep v (ADC_CAL_STEP u) (ADC_CAL_CYCLES u) (ADC_CAL_CAL_STALE u) (CAL_LAST u 3) 31).finish fs := fun fs hfs =>
    plain_finish hs hfs (hquiet vquiet) (by rw [hdev, vdev]) (hfresh.trans vfresh)
  refine ⟨_, answer, ?_, fun hn => ⟨?_, plain _ (fun f hf => ?_)⟩, fun hn => ?_⟩
  · rw [Work.finish_get _ _ hs, get_countStep_other _ _ _ _ _ _ _ run, off]
  · rw [Work.finish_get _ _ hs, countStep_next _ _ _ _ _ _ (by rw [at_ _ (by simp)]; exact hn), Work.get_set_self, at_ _ (by simp)]
  · rw [countStep_next _ _ _ _ _ _ (by rw [at_ _ (by simp)]; exact hn), Work.get_set_ne _ _ _ _ (hf _ (by simp))]
    exact hkeeps f (by simpa using hf _ List.mem_cons_self)
  · obtain ⟨l1, l2, l3, l4⟩ := get_countStep_last v _ _ _ _ 31 hapart ((at_ _ (by simp)).trans hn)
    refine ⟨(Work.finish_get _ _ hs).trans l1, (Work.finish_get _ _ hs).trans l2, (Work.finish_get _ _ hs).trans (l3.trans ?_),
      (Work.finish_get _ _ hs).trans (l4.trans (by rw [at_ _ (by simp)])), plain _ (fun f hf => ?_)⟩
    · rw [vdev]
      rfl
    · rw [get_countStep_other _ _ _ _ _ _ f (fun g hg => hf g (List.mem_cons_of_mem _ hg))]
      exact hkeeps f (by simpa using hf _ List.mem_cons_self)

/-! ## CAL_STALE (R83, R127) -/

theorem stale_marked (s : State) (hs : s.wf = true) (f : Fld) (hw : f.width = 1) :
    ((Work.start s).set f 1).finish.get f = 1 ∧ Plain s ((Work.start s).set f 1).finish [f] := by
  refine ⟨?_, plain_finish hs ((keeps_set _ _ _ _ List.mem_cons_self).2 (keeps_start s _)) (quiet_start s) rfl rfl⟩
  rw [Work.finish_get _ _ hs, Work.get_set_self, hw]
  rfl

/-- Settles O15: the step is counted on the converter it has left, which takes its next step or stays free. -/
theorem calibrationSteps : Obligations.CalibrationSteps := by
  intro s hs u
  refine ⟨fun d k hk hdue => dacCalStep_done s hs u d k hk hdue, fun hrun hdue => adcCalStep_done s hs u hrun hdue, fun d hdue => ?_,
    fun hdue => ?_⟩
  · refine ⟨_, ?_, stale_marked s hs (DAC_CAL_CAL_STALE u d) rfl⟩
    rw [exec, execCalStale, run_eq, if_pos (show (Work.start s).get (CAL_LAST u d) + tenSeconds ≤ (Work.start s).dev.ticks from hdue)]
  · refine ⟨_, ?_, stale_marked s hs (ADC_CAL_CAL_STALE u) rfl⟩
    rw [exec, execAdcCalStale, run_eq, if_pos (show (Work.start s).get (CAL_LAST u 3) + tenSeconds ≤ (Work.start s).dev.ticks from hdue)]

end Sys2Proof.CalProofs
end

section
/-! PROOFS. Units that take effect at their clasps (R46): the pulses of the engines and their parameters (R62 to R69, R92 to R94). -/

namespace Sys2Proof.TakeProofs

open Sys2Proof.Machine Sys2Proof.Effects Sys2Proof.SeqFacts Sys2Proof.RejectFacts Sys2Proof.CalProofs

variable {σ : State}

/-! ## Works one after the other -/

theorem tileWork_trans {K : Fld → Prop} {w w' w'' : Work σ} (h : TileWork K w w') (h' : TileWork K w' w'') : TileWork K w w'' := by
  obtain ⟨hr, hq, hf, hd⟩ := h
  obtain ⟨hr', hq', hf', hd'⟩ := h'
  exact ⟨fun f hf => (hr' f hf).trans (hr f hf), fun q => hq' (hq q), hf'.trans hf, by rw [hd', hd]⟩

theorem tileWork_mono {K K' : Fld → Prop} {w w' : Work σ} (h : TileWork K w w') (hK : ∀ g, K g → K' g) : TileWork K' w w' :=
  ⟨fun f hf => h.1 f (fun g hg => hf g (hK g hg)), h.2⟩

/-! ## Parts of a tile -/

section

variable {t : Nat} (ht : t < 32)

include ht

theorem clasp_updClasp_self (w : Work σ) {c : Nat} (hc : c < 33) (f : Clasp → Clasp) : (w.updClasp t c f).clasp t c = f (w.clasp t c) := by
  rw [Work.clasp, Work.updClasp, tile_updTile_self _ _ _ ht]
  exact (vget_vset _ _ _ _ _ hc).trans (if_pos rfl)

theorem tone_updTone_self (w : Work σ) {e : Nat} (he : e < 16) (f : Tone → Tone) : (w.updTone t e f).tone t e = f (w.tone t e) := by
  rw [Work.tone, Work.updTone, tile_updTile_self _ _ _ ht]
  exact (vget_vset _ _ _ _ _ he).trans (if_pos rfl)

theorem flux_updFlux_self (w : Work σ) {e : Nat} (he : e < 8) (f : Flux → Flux) : (w.updFlux t e f).flux t e = f (w.flux t e) := by
  rw [Work.flux, Work.updFlux, tile_updTile_self _ _ _ ht]
  exact (vget_vset _ _ _ _ _ he).trans (if_pos rfl)

end

/-! ## A unit off its clasp (R46) -/

/-- What φ shows of a tile is no part of its page buffers. -/
def PagesUnseen {α : Type} (φ : Tile → α) : Prop := ∀ (x : Tile) (pages : List PageBuf), φ { x with pages } = φ x

/-- Pages given back leave the rest of the tile. -/
theorem dropPages_local {α : Type} {φ : Tile → α} (hφ : PagesUnseen φ) {K : Fld → Prop} {t : Nat} {w w' : Work σ}
    (h : TileLocal K t φ w w') (p : Option Nat) : TileLocal K t φ w (pageDrop w' t p) := by
  cases p with
  | none => exact h
  | some p => exact h.updTile _ (fun x => hφ x _)

/-- The register that counts what R46 discards. -/
def collideFlds (u : Nat) (i : Item) : List Fld := if i.isParam then [] else [CLASP_COLLIDE u]

/-- A unit that leaves its clasp leaves the parts of its tile that hold no entries and no pages. -/
theorem takeDue_local {α : Type} {φ : Tile → α} (hφ : ∀ (x : Tile) (clasps : Vector Clasp 33) (pages : List PageBuf),
    φ { x with clasps, pages } = φ x) (s : State) (u c : Nat) (i : Item) :
    TileLocal (· ∈ collideFlds u i) u φ (Work.start s) (takeDue (Work.start s) u c i) := by
  rw [takeDue, collideFlds]
  split
  · exact (TileLocal.refl _).updTile _ (fun x => hφ x _ x.pages)
  · refine TileLocal.each (TileLocal.set ((TileLocal.refl _).updTile _ (fun x => hφ x _ x.pages)) (CLASP_COLLIDE u) _ (by simp)) _ _
      (fun w h _ hw => dropPages_local (fun x pages => hφ x x.clasps pages) hw h.page)

/-- What the clasp keeps of a unit that leaves it, and what the others of its instant count. -/
theorem takeDue_taken (s : State) {u c : Nat} (hu : u < 32) (hc : c < 33) (i : Item) :
    ((takeDue (Work.start s) u c i).clasp u c).items = (if i.isParam then (s.view.clasp u c).items.erase i
      else (s.view.clasp u c).items.drop (dueItems s.view u c).length) ∧
    (i.isParam = false → (takeDue (Work.start s) u c i).get (CLASP_COLLIDE u) =
      satAdd (2 ^ (CLASP_COLLIDE u).width - 1) (s.get (CLASP_COLLIDE u))
        ((dueItems s.view u c).dropLast.flatMap Item.members).length % 2 ^ (CLASP_COLLIDE u).width) := by
  rw [takeDue]
  split
  next hp =>
    refine ⟨?_, fun h => absurd hp (by rw [h]; exact Bool.false_ne_true)⟩
    rw [clasp_updClasp_self hu _ hc]
  · have left := clasp_updClasp_self hu (Work.start s) hc (fun k => { k with items := k.items.drop (dueItems s.view u c).length })
    have kept : TileLocal (fun _ => False) u Tile.clasps _ (dropPages (((Work.start s).updClasp u c
        (fun k => { k with items := k.items.drop (dueItems s.view u c).length })).add (CLASP_COLLIDE u)
        ((dueItems s.view u c).dropLast.flatMap Item.members).length) u ((dueItems s.view u c).dropLast.flatMap Item.members)) :=
      (TileLocal.refl _).each _ _ (fun w h _ hw => dropPages_local (fun _ _ => rfl) hw h.page)
    obtain ⟨⟨hget, -, -, -⟩, -, hclasps⟩ := kept
    refine ⟨?_, fun _ => ?_⟩
    · exact (congrArg (fun v => (vget v Clasp.reset c).items) hclasps).trans (congrArg Clasp.items left)
    · refine (hget _ (fun g hg => hg.elim)).trans ?_
      rw [Work.add, Work.get_set_self, Work.get_updClasp, Work.get_start]

/-- What a unit that has taken effect leaves, applied by a work that keeps the clasps of its tile. -/
theorem taken_finish {s : State} (hs : s.wf = true) {u c : Nat} (hu : u < 32) (hc : c < 33) (i : Item) {fs : List Fld} {w : Work s}
    (h : TileLocal (· ∈ fs) u Tile.clasps (takeDue (Work.start s) u c i) w) (hfs : i.isParam = false → ∀ f ∈ fs, (CLASP_COLLIDE u).key ≠ f.key) :
    Taken s w.finish u c i ∧ Frame s w.finish (collideFlds u i ++ fs) ∧ w.finish.dev.held = s.dev.held := by
  obtain ⟨hitems, hcollide⟩ := takeDue_taken s hu hc i
  obtain ⟨⟨hget, hquiet, -, hdev⟩, -, hclasps⟩ := h
  obtain ⟨⟨hget', hquiet', -, hdev'⟩, -⟩ := takeDue_local (φ := fun _ => ()) (fun _ _ _ => rfl) s u c i
  refine ⟨⟨?_, fun hp => ?_⟩, frame_finish hs (fun f hf => ?_) (hquiet (hquiet' (quiet_start s))), ?_⟩
  · exact (congrArg (fun v => (vget v Clasp.reset c).items) hclasps).trans hitems
  · exact (Work.finish_get _ _ hs).trans ((hget _ (hfs hp)).trans (hcollide hp))
  · exact (hget f (fun g hg => hf g (List.mem_append_right _ hg))).trans
      ((hget' f (fun g hg => hf g (List.mem_append_left _ hg))).trans (Work.get_start s f))
  · rw [Work.finish_dev, hdev, hdev']
    rfl

/-- The unit that is due, of the kind that a command names, takes effect. -/
theorem takeEffect_eq (w : Work σ) (t c : Nat) (p : Item → Bool) (i : Item) (h : nextDue w t c = some i) (hp : p i = true) :
    takeEffect w t c p = applyUnit (takeDue w t c i) t c i := by
  rw [takeEffect, h]
  exact if_pos hp

/-! ## Tone engines -/

/-- The samples fixed up to an entry's slot, and the reference kept for the demodulators. -/
def toneBefore (w : Work σ) (t e : Nat) (h : HeldEntry) (hs : List HeldEntry) : Work σ :=
  if hs.any (fun x => decide (x.entry.body % 256 < 0xC)) then keepReference (fillTone w t e h.entry.slot) t e h.entry.key
  else fillTone w t e h.entry.slot

theorem toneParams_cons (w : Work σ) (t e : Nat) (h : HeldEntry) (hs : List HeldEntry) :
    toneParams w t e (h :: hs) = (toneBefore w t e h (h :: hs)).each (h :: hs) (fun w x => toneGroup w t e x.entry) := rfl

theorem get_toneBefore (w : Work σ) (t e : Nat) (h : HeldEntry) (hs : List HeldEntry) (f : Fld) :
    (toneBefore w t e h hs).get f = w.get f := by
  rw [toneBefore]
  split
  · rw [keepReference]
    split <;> rfl
  · rfl

theorem toneBefore_local {α : Type} {φ : Tile → α} (hφ : ∀ (x : Tile) (tone : Vector Tone 16) (pbOld : List PbOld), φ { x with tone, pbOld } = φ x)
    {K : Fld → Prop} {t : Nat} {w w' : Work σ} (hw : TileLocal K t φ w w') (e : Nat) (h : HeldEntry) (hs : List HeldEntry) :
    TileLocal K t φ w (toneBefore w' t e h hs) := by
  have filled : TileLocal K t φ w (fillTone w' t e h.entry.slot) := hw.updTile _ (fun x => hφ x _ x.pbOld)
  rw [toneBefore]
  split
  · rw [keepReference]
    split
    · exact filled
    · exact filled.updTile _ (fun x => hφ x x.tone _)
  · exact filled

/-- A PARAM entry that takes effect leaves the registers until its group is applied. -/
theorem get_takeDue_param (s : State) (u c : Nat) (i : Item) (hp : i.isParam = true) (f : Fld) :
    (takeDue (Work.start s) u c i).get f = s.get f := by
  rw [takeDue, if_pos hp, Work.get_updClasp, Work.get_start]

theorem isParam_one (h : HeldEntry) (hk : h.entry.kind = KPARAM) : (Item.one h).isParam = true := decide_eq_true hk

/-- The work v stands where a PARAM unit has left its clasp c of tile u and nothing else shows of it: what a group then writes is all that
the command does. -/
def ParamReady (s : State) (u c : Nat) (i : Item) (v : Work s) : Prop :=
  (∀ f, v.get f = s.get f) ∧ ∀ (fs : List Fld) (w : Work s), TileLocal (· ∈ fs) u Tile.clasps v w →
    Taken s w.finish u c i ∧ Frame s w.finish fs

theorem paramReady_of_local {s : State} (hs : s.wf = true) {u c : Nat} (hu : u < 32) (hc : c < 33) {i : Item} (hi : i.isParam = true) {v : Work s}
    (hv : TileLocal (fun _ => False) u Tile.clasps (takeDue (Work.start s) u c i) v) : ParamReady s u c i v := by
  obtain ⟨hw, hne, hφ⟩ := hv
  refine ⟨fun f => (hw.1 f (fun g hg => hg.elim)).trans (get_takeDue_param s u c i hi f), fun fs w ⟨hw', hne', hφ'⟩ => ?_⟩
  have reached : TileLocal (· ∈ fs) u Tile.clasps (takeDue (Work.start s) u c i) w :=
    ⟨tileWork_trans (tileWork_mono hw (fun g hg => hg.elim)) hw', fun t ht => (hne' t ht).trans (hne t ht), hφ'.trans hφ⟩
  obtain ⟨taken, frame, -⟩ := taken_finish hs hu hc i reached (fun h => by rw [hi] at h; exact absurd h (by decide))
  rw [collideFlds, if_pos hi] at frame
  exact ⟨taken, frame⟩

/-- Parameters at a tone engine: what stands before the groups are applied. -/
theorem toneBefore_ready {s : State} (hs : s.wf = true) (u : Fin 32) (e : Fin 16) {i : Item} (hi : i.isParam = true) (h : HeldEntry) (hs' : List HeldEntry) :
    ParamReady s u e i (toneBefore (takeDue (Work.start s) u e i) u e h hs') :=
  paramReady_of_local hs u.isLt (by omega) hi (toneBefore_local (fun _ _ _ => rfl) (TileLocal.refl _) e h hs')

/-- The command that names the group of a single PARAM entry, due at a tone engine, applies that group. -/
theorem toneParam_effect {s : State} (hs : s.wf = true) (u : Fin 32) (e : Fin 16) (h : HeldEntry) (hdue : nextDue s.view u e = some (.one h))
    (hk : h.entry.kind = KPARAM) : ∃ v : Work s, ParamReady s u e (.one h) v ∧ (∀ k, v.dac u k = s.view.dac u k) ∧
      ∀ lo hi, isGroup lo hi (.one h) = true →
        run (fun w => takeEffect w u e (isGroup lo hi)) s = .next (toneGroup v u e h.entry).finish := by
  have hi := isParam_one h hk
  refine ⟨toneBefore (takeDue (Work.start s) u e (.one h)) u e h [h], toneBefore_ready hs u e hi h [h], fun k => ?_, fun lo hi hg => ?_⟩
  · have same : TileLocal (fun _ => False) u Tile.dac (Work.start s) (toneBefore (takeDue (Work.start s) u e (.one h)) u e h [h]) := by
      refine toneBefore_local (fun _ _ _ => rfl) ?_ e h [h]
      have := takeDue_local (φ := Tile.dac) (fun _ _ _ => rfl) s u e (.one h)
      simpa only [collideFlds, if_pos hi, List.not_mem_nil] using this
    exact congrArg (fun d => vget d Dac.reset k) same.2.2
  · rw [run_eq, takeEffect_eq _ _ _ _ _ hdue hg, applyUnit, if_pos e.isLt, hk]
    rfl

theorem isGroup_one {h : HeldEntry} (hk : h.entry.kind = KPARAM) {lo hi : Nat} (hlo : lo ≤ h.entry.body % 256) (hhi : h.entry.body % 256 ≤ hi) :
    isGroup lo hi (.one h) = true := by
  simp [isGroup, isParam_one h hk, Item.head?, Item.members, hlo, hhi]

/-- The value field of a template record's word. -/
theorem bits_mod (v lo w : Nat) : bits v lo w % 2 ^ w = bits v lo w := Nat.mod_mod _ _

section

variable {s : State} {u c : Nat} {i : Item} {v : Work s}

/-- A group that writes one register. -/
theorem ParamReady.set_one (hv : ParamReady s u c i v) (hs : s.wf = true) (f : Fld) (x : Nat) :
    (v.set f x).finish.get f = x % 2 ^ f.width ∧ Taken s (v.set f x).finish u c i ∧ Frame s (v.set f x).finish [f] :=
  ⟨by rw [Work.finish_get _ _ hs, Work.get_set_self], hv.2 _ _ ((TileLocal.refl v).set f x (by simp))⟩

/-- A group that writes two registers. -/
theorem ParamReady.set_two (hv : ParamReady s u c i v) (hs : s.wf = true) {f g : Fld} (x y : Nat) (hfg : f.key ≠ g.key) :
    ((v.set f x).set g y).finish.get f = x % 2 ^ f.width ∧ ((v.set f x).set g y).finish.get g = y % 2 ^ g.width ∧
      Taken s ((v.set f x).set g y).finish u c i ∧ Frame s ((v.set f x).set g y).finish [f, g] := by
  refine ⟨?_, by rw [Work.finish_get _ _ hs, Work.get_set_self], hv.2 _ _ (((TileLocal.refl v).set f x (by simp)).set g y (by simp))⟩
  rw [Work.finish_get _ _ hs, Work.get_set_ne _ _ _ _ hfg, Work.get_set_self]

end

/-- The four words of a tone engine's template record stand apart. -/
theorem tone_tpl_apart (u e m j k : Nat) (hjk : j ≠ k) : (TONE_TPL u e m j).key ≠ (TONE_TPL u e m k).key := by
  simp only [Fld.key, TONE_TPL, tileBase]
  omega

theorem flux_tpl_apart (u e m j k : Nat) (hjk : j ≠ k) : (FLUX_TPL u e m j).key ≠ (FLUX_TPL u e m k).key := by
  simp only [Fld.key, FLUX_TPL, tileBase]
  omega

theorem toneFreq_apart (u e g : Nat) (hg : g < 4) : (TONE_FW_LO u e g).key ≠ (TONE_FW_HI u e g).key ∧
    (TONE_FW_LO u e g).key ≠ (TONE_VZ u e g).key ∧ (TONE_FW_HI u e g).key ≠ (TONE_VZ u e g).key := by
  simp only [Fld.key, TONE_FW_LO, TONE_FW_HI, TONE_VZ, tileBase]
  omega

section

variable (w : Work σ) (t e : Nat) (en : Entry)

theorem toneGroup_freq (hg : en.body % 256 < 4) : toneGroup w t e en = ((w.set (TONE_FW_LO t e (en.body % 256)) (en.body / 256)).set
    (TONE_FW_HI t e (en.body % 256)) (bits (en.body / 256) 32 16)).set (TONE_VZ t e (en.body % 256)) (bits (en.body / 256) 48 32) := by
  rw [toneGroup, if_pos hg]

theorem toneGroup_vzset {k : Nat} (hk : k < 4) (hg : en.body % 256 = 4 + k) :
    toneGroup w t e en = w.set (TONE_VZ t e k) (en.body / 256) := by
  rw [toneGroup, if_neg (by omega), if_pos (by omega), hg, Nat.add_sub_cancel_left]

theorem toneGroup_vzadd {k : Nat} (hk : k < 4) (hg : en.body % 256 = 8 + k) :
    toneGroup w t e en = w.set (TONE_VZ t e k) (w.get (TONE_VZ t e k) + en.body / 256) := by
  rw [toneGroup, if_neg (by omega), if_neg (by omega), if_pos (by omega), hg, Nat.add_sub_cancel_left]

theorem toneGroup_tplLo (hg : en.body % 256 = 0x10) : toneGroup w t e en =
    (w.set (TONE_TPL t e (en.body / 256 % 128) 0) (bits (en.body / 256) 7 32)).set (TONE_TPL t e (en.body / 256 % 128) 1)
      (bits (en.body / 256) 39 32) := by
  rw [toneGroup, if_neg (by omega), if_neg (by omega), if_neg (by omega), if_pos hg]

theorem toneGroup_tplHi (hg : en.body % 256 = 0x11) : toneGroup w t e en =
    (w.set (TONE_TPL t e (en.body / 256 % 128) 2) (bits (en.body / 256) 7 32)).set (TONE_TPL t e (en.body / 256 % 128) 3)
      (bits (en.body / 256) 39 32) := by
  rw [toneGroup, if_neg (by omega), if_neg (by omega), if_neg (by omega), if_neg (by omega), if_pos hg]

theorem toneGroup_quiet (hg : en.body % 256 = 0x18) : toneGroup w t e en = toneQuiet w t e en.stamp (en.body / 256) := by
  rw [toneGroup, if_neg (by omega), if_neg (by omega), if_neg (by omega), if_neg (by omega), if_neg (by omega), if_pos hg]

end

theorem view_finish_dac (w : Work σ) (u d : Nat) : w.finish.view.dac u d = w.dac u d := rfl

theorem toneParameters : Clause.ToneParameters := by
  intro s hs u e h hdue hk
  obtain ⟨v, hv, hdac, run⟩ := toneParam_effect hs u e h hdue hk
  refine ⟨fun hg => ?_, fun k hk' hg => ?_, fun k hk' hg => ?_, fun hg => ?_, fun hg => ?_, fun d hd hg hroute => ?_⟩
  · obtain ⟨hlh, hlz, hhz⟩ := toneFreq_apart u e (h.entry.body % 256) hg
    obtain ⟨taken, frame⟩ := hv.2 [TONE_FW_LO u e (h.entry.body % 256), TONE_FW_HI u e (h.entry.body % 256), TONE_VZ u e (h.entry.body % 256)]
      (toneGroup v u e h.entry) (by
        rw [toneGroup_freq _ _ _ _ hg]
        exact (((TileLocal.refl v).set _ _ (by simp)).set _ _ (by simp)).set _ _ (by simp))
    refine ⟨_, run 0 3 (isGroup_one hk (Nat.zero_le _) (by omega)), ?_, ?_, ?_, taken, frame⟩
    · rw [Work.finish_get _ _ hs, toneGroup_freq _ _ _ _ hg, Work.get_set_ne _ _ _ _ hlz, Work.get_set_ne _ _ _ _ hlh, Work.get_set_self]
      rfl
    · rw [Work.finish_get _ _ hs, toneGroup_freq _ _ _ _ hg, Work.get_set_ne _ _ _ _ hhz, Work.get_set_self]
      exact bits_mod _ _ 16
    · rw [Work.finish_get _ _ hs, toneGroup_freq _ _ _ _ hg, Work.get_set_self]
      exact bits_mod _ _ 32
  · have eq := run 4 7 (isGroup_one hk (by omega) (by omega))
    rw [toneGroup_vzset _ _ _ _ hk' hg] at eq
    exact ⟨_, eq, hv.set_one hs _ _⟩
  · have eq := run 8 11 (isGroup_one hk (by omega) (by omega))
    rw [toneGroup_vzadd _ _ _ _ hk' hg, hv.1] at eq
    exact ⟨_, eq, hv.set_one hs _ _⟩
  · have eq := run 0x10 0x10 (isGroup_one hk (by omega) (by omega))
    rw [toneGroup_tplLo _ _ _ _ hg] at eq
    obtain ⟨lo, hi, rest⟩ := hv.set_two hs (bits (h.entry.body / 256) 7 32) (bits (h.entry.body / 256) 39 32)
      (tone_tpl_apart u e (h.entry.body / 256 % 128) 0 1 (by omega))
    exact ⟨_, eq, lo.trans (bits_mod _ _ 32), hi.trans (bits_mod _ _ 32), rest⟩
  · have eq := run 0x11 0x11 (isGroup_one hk (by omega) (by omega))
    rw [toneGroup_tplHi _ _ _ _ hg] at eq
    obtain ⟨lo, hi, rest⟩ := hv.set_two hs (bits (h.entry.body / 256) 7 32) (bits (h.entry.body / 256) 39 32)
      (tone_tpl_apart u e (h.entry.body / 256 % 128) 2 3 (by omega))
    exact ⟨_, eq, lo.trans (bits_mod _ _ 32), hi.trans (bits_mod _ _ 32), rest⟩
  · have eq := run 0x18 0x18 (isGroup_one hk (by omega) (by omega))
    have route : dacOf v u e = some d := by rw [dacOf, hv.1]; exact (congrArg (dacOfRoute e) (Work.get_start s _).symm).trans hroute
    rw [toneGroup_quiet _ _ _ _ hg, toneQuiet, route] at eq
    refine ⟨_, eq, ?_, hv.2 [] _ ((TileLocal.refl v).updTile _ (fun _ => rfl))⟩
    rw [view_finish_dac, dac_updDac_self v u.isLt hd, hdac]

/-! ## Flux engines -/

/-- A pulse whose span goes on past an instant is no pulse that is over by then. -/
theorem fluxEndIfOver_goesOn {w : Work σ} {t e n : Nat} (h : ∀ p x, (w.flux t e).pulse = some p → fluxSpanEnd p = some x → n < x) :
    fluxEndIfOver w t e n = w := by
  rw [fluxEndIfOver]
  split
  next => rfl
  next p hp =>
    split
    next x hx => rw [if_neg (Nat.not_le.mpr (h p x hp hx))]
    next => rfl

theorem fluxParams_goesOn {w : Work σ} {t e : Nat} {h : HeldEntry}
    (hgo : ∀ p x, (w.flux t e).pulse = some p → fluxSpanEnd p = some x → h.entry.instant (16 + e) < x) :
    fluxParams w t e [h] = fluxGroup (fillFlux w t e (h.entry.slot / 8)) t e h.entry := by
  rw [fluxParams, List.head?_cons]
  simp only [fluxEndIfOver_goesOn hgo]
  rfl

theorem takeDue_flux (s : State) (u c e : Nat) (i : Item) : (takeDue (Work.start s) u c i).flux u e = s.view.flux u e :=
  congrArg (fun v => vget v Flux.reset e) (takeDue_local (φ := Tile.flux) (fun _ _ _ => rfl) s u c i).2.2

/-- The command that names the group of a single PARAM entry, due at a flux engine, applies that group. -/
theorem fluxParam_effect {s : State} (hs : s.wf = true) (u : Fin 32) (e : Fin 8) (h : HeldEntry) (hdue : nextDue s.view u (16 + e) = some (.one h))
    (hk : h.entry.kind = KPARAM) (hgo : fluxGoesOn s u e h) : ∃ v : Work s, ParamReady s u (16 + e) (.one h) v ∧
      ∀ lo hi, isGroup lo hi (.one h) = true →
        run (fun w => takeEffect w u (16 + e) (isGroup lo hi)) s = .next (fluxGroup v u e h.entry).finish := by
  refine ⟨fillFlux (takeDue (Work.start s) u (16 + e) (.one h)) u e (h.entry.slot / 8),
    paramReady_of_local hs u.isLt (by omega) (isParam_one h hk) ((TileLocal.refl _).updTile _ (fun _ => rfl)), fun lo hi hg => ?_⟩
  have goes : ∀ p x, ((takeDue (Work.start s) u (16 + e) (.one h)).flux u e).pulse = some p → fluxSpanEnd p = some x →
      h.entry.instant (16 + e) < x := by rw [takeDue_flux]; exact hgo
  rw [run_eq, takeEffect_eq _ _ _ _ _ hdue hg, applyUnit, if_neg (by omega), if_pos (by omega), hk, if_neg (by decide), if_neg (by decide),
    Nat.add_sub_cancel_left, fluxParams_goesOn goes]

section

variable (w : Work σ) (t e : Nat) (en : Entry)

theorem fluxGroup_dcset (hg : en.body % 256 = 0) : fluxGroup w t e en = (w.set (FLUX_DC t e) (en.body / 256)).set (FLUX_DC_DUE t e) 0 := by
  rw [fluxGroup, if_pos hg]

theorem fluxGroup_dcadd (hg : en.body % 256 = 1) : fluxGroup w t e en = fluxDcAdd w t e (sext 16 (en.body / 256)) := by
  rw [fluxGroup, if_neg (by omega), if_pos hg]

theorem fluxGroup_tplLo (hg : en.body % 256 = 0x10) : fluxGroup w t e en =
    (w.set (FLUX_TPL t e (en.body / 256 % 128) 0) (bits (en.body / 256) 7 32)).set (FLUX_TPL t e (en.body / 256 % 128) 1)
      (bits (en.body / 256) 39 32) := by
  rw [fluxGroup, if_neg (by omega), if_neg (by omega), if_pos hg]

theorem fluxGroup_tplHi (hg : en.body % 256 = 0x11) : fluxGroup w t e en =
    (w.set (FLUX_TPL t e (en.body / 256 % 128) 2) (bits (en.body / 256) 7 32)).set (FLUX_TPL t e (en.body / 256 % 128) 3)
      (bits (en.body / 256) 39 32) := by
  rw [fluxGroup, if_neg (by omega), if_neg (by omega), if_neg (by omega), if_pos hg]

end

theorem fluxDc_apart : ∀ (u : Fin 32) (e : Fin 8), (FLUX_DC u e).key ≠ (FLUX_DC_DUE u e).key ∧ (FLUX_DC u e).key ≠ (FLUX_CLIP_STICKY u e).key := by
  decide

/-- DC advanced: the saturated sum, and the sticky bit where it saturates (R94). -/
theorem fluxDcAdd_regs (w : Work σ) (u : Fin 32) (e : Fin 8) (x : Int) :
    (fluxDcAdd w u e x).get (FLUX_DC u e) = toField 16 (satS 16 (sext 16 (w.get (FLUX_DC u e)) + x)) ∧
    (overS 16 (sext 16 (w.get (FLUX_DC u e)) + x) = true → (fluxDcAdd w u e x).get (FLUX_CLIP_STICKY u e) = 1) := by
  obtain ⟨due, sticky⟩ := fluxDc_apart u e
  have small : toField 16 (satS 16 (sext 16 (w.get (FLUX_DC u e)) + x)) % 2 ^ 16 = toField 16 (satS 16 (sext 16 (w.get (FLUX_DC u e)) + x)) := by
    rw [toField]
    omega
  rw [fluxDcAdd]
  split
  · refine ⟨?_, fun _ => Work.get_set_self _ _ _⟩
    rw [Work.get_set_ne _ _ _ _ sticky, Work.get_set_ne _ _ _ _ due, Work.get_set_self]
    exact small
  next h =>
    refine ⟨?_, fun h' => absurd h' h⟩
    rw [Work.get_set_ne _ _ _ _ due, Work.get_set_self]
    exact small

theorem fluxDcAdd_local {α : Type} {φ : Tile → α} {t : Nat} {w : Work σ} (e : Nat) (x : Int) :
    TileLocal (· ∈ [FLUX_DC t e, FLUX_DC_DUE t e, FLUX_CLIP_STICKY t e]) t φ w (fluxDcAdd w t e x) := by
  have sums := ((TileLocal.refl (K := (· ∈ [FLUX_DC t e, FLUX_DC_DUE t e, FLUX_CLIP_STICKY t e])) (t := t) (φ := φ) w).set (FLUX_DC t e)
    (toField 16 (satS 16 (sext 16 (w.get (FLUX_DC t e)) + x))) (by simp)).set (FLUX_DC_DUE t e) 0 (by simp)
  rw [fluxDcAdd]
  exact (sums.set _ 1 (by simp)).ite sums

theorem fluxParameters : Clause.FluxParameters := by
  intro s hs u e h hdue hk hgo
  obtain ⟨v, hv, run⟩ := fluxParam_effect hs u e h hdue hk hgo
  refine ⟨fun hg => ?_, fun hg => ?_, fun hg => ?_, fun hg => ?_⟩
  · have eq := run 0 0 (isGroup_one hk (by omega) (by omega))
    rw [fluxGroup_dcset _ _ _ _ hg] at eq
    obtain ⟨dc, -, rest⟩ := hv.set_two hs (h.entry.body / 256) 0 (fluxDc_apart u e).1
    exact ⟨_, eq, dc, rest⟩
  · have eq := run 1 1 (isGroup_one hk (by omega) (by omega))
    rw [fluxGroup_dcadd _ _ _ _ hg] at eq
    obtain ⟨sum, clip⟩ := fluxDcAdd_regs v u e (sext 16 (h.entry.body / 256))
    rw [hv.1] at sum clip
    exact ⟨_, eq, (Work.finish_get _ _ hs).trans sum, fun ho => (Work.finish_get _ _ hs).trans (clip ho), hv.2 _ _ (fluxDcAdd_local e _)⟩
  · have eq := run 0x10 0x10 (isGroup_one hk (by omega) (by omega))
    rw [fluxGroup_tplLo _ _ _ _ hg] at eq
    obtain ⟨lo, hi, rest⟩ := hv.set_two hs (bits (h.entry.body / 256) 7 32) (bits (h.entry.body / 256) 39 32)
      (flux_tpl_apart u e (h.entry.body / 256 % 128) 0 1 (by omega))
    exact ⟨_, eq, lo.trans (bits_mod _ _ 32), hi.trans (bits_mod _ _ 32), rest⟩
  · have eq := run 0x11 0x11 (isGroup_one hk (by omega) (by omega))
    rw [fluxGroup_tplHi _ _ _ _ hg] at eq
    obtain ⟨lo, hi, rest⟩ := hv.set_two hs (bits (h.entry.body / 256) 7 32) (bits (h.entry.body / 256) 39 32)
      (flux_tpl_apart u e (h.entry.body / 256 % 128) 2 3 (by omega))
    exact ⟨_, eq, lo.trans (bits_mod _ _ 32), hi.trans (bits_mod _ _ 32), rest⟩

/-! ## Chains -/

/-- Two works whose registers read alike. -/
def SameRegs (w w' : Work σ) : Prop := ∀ f, w.get f = w'.get f

section

variable {w w' : Work σ}

theorem SameRegs.set (h : SameRegs w w') (g : Fld) (x : Nat) : SameRegs (w.set g x) (w'.set g x) := fun f => by
  rw [Work.get_set, Work.get_set, h f]

/-- What a group writes at a tone engine depends on the registers alone. -/
theorem SameRegs.toneGroup (h : SameRegs w w') (t e : Nat) (en : Entry) : SameRegs (Machine.toneGroup w t e en) (Machine.toneGroup w' t e en) := by
  have quiet : ∀ (x : Work σ) (f : Fld), (toneQuiet x t e en.stamp (en.body / 256)).get f = x.get f := by
    intro x f
    rw [toneQuiet]
    split <;> rfl
  rw [Machine.toneGroup, Machine.toneGroup]
  split_ifs
  · exact ((h.set _ _).set _ _).set _ _
  · exact h.set _ _
  · rw [h]
    exact h.set _ _
  · exact (h.set _ _).set _ _
  · exact (h.set _ _).set _ _
  · exact fun f => by rw [quiet, quiet, h]
  · exact h

theorem SameRegs.toneGroups (h : SameRegs w w') (t e : Nat) (hs : List HeldEntry) :
    SameRegs (w.each hs (fun w x => Machine.toneGroup w t e x.entry)) (hs.foldl (fun w x => Machine.toneGroup w t e x.entry) w') := by
  induction hs generalizing w w' with
  | nil => exact h
  | cons x hs ih => exact ih (h.toneGroup t e x.entry)

end

theorem isGroup_chain {h : HeldEntry} (hs : List HeldEntry) {lo hi : Nat} (hlo : lo ≤ h.entry.body % 256) (hhi : h.entry.body % 256 ≤ hi) :
    isGroup lo hi (.chain (h :: hs)) = true := by
  simp [isGroup, Item.isParam, Item.head?, Item.members, hlo, hhi]

/-- The clasps of a tile stand while the groups of a chain apply. -/
theorem toneGroup_local {t : Nat} {w w' : Work σ} (h : TileLocal (fun _ => True) t Tile.clasps w w') (e : Nat) (en : Entry) :
    TileLocal (fun _ => True) t Tile.clasps w (toneGroup w' t e en) := by
  rw [Machine.toneGroup]
  split_ifs
  · exact ((h.set _ _ trivial).set _ _ trivial).set _ _ trivial
  · exact h.set _ _ trivial
  · exact h.set _ _ trivial
  · exact (h.set _ _ trivial).set _ _ trivial
  · exact (h.set _ _ trivial).set _ _ trivial
  · rw [toneQuiet]
    split
    · exact h
    · exact h.updTile _ (fun _ => rfl)
  · exact h

theorem chainsApplyInOrder : Clause.ChainsApplyInOrder := by
  intro s hs u e h hs' hdue c hc
  have ready := toneBefore_ready hs u e (i := .chain (h :: hs')) rfl h (h :: hs')
  have same : SameRegs (toneBefore (takeDue (Work.start s) u e (.chain (h :: hs'))) u e h (h :: hs')) s.view :=
    fun f => (ready.1 f).trans (Work.get_start s f).symm
  have applied : TileLocal (fun _ => True) u Tile.clasps (takeDue (Work.start s) u e (.chain (h :: hs')))
      (toneParams (takeDue (Work.start s) u e (.chain (h :: hs'))) u e (h :: hs')) := by
    rw [toneParams_cons]
    exact (toneBefore_local (fun _ _ _ => rfl) (TileLocal.refl _) e h (h :: hs')).each _ _ (fun w x _ hw => toneGroup_local hw e x.entry)
  have taken : Taken s (toneParams (takeDue (Work.start s) u e (.chain (h :: hs'))) u e (h :: hs')).finish u e (.chain (h :: hs')) :=
    ⟨(congrArg (fun v => (vget v Clasp.reset e).items) applied.2.2).trans (takeDue_taken s u.isLt (by omega) (.chain (h :: hs'))).1,
      fun hp => absurd hp (by rw [Item.isParam]; decide)⟩
  have run : ∀ lo hi, isGroup lo hi (.chain (h :: hs')) = true → run (fun w => takeEffect w u e (isGroup lo hi)) s =
      .next (toneParams (takeDue (Work.start s) u e (.chain (h :: hs'))) u e (h :: hs')).finish := by
    intro lo hi hg
    rw [run_eq, takeEffect_eq _ _ _ _ _ hdue hg, applyUnit, if_pos e.isLt]
  have named : exec c s = .next (toneParams (takeDue (Work.start s) u e (.chain (h :: hs'))) u e (h :: hs')).finish := by
    obtain ⟨rfl, hg⟩ | ⟨rfl, hlo, hhi⟩ | ⟨rfl, hlo, hhi⟩ := hc
    · exact run 0 3 (isGroup_chain hs' (Nat.zero_le _) (by omega))
    · exact run 4 7 (isGroup_chain hs' hlo (by omega))
    · exact run 8 11 (isGroup_chain hs' hlo (by omega))
  refine ⟨_, named, taken, fun f => ?_⟩
  rw [Work.finish_get _ _ hs, toneParams_cons]
  exact same.toneGroups u e (h :: hs') f

/-- Settles O14: a group writes its registers once the unit has left the clasp and the samples before it are fixed, singly and in chains. -/
theorem parameters : Obligations.Parameters := ⟨toneParameters, fluxParameters, chainsApplyInOrder⟩

end Sys2Proof.TakeProofs
end

section
/-! PROOFS. The pulses of the tone and flux engines: start, stop and end (R67 to R69, R92, R93). -/

namespace Sys2Proof.PulseProofs

open Sys2Proof.Machine Sys2Proof.Effects Sys2Proof.SeqFacts Sys2Proof.RejectFacts Sys2Proof.TakeProofs

variable {σ : State}

/-! ## A single entry that leaves its clasp -/

/-- The register in which a PLAY or a STOP that takes effect counts what it discards. -/
theorem collideFlds_one {h : HeldEntry} (hk : h.entry.kind ≠ KPARAM) (u : Nat) : collideFlds u (.one h) = [CLASP_COLLIDE u] := by
  rw [collideFlds, Item.isParam, decide_eq_false hk]
  rfl

theorem get_takeDue_ne (s : State) (u c : Nat) (i : Item) (f : Fld) (hf : f.key ≠ (CLASP_COLLIDE u).key) :
    (takeDue (Work.start s) u c i).get f = s.get f := by
  refine ((takeDue_local (φ := fun _ => ()) (fun _ _ _ => rfl) s u c i).1.1 f (fun g hg => ?_)).trans (Work.get_start s f)
  rw [collideFlds] at hg
  split at hg
  · exact absurd hg List.not_mem_nil
  · rw [List.mem_singleton.mp hg]
    exact hf

theorem takeDue_tone (s : State) (u c e : Nat) (i : Item) : (takeDue (Work.start s) u c i).tone u e = s.view.tone u e :=
  congrArg (fun v => vget v Tone.reset e) (takeDue_local (φ := Tile.tone) (fun _ _ _ => rfl) s u c i).2.2

/-! ## Tone engines -/

theorem fillTone_local {α : Type} {φ : Tile → α} (hφ : ∀ (x : Tile) (tone : Vector Tone 16), φ { x with tone } = φ x)
    {K : Fld → Prop} {t : Nat} {w w' : Work σ} (h : TileLocal K t φ w w') (e s : Nat) : TileLocal K t φ w (fillTone w' t e s) :=
  h.updTile _ (fun x => hφ x _)

theorem endPulse_local {α : Type} {φ : Tile → α} (hφ : ∀ (x : Tile) (tone : Vector Tone 16), φ { x with tone } = φ x) (hpages : PagesUnseen φ)
    {K : Fld → Prop} {t : Nat} {w w' : Work σ} (h : TileLocal K t φ w w') (e : Nat) : TileLocal K t φ w (endPulse w' t e) := by
  rw [endPulse]
  split
  · exact h
  · exact dropPages_local hpages (h.updTile _ (fun x => hφ x _)) _

theorem fillTone_pulse (w : Work σ) {t e : Nat} (ht : t < 32) (he : e < 16) (s : Nat) : ((fillTone w t e s).tone t e).pulse = (w.tone t e).pulse := by
  rw [fillTone, tone_updTone_self ht _ he]

theorem pageDrop_tone (w : Work σ) (t e : Nat) (p : Option Nat) : (pageDrop w t p).tone t e = w.tone t e :=
  congrArg (fun v => vget v Tone.reset e) (dropPages_local (φ := Tile.tone) (K := fun _ => False) (fun _ _ => rfl) (TileLocal.refl w) p).2.2

theorem endPulse_pulse (w : Work σ) {t e : Nat} (ht : t < 32) (he : e < 16) : ((endPulse w t e).tone t e).pulse = none := by
  rw [endPulse]
  split
  next h => exact h
  next => rw [pageDrop_tone, tone_updTone_self ht _ he]

/-- The pulse that a PLAY starts, and the page it plays. -/
def started (w : Work σ) (t e : Nat) (h : HeldEntry) : Work σ :=
  let r := toneRecord w t e (h.entry.body % 128)
  let w := endPulse (fillTone w t e h.entry.slot) t e
  (if tplPaged r then w else pageDrop w t h.page).updTone t e
    (fun x => { x with pulse := some ⟨h.entry.key, r, if tplPaged r then h.page else none, none⟩ })

theorem started_local {K : Fld → Prop} {t : Nat} {w w' : Work σ} (h : TileLocal K t Tile.clasps w w') (e : Nat) (x : HeldEntry) :
    TileLocal K t Tile.clasps w (started w' t e x) := by
  have ended : TileLocal K t Tile.clasps w (endPulse (fillTone w' t e x.entry.slot) t e) :=
    endPulse_local (fun _ _ => rfl) (fun _ _ => rfl) (fillTone_local (fun _ _ => rfl) h _ _) e
  exact (ended.ite (dropPages_local (fun _ _ => rfl) ended x.page)).updTile _ (fun _ => rfl)

theorem started_pulse (w : Work σ) {t e : Nat} (ht : t < 32) (he : e < 16) (h : HeldEntry) : ((started w t e h).tone t e).pulse =
    some ⟨h.entry.key, toneRecord w t e (h.entry.body % 128), if tplPaged (toneRecord w t e (h.entry.body % 128)) then h.page else none, none⟩ := by
  rw [started, tone_updTone_self ht _ he]

theorem get_started (w : Work σ) (t e : Nat) (h : HeldEntry) (f : Fld) : (started w t e h).get f = w.get f :=
  (started_local (TileLocal.refl (K := fun _ => False) (t := t) w) e h).1.1 f (fun _ hg => hg.elim)

theorem tonePlay_started {w : Work σ} {t e : Nat} {h : HeldEntry} (hv : toneValid w t (toneRecord w t e (h.entry.body % 128)) = true)
    (hp : tplPaged (toneRecord w t e (h.entry.body % 128)) = true → h.page.isSome = true ∧
      ∃ b ∈ (w.tile t).pages, some b.page = h.page ∧ b.done = some true) :
    tonePlay w t e h = (((started w t e h).set (TONE_STATUS_TEMPLATE t e) (h.entry.body % 128)).set (TONE_STATUS_FSEL t e)
      (tplFsel (toneRecord w t e (h.entry.body % 128)))).inc (TONE_STARTS t e) := by
  rw [tonePlay, if_neg, if_neg]
  · rfl
  · rintro ⟨-, hpaged, hpages⟩
    obtain ⟨-, b, hb, hpage, hdone⟩ := hp hpaged
    rw [Bool.not_eq_true', List.any_eq_false] at hpages
    exact hpages b hb (by simp [hpage, hdone])
  · rintro (h' | ⟨hpaged, hnone⟩)
    · rw [hv] at h'
      exact absurd h' (by decide)
    · exact absurd (hp hpaged).1 (by rw [hnone]; decide)

theorem toneFlds_apart : ∀ (u : Fin 32) (e : Fin 16), (TONE_STATUS_TEMPLATE u e).key ≠ (TONE_STATUS_FSEL u e).key ∧
    (TONE_STATUS_TEMPLATE u e).key ≠ (TONE_STARTS u e).key ∧ (TONE_STATUS_FSEL u e).key ≠ (TONE_STARTS u e).key := by decide

theorem toneFlds_off_collide : ∀ (u : Fin 32) (e : Fin 16), (CLASP_COLLIDE u).key ≠ (TONE_STATUS_TEMPLATE u e).key ∧
    (CLASP_COLLIDE u).key ≠ (TONE_STATUS_FSEL u e).key ∧ (CLASP_COLLIDE u).key ≠ (TONE_STARTS u e).key := by decide

theorem toneTpl_off_collide (u e m j : Nat) : (TONE_TPL u e m j).key ≠ (CLASP_COLLIDE u).key := by
  simp only [Fld.key, TONE_TPL, CLASP_COLLIDE, tileBase]
  omega

theorem pageBuffers_off_collide : ∀ u : Fin 32, (DRIVE_PAGE_BUFFERS u).key ≠ (CLASP_COLLIDE u).key := by decide

theorem qdrStatus_off_collide (p u : Nat) : (QDR_STATUS p).key ≠ (CLASP_COLLIDE u).key := by
  simp only [Fld.key, QDR_STATUS, CLASP_COLLIDE, tileBase]
  omega

theorem toneRecord_takeDue (s : State) (u c e m : Nat) (i : Item) : toneRecord (takeDue (Work.start s) u c i) u e m = toneRecord s.view u e m :=
  List.map_congr_left (fun j _ => (get_takeDue_ne s u c i _ (toneTpl_off_collide u e m j)).trans (Work.get_start s _).symm)

theorem firstPageSample_takeDue (s : State) (u : Fin 32) (c : Nat) (i : Item) :
    firstPageSample (takeDue (Work.start s) u c i) u = firstPageSample s.view u := by
  rw [firstPageSample, firstPageSample, get_takeDue_ne s u c i _ (pageBuffers_off_collide u), Work.get_start]

theorem toneValid_takeDue (s : State) (u : Fin 32) (c : Nat) (i : Item) (r : List Nat) :
    toneValid (takeDue (Work.start s) u c i) u r = toneValid s.view u r := by
  have trained : qdrTrained (takeDue (Work.start s) u c i) (bits (r.getD 0 0) 16 1) = qdrTrained s.view (bits (r.getD 0 0) 16 1) := by
    rw [qdrTrained, qdrTrained, get_takeDue_ne s u c i _ (qdrStatus_off_collide _ u), Work.get_start]
  rw [toneValid, toneValid, trained, firstPageSample_takeDue]

/-! ## Flux engines -/

theorem fillFlux_pulse (w : Work σ) {t e : Nat} (ht : t < 32) (he : e < 8) (s : Nat) : ((fillFlux w t e s).flux t e).pulse = (w.flux t e).pulse := by
  rw [fillFlux, flux_updFlux_self ht _ he]

theorem fillFlux_local {α : Type} {φ : Tile → α} (hφ : ∀ (x : Tile) (flux : Vector Flux 8), φ { x with flux } = φ x)
    {K : Fld → Prop} {t : Nat} {w w' : Work σ} (h : TileLocal K t φ w w') (e s : Nat) : TileLocal K t φ w (fillFlux w' t e s) :=
  h.updTile _ (fun x => hφ x _)

/-- The pulse that a PLAY starts at a flux engine. -/
def fluxStarted (w : Work σ) (t e : Nat) (h : HeldEntry) : Work σ :=
  (fillFlux w t e (h.entry.slot / 8)).updFlux t e
    (fun x => { x with pulse := some ⟨h.entry.instant (16 + e), fluxRecord w t e (h.entry.body % 128), none⟩ })

theorem fluxPlay_started {w : Work σ} {t e : Nat} {h : HeldEntry} (hv : fluxValid w t (fluxRecord w t e (h.entry.body % 128)) = true)
    (hgo : ∀ p x, (w.flux t e).pulse = some p → fluxSpanEnd p = some x → h.entry.instant (16 + e) < x) :
    fluxPlay w t e h = ((fluxStarted w t e h).set (FLUX_STATUS_TEMPLATE t e) (h.entry.body % 128)).inc (FLUX_STARTS t e) := by
  simp only [fluxPlay, hv, fluxEndIfOver_goesOn hgo]
  rfl

theorem fluxRecord_takeDue (s : State) (u c e m : Nat) (i : Item) : fluxRecord (takeDue (Work.start s) u c i) u e m = fluxRecord s.view u e m := by
  refine List.map_congr_left (fun j _ => (get_takeDue_ne s u c i _ ?_).trans (Work.get_start s _).symm)
  simp only [Fld.key, FLUX_TPL, CLASP_COLLIDE, tileBase]
  omega

theorem fluxFlds_apart : ∀ (u : Fin 32) (e : Fin 8), (FLUX_STATUS_TEMPLATE u e).key ≠ (FLUX_STARTS u e).key ∧
    (CLASP_COLLIDE u).key ≠ (FLUX_STATUS_TEMPLATE u e).key ∧ (CLASP_COLLIDE u).key ≠ (FLUX_STARTS u e).key := by decide

theorem instant_flux (h : HeldEntry) {e : Nat} (he : e < 8) : h.entry.instant (16 + e) = h.entry.stamp * 2 + h.entry.slot / 8 := by
  rw [Entry.instant, if_neg (by omega), if_pos (by omega)]

/-! ## PLAY -/

/-- What a counter that an entry advances holds. -/
theorem inc_finish {s : State} (hs : s.wf = true) {w : Work s} {f : Fld} (hf : w.get f = s.get f) :
    (w.inc f).finish.get f = satAdd (2 ^ f.width - 1) (s.get f) 1 % 2 ^ f.width := by
  rw [Work.finish_get _ _ hs, Work.inc, Work.add, Work.get_set_self, hf]

theorem view_finish_tone (w : Work σ) (u e : Nat) : w.finish.view.tone u e = w.tone u e := rfl

theorem view_finish_flux (w : Work σ) (u e : Nat) : w.finish.view.flux u e = w.flux u e := rfl

theorem playStarts_tone (s : State) (hs : s.wf = true) (u : Fin 32) (e : Fin 16) (h : HeldEntry) (hdue : nextDue s.view u e = some (.one h))
    (hk : h.entry.kind = KPLAY) (hv : toneValid s.view u (toneRecord s.view u e (h.entry.body % 128)) = true)
    (hp : tplPaged (toneRecord s.view u e (h.entry.body % 128)) = true → h.page.isSome = true ∧
      ∃ b ∈ ((takeDue s.view u e (.one h)).tile u).pages, some b.page = h.page ∧ b.done = some true) :
    Answers (.play u ⟨e, by omega⟩) s (fun t =>
      (t.view.tone u e).pulse = some ⟨h.entry.key, toneRecord s.view u e (h.entry.body % 128),
        if tplPaged (toneRecord s.view u e (h.entry.body % 128)) then h.page else none, none⟩ ∧
      t.get (TONE_STATUS_TEMPLATE u e) = h.entry.body % 128 ∧
      t.get (TONE_STATUS_FSEL u e) = tplFsel (toneRecord s.view u e (h.entry.body % 128)) ∧
      t.get (TONE_STARTS u e) = satAdd (2 ^ (TONE_STARTS u e).width - 1) (s.get (TONE_STARTS u e)) 1 % 2 ^ (TONE_STARTS u e).width ∧
      Taken s t u e (.one h) ∧ t.dev.held = s.dev.held ∧
      Frame s t [CLASP_COLLIDE u, TONE_STATUS_TEMPLATE u e, TONE_STATUS_FSEL u e, TONE_STARTS u e]) := by
  obtain ⟨tf, ts, fs⟩ := toneFlds_apart u e
  obtain ⟨ct, cf, cs⟩ := toneFlds_off_collide u e
  have hrec := toneRecord_takeDue s u e e (h.entry.body % 128) (.one h)
  have begun := started_pulse (takeDue (Work.start s) u e (.one h)) u.isLt e.isLt h
  have regs := get_started (takeDue (Work.start s) u e (.one h)) u e h
  have stays : TileLocal (· ∈ [TONE_STATUS_TEMPLATE u e, TONE_STATUS_FSEL u e, TONE_STARTS u e]) u Tile.clasps (takeDue (Work.start s) u e (.one h))
      (started (takeDue (Work.start s) u e (.one h)) u e h) := started_local (TileLocal.refl _) e h
  have played := tonePlay_started (w := takeDue (Work.start s) u e (.one h)) (t := u) (e := e) (h := h)
    (by rw [hrec, toneValid_takeDue]; exact hv) (by rw [hrec]; exact hp)
  rw [hrec] at begun played
  have starts : (started (takeDue (Work.start s) u e (.one h)) u e h).get (TONE_STARTS u e) = s.get (TONE_STARTS u e) :=
    (regs _).trans (get_takeDue_ne s u e (.one h) _ cs.symm)
  generalize started (takeDue (Work.start s) u e (.one h)) u e h = v at begun regs stays played starts
  obtain ⟨taken, frame, held⟩ := taken_finish hs u.isLt (by omega) (.one h) (((stays.set (TONE_STATUS_TEMPLATE u e) (h.entry.body % 128)
    (by simp)).set (TONE_STATUS_FSEL u e) (tplFsel (toneRecord s.view u e (h.entry.body % 128))) (by simp)).inc (TONE_STARTS u e) (by simp))
    (fun _ f hf => by
      simp only [List.mem_cons, List.not_mem_nil, or_false] at hf
      obtain rfl | rfl | rfl := hf
      exacts [ct, cf, cs])
  rw [collideFlds_one (by rw [hk]; decide)] at frame
  refine ⟨_, ?_, ?_, ?_, ?_, ?_, taken, held, frame⟩
  · rw [exec, execPlay, run_eq, takeEffect_eq _ _ _ _ _ hdue (by simp [isKind, hk]), applyUnit, if_pos e.isLt, if_pos hk, played]
  · rw [view_finish_tone]
    exact begun
  · rw [Work.finish_get _ _ hs, Work.inc, Work.add, Work.get_set_ne _ _ _ _ ts, Work.get_set_ne _ _ _ _ tf, Work.get_set_self]
    exact Nat.mod_mod _ _
  · rw [Work.finish_get _ _ hs, Work.inc, Work.add, Work.get_set_ne _ _ _ _ fs, Work.get_set_self]
    exact Nat.mod_mod _ _
  · exact inc_finish hs (by rw [Work.get_set_ne _ _ _ _ fs.symm, Work.get_set_ne _ _ _ _ ts.symm, starts])

theorem fluxStarted_pulse (w : Work σ) {t e : Nat} (ht : t < 32) (he : e < 8) (h : HeldEntry) : ((fluxStarted w t e h).flux t e).pulse =
    some ⟨h.entry.stamp * 2 + h.entry.slot / 8, fluxRecord w t e (h.entry.body % 128), none⟩ := by
  rw [fluxStarted, flux_updFlux_self ht _ he, instant_flux h he]

theorem playStarts_flux (s : State) (hs : s.wf = true) (u : Fin 32) (e : Fin 8) (h : HeldEntry) (hdue : nextDue s.view u (16 + e) = some (.one h))
    (hk : h.entry.kind = KPLAY) (hgo : fluxGoesOn s u e h) (hv : fluxValid s.view u (fluxRecord s.view u e (h.entry.body % 128)) = true) :
    Answers (.play u ⟨16 + e, by omega⟩) s (fun t =>
      (t.view.flux u e).pulse = some ⟨h.entry.stamp * 2 + h.entry.slot / 8, fluxRecord s.view u e (h.entry.body % 128), none⟩ ∧
      t.get (FLUX_STATUS_TEMPLATE u e) = h.entry.body % 128 ∧
      t.get (FLUX_STARTS u e) = satAdd (2 ^ (FLUX_STARTS u e).width - 1) (s.get (FLUX_STARTS u e)) 1 % 2 ^ (FLUX_STARTS u e).width ∧
      Taken s t u (16 + e) (.one h) ∧ t.dev.held = s.dev.held ∧
      Frame s t [CLASP_COLLIDE u, FLUX_STATUS_TEMPLATE u e, FLUX_STARTS u e]) := by
  obtain ⟨ts, ct, cs⟩ := fluxFlds_apart u e
  have hrec := fluxRecord_takeDue s u (16 + e) e (h.entry.body % 128) (.one h)
  have begun := fluxStarted_pulse (takeDue (Work.start s) u (16 + e) (.one h)) u.isLt e.isLt h
  have stays : TileLocal (· ∈ [FLUX_STATUS_TEMPLATE u e, FLUX_STARTS u e]) u Tile.clasps (takeDue (Work.start s) u (16 + e) (.one h))
      (fluxStarted (takeDue (Work.start s) u (16 + e) (.one h)) u e h) :=
    (fillFlux_local (fun _ _ => rfl) (TileLocal.refl _) e _).updTile _ (fun _ => rfl)
  have valid : fluxValid (takeDue (Work.start s) u (16 + e) (.one h)) u (fluxRecord s.view u e (h.entry.body % 128)) = true := by
    rw [fluxValid, firstPageSample_takeDue]
    exact hv
  have played := fluxPlay_started (w := takeDue (Work.start s) u (16 + e) (.one h)) (t := u) (e := e) (h := h)
    (by rw [hrec]; exact valid) (by rw [takeDue_flux]; exact hgo)
  rw [hrec] at begun
  have starts : (fluxStarted (takeDue (Work.start s) u (16 + e) (.one h)) u e h).get (FLUX_STARTS u e) = s.get (FLUX_STARTS u e) :=
    get_takeDue_ne s u (16 + e) (.one h) _ cs.symm
  generalize fluxStarted (takeDue (Work.start s) u (16 + e) (.one h)) u e h = v at begun stays played starts
  obtain ⟨taken, frame, held⟩ := taken_finish hs u.isLt (by omega) (.one h) ((stays.set (FLUX_STATUS_TEMPLATE u e) (h.entry.body % 128)
    (by simp)).inc (FLUX_STARTS u e) (by simp))
    (fun _ f hf => by
      simp only [List.mem_cons, List.not_mem_nil, or_false] at hf
      obtain rfl | rfl := hf
      exacts [ct, cs])
  rw [collideFlds_one (by rw [hk]; decide)] at frame
  refine ⟨_, ?_, ?_, ?_, ?_, taken, held, frame⟩
  · rw [exec, execPlay, run_eq, takeEffect_eq _ _ _ _ _ hdue (by simp [isKind, hk]), applyUnit, if_neg (by omega), if_pos (by omega), if_pos hk,
      Nat.add_sub_cancel_left, played]
  · rw [view_finish_flux]
    exact begun
  · rw [Work.finish_get _ _ hs, Work.inc, Work.add, Work.get_set_ne _ _ _ _ ts, Work.get_set_self]
    exact Nat.mod_mod _ _
  · exact inc_finish hs (by rw [Work.get_set_ne _ _ _ _ ts.symm, starts])

theorem playStarts : Clause.PlayStarts := by
  intro s hs u c h hdue hk
  refine ⟨fun e hc he hv hp => ?_, fun e hc hgo hv => ?_⟩
  · obtain ⟨c, hlt⟩ := c
    obtain rfl : c = e := hc
    exact playStarts_tone s hs u ⟨c, he⟩ h hdue hk hv hp
  · obtain ⟨c, hlt⟩ := c
    obtain rfl : c = 16 + e := hc
    exact playStarts_flux s hs u ⟨e, by omega⟩ h hdue hk hgo hv

/-! ## STOP -/

theorem stopEnds_tone (s : State) (hs : s.wf = true) (u : Fin 32) (e : Fin 16) (h : HeldEntry) (hdue : nextDue s.view u e = some (.one h))
    (hk : h.entry.kind = KSTOP) (p : TonePulse) (hp : (s.view.tone u e).pulse = some p) (hhold : tplHold p.rec_ = true) (hstop : p.stop = none)
    (hin : inSpan p h.entry.key = true) :
    Answers (.stop u ⟨e, by omega⟩) s (fun t => (t.view.tone u e).pulse = some { p with stop := some h.entry.key } ∧
      Taken s t u e (.one h) ∧ Frame s t [CLASP_COLLIDE u]) := by
  have stopped : toneStop (takeDue (Work.start s) u e (.one h)) u e h = (fillTone (takeDue (Work.start s) u e (.one h)) u e h.entry.slot).updTone u e
      (fun x => { x with pulse := some { p with stop := some h.entry.key } }) := by
    simp only [toneStop, takeDue_tone, hp, hhold, hstop, hin, and_self, if_true]
  obtain ⟨taken, frame, -⟩ := taken_finish hs u.isLt (c := e) (by omega) (.one h) (fs := []) (w := toneStop (takeDue (Work.start s) u e (.one h)) u e h) (by
    rw [stopped]
    exact (fillTone_local (fun _ _ => rfl) (TileLocal.refl _) e _).updTile _ (fun _ => rfl)) (fun _ _ hf => absurd hf List.not_mem_nil)
  rw [collideFlds_one (by rw [hk]; decide)] at frame
  refine ⟨_, ?_, ?_, taken, frame⟩
  · rw [exec, execStop, run_eq, takeEffect_eq _ _ _ _ _ hdue (by simp [isKind, hk]), applyUnit, if_pos e.isLt, if_neg (by rw [hk]; decide),
      if_pos hk]
  · rw [view_finish_tone, stopped, tone_updTone_self u.isLt _ e.isLt]

theorem stopEnds_flux (s : State) (hs : s.wf = true) (u : Fin 32) (e : Fin 8) (h : HeldEntry) (hdue : nextDue s.view u (16 + e) = some (.one h))
    (hk : h.entry.kind = KSTOP) (p : FluxPulse) (hp : (s.view.flux u e).pulse = some p) (hhold : tplHold p.rec_ = true) (hstop : p.stop = none)
    (hin : fluxInSpan p (h.entry.stamp * 2 + h.entry.slot / 8) = true) :
    Answers (.stop u ⟨16 + e, by omega⟩) s (fun t =>
      (t.view.flux u e).pulse = some { p with stop := some (h.entry.stamp * 2 + h.entry.slot / 8) } ∧
      Taken s t u (16 + e) (.one h) ∧ Frame s t [CLASP_COLLIDE u]) := by
  have stopped : fluxStop (takeDue (Work.start s) u (16 + e) (.one h)) u e h =
      (fillFlux (takeDue (Work.start s) u (16 + e) (.one h)) u e (h.entry.slot / 8)).updFlux u e
        (fun x => { x with pulse := some { p with stop := some (h.entry.stamp * 2 + h.entry.slot / 8) } }) := by
    simp only [fluxStop, takeDue_flux, hp, hhold, hstop, instant_flux h e.isLt, hin, and_self, if_true]
  obtain ⟨taken, frame, -⟩ := taken_finish hs u.isLt (c := 16 + e) (by omega) (.one h) (fs := []) (w := fluxStop (takeDue (Work.start s) u (16 + e) (.one h)) u e h)
    (by
      rw [stopped]
      exact (fillFlux_local (fun _ _ => rfl) (TileLocal.refl _) e _).updTile _ (fun _ => rfl)) (fun _ _ hf => absurd hf List.not_mem_nil)
  rw [collideFlds_one (by rw [hk]; decide)] at frame
  refine ⟨_, ?_, ?_, taken, frame⟩
  · rw [exec, execStop, run_eq, takeEffect_eq _ _ _ _ _ hdue (by simp [isKind, hk]), applyUnit, if_neg (by omega), if_pos (by omega),
      if_neg (by rw [hk]; decide), if_pos hk, Nat.add_sub_cancel_left]
  · rw [view_finish_flux, stopped, flux_updFlux_self u.isLt _ e.isLt]

theorem stopEndsHold : Clause.StopEndsHold := by
  intro s hs u c h hdue hk
  refine ⟨fun e p hc he hp hhold hstop hin => ?_, fun e p hc hp hhold hstop hin => ?_⟩
  · obtain ⟨c, hlt⟩ := c
    obtain rfl : c = e := hc
    exact stopEnds_tone s hs u ⟨c, he⟩ h hdue hk p hp hhold hstop hin
  · obtain ⟨c, hlt⟩ := c
    obtain rfl : c = 16 + e := hc
    exact stopEnds_flux s hs u ⟨e, by omega⟩ h hdue hk p hp hhold hstop hin

/-! ## The end of a span -/

/-- A work that keeps to the listed registers and to a tile leaves a frame of those registers. -/
theorem tileLocal_frame {s : State} (hs : s.wf = true) {α : Type} {φ : Tile → α} {t : Nat} {fs : List Fld} {w : Work s}
    (h : TileLocal (· ∈ fs) t φ (Work.start s) w) : Frame s w.finish fs :=
  frame_finish hs (fun f hf => (h.1.1 f hf).trans (Work.get_start s f)) (h.1.2.1 (quiet_start s))

theorem pulseEnds_tone (s : State) (hs : s.wf = true) (u : Fin 32) (e : Fin 16) (p : TonePulse) (n : Nat) (hp : (s.view.tone u e).pulse = some p)
    (hn : spanEnd p = some n) (hover : n ≤ s.tl.count * 16 + 16) :
    Answers (.pulseSpanEnd u ⟨e, by omega⟩) s (fun t => (t.view.tone u e).pulse = none ∧ Frame s t []) := by
  have ended : pulseSpanEnd (Work.start s) u e = endPulse (fillTone (Work.start s) u e (n - (Work.start s).now * 16)) u e := by
    rw [pulseSpanEnd, if_pos e.isLt]
    simp only [hp, hn]
    exact if_pos hover
  refine ⟨_, by rw [exec, execPulseSpanEnd, run_eq, ended], ?_, tileLocal_frame (φ := fun _ => ()) (t := u) hs
    (endPulse_local (fun _ _ => rfl) (fun _ _ => rfl) (fillTone_local (fun _ _ => rfl) (TileLocal.refl _) e _) e)⟩
  rw [view_finish_tone, endPulse_pulse _ u.isLt e.isLt]

/-- A flux engine whose pulse has left it. -/
def fluxIdle (w : Work σ) (t e n : Nat) : Work σ := (fillFlux w t e (n - w.now * 2)).updFlux t e (fun x => { x with pulse := none })

theorem fluxEndNormal_eq (w : Work σ) (t e : Nat) (p : FluxPulse) (n : Nat) : fluxEndNormal w t e p n = if tplKeep p.rec_ then
    fluxDcAdd (fluxIdle w t e n) t e (roundAway (tplAmp p.rec_ * fluxLastPlayed w t p.rec_) 15) else fluxIdle w t e n := by
  rfl

theorem fluxIdle_pulse (w : Work σ) {t e : Nat} (ht : t < 32) (he : e < 8) (n : Nat) : ((fluxIdle w t e n).flux t e).pulse = none := by
  rw [fluxIdle, flux_updFlux_self ht _ he]

theorem fluxIdle_local {K : Fld → Prop} {t : Nat} (w : Work σ) (e n : Nat) : TileLocal K t Tile.clasps w (fluxIdle w t e n) :=
  (fillFlux_local (fun _ _ => rfl) (TileLocal.refl w) e _).updTile _ (fun _ => rfl)

theorem fluxDcAdd_pulse (w : Work σ) (t e : Nat) (x : Int) : (fluxDcAdd w t e x).flux t e = w.flux t e :=
  congrArg (fun v => vget v Flux.reset e) (fluxDcAdd_local (φ := Tile.flux) e x).2.2

theorem pulseEnds_flux (s : State) (hs : s.wf = true) (u : Fin 32) (e : Fin 8) (p : FluxPulse) (n : Nat) (hp : (s.view.flux u e).pulse = some p)
    (hn : fluxSpanEnd p = some n) (hover : n ≤ s.tl.count * 2 + 2) :
    Answers (.pulseSpanEnd u ⟨16 + e, by omega⟩) s (fun t => (t.view.flux u e).pulse = none ∧
      t.get (FLUX_DC u e) = (if tplKeep p.rec_ then toField 16 (satS 16 (sext 16 (s.get (FLUX_DC u e)) +
        roundAway (tplAmp p.rec_ * fluxLastPlayed s.view u p.rec_) 15)) else s.get (FLUX_DC u e)) ∧
      Frame s t (if tplKeep p.rec_ then [FLUX_DC u e, FLUX_DC_DUE u e, FLUX_CLIP_STICKY u e] else [])) := by
  have ended : pulseSpanEnd (Work.start s) u (16 + e) = fluxEndNormal (Work.start s) u e p n := by
    rw [pulseSpanEnd, if_neg (by omega), Nat.add_sub_cancel_left, fluxEndIfOver]
    simp only [hp, hn]
    exact if_pos hover
  have idle := fluxIdle_pulse (Work.start s) u.isLt e.isLt n
  have stays : ∀ fs : List Fld, TileLocal (· ∈ fs) u Tile.clasps (Work.start s) (fluxIdle (Work.start s) u e n) :=
    fun fs => fluxIdle_local _ e n
  have run : exec (.pulseSpanEnd u ⟨16 + e, by omega⟩) s = .next (if tplKeep p.rec_ then fluxDcAdd (fluxIdle (Work.start s) u e n) u e
      (roundAway (tplAmp p.rec_ * fluxLastPlayed s.view u p.rec_) 15) else fluxIdle (Work.start s) u e n).finish := by
    rw [exec, execPulseSpanEnd, run_eq, ended, fluxEndNormal_eq]
  have regs : ∀ f, (fluxIdle (Work.start s) u e n).get f = s.get f := fun f =>
    ((stays []).1.1 f (fun g hg => absurd hg List.not_mem_nil)).trans (Work.get_start s f)
  generalize fluxIdle (Work.start s) u e n = v at idle stays run regs
  by_cases hk : tplKeep p.rec_ = true
  · rw [if_pos hk] at run
    refine ⟨_, run, ?_⟩
    simp only [hk, if_true]
    obtain ⟨sum, -⟩ := fluxDcAdd_regs v u e (roundAway (tplAmp p.rec_ * fluxLastPlayed s.view u p.rec_) 15)
    obtain ⟨hw, hne, hc⟩ := fluxDcAdd_local (φ := Tile.clasps) (w := v) (t := u) e (roundAway (tplAmp p.rec_ * fluxLastPlayed s.view u p.rec_) 15)
    obtain ⟨hw', hne', hc'⟩ := stays [FLUX_DC u e, FLUX_DC_DUE u e, FLUX_CLIP_STICKY u e]
    rw [view_finish_flux, fluxDcAdd_pulse, Work.finish_get _ _ hs, sum, regs]
    exact ⟨idle, rfl, tileLocal_frame (φ := Tile.clasps) (t := u) hs ⟨tileWork_trans hw' hw, fun t ht => (hne t ht).trans (hne' t ht), hc.trans hc'⟩⟩
  · rw [if_neg hk] at run
    refine ⟨_, run, ?_⟩
    simp only [hk, Bool.false_eq_true, if_false]
    rw [view_finish_flux, Work.finish_get _ _ hs, regs]
    exact ⟨idle, rfl, tileLocal_frame hs (stays [])⟩

theorem pulseEnds : Clause.PulseEnds := by
  intro s hs u c
  refine ⟨fun e p n hc he hp hn hover => ?_, fun e p n hc hp hn hover => ?_⟩
  · obtain ⟨c, hlt⟩ := c
    obtain rfl : c = e := hc
    exact pulseEnds_tone s hs u ⟨c, he⟩ p n hp hn hover
  · obtain ⟨c, hlt⟩ := c
    obtain rfl : c = 16 + e := hc
    exact pulseEnds_flux s hs u ⟨e, by omega⟩ p n hp hn hover

/-- Settles O13: a unit leaves its clasp, the samples before its slot are fixed, and the pulse of its engine begins, stops or ends. -/
theorem pulses : Obligations.Pulses := ⟨playStarts, stopEndsHold, pulseEnds⟩

end Sys2Proof.PulseProofs
end

section
/-! PROOFS. Ethernet ports past the last one. TRANSPORT.TXPORT[0].PORT of a state may hold more than its five bits, and a port of that number
is up where the registers of a lane of that number say so; a datagram that leaves on it counts at a TX_FRAMES of no port. -/

namespace Sys2Proof.FarPorts

open Sys2Proof.Machine Sys2Proof.Outsized

-- A kernel evaluation waits for every declaration before it: one at a time keeps the threads that wait, and their stacks, few.
set_option Elab.async false

/-- Tile 0 sends on port p, whose lane is in UP. -/
def sendsOn (p : Nat) : List (Fld × Nat) :=
  [(TRANSPORT_TXPORT_USE_CLAIM 0, 0), (TRANSPORT_TXPORT_PORT 0, p), (LANE_CFG_ROLE p, 1), (LANE_STATUS_STATE p, LANE_UP)]

/-! ## A claim -/

/-- What a claim writes, as its statement lists it. -/
def claimFlds : List Fld :=
  [TRANSPORT_SESSION_EPOCH, TRANSPORT_SESSION_OWNER_VALID, TRANSPORT_SESSION_OWNER_V6, TRANSPORT_SESSION_OWNER_PORT, TRANSPORT_OWNER_UDP] ++
    (List.range 4).map TRANSPORT_OWNER_IP ++ [OWNER_REACHED, CR_LAST, COMP_STATUS_CBUSY] ++ (List.range 32).map ETH_TX_FRAMES ++
    (List.range 32).flatMap (fun u => (List.range 512).flatMap (fun i => [QSENT u i, QREPORTED u i]))

theorem framesOf100_off_claim : ∀ g ∈ claimFlds, (ETH_TX_FRAMES 100).key ≠ g.key := by
  intro g hg
  simp only [claimFlds, List.mem_append, List.mem_flatMap, List.mem_map, List.mem_range, List.mem_cons, List.not_mem_nil, or_false] at hg
  obtain ((((hg | ⟨n, hn, rfl⟩) | hg) | ⟨n, hn, rfl⟩) | ⟨u, hu, i, hi, rfl | rfl⟩) := hg
  · obtain rfl | rfl | rfl | rfl | rfl := hg <;> decide
  · simp only [Fld.key, ETH_TX_FRAMES, TRANSPORT_OWNER_IP]
    omega
  · obtain rfl | rfl | rfl := hg <;> decide
  · simp only [Fld.key, ETH_TX_FRAMES]
    omega
  · simp only [Fld.key, ETH_TX_FRAMES, QSENT, hid]
    omega
  · simp only [Fld.key, ETH_TX_FRAMES, QREPORTED, hid]
    omega

theorem not_sessions : ¬ Clause.Sessions := by
  intro h
  have claimed := (h (holding (sendsOn 100)) (by decide +kernel)).2 0 false 1 2 3
  obtain ⟨-, -, -, -, -, -, -, -, -, ⟨regs, -⟩⟩ := after_of_answers claimed
  exact absurd (regs (ETH_TX_FRAMES 100) framesOf100_off_claim) (by decide +kernel)

/-- Refutes O32: the datagram that answers a claim leaves on a port past the last one, whose TX_FRAMES no statement names. -/
theorem not_sessionsAndChecks : ¬ Obligations.SessionsAndChecks := fun ⟨h, _⟩ => not_sessions h

/-! ## A STATUS datagram -/

/-- The port whose TX_FRAMES has the address of the number that queue 20 of tile 0 last reported. -/
def clashPort : Nat := (2 ^ 40 + 0x10C14 - 0x210014) / 0x40

theorem frames_clash : (ETH_TX_FRAMES clashPort).key = (QREPORTED 0 20).key := by decide

/-- Queue 20 of tile 0 has an entry to report to the owner, on that port. -/
def clashState : State :=
  holding (sendsOn clashPort ++ [(TRANSPORT_SESSION_OWNER_VALID, 1), (QT_CFG_EN 0 20, 1), (QTAIL 0 20, 5)])

/-- Refutes O33: the datagram that reports a queue leaves on such a port, and its count stands where the reported number was kept. -/
theorem not_queueTimers : ¬ Obligations.QueueTimers := by
  intro h
  have reported := (h clashState (by decide +kernel) (by decide +kernel) 20).2.1 clashPort (by decide) (by decide +kernel) (by decide +kernel)
    (by decide +kernel)
  exact absurd (after_of_answers reported).1 (by decide +kernel)

end Sys2Proof.FarPorts
end

section
/-! PROOFS. Publications that nothing but the slots sees (R159, R160): no watcher is armed, no slot exported, no table context has a key bit. -/

namespace Sys2Proof.BroadcastFacts

open Sys2Proof.Machine

variable {σ : State}

theorem each_nil {α : Type} (w : Work σ) (f : Work σ → α → Work σ) : w.each [] f = w := rfl

theorem each_cons {α : Type} (w : Work σ) (f : Work σ → α → Work σ) (x : α) (l : List α) : w.each (x :: l) f = (f w x).each l f := rfl

theorem each_eq_self {α : Type} {w : Work σ} {f : Work σ → α → Work σ} (l : List α) (h : ∀ x ∈ l, f w x = w) : w.each l f = w := by
  induction l with
  | nil => rfl
  | cons x l ih =>
    rw [each_cons, h x List.mem_cons_self]
    exact ih (fun y hy => h y (List.mem_cons_of_mem _ hy))

section

variable {w : Work σ}

theorem exportTokens_none (he : ∀ n < 64, w.get (DECB_EXPORT_EN n) = 0) (l : Nat) (ps : List (Nat × SlotC)) : exportTokens w l ps = [] := by
  have off : ∀ p : Nat × SlotC, (List.range 64).filter (fun i => w.on (DECB_EXPORT_EN i) && decide (w.get (DECB_EXPORT_SLOT i) = p.1) &&
      decide (w.get (DECB_EXPORT_LINK i) = l)) = [] := fun p => by
    rw [List.filter_eq_nil_iff]
    intro i hi
    simp [Work.on, he i (List.mem_range.mp hi)]
  rw [exportTokens, List.flatMap_eq_nil_iff]
  exact fun p _ => by rw [off, List.map_nil]

theorem exportSlot_none (he : ∀ n < 64, w.get (DECB_EXPORT_EN n) = 0) (ps : List (Nat × SlotC)) : exportSlot w ps = w := by
  rw [exportSlot]
  refine each_eq_self _ (fun l _ => ?_)
  simp only [exportTokens_none he, c0Blocks, if_true]
  split <;> rfl

theorem watchersSee_none (hw : ∀ u < 32, ∀ d < 16, (w.watch u d).armed = false) (n : Nat) : watchersSee w n = w := by
  rw [watchersSee]
  refine each_eq_self _ (fun u hu => each_eq_self _ (fun d hd => if_neg ?_))
  rw [hw u (List.mem_range.mp hu) d (List.mem_range.mp hd)]
  exact fun h => absurd h.1 (by decide)

theorem watch_slotSet (w : Work σ) (n : Nat) (c : SlotC) (u d : Nat) : (slotSet w n c).watch u d = w.watch u d := rfl

/-- Publications that no watcher and no link sees only replace the contents of their slots. -/
theorem publishAll_unwatched (hw : ∀ u < 32, ∀ d < 16, (w.watch u d).armed = false) (he : ∀ n < 64, w.get (DECB_EXPORT_EN n) = 0)
    (ps : List (Nat × SlotC)) : publishAll w ps = w.each ps (fun w p => slotSet w p.1 p.2) := by
  rw [publishAll, exportSlot_none he]
  clear he
  induction ps generalizing w with
  | nil => rw [each_nil, each_nil]
  | cons p ps ih =>
    have unarmed : ∀ u < 32, ∀ d < 16, ((slotSet w p.1 p.2).watch u d).armed = false := fun u hu d hd => by
      rw [watch_slotSet, hw u hu d hd]
    rw [each_cons, each_cons, publishOne, watchersSee_none unarmed, ih unarmed]

theorem ctxSee_none {u c : Nat} (hk : ctxKeys w u c = []) : ctxSee w u c = ([], w) := by
  simp [ctxSee, hk, Work.each]

/-- Table contexts without key bits see nothing. -/
theorem tablesSee_none (hk : ∀ a < 2, ∀ c < 2, ctxKeys w a c = []) (n : Nat) : tablesSee n w = w := by
  cases n with
  | zero => rfl
  | succ n =>
    simp [tablesSee, ctxSee_none (hk 0 (by decide) 0 (by decide)), ctxSee_none (hk 0 (by decide) 1 (by decide)),
      ctxSee_none (hk 1 (by decide) 0 (by decide)), ctxSee_none (hk 1 (by decide) 1 (by decide))]

end

end Sys2Proof.BroadcastFacts
end

section
/-! PROOFS. A window whose round is more than four bits. The round of a Window of the typed state is a number, and one of 256 reaches bit 8 of
the INFO word of its result. -/

namespace Sys2Proof.FarRound

open Sys2Proof.Machine Sys2Proof.Outsized Sys2Proof.BroadcastFacts

-- A kernel evaluation waits for every declaration before it: one at a time keeps the threads that wait, and their stacks, few.
set_option Elab.async false

variable {σ : State}

/-- A complete window of one frame with that round. -/
def lateWindow : Window := ⟨5, 256, 0, 0, 0, false, false, 1, 0, 0, false, false, false, false, false⟩

/-- Channel 0 of tile 0 holds it. -/
def lateState : State := holding [] (withTile 0 (fun x => { x with win := vset x.win 0 (some lateWindow) }))

/-- What a register holds behind a command, before the registers of the state are put together. -/
theorem after_get {c : Instr} {s : State} {F : Work s → Work s} (hs : s.wf = true) (hc : exec c s = .next (F (Work.start s)).finish) (f : Fld) :
    (after c s).get f = (F (Work.start s)).get f := by
  rw [after, hc]
  exact Work.finish_get _ _ hs

theorem not_resultRegisters : ¬ Clause.ResultRegisters := by
  intro h
  have shown := h lateState (by decide +kernel) 0 0 lateWindow (by decide +kernel) (by decide)
  obtain ⟨-, -, -, -, -, -, -, -, -, -, -, -, -, adcOvr, -⟩ := after_of_answers shown
  rw [after_get (F := fun w => presentResult w 0 0) (by decide +kernel) rfl] at adcOvr
  exact absurd adcOvr (by decide +kernel)

/-- Refutes O16: INFO.ADC_OVR of the result of such a window is set although no sample of it was beyond the range. -/
theorem not_readout : ¬ Obligations.Readout := fun ⟨_, h⟩ => not_resultRegisters h

/-! ## A lookup from before a commit -/

/-- Context 0 of region 0 waits for a lookup of round 16. -/
def lookupState : State :=
  holding [] (fun d => { d with tables := vset d.tables 0 { vget d.tables TableCtx.reset 0 with lookups := [⟨0, false, false, false, some 16⟩] } })

/-- What that lookup has come to when it publishes: its context holds none any more and counts one that failed. -/
def lookupGone : Work lookupState :=
  ((Work.start lookupState).updCtx 0 0 (fun x => { x with lookups := [] })).inc (TABLE_CTX_COUNT_PARITY 0 0)

/-- Its four publications. -/
def lookupSlots : List (Nat × SlotC) := (List.range 4).map (fun j => (320 + j, ⟨false, 0, false, false, false, 16⟩))

theorem lookup_returns : lookupReturn (Work.start lookupState) 0 0 false 0 = publish lookupGone lookupSlots := by
  rw [lookupReturn]
  rfl

theorem lookup_published : lookupReturn (Work.start lookupState) 0 0 false 0 = lookupGone.each lookupSlots (fun w p => slotSet w p.1 p.2) := by
  rw [lookup_returns, publish, publishAll_unwatched (by decide +kernel) (by decide +kernel), tablesSee_none (by decide +kernel)]

theorem round_slotGet (w : Work σ) (n : Nat) : (slotGet w n).round = w.get (DECB_SLOT_ROUND n) := rfl

theorem not_lookupsPublish : ¬ Clause.LookupsPublish := by
  intro h
  have unwatched : Unwatched lookupState := by unfold Unwatched; decide +kernel
  have returned := h lookupState (by decide +kernel) unwatched 0 0 false 0 ⟨0, false, false, false, some 16⟩ [] (by decide +kernel)
  have shown := congrArg SlotC.round ((after_of_answers returned).1 (320, ⟨false, 0, false, false, false, 16⟩) (by decide +kernel))
  rw [round_slotGet, Work.get_start, after_get (F := fun w => lookupReturn w 0 0 false 0) (by decide +kernel) rfl, lookup_published] at shown
  exact absurd shown (by decide +kernel)

/-- Refutes O17: the slots of a lookup that publishes round 16 show round 0. -/
theorem not_discrimination : ¬ Obligations.Discrimination := fun ⟨_, h, _⟩ => not_lookupsPublish h

end Sys2Proof.FarRound
end

section
/-! PROOFS. A slot past the last one. The slot that a key bit of a watcher names may be any number, and there is one whose VALID has the address
of the watcher's own RESOLVED, which an arming clears. -/

namespace Sys2Proof.FarSlot

open Sys2Proof.Machine Sys2Proof.Outsized Sys2Proof.FarRound

-- A kernel evaluation waits for every declaration before it: one at a time keeps the threads that wait, and their stacks, few.
set_option Elab.async false

/-- The slot whose VALID stands where watcher 0 of tile 0 keeps RESOLVED. -/
def statusSlot : Nat := (tileBase 0 + 0x6818 - 0x600000) / 4

theorem status_clash : (DECB_SLOT_VALID statusSlot).key = (WATCH_STATUS_RESOLVED 0 0).key := by decide

/-- An arming of that watcher that is due, and adds 5 to the round that its key bit expects. -/
def dueArming : Arming := ⟨0, false, 5, 0, 0, false⟩

/-- Watcher 0 of tile 0 has resolved, and its only key bit watches that slot, which shows round 5. -/
def clearedState : State :=
  holding [(WATCH_STATUS_RESOLVED 0 0, 1), (WATCH_KEY_EN 0 0 0, 1), (WATCH_KEY_SLOT 0 0 0, statusSlot), (DECB_SLOT_ROUND statusSlot, 5)]
    (withTile 0 (fun x => { x with arms := [dueArming] }))

theorem not_armingsCapture : ¬ Clause.ArmingsCapture := by
  intro h
  have armed := after_of_answers (h clearedState (by decide +kernel) 0 dueArming (by decide +kernel) (by decide) (by decide))
  obtain ⟨⟨captures, -⟩, -⟩ := armed
  have captured := ((captures 0 (by decide +kernel)).2.1 id (by decide +kernel)).1
  rw [after_get (F := fun w => armingEffect w 0) (by decide +kernel) rfl] at captured
  exact absurd captured (by decide +kernel)

/-- Refutes O18: an arming clears the slot that its key bit watches before it could capture it. -/
theorem not_feedback : ¬ Obligations.Feedback := fun ⟨_, h, _⟩ => not_armingsCapture h

end Sys2Proof.FarSlot
end

section
/-! PROOFS. A credit that waits for a link at no queue. What waits for a link of a state is a list that may name a tile past the last one,
whose registers no statement names. -/

namespace Sys2Proof.FarWait

open Sys2Proof.Machine Sys2Proof.Outsized Sys2Proof.FarRound Sys2Proof.BroadcastFacts

-- A kernel evaluation waits for every declaration before it: one at a time keeps the threads that wait, and their stacks, few.
set_option Elab.async false

variable {σ : State}

/-- Link 0 is UP and wakes from lull, and the credit of queue 448 of a tile 32 waits for it. -/
def wakingState : State :=
  holding [(LINK_STATUS_STATE 0, 2), (QT_PEER_REMOTE 32 448, 1), (QT_PEER_LINK 32 448, 0), (QTAIL 32 448, 5)]
    (fun d => { d with peerWait := [⟨32, 448, none⟩], links := vset d.links 0 { LinkSt.reset with waking := true } })

/-- That link, awake. -/
def awake : Work wakingState :=
  (((Work.start wakingState).updLink 0 (fun k => { k with waking := false })).each (linkLanes (Work.start wakingState) 0)
    (fun w n => w.set (LANE_STATUS_LULL_TX n) 0))

/-- No queue that is enabled names a link: what a link does at each of its queues is nothing. -/
theorem linkQueues_none {w : Work σ} (h : ∀ t < 32, ∀ j < 64, qEnabled w t (448 + j) = false) (l : Nat) (f : Work σ → Nat → Nat → Work σ) :
    linkQueues w l f = w := by
  refine each_eq_self _ (fun t ht => each_eq_self _ (fun j hj => ?_))
  rw [h t (List.mem_range.mp ht) j (List.mem_range.mp hj)]
  rfl

/-- Awake, with what waited gone out. -/
def sent : Work wakingState :=
  let w := heldFlush awake 0
  ({ w with dev := { w.dev with peerWait := [] } }).each [1, 2, 3] (fun w top => waitSend w top ⟨32, 448, none⟩)

theorem flush_sends : linkFlush awake 0 = sent := by
  have none_enabled : ∀ t < 32, ∀ j < 64, qEnabled sent t (448 + j) = false := by decide +kernel
  rw [linkFlush]
  show ((linkQueues sent 0 _).each [1, 2, 3] _) = sent
  rw [linkQueues_none none_enabled, each_cons, linkQueues_none none_enabled, each_cons, linkQueues_none none_enabled, each_cons,
    linkQueues_none none_enabled, each_nil]

theorem not_lull : ¬ Clause.Lull := by
  intro h
  have woken := after_of_answers ((h wakingState (by decide +kernel)).2.2.1 0 (by decide +kernel))
  obtain ⟨-, -, -, -, kept⟩ := woken
  obtain ⟨regs, -⟩ := kept (by decide +kernel)
  have same := regs (QREPORTED 32 448) (by decide +kernel)
  rw [after_get (F := fun w => linkFlush awake 0) (by decide +kernel) rfl, flush_sends] at same
  exact absurd same (by decide +kernel)

/-- Refutes O38: behind the wake of a link the credit that waits at no queue of the device leaves, and is written as reported. -/
theorem not_lullAndLinks : ¬ Obligations.LullAndLinks := fun ⟨h, _⟩ => not_lull h

end Sys2Proof.FarWait
end

section
/-! PROOFS. A staged value under another name. A field of a state's shadows is any address and any bit, and one of an address among the device
blocks with a bit behind its word has the place of LOADER.STATE, which the clasp point sets. -/

namespace Sys2Proof.FarField

open Sys2Proof.Machine Sys2Proof.Outsized

-- A kernel evaluation waits for every declaration before it: one at a time keeps the threads that wait, and their stacks, few.
set_option Elab.async false

/-- LOADER.STATE.STATE, named from an address of the device blocks. -/
def stateAlias : Fld := ⟨0x10000, 32 * (0x700004 - 0x10000), 3, 0⟩

theorem get_stateAlias (s : State) : s.get stateAlias = s.get LOADER_STATE_STATE := rfl

/-- A commit is due, with a value staged for that field. -/
def dueState : State :=
  holding [(LOADER_STATE_STATE, LD_PENDING)]
    (fun d => { d with loader := { d.loader with commit := some ⟨0, 0, 0⟩, dueTick := some 0, shadows := [(stateAlias, LD_ERROR)] } })

theorem not_claspPoint : ¬ Clause.ClaspPoint := by
  intro h
  have applied := after_of_answers (h dueState (by decide +kernel) ⟨0, 0, 0⟩ (by decide +kernel) (by decide +kernel) (by decide +kernel)
    (by decide +kernel) (by decide +kernel) (by decide +kernel) (by decide +kernel) (by decide +kernel) (by decide +kernel))
  obtain ⟨staged, -, -, -, idle, -⟩ := applied
  have shown := staged (stateAlias, LD_ERROR) (by decide +kernel)
  rw [get_stateAlias, idle] at shown
  exact absurd shown (by decide +kernel)

/-- Refutes O42: at the clasp point the loader is IDLE, and the value staged for its state under that name is gone. -/
theorem not_commitment : ¬ Obligations.Commitment := fun ⟨_, h⟩ => not_claspPoint h

end Sys2Proof.FarField
end

section
/-! PROOFS. Code staged past its channel's window. LOADER.STAGE_BASE of a state may be any number, and with a DDR.CFG.DENSITY of channel 0 that gives
it more than its window, a word is staged in the window of channel 1, past what is installed there, where R29 drops it. -/

namespace Sys2Proof.FarStage

open Sys2Proof.Machine Sys2Proof.Outsized Sys2Proof.FarRound

-- A kernel evaluation waits for every declaration before it: one at a time keeps the threads that wait, and their stacks, few.
set_option Elab.async false

/-- A code word of even parity. -/
def oneWord : List Byte := leBytes 32 0x30

/-- The header of a CODE frame of that word for tile 0, up to its CRC. -/
def codeHead : List Byte := leBytes 2 0x5A45 ++ leBytes 2 TY_CODE ++ leBytes 4 0 ++ leBytes 4 1 ++ leBytes 4 0 ++ leBytes 4 32

/-- That frame. -/
def codeBytes : List Byte := codeHead ++ leBytes 4 (crc32 (codeHead ++ oneWord)) ++ oneWord

/-- The loader has come to it; tile 0 is released, and the staged words lie from the far address on. -/
def stagingState : State :=
  holding [(LOADER_STATE_STATE, LD_LOADING), (SEQ_STATE_STATE 0, RUN), (DDR_STATUS_STATE 0, DDR_READY), (DDR_CFG_DENSITY 0, 4),
      (LOADER_STAGE_CHAN, 0), (LOADER_STAGE_BASE, 2 ^ 25 + 2 ^ 22)]
    (fun d => { d with loader := { d.loader with source := 3, buf := codeBytes, nextSeq := some 1, paused := true } })

theorem stage_far : stageAddr stagingState.view 0 0 = farSlot := by decide +kernel

theorem not_framesWrite : ¬ Clause.FramesWrite := by
  intro h
  have taken : FrameTaken stagingState (readFrame codeBytes) TY_CODE := by unfold FrameTaken FrameAt StreamGoesOn HostQuiet; decide +kernel
  have stored := after_of_answers ((((h stagingState (by decide +kernel) (readFrame codeBytes)).2.2 taken).2.2 0 0 oneWord
    (by decide +kernel) (by decide +kernel) (by decide +kernel) (by decide +kernel)).1 (by decide +kernel))
  exact absurd (stored.1 farSlot) (by decide +kernel)

/-- Refutes O41: the word of a CODE frame is not staged there, and LOADER goes on. -/
theorem not_imageFrames : ¬ Obligations.ImageFrames := fun ⟨_, _, h⟩ => not_framesWrite h

end Sys2Proof.FarStage
end

section
/-! PROOFS. A limit register with a bit past its field. HK.LIMIT of a state may hold more than its 16 bits, and a breach that sets a bit of it
takes only those. -/

namespace Sys2Proof.FarLimit

open Sys2Proof.Machine Sys2Proof.Outsized Sys2Proof.FarRound

-- A kernel evaluation waits for every declaration before it: one at a time keeps the threads that wait, and their stacks, few.
set_option Elab.async false

/-- What the converter meets: no voltage, under a reference of 1. -/
def silence : HkAnalog := ⟨[], 1, [], 0⟩

/-- A round is at entry 0 of two; limit word 0 breaches where a code of that entry lies below 1, and HK.LIMIT holds a bit that no field of the
register has. -/
def limitState : State :=
  holding [(HK_STATUS_ROUND, 1), (HK_PATCH 0, 2 ^ 29 + 1), (HK_LIMIT, 2 ^ 16)]
    (fun d => { d with hk := { d.hk with item := some (.entry 0), nent := 2, words := [0, 0], next := 1 } })

theorem silence_converts : Converts limitState silence 0 0 := by
  have uncalibrated : limitState.dev.hk.cal = [] := rfl
  refine ⟨by decide, fun _ => by decide +kernel, fun off ref h => ?_⟩
  rw [uncalibrated] at h
  exact absurd h (by simp)

theorem not_limitSteps : ¬ Clause.LimitSteps := by
  intro h
  have walked := after_of_answers ((h limitState (by decide +kernel)).1 0 silence 0 1 0 (by decide +kernel) (by decide +kernel)
    silence_converts (by unfold ConverterFree; decide +kernel) (by unfold BelowCut; decide +kernel) (by decide +kernel)
    (by decide +kernel) (by decide +kernel) (by decide) (by decide +kernel) (by decide +kernel))
  exact absurd walked.1 (by decide +kernel)

/-- Refutes O48: the breach leaves HK.LIMIT without that bit. -/
theorem not_housekeeping : ¬ Obligations.Housekeeping := fun ⟨_, h, _⟩ => not_limitSteps h

end Sys2Proof.FarLimit
end

section
/-! PROOFS. A PTP port past the last one. PTP.CFG.PORT of a state may hold more than its five bits, and there is a port whose TX_FRAMES has the
address of PTP.CLOCK_ID_HI, so that a message that leaves on it changes the identity that the next one carries. -/

namespace Sys2Proof.FarClock

open Sys2Proof.Machine Sys2Proof.Outsized Sys2Proof.FarRound

-- A kernel evaluation waits for every declaration before it: one at a time keeps the threads that wait, and their stacks, few.
set_option Elab.async false

/-- The port whose TX_FRAMES stands where the high word of the clock's identity is kept. -/
def clashPort : Nat := (0x220014 - 0x210014) / 0x40

theorem frames_clash : (ETH_TX_FRAMES clashPort).key = PTP_CLOCK_ID_HI.key := by decide

/-- A two-step master on that port, over Layer 2. -/
def masterState : State :=
  holding [(PTP_CFG_EN, 1), (PTP_CFG_ROLE, 1), (PTP_CFG_STEP, 0), (PTP_CFG_TRANSPORT, 2), (PTP_CFG_PORT, clashPort),
    (LANE_CFG_ROLE clashPort, 1), (LANE_STATUS_STATE clashPort, LANE_UP)]

/-- A byte of the third output, where that is a frame. -/
def thirdFrameByte (out : List Out) (i : Nat) : Nat :=
  match out with
  | _ :: _ :: .frame _ _ bytes :: _ => bytes.getD i 0
  | _ => 0

/-- A byte of what stands in front of the padding. -/
theorem frame_byte (bytes pad : List Byte) (i : Nat) (h : i < bytes.length) :
    ((bytes ++ pad).map (·.toNat)).getD i 0 = (bytes.getD i 0).toNat := by
  rw [List.map_append, List.getD_append _ _ _ _ (by rwa [List.length_map]), List.getD_eq_getElem _ _ (by rwa [List.length_map]),
    List.getD_eq_getElem _ _ h, List.getElem_map]

/-- Where the last byte of the identity's high word stands in a Layer 2 message. -/
def idByte : Nat := 14 + 23

theorem not_ptpMaster : ¬ Clause.PtpMaster := by
  intro h
  have sync := (h masterState (by decide +kernel) (by decide +kernel) (by decide +kernel) (by decide +kernel)).1 0 (by decide +kernel)
  obtain ⟨⟨o, b, o', b', origin, out, -, -, w, tail, pad, -, -, layer2⟩, -⟩ := after_of_answers (sync.2 (by decide +kernel))
  obtain ⟨-, followUp, -⟩ := layer2 (by decide +kernel)
  have byte := congrArg (thirdFrameByte · idByte) out
  simp only [followUp, thirdFrameByte] at byte
  rw [frame_byte _ _ _ (by decide +kernel)] at byte
  exact absurd byte (by decide +kernel)

/-- Refutes O51: the Follow_Up behind a Sync carries another clock identity. -/
theorem not_ptpClocks : ¬ Obligations.PtpClocks := fun ⟨_, h⟩ => not_ptpMaster h

end Sys2Proof.FarClock
end

section
/-! PROOFS. A record of a tile past the last one. The tile of a compressor's record is any number, and there is one whose TXPORT has the address of
the compressor's own count of blocks, so that the count of a block moves the port on which it leaves. -/

namespace Sys2Proof.FarTile

open Sys2Proof.Machine Sys2Proof.Outsized Sys2Proof.FarRound

-- A kernel evaluation waits for every declaration before it: one at a time keeps the threads that wait, and their stacks, few.
set_option Elab.async false

/-- The tile whose TXPORT.PORT stands where compressor 0 counts its blocks. -/
def clashTile : Nat := ((COMP_C_BLOCKS 0).addr - (TRANSPORT_TXPORT_PORT 0).addr) / 4

theorem blocks_clash : (TRANSPORT_TXPORT_PORT clashTile).key = (COMP_C_BLOCKS 0).key := by decide

/-- A record of queue 200 of that tile. -/
def clashJob : CompJob := ⟨clashTile, 200, 0, 0, 100, 0⟩

/-- Compressor 0 has it, and ports 0 and 1 are up. -/
def compState : State :=
  holding [(TRANSPORT_SESSION_OWNER_VALID, 1), (TRANSPORT_TXPORT_USE_CLAIM clashTile, 0), (QT_CFG_EN clashTile 200, 1), (LANE_CFG_ROLE 0, 1), (LANE_STATUS_STATE 0, LANE_UP),
      (LANE_CFG_ROLE 1, 1), (LANE_STATUS_STATE 1, LANE_UP)]
    (fun d => { d with compJobs := vset d.compJobs 0 (some clashJob) })

theorem not_recordHeaders : ¬ Clause.RecordHeaders := by
  intro h
  have given := after_of_answers ((h compState (by decide +kernel)).2 0 false [] clashJob 0 (by unfold MayCompress; decide +kernel) (by decide +kernel) (by decide +kernel))
  obtain ⟨-, -, -, regs, -⟩ := given
  have same := regs (ETH_TX_FRAMES 1) (by decide +kernel)
  rw [after_get (F := fun w => compOut w 0 false []) (by decide +kernel) rfl] at same
  exact absurd same (by decide +kernel)

/-- Refutes O52: the header block of that record leaves on port 1, not on the port that the tile names. -/
theorem not_compressors : ¬ Obligations.Compressors := fun ⟨h, _⟩ => not_recordHeaders h

end Sys2Proof.FarTile
end

section
/-! PROOFS. What the commands of a serial lane leave: a work that writes registers of the lane and fires, and the parts that they share,
leaving UP, an EVT flag that rises and the equaliser (R343, R345, R348, R355). -/

namespace Sys2Proof.LaneWorks

open Sys2Proof.Machine Sys2Proof.Effects Sys2Proof.LaneFacts Sys2Proof.RejectFacts

-- A kernel evaluation waits for every declaration before it: one at a time keeps the threads that wait, and their stacks, few.
set_option Elab.async false

variable {s : State}

theorem answers_of {c : Instr} {P : State → Prop} (F : Work s → Work s) {w : Work s} (run : exec c s = .next (F (Work.start s)).finish)
    (eq : F (Work.start s) = w) (p : P w.finish) : Answers c s P := ⟨_, run.trans (by rw [eq]), p⟩

/-! ## A work that writes some registers, fires and gives something out -/

/-- A command's work so far: the registers that it may have written, its firings, and what it has given out. -/
def Does (w : Work s) (fs : List Fld) (fired : List Firing) (out : List Out) : Prop :=
  Keeps w fs ∧ Quiet w ∧ w.tl = s.tl ∧ w.dev = { s.view.dev with held := s.dev.held ++ fired, out := out }

theorem Does.start (fs : List Fld) : Does (Work.start s) fs [] [] :=
  ⟨keeps_start s fs, quiet_start s, rfl, by rw [List.append_nil]; rfl⟩

section

variable {w : Work s} {fs : List Fld} {fired : List Firing} {out : List Out}

theorem Does.set (h : Does w fs fired out) (f : Fld) (v : Nat) (hf : f ∈ fs) : Does (w.set f v) fs fired out := by
  obtain ⟨k, q, t, d⟩ := h
  exact ⟨(keeps_set w f v fs hf).2 k, q, t, d⟩

theorem Does.ite {p : Prop} [Decidable p] {a b : Work s} (ha : p → Does a fs fired out) (hb : ¬p → Does b fs fired out) :
    Does (if p then a else b) fs fired out := by
  split
  next h => exact ha h
  next h => exact hb h

theorem Does.each {α : Type} (h : Does w fs fired out) (f : Work s → α → Work s) (l : List α)
    (hf : ∀ w' x, x ∈ l → Does w' fs fired out → Does (f w' x) fs fired out) : Does (w.each l f) fs fired out := by
  induction l generalizing w with
  | nil => exact h
  | cons x l ih => exact ih (hf _ _ List.mem_cons_self h) (fun w' y hy => hf w' y (List.mem_cons_of_mem _ hy))

/-- Network time is none of the registers. -/
abbrev OffNt (fs : List Fld) : Prop := ∀ g ∈ fs, NT_NOW.key ≠ g.key

theorem Does.fire (h : Does w fs fired out) (n : Nat) (hnt : OffNt fs) : Does (w.fire n) fs (fired ++ [s.firing n]) out := by
  obtain ⟨k, q, t, d⟩ := h
  refine ⟨k, q, t, ?_⟩
  rw [fire_dev, firing_eq w n t (k _ hnt), d]
  simp only [List.append_assoc]

theorem Does.emit (h : Does w fs fired out) (o : Out) : Does (w.emit o) fs fired (out ++ [o]) := by
  obtain ⟨k, q, t, d⟩ := h
  refine ⟨k, q, t, ?_⟩
  rw [show (w.emit o).dev = { w.dev with out := w.dev.out ++ [o] } from rfl, d]

/-- An EVT flag that the work has not touched yet rises (R355). -/
theorem Does.evt (h : Does w fs fired out) (n : Nat) (flag enable : Fld) (hf : flag ∈ fs) (hnt : OffNt fs)
    (flagKept : w.get flag = s.get flag) (enableKept : w.get enable = s.get enable) (apart : enable.key ≠ flag.key) :
    Does (laneEvt w n flag enable) fs (fired ++ evtFires s n flag enable) out := by
  have enabled : (w.set flag 1).on enable = decide (s.get enable ≠ 0) := by rw [on_eq, Work.get_set_ne _ _ _ _ apart, enableKept]
  simp only [laneEvt, evtFires, on_eq w, flagKept, enabled, decide_eq_true_eq]
  by_cases hflag : s.get flag = 0 <;> by_cases hen : s.get enable = 0
  · simpa [hflag, hen] using h.set flag 1 hf
  · simpa [hflag, hen] using (h.set flag 1 hf).fire (448 + n) hnt
  · simpa [hflag] using h
  · simpa [hflag] using h

theorem Does.mono (h : Does w fs fired out) {fs' : List Fld} (hf : fs ⊆ fs') : Does w fs' fired out := by
  obtain ⟨k, rest⟩ := h
  exact ⟨k.mono hf, rest⟩

theorem Does.frame (h : Does w fs fired out) (hs : s.wf = true) : Frame s w.finish fs := frame_finish hs h.1 h.2.1

theorem Does.dev (h : Does w fs fired out) : w.finish.dev = { s.view.dev with held := s.dev.held ++ fired, out := out } := h.2.2.2

theorem Does.held (h : Does w fs fired out) : w.finish.dev.held = s.dev.held ++ fired := congrArg Dev.held h.dev

theorem Does.plain (h : Does w fs [] out) (hs : s.wf = true) (fresh : w.fresh = s.fresh) : Plain s w.finish fs :=
  ⟨h.frame hs, by rw [h.dev, List.append_nil]; rfl, fresh⟩

end

/-! ## An EVT flag (R355) -/

theorem get_laneEvt (w : Work s) (n : Nat) (flag enable f : Fld) (hf : f.key ≠ flag.key) : (laneEvt w n flag enable).get f = w.get f := by
  rw [laneEvt]
  split
  · rfl
  · dsimp only
    split
    · rw [Work.get_fire, Work.get_set_ne _ _ _ _ hf]
    · rw [Work.get_set_ne _ _ _ _ hf]

theorem laneEvt_set (w : Work s) (n : Nat) (flag enable : Fld) (one : flag.width = 1) : (laneEvt w n flag enable).get flag ≠ 0 := by
  have set_ : (w.set flag 1).get flag ≠ 0 := by rw [Work.get_set_self, one]; decide
  rw [laneEvt]
  split
  next h => simpa [on_eq] using h
  next h =>
    dsimp only
    split
    · rwa [Work.get_fire]
    · exact set_

/-! ## The equaliser (R345) -/

theorem Does.equaliser {w : Work s} {fs : List Fld} {fired : List Firing} {out : List Out} (h : Does w fs fired out) (n c taps : Nat)
    (hf : equaliserFlds n ⊆ fs) : Does (setEqualiser w n c taps) fs fired out :=
  (h.set _ _ (hf List.mem_cons_self)).each _ _ (fun _ i hi h' => h'.set _ _ (hf (List.mem_cons_of_mem _ (List.mem_map.2 ⟨i, hi, rfl⟩))))

/-- Registers apart from one another that are set in turn hold their values. -/
theorem get_each_set {α : Type} (f : α → Fld) (v : α → Nat) (l : List α) (apart : l.Pairwise (fun a b => (f a).key ≠ (f b).key)) (w : Work s)
    (x : α) (hx : x ∈ l) : (w.each l (fun w a => w.set (f a) (v a))).get (f x) = v x % 2 ^ (f x).width := by
  induction l generalizing w with
  | nil => exact absurd hx List.not_mem_nil
  | cons a l ih =>
    obtain ⟨first, rest⟩ := List.pairwise_cons.1 apart
    by_cases later : x ∈ l
    · exact ih rest _ later
    · obtain rfl := (List.mem_cons.1 hx).resolve_right later
      have kept : Writes (fun g => ∃ b ∈ l, g = f b) (w.set (f x) (v x)) ((w.set (f x) (v x)).each l (fun w a => w.set (f a) (v a))) :=
        Writes.each (Writes.refl _) _ _ (fun w' b hb h => h.set _ _ ⟨b, hb, rfl⟩)
      refine (kept (f x) ?_).trans (Work.get_set_self _ _ _)
      rintro g ⟨b, hb, rfl⟩
      exact first b hb

theorem setEqualiser_writes (w : Work s) (n c taps : Nat) : Writes (· ∈ equaliserFlds n) w (setEqualiser w n c taps) :=
  Writes.each ((Writes.refl w).set _ _ List.mem_cons_self) _ _
    (fun _ i hi h => h.set _ _ (List.mem_cons_of_mem _ (List.mem_map.2 ⟨i, hi, rfl⟩)))

theorem taps_apart (n : Nat) : (List.range 8).Pairwise (fun i j => (LANE_DFE_TAP n (i / 4) (i % 4)).key ≠ (LANE_DFE_TAP n (j / 4) (j % 4)).key) :=
  List.Pairwise.imp_of_mem (R := (· ≠ ·)) (fun {i j} hi hj h => by
    have hi := List.mem_range.1 hi
    have hj := List.mem_range.1 hj
    simp only [Fld.key, LANE_DFE_TAP]
    omega) List.nodup_range

theorem ctle_off_taps (n : Nat) (g : Fld) (hg : g ∈ (List.range 8).map (fun i => LANE_DFE_TAP n (i / 4) (i % 4))) : (LANE_ADAPT_CTLE n).key ≠ g.key := by
  obtain ⟨i, hi, rfl⟩ := List.mem_map.1 hg
  have hi := List.mem_range.1 hi
  simp only [Fld.key, LANE_DFE_TAP, LANE_ADAPT_CTLE]
  omega

/-- The equaliser of a lane takes the values that adaptation has reached. -/
theorem setEqualiser_holds (w : Work s) (n c taps : Nat) (hc : c < 32) : (setEqualiser w n c taps).get (LANE_ADAPT_CTLE n) = c ∧
    ∀ i < 8, (setEqualiser w n c taps).get (LANE_DFE_TAP n (i / 4) (i % 4)) = bits taps (8 * i) 8 := by
  constructor
  · have kept : Writes (· ∈ (List.range 8).map (fun i => LANE_DFE_TAP n (i / 4) (i % 4))) (w.set (LANE_ADAPT_CTLE n) c) (setEqualiser w n c taps) :=
      Writes.each (Writes.refl _) _ _ (fun _ i hi h => h.set _ _ (List.mem_map.2 ⟨i, hi, rfl⟩))
    exact (kept _ (ctle_off_taps n)).trans ((Work.get_set_self _ _ _).trans (Nat.mod_eq_of_lt hc))
  · intro i hi
    refine (get_each_set _ _ _ (taps_apart n) _ i (List.mem_range.2 hi)).trans (Nat.mod_eq_of_lt ?_)
    exact Nat.mod_lt _ (by decide)

/-! ## Leaving UP (R345, R348, R350) -/

/-- The scan of a lane that leaves, ended as aborted if it ran. -/
def scanGone (w : Work s) (n : Nat) : Work s :=
  if w.on (LANE_SCAN_CFG_BUSY n) then scanEnd ((scanRuns w n).set (LANE_SCAN_CFG_ABORTED n) 1) n else w

theorem laneLeave_eq (w : Work s) (n : Nat) : laneLeave w n =
    (((((((scanGone (laneDrift w n) n).set (LANE_CHECK_OK n) 0).set (LANE_STATUS_READAPTING n) 0).set (LANE_STATUS_BLOCK_LOCK n) 0).set
      (LANE_STATUS_FROZEN n) 0).set (LANE_STATUS_LULL_RX n) 0).set (LANE_RELOCK n) 0).set (LANE_PRBS_LOCKED n) 0 := rfl

/-- The registers of a lane's scan. -/
def scanFlds (n : Nat) : List Fld :=
  [LANE_SCAN_CFG_BUSY n, LANE_SCAN_CFG_DONE n, LANE_SCAN_CFG_ABORTED n, LANE_SCAN_BITS n, LANE_SCAN_ERR n, LANE_EVT_SCAN_DONE n]

/-- The registers that leaving UP writes. -/
def leaveFlds (n : Nat) : List Fld :=
  equaliserFlds n ++ scanFlds n ++ [LANE_CHECK_OK n, LANE_STATUS_READAPTING n, LANE_STATUS_BLOCK_LOCK n, LANE_STATUS_FROZEN n, LANE_STATUS_LULL_RX n,
    LANE_RELOCK n, LANE_PRBS_LOCKED n]

theorem leaveFlds_bringUp (n : Nat) : leaveFlds n ⊆ bringUpFlds n := by
  simp [leaveFlds, scanFlds, bringUpFlds]

theorem scanFlds_leave (n : Nat) : scanFlds n ⊆ leaveFlds n := by
  simp [leaveFlds]

theorem equaliser_leave (n : Nat) : equaliserFlds n ⊆ leaveFlds n := by
  simp [leaveFlds]

theorem bringUp_offNt : ∀ n : Fin 32, OffNt (bringUpFlds n) := by decide +kernel

/-- What the scan needs is none of the equaliser's. -/
theorem equaliser_apart : ∀ n : Fin 32, ∀ f ∈ [LANE_SCAN_CFG_BUSY n, LANE_EVT_SCAN_DONE n, LANE_EVT_EN_SCAN_DONE n], ∀ g ∈ equaliserFlds n,
    f.key ≠ g.key := by decide +kernel

/-- The work with the values drawn that a drift takes. -/
def driftDrawn (w : Work s) : Work s := ((w.free 5).2.free 64).2

theorem laneDrift_eq (w : Work s) (n : Nat) : laneDrift w n =
    if laneState w n = LANE_UP ∧ !w.on (LANE_STATUS_FROZEN n) then setEqualiser (driftDrawn w) n (w.free 5).1 ((w.free 5).2.free 64).1 else w := rfl

theorem laneDrift_writes (w : Work s) (n : Nat) : Writes (· ∈ equaliserFlds n) w (laneDrift w n) := by
  rw [laneDrift_eq]
  split
  · exact fun f hf => setEqualiser_writes (driftDrawn w) n _ _ f hf
  · exact Writes.refl w

theorem Does.drift {w : Work s} {fs : List Fld} {fired : List Firing} {out : List Out} (h : Does w fs fired out) (n : Nat)
    (hf : equaliserFlds n ⊆ fs) : Does (laneDrift w n) fs fired out := by
  rw [laneDrift_eq]
  exact Does.ite (fun _ => Does.equaliser (w := driftDrawn w) h n _ _ hf) (fun _ => h)

/-- The counts of a scan as far as they have come. -/
def scanCounts (w : Work s) : Work s := ((w.free 32).2.free 32).2

theorem Does.runs {w : Work s} {fs : List Fld} {fired : List Firing} {out : List Out} (h : Does w fs fired out) (n : Nat)
    (hf : scanFlds n ⊆ fs) : Does (scanRuns w n) fs fired out := by
  rw [scanRuns]
  refine Does.ite (fun _ => ?_) (fun _ => h)
  exact ((show Does (scanCounts w) fs fired out from h).set _ _ (hf (by simp [scanFlds]))).set _ _ (hf (by simp [scanFlds]))

theorem scanRuns_writes (w : Work s) (n : Nat) : Writes (· ∈ [LANE_SCAN_BITS n, LANE_SCAN_ERR n]) w (scanRuns w n) := by
  rw [scanRuns]
  refine Writes.ite ?_ (Writes.refl w)
  exact Writes.set (Writes.set (w' := scanCounts w) (fun _ _ => rfl) _ _ (by simp)) _ _ (by simp)

/-- A scan as the state holds it: whether it runs, its flag, and whether that fires. -/
abbrev ScanKept (w : Work s) (n : Nat) : Prop :=
  ∀ f ∈ [LANE_SCAN_CFG_BUSY n, LANE_EVT_SCAN_DONE n, LANE_EVT_EN_SCAN_DONE n], w.get f = s.get f

/-- The registers that the end of a scan writes, apart from what it reads. -/
theorem scanEnd_apart : ∀ n : Fin 32,
    (∀ f ∈ [LANE_EVT_SCAN_DONE n, LANE_EVT_EN_SCAN_DONE n], ∀ g ∈ [LANE_SCAN_CFG_BUSY n, LANE_SCAN_CFG_DONE n, LANE_SCAN_CFG_ABORTED n,
      LANE_SCAN_BITS n, LANE_SCAN_ERR n], f.key ≠ g.key) ∧ (LANE_EVT_EN_SCAN_DONE n).key ≠ (LANE_EVT_SCAN_DONE n).key := by decide +kernel

theorem Does.scanEnd {w : Work s} {fs : List Fld} {fired : List Firing} {out : List Out} (h : Does w fs fired out) (n : Fin 32)
    (hf : scanFlds n ⊆ fs) (hnt : OffNt fs) (kept : w.get (LANE_EVT_SCAN_DONE n) = s.get (LANE_EVT_SCAN_DONE n) ∧
      w.get (LANE_EVT_EN_SCAN_DONE n) = s.get (LANE_EVT_EN_SCAN_DONE n)) :
    Does (scanEnd w n) fs (fired ++ evtFires s n (LANE_EVT_SCAN_DONE n) (LANE_EVT_EN_SCAN_DONE n)) out := by
  obtain ⟨apart, flags⟩ := scanEnd_apart n
  have set_ := (h.set (LANE_SCAN_CFG_BUSY n) 0 (hf (by simp [scanFlds]))).set (LANE_SCAN_CFG_DONE n) 1 (hf (by simp [scanFlds]))
  refine set_.evt n _ _ (hf (by simp [scanFlds])) hnt ?_ ?_ flags
  · rw [Work.get_set_ne _ _ _ _ (apart _ (by simp) _ (by simp)), Work.get_set_ne _ _ _ _ (apart _ (by simp) _ (by simp)), kept.1]
  · rw [Work.get_set_ne _ _ _ _ (apart _ (by simp) _ (by simp)), Work.get_set_ne _ _ _ _ (apart _ (by simp) _ (by simp)), kept.2]

theorem Does.scanGone {w : Work s} {fs : List Fld} {fired : List Firing} {out : List Out} (h : Does w fs fired out) (n : Fin 32)
    (hf : scanFlds n ⊆ fs) (hnt : OffNt fs) (kept : ScanKept w n) : Does (scanGone w n) fs (fired ++ scanFires s n) out := by
  simp only [ScanKept, List.mem_cons, List.not_mem_nil, or_false, forall_eq_or_imp, forall_eq] at kept
  obtain ⟨busy, flag, enable⟩ := kept
  obtain ⟨apart, -⟩ := scanEnd_apart n
  rw [LaneWorks.scanGone, scanFires, on_eq, busy]
  by_cases hb : s.get (LANE_SCAN_CFG_BUSY n) = 0
  · simpa [hb] using h
  · rw [if_neg hb, if_pos (by simpa using hb)]
    have counts := scanRuns_writes w n
    refine ((h.runs n hf).set _ _ (hf (by simp [scanFlds]))).scanEnd n hf hnt ⟨?_, ?_⟩
    · rw [Work.get_set_ne _ _ _ _ (apart _ (by simp) _ (by simp)), counts _ (fun g hg => apart _ (by simp) g (by simp at hg ⊢; tauto)), flag]
    · rw [Work.get_set_ne _ _ _ _ (apart _ (by simp) _ (by simp)), counts _ (fun g hg => apart _ (by simp) g (by simp at hg ⊢; tauto)), enable]

theorem Does.leave {w : Work s} {fs : List Fld} {fired : List Firing} {out : List Out} (h : Does w fs fired out) (n : Fin 32)
    (hf : leaveFlds n ⊆ fs) (hnt : OffNt fs) (kept : ScanKept w n) : Does (laneLeave w n) fs (fired ++ scanFires s n) out := by
  have drift := (h.drift n (List.Subset.trans (equaliser_leave n) hf)).scanGone n (List.Subset.trans (scanFlds_leave n) hf) hnt
    (fun f hm => (laneDrift_writes w n f (equaliser_apart n f hm)).trans (kept f hm))
  rw [laneLeave_eq]
  refine ((((((drift.set _ _ (hf ?_)).set _ _ (hf ?_)).set _ _ (hf ?_)).set _ _ (hf ?_)).set _ _ (hf ?_)).set _ _ (hf ?_)).set _ _ (hf ?_)
  all_goals simp [leaveFlds]

theorem scanGone_ends (w : Work s) (n : Fin 32) : (LaneWorks.scanGone w n).get (LANE_SCAN_CFG_BUSY n) = 0 ∧
    (w.get (LANE_SCAN_CFG_BUSY n) ≠ 0 → (LaneWorks.scanGone w n).get (LANE_SCAN_CFG_ABORTED n) = 1 ∧
      (LaneWorks.scanGone w n).get (LANE_SCAN_CFG_DONE n) = 1) := by
  rw [LaneWorks.scanGone, on_eq]
  by_cases hb : w.get (LANE_SCAN_CFG_BUSY n) = 0
  · simp [hb]
  · rw [if_pos (by simpa using hb), Machine.scanEnd]
    simp (disch := (simp only [Fld.key, LANE_EVT_SCAN_DONE, LANE_SCAN_CFG_BUSY, LANE_SCAN_CFG_DONE, LANE_SCAN_CFG_ABORTED]; omega)) only
      [get_laneEvt, Work.get_set_self, Work.get_set_ne]
    exact ⟨rfl, fun _ => ⟨rfl, rfl⟩⟩

/-- What a lane that has left shows (R340, R348, R350). -/
theorem laneLeave_left (w : Work s) (n : Fin 32) : (laneLeave w n).get (LANE_STATUS_BLOCK_LOCK n) = 0 ∧ (laneLeave w n).get (LANE_CHECK_OK n) = 0 ∧
    (laneLeave w n).get (LANE_SCAN_CFG_BUSY n) = 0 ∧ (w.get (LANE_SCAN_CFG_BUSY n) ≠ 0 →
      (laneLeave w n).get (LANE_SCAN_CFG_ABORTED n) = 1 ∧ (laneLeave w n).get (LANE_SCAN_CFG_DONE n) = 1) := by
  obtain ⟨busy, shows⟩ := scanGone_ends (laneDrift w n) n
  rw [laneDrift_writes w n _ (equaliser_apart n _ (by simp))] at shows
  rw [laneLeave_eq]
  simp (disch := (simp only [Fld.key, hid, hidDev, LANE_CHECK_OK, LANE_STATUS_READAPTING, LANE_STATUS_BLOCK_LOCK, LANE_STATUS_FROZEN,
    LANE_STATUS_LULL_RX, LANE_RELOCK, LANE_PRBS_LOCKED, LANE_SCAN_CFG_BUSY, LANE_SCAN_CFG_DONE, LANE_SCAN_CFG_ABORTED]; omega)) only
    [Work.get_set_self, Work.get_set_ne]
  exact ⟨rfl, rfl, busy, shows⟩

end Sys2Proof.LaneWorks
end

section
/-! PROOFS. What a lane that goes down or comes up tells its link, and adaptation and measurement of a lane (R343, R346 to R351). -/

namespace Sys2Proof.LaneQualityProofs

open Sys2Proof.Machine Sys2Proof.Effects Sys2Proof.LaneFacts Sys2Proof.RejectFacts Sys2Proof.LaneWorks

-- A kernel evaluation waits for every declaration before it: one at a time keeps the threads that wait, and their stacks, few.
set_option Elab.async false

variable {s : State}

/-! ## The link of a lane -/

/-- The registers of the links. -/
def LinkFld (g : Fld) : Prop := 0x200000 ≤ g.addr ∧ g.addr < 0x200800 ∧ g.lo < 32

theorem key_ne_linkFld (f : Fld) (hlo : f.lo < 32) (h : f.addr < 0x200000 ∨ 0x200800 ≤ f.addr) (g : Fld) (hg : LinkFld g) : f.key ≠ g.key := by
  obtain ⟨lower, upper, lo⟩ := hg
  simp only [Fld.key]
  omega

section

variable {K : Fld → Prop} {w w' : Work s}

theorem sendCopies_writes (h : Writes K w w') (l p : Nat) : Writes K w (sendCopies w' l p) := by
  obtain ⟨-, eq⟩ | ⟨-, get, -⟩ := sendCopies_cases w' l p
  · rw [eq]
    exact h.of_get (fun _ => rfl)
  · exact h.of_get get

theorem sendLinkctl_writes (h : Writes K w w') (l op set : Nat) : Writes K w (sendLinkctl w' l op set) :=
  (sendCopies_writes h l _).of_get (fun _ => rfl)

theorem sendTrain_writes (h : Writes K w w') (l : Nat) (propose : Bool) : Writes K w (sendTrain w' l propose) :=
  h.of_get (interval_onlyOut _ _ _).1

variable {l : Nat} (hl : l < 32)
include hl

theorem linkFlds_in : LinkFld (LINK_COUNT1_C0_UNSENT l) ∧ LinkFld (LINK_STATUS_FAILED l) ∧ LinkFld (LINK_STATUS_SET l) ∧ LinkFld (LINK_STATUS_STATE l) ∧
    LinkFld (LINK_EVT_DOWN l) ∧ LinkFld (LINK_COUNT0_MSG_DROP l) := by
  simp only [LinkFld, LINK_COUNT1_C0_UNSENT, LINK_STATUS_FAILED, LINK_STATUS_SET, LINK_STATUS_STATE, LINK_EVT_DOWN, LINK_COUNT0_MSG_DROP]
  omega

theorem linkTrain_writes (h : Writes LinkFld w w') : Writes LinkFld w (linkTrain w' l) := by
  obtain ⟨unsent, failed, set_, state, -, -⟩ := linkFlds_in hl
  have shown := ((((h.set _ (satAdd (2 ^ (LINK_COUNT1_C0_UNSENT l).width - 1) (w'.get (LINK_COUNT1_C0_UNSENT l)) _) unsent).of_get
    (w'' := (w'.add (LINK_COUNT1_C0_UNSENT l) ((w'.link l).held.flatMap c0Tokens).length).updLink l
      (fun k => { LinkSt.reset with waking := k.waking })) (fun _ => rfl)).set _ 0 failed).set _ 0 set_)
  exact Writes.ite (sendTrain_writes (shown.set _ _ state) l false) (shown.set _ _ state)

theorem linkDown_writes (h : Writes LinkFld w w') : Writes LinkFld w (linkDown w' l) := by
  obtain ⟨-, -, -, -, down, drop⟩ := linkFlds_in hl
  refine Writes.ite (linkTrain_writes hl (Writes.fire ?_ 506)) (linkTrain_writes hl h)
  exact ((h.set _ 1 down).set _ _ drop).of_get (fun _ => rfl)

theorem markFailed_writes (h : Writes LinkFld w w') (i : Nat) : Writes LinkFld w (markFailed w' l i) := by
  obtain ⟨-, failed, -, -, -, -⟩ := linkFlds_in hl
  have shown : Writes LinkFld w (showFailed (w'.updLink l (fun k => { k with own := (w'.link l).own ||| 2 ^ i })) l) :=
    Writes.set (w' := w'.updLink l (fun k => { k with own := (w'.link l).own ||| 2 ^ i })) (h.of_get (fun _ => rfl)) _ _ failed
  rw [markFailed]
  refine Writes.ite h ?_
  dsimp only
  split
  · exact linkDown_writes hl shown
  · exact Writes.ite (sendLinkctl_writes (sendLinkctl_writes shown _ _ _) _ _ _)
      ((sendLinkctl_writes (sendLinkctl_writes shown _ _ _) _ _ _).of_get (fun _ => rfl))

end

theorem linkOf_lt {w : Work s} {n l i : Nat} (h : linkOf w n = some (l, i)) : l < 32 := by
  obtain ⟨m, found, eq⟩ := Option.map_eq_some_iff.1 h
  cases eq
  exact List.mem_range.1 (List.mem_of_find?_eq_some found)

theorem linkLaneDown_writes (w : Work s) (n : Nat) : Writes LinkFld w (linkLaneDown w n) := by
  rw [linkLaneDown]
  split
  next => exact Writes.refl w
  next l i found => exact Writes.ite (markFailed_writes (linkOf_lt found) (Writes.refl w) i) (linkTrain_writes (linkOf_lt found) (Writes.refl w))

/-- The registers that tell which lanes a link has. -/
def LinkCfg (f : Fld) : Prop := ∃ l < 32, f ∈ [LINK_CFG_EN l, LINK_CFG_BASE l, LINK_CFG_WIDTH l]

theorem linkOf_none {w : Work s} {n : Nat} (h : linkOf s.view n = none) (kept : ∀ f, LinkCfg f → w.get f = s.get f) : linkOf w n = none := by
  simp only [linkOf, Option.map_eq_none_iff, List.find?_eq_none, List.mem_range] at h ⊢
  intro l hl
  have same : ∀ f ∈ [LINK_CFG_EN l, LINK_CFG_BASE l, LINK_CFG_WIDTH l], w.get f = s.get f := fun f hf => kept f ⟨l, hl, hf⟩
  simp only [List.mem_cons, List.not_mem_nil, or_false, forall_eq_or_imp, forall_eq] at same
  obtain ⟨en, base, width⟩ := same
  have now := h l hl
  rw [Work.on, linkLanes, linkWidth, en, base, width]
  exact now

/-- The registers of the lanes, and the hidden ones of the device. -/
abbrev OfLanes (g : Fld) : Prop := g.lo < 32 ∧ (0x100000 ≤ g.addr ∧ g.addr < 0x200000 ∨ 2 ^ 40 ≤ g.addr)

theorem linkOf_none_of_keeps {w : Work s} {fs : List Fld} {n : Nat} (h : linkOf s.view n = none) (kept : Keeps w fs)
    (lanes : ∀ g ∈ fs, OfLanes g) : linkOf w n = none := by
  refine linkOf_none h (fun f ⟨l, hl, hf⟩ => kept f (fun g hg => ?_))
  obtain ⟨lo, addr⟩ := lanes g hg
  simp only [List.mem_cons, List.not_mem_nil, or_false] at hf
  obtain rfl | rfl | rfl := hf <;>
    · simp only [Fld.key, LINK_CFG_EN, LINK_CFG_BASE, LINK_CFG_WIDTH]
      omega

/-! ## A lane that goes down (R343, R350) -/

/-- The registers that a lane in UP which goes down writes, before its flag rises. -/
def downFlds (n : Nat) : List Fld := bringUpFlds n ++ [LANE_KEPT n, LANE_PCS_ERR_DOWNS n]

theorem down_apart : ∀ n : Fin 32, (∀ f ∈ [LANE_EVT_DOWN n, LANE_EVT_EN_DOWN n], ∀ g ∈ downFlds n, f.key ≠ g.key) ∧
    (LANE_EVT_EN_DOWN n).key ≠ (LANE_EVT_DOWN n).key ∧ OffNt (downFlds n ++ [LANE_EVT_DOWN n]) ∧ (∀ g ∈ downFlds n ++ [LANE_EVT_DOWN n], OfLanes g) ∧
    ∀ g ∈ bringUpFlds n ++ [LANE_KEPT n], (LANE_PCS_ERR_DOWNS n).key ≠ g.key := by decide +kernel

/-- A lane that goes down, before it is flagged. -/
def wentDown (w : Work s) (n : Nat) (hiBer : Bool) : Work s :=
  (((((((laneLeave w n).set (LANE_SIG n) 0).set (LANE_FLIPS n) 0).set (LANE_KEPT n) 1).setB (LANE_STATUS_HIBER n) hiBer).set (LANE_STATUS_STATE n)
    LANE_SIGNAL)).inc (LANE_PCS_ERR_DOWNS n)

theorem goDown_eq (w : Work s) (n : Nat) (hiBer : Bool) :
    goDown w n hiBer = linkLaneDown (laneEvt (wentDown w n hiBer) n (LANE_EVT_DOWN n) (LANE_EVT_EN_DOWN n)) n := rfl

theorem wentDown_does (n : Fin 32) (hiBer : Bool) : Does (wentDown (Work.start s) n hiBer) (downFlds n) ([] ++ scanFires s n) [] := by
  obtain ⟨-, -, offNt, -, -⟩ := down_apart n
  have left := (Does.start (s := s) (downFlds n)).leave n (List.Subset.trans (leaveFlds_bringUp n) (List.subset_append_left _ _)) (fun g hg => offNt g (List.mem_append_left _ hg)) (fun _ _ => rfl)
  refine (((((left.set _ _ ?_).set _ _ ?_).set _ _ ?_).set _ _ ?_).set _ _ ?_).set _ _ ?_
  all_goals simp [downFlds, bringUpFlds]

theorem wentDown_shows (n : Fin 32) (hiBer : Bool) :
    (wentDown (Work.start s) n hiBer).get (LANE_STATUS_STATE n) = LANE_SIGNAL ∧ (wentDown (Work.start s) n hiBer).get (LANE_STATUS_HIBER n) = b2n hiBer ∧
    (wentDown (Work.start s) n hiBer).get (LANE_KEPT n) = 1 ∧ (∀ f ∈ [LANE_STATUS_BLOCK_LOCK n, LANE_CHECK_OK n, LANE_SCAN_CFG_BUSY n,
      LANE_SCAN_CFG_ABORTED n, LANE_SCAN_CFG_DONE n], (wentDown (Work.start s) n hiBer).get f = (laneLeave (Work.start s) n).get f) := by
  simp only [List.mem_cons, List.not_mem_nil, or_false, forall_eq_or_imp, forall_eq, wentDown, Work.inc, Work.add, Work.setB]
  simp (disch := (simp only [Fld.key, hid, hidDev, LANE_CHECK_OK, LANE_STATUS_BLOCK_LOCK, LANE_SIG, LANE_FLIPS, LANE_STATUS_HIBER, LANE_STATUS_STATE,
    LANE_PCS_ERR_DOWNS, LANE_KEPT, LANE_SCAN_CFG_BUSY, LANE_SCAN_CFG_DONE, LANE_SCAN_CFG_ABORTED]; omega)) only
    [Work.get_set_self, Work.get_set_ne]
  cases hiBer <;> exact ⟨rfl, rfl, rfl, trivial, trivial, trivial, trivial, trivial⟩

theorem wentDown_counts (n : Fin 32) (hiBer : Bool) : (wentDown (Work.start s) n hiBer).get (LANE_PCS_ERR_DOWNS n) =
    min (2 ^ (LANE_PCS_ERR_DOWNS n).width - 1) (s.get (LANE_PCS_ERR_DOWNS n) + 1) := by
  obtain ⟨-, -, offNt, -, apart⟩ := down_apart n
  have left := (Does.start (s := s) (bringUpFlds n ++ [LANE_KEPT n])).leave n (List.Subset.trans (leaveFlds_bringUp n) (List.subset_append_left _ _)) (fun g hg => offNt g (by
    simp only [downFlds, List.mem_append, List.mem_cons, List.not_mem_nil, or_false] at hg ⊢; tauto)) (fun _ _ => rfl)
  have set_ : Does (((((((laneLeave (Work.start s) n).set (LANE_SIG n) 0).set (LANE_FLIPS n) 0).set (LANE_KEPT n) 1).setB (LANE_STATUS_HIBER n) hiBer).set
      (LANE_STATUS_STATE n) LANE_SIGNAL)) (bringUpFlds n ++ [LANE_KEPT n]) ([] ++ scanFires s n) [] := by
    refine ((((left.set _ _ ?_).set _ _ ?_).set _ _ ?_).set _ _ ?_).set _ _ ?_
    all_goals simp [bringUpFlds]
  obtain ⟨keeps, -⟩ := set_
  rw [wentDown, get_inc, keeps _ apart]

/-- What is told of a lane that went down. -/
def toldFlds (n : Nat) : List Fld := [LANE_STATUS_STATE n, LANE_STATUS_HIBER n, LANE_KEPT n, LANE_PCS_ERR_DOWNS n, LANE_STATUS_BLOCK_LOCK n,
  LANE_CHECK_OK n, LANE_SCAN_CFG_BUSY n, LANE_SCAN_CFG_ABORTED n, LANE_SCAN_CFG_DONE n]

theorem told_apart : ∀ n : Fin 32, (∀ f ∈ toldFlds n, f.key ≠ (LANE_EVT_DOWN n).key) ∧
    ∀ f ∈ LANE_EVT_DOWN n :: toldFlds n, f.lo < 32 ∧ (f.addr < 0x200000 ∨ 0x200800 ≤ f.addr) := by decide +kernel

/-- R343: the lane goes back to SIGNAL, as Clause.LaneAdaptation says. -/
theorem laneDown_of_up (hs : s.wf = true) (n : Fin 32) (up : s.get (LANE_STATUS_STATE n) = LANE_UP) (hiBer : Bool) :
    Answers (.laneDown n hiBer) s (fun t => t.get (LANE_STATUS_STATE n) = LANE_SIGNAL ∧
      t.get (LANE_STATUS_HIBER n) = b2n hiBer ∧ Left s t n ∧ t.get (LANE_EVT_DOWN n) ≠ 0 ∧
      Counted s t (LANE_PCS_ERR_DOWNS n) ∧ t.get (LANE_KEPT n) = 1 ∧
      (linkOf s.view n = none → t.dev.held = s.dev.held ++ scanFires s n ++ evtFires s n (LANE_EVT_DOWN n) (LANE_EVT_EN_DOWN n) ∧
        Frame s t (bringUpFlds n ++ [LANE_KEPT n, LANE_PCS_ERR_DOWNS n, LANE_EVT_DOWN n]))) := by
  obtain ⟨apart, flags, offNt, lanes, -⟩ := down_apart n
  obtain ⟨state, hiber, kept, left⟩ := wentDown_shows (s := s) n hiBer
  obtain ⟨lock, check, busy, aborted⟩ := laneLeave_left (Work.start s) n
  have down := wentDown_does (s := s) n hiBer
  have counts := wentDown_counts (s := s) n hiBer
  refine answers_of (F := fun w => laneTrouble w n hiBer) rfl ((if_pos up).trans (goDown_eq _ _ _)) ?_
  generalize wentDown (Work.start s) n hiBer = d at *
  obtain ⟨toldApart, toldLanes⟩ := told_apart n
  have flagged := (down.mono (fs' := downFlds n ++ [LANE_EVT_DOWN n]) (List.subset_append_left _ _)).evt n (LANE_EVT_DOWN n) (LANE_EVT_EN_DOWN n) (by simp) offNt
    (down.1 _ (apart _ (by simp))) (down.1 _ (apart _ (by simp))) flags
  have rises := laneEvt_set d n (LANE_EVT_DOWN n) (LANE_EVT_EN_DOWN n) rfl
  have told : ∀ f ∈ toldFlds n, (laneEvt d n (LANE_EVT_DOWN n) (LANE_EVT_EN_DOWN n)).get f = d.get f :=
    fun f hf => get_laneEvt _ _ _ _ _ (toldApart f hf)
  generalize laneEvt d n (LANE_EVT_DOWN n) (LANE_EVT_EN_DOWN n) = e at *
  have link : ∀ f ∈ LANE_EVT_DOWN n :: toldFlds n, (linkLaneDown e n).finish.get f = e.get f := fun f hf => by
    obtain ⟨lo, addr⟩ := toldLanes f hf
    rw [Work.finish_get _ _ hs, linkLaneDown_writes _ _ _ (key_ne_linkFld f lo addr)]
  simp only [toldFlds, List.mem_cons, List.not_mem_nil, or_false, forall_eq_or_imp, forall_eq] at told link left
  obtain ⟨tstate, thiber, tkept, tcount, tlock, tcheck, tbusy, taborted, tdone⟩ := told
  obtain ⟨lflag, lstate, lhiber, lkept, lcount, llock, lcheck, lbusy, laborted, ldone⟩ := link
  obtain ⟨dlock, dcheck, dbusy, daborted, ddone⟩ := left
  refine ⟨by rw [lstate, tstate, state], by rw [lhiber, thiber, hiber], ⟨by rw [llock, tlock, dlock, lock], by rw [lcheck, tcheck, dcheck, check],
    by rw [lbusy, tbusy, dbusy, busy], fun ran => ?_⟩, by rwa [lflag], by rw [Counted, lcount, tcount, counts], by rw [lkept, tkept, kept], fun alone => ?_⟩
  · obtain ⟨ab, dn⟩ := aborted ran
    exact ⟨by rw [laborted, taborted, daborted, ab], by rw [ldone, tdone, ddone, dn]⟩
  · have none_ : linkLaneDown e n = e := by rw [linkLaneDown, linkOf_none_of_keeps alone flagged.1 lanes]
    rw [none_]
    refine ⟨by rw [flagged.held, List.nil_append, List.append_assoc], ?_⟩
    simpa [downFlds] using flagged.frame hs

/-! ## The steps of adaptation and measurement that change nothing elsewhere (R346 to R351) -/

theorem equaliserAt_finish (hs : s.wf = true) {w : Work s} {n c taps : Nat} (hc : c < 32)
    (h : ∀ f ∈ equaliserFlds n, w.get f = (setEqualiser (Work.start s) n c taps).get f) : EqualiserAt w.finish n c taps := by
  obtain ⟨ctle, tap⟩ := setEqualiser_holds (Work.start s) n c taps hc
  refine ⟨?_, fun i hi => ?_⟩
  · rw [Work.finish_get _ _ hs, h _ List.mem_cons_self, ctle]
  · rw [Work.finish_get _ _ hs, h _ (List.mem_cons_of_mem _ (List.mem_map.2 ⟨i, List.mem_range.2 hi, rfl⟩)), tap i hi]

/-- The equaliser is none of the other registers of adaptation. -/
theorem equaliser_off : ∀ n : Fin 32, ∀ f ∈ equaliserFlds n, ∀ g ∈ [LANE_KEPT n, LANE_ADAPT_READAPTS n, LANE_STATUS_READAPTING n, LANE_STATUS_FROZEN n,
    LANE_STATUS_STATE n, LANE_EVT_UP n, LANE_STATUS_BLOCK_LOCK n, LANE_STATUS_HIBER n], f.key ≠ g.key := by decide +kernel

theorem adaptFreeze_answers (hs : s.wf = true) (n : Fin 32) (up : s.get (LANE_STATUS_STATE n) = LANE_UP) (steady : s.get (LANE_STATUS_READAPTING n) = 0) :
    Answers (.adaptFreeze n) s (fun t => t.get (LANE_STATUS_FROZEN n) = 1 ∧ t.dev = s.view.dev ∧ Frame s t (LANE_STATUS_FROZEN n :: equaliserFlds n)) := by
  have does := ((Does.start (s := s) (LANE_STATUS_FROZEN n :: equaliserFlds n)).drift n (List.subset_cons_self _ _)).set (LANE_STATUS_FROZEN n) 1 List.mem_cons_self
  refine answers_of (F := fun w => if laneState w n = LANE_UP ∧ !w.on (LANE_STATUS_READAPTING n) then
    (laneDrift w n).set (LANE_STATUS_FROZEN n) 1 else w) rfl (if_pos ⟨up, by simpa [on_eq] using steady⟩)
    ⟨?_, ?_, does.frame hs⟩
  · rw [Work.finish_get _ _ hs, Work.get_set_self]; rfl
  · rw [does.dev, List.append_nil]; rfl

theorem adaptResume_answers (hs : s.wf = true) (n : Fin 32) (up : s.get (LANE_STATUS_STATE n) = LANE_UP) :
    Answers (.adaptResume n) s (fun t => t.get (LANE_STATUS_FROZEN n) = 0 ∧ Plain s t [LANE_STATUS_FROZEN n]) := by
  refine answers_of (F := fun w => if laneState w n = LANE_UP then w.set (LANE_STATUS_FROZEN n) 0 else w) rfl (if_pos up) ⟨?_, ?_⟩
  · rw [Work.finish_get _ _ hs, Work.get_set_self]; rfl
  · exact ((Does.start _).set _ _ (by simp)).plain hs rfl

theorem readapt_answers (hs : s.wf = true) (n : Fin 32) (up : s.get (LANE_STATUS_STATE n) = LANE_UP) (via : Via) (out : s.get (LANE_CTRL_LOOP n) = 0) :
    Answers (.readapt via n) s (fun t => t.get (LANE_STATUS_READAPTING n) = 1 ∧ t.get (LANE_STATUS_FROZEN n) = 0 ∧
      Plain s t [LANE_CTRL_LOOP n, LANE_STATUS_READAPTING n, LANE_STATUS_FROZEN n]) := by
  have written : laneCtrlWrite (Work.start s) (viaPath via) n (2 + 4 * (Work.start s).get (LANE_CTRL_LOOP n)) =
      (((Work.start s).set (LANE_CTRL_LOOP n) 0).set (LANE_STATUS_READAPTING n) 1).set (LANE_STATUS_FROZEN n) 0 := by
    have state : laneState ((Work.start s).set (LANE_CTRL_LOOP n) 0) n = LANE_UP := by
      rw [laneState, Work.get_set_ne _ _ _ _ (by simp only [Fld.key, LANE_STATUS_STATE, LANE_CTRL_LOOP]; omega)]; exact up
    have none_ : (Work.start s).get (LANE_CTRL_LOOP n) = 0 := out
    rw [none_, laneCtrlWrite, if_neg (by simp [bits])]
    simp only [none_, bits, bit]
    simp [readapt, state]
  refine answers_of (F := fun w => laneCtrlWrite w (viaPath via) n (2 + 4 * w.get (LANE_CTRL_LOOP n))) rfl written ⟨?_, ?_, ?_⟩
  · rw [Work.finish_get _ _ hs, Work.get_set_ne _ _ _ _ (by simp [Fld.key, LANE_STATUS_READAPTING, LANE_STATUS_FROZEN]), Work.get_set_self]; rfl
  · rw [Work.finish_get _ _ hs, Work.get_set_self]; rfl
  · exact ((((Does.start _).set _ _ (by simp)).set _ _ (by simp)).set _ _ (by simp)).plain hs rfl

theorem laneDown_of_adapt (hs : s.wf = true) (n : Fin 32) (hiBer : Bool)
    (h : s.get (LANE_STATUS_STATE n) = LANE_ADAPT ∨ s.get (LANE_STATUS_STATE n) = LANE_LOOP) :
    Answers (.laneDown n hiBer) s (fun t => t.get (LANE_CHECK_OK n) = 0 ∧
      (if hiBer then t.get (LANE_STATUS_HIBER n) = 1 else t.get (LANE_STATUS_BLOCK_LOCK n) = 0) ∧
      Plain s t [LANE_CHECK_OK n, if hiBer then LANE_STATUS_HIBER n else LANE_STATUS_BLOCK_LOCK n]) := by
  have notUp : laneState (Work.start s) n ≠ LANE_UP := by
    rw [show laneState (Work.start s) n = s.get (LANE_STATUS_STATE n) from rfl]
    obtain h | h := h <;> rw [h] <;> decide
  refine answers_of (F := fun w => laneTrouble w n hiBer) rfl ((if_neg notUp).trans (if_pos h)) ?_
  cases hiBer
  case false =>
    refine ⟨?_, ?_, (((Does.start _).set _ _ (by simp)).set _ _ (by simp)).plain hs rfl⟩
    · rw [Work.finish_get _ _ hs, Work.get_set_self]; rfl
    · show _ = 0
      rw [Work.finish_get _ _ hs, Work.get_set_ne _ _ _ _ (by simp only [Fld.key, hid, hidDev, LANE_CHECK_OK, LANE_STATUS_BLOCK_LOCK]; omega)]
      exact Work.get_set_self _ _ _
  case true =>
    refine ⟨?_, ?_, (((Does.start _).set _ _ (by simp)).set _ _ (by simp)).plain hs rfl⟩
    · rw [Work.finish_get _ _ hs, Work.get_set_self]; rfl
    · show _ = 1
      rw [Work.finish_get _ _ hs, Work.get_set_ne _ _ _ _ (by simp only [Fld.key, hid, hidDev, LANE_CHECK_OK, LANE_STATUS_HIBER]; omega)]
      exact Work.get_set_self _ _ _

theorem adaptRestartTimeout_answers (hs : s.wf = true) (n : Fin 32) (kept : s.get (LANE_KEPT n) ≠ 0) :
    Answers (.adaptRestartTimeout n) s (fun t => EqualiserAt t n 0 0 ∧ t.get (LANE_KEPT n) = 0 ∧ Plain s t (LANE_KEPT n :: equaliserFlds n)) := by
  have does := ((Does.start (s := s) (LANE_KEPT n :: equaliserFlds n)).equaliser n 0 0 (List.subset_cons_self _ _)).set (LANE_KEPT n) 0 List.mem_cons_self
  refine answers_of (F := fun w => if w.on (LANE_KEPT n) then (setEqualiser w n 0 0).set (LANE_KEPT n) 0 else w) rfl (if_pos (by simpa [on_eq] using kept))
    ⟨equaliserAt_finish hs (by decide) (fun f hf => Work.get_set_ne _ _ _ _ (equaliser_off n f hf _ (by simp))), ?_, does.plain hs ?_⟩
  · rw [Work.finish_get _ _ hs, Work.get_set_self]; rfl
  · rfl

theorem readaptEnd_answers (hs : s.wf = true) (n : Fin 32) (ctle : Fin 32) (taps : BitVec 64) (idle : Bool)
    (runs : s.get (LANE_STATUS_READAPTING n) ≠ 0) (up : s.get (LANE_STATUS_STATE n) = LANE_UP) :
    Answers (.readaptEnd n ctle taps idle) s (fun t => EqualiserAt t n ctle taps.toNat ∧
      Counted s t (LANE_ADAPT_READAPTS n) ∧ t.get (LANE_STATUS_READAPTING n) = 0 ∧ t.get (LANE_STATUS_FROZEN n) = b2n idle ∧
      Plain s t (equaliserFlds n ++ [LANE_ADAPT_READAPTS n, LANE_STATUS_READAPTING n, LANE_STATUS_FROZEN n])) := by
  have apart := equaliser_off n
  have does := ((((Does.start (s := s) (equaliserFlds n ++ [LANE_ADAPT_READAPTS n, LANE_STATUS_READAPTING n, LANE_STATUS_FROZEN n])).equaliser n ctle taps.toNat
    (List.subset_append_left _ _)).set (LANE_ADAPT_READAPTS n) (satAdd (2 ^ (LANE_ADAPT_READAPTS n).width - 1)
      ((setEqualiser (Work.start s) n ctle taps.toNat).get (LANE_ADAPT_READAPTS n)) 1) (by simp)).set (LANE_STATUS_READAPTING n) 0 (by simp)).set (LANE_STATUS_FROZEN n) (b2n idle) (by simp)
  refine answers_of (F := fun w => if w.on (LANE_STATUS_READAPTING n) ∧ laneState w n = LANE_UP then
      (((setEqualiser w n ctle taps.toNat).inc (LANE_ADAPT_READAPTS n)).set (LANE_STATUS_READAPTING n) 0).setB (LANE_STATUS_FROZEN n) idle
    else w) rfl (if_pos ⟨by simpa [on_eq] using runs, up⟩) ⟨equaliserAt_finish hs ctle.isLt ?_, ?_, ?_, ?_, does.plain hs rfl⟩
  · intro f hf
    rw [Work.setB, Work.get_set_ne _ _ _ _ (apart f hf _ (by simp)), Work.get_set_ne _ _ _ _ (apart f hf _ (by simp)), Work.inc, Work.add,
      Work.get_set_ne _ _ _ _ (apart f hf _ (by simp))]
  · have off : ∀ g ∈ equaliserFlds n, (LANE_ADAPT_READAPTS n).key ≠ g.key := fun g hg => (apart g hg _ (by simp)).symm
    rw [Counted, Work.finish_get _ _ hs, Work.setB, Work.get_set_ne _ _ _ _ (by simp only [Fld.key, LANE_ADAPT_READAPTS, LANE_STATUS_FROZEN]; omega),
      Work.get_set_ne _ _ _ _ (by simp only [Fld.key, LANE_ADAPT_READAPTS, LANE_STATUS_READAPTING]; omega), get_inc, setEqualiser_writes _ _ _ _ _ off]
    rfl
  · rw [Work.finish_get _ _ hs, Work.setB, Work.get_set_ne _ _ _ _ (by simp [Fld.key, LANE_STATUS_READAPTING, LANE_STATUS_FROZEN]), Work.get_set_self]; rfl
  · rw [Work.finish_get _ _ hs, Work.setB, Work.get_set_self]
    cases idle <;> rfl

theorem laneAdaptation : Clause.LaneAdaptation := fun _ hs n =>
  ⟨fun up => ⟨laneDown_of_up hs n up, adaptFreeze_answers hs n up, adaptResume_answers hs n up, readapt_answers hs n up⟩,
    fun hiBer h => laneDown_of_adapt hs n hiBer h, adaptRestartTimeout_answers hs n, readaptEnd_answers hs n⟩

/-! ## Eye monitor, scans and checks (R347 to R351) -/

/-- A margin as the eye monitor shows it. -/
def eyeShown (w : Work s) (n margin : Nat) : Work s :=
  (w.set (LANE_EYE_LAST n) margin).set (LANE_EYE_MIN n) (min margin (w.get (LANE_EYE_MIN n)))

theorem eyeShown_does (n margin : Nat) : Does (eyeShown (Work.start s) n margin) [LANE_EYE_LAST n, LANE_EYE_MIN n] [] [] :=
  ((Does.start _).set _ _ (by simp)).set _ _ (by simp)

theorem eyeShown_last (n : Fin 32) (margin : BitVec 8) : (eyeShown (Work.start s) n margin.toNat).get (LANE_EYE_LAST n) = margin.toNat := by
  rw [eyeShown, Work.get_set_ne _ _ _ _ (by simp [Fld.key, LANE_EYE_LAST, LANE_EYE_MIN]), Work.get_set_self]
  exact Nat.mod_eq_of_lt margin.isLt

theorem eyeShown_least (n : Fin 32) (margin : Nat) : (eyeShown (Work.start s) n margin).get (LANE_EYE_MIN n) =
    min margin (s.get (LANE_EYE_MIN n)) % 2 ^ (LANE_EYE_MIN n).width := by
  rw [eyeShown, Work.get_set_self, Work.get_start]

/-- What the eye monitor reads and writes beside the two margins. -/
def lowFlds (n : Nat) : List Fld := [LANE_EYE_LAST n, LANE_EYE_MIN n, LANE_EVT_EYE_LOW n, LANE_EYE_BELOW n, LANE_STATUS_READAPTING n, LANE_STATUS_FROZEN n]

theorem eye_apart : ∀ n : Fin 32, (∀ f ∈ [LANE_EVT_EYE_LOW n, LANE_EVT_EN_EYE_LOW n, LANE_EYE_BELOW n, LANE_STATUS_STATE n, LANE_EYE_CFG_THR n],
    ∀ g ∈ [LANE_EYE_LAST n, LANE_EYE_MIN n], f.key ≠ g.key) ∧ OffNt (lowFlds n) := by decide +kernel

theorem eyeMonitor_quiet (hs : s.wf = true) (n : Fin 32) (margin : BitVec 8) (mon : s.get (LANE_EYE_CFG_MON_EN n) ≠ 0)
    (up : s.get (LANE_STATUS_STATE n) = LANE_UP) (wide : s.get (LANE_EYE_CFG_THR n) ≤ margin.toNat) :
    Answers (.eyeMonitor n margin) s (fun t => t.get (LANE_EYE_LAST n) = margin.toNat ∧
      t.get (LANE_EYE_MIN n) = min margin.toNat (s.get (LANE_EYE_MIN n)) % 2 ^ (LANE_EYE_MIN n).width ∧
      Plain s t [LANE_EYE_LAST n, LANE_EYE_MIN n]) := by
  have shown : eyeMonitor (Work.start s) n margin.toNat = eyeShown (Work.start s) n margin.toNat := by
    obtain ⟨apart, -⟩ := eye_apart n
    refine (if_pos ⟨by simpa [on_eq] using mon, up⟩).trans ?_
    refine if_neg (c := margin.toNat < (eyeShown (Work.start s) n margin.toNat).get (LANE_EYE_CFG_THR n)) ?_
    rw [(eyeShown_does (s := s) n margin.toNat).1 _ (apart (LANE_EYE_CFG_THR n) (by simp))]
    omega
  refine answers_of (F := fun w => eyeMonitor w n margin.toNat) rfl shown ⟨?_, ?_, (eyeShown_does _ _).plain hs rfl⟩
  · rw [Work.finish_get _ _ hs, eyeShown_last]
  · rw [Work.finish_get _ _ hs, eyeShown_least]

theorem eyeMonitor_low (hs : s.wf = true) (n : Fin 32) (margin : BitVec 8) (mon : s.get (LANE_EYE_CFG_MON_EN n) ≠ 0)
    (up : s.get (LANE_STATUS_STATE n) = LANE_UP) (narrow : margin.toNat < s.get (LANE_EYE_CFG_THR n)) :
    Answers (.eyeMonitor n margin) s (fun t => t.get (LANE_EYE_LAST n) = margin.toNat ∧
      t.get (LANE_EYE_MIN n) = min margin.toNat (s.get (LANE_EYE_MIN n)) % 2 ^ (LANE_EYE_MIN n).width ∧ t.get (LANE_EVT_EYE_LOW n) ≠ 0 ∧
      Counted s t (LANE_EYE_BELOW n) ∧ t.get (LANE_STATUS_READAPTING n) = 1 ∧ t.get (LANE_STATUS_FROZEN n) = 0 ∧
      t.dev.held = s.dev.held ++ evtFires s n (LANE_EVT_EYE_LOW n) (LANE_EVT_EN_EYE_LOW n) ++ [s.firing 508] ∧
      Frame s t [LANE_EYE_LAST n, LANE_EYE_MIN n, LANE_EVT_EYE_LOW n, LANE_EYE_BELOW n, LANE_STATUS_READAPTING n, LANE_STATUS_FROZEN n]) := by
  obtain ⟨apart, offNt⟩ := eye_apart n
  have does := eyeShown_does (s := s) n margin.toNat
  have last := eyeShown_last (s := s) n margin
  have least := eyeShown_least (s := s) n margin.toNat
  have keeps := does.1
  have start : eyeMonitor (Work.start s) n margin.toNat = readapt (((laneEvt (eyeShown (Work.start s) n margin.toNat) n (LANE_EVT_EYE_LOW n)
      (LANE_EVT_EN_EYE_LOW n)).fire 508).inc (LANE_EYE_BELOW n)) n := by
    refine (if_pos ⟨by simpa [on_eq] using mon, up⟩).trans ?_
    refine if_pos (c := margin.toNat < (eyeShown (Work.start s) n margin.toNat).get (LANE_EYE_CFG_THR n)) ?_
    rwa [keeps _ (apart (LANE_EYE_CFG_THR n) (by simp))]
  generalize eyeShown (Work.start s) n margin.toNat = d at *
  have flagged := (does.mono (fs' := lowFlds n) (by simp [lowFlds])).evt n (LANE_EVT_EYE_LOW n) (LANE_EVT_EN_EYE_LOW n) (by simp [lowFlds]) offNt (keeps _ (apart _ (by simp))) (keeps _ (apart _ (by simp)))
    (by simp only [Fld.key, LANE_EVT_EYE_LOW, LANE_EVT_EN_EYE_LOW]; omega)
  have rises := laneEvt_set d n (LANE_EVT_EYE_LOW n) (LANE_EVT_EN_EYE_LOW n) rfl
  have told : ∀ f : Fld, f.key ≠ (LANE_EVT_EYE_LOW n).key → (laneEvt d n (LANE_EVT_EYE_LOW n) (LANE_EVT_EN_EYE_LOW n)).get f = d.get f :=
    fun f hf => get_laneEvt _ _ _ _ _ hf
  generalize laneEvt d n (LANE_EVT_EYE_LOW n) (LANE_EVT_EN_EYE_LOW n) = e at *
  have state : laneState ((e.fire 508).inc (LANE_EYE_BELOW n)) n = LANE_UP := by
    rw [laneState, Work.inc, Work.add, Work.get_set_ne _ _ _ _ (by simp only [Fld.key, LANE_STATUS_STATE, LANE_EYE_BELOW]; omega), Work.get_fire,
      told _ (by simp only [Fld.key, LANE_STATUS_STATE, LANE_EVT_EYE_LOW]; omega), keeps _ (apart _ (by simp))]
    exact up
  have does' := (((flagged.fire 508 offNt).set (LANE_EYE_BELOW n) (satAdd (2 ^ (LANE_EYE_BELOW n).width - 1) ((e.fire 508).get (LANE_EYE_BELOW n)) 1) (by simp [lowFlds])).set
    (LANE_STATUS_READAPTING n) 1 (by simp [lowFlds])).set (LANE_STATUS_FROZEN n) 0 (by simp [lowFlds])
  refine answers_of (F := fun w => eyeMonitor w n margin.toNat) rfl (start.trans (if_pos state)) ?_
  simp only [Counted, Work.finish_get _ _ hs]
  refine ⟨?_, ?_, ?_, ?_, ?_, ?_, ?_, does'.frame hs⟩
  · simp (disch := (simp only [Fld.key, LANE_EYE_LAST, LANE_STATUS_READAPTING, LANE_STATUS_FROZEN, LANE_EYE_BELOW, LANE_EVT_EYE_LOW]; omega)) only
      [Work.inc, Work.add, Work.get_set_ne, Work.get_fire, told, last]
  · simp (disch := (simp only [Fld.key, LANE_EYE_MIN, LANE_STATUS_READAPTING, LANE_STATUS_FROZEN, LANE_EYE_BELOW, LANE_EVT_EYE_LOW]; omega)) only
      [Work.inc, Work.add, Work.get_set_ne, Work.get_fire, told, least]
  · simp (disch := (simp only [Fld.key, LANE_EYE_MIN, LANE_STATUS_READAPTING, LANE_STATUS_FROZEN, LANE_EYE_BELOW, LANE_EVT_EYE_LOW]; omega)) only
      [Work.inc, Work.add, Work.get_set_ne, Work.get_fire]
    exact rises
  · rw [Work.get_set_ne _ _ _ _ (by simp only [Fld.key, LANE_STATUS_FROZEN, LANE_EYE_BELOW]; omega),
      Work.get_set_ne _ _ _ _ (by simp only [Fld.key, LANE_STATUS_READAPTING, LANE_EYE_BELOW]; omega), get_inc, Work.get_fire,
      told _ (by simp only [Fld.key, LANE_EYE_BELOW, LANE_EVT_EYE_LOW]; omega), keeps _ (apart _ (by simp))]
  · rw [Work.get_set_ne _ _ _ _ (by simp [Fld.key, LANE_STATUS_FROZEN, LANE_STATUS_READAPTING]), Work.get_set_self]; rfl
  · rw [Work.get_set_self]; rfl
  · exact does'.held.trans (by rw [List.nil_append, List.append_assoc])

theorem prbsCheckerLock_answers (hs : s.wf = true) (n : Fin 32) (prbs : lanePrbs s.view n = true) (lock : LANE_ALIGN ≤ s.get (LANE_STATUS_STATE n)) :
    Answers (.prbsCheckerLock n) s (fun t => t.get (LANE_PRBS_LOCKED n) = 1 ∧ Plain s t [LANE_PRBS_LOCKED n]) := by
  refine answers_of (F := fun w => if lanePrbs w n ∧ LANE_ALIGN ≤ laneState w n then w.set (LANE_PRBS_LOCKED n) 1 else w) rfl (if_pos ⟨prbs, lock⟩)
    ⟨?_, ((Does.start _).set _ _ (by simp)).plain hs rfl⟩
  rw [Work.finish_get _ _ hs, Work.get_set_self]; rfl

theorem invalidSyncHeader_answers (hs : s.wf = true) (n : Fin 32) : Answers (.invalidSyncHeader n) s (fun t => Counted s t (LANE_PCS_ERR_SYNC n) ∧
    t.get (LANE_CHECK_OK n) = 0 ∧ Plain s t [LANE_PCS_ERR_SYNC n, LANE_CHECK_OK n]) := by
  refine answers_of (F := fun w => (w.inc (LANE_PCS_ERR_SYNC n)).set (LANE_CHECK_OK n) 0) rfl rfl
    ⟨?_, ?_, (((Does.start _).set _ _ (by simp)).set _ _ (by simp)).plain hs rfl⟩
  · rw [Counted, Work.finish_get _ _ hs, Work.get_set_ne _ _ _ _ (by simp only [Fld.key, hid, hidDev, LANE_CHECK_OK, LANE_PCS_ERR_SYNC]; omega), get_inc]
    rfl
  · rw [Work.finish_get _ _ hs, Work.get_set_self]; rfl

/-- A command that writes registers of lane n and then raises one of its flags (R355). -/
theorem flagged_finish (hs : s.wf = true) {w : Work s} {fs : List Fld} {n : Nat} {flag enable : Fld} (does : Does w fs [] []) (one : flag.width = 1)
    (offNt : OffNt (fs ++ [flag])) (apart : ∀ g ∈ fs, flag.key ≠ g.key ∧ enable.key ≠ g.key) (flags : enable.key ≠ flag.key) :
    Flagged s (laneEvt w n flag enable).finish n flag enable ∧ Frame s (laneEvt w n flag enable).finish (fs ++ [flag]) := by
  have flagged := (does.mono (fs' := fs ++ [flag]) (List.subset_append_left _ _)).evt n flag enable (by simp) offNt
    (does.1 _ (fun g hg => (apart g hg).1)) (does.1 _ (fun g hg => (apart g hg).2)) flags
  refine ⟨⟨?_, flagged.held⟩, flagged.frame hs⟩
  rw [Work.finish_get _ _ hs]
  exact laneEvt_set _ _ _ _ one

theorem prbs_apart : ∀ n : Fin 32, OffNt ([LANE_PRBS_ERR n] ++ [LANE_EVT_PRBS_ERR n]) ∧
    ∀ g ∈ [LANE_PRBS_ERR n], (LANE_EVT_PRBS_ERR n).key ≠ g.key ∧ (LANE_EVT_EN_PRBS_ERR n).key ≠ g.key := by decide +kernel

theorem prbsBitError_answers (hs : s.wf = true) (n : Fin 32) (locked : s.get (LANE_PRBS_LOCKED n) ≠ 0) :
    Answers (.prbsBitError n) s (fun t => Counted s t (LANE_PRBS_ERR n) ∧
      Flagged s t n (LANE_EVT_PRBS_ERR n) (LANE_EVT_EN_PRBS_ERR n) ∧ Frame s t [LANE_PRBS_ERR n, LANE_EVT_PRBS_ERR n]) := by
  obtain ⟨flagged, frame⟩ := flagged_finish (n := n) (flag := LANE_EVT_PRBS_ERR n) (enable := LANE_EVT_EN_PRBS_ERR n) hs
    ((Does.start (s := s) [LANE_PRBS_ERR n]).set (LANE_PRBS_ERR n) (satAdd (2 ^ (LANE_PRBS_ERR n).width - 1) (s.get (LANE_PRBS_ERR n)) 1) (by simp)) rfl
    (prbs_apart n).1 (prbs_apart n).2 (by simp only [Fld.key, LANE_EVT_PRBS_ERR, LANE_EVT_EN_PRBS_ERR]; omega)
  refine answers_of (F := fun w => prbsError w n) rfl (if_pos (by simpa [on_eq] using locked)) ⟨?_, flagged, frame⟩
  rw [Counted, Work.finish_get _ _ hs, get_laneEvt _ _ _ _ _ (by simp only [Fld.key, LANE_PRBS_ERR, LANE_EVT_PRBS_ERR]; omega), get_inc]
  rfl

/-- A written word keeps its other fields when GO is added to it. -/
theorem bits_or_go (v lo width : Nat) (h : lo + width ≤ 28) : bits (v ||| 2 ^ 28) lo width = bits v lo width := by
  refine Nat.eq_of_testBit_eq (fun i => ?_)
  simp only [-Nat.reducePow, bits, Nat.testBit_mod_two_pow, Nat.testBit_div_two_pow, Nat.testBit_or, Nat.testBit_two_pow]
  by_cases hi : i < width
  · have : ¬ 28 = i + lo := by omega
    simp [this]
  · simp [hi]

theorem bit_or_go (v : Nat) : bit (v ||| 2 ^ 28) 28 = true := by
  rw [bit, ← Nat.shiftRight_eq_div_pow, Nat.shiftRight_or_distrib, Nat.or_mod_two_eq_one.2 (.inr (by decide))]
  rfl

/-- The fields of SCAN_CFG as a write leaves them. -/
def scanWritten (w : Work s) (n v : Nat) : Work s :=
  let w := ((w.set (LANE_SCAN_CFG_DWELL_LOG2 n) (bits v 16 6)).set (LANE_SCAN_CFG_VOFS n) (bits v 8 8)).set (LANE_SCAN_CFG_HOFS n) (bits v 0 6)
  let w := if bit v 30 then w.set (LANE_SCAN_CFG_DONE n) 0 else w
  if bit v 29 then w.set (LANE_SCAN_CFG_ABORTED n) 0 else w

/-- A scan as it starts. -/
def scanStarted (w : Work s) (n : Nat) : Work s :=
  (((w.set (LANE_SCAN_CFG_BUSY n) 1).set (LANE_SCAN_BITS n) 0).set (LANE_SCAN_ERR n) 0).set (LANE_SCAN_LEN n) (scanLength w n)

theorem scanCfgWrite_go (w : Work s) (path : Path) (n v : Nat) (go : bit v 28 = true) (idle : (scanWritten w n v).get (LANE_SCAN_CFG_BUSY n) = 0) :
    scanCfgWrite w path n v = scanStarted (scanWritten w n v) n := by
  have off : ¬ (scanWritten w n v).on (LANE_SCAN_CFG_BUSY n) = true := by simpa [on_eq] using idle
  exact (if_pos go).trans (if_neg off)

theorem scanWritten_get (w : Work s) (n v : Nat) (f : Fld) (done : f.key ≠ (LANE_SCAN_CFG_DONE n).key) (aborted : f.key ≠ (LANE_SCAN_CFG_ABORTED n).key) :
    (scanWritten w n v).get f = (((w.set (LANE_SCAN_CFG_DWELL_LOG2 n) (bits v 16 6)).set (LANE_SCAN_CFG_VOFS n) (bits v 8 8)).set
      (LANE_SCAN_CFG_HOFS n) (bits v 0 6)).get f := by
  simp only [scanWritten]
  split <;> split <;> simp only [Work.get_set_ne _ _ _ _ done, Work.get_set_ne _ _ _ _ aborted]

theorem scanWritten_does (n v : Nat) (fs : List Fld) (h : [LANE_SCAN_CFG_DWELL_LOG2 n, LANE_SCAN_CFG_VOFS n, LANE_SCAN_CFG_HOFS n, LANE_SCAN_CFG_DONE n,
    LANE_SCAN_CFG_ABORTED n] ⊆ fs) : Does (scanWritten (Work.start s) n v) fs [] [] := by
  simp only [List.cons_subset, List.nil_subset, and_true] at h
  obtain ⟨dwell, vofs, hofs, done, aborted⟩ := h
  have fields := (((Does.start (s := s) fs).set _ (bits v 16 6) dwell).set _ (bits v 8 8) vofs).set _ (bits v 0 6) hofs
  exact Does.ite (fun _ => (Does.ite (fun _ => fields.set _ _ done) (fun _ => fields)).set _ _ aborted)
    (fun _ => Does.ite (fun _ => fields.set _ _ done) (fun _ => fields))

theorem scanWritten_fresh (n v : Nat) : (scanWritten (Work.start s) n v).fresh = s.fresh := by
  simp only [scanWritten]
  split <;> split <;> rfl

theorem scanLength_eq (w : Work s) (n d : Nat) (h : w.get (LANE_SCAN_CFG_DWELL_LOG2 n) = d) : scanLength w n = max 20 (min 40 d) := by
  simp only [scanLength, h]
  split
  · omega
  · split <;> omega

theorem eyeScanGo_answers (hs : s.wf = true) (n : Fin 32) (via : Via) (v : BitVec 32) (idle : s.get (LANE_SCAN_CFG_BUSY n) = 0) :
    Answers (.eyeScanGo via n v) s (fun t =>
      t.get (LANE_SCAN_CFG_BUSY n) = 1 ∧ t.get (LANE_SCAN_BITS n) = 0 ∧ t.get (LANE_SCAN_ERR n) = 0 ∧
      t.get (LANE_SCAN_CFG_DWELL_LOG2 n) = bits v.toNat 16 6 ∧ t.get (LANE_SCAN_CFG_VOFS n) = bits v.toNat 8 8 ∧
      t.get (LANE_SCAN_CFG_HOFS n) = bits v.toNat 0 6 ∧
      t.get (LANE_SCAN_LEN n) = max 20 (min 40 (bits v.toNat 16 6)) ∧
      Plain s t [LANE_SCAN_CFG_BUSY n, LANE_SCAN_BITS n, LANE_SCAN_ERR n, LANE_SCAN_CFG_DWELL_LOG2 n, LANE_SCAN_CFG_VOFS n,
        LANE_SCAN_CFG_HOFS n, LANE_SCAN_CFG_DONE n, LANE_SCAN_CFG_ABORTED n, LANE_SCAN_LEN n]) := by
  have small : ∀ lo width, bits v.toNat lo width % 2 ^ width = bits v.toNat lo width := fun lo width => Nat.mod_eq_of_lt (Nat.mod_lt _ (by positivity))
  have written := fun f => scanWritten_get (Work.start s) n (v.toNat ||| 2 ^ 28) f
  rw [bits_or_go _ _ _ (by decide), bits_or_go _ _ _ (by decide), bits_or_go _ _ _ (by decide)] at written
  have busy : (scanWritten (Work.start s) n (v.toNat ||| 2 ^ 28)).get (LANE_SCAN_CFG_BUSY n) = 0 := by
    simp (disch := (simp only [Fld.key, LANE_SCAN_CFG_BUSY, LANE_SCAN_CFG_DONE, LANE_SCAN_CFG_ABORTED, LANE_SCAN_CFG_DWELL_LOG2, LANE_SCAN_CFG_VOFS,
      LANE_SCAN_CFG_HOFS]; omega)) only [written, Work.get_set_ne]
    exact idle
  have dwell : (scanWritten (Work.start s) n (v.toNat ||| 2 ^ 28)).get (LANE_SCAN_CFG_DWELL_LOG2 n) = bits v.toNat 16 6 := by
    simp (disch := (simp only [Fld.key, LANE_SCAN_CFG_BUSY, LANE_SCAN_CFG_DONE, LANE_SCAN_CFG_ABORTED, LANE_SCAN_CFG_DWELL_LOG2, LANE_SCAN_CFG_VOFS,
      LANE_SCAN_CFG_HOFS]; omega)) only [written, Work.get_set_ne, Work.get_set_self]
    exact small 16 6
  have does := ((((scanWritten_does (s := s) n (v.toNat ||| 2 ^ 28) [LANE_SCAN_CFG_BUSY n, LANE_SCAN_BITS n, LANE_SCAN_ERR n, LANE_SCAN_CFG_DWELL_LOG2 n,
    LANE_SCAN_CFG_VOFS n, LANE_SCAN_CFG_HOFS n, LANE_SCAN_CFG_DONE n, LANE_SCAN_CFG_ABORTED n, LANE_SCAN_LEN n] (by simp)).set (LANE_SCAN_CFG_BUSY n) 1 (by simp)).set
    (LANE_SCAN_BITS n) 0 (by simp)).set (LANE_SCAN_ERR n) 0 (by simp)).set (LANE_SCAN_LEN n) (scanLength (scanWritten (Work.start s) n (v.toNat ||| 2 ^ 28)) n) (by simp)
  have fresh := scanWritten_fresh (s := s) n (v.toNat ||| 2 ^ 28)
  refine answers_of (F := fun w => scanCfgWrite w (viaPath via) n (v.toNat ||| 2 ^ 28)) rfl (scanCfgWrite_go _ _ _ _ (bit_or_go _) busy) ?_
  generalize scanWritten (Work.start s) n (v.toNat ||| 2 ^ 28) = d at *
  simp only [Work.finish_get _ _ hs, scanStarted]
  refine ⟨?_, ?_, ?_, ?_, ?_, ?_, ?_, does.plain hs fresh⟩
  all_goals simp (disch := (simp only [Fld.key, hid, hidDev, LANE_SCAN_CFG_BUSY, LANE_SCAN_CFG_DONE, LANE_SCAN_CFG_ABORTED, LANE_SCAN_CFG_DWELL_LOG2,
      LANE_SCAN_CFG_VOFS, LANE_SCAN_CFG_HOFS, LANE_SCAN_BITS, LANE_SCAN_ERR, LANE_SCAN_LEN]; omega)) only [written, Work.get_set_ne, Work.get_set_self]
  · rfl
  · rfl
  · rfl
  · exact small 16 6
  · exact small 8 8
  · exact small 0 6
  · rw [scanLength_eq _ _ _ dwell]
    refine Nat.mod_eq_of_lt ?_
    simp only [LANE_SCAN_LEN, hid]
    omega

theorem checkGo_answers (hs : s.wf = true) (n : Fin 32) (via : Via) (idle : s.get (LANE_CHECK_BUSY n) = 0) :
    Answers (.checkGo via n) s (fun t => t.get (LANE_CHECK_BUSY n) = 1 ∧
      (t.get (LANE_CHECK_OK n) = 1 ↔ (s.get (LANE_STATUS_STATE n) = LANE_UP ∨ s.get (LANE_STATUS_STATE n) = LANE_ADAPT) ∧
        s.get (LANE_STATUS_BLOCK_LOCK n) ≠ 0 ∧ s.get (LANE_STATUS_HIBER n) = 0) ∧ Plain s t [LANE_CHECK_BUSY n, LANE_CHECK_OK n]) := by
  have off : ¬ (Work.start s).on (LANE_CHECK_BUSY n) = true := by simpa [on_eq] using idle
  have started : checkWrite (Work.start s) (viaPath via) n 1 = ((Work.start s).set (LANE_CHECK_BUSY n) 1).set (LANE_CHECK_OK n)
      (b2n ((decide (s.get (LANE_STATUS_STATE n) = LANE_UP) || decide (s.get (LANE_STATUS_STATE n) = LANE_ADAPT)) &&
      (s.get (LANE_STATUS_BLOCK_LOCK n) != 0) && !(s.get (LANE_STATUS_HIBER n) != 0))) := by
    have clear : bit 1 2 = false := rfl
    have go : bit 1 0 = true := rfl
    rw [checkWrite, clear, go, if_neg Bool.false_ne_true, if_pos rfl, if_neg off, startCheck, if_neg off]
    rfl
  refine answers_of (F := fun w => checkWrite w (viaPath via) n 1) rfl started ⟨?_, ?_, (((Does.start _).set _ _ (by simp)).set _ _ (by simp)).plain hs rfl⟩
  · rw [Work.finish_get _ _ hs, Work.get_set_ne _ _ _ _ (by simp only [Fld.key, hid, hidDev, LANE_CHECK_BUSY, LANE_CHECK_OK]; omega), Work.get_set_self]
    rfl
  · rw [Work.finish_get _ _ hs, Work.get_set_self]
    by_cases up : s.get (LANE_STATUS_STATE n) = LANE_UP <;> by_cases adapt : s.get (LANE_STATUS_STATE n) = LANE_ADAPT <;>
      by_cases lock : s.get (LANE_STATUS_BLOCK_LOCK n) = 0 <;> by_cases hiber : s.get (LANE_STATUS_HIBER n) = 0 <;>
      simp [up, adapt, lock, hiber, b2n, LANE_CHECK_OK, hid]

theorem scan_apart : ∀ n : Fin 32, OffNt ([LANE_SCAN_CFG_BUSY n, LANE_SCAN_CFG_DONE n, LANE_SCAN_ERR n, LANE_SCAN_BITS n] ++ [LANE_EVT_SCAN_DONE n]) ∧
    (∀ g ∈ [LANE_SCAN_CFG_BUSY n, LANE_SCAN_CFG_DONE n, LANE_SCAN_ERR n, LANE_SCAN_BITS n], (LANE_EVT_SCAN_DONE n).key ≠ g.key ∧
      (LANE_EVT_EN_SCAN_DONE n).key ≠ g.key) ∧ (LANE_EVT_EN_SCAN_DONE n).key ≠ (LANE_EVT_SCAN_DONE n).key := by decide +kernel

theorem eyeScanDone_answers (hs : s.wf = true) (n : Fin 32) (errs : BitVec 32) (busy : s.get (LANE_SCAN_CFG_BUSY n) ≠ 0) :
    Answers (.eyeScanDone n errs) s (fun t =>
      t.get (LANE_SCAN_CFG_BUSY n) = 0 ∧ t.get (LANE_SCAN_CFG_DONE n) = 1 ∧
      t.get (LANE_SCAN_ERR n) = max (s.get (LANE_SCAN_ERR n)) errs.toNat % 2 ^ 32 ∧
      t.get (LANE_SCAN_BITS n) = min (2 ^ (s.get (LANE_SCAN_LEN n) - 10)) 0xFFFFFFFF ∧
      Flagged s t n (LANE_EVT_SCAN_DONE n) (LANE_EVT_EN_SCAN_DONE n) ∧
      Frame s t [LANE_SCAN_CFG_BUSY n, LANE_SCAN_CFG_DONE n, LANE_SCAN_ERR n, LANE_SCAN_BITS n, LANE_EVT_SCAN_DONE n]) := by
  obtain ⟨offNt, apart, flags⟩ := scan_apart n
  obtain ⟨flagged, frame⟩ := flagged_finish (n := n) (flag := LANE_EVT_SCAN_DONE n) (enable := LANE_EVT_EN_SCAN_DONE n) hs
    (((((Does.start (s := s) [LANE_SCAN_CFG_BUSY n, LANE_SCAN_CFG_DONE n, LANE_SCAN_ERR n, LANE_SCAN_BITS n]).set (LANE_SCAN_BITS n)
      (min (scanUnits (Work.start s) n) 0xFFFFFFFF) (by simp)).set (LANE_SCAN_ERR n) (max (s.get (LANE_SCAN_ERR n)) errs.toNat) (by simp)).set
      (LANE_SCAN_CFG_BUSY n) 0 (by simp)).set (LANE_SCAN_CFG_DONE n) 1 (by simp)) rfl offNt apart flags
  refine answers_of (F := fun w => scanDone w n errs.toNat) rfl (if_pos (by simpa [on_eq] using busy)) ?_
  refine ⟨?_, ?_, ?_, ?_, flagged, frame⟩
  all_goals
    rw [Work.finish_get _ _ hs, scanEnd]
    simp (disch := (simp only [Fld.key, LANE_EVT_SCAN_DONE, LANE_SCAN_CFG_BUSY, LANE_SCAN_CFG_DONE, LANE_SCAN_BITS, LANE_SCAN_ERR]; omega)) only
      [get_laneEvt, Work.get_set_self, Work.get_set_ne]
  · rfl
  · rfl
  · rfl
  · refine Nat.mod_eq_of_lt (lt_of_le_of_lt (Nat.min_le_right _ _) ?_)
    simp [LANE_SCAN_BITS]

theorem check_apart : ∀ n : Fin 32, OffNt ([LANE_CHECK_BUSY n, LANE_CHECK_DONE n, LANE_CHECK_PASS n] ++ [LANE_EVT_CHECK_DONE n]) ∧
    (∀ g ∈ [LANE_CHECK_BUSY n, LANE_CHECK_DONE n, LANE_CHECK_PASS n], (LANE_EVT_CHECK_DONE n).key ≠ g.key ∧
      (LANE_EVT_EN_CHECK_DONE n).key ≠ g.key) ∧ (LANE_EVT_EN_CHECK_DONE n).key ≠ (LANE_EVT_CHECK_DONE n).key ∧
    ∀ g ∈ [LANE_CHECK_BUSY n, LANE_CHECK_DONE n, LANE_CHECK_PASS n] ++ [LANE_EVT_CHECK_DONE n], OfLanes g := by decide +kernel

theorem checkDone_answers (hs : s.wf = true) (n : Fin 32) (busy : s.get (LANE_CHECK_BUSY n) ≠ 0)
    (h : linkOf s.view n = none ∨ s.get (LANE_CHECK_OK n) = 0) :
    Answers (.checkDone n) s (fun t => t.get (LANE_CHECK_BUSY n) = 0 ∧ t.get (LANE_CHECK_DONE n) = 1 ∧
      t.get (LANE_CHECK_PASS n) = (if s.get (LANE_CHECK_OK n) = 0 then 0 else 1) ∧
      Flagged s t n (LANE_EVT_CHECK_DONE n) (LANE_EVT_EN_CHECK_DONE n) ∧
      Frame s t [LANE_CHECK_BUSY n, LANE_CHECK_DONE n, LANE_CHECK_PASS n, LANE_EVT_CHECK_DONE n]) := by
  obtain ⟨offNt, apart, flags, lanes⟩ := check_apart n
  have does := ((((Does.start (s := s) [LANE_CHECK_BUSY n, LANE_CHECK_DONE n, LANE_CHECK_PASS n]).set (LANE_CHECK_BUSY n) 0 (by simp)).set
    (LANE_CHECK_DONE n) 1 (by simp)).set (LANE_CHECK_PASS n) (b2n ((Work.start s).on (LANE_CHECK_OK n))) (by simp))
  obtain ⟨flagged, frame⟩ := flagged_finish (n := n) (flag := LANE_EVT_CHECK_DONE n) (enable := LANE_EVT_EN_CHECK_DONE n) hs does rfl offNt apart flags
  have rest : checkDone (Work.start s) n = laneEvt ((((Work.start s).set (LANE_CHECK_BUSY n) 0).set (LANE_CHECK_DONE n) 1).set (LANE_CHECK_PASS n)
      (b2n ((Work.start s).on (LANE_CHECK_OK n)))) n (LANE_EVT_CHECK_DONE n) (LANE_EVT_EN_CHECK_DONE n) := by
    refine (if_pos (by simpa [on_eq] using busy)).trans ?_
    by_cases pass : s.get (LANE_CHECK_OK n) = 0
    · exact if_neg (by simpa [on_eq] using pass)
    · have alone := h.resolve_right pass
      refine (if_pos (by simpa [on_eq] using pass)).trans ?_
      have marked := (does.mono (fs' := [LANE_CHECK_BUSY n, LANE_CHECK_DONE n, LANE_CHECK_PASS n] ++ [LANE_EVT_CHECK_DONE n]) (List.subset_append_left _ _)).evt n
        (LANE_EVT_CHECK_DONE n) (LANE_EVT_EN_CHECK_DONE n) (by simp) offNt
        (does.1 _ (fun g hg => (apart g hg).1)) (does.1 _ (fun g hg => (apart g hg).2)) flags
      have none_ := linkOf_none_of_keeps alone marked.1 lanes
      have passed : ∀ w : Work s, linkOf w n = none → linkLanePassed w n = w := fun w h => by rw [linkLanePassed, h]
      exact passed _ none_
  refine answers_of (F := fun w => checkDone w n) rfl rest ⟨?_, ?_, ?_, flagged, frame⟩
  all_goals
    rw [Work.finish_get _ _ hs]
    simp (disch := (simp only [Fld.key, LANE_EVT_CHECK_DONE, LANE_CHECK_BUSY, LANE_CHECK_DONE, LANE_CHECK_PASS]; omega)) only
      [get_laneEvt, Work.get_set_self, Work.get_set_ne]
  · rfl
  · rfl
  · rw [on_eq]
    by_cases pass : s.get (LANE_CHECK_OK n) = 0 <;> simp [pass, b2n, LANE_CHECK_PASS]

theorem laneMeasurement : Clause.LaneMeasurement := fun _ hs n =>
  ⟨fun margin mon up => ⟨eyeMonitor_quiet hs n margin mon up, eyeMonitor_low hs n margin mon up⟩, eyeScanGo_answers hs n, eyeScanDone_answers hs n,
    checkGo_answers hs n, checkDone_answers hs n, invalidSyncHeader_answers hs n, prbsCheckerLock_answers hs n, prbsBitError_answers hs n⟩

/-- Settles O37: a lane that leaves UP, its adaptation and its measurements, command by command. -/
theorem laneQuality : Obligations.LaneQuality := ⟨laneAdaptation, laneMeasurement⟩

end Sys2Proof.LaneQualityProofs
end

section
/-! PROOFS. The states of a serial lane: the steps of bring-up, and what CFG and CTRL do (R333, R335, R338 to R341, R345, R352). -/

namespace Sys2Proof.LaneStateProofs

open Sys2Proof.Machine Sys2Proof.Effects Sys2Proof.LaneFacts Sys2Proof.RejectFacts Sys2Proof.LaneWorks Sys2Proof.LaneQualityProofs

-- A kernel evaluation waits for every declaration before it: one at a time keeps the threads that wait, and their stacks, few.
set_option Elab.async false

variable {s : State}

/-! ## Bring-up (R335, R340) -/

theorem laneSignal_writes (w : Work s) (n : Nat) : Writes (· = LANE_STATUS_STATE n) w (laneSignal w n) :=
  Writes.ite ((Writes.refl w).set _ _ rfl) (Writes.refl w)

theorem state_apart {n m : Nat} (h : m ≠ n) : (LANE_STATUS_STATE m).key ≠ (LANE_STATUS_STATE n).key := by
  simp only [Fld.key, LANE_STATUS_STATE]
  omega

theorem sig_off_state {n m : Nat} (hm : m < 32) : (LANE_SIG n).key ≠ (LANE_STATUS_STATE m).key := by
  simp only [Fld.key, hid, hidDev, LANE_SIG, LANE_STATUS_STATE]
  omega

theorem quad_off_state {n m : Nat} (hm : m < 32) : (QUAD_LOCKED n).key ≠ (LANE_STATUS_STATE m).key := by
  simp only [Fld.key, hid, hidDev, QUAD_LOCKED, LANE_STATUS_STATE]
  omega

/-- R340: whether lane n goes on to CDR under a quad that has locked. -/
def signalled (w : Work s) (n : Nat) : Nat :=
  if w.get (LANE_STATUS_STATE n) = LANE_SIGNAL ∧ w.get (LANE_SIG n) ≠ 0 then LANE_CDR else w.get (LANE_STATUS_STATE n)

theorem laneSignal_state (w : Work s) (n : Nat) (locked : w.get (QUAD_LOCKED (n / 8)) ≠ 0) : (laneSignal w n).get (LANE_STATUS_STATE n) = signalled w n := by
  simp only [laneSignal, signalled, laneState, on_eq, locked, decide_eq_true_eq, ne_eq, not_false_eq_true, and_true]
  split
  · exact Work.get_set_self _ _ _
  · rfl

/-- The lanes of a quad that has locked go on one by one (R335, R340). -/
theorem each_laneSignal (m : Nat) (hm : m < 4) (l : List Nat) (hl : ∀ i ∈ l, i < 8) (once : l.Nodup) (w : Work s) (locked : w.get (QUAD_LOCKED m) ≠ 0)
    (i : Nat) (hi : i < 8) : (w.each l (fun w j => laneSignal w (8 * m + j))).get (LANE_STATUS_STATE (8 * m + i)) =
      if i ∈ l then signalled w (8 * m + i) else w.get (LANE_STATUS_STATE (8 * m + i)) := by
  induction l generalizing w with
  | nil => rfl
  | cons j l ih =>
    obtain ⟨fresh, once⟩ := List.nodup_cons.1 once
    have hj : j < 8 := hl j List.mem_cons_self
    have writes := laneSignal_writes w (8 * m + j)
    have lockedNext : (laneSignal w (8 * m + j)).get (QUAD_LOCKED m) ≠ 0 := by
      rw [writes _ (fun g hg => hg ▸ quad_off_state (by omega))]
      exact locked
    refine (ih (fun k hk => hl k (List.mem_cons_of_mem _ hk)) once _ lockedNext).trans ?_
    by_cases same : i = j
    · subst same
      rw [if_neg fresh, if_pos List.mem_cons_self]
      refine laneSignal_state w _ ?_
      rwa [show (8 * m + i) / 8 = m by omega]
    · have other : (laneSignal w (8 * m + j)).get (LANE_STATUS_STATE (8 * m + i)) = w.get (LANE_STATUS_STATE (8 * m + i)) :=
        writes _ (fun g hg => hg ▸ state_apart (by omega))
      have sig : (laneSignal w (8 * m + j)).get (LANE_SIG (8 * m + i)) = w.get (LANE_SIG (8 * m + i)) :=
        writes _ (fun g hg => hg ▸ sig_off_state (by omega))
      simp only [signalled, other, sig, List.mem_cons, same, false_or]

theorem quadPllLock_answers (hs : s.wf = true) (m : Fin 4) (used : ∃ i < 8, s.get (LANE_CFG_ROLE (8 * m + i)) ≠ 0) :
    Answers (.quadPllLock m) s (fun t => t.get (QUAD_LOCKED m) = 1 ∧
      (∀ i < 8, t.get (LANE_STATUS_STATE (8 * m + i)) =
        if s.get (LANE_STATUS_STATE (8 * m + i)) = LANE_SIGNAL ∧ s.get (LANE_SIG (8 * m + i)) ≠ 0 then LANE_CDR
        else s.get (LANE_STATUS_STATE (8 * m + i))) ∧
      Plain s t (QUAD_LOCKED m :: (List.range 8).map (fun i => LANE_STATUS_STATE (8 * m + i)))) := by
  obtain ⟨j, hj, role⟩ := used
  have some_ : ¬ (List.range 8).all (fun i => decide ((Work.start s).get (LANE_CFG_ROLE (8 * m.val + i)) = 0)) = true := by
    simp only [List.all_eq_true, List.mem_range, decide_eq_true_eq, not_forall]
    exact ⟨j, hj, role⟩
  have locked : ((Work.start s).set (QUAD_LOCKED m) 1).get (QUAD_LOCKED m) ≠ 0 := by rw [Work.get_set_self]; exact one_ne_zero
  refine answers_of (F := fun w => if (List.range 8).all (fun i => decide (w.get (LANE_CFG_ROLE (8 * m.val + i)) = 0)) then w
    else (w.set (QUAD_LOCKED m) 1).each (List.range 8) (fun w i => laneSignal w (8 * m.val + i))) rfl (if_neg some_) ⟨?_, fun i hi => ?_, ?_⟩
  · have kept : Writes (fun g => ∃ i < 8, g = LANE_STATUS_STATE (8 * m + i)) ((Work.start s).set (QUAD_LOCKED m) 1)
        (((Work.start s).set (QUAD_LOCKED m) 1).each (List.range 8) (fun w i => laneSignal w (8 * m.val + i))) :=
      Writes.each (Writes.refl _) _ _ (fun w' i hi h => h.trans ((laneSignal_writes w' _).mono (fun g hg => ⟨i, List.mem_range.1 hi, hg⟩)))
    rw [Work.finish_get _ _ hs, kept _ (by
      rintro g ⟨i, hi, rfl⟩
      exact quad_off_state (by omega)), Work.get_set_self]
    rfl
  · have state : ((Work.start s).set (QUAD_LOCKED m) 1).get (LANE_STATUS_STATE (8 * m + i)) = s.get (LANE_STATUS_STATE (8 * m + i)) :=
      Work.get_set_ne _ _ _ _ (quad_off_state (by omega)).symm
    have sig : ((Work.start s).set (QUAD_LOCKED m) 1).get (LANE_SIG (8 * m + i)) = s.get (LANE_SIG (8 * m + i)) :=
      Work.get_set_ne _ _ _ _ (by simp only [Fld.key, hid, hidDev, LANE_SIG, QUAD_LOCKED]; omega)
    rw [Work.finish_get _ _ hs, each_laneSignal m m.isLt _ (fun _ => List.mem_range.1) List.nodup_range _ locked i hi, if_pos (List.mem_range.2 hi),
      signalled, state, sig]
  · have does : Does (((Work.start s).set (QUAD_LOCKED m) 1).each (List.range 8) (fun w i => laneSignal w (8 * m.val + i)))
        (QUAD_LOCKED m :: (List.range 8).map (fun i => LANE_STATUS_STATE (8 * m + i))) [] [] := by
      refine Does.each ((Does.start _).set _ _ List.mem_cons_self) _ _ (fun w' i hi h => ?_)
      rw [laneSignal]
      exact Does.ite (fun _ => h.set _ _ (List.mem_cons_of_mem _ (List.mem_map.2 ⟨i, hi, rfl⟩))) (fun _ => h)
    refine does.plain hs ?_
    refine Work.each_keeps (fun w' => w'.fresh = s.fresh) _ (fun w' i h => ?_) _ _ rfl
    rw [laneSignal]
    split <;> exact h

theorem signalDetect_answers (hs : s.wf = true) (n : Fin 32) (state : s.get (LANE_STATUS_STATE n) = LANE_SIGNAL) :
    Answers (.signalDetect n) s (fun t => t.get (LANE_SIG n) = 1 ∧
      t.get (LANE_STATUS_STATE n) = (if s.get (QUAD_LOCKED (n / 8)) ≠ 0 then LANE_CDR else LANE_SIGNAL) ∧
      Plain s t [LANE_SIG n, LANE_STATUS_STATE n]) := by
  have kept : ((Work.start s).set (LANE_SIG n) 1).get (LANE_STATUS_STATE n) = LANE_SIGNAL :=
    (Work.get_set_ne _ _ _ _ (sig_off_state n.isLt).symm).trans state
  have sig : ((Work.start s).set (LANE_SIG n) 1).get (LANE_SIG n) = 1 := Work.get_set_self _ _ _
  have quad : ((Work.start s).set (LANE_SIG n) 1).get (QUAD_LOCKED (n / 8)) = s.get (QUAD_LOCKED (n / 8)) :=
    Work.get_set_ne _ _ _ _ (by simp only [Fld.key, hid, hidDev, LANE_SIG, QUAD_LOCKED]; omega)
  have runs : (if laneState (Work.start s) n = LANE_SIGNAL then laneSignal ((Work.start s).set (LANE_SIG n) 1) n else Work.start s) =
      if s.get (QUAD_LOCKED (n / 8)) ≠ 0 then ((Work.start s).set (LANE_SIG n) 1).set (LANE_STATUS_STATE n) LANE_CDR
        else (Work.start s).set (LANE_SIG n) 1 := by
    refine (if_pos state).trans ?_
    rw [laneSignal]
    simp only [laneState, kept, on_eq, sig, quad, decide_eq_true_eq, ne_eq, one_ne_zero, not_false_eq_true, true_and]
  refine answers_of (F := fun w => if laneState w n = LANE_SIGNAL then laneSignal (w.set (LANE_SIG n) 1) n else w) rfl runs ?_
  split
  · refine ⟨?_, ?_, (((Does.start _).set _ _ (by simp)).set _ _ (by simp)).plain hs rfl⟩
    · rw [Work.finish_get _ _ hs, Work.get_set_ne _ _ _ _ (sig_off_state n.isLt), Work.get_set_self]; rfl
    · rw [Work.finish_get _ _ hs, Work.get_set_self]; rfl
  · refine ⟨?_, ?_, ((Does.start _).set _ _ (by simp)).plain hs rfl⟩
    · rw [Work.finish_get _ _ hs, Work.get_set_self]; rfl
    · rw [Work.finish_get _ _ hs]; exact kept

theorem cdrLock_answers (hs : s.wf = true) (n : Fin 32) (state : s.get (LANE_STATUS_STATE n) = LANE_CDR) :
    Answers (.cdrLock n) s (fun t => t.get (LANE_STATUS_STATE n) = LANE_ALIGN ∧ Plain s t [LANE_STATUS_STATE n]) := by
  refine answers_of (F := fun w => if laneState w n = LANE_CDR then w.set (LANE_STATUS_STATE n) LANE_ALIGN else w) rfl (if_pos state)
    ⟨?_, ((Does.start _).set _ _ (by simp)).plain hs rfl⟩
  rw [Work.finish_get _ _ hs, Work.get_set_self]; rfl

/-! ## Block lock (R338, R340) -/

theorem b2n_bit (b : Bool) : b2n b % 2 ^ 1 = b2n b := by cases b <;> rfl

theorem lockHeld_get (w : Work s) (n : Nat) : (lockHeld w n).get (LANE_STATUS_BLOCK_LOCK n) = b2n (!lanePrbs w n) ∧ (lockHeld w n).get (LANE_STATUS_HIBER n) = 0 := by
  refine ⟨?_, Work.get_set_self _ _ _⟩
  rw [lockHeld, Work.get_set_ne _ _ _ _ (by simp only [Fld.key, LANE_STATUS_BLOCK_LOCK, LANE_STATUS_HIBER]; omega), Work.setB, Work.get_set_self]
  exact b2n_bit _

theorem lockHeld_does {w : Work s} {fs : List Fld} {fired : List Firing} {out : List Out} (h : Does w fs fired out) (n : Nat)
    (lock : LANE_STATUS_BLOCK_LOCK n ∈ fs) (hiber : LANE_STATUS_HIBER n ∈ fs) : Does (lockHeld w n) fs fired out :=
  (h.set _ _ lock).set _ _ hiber

theorem lockHeld_other (w : Work s) (n : Nat) (f : Fld) (lock : f.key ≠ (LANE_STATUS_BLOCK_LOCK n).key) (hiber : f.key ≠ (LANE_STATUS_HIBER n).key) :
    (lockHeld w n).get f = w.get f := by
  rw [lockHeld, Work.get_set_ne _ _ _ _ hiber, Work.setB, Work.get_set_ne _ _ _ _ lock]

theorem blockLock_align (hs : s.wf = true) (n : Fin 32) (state : s.get (LANE_STATUS_STATE n) = LANE_ALIGN) :
    Answers (.blockLock n) s (fun t => t.get (LANE_STATUS_STATE n) = (if s.get (LANE_STATUS_POL_FAIL n) = 0 then LANE_ADAPT else LANE_ALIGN) ∧
      t.get (LANE_STATUS_BLOCK_LOCK n) = b2n (!lanePrbs s.view n) ∧ t.get (LANE_STATUS_HIBER n) = 0 ∧
      Plain s t [LANE_STATUS_STATE n, LANE_STATUS_BLOCK_LOCK n, LANE_STATUS_HIBER n]) := by
  obtain ⟨lock, hiber⟩ := lockHeld_get (Work.start s) n
  have fail : (lockHeld (Work.start s) n).get (LANE_STATUS_POL_FAIL n) = s.get (LANE_STATUS_POL_FAIL n) :=
    lockHeld_other _ _ _ (by simp only [Fld.key, LANE_STATUS_POL_FAIL, LANE_STATUS_BLOCK_LOCK]; omega) (by simp only [Fld.key, LANE_STATUS_POL_FAIL, LANE_STATUS_HIBER]; omega)
  have kept : (lockHeld (Work.start s) n).get (LANE_STATUS_STATE n) = LANE_ALIGN :=
    (lockHeld_other _ _ _ (by simp only [Fld.key, LANE_STATUS_STATE, LANE_STATUS_BLOCK_LOCK]; omega) (by simp only [Fld.key, LANE_STATUS_STATE, LANE_STATUS_HIBER]; omega)).trans state
  have does := lockHeld_does (Does.start (s := s) [LANE_STATUS_STATE n, LANE_STATUS_BLOCK_LOCK n, LANE_STATUS_HIBER n]) n (by simp) (by simp)
  have runs : blockLock (Work.start s) n = if s.get (LANE_STATUS_POL_FAIL n) = 0 then (lockHeld (Work.start s) n).set (LANE_STATUS_STATE n) LANE_ADAPT
      else lockHeld (Work.start s) n := by
    refine (if_pos state).trans ?_
    simp only [on_eq, fail, decide_eq_true_eq, ne_eq, ite_not]
  refine answers_of (F := fun w => blockLock w n) rfl runs ?_
  split
  · refine ⟨?_, ?_, ?_, (does.set _ _ (by simp)).plain hs rfl⟩
    · rw [Work.finish_get _ _ hs, Work.get_set_self]; rfl
    · rw [Work.finish_get _ _ hs, Work.get_set_ne _ _ _ _ (by simp only [Fld.key, LANE_STATUS_STATE, LANE_STATUS_BLOCK_LOCK]; omega), lock]
    · rw [Work.finish_get _ _ hs, Work.get_set_ne _ _ _ _ (by simp only [Fld.key, LANE_STATUS_STATE, LANE_STATUS_HIBER]; omega), hiber]
  · exact ⟨by rw [Work.finish_get _ _ hs, kept], by rw [Work.finish_get _ _ hs, lock], by rw [Work.finish_get _ _ hs, hiber], does.plain hs rfl⟩

theorem blockLock_later (hs : s.wf = true) (n : Fin 32) (h : s.get (LANE_STATUS_STATE n) = LANE_ADAPT ∨ s.get (LANE_STATUS_STATE n) = LANE_LOOP) :
    Answers (.blockLock n) s (fun t => t.get (LANE_STATUS_BLOCK_LOCK n) = b2n (!lanePrbs s.view n) ∧ t.get (LANE_STATUS_HIBER n) = 0 ∧
      Plain s t [LANE_STATUS_BLOCK_LOCK n, LANE_STATUS_HIBER n]) := by
  obtain ⟨lock, hiber⟩ := lockHeld_get (Work.start s) n
  have other : laneState (Work.start s) n ≠ LANE_ALIGN ∧ laneState (Work.start s) n ≠ LANE_LULL := by
    simp only [show laneState (Work.start s) n = s.get (LANE_STATUS_STATE n) from rfl]
    obtain h | h := h <;> rw [h] <;> decide
  have runs : blockLock (Work.start s) n = lockHeld (Work.start s) n :=
    (if_neg other.1).trans ((if_neg (fun h => other.2 h.1)).trans (if_pos h))
  exact answers_of (F := fun w => blockLock w n) rfl runs ⟨by rw [Work.finish_get _ _ hs, lock], by rw [Work.finish_get _ _ hs, hiber],
    (lockHeld_does (Does.start _) n (by simp) (by simp)).plain hs rfl⟩

/-! ## Polarity (R341) -/

/-- What a toggle of RX_INV writes before it is flagged, and after. -/
theorem polarity_apart : ∀ n : Fin 32, OffNt [LANE_CFG_RX_INV n, LANE_STATUS_BLOCK_LOCK n, LANE_EVT_POL_FLIP n, LANE_FLIPS n, LANE_STATUS_POL_FAIL n] ∧
    (∀ f ∈ [LANE_EVT_POL_FLIP n, LANE_EVT_EN_POL_FLIP n, LANE_FLIPS n, LANE_STATUS_POL_FAIL n], ∀ g ∈ [LANE_CFG_RX_INV n, LANE_STATUS_BLOCK_LOCK n],
      f.key ≠ g.key) ∧ (LANE_EVT_EN_POL_FLIP n).key ≠ (LANE_EVT_POL_FLIP n).key := by decide +kernel

/-- RX_INV toggled, before the second time is told. -/
def toggled (w : Work s) (n : Nat) : Work s :=
  laneEvt ((w.setB (LANE_CFG_RX_INV n) (!w.on (LANE_CFG_RX_INV n))).set (LANE_STATUS_BLOCK_LOCK n) 0) n (LANE_EVT_POL_FLIP n) (LANE_EVT_EN_POL_FLIP n)

/-- The toggle counted. -/
def flipped (w : Work s) (n : Nat) : Work s := w.set (LANE_FLIPS n) (w.get (LANE_FLIPS n) + 1)

/-- The second toggle sets POL_FAIL. -/
def toggleCounted (w : Work s) (n : Nat) : Work s :=
  if 2 ≤ (flipped w n).get (LANE_FLIPS n) then (flipped w n).set (LANE_STATUS_POL_FAIL n) 1 else flipped w n

theorem toggled_does (n : Fin 32) : Does (toggled (Work.start s) n) [LANE_CFG_RX_INV n, LANE_STATUS_BLOCK_LOCK n, LANE_EVT_POL_FLIP n, LANE_FLIPS n,
    LANE_STATUS_POL_FAIL n] ([] ++ evtFires s n (LANE_EVT_POL_FLIP n) (LANE_EVT_EN_POL_FLIP n)) [] := by
  obtain ⟨offNt, apart, flags⟩ := polarity_apart n
  have does : Does (((Work.start s).setB (LANE_CFG_RX_INV n) (!(Work.start s).on (LANE_CFG_RX_INV n))).set (LANE_STATUS_BLOCK_LOCK n) 0)
      [LANE_CFG_RX_INV n, LANE_STATUS_BLOCK_LOCK n] [] [] := ((Does.start _).set _ _ (by simp)).set _ _ (by simp)
  exact (does.mono (by simp)).evt n _ _ (by simp) offNt (does.1 _ (apart _ (by simp))) (does.1 _ (apart _ (by simp))) flags

theorem toggled_get (n : Fin 32) : (toggled (Work.start s) n).get (LANE_FLIPS n) = s.get (LANE_FLIPS n) ∧
    (toggled (Work.start s) n).get (LANE_STATUS_POL_FAIL n) = s.get (LANE_STATUS_POL_FAIL n) ∧
    (toggled (Work.start s) n).get (LANE_CFG_RX_INV n) = (if s.get (LANE_CFG_RX_INV n) = 0 then 1 else 0) := by
  simp (disch := (simp only [Fld.key, hid, hidDev, LANE_FLIPS, LANE_EVT_POL_FLIP, LANE_STATUS_BLOCK_LOCK, LANE_CFG_RX_INV, LANE_STATUS_POL_FAIL]; omega)) only
    [toggled, get_laneEvt, Work.setB, Work.get_set_ne, Work.get_set_self, Work.get_start, on_eq, true_and]
  by_cases h : s.get (LANE_CFG_RX_INV n) = 0
  · rw [if_pos h, decide_eq_false (by simpa using h)]; rfl
  · rw [if_neg h, decide_eq_true h]; rfl

theorem polarityWindow_eq (n : Fin 32) (comp : Fin 4097) (state : s.get (LANE_STATUS_STATE n) = LANE_ALIGN) (auto : s.get (LANE_CFG_POL_AUTO n) ≠ 0)
    (blocks : lanePrbs s.view n = false) (good : s.get (LANE_STATUS_POL_FAIL n) = 0) (many : 16 ≤ comp.val) :
    polarityWindow (Work.start s) n (0 : Fin 4097) comp = toggleCounted (toggled (Work.start s) n) n := by
  have blocks' : lanePrbs (Work.start s) n = false := blocks
  exact if_pos ⟨state, by simpa [on_eq] using auto, by simp [blocks'], by simpa [on_eq] using good, many, rfl⟩

theorem polarityWindow_answers (hs : s.wf = true) (n : Fin 32) (comp : Fin 4097) (state : s.get (LANE_STATUS_STATE n) = LANE_ALIGN)
    (auto : s.get (LANE_CFG_POL_AUTO n) ≠ 0) (blocks : lanePrbs s.view n = false) (good : s.get (LANE_STATUS_POL_FAIL n) = 0)
    (flips : s.get (LANE_FLIPS n) < 2) (many : 16 ≤ comp.val) :
    Answers (.polarityWindow n 0 comp) s (fun t => t.get (LANE_CFG_RX_INV n) = (if s.get (LANE_CFG_RX_INV n) = 0 then 1 else 0) ∧
      t.get (LANE_STATUS_POL_FAIL n) = (if s.get (LANE_FLIPS n) = 0 then 0 else 1) ∧
      Flagged s t n (LANE_EVT_POL_FLIP n) (LANE_EVT_EN_POL_FLIP n) ∧
      Frame s t [LANE_CFG_RX_INV n, LANE_STATUS_BLOCK_LOCK n, LANE_EVT_POL_FLIP n, LANE_FLIPS n, LANE_STATUS_POL_FAIL n]) := by
  have does := toggled_does (s := s) n
  obtain ⟨count, fail, inv⟩ := toggled_get (s := s) n
  have rises := laneEvt_set (((Work.start s).setB (LANE_CFG_RX_INV n) (!(Work.start s).on (LANE_CFG_RX_INV n))).set (LANE_STATUS_BLOCK_LOCK n) 0) n
    (LANE_EVT_POL_FLIP n) (LANE_EVT_EN_POL_FLIP n) rfl
  rw [← toggled] at rises
  refine answers_of (F := fun w => polarityWindow w n (0 : Fin 4097) comp) rfl (polarityWindow_eq n comp state auto blocks good many) ?_
  generalize toggled (Work.start s) n = d at *
  have counted : Does (toggleCounted d n) [LANE_CFG_RX_INV n, LANE_STATUS_BLOCK_LOCK n, LANE_EVT_POL_FLIP n, LANE_FLIPS n,
      LANE_STATUS_POL_FAIL n] ([] ++ evtFires s n (LANE_EVT_POL_FLIP n) (LANE_EVT_EN_POL_FLIP n)) [] :=
    Does.ite (fun _ => (does.set _ _ (by simp)).set _ _ (by simp)) (fun _ => does.set _ _ (by simp))
  have kept : ∀ f : Fld, f.key ≠ (LANE_FLIPS n).key → f.key ≠ (LANE_STATUS_POL_FAIL n).key → (toggleCounted d n).get f = d.get f := fun f h h' => by
    rw [toggleCounted, flipped]
    split <;> simp only [Work.get_set_ne _ _ _ _ h, Work.get_set_ne _ _ _ _ h']
  refine ⟨?_, ?_, ⟨?_, ?_⟩, counted.frame hs⟩
  · rw [Work.finish_get _ _ hs, kept _ (by simp only [Fld.key, hid, hidDev, LANE_FLIPS, LANE_CFG_RX_INV]; omega)
      (by simp only [Fld.key, LANE_STATUS_POL_FAIL, LANE_CFG_RX_INV]; omega), inv]
  · have small : (flipped d n).get (LANE_FLIPS n) = s.get (LANE_FLIPS n) + 1 := by
      rw [flipped, Work.get_set_self, count]
      refine Nat.mod_eq_of_lt ?_
      show _ < 2 ^ 2
      omega
    rw [Work.finish_get _ _ hs, toggleCounted, small]
    by_cases first : s.get (LANE_FLIPS n) = 0
    · rw [if_neg (by omega), if_pos first, flipped, Work.get_set_ne _ _ _ _ (by simp only [Fld.key, hid, hidDev, LANE_FLIPS, LANE_STATUS_POL_FAIL]; omega), fail, good]
    · rw [if_pos (by omega), if_neg first, Work.get_set_self]
      rfl
  · rw [Work.finish_get _ _ hs, kept _ (by simp only [Fld.key, hid, hidDev, LANE_FLIPS, LANE_EVT_POL_FLIP]; omega)
      (by simp only [Fld.key, LANE_STATUS_POL_FAIL, LANE_EVT_POL_FLIP]; omega)]
    exact rises
  · exact counted.held

/-! ## Adaptation ends bring-up (R340, R345) -/

/-- What a lane that has adapted writes before its flag rises. -/
def adaptedFlds (n : Nat) : List Fld :=
  equaliserFlds n ++ [LANE_STATUS_STATE n, LANE_STATUS_FROZEN n, LANE_KEPT n, LANE_STATUS_BLOCK_LOCK n, LANE_STATUS_HIBER n]

theorem adapted_apart : ∀ n : Fin 32, OffNt (adaptedFlds n ++ [LANE_EVT_UP n]) ∧ (∀ g ∈ adaptedFlds n, (LANE_EVT_UP n).key ≠ g.key ∧ (LANE_EVT_EN_UP n).key ≠ g.key) ∧
    (LANE_EVT_EN_UP n).key ≠ (LANE_EVT_UP n).key ∧ ∀ g ∈ adaptedFlds n ++ [LANE_EVT_UP n], OfLanes g := by decide +kernel

/-- A lane as it enters UP, before its flag rises. -/
def adapted (w : Work s) (n ctle taps : Nat) : Work s :=
  (((setEqualiser (lockHeld w n) n ctle taps).set (LANE_STATUS_STATE n) LANE_UP).set (LANE_STATUS_FROZEN n) 0).set (LANE_KEPT n) 0

theorem adapted_does (n ctle taps : Nat) : Does (adapted (Work.start s) n ctle taps) (adaptedFlds n) [] [] := by
  have lock := (lockHeld_does (Does.start (s := s) (adaptedFlds n)) n (by simp [adaptedFlds]) (by simp [adaptedFlds])).equaliser n ctle taps (by simp [adaptedFlds])
  exact ((lock.set _ _ (by simp [adaptedFlds])).set _ _ (by simp [adaptedFlds])).set _ _ (by simp [adaptedFlds])

theorem adapted_shows (n : Fin 32) (ctle taps : Nat) : (adapted (Work.start s) n ctle taps).get (LANE_STATUS_STATE n) = LANE_UP ∧
    (adapted (Work.start s) n ctle taps).get (LANE_STATUS_FROZEN n) = 0 ∧
    (adapted (Work.start s) n ctle taps).get (LANE_STATUS_BLOCK_LOCK n) = b2n (!lanePrbs s.view n) ∧
    (adapted (Work.start s) n ctle taps).get (LANE_STATUS_HIBER n) = 0 := by
  obtain ⟨lock, hiber⟩ := lockHeld_get (Work.start s) n
  have equaliser := setEqualiser_writes (lockHeld (Work.start s) n) n ctle taps
  have off := equaliser_off n
  have eqLock := equaliser (LANE_STATUS_BLOCK_LOCK n) (fun g hg => (off g hg _ (by simp)).symm)
  have eqHiber := equaliser (LANE_STATUS_HIBER n) (fun g hg => (off g hg _ (by simp)).symm)
  simp (disch := (simp only [Fld.key, hid, hidDev, LANE_STATUS_STATE, LANE_STATUS_FROZEN, LANE_STATUS_BLOCK_LOCK, LANE_STATUS_HIBER, LANE_KEPT]; omega)) only
    [adapted, Work.get_set_ne, Work.get_set_self, eqLock, eqHiber, lock, hiber]
  exact ⟨rfl, rfl, trivial, trivial⟩

theorem adapted_equaliser (n : Fin 32) (ctle taps : Nat) (f : Fld) (hf : f ∈ equaliserFlds n) :
    (adapted (Work.start s) n ctle taps).get f = (setEqualiser (lockHeld (Work.start s) n) n ctle taps).get f := by
  have off := equaliser_off n f hf
  rw [adapted, Work.get_set_ne _ _ _ _ (off _ (by simp)), Work.get_set_ne _ _ _ _ (off _ (by simp)), Work.get_set_ne _ _ _ _ (off _ (by simp))]

theorem adaptConverged_answers (hs : s.wf = true) (n : Fin 32) (ctle : Fin 32) (taps : BitVec 64) (state : s.get (LANE_STATUS_STATE n) = LANE_ADAPT)
    (alone : linkOf s.view n = none) : Answers (.adaptConverged n ctle taps) s (fun t =>
      t.get (LANE_STATUS_STATE n) = LANE_UP ∧ EqualiserAt t n ctle taps.toNat ∧ t.get (LANE_STATUS_FROZEN n) = 0 ∧
      t.get (LANE_STATUS_BLOCK_LOCK n) = b2n (!lanePrbs s.view n) ∧ t.get (LANE_STATUS_HIBER n) = 0 ∧
      Flagged s t n (LANE_EVT_UP n) (LANE_EVT_EN_UP n) ∧
      Frame s t (equaliserFlds n ++ [LANE_STATUS_STATE n, LANE_STATUS_FROZEN n, LANE_KEPT n, LANE_EVT_UP n, LANE_STATUS_BLOCK_LOCK n, LANE_STATUS_HIBER n])) := by
  obtain ⟨offNt, apart, flags, lanes⟩ := adapted_apart n
  have does := adapted_does (s := s) n ctle taps.toNat
  obtain ⟨up, frozen, lock, hiber⟩ := adapted_shows (s := s) n ctle taps.toNat
  obtain ⟨ctleHeld, tapsHeld⟩ := setEqualiser_holds (lockHeld (Work.start s) n) n ctle taps.toNat ctle.isLt
  have equal := fun f => adapted_equaliser (s := s) n ctle taps.toNat f
  have runs : adaptConverged (Work.start s) n ctle taps.toNat = linkLaneUp (laneEvt (adapted (Work.start s) n ctle taps.toNat) n (LANE_EVT_UP n) (LANE_EVT_EN_UP n)) n :=
    if_pos state
  generalize adapted (Work.start s) n ctle taps.toNat = d at *
  have marked := (does.mono (fs' := adaptedFlds n ++ [LANE_EVT_UP n]) (List.subset_append_left _ _)).evt n
    (LANE_EVT_UP n) (LANE_EVT_EN_UP n) (by simp) offNt (does.1 _ (fun g hg => (apart g hg).1)) (does.1 _ (fun g hg => (apart g hg).2)) flags
  have none_ : linkLaneUp (laneEvt d n (LANE_EVT_UP n) (LANE_EVT_EN_UP n)) n = laneEvt d n (LANE_EVT_UP n) (LANE_EVT_EN_UP n) := by
    rw [linkLaneUp, linkOf_none_of_keeps alone marked.1 lanes]
  obtain ⟨flagged, frame⟩ := flagged_finish (n := n) (flag := LANE_EVT_UP n) (enable := LANE_EVT_EN_UP n) hs does rfl offNt apart flags
  have told : ∀ f ∈ adaptedFlds n, (laneEvt d n (LANE_EVT_UP n) (LANE_EVT_EN_UP n)).finish.get f = d.get f := fun f hf => by
    rw [Work.finish_get _ _ hs, get_laneEvt _ _ _ _ _ (apart f hf).1.symm]
  refine answers_of (F := fun w => adaptConverged w n ctle taps.toNat) rfl (runs.trans none_) ⟨?_, ⟨?_, fun i hi => ?_⟩, ?_, ?_, ?_, flagged, ?_⟩
  · rw [told _ (by simp [adaptedFlds]), up]
  · rw [told _ (by simp [adaptedFlds, equaliserFlds]), equal _ (by simp [equaliserFlds]), ctleHeld]
  · have tap : LANE_DFE_TAP n (i / 4) (i % 4) ∈ equaliserFlds n := List.mem_cons_of_mem _ (List.mem_map.2 ⟨i, List.mem_range.2 hi, rfl⟩)
    rw [told _ (List.mem_append_left _ tap), equal _ tap, tapsHeld i hi]
  · rw [told _ (by simp [adaptedFlds]), frozen]
  · rw [told _ (by simp [adaptedFlds]), lock]
  · rw [told _ (by simp [adaptedFlds]), hiber]
  · refine ⟨fun f hf => frame.1 f (fun g hg => hf g ?_), frame.2⟩
    simp only [adaptedFlds, List.mem_append, List.mem_cons, List.not_mem_nil, or_false] at hg ⊢
    tauto

theorem laneBringUp : Clause.LaneBringUp := fun _ hs =>
  ⟨fun m => quadPllLock_answers hs m, fun n => signalDetect_answers hs n, fun n => cdrLock_answers hs n, fun n => blockLock_align hs n,
    fun n => blockLock_later hs n, fun n comp => polarityWindow_answers hs n comp, fun n ctle taps => adaptConverged_answers hs n ctle taps⟩

/-! ## The transmit ball (R333, R344, R352) -/

/-- The registers that SER_TX of a lane follows. -/
def TxFld (n : Nat) (f : Fld) : Prop :=
  f ∈ [THERM_STORM_TRIPPED, LANE_STATUS_STATE n, LANE_CFG_ROLE n, LANE_CTRL_LOOP n, LANE_PRBS_PAT n, LANE_STATUS_LULL_TX n, LANE_STATUS_PEER_VALID n,
    LANE_STATUS_PEER_IDX n] ∨ LinkCfg f

theorem linkOf_congr {s' : State} {w : Work s} {w' : Work s'} {n : Nat} (h : ∀ f, TxFld n f → w.get f = w'.get f) : linkOf w n = linkOf w' n := by
  have cfg : ∀ l < 32, w.get (LINK_CFG_EN l) = w'.get (LINK_CFG_EN l) ∧ w.get (LINK_CFG_BASE l) = w'.get (LINK_CFG_BASE l) ∧
      w.get (LINK_CFG_WIDTH l) = w'.get (LINK_CFG_WIDTH l) := fun l hl =>
    ⟨h _ (.inr ⟨l, hl, by simp⟩), h _ (.inr ⟨l, hl, by simp⟩), h _ (.inr ⟨l, hl, by simp⟩)⟩
  have found : (List.range 32).find? (fun l => w.on (LINK_CFG_EN l) && (linkLanes w l).contains n) =
      (List.range 32).find? (fun l => w'.on (LINK_CFG_EN l) && (linkLanes w' l).contains n) := List.find?_congr (fun l hl => by
    obtain ⟨en, base, width⟩ := cfg l (List.mem_range.1 hl)
    simp only [Work.on, linkLanes, linkWidth, en, base, width])
  rw [linkOf, linkOf, found]
  refine Option.map_congr (fun l hl => ?_)
  obtain ⟨-, base, -⟩ := cfg l (List.mem_range.1 (List.mem_of_find?_eq_some hl))
  simp only [rxIndex, Work.on, base, h _ (.inl (show LANE_STATUS_PEER_VALID n ∈ _ by simp)), h _ (.inl (show LANE_STATUS_PEER_IDX n ∈ _ by simp))]
  rfl

theorem serTx_congr {s' : State} {w : Work s} {w' : Work s'} {n : Nat} (h : ∀ f, TxFld n f → w.get f = w'.get f) (links : w.dev.links = w'.dev.links) :
    serTx w n = serTx w' n := by
  have regs := fun f hf => h f (.inl hf)
  simp only [List.mem_cons, List.not_mem_nil, or_false, forall_eq_or_imp, forall_eq] at regs
  obtain ⟨storm, state, role, loop, pat, lull, -, -⟩ := regs
  simp only [serTx, laneState, Work.on, Work.link, storm, state, role, loop, pat, lull, linkOf_congr h, links]
  rfl

theorem serTx_lt (w : Work s) (n : Nat) : serTx w n < 8 := by
  simp only [serTx]
  split_ifs <;> omega

/-- What the transmit ball and the power of a quad's PLL hold is none of them. -/
theorem tx_apart : ∀ n : Fin 32, ∀ g ∈ [LANE_TX n, QUAD_LOCKED (n / 8)], ∀ f ∈ [THERM_STORM_TRIPPED, LANE_STATUS_STATE n, LANE_CFG_ROLE n, LANE_CTRL_LOOP n,
    LANE_PRBS_PAT n, LANE_STATUS_LULL_TX n, LANE_STATUS_PEER_VALID n, LANE_STATUS_PEER_IDX n] ++ (List.range 32).flatMap (fun l => [LINK_CFG_EN l, LINK_CFG_BASE l,
    LINK_CFG_WIDTH l]), f.key ≠ g.key := by decide +kernel

theorem txFld_ne {n : Fin 32} {f g : Fld} (hf : TxFld n f) (hg : g ∈ [LANE_TX n, QUAD_LOCKED (n / 8)]) : f.key ≠ g.key := by
  refine tx_apart n g hg f (List.mem_append.2 (hf.imp id ?_))
  rintro ⟨l, hl, hf⟩
  exact List.mem_flatMap.2 ⟨l, List.mem_range.2 hl, hf⟩

theorem serTx_showTx (w : Work s) (n : Fin 32) : serTx (showTx w n) n = serTx w n := by
  refine serTx_congr (fun f hf => showTx_get _ _ _ (txFld_ne hf (by simp))) ?_
  rw [showTx]
  split <;> rfl

theorem showTx_shows (w : Work s) (n : Nat) : (showTx w n).get (LANE_TX n) = serTx w n := by
  rw [showTx]
  split
  next h => exact h.symm
  next h =>
    rw [Work.get_emit, Work.get_set_self]
    exact Nat.mod_eq_of_lt (serTx_lt w n)

theorem showTx_does {w : Work s} {fs : List Fld} {fired : List Firing} {n : Nat} (h : Does w fs fired []) (hf : LANE_TX n ∈ fs)
    (kept : w.get (LANE_TX n) = s.get (LANE_TX n)) :
    Does (showTx w n) fs fired (if serTx w n = s.get (LANE_TX n) then [] else [.ball "SER_TX" n (serTx w n)]) := by
  rw [showTx, kept]
  split
  · exact h
  · exact (h.set _ _ hf).emit _

/-- SER_TX as a work leaves it that has shown it and then changed nothing that it follows. -/
theorem shown_finish (hs : s.wf = true) {w w' : Work s} {fs : List Fld} {fired : List Firing} {n : Fin 32}
    (does : Does w' fs fired (if serTx w n = s.get (LANE_TX n) then [] else [.ball "SER_TX" n (serTx w n)]))
    (kept : ∀ f, f.key ≠ (QUAD_LOCKED (n / 8)).key → w'.get f = (showTx w n).get f) (links : w'.dev.links = w.dev.links) : Shown s w'.finish n := by
  have same : serTx w'.finish.view n = serTx w n := by
    rw [← serTx_showTx w]
    refine serTx_congr (fun f hf => ?_) ?_
    · rw [← kept f (txFld_ne hf (by simp))]
      exact Work.finish_get _ _ hs
    · rw [show w'.finish.view.dev.links = w'.dev.links from rfl, links, showTx]
      split <;> rfl
  rw [Shown, same, Work.finish_get _ _ hs, kept _ (by simp only [Fld.key, hid, hidDev, LANE_TX, QUAD_LOCKED]; omega), showTx_shows, does.dev]
  exact ⟨rfl, rfl⟩

/-! ## A lane that shows another state (R340, R352) -/

/-- The registers of a lane that leaves for another state, but for its transmit ball. -/
def bareFlds (n : Nat) : List Fld := leaveFlds n ++ [LANE_SIG n, LANE_FLIPS n, LANE_STATUS_POL_FAIL n, LANE_STATUS_HIBER n, LANE_STATUS_STATE n]

theorem bareFlds_bringUp (n : Nat) : bareFlds n ++ [LANE_TX n] ⊆ bringUpFlds n := by
  simp [bareFlds, leaveFlds, scanFlds, bringUpFlds]

/-- The registers that CFG and CTRL may write beside those of bring-up. -/
def writtenFlds (n : Nat) : List Fld :=
  [LANE_CFG_ROLE n, LANE_CFG_TX_INV n, LANE_CFG_RX_INV n, LANE_CFG_POL_AUTO n, LANE_STATUS_LULL_TX n, LANE_CTRL_LOOP n]

theorem bringUp_lanes : ∀ n : Fin 32, ∀ g ∈ bringUpFlds n, OfLanes g := by decide +kernel

theorem bare_apart : ∀ n : Fin 32, OffNt (writtenFlds n ++ bareFlds n ++ [LANE_TX n, QUAD_LOCKED (n / 8)]) ∧
    (∀ g ∈ writtenFlds n ++ bareFlds n ++ [LANE_TX n, QUAD_LOCKED (n / 8)], OfLanes g) ∧
    (∀ g ∈ writtenFlds n ++ bareFlds n, (LANE_TX n).key ≠ g.key) ∧
    (∀ f ∈ [LANE_SCAN_CFG_BUSY n, LANE_EVT_SCAN_DONE n, LANE_EVT_EN_SCAN_DONE n, LANE_STATUS_STATE n, DEV_STATUS_REFCLK_OK], ∀ g ∈ writtenFlds n, f.key ≠ g.key) ∧
    (∀ f ∈ writtenFlds n ++ [DEV_STATUS_REFCLK_OK], ∀ g ∈ bareFlds n ++ [LANE_TX n, QUAD_LOCKED (n / 8)], f.key ≠ g.key) ∧
    ∀ g ∈ bareFlds n, (QUAD_LOCKED (n / 8)).key ≠ g.key := by decide +kernel

section

variable {w : Work s} {extra : List Fld} (n : Fin 32) (h : Does w extra [] []) (sub : extra ⊆ writtenFlds n)
include h sub

theorem scanKept_of : ScanKept w n := fun f hf => h.1 f (fun g hg => (bare_apart n).2.2.2.1 f (by
  simp only [List.mem_cons, List.not_mem_nil, or_false] at hf ⊢
  tauto) g (sub hg))

omit h in
theorem offNt_of : OffNt (extra ++ bareFlds n) := fun g hg => (bare_apart n).1 g (by
  refine List.mem_append_left _ ?_
  exact List.append_subset.2 ⟨List.Subset.trans sub (List.subset_append_left _ _), List.subset_append_right _ _⟩ hg)

/-- A lane that leaves for another state, with its transmit ball as that state shows it. -/
theorem left_does (fresh : Work s → Work s) (hfresh : ∀ w', Does w' (extra ++ bareFlds n) (scanFires s n) [] → Does (fresh w') (extra ++ bareFlds n) (scanFires s n) []) :
    Does (fresh (laneLeave w n)) (extra ++ bareFlds n) (scanFires s n) [] := by
  refine hfresh _ ?_
  have leave := (h.mono (fs' := extra ++ bareFlds n) (List.subset_append_left _ _)).leave n
    (List.Subset.trans (List.subset_append_left _ _) (List.subset_append_right _ _)) (offNt_of n sub) (scanKept_of n h sub)
  rwa [List.nil_append] at leave

end

/-- A lane as it starts, before its transmit ball follows. -/
def startedBare (w : Work s) (n : Nat) : Work s := (laneCleared w n).set (LANE_STATUS_STATE n)
  (if (laneCleared w n).get (LANE_CFG_ROLE n) = 0 ∨ !(laneCleared w n).on DEV_STATUS_REFCLK_OK then 0 else LANE_SIGNAL)

/-- A lane as a test loop takes it, before its transmit ball follows. -/
def loopedBare (w : Work s) (n : Nat) : Work s := (laneLeave w n).set (LANE_STATUS_STATE n) LANE_LOOP

theorem startedBare_does {w : Work s} {extra : List Fld} (n : Fin 32) (h : Does w extra [] []) (sub : extra ⊆ writtenFlds n) :
    Does (startedBare w n) (extra ++ bareFlds n) (scanFires s n) [] := by
  refine left_does n h sub (fun w' => ((((w'.set (LANE_SIG n) 0).set (LANE_FLIPS n) 0).set (LANE_STATUS_POL_FAIL n) 0).set (LANE_STATUS_HIBER n) 0).set
    (LANE_STATUS_STATE n) _) (fun w' h' => ?_)
  refine ((((h'.set _ _ ?_).set _ _ ?_).set _ _ ?_).set _ _ ?_).set _ _ ?_
  all_goals simp [bareFlds]

theorem loopedBare_does {w : Work s} {extra : List Fld} (n : Fin 32) (h : Does w extra [] []) (sub : extra ⊆ writtenFlds n) :
    Does (loopedBare w n) (extra ++ bareFlds n) (scanFires s n) [] :=
  left_does n h sub (fun w' => w'.set (LANE_STATUS_STATE n) LANE_LOOP) (fun w' h' => h'.set _ _ (by simp [bareFlds]))

/-- R340, R348, R350: what a lane shows that has left, whatever it goes on to. -/
abbrev LeftIn (w : Work s) (n : Nat) : Prop :=
  w.get (LANE_STATUS_BLOCK_LOCK n) = 0 ∧ w.get (LANE_CHECK_OK n) = 0 ∧ w.get (LANE_SCAN_CFG_BUSY n) = 0 ∧
    (s.get (LANE_SCAN_CFG_BUSY n) ≠ 0 → w.get (LANE_SCAN_CFG_ABORTED n) = 1 ∧ w.get (LANE_SCAN_CFG_DONE n) = 1)

theorem startedBare_left {w : Work s} (n : Fin 32) (kept : ScanKept w n) : LeftIn (startedBare w n) n := by
  have left := laneLeave_left w n
  rw [kept _ (by simp)] at left
  simp (disch := (simp only [Fld.key, hid, hidDev, LANE_CHECK_OK, LANE_STATUS_BLOCK_LOCK, LANE_SIG, LANE_FLIPS, LANE_STATUS_HIBER, LANE_STATUS_STATE,
    LANE_STATUS_POL_FAIL, LANE_SCAN_CFG_BUSY, LANE_SCAN_CFG_DONE, LANE_SCAN_CFG_ABORTED]; omega)) only
    [LeftIn, startedBare, laneCleared, Work.get_set_ne]
  exact left

theorem loopedBare_left {w : Work s} (n : Fin 32) (kept : ScanKept w n) : LeftIn (loopedBare w n) n := by
  have left := laneLeave_left w n
  rw [kept _ (by simp)] at left
  simp (disch := (simp only [Fld.key, hid, hidDev, LANE_CHECK_OK, LANE_STATUS_BLOCK_LOCK, LANE_STATUS_STATE,
    LANE_SCAN_CFG_BUSY, LANE_SCAN_CFG_DONE, LANE_SCAN_CFG_ABORTED]; omega)) only
    [LeftIn, loopedBare, Work.get_set_ne]
  exact left

/-- The registers that tell that a lane has left. -/
def leftFlds (n : Nat) : List Fld := [LANE_STATUS_BLOCK_LOCK n, LANE_CHECK_OK n, LANE_SCAN_CFG_BUSY n, LANE_SCAN_CFG_ABORTED n, LANE_SCAN_CFG_DONE n]

theorem left_apart : ∀ n : Fin 32, ∀ f ∈ LANE_STATUS_STATE n :: LANE_CTRL_LOOP n :: leftFlds n, f.key ≠ (LANE_TX n).key ∧
    f.key ≠ (QUAD_LOCKED (n / 8)).key ∧ f.lo < 32 ∧ (f.addr < 0x200000 ∨ 0x200800 ≤ f.addr) := by decide +kernel

/-- The flags of a lane that has left, in a state that keeps them. -/
theorem left_finish (hs : s.wf = true) {w w' : Work s} {n : Nat} (left : LeftIn w n) (kept : ∀ f ∈ leftFlds n, w'.get f = w.get f) : Left s w'.finish n := by
  simp only [leftFlds, List.mem_cons, List.not_mem_nil, or_false, forall_eq_or_imp, forall_eq] at kept
  obtain ⟨lock, check, busy, aborted, done⟩ := kept
  simp only [Left, Work.finish_get _ _ hs, lock, check, busy, aborted, done]
  exact left

/-! ## The answers of CFG and CTRL -/

theorem startedBare_state {w : Work s} {extra : List Fld} (n : Fin 32) (h : Does w extra [] []) (sub : extra ⊆ writtenFlds n) :
    (startedBare w n).get (LANE_STATUS_STATE n) = if w.get (LANE_CFG_ROLE n) = 0 ∨ s.get DEV_STATUS_REFCLK_OK = 0 then 0 else LANE_SIGNAL := by
  have clk : w.get DEV_STATUS_REFCLK_OK = s.get DEV_STATUS_REFCLK_OK :=
    h.1 _ (fun g hg => (bare_apart n).2.2.2.1 _ (by simp) g (sub hg))
  have cleared := laneCleared_writes w n
  rw [startedBare, Work.get_set_self, cleared _ (role_ne n n n.isLt), on_eq, cleared _ (refclk_ne n), clk]
  by_cases role : w.get (LANE_CFG_ROLE n) = 0 <;> by_cases c : s.get DEV_STATUS_REFCLK_OK = 0 <;> simp [role, c, LANE_STATUS_STATE, LANE_SIGNAL]

theorem tx_kept {w : Work s} {extra : List Fld} {fired : List Firing} (n : Fin 32) (h : Does w (extra ++ bareFlds n) fired []) (sub : extra ⊆ writtenFlds n) :
    w.get (LANE_TX n) = s.get (LANE_TX n) := by
  refine h.1 _ (fun g hg => (bare_apart n).2.2.1 g ?_)
  exact List.append_subset.2 ⟨List.Subset.trans sub (List.subset_append_left _ _), List.subset_append_right _ _⟩ hg

/-- A lane that has left, with its transmit ball as its new state shows it. -/
theorem showTx_bare {w : Work s} {extra : List Fld} (n : Fin 32) (h : Does w (extra ++ bareFlds n) (scanFires s n) []) (sub : extra ⊆ writtenFlds n) :
    Does (showTx w n) (extra ++ bringUpFlds n) (scanFires s n) (if serTx w n = s.get (LANE_TX n) then [] else [.ball "SER_TX" n (serTx w n)]) := by
  obtain ⟨bare, tx⟩ := List.append_subset.1 (bareFlds_bringUp n)
  refine showTx_does (h.mono ?_) (List.mem_append_right _ (tx (by simp))) (tx_kept n h sub)
  exact List.append_subset.2 ⟨List.subset_append_left _ _, List.Subset.trans bare (List.subset_append_right _ _)⟩

theorem lanes_of {extra : List Fld} (n : Fin 32) (sub : extra ⊆ writtenFlds n) : ∀ g ∈ extra ++ bringUpFlds n, OfLanes g := by
  intro g hg
  obtain hg | hg := List.mem_append.1 hg
  · exact (bare_apart n).2.1 g (List.mem_append_left _ (List.mem_append_left _ (sub hg)))
  · refine bringUp_lanes n g hg

theorem laneLeave_writes_leaveFlds (w : Work s) (n : Nat) : Writes (· ∈ leaveFlds n) w (laneLeave w n) := by
  have drift : Writes (· ∈ leaveFlds n) w (laneDrift w n) := (LaneWorks.laneDrift_writes w n).mono (fun g hg => equaliser_leave n hg)
  have runs : Writes (· ∈ leaveFlds n) (laneDrift w n) (scanRuns (laneDrift w n) n) := (LaneWorks.scanRuns_writes _ n).mono (fun g hg => scanFlds_leave n (by
    simp only [scanFlds, List.mem_cons, List.not_mem_nil, or_false] at hg ⊢
    tauto))
  have gone : Writes (· ∈ leaveFlds n) w (scanGone (laneDrift w n) n) := by
    have marked := (((drift.trans runs).set (LANE_SCAN_CFG_ABORTED n) 1 (by simp [leaveFlds, scanFlds])).set (LANE_SCAN_CFG_BUSY n) 0 (by simp [leaveFlds, scanFlds])).set
      (LANE_SCAN_CFG_DONE n) 1 (by simp [leaveFlds, scanFlds])
    have flag := marked.set (LANE_EVT_SCAN_DONE n) 1 (by simp [leaveFlds, scanFlds])
    exact Writes.ite (Writes.ite marked (Writes.ite (flag.fire _) flag)) drift
  rw [laneLeave_eq]
  refine ((((((gone.set _ _ ?_).set _ _ ?_).set _ _ ?_).set _ _ ?_).set _ _ ?_).set _ _ ?_).set _ _ ?_
  all_goals simp [leaveFlds]

theorem loopedBare_writes (w : Work s) (n : Nat) : Writes (· ∈ bareFlds n) w (loopedBare w n) :=
  ((laneLeave_writes_leaveFlds w n).mono (fun g hg => List.mem_append_left _ hg)).set _ _ (by simp)

theorem startedBare_writes (w : Work s) (n : Nat) : Writes (· ∈ bareFlds n) w (startedBare w n) := by
  have leave : Writes (· ∈ bareFlds n) w (laneLeave w n) := (laneLeave_writes_leaveFlds w n).mono (fun g hg => List.mem_append_left _ hg)
  refine ((((leave.set _ _ ?_).set _ _ ?_).set _ _ ?_).set _ _ ?_).set _ _ ?_
  all_goals simp [bareFlds]

/-- What CFG and CTRL hold stays as a lane leaves and its transmit ball follows. -/
theorem written_apart (n : Fin 32) {f : Fld} (hf : f ∈ writtenFlds n) : (∀ g ∈ bareFlds n, f.key ≠ g.key) ∧ f.key ≠ (LANE_TX n).key ∧
    f.key ≠ (QUAD_LOCKED (n / 8)).key := by
  have apart := (bare_apart n).2.2.2.2.1 f (List.mem_append_left _ hf)
  exact ⟨fun g hg => apart g (List.mem_append_left _ hg), apart _ (by simp), apart _ (by simp)⟩

theorem laneStart_get (w : Work s) (n : Nat) (f : Fld) (lo : f.lo < 32) (addr : f.addr < 0x200000 ∨ 0x200800 ≤ f.addr) (tx : f.key ≠ (LANE_TX n).key) :
    (laneStart w n).get f = (startedBare w n).get f := by
  have bare : (laneStarted w n).get f = (startedBare w n).get f := showTx_get _ _ _ tx
  have cases_ : laneStart w n = laneStarted w n ∨ laneStart w n = linkLaneDown (laneStarted w n) n := by
    by_cases h : laneState w n = LANE_UP ∨ laneState w n = LANE_LULL
    · exact .inr (if_pos h)
    · exact .inl (if_neg h)
  obtain h | h := cases_
  · rw [h, bare]
  · rw [h, linkLaneDown_writes _ _ _ (key_ne_linkFld f lo addr), bare]

theorem laneStart_alone {w : Work s} {extra : List Fld} (n : Fin 32) (h : Does w extra [] []) (sub : extra ⊆ writtenFlds n)
    (alone : linkOf s.view n = none) : laneStart w n = showTx (startedBare w n) n := by
  have does := showTx_bare n (startedBare_does n h sub) sub
  have none_ : linkLaneDown (showTx (startedBare w n) n) n = showTx (startedBare w n) n := by
    rw [linkLaneDown, linkOf_none_of_keeps alone does.1 (lanes_of n sub)]
  by_cases up : laneState w n = LANE_UP ∨ laneState w n = LANE_LULL
  · exact (if_pos up).trans none_
  · exact if_neg up

theorem started_left {w : Work s} {extra : List Fld} (hs : s.wf = true) (n : Fin 32) (h : Does w extra [] []) (sub : extra ⊆ writtenFlds n) {w' : Work s}
    (kept : ∀ f ∈ leftFlds n, w'.get f = (laneStart w n).get f) : Left s w'.finish n := by
  refine left_finish hs (startedBare_left n (scanKept_of n h sub)) (fun f hf => (kept f hf).trans ?_)
  obtain ⟨tx, -, lo, addr⟩ := left_apart n f (by simp [hf])
  exact laneStart_get w n f lo addr tx

theorem started_state {w : Work s} {extra : List Fld} (n : Fin 32) (h : Does w extra [] []) (sub : extra ⊆ writtenFlds n) :
    (laneStart w n).get (LANE_STATUS_STATE n) = if w.get (LANE_CFG_ROLE n) = 0 ∨ s.get DEV_STATUS_REFCLK_OK = 0 then 0 else LANE_SIGNAL := by
  obtain ⟨tx, -, lo, addr⟩ := left_apart n (LANE_STATUS_STATE n) (by simp)
  rw [laneStart_get w n _ lo addr tx, startedBare_state n h sub]

theorem loop_does (n : Fin 32) (loop : Nat) : Does ((Work.start s).set (LANE_CTRL_LOOP n) loop) [LANE_CTRL_LOOP n] [] [] := (Does.start _).set _ _ (by simp)

theorem loop_sub (n : Nat) : [LANE_CTRL_LOOP n] ⊆ writtenFlds n := by simp [writtenFlds]

/-! ### CTRL.RESTART (R340) -/

theorem laneCtrlWrite_restart (path : Path) (n : Fin 32) (out : s.get (LANE_CTRL_LOOP n) = 0) (state : s.get (LANE_STATUS_STATE n) ≠ LANE_LOOP) :
    laneCtrlWrite (Work.start s) path n (1 + 4 * (Work.start s).get (LANE_CTRL_LOOP n)) = laneStart ((Work.start s).set (LANE_CTRL_LOOP n) 0) n := by
  have none_ : (Work.start s).get (LANE_CTRL_LOOP n) = 0 := out
  have kept : laneState ((Work.start s).set (LANE_CTRL_LOOP n) 0) n ≠ LANE_LOOP := by
    rw [laneState, Work.get_set_ne _ _ _ _ (by simp only [Fld.key, LANE_STATUS_STATE, LANE_CTRL_LOOP]; omega)]
    exact state
  have loop : bits (1 + 4 * 0) 2 2 = 0 := rfl
  have readapt_ : bit (1 + 4 * 0) 1 = false := rfl
  have restart : bit (1 + 4 * 0) 0 = true := rfl
  rw [none_, laneCtrlWrite, loop, readapt_, restart, if_neg (by simp), none_]
  exact if_neg kept

theorem laneRestart_answers (hs : s.wf = true) (n : Fin 32) (via : Via) (out : s.get (LANE_CTRL_LOOP n) = 0) (state : s.get (LANE_STATUS_STATE n) ≠ LANE_LOOP) :
    Answers (.laneRestart via n) s (fun t =>
      t.get (LANE_STATUS_STATE n) = (if s.get (LANE_CFG_ROLE n) = 0 ∨ s.get DEV_STATUS_REFCLK_OK = 0 then 0 else LANE_SIGNAL) ∧ Left s t n ∧
      (linkOf s.view n = none → Shown s t n ∧ Frame s t (LANE_CTRL_LOOP n :: bringUpFlds n))) := by
  have does := loop_does (s := s) n 0
  have role : ((Work.start s).set (LANE_CTRL_LOOP n) 0).get (LANE_CFG_ROLE n) = s.get (LANE_CFG_ROLE n) :=
    Work.get_set_ne _ _ _ _ (by simp only [Fld.key, LANE_CFG_ROLE, LANE_CTRL_LOOP]; omega)
  refine answers_of (F := fun w => laneCtrlWrite w (viaPath via) n (1 + 4 * w.get (LANE_CTRL_LOOP n))) rfl (laneCtrlWrite_restart _ n out state)
    ⟨?_, started_left hs n does (loop_sub n) (fun _ _ => rfl), fun alone => ?_⟩
  · rw [Work.finish_get _ _ hs, started_state n does (loop_sub n), role]
  · have shown := showTx_bare n (startedBare_does n does (loop_sub n)) (loop_sub n)
    rw [laneStart_alone n does (loop_sub n) alone]
    exact ⟨shown_finish hs shown (fun _ _ => rfl) (by rw [showTx]; split <;> rfl), shown.frame hs⟩

/-! ### A test loop (R352) -/

theorem loop_bits : ∀ loop : Fin 4, bits (4 * loop.val) 2 2 = loop.val ∧ bit (4 * loop.val) 1 = false ∧ bit (4 * loop.val) 0 = false := by decide

theorem laneCtrlWrite_loop (path : Path) (n : Fin 32) (loop : Fin 4) (some_ : loop ≠ 0) (test : laneTest s.view n = true) (out : s.get (LANE_CTRL_LOOP n) = 0) :
    laneCtrlWrite (Work.start s) path n (4 * loop.val) = showTx (loopedBare ((Work.start s).set (LANE_CTRL_LOOP n) loop) n) n := by
  obtain ⟨value, readapt_, restart⟩ := loop_bits loop
  have none_ : (Work.start s).get (LANE_CTRL_LOOP n) = 0 := out
  have test' : laneTest (Work.start s) n = true := test
  have nonzero : loop.val ≠ 0 := fun h => some_ (Fin.ext h)
  rw [laneCtrlWrite, value, readapt_, restart, test', none_, if_neg (by simp)]
  simp only [if_pos nonzero, if_true, Bool.false_eq_true, if_false]
  rfl

theorem laneLoopWrite_answers (hs : s.wf = true) (n : Fin 32) (via : Via) (loop : Fin 4) (some_ : loop ≠ 0) (test : laneTest s.view n = true)
    (out : s.get (LANE_CTRL_LOOP n) = 0) : Answers (.laneLoopWrite via n loop) s (fun t => t.get (LANE_CTRL_LOOP n) = loop ∧
      t.get (LANE_STATUS_STATE n) = LANE_LOOP ∧ Left s t n ∧ Shown s t n ∧
      t.dev = { s.view.dev with held := s.dev.held ++ scanFires s n, out := t.dev.out } ∧ Frame s t (LANE_CTRL_LOOP n :: bringUpFlds n)) := by
  have does := loop_does (s := s) n loop
  have bare := loopedBare_does n does (loop_sub n)
  have shown := showTx_bare n bare (loop_sub n)
  have value : (loopedBare ((Work.start s).set (LANE_CTRL_LOOP n) loop) n).get (LANE_CTRL_LOOP n) = loop := by
    rw [loopedBare_writes _ _ _ (written_apart n (by simp [writtenFlds])).1, Work.get_set_self]
    exact Nat.mod_eq_of_lt loop.isLt
  refine answers_of (F := fun w => laneCtrlWrite w (viaPath via) n (4 * loop.val)) rfl (laneCtrlWrite_loop _ n loop some_ test out)
    ⟨?_, ?_, left_finish hs (loopedBare_left n (scanKept_of n does (loop_sub n))) (fun f hf => showTx_get _ _ _ (left_apart n f (by simp [hf])).1),
      shown_finish hs shown (fun _ _ => rfl) (by rw [showTx]; split <;> rfl), ?_, shown.frame hs⟩
  · rw [Work.finish_get _ _ hs, showTx_get _ _ _ (left_apart n _ (by simp)).1, value]
  · rw [Work.finish_get _ _ hs, showTx_get _ _ _ (left_apart n _ (by simp)).1, loopedBare, Work.get_set_self]
    rfl
  · rw [shown.dev]

theorem laneLoopWrite_rejected (hs : s.wf = true) (n : Fin 32) (via : Via) (loop : Fin 4) (some_ : loop ≠ 0) (test : laneTest s.view n = false) :
    Answers (.laneLoopWrite via n loop) s (fun t => Counted s t LOADER_REJECT_COUNT ∧ t.get (LANE_CTRL_LOOP n) = s.get (LANE_CTRL_LOOP n) ∧
      Logged s t 3 (viaPath via).code 63 (LANE_CTRL_LOOP n).addr ∧
      t.dev = { s.view.dev with held := s.dev.held ++ [s.firing 487, s.firing 503] } ∧
      Frame s t ([LOADER_REJECT_COUNT, LOADER_REJECT_VALID, LOADER_REJECT_PATH, LOADER_REJECT_ADDR_LO, LOADER_REJECT_ADDR_HI] ++
        logFlds (s.get DEV_ERRLOG_HEAD))) := by
  obtain ⟨value, -, -⟩ := loop_bits loop
  have test' : laneTest (Work.start s) n = false := test
  have nonzero : loop.val ≠ 0 := fun h => some_ (Fin.ext h)
  have tile : tileOfAddr (LANE_CTRL_LOOP n).addr = 63 := by
    have : ∀ n : Fin 32, tileOfAddr (LANE_CTRL_LOOP n).addr = 63 := by decide +kernel
    exact this n
  obtain ⟨w, eq, logged, count, get, quiet, dev, -⟩ := reject_effect (Work.start s) (viaPath via) (LANE_CTRL_LOOP n).addr hs (Work.get_start s _)
    (by rw [tile]; decide)
  rw [tile] at logged
  have runs : laneCtrlWrite (Work.start s) (viaPath via) n (4 * loop.val) = w := by
    rw [laneCtrlWrite, value, test', if_pos ⟨nonzero, rfl⟩, eq]
  refine answers_of (F := fun w => laneCtrlWrite w (viaPath via) n (4 * loop.val)) rfl runs ⟨?_, ?_, logged, ?_, frame_finish hs (fun f hf => ?_) (quiet.2 (quiet_start s))⟩
  · rw [Counted, Work.finish_get _ _ hs, count, Work.get_start]
  · have apart : ∀ n : Fin 32, ∀ g ∈ rejectRegs, (LANE_CTRL_LOOP n).key ≠ g.key := by decide +kernel
    rw [Work.finish_get _ _ hs, get _ (apart n) (key_ne_logFlds _ _ (by simp [LANE_CTRL_LOOP]) (by simp only [LANE_CTRL_LOOP]; omega)), Work.get_start]
  · exact dev
  · exact (get f (fun g hg => hf g (List.mem_append_left _ hg)) (fun g hg => hf g (List.mem_append_right _ hg))).trans (Work.get_start s f)

/-! ### A write of CFG (R333, R335, R340) -/

/-- The fields of CFG as a write leaves them; a lane that is no BRISOL lane any longer leaves its lull. -/
def cfgWritten (w : Work s) (n v : Nat) : Work s :=
  let w := ((w.set (LANE_CFG_ROLE n) (bits v 0 2)).set (LANE_CFG_TX_INV n) (bits v 2 1)).set (LANE_CFG_RX_INV n) (bits v 3 1)
  let w := w.set (LANE_CFG_POL_AUTO n) (bits v 4 1)
  if bits v 0 2 = 2 then w else w.set (LANE_STATUS_LULL_TX n) 0

/-- A write of CFG that selects another role than TEST ends a test loop. -/
def cfgPrepared (w : Work s) (n v : Nat) : Work s := if bits v 0 2 = 3 then cfgWritten w n v else (cfgWritten w n v).set (LANE_CTRL_LOOP n) 0

/-- What CFG writes beside the registers of bring-up. -/
def cfgFlds (n v : Nat) : List Fld :=
  [LANE_CFG_ROLE n, LANE_CFG_TX_INV n, LANE_CFG_RX_INV n, LANE_CFG_POL_AUTO n, LANE_STATUS_LULL_TX n] ++ if bits v 0 2 = 3 then [] else [LANE_CTRL_LOOP n]

theorem cfgFlds_written (n v : Nat) : cfgFlds n v ⊆ writtenFlds n := by
  rw [cfgFlds]
  split <;> simp [writtenFlds]

theorem cfgFlds_frame (n v : Nat) : cfgFlds n v ++ bringUpFlds n ++ [QUAD_LOCKED (n / 8)] ⊆ bringUpFlds n ++ [LANE_CFG_ROLE n, LANE_CFG_TX_INV n,
    LANE_CFG_RX_INV n, LANE_CFG_POL_AUTO n, LANE_STATUS_LULL_TX n, QUAD_LOCKED (n / 8)] ++ if bits v 0 2 = 3 then [] else [LANE_CTRL_LOOP n] := by
  generalize bringUpFlds n = up
  rw [cfgFlds]
  split <;> simp

theorem cfgWritten_does (n v : Nat) : Does (cfgWritten (Work.start s) n v) [LANE_CFG_ROLE n, LANE_CFG_TX_INV n, LANE_CFG_RX_INV n, LANE_CFG_POL_AUTO n,
    LANE_STATUS_LULL_TX n] [] [] := by
  have fields := ((((Does.start (s := s) [LANE_CFG_ROLE n, LANE_CFG_TX_INV n, LANE_CFG_RX_INV n, LANE_CFG_POL_AUTO n, LANE_STATUS_LULL_TX n]).set (LANE_CFG_ROLE n)
    (bits v 0 2) (by simp)).set (LANE_CFG_TX_INV n) (bits v 2 1) (by simp)).set (LANE_CFG_RX_INV n) (bits v 3 1) (by simp)).set (LANE_CFG_POL_AUTO n) (bits v 4 1) (by simp)
  exact Does.ite (fun _ => fields) (fun _ => fields.set _ _ (by simp))

theorem cfgPrepared_does (n v : Nat) : Does (cfgPrepared (Work.start s) n v) (cfgFlds n v) [] [] := by
  have written := cfgWritten_does (s := s) n v
  rw [cfgPrepared, cfgFlds]
  split
  · simpa using written
  · exact (written.mono (List.subset_append_left _ _)).set _ _ (by simp)

theorem cfgPrepared_get (w : Work s) (n v : Nat) : (cfgPrepared w n v).get (LANE_CFG_ROLE n) = bits v 0 2 ∧
    (cfgPrepared w n v).get (LANE_CFG_TX_INV n) = bits v 2 1 ∧ (cfgPrepared w n v).get (LANE_CFG_RX_INV n) = bits v 3 1 ∧
    (cfgPrepared w n v).get (LANE_CFG_POL_AUTO n) = bits v 4 1 ∧ (bits v 0 2 ≠ 3 → (cfgPrepared w n v).get (LANE_CTRL_LOOP n) = 0) := by
  have fields : ∀ f ∈ [LANE_CFG_ROLE n, LANE_CFG_TX_INV n, LANE_CFG_RX_INV n, LANE_CFG_POL_AUTO n], (cfgPrepared w n v).get f =
      ((((w.set (LANE_CFG_ROLE n) (bits v 0 2)).set (LANE_CFG_TX_INV n) (bits v 2 1)).set (LANE_CFG_RX_INV n) (bits v 3 1)).set (LANE_CFG_POL_AUTO n)
        (bits v 4 1)).get f := fun f hf => by
    have apart : f.key ≠ (LANE_CTRL_LOOP n).key ∧ f.key ≠ (LANE_STATUS_LULL_TX n).key := by
      simp only [List.mem_cons, List.not_mem_nil, or_false] at hf
      obtain rfl | rfl | rfl | rfl := hf <;>
        simp only [Fld.key, LANE_CFG_ROLE, LANE_CFG_TX_INV, LANE_CFG_RX_INV, LANE_CFG_POL_AUTO, LANE_CTRL_LOOP, LANE_STATUS_LULL_TX] <;> omega
    simp only [cfgPrepared, cfgWritten]
    split_ifs <;> simp only [Work.get_set_ne _ _ _ _ apart.1, Work.get_set_ne _ _ _ _ apart.2]
  simp only [List.mem_cons, List.not_mem_nil, or_false, forall_eq_or_imp, forall_eq] at fields
  obtain ⟨role, txInv, rxInv, polAuto⟩ := fields
  have small : ∀ lo width, bits v lo width % 2 ^ width = bits v lo width := fun lo width => Nat.mod_eq_of_lt (Nat.mod_lt _ (by positivity))
  rw [role, txInv, rxInv, polAuto]
  simp (disch := (simp only [Fld.key, LANE_CFG_ROLE, LANE_CFG_TX_INV, LANE_CFG_RX_INV, LANE_CFG_POL_AUTO]; omega)) only [Work.get_set_ne, Work.get_set_self]
  refine ⟨small 0 2, small 2 1, small 3 1, small 4 1, fun other => ?_⟩
  rw [cfgPrepared, if_neg other, Work.get_set_self]
  rfl

theorem laneCfgWrite_eq (n : Fin 32) (v : Nat) (changes : s.get (LANE_CFG_ROLE n) ≠ bits v 0 2 ∨ s.get (LANE_CFG_TX_INV n) ≠ bits v 2 1 ∨
      s.get (LANE_CFG_RX_INV n) ≠ bits v 3 1 ∨ s.get (LANE_CFG_POL_AUTO n) ≠ bits v 4 1)
    (loop : bits v 0 2 = 3 → s.get (LANE_STATUS_STATE n) ≠ LANE_LOOP) :
    laneCfgWrite (Work.start s) n v = quadPower (laneStart (cfgPrepared (Work.start s) n v) n) (n / 8) := by
  have differs : ¬ (decide ((Work.start s).get (LANE_CFG_ROLE n) = bits v 0 2) && decide ((Work.start s).get (LANE_CFG_TX_INV n) = bits v 2 1) &&
      decide ((Work.start s).get (LANE_CFG_RX_INV n) = bits v 3 1) && decide ((Work.start s).get (LANE_CFG_POL_AUTO n) = bits v 4 1)) = true := by
    simp only [Bool.and_eq_true, decide_eq_true_eq, Work.get_start]
    tauto
  refine (if_neg differs).trans ?_
  by_cases role : bits v 0 2 = 3
  · have prepared : cfgPrepared (Work.start s) n v = cfgWritten (Work.start s) n v := if_pos role
    rw [prepared]
    refine (if_pos role).trans (congrArg (quadPower · (n / 8)) (if_neg ?_))
    have state : laneState (cfgWritten (Work.start s) n v) n = s.get (LANE_STATUS_STATE n) := by
      refine (cfgWritten_does (s := s) n v).1 _ (fun g hg => (bare_apart n).2.2.2.1 _ (by simp) g ?_)
      simp only [writtenFlds, List.mem_cons, List.not_mem_nil, or_false] at hg ⊢
      tauto
    exact fun h => loop role (state.symm.trans h)
  · have prepared : cfgPrepared (Work.start s) n v = (cfgWritten (Work.start s) n v).set (LANE_CTRL_LOOP n) 0 := if_neg role
    rw [prepared]
    exact if_neg role

theorem quadPower_writes (w : Work s) (m : Nat) : Writes (· = QUAD_LOCKED m) w (quadPower w m) := Writes.ite ((Writes.refl w).set _ _ rfl) (Writes.refl w)

theorem laneCfgWrite_answers (hs : s.wf = true) (n : Fin 32) (v : BitVec 32)
    (changes : s.get (LANE_CFG_ROLE n) ≠ bits v.toNat 0 2 ∨ s.get (LANE_CFG_TX_INV n) ≠ bits v.toNat 2 1 ∨
      s.get (LANE_CFG_RX_INV n) ≠ bits v.toNat 3 1 ∨ s.get (LANE_CFG_POL_AUTO n) ≠ bits v.toNat 4 1)
    (loop : bits v.toNat 0 2 = 3 → s.get (LANE_STATUS_STATE n) ≠ LANE_LOOP) (alone : linkOf s.view n = none) :
    Answers (.laneCfgWrite n v) s (fun t =>
      t.get (LANE_CFG_ROLE n) = bits v.toNat 0 2 ∧ t.get (LANE_CFG_TX_INV n) = bits v.toNat 2 1 ∧ t.get (LANE_CFG_RX_INV n) = bits v.toNat 3 1 ∧
      t.get (LANE_CFG_POL_AUTO n) = bits v.toNat 4 1 ∧
      t.get (LANE_STATUS_STATE n) = (if bits v.toNat 0 2 = 0 ∨ s.get DEV_STATUS_REFCLK_OK = 0 then 0 else LANE_SIGNAL) ∧ Left s t n ∧ Shown s t n ∧
      (bits v.toNat 0 2 ≠ 3 → t.get (LANE_CTRL_LOOP n) = 0) ∧
      t.dev = { s.view.dev with held := s.dev.held ++ scanFires s n, out := t.dev.out } ∧
      Frame s t (bringUpFlds n ++ [LANE_CFG_ROLE n, LANE_CFG_TX_INV n, LANE_CFG_RX_INV n, LANE_CFG_POL_AUTO n,
        LANE_STATUS_LULL_TX n, QUAD_LOCKED (n / 8)] ++ if bits v.toNat 0 2 = 3 then [] else [LANE_CTRL_LOOP n])) := by
  have does := cfgPrepared_does (s := s) n v.toNat
  have sub := cfgFlds_written n v.toNat
  obtain ⟨role, txInv, rxInv, polAuto, loop_⟩ := cfgPrepared_get (Work.start s) n v.toNat
  have runs := (laneCfgWrite_eq n v.toNat changes loop)
  rw [laneStart_alone n does sub alone] at runs
  generalize cfgPrepared (Work.start s) n v.toNat = w at *
  have quad := quadPower_writes (showTx (startedBare w n) n) (n / 8)
  have shown : Does (quadPower (showTx (startedBare w n) n) (n / 8)) (cfgFlds n v.toNat ++ bringUpFlds n ++ [QUAD_LOCKED (n / 8)]) (scanFires s n)
      (if serTx (startedBare w n) n = s.get (LANE_TX n) then [] else [.ball "SER_TX" n (serTx (startedBare w n) n)]) := by
    have shown := (showTx_bare n (startedBare_does n does sub) sub).mono (fs' := cfgFlds n v.toNat ++ bringUpFlds n ++ [QUAD_LOCKED (n / 8)])
      (List.subset_append_left _ _)
    exact Does.ite (fun _ => shown.set _ _ (by simp)) (fun _ => shown)
  have cfg : ∀ f ∈ writtenFlds n, (quadPower (showTx (startedBare w n) n) (n / 8)).finish.get f = w.get f := fun f hf => by
    obtain ⟨bare, tx, locked⟩ := written_apart n hf
    rw [Work.finish_get _ _ hs, quad _ (fun g hg => hg ▸ locked), showTx_get _ _ _ tx, startedBare_writes _ _ _ bare]
  have told : ∀ f ∈ LANE_STATUS_STATE n :: LANE_CTRL_LOOP n :: leftFlds n, (quadPower (showTx (startedBare w n) n) (n / 8)).get f =
      (startedBare w n).get f := fun f hf => by
    obtain ⟨tx, locked, -⟩ := left_apart n f hf
    rw [quad _ (fun g hg => hg ▸ locked), showTx_get _ _ _ tx]
  refine answers_of (F := fun w => laneCfgWrite w n v.toNat) rfl runs ⟨?_, ?_, ?_, ?_, ?_, ?_, ?_, fun other => ?_, ?_, ?_⟩
  · rw [cfg _ (by simp [writtenFlds]), role]
  · rw [cfg _ (by simp [writtenFlds]), txInv]
  · rw [cfg _ (by simp [writtenFlds]), rxInv]
  · rw [cfg _ (by simp [writtenFlds]), polAuto]
  · rw [Work.finish_get _ _ hs, told _ (by simp), startedBare_state n does sub, role]
  · exact left_finish hs (startedBare_left n (scanKept_of n does sub)) (fun f hf => told f (by simp [hf]))
  · refine shown_finish hs shown (fun f hf => quad f (fun g hg => hg ▸ hf)) ?_
    rw [quadPower, showTx]
    split <;> split <;> rfl
  · rw [cfg _ (by simp [writtenFlds]), loop_ other]
  · rw [shown.dev]
  · refine (shown.mono (cfgFlds_frame n v.toNat)).frame hs

theorem laneControl : Clause.LaneControl := fun _ hs n =>
  ⟨fun v => laneCfgWrite_answers hs n v, fun via => laneRestart_answers hs n via, fun via loop => laneLoopWrite_answers hs n via loop,
    fun via loop => laneLoopWrite_rejected hs n via loop⟩

/-- Settles O36: the steps of bring-up, and what CFG, RESTART and LOOP do, command by command. -/
theorem laneStates : Obligations.LaneStates := ⟨laneBringUp, laneControl⟩

end Sys2Proof.LaneStateProofs
end

section
/-! PROOFS. Code swaps: the copy of a tile's staged words, and what its program or its halt goes on with (R314, R320, R407). -/

namespace Sys2Proof.SwapProofs

open Sys2Proof.Machine Sys2Proof.Effects Sys2Proof.SeqFacts Sys2Proof.DdrProofs

-- A kernel evaluation waits for every declaration before it: one at a time keeps the threads that wait, and their stacks, few.
set_option Elab.async false

variable {s : State}

/-! ## The registers of the device's own traffic (R407) -/

theorem trafficFlds_mem {c : Nat} (hc : c < 2) {f : Fld} (hf : f ∈ trafficFlds c) : f ∈ ddrFlds :=
  List.mem_flatMap.2 ⟨c, List.mem_range.2 hc, hf⟩

theorem ddrArrive_writes {w : Work s} {c : Nat} (hc : c < 2) (r : DdrReq) (hr : r.data = none) :
    Writes (· ∈ ddrFlds) w (ddrArrive w c r) ∧ (ddrArrive w c r).rwipe = w.rwipe := by
  have served : Serves c w (ddrServed w c r) := by
    rw [ddrServed, hr]
    exact (Serves.refl w).serve hc _ _ _ _ _ _
  rw [ddrArrive]
  split
  · exact ⟨fun _ _ => rfl, rfl⟩
  · obtain ⟨d, ⟨get, -, -, wipe, -⟩, -⟩ := served
    exact ⟨fun f hf => get f (fun g hg => hf g (trafficFlds_mem hc hg)), wipe⟩

theorem ddrLine_writes (w : Work s) (cls : Nat) (write : Bool) (a : Nat) : Writes (· ∈ ddrFlds) w (ddrLine w cls write a) := by
  rw [ddrLine]
  split
  · exact Writes.refl w
  next c off at_ =>
    split
    · obtain ⟨writes, wipe⟩ := ddrArrive_writes (w := (w.free 9).2) (ddrAt_lt a c off at_)
        ⟨off, cls, write, bit (w.free 9).1 0, (w.free 9).1 / 4, bit (w.free 9).1 1, none⟩ rfl
      dsimp only
      exact Writes.of_get (fun f hf => writes f hf) (get_congr wipe.symm rfl)
    · exact Writes.refl w

theorem ddrTraffic_writes (w : Work s) (cls : Nat) (write : Bool) (a n : Nat) : Writes (· ∈ ddrFlds) w (ddrTraffic w cls write a n) := by
  rw [ddrTraffic]
  exact Writes.ite (Writes.refl w) (Writes.each (Writes.refl w) _ _ (fun w' _ _ h => h.trans (ddrLine_writes w' _ _ _)))

/-! ## The copy (R320) -/

theorem length_rdBytes (w : Work s) (a n : Nat) : (w.rdBytes a n).length = n := by
  induction n generalizing a with
  | zero => rfl
  | succ n ih => rw [Work.rdBytes, List.length_cons, ih]

/-- What a copy of one staged word leaves: the word in the control store, the registers of the DDR5 channels and the pending swap. -/
structure Copied (s : State) (u a : Nat) (w : Work s) : Prop where
  regs : Writes (· ∈ LOADER_SWAP_PEND :: ddrFlds) (Work.start s) w
  bytes : ∀ b, w.rd8 b = if csBase u + 32 * a ≤ b ∧ b < csBase u + 32 * a + 28 then (s.view.rdBytes (stageAddr s.view u a) 28).getD (b - (csBase u + 32 * a)) 0
    else s.byteAt b
  pend : w.get LOADER_SWAP_PEND = s.get LOADER_SWAP_PEND - 2 ^ u
  tiles : w.dev.tiles = s.dev.tiles
  loader : w.dev.loader = { s.dev.loader with code := s.dev.loader.code.filter (fun x => !decide (x.1 = u)) }

section

variable {u a : Nat} (one : s.dev.loader.code.filter (fun x => decide (x.1 = u)) = [(u, a)])
  (served : s.get (DDR_STATUS_STATE (s.get LOADER_STAGE_CHAN)) ≠ 4) (pend : s.get LOADER_SWAP_PEND < 2 ^ 32)
  (named : bit (s.get LOADER_SWAP_PEND) u = true)
include one served

/-- The staged word in the control store. -/
theorem swapCopy_eq : swapCopy (Work.start s) u = ((((ddrTraffic (Work.start s) 1 false (stageAddr s.view u a) 32).wrBytes (csBase u + 32 * a)
    (s.view.rdBytes (stageAddr s.view u a) 28)).updLd (fun l => { l with code := l.code.filter (fun c => !decide (c.1 = u)) })).setBit LOADER_SWAP_PEND u false) := by
  have one' : (Work.start s).ld.code.filter (fun c => decide (c.1 = u)) = [(u, a)] := one
  have served' : decide ((Work.start s).get (DDR_STATUS_STATE ((Work.start s).get LOADER_STAGE_CHAN)) = 4) = false := decide_eq_false served
  simp only [swapCopy, one', served', each_one, Bool.false_eq_true, if_false]

include pend named

theorem swapCopy_copied : Copied s u a (swapCopy (Work.start s) u) := by
  rw [swapCopy_eq one served]
  obtain ⟨read, -, -, -, -, dev⟩ := ddrTraffic_onlyDdr (Work.start s) 1 false (stageAddr s.view u a) 32
  have traffic := ddrTraffic_writes (Work.start s) 1 false (stageAddr s.view u a) 32
  have len := length_rdBytes s.view (stageAddr s.view u a) 28
  generalize ddrTraffic (Work.start s) 1 false (stageAddr s.view u a) 32 = w at *
  have pendOff : ∀ g ∈ ddrFlds, LOADER_SWAP_PEND.key ≠ g.key := by decide
  refine ⟨?_, fun b => ?_, ?_, ?_, ?_⟩
  all_goals
    generalize s.view.rdBytes (stageAddr s.view u a) 28 = word at *
    have get : ∀ f, (w.wrBytes (csBase u + 32 * a) word).get f = w.get f := Work.get_wrBytes _ _ _
    have bytes : ∀ b, (w.wrBytes (csBase u + 32 * a) word).rd8 b = _ := fun b => Work.rd8_wrBytes _ _ b _
    have dev' : (w.wrBytes (csBase u + 32 * a) word).dev = w.dev := Work.wrBytes_dev _ _ _
    generalize w.wrBytes (csBase u + 32 * a) word = v at *
  · exact Writes.set (w' := v.updLd _) (fun f hf => (get f).trans (traffic f (fun g hg => hf g (List.mem_cons_of_mem _ hg)))) _ _ List.mem_cons_self
  · refine (bytes b).trans ?_
    rw [len, read b, Work.rd8_start]
  · have kept : v.get LOADER_SWAP_PEND = s.get LOADER_SWAP_PEND := (get _).trans (traffic _ pendOff)
    refine (Work.get_set_self _ _ _).trans ?_
    rw [show (v.updLd _).get LOADER_SWAP_PEND = v.get LOADER_SWAP_PEND from rfl, kept, named]
    exact Nat.mod_eq_of_lt (lt_of_le_of_lt (Nat.sub_le _ _) pend)
  · show v.dev.tiles = s.dev.tiles
    rw [dev', dev]
    rfl
  · have loader : v.dev.loader = s.dev.loader := by
      rw [dev', dev]
      rfl
    exact congrArg (fun l : LoaderSt => { l with code := l.code.filter (fun c => !decide (c.1 = u)) }) loader

end

/-! ## The stall for the copy (R320) -/

theorem codeSwap_answers (hs : s.wf = true) (u : Fin 32) (c : WordSt) (hl : s.get DEV_STATUS_LOCKSTEP = 0) (cur : (s.tile u).seq.cur = some c)
    (step : c.todo.head? = some .seq) (due : swapDue s.view u c = true) (idle : (s.tile u).seq.swapping = false) :
    Answers (.codeSwap u) s (fun t => (t.tile u).seq = { (s.tile u).seq with swapping := true } ∧
      (∀ v < 32, v ≠ u.val → t.tile v = s.tile v) ∧ Frame s t []) := by
  have lock : (Work.start s).get DEV_STATUS_LOCKSTEP = 0 := hl
  have cur' : ((Work.start s).seq u).cur = some c := cur
  have idle' : ((Work.start s).seq u).swapping = false := idle
  have runs : codeSwap (Work.start s) u = (Work.start s).updSeq u (fun q => { q with swapping := true }) := by
    have alone : (members (Work.start s) u).all (fun m => decide (m = u) ||
        (match ((Work.start s).seq m).cur with | some x => decide (x.todo = []) | none => true)) = true := by
      rw [members_eq lock]
      simp
    rw [codeSwap, cur']
    exact if_pos ⟨leader_eq lock _, step, due, by rw [idle']; rfl, alone⟩
  refine ⟨_, by rw [exec, execCodeSwap, run_eq, runs], ?_, fun v _ hv => ?_, ?_⟩
  · exact seq_updSeq (Work.start s) u (fun q => { q with swapping := true }) u.isLt
  · exact tile_updTile_ne (Work.start s) u v (fun x => { x with seq := { x.seq with swapping := true } }) hv
  · exact frame_finish hs (fun _ _ => rfl) (quiet_start s)

/-! ## The end of the copy (R314, R320) -/

/-- R320: a program that goes on behind its swap word. -/
theorem finishWord_next {w : Work s} {u : Nat} {c : WordSt} (hl : w.get DEV_STATUS_LOCKSTEP = 0) (safe : mwSafe c.word = true) (whole : c.stepped = false)
    (op : mwSeq c.word ≠ 8) (hu : u < 32) (halt : (w.seq u).haltReq = false) (stop : w.get (SEQ_CTRL_STOP u) = 0) :
    finishWord w u c = (w.updSeq u (fun q => { q with cur := none, next := c.succ })).updSeq u (fun q => { q with run := 0 }) := by
  have haltNow : (((w.updSeq u (fun q => { q with cur := none, next := c.succ })).updSeq u (fun q => { q with run := 0 })).seq u).haltReq = false := by
    rw [seq_updSeq _ _ _ hu, seq_updSeq _ _ _ hu]
    exact halt
  have stopNow : ((w.updSeq u (fun q => { q with cur := none, next := c.succ })).updSeq u (fun q => { q with run := 0 })).on (SEQ_CTRL_STOP u) = false := by
    have same : ((w.updSeq u (fun q => { q with cur := none, next := c.succ })).updSeq u (fun q => { q with run := 0 })).get (SEQ_CTRL_STOP u) = 0 := stop
    rw [Work.on, same]
    rfl
  simp only [finishWord, members_eq hl, each_one, safe, whole, Bool.not_true, Bool.false_eq_true, if_true, if_false, and_false, false_and,
    haltNow, stopNow, op]

/-- A copied word's routine has ended and its stack is empty. -/
def stackEmptied (w : Work s) (u : Nat) : Work s := ((w.set (SEQ_STATE_ACTIVE u) 0).set (EVPORT_GEN_CUR_VALID u) 0).set (SEQ_SP u) 0

/-- A copied swap word without a step left. -/
def swapEnded (w : Work s) (u : Nat) : Work s := (stackEmptied w u).updSeq u (fun q => { q with
    swapping := false, cur := q.cur.map (fun c => { c with succ := newStart (stackEmptied w u) u, todo := [] }) })

theorem swapEnded_get (w : Work s) (u : Nat) (f : Fld) : (swapEnded w u).get f = (stackEmptied w u).get f := Work.get_updSeq _ _ _ _

theorem swapEnded_rd8 (w : Work s) (u b : Nat) : (swapEnded w u).rd8 b = w.rd8 b := Work.rd8_updSeq _ _ _ _

theorem swapEnded_loader (w : Work s) (u : Nat) : (swapEnded w u).dev.loader = w.dev.loader := by
  rw [swapEnded, stackEmptied]
  rfl

theorem swapDone_eq {w : Work s} {u : Nat} (hl : w.get DEV_STATUS_LOCKSTEP = 0) (hl' : (swapCopy w u).get DEV_STATUS_LOCKSTEP = 0) :
    swapDone w u = settle (swapsOver (swapEnded (swapCopy w u) u)) u := by
  simp only [swapDone, endRoutine, members_eq hl, each_one]
  generalize swapCopy w u = v at *
  simp only [members_eq hl', each_one]
  rfl

/-- While a swap is pending the loader goes on. -/
theorem swapsOver_pending {w : Work s} (h : w.get LOADER_SWAP_PEND ≠ 0) : swapsOver w = w := if_neg (fun hh => h hh.2)

/-- What a program that goes on at START has written, beside the registers of its DDR5 channel. -/
def goneOn (u : Nat) : List Fld := [LOADER_SWAP_PEND, SEQ_SP u, SEQ_STATE_ACTIVE u, EVPORT_GEN_CUR_VALID u] ++ ddrFlds

theorem goneOn_apart : ∀ u : Fin 32, (∀ f ∈ [DEV_STATUS_LOCKSTEP, SEQ_CTRL_STOP u, SEQ_CFG_START u, LOADER_STATE_STATE, SEQ_STATE_STATE u, SEQ_STATE_STEPPING u],
    ∀ g ∈ goneOn u, f.key ≠ g.key) := by decide +kernel

section

variable {u : Fin 32} {a : Nat} {w : Work s} (copy : Copied s u a w)
include copy

theorem stackEmptied_writes : Writes (· ∈ goneOn u) (Work.start s) (stackEmptied w u) := by
  have copied : Writes (· ∈ goneOn u) (Work.start s) w := copy.regs.mono (fun g hg => by
    obtain rfl | hg := List.mem_cons.1 hg
    · simp [goneOn]
    · exact List.mem_append_right _ hg)
  exact ((copied.set (SEQ_STATE_ACTIVE u) 0 (by simp [goneOn])).set (EVPORT_GEN_CUR_VALID u) 0 (by simp [goneOn])).set (SEQ_SP u) 0 (by simp [goneOn])

theorem stackEmptied_newStart : newStart (stackEmptied w u) u = newStart s.view u := by
  have start := stackEmptied_writes copy _ (goneOn_apart u (SEQ_CFG_START u) (by simp))
  have loader : (stackEmptied w u).dev.loader = w.dev.loader := rfl
  have shadows : (stackEmptied w u).ld.shadows = s.view.ld.shadows := by
    rw [Work.ld, loader, copy.loader]
    rfl
  rw [newStart, newStart, shadows]
  split
  · rfl
  · exact start

theorem swapEnded_seq {c : WordSt} (cur : (s.tile u).seq.cur = some c) : (swapEnded w u).seq u =
    { (s.tile u).seq with swapping := false, cur := some { c with succ := newStart s.view u, todo := [] } } := by
  have tiles : (stackEmptied w u).dev.tiles = w.dev.tiles := rfl
  have seq : (stackEmptied w u).seq u = (s.tile u).seq := by
    rw [Work.seq, Work.tile, tiles, copy.tiles]
    rfl
  rw [swapEnded, seq_updSeq _ _ _ u.isLt, stackEmptied_newStart copy, seq, cur]
  rfl

theorem swapEnded_tile (v : Nat) (hv : v ≠ u) : (swapEnded w u).tile v = s.tile v := by
  have tiles : (stackEmptied w u).dev.tiles = w.dev.tiles := rfl
  rw [swapEnded, Work.updSeq, tile_updTile_ne _ _ _ _ hv, Work.tile, tiles, copy.tiles]
  rfl

end

/-- R314, R320: what the copy of tile u's one staged word leaves, whatever its program goes on with. -/
def CopyShown (s t : State) (u a : Nat) : Prop :=
  (∀ i < 28, t.byteAt (csBase u + 32 * a + i) = (s.view.rdBytes (stageAddr s.view u a) 28).getD i 0) ∧ MemBut s t (csBase u + 32 * a) 28 ∧
    t.get LOADER_SWAP_PEND = s.get LOADER_SWAP_PEND - 2 ^ u ∧ t.get LOADER_STATE_STATE = s.get LOADER_STATE_STATE ∧
    t.dev.loader = { s.dev.loader with code := s.dev.loader.code.filter (fun x => !decide (x.1 = u)) }

theorem copyShown_finish (hs : s.wf = true) {u a : Nat} {w w' : Work s} (copy : Copied s u a w) (mem : ∀ b, w'.rd8 b = w.rd8 b)
    (pend : w'.get LOADER_SWAP_PEND = w.get LOADER_SWAP_PEND) (state : w'.get LOADER_STATE_STATE = s.get LOADER_STATE_STATE)
    (loader : w'.dev.loader = w.dev.loader) : CopyShown s w'.finish u a := by
  have bytes : ∀ b, w'.finish.byteAt b = if csBase u + 32 * a ≤ b ∧ b < csBase u + 32 * a + 28 then
      (s.view.rdBytes (stageAddr s.view u a) 28).getD (b - (csBase u + 32 * a)) 0 else s.byteAt b := fun b => by
    rw [Work.finish_byteAt _ _ hs, mem, copy.bytes]
  refine ⟨fun i hi => ?_, fun b hb => ?_, ?_, ?_, ?_⟩
  · rw [bytes, if_pos ⟨Nat.le_add_right _ _, Nat.add_lt_add_left hi _⟩, Nat.add_sub_cancel_left]
  · rw [bytes, if_neg hb]
  · rw [Work.finish_get _ _ hs, pend, copy.pend]
  · rw [Work.finish_get _ _ hs, state]
  · exact loader.trans copy.loader

section

variable {u : Fin 32} {a : Nat} (hs : s.wf = true) (one : s.dev.loader.code.filter (fun x => decide (x.1 = u.val)) = [(u.val, a)])
  (served : s.get (DDR_STATUS_STATE (s.get LOADER_STAGE_CHAN)) ≠ 4) (pend : s.get LOADER_SWAP_PEND < 2 ^ 32)
  (named : bit (s.get LOADER_SWAP_PEND) u = true) (others : s.get LOADER_SWAP_PEND ≠ 2 ^ u.val)
include hs one served pend named others

omit hs one served pend in
theorem still_pending : s.get LOADER_SWAP_PEND - 2 ^ u.val ≠ 0 := by
  have ge : 2 ^ u.val ≤ s.get LOADER_SWAP_PEND := by
    by_contra h
    rw [bit, Nat.div_eq_of_lt (Nat.lt_of_not_le h)] at named
    exact absurd named (by decide)
  omega

theorem copyDone_running (hl : s.get DEV_STATUS_LOCKSTEP = 0) {c : WordSt} (swapping : (s.tile u).seq.swapping = true) (cur : (s.tile u).seq.cur = some c)
    (safe : mwSafe c.word = true) (whole : c.stepped = false) (op : mwSeq c.word ≠ 8) (halt : (s.tile u).seq.haltReq = false)
    (stop : s.get (SEQ_CTRL_STOP u) = 0) :
    Answers (.codeSwapCopyDone u) s (fun t => CopyShown s t u a ∧ (t.tile u).seq.cur = none ∧
      (t.tile u).seq.next = newStart s.view u ∧ (t.tile u).seq.swapping = false ∧ t.get (SEQ_SP u) = 0 ∧
      t.get (SEQ_STATE_ACTIVE u) = 0 ∧ (∀ v < 32, v ≠ u.val → t.tile v = s.tile v) ∧ RegsBut s t (goneOn u)) := by
  have copy := swapCopy_copied one served pend named
  have start : (if ((Work.start s).seq u).swapping then swapDone (Work.start s) u else swapHalted (Work.start s) u) = swapDone (Work.start s) u := if_pos swapping
  have lockOff : ∀ g ∈ LOADER_SWAP_PEND :: ddrFlds, DEV_STATUS_LOCKSTEP.key ≠ g.key := by decide
  have done := start.trans (swapDone_eq hl ((copy.regs _ lockOff).trans hl))
  generalize swapCopy (Work.start s) u = w at *
  have apart := goneOn_apart u
  have writes : Writes (· ∈ goneOn u) (Work.start s) (swapEnded w u) :=
    (stackEmptied_writes copy).of_get (swapEnded_get w u)
  have pendKept : (swapEnded w u).get LOADER_SWAP_PEND = w.get LOADER_SWAP_PEND := by
    rw [swapEnded_get]
    simp (disch := (simp only [Fld.key, LOADER_SWAP_PEND, SEQ_SP, EVPORT_GEN_CUR_VALID, SEQ_STATE_ACTIVE, tileBase]; omega)) only [stackEmptied, Work.get_set_ne]
  have goesOn : swapsOver (swapEnded w u) = swapEnded w u := swapsOver_pending (by rw [pendKept, copy.pend]; exact still_pending named others)
  have lock' : (swapEnded w u).get DEV_STATUS_LOCKSTEP = 0 := (writes _ (apart _ (by simp))).trans hl
  have stop' : (swapEnded w u).get (SEQ_CTRL_STOP u) = 0 := (writes _ (apart _ (by simp))).trans stop
  have seq := swapEnded_seq copy cur
  rw [goesOn, settle_eq_finishWord lock' u _ (congrArg SeqSt.cur seq) rfl,
    finishWord_next (c := { c with succ := newStart s.view u, todo := [] }) lock' safe whole op u.isLt ((congrArg SeqSt.haltReq seq).trans halt) stop'] at done
  have mem : ∀ b, (swapEnded w u).rd8 b = w.rd8 b := swapEnded_rd8 w u
  have loader := swapEnded_loader w u
  have sp : (swapEnded w u).get (SEQ_SP u) = 0 := (swapEnded_get w u _).trans (Work.get_set_self _ _ _)
  have active : (swapEnded w u).get (SEQ_STATE_ACTIVE u) = 0 := by
    rw [swapEnded_get]
    simp (disch := (simp only [Fld.key, SEQ_SP, EVPORT_GEN_CUR_VALID, SEQ_STATE_ACTIVE, tileBase]; omega)) only [stackEmptied, Work.get_set_ne, Work.get_set_self]
    rfl
  have tiles := swapEnded_tile copy
  generalize swapEnded w u = v at *
  refine ⟨((v.updSeq u (fun q => { q with cur := none, next := newStart s.view u })).updSeq u (fun q => { q with run := 0 })).finish,
    by rw [exec, execCodeSwapCopyDone, run_eq, done],
    copyShown_finish hs copy mem pendKept (writes _ (apart LOADER_STATE_STATE (by simp))) loader, ?_⟩
  have seqEnd : ((v.updSeq u (fun q => { q with cur := none, next := newStart s.view u })).updSeq u (fun q => { q with run := 0 })).seq u =
      { v.seq u with cur := none, next := newStart s.view u, run := 0 } := by
    rw [seq_updSeq _ _ _ u.isLt, seq_updSeq _ _ _ u.isLt]
  refine ⟨congrArg SeqSt.cur seqEnd, congrArg SeqSt.next seqEnd, (congrArg SeqSt.swapping seqEnd).trans (congrArg SeqSt.swapping seq), ?_, ?_, fun k hk ne => ?_,
    fun f hf => ?_⟩
  · exact (Work.finish_get _ _ hs).trans sp
  · exact (Work.finish_get _ _ hs).trans active
  · refine Eq.trans ?_ (tiles k ne)
    exact (tile_updTile_ne _ u k (fun x => { x with seq := { x.seq with run := 0 } }) ne).trans
      (tile_updTile_ne v u k (fun x => { x with seq := { x.seq with cur := none, next := newStart s.view u } }) ne)
  · exact (Work.finish_get _ _ hs).trans (writes f hf)

theorem copyDone_halted (state : s.get LOADER_STATE_STATE = LD_SWAPPING) (swapping : (s.tile u).seq.swapping = false)
    (halted : s.get (SEQ_STATE_STATE u) = HALTED) (steps : s.get (SEQ_STATE_STEPPING u) = 0) (cut : (s.tile u).seq.cutPending = false) :
    Answers (.codeSwapCopyDone u) s (fun t => CopyShown s t u a ∧ t.get (SEQ_RESTART u) = s.get (SEQ_CFG_START u) % 2 ^ (SEQ_RESTART u).width ∧
      RegsBut s t ([LOADER_SWAP_PEND, SEQ_RESTART u] ++ ddrFlds) ∧ (∀ v < 32, t.tile v = s.tile v)) := by
  have copy := swapCopy_copied one served pend named
  have swapping' : ((Work.start s).seq u).swapping = false := swapping
  have cut' : ((Work.start s).seq u).cutPending = false := cut
  have steps' : (Work.start s).on (SEQ_STATE_STEPPING u) = false := by
    rw [Work.on, Work.get_start, steps]
    rfl
  have done : (if ((Work.start s).seq u).swapping then swapDone (Work.start s) u else swapHalted (Work.start s) u) =
      swapsOver ((swapCopy (Work.start s) u).set (SEQ_RESTART u) ((swapCopy (Work.start s) u).get (SEQ_CFG_START u))) := by
    rw [swapping', if_neg Bool.false_ne_true]
    exact if_pos ⟨named, state, .inl halted, by rw [steps']; rfl, by rw [cut']; rfl⟩
  generalize swapCopy (Work.start s) u = w at *
  have apart : ∀ u : Fin 32, (∀ g ∈ LOADER_SWAP_PEND :: ddrFlds, (SEQ_CFG_START u).key ≠ g.key) ∧ (∀ g ∈ LOADER_SWAP_PEND :: ddrFlds, LOADER_STATE_STATE.key ≠ g.key) ∧
      LOADER_SWAP_PEND.key ≠ (SEQ_RESTART u).key ∧ LOADER_STATE_STATE.key ≠ (SEQ_RESTART u).key := by decide +kernel
  obtain ⟨startOff, stateOff, pendOff, stateRestart⟩ := apart u
  have start : w.get (SEQ_CFG_START u) = s.get (SEQ_CFG_START u) := copy.regs _ startOff
  have pendKept : (w.set (SEQ_RESTART u) (w.get (SEQ_CFG_START u))).get LOADER_SWAP_PEND = w.get LOADER_SWAP_PEND := Work.get_set_ne _ _ _ _ pendOff
  rw [swapsOver_pending (by rw [pendKept, copy.pend]; exact still_pending named others)] at done
  refine ⟨(w.set (SEQ_RESTART u) (w.get (SEQ_CFG_START u))).finish, by rw [exec, execCodeSwapCopyDone, run_eq, done],
    copyShown_finish hs copy (fun _ => rfl) pendKept ?_ rfl, ?_, fun f hf => ?_, fun k _ => ?_⟩
  · exact (Work.get_set_ne _ _ _ _ stateRestart).trans (copy.regs _ stateOff)
  · rw [Work.finish_get _ _ hs, Work.get_set_self, start]
  · rw [Work.finish_get _ _ hs, Work.get_set_ne _ _ _ _ (hf _ (by simp))]
    refine copy.regs f (fun g hg => hf g ?_)
    obtain rfl | hg := List.mem_cons.1 hg
    · simp
    · exact List.mem_append_right _ hg
  · show vget w.dev.tiles Tile.reset k = _
    rw [copy.tiles]
    rfl

end

/-- Settles O53: the stall at the swap word, and the copy's end under a running program and a halted tile. -/
theorem codeSwaps : Obligations.CodeSwaps := by
  intro s hs u c q hl
  refine ⟨fun cur step due idle => codeSwap_answers hs u c hl cur step due idle, fun a one served _ _ pend named others state => ⟨?_, ?_⟩⟩
  · intro swapping cur safe whole op halt stop
    obtain ⟨t, run, copied, rest⟩ := copyDone_running hs one served pend named others hl swapping cur safe whole op halt stop
    rw [CopyShown, state] at copied
    exact ⟨t, run, copied, rest⟩
  · intro idle halted steps cut
    obtain ⟨t, run, copied, rest⟩ := copyDone_halted hs one served pend named others state idle halted steps cut
    rw [CopyShown, state] at copied
    exact ⟨t, run, copied, rest⟩

end Sys2Proof.SwapProofs
end

section
/-! PROOFS. Temperature, throttling and Storm (R430 to R437). -/

namespace Sys2Proof.ThermalProofs

open Sys2Proof.Machine Sys2Proof.Effects Sys2Proof.RejectFacts Sys2Proof.LaneWorks

-- A kernel evaluation waits for every declaration before it: one at a time keeps the threads that wait, and their stacks, few.
set_option Elab.async false

variable {s : State}

/-! ## The conversion of a thermal injection (R421, R428, R431) -/

theorem entryCode_eq {x : HkAnalog} {word : Nat} {code : Int} (h : Converts s x word code) : entryCode (Work.start s) x word = (code, Work.start s) := by
  obtain ⟨vref, uncalibrated, calibrated⟩ := h
  have raw : rawCode (Work.start s) x word = (roundQuot (2 ^ 23 * hkGain word * hkVolts x word) (2 * x.vref), Work.start s) := if_neg vref
  rw [entryCode, raw, correctCode]
  have cal : (Work.start s).hk.cal = s.dev.hk.cal := rfl
  rw [cal]
  split
  next none_ => rw [uncalibrated none_]
  next off ref some_ =>
    obtain ⟨differ, value⟩ := calibrated off ref some_
    rw [if_neg differ, value]

/-- The converter free again, at the end of a thermal injection. -/
def injected (s : State) (elapsed : Nat) : Work s :=
  (Work.start s).updHk (fun h => { h with clock := h.clock + (elapsed + 1050000), delay := h.delay - (elapsed + 1050000), item := none })

/-- R428: an idle converter with nothing that waits goes on with nothing. -/
theorem hkNext_idle {w : Work s} (due : w.hk.thermalDue = false) (wanted : w.hk.calWanted = false) (patch : w.hk.patch = [])
    (pending : w.get HK_INJ_CTRL_PENDING = 0) (round : w.get HK_STATUS_ROUND = 0) : hkNext w = w.updHk (fun h => { h with patch := [] }) := by
  have applied : applyPatch w = w.updHk (fun h => { h with patch := [] }) := by
    rw [applyPatch, patch]
    rfl
  have due' : (w.updHk (fun h => { h with patch := [] })).hk.thermalDue = false := due
  have wanted' : (w.updHk (fun h => { h with patch := [] })).hk.calWanted = false := wanted
  have pending' : (w.updHk (fun h => { h with patch := [] })).on HK_INJ_CTRL_PENDING = false := by
    rw [Work.on, Work.get_updHk, pending]
    rfl
  have round' : (w.updHk (fun h => { h with patch := [] })).on HK_STATUS_ROUND = false := by
    rw [Work.on, Work.get_updHk, round]
    rfl
  rw [hkNext, applied]
  simp only [pending', due', wanted', round', Bool.and_false, Bool.false_and, Bool.false_eq_true, if_false, false_and]

theorem entryBoundary_thermal {x : HkAnalog} {code : Int} (elapsed : Nat) (item : s.dev.hk.item = some .thermal) (conv : Converts s x thermalWord code)
    (inRange : (hkCode code).2 = false) : entryBoundary (Work.start s) x elapsed = hkNext (diodeReading (injected s elapsed) x.temp false none) := by
  have item' : (Work.start s).hk.item = some .thermal := item
  have coded : itemCode (Work.start s) x = (code, Work.start s) := by
    rw [itemCode, itemWord, item']
    exact entryCode_eq conv
  have time : hkTime (Work.start s) false = 1050000 := by
    rw [hkTime, item']
    rfl
  obtain ⟨value, coded24⟩ : ∃ v, hkCode code = (v, false) := ⟨(hkCode code).1, Prod.ext rfl inRange⟩
  rw [entryBoundary, coded]
  dsimp only
  rw [coded24]
  dsimp only
  rw [time, item']
  rfl

/-! ## A plausible reading (R430) -/

/-- The registers that a reading writes. -/
def readingFlds : List Fld := [THERM_TEMP_VALID, THERM_TEMP_TEMP, THERM_MAX, THERM_RATE_VALID, THERM_RATE_RATE, THERM_STATUS_WARN, THERM_COUNT_THROTTLES,
  THERM_STEP_STEP, THERM_COUNT_RELEASES]

/-- What decides how a free converter goes on, and what the rules of a reading follow. -/
theorem reading_apart : (∀ f ∈ [HK_INJ_CTRL_PENDING, HK_STATUS_ROUND, NT_NOW, THERM_WIN, THERM_STATUS_SENSOR_FAULT, THERM_THR_WARN, THERM_THR_THROTTLE, THERM_THR_RELEASE,
    THERM_THR_RELEASE_S, THERM_STEP_MIN_STEP], ∀ g ∈ readingFlds, f.key ≠ g.key) := by decide

theorem toField_mod (i : Int) : toField 16 i % 2 ^ 16 = toField 16 i := by
  refine Nat.mod_eq_of_lt ?_
  rw [toField]
  omega

/-- A reading as TEMP and MAX show it, before its rate is known. -/
def tempShown (w : Work s) (temp : Int) : Work s :=
  let w := w.updHk (fun h => { h with prevOvr := false, thermalDue := false })
  let w := (w.set THERM_TEMP_VALID 1).set THERM_TEMP_TEMP (toField 16 temp)
  let w := w.set THERM_MAX (toField 16 (max temp (sext 16 (w.get THERM_MAX))))
  w.updHk (fun h => { h with lastTemp := some temp })

theorem diodeReading_plausible {w : Work s} {temp : Int} (low : -4000 ≤ temp) (high : temp ≤ 15000)
    (steady : ∀ x, w.hk.lastTemp = some x → (temp - x).natAbs ≤ 2000) : diodeReading w temp false none =
      (thermalRate (tempShown w temp) temp none).updHk (fun h => { h with
        readings := (((thermalRate (tempShown w temp) temp none).now, temp) :: h.readings).take 64 }) := by
  have jump : (match w.hk.lastTemp with | some x => decide (2000 < (temp - x).natAbs) | none => false) = false := by
    split
    next x h => exact decide_eq_false (Nat.not_lt.2 (steady x h))
    next => rfl
  have range : ¬ (temp < -4000 ∨ 15000 < temp) := by omega
  rw [diodeReading]
  exact (if_neg range).trans ((if_neg (by simp)).trans (if_neg (fun h => Bool.false_ne_true (jump.symm.trans h))))

theorem tempShown_get (w : Work s) (temp : Int) : (tempShown w temp).get THERM_TEMP_VALID = 1 ∧ (tempShown w temp).get THERM_TEMP_TEMP = toField 16 temp ∧
    (tempShown w temp).get THERM_MAX = toField 16 (max temp (sext 16 (w.get THERM_MAX))) := by
  simp (disch := decide) only [tempShown, Work.get_updHk, Work.get_set_ne, Work.get_set_self]
  exact ⟨rfl, toField_mod _, toField_mod _⟩

theorem tempShown_writes (w : Work s) (temp : Int) : Writes (· ∈ [THERM_TEMP_VALID, THERM_TEMP_TEMP, THERM_MAX]) w (tempShown w temp) :=
  ((((Writes.refl w).set _ _ (by simp)).set _ _ (by simp)).set _ _ (by simp))

/-! ## The rate of a reading (R432) -/

/-- The reading against which a new one is rated. -/
def rateBase (w : Work s) : Option (Nat × Int) := w.hk.readings.find? (fun r => decide (r.1 + thermWindow w ≤ w.now))

theorem thermalRate_none {w : Work s} {temp : Int} (h : rateBase w = none) : thermalRate w temp none = w := by
  rw [rateBase] at h
  rw [thermalRate, h]

/-- The rate as RATE shows it; its last digit is open where the division leaves a rest. -/
def rateShown (w : Work s) (num den : Int) : Work s :=
  let drawn := if num * 1000000000 % den = 0 then (0, w) else w.free 1
  (drawn.2.set THERM_RATE_VALID 1).set THERM_RATE_RATE (toField 16 (satS 16 (num * 1000000000 / den + drawn.1)))

theorem thermalRate_some {w : Work s} {temp temp0 : Int} {t0 : Nat} (h : rateBase w = some (t0, temp0)) (num den : Int) (hnum : num = temp - temp0)
    (hden : den = (w.now : Int) - t0) : thermalRate w temp none =
      if !(rateShown w num den).on THERM_STATUS_SENSOR_FAULT then thermalRules (rateShown w num den) num den none
      else if rateReaches num den ((rateShown w num den).get THERM_THR_RELEASE) then (rateShown w num den).updHk (fun h => { h with releaseFrom := some h.clock })
      else rateShown w num den := by
  subst hnum hden
  rw [rateBase] at h
  rw [thermalRate, h]
  rfl

theorem rateShown_get (w : Work s) (num den : Int) : (rateShown w num den).get THERM_RATE_VALID = 1 ∧
    (num * 1000000000 % den = 0 → (rateShown w num den).get THERM_RATE_RATE = toField 16 (satS 16 (num * 1000000000 / den))) := by
  refine ⟨?_, fun whole => ?_⟩
  · rw [rateShown, Work.get_set_ne _ _ _ _ (by decide), Work.get_set_self]
    rfl
  · rw [rateShown, Work.get_set_self, if_pos whole]
    simp only [Nat.cast_zero, add_zero]
    exact toField_mod _

theorem rateShown_writes (w : Work s) (num den : Int) : Writes (· ∈ [THERM_RATE_VALID, THERM_RATE_RATE]) w (rateShown w num den) := by
  rw [rateShown]
  split
  · exact ((Writes.refl w).set _ _ (by simp)).set _ _ (by simp)
  · exact Writes.set (Writes.set (w' := (w.free 1).2) (fun _ _ => rfl) _ _ (by simp)) _ _ (by simp)

theorem rateShown_rest (w : Work s) (num den : Int) : (rateShown w num den).dev = w.dev ∧ (rateShown w num den).tl = w.tl := by
  rw [rateShown]
  split <;> exact ⟨rfl, rfl⟩

/-! ## The rules of a rate (R433, R434) -/

/-- The warning of a rate. -/
def warned (w : Work s) (num den : Int) : Work s :=
  if rateReaches num den (w.get THERM_THR_WARN) && !w.on THERM_STATUS_WARN then (w.set THERM_STATUS_WARN 1).fire 488 else w

/-- The rules behind the warning. -/
def stepRuled (w : Work s) (num den : Int) : Work s :=
  let h := w.hk
  let step := w.get THERM_STEP_STEP
  let low := !rateReaches num den (w.get THERM_THR_RELEASE)
  let sec := match h.lastStep with | some x => decide (x + 1000000000 ≤ h.clock) | none => true
  if rateReaches num den (w.get THERM_THR_THROTTLE) && decide (step < 4) && sec then
    (stepChanged (w.inc THERM_COUNT_THROTTLES) (step + 1)).fire 489
  else if !low then w.updHk (fun h => { h with releaseFrom := some h.clock })
  else
    match h.releaseFrom with
    | none => w.updHk (fun h => { h with releaseFrom := some h.clock })
    | some x =>
      if x + max 1 (w.get THERM_THR_RELEASE_S) * 1000000000 ≤ h.clock ∧ min 4 (w.get THERM_STEP_MIN_STEP) < step then
        (stepChanged (w.inc THERM_COUNT_RELEASES) (step - 1)).fire 491
      else w

theorem thermalRules_eq (w : Work s) (num den : Int) : thermalRules w num den none = stepRuled (warned w num den) num den := rfl

theorem warned_writes (w : Work s) (num den : Int) : Writes (· ∈ [THERM_STATUS_WARN]) w (warned w num den) :=
  Writes.ite (((Writes.refl w).set _ _ (by simp)).fire _) (Writes.refl w)

theorem warned_warns {w : Work s} {num den : Int} (h : rateReaches num den (w.get THERM_THR_WARN) = true) : (warned w num den).get THERM_STATUS_WARN ≠ 0 := by
  rw [warned, h]
  by_cases set_ : w.get THERM_STATUS_WARN = 0
  · rw [if_pos (by simp [on_eq, set_]), Work.get_fire, Work.get_set_self]
    decide
  · rw [if_neg (by simp [on_eq, set_])]
    exact set_

theorem stepChanged_writes {K : Fld → Prop} {w w' : Work s} (h : Writes K w w') (hK : K THERM_STEP_STEP) (step : Nat) : Writes K w (stepChanged w' step) :=
  ((h.set _ step hK).emit (.currentLimit (currentLimit step))).of_get (fun _ => rfl)

theorem stepRuled_writes (w : Work s) (num den : Int) : Writes (· ∈ [THERM_COUNT_THROTTLES, THERM_STEP_STEP, THERM_COUNT_RELEASES]) w (stepRuled w num den) := by
  have self : Writes (· ∈ [THERM_COUNT_THROTTLES, THERM_STEP_STEP, THERM_COUNT_RELEASES]) w w := Writes.refl w
  rw [stepRuled]
  refine Writes.ite ((stepChanged_writes (self.inc _ (by simp)) (by simp) _).fire _) (Writes.ite (self.of_get (fun _ => rfl)) ?_)
  split
  · exact self.of_get (fun _ => rfl)
  · exact Writes.ite ((stepChanged_writes (self.inc _ (by simp)) (by simp) _).fire _) self

/-- R433: the step rises. -/
theorem stepRuled_throttle {w : Work s} {num den : Int} (hot : rateReaches num den (w.get THERM_THR_THROTTLE) = true) (step : w.get THERM_STEP_STEP < 4)
    (sec : ∀ x, w.hk.lastStep = some x → x + 1000000000 ≤ w.hk.clock) :
    stepRuled w num den = (stepChanged (w.inc THERM_COUNT_THROTTLES) (w.get THERM_STEP_STEP + 1)).fire 489 := by
  have second : (match w.hk.lastStep with | some x => decide (x + 1000000000 ≤ w.hk.clock) | none => true) = true := by
    split
    next x h => exact decide_eq_true (sec x h)
    next => rfl
  refine if_pos ?_
  rw [hot, decide_eq_true step]
  exact second

/-- R434: the step falls. -/
theorem stepRuled_release {w : Work s} {num den : Int} (cool : rateReaches num den (w.get THERM_THR_THROTTLE) = false)
    (low : rateReaches num den (w.get THERM_THR_RELEASE) = false) (step : min 4 (w.get THERM_STEP_MIN_STEP) < w.get THERM_STEP_STEP) {x : Nat}
    (since : w.hk.releaseFrom = some x) (long : x + max 1 (w.get THERM_THR_RELEASE_S) * 1000000000 ≤ w.hk.clock) :
    stepRuled w num den = (stepChanged (w.inc THERM_COUNT_RELEASES) (w.get THERM_STEP_STEP - 1)).fire 491 := by
  rw [stepRuled]
  refine (if_neg (by simp [cool])).trans ((if_neg (by simp [low])).trans ?_)
  rw [since]
  exact if_pos ⟨long, step⟩

/-! ## The answers of a reading -/

/-- What a rating leaves of the converter. -/
def Rested (w w' : Work s) : Prop :=
  w'.hk.thermalDue = w.hk.thermalDue ∧ w'.hk.calWanted = w.hk.calWanted ∧ w'.hk.patch = w.hk.patch

theorem Rested.ite {p : Prop} [Decidable p] {w a b : Work s} (ha : Rested w a) (hb : Rested w b) : Rested w (if p then a else b) := by
  split
  · exact ha
  · exact hb

theorem stepRuled_rested (w : Work s) (num den : Int) : Rested w (stepRuled w num den) := by
  rw [stepRuled]
  refine Rested.ite ⟨rfl, rfl, rfl⟩ (Rested.ite ⟨rfl, rfl, rfl⟩ ?_)
  split
  · exact ⟨rfl, rfl, rfl⟩
  · exact Rested.ite ⟨rfl, rfl, rfl⟩ ⟨rfl, rfl, rfl⟩

theorem warned_rested (w : Work s) (num den : Int) : Rested w (warned w num den) := by
  rw [warned]
  split <;> exact ⟨rfl, rfl, rfl⟩

theorem Rested.trans {w w' w'' : Work s} (h : Rested w w') (h' : Rested w' w'') : Rested w w'' := by
  obtain ⟨due, wanted, patch⟩ := h
  obtain ⟨due', wanted', patch'⟩ := h'
  exact ⟨due'.trans due, wanted'.trans wanted, patch'.trans patch⟩

theorem rateShown_rested (w : Work s) (num den : Int) : Rested w (rateShown w num den) := by
  obtain ⟨dev, -⟩ := rateShown_rest w num den
  rw [Rested, Work.hk, dev]
  exact ⟨rfl, rfl, rfl⟩

theorem thermalRate_spec (w : Work s) (temp : Int) : Rested w (thermalRate w temp none) ∧ Writes (· ∈ readingFlds) w (thermalRate w temp none) := by
  cases h : rateBase w with
  | none => rw [thermalRate_none h]; exact ⟨⟨rfl, rfl, rfl⟩, Writes.refl w⟩
  | some r =>
    have shown := rateShown_rested w (temp - r.2) ((w.now : Int) - r.1)
    have writes : Writes (· ∈ readingFlds) w (rateShown w (temp - r.2) ((w.now : Int) - r.1)) :=
      (rateShown_writes _ _ _).mono (fun g hg => by simp only [readingFlds, List.mem_cons, List.not_mem_nil, or_false] at hg ⊢; tauto)
    rw [thermalRate_some h _ _ rfl rfl]
    split
    · rw [thermalRules_eq]
      refine ⟨shown.trans ((warned_rested _ _ _).trans (stepRuled_rested _ _ _)), writes.trans (((warned_writes _ _ _).mono ?_).trans ((stepRuled_writes _ _ _).mono ?_))⟩
      all_goals
        intro g hg
        simp only [readingFlds, List.mem_cons, List.not_mem_nil, or_false] at hg ⊢
        tauto
    · split
      · exact ⟨shown, writes.of_get (fun _ => rfl)⟩
      · exact ⟨shown, writes⟩

/-- A reading rated. -/
def rated (s : State) (elapsed : Nat) (temp : Int) : Work s := thermalRate (tempShown (injected s elapsed) temp) temp none

/-- A rated reading kept among the readings. -/
def readingKept (w : Work s) (temp : Int) : Work s :=
  (w.updHk (fun h => { h with readings := ((w.now, temp) :: h.readings).take 64 })).updHk (fun h => { h with patch := [] })

section

variable {x : HkAnalog} {code : Int} (elapsed : Nat) (item : s.dev.hk.item = some .thermal) (free : ConverterFree s) (round : s.get HK_STATUS_ROUND = 0)
  (conv : Converts s x thermalWord code) (inRange : (hkCode code).2 = false)
include item free round conv inRange

theorem entryBoundary_reading (low : -4000 ≤ x.temp) (high : x.temp ≤ 15000) (steady : ∀ y, s.dev.hk.lastTemp = some y → (x.temp - y).natAbs ≤ 2000) :
    entryBoundary (Work.start s) x elapsed = readingKept (rated s elapsed x.temp) x.temp := by
  obtain ⟨patch, due, pending, wanted⟩ := free
  obtain ⟨⟨due', wanted', patch'⟩, writes⟩ := thermalRate_spec (tempShown (injected s elapsed) x.temp) x.temp
  have shown : Writes (· ∈ readingFlds) (Work.start s) (tempShown (injected s elapsed) x.temp) :=
    Writes.mono (K := (· ∈ [THERM_TEMP_VALID, THERM_TEMP_TEMP, THERM_MAX])) (fun f hf => tempShown_writes (injected s elapsed) x.temp f hf)
      (fun g hg => by simp only [readingFlds, List.mem_cons, List.not_mem_nil, or_false] at hg ⊢; tauto)
  have steady' : ∀ y, (injected s elapsed).hk.lastTemp = some y → (x.temp - y).natAbs ≤ 2000 := steady
  rw [entryBoundary_thermal elapsed item conv inRange, diodeReading_plausible low high steady']
  rw [← rated] at due' wanted' patch' writes ⊢
  refine hkNext_idle due' (wanted'.trans wanted) (patch'.trans patch) ?_ ?_
  · exact ((shown.trans writes) _ (reading_apart _ (by simp))).trans pending
  · exact ((shown.trans writes) _ (reading_apart _ (by simp))).trans round

end

theorem shown_kept (elapsed : Nat) (temp : Int) : Writes (· ∈ readingFlds) (Work.start s) (tempShown (injected s elapsed) temp) :=
  Writes.mono (K := (· ∈ [THERM_TEMP_VALID, THERM_TEMP_TEMP, THERM_MAX])) (fun f hf => tempShown_writes (injected s elapsed) temp f hf)
    (fun g hg => by simp only [readingFlds, List.mem_cons, List.not_mem_nil, or_false] at hg ⊢; tauto)

/-- R432: the reading against which the new one is rated is that of the state. -/
theorem rateBase_shown (elapsed : Nat) (temp : Int) : rateBase (tempShown (injected s elapsed) temp) =
    s.dev.hk.readings.find? (fun r => decide (r.1 + thermWindow s.view ≤ s.tl.count)) := by
  have window : thermWindow (tempShown (injected s elapsed) temp) = thermWindow s.view := by
    have win : (tempShown (injected s elapsed) temp).get THERM_WIN = s.view.get THERM_WIN := shown_kept elapsed temp _ (reading_apart _ (by simp))
    rw [thermWindow, thermWindow, win]
  rw [rateBase, window]
  rfl

theorem readingKept_get (w : Work s) (temp : Int) (f : Fld) : (readingKept w temp).get f = w.get f := rfl

theorem readingKept_held (w : Work s) (temp : Int) : (readingKept w temp).dev.held = w.dev.held := rfl

theorem readingKept_out (w : Work s) (temp : Int) : (readingKept w temp).dev.out = w.dev.out := rfl

theorem readingKept_dev (w : Work s) (temp : Int) : (readingKept w temp).dev =
    { w.dev with hk := { w.dev.hk with readings := ((w.now, temp) :: w.dev.hk.readings).take 64, patch := [] } } := rfl

theorem tempShown_dev (w : Work s) (temp : Int) : (tempShown w temp).dev =
    { w.dev with hk := { w.dev.hk with prevOvr := false, thermalDue := false, lastTemp := some temp } } := rfl

theorem tempShown_rest (w : Work s) (temp : Int) : (tempShown w temp).now = w.now ∧ (tempShown w temp).fresh = w.fresh ∧ (Quiet w → Quiet (tempShown w temp)) :=
  ⟨rfl, rfl, id⟩

theorem readingKept_rest (w : Work s) (temp : Int) : (readingKept w temp).fresh = w.fresh ∧ (Quiet w → Quiet (readingKept w temp)) := ⟨rfl, id⟩

theorem injected_dev (elapsed : Nat) : (injected s elapsed).dev = { s.view.dev with hk := { s.dev.hk with
    clock := s.dev.hk.clock + (elapsed + 1050000), delay := s.dev.hk.delay - (elapsed + 1050000), item := none } } := rfl

/-- A converter with no thermal injection due and no patch word on its way. -/
theorem hk_idle (free : ConverterFree s) : { s.dev.hk with thermalDue := false, patch := [] } = s.dev.hk := by
  obtain ⟨patch, due, -, -⟩ := free
  cases h : s.dev.hk
  rw [h] at patch due
  cases patch
  cases due
  rfl

section

variable {x : HkAnalog} {code : Int} (elapsed : Nat) (hs : s.wf = true) (item : s.dev.hk.item = some .thermal) (free : ConverterFree s)
  (round : s.get HK_STATUS_ROUND = 0) (conv : Converts s x thermalWord code) (inRange : (hkCode code).2 = false)
  (low : -4000 ≤ x.temp) (high : x.temp ≤ 15000) (steady : ∀ y, s.dev.hk.lastTemp = some y → (x.temp - y).natAbs ≤ 2000)
include hs item free round conv inRange low high steady

theorem reading_unrated (first : s.dev.hk.readings.find? (fun r => decide (r.1 + thermWindow s.view ≤ s.tl.count)) = none) :
    Answers (.entryBoundary x elapsed) s (fun t => t.get THERM_TEMP_VALID = 1 ∧ t.get THERM_TEMP_TEMP = toField 16 x.temp ∧
      t.get THERM_MAX = toField 16 (max x.temp (sext 16 (s.get THERM_MAX))) ∧
      Leaves s t [THERM_TEMP_VALID, THERM_TEMP_TEMP, THERM_MAX] { s.view.dev with hk := { s.dev.hk with
        clock := s.dev.hk.clock + (elapsed + 1050000), delay := s.dev.hk.delay - (elapsed + 1050000), item := none, prevOvr := false,
        lastTemp := some x.temp, readings := ((s.tl.count, x.temp) :: s.dev.hk.readings).take 64 } }) := by
  obtain ⟨valid, temp, max_⟩ := tempShown_get (injected s elapsed) x.temp
  have unrated : rated s elapsed x.temp = tempShown (injected s elapsed) x.temp := thermalRate_none ((rateBase_shown elapsed x.temp).trans first)
  have kept : Writes (· ∈ [THERM_TEMP_VALID, THERM_TEMP_TEMP, THERM_MAX]) (injected s elapsed) (tempShown (injected s elapsed) x.temp) := tempShown_writes _ _
  obtain ⟨now, fresh, quiet⟩ := tempShown_rest (injected s elapsed) x.temp
  have shown := tempShown_dev (injected s elapsed) x.temp
  have runs := entryBoundary_reading elapsed item free round conv inRange low high steady
  rw [unrated] at runs
  generalize tempShown (injected s elapsed) x.temp = w at *
  obtain ⟨keptFresh, keptQuiet⟩ := readingKept_rest w x.temp
  have dev : (readingKept w x.temp).dev = { s.view.dev with hk := { s.dev.hk with
      clock := s.dev.hk.clock + (elapsed + 1050000), delay := s.dev.hk.delay - (elapsed + 1050000), item := none, prevOvr := false,
      lastTemp := some x.temp, readings := ((s.tl.count, x.temp) :: s.dev.hk.readings).take 64 } } := by
    rw [readingKept_dev, shown, now, injected_dev]
    exact congrArg (fun h : HkSt => ({ s.view.dev with hk := { h with
      clock := s.dev.hk.clock + (elapsed + 1050000), delay := s.dev.hk.delay - (elapsed + 1050000), item := none, prevOvr := false,
      lastTemp := some x.temp, readings := ((s.tl.count, x.temp) :: s.dev.hk.readings).take 64 } } : Dev)) (hk_idle free)
  refine answers_of (F := fun w => entryBoundary w x elapsed) rfl runs
    ⟨?_, ?_, ?_, leaves_finish hs (fun f hf => ?_) (keptQuiet (quiet (quiet_start s))) dev (keptFresh.trans fresh)⟩
  · rw [Work.finish_get _ _ hs, readingKept_get, valid]
  · rw [Work.finish_get _ _ hs, readingKept_get, temp]
  · rw [Work.finish_get _ _ hs, readingKept_get, max_]
    rfl
  · rw [readingKept_get, kept f hf]
    rfl

end

/-! ## A rated reading (R432 to R434) -/

/-- The rate of a reading against an older one. -/
structure Rated (s : State) (elapsed : Nat) (temp : Int) (num den : Int) (v : Work s) : Prop where
  regs : Writes (· ∈ readingFlds) (Work.start s) v
  kept : ∀ f ∈ [THERM_STATUS_WARN, THERM_COUNT_THROTTLES, THERM_STEP_STEP, THERM_COUNT_RELEASES], v.get f = s.get f
  valid : v.get THERM_RATE_VALID = 1
  rate : num * 1000000000 % den = 0 → v.get THERM_RATE_RATE = toField 16 (satS 16 (num * 1000000000 / den))
  held : v.dev.held = s.dev.held
  out : v.dev.out = []
  tl : v.tl = s.tl
  lastStep : v.hk.lastStep = s.dev.hk.lastStep
  releaseFrom : v.hk.releaseFrom = s.dev.hk.releaseFrom
  clock : v.hk.clock = s.dev.hk.clock + (elapsed + 1050000)

theorem rateShown_rated (elapsed : Nat) (temp num den : Int) : Rated s elapsed temp num den (rateShown (tempShown (injected s elapsed) temp) num den) := by
  obtain ⟨dev, tl⟩ := rateShown_rest (tempShown (injected s elapsed) temp) num den
  obtain ⟨valid, rate⟩ := rateShown_get (tempShown (injected s elapsed) temp) num den
  have writes := rateShown_writes (tempShown (injected s elapsed) temp) num den
  have shown : Writes (· ∈ [THERM_TEMP_VALID, THERM_TEMP_TEMP, THERM_MAX]) (injected s elapsed) (tempShown (injected s elapsed) temp) := tempShown_writes _ _
  have shownDev := tempShown_dev (injected s elapsed) temp
  have shownTl : (tempShown (injected s elapsed) temp).tl = s.tl := rfl
  have start : ∀ f, (injected s elapsed).get f = s.get f := fun _ => rfl
  rw [shownTl] at tl
  rw [injected_dev] at shownDev
  generalize rateShown (tempShown (injected s elapsed) temp) num den = v at *
  generalize tempShown (injected s elapsed) temp = w at *
  rw [shownDev] at dev
  refine ⟨fun f hf => ?_, fun f hf => ?_, valid, rate, by rw [dev]; rfl, by rw [dev]; rfl, tl, by rw [Work.hk, dev], by rw [Work.hk, dev], by rw [Work.hk, dev]⟩
  · rw [writes f (fun g hg => hf g (by simp only [readingFlds, List.mem_cons, List.not_mem_nil, or_false] at hg ⊢; tauto)),
      shown f (fun g hg => hf g (by simp only [readingFlds, List.mem_cons, List.not_mem_nil, or_false] at hg ⊢; tauto)), start]
    rfl
  · have apart : ∀ f ∈ [THERM_STATUS_WARN, THERM_COUNT_THROTTLES, THERM_STEP_STEP, THERM_COUNT_RELEASES],
        ∀ g ∈ [THERM_RATE_VALID, THERM_RATE_RATE, THERM_TEMP_VALID, THERM_TEMP_TEMP, THERM_MAX], f.key ≠ g.key := by decide
    rw [writes f (fun g hg => apart f hf g (by simp only [List.mem_cons, List.not_mem_nil, or_false] at hg ⊢; tauto)),
      shown f (fun g hg => apart f hf g (by simp only [List.mem_cons, List.not_mem_nil, or_false] at hg ⊢; tauto)), start]

/-- Whether a rate reaches a threshold. -/
abbrev Reaches (num den : Int) (t : Nat) : Prop := (t : Int) * 10 * den ≤ num * 1000000000

/-- What a rated reading shows of its rate, its warning and its step. -/
def RateShows (s t : State) (elapsed : Nat) (num den : Int) : Prop :=
  t.get THERM_RATE_VALID = 1 ∧
  (num * 1000000000 % den = 0 → t.get THERM_RATE_RATE = toField 16 (satS 16 (num * 1000000000 / den))) ∧
  (s.get THERM_STATUS_SENSOR_FAULT = 0 → Reaches num den (s.get THERM_THR_WARN) → t.get THERM_STATUS_WARN ≠ 0) ∧
  (s.get THERM_STATUS_SENSOR_FAULT = 0 → Reaches num den (s.get THERM_THR_THROTTLE) → s.get THERM_STEP_STEP < 4 →
    (∀ x, s.dev.hk.lastStep = some x → x + 1000000000 ≤ s.dev.hk.clock + (elapsed + 1050000)) → t.get THERM_STEP_STEP = s.get THERM_STEP_STEP + 1 ∧
    Counted s t THERM_COUNT_THROTTLES ∧ s.firing 489 ∈ t.dev.held ∧
    t.dev.out = [.currentLimit ([80, 72, 64, 56, 48].getD (s.get THERM_STEP_STEP + 1) 0)]) ∧
  (s.get THERM_STATUS_SENSOR_FAULT = 0 → ¬Reaches num den (s.get THERM_THR_THROTTLE) → ¬Reaches num den (s.get THERM_THR_RELEASE) →
    min 4 (s.get THERM_STEP_MIN_STEP) < s.get THERM_STEP_STEP → s.get THERM_STEP_STEP < 8 →
    (∃ x, s.dev.hk.releaseFrom = some x ∧ x + max 1 (s.get THERM_THR_RELEASE_S) * 1000000000 ≤ s.dev.hk.clock + (elapsed + 1050000)) →
    t.get THERM_STEP_STEP = s.get THERM_STEP_STEP - 1 ∧ Counted s t THERM_COUNT_RELEASES ∧ s.firing 491 ∈ t.dev.held ∧
    (s.get THERM_STEP_STEP ≤ 4 → t.dev.out = [.currentLimit ([80, 72, 64, 56, 48].getD (s.get THERM_STEP_STEP - 1) 0)]))

/-- R433, R434: a change of the step, counted and told. -/
theorem stepChanged_shows {w : Work s} (counter : Fld) (hc : counter ∈ [THERM_COUNT_THROTTLES, THERM_COUNT_RELEASES]) (step src : Nat) (hstep : step < 8) :
    ((stepChanged (w.inc counter) step).fire src).get THERM_STEP_STEP = step ∧
    ((stepChanged (w.inc counter) step).fire src).get counter = min (2 ^ counter.width - 1) (w.get counter + 1) ∧
    (⟨src, 0, false, w.now, w.ntLo⟩ : Firing) ∈ ((stepChanged (w.inc counter) step).fire src).dev.held ∧
    ((stepChanged (w.inc counter) step).fire src).dev.out = w.dev.out ++ [.currentLimit (currentLimit step)] := by
  have apart : ∀ c ∈ [THERM_COUNT_THROTTLES, THERM_COUNT_RELEASES], c.key ≠ THERM_STEP_STEP.key ∧ NT_NOW.key ≠ c.key := by decide
  obtain ⟨off, nt⟩ := apart counter hc
  have now : (stepChanged (w.inc counter) step).now = w.now := rfl
  have ntLo : (stepChanged (w.inc counter) step).ntLo = w.ntLo := by
    have kept : (stepChanged (w.inc counter) step).get NT_NOW = w.get NT_NOW :=
      (Work.get_set_ne (w.inc counter) THERM_STEP_STEP NT_NOW step (by decide)).trans (Work.get_set_ne _ _ _ _ nt)
    rw [Work.ntLo, Work.ntLo, kept]
  refine ⟨?_, ?_, ?_, rfl⟩
  · rw [Work.get_fire]
    exact (Work.get_set_self (w.inc counter) THERM_STEP_STEP step).trans (Nat.mod_eq_of_lt hstep)
  · rw [Work.get_fire]
    exact (Work.get_set_ne (w.inc counter) THERM_STEP_STEP counter step off).trans (get_inc _ _)
  · rw [fire_dev, now, ntLo]
    exact List.mem_append_right _ (List.mem_singleton_self _)

theorem currentLimit_table : ∀ n < 5, [80, 72, 64, 56, 48].getD n 0 = currentLimit n := by decide

/-- What a warning leaves of a rated reading. -/
theorem warned_kept (v : Work s) (num den : Int) : (warned v num den).hk = v.hk ∧ (warned v num den).dev.out = v.dev.out ∧ (warned v num den).tl = v.tl ∧
    v.dev.held ⊆ (warned v num den).dev.held := by
  rw [warned]
  split
  · exact ⟨rfl, rfl, rfl, List.subset_append_left _ _⟩
  · exact ⟨rfl, rfl, rfl, List.Subset.refl _⟩

theorem firing_of_kept {w : Work s} (n : Nat) (tl : w.tl = s.tl) (nt : w.get NT_NOW = s.get NT_NOW) : (⟨n, 0, false, w.now, w.ntLo⟩ : Firing) = s.firing n :=
  firing_eq w n tl nt

/-- What the rate and its rules show in a work, with the firings and the outputs of it. -/
theorem rules_show {s : State} {elapsed : Nat} {temp num den : Int} {v w : Work s} (r : Rated s elapsed temp num den v)
    (rules : s.get THERM_STATUS_SENSOR_FAULT = 0 → w = stepRuled (warned v num den) num den)
    (held : s.get THERM_STATUS_SENSOR_FAULT ≠ 0 → ∀ f ∈ [THERM_RATE_VALID, THERM_RATE_RATE], w.get f = v.get f)
    (t : State) (get : ∀ f, t.get f = w.get f) (theld : t.dev.held = w.dev.held) (tout : t.dev.out = w.dev.out) :
    RateShows s t elapsed num den := by
  obtain ⟨regs, kept, valid, rate, vheld, vout, vtl, lastStep, releaseFrom, clock⟩ := r
  obtain ⟨whk, wout, wtl, wheld⟩ := warned_kept v num den
  have warn := warned_writes v num den
  have warns : rateReaches num den (v.get THERM_THR_WARN) = true → (warned v num den).get THERM_STATUS_WARN ≠ 0 := warned_warns
  generalize warned v num den = u at *
  have step := stepRuled_writes u num den
  -- the registers that the rules follow
  have apart : ∀ f ∈ [THERM_THR_WARN, THERM_THR_THROTTLE, THERM_THR_RELEASE, THERM_THR_RELEASE_S, THERM_STEP_MIN_STEP, NT_NOW],
      f.key ≠ THERM_STATUS_WARN.key ∧ ∀ g ∈ readingFlds, f.key ≠ g.key := by decide
  have param : ∀ f ∈ [THERM_THR_WARN, THERM_THR_THROTTLE, THERM_THR_RELEASE, THERM_THR_RELEASE_S, THERM_STEP_MIN_STEP, NT_NOW],
      v.get f = s.get f ∧ u.get f = s.get f := by
    intro f hf
    obtain ⟨off, offAll⟩ := apart f hf
    have first : v.get f = s.get f := regs f offAll
    exact ⟨first, (warn f (fun g hg => by rw [List.mem_singleton.1 hg]; exact off)).trans first⟩
  have changed : ∀ f ∈ [THERM_COUNT_THROTTLES, THERM_STEP_STEP, THERM_COUNT_RELEASES], u.get f = s.get f := by
    have off : ∀ f ∈ [THERM_COUNT_THROTTLES, THERM_STEP_STEP, THERM_COUNT_RELEASES], f.key ≠ THERM_STATUS_WARN.key := by decide
    intro f hf
    refine (warn f (fun g hg => by rw [List.mem_singleton.1 hg]; exact off f hf)).trans (kept f ?_)
    simp only [List.mem_cons, List.not_mem_nil, or_false] at hf ⊢
    tauto
  have rateKept : ∀ f ∈ [THERM_RATE_VALID, THERM_RATE_RATE], w.get f = v.get f := by
    by_cases fault : s.get THERM_STATUS_SENSOR_FAULT = 0
    · have off : ∀ f ∈ [THERM_RATE_VALID, THERM_RATE_RATE], f.key ≠ THERM_STATUS_WARN.key ∧
          ∀ g ∈ [THERM_COUNT_THROTTLES, THERM_STEP_STEP, THERM_COUNT_RELEASES], f.key ≠ g.key := by decide
      intro f hf
      rw [rules fault, step f (off f hf).2]
      exact warn f (fun g hg => by rw [List.mem_singleton.1 hg]; exact (off f hf).1)
    · exact held fault
  have counted : ∀ f, t.get f = min (2 ^ f.width - 1) (u.get f + 1) → u.get f = s.get f → Counted s t f := by
    intro f h hu
    rw [Counted, h, hu]
  have clock' : u.hk.clock = s.dev.hk.clock + (elapsed + 1050000) := by rw [whk, clock]
  have firing : ∀ n, (⟨n, 0, false, u.now, u.ntLo⟩ : Firing) = s.firing n := fun n =>
    firing_of_kept n (wtl.trans vtl) (param NT_NOW (by simp)).2
  have outs : u.dev.out = [] := wout.trans vout
  have stepIs : u.get THERM_STEP_STEP = s.get THERM_STEP_STEP := changed _ (by simp)
  refine ⟨by rw [get, rateKept _ (by simp), valid], fun whole => by rw [get, rateKept _ (by simp), rate whole], ?_, ?_, ?_⟩
  · intro fault reach
    have off : ∀ g ∈ [THERM_COUNT_THROTTLES, THERM_STEP_STEP, THERM_COUNT_RELEASES], THERM_STATUS_WARN.key ≠ g.key := by decide
    rw [get, rules fault, step _ off]
    refine warns ?_
    rw [(param _ (by simp)).1]
    exact decide_eq_true reach
  · intro fault reach low sec
    have run : w = (stepChanged (u.inc THERM_COUNT_THROTTLES) (u.get THERM_STEP_STEP + 1)).fire 489 := by
      rw [rules fault]
      refine stepRuled_throttle ?_ (by rwa [stepIs]) (fun x hx => ?_)
      · rw [(param _ (by simp)).2]
        exact decide_eq_true reach
      · rw [clock']
        exact sec x (by rw [← lastStep, ← whk, hx])
    obtain ⟨stepped, count, fires, out⟩ := stepChanged_shows (w := u) THERM_COUNT_THROTTLES (by simp) (u.get THERM_STEP_STEP + 1) 489 (by omega)
    rw [← run] at stepped count fires out
    refine ⟨by rw [get, stepped, stepIs], counted _ (by rw [get, count]) (changed _ (by simp)), ?_, ?_⟩
    · rw [theld, ← firing]
      exact fires
    · rw [tout, out, outs, stepIs, currentLimit_table _ (by omega)]
      rfl
  · intro fault noThrottle noRelease above small ⟨x, since, long⟩
    have run : w = (stepChanged (u.inc THERM_COUNT_RELEASES) (u.get THERM_STEP_STEP - 1)).fire 491 := by
      rw [rules fault]
      refine stepRuled_release (x := x) ?_ ?_ ?_ ?_ ?_
      · rw [(param _ (by simp)).2]
        exact decide_eq_false noThrottle
      · rw [(param _ (by simp)).2]
        exact decide_eq_false noRelease
      · rw [stepIs, (param THERM_STEP_MIN_STEP (by simp)).2]
        exact above
      · rw [whk, releaseFrom, since]
      · rw [clock', (param THERM_THR_RELEASE_S (by simp)).2]
        exact long
    obtain ⟨stepped, count, fires, out⟩ := stepChanged_shows (w := u) THERM_COUNT_RELEASES (by simp) (u.get THERM_STEP_STEP - 1) 491 (by omega)
    rw [← run] at stepped count fires out
    refine ⟨by rw [get, stepped, stepIs], counted _ (by rw [get, count]) (changed _ (by simp)), ?_, fun five => ?_⟩
    · rw [theld, ← firing]
      exact fires
    · rw [tout, out, outs, stepIs, currentLimit_table _ (by omega)]
      rfl

section

variable {x : HkAnalog} {code : Int} (elapsed : Nat) (hs : s.wf = true) (item : s.dev.hk.item = some .thermal) (free : ConverterFree s)
  (round : s.get HK_STATUS_ROUND = 0) (conv : Converts s x thermalWord code) (inRange : (hkCode code).2 = false)
  (low : -4000 ≤ x.temp) (high : x.temp ≤ 15000) (steady : ∀ y, s.dev.hk.lastTemp = some y → (x.temp - y).natAbs ≤ 2000)
include hs item free round conv inRange low high steady

/-- R432 to R434: a reading against an older one shows its rate, and the rules follow it. -/
theorem reading_rated (r : Nat × Int) (base : s.dev.hk.readings.find? (fun r => decide (r.1 + thermWindow s.view ≤ s.tl.count)) = some r) :
    Answers (.entryBoundary x elapsed) s (fun t => RateShows s t elapsed (x.temp - r.2) ((s.tl.count : Int) - r.1)) := by
  have found := (rateBase_shown elapsed x.temp).trans base
  have shown := rateShown_rated (s := s) elapsed x.temp (x.temp - r.2) ((s.tl.count : Int) - r.1)
  have runs := entryBoundary_reading elapsed item free round conv inRange low high steady
  have rate : rated s elapsed x.temp = _ := thermalRate_some (t0 := r.1) (temp0 := r.2) found (x.temp - r.2) ((s.tl.count : Int) - r.1) rfl rfl
  have fault : (rateShown (tempShown (injected s elapsed) x.temp) (x.temp - r.2) ((s.tl.count : Int) - r.1)).get THERM_STATUS_SENSOR_FAULT =
      s.get THERM_STATUS_SENSOR_FAULT := shown.regs _ (reading_apart _ (by simp))
  rw [on_eq, fault] at rate
  refine answers_of (F := fun w => entryBoundary w x elapsed) rfl runs (rules_show (w := rated s elapsed x.temp) shown (fun ok => ?_) (fun bad f hf => ?_) _
    (fun f => (Work.finish_get _ _ hs).trans (readingKept_get _ _ f)) (readingKept_held _ _) (readingKept_out _ _))
  · rw [rate, if_pos (by simp [ok]), thermalRules_eq]
  · rw [rate, if_neg (by simp [bad])]
    split <;> rfl

end

/-! ## An implausible reading (R436) -/

/-- The registers and the firing of a sensor fault. -/
def faulted (w : Work s) : Work s := ((w.set THERM_STATUS_SENSOR_FAULT 1).set THERM_STATUS_CAUSE 1).fire 490

theorem sensorFault_eq (w : Work s) : sensorFault w 1 none = if w.on THERM_STATUS_SENSOR_FAULT then faulted w
    else ((faulted w).errlog 0x09 .hardware devTile 1 0).updHk (fun h => { h with tempest := true }) := rfl

theorem faulted_get (w : Work s) : (faulted w).get THERM_STATUS_SENSOR_FAULT = 1 ∧ (faulted w).get THERM_STATUS_CAUSE = 1 := by
  simp (disch := decide) only [faulted, Work.get_fire, Work.get_set_ne, Work.get_set_self]
  exact ⟨rfl, rfl⟩

theorem faulted_writes (w : Work s) : Writes (· ∈ [THERM_STATUS_SENSOR_FAULT, THERM_STATUS_CAUSE]) w (faulted w) :=
  (((Writes.refl w).set _ _ (by simp)).set _ _ (by simp)).fire _

theorem faulted_dev (w : Work s) (tl : w.tl = s.tl) (nt : w.get NT_NOW = s.get NT_NOW) :
    (faulted w).dev = { w.dev with held := w.dev.held ++ [s.firing 490] } := by
  rw [faulted, fire_dev, firing_eq]
  · rfl
  · exact tl
  · simp (disch := decide) only [Work.get_set_ne]
    exact nt

/-- The injection ended with nothing due, as an implausible reading finds it. -/
def unread (s : State) (elapsed : Nat) : Work s := (injected s elapsed).updHk (fun h => { h with prevOvr := false, thermalDue := false })

/-- Registers that a sensor fault and its entry of the error log leave. -/
theorem fault_apart : ∀ f ∈ [HK_INJ_CTRL_PENDING, HK_STATUS_ROUND, NT_NOW, THERM_STEP_STEP, THERM_TEMP_TEMP, DEV_ERRLOG_HEAD],
    ∀ g ∈ [THERM_STATUS_SENSOR_FAULT, THERM_STATUS_CAUSE], f.key ≠ g.key := by decide

theorem fault_offLog : ∀ f ∈ [HK_INJ_CTRL_PENDING, HK_STATUS_ROUND, THERM_STEP_STEP, THERM_TEMP_TEMP, THERM_STATUS_SENSOR_FAULT, THERM_STATUS_CAUSE],
    f.lo < 32 ∧ (f.addr < 0x1010 ∨ 0x2000 ≤ f.addr ∨ f.addr = 0x1014) := by decide

section

variable {x : HkAnalog} {code : Int} (elapsed : Nat) (hs : s.wf = true) (item : s.dev.hk.item = some .thermal) (free : ConverterFree s)
  (round : s.get HK_STATUS_ROUND = 0) (conv : Converts s x thermalWord code) (inRange : (hkCode code).2 = false)
include hs item free round conv inRange

/-- R436: a reading that no sensor gives is a sensor fault. -/
theorem reading_implausible (range : x.temp < -4000 ∨ 15000 < x.temp) : Answers (.entryBoundary x elapsed) s (fun t =>
    t.get THERM_STATUS_SENSOR_FAULT = 1 ∧ t.get THERM_STATUS_CAUSE = 1 ∧ t.get THERM_STEP_STEP = s.get THERM_STEP_STEP ∧
    t.get THERM_TEMP_TEMP = s.get THERM_TEMP_TEMP ∧
    (s.get THERM_STATUS_SENSOR_FAULT = 0 → Logged s t 9 3 63 0 ∧ t.dev.hk.tempest = true ∧
      t.dev.held = s.dev.held ++ [s.firing 490, s.firing 487]) ∧
    (s.get THERM_STATUS_SENSOR_FAULT ≠ 0 → t.dev.held = s.dev.held ++ [s.firing 490])) := by
  obtain ⟨patch, due, pending, wanted⟩ := free
  have runs := entryBoundary_thermal elapsed item conv inRange
  have reads : diodeReading (injected s elapsed) x.temp false none = sensorFault (unread s elapsed) 1 none := by
    rw [diodeReading]
    exact if_pos range
  rw [reads, sensorFault_eq] at runs
  have was : (unread s elapsed).on THERM_STATUS_SENSOR_FAULT = decide (s.get THERM_STATUS_SENSOR_FAULT ≠ 0) := on_eq _ _
  obtain ⟨fault, cause⟩ := faulted_get (unread s elapsed)
  have writes : ∀ f, (∀ g ∈ [THERM_STATUS_SENSOR_FAULT, THERM_STATUS_CAUSE], f.key ≠ g.key) → (faulted (unread s elapsed)).get f = s.get f :=
    faulted_writes (unread s elapsed)
  have dev := faulted_dev (unread s elapsed) rfl rfl
  have hk : (faulted (unread s elapsed)).dev.hk = (unread s elapsed).hk := by rw [dev]; rfl
  have held : (faulted (unread s elapsed)).dev.held = s.dev.held ++ [s.firing 490] := by rw [dev]; rfl
  have tl : (faulted (unread s elapsed)).tl = s.tl := rfl
  have due' : (unread s elapsed).hk.thermalDue = false := rfl
  have wanted' : (unread s elapsed).hk.calWanted = false := wanted
  have patch' : (unread s elapsed).hk.patch = [] := patch
  rw [was] at runs
  generalize faulted (unread s elapsed) = w at *
  generalize unread s elapsed = u at *
  by_cases before : s.get THERM_STATUS_SENSOR_FAULT = 0
  · rw [if_neg (by simp [before])] at runs
    have head := writes DEV_ERRLOG_HEAD (fault_apart _ (by simp))
    have nt : w.get NT_NOW = s.get NT_NOW := writes _ (fault_apart _ (by simp))
    obtain ⟨w', logs, logged, -, -, logDev, -⟩ := errlog_effect w 0x09 devTile 1 0 .hardware hs head (by decide) (by decide)
    have off : ∀ f ∈ [HK_INJ_CTRL_PENDING, HK_STATUS_ROUND, THERM_STEP_STEP, THERM_TEMP_TEMP, THERM_STATUS_SENSOR_FAULT, THERM_STATUS_CAUSE],
        w'.get f = w.get f := fun f hf => by
      rw [← logs]
      obtain ⟨lo, addr⟩ := fault_offLog f hf
      exact get_errlog_of_addr w _ _ _ _ _ f lo addr
    rw [firing_eq w 487 tl nt] at logDev
    rw [logs] at runs
    have hk' : (w'.updHk (fun h => { h with tempest := true })).hk = { u.hk with tempest := true } := by
      rw [show (w'.updHk (fun h => { h with tempest := true })).hk = { w'.dev.hk with tempest := true } from rfl, logDev, hk]
    have idle : hkNext (w'.updHk (fun h => { h with tempest := true })) = _ := hkNext_idle (by rw [hk']; exact due') (by rw [hk']; exact wanted')
      (by rw [hk']; exact patch') ((off _ (by simp)).trans ((writes _ (fault_apart _ (by simp))).trans pending))
      ((off _ (by simp)).trans ((writes _ (fault_apart _ (by simp))).trans round))
    rw [idle] at runs
    refine answers_of (F := fun w => entryBoundary w x elapsed) rfl runs ⟨?_, ?_, ?_, ?_, fun _ => ⟨?_, rfl, ?_⟩, fun h => absurd before h⟩
    · exact (Work.finish_get _ _ hs).trans ((off _ (by simp)).trans fault)
    · exact (Work.finish_get _ _ hs).trans ((off _ (by simp)).trans cause)
    · exact (Work.finish_get _ _ hs).trans ((off _ (by simp)).trans (writes _ (fault_apart _ (by simp))))
    · exact (Work.finish_get _ _ hs).trans ((off _ (by simp)).trans (writes _ (fault_apart _ (by simp))))
    · exact logged_of_get hs logged (fun _ => rfl)
    · refine Eq.trans (b := w'.dev.held) rfl ?_
      rw [logDev]
      exact (congrArg (· ++ [s.firing 487]) held).trans (List.append_assoc _ _ _)
  · rw [if_pos (by simp [before])] at runs
    have idle : hkNext w = _ := hkNext_idle ((congrArg HkSt.thermalDue hk).trans due') ((congrArg HkSt.calWanted hk).trans wanted')
      ((congrArg HkSt.patch hk).trans patch') ((writes _ (fault_apart _ (by simp))).trans pending) ((writes _ (fault_apart _ (by simp))).trans round)
    rw [idle] at runs
    refine answers_of (F := fun w => entryBoundary w x elapsed) rfl runs ⟨?_, ?_, ?_, ?_, fun h => absurd h before, fun _ => held⟩
    · exact (Work.finish_get _ _ hs).trans fault
    · exact (Work.finish_get _ _ hs).trans cause
    · exact (Work.finish_get _ _ hs).trans (writes _ (fault_apart _ (by simp)))
    · exact (Work.finish_get _ _ hs).trans (writes _ (fault_apart _ (by simp)))

end

theorem temperature : Clause.Temperature := by
  intro s hs x code elapsed h temp time now old num den reaches item free round conv inRange
  refine ⟨fun low high steady => ⟨fun first => ?_, fun some_ _ => ?_⟩, fun range => reading_implausible elapsed hs item free round conv inRange range⟩
  · exact reading_unrated elapsed hs item free round conv inRange low high steady first
  · obtain ⟨r, base⟩ := Option.isSome_iff_exists.1 some_
    have rated := reading_rated elapsed hs item free round conv inRange low high steady r base
    have hnum : num = x.temp - r.2 := by
      show (match old with | some r => temp - r.2 | none => 0) = _
      rw [base]
    have hden : den = (s.tl.count : Int) - r.1 := by
      show (match old with | some r => (s.tl.count : Int) - r.1 | none => 1) = _
      rw [base]
    rw [← hnum, ← hden] at rated
    exact rated

/-! ## Storm (R437) -/

/-- The register of a cause of Storm. -/
def causeFld (k : Nat) : Fld := if k = 0 then THERM_STORM_OVERTEMP else if k = 1 then THERM_STORM_DIODE_OPEN else THERM_STORM_DIODE_SHORT

/-- Everything that Storm switches off, before the balls fall idle. -/
def stormOff (w : Work s) : Work s := ((loseTiles (w.set THERM_STORM_TRIPPED 1)).set DEV_STATUS_TILES_RELEASED 0).set DEV_FABRIC_CYCLE_PS 0

/-- The balls that Storm takes to 0 before the transmitters. -/
def stormBalls : List Out :=
  [.ball "THERM_TRIP_N" 0 0] ++ (List.range 64).map (fun i => .ball "XY_OUT" i 0) ++ (List.range 32).map (fun i => .ball "PROBE_OUT" i 0) ++
    (List.range 256).map (fun i => .ball "FX_OUT" i 0)

/-- The transmitters off. -/
def txOff (w : Work s) : Work s := w.each (List.range 32) (fun w n => w.set (LANE_TX n) 0)

/-- What Storm does beside its cause, while it has not tripped. -/
def stormRest (w : Work s) : Work s :=
  zeroBalls (txOff (zeroBalls (zeroBalls (zeroBalls ((((stormFlash (loseTiles (w.set THERM_STORM_TRIPPED 1))).set DEV_STATUS_TILES_RELEASED 0).set
    DEV_FABRIC_CYCLE_PS 0).emit (.ball "THERM_TRIP_N" 0 0)) "XY_OUT" 64) "PROBE_OUT" 32) "FX_OUT" 256)) "SER_TX" 32

theorem stormTrip_eq (w : Work s) (k : Nat) : stormTrip w k = if (w.set (causeFld k) 1).on THERM_STORM_TRIPPED then w.set (causeFld k) 1 else
    stormRest (w.set (causeFld k) 1) := by
  rw [stormTrip, causeFld]
  split <;> [rfl; (split <;> rfl)]

theorem causeFld_off (k : Nat) : ∀ f ∈ [THERM_STORM_TRIPPED, DEV_STATUS_TILES_RELEASED, DEV_FABRIC_CYCLE_PS], f.key ≠ (causeFld k).key := by
  rw [causeFld]
  split <;> [decide; (split <;> decide)]

theorem stormTrip_tripped {k : Nat} (tripped : s.get THERM_STORM_TRIPPED ≠ 0) : stormTrip (Work.start s) k = (Work.start s).set (causeFld k) 1 := by
  rw [stormTrip_eq]
  refine if_pos ?_
  rw [on_eq, Work.get_set_ne _ _ _ _ (causeFld_off k _ List.mem_cons_self), Work.get_start]
  exact decide_eq_true tripped

theorem stormRest_eq {w : Work s} (flash : w.ld.flashOp = none) :
    stormRest w = emits (txOff (emits (stormOff w) stormBalls)) ((List.range 32).map (fun i => .ball "SER_TX" i 0)) := by
  have ld : (loseTiles (w.set THERM_STORM_TRIPPED 1)).ld = w.ld := rfl
  have still : stormFlash (loseTiles (w.set THERM_STORM_TRIPPED 1)) = loseTiles (w.set THERM_STORM_TRIPPED 1) := by
    rw [stormFlash, ld, flash]
  rw [stormRest, still]
  simp only [PowerProofs.zeroBalls_eq, emit_eq_emits, emits_emits]
  rfl

/-- The state of a Storm that trips. -/
def stormed (s : State) (k : Nat) : Work s :=
  emits (txOff (emits (stormOff ((Work.start s).set (causeFld k) 1)) stormBalls)) ((List.range 32).map (fun i => .ball "SER_TX" i 0))

theorem stormTrip_trips {k : Nat} (calm : s.get THERM_STORM_TRIPPED = 0) (flash : s.dev.loader.flashOp = none) : stormTrip (Work.start s) k = stormed s k := by
  rw [stormTrip_eq, if_neg, stormRest_eq (w := (Work.start s).set (causeFld k) 1) flash, stormed]
  rw [on_eq, Work.get_set_ne _ _ _ _ (causeFld_off k _ List.mem_cons_self), Work.get_start, calm]
  decide

theorem stormOff_get (w : Work s) : (stormOff w).get DEV_STATUS_TILES_RELEASED = 0 ∧ (stormOff w).get DEV_FABRIC_CYCLE_PS = 0 ∧
    ∀ f : Fld, f.key ≠ DEV_STATUS_TILES_RELEASED.key → f.key ≠ DEV_FABRIC_CYCLE_PS.key →
      (stormOff w).get f = if inRanges tileKeys f.key then f.reset else (w.set THERM_STORM_TRIPPED 1).get f := by
  refine ⟨?_, ?_, fun f released cycle => ?_⟩
  · rw [stormOff, Work.get_set_ne _ _ _ _ (by decide), Work.get_set_self]
    rfl
  · rw [stormOff, Work.get_set_self]
    rfl
  · rw [stormOff, Work.get_set_ne _ _ _ _ cycle, Work.get_set_ne _ _ _ _ released]
    exact Work.get_wipeRegs _ _ _

theorem txOff_writes (w : Work s) : Writes (· ∈ (List.range 32).map LANE_TX) w (txOff w) :=
  (Writes.refl w).each _ _ (fun _ n hn h => h.set _ _ (List.mem_map.2 ⟨n, hn, rfl⟩))

theorem txOff_rest (w : Work s) : (txOff w).dev = w.dev ∧ (txOff w).tlc = w.tlc ∧ (∀ a, (txOff w).rd8 a = w.rd8 a) ∧ ∀ a, (txOff w).fl8 a = w.fl8 a := by
  rw [txOff]
  generalize List.range 32 = l
  induction l generalizing w with
  | nil => exact ⟨rfl, rfl, fun _ => rfl, fun _ => rfl⟩
  | cons n l ih => exact ih (w.set (LANE_TX n) 0)

theorem causeFld_storm : ∀ k : Fin 3, (causeFld k).width = 1 ∧ causeFld k ∈ [THERM_STORM_TRIPPED, THERM_STORM_OVERTEMP, THERM_STORM_DIODE_OPEN,
    THERM_STORM_DIODE_SHORT] := by decide

theorem storm_apart : (∀ u : Fin 32, inRanges tileKeys (SEQ_STATE_STATE u).key = true ∧ ∀ g ∈ [DEV_STATUS_TILES_RELEASED, DEV_FABRIC_CYCLE_PS] ++
    (List.range 32).map LANE_TX, (SEQ_STATE_STATE u).key ≠ g.key) ∧ ∀ f ∈ [THERM_STORM_TRIPPED, THERM_STORM_OVERTEMP, THERM_STORM_DIODE_OPEN,
    THERM_STORM_DIODE_SHORT], inRanges tileKeys f.key = false ∧ ∀ g ∈ [DEV_STATUS_TILES_RELEASED, DEV_FABRIC_CYCLE_PS] ++ (List.range 32).map LANE_TX,
      f.key ≠ g.key := by decide +kernel

theorem released_off_tx : ∀ g ∈ (List.range 32).map LANE_TX, DEV_STATUS_TILES_RELEASED.key ≠ g.key := by decide

theorem stormOff_dev (w : Work s) : (stormOff w).dev = { w.dev with tiles := Vector.replicate 32 Tile.reset } := rfl

theorem stormOff_stores (w : Work s) (a : Nat) : (stormOff w).rd8 a = (w.wipeMem [(tileBase 0, tileBase 32)]).rd8 a ∧ (stormOff w).fl8 a = w.fl8 a ∧
    (stormOff w).tlc = w.tlc := ⟨rfl, rfl, rfl⟩

theorem emits_rd8 (w : Work s) (os : List Out) (a : Nat) : (emits w os).rd8 a = w.rd8 a := rfl

theorem stormed_stores (s : State) (k : Nat) (a : Nat) : (stormed s k).rd8 a = ((Work.start s).wipeMem [(tileBase 0, tileBase 32)]).rd8 a ∧
    (stormed s k).fl8 a = (Work.start s).fl8 a ∧ (stormed s k).tlc = .keep := by
  obtain ⟨-, tlc, mem, fl⟩ := txOff_rest (emits (stormOff ((Work.start s).set (causeFld k) 1)) stormBalls)
  obtain ⟨mem', fl', tlc'⟩ := stormOff_stores ((Work.start s).set (causeFld k) 1) a
  rw [stormed, emits_rd8, mem, emits_rd8, mem', fl8_emits, fl, fl8_emits, fl', emits_tlc, tlc, emits_tlc, tlc']
  exact ⟨rfl, rfl, rfl⟩

theorem stormed_dev (s : State) (k : Nat) : (stormed s k).dev = { s.view.dev with
    tiles := Vector.replicate 32 Tile.reset
    out := stormBalls ++ (List.range 32).map (fun i => .ball "SER_TX" i 0) } := by
  obtain ⟨dev, -⟩ := txOff_rest (emits (stormOff ((Work.start s).set (causeFld k) 1)) stormBalls)
  rw [stormed, emits_dev, dev, emits_dev, stormOff_dev]
  rfl

/-- The balls that Storm takes to 0 are given out. -/
theorem stormBalls_told : Out.ball "THERM_TRIP_N" 0 0 ∈ stormBalls := by
  rw [stormBalls, List.append_assoc, List.append_assoc]
  exact List.mem_append_left _ (List.mem_singleton_self _)

theorem stormTrips (hs : s.wf = true) (k : Fin 3) (calm : s.get THERM_STORM_TRIPPED = 0) (flash : s.dev.loader.flashOp = none) :
    Answers (.stormTrip k) s (fun t => t.get THERM_STORM_TRIPPED = 1 ∧ t.get (causeFld k) = 1 ∧ t.get DEV_STATUS_TILES_RELEASED = 0 ∧
      (∀ u < 32, t.get (SEQ_STATE_STATE u) = NOT_RELEASED ∧ t.tile u = Tile.reset) ∧
      (∀ f : Fld, inRanges tileKeys f.key = false → (∀ g ∈ [THERM_STORM_TRIPPED, causeFld k, DEV_STATUS_TILES_RELEASED,
        DEV_FABRIC_CYCLE_PS] ++ (List.range 32).map LANE_TX, f.key ≠ g.key) → t.get f = s.get f) ∧
      (∀ a, ¬(tileBase 0 ≤ a ∧ a < tileBase 32) → t.byteAt a = s.byteAt a) ∧ (∀ a, t.flashAt a = s.flashAt a) ∧
      Out.ball "THERM_TRIP_N" 0 0 ∈ t.dev.out ∧ (∀ n < 32, Out.ball "SER_TX" n 0 ∈ t.dev.out) ∧
      t.dev.held = s.dev.held ∧ t.tl = s.tl ∧ t.fuse = s.fuse ∧ t.pending = s.pending) := by
  have tx := txOff_writes (emits (stormOff ((Work.start s).set (causeFld k) 1)) stormBalls)
  obtain ⟨released, -, rest⟩ := stormOff_get ((Work.start s).set (causeFld k) 1)
  obtain ⟨states, storms⟩ := storm_apart
  have width := causeFld_storm k
  have trippedOff : (causeFld k).key ≠ THERM_STORM_TRIPPED.key := (causeFld_off k _ List.mem_cons_self).symm
  have run : stormTrip (Work.start s) k = stormed s k := stormTrip_trips (k := k) calm flash
  have get : ∀ f : Fld, (∀ g ∈ [DEV_STATUS_TILES_RELEASED, DEV_FABRIC_CYCLE_PS] ++ (List.range 32).map LANE_TX, f.key ≠ g.key) →
      (stormed s k).finish.get f = if inRanges tileKeys f.key then f.reset else
        (((Work.start s).set (causeFld k) 1).set THERM_STORM_TRIPPED 1).get f := by
    intro f hf
    rw [Work.finish_get _ _ hs, stormed, get_emits, tx f (fun g hg => hf g (List.mem_append_right _ hg)), get_emits]
    exact rest f (hf _ (by simp)) (hf _ (by simp))
  refine answers_of (F := fun w => stormTrip w k) rfl run ⟨?_, ?_, ?_, fun u hu => ⟨?_, ?_⟩, fun f outside hf => ?_, fun a ha => ?_, fun a => ?_, ?_, fun n hn => ?_, ?_, ?_, ?_, ?_⟩
  · obtain ⟨outside, apart⟩ := storms _ List.mem_cons_self
    rw [get _ apart, if_neg (by rw [outside]; decide), Work.get_set_self]
    rfl
  · obtain ⟨outside, apart⟩ := storms _ width.2
    rw [get _ apart, if_neg (by rw [outside]; decide), Work.get_set_ne _ _ _ _ trippedOff, Work.get_set_self, width.1]
    rfl
  · rw [Work.finish_get _ _ hs, stormed, get_emits, tx _ released_off_tx, get_emits, released]
  · obtain ⟨inside, apart⟩ := states ⟨u, hu⟩
    rw [get _ apart, if_pos inside]
    rfl
  · rw [State.tile, State.view, Work.tile, Work.start_dev, Work.finish_dev, stormed_dev]
    simp only [vget, hu, dif_pos, Vector.getElem_replicate]
  · rw [get f (fun g hg => hf g ?_), if_neg (by rw [outside]; decide), Work.get_set_ne _ _ _ _ (hf _ (by simp)), Work.get_set_ne _ _ _ _ (hf _ (by simp)), Work.get_start]
    rcases List.mem_append.1 hg with h | h
    · exact List.mem_append_left _ (List.mem_cons_of_mem _ (List.mem_cons_of_mem _ h))
    · exact List.mem_append_right _ h
  · rw [Work.finish_byteAt _ _ hs]
    exact (stormed_stores s k a).1.trans (DdrProofs.rd8_wipeMem_start s _ a ha)
  · rw [Work.finish_flashAt _ _ hs]
    exact (stormed_stores s k a).2.1.trans ((quiet_start s).fl8 a)
  · rw [Work.finish_dev, stormed_dev]
    exact List.mem_append_left _ stormBalls_told
  · rw [Work.finish_dev, stormed_dev]
    exact List.mem_append_right _ (List.mem_map.2 ⟨n, List.mem_range.2 hn, rfl⟩)
  · rw [Work.finish_dev, stormed_dev]
    rfl
  · rw [Work.finish_tl, (stormed_stores s k 0).2.2]
    rfl
  · exact Work.finish_fuse _
  · exact Work.finish_pending _

/-- The throttle step forced to 4 (R436). -/
def forced (w : Work s) : Work s := ((stepChanged w 4).set THERM_STATUS_TEMPEST_FORCED 1).updHk (fun h => { h with tempest := false })

theorem forced_dev : (forced (Work.start s)).dev = { s.view.dev with out := [.currentLimit 48], hk := { s.dev.hk with
    tempest := false, lastStep := some s.dev.hk.clock, releaseFrom := some s.dev.hk.clock } } := rfl

theorem forced_writes (w : Work s) : Writes (· ∈ [THERM_STEP_STEP, THERM_STATUS_TEMPEST_FORCED]) w (forced w) := by
  rw [forced]
  exact ((stepChanged_writes (Writes.refl w) (by simp) 4).set _ _ (by simp)).of_get (fun _ => rfl)

theorem forced_get (w : Work s) : (forced w).get THERM_STEP_STEP = 4 ∧ (forced w).get THERM_STATUS_TEMPEST_FORCED = 1 := by
  constructor
  · rw [forced, Work.get_updHk, Work.get_set_ne _ _ _ _ (by decide)]
    exact Work.get_set_self w THERM_STEP_STEP 4
  · rw [forced, Work.get_updHk, Work.get_set_self]
    rfl

theorem forced_quiet (w : Work s) : (Quiet w → Quiet (forced w)) ∧ (forced w).fresh = w.fresh := by
  rw [forced, quiet_updHk, quiet_set, stepChanged, quiet_updHk, quiet_emit, quiet_set]
  exact ⟨id, rfl⟩

/-- A sensor fault that stays forces step 4 (R436). -/
theorem tempest_forces (hs : s.wf = true) (fault : s.get THERM_STATUS_SENSOR_FAULT ≠ 0) (tempest : s.dev.hk.tempest = true) :
    Answers .tempestForced s (fun t => t.get THERM_STEP_STEP = 4 ∧ t.get THERM_STATUS_TEMPEST_FORCED = 1 ∧
      Leaves s t [THERM_STEP_STEP, THERM_STATUS_TEMPEST_FORCED] { s.view.dev with out := [.currentLimit 48], hk := { s.dev.hk with
        tempest := false, lastStep := some s.dev.hk.clock, releaseFrom := some s.dev.hk.clock } }) := by
  have stands : (Work.start s).on THERM_STATUS_SENSOR_FAULT = true ∧ (Work.start s).hk.tempest = true :=
    ⟨by rw [on_eq, Work.get_start]; exact decide_eq_true fault, tempest⟩
  obtain ⟨step, shown⟩ := forced_get (Work.start s)
  have writes := forced_writes (Work.start s)
  have dev := forced_dev (s := s)
  obtain ⟨quiet, fresh⟩ := forced_quiet (Work.start s)
  refine answers_of (F := fun w => if w.on THERM_STATUS_SENSOR_FAULT ∧ w.hk.tempest then forced w else w) rfl (if_pos stands) ?_
  generalize forced (Work.start s) = w at *
  exact ⟨(Work.finish_get _ _ hs).trans step, (Work.finish_get _ _ hs).trans shown,
    leaves_finish hs (fun f hf => (writes f hf).trans (Work.get_start s f)) (quiet (quiet_start s)) dev fresh⟩

/-- A clear ends a sensor fault (R436). -/
theorem thermClear_clears (hs : s.wf = true) : Answers .thermClear s (fun t => t.get THERM_STATUS_SENSOR_FAULT = 0 ∧ t.get THERM_STATUS_TEMPEST_FORCED = 0 ∧
    Leaves s t [THERM_STATUS_SENSOR_FAULT, THERM_STATUS_TEMPEST_FORCED] { s.view.dev with hk := { s.dev.hk with tempest := false, readings := [] } }) := by
  refine answers_of (F := thermClear) rfl rfl ⟨?_, ?_, leaves_finish hs ?_ (quiet_start s) rfl rfl⟩
  · rw [Work.finish_get _ _ hs, thermClear, Work.get_updHk, Work.get_set_ne _ _ _ _ (by decide), Work.get_set_self]
    rfl
  · rw [Work.finish_get _ _ hs, thermClear, Work.get_updHk, Work.get_set_self]
    rfl
  · exact ((((Writes.refl (Work.start s)).set _ _ (by simp)).set _ _ (by simp)).of_get (fun _ => rfl))

/-- A condition that trips while Storm is latched shows, and nothing else changes (R437). -/
theorem storm_shows (hs : s.wf = true) (k : Fin 3) (tripped : s.get THERM_STORM_TRIPPED ≠ 0) :
    Answers (.stormTrip k) s (fun t => t.get (causeFld k) = 1 ∧ Plain s t [causeFld k]) := by
  refine answers_of (F := fun w => stormTrip w k) rfl (stormTrip_tripped tripped) ⟨?_, plain_finish hs ?_ (quiet_start s) rfl rfl⟩
  · rw [Work.finish_get _ _ hs, Work.get_set_self, (causeFld_storm k).1]
    rfl
  · exact (keeps_set _ _ _ _ List.mem_cons_self).2 (keeps_start s _)

theorem storm : Clause.Storm := by
  intro s hs h cause
  have causes : ∀ k : Fin 3, cause k = causeFld k := fun _ => rfl
  refine ⟨fun fault tempest => tempest_forces hs fault tempest, thermClear_clears hs, fun k tripped => ?_, fun k calm flash => ?_⟩
  · rw [causes]
    exact storm_shows hs k tripped
  · rw [causes]
    exact stormTrips hs k calm flash

/-- Settles O49: a reading by its rate and the rules behind it, the forced step, and Storm by what it wipes and what it sets. -/
theorem thermal : Obligations.Thermal := ⟨temperature, storm⟩

end Sys2Proof.ThermalProofs
end

section
/-! PROOFS. What an Ethernet port takes, counts and answers (R292, R371). -/

namespace Sys2Proof.EthernetProofs

open Sys2Proof.Machine Sys2Proof.Effects Sys2Proof.RejectFacts Sys2Proof.LaneWorks

-- A kernel evaluation waits for every declaration before it: one at a time keeps the threads that wait, and their stacks, few.
set_option Elab.async false

variable {s : State}

/-! ## A frame sent (R338, R371) -/

theorem freeBytes_spec (n : Nat) (w : Work s) : (w.freeBytes n).1.length = n ∧ ∃ k, (w.freeBytes n).2 = { w with fresh := k } := by
  induction n generalizing w with
  | zero => exact ⟨rfl, w.fresh, rfl⟩
  | succ n ih =>
    obtain ⟨length, k, rest⟩ := ih (w.free 8).2
    exact ⟨congrArg (· + 1) length, k, rest⟩

/-- A frame on its way: given out with its blocks, and counted. -/
def framed (w : Work s) (p : Nat) (kind : String) (bytes : List Byte) (x : Nat) : Work s :=
  (emits w [.frame p kind (bytes.map (·.toNat)), .blocks p (scrambleAll p (frameBlocks bytes) x)]).inc (ETH_TX_FRAMES p)

/-- A work that has drawn free values. -/
def drawn (w : Work s) (k : Nat) : Work s := { w with fresh := k }

theorem portEmit_calm {w : Work s} (calm : w.get THERM_STORM_TRIPPED = 0) (p : Nat) (kind : String) (bytes : List Byte) :
    ∃ k, ∃ x < 2 ^ 58, portEmit w p (.frame p kind (bytes.map (·.toNat))) bytes = framed (drawn w k) p kind bytes x := by
  refine ⟨w.fresh + 1, (w.free 58).1, Nat.mod_lt _ (by decide), ?_⟩
  rw [portEmit, on_eq, calm]
  refine (if_neg (by decide)).trans ?_
  rw [framed]
  exact congrArg (fun v => v.inc (ETH_TX_FRAMES p)) (emits_emits (drawn w (w.fresh + 1)) [_] [_])

theorem sendFrame_eq (w : Work s) (p : Nat) (kind : String) (bytes : List Byte) : sendFrame w p kind bytes =
    portEmit (w.freeBytes (60 - bytes.length)).2 p (.frame p kind ((bytes ++ (w.freeBytes (60 - bytes.length)).1).map (·.toNat)))
      (bytes ++ (w.freeBytes (60 - bytes.length)).1) := rfl

theorem sendFrame_calm {w : Work s} (calm : w.get THERM_STORM_TRIPPED = 0) (p : Nat) (kind : String) (bytes : List Byte) :
    ∃ pad : List Byte, pad.length = 60 - bytes.length ∧ ∃ k, ∃ x < 2 ^ 58, sendFrame w p kind bytes = framed (drawn w k) p kind (bytes ++ pad) x := by
  obtain ⟨length, k, rest⟩ := freeBytes_spec (60 - bytes.length) w
  rw [sendFrame_eq, rest]
  obtain ⟨k', x, small, sent⟩ := portEmit_calm (w := drawn w k) calm p kind (bytes ++ (w.freeBytes (60 - bytes.length)).1)
  exact ⟨_, length, k', x, small, sent⟩

/-- Whether Storm holds the transmitters or not, a frame sent is at most counted. -/
theorem sendFrame_writes (w : Work s) (p : Nat) (kind : String) (bytes : List Byte) :
    Writes (· = ETH_TX_FRAMES p) w (sendFrame w p kind bytes) ∧ (Quiet w → Quiet (sendFrame w p kind bytes)) := by
  by_cases calm : w.get THERM_STORM_TRIPPED = 0
  · obtain ⟨pad, -, k, x, -, sent⟩ := sendFrame_calm calm p kind bytes
    rw [sent, framed]
    exact ⟨fun f hf => Work.get_inc_ne _ _ _ (hf _ rfl), id⟩
  · obtain ⟨-, k, rest⟩ := freeBytes_spec (60 - bytes.length) w
    have tripped : ({ w with fresh := k } : Work s).on THERM_STORM_TRIPPED = true := by
      rw [on_eq]
      exact decide_eq_true calm
    rw [sendFrame_eq, rest, portEmit, if_pos tripped]
    exact ⟨fun _ _ => rfl, id⟩

/-! ## A frame that arrives (R371) -/

/-- Whether a frame carries a VLAN tag. -/
def isTagged (f : List Byte) : Bool := decide (ofBe (slice f 12 2) = 0x8100)

/-- Where the EtherType of a frame stands. -/
def typeAt (f : List Byte) : Nat := if isTagged f then 16 else 12

/-- The EtherType of a frame. -/
def typeOf (f : List Byte) : Nat := ofBe (slice f (typeAt f) 2)

/-- A frame that the MAC takes for its EtherType. -/
def Fits (w : Work s) (p : Nat) (f : List Byte) : Prop :=
  (isTagged f = true → w.get (ETH_CFG_VLAN_EN p) ≠ 0 ∧ ofBe (slice f 14 2) % 4096 = w.get (ETH_CFG_VID p)) ∧
  (60 ≤ f.length ∧ f.length + 4 ≤ (if w.get TRANSPORT_CFG_JUMBO ≠ 0 then 9018 else 1518) + (if isTagged f then 4 else 0)) ∧
  macTakes w p (ofBe (slice f 0 6)) (typeOf f) = true

/-- What a frame that the port has taken leads to. -/
def taken (w : Work s) (p : Nat) (f : List Byte) : Work s :=
  if typeOf f = 0x0806 then arpReply (w.inc (ETH_RX_FRAMES p)) p (f.drop (typeAt f + 2))
  else if typeOf f = 0x86DD then ndReply (w.inc (ETH_RX_FRAMES p)) p (ofBe (slice f 6 6)) (f.drop (typeAt f + 2))
  else w.inc (ETH_RX_FRAMES p)

section

variable {w : Work s} {p : Nat} {f : List Byte} (up : portUp w p = true)
include up

theorem ethReceive_bad : ethReceive w p f false = w.inc (ETH_RX_ERR_FCS p) := by
  rw [ethReceive, up]
  rfl

theorem ethReceive_eq [Decidable (Fits w p f)] : ethReceive w p f true =
    if Fits w p f ∧ [0x0800, 0x86DD, 0x0806, 0x88F7].contains (typeOf f) = true then taken w p f else w.inc (ETH_RX_ERR_DROP p) := by
  rw [ethReceive, up]
  refine (if_neg (by decide)).trans ((if_neg (by decide)).trans ?_)
  refine if_congr ?_ rfl rfl
  rw [Fits]
  simp only [Bool.and_eq_true, Bool.or_eq_true, Bool.not_eq_true', decide_eq_true_eq, on_eq]
  have least : 64 ≤ f.length + 4 ↔ 60 ≤ f.length := by omega
  rw [typeOf, typeAt, isTagged, least]
  simp only [decide_eq_true_eq, decide_eq_false_iff_not]
  tauto

theorem ethReceive_good (fits : Fits w p f) (known : [0x0800, 0x86DD, 0x0806, 0x88F7].contains (typeOf f) = true) :
    ethReceive w p f true = taken w p f := by
  classical exact (ethReceive_eq up).trans (if_pos ⟨fits, known⟩)

theorem ethReceive_drop (other : ¬Fits w p f ∨ [0x0800, 0x86DD, 0x0806, 0x88F7].contains (typeOf f) = false) :
    ethReceive w p f true = w.inc (ETH_RX_ERR_DROP p) := by
  classical exact (ethReceive_eq up).trans (if_neg (fun ⟨fits, known⟩ => by
    rcases other with no | no
    · exact no fits
    · exact Bool.false_ne_true (no.symm.trans known)))

end

theorem ndReply_writes (w : Work s) (p src : Nat) (b : List Byte) :
    Writes (· = ETH_TX_FRAMES p) w (ndReply w p src b) ∧ (Quiet w → Quiet (ndReply w p src b)) := by
  rw [ndReply]
  dsimp only
  split
  · obtain ⟨kept, quiet⟩ := sendFrame_writes (w.free 28).2 p "ND" _
    exact ⟨kept, quiet⟩
  · exact ⟨Writes.refl w, id⟩

theorem counters_apart : ∀ p : Fin 32, (ETH_RX_FRAMES p).key ≠ (ETH_TX_FRAMES p).key ∧
    ∀ f ∈ [TRANSPORT_IP4, THERM_STORM_TRIPPED, ETH_CFG_VLAN_EN p, ETH_CFG_PCP p, ETH_CFG_VID p], f.key ≠ (ETH_RX_FRAMES p).key := by decide +kernel

/-- R292: the bytes of the answer to an ARP request. -/
def arpAnswer (w : Work s) (p : Nat) (b : List Byte) : List Byte :=
  ethHeader w p (ofBe (slice b 8 6)) 0x0806 ++ beBytes 8 0x0001080006040002 ++ beBytes 6 (portMac w p) ++ beBytes 4 (w.get TRANSPORT_IP4) ++ slice b 8 10

theorem arpReply_answers {w : Work s} {p : Nat} {b : List Byte} (ask : ofBe (slice b 0 8) = 0x0001080006040001) (whole : 28 ≤ b.length)
    (mine : w.get TRANSPORT_IP4 ≠ 0 ∧ ofBe (slice b 24 4) = w.get TRANSPORT_IP4) : arpReply w p b = sendFrame w p "ARP" (arpAnswer w p b) := by
  obtain ⟨ip, target⟩ := mine
  exact if_pos ⟨ask, whole, ip, target⟩

theorem arpAnswer_counted (p : Fin 32) (b : List Byte) : arpAnswer ((Work.start s).inc (ETH_RX_FRAMES p)) p b = arpAnswer s.view p b := by
  obtain ⟨-, apart⟩ := counters_apart p
  have kept : ∀ f ∈ [TRANSPORT_IP4, THERM_STORM_TRIPPED, ETH_CFG_VLAN_EN p, ETH_CFG_PCP p, ETH_CFG_VID p],
      ((Work.start s).inc (ETH_RX_FRAMES p)).get f = s.view.get f := fun f hf => Work.get_inc_ne _ _ _ (apart f hf)
  have vlan : ((Work.start s).inc (ETH_RX_FRAMES p)).on (ETH_CFG_VLAN_EN p) = s.view.on (ETH_CFG_VLAN_EN p) := by
    rw [on_eq, on_eq, kept _ (by simp)]
  rw [arpAnswer, arpAnswer, ethHeader, ethHeader, vlan, kept (ETH_CFG_PCP p) (by simp), kept (ETH_CFG_VID p) (by simp), kept TRANSPORT_IP4 (by simp)]
  rfl

theorem known_cases {n : Nat} (h : n = 0x0800 ∨ n = 0x88F7 ∨ n = 0x86DD ∨ n = 0x0806) : [0x0800, 0x86DD, 0x0806, 0x88F7].contains n = true := by
  rcases h with rfl | rfl | rfl | rfl <;> decide

section

variable {p : Fin 32} {f : List Byte} (hs : s.wf = true)
include hs

/-- A frame that only counts. -/
theorem counted_only {ok : Bool} {c : Fld} (run : ethReceive (Work.start s) p f ok = (Work.start s).inc c) :
    Answers (.ethFrameReceive p f ok) s (fun t => Counted s t c ∧ Plain s t [c]) := by
  refine answers_of (F := fun w => ethReceive w p f ok) rfl run ⟨?_, plain_finish hs ((keeps_inc _ _ _ List.mem_cons_self).2 (keeps_start s _))
    (quiet_start s) rfl rfl⟩
  rw [Counted, Work.finish_get _ _ hs, get_inc, Work.get_start]

/-- R292: an ARP request for the device's address is answered. -/
theorem arp_answered (up : portUp s.view p = true) (fits : Fits s.view p f) (type : typeOf f = 0x0806) (ask : ofBe (slice (f.drop (typeAt f + 2)) 0 8) = 0x0001080006040001)
    (ip : s.get TRANSPORT_IP4 ≠ 0) (target : ofBe (slice (f.drop (typeAt f + 2)) 24 4) = s.get TRANSPORT_IP4) (calm : s.get THERM_STORM_TRIPPED = 0) :
    Answers (.ethFrameReceive p f true) s (fun t =>
      (∃ bytes pad : List Byte, pad.length = 60 - bytes.length ∧ Framed t p (.frame p "ARP" ((bytes ++ pad).map (·.toNat))) (bytes ++ pad) ∧
        bytes = arpAnswer s.view p (f.drop (typeAt f + 2))) ∧ t.dev = { s.dev with out := t.dev.out } ∧
      Counted s t (ETH_RX_FRAMES p) ∧ Counted s t (ETH_TX_FRAMES p) ∧ Frame s t [ETH_RX_FRAMES p, ETH_TX_FRAMES p]) := by
  obtain ⟨apart, kept⟩ := counters_apart p
  have whole : 28 ≤ (f.drop (typeAt f + 2)).length := by
    obtain ⟨-, ⟨least, -⟩, -⟩ := fits
    have at_ : typeAt f ≤ 16 := by
      rw [typeAt]
      split <;> decide
    rw [List.length_drop]
    omega
  have ip' : ((Work.start s).inc (ETH_RX_FRAMES p)).get TRANSPORT_IP4 = s.get TRANSPORT_IP4 := Work.get_inc_ne _ _ _ (kept _ (by simp))
  have calm' : ((Work.start s).inc (ETH_RX_FRAMES p)).get THERM_STORM_TRIPPED = 0 := (Work.get_inc_ne _ _ _ (kept _ (by simp))).trans calm
  obtain ⟨pad, length, k, x, small, sent⟩ := sendFrame_calm calm' p "ARP" (arpAnswer ((Work.start s).inc (ETH_RX_FRAMES p)) p (f.drop (typeAt f + 2)))
  have run : ethReceive (Work.start s) p f true = _ := (ethReceive_good up fits (known_cases (by simp [type]))).trans
    ((if_pos type).trans ((arpReply_answers ask whole (by rw [ip']; exact ⟨ip, target⟩)).trans sent))
  rw [arpAnswer_counted] at run length
  refine answers_of (F := fun w => ethReceive w p f true) rfl run ⟨⟨_, pad, length, ⟨x, small, rfl⟩, rfl⟩, rfl, ?_, ?_, frame_finish hs ?_ (quiet_start s)⟩
  · rw [Counted, Work.finish_get _ _ hs, framed, Work.get_inc_ne _ _ _ apart, get_emits]
    exact get_inc _ _
  · rw [Counted, Work.finish_get _ _ hs, framed, get_inc, get_emits]
    exact congrArg (fun n => min (2 ^ (ETH_TX_FRAMES p).width - 1) (n + 1)) (Work.get_inc_ne (Work.start s) _ _ apart.symm)
  · exact (keeps_inc _ _ _ (by simp)).2 ((keeps_inc _ _ _ List.mem_cons_self).2 (keeps_start s _))

end

/-- Settles O50: what a port makes of a frame, by its FCS, its destination and its type. -/
theorem ethernetFrames : Obligations.EthernetFrames := by
  intro s hs p f up tagged h type tagOk fits good b
  have typed : type = typeOf f := rfl
  have goodIff : good ↔ Fits s.view p f := by
    rw [Fits]
    exact Iff.rfl.trans (by tauto)
  refine ⟨counted_only hs (ethReceive_bad up), fun eth ok => ?_, fun six ok => ?_, fun other => ?_, fun arp ok ask ip target calm => ?_⟩
  · rw [typed] at eth
    refine counted_only hs ((ethReceive_good up (goodIff.1 ok) (known_cases (eth.imp_right .inl))).trans ?_)
    refine (if_neg ?_).trans (if_neg ?_) <;> omega
  · rw [typed] at six
    have run : ethReceive (Work.start s) p f true = _ := (ethReceive_good up (goodIff.1 ok) (known_cases (.inr (.inr (.inl six))))).trans
      ((if_neg (by omega)).trans (if_pos six))
    obtain ⟨apart, -⟩ := counters_apart p
    obtain ⟨kept, quiet⟩ := ndReply_writes ((Work.start s).inc (ETH_RX_FRAMES p)) p (ofBe (slice f 6 6)) (f.drop (typeAt f + 2))
    refine answers_of (F := fun w => ethReceive w p f true) rfl run ⟨?_, frame_finish hs (fun g hg => ?_) (quiet (quiet_start s))⟩
    · rw [Counted, Work.finish_get _ _ hs, kept _ (fun g hg => by rw [hg]; exact apart)]
      exact get_inc _ _
    · exact (kept g (fun g' hg' => by rw [hg']; exact hg _ (by simp))).trans (Work.get_inc_ne _ _ _ (hg _ List.mem_cons_self))
  · exact counted_only hs (ethReceive_drop up (by rw [← goodIff]; exact other))
  · exact arp_answered hs up (goodIff.1 ok) arp ask ip target calm

end Sys2Proof.EthernetProofs
end

section
/-! PROOFS. ABORT_FROM: what it discards, its boundary and its completion (R54, R56, R126, R226). -/

namespace Sys2Proof.AbortProofs

open Sys2Proof.Machine Sys2Proof.Effects Sys2Proof.SeqFacts Sys2Proof.RejectFacts Sys2Proof.TakeProofs Sys2Proof.PulseProofs
  Sys2Proof.LaneWorks

-- A kernel evaluation waits for every declaration before it: one at a time keeps the threads that wait, and their stacks, few.
set_option Elab.async false

variable {σ : State}

/-! ## Writes to a tile that are ignored (R456) -/

theorem tileOfAddr_window (u : Fin 32) {a k : Nat} (ha : a = tileBase u + k) (hk : k < 0x400000) : tileOfAddr a = u := by
  rw [tileOfAddr, if_pos] <;> rw [tileBase] at ha <;> omega

/-- A write to a register of a tile that a rule ignores leaves an entry of the error log, and ERRLOG fires. -/
theorem answers_ignored {s : State} (hs : s.wf = true) {c : Instr} (F : Work s → Work s) (run : exec c s = .next (F (Work.start s)).finish) (u : Fin 32)
    (path : Path) (f : Fld) {k : Nat} (hf : f.addr = tileBase u + k) (hk : k < 0x400000) (eq : F (Work.start s) = (Work.start s).ignored path f) :
    Answers c s (fun t => Logged s t 2 path.code u f.addr ∧
      Leaves s t (logFlds (s.get DEV_ERRLOG_HEAD)) { s.view.dev with held := s.dev.held ++ [s.firing 487] }) := by
  have tile := tileOfAddr_window u hf hk
  obtain ⟨w, hw, logged, keeps, quiet, dev, fresh⟩ := errlog_effect (Work.start s) 0x02 (tileOfAddr f.addr) 0 f.addr path hs (Work.get_start _ _)
    (by decide) (by omega)
  rw [firing_eq _ 487 rfl (Work.get_start _ _)] at dev
  rw [tile] at logged
  exact answers_of F run (eq.trans hw) ⟨logged, leaves_finish hs ((keeps _ (List.Subset.refl _)).2 (keeps_start s _)) (quiet.2 (quiet_start s)) dev fresh⟩

/-! ## The clasps of a tile -/

/-- An item with the entries that are kept, if any are. -/
def thinned (keep : HeldEntry → Bool) (i : Item) : Option Item :=
  match i with
  | .one h => if keep h then some i else none
  | .chain es => if (es.filter keep).isEmpty then none else some (.chain (es.filter keep))
  | .group es => if (es.filter keep).isEmpty then none else some (.group (es.filter keep))

/-- An open unit, unless it begins at frame e or later. -/
def openBefore (e : Nat) (o : Option OpenUnit) : Option OpenUnit :=
  o.filter (fun x => x.members.head?.all (fun h => decide (h.entry.stamp < e)))

/-- What an abort of frame e leaves of a clasp. -/
def claspBefore (e : Nat) (k : Clasp) : Clasp :=
  ⟨k.items.filterMap (thinned (fun h => decide (h.entry.stamp < e))), openBefore e k.open_, k.hist.filter (fun h => h.frame < e)⟩

theorem thinned_members (keep : HeldEntry → Bool) (i : Item) : ((thinned keep i).toList.flatMap Item.members) = i.members.filter keep := by
  cases i with
  | one h =>
    rw [thinned, Item.members]
    by_cases kept : keep h = true
    · rw [if_pos kept, List.filter_cons_of_pos kept]
      rfl
    · rw [if_neg kept, List.filter_cons_of_neg kept]
      rfl
  | chain es =>
    rw [thinned, Item.members]
    split
    next none_ => rw [List.isEmpty_iff.1 none_]; rfl
    next => exact List.append_nil _
  | group es =>
    rw [thinned, Item.members]
    split
    next none_ => rw [List.isEmpty_iff.1 none_]; rfl
    next => exact List.append_nil _

theorem members_thinned (keep : HeldEntry → Bool) (items : List Item) :
    (items.filterMap (thinned keep)).flatMap Item.members = (items.flatMap Item.members).filter keep := by
  induction items with
  | nil => rfl
  | cons i items ih =>
    rw [List.flatMap_cons, List.filter_append, ← ih, ← thinned_members keep i, List.filterMap_cons]
    cases thinned keep i with
    | none => rfl
    | some j => simp only [List.flatMap_cons, Option.toList_some, List.flatMap_nil, List.append_nil]

/-- An open unit that begins at frame e or later discarded. -/
def shutOpen (w : Work σ) (t e c : Nat) : Work σ :=
  match (w.clasp t c).open_ with
  | some u => (match u.members.head? with
    | some h => if h.entry.stamp < e then w else dropOpen w t c
    | none => w)
  | none => w

/-- A clasp cleared of what an abort of frame e discards. -/
def clearClasp (w : Work σ) (t e c : Nat) : Work σ :=
  histBefore (shutOpen (keepItems w t c (fun h => decide (h.entry.stamp < e))) t e c) t c e

theorem discardFrom_eq (w : Work σ) (t e : Nat) : discardFrom w t e = (w.each (List.range 33) (fun w c => clearClasp w t e c)).updTile t (fun x => { x with
    stage := x.stage.filter (fun s => !(decide (s.entry.abgen = w.get (CLASP_ABORT_CTRL_GEN t)) && decide (e ≤ s.entry.stamp))) }) := rfl

section

variable {t : Nat} (ht : t < 32)

theorem dropPages_clasp (w : Work σ) (t d : Nat) (es : List HeldEntry) : (dropPages w t es).clasp t d = w.clasp t d := by
  have kept : TileLocal (fun _ => False) t Tile.clasps w (dropPages w t es) :=
    TileLocal.each (TileLocal.refl w) _ es (fun _ h _ hw => dropPages_local (fun _ _ => rfl) hw h.page)
  exact congrArg (fun v => vget v Clasp.reset d) kept.2.2

include ht

theorem clasp_updClasp (w : Work σ) {c d : Nat} (hc : c < 33) (f : Clasp → Clasp) :
    (w.updClasp t c f).clasp t d = if d = c then f (w.clasp t c) else w.clasp t d := by
  rw [Work.clasp, Work.updClasp, tile_updTile_self _ _ _ ht]
  exact vget_vset _ _ _ _ _ hc

theorem keepItems_clasp (w : Work σ) {c d : Nat} (hc : c < 33) (keep : HeldEntry → Bool) : (keepItems w t c keep).clasp t d =
    if d = c then { w.clasp t c with items := (w.clasp t c).items.filterMap (thinned keep) } else w.clasp t d := by
  rw [keepItems, dropPages_clasp]
  exact clasp_updClasp ht w hc _

theorem dropOpen_clasp (w : Work σ) {c d : Nat} (hc : c < 33) : (dropOpen w t c).clasp t d =
    if d = c then { w.clasp t c with open_ := none } else w.clasp t d := by
  rw [dropOpen]
  split
  next shut =>
    split
    next h =>
      subst h
      cases k : w.clasp t d
      rw [k] at shut
      cases shut
      rfl
    next => rfl
  next => rw [dropPages_clasp]; exact clasp_updClasp ht w hc _

theorem shutOpen_clasp (w : Work σ) (e : Nat) {c d : Nat} (hc : c < 33) : (shutOpen w t e c).clasp t d =
    if d = c then { w.clasp t c with open_ := openBefore e (w.clasp t c).open_ } else w.clasp t d := by
  have stays : (w.clasp t c).open_ = openBefore e (w.clasp t c).open_ →
      w.clasp t d = if d = c then { w.clasp t c with open_ := openBefore e (w.clasp t c).open_ } else w.clasp t d := by
    intro same
    split
    next h =>
      subst h
      rw [← same]
    next => rfl
  rw [shutOpen]
  split
  next u hopen =>
    split
    next h hh =>
      split
      next early => exact stays (by rw [hopen, openBefore, Option.filter_some, hh]; exact (if_pos (decide_eq_true early)).symm)
      next late =>
        have gone : openBefore e (w.clasp t c).open_ = none := by rw [hopen, openBefore, Option.filter_some, hh, if_neg (by simpa using late)]
        rw [dropOpen_clasp ht w hc, gone]
    next hh => exact stays (by rw [hopen, openBefore, Option.filter_some, hh]; rfl)
  next hopen => exact stays (by rw [hopen]; rfl)

theorem clearClasp_clasp (w : Work σ) (e : Nat) {c d : Nat} (hc : c < 33) : (clearClasp w t e c).clasp t d =
    if d = c then claspBefore e (w.clasp t c) else w.clasp t d := by
  rw [clearClasp, histBefore, clasp_updClasp ht _ hc]
  split
  next => rw [shutOpen_clasp ht _ e hc, if_pos rfl, keepItems_clasp ht w hc, if_pos rfl, claspBefore]
  next other => rw [shutOpen_clasp ht _ e hc, if_neg other, keepItems_clasp ht w hc, if_neg other]

theorem clearClasps_clasp (w : Work σ) (e : Nat) (l : List Nat) (once : l.Nodup) (small : ∀ c ∈ l, c < 33) (d : Nat) :
    (w.each l (fun w c => clearClasp w t e c)).clasp t d = if d ∈ l then claspBefore e (w.clasp t d) else w.clasp t d := by
  induction l generalizing w with
  | nil => rfl
  | cons c l ih =>
    obtain ⟨fresh, once⟩ := List.nodup_cons.1 once
    have rest := ih (clearClasp w t e c) once (fun c hc => small c (List.mem_cons_of_mem _ hc))
    rw [clearClasp_clasp ht w e (small c List.mem_cons_self)] at rest
    refine Eq.trans rest ?_
    by_cases here : d = c
    · subst here
      rw [if_neg fresh, if_pos rfl, if_pos List.mem_cons_self]
    · rw [if_neg here]
      simp only [List.mem_cons, here, false_or]

end

section

variable {α : Type} {φ : Tile → α} (hφ : ∀ (x : Tile) (clasps : Vector Clasp 33) (pages : List PageBuf), φ { x with clasps, pages } = φ x)
include hφ

theorem clearClasp_local {K : Fld → Prop} {t : Nat} {w w' : Work σ} (h : TileLocal K t φ w w') (e c : Nat) :
    TileLocal K t φ w (clearClasp w' t e c) := by
  have pages : ∀ {v : Work σ} (es : List HeldEntry), TileLocal K t φ w v → TileLocal K t φ w (dropPages v t es) := fun es hv =>
    hv.each _ es (fun _ h _ hw => dropPages_local (fun x p => hφ x x.clasps p) hw h.page)
  have upd : ∀ {v : Work σ} (f : Clasp → Clasp), TileLocal K t φ w v → TileLocal K t φ w (v.updClasp t c f) := fun f hv =>
    hv.updTile _ (fun x => hφ x _ x.pages)
  have dropped : ∀ {v : Work σ}, TileLocal K t φ w v → TileLocal K t φ w (dropOpen v t c) := by
    intro v hv
    rw [dropOpen]
    split
    · exact hv
    · exact pages _ (upd _ hv)
  have kept : TileLocal K t φ w (keepItems w' t c (fun h => decide (h.entry.stamp < e))) := pages _ (upd _ h)
  rw [clearClasp]
  refine upd _ ?_
  rw [shutOpen]
  split
  · split
    · exact TileLocal.ite kept (dropped kept)
    · exact kept
  · exact kept

end

/-! ## ABORT_FROM (R54) -/

/-- What an abort changes of a tile beside its clasps and pages. -/
def abortShows (x : Tile) : SeqSt × List Nat × List Staged := (x.seq, x.aborts, x.stage)

theorem discardFrom_clasp (w : Work σ) {t : Nat} (ht : t < 32) (e : Nat) {d : Nat} (hd : d < 33) :
    (discardFrom w t e).clasp t d = claspBefore e (w.clasp t d) := by
  have cleared := clearClasps_clasp ht w e (List.range 33) List.nodup_range (fun c hc => List.mem_range.1 hc) d
  rw [if_pos (List.mem_range.2 hd)] at cleared
  rw [discardFrom_eq, Work.clasp, tile_updTile_self _ _ _ ht]
  exact cleared

theorem discardFrom_tile (w : Work σ) {t : Nat} (ht : t < 32) (e : Nat) : ((discardFrom w t e).tile t).seq = (w.tile t).seq ∧
    ((discardFrom w t e).tile t).aborts = (w.tile t).aborts ∧ ((discardFrom w t e).tile t).stage = (w.tile t).stage.filter
      (fun s => !(decide (s.entry.abgen = w.get (CLASP_ABORT_CTRL_GEN t)) && decide (e ≤ s.entry.stamp))) := by
  have cleared : TileLocal (fun _ => False) t abortShows w (w.each (List.range 33) (fun w c => clearClasp w t e c)) :=
    (TileLocal.refl w).each _ _ (fun _ c _ h => clearClasp_local (fun _ _ _ => rfl) h e c)
  obtain ⟨seq, rest⟩ := Prod.ext_iff.1 cleared.2.2
  obtain ⟨aborts, stage⟩ := Prod.ext_iff.1 rest
  rw [discardFrom_eq, tile_updTile_self _ _ _ ht]
  exact ⟨seq, aborts, congrArg (List.filter _) stage⟩

/-- ABORT_FROM frame e, behind what it discards. -/
def aborted (w : Work σ) (t gen e : Nat) : Work σ :=
  (((w.set (CLASP_ABORT_CTRL_GEN t) (gen + 1)).set (CLASP_ABORT_CTRL_BUSY t) 1).set (ABORT_E t) e).updTile t (fun x => { x with
    aborts := x.aborts ++ [e], seq := { x.seq with cursor := e } })

theorem abortFrom_eq (w : Work σ) (t f : Nat) : abortFrom w t f = aborted (discardFrom w t (abortFrame w f)) t
    ((discardFrom w t (abortFrame w f)).get (CLASP_ABORT_CTRL_GEN t)) (abortFrame w f) := rfl

theorem abort_apart : ∀ t : Fin 32, (CLASP_ABORT_CTRL_GEN t).key ≠ (CLASP_ABORT_CTRL_BUSY t).key ∧ (CLASP_ABORT_CTRL_GEN t).key ≠ (ABORT_E t).key ∧
    (CLASP_ABORT_CTRL_BUSY t).key ≠ (ABORT_E t).key := by decide +kernel

theorem aborted_get (w : Work σ) (t : Fin 32) (gen e : Nat) : (aborted w t gen e).get (CLASP_ABORT_CTRL_GEN t) = (gen + 1) % 4 ∧
    (aborted w t gen e).get (CLASP_ABORT_CTRL_BUSY t) = 1 ∧ (aborted w t gen e).get (ABORT_E t) = e % 2 ^ 64 := by
  obtain ⟨genBusy, genE, busyE⟩ := abort_apart t
  refine ⟨?_, ?_, ?_⟩
  · rw [aborted, Work.get_updTile, Work.get_set_ne _ _ _ _ genE, Work.get_set_ne _ _ _ _ genBusy, Work.get_set_self]
    rfl
  · rw [aborted, Work.get_updTile, Work.get_set_ne _ _ _ _ busyE, Work.get_set_self]
    rfl
  · rw [aborted, Work.get_updTile, Work.get_set_self]
    rfl

theorem discardFrom_local (w : Work σ) (t e : Nat) : TileLocal (fun _ => False) t (fun _ => ()) w (discardFrom w t e) :=
  TileLocal.discardFrom (fun _ _ _ _ _ _ _ _ _ => rfl) (TileLocal.refl w) e

theorem aborted_tile (w : Work σ) {t : Nat} (ht : t < 32) (gen e : Nat) : (aborted w t gen e).tile t =
    { w.tile t with aborts := (w.tile t).aborts ++ [e], seq := { (w.tile t).seq with cursor := e } } := tile_updTile_self _ _ _ ht

theorem abortGo_idle {w : Work σ} {t : Nat} (idle : w.get (CLASP_ABORT_CTRL_BUSY t) = 0) (path : Path) :
    abortGo w path t = abortFrom w t (w.get (CLASP_ABORT_FRAME_LO t) + w.get (CLASP_ABORT_FRAME_HI t) * 2 ^ 32) := by
  rw [abortGo, on_eq, idle]
  rfl

theorem abortGo_busy {w : Work σ} {t : Nat} (busy : w.get (CLASP_ABORT_CTRL_BUSY t) ≠ 0) (path : Path) :
    abortGo w path t = w.ignored path (CLASP_ABORT_CTRL_GO t) := by
  rw [abortGo, on_eq]
  exact if_pos (decide_eq_true busy)

/-- ABORT_FROM frame f of a tile, by what it leaves. -/
theorem abortFrom_answers {s : State} (hs : s.wf = true) {c : Instr} (F : Work s → Work s) (run : exec c s = .next (F (Work.start s)).finish) (u : Fin 32)
    (f : Nat) (eq : F (Work.start s) = abortFrom (Work.start s) u f) : Answers c s (fun t =>
      t.get (CLASP_ABORT_CTRL_BUSY u) = 1 ∧ t.get (CLASP_ABORT_CTRL_GEN u) = (s.get (CLASP_ABORT_CTRL_GEN u) + 1) % 4 ∧
      t.get (ABORT_E u) = abortFrame s.view f % 2 ^ 64 ∧ (t.tile u).seq = { (s.tile u).seq with cursor := abortFrame s.view f } ∧
      (t.tile u).aborts = (s.tile u).aborts ++ [abortFrame s.view f] ∧
      (∀ c < 33, t.view.clasp u c = claspBefore (abortFrame s.view f) (s.view.clasp u c)) ∧
      (t.tile u).stage = (s.tile u).stage.filter (fun x =>
        !(decide (x.entry.abgen = s.get (CLASP_ABORT_CTRL_GEN u)) && decide (abortFrame s.view f ≤ x.entry.stamp))) ∧
      (∀ v < 32, v ≠ u.val → t.tile v = s.tile v) ∧
      Frame s t [CLASP_ABORT_CTRL_BUSY u, CLASP_ABORT_CTRL_GEN u, ABORT_E u]) := by
  have frame : abortFrame (Work.start s) f = abortFrame s.view f := rfl
  rw [abortFrom_eq, frame] at eq
  generalize abortFrame s.view f = e at *
  obtain ⟨⟨gets, quiet, -, -⟩, others, -⟩ := discardFrom_local (Work.start s) u e
  have kept : ∀ g, (discardFrom (Work.start s) u e).get g = s.get g := fun g => gets g (fun _ h => h.elim)
  have clasps : ∀ d < 33, (discardFrom (Work.start s) u e).clasp u d = claspBefore e (s.view.clasp u d) := fun d hd =>
    discardFrom_clasp (Work.start s) u.isLt e hd
  obtain ⟨seq, aborts, stage⟩ := discardFrom_tile (Work.start s) u.isLt e
  rw [kept] at eq
  generalize discardFrom (Work.start s) u e = w at *
  obtain ⟨gen, busy, effective⟩ := aborted_get w u (s.get (CLASP_ABORT_CTRL_GEN u)) e
  have tile := aborted_tile w u.isLt (s.get (CLASP_ABORT_CTRL_GEN u)) e
  have others' : ∀ v, v ≠ u.val → (aborted w u (s.get (CLASP_ABORT_CTRL_GEN u)) e).tile v = w.tile v := fun v hv => tile_updTile_ne _ _ _ _ hv
  have clasps' : ∀ d < 33, (aborted w u (s.get (CLASP_ABORT_CTRL_GEN u)) e).clasp u d = claspBefore e (s.view.clasp u d) := fun d hd => by
    rw [Work.clasp, tile]
    exact clasps d hd
  refine answers_of F run eq ⟨?_, ?_, ?_, ?_, ?_, fun c hc => clasps' c hc, ?_, fun v _ hv => ?_,
    frame_finish hs (fun g hg => ?_) (quiet (quiet_start s))⟩
  · rw [Work.finish_get _ _ hs, busy]
  · rw [Work.finish_get _ _ hs, gen]
  · rw [Work.finish_get _ _ hs, effective]
  · exact (congrArg Tile.seq tile).trans (congrArg (fun q : SeqSt => { q with cursor := e }) seq)
  · exact (congrArg Tile.aborts tile).trans (congrArg (· ++ [e]) aborts)
  · exact (congrArg Tile.stage tile).trans stage
  · exact (others' v hv).trans (others v hv)
  · rw [aborted, Work.get_updTile, Work.get_set_ne _ _ _ _ (hg _ (by simp)), Work.get_set_ne _ _ _ _ (hg _ (by simp)),
      Work.get_set_ne _ _ _ _ (hg _ (by simp)), kept]

theorem abortFrom_clause : Clause.AbortFrom := by
  intro s hs via u f e
  refine ⟨fun idle => ?_, fun busy => answers_ignored hs (fun w => abortGo w (viaPath via) u) rfl u _ _ (k := 0x430) rfl (by decide) (abortGo_busy (w := Work.start s) busy _)⟩
  obtain ⟨t, run, busy, gen, effective, seq, aborts, clasps, stage, others, frame⟩ := abortFrom_answers hs (c := .abortGo via u) (fun w => abortGo w (viaPath via) u) rfl u f (abortGo_idle (w := Work.start s) idle _)
  refine ⟨t, run, busy, gen, effective, seq, aborts, fun c hc => ?_, fun c hc => ?_, stage, others, frame⟩
  · exact (congrArg (fun k : Clasp => k.items.flatMap Item.members) (clasps c hc)).trans (members_thinned _ _)
  · exact congrArg Clasp.open_ (clasps c hc)

/-! ## The boundary of an abort (R54, R126) -/

theorem endPulse_shut (w : Work σ) {t e : Nat} (ht : t < 32) (he : e < 16) (d : Nat) (h : d = e ∨ (w.tone t e).pulse = none) :
    ((endPulse w t d).tone t e).pulse = none := by
  by_cases same : d = e
  · rw [same]
    exact endPulse_pulse w ht he
  · have shut := h.resolve_left same
    rw [endPulse]
    split
    · exact shut
    · rw [pageDrop_tone, Work.tone, Work.updTone, tile_updTile_self _ _ _ ht]
      by_cases hd : d < 16
      · rw [vget_vset _ _ _ _ _ hd, if_neg (fun h => same h.symm)]
        exact shut
      · rw [vset, dif_neg hd]
        exact shut

theorem endPulses_shut (w : Work σ) {t e : Nat} (ht : t < 32) (he : e < 16) (l : List Nat) (h : e ∈ l ∨ (w.tone t e).pulse = none) :
    ((w.each l (fun w d => endPulse w t d)).tone t e).pulse = none := by
  induction l generalizing w with
  | nil => exact h.resolve_left List.not_mem_nil
  | cons d l ih =>
    refine ih (endPulse w t d) ?_
    rcases h with h | h
    · rcases List.mem_cons.1 h with rfl | h
      · exact .inr (endPulse_pulse w ht he)
      · exact .inl h
    · exact .inr (endPulse_shut w ht he d (.inr h))

theorem fluxCuts_shut (w : Work σ) {t e : Nat} (ht : t < 32) (l : List Nat) (small : ∀ d ∈ l, d < 8) (h : e ∈ l ∨ (w.flux t e).pulse = none) :
    ((w.each l (fun w d => fluxCut w t d)).flux t e).pulse = none := by
  induction l generalizing w with
  | nil => exact h.resolve_left List.not_mem_nil
  | cons d l ih =>
    have hd := small d List.mem_cons_self
    have cut : (fluxCut w t d).flux t e = if e = d then { w.flux t d with pulse := none } else w.flux t e := by
      rw [fluxCut, Work.flux, Work.updFlux, tile_updTile_self _ _ _ ht]
      exact vget_vset _ _ _ _ _ hd
    refine ih (fluxCut w t d) (fun d hd => small d (List.mem_cons_of_mem _ hd)) ?_
    by_cases same : e = d
    · exact .inr (by rw [cut, if_pos same])
    · rw [cut, if_neg same]
      exact h.imp_left (fun h => (List.mem_cons.1 h).resolve_left same)

/-- What the engines of a tile do not show. -/
def EnginesUnseen {α : Type} (φ : Tile → α) : Prop :=
  ∀ (x : Tile) (tone : Vector Tone 16) (flux : Vector Flux 8) (pages : List PageBuf), φ { x with tone, flux, pages } = φ x

theorem stopEngines_local {α : Type} {φ : Tile → α} (hφ : EnginesUnseen φ) {K : Fld → Prop} {t : Nat} {w w' : Work σ} (h : TileLocal K t φ w w') :
    TileLocal K t φ w (stopEngines w' t) := by
  rw [stopEngines]
  refine TileLocal.each (TileLocal.each h _ _ (fun _ e _ h => ?_)) _ _ (fun _ e _ h => h.updTile _ (fun x => hφ x x.tone _ x.pages))
  exact endPulse_local (fun x tone => hφ x tone x.flux x.pages) (fun x pages => hφ x x.tone x.flux pages) h e

theorem stopEngines_shut (w : Work σ) {t : Nat} (ht : t < 32) : (∀ e < 16, ((stopEngines w t).tone t e).pulse = none) ∧
    ∀ e < 8, ((stopEngines w t).flux t e).pulse = none := by
  refine ⟨fun e he => ?_, fun e he => fluxCuts_shut _ ht _ (fun d hd => List.mem_range.1 hd) (.inl (List.mem_range.2 he))⟩
  have kept : TileLocal (fun _ => False) t Tile.tone (w.each (List.range 16) (fun w e => endPulse w t e)) (stopEngines w t) :=
    TileLocal.each (TileLocal.refl _) _ _ (fun _ _ _ h => h.updTile _ (fun _ => rfl))
  exact (congrArg (fun v => (vget v Tone.reset e).pulse) kept.2.2).trans (endPulses_shut w ht he _ (.inl (List.mem_range.2 he)))

/-- A window of a tile abandoned. -/
def abandonWindow (w : Work σ) (t k : Nat) : Work σ := if (w.win t k).isSome then (w.setWin t k none).set (RD_STATUS_OPEN t k) 0 else w

theorem open_apart : ∀ t : Fin 32, ∀ k : Fin 8, ∀ d : Fin 8, k ≠ d → (RD_STATUS_OPEN t k).key ≠ (RD_STATUS_OPEN t d).key := by decide +kernel

theorem abandonWindow_win (w : Work σ) {t k : Nat} (ht : t < 32) (hk : k < 8) (d : Nat) :
    (abandonWindow w t k).win t d = if d = k then none else w.win t d := by
  rw [abandonWindow]
  split
  next =>
    refine Eq.trans (b := (w.setWin t k none).win t d) rfl ?_
    rw [Work.win, Work.setWin, tile_updTile_self _ _ _ ht]
    exact vget_vset _ _ _ _ _ hk
  next shut =>
    split
    next same => rw [same]; simpa using shut
    next => rfl

theorem abandonWindow_get (w : Work σ) (t : Fin 32) (k d : Fin 8) : (abandonWindow w t k).get (RD_STATUS_OPEN t d) =
    if d = k ∧ (w.win t k).isSome then 0 else w.get (RD_STATUS_OPEN t d) := by
  rw [abandonWindow]
  by_cases hopen : (w.win t k).isSome = true
  · rw [if_pos hopen]
    by_cases same : d = k
    · rw [if_pos ⟨same, hopen⟩, same, Work.get_set_self]
      rfl
    · rw [if_neg (fun h => same h.1), Work.get_set_ne _ _ _ _ (open_apart t d k same)]
      rfl
  · rw [if_neg hopen, if_neg (fun h => hopen h.2)]

/-- The windows of a list abandoned in turn. -/
theorem abandonEach (t : Fin 32) (l : List (Fin 8)) (w : Work σ) (d : Fin 8) :
    ((w.each l (fun w k => abandonWindow w t k)).win t d = if d ∈ l then none else w.win t d) ∧
    ((w.each l (fun w k => abandonWindow w t k)).get (RD_STATUS_OPEN t d) = if d ∈ l ∧ (w.win t d).isSome then 0 else w.get (RD_STATUS_OPEN t d)) := by
  induction l generalizing w with
  | nil => exact ⟨rfl, (if_neg (fun h => List.not_mem_nil h.1)).symm⟩
  | cons k l ih =>
    obtain ⟨win, get⟩ := ih (abandonWindow w t k)
    rw [abandonWindow_win w t.isLt k.isLt] at win get
    rw [abandonWindow_get] at get
    refine ⟨win.trans ?_, get.trans ?_⟩
    · by_cases same : d = k
      · simp [same]
      · simp [same, Fin.val_inj]
    · by_cases same : d = k
      · subst same
        simp
      · simp [same, Fin.val_inj]

theorem abandonWindows_eq (w : Work σ) (t : Nat) : abandonWindows w t =
    (w.updTile t (fun x => { x with late := [] })).each (List.finRange 8) (fun w k => abandonWindow w t k) := rfl

theorem abandonWindows_local {α : Type} {φ : Tile → α} (hφ : ∀ (x : Tile) (win : Vector (Option Window) 8) (late : List (Nat × Window)),
    φ { x with win, late } = φ x) (w : Work σ) (t : Nat) :
    TileLocal (fun g => ∃ k < 8, g = RD_STATUS_OPEN t k) t φ w (abandonWindows w t) := by
  refine TileLocal.each ((TileLocal.refl _).updTile _ (fun x => hφ x x.win _)) _ _
    (fun v k hk h => TileLocal.ite (TileLocal.set ?_ _ _ ⟨k, List.mem_range.1 hk, rfl⟩) h)
  exact h.updTile _ (fun x => hφ x _ x.late)

theorem abortBoundary_clause : Clause.AbortBoundary := by
  intro s hs u ⟨e0, mem, due⟩
  have reached : ((Work.start s).tile u).aborts.any (fun e => decide (e ≤ (Work.start s).now)) = true :=
    List.any_eq_true.2 ⟨e0, mem, decide_eq_true due⟩
  have run : abortBoundary (Work.start s) u = abandonWindows (stopEngines ((Work.start s).updTile u (fun x => { x with
      aborts := x.aborts.filter (fun e => !decide (e ≤ (Work.start s).now)) })) u) u := if_pos reached
  have aborts : ((Work.start s).updTile u (fun x => { x with aborts := x.aborts.filter (fun e => !decide (e ≤ (Work.start s).now)) })).tile u =
      { s.tile u with aborts := (s.tile u).aborts.filter (fun e => !decide (e ≤ s.tl.count)) } := tile_updTile_self _ _ _ u.isLt
  have first : TileLocal (fun g => ∃ k < 8, g = RD_STATUS_OPEN u k) u (fun _ => ()) (Work.start s) ((Work.start s).updTile u (fun x => { x with
      aborts := x.aborts.filter (fun e => !decide (e ≤ (Work.start s).now)) })) := (TileLocal.refl _).updTile _ (fun _ => rfl)
  generalize (Work.start s).updTile u (fun x => { x with aborts := x.aborts.filter (fun e => !decide (e ≤ (Work.start s).now)) }) = w at *
  obtain ⟨tones, fluxes⟩ := stopEngines_shut w u.isLt
  have stopped : TileLocal (fun g => ∃ k < 8, g = RD_STATUS_OPEN u k) u Tile.aborts w (stopEngines w u) :=
    stopEngines_local (fun _ _ _ _ => rfl) (TileLocal.refl w)
  have stopWin : ((stopEngines w u).tile u).win = (w.tile u).win :=
    (stopEngines_local (φ := Tile.win) (K := fun _ => False) (fun _ _ _ _ => rfl) (TileLocal.refl w)).2.2
  have late : TileLocal _ u Tile.aborts (stopEngines w u) (abandonWindows (stopEngines w u) u) := abandonWindows_local (fun _ _ _ => rfl) _ _
  have lateTone : ((abandonWindows (stopEngines w u) u).tile u).tone = ((stopEngines w u).tile u).tone :=
    (abandonWindows_local (φ := Tile.tone) (fun _ _ _ => rfl) _ _).2.2
  have lateFlux : ((abandonWindows (stopEngines w u) u).tile u).flux = ((stopEngines w u).tile u).flux :=
    (abandonWindows_local (φ := Tile.flux) (fun _ _ _ => rfl) _ _).2.2
  have all : TileWork (fun g => ∃ k < 8, g = RD_STATUS_OPEN u k) (Work.start s) (abandonWindows (stopEngines w u) u) :=
    tileWork_trans first.1 (tileWork_trans stopped.1 late.1)
  obtain ⟨gets, quiet, -, dev⟩ := all
  have windows : ∀ k : Fin 8, (abandonWindows (stopEngines w u) u).win u k = none ∧
      (s.view.win u k ≠ none → (abandonWindows (stopEngines w u) u).get (RD_STATUS_OPEN u k) = 0) := by
    intro k
    have cleared : ((stopEngines w u).updTile u (fun x => { x with late := [] })).win u k = s.view.win u k := by
      rw [Work.win, tile_updTile_self _ _ _ u.isLt]
      refine (congrArg (fun v => vget v none k.val) stopWin).trans ?_
      rw [aborts]
      rfl
    obtain ⟨win, get⟩ := abandonEach u (List.finRange 8) ((stopEngines w u).updTile u (fun x => { x with late := [] })) k
    rw [← abandonWindows_eq, if_pos (List.mem_finRange k)] at win
    rw [← abandonWindows_eq, cleared] at get
    exact ⟨win, fun hopen => get.trans (if_pos ⟨List.mem_finRange k, Option.isSome_iff_ne_none.2 hopen⟩)⟩
  refine answers_of (F := fun w => abortBoundary w u) rfl run ⟨fun e he => ?_, fun e he => ?_, fun k hk => ⟨(windows ⟨k, hk⟩).1, fun hopen => ?_⟩, ?_,
    fun v _ hv => ?_, ?_, frame_finish hs (fun g hg => ?_) (quiet (quiet_start s))⟩
  · exact (congrArg (fun v => (vget v Tone.reset e).pulse) lateTone).trans (tones e he)
  · exact (congrArg (fun v => (vget v Flux.reset e).pulse) lateFlux).trans (fluxes e he)
  · rw [Work.finish_get _ _ hs]
    exact (windows ⟨k, hk⟩).2 hopen
  · exact late.2.2.trans (stopped.2.2.trans (by rw [aborts]))
  · exact (late.2.1 v hv).trans ((stopped.2.1 v hv).trans (first.2.1 v hv))
  · rw [Work.finish_dev, dev]
    rfl
  · refine (gets g (fun g' hg' => ?_)).trans (Work.get_start s g)
    obtain ⟨k, hk, rfl⟩ := hg'
    exact hg _ (List.mem_map.2 ⟨k, List.mem_range.2 hk, rfl⟩)

/-! ## The completion of an abort (R56, R226) -/

/-- An abort that has completed. -/
def effected (w : Work σ) (t e : Nat) : Work σ :=
  ((w.set (CLASP_ABORT_CTRL_BUSY t) 0).set (CLASP_ABORT_EFF_LO t) e).set (CLASP_ABORT_EFF_HI t) (e / 2 ^ 32)

theorem abortComplete_busy {w : Work σ} {t : Nat} (busy : w.get (CLASP_ABORT_CTRL_BUSY t) ≠ 0) : abortComplete w t =
    if ((effected w t (w.get (ABORT_E t))).seq t).cutPending then cutNow (effected w t (w.get (ABORT_E t))) t else effected w t (w.get (ABORT_E t)) := by
  rw [abortComplete, on_eq]
  exact if_pos (decide_eq_true busy)

theorem effect_apart : ∀ t : Fin 32, (CLASP_ABORT_CTRL_BUSY t).key ≠ (CLASP_ABORT_EFF_LO t).key ∧ (CLASP_ABORT_CTRL_BUSY t).key ≠ (CLASP_ABORT_EFF_HI t).key ∧
    (CLASP_ABORT_EFF_LO t).key ≠ (CLASP_ABORT_EFF_HI t).key ∧ ∀ f ∈ [CLASP_ABORT_EFF_LO t, CLASP_ABORT_EFF_HI t],
      (∀ g ∈ [CLASP_ABORT_CTRL_GEN t, CLASP_ABORT_CTRL_BUSY t, ABORT_E t, SEQ_STATE_STATE t, SEQ_CTRL_STOP t], f.key ≠ g.key) ∧
      ∀ k : Fin 8, f.key ≠ (RD_STATUS_OPEN t k).key := by decide +kernel

theorem effected_get (w : Work σ) (t : Fin 32) (e : Nat) : (effected w t e).get (CLASP_ABORT_CTRL_BUSY t) = 0 ∧
    (effected w t e).get (CLASP_ABORT_EFF_LO t) = e % 2 ^ 32 ∧ (effected w t e).get (CLASP_ABORT_EFF_HI t) = e / 2 ^ 32 % 2 ^ 32 := by
  obtain ⟨busyLo, busyHi, loHi, -⟩ := effect_apart t
  refine ⟨?_, ?_, Work.get_set_self _ _ _⟩
  · rw [effected, Work.get_set_ne _ _ _ _ busyHi, Work.get_set_ne _ _ _ _ busyLo, Work.get_set_self]
    rfl
  · rw [effected, Work.get_set_ne _ _ _ _ loHi]
    exact Work.get_set_self _ _ _

theorem state_apart : ∀ t : Fin 32, (SEQ_STATE_STATE t).key ≠ (SEQ_CTRL_STOP t).key ∧ (CLASP_ABORT_CTRL_BUSY t).key ≠ (SEQ_STATE_STATE t).key ∧
    (CLASP_ABORT_CTRL_BUSY t).key ≠ (SEQ_CTRL_STOP t).key := by decide +kernel

/-- What a cut that acts leaves of its tile's state and its abort. -/
theorem cutNow_acts (w : Work σ) (t : Fin 32) : (cutNow w t).get (SEQ_STATE_STATE t) = HALTED ∧ (cutNow w t).get (CLASP_ABORT_CTRL_BUSY t) = 1 ∧
    ((cutNow w t).seq t).cutPending = false ∧ ∃ f ∈ (cutNow w t).dev.held, f.src = tileSrc t 0 := by
  obtain ⟨stateStop, busyState, busyStop⟩ := state_apart t
  have busy : (cutWork w t).get (CLASP_ABORT_CTRL_BUSY t) = 1 := by
    rw [cutWork, Work.get_updSeq, abortFrom_eq]
    exact (aborted_get _ t _ _).2.1
  refine ⟨?_, ?_, cutNow_cutPending w t t.isLt, ?_⟩
  · rw [cutNow_eq, Work.get_fire, Work.get_set_ne _ _ _ _ stateStop, Work.get_set_self]
    rfl
  · rw [cutNow_eq, Work.get_fire, Work.get_set_ne _ _ _ _ busyStop, Work.get_set_ne _ _ _ _ busyState, busy]
  · rw [cutNow_eq, fire_dev]
    exact ⟨_, List.mem_append_right _ (List.mem_singleton_self _), rfl⟩

theorem abortCompletes : Clause.AbortCompletes := by
  intro s hs u busy
  have run := abortComplete_busy (w := Work.start s) busy
  obtain ⟨idle, lo, hi⟩ := effected_get (Work.start s) u (s.get (ABORT_E u))
  have same : (Work.start s).get (ABORT_E u) = s.get (ABORT_E u) := Work.get_start _ _
  rw [same] at run
  have kept : Keeps (effected (Work.start s) u (s.get (ABORT_E u))) [CLASP_ABORT_CTRL_BUSY u, CLASP_ABORT_EFF_LO u, CLASP_ABORT_EFF_HI u] :=
    (keeps_set _ _ _ _ (by simp)).2 ((keeps_set _ _ _ _ (by simp)).2 ((keeps_set _ _ _ _ (by simp)).2 (keeps_start s _)))
  have seq : (effected (Work.start s) u (s.get (ABORT_E u))).seq u = (s.tile u).seq := rfl
  rw [seq] at run
  refine ⟨fun pending => ?_, fun pending => ?_⟩
  · rw [pending] at run
    refine answers_of (F := fun w => abortComplete w u) rfl run ⟨?_, ?_, ?_, plain_finish hs kept (quiet_start s) rfl rfl⟩
    · rw [Work.finish_get _ _ hs]
      exact idle
    · rw [Work.finish_get _ _ hs]
      exact lo
    · rw [Work.finish_get _ _ hs]
      exact hi
  · rw [pending, if_pos rfl] at run
    generalize effected (Work.start s) u (s.get (ABORT_E u)) = w at *
    obtain ⟨halted, again, done, told⟩ := cutNow_acts w u
    obtain ⟨-, -, -, apart⟩ := effect_apart u
    obtain ⟨offs, opens⟩ := apart (CLASP_ABORT_EFF_LO u) (by simp)
    have eff : (cutNow w u).get (CLASP_ABORT_EFF_LO u) = w.get (CLASP_ABORT_EFF_LO u) := by
      rw [cutNow_eq, Work.get_fire, Work.get_set_ne _ _ _ _ (offs _ (by simp)), Work.get_set_ne _ _ _ _ (offs _ (by simp))]
      refine (cutWork_local (φ := fun _ => ()) (fun _ _ _ _ _ _ _ _ _ => rfl) w u).1.1 _ (fun g hg => ?_)
      rcases hg with rfl | rfl | rfl | ⟨k, hk, rfl⟩
      · exact offs _ (by simp)
      · exact offs _ (by simp)
      · exact offs _ (by simp)
      · exact opens ⟨k, hk⟩
    refine answers_of (F := fun w => abortComplete w u) rfl run ⟨?_, ?_, done, ?_, told⟩
    · rw [Work.finish_get _ _ hs, halted]
    · rw [Work.finish_get _ _ hs, again]
    · rw [Work.finish_get _ _ hs, eff, lo]

/-- Settles O21: ABORT_FROM clasp by clasp, its boundary by the engines and windows of the tile, and its completion. -/
theorem aborts : Obligations.Aborts := ⟨abortFrom_clause, abortBoundary_clause, abortCompletes⟩

end Sys2Proof.AbortProofs
end

section
/-! PROOFS. Host control, and the halt that follows a drain (R217, R225, R230, R314). -/

namespace Sys2Proof.HaltProofs

open Sys2Proof.Machine Sys2Proof.Effects Sys2Proof.SeqFacts Sys2Proof.RejectFacts Sys2Proof.TakeProofs Sys2Proof.LaneWorks Sys2Proof.AbortProofs

-- A kernel evaluation waits for every declaration before it: one at a time keeps the threads that wait, and their stacks, few.
set_option Elab.async false

variable {σ : State}

/-! ## A write to SEQ.CTRL outside lockstep (R230) -/

section

variable {w : Work σ} (lock : w.get DEV_STATUS_LOCKSTEP = 0) (path : Path) (t : Nat)
include lock

theorem ctrl_halt : seqCtrlWrite w path t 8 = hostHalt w path t := by
  rw [seqCtrlWrite, leader_eq lock]
  exact (if_neg (fun h => h rfl)).trans ((if_neg (by decide)).trans ((if_neg (by decide)).trans (if_pos (by decide))))

/-- The four actions but HALT, of a tile that steps no word. -/
theorem ctrl_acts {v : Nat} (hv : v % 16 = 1 ∨ v % 16 = 2 ∨ v % 16 = 4) (idle : w.get (SEQ_STATE_STEPPING t) = 0) : seqCtrlWrite w path t v =
    if v % 16 ≤ 2 ∧ w.on (CODE_HELD t) then w.reject path (SEQ_CTRL_HALT t).addr
    else if v % 16 = 4 then (if w.get (SEQ_STATE_STATE t) = RUN then w.set (SEQ_CTRL_STOP t) 1 else w.ignored path (SEQ_CTRL_HALT t))
    else if w.get (SEQ_STATE_STATE t) = DRAINING ∨ w.get (SEQ_STATE_STATE t) = HALTED then startFrom w t (decide (v % 16 = 2)) (bit v 4)
    else w.ignored path (SEQ_CTRL_HALT t) := by
  have held : (members w t).any (fun m => w.on (CODE_HELD m)) = w.on (CODE_HELD t) := by
    rw [members_eq lock]
    exact Bool.or_false _
  have still : ¬w.on (SEQ_STATE_STEPPING t) = true := by
    rw [on_eq, idle]
    decide
  rw [seqCtrlWrite, leader_eq lock, held]
  refine (if_neg (fun h => h rfl)).trans ((if_neg (by omega)).trans ((if_neg (by omega)).trans ((if_neg (by omega)).trans ?_)))
  exact if_congr Iff.rfl rfl (if_neg still)

end

/-! ## HALT (R230) -/

section

variable {w : Work σ} {path : Path} {t : Nat}

theorem halt_elsewhere (state : w.get (SEQ_STATE_STATE t) = HALTED ∨ w.get (SEQ_STATE_STATE t) = NOT_RELEASED)
    (idle : w.get (SEQ_STATE_STEPPING t) = 0) : hostHalt w path t = w.ignored path (SEQ_CTRL_HALT t) := by
  refine if_neg ?_
  rw [on_eq, idle]
  rcases state with h | h <;> rw [h] <;> decide

theorem halt_pending (state : w.get (SEQ_STATE_STATE t) = RUN ∨ w.get (SEQ_STATE_STATE t) = DRAINING) (idle : w.get (SEQ_STATE_STEPPING t) = 0)
    (cut : (w.tile t).seq.cutPending = true) : hostHalt w path t = w := by
  rw [hostHalt]
  refine (if_pos (by tauto)).trans (if_pos ⟨cut, ?_⟩)
  rw [on_eq, idle]
  decide

theorem halt_between (run : w.get (SEQ_STATE_STATE t) = RUN) (cut : (w.tile t).seq.cutPending = false) (cur : (w.tile t).seq.cur = none) :
    hostHalt w path t = cutSet w t (causeIn t CAUSE_HOST_HALT) (w.tile t).seq.next (w.tile t).seq.next := by
  have cur' : (w.seq t).cur = none := cur
  have cut' : ¬((w.seq t).cutPending = true ∧ (!w.on (SEQ_STATE_STEPPING t)) = true) := fun h => Bool.false_ne_true (cut.symm.trans h.1)
  rw [hostHalt]
  refine (if_pos (.inl run)).trans ((if_neg cut').trans ?_)
  rw [cur']
  exact if_pos (.inl run)

theorem halt_within {c : WordSt} (run : w.get (SEQ_STATE_STATE t) = RUN) (cut : (w.tile t).seq.cutPending = false) (cur : (w.tile t).seq.cur = some c)
    (goes : wordStalled w t = false) : hostHalt w path t = w.updSeq t (fun s => { s with haltReq := true }) := by
  have cur' : (w.seq t).cur = some c := cur
  have cut' : ¬((w.seq t).cutPending = true ∧ (!w.on (SEQ_STATE_STEPPING t)) = true) := fun h => Bool.false_ne_true (cut.symm.trans h.1)
  rw [hostHalt]
  refine (if_pos (.inl run)).trans ((if_neg cut').trans ?_)
  rw [cur']
  exact if_neg (by rw [goes]; exact Bool.false_ne_true)

end

/-! ## STEP and RESUME (R168, R217, R230) -/

/-- A group selected early changes nothing but its tile's clasps and pages, and counts. -/
theorem selectEarly_local {α : Type} {φ : Tile → α} (hφ : ∀ (x : Tile) (clasps : Vector Clasp 33) (pages : List PageBuf), φ { x with clasps, pages } = φ x)
    {K : Fld → Prop} {t : Nat} {w w' : Work σ} (h : TileLocal K t φ w w') (hK : K (FB_COUNT_GROUPS t)) : TileLocal K t φ w (selectEarly w' t) := by
  refine h.each _ _ (fun w c _ h => h.each _ _ (fun w i _ h => ?_))
  split
  next first es =>
    refine TileLocal.ite ?_ h
    refine TileLocal.inc ?_ _ hK
    exact (h.updTile _ (fun x => hφ x _ x.pages)).each _ _ (fun _ e _ h => dropPages_local (fun x pages => hφ x x.clasps pages) h e.page)
  next => exact h

/-- RESYNC of one tile. -/
def resynced (w : Work σ) (t : Nat) : Work σ := selectEarly (w.updSeq t (fun s => { s with cursor := w.now + 64 })) t

/-- The tile set out from RESTART. -/
def setOut (w : Work σ) (t : Nat) : Work σ :=
  (w.updSeq t (fun s => { s with next := w.get (SEQ_RESTART t), haltReq := false })).set (SEQ_MODE t) (w.get (SEQ_CFG_BRINGUP t))

theorem resync_eq {w : Work σ} (lock : w.get DEV_STATUS_LOCKSTEP = 0) (t : Nat) : resync w t = resynced w t := by
  rw [resync, members_eq lock, each_one, resynced]

theorem start_apart : ∀ t : Fin 32, (∀ f ∈ [DEV_STATUS_LOCKSTEP, SEQ_RESTART t, SEQ_CFG_BRINGUP t], f.key ≠ (FB_COUNT_GROUPS t).key) ∧
    (SEQ_MODE t).key ≠ (SEQ_STATE_STEPPING t).key ∧ (SEQ_MODE t).key ≠ (SEQ_STATE_STATE t).key := by decide +kernel

/-- The tile before it sets out, with its cursor moved if RESYNC asks for it. -/
def moved (w : Work σ) (t : Nat) (sync : Bool) : Work σ := if sync then resynced w t else w

/-- The registers that a tile's cursor moves. -/
def movedFlds (t : Nat) (sync : Bool) : List Fld := if sync then [FB_COUNT_GROUPS t] else []

theorem moved_local (w : Work σ) (t : Nat) (sync : Bool) : TileLocal (· ∈ movedFlds t sync) t (fun _ => ()) w (moved w t sync) := by
  cases sync with
  | false => exact TileLocal.refl w
  | true =>
    have first : TileLocal (· ∈ movedFlds t true) t (fun _ => ()) w (w.updSeq t (fun s => { s with cursor := w.now + 64 })) :=
      (TileLocal.refl w).updTile _ (fun _ => rfl)
    rw [moved, if_pos rfl, resynced]
    exact selectEarly_local (fun _ _ _ => rfl) first (List.mem_singleton_self _)

theorem moved_seq (w : Work σ) {t : Nat} (ht : t < 32) (sync : Bool) :
    (moved w t sync).seq t = { w.seq t with cursor := if sync then w.now + 64 else (w.seq t).cursor } := by
  cases sync
  · rfl
  · have local_ : TileLocal (· = FB_COUNT_GROUPS t) t Tile.seq (w.updSeq t (fun x => { x with cursor := w.now + 64 })) (resynced w t) :=
      selectEarly_local (fun _ _ _ => rfl) (TileLocal.refl _) rfl
    exact local_.2.2.trans (seq_updSeq w t _ ht)

theorem moved_get (w : Work σ) (t : Fin 32) (sync : Bool) : ∀ f ∈ [DEV_STATUS_LOCKSTEP, SEQ_RESTART t, SEQ_CFG_BRINGUP t],
    (moved w t sync).get f = w.get f := by
  obtain ⟨apart, -⟩ := start_apart t
  intro f hf
  refine (moved_local w t sync).1.1 f (fun g hg => ?_)
  cases sync
  · exact absurd hg List.not_mem_nil
  · rw [List.mem_singleton.1 hg]
    exact apart f hf

/-- Tile m set out from the RESTART of tile t. -/
def goOn (w : Work σ) (t m : Nat) (step : Bool) : Work σ :=
  let w := (w.updSeq m (fun s => { s with next := w.get (SEQ_RESTART t), haltReq := false })).set (SEQ_MODE m) (w.get (SEQ_CFG_BRINGUP m))
  if step then w.set (SEQ_STATE_STEPPING m) 1 else w.set (SEQ_STATE_STATE m) RUN

theorem startFrom_def (w : Work σ) (t : Nat) (step sync : Bool) : startFrom w t step sync =
    (if sync then resync w t else w).each (members (if sync then resync w t else w) t) (fun w m => goOn w t m step) := rfl

theorem goOn_self (w : Work σ) (t : Nat) (step : Bool) : goOn w t t step =
    if step then (setOut w t).set (SEQ_STATE_STEPPING t) 1 else (setOut w t).set (SEQ_STATE_STATE t) RUN := rfl

theorem startFrom_eq {w : Work σ} (lock : w.get DEV_STATUS_LOCKSTEP = 0) (t : Fin 32) (step sync : Bool) : startFrom w t step sync =
    if step then (setOut (moved w t sync) t).set (SEQ_STATE_STEPPING t) 1 else (setOut (moved w t sync) t).set (SEQ_STATE_STATE t) RUN := by
  have first : (if sync then resync w t else w) = moved w t sync := by rw [moved, resync_eq lock]
  rw [startFrom_def, first, members_eq ((moved_get w t sync _ (by simp)).trans lock), each_one, goOn_self]

/-- What a tile shows that sets out. -/
theorem setOut_shows (s : State) (t : Fin 32) (sync : Bool) :
    ((setOut (moved (Work.start s) t sync) t).tile t).seq = { (s.tile t).seq with
      cursor := if sync then s.tl.count + 64 else (s.tile t).seq.cursor, next := s.get (SEQ_RESTART t), haltReq := false } ∧
    (setOut (moved (Work.start s) t sync) t).get (SEQ_MODE t) = s.get (SEQ_CFG_BRINGUP t) % 2 ∧
    Keeps (setOut (moved (Work.start s) t sync) t) (SEQ_MODE t :: movedFlds t sync) ∧ Quiet (setOut (moved (Work.start s) t sync) t) := by
  obtain ⟨⟨gets, quiet, -, -⟩, -⟩ := moved_local (Work.start s) t sync
  have seq : (moved (Work.start s) t sync).seq t = _ := moved_seq (Work.start s) t.isLt sync
  have restart : (moved (Work.start s) t sync).get (SEQ_RESTART t) = s.get (SEQ_RESTART t) := moved_get (Work.start s) t sync _ (by simp)
  have bringup : (moved (Work.start s) t sync).get (SEQ_CFG_BRINGUP t) = s.get (SEQ_CFG_BRINGUP t) := moved_get (Work.start s) t sync _ (by simp)
  generalize moved (Work.start s) t sync = w at *
  have out : ((setOut w t).tile t).seq = { w.seq t with next := w.get (SEQ_RESTART t), haltReq := false } :=
    seq_updSeq w t (fun q => { q with next := w.get (SEQ_RESTART t), haltReq := false }) t.isLt
  refine ⟨?_, ?_, fun f hf => ?_, quiet (quiet_start s)⟩
  · rw [out, seq, restart]
    rfl
  · rw [setOut, Work.get_set_self, bringup]
    rfl
  · rw [setOut, Work.get_set_ne _ _ _ _ (hf _ List.mem_cons_self), Work.get_updSeq]
    exact (gets f (fun g hg => hf g (List.mem_cons_of_mem _ hg))).trans (Work.get_start s f)

/-- R217, R230: a tile that sets out from RESTART, to step or to run. -/
theorem startFrom_answers {s : State} (hs : s.wf = true) (u : Fin 32) (sync : Bool) {c : Instr} (F : Work s → Work s)
    (run : exec c s = .next (F (Work.start s)).finish) (f : Fld) (v : Nat) (mode : (SEQ_MODE u).key ≠ f.key)
    (eq : F (Work.start s) = (setOut (moved (Work.start s) u sync) u).set f v) : Answers c s (fun t =>
      t.get f = v % 2 ^ f.width ∧ (t.tile u).seq = { (s.tile u).seq with
        cursor := if sync then s.tl.count + 64 else (s.tile u).seq.cursor, next := s.get (SEQ_RESTART u), haltReq := false } ∧
      t.get (SEQ_MODE u) = s.get (SEQ_CFG_BRINGUP u) % 2 ∧ Frame s t (f :: SEQ_MODE u :: movedFlds u sync)) := by
  obtain ⟨seq, bringup, keeps, quiet⟩ := setOut_shows s u sync
  generalize setOut (moved (Work.start s) u sync) u = w at *
  refine answers_of F run eq ⟨?_, seq, ?_, frame_finish hs ?_ ((quiet_set _ _ _).2 quiet)⟩
  · rw [Work.finish_get _ _ hs, Work.get_set_self]
  · rw [Work.finish_get _ _ hs, Work.get_set_ne _ _ _ _ mode, bringup]
  · exact (keeps_set _ _ _ _ List.mem_cons_self).2 (keeps.mono (List.subset_cons_self _ _))

/-! ## A write that the loader rejects (R314, R323) -/

theorem answers_rejected {s : State} (hs : s.wf = true) {c : Instr} (F : Work s → Work s) (run : exec c s = .next (F (Work.start s)).finish) (u : Fin 32)
    (path : Path) (f : Fld) {k : Nat} (hf : f.addr = tileBase u + k) (hk : k < 0x400000) (eq : F (Work.start s) = (Work.start s).reject path f.addr) :
    Answers c s (fun t => Logged s t 3 path.code u f.addr ∧ Counted s t LOADER_REJECT_COUNT ∧
      Leaves s t (rejectRegs ++ logFlds (s.get DEV_ERRLOG_HEAD)) { s.view.dev with held := s.dev.held ++ [s.firing 487, s.firing 503] }) := by
  have tile := tileOfAddr_window u hf hk
  obtain ⟨w, hw, logged, count, gets, quiet, dev, fresh⟩ := reject_effect (Work.start s) path f.addr hs (Work.get_start _ _) (by omega)
  rw [firing_eq _ 487 rfl (Work.get_start _ _), firing_eq _ 503 rfl (Work.get_start _ _)] at dev
  rw [tile] at logged
  refine answers_of F run (eq.trans hw) ⟨logged, ?_, leaves_finish hs (fun g hg => ?_) (quiet.2 (quiet_start s)) dev fresh⟩
  · rw [Counted, Work.finish_get _ _ hs, count, Work.get_start]
  · exact (gets g (fun g' hg' => hg g' (List.mem_append_left _ hg')) (fun g' hg' => hg g' (List.mem_append_right _ hg'))).trans (Work.get_start s g)

/-! ## The obligation -/

/-- The command of a STEP or a RESUME, and what it writes to SEQ.CTRL. -/
theorem start_commands {s : State} {via : Via} {u : Fin 32} {c : Instr} {sync : Bool} (h : c ∈ [Instr.seqStep via u sync, Instr.seqResume via u sync]) :
    ∃ v, (v % 16 = 1 ∨ v % 16 = 2) ∧ exec c s = .next (seqCtrlWrite (Work.start s) (viaPath via) u v).finish := by
  simp only [List.mem_cons, List.not_mem_nil, or_false] at h
  rcases h with rfl | rfl
  · exact ⟨2 + 16 * b2n sync, .inr (by omega), rfl⟩
  · exact ⟨1 + 16 * b2n sync, .inl (by omega), rfl⟩

theorem hostControl : Clause.HostControl := by
  intro s hs via u lock idle
  have lock' : (Work.start s).get DEV_STATUS_LOCKSTEP = 0 := lock
  have idle' : (Work.start s).get (SEQ_STATE_STEPPING u) = 0 := idle
  have stop := ctrl_acts lock' (viaPath via) u (v := 4) (by decide) idle'
  rw [if_neg (by simp), if_pos rfl] at stop
  have halt := ctrl_halt lock' (viaPath via) u
  refine ⟨fun state => ?_, fun state => ?_, fun state cut => ?_, fun state cut cur busy => ?_, fun c state cut cur goes => ?_, fun c sync hc state free => ?_,
    fun c sync hc held => ?_, fun state free sync => ?_⟩
  · refine answers_of (F := fun w => seqCtrlWrite w (viaPath via) u 4) rfl (stop.trans (if_pos state)) ⟨?_, plain_finish hs ?_ (quiet_start s) rfl rfl⟩
    · rw [Work.finish_get _ _ hs, Work.get_set_self]
      rfl
    · exact (keeps_set _ _ _ _ List.mem_cons_self).2 (keeps_start s _)
  · exact answers_ignored hs (fun w => seqCtrlWrite w (viaPath via) u 4) rfl u _ _ (k := 0) rfl (by decide) (stop.trans (if_neg state))
  · exact answers_of (F := fun w => seqCtrlWrite w (viaPath via) u 8) rfl (halt.trans (halt_pending (w := Work.start s) state idle' cut)) (plain_start s _ hs)
  · obtain ⟨w, cutOnce, cause, -, restart, -, acts, -, others, quiet, -⟩ := cutOne_spec (Work.start s) u u.isLt (causeIn u CAUSE_HOST_HALT)
      (s.tile u).seq.next (s.tile u).seq.next
    obtain ⟨halted, -⟩ := acts busy
    have run := halt.trans ((halt_between (w := Work.start s) state cut cur).trans ((cutSet_eq _ _ _ _ _ lock').trans cutOnce))
    have quiet := quiet (quiet_start s)
    refine answers_of (F := fun w => seqCtrlWrite w (viaPath via) u 8) rfl run ⟨?_, ?_, ?_, fun v _ hv => others v hv, storesKept_finish hs quiet, ?_⟩
    · rw [Work.finish_get _ _ hs, halted]
    · rw [Work.finish_get _ _ hs, cause, causeIn, if_pos rfl]
      rfl
    · rw [Work.finish_get _ _ hs, restart]
    · obtain ⟨-, -, -, -, -, tlc⟩ := quiet
      rw [Work.finish_tl, tlc, Tl.apply_keep]
  · refine answers_of (F := fun w => seqCtrlWrite w (viaPath via) u 8) rfl (halt.trans (halt_within (w := Work.start s) state cut cur goes))
      ⟨?_, frame_finish hs (keeps_start s _) (quiet_start s)⟩
    exact seq_updSeq (Work.start s) u (fun q => { q with haltReq := true }) u.isLt
  · simp only [List.mem_cons, List.not_mem_nil, or_false] at hc
    rcases hc with rfl | rest
    · have state' : s.get (SEQ_STATE_STATE u) = HALTED ∨ s.get (SEQ_STATE_STATE u) = NOT_RELEASED := by simpa using state
      exact answers_ignored hs (fun w => seqCtrlWrite w (viaPath via) u 8) rfl u _ _ (k := 0) rfl (by decide)
        (halt.trans (halt_elsewhere (w := Work.start s) state' idle'))
    · obtain ⟨start, elsewhere⟩ : c.1 ∈ [Instr.seqStep via u sync, Instr.seqResume via u sync] ∧ c.2 = [RUN, NOT_RELEASED] := by
        rcases rest with rfl | rfl <;> simp
      obtain ⟨v, hv, run⟩ := start_commands (s := s) start
      have acts := ctrl_acts lock' (viaPath via) u (v := v) (by omega) idle'
      have loose : ¬(v % 16 ≤ 2 ∧ (Work.start s).on (CODE_HELD u) = true) := fun h => by
        rw [on_eq, Work.get_start, free] at h
        exact absurd h.2 (by decide)
      have not_ : ¬((Work.start s).get (SEQ_STATE_STATE u) = DRAINING ∨ (Work.start s).get (SEQ_STATE_STATE u) = HALTED) := by
        rw [elsewhere] at state
        simp only [List.mem_cons, List.not_mem_nil, or_false] at state
        rw [Work.get_start]
        rcases state with h | h <;> rw [h] <;> decide
      rw [if_neg loose, if_neg (by omega), if_neg not_] at acts
      exact answers_ignored hs (fun w => seqCtrlWrite w (viaPath via) u v) run u _ _ (k := 0) rfl (by decide) acts
  · obtain ⟨v, hv, run⟩ := start_commands (s := s) hc
    have acts := ctrl_acts lock' (viaPath via) u (v := v) (by omega) idle'
    have loads : v % 16 ≤ 2 ∧ (Work.start s).on (CODE_HELD u) = true := ⟨by omega, by rw [on_eq]; exact decide_eq_true held⟩
    exact answers_rejected hs (fun w => seqCtrlWrite w (viaPath via) u v) run u _ _ (k := 0) rfl (by decide) (acts.trans (if_pos loads))
  · have begin_ : ∀ v, (v % 16 = 1 ∨ v % 16 = 2) → bit v 4 = sync → seqCtrlWrite (Work.start s) (viaPath via) u v =
        if decide (v % 16 = 2) then (setOut (moved (Work.start s) u sync) u).set (SEQ_STATE_STEPPING u) 1
        else (setOut (moved (Work.start s) u sync) u).set (SEQ_STATE_STATE u) RUN := by
      intro v hv bit_
      have loose : ¬(v % 16 ≤ 2 ∧ (Work.start s).on (CODE_HELD u) = true) := fun h => by
        rw [on_eq, Work.get_start, free] at h
        exact absurd h.2 (by decide)
      have acts := ctrl_acts lock' (viaPath via) u (v := v) (by omega) idle'
      have sets : (Work.start s).get (SEQ_STATE_STATE u) = DRAINING ∨ (Work.start s).get (SEQ_STATE_STATE u) = HALTED := Or.symm state
      rw [if_neg loose, if_neg (by omega), if_pos sets, bit_] at acts
      exact acts.trans (startFrom_eq lock' u _ sync)
    obtain ⟨-, stepping, running⟩ := start_apart u
    have step := begin_ (2 + 16 * b2n sync) (.inr (by omega)) (by cases sync <;> rfl)
    have resume := begin_ (1 + 16 * b2n sync) (.inl (by omega)) (by cases sync <;> rfl)
    rw [decide_eq_true (by omega), if_pos rfl] at step
    rw [decide_eq_false (by omega), if_neg Bool.false_ne_true] at resume
    exact ⟨startFrom_answers hs u sync (c := .seqStep via u sync) (fun w => seqCtrlWrite w (viaPath via) u (2 + 16 * b2n sync)) rfl _ 1 stepping step,
      startFrom_answers hs u sync (c := .seqResume via u sync) (fun w => seqCtrlWrite w (viaPath via) u (1 + 16 * b2n sync)) rfl _ RUN running resume⟩

/-! ## The halt behind a drain (R225) -/

theorem drainComplete_halts {w : Work σ} {t : Nat} (lock : w.get DEV_STATUS_LOCKSTEP = 0) (state : w.get (SEQ_STATE_STATE t) = DRAINING)
    (cur : (w.tile t).seq.cur = none) (cut : (w.tile t).seq.cutPending = false) (idle : w.get (SEQ_STATE_STEPPING t) = 0) (empty : drained w t = true) :
    drainComplete w t = ((stopEngines w t).set (SEQ_STATE_STATE t) HALTED).fire (tileSrc t 0) := by
  have cut' : (!(w.seq t).cutPending) = true := by
    rw [Work.seq, cut]
    rfl
  have idle' : (!w.on (SEQ_STATE_STEPPING t)) = true := by
    rw [on_eq, idle]
    rfl
  have all : (members w t).all (fun m => drained w m) = true := by
    rw [members_eq lock]
    simpa using empty
  rw [drainComplete, if_pos ⟨state, leader_eq lock t, cur, cut', idle', all⟩, members_eq lock, each_one]

theorem drainCompletes : Clause.DrainCompletes := by
  intro s hs u lock state cur cut idle empty
  have run := drainComplete_halts (w := Work.start s) lock state cur cut idle empty
  obtain ⟨tones, fluxes⟩ := stopEngines_shut (Work.start s) u.isLt
  obtain ⟨⟨gets, quiet, -, dev⟩, others, -⟩ : TileLocal (fun _ => False) u (fun _ => ()) (Work.start s) (stopEngines (Work.start s) u) :=
    stopEngines_local (fun _ _ _ _ => rfl) (TileLocal.refl _)
  have tl : (stopEngines (Work.start s) u).tl = s.tl := DdrProofs.tl_of_quiet (quiet (quiet_start s))
  have get : ∀ f, (stopEngines (Work.start s) u).get f = s.get f := fun f => gets f (fun _ h => h.elim)
  generalize stopEngines (Work.start s) u = w at *
  have apart : NT_NOW.key ≠ (SEQ_STATE_STATE u).key := by
    simp only [Fld.key, NT_NOW, SEQ_STATE_STATE, hid, hidDev, tileBase]
    omega
  have fires : (((w.set (SEQ_STATE_STATE u) HALTED).fire (tileSrc u 0)).dev) = { w.dev with held := w.dev.held ++ [s.firing (tileSrc u 0)] } := by
    rw [fire_dev, firing_eq]
    · rfl
    · exact tl
    · rw [Work.get_set_ne _ _ _ _ apart, get]
  refine answers_of (F := fun w => drainComplete w u) rfl run ⟨?_, tones, fluxes, fun v _ hv => others v hv, ?_, frame_finish hs ?_ ?_⟩
  · rw [Work.finish_get _ _ hs, Work.get_fire, Work.get_set_self]
    rfl
  · rw [Work.finish_dev, fires, dev]
    rfl
  · exact (keeps_fire _ _ _).2 ((keeps_set _ _ _ _ List.mem_cons_self).2 (fun f _ => get f))
  · exact (quiet_fire _ _).2 ((quiet_set _ _ _).2 (quiet (quiet_start s)))

/-- Settles O22: each action by the state of its tile, and the halt of a tile that has drained. -/
theorem halts : Obligations.Halts := ⟨hostControl, drainCompletes⟩

end Sys2Proof.HaltProofs
end

section
/-! PROOFS. A word from its fetch to its end (R188 to R198, R212, R220 to R228). -/

namespace Sys2Proof.WordProofs

open Sys2Proof.Machine Sys2Proof.Effects Sys2Proof.SeqFacts Sys2Proof.RejectFacts Sys2Proof.TakeProofs Sys2Proof.LaneWorks Sys2Proof.AbortProofs
  Sys2Proof.HaltProofs

-- A kernel evaluation waits for every declaration before it: one at a time keeps the threads that wait, and their stacks, few.
set_option Elab.async false

variable {σ : State}

/-! ## A word as it is issued (R192, R193, R198) -/

/-- The address of a word shown, and the word counted. -/
def noted (w : Work σ) (t a : Nat) : Work σ := (w.set (SEQ_STATE_ADDR t) a).inc (SEQ_WORDS t)

/-- The cursor that a word takes. -/
def cursorBehind (w : Work σ) (t x : Nat) : Nat := if mwSeq x = 9 then (w.seq t).cursor else (w.seq t).cursor + mwDt x

/-- The word of tile t at an address, as its steps begin. -/
def begun (w : Work σ) (t a : Nat) : WordSt :=
  ⟨a, csWord w t a, cursorBehind w t (csWord w t a), mwSub (csWord w t a), condTrue w t (csWord w t a),
    wordSteps (noted w t a) t true (mwSeq (csWord w t a)) (csWord w t a), 0, w.on (SEQ_STATE_STEPPING t), none, false⟩

/-- The word taken. -/
def issued (w : Work σ) (t a : Nat) : Work σ := (noted w t a).updSeq t (fun s => { s with
  cursor := cursorBehind w t (csWord w t a), starved := false, cur := some (begun w t a) })

theorem word_apart : ∀ t : Fin 32, ∀ f ∈ [SEQ_STATE_ADDR t, SEQ_WORDS t, FB_COUNT_GROUPS t] ++ waitFlds t, DEV_STATUS_LOCKSTEP.key ≠ f.key := by decide +kernel

theorem noted_writes (w : Work σ) (t a : Nat) : Writes (· ∈ [SEQ_STATE_ADDR t, SEQ_WORDS t, FB_COUNT_GROUPS t] ++ waitFlds t) w (noted w t a) :=
  ((Writes.refl w).set _ _ (by simp)).inc _ (by simp)

/-- What decides whether a QUE field is legal is none of the registers of a fetch. -/
theorem queLegal_noted (w : Work σ) (t a x : Nat) : queLegal (noted w t a) t x = queLegal w t x := by
  have kept : ∀ f ∈ [QT_CFG_DIR t (mwQueue x), QT_CFG_CONSUMER t (mwQueue x)], (noted w t a).get f = w.get f := by
    intro f hf
    simp only [List.mem_cons, List.not_mem_nil, or_false] at hf
    rcases hf with rfl | rfl <;> rw [noted, Work.get_inc_ne, Work.get_set_ne] <;>
      simp only [ne_eq, Fld.key, QT_CFG_DIR, QT_CFG_CONSUMER, SEQ_STATE_ADDR, SEQ_WORDS, tileBase] <;> omega
  have dir : (noted w t a).on (QT_CFG_DIR t (mwQueue x)) = w.on (QT_CFG_DIR t (mwQueue x)) := by rw [on_eq, on_eq, kept _ (by simp)]
  rw [queLegal, queLegal, qIsIn, qIsIn, qIsOut, qIsOut, dir, kept (QT_CFG_CONSUMER t (mwQueue x)) (by simp)]

theorem wordSteps_noted (w : Work σ) (t a seq x : Nat) : wordSteps (noted w t a) t true seq x = wordSteps w t true seq x := by
  rw [wordSteps, wordSteps, queLegal_noted]

/-- The choice of a successor, at least, is before a word that leads. -/
theorem wordSteps_ne_nil (w : Work σ) (t seq x : Nat) : wordSteps w t true seq x ≠ [] := by
  refine List.ne_nil_of_mem (a := .dspOp) ?_
  rw [wordSteps, pick]
  exact List.mem_flatMap.2 ⟨(true, [.dspOp]), by simp, List.mem_singleton_self _⟩

/-- Tile m's own word at an address, under the sequencing fields of tile t. -/
def takeWord (w : Work σ) (t m a x cursor : Nat) (stepped cond : Bool) : Work σ :=
  let y := csWord w m a
  let w := recordIllegal w m a (illegalFields w m (mwSeq x) y)
  let w := (w.set (SEQ_STATE_ADDR m) a).inc (SEQ_WORDS m)
  w.updSeq m (fun s => { s with
    cursor := cursor, starved := false
    cur := some ⟨a, y, cursor, mwSub y, cond, wordSteps w m (decide (m = t)) (mwSeq x) y, 0, stepped, none, false⟩ })

/-- The words of a set taken. -/
def takeWords (w : Work σ) (t a : Nat) : Work σ := w.each (members w t) (fun v m =>
  takeWord v t m a (csWord w t a) (cursorBehind w t (csWord w t a)) (w.on (SEQ_STATE_STEPPING t)) (condTrue w t (csWord w t a)))

theorem issueWord_def (w : Work σ) (t a : Nat) :
    issueWord w t a = settle ((takeWords w t a).each (members (takeWords w t a) t) selectEarly) t := rfl

theorem takeWord_self {w : Work σ} {t a : Nat} (legal : illegalFields w t (mwSeq (csWord w t a)) (csWord w t a) = []) :
    takeWord w t t a (csWord w t a) (cursorBehind w t (csWord w t a)) (w.on (SEQ_STATE_STEPPING t)) (condTrue w t (csWord w t a)) = issued w t a := by
  rw [takeWord, legal, decide_eq_true rfl]
  rfl

section

variable {w : Work σ} {t : Fin 32} (lock : w.get DEV_STATUS_LOCKSTEP = 0) {a : Nat}
include lock

theorem issueWord_eq (legal : illegalFields w t (mwSeq (csWord w t a)) (csWord w t a) = []) :
    issueWord w t a = noteWait (selectEarly (issued w t a) t) t := by
  have lock' : (issued w t a).get DEV_STATUS_LOCKSTEP = 0 := (noted_writes w t a _ (word_apart t)).trans lock
  have local_ : TileLocal (· = FB_COUNT_GROUPS t) t Tile.seq (issued w t a) (selectEarly (issued w t a) t) :=
    selectEarly_local (fun _ _ _ => rfl) (TileLocal.refl _) rfl
  have cur : ((selectEarly (issued w t a) t).seq t).cur = some (begun w t a) :=
    (congrArg SeqSt.cur local_.2.2).trans (congrArg SeqSt.cur (seq_updSeq (noted w t a) t _ t.isLt))
  have lock'' : (selectEarly (issued w t a) t).get DEV_STATUS_LOCKSTEP = 0 :=
    (local_.1.1 _ (fun g hg => by rw [hg]; exact word_apart t _ (by simp))).trans lock'
  have todo : (begun w t a).todo ≠ [] := wordSteps_ne_nil _ _ _ _
  have taken : takeWords w t a = issued w t a := by rw [takeWords, members_eq lock, each_one, takeWord_self legal]
  rw [issueWord_def, taken, members_eq lock', each_one, settle_eq_noteWait lock'' t _ cur todo]

/-- What a word shows that has been issued. -/
theorem issued_waits (legal : illegalFields w t (mwSeq (csWord w t a)) (csWord w t a) = []) :
    ∃ w' : Work σ, issueWord w t a = w' ∧ (∃ n, (w'.seq t).cur = some { begun w t a with waitFrom := n }) ∧
      (w'.seq t).cursor = cursorBehind w t (csWord w t a) ∧
      TileWork (· ∈ [SEQ_STATE_ADDR t, SEQ_WORDS t, FB_COUNT_GROUPS t] ++ waitFlds t) w w' ∧ (∀ v, v ≠ t.val → w'.tile v = w.tile v) ∧
      ∀ f ∈ [SEQ_STATE_ADDR t, SEQ_WORDS t], w'.get f = (noted w t a).get f := by
  have first : TileLocal (· ∈ [SEQ_STATE_ADDR t, SEQ_WORDS t, FB_COUNT_GROUPS t] ++ waitFlds t) t (fun _ => ()) w (issued w t a) := by
    have shown : TileLocal (· ∈ [SEQ_STATE_ADDR t, SEQ_WORDS t, FB_COUNT_GROUPS t] ++ waitFlds t) t (fun _ => ()) w (noted w t a) :=
      ((TileLocal.refl w).set _ _ List.mem_cons_self).inc _ (List.mem_cons_of_mem _ List.mem_cons_self)
    rw [issued]
    exact shown.updTile _ (fun _ => rfl)
  have early : TileLocal (· = FB_COUNT_GROUPS t) t Tile.seq (issued w t a) (selectEarly (issued w t a) t) :=
    selectEarly_local (fun _ _ _ => rfl) (TileLocal.refl _) rfl
  have seq : (issued w t a).seq t = _ := seq_updSeq (noted w t a) t _ t.isLt
  have regs : ∀ f, (issued w t a).get f = (noted w t a).get f := fun _ => rfl
  have run := issueWord_eq lock legal
  have lock' : (selectEarly (issued w t a) t).get DEV_STATUS_LOCKSTEP = 0 := by
    rw [early.1.1 _ (fun g hg => by rw [hg]; exact word_apart t _ (by simp)), regs]
    exact (noted_writes w t a _ (word_apart t)).trans lock
  generalize issued w t a = v at *
  have waits := noteWait_waited (selectEarly v t) t (begun w t a) t.isLt lock' ((congrArg SeqSt.cur early.2.2).trans (congrArg SeqSt.cur seq))
  generalize selectEarly v t = x at *
  refine ⟨_, run, waits.2.1, ?_, ?_, fun v' hv => ?_, fun f hf => ?_⟩
  · exact (waits.tile (fun x => x.seq.cursor) (fun _ => rfl)).trans ((congrArg SeqSt.cursor early.2.2).trans (congrArg SeqSt.cursor seq))
  · exact tileWork_trans first.1 (tileWork_trans (tileWork_mono early.1 (fun g hg => by rw [hg]; simp))
      (tileWork_mono waits.1.1 (fun g hg => List.mem_append_right _ hg)))
  · exact (waits.tile_ne v' hv).trans ((early.2.1 v' hv).trans (first.2.1 v' hv))
  · have apart : ∀ t : Fin 32, ∀ f ∈ [SEQ_STATE_ADDR t, SEQ_WORDS t], ∀ g ∈ FB_COUNT_GROUPS t :: waitFlds t, f.key ≠ g.key := by decide +kernel
    rw [waits.get f (fun g hg => apart t f hf g (List.mem_cons_of_mem _ hg)),
      early.1.1 f (fun g hg => apart t f hf g (by rw [hg]; exact List.mem_cons_self)), regs]

end

/-! ## The fetch (R188 to R193, R228) -/

theorem wordFetch_good {w : Work σ} {t : Nat} (lock : w.get DEV_STATUS_LOCKSTEP = 0) (may : mayFetch w t = true)
    (parity : parityFail (csWord w t (w.seq t).next) = 0) (defined : mwSeq (csWord w t (w.seq t).next) < 10) :
    wordFetch w t = issueWord w t (w.seq t).next := by
  rw [wordFetch, may, members_eq lock]
  refine (if_neg (by decide)).trans ((if_neg ?_).trans (if_neg (by omega)))
  simp [parity]

theorem wordFetch_parity {w : Work σ} {t : Nat} (lock : w.get DEV_STATUS_LOCKSTEP = 0) (may : mayFetch w t = true)
    (parity : parityFail (csWord w t (w.seq t).next) ≠ 0) : ∃ causeOf : Nat → Nat × Nat, (causeOf t).1 = CAUSE_PARITY ∧
    wordFetch w t = cutOne causeOf (w.seq t).next (w.seq t).next w t := by
  refine ⟨fun m => if parityFail (csWord w m (w.seq t).next) ≠ 0 then (CAUSE_PARITY, parityFail (csWord w m (w.seq t).next)) else (CAUSE_LOCKSTEP, 0),
    congrArg Prod.fst (if_pos parity), ?_⟩
  rw [wordFetch, may, members_eq lock]
  refine (if_neg (by decide)).trans ((if_pos ?_).trans (cutSet_eq _ _ _ _ _ lock))
  simp [parity]

theorem wordFetch_reserved {w : Work σ} {t : Nat} (lock : w.get DEV_STATUS_LOCKSTEP = 0) (may : mayFetch w t = true)
    (parity : parityFail (csWord w t (w.seq t).next) = 0) (reserved : 10 ≤ mwSeq (csWord w t (w.seq t).next)) :
    wordFetch w t = cutSet (recordIllegal w t (w.seq t).next [0]) t (causeIn t CAUSE_ILLEGAL) (w.seq t).next (w.seq t).next := by
  rw [wordFetch, may, members_eq lock]
  refine (if_neg (by decide)).trans ((if_neg ?_).trans (if_pos reserved))
  simp [parity]

theorem wordsIssue : Clause.WordsIssue := by
  intro s hs u may lock q x parity defined legal
  obtain ⟨w, issue, ⟨n, cur⟩, cursor, ⟨gets, quiet, -, dev⟩, others, shown⟩ := issued_waits (w := Work.start s) (t := u) lock legal
  have run := (wordFetch_good (w := Work.start s) lock may parity defined).trans issue
  have steps := wordSteps_noted (Work.start s) u q.next (mwSeq x) x
  refine answers_of (F := fun w => wordFetch w u) rfl run ⟨⟨n, ?_⟩, cursor, ?_, ?_, fun v _ hv => others v hv, ?_, frame_finish hs gets (quiet (quiet_start s))⟩
  · refine cur.trans (congrArg some ?_)
    rw [begun, steps]
    refine congrArg (fun k => (⟨q.next, x, k, mwSub x, condTrue s.view u x, wordSteps s.view u true (mwSeq x) x, 0, s.view.on (SEQ_STATE_STEPPING u), n,
      false⟩ : WordSt)) cursor.symm
  · rw [Work.finish_get _ _ hs, shown _ (by simp), noted, Work.get_inc_ne _ _ _ (by simp only [ne_eq, Fld.key, SEQ_STATE_ADDR, SEQ_WORDS]; omega),
      Work.get_set_self]
  · rw [Counted, Work.finish_get _ _ hs, shown _ (by simp), noted, get_inc,
      Work.get_set_ne _ _ _ _ (by simp only [ne_eq, Fld.key, SEQ_STATE_ADDR, SEQ_WORDS]; omega), Work.get_start]
  · rw [Work.finish_dev, dev]
    rfl

/-! ## A bad word (R189, R212, R224, R226, R228) -/

/-- The registers that show an illegal word. -/
def illegalFlds (t : Nat) : List Fld := [MW_ILLEGAL_COUNT t, MW_ILLEGAL_VALID t, MW_ILLEGAL_FIELD t, MW_ILLEGAL_ADDR t]

theorem recordIllegal_writes (w : Work σ) (t a f : Nat) : Writes (· ∈ illegalFlds t) w (recordIllegal w t a [f]) ∧
    (recordIllegal w t a [f]).dev = w.dev ∧ (Quiet w → Quiet (recordIllegal w t a [f])) := by
  have counted : Writes (· ∈ illegalFlds t) w (w.inc (MW_ILLEGAL_COUNT t)) := (Writes.refl w).inc _ (by simp [illegalFlds])
  rw [recordIllegal]
  split
  · exact ⟨counted, rfl, id⟩
  · exact ⟨((counted.set _ _ (by simp [illegalFlds])).set _ _ (by simp [illegalFlds])).set _ _ (by simp [illegalFlds]), rfl, id⟩

theorem illegal_apart : ∀ t : Fin 32, ∀ f ∈ [DEV_STATUS_LOCKSTEP, CLASP_ABORT_CTRL_BUSY t, SEQ_STATE_STATE t], ∀ g ∈ illegalFlds t, f.key ≠ g.key := by
  decide +kernel

/-- A cut of a tile at an address, from a work that has kept its tiles and what a cut reads. -/
theorem cut_shows {s : State} (hs : s.wf = true) (u : Fin 32) {w w' : Work s} {cause a : Nat} {causeOf : Nat → Nat × Nat} (eq : cutOne causeOf a a w u = w')
    (is : (causeOf u).1 = cause) (small : cause < 16) (dev : w.dev = s.view.dev) (quiet : Quiet w)
    (kept : ∀ f ∈ [DEV_STATUS_LOCKSTEP, CLASP_ABORT_CTRL_BUSY u, SEQ_STATE_STATE u], w.get f = s.get f) :
    w'.finish.get (SEQ_HALT_INFO_CAUSE u) = cause ∧ w'.finish.get (SEQ_HALT_INFO_ADDR u) = a % 2 ^ (SEQ_HALT_INFO_ADDR u).width ∧
      w'.finish.get (SEQ_RESTART u) = a % 2 ^ (SEQ_RESTART u).width ∧ (w'.finish.tile u).seq.cur = none ∧
      (s.get (CLASP_ABORT_CTRL_BUSY u) = 0 → w'.finish.get (SEQ_STATE_STATE u) = HALTED ∧ (w'.finish.tile u).seq.cutPending = false ∧
        (∃ f ∈ w'.finish.dev.held, f.src = tileSrc u 0) ∧ w'.finish.get (CLASP_ABORT_CTRL_BUSY u) = 1) ∧
      (s.get (CLASP_ABORT_CTRL_BUSY u) ≠ 0 → w'.finish.get (SEQ_STATE_STATE u) = s.get (SEQ_STATE_STATE u) ∧
        (w'.finish.tile u).seq.cutPending = true) ∧
      (∀ v < 32, v ≠ u.val → w'.finish.tile v = s.tile v) ∧ StoresKept s w'.finish ∧ w'.finish.tl = s.tl ∧ w'.finish.fuse = s.fuse ∧
      w'.finish.pending = s.pending := by
  obtain ⟨w2, eq2, hcause, haddr, hrestart, hcur, hidle, hbusy, hothers, hquiet, -⟩ := cutOne_spec w u u.isLt causeOf a a
  obtain rfl : w2 = w' := eq2.symm.trans eq
  have quiet' := hquiet quiet
  obtain ⟨-, -, -, -, -, tlc⟩ := id quiet'
  rw [kept _ (by simp)] at hidle hbusy
  rw [kept (SEQ_STATE_STATE u) (by simp)] at hbusy
  simp only [Work.finish_get _ _ hs]
  refine ⟨?_, haddr, hrestart, hcur, hidle, hbusy, fun v _ hv => (hothers v hv).trans ?_, storesKept_finish hs quiet', ?_, rfl, rfl⟩
  · rw [hcause, is, Nat.mod_eq_of_lt small]
  · rw [Work.tile, dev]
    rfl
  · rw [Work.finish_tl, tlc, Tl.apply_keep]

theorem badWordsCut : Clause.BadWordsCut := by
  intro s hs u may lock a cause bad
  rcases bad with ⟨parity, rfl⟩ | ⟨parity, reserved, rfl⟩
  · obtain ⟨causeOf, is, run⟩ := wordFetch_parity (w := Work.start s) lock may parity
    exact answers_of (F := fun w => wordFetch w u) rfl run
      (cut_shows hs u rfl is (by decide) rfl (quiet_start s) (fun f _ => Work.get_start s f))
  · have run := wordFetch_reserved (w := Work.start s) lock may parity reserved
    obtain ⟨writes, dev, quiet⟩ := recordIllegal_writes (Work.start s) u a 0
    have kept : ∀ f ∈ [DEV_STATUS_LOCKSTEP, CLASP_ABORT_CTRL_BUSY u, SEQ_STATE_STATE u], (recordIllegal (Work.start s) u a [0]).get f = s.get f :=
      fun f hf => (writes f (illegal_apart u f hf)).trans (Work.get_start s f)
    have run' := run.trans (cutSet_eq (recordIllegal (Work.start s) u a [0]) u _ _ _ ((kept _ (by simp)).trans lock))
    exact answers_of (F := fun w => wordFetch w u) rfl run'
      (cut_shows hs u rfl (by rw [causeIn, if_pos rfl]) (by decide) dev (quiet (quiet_start s)) kept)


/-! ## The end of an unmarked word (R195, R224, R225, R229) -/

/-- A word without a step left gone, behind an unmarked run. -/
def ranOn (w : Work σ) (t succ : Nat) : Work σ :=
  let v := (w.updSeq t (fun q => { q with cur := none, next := succ })).updSeq t (fun q => { q with run := (w.seq t).run + 1 })
  if v.get (SEQ_STARVE_MAXRUN t) < (w.seq t).run + 1 then v.set (SEQ_STARVE_MAXRUN t) (min ((w.seq t).run + 1) 0xFFFF) else v

/-- A tile that drains outside lockstep. -/
def draining (w : Work σ) (t cause addr restart : Nat) : Work σ :=
  (((((w.set (SEQ_HALT_INFO_CAUSE t) cause).set (SEQ_HALT_INFO_ADDR t) addr).set (SEQ_RESTART t) restart).set (SEQ_CTRL_STOP t) 0).updSeq t
    (fun s => { s with cur := none, next := restart })).set (SEQ_STATE_STATE t) DRAINING

theorem drainSet_eq {w : Work σ} (lock : w.get DEV_STATUS_LOCKSTEP = 0) (t cause addr restart : Nat) :
    drainSet w t cause addr restart false = draining w t cause addr restart := by
  rw [drainSet, members_eq lock, each_one, causeIn, if_pos rfl]
  rfl

theorem maxrun_apart : ∀ t : Fin 32, ∀ f ∈ [DEV_STATUS_LOCKSTEP, SEQ_STARVE_LIMIT t], f.key ≠ (SEQ_STARVE_MAXRUN t).key := by decide +kernel

theorem ranOn_writes (w : Work σ) (t succ : Nat) : Writes (· = SEQ_STARVE_MAXRUN t) w (ranOn w t succ) := by
  rw [ranOn]
  exact Writes.ite (Writes.set (w' := (w.updSeq t _).updSeq t _) (fun _ _ => rfl) _ _ rfl) (fun _ _ => rfl)

theorem ranOn_tile (w : Work σ) {t : Nat} (ht : t < 32) (succ : Nat) :
    (ranOn w t succ).tile t = { w.tile t with seq := { w.seq t with cur := none, next := succ, run := (w.seq t).run + 1 } } := by
  have tile : ((w.updSeq t (fun q => { q with cur := none, next := succ })).updSeq t (fun q => { q with run := (w.seq t).run + 1 })).tile t =
      { w.tile t with seq := { w.seq t with cur := none, next := succ, run := (w.seq t).run + 1 } } := by
    rw [tile_updSeq _ _ _ ht, tile_updSeq _ _ _ ht, seq_updSeq _ _ _ ht]
  rw [ranOn]
  dsimp only
  split
  · exact tile
  · exact tile

theorem ranOn_rest (w : Work σ) (t succ : Nat) : (Quiet w → Quiet (ranOn w t succ)) ∧ (ranOn w t succ).dev.held = w.dev.held ∧
    ∀ v, v ≠ t → (ranOn w t succ).tile v = w.tile v := by
  have other : ∀ v, v ≠ t → ((w.updSeq t (fun q => { q with cur := none, next := succ })).updSeq t (fun q => { q with run := (w.seq t).run + 1 })).tile v =
      w.tile v := fun v hv => (tile_updTile_ne _ _ _ _ hv).trans (tile_updTile_ne _ _ _ _ hv)
  rw [ranOn]
  split
  · exact ⟨id, rfl, other⟩
  · exact ⟨id, rfl, other⟩

theorem finishWord_unmarked {w : Work σ} {t : Nat} {c : WordSt} (ht : t < 32) (lock : w.get DEV_STATUS_LOCKSTEP = 0) (whole : c.stepped = false)
    (plain : mwSafe c.word = false) (halt : (w.seq t).haltReq = false) (limit : (w.seq t).run + 1 ≤ w.get (SEQ_STARVE_LIMIT t)) :
    finishWord w t c = if mwSeq c.word = 8 then draining (ranOn w t c.succ) t CAUSE_HALT_OP c.addr c.succ else ranOn w t c.succ := by
  have ran : ((w.updSeq t (fun q => { q with cur := none, next := c.succ })).seq t).run = (w.seq t).run := by rw [seq_updSeq _ _ _ ht]
  have limit' : ¬(ranOn w t c.succ).get (SEQ_STARVE_LIMIT t) < (w.seq t).run + 1 := by
    rw [ranOn_writes w t c.succ _ (fun g hg => by rw [hg]; exact maxrun_apart ⟨t, ht⟩ _ (by simp))]
    omega
  have halt' : ¬((ranOn w t c.succ).seq t).haltReq = true := by
    rw [Work.seq, ranOn_tile w ht]
    exact fun h => Bool.false_ne_true (halt.symm.trans h)
  have lock' : (ranOn w t c.succ).get DEV_STATUS_LOCKSTEP = 0 :=
    (ranOn_writes w t c.succ _ (fun g hg => by rw [hg]; exact maxrun_apart ⟨t, ht⟩ _ (by simp))).trans lock
  simp only [finishWord, members_eq lock, each_one, whole, plain, ran, Bool.false_eq_true, if_false, false_and, Bool.not_false, true_and]
  rw [← drainSet_eq lock']
  exact (if_neg limit').trans (if_neg halt')

/-- The word of a tile at its end, with its successor. -/
def ended (c : WordSt) (a : Nat) : WordSt := { c with todo := [], waitFrom := none, succ := a % 4096 }

section

variable {s : State} {u : Fin 32} {c : WordSt} (stepping : Stepping s u c .seq []) (at_ : atSeq s.view u c = true)
include stepping

theorem chosen_seq (a : Nat) : (SuccessorProofs.chosen (popStep (Work.start s) u) u a).seq u =
    { (s.tile u).seq with cur := some (ended c a), starved := false } := by
  rw [SuccessorProofs.chosen, seq_updSeq _ _ _ u.isLt, popStep_seq s u u.isLt c .seq [] stepping]
  rfl

include at_

theorem seqStep_ends (a : Nat) (succ : successor (popStep (Work.start s) u) u c = some (a, popStep (Work.start s) u)) :
    seqStep (Work.start s) u (mwSeq c.word) = finishWord (SuccessorProofs.chosen (popStep (Work.start s) u) u a) u (ended c a) := by
  have lock : (SuccessorProofs.chosen (popStep (Work.start s) u) u a).get DEV_STATUS_LOCKSTEP = 0 := (get_popStep s u _).trans stepping.1
  rw [seqStep, doStep_acts s u c .seq [] stepping _ _ (by simpa using at_)]
  simp only [succ]
  exact settle_eq_finishWord lock u _ (congrArg SeqSt.cur (chosen_seq stepping a)) rfl

end

theorem successor_falls (s : State) (u : Nat) (c : WordSt) (op : mwSeq c.word = 8 ∨ mwSeq c.word = 0) :
    successor (popStep (Work.start s) u) u c = some (fallThrough s.view u c, popStep (Work.start s) u) := by
  rw [successor]
  rcases op with h | h <;> rw [h] <;> rfl

theorem drain_apart : ∀ t : Fin 32, (SEQ_STATE_STATE t).key ≠ (SEQ_HALT_INFO_CAUSE t).key ∧ (∀ g ∈ [SEQ_HALT_INFO_ADDR t, SEQ_RESTART t, SEQ_CTRL_STOP t,
    SEQ_STATE_STATE t], (SEQ_HALT_INFO_CAUSE t).key ≠ g.key) ∧ ∀ g ∈ [SEQ_CTRL_STOP t, SEQ_STATE_STATE t], (SEQ_RESTART t).key ≠ g.key := by decide +kernel

theorem draining_get (w : Work σ) (t : Fin 32) (cause addr restart : Nat) : (draining w t cause addr restart).get (SEQ_STATE_STATE t) = DRAINING ∧
    (draining w t cause addr restart).get (SEQ_HALT_INFO_CAUSE t) = cause % 16 ∧
    (draining w t cause addr restart).get (SEQ_RESTART t) = restart % 4096 := by
  obtain ⟨-, causeOff, restartOff⟩ := drain_apart t
  refine ⟨?_, ?_, ?_⟩
  · rw [draining, Work.get_set_self]
    rfl
  · rw [draining, Work.get_set_ne _ _ _ _ (causeOff _ (by simp)), Work.get_updSeq, Work.get_set_ne _ _ _ _ (causeOff _ (by simp)),
      Work.get_set_ne _ _ _ _ (causeOff _ (by simp)), Work.get_set_ne _ _ _ _ (causeOff _ (by simp)), Work.get_set_self]
    rfl
  · rw [draining, Work.get_set_ne _ _ _ _ (restartOff _ (by simp)), Work.get_updSeq, Work.get_set_ne _ _ _ _ (restartOff _ (by simp)), Work.get_set_self]
    rfl

/-- The registers of a drain. -/
def drainFlds (t : Nat) : List Fld :=
  [SEQ_STATE_STATE t, SEQ_HALT_INFO_CAUSE t, SEQ_HALT_INFO_ADDR t, SEQ_RESTART t, SEQ_CTRL_STOP t, SEQ_STARVE_MAXRUN t]

theorem updSeq_local {α : Type} {φ : Tile → α} (hφ : ∀ (x : Tile) (seq : SeqSt), φ { x with seq } = φ x) {K : Fld → Prop} {t : Nat} {w w' : Work σ}
    (h : TileLocal K t φ w w') (f : SeqSt → SeqSt) : TileLocal K t φ w (w'.updSeq t f) := h.updTile _ (fun x => hφ x _)

theorem draining_local (w : Work σ) (t cause addr restart : Nat) :
    TileLocal (· ∈ drainFlds t) t (fun _ => ()) w (draining w t cause addr restart) := by
  have marked : TileLocal (· ∈ drainFlds t) t (fun _ => ()) w
      ((((w.set (SEQ_HALT_INFO_CAUSE t) cause).set (SEQ_HALT_INFO_ADDR t) addr).set (SEQ_RESTART t) restart).set (SEQ_CTRL_STOP t) 0) := by
    refine TileLocal.set (TileLocal.set (TileLocal.set (TileLocal.set (TileLocal.refl w) _ _ ?_) _ _ ?_) _ _ ?_) _ _ ?_
    all_goals simp [drainFlds]
  exact (updSeq_local (fun _ _ => rfl) marked _).set _ _ (by simp [drainFlds])

/-- The ends of HALT and NEXT words that are not marked (R195, R224, R225). -/
theorem unmarked_ends {s : State} (hs : s.wf = true) {u : Fin 32} {c : WordSt} (stepping : Stepping s u c .seq []) (at_ : atSeq s.view u c = true)
    (whole : c.stepped = false) (plain : mwSafe c.word = false) (halt : (s.tile u).seq.haltReq = false)
    (limit : (s.tile u).seq.run + 1 ≤ s.get (SEQ_STARVE_LIMIT u)) :
    (mwSeq c.word = 8 → Answers (.seqHalt u) s (fun t => t.get (SEQ_STATE_STATE u) = DRAINING ∧
      t.get (SEQ_HALT_INFO_CAUSE u) = CAUSE_HALT_OP ∧ t.get (SEQ_RESTART u) = fallThrough s.view u c % 4096 ∧
      (t.tile u).seq.cur = none ∧ (t.tile u).seq.next = fallThrough s.view u c % 4096 ∧ t.dev.held = s.dev.held ∧
      (∀ v < 32, v ≠ u.val → t.tile v = s.tile v) ∧ Frame s t (drainFlds u))) ∧
    (mwSeq c.word = 0 → Answers (.seqNext u) s (fun t => (t.tile u).seq.cur = none ∧
      (t.tile u).seq.next = fallThrough s.view u c % 4096 ∧ (t.tile u).seq.run = (s.tile u).seq.run + 1 ∧ Frame s t [SEQ_STARVE_MAXRUN u])) := by
  have ends := fun op => seqStep_ends stepping at_ (fallThrough s.view u c) (successor_falls s u c op)
  have seq := chosen_seq stepping (fallThrough s.view u c)
  have regs : ∀ f, (SuccessorProofs.chosen (popStep (Work.start s) u) u (fallThrough s.view u c)).get f = s.get f := get_popStep s u
  have quiet : Quiet (SuccessorProofs.chosen (popStep (Work.start s) u) u (fallThrough s.view u c)) := popStep_quiet s u
  have held : (SuccessorProofs.chosen (popStep (Work.start s) u) u (fallThrough s.view u c)).dev.held = s.dev.held := popStep_held s u
  have others : ∀ v, v ≠ u.val → (SuccessorProofs.chosen (popStep (Work.start s) u) u (fallThrough s.view u c)).tile v = s.tile v :=
    fun v hv => (tile_updTile_ne _ _ _ _ hv).trans (tile_updTile_ne _ _ _ _ hv)
  generalize SuccessorProofs.chosen (popStep (Work.start s) u) u (fallThrough s.view u c) = w at *
  generalize fallThrough s.view u c = a at *
  have finish := finishWord_unmarked (w := w) (c := ended c a) u.isLt ((regs _).trans stepping.1) whole plain (by rw [seq]; exact halt)
    (by rw [seq, regs]; exact limit)
  have tile := ranOn_tile w u.isLt (ended c a).succ
  have writes := ranOn_writes w u (ended c a).succ
  obtain ⟨ranQuiet, ranHeld, ranOthers⟩ := ranOn_rest w u (ended c a).succ
  refine ⟨fun op => ?_, fun op => ?_⟩
  · have run := (ends (.inl op)).trans (finish.trans (if_pos op))
    rw [op] at run
    generalize ranOn w u (ended c a).succ = v at *
    obtain ⟨⟨drainGets, drainQuiet, -, -⟩, drainOthers, -⟩ := draining_local v u CAUSE_HALT_OP (ended c a).addr (ended c a).succ
    obtain ⟨state, cause, restart⟩ := draining_get v u CAUSE_HALT_OP (ended c a).addr (ended c a).succ
    have drained_ : (draining v u CAUSE_HALT_OP (ended c a).addr (ended c a).succ).tile u = { v.tile u with seq := { v.seq u with
        cur := none, next := (ended c a).succ } } := tile_updSeq _ u (fun q => { q with cur := none, next := (ended c a).succ }) u.isLt
    refine answers_of (F := fun w => seqStep w u 8) rfl run ⟨?_, ?_, ?_, congrArg (fun x : Tile => x.seq.cur) drained_,
      congrArg (fun x : Tile => x.seq.next) drained_, ?_, fun x _ hx => ?_, frame_finish hs (fun f hf => ?_) ?_⟩
    · rw [Work.finish_get _ _ hs, state]
    · rw [Work.finish_get _ _ hs, cause]
      rfl
    · rw [Work.finish_get _ _ hs, restart, ended, Nat.mod_mod]
    · exact ranHeld.trans held
    · exact (drainOthers x hx).trans ((ranOthers x hx).trans (others x hx))
    · rw [drainGets f hf, writes f (fun g hg => by rw [hg]; exact hf _ (by simp [drainFlds])), regs]
    · exact drainQuiet (ranQuiet quiet)
  · have run := (ends (.inr op)).trans (finish.trans (if_neg (by rw [show (ended c a).word = c.word from rfl, op]; decide)))
    rw [op] at run
    refine answers_of (F := fun w => seqStep w u 0) rfl run ⟨congrArg (fun x : Tile => x.seq.cur) tile, congrArg (fun x : Tile => x.seq.next) tile, ?_,
      frame_finish hs (fun f hf => ?_) (ranQuiet quiet)⟩
    · refine (congrArg (fun x : Tile => x.seq.run) tile).trans ?_
      rw [seq]
    · rw [writes f (fun g hg => by rw [hg]; exact hf _ List.mem_cons_self), regs]


/-! ## A vector (R220, R221) -/

/-- A vector's frame on the stack. -/
def pushed (w : Work σ) (t succ : Nat) : Work σ := (w.set (SEQ_STACK t (w.get (SEQ_SP t))) succ).set (SEQ_SP t) (w.get (SEQ_SP t) + 1)

/-- The generation that a vector hands to its program. -/
def handed (w : Work σ) (t gen : Nat) : Work σ := (w.set (EVPORT_GEN_CUR t) gen).set (EVPORT_GEN_CUR_VALID t) 1

/-- A tile in the routine of vector i. -/
def inRoutine (i : Nat) (w : Work σ) (m : Nat) : Work σ :=
  ((w.set (SEQ_STATE_ACTIVE m) 1).set (SEQ_STATE_VEC m) i).set (EVPORT_PEND_GEN_SET m (i / 8) (i % 8)) 0

/-- The registers of a vector taken outside lockstep. -/
def routine (w : Work σ) (t i succ gen : Nat) : Work σ := (inRoutine i (handed (pushed w t succ) t gen) t).inc (SEQ_ATTN_COUNT_TAKEN t)

/-- The word of a tile sent to the routine at a. -/
def sentTo (w : Work σ) (t depth a : Nat) : Work σ := w.updSeq t (fun s => { s with
  vecDepth := depth, cur := s.cur.map (fun c => { c with succ := a }) })

theorem takeVector_def (w : Work σ) (t i succ : Nat) : takeVector w t i succ =
    let v := handed (pushed w t succ) t (vectorGen (pushed w t succ) t i)
    let v' := v.each (members v t) (inRoutine i)
    sentTo (v'.inc (SEQ_ATTN_COUNT_TAKEN t)) t (w.get (SEQ_SP t) + 1) (v'.get (SEQ_VEC t i)) := rfl

/-- The registers of a vector. -/
def vectorFlds (t d i : Nat) : List Fld := [SEQ_STACK t d, SEQ_SP t, EVPORT_GEN_CUR t, EVPORT_GEN_CUR_VALID t, SEQ_STATE_ACTIVE t, SEQ_STATE_VEC t,
  EVPORT_PEND_GEN_SET t (i / 8) (i % 8), SEQ_ATTN_COUNT_TAKEN t]

theorem routine_writes (w : Work σ) (t i succ gen : Nat) : Writes (· ∈ vectorFlds t (w.get (SEQ_SP t)) i) w (routine w t i succ gen) := by
  rw [routine, inRoutine, handed, pushed]
  refine Writes.inc (Writes.set (Writes.set (Writes.set (Writes.set (Writes.set (Writes.set (Writes.set (Writes.refl w) _ _ ?_) _ _ ?_) _ _ ?_) _ _ ?_) _ _ ?_)
    _ _ ?_) _ _ ?_) _ ?_
  all_goals simp [vectorFlds]

theorem vector_apart {t d i : Nat} (ht : t < 32) (hd : d ≤ 15) (hi : i < 16) : ∀ f ∈ [DEV_STATUS_LOCKSTEP, SEQ_VEC t i, SEQ_CTRL_STOP t], ∀ g ∈ vectorFlds t d i,
    f.key ≠ g.key := by
  simp only [vectorFlds, List.mem_cons, List.not_mem_nil, or_false, forall_eq_or_imp, forall_eq, Fld.key, DEV_STATUS_LOCKSTEP, SEQ_VEC, SEQ_CTRL_STOP, SEQ_STACK,
    SEQ_SP, EVPORT_GEN_CUR, EVPORT_GEN_CUR_VALID, SEQ_STATE_ACTIVE, SEQ_STATE_VEC, EVPORT_PEND_GEN_SET, SEQ_ATTN_COUNT_TAKEN, tileBase]
  omega

/-- What a vector shows. -/
theorem routine_get (w : Work σ) {t i : Nat} (succ gen : Nat) (hd : w.get (SEQ_SP t) ≤ 15) :
    (routine w t i succ gen).get (SEQ_SP t) = w.get (SEQ_SP t) + 1 ∧
    (routine w t i succ gen).get (SEQ_STACK t (w.get (SEQ_SP t))) = succ % 4096 ∧
    (routine w t i succ gen).get (SEQ_STATE_ACTIVE t) = 1 ∧ (routine w t i succ gen).get (SEQ_STATE_VEC t) = i % 16 ∧
    (routine w t i succ gen).get (EVPORT_PEND_GEN_SET t (i / 8) (i % 8)) = 0 ∧
    (routine w t i succ gen).get (SEQ_ATTN_COUNT_TAKEN t) = min (2 ^ (SEQ_ATTN_COUNT_TAKEN t).width - 1) (w.get (SEQ_ATTN_COUNT_TAKEN t) + 1) := by
  rw [routine, inRoutine, handed, pushed]
  generalize hsp : w.get (SEQ_SP t) = d at *
  refine ⟨?_, ?_, ?_, ?_, ?_, ?_⟩ <;>
    simp (disch := (simp only [ne_eq, Fld.key, SEQ_STACK, SEQ_SP, EVPORT_GEN_CUR, EVPORT_GEN_CUR_VALID, SEQ_STATE_ACTIVE, SEQ_STATE_VEC, EVPORT_PEND_GEN_SET,
      SEQ_ATTN_COUNT_TAKEN, tileBase]; omega)) only [Work.get_inc_ne, get_inc, Work.get_set_ne, Work.get_set_self]
  · exact Nat.mod_eq_of_lt (lt_of_le_of_lt (Nat.succ_le_succ hd) (by simp [SEQ_SP]))
  · rfl
  · rfl
  · rfl
  · rfl

theorem takeVector_eq {w : Work σ} {t i : Nat} (ht : t < 32) (lock : w.get DEV_STATUS_LOCKSTEP = 0) (hd : w.get (SEQ_SP t) ≤ 15) (hi : i < 16) (succ : Nat) :
    ∃ gen, takeVector w t i succ = sentTo (routine w t i succ gen) t (w.get (SEQ_SP t) + 1) (w.get (SEQ_VEC t i)) := by
  refine ⟨vectorGen (pushed w t succ) t i, ?_⟩
  have apart := vector_apart ht hd hi
  have first : Writes (· ∈ vectorFlds t (w.get (SEQ_SP t)) i) w (handed (pushed w t succ) t (vectorGen (pushed w t succ) t i)) := by
    rw [handed, pushed]
    refine Writes.set (Writes.set (Writes.set (Writes.set (Writes.refl w) _ _ ?_) _ _ ?_) _ _ ?_) _ _ ?_
    all_goals simp [vectorFlds]
  have last : Writes (· ∈ vectorFlds t (w.get (SEQ_SP t)) i) w (inRoutine i (handed (pushed w t succ) t (vectorGen (pushed w t succ) t i)) t) := by
    rw [inRoutine]
    refine Writes.set (Writes.set (Writes.set first _ _ ?_) _ _ ?_) _ _ ?_
    all_goals simp [vectorFlds]
  rw [takeVector_def]
  simp only [members_eq ((first _ (apart _ (by simp))).trans lock), each_one, last _ (apart (SEQ_VEC t i) (by simp))]
  rfl


theorem sentTo_seq (w : Work σ) {t : Nat} (ht : t < 32) (depth a : Nat) : (sentTo w t depth a).seq t =
    { w.seq t with vecDepth := depth, cur := (w.seq t).cur.map (fun c => { c with succ := a }) } := seq_updSeq _ _ _ ht

theorem routine_dev (w : Work σ) (t i succ gen : Nat) : (routine w t i succ gen).dev = w.dev := by
  rw [routine, inRoutine, handed, pushed]
  rfl

theorem routine_quiet {w : Work σ} (quiet : Quiet w) (t i succ gen : Nat) : Quiet (routine w t i succ gen) := by
  rw [routine, inRoutine, handed, pushed]
  exact quiet

theorem attention_lt {w : Work σ} {t i : Nat} (h : attention w t = some i) : i < 16 := List.mem_range.1 (List.mem_of_find?_eq_some h)

/-- The registers of a word that a safe word's vector sends on are those of the routine (R220). -/
theorem safe_ends {s : State} {u : Fin 32} {c : WordSt} {i : Nat} (stepping : Stepping s u c .safe []) (attends : attention s.view u = some i)
    (run : s.get (SEQ_STATE_STATE u) = RUN) (whole : c.stepped = false) (op : mwSeq c.word ≠ 8) (calm : s.get (SEQ_STATE_ACTIVE u) = 0)
    (room : s.get (SEQ_SP u) ≤ 15) (safe : mwSafe c.word = true) (halt : (s.tile u).seq.haltReq = false) (stop : s.get (SEQ_CTRL_STOP u) = 0) :
    ∃ gen, doStep (Work.start s) u (fun _ s => decide (s = .safe)) (fun w c => safePoint w u c) =
      ((sentTo (routine (popStep (Work.start s) u) u i c.succ gen) u (s.get (SEQ_SP u) + 1) (s.get (SEQ_VEC u i))).updSeq u (fun q => { q with
        cur := none, next := s.get (SEQ_VEC u i) })).updSeq u (fun q => { q with run := 0 }) := by
  have small := attention_lt attends
  have regs : ∀ f, (popStep (Work.start s) u).get f = s.get f := get_popStep s u
  have cur := popStep_cur s u u.isLt c .safe [] stepping
  have seq := popStep_seq s u u.isLt c .safe [] stepping
  have attends' : attention (popStep (Work.start s) u) u = some i := attends
  have acts := doStep_acts s u c .safe [] stepping (fun _ s => decide (s = .safe)) (fun w c => safePoint w u c) rfl
  generalize popStep (Work.start s) u = w at *
  obtain ⟨gen, taken⟩ := takeVector_eq u.isLt ((regs _).trans stepping.1) (by rw [regs]; exact room) small c.succ
  have calm' : w.on (SEQ_STATE_ACTIVE u) = false := by
    rw [on_eq, regs, calm]
    rfl
  have point : safePoint w u c = takeVector w u i c.succ := by
    rw [safePoint, attends', if_neg (by rw [regs, run, whole, calm']; simpa using op)]
    exact if_pos (by rw [regs]; exact room)
  have apart := vector_apart u.isLt (show w.get (SEQ_SP u) ≤ 15 by rw [regs]; exact room) small
  have writes := routine_writes w u i c.succ gen
  have kept : ∀ f ∈ [DEV_STATUS_LOCKSTEP, SEQ_VEC u i, SEQ_CTRL_STOP u], (routine w u i c.succ gen).get f = s.get f := fun f hf =>
    (writes f (apart f hf)).trans (regs f)
  have seq' : (routine w u i c.succ gen).seq u = w.seq u := congrArg (fun d : Dev => (vget d.tiles Tile.reset u).seq) (routine_dev w u i c.succ gen)
  refine ⟨gen, acts.trans ?_⟩
  rw [point, taken, regs, regs]
  generalize routine w u i c.succ gen = v at *
  have sent := sentTo_seq v u.isLt (s.get (SEQ_SP u) + 1) (s.get (SEQ_VEC u i))
  have lock : (sentTo v u (s.get (SEQ_SP u) + 1) (s.get (SEQ_VEC u i))).get DEV_STATUS_LOCKSTEP = 0 := (kept _ (by simp)).trans stepping.1
  have stop' : (sentTo v u (s.get (SEQ_SP u) + 1) (s.get (SEQ_VEC u i))).get (SEQ_CTRL_STOP u) = 0 := (kept _ (by simp)).trans stop
  have cur' : ((sentTo v u (s.get (SEQ_SP u) + 1) (s.get (SEQ_VEC u i))).seq u).cur =
      some { c with todo := [], waitFrom := none, succ := s.get (SEQ_VEC u i) } := by
    rw [sent, seq', cur]
    rfl
  generalize sentTo v u (s.get (SEQ_SP u) + 1) (s.get (SEQ_VEC u i)) = v' at *
  rw [settle_eq_finishWord lock u _ cur' rfl]
  exact SwapProofs.finishWord_next lock safe whole op u.isLt (by rw [sent, seq', seq]; exact halt) stop'

theorem safe_clause {s : State} (hs : s.wf = true) {u : Fin 32} {c : WordSt} {i : Nat} (stepping : Stepping s u c .safe [])
    (attends : attention s.view u = some i) (run : s.get (SEQ_STATE_STATE u) = RUN) (whole : c.stepped = false) (op : mwSeq c.word ≠ 8)
    (calm : s.get (SEQ_STATE_ACTIVE u) = 0) (room : s.get (SEQ_SP u) ≤ 15) (safe : mwSafe c.word = true)
    (halt : (s.tile u).seq.haltReq = false) (stop : s.get (SEQ_CTRL_STOP u) = 0) :
    Answers (.safe u) s (fun t => t.get (SEQ_SP u) = s.get (SEQ_SP u) + 1 ∧
      t.get (SEQ_STACK u (s.get (SEQ_SP u))) = c.succ % 2 ^ (SEQ_STACK u 0).width ∧ t.get (SEQ_STATE_ACTIVE u) = 1 ∧
      t.get (SEQ_STATE_VEC u) = i % 16 ∧ (t.tile u).seq.next = s.get (SEQ_VEC u i) ∧
      t.get (EVPORT_PEND_GEN_SET u (i / 8) (i % 8)) = 0 ∧ Counted s t (SEQ_ATTN_COUNT_TAKEN u) ∧ t.dev.held = s.dev.held ∧
      Frame s t (vectorFlds u (s.get (SEQ_SP u)) i)) := by
  obtain ⟨gen, ends⟩ := safe_ends stepping attends run whole op calm room safe halt stop
  have regs : ∀ f, (popStep (Work.start s) u).get f = s.get f := get_popStep s u
  have held := popStep_held s u
  have quiet := popStep_quiet s u
  generalize popStep (Work.start s) u = w at *
  obtain ⟨sp, stack, active, vec, pend, taken⟩ := routine_get w (i := i) c.succ gen (show w.get (SEQ_SP u) ≤ 15 by rw [regs]; exact room)
  have writes := routine_writes w u i c.succ gen
  have held' : (routine w u i c.succ gen).dev.held = s.dev.held := (congrArg Dev.held (routine_dev w u i c.succ gen)).trans held
  have quiet' := routine_quiet quiet u i c.succ gen
  rw [regs] at sp stack taken writes
  generalize routine w u i c.succ gen = v at *
  refine answers_of (F := fun w => doStep w u (fun _ s => decide (s = .safe)) (fun w c => safePoint w u c)) rfl ends
    ⟨(Work.finish_get _ _ hs).trans sp, (Work.finish_get _ _ hs).trans stack, (Work.finish_get _ _ hs).trans active,
      (Work.finish_get _ _ hs).trans vec, ?_, (Work.finish_get _ _ hs).trans pend, (Work.finish_get _ _ hs).trans taken, held',
      frame_finish hs (fun f hf => (writes f hf).trans (regs f)) quiet'⟩
  have last := tile_updSeq ((sentTo v u (s.get (SEQ_SP u) + 1) (s.get (SEQ_VEC u i))).updSeq u (fun q => { q with
    cur := none, next := s.get (SEQ_VEC u i) })) u (fun q => { q with run := 0 }) u.isLt
  rw [seq_updSeq _ u _ u.isLt] at last
  exact congrArg (fun x : Tile => x.seq.next) last

/-! ## Step 2 of an ABORT word, and a fence that has resolved (R54, R171) -/

/-- The registers of an abort. -/
def abortFlds (t : Nat) : List Fld := [CLASP_ABORT_CTRL_BUSY t, CLASP_ABORT_CTRL_GEN t, ABORT_E t]

theorem Writes.updTile {K : Fld → Prop} {w v : Work σ} (h : Writes K w v) (t : Nat) (f : Tile → Tile) : Writes K w (v.updTile t f) := h

theorem aborted_writes (w : Work σ) (t gen e : Nat) : Writes (· ∈ abortFlds t) w (aborted w t gen e) := by
  rw [aborted]
  refine Writes.updTile (Writes.set (Writes.set (Writes.set (Writes.refl w) _ _ ?_) _ _ ?_) _ _ ?_) _ _
  all_goals simp only [abortFlds, List.mem_cons, true_or, or_true]

/-- The registers that an abort writes. -/
theorem abortFrom_writes (w : Work σ) (t f : Nat) : Writes (· ∈ abortFlds t) w (abortFrom w t f) := by
  obtain ⟨⟨gets, -⟩, -⟩ := discardFrom_local w t (abortFrame w f)
  rw [abortFrom_eq]
  generalize discardFrom w t (abortFrame w f) = v at *
  exact fun g hg => (aborted_writes v t _ _ g hg).trans (gets g (fun _ h => h.elim))

/-- The stamp of an ABORT word is the frame of its abort. -/
def abortStamped (w : Work σ) (t f : Nat) : Work σ :=
  (abortFrom w t f).updSeq t (fun s => { s with cur := s.cur.map (fun c => { c with stamp := abortFrame w f }) })

theorem abortStamped_keeps {w : Work σ} {t : Nat} (keeps : Keeps w (abortFlds t)) (f : Nat) : Keeps (abortStamped w t f) (abortFlds t) := by
  rw [abortStamped, keeps_updSeq]
  exact fun g hg => (abortFrom_writes w t f g hg).trans (keeps g hg)

theorem abortStamped_quiet {w : Work σ} (quiet : Quiet w) (t f : Nat) : Quiet (abortStamped w t f) := by
  obtain ⟨⟨-, quiet', -⟩, -⟩ := discardFrom_local w t (abortFrame w f)
  rw [abortStamped, quiet_updSeq, abortFrom_eq]
  generalize discardFrom w t (abortFrame w f) = v at *
  exact quiet' quiet

theorem abortStamped_seq (w : Work σ) {t : Nat} (ht : t < 32) (f : Nat) : (abortStamped w t f).seq t = { w.seq t with
    cursor := abortFrame w f, cur := (w.seq t).cur.map (fun c => { c with stamp := abortFrame w f }) } := by
  have seq : (abortFrom w t f).seq t = { w.seq t with cursor := abortFrame w f } := by
    rw [abortFrom_eq, Work.seq, aborted_tile _ ht]
    exact congrArg (fun q : SeqSt => { q with cursor := abortFrame w f }) (discardFrom_tile w ht _).1
  rw [abortStamped, seq_updSeq _ _ _ ht, seq]

theorem abortStamped_get (w : Work σ) (t : Fin 32) (f : Nat) : (abortStamped w t f).get (CLASP_ABORT_CTRL_BUSY t) = 1 ∧
    (abortStamped w t f).get (ABORT_E t) = abortFrame w f % 2 ^ 64 := by
  obtain ⟨-, busy, e⟩ := aborted_get (discardFrom w t (abortFrame w f)) t ((discardFrom w t (abortFrame w f)).get (CLASP_ABORT_CTRL_GEN t)) (abortFrame w f)
  rw [abortStamped, Work.get_updSeq, Work.get_updSeq, abortFrom_eq]
  exact ⟨busy, e⟩

theorem abortStep_run {s : State} {u : Nat} {c : WordSt} {rest : List WStep} (stepping : Stepping s u c .abort rest) :
    (match ((Work.start s).seq u).cur with
      | some c => if c.todo.head? = some .abort then abortStep (Work.start s) u else seqStep (Work.start s) u 0x9
      | none => Work.start s) = abortStep (Work.start s) u := by
  obtain ⟨-, cur, todo, -⟩ := stepping
  have cur' : ((Work.start s).seq u).cur = some c := cur
  rw [cur']
  exact if_pos (by rw [todo]; rfl)

theorem abort_addr (u : Nat) : ∀ g ∈ abortFlds u, 0x2000 ≤ g.addr := by
  simp only [abortFlds, List.mem_cons, List.not_mem_nil, or_false, forall_eq_or_imp, forall_eq, CLASP_ABORT_CTRL_BUSY, CLASP_ABORT_CTRL_GEN, ABORT_E, hid, tileBase]
  omega

theorem abortWord_clause {s : State} (hs : s.wf = true) {u : Fin 32} {c : WordSt} {rest : List WStep} (stepping : Stepping s u c .abort rest) (more : rest ≠ []) :
    Answers (.seqAbort u) s (fun t =>
      Stepped t u { c with stamp := abortFrame s.view ((s.tile u).seq.cursor + mwDt c.word) } rest ∧
      (t.tile u).seq.cursor = abortFrame s.view ((s.tile u).seq.cursor + mwDt c.word) ∧
      t.get (CLASP_ABORT_CTRL_BUSY u) = 1 ∧ t.get (ABORT_E u) = abortFrame s.view ((s.tile u).seq.cursor + mwDt c.word) % 2 ^ 64 ∧
      Frame s t (abortFlds u ++ waitFlds u)) := by
  have lock : (popStep (Work.start s) u).get DEV_STATUS_LOCKSTEP = 0 := (get_popStep s u _).trans stepping.1
  have seq := popStep_seq s u u.isLt c .abort rest stepping
  have cursor : ((popStep (Work.start s) u).seq u).cursor = (s.tile u).seq.cursor := by rw [seq]
  have keeps := popStep_keeps s u (abortFlds u)
  have quiet := popStep_quiet s u
  have frame : abortFrame (popStep (Work.start s) u) ((s.tile u).seq.cursor + mwDt c.word) = abortFrame s.view ((s.tile u).seq.cursor + mwDt c.word) := rfl
  have body : (popStep (Work.start s) u).each (members (popStep (Work.start s) u) u) (fun w m => abortStamped w m (((popStep (Work.start s) u).seq u).cursor + mwDt c.word)) =
      abortStamped (popStep (Work.start s) u) u ((s.tile u).seq.cursor + mwDt c.word) := by
    rw [members_eq lock, each_one, cursor]
  have next := doStep_next s u u.isLt c .abort rest stepping (fun _ s => decide (s = .abort)) (fun w c => w.each (members w u) (fun w' m =>
    abortStamped w' m ((w.seq u).cursor + mwDt c.word))) rfl _ body
  generalize popStep (Work.start s) u = w at *
  generalize (s.tile u).seq.cursor + mwDt c.word = f at *
  obtain ⟨busy, e⟩ := abortStamped_get w u f
  have stamped := abortStamped_seq w u.isLt f
  have keeps' := abortStamped_keeps keeps f
  have quiet' := abortStamped_quiet quiet u f
  rw [frame] at e stamped
  generalize abortStamped w u f = v at *
  generalize abortFrame s.view f = e0 at *
  obtain ⟨w', run, waited⟩ := next ((keeps' _ (fun g hg => lockstep_apart g (abort_addr u g hg))).trans stepping.1)
    { c with todo := rest, waitFrom := none, stamp := e0 } (by rw [stamped, seq]; rfl) more
  obtain ⟨n, cur⟩ := waited.2.1
  refine answers_of (F := fun w => match (w.seq u).cur with
      | some c => if c.todo.head? = some .abort then abortStep w u else seqStep w u 0x9
      | none => w) rfl ((abortStep_run stepping).trans run) ⟨⟨n, cur⟩, ?_, ?_, ?_, waited.frame hs (keeps'.mono (List.subset_append_left _ _)) (List.subset_append_right _ _) quiet'⟩
  · have kept : (w'.seq u).cursor = (v.seq u).cursor := waited.tile (fun x => x.seq.cursor) (fun _ => rfl)
    exact kept.trans (by rw [stamped])
  · refine (Work.finish_get _ _ hs).trans ((waited.get _ (apart_waitFlds u _ ?_ ?_)).trans busy)
    · simp [CLASP_ABORT_CTRL_BUSY]
    · simp [CLASP_ABORT_CTRL_BUSY]
  · refine (Work.finish_get _ _ hs).trans ((waited.get _ (apart_waitFlds u _ ?_ ?_)).trans e)
    · simp [ABORT_E, hid]
    · simp only [ABORT_E, hid, tileBase]
      omega

/-- A fence that its word reaches resolved does not wait. -/
theorem noteWait_met {w : Work σ} {u : Nat} {c : WordSt} (lock : w.get DEV_STATUS_LOCKSTEP = 0) (cur : (w.seq u).cur = some c)
    (met : fenceMet w u (mwDid c.word) = true) (idle : w.get (FB_FENCE_WAITING u) = 0) : (noteWait w u).get (FB_FENCE_WAITING u) = 0 := by
  have apart : (FB_FENCE_WAITING u).key ≠ (FB_FENCE_DID u).key := by simp [Fld.key, FB_FENCE_WAITING, FB_FENCE_DID]
  simp only [noteWait, cur, heldBack_eq lock, Bool.false_eq_true, if_false]
  split
  · rw [Work.get_set_ne _ _ _ _ apart, Work.setB, Work.get_set_self, met]
    rfl
  · split
    · exact idle
    · exact idle
  · split
    · exact idle
    · exact idle
  · exact idle

theorem wait_addr (u : Nat) : ∀ g ∈ waitFlds u, 0x2000 ≤ g.addr := by
  simp only [waitFlds, List.mem_cons, List.not_mem_nil, or_false, forall_eq_or_imp, forall_eq, FB_FENCE_WAITING, FB_FENCE_DID, tileBase]
  omega

theorem fence_clause {s : State} (hs : s.wf = true) {u : Fin 32} {c : WordSt} {rest : List WStep} (stepping : Stepping s u c .fence rest) (more : rest ≠ []) :
    Answers (.fence u) s (fun t => Stepped t u c rest ∧ t.get (FB_FENCE_WAITING u) = 0 ∧ Frame s t (waitFlds u)) := by
  have met : fenceMet s.view u (mwDid c.word) = true := by
    have ready := stepping.2.2.2
    simp only [stepStalled, Bool.or_eq_false_iff, Bool.not_eq_false'] at ready
    exact ready.2
  have apart : (WATCH_STATUS_RESOLVED u (mwDid c.word)).key ≠ (FB_FENCE_WAITING u).key := by
    simp only [Fld.key, WATCH_STATUS_RESOLVED, FB_FENCE_WAITING]
    omega
  have met' : fenceMet ((popStep (Work.start s) u).set (FB_FENCE_WAITING u) 0) u (mwDid c.word) = true := by
    have arms : (((popStep (Work.start s) u).set (FB_FENCE_WAITING u) 0).tile u).arms = (s.tile u).arms :=
      popStep_tile s u u.isLt Tile.arms (fun _ _ => rfl)
    rw [← met, fenceMet, resolvedNow, Work.on, Work.get_set_ne _ _ _ _ apart, get_popStep, arms]
    rfl
  have cur := popStep_cur s u u.isLt c .fence rest stepping
  have keeps := popStep_keeps s u (waitFlds u)
  have quiet := popStep_quiet s u
  have acts := doStep_acts s u c .fence rest stepping (fun _ s => decide (s = .fence)) (fun w _ => w.set (FB_FENCE_WAITING u) 0) rfl
  generalize popStep (Work.start s) u = w at *
  have zero : (w.set (FB_FENCE_WAITING u) 0).get (FB_FENCE_WAITING u) = 0 := Work.get_set_self _ _ _
  have keeps' : Keeps (w.set (FB_FENCE_WAITING u) 0) (waitFlds u) := (keeps_set w _ _ _ (by simp [waitFlds])).2 keeps
  have cur' : ((w.set (FB_FENCE_WAITING u) 0).seq u).cur = some { c with todo := rest, waitFrom := none } := cur
  have quiet' : Quiet (w.set (FB_FENCE_WAITING u) 0) := quiet
  generalize w.set (FB_FENCE_WAITING u) 0 = v at *
  have lock : v.get DEV_STATUS_LOCKSTEP = 0 := (keeps' _ (fun g hg => lockstep_apart g (wait_addr u g hg))).trans stepping.1
  have waited := noteWait_waited v u _ u.isLt lock cur'
  refine answers_of (F := fun w => doStep w u (fun _ s => decide (s = .fence)) (fun w _ => w.set (FB_FENCE_WAITING u) 0)) rfl
    (acts.trans (settle_eq_noteWait lock u _ cur' more)) ⟨waited.2.1, (Work.finish_get _ _ hs).trans ?_, waited.frame hs keeps' (List.Subset.refl _) quiet'⟩
  exact noteWait_met lock cur' met' zero

theorem wordEnds : Clause.WordEnds := by
  intro s hs u c
  refine ⟨?_, fun i stepping attends run whole op calm room safe halt stop => safe_clause hs stepping attends run whole op calm room safe halt stop,
    fun rest stepping more _ => abortWord_clause hs stepping more, fun rest stepping more => fence_clause hs stepping more⟩
  rintro after rfl stepping at_ whole plain halt limit
  exact unmarked_ends hs stepping at_ whole plain halt limit

/-- Settles O20: a word from its fetch to its end. -/
theorem words : Obligations.Words := ⟨wordsIssue, badWordsCut, wordEnds⟩

end Sys2Proof.WordProofs
end

section
/-! PROOFS. An entry that arrives at its clasp while the acquisition unit takes samples and a step of the ADC's calibration runs: the step ends
with the arrival (R453), though no WINDOW lies ahead. -/

namespace Sys2Proof.SampledCal

open Sys2Proof.Machine Sys2Proof.Outsized Sys2Proof.FarRound

-- A kernel evaluation waits for every declaration before it: one at a time keeps the threads that wait, and their stacks, few.
set_option Elab.async false

/-- A STOP of tone engine 0, far ahead. -/
def stopEntry : Staged := ⟨⟨100, 0, KSTOP, 0, 0, false, false, false, 0, 0, 0, 0⟩, .queue 0, false, none⟩

/-- It is staged at tile 0, which runs and takes samples while a step of its ADC's calibration runs. -/
def samplingState : State :=
  holding [(SEQ_STATE_STATE 0, RUN), (ADC_CAL_RUNNING 0, 1), (CAP_STATE_STATE 0, 1)] (withTile 0 (fun x => { x with stage := [stopEntry] }))

theorem sampling_ready : Ready samplingState 0 0 stopEntry := by
  unfold Ready
  decide +kernel

/-- No clasp of the tile holds a unit. -/
theorem sampling_idle : noneSelectable samplingState 0 := by
  intro d hd i hi
  have none_held : ∀ d < 33, (samplingState.view.clasp 0 d).items = [] := by decide +kernel
  rw [none_held d hd] at hi
  exact absurd hi List.not_mem_nil

theorem sampling_unused : orderRef (samplingState.view.clasp 0 0) = none := by decide +kernel

theorem not_claspAdmits : ¬ Clause.ClaspAdmits := by
  intro h
  have admitted := h samplingState (by decide +kernel) 0 0 stopEntry sampling_ready (by decide +kernel) rfl rfl (by decide +kernel) sampling_idle
    (by decide +kernel) (fun r hr => absurd (sampling_unused.symm.trans hr) (Option.some_ne_none r).symm)
  obtain ⟨-, -, -, -, -, -, running, -⟩ := after_of_answers admitted
  rw [after_get (F := fun w => calMeets (selectEarly (claspAdmit w 0 0) 0) 0) (by decide +kernel) rfl] at running
  exact absurd running (by decide +kernel)

/-- Refutes O11: ADC.CAL.RUNNING is 0 behind the arrival of a STOP. -/
theorem not_claspAdmission : ¬ Obligations.ClaspAdmission := fun ⟨h, _⟩ => not_claspAdmits h

end Sys2Proof.SampledCal
end

section
/-! PROOFS. Paged PLAYs and their page buffers (R47, R72 to R74, R401). -/

namespace Sys2Proof.PageProofs

open Sys2Proof.Machine Sys2Proof.Effects Sys2Proof.SeqFacts Sys2Proof.RejectFacts Sys2Proof.TakeProofs Sys2Proof.LaneWorks Sys2Proof.AbortProofs Sys2Proof.BroadcastFacts

-- A kernel evaluation waits for every declaration before it: one at a time keeps the threads that wait, and their stacks, few.
set_option Elab.async false

variable {σ : State}

/-! ## A fault of a clasp (R47, R58) -/

/-- The registers of a fault that has been counted, before its source fires. -/
def claimed (w : Work σ) (t c cause kind : Nat) (margin : Int) (stamp : Nat) : Work σ :=
  if (w.inc (CLASP_UNDERRUN t)).on (CLASP_FIRST_VALID t) then w.inc (CLASP_UNDERRUN t)
  else recordFirst (w.inc (CLASP_UNDERRUN t)) t c cause kind margin stamp

theorem claspFault_eq (w : Work σ) (t c cause : Nat) (e : Entry) (margin : Int) :
    claspFault w t c cause e margin = (claimed w t c cause e.kind margin e.stamp).fire (tileSrc t 2) := rfl

theorem recordFirst_writes (w : Work σ) (t c cause kind : Nat) (margin : Int) (stamp : Nat) :
    TileWork (· ∈ faultFlds t) w (recordFirst w t c cause kind margin stamp) := by
  rw [recordFirst]
  refine TileWork.set (TileWork.set (TileWork.set (TileWork.set (TileWork.set (TileWork.set (TileWork.set (TileWork.refl w) _ _ ?_) _ _ ?_) _ _ ?_) _ _ ?_) _ _ ?_)
    _ _ ?_) _ _ ?_
  all_goals simp [faultFlds]

theorem claimed_writes (w : Work σ) (t c cause kind : Nat) (margin : Int) (stamp : Nat) :
    TileWork (· ∈ faultFlds t) w (claimed w t c cause kind margin stamp) := by
  have counted : TileWork (· ∈ faultFlds t) w (w.inc (CLASP_UNDERRUN t)) := (TileWork.refl w).set _ _ (by simp [faultFlds])
  rw [claimed]
  split
  · exact counted
  · exact tileWork_trans counted (recordFirst_writes _ _ _ _ _ _ _)

theorem claimed_dev (w : Work σ) (t c cause kind : Nat) (margin : Int) (stamp : Nat) : (claimed w t c cause kind margin stamp).dev = w.dev := by
  rw [claimed]
  split
  · rfl
  · rfl

theorem fault_apart : ∀ t : Fin 32, (∀ g ∈ [CLASP_FIRST_VALID t, CLASP_FIRST_CAUSE t, CLASP_FIRST_CLASP t, CLASP_FIRST_KIND t, CLASP_FIRST_MARGIN t,
    CLASP_FIRST_STAMP_LO t, CLASP_FIRST_STAMP_HI t], (CLASP_UNDERRUN t).key ≠ g.key) ∧
    (∀ g ∈ [CLASP_FIRST_CAUSE t, CLASP_FIRST_CLASP t, CLASP_FIRST_KIND t, CLASP_FIRST_MARGIN t, CLASP_FIRST_STAMP_LO t, CLASP_FIRST_STAMP_HI t],
      (CLASP_FIRST_VALID t).key ≠ g.key) ∧
    ∀ g ∈ [CLASP_FIRST_CLASP t, CLASP_FIRST_KIND t, CLASP_FIRST_MARGIN t, CLASP_FIRST_STAMP_LO t, CLASP_FIRST_STAMP_HI t],
      (CLASP_FIRST_CAUSE t).key ≠ g.key := by decide +kernel

theorem recordFirst_get (w : Work σ) (t : Fin 32) (c cause kind : Nat) (margin : Int) (stamp : Nat) :
    (recordFirst w t c cause kind margin stamp).get (CLASP_UNDERRUN t) = w.get (CLASP_UNDERRUN t) ∧
    (recordFirst w t c cause kind margin stamp).get (CLASP_FIRST_VALID t) = 1 ∧
    (recordFirst w t c cause kind margin stamp).get (CLASP_FIRST_CAUSE t) = cause % 4 := by
  obtain ⟨underrun, valid, causes⟩ := fault_apart t
  simp only [List.mem_cons, List.not_mem_nil, or_false, forall_eq_or_imp, forall_eq] at underrun valid causes
  obtain ⟨u1, u2, u3, u4, u5, u6, u7⟩ := underrun
  obtain ⟨v1, v2, v3, v4, v5, v6⟩ := valid
  obtain ⟨c1, c2, c3, c4, c5⟩ := causes
  refine ⟨?_, ?_, ?_⟩
  · rw [recordFirst, Work.get_set_ne _ _ _ _ u7, Work.get_set_ne _ _ _ _ u6, Work.get_set_ne _ _ _ _ u5, Work.get_set_ne _ _ _ _ u4, Work.get_set_ne _ _ _ _ u3,
      Work.get_set_ne _ _ _ _ u2, Work.get_set_ne _ _ _ _ u1]
  · rw [recordFirst, Work.get_set_ne _ _ _ _ v6, Work.get_set_ne _ _ _ _ v5, Work.get_set_ne _ _ _ _ v4, Work.get_set_ne _ _ _ _ v3, Work.get_set_ne _ _ _ _ v2,
      Work.get_set_ne _ _ _ _ v1, Work.get_set_self]
    rfl
  · rw [recordFirst, Work.get_set_ne _ _ _ _ c5, Work.get_set_ne _ _ _ _ c4, Work.get_set_ne _ _ _ _ c3, Work.get_set_ne _ _ _ _ c2, Work.get_set_ne _ _ _ _ c1,
      Work.get_set_self]
    rfl

/-- What a fault shows in its tile's registers. -/
theorem claimed_get (w : Work σ) (t : Fin 32) (c : Nat) {cause : Nat} (small : cause < 4) (kind : Nat) (margin : Int) (stamp : Nat) :
    (claimed w t c cause kind margin stamp).get (CLASP_UNDERRUN t) = min (2 ^ (CLASP_UNDERRUN t).width - 1) (w.get (CLASP_UNDERRUN t) + 1) ∧
    (claimed w t c cause kind margin stamp).get (CLASP_FIRST_VALID t) ≠ 0 ∧
    (w.get (CLASP_FIRST_VALID t) = 0 → (claimed w t c cause kind margin stamp).get (CLASP_FIRST_CAUSE t) = cause) ∧
    (w.get (CLASP_FIRST_VALID t) ≠ 0 → (claimed w t c cause kind margin stamp).get (CLASP_FIRST_CAUSE t) = w.get (CLASP_FIRST_CAUSE t)) := by
  obtain ⟨apart, -, -⟩ := fault_apart t
  have valid : (w.inc (CLASP_UNDERRUN t)).get (CLASP_FIRST_VALID t) = w.get (CLASP_FIRST_VALID t) := Work.get_inc_ne _ _ _ (apart _ (by simp)).symm
  have causeKept : (w.inc (CLASP_UNDERRUN t)).get (CLASP_FIRST_CAUSE t) = w.get (CLASP_FIRST_CAUSE t) := Work.get_inc_ne _ _ _ (apart _ (by simp)).symm
  obtain ⟨counted, set, recorded⟩ := recordFirst_get (w.inc (CLASP_UNDERRUN t)) t c cause kind margin stamp
  rw [claimed, on_eq, valid]
  by_cases free : w.get (CLASP_FIRST_VALID t) = 0
  · rw [if_neg (by rw [free]; decide)]
    exact ⟨counted.trans (get_inc _ _), by rw [set]; decide, fun _ => recorded.trans (Nat.mod_eq_of_lt small), fun h => absurd free h⟩
  · rw [if_pos (decide_eq_true free)]
    exact ⟨get_inc _ _, by rw [valid]; exact free, fun h => absurd h free, fun _ => causeKept⟩

theorem time_apart (t : Nat) : ∀ g ∈ faultFlds t, NT_NOW.key ≠ g.key := by
  simp only [faultFlds, List.mem_cons, List.not_mem_nil, or_false, forall_eq_or_imp, forall_eq, Fld.key, NT_NOW, hidDev, hid, CLASP_UNDERRUN, CLASP_FIRST_VALID,
    CLASP_FIRST_CAUSE, CLASP_FIRST_CLASP, CLASP_FIRST_KIND, CLASP_FIRST_MARGIN, CLASP_FIRST_STAMP_LO, CLASP_FIRST_STAMP_HI, tileBase]
  omega

theorem claimed_tl (w : Work σ) (t c cause kind : Nat) (margin : Int) (stamp : Nat) : (claimed w t c cause kind margin stamp).tl = w.tl := by
  rw [claimed]
  split
  · rfl
  · rfl

/-- A fault fires its tile's source 2 and changes nothing else of the typed state. -/
theorem claspFault_dev (w : Work σ) (t c cause : Nat) (e : Entry) (margin : Int) : (claspFault w t c cause e margin).dev =
    { w.dev with held := w.dev.held ++ [⟨tileSrc t 2, 0, false, w.now, w.ntLo⟩] } := by
  have time := (claimed_writes w t c cause e.kind margin e.stamp).1 NT_NOW (fun g hg => time_apart t g hg)
  rw [claspFault_eq, fire_dev, claimed_dev, Work.now, claimed_tl, Work.ntLo, time, Work.now, Work.ntLo]

theorem claspFault_tile (w : Work σ) (t c cause : Nat) (e : Entry) (margin : Int) (v : Nat) : (claspFault w t c cause e margin).tile v = w.tile v := by
  rw [Work.tile, claspFault_dev]
  rfl

theorem claspFault_writes (w : Work σ) (t c cause : Nat) (e : Entry) (margin : Int) :
    Writes (· ∈ faultFlds t) w (claspFault w t c cause e margin) ∧ (Quiet w → Quiet (claspFault w t c cause e margin)) := by
  obtain ⟨gets, quiet, -⟩ := claimed_writes w t c cause e.kind margin e.stamp
  exact ⟨Writes.fire gets _, quiet⟩

/-- A fault of a work that has left the fault registers, TL and NT as they were. -/
theorem faulted_finish {s : State} (hs : s.wf = true) (u : Fin 32) (c : Nat) {cause : Nat} (small : cause < 4) (e : Entry) (margin : Int) {w : Work s}
    (keeps : ∀ f ∈ NT_NOW :: faultFlds u, w.get f = s.get f) (tl : w.tl = s.tl) (held : w.dev.held = s.dev.held) :
    Faulted s (claspFault w u c cause e margin).finish u cause := by
  obtain ⟨counted, valid, free, taken⟩ := claimed_get w u c small e.kind margin e.stamp
  simp only [faultFlds, List.mem_cons, List.not_mem_nil, or_false, forall_eq_or_imp, forall_eq] at keeps
  obtain ⟨nt, underrun, valid', cause', -⟩ := keeps
  rw [underrun] at counted
  rw [valid'] at free taken
  rw [cause'] at taken
  have shows : ∀ f, (claspFault w u c cause e margin).finish.get f = (claimed w u c cause e.kind margin e.stamp).get f := fun f =>
    (Work.finish_get _ f hs).trans rfl
  refine ⟨(shows _).trans counted, ?_, by rw [shows]; exact valid, fun h => (shows _).trans (free h), fun h => (shows _).trans (taken h)⟩
  refine (congrArg Dev.held (claspFault_dev w u c cause e margin)).trans ?_
  rw [held, firing_eq w _ tl nt]

/-! ## A staged PLAY that is LATE at its clasp (R47, R73) -/

theorem lowWater_local {α : Type} {φ : Tile → α} (w : Work σ) (t : Nat) (m : Int) : TileLocal (· = CLASP_LOW_WATER t) t φ w (lowWater w t m) := by
  rw [lowWater]
  exact TileLocal.ite ((TileLocal.refl w).set _ _ rfl) (TileLocal.refl w)

theorem lowWater_dev (w : Work σ) (t : Nat) (m : Int) : (lowWater w t m).dev = w.dev ∧ (lowWater w t m).tl = w.tl := by
  rw [lowWater]
  split
  · exact ⟨rfl, rfl⟩
  · exact ⟨rfl, rfl⟩

section

variable {w : Work σ} {t c : Nat} {h : HeldEntry} (open_ : (w.clasp t c).open_ = none)

/-- A unit in order but too late is a LATE fault (R47). -/
theorem admitUnit_late (order : ∀ r, orderRef (w.clasp t c) = some r → r.key ≤ h.entry.key) (margin : h.margin < 12) (page : h.page = none) :
    admitUnit w t c (.one h) = claspFault w t c LATE h.entry h.margin := by
  have last : (Item.one h).members.getLast? = some h := rfl
  have inOrder : ∀ r, orderRef (w.clasp t c) = some r → ¬decide (h.entry.key < r.key) = true := fun r hr => by simpa using order r hr
  have one : ∀ v : Work σ, dropPages v t (Item.one h).members = v := fun v => by
    show dropPages v t [h] = v
    rw [dropPages, each_one, page]
    rfl
  rw [admitUnit, last]
  cases ref : orderRef (w.clasp t c) with
  | none => simp only [ref, margin, one, if_true, Bool.false_eq_true, if_false]
  | some r =>
    simp only [ref, margin, one, if_true]
    rw [if_neg (inOrder r ref)]

include open_

/-- An entry that suits its clasp and belongs to no chain or group is admitted alone. -/
theorem arrive_alone (alt : h.entry.alt = false) (chain : h.entry.chain = false) :
    arrive w t c true h = admitUnit (lowWater w t h.margin) t c (.one h) := by
  have open' : ((lowWater w t h.margin).clasp t c).open_ = none := (congrArg (fun d : Dev => (vget (vget d.tiles Tile.reset t).clasps Clasp.reset c).open_)
    (lowWater_dev w t h.margin).1).trans open_
  simp only [arrive, open', breakOpen, alt, chain, Bool.not_true, Bool.false_eq_true, if_false]

end

/-- A tile without the first entry staged for a clasp. -/
def taken (w : Work σ) (t c : Nat) : Work σ := w.updTile t (fun x => unstage x c)

theorem pageWaitLate_eq {w : Work σ} {t c : Nat} {g : Staged} (ht : t < 32) (first : (stagedFor (w.tile t) c).head? = some g)
    (run : w.get (SEQ_STATE_STATE t) = RUN) (paged : g.page.isSome = true ∨ isPaged w t c g.entry = true) (fits : suits c g.entry = true)
    (alt : g.entry.alt = false) (chain : g.entry.chain = false) (open_ : (w.clasp t c).open_ = none) (buffers : w.get (DRIVE_PAGE_BUFFERS t) ≠ 0)
    (order : ∀ r, orderRef (w.clasp t c) = some r → r.key ≤ g.entry.key) (late : g.entry.stamp < w.now + 12) :
    pageWaitLate w t c = claspFault (lowWater (taken w t c) t (marginOf w g.entry)) t c LATE g.entry (marginOf w g.entry) := by
  have margin : marginOf w g.entry < 12 := by
    rw [marginOf]
    omega
  obtain ⟨p, page⟩ : ∃ p, pageOf w t c g = some p := by
    rw [pageOf]
    split
    next p _ => exact ⟨p, rfl⟩
    next none_ => exact ⟨_, if_pos (by rw [fits, (paged.resolve_left (by rw [none_]; exact Bool.false_ne_true))]; rfl)⟩
  have clasp : ∀ v : Work σ, v.dev = (taken w t c).dev → v.clasp t c = w.clasp t c := fun v hv => by
    rw [Work.clasp, Work.tile, hv, ← Work.tile, taken, tile_updTile_self _ _ _ ht]
    rfl
  have arrives : arrive (taken w t c) t c true ⟨g.entry, marginOf w g.entry, g.from_, none⟩ =
      claspFault (lowWater (taken w t c) t (marginOf w g.entry)) t c LATE g.entry (marginOf w g.entry) := by
    rw [arrive_alone (by rw [clasp _ rfl]; exact open_) alt chain]
    refine admitUnit_late ?_ margin rfl
    rw [clasp _ (lowWater_dev _ _ _).1]
    exact order
  have admits : admitStaged w t c g = some (claspFault (lowWater (taken w t c) t (marginOf w g.entry)) t c LATE g.entry (marginOf w g.entry)) := by
    have running : ¬(w.get (SEQ_STATE_STATE t) = HALTED ∧ (g.entry.kind = KWINDOW ∨ g.entry.alt)) := fun h => absurd (run.symm.trans h.1) (by decide)
    rw [admitStaged, if_neg running, page]
    exact (if_neg buffers).trans ((if_pos margin).trans (congrArg some arrives))
  have chainKept : breakChain (claspFault (lowWater (taken w t c) t (marginOf w g.entry)) t c LATE g.entry (marginOf w g.entry)) t c g.from_ =
      claspFault (lowWater (taken w t c) t (marginOf w g.entry)) t c LATE g.entry (marginOf w g.entry) := by
    have shut : ((claspFault (lowWater (taken w t c) t (marginOf w g.entry)) t c LATE g.entry (marginOf w g.entry)).clasp t c).open_ = none := by
      rw [Work.clasp, claspFault_tile, ← Work.clasp, clasp _ (lowWater_dev _ _ _).1]
      exact open_
    rw [breakChain, shut]
  rw [pageWaitLate, first]
  refine (if_pos ⟨by rw [page]; rfl, margin⟩).trans ?_
  rw [claspAdmit, first]
  refine (if_neg (by rw [run]; decide)).trans ?_
  rw [admits]
  show (if g.leaves = true then _ else _) = _
  rw [chainKept, ite_self]

/-- A paged PLAY that waits for a buffer within 12 frames of its stamp (R73). -/
theorem waits_late {s : State} (hs : s.wf = true) {u : Fin 32} {e : Fin 16} {g : Staged} (first : (stagedFor (s.tile u) e).head? = some g)
    (run : s.get (SEQ_STATE_STATE u) = RUN) (paged : g.page.isSome = true ∨ isPaged s.view u e g.entry = true) (fits : suits e g.entry = true)
    (alt : g.entry.alt = false) (chain : g.entry.chain = false) (open_ : (s.view.clasp u e).open_ = none) (buffers : s.get (DRIVE_PAGE_BUFFERS u) ≠ 0)
    (order : ∀ r, orderRef (s.view.clasp u e) = some r → r.key ≤ g.entry.key) (late : g.entry.stamp < s.tl.count + 12) :
    Answers (.pageWaitLate u e) s (fun t => Faulted s t u LATE ∧ t.view.clasp u e = s.view.clasp u e ∧
      (t.tile u).stage = (s.tile u).stage.eraseP (fun x => x.entry.clasp = e.val) ∧ Frame s t (CLASP_LOW_WATER u :: faultFlds u)) := by
  have ran := pageWaitLate_eq (w := Work.start s) u.isLt first run paged fits alt chain open_ buffers order late
  have tile : (taken (Work.start s) u e).tile u = unstage (s.tile u) e := tile_updTile_self _ _ _ u.isLt
  have gets : ∀ f, (taken (Work.start s) u e).get f = s.get f := fun _ => rfl
  have quiet : Quiet (taken (Work.start s) u e) := quiet_start s
  have held : (taken (Work.start s) u e).dev.held = s.dev.held := rfl
  have tl : (taken (Work.start s) u e).tl = s.tl := rfl
  generalize taken (Work.start s) u e = w at *
  generalize marginOf (Work.start s) g.entry = m at *
  obtain ⟨⟨lowGets, lowQuiet, -⟩, -⟩ := lowWater_local (φ := fun _ => ()) w u m
  obtain ⟨lowDev, lowTl⟩ := lowWater_dev w u m
  have tile' : (lowWater w u m).tile u = unstage (s.tile u) e := by
    rw [Work.tile, lowDev]
    exact tile
  rw [← lowDev] at held
  rw [← lowTl] at tl
  generalize lowWater w u m = v at *
  obtain ⟨faultGets, faultQuiet⟩ := claspFault_writes v u e LATE g.entry m
  have last := (claspFault_tile v u e LATE g.entry m u).trans tile'
  have apart : ∀ f ∈ NT_NOW :: faultFlds u, f.key ≠ (CLASP_LOW_WATER u).key := by
    simp only [faultFlds, List.mem_cons, List.not_mem_nil, or_false, forall_eq_or_imp, forall_eq, Fld.key, NT_NOW, hidDev, hid, CLASP_UNDERRUN, CLASP_FIRST_VALID,
      CLASP_FIRST_CAUSE, CLASP_FIRST_CLASP, CLASP_FIRST_KIND, CLASP_FIRST_MARGIN, CLASP_FIRST_STAMP_LO, CLASP_FIRST_STAMP_HI, CLASP_LOW_WATER, tileBase]
    omega
  have faulted := faulted_finish hs u e (cause := LATE) (by decide) g.entry m (w := v)
    (fun f hf => (lowGets f (fun g hg => by rw [hg]; exact apart f hf)).trans (gets f)) tl held
  have clasp : vget ((claspFault v u e LATE g.entry m).tile u).clasps Clasp.reset e = vget (s.tile u).clasps Clasp.reset e := by
    rw [last]
    rfl
  refine answers_of (F := fun w => pageWaitLate w u e) rfl ran ⟨faulted, clasp, congrArg Tile.stage last,
    frame_finish hs (fun f hf => ?_) (faultQuiet (lowQuiet quiet))⟩
  rw [faultGets f (fun g hg => hf g (List.mem_cons_of_mem _ hg)), lowGets f (fun g hg => by rw [hg]; exact hf _ List.mem_cons_self), gets]

/-! ## A completed fetch (R72, R74, R401) -/

section

variable {w : Work σ} {t buf : Nat} {b : PageBuf} (found : (w.tile t).pages.find? (fun x => x.buf = buf) = some b) (running : b.done = none)
  (installed : b.page % 65536 * 512 + 512 ≤ qdrCapacity w (b.page / 65536))
include found running installed

/-- The locations of a page within the installed ones fail where the device says so. -/
theorem pageFetchEnd_eq (bad : List Nat) : pageFetchEnd w t buf bad =
    pageFetchDone (w.each ((List.range 512).filter (fun j => bad.contains j)) (fun w j => qdrFailure w (b.page / 65536) 1 (b.page % 65536 * 512 + j) false)) t buf
      (decide ((List.range 512).filter (fun j => bad.contains j) = [])) := by
  have within_ : ∀ j ∈ List.range 512, decide (qdrCapacity w (b.page / 65536) ≤ b.page % 65536 * 512 + j) = false := fun j hj =>
    decide_eq_false (by have := List.mem_range.1 hj; omega)
  have same : (List.range 512).filter (fun j => decide (qdrCapacity w (b.page / 65536) ≤ b.page % 65536 * 512 + j) || bad.contains j) =
      (List.range 512).filter (fun j => bad.contains j) := List.filter_congr (fun j hj => by rw [within_ j hj, Bool.false_or])
  have each : ∀ (v : Work σ) (l : List Nat), (∀ j ∈ l, j ∈ List.range 512) → v.each l (fun v j => qdrFailure v (b.page / 65536) 1 (b.page % 65536 * 512 + j)
      (decide (qdrCapacity w (b.page / 65536) ≤ b.page % 65536 * 512 + j))) = v.each l (fun v j =>
        qdrFailure v (b.page / 65536) 1 (b.page % 65536 * 512 + j) false) := by
    intro v l hl
    induction l generalizing v with
    | nil => rfl
    | cons j l ih =>
      rw [each_cons, each_cons, within_ j (hl j List.mem_cons_self)]
      exact ih _ (fun i hi => hl i (List.mem_cons_of_mem _ hi))
  rw [pageFetchEnd, found]
  simp only [running, Option.isSome_none, Bool.false_eq_true, if_false, same]
  rw [each _ _ (fun j hj => (List.mem_filter.1 hj).1)]

/-- A page that its port has given without a failure. -/
theorem pageFetchEnd_good : pageFetchEnd w t buf [] = (copyPage w t b).updTile t (fun x => { x with
    pages := x.pages.map (fun p => if p.buf = buf then { p with done := some true } else p) }) := by
  have none_ : (List.range 512).filter (fun j => ([] : List Nat).contains j) = [] := List.filter_eq_nil_iff.2 (fun _ _ => Bool.false_ne_true)
  rw [pageFetchEnd_eq found running installed, none_, pageFetchDone]
  show (match (w.tile t).pages.find? (fun x => x.buf = buf) with
    | none => w
    | some b => if b.done.isSome then w else _) = _
  rw [found]
  simp only [running, Option.isSome_none, Bool.false_eq_true, if_false, decide_true, if_true]
  rfl

end

theorem getD_rdBytes (w : Work σ) (a : Nat) {n i : Nat} (hi : i < n) : (w.rdBytes a n).getD i 0 = w.rd8 (a + i) := by
  induction n generalizing a i with
  | zero => exact absurd hi (Nat.not_lt_zero i)
  | succ n ih =>
    cases i with
    | zero => rfl
    | succ i =>
      rw [Work.rdBytes, List.getD_cons_succ, ih (a + 1) (Nat.lt_of_succ_lt_succ hi), Nat.add_right_comm, Nat.add_assoc a i 1]

/-- Bytes copied to another place, with a change of one tile, leave everything else. -/
theorem copied_answers {s : State} (hs : s.wf = true) {c : Instr} (F : Work s → Work s) (run : exec c s = .next (F (Work.start s)).finish) (u : Fin 32)
    (dst src n : Nat) (f : Tile → Tile) (eq : F (Work.start s) = ((Work.start s).wrBytes dst ((Work.start s).rdBytes src n)).updTile u f) :
    Answers c s (fun t => (∀ i < n, t.byteAt (dst + i) = s.byteAt (src + i)) ∧ MemBut s t dst n ∧ RegsBut s t [] ∧ (∀ a, t.flashAt a = s.flashAt a) ∧
      t.tile u = f (s.tile u) ∧ ∀ v < 32, v ≠ u.val → t.tile v = s.tile v) := by
  have read : ∀ i < n, ((Work.start s).rdBytes src n).getD i 0 = s.byteAt (src + i) := fun i hi =>
    (getD_rdBytes _ _ hi).trans (Work.rd8_start s _)
  have len := SwapProofs.length_rdBytes (Work.start s) src n
  generalize (Work.start s).rdBytes src n = bytes at *
  obtain ⟨fwipe, flog, -, -⟩ := PortProofs.wrBytes_flash (Work.start s) dst bytes
  have stored := fun a => Work.rd8_wrBytes (Work.start s) dst a bytes
  have gets := fun f => Work.get_wrBytes (Work.start s) dst bytes f
  have dev := Work.wrBytes_dev (Work.start s) dst bytes
  generalize (Work.start s).wrBytes dst bytes = w at *
  have tile : ∀ v, w.tile v = s.tile v := fun v => by
    rw [Work.tile, dev]
    rfl
  refine answers_of F run eq ⟨fun i hi => ?_, fun a ha => ?_, fun f _ => ?_, fun a => ?_, ?_, fun v _ hv => ?_⟩
  · refine (Work.finish_byteAt _ _ hs).trans ((stored _).trans ?_)
    rw [if_pos (by omega), Nat.add_sub_cancel_left, read i hi]
  · refine (Work.finish_byteAt _ _ hs).trans ((stored _).trans ?_)
    rw [if_neg (by omega), Work.rd8_start]
  · exact (Work.finish_get _ _ hs).trans ((gets f).trans (Work.get_start s f))
  · refine (Work.finish_flashAt _ _ hs).trans ?_
    have same : w.fl8 a = (Work.start s).fl8 a := by rw [Work.fl8, Work.fl8, fwipe, flog]
    exact same.trans ((quiet_start s).fl8 a)
  · exact (tile_updTile_self w u f u.isLt).trans (congrArg f (tile u))
  · exact (tile_updTile_ne w u v f hv).trans (tile v)

/-- A fetch that its port has given without a failure (R72, R74). -/
theorem fetch_done {s : State} (hs : s.wf = true) {u : Fin 32} {buf : Fin 16} {b : PageBuf} (found : (s.tile u).pages.find? (fun x => x.buf = buf.val) = some b)
    (running : b.done = none) (installed : b.page % 65536 * 512 + 512 ≤ qdrCapacity s.view (b.page / 65536)) :
    Answers (.pageFetchDone u buf []) s (fun t =>
      (∀ i < 4096, t.byteAt (tileBase u + 0x100000 + 4 * bufStart s.view u b.buf + i) =
        s.byteAt (qdrBase (b.page / 65536) + b.page % 65536 * 0x1000 + i)) ∧
      MemBut s t (tileBase u + 0x100000 + 4 * bufStart s.view u b.buf) 4096 ∧ RegsBut s t [] ∧ (∀ a, t.flashAt a = s.flashAt a) ∧
      (t.tile u).pages = (s.tile u).pages.map (fun p => if p.buf = buf.val then { p with done := some true } else p) ∧
      (∀ v < 32, v ≠ u.val → t.tile v = s.tile v)) := by
  have ran := pageFetchEnd_good (w := Work.start s) (t := u) found running installed
  rw [copyPage] at ran
  obtain ⟨t, run, bytes, mem, regs, flash, tile, others⟩ := copied_answers hs (c := .pageFetchDone u buf []) (fun w => pageFetchEnd w u buf []) rfl u _ _ _ _ ran
  exact ⟨t, run, bytes, mem, regs, flash, congrArg Tile.pages tile, others⟩

/-! ## PLAYs discarded with their pages (R74) -/

/-- What an open unit keeps when PLAYs are discarded. -/
def openLess (hit : HeldEntry → Bool) (k : Clasp) : Clasp := { k with
  open_ := k.open_.bind (fun u =>
    let rest := u.members.filter (fun h => !hit h)
    if rest.isEmpty then none else some { u with members := rest }) }

/-- A clasp without the PLAYs that are discarded. -/
def emptied (w : Work σ) (t c : Nat) (hit : HeldEntry → Bool) : Work σ := (keepItems w t c (fun h => !hit h)).updClasp t c (openLess hit)

theorem failPlays_def (w : Work σ) (t c cause : Nat) (hit : HeldEntry → Bool) : failPlays w t c cause hit =
    dropPages ((emptied w t c hit).each ((w.clasp t c).items.flatMap (fun i => i.members.filter hit) ++
      (match (w.clasp t c).open_ with | some u => u.members.filter hit | none => [])) (fun w h => claspFault w t c cause h.entry h.margin)) t
      (match (w.clasp t c).open_ with | some u => u.members.filter hit | none => []) := rfl

theorem updClasp_self {w : Work σ} {t c : Nat} {f : Clasp → Clasp} (h : f (w.clasp t c) = w.clasp t c) : w.updClasp t c f = w := by
  have same : (w.updClasp t c f).dev = w.dev := by
    show { w.dev with tiles := vset w.dev.tiles t { w.tile t with clasps := vset (w.tile t).clasps c (f (w.clasp t c)) } } = w.dev
    rw [h, Work.clasp, DdrProofs.vset_vget]
    exact congrArg (fun v => { w.dev with tiles := v }) (DdrProofs.vset_vget w.dev.tiles Tile.reset t)
  exact congrArg (withDev w) same

theorem emptied_clasp {t : Nat} (ht : t < 32) (w : Work σ) {c d : Nat} (hc : c < 33) (hit : HeldEntry → Bool) : (emptied w t c hit).clasp t d =
    if d = c then openLess hit { w.clasp t c with items := (w.clasp t c).items.filterMap (thinned (fun h => !hit h)) } else w.clasp t d := by
  rw [emptied, clasp_updClasp ht _ hc, keepItems_clasp ht w hc, keepItems_clasp ht w hc, if_pos rfl]
  split
  · rfl
  · rfl

theorem emptied_local {α : Type} {φ : Tile → α} (hφ : ∀ (x : Tile) (clasps : Vector Clasp 33) (pages : List PageBuf), φ { x with clasps, pages } = φ x)
    (w : Work σ) (t c : Nat) (hit : HeldEntry → Bool) : TileLocal (fun _ => False) t φ w (emptied w t c hit) := by
  rw [emptied, keepItems]
  refine TileLocal.updTile (TileLocal.each ((TileLocal.refl w).updTile _ (fun x => hφ x _ x.pages)) _ _ (fun _ h _ hw => ?_)) _ (fun x => hφ x _ x.pages)
  exact dropPages_local (fun x pages => hφ x x.clasps pages) hw h.page

theorem thinned_none {keep : HeldEntry → Bool} {k : Clasp} (items : k.items = []) : ({ k with items := k.items.filterMap (thinned keep) } : Clasp) = k := by
  cases k
  cases items
  rfl

theorem openLess_shut (hit : HeldEntry → Bool) {k : Clasp} (open_ : k.open_ = none) : openLess hit k = k := by
  cases k
  cases open_
  rfl

/-- A clasp with nothing to discard stands. -/
theorem failPlays_idle {w : Work σ} {t c : Nat} (items : (w.clasp t c).items = []) (open_ : (w.clasp t c).open_ = none) (cause : Nat)
    (hit : HeldEntry → Bool) : failPlays w t c cause hit = w := by
  have thin : w.updClasp t c (fun k => { k with items := k.items.filterMap (thinned (fun h => !hit h)) }) = w := updClasp_self (thinned_none items)
  have kept : keepItems w t c (fun h => !hit h) = w := by
    refine Eq.trans ?_ thin
    rw [keepItems, items]
    rfl
  have stands : emptied w t c hit = w := by
    rw [emptied, kept]
    exact updClasp_self (openLess_shut hit open_)
  rw [failPlays_def, items, open_, stands]
  rfl

/-- The one PLAY that a clasp holds is discarded as a fault. -/
theorem failPlays_one {w : Work σ} {t c : Nat} {h : HeldEntry} (items : (w.clasp t c).items = [.one h]) (open_ : (w.clasp t c).open_ = none) (cause : Nat)
    {hit : HeldEntry → Bool} (hits : hit h = true) : failPlays w t c cause hit = claspFault (emptied w t c hit) t c cause h.entry h.margin := by
  have gone : (Item.one h).members.filter hit = [h] := by
    show List.filter hit [h] = [h]
    rw [List.filter_cons_of_pos hits, List.filter_nil]
  rw [failPlays_def, items, open_, List.flatMap_cons, gone]
  rfl

/-- That of one clasp alone, where the others hold nothing. -/
theorem failPlays_alone {w : Work σ} {t e : Nat} (ht : t < 32) {h : HeldEntry} (items : (w.clasp t e).items = [.one h]) (shut : ∀ d < 16, (w.clasp t d).open_ = none)
    (cause : Nat) {hit : HeldEntry → Bool} (hits : hit h = true) (l : List Nat) (once : l.Nodup) (small : ∀ c ∈ l, c < 16) (mem : e ∈ l)
    (others : ∀ d < 16, d ≠ e → (w.clasp t d).items = []) :
    w.each l (fun w c => failPlays w t c cause hit) = claspFault (emptied w t e hit) t e cause h.entry h.margin := by
  have rest : ∀ (v : Work σ) (m : List Nat), e ∉ m → (∀ c ∈ m, c < 16) → (∀ d < 16, d ≠ e → v.clasp t d = w.clasp t d) →
      v.each m (fun w c => failPlays w t c cause hit) = v := by
    intro v m hm hs same
    induction m with
    | nil => rfl
    | cons c m ih =>
      have ne : c ≠ e := fun h => hm (h ▸ List.mem_cons_self)
      have lt := hs c List.mem_cons_self
      rw [each_cons, failPlays_idle (by rw [same c lt ne]; exact others c lt ne) (by rw [same c lt ne]; exact shut c lt)]
      exact ih (fun h => hm (List.mem_cons_of_mem _ h)) (fun d hd => hs d (List.mem_cons_of_mem _ hd))
  induction l with
  | nil => exact absurd mem List.not_mem_nil
  | cons c l ih =>
    obtain ⟨fresh, once'⟩ := List.nodup_cons.1 once
    have lt := small c List.mem_cons_self
    rw [each_cons]
    by_cases same : c = e
    · subst same
      rw [failPlays_one items (shut c lt) cause hits]
      refine rest _ l fresh (fun d hd => small d (List.mem_cons_of_mem _ hd)) (fun d hd hne => ?_)
      rw [Work.clasp, claspFault_tile, ← Work.clasp, emptied_clasp ht w (by omega), if_neg hne]
    · rw [failPlays_idle (others c lt same) (shut c lt)]
      exact ih once' (fun d hd => small d (List.mem_cons_of_mem _ hd)) (List.mem_of_ne_of_mem (Ne.symm same) mem)

/-! ## A fetch that fails, and one that is late (R74, R401) -/

theorem emptied_tl (w : Work σ) (t c : Nat) (hit : HeldEntry → Bool) : (emptied w t c hit).tl = w.tl := by
  have page : ∀ (v : Work σ) (p : Option Nat), (pageDrop v t p).tl = v.tl := fun v p => by cases p <;> rfl
  have dropped : ∀ (v : Work σ) (es : List HeldEntry), (dropPages v t es).tl = v.tl := fun v es =>
    Work.each_keeps (fun x : Work σ => x.tl = v.tl) _ (fun x h hx => (page x h.page).trans hx) es v rfl
  rw [emptied, keepItems]
  exact dropped _ _

section

variable {w : Work σ} {t e : Nat} (ht : t < 32) (he : e < 33) {h : HeldEntry} (items : (w.clasp t e).items = [.one h]) {hit : HeldEntry → Bool} (hits : hit h = true)
include ht items hits

include he in
theorem emptied_items : ((emptied w t e hit).clasp t e).items = [] := by
  rw [emptied_clasp ht w he, if_pos rfl, openLess, items]
  show List.filterMap (thinned fun h => !hit h) [Item.one h] = []
  rw [List.filterMap_cons_none (by rw [thinned, hits]; rfl), List.filterMap_nil]

/-- The page of a PLAY that is discarded has one user less. -/
theorem emptied_pages {p : Nat} (page : h.page = some p) : ((emptied w t e hit).tile t).pages = (w.tile t).pages.filterMap (fun b =>
    if b.page = p then (if b.users ≤ 1 then none else some { b with users := b.users - 1 }) else some b) := by
  have gone : (w.clasp t e).items.flatMap (fun i => i.members.filter (fun h => !!hit h)) = [h] := by
    rw [items]
    show List.filter (fun h => !!hit h) [h] ++ [] = [h]
    rw [List.filter_cons_of_pos (by rw [hits]; rfl), List.filter_nil, List.append_nil]
  rw [emptied, Work.updClasp, tile_updTile_self _ _ _ ht, keepItems, gone, dropPages, each_one, page, pageDrop, tile_updTile_self _ _ _ ht, Work.updClasp,
    tile_updTile_self _ _ _ ht]

end

/-- The PLAYs that wait for a page that has not come one frame ahead of their stamp (R74). -/
def slowPlay (w : Work σ) (t : Nat) (h : HeldEntry) : Bool :=
  match h.page with
  | none => false
  | some p => decide (h.entry.stamp ≤ w.now + 1) && (w.tile t).pages.any (fun b => decide (b.page = p) && decide (b.done ≠ some true))

theorem pageFetchLate_eq (w : Work σ) (t c : Nat) : pageFetchLate w t c = failPlays w t c LATE (slowPlay w t) := rfl

/-- A PLAY whose page has not come in time (R74). -/
theorem fetch_late {s : State} (hs : s.wf = true) {u : Fin 32} {e : Fin 16} {h : HeldEntry} {p : Nat} (items : (s.view.clasp u e).items = [.one h])
    (open_ : (s.view.clasp u e).open_ = none) (page : h.page = some p) (due : h.entry.stamp ≤ s.tl.count + 1)
    (slow : ∃ b ∈ (s.tile u).pages, b.page = p ∧ b.done ≠ some true) :
    Answers (.pageFetchLate u e) s (fun t => Faulted s t u LATE ∧ (t.view.clasp u e).items = [] ∧
        (t.tile u).pages = (s.tile u).pages.filterMap (fun b =>
          if b.page = p then (if b.users ≤ 1 then none else some { b with users := b.users - 1 }) else some b) ∧
        Frame s t (faultFlds u)) := by
  have hits : slowPlay (Work.start s) u h = true := by
    obtain ⟨b, mem, same, waits⟩ := slow
    rw [slowPlay, page]
    exact Bool.and_eq_true_iff.2 ⟨decide_eq_true due, List.any_eq_true.2 ⟨b, mem, by rw [decide_eq_true same, decide_eq_true waits]; rfl⟩⟩
  have ran := (pageFetchLate_eq (Work.start s) u e).trans (failPlays_one (w := Work.start s) items open_ LATE hits)
  have emptyItems := emptied_items (w := Work.start s) u.isLt (by omega) items hits
  have pages := emptied_pages (w := Work.start s) u.isLt items hits page
  have tl := emptied_tl (Work.start s) u e (slowPlay (Work.start s) u)
  obtain ⟨⟨gets, quiet, -, dev⟩, -⟩ := emptied_local (φ := fun _ => ()) (fun _ _ _ => rfl) (Work.start s) u e (slowPlay (Work.start s) u)
  generalize emptied (Work.start s) u e (slowPlay (Work.start s) u) = w at *
  have held : w.dev.held = s.dev.held := by
    rw [dev]
    rfl
  have kept : ∀ f, w.get f = s.get f := fun f => (gets f (fun _ hg => hg.elim)).trans (Work.get_start s f)
  obtain ⟨writes, faultQuiet⟩ := claspFault_writes w u e LATE h.entry h.margin
  have tile := claspFault_tile w u e LATE h.entry h.margin u
  refine answers_of (F := fun w => pageFetchLate w u e) rfl ran ⟨faulted_finish hs u e (by decide) h.entry h.margin (fun f _ => kept f) tl held, ?_, ?_,
    frame_finish hs (fun f hf => (writes f hf).trans (kept f)) (faultQuiet (quiet (quiet_start s)))⟩
  · exact (congrArg (fun x : Tile => (vget x.clasps Clasp.reset e).items) tile).trans emptyItems
  · exact (congrArg Tile.pages tile).trans pages

/-- The registers of a QDR port that count and record a failure (R401). -/
def qdrFlds (q : Nat) : List Fld := [QDR_ERR_PARITY q, QDR_LAST_ERR_VALID q, QDR_LAST_ERR_CLASS q, QDR_LAST_ERR_LOCATION q]

/-- An address parity failure of a location before its port's source fires. -/
def failed (w : Work σ) (q loc : Nat) : Work σ :=
  if (w.inc (QDR_ERR_PARITY q)).on (QDR_LAST_ERR_VALID q) then w.inc (QDR_ERR_PARITY q)
  else (((w.inc (QDR_ERR_PARITY q)).set (QDR_LAST_ERR_VALID q) 1).set (QDR_LAST_ERR_CLASS q) 1).set (QDR_LAST_ERR_LOCATION q) loc

theorem qdrFailure_eq (w : Work σ) (q loc : Nat) : qdrFailure w q 1 loc false = (failed w q loc).fire (482 + q) := rfl

theorem failed_writes (w : Work σ) (q loc : Nat) : Writes (· ∈ qdrFlds q) w (failed w q loc) := by
  have counted : Writes (· ∈ qdrFlds q) w (w.inc (QDR_ERR_PARITY q)) := (Writes.refl w).inc _ (by simp [qdrFlds])
  rw [failed]
  refine Writes.ite counted (Writes.set (Writes.set (Writes.set counted _ _ ?_) _ _ ?_) _ _ ?_)
  all_goals simp [qdrFlds]

theorem failed_rest (w : Work σ) (q loc : Nat) : (failed w q loc).dev = w.dev ∧ (failed w q loc).tl = w.tl ∧ (Quiet w → Quiet (failed w q loc)) := by
  rw [failed]
  split
  · exact ⟨rfl, rfl, id⟩
  · exact ⟨rfl, rfl, id⟩

theorem failed_get (w : Work σ) (q loc : Nat) :
    (failed w q loc).get (QDR_ERR_PARITY q) = min (2 ^ (QDR_ERR_PARITY q).width - 1) (w.get (QDR_ERR_PARITY q) + 1) ∧
    (w.get (QDR_LAST_ERR_VALID q) = 0 → (failed w q loc).get (QDR_LAST_ERR_CLASS q) = 1 ∧
      (failed w q loc).get (QDR_LAST_ERR_LOCATION q) = loc % 2 ^ (QDR_LAST_ERR_LOCATION q).width) := by
  have apart : (∀ g ∈ [QDR_LAST_ERR_VALID q, QDR_LAST_ERR_CLASS q, QDR_LAST_ERR_LOCATION q], (QDR_ERR_PARITY q).key ≠ g.key) ∧
      (QDR_LAST_ERR_CLASS q).key ≠ (QDR_LAST_ERR_LOCATION q).key := by
    simp only [List.mem_cons, List.not_mem_nil, or_false, forall_eq_or_imp, forall_eq, Fld.key, QDR_LAST_ERR_VALID, QDR_LAST_ERR_CLASS, QDR_LAST_ERR_LOCATION,
      QDR_ERR_PARITY]
    omega
  obtain ⟨counter, classLoc⟩ := apart
  have valid : (w.inc (QDR_ERR_PARITY q)).get (QDR_LAST_ERR_VALID q) = w.get (QDR_LAST_ERR_VALID q) := Work.get_inc_ne _ _ _ (counter _ (by simp)).symm
  rw [failed, on_eq, valid]
  by_cases free : w.get (QDR_LAST_ERR_VALID q) = 0
  · rw [if_neg (by rw [free]; decide), Work.get_set_self, Work.get_set_ne _ _ _ _ classLoc, Work.get_set_self, Work.get_set_ne _ _ _ _ (counter _ (by simp)),
      Work.get_set_ne _ _ _ _ (counter _ (by simp)), Work.get_set_ne _ _ _ _ (counter _ (by simp)), get_inc]
    exact ⟨rfl, fun _ => ⟨rfl, rfl⟩⟩
  · rw [if_pos (decide_eq_true free)]
    exact ⟨get_inc _ _, fun h => absurd h free⟩

/-- A page that its port has failed to give. -/
def pageFailed (w : Work σ) (t buf : Nat) : Work σ := w.updTile t (fun x => { x with
  pages := x.pages.map (fun p => if p.buf = buf then { p with done := some false } else p) })

theorem only_bad (j : Fin 512) : (List.range 512).filter (fun i => [j.val].contains i) = [j.val] := by
  have eq : ∀ i ∈ List.range 512, [j.val].contains i = (i == j.val) := fun i _ => by
    rw [List.contains_cons, List.contains_nil, Bool.or_false]
  rw [List.filter_congr eq, List.filter_beq, List.count_eq_one_of_mem List.nodup_range (List.mem_range.2 j.isLt)]
  rfl

/-- One location of a page that fails (R74, R401). -/
theorem pageFetchEnd_bad {w : Work σ} {t buf : Nat} {b : PageBuf} (found : (w.tile t).pages.find? (fun x => x.buf = buf) = some b) (running : b.done = none)
    (installed : b.page % 65536 * 512 + 512 ≤ qdrCapacity w (b.page / 65536)) (j : Fin 512) : pageFetchEnd w t buf [j.val] =
    (pageFailed (qdrFailure w (b.page / 65536) 1 (b.page % 65536 * 512 + j) false) t buf).each (List.range 16)
      (fun w c => failPlays w t c FORMAT (fun h => decide (h.page = some b.page))) := by
  have dev : (qdrFailure w (b.page / 65536) 1 (b.page % 65536 * 512 + j) false).tile t = w.tile t := by
    rw [qdrFailure_eq, Work.tile, fire_dev, (failed_rest _ _ _).1]
    rfl
  rw [pageFetchEnd_eq found running installed, only_bad, each_one, pageFetchDone, dev, found]
  simp only [running, Option.isSome_none, Bool.false_eq_true, if_false, reduceCtorEq, decide_false]
  rfl

theorem qdr_apart (u q : Nat) : ∀ f ∈ NT_NOW :: faultFlds u, ∀ g ∈ qdrFlds q, f.key ≠ g.key := by
  simp only [faultFlds, qdrFlds, List.mem_cons, List.not_mem_nil, or_false, forall_eq_or_imp, forall_eq, Fld.key, NT_NOW, hidDev, hid, CLASP_UNDERRUN,
    CLASP_FIRST_VALID, CLASP_FIRST_CAUSE, CLASP_FIRST_CLASP, CLASP_FIRST_KIND, CLASP_FIRST_MARGIN, CLASP_FIRST_STAMP_LO, CLASP_FIRST_STAMP_HI, tileBase,
    QDR_LAST_ERR_VALID, QDR_LAST_ERR_CLASS, QDR_LAST_ERR_LOCATION, QDR_ERR_PARITY]
  omega

/-- A fetch of which one location fails (R74, R401). -/
theorem fetch_bad {s : State} (hs : s.wf = true) {u : Fin 32} {buf : Fin 16} {b : PageBuf} (found : (s.tile u).pages.find? (fun x => x.buf = buf.val) = some b)
    (running : b.done = none) (installed : b.page % 65536 * 512 + 512 ≤ qdrCapacity s.view (b.page / 65536)) (j : Fin 512) (e : Fin 16) (h : HeldEntry)
    (items : (s.view.clasp u e).items = [.one h]) (page : h.page = some b.page) (shut : noneOpen (s.tile u))
    (others : ∀ d < 16, d ≠ e.val → (s.view.clasp u d).items = []) :
    Answers (.pageFetchDone u buf [j]) s (fun t =>
      t.get (QDR_ERR_PARITY (b.page / 65536)) = min (2 ^ (QDR_ERR_PARITY (b.page / 65536)).width - 1) (s.get (QDR_ERR_PARITY (b.page / 65536)) + 1) ∧
      (s.get (QDR_LAST_ERR_VALID (b.page / 65536)) = 0 → t.get (QDR_LAST_ERR_CLASS (b.page / 65536)) = 1 ∧
        t.get (QDR_LAST_ERR_LOCATION (b.page / 65536)) = (b.page % 65536 * 512 + j) % 2 ^ (QDR_LAST_ERR_LOCATION (b.page / 65536)).width) ∧
      t.dev.held = s.dev.held ++ [s.firing (482 + b.page / 65536), s.firing (tileSrc u 2)] ∧ (t.view.clasp u e).items = [] ∧
      (s.get (CLASP_FIRST_VALID u) = 0 → t.get (CLASP_FIRST_CAUSE u) = FORMAT) ∧
      Frame s t (qdrFlds (b.page / 65536) ++ faultFlds u)) := by
  have ran := pageFetchEnd_bad (w := Work.start s) (t := u) found running installed j
  generalize hit : (fun h : HeldEntry => decide (h.page = some b.page)) = f at *
  have hits : f h = true := by
    rw [← hit]
    exact decide_eq_true page
  generalize b.page / 65536 = q at *
  generalize b.page % 65536 * 512 + j.val = loc at *
  obtain ⟨parity, recorded⟩ := failed_get (Work.start s) q loc
  have writes := failed_writes (Work.start s) q loc
  obtain ⟨dev, tl, quiet⟩ := failed_rest (Work.start s) q loc
  have apart := qdr_apart u q
  rw [qdrFailure_eq] at ran
  generalize failed (Work.start s) q loc = v at *
  have nt : v.get NT_NOW = s.get NT_NOW := (writes _ (fun g hg => apart _ List.mem_cons_self g hg)).trans (Work.get_start _ _)
  have held : (pageFailed (v.fire (482 + q)) u buf).dev.held = s.dev.held ++ [s.firing (482 + q)] := by
    show v.dev.held ++ [⟨482 + q, 0, false, v.now, v.ntLo⟩] = _
    rw [dev, firing_eq v _ tl nt]
    rfl
  have gets : ∀ f, (pageFailed (v.fire (482 + q)) u buf).get f = v.get f := fun _ => rfl
  have tl' : (pageFailed (v.fire (482 + q)) u buf).tl = s.tl := tl
  have quiet' : Quiet (pageFailed (v.fire (482 + q)) u buf) := quiet (quiet_start s)
  have clasps : ∀ d, (pageFailed (v.fire (482 + q)) u buf).clasp u d = s.view.clasp u d := fun d => by
    rw [Work.clasp, pageFailed, tile_updTile_self _ _ _ u.isLt, Work.tile, fire_dev, dev]
    rfl
  generalize pageFailed (v.fire (482 + q)) u buf = w at *
  have items' : (w.clasp u e).items = [.one h] := by rw [clasps, items]
  have alone := failPlays_alone (w := w) u.isLt items' (fun d hd => by rw [clasps]; exact shut d (by omega)) FORMAT hits (List.range 16) List.nodup_range
    (fun c hc => List.mem_range.1 hc) (List.mem_range.2 e.isLt) (fun d hd hne => by rw [clasps]; exact others d hd hne)
  have emptyItems := emptied_items (w := w) u.isLt (by omega) items' hits
  have emptyTl := emptied_tl w u e f
  obtain ⟨⟨emptyGets, emptyQuiet, -, emptyDev⟩, -⟩ := emptied_local (φ := fun _ => ()) (fun _ _ _ => rfl) w u e f
  generalize emptied w u e f = w' at *
  have kept : ∀ f, w'.get f = v.get f := fun f => (emptyGets f (fun _ hg => hg.elim)).trans (gets f)
  have held' : w'.dev.held = s.dev.held ++ [s.firing (482 + q)] := by
    rw [emptyDev]
    exact held
  obtain ⟨faultGets, faultQuiet⟩ := claspFault_writes w' u e FORMAT h.entry h.margin
  have tile := claspFault_tile w' u e FORMAT h.entry h.margin u
  obtain ⟨-, -, cause, -⟩ := claimed_get w' u e (cause := FORMAT) (by decide) h.entry.kind h.margin h.entry.stamp
  have faultDev := claspFault_dev w' u e FORMAT h.entry h.margin
  have qdrKept : ∀ g ∈ qdrFlds q, (claspFault w' u e FORMAT h.entry h.margin).get g = v.get g := fun g hg =>
    (faultGets g (fun f hf => (apart f (List.mem_cons_of_mem _ hf) g hg).symm)).trans (kept g)
  refine answers_of (F := fun w => pageFetchEnd w u buf [j.val]) rfl (ran.trans alone) ⟨?_, fun free => ⟨?_, ?_⟩, ?_, ?_, fun free => ?_,
    frame_finish hs (fun g hg => ?_) (faultQuiet (emptyQuiet quiet'))⟩
  · exact (Work.finish_get _ _ hs).trans ((qdrKept _ (by simp [qdrFlds])).trans (by rw [parity, Work.get_start]))
  · exact (Work.finish_get _ _ hs).trans ((qdrKept _ (by simp [qdrFlds])).trans (recorded free).1)
  · exact (Work.finish_get _ _ hs).trans ((qdrKept _ (by simp [qdrFlds])).trans (recorded free).2)
  · refine (congrArg Dev.held faultDev).trans ?_
    rw [held', firing_eq w' _ (emptyTl.trans tl') ((kept _).trans nt), List.append_assoc]
    rfl
  · exact (congrArg (fun x : Tile => (vget x.clasps Clasp.reset e).items) tile).trans emptyItems
  · refine (Work.finish_get _ _ hs).trans (cause ?_)
    rw [kept, writes _ (fun g hg => apart _ (by simp [faultFlds]) g hg), Work.get_start]
    exact free
  · rw [faultGets g (fun f hf => hg f (List.mem_append_right _ hf)), kept, writes g (fun f hf => hg f (List.mem_append_left _ hf)), Work.get_start]

/-- Settles O12: each fault of a paged PLAY by its clasp and its page, a completed fetch by the bytes that it copies. -/
theorem pageBuffers : Obligations.PageBuffers := by
  intro s hs u
  refine ⟨fun e g first run paged fits alt chain open_ buffers order late => waits_late hs first run paged fits alt chain open_ buffers order late, ?_,
    fun e h p items open_ page due slow => fetch_late hs items open_ page due slow⟩
  intro buf b found running installed dst loc q
  exact ⟨fetch_done hs found running installed, fun j e h items page shut others => fetch_bad hs found running installed j e h items page shut others⟩

end Sys2Proof.PageProofs
end

section
/-! PROOFS. The entries of the capture clasp (R238 to R260). -/

namespace Sys2Proof.CaptureProofs

open Sys2Proof.Machine Sys2Proof.Effects Sys2Proof.SeqFacts Sys2Proof.RejectFacts Sys2Proof.TakeProofs Sys2Proof.LaneWorks Sys2Proof.PageProofs

-- A kernel evaluation waits for every declaration before it: one at a time keeps the threads that wait, and their stacks, few.
set_option Elab.async false

variable {s : State}

/-! ## An entry off clasp 32 (R46, R238) -/

/-- The work in which an entry has left the capture clasp of tile u, and nothing else has happened. -/
structure TakenOff (s : State) (u : Nat) (h : HeldEntry) (v : Work s) : Prop where
  regs : ∀ f : Fld, f.key ≠ (CLASP_COLLIDE u).key → v.get f = s.get f
  quiet : Quiet v
  cap : v.cap u = (s.tile u).cap
  held : v.dev.held = s.dev.held
  tl : v.tl = s.tl
  items : (v.clasp u 32).items = (if (Item.one h).isParam then (s.view.clasp u 32).items.erase (.one h)
    else (s.view.clasp u 32).items.drop (dueItems s.view u 32).length)
  collide : (Item.one h).isParam = false → v.get (CLASP_COLLIDE u) = satAdd (2 ^ (CLASP_COLLIDE u).width - 1) (s.get (CLASP_COLLIDE u))
    ((dueItems s.view u 32).dropLast.flatMap Item.members).length % 2 ^ (CLASP_COLLIDE u).width

theorem takeDue_tl (w : Work s) (t c : Nat) (i : Item) : (takeDue w t c i).tl = w.tl := by
  have page : ∀ (v : Work s) (p : Option Nat), (pageDrop v t p).tl = v.tl := fun v p => by cases p <;> rfl
  rw [takeDue]
  split
  · rfl
  · exact Work.each_keeps (fun x : Work s => x.tl = w.tl) _ (fun x h hx => (page x h.page).trans hx) _ _ rfl

theorem takeDue_off (u : Fin 32) (h : HeldEntry) : TakenOff s u h (takeDue (Work.start s) u 32 (.one h)) := by
  obtain ⟨items, collide⟩ := takeDue_taken s u.isLt (c := 32) (by decide) (.one h)
  obtain ⟨⟨gets, quiet, -, dev⟩, -, cap⟩ := takeDue_local (φ := Tile.cap) (fun _ _ _ => rfl) s u 32 (.one h)
  have tl := takeDue_tl (Work.start s) u 32 (.one h)
  generalize takeDue (Work.start s) u 32 (.one h) = v at *
  refine ⟨fun f hf => (gets f (fun g hg => ?_)).trans (Work.get_start s f), quiet (quiet_start s), cap, by rw [dev]; rfl, tl, items, collide⟩
  rw [collideFlds] at hg
  split at hg
  · exact absurd hg List.not_mem_nil
  · rw [List.mem_singleton.1 hg]
    exact hf

theorem captureEffect_eq {u : Fin 32} {h : HeldEntry} {a c : Nat} (next : CaptureNext s u h a c) (f : Work s → HeldEntry → Nat → Work s) :
    captureEffect (Work.start s) u a f = f (takeDue (Work.start s) u 32 (.one h)) h c := by
  obtain ⟨due, action, cls⟩ := next
  have due' : nextDue (Work.start s) u 32 = some (.one h) := due
  rw [captureEffect, due', ← cls]
  exact if_pos action

/-- A command at the capture clasp, from what it does behind the entry's leaving. -/
theorem capture_answers {u : Fin 32} {h : HeldEntry} {a c : Nat} (next : CaptureNext s u h a c) {i : Instr} (f : Work s → HeldEntry → Nat → Work s)
    (run : exec i s = .next (captureEffect (Work.start s) u a f).finish) {P : State → Prop} (does : ∀ v, TakenOff s u h v → P (f v h c).finish) : Answers i s P :=
  ⟨_, run.trans (by rw [captureEffect_eq next]), does _ (takeDue_off u h)⟩

/-- Registers of a list written, and tile u without a change of its clasps. -/
def Acts (fs : List Fld) (u : Nat) (v w : Work s) : Prop :=
  Writes (· ∈ fs) v w ∧ (Quiet v → Quiet w) ∧ (w.tile u).clasps = (v.tile u).clasps

section

variable {fs : List Fld} {u : Nat} {v w w' : Work s}

theorem Acts.refl (v : Work s) : Acts fs u v v := ⟨Writes.refl v, id, rfl⟩

theorem Acts.set (h : Acts fs u v w) (f : Fld) (n : Nat) (hf : f ∈ fs) : Acts fs u v (w.set f n) := ⟨h.1.set f n hf, h.2⟩

theorem Acts.inc (h : Acts fs u v w) (f : Fld) (hf : f ∈ fs) : Acts fs u v (w.inc f) := h.set f _ hf

theorem Acts.updCap (h : Acts fs u v w) (hu : u < 32) (f : CapUnit → CapUnit) : Acts fs u v (w.updCap u f) := by
  refine ⟨h.1, h.2.1, ?_⟩
  rw [Work.updCap, tile_updTile_self _ _ _ hu]
  exact h.2.2

theorem Acts.trans (h : Acts fs u v w) (h' : Acts fs u w w') : Acts fs u v w' :=
  ⟨h.1.trans h'.1, fun q => h'.2.1 (h.2.1 q), h'.2.2.trans h.2.2⟩

theorem Acts.ite {p : Prop} [Decidable p] (h : Acts fs u v w) (h' : Acts fs u v w') : Acts fs u v (if p then w else w') := by
  split
  · exact h
  · exact h'

theorem Acts.mono {gs : List Fld} (h : Acts fs u v w) (sub : fs ⊆ gs) : Acts gs u v w := ⟨h.1.mono (fun _ hg => sub hg), h.2⟩

end

/-- What such a command leaves: the entry taken, and the registers that it writes. -/
theorem acts_finish (hs : s.wf = true) {u : Fin 32} {h : HeldEntry} {v w : Work s} (off : TakenOff s u h v) {fs : List Fld} (acts : Acts fs u v w)
    (apart : ∀ f ∈ fs, (CLASP_COLLIDE u).key ≠ f.key) : Taken s w.finish u 32 (.one h) ∧ Frame s w.finish (CLASP_COLLIDE u :: fs) := by
  obtain ⟨writes, quiet, clasps⟩ := acts
  refine ⟨⟨(congrArg (fun x => (vget x Clasp.reset 32).items) clasps).trans off.items, fun single => (Work.finish_get _ _ hs).trans ((writes _ apart).trans (off.collide single))⟩,
    frame_finish hs (fun f hf => (writes f (fun g hg => hf g (List.mem_cons_of_mem _ hg))).trans (off.regs f (hf _ List.mem_cons_self))) (quiet off.quiet)⟩

theorem cap_finish (w : Work s) (u : Nat) : (w.finish.tile u).cap = w.cap u := rfl

theorem cap_updCap (w : Work s) {u : Nat} (hu : u < 32) (f : CapUnit → CapUnit) : (w.updCap u f).cap u = f (w.cap u) := by
  rw [Work.cap, Work.updCap, tile_updTile_self _ _ _ hu]
  rfl

/-! ## Classes and their unit, with an entry gone (R239, R247) -/

section

variable {u : Fin 32} {h : HeldEntry} {v : Work s} (off : TakenOff s u h v)

theorem unit_apart (u : Fin 32) : ∀ f ∈ [CAP_STATE_STATE u, CAP_STATE_CLASS u], f.key ≠ (CLASP_COLLIDE u).key := by
  simp only [List.mem_cons, List.not_mem_nil, or_false, forall_eq_or_imp, forall_eq, Fld.key, CAP_STATE_STATE, CAP_STATE_CLASS, CLASP_COLLIDE]
  omega

theorem class_apart (u : Fin 32) (c : Nat) : ∀ f ∈ [CAPCLASS_SRC_COND_EN u c, CAPCLASS_SRC_RSV u c, CAPCLASS_SRC_RSV2 u c, CAPCLASS_LEN_RSV u c, CAPCLASS_POST_RSV u c,
    CAPCLASS_COND_RSV u c, CAPCLASS_AREA_RSV u c, CAPCLASS_SRC_FORMAT u c, CAPCLASS_SRC_CHMASK u c, CAPCLASS_LEN_PRE u c, CAPCLASS_DEST_QUEUE u c, CAPCLASS_DEST_CHAN u c,
    CAPCLASS_POST_M1 u c, CAPCLASS_DEST_SLOTS_M1 u c], f.key ≠ (CLASP_COLLIDE u).key := by
  simp only [List.mem_cons, List.not_mem_nil, or_false, forall_eq_or_imp, forall_eq, Fld.key, CAPCLASS_SRC_COND_EN, CAPCLASS_SRC_RSV, CAPCLASS_SRC_RSV2,
    CAPCLASS_LEN_RSV, CAPCLASS_POST_RSV, CAPCLASS_COND_RSV, CAPCLASS_AREA_RSV, CAPCLASS_SRC_FORMAT, CAPCLASS_SRC_CHMASK, CAPCLASS_LEN_PRE, CAPCLASS_DEST_QUEUE,
    CAPCLASS_DEST_CHAN, CAPCLASS_POST_M1, CAPCLASS_DEST_SLOTS_M1, CLASP_COLLIDE]
  omega

include off

theorem TakenOff.unit : ∀ f ∈ [CAP_STATE_STATE u, CAP_STATE_CLASS u], v.get f = s.get f := fun f hf => off.regs f (unit_apart u f hf)

theorem TakenOff.cls (c : Nat) : ∀ f ∈ [CAPCLASS_SRC_COND_EN u c, CAPCLASS_SRC_RSV u c, CAPCLASS_SRC_RSV2 u c, CAPCLASS_LEN_RSV u c, CAPCLASS_POST_RSV u c,
    CAPCLASS_COND_RSV u c, CAPCLASS_AREA_RSV u c, CAPCLASS_SRC_FORMAT u c, CAPCLASS_SRC_CHMASK u c, CAPCLASS_LEN_PRE u c, CAPCLASS_DEST_QUEUE u c, CAPCLASS_DEST_CHAN u c,
    CAPCLASS_POST_M1 u c, CAPCLASS_DEST_SLOTS_M1 u c], v.get f = s.get f := fun f hf => off.regs f (class_apart u c f hf)

theorem TakenOff.state : capState v u = s.get (CAP_STATE_STATE u) := off.unit _ (by simp)

theorem TakenOff.armedClass (c : Nat) : armedClass v u c = Machine.armedClass s.view u c := by
  rw [Machine.armedClass, Machine.armedClass, capArmed, capArmed, capClass, capClass, off.state, off.cap, off.unit _ (by simp)]
  rfl

theorem TakenOff.classValid (c : Nat) : classValid v u c = Machine.classValid s.view u c := by
  have regs : ∀ f ∈ _, v.get f = s.view.get f := off.cls c
  simp only [List.mem_cons, List.not_mem_nil, or_false, forall_eq_or_imp, forall_eq] at regs
  obtain ⟨cond, rsv, rsv2, lenRsv, postRsv, condRsv, areaRsv, format, mask, pre, queue, -, -, -⟩ := regs
  simp only [Machine.classValid, classReserved, List.any_cons, List.any_nil, Work.getBit, Work.on, cond, rsv, rsv2, lenRsv, postRsv, condRsv, areaRsv, format, mask, pre,
    queue]

end

theorem class_lt {u : Fin 32} {h : HeldEntry} {a c : Nat} (next : CaptureNext s u h a c) : c < 32 := by
  obtain ⟨-, -, cls⟩ := next
  rw [← cls]
  exact Nat.mod_lt _ (by decide)

/-! ## A class armed at once (R246, R247, R453) -/

/-- The registers of a class armed now. -/
def marked (w : Work s) (t c : Nat) : Work s := ((w.set (CAP_STATE_CLASS t) c).set (CAP_STATE_STATE t) FILLING).set (RING_USED t) 1

/-- A ring from the present frame on. -/
def begun (w : Work s) (t c : Nat) : Work s := w.updCap t (fun x => { x with
  ringStart := w.now, ring := [], results := [], points := [], rec_ := none, disarm := false, runLevel := false, runWindow := false, tested := 0
  lastM := capMPrev w t (w.get (CAPCLASS_COND_DCH t c)) })

theorem capStart_def (w : Work s) (t c : Nat) : capStart w t c = calMeets (capFilled (begun (marked w t c) t c) t) t := rfl

theorem calMeets_acts (w : Work s) (t : Nat) : Acts [ADC_CAL_RUNNING t] t w (calMeets w t) ∧ (calMeets w t).dev = w.dev := by
  rw [calMeets]
  split
  · exact ⟨(Acts.refl w).set _ _ List.mem_cons_self, rfl⟩
  · exact ⟨Acts.refl w, rfl⟩

theorem calMeets_sampling {w : Work s} {t : Nat} (sampling : capSampling w t = true) : (calMeets w t).get (ADC_CAL_RUNNING t) = 0 := by
  rw [calMeets, sampling, Bool.or_true, Bool.and_true]
  split
  next => exact Work.get_set_self _ _ _
  next still =>
    rw [on_eq, decide_eq_true_eq, not_not] at still
    exact still

theorem capFilled_acts (w : Work s) (t : Nat) : Acts [CAP_STATE_STATE t] t w (capFilled w t) ∧ (capFilled w t).dev = w.dev := by
  rw [capFilled]
  split
  · exact ⟨(Acts.refl w).set _ _ List.mem_cons_self, rfl⟩
  · exact ⟨Acts.refl w, rfl⟩

/-- The unit fields of a class armed at once. -/
def armFlds (t : Nat) : List Fld := [CAP_STATE_CLASS t, CAP_STATE_STATE t, RING_USED t, ADC_CAL_RUNNING t]

theorem arm_apart (u : Fin 32) : (CAP_STATE_CLASS u).key ≠ (CAP_STATE_STATE u).key ∧ (CAP_STATE_CLASS u).key ≠ (RING_USED u).key ∧
    (CAP_STATE_STATE u).key ≠ (RING_USED u).key ∧ (∀ f ∈ [CAP_STATE_CLASS u, CAP_STATE_STATE u, RING_USED u], f.key ≠ (ADC_CAL_RUNNING u).key) ∧
    (∀ c : Nat, ∀ f ∈ [CAPCLASS_LEN_PRE u c, CAPCLASS_SRC_FORMAT u c], ∀ g ∈ armFlds u, f.key ≠ g.key) ∧
    ∀ f ∈ armFlds u, (CLASP_COLLIDE u).key ≠ f.key := by
  simp only [armFlds, List.mem_cons, List.not_mem_nil, or_false, forall_eq_or_imp, forall_eq, Fld.key, CAP_STATE_CLASS, CAP_STATE_STATE, RING_USED, ADC_CAL_RUNNING,
    CAPCLASS_LEN_PRE, CAPCLASS_SRC_FORMAT, CLASP_COLLIDE, hid, tileBase]
  refine ⟨?_, ?_, ?_, ?_, fun c => ?_, ?_⟩ <;> omega

theorem marked_get (w : Work s) (u : Fin 32) (c : Nat) : (marked w u c).get (CAP_STATE_CLASS u) = c % 32 ∧ (marked w u c).get (CAP_STATE_STATE u) = FILLING := by
  obtain ⟨classState, classRing, stateRing, -⟩ := arm_apart u
  constructor
  · rw [marked, Work.get_set_ne _ _ _ _ classRing, Work.get_set_ne _ _ _ _ classState, Work.get_set_self]
    rfl
  · rw [marked, Work.get_set_ne _ _ _ _ stateRing, Work.get_set_self]
    rfl

theorem begun_cap (w : Work s) {t : Nat} (ht : t < 32) (c : Nat) : ((begun w t c).cap t).ringStart = w.now ∧ ((begun w t c).cap t).rec_ = none ∧
    ((begun w t c).cap t).dead = (w.cap t).dead ∧ ((begun w t c).cap t).disarm = false := by
  rw [begun, cap_updCap w ht]
  exact ⟨rfl, rfl, rfl, rfl⟩

theorem capFilled_get {w : Work s} {u : Fin 32} (fresh : (w.cap u).ringStart = w.now) (filling : w.get (CAP_STATE_STATE u) = FILLING) :
    (capFilled w u).get (CAP_STATE_STATE u) = if w.get (CAPCLASS_LEN_PRE u (w.get (CAP_STATE_CLASS u))) = 0 then ARMED else FILLING := by
  rw [capFilled, fresh, capClass]
  split
  next full => rw [Work.get_set_self, if_pos (by omega)]; rfl
  next lacks => rw [filling, if_neg (by omega)]

/-- What a class armed at once shows. -/
theorem capStart_shows (w : Work s) (u : Fin 32) {c : Nat} (hc : c < 32) :
    Acts (armFlds u) u w (capStart w u c) ∧ (capStart w u c).get (CAP_STATE_CLASS u) = c ∧
    (capStart w u c).get (CAP_STATE_STATE u) = (if w.get (CAPCLASS_LEN_PRE u c) = 0 then ARMED else FILLING) ∧
    (w.get (CAPCLASS_SRC_FORMAT u c) < 3 → (capStart w u c).get (ADC_CAL_RUNNING u) = 0) ∧
    ((capStart w u c).cap u).ringStart = w.now ∧ ((capStart w u c).cap u).rec_ = none ∧ ((capStart w u c).cap u).dead = (w.cap u).dead ∧
    ((capStart w u c).cap u).disarm = false := by
  obtain ⟨classState, -, -, running, params, -⟩ := arm_apart u
  obtain ⟨cls, state⟩ := marked_get w u c
  rw [Nat.mod_eq_of_lt hc] at cls
  have mark : Acts (armFlds u) u w (marked w u c) := by
    rw [marked]
    refine Acts.set (Acts.set (Acts.set (Acts.refl w) _ _ ?_) _ _ ?_) _ _ ?_
    all_goals simp [armFlds]
  have markDev : (marked w u c).cap u = w.cap u ∧ (marked w u c).now = w.now := ⟨rfl, rfl⟩
  rw [capStart_def]
  generalize marked w u c = v at *
  obtain ⟨ringStart, rec_, dead, disarm⟩ := begun_cap v u.isLt c
  have begin_ : Acts (armFlds u) u v (begun v u c) := (Acts.refl v).updCap u.isLt _
  have gets : ∀ f, (begun v u c).get f = v.get f := fun f => Work.get_updCap _ _ _ _
  have now : (begun v u c).now = v.now := rfl
  generalize begun v u c = b at *
  have pre : b.get (CAPCLASS_LEN_PRE u (b.get (CAP_STATE_CLASS u))) = w.get (CAPCLASS_LEN_PRE u c) := by
    rw [gets, gets, cls]
    exact mark.1 _ (params c _ (by simp))
  have filled := capFilled_get (w := b) (u := u) (ringStart.trans now.symm) (by rw [gets, state])
  rw [pre] at filled
  obtain ⟨fills, fillDev⟩ := capFilled_acts b u
  generalize capFilled b u = g at *
  have fillCls : g.get (CAP_STATE_CLASS u) = c := by
    rw [fills.1 _ (fun f hf => by rw [List.mem_singleton.1 hf]; exact classState), gets, cls]
  have all : Acts (armFlds u) u w g := (mark.trans begin_).trans (fills.mono (by simp [armFlds]))
  obtain ⟨meets, meetDev⟩ := calMeets_acts g u
  have kept : ∀ f ∈ [CAP_STATE_CLASS u, CAP_STATE_STATE u, RING_USED u], (calMeets g u).get f = g.get f := fun f hf =>
    meets.1 f (fun x hx => by rw [List.mem_singleton.1 hx]; exact running f hf)
  have cap : (calMeets g u).cap u = b.cap u := by rw [Work.cap, Work.tile, meetDev, fillDev, ← Work.tile, ← Work.cap]
  refine ⟨all.trans (meets.mono (by simp [armFlds])), (kept _ (by simp)).trans fillCls, (kept _ (by simp)).trans filled, fun format => ?_, ?_⟩
  · refine calMeets_sampling ?_
    have on : g.on (CAP_STATE_STATE u) = true := by
      rw [on_eq, filled]
      split <;> rfl
    rw [capSampling, on, fillCls, all.1 _ (params c _ (by simp))]
    exact decide_eq_true format
  · rw [cap]
    exact ⟨ringStart.trans markDev.2, rec_, dead.trans (congrArg CapUnit.dead markDev.1), disarm⟩

/-! ## ARM and DISARM (R239, R247) -/

theorem busy_apart (u : Fin 32) : (CAP_STATE_PVALID u).key ≠ (CAP_STATE_PCLASS u).key ∧ (∀ f ∈ [CAP_STATE_PVALID u, CAP_STATE_PCLASS u, CAP_STATE_STATE u,
    CAP_MISC_STRAY u, CAP_MISC_SNAP_LOST u, CAP_LOST u], (CLASP_COLLIDE u).key ≠ f.key) ∧ (CAP_STATE_STATE u).key ≠ (CAP_STATE_PVALID u).key := by
  simp only [List.mem_cons, List.not_mem_nil, or_false, forall_eq_or_imp, forall_eq, Fld.key, CAP_STATE_PVALID, CAP_STATE_PCLASS, CAP_STATE_STATE, CLASP_COLLIDE,
    CAP_MISC_STRAY, CAP_MISC_SNAP_LOST, CAP_LOST]
  omega

section

variable {u : Fin 32} {h : HeldEntry} {c : Nat}

/-- What ACQ_ARM does behind its entry. -/
def armBehind (u : Nat) (w : Work s) (h : HeldEntry) (c : Nat) : Work s :=
  if !classValid w u c then claspFault w u 32 FORMAT h.entry h.margin
  else capArm (if w.getBit (CAPCLASS_SRC_COND_EN u c) 13 then sendMsg w ⟨0, c, ⟨h.entry.stamp, 0, 0, u, devNum w⟩⟩ else w) u c

theorem acqArm_run (s : State) (u : Fin 32) : exec (.acqArm u) s = .next (captureEffect (Work.start s) u 1 (armBehind u)).finish := rfl

/-- ARM of a valid class outside a fire group, behind its entry. -/
theorem armBehind_valid {v : Work s} (off : TakenOff s u h v) (valid : classValid s.view u c = true) (alone : bit (s.get (CAPCLASS_SRC_COND_EN u c)) 13 = false) :
    armBehind u v h c = capArm v u c := by
  have single : v.getBit (CAPCLASS_SRC_COND_EN u c) 13 = false := by
    rw [Work.getBit, off.cls c _ (by simp)]
    exact alone
  rw [armBehind, off.classValid, valid, single, if_neg (by decide), if_neg (by decide)]

theorem armBehind_invalid {v : Work s} (off : TakenOff s u h v) (valid : classValid s.view u c = false) :
    armBehind u v h c = claspFault v u 32 FORMAT h.entry h.margin := by
  rw [armBehind, off.classValid, valid]
  exact if_pos rfl

variable (hs : s.wf = true)
include hs

theorem arm_pends (next : CaptureNext s u h 1 c) (valid : classValid s.view u c = true) (alone : bit (s.get (CAPCLASS_SRC_COND_EN u c)) 13 = false)
    (busy : capBusy s u) : Answers (.acqArm u) s (fun t => t.get (CAP_STATE_PVALID u) = 1 ∧ t.get (CAP_STATE_PCLASS u) = c ∧ Taken s t u 32 (.one h) ∧
      (t.tile u).cap = { (s.tile u).cap with disarm := false } ∧ Frame s t [CLASP_COLLIDE u, CAP_STATE_PVALID u, CAP_STATE_PCLASS u]) := by
  refine capture_answers next _ (acqArm_run s u) (fun v off => ?_)
  have busy' : capState v u = RECORDING ∨ capState v u = REARM := by
    rw [off.state]
    exact busy
  obtain ⟨pend, apart, -⟩ := busy_apart u
  rw [armBehind_valid off valid alone, capArm, if_pos busy']
  have shows : ((v.set (CAP_STATE_PVALID u) 1).set (CAP_STATE_PCLASS u) c).get (CAP_STATE_PVALID u) = 1 ∧
      ((v.set (CAP_STATE_PVALID u) 1).set (CAP_STATE_PCLASS u) c).get (CAP_STATE_PCLASS u) = c := by
    rw [Work.get_set_ne _ _ _ _ pend, Work.get_set_self, Work.get_set_self]
    exact ⟨rfl, Nat.mod_eq_of_lt (class_lt next)⟩
  have acts : Acts [CAP_STATE_PVALID u, CAP_STATE_PCLASS u] u v ((v.set (CAP_STATE_PVALID u) 1).set (CAP_STATE_PCLASS u) c) :=
    ((Acts.refl v).set _ _ (by simp)).set _ _ (by simp)
  have cap : ((v.set (CAP_STATE_PVALID u) 1).set (CAP_STATE_PCLASS u) c).cap u = (s.tile u).cap := off.cap
  generalize (v.set (CAP_STATE_PVALID u) 1).set (CAP_STATE_PCLASS u) c = w at *
  obtain ⟨taken, frame⟩ := acts_finish hs off (acts.updCap u.isLt (fun x => { x with disarm := false })) (fun f hf => apart f (List.mem_append_left [CAP_STATE_STATE u,
    CAP_MISC_STRAY u, CAP_MISC_SNAP_LOST u, CAP_LOST u] hf))
  refine ⟨(Work.finish_get _ _ hs).trans shows.1, (Work.finish_get _ _ hs).trans shows.2, taken, ?_, frame⟩
  exact (cap_updCap w u.isLt (fun x => { x with disarm := false })).trans (by rw [cap])

theorem arm_now (next : CaptureNext s u h 1 c) (valid : classValid s.view u c = true) (alone : bit (s.get (CAPCLASS_SRC_COND_EN u c)) 13 = false)
    (idle : ¬capBusy s u) : Answers (.acqArm u) s (fun t => t.get (CAP_STATE_CLASS u) = c ∧
        t.get (CAP_STATE_STATE u) = (if s.get (CAPCLASS_LEN_PRE u c) = 0 then ARMED else FILLING) ∧
        (t.tile u).cap.ringStart = s.tl.count ∧ (t.tile u).cap.rec_ = none ∧ (t.tile u).cap.dead = 0 ∧
        (t.tile u).cap.disarm = false ∧ Taken s t u 32 (.one h) ∧
        (s.get (CAPCLASS_SRC_FORMAT u c) < 3 → t.get (ADC_CAL_RUNNING u) = 0) ∧
        Frame s t [CLASP_COLLIDE u, CAP_STATE_CLASS u, CAP_STATE_STATE u, RING_USED u, ADC_CAL_RUNNING u]) := by
  refine capture_answers next _ (acqArm_run s u) (fun v off => ?_)
  have idle' : ¬(capState v u = RECORDING ∨ capState v u = REARM) := by
    rw [off.state]
    exact idle
  obtain ⟨-, -, -, -, -, apart⟩ := arm_apart u
  rw [armBehind_valid off valid alone, capArm, if_neg idle', capArmNow]
  have dead : ((v.updCap u (fun x => { x with dead := 0 })).cap u).dead = 0 := by rw [cap_updCap v u.isLt]
  have reset : Acts (armFlds u) u v (v.updCap u (fun x => { x with dead := 0 })) := (Acts.refl v).updCap u.isLt _
  have now : (v.updCap u (fun x => { x with dead := 0 })).now = s.tl.count := congrArg Tl.count off.tl
  have params : ∀ f ∈ [CAPCLASS_LEN_PRE u c, CAPCLASS_SRC_FORMAT u c], (v.updCap u (fun x => { x with dead := 0 })).get f = s.get f := fun f hf =>
    (Work.get_updCap _ _ _ _).trans (off.cls c f (by
      simp only [List.mem_cons, List.not_mem_nil, or_false] at hf ⊢
      tauto))
  generalize v.updCap u (fun x => { x with dead := 0 }) = w at *
  obtain ⟨acts, cls, state, calibration, ringStart, rec_, dead', disarm⟩ := capStart_shows w u (class_lt next)
  rw [params _ (by simp)] at state calibration
  generalize capStart w u c = z at *
  obtain ⟨taken, frame⟩ := acts_finish hs off (reset.trans acts) apart
  refine ⟨(Work.finish_get _ _ hs).trans cls, (Work.finish_get _ _ hs).trans state, ?_, ?_, ?_, ?_, taken,
    fun format => (Work.finish_get _ _ hs).trans (calibration format), frame⟩
  all_goals rw [cap_finish]
  exacts [ringStart.trans now, rec_, dead'.trans dead, disarm]

/-- ARM of an invalid class (R239). -/
theorem arm_invalid (next : CaptureNext s u h 1 c) (valid : classValid s.view u c = false) : Answers (.acqArm u) s (fun t =>
      Faulted s t u FORMAT ∧ Taken s t u 32 (.one h) ∧ Frame s t (CLASP_COLLIDE u :: faultFlds u)) := by
  refine capture_answers next _ (acqArm_run s u) (fun v off => ?_)
  rw [armBehind_invalid off valid]
  obtain ⟨writes, quiet⟩ := claspFault_writes v u 32 FORMAT h.entry h.margin
  have apart : ∀ f ∈ NT_NOW :: faultFlds u, f.key ≠ (CLASP_COLLIDE u).key := by
    simp only [faultFlds, List.mem_cons, List.not_mem_nil, or_false, forall_eq_or_imp, forall_eq, Fld.key, NT_NOW, hidDev, hid, CLASP_UNDERRUN, CLASP_FIRST_VALID,
      CLASP_FIRST_CAUSE, CLASP_FIRST_CLASP, CLASP_FIRST_KIND, CLASP_FIRST_MARGIN, CLASP_FIRST_STAMP_LO, CLASP_FIRST_STAMP_HI, CLASP_COLLIDE, tileBase]
    omega
  have acts : Acts (faultFlds u) u v (claspFault v u 32 FORMAT h.entry h.margin) :=
    ⟨writes, quiet, congrArg Tile.clasps (claspFault_tile v u 32 FORMAT h.entry h.margin u)⟩
  obtain ⟨taken, frame⟩ := acts_finish hs off acts (fun f hf => (apart f (List.mem_cons_of_mem _ hf)).symm)
  exact ⟨faulted_finish hs u 32 (by decide) h.entry h.margin (fun f hf => off.regs f (apart f hf)) off.tl off.held, taken, frame⟩

end

/-! ## Messages of a fire group (R256, R259) -/

theorem lineBlocks_quiet {w : Work s} (quiet : Quiet w) (l : List (Nat × Nat × Nat)) : Quiet (lineBlocks w l).2 := by
  induction l generalizing w with
  | nil => exact quiet
  | cons b bs ih => exact ih (w := (lineBlock w b.1 b.2.1 b.2.2).2) quiet

theorem interval_quiet {w : Work s} (quiet : Quiet w) (l : Nat) (f : Nat → Option (Nat × Nat)) : Quiet (interval w l f) := by
  simp only [interval]
  split
  · exact quiet
  · exact lineBlocks_quiet quiet _

theorem sendCopies_acts (w : Work s) (u l p : Nat) : Acts [] u w (sendCopies w l p) ∧ (sendCopies w l p).cap u = w.cap u := by
  rw [sendCopies]
  split
  · exact ⟨Acts.refl w, rfl⟩
  · obtain ⟨gets, -, -, -, -, -, dev⟩ := copiesNow_onlyOut w l p
    have tile : (copiesNow w l p).tile u = w.tile u := by
      rw [Work.tile, dev]
      rfl
    exact ⟨⟨fun f _ => gets f, fun quiet => interval_quiet quiet _ _, congrArg Tile.clasps tile⟩, congrArg Tile.cap tile⟩

/-- A message that leaves over the links writes no register and changes no tile. -/
theorem sendMsg_acts (w : Work s) (u : Nat) (m : TrigMsg) : Acts [] u w (sendMsg w m) ∧ (sendMsg w m).cap u = w.cap u := by
  rw [sendMsg, sendTokens]
  split
  · refine Work.each_keeps (fun v : Work s => Acts [] u w v ∧ v.cap u = w.cap u) _ (fun v l hv => ?_) _ _ ⟨Acts.refl w, rfl⟩
    split
    · obtain ⟨acts, cap⟩ := sendCopies_acts v u l (trigBlock (trigToken m))
      exact ⟨hv.1.trans acts, cap.trans hv.2⟩
    · exact hv
  · exact ⟨Acts.refl w, rfl⟩

/-! ## DISARM (R247, R256) -/

/-- A DISARM that takes effect told to its fire group. -/
def told (u : Nat) (w : Work s) (h : HeldEntry) (c : Nat) : Work s :=
  if armedClass w u c && condOn w u 13 then sendMsg w ⟨2, c, ⟨h.entry.stamp, 0, 0, u, devNum w⟩⟩ else w

theorem acqDisarm_run (s : State) (u : Fin 32) : exec (.acqDisarm u) s = .next (captureEffect (Work.start s) u 3 (fun w h c => capDisarm (told u w h c) u c)).finish := rfl

theorem told_acts (u : Nat) (w : Work s) (h : HeldEntry) (c : Nat) : Acts [] u w (told u w h c) ∧ (told u w h c).cap u = w.cap u := by
  rw [told]
  split
  · exact sendMsg_acts w u _
  · exact ⟨Acts.refl w, rfl⟩

/-- The registers that no message writes. -/
theorem told_get (u : Nat) (w : Work s) (h : HeldEntry) (c : Nat) (f : Fld) : (told u w h c).get f = w.get f :=
  (told_acts u w h c).1.1 f (fun _ hg => absurd hg List.not_mem_nil)

theorem told_armed (u : Nat) (w : Work s) (h : HeldEntry) (c : Nat) : armedClass (told u w h c) u c = armedClass w u c := by
  rw [armedClass, armedClass, capArmed, capArmed, capClass, capClass, capState, capState, told_get, told_get, (told_acts u w h c).2]

section

variable {u : Fin 32} {h : HeldEntry} {c : Nat} (hs : s.wf = true)
include hs

theorem disarm_stray (next : CaptureNext s u h 3 c) (other : armedClass s.view u c = false) : Answers (.acqDisarm u) s (fun t =>
      t.get (CAP_MISC_STRAY u) = min (2 ^ (CAP_MISC_STRAY u).width - 1) (s.get (CAP_MISC_STRAY u) + 1) ∧
      Taken s t u 32 (.one h) ∧ Frame s t [CLASP_COLLIDE u, CAP_MISC_STRAY u]) := by
  refine capture_answers next _ (acqDisarm_run s u) (fun v off => ?_)
  obtain ⟨-, apart, -⟩ := busy_apart u
  have still : told u v h c = v := by
    rw [told, off.armedClass, other]
    exact if_neg Bool.false_ne_true
  have run : capDisarm v u c = v.inc (CAP_MISC_STRAY u) := by
    rw [capDisarm, off.armedClass, other]
    exact if_pos rfl
  rw [still, run]
  obtain ⟨taken, frame⟩ := acts_finish hs off ((Acts.refl v).inc (CAP_MISC_STRAY u) (List.mem_singleton_self _)) (fun f hf => apart f (by
    rw [List.mem_singleton.1 hf]
    simp))
  refine ⟨(Work.finish_get _ _ hs).trans ?_, taken, frame⟩
  rw [get_inc, off.regs _ (apart _ (by simp)).symm]

theorem disarm_busy (next : CaptureNext s u h 3 c) (busy : capBusy s u) (armed : armedClass s.view u c = true) : Answers (.acqDisarm u) s (fun t =>
        t.get (CAP_STATE_PVALID u) = 0 ∧ (t.tile u).cap = { (s.tile u).cap with disarm := true } ∧
        Taken s t u 32 (.one h) ∧ Frame s t [CLASP_COLLIDE u, CAP_STATE_PVALID u]) := by
  refine capture_answers next _ (acqDisarm_run s u) (fun v off => ?_)
  obtain ⟨-, apart, -⟩ := busy_apart u
  obtain ⟨acts, cap⟩ := told_acts u v h c
  have gets := told_get u v h c
  have armed' := (told_armed u v h c).trans ((off.armedClass c).trans armed)
  generalize told u v h c = w at *
  have busy' : capState w u = RECORDING ∨ capState w u = REARM := by
    rw [capState, gets, off.unit _ (by simp)]
    exact busy
  have run : capDisarm w u c = (w.set (CAP_STATE_PVALID u) 0).updCap u (fun x => { x with disarm := true }) := by
    rw [capDisarm, armed']
    exact if_pos busy'
  rw [run]
  have cleared : Acts [CAP_STATE_PVALID u] u v (w.set (CAP_STATE_PVALID u) 0) := (acts.mono (by simp)).set _ _ List.mem_cons_self
  have value : (w.set (CAP_STATE_PVALID u) 0).get (CAP_STATE_PVALID u) = 0 := Work.get_set_self _ _ _
  have cap' : (w.set (CAP_STATE_PVALID u) 0).cap u = (s.tile u).cap := cap.trans off.cap
  generalize w.set (CAP_STATE_PVALID u) 0 = z at *
  obtain ⟨taken, frame⟩ := acts_finish hs off (cleared.updCap u.isLt (fun x => { x with disarm := true })) (fun f hf => apart f (by
    rw [List.mem_singleton.1 hf]
    simp))
  refine ⟨(Work.finish_get _ _ hs).trans value, ?_, taken, frame⟩
  rw [cap_finish, cap_updCap z u.isLt, cap']

theorem disarm_idle (next : CaptureNext s u h 3 c) (idle : ¬capBusy s u) (armed : armedClass s.view u c = true) : Answers (.acqDisarm u) s (fun t =>
          t.get (CAP_STATE_STATE u) = IDLE ∧ t.get (CAP_STATE_PVALID u) = 0 ∧ (t.tile u).cap.rec_ = none ∧
          (t.tile u).cap.points = [] ∧ Taken s t u 32 (.one h) ∧
          Frame s t [CLASP_COLLIDE u, CAP_STATE_STATE u, CAP_STATE_PVALID u]) := by
  refine capture_answers next _ (acqDisarm_run s u) (fun v off => ?_)
  obtain ⟨-, apart, stateOff⟩ := busy_apart u
  obtain ⟨acts, cap⟩ := told_acts u v h c
  have gets := told_get u v h c
  have armed' := (told_armed u v h c).trans ((off.armedClass c).trans armed)
  generalize told u v h c = w at *
  have idle' : ¬(capState w u = RECORDING ∨ capState w u = REARM) := by
    rw [capState, gets, off.unit _ (by simp)]
    exact idle
  have run : capDisarm w u c = capIdle w u := by
    rw [capDisarm, armed']
    exact if_neg idle'
  rw [run, capIdle]
  have cleared : Acts [CAP_STATE_STATE u, CAP_STATE_PVALID u] u v ((w.set (CAP_STATE_STATE u) IDLE).set (CAP_STATE_PVALID u) 0) :=
    ((acts.mono (by simp)).set _ _ (by simp)).set _ _ (by simp)
  have values : ((w.set (CAP_STATE_STATE u) IDLE).set (CAP_STATE_PVALID u) 0).get (CAP_STATE_STATE u) = IDLE ∧
      ((w.set (CAP_STATE_STATE u) IDLE).set (CAP_STATE_PVALID u) 0).get (CAP_STATE_PVALID u) = 0 := by
    rw [Work.get_set_ne _ _ _ _ stateOff, Work.get_set_self, Work.get_set_self]
    exact ⟨rfl, rfl⟩
  generalize (w.set (CAP_STATE_STATE u) IDLE).set (CAP_STATE_PVALID u) 0 = z at *
  obtain ⟨taken, frame⟩ := acts_finish hs off (cleared.updCap u.isLt (fun x => { x with ring := [], results := [], points := [], rec_ := none, disarm := false }))
    (fun f hf => by
      rcases List.mem_cons.1 hf with rfl | hf
      · exact apart _ (by simp)
      · rw [List.mem_singleton.1 hf]
        exact apart _ (by simp))
  refine ⟨(Work.finish_get _ _ hs).trans values.1, (Work.finish_get _ _ hs).trans values.2, ?_, ?_, taken, frame⟩
  · rw [cap_finish, cap_updCap z u.isLt]
  · rw [cap_finish, cap_updCap z u.isLt]

end

theorem captureArming : Clause.CaptureArming := by
  intro s hs u h c
  exact ⟨fun next valid alone => ⟨fun busy => arm_pends hs next valid alone busy, fun idle => arm_now hs next valid alone idle⟩,
    fun next valid => arm_invalid hs next valid, fun next => ⟨fun other => disarm_stray hs next other,
      fun busy armed => disarm_busy hs next busy armed, fun idle armed => disarm_idle hs next idle armed⟩⟩

/-! ## FIRE (R243, R248, R249) -/

/-- What ACQ_FIRE does behind its entry. -/
def fireBehind (u : Nat) (w : Work s) (h : HeldEntry) (c : Nat) : Work s :=
  if !armedClass w u c then w.inc (CAP_MISC_STRAY u)
  else capLocal w u 0 h.entry.stamp (10 * h.entry.slot / 16) ((125 * h.entry.slot - 200 * (10 * h.entry.slot / 16)) / 16) none

theorem acqFire_run (s : State) (u : Fin 32) : exec (.acqFire u) s = .next (captureEffect (Work.start s) u 2 (fireBehind u)).finish := rfl

/-- The occurrence of a FIRE. -/
def fired (s : State) (u : Nat) (e : Entry) : CapPoint := ⟨firePoint s u e, 0, none, false⟩

theorem device_apart (u : Fin 32) : (CAP_XGROUP_DEVNUM 0).key ≠ (CLASP_COLLIDE u).key := by
  simp only [Fld.key, CAP_XGROUP_DEVNUM, CLASP_COLLIDE, tileBase]
  omega

section

variable {u : Fin 32} {h : HeldEntry} {c : Nat}

/-- FIRE of the armed class that enables it is an occurrence at its stamp. -/
theorem fireBehind_occurs {v : Work s} (off : TakenOff s u h v) (due : h.entry.stamp ≤ s.tl.count) (armed : armedClass s.view u c = true)
    (enabled : bit (s.get (CAPCLASS_SRC_COND_EN u c)) 0 = true) (alone : bit (s.get (CAPCLASS_SRC_COND_EN u c)) 13 = false) :
    fireBehind u v h c = capOccur v u (fired s u h.entry) := by
  have armed' : armedClass v u c = true := (off.armedClass c).trans armed
  obtain ⟨on, cls⟩ : capArmed v u = true ∧ capClass v u = c := by
    rw [armedClass, Bool.and_eq_true] at armed'
    exact ⟨armed'.1, of_decide_eq_true armed'.2⟩
  have conds : ∀ n, condOn v u n = bit (s.get (CAPCLASS_SRC_COND_EN u c)) n := fun n => by
    rw [condOn, on, cls, Work.getBit, off.cls c _ (by simp)]
    rfl
  have device : devNum v = s.get (CAP_XGROUP_DEVNUM 0) := off.regs _ (device_apart u)
  have due' : h.entry.stamp ≤ v.now := by
    rw [Work.now, off.tl]
    exact due
  rw [fireBehind, armed', capLocal, device, if_neg (by decide)]
  refine (if_pos due').trans ?_
  show capMeet v u (fired s u h.entry) = _
  rw [capMeet]
  show (if (!condOn v u 0) = true then v else _) = _
  rw [conds, enabled, conds, alone]
  rfl

variable (hs : s.wf = true)
include hs

theorem fire_stray (next : CaptureNext s u h 2 c) (other : armedClass s.view u c = false) : Answers (.acqFire u) s (fun t =>
      t.get (CAP_MISC_STRAY u) = min (2 ^ (CAP_MISC_STRAY u).width - 1) (s.get (CAP_MISC_STRAY u) + 1) ∧
      Taken s t u 32 (.one h) ∧ Frame s t [CLASP_COLLIDE u, CAP_MISC_STRAY u]) := by
  refine capture_answers next _ (acqFire_run s u) (fun v off => ?_)
  obtain ⟨-, apart, -⟩ := busy_apart u
  have run : fireBehind u v h c = v.inc (CAP_MISC_STRAY u) := by
    rw [fireBehind, off.armedClass, other]
    exact if_pos rfl
  rw [run]
  obtain ⟨taken, frame⟩ := acts_finish hs off ((Acts.refl v).inc (CAP_MISC_STRAY u) (List.mem_singleton_self _)) (fun f hf => apart f (by
    rw [List.mem_singleton.1 hf]
    simp))
  refine ⟨(Work.finish_get _ _ hs).trans ?_, taken, frame⟩
  rw [get_inc, off.regs _ (apart _ (by simp)).symm]

variable (next : CaptureNext s u h 2 c) (due : h.entry.stamp ≤ s.tl.count) (armed : armedClass s.view u c = true)
  (enabled : bit (s.get (CAPCLASS_SRC_COND_EN u c)) 0 = true) (alone : bit (s.get (CAPCLASS_SRC_COND_EN u c)) 13 = false)
include next due armed enabled alone

theorem fire_waits (waits : s.get (CAP_STATE_STATE u) = FILLING ∨ s.get (CAP_STATE_STATE u) = ARMED) : Answers (.acqFire u) s (fun t =>
        (t.tile u).cap = { (s.tile u).cap with
          points := (s.tile u).cap.points ++ [⟨firePoint s u h.entry, 0, none, false⟩] } ∧
        Taken s t u 32 (.one h) ∧ Frame s t [CLASP_COLLIDE u]) := by
  refine capture_answers next _ (acqFire_run s u) (fun v off => ?_)
  have ready : capReady v u = true := by
    rw [capReady, off.state]
    rcases waits with h | h <;> rw [h] <;> rfl
  rw [fireBehind_occurs off due armed enabled alone, capOccur, ready, if_pos rfl]
  obtain ⟨taken, frame⟩ := acts_finish hs off ((Acts.refl v).updCap (fs := []) u.isLt (fun x => { x with points := x.points ++ [fired s u h.entry] }))
    (fun f hf => absurd hf List.not_mem_nil)
  refine ⟨?_, taken, frame⟩
  rw [cap_finish, cap_updCap v u.isLt, off.cap, fired]

theorem fire_lost {r : Record} (dead : 3 ≤ s.get (CAP_STATE_STATE u)) (rec_ : (s.tile u).cap.rec_ = some r)
    (behind : r.point.key < (firePoint s u h.entry).key) : Answers (.acqFire u) s (fun t =>
      t.get (CAP_LOST u) = (s.get (CAP_LOST u) + 1) % 2 ^ (CAP_LOST u).width ∧
          (t.tile u).cap = { (s.tile u).cap with
            lost := insertCell 0 (s.tile u).cap.lost c (min 0xFFFF (assoc 0 (s.tile u).cap.lost c + 1)) } ∧
          Taken s t u 32 (.one h) ∧ Frame s t [CLASP_COLLIDE u, CAP_LOST u]) := by
  refine capture_answers next _ (acqFire_run s u) (fun v off => ?_)
  obtain ⟨-, apart, -⟩ := busy_apart u
  have waits : capReady v u = false := by
    rw [capReady, off.state, decide_eq_false (by rw [FILLING]; omega), decide_eq_false (by rw [ARMED]; omega)]
    rfl
  have isDead : capIsDead v u = true := by
    rw [capIsDead, off.state]
    exact decide_eq_true dead
  have cls : capClass v u = c := by
    have armed' := (off.armedClass c).trans armed
    rw [armedClass, Bool.and_eq_true] at armed'
    exact of_decide_eq_true armed'.2
  have capped : ∀ n, satAdd 0xFFFF n 1 = min 0xFFFF (n + 1) := fun n => by
    rw [satAdd]
    split <;> omega
  have run : capOccur v u (fired s u h.entry) = lostTrigger v u := by
    have later : ¬(r.source ≠ 15 ∧ (fired s u h.entry).point.key = r.point.key) := fun same => absurd same.2 (Nat.ne_of_gt behind)
    rw [capOccur, waits, isDead, off.cap, rec_]
    simp only [Bool.false_eq_true, if_false, if_true]
    rw [if_neg later]
    exact if_pos (.inr behind)
  rw [fireBehind_occurs off due armed enabled alone, run, lostTrigger, cls]
  have counted : (v.set (CAP_LOST u) (v.get (CAP_LOST u) + 1)).get (CAP_LOST u) = (s.get (CAP_LOST u) + 1) % 2 ^ (CAP_LOST u).width := by
    rw [Work.get_set_self, off.regs _ (apart _ (by simp)).symm]
  have acts : Acts [CAP_LOST u] u v (v.set (CAP_LOST u) (v.get (CAP_LOST u) + 1)) := (Acts.refl v).set _ _ (List.mem_singleton_self _)
  have cap : (v.set (CAP_LOST u) (v.get (CAP_LOST u) + 1)).cap u = (s.tile u).cap := off.cap
  generalize v.set (CAP_LOST u) (v.get (CAP_LOST u) + 1) = z at *
  obtain ⟨taken, frame⟩ := acts_finish hs off (acts.updCap u.isLt (fun x => { x with lost := insertCell 0 x.lost c (satAdd 0xFFFF (assoc 0 x.lost c) 1) }))
    (fun f hf => apart f (by
      rw [List.mem_singleton.1 hf]
      simp))
  refine ⟨(Work.finish_get _ _ hs).trans counted, ?_, taken, frame⟩
  rw [cap_finish, cap_updCap z u.isLt, cap, capped]

end

theorem captureFire : Clause.CaptureFire := by
  intro s hs u h c next due
  exact ⟨fun other => fire_stray hs next other, fun armed enabled alone => ⟨fun waits => fire_waits hs next due armed enabled alone waits,
    fun r dead rec_ behind => fire_lost hs next due armed enabled alone dead rec_ behind⟩⟩

/-! ## SNAP (R252, R254) -/

theorem acqSnap_run (s : State) (u : Fin 32) : exec (.acqSnap u) s = .next (captureEffect (Work.start s) u 4 (fun w h c => capSnap w u c h)).finish := rfl

/-- The record that a SNAP opens. -/
def snapRecord (w : Work s) (t c : Nat) (h : HeldEntry) : Record :=
  ⟨⟨h.entry.stamp, 0, 0, t, devNum w⟩, 0, 15, none, c, false, 0, false, 0, w.get (CAPCLASS_POST_M1 t c) + 1, 0, (w.cap t).dead, assoc 0 (w.cap t).lost c,
    (w.get (CAP_RECORDS t) + 1) % 2 ^ 32, w.ntLo, nextSlot w t c, h.entry.stamp, 0, false⟩

/-- The unit of a record that a SNAP has opened. -/
def snapUnit (now c : Nat) (r : Record) (x : CapUnit) : CapUnit := { x with
  ringStart := now, ring := [], results := [], points := [], rec_ := some r, disarm := false, dead := 0, lost := insertCell 0 x.lost c 0 }

/-- The registers of such a record. -/
def snapShown (w : Work s) (t num stamp : Nat) : Work s :=
  ((w.set (CAP_RECORDS t) num).set (CAP_LAST_W_LO t) stamp).set (CAP_W_HI t) (stamp / 2 ^ 32)

/-- The state of a unit that records class c. -/
def snapState (w : Work s) (t c : Nat) : Work s := (w.set (CAP_STATE_CLASS t) c).set (CAP_STATE_STATE t) RECORDING

theorem capSnap_def (w : Work s) (t c : Nat) (h : HeldEntry) : capSnap w t c h =
    if capState w t ≠ IDLE then w.inc (CAP_MISC_SNAP_LOST t)
    else if !classValid w t c then claspFault w t 32 FORMAT h.entry h.margin
    else if !slotFree w t c then w.inc (CAP_MISC_SNAP_LOST t)
    else calMeets (snapShown ((snapState w t c).updCap t (snapUnit w.now c (snapRecord w t c h))) t ((w.get (CAP_RECORDS t) + 1) % 2 ^ 32) h.entry.stamp) t := rfl

theorem capSnap_open {w : Work s} {t c : Nat} {h : HeldEntry} (idle : capState w t = IDLE) (valid : classValid w t c = true) (free : slotFree w t c = true) :
    capSnap w t c h = calMeets (snapShown ((snapState w t c).updCap t (snapUnit w.now c (snapRecord w t c h))) t ((w.get (CAP_RECORDS t) + 1) % 2 ^ 32) h.entry.stamp) t := by
  rw [capSnap_def, if_neg (not_not.2 idle), valid, if_neg (by decide), free, if_neg (by decide)]

theorem capSnap_lost {w : Work s} {t c : Nat} {h : HeldEntry} (lost : capState w t ≠ IDLE ∨ (classValid w t c = true ∧ slotFree w t c = false)) :
    capSnap w t c h = w.inc (CAP_MISC_SNAP_LOST t) := by
  rw [capSnap_def]
  by_cases idle : capState w t = IDLE
  · obtain ⟨valid, full⟩ := lost.resolve_left (not_not.2 idle)
    rw [if_neg (not_not.2 idle), valid, if_neg (by decide), full, if_pos (by decide)]
  · exact if_pos idle

/-- The registers of a SNAP that opens a record. -/
def snapFlds (t : Nat) : List Fld := [CAP_STATE_STATE t, CAP_STATE_CLASS t, CAP_RECORDS t, CAP_LAST_W_LO t, CAP_W_HI t, ADC_CAL_RUNNING t]

theorem snap_apart (u : Fin 32) : (CAP_STATE_CLASS u).key ≠ (CAP_STATE_STATE u).key ∧ (CAP_RECORDS u).key ≠ (CAP_LAST_W_LO u).key ∧
    (CAP_RECORDS u).key ≠ (CAP_W_HI u).key ∧ (CAP_LAST_W_LO u).key ≠ (CAP_W_HI u).key ∧
    (∀ f ∈ [CAP_STATE_STATE u, CAP_STATE_CLASS u], ∀ g ∈ [CAP_RECORDS u, CAP_LAST_W_LO u, CAP_W_HI u], f.key ≠ g.key) ∧
    (∀ f ∈ [CAP_STATE_STATE u, CAP_STATE_CLASS u, CAP_RECORDS u, CAP_LAST_W_LO u, CAP_W_HI u], f.key ≠ (ADC_CAL_RUNNING u).key) ∧
    ∀ f ∈ snapFlds u, (CLASP_COLLIDE u).key ≠ f.key := by
  simp only [snapFlds, List.mem_cons, List.not_mem_nil, or_false, forall_eq_or_imp, forall_eq, Fld.key, CAP_STATE_CLASS, CAP_STATE_STATE, CAP_RECORDS, CAP_LAST_W_LO,
    CAP_W_HI, ADC_CAL_RUNNING, CLASP_COLLIDE, hid, tileBase]
  omega

theorem snapState_acts (w : Work s) (u c : Nat) : Acts (snapFlds u) u w (snapState w u c) := by
  rw [snapState]
  refine ((Acts.refl w).set _ _ ?_).set _ _ ?_
  all_goals simp [snapFlds]

theorem snapState_cap (w : Work s) (u c : Nat) : (snapState w u c).cap u = w.cap u := rfl

theorem snapShown_acts (w : Work s) (u num stamp : Nat) : Acts (snapFlds u) u w (snapShown w u num stamp) := by
  rw [snapShown]
  refine (((Acts.refl w).set _ _ ?_).set _ _ ?_).set _ _ ?_
  all_goals simp [snapFlds]

theorem snapShown_cap (w : Work s) (u num stamp : Nat) : (snapShown w u num stamp).cap u = w.cap u := rfl

/-- What a SNAP shows in the registers, whatever the ADC's calibration. -/
theorem snap_shows (w : Work s) (u : Fin 32) {c : Nat} (hc : c < 32) (f : CapUnit → CapUnit) (num stamp : Nat) :
    let z := calMeets (snapShown ((snapState w u c).updCap u f) u num stamp) u
    Acts (snapFlds u) u w z ∧ z.cap u = f (w.cap u) ∧ z.get (CAP_STATE_STATE u) = RECORDING ∧ z.get (CAP_STATE_CLASS u) = c ∧
    z.get (CAP_RECORDS u) = num % 2 ^ 32 ∧ z.get (CAP_LAST_W_LO u) = stamp % 2 ^ 32 ∧ z.get (CAP_W_HI u) = stamp / 2 ^ 32 % 2 ^ 32 := by
  obtain ⟨classState, numLo, numHi, loHi, stateOff, running, -⟩ := snap_apart u
  have states : (snapState w u c).get (CAP_STATE_STATE u) = RECORDING ∧ (snapState w u c).get (CAP_STATE_CLASS u) = c := by
    rw [snapState, Work.get_set_self, Work.get_set_ne _ _ _ _ classState, Work.get_set_self]
    exact ⟨rfl, Nat.mod_eq_of_lt hc⟩
  have actsState := snapState_acts w u c
  have capState := snapState_cap w u c
  generalize snapState w u c = v at *
  have actsUnit : Acts (snapFlds u) u w (v.updCap u f) := actsState.updCap u.isLt f
  have capUnit : (v.updCap u f).cap u = f (w.cap u) := (cap_updCap v u.isLt f).trans (congrArg f capState)
  have kept : ∀ g, (v.updCap u f).get g = v.get g := fun _ => Work.get_updCap _ _ _ _
  generalize v.updCap u f = b at *
  have actsShown := actsUnit.trans (snapShown_acts b u num stamp)
  have capShown : (snapShown b u num stamp).cap u = f (w.cap u) := (snapShown_cap b u num stamp).trans capUnit
  have shown : (snapShown b u num stamp).get (CAP_RECORDS u) = num % 2 ^ 32 ∧ (snapShown b u num stamp).get (CAP_LAST_W_LO u) = stamp % 2 ^ 32 ∧
      (snapShown b u num stamp).get (CAP_W_HI u) = stamp / 2 ^ 32 % 2 ^ 32 := by
    rw [snapShown, Work.get_set_ne _ _ _ _ numHi, Work.get_set_ne _ _ _ _ numLo, Work.get_set_self, Work.get_set_ne _ _ _ _ loHi, Work.get_set_self,
      Work.get_set_self]
    exact ⟨rfl, rfl, rfl⟩
  have stays : ∀ g ∈ [CAP_STATE_STATE u, CAP_STATE_CLASS u], (snapShown b u num stamp).get g = v.get g := fun g hg => by
    rw [snapShown, Work.get_set_ne _ _ _ _ (stateOff g hg _ (by simp)), Work.get_set_ne _ _ _ _ (stateOff g hg _ (by simp)),
      Work.get_set_ne _ _ _ _ (stateOff g hg _ (by simp)), kept]
  generalize snapShown b u num stamp = d at *
  obtain ⟨meets, dev⟩ := calMeets_acts d u
  have last : ∀ g ∈ [CAP_STATE_STATE u, CAP_STATE_CLASS u, CAP_RECORDS u, CAP_LAST_W_LO u, CAP_W_HI u], (calMeets d u).get g = d.get g := fun g hg =>
    meets.1 g (fun x hx => by rw [List.mem_singleton.1 hx]; exact running g hg)
  have cap : (calMeets d u).cap u = d.cap u := by rw [Work.cap, Work.tile, dev, ← Work.tile, ← Work.cap]
  exact ⟨actsShown.trans (meets.mono (by simp [snapFlds])), cap.trans capShown, (last _ (by simp)).trans ((stays _ (by simp)).trans states.1),
    (last _ (by simp)).trans ((stays _ (by simp)).trans states.2), (last _ (by simp)).trans shown.1, (last _ (by simp)).trans shown.2.1,
    (last _ (by simp)).trans shown.2.2⟩

theorem queue_apart (u : Fin 32) (q chan : Nat) : ∀ f ∈ [QT_CFG_EN u q, QT_CFG_POLICY u q, QT_CFG_SIZE_LOG2 u q, QT_SEQ_A u q, QTAIL u q, DDR_STATUS_STATE chan],
    f.key ≠ (CLASP_COLLIDE u).key := by
  simp only [List.mem_cons, List.not_mem_nil, or_false, forall_eq_or_imp, forall_eq, Fld.key, QT_CFG_EN, QT_CFG_POLICY, QT_CFG_SIZE_LOG2, QT_SEQ_A, QTAIL,
    DDR_STATUS_STATE, CLASP_COLLIDE, hid, tileBase]
  omega

section

variable {u : Fin 32} {h : HeldEntry} {c : Nat}

theorem TakenOff.nextSlot {v : Work s} (off : TakenOff s u h v) (c : Nat) : nextSlot v u c = Machine.nextSlot s.view u c := by
  rw [Machine.nextSlot, Machine.nextSlot, off.cap, off.cls c _ (by simp)]
  rfl

/-- Whether a class may open a record does not depend on the entry that has left. -/
theorem TakenOff.slotFree {v : Work s} (off : TakenOff s u h v) {c : Nat} (valid : Machine.classValid s.view u c = true) :
    slotFree v u c = Machine.slotFree s.view u c := by
  have regs : ∀ q chan, ∀ f ∈ _, v.get f = s.view.get f := fun q chan f hf => off.regs f (queue_apart u q chan f hf)
  simp only [List.mem_cons, List.not_mem_nil, or_false, forall_eq_or_imp, forall_eq] at regs
  have en : ∀ q, v.get (QT_CFG_EN u q) = s.view.get (QT_CFG_EN u q) := fun q => (regs q 0).1
  have policy : ∀ q, v.get (QT_CFG_POLICY u q) = s.view.get (QT_CFG_POLICY u q) := fun q => (regs q 0).2.1
  have size : ∀ q, v.get (QT_CFG_SIZE_LOG2 u q) = s.view.get (QT_CFG_SIZE_LOG2 u q) := fun q => (regs q 0).2.2.1
  have head : ∀ q, v.get (QT_SEQ_A u q) = s.view.get (QT_SEQ_A u q) := fun q => (regs q 0).2.2.2.1
  have tail : ∀ q, v.get (QTAIL u q) = s.view.get (QTAIL u q) := fun q => (regs q 0).2.2.2.2.1
  have channel : ∀ chan, v.get (DDR_STATUS_STATE chan) = s.view.get (DDR_STATUS_STATE chan) := fun chan => (regs 0 chan).2.2.2.2.2
  have cls : ∀ c, v.get (CAPCLASS_DEST_QUEUE u c) = s.view.get (CAPCLASS_DEST_QUEUE u c) := fun c => off.cls c _ (by simp)
  have chan : v.get (CAPCLASS_DEST_CHAN u c) = s.view.get (CAPCLASS_DEST_CHAN u c) := off.cls c _ (by simp)
  have cap : v.cap u = s.view.cap u := off.cap
  have isOut : ∀ w : Work s, qIsOut w u (s.view.get (CAPCLASS_DEST_QUEUE u c)) = true := fun w => by
    rw [Machine.classValid, Bool.and_eq_true, Bool.and_eq_true] at valid
    obtain ⟨⟨-, out⟩, host⟩ := valid
    rw [qIsOut, out, host]
    rfl
  simp only [Machine.slotFree, qOutHost, qEnabled, slotFaulted, Work.on, qFill, isOut, if_true, qSize, slotReturned, cls, chan, off.nextSlot, cap, en, policy, size, head, tail, channel]

variable (hs : s.wf = true)
include hs

theorem snap_opens (next : CaptureNext s u h 4 c) (idle : s.get (CAP_STATE_STATE u) = IDLE) (valid : classValid s.view u c = true)
    (free : slotFree s.view u c = true) : Answers (.acqSnap u) s (fun t =>
        t.get (CAP_STATE_STATE u) = RECORDING ∧ t.get (CAP_STATE_CLASS u) = c ∧
        t.get (CAP_RECORDS u) = (s.get (CAP_RECORDS u) + 1) % 2 ^ 32 ∧
        t.get (CAP_LAST_W_LO u) = h.entry.stamp % 2 ^ 32 ∧ t.get (CAP_W_HI u) = h.entry.stamp / 2 ^ 32 % 2 ^ 32 ∧
        (∃ r, (t.tile u).cap.rec_ = some r ∧ r.source = 15 ∧ r.cls = c ∧ r.preAct = 0 ∧ r.point.w = h.entry.stamp ∧
          r.post = s.get (CAPCLASS_POST_M1 u c) + 1 ∧ r.slot = nextSlot s.view u c) ∧
        Taken s t u 32 (.one h) ∧ Frame s t [CLASP_COLLIDE u, CAP_STATE_STATE u, CAP_STATE_CLASS u, CAP_RECORDS u,
          CAP_LAST_W_LO u, CAP_W_HI u, ADC_CAL_RUNNING u]) := by
  refine capture_answers next _ (acqSnap_run s u) (fun v off => ?_)
  obtain ⟨-, -, -, -, -, -, apart⟩ := snap_apart u
  have records : v.get (CAP_RECORDS u) = s.get (CAP_RECORDS u) := off.regs _ (apart _ (by simp [snapFlds])).symm
  rw [capSnap_open (off.state.trans idle) ((off.classValid c).trans valid) ((off.slotFree valid).trans free)]
  obtain ⟨acts, cap, state, cls, num, lo, hi⟩ := snap_shows v u (class_lt next) (snapUnit v.now c (snapRecord v u c h)) ((v.get (CAP_RECORDS u) + 1) % 2 ^ 32) h.entry.stamp
  have post : (snapRecord v u c h).post = s.get (CAPCLASS_POST_M1 u c) + 1 := congrArg (· + 1) (off.cls c _ (by simp))
  have slot : (snapRecord v u c h).slot = nextSlot s.view u c := off.nextSlot c
  rw [Nat.mod_mod] at num
  generalize calMeets (snapShown ((snapState v u c).updCap u (snapUnit v.now c (snapRecord v u c h))) u ((v.get (CAP_RECORDS u) + 1) % 2 ^ 32) h.entry.stamp) u = z at *
  obtain ⟨taken, frame⟩ := acts_finish hs off acts apart
  refine ⟨(Work.finish_get _ _ hs).trans state, (Work.finish_get _ _ hs).trans cls, (Work.finish_get _ _ hs).trans (num.trans (by rw [records])), (Work.finish_get _ _ hs).trans lo,
    (Work.finish_get _ _ hs).trans hi, ⟨snapRecord v u c h, ?_, rfl, rfl, rfl, rfl, post, slot⟩, taken, frame⟩
  rw [cap_finish, cap, snapUnit]

theorem snap_lost (next : CaptureNext s u h 4 c) (lost : s.get (CAP_STATE_STATE u) ≠ IDLE ∨ (classValid s.view u c = true ∧ slotFree s.view u c = false)) :
    Answers (.acqSnap u) s (fun t =>
        t.get (CAP_MISC_SNAP_LOST u) = min (2 ^ (CAP_MISC_SNAP_LOST u).width - 1) (s.get (CAP_MISC_SNAP_LOST u) + 1) ∧
        Taken s t u 32 (.one h) ∧ Frame s t [CLASP_COLLIDE u, CAP_MISC_SNAP_LOST u]) := by
  refine capture_answers next _ (acqSnap_run s u) (fun v off => ?_)
  obtain ⟨-, apart, -⟩ := busy_apart u
  have lost' : capState v u ≠ IDLE ∨ (classValid v u c = true ∧ slotFree v u c = false) :=
    lost.imp (fun h => by rw [off.state]; exact h) (fun ⟨valid, full⟩ => ⟨(off.classValid c).trans valid, (off.slotFree valid).trans full⟩)
  rw [capSnap_lost lost']
  obtain ⟨taken, frame⟩ := acts_finish hs off ((Acts.refl v).inc (CAP_MISC_SNAP_LOST u) (List.mem_singleton_self _)) (fun f hf => apart f (by
    rw [List.mem_singleton.1 hf]
    simp))
  refine ⟨(Work.finish_get _ _ hs).trans ?_, taken, frame⟩
  rw [get_inc, off.regs _ (apart _ (by simp)).symm]

end

theorem captureSnap : Clause.CaptureSnap := by
  intro s hs u h c next _
  exact ⟨fun idle valid free => snap_opens hs next idle valid free, fun lost => snap_lost hs next lost⟩

/-- Settles O28: ARM, DISARM, FIRE and SNAP by the class that they name and the state of the unit, behind the entry's leaving of its clasp. -/
theorem captureEntries : Obligations.CaptureEntries := ⟨captureArming, captureFire, captureSnap⟩

end Sys2Proof.CaptureProofs
end

section
/-! PROOFS. The loader's control writes, its start-up load, and the decompressors at its frame stream (R321 to R329, R386 to R396). -/

namespace Sys2Proof.LoadingProofs

open Sys2Proof.Machine Sys2Proof.Effects Sys2Proof.SeqFacts Sys2Proof.RejectFacts Sys2Proof.LaneWorks

variable {σ : State}

/-! ## A host's queue that holds nothing (R328) -/

/-- The registers of a queue that say whether the loader reads it and what it holds. -/
def queueFlds (t i : Nat) : List Fld := [QT_CFG_EN t i, QT_CFG_CONSUMER t i, QT_CFG_DIR t i, QT_SEQ_A t i, QTAIL t i]

/-- The registers of the queues and the gaps of the tiles read alike. -/
def SameQueues (w w' : Work σ) : Prop :=
  (∀ t < 32, ∀ i < 128, ∀ f ∈ queueFlds t i, w'.get f = w.get f) ∧ ∀ t, (w'.tile t).gaps = (w.tile t).gaps

theorem SameQueues.trans {w w' w'' : Work σ} (h : SameQueues w w') (h' : SameQueues w' w'') : SameQueues w w'' :=
  ⟨fun t ht i hi f hf => (h'.1 t ht i hi f hf).trans (h.1 t ht i hi f hf), fun t => (h'.2 t).trans (h.2 t)⟩

/-- A field outside the queues' registers: of the device's blocks, or one of the first fields that a tile or the device keeps hidden. -/
def Apart (f : Fld) : Prop := f.lo < 32 ∧ (f.addr < tileBase 0 ∨ ∃ t k, k < 0x10000 ∧ f.addr = 2 ^ 40 + t * 2 ^ 24 + k)

theorem queue_apart {t i : Nat} (ht : t < 32) (hi : i < 128) {g : Fld} (hg : Apart g) : ∀ f ∈ queueFlds t i, f.key ≠ g.key := by
  simp only [queueFlds, List.mem_cons, List.not_mem_nil, or_false, forall_eq_or_imp, forall_eq, Fld.key, QT_CFG_EN, QT_CFG_CONSUMER, QT_CFG_DIR, QT_SEQ_A, QTAIL, hid,
    tileBase]
  rcases hg with ⟨lo, low | ⟨t', k, hk, at_⟩⟩
  · rw [tileBase] at low
    omega
  · omega

theorem sameQueues_of {w w' : Work σ} {K : Fld → Prop} (writes : Writes K w w') (apart : ∀ g, K g → Apart g) (tiles : ∀ t, (w'.tile t).gaps = (w.tile t).gaps) :
    SameQueues w w' :=
  ⟨fun _ ht _ hi f hf => writes f (fun g hg => queue_apart ht hi (apart g hg) f hf), tiles⟩

theorem imageQueue_same {w w' : Work σ} (h : SameQueues w w') : imageQueue w' = imageQueue w := by
  obtain ⟨regs, -⟩ := h
  rw [imageQueue, imageQueue]
  refine List.find?_congr (fun q hq => ?_)
  obtain ⟨t, ht, hq⟩ := List.mem_flatMap.1 hq
  obtain ⟨i, hi, rfl⟩ := List.mem_map.1 hq
  have regs := regs t (List.mem_range.1 ht) i (List.mem_range.1 hi)
  simp only [queueFlds, List.mem_cons, List.not_mem_nil, or_false, forall_eq_or_imp, forall_eq] at regs
  obtain ⟨en, consumer, -⟩ := regs
  simp only [qEnabled, Work.on, en, consumer]

theorem imageQueue_bound {w : Work σ} {q : Nat × Nat} (h : imageQueue w = some q) : q.1 < 32 ∧ q.2 < 128 := by
  obtain ⟨t, ht, hq⟩ := List.mem_flatMap.1 (List.mem_of_find?_eq_some h)
  obtain ⟨i, hi, rfl⟩ := List.mem_map.1 hq
  exact ⟨List.mem_range.1 ht, List.mem_range.1 hi⟩

theorem qFill_same {w w' : Work σ} (h : SameQueues w w') {t i : Nat} (ht : t < 32) (hi : i < 128) : qFill w' t i = qFill w t i := by
  obtain ⟨regs, gaps⟩ := h
  have regs := regs t ht i hi
  simp only [queueFlds, List.mem_cons, List.not_mem_nil, or_false, forall_eq_or_imp, forall_eq] at regs
  obtain ⟨-, -, dir, seq, tail⟩ := regs
  have out : qIsOut w' t i = qIsOut w t i := by rw [qIsOut, qIsOut, Work.on, Work.on, dir]
  have lost : qGapCount w' t i = qGapCount w t i := by rw [qGapCount, qGapCount, gaps]
  rw [qFill, qFill, out, lost, seq, tail]

/-- A queue that held nothing still does, and the loader takes nothing. -/
theorem hostQuiet_same {w w' : Work σ} (h : SameQueues w w') (quiet : HostQuiet w) : HostQuiet w' := by
  rw [HostQuiet, imageQueue_same h]
  cases hq : imageQueue w with
  | none => rfl
  | some q =>
    obtain ⟨ht, hi⟩ := imageQueue_bound hq
    rw [HostQuiet, hq] at quiet
    rw [Option.all_some, qFill_same h ht hi]
    exact quiet

theorem loaderPull_quiet {w : Work σ} (quiet : HostQuiet w) : loaderPull w = w := by
  rw [loaderPull]
  cases hq : imageQueue w with
  | none => rfl
  | some q =>
    rw [HostQuiet, hq, Option.all_some, decide_eq_true_eq] at quiet
    show loaderTake (qFill w q.1 q.2) w = w
    rw [quiet]
    rfl

/-! ## The failure of an image (R312) -/

/-- What an image's failure shows in LOADER.ERROR. -/
def shown (w : Work σ) (cause seq : Nat) : Work σ := ((w.set LOADER_ERROR_VALID 1).set LOADER_ERROR_CAUSE cause).set LOADER_ERROR_SEQ seq

/-- The failure in the error log, fired and counted. -/
def reported (w : Work σ) (cause seq : Nat) : Work σ := ((w.errlog 0x05 .hardware devTile cause seq).fire 502).inc LOADER_COUNT_ERRORS

/-- The swaps and the commit point that the image leaves behind. -/
def freed (w : Work σ) : Work σ := ((releaseHolds w).set LOADER_SWAP_PEND 0).set LOADER_P (w.get LOADER_P_APPLIED)

/-- An image's failure before the loader turns to its next source. -/
def dropped (w : Work σ) (cause seq : Nat) : Work σ := freed (reported (shown w cause seq) cause seq)

theorem imageFail_host (w : Work σ) (cause seq : Nat) (src : (dropped w cause seq).ld.source = 3) :
    imageFail w cause seq = loaderPull (((dropped w cause seq).set LOADER_STATE_STATE LD_ERROR).updLd (fun l => ldClear l)) := by
  have host : ¬((dropped w cause seq).ld.source = 1 ∨ (dropped w cause seq).ld.source = 2) := by omega
  exact if_neg host

theorem imageFail_flash (w : Work σ) (cause seq : Nat) (src : (dropped w cause seq).ld.source = 1) (other : (dropped w cause seq).ld.otherSlot = none) :
    imageFail w cause seq = loaderIdle (dropped w cause seq) := by
  refine (if_pos (Or.inl src)).trans ?_
  split
  next s hs => exact absurd (hs.symm.trans other) (Option.some_ne_none s)
  next => rfl

theorem releaseHolds_writes (w : Work σ) : Writes (· ∈ (List.range 32).map CODE_HELD) w (releaseHolds w) :=
  (Writes.refl w).each _ _ (fun _ _ ht h => (h.set _ _ (List.mem_map_of_mem ht)).of_get (fun _ => Work.get_updTile _ _ _ _))

theorem releaseHolds_work (w : Work σ) : TileWork (∃ t, · = CODE_HELD t) w (releaseHolds w) := by
  rw [releaseHolds]
  exact (TileWork.refl w).each _ _ (fun _ t h => (h.set _ _ ⟨t, rfl⟩).updTile t _)

theorem releaseHolds_tl (w : Work σ) : (releaseHolds w).tl = w.tl := by
  rw [releaseHolds]
  refine Work.each_keeps (fun x : Work σ => x.tl = w.tl) _ (fun x t h => ?_) _ _ rfl
  rw [Work.updTile_tl, Work.set_tl]
  exact h

theorem releaseHolds_gaps (w : Work σ) (u : Nat) : ((releaseHolds w).tile u).gaps = (w.tile u).gaps := by
  refine Work.each_keeps (fun x : Work σ => (x.tile u).gaps = (w.tile u).gaps) _ (fun x t h => ?_) _ _ rfl
  by_cases hu : u = t
  · subst hu
    by_cases hlt : u < 32
    · rw [tile_updTile_self _ _ _ hlt]
      exact h
    · rw [Work.updTile, Work.setTile, Work.tile, vset, dif_neg hlt]
      exact h
  · rw [tile_updTile_ne _ _ _ _ hu]
    exact h

/-- The registers that the failure of an image writes, but for the loader's state and the error log. -/
def dropFlds : List Fld :=
  [LOADER_ERROR_VALID, LOADER_ERROR_CAUSE, LOADER_ERROR_SEQ, LOADER_COUNT_ERRORS, LOADER_SWAP_PEND, LOADER_P] ++ (List.range 32).map CODE_HELD

theorem dropFlds_apart {g : Fld} (hg : g ∈ dropFlds) : Apart g := by
  rcases List.mem_append.1 hg with low | held
  · simp only [List.mem_cons, List.not_mem_nil, or_false] at low
    rcases low with rfl | rfl | rfl | rfl | rfl | rfl
    · exact ⟨by decide, Or.inl (by decide)⟩
    · exact ⟨by decide, Or.inl (by decide)⟩
    · exact ⟨by decide, Or.inl (by decide)⟩
    · exact ⟨by decide, Or.inl (by decide)⟩
    · exact ⟨by decide, Or.inl (by decide)⟩
    · exact ⟨by decide, Or.inr ⟨32, 1, by decide, by decide⟩⟩
  · obtain ⟨t, -, rfl⟩ := List.mem_map.1 held
    exact ⟨by simp only [CODE_HELD, hid]; decide, Or.inr ⟨t, 0x218, by decide, by simp only [CODE_HELD, hid]⟩⟩

theorem logFlds_apart {h : Nat} {g : Fld} (hg : g ∈ logFlds h) : Apart g := by
  obtain ⟨addr, lo⟩ := mem_logFlds_addr h g hg
  refine ⟨lo, Or.inl ?_⟩
  rw [tileBase]
  omega

/-- What a failed image has left before the loader turns to its next source. -/
structure Drops (w d : Work σ) (cause seq : Nat) : Prop where
  logged : Logged σ d.finish 5 3 63 seq
  valid : d.get LOADER_ERROR_VALID = 1
  cause : d.get LOADER_ERROR_CAUSE = cause % 16
  seq : d.get LOADER_ERROR_SEQ = seq % 2 ^ 24
  count : d.get LOADER_COUNT_ERRORS = min (2 ^ LOADER_COUNT_ERRORS.width - 1) (w.get LOADER_COUNT_ERRORS + 1)
  swap : d.get LOADER_SWAP_PEND = 0
  point : d.get LOADER_P = w.get LOADER_P_APPLIED % 2 ^ LOADER_P.width
  writes : Writes (· ∈ dropFlds ++ logFlds (σ.get DEV_ERRLOG_HEAD)) w d
  quiet : Quiet w → Quiet d
  fresh : d.fresh = w.fresh
  gaps : ∀ t, (d.tile t).gaps = (w.tile t).gaps
  dev : d.dev = { w.dev with tiles := d.dev.tiles, held := w.dev.held ++ [σ.firing 487, σ.firing 502] }

/-- The registers that go with the image's swaps and its commit point. -/
def freedFlds : List Fld := LOADER_SWAP_PEND :: LOADER_P :: (List.range 32).map CODE_HELD

theorem freedFlds_apart {f : Fld} (lo : f.lo < 32) (low : f.addr < 2 ^ 40) (ne : f.key ≠ LOADER_SWAP_PEND.key) : ∀ g ∈ freedFlds, f.key ≠ g.key := by
  intro g hg
  rcases List.mem_cons.1 hg with rfl | hg
  · exact ne
  · have high : g.lo = 0 ∧ 2 ^ 40 ≤ g.addr := by
      rcases List.mem_cons.1 hg with rfl | hg
      · exact ⟨rfl, by decide⟩
      · obtain ⟨t, -, rfl⟩ := List.mem_map.1 hg
        exact ⟨rfl, by rw [CODE_HELD, hid]; dsimp only; omega⟩
    obtain ⟨zero, addr⟩ := high
    simp only [Fld.key]
    omega

theorem freed_writes (w : Work σ) : Writes (· ∈ freedFlds) w (freed w) := by
  rw [freed]
  refine Writes.set (Writes.set ((releaseHolds_writes w).mono (fun g hg => ?_)) _ _ ?_) _ _ ?_
  · exact List.mem_cons_of_mem _ (List.mem_cons_of_mem _ hg)
  · exact List.mem_cons_self
  · exact List.mem_cons_of_mem _ List.mem_cons_self

theorem freed_work (w : Work σ) : (freed w).get LOADER_SWAP_PEND = 0 ∧ (freed w).get LOADER_P = w.get LOADER_P_APPLIED % 2 ^ LOADER_P.width ∧ (Quiet w → Quiet (freed w)) ∧
    (freed w).fresh = w.fresh ∧ (∀ t, ((freed w).tile t).gaps = (w.tile t).gaps) ∧ (freed w).dev = { w.dev with tiles := (freed w).dev.tiles } := by
  obtain ⟨-, quiet, fresh, dev⟩ := releaseHolds_work w
  have gaps := releaseHolds_gaps w
  rw [freed]
  generalize releaseHolds w = v at *
  refine ⟨?_, Work.get_set_self _ _ _, quiet, fresh, gaps, dev⟩
  rw [Work.get_set_ne _ _ _ _ (by decide), Work.get_set_self]
  rfl

/-- An entry that a work has made still shows where the words of the error log read alike. -/
theorem logged_of_words {w w' : Work σ} {kind path tile addr : Nat} (hs : σ.wf = true) (h : Logged σ w.finish kind path tile addr)
    (hg : ∀ f ∈ logFlds (σ.get DEV_ERRLOG_HEAD), w'.get f = w.get f) : Logged σ w'.finish kind path tile addr := by
  simp only [logFlds, List.mem_cons, List.not_mem_nil, or_false, forall_eq_or_imp, forall_eq] at hg
  obtain ⟨head, -, kind, path, tile, -, low, -, -, -, -, number⟩ := hg
  simp only [Logged, Work.finish_get _ _ hs, head, kind, path, tile, low, number] at h ⊢
  exact h

theorem reported_work (w : Work σ) (cause seq : Nat) (hs : σ.wf = true) (head : w.get DEV_ERRLOG_HEAD = σ.get DEV_ERRLOG_HEAD) (tl : w.tl = σ.tl)
    (nt : w.get NT_NOW = σ.get NT_NOW) : Logged σ (reported w cause seq).finish 5 3 63 seq ∧
    (reported w cause seq).get LOADER_COUNT_ERRORS = min (2 ^ LOADER_COUNT_ERRORS.width - 1) (w.get LOADER_COUNT_ERRORS + 1) ∧
    (∀ f : Fld, f.key ≠ LOADER_COUNT_ERRORS.key → (∀ g ∈ logFlds (σ.get DEV_ERRLOG_HEAD), f.key ≠ g.key) → (reported w cause seq).get f = w.get f) ∧
    (Quiet (reported w cause seq) ↔ Quiet w) ∧ (reported w cause seq).fresh = w.fresh ∧
    (reported w cause seq).dev = { w.dev with held := w.dev.held ++ [σ.firing 487, σ.firing 502] } := by
  have logged := logged_errlog w 0x05 devTile cause seq .hardware hs head (by decide) (by decide)
  have gets : ∀ f : Fld, (∀ g ∈ logFlds (σ.get DEV_ERRLOG_HEAD), f.key ≠ g.key) → (w.errlog 0x05 .hardware devTile cause seq).get f = w.get f :=
    fun f hf => get_errlog w _ _ _ _ _ f (by rw [head]; exact hf)
  have quiet := quiet_errlog w 0x05 devTile cause seq .hardware
  have fresh := fresh_errlog w 0x05 devTile cause seq .hardware
  have dev := errlog_dev w 0x05 devTile cause seq .hardware
  have same := errlog_tl w 0x05 devTile cause seq .hardware
  rw [firing_eq w 487 tl nt] at dev
  have nt' := (gets NT_NOW (key_ne_logFlds _ _ (by decide) (by decide))).trans nt
  rw [reported]
  generalize w.errlog 0x05 .hardware devTile cause seq = v at *
  refine ⟨?_, ?_, fun f hf hl => ?_, quiet, fresh, ?_⟩
  · refine logged_of_words hs logged (fun f hf => ?_)
    rw [Work.get_inc_ne _ _ _ (key_ne_logFlds LOADER_COUNT_ERRORS _ (by decide) (by decide) f hf).symm, Work.get_fire]
  · rw [get_inc, Work.get_fire, gets _ (key_ne_logFlds _ _ (by decide) (by decide))]
  · rw [Work.get_inc_ne _ _ _ hf, Work.get_fire, gets f hl]
  · rw [Work.inc_dev, fire_dev, firing_eq v 502 (same.trans tl) nt', dev, List.append_assoc]
    rfl

theorem drops_of (w : Work σ) (cause seq : Nat) (hs : σ.wf = true) (head : w.get DEV_ERRLOG_HEAD = σ.get DEV_ERRLOG_HEAD) (tl : w.tl = σ.tl)
    (nt : w.get NT_NOW = σ.get NT_NOW) : Drops w (dropped w cause seq) cause seq := by
  have shownGet : ∀ f : Fld, f.key ≠ LOADER_ERROR_VALID.key → f.key ≠ LOADER_ERROR_CAUSE.key → f.key ≠ LOADER_ERROR_SEQ.key →
      (shown w cause seq).get f = w.get f := fun f valid cause' seq' => by
    rw [shown, Work.get_set_ne _ _ _ _ seq', Work.get_set_ne _ _ _ _ cause', Work.get_set_ne _ _ _ _ valid]
  have showValid : (shown w cause seq).get LOADER_ERROR_VALID = 1 := by
    rw [shown, Work.get_set_ne _ _ _ _ (by decide), Work.get_set_ne _ _ _ _ (by decide), Work.get_set_self]
    rfl
  have showCause : (shown w cause seq).get LOADER_ERROR_CAUSE = cause % 16 := by
    rw [shown, Work.get_set_ne _ _ _ _ (by decide), Work.get_set_self]
    rfl
  have showSeq : (shown w cause seq).get LOADER_ERROR_SEQ = seq % 2 ^ 24 := by
    rw [shown, Work.get_set_self]
    rfl
  have showDev : (shown w cause seq).dev = w.dev ∧ (shown w cause seq).tl = w.tl ∧ (shown w cause seq).fresh = w.fresh ∧ (Quiet (shown w cause seq) ↔ Quiet w) :=
    ⟨rfl, rfl, rfl, Iff.rfl⟩
  obtain ⟨dev, tl', fresh, quiet⟩ := showDev
  rw [dropped]
  generalize shown w cause seq = a at *
  obtain ⟨logged, count, gets, quiet', fresh', dev'⟩ := reported_work a cause seq hs ((shownGet _ (by decide) (by decide) (by decide)).trans head) (tl'.trans tl)
    ((shownGet _ (by decide) (by decide) (by decide)).trans nt)
  generalize reported a cause seq = b at *
  have writes := freed_writes b
  obtain ⟨swap, point, quiet'', fresh'', gaps, dev''⟩ := freed_work b
  generalize freed b = c at *
  have log : ∀ f : Fld, f.lo < 32 → 0x2000 ≤ f.addr → f.key ≠ LOADER_COUNT_ERRORS.key → b.get f = a.get f :=
    fun f lo addr ne => gets f ne (key_ne_logFlds f _ lo (Or.inr (Or.inl addr)))
  refine ⟨?_, ?_, ?_, ?_, ?_, swap, ?_, ?_, fun q => quiet'' (quiet'.2 (quiet.2 q)), fresh''.trans (fresh'.trans fresh), fun t => ?_, ?_⟩
  · refine logged_of_words hs logged (fun f hf => writes f (freedFlds_apart (mem_logFlds_addr _ f hf).2 ?_ ?_))
    · have := (mem_logFlds_addr _ f hf).1
      omega
    · exact (key_ne_logFlds LOADER_SWAP_PEND _ (by decide) (by decide) f hf).symm
  · rw [writes _ (freedFlds_apart (by decide) (by decide) (by decide)), log _ (by decide) (by decide) (by decide), showValid]
  · rw [writes _ (freedFlds_apart (by decide) (by decide) (by decide)), log _ (by decide) (by decide) (by decide), showCause]
  · rw [writes _ (freedFlds_apart (by decide) (by decide) (by decide)), log _ (by decide) (by decide) (by decide), showSeq]
  · rw [writes _ (freedFlds_apart (by decide) (by decide) (by decide)), count, shownGet _ (by decide) (by decide) (by decide)]
  · rw [point, log _ (by decide) (by decide) (by decide), shownGet _ (by decide) (by decide) (by decide)]
  · intro f hf
    have own : ∀ g ∈ dropFlds, f.key ≠ g.key := fun g hg => hf g (List.mem_append_left _ hg)
    have shownNe := shownGet f (own _ (by simp [dropFlds])) (own _ (by simp [dropFlds])) (own _ (by simp [dropFlds]))
    rw [writes f (fun g hg => own g ?_), gets f (own _ (by simp [dropFlds])) (fun g hg => hf g (List.mem_append_right _ hg)), shownNe]
    rcases List.mem_cons.1 hg with rfl | hg
    · simp [dropFlds]
    · rcases List.mem_cons.1 hg with rfl | hg
      · simp [dropFlds]
      · exact List.mem_append_right _ hg
  · rw [gaps, Work.tile, Work.tile, dev', dev]
  · rw [dev'', dev', dev]

theorem Drops.sameQueues {w d : Work σ} {cause seq : Nat} (h : Drops w d cause seq) : SameQueues w d :=
  sameQueues_of h.writes (fun _ hg => (List.mem_append.1 hg).elim dropFlds_apart logFlds_apart) h.gaps

/-- The failure of an image from the host: the loader is in ERROR, and everything of the image is gone. -/
structure Failed (w w' : Work σ) (cause seq : Nat) : Prop where
  logged : Logged σ w'.finish 5 3 63 seq
  state : w'.get LOADER_STATE_STATE = LD_ERROR
  valid : w'.get LOADER_ERROR_VALID = 1
  cause : w'.get LOADER_ERROR_CAUSE = cause % 16
  seq : w'.get LOADER_ERROR_SEQ = seq % 2 ^ 24
  count : w'.get LOADER_COUNT_ERRORS = min (2 ^ LOADER_COUNT_ERRORS.width - 1) (w.get LOADER_COUNT_ERRORS + 1)
  swap : w'.get LOADER_SWAP_PEND = 0
  point : w'.get LOADER_P = w.get LOADER_P_APPLIED % 2 ^ LOADER_P.width
  writes : Writes (· ∈ failFlds σ) w w'
  quiet : Quiet w → Quiet w'
  held : w'.dev.held = w.dev.held ++ [σ.firing 487, σ.firing 502]
  loader : w'.dev.loader = ldClear w.dev.loader

/-- The loader in ERROR, without its image. -/
def errored (w : Work σ) : Work σ := (w.set LOADER_STATE_STATE LD_ERROR).updLd ldClear

theorem errored_get (w : Work σ) (f : Fld) (hf : f.key ≠ LOADER_STATE_STATE.key) : (errored w).get f = w.get f := by
  rw [errored, Work.get_updLd, Work.get_set_ne _ _ _ _ hf]

theorem errored_rest (w : Work σ) : (errored w).get LOADER_STATE_STATE = LD_ERROR ∧ (Quiet w → Quiet (errored w)) ∧ (errored w).fresh = w.fresh ∧
    (errored w).dev = { w.dev with loader := ldClear w.dev.loader } := by
  refine ⟨?_, id, rfl, rfl⟩
  rw [errored, Work.get_updLd, Work.get_set_self]
  rfl

theorem errored_sameQueues (w : Work σ) : SameQueues w (errored w) :=
  sameQueues_of (K := (· = LOADER_STATE_STATE)) (fun f hf => errored_get w f (hf _ rfl)) (fun g hg => ⟨by rw [hg]; decide, Or.inl (by rw [hg]; decide)⟩) (fun _ => rfl)

theorem imageFail_failed (w : Work σ) (cause seq : Nat) (hs : σ.wf = true) (head : w.get DEV_ERRLOG_HEAD = σ.get DEV_ERRLOG_HEAD) (tl : w.tl = σ.tl)
    (nt : w.get NT_NOW = σ.get NT_NOW) (src : w.dev.loader.source = 3) (host : HostQuiet w) : ∃ w', imageFail w cause seq = w' ∧ Failed w w' cause seq := by
  have drops := drops_of w cause seq hs head tl nt
  have eq := imageFail_host w cause seq
  generalize dropped w cause seq = d at *
  have loader : d.dev.loader = w.dev.loader := by rw [drops.dev]
  have held : d.dev.held = w.dev.held ++ [σ.firing 487, σ.firing 502] := by rw [drops.dev]
  have still : HostQuiet (errored d) := hostQuiet_same (drops.sameQueues.trans (errored_sameQueues d)) host
  have ends : imageFail w cause seq = errored d := (eq ((congrArg LoaderSt.source loader).trans src)).trans (loaderPull_quiet still)
  have gets := errored_get d
  obtain ⟨state, quiet, -, dev⟩ := errored_rest d
  generalize errored d = e at *
  refine ⟨e, ends, ⟨logged_of_words hs drops.logged (fun f hf => gets f ?_), state, ?_, ?_, ?_, ?_, ?_, ?_, ?_, fun q => quiet (drops.quiet q), ?_, ?_⟩⟩
  · exact (key_ne_logFlds LOADER_STATE_STATE _ (by decide) (by decide) f hf).symm
  · rw [gets _ (by decide), drops.valid]
  · rw [gets _ (by decide), drops.cause]
  · rw [gets _ (by decide), drops.seq]
  · rw [gets _ (by decide), drops.count]
  · rw [gets _ (by decide), drops.swap]
  · rw [gets _ (by decide), drops.point]
  · intro f hf
    have own : ∀ g ∈ failFlds σ, f.key ≠ g.key := hf
    rw [gets f (own _ (by simp [failFlds]))]
    refine drops.writes f (fun g hg => own g ?_)
    simp only [dropFlds, failFlds, List.mem_append, List.mem_cons, List.not_mem_nil, or_false] at hg ⊢
    rcases hg with (first | held) | log
    · rcases first with rfl | rfl | rfl | rfl | rfl | rfl <;> simp
    · exact Or.inl (Or.inr held)
    · exact Or.inr log
  · rw [dev, held]
  · rw [dev, loader]

/-! ## Control of the loader (R321, R328) -/

section

variable {s : State} (hs : s.wf = true)

include hs

/-- An image that has failed from the state that the command found. -/
theorem imageFails_of {w : Work s} {cause seq : Nat} (f : Failed (Work.start s) w cause seq) (small : cause < 16) : ImageFails s w.finish cause seq := by
  have get := fun g => Work.finish_get w g hs
  have found := fun g => Work.get_start s g
  refine ⟨(get _).trans f.state, (get _).trans (f.point.trans (by rw [found])), (get _).trans f.valid, (get _).trans (f.cause.trans (Nat.mod_eq_of_lt small)),
    (get _).trans f.seq, ?_, (get _).trans f.swap, f.logged, f.held, f.loader, frame_finish hs (fun g hg => (f.writes g hg).trans (found g)) (f.quiet (quiet_start s))⟩
  rw [Counted, get, f.count, found]

theorem abort_stops (via : Via) (stops : s.get LOADER_STATE_STATE = LD_LOADING ∨ (s.get LOADER_STATE_STATE = LD_PENDING ∧ abortInTime s.view = true))
    (src : s.dev.loader.source = 3) (host : HostQuiet s.view) :
    Answers (.loaderAbort via) s (fun t => ImageFails s t F_HOST_ABORT (lastSeq s.view)) := by
  obtain ⟨w, eq, failed⟩ := imageFail_failed (Work.start s) F_HOST_ABORT (lastSeq s.view) hs (Work.get_start _ _) rfl (Work.get_start _ _) src host
  refine answers_of (fun w => loaderAbort w (viaPath via)) rfl (Eq.trans ?_ eq) (imageFails_of hs failed (by decide))
  refine if_pos ?_
  rw [ldState, Work.get_start]
  exact stops

theorem abort_ignored (via : Via) (goes : ¬(s.get LOADER_STATE_STATE = LD_LOADING ∨ (s.get LOADER_STATE_STATE = LD_PENDING ∧ abortInTime s.view = true))) :
    Answers (.loaderAbort via) s (fun t => Logged s t 2 (viaPath via).code 63 LOADER_CTRL_ABORT.addr ∧
      Leaves s t (logFlds (s.get DEV_ERRLOG_HEAD)) { s.view.dev with held := s.dev.held ++ [s.firing 487] }) := by
  obtain ⟨w, hw, logged, keeps, quiet, dev, fresh⟩ := errlog_effect (Work.start s) 0x02 63 0 LOADER_CTRL_ABORT.addr (viaPath via) hs (Work.get_start _ _)
    (by decide) (by decide)
  rw [firing_eq _ 487 rfl (Work.get_start _ _)] at dev
  refine answers_of (fun w => loaderAbort w (viaPath via)) rfl (Eq.trans ?_ hw)
    ⟨logged, leaves_finish hs ((keeps _ (List.Subset.refl _)).2 (keeps_start s _)) (quiet.2 (quiet_start s)) dev fresh⟩
  refine if_neg ?_
  rw [ldState, Work.get_start]
  exact goes

/-- The loader in IDLE, with no source. -/
def rested (w : Work s) : Work s := (w.set LOADER_STATE_STATE LD_IDLE).set LOADER_STATE_SOURCE 0

omit hs in
theorem rested_sameQueues (w : Work s) : SameQueues w (rested w) := by
  refine sameQueues_of (K := (· ∈ [LOADER_STATE_STATE, LOADER_STATE_SOURCE])) (((Writes.refl w).set _ _ (by simp)).set _ _ (by simp)) (fun g hg => ?_) (fun _ => rfl)
  simp only [List.mem_cons, List.not_mem_nil, or_false] at hg
  rcases hg with rfl | rfl
  · exact ⟨by decide, Or.inl (by decide)⟩
  · exact ⟨by decide, Or.inl (by decide)⟩

theorem clear_rests (error : s.get LOADER_STATE_STATE = LD_ERROR) (host : HostQuiet s.view) : Answers .loaderClear s (fun t =>
    t.get LOADER_STATE_STATE = LD_IDLE ∧ t.get LOADER_STATE_SOURCE = 0 ∧ Plain s t [LOADER_STATE_STATE, LOADER_STATE_SOURCE]) := by
  refine answers_of loaderClear rfl (w := rested (Work.start s)) ?_ ⟨?_, ?_, plain_finish hs (by simp [rested]) (by simp [rested]) rfl rfl⟩
  · refine (if_pos (by rw [ldState, Work.get_start]; exact error)).trans ?_
    rw [loaderPull_quiet (w := Work.start s) host]
    exact loaderPull_quiet (hostQuiet_same (rested_sameQueues _) host)
  · rw [Work.finish_get _ _ hs, rested, Work.get_set_ne _ _ _ _ (by decide), Work.get_set_self]
    rfl
  · rw [Work.finish_get _ _ hs, rested, Work.get_set_self]
    rfl

/-! ## The start-up load (R324, R327) -/

/-- Which slots hold a valid image, as LOADER.BOOT_INFO shows it. -/
def surveyed (w : Work s) : Work s := (w.setB LOADER_BOOT_INFO_SLOT0_VALID (slotValid w 0)).setB LOADER_BOOT_INFO_SLOT1_VALID (slotValid w 1)

/-- The registers that the choice of a slot writes. -/
def slotFlds : List Fld := [LOADER_STATE_STATE, LOADER_STATE_SOURCE, LOADER_BOOT_INFO_SLOT, LOADER_BOOT_GEN, LOADER_BOOT_INFO_SLOT0_VALID, LOADER_BOOT_INFO_SLOT1_VALID]

omit hs in
theorem flashLoad_eq {w : Work s} (boot : w.dev.loader.boot = .flash) (lock : w.get DEV_STATUS_PLL_LOCK ≠ 0) (idle : w.get LOADER_STATE_STATE = LD_IDLE)
    (free : w.get LOADER_FLASH_CTRL_BUSY = 0) (storm : w.get THERM_STORM_TRIPPED = 0) :
    flashLoad w = if slotValid w 0 ∧ slotValid w 1 then
        (if seqBefore (slotGen (surveyed w) 0) (slotGen (surveyed w) 1) then loadSlot (surveyed w) 1 (some 0) else loadSlot (surveyed w) 0 (some 1))
      else if slotValid w 0 then loadSlot (surveyed w) 0 none
      else if slotValid w 1 then loadSlot (surveyed w) 1 none
      else imageFail ((surveyed w).updLd (fun l => { l with source := 1, otherSlot := none })) F_FLASH 0 := by
  refine if_pos ⟨boot, ?_, idle, ?_, ?_⟩
  · rw [on_eq, decide_eq_true_eq]
    exact lock
  · rw [on_eq, free]
    rfl
  · rw [on_eq, storm]
    rfl

omit hs in
/-- What the survey of the slots shows. -/
theorem surveyed_shows (w : Work s) : (surveyed w).get LOADER_BOOT_INFO_SLOT0_VALID = b2n (slotValid w 0) ∧
    (surveyed w).get LOADER_BOOT_INFO_SLOT1_VALID = b2n (slotValid w 1) ∧
    Writes (· ∈ [LOADER_BOOT_INFO_SLOT0_VALID, LOADER_BOOT_INFO_SLOT1_VALID]) w (surveyed w) := by
  have small : ∀ b : Bool, b2n b % 2 ^ 1 = b2n b := by decide
  refine ⟨?_, ?_, ((Writes.refl w).set _ _ (by simp)).set _ _ (by simp)⟩
  · rw [surveyed, Work.setB, Work.setB, Work.get_set_ne _ _ _ _ (by decide), Work.get_set_self]
    exact small _
  · rw [surveyed, Work.setB, Work.get_set_self]
    exact small _

omit hs in
/-- What a load from a slot shows. -/
theorem loadSlot_shows (w : Work s) {slot : Nat} (hslot : slot < 2) (other : Option Nat) :
    (loadSlot w slot other).get LOADER_STATE_STATE = LD_LOADING ∧ (loadSlot w slot other).get LOADER_STATE_SOURCE = 1 + slot ∧
    (loadSlot w slot other).get LOADER_BOOT_INFO_SLOT = slot ∧ (loadSlot w slot other).get LOADER_BOOT_GEN = slotGen w slot % 2 ^ 32 ∧
    Writes (· ∈ [LOADER_STATE_STATE, LOADER_STATE_SOURCE, LOADER_BOOT_INFO_SLOT, LOADER_BOOT_GEN]) w (loadSlot w slot other) ∧
    (Quiet w → Quiet (loadSlot w slot other)) ∧ (loadSlot w slot other).dev.loader.source = 1 + slot ∧
    (loadSlot w slot other).dev.loader.flashPos = slotBase slot + 0x1000 ∧
    (loadSlot w slot other).dev.loader.flashLeft = ofLe (w.flBytes (slotBase slot + 8) 4) ∧ (loadSlot w slot other).dev.loader.otherSlot = other := by
  refine ⟨?_, ?_, ?_, ?_, ?_, id, rfl, rfl, rfl, rfl⟩
  · rw [loadSlot, Work.get_updLd, Work.get_set_ne _ _ _ _ (by decide), Work.get_set_self]
    rfl
  · rw [loadSlot, Work.get_updLd, Work.get_set_self]
    exact Nat.mod_eq_of_lt (by simp only [LOADER_STATE_SOURCE]; omega)
  · rw [loadSlot, Work.get_updLd, Work.get_set_ne _ _ _ _ (by decide), Work.get_set_ne _ _ _ _ (by decide), Work.get_set_ne _ _ _ _ (by decide), Work.get_set_self]
    exact Nat.mod_eq_of_lt hslot
  · rw [loadSlot, Work.get_updLd, Work.get_set_ne _ _ _ _ (by decide), Work.get_set_ne _ _ _ _ (by decide), Work.get_set_self]
    rfl
  · refine Writes.of_get (Writes.set (Writes.set (Writes.set (Writes.set (Writes.refl w) _ _ ?_) _ _ ?_) _ _ ?_) _ _ ?_) (fun f => Work.get_updLd _ _ _)
    all_goals simp

/-- A load from the slot that the survey has chosen. -/
theorem slot_loads {slot : Nat} (hslot : slot < 2) (other : Option Nat) (eq : flashLoad (Work.start s) = loadSlot (surveyed (Work.start s)) slot other) :
    Answers .flashLoad s (fun t =>
      t.get LOADER_STATE_STATE = LD_LOADING ∧ t.get LOADER_STATE_SOURCE = 1 + slot ∧ t.get LOADER_BOOT_INFO_SLOT = slot ∧
      t.get LOADER_BOOT_GEN = slotGen s.view slot % 2 ^ 32 ∧
      t.get LOADER_BOOT_INFO_SLOT0_VALID = b2n (slotValid s.view 0) ∧ t.get LOADER_BOOT_INFO_SLOT1_VALID = b2n (slotValid s.view 1) ∧
      t.dev.loader.source = 1 + slot ∧ t.dev.loader.flashPos = slotBase slot + 0x1000 ∧
      t.dev.loader.flashLeft = ofLe (s.view.flBytes (slotBase slot + 8) 4) ∧ t.dev.loader.otherSlot = other ∧ Frame s t slotFlds) := by
  obtain ⟨first, second, survey⟩ := surveyed_shows (Work.start s)
  have flash : slotGen (surveyed (Work.start s)) slot = slotGen s.view slot ∧
      (surveyed (Work.start s)).flBytes (slotBase slot + 8) 4 = s.view.flBytes (slotBase slot + 8) 4 ∧ Quiet (surveyed (Work.start s)) :=
    ⟨rfl, rfl, quiet_start s⟩
  obtain ⟨gen, len, quiet⟩ := flash
  generalize surveyed (Work.start s) = v at *
  obtain ⟨state, source, chosen, bootGen, writes, quiet', src, pos, left, other'⟩ := loadSlot_shows v hslot other
  generalize loadSlot v slot other = w at *
  have get := fun g => Work.finish_get w g hs
  refine answers_of flashLoad rfl eq ⟨(get _).trans state, (get _).trans source, (get _).trans chosen, (get _).trans (bootGen.trans (by rw [gen])), ?_, ?_,
    src, pos, left.trans (by rw [len]), other', frame_finish hs (fun f hf => ?_) (quiet' quiet)⟩
  · rw [get, writes _ (by decide), first]
  · rw [get, writes _ (by decide), second]
  · rw [writes f (fun g hg => hf g ?_), survey f (fun g hg => hf g ?_), Work.get_start]
    · simp only [List.mem_cons, List.not_mem_nil, or_false] at hg
      rcases hg with rfl | rfl <;> simp [slotFlds]
    · simp only [List.mem_cons, List.not_mem_nil, or_false] at hg
      rcases hg with rfl | rfl | rfl | rfl <;> simp [slotFlds]

/-- The loader left to the host. -/
def opened (w : Work s) : Work s := (rested w).updLd (fun l => { ldClear l with source := 0, boot := .open_, otherSlot := none })

/-- The survey's work with flash as the source of the image and no slot behind it. -/
def slotless (w : Work s) : Work s := (surveyed w).updLd (fun l => { l with source := 1, otherSlot := none })

omit hs in
theorem opened_shows (w : Work s) : (opened w).get LOADER_STATE_STATE = LD_IDLE ∧ (opened w).get LOADER_STATE_SOURCE = 0 ∧
    (∀ f : Fld, f.key ≠ LOADER_STATE_STATE.key → f.key ≠ LOADER_STATE_SOURCE.key → (opened w).get f = w.get f) ∧
    (opened w).dev.loader.boot = .open_ ∧ (opened w).dev.held = w.dev.held := by
  refine ⟨?_, ?_, fun f state source => ?_, rfl, rfl⟩
  · rw [opened, rested, Work.get_updLd, Work.get_set_ne _ _ _ _ (by decide), Work.get_set_self]
    rfl
  · rw [opened, rested, Work.get_updLd, Work.get_set_self]
    rfl
  · rw [opened, rested, Work.get_updLd, Work.get_set_ne _ _ _ _ source, Work.get_set_ne _ _ _ _ state]

omit hs in
theorem slotless_sameQueues (w : Work s) : SameQueues w (slotless w) := by
  obtain ⟨-, -, writes⟩ := surveyed_shows w
  refine sameQueues_of (writes.of_get (fun f => Work.get_updLd _ _ f)) (fun g hg => ?_) (fun _ => rfl)
  simp only [List.mem_cons, List.not_mem_nil, or_false] at hg
  rcases hg with rfl | rfl
  · exact ⟨by decide, Or.inl (by decide)⟩
  · exact ⟨by decide, Or.inl (by decide)⟩

/-- Without a valid slot the start-up load fails, and the loader is left to the host. -/
theorem slotless_fails (eq : flashLoad (Work.start s) = imageFail (slotless (Work.start s)) F_FLASH 0) (host : HostQuiet s.view) : Answers .flashLoad s (fun t =>
    t.get LOADER_ERROR_VALID = 1 ∧ t.get LOADER_ERROR_CAUSE = F_FLASH ∧ t.get LOADER_STATE_STATE = LD_IDLE ∧
    t.get LOADER_STATE_SOURCE = 0 ∧ t.dev.loader.boot = .open_ ∧ (∃ g ∈ t.dev.held, g.src = 502)) := by
  have same := slotless_sameQueues (Work.start s)
  have gets : ∀ f ∈ [DEV_ERRLOG_HEAD, NT_NOW], (slotless (Work.start s)).get f = s.get f := fun f hf => by
    obtain ⟨-, -, writes⟩ := surveyed_shows (Work.start s)
    rw [slotless, Work.get_updLd, writes f (fun g hg => ?_), Work.get_start]
    revert f g
    decide
  have facts : (slotless (Work.start s)).dev.loader.source = 1 ∧ (slotless (Work.start s)).dev.loader.otherSlot = none ∧ (slotless (Work.start s)).tl = s.tl :=
    ⟨rfl, rfl, rfl⟩
  obtain ⟨src, other, tl⟩ := facts
  generalize slotless (Work.start s) = v at *
  have drops := drops_of v F_FLASH 0 hs (gets _ (by simp)) tl (gets _ (by simp))
  have fails := imageFail_flash v F_FLASH 0
  generalize dropped v F_FLASH 0 = d at *
  have loader : d.dev.loader = v.dev.loader := by rw [drops.dev]
  obtain ⟨state, source, rest, boot, held⟩ := opened_shows d
  have queues : SameQueues d (opened d) := rested_sameQueues d
  have ends : loaderIdle d = loaderPull (opened d) := rfl
  generalize opened d = w at *
  have get := fun g => Work.finish_get w g hs
  refine answers_of flashLoad rfl (w := w) ?_ ⟨?_, ?_, (get _).trans state, (get _).trans source, boot, s.firing 502, ?_, rfl⟩
  · rw [eq, fails ((congrArg LoaderSt.source loader).trans src) ((congrArg LoaderSt.otherSlot loader).trans other), ends]
    exact loaderPull_quiet (hostQuiet_same (same.trans (drops.sameQueues.trans queues)) host)
  · rw [get, rest _ (by decide) (by decide), drops.valid]
  · rw [get, rest _ (by decide) (by decide), drops.cause]
    rfl
  · show _ ∈ w.dev.held
    rw [held, drops.dev]
    simp

end

theorem loaderControl : Clause.LoaderControl := by
  intro s hs
  refine ⟨fun via => abort_stops hs via, fun via => abort_ignored hs via, clear_rests hs, fun boot lock idle free storm => ?_⟩
  have eq := flashLoad_eq (w := Work.start s) boot (by rw [Work.get_start]; exact lock) (by rw [Work.get_start]; exact idle) (by rw [Work.get_start]; exact free)
    (by rw [Work.get_start]; exact storm)
  refine ⟨fun no0 no1 host => slotless_fails hs (eq.trans ?_) host, fun slot other choice valid0 valid1 order => ?_⟩
  · rw [no0, no1]
    rfl
  · have gens : seqBefore (slotGen (surveyed (Work.start s)) 0) (slotGen (surveyed (Work.start s)) 1) = seqBefore (slotGen s.view 0) (slotGen s.view 1) := rfl
    rw [gens] at eq
    simp only [List.mem_cons, Prod.mk.injEq, List.not_mem_nil, or_false] at choice
    rcases choice with ⟨rfl, rfl⟩ | ⟨rfl, rfl⟩ | ⟨rfl, rfl⟩ | ⟨rfl, rfl⟩
    · refine slot_loads hs (by decide) none (eq.trans ?_)
      rw [valid0, show slotValid s.view 1 = false from valid1]
      rfl
    · refine slot_loads hs (by decide) none (eq.trans ?_)
      rw [valid0, show slotValid s.view 0 = false from valid1]
      rfl
    · refine slot_loads hs (by decide) (some 1) (eq.trans ?_)
      rw [valid0, show slotValid s.view 1 = true from valid1, order rfl]
      rfl
    · refine slot_loads hs (by decide) (some 0) (eq.trans ?_)
      rw [valid0, show slotValid s.view 0 = true from valid1, order rfl]
      rfl

/-! ## The decompressors (R386, R392, R396) -/

/-- A loader with nothing whole to hand on, or the last block handed, hands on nothing. -/
theorem decHand_rests {l : LoaderSt} (rests : l.lastBlock = true ∨ blockReady l.cbuf = false) : decHand false l = l := by
  refine if_neg ?_
  rintro ⟨-, -, more, ready⟩
  rcases rests with last | waits
  · rw [last] at more
    exact absurd more (by decide)
  · rw [waits] at ready
    exact absurd ready (by simp)

theorem decHand_hands {l : LoaderSt} {i : Nat} (comp : l.comp = true) (ended : l.ended = false) (last : l.lastBlock = false) (ready : blockReady l.cbuf = true)
    (free : decFree l.dec = some i) : decHand false l = { l with
      dec := l.dec ++ [⟨i, l.cbuf.take (8 + blockInLen l.cbuf), none⟩]
      cbuf := if isLastBlock l.cbuf then [] else l.cbuf.drop (8 + blockInLen l.cbuf)
      lastBlock := isLastBlock l.cbuf } := by
  rw [decHand, if_pos ⟨comp, by rw [ended]; rfl, by rw [last]; rfl, by rw [ready]; rfl⟩, free]

/-- The blocks that the loader hands on of an image from the host. -/
theorem decPrime_host {w : Work σ} (src : w.dev.loader.source = 3) (n : Nat) :
    decPrime (n + 1) w = decPrime n (w.updLd (decHand false)) := by
  have off : flashLoading w = false := by
    rw [flashLoading, Work.ld, src]
    rfl
  have fill : flashFill w = w := if_neg (by rw [off]; exact Bool.false_ne_true)
  rw [decPrime, fill, off, Bool.false_and]

theorem updLd_same {w : Work σ} {u : LoaderSt → LoaderSt} (h : u w.dev.loader = w.dev.loader) : w.updLd u = w := by
  rw [Work.updLd, h]

theorem decPrime_rests {w : Work σ} (src : w.dev.loader.source = 3) (rests : decHand false w.dev.loader = w.dev.loader) (n : Nat) : decPrime n w = w := by
  induction n with
  | zero => rfl
  | succ n ih => rw [decPrime_host src, updLd_same rests, ih]

/-- What a decompressor does with the block that it has. -/
def decodes (w : Work σ) (i : Nat) : Work σ :=
  match w.ld.dec.find? (fun j => decide (j.inst = i) && j.out.isNone) with
  | none => w
  | some j =>
    match blockDecode (j.block.take 8) (slice j.block 8 (blockInLen j.block)) with
    | .good out =>
      loaderPull (decPrime 8 ((w.inc (COMP_D_BLOCKS i)).updLd (fun l => decDeliver { l with
        dec := l.dec.map (fun x => if x.inst = i then { x with out := some out } else x) })))
    | .expand => imageFail (decompFail w i 1) F_DECOMP (lastSeq w)
    | .short => imageFail (decompFail w i 2) F_DECOMP (lastSeq w)
    | .format => imageFail (decompFail w i 3) F_DECOMP (lastSeq w)

theorem decompressBlock_eq (w : Work σ) (i : Nat) : decompressBlock w i = decodes (decPrime 8 w) i := by
  unfold decompressBlock decodes
  dsimp only <;>
    (generalize decPrime 8 w = v
     cases v.ld.dec.find? (fun j => decide (j.inst = i) && j.out.isNone) with
     | none => rfl
     | some j => cases blockDecode (j.block.take 8) (slice j.block 8 (blockInLen j.block)) <;> rfl)

section

variable {w : Work σ} {i : Nat} {j : DecJob} {before after : List DecJob} (jobs : w.dev.loader.dec = before ++ j :: after) (inst : j.inst = i) (open_ : j.out = none)
  (others : ∀ k ∈ before ++ after, k.inst ≠ i)

include jobs inst open_ others

theorem job_found : w.ld.dec.find? (fun j => decide (j.inst = i) && j.out.isNone) = some j := by
  rw [Work.ld, jobs, List.find?_append, List.find?_eq_none.2 (fun k hk => ?_), Option.none_or, List.find?_cons_of_pos]
  · rw [inst, open_]
    simp
  · rw [decide_eq_false (others k (List.mem_append_left _ hk))]
    exact Bool.false_ne_true

theorem decodes_bad {cause : Nat} (bad : (decoded j, cause) ∈ [(Decoded.expand, 1), (.short, 2), (.format, 3)]) :
    decodes w i = imageFail (decompFail w i cause) F_DECOMP (lastSeq w) := by
  rw [decodes, job_found jobs inst open_ others]
  simp only [List.mem_cons, Prod.mk.injEq, List.not_mem_nil, or_false] at bad
  rcases bad with ⟨e, rfl⟩ | ⟨e, rfl⟩ | ⟨e, rfl⟩
  all_goals
    rw [decoded] at e
    simp only [e]

/-- The loader's state once a block has been decoded. -/
def delivered (l : LoaderSt) (done : List DecJob) : LoaderSt :=
  { l with
    buf := l.buf ++ (done.takeWhile (fun k => k.out.isSome)).flatMap (fun k => k.out.getD [])
    dec := done.dropWhile (fun k => k.out.isSome) }

theorem decodes_good {out : List Byte} (good : decoded j = .good out) (src : w.dev.loader.source = 3)
    (rests : w.dev.loader.lastBlock = true ∨ blockReady w.dev.loader.cbuf = false) (host : HostQuiet w) (low : i < 8) :
    decodes w i = (w.inc (COMP_D_BLOCKS i)).updLd (fun l => delivered l (before ++ { j with out := some out } :: after)) := by
  have map : w.dev.loader.dec.map (fun x => if x.inst = i then { x with out := some out } else x) = before ++ { j with out := some out } :: after := by
    rw [jobs, List.map_append, List.map_cons, if_pos inst]
    have keep : ∀ l, l ⊆ before ++ after → l.map (fun x => if x.inst = i then { x with out := some out } else x) = l := fun l hl =>
      (List.map_congr_left (fun x hx => if_neg (others x (hl hx)))).trans (List.map_id' l)
    rw [keep before (List.subset_append_left _ _), keep after (List.subset_append_right _ _)]
  have upd : (w.inc (COMP_D_BLOCKS i)).updLd (fun l => decDeliver { l with
      dec := l.dec.map (fun x => if x.inst = i then { x with out := some out } else x) }) =
      (w.inc (COMP_D_BLOCKS i)).updLd (fun l => delivered l (before ++ { j with out := some out } :: after)) := by
    rw [Work.updLd, Work.updLd, Work.inc_dev, decDeliver, map]
    rfl
  rw [decodes, job_found jobs inst open_ others]
  rw [decoded] at good
  simp only [good]
  rw [upd]
  have src' : ((w.inc (COMP_D_BLOCKS i)).updLd (fun l => delivered l (before ++ { j with out := some out } :: after))).dev.loader.source = 3 := src
  have rests' := decHand_rests (l := ((w.inc (COMP_D_BLOCKS i)).updLd (fun l => delivered l (before ++ { j with out := some out } :: after))).dev.loader) rests
  have queues : SameQueues w ((w.inc (COMP_D_BLOCKS i)).updLd (fun l => delivered l (before ++ { j with out := some out } :: after))) := by
    refine sameQueues_of (K := (· = COMP_D_BLOCKS i)) (((Writes.refl w).inc (COMP_D_BLOCKS i) (by rfl)).of_get (fun f => Work.get_updLd _ _ f)) (fun g hg => ?_) (fun _ => rfl)
    rw [hg]
    refine ⟨by simp only [COMP_D_BLOCKS]; decide, Or.inl ?_⟩
    simp only [COMP_D_BLOCKS, tileBase]
    omega
  rw [decPrime_rests src' rests']
  exact loaderPull_quiet (hostQuiet_same queues host)

end

/-! ## A block that fails (R392) -/

/-- The counter of a decompressor's failures of one cause. -/
def failCount (i cause : Nat) : Fld := if cause = 1 then COMP_D_ERR_EXPAND i else if cause = 2 then COMP_D_ERR_SHORT i else COMP_D_ERR_FORMAT i

/-- The failure counted, and kept where none was. -/
def failKept (w : Work σ) (i cause : Nat) : Work σ :=
  if (w.inc (failCount i cause)).on COMP_LAST_ERR_VALID then w.inc (failCount i cause)
  else (((w.inc (failCount i cause)).set COMP_LAST_ERR_VALID 1).set COMP_LAST_ERR_CAUSE cause).set COMP_LAST_ERR_INST i

theorem decompFail_eq (w : Work σ) (i cause : Nat) : decompFail w i cause =
    if (failKept w i cause).on COMP_STATUS_DECOMP_ERR then failKept w i cause else ((failKept w i cause).set COMP_STATUS_DECOMP_ERR 1).fire 485 := rfl

theorem failCount_cases (i cause : Nat) : (failCount i cause).lo < 32 ∧ (failCount i cause).addr = 0x300204 + 0x10 * i := by
  rw [failCount]
  split
  · exact ⟨by simp only [COMP_D_ERR_EXPAND]; decide, rfl⟩
  · split
    · exact ⟨by simp only [COMP_D_ERR_SHORT]; decide, rfl⟩
    · exact ⟨by simp only [COMP_D_ERR_FORMAT]; decide, rfl⟩

theorem failCount_apart {f : Fld} (lo : f.lo < 32) (low : f.addr < 0x300200 ∨ 0x400000 ≤ f.addr) {i : Nat} (hi : i < 8) (cause : Nat) :
    f.key ≠ (failCount i cause).key := by
  obtain ⟨lo', addr⟩ := failCount_cases i cause
  simp only [Fld.key, addr]
  omega

/-- The registers that a block's failure writes. -/
def blockFlds (f : Fld) : List Fld := [f, COMP_STATUS_DECOMP_ERR, COMP_LAST_ERR_VALID, COMP_LAST_ERR_CAUSE, COMP_LAST_ERR_INST]

theorem failKept_shows (w : Work σ) {i cause : Nat} (hi : i < 8) (small : cause < 4) :
    (failKept w i cause).get (failCount i cause) = min (2 ^ (failCount i cause).width - 1) (w.get (failCount i cause) + 1) ∧
    (failKept w i cause).get COMP_LAST_ERR_VALID ≠ 0 ∧ (failKept w i cause).get COMP_STATUS_DECOMP_ERR = w.get COMP_STATUS_DECOMP_ERR ∧
    (w.get COMP_LAST_ERR_VALID = 0 → (failKept w i cause).get COMP_LAST_ERR_CAUSE = cause ∧ (failKept w i cause).get COMP_LAST_ERR_INST = i) ∧
    Writes (· ∈ blockFlds (failCount i cause)) w (failKept w i cause) ∧ (Quiet w → Quiet (failKept w i cause)) ∧ (failKept w i cause).dev = w.dev ∧
    (failKept w i cause).tl = w.tl := by
  have apart : ∀ f ∈ [COMP_STATUS_DECOMP_ERR, COMP_LAST_ERR_VALID, COMP_LAST_ERR_CAUSE, COMP_LAST_ERR_INST], f.key ≠ (failCount i cause).key := by
    simp only [List.mem_cons, List.not_mem_nil, or_false, forall_eq_or_imp, forall_eq]
    exact ⟨failCount_apart (by decide) (by decide) hi _, failCount_apart (by decide) (by decide) hi _, failCount_apart (by decide) (by decide) hi _,
      failCount_apart (by decide) (by decide) hi _⟩
  have count := get_inc w (failCount i cause)
  have gets : ∀ f ∈ [COMP_STATUS_DECOMP_ERR, COMP_LAST_ERR_VALID, COMP_LAST_ERR_CAUSE, COMP_LAST_ERR_INST], (w.inc (failCount i cause)).get f = w.get f :=
    fun f hf => Work.get_inc_ne _ _ _ (apart f hf)
  have writes : Writes (· ∈ blockFlds (failCount i cause)) w (w.inc (failCount i cause)) := (Writes.refl w).inc _ (by simp [blockFlds])
  rw [failKept, on_eq]
  split
  next valid =>
    rw [decide_eq_true_eq] at valid
    refine ⟨count, valid, gets _ (by simp), fun zero => ?_, writes, id, rfl, rfl⟩
    rw [gets _ (by simp)] at valid
    exact absurd zero valid
  next =>
    refine ⟨?_, ?_, ?_, fun _ => ⟨?_, ?_⟩, ((writes.set _ _ (by simp [blockFlds])).set _ _ (by simp [blockFlds])).set _ _ (by simp [blockFlds]), id, rfl, rfl⟩
    · rw [Work.get_set_ne _ _ _ _ (apart _ (by simp)).symm, Work.get_set_ne _ _ _ _ (apart _ (by simp)).symm, Work.get_set_ne _ _ _ _ (apart _ (by simp)).symm, count]
    · rw [Work.get_set_ne _ _ _ _ (by decide), Work.get_set_ne _ _ _ _ (by decide), Work.get_set_self]
      decide
    · rw [Work.get_set_ne _ _ _ _ (by decide), Work.get_set_ne _ _ _ _ (by decide), Work.get_set_ne _ _ _ _ (by decide), gets _ (by simp)]
    · rw [Work.get_set_ne _ _ _ _ (by decide), Work.get_set_self]
      exact Nat.mod_eq_of_lt small
    · rw [Work.get_set_self]
      exact Nat.mod_eq_of_lt hi

/-- What a block's failure shows before its image fails. -/
structure BlockFails (w v : Work σ) (i cause : Nat) : Prop where
  count : v.get (failCount i cause) = min (2 ^ (failCount i cause).width - 1) (w.get (failCount i cause) + 1)
  status : v.get COMP_STATUS_DECOMP_ERR ≠ 0
  valid : v.get COMP_LAST_ERR_VALID ≠ 0
  first : w.get COMP_LAST_ERR_VALID = 0 → v.get COMP_LAST_ERR_CAUSE = cause ∧ v.get COMP_LAST_ERR_INST = i
  writes : Writes (· ∈ blockFlds (failCount i cause)) w v
  quiet : Quiet w → Quiet v
  tl : v.tl = w.tl
  dev : v.dev = { w.dev with held := w.dev.held ++ if w.get COMP_STATUS_DECOMP_ERR = 0 then [σ.firing 485] else [] }

theorem decompFail_shows (w : Work σ) {i cause : Nat} (hi : i < 8) (small : cause < 4) (tl : w.tl = σ.tl) (nt : w.get NT_NOW = σ.get NT_NOW) :
    BlockFails w (decompFail w i cause) i cause := by
  obtain ⟨count, valid, status, first, writes, quiet, dev, tl'⟩ := failKept_shows w hi small
  have apart : (failCount i cause).key ≠ COMP_STATUS_DECOMP_ERR.key := (failCount_apart (by decide) (by decide) hi _).symm
  have nt' : (failKept w i cause).get NT_NOW = w.get NT_NOW := by
    refine writes _ (fun g hg => ?_)
    rcases List.mem_cons.1 hg with rfl | hg
    · exact failCount_apart (by decide) (by decide) hi _
    · exact (by decide : ∀ g ∈ [COMP_STATUS_DECOMP_ERR, COMP_LAST_ERR_VALID, COMP_LAST_ERR_CAUSE, COMP_LAST_ERR_INST], NT_NOW.key ≠ g.key) g hg
  rw [decompFail_eq, on_eq]
  generalize failKept w i cause = v at *
  split
  next on =>
    rw [decide_eq_true_eq, status] at on
    refine ⟨count, by rw [status]; exact on, valid, first, writes, quiet, tl', ?_⟩
    rw [if_neg on, List.append_nil]
    exact dev
  next off =>
    rw [decide_eq_true_eq, not_not, status] at off
    refine ⟨?_, ?_, ?_, fun zero => ?_, (writes.set _ _ (by simp [blockFlds])).fire _, quiet, tl', ?_⟩
    · rw [Work.get_fire, Work.get_set_ne _ _ _ _ apart, count]
    · rw [Work.get_fire, Work.get_set_self]
      decide
    · rw [Work.get_fire, Work.get_set_ne _ _ _ _ (by decide)]
      exact valid
    · obtain ⟨cause', inst⟩ := first zero
      rw [Work.get_fire, Work.get_fire, Work.get_set_ne _ _ _ _ (by decide), Work.get_set_ne _ _ _ _ (by decide)]
      exact ⟨cause', inst⟩
    · rw [fire_dev, firing_eq (v.set COMP_STATUS_DECOMP_ERR 1) 485 (tl'.trans tl) ((Work.get_set_ne _ _ _ _ (by decide)).trans (nt'.trans nt)), Work.set_dev, dev,
        if_pos off]

/-- A register of the compressors' block is none of those that an image's failure writes. -/
theorem failFlds_apart {f : Fld} (lo : f.lo < 32) (low : 0x2000 ≤ f.addr) (high : f.addr < 0x700000) : ∀ g ∈ failFlds σ, f.key ≠ g.key := by
  intro g hg
  rcases List.mem_append.1 hg with own | log
  · have addr : g.lo < 32 ∧ 0x700000 ≤ g.addr := by
      rcases List.mem_append.1 own with shows | held
      · exact (by decide : ∀ g ∈ [LOADER_ERROR_VALID, LOADER_ERROR_CAUSE, LOADER_ERROR_SEQ, LOADER_COUNT_ERRORS, LOADER_SWAP_PEND, LOADER_P, LOADER_STATE_STATE],
          g.lo < 32 ∧ 0x700000 ≤ g.addr) g shows
      · obtain ⟨t, -, rfl⟩ := List.mem_map.1 held
        exact ⟨by simp only [CODE_HELD, hid]; decide, by rw [CODE_HELD, hid]; dsimp only; omega⟩
    obtain ⟨lo', addr⟩ := addr
    simp only [Fld.key]
    omega
  · exact key_ne_logFlds f _ lo (Or.inr (Or.inl low)) g log

/-! ## The blocks of an image from the host -/

section

variable {s : State} (hs : s.wf = true)

include hs

theorem block_good {v : Work s} (loader : LoaderSt) (v_eq : v = (Work.start s).updLd (fun _ => loader)) (src : loader.source = 3)
    (rests : loader.lastBlock = true ∨ blockReady loader.cbuf = false) (host : HostQuiet s.view) (i : Fin 8) {j : DecJob} {before after : List DecJob}
    (jobs : loader.dec = before ++ j :: after) (inst : j.inst = i) (open_ : j.out = none) (others : ∀ k ∈ before ++ after, k.inst ≠ i) {out : List Byte}
    (good : decoded j = .good out) : Counted s (decodes v i).finish (COMP_D_BLOCKS i) ∧
      Leaves s (decodes v i).finish [COMP_D_BLOCKS i] { s.view.dev with loader := delivered loader (before ++ { j with out := some out } :: after) } := by
  subst v_eq
  have queues : SameQueues (Work.start s) ((Work.start s).updLd (fun _ => loader)) := ⟨fun _ _ _ _ f _ => Work.get_updLd _ _ f, fun _ => rfl⟩
  rw [decodes_good jobs inst open_ others good src rests (hostQuiet_same queues host) i.isLt]
  refine ⟨?_, leaves_finish hs (fun f hf => ?_) (quiet_start s) rfl rfl⟩
  · rw [Counted, Work.finish_get _ _ hs, Work.get_updLd, get_inc, Work.get_updLd, Work.get_start]
  · rw [Work.get_updLd, Work.get_inc_ne _ _ _ (hf _ (by simp)), Work.get_updLd, Work.get_start]

theorem block_bad (src : s.dev.loader.source = 3) (host : HostQuiet s.view) (i : Fin 8) {cause : Nat} (known : cause < 4) {t : State}
    (t_eq : t = (imageFail (decompFail (Work.start s) i cause) F_DECOMP (lastSeq (Work.start s))).finish) :
    Counted s t (failCount i cause) ∧ t.get COMP_STATUS_DECOMP_ERR ≠ 0 ∧ t.get COMP_LAST_ERR_VALID ≠ 0 ∧
      (s.get COMP_LAST_ERR_VALID = 0 → t.get COMP_LAST_ERR_CAUSE = cause ∧ t.get COMP_LAST_ERR_INST = i) ∧
      t.get LOADER_STATE_STATE = LD_ERROR ∧ t.get LOADER_ERROR_CAUSE = F_DECOMP ∧ t.dev.loader = ldClear s.dev.loader ∧
      t.dev.held = s.dev.held ++ (if s.get COMP_STATUS_DECOMP_ERR = 0 then [s.firing 485] else []) ++ [s.firing 487, s.firing 502] ∧
      Frame s t (blockFlds (failCount i cause) ++ failFlds s) := by
  have block := decompFail_shows (Work.start s) i.isLt known rfl (Work.get_start _ _)
  generalize decompFail (Work.start s) i cause = v at *
  have outside : ∀ f ∈ [DEV_ERRLOG_HEAD, NT_NOW], v.get f = s.get f := fun f hf => by
    refine (block.writes f (fun g hg => ?_)).trans (Work.get_start _ _)
    rcases List.mem_cons.1 hg with rfl | hg
    · revert f
      simp only [List.mem_cons, List.not_mem_nil, or_false, forall_eq_or_imp, forall_eq]
      exact ⟨failCount_apart (by decide) (by decide) i.isLt _, failCount_apart (by decide) (by decide) i.isLt _⟩
    · exact (by decide : ∀ f ∈ [DEV_ERRLOG_HEAD, NT_NOW],
        ∀ g ∈ [COMP_STATUS_DECOMP_ERR, COMP_LAST_ERR_VALID, COMP_LAST_ERR_CAUSE, COMP_LAST_ERR_INST], f.key ≠ g.key) f hf g hg
  have queues : SameQueues (Work.start s) v := by
    refine sameQueues_of block.writes (fun g hg => ?_) (fun t => by rw [Work.tile, Work.tile, block.dev])
    rcases List.mem_cons.1 hg with rfl | hg
    · obtain ⟨lo, addr⟩ := failCount_cases i cause
      exact ⟨lo, Or.inl (by rw [addr, tileBase]; omega)⟩
    · exact (by unfold Apart; intro g hg; simp only [List.mem_cons, List.not_mem_nil, or_false] at hg; rcases hg with rfl | rfl | rfl | rfl <;> exact ⟨by decide, Or.inl (by decide)⟩ :
        ∀ g ∈ [COMP_STATUS_DECOMP_ERR, COMP_LAST_ERR_VALID, COMP_LAST_ERR_CAUSE, COMP_LAST_ERR_INST], Apart g) g hg
  have loader : v.dev.loader = s.dev.loader := by rw [block.dev]; rfl
  obtain ⟨w, eq, failed⟩ := imageFail_failed v F_DECOMP (lastSeq (Work.start s)) hs (outside _ (by simp)) block.tl (outside _ (by simp))
    ((congrArg LoaderSt.source loader).trans src) (hostQuiet_same queues host)
  rw [eq] at t_eq
  subst t_eq
  have keep : ∀ f : Fld, f.lo < 32 → 0x2000 ≤ f.addr → f.addr < 0x700000 → w.finish.get f = v.get f := fun f lo low high =>
    (Work.finish_get _ _ hs).trans (failed.writes f (failFlds_apart lo low high))
  obtain ⟨lo, addr⟩ := failCount_cases i cause
  refine ⟨?_, ?_, ?_, fun zero => ?_, (Work.finish_get _ _ hs).trans failed.state, (Work.finish_get _ _ hs).trans failed.cause, failed.loader.trans (by rw [loader]), ?_, ?_⟩
  · rw [Counted, keep _ lo (by omega) (by omega), block.count, Work.get_start]
  · rw [keep _ (by decide) (by decide) (by decide)]
    exact block.status
  · rw [keep _ (by decide) (by decide) (by decide)]
    exact block.valid
  · rw [keep _ (by decide) (by decide) (by decide), keep _ (by decide) (by decide) (by decide)]
    exact block.first ((Work.get_start _ _).trans zero)
  · refine failed.held.trans ?_
    rw [block.dev, Work.get_start]
    rfl
  · refine frame_finish hs (fun f hf => ?_) (failed.quiet (block.quiet (quiet_start s)))
    rw [failed.writes f (fun g hg => hf g (List.mem_append_right _ hg)), block.writes f (fun g hg => hf g (List.mem_append_left _ hg)), Work.get_start]

end

theorem decompression : Clause.Decompression := by
  intro s hs _ src comp ended host
  have eq : ∀ (i : Fin 8) (v : Work s), decPrime 8 (Work.start s) = v → exec (.decompressBlock i) s = .next (decodes v i).finish := fun i v hv => by
    rw [← hv, ← decompressBlock_eq]
    rfl
  refine ⟨fun i out first ready free idle => ?_, fun rests i j before after jobs inst open_ others => ?_⟩
  · intro n j last rests good
    have hands := decHand_hands comp ended first ready free
    have next : (decHand false s.dev.loader).lastBlock = true ∨ blockReady (decHand false s.dev.loader).cbuf = false := by
      rw [hands]
      rcases rests with h | h
      · exact Or.inl h
      · by_cases l : isLastBlock s.dev.loader.cbuf = true
        · exact Or.inl l
        · exact Or.inr (by rw [if_neg l]; exact h)
    have prime : decPrime 8 (Work.start s) = (Work.start s).updLd (fun _ => decHand false s.dev.loader) := by
      rw [decPrime_host src 7]
      refine decPrime_rests ?_ (decHand_rests next) 7
      show (decHand false s.dev.loader).source = 3
      rw [hands]
      exact src
    have alone : ∀ k ∈ s.dev.loader.dec ++ [], k.inst ≠ i.val := fun k hk => by
      rw [List.append_nil] at hk
      have all := List.find?_some free
      exact of_decide_eq_true (List.all_eq_true.1 all k hk)
    obtain ⟨counted, leaves⟩ := block_good hs _ rfl (by rw [hands]; exact src) next host i (j := j) (before := s.dev.loader.dec) (after := []) (by rw [hands]) rfl rfl alone good
    rw [hands] at prime counted leaves
    refine ⟨_, eq i _ prime, counted, ?_⟩
    have empty : delivered { s.dev.loader with dec := s.dev.loader.dec ++ [j], cbuf := if last then [] else s.dev.loader.cbuf.drop n, lastBlock := last }
        (s.dev.loader.dec ++ [{ j with out := some out }]) = { s.dev.loader with
          cbuf := if last then [] else s.dev.loader.cbuf.drop n
          lastBlock := last
          buf := if s.dev.loader.dec = [] then s.dev.loader.buf ++ out else s.dev.loader.buf
          dec := if s.dev.loader.dec = [] then [] else s.dev.loader.dec ++ [{ j with out := some out }] } := by
      cases hdec : s.dev.loader.dec with
      | nil => simp [delivered]
      | cons k ks =>
        have none_ : k.out = none := idle k (by rw [hdec]; exact List.mem_cons_self)
        simp [delivered, none_]
    rw [← empty]
    exact leaves
  · have prime : decPrime 8 (Work.start s) = Work.start s := decPrime_rests src (decHand_rests rests) 8
    refine ⟨fun out good => ⟨_, eq i _ prime, block_good hs s.dev.loader rfl src rests host i jobs inst open_ others good⟩, fun cause f bad => ?_⟩
    have known : cause < 4 ∧ f = failCount i cause ∧ (decoded j, cause) ∈ [(Decoded.expand, 1), (.short, 2), (.format, 3)] := by
      simp only [List.mem_cons, Prod.mk.injEq, List.not_mem_nil, or_false] at bad ⊢
      rcases bad with ⟨e, rfl, rfl⟩ | ⟨e, rfl, rfl⟩ | ⟨e, rfl, rfl⟩
      · exact ⟨by decide, rfl, Or.inl ⟨e, rfl⟩⟩
      · exact ⟨by decide, rfl, Or.inr (Or.inl ⟨e, rfl⟩)⟩
      · exact ⟨by decide, rfl, Or.inr (Or.inr ⟨e, rfl⟩)⟩
    clear bad
    obtain ⟨small, rfl, bad⟩ := known
    have run := eq i _ prime
    rw [decodes_bad jobs inst open_ others bad] at run
    exact ⟨_, run, block_bad hs src host i small rfl⟩

/-- Settles O44: an image's failure turns to no entry where the host's queue holds none, and a decompressor's work is the hand-over of the blocks that are whole, the one
block of its own that waits, and the outputs at the front. -/
theorem loaderAndDecompression : Obligations.LoaderAndDecompression := ⟨loaderControl, decompression⟩

end Sys2Proof.LoadingProofs
end

section
/-! PROOFS. The trigger inputs, and the messages and tokens of fire groups (R244, R245, R256 to R259, R363). -/

namespace Sys2Proof.TriggerProofs

open Sys2Proof.Machine Sys2Proof.Effects Sys2Proof.SeqFacts Sys2Proof.RejectFacts Sys2Proof.LaneWorks Sys2Proof.CaptureProofs

variable {σ : State}

/-! ## One thing done at every tile -/

/-- What one tile finds while a command goes through the tiles, each of which writes its own register of R: its own tile, its own register and
those that no tile writes are as before. -/
structure Finds (R : Nat → Fld) (t : Nat) (w v : Work σ) : Prop where
  regs : ∀ g : Fld, (∀ u < 32, u ≠ t → g.key ≠ (R u).key) → v.get g = w.get g
  tile : v.tile t = w.tile t
  tl : v.tl = w.tl
  ticks : v.dev.ticks = w.dev.ticks

/-- A step at tile t that writes the tile's register of R and the tile, and nothing else. -/
def StaysAt (R : Nat → Fld) (t : Nat) (w w' : Work σ) : Prop := TileLocal (· = R t) t (fun _ => ()) w w' ∧ w'.tl = w.tl

theorem StaysAt.refl (R : Nat → Fld) (t : Nat) (w : Work σ) : StaysAt R t w w := ⟨TileLocal.refl w, rfl⟩

theorem StaysAt.updTile {R : Nat → Fld} {t : Nat} {w w' : Work σ} (h : StaysAt R t w w') (u : Tile → Tile) : StaysAt R t w (w'.updTile t u) :=
  ⟨h.1.updTile u (fun _ => rfl), h.2⟩

theorem StaysAt.set {R : Nat → Fld} {t : Nat} {w w' : Work σ} (h : StaysAt R t w w') (v : Nat) : StaysAt R t w (w'.set (R t) v) :=
  ⟨h.1.set _ v rfl, h.2⟩

theorem StaysAt.ite {R : Nat → Fld} {t : Nat} {w a b : Work σ} {p : Prop} [Decidable p] (ha : StaysAt R t w a) (hb : StaysAt R t w b) :
    StaysAt R t w (if p then a else b) := by
  split
  · exact ha
  · exact hb

/-- The works that have gone through the first n tiles. -/
structure Through (R : Nat → Fld) (f : Work σ → Nat → Work σ) (w v : Work σ) (n : Nat) : Prop where
  done : ∀ t < n, v.tile t = (f w t).tile t ∧ v.get (R t) = (f w t).get (R t)
  next : ∀ t, n ≤ t → t < 32 → Finds R t w v
  work : TileWork (∃ t < 32, · = R t) w v
  tl : v.tl = w.tl

theorem each_through {R : Nat → Fld} {f : Work σ → Nat → Work σ} (apart : ∀ t < 32, ∀ u < 32, u ≠ t → (R t).key ≠ (R u).key)
    (stays : ∀ v, ∀ t < 32, StaysAt R t v (f v t)) (w : Work σ)
    (alike : ∀ t < 32, ∀ v, Finds R t w v → (f v t).tile t = (f w t).tile t ∧ (f v t).get (R t) = (f w t).get (R t)) {n : Nat} (hn : n ≤ 32) :
    Through R f w (w.each (List.range n) f) n := by
  induction n with
  | zero =>
    rw [List.range_zero]
    exact ⟨fun t ht => absurd ht (Nat.not_lt_zero t), fun t _ _ => ⟨fun _ _ => rfl, rfl, rfl, rfl⟩, TileWork.refl w, rfl⟩
  | succ n ih =>
    obtain ⟨done, next, work, tl⟩ := ih (by omega)
    have split : w.each (List.range (n + 1)) f = f (w.each (List.range n) f) n := by
      rw [List.range_succ, Work.each, List.foldl_append]
      rfl
    rw [split]
    generalize w.each (List.range n) f = v at *
    obtain ⟨⟨⟨regs, quiet, fresh, dev⟩, others, -⟩, tl'⟩ := stays v n (by omega)
    have new := alike n (by omega) v (next n (Nat.le_refl n) (by omega))
    generalize f v n = x at *
    obtain ⟨wregs, wquiet, wfresh, wdev⟩ := work
    have ticks : x.dev.ticks = v.dev.ticks := by rw [dev]
    refine ⟨fun t ht => ?_, fun t ht lt => ?_, ⟨fun g hg => ?_, fun q => quiet (wquiet q), fresh.trans wfresh, by rw [dev, wdev]⟩, tl'.trans tl⟩
    · by_cases h : t = n
      · rw [h]
        exact new
      · obtain ⟨tile, reg⟩ := done t (by omega)
        exact ⟨(others t h).trans tile, (regs _ (fun g hg => by rw [hg]; exact apart t (by omega) n (by omega) (Ne.symm h))).trans reg⟩
    · obtain ⟨fregs, ftile, ftl, fticks⟩ := next t (by omega) lt
      refine ⟨fun g hg => (regs g (fun k hk => ?_)).trans (fregs g hg), (others t (by omega)).trans ftile, tl'.trans ftl, ticks.trans fticks⟩
      rw [hk]
      exact hg n (by omega) (by omega)
    · exact (regs g (fun k hk => hg k ⟨n, by omega, hk⟩)).trans (wregs g hg)

/-! ## The trigger inputs (R244, R245) -/

/-- An edge's point lies ahead, whatever its delay. -/
theorem edge_ahead (now step d : Nat) : now < (((now * 125 + step : Nat) : Int) - sext 12 d).toNat / 125 + 24 := by
  have small : sext 12 d < 2048 := by
    rw [sext]
    split <;> omega
  omega

/-- An edge's time behind its delay, in steps of 8 ps. -/
def edgeTime (w : Work σ) (t i step : Nat) : Nat := (((w.tl.count * 125 + step : Nat) : Int) - sext 12 (w.get (CAP_TIN_DELAY t i))).toNat

/-- The point that an edge waits for. -/
def edgePoint (w : Work σ) (t i step : Nat) : CapPoint :=
  ⟨⟨edgeTime w t i step / 125 + 24, edgeTime w t i step % 125 * 8 / 100, edgeTime w t i step % 125 * 8 % 100 / 8, t, w.get (CAP_XGROUP_DEVNUM 0)⟩, 4 + i, none, false⟩

/-- An edge remembered as the last of its input. -/
def edgeSeen (w : Work σ) (i step : Nat) (u : CapUnit) : CapUnit :=
  { u with tinLast := (i, w.dev.ticks * 125 + step) :: u.tinLast.filter (fun p => p.1 ≠ i) }

/-- Whether an edge follows another within 4 ns. -/
def edgeClose (w : Work σ) (t i step : Nat) : Bool :=
  (w.tile t).cap.tinLast.any (fun p => decide (p.1 = i) && decide (w.dev.ticks * 125 + step < p.2 + 500))

/-- An edge at a tile: not asked for, dropped, or kept. -/
theorem tinEdge_cases (w : Work σ) {t : Nat} (ht : t < 32) (i : Nat) (fall : Bool) (step : Nat) :
    (w.on (CAP_TIN_POL t i) ≠ fall → tinEdge w t i fall step = w) ∧
    (w.on (CAP_TIN_POL t i) = fall → edgeClose w t i step = true → tinEdge w t i fall step = w.inc (CAP_TIN_DROP t i)) ∧
    (w.on (CAP_TIN_POL t i) = fall → edgeClose w t i step = false → ∃ w', tinEdge w t i fall step = w' ∧
      w'.tile t = { w.tile t with cap := { edgeSeen w i step (w.tile t).cap with future := (w.tile t).cap.future ++ [edgePoint w t i step] } } ∧
      StaysAt (fun t => CAP_TIN_DROP t i) t w w' ∧ ∀ f, w'.get f = w.get f) := by
  refine ⟨fun other => ?_, fun asked close => ?_, fun asked far => ?_⟩
  · rw [tinEdge, if_pos]
    rw [bne_iff_ne]
    exact other
  · rw [tinEdge, if_neg (by rw [asked]; simp)]
    exact if_pos close
  · have kept : tinEdge w t i fall step = (w.updCap t (edgeSeen w i step)).updCap t (fun u => { u with future := u.future ++ [edgePoint w t i step] }) := by
      rw [tinEdge, if_neg (by rw [asked]; simp)]
      refine (if_neg ?_).trans ?_
      · show ¬edgeClose w t i step = true
        rw [far]
        exact Bool.false_ne_true
      · refine if_neg ?_
        show ¬edgeTime w t i step / 125 + 24 ≤ w.tl.count
        have ahead := edge_ahead w.tl.count step (w.get (CAP_TIN_DELAY t i))
        rw [edgeTime]
        omega
    refine ⟨_, kept, ?_, (StaysAt.refl _ t w |>.updTile _).updTile _, fun f => ?_⟩
    · rw [Work.updCap, Work.updCap, tile_updTile_self _ _ _ ht, tile_updTile_self _ _ _ ht]
      rfl
    · rw [Work.get_updCap, Work.get_updCap]

theorem tinEdge_stays (w : Work σ) {t : Nat} (ht : t < 32) (i : Nat) (fall : Bool) (step : Nat) : StaysAt (fun t => CAP_TIN_DROP t i) t w (tinEdge w t i fall step) := by
  obtain ⟨other, close, far⟩ := tinEdge_cases w ht i fall step
  by_cases asked : w.on (CAP_TIN_POL t i) = fall
  · cases c : edgeClose w t i step with
    | true =>
      rw [close asked c]
      exact (StaysAt.refl _ t w).set _
    | false =>
      obtain ⟨w', eq, -, stays, -⟩ := far asked c
      rw [eq]
      exact stays
  · rw [other asked]
    exact StaysAt.refl _ t w

/-- What a tile finds of the registers that an edge reads is what the command found. -/
theorem edge_found {w v : Work σ} {t i : Nat} (ht : t < 32) (h : Finds (fun t => CAP_TIN_DROP t i) t w v) (fall : Bool) (step : Nat) :
    (tinEdge v t i fall step).tile t = (tinEdge w t i fall step).tile t ∧ (tinEdge v t i fall step).get (CAP_TIN_DROP t i) = (tinEdge w t i fall step).get (CAP_TIN_DROP t i) := by
  obtain ⟨regs, tile, tl, ticks⟩ := h
  have pol : v.get (CAP_TIN_POL t i) = w.get (CAP_TIN_POL t i) := regs _ (fun u _ _ => by simp only [Fld.key, CAP_TIN_POL, CAP_TIN_DROP, tileBase]; omega)
  have delay : v.get (CAP_TIN_DELAY t i) = w.get (CAP_TIN_DELAY t i) := regs _ (fun u _ _ => by simp only [Fld.key, CAP_TIN_DELAY, CAP_TIN_DROP, tileBase]; omega)
  have drop : v.get (CAP_TIN_DROP t i) = w.get (CAP_TIN_DROP t i) := regs _ (fun u _ _ => by simp only [Fld.key, CAP_TIN_DROP, tileBase]; omega)
  have num : v.get (CAP_XGROUP_DEVNUM 0) = w.get (CAP_XGROUP_DEVNUM 0) := regs _ (fun u _ _ => by simp only [Fld.key, CAP_XGROUP_DEVNUM, CAP_TIN_DROP, tileBase]; omega)
  have on : v.on (CAP_TIN_POL t i) = w.on (CAP_TIN_POL t i) := by rw [Work.on, Work.on, pol]
  have last : edgeClose v t i step = edgeClose w t i step := by rw [edgeClose, edgeClose, tile, ticks]
  have time : edgeTime v t i step = edgeTime w t i step := by rw [edgeTime, edgeTime, tl, delay]
  have point : edgePoint v t i step = edgePoint w t i step := by rw [edgePoint, edgePoint, time, num]
  have seen : edgeSeen v i step = edgeSeen w i step := by
    funext u
    rw [edgeSeen, edgeSeen, ticks]
  obtain ⟨other, close, far⟩ := tinEdge_cases v ht i fall step
  obtain ⟨other', close', far'⟩ := tinEdge_cases w ht i fall step
  rw [on] at other close far
  rw [last] at close far
  by_cases asked : w.on (CAP_TIN_POL t i) = fall
  · cases c : edgeClose w t i step with
    | true =>
      rw [close asked c, close' asked c, get_inc, get_inc, drop]
      exact ⟨tile, rfl⟩
    | false =>
      obtain ⟨x, eq, xtile, -, xget⟩ := far asked c
      obtain ⟨y, eq', ytile, -, yget⟩ := far' asked c
      rw [eq, eq', xtile, ytile, xget, yget, drop, tile, seen, point]
      exact ⟨rfl, rfl⟩
  · rw [other asked, other' asked]
    exact ⟨tile, drop⟩

theorem tile_finish (w : Work σ) (u : Nat) : w.finish.tile u = w.tile u := rfl

theorem triggerInputs : Clause.TriggerInputs := by
  intro s hs i fall step
  have apart : ∀ t < 32, ∀ u < 32, u ≠ t → (CAP_TIN_DROP t i).key ≠ (CAP_TIN_DROP u i).key := by
    simp only [Fld.key, CAP_TIN_DROP, tileBase]
    omega
  have all := each_through (R := fun t => CAP_TIN_DROP t i) (f := fun w t => tinEdge w t i fall step) apart (fun v t ht => tinEdge_stays v ht i fall step) (Work.start s)
    (fun t ht v h => edge_found ht h fall step) (Nat.le_refl 32)
  obtain ⟨done, -, ⟨regs, quiet, -, -⟩, -⟩ := all
  refine answers_of (fun w => w.each (List.range 32) (fun w t => tinEdge w t i fall step)) rfl rfl ?_
  generalize (Work.start s).each (List.range 32) (fun w t => tinEdge w t i fall step) = w at *
  have get := fun f => Work.finish_get w f hs
  have pol : ∀ u, decide (s.get (CAP_TIN_POL u i) ≠ 0) = (Work.start s).on (CAP_TIN_POL u i) := fun u => by rw [on_eq, Work.get_start]
  refine ⟨fun u hu => ?_, fun u hu still => ?_, frame_finish hs (fun f hf => (regs f (fun g => ?_)).trans (Work.get_start s f)) (quiet (quiet_start s))⟩
  · obtain ⟨tile, count⟩ := done u hu
    obtain ⟨other, close, far⟩ := tinEdge_cases (Work.start s) hu i fall step
    intro now recent n hit
    refine ⟨fun asked again => ?_, fun asked => ?_, fun asked first => ?_⟩
    · rw [close ((pol u).symm.trans asked) again] at tile count
      refine ⟨tile, ?_⟩
      rw [get, count, get_inc, Work.get_start]
    · rw [other (fun h => asked ((pol u).trans h))] at tile
      exact tile
    · obtain ⟨x, eq, kept, -, -⟩ := far ((pol u).symm.trans asked) first
      rw [eq, kept] at tile
      rw [tile_finish, tile, edgePoint, edgeTime, Work.get_start, Work.get_start]
      rfl
  · obtain ⟨-, count⟩ := done u hu
    obtain ⟨other, -, far⟩ := tinEdge_cases (Work.start s) hu i fall step
    rw [get, count]
    by_cases asked : (Work.start s).on (CAP_TIN_POL u i) = fall
    · rcases still with h | h
      · exact absurd ((pol u).trans asked) h
      · obtain ⟨x, eq, -, -, gets⟩ := far asked h
        rw [eq, gets, Work.get_start]
    · rw [other asked, Work.get_start]
  · rintro ⟨u, hu, rfl⟩
    exact hf _ (List.mem_map_of_mem (List.mem_range.2 hu))

/-! ## Messages on the trigger line (R257, R258) -/

/-- A message is not tile t's own. -/
def Heard (w : Work σ) (t : Nat) (m : TrigMsg) : Prop := ¬(m.point.tile = t ∧ m.point.device = devNum w)

theorem msgAt_own {w : Work σ} {t : Nat} {m : TrigMsg} (own : ¬Heard w t m) : msgAt w t m = w := if_pos (not_not.1 own)

theorem msgAt_unasked {w : Work σ} {t : Nat} {m : TrigMsg} (fire : m.kind = 1) (off : condOn w t 13 = false) : msgAt w t m = w := by
  rw [msgAt, if_pos fire, off, if_neg Bool.false_ne_true, ite_self]

/-- A trigger that the unit has lost. -/
theorem msgAt_lost {w : Work σ} {t : Nat} {m : TrigMsg} (heard : Heard w t m) (fire : m.kind = 1) (on : condOn w t 13 = true) (dead : capIsDead w t = true)
    (other : ∀ r, (w.cap t).rec_ = some r → m.point.key ≠ r.point.key) : msgAt w t m = lostTrigger w t := by
  have busy : capReady w t = false := by
    rw [capIsDead, decide_eq_true_eq] at dead
    rw [capReady, FILLING, ARMED, decide_eq_false (by omega), decide_eq_false (by omega)]
    rfl
  rw [msgAt, if_neg heard, if_pos fire, if_pos on]
  refine (if_pos (Or.inl dead)).trans ?_
  rw [capOccur, busy, if_neg Bool.false_ne_true, if_pos dead]
  split
  next r hr => rw [if_neg (fun h => other r hr h.2), if_pos (Or.inl rfl)]
  next => rfl

theorem msgAt_waits {w : Work σ} {t : Nat} {m : TrigMsg} (heard : Heard w t m) (fire : m.kind = 1) (on : condOn w t 13 = true) (alive : capIsDead w t = false)
    (ahead : w.now < m.point.w) : msgAt w t m = w.updCap t (fun u => { u with future := u.future ++ [⟨m.point, 13, none, true⟩] }) := by
  rw [msgAt, if_neg heard, if_pos fire, if_pos on]
  refine if_neg ?_
  rw [alive]
  rintro (h | h)
  · exact Bool.false_ne_true h
  · omega

theorem msgAt_member {w : Work σ} {t : Nat} {m : TrigMsg} (heard : Heard w t m) (other : m.kind ≠ 1) :
    msgAt w t m = if w.on (CAP_GROUP_MEMBER t) then
      w.updCap t (fun u => { u with garms := u.garms ++ [⟨max m.point.w (w.now + 1), decide (m.kind = 2), m.cls⟩] }) else w := by
  rw [msgAt, if_neg heard, if_neg other]

/-- What a message does at a tile: nothing, an occurrence or an arming that waits, or a trigger lost. -/
def MsgSettled (w : Work σ) (t : Nat) (m : TrigMsg) : Prop :=
  m.kind = 1 → Heard w t m → condOn w t 13 = true → (capIsDead w t = true ∧ ∀ r, (w.cap t).rec_ = some r → m.point.key ≠ r.point.key) ∨
    (capIsDead w t = false ∧ w.now < m.point.w)

theorem lostTrigger_stays (w : Work σ) (t : Nat) : StaysAt CAP_LOST t w (lostTrigger w t) := ((StaysAt.refl CAP_LOST t w).set _).updTile _

theorem lostTrigger_tile (w : Work σ) {t : Nat} (ht : t < 32) : (lostTrigger w t).tile t = { w.tile t with cap := { (w.tile t).cap with
    lost := insertCell 0 (w.tile t).cap.lost (capClass w t) (satAdd 0xFFFF (assoc 0 (w.tile t).cap.lost (capClass w t)) 1) } } := by
  rw [lostTrigger, Work.updCap, tile_updTile_self _ _ _ ht]
  rfl

theorem lostTrigger_get (w : Work σ) (t : Nat) : (lostTrigger w t).get (CAP_LOST t) = (w.get (CAP_LOST t) + 1) % 2 ^ (CAP_LOST t).width := by
  rw [lostTrigger, Work.get_updCap, Work.get_set_self]

theorem msgAt_stays (w : Work σ) (t : Nat) (m : TrigMsg) : StaysAt CAP_LOST t w (msgAt w t m) := by
  have occurs : ∀ p, StaysAt CAP_LOST t w (capOccur w t p) := fun p => by
    rw [capOccur]
    refine StaysAt.ite ((StaysAt.refl _ t w).updTile _) (StaysAt.ite ?_ (StaysAt.refl _ t w))
    split
    · exact StaysAt.ite ((StaysAt.refl _ t w).updTile _) (StaysAt.ite (lostTrigger_stays w t) (StaysAt.refl _ t w))
    · exact lostTrigger_stays w t
  rw [msgAt]
  refine StaysAt.ite (StaysAt.refl _ t w) (StaysAt.ite (StaysAt.ite ?_ (StaysAt.refl _ t w)) (StaysAt.ite ((StaysAt.refl _ t w).updTile _) (StaysAt.refl _ t w)))
  exact StaysAt.ite (occurs _) ((StaysAt.refl _ t w).updTile _)

/-- A unit finds the message as the command found it. -/
theorem msg_found {w v : Work σ} {t : Nat} (ht : t < 32) {m : TrigMsg} (settled : MsgSettled w t m) (h : Finds CAP_LOST t w v) :
    (msgAt v t m).tile t = (msgAt w t m).tile t ∧ (msgAt v t m).get (CAP_LOST t) = (msgAt w t m).get (CAP_LOST t) := by
  obtain ⟨regs, tile, tl, -⟩ := h
  have state : v.get (CAP_STATE_STATE t) = w.get (CAP_STATE_STATE t) := regs _ (fun u _ _ => by simp only [Fld.key, CAP_STATE_STATE, CAP_LOST, tileBase]; omega)
  have cls : v.get (CAP_STATE_CLASS t) = w.get (CAP_STATE_CLASS t) := regs _ (fun u _ _ => by simp only [Fld.key, CAP_STATE_CLASS, CAP_LOST, tileBase]; omega)
  have member : v.get (CAP_GROUP_MEMBER t) = w.get (CAP_GROUP_MEMBER t) := regs _ (fun u _ _ => by simp only [Fld.key, CAP_GROUP_MEMBER, CAP_LOST, tileBase]; omega)
  have lost : v.get (CAP_LOST t) = w.get (CAP_LOST t) := regs _ (fun u _ _ => by simp only [Fld.key, CAP_LOST, tileBase]; omega)
  have num : devNum v = devNum w := regs _ (fun u _ _ => by simp only [Fld.key, CAP_XGROUP_DEVNUM, CAP_LOST, tileBase]; omega)
  have cond : ∀ c, v.get (CAPCLASS_SRC_COND_EN t c) = w.get (CAPCLASS_SRC_COND_EN t c) := fun c =>
    regs _ (fun u _ _ => by simp only [Fld.key, CAPCLASS_SRC_COND_EN, CAP_LOST, tileBase]; omega)
  have cap : v.cap t = w.cap t := congrArg Tile.cap tile
  have cls' : capClass v t = capClass w t := cls
  have on : condOn v t 13 = condOn w t 13 := by
    rw [condOn, condOn, capArmed, capArmed, capState, capState, cls', Work.getBit, Work.getBit, cond, state, cap]
  have dead : capIsDead v t = capIsDead w t := by rw [capIsDead, capIsDead, capState, capState, state]
  have now : v.now = w.now := congrArg Tl.count tl
  have heard : Heard v t m ↔ Heard w t m := by rw [Heard, Heard, num]
  have same : v.tile t = w.tile t ∧ v.get (CAP_LOST t) = w.get (CAP_LOST t) := ⟨tile, lost⟩
  by_cases own : Heard w t m
  · by_cases fire : m.kind = 1
    · cases c : condOn w t 13 with
      | false => rw [msgAt_unasked fire c, msgAt_unasked fire (on.trans c)]; exact same
      | true =>
        rcases settled fire own c with ⟨gone, others⟩ | ⟨alive, ahead⟩
        · rw [msgAt_lost own fire c gone others, msgAt_lost (heard.2 own) fire (on.trans c) (dead.trans gone) (by rw [cap]; exact others), lostTrigger_tile _ ht,
            lostTrigger_tile _ ht, lostTrigger_get, lostTrigger_get, tile, lost, cls']
          exact ⟨rfl, rfl⟩
        · rw [msgAt_waits own fire c alive ahead, msgAt_waits (heard.2 own) fire (on.trans c) (dead.trans alive) (by rw [now]; exact ahead), Work.get_updCap,
            Work.get_updCap, Work.updCap, Work.updCap, tile_updTile_self _ _ _ ht, tile_updTile_self _ _ _ ht, tile, lost]
          exact ⟨rfl, rfl⟩
    · rw [msgAt_member own fire, msgAt_member (heard.2 own) fire, Work.on, Work.on, member, now]
      split
      · rw [Work.get_updCap, Work.get_updCap, Work.updCap, Work.updCap, tile_updTile_self _ _ _ ht, tile_updTile_self _ _ _ ht, tile, lost]
        exact ⟨rfl, rfl⟩
      · exact same
  · rw [msgAt_own own, msgAt_own (fun h => own (heard.1 h))]
    exact same

/-- A register that reads as before does so under every field of its key. -/
theorem get_of_key {w v : Work σ} {f g : Fld} (key : f.key = g.key) (same : w.get g = v.get g) : w.get f = v.get f := by
  rw [Work.get, Work.get, ← key] at same
  rw [Work.get, Work.get, Nat.xor_left_injective same]

/-- The message off the line. -/
def offLine (w : Work σ) (ms : List TrigMsg) : Work σ := { w with dev := { w.dev with line := ms } }

theorem triggerMessage_eq {w : Work σ} {m : TrigMsg} {ms : List TrigMsg} (line : w.dev.line = m :: ms) :
    triggerMessage w = (offLine w ms).each (List.range 32) (fun w t => msgAt w t m) := by
  rw [triggerMessage, line]
  rfl

theorem offLine_settled (w : Work σ) (ms : List TrigMsg) (t : Nat) (m : TrigMsg) : MsgSettled (offLine w ms) t m ↔ MsgSettled w t m := Iff.rfl

/-- What the oldest message leaves once every tile has met it. -/
theorem message_through {s : State} {m : TrigMsg} {ms : List TrigMsg} (settled : ∀ u < 32, MsgSettled (Work.start s) u m) :
    Through CAP_LOST (fun w t => msgAt w t m) (offLine (Work.start s) ms) ((offLine (Work.start s) ms).each (List.range 32) (fun w t => msgAt w t m)) 32 := by
  have apart : ∀ t < 32, ∀ u < 32, u ≠ t → (CAP_LOST t).key ≠ (CAP_LOST u).key := by
    simp only [Fld.key, CAP_LOST, tileBase]
    omega
  exact each_through apart (fun v t _ => msgAt_stays v t m) _ (fun t ht v h => msg_found ht ((offLine_settled _ ms t m).2 (settled t ht)) h) (Nat.le_refl 32)

section

variable {s : State} (hs : s.wf = true) {m : TrigMsg} {ms : List TrigMsg} (line : s.dev.line = m :: ms)

include hs line

/-- A FIRE at units that are all dead is lost at each of them (R257, R258). -/
theorem fire_lost (fire : m.kind = 1) (gone : ∀ u < 32, Hears s u m → condOn s.view u 13 = true → capIsDead s.view u = true ∧
      (∀ r, (s.tile u).cap.rec_ = some r → m.point.key ≠ r.point.key)) :
    Answers .triggerMessage s (fun t => t.dev.line = ms ∧
      (∀ u < 32, Hears s u m → condOn s.view u 13 = true → t.get (CAP_LOST u) = (s.get (CAP_LOST u) + 1) % 2 ^ (CAP_LOST u).width) ∧
      (∀ u < 32, ¬(Hears s u m ∧ condOn s.view u 13 = true) → t.tile u = s.tile u ∧ t.get (CAP_LOST u) = s.get (CAP_LOST u)) ∧
      t.dev.held = s.dev.held ∧ Frame s t ((List.range 32).map CAP_LOST)) := by
  have num : devNum (Work.start s) = s.get (CAP_XGROUP_DEVNUM 0) := Work.get_start _ _
  have hears : ∀ u, Heard (offLine (Work.start s) ms) u m ↔ Hears s u m := fun u => by
    show Heard (Work.start s) u m ↔ _
    rw [Heard, num]
  have settled : ∀ u < 32, MsgSettled (Work.start s) u m := fun u hu _ heard on => Or.inl (gone u hu ((hears u).1 heard) on)
  obtain ⟨done, -, ⟨regs, quiet, -, dev⟩, -⟩ := message_through (ms := ms) settled
  refine answers_of triggerMessage rfl (triggerMessage_eq line) ?_
  have found : ∀ f, (offLine (Work.start s) ms).get f = s.get f := fun f => Work.get_start s f
  have was : ∀ u, (offLine (Work.start s) ms).tile u = s.tile u ∧ (condOn (offLine (Work.start s) ms) u 13 = condOn s.view u 13) ∧
      capIsDead (offLine (Work.start s) ms) u = capIsDead s.view u := fun u => ⟨rfl, rfl, rfl⟩
  have still : Quiet (offLine (Work.start s) ms) ∧ (offLine (Work.start s) ms).dev.line = ms ∧ (offLine (Work.start s) ms).dev.held = s.dev.held :=
    ⟨quiet_start s, rfl, rfl⟩
  generalize offLine (Work.start s) ms = v at *
  generalize v.each (List.range 32) (fun w t => msgAt w t m) = w at *
  have get := fun f => Work.finish_get w f hs
  refine ⟨?_, fun u hu heard on => ?_, fun u hu other => ?_, ?_, frame_finish hs (fun f hf => (regs f (fun g => ?_)).trans (found f)) (quiet still.1)⟩
  · show w.dev.line = ms
    rw [dev]
    exact still.2.1
  · obtain ⟨dead, others⟩ := gone u hu heard on
    obtain ⟨tile, on', dead'⟩ := was u
    obtain ⟨-, count⟩ := done u hu
    rw [get, count, msgAt_lost ((hears u).2 heard) fire (on'.trans on) (dead'.trans dead) (by rw [Work.cap, tile]; exact others), lostTrigger_get, found]
  · obtain ⟨tile, on', -⟩ := was u
    obtain ⟨tile', count⟩ := done u hu
    have nothing : msgAt v u m = v := by
      by_cases heard : Hears s u m
      · exact msgAt_unasked fire (on'.trans (Bool.eq_false_iff.2 (fun h => other ⟨heard, h⟩)))
      · exact msgAt_own (fun h => heard ((hears u).1 h))
    rw [nothing] at tile' count
    exact ⟨tile'.trans tile, (get _).trans (count.trans (found _))⟩
  · show w.dev.held = s.dev.held
    rw [dev]
    exact still.2.2
  · rintro ⟨u, hu, rfl⟩
    exact hf _ (List.mem_map_of_mem (List.mem_range.2 hu))

/-- A message ahead of its frame, or none that fires, waits at the units that hear it (R257, R258). -/
theorem message_waits (waits : m.kind ≠ 1 ∨ (s.tl.count < m.point.w ∧ ∀ u < 32, condOn s.view u 13 = true → capIsDead s.view u = false)) :
    Answers .triggerMessage s (fun t => t.dev.line = ms ∧ (∀ u < 32, ¬Hears s u m → t.tile u = s.tile u) ∧
      (∀ u < 32, Hears s u m → (t.tile u).cap =
        if m.kind = 1 then (if condOn s.view u 13 then { (s.tile u).cap with
          future := (s.tile u).cap.future ++ [⟨m.point, 13, none, true⟩] } else (s.tile u).cap)
        else if s.get (CAP_GROUP_MEMBER u) ≠ 0 then { (s.tile u).cap with
          garms := (s.tile u).cap.garms ++ [⟨max m.point.w (s.tl.count + 1), decide (m.kind = 2), m.cls⟩] }
        else (s.tile u).cap) ∧ t.dev.held = s.dev.held ∧ Frame s t []) := by
  have num : devNum (Work.start s) = s.get (CAP_XGROUP_DEVNUM 0) := Work.get_start _ _
  have hears : ∀ u, Heard (offLine (Work.start s) ms) u m ↔ Hears s u m := fun u => by
    show Heard (Work.start s) u m ↔ _
    rw [Heard, num]
  have settled : ∀ u < 32, MsgSettled (Work.start s) u m := fun u hu fire _ on => by
    obtain ⟨ahead, alive⟩ := waits.resolve_left (not_not.2 fire)
    exact Or.inr ⟨alive u hu on, ahead⟩
  obtain ⟨done, -, ⟨regs, quiet, -, dev⟩, -⟩ := message_through (ms := ms) settled
  refine answers_of triggerMessage rfl (triggerMessage_eq line) ?_
  have found : ∀ f, (offLine (Work.start s) ms).get f = s.get f := fun f => Work.get_start s f
  have was : ∀ u, (offLine (Work.start s) ms).tile u = s.tile u ∧ (condOn (offLine (Work.start s) ms) u 13 = condOn s.view u 13) ∧
      capIsDead (offLine (Work.start s) ms) u = capIsDead s.view u := fun u => ⟨rfl, rfl, rfl⟩
  have still : Quiet (offLine (Work.start s) ms) ∧ (offLine (Work.start s) ms).dev.line = ms ∧ (offLine (Work.start s) ms).dev.held = s.dev.held ∧
      (offLine (Work.start s) ms).now = s.tl.count := ⟨quiet_start s, rfl, rfl, rfl⟩
  generalize offLine (Work.start s) ms = v at *
  have met : ∀ u < 32, Hears s u m → (msgAt v u m).get (CAP_LOST u) = v.get (CAP_LOST u) ∧ ((msgAt v u m).tile u).cap =
      if m.kind = 1 then (if condOn s.view u 13 then { (s.tile u).cap with
        future := (s.tile u).cap.future ++ [⟨m.point, 13, none, true⟩] } else (s.tile u).cap)
      else if s.get (CAP_GROUP_MEMBER u) ≠ 0 then { (s.tile u).cap with
        garms := (s.tile u).cap.garms ++ [⟨max m.point.w (s.tl.count + 1), decide (m.kind = 2), m.cls⟩] }
      else (s.tile u).cap := fun u hu heard => by
    obtain ⟨tile, on', dead'⟩ := was u
    by_cases fire : m.kind = 1
    · rw [if_pos fire]
      obtain ⟨ahead, alive⟩ := waits.resolve_left (not_not.2 fire)
      cases c : condOn s.view u 13 with
      | false =>
        rw [msgAt_unasked fire (on'.trans c), tile]
        exact ⟨rfl, rfl⟩
      | true =>
        rw [msgAt_waits ((hears u).2 heard) fire (on'.trans c) (dead'.trans (alive u hu c)) (by rw [still.2.2.2]; exact ahead), Work.get_updCap, Work.updCap,
          tile_updTile_self _ _ _ hu, tile]
        exact ⟨rfl, rfl⟩
    · rw [if_neg fire, msgAt_member ((hears u).2 heard) fire, on_eq, found, still.2.2.2]
      by_cases member : s.get (CAP_GROUP_MEMBER u) ≠ 0
      · rw [if_pos (decide_eq_true member), if_pos member, Work.get_updCap, Work.updCap, tile_updTile_self _ _ _ hu, tile]
        exact ⟨rfl, rfl⟩
      · rw [if_neg (by rw [decide_eq_true_eq]; exact member), if_neg member, tile]
        exact ⟨rfl, rfl⟩
  have lost : ∀ u < 32, (msgAt v u m).get (CAP_LOST u) = v.get (CAP_LOST u) := fun u hu => by
    by_cases heard : Hears s u m
    · exact (met u hu heard).1
    · rw [msgAt_own (fun h => heard ((hears u).1 h))]
  generalize v.each (List.range 32) (fun w t => msgAt w t m) = w at *
  refine ⟨?_, fun u hu own => ?_, fun u hu heard => ?_, ?_, frame_finish hs (fun f _ => Eq.trans ?_ (found f)) (quiet still.1)⟩
  · show w.dev.line = ms
    rw [dev]
    exact still.2.1
  · obtain ⟨tile, -⟩ := done u hu
    rw [msgAt_own (fun h => own ((hears u).1 h))] at tile
    exact tile.trans (was u).1
  · obtain ⟨tile, -⟩ := done u hu
    exact (congrArg Tile.cap tile).trans (met u hu heard).2
  · show w.dev.held = s.dev.held
    rw [dev]
    exact still.2.2.1
  · by_cases own : ∃ u < 32, f.key = (CAP_LOST u).key
    · obtain ⟨u, hu, key⟩ := own
      obtain ⟨-, count⟩ := done u hu
      exact get_of_key key (count.trans (lost u hu))
    · exact regs f (fun g ⟨u, hu, eq⟩ key => own ⟨u, hu, by rw [key, eq]⟩)

end

/-! ## Copies of a block over the lanes of a link (R338, R353) -/

theorem lineBlocks_dev (w : Work σ) (row : List (Nat × Nat × Nat)) : (lineBlocks w row).2.dev = w.dev := by
  induction row generalizing w with
  | nil => rfl
  | cons b bs ih => exact ih (lineBlock w b.1 b.2.1 b.2.2).2

theorem lineBlocks_has (w : Work σ) {row : List (Nat × Nat × Nat)} {x : Nat × Nat × Nat} (hx : x ∈ row) :
    ∃ b ∈ (lineBlocks w row).1, b.lane = x.1 ∧ b.head = x.2.1 ∧ b.payload = x.2.2 := by
  induction row generalizing w with
  | nil => exact absurd hx List.not_mem_nil
  | cons y ys ih =>
    rcases List.mem_cons.1 hx with rfl | hx
    · exact ⟨_, List.mem_cons_self, rfl, rfl, rfl⟩
    · obtain ⟨b, hb, is⟩ := ih (lineBlock w y.1 y.2.1 y.2.2).2 hx
      exact ⟨b, List.mem_cons_of_mem _ hb, is⟩

/-- Lane i of link l gives a block out. -/
def LaneHas (w : Work σ) (l i head payload : Nat) (out : List Out) : Prop :=
  laneSends w (w.get (LINK_CFG_BASE l) + i) = true → ∃ bs, Out.interval l bs ∈ out ∧
    ∃ b ∈ bs, b.lane = w.get (LINK_CFG_BASE l) + i ∧ b.head = head ∧ b.payload = payload

/-- A block interval gives its blocks out behind what was given out before. -/
theorem interval_gives (w : Work σ) (l : Nat) (f : Nat → Option (Nat × Nat)) : (∀ o ∈ w.dev.out, o ∈ (interval w l f).dev.out) ∧
    ∀ i < linkWidth w l, ∀ head payload, f i = some (head, payload) → LaneHas w l i head payload (interval w l f).dev.out := by
  rw [interval]
  dsimp only
  split
  next none_ =>
    refine ⟨fun o ho => ho, fun i hi head payload _ sends => ?_⟩
    have mem : i ∈ (List.range (linkWidth w l)).filter (fun i => laneSends w (w.get (LINK_CFG_BASE l) + i)) :=
      List.mem_filter.2 ⟨List.mem_range.2 hi, sends⟩
    rw [List.map_eq_nil_iff.1 none_] at mem
    exact absurd mem List.not_mem_nil
  next =>
    refine ⟨fun o ho => List.mem_append_left _ (by rw [lineBlocks_dev]; exact ho), fun i hi head payload gives sends => ⟨_, List.mem_append_right _ List.mem_cons_self, ?_⟩⟩
    have mem : i ∈ (List.range (linkWidth w l)).filter (fun i => laneSends w (w.get (LINK_CFG_BASE l) + i)) :=
      List.mem_filter.2 ⟨List.mem_range.2 hi, sends⟩
    obtain ⟨b, hb, lane, head', payload'⟩ := lineBlocks_has w (List.mem_map_of_mem (f := fun i =>
      (w.get (LINK_CFG_BASE l) + i, ((f i).getD (2, ctrlBlock 0x1E 0)).1, ((f i).getD (2, ctrlBlock 0x1E 0)).2)) mem)
    rw [gives] at head' payload'
    exact ⟨b, hb, lane, head', payload'⟩

/-! ## Tokens over the links of XLINKS (R259) -/

theorem link_updLink (w : Work σ) {l : Nat} (hl : l < 32) (f : LinkSt → LinkSt) (k : Nat) : (w.updLink l f).link k = if k = l then f (w.link l) else w.link k := by
  rw [Work.link, Work.updLink, vget_vset _ _ _ _ _ hl]
  rfl

/-- A block waits at link l, or is on its good lanes. -/
def CopyLeft (w v : Work σ) (l p : Nat) : Prop :=
  (lullTx w l = true → (v.link l).held = (w.link l).held ++ [p]) ∧
  (lullTx w l = false → ∀ i < linkWidth w l, bit ((w.link l).own ||| (w.link l).far) i = false → LaneHas w l i 2 p v.dev.out)

/-- Blocks that have left over links, those of a list with their copies. -/
structure Left (p : Nat) (w v : Work σ) (n : Nat) (chosen : Nat → Bool) : Prop where
  gets : ∀ f, v.get f = w.get f
  quiet : Quiet w → Quiet v
  ahead : ∀ l, n ≤ l → v.link l = w.link l
  copies : ∀ l < n, chosen l = true → CopyLeft w v l p
  dev : v.dev = { w.dev with links := v.dev.links, out := v.dev.out }

theorem sendCopies_link (w : Work σ) {l : Nat} (hl : l < 32) (p : Nat) : (∀ f, (sendCopies w l p).get f = w.get f) ∧ (Quiet w → Quiet (sendCopies w l p)) ∧
    (∀ k, k ≠ l → (sendCopies w l p).link k = w.link k) ∧ CopyLeft w (sendCopies w l p) l p ∧ (∀ o ∈ w.dev.out, o ∈ (sendCopies w l p).dev.out) ∧
    (sendCopies w l p).dev = { w.dev with links := (sendCopies w l p).dev.links, out := (sendCopies w l p).dev.out } := by
  rw [sendCopies]
  cases lull : lullTx w l with
  | true =>
    rw [if_pos rfl]
    refine ⟨fun f => rfl, id, fun k hk => ?_, ⟨fun _ => ?_, fun h => absurd (lull.symm.trans h) (by decide)⟩, fun o ho => ho, rfl⟩
    · rw [link_updLink _ hl, if_neg hk]
    · rw [link_updLink _ hl, if_pos rfl]
  | false =>
    rw [if_neg Bool.false_ne_true]
    obtain ⟨gets, -, -, -, -, -, dev⟩ := copiesNow_onlyOut w l p
    obtain ⟨old, gives⟩ := interval_gives w l (fun i => if bit ((w.link l).own ||| (w.link l).far) i then none else some (2, p))
    have links : ∀ k, (copiesNow w l p).link k = w.link k := fun k => by rw [Work.link, dev]; rfl
    refine ⟨gets, fun quiet => interval_quiet quiet _ _, fun k _ => links k, ⟨fun h => absurd (lull.symm.trans h) (by decide), fun _ i hi good => ?_⟩, old, ?_⟩
    · exact gives i hi 2 p (by rw [good]; rfl)
    · have same : (copiesNow w l p).dev.links = w.dev.links := by rw [dev]
      rw [same]
      exact dev

theorem lullTx_of_gets {w v : Work σ} (gets : ∀ f, v.get f = w.get f) (l : Nat) : lullTx v l = lullTx w l ∧ linkWidth v l = linkWidth w l ∧
    ∀ n, laneSends v n = laneSends w n := by
  refine ⟨?_, ?_, fun n => ?_⟩
  · rw [lullTx, lullTx, linkLanes, linkLanes, linkWidth, linkWidth]
    simp only [Work.on, gets]
  · rw [linkWidth, linkWidth, gets]
  · rw [laneSends, laneSends]
    simp only [Work.on, gets]

theorem sent_left (p : Nat) (chosen : Nat → Bool) (w : Work σ) {f : Work σ → Nat → Work σ}
    (step : ∀ v l, (∀ g, v.get g = w.get g) → f v l = if chosen l then sendCopies v l p else v) {n : Nat} (hn : n ≤ 32) :
    Left p w (w.each (List.range n) f) n chosen := by
  induction n with
  | zero => exact ⟨fun _ => rfl, id, fun _ _ => rfl, fun l hl => absurd hl (Nat.not_lt_zero l), rfl⟩
  | succ n ih =>
    obtain ⟨gets, quiet, ahead, copies, dev⟩ := ih (by omega)
    have split : w.each (List.range (n + 1)) f = f (w.each (List.range n) f) n := by
      rw [List.range_succ, Work.each, List.foldl_append]
      rfl
    rw [split]
    generalize w.each (List.range n) f = v at *
    rw [step v n gets]
    split
    next pick =>
      obtain ⟨gets', quiet', others, ⟨lull, plain⟩, old, dev'⟩ := sendCopies_link v (l := n) (by omega) p
      obtain ⟨lullSame, width, sends⟩ := lullTx_of_gets gets n
      generalize sendCopies v n p = x at *
      refine ⟨fun f => (gets' f).trans (gets f), fun q => quiet' (quiet q), fun l hl => (others l (by omega)).trans (ahead l (by omega)), fun l hl chose => ?_, by rw [dev', dev]⟩
      by_cases same : l = n
      · subst same
        refine ⟨fun on => ?_, fun off i hi good => ?_⟩
        · rw [lull (lullSame.trans on), ahead l (Nat.le_refl l)]
        · have left := plain (lullSame.trans off) i (by rw [width]; exact hi) (by rw [ahead l (Nat.le_refl l)]; exact good)
          rw [LaneHas, gets, sends] at left
          exact left
      · obtain ⟨lull', plain'⟩ := copies l (by omega) chose
        refine ⟨fun on => ?_, fun off i hi good lane => ?_⟩
        · rw [others l same, lull' on]
        · obtain ⟨bs, hbs, b⟩ := plain' off i hi good lane
          exact ⟨bs, old _ hbs, b⟩
    next skip =>
      refine ⟨gets, quiet, fun l hl => ahead l (by omega), fun l hl chose => ?_, dev⟩
      by_cases same : l = n
      · rw [same] at chose
        exact absurd chose skip
      · exact copies l (by omega) chose

theorem sendTokens_left (w : Work σ) (m : TrigMsg) (l : Nat) (en : w.get (CAP_XGROUP_EN 0) ≠ 0) :
    Left (trigBlock (trigToken m)) w (sendTokens w m (fun x => decide (x ≠ l))) 32 (fun k => w.getBit (CAP_XLINKS 0) k && decide (k ≠ l) && linkLive w k) := by
  rw [sendTokens, if_pos (by rw [on_eq, decide_eq_true_eq]; exact en)]
  refine sent_left _ _ w (fun v k gets => ?_) (Nat.le_refl 32)
  simp only [Work.getBit, linkLive, gets, Bool.and_eq_true, and_assoc]

/-- A token counted. -/
def tallied (w : Work σ) (l : Nat) : Work σ := ((w.add (LINK_COUNT0_CRC_ERR l) 0).add (CAP_XCOUNT_CHECK_ERR 0) 0).inc (CAP_XCOUNT_RECEIVED 0)

/-- The tokens of the last 1,024 ticks. -/
def recentTokens (w : Work σ) : List (TrigMsg × Nat) := w.dev.tokensSeen.filter (fun x => w.dev.ticks ≤ x.2 + 1024)

/-- A token's message on the line. -/
def lined (w : Work σ) (m : TrigMsg) : Work σ :=
  { w with dev := { w.dev with tokensSeen := recentTokens w ++ [(m, w.dev.ticks)], line := w.dev.line ++ [m] } }

theorem tallied_facts (w : Work σ) (l : Fin 32) :
    (tallied w l).get (CAP_XCOUNT_RECEIVED 0) = min (2 ^ (CAP_XCOUNT_RECEIVED 0).width - 1) (w.get (CAP_XCOUNT_RECEIVED 0) + 1) ∧
    Writes (· ∈ [CAP_XCOUNT_RECEIVED 0, CAP_XCOUNT_CHECK_ERR 0, LINK_COUNT0_CRC_ERR l]) w (tallied w l) := by
  have apart : (CAP_XCOUNT_RECEIVED 0).key ≠ (CAP_XCOUNT_CHECK_ERR 0).key ∧ (CAP_XCOUNT_RECEIVED 0).key ≠ (LINK_COUNT0_CRC_ERR l).key := by
    simp only [Fld.key, CAP_XCOUNT_RECEIVED, CAP_XCOUNT_CHECK_ERR, LINK_COUNT0_CRC_ERR, tileBase]
    omega
  refine ⟨?_, (((Writes.refl w).set _ _ (by simp)).set _ _ (by simp)).inc _ (by simp)⟩
  rw [tallied, get_inc, Work.add, Work.add, Work.get_set_ne _ _ _ _ apart.1, Work.get_set_ne _ _ _ _ apart.2]

theorem token_apart (l : Fin 32) : ∀ f ∈ [CAP_XGROUP_EN 0, CAP_XLINKS 0], f.key ≠ (LINK_COUNT0_CRC_ERR l).key := by
  simp only [List.mem_cons, List.not_mem_nil, or_false, forall_eq_or_imp, forall_eq, Fld.key, CAP_XGROUP_EN, CAP_XLINKS, LINK_COUNT0_CRC_ERR, tileBase]
  omega

/-- A good token that is new goes on the line and over the other links. -/
theorem triggerToken_new {w : Work σ} {l : Fin 32} {b : Nat} (en : w.get (CAP_XGROUP_EN 0) ≠ 0) (link : bit (w.get (CAP_XLINKS 0)) l = true) (good : trigOk b = true)
    (known : bits b 8 2 ≠ 3) (fresh : (recentTokens w).any (fun x => sameToken x.1 (tokenMsg w (bits b 8 50))) = false) :
    triggerToken w l [b] = sendTokens (lined (tallied w l) (tokenMsg w (bits b 8 50))) (tokenMsg w (bits b 8 50)) (fun x => decide (x ≠ l)) := by
  have kept : [b].filter trigOk = [b] := by rw [List.filter_cons_of_pos good, List.filter_nil]
  have gets : ∀ f ∈ [CAP_XGROUP_EN 0, CAP_XLINKS 0], (w.add (LINK_COUNT0_CRC_ERR l) 0).get f = w.get f := fun f hf =>
    Work.get_set_ne _ _ _ _ (token_apart l f hf)
  have open_ : ¬((!(w.add (LINK_COUNT0_CRC_ERR l) 0).on (CAP_XGROUP_EN 0) || !(w.add (LINK_COUNT0_CRC_ERR l) 0).getBit (CAP_XLINKS 0) l) = true) := by
    rw [on_eq, Work.getBit, gets _ (by simp), gets _ (by simp), link, decide_eq_true en]
    decide
  have nocopy : (recentTokens w).any (fun x => sameToken x.1 (tokenMsg w (bits b 8 50)) && decide (x.1.cls = (tokenMsg w (bits b 8 50)).cls)) = false := by
    rw [List.any_eq_false] at fresh ⊢
    intro x hx both
    exact fresh x hx (Bool.and_eq_true_iff.1 both).1
  have kind : (tokenMsg w (bits b 8 50)).kind ≠ 3 := by
    rw [tokenMsg, bits]
    simp only [bits] at known ⊢
    omega
  rw [triggerToken]
  simp only [kept, List.length_cons, List.length_nil, Nat.sub_self]
  rw [if_neg open_]
  refine (if_neg (not_or.2 ⟨?_, kind⟩)).trans ((if_neg ?_).trans rfl)
  · exact Bool.eq_false_iff.1 nocopy
  · exact Bool.eq_false_iff.1 fresh

theorem link_apart (k l : Fin 32) : ∀ f ∈ [LINK_CFG_BASE k, LINK_CFG_WIDTH k, LINK_STATUS_STATE k, THERM_STORM_TRIPPED],
    ∀ g ∈ [CAP_XCOUNT_RECEIVED 0, CAP_XCOUNT_CHECK_ERR 0, LINK_COUNT0_CRC_ERR l], f.key ≠ g.key := by
  simp only [List.mem_cons, List.not_mem_nil, or_false, forall_eq_or_imp, forall_eq, Fld.key, LINK_CFG_BASE, LINK_CFG_WIDTH, LINK_STATUS_STATE, THERM_STORM_TRIPPED,
    CAP_XCOUNT_RECEIVED, CAP_XCOUNT_CHECK_ERR, LINK_COUNT0_CRC_ERR, tileBase]
  omega

theorem lane_apart {n : Nat} (hn : n < 32) (l : Fin 32) : ∀ f ∈ [LANE_STATUS_LULL_TX n, LANE_CFG_ROLE n],
    ∀ g ∈ [CAP_XCOUNT_RECEIVED 0, CAP_XCOUNT_CHECK_ERR 0, LINK_COUNT0_CRC_ERR l], f.key ≠ g.key := by
  simp only [List.mem_cons, List.not_mem_nil, or_false, forall_eq_or_imp, forall_eq, Fld.key, LANE_STATUS_LULL_TX, LANE_CFG_ROLE, CAP_XCOUNT_RECEIVED,
    CAP_XCOUNT_CHECK_ERR, LINK_COUNT0_CRC_ERR, tileBase]
  omega

/-- A link's lanes and what they may send, from its registers. -/
theorem link_found {v w : Work σ} {k : Nat} (link : ∀ f ∈ [LINK_CFG_BASE k, LINK_CFG_WIDTH k, LINK_STATUS_STATE k, THERM_STORM_TRIPPED], v.get f = w.get f)
    (lane : ∀ n < 32, v.get (LANE_STATUS_LULL_TX n) = w.get (LANE_STATUS_LULL_TX n) ∧ v.get (LANE_CFG_ROLE n) = w.get (LANE_CFG_ROLE n)) :
    v.get (LINK_CFG_BASE k) = w.get (LINK_CFG_BASE k) ∧ linkWidth v k = linkWidth w k ∧ (∀ n, laneSends v n = laneSends w n) ∧ lullTx v k = lullTx w k := by
  have base := link _ (List.mem_cons_self)
  have width : linkWidth v k = linkWidth w k := by rw [linkWidth, linkWidth, link (LINK_CFG_WIDTH k) (by simp)]
  have lull : ∀ n, (decide (n < 32) && v.on (LANE_STATUS_LULL_TX n)) = (decide (n < 32) && w.on (LANE_STATUS_LULL_TX n)) := fun n => by
    by_cases hn : n < 32
    · rw [Work.on, Work.on, (lane n hn).1]
    · rw [decide_eq_false hn, Bool.false_and, Bool.false_and]
  refine ⟨base, width, fun n => ?_, ?_⟩
  · by_cases hn : n < 32
    · rw [laneSends, laneSends, Work.on, Work.on, Work.on, Work.on, (lane n hn).1, (lane n hn).2, link THERM_STORM_TRIPPED (by simp)]
    · rw [laneSends, laneSends, decide_eq_false hn]
      simp
  · rw [lullTx, lullTx, linkLanes, linkLanes, width, base]
    exact congrArg (List.any _) (funext lull)

theorem recent_any (w : Work σ) (p : TrigMsg × Nat → Bool) :
    (recentTokens w).any p = w.dev.tokensSeen.any (fun x => decide (w.dev.ticks ≤ x.2 + 1024) && p x) := by
  rw [recentTokens, List.any_filter]

/-- A token that is new is on the line and on its way over the other links (R259, R363). -/
theorem token_new {s : State} (hs : s.wf = true) (l : Fin 32) (ix : Fin 4) (b : BitVec 64) (en : s.get (CAP_XGROUP_EN 0) ≠ 0)
    (link : bit (s.get (CAP_XLINKS 0)) l = true) (up : rxUp s.view l ix = true) (good : trigOk b.toNat = true) (known : bits b.toNat 8 2 ≠ 3)
    (fresh : s.dev.tokensSeen.any (fun x => decide (s.dev.ticks ≤ x.2 + 1024) && sameToken x.1 (tokenMsg s.view (bits b.toNat 8 50))) = false) :
    Answers (.triggerToken l [(ix, b)]) s (fun t => t.dev.line = s.dev.line ++ [tokenMsg s.view (bits b.toNat 8 50)] ∧
      t.get (CAP_XCOUNT_RECEIVED 0) = min (2 ^ (CAP_XCOUNT_RECEIVED 0).width - 1) (s.get (CAP_XCOUNT_RECEIVED 0) + 1) ∧
      (∀ k : Fin 32, k ≠ l → bit (s.get (CAP_XLINKS 0)) k = true → linkLive s.view k = true →
        Copied s t k (trigBlock (trigToken (tokenMsg s.view (bits b.toNat 8 50))))) ∧ t.dev.tiles = s.dev.tiles ∧
      Frame s t [CAP_XCOUNT_RECEIVED 0, CAP_XCOUNT_CHECK_ERR 0, LINK_COUNT0_CRC_ERR l]) := by
  have one : upCopies (Work.start s) l [(ix, b)] = [b.toNat] := by
    rw [upCopies, List.filter_cons, if_pos (by exact up)]
    rfl
  have new := triggerToken_new (w := Work.start s) (l := l) (b := b.toNat) (by rw [Work.get_start]; exact en) (by rw [Work.get_start]; exact link) good known
    ((recent_any _ _).trans fresh)
  obtain ⟨count, writes⟩ := tallied_facts (Work.start s) l
  generalize tokenMsg (Work.start s) (bits b.toNat 8 50) = m at *
  have apart : ∀ f ∈ [CAP_XGROUP_EN 0, CAP_XLINKS 0], ∀ g ∈ [CAP_XCOUNT_RECEIVED 0, CAP_XCOUNT_CHECK_ERR 0, LINK_COUNT0_CRC_ERR l], f.key ≠ g.key := by
    simp only [List.mem_cons, List.not_mem_nil, or_false, forall_eq_or_imp, forall_eq, Fld.key, CAP_XGROUP_EN, CAP_XLINKS, CAP_XCOUNT_RECEIVED, CAP_XCOUNT_CHECK_ERR,
      LINK_COUNT0_CRC_ERR, tileBase]
    omega
  have linedGet : ∀ f, (lined (tallied (Work.start s) l) m).get f = (tallied (Work.start s) l).get f := fun _ => rfl
  have linedDev : (lined (tallied (Work.start s) l) m).dev.line = s.dev.line ++ [m] ∧ (lined (tallied (Work.start s) l) m).dev.tiles = s.dev.tiles ∧
      Quiet (lined (tallied (Work.start s) l) m) ∧ ∀ k, (lined (tallied (Work.start s) l) m).link k = s.view.link k := ⟨rfl, rfl, quiet_start s, fun _ => rfl⟩
  obtain ⟨line, tiles, quiet, links⟩ := linedDev
  generalize lined (tallied (Work.start s) l) m = v at *
  have found : ∀ f, (∀ g ∈ [CAP_XCOUNT_RECEIVED 0, CAP_XCOUNT_CHECK_ERR 0, LINK_COUNT0_CRC_ERR l], f.key ≠ g.key) → v.get f = s.get f := fun f hf =>
    (linedGet f).trans ((writes f hf).trans (Work.get_start s f))
  obtain ⟨gets, quiet', -, copies, dev⟩ := sendTokens_left v m l (by rw [found _ (apart _ (by simp))]; exact en)
  refine answers_of (fun w => triggerToken w l (upCopies w l [(ix, b)])) rfl ((congrArg (triggerToken (Work.start s) l) one).trans new) ?_
  generalize sendTokens v m (fun x => decide (x ≠ l)) = w at *
  have get := fun f => Work.finish_get w f hs
  refine ⟨?_, ?_, fun k ne on live => ?_, ?_, frame_finish hs (fun f hf => (gets f).trans (found f hf)) (quiet' quiet)⟩
  · show w.dev.line = _
    rw [dev]
    exact line
  · rw [get, gets, linedGet, count, Work.get_start]
  · have low : ∀ f ∈ [LINK_CFG_BASE k, LINK_CFG_WIDTH k, LINK_STATUS_STATE k, THERM_STORM_TRIPPED], v.get f = s.view.get f := fun f hf =>
      (found f (link_apart k l f hf)).trans (Work.get_start s f).symm
    have lane : ∀ n < 32, v.get (LANE_STATUS_LULL_TX n) = s.view.get (LANE_STATUS_LULL_TX n) ∧ v.get (LANE_CFG_ROLE n) = s.view.get (LANE_CFG_ROLE n) := fun n hn =>
      ⟨(found _ (lane_apart hn l _ (by simp))).trans (Work.get_start s _).symm, (found _ (lane_apart hn l _ (by simp))).trans (Work.get_start s _).symm⟩
    obtain ⟨base, width, sends, lull⟩ := link_found low lane
    have chose : (v.getBit (CAP_XLINKS 0) k && decide (k.val ≠ l) && linkLive v k) = true := by
      rw [Work.getBit, found _ (apart _ (by simp)), on, decide_eq_true (show k.val ≠ l.val from fun h => ne (Fin.ext h)), linkLive, low _ (by simp)]
      exact live
    obtain ⟨held, given⟩ := copies k k.isLt chose
    refine ⟨fun h => ?_, fun h i hi fine lives => ?_⟩
    · exact (held (lull.trans h)).trans (by rw [links])
    · have gives := given (lull.trans h) i (by rw [width]; exact hi) (by rw [links]; exact fine)
      rw [LaneHas, base, sends, Work.get_start] at gives
      exact gives lives
  · show w.dev.tiles = _
    rw [dev]
    exact tiles

theorem triggerGroups : Clause.TriggerGroups := fun _ hs =>
  ⟨fun _ _ line fire gone => fire_lost hs line fire gone, fun _ _ line waits => message_waits hs line waits,
    fun l ix b en link up good known fresh => token_new hs l ix b en link up good known fresh⟩

/-- Settles O30: a command that goes through the tiles meets each as the command found it, and a new token leaves over each live link once. -/
theorem triggers : Obligations.Triggers := ⟨triggerInputs, triggerGroups⟩

end Sys2Proof.TriggerProofs
end

section
/-! PROOFS. The engine slots of a word and the entries that they issue (R43, R49, R55, R199 to R204, R209). -/

namespace Sys2Proof.SlotProofs

open Sys2Proof.Machine Sys2Proof.Effects Sys2Proof.SeqFacts Sys2Proof.RejectFacts Sys2Proof.TakeProofs Sys2Proof.LaneWorks Sys2Proof.PageProofs

variable {s : State}

/-! ## The stage queues behind an entry (R49, R55) -/

/-- What a staged entry is but for its mark: its entry, its producer and its page. -/
def unmarked (x : Staged) : Entry × Producer × Option Nat := (x.entry, x.from_, x.page)

theorem markLeaves_unmarked (c : Nat) (p : Producer) (l : List Staged) : (markLeaves c p l).map unmarked = l.map unmarked := by
  induction l with
  | nil => rfl
  | cons x r ih =>
    rw [markLeaves]
    split
    · rfl
    · rw [List.map_cons, List.map_cons, ih]

theorem markLeaves_none {c : Nat} {p : Producer} {l : List Staged} (h : ∀ y ∈ l, ¬(y.from_ = p ∧ y.entry.clasp = c)) : markLeaves c p l = l := by
  induction l with
  | nil => rfl
  | cons x r ih => rw [markLeaves, if_neg (h x List.mem_cons_self), ih (fun y hy => h y (List.mem_cons_of_mem _ hy))]

theorem leftStage_unmarked (p : Producer) (c : Nat) (x : List Staged × Option Nat) : (leftStage p c x).map unmarked = x.1.map unmarked := by
  rw [leftStage]
  split
  · rfl
  · split
    · rfl
    · rw [List.map_reverse, markLeaves_unmarked, List.map_reverse, List.reverse_reverse]

/-- Whether a producer waits for a page, from its stage queues. -/
theorem issued_pages (p : Producer) (gen : Nat) (x : List Staged × Option Nat) (e : Entry) :
    (issuedStage p gen x e).1.any (fun y => decide (y.from_ = p) && y.page.isSome) = x.1.any (fun y => decide (y.from_ = p) && y.page.isSome) := by
  have byMap : ∀ l : List Staged, l.any (fun y => decide (y.from_ = p) && y.page.isSome) =
      (l.map unmarked).any (fun y => decide (y.2.1 = p) && y.2.2.isSome) := fun l => by rw [List.any_map]; rfl
  rw [issuedStage, List.any_append, byMap, leftStage_unmarked, ← byMap]
  simp

/-- What waits for a clasp, behind an entry for another. -/
theorem issued_count (p : Producer) (gen : Nat) (x : List Staged × Option Nat) (e : Entry) {d : Nat} (other : e.clasp ≠ d) :
    ((issuedStage p gen x e).1.filter (fun y => y.entry.clasp = d)).length = (x.1.filter (fun y => y.entry.clasp = d)).length := by
  have byMap : ∀ l : List Staged, (l.filter (fun y => y.entry.clasp = d)).length = (l.map unmarked).countP (fun y => decide (y.1.clasp = d)) := fun l => by
    rw [List.countP_map, List.countP_eq_length_filter]
    rfl
  rw [issuedStage, List.filter_append, List.length_append, byMap, leftStage_unmarked, ← byMap]
  simp [other]

/-! ## An entry issued where no chain is open (R49, R55) -/

/-- A tile with an entry of the sequencer behind its stage queues. -/
def issuedTile (gen : Nat) (e : Entry) (x : Tile) : Tile :=
  { x with
    stage := (issuedStage .seq gen (x.stage, lastClasp x .seq) e).1
    issued := (.seq, e.clasp) :: x.issued.filter (fun i => decide (i.1 ≠ .seq)) }

theorem lastClasp_issued (gen : Nat) (e : Entry) (x : Tile) : lastClasp (issuedTile gen e x) .seq = some e.clasp := rfl

theorem issued_pair (gen : Nat) (e : Entry) (x : Tile) :
    ((issuedTile gen e x).stage, lastClasp (issuedTile gen e x) .seq) = issuedStage .seq gen (x.stage, lastClasp x .seq) e := rfl

theorem breakChain_none {w : Work s} {u d : Nat} (none_ : ∀ x, (w.clasp u d).open_ = some x → x.isChain = true → x.from_ ≠ .seq) : breakChain w u d .seq = w := by
  rw [breakChain]
  split
  next x hx => exact if_neg (fun h => none_ x hx h.1 h.2)
  next => rfl

/-- What the sequencer's next entry, to clasp c, does to its last one. -/
def lastLeft (w : Work s) (u c : Nat) : Work s :=
  match lastClasp (w.tile u) .seq with
  | none => w
  | some d =>
    if d = c then w
    else if (w.tile u).stage.any (fun y => decide (y.from_ = .seq ∧ y.entry.clasp = d)) then
      w.updTile u (fun x => { x with stage := (markLeaves d .seq x.stage.reverse).reverse })
    else breakChain w u d .seq

theorem issue_eq (w : Work s) (u : Nat) (e : Entry) : issue w u e =
    ((lastLeft w u e.clasp).updTile u (fun x => { x with issued := (.seq, e.clasp) :: x.issued.filter (fun i => decide (i.1 ≠ .seq)) })).updTile u
      (fun x => { x with stage := x.stage ++ [⟨{ e with abgen := w.get (CLASP_ABORT_CTRL_GEN u) }, .seq, false, none⟩] }) := rfl

theorem lastLeft_local {w : Work s} {u : Nat} (hu : u < 32) (c : Nat) (none_ : ∀ d x, (w.clasp u d).open_ = some x → x.isChain = true → x.from_ ≠ .seq) :
    (lastLeft w u c).tile u = { w.tile u with stage := leftStage .seq c ((w.tile u).stage, lastClasp (w.tile u) .seq) } ∧
    ∀ {K : Fld → Prop} {w0 : Work s}, TileLocal K u Tile.clasps w0 w → TileLocal K u Tile.clasps w0 (lastLeft w u c) := by
  rw [lastLeft, leftStage]
  cases hd : lastClasp (w.tile u) .seq with
  | none => exact ⟨rfl, id⟩
  | some d =>
    dsimp only
    by_cases same : d = c
    · rw [if_pos same, if_pos same]
      exact ⟨rfl, id⟩
    · rw [if_neg same, if_neg same]
      split
      · rw [tile_updTile_self _ _ _ hu]
        exact ⟨rfl, fun h => h.updTile _ (fun _ => rfl)⟩
      next no =>
        have none : ∀ y ∈ (w.tile u).stage.reverse, ¬(y.from_ = .seq ∧ y.entry.clasp = d) := fun y hy h =>
          no (List.any_eq_true.2 ⟨y, List.mem_reverse.1 hy, decide_eq_true h⟩)
        rw [breakChain_none (none_ d), markLeaves_none none, List.reverse_reverse]
        exact ⟨rfl, id⟩

/-- Without a chain of its own open, the sequencer's entry changes the stage queues alone. -/
theorem issue_local {w : Work s} {u : Nat} (hu : u < 32) (e : Entry)
    (none_ : ∀ d x, (w.clasp u d).open_ = some x → x.isChain = true → x.from_ ≠ .seq) :
    (issue w u e).tile u = issuedTile (w.get (CLASP_ABORT_CTRL_GEN u)) e (w.tile u) ∧
    ∀ {K : Fld → Prop} {w0 : Work s}, TileLocal K u Tile.clasps w0 w → TileLocal K u Tile.clasps w0 (issue w u e) := by
  obtain ⟨tile, local_⟩ := lastLeft_local hu e.clasp none_
  rw [issue_eq]
  refine ⟨?_, fun h => TileLocal.updTile (TileLocal.updTile (local_ h) _ ?_) _ ?_⟩
  · rw [tile_updTile_self _ _ _ hu, tile_updTile_self _ _ _ hu, tile]
    rfl
  · exact fun _ => rfl
  · exact fun _ => rfl

/-! ## A word that issues (R193, R199) -/

/-- A word of tile u that has issued entries since the command, and has steps before it. -/
structure Issuing (s : State) (u : Nat) (c : WordSt) (todo : List WStep) (es : List Entry) (w : Work s) : Prop where
  work : TileLocal (· ∈ waitFlds u) u Tile.clasps (Work.start s) w
  queue : ((w.tile u).stage, lastClasp (w.tile u) .seq) =
    es.foldl (issuedStage .seq (s.get (CLASP_ABORT_CTRL_GEN u))) ((s.tile u).stage, lastClasp (s.tile u) .seq)
  cur : ∃ n, (w.seq u).cur = some { c with todo := todo, waitFrom := n }

theorem Issuing.start {u : Nat} {c : WordSt} (cur : (s.tile u).seq.cur = some c) : Issuing s u c c.todo [] (Work.start s) :=
  ⟨TileLocal.refl _, rfl, c.waitFrom, cur⟩

theorem lock_apart (u : Nat) : ∀ g ∈ waitFlds u, DEV_STATUS_LOCKSTEP.key ≠ g.key := by
  simp only [waitFlds, List.mem_cons, List.not_mem_nil, or_false, forall_eq_or_imp, forall_eq, Fld.key, DEV_STATUS_LOCKSTEP, FB_FENCE_WAITING, FB_FENCE_DID, tileBase]
  omega

theorem gen_apart (u : Nat) : ∀ g ∈ waitFlds u, (CLASP_ABORT_CTRL_GEN u).key ≠ g.key := by
  simp only [waitFlds, List.mem_cons, List.not_mem_nil, or_false, forall_eq_or_imp, forall_eq, Fld.key, CLASP_ABORT_CTRL_GEN, FB_FENCE_WAITING, FB_FENCE_DID, tileBase]
  omega

section

variable {u : Nat} (hu : u < 32) {c : WordSt} {rest : List WStep} {es : List Entry} {w : Work s} (lock : s.get DEV_STATUS_LOCKSTEP = 0)

include hu lock

/-- A step that issues an entry. -/
theorem Issuing.step {x : WStep} (h : Issuing s u c (x :: rest) es w) (hrest : rest ≠ []) (chains : Unchained s u .seq)
    (p : WordSt → WStep → Bool) (ent : Work s → WordSt → Entry) {e : Entry} (hp : ∀ n, p { c with todo := x :: rest, waitFrom := n } x = true)
    (hent : ∀ n, ent (popStep w u) { c with todo := x :: rest, waitFrom := n } = e)
    (free : ∀ n, stepStalled w u { c with todo := x :: rest, waitFrom := n } x = false) :
    Issuing s u c rest (es ++ [e]) (doStep w u p (fun w c => issue w u (ent w c))) := by
  obtain ⟨work, queue, n, cur⟩ := h
  have regs : ∀ f, (∀ g ∈ waitFlds u, f.key ≠ g.key) → w.get f = s.get f := fun f hf => (work.1.1 f hf).trans (Work.get_start s f)
  have acts : doStep w u p (fun w c => issue w u (ent w c)) = settle (issue (popStep w u) u e) u := by
    simp only [doStep, cur, hp, Bool.not_true, Bool.false_eq_true, if_false, free, hent]
  have popped : (popStep w u).tile u = { w.tile u with seq := { (w.tile u).seq with cur := some { c with todo := rest, waitFrom := none }, starved := false } } := by
    have cur' : (w.tile u).seq.cur = some { c with todo := x :: rest, waitFrom := n } := cur
    rw [popStep, tile_updSeq _ _ _ hu, show w.seq u = (w.tile u).seq from rfl, cur']
    rfl
  have pop : TileLocal (· ∈ waitFlds u) u Tile.clasps (Work.start s) (popStep w u) := work.updTile _ (fun _ => rfl)
  have popGet : ∀ f, (popStep w u).get f = w.get f := fun f => Work.get_updSeq _ _ _ _
  have clasps : ((popStep w u).tile u).clasps = (s.tile u).clasps := pop.2.2
  obtain ⟨tile, local_⟩ := issue_local hu e (w := popStep w u) (fun d y hy chain => by
    have open_ : (s.view.clasp u d).open_ = some y := (congrArg (fun v => (vget v Clasp.reset d).open_) clasps).symm.trans hy
    by_cases hd : d < 33
    · exact chains d hd y open_ chain
    · rw [Work.clasp, vget, dif_neg hd] at open_
      exact absurd open_.symm (Option.some_ne_none y))
  rw [acts]
  have left := local_ pop
  rw [popGet, regs _ (gen_apart u), popped] at tile
  generalize issue (popStep w u) u e = v at *
  have lock' : v.get DEV_STATUS_LOCKSTEP = 0 := ((left.1.1 _ (lock_apart u)).trans (Work.get_start s _)).trans lock
  have vcur : (v.seq u).cur = some { c with todo := rest, waitFrom := none } := by
    rw [Work.seq, tile]
    rfl
  rw [settle_eq_noteWait lock' u _ vcur hrest]
  have waited := noteWait_waited v u _ hu lock' vcur
  generalize noteWait v u = x at *
  refine ⟨⟨tileWork_trans left.1 waited.1.1, fun t ht => (waited.tile_ne t ht).trans (left.2.1 t ht), (waited.tile Tile.clasps (fun _ => rfl)).trans left.2.2⟩, ?_, ?_⟩
  · have pair := waited.tile (fun t => (t.stage, lastClasp t .seq)) (fun _ => rfl)
    have start := issued_pair (s.get (CLASP_ABORT_CTRL_GEN u)) e { w.tile u with seq := { (w.tile u).seq with cur := some { c with todo := rest, waitFrom := none }, starved := false } }
    rw [List.foldl_append, ← queue]
    refine pair.trans ?_
    rw [tile]
    exact start
  · obtain ⟨⟨m, hm⟩, -⟩ := waited.2
    exact ⟨m, hm⟩

end

/-- A word that has issued its entries, once the command is done. -/
theorem Issuing.issued (hs : s.wf = true) {u : Nat} {c : WordSt} {rest : List WStep} {es : List Entry} {w : Work s} (h : Issuing s u c rest es w) :
    Issued s w.finish u c rest es := by
  obtain ⟨⟨⟨regs, quiet, -, dev⟩, others, clasps⟩, queue, cur⟩ := h
  refine ⟨queue, clasps, fun v _ ne => others v ne, cur, ?_, frame_finish hs (fun f hf => (regs f hf).trans (Work.get_start s f)) (quiet (quiet_start s))⟩
  show w.dev.held = s.dev.held
  rw [dev]
  rfl

/-- A step of one entry, as a command. -/
theorem issues_one (hs : s.wf = true) {u : Nat} (hu : u < 32) {c : WordSt} {x : WStep} {rest : List WStep} (hrest : rest ≠ []) (stepping : Stepping s u c x rest)
    (chains : Unchained s u .seq) {i : Instr} (p : WordSt → WStep → Bool) (ent : Work s → WordSt → Entry) {e : Entry}
    (run : exec i s = .next (doStep (Work.start s) u p (fun w c => issue w u (ent w c))).finish) (hp : ∀ n, p { c with todo := x :: rest, waitFrom := n } x = true)
    (hent : ∀ n, ent (popStep (Work.start s) u) { c with todo := x :: rest, waitFrom := n } = e)
    (free : ∀ n, stepStalled s.view u { c with todo := x :: rest, waitFrom := n } x = stepStalled s.view u c x) :
    Answers i s (fun t => Issued s t u c rest [e]) := by
  obtain ⟨lock, cur, todo, stall⟩ := stepping
  have start := Issuing.start cur
  rw [todo] at start
  exact ⟨_, run, (start.step hu lock hrest chains p ent hp hent (fun n => (free n).trans stall)).issued hs⟩

theorem engineSlots : Clause.EngineSlots := by
  intro s hs u b c rest hrest stepping chains op i known
  have entry : ∀ n, xyEntry (popStep (Work.start s) u) u { c with todo := (if b.val = 0 then .xya else .xyb) :: rest, waitFrom := n }.word b c.stamp c.slot =
      xyEntry s.view u c.word b c.stamp c.slot := fun _ => rfl
  have step : ∀ j, op = j → exec i s = .next (xyStep (Work.start s) u b j).finish → Answers i s (fun t => Issued s t u c rest [xyEntry s.view u c.word b c.stamp c.slot]) :=
    fun j hj run => by
      refine issues_one hs u.isLt hrest stepping chains _ (fun w c => xyEntry w u c.word b c.stamp c.slot) run (fun n => ?_) entry (fun n => ?_)
      · rw [Bool.and_eq_true, decide_eq_true_eq, decide_eq_true_eq]
        exact ⟨rfl, hj⟩
      · split <;> rfl
  simp only [List.mem_cons, Prod.mk.injEq, List.not_mem_nil, or_false] at known
  rcases known with ⟨rfl, h⟩ | ⟨rfl, h⟩ | ⟨rfl, h⟩ | ⟨rfl, h⟩ | ⟨rfl, h⟩ | ⟨rfl, h⟩
  · exact step 1 h rfl
  · exact step 2 h rfl
  · exact step 3 h rfl
  · exact step 4 h rfl
  · exact step 7 h rfl
  · exact step 8 h rfl

/-! ## FLX, CAP and RDO (R199, R202, R209) -/

theorem flx_issues (hs : s.wf = true) {u : Fin 32} {c : WordSt} {rest : List WStep} (hrest : rest ≠ []) (chains : Unchained s u .seq) (stepping : Stepping s u c .flx rest)
    (i : Instr) (known : (i, slotOp (mwFlx c.word)) ∈ [(Instr.flxPlay u, 1), (Instr.flxStop u, 2), (Instr.flxDcadd u, 5), (Instr.flxDcset u, 6), (Instr.flxPmem u, 8)]) :
    Answers i s (fun t => Issued s t u c rest [flxEntry s.view u c.word c.stamp c.slot]) := by
  have step : ∀ j, slotOp (mwFlx c.word) = j → exec i s = .next (flxStep (Work.start s) u j).finish →
      Answers i s (fun t => Issued s t u c rest [flxEntry s.view u c.word c.stamp c.slot]) := fun j hj run => by
    refine issues_one hs u.isLt hrest stepping chains _ (fun w c => flxEntry w u c.word c.stamp c.slot) run (fun n => ?_) (fun _ => rfl) (fun _ => rfl)
    rw [Bool.and_eq_true, decide_eq_true_eq, decide_eq_true_eq]
    exact ⟨rfl, hj⟩
  simp only [List.mem_cons, Prod.mk.injEq, List.not_mem_nil, or_false] at known
  rcases known with ⟨rfl, h⟩ | ⟨rfl, h⟩ | ⟨rfl, h⟩ | ⟨rfl, h⟩ | ⟨rfl, h⟩
  · exact step 1 h rfl
  · exact step 2 h rfl
  · exact step 5 h rfl
  · exact step 6 h rfl
  · exact step 8 h rfl

theorem cap_issues (hs : s.wf = true) {u : Fin 32} {c : WordSt} {rest : List WStep} (hrest : rest ≠ []) (chains : Unchained s u .seq) (stepping : Stepping s u c .cap rest)
    (i : Instr) (known : (i, mwCapOp c.word) ∈ [(Instr.capArm u, 1), (Instr.capFire u, 2), (Instr.capDisarm u, 3), (Instr.capSnap u, 4)]) :
    Answers i s (fun t => Issued s t u c rest [capEntry c.word c.stamp c.slot]) := by
  have step : ∀ j, mwCapOp c.word = j → exec i s = .next (capStep (Work.start s) u j).finish →
      Answers i s (fun t => Issued s t u c rest [capEntry c.word c.stamp c.slot]) := fun j hj run => by
    refine issues_one hs u.isLt hrest stepping chains _ (fun _ c => capEntry c.word c.stamp c.slot) run (fun n => ?_) (fun _ => rfl) (fun _ => rfl)
    rw [Bool.and_eq_true, decide_eq_true_eq, decide_eq_true_eq]
    exact ⟨rfl, hj⟩
  simp only [List.mem_cons, Prod.mk.injEq, List.not_mem_nil, or_false] at known
  rcases known with ⟨rfl, h⟩ | ⟨rfl, h⟩ | ⟨rfl, h⟩ | ⟨rfl, h⟩
  · exact step 1 h rfl
  · exact step 2 h rfl
  · exact step 3 h rfl
  · exact step 4 h rfl

/-- The clasp of an RDO entry for channel j. -/
def rdoClasp (x j : Nat) : Nat := if mwRdoOp x = 3 then 24 + j else 8 + j

theorem rdoEntry_clasp {x : Nat} (op : mwRdoOp x = 1 ∨ mwRdoOp x = 2 ∨ mwRdoOp x = 3) (j stamp slot : Nat) : (rdoEntry x j stamp slot).clasp = rdoClasp x j := by
  have marked : ∀ e : Entry, (asAlternative x 2 (stageBase x) e).clasp = e.clasp := fun e => by
    rw [asAlternative]
    split <;> rfl
  rw [rdoEntry, marked, rdoClasp]
  rcases op with h | h | h
  · rw [if_pos h, if_neg (by omega)]
    rfl
  · rw [if_neg (by omega), if_pos h, if_neg (by omega)]
    rfl
  · rw [if_neg (by omega), if_neg (by omega), if_pos h]
    rfl

theorem rdoClasp_inj {x i j : Nat} (h : i ≠ j) : rdoClasp x i ≠ rdoClasp x j := by
  rw [rdoClasp, rdoClasp]
  split <;> omega

/-- Whether the step for channel j stalls, from the stage queues and the clasps. -/
theorem rdo_stalled {w : Work s} {u : Nat} (lock : w.get DEV_STATUS_LOCKSTEP = 0) (c : WordSt) (j : Nat) :
    stepStalled w u c (.rdo j) = (decide (claspCredit w u (rdoClasp c.word j) = 0) || pageWaits w u .seq) := by
  have unfolded : stepStalled w u c (.rdo j) = (decide (claspCredit w u (rdoClasp c.word j) = 0) || pageWaits w u .seq || heldBack w u || false) := rfl
  rw [unfolded, heldBack_eq lock, Bool.or_false, Bool.or_false]

theorem credit_apart (u d : Nat) : ∀ f ∈ [CLASP_QUEUE_DEPTH u d, QT_CFG_EN u (stageIndex d), QT_CFG_SIZE_LOG2 u (stageIndex d)], ∀ g ∈ waitFlds u, d < 33 → f.key ≠ g.key := by
  simp only [waitFlds, List.mem_cons, List.not_mem_nil, or_false, forall_eq_or_imp, forall_eq, Fld.key, CLASP_QUEUE_DEPTH, QT_CFG_EN, QT_CFG_SIZE_LOG2, stageIndex,
    FB_FENCE_WAITING, FB_FENCE_DID, tileBase]
  omega

section

variable {u : Nat} {c : WordSt} {es : List Entry} {w x : Work s} {todo todo' : List WStep} {e : Entry}

/-- Behind an entry for another clasp, a clasp's credit is as before. -/
theorem credit_kept (h : Issuing s u c todo es w) (h' : Issuing s u c todo' (es ++ [e]) x) {d : Nat} (hd : d < 33) (other : e.clasp ≠ d) :
    claspCredit x u d = claspCredit w u d := by
  have regs : ∀ f ∈ [CLASP_QUEUE_DEPTH u d, QT_CFG_EN u (stageIndex d), QT_CFG_SIZE_LOG2 u (stageIndex d)], x.get f = w.get f := fun f hf =>
    (h'.work.1.1 f (fun g hg => credit_apart u d f hf g hg hd)).trans (h.work.1.1 f (fun g hg => credit_apart u d f hf g hg hd)).symm
  have clasps : (x.tile u).clasps = (w.tile u).clasps := h'.work.2.2.trans h.work.2.2.symm
  have fill : (x.clasp u d).fill = (w.clasp u d).fill := congrArg (fun v => (vget v Clasp.reset d).fill) clasps
  have pair := h'.queue
  rw [List.foldl_append, ← h.queue] at pair
  have waits : (stagedFor (x.tile u) d).length = (stagedFor (w.tile u) d).length := by
    have stage : (x.tile u).stage = _ := congrArg Prod.fst pair
    rw [stagedFor, stage]
    exact issued_count _ _ _ e other
  rw [claspCredit, claspCredit, stageRoom, stageRoom, fill, waits, qEnabled, qEnabled, qSize, qSize, Work.on, Work.on, regs _ (by simp), regs _ (by simp), regs _ (by simp)]

theorem pages_kept (h : Issuing s u c todo es w) (h' : Issuing s u c todo' (es ++ [e]) x) : pageWaits x u .seq = pageWaits w u .seq := by
  have pair := h'.queue
  rw [List.foldl_append, ← h.queue] at pair
  have stage : (x.tile u).stage = _ := congrArg Prod.fst pair
  rw [pageWaits, stage]
  exact issued_pages _ _ _ e

/-- A step that the word has not reached. -/
theorem Issuing.skips (h : Issuing s u c todo es w) {y : WStep} (not_ : todo.head? ≠ some y) (q : WordSt → Bool) (f : Work s → WordSt → Work s) :
    doStep w u (fun c x => decide (x = y) && q c) f = w := by
  obtain ⟨n, cur⟩ := h.cur
  cases todo with
  | nil => simp only [doStep, cur]
  | cons z zs =>
    have ne : decide (z = y) = false := decide_eq_false (fun h => not_ (by rw [h, List.head?_cons]))
    simp only [doStep, cur, ne, Bool.false_and, Bool.not_false, if_true]

end

section

variable {u : Nat} (hu : u < 32) {c : WordSt} {rest : List WStep} (lock : s.get DEV_STATUS_LOCKSTEP = 0) (hrest : rest ≠ []) (chains : Unchained s u .seq)
  (outside : ∀ j < 8, rest.head? ≠ some (.rdo j)) {op : Nat} (hop : mwRdoOp c.word = op) (known : op = 1 ∨ op = 2 ∨ op = 3)

include hu lock hrest chains outside hop known

/-- The channels that are left issue in their order. -/
theorem rdo_loop (m : Nat) : ∀ (i : Nat) (left : List Nat) (es : List Entry) (w : Work s), i + m ≤ 8 → Issuing s u c (left.map WStep.rdo ++ rest) es w →
    left.Pairwise (· < ·) → (∀ j ∈ left, i ≤ j ∧ j < i + m) → (∀ j ∈ left, claspCredit w u (rdoClasp c.word j) ≠ 0) → pageWaits w u .seq = false →
    Issuing s u c rest (es ++ left.map (fun j => rdoEntry c.word j c.stamp c.slot))
      (w.each (List.range' i m) (fun w k => doStep w u (fun c x => decide (x = .rdo k) && decide (mwRdoOp c.word = op))
        (fun w c => issue w u (rdoEntry c.word k c.stamp c.slot)))) := by
  induction m with
  | zero =>
    intro i left es w _ h _ range _ _
    have none_ : left = [] := List.eq_nil_iff_forall_not_mem.2 (fun j hj => by have := range j hj; omega)
    subst none_
    rw [List.map_nil, List.append_nil]
    exact h
  | succ m ih =>
    intro i left es w bound h sorted range credit pages
    have split : w.each (List.range' i (m + 1)) (fun w k => doStep w u (fun c x => decide (x = .rdo k) && decide (mwRdoOp c.word = op))
        (fun w c => issue w u (rdoEntry c.word k c.stamp c.slot))) =
      (doStep w u (fun c x => decide (x = .rdo i) && decide (mwRdoOp c.word = op)) (fun w c => issue w u (rdoEntry c.word i c.stamp c.slot))).each
        (List.range' (i + 1) m) (fun w k => doStep w u (fun c x => decide (x = .rdo k) && decide (mwRdoOp c.word = op))
        (fun w c => issue w u (rdoEntry c.word k c.stamp c.slot))) := by
      rw [List.range'_succ]
      rfl
    rw [split]
    by_cases first : left.head? = some i
    · obtain ⟨more, rfl⟩ := List.head?_eq_some_iff.1 first
      obtain ⟨above, sorted'⟩ := List.pairwise_cons.1 sorted
      have lock' : w.get DEV_STATUS_LOCKSTEP = 0 := ((h.work.1.1 _ (lock_apart u)).trans (Work.get_start s _)).trans lock
      have next := Issuing.step hu lock (x := .rdo i) (rest := more.map WStep.rdo ++ rest) h (by simp [hrest]) chains
        (fun c x => decide (x = .rdo i) && decide (mwRdoOp c.word = op)) (fun _ c => rdoEntry c.word i c.stamp c.slot) (e := rdoEntry c.word i c.stamp c.slot) (fun n => by simp [hop]) (fun _ => rfl)
        (fun n => by rw [rdo_stalled lock', decide_eq_false (credit i List.mem_cons_self), pages]; rfl)
      have clasp : ∀ j ∈ more, (rdoEntry c.word i c.stamp c.slot).clasp ≠ rdoClasp c.word j := fun j hj => by
        rw [rdoEntry_clasp (by rw [hop]; exact known)]
        exact rdoClasp_inj (Nat.ne_of_lt (above j hj))
      have small : ∀ j ∈ more, rdoClasp c.word j < 33 := fun j hj => by
        have := range j (List.mem_cons_of_mem _ hj)
        rw [rdoClasp]
        split <;> omega
      have done := ih (i + 1) more _ _ (by omega) next sorted' (fun j hj => by have := above j hj; have := range j (List.mem_cons_of_mem _ hj); omega)
        (fun j hj => by rw [credit_kept h next (small j hj) (clasp j hj)]; exact credit j (List.mem_cons_of_mem _ hj)) ((pages_kept h next).trans pages)
      rw [List.append_assoc] at done
      exact done
    · have other : (left.map WStep.rdo ++ rest).head? ≠ some (.rdo i) := by
        cases left with
        | nil => exact outside i (by omega)
        | cons j js =>
          intro same
          have eq : WStep.rdo j = WStep.rdo i := Option.some.inj same
          exact first (by rw [WStep.rdo.inj eq, List.head?_cons])
      rw [h.skips other (fun c => decide (mwRdoOp c.word = op))]
      refine ih (i + 1) left es w (by omega) h sorted (fun j hj => ?_) credit pages
      have bounds := range j hj
      have ne : j ≠ i := fun same => by
        subst same
        obtain ⟨y, ys, rfl⟩ := List.exists_cons_of_ne_nil (List.ne_nil_of_mem hj)
        obtain ⟨above, -⟩ := List.pairwise_cons.1 sorted
        rcases List.mem_cons.1 hj with rfl | hj'
        · exact first rfl
        · have := above j hj'
          have := range y List.mem_cons_self
          omega
      omega

end

theorem rdo_issues (hs : s.wf = true) {u : Fin 32} {c : WordSt} {rest : List WStep} (hrest : rest ≠ []) (chains : Unchained s u .seq) {k : Nat} {ks : List Nat}
    (stepping : Stepping s u c (.rdo k) (ks.map WStep.rdo ++ rest)) (outside : ∀ j < 8, rest.head? ≠ some (.rdo j)) (sorted : (k :: ks).Pairwise (· < ·))
    (range : ∀ j ∈ k :: ks, j < 8) (credit : ∀ j ∈ ks, claspCredit s.view u (if mwRdoOp c.word = 3 then 24 + j else 8 + j) ≠ 0) (i : Instr)
    (known : (i, mwRdoOp c.word) ∈ [(Instr.rdoProbe u, 1), (Instr.rdoPstop u, 2), (Instr.rdoWindow u, 3)]) :
    Answers i s (fun t => Issued s t u c rest ((k :: ks).map (fun j => rdoEntry c.word j c.stamp c.slot))) := by
  obtain ⟨lock, cur, todo, stall⟩ := stepping
  have start := Issuing.start cur
  have free := (rdo_stalled (w := Work.start s) ((Work.get_start s _).trans lock) c k).symm.trans stall
  rw [Bool.or_eq_false_iff, decide_eq_false_iff_not] at free
  rw [todo] at start
  have all : ∀ op, mwRdoOp c.word = op → (op = 1 ∨ op = 2 ∨ op = 3) → exec i s = .next (rdoStep (Work.start s) u op).finish →
      Answers i s (fun t => Issued s t u c rest ((k :: ks).map (fun j => rdoEntry c.word j c.stamp c.slot))) := fun op hop is run => by
    have loop := rdo_loop u.isLt lock hrest chains outside hop is 8 0 (k :: ks) [] (Work.start s) (Nat.le_refl _) start sorted
      (fun j hj => ⟨Nat.zero_le _, by have := range j hj; omega⟩) (fun j hj => (List.mem_cons.1 hj).elim (fun h => by rw [h]; exact free.1) (credit j)) free.2
    exact ⟨_, run, loop.issued hs⟩
  simp only [List.mem_cons, Prod.mk.injEq, List.not_mem_nil, or_false] at known
  rcases known with ⟨rfl, h⟩ | ⟨rfl, h⟩ | ⟨rfl, h⟩
  · exact all 1 h (Or.inl rfl) rfl
  · exact all 2 h (Or.inr (Or.inl rfl)) rfl
  · exact all 3 h (Or.inr (Or.inr rfl)) rfl

theorem otherSlots : Clause.OtherSlots := fun _ hs _ _ _ hrest chains =>
  ⟨flx_issues hs hrest chains, fun _ _ stepping outside sorted range credit => rdo_issues hs hrest chains stepping outside sorted range credit,
    cap_issues hs hrest chains⟩

/-! ## What the entries carry (R199 to R204, R209) -/

theorem ofLe_digit (bs : List Byte) (i : Nat) : ofLe bs / 256 ^ i % 256 = (bs.getD i 0).toNat := by
  induction bs generalizing i with
  | nil => simp [ofLe]
  | cons b bs ih =>
    have small := b.isLt
    cases i with
    | zero =>
      rw [List.getD_cons_zero, ofLe]
      omega
    | succ i =>
      rw [List.getD_cons_succ, ← ih i, ofLe, Nat.pow_succ', ← Nat.div_div_eq_div_mul]
      congr 2
      omega

/-- The body that a generator's pointer names is 12 bytes of data memory (R200). -/
theorem pmemBody_bytes (s : State) (u g : Nat) : pmemBody s.view u g < 2 ^ 96 ∧
    ∀ i < 12, pmemBody s.view u g / 256 ^ i % 256 = (s.byteAt (tileBase u + 0x80000 + s.get (DSP_AGU_P u g) / 16 * 16 + i)).toNat := by
  have pointer : s.view.get (DSP_AGU_P u g) = s.get (DSP_AGU_P u g) := Work.get_start _ _
  refine ⟨?_, fun i hi => ?_⟩
  · have bound := RiceProofs.ofLe_lt (s.view.rdBytes (dmBase u + s.view.get (DSP_AGU_P u g) / 16 * 16) 12)
    rw [SwapProofs.length_rdBytes] at bound
    exact bound
  · rw [pmemBody, Work.rdLe, ofLe_digit, getD_rdBytes _ _ hi, Work.rd8_start, pointer, dmBase]

theorem asAlternative_same (x source opt : Nat) (e : Entry) : (asAlternative x source opt e).stamp = e.stamp ∧ (asAlternative x source opt e).slot = e.slot ∧
    (asAlternative x source opt e).kind = e.kind ∧ (asAlternative x source opt e).clasp = e.clasp ∧ (asAlternative x source opt e).abgen = e.abgen ∧
    (asAlternative x source opt e).rsv = e.rsv ∧ (asAlternative x source opt e).chain = e.chain ∧ (asAlternative x source opt e).body = e.body := by
  rw [asAlternative]
  split <;> exact ⟨rfl, rfl, rfl, rfl, rfl, rfl, rfl, rfl⟩

theorem asAlternative_marked (x source opt : Nat) {e : Entry} (plain : e.alt = false ∧ e.did = 0 ∧ e.quad = false ∧ e.opt = 0)
    (single : stages x source = true → e.chain = false) : Marked x (stages x source) opt (asAlternative x source opt e) := by
  rw [asAlternative, Marked]
  split
  next staged => exact ⟨rfl, rfl, rfl, rfl, single staged⟩
  next => exact plain

/-- Kind and body of an engine slot's entry by its OP. -/
theorem slotBody_by (w : Work s) (t x v : Nat) : (slotOp v = 1 → slotBody w t x v = (KPLAY, slotTpl v)) ∧ (slotOp v = 2 → slotBody w t x v = (KSTOP, 0)) ∧
    (slotOp v = 3 → slotBody w t x v = (KPARAM, 0x08 + slotTpl v % 4 + mwImm x * 2 ^ 12 * 256)) ∧
    (slotOp v = 4 → slotBody w t x v = (KPARAM, 0x04 + slotTpl v % 4 + mwImm x * 2 ^ 12 * 256)) ∧
    (slotOp v = 5 → slotBody w t x v = (KPARAM, 0x01 + mwImm x % 2 ^ 16 * 256)) ∧ (slotOp v = 6 → slotBody w t x v = (KPARAM, 0x00 + mwImm x % 2 ^ 16 * 256)) ∧
    (slotOp v = 7 → slotBody w t x v = (KPARAM, 0x18 + mwImm x * 256)) ∧ (slotOp v = 8 → slotBody w t x v = (KPARAM, pmemBody w t (slotTpl v % 4))) := by
  refine ⟨fun h => ?_, fun h => ?_, fun h => ?_, fun h => ?_, fun h => ?_, fun h => ?_, fun h => ?_, fun h => ?_⟩ <;>
    (rw [slotBody]; simp [h])

/-- An XY slot that issues has a PARAM for its entry just where its OP says so. -/
theorem kind_parameter (w : Work s) (t x : Nat) {v : Nat} (issues : xyIssues v = true) : (slotBody w t x v).1 = KPARAM ↔ parameter (slotOp v) := by
  obtain ⟨play, stop, zadd, zset, -, -, quiet, pmem⟩ := slotBody_by w t x v
  have ops : slotOp v = 1 ∨ slotOp v = 2 ∨ slotOp v = 3 ∨ slotOp v = 4 ∨ slotOp v = 7 ∨ slotOp v = 8 := by
    rw [xyIssues, xyLegal, Bool.and_eq_true, decide_eq_true_eq] at issues
    obtain ⟨legal, some_⟩ := issues
    split at legal
    · omega
    · split at legal
      · omega
      · split at legal
        · omega
        · split at legal
          · omega
          · exact absurd legal Bool.false_ne_true
  rcases ops with h | h | h | h | h | h
  · rw [play h, h]
    exact iff_of_false (show ¬KPLAY = KPARAM by decide) (by decide)
  · rw [stop h, h]
    exact iff_of_false (show ¬KSTOP = KPARAM by decide) (by decide)
  · rw [zadd h, h]
    exact iff_of_true rfl (by decide)
  · rw [zset h, h]
    exact iff_of_true rfl (by decide)
  · rw [quiet h, h]
    exact iff_of_true rfl (by decide)
  · rw [pmem h, h]
    exact iff_of_true rfl (by decide)

/-- An entry whose body the data memory gives. -/
theorem fromMemory_of {u g : Nat} {e : Entry} (kind : e.kind = KPARAM) (body : e.body = pmemBody s.view u g) : FromMemory s u g e := by
  obtain ⟨small, bytes⟩ := pmemBody_bytes s u g
  exact ⟨kind, by rw [body]; exact small, by rw [body]; exact bytes⟩

/-- Whether XYA's entry is the first of a chain with XYB's. -/
def pairs (s : State) (u x n : Nat) : Bool :=
  decide (n = 0) && issuesXya x && issuesXyb x && !stages x 0 && decide (xyClasp (mwXya x) = xyClasp (mwXyb x)) &&
    decide ((slotBody s.view u x (if n = 0 then mwXya x else mwXyb x)).1 = KPARAM) && decide ((slotBody s.view u x (mwXyb x)).1 = KPARAM)

theorem xyEntry_eq (s : State) (u x n stamp slot : Nat) : xyEntry s.view u x n stamp slot =
    asAlternative x 0 (stageBase x + n) { plainEntry stamp slot (slotBody s.view u x (if n = 0 then mwXya x else mwXyb x)).1
      (xyClasp (if n = 0 then mwXya x else mwXyb x)) (slotBody s.view u x (if n = 0 then mwXya x else mwXyb x)).2 with chain := pairs s u x n } := rfl

theorem pairs_iff (s : State) (u x : Nat) (single : stages x 0 = false) (xya : issuesXya x = true) (xyb : issuesXyb x = true) :
    pairs s u x 0 = true ↔ parameter (slotOp (mwXya x)) ∧ parameter (slotOp (mwXyb x)) ∧ xyClasp (mwXya x) = xyClasp (mwXyb x) := by
  have first := kind_parameter s.view u x (v := mwXya x) (Bool.and_eq_true_iff.1 xya).1
  have second := kind_parameter s.view u x (v := mwXyb x) (Bool.and_eq_true_iff.1 xyb).1
  rw [pairs, xya, xyb, single, if_pos rfl]
  simp only [Bool.and_eq_true, decide_eq_true_eq, first, second]
  constructor
  · rintro ⟨⟨⟨-, clasp⟩, a⟩, b⟩
    exact ⟨a, b, clasp⟩
  · rintro ⟨a, b, clasp⟩
    exact ⟨⟨⟨⟨⟨⟨trivial, trivial⟩, trivial⟩, rfl⟩, clasp⟩, a⟩, b⟩

theorem xyEntry_carries (s : State) (u x stamp slot n : Nat) :
    let v := if n = 0 then mwXya x else mwXyb x
    let e := xyEntry s.view u x n stamp slot
    e.stamp = stamp ∧ e.slot = slot ∧ e.abgen = 0 ∧ e.rsv = 0 ∧ Marked x (stages x 0) (stageBase x + n) e ∧
    (n = 1 → e.chain = false) ∧
    (n = 0 → stages x 0 = false → issuesXya x = true → issuesXyb x = true →
      (e.chain = true ↔ parameter (slotOp (mwXya x)) ∧ parameter (slotOp (mwXyb x)) ∧ xyClasp (mwXya x) = xyClasp (mwXyb x))) ∧
    (n = 0 → issuesXyb x = false → e.chain = false) ∧
    (slotOp v ≠ 8 → e.clasp = slotEng v) ∧
    (slotOp v = 1 → e.kind = KPLAY ∧ e.body = slotTpl v) ∧ (slotOp v = 2 → e.kind = KSTOP ∧ e.body = 0) ∧
    (slotOp v = 3 → e.kind = KPARAM ∧ e.body % 256 = 0x08 + slotTpl v % 4 ∧ e.body / 256 = mwImm x * 2 ^ 12) ∧
    (slotOp v = 4 → e.kind = KPARAM ∧ e.body % 256 = 0x04 + slotTpl v % 4 ∧ e.body / 256 = mwImm x * 2 ^ 12) ∧
    (slotOp v = 7 → e.kind = KPARAM ∧ e.body % 256 = 0x18 ∧ e.body / 256 = mwImm x) ∧
    (slotOp v = 8 → FromMemory s u (slotTpl v % 4) e ∧
      (slotTpl v / 4 = 0 → e.clasp = slotEng v) ∧ (slotTpl v / 4 = 1 → e.clasp = 8 + slotEng v) ∧
      (slotTpl v / 4 = 2 → e.clasp = 24 + slotEng v)) := by
  intro v e
  have single : stages x 0 = true → pairs s u x n = false := fun staged => by
    rw [pairs, staged]
    simp
  obtain ⟨stamp', slot', kind, clasp, abgen, rsv, chain, body⟩ := asAlternative_same x 0 (stageBase x + n) { plainEntry stamp slot (slotBody s.view u x v).1
      (xyClasp v) (slotBody s.view u x v).2 with chain := pairs s u x n }
  have marked := asAlternative_marked x 0 (stageBase x + n) (e := { plainEntry stamp slot (slotBody s.view u x v).1
      (xyClasp v) (slotBody s.view u x v).2 with chain := pairs s u x n }) ⟨rfl, rfl, rfl, rfl⟩ single
  rw [← xyEntry_eq s u x n stamp slot] at stamp' slot' kind clasp abgen rsv chain body marked
  obtain ⟨play, stop, zadd, zset, -, -, quiet, pmem⟩ := slotBody_by s.view u x v
  have both : ∀ {k b}, slotBody s.view u x v = (k, b) → e.kind = k ∧ e.body = b := fun h =>
    ⟨kind.trans (by rw [h]; rfl), body.trans (by rw [h]; rfl)⟩
  have clasp' : e.clasp = xyClasp v := clasp
  refine ⟨stamp', slot', abgen, rsv, marked, fun one => chain.trans ?_, fun zero none_ xya xyb => ?_, fun _ xyb => chain.trans ?_, fun other => ?_, fun h => both (play h),
    fun h => both (stop h), fun h => ?_, fun h => ?_, fun h => ?_, fun h => ?_⟩
  · show pairs s u x n = false
    rw [pairs, one]
    rfl
  · subst zero
    rw [chain]
    exact pairs_iff s u x none_ xya xyb
  · show pairs s u x n = false
    rw [pairs, xyb]
    simp
  · rw [clasp', xyClasp, if_neg other]
  · obtain ⟨k, b⟩ := both (zadd h)
    exact ⟨k, by rw [b]; omega, by rw [b]; omega⟩
  · obtain ⟨k, b⟩ := both (zset h)
    exact ⟨k, by rw [b]; omega, by rw [b]; omega⟩
  · obtain ⟨k, b⟩ := both (quiet h)
    exact ⟨k, by rw [b]; omega, by rw [b]; omega⟩
  · obtain ⟨k, b⟩ := both (pmem h)
    have target : e.clasp = if slotTpl v / 4 = 0 then slotEng v else if slotTpl v / 4 = 1 then 8 + slotEng v else 24 + slotEng v := by
      rw [clasp', xyClasp, if_pos h]
    refine ⟨fromMemory_of k b, fun sel => ?_, fun sel => ?_, fun sel => ?_⟩
    · rw [target, if_pos sel]
    · rw [target, if_neg (by omega), if_pos sel]
    · rw [target, if_neg (by omega), if_neg (by omega)]

theorem flxEntry_carries (s : State) (u x stamp slot : Nat) :
    let v := mwFlx x
    let e := flxEntry s.view u x stamp slot
    e.stamp = stamp ∧ e.slot = slot ∧ e.abgen = 0 ∧ e.rsv = 0 ∧ e.chain = false ∧ Marked x (stages x 1) (stageBase x) e ∧
    e.clasp = 16 + slotEng v ∧
    (slotOp v = 1 → e.kind = KPLAY ∧ e.body = slotTpl v) ∧ (slotOp v = 2 → e.kind = KSTOP ∧ e.body = 0) ∧
    (slotOp v = 5 → e.kind = KPARAM ∧ e.body % 256 = 1 ∧ e.body / 256 = mwImm x % 2 ^ 16) ∧
    (slotOp v = 6 → e.kind = KPARAM ∧ e.body % 256 = 0 ∧ e.body / 256 = mwImm x % 2 ^ 16) ∧
    (slotOp v = 8 → FromMemory s u (slotTpl v % 4) e) := by
  intro v e
  obtain ⟨stamp', slot', kind, clasp, abgen, rsv, chain, body⟩ := asAlternative_same x 1 (stageBase x)
    (plainEntry stamp slot (slotBody s.view u x v).1 (16 + slotEng v) (slotBody s.view u x v).2)
  have marked := asAlternative_marked x 1 (stageBase x)
    (e := plainEntry stamp slot (slotBody s.view u x v).1 (16 + slotEng v) (slotBody s.view u x v).2) ⟨rfl, rfl, rfl, rfl⟩ (fun _ => rfl)
  obtain ⟨play, stop, -, -, dcset, dcadd, -, pmem⟩ := slotBody_by s.view u x v
  have both : ∀ {k b}, slotBody s.view u x v = (k, b) → e.kind = k ∧ e.body = b := fun h =>
    ⟨kind.trans (by rw [h]; rfl), body.trans (by rw [h]; rfl)⟩
  refine ⟨stamp', slot', abgen, rsv, chain, marked, clasp, fun h => both (play h), fun h => both (stop h), fun h => ?_, fun h => ?_, fun h => ?_⟩
  · obtain ⟨k, b⟩ := both (dcset h)
    exact ⟨k, by rw [b]; omega, by rw [b]; omega⟩
  · obtain ⟨k, b⟩ := both (dcadd h)
    exact ⟨k, by rw [b]; omega, by rw [b]; omega⟩
  · obtain ⟨k, b⟩ := both (pmem h)
    exact fromMemory_of k b

theorem rdoEntry_carries (x k stamp slot : Nat) :
    let e := rdoEntry x k stamp slot
    e.stamp = stamp ∧ e.slot = slot ∧ e.abgen = 0 ∧ e.rsv = 0 ∧ e.chain = false ∧ Marked x (stages x 2) (stageBase x) e ∧
    (mwRdoOp x = 1 → e.kind = KPLAY ∧ e.clasp = 8 + k ∧ e.body = mwKsel x) ∧
    (mwRdoOp x = 2 → e.kind = KSTOP ∧ e.clasp = 8 + k ∧ e.body = 0) ∧
    (mwRdoOp x = 3 → e.kind = KWINDOW ∧ e.clasp = 24 + k ∧ e.body % 16 = mwKsel x ∧
      bit e.body 4 = bit (mwImm x) 18 ∧ bit e.body 5 = bit (mwImm x) 19) := by
  intro e
  have plain : ∀ y, (∃ kind clasp body, y = plainEntry stamp slot kind clasp body) → e = asAlternative x 2 (stageBase x) y →
      e.stamp = stamp ∧ e.slot = slot ∧ e.abgen = 0 ∧ e.rsv = 0 ∧ e.chain = false ∧ Marked x (stages x 2) (stageBase x) e ∧
      e.kind = y.kind ∧ e.clasp = y.clasp ∧ e.body = y.body := fun y ⟨kind, clasp, body, hy⟩ he => by
    obtain ⟨stamp', slot', kind', clasp', abgen, rsv, chain, body'⟩ := asAlternative_same x 2 (stageBase x) y
    have marked := asAlternative_marked x 2 (stageBase x) (e := y) (by rw [hy]; exact ⟨rfl, rfl, rfl, rfl⟩) (fun _ => by rw [hy]; rfl)
    rw [← he] at stamp' slot' kind' clasp' abgen rsv chain body' marked
    refine ⟨stamp'.trans ?_, slot'.trans ?_, abgen.trans ?_, rsv.trans ?_, chain.trans ?_, marked, kind', clasp', body'⟩ <;>
      (rw [hy]; rfl)
  have ksel : mwKsel x < 16 := Nat.mod_lt _ (by decide)
  by_cases probe : mwRdoOp x = 1
  · obtain ⟨a, b, c, d, f, g, kind, clasp, body⟩ := plain (plainEntry stamp slot KPLAY (8 + k) (mwKsel x)) ⟨_, _, _, rfl⟩ (by show rdoEntry x k stamp slot = _; rw [rdoEntry, if_pos probe])
    exact ⟨a, b, c, d, f, g, fun _ => ⟨kind, clasp, body⟩, fun h => by omega, fun h => by omega⟩
  · by_cases stop : mwRdoOp x = 2
    · obtain ⟨a, b, c, d, f, g, kind, clasp, body⟩ := plain (plainEntry stamp slot KSTOP (8 + k) 0) ⟨_, _, _, rfl⟩ (by show rdoEntry x k stamp slot = _; rw [rdoEntry, if_neg probe, if_pos stop])
      exact ⟨a, b, c, d, f, g, fun h => absurd h probe, fun _ => ⟨kind, clasp, body⟩, fun h => by omega⟩
    · obtain ⟨a, b, c, d, f, g, kind, clasp, body⟩ := plain (plainEntry stamp slot KWINDOW (24 + k) (mwKsel x + bits (mwImm x) 18 2 * 16)) ⟨_, _, _, rfl⟩
        (by show rdoEntry x k stamp slot = _; rw [rdoEntry, if_neg probe, if_neg stop])
      have body' : e.body = mwKsel x + bits (mwImm x) 18 2 * 16 := body
      refine ⟨a, b, c, d, f, g, fun h => absurd h probe, fun h => absurd h stop, fun _ => ⟨kind, clasp, by rw [body']; omega, ?_, ?_⟩⟩
      · rw [body', bit, bit, bits]
        congr 1
        omega
      · rw [body', bit, bit, bits]
        congr 1
        omega

theorem capEntry_carries (x stamp slot : Nat) :
    let e := capEntry x stamp slot
    e.stamp = stamp ∧ e.slot = slot ∧ e.abgen = 0 ∧ e.rsv = 0 ∧ e.chain = false ∧ Marked x false 0 e ∧
    e.kind = KCAPTURE ∧ e.clasp = 32 ∧ e.body % 8 = mwCapOp x ∧ e.body / 8 = mwClass x := by
  have small : mwCapOp x < 8 := Nat.mod_lt _ (by decide)
  refine ⟨rfl, rfl, rfl, rfl, rfl, ⟨rfl, rfl, rfl, rfl⟩, rfl, rfl, ?_, ?_⟩
  · show (mwCapOp x + mwClass x * 8) % 8 = mwCapOp x
    omega
  · show (mwCapOp x + mwClass x * 8) / 8 = mwClass x
    omega

theorem entryBodies : Clause.EntryBodies := fun s u x stamp slot =>
  ⟨fun b => xyEntry_carries s u x stamp slot b.val, flxEntry_carries s u x stamp slot, fun k => rdoEntry_carries x k stamp slot, capEntry_carries x stamp slot⟩

/-! ## A chain that breaks (R49) -/

theorem faulted_carry {t t' : State} {u cause : Nat} (h : Faulted s t u cause) (regs : ∀ f ∈ faultFlds u, t'.get f = t.get f) (held : t'.dev.held = t.dev.held) :
    Faulted s t' u cause := by
  simp only [faultFlds, List.mem_cons, List.not_mem_nil, or_false, forall_eq_or_imp, forall_eq] at regs
  obtain ⟨underrun, valid, cause', -⟩ := regs
  rw [Faulted, underrun, valid, cause', held]
  exact h

theorem fault_wait_apart (u : Nat) : ∀ f ∈ faultFlds u, ∀ g ∈ waitFlds u, f.key ≠ g.key := by
  simp only [faultFlds, waitFlds, List.mem_cons, List.not_mem_nil, or_false, forall_eq_or_imp, forall_eq, Fld.key, CLASP_UNDERRUN, CLASP_FIRST_VALID,
    CLASP_FIRST_CAUSE, CLASP_FIRST_CLASP, CLASP_FIRST_KIND, CLASP_FIRST_MARGIN, CLASP_FIRST_STAMP_LO, CLASP_FIRST_STAMP_HI, FB_FENCE_WAITING, FB_FENCE_DID, tileBase]
  omega

theorem lock_fault_apart (u : Nat) : ∀ g ∈ faultFlds u, DEV_STATUS_LOCKSTEP.key ≠ g.key := by
  simp only [faultFlds, List.mem_cons, List.not_mem_nil, or_false, forall_eq_or_imp, forall_eq, Fld.key, DEV_STATUS_LOCKSTEP, CLASP_UNDERRUN, CLASP_FIRST_VALID,
    CLASP_FIRST_CAUSE, CLASP_FIRST_CLASP, CLASP_FIRST_KIND, CLASP_FIRST_MARGIN, CLASP_FIRST_STAMP_LO, CLASP_FIRST_STAMP_HI, tileBase]
  omega

section

variable {w : Work s} {u d : Nat} {x : OpenUnit} {l : HeldEntry}

/-- A clasp's open unit taken away, and its last member's fault. -/
def shutFault (w : Work s) (u d : Nat) (l : HeldEntry) : Work s := claspFault (w.updClasp u d (fun k => { k with open_ := none })) u d FORMAT l.entry l.margin

theorem breakChain_eq (open_ : (w.clasp u d).open_ = some x) (chain : x.isChain = true) (own : x.from_ = .seq) (last : x.members.getLast? = some l) :
    breakChain w u d .seq = dropPages (shutFault w u d l) u x.members := by
  rw [breakChain, open_]
  dsimp only
  rw [if_pos ⟨chain, own⟩, breakOpen, open_]
  dsimp only
  rw [last]
  rfl

/-- What a tile holds beside its clasps and pages. -/
def queues (x : Tile) : List Staged × List (Producer × Nat) × SeqSt := (x.stage, x.issued, x.seq)

theorem broken_tile (hu : u < 32) (hd : d < 33) (es : List HeldEntry) :
    queues ((dropPages (shutFault w u d l) u es).tile u) = queues (w.tile u) ∧
    (dropPages (shutFault w u d l) u es).clasp u d = { w.clasp u d with open_ := none } := by
  have pages : TileLocal (fun _ => False) u queues (shutFault w u d l) (dropPages (shutFault w u d l) u es) := (TileLocal.refl _).each _ _
    (fun _ h _ so => dropPages_local (φ := queues) (fun _ _ => rfl) so h.page)
  have shut : (shutFault w u d l).tile u = (w.updClasp u d (fun k => { k with open_ := none })).tile u := claspFault_tile _ _ _ _ _ _ _
  refine ⟨pages.2.2.trans ?_, ?_⟩
  · rw [shut, Work.updClasp, tile_updTile_self _ _ _ hu]
    rfl
  · rw [AbortProofs.dropPages_clasp, Work.clasp, shut]
    exact clasp_updClasp_self hu w hd _

theorem broken_regs (es : List HeldEntry) : TileLocal (fun _ => False) u (fun _ => ()) (shutFault w u d l) (dropPages (shutFault w u d l) u es) :=
  (TileLocal.refl _).each _ _ (fun _ h _ so => dropPages_local (φ := fun _ => ()) (fun _ _ => rfl) so h.page)

end

/-- The sequencer's entry behind an open chain of its own at another clasp. -/
theorem issue_breaks {w : Work s} {u d : Nat} {x : OpenUnit} {l : HeldEntry} {e : Entry} (other : d ≠ e.clasp) (open_ : (w.clasp u d).open_ = some x)
    (chain : x.isChain = true) (own : x.from_ = .seq) (last : x.members.getLast? = some l) (went : lastClasp (w.tile u) .seq = some d)
    (empty : ∀ y ∈ (w.tile u).stage, y.from_ ≠ .seq) : lastLeft w u e.clasp = dropPages (shutFault w u d l) u x.members := by
  have none : ¬(w.tile u).stage.any (fun y => decide (y.from_ = .seq ∧ y.entry.clasp = d)) = true := fun h => by
    obtain ⟨y, hy, shows⟩ := List.any_eq_true.1 h
    exact empty y hy (of_decide_eq_true shows).1
  rw [lastLeft, went]
  dsimp only
  rw [if_neg other, if_neg none, breakChain_eq open_ chain own last]

/-- A tile's stage queues behind the break: nothing of the sequencer was staged. -/
theorem leftStage_empty {d c : Nat} {l : List Staged} (empty : ∀ y ∈ l, y.from_ ≠ .seq) : leftStage .seq c (l, some d) = l := by
  rw [leftStage]
  dsimp only
  split
  · rfl
  · rw [markLeaves_none (fun y hy h => empty y (List.mem_reverse.1 hy) h.1), List.reverse_reverse]

/-- The work once a chain has broken and the entry behind it stands in the stage queue. -/
def behindBreak (w g : Work s) (u : Nat) (e : Entry) : Work s :=
  (g.updTile u (fun x => { x with issued := (.seq, e.clasp) :: x.issued.filter (fun i => decide (i.1 ≠ .seq)) })).updTile u
    (fun x => { x with stage := x.stage ++ [⟨{ e with abgen := w.get (CLASP_ABORT_CTRL_GEN u) }, .seq, false, none⟩] })

theorem behindBreak_tile {w g : Work s} {u : Nat} (hu : u < 32) (e : Entry) : (behindBreak w g u e).tile u = { g.tile u with
    stage := (g.tile u).stage ++ [⟨{ e with abgen := w.get (CLASP_ABORT_CTRL_GEN u) }, .seq, false, none⟩]
    issued := (.seq, e.clasp) :: (g.tile u).issued.filter (fun i => decide (i.1 ≠ .seq)) } := by
  rw [behindBreak, tile_updTile_self _ _ _ hu, tile_updTile_self _ _ _ hu]

theorem chainsBreak : Clause.ChainsBreak := by
  intro s hs u c rest d x hrest stepping op other open_ chain own members went empty
  have ⟨lock, cur, todo, _⟩ := stepping
  obtain ⟨l, last⟩ : ∃ l, x.members.getLast? = some l := ⟨_, List.getLast?_eq_some_getLast members⟩
  have hit : (decide (WStep.flx = .flx) && decide (slotOp (mwFlx c.word) = 1)) = true := by
    rw [op]
    rfl
  have acts := doStep_acts s u c .flx rest stepping (fun c s => decide (s = .flx) && decide (slotOp (mwFlx c.word) = 1))
    (fun w c => issue w u (flxEntry w u c.word c.stamp c.slot)) hit
  have entry : flxEntry (popStep (Work.start s) u) u c.word c.stamp c.slot = flxEntry s.view u c.word c.stamp c.slot := rfl
  rw [entry] at acts
  generalize flxEntry s.view u c.word c.stamp c.slot = e at *
  have popped : (popStep (Work.start s) u).tile u = { s.tile u with seq := { (s.tile u).seq with cur := some { c with todo := rest, waitFrom := none }, starved := false } } := by
    rw [popStep, tile_updSeq _ _ _ u.isLt, show (Work.start s).seq u = (s.tile u).seq from rfl, cur, Option.map_some, todo]
    rfl
  have popGet : ∀ f, (popStep (Work.start s) u).get f = s.get f := get_popStep s u
  have pop : TileLocal (fun _ => False) u Tile.clasps (Work.start s) (popStep (Work.start s) u) := (TileLocal.refl _).updTile _ (fun _ => rfl)
  have broke := issue_breaks other (w := popStep (Work.start s) u) (x := x) (l := l)
    ((congrArg (fun v => (vget v Clasp.reset d).open_) pop.2.2).trans open_) chain own last (by rw [popped]; exact went) (by rw [popped]; exact empty)
  obtain ⟨tile, clasp⟩ := broken_tile (w := popStep (Work.start s) u) (l := l) u.isLt d.isLt x.members
  have regs := broken_regs (w := popStep (Work.start s) u) (u := u) (d := d) (l := l) x.members
  have fault := faulted_finish hs u d (cause := FORMAT) (by decide) l.entry l.margin (w := (popStep (Work.start s) u).updClasp u d (fun k => { k with open_ := none }))
    (fun f _ => popGet f) rfl rfl
  obtain ⟨writes, quiet⟩ := claspFault_writes ((popStep (Work.start s) u).updClasp u d (fun k => { k with open_ := none })) u d FORMAT l.entry l.margin
  have issued : issue (popStep (Work.start s) u) u e = behindBreak (popStep (Work.start s) u) (dropPages (shutFault (popStep (Work.start s) u) u d l) u x.members) u e := by
    rw [issue_eq, broke]
    rfl
  have behind := behindBreak_tile (w := popStep (Work.start s) u) (g := dropPages (shutFault (popStep (Work.start s) u) u d l) u x.members) u.isLt e
  have local_ : TileLocal (fun _ => False) u (fun _ => ()) (shutFault (popStep (Work.start s) u) u d l)
      (behindBreak (popStep (Work.start s) u) (dropPages (shutFault (popStep (Work.start s) u) u d l) u x.members) u e) :=
    (regs.updTile _ (fun _ => rfl)).updTile _ (fun _ => rfl)
  have run : exec (.flxPlay u) s = .next (settle (issue (popStep (Work.start s) u) u e) u).finish := congrArg (fun w : Work s => Host.Outcome.next w.finish) acts
  rw [issued] at run
  rw [popGet] at behind
  rw [popped] at tile
  have shutGet : ∀ f, (∀ g ∈ faultFlds u, f.key ≠ g.key) → (shutFault (popStep (Work.start s) u) u d l).get f = s.get f := fun f hf => (writes f hf).trans (popGet f)
  have shutQuiet : Quiet (shutFault (popStep (Work.start s) u) u d l) := quiet (popStep_quiet s u)
  have faulted : Faulted s (shutFault (popStep (Work.start s) u) u d l).finish u FORMAT := fault
  have clasp' : vget ((dropPages (shutFault (popStep (Work.start s) u) u d l) u x.members).tile u).clasps Clasp.reset d = { s.view.clasp u d with open_ := none } :=
    clasp.trans (congrArg (fun v => { vget v Clasp.reset d with open_ := none }) pop.2.2)
  generalize dropPages (shutFault (popStep (Work.start s) u) u d l) u x.members = g at *
  generalize behindBreak (popStep (Work.start s) u) g u e = v at *
  generalize shutFault (popStep (Work.start s) u) u d l = b at *
  simp only [queues, Prod.mk.injEq] at tile
  obtain ⟨stage, issuedTo, seq⟩ := tile
  rw [stage, issuedTo] at behind
  have vcur : (v.seq u).cur = some { c with todo := rest, waitFrom := none } := by
    rw [Work.seq, behind]
    exact congrArg SeqSt.cur seq
  have vlock : v.get DEV_STATUS_LOCKSTEP = 0 := (local_.1.1 _ (fun _ h => h.elim)).trans ((shutGet _ (lock_fault_apart u)).trans lock)
  rw [settle_eq_noteWait vlock u _ vcur hrest] at run
  have waited := noteWait_waited v u _ u.isLt vlock vcur
  generalize noteWait v u = z at *
  have get : ∀ f, (∀ g ∈ waitFlds u, f.key ≠ g.key) → z.get f = b.get f := fun f hf => (waited.get f hf).trans (local_.1.1 f (fun _ h => h.elim))
  have held : z.dev.held = b.dev.held := waited.held.trans (by rw [local_.1.2.2.2])
  have clasps : vget (z.tile u).clasps Clasp.reset d = { s.view.clasp u d with open_ := none } :=
    (waited.tile (fun x => vget x.clasps Clasp.reset d) (fun _ => rfl)).trans (by rw [behind]; exact clasp')
  refine ⟨_, run, congrArg Clasp.open_ clasps, (congrArg Clasp.items clasps).trans rfl, ?_, ?_, waited.stepped, ?_⟩
  · refine faulted_carry faulted (fun f hf => ?_) held
    exact (Work.finish_get _ f hs).trans ((get f (fault_wait_apart u f hf)).trans (Work.finish_get _ f hs).symm)
  · refine (waited.tile (fun x => (x.stage, lastClasp x .seq)) (fun _ => rfl)).trans ?_
    rw [behind, issuedStage, leftStage_empty empty]
    rfl
  · exact waited.frame hs (fun f hf => (local_.1.1 f (fun _ h => h.elim)).trans (shutGet f (fun g hg => hf g (List.mem_append_left _ hg))))
      (List.subset_append_right _ _) (local_.1.2.1 shutQuiet)

/-- Settles O23: the slots of a word issue what their OP says into the stage queue, by one lemma for a step that issues, and a chain left at
another clasp breaks first. -/
theorem entrySlots : Obligations.EntrySlots := ⟨engineSlots, entryBodies, chainsBreak, otherSlots⟩

end Sys2Proof.SlotProofs
end

section
/-! PROOFS. Device reset and tile reset (R54, R86, R384, R445, R446, R448, R449, R457). -/

namespace Sys2Proof.ResetProofs

open Sys2Proof.Machine Sys2Proof.Effects Sys2Proof.SeqFacts Sys2Proof.TakeProofs Sys2Proof.LaneFacts Sys2Proof.PowerProofs Sys2Proof.LaneWorks

-- A kernel evaluation waits for every declaration before it: one at a time keeps the threads that wait, and their stacks, few.
set_option Elab.async false

variable {σ : State}

/-! ## Fields set to what they hold -/

theorem sameRegs_trans {w w' w'' : Work σ} (h : SameRegs w w') (h' : SameRegs w' w'') : SameRegs w w'' := fun f => (h f).trans (h' f)

theorem set_same {w : Work σ} {f : Fld} {v : Nat} (h : w.get f = v % 2 ^ f.width) : SameRegs (w.set f v) w := fun g => by
  rw [Work.get_set]
  split
  next same =>
    rw [← h, Work.get, Work.get, same, Nat.xor_assoc _ f.reset f.reset, Nat.xor_self, Nat.xor_zero]
  next => rfl

theorem zeros_same (fs : List Fld) (w : Work σ) (h : ∀ f ∈ fs, w.get f = 0) : SameRegs (w.each fs (fun w f => w.set f 0)) w := by
  induction fs generalizing w with
  | nil => exact fun _ => rfl
  | cons f fs ih =>
    have one : SameRegs (w.set f 0) w := set_same ((h f List.mem_cons_self).trans (Nat.zero_mod _).symm)
    exact sameRegs_trans (ih (w.set f 0) (fun g hg => (one g).trans (h g (List.mem_cons_of_mem _ hg)))) one

/-! ## What a work holds beside the registers -/

/-- The stores of a work, and what it does to TL. -/
def stores (w : Work σ) : List (Nat × Byte) × List (Nat × Nat) × List (Nat × Nat) × List (Nat × Byte) × List (Nat × Nat) × TlChange :=
  (w.mlog, w.mwipe, w.lost, w.flog, w.fwipe, w.tlc)

theorem stores_set (w : Work σ) (f : Fld) (v : Nat) : stores (w.set f v) = stores w := rfl

theorem stores_inc (w : Work σ) (f : Fld) : stores (w.inc f) = stores w := rfl

theorem stores_fire (w : Work σ) (n : Nat) : stores (w.fire n) = stores w := rfl

theorem stores_errlog (w : Work σ) (kind : Nat) (path : Path) (tile detail addr : Nat) : stores (w.errlog kind path tile detail addr) = stores w := by
  unfold Work.errlog
  dsimp only
  split <;> simp only [stores_set, stores_inc, stores_fire]

/-- Of the typed state only outputs and firings have changed; the stores and TL stand. -/
def Beside (w w' : Work σ) : Prop := w'.dev = { w.dev with out := w'.dev.out, held := w'.dev.held } ∧ stores w' = stores w

theorem Beside.refl (w : Work σ) : Beside w w := ⟨rfl, rfl⟩

theorem Beside.trans {w w' w'' : Work σ} (h : Beside w w') (h' : Beside w' w'') : Beside w w'' := by
  refine ⟨?_, h'.2.trans h.2⟩
  rw [h'.1, h.1]

/-! ## Lanes from reset (R340, R449) -/

/-- The fields that leaving UP and the start of bring-up clear, all 0 in a lane from reset. -/
def laneZeros (n : Nat) : List Fld :=
  [LANE_CHECK_OK n, LANE_STATUS_READAPTING n, LANE_STATUS_BLOCK_LOCK n, LANE_STATUS_FROZEN n, LANE_STATUS_LULL_RX n, LANE_RELOCK n, LANE_PRBS_LOCKED n,
    LANE_SIG n, LANE_FLIPS n, LANE_STATUS_POL_FAIL n, LANE_STATUS_HIBER n]

/-- A lane in which nothing goes on. -/
def AtRest (w : Work σ) (n : Nat) : Prop := w.get (LANE_STATUS_STATE n) = 0 ∧ w.get (LANE_SCAN_CFG_BUSY n) = 0 ∧ ∀ f ∈ laneZeros n, w.get f = 0

theorem laneCleared_rest {w : Work σ} {n : Nat} (h : AtRest w n) : laneCleared w n = w.each (laneZeros n) (fun w f => w.set f 0) := by
  obtain ⟨state, busy, -⟩ := h
  have drift : laneDrift w n = w := if_neg (fun up => absurd (state.symm.trans up.1) (by decide))
  have scan : ¬w.on (LANE_SCAN_CFG_BUSY n) = true := by
    rw [Work.on, busy]
    decide
  rw [laneCleared, laneLeave, drift, if_neg scan]
  rfl

theorem each_set_beside (fs : List Fld) (v : Work σ → Nat) (w : Work σ) : Beside w (w.each fs (fun w f => w.set f (v w))) :=
  Work.each_keeps (Beside w) (fun w f => w.set f (v w)) (fun _ _ h => h.trans ⟨rfl, rfl⟩) fs w (Beside.refl w)

theorem showTx_beside (w : Work σ) (n : Nat) : Beside w (showTx w n) := by
  rw [showTx]
  split
  · exact Beside.refl w
  · exact ⟨rfl, rfl⟩

/-- What the start of bring-up changes of a lane at rest. -/
theorem laneStarted_rest {w : Work σ} {n : Nat} (h : AtRest w n) :
    (∀ f, f.key ≠ (LANE_STATUS_STATE n).key → f.key ≠ (LANE_TX n).key → (laneStarted w n).get f = w.get f) ∧ Beside w (laneStarted w n) := by
  have same := zeros_same (laneZeros n) w h.2.2
  have cleared := each_set_beside (laneZeros n) (fun _ => 0) w
  rw [laneStarted_eq, laneCleared_rest h]
  generalize w.each (laneZeros n) (fun w f => w.set f 0) = v at *
  refine ⟨fun f hs ht => ?_, cleared.trans (Beside.trans ⟨rfl, rfl⟩ (showTx_beside _ n))⟩
  rw [showTx_get _ _ _ ht, Work.get_set_ne _ _ _ _ hs, same f]

/-- What the start of lanes 0 and 1 changes: their STATE and their transmit ball. -/
def startFlds : List Fld := (List.range 2).flatMap (fun n => [LANE_STATUS_STATE n, LANE_TX n])

/-- Lanes of a device from reset: 0 and 1 alone have a role, and all are at rest. -/
def LanesReset (w : Work σ) : Prop := ∀ n < 32, w.get (LANE_CFG_ROLE n) = (if n < 2 then 1 else 0) ∧ AtRest w n

/-- Lanes that have started, or not, since a device reset. -/
def Starting (w w' : Work σ) : Prop := (∀ f, (∀ g ∈ startFlds, f.key ≠ g.key) → w'.get f = w.get f) ∧ Beside w w'

theorem start_apart : ∀ n : Fin 2, ∀ f ∈ LANE_CFG_ROLE n :: LANE_SCAN_CFG_BUSY n :: laneZeros n, ∀ g ∈ startFlds, f.key ≠ g.key := by decide +kernel

theorem role_apart (n : Nat) (hn : n < 32) : ∀ g ∈ startFlds, (LANE_CFG_ROLE n).key ≠ g.key :=
  (by decide +kernel : ∀ n : Fin 32, ∀ g ∈ startFlds, (LANE_CFG_ROLE n).key ≠ g.key) ⟨n, hn⟩

theorem laneBegin_starting {w w' : Work σ} (reset : LanesReset w) {n : Nat} (hn : n < 32) (h : Starting w w') : Starting w (laneBegin w' n) := by
  obtain ⟨regs, beside⟩ := h
  rw [laneBegin]
  split
  next starts =>
    obtain ⟨role, state⟩ := starts
    obtain ⟨roles, -, busy, zeros⟩ := reset n hn
    have small : n < 2 := by
      rw [regs _ (role_apart n hn), roles] at role
      by_contra h
      exact role (if_neg h)
    have apart := start_apart ⟨n, small⟩
    have rest : AtRest w' n := ⟨state, (regs _ (apart _ (by simp))).trans busy, fun f hf =>
      (regs f (apart f (List.mem_cons_of_mem _ (List.mem_cons_of_mem _ hf)))).trans (zeros f hf)⟩
    obtain ⟨kept, with_⟩ := laneStarted_rest rest
    rw [laneStart_eq w' n (by rw [state]; decide)]
    have mem : ∀ g, g = LANE_STATUS_STATE n ∨ g = LANE_TX n → g ∈ startFlds := fun g hg =>
      List.mem_flatMap.2 ⟨n, List.mem_range.2 small, by rcases hg with rfl | rfl <;> simp⟩
    exact ⟨fun f hf => (kept f (hf _ (mem _ (Or.inl rfl))) (hf _ (mem _ (Or.inr rfl)))).trans (regs f hf), beside.trans with_⟩
  next => exact ⟨regs, beside⟩

/-- R449: the lanes that have a role from reset start, and nothing else changes. -/
theorem lanesBegin_starting {w : Work σ} (reset : LanesReset w) : Starting w (lanesBegin w) := by
  have all : ∀ l : List Nat, (∀ n ∈ l, n < 32) → ∀ w', Starting w w' → Starting w (w'.each l laneBegin) := fun l => by
    induction l with
    | nil => exact fun _ _ h => h
    | cons n l ih => exact fun small w' h => ih (fun m hm => small m (List.mem_cons_of_mem _ hm)) _ (laneBegin_starting reset (small n List.mem_cons_self) h)
  exact all (List.range 32) (fun n => List.mem_range.1) w ⟨fun _ _ => rfl, Beside.refl w⟩

/-! ## A device reset, step by step (R445) -/

/-- A device reset in the error log and in RESET_CAUSE. -/
def noted (w : Work σ) : Work σ :=
  (((w.errlog 0x0A (pathOf (w.get RESET_REQ - 1)) devTile 1 DEV_RESET_DEVICE.addr).inc DEV_RESET_CAUSE_DEVICE_COUNT).set DEV_RESET_CAUSE_DEVICE 1).set
    DEV_RESET_CAUSE_POR 0

/-- The fields that RESET_CAUSE and the request take. -/
def causeFlds : List Fld := [RESET_REQ, DEV_RESET_CAUSE_DEVICE, DEV_RESET_CAUSE_POR, DEV_RESET_CAUSE_DEVICE_COUNT]

/-- What a device reset keeps of the registers outside the always-on domain. -/
def keptFlds : List Fld := [DEV_STATUS_REFCLK_OK, DEV_FABRIC_CYCLE_PS, CONV_LOST]

/-- The dates of the converters' calibrations. -/
def dateFlds : List Fld := (List.range 32).flatMap (fun u => (List.range 4).map (CAL_LAST u))

/-- The fields that the choice of a boot and the fuses give. -/
def bootFlds : List Fld := [DEV_BOOT_SEL, DEV_BOOT_WAITING, PTP_CLOCK_ID_HI, PTP_CLOCK_ID_LO]

/-- The typed state of a device reset. -/
def rebornDev (d : Dev) : Dev :=
  { Dev.reset with
    ticks := d.ticks, hk := { d.hk with patch := [] }, port := d.port, out := d.out
    loader := { LoaderSt.reset with flashOp := d.loader.flashOp, flashOps := d.loader.flashOps } }

/-- Registers outside the always-on domain and memory taken away. -/
def reborn (w : Work σ) : Work σ := { (w.wipeRegs deviceRanges).wipeMem [(0, 2 ^ 40)] with tlc := .stop, dev := rebornDev w.dev }

/-- The converters' calibrations dated now. -/
def dated (w : Work σ) : Work σ := w.each dateFlds (fun w f => w.set f w.dev.ticks)

/-- A device reset up to the levels at the balls. -/
def renewed (w : Work σ) : Work σ := dated ((restore (reborn (noted w)) (noted w).get keptFlds).set RESET_REQ 0)

/-- The clock's identity and BOOT_SEL. -/
def chosen (w : Work σ) (sel : Nat) : Work σ :=
  ((((w.set PTP_CLOCK_ID_HI (σ.fuse.mac / 2 ^ 24 * 2 ^ 8 + 0xFF)).set PTP_CLOCK_ID_LO (0xFE * 2 ^ 24 + σ.fuse.mac % 2 ^ 24)).set DEV_BOOT_SEL sel).setB
    DEV_BOOT_WAITING (decide (2 ≤ sel))).updLd (fun l => { l with boot := if sel = 0 then .flash else if sel = 1 then .open_ else .closed })

/-- The reserved value of BOOT_SEL logged. -/
def choiceLogged (w : Work σ) (sel : Nat) : Work σ := if sel = 3 then w.errlog 0x02 .hardware 63 0 DEV_BOOT_SEL.addr else w

/-- The lanes start where the reference clock is there. -/
def lanesStarted (w : Work σ) : Work σ := if w.on DEV_STATUS_REFCLK_OK then lanesBegin w else w

theorem each_flatMap {α β : Type} (f : Work σ → β → Work σ) (g : α → List β) (l : List α) (w : Work σ) :
    w.each (l.flatMap g) f = w.each l (fun w x => w.each (g x) f) := by
  simp only [Work.each, List.foldl_flatMap]

theorem dated_eq (w : Work σ) : dated w = w.each (List.range 32) (fun w t => w.each (List.range 4) (fun w d => w.set (CAL_LAST t d) w.dev.ticks)) := by
  rw [dated, dateFlds, each_flatMap]
  simp only [Work.each, List.foldl_map]

theorem deviceReset_eq {w : Work σ} (req : w.get RESET_REQ ≠ 0) (sel : Nat) :
    deviceReset w sel = lanesStarted (choiceLogged (chosen (emits (renewed w) resetLevels) sel) sel) := by
  have on : (!w.on RESET_REQ) = false := by
    rw [show w.on RESET_REQ = true from bne_iff_ne.2 req]
    rfl
  rw [deviceReset, on, if_neg Bool.false_ne_true]
  dsimp only
  rw [← dated_eq, resetBalls_eq]
  rfl

/-! ## What each step leaves -/

theorem eachDate_get (l : List Fld) (hl : ∀ f ∈ l, f.width = 64 ∧ f.reset = 0) (w : Work σ) (g : Fld) :
    (w.each l (fun w f => w.set f w.dev.ticks)).get g = if ∃ f ∈ l, f.key = g.key then w.dev.ticks % 2 ^ 64 ^^^ g.reset else w.get g := by
  induction l generalizing w with
  | nil => exact (if_neg (fun ⟨_, h, _⟩ => absurd h List.not_mem_nil)).symm
  | cons f l ih =>
    obtain ⟨width, reset⟩ := hl f List.mem_cons_self
    have step := ih (fun f hf => hl f (List.mem_cons_of_mem _ hf)) (w.set f w.dev.ticks)
    refine step.trans ?_
    by_cases later : ∃ f' ∈ l, f'.key = g.key
    · obtain ⟨f', hf', same⟩ := later
      rw [if_pos ⟨f', hf', same⟩, if_pos ⟨f', List.mem_cons_of_mem _ hf', same⟩]
      rfl
    · rw [if_neg later, Work.get_set]
      by_cases same : g.key = f.key
      · rw [if_pos same, if_pos ⟨f, List.mem_cons_self, same.symm⟩, width, reset, Nat.xor_zero]
      · rw [if_neg same, if_neg]
        rintro ⟨f', hf', same'⟩
        rcases List.mem_cons.1 hf' with rfl | hf'
        · exact same same'.symm
        · exact later ⟨f', hf', same'⟩

theorem mem_dateFlds {f : Fld} (h : f ∈ dateFlds) : ∃ u < 32, ∃ d < 4, f = CAL_LAST u d := by
  obtain ⟨u, hu, hf⟩ := List.mem_flatMap.1 h
  obtain ⟨d, hd, rfl⟩ := List.mem_map.1 hf
  exact ⟨u, List.mem_range.1 hu, d, List.mem_range.1 hd, rfl⟩

theorem dateFlds_wide : ∀ f ∈ dateFlds, f.width = 64 ∧ f.reset = 0 := fun _ h => by
  obtain ⟨_, _, _, _, rfl⟩ := mem_dateFlds h
  exact ⟨rfl, rfl⟩

theorem dated_get (w : Work σ) : (∀ g ∈ dateFlds, (dated w).get g = w.dev.ticks % 2 ^ 64) ∧
    ∀ f, (∀ g ∈ dateFlds, f.key ≠ g.key) → (dated w).get f = w.get f := by
  refine ⟨fun g hg => ?_, fun f hf => ?_⟩
  · rw [dated, eachDate_get _ dateFlds_wide, if_pos ⟨g, hg, rfl⟩, (dateFlds_wide g hg).2, Nat.xor_zero]
  · rw [dated, eachDate_get _ dateFlds_wide, if_neg (fun ⟨g, hg, same⟩ => hf g hg same.symm)]

/-- What the note of a reset leaves and shows. -/
theorem noted_get (s : State) : (∀ f, (∀ g ∈ causeFlds ++ logFlds (s.get DEV_ERRLOG_HEAD), f.key ≠ g.key) → (noted (Work.start s)).get f = s.get f) ∧
    (noted (Work.start s)).get DEV_RESET_CAUSE_DEVICE = 1 ∧ (noted (Work.start s)).get DEV_RESET_CAUSE_POR = 0 ∧
    (noted (Work.start s)).get DEV_RESET_CAUSE_DEVICE_COUNT = min 255 (s.get DEV_RESET_CAUSE_DEVICE_COUNT + 1) ∧
    (noted (Work.start s)).get (DEV_ERRLOG_W0_KIND (s.get DEV_ERRLOG_HEAD % 64)) = 0x0A ∧
    (noted (Work.start s)).get DEV_ERRLOG_HEAD = (s.get DEV_ERRLOG_HEAD + 1) % 2 ^ 32 := by
  have head : (Work.start s).get DEV_ERRLOG_HEAD = s.get DEV_ERRLOG_HEAD := Work.get_start _ _
  have small : s.get DEV_ERRLOG_HEAD % 64 < 64 := Nat.mod_lt _ (by decide)
  have count : DEV_RESET_CAUSE_DEVICE_COUNT.addr < 0x1010 := by decide
  refine ⟨fun f hf => ?_, ?_, ?_, ?_, ?_, ?_⟩
  · simp only [causeFlds, List.cons_append, List.nil_append, List.mem_cons, forall_eq_or_imp] at hf
    obtain ⟨-, device, por, counts, log⟩ := hf
    rw [noted, Work.get_set_ne _ _ _ _ por, Work.get_set_ne _ _ _ _ device, Work.get_inc_ne _ _ _ counts, get_errlog _ _ _ _ _ _ _ (by rw [head]; exact log),
      Work.get_start]
  · rw [noted, Work.get_set_ne _ _ _ _ (by decide), Work.get_set_self]
    rfl
  · rw [noted, Work.get_set_self]
    rfl
  · rw [noted, Work.get_set_ne _ _ _ _ (by decide), Work.get_set_ne _ _ _ _ (by decide), get_inc, get_errlog_of_addr _ _ _ _ _ _ _ (by decide) (Or.inl count),
      Work.get_start]
    rfl
  · obtain ⟨kind, -⟩ := get_errlog_words (Work.start s) 0x0A devTile 1 DEV_RESET_DEVICE.addr (pathOf ((Work.start s).get RESET_REQ - 1))
    rw [head] at kind
    have apart : ∀ g ∈ causeFlds, (DEV_ERRLOG_W0_KIND (s.get DEV_ERRLOG_HEAD % 64)).key ≠ g.key := by
      generalize s.get DEV_ERRLOG_HEAD % 64 = i at *
      simp only [causeFlds, List.mem_cons, List.not_mem_nil, or_false, forall_eq_or_imp, forall_eq, Fld.key, DEV_ERRLOG_W0_KIND, RESET_REQ, hid, hidOn,
        DEV_RESET_CAUSE_DEVICE, DEV_RESET_CAUSE_POR, DEV_RESET_CAUSE_DEVICE_COUNT]
      omega
    rw [noted, Work.get_set_ne _ _ _ _ (apart _ (by simp [causeFlds])), Work.get_set_ne _ _ _ _ (apart _ (by simp [causeFlds])),
      Work.get_inc_ne _ _ _ (apart _ (by simp [causeFlds]))]
    exact kind
  · rw [noted, Work.get_set_ne _ _ _ _ (by decide), Work.get_set_ne _ _ _ _ (by decide), Work.get_inc_ne _ _ _ (by decide), get_errlog_head, head]

theorem noted_beside (w : Work σ) : Beside w (noted w) := by
  refine ⟨?_, ?_⟩
  · rw [noted, Work.set_dev, Work.set_dev, Work.inc_dev, errlog_dev]
  · rw [noted, stores_set, stores_set, stores_inc, stores_errlog]

theorem restore_kept_get (w : Work σ) (v : Fld → Nat) : ∀ f ∈ keptFlds, (restore w v keptFlds).get f = v f % 2 ^ f.width := by
  intro f hf
  simp only [keptFlds, List.mem_cons, List.not_mem_nil, or_false] at hf
  rcases hf with rfl | rfl | rfl <;>
    simp (disch := decide) only [restore, keptFlds, List.map_cons, List.map_nil, Work.each, List.foldl_cons, List.foldl_nil, Work.get_set_ne, Work.get_set_self]

theorem kept_apart : (∀ f ∈ keptFlds, (∀ g ∈ causeFlds, f.key ≠ g.key) ∧ ∀ g ∈ dateFlds, f.key ≠ g.key) ∧ ∀ f ∈ causeFlds, ∀ g ∈ dateFlds, f.key ≠ g.key := by decide +kernel

theorem reborn_get (w : Work σ) (f : Fld) : (reborn w).get f = if inRanges deviceRanges f.key then f.reset else w.get f := Work.get_wipeRegs w deviceRanges f

/-- The registers once a device reset has renewed them. -/
theorem renewed_get (w : Work σ) : (∀ g ∈ dateFlds, (renewed w).get g = w.dev.ticks % 2 ^ 64) ∧ (∀ f ∈ keptFlds, (renewed w).get f = (noted w).get f % 2 ^ f.width) ∧
    (renewed w).get RESET_REQ = 0 ∧
    ∀ f, (∀ g ∈ RESET_REQ :: keptFlds ++ dateFlds, f.key ≠ g.key) → (renewed w).get f = if inRanges deviceRanges f.key then f.reset else (noted w).get f := by
  obtain ⟨dates, others⟩ := dated_get ((restore (reborn (noted w)) (noted w).get keptFlds).set RESET_REQ 0)
  have ticks : ((restore (reborn (noted w)) (noted w).get keptFlds).set RESET_REQ 0).dev.ticks = w.dev.ticks := by
    rw [Work.set_dev, (restore_dev _ _ _).1, show (reborn (noted w)).dev.ticks = (noted w).dev.ticks from rfl, (noted_beside w).1]
  rw [ticks] at dates
  obtain ⟨keptApart, causeApart⟩ := kept_apart
  refine ⟨dates, fun f hf => ?_, ?_, fun f hf => ?_⟩
  · obtain ⟨cause, date⟩ := keptApart f hf
    rw [renewed, others f date, Work.get_set_ne _ _ _ _ (cause _ List.mem_cons_self), restore_kept_get _ _ f hf]
  · rw [renewed, others _ (causeApart _ List.mem_cons_self), Work.get_set_self]
    rfl
  · simp only [List.cons_append, List.mem_cons, List.mem_append, forall_eq_or_imp] at hf
    obtain ⟨req, rest⟩ := hf
    rw [renewed, others f (fun g hg => rest g (Or.inr hg)), Work.get_set_ne _ _ _ _ req, restore_get_ne _ _ _ _ (fun g hg => rest g (Or.inl hg)), reborn_get]

theorem restore_beside (w : Work σ) (v : Fld → Nat) (fs : List Fld) : Beside w (restore w v fs) :=
  Work.each_keeps (Beside w) (fun w (f : Fld × Nat) => w.set f.1 f.2) (fun _ _ h => h.trans ⟨rfl, rfl⟩) _ w (Beside.refl w)

/-- The stores and TL once a device reset has renewed the registers. -/
theorem renewed_stores (s : State) : stores (renewed (Work.start s)) = ([], [(0, 2 ^ 40)], (0, 2 ^ 40) :: s.lost, [], [], .stop) := by
  have noted_ : stores (noted (Work.start s)) = ([], [], s.lost, [], [], (Work.start s).tlc) := (noted_beside (Work.start s)).2
  simp only [stores, Prod.mk.injEq] at noted_
  obtain ⟨mlog, mwipe, lost, flog, fwipe, -⟩ := noted_
  have reborn_ : stores (reborn (noted (Work.start s))) = ([], [(0, 2 ^ 40)], (0, 2 ^ 40) :: s.lost, [], [], .stop) := by
    rw [reborn, stores]
    simp only [Work.wipeMem, Work.wipeRegs, mlog, mwipe, lost, flog, fwipe]
    rfl
  rw [renewed, dated, (each_set_beside dateFlds (fun w => w.dev.ticks) _).2, stores_set, (restore_beside _ _ _).2, reborn_]

theorem renewed_dev (w : Work σ) : (renewed w).dev = { rebornDev w.dev with out := (renewed w).dev.out, held := (renewed w).dev.held } := by
  have dated_ := (each_set_beside dateFlds (fun w => w.dev.ticks) ((restore (reborn (noted w)) (noted w).get keptFlds).set RESET_REQ 0)).1
  rw [Work.set_dev, (restore_dev _ _ _).1, show (reborn (noted w)).dev = rebornDev (noted w).dev from rfl, (noted_beside w).1] at dated_
  rw [renewed, dated]
  exact dated_

theorem chosen_get (w : Work σ) (sel : Fin 4) : (chosen w sel).get DEV_BOOT_SEL = sel ∧ ∀ f, (∀ g ∈ bootFlds, f.key ≠ g.key) → (chosen w sel).get f = w.get f := by
  refine ⟨?_, fun f hf => ?_⟩
  · simp (disch := decide) only [chosen, Work.get_updLd, Work.setB, Work.get_set_ne, Work.get_set_self]
    exact Nat.mod_eq_of_lt sel.isLt
  · simp only [bootFlds, List.mem_cons, List.not_mem_nil, or_false, forall_eq_or_imp, forall_eq] at hf
    obtain ⟨boot, waiting, hi, lo⟩ := hf
    rw [chosen, Work.get_updLd, Work.setB, Work.get_set_ne _ _ _ _ waiting, Work.get_set_ne _ _ _ _ boot, Work.get_set_ne _ _ _ _ lo, Work.get_set_ne _ _ _ _ hi]

/-- The fields that an entry of the log for BOOT_SEL takes, where the log stands at h. -/
def choiceFlds (sel h : Nat) : List Fld := if sel = 3 then logFlds h else []

theorem choiceLogged_get (w : Work σ) (sel : Nat) (f : Fld) (hf : ∀ g ∈ choiceFlds sel (w.get DEV_ERRLOG_HEAD), f.key ≠ g.key) : (choiceLogged w sel).get f = w.get f := by
  rw [choiceLogged]
  split
  next three =>
    rw [choiceFlds, if_pos three] at hf
    exact get_errlog _ _ _ _ _ _ _ hf
  next => rfl

theorem choiceLogged_beside (w : Work σ) (sel : Nat) : Beside w (choiceLogged w sel) := by
  rw [choiceLogged]
  split
  · exact ⟨by rw [errlog_dev], stores_errlog _ _ _ _ _ _⟩
  · exact Beside.refl w

/-! ## The whole reset -/

theorem bootLanes_apart : (∀ f ∈ RESET_REQ :: DEV_RESET_CAUSE_DEVICE :: DEV_RESET_CAUSE_POR :: DEV_RESET_CAUSE_DEVICE_COUNT :: NT_NOW ::
    TRANSPORT_SESSION_OWNER_VALID :: DEV_ERRLOG_HEAD :: keptFlds ++ dateFlds, ∀ g ∈ bootFlds ++ startFlds, f.key ≠ g.key) ∧
    (∀ f ∈ DEV_BOOT_SEL :: keptFlds, ∀ g ∈ startFlds, f.key ≠ g.key) := by decide +kernel

theorem renewed_apart : ∀ f ∈ [DEV_RESET_CAUSE_DEVICE, DEV_RESET_CAUSE_POR, DEV_RESET_CAUSE_DEVICE_COUNT, NT_NOW, TRANSPORT_SESSION_OWNER_VALID, DEV_ERRLOG_HEAD],
    ∀ g ∈ RESET_REQ :: keptFlds ++ dateFlds, f.key ≠ g.key := by decide +kernel

theorem lanes_place : ∀ n : Fin 32, ∀ f ∈ LANE_CFG_ROLE n :: LANE_STATUS_STATE n :: LANE_SCAN_CFG_BUSY n :: laneZeros n,
    (∀ g ∈ RESET_REQ :: keptFlds ++ bootFlds, f.key ≠ g.key) ∧ inRanges deviceRanges f.key = true ∧ f.lo < 32 ∧ 0x2000 ≤ f.addr ∧
    (f.addr < 2 ^ 40 ∨ 2 ^ 40 + 32 * 2 ^ 24 ≤ f.addr) := by decide +kernel

/-- A field outside the tiles' hidden blocks is no date. -/
theorem key_ne_date {f : Fld} (lo : f.lo < 32) (place : f.addr < 2 ^ 40 ∨ 2 ^ 40 + 32 * 2 ^ 24 ≤ f.addr) : ∀ g ∈ dateFlds, f.key ≠ g.key := fun g hg => by
  obtain ⟨u, hu, d, hd, rfl⟩ := mem_dateFlds hg
  simp only [Fld.key, CAL_LAST, hid]
  omega

theorem lanes_apart (n : Fin 32) : ∀ f ∈ LANE_CFG_ROLE n :: LANE_STATUS_STATE n :: LANE_SCAN_CFG_BUSY n :: laneZeros n,
    (∀ g ∈ RESET_REQ :: keptFlds ++ dateFlds, f.key ≠ g.key) ∧ (∀ g ∈ bootFlds, f.key ≠ g.key) ∧ inRanges deviceRanges f.key = true ∧ f.lo < 32 ∧ 0x2000 ≤ f.addr := fun f hf => by
  obtain ⟨apart, inside, lo, addr, place⟩ := lanes_place n f hf
  refine ⟨fun g hg => ?_, fun g hg => apart g (List.mem_append_right _ hg), inside, lo, addr⟩
  rcases List.mem_append.1 hg with hg | hg
  · exact apart g (List.mem_append_left _ hg)
  · exact key_ne_date lo place g hg

section

variable (s : State) (sel : Fin 4)

/-- The work of a device reset before the lanes start. -/
def beforeLanes : Work s := choiceLogged (chosen (emits (renewed (Work.start s)) resetLevels) sel) sel

theorem renewed_outside {f : Fld} (hf : ∀ g ∈ RESET_REQ :: keptFlds ++ dateFlds, f.key ≠ g.key) (outside : inRanges deviceRanges f.key = false) :
    (renewed (Work.start s)).get f = (noted (Work.start s)).get f := by
  rw [(renewed_get _).2.2.2 f hf, outside, if_neg Bool.false_ne_true]

theorem renewed_head : (renewed (Work.start s)).get DEV_ERRLOG_HEAD = (s.get DEV_ERRLOG_HEAD + 1) % 2 ^ 32 := by
  rw [renewed_outside s (renewed_apart _ (by simp)) (by decide), (noted_get s).2.2.2.2.2]

theorem chosen_head : (chosen (emits (renewed (Work.start s)) resetLevels) sel).get DEV_ERRLOG_HEAD = (s.get DEV_ERRLOG_HEAD + 1) % 2 ^ 32 := by
  rw [(chosen_get _ sel).2 _ (by decide), get_emits, renewed_head]

/-- Before the lanes start, the choice of a boot and its entry of the log are all that has come. -/
theorem beforeLanes_get (f : Fld) (boot : ∀ g ∈ bootFlds, f.key ≠ g.key) (log : ∀ g ∈ choiceFlds sel ((s.get DEV_ERRLOG_HEAD + 1) % 2 ^ 32), f.key ≠ g.key) :
    (beforeLanes s sel).get f = (renewed (Work.start s)).get f := by
  rw [beforeLanes, choiceLogged_get _ _ _ (by rw [chosen_head]; exact log), (chosen_get _ sel).2 f boot, get_emits]

theorem choice_apart {f : Fld} (h : Nat) (lo : f.lo < 32) (addr : f.addr < 0x1010 ∨ 0x2000 ≤ f.addr ∨ f.addr = 0x1014) : ∀ g ∈ choiceFlds sel h, f.key ≠ g.key := by
  rw [choiceFlds]
  split
  · exact key_ne_logFlds f h lo addr
  · exact fun g hg => absurd hg List.not_mem_nil

theorem lanesReset_before : LanesReset (beforeLanes s sel) := by
  have rest : ∀ n : Fin 32, ∀ f ∈ LANE_CFG_ROLE n :: LANE_STATUS_STATE n :: LANE_SCAN_CFG_BUSY n :: laneZeros n, (beforeLanes s sel).get f = f.reset := fun n f hf => by
    obtain ⟨apart, boot, inside, lo, addr⟩ := lanes_apart n f hf
    rw [beforeLanes_get s sel f boot (choice_apart sel _ lo (Or.inr (Or.inl addr))), (renewed_get _).2.2.2 f apart, inside, if_pos rfl]
  have zero : ∀ n, ∀ f ∈ laneZeros n, f.reset = 0 := fun n f hf => by
    simp only [laneZeros, List.mem_cons, List.not_mem_nil, or_false] at hf
    rcases hf with rfl | rfl | rfl | rfl | rfl | rfl | rfl | rfl | rfl | rfl | rfl <;> rfl
  intro n hn
  have lane := rest ⟨n, hn⟩
  exact ⟨lane _ (by simp), lane _ (by simp), lane _ (by simp), fun f hf => (lane f (by simp [hf])).trans (zero n f hf)⟩

theorem chosen_rest (w : Work σ) (sel : Nat) : stores (chosen w sel) = stores w ∧
    (chosen w sel).dev = { w.dev with loader := { w.dev.loader with boot := if sel = 0 then .flash else if sel = 1 then .open_ else .closed } } := ⟨rfl, rfl⟩

theorem emits_stores (w : Work σ) (os : List Out) : stores (emits w os) = stores w := rfl

theorem beforeLanes_stores : stores (beforeLanes s sel) = ([], [(0, 2 ^ 40)], (0, 2 ^ 40) :: s.lost, [], [], .stop) := by
  rw [beforeLanes, (choiceLogged_beside _ _).2, (chosen_rest _ _).1, emits_stores, renewed_stores]

/-- The typed state that a device reset leaves, but for the outputs and the firings. -/
def resetDev (d : Dev) (sel : Nat) : Dev :=
  { rebornDev d with loader := { (rebornDev d).loader with boot := if sel = 0 then .flash else if sel = 1 then .open_ else .closed } }

theorem beforeLanes_dev : ∃ out held, (beforeLanes s sel).dev = { resetDev s.dev sel with out, held } := by
  have logged := (choiceLogged_beside (chosen (emits (renewed (Work.start s)) resetLevels) sel) sel).1
  have renewed_ := renewed_dev (Work.start s)
  rw [(chosen_rest _ _).2, emits_dev, renewed_] at logged
  exact ⟨_, _, logged⟩

/-- The lanes that start: those of a device whose reference clock is there. -/
def startedFlds : List Fld := if s.get DEV_STATUS_REFCLK_OK = 0 then [] else startFlds

theorem before_kept {f : Fld} (hf : f ∈ keptFlds) : (beforeLanes s sel).get f = s.get f % 2 ^ f.width := by
  have apart := bootLanes_apart.1 f (by simp [hf])
  have low : ∀ f ∈ keptFlds, f.lo < 32 ∧ (f.addr < 0x1010 ∨ 0x2000 ≤ f.addr) := by decide
  obtain ⟨lo, addr⟩ := low f hf
  have note : ∀ g ∈ causeFlds ++ logFlds (s.get DEV_ERRLOG_HEAD), f.key ≠ g.key := fun g hg => (List.mem_append.1 hg).elim
    (kept_apart.1 f hf |>.1 g) (key_ne_logFlds f _ lo (addr.imp id Or.inl) g)
  rw [beforeLanes_get s sel f (fun g hg => apart g (List.mem_append_left _ hg)) (choice_apart sel _ lo (addr.imp id Or.inl)), (renewed_get _).2.1 f hf,
    (noted_get s).1 f note]

/-- The whole of a device reset, as the lanes leave it. -/
theorem lanesStarted_starting : (∀ f, (∀ g ∈ startedFlds s, f.key ≠ g.key) → (lanesStarted (beforeLanes s sel)).get f = (beforeLanes s sel).get f) ∧
    Beside (beforeLanes s sel) (lanesStarted (beforeLanes s sel)) ∧
    (s.get DEV_STATUS_REFCLK_OK % 2 = 1 → ∀ n < 2, (lanesStarted (beforeLanes s sel)).get (LANE_STATUS_STATE n) = LANE_SIGNAL) := by
  have clock : (beforeLanes s sel).get DEV_STATUS_REFCLK_OK = s.get DEV_STATUS_REFCLK_OK % 2 := before_kept s sel (by simp [keptFlds])
  have lanes := lanesReset_before s sel
  generalize beforeLanes s sel = w at *
  rw [lanesStarted]
  by_cases present : s.get DEV_STATUS_REFCLK_OK % 2 = 1
  · have on : w.on DEV_STATUS_REFCLK_OK = true := bne_iff_ne.2 (by rw [clock, present]; decide)
    obtain ⟨regs, beside⟩ := lanesBegin_starting lanes
    rw [if_pos on, startedFlds, if_neg (fun h => by rw [h] at present; omega)]
    refine ⟨regs, beside, fun _ n hn => ?_⟩
    obtain ⟨role, state, -⟩ := lanes n (by omega)
    exact lanesBegin_state w n (by omega) (by rw [role, if_pos hn]; decide) on state
  · have off : ¬w.on DEV_STATUS_REFCLK_OK = true := fun on => bne_iff_ne.1 on (by rw [clock]; omega)
    rw [if_neg off]
    exact ⟨fun _ _ => rfl, Beside.refl w, fun h => absurd h present⟩

end

/-- A write that the device ignores, as a command. -/
theorem deviceIgnores {s : State} (hs : s.wf = true) {c : Instr} (F : Work s → Work s) (run : exec c s = .next (F (Work.start s)).finish)
    (path : Path) (f : Fld) (hf : f.addr < 0x10000000) (eq : F (Work.start s) = (Work.start s).ignored path f) :
    Answers c s (fun t => Logged s t 2 path.code 63 f.addr ∧
      Leaves s t (logFlds (s.get DEV_ERRLOG_HEAD)) { s.view.dev with held := s.dev.held ++ [s.firing 487] }) := by
  have tile : tileOfAddr f.addr = 63 := if_neg (fun h => absurd h.1 (Nat.not_le_of_lt hf))
  obtain ⟨w, hw, logged, keeps, quiet, dev, fresh⟩ := errlog_effect (Work.start s) 0x02 (tileOfAddr f.addr) 0 f.addr path hs (Work.get_start _ _)
    (by decide) (by rw [tile]; decide)
  rw [firing_eq _ 487 rfl (Work.get_start _ _)] at dev
  rw [tile] at logged
  exact answers_of F run (eq.trans hw) ⟨logged, leaves_finish hs ((keeps _ (List.Subset.refl _)).2 (keeps_start s _)) (quiet.2 (quiet_start s)) dev fresh⟩

theorem resetRequests {s : State} (hs : s.wf = true) :
    (∀ via, Answers (.deviceResetRequest via 0xA5000001) s (fun t => t.get RESET_REQ = 1 + (viaPath via).code ∧ Plain s t [RESET_REQ])) ∧
    (∀ via (v : BitVec 32), v ≠ 0xA5000001 → bit v.toNat 0 = true → Answers (.deviceResetRequest via v) s (fun t =>
      Logged s t 2 (viaPath via).code 63 DEV_RESET_DEVICE.addr ∧
      Leaves s t (logFlds (s.get DEV_ERRLOG_HEAD)) { s.view.dev with held := s.dev.held ++ [s.firing 487] })) ∧
    (∀ via (v : BitVec 32), bit v.toNat 0 = false → Answers (.deviceResetRequest via v) s (fun t => Plain s t [])) := by
  refine ⟨fun via => ?_, fun via v other on => ?_, fun via v off => ?_⟩
  · refine answers_of (fun w => devResetWrite w (viaPath via) _) rfl (if_pos (by decide)) ⟨?_, plain_finish hs ?_ (quiet_start s) rfl rfl⟩
    · rw [Work.finish_get _ _ hs, Work.get_set_self]
      cases via <;> rfl
    · exact fun f hf => (Work.get_set_ne _ _ _ _ (hf _ List.mem_cons_self)).trans (Work.get_start s f)
  · refine deviceIgnores hs (fun w => devResetWrite w (viaPath via) v.toNat) rfl (viaPath via) DEV_RESET_DEVICE (by decide) ?_
    have plain : v.toNat ≠ 0xA5000001 := fun h => other (BitVec.eq_of_toNat_eq h)
    rw [devResetWrite, if_neg plain, if_pos on]
  · refine answers_of (fun w => devResetWrite w (viaPath via) v.toNat) rfl (w := Work.start s) ?_ (plain_start s [] hs)
    rw [devResetWrite, if_neg (fun h => by rw [h] at off; exact absurd off (by decide)), if_neg (by rw [off]; decide)]

theorem kind_outside (i : Nat) (hi : i < 64) : (∀ g ∈ RESET_REQ :: keptFlds ++ dateFlds ++ (bootFlds ++ startFlds), (DEV_ERRLOG_W0_KIND i).key ≠ g.key) ∧
    inRanges deviceRanges (DEV_ERRLOG_W0_KIND i).key = false :=
  (by decide +kernel : ∀ i : Fin 64, (∀ g ∈ RESET_REQ :: keptFlds ++ dateFlds ++ (bootFlds ++ startFlds), (DEV_ERRLOG_W0_KIND i).key ≠ g.key) ∧
    inRanges deviceRanges (DEV_ERRLOG_W0_KIND i).key = false) ⟨i, hi⟩

/-- An entry of the log and the one behind it stand at two places. -/
theorem kind_next (h : Nat) : ∀ g ∈ logFlds ((h + 1) % 2 ^ 32), (DEV_ERRLOG_W0_KIND (h % 64)).key ≠ g.key := by
  have apart : (h + 1) % 2 ^ 32 % 64 ≠ h % 64 := by omega
  simp only [logFlds]
  generalize (h + 1) % 2 ^ 32 % 64 = j at *
  generalize h % 64 = i at *
  simp only [List.mem_cons, List.not_mem_nil, or_false, forall_eq_or_imp, forall_eq, Fld.key, DEV_ERRLOG_HEAD, DEV_ERRLOG_LOST, DEV_ERRLOG_W0_KIND,
    DEV_ERRLOG_W0_PATH, DEV_ERRLOG_W0_TILE, DEV_ERRLOG_W0_DETAIL, DEV_ERRLOG_W1, DEV_ERRLOG_W2, DEV_ERRLOG_W4, DEV_ERRLOG_W5, DEV_ERRLOG_W6, DEV_ERRLOG_W7]
  omega

theorem deviceReset_clause : Clause.DeviceReset := by
  intro s hs
  obtain ⟨requested, ignored, nothing⟩ := resetRequests hs
  refine ⟨requested, ignored, nothing, fun sel req => ?_⟩
  intro kept dates boot lanes log
  have run : deviceReset (Work.start s) sel = lanesStarted (beforeLanes s sel) := deviceReset_eq (by rw [Work.get_start]; exact req) sel
  refine answers_of (fun w => deviceReset w sel) rfl run ?_
  obtain ⟨regs, beside, signal⟩ := lanesStarted_starting s sel
  have all : ∀ f, (∀ g ∈ bootFlds ++ startedFlds s ++ choiceFlds sel ((s.get DEV_ERRLOG_HEAD + 1) % 2 ^ 32), f.key ≠ g.key) →
      (lanesStarted (beforeLanes s sel)).get f = (renewed (Work.start s)).get f := fun f hf => by
    simp only [List.mem_append] at hf
    rw [regs f (fun g hg => hf g (Or.inl (Or.inr hg))), beforeLanes_get s sel f (fun g hg => hf g (Or.inl (Or.inl hg))) (fun g hg => hf g (Or.inr hg))]
  have sub : ∀ g ∈ startedFlds s, g ∈ startFlds := fun g hg => by
    rw [startedFlds] at hg
    split at hg
    · exact absurd hg List.not_mem_nil
    · exact hg
  have low : ∀ f, f.lo < 32 → (f.addr < 0x1010 ∨ 0x2000 ≤ f.addr) → (∀ g ∈ bootFlds ++ startFlds, f.key ≠ g.key) →
      (lanesStarted (beforeLanes s sel)).get f = (renewed (Work.start s)).get f := fun f lo addr apart => all f (fun g hg => by
    rcases List.mem_append.1 hg with hg | hg
    · rcases List.mem_append.1 hg with hg | hg
      · exact apart g (List.mem_append_left _ hg)
      · exact apart g (List.mem_append_right _ (sub g hg))
    · exact choice_apart sel _ lo (addr.imp id Or.inl) g hg)
  obtain ⟨bootLanes, keptLanes⟩ := bootLanes_apart
  obtain ⟨note, device, por, count, kind, -⟩ := noted_get s
  obtain ⟨date, -, req0, rest⟩ := renewed_get (Work.start s)
  obtain ⟨kindApart, kindOut⟩ := kind_outside (s.get DEV_ERRLOG_HEAD % 64) (Nat.mod_lt _ (by decide))
  obtain ⟨out, held, dev⟩ := beforeLanes_dev s sel
  have store := beside.2.trans (beforeLanes_stores s sel)
  have dev' : (lanesStarted (beforeLanes s sel)).dev = { resetDev s.dev sel with
      out := (lanesStarted (beforeLanes s sel)).dev.out, held := (lanesStarted (beforeLanes s sel)).dev.held } := by
    refine beside.1.trans ?_
    rw [dev]
  have sel_ : (lanesStarted (beforeLanes s sel)).get DEV_BOOT_SEL = sel := by
    rw [regs _ (fun g hg => keptLanes _ List.mem_cons_self g (sub g hg)), beforeLanes, choiceLogged_get _ _ _ (choice_apart sel _ (by decide) (by decide)), (chosen_get _ sel).1]
  have keeps : ∀ f ∈ keptFlds, (lanesStarted (beforeLanes s sel)).get f = s.get f % 2 ^ f.width := fun f hf =>
    (regs f (fun g hg => keptLanes f (List.mem_cons_of_mem _ hf) g (sub g hg))).trans (before_kept s sel hf)
  generalize lanesStarted (beforeLanes s sel) = z at *
  simp only [stores, Prod.mk.injEq] at store
  obtain ⟨mlog, mwipe, lost, flog, fwipe, tlc⟩ := store
  have get : ∀ f, z.finish.get f = z.get f := fun f => Work.finish_get z f hs
  have cause : ∀ f ∈ [DEV_RESET_CAUSE_DEVICE, DEV_RESET_CAUSE_POR, DEV_RESET_CAUSE_DEVICE_COUNT], z.finish.get f = (noted (Work.start s)).get f :=
    fun f hf => by
      have facts : ∀ f ∈ [DEV_RESET_CAUSE_DEVICE, DEV_RESET_CAUSE_POR, DEV_RESET_CAUSE_DEVICE_COUNT], (f.lo < 32 ∧ f.addr < 0x1010 ∧ inRanges deviceRanges f.key = false) ∧
          (f ∈ RESET_REQ :: DEV_RESET_CAUSE_DEVICE :: DEV_RESET_CAUSE_POR :: DEV_RESET_CAUSE_DEVICE_COUNT :: NT_NOW ::
            TRANSPORT_SESSION_OWNER_VALID :: DEV_ERRLOG_HEAD :: keptFlds ++ dateFlds) ∧
          f ∈ [DEV_RESET_CAUSE_DEVICE, DEV_RESET_CAUSE_POR, DEV_RESET_CAUSE_DEVICE_COUNT, NT_NOW, TRANSPORT_SESSION_OWNER_VALID, DEV_ERRLOG_HEAD] := by decide
      obtain ⟨⟨lo, addr, outside⟩, named, apart⟩ := facts f hf
      rw [get, low f lo (Or.inl addr) (bootLanes f named), renewed_outside s (renewed_apart f apart) outside]
  refine ⟨?_, (cause _ (by simp)).trans device, (cause _ (by simp)).trans por, (cause _ (by simp)).trans count, ?_, (get _).trans sel_, ?_, ?_,
    fun f hf => (get f).trans (keeps f hf), fun f hf => ?_, fun here n hn => (get _).trans (signal here n hn), fun f inside apart => ?_, fun f outside apart => ?_, ?_, rfl, rfl,
    fun a => ?_, fun a ha => ?_, ?_, ?_⟩
  · rw [get, low _ (by decide) (by decide) (bootLanes _ (by simp)), req0]
  · rw [get, all _ (fun g hg => ?_), renewed_outside s (fun g hg => kindApart g (List.mem_append_left _ hg)) kindOut, kind]
    rcases List.mem_append.1 hg with hg | hg
    · refine kindApart g (List.mem_append_right _ ?_)
      rcases List.mem_append.1 hg with hg | hg
      · exact List.mem_append_left _ hg
      · exact List.mem_append_right _ (sub g hg)
    · rw [choiceFlds] at hg
      split at hg
      · exact kind_next _ g hg
      · exact absurd hg List.not_mem_nil
  · rw [get, low _ (by decide) (by decide) (bootLanes _ (by simp)), rest _ (renewed_apart _ (by simp)), if_pos (by decide)]
    rfl
  · rw [get, low _ (by decide) (by decide) (bootLanes _ (by simp)), rest _ (renewed_apart _ (by simp)), if_pos (by decide)]
    rfl
  · have low_ : f.lo < 32 ∧ 0x2000 ≤ f.addr := by
      obtain ⟨u, -, d, -, rfl⟩ := mem_dateFlds hf
      simp only [CAL_LAST, hid]
      omega
    rw [get, low f low_.1 (Or.inr low_.2) (bootLanes f (by simp [show f ∈ dateFlds from hf])), date f hf]
    rfl
  · have apart' : ∀ g ∈ keptFlds ++ dateFlds ++ bootFlds ++ startedFlds s ++
        (logFlds (s.get DEV_ERRLOG_HEAD) ++ choiceFlds sel ((s.get DEV_ERRLOG_HEAD + 1) % 2 ^ 32)), f.key ≠ g.key := apart
    simp only [List.mem_append] at apart'
    rw [get, all f, rest f, inside, if_pos rfl]
    · intro g hg same
      rcases List.mem_cons.1 hg with rfl | hg
      · rw [same] at inside
        exact absurd inside (by decide)
      · exact apart' g (Or.inl (Or.inl (Or.inl (List.mem_append.1 hg)))) same
    · simp only [List.mem_append]
      rintro g ((hg | hg) | hg)
      · exact apart' g (Or.inl (Or.inl (Or.inr hg)))
      · exact apart' g (Or.inl (Or.inr hg))
      · exact apart' g (Or.inr (Or.inr hg))
  · have apart' : ∀ g ∈ causeFlds ++ keptFlds ++ dateFlds ++ bootFlds ++ startedFlds s ++
        (logFlds (s.get DEV_ERRLOG_HEAD) ++ choiceFlds sel ((s.get DEV_ERRLOG_HEAD + 1) % 2 ^ 32)), f.key ≠ g.key := apart
    simp only [List.mem_append] at apart'
    rw [get, all f, renewed_outside s _ outside, note f]
    · simp only [List.mem_append]
      rintro g (hg | hg)
      · exact apart' g (Or.inl (Or.inl (Or.inl (Or.inl (Or.inl hg)))))
      · exact apart' g (Or.inr (Or.inl hg))
    · intro g hg
      rcases List.mem_cons.1 hg with rfl | hg
      · exact apart' _ (Or.inl (Or.inl (Or.inl (Or.inl (Or.inl List.mem_cons_self)))))
      · exact apart' g (Or.inl (Or.inl (Or.inl ((List.mem_append.1 hg).imp Or.inr id))))
    · simp only [List.mem_append]
      rintro g ((hg | hg) | hg)
      · exact apart' g (Or.inl (Or.inl (Or.inr hg)))
      · exact apart' g (Or.inl (Or.inr hg))
      · exact apart' g (Or.inr (Or.inr hg))
  · rw [Work.finish_tl, tlc]
    rfl
  · rw [Work.finish_flashAt _ _ hs, Work.fl8, flog, fwipe]
    rfl
  · rw [Work.finish_byteAt _ _ hs, Work.rd8, mlog, mwipe]
    have inside : inRanges [(0, 2 ^ 40)] a = true := List.any_eq_true.2 ⟨_, List.mem_singleton.2 rfl, by
      rw [Bool.and_eq_true, decide_eq_true_eq, decide_eq_true_eq]
      exact ⟨Nat.zero_le _, ha⟩⟩
    rw [if_pos inside]
    exact BitVec.zero_xor
  · rw [Work.finish_lost, lost]
  · exact dev'

end Sys2Proof.ResetProofs
end

section
/-! PROOFS. Tile reset: its request, and what the accepted reset leaves (R54, R320, R446). -/

namespace Sys2Proof.TileResetProofs

open Sys2Proof.Machine Sys2Proof.Effects Sys2Proof.SeqFacts Sys2Proof.TakeProofs Sys2Proof.RejectFacts Sys2Proof.LaneWorks Sys2Proof.AbortProofs Sys2Proof.ResetProofs

-- A kernel evaluation waits for every declaration before it: one at a time keeps the threads that wait, and their stacks, few.
set_option Elab.async false

variable {s : State}

/-! ## The request (R446) -/

theorem named_one : ∀ u : Fin 32, (BitVec.ofNat 32 (2 ^ u.val)).toNat ≠ 0xFFFFFFFF ∧
    (List.range 32).filter (fun t => bit (BitVec.ofNat 32 (2 ^ u.val)).toNat t) = [u.val] := by decide +kernel

theorem lockstep_off {w : Work s} (h : w.get DEV_STATUS_LOCKSTEP = 0) : lockstep w = false := bne_eq_false_iff_eq.2 h

/-- Whether a tile takes a reset now. -/
def takesReset (w : Work s) (t : Nat) : Bool := decide (w.get (SEQ_STATE_STATE t) = HALTED) || decide (w.get (SEQ_STATE_STATE t) = NOT_RELEASED)

theorem tileResetWrite_one {w : Work s} (lock : w.get DEV_STATUS_LOCKSTEP = 0) (path : Path) (u : Fin 32) :
    tileResetWrite w path (BitVec.ofNat 32 (2 ^ u.val)).toNat =
      if takesReset w u then (w.set (TRST u) 1).errlog 0x0A path u 2 DEV_TILE_RESET.addr else w.ignored path DEV_TILE_RESET := by
  obtain ⟨-, named⟩ := named_one u
  rw [tileResetWrite, lockstep_off lock, if_neg (fun h => Bool.false_ne_true h.1)]
  dsimp only
  rw [named]
  change (if [u.val].all (takesReset w) = true then w.each ([u.val].filter (takesReset w)) _ else (w.each ([u.val].filter (takesReset w)) _).ignored path DEV_TILE_RESET) = _
  rw [List.all_cons, List.all_nil, Bool.and_true]
  by_cases takes : takesReset w u = true
  · rw [if_pos takes, if_pos takes, List.filter_cons_of_pos takes]
    rfl
  · rw [if_neg takes, if_neg takes, List.filter_cons_of_neg takes]
    rfl

theorem trst_apart (u : Nat) (f : Fld) (lo : f.lo < 32) (addr : f.addr < 2 ^ 40) : f.key ≠ (TRST u).key := by
  simp only [Fld.key, TRST, hid]
  omega

theorem resetTaken (hs : s.wf = true) (via : Via) (u : Fin 32) (lock : s.get DEV_STATUS_LOCKSTEP = 0)
    (rests : s.get (SEQ_STATE_STATE u) = HALTED ∨ s.get (SEQ_STATE_STATE u) = NOT_RELEASED) :
    Answers (.tileReset via (BitVec.ofNat 32 (2 ^ u.val))) s (fun t =>
      t.get (TRST u) = 1 ∧ Logged s t 0xA (viaPath via).code u DEV_TILE_RESET.addr ∧
      Leaves s t (TRST u :: logFlds (s.get DEV_ERRLOG_HEAD)) { s.view.dev with held := s.dev.held ++ [s.firing 487] }) := by
  have takes : takesReset (Work.start s) u = true := Bool.or_eq_true_iff.2 (rests.imp (fun h => decide_eq_true ((Work.get_start _ _).trans h))
    (fun h => decide_eq_true ((Work.get_start _ _).trans h)))
  have run := tileResetWrite_one (w := Work.start s) ((Work.get_start _ _).trans lock) (viaPath via) u
  rw [if_pos takes] at run
  have head : ((Work.start s).set (TRST u) 1).get DEV_ERRLOG_HEAD = s.get DEV_ERRLOG_HEAD :=
    (Work.get_set_ne _ _ _ _ (trst_apart u _ (by decide) (by decide))).trans (Work.get_start _ _)
  have nt : ((Work.start s).set (TRST u) 1).get NT_NOW = s.get NT_NOW := (Work.get_set_ne _ _ _ _ (by
    simp only [Fld.key, TRST, NT_NOW, hid, hidDev]
    omega)).trans (Work.get_start _ _)
  obtain ⟨w, hw, logged, keeps, quiet, dev, fresh⟩ := errlog_effect ((Work.start s).set (TRST u) 1) 0x0A u 2 DEV_TILE_RESET.addr (viaPath via) hs head (by decide) (by omega)
  rw [firing_eq _ 487 rfl nt] at dev
  have shows : w.get (TRST u) = 1 := by
    rw [← hw, get_errlog_of_addr _ _ _ _ _ _ _ (show 0 < 32 by decide) (Or.inr (Or.inl (by simp only [TRST, hid]; omega))), Work.get_set_self]
    rfl
  refine answers_of (F := fun w => tileResetWrite w (viaPath via) (BitVec.ofNat 32 (2 ^ u.val)).toNat) rfl (run.trans hw)
    ⟨(Work.finish_get _ _ hs).trans shows, logged, leaves_finish hs ((keeps _ (List.subset_cons_self _ _)).2 ?_) (quiet.2 ((quiet_set _ _ _).2 (quiet_start s))) dev fresh⟩
  exact (keeps_set _ _ _ _ List.mem_cons_self).2 (keeps_start s _)

theorem resetRefused (hs : s.wf = true) (via : Via) (u : Fin 32) (lock : s.get DEV_STATUS_LOCKSTEP = 0) (halted : s.get (SEQ_STATE_STATE u) ≠ HALTED)
    (released : s.get (SEQ_STATE_STATE u) ≠ NOT_RELEASED) : Answers (.tileReset via (BitVec.ofNat 32 (2 ^ u.val))) s (fun t =>
      Logged s t 2 (viaPath via).code 63 DEV_TILE_RESET.addr ∧
      Leaves s t (logFlds (s.get DEV_ERRLOG_HEAD)) { s.view.dev with held := s.dev.held ++ [s.firing 487] }) := by
  have takes : takesReset (Work.start s) u = false := Bool.or_eq_false_iff.2 ⟨decide_eq_false (fun h => halted ((Work.get_start _ _).symm.trans h)),
    decide_eq_false (fun h => released ((Work.get_start _ _).symm.trans h))⟩
  refine deviceIgnores hs (fun w => tileResetWrite w (viaPath via) (BitVec.ofNat 32 (2 ^ u.val)).toNat) rfl (viaPath via) DEV_TILE_RESET (by decide) ?_
  exact (tileResetWrite_one (w := Work.start s) ((Work.get_start _ _).trans lock) (viaPath via) u).trans (if_neg (by rw [takes]; decide))

theorem resetInLockstep (hs : s.wf = true) (via : Via) (v : BitVec 32) (lock : s.get DEV_STATUS_LOCKSTEP ≠ 0) (some_ : v ≠ 0xFFFFFFFF) :
    Answers (.tileReset via v) s (fun t => Logged s t 2 (viaPath via).code 63 DEV_TILE_RESET.addr ∧
      Leaves s t (logFlds (s.get DEV_ERRLOG_HEAD)) { s.view.dev with held := s.dev.held ++ [s.firing 487] }) := by
  have plain : v.toNat ≠ 0xFFFFFFFF := fun h => some_ (BitVec.eq_of_toNat_eq h)
  exact deviceIgnores hs (fun w => tileResetWrite w (viaPath via) v.toNat) rfl (viaPath via) DEV_TILE_RESET (by decide)
    (if_pos ⟨bne_iff_ne.2 lock, plain⟩)

/-! ## What the loader takes from its queue (R320, R328) -/

/-- What a tile shows of its windows and of the entries that its clasps hold. -/
def held (x : Tile) : Vector (Option Window) 8 × (Nat → List Item) := (x.win, fun c => (vget x.clasps Clasp.reset c).items)

/-- The registers that the loader writes when it takes entries: its own, those of a host queue, and those of the DDR5 channels. -/
def PullFld (g : Fld) : Prop :=
  g ∈ LOADER_STATE_STATE :: LOADER_STATE_SOURCE :: ddrFlds ∨ ∃ t < 32, ∃ i < 128, g = QTAIL t i ∨ g = QT_CNT1_BAD t i

/-- Entries taken, or staged words copied: the registers of K have changed, no window and no clasp, and not TL. -/
structure Pulls (K : Fld → Prop) (w w' : Work s) : Prop where
  regs : Writes K w w'
  tiles : ∀ v, held (w'.tile v) = held (w.tile v)
  tlc : w'.tlc = w.tlc

section

variable {K : Fld → Prop} {w w' : Work s}

theorem Pulls.refl (w : Work s) : Pulls K w w := ⟨Writes.refl w, fun _ => rfl, rfl⟩

theorem Pulls.trans {w'' : Work s} (h : Pulls K w w') (h' : Pulls K w' w'') : Pulls K w w'' :=
  ⟨h.regs.trans h'.regs, fun v => (h'.tiles v).trans (h.tiles v), h'.tlc.trans h.tlc⟩

theorem Pulls.set (h : Pulls K w w') {f : Fld} (hf : K f) (n : Nat) : Pulls K w (w'.set f n) := ⟨h.regs.set f n hf, h.tiles, h.tlc⟩

theorem Pulls.inc (h : Pulls K w w') {f : Fld} (hf : K f) : Pulls K w (w'.inc f) := h.set hf _

theorem Pulls.updLd (h : Pulls K w w') (u : LoaderSt → LoaderSt) : Pulls K w (w'.updLd u) := ⟨h.regs.of_get (fun _ => rfl), h.tiles, h.tlc⟩

theorem Pulls.updTile (h : Pulls K w w') {t : Nat} {u : Tile → Tile} (hu : ∀ x, held (u x) = held x) : Pulls K w (w'.updTile t u) := by
  refine ⟨h.regs.of_get (fun _ => Work.get_updTile _ _ _ _), fun v => ?_, h.tlc⟩
  by_cases same : v = t
  · subst same
    by_cases hv : v < 32
    · rw [tile_updTile_self _ _ _ hv, hu]
      exact h.tiles v
    · rw [Work.updTile, Work.setTile, Work.tile, vset, dif_neg hv]
      exact h.tiles v
  · rw [tile_updTile_ne _ _ _ _ same]
    exact h.tiles v

theorem Pulls.ddrTraffic (h : Pulls K w w') (hK : ∀ g ∈ ddrFlds, K g) (cls : Nat) (write : Bool) (a n : Nat) : Pulls K w (ddrTraffic w' cls write a n) := by
  obtain ⟨-, -, -, tlc, -, dev⟩ := ddrTraffic_onlyDdr w' cls write a n
  refine h.trans ⟨(SwapProofs.ddrTraffic_writes w' cls write a n).mono hK, fun v => ?_, tlc⟩
  rw [Work.tile, dev]
  rfl

end

theorem pull_ddr : ∀ g ∈ ddrFlds, PullFld g := fun _ hg => Or.inl (List.mem_cons_of_mem _ (List.mem_cons_of_mem _ hg))

theorem Pulls.ringRead {w w' : Work s} (h : Pulls PullFld w w') (t i seq : Nat) : Pulls PullFld w (ringRead w' t i seq) := h.ddrTraffic pull_ddr _ _ _ _

section

variable {w w' : Work s} {t i : Nat} (ht : t < 32) (hi : i < 128)

include ht hi

theorem pull_tail : PullFld (QTAIL t i) := Or.inr ⟨t, ht, i, hi, Or.inl rfl⟩

theorem pull_bad : PullFld (QT_CNT1_BAD t i) := Or.inr ⟨t, ht, i, hi, Or.inr rfl⟩

theorem Pulls.qSkipGaps (h : Pulls PullFld w w') (gs : List PeerGap) : Pulls PullFld w (qSkipGaps w' t i gs) := by
  induction gs generalizing w' with
  | nil => exact h
  | cons g gs ih =>
    rw [Machine.qSkipGaps]
    split
    · exact ih ((h.set (pull_tail ht hi) _).updTile (fun _ => rfl))
    · exact ih h

theorem Pulls.qTakeLoop (h : Pulls PullFld w w') (accept : Nat → Bool) (n : Nat) : Pulls PullFld w (qTakeLoop t i accept n w').2 := by
  induction n generalizing w' with
  | zero => exact h
  | succ n ih =>
    have skipped := h.qSkipGaps ht hi (w'.tile t).gaps
    simp only [Machine.qTakeLoop]
    split
    · exact skipped
    · split
      · exact (skipped.ringRead t i _).set (pull_tail ht hi) _
      · exact ih (((skipped.ringRead t i _).set (pull_tail ht hi) _).inc (pull_bad ht hi))

theorem Pulls.qTake (h : Pulls PullFld w w') (accept : Nat → Bool) : Pulls PullFld w (qTake w' t i accept).2 := by
  have loop := h.qTakeLoop ht hi accept (qFill w' t i)
  rw [Machine.qTake]
  dsimp only
  split
  · exact loop
  · rw [peerCredit, if_pos (by omega)]
    exact loop

end

theorem imageQueue_lt {w : Work s} {t i : Nat} (h : imageQueue w = some (t, i)) : t < 32 ∧ i < 128 := by
  obtain ⟨t', ht, mem⟩ := List.mem_flatMap.1 (List.mem_of_find?_eq_some h)
  obtain ⟨i', hi, same⟩ := List.mem_map.1 mem
  obtain ⟨rfl, rfl⟩ := Prod.mk.inj same
  exact ⟨List.mem_range.1 ht, List.mem_range.1 hi⟩

section

variable {w w' : Work s}

theorem Pulls.imageEntry (h : Pulls PullFld w w') : Pulls PullFld w (imageEntry w').2 := by
  rw [Machine.imageEntry]
  cases queue : imageQueue w' with
  | none => exact h
  | some q => exact h.qTake (imageQueue_lt queue).1 (imageQueue_lt queue).2 _

theorem Pulls.loaderStep (h : Pulls PullFld w w') : Pulls PullFld w (loaderStep w').2 := by
  have entry := h.imageEntry
  have state : PullFld LOADER_STATE_STATE ∧ PullFld LOADER_STATE_SOURCE := ⟨Or.inl (by simp), Or.inl (by simp)⟩
  simp only [Machine.loaderStep]
  cases he : Machine.imageEntry w' with
  | mk b w'' =>
    rw [he] at entry
    have both : ∀ (f : Work s → List Byte → Work s), (∀ b, Pulls PullFld w (f w'' b)) → Pulls PullFld w (match (b, w'') with
        | (some b, w) => (true, f w b)
        | (none, w) => (false, w)).2 := fun f hf => by
      cases b with
      | none => exact entry
      | some b => exact hf b
    split
    · exact h
    · split
      · exact both _ (fun _ => entry)
      · split
        · exact both _ (fun _ => (((entry.set state.1 _).set state.2 _).updLd _).updLd _)
        · split
          · split
            · exact h
            · exact both _ (fun _ => entry.updLd _)
          · exact h

theorem Pulls.loaderPull (h : Pulls PullFld w w') : Pulls PullFld w (loaderPull w') := by
  have take : ∀ n (w'' : Work s), Pulls PullFld w w'' → Pulls PullFld w (loaderTake n w'') := fun n => by
    induction n with
    | zero => exact fun _ h => h
    | succ n ih =>
      intro w'' h
      rw [loaderTake]
      dsimp only
      split
      · exact ih _ h.loaderStep
      · exact h.loaderStep
  rw [Machine.loaderPull]
  split
  · exact h
  · exact take _ _ h

/-- The loader may leave SWAPPING, and goes on with what the host sends. -/
theorem Pulls.swapsOver (h : Pulls PullFld w w') : Pulls PullFld w (swapsOver w') := by
  rw [Machine.swapsOver]
  split
  · exact (((h.set (Or.inl (by simp)) _).set (Or.inl (by simp)) _).updLd _).loaderPull
  · exact h

end

/-! ## The copy of the staged words (R320) -/

theorem wrBytes_pulls {K : Fld → Prop} {w w' : Work s} (h : Pulls K w w') (a : Nat) (bs : List Byte) : Pulls K w (w'.wrBytes a bs) := by
  induction bs generalizing w' a with
  | nil => exact h
  | cons b bs ih =>
    rw [Work.wrBytes]
    exact ih (w' := w'.wr8 a b) ⟨h.regs.of_get (fun _ => rfl), h.tiles, h.tlc⟩ _

/-- One staged word copied, or written with bad parity where its channel has faulted. -/
def wordCopied (faulted : Bool) (t : Nat) (w : Work s) (a : Nat) : Work s :=
  if faulted then (w.free 220).2.wrLe (csBase t + 32 * a) 28 (badParity (w.free 220).1)
  else (ddrTraffic w 1 false (stageAddr w t a) 32).wrBytes (csBase t + 32 * a) (w.rdBytes (stageAddr w t a) 28)

theorem wordCopied_pulls {w w' : Work s} (h : Pulls (· ∈ ddrFlds) w w') (faulted : Bool) (t a : Nat) : Pulls (· ∈ ddrFlds) w (wordCopied faulted t w' a) := by
  rw [wordCopied]
  cases faulted with
  | true => exact wrBytes_pulls (w' := (w'.free 220).2) ⟨h.regs.of_get (fun _ => rfl), h.tiles, h.tlc⟩ _ _
  | false => exact wrBytes_pulls (h.ddrTraffic (fun _ hg => hg) _ _ _ _) _ _

/-- The staged words of a tile in its control store. -/
def wordsCopied (w : Work s) (t : Nat) : Work s :=
  w.each (w.ld.code.filter (fun c => decide (c.1 = t))) (fun w' c => wordCopied (decide (w.get (DDR_STATUS_STATE (w.get LOADER_STAGE_CHAN)) = 4)) t w' c.2)

theorem swapCopy_def (w : Work s) (t : Nat) : swapCopy w t =
    ((wordsCopied w t).updLd (fun l => { l with code := l.code.filter (fun c => !decide (c.1 = t)) })).setBit LOADER_SWAP_PEND t false := rfl

theorem wordsCopied_pulls (w : Work s) (t : Nat) : Pulls (· ∈ ddrFlds) w (wordsCopied w t) := by
  rw [wordsCopied]
  exact Work.each_keeps (Pulls (· ∈ ddrFlds) w) _ (fun _ _ h => wordCopied_pulls h _ t _) _ w (Pulls.refl w)

/-! ## The run state of a release (R45, R114, R154, R166, R216) -/

/-- Where the registers lie that a release clears: of the sequencer, of the pending latches, of the datapath, of the watchers and of the rounds. -/
def RunFld (u : Nat) (g : Fld) : Prop :=
  g.lo < 32 ∧ ((∃ k, g.addr = tileBase u + k ∧ (k < 8 ∨ (0x28 ≤ k ∧ k < 0x40) ∨ (0x870 ≤ k ∧ k < 0x878) ∨ (0x4000 ≤ k ∧ k < 0x7000))) ∨
    ∃ k, g.addr = 2 ^ 40 + u * 2 ^ 24 + k ∧ ((0x21C ≤ k ∧ k < 0x224) ∨ k = 0x240))

/-- Registers of the run state of tile u cleared: what was 0 is 0, and of the tile nothing has changed that φ shows. -/
structure Cleared {α : Type} (u : Nat) (φ : Tile → α) (w w' : Work s) : Prop where
  tile : TileLocal (RunFld u) u φ w w'
  zeros : ∀ f : Fld, f.reset = 0 → w.get f = 0 → w'.get f = 0
  tlc : w'.tlc = w.tlc

section

variable {α : Type} {u : Nat} {φ : Tile → α} {w w' : Work s}

theorem Cleared.refl (w : Work s) : Cleared u φ w w := ⟨TileLocal.refl w, fun _ _ h => h, rfl⟩

theorem Cleared.trans {w'' : Work s} (h : Cleared u φ w w') (h' : Cleared u φ w' w'') : Cleared u φ w w'' :=
  ⟨⟨tileWork_trans h.tile.1 h'.tile.1, fun v hv => (h'.tile.2.1 v hv).trans (h.tile.2.1 v hv), h'.tile.2.2.trans h.tile.2.2⟩,
    fun f hf z => h'.zeros f hf (h.zeros f hf z), h'.tlc.trans h.tlc⟩

/-- A field set to 0 is 0, and another that was stays so. -/
theorem zero_set (w : Work s) {f g : Fld} (hf : f.reset = 0) (hg : g.reset = 0) (h : w.get f = 0 ∨ f = g) : (w.set g 0).get f = 0 := by
  rw [Work.get_set, Nat.zero_mod, hf, hg]
  split
  · rfl
  next ne => exact h.elim id (fun same => absurd (congrArg Fld.key same) ne)

theorem Cleared.zero (h : Cleared u φ w w') {g : Fld} (place : RunFld u g) (hg : g.reset = 0) : Cleared u φ w (w'.set g 0) :=
  ⟨h.tile.set g 0 place, fun _ hf z => zero_set w' hf hg (Or.inl (h.zeros _ hf z)), h.tlc⟩

theorem Cleared.updTile (h : Cleared u φ w w') {f : Tile → Tile} (hf : ∀ x, φ (f x) = φ x) : Cleared u φ w (w'.updTile u f) :=
  ⟨h.tile.updTile f hf, fun g hg z => (Work.get_updTile _ _ _ _).trans (h.zeros g hg z), h.tlc⟩

theorem Cleared.each {β : Type} (h : Cleared u φ w w') (f : Work s → β → Work s) (l : List β) (hf : ∀ w'' x, x ∈ l → Cleared u φ w w'' → Cleared u φ w (f w'' x)) :
    Cleared u φ w (w'.each l f) := by
  induction l generalizing w' with
  | nil => exact h
  | cons x l ih => exact ih (hf _ _ List.mem_cons_self h) (fun w'' y hy => hf w'' y (List.mem_cons_of_mem _ hy))

/-- A field that one turn of a loop clears is 0 behind the loop. -/
theorem zero_each {β : Type} (f : Work s → β → Work s) (l : List β) {g : Fld} (keeps : ∀ w x, w.get g = 0 → (f w x).get g = 0)
    {y : β} (mem : y ∈ l) (clears : ∀ w, (f w y).get g = 0) (w : Work s) : (w.each l f).get g = 0 := by
  induction l generalizing w with
  | nil => exact absurd mem List.not_mem_nil
  | cons x l ih =>
    rcases List.mem_cons.1 mem with rfl | mem
    · exact Work.each_keeps (fun w => w.get g = 0) f keeps l _ (clears w)
    · exact ih mem _

end

section

variable {α : Type} {u : Nat} {φ : Tile → α}

theorem seqClear_cleared (hφ : ∀ (x : Tile) q, φ { x with seq := q } = φ x) (w : Work s) : Cleared u φ w (seqClear w u) := by
  have places : (∀ i < 16, RunFld u (EVPORT_PEND_GEN_SET u (i / 8) (i % 8)) ∧ RunFld u (EVPORT_PEND_GEN_GEN u (i / 8) (i % 8))) ∧
      (∀ n < 4, RunFld u (SEQ_LC u n)) := by
    simp only [RunFld, EVPORT_PEND_GEN_SET, EVPORT_PEND_GEN_GEN, SEQ_LC]
    refine ⟨fun i hi => ⟨⟨by omega, Or.inl ⟨0x870 + 4 * (i / 8), by omega, by omega⟩⟩, by omega, Or.inl ⟨0x870 + 4 * (i / 8), by omega, by omega⟩⟩,
      fun n hn => ⟨by omega, Or.inl ⟨0x30 + 4 * n, by omega, by omega⟩⟩⟩
  have own : RunFld u (EVPORT_GEN_CUR_VALID u) ∧ RunFld u (EVPORT_GEN_CUR u) ∧ RunFld u (SEQ_SP u) ∧ RunFld u (SEQ_STATE_ACTIVE u) ∧
      RunFld u (SEQ_STATE_STEPPING u) ∧ RunFld u (SEQ_CTRL_STOP u) := by
    simp only [RunFld, EVPORT_GEN_CUR_VALID, EVPORT_GEN_CUR, SEQ_SP, SEQ_STATE_ACTIVE, SEQ_STATE_STEPPING, SEQ_CTRL_STOP]
    exact ⟨⟨by omega, Or.inr ⟨0x240, rfl, Or.inr rfl⟩⟩, ⟨by omega, Or.inr ⟨0x240, rfl, Or.inr rfl⟩⟩, ⟨by omega, Or.inl ⟨0x28, rfl, by omega⟩⟩,
      ⟨by omega, Or.inl ⟨0x4, rfl, by omega⟩⟩, ⟨by omega, Or.inl ⟨0x4, rfl, by omega⟩⟩, ⟨by omega, Or.inl ⟨0, rfl, by omega⟩⟩⟩
  obtain ⟨pend, loops⟩ := places
  obtain ⟨valid, cur, sp, active, stepping, stop⟩ := own
  have latches := (Cleared.refl (u := u) (φ := φ) w).each (fun w i => (w.set (EVPORT_PEND_GEN_SET u (i / 8) (i % 8)) 0).set (EVPORT_PEND_GEN_GEN u (i / 8) (i % 8)) 0)
    (List.range 16) (fun _ i hi h => (h.zero (pend i (List.mem_range.1 hi)).1 rfl).zero (pend i (List.mem_range.1 hi)).2 rfl)
  have counters := ((latches.zero valid rfl).zero cur rfl).each (fun w n => w.set (SEQ_LC u n) 0) (List.range 4)
    (fun _ n hn h => h.zero (loops n (List.mem_range.1 hn)) rfl)
  exact ((((counters.zero sp rfl).zero active rfl).zero stepping rfl).zero stop rfl).updTile (fun x => hφ x _)

/-- The pending latches cleared. -/
def latchesClear (w : Work s) (u : Nat) : Work s := w.each (List.range 16) (fun w i =>
  (w.set (EVPORT_PEND_GEN_SET u (i / 8) (i % 8)) 0).set (EVPORT_PEND_GEN_GEN u (i / 8) (i % 8)) 0)

/-- The loop counters cleared. -/
def countersClear (w : Work s) (u : Nat) : Work s := w.each (List.range 4) (fun w n => w.set (SEQ_LC u n) 0)

theorem seqClear_def (w : Work s) : seqClear w u = ((((((countersClear (((latchesClear w u).set (EVPORT_GEN_CUR_VALID u) 0).set (EVPORT_GEN_CUR u) 0) u).set (SEQ_SP u) 0).set
    (SEQ_STATE_ACTIVE u) 0).set (SEQ_STATE_STEPPING u) 0).set (SEQ_CTRL_STOP u) 0).updSeq u (fun q => { SeqSt.reset with cursor := q.cursor, next := q.next })) := rfl

theorem seqClear_zero (w : Work s) : (seqClear w u).get (SEQ_SP u) = 0 ∧ (∀ n < 4, (seqClear w u).get (SEQ_LC u n) = 0) ∧
    ∀ i < 16, (seqClear w u).get (EVPORT_PEND_GEN_SET u (i / 8) (i % 8)) = 0 := by
  have tail : ∀ (v : Work s) (f : Fld), f.reset = 0 → v.get f = 0 ∨ f = SEQ_SP u → (((((v.set (SEQ_SP u) 0).set (SEQ_STATE_ACTIVE u) 0).set (SEQ_STATE_STEPPING u) 0).set
      (SEQ_CTRL_STOP u) 0).updSeq u (fun q => { SeqSt.reset with cursor := q.cursor, next := q.next })).get f = 0 := fun v f hf h => by
    rw [Work.get_updSeq]
    exact zero_set _ hf rfl (Or.inl (zero_set _ hf rfl (Or.inl (zero_set _ hf rfl (Or.inl (zero_set _ hf rfl h))))))
  rw [seqClear_def]
  refine ⟨tail _ _ rfl (Or.inr rfl), fun n hn => tail _ _ rfl (Or.inl ?_), fun i hi => tail _ _ rfl (Or.inl ?_)⟩
  · exact zero_each (fun w n => w.set (SEQ_LC u n) 0) _ (fun _ _ h => zero_set _ rfl rfl (Or.inl h)) (List.mem_range.2 hn) (fun _ => zero_set _ rfl rfl (Or.inr rfl)) _
  · refine Work.each_keeps (fun w => w.get (EVPORT_PEND_GEN_SET u (i / 8) (i % 8)) = 0) (fun w n => w.set (SEQ_LC u n) 0) (fun _ _ h => zero_set _ rfl rfl (Or.inl h)) _ _ ?_
    refine zero_set _ rfl rfl (Or.inl (zero_set _ rfl rfl (Or.inl ?_)))
    exact zero_each (fun w i => (w.set (EVPORT_PEND_GEN_SET u (i / 8) (i % 8)) 0).set (EVPORT_PEND_GEN_GEN u (i / 8) (i % 8)) 0) _
      (fun _ _ h => zero_set _ rfl rfl (Or.inl (zero_set _ rfl rfl (Or.inl h)))) (List.mem_range.2 hi) (fun _ => zero_set _ rfl rfl (Or.inl (zero_set _ rfl rfl (Or.inr rfl)))) _

theorem dspClear_cleared (hφ : ∀ (x : Tile) d, φ { x with dspIn := d } = φ x) (w : Work s) : Cleared u φ w (dspClear w u) := by
  have vecs : ∀ v < 8, ∀ j < 4, RunFld u (DSP_V u v j) := fun v hv j hj =>
    ⟨by simp only [DSP_V]; omega, Or.inl ⟨0x5100 + 0x10 * v + 0x4 * j, by simp only [DSP_V]; omega, by omega⟩⟩
  have accs : ∀ n < 4, RunFld u (DSP_ACC u n) ∧ RunFld u (DSP_ACC_HI_TAINT u n) ∧ RunFld u (DSP_ACC_HI_HOLD u n) ∧ RunFld u (DSP_SIDX u n) ∧ RunFld u (SEARCH_BASE u n) ∧
      RunFld u (DSP_AGU_P u n) ∧ RunFld u (DSP_AGU_M u n) ∧ RunFld u (DSP_AGU_B u n) ∧ RunFld u (DSP_AGU_L u n) := fun n hn => by
    simp only [RunFld, DSP_ACC, DSP_ACC_HI_TAINT, DSP_ACC_HI_HOLD, DSP_SIDX, SEARCH_BASE, DSP_AGU_P, DSP_AGU_M, DSP_AGU_B, DSP_AGU_L, hid]
    exact ⟨⟨by omega, Or.inr ⟨0x220 + n, by omega, by omega⟩⟩, ⟨by omega, Or.inl ⟨0x5024 + 0x8 * n, by omega, by omega⟩⟩,
      ⟨by omega, Or.inl ⟨0x5024 + 0x8 * n, by omega, by omega⟩⟩, ⟨by omega, Or.inl ⟨0x5040 + 0x4 * n, by omega, by omega⟩⟩,
      ⟨by omega, Or.inr ⟨0x21C + n, by omega, by omega⟩⟩, ⟨by omega, Or.inl ⟨0x5060 + 0x10 * n, by omega, by omega⟩⟩,
      ⟨by omega, Or.inl ⟨0x5064 + 0x10 * n, by omega, by omega⟩⟩, ⟨by omega, Or.inl ⟨0x5068 + 0x10 * n, by omega, by omega⟩⟩,
      ⟨by omega, Or.inl ⟨0x506C + 0x10 * n, by omega, by omega⟩⟩⟩
  have flags : RunFld u (DSP_VTAG u) ∧ RunFld u (DSP_FLAGS_IDX u) ∧ RunFld u (DSP_FLAGS_N u) ∧ RunFld u (DSP_FLAGS_Z u) := by
    simp only [RunFld, DSP_VTAG, DSP_FLAGS_IDX, DSP_FLAGS_N, DSP_FLAGS_Z]
    exact ⟨⟨by omega, Or.inl ⟨0x5018, rfl, by omega⟩⟩, ⟨by omega, Or.inl ⟨0x5004, rfl, by omega⟩⟩, ⟨by omega, Or.inl ⟨0x5004, rfl, by omega⟩⟩,
      ⟨by omega, Or.inl ⟨0x5004, rfl, by omega⟩⟩⟩
  obtain ⟨vtag, idx, n, z⟩ := flags
  have vectors := (Cleared.refl (u := u) (φ := φ) w).each (fun w v => w.each (List.range 4) (fun w j => w.set (DSP_V u v j) 0)) (List.range 8)
    (fun _ v hv h => h.each _ _ (fun _ j hj h => h.zero (vecs v (List.mem_range.1 hv) j (List.mem_range.1 hj)) rfl))
  rw [dspClear]
  refine Cleared.updTile ((((Cleared.zero (vectors.each _ _ (fun _ k hk h => ?_)) vtag rfl).zero idx rfl).zero n rfl).zero z rfl) (fun x => hφ x _)
  obtain ⟨acc, taint, hold, sidx, base, p, m, b, l⟩ := accs k (List.mem_range.1 hk)
  exact ((((((((h.zero acc rfl).zero taint rfl).zero hold rfl).zero sidx rfl).zero base rfl).zero p rfl).zero m rfl).zero b rfl).zero l rfl

theorem watchersClear_cleared (hφ : ∀ (x : Tile) watch arms, φ { x with watch, arms } = φ x) (w : Work s) : Cleared u φ w (watchersClear w u) := by
  have keys : ∀ d < 16, ∀ i < 4, RunFld u (WATCH_KEY_EXPECT u d i) ∧ RunFld u (WATCH_KEY_CAPTURED u d i) := fun d hd i hi => by
    simp only [RunFld, WATCH_KEY_EXPECT, WATCH_KEY_CAPTURED]
    exact ⟨⟨by omega, Or.inl ⟨0x6800 + 0x20 * d + 0x4 * i, by omega, by omega⟩⟩, ⟨by omega, Or.inl ⟨0x6800 + 0x20 * d + 0x4 * i, by omega, by omega⟩⟩⟩
  have status : ∀ d < 16, RunFld u (WATCH_STATUS_RESOLVED u d) ∧ RunFld u (WATCH_STATUS_OPTION u d) ∧ RunFld u (WATCH_STATUS_FLAGGED u d) := fun d hd => by
    simp only [RunFld, WATCH_STATUS_RESOLVED, WATCH_STATUS_OPTION, WATCH_STATUS_FLAGGED]
    exact ⟨⟨by omega, Or.inl ⟨0x6818 + 0x20 * d, by omega, by omega⟩⟩, ⟨by omega, Or.inl ⟨0x6818 + 0x20 * d, by omega, by omega⟩⟩,
      ⟨by omega, Or.inl ⟨0x6818 + 0x20 * d, by omega, by omega⟩⟩⟩
  have fence : RunFld u (FB_FENCE_WAITING u) := ⟨by simp only [FB_FENCE_WAITING]; omega, Or.inl ⟨0x6A04, rfl, by omega⟩⟩
  have watch : ∀ (x : Tile) v, φ { x with watch := v } = φ x := fun x v => hφ x v x.arms
  rw [watchersClear]
  refine Cleared.updTile (Cleared.zero ((Cleared.refl w).each _ _ (fun _ d hd h => ?_)) fence rfl) (fun x => hφ x x.watch _)
  obtain ⟨resolved, option, flagged⟩ := status d (List.mem_range.1 hd)
  have expects := h.each (fun w i => w.set (WATCH_KEY_EXPECT u d i) 0) (List.range 4) (fun _ i hi h => h.zero (keys d (List.mem_range.1 hd) i (List.mem_range.1 hi)).1 rfl)
  have captures := expects.each (fun w i => w.set (WATCH_KEY_CAPTURED u d i) 0) (List.range 4)
    (fun _ i hi h => h.zero (keys d (List.mem_range.1 hd) i (List.mem_range.1 hi)).2 rfl)
  exact ((((captures.zero resolved rfl).zero option rfl).zero flagged rfl).updTile (fun x => watch x _)).updTile (fun x => watch x _)

end

/-- What a tile shows of its windows, its entries and its input queue. -/
def heldIn (x : Tile) : (Vector (Option Window) 8 × (Nat → List Item)) × List InResult := (held x, x.dspIn)

theorem dspClear_in {u : Nat} (hu : u < 32) (w : Work s) : ((dspClear w u).tile u).dspIn = [] := by
  rw [dspClear, tile_updTile_self _ _ _ hu]

theorem watchersClear_arms {u : Nat} (hu : u < 32) (w : Work s) : ((watchersClear w u).tile u).arms = [] := by
  rw [watchersClear, tile_updTile_self _ _ _ hu]

theorem vget_map {α β : Type} {n : Nat} (v : Vector α n) (f : α → β) (d : α) (e : β) (i : Nat) (he : e = f d) : vget (v.map f) e i = f (vget v d i) := by
  rw [vget, vget]
  by_cases hi : i < n
  · rw [dif_pos hi, dif_pos hi, Vector.getElem_map]
  · rw [dif_neg hi, dif_neg hi, he]

theorem histClear_held (x : Tile) : held { x with clasps := x.clasps.map (fun k => { k with hist := [] }) } = held x := by
  refine Prod.ext rfl (funext fun c => ?_)
  exact (congrArg Clasp.items (vget_map x.clasps (fun k => { k with hist := [] }) Clasp.reset Clasp.reset c rfl)).trans rfl

/-- What a run state that has been cleared shows of its tile. -/
theorem runClear_shows {u : Nat} (hu : u < 32) (w : Work s) :
    Cleared u held w (runClear w u) ∧ (runClear w u).get (SEQ_SP u) = 0 ∧ (∀ n < 4, (runClear w u).get (SEQ_LC u n) = 0) ∧
    (∀ i < 16, (runClear w u).get (EVPORT_PEND_GEN_SET u (i / 8) (i % 8)) = 0) ∧ (∀ k < 8, (runClear w u).get (RD_STATUS_ROUND u k) = 0) ∧
    ((runClear w u).tile u).dspIn = [] ∧ ((runClear w u).tile u).arms = [] := by
  have rounds : ∀ k < 8, RunFld u (RD_STATUS_ROUND u k) := fun k hk => ⟨by simp only [RD_STATUS_ROUND]; omega, Or.inl ⟨0x4080 + 0x100 * k, by simp only [RD_STATUS_ROUND]; omega, by omega⟩⟩
  have seq : Cleared u held w (seqClear w u) := seqClear_cleared (fun _ _ => rfl) w
  obtain ⟨sp, loops, latches⟩ := seqClear_zero (u := u) w
  have dsp : Cleared u held (seqClear w u) (dspClear (seqClear w u) u) := dspClear_cleared (fun _ _ => rfl) _
  have inputs := dspClear_in hu (seqClear w u)
  have watchers : Cleared u heldIn (dspClear (seqClear w u) u) (watchersClear (dspClear (seqClear w u) u) u) := watchersClear_cleared (fun _ _ _ => rfl) _
  have arms := watchersClear_arms hu (dspClear (seqClear w u) u)
  rw [runClear]
  generalize seqClear w u = a at *
  generalize dspClear a u = b at *
  generalize watchersClear b u = c at *
  have hist : Cleared u (fun x => (heldIn x, x.arms)) c (histClear c u) := (Cleared.refl c).updTile (fun x =>
    Prod.ext (Prod.ext (histClear_held x) rfl) rfl)
  generalize histClear c u = d at *
  have last : Cleared u (fun x => (heldIn x, x.arms)) d (d.each (List.range 8) (fun w k => w.set (RD_STATUS_ROUND u k) 0)) := (Cleared.refl d).each _ _
    (fun _ k hk h => h.zero (rounds k (List.mem_range.1 hk)) rfl)
  have done : ∀ k < 8, (d.each (List.range 8) (fun w k => w.set (RD_STATUS_ROUND u k) 0)).get (RD_STATUS_ROUND u k) = 0 := fun k hk =>
    zero_each (fun w k => w.set (RD_STATUS_ROUND u k) 0) _ (fun _ _ h => zero_set _ rfl rfl (Or.inl h)) (List.mem_range.2 hk) (fun _ => zero_set _ rfl rfl (Or.inr rfl)) d
  generalize d.each (List.range 8) (fun w k => w.set (RD_STATUS_ROUND u k) 0) = e at *
  have zeros : ∀ f : Fld, f.reset = 0 → a.get f = 0 → e.get f = 0 := fun f hf h => last.zeros f hf (hist.zeros f hf (watchers.zeros f hf (dsp.zeros f hf h)))
  have tail := hist.trans last
  have shows := tail.tile.2.2
  simp only [heldIn, Prod.mk.injEq] at shows
  obtain ⟨⟨items, dspIn⟩, arms'⟩ := shows
  have mid := watchers.tile.2.2
  simp only [heldIn, Prod.mk.injEq] at mid
  obtain ⟨itemsMid, dspMid⟩ := mid
  have all : Cleared u held c e := ⟨⟨tail.tile.1, tail.tile.2.1, items⟩, tail.zeros, tail.tlc⟩
  have half : Cleared u held b c := ⟨⟨watchers.tile.1, watchers.tile.2.1, itemsMid⟩, watchers.zeros, watchers.tlc⟩
  exact ⟨((seq.trans dsp).trans half).trans all, zeros _ rfl sp, fun n hn => zeros _ rfl (loops n hn), fun i hi => zeros _ rfl (latches i hi), done,
    dspIn.trans (dspMid.trans inputs), arms'.trans arms⟩

/-! ## The reset acts (R54, R446) -/

/-- An abort from frame 0 that has completed, without a cut behind it. -/
def abortedNow (w : Work s) (u : Nat) : Work s := effected ((abortFrom w u 0).updSeq u (fun q => { q with cutPending := false })) u ((abortFrom w u 0).get (ABORT_E u))

/-- The acquisition unit idle, with nothing before it. -/
def captureIdle (w : Work s) (u : Nat) : Work s := (capIdle w u).updCap u (fun x => { x with garms := [], future := [] })

/-- The windows abandoned and the acquisition unit idle. -/
def unitIdle (w : Work s) (u : Nat) : Work s := captureIdle (abandonWindows w u) u

/-- A code swap that was pending brought to its end. -/
def swapEnded (w : Work s) (u : Nat) : Work s := if w.getBit LOADER_SWAP_PEND u then swapsOver (swapCopy w u) else w

/-- The tile NOT_RELEASED, and the device without a released tile where it was the last. -/
def shownEnded (w : Work s) (u : Nat) : Work s :=
  if (List.range 32).all (fun t => decide (((w.set (SEQ_STATE_STATE u) NOT_RELEASED).set (TRST u) 0).get (SEQ_STATE_STATE t) = NOT_RELEASED)) then
    ((w.set (SEQ_STATE_STATE u) NOT_RELEASED).set (TRST u) 0).set DEV_STATUS_TILES_RELEASED 0
  else (w.set (SEQ_STATE_STATE u) NOT_RELEASED).set (TRST u) 0

theorem abortFrom_busy (w : Work s) (u : Fin 32) : (abortFrom w u 0).get (CLASP_ABORT_CTRL_BUSY u) = 1 :=
  (congrArg (fun v => Work.get v (CLASP_ABORT_CTRL_BUSY u)) (abortFrom_eq w u 0)).trans (aborted_get _ u _ _).2.1

theorem abortFrom_effective (w : Work s) (u : Fin 32) : (abortFrom w u 0).get (ABORT_E u) = abortFrame w 0 % 2 ^ 64 :=
  (congrArg (fun v => Work.get v (ABORT_E u)) (abortFrom_eq w u 0)).trans (aborted_get _ u _ _).2.2

theorem abortFrom_clasps (w : Work s) (u : Fin 32) {c : Nat} (hc : c < 33) : (abortFrom w u 0).clasp u c = claspBefore (abortFrame w 0) (w.clasp u c) :=
  (congrArg (fun x : Tile => vget x.clasps Clasp.reset c) (aborted_tile (discardFrom w u (abortFrame w 0)) u.isLt _ _)).trans (discardFrom_clasp w u.isLt _ hc)

theorem effected_calm (v : Work s) (u : Fin 32) (e : Nat) : ((effected (v.updSeq u (fun q => { q with cutPending := false })) u e).seq u).cutPending = false :=
  congrArg SeqSt.cutPending (seq_updSeq v u (fun q => { q with cutPending := false }) u.isLt)

theorem abortComplete_calm {v : Work s} {u : Fin 32} (busy : v.get (CLASP_ABORT_CTRL_BUSY u) = 1) :
    abortComplete (v.updSeq u (fun q => { q with cutPending := false })) u = effected (v.updSeq u (fun q => { q with cutPending := false })) u (v.get (ABORT_E u)) := by
  rw [abortComplete_busy (by rw [Work.get_updSeq, busy]; decide), Work.get_updSeq, effected_calm, if_neg Bool.false_ne_true]

theorem abortComplete_now (w : Work s) (u : Fin 32) :
    abortComplete ((abortFrom w u 0).updSeq u (fun q => { q with cutPending := false })) u = abortedNow w u := abortComplete_calm (abortFrom_busy w u)

theorem tileResetComplete_eq {w : Work s} {u : Fin 32} (asked : w.get (TRST u) ≠ 0) (recording : w.get (CAP_STATE_STATE u) ≠ RECORDING)
    (rearm : w.get (CAP_STATE_STATE u) ≠ REARM) (idle : w.get (CLASP_ABORT_CTRL_BUSY u) = 0) :
    tileResetComplete w u = shownEnded (runClear (swapEnded (unitIdle (abortedNow w u) u) u) u) u := by
  have free : (!w.on (CLASP_ABORT_CTRL_BUSY u)) = true := by
    rw [Work.on, idle]
    rfl
  rw [tileResetComplete, if_pos ⟨bne_iff_ne.2 asked, recording, rearm, free⟩, abortComplete_now]
  rfl

/-- The registers that a tile reset writes before the run state. -/
def abortFlds (u : Nat) : List Fld :=
  [CLASP_ABORT_CTRL_GEN u, CLASP_ABORT_CTRL_BUSY u, ABORT_E u, CLASP_ABORT_EFF_LO u, CLASP_ABORT_EFF_HI u, CAP_STATE_STATE u, CAP_STATE_PVALID u] ++
    (List.range 8).map (RD_STATUS_OPEN u)

/-- The registers that a reset reads or keeps behind its abort. -/
def haltFlds (u : Nat) : List Fld := [SEQ_HALT_INFO_CAUSE u, SEQ_HALT_INFO_ADDR u, SEQ_HALT_INFO_PARGRP u, SEQ_RESTART u]

theorem halt_apart : ∀ u : Fin 32, (∀ f ∈ LOADER_SWAP_PEND :: haltFlds u, ∀ g ∈ abortFlds u, f.key ≠ g.key) ∧
    (∀ f ∈ [CLASP_ABORT_CTRL_BUSY u, CLASP_ABORT_EFF_LO u], ∀ g ∈ CAP_STATE_STATE u :: CAP_STATE_PVALID u :: (List.range 8).map (RD_STATUS_OPEN u), f.key ≠ g.key) ∧
    (CAP_STATE_STATE u).key ≠ (CAP_STATE_PVALID u).key ∧ (ABORT_E u).key ≠ (CLASP_ABORT_CTRL_BUSY u).key := by decide +kernel

/-- What stands before a pending code swap is brought to its end. -/
structure Idled (s : State) (u : Nat) (w : Work s) : Prop where
  tile : TileLocal (· ∈ abortFlds u) u (fun _ => ()) (Work.start s) w
  busy : w.get (CLASP_ABORT_CTRL_BUSY u) = 0
  effective : w.get (CLASP_ABORT_EFF_LO u) = (s.tl.count + 12) % 2 ^ 32
  unit : w.get (CAP_STATE_STATE u) = 0 ∧ w.get (CAP_STATE_PVALID u) = 0
  windows : ∀ k < 8, vget (held (w.tile u)).1 none k = none
  entries : ∀ c < 33, ∀ i ∈ (held (w.tile u)).2 c, ∀ h ∈ i.members, h.entry.stamp < s.tl.count + 12

theorem mem_claspBefore {e : Nat} {k : Clasp} {i : Item} (hi : i ∈ (claspBefore e k).items) {h : HeldEntry} (hh : h ∈ i.members) : h.entry.stamp < e := by
  have mem : h ∈ (k.items.filterMap (thinned (fun h => decide (h.entry.stamp < e)))).flatMap Item.members := List.mem_flatMap.2 ⟨i, hi, hh⟩
  rw [members_thinned] at mem
  exact of_decide_eq_true (List.mem_filter.1 mem).2

/-- An abort that completes at once, by what its tile and its registers show. -/
theorem completed_shows {v : Work s} {u : Fin 32} {e : Nat} (local_ : TileLocal (· ∈ abortFlds u) u (fun _ => ()) (Work.start s) v) (effect : v.get (ABORT_E u) = e % 2 ^ 64)
    (entries : ∀ c < 33, ∀ i ∈ (v.clasp u c).items, ∀ h ∈ i.members, h.entry.stamp < e) :
    let w := effected (v.updSeq u (fun q => { q with cutPending := false })) u (v.get (ABORT_E u))
    TileLocal (· ∈ abortFlds u) u (fun _ => ()) (Work.start s) w ∧ w.get (CLASP_ABORT_CTRL_BUSY u) = 0 ∧ w.get (CLASP_ABORT_EFF_LO u) = e % 2 ^ 32 ∧
    ∀ c < 33, ∀ i ∈ (w.clasp u c).items, ∀ h ∈ i.members, h.entry.stamp < e := by
  intro w
  have tile : (v.updSeq u (fun q => { q with cutPending := false })).tile u = { v.tile u with seq := { (v.tile u).seq with cutPending := false } } := tile_updSeq _ _ _ u.isLt
  have calm : TileLocal (· ∈ abortFlds u) u (fun _ => ()) (Work.start s) (v.updSeq u (fun q => { q with cutPending := false })) := local_.updTile _ (fun _ => rfl)
  have clasps : w.clasp u = (v.updSeq u (fun q => { q with cutPending := false })).clasp u := rfl
  obtain ⟨busy, lo, -⟩ := effected_get (v.updSeq u (fun q => { q with cutPending := false })) u (v.get (ABORT_E u))
  refine ⟨((calm.set _ _ (by simp [abortFlds])).set _ _ (by simp [abortFlds])).set _ _ (by simp [abortFlds]), busy, lo.trans (by rw [effect]; omega), fun c hc i hi h hh => ?_⟩
  rw [clasps, Work.clasp, tile] at hi
  exact entries c hc i hi h hh

theorem abortFrame_now : abortFrame (Work.start s) 0 = s.tl.count + 12 := Nat.max_eq_right (Nat.zero_le _)

theorem abortedNow_shows (u : Fin 32) : TileLocal (· ∈ abortFlds u) u (fun _ => ()) (Work.start s) (abortedNow (Work.start s) u) ∧
    (abortedNow (Work.start s) u).get (CLASP_ABORT_CTRL_BUSY u) = 0 ∧ (abortedNow (Work.start s) u).get (CLASP_ABORT_EFF_LO u) = (s.tl.count + 12) % 2 ^ 32 ∧
    ∀ c < 33, ∀ i ∈ ((abortedNow (Work.start s) u).clasp u c).items, ∀ h ∈ i.members, h.entry.stamp < s.tl.count + 12 := by
  have local_ : TileLocal (· ∈ abortFlds u) u (fun _ => ()) (Work.start s) (abortFrom (Work.start s) u 0) :=
    TileLocal.abortFrom (fun _ _ _ _ _ _ _ _ _ => rfl) (TileLocal.refl _) 0 ⟨by simp [abortFlds], by simp [abortFlds], by simp [abortFlds]⟩
  refine completed_shows local_ ((abortFrom_effective _ u).trans (by rw [abortFrame_now])) (fun c hc i hi h hh => ?_)
  rw [abortFrom_clasps (Work.start s) u hc, abortFrame_now] at hi
  exact mem_claspBefore hi hh

theorem abandon_none (w : Work s) (u : Fin 32) (k : Fin 8) : (abandonWindows w u).win u k = none := by
  obtain ⟨win, -⟩ := abandonEach u (List.finRange 8) (w.updTile u (fun x => { x with late := [] })) k
  rw [← abandonWindows_eq, if_pos (List.mem_finRange k)] at win
  exact win

theorem captureIdle_get (v : Work s) (u : Nat) (f : Fld) : (captureIdle v u).get f = ((v.set (CAP_STATE_STATE u) IDLE).set (CAP_STATE_PVALID u) 0).get f := by
  rw [captureIdle, capIdle, Work.updCap, Work.get_updTile, Work.updCap, Work.get_updTile]

theorem captureIdle_local (v : Work s) (u : Nat) : TileLocal (· ∈ abortFlds u) u held v (captureIdle v u) := by
  have flds : CAP_STATE_STATE u ∈ abortFlds u ∧ CAP_STATE_PVALID u ∈ abortFlds u := by simp [abortFlds]
  have idle : TileLocal (· ∈ abortFlds u) u held v ((v.set (CAP_STATE_STATE u) IDLE).set (CAP_STATE_PVALID u) 0) := ((TileLocal.refl v).set _ _ flds.1).set _ _ flds.2
  rw [captureIdle, capIdle, Work.updCap, Work.updCap]
  refine TileLocal.updTile (TileLocal.updTile idle _ (fun x => ?_)) _ (fun x => ?_) <;> rfl

theorem abandon_regs (w : Work s) (u : Nat) : TileLocal (· ∈ (List.range 8).map (RD_STATUS_OPEN u)) u Tile.clasps w (abandonWindows w u) := by
  obtain ⟨work, rest⟩ := abandonWindows_local (φ := Tile.clasps) (fun _ _ _ => rfl) w u
  exact ⟨tileWork_mono work (fun g ⟨k, hk, same⟩ => List.mem_map.2 ⟨k, List.mem_range.2 hk, same.symm⟩), rest⟩

/-- What the abort has left stands when the windows are gone and the unit is idle. -/
theorem idled_of {w : Work s} {u : Fin 32} (local_ : TileLocal (· ∈ abortFlds u) u (fun _ => ()) (Work.start s) w) (busy : w.get (CLASP_ABORT_CTRL_BUSY u) = 0)
    (effective : w.get (CLASP_ABORT_EFF_LO u) = (s.tl.count + 12) % 2 ^ 32)
    (entries : ∀ c < 33, ∀ i ∈ (w.clasp u c).items, ∀ h ∈ i.members, h.entry.stamp < s.tl.count + 12) : Idled s u (unitIdle w u) := by
  obtain ⟨-, effectApart, capApart, -⟩ := halt_apart u
  have windows := abandon_none w u
  have abandon := abandon_regs w u
  rw [unitIdle]
  generalize abandonWindows w u = v at *
  have idle := captureIdle_local v u
  have get := captureIdle_get v u
  generalize captureIdle v u = x at *
  have kept : ∀ f ∈ [CLASP_ABORT_CTRL_BUSY u, CLASP_ABORT_EFF_LO u], x.get f = w.get f := fun f hf => by
    have apart := effectApart f hf
    rw [get, Work.get_set_ne _ _ _ _ (apart (CAP_STATE_PVALID u) (by simp)), Work.get_set_ne _ _ _ _ (apart (CAP_STATE_STATE u) (by simp)),
      abandon.1.1 f (fun g hg => apart g (List.mem_cons_of_mem _ (List.mem_cons_of_mem _ hg)))]
  have work : TileWork (· ∈ abortFlds u) (Work.start s) x :=
    tileWork_trans local_.1 (tileWork_trans (tileWork_mono abandon.1 (fun _ hg => List.mem_append_right _ hg)) idle.1)
  refine ⟨⟨work, fun t ht => (idle.2.1 t ht).trans ((abandon.2.1 t ht).trans (local_.2.1 t ht)), rfl⟩, (kept _ (by simp)).trans busy,
    (kept _ (by simp)).trans effective, ⟨?_, ?_⟩, fun k hk => ?_, fun c hc => ?_⟩
  · rw [get, Work.get_set_ne _ _ _ _ capApart, Work.get_set_self]
    rfl
  · rw [get, Work.get_set_self]
    rfl
  · rw [idle.2.2]
    exact windows ⟨k, hk⟩
  · have items : (held (v.tile u)).2 c = (w.clasp u c).items := congrArg (fun x => (vget x Clasp.reset c).items) abandon.2.2
    rw [idle.2.2, items]
    exact entries c hc

theorem unitIdle_idled (u : Fin 32) : Idled s u (unitIdle (abortedNow (Work.start s) u) u) := by
  obtain ⟨local_, busy, effective, entries⟩ := abortedNow_shows (s := s) u
  exact idled_of local_ busy effective entries

/-! ## A pending code swap (R320) -/

/-- The registers that stand through the end of a code swap and through the run state of a release. -/
def standFlds (u : Nat) : List Fld := [CLASP_ABORT_CTRL_BUSY u, CLASP_ABORT_EFF_LO u, CAP_STATE_STATE u, CAP_STATE_PVALID u] ++ haltFlds u

theorem stand_place (u : Nat) : ∀ f ∈ standFlds u, f.lo < 32 ∧ ∃ k, f.addr = tileBase u + k ∧ (k = 8 ∨ k = 0xC ∨ k = 0x430 ∨ k = 0x438 ∨ k = 0x7400) := by
  intro f hf
  simp only [standFlds, haltFlds, List.cons_append, List.nil_append, List.mem_cons, List.not_mem_nil, or_false] at hf
  rcases hf with rfl | rfl | rfl | rfl | rfl | rfl | rfl | rfl
  · exact ⟨by simp only [CLASP_ABORT_CTRL_BUSY]; omega, 0x430, rfl, by omega⟩
  · exact ⟨by simp only [CLASP_ABORT_EFF_LO]; omega, 0x438, rfl, by omega⟩
  · exact ⟨by simp only [CAP_STATE_STATE]; omega, 0x7400, rfl, by omega⟩
  · exact ⟨by simp only [CAP_STATE_PVALID]; omega, 0x7400, rfl, by omega⟩
  · exact ⟨by simp only [SEQ_HALT_INFO_CAUSE]; omega, 0x8, rfl, by omega⟩
  · exact ⟨by simp only [SEQ_HALT_INFO_ADDR]; omega, 0x8, rfl, by omega⟩
  · exact ⟨by simp only [SEQ_HALT_INFO_PARGRP]; omega, 0x8, rfl, by omega⟩
  · exact ⟨by simp only [SEQ_RESTART]; omega, 0xC, rfl, by omega⟩

theorem ddr_place : ∀ g ∈ LOADER_STATE_STATE :: LOADER_STATE_SOURCE :: LOADER_SWAP_PEND :: ddrFlds, g.lo < 32 ∧ g.addr < 0x10000000 := by decide +kernel

theorem swapPend_apart : ∀ g ∈ LOADER_STATE_STATE :: LOADER_STATE_SOURCE :: ddrFlds, LOADER_SWAP_PEND.key ≠ g.key := by decide +kernel

theorem stand_apart_device {u : Nat} {f : Fld} (hf : f ∈ standFlds u) : ∀ g ∈ LOADER_STATE_STATE :: LOADER_STATE_SOURCE :: LOADER_SWAP_PEND :: ddrFlds, f.key ≠ g.key := by
  intro g hg
  obtain ⟨lo, k, addr, -⟩ := stand_place u f hf
  obtain ⟨glo, gaddr⟩ := ddr_place g hg
  simp only [Fld.key, tileBase] at addr ⊢
  omega

theorem stand_apart_pull {u : Nat} {f : Fld} (hf : f ∈ standFlds u) : ∀ g, PullFld g → f.key ≠ g.key := by
  rintro g (hg | ⟨t, ht, i, hi, rfl | rfl⟩)
  · exact stand_apart_device hf g (by simp only [List.mem_cons] at hg ⊢; tauto)
  · obtain ⟨lo, k, addr, hk⟩ := stand_place u f hf
    simp only [Fld.key, QTAIL, hid, tileBase] at addr ⊢
    omega
  · obtain ⟨lo, k, addr, hk⟩ := stand_place u f hf
    simp only [Fld.key, QT_CNT1_BAD, tileBase] at addr ⊢
    omega

theorem pend_apart_pull : ∀ g, PullFld g → LOADER_SWAP_PEND.key ≠ g.key := by
  rintro g (hg | ⟨t, ht, i, hi, rfl | rfl⟩)
  · exact swapPend_apart g hg
  · simp only [Fld.key, QTAIL, hid, LOADER_SWAP_PEND]
    omega
  · simp only [Fld.key, QT_CNT1_BAD, tileBase, LOADER_SWAP_PEND]
    omega

/-- What a code swap at its end leaves of the tile that it waited for. -/
structure Swapped (u : Nat) (w w' : Work s) : Prop where
  regs : ∀ f ∈ standFlds u, w'.get f = w.get f
  tile : held (w'.tile u) = held (w.tile u)
  tlc : w'.tlc = w.tlc
  done : w'.get LOADER_SWAP_PEND / 2 ^ u % 2 = 0
  none_ : w.get LOADER_SWAP_PEND / 2 ^ u % 2 = 0 → w' = w

theorem bit_cleared (v u : Nat) (hu : u < 32) (on : bit v u = true) : (v - (if bit v u then 2 ^ u else 0)) % 2 ^ 32 / 2 ^ u % 2 = 0 := by
  have odd : v / 2 ^ u % 2 = 1 := by
    simpa only [bit, beq_iff_eq] using on
  have split : 2 ^ 32 = 2 ^ u * (2 * 2 ^ (31 - u)) := by
    rw [← Nat.pow_succ', ← Nat.pow_add]
    congr 1
    omega
  have one := Nat.sub_mul_div v (2 ^ u) 1
  rw [Nat.mul_one] at one
  rw [if_pos on, split, Nat.mod_mul_right_div_self, one, Nat.mod_mul_right_mod]
  omega

theorem swapCopy_shows (w : Work s) {u : Nat} (hu : u < 32) (pending : w.getBit LOADER_SWAP_PEND u = true) :
    Pulls (· ∈ LOADER_SWAP_PEND :: ddrFlds) w (swapCopy w u) ∧ (swapCopy w u).get LOADER_SWAP_PEND / 2 ^ u % 2 = 0 := by
  have copied := wordsCopied_pulls w u
  rw [swapCopy_def]
  generalize wordsCopied w u = v at *
  have pend : v.get LOADER_SWAP_PEND = w.get LOADER_SWAP_PEND := copied.regs _ (fun g hg => swapPend_apart g (List.mem_cons_of_mem _ (List.mem_cons_of_mem _ hg)))
  have wide : Pulls (· ∈ LOADER_SWAP_PEND :: ddrFlds) w v := ⟨copied.regs.mono (fun _ hg => List.mem_cons_of_mem _ hg), copied.tiles, copied.tlc⟩
  refine ⟨(wide.updLd _).set List.mem_cons_self _, ?_⟩
  rw [Work.setBit, Work.get_set_self, if_neg Bool.false_ne_true, Work.get_updLd, pend]
  exact bit_cleared _ u hu pending

theorem swapEnded_shows (w : Work s) {u : Nat} (hu : u < 32) : Swapped u w (swapEnded w u) := by
  rw [swapEnded]
  by_cases pending : w.getBit LOADER_SWAP_PEND u = true
  · obtain ⟨copied, off⟩ := swapCopy_shows w hu pending
    rw [if_pos pending]
    have ends : Pulls PullFld (swapCopy w u) (swapsOver (swapCopy w u)) := (Pulls.refl _).swapsOver
    refine ⟨fun f hf => ?_, (ends.tiles u).trans (copied.tiles u), ends.tlc.trans copied.tlc, ?_, fun none_ => ?_⟩
    · exact (ends.regs f (stand_apart_pull hf)).trans (copied.regs f (fun g hg => stand_apart_device hf g (List.mem_cons_of_mem _ (List.mem_cons_of_mem _ hg))))
    · rw [ends.regs _ pend_apart_pull]
      exact off
    · have on : w.get LOADER_SWAP_PEND / 2 ^ u % 2 = 1 := by
        simpa only [Work.getBit, bit, beq_iff_eq] using pending
      omega
  · rw [if_neg pending]
    refine ⟨fun _ _ => rfl, rfl, rfl, ?_, fun _ => rfl⟩
    have off : ¬w.get LOADER_SWAP_PEND / 2 ^ u % 2 = 1 := fun h => pending (beq_iff_eq.2 h)
    omega

/-! ## The end of the reset -/

theorem stand_apart_run {u : Nat} {f : Fld} (hf : f ∈ standFlds u) : ∀ g, RunFld u g → f.key ≠ g.key := by
  rintro g ⟨glo, ⟨j, gaddr, hj⟩ | ⟨j, gaddr, hj⟩⟩
  · obtain ⟨lo, k, addr, hk⟩ := stand_place u f hf
    simp only [Fld.key, tileBase] at addr gaddr ⊢
    omega
  · obtain ⟨lo, k, addr, hk⟩ := stand_place u f hf
    simp only [Fld.key, tileBase] at addr gaddr ⊢
    omega

theorem shownEnded_cases (w : Work s) (u : Nat) : shownEnded w u = (w.set (SEQ_STATE_STATE u) NOT_RELEASED).set (TRST u) 0 ∨
    shownEnded w u = ((w.set (SEQ_STATE_STATE u) NOT_RELEASED).set (TRST u) 0).set DEV_STATUS_TILES_RELEASED 0 := by
  rw [shownEnded]
  split
  · exact Or.inr rfl
  · exact Or.inl rfl

/-- The registers that the end of a reset writes. -/
def endFlds (u : Nat) : List Fld := [SEQ_STATE_STATE u, TRST u, DEV_STATUS_TILES_RELEASED]

theorem end_apart : ∀ u : Fin 32, (∀ f ∈ LOADER_SWAP_PEND :: SEQ_SP u :: standFlds u ++ (List.range 4).map (SEQ_LC u) ++ (List.range 8).map (RD_STATUS_ROUND u) ++
    (List.range 16).map (fun i => EVPORT_PEND_GEN_SET u (i / 8) (i % 8)), ∀ g ∈ endFlds u, f.key ≠ g.key) ∧
    (SEQ_STATE_STATE u).key ≠ (TRST u).key ∧ (SEQ_STATE_STATE u).key ≠ DEV_STATUS_TILES_RELEASED.key ∧ (TRST u).key ≠ DEV_STATUS_TILES_RELEASED.key := by decide +kernel

/-- What the end of a reset shows, by what stood before it. -/
theorem shownEnded_shows (v : Work s) (u : Fin 32) :
    (shownEnded v u).get (TRST u) = 0 ∧ (shownEnded v u).get (SEQ_STATE_STATE u) = NOT_RELEASED ∧
    (∀ f, (∀ g ∈ endFlds u, f.key ≠ g.key) → (shownEnded v u).get f = v.get f) ∧
    TileLocal (fun _ => True) u (fun x => x) v (shownEnded v u) ∧ (shownEnded v u).tlc = v.tlc := by
  obtain ⟨-, stateTrst, stateAll, trstAll⟩ := end_apart u
  have flds : ∀ f : Fld, (∀ g ∈ endFlds u, f.key ≠ g.key) → f.key ≠ (SEQ_STATE_STATE u).key ∧ f.key ≠ (TRST u).key ∧ f.key ≠ DEV_STATUS_TILES_RELEASED.key := fun f hf =>
    ⟨hf _ (by simp [endFlds]), hf _ (by simp [endFlds]), hf _ (by simp [endFlds])⟩
  have ends := shownEnded_cases v u
  generalize shownEnded v u = z at *
  rcases ends with rfl | rfl
  · refine ⟨Work.get_set_self _ _ _, ?_, fun f hf => ?_, (((TileLocal.refl v).set _ _ trivial).set _ _ trivial), rfl⟩
    · rw [Work.get_set_ne _ _ _ _ stateTrst, Work.get_set_self]
      rfl
    · obtain ⟨state, trst, -⟩ := flds f hf
      rw [Work.get_set_ne _ _ _ _ trst, Work.get_set_ne _ _ _ _ state]
  · refine ⟨?_, ?_, fun f hf => ?_, ((((TileLocal.refl v).set _ _ trivial).set _ _ trivial).set _ _ trivial), rfl⟩
    · rw [Work.get_set_ne _ _ _ _ trstAll, Work.get_set_self]
      rfl
    · rw [Work.get_set_ne _ _ _ _ stateAll, Work.get_set_ne _ _ _ _ stateTrst, Work.get_set_self]
      rfl
    · obtain ⟨state, trst, all⟩ := flds f hf
      rw [Work.get_set_ne _ _ _ _ all, Work.get_set_ne _ _ _ _ trst, Work.get_set_ne _ _ _ _ state]

theorem pend_apart_run (u : Nat) : ∀ g, RunFld u g → LOADER_SWAP_PEND.key ≠ g.key := by
  rintro g ⟨glo, ⟨j, gaddr, hj⟩ | ⟨j, gaddr, hj⟩⟩
  · simp only [Fld.key, LOADER_SWAP_PEND, tileBase] at gaddr ⊢
    omega
  · simp only [Fld.key, LOADER_SWAP_PEND] at gaddr ⊢
    omega

/-- What a tile reset shows. -/
def TileWasReset (s t : State) (u : Nat) : Prop :=
  t.get (TRST u) = 0 ∧ t.get (SEQ_STATE_STATE u) = NOT_RELEASED ∧ t.get (SEQ_SP u) = 0 ∧
  (∀ n < 4, t.get (SEQ_LC u n) = 0) ∧ (∀ k < 8, t.get (RD_STATUS_ROUND u k) = 0 ∧ t.view.win u k = none) ∧
  (∀ i < 16, t.get (EVPORT_PEND_GEN_SET u (i / 8) (i % 8)) = 0) ∧
  t.get (CAP_STATE_STATE u) = IDLE ∧ t.get (CAP_STATE_PVALID u) = 0 ∧
  t.get (CLASP_ABORT_CTRL_BUSY u) = 0 ∧ t.get (CLASP_ABORT_EFF_LO u) = (s.tl.count + 12) % 2 ^ 32 ∧
  (t.tile u).dspIn = [] ∧ (t.tile u).arms = [] ∧
  (∀ c < 33, ∀ i ∈ (t.view.clasp u c).items, ∀ h ∈ i.members, h.entry.stamp < s.tl.count + 12) ∧
  t.get LOADER_SWAP_PEND / 2 ^ u % 2 = 0 ∧
  (∀ f ∈ [SEQ_HALT_INFO_CAUSE u, SEQ_HALT_INFO_ADDR u, SEQ_HALT_INFO_PARGRP u, SEQ_RESTART u], t.get f = s.get f) ∧
  (s.get LOADER_SWAP_PEND / 2 ^ u % 2 = 0 → StoresKept s t ∧ ∀ v < 32, v ≠ u → t.tile v = s.tile v) ∧
  t.tl = s.tl ∧ t.fuse = s.fuse ∧ t.pending = s.pending

theorem zero_mem_left {u : Nat} (f : Fld) (hf : f ∈ SEQ_SP u :: (List.range 4).map (SEQ_LC u) ++ (List.range 8).map (RD_STATUS_ROUND u) ++
    (List.range 16).map (fun i => EVPORT_PEND_GEN_SET u (i / 8) (i % 8))) :
    f ∈ LOADER_SWAP_PEND :: SEQ_SP u :: standFlds u ++ (List.range 4).map (SEQ_LC u) ++ (List.range 8).map (RD_STATUS_ROUND u) ++
      (List.range 16).map (fun i => EVPORT_PEND_GEN_SET u (i / 8) (i % 8)) := by
  rw [List.mem_append, List.mem_append, List.mem_append, List.mem_cons, List.mem_cons]
  rw [List.mem_append, List.mem_append, List.mem_cons] at hf
  tauto

/-- The parts of a tile reset, one behind the other. -/
theorem wasReset (hs : s.wf = true) {u : Fin 32} {a b c z : Work s} (idled : Idled s u a) (swapped : Swapped u a b) (cleared : Cleared u held b c)
    (sp : c.get (SEQ_SP u) = 0) (loops : ∀ n < 4, c.get (SEQ_LC u n) = 0) (latches : ∀ i < 16, c.get (EVPORT_PEND_GEN_SET u (i / 8) (i % 8)) = 0)
    (rounds : ∀ k < 8, c.get (RD_STATUS_ROUND u k) = 0) (inputs : (c.tile u).dspIn = []) (arms : (c.tile u).arms = [])
    (trst : z.get (TRST u) = 0) (state : z.get (SEQ_STATE_STATE u) = NOT_RELEASED) (regs : ∀ f, (∀ g ∈ endFlds u, f.key ≠ g.key) → z.get f = c.get f)
    (ended : TileLocal (fun _ => True) u (fun x => x) c z) (endTl : z.tlc = c.tlc) : TileWasReset s z.finish u := by
  obtain ⟨apart, -⟩ := end_apart u
  obtain ⟨haltApart, -⟩ := halt_apart u
  have get : ∀ f, z.finish.get f = z.get f := fun f => Work.finish_get z f hs
  have stand : ∀ f ∈ standFlds u, z.finish.get f = a.get f := fun f hf => by
    rw [get, regs f (apart f (by simp [hf])), cleared.tile.1.1 f (stand_apart_run hf), swapped.regs f hf]
  have kept : ∀ f ∈ LOADER_SWAP_PEND :: haltFlds u, a.get f = s.get f := fun f hf => (idled.tile.1.1 f (haltApart f hf)).trans (Work.get_start s f)
  have zero : ∀ f ∈ SEQ_SP u :: (List.range 4).map (SEQ_LC u) ++ (List.range 8).map (RD_STATUS_ROUND u) ++ (List.range 16).map (fun i => EVPORT_PEND_GEN_SET u (i / 8) (i % 8)),
      z.finish.get f = c.get f := fun f hf => by
    rw [get, regs f (apart f (zero_mem_left f hf))]
  have tile : z.tile u = c.tile u := ended.2.2
  have holds : held (z.tile u) = held (a.tile u) := by
    rw [tile, cleared.tile.2.2, swapped.tile]
  refine ⟨(get _).trans trst, (get _).trans state, (zero _ (by simp)).trans sp, fun n hn => (zero _ ?_).trans (loops n hn), fun k hk => ⟨(zero _ ?_).trans (rounds k hk), ?_⟩,
    fun i hi => (zero _ ?_).trans (latches i hi), (stand _ (by simp [standFlds])).trans idled.unit.1, (stand _ (by simp [standFlds])).trans idled.unit.2,
    (stand _ (by simp [standFlds])).trans idled.busy, (stand _ (by simp [standFlds])).trans idled.effective, ?_, ?_, fun c hc => ?_, ?_, fun f hf => ?_, fun none_ => ?_, ?_, rfl, rfl⟩
  · exact List.mem_append_left _ (List.mem_append_left _ (List.mem_cons_of_mem _ (List.mem_map.2 ⟨n, List.mem_range.2 hn, rfl⟩)))
  · exact List.mem_append_left _ (List.mem_append_right _ (List.mem_map.2 ⟨k, List.mem_range.2 hk, rfl⟩))
  · exact (congrArg (fun x => vget x.1 none k) holds).trans (idled.windows k hk)
  · exact List.mem_append_right _ (List.mem_map.2 ⟨i, List.mem_range.2 hi, rfl⟩)
  · exact (congrArg Tile.dspIn tile).trans inputs
  · exact (congrArg Tile.arms tile).trans arms
  · have items : (z.finish.view.clasp u c).items = (held (a.tile u)).2 c := congrArg (fun x => x.2 c) holds
    rw [items]
    exact idled.entries c hc
  · rw [get, regs _ (apart _ (by simp)), cleared.tile.1.1 _ (pend_apart_run u)]
    exact swapped.done
  · exact (stand f (List.mem_append_right _ hf)).trans (kept f (List.mem_cons_of_mem _ hf))
  · have same : b = a := swapped.none_ (by rw [kept _ List.mem_cons_self]; exact none_)
    subst same
    refine ⟨storesKept_finish hs (ended.1.2.1 (cleared.tile.1.2.1 (idled.tile.1.2.1 (quiet_start s)))), fun v _ ne => ?_⟩
    exact (ended.2.1 v ne).trans ((cleared.tile.2.1 v ne).trans (idled.tile.2.1 v ne))
  · obtain ⟨-, -, -, -, -, keep⟩ := idled.tile.1.2.1 (quiet_start s)
    rw [Work.finish_tl, endTl, cleared.tlc, swapped.tlc, keep]
    rfl

theorem resetActs (hs : s.wf = true) (u : Fin 32) (asked : s.get (TRST u) ≠ 0) (recording : s.get (CAP_STATE_STATE u) ≠ RECORDING)
    (rearm : s.get (CAP_STATE_STATE u) ≠ REARM) (idle : s.get (CLASP_ABORT_CTRL_BUSY u) = 0) :
    Answers (.tileResetComplete u) s (fun t => TileWasReset s t u) := by
  have run := tileResetComplete_eq (w := Work.start s) (u := u) (by rw [Work.get_start]; exact asked) (by rw [Work.get_start]; exact recording)
    (by rw [Work.get_start]; exact rearm) ((Work.get_start _ _).trans idle)
  obtain ⟨cleared, sp, loops, latches, rounds, inputs, arms⟩ := runClear_shows u.isLt (swapEnded (unitIdle (abortedNow (Work.start s) u) u) u)
  obtain ⟨trst, state, regs, ended, endTl⟩ := shownEnded_shows (runClear (swapEnded (unitIdle (abortedNow (Work.start s) u) u) u) u) u
  exact answers_of (F := fun w => tileResetComplete w u) rfl run
    (wasReset hs (unitIdle_idled u) (swapEnded_shows _ u.isLt) cleared sp loops latches rounds inputs arms trst state regs ended endTl)

theorem tileReset_clause : Clause.TileReset := fun _ hs =>
  ⟨fun via u lock rests => resetTaken hs via u lock rests, fun via u lock halted released => resetRefused hs via u lock halted released,
    fun via v lock some_ => resetInLockstep hs via v lock some_, fun u asked recording rearm idle => resetActs hs u asked recording rearm idle⟩

/-- Settles O5: a device reset renews what lies outside the always-on domain, and an accepted tile reset leaves its tile as a release does. -/
theorem resets : Obligations.Resets := ⟨deviceReset_clause, tileReset_clause⟩

end Sys2Proof.TileResetProofs
end

section
/-! PROOFS. The training of a link, and the stripe that it switches to (R342, R359, R360, R366 to R369). -/

namespace Sys2Proof.BondingProofs

open Sys2Proof.Machine Sys2Proof.Effects Sys2Proof.LaneWorks Sys2Proof.CaptureProofs Sys2Proof.TriggerProofs Sys2Proof.LaneQualityProofs
  Sys2Proof.EpochProofs

variable {s : State}

/-! ## A TRAIN block shows the partner's index (R342) -/

/-- The partner's index, shown on the lane that the block came over. -/
def idxShown (w : Work s) (n p : Nat) : Work s := (w.set (LANE_STATUS_PEER_IDX n) (bits p 8 2)).set (LANE_STATUS_PEER_VALID n) 1

/-- What a TRAIN block that a link has accepted does, once its index is shown. -/
def trainOn (w : Work s) (l i p skew : Nat) : Work s :=
  let dev := bits p 12 6
  if linkLive w l then (if dev ≠ w.get (LINK_STATUS_PEER_DEV l) then linkDown w l else w)
  else
    let w := if lanesReady w l then w.set (LINK_STATUS_STATE l) 1 else w
    let rx : TrainRx := ⟨bits p 8 2, bits p 10 2, dev, bit p 18, bits p 19 16⟩
    let w := (w.set (LINK_SKEW_SKEW l rx.idx) skew).updLink l (fun k => { k with
      train := k.train.filter (fun x => x.1 ≠ i) ++ [(i, rx)] })
    if lanesReady w l then trainEval w l dev rx.count else w

theorem trainBlock_accepted {w : Work s} {l i p n : Nat} (skew : Nat) (at_n : w.get (LINK_CFG_BASE l) + i = n) (en : w.get (LINK_CFG_EN l) ≠ 0)
    (hi : i < linkWidth w l) (hn : n < 32) (role : w.get (LANE_CFG_ROLE n) = 2) (up : w.get (LANE_STATUS_STATE n) = LANE_UP)
    (ok : ctrlOk p = true) (type : p % 256 = 0x2D) : trainBlock w l i p skew = trainOn (idxShown w n p) l i p skew := by
  subst at_n
  have body : ctrlBody w l 0x2D p = (true, w) := by
    rw [ctrlBody, ok, type]
    rfl
  have taken : (!w.on (LINK_CFG_EN l) || !decide (i < linkWidth w l) || !decide (w.get (LINK_CFG_BASE l) + i < 32) ||
      !decide (w.get (LANE_CFG_ROLE (w.get (LINK_CFG_BASE l) + i)) = 2) ||
      !decide (laneState w (w.get (LINK_CFG_BASE l) + i) = LANE_UP)) = false := by
    simp only [laneState, up, role, hn, hi, Work.on, bne_iff_ne.2 en, decide_true, Bool.not_true, Bool.or_false]
  rw [trainBlock]
  dsimp only
  rw [taken, if_neg Bool.false_ne_true, body, trainOn, idxShown]
  rfl

theorem idxShown_get (w : Work s) {n p : Nat} {f : Fld} (idx : f.key ≠ (LANE_STATUS_PEER_IDX n).key) (valid : f.key ≠ (LANE_STATUS_PEER_VALID n).key) :
    (idxShown w n p).get f = w.get f := by
  rw [idxShown, Work.get_set_ne _ _ _ _ valid, Work.get_set_ne _ _ _ _ idx]

theorem idxShown_shows (w : Work s) (n p : Nat) :
    (idxShown w n p).get (LANE_STATUS_PEER_IDX n) = bits p 8 2 ∧ (idxShown w n p).get (LANE_STATUS_PEER_VALID n) = 1 := by
  rw [idxShown, Work.get_set_ne _ _ _ _ (by simp only [Fld.key, LANE_STATUS_PEER_IDX, LANE_STATUS_PEER_VALID]; omega), Work.get_set_self,
    Work.get_set_self]
  exact ⟨Nat.mod_eq_of_lt (Nat.mod_lt _ (by decide)), rfl⟩

theorem idxShown_keeps (n p : Nat) {fs : List Fld} (idx : LANE_STATUS_PEER_IDX n ∈ fs) (valid : LANE_STATUS_PEER_VALID n ∈ fs) :
    Keeps (idxShown (Work.start s) n p) fs := by
  rw [idxShown, keeps_set _ _ _ _ valid, keeps_set _ _ _ _ idx]
  exact keeps_start s fs

/-- The registers of a link do not lie among those of its lanes. -/
theorem idxShown_linkFld (w : Work s) {n : Nat} (hn : n < 32) (p : Nat) {f : Fld} (hf : 0x200000 ≤ f.addr ∧ f.lo < 32) :
    (idxShown w n p).get f = w.get f := by
  refine idxShown_get w ?_ ?_ <;>
    · simp only [Fld.key, LANE_STATUS_PEER_IDX, LANE_STATUS_PEER_VALID]
      omega

/-! ## Training of a link of one lane (R359) -/

theorem sendTrain_onlyOut (w : Work s) (l : Nat) (propose : Bool) : OnlyOut w (sendTrain w l propose) := interval_onlyOut _ _ _

theorem sendTrain_link (w : Work s) (l : Nat) (propose : Bool) (k : Nat) : (sendTrain w l propose).link k = w.link k := by
  obtain ⟨-, -, -, -, -, -, dev⟩ := sendTrain_onlyOut w l propose
  rw [Work.link, dev]
  rfl

/-- The terms of a TRAIN block. -/
def termsOf (p : Nat) : TrainRx := ⟨bits p 8 2, bits p 10 2, bits p 12 6, bit p 18, bits p 19 16⟩

/-- What link l of one lane has received. -/
def heard (w : Work s) (l skew : Nat) (rx : TrainRx) : Work s :=
  ((w.set (LINK_STATUS_STATE l) 1).set (LINK_SKEW_SKEW l rx.idx) skew).updLink l (fun k => { k with
    train := k.train.filter (fun x => x.1 ≠ 0) ++ [(0, rx)] })

/-- A bond point proposed to the partner, and its own followed where it gives one. -/
def proposing (w : Work s) (l count : Nat) : Work s :=
  if count ≠ 0 then (proposeBond w l).updLink l (fun k => { k with rxNext := some 1 }) else proposeBond w l

theorem heard_get (w : Work s) {l skew : Nat} {rx : TrainRx} {f : Fld} (state : f.key ≠ (LINK_STATUS_STATE l).key)
    (lag : f.key ≠ (LINK_SKEW_SKEW l rx.idx).key) : (heard w l skew rx).get f = w.get f := by
  show ((w.set (LINK_STATUS_STATE l) 1).set (LINK_SKEW_SKEW l rx.idx) skew).get f = _
  rw [Work.get_set_ne _ _ _ _ lag, Work.get_set_ne _ _ _ _ state]

theorem heard_link (w : Work s) {l : Nat} (hl : l < 32) (skew : Nat) (rx : TrainRx) (none_ : (w.link l).train = []) :
    (heard w l skew rx).link l = { w.link l with train := [(0, rx)] } := by
  rw [heard, link_updLink _ hl, if_pos rfl]
  have kept : ((w.set (LINK_STATUS_STATE l) 1).set (LINK_SKEW_SKEW l rx.idx) skew).link l = w.link l := rfl
  rw [kept, none_]
  rfl

theorem lanesReady_one {w : Work s} {l n : Nat} (width : w.get (LINK_CFG_WIDTH l) = 0) (base : w.get (LINK_CFG_BASE l) = n) (hn : n < 32)
    (role : w.get (LANE_CFG_ROLE n) = 2) (up : w.get (LANE_STATUS_STATE n) = LANE_UP) (valid : w.get (LANE_STATUS_PEER_VALID n) = 1) :
    lanesReady w l = true := by
  have lanes : linkLanes w l = [n] := by
    rw [linkLanes, linkWidth, width, base]
    rfl
  rw [lanesReady, lanes]
  simp only [List.all_cons, List.all_nil, hn, role, laneState, up, Work.on, valid]
  rfl

theorem fullSet_one {w : Work s} {l : Nat} (width : w.get (LINK_CFG_WIDTH l) = 0) : fullSet w l = 1 := by
  rw [fullSet, linkWidth, width]
  rfl

theorem proposeBond_link {w : Work s} {l : Nat} (hl : l < 32) (width : w.get (LINK_CFG_WIDTH l) = 0) :
    (proposeBond w l).link l = { w.link l with phase := .bond, txNext := some 1, txDone := false } := by
  rw [proposeBond, link_updLink _ hl, if_pos rfl, sendTrain_link, fullSet_one width]

theorem proposeBond_get (w : Work s) (l : Nat) (f : Fld) : (proposeBond w l).get f = w.get f := by
  obtain ⟨gets, -⟩ := sendTrain_onlyOut w l true
  exact gets f

theorem trainEval_bonds {w : Work s} {l dev : Nat} (hl : l < 32) {rx : TrainRx} (one : (w.link l).train = [(0, rx)]) (width : w.get (LINK_CFG_WIDTH l) = 0)
    (terms : rx.width = 0) (from_ : rx.dev = dev) (other : dev ≠ w.get LINKS_DEV) (steady : (w.link l).phase = .steady)
    (next_ : (w.link l).rxNext = none) (undone : (w.link l).rxDone = false) (leads : w.get LINKS_DEV < dev ∨ rx.count ≠ 0) :
    trainEval w l dev rx.count = proposing (w.set (LINK_STATUS_PEER_DEV l) dev) l rx.count := by
  have lanes : linkWidth w l = 1 := by
    rw [linkWidth, width]
    rfl
  have good : trainGood w l = true := by
    rw [trainGood, one, lanes]
    simp [allDistinct, terms, lanesOfCode, from_, other]
  have same : ∀ f : Fld, f.key ≠ (LINK_STATUS_PEER_DEV l).key → (w.set (LINK_STATUS_PEER_DEV l) dev).get f = w.get f :=
    fun f hf => Work.get_set_ne _ _ _ _ hf
  have devs := same LINKS_DEV (by simp only [Fld.key, LINKS_DEV, LINK_STATUS_PEER_DEV]; omega)
  have wide := (same (LINK_CFG_WIDTH l) (by simp only [Fld.key, LINK_CFG_WIDTH, LINK_STATUS_PEER_DEV]; omega)).trans width
  have link : (w.set (LINK_STATUS_PEER_DEV l) dev).link l = w.link l := rfl
  rw [trainEval, one, lanes, if_neg (by simp), good, Bool.not_true, if_neg Bool.false_ne_true]
  generalize w.set (LINK_STATUS_PEER_DEV l) dev = v at *
  rw [← devs] at leads
  have proposes : (if (v.link l).phase = .steady ∧ (v.get LINKS_DEV < dev ∨ rx.count ≠ 0) then proposeBond v l else v) = proposeBond v l :=
    if_pos ⟨by rw [link, steady], leads⟩
  dsimp only
  rw [proposes, proposeBond_link hl wide, link, next_, undone, proposing, fullSet_one ((proposeBond_get v l _).trans wide)]
  simp only [Bool.not_false, and_true]

/-- The registers that a proposal leaves as the block has shown them, and the typed state but for the links and what is given out. -/
theorem proposing_keeps (w : Work s) (l count : Nat) : (∀ f, (proposing w l count).get f = w.get f) ∧ (Quiet w → Quiet (proposing w l count)) ∧
    (proposing w l count).dev.held = w.dev.held := by
  have held : (proposeBond w l).dev.held = w.dev.held := by
    obtain ⟨-, -, -, -, -, -, dev⟩ := sendTrain_onlyOut w l true
    show (sendTrain w l true).dev.held = _
    rw [dev]
  have quiet : Quiet w → Quiet (proposeBond w l) := fun quiet => interval_quiet quiet _ _
  rw [proposing]
  split
  · exact ⟨proposeBond_get w l, quiet, held⟩
  · exact ⟨proposeBond_get w l, quiet, held⟩

theorem proposing_link {w : Work s} {l : Nat} (hl : l < 32) (width : w.get (LINK_CFG_WIDTH l) = 0) (count : Nat) (next_ : (w.link l).rxNext = none) :
    ((proposing w l count).link l).phase = .bond ∧ ((proposing w l count).link l).txNext = some 1 ∧
      ((proposing w l count).link l).rxNext = if count ≠ 0 then some 1 else none := by
  rw [proposing]
  split
  · rw [link_updLink _ hl, if_pos rfl, proposeBond_link hl width]
    exact ⟨rfl, rfl, rfl⟩
  · rw [proposeBond_link hl width]
    exact ⟨rfl, rfl, next_⟩

/-- A link of one lane, trained as far as a proposal of its own. -/
def trained (w : Work s) (l skew : Nat) (rx : TrainRx) : Work s := proposing ((heard w l skew rx).set (LINK_STATUS_PEER_DEV l) rx.dev) l rx.count

theorem trained_get (w : Work s) {l skew : Nat} {rx : TrainRx} {f : Fld} (state : f.key ≠ (LINK_STATUS_STATE l).key)
    (lag : f.key ≠ (LINK_SKEW_SKEW l rx.idx).key) (peer : f.key ≠ (LINK_STATUS_PEER_DEV l).key) : (trained w l skew rx).get f = w.get f := by
  rw [trained, (proposing_keeps _ _ _).1, Work.get_set_ne _ _ _ _ peer, heard_get w state lag]

theorem trained_shows (w : Work s) (l skew : Nat) {rx : TrainRx} (idx : rx.idx < 4) : (trained w l skew rx).get (LINK_SKEW_SKEW l rx.idx) = skew % 2 ^ 8 ∧
    (trained w l skew rx).get (LINK_STATUS_PEER_DEV l) = rx.dev % 2 ^ 6 ∧ (trained w l skew rx).get (LINK_STATUS_STATE l) = 1 := by
  have first : ((w.set (LINK_STATUS_STATE l) 1).set (LINK_SKEW_SKEW l rx.idx) skew).get (LINK_STATUS_STATE l) = 1 := by
    rw [Work.get_set_ne _ _ _ _ (by simp only [Fld.key, LINK_STATUS_STATE, LINK_SKEW_SKEW]; omega), Work.get_set_self]
    rfl
  rw [trained, (proposing_keeps _ _ _).1, (proposing_keeps _ _ _).1, (proposing_keeps _ _ _).1,
    Work.get_set_ne _ _ _ _ (by simp only [Fld.key, LINK_STATUS_PEER_DEV, LINK_SKEW_SKEW]; omega), Work.get_set_self,
    Work.get_set_ne _ _ _ _ (by simp only [Fld.key, LINK_STATUS_PEER_DEV, LINK_STATUS_STATE]; omega)]
  exact ⟨Work.get_set_self (w.set (LINK_STATUS_STATE l) 1) (LINK_SKEW_SKEW l rx.idx) skew, rfl, first⟩

theorem trained_link (w : Work s) {l : Nat} (hl : l < 32) (skew : Nat) {rx : TrainRx} (idx : rx.idx < 4) (none_ : (w.link l).train = [])
    (width : w.get (LINK_CFG_WIDTH l) = 0) (next_ : (w.link l).rxNext = none) : ((trained w l skew rx).link l).phase = .bond ∧
      ((trained w l skew rx).link l).txNext = some 1 ∧ ((trained w l skew rx).link l).rxNext = if rx.count ≠ 0 then some 1 else none := by
  refine proposing_link hl ?_ rx.count ?_
  · rw [Work.get_set_ne _ _ _ _ (by simp only [Fld.key, LINK_STATUS_PEER_DEV, LINK_CFG_WIDTH]; omega), heard_get, width]
    · simp only [Fld.key, LINK_STATUS_STATE, LINK_CFG_WIDTH]
      omega
    · simp only [Fld.key, LINK_SKEW_SKEW, LINK_CFG_WIDTH]
      omega
  · show ((heard w l skew rx).link l).rxNext = none
    rw [heard_link w hl skew rx none_]
    exact next_

/-- A link of one lane that goes on with its training: what is shown of the partner, and the bond point proposed. -/
theorem trainOn_bonds {w : Work s} {l n p : Nat} (skew : Nat) (hl : l < 32) (hn : n < 32) (width : w.get (LINK_CFG_WIDTH l) = 0)
    (base : w.get (LINK_CFG_BASE l) = n) (role : w.get (LANE_CFG_ROLE n) = 2) (up : w.get (LANE_STATUS_STATE n) = LANE_UP)
    (valid : w.get (LANE_STATUS_PEER_VALID n) = 1) (down : linkLive w l = false) (terms : bits p 10 2 = 0) (other : bits p 12 6 ≠ w.get LINKS_DEV)
    (none_ : (w.link l).train = []) (steady : (w.link l).phase = .steady) (next_ : (w.link l).rxNext = none) (undone : (w.link l).rxDone = false)
    (leads : w.get LINKS_DEV < bits p 12 6 ∨ bits p 19 16 ≠ 0) : trainOn w l 0 p skew =
      trained w l skew (termsOf p) := by
  have idx : (termsOf p).idx < 4 := Nat.mod_lt _ (by decide)
  have ready := lanesReady_one width base hn role up valid
  have got := fun f state lag => heard_get w (l := l) (skew := skew) (rx := termsOf p) (f := f) state lag
  have link := heard_link w hl skew (termsOf p) none_
  rw [trainOn]
  dsimp only
  rw [down, if_neg Bool.false_ne_true, ready, if_pos rfl]
  show (if lanesReady (heard w l skew (termsOf p)) l then trainEval (heard w l skew (termsOf p)) l (termsOf p).dev (termsOf p).count
    else heard w l skew (termsOf p)) = _
  rw [trained]
  generalize heard w l skew (termsOf p) = v at *
  have devs := got LINKS_DEV (by simp only [Fld.key, LINKS_DEV, LINK_STATUS_STATE]; omega) (by simp only [Fld.key, LINKS_DEV, LINK_SKEW_SKEW]; omega)
  have width' := got (LINK_CFG_WIDTH l) (by simp only [Fld.key, LINK_CFG_WIDTH, LINK_STATUS_STATE]; omega)
    (by simp only [Fld.key, LINK_CFG_WIDTH, LINK_SKEW_SKEW]; omega)
  have base' := got (LINK_CFG_BASE l) (by simp only [Fld.key, LINK_CFG_BASE, LINK_STATUS_STATE]; omega)
    (by simp only [Fld.key, LINK_CFG_BASE, LINK_SKEW_SKEW]; omega)
  have role' := got (LANE_CFG_ROLE n) (by simp only [Fld.key, LANE_CFG_ROLE, LINK_STATUS_STATE]; omega)
    (by simp only [Fld.key, LANE_CFG_ROLE, LINK_SKEW_SKEW]; omega)
  have up' := got (LANE_STATUS_STATE n) (by simp only [Fld.key, LANE_STATUS_STATE, LINK_STATUS_STATE]; omega)
    (by simp only [Fld.key, LANE_STATUS_STATE, LINK_SKEW_SKEW]; omega)
  have valid' := got (LANE_STATUS_PEER_VALID n) (by simp only [Fld.key, LANE_STATUS_PEER_VALID, LINK_STATUS_STATE]; omega)
    (by simp only [Fld.key, LANE_STATUS_PEER_VALID, LINK_SKEW_SKEW]; omega)
  rw [lanesReady_one (width'.trans width) (base'.trans base) hn (role'.trans role) (up'.trans up) (valid'.trans valid), if_pos rfl]
  refine trainEval_bonds hl (rx := termsOf p) (by rw [link]) (width'.trans width) terms rfl ?_ ?_ ?_ ?_ ?_
  · rwa [devs]
  · rw [link]
    exact steady
  · rw [link]
    exact next_
  · rw [link]
    exact undone
  · rwa [devs]

theorem training : Clause.Training := by
  intro s hs l i p skew n dev en hi hn role up ok type
  have run : exec (.trainBlock l i p skew) s = .next (trainOn (idxShown (Work.start s) n p.toNat) l i p.toNat skew.toNat).finish :=
    congrArg (fun w => Host.Outcome.next (Work.finish w))
      (trainBlock_accepted (w := Work.start s) (n := n) skew.toNat rfl en hi hn role up ok type)
  have shown := idxShown_shows (Work.start s) n p.toNat
  have link : ∀ f : Fld, 0x200000 ≤ f.addr ∧ f.lo < 32 → (idxShown (Work.start s) n p.toNat).get f = s.get f := fun f hf =>
    (idxShown_linkFld (Work.start s) hn p.toNat hf).trans (Work.get_start s f)
  have live : linkLive (idxShown (Work.start s) n p.toNat) l = linkLive s.view l := by
    rw [linkLive, linkLive, link (LINK_STATUS_STATE l) ⟨by simp only [LINK_STATUS_STATE]; omega, by simp only [LINK_STATUS_STATE]; omega⟩, Work.get_start]
  refine ⟨fun carries peer => ?_, ?_⟩
  · have eq : trainOn (idxShown (Work.start s) n p.toNat) l i p.toNat skew.toNat = idxShown (Work.start s) n p.toNat := by
      rw [trainOn]
      dsimp only
      rw [live, carries, if_pos rfl, link (LINK_STATUS_PEER_DEV l) ⟨by simp only [LINK_STATUS_PEER_DEV]; omega, by simp only [LINK_STATUS_PEER_DEV]; omega⟩, peer,
        if_neg (not_not_intro rfl)]
    rw [eq] at run
    refine ⟨_, run, ?_, ?_, ?_⟩
    · rw [Work.finish_get _ _ hs]
      exact shown.1
    · rw [Work.finish_get _ _ hs]
      exact shown.2
    · exact plain_finish hs (idxShown_keeps n p.toNat (by simp) (by simp)) (quiet_start s) rfl rfl
  · intro down width terms other none_ steady next_ undone leads
    have lane : ∀ f : Fld, f.key ≠ (LANE_STATUS_PEER_IDX n).key → f.key ≠ (LANE_STATUS_PEER_VALID n).key →
        (idxShown (Work.start s) n p.toNat).get f = s.get f := fun f idx valid => (idxShown_get (Work.start s) idx valid).trans (Work.get_start s f)
    have one : i.val = 0 := by
      rw [linkWidth, Work.get_start, width] at hi
      exact Nat.lt_one_iff.1 hi
    have idx : (termsOf p.toNat).idx < 4 := Nat.mod_lt _ (by decide)
    have eq : trainOn (idxShown (Work.start s) n p.toNat) l i p.toNat skew.toNat =
        trained (idxShown (Work.start s) n p.toNat) l skew.toNat (termsOf p.toNat) := by
      rw [one]
      refine trainOn_bonds skew.toNat l.isLt hn ((link (LINK_CFG_WIDTH l) ?_).trans width) ((link (LINK_CFG_BASE l) ?_).trans ?_) ((lane _ ?_ ?_).trans role)
        ((lane _ ?_ ?_).trans up) shown.2 (live.trans down) terms ?_ none_ steady next_ undone ?_
      · simp only [LINK_CFG_WIDTH]
        omega
      · simp only [LINK_CFG_BASE]
        omega
      · show s.get (LINK_CFG_BASE l) = s.get (LINK_CFG_BASE l) + i.val
        rw [one, Nat.add_zero]
      · simp only [Fld.key, LANE_CFG_ROLE, LANE_STATUS_PEER_IDX]
        omega
      · simp only [Fld.key, LANE_CFG_ROLE, LANE_STATUS_PEER_VALID]
        omega
      · simp only [Fld.key, LANE_STATUS_STATE, LANE_STATUS_PEER_IDX]
        omega
      · simp only [Fld.key, LANE_STATUS_STATE, LANE_STATUS_PEER_VALID]
        omega
      · rw [link LINKS_DEV (by simp only [LINKS_DEV]; omega)]
        exact other
      · rw [link LINKS_DEV (by simp only [LINKS_DEV]; omega)]
        exact leads
    rw [eq] at run
    have width' := (link (LINK_CFG_WIDTH l) (by simp only [LINK_CFG_WIDTH]; omega)).trans width
    have got := fun f => trained_get (idxShown (Work.start s) n p.toNat) (l := l) (skew := skew.toNat) (rx := termsOf p.toNat) (f := f)
    obtain ⟨lag, peer, state⟩ := trained_shows (idxShown (Work.start s) n p.toNat) l skew.toNat idx
    obtain ⟨phase, tx, rx⟩ := trained_link (idxShown (Work.start s) n p.toNat) l.isLt skew.toNat idx none_ width' next_
    obtain ⟨-, quiet, held⟩ := proposing_keeps ((heard (idxShown (Work.start s) n p.toNat) l skew.toNat (termsOf p.toNat)).set (LINK_STATUS_PEER_DEV l)
      (termsOf p.toNat).dev) l (termsOf p.toNat).count
    refine ⟨_, run, ?_, ?_, ?_, ?_, ?_, phase, tx, rx, held, ?_⟩
    · rw [Work.finish_get _ _ hs, got, shown.1]
      all_goals simp only [Fld.key, LANE_STATUS_PEER_IDX, LINK_STATUS_STATE, LINK_SKEW_SKEW, LINK_STATUS_PEER_DEV]; omega
    · rw [Work.finish_get _ _ hs, got, shown.2]
      all_goals simp only [Fld.key, LANE_STATUS_PEER_VALID, LINK_STATUS_STATE, LINK_SKEW_SKEW, LINK_STATUS_PEER_DEV]; omega
    · exact ((Work.finish_get _ _ hs).trans lag).trans (Nat.mod_eq_of_lt skew.isLt)
    · exact ((Work.finish_get _ _ hs).trans peer).trans (Nat.mod_mod _ _)
    · exact (Work.finish_get _ _ hs).trans state
    · refine frame_finish hs (fun f hf => ?_) (quiet (quiet_start s))
      simp only [List.mem_cons, List.not_mem_nil, or_false, forall_eq_or_imp, forall_eq] at hf
      obtain ⟨offIdx, offValid, offLag, offPeer, offState⟩ := hf
      rw [got f offState offLag offPeer]
      exact lane f offIdx offValid

/-! ## What waits for a link leaves (R19, R365) -/

/-- A register of no link. -/
def OffLinks (g : Fld) : Prop := g.lo < 32 ∧ (g.addr < 0x200000 ∨ 0x200800 ≤ g.addr)

/-- Entries and credits that leave: the registers of the links stay, the links stay, and so do the firings that are held. -/
structure Flushes (w w' : Work s) : Prop where
  regs : Writes OffLinks w w'
  links : w'.dev.links = w.dev.links
  held : Holds w w'

theorem Flushes.refl (w : Work s) : Flushes w w := ⟨Writes.refl w, rfl, Holds.refl w⟩

theorem Flushes.ite {w a b : Work s} {p : Prop} [Decidable p] (ha : Flushes w a) (hb : Flushes w b) : Flushes w (if p then a else b) := by
  split
  · exact ha
  · exact hb

theorem queueFld_off {f : Fld} (lo : f.lo < 32) (addr : 0x10000000 ≤ f.addr) : OffLinks f := ⟨lo, Or.inr (by omega)⟩

theorem ddrFld_off : ∀ g ∈ ddrFlds, OffLinks g := by
  simp only [OffLinks]
  decide

theorem creditErr_off : OffLinks TRANSPORT_COUNT2_CREDIT_ERR := by
  simp only [OffLinks]
  decide

/-- The registers of a queue that what leaves it writes. -/
def queueFlds (t i : Nat) : List Fld :=
  [QTAIL t i, QSENT t i, QREPORTED t i, QT_SEQ_A t i, QT_CNT1_BAD t i, QT_CNT0_DUP t i, QT_CNT1_LOST t i, QUEUE_STATUS_LAST_OVF t]

theorem queueFlds_off {t i : Nat} {f : Fld} (hf : f ∈ queueFlds t i) : OffLinks f := by
  simp only [queueFlds, List.mem_cons, List.not_mem_nil, or_false] at hf
  obtain rfl | rfl | rfl | rfl | rfl | rfl | rfl | rfl := hf <;>
    · refine queueFld_off (by simp [QTAIL, QSENT, QREPORTED, QT_SEQ_A, QT_CNT1_BAD, QT_CNT0_DUP, QT_CNT1_LOST, QUEUE_STATUS_LAST_OVF, hid]) ?_
      simp only [QTAIL, QSENT, QREPORTED, QT_SEQ_A, QT_CNT1_BAD, QT_CNT0_DUP, QT_CNT1_LOST, QUEUE_STATUS_LAST_OVF, hid, tileBase]
      omega

section

variable {w w' : Work s} (h : Flushes w w')
include h

theorem Flushes.set {f : Fld} (hf : OffLinks f) (v : Nat) : Flushes w (w'.set f v) := ⟨h.regs.set f v hf, h.links, h.held.set f v⟩

theorem Flushes.setQueue {f : Fld} {t i : Nat} (hf : f ∈ queueFlds t i) (v : Nat) : Flushes w (w'.set f v) := h.set (queueFlds_off hf) v

theorem Flushes.fire (n : Nat) : Flushes w (w'.fire n) := ⟨h.regs.fire n, h.links, h.held.fire n⟩

theorem Flushes.updTile (t : Nat) (u : Tile → Tile) : Flushes w (w'.updTile t u) :=
  ⟨h.regs.of_get (fun _ => Work.get_updTile _ _ _ _), h.links, h.held.updTile t u⟩

theorem Flushes.errlog (kind tile detail addr : Nat) (path : Path) : Flushes w (w'.errlog kind path tile detail addr) := by
  refine ⟨h.regs.trans (fun f hf => get_errlog w' kind tile detail addr path f (fun g hg => hf g ?_)), ?_, h.held.errlog _ _ _ _ _⟩
  · obtain ⟨addr_, lo⟩ := mem_logFlds_addr _ g hg
    exact ⟨lo, Or.inl (by omega)⟩
  · rw [errlog_dev]
    exact h.links

theorem Flushes.ddrTraffic (cls : Nat) (write : Bool) (a n : Nat) : Flushes w (ddrTraffic w' cls write a n) := by
  obtain ⟨-, -, -, -, -, dev⟩ := ddrTraffic_onlyDdr w' cls write a n
  refine ⟨h.regs.trans ((SwapProofs.ddrTraffic_writes w' cls write a n).mono ddrFld_off), ?_, h.held.ddrTraffic _ _ _ _⟩
  rw [dev]
  exact h.links

theorem Flushes.sendStripe (l : Nat) (bs : List (Nat × Nat)) : Flushes w (sendStripe w' l bs) := by
  obtain ⟨gets, -, -, -, -, -, dev⟩ := sendStripe_onlyOut w' l bs
  refine ⟨h.regs.of_get gets, ?_, h.held.sendStripe l bs⟩
  rw [dev]
  exact h.links

theorem Flushes.ddrWrite (cls a : Nat) (bs : List Byte) : Flushes w (w'.ddrWrite cls a bs) := by
  have inside : Flushes w ((Machine.ddrTraffic w' cls true a (withinCapacity w' a bs).length).wrBytes a (withinCapacity w' a bs)) := by
    obtain ⟨regs, links, held⟩ := h.ddrTraffic cls true a (withinCapacity w' a bs).length
    exact ⟨regs.of_get (fun _ => Work.get_wrBytes _ _ _ _), by rw [Work.wrBytes_dev, links], held.of_held (by rw [Work.wrBytes_dev])⟩
  simp only [Work.ddrWrite]
  split
  · exact inside.errlog _ _ _ _ _
  · exact inside

theorem Flushes.qSkipGaps (t i : Nat) (gs : List PeerGap) : Flushes w (qSkipGaps w' t i gs) := by
  induction gs generalizing w' with
  | nil => exact h
  | cons g gs ih =>
    rw [Machine.qSkipGaps]
    split
    · exact ih ((h.setQueue (t := t) (i := i) (by simp [queueFlds]) _).updTile _ _)
    · exact ih h

theorem Flushes.qGap (t i n : Nat) : Flushes w (qGap w' t i n) := by
  rw [Machine.qGap]
  split
  · exact h
  · exact (h.setQueue (t := t) (i := i) (by simp [queueFlds]) _).updTile _ _

theorem Flushes.qOverflow (t i : Nat) : Flushes w (qOverflow w' t i) :=
  ((h.setQueue (t := t) (i := i) (f := QT_CNT1_LOST t i) (by simp [queueFlds]) _).setQueue (t := t) (i := i) (by simp [queueFlds]) _).fire _

theorem Flushes.qAdmitPeer (t i : Nat) (e : List Byte) : Flushes w (qAdmitPeer w' t i e) := by
  have skipped : ∀ n k gs, Flushes w (Machine.qSkipGaps (Machine.qGap (if n = 0 then w' else w'.add (QT_CNT1_LOST t i) n) t i k) t i gs) := by
    exact fun n k gs => ((Flushes.ite h (h.setQueue (t := t) (i := i) (by simp [queueFlds]) _)).qGap t i k).qSkipGaps t i gs
  simp only [Machine.qAdmitPeer]
  refine Flushes.ite (h.setQueue (t := t) (i := i) (by simp [queueFlds]) _) (Flushes.ite (h.setQueue (t := t) (i := i) (by simp [queueFlds]) _) (Flushes.ite ?_ ?_))
  · exact ((skipped _ _ _).ddrWrite _ _ _).setQueue (t := t) (i := i) (by simp [queueFlds]) _
  · exact ((skipped _ _ _).qOverflow t i).qGap t i 1

theorem Flushes.peerSend (t i top n : Nat) : Flushes w (peerSend t i top n w') := by
  induction n generalizing w' with
  | zero => exact h
  | succ n ih =>
    have read := h.ddrTraffic (ringClass w' t i) false (qAddr w' t i (w'.get (QSENT t i))) 32
    have sent : ∀ {v : Work s}, Flushes w v → ∀ m, Flushes w (Machine.peerSend t i top n (v.set (QSENT t i) m)) := fun hv m =>
      ih (hv.setQueue (t := t) (i := i) (by simp [queueFlds]) m)
    simp only [Machine.peerSend]
    split
    · exact h
    · split
      · exact sent (read.setQueue (t := t) (i := i) (f := QT_CNT1_BAD t i) (by simp [queueFlds]) _) _
      · split
        · split
          · exact sent (read.sendStripe _ _) _
          · exact read
        · split
          · exact sent (read.qAdmitPeer _ _ _) _
          · exact read

theorem Flushes.qCreditReturn (t i cr : Nat) : Flushes w (qCreditReturn w' t i cr) := by
  have moved : Flushes w (w'.set (QTAIL t i) cr) := h.setQueue (t := t) (i := i) (by simp [queueFlds]) cr
  rw [Machine.qCreditReturn]
  dsimp only
  split
  · split
    · split
      · exact moved.setQueue (t := t) (i := i) (by simp [queueFlds]) cr
      · exact moved
    · exact h.set creditErr_off _
  · split
    · exact h
    · exact h.set creditErr_off _

theorem Flushes.peerCredit (t i : Nat) : Flushes w (peerCredit w' t i) := by
  rw [Machine.peerCredit]
  split
  · exact h
  · split
    · dsimp only
      split
      · exact (h.sendStripe _ _).setQueue (t := t) (i := i) (by simp [queueFlds]) _
      · rw [peerQueue]
        split
        · exact h
        · exact ⟨h.regs, h.links, h.held⟩
    · dsimp only
      rw [peerFlush]
      split
      · exact (h.qCreditReturn _ _ _).peerSend _ _ _ _
      · exact h.qCreditReturn _ _ _

theorem Flushes.each {α : Type} (f : Work s → α → Work s) (hf : ∀ w'' x, Flushes w w'' → Flushes w (f w'' x)) (l : List α) : Flushes w (w'.each l f) :=
  Work.each_keeps (Flushes w) f hf l w' h

theorem Flushes.linkQueues (l : Nat) (f : Work s → Nat → Nat → Work s) (hf : ∀ w'' t i, Flushes w w'' → Flushes w (f w'' t i)) :
    Flushes w (linkQueues w' l f) := by
  exact h.each _ (fun v t hv => hv.each _ (fun v' j hv' => Flushes.ite (hf _ _ _ hv') hv') _) _

theorem Flushes.waitSend (top : Nat) (x : PeerWait) : Flushes w (waitSend w' top x) := by
  rw [Machine.waitSend]
  split
  · split
    · exact h
    · exact h.peerCredit _ _
  · split
    · exact h.peerSend _ _ _ _
    · exact h

end

theorem heldFlush_flushes (w : Work s) (l : Nat) : Flushes (w.updLink l (fun k => { k with held := [] })) (heldFlush w l) := by
  refine (Flushes.refl _).each _ (fun v p hv => ?_) _
  obtain ⟨gets, -, -, -, -, -, dev⟩ := copiesNow_onlyOut v l p
  refine ⟨hv.regs.of_get gets, ?_, hv.held.of_held (by rw [dev])⟩
  rw [dev]
  exact hv.links

theorem linkFlush_flushes (w : Work s) (l : Nat) : Flushes (w.updLink l (fun k => { k with held := [] })) (linkFlush w l) := by
  have flushed := heldFlush_flushes w l
  have waiting : Flushes (w.updLink l (fun k => { k with held := [] }))
      { heldFlush w l with dev := { (heldFlush w l).dev with peerWait := (heldFlush w l).dev.peerWait.filter (fun x => !waitsOn (heldFlush w l) l x) } } :=
    ⟨flushed.regs, flushed.links, flushed.held⟩
  rw [linkFlush]
  refine Flushes.each (Flushes.linkQueues (Flushes.each waiting _ ?_ _) l _ ?_) _ ?_ _
  · exact fun _ top hv => hv.each _ (fun _ x hv' => hv'.waitSend top x) _
  · exact fun _ t i hv => Flushes.ite hv (hv.peerCredit t i)
  · exact fun _ top hv => hv.linkQueues l _ (fun v t i hv' => Flushes.ite (hv'.peerSend t i top (qFill v t i)) hv')

theorem linkFlush_leaves (w : Work s) {l : Nat} (hl : l < 32) : (∀ f, LinkFld f → (linkFlush w l).get f = w.get f) ∧
    ((linkFlush w l).link l).phase = (w.link l).phase ∧ w.dev.held ⊆ (linkFlush w l).dev.held := by
  have flushed := linkFlush_flushes w l
  have phase : ((w.updLink l (fun k => { k with held := [] })).link l).phase = (w.link l).phase := by rw [link_updLink _ hl, if_pos rfl]
  generalize linkFlush w l = v at *
  obtain ⟨regs, links, held⟩ := flushed
  refine ⟨fun f hf => regs f (fun g ⟨lo, off⟩ => (key_ne_linkFld g lo off f hf).symm), ?_, held⟩
  rw [← phase, Work.link, links]
  rfl

/-! ## A larger set proposed (R369) -/

/-- A link of which this end may propose something: no register changes, no firing is added, and what is open stays open. -/
structure Proposes (w w' : Work s) (l : Nat) : Prop where
  gets : ∀ f, w'.get f = w.get f
  quiet : Quiet w → Quiet w'
  held : w'.dev.held = w.dev.held
  msgs : (w'.link l).msgs = (w.link l).msgs

theorem sendCopies_proposes (w : Work s) {l : Nat} (hl : l < 32) (p : Nat) : Proposes w (sendCopies w l p) l := by
  obtain ⟨gets, quiet, -, -, -, dev⟩ := sendCopies_link w hl p
  refine ⟨gets, quiet, by rw [dev], ?_⟩
  obtain ⟨-, eq⟩ | ⟨-, -, -, -, -, -, -, dev'⟩ := sendCopies_cases w l p
  · rw [eq, link_updLink _ hl, if_pos rfl]
  · rw [Work.link, dev']
    rfl

theorem Proposes.updLink {w w' : Work s} {l : Nat} (h : Proposes w w' l) (hl : l < 32) (u : LinkSt → LinkSt) (hu : ∀ k, (u k).msgs = k.msgs) :
    Proposes w (w'.updLink l u) l := by
  refine ⟨h.gets, h.quiet, h.held, ?_⟩
  rw [link_updLink _ hl, if_pos rfl, hu]
  exact h.msgs

theorem maybeRebond_proposes (w : Work s) {l : Nat} (hl : l < 32) : Proposes w (maybeRebond w l) l := by
  have none_ : Proposes w w l := ⟨fun _ => rfl, id, rfl, rfl⟩
  rw [maybeRebond]
  split
  · split
    · split
      · rw [sendLinkctl]
        refine Proposes.updLink (Proposes.updLink (sendCopies_proposes w hl _) hl _ ?_) hl _ ?_
        · exact fun _ => rfl
        · exact fun _ => rfl
      · exact none_
    · exact none_
  · exact none_

/-! ## A direction of a link switches (R360, R366, R367, R369) -/

/-- One direction with its new set. -/
def adopted (k : LinkSt) (tx : Bool) (set : Nat) : LinkSt :=
  if tx then { k with txSet := set, txNext := none, txDone := true } else { k with rxSet := set, rxNext := none, rxDone := true }

/-- A link of which one direction has switched. -/
def turned (w : Work s) (l : Nat) (tx : Bool) (set : Nat) : Work s :=
  if tx then (w.updLink l (fun k => adopted k tx set)).set (LINK_STATUS_SET l) set else w.updLink l (fun k => adopted k tx set)

theorem stripeSwitch_turns {w : Work s} {l set : Nat} {tx : Bool} (next_ : (if tx then (w.link l).txNext else (w.link l).rxNext) = some set) :
    stripeSwitch w l tx = switchDone (turned w l tx set) l := by
  rw [stripeSwitch, next_]
  rfl

theorem turned_link (w : Work s) {l : Nat} (hl : l < 32) (tx : Bool) (set : Nat) : (turned w l tx set).link l = adopted (w.link l) tx set := by
  have moved : (w.updLink l (fun k => adopted k tx set)).link l = adopted (w.link l) tx set := by
    rw [link_updLink _ hl, if_pos rfl]
  cases tx with
  | true => exact moved
  | false => exact moved

/-- A work in which one direction of link l has switched. -/
structure Turned (w : Work s) (l : Nat) (tx : Bool) (set : Nat) : Prop where
  link : w.link l = adopted (s.view.link l) tx set
  got : ∀ f : Fld, (tx = true → f.key ≠ (LINK_STATUS_SET l).key) → w.get f = s.get f
  shown : tx = true → w.get (LINK_STATUS_SET l) = set % 2 ^ (LINK_STATUS_SET l).width
  quiet : Quiet w
  held : w.dev.held = s.dev.held
  tl : w.tl = s.tl

theorem turned_turned {l : Nat} (hl : l < 32) (tx : Bool) (set : Nat) : Turned (turned (Work.start s) l tx set) l tx set := by
  have link := turned_link (Work.start s) hl tx set
  cases tx with
  | true => exact ⟨link, fun f hf => (Work.get_set_ne _ _ _ _ (hf rfl)).trans (Work.get_start s f), fun _ => Work.get_set_self _ _ _, quiet_start s, rfl, rfl⟩
  | false => exact ⟨link, fun f _ => Work.get_start s f, fun h => absurd h (by decide), quiet_start s, rfl, rfl⟩

theorem Turned.keeps {w : Work s} {l set : Nat} {tx : Bool} (h : Turned w l tx set) {fs : List Fld} (hf : tx = true → LINK_STATUS_SET l ∈ fs) : Keeps w fs :=
  fun f off => h.got f (fun on => off _ (hf on))

theorem Turned.firing {w : Work s} {l set : Nat} {tx : Bool} (h : Turned w l tx set) (src : Nat) :
    (⟨src, 0, false, w.now, w.ntLo⟩ : Firing) = s.firing src :=
  firing_eq w src h.tl (h.got NT_NOW (fun _ => by simp only [Fld.key, NT_NOW, LINK_STATUS_SET, hid, hidDev]; omega))

theorem adopted_phase (k : LinkSt) (tx : Bool) (set : Nat) : (adopted k tx set).phase = k.phase ∧
    (adopted k tx set).txSet = (if tx then set else k.txSet) ∧
    ((adopted k tx set).txDone = true ∧ (adopted k tx set).rxDone = true ↔ (if tx then k.rxDone else k.txDone) = true) := by
  cases tx with
  | true => exact ⟨rfl, rfl, fun h => h.2, fun h => ⟨rfl, h⟩⟩
  | false => exact ⟨rfl, rfl, fun h => h.1, fun h => ⟨h, rfl⟩⟩

theorem switchDone_waits {w : Work s} {l : Nat} (h : ¬((w.link l).txDone = true ∧ (w.link l).rxDone = true)) : switchDone w l = w := if_neg h

/-- A link whose directions have both switched. -/
def settled (w : Work s) (l : Nat) : Work s := w.updLink l (fun k => { k with phase := .steady, txDone := false, rxDone := false })

/-- A link that is UP, with neither end's mask of before and its control blocks numbered from the start. -/
def maskless (w : Work s) (l : Nat) : Work s :=
  ((settled w l).set (LINK_STATUS_STATE l) 2).updLink l (fun k => { k with own := 0, far := 0, csNext := 0, csLast := 15 })

/-- A link that has bonded, before what waits leaves. -/
def bonded (w : Work s) (l : Nat) : Work s := ((showFailed (maskless w l) l).set (LINK_EVT_UP l) 1).fire 507

/-- A link that has degraded, before it may propose a larger set. -/
def degraded (w : Work s) (l : Nat) : Work s :=
  dropMsgs (((((settled w l).set (LINK_STATUS_STATE l) 3).set (LINK_EVT_DEGRADE l) 1).inc (LINK_COUNT1_DEGRADES l)).fire 504) l

/-- A link that has bonded again, before it may propose a larger set. -/
def rebonded (w : Work s) (l : Nat) : Work s :=
  ((((settled w l).set (LINK_STATUS_STATE l) (if (w.link l).txSet = fullSet (settled w l) l then 2 else 3)).set (LINK_EVT_REBOND l) 1).inc
    (LINK_COUNT1_REBONDS l)).fire 505

section

variable {w : Work s} {l : Nat} (both : (w.link l).txDone = true ∧ (w.link l).rxDone = true)
include both

theorem switchDone_bond (phase : (w.link l).phase = .bond) : switchDone w l = linkFlush (bonded w l) l := by
  rw [switchDone]
  dsimp only
  rw [if_pos both, phase]
  rfl

theorem switchDone_degrade (phase : (w.link l).phase = .degrade) : switchDone w l = maybeRebond (degraded w l) l := by
  rw [switchDone]
  dsimp only
  rw [if_pos both, phase]
  rfl

theorem switchDone_rebond (phase : (w.link l).phase = .rebond) : switchDone w l = maybeRebond (rebonded w l) l := by
  rw [switchDone]
  dsimp only
  rw [if_pos both, phase]
  rfl

end

/-! ### What a switch shows -/

/-- A firing added to what a link's switch holds. -/
theorem held_fire {w v : Work s} (src : Nat) (held : v.dev.held = w.dev.held) (tl : v.tl = w.tl) (nt : v.get NT_NOW = w.get NT_NOW) :
    (v.fire src).dev.held = w.dev.held ++ [⟨src, 0, false, w.now, w.ntLo⟩] := by
  rw [fire_dev, Work.now, Work.ntLo, tl, nt, ← held]
  rfl

theorem bonded_shows (w : Work s) {l : Nat} (hl : l < 32) : (bonded w l).get (LINK_STATUS_STATE l) = 2 ∧ (bonded w l).get (LINK_EVT_UP l) = 1 ∧
    (bonded w l).get (LINK_STATUS_FAILED l) = 0 ∧ ((bonded w l).link l).phase = .steady ∧
    (bonded w l).dev.held = w.dev.held ++ [⟨507, 0, false, w.now, w.ntLo⟩] := by
  have link : (maskless w l).link l = { w.link l with
      phase := .steady, txDone := false, rxDone := false, own := 0, far := 0, csNext := 0, csLast := 15 } := by
    have kept : ((settled w l).set (LINK_STATUS_STATE l) 2).link l = { w.link l with phase := .steady, txDone := false, rxDone := false } := by
      show (settled w l).link l = _
      rw [settled, link_updLink _ hl, if_pos rfl]
    rw [maskless, link_updLink _ hl, if_pos rfl, kept]
  have failed : (showFailed (maskless w l) l).get (LINK_STATUS_FAILED l) = 0 := by
    rw [showFailed, link, Work.get_set_self, Nat.or_self]
    exact Nat.zero_mod _
  refine ⟨?_, ?_, ?_, ?_, held_fire (v := (showFailed (maskless w l) l).set (LINK_EVT_UP l) 1) 507 rfl rfl ?_⟩
  · rw [bonded, Work.get_fire, Work.get_set_ne _ _ _ _ (by simp only [Fld.key, LINK_STATUS_STATE, LINK_EVT_UP]; omega), showFailed,
      Work.get_set_ne _ _ _ _ (by simp only [Fld.key, LINK_STATUS_STATE, LINK_STATUS_FAILED]; omega), maskless, Work.get_updLink, Work.get_set_self]
    rfl
  · rw [bonded, Work.get_fire, Work.get_set_self]
    rfl
  · rw [bonded, Work.get_fire, Work.get_set_ne _ _ _ _ (by simp only [Fld.key, LINK_EVT_UP, LINK_STATUS_FAILED]; omega), failed]
  · exact congrArg LinkSt.phase link
  · rw [Work.get_set_ne _ _ _ _ (by simp only [Fld.key, NT_NOW, LINK_EVT_UP, hid, hidDev]; omega), showFailed,
      Work.get_set_ne _ _ _ _ (by simp only [Fld.key, NT_NOW, LINK_STATUS_FAILED, hid, hidDev]; omega), maskless, Work.get_updLink,
      Work.get_set_ne _ _ _ _ (by simp only [Fld.key, NT_NOW, LINK_STATUS_STATE, hid, hidDev]; omega)]
    rfl

theorem dropMsgs_get (w : Work s) (l : Nat) {f : Fld} (hf : f.key ≠ (LINK_COUNT0_MSG_DROP l).key) : (dropMsgs w l).get f = w.get f := by
  rw [dropMsgs, Work.get_updLink]
  exact Work.get_set_ne _ _ _ _ hf

theorem degraded_shows (w : Work s) {l : Nat} (hl : l < 32) : (degraded w l).get (LINK_STATUS_STATE l) = 3 ∧ (degraded w l).get (LINK_EVT_DEGRADE l) = 1 ∧
    (degraded w l).get (LINK_COUNT1_DEGRADES l) = min (2 ^ (LINK_COUNT1_DEGRADES l).width - 1) (w.get (LINK_COUNT1_DEGRADES l) + 1) ∧
    ((degraded w l).link l).msgs = [] ∧ (degraded w l).dev.held = w.dev.held ++ [⟨504, 0, false, w.now, w.ntLo⟩] := by
  have dropped : ∀ f : Fld, f.key ≠ (LINK_COUNT0_MSG_DROP l).key → (degraded w l).get f =
      (((((settled w l).set (LINK_STATUS_STATE l) 3).set (LINK_EVT_DEGRADE l) 1).inc (LINK_COUNT1_DEGRADES l)).fire 504).get f :=
    fun f hf => dropMsgs_get _ l hf
  refine ⟨?_, ?_, ?_, ?_, held_fire (v := (((settled w l).set (LINK_STATUS_STATE l) 3).set (LINK_EVT_DEGRADE l) 1).inc (LINK_COUNT1_DEGRADES l))
    504 rfl rfl ?_⟩
  · rw [dropped _ (by simp only [Fld.key, LINK_STATUS_STATE, LINK_COUNT0_MSG_DROP]; omega), Work.get_fire,
      Work.get_inc_ne _ _ _ (by simp only [Fld.key, LINK_STATUS_STATE, LINK_COUNT1_DEGRADES]; omega),
      Work.get_set_ne _ _ _ _ (by simp only [Fld.key, LINK_STATUS_STATE, LINK_EVT_DEGRADE]; omega), Work.get_set_self]
    rfl
  · rw [dropped _ (by simp only [Fld.key, LINK_EVT_DEGRADE, LINK_COUNT0_MSG_DROP]; omega), Work.get_fire,
      Work.get_inc_ne _ _ _ (by simp only [Fld.key, LINK_EVT_DEGRADE, LINK_COUNT1_DEGRADES]; omega), Work.get_set_self]
    rfl
  · rw [dropped _ (by simp only [Fld.key, LINK_COUNT1_DEGRADES, LINK_COUNT0_MSG_DROP]; omega), Work.get_fire, get_inc,
      Work.get_set_ne _ _ _ _ (by simp only [Fld.key, LINK_COUNT1_DEGRADES, LINK_EVT_DEGRADE]; omega),
      Work.get_set_ne _ _ _ _ (by simp only [Fld.key, LINK_COUNT1_DEGRADES, LINK_STATUS_STATE]; omega)]
    rfl
  · rw [degraded, dropMsgs, link_updLink _ hl, if_pos rfl]
  · rw [Work.get_inc_ne _ _ _ (by simp only [Fld.key, NT_NOW, LINK_COUNT1_DEGRADES, hid, hidDev]; omega),
      Work.get_set_ne _ _ _ _ (by simp only [Fld.key, NT_NOW, LINK_EVT_DEGRADE, hid, hidDev]; omega),
      Work.get_set_ne _ _ _ _ (by simp only [Fld.key, NT_NOW, LINK_STATUS_STATE, hid, hidDev]; omega)]
    rfl

theorem rebonded_shows (w : Work s) (l : Nat) :
    (rebonded w l).get (LINK_STATUS_STATE l) = (if (w.link l).txSet = fullSet w l then 2 else 3) ∧ (rebonded w l).get (LINK_EVT_REBOND l) = 1 ∧
    (rebonded w l).get (LINK_COUNT1_REBONDS l) = min (2 ^ (LINK_COUNT1_REBONDS l).width - 1) (w.get (LINK_COUNT1_REBONDS l) + 1) ∧
    (rebonded w l).dev.held = w.dev.held ++ [⟨505, 0, false, w.now, w.ntLo⟩] := by
  refine ⟨?_, ?_, ?_, held_fire _ rfl rfl ?_⟩
  · rw [rebonded, Work.get_fire, Work.get_inc_ne _ _ _ (by simp only [Fld.key, LINK_STATUS_STATE, LINK_COUNT1_REBONDS]; omega),
      Work.get_set_ne _ _ _ _ (by simp only [Fld.key, LINK_STATUS_STATE, LINK_EVT_REBOND]; omega), Work.get_set_self]
    refine Nat.mod_eq_of_lt ?_
    show (if _ then 2 else 3) < 2 ^ 2
    split <;> decide
  · rw [rebonded, Work.get_fire, Work.get_inc_ne _ _ _ (by simp only [Fld.key, LINK_EVT_REBOND, LINK_COUNT1_REBONDS]; omega), Work.get_set_self]
    rfl
  · rw [rebonded, Work.get_fire, get_inc, Work.get_set_ne _ _ _ _ (by simp only [Fld.key, LINK_COUNT1_REBONDS, LINK_EVT_REBOND]; omega),
      Work.get_set_ne _ _ _ _ (by simp only [Fld.key, LINK_COUNT1_REBONDS, LINK_STATUS_STATE]; omega)]
    rfl
  · rw [Work.get_inc_ne _ _ _ (by simp only [Fld.key, NT_NOW, LINK_COUNT1_REBONDS, hid, hidDev]; omega),
      Work.get_set_ne _ _ _ _ (by simp only [Fld.key, NT_NOW, LINK_EVT_REBOND, hid, hidDev]; omega),
      Work.get_set_ne _ _ _ _ (by simp only [Fld.key, NT_NOW, LINK_STATUS_STATE, hid, hidDev]; omega)]
    rfl

/-! ### The obligation -/

theorem finish_dev (w : Work s) : w.finish.dev = w.dev := rfl

theorem finish_link (w : Work s) (l : Nat) : w.finish.view.link l = w.link l := rfl

section

variable {w : Work s} {l : Fin 32} {set : Nat} {tx : Bool} (hs : s.wf = true) (done : Turned w l tx set)
include hs done

theorem adopts (first : (if tx then (s.view.link l).rxDone else (s.view.link l).txDone) = false) : ∃ t, (switchDone w l).finish = t ∧
    t.view.link l = adopted (s.view.link l) tx set ∧ (tx = true → t.get (LINK_STATUS_SET l) = set % 2 ^ (LINK_STATUS_SET l).width) ∧
    t.dev.held = s.dev.held ∧ Frame s t (if tx then [LINK_STATUS_SET l] else []) := by
  obtain ⟨-, -, both⟩ := adopted_phase (s.view.link l) tx set
  rw [← done.link] at both
  refine ⟨_, rfl, ?_⟩
  rw [switchDone_waits (fun h => by rw [both.1 h] at first; exact absurd first (by decide))]
  refine ⟨done.link, fun h => (Work.finish_get _ _ hs).trans (done.shown h), done.held, frame_finish hs (done.keeps (fun h => ?_)) done.quiet⟩
  rw [if_pos h]
  exact List.mem_singleton_self _

variable (second : (if tx then (s.view.link l).rxDone else (s.view.link l).txDone) = true)
include second

theorem bonds (now : (s.view.link l).phase = .bond) : ∃ t, (switchDone w l).finish = t ∧ t.get (LINK_STATUS_STATE l) = 2 ∧ t.get (LINK_EVT_UP l) = 1 ∧
    t.get (LINK_STATUS_FAILED l) = 0 ∧ (t.view.link l).phase = .steady ∧ s.firing 507 ∈ t.dev.held := by
  obtain ⟨phase, -, both⟩ := adopted_phase (s.view.link l) tx set
  rw [← done.link] at phase both
  obtain ⟨state, up, failed, steady, fired⟩ := bonded_shows w l.isLt
  obtain ⟨regs, phase', held⟩ := linkFlush_leaves (bonded w l) l.isLt
  refine ⟨_, congrArg Work.finish (switchDone_bond (both.2 second) (phase.trans now)), ?_, ?_, ?_, ?_, ?_⟩
  · rw [Work.finish_get _ _ hs, regs _ (by simp only [LinkFld, LINK_STATUS_STATE]; omega), state]
  · rw [Work.finish_get _ _ hs, regs _ (by simp only [LinkFld, LINK_EVT_UP]; omega), up]
  · rw [Work.finish_get _ _ hs, regs _ (by simp only [LinkFld, LINK_STATUS_FAILED]; omega), failed]
  · rw [finish_link, phase', steady]
  · rw [finish_dev]
    refine held ?_
    rw [fired, done.firing]
    exact List.mem_append_right _ (List.mem_singleton_self _)

theorem degrades (now : (s.view.link l).phase = .degrade) : ∃ t, (switchDone w l).finish = t ∧ t.get (LINK_STATUS_STATE l) = 3 ∧
    t.get (LINK_EVT_DEGRADE l) = 1 ∧ Counted s t (LINK_COUNT1_DEGRADES l) ∧ (t.view.link l).msgs = [] ∧ Fires s t 504 ∧
    Frame s t [LINK_STATUS_SET l, LINK_STATUS_STATE l, LINK_EVT_DEGRADE l, LINK_COUNT1_DEGRADES l, LINK_COUNT0_MSG_DROP l] := by
  obtain ⟨phase, -, both⟩ := adopted_phase (s.view.link l) tx set
  rw [← done.link] at phase both
  obtain ⟨state, evt, counted, msgs, fired⟩ := degraded_shows w l.isLt
  obtain ⟨gets, quiet, held, msgs'⟩ := maybeRebond_proposes (degraded w l) l.isLt
  refine ⟨_, congrArg Work.finish (switchDone_degrade (both.2 second) (phase.trans now)), ?_, ?_, ?_, msgs'.trans msgs, ?_, frame_finish hs ((keeps_of_get (fun f _ => gets f)).2 ?_) (quiet done.quiet)⟩
  · rw [Work.finish_get _ _ hs, gets, state]
  · rw [Work.finish_get _ _ hs, gets, evt]
  · rw [Counted, Work.finish_get _ _ hs, gets, counted, done.got _ (fun _ => by simp only [Fld.key, LINK_COUNT1_DEGRADES, LINK_STATUS_SET]; omega)]
  · exact held.trans (fired.trans (by rw [done.held, done.firing]))
  · simp [degraded, dropMsgs, settled, done.keeps]

theorem rebonds (now : (s.view.link l).phase = .rebond) : ∃ t, (switchDone w l).finish = t ∧
    t.get (LINK_STATUS_STATE l) = (if (if tx then set else (s.view.link l).txSet) = fullSet s.view l then 2 else 3) ∧
    t.get (LINK_EVT_REBOND l) = 1 ∧ Counted s t (LINK_COUNT1_REBONDS l) ∧ Fires s t 505 ∧
    Frame s t [LINK_STATUS_SET l, LINK_STATUS_STATE l, LINK_EVT_REBOND l, LINK_COUNT1_REBONDS l] := by
  obtain ⟨phase, txSet, both⟩ := adopted_phase (s.view.link l) tx set
  rw [← done.link] at phase txSet both
  obtain ⟨state, evt, counted, fired⟩ := rebonded_shows w l
  obtain ⟨gets, quiet, held, -⟩ := maybeRebond_proposes (rebonded w l) l.isLt
  have full : fullSet w l = fullSet s.view l := by
    rw [fullSet, fullSet, linkWidth, linkWidth, done.got _ (fun _ => by simp only [Fld.key, LINK_CFG_WIDTH, LINK_STATUS_SET]; omega), Work.get_start]
  refine ⟨_, congrArg Work.finish (switchDone_rebond (both.2 second) (phase.trans now)), ?_, ?_, ?_, ?_, frame_finish hs ((keeps_of_get (fun f _ => gets f)).2 ?_) (quiet done.quiet)⟩
  · rw [Work.finish_get _ _ hs, gets, state, txSet, full]
  · rw [Work.finish_get _ _ hs, gets, evt]
  · rw [Counted, Work.finish_get _ _ hs, gets, counted, done.got _ (fun _ => by simp only [Fld.key, LINK_COUNT1_REBONDS, LINK_STATUS_SET]; omega)]
  · exact held.trans (fired.trans (by rw [done.held, done.firing]))
  · simp [rebonded, settled, done.keeps]

end

theorem stripeSwitches : Clause.StripeSwitches := by
  intro s hs l set k tx next_
  have run : exec (.stripeSwitch l tx) s = .next (switchDone (turned (Work.start s) l tx set) l).finish :=
    congrArg (fun w => Host.Outcome.next (Work.finish w)) (stripeSwitch_turns next_)
  have done := turned_turned (s := s) l.isLt tx set
  have answers : ∀ {P : State → Prop}, (∃ t, (switchDone (turned (Work.start s) l tx set) l).finish = t ∧ P t) → Answers (.stripeSwitch l tx) s P :=
    fun ⟨t, eq, p⟩ => ⟨t, eq ▸ run, p⟩
  exact ⟨fun first => answers (adopts hs done first), fun second => ⟨fun now => answers (bonds hs done second now),
    fun now => answers (degrades hs done second now), fun now => answers (rebonds hs done second now)⟩⟩

/-- Settles O39: training by what one accepted TRAIN block does at a link of one lane, and the switch by what both directions leave behind; no register
that the entries and credits of a bonded link write is one of a link. -/
theorem bonding : Obligations.Bonding := ⟨training, stripeSwitches⟩

end Sys2Proof.BondingProofs
end

section
/-! PROOFS. A flux line past the last one. FLUX.ROUTE of a state may name a line of more than three bits for a ball, whose CLIP_COUNT then
stands where the converter of the tile counts the frames it lost. What a frame of idle tiles does besides never lowers that count. -/

namespace Sys2Proof.FarLine

open Sys2Proof.Machine Sys2Proof.Effects Sys2Proof.SeqFacts Sys2Proof.Outsized Sys2Proof.FarRound Sys2Proof.BroadcastFacts

-- A kernel evaluation waits for every declaration before it: one at a time keeps the threads that wait, and their stacks, few.
set_option Elab.async false

variable {s : State}

/-! ## A count of tile 0 that only rises -/

/-- A tile of which no tone engine plays, no flux pulse is present, no window is open, and the acquisition unit and the clasps are as reset
leaves them. -/
structure Idle (x : Tile) : Prop where
  tone : x.tone = Tile.reset.tone
  cap : x.cap = CapUnit.reset
  win : x.win = Tile.reset.win
  clasps : x.clasps = Tile.reset.clasps
  flux : ∀ e, (vget x.flux Flux.reset e).pulse = none

/-- A work of idle tiles in a device that neither Storm holds nor its loader, whose count of frames lost at tile 0 has come to n. -/
structure Reached (n : Nat) (w : Work s) : Prop where
  least : n ≤ w.get (ADC_FIFO_LOST 0)
  most : w.get (ADC_FIFO_LOST 0) ≤ 0xFFFF
  unit_ : ∀ t < 32, w.get (CAP_STATE_STATE t) = 0
  free_ : w.get LOADER_STATE_STATE = 0 ∧ w.get THERM_STORM_TRIPPED = 0
  tiles : ∀ t, Idle (w.tile t)

/-- A register of the tiles, the DDR5 channels or the model's own that is neither that count nor an acquisition unit's state. -/
def Aside (g : Fld) : Prop := g.lo < 32 ∧ (0x10000000 ≤ g.addr ∨ (0x400000 ≤ g.addr ∧ g.addr < 0x500000)) ∧ (g.lo ≠ 0 ∨ (g.addr % 0x100 ≠ 0x0C ∧ g.addr % 0x100 ≠ 0) ∨ 2 ^ 40 ≤ g.addr)

theorem Aside.ne_lost {g : Fld} (h : Aside g) : (ADC_FIFO_LOST 0).key ≠ g.key := by
  obtain ⟨lo, far, apart⟩ := h
  simp only [Fld.key, ADC_FIFO_LOST, tileBase]
  omega

theorem Aside.ne_state {g : Fld} (h : Aside g) {t : Nat} (ht : t < 32) : (CAP_STATE_STATE t).key ≠ g.key := by
  obtain ⟨lo, far, apart⟩ := h
  simp only [Fld.key, CAP_STATE_STATE, tileBase]
  omega

theorem Aside.ne_free {g : Fld} (h : Aside g) : LOADER_STATE_STATE.key ≠ g.key ∧ THERM_STORM_TRIPPED.key ≠ g.key := by
  obtain ⟨lo, far, -⟩ := h
  simp only [Fld.key, LOADER_STATE_STATE, THERM_STORM_TRIPPED]
  omega

/-- A count of a tile is no register of the loader, nor Storm's latch. -/
theorem free_inc {w : Work s} {f : Fld} (lo : f.lo < 32) (far : 0x10000000 ≤ f.addr) (h : w.get LOADER_STATE_STATE = 0 ∧ w.get THERM_STORM_TRIPPED = 0) :
    (w.inc f).get LOADER_STATE_STATE = 0 ∧ (w.inc f).get THERM_STORM_TRIPPED = 0 := by
  rwa [Work.get_inc_ne, Work.get_inc_ne]
  all_goals
    simp only [Fld.key, LOADER_STATE_STATE, THERM_STORM_TRIPPED]
    omega

theorem get_eq_of_key (w : Work s) {f g : Fld} (key : f.key = g.key) (reset : f.reset = g.reset) : w.get f = w.get g := by
  rw [Work.get, Work.get, key, reset]

section

variable {n : Nat} {w : Work s} (h : Reached n w)
include h

theorem Reached.of_same {w' : Work s} (regs : ∀ f, w'.get f = w.get f) (tiles : w'.dev.tiles = w.dev.tiles) : Reached n w' := by
  obtain ⟨least, most, unit_, free_, idle⟩ := h
  refine ⟨by rwa [regs], by rwa [regs], fun t ht => by rw [regs, unit_ t ht], by rwa [regs, regs], fun t => ?_⟩
  rw [Work.tile, tiles]
  exact idle t

theorem Reached.set {g : Fld} (hg : Aside g) (v : Nat) : Reached n (w.set g v) := by
  obtain ⟨least, most, unit_, free_, idle⟩ := h
  refine ⟨?_, ?_, fun t ht => ?_, ?_, idle⟩
  · rwa [Work.get_set_ne _ _ _ _ hg.ne_lost]
  · rwa [Work.get_set_ne _ _ _ _ hg.ne_lost]
  · rw [Work.get_set_ne _ _ _ _ (hg.ne_state ht), unit_ t ht]
  · rwa [Work.get_set_ne _ _ _ _ hg.ne_free.1, Work.get_set_ne _ _ _ _ hg.ne_free.2]

/-- The count of a line that clips is that count, or one aside: it does not fall. -/
theorem Reached.clip (t e : Nat) : Reached n (w.inc (FLUX_CLIP_COUNT t e)) := by
  obtain ⟨least, most, unit_, free_, idle⟩ := h
  have state : ∀ u < 32, (w.inc (FLUX_CLIP_COUNT t e)).get (CAP_STATE_STATE u) = 0 := fun u hu => by
    rw [Work.get_inc_ne, unit_ u hu]
    simp only [Fld.key, CAP_STATE_STATE, FLUX_CLIP_COUNT, tileBase]
    omega
  have free := free_inc (f := FLUX_CLIP_COUNT t e) (by simp only [FLUX_CLIP_COUNT]; omega) (by simp only [FLUX_CLIP_COUNT, tileBase]; omega) free_
  by_cases key : (ADC_FIFO_LOST 0).key = (FLUX_CLIP_COUNT t e).key
  · have counted : (w.inc (FLUX_CLIP_COUNT t e)).get (ADC_FIFO_LOST 0) = min 0xFFFF (w.get (ADC_FIFO_LOST 0) + 1) := by
      rw [get_eq_of_key _ key rfl, get_inc, get_eq_of_key w key rfl]
      rfl
    exact ⟨by omega, by omega, state, free, idle⟩
  · have kept := Work.get_inc_ne w _ _ key
    exact ⟨by rwa [kept], by rwa [kept], state, free, idle⟩

theorem Reached.lost (small : n < 0xFFFF) : Reached (n + 1) (w.inc (ADC_FIFO_LOST 0)) := by
  obtain ⟨least, most, unit_, free_, idle⟩ := h
  have counted : (w.inc (ADC_FIFO_LOST 0)).get (ADC_FIFO_LOST 0) = min 0xFFFF (w.get (ADC_FIFO_LOST 0) + 1) := get_inc _ _
  refine ⟨by omega, by omega, fun t ht => ?_, free_inc (by decide) (by decide) free_, idle⟩
  rw [Work.get_inc_ne, unit_ t ht]
  simp only [Fld.key, CAP_STATE_STATE, ADC_FIFO_LOST, tileBase]
  omega

theorem Reached.lostAt (t : Nat) : Reached n (w.inc (ADC_FIFO_LOST t)) := by
  obtain ⟨least, most, unit_, free_, idle⟩ := h
  have state : ∀ u < 32, (w.inc (ADC_FIFO_LOST t)).get (CAP_STATE_STATE u) = 0 := fun u hu => by
    rw [Work.get_inc_ne, unit_ u hu]
    simp only [Fld.key, CAP_STATE_STATE, ADC_FIFO_LOST, tileBase]
    omega
  have free := free_inc (f := ADC_FIFO_LOST t) (by simp only [ADC_FIFO_LOST]; omega) (by simp only [ADC_FIFO_LOST, tileBase]; omega) free_
  by_cases same : t = 0
  · subst same
    have counted : (w.inc (ADC_FIFO_LOST 0)).get (ADC_FIFO_LOST 0) = min 0xFFFF (w.get (ADC_FIFO_LOST 0) + 1) := get_inc _ _
    exact ⟨by omega, by omega, state, free, idle⟩
  · have kept := Work.get_inc_ne w (ADC_FIFO_LOST t) (ADC_FIFO_LOST 0) (by simp only [Fld.key, ADC_FIFO_LOST, tileBase]; omega)
    exact ⟨by rwa [kept], by rwa [kept], state, free, idle⟩

theorem Reached.fire (src : Nat) : Reached n (w.fire src) := h.of_same (fun _ => rfl) rfl

theorem Reached.emit (o : Out) : Reached n (w.emit o) := h.of_same (fun _ => rfl) rfl

theorem Reached.updDdr (c : Nat) (u : DdrSt → DdrSt) : Reached n (w.updDdr c u) := h.of_same (fun _ => rfl) rfl

theorem Reached.updTile (t : Nat) {u : Tile → Tile} (hu : ∀ x, Idle x → Idle (u x)) : Reached n (w.updTile t u) := by
  obtain ⟨least, most, unit_, free_, idle⟩ := h
  refine ⟨least, most, unit_, free_, fun v => ?_⟩
  by_cases same : v = t
  · subst same
    by_cases hv : v < 32
    · rw [tile_updTile_self _ _ _ hv]
      exact hu _ (idle v)
    · rw [Work.updTile, Work.setTile, Work.tile, vset, dif_neg hv]
      exact idle v
  · rw [tile_updTile_ne _ _ _ _ same]
    exact idle v

theorem Reached.updFlux (t e : Nat) {u : Flux → Flux} (hu : ∀ x, x.pulse = none → (u x).pulse = none) : Reached n (w.updFlux t e u) := by
  refine h.updTile t (fun x ⟨tone, cap, win, clasps, flux⟩ => ⟨tone, cap, win, clasps, fun k => ?_⟩)
  show (vget (vset x.flux e _) Flux.reset k).pulse = none
  by_cases he : e < 8
  · rw [vget_vset _ _ _ _ _ he]
    split
    · exact hu _ (flux e)
    · exact flux k
  · rw [vset, dif_neg he]
    exact flux k

theorem Reached.updDac (t d : Nat) (u : Dac → Dac) : Reached n (w.updDac t d u) :=
  h.updTile t (fun _ ⟨tone, cap, win, clasps, flux⟩ => ⟨tone, cap, win, clasps, flux⟩)

theorem Reached.each {α : Type} (f : Work s → α → Work s) (hf : ∀ w x, Reached n w → Reached n (f w x)) (l : List α) : Reached n (w.each l f) :=
  Work.each_keeps (Reached n) f hf l w h

end

theorem Reached.ite {n : Nat} {a b : Work s} {p : Prop} [Decidable p] (ha : Reached n a) (hb : Reached n b) : Reached n (if p then a else b) := by
  split
  · exact ha
  · exact hb

/-! ## The frame that ends -/

theorem vget_replicate {α : Type} {m : Nat} (d : α) (i : Nat) : vget (Vector.replicate m d) d i = d := by
  rw [vget]
  split
  · exact Vector.getElem_replicate _
  · rfl

/-- What the engines of a tile fix of the frame that ends, and what its unit takes. -/
def tileFix (w : Work s) (t : Nat) : Work s :=
  let w := w.each (List.range 16) (fun w e => toneFrame w t e) |> fun w => capEnd w t
  fluxOut (w.each (List.range 8) (fun w e => fluxFrame w t e)) t (w.dev.ticks - 4)

theorem tilesFix_eq (w : Work s) : tilesFix w = w.each (List.range 32) tileFix := rfl

theorem dac_aside (t d : Nat) : Aside (DAC_CLIP_STICKY t d) ∧ Aside (DAC_CLIP_COUNT t d) ∧ Aside (DAC_CAL_RUNNING t d) := by
  simp only [Aside, DAC_CLIP_STICKY, DAC_CLIP_COUNT, DAC_CAL_RUNNING, tileBase]
  omega

theorem adc_aside (t : Nat) : Aside (ADC_PEAK t) ∧ Aside (ADC_OVR_STICKY t) ∧ Aside (ADC_OVR_COUNT t) ∧ Aside (ADC_FIFO_OVERRUN t) ∧
    Aside (ADC_FIFO_FILL_MAX t) ∧ Aside (ADC_CAL_RUNNING t) ∧ Aside (ADC_CAL_START t) := by
  simp only [Aside, ADC_PEAK, ADC_OVR_STICKY, ADC_OVR_COUNT, ADC_FIFO_OVERRUN, ADC_FIFO_FILL_MAX, ADC_CAL_RUNNING, ADC_CAL_START, tileBase, hid]
  omega

theorem last_aside (t e : Nat) : Aside (FLUX_LAST t e) := by
  simp only [Aside, FLUX_LAST, tileBase]
  omega

theorem mark_aside (m : Nat) : Aside (MARK_HIGH m) ∧ Aside NT_NOW := by
  simp only [Aside, MARK_HIGH, NT_NOW, hid, hidDev]
  omega

theorem debt_aside {c : Nat} (hc : c < 2) : Aside (DDR_DEBT_RANK0 c) ∧ Aside (DDR_DEBT_RANK1 c) ∧ Aside (DDR_REF_STAT_N_MAX c) := by
  simp only [Aside, DDR_DEBT_RANK0, DDR_DEBT_RANK1, DDR_REF_STAT_N_MAX]
  omega

theorem sticky_aside (t e : Nat) : Aside (FLUX_CLIP_STICKY t e) := by
  simp only [Aside, FLUX_CLIP_STICKY, tileBase]
  omega

section

variable {n : Nat} {w : Work s} (h : Reached n w)
include h

theorem Reached.tone (t e : Nat) : Reached n (toneFrame w t e) := by
  have still : w.tone t e = Tone.reset := by
    rw [Work.tone, (h.tiles t).tone]
    exact vget_replicate _ _
  rw [toneFrame, still]
  exact h

theorem Reached.shut (t k : Nat) : winFsel w t k = none := by
  have none_ : w.win t k = none := by
    rw [Work.win, (h.tiles t).win]
    exact vget_replicate _ _
  rw [winFsel, none_]

theorem Reached.updCap (t : Nat) {u : CapUnit → CapUnit} (hu : u CapUnit.reset = CapUnit.reset) : Reached n (w.updCap t u) := by
  refine h.updTile t (fun x ⟨tone, cap, win, clasps, flux⟩ => ⟨tone, ?_, win, clasps, flux⟩)
  rw [cap, hu]

theorem Reached.capEnd {t : Nat} (ht : t < 32) : Reached n (capEnd w t) := by
  have idle : capState w t = 0 := h.unit_ t ht
  have cap : w.cap t = CapUnit.reset := (h.tiles t).cap
  have tests : capTests w t = w := by
    have off : ∀ i, condOn w t i = false := fun i => by
      rw [condOn, capArmed, idle]
      rfl
    rw [capTests]
    dsimp only
    rw [off, off, off]
    exact if_pos (Or.inr rfl)
  have met : capMeets w t = w.updCap t (fun u => { u with future := u.future.filter (fun p => !decide (p.point.w ≤ w.now)) }) := by
    rw [capMeets, tests, cap]
    rfl
  have kept : Reached n (capMeets w t) := by
    rw [met]
    exact h.updCap t rfl
  have alive : (if capIsDead w t then addDead w t 1 else w) = w := if_neg (by rw [capIsDead, idle]; decide)
  rw [Machine.capEnd, alive]
  generalize capMeets w t = v at *
  have idle' : capState v t = 0 := kept.unit_ t ht
  have cap' : v.cap t = CapUnit.reset := (kept.tiles t).cap
  have waits : (if capReady v t then capRingFrame v t else if capState v t = RECORDING then capRecordFrame v t else v) = v := by
    rw [capReady, idle']
    rfl
  have moved : capMove v t = v := by
    rw [capMove, cap']
    rfl
  have none_ : (List.range 8).filterMap (fun k => (winFsel v t k).map (fun f => (k, f))) = [] :=
    List.filterMap_eq_nil_iff.2 (fun k _ => by rw [kept.shut t k]; rfl)
  rw [waits, moved, none_, cap']
  exact kept

/-! ## The flux lines -/

theorem Reached.fillFlux (t e m : Nat) : Reached n (fillFlux w t e m) := by
  rw [Machine.fillFlux]
  exact h.updFlux t e (fun _ hx => by exact hx)

theorem Reached.fluxSample (t e : Nat) (v : Int) : Reached n (fluxSample w t e v) := by
  rw [Machine.fluxSample]
  dsimp only
  exact Reached.ite ((h.updFlux t e (fun _ hx => by exact hx)).set (sticky_aside _ _) 1) (h.updFlux t e (fun _ hx => by exact hx))

theorem Reached.fluxFrame (t e : Nat) : Reached n (fluxFrame w t e) := by
  have none_ : (w.flux t e).pulse = none := (h.tiles t).flux e
  have goesOn : fluxEndIfOver w t e (w.now * 2 + 2) = w := by rw [fluxEndIfOver, none_]
  rw [Machine.fluxFrame, goesOn]
  refine Reached.ite ((h.fillFlux t e 2).updFlux t e (fun _ hx => by exact hx)) ?_
  have emptied := (h.fillFlux t e 2).updFlux t e (u := fun x => { x with part := [] }) (fun _ hx => by exact hx)
  exact emptied.each (fun w v => Machine.fluxSample w t e v) (fun _ v hv => hv.fluxSample t e v) _

theorem Reached.fluxLine (t : Nat) (u : Tile → Vector (List (List Int)) 8) : Reached n (w.updTile t (fun x => { x with fluxLine := u x })) :=
  h.updTile t (fun _ ⟨tone, cap, win, clasps, flux⟩ => ⟨tone, cap, win, clasps, flux⟩)

theorem Reached.fluxOut (t f : Nat) : Reached n (fluxOut w t f) := by
  rw [Machine.fluxOut]
  split
  · exact h.fluxLine t _
  · dsimp only
    have stuck : ∀ (ok : Nat → Bool), Reached n (w.each (List.range 8) (fun w e => if ok e then w.set (FLUX_CLIP_STICKY t e) 1 else w)) := fun ok =>
      h.each _ (fun _ e hv => Reached.ite (hv.set (sticky_aside _ _) 1) hv) _
    refine (stuck _).each _ (fun v b hv => ?_) _
    exact Reached.fluxLine (Reached.ite ((hv.set (sticky_aside _ _) 1).clip t _) hv) t _

theorem Reached.tileFix {t : Nat} (ht : t < 32) : Reached n (tileFix w t) := by
  have ended := (h.each _ (fun _ e hv => hv.tone t e) (List.range 16)).capEnd ht
  exact (ended.each _ (fun _ e hv => hv.fluxFrame t e) (List.range 8)).fluxOut t _

/-! ## The DACs sum -/

theorem Reached.dacCalFrame (t d frame : Nat) (zero : Bool) : Reached n (dacCalFrame w t d frame zero) := by
  obtain ⟨-, -, running⟩ := dac_aside t d
  rw [Machine.dacCalFrame]
  refine Reached.ite (Reached.ite ?_ (h.updDac t d _)) ((h.updDac t d _).set running 0)
  exact ((h.updDac t d _).updDac t d _).set running 1

theorem Reached.dacFrame (t d frame : Nat) : Reached n (dacFrame w t d frame) := by
  obtain ⟨sticky, count, -⟩ := dac_aside t d
  rw [Machine.dacFrame]
  refine Reached.ite (Reached.dacCalFrame (h.updDac t d _) t d frame true) ?_
  exact Reached.dacCalFrame (Reached.updDac (Reached.ite ((h.set sticky 1).set count _) h) t d _) t d frame _

theorem Reached.tilesSum : Reached n (tilesSum w) :=
  h.each _ (fun _ t hv => hv.each _ (fun _ d hv' => hv'.dacFrame t d _) _) _

/-! ## The frame that begins -/

end

/-- The largest code so far. -/
def peakKept (w : Work s) (t peak : Nat) : Work s := if w.get (ADC_PEAK t) < peak then w.set (ADC_PEAK t) (min peak 0xFFF) else w

/-- A frame with a sample beyond the range, kept and counted. -/
def ovrKept (w : Work s) (t : Nat) (beyond : Bool) : Work s :=
  if beyond then
    (if !w.on (ADC_OVR_STICKY t) then ((w.set (ADC_OVR_STICKY t) 1).inc (ADC_OVR_COUNT t)).fire (tileSrc t 7)
    else (w.set (ADC_OVR_STICKY t) 1).inc (ADC_OVR_COUNT t))
  else w

/-- A dropped frame, kept and counted. -/
def dropKept (w : Work s) (t : Nat) : Work s :=
  if !w.on (ADC_FIFO_OVERRUN t) then
    (((w.set (ADC_FIFO_OVERRUN t) 1).inc (ADC_FIFO_LOST t)).set (ADC_FIFO_FILL_MAX t) 2000).fire (tileSrc t 2)
  else ((w.set (ADC_FIFO_OVERRUN t) 1).inc (ADC_FIFO_LOST t)).set (ADC_FIFO_FILL_MAX t) 2000

theorem adcFrame_parts (w : Work s) (t : Nat) (raw : List Int) (drop : Bool) : ∃ (left : Nat) (adc : Tile → List AdcFrame) (peak : Nat) (beyond : Bool),
    adcFrame w t raw drop =
      if drop then dropKept (ovrKept (peakKept (w.updTile t (fun x => { x with taintLeft := left, adc := adc x })) t peak) t beyond) t
      else ovrKept (peakKept (w.updTile t (fun x => { x with taintLeft := left, adc := adc x })) t peak) t beyond :=
  ⟨_, _, _, _, rfl⟩

section

variable {n : Nat} {w : Work s} (h : Reached n w)
include h

/-- A frame of samples, or one that is dropped and counts as lost. -/
theorem Reached.adcFrame {m : Nat} (t : Nat) (raw : List Int) (drop : Bool)
    (lost : ∀ v : Work s, Reached n v → Reached m (v.inc (ADC_FIFO_LOST t))) : Reached (if drop then m else n) (adcFrame w t raw drop) := by
  obtain ⟨peak, ovr, ovrs, overrun, fill, -⟩ := adc_aside t
  obtain ⟨left, adc, high, beyond, eq⟩ := adcFrame_parts w t raw drop
  have entered : Reached n (w.updTile t (fun x => { x with taintLeft := left, adc := adc x })) :=
    h.updTile t (fun _ ⟨tone, cap, win, clasps, flux⟩ => ⟨tone, cap, win, clasps, flux⟩)
  have peaked : Reached n (peakKept (w.updTile t (fun x => { x with taintLeft := left, adc := adc x })) t high) := Reached.ite (entered.set peak _) entered
  have kept : Reached n (ovrKept (peakKept (w.updTile t (fun x => { x with taintLeft := left, adc := adc x })) t high) t beyond) :=
    Reached.ite (Reached.ite (Reached.fire ((peaked.set ovr 1).set ovrs _) _) ((peaked.set ovr 1).set ovrs _)) peaked
  rw [eq]
  cases drop with
  | true =>
    have counted := (lost _ (kept.set overrun 1)).set fill 2000
    rw [if_pos rfl, if_pos rfl]
    exact Reached.ite (counted.fire _) counted
  | false =>
    rw [if_neg Bool.false_ne_true, if_neg Bool.false_ne_true]
    exact kept

theorem Reached.fifoFill (t fill : Nat) : Reached n (fifoFill w t fill) := by
  obtain ⟨-, -, -, -, max_, -⟩ := adc_aside t
  exact Reached.ite (h.set max_ _) h

theorem Reached.tilePins (t : Nat) : Reached n (tilePins w t) := by
  have dacs : Reached n (dacPins w t) := by
    refine h.each _ (fun v d hv => ?_) _
    split
    · exact hv
    · exact hv.emit _
  refine Reached.ite h (dacs.each _ (fun v b hv => ?_) _)
  dsimp only
  split
  · exact Reached.ite (hv.set (last_aside t _) 0) hv
  · exact (hv.set (last_aside t _) _).emit _

theorem Reached.integrate (t k : Nat) : Reached n (integrate w t k) := by
  have none_ : w.win t k = none := by
    rw [Work.win, (h.tiles t).win]
    exact vget_replicate _ _
  rw [Machine.integrate, none_]
  exact h

theorem Reached.adcCalFrame (t : Nat) : Reached n (adcCalFrame w t) := by
  obtain ⟨-, -, -, -, -, running, start⟩ := adc_aside t
  exact Reached.ite h (Reached.ite ((h.set running 1).set start _) h)

theorem Reached.capBegin {t : Nat} (ht : t < 32) : Reached n (capBegin w t) := by
  have idle : capState w t = 0 := h.unit_ t ht
  have cap : w.cap t = CapUnit.reset := (h.tiles t).cap
  have waits : (if capReady w t then capFilled w t
      else if capState w t = NOSLOT ∧ slotFree w t (capClass w t) then capStart w t (capClass w t) else w) = w := by
    rw [capReady, idle]
    rfl
  rw [Machine.capBegin, waits, capDue, cap]
  show Reached n (w.updCap t (fun u => { u with garms := u.garms.filter (fun g => !decide (g.frame ≤ w.now)) }))
  exact h.updCap t rfl

theorem Reached.dropNone (t : Nat) : Reached n (dropNone t (w.clasp t 32).fill w) := by
  have empty : w.clasp t 32 = Clasp.reset := by
    rw [Work.clasp, (h.tiles t).clasps]
    exact vget_replicate _ _
  rw [empty]
  exact h

theorem Reached.forget (t : Nat) : Reached n (forget w t) :=
  h.updTile t (fun _ ⟨tone, cap, win, clasps, flux⟩ => ⟨tone, cap, win, clasps, flux⟩)

theorem Reached.tileBegin {m t : Nat} (ht : t < 32) (x : TileFrame) (lost : ∀ v : Work s, Reached n v → Reached m (v.inc (ADC_FIFO_LOST t))) :
    Reached (if x.drop then m else n) (tileBegin w t x) := by
  have pins := ((h.adcFrame t x.samples x.drop lost).fifoFill t x.fill).tilePins t
  exact ((((pins.each _ (fun _ k hv => hv.integrate t k) (List.range 8)).adcCalFrame t).capBegin ht).dropNone t).forget t

theorem Reached.clocksAdvance : Reached n (clocksAdvance w) :=
  (h.set (mark_aside 0).2 _).of_same (fun _ => rfl) rfl

theorem Reached.marked (ms : List (Nat × Nat)) : Reached n (withDev w { w.dev with marks := ms }) := h.of_same (fun _ => rfl) rfl

theorem Reached.marksFrame : Reached n (marksFrame w) := by
  rw [Machine.marksFrame]
  exact ((h.marked _).each _ (fun v m hv => Reached.ite hv ((hv.set (mark_aside m).1 _).emit _)) _).marked _

theorem Reached.ddrFrame {c : Nat} (hc : c < 2) : Reached n (ddrFrame w c) := by
  obtain ⟨rank0, rank1, most⟩ := debt_aside hc
  refine Reached.ite ?_ h
  exact (((h.updDdr c _).set rank0 _).set rank1 _).set most _

end

/-! ## The frame in which that line clips -/

/-- Ball 0 of tile 0 shows line 24, which takes engine 0 at nearly twice its value, and that engine stands at its largest one. -/
def clippedLine : State :=
  holding [(DEV_STATUS_PLL_LOCK, 1), (FLUX_ROUTE_BALL 0 0, 24), (FLUX_XT_M_LO 0 24 0, 0x7FFF)]
    (withTile 0 (fun x => { x with flux := vset x.flux 0 { Flux.reset with w := List.replicate 33 (2 ^ 23 - 1) } }))

/-- Tile 0 drops its frame. -/
def dropping : TileFrame := ⟨[], true, 0⟩

/-- What comes before the tiles' work in that frame. -/
def clipStart : Work clippedLine := writersDrain (beginHeld (Work.start clippedLine)) []

/-- The tiles one after the other: what tile 0 raises, the others keep. -/
theorem reached_tiles {m : Nat} {w : Work s} {f : Work s → Nat → Work s} (first : Reached m (f w 0))
    (others : ∀ v t, t < 32 → t ≠ 0 → Reached m v → Reached m (f v t)) :
    Reached m (w.each (List.range 32) f) := by
  have split : List.range 32 = 0 :: List.range' 1 31 := rfl
  rw [split, each_cons]
  have rest : ∀ l : List Nat, (∀ t ∈ l, t < 32 ∧ t ≠ 0) → ∀ v, Reached m v → Reached m (v.each l f) := by
    intro l
    induction l with
    | nil => exact fun _ _ hv => hv
    | cons t l ih =>
      intro within v hv
      obtain ⟨ht, hne⟩ := within t List.mem_cons_self
      exact ih (fun u hu => within u (List.mem_cons_of_mem _ hu)) _ (others v t ht hne hv)
  refine rest _ (fun t ht => ?_) _ first
  have bounds := List.mem_range'_1.1 ht
  omega

theorem idle_reset : Idle Tile.reset := ⟨rfl, rfl, rfl, rfl, fun e => by rw [show vget Tile.reset.flux Flux.reset e = Flux.reset from vget_replicate _ _]; rfl⟩

theorem clipStart_idle : ∀ t : Fin 32, (clipStart.tile t).tone = Tile.reset.tone ∧ (clipStart.tile t).cap = CapUnit.reset ∧
    (clipStart.tile t).win = Tile.reset.win ∧ (clipStart.tile t).clasps = Tile.reset.clasps ∧
    ∀ e : Fin 8, (vget (clipStart.tile t).flux Flux.reset e).pulse = none := by decide +kernel

theorem clipStart_reached : Reached 0 clipStart := by
  refine ⟨Nat.zero_le _, by decide +kernel, by decide +kernel, by decide +kernel, fun t => ?_⟩
  by_cases ht : t < 32
  · obtain ⟨tone, cap, win, clasps, flux⟩ := clipStart_idle ⟨t, ht⟩
    refine ⟨tone, cap, win, clasps, fun e => ?_⟩
    by_cases he : e < 8
    · exact flux ⟨e, he⟩
    · rw [vget, dif_neg he]
      rfl
  · rw [Work.tile, vget, dif_neg ht]
    exact idle_reset

theorem clipStart_clips : 1 ≤ (tileFix clipStart 0).get (ADC_FIFO_LOST 0) := by decide +kernel

/-- The engines' frame, in which line 24 clips. -/
theorem fixed_reached : Reached 1 (tilesFix clipStart) := by
  have first := clipStart_reached.tileFix (t := 0) (by decide)
  have clipped : Reached 1 (tileFix clipStart 0) := ⟨clipStart_clips, first.most, first.unit_, first.free_, first.tiles⟩
  rw [tilesFix_eq]
  exact reached_tiles clipped (fun _ t ht _ hv => hv.tileFix ht)

/-- A frame in which tile 0 drops its samples counts that, from any work of idle tiles on. -/
theorem begun_reached {n : Nat} {w : Work s} (h : Reached n w) (small : n < 0xFFFF) : Reached (n + 1) (beginOrHold w [dropping]) := by
  obtain ⟨loader, storm⟩ := h.free_
  have due : pointDue w = false := by
    rw [pointDue, ldState, loader]
    rfl
  rw [beginOrHold, due, if_neg Bool.false_ne_true, framesBegin, Work.on, storm, if_neg (by decide)]
  refine reached_tiles (h.tileBegin (t := 0) (by decide) dropping (fun _ hv => hv.lost small)) (fun v t ht later hv => ?_)
  have kept := hv.tileBegin ht ([dropping].getD t noInput) (fun _ hv' => hv'.lostAt t)
  rwa [ite_self] at kept

theorem clipped_frame : Reached 2 (frameTick (Work.start clippedLine) [dropping] []) := by
  have on : (Work.start clippedLine).on DEV_STATUS_PLL_LOCK = true := by decide +kernel
  have free : clipStart.on THERM_STORM_TRIPPED = false := by decide +kernel
  have begun := begun_reached fixed_reached.tilesSum.clocksAdvance (by decide)
  have ended := (begun.marksFrame.ddrFrame (c := 0) (by decide)).ddrFrame (c := 1) (by decide)
  rw [frameTick, on, Bool.not_true, if_neg Bool.false_ne_true]
  show Reached 2 (Machine.ddrFrame (Machine.ddrFrame (Machine.marksFrame (beginOrHold (Machine.clocksAdvance
    (if clipStart.on THERM_STORM_TRIPPED then clipStart else Machine.tilesSum (tilesFix clipStart))) [dropping])) 0) 1)
  rw [free, if_neg Bool.false_ne_true]
  exact ended

theorem not_converterFrames : ¬ Clause.ConverterFrames := by
  intro h
  have framed := h clippedLine (by unfold Running; decide +kernel) [dropping] [] 0 (by decide)
  obtain ⟨-, -, -, -, -, dropped, -⟩ := after_of_answers framed
  obtain ⟨-, counted, -⟩ := dropped rfl
  unfold Counted at counted
  rw [after_get (F := fun w => frameTick w [dropping] []) (by decide +kernel) rfl] at counted
  have twice := clipped_frame.least
  rw [counted] at twice
  exact absurd twice (by decide +kernel)

/-- Refutes O8: a frame in which such a line clips and the converter loses its samples counts the loss twice. -/
theorem not_frameTick : ¬ Obligations.FrameTick := fun ⟨_, _, h, _⟩ => not_converterFrames h

end Sys2Proof.FarLine
end
